-- ==== Sys2Proof/Word.lean ====
section
/-! DEFINITION. The word and byte types of the register space and of the memories (R4, R28). -/

namespace Sys2Proof

/-- A register word. -/
abbrev Word := BitVec 32

/-- A byte of a memory or of a packet. -/
abbrev Byte := BitVec 8

end Sys2Proof
end

