-- ==== Sys2Proof/Syntax.lean ====
section
/-! DEFINITION. The commands of the block: one constructor per row of spec/opcode_table.json, with its operands. -/

namespace Sys2Proof

/-- R39: a source of register accesses. -/
inductive Requester where
  | host
  | boot
  | jtag
  deriving DecidableEq, Repr

/-- Who made a register access and through which view (R27, R37). Only the host has the BAR2 view. -/
structure Access where
  rq   : Requester
  bar2 : Bool
  deriving DecidableEq, Repr

/-- The commands. Operands: `a` the access, `d` a die, `p` a page index or a port, `k` a package station number,
`v` the 32-bit word written, `off` a BAR offset; the rest is named in each row's meaning. -/
inductive Instr where
  /-- REGISTER_WRITE (R40). -/
  | registerWrite (a : Access) (off : Nat) (v : Word) (be : Nat)
  /-- FENCE_READ (R41). -/
  | fenceRead (a : Access) (d : Nat)
  /-- ACCESS_TIMEOUT (R535). -/
  | accessTimeout (a : Access) (off : Nat) (write : Bool)
  /-- LOCKUP (R535). -/
  | lockup (d : Nat)
  /-- PAGE_SRST (R34). -/
  | pageSrst (a : Access) (d : Nat) (p : Nat) (v : Word)
  /-- PAGE_ENABLE (R34). -/
  | pageEnable (a : Access) (d : Nat) (p : Nat) (v : Word)
  /-- FENCE_REQ (R494). -/
  | fenceReq (a : Access) (d : Nat) (p : Nat) (v : Word)
  /-- UNFENCE (R493). -/
  | unfence (a : Access) (d : Nat) (p : Nat) (v : Word)
  /-- STATION_UNFENCE_APPLY (R493). -/
  | stationUnfenceApply (k : Nat)
  /-- PWR_REQ (R502). -/
  | pwrReq (a : Access) (d : Nat) (p : Nat) (v : Word)
  /-- EVT_FORCE (R491). -/
  | evtForce (a : Access) (d : Nat) (p : Nat) (v : Word)
  /-- FLT_FORCE (R491). -/
  | fltForce (a : Access) (d : Nat) (p : Nat) (v : Word)
  /-- ERR_PULSE_END (R497). -/
  | errPulseEnd
  /-- TXN_ARM (R50). -/
  | txnArm (a : Access) (d : Nat) (i : Nat) (v : Word)
  /-- TXN_CHECKS_DONE (R50). -/
  | txnChecksDone (d : Nat) (i : Nat)
  /-- TXN_ABORT (R50). -/
  | txnAbort (a : Access) (d : Nat) (i : Nat) (v : Word)
  /-- TXN_CLEAR (R48). -/
  | txnClear (a : Access) (d : Nat) (i : Nat) (v : Word)
  /-- TXN_COMMIT (R53). -/
  | txnCommit (d : Nat) (i : Nat)
  /-- XTXN_GO (R57). -/
  | xtxnGo (a : Access) (v : Word)
  /-- XTXN_ABORT (R57). -/
  | xtxnAbort (a : Access) (v : Word)
  /-- XTXN_PREPARE (R57). -/
  | xtxnPrepare (d : Nat)
  /-- XTXN_ANSWER (R57). -/
  | xtxnAnswer (d : Nat)
  /-- XTXN_COMMIT_MSG (R58). -/
  | xtxnCommitMsg (d : Nat)
  /-- XTXN_ABORT_MSG (R57). -/
  | xtxnAbortMsg (d : Nat)
  /-- XTXN_COMMIT_REPORT (R57). -/
  | xtxnCommitReport (d : Nat)
  /-- XTXN_TIMEOUT (R57). -/
  | xtxnTimeout
  /-- FRAME_SUBMIT (R73). -/
  | frameSubmit (a : Access) (v : Word)
  /-- PLANE_DESCRIPTOR_MSG (R73). -/
  | planeDescriptorMsg (slot : Nat) (k : Nat)
  /-- RES_DECLARE (R74). -/
  | resDeclare (a : Access) (d : Nat) (v : Word)
  /-- RESURVEY (R77). -/
  | resurvey (a : Access) (d : Nat) (v : Word)
  /-- SURVEY_ASHLAR_START (R75). -/
  | surveyAshlarStart (d : Nat) (lane : Nat) (slot : Nat) (k : Nat)
  /-- SURVEY_ASHLAR_DONE (R112). -/
  | surveyAshlarDone (d : Nat) (lane : Nat)
  /-- FRAME_ADMITTED (R84). -/
  | frameAdmitted (slot : Nat)
  /-- FRAME_ARMED (R79). -/
  | frameArmed (slot : Nat)
  /-- FRAME_RETIRE (R94). -/
  | frameRetire (slot : Nat)
  /-- SPOILED_EXIT (R88). -/
  | spoiledExit (slot : Nat)
  /-- REPRINT (R91). -/
  | reprint (a : Access) (v : Word)
  /-- FRAME_RELEASE (R93). -/
  | frameRelease (a : Access) (v : Word)
  /-- FRAME_ABORT (R95). -/
  | frameAbort (a : Access) (v : Word)
  /-- FREED_FSN_READ (R94). -/
  | freedFsnRead (a : Access)
  /-- SPOIL_LOG_READ (R89). -/
  | spoilLogRead (a : Access)
  /-- IMG_ASHLAR_START (R126). -/
  | imgAshlarStart (d : Nat) (lane : Nat)
  /-- IMG_ASHLAR_DONE (R113). -/
  | imgAshlarDone (d : Nat) (lane : Nat)
  /-- LANE_ROLE_CHANGE (R125). -/
  | laneRoleChange (d : Nat) (lane : Nat)
  /-- CODEC_LANE_UNFENCE (R125). -/
  | codecLaneUnfence (a : Access) (d : Nat) (v : Word)
  /-- CARRY_SURVEY_START (R119). -/
  | carrySurveyStart (d : Nat) (lane : Nat) (slot : Nat) (k : Nat)
  /-- CARRY_RECORD_DONE (R120). -/
  | carryRecordDone (d : Nat) (lane : Nat)
  /-- JOB_SUBMIT (R137). -/
  | jobSubmit (a : Access) (d : Nat) (bg : Bool) (v : Word)
  /-- JOB_START (R138). -/
  | jobStart (d : Nat) (lane : Nat)
  /-- JOB_ASHLAR_DONE (R143). -/
  | jobAshlarDone (d : Nat) (lane : Nat)
  /-- JOB_ABORT (R152). -/
  | jobAbort (a : Access) (d : Nat) (v : Word)
  /-- LANE_SYNTH_LOCK (R169). -/
  | laneSynthLock (d : Nat) (n : Nat)
  /-- LANE_SIGNAL_DETECT (R169). -/
  | laneSignalDetect (d : Nat) (n : Nat)
  /-- LANE_ADAPT_DONE (R169). -/
  | laneAdaptDone (d : Nat) (n : Nat) (ctle : Nat) (dfe : Nat)
  /-- LANE_BLOCK_LOCK (R169). -/
  | laneBlockLock (d : Nat) (n : Nat)
  /-- LANE_LOSS (R171). -/
  | laneLoss (d : Nat) (n : Nat) (why : Nat)
  /-- SYNC_HEADER_ERROR (R181). -/
  | syncHeaderError (d : Nat) (n : Nat)
  /-- ELASTIC_OVERFLOW (R165). -/
  | elasticOverflow (d : Nat) (n : Nat)
  /-- LANE_LOCK_HOLD_TIMEOUT (R172). -/
  | laneLockHoldTimeout (d : Nat) (n : Nat)
  /-- LANE_SYNTH_LOSS (R172). -/
  | laneSynthLoss (d : Nat) (n : Nat)
  /-- LANE_RETRAIN (R170). -/
  | laneRetrain (a : Access) (d : Nat) (n : Nat) (v : Word)
  /-- EYE_SCAN_GO (R178). -/
  | eyeScanGo (a : Access) (d : Nat) (n : Nat) (v : Word)
  /-- EYE_SCAN_STOP (R178). -/
  | eyeScanStop (a : Access) (d : Nat) (n : Nat) (v : Word)
  /-- EYE_POINT_DONE (R177). -/
  | eyePointDone (d : Nat) (n : Nat) (errs : Nat) (bits : Nat)
  /-- EYE_SCAN_RESUME (R179). -/
  | eyeScanResume (d : Nat) (n : Nat)
  /-- ALIGNMENT_MARKER (R187). -/
  | alignmentMarker (d : Nat) (n : Nat) (body : List Byte) (gap : Nat) (skew : Nat)
  /-- BOND_ALIGN_TIMEOUT (R187). -/
  | bondAlignTimeout (d : Nat)
  /-- RL_ASHLAR (R207). -/
  | rlAshlar (d : Nat) (pkt : List Byte)
  /-- RL_INDEX (R204). -/
  | rlIndex (d : Nat) (pkt : List Byte)
  /-- RL_DESCRIPTOR (R209). -/
  | rlDescriptor (d : Nat) (pkt : List Byte)
  /-- RL_RESYNC (R198). -/
  | rlResync (d : Nat) (pkt : List Byte)
  /-- RL_BAD_PACKET (R194). -/
  | rlBadPacket (d : Nat) (blocks : List Byte)
  /-- RL_PACKET_LANDED (R201). -/
  | rlPacketLanded (d : Nat)
  /-- RL_NAK_TIMER (R195). -/
  | rlNakTimer (d : Nat)
  /-- RL_INIT_ACK_TIMER (R198). -/
  | rlInitAckTimer (d : Nat)
  /-- RL_CREDIT_TIMER (R201). -/
  | rlCreditTimer (d : Nat)
  /-- RL_ROUTE_CHANGE (R203). -/
  | rlRouteChange (a : Access) (d : Nat) (v : Word)
  /-- STATION_LINE (R213). -/
  | stationLine (k : Nat)
  /-- BD_EDGE (R254). -/
  | bdEdge (k : Nat) (phase : Nat)
  /-- BD_MISSED (R254). -/
  | bdMissed (k : Nat)
  /-- FID_INDEX_EDGE (R255). -/
  | fidIndexEdge (k : Nat)
  /-- LGO_EDGE (R256). -/
  | lgoEdge (k : Nat)
  /-- LED_STROBE (R263). -/
  | ledStrobe (k : Nat)
  /-- START_EVENT (R342). -/
  | startEvent (k : Nat)
  /-- RESUME_EVENT (R352). -/
  | resumeEvent (k : Nat)
  /-- HL_STATUS (R287). -/
  | hlStatus (k : Nat) (pkt : List Byte)
  /-- HL_ACK (R277). -/
  | hlAck (k : Nat) (pkt : List Byte)
  /-- HL_NAK (R277). -/
  | hlNak (k : Nat) (pkt : List Byte)
  /-- HL_CREDIT (R279). -/
  | hlCredit (k : Nat) (pkt : List Byte)
  /-- HL_BAD_PACKET (R277). -/
  | hlBadPacket (k : Nat) (pkt : List Byte)
  /-- HL_REPLAY_TIMER (R277). -/
  | hlReplayTimer (k : Nat)
  /-- HL_RESYNC_TIMER (R278). -/
  | hlResyncTimer (k : Nat)
  /-- HL_STATUS_TIMEOUT (R287). -/
  | hlStatusTimeout (k : Nat)
  /-- HEADCFG_SEND (R285). -/
  | headcfgSend (a : Access) (k : Nat) (v : Word)
  /-- TRIM_SET_SEND (R284). -/
  | trimSetSend (a : Access) (k : Nat) (v : Word)
  /-- ILK_FALL (R301). -/
  | ilkFall
  /-- HOK_FALL (R301). -/
  | hokFall (k : Nat)
  /-- PAPER_OUT (R301). -/
  | paperOut (k : Nat)
  /-- JAM (R301). -/
  | jam (k : Nat)
  /-- REARM (R303). -/
  | rearm (a : Access) (k : Nat) (v : Word)
  /-- SOFT_STATE_APPLY (R305). -/
  | softStateApply (k : Nat)
  /-- HEAD_BUCKET_TICK (R295). -/
  | headBucketTick (k : Nat)
  /-- CAL_LOAD (R314). -/
  | calLoad (a : Access) (d : Nat) (v : Word)
  /-- CAL_LOAD_END (R314). -/
  | calLoadEnd (d : Nat)
  /-- AGE_RESTORE (R316). -/
  | ageRestore (a : Access) (k : Nat) (v : Word)
  /-- AGE_SAVE (R316). -/
  | ageSave (a : Access) (k : Nat) (v : Word)
  /-- CKPT_NOW (R320). -/
  | ckptNow (a : Access) (k : Nat) (v : Word)
  /-- AGE_ACTION_END (R316). -/
  | ageActionEnd (k : Nat)
  /-- WEAR_CHECKPOINT (R320). -/
  | wearCheckpoint (k : Nat)
  /-- AGE_REFRESH (R319). -/
  | ageRefresh (k : Nat)
  /-- MARK_CAPTURE (R321). -/
  | markCapture (d : Nat) (m : Nat) (level : Bool × Nat)
  /-- MARK_CAPTURE_READ (R322). -/
  | markCaptureRead (a : Access) (d : Nat) (m : Nat)
  /-- AREG_HELD_STAGE (R325). -/
  | aregHeldStage (k : Nat)
  /-- ENCODER_STEP (R329). -/
  | encoderStep (d : Nat) (e : Nat) (la : Bool) (lb : Bool)
  /-- ENCODER_INDEX (R332). -/
  | encoderIndex (d : Nat) (e : Nat)
  /-- POS_ADJ (R332). -/
  | posAdj (a : Access) (d : Nat) (v : Word)
  /-- CUE_ARM (R337). -/
  | cueArm (a : Access) (d : Nat) (v : Word)
  /-- CUE_DISARM (R337). -/
  | cueDisarm (a : Access) (d : Nat) (v : Word)
  /-- CUE_UNFENCE (R337). -/
  | cueUnfence (a : Access) (d : Nat) (v : Word)
  /-- CUE_FIRE (R338). -/
  | cueFire (d : Nat) (n : Nat)
  /-- CUE_COMPLETE (R336). -/
  | cueComplete (d : Nat) (n : Nat)
  /-- PATH_ENABLE (R347). -/
  | pathEnable (a : Access) (p : Nat) (v : Word)
  /-- PATH_STOP (R348). -/
  | pathStop (a : Access) (p : Nat) (v : Word)
  /-- PATH_STOP_CAUSE (R348). -/
  | pathStopCause (p : Nat)
  /-- PATH_RESUME (R351). -/
  | pathResume (a : Access) (p : Nat) (v : Word)
  /-- PATH_CLEAR (R356). -/
  | pathClear (a : Access) (p : Nat) (v : Word)
  /-- PATH_BACKFEED_AUTO (R351). -/
  | pathBackfeedAuto (p : Nat)
  /-- PATH_STANDSTILL (R347). -/
  | pathStandstill (p : Nat)
  /-- RHO_BROADCAST (R350). -/
  | rhoBroadcast (p : Nat)
  /-- PURGE_FSN_READ (R355). -/
  | purgeFsnRead (a : Access)
  /-- STEP_GO (R362). -/
  | stepGo (a : Access) (d : Nat) (n : Nat) (v : Word)
  /-- STEP_STOP (R371). -/
  | stepStop (a : Access) (d : Nat) (n : Nat) (v : Word)
  /-- STEP_QSTOP (R371). -/
  | stepQstop (a : Access) (d : Nat) (n : Nat) (v : Word)
  /-- STEP_UNFENCE (R374). -/
  | stepUnfence (a : Access) (d : Nat) (n : Nat) (v : Word)
  /-- STEP_PROFILE_TICK (R365). -/
  | stepProfileTick (d : Nat) (n : Nat)
  /-- STEP_HOLD_DELAY (R372). -/
  | stepHoldDelay (d : Nat) (n : Nat)
  /-- STEP_HOLD_REACHED (R372). -/
  | stepHoldReached (d : Nat) (n : Nat)
  /-- FOC_PERIOD (R382). -/
  | focPeriod (d : Nat) (n : Nat) (ia : Nat) (ib : Nat) (ic : Nat)
  /-- HALL_TRANSITION (R384). -/
  | hallTransition (d : Nat) (n : Nat) (code : Nat)
  /-- CATCH_END (R387). -/
  | catchEnd (d : Nat) (n : Nat) (speed : Int) (theta : Nat) (vd : Int) (vq : Int)
  /-- ALIGN_END (R386). -/
  | alignEnd (d : Nat) (n : Nat)
  /-- BRAKE_TIMEOUT (R386). -/
  | brakeTimeout (d : Nat) (n : Nat)
  /-- FOC_UNFENCE (R493). -/
  | focUnfence (a : Access) (d : Nat) (n : Nat) (v : Word)
  /-- CHOPPER_SWITCH (R390). -/
  | chopperSwitch (d : Nat) (b : Nat) (v : Nat)
  /-- BUS_CLAMP (R391). -/
  | busClamp (d : Nat) (b : Nat) (v : Nat)
  /-- BUS_CLAMP_END (R391). -/
  | busClampEnd (d : Nat) (b : Nat) (v : Nat)
  /-- BUS_TRIP (R392). -/
  | busTrip (d : Nat) (b : Nat) (v : Nat)
  /-- BUS_UNDERVOLTAGE (R389). -/
  | busUndervoltage (d : Nat) (b : Nat) (v : Nat)
  /-- BUS_UNFENCE (R392). -/
  | busUnfence (a : Access) (d : Nat) (b : Nat) (v : Word)
  /-- CHOP_BAD_CLEAR (R391). -/
  | chopBadClear (a : Access) (d : Nat) (b : Nat) (v : Word)
  /-- LOOP_ENABLE (R417). -/
  | loopEnable (a : Access) (d : Nat) (v : Word)
  /-- LOOP_DISABLE (R420). -/
  | loopDisable (a : Access) (d : Nat) (v : Word)
  /-- LOOP_AUTO (R418). -/
  | loopAuto (a : Access) (d : Nat) (v : Word)
  /-- LOOP_MANUAL (R418). -/
  | loopManual (a : Access) (d : Nat) (v : Word)
  /-- LOOP_UNFENCE (R493). -/
  | loopUnfence (a : Access) (d : Nat) (v : Word)
  /-- LOOP_TICK (R399). -/
  | loopTick (d : Nat)
  /-- CFF_MESSAGE (R422). -/
  | cffMessage (d : Nat)
  /-- CFF_CANCEL (R422). -/
  | cffCancel (d : Nat)
  /-- ADC_CONVERSION (R424). -/
  | adcConversion (d : Nat) (ain : List Nat) (hvm : List Nat)
  /-- ZERO_CROSS (R425). -/
  | zeroCross (d : Nat)
  /-- ZERO_CROSS_LOST (R425). -/
  | zeroCrossLost (d : Nat)
  /-- GPIO_EDGE (R428). -/
  | gpioEdge (d : Nat) (g : Nat) (level : Bool)
  /-- GPIO_SET (R434). -/
  | gpioSet (a : Access) (d : Nat) (v : Word)
  /-- GPIO_CLR (R434). -/
  | gpioClr (a : Access) (d : Nat) (v : Word)
  /-- SPLICE_DETECT (R429). -/
  | spliceDetect (d : Nat)
  /-- ETH_FRAME_RECEIVE (R436). -/
  | ethFrameReceive (p : Nat) (frame : List Byte) (sound : Bool)
  /-- TX_KICK (R448). -/
  | txKick (a : Access) (p : Nat) (v : Word)
  /-- RX_KICK (R448). -/
  | rxKick (a : Access) (p : Nat) (v : Word)
  /-- ETH_LAUNCH (R449). -/
  | ethLaunch (p : Nat) (q : Nat)
  /-- ETH_FRAME_SENT (R448). -/
  | ethFrameSent (p : Nat) (q : Nat) (busErr : Bool)
  /-- SYNC_TIMEOUT (R450). -/
  | syncTimeout
  /-- TIME_INCR (R437). -/
  | timeIncr (a : Access) (v : Word)
  /-- TIME_ADJ (R438). -/
  | timeAdj (a : Access) (v : Word)
  /-- TIME_SET (R438). -/
  | timeSet (a : Access) (v : Word)
  /-- TIME_REFRESH_SEND (R441). -/
  | timeRefreshSend
  /-- TIME_REFRESH (R441). -/
  | timeRefresh (d : Nat)
  /-- TIME_REFRESH_MISS (R443). -/
  | timeRefreshMiss (d : Nat)
  /-- LT_LO_READ (R451). -/
  | ltLoRead (a : Access) (d : Nat)
  /-- FRC_LO_READ (R452). -/
  | frcLoRead (a : Access) (d : Nat)
  /-- MT_NS_READ (R452). -/
  | mtNsRead (a : Access)
  /-- POS_LO_READ (R357). -/
  | posLoRead (a : Access) (d : Nat) (c : Nat)
  /-- MEM_INIT (R455). -/
  | memInit (a : Access) (d : Nat) (v : Word)
  /-- MEM_TRAIN_DONE (R455). -/
  | memTrainDone (d : Nat) (ok : Bool)
  /-- BAR4_READ (R458). -/
  | bar4Read (off : Nat) (len : Nat) (ecc : Nat)
  /-- BAR4_WRITE (R458). -/
  | bar4Write (off : Nat) (bytes : List Byte) (en : List Bool) (ue : Bool)
  /-- SCRUB_READ (R463). -/
  | scrubRead (d : Nat) (res : Nat)
  /-- DMA_ENABLE (R464). -/
  | dmaEnable (a : Access) (d : Nat) (n : Nat) (v : Word)
  /-- DMA_KICK (R464). -/
  | dmaKick (a : Access) (d : Nat) (n : Nat) (v : Word)
  /-- DMA_ABORT (R477). -/
  | dmaAbort (a : Access) (d : Nat) (n : Nat) (v : Word)
  /-- DMA_UNFENCE (R493). -/
  | dmaUnfence (a : Access) (d : Nat) (n : Nat) (v : Word)
  /-- DMA_DESCRIPTOR_FETCH (R468). -/
  | dmaDescriptorFetch (d : Nat) (n : Nat) (busErr : Bool)
  /-- DMA_DESCRIPTOR_COMPLETE (R471). -/
  | dmaDescriptorComplete (d : Nat) (n : Nat) (hostErr : Bool) (wbErr : Bool)
  /-- DOMAIN_POWER_UP (R503). -/
  | domainPowerUp (d : Nat) (dom : Nat)
  /-- DOMAIN_POWER_DOWN (R503). -/
  | domainPowerDown (d : Nat) (dom : Nat)
  /-- DOMAIN_POWER_TIMEOUT (R524). -/
  | domainPowerTimeout (d : Nat) (dom : Nat)
  /-- RAIL_REQUEST (R510). -/
  | railRequest (a : Access) (v : Word)
  /-- RAIL_CLEAR (R508). -/
  | railClear (a : Access) (v : Word)
  /-- RAIL_SEQ_STEP (R508). -/
  | railSeqStep (mon : List Nat)
  /-- RAIL_PG_CHANGE (R508). -/
  | railPgChange (n : Nat) (level : Bool)
  /-- RAIL_QUALIFY_DONE (R508). -/
  | railQualifyDone (n : Nat)
  /-- RAIL_TIMEOUT (R508). -/
  | railTimeout (n : Nat)
  /-- RAIL_DOWN_TIMEOUT (R509). -/
  | railDownTimeout (n : Nat)
  /-- RAIL_MINOFF_END (R508). -/
  | railMinoffEnd (n : Nat)
  /-- VIN_TRIP (R512). -/
  | vinTrip (code : Nat)
  /-- VIN_RECOVER (R511). -/
  | vinRecover (code : Nat)
  /-- LOG_SNAP (R515). -/
  | logSnap (a : Access) (v : Word)
  /-- LOG_RECORD_WRITE (R515). -/
  | logRecordWrite
  /-- NV_WRITE (R517). -/
  | nvWrite (a : Access) (d : Nat) (off : Nat) (v : Word) (be : Nat)
  /-- TEMP_SAMPLE (R519). -/
  | tempSample (d : Nat) (raw : Int)
  /-- POWER_ON (R529). -/
  | powerOn
  /-- BROWN_OUT (R529). -/
  | brownOut
  /-- RESET_PIN (R529). -/
  | resetPin (ns : Nat)
  /-- SOFTWARE_RESET (R531). -/
  | softwareReset (a : Access) (d : Nat) (v : Word)
  /-- DIE_WATCHDOG_EXPIRE (R534). -/
  | dieWatchdogExpire (d : Nat)
  /-- PKG_WATCHDOG_EXPIRE (R534). -/
  | pkgWatchdogExpire
  /-- WATCHDOG_KICK (R534). -/
  | watchdogKick (a : Access) (d : Nat) (v : Word)
  /-- PKG_WATCHDOG_KICK (R534). -/
  | pkgWatchdogKick (a : Access) (v : Word)
  /-- CLOCK_FAILURE (R548). -/
  | clockFailure (d : Nat)
  /-- WARM_RESET_RELEASE (R532). -/
  | warmResetRelease (d : Nat)
  /-- STRAP_SAMPLE (R541). -/
  | strapSample (boot : Nat) (clkm : Nat) (prof : Nat) (legacy : Bool)
  /-- REFERENCE_CHECK (R536). -/
  | referenceCheck (d : Nat) (ok : Bool)
  /-- PLL_LOCK (R545). -/
  | pllLock (d : Nat) (p : Nat)
  /-- PLL_LOCK_LOSS (R547). -/
  | pllLockLoss (d : Nat) (p : Nat)
  /-- MORTAR_TRAINED (R536). -/
  | mortarTrained (d : Nat) (lat : Nat)
  /-- ISLAND_RELEASE (R538). -/
  | islandRelease (d : Nat) (isl : Nat)
  /-- CLOCK_GOOD_TIMEOUT (R538). -/
  | clockGoodTimeout (d : Nat) (isl : Nat)
  /-- PCIE_READY (R536). -/
  | pcieReady
  /-- BOOT_CHECK_PASS (R552). -/
  | bootCheckPass
  /-- BOOT_WRITE (R551). -/
  | bootWrite
  /-- BOOT_MASKED (R551). -/
  | bootMasked
  /-- BOOT_POLL (R551). -/
  | bootPoll
  /-- BOOT_POLL_TIMEOUT (R552). -/
  | bootPollTimeout
  /-- BOOT_TABLE (R551). -/
  | bootTable
  /-- BOOT_DELAY (R551). -/
  | bootDelay
  /-- BOOT_END (R552). -/
  | bootEnd
  /-- TAP_RESET (R554). -/
  | tapReset
  /-- JTAG_EXTEST (R556). -/
  | jtagExtest (d : Nat) (held : Bool)
  /-- JTAG_IDCODE (R555). -/
  | jtagIdcode (d : Nat)
  /-- JTAG_SAMPLE_PRELOAD (R555). -/
  | jtagSamplePreload (d : Nat)
  /-- JTAG_HIGHZ (R556). -/
  | jtagHighz (d : Nat) (held : Bool)
  /-- JTAG_CLAMP (R556). -/
  | jtagClamp (d : Nat) (held : Bool)
  /-- JTAG_BYPASS (R555). -/
  | jtagBypass (d : Nat) (code : Nat)
  /-- JTAG_DBG_RESET (R555). -/
  | jtagDbgReset (d : Nat)
  /-- JTAG_DBG_ACCESS (R555). -/
  | jtagDbgAccess (d : Nat) (off : Nat) (v : Word) (write : Bool)
  /-- FUSE_BURN (R553). -/
  | fuseBurn (a : Access) (v : Word)
  /-- FUSE_LOCK (R553). -/
  | fuseLock (a : Access) (v : Word)
  /-- INTERNAL_ERROR (R484). -/
  | internalError (d : Nat) (p : Nat) (src : Nat) (unit : Nat)
  /-- MORTAR_LINK_FENCED (R16). -/
  | mortarLinkFenced (d : Nat)
  /-- INPUT_DEASSERTED (R303). -/
  | inputDeasserted (which : Nat) (k : Nat)
  /-- CLOCK_FAILURE_WARM_RESET (R548). -/
  | clockFailureWarmReset (d : Nat)
  deriving DecidableEq, Repr

end Sys2Proof
end

