-- ==== Sys2Proof/Config.lean ====
section
/-! DEFINITION. What one implementation fixes or the spec leaves open: free values. No constant here has a body, so no
proof can see a value of it. -/

namespace Sys2Proof.Config

/-- A fresh open 32-bit value for each number of the counter `State.freeSeq` (log 3). -/
opaque freeValue : Nat → Word

/-- The hash of three bytes that a compressor lane chains candidates by (R142 gives the chain, not the hash; log 20). -/
opaque hashOf : (bytes : Nat) → Nat

/-- The symbols of a block at a level (R142 gives the most; log 20). -/
opaque blockSymbols : (level : Nat) → Nat

/-- The header bits of a dynamic block for its literals and matches (R142 does not give how the codes are chosen; log 20). -/
opaque dynamicHeader : (tokens : List (Nat × Nat)) → List Bool

/-- The rounding choices of the motor channels' rotations and square roots, as a function of the exact operands
(R380 to R384 fix the quantities, not their rounding; log 30). -/
opaque rotated : (op : Nat) → (args : List Int) → Int

end Sys2Proof.Config
end

