-- ==== Sys2Proof/Machine/Layout.lean ====
section
/-! DEFINITION. The register pages: which page lies where (R30, R31), the fields of every register with their
access types and reset values (R5, R10, R34 and the register table of each chapter), and one location per field. -/

namespace Sys2Proof

/-- The access types of R5. -/
inductive FieldAccess where
  | rw | ro | wo | w1c | w1s | rws
  deriving DecidableEq, Repr

/-- One field of a register: its bits, access type, whether it is privileged (R9), its reset value, and the least and
largest value that a write stores (a write outside stores the nearer bound, as the field's description says). -/
structure FieldD where
  lsb : Nat
  width : Nat
  acc : FieldAccess
  priv : Bool
  reset : Nat
  lo : Nat
  hi : Nat
  deriving DecidableEq, Repr

/-- One register or array of registers of a page: offset, stride and count of each index, whether only D0 has it, fields. -/
structure RegD where
  off : Nat
  s1 : Nat
  n1 : Nat
  s2 : Nat
  n2 : Nat
  d0Only : Bool
  fields : List FieldD
  deriving DecidableEq, Repr

/-- The kinds of page of R31. -/
inductive PageKind where
  | dieP | ctrlP | txnP | rstP | clkP | pwrP | seqP | thermP | nvsP | mortP | laneP | rlnkP | elnkP | timeP | memcP | dmaP | codecP | frameP | staP | stimP | shlP | sprotP | cueP | stepP | focP | busP | loopP | pioP | gpioP | legacyP
  deriving DecidableEq, Repr

/-- Where a field lies: the BAR0 offset of its word, its lowest bit and its width. -/
structure Loc where
  addr : Nat
  lsb : Nat
  width : Nat
  deriving DecidableEq, Repr

namespace Layout

/-- R30: the BAR0 offset of a register. -/
def addr (d p o : Nat) : Nat := d * 0x1000000 + p * 0x1000 + o

def rw (lsb width reset : Nat) : FieldD := ⟨lsb, width, .rw, false, reset, 0, 2 ^ width - 1⟩
def rwp (lsb width reset : Nat) : FieldD := ⟨lsb, width, .rw, true, reset, 0, 2 ^ width - 1⟩
def rwb (lsb width reset lo hi : Nat) : FieldD := ⟨lsb, width, .rw, false, reset, lo, hi⟩
def rwpb (lsb width reset lo hi : Nat) : FieldD := ⟨lsb, width, .rw, true, reset, lo, hi⟩
def ro (lsb width reset : Nat) : FieldD := ⟨lsb, width, .ro, false, reset, 0, 2 ^ width - 1⟩
def wo (lsb width : Nat) : FieldD := ⟨lsb, width, .wo, false, 0, 0, 2 ^ width - 1⟩
def wop (lsb width : Nat) : FieldD := ⟨lsb, width, .wo, true, 0, 0, 2 ^ width - 1⟩
def w1c (lsb width : Nat) : FieldD := ⟨lsb, width, .w1c, false, 0, 0, 2 ^ width - 1⟩
def w1cp (lsb width : Nat) : FieldD := ⟨lsb, width, .w1c, true, 0, 0, 2 ^ width - 1⟩
def rws (lsb width reset : Nat) : FieldD := ⟨lsb, width, .rws, false, reset, 0, 2 ^ width - 1⟩
def rwsb (lsb width reset lo hi : Nat) : FieldD := ⟨lsb, width, .rws, false, reset, lo, hi⟩
/-- A single register, on every die. -/
def one (off : Nat) (fs : List FieldD) : RegD := ⟨off, 0, 1, 0, 1, false, fs⟩
/-- A single register that only D0 has. -/
def oneD0 (off : Nat) (fs : List FieldD) : RegD := ⟨off, 0, 1, 0, 1, true, fs⟩
/-- An array of registers. -/
def arr (off s n : Nat) (fs : List FieldD) : RegD := ⟨off, s, n, 0, 1, false, fs⟩
def arrD0 (off s n : Nat) (fs : List FieldD) : RegD := ⟨off, s, n, 0, 1, true, fs⟩
/-- An array with two indexes. -/
def arr2 (off s1 n1 s2 n2 : Nat) (fs : List FieldD) : RegD := ⟨off, s1, n1, s2, n2, false, fs⟩

/-- The page header, R34. PAGE_ID, PAGE_CAP, PAGE_STAT and FLT_CLASS are computed views; see `Access`. -/
def header : List RegD := [
  one 0x000 [ro 0 8 0, ro 8 3 0, ro 16 8 1, ro 24 8 165],
  one 0x004 [ro 0 1 0, ro 1 1 0, ro 2 1 0, ro 3 1 0, ro 8 8 0, ro 16 16 0],
  one 0x008 [rwp 0 1 0, wop 1 1, wop 2 1, rwp 3 1 0, wop 4 1],
  one 0x00C [ro 0 2 0, ro 2 1 0, ro 3 1 0, ro 4 1 0, ro 5 2 0],
  one 0x010 [w1c 0 32],
  one 0x014 [rw 0 32 0],
  one 0x018 [wop 0 32],
  one 0x01C [w1cp 0 32],
  one 0x020 [wop 0 32],
  one 0x024 [ro 0 2 0],
  one 0x028 [ro 0 5 0, ro 5 2 0, w1cp 7 1, ro 8 24 0],
  one 0x02C [ro 0 32 0],
  one 0x030 [ro 0 5 0, ro 5 2 0, w1cp 7 1, ro 8 24 0],
  one 0x034 [ro 0 32 0],
  one 0x038 [rwp 0 32 0],
  one 0x03C [ro 0 32 0]]

/-- The CTRL page, R43, R498. -/
def ctrlRegs : List RegD := [
  one 0x040 [ro 0 32 0],
  oneD0 0x044 [ro 0 27 0, w1cp 31 1],
  oneD0 0x048 [rwp 0 16 0],
  oneD0 0x04C [ro 0 27 0, ro 27 3 0, ro 30 1 0, w1cp 31 1],
  oneD0 0x050 [ro 0 32 0],
  oneD0 0x080 [wop 0 1, wop 1 1],
  oneD0 0x084 [rwp 0 32 0],
  oneD0 0x088 [rwp 0 32 0],
  oneD0 0x08C [rwp 0 32 0],
  oneD0 0x090 [ro 0 3 0, ro 4 4 0, ro 8 3 0],
  oneD0 0x094 [ro 0 32 0],
  arr 0x400 0x4 128 [rwp 0 8 0, rwp 8 1 0, rwp 9 1 0, rwp 10 1 0],
  oneD0 0x100 [rwpb 0 2 2 1 3, rwpb 2 14 100 20 10000, rwp 16 1 0],
  oneD0 0x104 [rwp 0 1 0],
  oneD0 0x108 [ro 0 1 0, ro 1 1 0, rwp 16 16 0],
  oneD0 0x10C [ro 0 3 0, ro 8 8 0, ro 16 5 0, ro 22 2 0],
  oneD0 0x110 [ro 0 32 0],
  oneD0 0x114 [ro 0 3 0, ro 8 8 0, w1c 31 1]]

/-- The TXN page, R48. -/
def txnRegs : List RegD := [
  one 0x040 [wo 0 1, wo 1 1, wo 2 1, rw 8 3 0, rw 12 1 0],
  one 0x044 [rwb 0 9 0 0 256],
  one 0x048 [rw 0 32 0],
  one 0x04C [rw 0 32 0],
  one 0x050 [ro 0 3 0, ro 4 4 0, ro 8 9 0, ro 17 1 0, ro 18 1 0],
  one 0x054 [ro 0 32 0],
  one 0x058 [ro 0 32 0],
  arr 0x400 0xc 256 [rw 0 32 0],
  arr 0x404 0xc 256 [rw 0 32 0],
  arr 0x408 0xc 256 [rw 0 32 0]]

/-- The FRAME page, R96. (part 1) -/
def frameRegsA : List RegD := [
  oneD0 0x040 [rw 0 8 16, rw 8 8 4],
  oneD0 0x044 [wo 0 6],
  oneD0 0x048 [ro 0 6 0, ro 8 4 0, w1c 31 1],
  oneD0 0x04C [ro 0 7 64, ro 8 6 0],
  oneD0 0x050 [ro 0 32 0],
  oneD0 0x054 [rwp 3 29 0],
  oneD0 0x058 [rwp 0 7 0],
  oneD0 0x05C [rwpb 0 13 0 0 4096],
  oneD0 0x060 [ro 0 13 0, ro 16 13 0],
  oneD0 0x064 [rw 0 32 0],
  oneD0 0x068 [rw 0 32 0],
  oneD0 0x06C [rw 0 9 0, rw 15 1 0, wo 31 1],
  oneD0 0x070 [wo 0 32],
  oneD0 0x074 [wo 0 32],
  oneD0 0x078 [ro 0 4 0, ro 4 2 0, ro 8 6 0, w1c 31 1],
  arrD0 0x080 0x4 8 [ro 0 32 0],
  oneD0 0x0A0 [ro 0 32 0],
  oneD0 0x0A4 [ro 0 8 0],
  oneD0 0x0B0 [ro 0 32 0],
  oneD0 0x0B4 [ro 0 4 0, ro 4 4 0, ro 8 16 0, ro 24 1 0, ro 25 1 0, ro 31 1 0]]

/-- The FRAME page, R96. (part 2) -/
def frameRegsB : List RegD := [
  oneD0 0x0B8 [ro 0 5 0, rwp 8 8 0, w1c 31 1],
  oneD0 0x0C0 [rwp 0 32 0xffffffff],
  oneD0 0x0C4 [rwp 0 32 0],
  arr 0x100 0x8 2 [ro 0 32 0],
  arr 0x104 0x8 2 [ro 0 16 0, ro 16 16 0],
  one 0x110 [rw 0 32 0],
  one 0x114 [wo 0 17, wo 24 1, wo 25 1],
  one 0x118 [ro 0 16 0, ro 16 1 0, ro 20 4 0, w1c 31 1],
  one 0x11C [ro 0 32 0],
  one 0x120 [rwp 0 16 0, rwp 16 16 0]]

/-- The FRAME page, R96. -/
def frameRegs : List RegD := frameRegsA ++ frameRegsB

/-- The LEGACY page, R97. -/
def legacyRegs : List RegD := [
  one 0x040 [ro 0 1 0, ro 1 1 0, ro 2 1 0, ro 3 1 0, ro 4 4 0, ro 8 8 0, ro 16 8 0],
  one 0x044 [ro 0 32 0]]

/-- The CODEC page, R154. -/
def codecRegs : List RegD := [
  one 0x040 [rwp 0 1 0, rwpb 8 4 4 0 8, rwp 16 8 50],
  one 0x044 [ro 0 32 0xaa55],
  one 0x048 [ro 0 16 0],
  one 0x04C [ro 0 24 0],
  one 0x050 [ro 0 8 0, ro 8 8 0, ro 16 8 0],
  one 0x054 [wop 0 5, wop 31 1],
  one 0x060 [rw 0 7 0],
  one 0x064 [ro 0 7 0],
  one 0x068 [rw 0 7 0],
  one 0x06C [ro 0 7 0],
  one 0x070 [wo 0 32],
  one 0x074 [ro 0 32 0],
  one 0x080 [ro 0 32 0],
  one 0x084 [ro 0 32 0],
  one 0x088 [rwp 0 16 0, rwp 16 16 0],
  one 0x08C [rwp 0 16 0, rwp 16 16 0],
  arr 0x090 0x8 2 [rwp 6 26 0],
  arr 0x094 0x8 2 [rwp 0 7 0, rwp 31 1 0]]

/-- The LANE page, R180. -/
def laneRegs : List RegD := [
  one 0x040 [rwp 0 3 3, ro 4 2 0, rwp 8 1 0, rwp 9 1 0, rwp 12 1 0, rwp 13 1 0, rwp 16 1 0, rwp 17 1 0, rwp 24 1 0],
  one 0x044 [wop 0 1, wop 1 1, wop 2 1],
  one 0x048 [ro 0 3 0, ro 3 1 0, ro 4 1 0, ro 5 1 0, ro 8 6 0],
  one 0x04C [rwp 0 4 4, rwp 8 5 12, rwp 16 6 47],
  one 0x050 [ro 0 5 0, ro 8 6 0],
  one 0x054 [rwp 0 32 0],
  one 0x058 [rwp 0 16 0, rwp 16 16 0],
  one 0x05C [rwp 0 32 0],
  one 0x060 [rwpb 0 16 125 1 65535],
  one 0x064 [rwpb 0 16 1000 1 65535],
  one 0x080 [rwp 0 7 64, rwp 8 7 63, rwp 16 7 1],
  one 0x084 [rwp 0 7 65, rwp 8 7 63, rwp 16 7 1],
  one 0x088 [rwp 0 5 10, rwp 8 24 0],
  one 0x08C [rwp 3 29 0],
  one 0x090 [rwp 0 7 0],
  one 0x094 [ro 0 2 0, ro 2 2 0, ro 16 16 0]]

/-- The RLNK page, R211. -/
def rlnkRegs : List RegD := [
  one 0x040 [rwp 0 2 0, rwp 8 1 0],
  one 0x044 [rwp 0 1 0, rwp 4 3 0],
  one 0x048 [rwp 0 10 160, rwp 16 10 160],
  one 0x04C [rwp 0 10 88, rwp 16 10 88],
  one 0x050 [rwpb 0 6 16 1 63],
  one 0x054 [ro 0 2 0, ro 4 2 0, ro 8 6 0, ro 16 8 0],
  one 0x058 [ro 0 16 0, ro 16 1 0],
  one 0x05C [rwpb 0 8 16 1 255],
  one 0x060 [rwp 0 32 0],
  one 0x064 [rwp 0 16 0, rwp 16 16 0],
  one 0x068 [rwp 0 16 0, rwp 16 16 0],
  one 0x06C [rwp 0 16 0, rwp 16 16 0],
  one 0x070 [ro 0 4 0, ro 4 4 0, ro 8 8 0, w1c 31 1],
  one 0x074 [ro 0 32 0],
  one 0x078 [ro 0 16 0, ro 16 16 0],
  one 0x07C [rwp 0 32 0]]

/-- The STA page, R241. -/
def staRegs : List RegD := [
  one 0x040 [rwpb 0 2 2 0 2, rwp 4 1 0, rwpb 8 6 40 1 48],
  one 0x044 [rwpb 0 14 0x2000 1 8192],
  one 0x048 [rws 0 1 0, rws 1 1 0, rws 2 1 0, rws 3 1 0, rws 4 1 0, rws 5 1 0],
  one 0x04C [rwsb 0 2 0 0 2, rwpb 8 6 32 0 32],
  one 0x050 [ro 0 10 0, ro 16 6 0],
  arr 0x054 0x4 2 [rwp 0 7 0, rwp 8 7 0, rwp 16 7 0, rwp 24 1 0],
  arr 0x05C 0x4 2 [rwp 0 4 0, ro 8 1 0, ro 16 10 0],
  one 0x064 [ro 0 4 0],
  one 0x068 [ro 0 16 0, ro 31 1 0],
  one 0x06C [ro 0 32 0],
  one 0x070 [ro 0 32 0],
  one 0x074 [rwp 0 16 0, rwp 16 16 0],
  one 0x078 [ro 0 20 0, ro 28 2 0, w1c 31 1]]

/-- The STIM page, R269. (part 1) -/
def stimRegsA : List RegD := [
  one 0x040 [rwp 0 1 0, rwpb 4 2 0 0 2, rwp 8 1 0],
  one 0x044 [rws 0 24 0xbb80],
  one 0x048 [rws 0 32 0x58000],
  one 0x04C [rws 0 1 0, rws 1 1 0],
  one 0x050 [rwpb 0 8 16 1 255, rwpb 8 4 4 1 15, rwpb 16 8 16 1 255],
  one 0x054 [rwpb 0 4 3 1 15, rwp 8 5 0, rwp 16 16 256],
  one 0x058 [rwp 0 16 64],
  arr 0x060 0x4 8 [rwp 0 32 0],
  arr 0x080 0x4 8 [ro 0 32 0],
  one 0x0A0 [rwp 0 3 0, rwp 4 1 0],
  one 0x0A4 [rwp 0 24 1],
  one 0x0A8 [rwp 0 24 1],
  one 0x0AC [rwpb 0 24 0x7d00 32000 16777215],
  one 0x0B0 [rwp 0 24 0x1046b],
  one 0x0B4 [rws 0 16 0],
  one 0x0B8 [rwpb 0 8 20 8 255],
  one 0x0C0 [ro 0 2 0, ro 4 1 0, ro 5 1 0, ro 8 4 0],
  one 0x0C4 [ro 0 32 0],
  one 0x0C8 [ro 0 32 0],
  one 0x0CC [ro 0 28 0]]

/-- The STIM page, R269. (part 2) -/
def stimRegsB : List RegD := [
  one 0x0D0 [ro 0 32 0],
  one 0x0D4 [ro 0 32 0],
  one 0x0D8 [rwp 0 16 0],
  one 0x0DC [ro 0 16 0],
  one 0x0E0 [rwp 0 32 0],
  one 0x0E4 [rwp 0 16 0, rwp 16 16 0],
  one 0x0E8 [ro 0 32 0],
  one 0x0EC [rwp 0 16 0, rwp 16 15 0, w1c 31 1],
  one 0x0F0 [ro 0 24 0]]

/-- The STIM page, R269. -/
def stimRegs : List RegD := stimRegsA ++ stimRegsB

/-- The SHL page, R291. -/
def shlRegs : List RegD := [
  one 0x040 [rwpb 0 8 3 1 255, rwpb 8 8 16 1 255, rwp 16 1 1],
  one 0x044 [ro 0 2 0, ro 2 1 0, ro 3 1 0, ro 4 3 0, ro 8 8 0],
  one 0x048 [ro 0 16 0, ro 16 16 0],
  one 0x04C [ro 0 16 0, ro 16 8 0],
  one 0x050 [ro 0 16 0, ro 16 8 0],
  one 0x054 [ro 0 24 0],
  one 0x058 [ro 0 8 0, ro 8 8 0, ro 16 8 0, ro 24 8 0],
  one 0x05C [ro 0 32 0],
  one 0x060 [ro 0 16 0, ro 16 16 0],
  one 0x064 [ro 0 16 0, ro 16 16 0],
  one 0x068 [rwp 3 29 0],
  one 0x06C [rwp 0 7 0],
  one 0x070 [rwp 0 17 0, rwp 20 1 0, wop 31 1],
  one 0x074 [rwp 0 32 0],
  one 0x078 [rwpb 0 5 1 1 31, ro 30 1 1, wop 31 1],
  arr 0x080 0x4 16 [rwp 0 32 0],
  one 0x0C0 [rwp 0 16 0, rwp 16 16 0],
  one 0x0C4 [rwp 0 16 0, rwp 16 16 0],
  one 0x0C8 [rwp 0 32 0]]

/-- The SPROT page, R307. -/
def sprotRegs : List RegD := [
  one 0x040 [rwp 0 1 0, wop 1 1],
  one 0x044 [ro 0 1 0, ro 1 1 0, ro 2 1 0, ro 3 1 0, ro 4 1 0, ro 8 5 0, ro 16 1 0, ro 17 1 0],
  one 0x048 [rwp 0 5 0, rwp 5 1 0, rwp 6 1 0, rwp 8 5 0, rwp 13 1 0, rwp 14 1 0, rwp 16 8 1, rwpb 24 8 10 1 255],
  one 0x04C [rwp 0 16 0xf000, rwp 16 4 15],
  one 0x050 [rwp 0 20 0xf0000, rwp 24 4 15],
  one 0x054 [rwp 0 32 0xffffffff],
  one 0x058 [rwp 0 4 15],
  one 0x05C [rwp 0 16 1120, rwp 16 16 1360],
  one 0x060 [rwp 0 8 32, rwp 8 4 15],
  one 0x064 [ro 0 32 0],
  one 0x068 [rwp 0 16 0, rwp 16 16 0],
  one 0x06C [rwp 0 16 0, rwp 16 16 0],
  one 0x070 [ro 0 16 0, ro 16 2 0, w1c 31 1],
  one 0x074 [ro 0 32 0],
  one 0x078 [rw 0 16 0, rw 16 1 0],
  one 0x07C [ro 0 20 0]]

/-- The PIO page, R327, R432. (part 1) -/
def pioRegsA : List RegD := [
  arr 0x400 0x4 4 [rwpb 0 2 0 0 2, rwp 2 1 0, rwp 4 3 0, rwp 8 8 10, rwp 16 9 0, rwp 25 1 0],
  arr 0x410 0x4 4 [ro 0 5 0, ro 8 8 0, rwp 16 16 0],
  arr 0x420 0x8 4 [ro 0 32 0],
  arr 0x424 0x8 4 [ro 0 8 0],
  arr 0x440 0x4 4 [ro 0 24 0],
  arr 0x450 0x4 4 [ro 0 32 0],
  arr 0x460 0x20 2 [rwp 0 1 0, rwp 1 2 0, rwp 8 8 0, rwp 16 8 1, rwp 24 3 7],
  arr 0x464 0x20 2 [rwp 0 32 0],
  arr 0x468 0x20 2 [rwp 0 16 1, rwpb 16 16 1 1 65535],
  arr 0x46C 0x20 2 [rwp 2 18 0, rwpb 24 8 0 0 159],
  arr 0x470 0x20 2 [rwp 0 32 0],
  arr 0x474 0x20 2 [ro 0 16 0, ro 16 8 0],
  arr 0x478 0x20 2 [rwp 0 8 0, rwp 8 8 0, rwp 16 8 0],
  arr 0x47C 0x20 2 [rwp 0 16 640],
  arr 0x4A0 0x4 2 [rwp 0 32 0],
  arr 0x500 0x40 2 [rwp 0 1 0, wop 1 1, wop 2 1, wop 3 1, ro 8 1 0, ro 9 1 0, ro 10 1 0, ro 11 1 0],
  arr 0x504 0x40 2 [rwpb 0 8 60 1 255, rwp 8 8 6, rwp 16 5 16],
  arr 0x508 0x40 2 [rwp 1 31 0],
  arr 0x50C 0x40 2 [rwp 0 7 0],
  arr 0x510 0x40 2 [rwp 2 30 0]]

/-- The PIO page, R327, R432. (part 2) -/
def pioRegsB : List RegD := [
  arr 0x514 0x40 2 [rwp 0 7 0],
  arr 0x518 0x40 2 [ro 0 32 0],
  arr2 0x520 0x40 2 0x4 8 [rwp 0 32 0],
  one 0x580 [rwp 0 1 0, rwp 4 3 0, rwp 8 3 0, wop 31 1],
  one 0x584 [ro 0 1 0, ro 1 3 0, w1c 31 1],
  one 0x588 [rwp 1 31 0],
  one 0x58C [rwp 0 7 0],
  arr 0x080 0x4 16 [ro 0 12 0, rwpb 16 3 0 0 4, rwp 24 1 0],
  arr 0x100 0x8 4 [rwp 0 2 0, rwpb 8 8 100 1 255],
  arr 0x104 0x8 4 [ro 0 16 0, ro 16 1 0],
  one 0x120 [rwp 0 8 20],
  one 0x124 [ro 0 16 0, ro 16 1 0],
  arr 0x140 0x8 8 [rwp 0 1 0, rwp 16 12 4095],
  arr 0x144 0x8 8 [ro 0 16 0, ro 16 12 0]]

/-- The PIO page, R327, R432. -/
def pioRegs : List RegD := pioRegsA ++ pioRegsB

/-- The CUE page, R357. (part 1) -/
def cueRegsA : List RegD := [
  one 0x040 [wop 0 9, wop 16 1, wop 17 1, wop 18 1],
  one 0x044 [ro 0 9 0, ro 12 4 0, w1c 31 1],
  one 0x048 [rwp 0 16 0, rwp 16 16 0],
  one 0x04C [rwp 0 32 0],
  one 0x050 [wop 0 3, wop 31 1],
  arr 0x080 0x4 16 [ro 0 32 0],
  arr 0x0C0 0x4 16 [w1c 0 32],
  arr 0x100 0x4 16 [ro 0 32 0],
  arr 0x140 0x4 8 [rwp 0 3 0, rwp 4 2 0, rwp 6 1 0, rwp 7 1 0, rwpb 8 8 20 10 255],
  arr 0x160 0x8 8 [ro 0 32 0],
  arr 0x164 0x8 8 [ro 0 16 0],
  arr 0x1A0 0x4 8 [ro 0 32 0],
  arr 0x1C0 0x4 8 [rwp 0 16 0],
  arr 0x200 0x20 2 [rwp 0 1 0, rwp 1 1 0, rwp 4 3 0],
  arr 0x204 0x20 2 [rws 0 32 0],
  arr 0x208 0x20 2 [ro 0 32 0],
  arr 0x20C 0x20 2 [ro 0 24 0],
  arr 0x210 0x20 2 [ro 0 5 0, rwp 8 8 0],
  arrD0 0x300 0x40 2 [rwp 0 1 0, rwp 1 1 0, rwp 2 1 1, rwp 4 3 0, rwpb 8 8 0 0 159, rwp 16 3 0],
  arrD0 0x304 0x40 2 [rwp 0 32 0]]

/-- The CUE page, R357. (part 2) -/
def cueRegsB : List RegD := [
  arrD0 0x308 0x40 2 [rwp 0 16 100],
  arrD0 0x30C 0x40 2 [rwpb 0 16 0x2000 1 65535],
  arrD0 0x310 0x40 2 [wop 0 1, wop 1 1, wop 2 1],
  arrD0 0x314 0x40 2 [ro 0 3 0, ro 4 3 0, ro 16 16 0],
  arrD0 0x318 0x40 2 [ro 0 32 0],
  arrD0 0x31C 0x40 2 [ro 0 16 0],
  arrD0 0x320 0x40 2 [rwp 0 16 0, rwp 16 16 0],
  arrD0 0x324 0x40 2 [rwp 0 9 0, rwp 15 1 0],
  arrD0 0x328 0x40 2 [rwp 0 32 0],
  oneD0 0x3C0 [ro 0 32 0],
  oneD0 0x3C4 [ro 0 5 0, ro 8 1 0, w1c 31 1]]

/-- The CUE page, R357. -/
def cueRegs : List RegD := cueRegsA ++ cueRegsB

/-- The STEP page, R375. -/
def stepRegs : List RegD := [
  arr 0x100 0x40 8 [rwpb 0 8 20 10 255, rwp 8 8 40, rwp 16 8 40, rwp 24 1 0, rwp 25 1 0],
  arr 0x104 0x40 8 [rwp 0 1 0, rwp 8 16 10],
  arr 0x108 0x40 8 [rws 0 22 0x2710],
  arr 0x10C 0x40 8 [rws 0 32 0x186a0],
  arr 0x110 0x40 8 [rws 0 32 0x2710],
  arr 0x114 0x40 8 [rwpb 0 32 0xf4240 1 4294967295],
  arr 0x118 0x40 8 [rw 0 32 0],
  arr 0x11C 0x40 8 [wo 0 1, wo 1 1, wo 2 1, wop 3 1],
  arr 0x120 0x40 8 [rw 0 32 0],
  arr 0x124 0x40 8 [ro 0 23 0],
  arr 0x128 0x40 8 [ro 0 4 0, ro 4 1 0, ro 5 1 0, ro 6 1 0, ro 8 3 0],
  arr 0x12C 0x40 8 [rwp 0 10 0, rwp 16 10 0],
  arr 0x130 0x40 8 [rwpb 0 14 500 1 10000, rwp 16 14 100],
  arr 0x134 0x40 8 [rwp 0 16 50],
  arr 0x138 0x40 8 [rwpb 0 16 1000 1 65535],
  arr 0x13C 0x40 8 [rwp 0 16 0, rwp 16 16 0]]

/-- The FOC page, R394, R385. (part 1) -/
def focRegsA : List RegD := [
  arr 0x100 0x80 4 [rwpb 0 14 2500 2000 12500, rwp 16 8 40, rwpb 24 4 1 1 15, rwp 28 2 0],
  arr 0x104 0x80 4 [rwp 0 2 0, rwp 4 3 0, rwp 8 1 0, rwp 12 1 0, rwpb 16 8 0 0 159],
  arr 0x108 0x80 4 [rwpb 0 24 0x1000 1 16777215],
  arr 0x10C 0x80 4 [rwp 0 12 240],
  arr 0x110 0x80 4 [rws 0 16 0, rws 16 16 0],
  arr 0x114 0x80 4 [rwp 0 16 0x1000, rwp 16 16 0x1000],
  arr 0x118 0x80 4 [rwp 0 16 256, rwp 16 16 256],
  arr 0x11C 0x80 4 [rwp 0 16 0, rwp 16 16 0],
  arr 0x120 0x80 4 [rwp 0 32 0x3e80],
  arr 0x124 0x80 4 [rwp 0 24 0x3e80],
  arr 0x128 0x80 4 [rwpb 0 8 2 1 255, rwp 16 16 1000],
  arr 0x12C 0x80 4 [rwp 0 32 1600],
  arr 0x130 0x80 4 [rwp 0 32 0x12c0],
  arr 0x134 0x80 4 [rwp 0 16 0x2000, rwp 16 16 0x7000],
  arr 0x138 0x80 4 [rwp 0 16 0x1000, rwp 16 16 200],
  arr 0x13C 0x80 4 [rwp 0 24 1600],
  arr 0x140 0x80 4 [rwp 0 1 0, wop 1 1],
  arr 0x144 0x80 4 [ro 0 3 0, ro 4 1 0, ro 5 1 0, ro 6 1 0, ro 7 1 0, ro 8 3 0],
  arr 0x148 0x80 4 [ro 0 32 0],
  arr 0x14C 0x80 4 [ro 0 16 0, ro 16 16 0]]

/-- The FOC page, R394, R385. (part 2) -/
def focRegsB : List RegD := [
  arr 0x150 0x80 4 [ro 0 16 0, ro 16 16 0],
  arr 0x154 0x80 4 [rwp 0 16 0],
  arr 0x158 0x80 4 [rwp 0 16 0, rwp 16 16 0],
  arr2 0x400 0x40 4 0x4 16 [rwp 0 16 0, rwp 16 16 0]]

/-- The FOC page, R394, R385. -/
def focRegs : List RegD := focRegsA ++ focRegsB

/-- The BUS page, R396. -/
def busRegs : List RegD := [
  arr 0x100 0x40 4 [rwp 0 12 3584, rwp 16 12 3840],
  arr 0x104 0x40 4 [rwp 0 12 3328, rwp 16 12 3200, rwp 31 1 0],
  arr 0x108 0x40 4 [rwpb 0 16 200 1 65535, rwp 16 12 8],
  arr 0x10C 0x40 4 [rwp 0 12 0, rwp 16 12 64],
  arr 0x110 0x40 4 [rwp 0 1 0, wop 1 1, wop 2 1],
  arr 0x114 0x40 4 [ro 0 12 0, ro 12 1 0, ro 13 1 0, ro 14 1 0, ro 15 1 1, ro 16 1 0],
  arr 0x118 0x40 4 [rwp 0 16 0, rwp 16 16 0],
  arr 0x11C 0x40 4 [rwp 0 12 0]]

/-- The LOOP page, R430. -/
def loopRegs : List RegD := [
  one 0x040 [wop 0 8, wop 16 1, wop 17 1, wop 18 1, wop 19 1, wop 20 1],
  one 0x044 [ro 0 8 0, ro 8 4 0, w1c 31 1],
  one 0x048 [ro 0 7 0, ro 8 6 0],
  arr 0x050 0x4 5 [ro 0 32 0],
  arr 0x064 0x4 5 [ro 0 32 0],
  arr 0x078 0x4 5 [ro 0 32 0],
  one 0x08C [rwp 0 16 0],
  arr 0x090 0x4 2 [rwp 0 1 0, rwp 4 3 0],
  arr 0x098 0x4 2 [rwp 0 24 0],
  arr 0x0A0 0x8 8 [rwp 0 16 0, rwp 16 16 0xffff],
  arr 0x0A4 0x8 8 [rwp 0 32 0],
  one 0x0E0 [rwp 0 3 0],
  arr 0x0E4 0x4 8 [ro 0 16 0],
  one 0x104 [rwp 0 16 0],
  arr 0x400 0x4 160 [rws 0 16 0],
  arr 0x700 0x4 160 [rws 0 16 0],
  arr 0xA00 0x4 160 [ro 0 16 0, ro 16 16 0],
  arr2 0xD00 0x20 8 0x4 8 [rwp 0 32 0]]

/-- The GPIO page, R434. -/
def gpioRegs : List RegD := [
  one 0x040 [ro 0 32 0],
  one 0x044 [rw 0 32 0],
  one 0x048 [wo 0 32],
  one 0x04C [wo 0 32],
  one 0x050 [rwp 0 5 0, rwp 5 1 0, rwp 6 1 0, rwp 8 3 0],
  one 0x054 [ro 0 32 0],
  one 0x058 [ro 0 24 0],
  one 0x05C [ro 0 32 0],
  one 0x060 [rwp 0 16 0],
  arr 0x100 0x4 32 [rwp 0 2 0, rwp 2 1 0, rwpb 4 2 2 0 2, rwp 8 8 1, rwp 16 1 0, rwp 17 1 0]]

/-- The TIME page, R452. -/
def timeRegs : List RegD := [
  one 0x040 [ro 0 32 0],
  one 0x044 [ro 0 32 0],
  one 0x048 [ro 0 32 0],
  one 0x04C [ro 0 32 0],
  one 0x050 [ro 0 16 0, rwp 16 8 0, ro 24 8 0],
  one 0x054 [rwpb 0 16 10 1 65535, rwpb 16 4 4 1 15],
  one 0x058 [ro 0 16 0],
  one 0x05C [ro 0 32 0],
  one 0x060 [ro 0 32 0],
  oneD0 0x080 [ro 0 32 0],
  oneD0 0x084 [ro 0 32 0],
  oneD0 0x088 [ro 0 16 0],
  oneD0 0x08C [rwp 0 32 0],
  oneD0 0x090 [rwp 0 32 2],
  oneD0 0x094 [wop 0 32],
  oneD0 0x098 [rwp 0 32 0],
  oneD0 0x09C [rwp 0 32 0],
  oneD0 0x0A0 [rwp 0 16 0],
  oneD0 0x0A4 [wop 0 1]]

/-- The ELNK page, R453. (part 1) -/
def elnkRegsA : List RegD := [
  one 0x040 [rwpb 0 16 3000 1 65535],
  one 0x044 [ro 0 1 0],
  one 0x048 [ro 0 32 0],
  one 0x04C [ro 0 32 0],
  one 0x050 [ro 0 16 0],
  arr 0x100 0x100 2 [rwp 0 1 0, rwp 1 1 0, rwp 2 1 0],
  arr 0x104 0x100 2 [rwp 0 32 0],
  arr 0x108 0x100 2 [rwp 0 16 0],
  arr 0x10C 0x100 2 [rwp 0 16 0, rwp 16 16 0],
  arr 0x110 0x100 2 [rwp 0 16 1000],
  arr 0x114 0x100 2 [wo 0 3],
  arr 0x118 0x100 2 [wo 0 1],
  arr 0x120 0x100 2 [rwp 0 32 0],
  arr 0x124 0x100 2 [rwp 0 32 0],
  arr 0x128 0x100 2 [rwp 0 16 0, ro 16 16 0],
  arr2 0x140 0x100 2 0x10 8 [rwp 0 32 0],
  arr2 0x144 0x100 2 0x10 8 [rwp 0 32 0],
  arr2 0x148 0x100 2 0x10 8 [rwp 0 16 0, ro 16 16 0],
  arr 0x1C0 0x100 2 [rwp 0 32 0],
  arr 0x1C4 0x100 2 [rwp 0 16 0, rwp 16 16 0]]

/-- The ELNK page, R453. (part 2) -/
def elnkRegsB : List RegD := [
  arr 0x1C8 0x100 2 [rwp 0 32 0],
  arr 0x1CC 0x100 2 [rwp 0 16 0]]

/-- The ELNK page, R453. -/
def elnkRegs : List RegD := elnkRegsA ++ elnkRegsB

/-- The MEMC page, R478. -/
def memcRegs : List RegD := [
  one 0x040 [rwpb 0 3 0 0 4, rwpb 4 2 0 0 2, rwp 8 1 0],
  one 0x044 [wop 0 1],
  one 0x048 [ro 0 3 0, ro 8 8 0],
  oneD0 0x04C [rwp 0 9 0],
  one 0x050 [rwp 0 1 1, rwpb 8 8 24 1 255],
  one 0x054 [ro 0 16 0, w1c 16 1],
  one 0x058 [rwp 0 32 0],
  one 0x05C [rwp 0 16 0],
  one 0x060 [ro 5 27 0],
  one 0x064 [ro 0 7 0, ro 8 3 0, ro 12 2 0, w1c 31 1]]

/-- The DMA page, R480. -/
def dmaRegs : List RegD := [
  arr 0x100 0x40 8 [rw 5 27 0],
  arr 0x104 0x40 8 [rw 0 32 0],
  arr 0x108 0x40 8 [rwb 0 16 0 1 65535, rw 16 1 0],
  arr 0x10C 0x40 8 [rw 0 1 0, wo 1 1, wo 2 1, wop 3 1],
  arr 0x110 0x40 8 [rwpb 0 9 256 1 256, rwpb 16 8 16 1 255],
  arr 0x114 0x40 8 [ro 0 2 0, ro 8 3 0, ro 16 16 0],
  arr 0x118 0x40 8 [rwp 0 32 0],
  arr 0x11C 0x40 8 [rwp 0 16 0]]

/-- The DIE page, R499. -/
def dieRegs : List RegD := [
  one 0x100 [ro 0 32 0],
  oneD0 0x104 [rwp 0 8 0],
  oneD0 0x108 [ro 0 8 0, ro 8 1 0],
  one 0x10C [rwp 0 1 0],
  one 0x110 [rwp 0 16 0],
  arr 0x120 0x4 8 [ro 0 32 0]]

/-- The PWR page, R524. -/
def pwrRegs : List RegD := [
  one 0x040 [ro 0 28 0],
  one 0x044 [ro 0 14 0],
  one 0x048 [ro 0 14 0],
  one 0x04C [rwp 0 16 0]]

/-- The SEQ page, R525. -/
def seqRegs : List RegD := [
  one 0x040 [rwp 0 1 0, ro 1 1 0],
  one 0x044 [rwp 0 24 0],
  one 0x048 [ro 0 24 0],
  one 0x04C [ro 0 24 0],
  one 0x050 [wop 0 24],
  one 0x054 [ro 0 12 0, ro 16 1 0],
  one 0x058 [rwp 0 16 0],
  one 0x05C [rwpb 0 8 10 1 255],
  arr 0x100 0x20 24 [rwp 0 24 0, rwp 24 1 0, rwp 25 3 0],
  arr 0x104 0x20 24 [rwpb 0 16 1000 1 65535, rwpb 16 16 100 1 10000],
  arr 0x108 0x20 24 [rwp 0 4 3, rwp 16 14 10],
  arr 0x10C 0x20 24 [rwp 0 12 0, rwp 16 12 4095],
  arr 0x110 0x20 24 [ro 0 3 0, ro 4 1 0, ro 5 1 0, ro 8 4 0, ro 16 12 0]]

/-- The THERM page, R526. -/
def thermRegs : List RegD := [
  one 0x040 [ro 0 16 0, ro 16 16 0],
  one 0x044 [ro 0 2 0, ro 2 2 0, ro 4 1 0, ro 5 1 0, ro 6 1 0],
  one 0x048 [rwp 0 16 1520, rwp 16 16 1680],
  one 0x04C [rwp 0 8 48, rwpb 8 8 25 1 25],
  one 0x050 [rwp 0 16 0x8000],
  one 0x054 [rwp 0 16 0, rwp 16 16 0]]

/-- The NVS page, R527. -/
def nvsRegs : List RegD := [
  one 0x040 [rwp 0 1 0],
  one 0x044 [ro 0 1 0, ro 1 1 0],
  one 0x048 [rwp 0 16 0, rwp 16 16 0],
  one 0x04C [rwp 0 16 0],
  oneD0 0x050 [ro 0 10 0],
  oneD0 0x054 [ro 0 32 0],
  oneD0 0x058 [wop 0 1],
  oneD0 0x05C [ro 0 11 0, ro 16 11 0],
  oneD0 0x060 [rwp 0 16 0]]

/-- The RST page, R557. -/
def rstRegs : List RegD := [
  one 0x040 [wop 0 1, rwp 1 1 0, wop 8 8],
  one 0x044 [w1cp 0 9],
  one 0x048 [rwp 0 1 0, rwp 1 1 0, rwp 2 1 0],
  one 0x04C [ro 0 3 0, ro 4 2 0, ro 8 3 0, ro 12 1 0, ro 15 1 0],
  one 0x050 [rwp 0 1 0, rwp 1 1 0, rwpb 16 16 1000 1 65535],
  one 0x054 [wop 0 16],
  one 0x058 [ro 0 16 0],
  oneD0 0x060 [rwp 0 1 0, rwp 1 1 0, rwpb 16 16 0 1 65535],
  oneD0 0x064 [wop 0 16],
  one 0x070 [ro 0 3 0, ro 4 4 0, ro 8 24 0],
  one 0x074 [ro 0 1 0, ro 1 1 0],
  one 0x078 [wop 0 1, wop 1 1, wop 8 8],
  arr 0x080 0x4 8 [ro 0 32 0],
  one 0x0A0 [rwp 0 16 0],
  one 0x0A4 [ro 0 27 0, w1cp 31 1]]

/-- The CLK page, R558. -/
def clkRegs : List RegD := [
  one 0x040 [ro 0 1 0, ro 1 1 0],
  arr 0x044 0x4 4 [ro 0 2 0, rwp 8 8 0],
  arr 0x054 0x4 4 [rwpb 0 4 4 0 10],
  one 0x064 [ro 0 10 0],
  one 0x068 [rwp 0 16 0]]

/-- The block registers of a page, from offset 0x040. -/
def blockRegs : PageKind → List RegD
  | .dieP => dieRegs
  | .ctrlP => ctrlRegs
  | .txnP => txnRegs
  | .rstP => rstRegs
  | .clkP => clkRegs
  | .pwrP => pwrRegs
  | .seqP => seqRegs
  | .thermP => thermRegs
  | .nvsP => nvsRegs
  | .mortP => []
  | .laneP => laneRegs
  | .rlnkP => rlnkRegs
  | .elnkP => elnkRegs
  | .timeP => timeRegs
  | .memcP => memcRegs
  | .dmaP => dmaRegs
  | .codecP => codecRegs
  | .frameP => frameRegs
  | .staP => staRegs
  | .stimP => stimRegs
  | .shlP => shlRegs
  | .sprotP => sprotRegs
  | .cueP => cueRegs
  | .stepP => stepRegs
  | .focP => focRegs
  | .busP => busRegs
  | .loopP => loopRegs
  | .pioP => pioRegs
  | .gpioP => gpioRegs
  | .legacyP => legacyRegs

/-- R31: the kind of the page with index `p`, and its instance number within the kind (staging slot, lane, local station). -/
def pageKind (p : Nat) : Option (PageKind × Nat) :=
  if p = 0x00 then some (.dieP, 0) else if p = 0x01 then some (.ctrlP, 0)
  else if 0x02 ≤ p ∧ p ≤ 0x09 then some (.txnP, p - 2)
  else if 0x20 ≤ p ∧ p ≤ 0x2B then some (.laneP, p - 0x20)
  else if 0x50 ≤ p ∧ p ≤ 0x5B ∧ p % 8 < 4 then
    some (match p % 8 with | 0 => .staP | 1 => .stimP | 2 => .shlP | _ => .sprotP, (p - 0x50) / 8)
  else (([(0x10, .rstP), (0x11, .clkP), (0x12, .pwrP), (0x13, .seqP), (0x14, .thermP), (0x15, .nvsP), (0x18, .mortP), (0x30, .rlnkP), (0x31, .elnkP), (0x32, .timeP), (0x38, .memcP), (0x39, .dmaP), (0x40, .codecP), (0x48, .frameP), (0x60, .cueP), (0x68, .stepP), (0x69, .focP), (0x6A, .busP), (0x70, .loopP), (0x71, .pioP), (0x78, .gpioP), (0xFF, .legacyP)] : List (Nat × PageKind)).find? (fun e => e.1 == p)).map (fun e => (e.2, 0))

/-- Whether offset `o` is a word of the register or array `r`. -/
def hits (r : RegD) (o : Nat) : Bool :=
  decide (r.off ≤ o) &&
    (let e := o - r.off
     let i := if r.s1 = 0 then 0 else Nat.min (e / r.s1) (r.n1 - 1)
     let e' := e - i * r.s1
     let j := if r.s2 = 0 then 0 else e' / r.s2
     decide (j < r.n2) && decide (e' = j * r.s2))

/-- The register at offset `o` of a page of kind `k`, if the offset is assigned (R8). -/
def find (k : PageKind) (o : Nat) : Option RegD :=
  if o < 0x40 then header.find? (fun r => hits r o) else (blockRegs k).find? (fun r => hits r o)

/-- The reset value of a register's word with every strap low. -/
def fieldsReset (fs : List FieldD) : Nat := fs.foldl (fun acc f => acc + f.reset * 2 ^ f.lsb) 0

end Layout

/-! The location of every field: `R.<page>.<register>_<field>`, with the die, then the instance of the page (staging slot,
lane or local station), then the indexes of the register. -/
namespace R

namespace HDR
def PAGE_ID_INDEX (d p : Nat) : Loc := ⟨Layout.addr d p (0x000), 0, 8⟩
def PAGE_ID_DIE (d p : Nat) : Loc := ⟨Layout.addr d p (0x000), 8, 3⟩
def PAGE_ID_VERSION (d p : Nat) : Loc := ⟨Layout.addr d p (0x000), 16, 8⟩
def PAGE_ID_MAGIC (d p : Nat) : Loc := ⟨Layout.addr d p (0x000), 24, 8⟩
def PAGE_CAP_SHADOW (d p : Nat) : Loc := ⟨Layout.addr d p (0x004), 0, 1⟩
def PAGE_CAP_FENCE (d p : Nat) : Loc := ⟨Layout.addr d p (0x004), 1, 1⟩
def PAGE_CAP_POWER (d p : Nat) : Loc := ⟨Layout.addr d p (0x004), 2, 1⟩
def PAGE_CAP_TABLE (d p : Nat) : Loc := ⟨Layout.addr d p (0x004), 3, 1⟩
def PAGE_CAP_UNITS (d p : Nat) : Loc := ⟨Layout.addr d p (0x004), 8, 8⟩
def PAGE_CAP_BLOCK (d p : Nat) : Loc := ⟨Layout.addr d p (0x004), 16, 16⟩
def PAGE_CTL_EN (d p : Nat) : Loc := ⟨Layout.addr d p (0x008), 0, 1⟩
def PAGE_CTL_SRST (d p : Nat) : Loc := ⟨Layout.addr d p (0x008), 1, 1⟩
def PAGE_CTL_FENCE_REQ (d p : Nat) : Loc := ⟨Layout.addr d p (0x008), 2, 1⟩
def PAGE_CTL_PWR_REQ (d p : Nat) : Loc := ⟨Layout.addr d p (0x008), 3, 1⟩
def PAGE_CTL_UNFENCE (d p : Nat) : Loc := ⟨Layout.addr d p (0x008), 4, 1⟩
def PAGE_STAT_STATE (d p : Nat) : Loc := ⟨Layout.addr d p (0x00C), 0, 2⟩
def PAGE_STAT_FENCED (d p : Nat) : Loc := ⟨Layout.addr d p (0x00C), 2, 1⟩
def PAGE_STAT_BUSY (d p : Nat) : Loc := ⟨Layout.addr d p (0x00C), 3, 1⟩
def PAGE_STAT_CLK_GOOD (d p : Nat) : Loc := ⟨Layout.addr d p (0x00C), 4, 1⟩
def PAGE_STAT_PWR (d p : Nat) : Loc := ⟨Layout.addr d p (0x00C), 5, 2⟩
def EVT_STAT_EVT (d p : Nat) : Loc := ⟨Layout.addr d p (0x010), 0, 32⟩
def EVT_EN_EN (d p : Nat) : Loc := ⟨Layout.addr d p (0x014), 0, 32⟩
def EVT_FORCE_SET (d p : Nat) : Loc := ⟨Layout.addr d p (0x018), 0, 32⟩
def FLT_STAT_FLT (d p : Nat) : Loc := ⟨Layout.addr d p (0x01C), 0, 32⟩
def FLT_FORCE_SET (d p : Nat) : Loc := ⟨Layout.addr d p (0x020), 0, 32⟩
def FLT_CLASS_PEND (d p : Nat) : Loc := ⟨Layout.addr d p (0x024), 0, 2⟩
def FIRST_ERR0_SOURCE (d p : Nat) : Loc := ⟨Layout.addr d p (0x028), 0, 5⟩
def FIRST_ERR0_CLASS (d p : Nat) : Loc := ⟨Layout.addr d p (0x028), 5, 2⟩
def FIRST_ERR0_VALID (d p : Nat) : Loc := ⟨Layout.addr d p (0x028), 7, 1⟩
def FIRST_ERR0_ESN (d p : Nat) : Loc := ⟨Layout.addr d p (0x028), 8, 24⟩
def FIRST_ERR1_STIME (d p : Nat) : Loc := ⟨Layout.addr d p (0x02C), 0, 32⟩
def WORST_ERR0_SOURCE (d p : Nat) : Loc := ⟨Layout.addr d p (0x030), 0, 5⟩
def WORST_ERR0_CLASS (d p : Nat) : Loc := ⟨Layout.addr d p (0x030), 5, 2⟩
def WORST_ERR0_VALID (d p : Nat) : Loc := ⟨Layout.addr d p (0x030), 7, 1⟩
def WORST_ERR0_ESN (d p : Nat) : Loc := ⟨Layout.addr d p (0x030), 8, 24⟩
def WORST_ERR1_STIME (d p : Nat) : Loc := ⟨Layout.addr d p (0x034), 0, 32⟩
def ERR_COUNT_COUNT (d p : Nat) : Loc := ⟨Layout.addr d p (0x038), 0, 32⟩
def TXN_TAG_TSN (d p : Nat) : Loc := ⟨Layout.addr d p (0x03C), 0, 32⟩
end HDR

namespace CTRL
def FENCE_LANDED (d : Nat) : Loc := ⟨Layout.addr d 0x01 (0x040), 0, 32⟩
def PRIV_ADDR_ADDR (d : Nat) : Loc := ⟨Layout.addr d 0x01 (0x044), 0, 27⟩
def PRIV_ADDR_VALID (d : Nat) : Loc := ⟨Layout.addr d 0x01 (0x044), 31, 1⟩
def PRIV_COUNT_COUNT (d : Nat) : Loc := ⟨Layout.addr d 0x01 (0x048), 0, 16⟩
def ACC_ERR_ADDR (d : Nat) : Loc := ⟨Layout.addr d 0x01 (0x04C), 0, 27⟩
def ACC_ERR_KIND (d : Nat) : Loc := ⟨Layout.addr d 0x01 (0x04C), 27, 3⟩
def ACC_ERR_WRITE (d : Nat) : Loc := ⟨Layout.addr d 0x01 (0x04C), 30, 1⟩
def ACC_ERR_VALID (d : Nat) : Loc := ⟨Layout.addr d 0x01 (0x04C), 31, 1⟩
def TSN_LAST_TSN (d : Nat) : Loc := ⟨Layout.addr d 0x01 (0x050), 0, 32⟩
def XTXN_CTL_GO (d : Nat) : Loc := ⟨Layout.addr d 0x01 (0x080), 0, 1⟩
def XTXN_CTL_ABORT (d : Nat) : Loc := ⟨Layout.addr d 0x01 (0x080), 1, 1⟩
def XTXN_MAP_MAP (d : Nat) : Loc := ⟨Layout.addr d 0x01 (0x084), 0, 32⟩
def XTXN_TIME_LO_T (d : Nat) : Loc := ⟨Layout.addr d 0x01 (0x088), 0, 32⟩
def XTXN_TIME_HI_T (d : Nat) : Loc := ⟨Layout.addr d 0x01 (0x08C), 0, 32⟩
def XTXN_STAT_STATE (d : Nat) : Loc := ⟨Layout.addr d 0x01 (0x090), 0, 3⟩
def XTXN_STAT_REASON (d : Nat) : Loc := ⟨Layout.addr d 0x01 (0x090), 4, 4⟩
def XTXN_STAT_DIE (d : Nat) : Loc := ⟨Layout.addr d 0x01 (0x090), 8, 3⟩
def XTXN_TSN_TSN (d : Nat) : Loc := ⟨Layout.addr d 0x01 (0x094), 0, 32⟩
def EVT_SRC_PAGE (d j : Nat) : Loc := ⟨Layout.addr d 0x01 (0x400 + 0x4 * j), 0, 8⟩
def EVT_SRC_KIND (d j : Nat) : Loc := ⟨Layout.addr d 0x01 (0x400 + 0x4 * j), 8, 1⟩
def EVT_SRC_EN (d j : Nat) : Loc := ⟨Layout.addr d 0x01 (0x400 + 0x4 * j), 9, 1⟩
def EVT_SRC_PIN (d j : Nat) : Loc := ⟨Layout.addr d 0x01 (0x400 + 0x4 * j), 10, 1⟩
def ERR_CFG_CLASS (d : Nat) : Loc := ⟨Layout.addr d 0x01 (0x100), 0, 2⟩
def ERR_CFG_WIDTH (d : Nat) : Loc := ⟨Layout.addr d 0x01 (0x100), 2, 14⟩
def ERR_CFG_FORCE_QUIET (d : Nat) : Loc := ⟨Layout.addr d 0x01 (0x100), 16, 1⟩
def ERR_HOLD_HOLD (d : Nat) : Loc := ⟨Layout.addr d 0x01 (0x104), 0, 1⟩
def ERR_STAT_PULSE (d : Nat) : Loc := ⟨Layout.addr d 0x01 (0x108), 0, 1⟩
def ERR_STAT_PIN (d : Nat) : Loc := ⟨Layout.addr d 0x01 (0x108), 1, 1⟩
def ERR_STAT_PULSES (d : Nat) : Loc := ⟨Layout.addr d 0x01 (0x108), 16, 16⟩
def ERR_SRC0_DIE (d : Nat) : Loc := ⟨Layout.addr d 0x01 (0x10C), 0, 3⟩
def ERR_SRC0_PAGE (d : Nat) : Loc := ⟨Layout.addr d 0x01 (0x10C), 8, 8⟩
def ERR_SRC0_SOURCE (d : Nat) : Loc := ⟨Layout.addr d 0x01 (0x10C), 16, 5⟩
def ERR_SRC0_CLASS (d : Nat) : Loc := ⟨Layout.addr d 0x01 (0x10C), 22, 2⟩
def ERR_SRC1_ESN (d : Nat) : Loc := ⟨Layout.addr d 0x01 (0x110), 0, 32⟩
def UNF_REFUSE_DIE (d : Nat) : Loc := ⟨Layout.addr d 0x01 (0x114), 0, 3⟩
def UNF_REFUSE_PAGE (d : Nat) : Loc := ⟨Layout.addr d 0x01 (0x114), 8, 8⟩
def UNF_REFUSE_VALID (d : Nat) : Loc := ⟨Layout.addr d 0x01 (0x114), 31, 1⟩
end CTRL

namespace TXN
def TXS_CTL_ARM (d i : Nat) : Loc := ⟨Layout.addr d (0x02 + i) (0x040), 0, 1⟩
def TXS_CTL_ABORT (d i : Nat) : Loc := ⟨Layout.addr d (0x02 + i) (0x040), 1, 1⟩
def TXS_CTL_CLEAR (d i : Nat) : Loc := ⟨Layout.addr d (0x02 + i) (0x040), 2, 1⟩
def TXS_CTL_COND (d i : Nat) : Loc := ⟨Layout.addr d (0x02 + i) (0x040), 8, 3⟩
def TXS_CTL_STATION (d i : Nat) : Loc := ⟨Layout.addr d (0x02 + i) (0x040), 12, 1⟩
def TXS_COUNT_COUNT (d i : Nat) : Loc := ⟨Layout.addr d (0x02 + i) (0x044), 0, 9⟩
def TXS_ARG0_ARG (d i : Nat) : Loc := ⟨Layout.addr d (0x02 + i) (0x048), 0, 32⟩
def TXS_ARG1_ARG (d i : Nat) : Loc := ⟨Layout.addr d (0x02 + i) (0x04C), 0, 32⟩
def TXS_STAT_STATE (d i : Nat) : Loc := ⟨Layout.addr d (0x02 + i) (0x050), 0, 3⟩
def TXS_STAT_REASON (d i : Nat) : Loc := ⟨Layout.addr d (0x02 + i) (0x050), 4, 4⟩
def TXS_STAT_BAD (d i : Nat) : Loc := ⟨Layout.addr d (0x02 + i) (0x050), 8, 9⟩
def TXS_STAT_XDIE (d i : Nat) : Loc := ⟨Layout.addr d (0x02 + i) (0x050), 17, 1⟩
def TXS_STAT_VIEW (d i : Nat) : Loc := ⟨Layout.addr d (0x02 + i) (0x050), 18, 1⟩
def TXS_TSN_TSN (d i : Nat) : Loc := ⟨Layout.addr d (0x02 + i) (0x054), 0, 32⟩
def TXS_TIME_STIME (d i : Nat) : Loc := ⟨Layout.addr d (0x02 + i) (0x058), 0, 32⟩
def ENTRY_ADDR (d i j : Nat) : Loc := ⟨Layout.addr d (0x02 + i) (0x400 + 0xC * j), 0, 32⟩
def ENTRY_MASK (d i j : Nat) : Loc := ⟨Layout.addr d (0x02 + i) (0x404 + 0xC * j), 0, 32⟩
def ENTRY_DATA (d i j : Nat) : Loc := ⟨Layout.addr d (0x02 + i) (0x408 + 0xC * j), 0, 32⟩
end TXN

namespace FRAME
def ADM_DIST_DIST (d : Nat) : Loc := ⟨Layout.addr d 0x48 (0x040), 0, 8⟩
def ADM_DIST_STOP (d : Nat) : Loc := ⟨Layout.addr d 0x48 (0x040), 8, 8⟩
def Q_SUBMIT_SLOT (d : Nat) : Loc := ⟨Layout.addr d 0x48 (0x044), 0, 6⟩
def SUBMIT_STAT_SLOT (d : Nat) : Loc := ⟨Layout.addr d 0x48 (0x048), 0, 6⟩
def SUBMIT_STAT_REASON (d : Nat) : Loc := ⟨Layout.addr d 0x48 (0x048), 8, 4⟩
def SUBMIT_STAT_VALID (d : Nat) : Loc := ⟨Layout.addr d 0x48 (0x048), 31, 1⟩
def Q_LEVEL_FREE (d : Nat) : Loc := ⟨Layout.addr d 0x48 (0x04C), 0, 7⟩
def Q_LEVEL_NEXT (d : Nat) : Loc := ⟨Layout.addr d 0x48 (0x04C), 8, 6⟩
def LAST_FSN_FSN (d : Nat) : Loc := ⟨Layout.addr d 0x48 (0x050), 0, 32⟩
def RET_BASE_LO_ADDR (d : Nat) : Loc := ⟨Layout.addr d 0x48 (0x054), 3, 29⟩
def RET_BASE_HI_ADDR (d : Nat) : Loc := ⟨Layout.addr d 0x48 (0x058), 0, 7⟩
def RET_CFG_LIMIT (d : Nat) : Loc := ⟨Layout.addr d 0x48 (0x05C), 0, 13⟩
def RET_STAT_USED (d : Nat) : Loc := ⟨Layout.addr d 0x48 (0x060), 0, 13⟩
def RET_STAT_RESV (d : Nat) : Loc := ⟨Layout.addr d 0x48 (0x060), 16, 13⟩
def REPRINT_FSN_FSN (d : Nat) : Loc := ⟨Layout.addr d 0x48 (0x064), 0, 32⟩
def REPRINT_NEW_FSN (d : Nat) : Loc := ⟨Layout.addr d 0x48 (0x068), 0, 32⟩
def REPRINT_CTL_CUE (d : Nat) : Loc := ⟨Layout.addr d 0x48 (0x06C), 0, 9⟩
def REPRINT_CTL_CUE_OVR (d : Nat) : Loc := ⟨Layout.addr d 0x48 (0x06C), 15, 1⟩
def REPRINT_CTL_GO (d : Nat) : Loc := ⟨Layout.addr d 0x48 (0x06C), 31, 1⟩
def RELEASE_FSN (d : Nat) : Loc := ⟨Layout.addr d 0x48 (0x070), 0, 32⟩
def ABORT_FSN (d : Nat) : Loc := ⟨Layout.addr d 0x48 (0x074), 0, 32⟩
def CMD_STAT_RESULT (d : Nat) : Loc := ⟨Layout.addr d 0x48 (0x078), 0, 4⟩
def CMD_STAT_CMD (d : Nat) : Loc := ⟨Layout.addr d 0x48 (0x078), 4, 2⟩
def CMD_STAT_SLOT (d : Nat) : Loc := ⟨Layout.addr d 0x48 (0x078), 8, 6⟩
def CMD_STAT_VALID (d : Nat) : Loc := ⟨Layout.addr d 0x48 (0x078), 31, 1⟩
def SLOT_STATE_STATE (d j : Nat) : Loc := ⟨Layout.addr d 0x48 (0x080 + 0x4 * j), 0, 32⟩
def FREED_FSN_FSN (d : Nat) : Loc := ⟨Layout.addr d 0x48 (0x0A0), 0, 32⟩
def FREED_STAT_COUNT (d : Nat) : Loc := ⟨Layout.addr d 0x48 (0x0A4), 0, 8⟩
def SPOIL_FSN_FSN (d : Nat) : Loc := ⟨Layout.addr d 0x48 (0x0B0), 0, 32⟩
def SPOIL_INFO_CAUSE (d : Nat) : Loc := ⟨Layout.addr d 0x48 (0x0B4), 0, 4⟩
def SPOIL_INFO_STATION (d : Nat) : Loc := ⟨Layout.addr d 0x48 (0x0B4), 4, 4⟩
def SPOIL_INFO_COURSE (d : Nat) : Loc := ⟨Layout.addr d 0x48 (0x0B4), 8, 16⟩
def SPOIL_INFO_REQUEUED (d : Nat) : Loc := ⟨Layout.addr d 0x48 (0x0B4), 24, 1⟩
def SPOIL_INFO_RETAINED (d : Nat) : Loc := ⟨Layout.addr d 0x48 (0x0B4), 25, 1⟩
def SPOIL_INFO_VALID (d : Nat) : Loc := ⟨Layout.addr d 0x48 (0x0B4), 31, 1⟩
def SPOIL_STAT_COUNT (d : Nat) : Loc := ⟨Layout.addr d 0x48 (0x0B8), 0, 5⟩
def SPOIL_STAT_LOST (d : Nat) : Loc := ⟨Layout.addr d 0x48 (0x0B8), 8, 8⟩
def SPOIL_STAT_OVF (d : Nat) : Loc := ⟨Layout.addr d 0x48 (0x0B8), 31, 1⟩
def HOST_RES0_MASK (d : Nat) : Loc := ⟨Layout.addr d 0x48 (0x0C0), 0, 32⟩
def HOST_RES1_MASK (d : Nat) : Loc := ⟨Layout.addr d 0x48 (0x0C4), 0, 32⟩
def PL_FSN_FSN (d j : Nat) : Loc := ⟨Layout.addr d 0x48 (0x100 + 0x8 * j), 0, 32⟩
def PL_POS_COURSE (d j : Nat) : Loc := ⟨Layout.addr d 0x48 (0x104 + 0x8 * j), 0, 16⟩
def PL_POS_LEAD (d j : Nat) : Loc := ⟨Layout.addr d 0x48 (0x104 + 0x8 * j), 16, 16⟩
def RES_FSN_FSN (d : Nat) : Loc := ⟨Layout.addr d 0x48 (0x110), 0, 32⟩
def RES_CTL_VALUE (d : Nat) : Loc := ⟨Layout.addr d 0x48 (0x114), 0, 17⟩
def RES_CTL_STATION (d : Nat) : Loc := ⟨Layout.addr d 0x48 (0x114), 24, 1⟩
def RES_CTL_RESURVEY (d : Nat) : Loc := ⟨Layout.addr d 0x48 (0x114), 25, 1⟩
def SURV_FAIL0_ASHLAR (d : Nat) : Loc := ⟨Layout.addr d 0x48 (0x118), 0, 16⟩
def SURV_FAIL0_STATION (d : Nat) : Loc := ⟨Layout.addr d 0x48 (0x118), 16, 1⟩
def SURV_FAIL0_REASON (d : Nat) : Loc := ⟨Layout.addr d 0x48 (0x118), 20, 4⟩
def SURV_FAIL0_VALID (d : Nat) : Loc := ⟨Layout.addr d 0x48 (0x118), 31, 1⟩
def SURV_FAIL1_FSN (d : Nat) : Loc := ⟨Layout.addr d 0x48 (0x11C), 0, 32⟩
def SURV_CNT_FAILS (d : Nat) : Loc := ⟨Layout.addr d 0x48 (0x120), 0, 16⟩
def SURV_CNT_DUPS (d : Nat) : Loc := ⟨Layout.addr d 0x48 (0x120), 16, 16⟩
end FRAME

namespace LEGACY
def LSTAT_READY (d : Nat) : Loc := ⟨Layout.addr d 0xFF (0x040), 0, 1⟩
def LSTAT_IMAGING (d : Nat) : Loc := ⟨Layout.addr d 0xFF (0x040), 1, 1⟩
def LSTAT_QFULL (d : Nat) : Loc := ⟨Layout.addr d 0xFF (0x040), 2, 1⟩
def LSTAT_FAULT (d : Nat) : Loc := ⟨Layout.addr d 0xFF (0x040), 3, 1⟩
def LSTAT_QUEUED (d : Nat) : Loc := ⟨Layout.addr d 0xFF (0x040), 4, 4⟩
def LSTAT_FSN (d : Nat) : Loc := ⟨Layout.addr d 0xFF (0x040), 8, 8⟩
def LSTAT_SPOILS (d : Nat) : Loc := ⟨Layout.addr d 0xFF (0x040), 16, 8⟩
def LFSN_FSN (d : Nat) : Loc := ⟨Layout.addr d 0xFF (0x044), 0, 32⟩
end LEGACY

namespace CODEC
def CFG_CARRY_DEF (d : Nat) : Loc := ⟨Layout.addr d 0x40 (0x040), 0, 1⟩
def CFG_BG_LANES (d : Nat) : Loc := ⟨Layout.addr d 0x40 (0x040), 8, 4⟩
def CFG_CARRY_SLICE (d : Nat) : Loc := ⟨Layout.addr d 0x40 (0x040), 16, 8⟩
def LANE_ROLE0_ROLE (d : Nat) : Loc := ⟨Layout.addr d 0x40 (0x044), 0, 32⟩
def LANE_ROLE1_ROLE (d : Nat) : Loc := ⟨Layout.addr d 0x40 (0x048), 0, 16⟩
def DLANE_BUSY_BUSY (d : Nat) : Loc := ⟨Layout.addr d 0x40 (0x04C), 0, 24⟩
def CLANE_STAT_BUSY (d : Nat) : Loc := ⟨Layout.addr d 0x40 (0x050), 0, 8⟩
def CLANE_STAT_BG (d : Nat) : Loc := ⟨Layout.addr d 0x40 (0x050), 8, 8⟩
def CLANE_STAT_FENCED (d : Nat) : Loc := ⟨Layout.addr d 0x40 (0x050), 16, 8⟩
def LANE_UNFENCE_LANE (d : Nat) : Loc := ⟨Layout.addr d 0x40 (0x054), 0, 5⟩
def LANE_UNFENCE_GO (d : Nat) : Loc := ⟨Layout.addr d 0x40 (0x054), 31, 1⟩
def RING_F_HEAD_IDX (d : Nat) : Loc := ⟨Layout.addr d 0x40 (0x060), 0, 7⟩
def RING_F_TAIL_IDX (d : Nat) : Loc := ⟨Layout.addr d 0x40 (0x064), 0, 7⟩
def RING_B_HEAD_IDX (d : Nat) : Loc := ⟨Layout.addr d 0x40 (0x068), 0, 7⟩
def RING_B_TAIL_IDX (d : Nat) : Loc := ⟨Layout.addr d 0x40 (0x06C), 0, 7⟩
def JOB_ABORT_TAG (d : Nat) : Loc := ⟨Layout.addr d 0x40 (0x070), 0, 32⟩
def JOBS_DONE_COUNT (d : Nat) : Loc := ⟨Layout.addr d 0x40 (0x074), 0, 32⟩
def CSTATE_USE0_USE (d : Nat) : Loc := ⟨Layout.addr d 0x40 (0x080), 0, 32⟩
def CSTATE_USE1_USE (d : Nat) : Loc := ⟨Layout.addr d 0x40 (0x084), 0, 32⟩
def IMG_LATE_LOCAL0 (d : Nat) : Loc := ⟨Layout.addr d 0x40 (0x088), 0, 16⟩
def IMG_LATE_LOCAL1 (d : Nat) : Loc := ⟨Layout.addr d 0x40 (0x088), 16, 16⟩
def CARRY_CNT_SWAPS (d : Nat) : Loc := ⟨Layout.addr d 0x40 (0x08C), 0, 16⟩
def CARRY_CNT_RESTARTS (d : Nat) : Loc := ⟨Layout.addr d 0x40 (0x08C), 16, 16⟩
def CKPT_LO_ADDR (d j : Nat) : Loc := ⟨Layout.addr d 0x40 (0x090 + 0x8 * j), 6, 26⟩
def CKPT_HI_ADDR (d j : Nat) : Loc := ⟨Layout.addr d 0x40 (0x094 + 0x8 * j), 0, 7⟩
def CKPT_HI_EN (d j : Nat) : Loc := ⟨Layout.addr d 0x40 (0x094 + 0x8 * j), 31, 1⟩
end CODEC

namespace LANE
def LCFG_RATE (d n : Nat) : Loc := ⟨Layout.addr d (0x20 + n) (0x040), 0, 3⟩
def LCFG_ROLE (d n : Nat) : Loc := ⟨Layout.addr d (0x20 + n) (0x040), 4, 2⟩
def LCFG_TX_INV (d n : Nat) : Loc := ⟨Layout.addr d (0x20 + n) (0x040), 8, 1⟩
def LCFG_RX_INV (d n : Nat) : Loc := ⟨Layout.addr d (0x20 + n) (0x040), 9, 1⟩
def LCFG_LOOP_NEAR (d n : Nat) : Loc := ⟨Layout.addr d (0x20 + n) (0x040), 12, 1⟩
def LCFG_LOOP_FAR (d n : Nat) : Loc := ⟨Layout.addr d (0x20 + n) (0x040), 13, 1⟩
def LCFG_PRBS_GEN (d n : Nat) : Loc := ⟨Layout.addr d (0x20 + n) (0x040), 16, 1⟩
def LCFG_PRBS_CHK (d n : Nat) : Loc := ⟨Layout.addr d (0x20 + n) (0x040), 17, 1⟩
def LCFG_ADAPT_FREEZE (d n : Nat) : Loc := ⟨Layout.addr d (0x20 + n) (0x040), 24, 1⟩
def LCTL_RETRAIN (d n : Nat) : Loc := ⟨Layout.addr d (0x20 + n) (0x044), 0, 1⟩
def LCTL_EYE_GO (d n : Nat) : Loc := ⟨Layout.addr d (0x20 + n) (0x044), 1, 1⟩
def LCTL_EYE_STOP (d n : Nat) : Loc := ⟨Layout.addr d (0x20 + n) (0x044), 2, 1⟩
def LSTAT_STATE (d n : Nat) : Loc := ⟨Layout.addr d (0x20 + n) (0x048), 0, 3⟩
def LSTAT_SIG_DET (d n : Nat) : Loc := ⟨Layout.addr d (0x20 + n) (0x048), 3, 1⟩
def LSTAT_BLOCK_LOCK (d n : Nat) : Loc := ⟨Layout.addr d (0x20 + n) (0x048), 4, 1⟩
def LSTAT_HI_BER (d n : Nat) : Loc := ⟨Layout.addr d (0x20 + n) (0x048), 5, 1⟩
def LSTAT_FILL (d n : Nat) : Loc := ⟨Layout.addr d (0x20 + n) (0x048), 8, 6⟩
def TXEQ_PRE (d n : Nat) : Loc := ⟨Layout.addr d (0x20 + n) (0x04C), 0, 4⟩
def TXEQ_POST (d n : Nat) : Loc := ⟨Layout.addr d (0x20 + n) (0x04C), 8, 5⟩
def TXEQ_MAIN (d n : Nat) : Loc := ⟨Layout.addr d (0x20 + n) (0x04C), 16, 6⟩
def RXEQ_STAT_CTLE (d n : Nat) : Loc := ⟨Layout.addr d (0x20 + n) (0x050), 0, 5⟩
def RXEQ_STAT_DFE1 (d n : Nat) : Loc := ⟨Layout.addr d (0x20 + n) (0x050), 8, 6⟩
def SYNC_ERR_COUNT (d n : Nat) : Loc := ⟨Layout.addr d (0x20 + n) (0x054), 0, 32⟩
def LOCK_CNT_LOSSES (d n : Nat) : Loc := ⟨Layout.addr d (0x20 + n) (0x058), 0, 16⟩
def LOCK_CNT_OVF (d n : Nat) : Loc := ⟨Layout.addr d (0x20 + n) (0x058), 16, 16⟩
def PRBS_ERR_COUNT (d n : Nat) : Loc := ⟨Layout.addr d (0x20 + n) (0x05C), 0, 32⟩
def HIBER_CFG_WINDOW (d n : Nat) : Loc := ⟨Layout.addr d (0x20 + n) (0x060), 0, 16⟩
def LOCK_HOLD_TIME (d n : Nat) : Loc := ⟨Layout.addr d (0x20 + n) (0x064), 0, 16⟩
def EYE_H_START (d n : Nat) : Loc := ⟨Layout.addr d (0x20 + n) (0x080), 0, 7⟩
def EYE_H_STOP (d n : Nat) : Loc := ⟨Layout.addr d (0x20 + n) (0x080), 8, 7⟩
def EYE_H_STEP (d n : Nat) : Loc := ⟨Layout.addr d (0x20 + n) (0x080), 16, 7⟩
def EYE_V_START (d n : Nat) : Loc := ⟨Layout.addr d (0x20 + n) (0x084), 0, 7⟩
def EYE_V_STOP (d n : Nat) : Loc := ⟨Layout.addr d (0x20 + n) (0x084), 8, 7⟩
def EYE_V_STEP (d n : Nat) : Loc := ⟨Layout.addr d (0x20 + n) (0x084), 16, 7⟩
def EYE_DWELL_DWELL (d n : Nat) : Loc := ⟨Layout.addr d (0x20 + n) (0x088), 0, 5⟩
def EYE_DWELL_ERR_STOP (d n : Nat) : Loc := ⟨Layout.addr d (0x20 + n) (0x088), 8, 24⟩
def EYE_BUF_LO_ADDR (d n : Nat) : Loc := ⟨Layout.addr d (0x20 + n) (0x08C), 3, 29⟩
def EYE_BUF_HI_ADDR (d n : Nat) : Loc := ⟨Layout.addr d (0x20 + n) (0x090), 0, 7⟩
def EYE_STAT_STATE (d n : Nat) : Loc := ⟨Layout.addr d (0x20 + n) (0x094), 0, 2⟩
def EYE_STAT_RESULT (d n : Nat) : Loc := ⟨Layout.addr d (0x20 + n) (0x094), 2, 2⟩
def EYE_STAT_POINTS (d n : Nat) : Loc := ⟨Layout.addr d (0x20 + n) (0x094), 16, 16⟩
end LANE

namespace RLNK
def CFG_WIDTH (d : Nat) : Loc := ⟨Layout.addr d 0x30 (0x040), 0, 2⟩
def CFG_DESC_EN (d : Nat) : Loc := ⟨Layout.addr d 0x30 (0x040), 8, 1⟩
def ROUTE_EN (d : Nat) : Loc := ⟨Layout.addr d 0x30 (0x044), 0, 1⟩
def ROUTE_DIE (d : Nat) : Loc := ⟨Layout.addr d 0x30 (0x044), 4, 3⟩
def CRED_ALLOC0_L0 (d : Nat) : Loc := ⟨Layout.addr d 0x30 (0x048), 0, 10⟩
def CRED_ALLOC0_L1 (d : Nat) : Loc := ⟨Layout.addr d 0x30 (0x048), 16, 10⟩
def CRED_ALLOC1_X0 (d : Nat) : Loc := ⟨Layout.addr d 0x30 (0x04C), 0, 10⟩
def CRED_ALLOC1_X1 (d : Nat) : Loc := ⟨Layout.addr d 0x30 (0x04C), 16, 10⟩
def CRED_ALLOC2_CTL (d : Nat) : Loc := ⟨Layout.addr d 0x30 (0x050), 0, 6⟩
def BOND_STAT_STATE (d : Nat) : Loc := ⟨Layout.addr d 0x30 (0x054), 0, 2⟩
def BOND_STAT_WIDTH (d : Nat) : Loc := ⟨Layout.addr d 0x30 (0x054), 4, 2⟩
def BOND_STAT_LANES (d : Nat) : Loc := ⟨Layout.addr d 0x30 (0x054), 8, 6⟩
def BOND_STAT_GEN (d : Nat) : Loc := ⟨Layout.addr d 0x30 (0x054), 16, 8⟩
def PSN_STAT_EXPECT (d : Nat) : Loc := ⟨Layout.addr d 0x30 (0x058), 0, 16⟩
def PSN_STAT_SESSION (d : Nat) : Loc := ⟨Layout.addr d 0x30 (0x058), 16, 1⟩
def RETRY_LIMIT (d : Nat) : Loc := ⟨Layout.addr d 0x30 (0x05C), 0, 8⟩
def PKT_CNT_COUNT (d : Nat) : Loc := ⟨Layout.addr d 0x30 (0x060), 0, 32⟩
def ERR_CNT0_CRC (d : Nat) : Loc := ⟨Layout.addr d 0x30 (0x064), 0, 16⟩
def ERR_CNT0_GAP (d : Nat) : Loc := ⟨Layout.addr d 0x30 (0x064), 16, 16⟩
def ERR_CNT1_FRAMING (d : Nat) : Loc := ⟨Layout.addr d 0x30 (0x068), 0, 16⟩
def ERR_CNT1_CREDIT (d : Nat) : Loc := ⟨Layout.addr d 0x30 (0x068), 16, 16⟩
def COUNT2_DROPS (d : Nat) : Loc := ⟨Layout.addr d 0x30 (0x06C), 0, 16⟩
def COUNT2_RESYNCS (d : Nat) : Loc := ⟨Layout.addr d 0x30 (0x06C), 16, 16⟩
def DROP_LOG0_REASON (d : Nat) : Loc := ⟨Layout.addr d 0x30 (0x070), 0, 4⟩
def DROP_LOG0_STATION (d : Nat) : Loc := ⟨Layout.addr d 0x30 (0x070), 4, 4⟩
def DROP_LOG0_TYPE (d : Nat) : Loc := ⟨Layout.addr d 0x30 (0x070), 8, 8⟩
def DROP_LOG0_VALID (d : Nat) : Loc := ⟨Layout.addr d 0x30 (0x070), 31, 1⟩
def DROP_LOG1_FSN (d : Nat) : Loc := ⟨Layout.addr d 0x30 (0x074), 0, 32⟩
def DROP_LOG2_ASHLAR (d : Nat) : Loc := ⟨Layout.addr d 0x30 (0x078), 0, 16⟩
def DROP_LOG2_COURSE (d : Nat) : Loc := ⟨Layout.addr d 0x30 (0x078), 16, 16⟩
def NAK_CNT_COUNT (d : Nat) : Loc := ⟨Layout.addr d 0x30 (0x07C), 0, 32⟩
end RLNK

namespace STA
def CFG_DEPTH (d l : Nat) : Loc := ⟨Layout.addr d (0x50 + 8 * l) (0x040), 0, 2⟩
def CFG_HEAD (d l : Nat) : Loc := ⟨Layout.addr d (0x50 + 8 * l) (0x040), 4, 1⟩
def CFG_EMITTERS (d l : Nat) : Loc := ⟨Layout.addr d (0x50 + 8 * l) (0x040), 8, 6⟩
def LINE_LEN_LEN8 (d l : Nat) : Loc := ⟨Layout.addr d (0x50 + 8 * l) (0x044), 0, 14⟩
def SEL_TONE_BANK (d l : Nat) : Loc := ⟨Layout.addr d (0x50 + 8 * l) (0x048), 0, 1⟩
def SEL_PLUMB_BANK (d l : Nat) : Loc := ⟨Layout.addr d (0x50 + 8 * l) (0x048), 1, 1⟩
def SEL_FACET_BANK (d l : Nat) : Loc := ⟨Layout.addr d (0x50 + 8 * l) (0x048), 2, 1⟩
def SEL_SCREEN_SWAP (d l : Nat) : Loc := ⟨Layout.addr d (0x50 + 8 * l) (0x048), 3, 1⟩
def SEL_MIRROR (d l : Nat) : Loc := ⟨Layout.addr d (0x50 + 8 * l) (0x048), 4, 1⟩
def SEL_PLUMB_EN (d l : Nat) : Loc := ⟨Layout.addr d (0x50 + 8 * l) (0x048), 5, 1⟩
def PLUMB_CTL_PITCH (d l : Nat) : Loc := ⟨Layout.addr d (0x50 + 8 * l) (0x04C), 0, 2⟩
def PLUMB_CTL_REACH (d l : Nat) : Loc := ⟨Layout.addr d (0x50 + 8 * l) (0x04C), 8, 6⟩
def PLUMB_STAT_LINES (d l : Nat) : Loc := ⟨Layout.addr d (0x50 + 8 * l) (0x050), 0, 10⟩
def PLUMB_STAT_REACH_EFF (d l : Nat) : Loc := ⟨Layout.addr d (0x50 + 8 * l) (0x050), 16, 6⟩
def SCR_CFG_WIDTH (d l j : Nat) : Loc := ⟨Layout.addr d (0x50 + 8 * l) (0x054 + 0x4 * j), 0, 7⟩
def SCR_CFG_HEIGHT (d l j : Nat) : Loc := ⟨Layout.addr d (0x50 + 8 * l) (0x054 + 0x4 * j), 8, 7⟩
def SCR_CFG_SHIFT (d l j : Nat) : Loc := ⟨Layout.addr d (0x50 + 8 * l) (0x054 + 0x4 * j), 16, 7⟩
def SCR_CFG_YREF (d l j : Nat) : Loc := ⟨Layout.addr d (0x50 + 8 * l) (0x054 + 0x4 * j), 24, 1⟩
def FACET_CFG_COUNT (d l j : Nat) : Loc := ⟨Layout.addr d (0x50 + 8 * l) (0x05C + 0x4 * j), 0, 4⟩
def FACET_CFG_OK (d l j : Nat) : Loc := ⟨Layout.addr d (0x50 + 8 * l) (0x05C + 0x4 * j), 8, 1⟩
def FACET_CFG_SUM (d l j : Nat) : Loc := ⟨Layout.addr d (0x50 + 8 * l) (0x05C + 0x4 * j), 16, 10⟩
def FACET_STAT_FACET (d l : Nat) : Loc := ⟨Layout.addr d (0x50 + 8 * l) (0x064), 0, 4⟩
def COV_LAST_COURSE (d l : Nat) : Loc := ⟨Layout.addr d (0x50 + 8 * l) (0x068), 0, 16⟩
def COV_LAST_MISMATCH (d l : Nat) : Loc := ⟨Layout.addr d (0x50 + 8 * l) (0x068), 31, 1⟩
def COV_IMG_TOTAL (d l : Nat) : Loc := ⟨Layout.addr d (0x50 + 8 * l) (0x06C), 0, 32⟩
def COV_SURV_TOTAL (d l : Nat) : Loc := ⟨Layout.addr d (0x50 + 8 * l) (0x070), 0, 32⟩
def COV_CNT_COMPARED (d l : Nat) : Loc := ⟨Layout.addr d (0x50 + 8 * l) (0x074), 0, 16⟩
def COV_CNT_MISMATCHES (d l : Nat) : Loc := ⟨Layout.addr d (0x50 + 8 * l) (0x074), 16, 16⟩
def REFUSE_LOG_ADDR (d l : Nat) : Loc := ⟨Layout.addr d (0x50 + 8 * l) (0x078), 0, 20⟩
def REFUSE_LOG_KIND (d l : Nat) : Loc := ⟨Layout.addr d (0x50 + 8 * l) (0x078), 28, 2⟩
def REFUSE_LOG_VALID (d l : Nat) : Loc := ⟨Layout.addr d (0x50 + 8 * l) (0x078), 31, 1⟩
end STA

namespace STIM
def TCFG_RUN (d l : Nat) : Loc := ⟨Layout.addr d (0x51 + 8 * l) (0x040), 0, 1⟩
def TCFG_FID_MODE (d l : Nat) : Loc := ⟨Layout.addr d (0x51 + 8 * l) (0x040), 4, 2⟩
def TCFG_BD_EDGE (d l : Nat) : Loc := ⟨Layout.addr d (0x51 + 8 * l) (0x040), 8, 1⟩
def INSCAN_OFFS_TICKS (d l : Nat) : Loc := ⟨Layout.addr d (0x51 + 8 * l) (0x044), 0, 24⟩
def PX_PERIOD_PERIOD (d l : Nat) : Loc := ⟨Layout.addr d (0x51 + 8 * l) (0x048), 0, 32⟩
def LIN_LIN_BANK (d l : Nat) : Loc := ⟨Layout.addr d (0x51 + 8 * l) (0x04C), 0, 1⟩
def LIN_LIN_EN (d l : Nat) : Loc := ⟨Layout.addr d (0x51 + 8 * l) (0x04C), 1, 1⟩
def BD_CFG_WIN (d l : Nat) : Loc := ⟨Layout.addr d (0x51 + 8 * l) (0x050), 0, 8⟩
def BD_CFG_LOSS (d l : Nat) : Loc := ⟨Layout.addr d (0x51 + 8 * l) (0x050), 8, 4⟩
def BD_CFG_STABLE (d l : Nat) : Loc := ⟨Layout.addr d (0x51 + 8 * l) (0x050), 16, 8⟩
def FID_CFG_CONFIRM (d l : Nat) : Loc := ⟨Layout.addr d (0x51 + 8 * l) (0x054), 0, 4⟩
def FID_CFG_PIN (d l : Nat) : Loc := ⟨Layout.addr d (0x51 + 8 * l) (0x054), 8, 5⟩
def FID_CFG_MAXERR (d l : Nat) : Loc := ⟨Layout.addr d (0x51 + 8 * l) (0x054), 16, 16⟩
def FID_MARGIN_MARGIN (d l : Nat) : Loc := ⟨Layout.addr d (0x51 + 8 * l) (0x058), 0, 16⟩
def FSIG (d l j : Nat) : Loc := ⟨Layout.addr d (0x51 + 8 * l) (0x060 + 0x4 * j), 0, 32⟩
def FMEAS (d l j : Nat) : Loc := ⟨Layout.addr d (0x51 + 8 * l) (0x080 + 0x4 * j), 0, 32⟩
def LG_CFG_COUNTER (d l : Nat) : Loc := ⟨Layout.addr d (0x51 + 8 * l) (0x0A0), 0, 3⟩
def LG_CFG_REVERSE (d l : Nat) : Loc := ⟨Layout.addr d (0x51 + 8 * l) (0x0A0), 4, 1⟩
def LG_NUM_NUM (d l : Nat) : Loc := ⟨Layout.addr d (0x51 + 8 * l) (0x0A4), 0, 24⟩
def LG_DEN_DEN (d l : Nat) : Loc := ⟨Layout.addr d (0x51 + 8 * l) (0x0A8), 0, 24⟩
def LG_DELAY_TICKS (d l : Nat) : Loc := ⟨Layout.addr d (0x51 + 8 * l) (0x0AC), 0, 24⟩
def LINE_MIN_TICKS (d l : Nat) : Loc := ⟨Layout.addr d (0x51 + 8 * l) (0x0B0), 0, 24⟩
def LED_SHIFT_ELEM (d l : Nat) : Loc := ⟨Layout.addr d (0x51 + 8 * l) (0x0B4), 0, 16⟩
def LGO_CFG_WIDTH (d l : Nat) : Loc := ⟨Layout.addr d (0x51 + 8 * l) (0x0B8), 0, 8⟩
def TSTAT_STATE (d l : Nat) : Loc := ⟨Layout.addr d (0x51 + 8 * l) (0x0C0), 0, 2⟩
def TSTAT_FID_OK (d l : Nat) : Loc := ⟨Layout.addr d (0x51 + 8 * l) (0x0C0), 4, 1⟩
def TSTAT_DELAY_OK (d l : Nat) : Loc := ⟨Layout.addr d (0x51 + 8 * l) (0x0C0), 5, 1⟩
def TSTAT_FACET (d l : Nat) : Loc := ⟨Layout.addr d (0x51 + 8 * l) (0x0C0), 8, 4⟩
def LSN_NOW_LSN (d l : Nat) : Loc := ⟨Layout.addr d (0x51 + 8 * l) (0x0C4), 0, 32⟩
def BD_TIME_TICKS (d l : Nat) : Loc := ⟨Layout.addr d (0x51 + 8 * l) (0x0C8), 0, 32⟩
def BD_PERIOD_TICKS (d l : Nat) : Loc := ⟨Layout.addr d (0x51 + 8 * l) (0x0CC), 0, 28⟩
def FRAME_S0_LSN (d l : Nat) : Loc := ⟨Layout.addr d (0x51 + 8 * l) (0x0D0), 0, 32⟩
def STOP_LSN_LSN (d l : Nat) : Loc := ⟨Layout.addr d (0x51 + 8 * l) (0x0D4), 0, 32⟩
def SLIP_CFG_LIMIT (d l : Nat) : Loc := ⟨Layout.addr d (0x51 + 8 * l) (0x0D8), 0, 16⟩
def SLIP_CNT_FRAME (d l : Nat) : Loc := ⟨Layout.addr d (0x51 + 8 * l) (0x0DC), 0, 16⟩
def SLIP_TOTAL_COUNT (d l : Nat) : Loc := ⟨Layout.addr d (0x51 + 8 * l) (0x0E0), 0, 32⟩
def BD_CNT_EARLY (d l : Nat) : Loc := ⟨Layout.addr d (0x51 + 8 * l) (0x0E4), 0, 16⟩
def BD_CNT_MISSED (d l : Nat) : Loc := ⟨Layout.addr d (0x51 + 8 * l) (0x0E4), 16, 16⟩
def UNDERRUN_LOG_LSN (d l : Nat) : Loc := ⟨Layout.addr d (0x51 + 8 * l) (0x0E8), 0, 32⟩
def UNDERRUN_CNT_PLANE (d l : Nat) : Loc := ⟨Layout.addr d (0x51 + 8 * l) (0x0EC), 0, 16⟩
def UNDERRUN_CNT_GAP (d l : Nat) : Loc := ⟨Layout.addr d (0x51 + 8 * l) (0x0EC), 16, 15⟩
def UNDERRUN_CNT_VALID (d l : Nat) : Loc := ⟨Layout.addr d (0x51 + 8 * l) (0x0EC), 31, 1⟩
def LG_ACC_A (d l : Nat) : Loc := ⟨Layout.addr d (0x51 + 8 * l) (0x0F0), 0, 24⟩
end STIM

namespace SHL
def HCFG_TIMEOUT (d l : Nat) : Loc := ⟨Layout.addr d (0x52 + 8 * l) (0x040), 0, 8⟩
def HCFG_RETRY_LIMIT (d l : Nat) : Loc := ⟨Layout.addr d (0x52 + 8 * l) (0x040), 8, 8⟩
def HCFG_ZERO_EN (d l : Nat) : Loc := ⟨Layout.addr d (0x52 + 8 * l) (0x040), 16, 1⟩
def HSTAT_BOND (d l : Nat) : Loc := ⟨Layout.addr d (0x52 + 8 * l) (0x044), 0, 2⟩
def HSTAT_WIDTH (d l : Nat) : Loc := ⟨Layout.addr d (0x52 + 8 * l) (0x044), 2, 1⟩
def HSTAT_SESSION (d l : Nat) : Loc := ⟨Layout.addr d (0x52 + 8 * l) (0x044), 3, 1⟩
def HSTAT_LANES (d l : Nat) : Loc := ⟨Layout.addr d (0x52 + 8 * l) (0x044), 4, 3⟩
def HSTAT_GEN (d l : Nat) : Loc := ⟨Layout.addr d (0x52 + 8 * l) (0x044), 8, 8⟩
def PSN_STAT_NEXT (d l : Nat) : Loc := ⟨Layout.addr d (0x52 + 8 * l) (0x048), 0, 16⟩
def PSN_STAT_ACKED (d l : Nat) : Loc := ⟨Layout.addr d (0x52 + 8 * l) (0x048), 16, 16⟩
def CRED_STAT_LINE (d l : Nat) : Loc := ⟨Layout.addr d (0x52 + 8 * l) (0x04C), 0, 16⟩
def CRED_STAT_CTL (d l : Nat) : Loc := ⟨Layout.addr d (0x52 + 8 * l) (0x04C), 16, 8⟩
def HEAD_TEMP_TEMP (d l : Nat) : Loc := ⟨Layout.addr d (0x52 + 8 * l) (0x050), 0, 16⟩
def HEAD_TEMP_SEQ (d l : Nat) : Loc := ⟨Layout.addr d (0x52 + 8 * l) (0x050), 16, 8⟩
def HEAD_LAT_TICKS (d l : Nat) : Loc := ⟨Layout.addr d (0x52 + 8 * l) (0x054), 0, 24⟩
def GEN_STAT_TRIM_SENT (d l : Nat) : Loc := ⟨Layout.addr d (0x52 + 8 * l) (0x058), 0, 8⟩
def GEN_STAT_TRIM_APPLIED (d l : Nat) : Loc := ⟨Layout.addr d (0x52 + 8 * l) (0x058), 8, 8⟩
def GEN_STAT_LIN_SENT (d l : Nat) : Loc := ⟨Layout.addr d (0x52 + 8 * l) (0x058), 16, 8⟩
def GEN_STAT_LIN_APPLIED (d l : Nat) : Loc := ⟨Layout.addr d (0x52 + 8 * l) (0x058), 24, 8⟩
def EMIT_FAULT0_MAP (d l : Nat) : Loc := ⟨Layout.addr d (0x52 + 8 * l) (0x05C), 0, 32⟩
def EMIT_FAULT1_MAP (d l : Nat) : Loc := ⟨Layout.addr d (0x52 + 8 * l) (0x060), 0, 16⟩
def EMIT_FAULT1_ELEMS (d l : Nat) : Loc := ⟨Layout.addr d (0x52 + 8 * l) (0x060), 16, 16⟩
def BUF_STAT_LINES (d l : Nat) : Loc := ⟨Layout.addr d (0x52 + 8 * l) (0x064), 0, 16⟩
def BUF_STAT_GRANT (d l : Nat) : Loc := ⟨Layout.addr d (0x52 + 8 * l) (0x064), 16, 16⟩
def TRIM_BASE_LO_ADDR (d l : Nat) : Loc := ⟨Layout.addr d (0x52 + 8 * l) (0x068), 3, 29⟩
def TRIM_BASE_HI_ADDR (d l : Nat) : Loc := ⟨Layout.addr d (0x52 + 8 * l) (0x06C), 0, 7⟩
def TRIM_CTL_COUNT (d l : Nat) : Loc := ⟨Layout.addr d (0x52 + 8 * l) (0x070), 0, 17⟩
def TRIM_CTL_KIND (d l : Nat) : Loc := ⟨Layout.addr d (0x52 + 8 * l) (0x070), 20, 1⟩
def TRIM_CTL_GO (d l : Nat) : Loc := ⟨Layout.addr d (0x52 + 8 * l) (0x070), 31, 1⟩
def HCFG_ADDR_ADDR (d l : Nat) : Loc := ⟨Layout.addr d (0x52 + 8 * l) (0x074), 0, 32⟩
def HCFG_CTL_WORDS (d l : Nat) : Loc := ⟨Layout.addr d (0x52 + 8 * l) (0x078), 0, 5⟩
def HCFG_CTL_DONE (d l : Nat) : Loc := ⟨Layout.addr d (0x52 + 8 * l) (0x078), 30, 1⟩
def HCFG_CTL_GO (d l : Nat) : Loc := ⟨Layout.addr d (0x52 + 8 * l) (0x078), 31, 1⟩
def HCFG_DATA (d l j : Nat) : Loc := ⟨Layout.addr d (0x52 + 8 * l) (0x080 + 0x4 * j), 0, 32⟩
def RPL_CNT_NAKS (d l : Nat) : Loc := ⟨Layout.addr d (0x52 + 8 * l) (0x0C0), 0, 16⟩
def RPL_CNT_REPLAYS (d l : Nat) : Loc := ⟨Layout.addr d (0x52 + 8 * l) (0x0C0), 16, 16⟩
def UP_ERR_CRC (d l : Nat) : Loc := ⟨Layout.addr d (0x52 + 8 * l) (0x0C4), 0, 16⟩
def UP_ERR_FRAMING (d l : Nat) : Loc := ⟨Layout.addr d (0x52 + 8 * l) (0x0C4), 16, 16⟩
def STAT_CNT_COUNT (d l : Nat) : Loc := ⟨Layout.addr d (0x52 + 8 * l) (0x0C8), 0, 32⟩
end SHL

namespace SPROT
def LEN_CTL_EN (d l : Nat) : Loc := ⟨Layout.addr d (0x53 + 8 * l) (0x040), 0, 1⟩
def LEN_CTL_REARM (d l : Nat) : Loc := ⟨Layout.addr d (0x53 + 8 * l) (0x040), 1, 1⟩
def GATE_STAT_LEN (d l : Nat) : Loc := ⟨Layout.addr d (0x53 + 8 * l) (0x044), 0, 1⟩
def GATE_STAT_ILK_IN (d l : Nat) : Loc := ⟨Layout.addr d (0x53 + 8 * l) (0x044), 1, 1⟩
def GATE_STAT_HOK_IN (d l : Nat) : Loc := ⟨Layout.addr d (0x53 + 8 * l) (0x044), 2, 1⟩
def GATE_STAT_PAPER_IN (d l : Nat) : Loc := ⟨Layout.addr d (0x53 + 8 * l) (0x044), 3, 1⟩
def GATE_STAT_JAM_IN (d l : Nat) : Loc := ⟨Layout.addr d (0x53 + 8 * l) (0x044), 4, 1⟩
def GATE_STAT_LATCH (d l : Nat) : Loc := ⟨Layout.addr d (0x53 + 8 * l) (0x044), 8, 5⟩
def GATE_STAT_SOFT (d l : Nat) : Loc := ⟨Layout.addr d (0x53 + 8 * l) (0x044), 16, 1⟩
def GATE_STAT_SOFT_PEND (d l : Nat) : Loc := ⟨Layout.addr d (0x53 + 8 * l) (0x044), 17, 1⟩
def SENS_CFG_JAM_PIN (d l : Nat) : Loc := ⟨Layout.addr d (0x53 + 8 * l) (0x048), 0, 5⟩
def SENS_CFG_JAM_POL (d l : Nat) : Loc := ⟨Layout.addr d (0x53 + 8 * l) (0x048), 5, 1⟩
def SENS_CFG_JAM_EN (d l : Nat) : Loc := ⟨Layout.addr d (0x53 + 8 * l) (0x048), 6, 1⟩
def SENS_CFG_PAPER_PIN (d l : Nat) : Loc := ⟨Layout.addr d (0x53 + 8 * l) (0x048), 8, 5⟩
def SENS_CFG_PAPER_POL (d l : Nat) : Loc := ⟨Layout.addr d (0x53 + 8 * l) (0x048), 13, 1⟩
def SENS_CFG_PAPER_EN (d l : Nat) : Loc := ⟨Layout.addr d (0x53 + 8 * l) (0x048), 14, 1⟩
def SENS_CFG_FILT (d l : Nat) : Loc := ⟨Layout.addr d (0x53 + 8 * l) (0x048), 16, 8⟩
def SENS_CFG_QUAL (d l : Nat) : Loc := ⟨Layout.addr d (0x53 + 8 * l) (0x048), 24, 8⟩
def ELEM_LIMIT_LIMIT (d l : Nat) : Loc := ⟨Layout.addr d (0x53 + 8 * l) (0x04C), 0, 16⟩
def ELEM_LIMIT_CAP (d l : Nat) : Loc := ⟨Layout.addr d (0x53 + 8 * l) (0x04C), 16, 4⟩
def EMIT_LIMIT_LIMIT (d l : Nat) : Loc := ⟨Layout.addr d (0x53 + 8 * l) (0x050), 0, 20⟩
def EMIT_LIMIT_CAP (d l : Nat) : Loc := ⟨Layout.addr d (0x53 + 8 * l) (0x050), 24, 4⟩
def HEAD_LIMIT_LIMIT (d l : Nat) : Loc := ⟨Layout.addr d (0x53 + 8 * l) (0x054), 0, 32⟩
def HEAD_CAP_CAP (d l : Nat) : Loc := ⟨Layout.addr d (0x53 + 8 * l) (0x058), 0, 4⟩
def TEMP_LIM_SOFT (d l : Nat) : Loc := ⟨Layout.addr d (0x53 + 8 * l) (0x05C), 0, 16⟩
def TEMP_LIM_HARD (d l : Nat) : Loc := ⟨Layout.addr d (0x53 + 8 * l) (0x05C), 16, 16⟩
def TEMP_CFG_HYST (d l : Nat) : Loc := ⟨Layout.addr d (0x53 + 8 * l) (0x060), 0, 8⟩
def TEMP_CFG_HOT_CAP (d l : Nat) : Loc := ⟨Layout.addr d (0x53 + 8 * l) (0x060), 8, 4⟩
def HEAD_SUM_H (d l : Nat) : Loc := ⟨Layout.addr d (0x53 + 8 * l) (0x064), 0, 32⟩
def DCLIP_CNT0_ELEM (d l : Nat) : Loc := ⟨Layout.addr d (0x53 + 8 * l) (0x068), 0, 16⟩
def DCLIP_CNT0_EMIT (d l : Nat) : Loc := ⟨Layout.addr d (0x53 + 8 * l) (0x068), 16, 16⟩
def DCLIP_CNT1_HEAD (d l : Nat) : Loc := ⟨Layout.addr d (0x53 + 8 * l) (0x06C), 0, 16⟩
def DCLIP_CNT1_HOT (d l : Nat) : Loc := ⟨Layout.addr d (0x53 + 8 * l) (0x06C), 16, 16⟩
def DCLIP_LOG0_INDEX (d l : Nat) : Loc := ⟨Layout.addr d (0x53 + 8 * l) (0x070), 0, 16⟩
def DCLIP_LOG0_KIND (d l : Nat) : Loc := ⟨Layout.addr d (0x53 + 8 * l) (0x070), 16, 2⟩
def DCLIP_LOG0_VALID (d l : Nat) : Loc := ⟨Layout.addr d (0x53 + 8 * l) (0x070), 31, 1⟩
def DCLIP_LOG1_LSN (d l : Nat) : Loc := ⟨Layout.addr d (0x53 + 8 * l) (0x074), 0, 32⟩
def DUTY_SEL_INDEX (d l : Nat) : Loc := ⟨Layout.addr d (0x53 + 8 * l) (0x078), 0, 16⟩
def DUTY_SEL_EMITTER (d l : Nat) : Loc := ⟨Layout.addr d (0x53 + 8 * l) (0x078), 16, 1⟩
def DUTY_VAL_VALUE (d l : Nat) : Loc := ⟨Layout.addr d (0x53 + 8 * l) (0x07C), 0, 20⟩
end SPROT

namespace PIO
def MARK_CFG_EDGE (d j : Nat) : Loc := ⟨Layout.addr d 0x71 (0x400 + 0x4 * j), 0, 2⟩
def MARK_CFG_EN (d j : Nat) : Loc := ⟨Layout.addr d 0x71 (0x400 + 0x4 * j), 2, 1⟩
def MARK_CFG_COUNTER (d j : Nat) : Loc := ⟨Layout.addr d 0x71 (0x400 + 0x4 * j), 4, 3⟩
def MARK_CFG_FILT (d j : Nat) : Loc := ⟨Layout.addr d 0x71 (0x400 + 0x4 * j), 8, 8⟩
def MARK_CFG_CUE (d j : Nat) : Loc := ⟨Layout.addr d 0x71 (0x400 + 0x4 * j), 16, 9⟩
def MARK_CFG_CUE_EN (d j : Nat) : Loc := ⟨Layout.addr d 0x71 (0x400 + 0x4 * j), 25, 1⟩
def MARK_STAT_FIFO (d j : Nat) : Loc := ⟨Layout.addr d 0x71 (0x410 + 0x4 * j), 0, 5⟩
def MARK_STAT_INDEX (d j : Nat) : Loc := ⟨Layout.addr d 0x71 (0x410 + 0x4 * j), 8, 8⟩
def MARK_STAT_LOST (d j : Nat) : Loc := ⟨Layout.addr d 0x71 (0x410 + 0x4 * j), 16, 16⟩
def MARK_T_STIME (d j : Nat) : Loc := ⟨Layout.addr d 0x71 (0x420 + 0x8 * j), 0, 32⟩
def MARK_T_B_IDX (d j : Nat) : Loc := ⟨Layout.addr d 0x71 (0x424 + 0x8 * j), 0, 8⟩
def MARK_P_HI_P (d j : Nat) : Loc := ⟨Layout.addr d 0x71 (0x440 + 0x4 * j), 0, 24⟩
def MARK_P_LO_P (d j : Nat) : Loc := ⟨Layout.addr d 0x71 (0x450 + 0x4 * j), 0, 32⟩
def AREG_CFG_EN (d j : Nat) : Loc := ⟨Layout.addr d 0x71 (0x460 + 0x20 * j), 0, 1⟩
def AREG_CFG_SENSOR (d j : Nat) : Loc := ⟨Layout.addr d 0x71 (0x460 + 0x20 * j), 1, 2⟩
def AREG_CFG_REF_IDX (d j : Nat) : Loc := ⟨Layout.addr d 0x71 (0x460 + 0x20 * j), 8, 8⟩
def AREG_CFG_STA_IDX (d j : Nat) : Loc := ⟨Layout.addr d 0x71 (0x460 + 0x20 * j), 16, 8⟩
def AREG_CFG_SLOT (d j : Nat) : Loc := ⟨Layout.addr d 0x71 (0x460 + 0x20 * j), 24, 3⟩
def AREG_NOM_NOM (d j : Nat) : Loc := ⟨Layout.addr d 0x71 (0x464 + 0x20 * j), 0, 32⟩
def AREG_SCALE_LNUM (d j : Nat) : Loc := ⟨Layout.addr d 0x71 (0x468 + 0x20 * j), 0, 16⟩
def AREG_SCALE_LDEN (d j : Nat) : Loc := ⟨Layout.addr d 0x71 (0x468 + 0x20 * j), 16, 16⟩
def AREG_TGT_ADDR (d j : Nat) : Loc := ⟨Layout.addr d 0x71 (0x46C + 0x20 * j), 2, 18⟩
def AREG_TGT_LOOP (d j : Nat) : Loc := ⟨Layout.addr d 0x71 (0x46C + 0x20 * j), 24, 8⟩
def AREG_MASK_MASK (d j : Nat) : Loc := ⟨Layout.addr d 0x71 (0x470 + 0x20 * j), 0, 32⟩
def AREG_ERR_E (d j : Nat) : Loc := ⟨Layout.addr d 0x71 (0x474 + 0x20 * j), 0, 16⟩
def AREG_ERR_SEQ (d j : Nat) : Loc := ⟨Layout.addr d 0x71 (0x474 + 0x20 * j), 16, 8⟩
def AREG_CNT_MISSES (d j : Nat) : Loc := ⟨Layout.addr d 0x71 (0x478 + 0x20 * j), 0, 8⟩
def AREG_CNT_IMPLAUS (d j : Nat) : Loc := ⟨Layout.addr d 0x71 (0x478 + 0x20 * j), 8, 8⟩
def AREG_CNT_REJECTS (d j : Nat) : Loc := ⟨Layout.addr d 0x71 (0x478 + 0x20 * j), 16, 8⟩
def AREG_LIM_MAXERR (d j : Nat) : Loc := ⟨Layout.addr d 0x71 (0x47C + 0x20 * j), 0, 16⟩
def AREG_BASE_BASE (d j : Nat) : Loc := ⟨Layout.addr d 0x71 (0x4A0 + 0x4 * j), 0, 32⟩
def AGE_CTL_EN (d j : Nat) : Loc := ⟨Layout.addr d 0x71 (0x500 + 0x40 * j), 0, 1⟩
def AGE_CTL_RESTORE (d j : Nat) : Loc := ⟨Layout.addr d 0x71 (0x500 + 0x40 * j), 1, 1⟩
def AGE_CTL_SAVE (d j : Nat) : Loc := ⟨Layout.addr d 0x71 (0x500 + 0x40 * j), 2, 1⟩
def AGE_CTL_CKPT_NOW (d j : Nat) : Loc := ⟨Layout.addr d 0x71 (0x500 + 0x40 * j), 3, 1⟩
def AGE_CTL_BUSY (d j : Nat) : Loc := ⟨Layout.addr d 0x71 (0x500 + 0x40 * j), 8, 1⟩
def AGE_CTL_BASE_BAD (d j : Nat) : Loc := ⟨Layout.addr d 0x71 (0x500 + 0x40 * j), 9, 1⟩
def AGE_CTL_WEAR_BAD (d j : Nat) : Loc := ⟨Layout.addr d 0x71 (0x500 + 0x40 * j), 10, 1⟩
def AGE_CTL_NV_ERR (d j : Nat) : Loc := ⟨Layout.addr d 0x71 (0x500 + 0x40 * j), 11, 1⟩
def AGE_CFG_REFRESH (d j : Nat) : Loc := ⟨Layout.addr d 0x71 (0x504 + 0x40 * j), 0, 8⟩
def AGE_CFG_CKPT (d j : Nat) : Loc := ⟨Layout.addr d 0x71 (0x504 + 0x40 * j), 8, 8⟩
def AGE_CFG_SHIFT (d j : Nat) : Loc := ⟨Layout.addr d 0x71 (0x504 + 0x40 * j), 16, 5⟩
def AGE_BASE_LO_ADDR (d j : Nat) : Loc := ⟨Layout.addr d 0x71 (0x508 + 0x40 * j), 1, 31⟩
def AGE_BASE_HI_ADDR (d j : Nat) : Loc := ⟨Layout.addr d 0x71 (0x50C + 0x40 * j), 0, 7⟩
def WEAR_BASE_LO_ADDR (d j : Nat) : Loc := ⟨Layout.addr d 0x71 (0x510 + 0x40 * j), 2, 30⟩
def WEAR_BASE_HI_ADDR (d j : Nat) : Loc := ⟨Layout.addr d 0x71 (0x514 + 0x40 * j), 0, 7⟩
def WEAR_STAT_SEQ (d j : Nat) : Loc := ⟨Layout.addr d 0x71 (0x518 + 0x40 * j), 0, 32⟩
def AGE_CURVE (d j m : Nat) : Loc := ⟨Layout.addr d 0x71 (0x520 + 0x40 * j + 0x4 * m), 0, 32⟩
def CAL_LOAD_STATION (d : Nat) : Loc := ⟨Layout.addr d 0x71 (0x580), 0, 1⟩
def CAL_LOAD_SET (d : Nat) : Loc := ⟨Layout.addr d 0x71 (0x580), 4, 3⟩
def CAL_LOAD_SLOT (d : Nat) : Loc := ⟨Layout.addr d 0x71 (0x580), 8, 3⟩
def CAL_LOAD_GO (d : Nat) : Loc := ⟨Layout.addr d 0x71 (0x580), 31, 1⟩
def CAL_STAT_BUSY (d : Nat) : Loc := ⟨Layout.addr d 0x71 (0x584), 0, 1⟩
def CAL_STAT_RESULT (d : Nat) : Loc := ⟨Layout.addr d 0x71 (0x584), 1, 3⟩
def CAL_STAT_VALID (d : Nat) : Loc := ⟨Layout.addr d 0x71 (0x584), 31, 1⟩
def CAL_ETRIM_LO_ADDR (d : Nat) : Loc := ⟨Layout.addr d 0x71 (0x588), 1, 31⟩
def CAL_ETRIM_HI_ADDR (d : Nat) : Loc := ⟨Layout.addr d 0x71 (0x58C), 0, 7⟩
def ADC_VAL (d j : Nat) : Loc := ⟨Layout.addr d 0x71 (0x080 + 0x4 * j), 0, 12⟩
def ADC_AVG (d j : Nat) : Loc := ⟨Layout.addr d 0x71 (0x080 + 0x4 * j), 16, 3⟩
def ADC_EN (d j : Nat) : Loc := ⟨Layout.addr d 0x71 (0x080 + 0x4 * j), 24, 1⟩
def HTR_CFG_MODE (d j : Nat) : Loc := ⟨Layout.addr d 0x71 (0x100 + 0x8 * j), 0, 2⟩
def HTR_CFG_FIRE_W (d j : Nat) : Loc := ⟨Layout.addr d 0x71 (0x100 + 0x8 * j), 8, 8⟩
def HTR_STAT_DUTY (d j : Nat) : Loc := ⟨Layout.addr d 0x71 (0x104 + 0x8 * j), 0, 16⟩
def HTR_STAT_ON (d j : Nat) : Loc := ⟨Layout.addr d 0x71 (0x104 + 0x8 * j), 16, 1⟩
def ZC_CFG_FILT (d : Nat) : Loc := ⟨Layout.addr d 0x71 (0x120), 0, 8⟩
def ZC_STAT_HALF (d : Nat) : Loc := ⟨Layout.addr d 0x71 (0x124), 0, 16⟩
def ZC_STAT_OK (d : Nat) : Loc := ⟨Layout.addr d 0x71 (0x124), 16, 1⟩
def HV_CFG_EN (d j : Nat) : Loc := ⟨Layout.addr d 0x71 (0x140 + 0x8 * j), 0, 1⟩
def HV_CFG_LIM (d j : Nat) : Loc := ⟨Layout.addr d 0x71 (0x140 + 0x8 * j), 16, 12⟩
def HV_VAL_DAC (d j : Nat) : Loc := ⟨Layout.addr d 0x71 (0x144 + 0x8 * j), 0, 16⟩
def HV_VAL_MON (d j : Nat) : Loc := ⟨Layout.addr d 0x71 (0x144 + 0x8 * j), 16, 12⟩
end PIO

namespace CUE
def CUE_CTL_INDEX (d : Nat) : Loc := ⟨Layout.addr d 0x60 (0x040), 0, 9⟩
def CUE_CTL_ARM (d : Nat) : Loc := ⟨Layout.addr d 0x60 (0x040), 16, 1⟩
def CUE_CTL_DISARM (d : Nat) : Loc := ⟨Layout.addr d 0x60 (0x040), 17, 1⟩
def CUE_CTL_UNFENCE (d : Nat) : Loc := ⟨Layout.addr d 0x60 (0x040), 18, 1⟩
def CUE_ERR_INDEX (d : Nat) : Loc := ⟨Layout.addr d 0x60 (0x044), 0, 9⟩
def CUE_ERR_REASON (d : Nat) : Loc := ⟨Layout.addr d 0x60 (0x044), 12, 4⟩
def CUE_ERR_VALID (d : Nat) : Loc := ⟨Layout.addr d 0x60 (0x044), 31, 1⟩
def CUE_CNT_LATE (d : Nat) : Loc := ⟨Layout.addr d 0x60 (0x048), 0, 16⟩
def CUE_CNT_REFUSED (d : Nat) : Loc := ⟨Layout.addr d 0x60 (0x048), 16, 16⟩
def POS_ADJ_DELTA (d : Nat) : Loc := ⟨Layout.addr d 0x60 (0x04C), 0, 32⟩
def POS_ADJ_CTL_COUNTER (d : Nat) : Loc := ⟨Layout.addr d 0x60 (0x050), 0, 3⟩
def POS_ADJ_CTL_GO (d : Nat) : Loc := ⟨Layout.addr d 0x60 (0x050), 31, 1⟩
def CUE_ARMED (d j : Nat) : Loc := ⟨Layout.addr d 0x60 (0x080 + 0x4 * j), 0, 32⟩
def CUE_FIRED (d j : Nat) : Loc := ⟨Layout.addr d 0x60 (0x0C0 + 0x4 * j), 0, 32⟩
def CUE_FENCED (d j : Nat) : Loc := ⟨Layout.addr d 0x60 (0x100 + 0x4 * j), 0, 32⟩
def POS_CFG_SRC (d j : Nat) : Loc := ⟨Layout.addr d 0x60 (0x140 + 0x4 * j), 0, 3⟩
def POS_CFG_MODE (d j : Nat) : Loc := ⟨Layout.addr d 0x60 (0x140 + 0x4 * j), 4, 2⟩
def POS_CFG_INV (d j : Nat) : Loc := ⟨Layout.addr d 0x60 (0x140 + 0x4 * j), 6, 1⟩
def POS_CFG_IDX_ZERO (d j : Nat) : Loc := ⟨Layout.addr d 0x60 (0x140 + 0x4 * j), 7, 1⟩
def POS_CFG_FILT (d j : Nat) : Loc := ⟨Layout.addr d 0x60 (0x140 + 0x4 * j), 8, 8⟩
def POS_LO_COUNT (d j : Nat) : Loc := ⟨Layout.addr d 0x60 (0x160 + 0x8 * j), 0, 32⟩
def POS_HI_COUNT (d j : Nat) : Loc := ⟨Layout.addr d 0x60 (0x164 + 0x8 * j), 0, 16⟩
def POS_IDX_COUNT (d j : Nat) : Loc := ⟨Layout.addr d 0x60 (0x1A0 + 0x4 * j), 0, 32⟩
def POS_ERR_QUAD (d j : Nat) : Loc := ⟨Layout.addr d 0x60 (0x1C0 + 0x4 * j), 0, 16⟩
def STA_PATH_EN (d j : Nat) : Loc := ⟨Layout.addr d 0x60 (0x200 + 0x20 * j), 0, 1⟩
def STA_PATH_PATH (d j : Nat) : Loc := ⟨Layout.addr d 0x60 (0x200 + 0x20 * j), 1, 1⟩
def STA_PATH_COUNTER (d j : Nat) : Loc := ⟨Layout.addr d 0x60 (0x200 + 0x20 * j), 4, 3⟩
def STA_OFFS_OFFS (d j : Nat) : Loc := ⟨Layout.addr d 0x60 (0x204 + 0x20 * j), 0, 32⟩
def STA_RES_LO_POS (d j : Nat) : Loc := ⟨Layout.addr d 0x60 (0x208 + 0x20 * j), 0, 32⟩
def STA_RES_HI_POS (d j : Nat) : Loc := ⟨Layout.addr d 0x60 (0x20C + 0x20 * j), 0, 24⟩
def STA_START_PENDING (d j : Nat) : Loc := ⟨Layout.addr d 0x60 (0x210 + 0x20 * j), 0, 5⟩
def STA_START_REFUSED (d j : Nat) : Loc := ⟨Layout.addr d 0x60 (0x210 + 0x20 * j), 8, 8⟩
def PATH_CFG_EN (d j : Nat) : Loc := ⟨Layout.addr d 0x60 (0x300 + 0x40 * j), 0, 1⟩
def PATH_CFG_MODE (d j : Nat) : Loc := ⟨Layout.addr d 0x60 (0x300 + 0x40 * j), 1, 1⟩
def PATH_CFG_AUTO (d j : Nat) : Loc := ⟨Layout.addr d 0x60 (0x300 + 0x40 * j), 2, 1⟩
def PATH_CFG_MDIE (d j : Nat) : Loc := ⟨Layout.addr d 0x60 (0x300 + 0x40 * j), 4, 3⟩
def PATH_CFG_MLOOP (d j : Nat) : Loc := ⟨Layout.addr d 0x60 (0x300 + 0x40 * j), 8, 8⟩
def PATH_CFG_COUNTER (d j : Nat) : Loc := ⟨Layout.addr d 0x60 (0x300 + 0x40 * j), 16, 3⟩
def PATH_RUNUP_COUNTS (d j : Nat) : Loc := ⟨Layout.addr d 0x60 (0x304 + 0x40 * j), 0, 32⟩
def PATH_SETTLE_TIME (d j : Nat) : Loc := ⟨Layout.addr d 0x60 (0x308 + 0x40 * j), 0, 16⟩
def PATH_VBACK_RATIO (d j : Nat) : Loc := ⟨Layout.addr d 0x60 (0x30C + 0x40 * j), 0, 16⟩
def PATH_CTL_STOP (d j : Nat) : Loc := ⟨Layout.addr d 0x60 (0x310 + 0x40 * j), 0, 1⟩
def PATH_CTL_RESUME (d j : Nat) : Loc := ⟨Layout.addr d 0x60 (0x310 + 0x40 * j), 1, 1⟩
def PATH_CTL_CLEAR (d j : Nat) : Loc := ⟨Layout.addr d 0x60 (0x310 + 0x40 * j), 2, 1⟩
def PATH_STAT_STATE (d j : Nat) : Loc := ⟨Layout.addr d 0x60 (0x314 + 0x40 * j), 0, 3⟩
def PATH_STAT_CAUSE (d j : Nat) : Loc := ⟨Layout.addr d 0x60 (0x314 + 0x40 * j), 4, 3⟩
def PATH_STAT_RHO (d j : Nat) : Loc := ⟨Layout.addr d 0x60 (0x314 + 0x40 * j), 16, 16⟩
def PATH_BACK_LO_COUNT (d j : Nat) : Loc := ⟨Layout.addr d 0x60 (0x318 + 0x40 * j), 0, 32⟩
def PATH_BACK_HI_COUNT (d j : Nat) : Loc := ⟨Layout.addr d 0x60 (0x31C + 0x40 * j), 0, 16⟩
def PATH_CNT_STOPS (d j : Nat) : Loc := ⟨Layout.addr d 0x60 (0x320 + 0x40 * j), 0, 16⟩
def PATH_CNT_PURGES (d j : Nat) : Loc := ⟨Layout.addr d 0x60 (0x320 + 0x40 * j), 16, 16⟩
def PURGE_CFG_CUE (d j : Nat) : Loc := ⟨Layout.addr d 0x60 (0x324 + 0x40 * j), 0, 9⟩
def PURGE_CFG_EN (d j : Nat) : Loc := ⟨Layout.addr d 0x60 (0x324 + 0x40 * j), 15, 1⟩
def PURGE_OFFS_COUNTS (d j : Nat) : Loc := ⟨Layout.addr d 0x60 (0x328 + 0x40 * j), 0, 32⟩
def PURGE_FSN_FSN (d : Nat) : Loc := ⟨Layout.addr d 0x60 (0x3C0), 0, 32⟩
def PURGE_STAT_COUNT (d : Nat) : Loc := ⟨Layout.addr d 0x60 (0x3C4), 0, 5⟩
def PURGE_STAT_PATH (d : Nat) : Loc := ⟨Layout.addr d 0x60 (0x3C4), 8, 1⟩
def PURGE_STAT_OVF (d : Nat) : Loc := ⟨Layout.addr d 0x60 (0x3C4), 31, 1⟩
end CUE

namespace STEP
def CFG_PW (d j : Nat) : Loc := ⟨Layout.addr d 0x68 (0x100 + 0x40 * j), 0, 8⟩
def CFG_DIR_SETUP (d j : Nat) : Loc := ⟨Layout.addr d 0x68 (0x100 + 0x40 * j), 8, 8⟩
def CFG_DIR_HOLD (d j : Nat) : Loc := ⟨Layout.addr d 0x68 (0x100 + 0x40 * j), 16, 8⟩
def CFG_STEP_POL (d j : Nat) : Loc := ⟨Layout.addr d 0x68 (0x100 + 0x40 * j), 24, 1⟩
def CFG_DIR_INV (d j : Nat) : Loc := ⟨Layout.addr d 0x68 (0x100 + 0x40 * j), 25, 1⟩
def EN_CTL_EN (d j : Nat) : Loc := ⟨Layout.addr d 0x68 (0x104 + 0x40 * j), 0, 1⟩
def EN_CTL_EN_SETUP (d j : Nat) : Loc := ⟨Layout.addr d 0x68 (0x104 + 0x40 * j), 8, 16⟩
def VMAX_V (d j : Nat) : Loc := ⟨Layout.addr d 0x68 (0x108 + 0x40 * j), 0, 22⟩
def AMAX_A (d j : Nat) : Loc := ⟨Layout.addr d 0x68 (0x10C + 0x40 * j), 0, 32⟩
def JMAX_J (d j : Nat) : Loc := ⟨Layout.addr d 0x68 (0x110 + 0x40 * j), 0, 32⟩
def QDEC_A (d j : Nat) : Loc := ⟨Layout.addr d 0x68 (0x114 + 0x40 * j), 0, 32⟩
def TARGET_POS (d j : Nat) : Loc := ⟨Layout.addr d 0x68 (0x118 + 0x40 * j), 0, 32⟩
def CTL_GO (d j : Nat) : Loc := ⟨Layout.addr d 0x68 (0x11C + 0x40 * j), 0, 1⟩
def CTL_STOP (d j : Nat) : Loc := ⟨Layout.addr d 0x68 (0x11C + 0x40 * j), 1, 1⟩
def CTL_QSTOP (d j : Nat) : Loc := ⟨Layout.addr d 0x68 (0x11C + 0x40 * j), 2, 1⟩
def CTL_UNFENCE (d j : Nat) : Loc := ⟨Layout.addr d 0x68 (0x11C + 0x40 * j), 3, 1⟩
def POS_POS (d j : Nat) : Loc := ⟨Layout.addr d 0x68 (0x120 + 0x40 * j), 0, 32⟩
def VNOW_V (d j : Nat) : Loc := ⟨Layout.addr d 0x68 (0x124 + 0x40 * j), 0, 23⟩
def STAT_PHASE (d j : Nat) : Loc := ⟨Layout.addr d 0x68 (0x128 + 0x40 * j), 0, 4⟩
def STAT_LIM_PEND (d j : Nat) : Loc := ⟨Layout.addr d 0x68 (0x128 + 0x40 * j), 4, 1⟩
def STAT_TGT_PEND (d j : Nat) : Loc := ⟨Layout.addr d 0x68 (0x128 + 0x40 * j), 5, 1⟩
def STAT_HOLDING (d j : Nat) : Loc := ⟨Layout.addr d 0x68 (0x128 + 0x40 * j), 6, 1⟩
def STAT_RESULT (d j : Nat) : Loc := ⟨Layout.addr d 0x68 (0x128 + 0x40 * j), 8, 3⟩
def IREF_CFG_IRUN (d j : Nat) : Loc := ⟨Layout.addr d 0x68 (0x12C + 0x40 * j), 0, 10⟩
def IREF_CFG_IHOLD (d j : Nat) : Loc := ⟨Layout.addr d 0x68 (0x12C + 0x40 * j), 16, 10⟩
def HOLD_CFG_DELAY (d j : Nat) : Loc := ⟨Layout.addr d 0x68 (0x130 + 0x40 * j), 0, 14⟩
def HOLD_CFG_RAMP (d j : Nat) : Loc := ⟨Layout.addr d 0x68 (0x130 + 0x40 * j), 16, 14⟩
def IREF_SETUP_TIME (d j : Nat) : Loc := ⟨Layout.addr d 0x68 (0x134 + 0x40 * j), 0, 16⟩
def VCREEP_V (d j : Nat) : Loc := ⟨Layout.addr d 0x68 (0x138 + 0x40 * j), 0, 16⟩
def CNT_REFUSED (d j : Nat) : Loc := ⟨Layout.addr d 0x68 (0x13C + 0x40 * j), 0, 16⟩
def CNT_DEFERRED (d j : Nat) : Loc := ⟨Layout.addr d 0x68 (0x13C + 0x40 * j), 16, 16⟩
end STEP

namespace FOC
def CFG0_PERIOD (d j : Nat) : Loc := ⟨Layout.addr d 0x69 (0x100 + 0x80 * j), 0, 14⟩
def CFG0_DEAD (d j : Nat) : Loc := ⟨Layout.addr d 0x69 (0x100 + 0x80 * j), 16, 8⟩
def CFG0_POLES (d j : Nat) : Loc := ⟨Layout.addr d 0x69 (0x100 + 0x80 * j), 24, 4⟩
def CFG0_BUS (d j : Nat) : Loc := ⟨Layout.addr d 0x69 (0x100 + 0x80 * j), 28, 2⟩
def CFG1_SENSE (d j : Nat) : Loc := ⟨Layout.addr d 0x69 (0x104 + 0x80 * j), 0, 2⟩
def CFG1_COUNTER (d j : Nat) : Loc := ⟨Layout.addr d 0x69 (0x104 + 0x80 * j), 4, 3⟩
def CFG1_START (d j : Nat) : Loc := ⟨Layout.addr d 0x69 (0x104 + 0x80 * j), 8, 1⟩
def CFG1_IQ_SRC (d j : Nat) : Loc := ⟨Layout.addr d 0x69 (0x104 + 0x80 * j), 12, 1⟩
def CFG1_LOOP (d j : Nat) : Loc := ⟨Layout.addr d 0x69 (0x104 + 0x80 * j), 16, 8⟩
def ENC_CPR_CPR (d j : Nat) : Loc := ⟨Layout.addr d 0x69 (0x108 + 0x80 * j), 0, 24⟩
def MIN_WIN_WIN (d j : Nat) : Loc := ⟨Layout.addr d 0x69 (0x10C + 0x80 * j), 0, 12⟩
def CUR_REF_ID (d j : Nat) : Loc := ⟨Layout.addr d 0x69 (0x110 + 0x80 * j), 0, 16⟩
def CUR_REF_IQ (d j : Nat) : Loc := ⟨Layout.addr d 0x69 (0x110 + 0x80 * j), 16, 16⟩
def CUR_KP_D (d j : Nat) : Loc := ⟨Layout.addr d 0x69 (0x114 + 0x80 * j), 0, 16⟩
def CUR_KP_Q (d j : Nat) : Loc := ⟨Layout.addr d 0x69 (0x114 + 0x80 * j), 16, 16⟩
def CUR_KI_D (d j : Nat) : Loc := ⟨Layout.addr d 0x69 (0x118 + 0x80 * j), 0, 16⟩
def CUR_KI_Q (d j : Nat) : Loc := ⟨Layout.addr d 0x69 (0x118 + 0x80 * j), 16, 16⟩
def OBS_RL_RS (d j : Nat) : Loc := ⟨Layout.addr d 0x69 (0x11C + 0x80 * j), 0, 16⟩
def OBS_RL_LS (d j : Nat) : Loc := ⟨Layout.addr d 0x69 (0x11C + 0x80 * j), 16, 16⟩
def OBS_MIN_SPEED (d j : Nat) : Loc := ⟨Layout.addr d 0x69 (0x120 + 0x80 * j), 0, 32⟩
def ADV_STEP_SPEED (d j : Nat) : Loc := ⟨Layout.addr d 0x69 (0x124 + 0x80 * j), 0, 24⟩
def CATCH_CFG_TIME (d j : Nat) : Loc := ⟨Layout.addr d 0x69 (0x128 + 0x80 * j), 0, 8⟩
def CATCH_CFG_BRAKE_TMO (d j : Nat) : Loc := ⟨Layout.addr d 0x69 (0x128 + 0x80 * j), 16, 16⟩
def CATCH_MIN_SPEED (d j : Nat) : Loc := ⟨Layout.addr d 0x69 (0x12C + 0x80 * j), 0, 32⟩
def REV_THR_SPEED (d j : Nat) : Loc := ⟨Layout.addr d 0x69 (0x130 + 0x80 * j), 0, 32⟩
def ILIM_BRAKE (d j : Nat) : Loc := ⟨Layout.addr d 0x69 (0x134 + 0x80 * j), 0, 16⟩
def ILIM_OC (d j : Nat) : Loc := ⟨Layout.addr d 0x69 (0x134 + 0x80 * j), 16, 16⟩
def ALIGN_I (d j : Nat) : Loc := ⟨Layout.addr d 0x69 (0x138 + 0x80 * j), 0, 16⟩
def ALIGN_T (d j : Nat) : Loc := ⟨Layout.addr d 0x69 (0x138 + 0x80 * j), 16, 16⟩
def OPEN_RATE_RATE (d j : Nat) : Loc := ⟨Layout.addr d 0x69 (0x13C + 0x80 * j), 0, 24⟩
def CTL_EN (d j : Nat) : Loc := ⟨Layout.addr d 0x69 (0x140 + 0x80 * j), 0, 1⟩
def CTL_UNFENCE (d j : Nat) : Loc := ⟨Layout.addr d 0x69 (0x140 + 0x80 * j), 1, 1⟩
def STAT_STATE (d j : Nat) : Loc := ⟨Layout.addr d 0x69 (0x144 + 0x80 * j), 0, 3⟩
def STAT_DIR (d j : Nat) : Loc := ⟨Layout.addr d 0x69 (0x144 + 0x80 * j), 4, 1⟩
def STAT_LIMITED (d j : Nat) : Loc := ⟨Layout.addr d 0x69 (0x144 + 0x80 * j), 5, 1⟩
def STAT_CLAMP (d j : Nat) : Loc := ⟨Layout.addr d 0x69 (0x144 + 0x80 * j), 6, 1⟩
def STAT_OBS_OK (d j : Nat) : Loc := ⟨Layout.addr d 0x69 (0x144 + 0x80 * j), 7, 1⟩
def STAT_HALL (d j : Nat) : Loc := ⟨Layout.addr d 0x69 (0x144 + 0x80 * j), 8, 3⟩
def SPEED_SPEED (d j : Nat) : Loc := ⟨Layout.addr d 0x69 (0x148 + 0x80 * j), 0, 32⟩
def ANGLE_THETA (d j : Nat) : Loc := ⟨Layout.addr d 0x69 (0x14C + 0x80 * j), 0, 16⟩
def ANGLE_MOD (d j : Nat) : Loc := ⟨Layout.addr d 0x69 (0x14C + 0x80 * j), 16, 16⟩
def IDQ_ID (d j : Nat) : Loc := ⟨Layout.addr d 0x69 (0x150 + 0x80 * j), 0, 16⟩
def IDQ_IQ (d j : Nat) : Loc := ⟨Layout.addr d 0x69 (0x150 + 0x80 * j), 16, 16⟩
def ANG_OFFS_OFFS (d j : Nat) : Loc := ⟨Layout.addr d 0x69 (0x154 + 0x80 * j), 0, 16⟩
def FCNT_LIMITED (d j : Nat) : Loc := ⟨Layout.addr d 0x69 (0x158 + 0x80 * j), 0, 16⟩
def FCNT_BRAKES (d j : Nat) : Loc := ⟨Layout.addr d 0x69 (0x158 + 0x80 * j), 16, 16⟩
def ADV_LO (d j m : Nat) : Loc := ⟨Layout.addr d 0x69 (0x400 + 0x40 * j + 0x4 * m), 0, 16⟩
def ADV_HI (d j m : Nat) : Loc := ⟨Layout.addr d 0x69 (0x400 + 0x40 * j + 0x4 * m), 16, 16⟩
end FOC

namespace BUS
def VB_CFG_OV_REGEN (d j : Nat) : Loc := ⟨Layout.addr d 0x6A (0x100 + 0x40 * j), 0, 12⟩
def VB_CFG_OV_HARD (d j : Nat) : Loc := ⟨Layout.addr d 0x6A (0x100 + 0x40 * j), 16, 12⟩
def CHOP_CFG_CH_ON (d j : Nat) : Loc := ⟨Layout.addr d 0x6A (0x104 + 0x40 * j), 0, 12⟩
def CHOP_CFG_CH_OFF (d j : Nat) : Loc := ⟨Layout.addr d 0x6A (0x104 + 0x40 * j), 16, 12⟩
def CHOP_CFG_MODE (d j : Nat) : Loc := ⟨Layout.addr d 0x6A (0x104 + 0x40 * j), 31, 1⟩
def INEFF_TIME (d j : Nat) : Loc := ⟨Layout.addr d 0x6A (0x108 + 0x40 * j), 0, 16⟩
def INEFF_RISE (d j : Nat) : Loc := ⟨Layout.addr d 0x6A (0x108 + 0x40 * j), 16, 12⟩
def UVH_UV_LIM (d j : Nat) : Loc := ⟨Layout.addr d 0x6A (0x10C + 0x40 * j), 0, 12⟩
def UVH_HYST (d j : Nat) : Loc := ⟨Layout.addr d 0x6A (0x10C + 0x40 * j), 16, 12⟩
def BUS_CTL_MBRK_REL (d j : Nat) : Loc := ⟨Layout.addr d 0x6A (0x110 + 0x40 * j), 0, 1⟩
def BUS_CTL_UNFENCE (d j : Nat) : Loc := ⟨Layout.addr d 0x6A (0x110 + 0x40 * j), 1, 1⟩
def BUS_CTL_CHOP_BAD_CLR (d j : Nat) : Loc := ⟨Layout.addr d 0x6A (0x110 + 0x40 * j), 2, 1⟩
def BUS_STAT_V (d j : Nat) : Loc := ⟨Layout.addr d 0x6A (0x114 + 0x40 * j), 0, 12⟩
def BUS_STAT_CHOP (d j : Nat) : Loc := ⟨Layout.addr d 0x6A (0x114 + 0x40 * j), 12, 1⟩
def BUS_STAT_CLAMP (d j : Nat) : Loc := ⟨Layout.addr d 0x6A (0x114 + 0x40 * j), 13, 1⟩
def BUS_STAT_TRIPPED (d j : Nat) : Loc := ⟨Layout.addr d 0x6A (0x114 + 0x40 * j), 14, 1⟩
def BUS_STAT_MBRK (d j : Nat) : Loc := ⟨Layout.addr d 0x6A (0x114 + 0x40 * j), 15, 1⟩
def BUS_STAT_CHOP_BAD (d j : Nat) : Loc := ⟨Layout.addr d 0x6A (0x114 + 0x40 * j), 16, 1⟩
def BUS_CNT_CHOPS (d j : Nat) : Loc := ⟨Layout.addr d 0x6A (0x118 + 0x40 * j), 0, 16⟩
def BUS_CNT_CLAMPS (d j : Nat) : Loc := ⟨Layout.addr d 0x6A (0x118 + 0x40 * j), 16, 16⟩
def BUS_PEAK_V (d j : Nat) : Loc := ⟨Layout.addr d 0x6A (0x11C + 0x40 * j), 0, 12⟩
end BUS

namespace LOOP
def LOOP_CTL_INDEX (d : Nat) : Loc := ⟨Layout.addr d 0x70 (0x040), 0, 8⟩
def LOOP_CTL_ENABLE (d : Nat) : Loc := ⟨Layout.addr d 0x70 (0x040), 16, 1⟩
def LOOP_CTL_DISABLE (d : Nat) : Loc := ⟨Layout.addr d 0x70 (0x040), 17, 1⟩
def LOOP_CTL_AUTO (d : Nat) : Loc := ⟨Layout.addr d 0x70 (0x040), 18, 1⟩
def LOOP_CTL_MANUAL (d : Nat) : Loc := ⟨Layout.addr d 0x70 (0x040), 19, 1⟩
def LOOP_CTL_UNFENCE (d : Nat) : Loc := ⟨Layout.addr d 0x70 (0x040), 20, 1⟩
def LOOP_ERR_INDEX (d : Nat) : Loc := ⟨Layout.addr d 0x70 (0x044), 0, 8⟩
def LOOP_ERR_REASON (d : Nat) : Loc := ⟨Layout.addr d 0x70 (0x044), 8, 4⟩
def LOOP_ERR_VALID (d : Nat) : Loc := ⟨Layout.addr d 0x70 (0x044), 31, 1⟩
def LOAD_MAX (d : Nat) : Loc := ⟨Layout.addr d 0x70 (0x048), 0, 7⟩
def LOAD_SLOT (d : Nat) : Loc := ⟨Layout.addr d 0x70 (0x048), 8, 6⟩
def LOOP_EN (d j : Nat) : Loc := ⟨Layout.addr d 0x70 (0x050 + 0x4 * j), 0, 32⟩
def LOOP_AUTO (d j : Nat) : Loc := ⟨Layout.addr d 0x70 (0x064 + 0x4 * j), 0, 32⟩
def LOOP_FENCED (d j : Nat) : Loc := ⟨Layout.addr d 0x70 (0x078 + 0x4 * j), 0, 32⟩
def FE_CNT_TRIPS (d : Nat) : Loc := ⟨Layout.addr d 0x70 (0x08C), 0, 16⟩
def CFF_ROUTE_EN (d j : Nat) : Loc := ⟨Layout.addr d 0x70 (0x090 + 0x4 * j), 0, 1⟩
def CFF_ROUTE_DIE (d j : Nat) : Loc := ⟨Layout.addr d 0x70 (0x090 + 0x4 * j), 4, 3⟩
def CFF_CPC_CPC (d j : Nat) : Loc := ⟨Layout.addr d 0x70 (0x098 + 0x4 * j), 0, 24⟩
def CFF_CFG_STATIONS (d j : Nat) : Loc := ⟨Layout.addr d 0x70 (0x0A0 + 0x8 * j), 0, 16⟩
def CFF_CFG_ZONES (d j : Nat) : Loc := ⟨Layout.addr d 0x70 (0x0A0 + 0x8 * j), 16, 16⟩
def CFF_DLY_COUNTS (d j : Nat) : Loc := ⟨Layout.addr d 0x70 (0x0A4 + 0x8 * j), 0, 32⟩
def CFF_CNT_COUNTER (d : Nat) : Loc := ⟨Layout.addr d 0x70 (0x0E0), 0, 3⟩
def CFF_OUT_VALUE (d j : Nat) : Loc := ⟨Layout.addr d 0x70 (0x0E4 + 0x4 * j), 0, 16⟩
def CFF_LATE_COUNT (d : Nat) : Loc := ⟨Layout.addr d 0x70 (0x104), 0, 16⟩
def SP_SP (d j : Nat) : Loc := ⟨Layout.addr d 0x70 (0x400 + 0x4 * j), 0, 16⟩
def MAN_OUT (d j : Nat) : Loc := ⟨Layout.addr d 0x70 (0x700 + 0x4 * j), 0, 16⟩
def OUT_U (d j : Nat) : Loc := ⟨Layout.addr d 0x70 (0xA00 + 0x4 * j), 0, 16⟩
def OUT_Y (d j : Nat) : Loc := ⟨Layout.addr d 0x70 (0xA00 + 0x4 * j), 16, 16⟩
def CFF_WT (d j m : Nat) : Loc := ⟨Layout.addr d 0x70 (0xD00 + 0x20 * j + 0x4 * m), 0, 32⟩
end LOOP

namespace GPIO
def GPIO_IN_LEVEL (d : Nat) : Loc := ⟨Layout.addr d 0x78 (0x040), 0, 32⟩
def GPIO_OUT_LEVEL (d : Nat) : Loc := ⟨Layout.addr d 0x78 (0x044), 0, 32⟩
def GPIO_SET_PINS (d : Nat) : Loc := ⟨Layout.addr d 0x78 (0x048), 0, 32⟩
def GPIO_CLR_PINS (d : Nat) : Loc := ⟨Layout.addr d 0x78 (0x04C), 0, 32⟩
def SPLICE_CFG_PIN (d : Nat) : Loc := ⟨Layout.addr d 0x78 (0x050), 0, 5⟩
def SPLICE_CFG_POL (d : Nat) : Loc := ⟨Layout.addr d 0x78 (0x050), 5, 1⟩
def SPLICE_CFG_EN (d : Nat) : Loc := ⟨Layout.addr d 0x78 (0x050), 6, 1⟩
def SPLICE_CFG_COUNTER (d : Nat) : Loc := ⟨Layout.addr d 0x78 (0x050), 8, 3⟩
def SPLICE_POS_LO_P (d : Nat) : Loc := ⟨Layout.addr d 0x78 (0x054), 0, 32⟩
def SPLICE_POS_HI_P (d : Nat) : Loc := ⟨Layout.addr d 0x78 (0x058), 0, 24⟩
def SPLICE_T_STIME (d : Nat) : Loc := ⟨Layout.addr d 0x78 (0x05C), 0, 32⟩
def SPLICE_CNT_COUNT (d : Nat) : Loc := ⟨Layout.addr d 0x78 (0x060), 0, 16⟩
def PIN_CFG_FUNC (d j : Nat) : Loc := ⟨Layout.addr d 0x78 (0x100 + 0x4 * j), 0, 2⟩
def PIN_CFG_OD (d j : Nat) : Loc := ⟨Layout.addr d 0x78 (0x100 + 0x4 * j), 2, 1⟩
def PIN_CFG_PULL (d j : Nat) : Loc := ⟨Layout.addr d 0x78 (0x100 + 0x4 * j), 4, 2⟩
def PIN_CFG_FILT (d j : Nat) : Loc := ⟨Layout.addr d 0x78 (0x100 + 0x4 * j), 8, 8⟩
def PIN_CFG_EV_RISE (d j : Nat) : Loc := ⟨Layout.addr d 0x78 (0x100 + 0x4 * j), 16, 1⟩
def PIN_CFG_EV_FALL (d j : Nat) : Loc := ⟨Layout.addr d 0x78 (0x100 + 0x4 * j), 17, 1⟩
end GPIO

namespace TIME
def LT_LO_LTIME (d : Nat) : Loc := ⟨Layout.addr d 0x32 (0x040), 0, 32⟩
def LT_HI_LTIME (d : Nat) : Loc := ⟨Layout.addr d 0x32 (0x044), 0, 32⟩
def STIME_STIME (d : Nat) : Loc := ⟨Layout.addr d 0x32 (0x048), 0, 32⟩
def RATE_CORR (d : Nat) : Loc := ⟨Layout.addr d 0x32 (0x04C), 0, 32⟩
def SYNC_STAT_ERR (d : Nat) : Loc := ⟨Layout.addr d 0x32 (0x050), 0, 16⟩
def SYNC_STAT_STEPS (d : Nat) : Loc := ⟨Layout.addr d 0x32 (0x050), 16, 8⟩
def SYNC_STAT_MISSED (d : Nat) : Loc := ⟨Layout.addr d 0x32 (0x050), 24, 8⟩
def SYNC_CFG_STEP_THR (d : Nat) : Loc := ⟨Layout.addr d 0x32 (0x054), 0, 16⟩
def SYNC_CFG_MISS_LIM (d : Nat) : Loc := ⟨Layout.addr d 0x32 (0x054), 16, 4⟩
def MORT_LAT_NS (d : Nat) : Loc := ⟨Layout.addr d 0x32 (0x058), 0, 16⟩
def FRC_LO_COUNT (d : Nat) : Loc := ⟨Layout.addr d 0x32 (0x05C), 0, 32⟩
def FRC_HI_COUNT (d : Nat) : Loc := ⟨Layout.addr d 0x32 (0x060), 0, 32⟩
def MT_NS_NS (d : Nat) : Loc := ⟨Layout.addr d 0x32 (0x080), 0, 32⟩
def MT_SEC_LO_SEC (d : Nat) : Loc := ⟨Layout.addr d 0x32 (0x084), 0, 32⟩
def MT_SEC_HI_SEC (d : Nat) : Loc := ⟨Layout.addr d 0x32 (0x088), 0, 16⟩
def INCR_FRAC_FRAC (d : Nat) : Loc := ⟨Layout.addr d 0x32 (0x08C), 0, 32⟩
def INCR_NS_NS (d : Nat) : Loc := ⟨Layout.addr d 0x32 (0x090), 0, 32⟩
def ADJ_NS (d : Nat) : Loc := ⟨Layout.addr d 0x32 (0x094), 0, 32⟩
def SET_NS_NS (d : Nat) : Loc := ⟨Layout.addr d 0x32 (0x098), 0, 32⟩
def SET_SEC_LO_SEC (d : Nat) : Loc := ⟨Layout.addr d 0x32 (0x09C), 0, 32⟩
def SET_SEC_HI_SEC (d : Nat) : Loc := ⟨Layout.addr d 0x32 (0x0A0), 0, 16⟩
def SET_CTL_GO (d : Nat) : Loc := ⟨Layout.addr d 0x32 (0x0A4), 0, 1⟩
end TIME

namespace ELNK
def SYNC_TMO_MS (d : Nat) : Loc := ⟨Layout.addr d 0x31 (0x040), 0, 16⟩
def HOLD_STAT_HOLDOVER (d : Nat) : Loc := ⟨Layout.addr d 0x31 (0x044), 0, 1⟩
def GM_ID_LO_ID (d : Nat) : Loc := ⟨Layout.addr d 0x31 (0x048), 0, 32⟩
def GM_ID_MID_ID (d : Nat) : Loc := ⟨Layout.addr d 0x31 (0x04C), 0, 32⟩
def GM_ID_HI_ID (d : Nat) : Loc := ⟨Layout.addr d 0x31 (0x050), 0, 16⟩
def PCFG_EN (d j : Nat) : Loc := ⟨Layout.addr d 0x31 (0x100 + 0x100 * j), 0, 1⟩
def PCFG_PROMISC (d j : Nat) : Loc := ⟨Layout.addr d 0x31 (0x100 + 0x100 * j), 1, 1⟩
def PCFG_MCAST (d j : Nat) : Loc := ⟨Layout.addr d 0x31 (0x100 + 0x100 * j), 2, 1⟩
def MAC_LO_ADDR (d j : Nat) : Loc := ⟨Layout.addr d 0x31 (0x104 + 0x100 * j), 0, 32⟩
def MAC_HI_ADDR (d j : Nat) : Loc := ⟨Layout.addr d 0x31 (0x108 + 0x100 * j), 0, 16⟩
def LAT_EGR (d j : Nat) : Loc := ⟨Layout.addr d 0x31 (0x10C + 0x100 * j), 0, 16⟩
def LAT_ING (d j : Nat) : Loc := ⟨Layout.addr d 0x31 (0x10C + 0x100 * j), 16, 16⟩
def LATE_TOL_NS (d j : Nat) : Loc := ⟨Layout.addr d 0x31 (0x110 + 0x100 * j), 0, 16⟩
def TX_KICK_QUEUE (d j : Nat) : Loc := ⟨Layout.addr d 0x31 (0x114 + 0x100 * j), 0, 3⟩
def RX_KICK_GO (d j : Nat) : Loc := ⟨Layout.addr d 0x31 (0x118 + 0x100 * j), 0, 1⟩
def RX_BASE_LO_ADDR (d j : Nat) : Loc := ⟨Layout.addr d 0x31 (0x120 + 0x100 * j), 0, 32⟩
def RX_BASE_HI_ADDR (d j : Nat) : Loc := ⟨Layout.addr d 0x31 (0x124 + 0x100 * j), 0, 32⟩
def RX_CFG_SIZE (d j : Nat) : Loc := ⟨Layout.addr d 0x31 (0x128 + 0x100 * j), 0, 16⟩
def RX_CFG_NEXT (d j : Nat) : Loc := ⟨Layout.addr d 0x31 (0x128 + 0x100 * j), 16, 16⟩
def TXQ_BASE_LO (d j m : Nat) : Loc := ⟨Layout.addr d 0x31 (0x140 + 0x100 * j + 0x10 * m), 0, 32⟩
def TXQ_BASE_HI (d j m : Nat) : Loc := ⟨Layout.addr d 0x31 (0x144 + 0x100 * j + 0x10 * m), 0, 32⟩
def TXQ_CFG_SIZE (d j m : Nat) : Loc := ⟨Layout.addr d 0x31 (0x148 + 0x100 * j + 0x10 * m), 0, 16⟩
def TXQ_CFG_NEXT (d j m : Nat) : Loc := ⟨Layout.addr d 0x31 (0x148 + 0x100 * j + 0x10 * m), 16, 16⟩
def RX_OK_COUNT (d j : Nat) : Loc := ⟨Layout.addr d 0x31 (0x1C0 + 0x100 * j), 0, 32⟩
def RX_ERR_COUNT (d j : Nat) : Loc := ⟨Layout.addr d 0x31 (0x1C4 + 0x100 * j), 0, 16⟩
def RX_DROP_COUNT (d j : Nat) : Loc := ⟨Layout.addr d 0x31 (0x1C4 + 0x100 * j), 16, 16⟩
def TX_OK_COUNT (d j : Nat) : Loc := ⟨Layout.addr d 0x31 (0x1C8 + 0x100 * j), 0, 32⟩
def TX_LATE_COUNT (d j : Nat) : Loc := ⟨Layout.addr d 0x31 (0x1CC + 0x100 * j), 0, 16⟩
end ELNK

namespace MEMC
def MCFG_SPEED (d : Nat) : Loc := ⟨Layout.addr d 0x38 (0x040), 0, 3⟩
def MCFG_DENSITY (d : Nat) : Loc := ⟨Layout.addr d 0x38 (0x040), 4, 2⟩
def MCFG_RANKS (d : Nat) : Loc := ⟨Layout.addr d 0x38 (0x040), 8, 1⟩
def MCTL_INIT (d : Nat) : Loc := ⟨Layout.addr d 0x38 (0x044), 0, 1⟩
def MSTAT_STATE (d : Nat) : Loc := ⟨Layout.addr d 0x38 (0x048), 0, 3⟩
def MSTAT_FITTED (d : Nat) : Loc := ⟨Layout.addr d 0x38 (0x048), 8, 8⟩
def APER_BASE_BASE (d : Nat) : Loc := ⟨Layout.addr d 0x38 (0x04C), 0, 9⟩
def SCRUB_CFG_EN (d : Nat) : Loc := ⟨Layout.addr d 0x38 (0x050), 0, 1⟩
def SCRUB_CFG_INTERVAL (d : Nat) : Loc := ⟨Layout.addr d 0x38 (0x050), 8, 8⟩
def SCRUB_STAT_PASSES (d : Nat) : Loc := ⟨Layout.addr d 0x38 (0x054), 0, 16⟩
def SCRUB_STAT_LATE (d : Nat) : Loc := ⟨Layout.addr d 0x38 (0x054), 16, 1⟩
def CE_CNT_COUNT (d : Nat) : Loc := ⟨Layout.addr d 0x38 (0x058), 0, 32⟩
def UE_CNT_COUNT (d : Nat) : Loc := ⟨Layout.addr d 0x38 (0x05C), 0, 16⟩
def ERR_REC0_ADDR (d : Nat) : Loc := ⟨Layout.addr d 0x38 (0x060), 5, 27⟩
def ERR_REC1_ADDR (d : Nat) : Loc := ⟨Layout.addr d 0x38 (0x064), 0, 7⟩
def ERR_REC1_AGENT (d : Nat) : Loc := ⟨Layout.addr d 0x38 (0x064), 8, 3⟩
def ERR_REC1_KIND (d : Nat) : Loc := ⟨Layout.addr d 0x38 (0x064), 12, 2⟩
def ERR_REC1_VALID (d : Nat) : Loc := ⟨Layout.addr d 0x38 (0x064), 31, 1⟩
end MEMC

namespace DMA
def RING_LO_ADDR (d j : Nat) : Loc := ⟨Layout.addr d 0x39 (0x100 + 0x40 * j), 5, 27⟩
def RING_HI_ADDR (d j : Nat) : Loc := ⟨Layout.addr d 0x39 (0x104 + 0x40 * j), 0, 32⟩
def RING_CFG_SIZE (d j : Nat) : Loc := ⟨Layout.addr d 0x39 (0x108 + 0x40 * j), 0, 16⟩
def RING_CFG_SPACE (d j : Nat) : Loc := ⟨Layout.addr d 0x39 (0x108 + 0x40 * j), 16, 1⟩
def CTL_EN (d j : Nat) : Loc := ⟨Layout.addr d 0x39 (0x10C + 0x40 * j), 0, 1⟩
def CTL_KICK (d j : Nat) : Loc := ⟨Layout.addr d 0x39 (0x10C + 0x40 * j), 1, 1⟩
def CTL_ABORT (d j : Nat) : Loc := ⟨Layout.addr d 0x39 (0x10C + 0x40 * j), 2, 1⟩
def CTL_UNFENCE (d j : Nat) : Loc := ⟨Layout.addr d 0x39 (0x10C + 0x40 * j), 3, 1⟩
def RATE_SHARE (d j : Nat) : Loc := ⟨Layout.addr d 0x39 (0x110 + 0x40 * j), 0, 9⟩
def RATE_BUCKET (d j : Nat) : Loc := ⟨Layout.addr d 0x39 (0x110 + 0x40 * j), 16, 8⟩
def STAT_STATE (d j : Nat) : Loc := ⟨Layout.addr d 0x39 (0x114 + 0x40 * j), 0, 2⟩
def STAT_LAST (d j : Nat) : Loc := ⟨Layout.addr d 0x39 (0x114 + 0x40 * j), 8, 3⟩
def STAT_NEXT (d j : Nat) : Loc := ⟨Layout.addr d 0x39 (0x114 + 0x40 * j), 16, 16⟩
def CNT_DONE (d j : Nat) : Loc := ⟨Layout.addr d 0x39 (0x118 + 0x40 * j), 0, 32⟩
def CNT2_BAD (d j : Nat) : Loc := ⟨Layout.addr d 0x39 (0x11C + 0x40 * j), 0, 16⟩
end DMA

namespace DIE
def ESN_NOW_ESN (d : Nat) : Loc := ⟨Layout.addr d 0x00 (0x100), 0, 32⟩
def DEGRADE_POLICY_MASK (d : Nat) : Loc := ⟨Layout.addr d 0x00 (0x104), 0, 8⟩
def DIE_FENCED_MASK (d : Nat) : Loc := ⟨Layout.addr d 0x00 (0x108), 0, 8⟩
def DIE_FENCED_STOP (d : Nat) : Loc := ⟨Layout.addr d 0x00 (0x108), 8, 1⟩
def FORCE_CFG_F_EN (d : Nat) : Loc := ⟨Layout.addr d 0x00 (0x10C), 0, 1⟩
def FORCE_CNT_COUNT (d : Nat) : Loc := ⟨Layout.addr d 0x00 (0x110), 0, 16⟩
def FLT_SUM (d j : Nat) : Loc := ⟨Layout.addr d 0x00 (0x120 + 0x4 * j), 0, 32⟩
end DIE

namespace PWR
def DOM_STAT_STATE (d : Nat) : Loc := ⟨Layout.addr d 0x12 (0x040), 0, 28⟩
def DOM_REQ_REQ (d : Nat) : Loc := ⟨Layout.addr d 0x12 (0x044), 0, 14⟩
def DOM_HELD_HELD (d : Nat) : Loc := ⟨Layout.addr d 0x12 (0x048), 0, 14⟩
def PWR_CNT_DOWNS (d : Nat) : Loc := ⟨Layout.addr d 0x12 (0x04C), 0, 16⟩
end PWR

namespace SEQ
def SEQ_CFG_VIN_DOWN (d : Nat) : Loc := ⟨Layout.addr d 0x13 (0x040), 0, 1⟩
def SEQ_CFG_TABLE_OK (d : Nat) : Loc := ⟨Layout.addr d 0x13 (0x040), 1, 1⟩
def RAIL_REQ_REQ (d : Nat) : Loc := ⟨Layout.addr d 0x13 (0x044), 0, 24⟩
def RAIL_ON_MASK (d : Nat) : Loc := ⟨Layout.addr d 0x13 (0x048), 0, 24⟩
def RAIL_FAILED_MASK (d : Nat) : Loc := ⟨Layout.addr d 0x13 (0x04C), 0, 24⟩
def RAIL_CLR_MASK (d : Nat) : Loc := ⟨Layout.addr d 0x13 (0x050), 0, 24⟩
def VIN_STAT_CODE (d : Nat) : Loc := ⟨Layout.addr d 0x13 (0x054), 0, 12⟩
def VIN_STAT_TRIP (d : Nat) : Loc := ⟨Layout.addr d 0x13 (0x054), 16, 1⟩
def VIN_CNT_TRIPS (d : Nat) : Loc := ⟨Layout.addr d 0x13 (0x058), 0, 16⟩
def VIN_CFG_QUAL (d : Nat) : Loc := ⟨Layout.addr d 0x13 (0x05C), 0, 8⟩
def RCFG_PREREQ (d j : Nat) : Loc := ⟨Layout.addr d 0x13 (0x100 + 0x20 * j), 0, 24⟩
def RCFG_MON_EN (d j : Nat) : Loc := ⟨Layout.addr d 0x13 (0x100 + 0x20 * j), 24, 1⟩
def RCFG_MON (d j : Nat) : Loc := ⟨Layout.addr d 0x13 (0x100 + 0x20 * j), 25, 3⟩
def RTIME_TIMEOUT (d j : Nat) : Loc := ⟨Layout.addr d 0x13 (0x104 + 0x20 * j), 0, 16⟩
def RTIME_QUAL (d j : Nat) : Loc := ⟨Layout.addr d 0x13 (0x104 + 0x20 * j), 16, 16⟩
def RCFG2_CHATTER (d j : Nat) : Loc := ⟨Layout.addr d 0x13 (0x108 + 0x20 * j), 0, 4⟩
def RCFG2_MINOFF (d j : Nat) : Loc := ⟨Layout.addr d 0x13 (0x108 + 0x20 * j), 16, 14⟩
def RMON_LO (d j : Nat) : Loc := ⟨Layout.addr d 0x13 (0x10C + 0x20 * j), 0, 12⟩
def RMON_HI (d j : Nat) : Loc := ⟨Layout.addr d 0x13 (0x10C + 0x20 * j), 16, 12⟩
def RSTAT_STATE (d j : Nat) : Loc := ⟨Layout.addr d 0x13 (0x110 + 0x20 * j), 0, 3⟩
def RSTAT_PG (d j : Nat) : Loc := ⟨Layout.addr d 0x13 (0x110 + 0x20 * j), 4, 1⟩
def RSTAT_EN (d j : Nat) : Loc := ⟨Layout.addr d 0x13 (0x110 + 0x20 * j), 5, 1⟩
def RSTAT_CHAT (d j : Nat) : Loc := ⟨Layout.addr d 0x13 (0x110 + 0x20 * j), 8, 4⟩
def RSTAT_V (d j : Nat) : Loc := ⟨Layout.addr d 0x13 (0x110 + 0x20 * j), 16, 12⟩
end SEQ

namespace THERM
def TEMP_RAW (d : Nat) : Loc := ⟨Layout.addr d 0x14 (0x040), 0, 16⟩
def TEMP_EFF (d : Nat) : Loc := ⟨Layout.addr d 0x14 (0x040), 16, 16⟩
def TSTAT_STATE (d : Nat) : Loc := ⟨Layout.addr d 0x14 (0x044), 0, 2⟩
def TSTAT_RATE (d : Nat) : Loc := ⟨Layout.addr d 0x14 (0x044), 2, 2⟩
def TSTAT_BROKEN (d : Nat) : Loc := ⟨Layout.addr d 0x14 (0x044), 4, 1⟩
def TSTAT_NO_NEIGH (d : Nat) : Loc := ⟨Layout.addr d 0x14 (0x044), 5, 1⟩
def TSTAT_DIFF (d : Nat) : Loc := ⟨Layout.addr d 0x14 (0x044), 6, 1⟩
def TLIM_WARN (d : Nat) : Loc := ⟨Layout.addr d 0x14 (0x048), 0, 16⟩
def TLIM_CRIT (d : Nat) : Loc := ⟨Layout.addr d 0x14 (0x048), 16, 16⟩
def TCFG_HYST (d : Nat) : Loc := ⟨Layout.addr d 0x14 (0x04C), 0, 8⟩
def TCFG_DIFF_LIM (d : Nat) : Loc := ⟨Layout.addr d 0x14 (0x04C), 8, 8⟩
def TMAX_TEMP (d : Nat) : Loc := ⟨Layout.addr d 0x14 (0x050), 0, 16⟩
def TCNT_BROKEN (d : Nat) : Loc := ⟨Layout.addr d 0x14 (0x054), 0, 16⟩
def TCNT_DIFF (d : Nat) : Loc := ⟨Layout.addr d 0x14 (0x054), 16, 16⟩
end THERM

namespace NVS
def NV_CTL_WEN (d : Nat) : Loc := ⟨Layout.addr d 0x15 (0x040), 0, 1⟩
def NV_STAT_BUSY (d : Nat) : Loc := ⟨Layout.addr d 0x15 (0x044), 0, 1⟩
def NV_STAT_VIN_BLOCK (d : Nat) : Loc := ⟨Layout.addr d 0x15 (0x044), 1, 1⟩
def NV_CNT_CE (d : Nat) : Loc := ⟨Layout.addr d 0x15 (0x048), 0, 16⟩
def NV_CNT_UE (d : Nat) : Loc := ⟨Layout.addr d 0x15 (0x048), 16, 16⟩
def NV_CNT2_DROPPED (d : Nat) : Loc := ⟨Layout.addr d 0x15 (0x04C), 0, 16⟩
def LOG_HEAD_SLOT (d : Nat) : Loc := ⟨Layout.addr d 0x15 (0x050), 0, 10⟩
def LOG_SEQ_SEQ (d : Nat) : Loc := ⟨Layout.addr d 0x15 (0x054), 0, 32⟩
def LOG_CTL_SNAP (d : Nat) : Loc := ⟨Layout.addr d 0x15 (0x058), 0, 1⟩
def LOG_STAT_VALID (d : Nat) : Loc := ⟨Layout.addr d 0x15 (0x05C), 0, 11⟩
def LOG_STAT_INVALID (d : Nat) : Loc := ⟨Layout.addr d 0x15 (0x05C), 16, 11⟩
def LOG_CNT_LOST (d : Nat) : Loc := ⟨Layout.addr d 0x15 (0x060), 0, 16⟩
end NVS

namespace RST
def RST_CTL_GO (d : Nat) : Loc := ⟨Layout.addr d 0x10 (0x040), 0, 1⟩
def RST_CTL_SCOPE (d : Nat) : Loc := ⟨Layout.addr d 0x10 (0x040), 1, 1⟩
def RST_CTL_KEY (d : Nat) : Loc := ⟨Layout.addr d 0x10 (0x040), 8, 8⟩
def RST_CAUSE_CAUSE (d : Nat) : Loc := ⟨Layout.addr d 0x10 (0x044), 0, 9⟩
def RST_CFG_WDT_PKG (d : Nat) : Loc := ⟨Layout.addr d 0x10 (0x048), 0, 1⟩
def RST_CFG_DBG_PKG (d : Nat) : Loc := ⟨Layout.addr d 0x10 (0x048), 1, 1⟩
def RST_CFG_LOCK_PKG (d : Nat) : Loc := ⟨Layout.addr d 0x10 (0x048), 2, 1⟩
def STRAP_BOOT (d : Nat) : Loc := ⟨Layout.addr d 0x10 (0x04C), 0, 3⟩
def STRAP_CLKM (d : Nat) : Loc := ⟨Layout.addr d 0x10 (0x04C), 4, 2⟩
def STRAP_PROF (d : Nat) : Loc := ⟨Layout.addr d 0x10 (0x04C), 8, 3⟩
def STRAP_LEGACY (d : Nat) : Loc := ⟨Layout.addr d 0x10 (0x04C), 12, 1⟩
def STRAP_BAD (d : Nat) : Loc := ⟨Layout.addr d 0x10 (0x04C), 15, 1⟩
def WDT_CFG_EN (d : Nat) : Loc := ⟨Layout.addr d 0x10 (0x050), 0, 1⟩
def WDT_CFG_LOCK (d : Nat) : Loc := ⟨Layout.addr d 0x10 (0x050), 1, 1⟩
def WDT_CFG_TIMEOUT (d : Nat) : Loc := ⟨Layout.addr d 0x10 (0x050), 16, 16⟩
def WDT_KICK_KEY (d : Nat) : Loc := ⟨Layout.addr d 0x10 (0x054), 0, 16⟩
def WDT_STAT_REMAIN (d : Nat) : Loc := ⟨Layout.addr d 0x10 (0x058), 0, 16⟩
def PKG_WDT_CFG_EN (d : Nat) : Loc := ⟨Layout.addr d 0x10 (0x060), 0, 1⟩
def PKG_WDT_CFG_LOCK (d : Nat) : Loc := ⟨Layout.addr d 0x10 (0x060), 1, 1⟩
def PKG_WDT_CFG_TIMEOUT (d : Nat) : Loc := ⟨Layout.addr d 0x10 (0x060), 16, 16⟩
def PKG_WDT_KICK_KEY (d : Nat) : Loc := ⟨Layout.addr d 0x10 (0x064), 0, 16⟩
def BOOT_STAT_STATE (d : Nat) : Loc := ⟨Layout.addr d 0x10 (0x070), 0, 3⟩
def BOOT_STAT_CODE (d : Nat) : Loc := ⟨Layout.addr d 0x10 (0x070), 4, 4⟩
def BOOT_STAT_RECORD (d : Nat) : Loc := ⟨Layout.addr d 0x10 (0x070), 8, 24⟩
def FUSE_LOCK (d : Nat) : Loc := ⟨Layout.addr d 0x10 (0x074), 0, 1⟩
def FUSE_DIGEST_SET (d : Nat) : Loc := ⟨Layout.addr d 0x10 (0x074), 1, 1⟩
def FUSE_PGM_BURN (d : Nat) : Loc := ⟨Layout.addr d 0x10 (0x078), 0, 1⟩
def FUSE_PGM_LOCK (d : Nat) : Loc := ⟨Layout.addr d 0x10 (0x078), 1, 1⟩
def FUSE_PGM_KEY (d : Nat) : Loc := ⟨Layout.addr d 0x10 (0x078), 8, 8⟩
def FUSE_DIG (d j : Nat) : Loc := ⟨Layout.addr d 0x10 (0x080 + 0x4 * j), 0, 32⟩
def WARM_CNT_COUNT (d : Nat) : Loc := ⟨Layout.addr d 0x10 (0x0A0), 0, 16⟩
def LOCKUP_ADDR (d : Nat) : Loc := ⟨Layout.addr d 0x10 (0x0A4), 0, 27⟩
def LOCKUP_VALID (d : Nat) : Loc := ⟨Layout.addr d 0x10 (0x0A4), 31, 1⟩
end RST

namespace CLK
def CLK_STAT_REF_OK (d : Nat) : Loc := ⟨Layout.addr d 0x11 (0x040), 0, 1⟩
def CLK_STAT_ON_RC (d : Nat) : Loc := ⟨Layout.addr d 0x11 (0x040), 1, 1⟩
def PLL_STAT_STATE (d j : Nat) : Loc := ⟨Layout.addr d 0x11 (0x044 + 0x4 * j), 0, 2⟩
def PLL_STAT_LOSSES (d j : Nat) : Loc := ⟨Layout.addr d 0x11 (0x044 + 0x4 * j), 8, 8⟩
def PLL_CFG_LOCK_N (d j : Nat) : Loc := ⟨Layout.addr d 0x11 (0x054 + 0x4 * j), 0, 4⟩
def ISL_GOOD_MASK (d : Nat) : Loc := ⟨Layout.addr d 0x11 (0x064), 0, 10⟩
def CLKFAIL_CNT_COUNT (d : Nat) : Loc := ⟨Layout.addr d 0x11 (0x068), 0, 16⟩
end CLK

end R

end Sys2Proof
end

