-- ==== Sys2Proof/Machine/Sparse.lean ====
section
/-! DEFINITION. Finite maps with a default, as plain data: a list of (key, value) pairs with strictly rising keys and no
entry equal to what an unlisted key reads as. Every register file, memory and table of the state is one. -/

namespace Sys2Proof.Machine

variable {α : Type}

/-- What key `k` holds; `dflt k` where it is not listed. -/
def mapGet (dflt : Nat → α) : List (Nat × α) → Nat → α
  | [], k => dflt k
  | (k', v) :: t, k => if k' = k then v else mapGet dflt t k

/-- The map without key `k`. -/
def mapErase : List (Nat × α) → Nat → List (Nat × α)
  | [], _ => []
  | (k', v) :: t, k => if k' = k then mapErase t k else (k', v) :: mapErase t k

/-- The map with `(k, v)` put before the first greater key. -/
def mapInsert (k : Nat) (v : α) : List (Nat × α) → List (Nat × α)
  | [] => [(k, v)]
  | (k', v') :: t => if k < k' then (k, v) :: (k', v') :: t else (k', v') :: mapInsert k v t

/-- The map after key `k` is given the value `v`; a value equal to the default is not listed. -/
def mapSet [DecidableEq α] (dflt : Nat → α) (l : List (Nat × α)) (k : Nat) (v : α) : List (Nat × α) :=
  if v = dflt k then mapErase l k else mapInsert k v (mapErase l k)

/-- Every key of the list is greater than `k`. -/
def mapAbove (k : Nat) (l : List (Nat × α)) : Bool := l.all (fun e => decide (k < e.1))

/-- The canonical form: keys strictly rising, no entry equal to the default of its key. -/
def mapWf [DecidableEq α] (dflt : Nat → α) : List (Nat × α) → Bool
  | [] => true
  | (k, v) :: t => decide (v ≠ dflt k) && mapAbove k t && mapWf dflt t

/-- The map without the keys for which `p` holds. -/
def mapDrop (p : Nat → Bool) (l : List (Nat × α)) : List (Nat × α) := l.filter (fun e => !p e.1)

end Sys2Proof.Machine
end

