-- ==== Sys2Proof/Machine/State.lean ====
section
/-! DEFINITION. The state of the controller as plain data, the outcomes that stop a step, and the state after reset.
Every field's default is its value at `State.reset`. -/

namespace Sys2Proof.Machine

/-- The three parts of R1. -/
inductive Part where
  | px7182 | px7184 | px7188
  deriving DecidableEq, Repr

/-- The straps as last sampled (R541, R542). -/
structure Straps where
  boot : Nat := 0
  clkm : Nat := 0
  prof : Nat := 0
  legacy : Bool := false
  bad : Bool := false
  deriving DecidableEq, Repr

/-- A fenceable unit (R483). -/
inductive UnitId where
  | station (k : Nat)
  | lane (d n : Nat)
  | bond (d : Nat)
  | decode (d n : Nat)
  | comp (d n : Nat)
  | dma (d n : Nat)
  | step (d n : Nat)
  | foc (d n : Nat)
  | bus (d b : Nat)
  | loop (d i : Nat)
  | cue (d n : Nat)
  | eth (p : Nat)
  | die (d : Nat)
  deriving DecidableEq, Repr

/-- A message under way between dies (R15). -/
inductive Msg where
  /-- D0 asks die `d` to prepare staging slot `slot` for a cross-die transaction (R57). -/
  | prepare (d slot : Nat) (tsn : Nat) (time : Nat)
  /-- Die `d` answers OK (`reason` 0) or FAIL with its reason. -/
  | answer (d reason : Nat)
  | commit (d slot : Nat)
  | abort (d slot : Nat)
  | report (d : Nat)
  /-- A plane descriptor on its way to the die of station `k` (R73). -/
  | plane (slot k : Nat)
  /-- A stop cause on its way to D0 (R348). -/
  | stopCause (path cause : Nat)
  /-- A coverage message to die `d` (R421): station, FSN, tag X_c, lines, maximum level, width, course length, zone sums. -/
  | cff (d k fsn xc lines level width cpc : Nat) (zones : List Nat)
  /-- A cancel message for an FSN (R421). -/
  | cffCancel (d fsn : Nat)
  /-- A time refresh to die `d` with the time of M it was sent at (R441). -/
  | refresh (d sec ns frac : Nat)
  deriving DecidableEq, Repr

/-- A head-link packet without its PSN (R274). -/
structure HeadPkt where
  type : Nat
  flags : Nat := 0
  lsn : Nat := 0
  emitter : Nat := 0
  gen : Nat := 0
  offset : Nat := 0
  payload : List Byte := []
  deriving DecidableEq, Repr

/-- What the controller has sent to the outside: MSI-X messages, link packets, Ethernet frames. -/
inductive Sent where
  /-- R46: an MSI-X message of a vector: address and data of its table entry. -/
  | msix (vector : Nat) (lo hi data : Word)
  /-- An upstream raster-link packet of die `d`. -/
  | raster (d : Nat) (type : Nat) (body : List Nat)
  /-- A head-link packet of station `k`. -/
  | head (k : Nat) (psn : Nat) (pkt : HeadPkt)
  /-- An LGO edge of station `k` (R256). -/
  | lgo (k : Nat) (tick : Nat) (width : Nat)
  /-- A pulse of Dd_STPn: the time of its active edge, ns, and its direction (R360, R366). -/
  | step (d n t : Nat) (up : Bool)
  /-- An Ethernet frame of port `p`. -/
  | eth (p : Nat) (frame : List Byte)
  deriving DecidableEq, Repr

/-- What a read, a fence or a JTAG access returned last. -/
structure Completion where
  value : Word := 0
  error : Bool := false
  /-- The completion is poisoned (R458). -/
  poison : Bool := false
  bytes : List Byte := []
  deriving DecidableEq, Repr

/-- The time counters of a die (R439 to R441): C counts ns from `c0`; LTIME = lk + (C − ck)·rk / 2^32. -/
structure DieClock where
  c0 : Nat := 0
  lk : Nat := 0
  ck : Nat := 0
  rk : Nat := 4294967296
  /-- C when the system PLL went to bypass (R546). -/
  byp : Nat := 0
  deriving DecidableEq, Repr

/-- The master time counter M of D0 (R437), its increment in units of 2^-32 ns, and what the next tick takes up (R438): a
new increment, an adjustment, a load. -/
structure MasterTime where
  sec : Nat := 0
  ns : Nat := 0
  frac : Nat := 0
  incr : Nat := 8589934592
  newIncr : Option Nat := none
  adj : Option Int := none
  load : Bool := false
  deriving DecidableEq, Repr

/-- The release of a die from reset (R532, R536, R537). Phase 0: a warm reset is asserted; 1: waiting for the straps;
3: for the reference check; 4: for the PLLs; 5: for the mortar links; 6: for the CTRL and MORT islands; 9: released. -/
structure Release where
  phase : Nat := 9
  cold : Bool := false
  pkg : Bool := false
  /-- The time (ns) at which an asserted warm reset may be released. -/
  due : Nat := 0
  /-- Held by a JTAG instruction (R556) or by the shutdown state (R522). -/
  held : Bool := false
  /-- Step 3 runs in this release (cold, or after a clock failure). -/
  refCheck : Bool := false
  deriving DecidableEq, Repr

/-- A switched power domain of a die (R501 to R504): `st` 0 off, 1 powering up, 2 on; `rel`: its island is released;
`good`: its island reports clock-good; `since`: when `st` became what it is (ns). -/
structure Domain where
  st : Nat := 0
  since : Nat := 0
  good : Bool := false
  rel : Bool := false
  /-- It has failed to come on (R524), and stays off while it is requested (log 77). -/
  failed : Bool := false
  deriving DecidableEq, Repr

/-- A staging slot's armed transaction (R48 to R59), beside its registers: the condition's argument as it was at the ARM (for a
cross-die transaction, the commit time T), whether D0's commit has arrived, the local station whose auto-registration armed it
(R324), and when it committed. -/
structure TxnSlot where
  arg : Nat := 0
  decided : Bool := false
  areg : Option Nat := none
  doneAt : Option Nat := none
  deriving DecidableEq, Repr

/-- A cross-die transaction on D0 (R57): its commit time, the slots by die that XTXN_MAP named at GO, and the dies that have
answered OK, failed and reported. -/
structure Xtxn where
  time : Nat := 0
  slots : List (Nat × Nat) := []
  answered : List Nat := []
  failed : List Nat := []
  reported : List Nat := []
  deriving DecidableEq, Repr

/-- A frame-queue slot (R70 to R95). The descriptor's bytes lie in the register space at 0x070_0000 + 256·s. -/
structure Slot where
  /-- The code of R78. -/
  st : Nat := 0
  /-- It has left the queue and waits for room in the freed FIFO (R94). -/
  left : Bool := false
  /-- The retention entry reserved for it (R90). -/
  resv : Option Nat := none
  /-- The stations that have begun the frame, and those that have fired its last line. -/
  begun : List Nat := []
  ended : List Nat := []
  /-- The cause of spoiling, the state it was spoiled in, and the spoil-log station and course (R86 to R89). -/
  cause : Nat := 0
  spoiledIn : Nat := 0
  spoilStation : Nat := 0
  spoilCourse : Nat := 0
  /-- When it was spoiled (ns). -/
  spoilAt : Nat := 0
  /-- The dies on which it has been launched (R341), and the path and X_F of its first launch, accepted or else refused
  (R355). -/
  launched : List Nat := []
  xf : Option (Nat × Nat) := none
  deriving DecidableEq, Repr

/-- An ashlar that has passed the survey: its index, first stored line, stored lines and zone sums (R75, R76). -/
structure Passed where
  n : Nat
  first : Nat
  lines : Nat
  zones : List Nat
  deriving DecidableEq, Repr

/-- A carry-mode survey stream's place (R116 to R136). -/
structure Carry where
  /-- Byte offset of the next record, course index, stored lines done, and the 32 KiB history before it. -/
  off : Nat := 0
  course : Nat := 0
  line : Nat := 0
  history : List Byte := []
  failedAt : Option Nat := none
  /-- Coverage of the course in progress, and the state entry that a yielded stream waits in (R132). -/
  zones : List Nat := List.replicate 16 0
  entry : Option Nat := none
  deriving DecidableEq, Repr

/-- A plane on the die of its station (R73 to R77, R83). -/
structure Plane where
  /-- The descriptor has arrived. -/
  got : Bool := false
  fsn : Nat := 0
  /-- Ashlars 0 to resCount − 1 are resident, and those of `resSet`. -/
  resCount : Nat := 0
  resSet : List Nat := []
  /-- First stored line of each ashlar whose survey has begun, in order; the last entry is where the next one starts. -/
  starts : List Nat := [0]
  busy : List Nat := []
  /-- Ashlars whose survey lane was fenced, to be surveyed again (R131). -/
  redo : List Nat := []
  passed : List Passed := []
  failed : Option Nat := none
  /-- S_p of R83. -/
  surveyed : Nat := 0
  /-- I_p of R83. -/
  imaging : Nat := 0
  carry : Carry := {}
  deriving DecidableEq, Repr

/-- Ashlars declared resident before their frame is submitted (R74). -/
structure Decl where
  fsn : Nat
  station : Nat
  count : Nat
  extra : List Nat
  deriving DecidableEq, Repr

/-- A retention entry (R90 to R94). The copy of the descriptor lies in page memory. -/
structure Retained where
  /-- 0 free, 1 reserved, 2 used. -/
  use : Nat := 0
  fsn : Nat := 0
  /-- The remaining count, as byte 14 of the copy shows it. -/
  count : Nat := 0
  released : Bool := false
  deriving DecidableEq, Repr

/-- An entry of the spoil log (R89). -/
structure SpoilEntry where
  fsn : Nat
  cause : Nat
  station : Nat
  course : Nat
  requeued : Bool
  retained : Bool
  deriving DecidableEq, Repr

/-- What waits for room in the freed FIFO (R94): a slot that would go to FREE, or a retention entry that would be freed. -/
inductive FreedWait where
  | slot (i : Nat)
  | entry (i : Nat)
  deriving DecidableEq, Repr

/-- Why a step stops with a fault. No command of this block does: every row has an effect the spec gives. -/
inductive Fault where
  /-- Never raised: the controller's own faults are effects on the state (safe). -/
  | none
  deriving DecidableEq, Repr

/-- Why a command is refused. -/
inductive Refusal where
  /-- The command's meaning is not written yet (safe). -/
  | notModelled (mnemonic : String)
  deriving DecidableEq, Repr

/-- A DMA channel (R464 to R477): the descriptor it has taken, with the address it was read from. -/
structure DmaCh where
  /-- The descriptor's 32 bytes, while one runs, and the plane table that was read with it (R468). -/
  cur : Option (List Byte) := none
  addr : Nat := 0
  tbl : List Nat := []
  /-- The token bucket (R476), in sixteenths of a byte at time `at0`: what is missing from a full one, and what the running
  descriptor has still to read. -/
  debt : Nat := 0
  left : Nat := 0
  at0 : Nat := 0
  deriving DecidableEq, Repr

/-- The scrubber of a die (R463). -/
structure Scrub where
  pos : Nat := 0
  start : Nat := 0
  late : Bool := false
  deriving DecidableEq, Repr

/-- A running job of a compressor lane (R137 to R153). -/
structure Job where
  bg : Bool
  ring : Nat
  desc : List Byte
  /-- Ashlars or records complete, counting SKIP; stored lines in them; stream offset after them. -/
  done : Nat
  lines : Nat
  bytes : Nat
  /-- The buffer-list entry being filled and the bytes used in it. -/
  buf : Nat
  pos : Nat
  /-- Address of the first byte placed. -/
  first : Option Nat
  deriving DecidableEq, Repr

/-- What a decode lane works on: an ashlar or a carry stream of the survey, or an ashlar of the imaging pass. -/
inductive LaneWork where
  | survey (slot k n : Nat)
  | carry (slot k : Nat)
  | image (slot k n : Nat)
  deriving DecidableEq, Repr

/-- A decode lane (R123 to R136): its work since when, the role it takes over after it, whether a stream is held through
an imaging pass, and whether its result is to be discarded (R131). -/
structure DecodeLane where
  work : Option LaneWork := none
  since : Nat := 0
  takeover : Option Nat := none
  discard : Bool := false
  deriving DecidableEq, Repr

/-- A position counter (R329 to R332): the count, the time (C) of its last step, the interval between its last two steps,
how many steps it has taken (up to two), and the direction of the last one. -/
structure PosCounter where
  count : Nat := 0
  time : Nat := 0
  interval : Nat := 0
  steps : Nat := 0
  up : Bool := true
  /-- Earlier steps, newest first, as far back as a filter reaches: time, count, interval, and whether p has a fraction. -/
  past : List (Nat × Nat × Nat × Bool) := []
  deriving DecidableEq, Repr

/-- The filtered levels of an encoder input (R329, R330). -/
structure Encoder where
  a : Bool := false
  b : Bool := false
  deriving DecidableEq, Repr

/-- An armed cue's working values (R335 to R339): its argument, period and repeat count; whether its trigger has been
reached, late; the end of its completion delay; and the action that is under way. -/
structure CueRun where
  arg : Nat := 0
  rep : Nat := 0
  reached : Bool := false
  late : Bool := false
  due : Option Nat := none
  acting : Bool := false
  /-- The step channel whose move the action waits for. -/
  move : Option Nat := none
  /-- The launch target of a re-armed cue counts for R351. -/
  rearmed : Option Nat := none
  deriving DecidableEq, Repr

/-- An entry of a station's start list (R342): the queue slot, X_S in 1/256 count, the STA_OFFS it was made with, whether
the step of R333 has come, and when the start event is due. -/
structure StartEntry where
  slot : Nat
  fsn : Nat
  xs : Nat
  offs : Nat
  due : Option Nat := none
  /-- The latches that its start event met (R302). -/
  met : Nat := 0
  deriving DecidableEq, Repr

/-- A purge request (R355): the FSN, its path and the purge target. -/
structure Purge where
  fsn : Nat
  path : Nat
  deriving DecidableEq, Repr

/-- A medium path beside its registers (R346 to R352): the master's set-point on entry to DECEL, when the cruise flag was
set, and whether the stations that hold have been told to resume. -/
structure PathRun where
  vrun : Int := 0
  cruise : Option Nat := none
  /-- Stations that have resumed in this run-up. -/
  resumed : List Nat := []
  /-- Purge targets that wait for the purge cue. -/
  waiting : List Nat := []
  deriving DecidableEq, Repr

/-- A motor channel (R377 to R388), beside its registers. -/
structure FocCh where
  /-- When the state was entered. -/
  since : Nat := 0
  /-- Samples summed in OFFSET, and the offsets found, in 1/256 code. -/
  samples : Nat := 0
  sumU : Nat := 0
  sumV : Nat := 0
  sumW : Nat := 0
  offU : Nat := 524288
  offV : Nat := 524288
  offW : Nat := 524288
  /-- The integrators (Q9.31), and the voltages and currents of the last period. -/
  intD : Int := 0
  intQ : Int := 0
  vAlpha : Int := 0
  vBeta : Int := 0
  iAlpha : Int := 0
  iBeta : Int := 0
  /-- The flux of the observer. -/
  psiA : Int := 0
  psiB : Int := 0
  /-- The duties of the next period, as d − 1/2 in Q1.15; none: bridge off. -/
  duties : Option (List Int) := none
  /-- The last Hall transition: its time, the angle of the edge it crossed, the direction and the interval before it. -/
  hallAt : Option Nat := none
  hallEdge : Nat := 0
  hallBack : Bool := false
  hallInterval : Nat := 0
  /-- The count and the angle that the encoder angle is taken from, and whether an index edge has come. -/
  ref : Option (Nat × Nat) := none
  indexed : Bool := false
  /-- The open-loop ramp: angle in 2^−16 of an angle unit, speed, and the periods that have matched. -/
  rampAngle : Nat := 0
  rampSpeed : Int := 0
  matched : Nat := 0
  /-- The current limit of BRAKE holds the bridge off. -/
  brakeOff : Bool := false
  /-- The q-axis demand of the bound loop. -/
  iqLoop : Int := 0
  deriving DecidableEq, Repr

/-- A motor bus (R389 to R393): its readings with their times, newest first, and since when the chopper is on. -/
structure BusRun where
  readings : List (Nat × Nat) := []
  chopSince : Option Nat := none
  deriving DecidableEq, Repr

/-- A jerk-limited profile (R365 to R369): the phase of R367, the part of it that SLOW or QSTOP is in, the distance
travelled (32 fractional bits), velocity and acceleration in the direction of travel (48 fractional bits), and the limits
in force. -/
structure Profile where
  phase : Nat := 0
  part : Nat := 0
  q : Nat := 0
  v : Int := 0
  a : Int := 0
  vl : Nat := 0
  al : Nat := 0
  jl : Nat := 0
  deriving DecidableEq, Repr

/-- A step channel (R359 to R374), beside its registers. -/
structure StepCh where
  prof : Profile := {}
  /-- The length of the move in steps, and its direction, that of the last move at rest. -/
  len : Nat := 0
  down : Bool := false
  /-- When Dd_DIRn took that direction's level (R360); none while it is low for want of a move. -/
  dirAt : Option Nat := none
  /-- The move ends without FINISH. -/
  abandoned : Bool := false
  /-- The active edges of the steps still to be issued (R366), ns, rising; the result with which the move ends at the last. -/
  due : List Nat := []
  ending : Option Nat := none
  waitUntil : Nat := 0
  /-- When Dd_STENn became active. -/
  enSince : Option Nat := none
  /-- When the last move ended, until IHOLD is reached; whether the ramp has begun. -/
  ended : Option Nat := none
  ramping : Bool := false
  /-- The active edge of the last step issued (R360), ns. -/
  lastStep : Option Nat := none
  deriving DecidableEq, Repr

/-- A placed facet scan that waits for its LGO edge (R256, R257), or a strobe's line. -/
structure Placed where
  lsn : Nat
  adv : Nat
  wstart : Nat
  facet : Nat
  /-- The LGO edge, in ticks, and the PSN of its LAUNCH-TAG. -/
  tick : Nat
  /-- The tick of its beam-detect edge. -/
  bd : Nat := 0
  tag : Option Nat := none
  runStart : Bool := false
  /-- The process trim of the facet, and the mirroring of its scan (R227, R239). -/
  pt : Int := 0
  mirror : Bool := false
  deriving DecidableEq, Repr

/-- A plane that a station has begun (R249): its slot, L1, s0 and lines; where its frame was spoiled on the station; its
start position and the offset it was made with (R421); the coverage sum of the course in progress (R221) and the courses
whose messages have been sent. -/
structure StaPlane where
  slot : Nat
  fsn : Nat
  l1 : Nat
  s0 : Nat
  lines : Nat
  ended : Option Nat := none
  /-- L1 has been fired (R305), and the last line fired or passed over. -/
  fired : Bool := false
  done : Bool := false
  xs : Nat := 0
  offs : Nat := 0
  cov : Nat := 0
  /-- The latches that its start event met (R302). -/
  met : Nat := 0
  deriving DecidableEq, Repr

/-- A stored line that stages 2 to 4 have passed (R213): its LSN, its plane's slot and line, its bytes, the drive codes. -/
structure StreamLine where
  lsn : Nat
  slot : Nat
  n : Nat
  row : List Byte
  codes : List Nat
  deriving DecidableEq, Repr

/-- One block of 256 lines of the duty windows (R294): element sums by position and emitter sums. -/
structure DutyBlock where
  block : Nat
  elems : List Nat
  emits : List Nat
  deriving DecidableEq, Repr

/-- Beam detect and facet identity of a scanner (R253 to R255). -/
structure Beam where
  /-- t_p in ticks, and where the window is measured from after missed scans. -/
  last : Option Nat := none
  base : Nat := 0
  missed : Nat := 0
  /-- Accepted intervals, newest first, whether an early or missed edge lies in the interval in progress, and whether beam detect
  is stable. -/
  intervals : List Nat := []
  gapBad : Bool := false
  stable : Bool := false
  /-- The intervals of the revolution in progress, and whether an early or missed edge spoils it. -/
  rev : List Nat := []
  revBad : Bool := false
  confirm : Nat := 0
  lose : Nat := 0
  winner : Option Nat := none
  /-- Index mode: accepted edges since the last index edge, whether the next edge is the first after one, whether the counter
  called that one 0, and whether an early or missed edge has come since. -/
  sinceIdx : Option Nat := none
  idxNext : Bool := false
  idxZero : Bool := false
  idxBad : Bool := false
  /-- Accepted edges, and the die counter at the last (R405 kind 8). -/
  scans : Nat := 0
  lastC : Nat := 0
  deriving DecidableEq, Repr

/-- A line that the line generator has found (R261): its LSN, its scheduled tick, the count of the step that found it, and the
accumulator after that step. -/
structure FoundLine where
  lsn : Nat
  tick : Nat
  count : Nat
  acc : Nat
  deriving DecidableEq, Repr

/-- A station (R213 to R308), beside its registers. Line numbers are kept without their 32-bit wrap. -/
structure Station where
  /-- The line pointer B (R234), or the LSN of the next line that the line generator finds. -/
  ptr : Nat := 0
  facet : Nat := 0
  beam : Beam := {}
  placed : List Placed := []
  /-- LED lines found and not yet fired or passed over, and the line and tag of the coming strobe. -/
  found : List FoundLine := []
  strobeTag : Option (Nat × Option Nat) := none
  owed : Nat := 0
  lastEdge : Option Nat := none
  /-- The last line fired, and the FSN of the frame whose first line has been fired last (R51). -/
  firedTo : Option Nat := none
  curFsn : Option Nat := none
  /-- The next edge is the first after the timing entered RUN (R281). -/
  runEdge : Bool := false
  /-- A start event waits for its L1. -/
  start : Option StartEntry := none
  planes : List StaPlane := []
  /-- A seam stop (R251): the stop line, or the next scan or line. -/
  stopping : Bool := false
  stopLine : Option Nat := none
  /-- The resume position waits for the BD edge of the first scan not fired (R349). -/
  resWanted : Bool := false
  /-- The accumulator when the last line was fired, and the count of the step that found it (R252, R349). -/
  holdAcc : Nat := 0
  holdCount : Nat := 0
  /-- The next destination line to be formed, the scans it is formed for before they are placed, the lines that the line
  buffer holds, and the next source line that stages 1 to 5 take. -/
  form : Nat := 0
  ahead : List Placed := []
  lines : List StreamLine := []
  src : Nat := 0
  /-- The last LGO edge fired L1 of a plane: a frame boundary of the station (R305, R493). -/
  boundary : Bool := false
  /-- When the resume event of a held station is due (R333, R352). -/
  resDue : Option Nat := none
  /-- A gate waits for the first edge at or after this tick, and a fence for one at or after that (R300, R304); since its last
  gate closed, edges are suppressed while a latch stands. -/
  gateAt : Option Nat := none
  fenceAt : Option Nat := none
  gated : Bool := false
  /-- The edges since the last valid STATUS: LSN tagged, and whether the tag was acknowledged before the edge (R267). -/
  edges : List (Nat × Bool) := []
  duty : List DutyBlock := []
  /-- The buckets of H, the newest first, and the millisecond of LTIME that the newest is for (R295). -/
  buckets : List Nat := []
  bucketAt : Nat := 0
  /-- Since when the inputs of the latches (0 ILK, 1 HOK, 2 PAPER, 3 JAM) have been deasserted (R303). -/
  inputAt : List (Nat × Nat) := []
  softWant : Bool := false
  /-- Codes are capped at 0 until the fence (R308). -/
  dutyBad : Bool := false
  /-- Wear residue by element, in weighted levels (R317). -/
  residue : List Nat := []
  deriving DecidableEq, Repr

/-- Decoded lines in the reorder buffer: their plane, first stored line and bytes line by line (R126). -/
structure Decoded where
  slot : Nat
  first : Nat
  rows : List (List Byte)
  deriving DecidableEq, Repr

/-- The imaging decode of a station (R126 to R136): the plane being decoded, the next ashlar and its first stored line, the
ashlars to be decoded again (slot, index, first line), those whose decode runs (with their bytes), the reorder buffer, the planes whose decode has been
begun to the end, for a carry-mode plane the stream's place, and how many checkpoints the station has written and the frames of the
last two, newest first. -/
structure Imager where
  slot : Option Nat := none
  next : Nat := 0
  nextLine : Nat := 0
  redo : List (Nat × Nat × Nat) := []
  flying : List (Nat × Nat × Nat × Nat) := []
  held : List Decoded := []
  /-- Stored lines below this are discarded as they are decoded (R129, R135). -/
  skipTo : Nat := 0
  finished : List Nat := []
  carry : Carry := {}
  ckpt : Nat := 0
  ckptOf : List Nat := []
  deriving DecidableEq, Repr

/-- A loop context (R417) beside its entry: mode 0 DISABLED, 1 MANUAL, 2 AUTO, 3 TRACK; the next AUTO execution is
bumpless; its set-point profile (s with 32 fractional bits); the geared target and v_sp of the last execution; the last
AREG sequence it has taken. -/
structure LoopCtx where
  mode : Nat := 0
  fresh : Bool := false
  prof : Profile := {}
  s : Int := 0
  origin : Int := 0
  goal : Int := 0
  back : Bool := false
  turning : Bool := false
  prevG : Option Int := none
  prevV : Int := 0
  /-- An AUTO execution has run since it was enabled (R412). -/
  ran : Bool := false
  seq : Option Nat := none
  deriving DecidableEq, Repr

/-- A coverage entry of a feed-forward channel (R422). -/
structure CffEntry where
  station : Nat
  fsn : Nat
  xc : Nat
  lines : Nat
  level : Nat
  width : Nat
  cpc : Nat
  zones : List Nat
  current : Bool
  deriving DecidableEq, Repr

/-- A heater output (R426): the duty to take at the next crossing, the burst accumulator, and the pulse under way or to
come as its start and end. -/
structure Heater where
  next : Nat := 0
  acc : Nat := 0
  high : Option (Nat × Nat) := none
  deriving DecidableEq, Repr

/-- The mains zero crossings of a die (R425): the last counted edge and the last intervals, ns. -/
structure ZeroCross where
  last : Option Nat := none
  intervals : List Nat := []
  deriving DecidableEq, Repr

/-- The GPIO pins of a die (R428): the filtered levels of the pins, and the levels that cue actions and loops drive. -/
structure Gpio where
  seen : Nat := 0
  cue : Nat := 0
  loop : Nat := 0
  deriving DecidableEq, Repr

/-- The frame an Ethernet port is sending (R448, R449): its queue, its descriptor's address and bytes, the status it ends
with, its timestamp and its end. -/
structure TxRun where
  q : Nat
  addr : Nat
  desc : List Byte
  status : Nat
  stamp : Nat
  finish : Nat
  deriving DecidableEq, Repr

/-- An Ethernet port (R448): the rings that have stopped at a descriptor with OWN = 0 (8: the receive ring), and the frame
being sent. -/
structure EthPort where
  stopped : List Nat := []
  run : Option TxRun := none
  deriving DecidableEq, Repr

/-- A rail slot (R507, R508), beside RSTAT: when its ramp and its state began, since when it has not been good while ON, and
whether its DOWN has lasted too long. -/
structure Rail where
  ramp : Nat := 0
  since : Nat := 0
  bad : Option Nat := none
  late : Bool := false
  deriving DecidableEq, Repr

/-- The temperature of a die (R519): its latest valid sample (1/16 °C) and when it was taken, and whether the last sample was
broken, and broken without a valid neighbour. -/
structure Thermal where
  valid : Option (Int × Nat) := none
  broken : Bool := false
  alone : Bool := false
  /-- The die has been in shutdown and has not been released since (R522). -/
  hot : Bool := false
  deriving DecidableEq, Repr

/-- The sender's side of a station's head link (R277 to R285): packets that wait to be sent, packets sent and not yet
acknowledged with their PSNs, credits granted and used (cumulative, modulo 2^16), the NAKs received for one PSN, when an ACK
last advanced, when RESYNC was last sent, when the last valid STATUS came and its payload; and the last trim set started by
the host. -/
structure HeadLink where
  waiting : List HeadPkt := []
  replay : List (Nat × HeadPkt) := []
  lineGiven : Nat := 0
  ctlGiven : Nat := 0
  lineUsed : Nat := 0
  ctlUsed : Nat := 0
  nakPsn : Nat := 0
  naks : Nat := 0
  advAt : Nat := 0
  resyncAt : Option Nat := none
  statusAt : Nat := 0
  last : Option (List Byte) := none
  trim : List HeadPkt := []
  /-- The session has opened, and its LINTAB and trim set have not all gone out (R278). -/
  opening : Bool := false
  deriving DecidableEq, Repr

/-- A block (R160): its sync header says whether it is a control block; its 8 payload bytes. -/
structure Block where
  control : Bool
  bytes : List Byte
  deriving DecidableEq, Repr

/-- A bond of lanes (R183 to R187, R272): its lanes in position order, when it was formed, whether its 1 ms has been judged,
and the markers received in a row by each position; for what it sends, the part of the block time gone by, the slots sent since
it was formed, and the blocks of its stream that wait. -/
structure Bond where
  lanes : List Nat := []
  formedAt : Nat := 0
  late : Bool := false
  marks : List (Nat × Nat) := []
  phase : Nat := 0
  slot : Nat := 0
  stream : List Block := []
  deriving DecidableEq, Repr
/-- A serial lane beside its registers (R159 to R179): when it left state 5, while LOCK_HOLD runs; the rate and the test modes
applied at its bring-up; a fenced lane that comes back; the next point of its eye scan; when its latest invalid sync headers
came, newest first; for what it sends, the part of the block time gone by, the scrambler, the PRBS31 generator, and the 66 bits
on its pair, the first sent first (none: electrical idle); for near-end loopback, the descrambler, the block received, and the
bits that the PRBS31 checker has seen. -/
structure Lane where
  lostAt : Option Nat := none
  rate : Nat := 3
  prbs : Bool := false
  check : Bool := false
  near : Bool := false
  far : Bool := false
  rejoin : Bool := false
  point : Nat := 0
  invalid : List Nat := []
  phase : Nat := 0
  scr : Nat := 0
  prbsReg : Nat := 0x7FFFFFFF
  wire : List Bool := []
  rscr : Nat := 0
  got : Option Block := none
  hist : Nat := 0
  on : Bool := false
  deriving DecidableEq, Repr

/-- An accepted raster packet that has not landed: what it writes, its pool and credits, and the ashlar that it completes. -/
structure Landing where
  addr : Nat
  bytes : List Byte
  pool : Nat
  credits : Nat
  fsn : Nat := 0
  station : Nat := 0
  complete : Option Nat := none
  deriving DecidableEq, Repr

/-- An ashlar under way on the raster link (R205 to R207): `dup`: it has passed the survey and is not written. -/
structure Partial where
  station : Nat
  fsn : Nat
  ashlar : Nat
  course : Nat
  addr : Nat
  len : Nat
  next : Nat
  dup : Bool
  deriving DecidableEq, Repr

/-- The receiver's side of a raster link (R193 to R209). Counters of the pools are cumulative in the session. -/
structure Raster where
  granted : List Nat := List.replicate 17 0
  used : List Nat := List.replicate 17 0
  landed : List Nat := List.replicate 17 0
  queue : List Landing := []
  partials : List Partial := []
  nakAt : Option Nat := none
  naks : Nat := 0
  initAt : Option Nat := none
  creditAt : Nat := 0
  /-- A RESYNC waits until everything accepted has landed. -/
  resync : Option Nat := none
  /-- The highest ashlar begun in the session, by station and FSN (R205). -/
  begun : List (Nat × Nat × Nat) := []
  deriving DecidableEq, Repr

/-- A mark input (R321, R322): its FIFO of captures (STIME, edge index, p), oldest first, and the captures (edge index, p) of
the open window, oldest first; none: no window has been opened. -/
structure MarkInput where
  fifo : List (Nat × Nat × Nat) := []
  window : Option (List (Nat × Nat)) := none
  deriving DecidableEq, Repr

/-- A calibration load under way (R314): station, set, staging slot, and the plumb, facet and linearity banks it fills. -/
structure CalJob where
  l : Nat
  set : Nat
  slot : Nat
  plumb : Nat
  facet : Nat
  lin : Nat
  deriving DecidableEq, Repr

/-- Ageing of a station (R315 to R320): the action under way (1 restore, 2 save, 3 checkpoint), and when the checkpoint and
refresh periods began. -/
structure AgeRun where
  action : Nat := 0
  ckptAt : Nat := 0
  sentAt : Nat := 0
  deriving DecidableEq, Repr

/-- The boot engine (R549 to R552) beside BOOT_STAT: the offset of the next record in the second pass, the CRC of the bytes
read so far, how far the time limit of a POLL that waits reaches, and how far a DELAY does (ns). -/
structure Boot where
  pos : Nat := 0
  crc : Nat := 0
  pollEnd : Option Nat := none
  delayEnd : Option Nat := none
  deriving DecidableEq, Repr

/-- A test access port (R554 to R556): the instruction in its register (IDCODE after its reset, log 74) and the result of the
last DBG_ACCESS. -/
structure Tap where
  ir : Nat := 1
  done : Bool := false
  err : Bool := false
  data : Word := 0
  deriving DecidableEq, Repr

/-- The state of the controller. Register words and table windows are in `regs`; what the registers do not show is in the
other fields. A map lists only what differs from its default. -/
structure State where
  /-- The part (R1): a PX7188 (log 1). -/
  part : Part := .px7188
  /-- The straps sampled at the last cold release. -/
  straps : Straps := {}
  /-- Every register word and table word, by BAR0 offset. -/
  regs : List (Nat × Word) := []
  /-- Page memory, by 39-bit address (R454). -/
  mem : List Host.Cell := []
  /-- The NV stores, by die × 2 MiB + offset (R516). -/
  nv : List Host.Cell := []
  /-- Host memory, by PCIe address, and the boot flash: the environment that the controller reads and writes. -/
  host : List Host.Cell := []
  flash : List Host.Cell := []
  /-- Nanoseconds since power-on. -/
  now : Nat := 0
  clocks : List (Nat × DieClock) := []
  master : MasterTime := {}
  /-- Register writes landed, by requester × 16 + die (8: the package), modulo 2^32 (R41). -/
  landed : List (Nat × Nat) := []
  /-- The last completion returned to a requester. -/
  resp : Completion := {}
  /-- What has been sent to the outside, newest first. -/
  sent : List Sent := []
  /-- Messages between dies under way, oldest first. -/
  msgs : List Msg := []
  /-- The number of free values drawn so far (the model's own field, log 3). -/
  freeSeq : Nat := 0
  /-- Fenced units (R483, R492), and stations whose unfencing is pending (R493). -/
  fenced : List UnitId := []
  unfPending : List Nat := []
  /-- The package is in safe stop (R496). -/
  safeStop : Bool := false
  /-- The end of the running ERR_N pulse (R497), and the AON holds of R536 and R538. -/
  errPulseEnd : Option Nat := none
  errAonHold : Bool := false
  releases : List (Nat × Release) := []
  domains : List (Nat × Domain) := []
  /-- Staging slots by die × 8 + slot, and the cross-die transaction of D0. -/
  txns : List (Nat × TxnSlot) := []
  xtxn : Xtxn := {}
  /-- The first submission after cold reset has passed (R73). -/
  lastFsnValid : Bool := false
  slots : List (Nat × Slot) := []
  /-- Planes by slot × 16 + station. -/
  planes : List (Nat × Plane) := []
  decls : List Decl := []
  retained : List (Nat × Retained) := []
  freed : List Nat := []
  freedWait : List FreedWait := []
  spoilLog : List SpoilEntry := []
  /-- Frames spoiled since cold reset (R97). -/
  spoils : Nat := 0
  /-- Page-memory blocks (address / 32) whose check code reads as uncorrectable (R462). -/
  badBlocks : List Nat := []
  /-- The devices are trained (R455). -/
  memTrained : List Nat := []
  /-- DMA channels by die × 8 + channel. -/
  dmas : List (Nat × DmaCh) := []
  /-- The scrubber of each die: next block, start of the pass, and whether it has overrun (R463). -/
  scrubs : List (Nat × Scrub) := []
  /-- Compressor lanes' jobs by die × 8 + lane; the next ring slot to start by die × 2 + ring (0 foreground, 1 background);
  ring slots whose jobs have ended, as (die × 2 + ring) × 128 + slot. -/
  jobs : List (Nat × Option Job) := []
  jobNext : List (Nat × Nat) := []
  jobEnded : List Nat := []
  /-- Decode lanes by die × 32 + lane. -/
  dlanes : List (Nat × DecodeLane) := []
  /-- Position counters by die × 8 + counter; encoder levels by die × 8 + input. -/
  counters : List (Nat × PosCounter) := []
  encoders : List (Nat × Encoder) := []
  /-- Cues by die × 512 + cue. -/
  cues : List (Nat × CueRun) := []
  /-- Start lists by station, oldest first. -/
  startLists : List (Nat × List StartEntry) := []
  paths : List (Nat × PathRun) := []
  purges : List Purge := []
  /-- The snapshot log (R515): the cause of the record being written with what byte 148 holds, and the waiting trigger. -/
  logBusy : Option (Nat × Nat) := none
  logWait : Option (Nat × Nat) := none
  /-- Motor channels by die × 4 + channel, motor buses by die × 4 + bus. -/
  focs : List (Nat × FocCh) := []
  buses : List (Nat × BusRun) := []
  /-- Step channels by die × 8 + channel. -/
  steps : List (Nat × StepCh) := []
  /-- The level of ILK_N, and the stations whose HOK_Sk is high (R299); an open input reads low (R571). -/
  ilkIn : Bool := false
  hokIn : List Nat := []
  stations : List (Nat × Station) := []
  imagers : List (Nat × Imager) := []
  /-- Loop contexts by die × 160 + context; feed-forward entries by die × 8 + channel. -/
  loops : List (Nat × LoopCtx) := []
  cffs : List (Nat × List CffEntry) := []
  /-- Outputs of AREG loops that wait to be staged (R324, R325), by station. -/
  aregOut : List (Nat × Int) := []
  /-- Process I/O: conversions of each ADC input, newest first, by die × 16 + input; heaters by die × 4 + output;
  consecutive monitor readings above the limit by die × 8 + output. -/
  adcs : List (Nat × List Nat) := []
  heaters : List (Nat × Heater) := []
  zeros : List (Nat × ZeroCross) := []
  hvOver : List (Nat × Nat) := []
  gpios : List (Nat × Gpio) := []
  /-- Ethernet ports, and when the last Sync arrived (R450). -/
  eths : List (Nat × EthPort) := []
  syncAt : Option Nat := none
  /-- The first loop tick of each die that has not run (R444). -/
  loopNext : List (Nat × Nat) := []
  /-- Rail slots, and the last conversions of the monitor inputs D0_RMONm. -/
  rails : List (Nat × Rail) := []
  rmon : List (Nat × Nat) := []
  thermals : List (Nat × Thermal) := []
  /-- Paths whose EN is to be written 0 when they next enter RUN (R521). -/
  stopAtRun : List Nat := []
  /-- Uncorrectable words of the NV stores, as die × 32768 + word (R517). -/
  nvBad : List Nat := []
  /-- The sequence number of the next log record (R514). -/
  logSeq : Nat := 0
  /-- Serial lanes by die × 16 + lane (0 to 3 RL, 4 to 9 HL, 10 and 11 GL); raster links by die. -/
  lanes : List (Nat × Lane) := []
  rasters : List (Nat × Raster) := []
  headLinks : List (Nat × HeadLink) := []
  /-- Bonds: the raster link's of die d at d, the head link's of station k at 16 + k. -/
  bonds : List (Nat × Bond) := []
  /-- Mark inputs by die × 4 + input; calibration loads by die; ageing by station. -/
  marks : List (Nat × MarkInput) := []
  calJobs : List (Nat × Option CalJob) := []
  ages : List (Nat × AgeRun) := []
  /-- Fenced mortar links; link d joins die d and the next die of the ring (R15, R16). -/
  linksFenced : List Nat := []
  /-- Clock failures by die, with the time of their judgement, until the warm reset they lead to (R548). -/
  clkFails : List (Nat × Nat) := []
  /-- When the straps were sampled, while the reference check has not passed (R536). -/
  strapsAt : Option Nat := none
  boot : Boot := {}
  taps : List (Nat × Tap) := []
  /-- The watchdogs of the dies, and of the package at 8: when the count last restarted (R534). -/
  dogs : List (Nat × Nat) := []
  /-- The PCIe endpoint is ready (R536), and whether the boot engine is to start at the next release of D0 (R537). -/
  pcieUp : Bool := true
  bootWaits : Bool := false
  /-- When the filtered levels of A and B of each encoder input changed last (R330). -/
  encEdges : List (Nat × (Option Nat × Option Nat)) := []
  /-- The commands that wait, first in first out. -/
  pending : List Instr := []
  deriving DecidableEq, Repr

/-- The machine right after a cold reset has been released (R536), with every strap low (log 2). -/
def State.reset : State := {}


end Sys2Proof.Machine
end

