-- ==== Sys2Proof/Machine/Ops.lean ====
section
/-! DEFINITION. The named operations over registers, memories, time, events and fault records that every meaning uses. -/

namespace Sys2Proof.Machine

/-! ### Bits, signs and counters -/

/-- Bits [lsb+width−1:lsb] of `v`. -/
def bitsOf (v lsb width : Nat) : Nat := v / 2 ^ lsb % 2 ^ width

/-- `old` with bits [lsb+width−1:lsb] replaced by `v`. -/
def withBits (old lsb width v : Nat) : Nat :=
  old % 2 ^ lsb + 2 ^ lsb * (v % 2 ^ width + 2 ^ width * (old / 2 ^ (lsb + width)))

def testBit (v i : Nat) : Bool := v / 2 ^ i % 2 == 1

def b2n (b : Bool) : Nat := if b then 1 else 0

/-- The two's-complement value of the low `w` bits. -/
def toSigned (w v : Nat) : Int :=
  let x := v % 2 ^ w
  if x < 2 ^ (w - 1) then (x : Int) else (x : Int) - (2 ^ w : Nat)

/-- The `w`-bit two's-complement code of an integer. -/
def ofSigned (w : Nat) (v : Int) : Nat := (v % ((2 ^ w : Nat) : Int)).toNat

/-- `v` held between the bounds. -/
def clampInt (lo hi v : Int) : Int := if v < lo then lo else if hi < v then hi else v

def ceilDiv (a b : Nat) : Nat := (a + b - 1) / b

/-- R11: `a` is later than `b` on a counter of `w` bits. -/
def later (w a b : Nat) : Bool :=
  let e := (a + 2 ^ w - b % 2 ^ w) % 2 ^ w
  decide (1 ≤ e) && decide (e ≤ 2 ^ (w - 1) - 1)

/-- The number of little-endian bytes (R4). -/
def leNat : List Byte → Nat
  | [] => 0
  | b :: t => b.toNat + 256 * leNat t

/-- The `n` little-endian bytes of a number. -/
def leBytes : Nat → Nat → List Byte
  | 0, _ => []
  | n + 1, v => BitVec.ofNat 8 v :: leBytes n (v / 256)

/-- `n` bytes of a packet from offset `o`, as a number. -/
def fieldLe (bs : List Byte) (o n : Nat) : Nat := leNat ((bs.drop o).take n)

/-! ### Dies, pages and stations -/

/-- R1: the dies of a part. -/
def Part.dies : Part → Nat
  | .px7182 => 2
  | .px7184 => 4
  | .px7188 => 8

def State.dies (s : State) : Nat := s.part.dies

/-- R3: the die of station `k`, and its local number. -/
def stDie (k : Nat) : Nat := k / 2
def stLoc (k : Nat) : Nat := k % 2

/-- R20: the pages of local station `l`. -/
def staPage (l : Nat) : Nat := 0x50 + 8 * l
def stimPage (l : Nat) : Nat := 0x51 + 8 * l
def shlPage (l : Nat) : Nat := 0x52 + 8 * l
def sprotPage (l : Nat) : Nat := 0x53 + 8 * l

/-- The power domain of a page (R501). -/
def pageDomain (p : Nat) : Nat :=
  match Layout.pageKind p with
  | some (.mortP, _) => 1
  | some (.rlnkP, _) => 3
  | some (.laneP, n) => if n ≤ 3 then 3 else if n ≤ 6 then 4 else if n ≤ 9 then 5 else 6
  | some (.elnkP, _) => 6
  | some (.memcP, _) => 7
  | some (.codecP, _) => 8
  | some (.staP, l) | some (.stimP, l) | some (.shlP, l) | some (.sprotP, l) => 9 + l
  | some (.cueP, _) | some (.stepP, _) | some (.focP, _) | some (.busP, _) | some (.gpioP, _) => 11
  | some (.loopP, _) | some (.pioP, _) => 12
  | some (.dmaP, _) => 13
  | _ => 0

/-- R31: whether page `p` is present on die `d`. -/
def pagePresent (d p : Nat) (s : State) : Bool :=
  decide (d < s.dies) &&
    match Layout.pageKind p with
    | none => false
    | some (.seqP, _) | some (.elnkP, _) => decide (d = 0)
    | some (.legacyP, _) => s.straps.legacy
    | some _ => true

/-! ### Register words -/

/-- The pages whose EN and PWR_REQ reset to 1 whatever the straps (R35). -/
def alwaysOnPage (p : Nat) : Bool :=
  match Layout.pageKind p with
  | some (.dieP, _) | some (.ctrlP, _) | some (.txnP, _) | some (.rstP, _) | some (.clkP, _) | some (.pwrP, _)
  | some (.seqP, _) | some (.thermP, _) | some (.nvsP, _) | some (.mortP, _) | some (.timeP, _) => true
  | _ => false

/-- R156: the role of lane `n` of a die at reset, as LCFG.ROLE codes it. -/
def laneRoleReset (d n : Nat) : Nat :=
  if n ≤ 3 then 0 else if n = 6 ∨ n = 9 then 2 else if n ≤ 9 then 1 else if d = 0 then 3 else 0

/-- What a register word or a table word reads as when nothing differs from reset with every strap low. The vector control
words of the MSI-X table reset to masked (PRESUMED, log 5). The die is released: its reference is present and its PLLs are
locked. -/
def resetWord (a : Nat) : Word :=
  let d := a / 0x1000000
  let o := a % 0x1000000
  if 0x100000 ≤ o then
    if d = 0 ∧ 0xF00000 ≤ o ∧ o < 0xF04000 ∧ o % 16 = 12 then 1 else 0
  else
    let p := o / 0x1000
    let off := o % 0x1000
    match Layout.pageKind p with
    | none => 0
    | some (k, _) =>
      if off = 8 then (if alwaysOnPage p then 9 else 0)
      else match Layout.find k off with
        | none => 0
        | some r =>
          if r.d0Only && d != 0 then 0
          else
            let base := Layout.fieldsReset r.fields
            match k with
            | .rlnkP => BitVec.ofNat 32 (if off = 0x40 then (if d = 0 then 2 else 3) else base)
            | .laneP => BitVec.ofNat 32 (if off = 0x40 then base + 16 * laneRoleReset d (p - 0x20) else base)
            | .clkP => BitVec.ofNat 32 (if off = 0x40 then base + 1 else if 0x44 ≤ off ∧ off < 0x54 then base + 2 else base)
            | .cueP => BitVec.ofNat 32 (if 0x140 ≤ off ∧ off < 0x160 then base + (off - 0x140) / 4 else base)
            | _ => BitVec.ofNat 32 base

/-- The word at BAR0 offset `a` as it is stored. -/
def word (a : Nat) (s : State) : Word := mapGet resetWord s.regs a

def putWord (a : Nat) (v : Word) (s : State) : State := { s with regs := mapSet resetWord s.regs a v }

/-- The value of a field. -/
def rd (l : Loc) (s : State) : Nat := bitsOf (word l.addr s).toNat l.lsb l.width

/-- The value of a signed field. -/
def rdS (l : Loc) (s : State) : Int := toSigned l.width (rd l s)

def flag (l : Loc) (s : State) : Bool := rd l s != 0

/-- A field given the value `v` modulo its width, by the hardware. -/
def wr (l : Loc) (v : Nat) (s : State) : State :=
  putWord l.addr (BitVec.ofNat 32 (withBits (word l.addr s).toNat l.lsb l.width v)) s

def wrS (l : Loc) (v : Int) (s : State) : State := wr l (ofSigned l.width v) s

/-- A saturating counter goes up by `n`. -/
def bumpBy (l : Loc) (n : Nat) (s : State) : State := wr l (Nat.min (rd l s + n) (2 ^ l.width - 1)) s

def bump (l : Loc) (s : State) : State := bumpBy l 1 s

/-- Apply `f` only when `c` holds. -/
def onlyIf (c : Bool) (f : State → State) (s : State) : State := if c then f s else s

/-- A value the spec leaves open, drawn fresh (log 3). -/
def drawFree (s : State) : Nat × State := ((Config.freeValue s.freeSeq).toNat, { s with freeSeq := s.freeSeq + 1 })

/-- `n` words of the register space as bytes. -/
def wordBytes (a n : Nat) (s : State) : List Byte := (List.range n).flatMap (fun i => leBytes 4 (word (a + 4 * i) s).toNat)

/-- Bytes stored in table words from offset `a` of the register space. -/
def putBytes : Nat → List Byte → State → State
  | _, [], s => s
  | a, b :: t, s =>
    let w := a / 4 * 4
    putBytes (a + 1) t (putWord w (BitVec.ofNat 32 (withBits (word w s).toNat (8 * (a % 4)) 8 b.toNat)) s)

/-! ### Memories -/

def memGet (a : Nat) (s : State) : Byte := mapGet (fun _ => 0) s.mem a
def memPut (a : Nat) (v : Byte) (s : State) : State := { s with mem := mapSet (fun _ => 0) s.mem a v }
def memRead (a n : Nat) (s : State) : List Byte := (List.range n).map (fun i => memGet (a + i) s)
def memNum (a n : Nat) (s : State) : Nat := leNat (memRead a n s)

/-- Bytes stored at rising addresses. -/
def memWrite : Nat → List Byte → State → State
  | _, [], s => s
  | a, b :: t, s => memWrite (a + 1) t (memPut a b s)

/-- The canonical form of a memory (keys strictly rising, no entry equal to the byte an unlisted address reads as). -/
abbrev Memory.wf (m : List Host.Cell) : Bool := mapWf (fun _ => (0 : Byte)) m

/-- The size of one die's NV store (R516). -/
def nvSize : Nat := 0x200000

def nvGet (d o : Nat) (s : State) : Byte := mapGet (fun _ => 0) s.nv (d * nvSize + o)
def nvPut (d o : Nat) (v : Byte) (s : State) : State := { s with nv := mapSet (fun _ => 0) s.nv (d * nvSize + o) v }
def nvRead (d o n : Nat) (s : State) : List Byte := (List.range n).map (fun i => nvGet d (o + i) s)
def nvWriteBytes (d : Nat) : Nat → List Byte → State → State
  | _, [], s => s
  | o, b :: t, s => nvWriteBytes d (o + 1) t (nvPut d o b s)

def hostGet (a : Nat) (s : State) : Byte := mapGet (fun _ => 0) s.host a
def hostPut (a : Nat) (v : Byte) (s : State) : State := { s with host := mapSet (fun _ => 0) s.host a v }
def hostRead (a n : Nat) (s : State) : List Byte := (List.range n).map (fun i => hostGet (a + i) s)
def hostWrite : Nat → List Byte → State → State
  | _, [], s => s
  | a, b :: t, s => hostWrite (a + 1) t (hostPut a b s)

def flashGet (a : Nat) (s : State) : Byte := mapGet (fun _ => 0) s.flash a

/-! ### Tables of units -/

def releaseOf (d : Nat) (s : State) : Release := mapGet (fun _ => {}) s.releases d
def setRelease (d : Nat) (r : Release) (s : State) : State := { s with releases := mapSet (fun _ => {}) s.releases d r }

/-- The domains on right after a cold release with every strap low: CTRL and MORT, and HOST on D0 (R502). -/
def domainReset (i : Nat) : Domain :=
  if i % 16 ≤ 1 ∨ i = 2 then { st := 2, good := true, rel := true } else {}

def domainOf (d dom : Nat) (s : State) : Domain := mapGet domainReset s.domains (16 * d + dom)
def setDomain (d dom : Nat) (v : Domain) (s : State) : State :=
  { s with domains := mapSet domainReset s.domains (16 * d + dom) v }

def txnOf (d i : Nat) (s : State) : TxnSlot := mapGet (fun _ => {}) s.txns (8 * d + i)
def setTxn (d i : Nat) (v : TxnSlot) (s : State) : State := { s with txns := mapSet (fun _ => {}) s.txns (8 * d + i) v }

def slotOf (i : Nat) (s : State) : Slot := mapGet (fun _ => {}) s.slots i
def setSlot (i : Nat) (v : Slot) (s : State) : State := { s with slots := mapSet (fun _ => {}) s.slots i v }

def planeOf (i k : Nat) (s : State) : Plane := mapGet (fun _ => {}) s.planes (16 * i + k)
def setPlane (i k : Nat) (v : Plane) (s : State) : State := { s with planes := mapSet (fun _ => {}) s.planes (16 * i + k) v }

def retainedOf (i : Nat) (s : State) : Retained := mapGet (fun _ => {}) s.retained i
def setRetained (i : Nat) (v : Retained) (s : State) : State :=
  { s with retained := mapSet (fun _ => {}) s.retained i v }

/-! ### Time -/

def clockOf (d : Nat) (s : State) : DieClock := mapGet (fun _ => {}) s.clocks d
def setClock (d : Nat) (c : DieClock) (s : State) : State := { s with clocks := mapSet (fun _ => {}) s.clocks d c }

/-- The counter C of a die: nanoseconds since it was zeroed, in steps of 10 while the system PLL is bypassed (R546). -/
def counterC (d : Nat) (s : State) : Nat :=
  let c := clockOf d s
  let n := s.now - c.c0
  if rd (R.CLK.PLL_STAT_STATE d 0) s = 3 then c.byp + (n - c.byp) / 10 * 10 else n

/-- LTIME of a die (R440). -/
def ltime (d : Nat) (s : State) : Nat :=
  let c := clockOf d s
  (c.lk + (counterC d s - c.ck) * c.rk / 4294967296) % 18446744073709551616

/-- STIME, the low 32 bits of LTIME. -/
def stime (d : Nat) (s : State) : Nat := ltime d s % 4294967296

/-! ### Event and fault lines, MSI-X and INT_N (R44 to R47) -/

def evtLine (d p : Nat) (s : State) : Bool :=
  (word (R.HDR.EVT_STAT_EVT d p).addr s &&& word (R.HDR.EVT_EN_EN d p).addr s) != 0

def fltLine (d p : Nat) (s : State) : Bool := word (R.HDR.FLT_STAT_FLT d p).addr s != 0

/-- The level of the line that an EVT_SRC word of die `d` selects; an absent page's lines are never asserted. -/
def srcLine (d : Nat) (w : Word) (s : State) : Bool :=
  let v := w.toNat
  testBit v 9 && (if testBit v 8 then fltLine d (v % 256) s else evtLine d (v % 256) s)

/-- The sources of die `d` whose EVT_SRC word is set. -/
def sourceWords (d : Nat) (s : State) : List (Nat × Word) :=
  let base := Layout.addr d 1 0x400
  s.regs.filterMap (fun e => if base ≤ e.1 ∧ e.1 < base + 0x200 then some ((e.1 - base) / 4, e.2) else none)

/-- The BAR0 offset of MSI-X table word `i` of vector `v`, and of the pending-bit word of vector `v` (R32). -/
def msixAddr (v i : Nat) : Nat := 0xF00000 + 16 * v + 4 * i
def msixPbaAddr (v : Nat) : Nat := 0xF04000 + 4 * (v / 32 % 32)

/-- R46: the message of vector `v` is sent, or left pending while the vector is masked. -/
def signalVector (v : Nat) (s : State) : State :=
  if testBit (word (msixAddr v 3) s).toNat 0 then
    putWord (msixPbaAddr v) (word (msixPbaAddr v) s ||| BitVec.ofNat 32 (2 ^ (v % 32))) s
  else
    { s with sent := .msix v (word (msixAddr v 0) s) (word (msixAddr v 1) s) (word (msixAddr v 2) s) :: s.sent }

def signalAll : List Nat → State → State
  | [], s => s
  | v :: t, s => signalAll t (signalVector v s)

/-- R45, R46: messages for the sources of die `d` that follow the given line and are asserted. -/
def signalLine (d p kind : Nat) (s : State) : State :=
  signalAll ((sourceWords d s).filterMap (fun e =>
    if e.2.toNat % 512 = p + 256 * kind ∧ srcLine d e.2 s then some (128 * d + e.1) else none)) s

/-- After a change of a page's header words: messages for the lines that have risen. -/
def afterHeader (d p : Nat) (evtBefore fltBefore : Bool) (s : State) : State :=
  let s1 := if evtLine d p s && !evtBefore then signalLine d p 0 s else s
  if fltLine d p s1 && !fltBefore then signalLine d p 1 s1 else s1

/-- EVT_STAT bits are set by the hardware. -/
def evtMask (d p : Nat) (mask : Nat) (s : State) : State :=
  let a := (R.HDR.EVT_STAT_EVT d p).addr
  afterHeader d p (evtLine d p s) (fltLine d p s) (putWord a (word a s ||| BitVec.ofNat 32 mask) s)

def evt (d p bit : Nat) (s : State) : State := evtMask d p (2 ^ bit) s

/-- R47: INT_N is driven low; it is of class S, so a die in safe state releases it (R540). -/
def intLow (s : State) : Bool :=
  !s.fenced.contains (.die 0) && !s.safeStop && (List.range s.dies).any (fun d => (sourceWords d s).any (fun e => testBit e.2.toNat 10 && srcLine d e.2 s))

/-! ### Access errors and violations (R37, R576) -/

/-- A failed access is latched in ACC_ERR of D0 and sets CTRL.EVT_STAT bit 1. -/
def accErr (kind : Nat) (write : Bool) (a : Nat) (s : State) : State :=
  let s1 := if flag (R.CTRL.ACC_ERR_VALID 0) s then s
    else putWord (R.CTRL.ACC_ERR_VALID 0).addr
      (BitVec.ofNat 32 (a % 0x8000000 + 0x8000000 * kind + 0x40000000 * b2n write + 0x80000000)) s
  evt 0 1 1 s1

/-- A privilege violation at a BAR2 offset. -/
def privViolation (a : Nat) (s : State) : State :=
  let s1 := bump (R.CTRL.PRIV_COUNT_COUNT 0) s
  let s2 := if flag (R.CTRL.PRIV_ADDR_VALID 0) s1 then s1
    else putWord (R.CTRL.PRIV_ADDR_VALID 0).addr (BitVec.ofNat 32 (a % 0x8000000 + 0x80000000)) s1
  evt 0 1 0 s2

/-! ### Fencing and blocks -/

/-- The die of a unit. -/
def unitDie : UnitId → Nat
  | .station k => k / 2
  | .lane d _ | .bond d | .decode d _ | .comp d _ | .dma d _ | .step d _ | .foc d _ | .bus d _ | .loop d _ | .cue d _ => d
  | .eth _ => 0
  | .die d => d

def dieFenced (d : Nat) (s : State) : Bool := s.fenced.contains (.die d)

/-- R492: the unit is fenced, by itself or with its die; in a safe stop every die is in safe state (R496). -/
def isFenced (u : UnitId) (s : State) : Bool := s.fenced.contains u || dieFenced (unitDie u) s || s.safeStop

def dropFence (u : UnitId) (s : State) : State := { s with fenced := s.fenced.filter (fun v => v != u) }

/-- The die exists and is released from reset. -/
def dieUp (d : Nat) (s : State) : Bool := decide (d < s.dies) && (releaseOf d s).phase == 9

/-- The domain is on and its island released. -/
def domainReady (d dom : Nat) (s : State) : Bool :=
  let x := domainOf d dom s
  dieUp d s && x.st == 2 && x.rel

/-- The block of page `p` is powered and released. -/
def blockUp (d p : Nat) (s : State) : Bool := domainReady d (pageDomain p) s

/-- It is enabled too. PAGE_CTL.EN counts where a rule says so: stations, lanes and the raster link (log 76). -/
def blockOn (d p : Nat) (s : State) : Bool :=
  blockUp d p s && flag (R.HDR.PAGE_CTL_EN d p) s

/-- The word DOM_STAT of a die (R524). -/
def domStat (d : Nat) (s : State) : Nat := (List.range 14).foldl (fun a i => a + 4 ^ i * (domainOf d i s).st) 0

/-- CTRL.DIE_FENCED of D0: bit d for a fenced die. -/
def dieFencedWord (s : State) : Nat := (List.range 8).foldl (fun a d => a + 2 ^ d * b2n (dieFenced d s)) 0

/-! ### Fault records (R484 to R487, R497) -/

/-- The class of fault source `src` of a page: 1 C, 2 U, 3 F; 0: the page has no such source. -/
def faultClass (p src : Nat) : Nat :=
  match Layout.pageKind p with
  | some (.dieP, _) => if src ≤ 7 then 2 else if src = 8 then 3 else if src = 9 then 1 else 0
  | some (.codecP, _) => if src ≤ 1 then 2 else if src = 2 then 1 else 0
  | some (.laneP, _) => if src = 0 ∨ src = 2 then 2 else if src = 1 ∨ src = 3 then 1 else 0
  | some (.rlnkP, _) => if src = 0 ∨ src = 4 then 1 else if src ≤ 3 then 2 else 0
  | some (.staP, _) => if src ≤ 2 then 2 else if src ≤ 4 then 1 else 0
  | some (.stimP, _) => if src ≤ 4 then 2 else if src ≤ 6 then 1 else 0
  | some (.shlP, _) => if src = 4 ∨ src = 6 then 1 else if src ≤ 5 then 2 else 0
  | some (.sprotP, _) => if src = 0 ∨ src = 2 then 2 else if src = 1 ∨ src = 3 then 1 else 0
  | some (.pioP, _) =>
    if src = 0 ∨ src = 9 then 1 else if src ≤ 8 then 2 else if 24 ≤ src ∧ src ≤ 26 then 1 else 0
  | some (.cueP, _) => if src = 3 then 2 else if src ≤ 5 then 1 else 0
  | some (.stepP, _) => if src ≤ 7 then 2 else if src = 8 then 1 else 0
  | some (.focP, _) => if src ≤ 15 then 2 else if src ≤ 20 then 1 else 0
  | some (.busP, _) => if src ≤ 3 then 1 else if src ≤ 7 then 3 else if src = 8 then 1 else 0
  | some (.loopP, _) => if src = 0 ∨ src = 2 ∨ src = 3 then 2 else if src = 1 ∨ src = 4 then 1 else 0
  | some (.timeP, _) => if src ≤ 1 then 1 else 0
  | some (.elnkP, _) => if src = 0 ∨ src = 2 then 1 else if src = 1 then 2 else 0
  | some (.memcP, _) => if src ≤ 1 then 1 else if src = 2 then 3 else 0
  | some (.dmaP, _) => if src ≤ 7 then 2 else if src ≤ 10 then 1 else 0
  | some (.pwrP, _) => if src = 0 then 2 else if src = 1 then 1 else 0
  | some (.seqP, _) => if src ≤ 2 then 1 else 0
  | some (.thermP, _) => if src ≤ 3 then 1 else if src = 4 then 3 else 0
  | some (.nvsP, _) => if src ≤ 1 then 1 else 0
  | some (.rstP, _) => if src ≤ 2 then 3 else if src = 3 then 1 else 0
  | some (.clkP, _) => if src = 0 then 3 else if src = 1 ∨ src = 3 then 2 else if src = 2 then 1 else 0
  | _ => 0

/-- The word 0 and word 1 of an error record. -/
def errRecord0 (src cls esn : Nat) : Word := BitVec.ofNat 32 (src % 32 + 32 * cls + 128 + 256 * (esn % 16777216))

/-- R485: FIRST_ERR fills while it is not valid, WORST_ERR on a class above both. -/
def fillRecords (d p src cls esn : Nat) (s : State) : State :=
  let t := BitVec.ofNat 32 (stime d s)
  if !flag (R.HDR.FIRST_ERR0_VALID d p) s then
    putWord (R.HDR.FIRST_ERR1_STIME d p).addr t (putWord (R.HDR.FIRST_ERR0_VALID d p).addr (errRecord0 src cls esn) s)
  else if rd (R.HDR.FIRST_ERR0_CLASS d p) s < cls ∧
      (!flag (R.HDR.WORST_ERR0_VALID d p) s ∨ rd (R.HDR.WORST_ERR0_CLASS d p) s < cls) then
    putWord (R.HDR.WORST_ERR1_STIME d p).addr t (putWord (R.HDR.WORST_ERR0_VALID d p).addr (errRecord0 src cls esn) s)
  else s

/-- R497: D0 learns of a fault; a qualifying one starts or restarts the ERR_N pulse. -/
def errPulse (d p src cls esn : Nat) (forced : Bool) (s : State) : State :=
  if rd (R.CTRL.ERR_CFG_CLASS 0) s ≤ cls ∧ !(forced && flag (R.CTRL.ERR_CFG_FORCE_QUIET 0) s) then
    let s1 := { s with errPulseEnd := some (s.now + 1000 * rd (R.CTRL.ERR_CFG_WIDTH 0) s) }
    let s2 := wr (R.CTRL.ERR_STAT_PULSE 0) 1 (bump (R.CTRL.ERR_STAT_PULSES 0) s1)
    let s3 := putWord (R.CTRL.ERR_SRC1_ESN 0).addr (BitVec.ofNat 32 esn)
      (putWord (R.CTRL.ERR_SRC0_DIE 0).addr (BitVec.ofNat 32 (d + 256 * p + 65536 * src + 4194304 * cls)) s2)
    evt 0 1 4 s3
  else s

/-- R515: a trigger of the snapshot log; one may wait, a further one is lost. `info` is the word at offset 148. -/
def logTrigger (cause info : Nat) (s : State) : State :=
  if s.logBusy.isNone then { s with logBusy := some (cause, info) }
  else if s.logWait.isNone then { s with logWait := some (cause, info) }
  else bump (R.NVS.LOG_CNT_LOST 0) s

/-- R484: FLT_STAT, the ESN, ERR_COUNT and the records of one fault, without its reaction. A fault of class F is logged
(R515). -/
def recordFault (d p src : Nat) (forced : Bool) (s : State) : State :=
  let cls := faultClass p src
  let esn := rd (R.DIE.ESN_NOW_ESN d) s
  let a := (R.HDR.FLT_STAT_FLT d p).addr
  let s1 := afterHeader d p (evtLine d p s) (fltLine d p s) (putWord a (word a s ||| BitVec.ofNat 32 (2 ^ src)) s)
  let s2 := wr (R.DIE.ESN_NOW_ESN d) (esn + 1) s1
  let s3 := bump (R.HDR.ERR_COUNT_COUNT d p) s2
  let s4 := errPulse d p src cls esn forced (fillRecords d p src cls esn s3)
  if cls = 3 then logTrigger 6 (d + 256 * p + 65536 * src) s4 else s4

/-! ### Staging slots (R48, R54) -/

/-- The slot's STATE is checking or prepared. -/
def slotBusy (d i : Nat) (s : State) : Bool :=
  let st := rd (R.TXN.TXS_STAT_STATE d i) s
  st == 1 || st == 4

/-- The entries of a staging slot with their indexes: address, mask, data. -/
def slotEntries (d i : Nat) (s : State) : List (Nat × Nat × Nat × Nat) :=
  (List.range (rd (R.TXN.TXS_COUNT_COUNT d i) s)).map (fun n =>
    (n, rd (R.TXN.ENTRY_ADDR d i n) s, rd (R.TXN.ENTRY_MASK d i n) s, rd (R.TXN.ENTRY_DATA d i n) s))

/-- The fenceable unit that an RWS register at offset `o` of the window of die `d` governs, if any (R50 code 6; log 67). -/
def targetUnit (d o : Nat) : Option UnitId :=
  match Layout.pageKind (o / 0x1000) with
  | some (.staP, l) | some (.stimP, l) => some (.station (2 * d + l))
  | some (.stepP, _) => some (.step d ((o % 0x1000 - 0x100) / 0x40))
  | some (.focP, _) => some (.foc d ((o % 0x1000 - 0x100) / 0x80))
  | some (.loopP, _) => some (.loop d ((if o % 0x1000 < 0x700 then o % 0x1000 - 0x400 else o % 0x1000 - 0x700) / 4))
  | _ => none

/-- A slot becomes rejected (R50). BAD is 0 where no entry is at fault (DESIGN CHOICE, log 142). The rejection of an auto-registration output is counted
(R325). -/
def slotReject (d i reason bad : Nat) (s : State) : State :=
  let s1 := wr (R.TXN.TXS_STAT_BAD d i) bad (wr (R.TXN.TXS_STAT_REASON d i) reason (wr (R.TXN.TXS_STAT_STATE d i) 3 s))
  let s2 := evt d (2 + i) 1 (wr (R.TXN.TXS_TIME_STIME d i) (stime d s) s1)
  match (txnOf d i s2).areg with
  | none => s2
  | some l => evt d 0x71 27 (recordFault d 0x71 25 false (bump (R.PIO.AREG_CNT_REJECTS d l) s2))

/-- The slot belongs to a cross-die transaction that D0 has decided (R57, R58). -/
def slotDecided (d i : Nat) (s : State) : Bool :=
  flag (R.TXN.TXS_STAT_XDIE d i) s && rd (R.CTRL.XTXN_STAT_STATE 0) s == 2

/-- R54: a fence or a power-down request rejects every prepared slot of the die with a target that `hit` holds of; one whose
commit is decided keeps its targets (R58). -/
def rejectTargets (d reason : Nat) (hit : Nat → Bool) (s : State) : State :=
  (List.range 8).foldl (fun s i =>
    if rd (R.TXN.TXS_STAT_STATE d i) s ≠ 1 ∨ slotDecided d i s = true then s
    else match (slotEntries d i s).find? (fun e => e.2.2.1 != 0 && hit e.2.1) with
      | none => s
      | some e =>
        let s1 := slotReject d i reason e.1 s
        if flag (R.TXN.TXS_STAT_XDIE d i) s then { s1 with msgs := s1.msgs ++ [.answer d reason] } else s1) s

/-- A unit is fenced, and the slots that target its registers are rejected. -/
def addFence (u : UnitId) (s : State) : State :=
  if s.fenced.contains u then s
  else rejectTargets (unitDie u) 6 (fun o => u == .die (unitDie u) || targetUnit (unitDie u) o == some u)
    { s with fenced := u :: s.fenced }

/-- A FLT_STAT bit of class U or F is set on a page (R493). -/
def faultsHold (d p : Nat) (s : State) : Bool :=
  (List.range 32).any (fun i => testBit (rd (R.HDR.FLT_STAT_FLT d p) s) i && decide (2 ≤ faultClass p i))

/-- A refused unfence (R493). -/
def unfRefuse (d p : Nat) (s : State) : State :=
  let s1 := if flag (R.CTRL.UNF_REFUSE_VALID 0) s then s
    else putWord (R.CTRL.UNF_REFUSE_VALID 0).addr (BitVec.ofNat 32 (d + 256 * p + 2147483648)) s
  evt 0 1 3 s1

/-- R493: the unfence of a unit of a page; a command for a unit that is not fenced has no effect. -/
def unfence (d p : Nat) (u : UnitId) (s : State) : State :=
  if !s.fenced.contains u then s else if faultsHold d p s then unfRefuse d p s else dropFence u s

/-- R497: ERR_N is low. -/
def errLow (s : State) : Bool := s.errPulseEnd.isSome || flag (R.CTRL.ERR_HOLD_HOLD 0) s || s.errAonHold

end Sys2Proof.Machine
end

