-- ==== Sys2Proof/Machine/Dbf.lean ====
section
/-! DEFINITION. The Delion Block Format: CRC, line filters, the DEFLATE subset, the ashlar check and its encoder, and
carry-mode records (R98 to R121, R141 to R144). -/

namespace Sys2Proof.Machine

/-! ### CRCs -/

/-- One bit of a reflected CRC. -/
def crcBit (poly c : Nat) : Nat := if c % 2 = 1 then Nat.xor (c / 2) poly else c / 2

def crcByte (poly c : Nat) (b : Byte) : Nat :=
  crcBit poly (crcBit poly (crcBit poly (crcBit poly (crcBit poly (crcBit poly (crcBit poly (crcBit poly (Nat.xor c b.toNat))))))))

def crcFrom (poly : Nat) : List Byte → Nat → Nat
  | [], c => c
  | b :: t, c => crcFrom poly t (crcByte poly c b)

/-- CRC-32C (R108). -/
def crc32c (bs : List Byte) : Nat := Nat.xor (crcFrom 0x82F63B78 bs 0xFFFFFFFF) 0xFFFFFFFF

/-- The CRC-32 of IEEE 802.3 (R191). -/
def crc32 (bs : List Byte) : Nat := Nat.xor (crcFrom 0xEDB88320 bs 0xFFFFFFFF) 0xFFFFFFFF

/-! ### Line filters (R103, R104) -/

/-- `n` pieces of `w` bytes each. -/
def pieces : Nat → Nat → List Byte → List (List Byte)
  | 0, _, _ => []
  | n + 1, w, l => l.take w :: pieces n w (l.drop w)

/-- Undo filter `f` on one byte under the byte `a` of the line above. -/
def unfilterByte (f : Nat) (x a : Byte) : Byte :=
  match f with
  | 1 => x ^^^ a
  | 2 => BitVec.ofNat 8 (16 * ((x.toNat / 16 + a.toNat / 16) % 16) + (x.toNat % 16 + a.toNat % 16) % 16)
  | _ => x

def filterByte (f : Nat) (r a : Byte) : Byte :=
  match f with
  | 1 => r ^^^ a
  | 2 => BitVec.ofNat 8 (16 * ((r.toNat / 16 + 16 - a.toNat / 16) % 16) + (r.toNat % 16 + 16 - a.toNat % 16) % 16)
  | _ => r

/-- Lines decoded in order, each from the unfiltered line above it. -/
def unfilterLines (f : Nat) : List Byte → List (List Byte) → List (List Byte)
  | _, [] => []
  | above, l :: t => let r := List.zipWith (unfilterByte f) l above; r :: unfilterLines f r t

def filterLines (f : Nat) : List Byte → List (List Byte) → List (List Byte)
  | _, [] => []
  | above, l :: t => List.zipWith (filterByte f) l above :: filterLines f l t

def unfilter (f n stride : Nat) (bs : List Byte) : List Byte :=
  (unfilterLines f (List.replicate stride 0) (pieces n stride bs)).flatten

def filterAshlar (f n stride : Nat) (bs : List Byte) : List Byte :=
  (filterLines f (List.replicate stride 0) (pieces n stride bs)).flatten

/-! ### The DEFLATE subset (R106, R107) -/

/-- A bit stream, first bit first. -/
abbrev Bits := List Bool

def byteBits (b : Byte) : Bits := (List.range 8).map (fun i => testBit b.toNat i)

def toBits : List Byte → Bits
  | [] => []
  | b :: t => byteBits b ++ toBits t

/-- `n` bits as a number, the first bit the least significant. -/
def takeBits : Nat → Bits → Option (Nat × Bits)
  | 0, b => some (0, b)
  | _ + 1, [] => none
  | n + 1, x :: t => (takeBits n t).map (fun r => (b2n x + 2 * r.1, r.2))

/-- A canonical prefix code: how many codes each length 1 to 15 has, and the symbols in code order. -/
structure Huffman where
  counts : List Nat
  syms : List Nat
  deriving DecidableEq, Repr

def symsOfLen (lens : List Nat) (l : Nat) : List Nat :=
  (List.range lens.length).filter (fun i => lens.getD i 0 == l)

def mkHuffman (lens : List Nat) : Huffman :=
  let ls := (List.range 15).map (· + 1)
  ⟨ls.map (fun l => lens.countP (· == l)), ls.flatMap (symsOfLen lens)⟩

/-- The Kraft sum of a code in units of 2^−15. -/
def kraft (lens : List Nat) : Nat := (lens.map (fun l => if l = 0 then 0 else 2 ^ (15 - l))).sum

def isComplete (lens : List Nat) : Bool := kraft lens == 32768

/-- Read one symbol, a bit at a time, the first bit the most significant. -/
def decodeWith (syms : List Nat) : List Nat → (code first index : Nat) → Bits → Option (Nat × Bits)
  | [], _, _, _, _ => none
  | _ :: _, _, _, _, [] => none
  | c :: cs, code, first, index, x :: t =>
    let code := code + b2n x
    if code < first + c then (syms[index + (code - first)]?).map (fun v => (v, t))
    else decodeWith syms cs (2 * code) (2 * (first + c)) (index + c) t

def decodeSym (h : Huffman) (b : Bits) : Option (Nat × Bits) := decodeWith h.syms h.counts 0 0 0 b

/-- `start`, and the values reached from it by adding 2^e for each e of a list. -/
def runningBase (start : Nat) : List Nat → List Nat
  | [] => []
  | e :: t => start :: runningBase (start + 2 ^ e) t

/-- Extra bits and least values of the length codes 257 to 284, and 285, which codes 258 alone. -/
def lengthExtra : List Nat := List.replicate 4 0 ++ (List.range 6).flatMap (fun e => List.replicate 4 e) ++ [0]
def lengthBase : List Nat := runningBase 3 (lengthExtra.take 28) ++ [258]

/-- Extra bits and least values of the distance codes 0 to 29. -/
def distExtra : List Nat := [0, 0] ++ (List.range 14).flatMap (fun e => [e, e])
def distBase : List Nat := runningBase 1 distExtra

def fixedLit : List Nat :=
  List.replicate 144 8 ++ List.replicate 112 9 ++ List.replicate 24 7 ++ List.replicate 8 8
def fixedDist : List Nat := List.replicate 32 5

/-- A match copied byte by byte; `out` is newest first, so a match may reach into itself. -/
def copyMatch : Nat → Nat → List Byte → Option (List Byte)
  | 0, _, out => some out
  | n + 1, dist, out =>
    match out[dist - 1]? with
    | some b => copyMatch n dist (b :: out)
    | none => none

/-- The symbols of one block. `out` is newest first and never longer than `limit`. -/
def inflateSyms (lit dist : Huffman) (limit : Nat) : Nat → Bits → List Byte → Option (Bits × List Byte)
  | 0, _, _ => none
  | fuel + 1, b, out =>
    match decodeSym lit b with
    | none => none
    | some (sym, b1) =>
      if sym < 256 then
        if out.length < limit then inflateSyms lit dist limit fuel b1 (BitVec.ofNat 8 sym :: out) else none
      else if sym = 256 then some (b1, out)
      else if 285 < sym then none
      else
        match takeBits (lengthExtra.getD (sym - 257) 0) b1 with
        | none => none
        | some (e, b2) =>
          if sym = 284 ∧ e = 31 then none else
          match decodeSym dist b2 with
          | none => none
          | some (ds, b3) =>
            if 29 < ds then none else
            match takeBits (distExtra.getD ds 0) b3 with
            | none => none
            | some (de, b4) =>
              let len := lengthBase.getD (sym - 257) 0 + e
              let dst := distBase.getD ds 1 + de
              if dst ≤ out.length ∧ out.length + len ≤ limit then
                match copyMatch len dst out with
                | some out' => inflateSyms lit dist limit fuel b4 out'
                | none => none
              else none

/-- The code lengths of a dynamic header; `acc` is newest first. -/
def readLens (cl : Huffman) (total : Nat) : Nat → Bits → List Nat → Option (List Nat × Bits)
  | 0, _, _ => none
  | fuel + 1, b, acc =>
    if acc.length = total then some (acc.reverse, b) else
    match decodeSym cl b with
    | none => none
    | some (sym, b1) =>
      if sym < 16 then readLens cl total fuel b1 (sym :: acc)
      else
        let sp := if sym = 16 then (2, 3, acc.head?) else if sym = 17 then (3, 3, some 0) else (7, 11, some 0)
        match sp.2.2, takeBits sp.1 b1 with
        | some v, some (e, b2) =>
          if acc.length + (sp.2.1 + e) ≤ total then readLens cl total fuel b2 (List.replicate (sp.2.1 + e) v ++ acc) else none
        | _, _ => none

def clOrder : List Nat := [16, 17, 18, 0, 8, 7, 9, 6, 10, 5, 11, 4, 12, 3, 13, 2, 14, 1, 15]

/-- `n` three-bit lengths. -/
def readThree : Nat → Bits → Option (List Nat × Bits)
  | 0, b => some ([], b)
  | n + 1, b =>
    match takeBits 3 b with
    | none => none
    | some (v, b1) => (readThree n b1).map (fun r => (v :: r.1, r.2))

/-- The two codes of a dynamic block. -/
def dynamicCodes (b : Bits) : Option (Huffman × Huffman × Bits) :=
  match takeBits 5 b with
  | none => none
  | some (hlit, b1) =>
    match takeBits 5 b1 with
    | none => none
    | some (hdist, b2) =>
      match takeBits 4 b2 with
      | none => none
      | some (hclen, b3) =>
        if 29 < hlit ∨ 29 < hdist then none else
        match readThree (hclen + 4) b3 with
        | none => none
        | some (cls, b4) =>
          let clLens := (List.range 19).map (fun i =>
            match clOrder.idxOf? i with
            | some j => cls.getD j 0
            | none => 0)
          if !isComplete clLens then none else
          match readLens (mkHuffman clLens) (hlit + 257 + (hdist + 1)) (hlit + hdist + 300) b4 [] with
          | none => none
          | some (lens, b5) =>
            let ll := lens.take (hlit + 257)
            let dl := lens.drop (hlit + 257)
            let dOk := isComplete dl || dl.all (· == 0) || (dl.countP (· == 1) == 1 && dl.countP (· != 0) == 1)
            if isComplete ll && ll.getD 256 0 != 0 && dOk then some (mkHuffman ll, mkHuffman dl, b5) else none

/-- One block: whether it is final, whether it is an empty stored block, the rest and the output. -/
def inflateBlock (limit : Nat) (b : Bits) (out : List Byte) : Option (Bool × Bool × Bits × List Byte) :=
  match takeBits 3 b with
  | none => none
  | some (h, b1) =>
    let final := h % 2 == 1
    match h / 2 with
    | 0 =>
      match takeBits 16 (b1.drop (b1.length % 8)) with
      | none => none
      | some (len, b2) =>
        match takeBits 16 b2 with
        | none => none
        | some (nlen, b3) =>
          if len + nlen ≠ 65535 ∨ limit < out.length + len ∨ b3.length < 8 * len then none
          else
            let rec bytes : Nat → Bits → List Byte → Bits × List Byte
              | 0, r, o => (r, o)
              | n + 1, r, o =>
                match takeBits 8 r with
                | some (v, r') => bytes n r' (BitVec.ofNat 8 v :: o)
                | none => (r, o)
            let r := bytes len b3 out
            some (final, len == 0, r.1, r.2)
    | 1 => (inflateSyms (mkHuffman fixedLit) (mkHuffman fixedDist) limit (b1.length + 1) b1 out).map
        (fun r => (final, false, r.1, r.2))
    | 2 =>
      match dynamicCodes b1 with
      | none => none
      | some (lit, dist, b2) => (inflateSyms lit dist limit (b2.length + 1) b2 out).map (fun r => (final, false, r.1, r.2))
    | _ => none

/-- Blocks up to and with the final one; at most 7 bits of padding may follow it (R107). -/
def inflateBlocks (limit : Nat) : Nat → Bits → List Byte → Option (List Byte)
  | 0, _, _ => none
  | fuel + 1, b, out =>
    match inflateBlock limit b out with
    | none => none
    | some (true, _, r, o) => if r.length < 8 then some o else none
    | some (false, _, r, o) => inflateBlocks limit fuel r o

/-- R106, R107: the output of a coded payload that produces exactly `u` bytes. -/
def inflate (u : Nat) (payload : List Byte) : Option (List Byte) :=
  match inflateBlocks u (8 * payload.length + 1) (toBits payload) [] with
  | some o => if o.length = u then some o.reverse else none
  | none => none

/-- R117: the blocks of one record. `true`: the final block is in it and its data ends under R107; `false`: it ends with a
sync flush. -/
def recordBlocks (limit : Nat) : Nat → Bits → List Byte → Option (Bool × List Byte)
  | 0, _, _ => none
  | fuel + 1, b, out =>
    match inflateBlock limit b out with
    | none => none
    | some (true, _, r, o) => if r.length < 8 then some (true, o) else none
    | some (false, empty, r, o) =>
      if r.isEmpty then (if empty then some (false, o) else none) else recordBlocks limit fuel r o

/-- One record's output after a history (oldest first), at most `room` bytes. -/
def inflateRecord (history : List Byte) (room : Nat) (data : List Byte) : Option (Bool × List Byte) :=
  (recordBlocks (history.length + room) (8 * data.length + 1) (toBits data) history.reverse).map
    (fun r => (r.1, r.2.reverse.drop history.length))

/-- The last 32,768 bytes of a history. -/
def trimHistory (h : List Byte) : List Byte := h.drop (h.length - 32768)

/-! ### The ashlar (R98 to R112) -/

/-- The header's fields (R99). -/
structure AshlarHeader where
  sig : Nat
  version : Nat
  mode : Nat
  filter : Nat
  lines : Nat
  fill : Byte
  payload : Nat
  crc : Nat
  deriving DecidableEq, Repr

def parseHeader (bs : List Byte) : AshlarHeader :=
  ⟨fieldLe bs 0 1, fieldLe bs 1 1, fieldLe bs 2 1, fieldLe bs 3 1, fieldLe bs 4 2, bs.getD 6 0, fieldLe bs 8 4, fieldLe bs 12 4⟩

/-- The checks of R112 on the header. `left`: stored lines that remain in the course; `stored`: the index's stored length. The
reason code of R77; 0: it passes. -/
def headerReason (h : AshlarHeader) (stride left stored : Nat) : Nat :=
  if h.sig ≠ 0xD1 then 1
  else if h.version ≠ 1 then 2
  else if 2 < h.mode ∨ 2 < h.filter ∨ (h.mode = 2 ∧ h.filter ≠ 0) then 3
  else if h.lines = 0 ∨ 64 < h.lines ∨ left < h.lines ∨ 262144 < h.lines * stride then 4
  else if stored ≠ 16 + h.payload then 5
  else 0

/-- The checks of R112 on the payload of a sound header, to the CRC. -/
def checkPayload (h : AshlarHeader) (stride : Nat) (payload : List Byte) : Except Nat (List Byte) :=
  let u := h.lines * stride
  let filtered : Option (List Byte) :=
    match h.mode with
    | 0 => if h.payload = u then some payload else none
    | 1 => if h.payload ≤ u then inflate u payload else none
    | _ => if h.payload = 0 then some (List.replicate u h.fill) else none
  match filtered with
  | none => .error 6
  | some f =>
    let r := unfilter h.filter h.lines stride f
    if crc32c r = h.crc then .ok r else .error 7

end Sys2Proof.Machine
end

