-- ==== Sys2Proof/Machine/Blocks.lean ====
section
/-! DEFINITION. The 66-bit blocks of the serial lanes: coding, scrambler, fillers, markers, packets as blocks, PRBS31, and what
each lane and bond sends in a block time (R156, R158, R160 to R163, R165, R168, R174, R182 to R185, R189, R191, R272). -/

namespace Sys2Proof.Machine

def laneOf (d n : Nat) (s : State) : Lane := mapGet (fun _ => {}) s.lanes (16 * d + n)
def setLane (d n : Nat) (v : Lane) (s : State) : State := { s with lanes := mapSet (fun _ => {}) s.lanes (16 * d + n) v }
def bondOf (i : Nat) (s : State) : Bond := mapGet (fun _ => {}) s.bonds i
def setBond (i : Nat) (v : Bond) (s : State) : State := { s with bonds := mapSet (fun _ => {}) s.bonds i v }

def lanePage (n : Nat) : Nat := 0x20 + n
def laneSt (d n : Nat) (s : State) : Nat := rd (R.LANE.LSTAT_STATE d n) s

/-- The raster lanes of a die in bond order (R182). -/
def rasterLanes (d : Nat) : List Nat := if d = 0 then [0, 1, 2, 3] else [0, 1, 2, 3, 10, 11]

/-- The station of a head lane. -/
def laneStation (d n : Nat) : Nat := 2 * d + (n - 4) / 3

def isHeadLane (n : Nat) : Bool := decide (4 ≤ n) && decide (n ≤ 9)
def isRasterLane (d n : Nat) : Bool := (rasterLanes d).contains n

/-- The bond's key, from a lane. -/
def laneBond (d n : Nat) : Nat := if isHeadLane n then 16 + laneStation d n else d

/-- The bond of a key: its die, its state register and its generation. -/
def bondDie (i : Nat) : Nat := if i < 16 then i else stDie (i - 16)

def bondStLoc (i : Nat) : Loc :=
  if i < 16 then R.RLNK.BOND_STAT_STATE i else R.SHL.HSTAT_BOND (stDie (i - 16)) (stLoc (i - 16))

def bondGen (i : Nat) (s : State) : Nat :=
  if i < 16 then rd (R.RLNK.BOND_STAT_GEN i) s else rd (R.SHL.HSTAT_GEN (stDie (i - 16)) (stLoc (i - 16))) s

/-! ### Coding (R160 to R162) -/

/-- The sync header as sent: 0 then 1 for a data block, 1 then 0 for a control block (R160). -/
def Block.header (b : Block) : List Bool := [b.control, !b.control]

/-- The payload bits, from bit 0 upwards (R160). -/
def Block.payload (b : Block) : List Bool := toBits b.bytes

/-- A history of `w` bits, the newest in bit 0, takes one more. -/
def shiftIn (w h : Nat) (b : Bool) : Nat := (2 * h + b2n b) % 2 ^ w

/-- d(n) XOR s(n − 39) XOR s(n − 58), `h` holding the last 58 transmitted payload bits (R161). -/
def scrambleBit (h : Nat) (d : Bool) : Bool := (d != h.testBit 38) != h.testBit 57

/-- The scrambler (R161): the bits sent, and the history after them. -/
def scramble : Nat → List Bool → List Bool × Nat
  | h, [] => ([], h)
  | h, d :: t =>
    let b := scrambleBit h d
    let r := scramble (shiftIn 58 h b) t
    (b :: r.1, r.2)

/-- The descrambler (R161). -/
def descramble : Nat → List Bool → List Bool × Nat
  | h, [] => ([], h)
  | h, b :: t =>
    let r := descramble (shiftIn 58 h b) t
    (scrambleBit h b :: r.1, r.2)

/-- Eight bytes from 64 bits. -/
def bitsBytes (l : List Bool) : List Byte :=
  (List.range 8).map (fun i => BitVec.ofNat 8 ((takeBits 8 (l.drop (8 * i))).getD (0, [])).1)

/-- The block that 66 received bits carry; none where the sync header is invalid (R160, R161). -/
def readBlock (h : Nat) (l : List Bool) : Option Block × Nat :=
  let r := descramble h (l.drop 2)
  match l.take 2 with
  | [false, true] => (some ⟨false, bitsBytes r.1⟩, r.2)
  | [true, false] => (some ⟨true, bitsBytes r.1⟩, r.2)
  | _ => (none, r.2)

/-- The filler block (R162). -/
def fillerBlock : Block := ⟨true, [0x1E, 0, 0, 0, 0, 0, 0, 0]⟩

/-- The alignment marker of position `p` in a bond of width `w` and generation `g` (R185). -/
def markerBlock (p w g : Nat) : Block := ⟨true, leBytes 1 0x4B ++ leBytes 1 p ++ leBytes 1 w ++ leBytes 1 g ++ [0x5A, 0xA5, 0x5A, 0xA5]⟩

/-- Blocks of 8 bytes. -/
def dataBlocks : Nat → List Byte → List Block
  | 0, _ => []
  | n + 1, b => ⟨false, b.take 8⟩ :: dataBlocks n (b.drop 8)

/-- A packet of header and payload `b` as blocks (R185, R189, R191): the packet start with B, then B data blocks with the CRC and
the padding after `b`. -/
def packetBlocks (b : List Byte) : List Block :=
  let n := ceilDiv (b.length + 4) 8
  ⟨true, leBytes 1 0x78 ++ leBytes 2 n ++ [0, 0, 0, 0, 0]⟩ ::
    dataBlocks n (b ++ leBytes 4 (crc32 b) ++ List.replicate (8 * n - (b.length + 4)) 0)

/-- A packet joins the stream of a bond (R183). -/
def streamPacket (i : Nat) (b : List Byte) (s : State) : State :=
  let x := bondOf i s
  if x.lanes.isEmpty then s else setBond i { x with stream := x.stream ++ packetBlocks b } s

/-! ### PRBS31 (R174) -/

/-- x^31 + x^28 + 1, `h` holding the last 31 bits. -/
def prbsBit (h : Nat) : Bool := h.testBit 27 != h.testBit 30

def prbsBits : Nat → Nat → List Bool × Nat
  | 0, h => ([], h)
  | n + 1, h =>
    let r := prbsBits n (shiftIn 31 h (prbsBit h))
    (prbsBit h :: r.1, r.2)

/-- The bits that are not what the 31 bits before them call for, and the history after them. -/
def prbsErrors : Nat → List Bool → Nat × Nat
  | h, [] => (0, h)
  | h, b :: t =>
    let r := prbsErrors (shiftIn 31 h b) t
    (r.1 + b2n (b != prbsBit h), r.2)

/-! ### What a lane sends (R163, R168, R170, R174) -/

/-- An invalid sync header is counted (R181). -/
def invalidHeader (d n : Nat) (s : State) : State :=
  recordFault d (lanePage n) 3 false (bump (R.LANE.SYNC_ERR_COUNT d n) s)

/-- Near-end loopback: the receiver takes the bits that the lane sends. -/
def loopBack (d n : Nat) (bits : List Bool) (s : State) : State :=
  let x := laneOf d n s
  let rx := if flag (R.LANE.LCFG_RX_INV d n) s then bits.map (!·) else bits
  let r := readBlock x.rscr rx
  let e := prbsErrors x.hist rx
  let s1 := setLane d n { x with rscr := r.2, got := r.1, hist := e.2 } s
  if x.check then bumpBy (R.LANE.PRBS_ERR_COUNT d n) e.1 s1
  else if r.1.isNone && decide (4 ≤ laneSt d n s) then invalidHeader d n s1 else s1

/-- 66 bits go out on the lane's pair, inverted with TX_INV (R168). -/
def laneWire (d n : Nat) (bits : List Bool) (s : State) : State :=
  let out := if flag (R.LANE.LCFG_TX_INV d n) s then bits.map (!·) else bits
  onlyIf (laneOf d n s).near (loopBack d n out) (setLane d n { laneOf d n s with wire := out } s)

/-- The lane logic reads the elastic buffer, a block in a block time (R165). -/
def fillRead (d n : Nat) (s : State) : State :=
  wr (R.LANE.LSTAT_FILL d n) (rd (R.LANE.LSTAT_FILL d n) s - 1) s

/-- A frame of the engine-link port on lane `n` is under way; its blocks are those of Clause 49 (log 156). -/
def frameOut (d n : Nat) (s : State) : Bool :=
  d == 0 && decide (10 ≤ n) && (mapGet (fun _ => ({} : EthPort)) s.eths (n - 10)).run.isSome

/-- A block whose content the spec leaves to a standard or to the far end: open, but for a valid sync header. -/
def openBits (s : State) : List Bool × State :=
  let lo := drawFree s
  let hi := drawFree lo.2
  let c := drawFree hi.2
  (Block.header ⟨testBit c.1 0, []⟩ ++ (List.range 64).map (fun i => testBit (lo.1 + 4294967296 * hi.1) i), c.2)

/-- One block time of a lane whose protocol has block `b` for it: a lane below state 5 sends fillers, one that is off or fenced
nothing (R163, R170); PRBS31 and far-end loopback replace the blocks (R174; log 155). -/
def laneSlot (d n : Nat) (b : Block) (s : State) : State :=
  let x := laneOf d n s
  let st := laneSt d n s
  if st < 2 ∨ st = 6 then setLane d n { x with wire := [] } s
  else if x.prbs then
    let r := prbsBits 66 x.prbsReg
    laneWire d n r.1 (setLane d n { x with prbsReg := r.2 } s)
  else if x.far || frameOut d n s then
    let r := openBits s
    laneWire d n r.1 r.2
  else
    let b := if st = 5 then b else fillerBlock
    let r := scramble x.scr b.payload
    fillRead d n (laneWire d n (b.header ++ r.1) (setLane d n { x with scr := r.2 } s))

/-! ### Block times (R158, R163, R183, R184) -/

/-- The baud rate in 1/32 bits per nanosecond (R158). A block is 66 bits. -/
def laneSpeed (rate : Nat) : Nat := [330, 400, 512, 825, 900].getD rate 825

/-- What the lanes of bond `i` send in its next slot: every 16,384th is a marker on every lane (R184), one in 2,048 a filler on
every lane (R163), and another carries W blocks of the stream where W wait and the bond is up (R183; log 154). -/
def bondSlot (i : Nat) (s : State) : State :=
  let b := bondOf i s
  let w := b.lanes.length
  let n := b.slot + 1
  let due := n % 2048 != 1 && rd (bondStLoc i) s == 2 && decide (w ≤ b.stream.length)
  let s1 := setBond i { b with slot := n, stream := if n % 16384 ≠ 0 ∧ due = true then b.stream.drop w else b.stream } s
  b.lanes.zipIdx.foldl (fun s e =>
    laneSlot (bondDie i) e.1 (if n % 16384 = 0 then markerBlock e.2 w (bondGen i s)
      else if due then b.stream.getD e.2 fillerBlock else fillerBlock) s) s1

/-- One nanosecond of a bond. -/
def bondTick (i : Nat) (s : State) : State :=
  let b := bondOf i s
  match b.lanes with
  | [] => s
  | n :: _ =>
    let p := b.phase + laneSpeed (laneOf (bondDie i) n s).rate
    if p < 2112 then setBond i { b with phase := p } s else bondSlot i (setBond i { b with phase := p - 2112 } s)

/-- One nanosecond of a lane outside a bond: it sends fillers (R163, R173). -/
def laneTick (d n : Nat) (s : State) : State :=
  if (bondOf (laneBond d n) s).lanes.contains n then s
  else
    let x := laneOf d n s
    let p := x.phase + laneSpeed x.rate
    if p < 2112 then setLane d n { x with phase := p } s else laneSlot d n fillerBlock (setLane d n { x with phase := p - 2112 } s)

/-- What one nanosecond brings to the lanes. -/
def linkTick (s : State) : State :=
  let s1 := s.bonds.foldl (fun s e => bondTick e.1 s) s
  s1.lanes.foldl (fun s e => laneTick (e.1 / 16) (e.1 % 16) s) s1

end Sys2Proof.Machine
end

