-- ==== Sys2Proof/Machine/HeadTx.lean ====
section
/-! DEFINITION. The sending side of a station's head link: packets, credits, the replay buffer, LINTAB (R260, R274 to R285),
and entry of a station's timing into RUN (R247). -/

namespace Sys2Proof.Machine

def staOf (k : Nat) (s : State) : Station := mapGet (fun _ => {}) s.stations k
def setSta (k : Nat) (v : Station) (s : State) : State := { s with stations := mapSet (fun _ => {}) s.stations k v }

def headOf (k : Nat) (s : State) : HeadLink := mapGet (fun _ => {}) s.headLinks k
def setHead (k : Nat) (v : HeadLink) (s : State) : State := { s with headLinks := mapSet (fun _ => {}) s.headLinks k v }

/-- The timing state of a station (R246). -/
def timSt (k : Nat) (s : State) : Nat := rd (R.STIM.TSTAT_STATE (stDie k) (stLoc k)) s

/-- The station is an LED bar. -/
def ledBar (k : Nat) (s : State) : Bool := flag (R.STA.CFG_HEAD (stDie k) (stLoc k)) s

/-- The station exists, its STA page is enabled and it is not fenced. -/
def stationOn (k : Nat) (s : State) : Bool := blockOn (stDie k) (staPage (stLoc k)) s && !isFenced (.station k) s

def sessionOpen (k : Nat) (s : State) : Bool := flag (R.SHL.HSTAT_SESSION (stDie k) (stLoc k)) s

/-- The credits that remain of a pool (R279). -/
def creditLeft (given used : Nat) : Nat := (given + 65536 - used % 65536) % 65536

/-- CRED_STAT. -/
def showCredits (k : Nat) (s : State) : State :=
  let h := headOf k s
  wr (R.SHL.CRED_STAT_CTL (stDie k) (stLoc k)) (Nat.min 255 (creditLeft h.ctlGiven h.ctlUsed))
    (wr (R.SHL.CRED_STAT_LINE (stDie k) (stLoc k)) (creditLeft h.lineGiven h.lineUsed) s)

/-- The pool a packet draws on: 0 none, 1 lines, 2 control (R279). -/
def HeadPkt.pool (p : HeadPkt) : Nat := if p.type = 0x20 then 1 else if p.type = 0x22 ∨ p.type = 0x23 ∨ p.type = 0x24 then 2 else 0

/-- The bytes of a packet with its PSN (R274). -/
def HeadPkt.bytes (p : HeadPkt) (psn : Nat) : List Byte :=
  leBytes 1 p.type ++ leBytes 1 p.flags ++ leBytes 2 psn ++ leBytes 4 p.lsn ++ leBytes 1 p.emitter ++ leBytes 1 p.gen ++ [0, 0] ++
    leBytes 4 (p.offset % 1048576 + 1048576 * p.payload.length) ++ p.payload

/-- A packet goes out on the bond's stream (R272). -/
def headOut (k psn : Nat) (p : HeadPkt) (s : State) : State :=
  streamPacket (16 + k) (p.bytes psn) { s with sent := .head k psn p :: s.sent }

/-- One packet goes out with the next PSN and is kept until acknowledged (R277). -/
def headSendNow (k : Nat) (p : HeadPkt) (s : State) : State :=
  let psn := rd (R.SHL.PSN_STAT_NEXT (stDie k) (stLoc k)) s
  let h := headOf k s
  let h1 := { h with replay := h.replay ++ [(psn, p)]
                     advAt := if h.replay.isEmpty then s.now else h.advAt
                     lineUsed := if p.pool = 1 then (h.lineUsed + 1) % 65536 else h.lineUsed
                     ctlUsed := if p.pool = 2 then (h.ctlUsed + 1) % 65536 else h.ctlUsed }
  showCredits k (wr (R.SHL.PSN_STAT_NEXT (stDie k) (stLoc k)) (psn + 1)
    (setHead k h1 (headOut k psn p s)))

/-- The packet is one that a session's lines follow (R278). -/
def HeadPkt.setup (p : HeadPkt) : Bool := p.type == 0x23 || p.type == 0x24

/-- The packets that wait are sent in order, each pool as far as its credits reach (R279); `lb`, `cb`: a line or a control
packet is already held back. While a session opens, no line passes a trim or LINTAB that is held back (R278). -/
def headPumpFrom (k : Nat) : List HeadPkt → (lb cb : Bool) → State → State
  | [], _, _, s => setHead k { headOf k s with opening := (headOf k s).opening && (headOf k s).waiting.any HeadPkt.setup } s
  | p :: t, lb, cb, s =>
    let h := headOf k s
    let open_ := sessionOpen k s && rd (R.SHL.HSTAT_BOND (stDie k) (stLoc k)) s == 2 && decide (h.replay.length < 4096)
    let can := open_ && (match p.pool with
      | 1 => !lb && !(h.opening && h.waiting.any HeadPkt.setup) && creditLeft h.lineGiven h.lineUsed != 0
      | 2 => !cb && creditLeft h.ctlGiven h.ctlUsed != 0
      | _ => true)
    if can then headPumpFrom k t lb cb (headSendNow k p s)
    else headPumpFrom k t (lb || p.pool == 1) (cb || p.pool == 2) (setHead k { h with waiting := h.waiting ++ [p] } s)

def headPump (k : Nat) (s : State) : State :=
  let h := headOf k s
  headPumpFrom k h.waiting false false (setHead k { h with waiting := [] } s)

/-- Packets are handed to the link. -/
def headSend (k : Nat) (ps : List HeadPkt) (s : State) : State :=
  headPump k (setHead k { headOf k s with waiting := (headOf k s).waiting ++ ps } s)

/-- The trims of a bank of the linearity table, as halfwords (R259). -/
def linTrims (k : Nat) (s : State) : List Byte :=
  let base := stDie k * 0x1000000 + 0x100000 * (stLoc k + 1) + 0x86000 + 0x400 * rd (R.STIM.LIN_LIN_BANK (stDie k) (stLoc k)) s
  (List.range 64).flatMap (fun i => leBytes 2 (word (base + 4 * i) s).toNat)

/-- A LINTAB with a new generation (R260, R284); none for an LED bar or without a session. -/
def sendLintab (k : Nat) (s : State) : State :=
  if ledBar k s || !sessionOpen k s then s
  else
    let g := (rd (R.SHL.GEN_STAT_LIN_SENT (stDie k) (stLoc k)) s + 1) % 256
    let body := leBytes 4 (rd (R.STIM.PX_PERIOD_PERIOD (stDie k) (stLoc k)) s) ++
      leBytes 4 (rd (R.STIM.LIN_LIN_EN (stDie k) (stLoc k)) s) ++ linTrims k s
    headSend k [{ type := 0x24, gen := g, payload := body }] (wr (R.SHL.GEN_STAT_LIN_SENT (stDie k) (stLoc k)) g s)

/-- PX_PERIOD, LIN_EN or the active bank are no longer what they were in `old`: a LINTAB goes out (R260). -/
def linChanged (k : Nat) (old s : State) : State :=
  if rd (R.STIM.PX_PERIOD_PERIOD (stDie k) (stLoc k)) s = rd (R.STIM.PX_PERIOD_PERIOD (stDie k) (stLoc k)) old ∧
      rd (R.STIM.LIN_LIN_EN (stDie k) (stLoc k)) s = rd (R.STIM.LIN_LIN_EN (stDie k) (stLoc k)) old ∧
      rd (R.STIM.LIN_LIN_BANK (stDie k) (stLoc k)) s = rd (R.STIM.LIN_LIN_BANK (stDie k) (stLoc k)) old then s
  else sendLintab k s

/-- The timing enters RUN (R247, R260). -/
def enterRun (k : Nat) (s : State) : State :=
  sendLintab k (evt (stDie k) (stimPage (stLoc k)) 0
    (wr (R.STIM.TSTAT_STATE (stDie k) (stLoc k)) 2 (setSta k { staOf k s with runEdge := true } s)))

/-- A session ends. What was sent or waits is given up, but for a HEADCFG not yet acknowledged (R278, R290; log 60). -/
def closeSession (k : Nat) (s : State) : State :=
  let h := headOf k s
  let cfg := (h.replay.map (fun x => x.2) ++ h.waiting).filter (fun p => p.type == 0x22)
  showCredits k (wr (R.SHL.HSTAT_SESSION (stDie k) (stLoc k)) 0
    (setHead k { waiting := cfg, trim := h.trim, last := h.last } s))

end Sys2Proof.Machine
end

