-- ==== Sys2Proof/Machine/Bonds.lean ====
section
/-! DEFINITION. Lanes and bonds: roles, forming, markers, and the upstream side of the raster link (R156, R157, R173, R182 to
R187, R195 to R203, R271, R272). -/

namespace Sys2Proof.Machine

def rasterOf (d : Nat) (s : State) : Raster := mapGet (fun _ => {}) s.rasters d
def setRaster (d : Nat) (v : Raster) (s : State) : State := { s with rasters := mapSet (fun _ => {}) s.rasters d v }

def laneRoleOf (d n : Nat) (s : State) : Nat := rd (R.LANE.LCFG_ROLE d n) s
def laneFenced (d n : Nat) (s : State) : Bool := isFenced (.lane d n) s

/-- The lanes of a station's head link. -/
def headLanes (k : Nat) : List Nat := let b := 4 + 3 * stLoc k; [b, b + 1, b + 2]

/-! ### Upstream packets of the raster link (R192, R195, R196, R201) -/

def rasterOpen (d : Nat) (s : State) : Bool := flag (R.RLNK.PSN_STAT_SESSION d) s

/-- The sizes of the pools by counter index (R199); `r` is the routed die. -/
def poolSize (d i : Nat) (s : State) : Nat :=
  if i = 16 then rd (R.RLNK.CRED_ALLOC2_CTL d) s
  else if i / 2 = d then (if i % 2 = 0 then rd (R.RLNK.CRED_ALLOC0_L0 d) s else rd (R.RLNK.CRED_ALLOC0_L1 d) s)
  else if flag (R.RLNK.ROUTE_EN d) s ∧ i / 2 = rd (R.RLNK.ROUTE_DIE d) s then
    (if i % 2 = 0 then rd (R.RLNK.CRED_ALLOC1_X0 d) s else rd (R.RLNK.CRED_ALLOC1_X1 d) s)
  else 0

/-- An upstream packet's header and payload (R190, R192): `body` is INIT and PSN of an ACK, the PSN of a NAK, INIT and the
counters of a CREDIT. -/
def rasterBytes (type : Nat) (body : List Nat) : List Byte :=
  let init := if type = 0x11 then 0 else body.headD 0
  let psn := if type = 0x10 then body.getD 1 0 else if type = 0x11 then body.headD 0 else 0
  let payload := if type = 0x12 then (body.drop 1).flatMap (leBytes 2) ++ [0, 0] else []
  leBytes 1 type ++ leBytes 1 (32 * init) ++ leBytes 2 psn ++ leBytes 8 0 ++ leBytes 4 (1048576 * payload.length) ++ payload

/-- A packet goes out upstream on the bond's stream. -/
def rasterSend (d type : Nat) (body : List Nat) (s : State) : State :=
  streamPacket d (rasterBytes type body) { s with sent := .raster d type body :: s.sent }

def sendAck (d : Nat) (init : Nat) (psn : Nat) (s : State) : State := rasterSend d 0x10 [init, psn % 65536] s

/-- A CREDIT packet with every pool's counter modulo 2^16. -/
def sendCredit (d init : Nat) (s : State) : State :=
  let r := rasterOf d s
  rasterSend d 0x12 (init :: r.granted.map (fun g => g % 65536)) (setRaster d { r with creditAt := s.now } s)

/-- Pools are raised to what has landed and their size; a CREDIT goes out where a counter has changed (R201). -/
def regrant (d : Nat) (s : State) : State :=
  let r := rasterOf d s
  let g := (List.range 17).map (fun i => Nat.max (r.granted.getD i 0) (r.landed.getD i 0 + poolSize d i s))
  if g = r.granted then s else sendCredit d 0 (setRaster d { r with granted := g } s)

/-- A NAK for the expected PSN (R195). -/
def sendNak (d : Nat) (s : State) : State :=
  let r := rasterOf d s
  let s1 := rasterSend d 0x11 [rd (R.RLNK.PSN_STAT_EXPECT d) s] (setRaster d { r with nakAt := some s.now, naks := r.naks + 1 } s)
  bump (R.RLNK.NAK_CNT_COUNT d) s1

/-- No session: the receiver waits for a RESYNC (R198). -/
def closeRaster (d : Nat) (s : State) : State :=
  let r := rasterOf d s
  wr (R.RLNK.PSN_STAT_SESSION d) 0 (setRaster d { queue := r.queue.map (fun q => { q with credits := 0 }) } s)

/-! ### Forming (R186, R271, R272) -/

/-- The lanes of a station that its bond takes (R271): the two whose role reads active, or the only one that is not fenced. -/
def headBondLanes (k : Nat) (s : State) : List Nat :=
  match (headLanes k).filter (fun n => !laneFenced (stDie k) n s) with
  | [] => []
  | [n] => [n]
  | _ => (headLanes k).filter (fun n => laneRoleOf (stDie k) n s == 1)

/-- HSTAT's account of a bond. -/
def showHeadBond (k st : Nat) (lanes : List Nat) (s : State) : State :=
  let mask := lanes.foldl (fun a n => a + 2 ^ (n - 4 - 3 * stLoc k)) 0
  wr (R.SHL.HSTAT_BOND (stDie k) (stLoc k)) st (wr (R.SHL.HSTAT_WIDTH (stDie k) (stLoc k)) (b2n (decide (2 ≤ lanes.length)))
    (wr (R.SHL.HSTAT_LANES (stDie k) (stLoc k)) mask s))

/-- The head bond of a station is formed with a new generation, if its lanes differ. -/
def headForm (k : Nat) (s : State) : State :=
  let lanes := if stationOn k s && blockUp (stDie k) (shlPage (stLoc k)) s then headBondLanes k s else []
  let b := bondOf (16 + k) s
  let st := if isFenced (.station k) s then 3 else if lanes.isEmpty then 0 else 1
  if lanes = b.lanes then (if lanes.isEmpty then wr (R.SHL.HSTAT_BOND (stDie k) (stLoc k)) st s else s)
  else
    let g := rd (R.SHL.HSTAT_GEN (stDie k) (stLoc k)) s + 1
    let s1 := showHeadBond k st lanes (setBond (16 + k) { lanes := lanes, formedAt := s.now } s)
    let s2 := if lanes.isEmpty then s1 else wr (R.SHL.HSTAT_GEN (stDie k) (stLoc k)) g s1
    if (decide (2 ≤ lanes.length)) != (decide (2 ≤ b.lanes.length)) then evt (stDie k) (shlPage (stLoc k)) 1 s2 else s2

/-- Widths by code (R211). -/
def widthOf (c : Nat) : Nat := match c with | 0 => 1 | 1 => 2 | 2 => 4 | _ => 6

def rasterUsable (d : Nat) (s : State) : Bool := blockOn d 0x30 s && !isFenced (.bond d) s

/-- The code of the width a die's raster bond takes, and its lanes (R186). -/
def rasterWidth (d : Nat) (s : State) : Nat × List Nat :=
  let free := (rasterLanes d).filter (fun n => !laneFenced d n s)
  let c := ([3, 2, 1, 0].find? (fun c =>
    decide (c ≤ rd (R.RLNK.CFG_WIDTH d) s) && decide (widthOf c ≤ free.length) && (c != 3 || d != 0))).getD 0
  (c, free.take (widthOf c))

/-- The raster bond is formed with a new generation (R186). A fenced one keeps its lanes and sends no stream (R210). -/
def rasterForm (d : Nat) (s : State) : State :=
  let was := rd (R.RLNK.BOND_STAT_STATE d) s
  let s0 := if was = 2 then evt d 0x30 1 s else s
  if !blockOn d 0x30 s0 then wr (R.RLNK.BOND_STAT_STATE d) (if isFenced (.bond d) s0 then 3 else 0) (setBond d {} s0)
  else if isFenced (.bond d) s0 then
    wr (R.RLNK.BOND_STAT_STATE d) 3 (setBond d { bondOf d s0 with marks := [], stream := [] } s0)
  else
    let w := rasterWidth d s0
    let mask := w.2.foldl (fun a n => a + 2 ^ (if n ≤ 3 then n else n - 6)) 0
    let s1 := setBond d { lanes := w.2, formedAt := s.now } s0
    wr (R.RLNK.BOND_STAT_STATE d) (if w.2.isEmpty then 0 else 1) (wr (R.RLNK.BOND_STAT_WIDTH d) w.1
      (wr (R.RLNK.BOND_STAT_LANES d) mask (wr (R.RLNK.BOND_STAT_GEN d) (rd (R.RLNK.BOND_STAT_GEN d) s1 + 1) s1)))

/-- Alignment is lost: the bond realigns at once, and what waits in its stream is lost with it (R187; log 154). -/
def bondLost (i : Nat) (s : State) : State :=
  if rd (bondStLoc i) s = 2 then
    let s1 := wr (bondStLoc i) 1 (setBond i { bondOf i s with stream := [] } s)
    if i < 16 then evt i 0x30 1 s1 else s1
  else s

/-- A lane has left state 5 (R187). -/
def bondLaneDown (d n : Nat) (s : State) : State :=
  let i := laneBond d n
  let b := bondOf i s
  if b.lanes.contains n then bondLost i (setBond i { b with marks := b.marks.filter (fun x => x.1 != n) } s) else s

/-- The bond comes up (R187), and its 1 ms is judged: the raster link acknowledges what it has accepted (R198); a head link sends what waits. -/
def bondUp (i : Nat) (s : State) : State :=
  let s1 := wr (bondStLoc i) 2 (setBond i { bondOf i s with late := true } s)
  if i < 16 then
    let s2 := evt i 0x30 0 s1
    if rasterOpen i s2 then sendAck i 0 (rd (R.RLNK.PSN_STAT_EXPECT i) s2 + 65535) s2 else s2
  else headPump (i - 16) s1

/-- ALIGNMENT_MARKER (R184, R187): lane `n` receives a marker block `body`, `gap` blocks after the one before; `skew` is the
spread of the slot's markers over the bond in picoseconds. -/
def execAlignmentMarker (d n : Nat) (body : List Byte) (gap skew : Nat) (s : State) : Host.Outcome State Fault Refusal :=
  let i := laneBond d n
  let b := bondOf i s
  match b.lanes.idxOf? n with
  | none => .next s
  | some p =>
    if laneSt d n s ≠ 5 ∨ laneFenced d n s ∨ rd (bondStLoc i) s = 3 then .next s
    else
      let right := body == (markerBlock p b.lanes.length (bondGen i s)).bytes
      let before : Nat := ((b.marks.find? (fun x => x.1 == n)).map (fun x => x.2)).getD 0
      let count : Nat := if !right then 0 else if gap = 16384 ∧ before ≠ 0 then 2 else 1
      let b1 := { b with marks := (n, count) :: b.marks.filter (fun x => x.1 != n) }
      let s1 := setBond i b1 s
      let sound := b1.lanes.all (fun m => laneSt d m s1 == 5 && b1.marks.any (fun x => x.1 == m && x.2 == 2)) && decide (skew ≤ 2000)
      .next (if rd (bondStLoc i) s1 = 2 then (if count = 2 ∧ skew ≤ 2000 then s1 else bondLost i s1)
        else if sound then bondUp i s1 else s1)

/-- BOND_ALIGN_TIMEOUT (R187): the raster bond is not up 1 ms after it was formed. -/
def execBondAlignTimeout (d : Nat) (s : State) : Host.Outcome State Fault Refusal :=
  let b := bondOf d s
  if rd (R.RLNK.BOND_STAT_STATE d) s = 1 ∧ !b.late ∧ b.formedAt + 1000000 ≤ s.now then
    .next (evt d 0x30 5 (setBond d { b with late := true } s))
  else .next s

/-- The spare takes the position of a fenced active lane, where it is up (R173). -/
def spareTakeover (k : Nat) (s : State) : State :=
  let d := stDie k
  let lost := (headLanes k).find? (fun n => laneRoleOf d n s == 1 && laneFenced d n s)
  let spare := (headLanes k).find? (fun n => laneRoleOf d n s == 2 && !laneFenced d n s && laneSt d n s == 5)
  match lost, spare with
  | some l, some n => evt d (0x20 + n) 4 (wr (R.LANE.LCFG_ROLE d n) 1 (wr (R.LANE.LCFG_ROLE d l) 2 s))
  | _, _ => s

/-- RLNK is fenced (R210): what has been accepted is still written, incomplete ashlars are given up. -/
def rasterFence (d : Nat) (s : State) : State :=
  if s.fenced.contains (.bond d) then s else rasterForm d (closeRaster d (addFence (.bond d) s))

end Sys2Proof.Machine
end

