-- ==== Sys2Proof/Machine/PageMem.lean ====
section
/-! DEFINITION. Accesses to page memory by the controller's agents: fitted range, readiness and ECC (R455 to R462). -/

namespace Sys2Proof.Machine

/-- The agents of ERR_REC1.AGENT (R478). -/
def agCodec : Nat := 0
def agRaster : Nat := 1
def agDma : Nat := 2
def agBar4 : Nat := 3
def agScrub : Nat := 4
def agOther : Nat := 5

/-- The die that an address names (R456). -/
def memDie (a : Nat) : Nat := a / 0x1000000000

def memReady (d : Nat) (s : State) : Bool := domainReady d 7 s && rd (R.MEMC.MSTAT_STATE d) s == 2

/-- An access is served: at once, or after agents have waited for the devices to leave the self-refresh that a bypassed memory
PLL puts them in (R547). -/
def memServes (d : Nat) (s : State) : Bool :=
  memReady d s || (domainReady d 7 s && rd (R.MEMC.MSTAT_STATE d) s == 3 && rd (R.CLK.PLL_STAT_STATE d 2) s == 3)

/-- The fitted page memory of a die in bytes. -/
def fittedBytes (d : Nat) (s : State) : Nat := rd (R.MEMC.MSTAT_FITTED d) s * 0x10000000

/-- The memory of a die can be reached: the die exists, and it is not a member die that is fenced from the package (R16,
R495). -/
def memReached (d : Nat) (s : State) : Bool := decide (d < s.dies) && (d == 0 || !dieFenced d s)

/-- R457: why bytes `a` to `a + n − 1` may not be accessed: 1 outside fitted memory or an absent die, 2 not ready. A member die
that is fenced from the package counts as absent (DESIGN CHOICE, log 138). -/
def memFault (a n : Nat) (s : State) : Option Nat :=
  let d := memDie a
  if !memReached d s then some 1
  else if !memServes d s then some 2
  else if fittedBytes d s < a % 0x1000000000 + n then some 1
  else none

/-- R457, R462: ERR_REC of the die addressed, or of D0 for a die that cannot be reached, if it is free; a controller whose domain is off
records nothing (log 92). -/
def memErrRec (kind agent a : Nat) (s : State) : State :=
  let d := if memReached (memDie a) s then memDie a else 0
  if !blockUp d 0x38 s || flag (R.MEMC.ERR_REC1_VALID d) s then s
  else evt d 0x38 3
    (putWord (R.MEMC.ERR_REC1_ADDR d).addr (BitVec.ofNat 32 (a / 0x100000000 % 128 + 256 * agent + 4096 * kind + 0x80000000))
      (wr (R.MEMC.ERR_REC0_ADDR d) (a / 32) s))

/-- What a read by an agent delivers. -/
inductive MemRes where
  | ok (bytes : List Byte)
  | refused
  | bad
  deriving DecidableEq, Repr

/-- The first uncorrectable block in a range. -/
def badIn (a n : Nat) (s : State) : Option Nat := s.badBlocks.find? (fun b => decide (32 * b < a + n) && decide (a < 32 * b + 32))

/-- R462: an uncorrectable error is met by an agent. -/
def uncorrectable (agent block : Nat) (s : State) : State :=
  let d := memDie (32 * block)
  memErrRec 0 agent (32 * block) (recordFault d 0x38 1 false (bump (R.MEMC.UE_CNT_COUNT d) s))

/-- A read of `n` bytes by an agent (R457, R462). -/
def agentRead (agent a n : Nat) (s : State) : MemRes × State :=
  match memFault a n s with
  | some k => (.refused, memErrRec k agent a s)
  | none =>
    match badIn a n s with
    | some b => (.bad, uncorrectable agent b s)
    | none => (.ok (memRead a n s), s)

/-- Blocks that a write of `n` bytes at `a` covers whole hold good data again (R462). -/
def healBlocks (a n : Nat) (s : State) : State :=
  { s with badBlocks := s.badBlocks.filter (fun b => !(decide (a ≤ 32 * b) && decide (32 * b + 32 ≤ a + n))) }

/-- A write of bytes by an agent; refused outside fitted memory (R457). `true`: carried out. -/
def agentWrite (agent a : Nat) (bs : List Byte) (s : State) : Bool × State :=
  match memFault a bs.length s with
  | some k => (false, memErrRec k agent a s)
  | none => (true, memWrite a bs (healBlocks a bs.length s))

/-- A write whose refusal has no consequence for the agent. -/
def agentPut (agent a : Nat) (bs : List Byte) (s : State) : State := (agentWrite agent a bs s).2

/-- A correctable error is met in a block of die `d` (R461). -/
def corrected (d : Nat) (s : State) : State := recordFault d 0x38 0 false (bump (R.MEMC.CE_CNT_COUNT d) s)

end Sys2Proof.Machine
end

