-- ==== Sys2Proof/Machine/Dma.lean ====
section
/-! DEFINITION. The DMA channels (R464 to R481). -/

namespace Sys2Proof.Machine

def dmaOf (d n : Nat) (s : State) : DmaCh := mapGet (fun _ => {}) s.dmas (8 * d + n)
def setDma (d n : Nat) (c : DmaCh) (s : State) : State := { s with dmas := mapSet (fun _ => {}) s.dmas (8 * d + n) c }

/-! ### The token bucket (R476) -/

/-- The bucket brought up to now, in sixteenths of a byte: it gains SHARE of them in each ns; the bytes still to be read take
what it holds, at most the port's 16 bytes in each ns. -/
def dmaSettle (d n : Nat) (s : State) : State :=
  let c := dmaOf d n s
  let full := 4096 * rd (R.DMA.RATE_BUCKET d n) s
  let t := s.now - c.at0
  let gain := rd (R.DMA.RATE_SHARE d n) s * t
  let spent := Nat.min c.left (Nat.min (full - c.debt + gain) (256 * t))
  setDma d n { c with left := c.left - spent, debt := Nat.min full (c.debt + spent - gain), at0 := s.now } s

/-- The channel has no descriptor in work; its bucket stays. -/
def dmaDrop (d n : Nat) (s : State) : State :=
  let s1 := dmaSettle d n s
  let c := dmaOf d n s1
  setDma d n { debt := c.debt, at0 := c.at0 } s1

/-! ### Descriptors (R465, R466) -/

/-- The fields of a descriptor. -/
structure DmaDesc where
  src : Nat
  dst : Nat
  len : Nat
  mode : Nat
  /-- Element size in bits, and the codes of E and N. -/
  eBits : Nat
  eCode : Nat
  nCode : Nat
  own : Bool
  irq : Bool
  srcHost : Bool
  dstHost : Bool
  reserved : Bool
  deriving DecidableEq, Repr

def parseDma (b : List Byte) : DmaDesc :=
  let x := fieldLe b 20 1
  let y := fieldLe b 21 1
  ⟨fieldLe b 0 8, fieldLe b 8 8, fieldLe b 16 4, x % 4, 2 ^ (x / 4 % 4), x / 4 % 4, x / 16 % 8,
    testBit y 0, testBit y 1, testBit y 2, testBit y 3,
    testBit x 7 || testBit y 7 || fieldLe b 22 2 != 0 || fieldLe b 25 3 != 0⟩

/-- The planes of a descriptor, and the bytes of each. -/
def DmaDesc.planes (q : DmaDesc) : Nat :=
  match q.mode with
  | 0 => 0
  | 3 => q.eBits
  | _ => q.nCode + 1

def DmaDesc.planeLen (q : DmaDesc) : Nat := if q.planes = 0 then 0 else q.len / q.planes

/-- The address and space of the plane table (`true`: host memory). -/
def DmaDesc.table (q : DmaDesc) : Nat × Bool := if q.mode = 2 then (q.src, q.srcHost) else (q.dst, q.dstHost)

/-- Step 1 of R468: mode, E, N, reserved bits, L and the high address bits. -/
def dmaFieldsOk (q : DmaDesc) : Bool :=
  !q.reserved && q.len != 0 &&
    (q.srcHost || decide (q.src < 2 ^ 39)) && (q.dstHost || decide (q.dst < 2 ^ 39)) &&
    match q.mode with
    | 0 => q.eCode == 0 && q.nCode == 0
    | 3 => q.eCode != 0 && q.nCode == 0 && q.len % q.eBits == 0 && q.table.1 % 8 == 0
    | _ => q.nCode != 0 && q.len % (q.nCode + 1) == 0 && q.table.1 % 8 == 0

/-- Two ranges of the same space share a byte (R467). -/
def overlaps (h1 : Bool) (a1 n1 : Nat) (h2 : Bool) (a2 n2 : Nat) : Bool :=
  h1 == h2 && decide (a1 < a2 + n2) && decide (a2 < a1 + n1)

/-- The ranges a descriptor reads and writes: (host, address, length). -/
def dmaSources (q : DmaDesc) (tbl : List Nat) : List (Bool × Nat × Nat) :=
  if q.mode = 2 then tbl.map (fun a => (q.srcHost, a, q.planeLen)) else [(q.srcHost, q.src, q.len)]

def dmaDests (q : DmaDesc) (tbl : List Nat) : List (Bool × Nat × Nat) :=
  if q.mode = 1 ∨ q.mode = 3 then tbl.map (fun a => (q.dstHost, a, q.planeLen)) else [(q.dstHost, q.dst, q.len)]

def hitsRange (x y : Bool × Nat × Nat) : Bool := overlaps x.1 x.2.1 x.2.2 y.1 y.2.1 y.2.2

/-- Whether two of a list's ranges overlap. -/
def selfOverlap : List (Bool × Nat × Nat) → Bool
  | [] => false
  | x :: t => t.any (hitsRange x) || selfOverlap t

/-- Step 4 of R468. -/
def dmaOverlap (q : DmaDesc) (tbl : List Nat) : Bool :=
  q.mode != 0 &&
    (let ds := dmaDests q tbl
     let other := dmaSources q tbl ++ [(q.table.2, q.table.1, 8 * q.planes)]
     selfOverlap ds || ds.any (fun x => other.any (hitsRange x)))

def inFitted (x : Bool × Nat × Nat) (s : State) : Bool := x.1 || memFault x.2.1 x.2.2 s == none

/-- Steps 1 and 2 of R468, before the plane table is read; 0: passed. -/
def dmaPreCheck (q : DmaDesc) (s : State) : Nat :=
  if !dmaFieldsOk q then 1
  else
    let plain := (if q.mode = 2 then [] else [(q.srcHost, q.src, q.len)]) ++
      (if q.mode = 1 ∨ q.mode = 3 then [] else [(q.dstHost, q.dst, q.len)]) ++
      (if q.mode = 0 then [] else [(q.table.2, q.table.1, 8 * q.planes)])
    if plain.any (fun x => !inFitted x s) then 4 else 0

/-- Steps 3 and 4 of R468 with the plane table read. -/
def dmaTableCheck (q : DmaDesc) (tbl : List Nat) (s : State) : Nat :=
  if !q.table.2 && tbl.any (fun a => decide (2 ^ 39 ≤ a)) then 1
  else if (dmaSources q tbl ++ dmaDests q tbl).any (fun x => !inFitted x s) then 4
  else if dmaOverlap q tbl then 2 else 0

/-- The addresses of a plane table. -/
def dmaAddresses (q : DmaDesc) (bs : List Byte) : List Nat := (List.range q.planes).map (fun i => fieldLe bs (8 * i) 8)

/-- The read of the plane table (R468): a status, and the addresses. -/
def dmaTable (q : DmaDesc) (s : State) : Nat × List Nat × State :=
  if q.planes = 0 then (0, [], s)
  else if q.table.2 then (0, dmaAddresses q (hostRead q.table.1 (8 * q.planes) s), s)
  else match agentRead agDma q.table.1 (8 * q.planes) s with
    | (.ok bs, s1) => (0, dmaAddresses q bs, s1)
    | (.bad, s1) => (5, [], s1)
    | (.refused, s1) => (4, [], s1)

/-- R468: the checks before the transfer (0: passed), and the plane table they read. -/
def dmaCheck (q : DmaDesc) (s : State) : Nat × List Nat × State :=
  let c := dmaPreCheck q s
  if c ≠ 0 then (c, [], s)
  else
    let r := dmaTable q s
    if r.1 ≠ 0 then r else (dmaTableCheck q r.2.1 r.2.2, r.2)

/-! ### Data (R466): elements packed from the most significant bits -/

def unpackByte (e : Nat) (b : Byte) : List Nat := (List.range (8 / e)).map (fun i => bitsOf b.toNat (8 - e * (i + 1)) e)

def unpack (e : Nat) (bs : List Byte) : List Nat := bs.flatMap (unpackByte e)

/-- Elements packed into whole bytes; `n` bounds the number of bytes. -/
def pack (e : Nat) : Nat → List Nat → List Byte
  | 0, _ => []
  | n + 1, l =>
    if l.isEmpty then []
    else BitVec.ofNat 8 ((l.take (8 / e)).zipIdx.foldl (fun acc x => acc + x.1 * 2 ^ (8 - e * (x.2 + 1))) 0) ::
      pack e n (l.drop (8 / e))

/-- Every `n`-th element from the `p`-th. -/
def everyNth (n p : Nat) (l : List Nat) : List Nat :=
  (List.range (l.length / n)).map (fun i => l.getD (n * i + p) 0)

/-- The bytes of each destination range. -/
def dmaData (q : DmaDesc) (srcs : List (List Byte)) : List (List Byte) :=
  let whole := srcs.headD []
  match q.mode with
  | 0 => [whole]
  | 1 => (List.range q.planes).map (fun p => pack q.eBits q.len (everyNth q.planes p (unpack q.eBits whole)))
  | 2 =>
    let els := srcs.map (unpack q.eBits)
    let m := (els.headD []).length
    [pack q.eBits q.len ((List.range m).flatMap (fun i => els.map (fun l => l.getD i 0)))]
  | _ => (List.range q.eBits).map (fun b => pack 1 q.len ((unpack q.eBits whole).map (fun v => bitsOf v b 1)))

/-- The sources read in order; the first error ends the reading: 5 uncorrectable, 4 not ready. -/
def dmaReadAll : List (Bool × Nat × Nat) → State → Nat × List (List Byte) × State
  | [], s => (0, [], s)
  | (true, a, n) :: t, s =>
    let r := dmaReadAll t s
    (r.1, hostRead a n s :: r.2.1, r.2.2)
  | (false, a, n) :: t, s =>
    match agentRead agDma a n s with
    | (.ok bs, s1) => let r := dmaReadAll t s1; (r.1, bs :: r.2.1, r.2.2)
    | (.bad, s1) => (5, [], s1)
    | (.refused, s1) => (4, [], s1)

def dmaWriteAll : List ((Bool × Nat × Nat) × List Byte) → State → Bool × State
  | [], s => (true, s)
  | ((true, a, _), bs) :: t, s => dmaWriteAll t (hostWrite a bs s)
  | ((false, a, _), bs) :: t, s =>
    match agentWrite agDma a bs s with
    | (true, s1) => dmaWriteAll t s1
    | (false, s1) => (false, s1)

/-- `n` open bytes (R469: undefined data). -/
def freeBytes : Nat → State → List Byte × State
  | 0, s => ([], s)
  | n + 1, s =>
    let r := drawFree s
    let t := freeBytes n r.2
    (BitVec.ofNat 8 r.1 :: t.1, t.2)

/-- The destination ranges hold undefined data. -/
def dmaUndefined : List (Bool × Nat × Nat) → State → State
  | [], s => s
  | (h, a, n) :: t, s =>
    let r := freeBytes n s
    dmaUndefined t (if h then hostWrite a r.1 r.2 else if memFault a n r.2 = none then memWrite a r.1 r.2 else r.2)

/-- The transfer of a checked descriptor with its plane table; `hostErr`: a host bus error occurs in it. -/
def dmaTransfer (q : DmaDesc) (tbl : List Nat) (hostErr : Bool) (s : State) : Nat × State :=
  let srcs := dmaSources q tbl
  let dsts := dmaDests q tbl
  let r := dmaReadAll srcs s
  let st := if r.1 != 0 then r.1 else if hostErr && (q.srcHost || q.dstHost) then 3 else 0
  if st = 0 then
    let w := dmaWriteAll (dsts.zip (dmaData q r.2.1)) r.2.2
    if w.1 then (0, w.2) else (4, dmaUndefined dsts w.2)
  else (st, dmaUndefined dsts r.2.2)

/-! ### The channel -/

def dmaRing (d n : Nat) (s : State) : Nat :=
  32 * rd (R.DMA.RING_LO_ADDR d n) s + 0x100000000 * rd (R.DMA.RING_HI_ADDR d n) s

def dmaHostRing (d n : Nat) (s : State) : Bool := flag (R.DMA.RING_CFG_SPACE d n) s

/-- R474: a bus error on a fetch or a write-back stops the channel. -/
def dmaStop (d n : Nat) (s : State) : State :=
  let s1 := dmaDrop d n (wr (R.DMA.STAT_STATE d n) 0 (wr (R.DMA.CTL_EN d n) 0 s))
  evt d 0x39 (16 + n) (recordFault d 0x39 9 false s1)

/-- The write-back of R471: the status byte, then byte 21 with OWN = 0. -/
def dmaWriteBack (d n addr status : Nat) (desc : List Byte) (s : State) : Bool × State :=
  let b21 := BitVec.ofNat 8 (fieldLe desc 21 1 / 2 * 2)
  if dmaHostRing d n s then (true, hostPut (addr + 21) b21 (hostPut (addr + 24) (BitVec.ofNat 8 status) s))
  else
    match agentWrite agDma (addr + 24) [BitVec.ofNat 8 status] s with
    | (true, s1) => agentWrite agDma (addr + 21) [b21] s1
    | (false, s1) => (false, s1)

/-- A descriptor ends with a status (R469 to R474); `busErr`: the write-back meets a bus error. -/
def dmaEnd (d n status : Nat) (busErr : Bool) (s : State) : State :=
  let c := dmaOf d n s
  let desc := c.cur.getD []
  let w := dmaWriteBack d n c.addr status desc s
  if (busErr && dmaHostRing d n s) || !w.1 then dmaStop d n (if busErr then s else w.2)
  else
    let size := Nat.max 1 (rd (R.DMA.RING_CFG_SIZE d n) s)
    let s1 := dmaDrop d n w.2
    let s2 := wr (R.DMA.STAT_NEXT d n) ((rd (R.DMA.STAT_NEXT d n) s1 + 1) % size) s1
    let s3 := bump (R.DMA.CNT_DONE d n) (wr (R.DMA.STAT_LAST d n) status s2)
    let s4 := if 1 ≤ status ∧ status ≤ 5 then
        evt d 0x39 (8 + n) (recordFault d 0x39 (if status = 3 ∨ status = 5 then 9 else 8) false (bump (R.DMA.CNT2_BAD d n) s3))
      else s3
    let s5 := onlyIf (parseDma desc).irq (evt d 0x39 n) s4
    wr (R.DMA.STAT_STATE d n) (if flag (R.DMA.CTL_EN d n) s5 then 1 else 0) s5

/-- A write of CTL, with the EN bit held before it: start, stop, kick and abort (R464, R477). -/
def dmaCtl (d n : Nat) (enBefore : Bool) (v : Nat) (s : State) : State :=
  let en := testBit v 0
  let s1 :=
    if en && !enBefore then wr (R.DMA.STAT_STATE d n) 1 (wr (R.DMA.STAT_NEXT d n) 0 s)
    else if !en && enBefore && (dmaOf d n s).cur.isNone then wr (R.DMA.STAT_STATE d n) 0 s
    else s
  let s2 := if testBit v 1 && rd (R.DMA.STAT_STATE d n) s1 == 2 then wr (R.DMA.STAT_STATE d n) 1 s1 else s1
  if testBit v 2 then
    let s3 := wr (R.DMA.CTL_EN d n) 0 s2
    match (dmaOf d n s3).cur with
    | some b => dmaEnd d n 6 false (dmaUndefined (dmaDests (parseDma b) (dmaOf d n s3).tbl) s3)
    | none => wr (R.DMA.STAT_STATE d n) 0 s3
  else s2

/-- A fence ends the channel's descriptor with status 7 and drives no further access (R477). -/
def dmaFenced (d n : Nat) (s : State) : State :=
  let s1 := wr (R.DMA.CTL_EN d n) 0 s
  let s2 := if (dmaOf d n s1).cur.isSome then
      bump (R.DMA.CNT_DONE d n) (wr (R.DMA.STAT_LAST d n) 7 s1) else s1
  wr (R.DMA.STAT_STATE d n) 0 (dmaDrop d n s2)

/-- A descriptor at `a` with OWN set is checked: it is in work, or ends at once with a status; after status 5 its destination
ranges, as far as they are known, are undefined (R469). -/
def dmaBegin (d n a : Nat) (b : List Byte) (s : State) : State :=
  let q := parseDma b
  let c := dmaCheck q s
  let s1 := dmaSettle d n c.2.2
  let s2 := setDma d n { dmaOf d n s1 with cur := some b, addr := a, tbl := c.2.1, left := 16 * q.len } s1
  if c.1 = 0 then s2 else dmaEnd d n c.1 false (onlyIf (c.1 == 5) (dmaUndefined (dmaDests q [])) s2)

/-- DMA_DESCRIPTOR_FETCH (R468): a running channel reads its next descriptor; with OWN set it is checked, and a bad one ends
at once. `busErr`: the fetch from host memory meets a bus error. -/
def execDmaDescriptorFetch (d n : Nat) (busErr : Bool) (s : State) : Host.Outcome State Fault Refusal :=
  if blockUp d 0x39 s ∧ n < 8 ∧ !isFenced (.dma d n) s ∧ flag (R.DMA.CTL_EN d n) s ∧ rd (R.DMA.STAT_STATE d n) s = 1 ∧
      (dmaOf d n s).cur.isNone then
    let a := dmaRing d n s + 32 * rd (R.DMA.STAT_NEXT d n) s
    let r : MemRes × State := if dmaHostRing d n s then (if busErr then (.refused, s) else (.ok (hostRead a 32 s), s))
      else agentRead agDma a 32 s
    match r with
    | (.ok b, s1) =>
      if (parseDma b).own then .next (dmaBegin d n a b s1) else .next (wr (R.DMA.STAT_STATE d n) 2 s1)
    | (_, s1) => .next (dmaStop d n s1)
  else .next s

/-- DMA_DESCRIPTOR_COMPLETE (R469 to R471): the running descriptor's data has moved, which the token bucket must have allowed
(R476). `hostErr`: a host bus error occurs in the transfer; `wbErr`: one occurs in the write-back. -/
def execDmaDescriptorComplete (d n : Nat) (hostErr wbErr : Bool) (s : State) : Host.Outcome State Fault Refusal :=
  match (dmaOf d n s).cur with
  | some b =>
    if blockUp d 0x39 s ∧ n < 8 ∧ !isFenced (.dma d n) s then
      let r := dmaTransfer (parseDma b) (dmaOf d n s).tbl hostErr s
      if r.1 = 0 ∧ (dmaOf d n (dmaSettle d n s)).left ≠ 0 then .next s else .next (dmaEnd d n r.1 wbErr r.2)
    else .next s
  | none => .next s

end Sys2Proof.Machine
end

