-- ==== Sys2Proof/Machine/Profile.lean ====
section
/-! DEFINITION. The jerk-limited profile generator that step channels and set-point profiles share (R365 to R371). -/

namespace Sys2Proof.Machine

/-- ⌊√n⌋ of a number below 2^512. -/
def isqrt (n : Nat) : Nat :=
  (List.range 256).foldl (fun r i => let c := r + 2 ^ (255 - i); if c * c ≤ n then c else r) 0

/-- The quotient rounded up, for a positive divisor. -/
def ceilInt (x : Int) (y : Nat) : Int := -((-x) / (y : Int))

/-- The least n with n² ≥ num / den. -/
def ceilSqrt (num den : Nat) : Nat :=
  let r := isqrt (num / den)
  if num ≤ r * r * den then r else r + 1

/-- d_stop(u) of R368 in 2^−32 step, rounded up, for u = un / ud in 2^−48 step per tick. -/
def stopDistance (un ud A J : Nat) : Nat :=
  if A * A * ud ≤ un * J then ceilDiv (un * un * J + un * A * A * ud) (2 * ud * ud * A * J * 65536)
  else ceilSqrt (un * un * un) (ud * ud * ud * J * 4294967296)

/-- d_plan of R368 in 2^−32 step. With a < 0 the same ramp, begun at speed v + a²/(2J), has already covered the (negative)
first two terms. -/
def planned (v a : Int) (A J : Nat) : Int :=
  if A = 0 ∨ J = 0 then 0
  else
    let un := (2 * (J : Int) * v + a * a).toNat
    ceilInt (v * a) (J * 65536) + ceilInt (a * a * a) (3 * J * J * 65536) + (stopDistance un (2 * J) A J : Nat)

/-- The jerk of a phase (R367). -/
def Profile.jerk (p : Profile) : Int :=
  match p.phase with
  | 2 => p.jl
  | 4 | 7 => -(p.jl : Int)
  | 9 => p.jl
  | 6 => if p.part = 0 then -(p.jl : Int) else p.jl
  | 11 => match p.part with
    | 0 => -(p.jl : Int)
    | 1 => 0
    | _ => p.jl
  | _ => 0

/-- v + a²/(2J) ≥ x, and v − a²/(2J) ≤ x, without division. -/
def Profile.peakAtLeast (p : Profile) (x : Nat) : Bool := decide (2 * (p.jl : Int) * x ≤ 2 * p.jl * p.v + p.a * p.a)
def Profile.dipAtMost (p : Profile) (x : Nat) : Bool := decide (2 * (p.jl : Int) * p.v - p.a * p.a ≤ 2 * p.jl * x)

/-- One move between phases by the "left when" column of R367. In SLOW, DEC_UP and QSTOP the tests that compare with
a²/(2J) are those of a braking ramp and wait until a is no longer positive (DEDUCED, log 32). -/
def Profile.leave (p : Profile) : Profile :=
  let brakeDone := decide (p.a ≤ 0) && decide (2 * (p.jl : Int) * p.v ≤ p.a * p.a)
  match p.phase with
  | 2 => if p.peakAtLeast p.vl then { p with phase := 4, part := 0 }
    else if (p.al : Int) ≤ p.a then { p with phase := 3 } else p
  | 3 => if p.peakAtLeast p.vl then { p with phase := 4, part := 0 } else p
  | 4 => if p.part = 1 ∧ p.a ≤ p.al ∧ !p.peakAtLeast p.vl then { p with phase := 3, part := 0 }
    else if p.a ≤ 0 then { p with phase := 5, a := 0, part := 0 } else p
  | 5 => if (p.vl : Int) < p.v then { p with phase := 6, part := 0 } else p
  | 6 => if p.part = 0 then (if p.a ≤ 0 ∧ p.dipAtMost p.vl then { p with part := 1 } else p)
    else if 0 ≤ p.a then { p with phase := 5, a := 0, part := 0 } else p
  | 7 => if p.a ≤ -(p.al : Int) then { p with phase := 8 } else if brakeDone then { p with phase := 9 } else p
  | 8 => if 2 * (p.jl : Int) * p.v ≤ p.al * p.al then { p with phase := 9 } else p
  | 9 => if p.v ≤ 0 ∨ 0 ≤ p.a then { p with phase := 10, v := 0, a := 0 } else p
  | 11 => if p.v ≤ 0 then { p with phase := 10, v := 0, a := 0, part := 0 }
    else match p.part with
      | 0 => if p.a ≤ -(p.al : Int) then { p with part := 1 } else if brakeDone then { p with part := 2 } else p
      | 1 => if 2 * (p.jl : Int) * p.v ≤ p.al * p.al then { p with part := 2 } else p
      | _ => if 0 ≤ p.a then { p with phase := 10, v := 0, a := 0, part := 0 } else p
  | _ => p

def Profile.settle : Nat → Profile → Profile
  | 0, p => p
  | n + 1, p => Profile.settle n p.leave

/-- Limits taken up outside a deceleration (R370): a smaller AMAX sends an acceleration to ACC_DOWN, a smaller VMAX sends
it to SLOW (R367). -/
def Profile.takeUp (p : Profile) (v a j : Nat) : Profile :=
  if 7 ≤ p.phase ∧ p.phase ≤ 11 then p
  else
    let p1 := { p with vl := v, al := a, jl := j }
    if 2 ≤ p.phase ∧ p.phase ≤ 4 then
      if v < p.vl ∧ (v : Int) < p.v then { p1 with phase := 6, part := 0 }
      else if a < p.al ∧ (a : Int) < p.a ∧ p.phase ≠ 4 then { p1 with phase := 4, part := 1 }
      else p1
    else p1

/-- The update of R365: a, then v, then the distance, which never passes `total` and never runs back. -/
def Profile.advance (p : Profile) (total : Nat) : Profile :=
  let a := p.a + p.jerk
  let v := p.v + a
  let v1 := if v < 0 then 0 else v
  { p with a := a, v := v1, q := Nat.min total (p.q + v1.toNat / 65536) }

/-- R368: the deceleration phase that a stop enters. -/
def Profile.brake (p : Profile) : Profile :=
  if -(p.al : Int) < p.a then { p with phase := 7, part := 0 } else { p with phase := 8, part := 0 }

/-- One tick of a moving profile (R365 to R368), towards `total` travelled. FINISH and IDLE are the caller's. -/
def Profile.tick (p : Profile) (total : Nat) : Profile :=
  let p1 := Profile.settle 4 p
  if 2 ≤ p1.phase ∧ p1.phase ≤ 6 then
    let n := p1.advance total
    if ((total - n.q : Nat) : Int) ≤ planned n.v n.a p1.al p1.jl then (Profile.settle 2 p1.brake).advance total else n
  else if p1.phase = 10 ∨ p1.phase ≤ 1 then p1
  else p1.advance total

/-- One tick under the limits that the registers give now (R370). Limits that land in the tick whose step enters a
deceleration phase are held (the first component): that tick runs under the old ones. -/
def Profile.takeTick (p : Profile) (v a j total : Nat) : Bool × Profile :=
  let old := p.tick total
  if 2 ≤ p.phase ∧ p.phase ≤ 6 ∧ 7 ≤ old.phase ∧ ¬ (p.vl = v ∧ p.al = a ∧ p.jl = j) then (true, old)
  else (false, (p.takeUp v a j).tick total)

/-- A stop that abandons the target (R371): from ACC_UP to SLOW. -/
def Profile.stop (p : Profile) : Profile := if 2 ≤ p.phase ∧ p.phase ≤ 6 then p.brake else p

/-- A quick stop (R371): QSTOP with its own deceleration in place of A. -/
def Profile.quickStop (p : Profile) (qa : Nat) : Profile :=
  if 2 ≤ p.phase ∧ p.phase ≤ 10 then
    { p with phase := 11, al := qa, part := if -(qa : Int) < p.a then 0 else 1 }
  else p

end Sys2Proof.Machine
end

