-- ==== Sys2Proof/Machine/Steps.lean ====
section
/-! DEFINITION. Step channels (R359 to R376). -/

namespace Sys2Proof.Machine

def stepOf (d n : Nat) (s : State) : StepCh := mapGet (fun _ => {}) s.steps (8 * d + n)
def setStep (d n : Nat) (c : StepCh) (s : State) : State := { s with steps := mapSet (fun _ => {}) s.steps (8 * d + n) c }

def stepPhase (d n : Nat) (s : State) : Nat := (stepOf d n s).prof.phase

/-- The registers that show the profile. -/
def showStep (d n : Nat) (s : State) : State :=
  let c := stepOf d n s
  wr (R.STEP.VNOW_V d n) (c.prof.v.toNat * 100000 / 281474976710656) (wr (R.STEP.STAT_PHASE d n) c.prof.phase s)

def putStep (d n : Nat) (c : StepCh) (s : State) : State := showStep d n (setStep d n c s)

/-- The limits of R365 from the registers. -/
def stepV (d n : Nat) (s : State) : Nat := rd (R.STEP.VMAX_V d n) s * 281474976710656 / 100000
def stepA (d n : Nat) (s : State) : Nat := rd (R.STEP.AMAX_A d n) s * 281474976710656 / 10000000000
def stepJ (d n : Nat) (s : State) : Nat := rd (R.STEP.JMAX_J d n) s * 1024 * 281474976710656 / 1000000000000000
def stepQ (d n : Nat) (s : State) : Nat := rd (R.STEP.QDEC_A d n) s * 281474976710656 / 10000000000

/-- A refused start or write (R363). -/
def stepRefuse (d n : Nat) (s : State) : State := evt d 0x68 (8 + n) (bump (R.STEP.CNT_REFUSED d n) s)

/-- The move ends with a result; a held limit change is taken up (R370); the hold delay begins (R372). -/
def stepEnd (d n result : Nat) (s : State) : State :=
  let c := stepOf d n s
  let s1 := putStep d n { c with
    prof := {}, ended := some s.now, ramping := false, abandoned := false, due := [], ending := none } s
  evt d 0x68 n (wr (R.STEP.STAT_LIM_PEND d n) 0 (wr (R.STEP.STAT_RESULT d n) result s1))

/-- R363: why a start is refused. -/
def stepMayStart (d n : Nat) (s : State) : Bool :=
  stepPhase d n s == 0 && !isFenced (.step d n) s && rd (R.STEP.VMAX_V d n) s != 0 &&
    rd (R.STEP.AMAX_A d n) s != 0 && rd (R.STEP.JMAX_J d n) s != 0

/-- When Dd_DIRn is at the level of a move that starts now (R360): a change waits for DIR_HOLD after the last step. -/
def stepDirAt (d n : Nat) (down : Bool) (s : State) : Nat :=
  let c := stepOf d n s
  match c.dirAt, c.lastStep with
  | some _, some t => if c.down = down then s.now else Nat.max s.now (t + 5 * rd (R.STEP.CFG_DIR_HOLD d n) s)
  | _, _ => s.now

/-- A move to `target` begins (R362, R367, R373), for a channel that may start. The reference returns to IRUN in the next
period of its PWM, whose periods begin at multiples of 5,120 ns (DESIGN CHOICE, log 170). -/
def stepBegin (d n : Nat) (target : Int) (s : State) : State :=
  let pos := rdS (R.STEP.POS_POS d n) s
  let s0 := wr (R.STEP.STAT_HOLDING d n) 0 (wr (R.STEP.STAT_TGT_PEND d n) 0 s)
  if target = pos then stepEnd d n 0 s0
  else
    let c := stepOf d n s0
    let down := decide (target < pos)
    let dir := stepDirAt d n down s0
    let wait := Nat.max (dir + 5 * rd (R.STEP.CFG_DIR_SETUP d n) s0)
      ((s0.now / 5120 + 1) * 5120 + 1000 * rd (R.STEP.IREF_SETUP_TIME d n) s0)
    putStep d n { c with
        prof := { phase := 1 }, len := (target - pos).natAbs, down := down, dirAt := some dir, abandoned := false,
        waitUntil := wait, ended := none, ramping := false, due := [], ending := none,
        enSince := if flag (R.STEP.EN_CTL_EN d n) s0 then some (c.enSince.getD s0.now) else none } s0

/-- A start by the host or by a cue: false where it is refused. -/
def stepMove (d n : Nat) (target : Int) (s : State) : Bool × State :=
  if stepMayStart d n s then (true, stepBegin d n target s) else (false, s)

/-- CTL.STOP (R371). -/
def stepStop (d n : Nat) (s : State) : State :=
  let c := stepOf d n s
  if c.prof.phase = 1 then stepEnd d n 1 s
  else if 2 ≤ c.prof.phase ∧ c.prof.phase ≤ 6 then putStep d n { c with prof := c.prof.stop, abandoned := true } s
  else s

/-- CTL.QSTOP (R371). -/
def stepQstop (d n : Nat) (s : State) : State :=
  let c := stepOf d n s
  if c.prof.phase = 1 then stepEnd d n 2 s
  else if c.prof.phase = 0 ∨ c.prof.phase = 11 then s
  else putStep d n { c with
    prof := { c.prof with jl := stepJ d n s }.quickStop (stepQ d n s), abandoned := true, ending := c.ending.map fun _ => 2 } s

/-- R364: the commands of one write to CTL, in their order (UNFENCE is judged with the fences). -/
def stepCtl (d n w : Nat) (s : State) : State :=
  let s1 := if testBit w 2 then stepQstop d n s else s
  let s2 := if testBit w 1 then stepStop d n s1 else s1
  if testBit w 0 then
    if w / 2 % 4 = 0 ∧ stepMayStart d n s2 then stepBegin d n (rdS (R.STEP.TARGET_POS d n) s2) s2
    else stepRefuse d n s2
  else s2

/-- R374: a fenced channel drops its move, and its outputs go low; POS keeps the steps issued. -/
def stepFence (d n : Nat) (s : State) : State :=
  let s1 := setStep d n { stepOf d n s with enSince := none, dirAt := none } s
  if stepPhase d n s = 0 then s1 else stepEnd d n 3 s1

/-- After VMAX, AMAX or JMAX has changed: held while the generator decelerates (R370). -/
def stepLimits (d n : Nat) (s : State) : State :=
  if 7 ≤ stepPhase d n s ∧ stepPhase d n s ≤ 11 then
    wr (R.STEP.STAT_LIM_PEND d n) 1 (bump (R.STEP.CNT_DEFERRED d n) s)
  else s

/-- R361: f_max for a pulse width. -/
def stepFmax (pw : Nat) : Nat := Nat.min 4000000 (1000000000 / (10 * Nat.max 1 pw))

/-- R361 after a write of CFG or VMAX. -/
def stepClampV (d n : Nat) (s : State) : State :=
  let f := stepFmax (rd (R.STEP.CFG_PW d n) s)
  if f < rd (R.STEP.VMAX_V d n) s then wr (R.STEP.VMAX_V d n) f s else s

/-- EN_CTL has been written: when Dd_STENn became active. -/
def stepEnable (d n : Nat) (s : State) : State :=
  let c := stepOf d n s
  if flag (R.STEP.EN_CTL_EN d n) s then (if c.enSince.isNone then setStep d n { c with enSince := some s.now } s else s)
  else setStep d n { c with enSince := none } s

/-- WAIT may be left: EN_SETUP, DIR_SETUP and IREF_SETUP have elapsed (R360, R367). -/
def stepWaited (d n : Nat) (s : State) : Bool :=
  let c := stepOf d n s
  decide (c.waitUntil ≤ s.now) &&
    match c.enSince with
    | some t => decide (t + 1000 * rd (R.STEP.EN_CTL_EN_SETUP d n) s ≤ s.now)
    | none => false

/-- The active edges of the steps that a tick at `t0` issues as its profile moves from q0 to q1 (R366), in units of 2^-32 step.
Each is rounded to the nearest 5 ns cycle (DESIGN CHOICE, log 170). -/
def stepTimes (t0 q0 q1 : Nat) : List Nat :=
  (List.range (q1 / 4294967296 - q0 / 4294967296)).map fun i =>
    let num := 10000 * ((q0 / 4294967296 + i + 1) * 4294967296 - q0)
    let den := q1 - q0
    5 * ((2 * (t0 * den + num) + 5 * den) / (10 * den))

/-- Edges delayed as far as R360 requires: `gap` ns from each to the next. -/
def spaceSteps (gap : Nat) : Option Nat → List Nat → List Nat
  | _, [] => []
  | last, t :: rest =>
    let u := match last with
      | some l => Nat.max t (l + gap)
      | none => t
    u :: spaceSteps gap (some u) rest

/-- The edges due after a tick that moves the profile of `c` on to q1: CFG.PW active and CFG.PW inactive between two. -/
def stepDue (d n : Nat) (c : StepCh) (q0 q1 : Nat) (s : State) : List Nat :=
  let last := match c.due.getLast? with
    | some t => some t
    | none => c.lastStep
  c.due ++ spaceSteps (10 * rd (R.STEP.CFG_PW d n) s) last (stepTimes s.now q0 q1)

/-- The profile has come to rest with `result`: the move ends once the last step due has been issued. -/
def stepFinish (d n result : Nat) (s : State) : State :=
  let c := stepOf d n s
  if c.due = [] then stepEnd d n result s else setStep d n { c with ending := some result } s

/-- The step pulse of a channel that is due by now is issued: POS counts it (R362, R366). -/
def stepIssue (d n : Nat) (s : State) : State :=
  let c := stepOf d n s
  match c.due with
  | [] => s
  | t :: rest =>
    if s.now < t then s
    else
      let pos := rdS (R.STEP.POS_POS d n) s
      let s1 := wrS (R.STEP.POS_POS d n) (if c.down then pos - 1 else pos + 1)
        (setStep d n { c with due := rest, lastStep := some t } { s with sent := .step d n t (!c.down) :: s.sent })
      match rest, c.ending with
      | [], some result => stepEnd d n result s1
      | _, _ => s1

/-- The step pulses that are due by now. -/
def stepPulses (s : State) : State := s.steps.foldl (fun s e => stepIssue (e.1 / 8) (e.1 % 8) s) s

/-- The profile that a tick takes up, and whether changed limits are held: FINISH goes on at VCREEP (R369). -/
def stepAdvance (d n : Nat) (s : State) : Bool × Profile :=
  let c := stepOf d n s
  let total := c.len * 4294967296
  if c.prof.phase = 10 then
    (false, { c.prof with q := Nat.min total (c.prof.q + rd (R.STEP.VCREEP_V d n) s * 4294967296 / 100000) })
  else
    let p := if c.prof.phase = 1 then { c.prof with phase := 2 }.takeUp (stepV d n s) (stepA d n s) (stepJ d n s) else c.prof
    p.takeTick (stepV d n s) (stepA d n s) (stepJ d n s) total

/-- STEP_PROFILE_TICK (R365 to R370): one tick of 10 µs of a channel's generator. -/
def execStepProfileTick (d n : Nat) (s : State) : Host.Outcome State Fault Refusal :=
  let c := stepOf d n s
  if !blockUp d 0x68 s || isFenced (.step d n) s || c.prof.phase == 0 || c.ending.isSome then .next s
  else if c.prof.phase = 1 ∧ !stepWaited d n s then .next s
  else
    let p := stepAdvance d n s
    let s1 := onlyIf p.1 (fun s => wr (R.STEP.STAT_LIM_PEND d n) 1 (bump (R.STEP.CNT_DEFERRED d n) s)) s
    let s2 := putStep d n { c with prof := p.2, due := stepDue d n c c.prof.q p.2.q s } s1
    if p.2.phase = 10 ∧ c.abandoned then .next (stepFinish d n (if c.prof.phase = 11 then 2 else 1) s2)
    else if p.2.phase = 10 ∧ p.2.q = c.len * 4294967296 then .next (stepFinish d n 0 s2)
    else .next s2

/-- R372: the duty of Dd_IREFn, in 1/1,024. -/
def stepIref (d n : Nat) (s : State) : Nat :=
  let c := stepOf d n s
  let run := rd (R.STEP.IREF_CFG_IRUN d n) s
  let hold := rd (R.STEP.IREF_CFG_IHOLD d n) s
  if isFenced (.step d n) s then 0
  else if flag (R.STEP.STAT_HOLDING d n) s then hold
  else match c.ended, c.ramping with
    | some t, true =>
      let from0 := t + 1000000 * rd (R.STEP.HOLD_CFG_DELAY d n) s
      let ramp := 1000000 * rd (R.STEP.HOLD_CFG_RAMP d n) s
      if ramp = 0 ∨ ramp ≤ s.now - from0 then hold else run - (run - hold) * (s.now - from0) / ramp
    | _, _ => run

/-- The levels of Dd_STPn, Dd_DIRn and Dd_STENn (R359, R360): low while the channel is fenced (R374) but for a pulse already
begun, and the direction low until the first move. -/
def stepPins (d n : Nat) (s : State) : Bool × Bool × Bool :=
  let c := stepOf d n s
  let on := blockUp d 0x68 s && !isFenced (.step d n) s
  let polarity := flag (R.STEP.CFG_STEP_POL d n) s
  let pulse := match c.lastStep with
    | some t => decide (s.now < t + 5 * rd (R.STEP.CFG_PW d n) s)
    | none => false
  let dir := match c.dirAt with
    | some t => ((if s.now < t then c.down else !c.down) != flag (R.STEP.CFG_DIR_INV d n) s)
    | none => false
  (if pulse then !polarity else on && polarity, on && dir, on && flag (R.STEP.EN_CTL_EN d n) s)

/-- IHOLD is reached (R372). -/
def stepHolding (d n : Nat) (s : State) : State :=
  let c := stepOf d n s
  evt d 0x68 (16 + n) (wr (R.STEP.STAT_HOLDING d n) 1 (setStep d n { c with ended := none, ramping := false } s))

/-- STEP_HOLD_DELAY (R372): HOLD_CFG.DELAY ms after a move has ended, the ramp begins; a RAMP of 0 sets IHOLD at once. -/
def execStepHoldDelay (d n : Nat) (s : State) : Host.Outcome State Fault Refusal :=
  let c := stepOf d n s
  match c.ended with
  | none => .next s
  | some t =>
    if c.ramping ∨ c.prof.phase ≠ 0 ∨ s.now < t + 1000000 * rd (R.STEP.HOLD_CFG_DELAY d n) s then .next s
    else if rd (R.STEP.HOLD_CFG_RAMP d n) s = 0 then .next (stepHolding d n s)
    else .next (setStep d n { c with ramping := true } s)

/-- STEP_HOLD_REACHED (R372): the ramp has brought the reference to IHOLD. -/
def execStepHoldReached (d n : Nat) (s : State) : Host.Outcome State Fault Refusal :=
  let c := stepOf d n s
  match c.ended with
  | none => .next s
  | some t =>
    if !c.ramping || decide (c.prof.phase ≠ 0) || decide (s.now < t + 1000000 * (rd (R.STEP.HOLD_CFG_DELAY d n) s +
        rd (R.STEP.HOLD_CFG_RAMP d n) s)) then .next s
    else .next (stepHolding d n s)

end Sys2Proof.Machine
end

