-- ==== Sys2Proof/Machine/Encode.lean ====
section
/-! DEFINITION. What a compressor lane writes: matching, blocks, ashlars and carry-mode records (R107, R114 to R117, R142 to R144). -/

namespace Sys2Proof.Machine

/-! ### Bits -/

/-- The low `n` bits of a number, the least significant first. -/
def lowBits (n v : Nat) : Bits := (List.range n).map (fun i => testBit v i)

/-- Zero bits up to a whole number of bytes (R107). -/
def padBits (b : Bits) : Bits := b ++ List.replicate ((8 - b.length % 8) % 8) false

/-- The bytes of a padded bit stream; `fuel` bounds their number. -/
def bitBytes : Nat → Bits → List Byte
  | 0, _ => []
  | fuel + 1, b => if b.isEmpty then [] else BitVec.ofNat 8 ((b.take 8).zipIdx.foldl (fun v x => v + b2n x.1 * 2 ^ x.2) 0) :: bitBytes fuel (b.drop 8)

/-- The code at an index of a canonical code's order, the most significant bit first. -/
def codeBits : List Nat → (len code index : Nat) → Option Bits
  | [], _, _, _ => none
  | c :: cs, len, code, index =>
    if index < c then some (lowBits len (code + index)).reverse else codeBits cs (len + 1) (2 * (code + c)) (index - c)

/-- The code of a symbol; none: it has no code. -/
def symBits (h : Huffman) (sym : Nat) : Option Bits := (h.syms.idxOf? sym).bind (codeBits h.counts 1 0)

/-! ### Matching (R142) -/

/-- A literal byte, or a match. -/
inductive Token where
  | lit (b : Byte)
  | copy (len dist : Nat)
  deriving DecidableEq, Repr

def Token.size : Token → Nat
  | .lit _ => 1
  | .copy len _ => len

/-- The common prefix of two lists, at most `n` long. -/
def prefixLen : Nat → List Byte → List Byte → Nat
  | 0, _, _ => 0
  | n + 1, a :: t, b :: u => if a = b then prefixLen n t u + 1 else 0
  | _, _, _ => 0

/-- The hash of the three bytes at a position; the function is the lane's own (log 20). -/
def hashAt (buf : List Byte) (pos : Nat) : Nat := Config.hashOf (fieldLe buf pos 3)

/-- The longest match at a position among the first `probes` candidates of its hash chain, the most recent first; of equal ones
the first. -/
def searchMatch (probes : Nat) (buf : List Byte) (pos : Nat) : Option (Nat × Nat) :=
  if buf.length < pos + 3 then none
  else
    let chain := ((List.range (Nat.min pos 32768)).map (fun i => pos - 1 - i)).filter (fun p => hashAt buf p == hashAt buf pos)
    (chain.take probes).foldl (fun best p =>
      let n := prefixLen 258 (buf.drop p) (buf.drop pos)
      if Nat.max 2 ((best.map (fun b => b.1)).getD 0) < n then some (n, pos - p) else best) none

/-- The tokens from a position on. With lazy matching a longer match at the following position is preferred (DEDUCED, log 168); the
search made there is not made again. -/
def tokensFrom (probes : Nat) (lazy : Bool) (buf : List Byte) : Nat → Nat → Option (Option (Nat × Nat)) → List Token
  | 0, _, _ => []
  | fuel + 1, pos, known =>
    if buf.length ≤ pos then []
    else
      match known.getD (searchMatch probes buf pos) with
      | none => .lit (buf.getD pos 0) :: tokensFrom probes lazy buf fuel (pos + 1) none
      | some (len, dist) =>
        let next := if lazy && decide (len < 258) then searchMatch probes buf (pos + 1) else none
        match next with
        | some (len2, dist2) =>
          if len < len2 then .lit (buf.getD pos 0) :: tokensFrom probes lazy buf fuel (pos + 1) (some (some (len2, dist2)))
          else .copy len dist :: tokensFrom probes lazy buf fuel (pos + len) none
        | none => .copy len dist :: tokensFrom probes lazy buf fuel (pos + len) none

/-- The probes of a level: 1, then 4 at L1, doubled from level to level. -/
def levelProbes (level : Nat) : Nat := if level = 0 then 1 else 2 ^ (level + 1)

/-- The tokens of bytes that follow a history. -/
def tokenise (level : Nat) (history bs : List Byte) : List Token :=
  tokensFrom (levelProbes level) (decide (4 ≤ level)) (history ++ bs) bs.length history.length none

/-! ### Blocks -/

/-- The last index of a rising list whose entry does not exceed `v`. -/
def lastBelow (l : List Nat) (v : Nat) : Nat := (l.countP (fun x => decide (x ≤ v))) - 1

def tokenBits (lit dist : Huffman) : Token → Option Bits
  | .lit b => symBits lit b.toNat
  | .copy len dst =>
    let i := if len = 258 then 28 else lastBelow (lengthBase.take 28) len
    let j := lastBelow distBase dst
    match symBits lit (257 + i), symBits dist j with
    | some a, some b => some (a ++ lowBits (lengthExtra.getD i 0) (len - lengthBase.getD i 0) ++ b ++
        lowBits (distExtra.getD j 0) (dst - distBase.getD j 0))
    | _, _ => none

/-- The tokens of a block and its end code; none: some symbol has no code. -/
def blockBody (lit dist : Huffman) : List Token → Option Bits
  | [] => symBits lit 256
  | t :: ts => match tokenBits lit dist t, blockBody lit dist ts with
    | some a, some b => some (a ++ b)
    | _, _ => none

def fixedBlock (ts : List Token) : Bits :=
  [true, false] ++ (blockBody (mkHuffman fixedLit) (mkHuffman fixedDist) ts).getD []

/-- A block with codes of its own: the lane chooses the header (log 20); one that is no header, or gives some symbol no code, is no
choice. -/
def dynamicBlock (ts : List Token) : Option Bits :=
  let h := Config.dynamicHeader (ts.map (fun t => match t with | .lit b => (b.toNat, 0) | .copy len dist => (len, dist)))
  match dynamicCodes h with
  | some (lit, dist, []) => (blockBody lit dist ts).map (fun b => [false, true] ++ h ++ b)
  | _ => none

/-- A block without its BFINAL bit: fixed at L0, from L1 on whichever code is shorter. -/
def codedBlock (level : Nat) (ts : List Token) : Bits :=
  let f := fixedBlock ts
  if level = 0 then f
  else match dynamicBlock ts with
    | some d => if d.length < f.length then d else f
    | none => f

/-- The tokens of each block: one at L0, else at most 16,384 symbols, as the lane divides them (log 20). -/
def blockTokens (level : Nat) : Nat → List Token → List (List Token)
  | 0, _ => []
  | fuel + 1, ts =>
    let n := if level = 0 then ts.length else Nat.max 1 (Nat.min 16384 (Config.blockSymbols level))
    if ts.length ≤ n then [ts] else ts.take n :: blockTokens level fuel (ts.drop n)

/-- Stored blocks of at most 65,535 bytes after `acc`; the last has BFINAL `last`. -/
def storedBits (last : Bool) : Nat → List Byte → Bits → Bits
  | 0, _, acc => acc
  | fuel + 1, bs, acc =>
    let n := Nat.min bs.length 65535
    let rest := bs.drop n
    let out := padBits (acc ++ [last && rest.isEmpty, false, false]) ++ lowBits 16 n ++ lowBits 16 (65535 - n) ++ toBits (bs.take n)
    if rest.isEmpty then out else storedBits last fuel rest out

/-- The blocks of a stream after `acc`; with `stored`, one that coding would enlarge is written stored (R144; DEDUCED, log 168: its
coded bits are more than its bytes hold). -/
def blocksBits (level : Nat) (stored last : Bool) : List (List Token) → List Byte → Bits → Bits
  | [], _, acc => acc
  | ts :: more, bs, acc =>
    let n := (ts.map Token.size).sum
    let final := last && more.isEmpty
    let c := codedBlock level ts
    let out := if stored && decide (8 * n < c.length) then storedBits final (n + 1) (bs.take n) acc else acc ++ final :: c
    blocksBits level stored last more (bs.drop n) out

/-- The DEFLATE bits of bytes that follow a history. -/
def deflateBits (level : Nat) (stored last : Bool) (history bs : List Byte) : Bits :=
  let ts := tokenise level history bs
  blocksBits level stored last (blockTokens level (ts.length + 1) ts) bs []

def packBits (b : Bits) : List Byte := let p := padBits b; bitBytes (p.length / 8) p

/-! ### Ashlars and records -/

/-- An ashlar's bytes: header and payload. -/
def encodeAshlar (mode filter lines : Nat) (fill : Byte) (payload raw : List Byte) : List Byte :=
  leBytes 1 0xD1 ++ leBytes 1 1 ++ leBytes 1 mode ++ leBytes 1 filter ++ leBytes 2 lines ++ [fill, 0] ++
    leBytes 4 payload.length ++ leBytes 4 (crc32c raw) ++ payload

/-- R114: what a compressor lane writes for one ashlar. -/
def compressAshlar (level filter lines stride : Nat) (raw : List Byte) : List Byte :=
  let v := raw.headD 0
  if raw.all (· == v) then encodeAshlar 2 0 lines v [] raw
  else
    let coded := packBits (deflateBits level false true [] (filterAshlar filter lines stride raw))
    if coded.length < raw.length then encodeAshlar 1 filter lines 0 coded raw
    else encodeAshlar 0 0 lines 0 raw raw

/-- R117, R144: the data of one carry-mode record after a history; every record but the last ends with a sync flush. -/
def compressRecord (level : Nat) (history raw : List Byte) (last : Bool) : List Byte :=
  let b := deflateBits level true last history raw
  if last then packBits b else packBits (b ++ [false, false, false]) ++ [0, 0, 0xFF, 0xFF]

end Sys2Proof.Machine
end

