-- ==== Sys2Proof/Machine/Memory.lean ====
section
/-! DEFINITION. The memory controller, the BAR4 aperture and the scrubber (R455 to R463). -/

namespace Sys2Proof.Machine

/-- Background work is deferred on a die: it is in the warning state or above, or its neighbours differ (R520, R523). -/
def backgroundDeferred (d : Nat) (s : State) : Bool :=
  rd (R.THERM.TSTAT_STATE d) s != 0 || flag (R.THERM.TSTAT_DIFF d) s

/-- R456: fitted page memory in units of 256 MiB, from density and ranks. -/
def fittedUnits (density ranks : Nat) : Nat := 15 * 2 ^ density * (ranks + 1)

/-- MCTL.INIT (R455): initialisation and training start, unless STATE is neither 0 nor 4. -/
def memInit (d : Nat) (s : State) : State :=
  let st := rd (R.MEMC.MSTAT_STATE d) s
  if st = 0 ∨ st = 4 then wr (R.MEMC.MSTAT_STATE d) 1 s else s

/-- FITTED takes the size that MCFG gives. -/
def memFitted (d : Nat) (s : State) : State :=
  wr (R.MEMC.MSTAT_FITTED d) (fittedUnits (rd (R.MEMC.MCFG_DENSITY d) s) (rd (R.MEMC.MCFG_RANKS d) s)) s

/-- Training succeeds: ready, with the fitted size that MCFG gives. -/
def memTrained (d : Nat) (s : State) : State :=
  let u := fittedUnits (rd (R.MEMC.MCFG_DENSITY d) s) (rd (R.MEMC.MCFG_RANKS d) s)
  let s1 := wr (R.MEMC.MSTAT_FITTED d) u (wr (R.MEMC.MSTAT_STATE d) 2 s)
  evt d 0x38 0 { s1 with memTrained := if s1.memTrained.contains d then s1.memTrained else d :: s1.memTrained }

/-- The MEMC domain goes off: self-refresh, for devices that have been trained (R455). -/
def memSelfRefresh (d : Nat) (s : State) : State :=
  if s.memTrained.contains d then wr (R.MEMC.MSTAT_STATE d) 3 s else s

/-- The MEMC domain returns: self-refresh is left without retraining. -/
def memWake (d : Nat) (s : State) : State :=
  if s.memTrained.contains d then
    wr (R.MEMC.MSTAT_FITTED d) (fittedUnits (rd (R.MEMC.MCFG_DENSITY d) s) (rd (R.MEMC.MCFG_RANKS d) s))
      (wr (R.MEMC.MSTAT_STATE d) 2 s)
  else s

/-- R458: the page-memory address of a BAR4 offset. -/
def aperture (off : Nat) (s : State) : Nat := (rd (R.MEMC.APER_BASE_BASE 0) s * 0x40000000 + off) % 0x8000000000

/-- R458: the completion of a read of `len` bytes. A refused one returns 0; an uncorrectable error poisons it. -/
def bar4Answer (len : Nat) (r : MemRes) (s : State) : State :=
  match r with
  | .ok bs => { s with resp := { bytes := bs } }
  | .refused => { s with resp := { bytes := List.replicate len 0 } }
  | .bad => { (freeBytes len s).2 with resp := { bytes := (freeBytes len s).1, poison := true } }

/-- BAR4_READ (R458): `ecc` says what the read finds in the block of its first byte: 1 a correctable error, 2 a fresh
uncorrectable one. -/
def execBar4Read (off len ecc : Nat) (s : State) : Host.Outcome State Fault Refusal :=
  let a := aperture off s
  let ok := memFault a len s == none
  let s1 := if ok && ecc == 1 then corrected (memDie a) s
    else if ok && ecc == 2 then { s with badBlocks := if s.badBlocks.contains (a / 32) then s.badBlocks else (a / 32) :: s.badBlocks }
    else s
  let r := agentRead agBar4 a len s1
  .next (bar4Answer len r.1 r.2)

/-- The bytes of a write whose enables are set, at their addresses. -/
def putEnabled : Nat → List Byte → List Bool → State → State
  | a, b :: bs, e :: es, s => putEnabled (a + 1) bs es (if e then memPut a b s else s)
  | _, _, _, s => s

/-- The blocks of a range. -/
def blocksOf (a n : Nat) : List Nat := if n = 0 then [] else (List.range ((a + n - 1) / 32 - a / 32 + 1)).map (· + a / 32)

/-- Whether every byte of block `b` is enabled in a write of `en.length` bytes at `a`. -/
def blockWhole (a : Nat) (en : List Bool) (b : Nat) : Bool :=
  decide (a ≤ 32 * b) && decide (32 * b + 32 ≤ a + en.length) && ((en.drop (32 * b - a)).take 32).all id

/-- R460, R462: enabled bytes are stored; a whole block ends an error; a partial block whose read step finds an error (`ue`: a
fresh one) is stored as uncorrectable, and that read step is never reported. -/
def bar4Store (a : Nat) (bytes : List Byte) (en : List Bool) (ue : Bool) (s : State) : State :=
  let bl := blocksOf a bytes.length
  let kept := s.badBlocks.filter (fun b => !(bl.contains b && blockWhole a en b))
  let fresh := if ue then bl.filter (fun b => !blockWhole a en b && !kept.contains b) else []
  putEnabled a bytes en { s with badBlocks := fresh ++ kept }

/-- R458: a write that memory refuses (`refusal`) is dropped and recorded; another is stored. -/
def bar4Put (refusal : Option Nat) (a : Nat) (bytes : List Byte) (en : List Bool) (ue : Bool) (s : State) : State :=
  match refusal with
  | some k => memErrRec k agBar4 a s
  | none => bar4Store a bytes en ue s

/-- BAR4_WRITE (R458). -/
def execBar4Write (off : Nat) (bytes : List Byte) (en : List Bool) (ue : Bool) (s : State) :
    Host.Outcome State Fault Refusal :=
  let a := aperture off s
  .next (bar4Put (memFault a bytes.length s) a bytes en ue s)

def scrubOf (d : Nat) (s : State) : Scrub := mapGet (fun _ => {}) s.scrubs d
def setScrub (d : Nat) (v : Scrub) (s : State) : State := { s with scrubs := mapSet (fun _ => {}) s.scrubs d v }

/-- SCRUB_READ (R463): the scrubber reads the next block of its pass. `res`: 0 sound, 1 a correctable error, 2 a fresh
uncorrectable one. Outside SCRUB_CFG.EN, readiness and undeferred background work nothing is read. -/
def execScrubRead (d res : Nat) (s : State) : Host.Outcome State Fault Refusal :=
  if memReady d s ∧ flag (R.MEMC.SCRUB_CFG_EN d) s ∧ !backgroundDeferred d s ∧ fittedBytes d s ≠ 0 then
    let c := scrubOf d s
    let b := (d * 0x1000000000 + 32 * c.pos) / 32
    let s1 := if res = 1 then corrected d s
      else if res = 2 ∨ s.badBlocks.contains b then
        uncorrectable agScrub b { s with badBlocks := if s.badBlocks.contains b then s.badBlocks else b :: s.badBlocks }
      else s
    let lapsed := rd (R.MEMC.SCRUB_CFG_INTERVAL d) s1 * 3600000000000 < s1.now - c.start
    let s2 := if lapsed ∧ !c.late then evt d 0x38 2 (wr (R.MEMC.SCRUB_STAT_LATE d) 1 s1) else s1
    if 32 * (c.pos + 1) < fittedBytes d s2 then
      .next (setScrub d { c with pos := c.pos + 1, late := c.late || decide lapsed } s2)
    else .next (setScrub d { pos := 0, start := s2.now, late := false } (bump (R.MEMC.SCRUB_STAT_PASSES d) s2))
  else .next s

end Sys2Proof.Machine
end

