-- ==== Sys2Proof/Machine/Codec.lean ====
section
/-! DEFINITION. Compressor lanes and job rings (R137 to R153), and residency declarations (R74). -/

namespace Sys2Proof.Machine

def jobOf (d n : Nat) (s : State) : Option Job := mapGet (fun _ => none) s.jobs (8 * d + n)
def setJob (d n : Nat) (j : Option Job) (s : State) : State := { s with jobs := mapSet (fun _ => none) s.jobs (8 * d + n) j }

/-! ### Reading an ashlar (R112) -/

/-- The line count in the header of the ashlar that the index entry at an address names, as it stands. -/
def peekLinesAt (entry : Nat) (s : State) : Nat :=
  let a := memNum entry 5 s
  if memFault a 16 s = none then memNum (a + 4) 2 s else 0

/-- The ashlar of `len` bytes at an address is read and checked, its header before its payload: its header and lines, or why not: a
reason code of R77, 8 for a refused read and 9 for an uncorrectable error. -/
def readDbf (a len stride left : Nat) (s : State) : Except Nat (AshlarHeader × List Byte) × State :=
  match agentRead agCodec a 16 s with
  | (.refused, s1) => (.error 8, s1)
  | (.bad, s1) => (.error 9, s1)
  | (.ok hb, s1) =>
    let h := parseHeader hb
    match headerReason h stride left len with
    | 0 =>
      match (if h.payload = 0 then (.ok [], s1) else agentRead agCodec (a + 16) h.payload s1) with
      | (.refused, s2) => (.error 8, s2)
      | (.bad, s2) => (.error 9, s2)
      | (.ok p, s2) =>
        match checkPayload h stride p with
        | .ok r => (.ok (h, r), s2)
        | .error e => (.error e, s2)
    | e => (.error e, s1)

/-! ### Residency (R74) -/

/-- The queue slot that holds a frame in a state from LOADING to IMAGING (R95: a frame that has left cannot be named). -/
def slotOfFsn (fsn : Nat) (s : State) : Option Nat :=
  (List.range 64).find? (fun i =>
    let x := slotOf i s
    decide (1 ≤ x.st) && decide (x.st ≤ 5) && !x.left && (word (0x700000 + 256 * i) s).toNat == fsn)

/-- Ashlars 0 to n − 1, and single ones, put together: the count and the rest above it. -/
def absorb : Nat → Nat → List Nat → Nat × List Nat
  | 0, n, l => (n, l)
  | fuel + 1, n, l => if l.contains n then absorb fuel (n + 1) (l.filter (fun x => x != n)) else (n, l.filter (fun x => decide (n < x)))

/-- A declaration that ashlars 0 to `count` − 1 of a plane on die `d` are resident; a lower count than before is ignored. -/
def declareResident (d fsn l count : Nat) (s : State) : State :=
  let k := 2 * d + l
  let inQueue := match slotOfFsn fsn s with
    | some i => if (planeOf i k s).got then some i else none
    | none => none
  match inQueue with
  | some i =>
    let p := planeOf i k s
    let c := absorb p.resSet.length (Nat.max p.resCount count) p.resSet
    setPlane i k { p with resCount := c.1, resSet := c.2 } s
  | none =>
    match s.decls.find? (fun e => e.fsn == fsn && e.station == k) with
    | some e => { s with decls := s.decls.map (fun x => if x.fsn = fsn ∧ x.station = k then { x with count := Nat.max e.count count } else x) }
    | none => { s with decls := s.decls ++ [⟨fsn, k, count, []⟩] }

/-! ### Rings -/

def ringKey (d : Nat) (bg : Bool) : Nat := 2 * d + b2n bg

/-- The BAR0 offsets of a ring's descriptor and completion slots (R137). -/
def jobDescAddr (d : Nat) (bg : Bool) (i : Nat) : Nat := 0x1000000 * d + (if bg then 0x302000 else 0x300000) + 64 * i
def jobDoneAddr (d : Nat) (bg : Bool) (i : Nat) : Nat := 0x1000000 * d + (if bg then 0x305000 else 0x304000) + 32 * i

def headLoc (d : Nat) (bg : Bool) : Loc := if bg then R.CODEC.RING_B_HEAD_IDX d else R.CODEC.RING_F_HEAD_IDX d
def tailLoc (d : Nat) (bg : Bool) : Loc := if bg then R.CODEC.RING_B_TAIL_IDX d else R.CODEC.RING_F_TAIL_IDX d

def jobNextOf (d : Nat) (bg : Bool) (s : State) : Nat := mapGet (fun _ => 0) s.jobNext (ringKey d bg)
def setJobNext (d : Nat) (bg : Bool) (i : Nat) (s : State) : State :=
  { s with jobNext := mapSet (fun _ => 0) s.jobNext (ringKey d bg) i }

/-- TAIL moves over ended slots in ring order (R137); a slot that ended before it was started is not started any more. -/
def advanceTail (d : Nat) (bg : Bool) : Nat → State → State
  | 0, s => s
  | fuel + 1, s =>
    let t := rd (tailLoc d bg) s
    let key := ringKey d bg * 128 + t
    if t ≠ rd (headLoc d bg) s ∧ s.jobEnded.contains key then
      let s1 := { s with jobEnded := s.jobEnded.filter (· != key) }
      let s2 := if jobNextOf d bg s1 = t then setJobNext d bg ((t + 1) % 128) s1 else s1
      advanceTail d bg fuel (wr (tailLoc d bg) ((t + 1) % 128) s2)
    else s

/-- R151: a job ends: its completion record with VALID last, the events, JOBS_DONE and TAIL. -/
def completeJob (d : Nat) (bg : Bool) (slot status tag done lines bytes fail reason : Nat) (s : State) : State :=
  let a := jobDoneAddr d bg slot
  let s1 := putWord (a + 4) (BitVec.ofNat 32 tag) (putWord a (BitVec.ofNat 32 status) s)
  let s2 := putWord (a + 12) (BitVec.ofNat 32 lines) (putWord (a + 8) (BitVec.ofNat 32 done) s1)
  let s3 := putWord (a + 20) (BitVec.ofNat 32 (bytes / 0x100000000)) (putWord (a + 16) (BitVec.ofNat 32 bytes) s2)
  let s4 := putWord (a + 28) (BitVec.ofNat 32 (fail % 65536 + 0x10000000 * reason)) (putWord (a + 24) (BitVec.ofNat 32 (stime d s)) s3)
  let s5 := putWord a (BitVec.ofNat 32 (status + 256)) s4
  let s6 := wr (R.CODEC.JOBS_DONE_COUNT d) (rd (R.CODEC.JOBS_DONE_COUNT d) s5 + 1) s5
  let s7 := evtMask d 0x40 ((if bg then 2 else 1) + (if status = 0 then 0 else 4)) s6
  advanceTail d bg 128 { s7 with jobEnded := (ringKey d bg * 128 + slot) :: s7.jobEnded }

/-! ### Descriptors (R139, R140) -/

structure JobDesc where
  op : Nat
  level : Nat
  filter : Nat
  a : Nat
  flags : Nat
  course : Nat
  stride : Nat
  count : Nat
  skip : Nat
  first : Nat
  src : Nat
  bufs : Nat
  index : Nat
  base : Nat
  fsn : Nat
  station : Nat
  tag : Nat
  reserved : Bool
  deriving DecidableEq, Repr

def parseJob (b : List Byte) : JobDesc :=
  ⟨fieldLe b 0 1, fieldLe b 1 1, fieldLe b 2 1, fieldLe b 3 1, fieldLe b 4 1, fieldLe b 5 1, 8 * fieldLe b 6 2, fieldLe b 8 4,
    fieldLe b 12 2, fieldLe b 14 2, fieldLe b 16 8, fieldLe b 24 8, fieldLe b 32 8, fieldLe b 40 8, fieldLe b 48 4,
    fieldLe b 52 1, fieldLe b 56 4, fieldLe b 53 3 != 0 || fieldLe b 60 4 != 0⟩

def JobDesc.placed (j : JobDesc) : Bool := testBit j.flags 0
def JobDesc.align64 (j : JobDesc) : Bool := testBit j.flags 1
def JobDesc.writeIndex (j : JobDesc) : Bool := testBit j.flags 2
def JobDesc.declare (j : JobDesc) : Bool := testBit j.flags 3

/-- The output form: FORM 0 is CFG.CARRY_DEF's. -/
def jobCarry (d : Nat) (j : JobDesc) (s : State) : Bool :=
  match j.flags / 16 % 4 with
  | 0 => flag (R.CODEC.CFG_CARRY_DEF d) s
  | 1 => false
  | _ => true

/-- R139, R140: the rules a descriptor must keep. An address on another die is met when it is used (R151). -/
def jobOk (d : Nat) (bg : Bool) (j : JobDesc) (s : State) : Bool :=
  !j.reserved && decide (j.flags < 64) && j.flags / 16 % 4 != 3 && decide (j.src < 2 ^ 39) && decide (j.bufs < 2 ^ 39) &&
    decide (j.index < 2 ^ 39) &&
  match j.op with
  | 1 =>
    (if bg then decide (1 ≤ j.level) && decide (j.level ≤ 9) else j.level == 0) &&
    (jobCarry d j s || decide (j.filter ≤ 2)) && decide (1 ≤ j.a) && decide (j.a ≤ 64) &&
    (j.course == 64 || j.course == 32) && j.stride != 0 && decide (Nat.min (Nat.min j.a j.course) j.count * j.stride ≤ 262144) &&
    (!j.declare || (j.placed && j.writeIndex && decide (j.station ≤ 1)))
  | 2 => !bg && j.flags % 16 == 0 && j.stride != 0 && (j.course == 64 || j.course == 32)
  | _ => false

/-- Ashlars in a course, in the whole job, and where ashlar `i` lies: its first line and its lines. -/
def jobPerCourse (j : JobDesc) : Nat := ceilDiv j.course j.a
def jobTotal (j : JobDesc) : Nat :=
  if j.op = 2 then j.count else j.count / j.course * jobPerCourse j + ceilDiv (j.count % j.course) j.a
def jobPart (j : JobDesc) (i : Nat) : Nat × Nat :=
  let c := i / jobPerCourse j
  let first := c * j.course + i % jobPerCourse j * j.a
  (first, Nat.min j.a (Nat.min ((c + 1) * j.course) j.count - first))

/-! ### Output placement (R141, R145, R146) -/

/-- The 16 bytes of a buffer-list entry: address, length, END. -/
def parseBuf (b : List Byte) : Nat × Nat × Bool := (fieldLe b 0 8, fieldLe b 8 4, testBit (fieldLe b 12 4) 0)

/-- A buffer-list entry is read; an error is the status of R151. -/
def bufEntry (d list i : Nat) (s : State) : Except Nat (Nat × Nat × Bool) × State :=
  if memDie (list + 16 * i) ≠ d then (.error 3, s)
  else match agentRead agCodec (list + 16 * i) 16 s with
    | (.ok b, s1) => (.ok (parseBuf b), s1)
    | (.refused, s1) => (.error 3, s1)
    | (.bad, s1) => (.error 4, s1)

/-- More entries than a buffer list can have. -/
def listBound (d : Nat) (s : State) : Nat := fittedBytes d s / 16 + 2

/-- Where `n` stream bytes go from (entry, used): the pieces, and the place after them; or the status of R151, 1 out of buffer. -/
def streamPlaces (d list : Nat) : Nat → (buf pos n : Nat) → State → Except Nat (List (Nat × Nat) × Nat × Nat) × State
  | 0, _, _, _, s => (.error 1, s)
  | fuel + 1, buf, pos, n, s =>
    match bufEntry d list buf s with
    | (.error e, s1) => (.error e, s1)
    | (.ok e, s1) =>
      let room := e.2.1 - pos
      if n ≤ room then (.ok ([(e.1 + pos, n)], buf, pos + n), s1)
      else if e.2.1 = 0 ∨ e.2.2 then (.error 1, s1)
      else match streamPlaces d list fuel (buf + 1) 0 (n - room) s1 with
        | (.ok r, s2) => (.ok ((e.1 + pos, room) :: r.1, r.2), s2)
        | (.error x, s2) => (.error x, s2)

/-- Where `n` bytes lie whole in one buffer; or the status of R151. -/
def wholePlace (d list : Nat) (align : Bool) : Nat → (buf pos n : Nat) → State → Except Nat (List (Nat × Nat) × Nat × Nat) × State
  | 0, _, _, _, s => (.error 1, s)
  | fuel + 1, buf, pos, n, s =>
    match bufEntry d list buf s with
    | (.error e, s1) => (.error e, s1)
    | (.ok e, s1) =>
      let p := if align then ceilDiv (e.1 + pos) 64 * 64 - e.1 else pos
      if e.2.1 ≠ 0 ∧ p + n ≤ e.2.1 then (.ok ([(e.1 + p, n)], buf, p + n), s1)
      else if e.2.1 = 0 ∨ e.2.2 then (.error 1, s1)
      else wholePlace d list align fuel (buf + 1) 0 n s1

/-- Bytes are written to the job's own die; false: outside its fitted memory. -/
def jobPut (d a : Nat) (bs : List Byte) (s : State) : Bool × State :=
  if memDie a ≠ d then (false, s) else agentWrite agCodec a bs s

/-- The bytes of an output written to its pieces; false: outside fitted memory. -/
def writePieces (d : Nat) : List (Nat × Nat) → List Byte → State → Bool × State
  | [], _, s => (true, s)
  | (a, n) :: t, bs, s =>
    if n = 0 then writePieces d t bs s
    else match jobPut d a (bs.take n) s with
      | (true, s1) => writePieces d t (bs.drop n) s1
      | (false, s1) => (false, s1)

/-- R146: the buffer bytes beyond BYTES are undefined. -/
def buffersUndefined (d list : Nat) : Nat → (buf pos : Nat) → State → State
  | 0, _, _, s => s
  | fuel + 1, buf, pos, s =>
    if memDie (list + 16 * buf) ≠ d ∨ memFault (list + 16 * buf) 16 s ≠ none then s
    else
      let e := parseBuf (memRead (list + 16 * buf) 16 s)
      if e.2.1 = 0 ∨ memDie e.1 ≠ d ∨ memFault e.1 e.2.1 s ≠ none then s
      else
        let r := freeBytes (e.2.1 - pos) s
        let s1 := memWrite (e.1 + pos) r.1 r.2
        if e.2.2 then s1 else buffersUndefined d list fuel (buf + 1) 0 s1

/-- A lane's job ends. A job that does not end with status 0 leaves the buffers beyond BYTES undefined. -/
def endJob (d n status fail reason : Nat) (s : State) : State :=
  match jobOf d n s with
  | none => s
  | some j =>
    let q := parseJob j.desc
    let s1 := if status = 0 ∨ status = 2 then s else buffersUndefined d q.bufs (listBound d s) j.buf j.pos s
    completeJob d j.bg j.ring status q.tag j.done j.lines (q.base + j.bytes) fail reason (setJob d n none s1)

/-! ### Commands -/

/-- The lines already complete when a job resumes at SKIP. An EXPAND job takes those of the ashlars it skips from their headers
(DEDUCED, log 150). -/
def linesBefore (q : JobDesc) (s : State) : Nat :=
  if q.skip = 0 then 0
  else if q.op = 2 then ((List.range q.skip).map (fun i => peekLinesAt (q.src + 8 * i) s)).sum
  else let p := jobPart q (q.skip - 1); p.1 + p.2

/-- The next ring slot that waits to be started; slots ended while queued are passed over. -/
def nextQueued (d : Nat) (bg : Bool) (s : State) : Nat → Nat → Option Nat
  | 0, _ => none
  | fuel + 1, i =>
    if i = rd (headLoc d bg) s then none
    else if s.jobEnded.contains (ringKey d bg * 128 + i) then nextQueued d bg s fuel ((i + 1) % 128)
    else some i

/-- Background jobs running on a die. -/
def bgRunning (d : Nat) (s : State) : Nat :=
  (List.range 8).countP (fun n => match jobOf d n s with | some j => j.bg | none => false)

/-- The job a free lane takes (R138): the ring and its slot. -/
def pickJob (d : Nat) (s : State) : Option (Bool × Nat) :=
  match nextQueued d false s 128 (jobNextOf d false s) with
  | some i => some (false, i)
  | none =>
    if bgRunning d s < rd (R.CODEC.CFG_BG_LANES d) s ∧ !backgroundDeferred d s then
      (nextQueued d true s 128 (jobNextOf d true s)).map (fun i => (true, i))
    else none

/-- JOB_START (R138 to R140, R147): a free lane copies the next descriptor; a bad one ends at once with status 2, and one
with nothing left to do with status 0. -/
def execJobStart (d n : Nat) (s : State) : Host.Outcome State Fault Refusal :=
  if blockUp d 0x40 s ∧ n < 8 ∧ (jobOf d n s).isNone ∧ !isFenced (.comp d n) s then
    match pickJob d s with
    | none => .next s
    | some (bg, i) =>
      let b := wordBytes (jobDescAddr d bg i) 16 s
      let q := parseJob b
      let j : Job := ⟨bg, i, b, q.skip, linesBefore q s, 0, 0, 0, none⟩
      let s1 := setJob d n (some j) (setJobNext d bg ((i + 1) % 128) s)
      .next (if !jobOk d bg q s then endJob d n 2 0 0 s1
        else if jobTotal q ≤ q.skip then endJob d n 0 0 0 s1 else s1)
  else .next s

/-- Bytes of a carry-mode stream before a job's next record. A resumed job takes its stream base to count from the start of the
stream (DESIGN CHOICE, log 151). -/
def streamOff (q : JobDesc) (j : Job) : Nat := (if q.skip = 0 then 0 else q.base) + j.bytes

/-- Where a carry-mode stream starts, as its index entry names it: the address of its first byte, or its stream base. The address of
a stream that another job began is open (log 151). -/
def streamStart (q : JobDesc) (j : Job) (s : State) : Nat × State :=
  if q.skip = 0 then (if q.placed then j.first.getD 0 else q.base, s)
  else if q.placed then drawFree s else (0, s)

/-- The declaration of a job that has done `done` ashlars (R149). -/
def jobDeclare (d : Nat) (q : JobDesc) (done : Nat) (s : State) : State :=
  if q.op = 1 ∧ q.declare then declareResident d q.fsn q.station (q.first + done) s else s

/-- The last record of a carry-form job is written: the plane's index entry, then the declaration, then the end (R144, R149). -/
def carryJobEnd (d n : Nat) (j : Job) (q : JobDesc) (s : State) : State :=
  let r := if q.writeIndex then
      let a := streamStart q j s
      jobPut d q.index (leBytes 5 a.1 ++ leBytes 3 (streamOff q j / 64)) a.2
    else (true, s)
  if r.1 then endJob d n 0 0 0 (jobDeclare d q j.done r.2) else endJob d n 3 0 0 r.2

/-- The index of the ashlar a job works on, as a completion record names it (R151). -/
def jobIndex (q : JobDesc) (j : Job) : Nat := if q.op = 1 then q.first + j.done else j.done

/-- A placed or streamed output with its index entry and declaration; a status when it cannot be written. -/
def placeOutput (d n : Nat) (j : Job) (q : JobDesc) (lines : Nat) (out : List Byte) (carry : Bool) (s : State) : State :=
  match (if q.placed then wholePlace d q.bufs q.align64 (listBound d s) j.buf j.pos out.length s
    else streamPlaces d q.bufs (listBound d s) j.buf j.pos out.length s) with
  | (.error e, s0) => endJob d n e (if e = 4 then jobIndex q j else 0) 0 s0
  | (.ok (ps, buf, pos), s0) =>
    match writePieces d ps out s0 with
    | (false, s1) => endJob d n 3 0 0 s1
    | (true, s1) =>
      let at0 := (ps.headD (0, 0)).1
      let addr := if q.placed then at0 else q.base + j.bytes
      let r := if q.op = 1 ∧ q.writeIndex ∧ !carry then
          jobPut d (q.index + 8 * j.done) (leBytes 5 addr ++ leBytes 3 out.length) s1 else (true, s1)
      if !r.1 then endJob d n 3 0 0 r.2
      else
        let j1 : Job := { j with
          done := j.done + 1, lines := j.lines + lines, bytes := j.bytes + out.length, buf := buf, pos := pos
          first := some (j.first.getD at0) }
        let s2 := setJob d n (some j1) r.2
        let s3 := if carry then s2 else jobDeclare d q j1.done s2
        if j1.done < jobTotal q then s3 else if carry then carryJobEnd d n j1 q s3 else endJob d n 0 0 0 s3

/-- The history that a carry-form record carries on (R148): the last 32,768 source bytes before it. -/
def carryHistory (q : JobDesc) (first : Nat) (s : State) : List Byte :=
  let n := Nat.min 32768 (first * q.stride)
  memRead (q.src + first * q.stride - n) n s

/-- JOB_ASHLAR_DONE (R143 to R150): the lane compresses or expands its next ashlar or record. -/
def execJobAshlarDone (d n : Nat) (s : State) : Host.Outcome State Fault Refusal :=
  match jobOf d n s with
  | none => .next s
  | some j =>
    if !blockUp d 0x40 s || isFenced (.comp d n) s then .next s
    else
      let q := parseJob j.desc
      if q.op = 1 then
        let p := jobPart q j.done
        if memDie (q.src + p.1 * q.stride) ≠ d then .next (endJob d n 3 0 0 s)
        else match agentRead agCodec (q.src + p.1 * q.stride) (p.2 * q.stride) s with
        | (.refused, s1) => .next (endJob d n 3 0 0 s1)
        | (.bad, s1) => .next (endJob d n 4 (jobIndex q j) 0 s1)
        | (.ok raw, s1) =>
          if jobCarry d q s then
            let last := decide (jobTotal q ≤ j.done + 1)
            let data := compressRecord q.level (carryHistory q p.1 s1) raw last
            let rec0 := leBytes 4 data.length ++ data
            let n0 := streamOff q j
            let padTo := ceilDiv (n0 + rec0.length) 64 * 64 - n0
            let out := if last then rec0 ++ List.replicate (padTo - rec0.length) 0 else rec0
            .next (placeOutput d n j q p.2 out true s1)
          else .next (placeOutput d n j q p.2 (compressAshlar q.level q.filter p.2 q.stride raw) false s1)
      else if memDie (q.src + 8 * j.done) ≠ d then .next (endJob d n 3 0 0 s)
      else
        match agentRead agCodec (q.src + 8 * j.done) 8 s with
        | (.refused, s1) => .next (endJob d n 5 j.done 5 s1)
        | (.bad, s1) => .next (endJob d n 4 j.done 0 s1)
        | (.ok e, s1) =>
          let a := fieldLe e 0 5
          let len := fieldLe e 5 3
          if len < 16 ∨ memDie a ≠ d ∨ memFault a len s1 = some 1 then .next (endJob d n 5 j.done 5 s1)
          else
            match readDbf a len q.stride (q.course - j.lines % q.course) s1 with
            | (.error 9, s2) => .next (endJob d n 4 j.done 0 s2)
            | (.error e, s2) => .next (endJob d n 5 j.done e s2)
            | (.ok (h, r), s2) => .next (placeOutput d n j q h.lines r false s2)

/-- The lanes whose jobs carry a tag. -/
def abortRunning (d tag : Nat) : List Nat → State → State
  | [], s => s
  | n :: t, s =>
    abortRunning d tag t
      (match jobOf d n s with
       | some j => if (parseJob j.desc).tag = tag then endJob d n 6 0 0 s else s
       | none => s)

/-- The queued slots of a ring whose descriptors carry a tag end with status 6. -/
def abortQueued (d tag : Nat) (bg : Bool) : List Nat → State → State
  | [], s => s
  | o :: t, s =>
    let i := (jobNextOf d bg s + o) % 128
    let queued := (List.range (o + 1)).all (fun x => (jobNextOf d bg s + x) % 128 != rd (headLoc d bg) s)
    let q := parseJob (wordBytes (jobDescAddr d bg i) 16 s)
    abortQueued d tag bg t
      (if queued && !s.jobEnded.contains (ringKey d bg * 128 + i) && q.tag == tag then
        completeJob d bg i 6 tag q.skip (linesBefore q s) q.base 0 0 s else s)

/-- R152: JOB_ABORT ends every queued or running job with the tag. -/
def jobAbort (d tag : Nat) (s : State) : State :=
  abortQueued d tag true (List.range 128) (abortQueued d tag false (List.range 128) (abortRunning d tag (List.range 8) s))

/-- A compressor lane is fenced: its job ends with status 7 (R153), and CODEC.EVT_STAT bit 3 is set (R154). -/
def compFenced (d n : Nat) (s : State) : State := endJob d n 7 0 0 (evt d 0x40 3 s)

end Sys2Proof.Machine
end

