-- ==== Sys2Proof/Machine/Counters.lean ====
section
/-! DEFINITION. Position counters and their positions (R329 to R333). -/

namespace Sys2Proof.Machine

def counterOf (d c : Nat) (s : State) : PosCounter := mapGet (fun _ => {}) s.counters (8 * d + c)
def setCounter (d c : Nat) (v : PosCounter) (s : State) : State :=
  { s with counters := mapSet (fun _ => {}) s.counters (8 * d + c) v }

def encoderOf (d e : Nat) (s : State) : Encoder := mapGet (fun _ => {}) s.encoders (8 * d + e)
def setEncoder (d e : Nat) (v : Encoder) (s : State) : State :=
  { s with encoders := mapSet (fun _ => {}) s.encoders (8 * d + e) v }

def edgesOf (d e : Nat) (s : State) : Option Nat × Option Nat := mapGet (fun _ => (none, none)) s.encEdges (8 * d + e)

/-- The filtered levels of input `e` change now (R330). -/
def noteEdges (d e : Nat) (a b : Bool) (s : State) : State :=
  let x := edgesOf d e s
  let y := (if a then some s.now else x.1, if b then some s.now else x.2)
  { s with encEdges := mapSet (fun _ => (none, none)) s.encEdges (8 * d + e) y }

/-- The other of A and B has changed less than `filt` ns before the one that changes now (R330). -/
def edgeNear (d e filt : Nat) (a b : Bool) (s : State) : Bool :=
  let near (t : Option Nat) : Bool := match t with | some x => decide (s.now < x + filt) | none => false
  (a && near (edgesOf d e s).2) || (b && near (edgesOf d e s).1)

def two48 : Nat := 281474976710656
def two56 : Nat := 72057594037927936

/-- p(t) of R331, in 1/256 count modulo 2^56, after a step at `time` that made the count. -/
def posFrom (time count interval : Nat) (fine : Bool) (t : Nat) : Nat :=
  if fine ∧ interval ≠ 0 then 256 * count + Nat.min 255 (256 * (t - time) / interval) else 256 * count

def PosCounter.fine (c : PosCounter) : Bool := c.up && c.steps == 2

/-- p(t) of R331 at the die counter value `t`, which may lie before the last step. -/
def PosCounter.posAt (c : PosCounter) (t : Nat) : Nat :=
  if c.time ≤ t then posFrom c.time c.count c.interval c.fine t
  else match c.past.find? (fun e => decide (e.1 ≤ t)) with
    | some e => posFrom e.1 e.2.1 e.2.2.1 e.2.2.2 t
    | none => 256 * c.count

/-- p now. -/
def posNow (d c : Nat) (s : State) : Nat := (counterOf d c s).posAt (counterC d s)

/-- R333: an upward position trigger at count X has passed when the count is `c`. -/
def passedUp (c x : Nat) : Bool := decide ((c + two48 - x % two48) % two48 < two48 / 2)
def passedDown (c x : Nat) : Bool := decide ((x + two48 - c % two48) % two48 < two48 / 2)

/-- R333 for a position in 1/256 count: the counter's position has passed it. -/
def passedFine (p x : Nat) : Bool := decide ((p + two56 - x % two56) % two56 < two56 / 2)

/-- R333: the delay after the step to ⌊X/256⌋ at which a position X in 1/256 count is reached, ns. -/
def fineDelay (x : Nat) (c : PosCounter) : Nat := x % 256 * c.interval / 256

/-- The longest filter that looks back at a position (R428), ns. -/
def filterReach : Nat := 256000

/-- Earlier steps, down to the last one before a time. -/
def prunePast (t : Nat) : List (Nat × Nat × Nat × Bool) → List (Nat × Nat × Nat × Bool)
  | [] => []
  | e :: l => if e.1 ≤ t then [e] else e :: prunePast t l

/-- One step of a counter at time `t` (R331). -/
def PosCounter.step (c : PosCounter) (up : Bool) (t : Nat) : PosCounter :=
  { c with
    past := prunePast (t - filterReach) ((c.time, c.count, c.interval, c.fine) :: c.past)
    count := (if up then c.count + 1 else c.count + two48 - 1) % two48
    interval := if c.steps = 0 then 0 else t - c.time
    time := t
    steps := Nat.min 2 (c.steps + 1)
    up := up }

/-- The steps that a change of an encoder's levels makes in a decoding mode (R329): 0 none, 1 up, 2 down, 3 an error. -/
def decodeStep (mode : Nat) (a b a' b' : Bool) : Nat :=
  match mode with
  | 1 =>
    if a != a' && b != b' then 3
    else if a != a' then (if a' != b then 1 else 2)
    else if b != b' then (if a == b' then 1 else 2)
    else 0
  | 2 =>
    if a != a' && b != b' then 3
    else if a != a' && !b then (if a' then 1 else 2)
    else 0
  | 3 => if !a && a' then (if b' then 2 else 1) else 0
  | _ => 0

end Sys2Proof.Machine
end

