-- ==== Sys2Proof/Machine/Foc.lean ====
section
/-! DEFINITION. Motor channels and motor buses (R377 to R397). Quantities whose rounding the spec does not fix come from
`Config.rotated` (log 30). -/

namespace Sys2Proof.Machine

def focOf (d n : Nat) (s : State) : FocCh := mapGet (fun _ => {}) s.focs (4 * d + n)
def setFoc (d n : Nat) (c : FocCh) (s : State) : State := { s with focs := mapSet (fun _ => {}) s.focs (4 * d + n) c }
def busOf (d b : Nat) (s : State) : BusRun := mapGet (fun _ => {}) s.buses (4 * d + b)
def setBus (d b : Nat) (v : BusRun) (s : State) : State := { s with buses := mapSet (fun _ => {}) s.buses (4 * d + b) v }

def focState (d n : Nat) (s : State) : Nat := rd (R.FOC.STAT_STATE d n) s

/-- Saturation to Q1.15. -/
def sat16 (v : Int) : Int := clampInt (-32768) 32767 v
/-- Saturation of the accumulator (R402). -/
def sat40 (v : Int) : Int := clampInt (-549755813888) 549755813887 v
/-- Conversion of the accumulator to Q1.15 (R402). -/
def toQ15 (acc : Int) : Int := sat16 ((acc + 32768) / 65536)

/-- An open rounding saturated to Q1.15. -/
def rotQ (op : Nat) (args : List Int) : Int := sat16 (Config.rotated op args)

/-! ### States (R386) -/

/-- The channel enters a state: the events of R394, the time, and the bridge. -/
def focEnter (d n st : Nat) (s : State) : State :=
  let old := focState d n s
  let c := focOf d n s
  let s1 := setFoc d n { c with since := s.now, duties := if st ≤ 2 then none else c.duties, matched := 0, brakeOff := false } s
  let s2 := wr (R.FOC.STAT_STATE d n) st s1
  let s3 := if old = 6 ∧ st ≠ 6 then evt d 0x69 (4 + n) s2 else s2
  if st = 6 ∧ old ≠ 6 then evt d 0x69 n s3 else if st = 3 ∧ old ≠ 3 then evt d 0x69 (12 + n) s3 else s3

def focOff (d n : Nat) (s : State) : State :=
  if focState d n s = 0 then s
  else
    let s1 := focEnter d n 0 s
    let c := focOf d n s1
    wr (R.FOC.STAT_CLAMP d n) 0 (wr (R.FOC.STAT_OBS_OK d n) 0 (wr (R.FOC.STAT_LIMITED d n) 0
      (setFoc d n { c with intD := 0, intQ := 0, samples := 0, sumU := 0, sumV := 0, sumW := 0 } s1)))

def busTripped (d n : Nat) (s : State) : Bool := flag (R.BUS.BUS_STAT_TRIPPED d (rd (R.FOC.CFG0_BUS d n) s)) s

/-- The first row of R386. -/
def focMustStop (d n : Nat) (s : State) : Bool :=
  isFenced (.foc d n) s || isFenced (.bus d (rd (R.FOC.CFG0_BUS d n) s)) s || !flag (R.FOC.CTL_EN d n) s || busTripped d n s

/-- The start route of R386. -/
def focStart (d n : Nat) (s : State) : State :=
  let sense := rd (R.FOC.CFG1_SENSE d n) s
  if sense = 3 ∨ (sense = 2 ∧ !(focOf d n s).indexed) then focEnter d n 4 s else focEnter d n 6 s

/-- A channel is fenced by a fault of class U (R395). -/
def focFault (d n src : Nat) (s : State) : State :=
  let s1 := recordFault d 0x69 src false s
  if isFenced (.foc d n) s1 then s1 else focOff d n (addFence (.foc d n) s1)

/-! ### Angle (R384) -/

/-- The sector of a Hall code; codes 0 and 7 have none. -/
def hallSector (code : Nat) : Option Nat :=
  match code with
  | 1 => some 0 | 3 => some 1 | 2 => some 2 | 6 => some 3 | 4 => some 4 | 5 => some 5
  | _ => none

/-- A quotient whose rounding is open (log 33). -/
def openDiv (op : Nat) (n : Int) (m : Nat) : Int := n / m + (if n % m = 0 then 0 else Config.rotated op [n, m] % 2)

/-- Electrical angle of the Hall sensors: mid-sector, extrapolated by at most one sector. -/
def hallTheta (d n : Nat) (s : State) : Nat :=
  let sector := (hallSector (rd (R.FOC.STAT_HALL d n) s)).getD 0
  let speed := rdS (R.FOC.SPEED_SPEED d n) s
  let dt := match (focOf d n s).hallAt with
    | some t => counterC d s - t
    | none => 0
  let turn := openDiv 18 (speed * (rd (R.FOC.CFG0_POLES d n) s : Nat) * 65536 * (dt : Nat)) 960000000000
  ofSigned 16 ((10923 * sector + 5461 : Nat) + clampInt (-10923) 10923 turn)

/-- The angle of an encoder from its reference. -/
def encTheta (d n : Nat) (s : State) : Option Nat :=
  match (focOf d n s).ref with
  | none => none
  | some (c0, t0) =>
    let diff := toSigned 48 ((counterOf d (rd (R.FOC.CFG1_COUNTER d n) s) s).count + two48 - c0)
    let cpr := Nat.max 1 (rd (R.FOC.ENC_CPR_CPR d n) s)
    some (ofSigned 16 ((t0 : Int) + openDiv 19 ((rd (R.FOC.CFG0_POLES d n) s : Nat) * 65536 * diff) cpr))

def observerTheta (d n : Nat) (s : State) : Nat :=
  let c := focOf d n s
  ofSigned 16 (Config.rotated 6 [c.psiA, c.psiB])

/-- θ of the sample instant, with ANG_OFFS. -/
def focTheta (d n : Nat) (s : State) : Nat :=
  let base := match rd (R.FOC.CFG1_SENSE d n) s with
    | 0 => hallTheta d n s
    | 1 => (encTheta d n s).getD (hallTheta d n s)
    | 2 => (encTheta d n s).getD 0
    | _ => observerTheta d n s
  (base + rd (R.FOC.ANG_OFFS_OFFS d n) s) % 65536

/-- SPEED while the channel runs: from Hall intervals, from the counter, or from the observer; how it is rounded and
filtered is open (log 30). -/
def focSpeed (d n : Nat) (s : State) : Int :=
  let c := focOf d n s
  let poles : Int := (rd (R.FOC.CFG0_POLES d n) s : Nat)
  let k := counterOf d (rd (R.FOC.CFG1_COUNTER d n) s) s
  let now : Int := (counterC d s : Nat)
  toSigned 32 (ofSigned 32 (match rd (R.FOC.CFG1_SENSE d n) s with
    | 0 => Config.rotated 8 [poles, (c.hallInterval : Nat), b2n c.hallBack, now - ((c.hallAt.getD 0 : Nat) : Int)]
    | 3 => Config.rotated 10 [poles, c.psiA, c.psiB, (rd (R.FOC.CFG0_PERIOD d n) s : Nat)]
    | _ => Config.rotated 9 [(rd (R.FOC.ENC_CPR_CPR d n) s : Nat), (k.interval : Nat), b2n k.up, now - (k.time : Int)]))

def showSpeed (d n : Nat) (v : Int) (s : State) : State :=
  wr (R.FOC.STAT_DIR d n) (b2n (decide (v < 0))) (wrS (R.FOC.SPEED_SPEED d n) v s)

/-! ### One carrier period (R381 to R383) -/

/-- The currents of a sample in Q1.15 (R381), from offsets in 1/256 code. -/
def focCurrents (d n ia ib ic : Nat) (s : State) : Int × Int × Int :=
  let c := focOf d n s
  let pu (code off : Nat) : Int := toQ15 ((256 * (code : Int) - off) * 4096)
  (pu ia c.offU, pu ib c.offV, pu ic c.offW)

/-- The phase advance at a speed (R385). -/
def focAdvance (d n : Nat) (s : State) : Int :=
  let speed := rdS (R.FOC.SPEED_SPEED d n) s
  let step := rd (R.FOC.ADV_STEP_SPEED d n) s
  let entry (k : Nat) : Int := if k % 2 = 0 then rdS (R.FOC.ADV_LO d n (k / 2)) s else rdS (R.FOC.ADV_HI d n (k / 2)) s
  let mag := speed.natAbs
  let v := if 31 * step ≤ mag ∨ step = 0 then entry 31
    else
      let k := mag / step
      if mag % step = 0 then entry k else Config.rotated 12 [entry k, entry (k + 1), (mag % step : Nat), (step : Nat)]
  if speed < 0 then -v else v

/-- Δθ of R382 step 5. -/
def focDelta (d n : Nat) (s : State) : Int :=
  let x := rdS (R.FOC.SPEED_SPEED d n) s * (rd (R.FOC.CFG0_POLES d n) s : Nat) * (rd (R.FOC.CFG0_PERIOD d n) s : Nat)
  if 0 ≤ x then (2 * x + 1953125) / 3906250 else -((-2 * x + 1953125) / 3906250)

/-- The regenerative clamp on a demand (R391). -/
def clampDemand (d n : Nat) (id iq : Int) (s : State) : Int × Int :=
  if flag (R.BUS.BUS_STAT_CLAMP d (rd (R.FOC.CFG0_BUS d n) s)) s then
    let sp := rdS (R.FOC.SPEED_SPEED d n) s
    (0, if (iq < 0 ∧ 0 < sp) ∨ (0 < iq ∧ sp < 0) then 0 else iq)
  else (id, iq)

/-- A PI regulator: the output, and the integrator after the period (R382 step 4). -/
def piStep (kp ki err int : Int) : Int × Int := (toQ15 (sat40 (int + kp * err * 16)), sat40 (int + ki * err * 16))

/-- Steps 1 to 7 of R382 with given angle and demands; the angle at which the voltage applies is `thetaOut`. -/
def focControl (d n : Nat) (cur : Int × Int × Int) (theta thetaOut : Nat) (idRef iqRef : Int) (s : State) : State :=
  let c := focOf d n s
  let ia := cur.1
  let ib := rotQ 0 [cur.1, cur.2.1]
  let id := rotQ 1 [ia, ib, (theta : Nat)]
  let iq := rotQ 2 [ia, ib, (theta : Nat)]
  let dem := clampDemand d n idRef iqRef s
  let pd := piStep (rdS (R.FOC.CUR_KP_D d n) s) (rdS (R.FOC.CUR_KI_D d n) s) (sat16 (dem.1 - id)) c.intD
  let pq := piStep (rdS (R.FOC.CUR_KP_Q d n) s) (rdS (R.FOC.CUR_KI_Q d n) s) (sat16 (dem.2 - iq)) c.intQ
  let va := rotQ 3 [pd.1, pq.1, (thetaOut : Nat)]
  let vb := rotQ 4 [pd.1, pq.1, (thetaOut : Nat)]
  let vbus : Int := (8 * rd (R.BUS.BUS_STAT_V d (rd (R.FOC.CFG0_BUS d n) s)) s : Nat)
  let period : Int := (rd (R.FOC.CFG0_PERIOD d n) s : Nat)
  let room := period - 2 * ((rd (R.FOC.MIN_WIN_WIN d n) s + rd (R.FOC.CFG0_DEAD d n) s : Nat) : Int)
  let lim := if room < 0 then 0 else room
  let limited := decide (vbus * vbus * lim * lim < 3 * (va * va + vb * vb) * period * period)
  let va' := if limited then rotQ 13 [va, vb, vbus, lim, period] else va
  let vb' := if limited then rotQ 14 [va, vb, vbus, lim, period] else vb
  let duty (k : Nat) : Int := rotQ (20 + k) [va', vb', vbus]
  let dt : Int := period
  let c1 : FocCh := { c with
    intD := if limited then c.intD else pd.2
    intQ := if limited then c.intQ else pq.2
    vAlpha := va', vBeta := vb', iAlpha := ia, iBeta := ib
    psiA := Config.rotated 15 [c.psiA, c.vAlpha, ia, c.iAlpha, (rd (R.FOC.OBS_RL_RS d n) s : Nat), (rd (R.FOC.OBS_RL_LS d n) s : Nat), dt]
    psiB := Config.rotated 15 [c.psiB, c.vBeta, ib, c.iBeta, (rd (R.FOC.OBS_RL_RS d n) s : Nat), (rd (R.FOC.OBS_RL_LS d n) s : Nat), dt]
    duties := some [duty 0, duty 1, duty 2] }
  let began := limited && !flag (R.FOC.STAT_LIMITED d n) s
  let s1 := wrS (R.FOC.IDQ_IQ d n) iq (wrS (R.FOC.IDQ_ID d n) id (setFoc d n c1 s))
  let s2 := wr (R.FOC.ANGLE_MOD d n) (ofSigned 16 (Config.rotated 5 [va', vb', vbus])) (wr (R.FOC.ANGLE_THETA d n) theta s1)
  let s3 := wr (R.FOC.STAT_CLAMP d n) (rd (R.BUS.BUS_STAT_CLAMP d (rd (R.FOC.CFG0_BUS d n) s)) s)
    (wr (R.FOC.STAT_LIMITED d n) (b2n limited) s2)
  let s4 := if limited then bump (R.FOC.FCNT_LIMITED d n) s3 else s3
  if began then evt d 0x69 (8 + n) s4 else s4

/-- A period of OFFSET: the 256th sample gives the offsets (R381, R386). -/
def focOffsetPeriod (d n ia ib ic : Nat) (s : State) : State :=
  let c := focOf d n s
  let c1 : FocCh := { c with samples := c.samples + 1, sumU := c.sumU + ia, sumV := c.sumV + ib, sumW := c.sumW + ic }
  if c1.samples < 256 then setFoc d n c1 s
  else
    let s1 := setFoc d n { c1 with
      samples := 0, sumU := 0, sumV := 0, sumW := 0, offU := c1.sumU, offV := c1.sumV, offW := c1.sumW } s
    let far (sum : Nat) : Bool := decide (sum + 65536 < 524288) || decide (589824 < sum)
    if far c1.sumU || far c1.sumV || far c1.sumW then focFault d n (12 + n) s1
    else if flag (R.FOC.CFG1_START d n) s1 then focEnter d n 2 s1
    else focStart d n s1

/-- A period of BRAKE (R388). -/
def focBrakePeriod (d n : Nat) (cur : Int × Int × Int) (s : State) : State :=
  let c := focOf d n s
  let lim : Int := (rd (R.FOC.ILIM_BRAKE d n) s : Nat)
  let big (x : Int) (l : Int) : Bool := decide (l ≤ x.natAbs)
  let clamp := flag (R.BUS.BUS_STAT_CLAMP d (rd (R.FOC.CFG0_BUS d n) s)) s
  let exceeds := big cur.1 lim || big cur.2.1 lim || big cur.2.2 lim
  let stillHigh := big (2 * cur.1) lim || big (2 * cur.2.1) lim || big (2 * cur.2.2) lim
  let off := !clamp && (if c.brakeOff then stillHigh else exceeds)
  let ib := rotQ 0 [cur.1, cur.2.1]
  let speed := toSigned 32 (ofSigned 32 (Config.rotated 11 [c.iAlpha, c.iBeta, cur.1, ib, (rd (R.FOC.CFG0_PERIOD d n) s : Nat),
    (rd (R.FOC.CFG0_POLES d n) s : Nat)]))
  let s1 := setFoc d n { c with iAlpha := cur.1, iBeta := ib, brakeOff := off, duties := if off then none else some [0, 0, 0] } s
  let s2 := bump (R.FOC.FCNT_BRAKES d n) (showSpeed d n speed s1)
  if speed.natAbs ≤ rd (R.FOC.REV_THR_SPEED d n) s2 then focStart d n s2 else s2

/-- A period of OPEN (R386): the ramp, and the observer's agreement with it. -/
def focOpenPeriod (d n : Nat) (cur : Int × Int × Int) (s : State) : State :=
  let c := focOf d n s
  let period := rd (R.FOC.CFG0_PERIOD d n) s
  let speed := Config.rotated 16 [c.rampSpeed, (rd (R.FOC.OPEN_RATE_RATE d n) s : Nat), (period : Nat)]
  let angle := ofSigned 32 (Config.rotated 17 [(c.rampAngle : Nat), speed, (rd (R.FOC.CFG0_POLES d n) s : Nat), (period : Nat)])
  let th := angle / 65536 % 65536
  let gap := toSigned 16 (observerTheta d n s + 65536 - th)
  let ok := decide (gap.natAbs ≤ 4096) && decide ((rd (R.FOC.OBS_MIN_SPEED d n) s : Int) ≤ speed.natAbs)
  let s1 := setFoc d n { c with rampAngle := angle, rampSpeed := speed, matched := if ok then c.matched + 1 else 0 } s
  let s2 := focControl d n cur th th (rdS (R.FOC.ALIGN_I d n) s1) 0 (showSpeed d n speed s1)
  if ok ∧ 16 ≤ c.matched + 1 then focEnter d n 6 s2 else s2

/-- A period of RUN (R382). -/
def focRunPeriod (d n : Nat) (cur : Int × Int × Int) (s : State) : State :=
  let speed := focSpeed d n s
  let s1 := showSpeed d n speed s
  let obs := rd (R.FOC.OBS_MIN_SPEED d n) s1
  if rd (R.FOC.CFG1_SENSE d n) s1 = 3 ∧ 2 * speed.natAbs < obs then focFault d n (4 + n) s1
  else
    let s2 := wr (R.FOC.STAT_OBS_OK d n) (b2n (rd (R.FOC.CFG1_SENSE d n) s1 == 3 && decide (obs ≤ speed.natAbs))) s1
    let th := focTheta d n s2
    let out := ofSigned 16 ((th : Int) + focAdvance d n s2 + focDelta d n s2)
    let iq := if flag (R.FOC.CFG1_IQ_SRC d n) s2 then (focOf d n s2).iqLoop else rdS (R.FOC.CUR_REF_IQ d n) s2
    focControl d n cur th out (rdS (R.FOC.CUR_REF_ID d n) s2) iq s2

/-- FOC_PERIOD (R379 to R388): the samples of one carrier period, as 12-bit codes, and what the channel does with them. -/
def execFocPeriod (d n ia ib ic : Nat) (s : State) : Host.Outcome State Fault Refusal :=
  if !domainReady d 11 s || decide (4 ≤ n) then .next s
  else if focMustStop d n s then .next (focOff d n s)
  else
    let st := focState d n s
    if st = 0 then .next (focEnter d n 1 s)
    else if st = 1 then .next (focOffsetPeriod d n ia ib ic s)
    else
      let raw := focCurrents d n ia ib ic s
      let oc : Int := (rd (R.FOC.ILIM_OC d n) s : Nat)
      if oc ≤ raw.1.natAbs ∨ oc ≤ raw.2.1.natAbs ∨ oc ≤ raw.2.2.natAbs then .next (focFault d n n s)
      else
        let bad := decide (2048 < (raw.1 + raw.2.1 + raw.2.2).natAbs)
        let cur := if bad then (raw.1, raw.2.1, sat16 (-raw.1 - raw.2.1)) else raw
        let s1 := if bad then recordFault d 0x69 (16 + n) false s else s
        .next (match st with
          | 2 => s1
          | 3 => focBrakePeriod d n cur s1
          | 4 => focControl d n cur 0 0 (rdS (R.FOC.ALIGN_I d n) s1) 0 s1
          | 5 => focOpenPeriod d n cur s1
          | _ => focRunPeriod d n cur s1)

/-- HALL_TRANSITION (R384): the Hall sensors of a channel show a new code. Codes 0 and 7 are faults under every SENSE and in
every state (DEDUCED, log 171). -/
def execHallTransition (d n code : Nat) (s : State) : Host.Outcome State Fault Refusal :=
  if !domainReady d 11 s || decide (4 ≤ n) then .next s
  else
    let old := hallSector (rd (R.FOC.STAT_HALL d n) s)
    let s0 := wr (R.FOC.STAT_HALL d n) code s
    let sense := rd (R.FOC.CFG1_SENSE d n) s
    match hallSector code with
    | none => .next (focFault d n (4 + n) s0)
    | some sec =>
      if 2 ≤ sense then .next s0
      else
        let back := match old with
          | some o => decide ((sec + 1) % 6 = o)
          | none => false
        let edge := if back then 10923 * (sec + 1) % 65536 else 10923 * sec
        let c := focOf d n s0
        let t := counterC d s0
        let c1 : FocCh := { c with
          hallAt := some t, hallEdge := edge, hallBack := back, hallInterval := t - c.hallAt.getD t
          ref := if sense = 1 ∧ c.ref.isNone then
              some ((counterOf d (rd (R.FOC.CFG1_COUNTER d n) s0) s0).count, edge) else c.ref }
        let far := match encTheta d n s0 with
          | some th => sense == 1 && decide (65536 < 12 * (toSigned 16 (th + 65536 - edge)).natAbs)
          | none => false
        let s1 := setFoc d n c1 s0
        .next (if far then focFault d n (4 + n) s1 else s1)

/-- An index edge of the encoder of counter `k` (R384, SENSE 2). -/
def focIndex (d k : Nat) (s : State) : State :=
  (List.range 4).foldl (fun s n =>
    let c := focOf d n s
    if rd (R.FOC.CFG1_COUNTER d n) s = k ∧ rd (R.FOC.CFG1_SENSE d n) s = 2 ∧ !c.indexed then
      setFoc d n { c with indexed := true, ref := (encTheta d n s).map (fun th => ((counterOf d k s).count, th)) } s
    else s) s

/-- CATCH_END (R387): the measurement of a coasting rotor ends with a speed, an angle and the back-EMF. -/
def execCatchEnd (d n : Nat) (speed : Int) (theta : Nat) (vd vq : Int) (s : State) : Host.Outcome State Fault Refusal :=
  if focState d n s ≠ 2 ∨ s.now < (focOf d n s).since + 1000000 * rd (R.FOC.CATCH_CFG_TIME d n) s then .next s
  else
    let s1 := showSpeed d n speed s
    let c := focOf d n s1
    if speed.natAbs < rd (R.FOC.CATCH_MIN_SPEED d n) s1 then .next (focStart d n s1)
    else if 0 ≤ speed then
      if rd (R.FOC.CFG1_SENSE d n) s1 = 3 ∧ speed.natAbs < rd (R.FOC.OBS_MIN_SPEED d n) s1 then
        .next (focEnter d n 5 (setFoc d n { c with rampSpeed := speed, rampAngle := theta % 65536 * 65536 } s1))
      else .next (focEnter d n 6 (setFoc d n { c with intD := vd * 65536, intQ := vq * 65536 } s1))
    else if speed.natAbs ≤ rd (R.FOC.REV_THR_SPEED d n) s1 then .next (focStart d n s1)
    else .next (focEnter d n 3 s1)

/-- ALIGN_END (R386): ALIGN.T has elapsed. -/
def execAlignEnd (d n : Nat) (s : State) : Host.Outcome State Fault Refusal :=
  if focState d n s ≠ 4 ∨ s.now < (focOf d n s).since + 1000000 * rd (R.FOC.ALIGN_T d n) s then .next s
  else
    let c := focOf d n s
    if rd (R.FOC.CFG1_SENSE d n) s = 3 then
      .next (focEnter d n 5 (setFoc d n { c with rampAngle := 0, rampSpeed := 0 } s))
    else
      .next (focEnter d n 6 (setFoc d n { c with ref := some ((counterOf d (rd (R.FOC.CFG1_COUNTER d n) s) s).count, 0) } s))

/-- BRAKE_TIMEOUT (R386): BRAKE has lasted BRAKE_TMO; fault source 8 + n. -/
def execBrakeTimeout (d n : Nat) (s : State) : Host.Outcome State Fault Refusal :=
  if focState d n s ≠ 3 ∨ s.now < (focOf d n s).since + 1000000 * rd (R.FOC.CATCH_CFG_BRAKE_TMO d n) s then .next s
  else .next (focFault d n (8 + n) s)

/-! ### Buses (R389 to R393) -/

/-- The reading at or before a time. -/
def readingAt (l : List (Nat × Nat)) (t : Nat) : Option Nat := (l.find? (fun e => decide (e.1 ≤ t))).map (fun e => e.2)

/-- Readings newer than a time and the last one at or before it. -/
def pruneReadings (t : Nat) : List (Nat × Nat) → List (Nat × Nat)
  | [] => []
  | e :: l => if e.1 ≤ t then [e] else e :: pruneReadings t l

/-- The chopper's duty at a reading, as a fraction (R390): 0 or 1 in hysteresis. -/
def chopDuty (d b v : Nat) (s : State) : Nat × Nat :=
  let on := rd (R.BUS.CHOP_CFG_CH_ON d b) s
  let off := rd (R.BUS.CHOP_CFG_CH_OFF d b) s
  if on ≤ v then (1, 1)
  else if !flag (R.BUS.CHOP_CFG_MODE d b) s || !blockUp d 0x6A s then
    (if v < off then 0 else b2n (flag (R.BUS.BUS_STAT_CHOP d b) s), 1)
  else (v - off, on - off)

/-- A bus reading: BUS_STAT.V, BUS_PEAK, and the chopper, which works through every reset (R389, R390). -/
def busReading (d b v : Nat) (s : State) : State :=
  let r := busOf d b s
  let window := 1000 * rd (R.BUS.INEFF_TIME d b) s
  let s1 := wr (R.BUS.BUS_STAT_V d b) v s
  let s2 := if rd (R.BUS.BUS_PEAK_V d b) s1 < v then wr (R.BUS.BUS_PEAK_V d b) v s1 else s1
  let was := flag (R.BUS.BUS_STAT_CHOP d b) s
  let duty := chopDuty d b v s
  let on := decide (0 < duty.1)
  let full := on && duty.1 == duty.2
  let s3 := setBus d b {
      readings := (s.now, v) :: pruneReadings (s.now - window) r.readings
      chopSince := if full then some (r.chopSince.getD s.now) else none } s2
  let s4 := wr (R.BUS.BUS_STAT_CHOP d b) (b2n on) s3
  if on && !was then bump (R.BUS.BUS_CNT_CHOPS d b) s4 else s4

def busOn (d b : Nat) (s : State) : Bool := decide (d < s.dies) && decide (b < 4)

/-- CHOPPER_SWITCH (R389, R390): a reading at which the chopper may switch. -/
def execChopperSwitch (d b v : Nat) (s : State) : Host.Outcome State Fault Refusal :=
  if busOn d b s then .next (busReading d b v s) else .next s

/-- R391: the chopper is ineffective. -/
def chopIneffective (d b v : Nat) (s : State) : Bool :=
  let r := busOf d b s
  let window := 1000 * rd (R.BUS.INEFF_TIME d b) s
  decide (rd (R.BUS.VB_CFG_OV_REGEN d b) s ≤ v) &&
    (match r.chopSince with | some t => decide (t + window ≤ s.now) | none => false) &&
    (match readingAt r.readings (s.now - window) with
     | some v0 => decide (v0 + rd (R.BUS.INEFF_RISE d b) s ≤ v)
     | none => false)

/-- BUS_CLAMP (R391): at this reading the chopper is found ineffective; the regenerative clamp begins. -/
def execBusClamp (d b v : Nat) (s : State) : Host.Outcome State Fault Refusal :=
  if !busOn d b s then .next s
  else
    let s1 := busReading d b v s
    if blockUp d 0x6A s ∧ chopIneffective d b v s1 ∧ !flag (R.BUS.BUS_STAT_CLAMP d b) s ∧ v < rd (R.BUS.VB_CFG_OV_HARD d b) s then
      let s2 := wr (R.BUS.BUS_STAT_CHOP_BAD d b) 1 (wr (R.BUS.BUS_STAT_CLAMP d b) 1 s1)
      .next (recordFault d 0x6A b false (evt d 0x6A b (bump (R.BUS.BUS_CNT_CLAMPS d b) s2)))
    else .next s1

/-- BUS_CLAMP_END (R391): V has fallen below OV_REGEN − HYST. -/
def execBusClampEnd (d b v : Nat) (s : State) : Host.Outcome State Fault Refusal :=
  if !busOn d b s then .next s
  else
    let s1 := busReading d b v s
    if flag (R.BUS.BUS_STAT_CLAMP d b) s1 ∧ v + rd (R.BUS.UVH_HYST d b) s1 < rd (R.BUS.VB_CFG_OV_REGEN d b) s1 then
      .next (evt d 0x6A (4 + b) (wr (R.BUS.BUS_STAT_CLAMP d b) 0 s1))
    else .next s1

/-- The channels of a bus go to OFF. -/
def busChannelsOff (d b : Nat) (s : State) : State :=
  (List.range 4).foldl (fun s n => if rd (R.FOC.CFG0_BUS d n) s = b then focOff d n s else s) s

/-- BUS_TRIP (R392): V has reached OV_HARD; the group's safe state, through any reset. -/
def execBusTrip (d b v : Nat) (s : State) : Host.Outcome State Fault Refusal :=
  if !busOn d b s then .next s
  else
    let s1 := busReading d b v s
    if rd (R.BUS.VB_CFG_OV_HARD d b) s1 ≤ v ∧ !flag (R.BUS.BUS_STAT_TRIPPED d b) s1 then
      let s2 := wr (R.BUS.BUS_STAT_MBRK d b) 1 (wr (R.BUS.BUS_STAT_TRIPPED d b) 1 s1)
      .next (evt d 0x6A (8 + b) (recordFault d 0x6A (4 + b) false (addFence (.bus d b) (busChannelsOff d b s2))))
    else .next s1

/-- BUS_UNDERVOLTAGE (R389): V has fallen to UV_LIM. -/
def execBusUndervoltage (d b v : Nat) (s : State) : Host.Outcome State Fault Refusal :=
  if !busOn d b s then .next s
  else
    let s1 := busReading d b v s
    if v ≤ rd (R.BUS.UVH_UV_LIM d b) s1 then .next (evt d 0x6A (12 + b) s1) else .next s1

/-- The level of Dd_MBRKb after BUS_CTL has been written (R378, R392). -/
def busBrake (d b : Nat) (s : State) : State :=
  let released := flag (R.BUS.BUS_CTL_MBRK_REL d b) s && !flag (R.BUS.BUS_STAT_TRIPPED d b) s && !isFenced (.bus d b) s
  wr (R.BUS.BUS_STAT_MBRK d b) (b2n (!released)) s

/-! ### Output pins -/

/-- The high-side and low-side gates of a phase with a duty in 1/32,768, `t` cycles of 5 ns after the boundary of a period of
`period` cycles (R379): every turn-on waits `dead` cycles after the complementary turn-off. -/
def phaseGates (period dead t : Nat) (duty : Int) : Bool × Bool :=
  let rise := (32768 - duty) * period
  let fall := (32768 + duty) * period
  let now : Int := (65536 * t : Nat)
  let wait : Int := (65536 * dead : Nat)
  if duty ≤ 0 then (false, true)
  else (decide (rise + wait ≤ now) && decide (now < fall), decide (now < rise) || decide (fall + wait ≤ now))

/-- The gates of the three phases of a channel (R379, R386): all low while the bridge is off. -/
def focGates (d n t : Nat) (s : State) : List (Bool × Bool) :=
  match (focOf d n s).duties with
  | some l => l.map (phaseGates (rd (R.FOC.CFG0_PERIOD d n) s) (rd (R.FOC.CFG0_DEAD d n) s) t)
  | none => [(false, false), (false, false), (false, false)]

/-- The duty of Dd_CHOPb as a fraction (R390), and the level of Dd_MBRKb, high to release the brake (R378). -/
def busPins (d b : Nat) (s : State) : (Nat × Nat) × Bool :=
  (chopDuty d b (rd (R.BUS.BUS_STAT_V d b) s) s, !flag (R.BUS.BUS_STAT_MBRK d b) s)

end Sys2Proof.Machine
end

