-- ==== Sys2Proof/Machine/Loops.lean ====
section
/-! DEFINITION. The loop engine and the coverage feed-forward (R398 to R423). -/

namespace Sys2Proof.Machine

def loopOf (d i : Nat) (s : State) : LoopCtx := mapGet (fun _ => {}) s.loops (160 * d + i)
def setLoop (d i : Nat) (c : LoopCtx) (s : State) : State :=
  { s with loops := mapSet (fun _ => {}) s.loops (160 * d + i) c }

/-! ### Arithmetic (R402) -/

def sub15 (a b : Int) : Int := sat16 (a - b)
/-- The exact product in Q9.31. -/
def mul31 (a b : Int) : Int := 2 * a * b
/-- Values added into the accumulator one after the other, each saturating. -/
def accAdd (acc : Int) (l : List Int) : Int := l.foldl (fun a x => sat40 (a + x)) acc
def scale31 (shift : Nat) (acc : Int) : Int := sat40 (acc * ((2 ^ shift : Nat) : Int))

/-- R405: y from a raw value. -/
def measured (raw mscale : Int) (mshift : Nat) : Int :=
  sat16 ((raw * mscale + (if mshift = 0 then 0 else ((2 ^ (mshift - 1) : Nat) : Int))) / ((2 ^ mshift : Nat) : Int))

/-- The gains, limits and integrator that one PID stage works with. -/
structure Stage where
  kp : Int
  ki : Int
  kd : Int
  shift : Nat
  lo : Int
  hi : Int
  i : Int
  deriving DecidableEq, Repr

/-- The bounds of the integrator (R408). -/
def Stage.bound (g : Stage) (x : Int) : Int := x * 65536 / ((2 ^ g.shift : Nat) : Int)
def Stage.clampI (g : Stage) (x : Int) : Int := clampInt (g.bound g.lo) (g.bound g.hi) x

/-- Steps 3 and 4 of R407: the output for error `e`, derivative input `dl` and feed-forward terms. -/
def Stage.out (g : Stage) (e dl : Int) (ff : List Int) : Int :=
  clampInt g.lo g.hi (toQ15 (scale31 g.shift (accAdd 0 ([mul31 g.kp e, g.i, mul31 g.kd dl] ++ ff))))

/-- R408: the integrator after an execution with output `u`; `hold`: it is held for another reason (R410). -/
def Stage.next (g : Stage) (e u : Int) (hold : Bool) : Int :=
  let p := mul31 g.ki e
  let stop := hold || (decide (u = g.hi) && decide (0 < p)) || (decide (u = g.lo) && decide (p < 0))
  g.clampI (if stop then g.i else sat40 (g.i + p))

/-- R418: the integrator for which the output is `u`, with Δ = 0. -/
def Stage.preset (g : Stage) (e u : Int) (ff : List Int) : Stage :=
  { g with i := g.clampI (sat40 (g.bound u - accAdd 0 (mul31 g.kp e :: ff))) }

/-! ### Entries (R398, R403) -/

def loopAddr (d i : Nat) : Nat := d * 0x1000000 + 0x500000 + 128 * i
def profAddr (d i : Nat) : Nat := d * 0x1000000 + 0x600000 + 32 * i

/-- The snapshot of a context's entry. -/
def loopEntry (d i : Nat) (s : State) : List Byte := wordBytes (loopAddr d i) 32 s

def eU (e : List Byte) (o n : Nat) : Nat := fieldLe e o n
def eS (e : List Byte) (o n : Nat) : Int := toSigned (8 * n) (fieldLe e o n)

/-- A field of the entry written by the engine. -/
def putEntry (d i o n : Nat) (v : Int) (s : State) : State := putBytes (loopAddr d i + o) (leBytes n (ofSigned (8 * n) v)) s

def periodTicks (code : Nat) : Nat :=
  match code with
  | 0 => 1 | 1 => 2 | 2 => 5 | 3 => 10 | 4 => 25 | _ => 50

/-- The outer stage, with the floor of a heater (R413). -/
def outerStage (e : List Byte) : Stage :=
  let lo := eS e 24 2
  { kp := eS e 12 2, ki := eS e 14 2, kd := eS e 16 2, shift := eU e 10 1,
    lo := if eU e 0 1 = 5 ∧ lo < 0 then 0 else lo, hi := eS e 26 2, i := eS e 96 5 }

def innerStage (e : List Byte) : Stage :=
  { kp := eS e 50 2, ki := eS e 52 2, kd := eS e 54 2, shift := eU e 11 1,
    lo := eS e 56 2, hi := eS e 58 2, i := eS e 101 5 }

/-! ### Modes, load and outputs (R400, R406, R417, R420) -/

def loopEnabled (d i : Nat) (s : State) : Bool := (loopOf d i s).mode != 0

/-- The cost of a context in slot `t` of the 50. -/
def loopCost (d i t : Nat) (s : State) : Nat :=
  let e := loopEntry d i s
  if t % periodTicks (eU e 1 1 % 8) = eU e 2 1 then (if eU e 0 1 = 2 then 2 else 1) else 0

def enabledLoops (d : Nat) (s : State) : List Nat := (List.range 160).filter (fun i => loopEnabled d i s)

/-- The summed cost of each slot, for the given contexts. -/
def slotCosts (d : Nat) (is : List Nat) (s : State) : List Nat :=
  (List.range 50).map (fun t => is.foldl (fun a i => a + loopCost d i t s) 0)

def showLoad (d : Nat) (s : State) : State :=
  let costs := slotCosts d (enabledLoops d s) s
  let m := costs.foldl Nat.max 0
  wr (R.LOOP.LOAD_SLOT d) (costs.idxOf m) (wr (R.LOOP.LOAD_MAX d) m s)

def setBitOf (l : Loc) (i : Nat) (v : Bool) (s : State) : State := wr l (withBits (rd l s) i 1 (b2n v)) s

/-- The mode of a context, with LOOP_EN, LOOP_AUTO, LOOP_FENCED and LOAD. -/
def setMode (d i : Nat) (c : LoopCtx) (s : State) : State :=
  let s1 := setLoop d i c s
  let s2 := setBitOf (R.LOOP.LOOP_EN d (i / 32)) (i % 32) (c.mode != 0) s1
  let s3 := setBitOf (R.LOOP.LOOP_AUTO d (i / 32)) (i % 32) (decide (2 ≤ c.mode)) s2
  showLoad d (setBitOf (R.LOOP.LOOP_FENCED d (i / 32)) (i % 32) (s3.fenced.contains (.loop d i)) s3)

def loopKind (e : List Byte) : Nat := eU e 7 1
def loopIdx (e : List Byte) : Nat := eU e 6 1

def gpioOf (d : Nat) (s : State) : Gpio := mapGet (fun _ => {}) s.gpios d
def setGpio (d : Nat) (g : Gpio) (s : State) : State := { s with gpios := mapSet (fun _ => {}) s.gpios d g }
def heaterOf (d h : Nat) (s : State) : Heater := mapGet (fun _ => {}) s.heaters (4 * d + h)
def setHeater (d h : Nat) (v : Heater) (s : State) : State := { s with heaters := mapSet (fun _ => {}) s.heaters (4 * d + h) v }

/-- The local station whose auto-registration names context `i` (R324). -/
def aregStation (d i : Nat) (s : State) : Option Nat :=
  [0, 1].find? (fun l => flag (R.PIO.AREG_CFG_EN d l) s && rd (R.PIO.AREG_TGT_LOOP d l) s == i)

/-- The output `u` is applied to the target (R406). -/
def applyTarget (d i : Nat) (e : List Byte) (u : Int) (s : State) : State :=
  let x := loopIdx e
  match loopKind e with
  | 1 => if x < 4 ∧ rd (R.FOC.CFG1_LOOP d x) s = i then setFoc d x { focOf d x s with iqLoop := u } s else s
  | 2 => if x < 4 then setHeater d x { heaterOf d x s with next := u.toNat } s else s
  | 3 => if x < 8 ∧ flag (R.PIO.HV_CFG_EN d x) s then wr (R.PIO.HV_VAL_DAC d x) (2 * u.toNat) s else s
  | 4 => if x < 32 then setGpio d { gpioOf d s with loop := withBits (gpioOf d s).loop x 1 (b2n (decide (0 < u))) } s else s
  | 5 => match aregStation d i s with
    | some l => { s with aregOut := s.aregOut.filter (fun a => a.1 != 2 * d + l) ++ [(2 * d + l, u)] }
    | none => s
  | _ => s

/-- The output is given: OUT, u_last and the target. -/
def giveOut (d i : Nat) (e : List Byte) (u : Int) (s : State) : State :=
  applyTarget d i e u (putEntry d i 110 2 u (wrS (R.LOOP.OUT_U d i) u s))

/-- R420: the target of a context that is disabled or fenced. -/
def loopOffTarget (d i : Nat) (s : State) : State :=
  let e := loopEntry d i s
  if loopKind e = 5 then s else applyTarget d i e 0 s

def loopDisable (d i : Nat) (s : State) : State :=
  if loopEnabled d i s then loopOffTarget d i (setMode d i { loopOf d i s with mode := 0 } s) else s

/-- A context is fenced (R420). -/
def loopFence (d i : Nat) (s : State) : State :=
  let s1 := addFence (.loop d i) s
  loopOffTarget d i (setMode d i { loopOf d i s1 with mode := 0 } s1)

/-- A fault of class U of a context. -/
def loopFault (d i src : Nat) (s : State) : State :=
  let s1 := recordFault d 0x70 src false s
  if isFenced (.loop d i) s1 then s1 else loopFence d i s1

/-! ### Sources (R405) -/

def isPos (kind : Nat) : Bool := kind == 7 || kind == 8

/-- R405: an index is in range for a kind. -/
def srcIndexOk (kind idx : Nat) : Bool :=
  match kind with
  | 0 => true
  | 1 => decide (idx < 16)
  | 2 | 7 => decide (idx < 8)
  | 3 | 4 | 10 => decide (idx < 4)
  | 5 => decide (idx < 160)
  | 6 | 8 | 9 => decide (idx < 2)
  | _ => false

/-- Kind 8: scans of a station in 1/256, from its accepted edges and P_e. -/
def scanPos (d l : Nat) (s : State) : Nat :=
  let b := (mapGet (fun _ => ({} : Station)) s.stations (2 * d + l)).beam
  let pe := rd (R.STIM.BD_PERIOD_TICKS d l) s
  match b.last with
  | some t => 256 * b.scans + (if pe = 0 then 0 else Nat.min 255 (256 * (16 * counterC d s - t) / pe))
  | none => 256 * b.scans

/-- The raw value of a source (R405). -/
def rawSource (d : Nat) (src : Nat) (s : State) : Int :=
  let x := src % 256
  match src / 256 with
  | 1 => (8 * rd (R.PIO.ADC_VAL d x) s : Nat)
  | 2 => (8 * rd (R.PIO.HV_VAL_MON d x) s : Nat)
  | 3 => rdS (R.FOC.SPEED_SPEED d x) s
  | 4 => rdS (R.FOC.IDQ_IQ d x) s
  | 5 => rdS (R.LOOP.OUT_U d x) s
  | 6 => rdS (R.PIO.AREG_ERR_E d x) s
  | 7 => (posNow d x s : Nat)
  | 8 => (scanPos d x s : Nat)
  | 9 => rdS (R.SHL.HEAD_TEMP_TEMP d x) s
  | 10 => (8 * rd (R.BUS.BUS_STAT_V d x) s : Nat)
  | _ => 0

/-! ### Enabling (R417) -/

/-- Reason 1: the template, or a reserved value. -/
def loopReserved (e : List Byte) : Bool :=
  let t := eU e 0 1
  t == 0 || decide (5 < t) || eU e 1 1 / 8 != 0 || eU e 3 1 / 64 != 0 || eU e 3 1 / 16 % 4 == 3 || decide (2 < eU e 8 1) ||
    decide (8 < eU e 10 1) || decide (8 < eU e 11 1) || decide (31 < eU e 30 1) || eU e 31 1 / 8 % 16 != 0 ||
    eU e 32 1 / 16 % 8 != 0 || eU e 33 1 / 16 % 8 != 0 || decide (31 < eU e 62 1) || eU e 63 1 != 0 ||
    decide (31 < eU e 78 1) || eU e 79 17 != 0

def measureOk (h : Nat) : Bool := !isPos (h / 256) && srcIndexOk (h / 256) (h % 256)
def positionOk (h : Nat) : Bool := isPos (h / 256) && srcIndexOk (h / 256) (h % 256)

/-- Reason 3: a source of the wrong kind or out of range. -/
def loopBadSource (i : Nat) (e : List Byte) : Bool :=
  let t := eU e 0 1
  (t != 3 && !measureOk (eU e 4 2)) || (t == 2 && !measureOk (eU e 48 2)) ||
    (t == 3 && !(positionOk (eU e 64 2) && positionOk (eU e 66 2))) ||
    (eU e 34 2 / 256 != 0 && !positionOk (eU e 34 2)) ||
    (eU e 8 1 == 2 && (decide (160 ≤ eU e 9 1) || eU e 9 1 == i))

/-- Reason 4: the target. -/
def loopBadTarget (d i : Nat) (e : List Byte) (s : State) : Bool :=
  let k := loopKind e
  let x := loopIdx e
  decide (5 < k) || (k == 1 && decide (4 ≤ x)) || (k == 2 && decide (4 ≤ x)) || (k == 3 && decide (8 ≤ x)) ||
    (k == 4 && (decide (32 ≤ x) || rd (R.GPIO.PIN_CFG_FUNC d x) s != 3)) || (eU e 0 1 == 5 && k != 2) ||
    (decide (1 ≤ k) && decide (k ≤ 4) &&
      (enabledLoops d s).any (fun j => j != i && eU (loopEntry d j s) 6 2 == eU e 6 2))

/-- The reason of R417 that refuses an enabling; 0: none. -/
def loopReason (d i : Nat) (s : State) : Nat :=
  let e := loopEntry d i s
  let n := periodTicks (eU e 1 1 % 8)
  if loopReserved e then 1
  else if 5 < eU e 1 1 % 8 ∨ n ≤ eU e 2 1 then 2
  else if loopBadSource i e then 3
  else if loopBadTarget d i e s then 4
  else if (slotCosts d (i :: (enabledLoops d s).filter (· != i)) s).any (fun c => decide (80 < c)) then 5
  else if isFenced (.loop d i) s then 6
  else if ((128 ≤ eU e 32 1 ∨ 128 ≤ eU e 33 1) ∧ eU e 36 4 = 0) ∨ (eU e 0 1 = 3 ∧ eU e 72 4 = 0) then 7
  else 0

/-- ENABLE (R417). -/
def loopEnable (d i : Nat) (s : State) : State :=
  let r := loopReason d i s
  if r ≠ 0 then
    let s1 := if flag (R.LOOP.LOOP_ERR_VALID d) s then s
      else putWord (R.LOOP.LOOP_ERR_VALID d).addr (BitVec.ofNat 32 (i + 256 * r + 2147483648)) s
    evt d 0x70 0 s1
  else
    let s1 := setMode d i { loopOf d i s with mode := 1, fresh := false, ran := false, prevG := none } s
    let e := loopEntry d i s1
    putEntry d i 112 2 0 (giveOut d i e (rdS (R.LOOP.MAN_OUT d i) s1) s1)

def loopManual (d i : Nat) (s : State) : State :=
  if loopEnabled d i s then setMode d i { loopOf d i s with mode := 1 } s else s

def loopAuto (d i : Nat) (s : State) : State :=
  let c := loopOf d i s
  if c.mode = 1 then setMode d i { c with mode := 2, fresh := true } s else s

/-- The unfencing of a context (R493): it is then disabled. -/
def loopUnfence (d i : Nat) (s : State) : State :=
  let s1 := unfence d 0x70 (.loop d i) s
  setMode d i (loopOf d i s1) s1

/-- The commands of one write to LOOP_CTL. Those of one cycle take effect in the order of R420. -/
def loopCtl (d w : Nat) (s : State) : State :=
  let i := w % 256
  if 160 ≤ i then s
  else
    let s1 := if testBit w 20 then loopUnfence d i s else s
    let s2 := if testBit w 16 then loopEnable d i s1 else s1
    let s3 := if testBit w 17 then loopDisable d i s2 else s2
    let s4 := if testBit w 19 then loopManual d i s3 else s3
    if testBit w 18 then loopAuto d i s4 else s4

/-- R404: the bytes of an entry that may not be written while its context is enabled. -/
def loopGuarded (b : Nat) : Bool :=
  decide (b ≤ 11) || (decide (31 ≤ b) && decide (b ≤ 39)) || (decide (48 ≤ b) && decide (b ≤ 95))

/-! ### Set-point profiles (R415, R416) -/

/-- The path whose master a context is. -/
def masterPath (d i : Nat) (s : State) : Option Nat :=
  [0, 1].find? (fun p => flag (R.CUE.PATH_CFG_EN 0 p) s && rd (R.CUE.PATH_CFG_MDIE 0 p) s == d &&
    rd (R.CUE.PATH_CFG_MLOOP 0 p) s == i)

def pathRunOf (p : Nat) (s : State) : PathRun := mapGet (fun _ => {}) s.paths p
def setPathRun (p : Nat) (v : PathRun) (s : State) : State := { s with paths := mapSet (fun _ => {}) s.paths p v }

/-- The 16-bit set-point of a context's profile. -/
def loopS (d i : Nat) (s : State) : Int := (loopOf d i s).s / 4294967296

def unit32 : Int := 4294967296

/-- s from the profile's distance. -/
def LoopCtx.place (c : LoopCtx) : Int := if c.back then c.origin - (c.prof.q : Int) else c.origin + (c.prof.q : Int)

/-- One execution of a set-point profile towards `goal` (32 fractional bits) with the given limits. A goal that lies behind
or nearer than the stopping distance is reached from rest (DEDUCED, log 42). -/
def LoopCtx.profile (c : LoopCtx) (goal : Int) (vl al jl : Nat) : LoopCtx :=
  if c.prof.phase = 0 then
    if goal = c.s then { c with prof := {}, goal := goal, turning := false }
    else
      let p : Profile := { phase := 2, vl := vl, al := al, jl := jl }
      let c1 : LoopCtx := { c with origin := c.s, goal := goal, back := decide (goal < c.s), turning := false, prof := p }
      let c2 : LoopCtx := { c1 with prof := p.tick (goal - c.s).natAbs }
      { c2 with s := c2.place }
  else
    let p0 := c.prof.takeUp vl al jl
    let ahead := if c.back then c.s - goal else goal - c.s
    let near := decide (ahead < planned p0.v p0.a p0.al p0.jl)
    let c1 : LoopCtx :=
      if c.turning ∨ goal = c.goal then { c with prof := p0 }
      else if near then { c with turning := true, prof := p0.stop }
      else
        { c with
          goal := goal, origin := c.s
          prof := { p0 with q := 0, part := 0, phase := if p0.phase = 5 ∨ p0.phase = 6 ∨ p0.phase = 4 then p0.phase else 2 } }
    let total := if c1.turning then c1.prof.q + 2 ^ 80 else (c1.goal - c1.origin).natAbs
    let c2 : LoopCtx := { c1 with prof := if c1.prof.phase = 10 then c1.prof else c1.prof.tick total }
    let c3 : LoopCtx := { c2 with s := c2.place }
    if c3.prof.phase = 10 then
      if c3.turning then { c3 with prof := {}, turning := false }
      else { c3 with prof := {}, s := c3.goal }
    else c3

/-- The medium's travel (1/256 count × 2^8) while a profile ramps to 0, summed over its executions. -/
def rampTravel : Nat → LoopCtx → Nat → Nat → Nat → Nat → Nat
  | 0, _, _, _, _, acc => acc
  | n + 1, c, vl, al, jl, acc =>
    let c1 := c.profile 0 vl al jl
    if c1.s = 0 ∧ c1.prof.phase = 0 then acc
    else rampTravel n c1 vl al jl (acc + c1.s.natAbs / 4294967296)

/-- The target and ALIM that a path's state sets for its master (R416): the set-point, and whether QALIM applies. In
BACKFEED the master runs backwards until the travel of its ramp reaches the target (DEDUCED, log 43). -/
def pathGoal (d i p : Nat) (e : List Byte) (c : LoopCtx) (vl al jl vscale : Nat) (s : State) : Int × Bool :=
  let run := (pathRunOf p s).vrun
  match rd (R.CUE.PATH_STAT_STATE 0 p) s with
  | 3 | 4 => (0, false)
  | 5 =>
    let tb := rd (R.CUE.PATH_BACK_LO_COUNT 0 p) s + 4294967296 * rd (R.CUE.PATH_BACK_HI_COUNT 0 p) s
    let rem := toSigned 56 (((rawSource d (eU e 34 2) s).toNat + two56 - 256 * tb % two56) % two56)
    let vb : Int := ((rd (R.CUE.PATH_VBACK_RATIO 0 p) s * run.natAbs / 32768 : Nat) : Int)
    let travel := rampTravel 4096 c vl al jl 0 * vscale / (256 * 32767)
    if rem.natAbs < 256 ∨ rem.natAbs ≤ travel then (0, false) else (if 0 < rem then -vb else vb, false)
  | 6 => (run, false)
  | 7 => (0, true)
  | _ => (rdS (R.LOOP.SP_SP d i) s, false)

/-- The profile of a context advances (R415, R416), and shows its phase and s in its block. -/
def stepLoopProfile (d i : Nat) (e : List Byte) (s : State) : State :=
  let b := wordBytes (profAddr d i) 8 s
  let vl := fieldLe b 0 4 * 4294967296
  let al := fieldLe b 4 4 * 16777216
  let jl := fieldLe b 8 4 * 65536
  let c := loopOf d i s
  let g := match masterPath d i s with
    | some p => pathGoal d i p e c vl al jl (fieldLe b 16 4) s
    | none => (rdS (R.LOOP.SP_SP d i) s, false)
  let c1 := c.profile (g.1 * unit32) vl (if g.2 then fieldLe b 12 4 * 16777216 else al) jl
  let s1 := setLoop d i c1 s
  putBytes (profAddr d i + 22) (leBytes 2 (ofSigned 16 (c1.s / unit32)))
    (putBytes (profAddr d i + 20) (leBytes 1 c1.prof.phase) s1)

/-- v_sp or a_sp of the profile: a value whose limit stands for 0x7FFF. A quotient that is not whole is rounded in a way
the spec leaves open (log 44). -/
def normSp (v : Int) (lim : Nat) : Int :=
  if v = 0 ∨ lim = 0 then 0
  else if v * 32767 % (lim : Int) = 0 then sat16 (v * 32767 / (lim : Int))
  else sat16 (Config.rotated 40 [v, (lim : Nat)])

/-! ### One execution (R407 to R413) -/

/-- The set-point of a context without an auto-registration (R414). -/
def setPoint (d i : Nat) (e : List Byte) (s : State) : Int :=
  let r := match eU e 8 1 with
    | 1 => loopS d i s
    | 2 => rdS (R.LOOP.OUT_U d (eU e 9 1)) s
    | _ => rdS (R.LOOP.SP_SP d i) s
  if testBit (eU e 3 1) 0 then
    toQ15 (sat40 (mul31 r (rd (R.CUE.PATH_STAT_RHO 0 (eU e 3 1 / 2 % 2)) s : Nat)))
  else r

/-- v_sp and a_sp from the profile (R409). -/
def profileFf (d i : Nat) (e : List Byte) (s : State) : Int × Int :=
  if eU e 8 1 = 1 then
    let c := loopOf d i s
    let b := wordBytes (profAddr d i) 8 s
    let sg : Int := if c.back then -1 else 1
    (normSp (sg * c.prof.v) (fieldLe b 0 4 * 4294967296), normSp (sg * c.prof.a) (fieldLe b 4 4 * 16777216))
  else (0, 0)

/-- An entry of a friction or cogging table. -/
def tableEntry (d t j : Nat) (s : State) : Int :=
  let a := d * 0x1000000 + 0x508000 + 2048 * t + 2 * j
  toSigned 16 ((word (a / 4 * 4) s).toNat / 2 ^ (8 * (a % 4)))

def sign (v : Int) : Int := if 0 < v then 1 else if v < 0 then -1 else 0

/-- The velocity and acceleration terms of R409. -/
def motionTerms (e : List Byte) (v a : Int) : List Int := [mul31 (eS e 18 2) v, mul31 (eS e 20 2) a]

/-- The friction, cogging and coverage terms of R409; `s0` is the state at the tick's start. -/
def tableTerms (d : Nat) (e : List Byte) (v : Int) (s0 s : State) : List Int :=
  let rev := eU e 36 4
  let pos := (rawSource d (eU e 34 2) s0).toNat % two56
  let j := if rev = 0 then 0 else 1024 * (pos % rev) / rev
  [if 128 ≤ eU e 32 1 then 65536 * tableEntry d (eU e 32 1 % 16) j s * sign v else 0,
   if 128 ≤ eU e 33 1 then 65536 * tableEntry d (eU e 33 1 % 16) j s else 0,
   if 128 ≤ eU e 31 1 then mul31 (eS e 22 2) (rdS (R.LOOP.CFF_OUT_VALUE d (eU e 31 1 % 8)) s0) else 0]

/-- What an execution computes: the outer measurement, error and value kept for Δ; the integrators; the inner value kept;
the output. -/
structure Executed where
  y : Int
  e : Int
  keep : Int
  i : Int
  i2 : Int
  keep2 : Int
  u : Int
  deriving DecidableEq, Repr

/-- The derivative input (R407 step 2) and the value kept for the next one. -/
def derivative (onError : Bool) (y e prev : Int) (fresh : Bool) : Int × Int :=
  if onError then (if fresh then 0 else sub15 e prev, e) else (if fresh then 0 else sub15 prev y, y)

/-- Steps 2 to 5 of R407 for one stage. -/
def runPid (e : List Byte) (y err : Int) (ff : List Int) (fresh : Bool) : Executed :=
  let dv := derivative (testBit (eU e 3 1) 2) y err (eS e 106 2) fresh
  let g0 := outerStage e
  let g := if fresh then g0.preset err (eS e 110 2) ff else g0
  let u := g.out err dv.1 ff
  { y := y, e := err, keep := dv.2, i := g.next err u false, i2 := eS e 101 5, keep2 := eS e 108 2, u := u }

/-- R410: two PIDs in one execution. -/
def runPair (e : List Byte) (y err y2 : Int) (ff ffInner : List Int) (fresh : Bool) : Executed :=
  let onE := testBit (eU e 3 1) 2
  let dv := derivative onE y err (eS e 106 2) fresh
  let g1 := if fresh then (outerStage e).preset err y2 ff else outerStage e
  let u1 := g1.out err dv.1 ff
  let e2 := sub15 u1 y2
  let dv2 := derivative onE y2 e2 (eS e 108 2) fresh
  let g2 := if fresh then (innerStage e).preset e2 (eS e 110 2) ffInner else innerStage e
  let u := g2.out e2 dv2.1 ffInner
  let clamped := decide (u = g2.lo) || decide (u = g2.hi)
  { y := y, e := err, keep := dv.2, i := g1.next err u1 clamped, i2 := g2.next e2 u false, keep2 := dv2.2, u := u }

/-- The error of a context with a measurement: e = r − y, or y − r with reverse action. -/
def loopError (e : List Byte) (r y : Int) : Int := if testBit (eU e 3 1) 3 then sub15 y r else sub15 r y

/-- What a gearing context latches and forms (R411): the geared target and S, with M0 and G0 latched when `fresh`. -/
def gearG (d : Nat) (e : List Byte) (fresh : Bool) (s0 : State) : Int × Int × Nat × Nat :=
  let m := (rawSource d (eU e 64 2) s0).toNat % two56
  let sl := (rawSource d (eU e 66 2) s0).toNat % two56
  let m0 := if fresh then m else eU e 114 7
  let g0 := if fresh then sl else eU e 121 7
  let g := (g0 : Int) + toSigned 56 (m + two56 - m0) * eS e 68 4 / (Nat.max 1 (eU e 72 4) : Nat)
  (g, sl, m0, g0)

/-- The scaling of R411. -/
def gearScale (e : List Byte) (x : Int) : Int := measured x (eS e 76 2) (eU e 78 1)

/-- The context's target can take an output (R418). -/
def targetTakes (d : Nat) (e : List Byte) (s : State) : Bool :=
  match loopKind e with
  | 1 => focState d (loopIdx e) s == 6
  | 2 => flag (R.PIO.ZC_STAT_OK d) s
  | 3 => flag (R.PIO.HV_CFG_EN d (loopIdx e)) s
  | _ => true

/-- The measurement of a context and what its Δ keeps, without an execution (R418). -/
def trackMeasure (d i : Nat) (e : List Byte) (r y : Int) (s : State) : State :=
  let err := loopError e r y
  wrS (R.LOOP.OUT_Y d i) y (putEntry d i 106 2 (if testBit (eU e 3 1) 2 then err else y) s)

/-- R419: following-error supervision of an AUTO execution with error `err` and output `u`; `true`: the context has been
fenced and applies nothing. -/
def supervise (d i : Nat) (e : List Byte) (err u : Int) (s : State) : Bool × State :=
  let lim := eU e 40 2
  if lim = 0 then (false, s)
  else if (err.natAbs ≤ lim : Bool) then (false, putEntry d i 112 2 0 s)
  else if eU e 112 2 + 1 < eU e 42 2 then (false, putEntry d i 112 2 ((eU e 112 2 + 1 : Nat) : Int) s)
  else
    let s1 := evt d 0x70 1 (bump (R.LOOP.FE_CNT_TRIPS d) (putEntry d i 112 2 0 s))
    match eU e 3 1 / 16 % 4 with
    | 0 => (false, recordFault d 0x70 1 false s1)
    | 1 =>
      let s2 := recordFault d 0x70 1 false s1
      (false, setMode d i { loopOf d i s2 with mode := 1 } (wrS (R.LOOP.MAN_OUT d i) u s2))
    | _ => (true, loopFault d i 0 s1)

/-- The results of an execution are stored and the output applied. -/
def storeExec (d i : Nat) (e : List Byte) (x : Executed) (s : State) : State :=
  let r := supervise d i e x.e x.u s
  if r.1 then r.2
  else
    let s1 := putEntry d i 96 5 x.i (putEntry d i 101 5 x.i2 r.2)
    let s2 := putEntry d i 106 2 x.keep (putEntry d i 108 2 x.keep2 s1)
    giveOut d i e x.u (wrS (R.LOOP.OUT_Y d i) x.y s2)

/-- An AUTO execution (R407 to R413, R418); `fresh`: the first one after AUTO or TRACK. -/
def execAuto (d i : Nat) (e : List Byte) (fresh : Bool) (s0 s : State) : State :=
  let c := loopOf d i s
  let s1 := setLoop d i { c with fresh := false, ran := true } s
  let area := aregStation d i s
  let y := match area with
    | some l => rdS (R.PIO.AREG_ERR_E d l) s0
    | none => measured (rawSource d (eU e 4 2) s0) (eS e 28 2) (eU e 30 1)
  let r := if area.isSome then 0 else setPoint d i e s
  let err := loopError e r y
  let va := if area.isSome then (0, 0) else profileFf d i e s
  match eU e 0 1 with
  | 2 =>
    let y2 := measured (rawSource d (eU e 48 2) s0) (eS e 60 2) (eU e 62 1)
    storeExec d i e (runPair e y err y2 (motionTerms e va.1 va.2) (tableTerms d e va.1 s0 s) fresh) s1
  | 3 =>
    let g := gearG d e fresh s0
    let er := gearScale e (toSigned 56 (ofSigned 56 (g.1 - (g.2.1 : Int))))
    let v := match (if fresh then none else c.prevG) with
      | some p => gearScale e (toSigned 56 (ofSigned 56 (g.1 - p)))
      | none => 0
    let acc := if fresh ∨ v = c.prevV then 0 else sat16 (Config.rotated 41 [v, c.prevV])
    let s2 := setLoop d i { c with fresh := false, ran := true, prevG := some g.1, prevV := v } s1
    let s3 := putEntry d i 114 7 (g.2.2.1 : Nat) (putEntry d i 121 7 (g.2.2.2 : Nat) s2)
    storeExec d i e (runPid e (sat16 (-er)) er (motionTerms e v acc ++ tableTerms d e v s0 s) fresh) s3
  | 4 =>
    let h := eS e 44 2
    let last := if c.ran then eS e 110 2 else eS e 24 2
    let u := if h < err then eS e 26 2 else if err < -h then eS e 24 2 else last
    storeExec d i e { y := y, e := err, keep := if testBit (eU e 3 1) 2 then err else y, i := eS e 96 5, i2 := eS e 101 5,
                      keep2 := eS e 108 2, u := u } s1
  | 5 =>
    if y < eS e 44 2 ∨ eS e 46 2 < y then
      evt d 0x70 4 (loopFault d i 2 (wrS (R.LOOP.OUT_Y d i) y (giveOut d i e 0 s1)))
    else storeExec d i e (runPid e y err (motionTerms e va.1 va.2 ++ tableTerms d e va.1 s0 s) fresh) s1
  | _ => storeExec d i e (runPid e y err (motionTerms e va.1 va.2 ++ tableTerms d e va.1 s0 s) fresh) s1

/-- The execution of a due context (LOOP_EXECUTE): MANUAL, AUTO or TRACK (R418). -/
def loopExecute (d i : Nat) (s0 s : State) : State :=
  let e := loopEntry d i s
  let area := aregStation d i s
  let seq := area.map (fun l => rd (R.PIO.AREG_ERR_SEQ d l) s)
  let c0 := loopOf d i s
  if area.isSome ∧ c0.seq.getD 0 = seq.getD 0 then s
  else
    let s1 := setLoop d i { c0 with seq := seq } s
    let s2 := if eU e 8 1 = 1 ∧ area.isNone then stepLoopProfile d i e s1 else s1
    let y := match area with
      | some l => rdS (R.PIO.AREG_ERR_E d l) s0
      | none => measured (rawSource d (eU e 4 2) s0) (eS e 28 2) (eU e 30 1)
    let r := if area.isSome then 0 else setPoint d i e s2
    let c := loopOf d i s2
    if c.mode = 1 then
      giveOut d i e (rdS (R.LOOP.MAN_OUT d i) s2) (trackMeasure d i e r y s2)
    else if targetTakes d e s2 then
      let s3 := if c.mode = 3 then setMode d i { c with mode := 2 } s2 else s2
      execAuto d i e (c.fresh || c.mode == 3) s0 s3
    else
      let u := if loopKind e = 1 then rdS (R.FOC.IDQ_IQ d (loopIdx e)) s2 else 0
      let s3 := setMode d i { c with mode := 3 } s2
      putEntry d i 110 2 u (wrS (R.LOOP.OUT_U d i) u (trackMeasure d i e r y s3))

/-! ### Coverage feed-forward (R421 to R423) -/

def cffOf (d ch : Nat) (s : State) : List CffEntry := mapGet (fun _ => []) s.cffs (8 * d + ch)
def setCff (d ch : Nat) (l : List CffEntry) (s : State) : State := { s with cffs := mapSet (fun _ => []) s.cffs (8 * d + ch) l }

def cffCount (d : Nat) (s : State) : Nat := rd (R.LOOP.CFF_CNT_COUNTER d) s

/-- The positions, in 1/256 count, at which an entry begins and ends to contribute. -/
def cffFrom (d ch : Nat) (x : CffEntry) (s : State) : Nat :=
  ofSigned 56 ((x.xc : Int) + 256 * rdS (R.LOOP.CFF_DLY_COUNTS d ch) s)
def cffTo (d ch : Nat) (x : CffEntry) (s : State) : Nat := (cffFrom d ch x s + x.cpc) % two56

/-- R66: the width of zone `j` of a line of `w` pixels. -/
def zoneWidth (w j : Nat) : Nat :=
  let z := 8 * ceilDiv w 128
  Nat.min ((j + 1) * z) w - j * z

/-- f_k of R423. -/
def cffFraction (x : CffEntry) (zones : Nat) : Nat :=
  let sel := (List.range 16).filter (fun j => testBit zones j)
  let z := sel.foldl (fun a j => a + x.zones.getD j 0) 0
  let full := x.lines * sel.foldl (fun a j => a + zoneWidth x.width j) 0 * x.level
  if full = 0 then 0 else Nat.min 0x7FFF (z * 32768 / full)

/-- The output of a channel (R423). -/
def cffOutput (d ch : Nat) (s : State) : Int :=
  let zones := rd (R.LOOP.CFF_CFG_ZONES d ch) s
  let l := (cffOf d ch s).filter (fun x => x.current)
  toQ15 (accAdd 0 (((List.range 16).filterMap (fun k => l.find? (fun x => x.station == k))).map (fun x =>
    mul31 (toSigned 16 (rd (R.LOOP.CFF_WT d ch (x.station / 2)) s / 65536 ^ (x.station % 2))) (cffFraction x zones : Nat))))

/-- The entries of a channel at position `p`: those reached become current, one at a time, and a passed one ends. -/
def cffReach (d ch p : Nat) (l : List CffEntry) (s : State) : List CffEntry :=
  let l1 := l.foldl (fun acc x =>
    if !x.current && passedFine p (cffFrom d ch x s) then
      (acc.filter (fun y => !(y.station == x.station && y.current) && y != x)) ++ [{ x with current := true }]
    else acc) l
  l1.filter (fun x => !(x.current && passedFine p (cffTo d ch x s)))

/-- The channels of a die are brought up to the counter's position; while it moves downward nothing changes. -/
def cffUpdate (d : Nat) (s : State) : State :=
  let k := cffCount d s
  let up := (counterOf d k s).up
  (List.range 8).foldl (fun s ch =>
    let s1 := if up then setCff d ch (cffReach d ch (posNow d k s) (cffOf d ch s) s) s else s
    wrS (R.LOOP.CFF_OUT_VALUE d ch) (cffOutput d ch s1) s1) s

def cffLate (d : Nat) (s : State) : State := evt d 0x70 3 (bump (R.LOOP.CFF_LATE_COUNT d) s)

/-- A message for one channel (R422). -/
def cffTake (d ch : Nat) (x : CffEntry) (s : State) : State :=
  let l := cffOf d ch s
  if !testBit (rd (R.LOOP.CFF_CFG_STATIONS d ch) s) x.station then s
  else if 4 ≤ (l.filter (fun y => y.station == x.station)).length then cffLate d s
  else if passedFine (posNow d (cffCount d s) s) (cffFrom d ch x s) then
    cffLate d (setCff d ch (l.filter (fun y => !(y.station == x.station && y.current)) ++ [{ x with current := true }]) s)
  else setCff d ch (l ++ [x]) s

def isCff (d : Nat) : Msg → Bool
  | .cff d' .. => d' == d
  | _ => false

def isCancel (d : Nat) : Msg → Bool
  | .cffCancel d' _ => d' == d
  | _ => false

/-- The oldest message that `p` picks, and the others. -/
def takeMsg (p : Msg → Bool) (s : State) : Option (Msg × State) :=
  match s.msgs.find? p with
  | some m => some (m, { s with msgs := s.msgs.erase m })
  | none => none

/-- CFF_MESSAGE (R422): the oldest coverage message on its way to a die arrives. -/
def execCffMessage (d : Nat) (s : State) : Host.Outcome State Fault Refusal :=
  match takeMsg (isCff d) s with
  | some (.cff _ k fsn xc lines level width cpc zones, s1) =>
    if blockUp d 0x70 s1 && !dieFenced d s1 then
      .next (cffUpdate d ((List.range 8).foldl (fun s ch =>
        cffTake d ch ⟨k, fsn, xc, lines, level, width, cpc, zones, false⟩ s) s1))
    else .next s1
  | _ => .next s

/-- CFF_CANCEL (R422): a cancel zeroes every entry of its FSN. -/
def execCffCancel (d : Nat) (s : State) : Host.Outcome State Fault Refusal :=
  match takeMsg (isCancel d) s with
  | some (.cffCancel _ fsn, s1) =>
    if dieFenced d s1 then .next s1 else .next (cffUpdate d ((List.range 8).foldl (fun s ch =>
      setCff d ch ((cffOf d ch s).map (fun x => if x.fsn = fsn then { x with zones := [] } else x)) s) s1))
  | _ => .next s

/-- R411: a POS_ADJ moves M0 and G0 of the contexts that gear from a counter. -/
def gearAdjust (d k : Nat) (delta : Int) (s : State) : State :=
  (enabledLoops d s).foldl (fun s i =>
    let e := loopEntry d i s
    let src := 7 * 256 + k
    let s1 := if eU e 0 1 = 3 ∧ eU e 64 2 = src then putEntry d i 114 7 ((eU e 114 7 : Int) + 256 * delta) s else s
    if eU e 0 1 = 3 ∧ eU e 66 2 = src then putEntry d i 121 7 ((eU e 121 7 : Int) + 256 * delta) s1 else s1) s

/-- One tick of the engine (R399, R401): inputs are those of the tick's start; due contexts execute in ascending index. No
tick runs again after a step of local time (R444). -/
def loopTick (d : Nat) (s : State) : State :=
  let k := ltime d s / 20000
  if !blockUp d 0x70 s || decide (k < mapGet (fun _ => 0) s.loopNext d) then s
  else
    let s0 := cffUpdate d { s with loopNext := mapSet (fun _ => 0) s.loopNext d (k + 1) }
    (enabledLoops d s0).foldl (fun s i =>
      let e := loopEntry d i s0
      if k % periodTicks (eU e 1 1 % 8) = eU e 2 1 ∧ loopEnabled d i s then loopExecute d i s0 s else s) s0

end Sys2Proof.Machine
end

