-- ==== Sys2Proof/Machine/Pio.lean ====
section
/-! DEFINITION. Process inputs and outputs: analogue inputs, heaters, high-voltage references and GPIO (R424 to R429). -/

namespace Sys2Proof.Machine

def pioOn (d : Nat) (s : State) : Bool := blockUp d 0x71 s

def adcOf (d a : Nat) (s : State) : List Nat := mapGet (fun _ => []) s.adcs (16 * d + a)
def hvOverOf (d n : Nat) (s : State) : Nat := mapGet (fun _ => 0) s.hvOver (8 * d + n)
def zeroOf (d : Nat) (s : State) : ZeroCross := mapGet (fun _ => {}) s.zeros d
def setZero (d : Nat) (v : ZeroCross) (s : State) : State := { s with zeros := mapSet (fun _ => {}) s.zeros d v }

/-! ### Analogue inputs and high-voltage outputs (R424, R427) -/

/-- One conversion of a general input. With fewer than 2^AVG conversions the mean is that of those there are (log 45). -/
def adcConvert (d a code : Nat) (s : State) : State :=
  if !flag (R.PIO.ADC_EN d a) s then s
  else
    let l := (code % 4096 :: adcOf d a s).take 16
    let m := l.take (2 ^ rd (R.PIO.ADC_AVG d a) s)
    wr (R.PIO.ADC_VAL d a) (m.foldl (· + ·) 0 / Nat.max 1 m.length)
      { s with adcs := mapSet (fun _ => []) s.adcs (16 * d + a) l }

/-- The enabled context whose target is an output. -/
def boundLoop (d kind idx : Nat) (s : State) : Option Nat :=
  (enabledLoops d s).find? (fun i => eU (loopEntry d i s) 6 2 == 256 * kind + idx)

/-- The safe state of an HV output: value 0, EN clear, its context fenced. -/
def hvSafe (d n : Nat) (s : State) : State :=
  let b := boundLoop d 3 n s
  let s1 := wr (R.PIO.HV_VAL_DAC d n) 0 (wr (R.PIO.HV_CFG_EN d n) 0 s)
  match b with
  | some i => loopFence d i s1
  | none => s1

/-- HV_MONITOR_TRIP (R427). -/
def hvTrip (d n : Nat) (s : State) : State := evt d 0x71 (2 + n) (hvSafe d n (recordFault d 0x71 (1 + n) false s))

/-- An enabled output whose last ten conversions exceeded the limit trips; one that is off has the value 0. -/
def hvJudge (d n : Nat) (s : State) : State :=
  if !flag (R.PIO.HV_CFG_EN d n) s then wr (R.PIO.HV_VAL_DAC d n) 0 s
  else if 10 ≤ hvOverOf d n s then hvTrip d n s else s

/-- One conversion of a monitor. -/
def hvConvert (d n code : Nat) (s : State) : State :=
  let c := code % 4096
  let k := if rd (R.PIO.HV_CFG_LIM d n) s < c then Nat.min 10 (hvOverOf d n s + 1) else 0
  hvJudge d n (wr (R.PIO.HV_VAL_MON d n) c { s with hvOver := mapSet (fun _ => 0) s.hvOver (8 * d + n) k })

/-- ADC_CONVERSION (R424, R427): the codes of the 16 general inputs and of the eight monitors. -/
def execAdcConversion (d : Nat) (ain hvm : List Nat) (s : State) : Host.Outcome State Fault Refusal :=
  if !pioOn d s then .next s
  else
    let s1 := (List.range 16).foldl (fun s a => match ain[a]? with | some c => adcConvert d a c s | none => s) s
    .next ((List.range 8).foldl (fun s n => match hvm[n]? with | some c => hvConvert d n c s | none => s) s1)

/-! ### Zero crossings and heaters (R425, R426) -/

/-- T_h in ns: the mean of the last eight intervals. -/
def halfPeriod (z : ZeroCross) : Nat := if z.intervals.length < 8 then 0 else z.intervals.foldl (· + ·) 0 / 8

/-- The level of Dd_HTRh. -/
def heaterHigh (d h : Nat) (s : State) : Bool :=
  flag (R.PIO.ZC_STAT_OK d) s &&
    match (heaterOf d h s).high with
    | some (a, b) => decide (a ≤ s.now) && (b == 0 || decide (s.now < b))
    | none => false

/-- OK falls (R425): every heater output goes low. -/
def zeroLost (d : Nat) (s : State) : State :=
  if !flag (R.PIO.ZC_STAT_OK d) s then s
  else
    let s1 := (List.range 4).foldl (fun s h => setHeater d h { heaterOf d h s with high := none } s) (wr (R.PIO.ZC_STAT_OK d) 0 s)
    evt d 0x71 0 (recordFault d 0x71 0 false s1)

/-- What a heater output does at a zero crossing (R426); `th` in ns. -/
def heaterCross (d th h : Nat) (s : State) : State :=
  let v := heaterOf d h s
  let duty := v.next
  let s1 := wr (R.PIO.HTR_STAT_DUTY d h) duty s
  let v1 : Heater := match rd (R.PIO.HTR_CFG_MODE d h) s with
    | 1 => if 0x8000 ≤ v.acc + duty then { v with acc := v.acc + duty - 0x8000, high := some (s.now, 0) }
        else { v with acc := v.acc + duty, high := none }
    | 2 =>
      let w := rd (R.PIO.HTR_CFG_FIRE_W d h) s
      let at0 := (0x8000 - duty) * th / (0x8000 * 1000)
      if duty = 0 ∨ th < 1000 * (at0 + w + 200) then { v with high := none }
      else { v with high := some (s.now + 1000 * at0, s.now + 1000 * (at0 + w)) }
    | _ => { v with high := none }
  setHeater d h (if flag (R.PIO.ZC_STAT_OK d) s then v1 else { v1 with high := none }) s1

/-- ZERO_CROSS (R425, R426): a rising edge of Dd_ZC has counted. -/
def execZeroCross (d : Nat) (s : State) : Host.Outcome State Fault Refusal :=
  if !pioOn d s then .next s
  else
    let z := zeroOf d s
    let z1 : ZeroCross := { last := some s.now, intervals := match z.last with
      | some t => ((s.now - t) :: z.intervals).take 8
      | none => [] }
    let th := halfPeriod z1
    let good := decide (7690000 ≤ th) && decide (th ≤ 11110000)
    let s1 := wr (R.PIO.ZC_STAT_HALF d) (th / 1000) (setZero d z1 s)
    let s2 := if !good then zeroLost d s1
      else if flag (R.PIO.ZC_STAT_OK d) s1 then s1
      else evt d 0x71 1 (wr (R.PIO.ZC_STAT_OK d) 1 s1)
    .next ((List.range 4).foldl (fun s h => heaterCross d th h s) s2)

/-- ZERO_CROSS_LOST (R425): no edge has arrived within 1.5 T_h. -/
def execZeroCrossLost (d : Nat) (s : State) : Host.Outcome State Fault Refusal :=
  let z := zeroOf d s
  match z.last with
  | some t => if pioOn d s ∧ 3 * halfPeriod z < 2 * (s.now - t) then .next (zeroLost d s) else .next s
  | none => .next s

/-! ### GPIO (R428, R429) -/

/-- The level that a pin is driven to, for an output function. -/
def pinDriven (d g : Nat) (s : State) : Option Bool :=
  match rd (R.GPIO.PIN_CFG_FUNC d g) s with
  | 1 => some (testBit (rd (R.GPIO.GPIO_OUT_LEVEL d) s) g)
  | 2 => some (testBit (gpioOf d s).cue g)
  | 3 => some (testBit (gpioOf d s).loop g)
  | _ => none

/-- GPIO_OUT as it reads: the driven level of every output pin, and the written bit of an input pin (log 46). -/
def gpioOutRead (d : Nat) (s : State) : Nat :=
  (List.range 32).foldl (fun v g => match pinDriven d g s with
    | some b => withBits v g 1 (b2n b)
    | none => v) (rd (R.GPIO.GPIO_OUT_LEVEL d) s)

/-- The pins of FUNC 1 (R428). -/
def hostPins (d : Nat) (s : State) : Nat :=
  (List.range 32).foldl (fun v g => if rd (R.GPIO.PIN_CFG_FUNC d g) s = 1 then v + 2 ^ g else v) 0

/-- GPIO_IN as it reads (R434): the filtered level of every input pin, and the driven level of every output pin (log 88). -/
def gpioInRead (d : Nat) (s : State) : Nat :=
  (List.range 32).foldl (fun v g => match pinDriven d g s with
    | some b => withBits v g 1 (b2n b)
    | none => v) (gpioOf d s).seen

/-- A write to GPIO_OUT: bits of pins that are not FUNC 1 are left. -/
def gpioWrite (d v : Nat) (s : State) : State :=
  let m := hostPins d s
  wr (R.GPIO.GPIO_OUT_LEVEL d) ((v &&& m) ||| (rd (R.GPIO.GPIO_OUT_LEVEL d) s &&& (0xFFFFFFFF - m))) s

def gpioSet (d v : Nat) (s : State) : State := gpioWrite d (rd (R.GPIO.GPIO_OUT_LEVEL d) s ||| v) s
def gpioClr (d v : Nat) (s : State) : State := gpioWrite d (rd (R.GPIO.GPIO_OUT_LEVEL d) s &&& (0xFFFFFFFF - v % 4294967296)) s

/-- The duty of Dd_HVn, in 1/1,024, in period `k` of its PWM (R427): bits [5:0] of the value are spread by first-order error
feedback; the 0th period has an error of 0 behind it (DESIGN CHOICE, log 173). -/
def hvDuty (d n k : Nat) (s : State) : Nat :=
  let v := rd (R.PIO.HV_VAL_DAC d n) s
  v / 64 + ((k + 1) * (v % 64) / 64 - k * (v % 64) / 64)

/-- A cue's pin operation on a FUNC 2 pin (R340): 0 clear, 1 set, 2 toggle. -/
def cuePin (d g op : Nat) (s : State) : State :=
  let p := gpioOf d s
  let old := testBit p.cue g
  setGpio d { p with cue := withBits p.cue g 1 (b2n (if op = 0 then false else if op = 1 then true else !old)) } s

/-- GPIO_EDGE (R428): a pin has held a new level for FILT. -/
def execGpioEdge (d g : Nat) (level : Bool) (s : State) : Host.Outcome State Fault Refusal :=
  if !blockUp d 0x78 s || decide (32 ≤ g) then .next s
  else
    let p := gpioOf d s
    if testBit p.seen g = level then .next s
    else
      let s1 := setGpio d { p with seen := withBits p.seen g 1 (b2n level) } s
      let on := if level then flag (R.GPIO.PIN_CFG_EV_RISE d g) s else flag (R.GPIO.PIN_CFG_EV_FALL d g) s
      .next (onlyIf on (evt d 0x78 g) s1)

/-- SPLICE_DETECT (R429): an assertion of the splice pin has held for FILT µs; position and STIME are those of the raw edge
that began it. -/
def execSpliceDetect (d : Nat) (s : State) : Host.Outcome State Fault Refusal :=
  if !blockUp d 0x78 s || !flag (R.GPIO.SPLICE_CFG_EN d) s then .next s
  else
    let ago := 1000 * rd (R.GPIO.PIN_CFG_FILT d (rd (R.GPIO.SPLICE_CFG_PIN d) s)) s
    let p := (counterOf d (rd (R.GPIO.SPLICE_CFG_COUNTER d) s) s).posAt (counterC d s - ago)
    let s1 := wr (R.GPIO.SPLICE_POS_HI_P d) (p / 4294967296) (wr (R.GPIO.SPLICE_POS_LO_P d) p s)
    let s2 := wr (R.GPIO.SPLICE_T_STIME d) (stime d s + 4294967296 - ago) s1
    .next (bump (R.GPIO.SPLICE_CNT_COUNT d) s2)

end Sys2Proof.Machine
end

