-- ==== Sys2Proof/Machine/Cues.lean ====
section
/-! DEFINITION. The cue table: arming, reaching a trigger, completion, and the purge cue (R334 to R340, R355). -/

namespace Sys2Proof.Machine

def cueOf (d n : Nat) (s : State) : CueRun := mapGet (fun _ => {}) s.cues (512 * d + n)
def setCue (d n : Nat) (c : CueRun) (s : State) : State := { s with cues := mapSet (fun _ => {}) s.cues (512 * d + n) c }

def cueAddr (d n : Nat) : Nat := d * 0x1000000 + 0x400000 + 32 * n

/-- The entry of a cue (R334). -/
def cueEntry (d n : Nat) (s : State) : List Byte := wordBytes (cueAddr d n) 8 s

def cueKind (e : List Byte) : Nat := fieldLe e 0 1
def cueCounter (e : List Byte) : Nat := fieldLe e 1 1 % 8
def cueDown (e : List Byte) : Bool := testBit (fieldLe e 1 1) 3
def cueLocal (e : List Byte) : Nat := fieldLe e 1 1 / 16 % 2
def cueSource (e : List Byte) : Nat := fieldLe e 2 2 % 512
def cueAction (e : List Byte) : Nat := fieldLe e 4 1
def cueTarget (e : List Byte) : Nat := fieldLe e 6 2
def cuePeriod (e : List Byte) : Nat := fieldLe e 16 8

def cueArmed (d n : Nat) (s : State) : Bool := testBit (rd (R.CUE.CUE_ARMED d (n / 32)) s) (n % 32)

def setArmed (d n : Nat) (v : Bool) (s : State) : State := setBitOf (R.CUE.CUE_ARMED d (n / 32)) (n % 32) v s

/-- CUE_ERR takes a failure, if it is free, and the event is set (R337). -/
def cueError (d n reason : Nat) (s : State) : State :=
  let s1 := if flag (R.CUE.CUE_ERR_VALID d) s then s
    else putWord (R.CUE.CUE_ERR_VALID d).addr (BitVec.ofNat 32 (n + 4096 * reason + 2147483648)) s
  evt d 0x60 0 s1

/-- The checks of R337; 0: passed. -/
def cueReason (d n : Nat) (s : State) : Nat :=
  let e := cueEntry d n s
  let k := cueKind e
  let a := cueAction e
  let t := cueTarget e
  if k = 0 ∨ 4 < k ∨ fieldLe e 1 1 / 32 ≠ 0 ∨ fieldLe e 2 2 / 512 ≠ 0 ∨ fieldLe e 30 2 ≠ 0 then 1
  else if (k = 2 ∧ rd (R.CUE.POS_CFG_MODE d (cueCounter e)) s = 0) ∨ (k = 3 ∧ !blockOn d (staPage (cueLocal e)) s) ∨
      (k = 4 ∧ cueSource e = n) then 2
  else if 5 < a ∨ (a = 1 ∧ 32 ≤ t) ∨ (a = 2 ∧ 8 ≤ t) ∨ (a = 3 ∧ 160 ≤ t) ∨ (a = 5 ∧ 16 ≤ t) ∨ fieldLe e 5 1 % 4 = 3 ∨
      fieldLe e 5 1 / 4 ≠ 0 then 3
  else if isFenced (.cue d n) s then 4
  else 0

/-- The trigger of an entry has already passed for an argument (the last column of R335). -/
def cuePassed (d : Nat) (e : List Byte) (arg : Nat) (s : State) : Bool :=
  match cueKind e with
  | 1 => !later 64 arg (ltime d s)
  | 2 => let c := (counterOf d (cueCounter e) s).count
    if cueDown e then passedDown c arg else passedUp c arg
  | 3 => later 32 (rd (R.STIM.LSN_NOW_LSN d (cueLocal e)) s) arg
  | _ => false

/-- The argument that a trigger uses. -/
def cueArg (e : List Byte) : Nat :=
  match cueKind e with
  | 2 => fieldLe e 8 6
  | 3 | 4 => fieldLe e 8 4
  | _ => fieldLe e 8 8

/-- The running argument and repeat count of a position or time cue stand in its entry (R332, R339; log 91). -/
def cueStore (d n : Nat) (s : State) : State :=
  let r := cueOf d n s
  let e := cueEntry d n s
  let a := cueAddr d n
  let hi := if cueKind e = 2 then r.arg / 4294967296 % 65536 + 65536 * fieldLe e 14 2 else r.arg / 4294967296
  putWord (a + 28) (BitVec.ofNat 32 (r.rep % 65536 + 65536 * fieldLe e 30 2))
    (putWord (a + 12) (BitVec.ofNat 32 hi) (putWord (a + 8) (BitVec.ofNat 32 r.arg) s))

/-- ARM (R337): a cue already armed is left alone; a trigger that has passed makes a late firing in the next cycle. -/
def cueArm (d n : Nat) (s : State) : State :=
  if cueArmed d n s then s
  else
    let r := cueReason d n s
    if r ≠ 0 then cueError d n r s
    else
      let e := cueEntry d n s
      let late := cuePassed d e (cueArg e) s
      setArmed d n true (setCue d n { cueOf d n s with
        arg := cueArg e, rep := fieldLe e 28 2, reached := late, late := late, due := none, rearmed := none } s)

/-- DISARM (R337): an action already issued still proceeds. -/
def cueDisarm (d n : Nat) (s : State) : State :=
  let c := cueOf d n s
  setArmed d n false (setCue d n { acting := c.acting, move := c.move } s)

/-- A cue is fenced: disarmed, and listed (R357, R358). -/
def cueFence (d n : Nat) (s : State) : State :=
  setBitOf (R.CUE.CUE_FENCED d (n / 32)) (n % 32) true (addFence (.cue d n) (cueDisarm d n s))

def cueUnfence (d n : Nat) (s : State) : State :=
  let s1 := unfence d 0x60 (.cue d n) s
  setBitOf (R.CUE.CUE_FENCED d (n / 32)) (n % 32) (s1.fenced.contains (.cue d n)) s1

/-- One write to CUE_CTL: DISARM, UNFENCE, ARM in this order (R337). -/
def cueCtl (d w : Nat) (s : State) : State :=
  let n := w % 512
  let s1 := if testBit w 17 then cueDisarm d n s else s
  let s2 := if testBit w 18 then cueUnfence d n s1 else s1
  if testBit w 16 then cueArm d n s2 else s2

/-- The cues of a die that are armed. -/
def armedCues (d : Nat) (s : State) : List Nat := (List.range 512).filter (fun n => cueArmed d n s)

/-- A step of counter `k` of die `d` reaches the position triggers at the new count (R333). -/
def cueReach (d k : Nat) (up : Bool) (s : State) : State :=
  let c := (counterOf d k s).count
  (armedCues d s).foldl (fun s n =>
    let e := cueEntry d n s
    let r := cueOf d n s
    if cueKind e = 2 ∧ cueCounter e = k ∧ cueDown e = !up ∧ r.arg = c ∧ !r.reached then
      setCue d n { r with reached := true } s
    else s) s

/-- The trigger of an armed cue is reached, or its delay has ended. -/
def cueDue (d n : Nat) (s : State) : Bool :=
  let e := cueEntry d n s
  let r := cueOf d n s
  cueArmed d n s && (r.reached ||
    (match cueKind e with
     | 1 | 3 => cuePassed d e r.arg s
     | 4 => match r.due with | some t => decide (t ≤ s.now) | none => false
     | _ => false))

/-- A cue that has been reached in its table entry fires: it stays armed with its next argument, or disarms (R339). -/
def cueAdvance (d n : Nat) (s : State) : State :=
  let e := cueEntry d n s
  let r := cueOf d n s
  let p := cuePeriod e
  if (cueKind e = 1 ∨ cueKind e = 2) ∧ p ≠ 0 ∧ r.rep ≠ 1 then
    let next := if cueKind e = 1 then (r.arg + p) % 18446744073709551616
      else if cueDown e then (r.arg + two48 - p % two48) % two48 else (r.arg + p) % two48
    let late := cuePassed d e next s
    cueStore d n (setCue d n { r with arg := next, rep := r.rep - 1, reached := late, late := late, rearmed := none } s)
  else cueDisarm d n s

/-- A late firing (R337). -/
def cueLate (d : Nat) (s : State) : State := evt d 0x60 1 (recordFault d 0x60 0 false (bump (R.CUE.CUE_CNT_LATE d) s))

/-- A refused action (R340). -/
def cueRefuse (d : Nat) (s : State) : State := evt d 0x60 2 (recordFault d 0x60 1 false (bump (R.CUE.CUE_CNT_REFUSED d) s))

/-! ### Purge requests (R355) -/

def pathRunSet (p : Nat) (f : PathRun → PathRun) (s : State) : State := setPathRun p (f (pathRunOf p s)) s

/-- PURGE_STAT and PURGE_FSN show the oldest entry. -/
def showPurge (s : State) : State :=
  let f := s.purges.headD { fsn := 0, path := 0 }
  wr (R.CUE.PURGE_FSN_FSN 0) f.fsn (wr (R.CUE.PURGE_STAT_PATH 0) f.path (wr (R.CUE.PURGE_STAT_COUNT 0) s.purges.length s))

/-- The purge cue is armed as an upward position trigger at a target. -/
def purgeArm (p target : Nat) (s : State) : State :=
  let n := rd (R.CUE.PURGE_CFG_CUE 0 p) s
  let a := cueAddr 0 n
  let s1 := putBytes a [2, BitVec.ofNat 8 (rd (R.CUE.PATH_CFG_COUNTER 0 p) s)] s
  cueArm 0 n (putBytes (a + 8) (leBytes 8 target) s1)

/-- A purge request for a frame; `xf` is X_F in 1/256 count. -/
def purgeRequest (p fsn xf : Nat) (s : State) : State :=
  let s1 := if s.purges.length < 16 then { s with purges := s.purges ++ [{ fsn := fsn, path := p }] }
    else wr (R.CUE.PURGE_STAT_OVF 0) 1 s
  let s2 := evt 0 0x60 8 (bump (R.CUE.PATH_CNT_PURGES 0 p) (showPurge s1))
  if !flag (R.CUE.PURGE_CFG_EN 0 p) s2 then s2
  else
    let target := ofSigned 48 ((xf / 256 : Nat) + rdS (R.CUE.PURGE_OFFS_COUNTS 0 p) s2)
    if cueArmed 0 (rd (R.CUE.PURGE_CFG_CUE 0 p) s2) s2 then
      pathRunSet p (fun r => { r with waiting := r.waiting ++ [target] }) s2
    else purgeArm p target s2

/-- The host has read PURGE_FSN: the oldest entry goes. -/
def purgePop (s : State) : State := showPurge { s with purges := s.purges.drop 1 }

/-- A purge cue has completed: it is armed for the request that waits. -/
def purgeNext (n : Nat) (s : State) : State :=
  [0, 1].foldl (fun s p =>
    match (pathRunOf p s).waiting with
    | t :: rest =>
      if rd (R.CUE.PURGE_CFG_CUE 0 p) s = n ∧ !cueArmed 0 n s then
        purgeArm p t (pathRunSet p (fun r => { r with waiting := rest }) s)
      else s
    | [] => s) s

/-! ### Completion -/

/-- A cue completes: the delays of the completion triggers that name it begin, which fire no earlier than the next cycle of 5 ns
(R335, R338). -/
def cueCompleted (d n : Nat) (s : State) : State :=
  let s1 := (armedCues d s).foldl (fun s m =>
    let e := cueEntry d m s
    let r := cueOf d m s
    if cueKind e = 4 ∧ cueSource e = n ∧ r.due.isNone then setCue d m { r with due := some (Nat.max (s.now + r.arg) ((s.now / 5 + 1) * 5)) } s else s) s
  if d = 0 then purgeNext n s1 else s1

/-- CUE_COMPLETE (R336): the action of a cue is complete; a move completes when its channel has ended it. -/
def execCueComplete (d n : Nat) (s : State) : Host.Outcome State Fault Refusal :=
  let r := cueOf d n s
  let waits := match r.move with
    | some ch => stepPhase d ch s != 0
    | none => false
  if 512 ≤ n ∨ !r.acting ∨ waits = true then .next s
  else .next (cueCompleted d n (setCue d n { r with acting := false, move := none } s))

/-! ### Counters shifted (R332) -/

/-- An index edge of an encoder input: POS_IDX, and the zero that IDX_ZERO asks for. -/
def execEncoderIndex (d e : Nat) (s : State) : Host.Outcome State Fault Refusal :=
  if !blockUp d 0x60 s then .next s
  else .next ((List.range 8).foldl (fun s c =>
    if rd (R.CUE.POS_CFG_SRC d c) s ≠ e then s
    else
      let k := counterOf d c s
      let s1 := focIndex d c (wr (R.CUE.POS_IDX_COUNT d c) k.count s)
      if flag (R.CUE.POS_CFG_IDX_ZERO d c) s1 then
        wr (R.CUE.POS_CFG_IDX_ZERO d c) 0 (setCounter d c { k with count := 0 } s1)
      else s1) s)

/-- The stations of die `d` whose path counter is `c`. -/
def stationsOn (d c : Nat) (s : State) : List Nat :=
  [0, 1].filterMap (fun l => if rd (R.CUE.STA_PATH_COUNTER d l) s = c then some (2 * d + l) else none)

def startListOf (k : Nat) (s : State) : List StartEntry := mapGet (fun _ => []) s.startLists k
def setStartList (k : Nat) (l : List StartEntry) (s : State) : State :=
  wr (R.CUE.STA_START_PENDING (stDie k) (stLoc k)) l.length
    { s with startLists := mapSet (fun _ => []) s.startLists k l }

def resumePos (k : Nat) (s : State) : Nat :=
  rd (R.CUE.STA_RES_LO_POS (stDie k) (stLoc k)) s + 4294967296 * rd (R.CUE.STA_RES_HI_POS (stDie k) (stLoc k)) s

def putResume (k x : Nat) (s : State) : State :=
  wr (R.CUE.STA_RES_HI_POS (stDie k) (stLoc k)) (x / 4294967296) (wr (R.CUE.STA_RES_LO_POS (stDie k) (stLoc k)) x s)

/-- POS_ADJ_CTL.GO (R332, R411): the counter, the armed position triggers, pending start positions and resume positions that
refer to it, and the loops that gear from it. -/
def posAdjust (d c : Nat) (s : State) : State :=
  let delta := rdS (R.CUE.POS_ADJ_DELTA d) s
  let k := counterOf d c s
  let s1 := setCounter d c { k with count := ofSigned 48 ((k.count : Int) + delta) } s
  let s2 := (armedCues d s1).foldl (fun s n =>
    let e := cueEntry d n s
    let r := cueOf d n s
    if cueKind e = 2 ∧ cueCounter e = c then
      cueStore d n (setCue d n { r with arg := ofSigned 48 ((r.arg : Int) + delta)
                                        rearmed := r.rearmed.map (fun x => ofSigned 48 ((x : Int) + delta)) } s)
    else s) s1
  let s3 := (stationsOn d c s2).foldl (fun s k =>
    putResume k (ofSigned 56 ((resumePos k s : Int) + 256 * delta))
      (setStartList k ((startListOf k s).map (fun x => { x with xs := ofSigned 56 ((x.xs : Int) + 256 * delta) })) s)) s2
  gearAdjust d c delta s3

end Sys2Proof.Machine
end

