-- ==== Sys2Proof/Machine/Paths.lean ====
section
/-! DEFINITION. Medium paths: their states, stops, backfeed and jams, but for what frames decide (R345 to R356). -/

namespace Sys2Proof.Machine

/-- The stations of the package, and those of a path (R345). -/
def stationCount (s : State) : Nat := 2 * s.dies

def onPath (k : Nat) (s : State) : Bool := flag (R.CUE.STA_PATH_EN (stDie k) (stLoc k)) s
def pathOf (k : Nat) (s : State) : Nat := rd (R.CUE.STA_PATH_PATH (stDie k) (stLoc k)) s
def pathMembers (p : Nat) (s : State) : List Nat := (List.range (stationCount s)).filter (fun k => onPath k s && pathOf k s == p)

def pathState (p : Nat) (s : State) : Nat := rd (R.CUE.PATH_STAT_STATE 0 p) s
def pathSheet (p : Nat) (s : State) : Bool := flag (R.CUE.PATH_CFG_MODE 0 p) s

/-- The position of a station's path counter (R331). -/
def staPos (k : Nat) (s : State) : Nat := posNow (stDie k) (rd (R.CUE.STA_PATH_COUNTER (stDie k) (stLoc k)) s) s

/-- R342: start events of a station are not delivered now. -/
def startsHeld (k : Nat) (s : State) : Bool :=
  timSt k s == 3 || (onPath k s && (pathState (pathOf k s) s == 2 || pathState (pathOf k s) s == 3 ||
    pathState (pathOf k s) s == 4 || pathState (pathOf k s) s == 5))

/-- A due start event that is held stays pending until X_S is reached again (R342). -/
def dropDue (k : Nat) (s : State) : State :=
  if startsHeld k s then setStartList k ((startListOf k s).map (fun e => { e with due := none })) s else s

/-- An entry has become the oldest of a start list: it is due at once where its X_S has passed (R342). -/
def watchStart (k : Nat) (s : State) : State :=
  match startListOf k s with
  | [] => s
  | e :: rest =>
    if e.due.isNone ∧ !startsHeld k s ∧ passedFine (staPos k s) e.xs then
      setStartList k ({ e with due := some (counterC (stDie k) s) } :: rest) s
    else s

/-- A step of counter `c` of die `d` reaches the start position that is watched (R333, R342). -/
def reachStart (d c : Nat) (up : Bool) (s : State) : State :=
  (stationsOn d c s).foldl (fun s k =>
    match startListOf k s with
    | [] => s
    | e :: rest =>
      let n := counterOf d c s
      if up ∧ e.due.isNone ∧ !startsHeld k s ∧ n.count = e.xs / 256 then
        setStartList k ({ e with due := some (n.time + fineDelay e.xs n) } :: rest) s
      else s) s

/-- In RUNUP, an upward step of counter `c` of die `d` reaches the resume position of a station in HOLD (R333, R352). -/
def reachResume (d c : Nat) (up : Bool) (s : State) : State :=
  (stationsOn d c s).foldl (fun s k =>
    let n := counterOf d c s
    if up && timSt k s == 3 && onPath k s && pathState (pathOf k s) s == 6 && n.count == resumePos k s / 256 then
      setSta k { staOf k s with resDue := some (n.time + fineDelay (resumePos k s) n) } s
    else s) s

/-- The resume event of station `k` is due. -/
def resumeDue (k : Nat) (s : State) : Bool :=
  match (staOf k s).resDue with | some t => decide (t ≤ counterC (stDie k) s) | none => false

/-- A station in HOLD is released as if by its resume event. -/
def releaseHold (k : Nat) (s : State) : State :=
  if timSt k s = 3 then
    let st := staOf k s
    let s1 := setSta k { st with stopping := false, stopLine := none, resWanted := false, resDue := none } s
    enterRun k (if ledBar k s then wr (R.STIM.LG_ACC_A (stDie k) (stLoc k)) st.holdAcc s1 else s1)
  else s

def setPathState (p st : Nat) (s : State) : State := wr (R.CUE.PATH_STAT_STATE 0 p) st s

/-- A path enters RUN: a stop that waits for it (R521) is made at once. -/
def pathRun (p : Nat) (s : State) : State :=
  let s1 := setPathState p 1 s
  if s1.stopAtRun.contains p then
    setPathState p 0 (wr (R.CUE.PATH_CFG_EN 0 p) 0 { s1 with stopAtRun := s1.stopAtRun.filter (· != p) })
  else s1

/-- Entry to DECEL, when every station of the path is in HOLD or OFF (R347, R350). -/
def pathDecel (p : Nat) (s : State) : State :=
  if pathState p s = 2 ∧ (pathMembers p s).all (fun k => timSt k s == 3 || timSt k s == 0) then
    let v := loopS (rd (R.CUE.PATH_CFG_MDIE 0 p) s) (rd (R.CUE.PATH_CFG_MLOOP 0 p) s) s
    setPathState p 3 (pathRunSet p (fun r => { r with vrun := v, cruise := none }) s)
  else s

/-- A station has entered HOLD or OFF. -/
def stationStopped (k : Nat) (s : State) : State := if onPath k s then pathDecel (pathOf k s) s else s

/-- D0 acts on a stop cause (R348, R349); a sheet path never stops (R355). -/
def pathCause (p cause : Nat) (s : State) : State :=
  if pathSheet p s ∨ (pathState p s ≠ 1 ∧ pathState p s ≠ 6) then s
  else
    let s1 := bump (R.CUE.PATH_CNT_STOPS 0 p) (wr (R.CUE.PATH_STAT_CAUSE 0 p) cause (setPathState p 2 s))
    let s2 := (pathMembers p s1).foldl (fun s k =>
      let s1 := if timSt k s = 2 then setSta k { staOf k s with stopping := true } s else s
      dropDue k s1) (evt 0 0x60 5 s1)
    pathDecel p s2

/-- The die that detects a stop cause tells D0 (R348). -/
def sendCause (p cause : Nat) (s : State) : State := { s with msgs := s.msgs ++ [.stopCause p cause] }

def isCause (p : Nat) : Msg → Bool
  | .stopCause p' _ => p' == p
  | _ => false

/-- PATH_STOP_CAUSE (R348): the oldest stop cause of a path reaches D0. -/
def execPathStopCause (p : Nat) (s : State) : Host.Outcome State Fault Refusal :=
  match takeMsg (isCause p) s with
  | some (.stopCause _ c, s1) => .next (pathCause p c s1)
  | _ => .next s

def jamSet (k : Nat) (s : State) : Bool := testBit (rd (R.SPROT.GATE_STAT_LATCH (stDie k) (stLoc k)) s) 3
def anyLatch (k : Nat) (s : State) : Bool := rd (R.SPROT.GATE_STAT_LATCH (stDie k) (stLoc k)) s != 0

/-- A jam latch on a station of a path (R356). -/
def pathJam (p : Nat) (s : State) : State :=
  if pathState p s = 0 ∨ pathState p s = 7 then s else evt 0 0x60 10 (setPathState p 7 s)

/-- PATH_CTL.CLEAR (R356); refused while the master's die is fenced (R496). -/
def pathClear (p : Nat) (s : State) : State :=
  if pathState p s = 7 ∧ !dieFenced (rd (R.CUE.PATH_CFG_MDIE 0 p) s) s ∧ !(pathMembers p s).any (fun k => jamSet k s) then
    evt 0 0x60 7 (pathRun p ((pathMembers p s).foldl (fun s k => releaseHold k s) s))
  else s

/-- PATH_CFG.EN has been written (R347); a jam latch that is set on a station of the path jams it. -/
def pathEnable (p : Nat) (s : State) : State :=
  if !flag (R.CUE.PATH_CFG_EN 0 p) s then
    if pathState p s = 0 then s
    else (pathMembers p s).foldl (fun s k => releaseHold k s) (setPathState p 0 s)
  else if pathState p s = 0 then
    let s1 := pathRun p s
    if (pathMembers p s1).any (fun k => jamSet k s1) then pathJam p s1 else s1
  else s

/-- The earlier of two counts (R11). -/
def earlierCount (a b : Nat) : Nat := if (b + two48 - a % two48) % two48 < two48 / 2 then a else b

/-- The re-armed launch targets on the stations' counters of a path (R351). -/
def rearmedTargets (p : Nat) (s : State) : List Nat :=
  (List.range s.dies).flatMap (fun d =>
    if (pathMembers p s).any (fun k => stDie k == d) then
      (armedCues d s).filterMap (fun n => (cueOf d n s).rearmed)
    else [])

/-- HELD is left for BACKFEED, towards T_b = m − PATH_RUNUP (R351). With no station in HOLD and no re-armed launch m is
open (log 54). -/
def pathBackfeed (p : Nat) (s : State) : State :=
  let held := ((pathMembers p s).filter (fun k => timSt k s == 3)).map (fun k => resumePos k s / 256)
  let r := match held ++ rearmedTargets p s with
    | [] => drawFree s
    | x :: l => (l.foldl earlierCount x, s)
  let tb := (r.1 + two48 - rd (R.CUE.PATH_RUNUP_COUNTS 0 p) r.2) % two48
  setPathState p 5 (wr (R.CUE.PATH_BACK_HI_COUNT 0 p) (tb / 4294967296) (wr (R.CUE.PATH_BACK_LO_COUNT 0 p) tb r.2))

/-- PATH_CTL.RESUME (R351). -/
def pathResume (p : Nat) (s : State) : State := if pathState p s = 4 ∧ !pathSheet p s then pathBackfeed p s else s

/-- The writes of PATH_CTL: STOP, RESUME, CLEAR. -/
def pathCtl (p w : Nat) (s : State) : State :=
  let s1 := if testBit w 0 then pathCause p 4 s else s
  let s2 := if testBit w 1 then pathResume p s1 else s1
  if testBit w 2 then pathClear p s2 else s2

/-- The master's loop of a path: its die and context. -/
def masterLoop (p : Nat) (s : State) : LoopCtx :=
  loopOf (rd (R.CUE.PATH_CFG_MDIE 0 p) s) (rd (R.CUE.PATH_CFG_MLOOP 0 p) s) s

/-- The master is within one count of the backfeed target (log 43). -/
def masterAtTarget (p : Nat) (s : State) : Bool :=
  let d := rd (R.CUE.PATH_CFG_MDIE 0 p) s
  let e := loopEntry d (rd (R.CUE.PATH_CFG_MLOOP 0 p) s) s
  let tb := rd (R.CUE.PATH_BACK_LO_COUNT 0 p) s + 4294967296 * rd (R.CUE.PATH_BACK_HI_COUNT 0 p) s
  decide ((toSigned 56 (((rawSource d (eU e 34 2) s).toNat + two56 - 256 * tb % two56) % two56)).natAbs < 256)

/-- RUNUP is left when every station of the path that was in HOLD has resumed (R347). -/
def pathRunup (p : Nat) (s : State) : State :=
  if pathState p s = 6 ∧ (pathMembers p s).all (fun k => timSt k s != 3) then evt 0 0x60 7 (pathRun p s) else s

/-- PATH_STANDSTILL (R347): the master has come to standstill, in DECEL or at the backfeed target. -/
def execPathStandstill (p : Nat) (s : State) : Host.Outcome State Fault Refusal :=
  let m := masterLoop p s
  if 2 ≤ p ∨ m.s ≠ 0 ∨ m.prof.phase ≠ 0 then .next s
  else if pathState p s = 3 then .next (evt 0 0x60 6 (setPathState p 4 s))
  else if pathState p s = 5 ∧ masterAtTarget p s then
    .next (pathRunup p (setPathState p 6 s))
  else .next s

/-- ρ of R350 in Q1.15. The rounding, and the value while v_run is 0, are open (log 55). -/
def rhoOf (v run : Int) (s : State) : Nat × State :=
  if run = 0 then
    let r := drawFree s
    (r.1 % 32768, r.2)
  else
    let n := v.natAbs * 32768
    let q := n / run.natAbs + (if n % run.natAbs = 0 then 0 else (Config.rotated 42 [v, run] % 2).toNat)
    (Nat.min 0x7FFF q, s)

/-- RHO_BROADCAST (R350): the master's die sends ρ and the cruise flag; the flag is set while the set-point is s_run and its
profile rests (log 56). -/
def execRhoBroadcast (p : Nat) (s : State) : Host.Outcome State Fault Refusal :=
  let d := rd (R.CUE.PATH_CFG_MDIE 0 p) s
  if 2 ≤ p ∨ !blockUp d 0x70 s then .next s
  else
    let m := masterLoop p s
    let run := (pathRunOf p s).vrun
    let v := m.s / unit32
    let cruising := decide (v = run) && m.prof.phase == 0 && decide (run ≠ 0)
    let r := rhoOf v run s
    .next (wr (R.CUE.PATH_STAT_RHO 0 p) r.1 (pathRunSet p (fun x =>
      { x with cruise := if cruising then some (x.cruise.getD r.2.now) else none }) r.2))

/-- The cruise flag has been set for PATH_SETTLE (R352). -/
def cruiseSettled (p : Nat) (s : State) : Bool :=
  match (pathRunOf p s).cruise with
  | some t => decide (t + 100000 * rd (R.CUE.PATH_SETTLE_TIME 0 p) s ≤ s.now)
  | none => false

/-- The run-up check fails at a resume event on die `d` (R352). -/
def runupFailed (d p : Nat) (s : State) : State :=
  let s1 := recordFault d 0x60 5 false (evt d 0x60 9 s)
  sendCause p 5 (wr (R.CUE.PATH_CFG_AUTO 0 p) 0 s1)

/-- R521: a die has entered critical. -/
def criticalStop (d : Nat) (s : State) : State :=
  [0, 1].foldl (fun s p =>
    if (pathMembers p s).any (fun k => stDie k == d) then
      if pathState p s = 1 then pathEnable p (wr (R.CUE.PATH_CFG_EN 0 p) 0 s)
      else if pathState p s = 0 then s
      else wr (R.CUE.PATH_CFG_AUTO 0 p) 0
        { s with stopAtRun := if s.stopAtRun.contains p then s.stopAtRun else p :: s.stopAtRun }
    else s) s

end Sys2Proof.Machine
end

