-- ==== Sys2Proof/Machine/Frames.lean ====
section
/-! DEFINITION. The frame queue: descriptors, submission, admission, spoiling, retention and the freed FIFO (R60 to R95). -/

namespace Sys2Proof.Machine

/-! ### The descriptor of a slot (R67, R68, R70) -/

def slotAddr (i : Nat) : Nat := 0x700000 + 256 * i

/-- The descriptor bytes that slot `i` holds. -/
def descBytes (i : Nat) (s : State) : List Byte := wordBytes (slotAddr i) 64 s

/-- `n` bytes of a slot's descriptor from offset `o`, as a number. -/
def descNum (i o n : Nat) (s : State) : Nat := fieldLe (wordBytes (slotAddr i + o / 4 * 4) 3 s) (o % 4) n

def frameFsn (i : Nat) (s : State) : Nat := descNum i 0 4 s
def frameSheet (i : Nat) (s : State) : Bool := testBit (descNum i 11 1 s) 0
def frameHostCov (i : Nat) (s : State) : Bool := testBit (descNum i 11 1 s) 1
def frameMask (i : Nat) (s : State) : Nat := descNum i 12 2 s
def frameCount (i : Nat) (s : State) : Nat := descNum i 14 1 s
def frameCue (i : Nat) (s : State) : Nat := descNum i 16 2 s % 512
def frameOrigin (i : Nat) (s : State) : Nat := descNum i 40 4 s

def setFrameCount (i v : Nat) (s : State) : State := putBytes (slotAddr i + 14) [BitVec.ofNat 8 v] s

/-- The stations that a mask names. -/
def maskStations (m : Nat) : List Nat := (List.range 16).filter (fun k => testBit m k)

def frameStations (i : Nat) (s : State) : List Nat := maskStations (frameMask i s)

/-- A plane descriptor (R68): format byte, width, lines, stride in bytes, table address. -/
structure PlaneDesc where
  format : Nat
  width : Nat
  lines : Nat
  stride : Nat
  table : Nat
  deriving DecidableEq, Repr

/-- Five numbers of the 13 bytes at an offset of a descriptor. -/
def parsePlane (b : List Byte) (o : Nat) : PlaneDesc :=
  ⟨fieldLe b o 1, fieldLe b (o + 1) 2 + 1, fieldLe b (o + 3) 3, 8 * fieldLe b (o + 6) 2, fieldLe b (o + 8) 5⟩

def planeDesc (i k : Nat) (s : State) : PlaneDesc :=
  parsePlane (wordBytes (slotAddr i + (48 + 13 * k) / 4 * 4) 4 s) ((48 + 13 * k) % 4)

/-- The format code of R60, and what it fixes. -/
def PlaneDesc.code (p : PlaneDesc) : Nat := p.format % 8
def PlaneDesc.carry (p : PlaneDesc) : Bool := testBit p.format 4
def PlaneDesc.contone (p : PlaneDesc) : Bool := decide (4 ≤ p.code)
def PlaneDesc.halfX (p : PlaneDesc) : Bool := p.code == 5 || p.code == 7
def PlaneDesc.halfY (p : PlaneDesc) : Bool := p.code == 6 || p.code == 7
def PlaneDesc.bits (p : PlaneDesc) : Nat := if p.code = 1 then 1 else if p.code = 2 then 2 else if p.code = 3 then 4 else 8
def PlaneDesc.storedWidth (p : PlaneDesc) : Nat := if p.halfX then ceilDiv p.width 2 else p.width
def PlaneDesc.storedLines (p : PlaneDesc) : Nat := if p.halfY then p.lines / 2 else p.lines
/-- Stored lines of a course, and the courses of the plane (R62). -/
def PlaneDesc.courseLines (p : PlaneDesc) : Nat := if p.halfY then 32 else 64
def PlaneDesc.courses (p : PlaneDesc) : Nat := ceilDiv p.lines 64
/-- The addresses of a coverage record and of an index entry (R64). -/
def PlaneDesc.record (p : PlaneDesc) (c : Nat) : Nat := p.table + 80 * c
def PlaneDesc.entry (p : PlaneDesc) (n : Nat) : Nat := p.table + 80 * p.courses + 8 * n

/-- The rectangle at an offset of a descriptor: X0, X1, Y0, Y1. -/
def parseRect (b : List Byte) (o : Nat) : Nat × Nat × Nat × Nat :=
  (fieldLe b o 2, fieldLe b (o + 2) 2, fieldLe b (o + 4) 3, fieldLe b (o + 7) 3)

/-! ### Submission (R71 to R73) -/

/-- R61. -/
def geometryOk (k : Nat) (p : PlaneDesc) (s : State) : Bool :=
  decide (ceilDiv (p.storedWidth * p.bits) 8 ≤ p.stride) && p.stride != 0 &&
    decide (p.width ≤ 8 * rd (R.STA.LINE_LEN_LEN8 (stDie k) (stLoc k)) s) && decide (1 ≤ p.lines) &&
    decide (p.lines ≤ 4194304) && (!p.halfY || p.lines % 2 == 0) && decide (p.courses ≤ 65536)

/-- R64, as far as the first index entry. -/
def tableOk (k : Nat) (p : PlaneDesc) (s : State) : Bool :=
  p.table % 8 == 0 && decide (p.table < 2 ^ 39) && memDie p.table == stDie k &&
    decide (p.table % 0x1000000000 + 80 * p.courses + 8 ≤ fittedBytes (stDie k) s)

/-- The checks of R73 after the slot's, in order; 0: the descriptor passes. -/
def frameReason (b : List Byte) (s : State) : Nat :=
  let ks := maskStations (fieldLe b 12 2)
  let ps := ks.map (fun k => (k, parsePlane b (48 + 13 * k)))
  let fl := fieldLe b 11 1
  let m := parseRect b 18
  let o := parseRect b 28
  if s.lastFsnValid && !later 32 (fieldLe b 0 4) (rd (R.FRAME.LAST_FSN_FSN 0) s) then 2
  else if ks.isEmpty ∨ ks.any (fun k => decide (stationCount s ≤ k) || dieFenced (stDie k) s ||
      !blockOn (stDie k) (staPage (stLoc k)) s) then 3
  else if ps.any (fun x => x.2.code == 0 || decide (32 ≤ x.2.format)) then 4
  else if ps.any (fun x => !geometryOk x.1 x.2 s) then 5
  else if ps.any (fun x => !tableOk x.1 x.2 s) then 6
  else if 16 ≤ fl ∨ fl / 4 % 4 = 3 ∨ fieldLe b 15 1 ≠ 0 ∨ 512 ≤ fieldLe b 16 2 ∨ fieldLe b 38 2 ≠ 0 ∨ fieldLe b 40 4 ≠ 0 ∨
      fieldLe b 44 4 ≠ 0 then 7
  else if m.2.1 < m.1 ∨ m.2.2.2 < m.2.2.1 ∨ o.2.1 < o.1 ∨ o.2.2.2 < o.2.2.1 then 9
  else if fieldLe b 14 1 ≠ 0 ∧ rd (R.FRAME.RET_CFG_LIMIT 0) s = 0 then 10
  else 0

/-- R72: slot `i` is reserved for the host. -/
def hostReserved (i : Nat) (s : State) : Bool :=
  if i < 32 then testBit (rd (R.FRAME.HOST_RES0_MASK 0) s) i else testBit (rd (R.FRAME.HOST_RES1_MASK 0) s) (i - 32)

def slotFree (i : Nat) (s : State) : Bool := (slotOf i s).st == 0

/-- The lowest FREE slot that the controller may take (R72). -/
def openSlot (s : State) : Option Nat := (List.range 64).find? (fun i => slotFree i s && !hostReserved i s)

/-- A rejection (R73). -/
def submitReject (i reason : Nat) (s : State) : State :=
  evt 0 0x48 0 (wr (R.FRAME.SUBMIT_STAT_VALID 0) 1 (wr (R.FRAME.SUBMIT_STAT_REASON 0) reason (wr (R.FRAME.SUBMIT_STAT_SLOT 0) i s)))

/-- No plane of slot `i` is held. -/
def dropPlanes (i : Nat) (s : State) : State := (List.range 16).foldl (fun s k => setPlane i k {} s) s

/-- The descriptor in FREE slot `i` is judged and, if it passes, accepted. -/
def submitSlot (i : Nat) (s0 : State) : State :=
  let r := frameReason (descBytes i s0) s0
  let s := { s0 with lastFsnValid := true }
  if r ≠ 0 then submitReject i r s
  else
    let s1 := wr (R.FRAME.LAST_FSN_FSN 0) (frameFsn i s) (setSlot i { st := 1 } (dropPlanes i s))
    { s1 with msgs := s1.msgs ++ (frameStations i s).map (fun k => .plane i k) }

/-- Q_SUBMIT (R71 to R73). -/
def frameSubmit (i : Nat) (s : State) : State :=
  if slotFree i s && hostReserved i s then submitSlot i s else submitReject i 1 { s with lastFsnValid := true }

/-! ### Planes, lead and the states LOADING to ARMED (R79, R83, R84) -/

def planeComplete (i k : Nat) (s : State) : Bool :=
  (planeOf i k s).got && decide ((planeDesc i k s).courses ≤ (planeOf i k s).surveyed)

/-- The lead of a plane; none: unbounded. -/
def planeLead (i k : Nat) (s : State) : Option Nat :=
  if planeComplete i k s then none else some ((planeOf i k s).surveyed - (planeOf i k s).imaging)

/-- LOADING ends when every course of every plane is surveyed. -/
def surveyedCheck (i : Nat) (s : State) : State :=
  let x := slotOf i s
  if x.st = 1 ∧ !x.left ∧ (frameStations i s).all (fun k => planeComplete i k s) then setSlot i { x with st := 2 } s else s

def isPlaneMsg (i k : Nat) : Msg → Bool
  | .plane i' k' => i' == i && k' == k
  | _ => false

/-- PLANE_DESCRIPTOR_MSG (R73, R74): a plane descriptor reaches its die, which takes up what was declared resident before. -/
def execPlaneDescriptorMsg (i k : Nat) (s : State) : Host.Outcome State Fault Refusal :=
  match takeMsg (isPlaneMsg i k) s with
  | none => .next s
  | some (_, s1) =>
    if (slotOf i s1).st = 0 ∨ dieFenced (stDie k) s1 ∨ (planeOf i k s1).got then .next s1
    else
      let fsn := frameFsn i s1
      let mine (e : Decl) : Bool := e.fsn == fsn && e.station == k
      let d := s1.decls.filter mine
      let extra := d.flatMap (fun e => e.extra)
      let c := absorb extra.length (d.foldl (fun a e => Nat.max a e.count) 0) extra
      .next (setPlane i k { got := true, fsn := fsn, resCount := c.1, resSet := c.2 }
        { s1 with decls := s1.decls.filter (fun e => !mine e) })

/-- D of R84. -/
def admitDist (s : State) : Nat := Nat.max (rd (R.FRAME.ADM_DIST_DIST 0) s) (rd (R.FRAME.ADM_DIST_STOP 0) s + 1)

def leadAtLeast (n i k : Nat) (s : State) : Bool :=
  match planeLead i k s with
  | none => true
  | some l => decide (n ≤ l)

/-- The frame uses streaming admission. -/
def streaming (i : Nat) (s : State) : Bool :=
  match descNum i 11 1 s / 4 % 4 with
  | 0 => !frameSheet i s
  | 1 => false
  | _ => true

/-- R84. -/
def admissible (i : Nat) (s : State) : Bool :=
  if streaming i s then (frameStations i s).all (fun k => leadAtLeast (admitDist s) i k s) else (slotOf i s).st == 2

/-- A retention entry that is free. -/
def freeEntry (s : State) : Option Nat :=
  (List.range (rd (R.FRAME.RET_CFG_LIMIT 0) s)).find? (fun e => (retainedOf e s).use == 0)

/-- FRAME_ADMITTED (R79, R84, R90). -/
def execFrameAdmitted (i : Nat) (s : State) : Host.Outcome State Fault Refusal :=
  let x := slotOf i s
  if 64 ≤ i ∨ x.left ∨ (x.st ≠ 1 ∧ x.st ≠ 2) ∨ !admissible i s then .next s
  else if frameCount i s ≠ 0 ∧ frameOrigin i s = 0 ∧ x.resv.isNone then
    match freeEntry s with
    | none => .next (evt 0 0x48 7 s)
    | some e => .next (evt 0 0x48 1 (setSlot i { x with st := 3, resv := some e } (setRetained e { use := 1 } s)))
  else .next (evt 0 0x48 1 (setSlot i { x with st := 3 } s))

/-- Queued frames that share a station with slot `i`. -/
def sharing (i : Nat) (s : State) : List Nat :=
  (List.range 64).filter (fun j => j != i && !(slotOf j s).left && (frameStations i s).any (fun k => testBit (frameMask j s) k))

/-- FRAME_ARMED (R79). -/
def execFrameArmed (i : Nat) (s : State) : Host.Outcome State Fault Refusal :=
  let x := slotOf i s
  let ahead := (sharing i s).any (fun j =>
    decide (1 ≤ (slotOf j s).st) && decide ((slotOf j s).st ≤ 4) && later 32 (frameFsn i s) (frameFsn j s))
  if 64 ≤ i ∨ x.left ∨ x.st ≠ 3 ∨ ahead = true then .next s else .next (setSlot i { x with st := 4 } s)

/-! ### Leaving the queue: retention and the freed FIFO (R90 to R94) -/

/-- A station drops what it holds of a start of slot `i` (R342). -/
def dropStarts (i k : Nat) (s : State) : State :=
  let l := startListOf k s
  let s1 := if (staOf k s).start.any (fun e => e.slot == i) then setSta k { staOf k s with start := none } s else s
  if l.any (fun e => e.slot == i) then watchStart k (setStartList k (l.filter (fun e => e.slot != i)) s1) else s1

/-- The imaging lanes of a station abandon a frame and its lines go (R129). -/
def dropImaging (i k : Nat) (s : State) : State :=
  let lanes := (List.range 24).filter (fun n =>
    match (mapGet (fun _ => ({} : DecodeLane)) s.dlanes (32 * stDie k + n)).work with
    | some (.image i' k' _) => i' == i && k' == k
    | _ => false)
  let s1 := lanes.foldl (fun s n =>
    let l := mapGet (fun _ => ({} : DecodeLane)) s.dlanes (32 * stDie k + n)
    { s with dlanes := mapSet (fun _ => {}) s.dlanes (32 * stDie k + n) { l with work := none } }) s
  let im := mapGet (fun _ => ({} : Imager)) s1.imagers k
  let im1 := { im with
    flying := im.flying.filter (fun f => f.1 != i), redo := im.redo.filter (fun f => f.1 != i)
    held := im.held.filter (fun h => h.slot != i), finished := im.finished.filter (· != i) }
  let im2 := if im.slot = some i then
    { im1 with slot := none, next := 0, nextLine := 0, skipTo := 0, carry := {} } else im1
  { s1 with imagers := mapSet (fun _ => {}) s1.imagers k im2 }

/-- The first LSN that a station has not yet fired. -/
def firstUnfired (k : Nat) (s : State) : Nat :=
  let st := staOf k s
  match st.placed, st.found with
  | p :: _, _ => p.lsn
  | [], f :: _ => f.lsn
  | [], [] => st.ptr

/-- A frame is spoiled, aborted or given up on a station: it blanks from its next line, the lines from there formed already are
formed again (log 58), and its coverage entries are cancelled (R86, R214, R421). -/
def spoilStation (i k : Nat) (s : State) : State :=
  let fsn := frameFsn i s
  let at0 := firstUnfired k s
  let st := staOf k s
  let mine (p : StaPlane) : Bool := p.slot == i && p.fsn == fsn && !p.done && p.ended.isNone
  let s1 := if st.planes.any mine then
      let s1 := setSta k { st with
        form := Nat.min st.form at0
        planes := st.planes.map (fun p => if mine p then { p with ended := some at0, cov := 0 } else p) } s
      if flag (R.LOOP.CFF_ROUTE_EN (stDie k) (stLoc k)) s then
        { s1 with msgs := s1.msgs ++ [.cffCancel (rd (R.LOOP.CFF_ROUTE_DIE (stDie k) (stLoc k)) s) fsn] }
      else s1
    else s
  dropStarts i k (dropImaging i k s1)

/-- Slot `i` becomes FREE. -/
def freeSlot (i : Nat) (s : State) : State :=
  let s1 := match (slotOf i s).resv with
    | some e => if (retainedOf e s).use = 1 then setRetained e {} s else s
    | none => s
  dropPlanes i (setSlot i {} ((frameStations i s).foldl (fun s k => spoilStation i k s) s1))

/-- An FSN enters the freed FIFO. -/
def pushFreed (fsn : Nat) (s : State) : State := evt 0 0x48 4 { s with freed := s.freed ++ [fsn] }

/-- What waits is completed: its FSN enters and the slot or the entry is freed. -/
def freedDone (w : FreedWait) (s : State) : State :=
  match w with
  | .slot i => freeSlot i (pushFreed (frameFsn i s) s)
  | .entry e => setRetained e {} (pushFreed (retainedOf e s).fsn s)

/-- Waiting FSNs enter in order while there is room (R94). -/
def drainFreed : List FreedWait → State → State
  | [], s => { s with freedWait := [] }
  | w :: t, s => if s.freed.length < 128 then drainFreed t (freedDone w s) else { s with freedWait := w :: t }

/-- Something becomes due to put an FSN into the freed FIFO. -/
def queueFreed (w : FreedWait) (s : State) : State :=
  if s.freedWait.contains w then s
  else if s.freedWait.isEmpty ∧ s.freed.length < 128 then freedDone w s
  else evt 0 0x48 9 { s with freedWait := s.freedWait ++ [w] }

/-- The retention entry of a RETAINED FSN, released or not. -/
def entryOf (fsn : Nat) (s : State) : Option Nat :=
  (List.range (rd (R.FRAME.RET_CFG_LIMIT 0) s)).find? (fun e => (retainedOf e s).use == 2 && (retainedOf e s).fsn == fsn)

/-- A reprint of an FSN is in a queue slot. -/
def reprinting (fsn : Nat) (s : State) : Bool :=
  (List.range 64).any (fun i => (slotOf i s).st != 0 && frameOrigin i s == fsn && frameOrigin i s != 0)

/-- R93: an entry that is no longer needed is freed. -/
def entryCheck (fsn : Nat) (s : State) : State :=
  match entryOf fsn s with
  | none => s
  | some e =>
    let r := retainedOf e s
    if (r.released || r.count == 0) && !reprinting fsn s then queueFreed (.entry e) s else s

/-- The address of a retention entry (R90). -/
def retAddr (e : Nat) (s : State) : Nat :=
  8 * rd (R.FRAME.RET_BASE_LO_ADDR 0) s + 0x100000000 * rd (R.FRAME.RET_BASE_HI_ADDR 0) s + 256 * e

/-- The remaining count of an entry, in the copy's byte 14 too. -/
def setEntryCount (e n : Nat) (s : State) : State :=
  agentPut agOther (retAddr e s + 14) [BitVec.ofNat 8 n] (setRetained e { retainedOf e s with count := n } s)

/-- The origin of a reprint gets its copy back (R92). -/
def giveBack (fsn : Nat) (s : State) : State :=
  match entryOf fsn s with
  | some e =>
    let r := retainedOf e s
    if r.count = 255 then s else setEntryCount e (r.count + 1) s
  | none => s

/-- A frame leaves for FREE: a reprint at once, any other through the freed FIFO. -/
def goFree (i : Nat) (s : State) : State :=
  let o := frameOrigin i s
  if o ≠ 0 then entryCheck o (freeSlot i s) else queueFreed (.slot i) s

/-- A frame leaves for RETAINED with its count (R90). -/
def goRetained (i : Nat) (s : State) : State :=
  match (slotOf i s).resv with
  | none => goFree i s
  | some e =>
    let s1 := agentPut agOther (retAddr e s) (descBytes i s) s
    freeSlot i (setRetained e { use := 2, fsn := frameFsn i s, count := frameCount i s } s1)

/-- FRAME_RETIRE (R79, R92): a frame leaves DONE. -/
def execFrameRetire (i : Nat) (s : State) : Host.Outcome State Fault Refusal :=
  let x := slotOf i s
  if 64 ≤ i ∨ x.st ≠ 6 then .next s
  else if frameOrigin i s = 0 ∧ frameCount i s ≠ 0 then .next (goRetained i s) else .next (goFree i s)

/-! ### Spoiling (R86 to R89) -/

/-- How a spoiled frame leaves SPOILED (R88, R92): 0 FREE, 1 requeued, 2 RETAINED. -/
def spoilOutcome (i : Nat) (s : State) : Nat :=
  let x := slotOf i s
  if x.cause = 13 ∨ x.spoiledIn ≤ 3 then 0
  else if frameOrigin i s ≠ 0 then (if frameSheet i s then 1 else 0)
  else if frameCount i s = 0 then 0
  else if frameSheet i s then 1 else 2

def logSpoil (e : SpoilEntry) (s : State) : State :=
  if s.spoilLog.length < 16 then { s with spoilLog := s.spoilLog ++ [e] }
  else wr (R.FRAME.SPOIL_STAT_OVF 0) 1 (bump (R.FRAME.SPOIL_STAT_LOST 0) s)

/-- A sheet frame that has been launched is purged, but for a jam and an abort (R355). -/
def spoilPurge (i cause : Nat) (s : State) : State :=
  match (slotOf i s).xf with
  | some (p, xf) => if frameSheet i s ∧ cause ≠ 5 ∧ cause ≠ 13 then purgeRequest p (frameFsn i s) xf s else s
  | none => s

/-- A second cause reaches a spoiled frame in the nanosecond of the first: the lower code is recorded (R87; log 147). -/
def spoilAgain (i cause k : Nat) (s : State) : State :=
  let x := slotOf i s
  if x.st = 7 ∧ x.left = false ∧ x.spoilAt = s.now ∧ cause < x.cause then
    let station := if x.begun.isEmpty then x.spoilStation else k
    let course := if x.begun.isEmpty then 0 else (planeOf i k s).imaging
    let s1 := setSlot i { x with cause := cause, spoilStation := station, spoilCourse := course } s
    let out := spoilOutcome i s1
    let s2 := { s1 with spoilLog := s1.spoilLog.map (fun e =>
      if e.fsn = frameFsn i s ∧ e.cause = x.cause then ⟨e.fsn, cause, station, course, out == 1, out == 2⟩ else e) }
    if x.cause = 5 ∨ x.cause = 13 then spoilPurge i cause s2 else s2
  else s

/-- A frame is spoiled with a cause that station `k` has met; LOADING to ADMITTED only for the causes of a whole die (R79). -/
def spoilFrame (i cause k : Nat) (s : State) : State :=
  let x := slotOf i s
  let early := decide (1 ≤ x.st) && decide (x.st ≤ 3) && (cause == 10 || cause == 11 || cause == 12)
  if x.left ∨ !(x.st == 4 || x.st == 5 || early) = true then spoilAgain i cause k s
  else
    let fsn := frameFsn i s
    let onDie := (frameStations i s).find? (fun j => stDie j == stDie k)
    let station := if x.begun.isEmpty then onDie.getD k else k
    let course := if x.begun.isEmpty then 0 else (planeOf i k s).imaging
    let s1 := setSlot i { x with st := 7, cause := cause, spoiledIn := x.st, spoilStation := station, spoilCourse := course, spoilAt := s.now } s
    let out := spoilOutcome i s1
    let s2 := evt 0 0x48 3 (logSpoil ⟨fsn, cause, station, course, out == 1, out == 2⟩ { s1 with spoils := s1.spoils + 1 })
    spoilPurge i cause ((frameStations i s).foldl (fun s j => spoilStation i j s) s2)

/-- Every frame that a station is imaging is spoiled; a frame that it was imaging until this nanosecond has met the cause too
(R87). -/
def spoilImaging (k cause : Nat) (s : State) : State :=
  (List.range 64).foldl (fun s i =>
    let x := slotOf i s
    if (x.st = 5 ∨ x.st = 7 ∧ x.spoiledIn = 5 ∧ x.spoilAt = s.now) ∧ x.begun.contains k ∧ !x.ended.contains k then
      spoilFrame i cause k s else s) s

/-- Every frame with a plane on a die is spoiled (R495, R522, R548). -/
def spoilDie (d cause : Nat) (s : State) : State :=
  (List.range 64).foldl (fun s i =>
    match (frameStations i s).find? (fun k => stDie k == d) with
    | some k => if (slotOf i s).st = 0 then s else spoilFrame i cause k s
    | none => s) s

/-- Every frame that is not FREE or RETAINED is spoiled (R496). -/
def spoilAll (cause : Nat) (s : State) : State :=
  (List.range 64).foldl (fun s i =>
    match frameStations i s with
    | k :: _ => if (slotOf i s).st = 0 then s else spoilFrame i cause k s
    | [] => s) s

/-- A requeued frame returns to SURVEYED, and ARMED frames that share a station to ADMITTED (R88, R92), so the requeued frame is
decoded before them (R126). -/
def requeue (i : Nat) (s : State) : State :=
  let x := slotOf i s
  let s1 := if frameOrigin i s = 0 ∧ frameCount i s ≠ 255 then setFrameCount i (frameCount i s - 1) s else s
  let s2 := setSlot i { st := 2, resv := x.resv } s1
  let s3 := (frameStations i s).foldl (fun s k => setPlane i k { planeOf i k s with imaging := 0 } s) s2
  (sharing i s3).foldl (fun s j => if (slotOf j s).st = 4 then
      (frameStations j s).foldl (fun s k => dropImaging j k s) (setSlot j { slotOf j s with st := 3 } s) else s) s3

/-- SPOILED_EXIT (R88, R92). -/
def execSpoiledExit (i : Nat) (s : State) : Host.Outcome State Fault Refusal :=
  let x := slotOf i s
  if 64 ≤ i ∨ x.st ≠ 7 ∨ x.left ∨ s.freedWait.contains (.slot i) then .next s
  else
    match spoilOutcome i s with
    | 1 => .next (requeue i s)
    | 2 => .next (goRetained i s)
    | _ => .next (goFree i (if frameOrigin i s ≠ 0 then giveBack (frameOrigin i s) s else s))

/-- A station has fired, or passed over, the last line of a plane (R79). -/
def planeFinished (i k : Nat) (s : State) : State :=
  let x := slotOf i s
  let x1 := { x with ended := if x.ended.contains k then x.ended else k :: x.ended }
  if x.st = 5 ∧ (frameStations i s).all (fun j => x1.ended.contains j) then evt 0 0x48 2 (setSlot i { x1 with st := 6 } s)
  else setSlot i x1 s

/-- A station begins a frame (R79, R81). -/
def frameBegun (i k : Nat) (s : State) : State :=
  let x := slotOf i s
  setSlot i { x with st := if x.st = 4 then 5 else x.st, begun := if x.begun.contains k then x.begun else k :: x.begun } s

/-! ### Commands of the host (R91, R93, R95) -/

/-- CMD_STAT takes the outcome of a command. -/
def cmdResult (cmd result slot : Nat) (s : State) : State :=
  evt 0 0x48 8 (putWord (R.FRAME.CMD_STAT_VALID 0).addr (BitVec.ofNat 32 (result + 16 * cmd + 256 * slot + 2147483648)) s)

/-- The bytes of a retained descriptor; an access that page memory refuses or cannot correct leaves them open (log 57). -/
def entryBytes (e : Nat) (s : State) : List Byte × State :=
  match agentRead agOther (retAddr e s) 256 s with
  | (.ok b, s1) => (b, s1)
  | (_, s1) => freeBytes 256 s1

/-- REPRINT_CTL.GO (R91). -/
def reprintGo (s : State) : State :=
  let fsn := rd (R.FRAME.REPRINT_FSN_FSN 0) s
  let new := rd (R.FRAME.REPRINT_NEW_FSN 0) s
  match entryOf fsn s with
  | none => cmdResult 1 1 0 s
  | some e =>
    let r := retainedOf e s
    if r.released then cmdResult 1 1 0 s
    else if r.count = 0 then cmdResult 1 3 0 s
    else if s.lastFsnValid && !later 32 new (rd (R.FRAME.LAST_FSN_FSN 0) s) then cmdResult 1 4 0 s
    else
      match openSlot s with
      | none => cmdResult 1 2 0 s
      | some i =>
        let c := entryBytes e s
        let cue := if flag (R.FRAME.REPRINT_CTL_CUE_OVR 0) s then leBytes 2 (rd (R.FRAME.REPRINT_CTL_CUE 0) s)
          else (c.1.drop 16).take 2
        let b := leBytes 4 new ++ ((c.1.drop 4).take 10) ++ [0] ++ ((c.1.drop 15).take 1) ++ cue ++ ((c.1.drop 18).take 22) ++
          leBytes 4 fsn ++ c.1.drop 44
        let s1 := putBytes (slotAddr i) b (dropPlanes i c.2)
        let s2 := wr (R.FRAME.LAST_FSN_FSN 0) new { setSlot i { st := 2 } s1 with lastFsnValid := true }
        let s3 := (frameStations i s2).foldl (fun s k =>
          setPlane i k { got := true, fsn := new, surveyed := (planeDesc i k s).courses } s) s2
        cmdResult 1 0 i (if r.count = 255 then s3 else setEntryCount e (r.count - 1) s3)

/-- RELEASE (R93). One that names an entry released before, which still waits, is done again without effect (DESIGN CHOICE, log
148). -/
def frameRelease (fsn : Nat) (s : State) : State :=
  match entryOf fsn s with
  | some e =>
    cmdResult 2 0 0 (entryCheck fsn (setRetained e { retainedOf e s with released := true } s))
  | none => cmdResult 2 1 0 s

/-- ABORT (R95). The spoil log names the first station that has begun an imaging frame (DESIGN CHOICE, log 145). -/
def frameAbort (fsn : Nat) (s : State) : State :=
  match slotOfFsn fsn s with
  | none => cmdResult 3 1 0 s
  | some i =>
    let x := slotOf i s
    if x.st = 5 then
      let s1 := spoilFrame i 13 (x.begun.getLastD 0) s
      cmdResult 3 0 0 s1
    else if frameOrigin i s ≠ 0 then cmdResult 3 0 0 (goFree i (giveBack (frameOrigin i s) s))
    else
      let s1 := match x.resv with
        | some e => setRetained e {} (setSlot i { x with resv := none } s)
        | none => s
      let s2 := (frameStations i s).foldl (fun s k => spoilStation i k s) s1
      let s3 := setSlot i { slotOf i s2 with left := true, st := 7 } s2
      cmdResult 3 0 0 (queueFreed (.slot i) s3)

/-- FREED_FSN: the oldest entry goes, and what waits enters. -/
def freedPop (s : State) : State := let s1 := { s with freed := s.freed.drop 1 }; drainFreed s1.freedWait s1

/-- SPOIL_INFO: a read removes the oldest entry. -/
def spoilPop (s : State) : State := { s with spoilLog := s.spoilLog.drop 1 }

/-- R85: in web mode, imaging stops when the lead of a plane of a frame falls below the stop threshold. -/
def leadCheck (i k : Nat) (s : State) : State :=
  if !frameSheet i s && onPath k s && !leadAtLeast (rd (R.FRAME.ADM_DIST_STOP 0) s) i k s then
    sendCause (pathOf k s) 1 s else s

/-- The leads of the planes that station `k` images are judged again (R85). -/
def leadCheckStation (k : Nat) (s : State) : State :=
  (staOf k s).planes.foldl (fun s p => if p.ended.isNone && !p.done && p.fired then leadCheck p.slot k s else s) s

/-- The stop threshold has been written: every lead is judged against it (R85). -/
def leadCheckAll (s : State) : State := (List.range 16).foldl (fun s k => leadCheckStation k s) s

end Sys2Proof.Machine
end

