-- ==== Sys2Proof/Machine/StationFence.lean ====
section
/-! DEFINITION. The enable gate of a station, its timing going to OFF, and the fencing of a station (R247, R270, R290, R299 to
R306, R492 to R494). -/

namespace Sys2Proof.Machine

/-- A refused write of a station: STA.EVT_STAT bit 1, and REFUSE_LOG if it is free. A write through BAR2 to a register whose fields
are all privileged leaves the same record (DESIGN CHOICE, log 141). -/
def stationRefuse (k kind addr : Nat) (s : State) : State :=
  let d := stDie k
  let l := stLoc k
  let s1 := if flag (R.STA.REFUSE_LOG_VALID d l) s then s
    else wr (R.STA.REFUSE_LOG_VALID d l) 1 (wr (R.STA.REFUSE_LOG_KIND d l) kind (wr (R.STA.REFUSE_LOG_ADDR d l) addr s))
  evt d (staPage l) 1 s1

/-- The faults that a station's gates and latches read (GATE_STAT.LATCH bits): ILK, HOK, PAPER, JAM, HOT. -/
def latches (k : Nat) (s : State) : Nat := rd (R.SPROT.GATE_STAT_LATCH (stDie k) (stLoc k)) s

def setLatch (k bit : Nat) (v : Bool) (s : State) : State := setBitOf (R.SPROT.GATE_STAT_LATCH (stDie k) (stLoc k)) bit v s

/-- Every condition of R299 holds. A LEN that is high stays so while the gate of a PAPER, JAM or HOT latch waits for its line
boundary (R300). -/
def lenAllowed (k : Nat) (s : State) : Bool :=
  let d := stDie k
  let l := stLoc k
  let st := staOf k s
  let held := latches k s
  s.ilkIn && s.hokIn.contains k && !isFenced (.station k) s &&
    dieUp d s && !s.safeStop && blockUp d (sprotPage l) s && flag (R.SPROT.LEN_CTL_EN d l) s &&
    (timSt k s == 2 || timSt k s == 3) &&
    (held == 0 || (flag (R.SPROT.GATE_STAT_LEN d l) s && timSt k s == 2 && st.gateAt.isSome && !st.gated && held % 4 == 0))

/-- LEN_Sk follows its conditions (R299). -/
def lenUpdate (k : Nat) (s : State) : State :=
  let was := flag (R.SPROT.GATE_STAT_LEN (stDie k) (stLoc k)) s
  let v := lenAllowed k s
  if v = was then s
  else if v then wr (R.SPROT.GATE_STAT_LEN (stDie k) (stLoc k)) 1 s
  else evt (stDie k) (sprotPage (stLoc k)) 0 (wr (R.SPROT.GATE_STAT_LEN (stDie k) (stLoc k)) 0 s)

/-- The timing goes to OFF (R247): what was placed or found is dropped, the LSN stands. -/
def timingOff (k : Nat) (s : State) : State :=
  let d := stDie k
  let p := stimPage (stLoc k)
  let st := staOf k s
  let t := timSt k s
  if t = 0 then s
  else
    let at0 := firstUnfired k s
    let s1 := setSta k { st with
      ptr := at0, form := at0, src := at0, ahead := [], placed := [], found := [], strobeTag := none, boundary := false, lines := [], start := none, beam := {}
      stopping := false, stopLine := none, resWanted := false, runEdge := false, owed := 0 } s
    let s2 := wr (R.STIM.TSTAT_STATE d (stLoc k)) 0 (wr (R.STIM.TSTAT_FID_OK d (stLoc k)) 0 s1)
    let s3 := if t = 2 then evt d p 1 s2 else s2
    stationStopped k (lenUpdate k (spoilImaging k 9 s3))

/-- Station `k` is fenced: its frames are spoiled, its timing goes off, LEN falls, its session closes (R290, R492). -/
def stationFence (k : Nat) (s : State) : State :=
  if isFenced (.station k) s then { s with unfPending := s.unfPending.filter (· != k) }
  else
    let s1 := spoilImaging k 9 s
    let s2 := addFence (.station k) { s1 with unfPending := s1.unfPending.filter (· != k) }
    let st := staOf k s2
    let s3 := setSta k { st with fenceAt := none, dutyBad := false } s2
    let s4 := lenUpdate k (timingOff k s3)
    headForm k (closeSession k s4)

/-- The timing goes to OFF on command: a fence that waits for an edge takes effect at once (R304; log 65). -/
def timingEnd (k : Nat) (s : State) : State :=
  if (staOf k s).fenceAt.isSome then stationFence k (timingOff k s) else timingOff k s

/-- A fault of a station page without a reaction of its own beside the fence (R241, R270, R292, R308): class U fences. -/
def stationFault (k p src : Nat) (forced : Bool) (s : State) : State :=
  let s1 := recordFault (stDie k) p src forced s
  if faultClass p src = 2 then stationFence k s1 else s1

/-- The line boundary of R300 for a cause judged now: 50 ns on, in ticks of the die. -/
def gateTick (k : Nat) (s : State) : Nat := 16 * counterC (stDie k) s + 800

/-- A gate is closed at the next line boundary (R300). Without an edge pending the boundary is the next edge placed. -/
def gateAtBoundary (k : Nat) (s : State) : State :=
  let st := staOf k s
  setSta k { st with gateAt := some (st.gateAt.getD (gateTick k s)) } s

/-- The first PAPER, JAM or HOT latch opens a new wait for a boundary (R300). -/
def gateFresh (k : Nat) (s : State) : State :=
  if latches k s < 4 then setSta k { staOf k s with gated := false, gateAt := none } s else s

end Sys2Proof.Machine
end

