-- ==== Sys2Proof/Machine/Survey.lean ====
section
/-! DEFINITION. Decode lanes: their roles, the survey of ashlars and of carry-mode streams, and coverage records (R66, R74 to
R77, R112, R115 to R136). -/

namespace Sys2Proof.Machine

/-! ### Lanes and roles (R123, R125) -/

def dlaneOf (d n : Nat) (s : State) : DecodeLane := mapGet (fun _ => {}) s.dlanes (32 * d + n)
def setDlane (d n : Nat) (v : DecodeLane) (s : State) : State := { s with dlanes := mapSet (fun _ => {}) s.dlanes (32 * d + n) v }

/-- The role of decode lane `n`: 0 survey, 1 and 2 imaging local station 0 and 1, 3 fenced. -/
def roleLoc (d n : Nat) : Loc :=
  if n < 16 then ⟨(R.CODEC.LANE_ROLE0_ROLE d).addr, 2 * n, 2⟩ else ⟨(R.CODEC.LANE_ROLE1_ROLE d).addr, 2 * (n - 16), 2⟩

def decodeRole (d n : Nat) (s : State) : Nat := rd (roleLoc d n) s

/-- The lane may work. -/
def dlaneOn (d n : Nat) (s : State) : Bool := blockUp d 0x40 s && decide (n < 24) && decodeRole d n s != 3 && !dieFenced d s

/-- The survey lanes that are free. -/
def freeSurveyLanes (d : Nat) (s : State) : List Nat :=
  (List.range 24).filter (fun n => decodeRole d n s == 0 && (dlaneOf d n s).work.isNone && (dlaneOf d n s).takeover.isNone)

/-! ### Coverage (R60, R66, R69) -/

/-- The part of a plane that the quoin mask passes: x0, x1, y0, y1, clipped to the plane. -/
def maskRect (i k : Nat) (s : State) : Nat × Nat × Nat × Nat :=
  let b := descBytes i s
  let p := planeDesc i k s
  let m := parseRect b 18
  let o := parseRect b 28
  let r := if frameSheet i s then (Nat.max m.1 o.1, Nat.min m.2.1 o.2.1, Nat.max m.2.2.1 o.2.2.1, Nat.min m.2.2.2 o.2.2.2) else m
  (r.1, Nat.min r.2.1 (p.width - 1), r.2.2.1, Nat.min r.2.2.2 (p.lines - 1))

/-- The stored pixels of a stored line. -/
def storedPixels (p : PlaneDesc) (row : List Byte) : List Nat := (unpack p.bits row).take p.storedWidth

/-- The stored value that covers each output pixel of a line. -/
def outputPixels (p : PlaneDesc) (row : List Byte) : List Nat :=
  let px := storedPixels p row
  (if p.halfX then px.flatMap (fun v => [v, v]) else px).take p.width

/-- The coverage level of a stored value (R60). -/
def coverLevel (p : PlaneDesc) (v : Nat) : Nat := match p.code with | 1 => 15 * v | 2 => 5 * v | _ => v

def inMask (r : Nat × Nat × Nat × Nat) (x y : Nat) : Bool :=
  decide (r.1 ≤ x) && decide (x ≤ r.2.1) && decide (r.2.2.1 ≤ y) && decide (y ≤ r.2.2.2)

def sat32 (n : Nat) : Nat := Nat.min n 0xFFFFFFFF

/-- The coverage levels of one output line, 0 outside the mask. -/
def lineLevels (p : PlaneDesc) (r : Nat × Nat × Nat × Nat) (y : Nat) (row : List Byte) : List Nat :=
  (outputPixels p row).zipIdx.map (fun e => if inMask r e.2 y then coverLevel p e.1 else 0)

/-- The 16 zone sums of one output line. -/
def lineZones (p : PlaneDesc) (r : Nat × Nat × Nat × Nat) (y : Nat) (row : List Byte) : List Nat :=
  let z := 8 * ceilDiv p.width 128
  let l := lineLevels p r y row
  (List.range 16).map (fun j => ((l.drop (z * j)).take z).sum)

/-- The output lines that a stored line covers. -/
def outputLines (p : PlaneDesc) (t : Nat) : List Nat := if p.halfY then [2 * t, 2 * t + 1] else [t]

def addZones (a b : List Nat) : List Nat := List.zipWith (fun x y => sat32 (x + y)) a b

def noZones : List Nat := List.replicate 16 0

/-- The zone sums of stored lines from `first` on. -/
def rowsZones (p : PlaneDesc) (r : Nat × Nat × Nat × Nat) (first : Nat) (rows : List (List Byte)) : List Nat :=
  rows.zipIdx.foldl (fun a e => (outputLines p (first + e.2)).foldl (fun a y => addZones a (lineZones p r y e.1)) a) noZones

/-- The output lines of a course (R62). -/
def courseOut (p : PlaneDesc) (c : Nat) : Nat := Nat.min 64 (p.lines - 64 * c)

/-- Stored lines of a course. -/
def courseStored (p : PlaneDesc) (c : Nat) : Nat := Nat.min p.courseLines (p.storedLines - p.courseLines * c)

/-- R76: the coverage record of a course is written with VALID. -/
def writeRecord (i k c ashlars : Nat) (zones : List Nat) (s : State) : State :=
  let p := planeDesc i k s
  let host := frameHostCov i s
  let total := sat32 zones.sum
  let a := p.record c
  let s1 := agentPut agCodec a (leBytes 2 c ++ leBytes 1 (courseOut p c) ++ leBytes 1 (1 + 2 * b2n host) ++
    leBytes 2 ashlars ++ [0, 0]) s
  let s2 := agentPut agCodec (a + 12) (leBytes 4 total) s1
  if host then s2
  else agentPut agCodec (a + 16) (zones.flatMap (fun z => leBytes 4 z)) (agentPut agCodec (a + 8) (leBytes 4 total) s2)

/-- VALID is cleared in the records of courses `c` to the last (R77). -/
def clearRecords (i k c : Nat) (s : State) : State :=
  let p := planeDesc i k s
  (List.range (p.courses - c)).foldl (fun s j =>
    let a := p.record (c + j) + 3
    let f := (memGet a s).toNat
    if f % 2 = 1 then agentPut agCodec a [BitVec.ofNat 8 (f - 1)] s else s) s

/-- A survey failure (R77, R120). -/
def surveyFail (k fsn n reason : Nat) (s : State) : State :=
  let d := stDie k
  let s1 := if flag (R.FRAME.SURV_FAIL0_VALID d) s then s
    else wr (R.FRAME.SURV_FAIL1_FSN d) fsn (putWord (R.FRAME.SURV_FAIL0_VALID d).addr
      (BitVec.ofNat 32 (n % 65536 + 65536 * stLoc k + 1048576 * reason + 2147483648)) s)
  evt d 0x48 5 (bump (R.FRAME.SURV_CNT_FAILS d) s1)

/-! ### Ashlars (R75, R112) -/

/-- The line count in an ashlar's header as it stands. -/
def peekLines (p : PlaneDesc) (n : Nat) (s : State) : Nat := peekLinesAt (p.entry n) s

/-- R112: ashlar `n` is read and checked; its lines begin at stored line `first`. An error is a reason code of R77. -/
def readAshlar (p : PlaneDesc) (d n first : Nat) (s : State) : Except Nat (List (List Byte)) × State :=
  match agentRead agCodec (p.entry n) 8 s with
  | (.refused, s1) => (.error 5, s1)
  | (.bad, s1) => (.error 8, s1)
  | (.ok e, s1) =>
    let a := fieldLe e 0 5
    let len := fieldLe e 5 3
    if len < 16 ∨ 2 ^ 39 ≤ a ∨ memDie a ≠ d ∨ fittedBytes d s1 < a % 0x1000000000 + len then (.error 5, s1)
    else
      match readDbf a len p.stride (Nat.min (p.courseLines - first % p.courseLines) (p.storedLines - first)) s1 with
      | (.ok (h, r), s2) => (.ok (pieces h.lines p.stride r), s2)
      | (.error e, s2) => (.error (Nat.min e 8), s2)

/-- The queue state allows the survey of slot `i`'s planes, and the plane is of this frame. -/
def surveyable (i k : Nat) (s : State) : Bool :=
  let x := slotOf i s
  decide (1 ≤ x.st) && decide (x.st ≤ 5) && !x.left && (planeOf i k s).got

/-- The next ashlar of a plane that a survey lane may begin (R75, R77): none later than a failed one. -/
def nextAshlar (i k : Nat) (s : State) : Option Nat :=
  let p := planeDesc i k s
  let q := planeOf i k s
  let n := q.starts.length - 1
  if !surveyable i k s || p.carry || planeComplete i k s then none
  else match q.redo.filter (fun m => match q.failed with | some f => decide (m < f) | none => true) with
    | m :: t => some (t.foldl Nat.min m)
    | [] =>
      if q.failed.isNone ∧ n < q.resCount ∧ q.starts.getLastD 0 < p.storedLines ∧ n < 65536 then some n else none

/-- A carry-mode stream that a survey lane may begin or take up (R119, R132). -/
def carryReady (i k : Nat) (s : State) : Bool :=
  let q := planeOf i k s
  surveyable i k s && (planeDesc i k s).carry && !planeComplete i k s && q.carry.failedAt.isNone && decide (1 ≤ q.resCount) &&
    (List.range 24).all (fun n => (dlaneOf (stDie k) n s).work != some (.carry i k))

/-- The survey work that waits on a die, in slot order. -/
def surveyWork (d : Nat) (s : State) : List (Nat × Nat) :=
  (List.range 64).flatMap (fun i => [2 * d, 2 * d + 1].filterMap (fun k =>
    if (nextAshlar i k s).isSome || carryReady i k s then some (i, k) else none))

/-- The plane whose work a free survey lane takes first (R130): the earliest FSN, then the lower station. -/
def firstWork (d : Nat) (s : State) : Option (Nat × Nat) :=
  (surveyWork d s).foldl (fun best x =>
    match best with
    | none => some x
    | some b => if later 32 (frameFsn b.1 s) (frameFsn x.1 s) then some x else some b) none

/-- SURVEY_ASHLAR_START (R75, R130). -/
def execSurveyAshlarStart (d n i k : Nat) (s : State) : Host.Outcome State Fault Refusal :=
  if !dlaneOn d n s || decodeRole d n s != 0 || (dlaneOf d n s).work.isSome || (dlaneOf d n s).takeover.isSome ||
      stDie k != d || firstWork d s != some (i, k) then .next s
  else
    match nextAshlar i k s with
    | none => .next s
    | some m =>
      let q := planeOf i k s
      let next := q.starts.length - 1
      let q1 : Plane := if m = next ∧ !q.redo.contains m then
          { q with starts := q.starts ++ [q.starts.getLastD 0 + peekLines (planeDesc i k s) m s], busy := m :: q.busy }
        else { q with redo := q.redo.filter (· != m), busy := m :: q.busy }
      .next (setDlane d n { work := some (.survey i k m), since := s.now } (setPlane i k q1 s))

/-- The courses of a plane whose stored lines have all passed, from `c` on without a gap; at most `fuel` more. -/
def coursesPassed (p : PlaneDesc) (passed : List Passed) : Nat → Nat → Nat
  | 0, c => c
  | fuel + 1, c =>
    let lines := ((passed.filter (fun a => a.first / p.courseLines == c)).map (fun a => a.lines)).sum
    if c < p.courses ∧ courseStored p c ≤ lines then coursesPassed p passed fuel (c + 1) else c

/-- An ashlar has passed: its course's record is written when the course is whole, and S_p follows (R76, R83). -/
def ashlarPassed (i k : Nat) (a : Passed) (s : State) : State :=
  let p := planeDesc i k s
  let q := planeOf i k s
  let passed := a :: q.passed
  let c := a.first / p.courseLines
  let mine := passed.filter (fun x => x.first / p.courseLines == c)
  let whole := decide (courseStored p c ≤ (mine.map (fun x => x.lines)).sum)
  let s1 := if whole then writeRecord i k c mine.length (mine.foldl (fun z x => addZones z x.zones) noZones) s else s
  let q1 := { q with passed := passed, busy := q.busy.filter (· != a.n) }
  surveyedCheck i (setPlane i k { q1 with surveyed := coursesPassed p passed (p.courses + 1) q.surveyed } s1)

/-- SURVEY_ASHLAR_DONE (R75 to R77, R112). -/
def execSurveyAshlarDone (d n : Nat) (s : State) : Host.Outcome State Fault Refusal :=
  let l := dlaneOf d n s
  match l.work with
  | some (.survey i k m) =>
    let s0 := setDlane d n { takeover := l.takeover } s
    if l.discard || !surveyable i k s || !(planeOf i k s).busy.contains m then .next s0
    else
      let p := planeDesc i k s
      let first := (planeOf i k s).starts.getD m 0
      match readAshlar p d m first s0 with
      | (.ok rows, s1) =>
        .next (ashlarPassed i k ⟨m, first, rows.length, rowsZones p (maskRect i k s1) first rows⟩ s1)
      | (.error e, s1) =>
        let q := planeOf i k s1
        let f := match q.failed with | some x => Nat.min x m | none => m
        .next (surveyFail k q.fsn m e (setPlane i k { q with failed := some f, busy := q.busy.filter (· != m) } s1))
  | _ => .next s

/-- The results of ashlar `n` and later ones of a plane are discarded and surveyed again (R77, R131); the lead that this leaves is
judged (R85). -/
def resurveyFrom (i k n : Nat) (s : State) : State :=
  let d := stDie k
  let p := planeDesc i k s
  let q := planeOf i k s
  let c := q.starts.getD n 0 / p.courseLines
  let s1 := (List.range 24).foldl (fun s m =>
    match (dlaneOf d m s).work with
    | some (.survey i' k' n') => if i' = i ∧ k' = k ∧ n ≤ n' then setDlane d m { dlaneOf d m s with discard := true } s else s
    | _ => s) s
  let s2 := clearRecords i k c s1
  setPlane i k { q with
    starts := q.starts.take (n + 1), busy := q.busy.filter (fun m => decide (m < n)), redo := q.redo.filter (fun m => decide (m < n))
    passed := q.passed.filter (fun a => decide (a.n < n)), failed := none, surveyed := Nat.min q.surveyed c } s2 |> leadCheckStation k

/-- An ashlar has been delivered whole by the raster link (R74, R77, R131, R207). -/
def ashlarDelivered (k fsn n : Nat) (s : State) : State :=
  match slotOfFsn fsn s with
  | some i =>
    let q := planeOf i k s
    if !q.got then { s with decls := s.decls ++ [⟨fsn, k, 0, [n]⟩] }
    else if q.failed = some n ∨ q.busy.contains n = true then resurveyFrom i k n s
    else if planeComplete i k s ∨ q.passed.any (fun a => a.n == n) then bump (R.FRAME.SURV_CNT_DUPS (stDie k)) s
    else
      let c := absorb (q.resSet.length + 1) q.resCount (n :: q.resSet)
      setPlane i k { q with resCount := c.1, resSet := c.2 } s
  | none => s

/-! ### Carry-mode streams (R115 to R121) -/

/-- One record of a carry-mode stream: the new place with its lines, whether it was the last; or a reason code. -/
structure RecordOut where
  off : Nat
  rows : List (List Byte)
  history : List Byte
  last : Bool
  deriving DecidableEq, Repr

/-- R116: the tail of a stream after its final record. -/
def tailOk (bs : List Byte) : Bool := decide (bs.length < 64) && bs.all (· == 0)

/-- R118, R120: a record at offset `off` of a stream whose stored lines so far are `line`. A record of no line, and one that runs past
the plane's last line, has reason 4 (DESIGN CHOICE, log 152). -/
def readRecord (p : PlaneDesc) (d off line : Nat) (history : List Byte) (s : State) : Except Nat RecordOut × State :=
  match agentRead agCodec (p.entry 0) 8 s with
  | (.refused, s1) => (.error 5, s1)
  | (.bad, s1) => (.error 8, s1)
  | (.ok e, s1) =>
    let a := fieldLe e 0 5
    let total := 64 * fieldLe e 5 3
    if 2 ^ 39 ≤ a ∨ memDie a ≠ d ∨ fittedBytes d s1 < a % 0x1000000000 + total ∨ total < off + 4 then (.error 5, s1)
    else
      match agentRead agCodec (a + off) 4 s1 with
      | (.ok h, s2) =>
        let m := leNat h
        if m = 0 ∨ total < off + 4 + m then (.error 5, s2)
        else
          match agentRead agCodec (a + off + 4) m s2 with
          | (.ok data, s3) =>
            let left := Nat.min (p.courseLines - line % p.courseLines) (p.storedLines - line)
            match inflateRecord history (1032 * (m + 1)) data with
            | none => (.error 6, s3)
            | some (last, out) =>
              let n := out.length / p.stride
              if out.length % p.stride ≠ 0 ∨ n = 0 ∨ left < n then (.error 4, s3)
              else if last != decide (line + n = p.storedLines) then (.error 6, s3)
              else
                let r : RecordOut := ⟨off + 4 + m, pieces n p.stride out, trimHistory (history ++ out), last⟩
                if !last then (.ok r, s3)
                else
                  match agentRead agCodec (a + r.off) (total - r.off) s3 with
                  | (.ok t, s4) => if tailOk t then (.ok r, s4) else (.error 5, s4)
                  | (_, s4) => (.error 8, s4)
          | (_, s3) => (.error 8, s3)
      | (_, s2) => (.error 8, s2)

/-! ### State records (R132 to R136) -/

def stateSize : Nat := 34816

/-- A state record's bytes; `final`: the final block has been passed. What its reserved and unused parts hold is open (log 59). -/
def stateRecord (kind l fsn : Nat) (final : Bool) (c : Carry) (s : State) : List Byte × State :=
  let t := freeBytes 1024 s
  let h := freeBytes (32768 - c.history.length) t.2
  let head := leBytes 1 0xC5 ++ leBytes 1 1 ++ leBytes 1 kind ++ leBytes 1 l ++ leBytes 4 fsn ++ leBytes 4 c.course ++
    leBytes 4 c.line ++ leBytes 8 c.off ++ leBytes 8 0 ++ leBytes 1 0 ++ leBytes 1 (b2n final) ++ leBytes 2 c.history.length
  let rest := leBytes 4 (sat32 c.zones.sum) ++ c.zones.flatMap (fun z => leBytes 4 z) ++ List.replicate 916 0 ++ t.1 ++ h.1 ++ c.history
  (head ++ leBytes 4 (crc32c (head ++ rest)) ++ rest, h.2)

/-- The place in a stream that a state record holds; none: its signature, version or CRC is wrong. -/
def parseState (b : List Byte) : Option Carry :=
  if fieldLe b 0 1 = 0xC5 ∧ fieldLe b 1 1 = 1 ∧ fieldLe b 36 4 = crc32c (b.take 36 ++ b.drop 40) then
    some { off := fieldLe b 16 8, course := fieldLe b 8 4, line := fieldLe b 12 4,
           history := (b.drop 2048).drop (32768 - fieldLe b 34 2),
           zones := (List.range 16).map (fun j => fieldLe b (44 + 4 * j) 4) }
  else none

/-- State index entry `e` of a die (R134): its address, if it is valid. -/
def stateEntry (d e : Nat) (s : State) : Option Nat :=
  let b := wordBytes (d * 0x1000000 + 0x380000 + 8 * e) 2 s
  let v := fieldLe b 0 8
  if testBit v 63 then some (bitsOf v 6 33 * 64) else none

def useLoc (d e : Nat) : Loc :=
  if e < 32 then ⟨(R.CODEC.CSTATE_USE0_USE d).addr, e, 1⟩ else ⟨(R.CODEC.CSTATE_USE1_USE d).addr, e - 32, 1⟩

/-- The first valid entry that is not in use. -/
def openEntry (d : Nat) (s : State) : Option Nat :=
  (List.range 64).find? (fun e => (stateEntry d e s).isSome && !flag (useLoc d e) s)

/-- A stream is set aside in a state entry (R132); none of its place is lost. -/
def carryYield (i k e : Nat) (s : State) : State :=
  let q := planeOf i k s
  let r := stateRecord 0 (stLoc k) q.fsn false q.carry s
  let s1 := agentPut agCodec ((stateEntry (stDie k) e s).getD 0) r.1 r.2
  bump (R.CODEC.CARRY_CNT_SWAPS (stDie k)) (wr (useLoc (stDie k) e) 1
    (setPlane i k { q with carry := { entry := some e } } s1))

/-- A stream is surveyed again from record 0; the lead that this leaves is judged (R85). -/
def carryRestart (i k : Nat) (s : State) : State :=
  let s1 := clearRecords i k 0 s
  leadCheckStation k (setPlane i k { planeOf i k s with carry := {}, surveyed := 0, failed := none } s1)

/-- CARRY_SURVEY_START (R119, R130, R132, R136). -/
def execCarrySurveyStart (d n i k : Nat) (s : State) : Host.Outcome State Fault Refusal :=
  if !dlaneOn d n s || decodeRole d n s != 0 || (dlaneOf d n s).work.isSome || (dlaneOf d n s).takeover.isSome ||
      stDie k != d || firstWork d s != some (i, k) || !carryReady i k s then .next s
  else
    let q := planeOf i k s
    let begin (s : State) : State := setDlane d n { work := some (.carry i k), since := s.now } s
    match q.carry.entry with
    | none => .next (begin s)
    | some e =>
      let r := match agentRead agCodec ((stateEntry d e s).getD 0) stateSize s with
        | (.ok b, s1) => (parseState b, s1)
        | (_, s1) => (none, s1)
      let s1 := wr (useLoc d e) 0 r.2
      match r.1 with
      | some c => .next (begin (setPlane i k { q with carry := c } s1))
      | none => .next (begin (carryRestart i k (bump (R.CODEC.CARRY_CNT_RESTARTS d) s1)))

/-- A survey record has passed (R119): the course's record is written with its last record. What the record's count of
ashlars holds for a stream is open (log 59). -/
def carryPassed (i k : Nat) (r : RecordOut) (s : State) : State :=
  let p := planeDesc i k s
  let q := planeOf i k s
  let c := q.carry
  let zones := addZones c.zones (rowsZones p (maskRect i k s) c.line r.rows)
  let line := c.line + r.rows.length
  let c1 := { c with off := r.off, course := c.course + 1, line := line, history := r.history, zones := zones }
  if line % p.courseLines = 0 ∨ line = p.storedLines then
    let f := drawFree s
    let course := c.line / p.courseLines
    surveyedCheck i (setPlane i k { q with carry := { c1 with zones := noZones }, surveyed := course + 1 }
      (writeRecord i k course f.1 zones f.2))
  else setPlane i k { q with carry := c1 } s

/-- What a survey lane does at a record boundary (R125, R132): it yields its stream, or keeps it. -/
def carryBoundary (d n i k : Nat) (s : State) : State :=
  let l := dlaneOf d n s
  if planeComplete i k s then setDlane d n { takeover := l.takeover } s
  else
    let sliceOver := decide (l.since + 10000 * rd (R.CODEC.CFG_CARRY_SLICE d) s ≤ s.now)
    let waiting := !(surveyWork d s).isEmpty && (freeSurveyLanes d s).isEmpty
    if l.takeover.isSome || (sliceOver && waiting) then
      match openEntry d s with
      | some e => setDlane d n { takeover := l.takeover } (carryYield i k e s)
      | none =>
        if l.takeover.isSome then setDlane d n { takeover := l.takeover } (carryRestart i k s) else evt d 0x40 4 s
    else s

/-- The survey decodes the next record of a stream (R118 to R120). -/
def carrySurveyRecord (d n i k : Nat) (s : State) : State :=
  let l := dlaneOf d n s
  if l.discard || !surveyable i k s then setDlane d n { takeover := l.takeover } s
  else
    let q := planeOf i k s
    match readRecord (planeDesc i k s) d q.carry.off q.carry.line q.carry.history s with
    | (.ok r, s1) => carryBoundary d n i k (carryPassed i k r s1)
    | (.error e, s1) =>
      let idx := Nat.min 65535 q.carry.course
      let s2 := setPlane i k { planeOf i k s1 with carry := { q.carry with failedAt := some idx }, failed := some idx } s1
      setDlane d n { takeover := l.takeover } (surveyFail k q.fsn idx e s2)

/-! ### RES_CTL (R74, R77, R120) -/

/-- The write of RES_CTL with the frame that RES_FSN names. -/
def resCtl (d w : Nat) (s : State) : State :=
  let fsn := rd (R.FRAME.RES_FSN_FSN d) s
  let l := bitsOf w 24 1
  let v := w % 131072
  if testBit w 25 then
    match slotOfFsn fsn s with
    | none => s
    | some i =>
      let k := 2 * d + l
      let q := planeOf i k s
      if !q.got || frameOrigin i s != 0 then s
      else if (planeDesc i k s).carry then (if q.carry.failedAt.isSome then carryRestart i k s else s)
      else if q.failed = some v then resurveyFrom i k v s else s
  else declareResident d fsn l v s

/-! ### Roles and fences (R125, R131) -/

/-- No survey lane is left, or one has been fenced (R125). -/
def codecLanesEvent (d : Nat) (s : State) : State := evt d 0x40 3 s

/-- Lane `n` has role `r` now; without a survey lane left the event is set (R125). -/
def roleSet (d n r : Nat) (s : State) : State :=
  let s1 := setDlane d n {} (wr (roleLoc d n) r s)
  if (List.range 24).any (fun m => decodeRole d m s1 == 0) then s1 else codecLanesEvent d s1

/-- LANE_ROLE_CHANGE (R125): a lane that takes over an imaging role does so when its current ashlar is finished; a stream is
yielded first, or given up. -/
def execLaneRoleChange (d n : Nat) (s : State) : Host.Outcome State Fault Refusal :=
  let l := dlaneOf d n s
  match l.takeover with
  | none => .next s
  | some r =>
    if !dlaneOn d n s then .next s
    else
      match l.work with
      | none => .next (roleSet d n r s)
      | some (.carry i k) =>
        let s1 := match openEntry d s with
          | some e => carryYield i k e s
          | none => carryRestart i k s
        .next (roleSet d n r s1)
      | some _ => .next s

def imagerOf (k : Nat) (s : State) : Imager := mapGet (fun _ => {}) s.imagers k
def setImager (k : Nat) (v : Imager) (s : State) : State := { s with imagers := mapSet (fun _ => {}) s.imagers k v }

/-- What a decode lane was working on is to be done again (R131, R135). -/
def laneWorkLost (l : DecodeLane) (s : State) : State :=
  match l.work with
  | some (.survey i k m) =>
    let q := planeOf i k s
    if l.discard || !q.busy.contains m then s
    else setPlane i k { q with busy := q.busy.filter (· != m), redo := m :: q.redo } s
  | some (.carry i k) => carryRestart i k s
  | some (.image i k m) =>
    let im := imagerOf k s
    match im.flying.find? (fun f => f.1 == i && f.2.1 == m) with
    | some f => setImager k { im with
        flying := im.flying.filter (fun g => !(g.1 == i && g.2.1 == m)), redo := (i, m, f.2.2.1) :: im.redo } s
    | none => setImager k { im with carry := {}, skipTo := Nat.max im.skipTo im.carry.line } s
  | none => s

/-- The highest survey lane that takes over no other role takes over role `lost` (R125). -/
def roleTaken (d lost : Nat) (s : State) : State :=
  match (List.range 24).reverse.find? (fun m => decodeRole d m s == 0 && (dlaneOf d m s).takeover.isNone) with
  | some m => setDlane d m { dlaneOf d m s with takeover := some lost } s
  | none => s

/-- A decode lane is fenced (R125, R131, R155): what it worked on is done again, and a survey lane takes over an imaging
lane's role. -/
def decodeFence (d n : Nat) (s : State) : State :=
  if s.fenced.contains (.decode d n) then s
  else
    let l := dlaneOf d n s
    let role := decodeRole d n s
    let lost := match l.takeover with | some r => r | none => if role = 3 then 0 else role
    let s1 := codecLanesEvent d (setDlane d n {} (wr (roleLoc d n) 3 (addFence (.decode d n) (laneWorkLost l s))))
    if lost = 0 then s1 else roleTaken d lost s1

/-- LANE_UNFENCE.GO (R125, R493): lanes 0 to 23 decode, 24 to 31 compress. -/
def codecUnfence (d w : Nat) (s : State) : State :=
  if !testBit w 31 then s
  else
    let n := w % 32
    if 24 ≤ n then unfence d 0x40 (.comp d (n - 24)) s
    else
      let s1 := unfence d 0x40 (.decode d n) s
      if decodeRole d n s1 = 3 ∧ !s1.fenced.contains (.decode d n) then wr (roleLoc d n) 0 (setDlane d n {} s1) else s1

end Sys2Proof.Machine
end

