-- ==== Sys2Proof/Machine/Imaging.lean ====
section
/-! DEFINITION. The imaging decode: ashlars and carry-mode streams into the reorder buffer (R113, R121, R126 to R136). -/

namespace Sys2Proof.Machine

/-- R222, R224: the coverage of a frame differs on a station, or its imaging pass has failed: the mismatch is counted, the frame is
spoiled, then the station is fenced. -/
def coverageFault (k i : Nat) (s : State) : State :=
  stationFault k (staPage (stLoc k)) 0 false
    (spoilFrame i 1 k (evt (stDie k) (staPage (stLoc k)) 0 (bump (R.STA.COV_CNT_MISMATCHES (stDie k) (stLoc k)) s)))

/-- The reorder buffer of a station (R126). -/
def reorderSize : Nat := 1048576

/-- The bytes of the reorder buffer that are taken or promised. -/
def reorderUsed (im : Imager) : Nat :=
  (im.held.map (fun h => (h.rows.map List.length).sum)).sum + (im.flying.map (fun f => f.2.2.2)).sum

/-- The plane a station's imaging lanes decode next: one with an ashlar to be decoded again, the one under way, or the earliest frame
ARMED or IMAGING that is not yet decoded. -/
def nextPlane (k : Nat) (s : State) : Option Nat :=
  let im := imagerOf k s
  match im.redo, im.slot with
  | r :: _, _ => some r.1
  | [], some i => some i
  | [], none =>
    (List.range 64).foldl (fun best i =>
      let x := slotOf i s
      if (x.st == 4 || x.st == 5) && testBit (frameMask i s) k && !x.ended.contains k && !im.finished.contains i then
        match best with
        | none => some i
        | some b => if later 32 (frameFsn b s) (frameFsn i s) then some i else some b
      else best) none

/-- The imaging lanes of a station in order. -/
def imagingLanes (k : Nat) (s : State) : List Nat := (List.range 24).filter (fun n => decodeRole (stDie k) n s == stLoc k + 1)

/-- The ashlar has passed the survey, so it may be imaged. -/
def ashlarSound (i k n : Nat) (s : State) : Bool := planeComplete i k s || (planeOf i k s).passed.any (fun a => a.n == n)

/-- The room in the reorder buffer that an ashlar needs; none where its header cannot pass (R113). -/
def decodeRoom (p : PlaneDesc) (lines : Nat) : Nat := if lines * p.stride ≤ 262144 then lines * p.stride else 0

/-- IMG_ASHLAR_START (R126, R135): an imaging lane begins its station's next ashlar, or the stream of a carry-mode plane. -/
def execImgAshlarStart (d n : Nat) (s : State) : Host.Outcome State Fault Refusal :=
  let role := decodeRole d n s
  let k := 2 * d + (role - 1)
  if !dlaneOn d n s || (role != 1 && role != 2) || (dlaneOf d n s).work.isSome then .next s
  else
    match nextPlane k s with
    | none => .next s
    | some i =>
      let p := planeDesc i k s
      let im0 := imagerOf k s
      match im0.redo with
      | r :: rest =>
        let lines := peekLines p r.2.1 s
        if reorderSize < reorderUsed im0 + decodeRoom p lines then .next s
        else
          .next (setDlane d n { work := some (.image i k r.2.1), since := s.now }
            (setImager k { im0 with redo := rest, flying := im0.flying ++ [(i, r.2.1, r.2.2, decodeRoom p lines)] } s))
      | [] =>
        let im := if im0.slot = some i then im0 else { im0 with slot := some i, next := 0, nextLine := 0, skipTo := 0, carry := {} }
        if p.carry then
          if (imagingLanes k s).head? = some n then
            .next (setDlane d n { work := some (.image i k 0), since := s.now } (setImager k im s))
          else .next s
        else
          let lines := peekLines p im.next s
          if decide (p.storedLines ≤ im.nextLine) || !ashlarSound i k im.next s ||
              decide (reorderSize < reorderUsed im + decodeRoom p lines) then .next s
          else
            let im1 := { im with flying := im.flying ++ [(i, im.next, im.nextLine, decodeRoom p lines)] }
            let im2 := if p.storedLines ≤ im.nextLine + lines then
                { im1 with slot := none, next := 0, nextLine := 0, skipTo := 0, finished := i :: im1.finished }
              else { im1 with next := im.next + 1, nextLine := im.nextLine + lines }
            .next (setDlane d n { work := some (.image i k im.next), since := s.now } (setImager k im2 s))

/-- Lines enter the reorder buffer, but for those below `skip`. -/
def holdRows (k i first skip : Nat) (rows : List (List Byte)) (s : State) : State :=
  let im := imagerOf k s
  let kept := rows.drop (skip - first)
  if kept.isEmpty then s else setImager k { im with held := im.held ++ [⟨i, Nat.max first skip, kept⟩] } s

/-- IMG_ASHLAR_DONE (R113, R126): an imaging lane finishes an ashlar. -/
def execImgAshlarDone (d n : Nat) (s : State) : Host.Outcome State Fault Refusal :=
  let l := dlaneOf d n s
  match l.work with
  | some (.image i k m) =>
    let p := planeDesc i k s
    let im := imagerOf k s
    if p.carry then .next s
    else
      let s0 := setDlane d n { takeover := l.takeover } s
      match im.flying.find? (fun f => f.1 == i && f.2.1 == m) with
      | none => .next s0
      | some f =>
        let s1 := setImager k { im with flying := im.flying.filter (fun g => !(g.1 == i && g.2.1 == m)) } s0
        match readAshlar p d m f.2.2.1 s1 with
        | (.ok rows, s2) => .next (holdRows k i f.2.2.1 (if im.slot = some i then im.skipTo else 0) rows s2)
        | (.error _, s2) => .next (coverageFault k i s2)
  | _ => .next s

/-- The checkpoint area of a station; none: not enabled (R135). -/
def ckptAddr (k : Nat) (s : State) : Option Nat :=
  let d := stDie k
  let l := stLoc k
  if flag (R.CODEC.CKPT_HI_EN d l) s then
    some (64 * rd (R.CODEC.CKPT_LO_ADDR d l) s + 0x100000000 * rd (R.CODEC.CKPT_HI_ADDR d l) s) else none

/-- A checkpoint is written at a course boundary, in turn (R135). -/
def writeCkpt (k i : Nat) (final : Bool) (s : State) : State :=
  match ckptAddr k s with
  | none => s
  | some a =>
    let im := imagerOf k s
    let r := stateRecord 1 (stLoc k) (frameFsn i s) final im.carry s
    agentPut agCodec (a + stateSize * (im.ckpt % 2)) r.1
      (setImager k { im with ckpt := im.ckpt + 1, ckptOf := (frameFsn i s :: im.ckptOf).take 2 } r.2)

/-- The imaging pass decodes the next record of a stream (R121, R135); it waits while the reorder buffer has no room. -/
def carryImageRecord (d n i k : Nat) (s : State) : State :=
  let p := planeDesc i k s
  let im := imagerOf k s
  if im.slot ≠ some i then setDlane d n {} s
  else
    match readRecord p d im.carry.off im.carry.line im.carry.history s with
    | (.error _, s1) => setDlane d n {} (spoilFrame i 1 k s1)
    | (.ok r, s1) =>
      let bytes := (r.rows.map List.length).sum
      if !im.held.isEmpty && decide (reorderSize < reorderUsed im + bytes) then s
      else
        let line := im.carry.line + r.rows.length
        let s2 := holdRows k i im.carry.line im.skipTo r.rows s1
        let s3 := setImager k { imagerOf k s2 with carry := { im.carry with
          off := r.off, course := im.carry.course + 1, line := line, history := r.history } } s2
        let s4 := if line % p.courseLines = 0 ∨ r.last then writeCkpt k i r.last s3 else s3
        if r.last then
          let x := imagerOf k s4
          setDlane d n {} (setImager k { x with slot := none, skipTo := 0, carry := {}, finished := i :: x.finished } s4)
        else s4

/-- CARRY_RECORD_DONE (R118 to R121): the lane that works on a stream finishes a record, for the survey or for imaging. -/
def execCarryRecordDone (d n : Nat) (s : State) : Host.Outcome State Fault Refusal :=
  if !dlaneOn d n s then .next s
  else
    match (dlaneOf d n s).work with
    | some (.carry i k) => .next (carrySurveyRecord d n i k s)
    | some (.image i k _) => .next (if (planeDesc i k s).carry then carryImageRecord d n i k s else s)
    | _ => .next s

/-! ### Seam stops (R129, R135) -/

/-- The first ashlar that holds stored line `line` or begins after it, from the headers: its index and first line. -/
def ashlarAt (p : PlaneDesc) (line : Nat) (s : State) : Nat → Nat → Nat → Nat × Nat
  | 0, n, first => (n, first)
  | fuel + 1, n, first =>
    let l := peekLines p n s
    if line ≤ first ∨ line < first + l ∨ l = 0 then (n, first) else ashlarAt p line s fuel (n + 1) (first + l)

/-- The numbers of the checkpoints of a frame that stand in the area, the newer first. -/
def ckptsOf (fsn : Nat) (im : Imager) : List Nat :=
  (im.ckptOf.zipIdx.filter (fun e => e.1 == fsn)).map (fun e => im.ckpt - 1 - e.2)

/-- The place in the first of some checkpoints that lies at or before a line; none: one that was read is not sound (R136). -/
def readCkpts (a line : Nat) : List Nat → State → Option Carry × State
  | [], s => (some {}, s)
  | j :: t, s =>
    match agentRead agCodec (a + stateSize * (j % 2)) stateSize s with
    | (.ok b, s1) =>
      match parseState b with
      | some c => if c.line ≤ line then (some c, s1) else readCkpts a line t s1
      | none => (none, s1)
    | (_, s1) => (none, s1)

/-- Where a stopped stream resumes: the newest checkpoint of its frame that lies at or before a line, or the start of the
stream. -/
def carryResume (k i line : Nat) (s : State) : Option Carry × State :=
  match ckptAddr k s with
  | none => (some {}, s)
  | some a => readCkpts a line (ckptsOf (frameFsn i s) (imagerOf k s)) s

/-- The station has stopped at the end of a course: lines from stored line `line` on are decoded again after it. A checkpoint
that cannot be used spoils the frame (R136). -/
def imagerHold (k i line : Nat) (s : State) : State :=
  let im := imagerOf k s
  let p := planeDesc i k s
  let stay (j : Nat) : Bool := j == i || later 32 (frameFsn i s) (frameFsn j s)
  let held := im.held.filterMap (fun h =>
    if h.slot = i then (if line ≤ h.first then none else some { h with rows := h.rows.take (line - h.first) })
    else if stay h.slot then some h else none)
  let flying := im.flying.filter (fun f => stay f.1 && (f.1 != i || decide (f.2.2.1 < line)))
  let redo := im.redo.filter (fun f => stay f.1 && (f.1 != i || decide (f.2.2 < line)))
  let im1 := { im with held := held, flying := flying, redo := redo, finished := im.finished.filter (fun j => stay j && j != i) }
  if p.storedLines ≤ line then setImager k { im1 with slot := none, finished := i :: im1.finished } s
  else if p.carry then
    let r := carryResume k i line s
    match r.1 with
    | none => spoilFrame i 1 k r.2
    | some c => setImager k { im1 with slot := some i, skipTo := line, carry := c } r.2
  else
    let a := ashlarAt p line s 65536 0 0
    setImager k { im1 with slot := some i, next := a.1, nextLine := a.2, skipTo := line } s

/-- The imaging decode of a stopped plane is ready to resume (R135). -/
def imagerReady (k : Nat) (s : State) : Bool :=
  let im := imagerOf k s
  match im.slot with
  | some i => !(planeDesc i k s).carry || decide (im.skipTo ≤ im.carry.line)
  | none => true

end Sys2Proof.Machine
end

