-- ==== Sys2Proof/Machine/Pipeline.lean ====
section
/-! DEFINITION. The station pipeline: the stages of R213 and the duty limits of stage 8 (R213 to R240, R293 to R298). -/

namespace Sys2Proof.Machine

/-! ### Configuration -/

/-- The table window of a station (R240). -/
def staWin (k : Nat) : Nat := stDie k * 0x1000000 + 0x100000 * (stLoc k + 1)

def depthBits (k : Nat) (s : State) : Nat :=
  match rd (R.STA.CFG_DEPTH (stDie k) (stLoc k)) s with | 0 => 1 | 1 => 2 | _ => 4

/-- D_max of R220. -/
def dMax (k : Nat) (s : State) : Nat := 2 ^ depthBits k s - 1

def lineLen (k : Nat) (s : State) : Nat := 8 * rd (R.STA.LINE_LEN_LEN8 (stDie k) (stLoc k)) s

/-- The capacity C of the line buffer, and the reach in use (R229). -/
def lineCap (k : Nat) (s : State) : Nat :=
  Nat.min 1023 (2621440 / (rd (R.STA.LINE_LEN_LEN8 (stDie k) (stLoc k)) s * depthBits k s))

def reachEff (k : Nat) (s : State) : Nat :=
  Nat.min (rd (R.STA.PLUMB_CTL_REACH (stDie k) (stLoc k)) s) ((lineCap k s - (if ledBar k s then 1 else 40) - 9) / 2)

/-- CFG, LINE_LEN or REACH has been written (R229, R238). -/
def reachUpdate (k : Nat) (s : State) : State :=
  if reachEff k s < rd (R.STA.PLUMB_CTL_REACH (stDie k) (stLoc k)) s then evt (stDie k) (staPage (stLoc k)) 2 s else s

/-- PLUMB_STAT. -/
def plumbStat (k : Nat) (s : State) : Nat := lineCap k s + 65536 * reachEff k s

/-- An entry of a facet table (R233). -/
structure FacetEntry where
  wstart : Nat
  adv : Nat
  pt : Int
  trim : Int
  deriving DecidableEq, Repr

def facetEntry (k b f : Nat) (s : State) : FacetEntry :=
  let e := wordBytes (staWin k + 0x85000 + 0x100 * b + 16 * f) 2 s
  ⟨fieldLe e 0 1, fieldLe e 1 1, toSigned 8 (fieldLe e 2 1), toSigned 24 (fieldLe e 4 3)⟩

def facetBank (k : Nat) (s : State) : Nat := rd (R.STA.SEL_FACET_BANK (stDie k) (stLoc k)) s

/-- The facets of the active bank: N of R253. -/
def facetCount (k : Nat) (s : State) : Nat := rd (R.STA.FACET_CFG_COUNT (stDie k) (stLoc k) (facetBank k s)) s + 1

def facetOk (k : Nat) (s : State) : Bool := flag (R.STA.FACET_CFG_OK (stDie k) (stLoc k) (facetBank k s)) s

/-- OK and SUM of a bank (R235). -/
def facetBankCheck (k b : Nat) (s : State) : State :=
  let d := stDie k
  let l := stLoc k
  let es := (List.range (rd (R.STA.FACET_CFG_COUNT d l b) s + 1)).map (fun f => facetEntry k b f s)
  let ok := es.all (fun e => decide (1 ≤ e.adv) && decide (e.adv ≤ 40) && decide (e.wstart + e.adv ≤ rd (R.STA.CFG_EMITTERS d l) s))
  wr (R.STA.FACET_CFG_SUM d l b) ((es.map (fun e => e.adv)).sum) (wr (R.STA.FACET_CFG_OK d l b) (b2n ok) s)

/-- D_f of a facet of the active bank (R256). -/
def facetDelay (k f : Nat) (s : State) : Int :=
  (rd (R.STIM.INSCAN_OFFS_TICKS (stDie k) (stLoc k)) s : Int) + (facetEntry k (facetBank k s) f s).trim

def delayInRange (t : Int) : Bool := decide (32000 ≤ t) && decide (t ≤ 16777215)

/-- DELAY_OK (R256). -/
def delayCheck (k : Nat) (s : State) : State :=
  wr (R.STIM.TSTAT_DELAY_OK (stDie k) (stLoc k))
    (b2n (!ledBar k s && (List.range (facetCount k s)).all (fun f => delayInRange (facetDelay k f s)))) s

/-- What the station computes from its facet tables after a change of them or of CFG, SEL or INSCAN_OFFS. -/
def facetUpdate (k : Nat) (s : State) : State := delayCheck k (facetBankCheck k 1 (facetBankCheck k 0 s))

/-! ### Stages 2 to 5: a source line (R215 to R223) -/

/-- The thresholds of a cell (R219). -/
def thresholds (k slot r c : Nat) (s : State) : List Nat :=
  ((wordBytes (staWin k + 0x40000 * slot + (128 * r + c) * 16) 4 s).take 15).map (fun b => b.toNat)

/-- The level of a screened pixel at column `x` and row `Y` (R217, R218). -/
def screenLevel (k slot x Y v : Nat) (s : State) : Nat :=
  let d := stDie k
  let l := stLoc k
  let h := rd (R.STA.SCR_CFG_HEIGHT d l slot) s + 1
  let w := rd (R.STA.SCR_CFG_WIDTH d l slot) s + 1
  let c := (x + rd (R.STA.SCR_CFG_SHIFT d l slot) s * (Y / h)) % w
  ((thresholds k slot (Y % h) c s).filter (fun t => decide (t < v))).length

/-- The screen slot of a C8 plane: bit 3 of its format takes the alternate one. -/
def screenSlot (k : Nat) (p : PlaneDesc) (s : State) : Nat :=
  (rd (R.STA.SEL_SCREEN_SWAP (stDie k) (stLoc k)) s + b2n (testBit p.format 3)) % 2

/-- The level of an output pixel (R216). -/
def pixelLevel (k : Nat) (p : PlaneDesc) (x n lsn v : Nat) (s : State) : Nat :=
  if p.contone then
    let slot := screenSlot k p s
    screenLevel k slot x (if flag (R.STA.SCR_CFG_YREF (stDie k) (stLoc k) slot) s then lsn % 4294967296 else n) v s
  else coverLevel p v

/-- R220. -/
def toneCode (k level : Nat) (s : State) : Nat :=
  Nat.min ((word (staWin k + 0x80000 + 0x40 * rd (R.STA.SEL_TONE_BANK (stDie k) (stLoc k)) s + 4 * level) s).toNat % 16) (dMax k s)

/-- Stages 2 to 4 of line `n` of a plane (R215 to R220, R69). -/
def sourceCodes (i k n lsn : Nat) (row : List Byte) (s : State) : List Nat :=
  let p := planeDesc i k s
  let m := maskRect i k s
  (outputPixels p row).zipIdx.map (fun e => if inMask m e.2 n then toneCode k (pixelLevel k p e.2 n lsn e.1 s) s else 0)

/-- Stored line `t` of slot `i` in the reorder buffer. -/
def heldRow (k i t : Nat) (s : State) : Option (List Byte) :=
  match (imagerOf k s).held.find? (fun h => h.slot == i && decide (h.first ≤ t) && decide (t < h.first + h.rows.length)) with
  | some h => h.rows[t - h.first]?
  | none => none

/-- Stored lines of slot `i` below `t` leave the reorder buffer. -/
def freeRows (k i t : Nat) (s : State) : State :=
  let im := imagerOf k s
  setImager k { im with held := im.held.filterMap (fun h =>
    if h.slot = i ∧ h.first < t then
      (if t < h.first + h.rows.length then some { h with first := t, rows := h.rows.drop (t - h.first) } else none)
    else some h) } s

def putPlane (k : Nat) (p : StaPlane) (s : State) : State :=
  let st := staOf k s
  setSta k { st with planes := st.planes.map (fun q => if q.slot = p.slot ∧ q.fsn = p.fsn ∧ q.s0 = p.s0 then p else q) } s

/-- COV_LAST, COV_IMG and COV_SURV take a comparison. -/
def showCov (k c img surv : Nat) (bad : Bool) (s : State) : State :=
  let d := stDie k
  let l := stLoc k
  putWord (R.STA.COV_SURV_TOTAL d l).addr (BitVec.ofNat 32 surv)
    (putWord (R.STA.COV_IMG_TOTAL d l).addr (BitVec.ofNat 32 img)
      (wr (R.STA.COV_LAST_MISMATCH d l) (b2n bad) (wr (R.STA.COV_LAST_COURSE d l) c s)))

/-- The course's sum is compared with its coverage record (R222, R223). -/
def coverageCompare (k i c img : Nat) (s : State) : State :=
  let d := stDie k
  let l := stLoc k
  let p := planeDesc i k s
  let bad (s : State) : State :=
    stationFault k (staPage l) 4 false (evt d (staPage l) 0 (bump (R.STA.COV_CNT_MISMATCHES d l)
      (showCov k c img 0 true (spoilFrame i 1 k s))))
  match agentRead agOther (p.record c) 16 s with
  | (.ok b, s1) =>
    if !testBit (fieldLe b 3 1) 0 then bad s1
    else
      let surv := fieldLe b 12 4
      let s2 := showCov k c img surv (img != surv) (bump (R.STA.COV_CNT_COMPARED d l) s1)
      if img = surv then s2
      else coverageFault k i s2
  | (_, s1) => bad s1

/-- The plane, begun and not ended, whose lines include LSN `t`. -/
def planeAt (k t : Nat) (s : State) : Option StaPlane :=
  (staOf k s).planes.find? (fun p => p.ended.isNone && decide (p.s0 ≤ t) && decide (t < p.s0 + p.lines))

/-- The first line of a plane from LSN `t` on, or `last`. -/
def nextPlaneLine (k t last : Nat) (s : State) : Nat :=
  (staOf k s).planes.foldl (fun a p => if p.ended.isNone && decide (t ≤ p.s0) && decide (p.s0 < a) then p.s0 else a) last

/-- Stages 1 to 5 take the source line `src`; none: it is not in the reorder buffer. Gap lines up to `upto` pass at once. -/
def takeSource (k upto : Nat) (s : State) : Option State :=
  let st := staOf k s
  match planeAt k st.src s with
  | none => some (setSta k { st with src := nextPlaneLine k st.src (upto + 1) s } s)
  | some q =>
    let n := st.src - q.s0
    let p := planeDesc q.slot k s
    let t := if p.halfY then n / 2 else n
    match heldRow k q.slot t s with
    | none => none
    | some row =>
      let codes := sourceCodes q.slot k n st.src row s
      let cov := sat32 (q.cov + (lineLevels p (maskRect q.slot k s) n row).sum)
      let s1 := setSta k { st with src := st.src + 1, lines := st.lines ++ [⟨st.src, q.slot, n, row, codes⟩] } s
      let last := decide (n % 64 = 63) || decide (n + 1 = q.lines)
      let s2 := putPlane k { q with cov := if last then 0 else cov } s1
      let s3 := if p.halfY && n % 2 == 0 then s2 else freeRows k q.slot (t + 1) s2
      some (if last then coverageCompare k q.slot (n / 64) cov s3 else s3)

/-- Source lines are taken up to LSN `upto`; false: one is missing. -/
def takeSources (k upto : Nat) : Nat → State → Bool × State
  | 0, s => (decide (upto < (staOf k s).src), s)
  | fuel + 1, s =>
    if upto < (staOf k s).src then (true, s)
    else match takeSource k upto s with
      | none => (false, s)
      | some s1 => takeSources k upto fuel s1

/-! ### Stage 6: the plumb shift (R225 to R228) -/

/-- Entry `j` of the active plumb bank. -/
def plumbEntry (k j : Nat) (s : State) : Int :=
  let d := stDie k
  let l := stLoc k
  if flag (R.STA.SEL_PLUMB_EN d l) s then
    let a := staWin k + 0x81000 + 0x2000 * rd (R.STA.SEL_PLUMB_BANK d l) s + 2 * j
    toSigned 12 (bitsOf (word (a / 4 * 4) s).toNat (8 * (a % 4)) 12)
  else 0

def plumbPitch (k : Nat) (s : State) : Nat :=
  match rd (R.STA.PLUMB_CTL_PITCH (stDie k) (stLoc k)) s with | 0 => 8 | 1 => 16 | _ => 32

/-- o(x) of R226. -/
def plumbOffset (k x : Nat) (s : State) : Int :=
  let P := plumbPitch k s
  let j := x / P
  if j < 3071 then plumbEntry k j s * P + (plumbEntry k (j + 1) s - plumbEntry k j s) * ((x % P : Nat) : Int)
  else plumbEntry k 3071 s * P

/-- n and φ of R227, for an offset `o`, a process trim, a pitch and a reach. -/
def plumbSplit (o pt : Int) (P R : Nat) : Int × Nat :=
  let O := clampInt (-64 * (R : Int) * P) ((64 * (R : Int) - 1) * P) (o + pt * P)
  let q := (O + 2 * P) / (4 * (P : Int))
  (q / 16, (q % 16).toNat)

/-- d(t, x) of R228 as a source of destination line `dest`: a line of a plane that had ended before `dest` gives 0. -/
def sourceCode (k dest : Nat) (t : Int) (x : Nat) (s : State) : Nat :=
  let st := staOf k s
  match st.lines.find? (fun e => ((e.lsn : Nat) : Int) == t) with
  | none => 0
  | some e =>
    let cut := st.planes.any (fun p => p.slot == e.slot && p.s0 + e.n == e.lsn &&
      (match p.ended with | some a => decide (a ≤ dest) | none => false))
    if cut then 0 else e.codes.getD x 0

/-- out(t, x) of R228. -/
def destCode (k dest : Nat) (pt : Int) (x : Nat) (s : State) : Nat :=
  let r := plumbSplit (plumbOffset k x s) pt (plumbPitch k s) (reachEff k s)
  let a := sourceCode k dest ((dest : Int) - r.1) x s
  let b := sourceCode k dest ((dest : Int) - r.1 - 1) x s
  Nat.min (dMax k s) (((16 - r.2) * a + r.2 * b + 8) / 16)

/-- Stages 6 and 7 of a destination line: in sent order (R236), and for an LED bar by element (R264). -/
def destLine (k dest : Nat) (pt : Int) (mirror : Bool) (s : State) : List Nat :=
  let len := lineLen k s
  let at0 (x : Nat) : Nat := destCode k dest pt (if mirror then len - 1 - x else x) s
  let shift : Int := if ledBar k s then rdS (R.STIM.LED_SHIFT_ELEM (stDie k) (stLoc k)) s else 0
  (List.range len).map (fun (e : Nat) =>
    let x : Int := (e : Int) - shift
    if 0 ≤ x ∧ x < len then at0 x.toNat else 0)

/-! ### Stage 8: duty accounting and clip (R293 to R298) -/

/-- w(c) of a drive code. -/
def weight (dmax c : Nat) : Nat := c * 15 / dmax

def addLists : List Nat → List Nat → List Nat
  | [], b => b
  | a, [] => a
  | x :: a, y :: b => (x + y) :: addLists a b

/-- The blocks of the window that ends with block `b`. -/
def dutyWindow (b : Nat) (l : List DutyBlock) : List DutyBlock := l.filter (fun e => decide (b ≤ e.block + 15) && decide (e.block ≤ b))

/-- The element and emitter counters before a line of block `b` is counted (R294). -/
def elemCounters (b : Nat) (l : List DutyBlock) : List Nat := (dutyWindow b l).foldl (fun a e => addLists a e.elems) []
def emitCounters (b : Nat) (l : List DutyBlock) : List Nat := (dutyWindow b l).foldl (fun a e => addLists a e.emits) []

/-- The caps that apply to a pixel with their kinds (R296, R297): 0 element, 1 emitter, 2 head, 3 soft state. -/
structure Caps where
  elemLimit : Nat
  elemCap : Nat
  emit : Option Nat
  head : Option Nat
  soft : Option Nat
  dmax : Nat
  deriving DecidableEq, Repr

def Caps.at (c : Caps) (counter : Nat) : List (Nat × Nat) :=
  (if c.elemLimit ≤ counter then [(0, Nat.min c.elemCap c.dmax)] else []) ++
    (match c.emit with | some v => [(1, Nat.min v c.dmax)] | none => []) ++
    (match c.head with | some v => [(2, Nat.min v c.dmax)] | none => []) ++
    (match c.soft with | some v => [(3, Nat.min v c.dmax)] | none => [])

/-- The code sent for code `c`, and the kinds that reduced it. -/
def clipPixel (caps : List (Nat × Nat)) (c : Nat) : Nat × List Nat :=
  let m := caps.foldl (fun a x => Nat.min a x.2) c
  (m, if m < c then (caps.filter (fun x => x.2 == m)).map (fun x => x.1) else [])

/-- The head counter H (R295). -/
def headSum (k : Nat) (s : State) : Nat := (staOf k s).buckets.sum

def showHeadSum (k : Nat) (s : State) : State :=
  putWord (R.SPROT.HEAD_SUM_H (stDie k) (stLoc k)).addr (BitVec.ofNat 32 (headSum k s / 256)) s

/-- The caps of a line (R296). -/
def lineCaps (k emitter : Nat) (emits : List Nat) (s : State) : Caps :=
  let d := stDie k
  let l := stLoc k
  { elemLimit := rd (R.SPROT.ELEM_LIMIT_LIMIT d l) s
    elemCap := rd (R.SPROT.ELEM_LIMIT_CAP d l) s
    emit := if !ledBar k s && decide (rd (R.SPROT.EMIT_LIMIT_LIMIT d l) s ≤ emits.getD emitter 0) then
      some (rd (R.SPROT.EMIT_LIMIT_CAP d l) s) else none
    head := if 256 * rd (R.SPROT.HEAD_LIMIT_LIMIT d l) s ≤ headSum k s then some (rd (R.SPROT.HEAD_CAP_CAP d l) s) else none
    soft := if flag (R.SPROT.GATE_STAT_SOFT d l) s then some (rd (R.SPROT.TEMP_CFG_HOT_CAP d l) s) else none
    dmax := dMax k s }

/-- One wear unit (R317). -/
def wearUnit : Nat := 65536

def wearAddr (k : Nat) (s : State) : Nat :=
  4 * rd (R.PIO.WEAR_BASE_LO_ADDR (stDie k) (stLoc k)) s + 0x100000000 * rd (R.PIO.WEAR_BASE_HI_ADDR (stDie k) (stLoc k)) s

/-- Whole wear units in the residues go to the wear table; the residues that stay. -/
def wearElements (base : Nat) : List (Nat × Nat) → State → List Nat × State
  | [], s => ([], s)
  | (x, r) :: t, s =>
    let s1 := if wearUnit ≤ r then
        match agentRead agOther (base + 4 * x) 4 s with
        | (.ok b, s1) => agentPut agOther (base + 4 * x) (leBytes 4 (sat32 (leNat b + r / wearUnit))) s1
        | (_, s1) => s1
      else s
    let u := wearElements base t s1
    (r % wearUnit :: u.1, u.2)

/-- Duty block `b` is complete (R317). -/
def blockDone (k b : Nat) (s : State) : State :=
  let st := staOf k s
  if b % 16 = 15 ∧ flag (R.PIO.AGE_CTL_EN (stDie k) (stLoc k)) s then
    let r := wearElements (wearAddr k s) ((addLists st.residue (elemCounters b st.duty)).zipIdx.map (fun e => (e.2, e.1))) s
    setSta k { staOf k r.2 with residue := r.1 } r.2
  else s

/-- The blocks that a line of block `b` shows to be complete. -/
def blocksDone (k b : Nat) (s : State) : State :=
  let newest := (staOf k s).duty.foldl (fun a e => Nat.max a e.block) 0
  if (staOf k s).duty.isEmpty then s
  else (List.range 32).foldl (fun s j => if newest + j < b then blockDone k (newest + j) s else s) s

/-- A line of codes sent on an emitter is counted (R294, R295). -/
def countLine (k lsn emitter : Nat) (codes : List Nat) (s : State) : State :=
  let st := staOf k s
  let b := lsn / 256
  let w := codes.map (weight (dMax k s))
  let mean := 16 * w.sum / lineLen k s
  let emits := if ledBar k s then [] else List.replicate emitter 0 ++ [mean]
  let kept := st.duty.filter (fun e => decide (b ≤ e.block + 31))
  let duty := if kept.any (fun e => e.block == b) then
      kept.map (fun e => if e.block = b then { e with elems := addLists e.elems w, emits := addLists e.emits emits } else e)
    else ⟨b, w, emits⟩ :: kept
  let buckets := match st.buckets with | [] => [w.sum] | x :: t => (x + w.sum) :: t
  showHeadSum k (setSta k { st with duty := duty, buckets := buckets } s)

/-- DCLIP_CNT, DCLIP_LOG and fault source 1 of a line with clips (R297). -/
def clipReport (k lsn emitter : Nat) (kinds : List (List Nat)) (s : State) : State :=
  let d := stDie k
  let l := stLoc k
  let had (n : Nat) : Bool := kinds.any (fun x => x.contains n)
  match (List.range 4).find? had with
  | none => s
  | some n0 =>
    let s1 := onlyIf (had 0) (bump (R.SPROT.DCLIP_CNT0_ELEM d l)) s
    let s2 := onlyIf (had 1) (bump (R.SPROT.DCLIP_CNT0_EMIT d l)) s1
    let s3 := onlyIf (had 2) (bump (R.SPROT.DCLIP_CNT1_HEAD d l)) s2
    let s4 := onlyIf (had 3) (bump (R.SPROT.DCLIP_CNT1_HOT d l)) s3
    let first := (kinds.zipIdx.find? (fun x => x.1.contains n0)).map (fun x => x.2)
    let index := if n0 = 1 then emitter else if n0 = 2 then 0 else first.getD 0
    let s5 := if flag (R.SPROT.DCLIP_LOG0_VALID d l) s4 then s4
      else putWord (R.SPROT.DCLIP_LOG1_LSN d l).addr (BitVec.ofNat 32 lsn)
        (putWord (R.SPROT.DCLIP_LOG0_VALID d l).addr (BitVec.ofNat 32 (index + 65536 * n0 + 2147483648)) s4)
    stationFault k (sprotPage l) 1 false (evt d (sprotPage l) 5 s5)

/-- Stage 8 of a line: the codes to be sent. -/
def dutyLine (k lsn emitter : Nat) (codes : List Nat) (s : State) : List Nat × State :=
  let b := lsn / 256
  let s1 := blocksDone k b s
  let duty := (staOf k s1).duty
  let elems := elemCounters b duty
  let caps := lineCaps k emitter (emitCounters b duty) s1
  let out := codes.zipIdx.map (fun e => clipPixel (caps.at (elems.getD e.2 0)) e.1)
  let sent := if (staOf k s1).dutyBad then codes.map (fun _ => 0) else out.map (fun e => e.1)
  let s2 := clipReport k lsn emitter (out.map (fun e => e.2)) s1
  (sent, countLine k lsn emitter sent s2)

/-- LINE_LEN or CFG.EMITTERS has changed: counters beyond the line or the array are dropped (R293). -/
def dutyResize (k : Nat) (s : State) : State :=
  let st := staOf k s
  let n := lineLen k s
  let m := rd (R.STA.CFG_EMITTERS (stDie k) (stLoc k)) s
  setSta k { st with duty := st.duty.map (fun e => { e with elems := e.elems.take n, emits := e.emits.take m }) } s

/-- DUTY_VAL (R307). -/
def dutyValue (k : Nat) (s : State) : Nat :=
  let st := staOf k s
  let b := st.duty.foldl (fun a e => Nat.max a e.block) 0
  let i := rd (R.SPROT.DUTY_SEL_INDEX (stDie k) (stLoc k)) s
  if flag (R.SPROT.DUTY_SEL_EMITTER (stDie k) (stLoc k)) s then
    (if i < rd (R.STA.CFG_EMITTERS (stDie k) (stLoc k)) s then (emitCounters b st.duty).getD i 0 else 0)
  else if i < lineLen k s then (elemCounters b st.duty).getD i 0 else 0

/-! ### Stage 9: LINE packets (R276) -/

/-- The segments of a line's bytes from an offset; `fuel` bounds their number. -/
def lineSegments (lsn emitter : Nat) : Nat → Nat → List Byte → List HeadPkt
  | 0, _, _ => []
  | fuel + 1, off, b =>
    let p : HeadPkt := { type := 0x20, flags := if b.length ≤ 2048 then 1 else 0, lsn := lsn % 4294967296, emitter := emitter,
                         offset := off, payload := b.take 2048 }
    if b.length ≤ 2048 then [p] else p :: lineSegments lsn emitter fuel (off + 2048) (b.drop 2048)

def linePackets (k lsn emitter : Nat) (codes : List Nat) (s : State) : List HeadPkt :=
  if codes.all (· == 0) && flag (R.SHL.HCFG_ZERO_EN (stDie k) (stLoc k)) s then
    [{ type := 0x20, flags := 5, lsn := lsn % 4294967296, emitter := emitter }]
  else
    let b := pack (depthBits k s) codes.length codes
    lineSegments lsn emitter (b.length + 1) 0 b

/-! ### Forming destination lines -/

/-- A scan holds LSN `t`. -/
def Placed.has (p : Placed) (t : Nat) : Bool := decide (p.lsn ≤ t) && decide (t < p.lsn + p.adv)

/-- The scan of a facet of the active bank at line `lsn`. -/
def scanFor (k f lsn : Nat) (s : State) : Placed :=
  let e := facetEntry k (facetBank k s) f s
  { lsn := lsn, adv := e.adv, wstart := e.wstart, facet := f, tick := 0, pt := e.pt
    mirror := flag (R.STA.SEL_MIRROR (stDie k) (stLoc k)) s }

/-- The line that an LED bar fires, as a scan of one line (R232). -/
def ledLine (k lsn : Nat) (s : State) : Placed :=
  { lsn := lsn, adv := 1, wstart := 0, facet := 0, tick := 0, mirror := flag (R.STA.SEL_MIRROR (stDie k) (stLoc k)) s }

/-- The next of the lines that wait to be fired, from LSN `t` on; none: they all lie before `t`. -/
def nextWaiting (k t : Nat) (s : State) : Option Nat :=
  let st := staOf k s
  let l := st.placed.flatMap (fun p => if p.has t then [t] else [p.lsn]) ++ st.found.map (fun f => f.lsn)
  (l.filter (fun a => decide (t ≤ a))).foldl (fun b a => match b with | none => some a | some x => some (Nat.min x a)) none

/-- Lines that are neither placed nor yet to be found are passed by: the next line to form. -/
def formAt (k : Nat) (s : State) : Nat :=
  let st := staOf k s
  if st.ptr ≤ st.form then st.form
  else match nextWaiting k st.form s with
    | some t => t
    | none => st.ptr

/-- Line `t` may be formed: it waits to be fired, or belongs to a plane that the station images. -/
def mayForm (k t : Nat) (s : State) : Bool :=
  let st := staOf k s
  decide (t < st.ptr) || st.planes.any (fun p => p.ended.isNone && !p.done && decide (t < p.s0 + p.lines + reachEff k s) &&
    decide (p.l1 ≤ t))

/-- The scan or strobe that fires line `t`; a scan not yet placed is foreseen from the facet that is next (R234). -/
def scanOf (k t : Nat) (s : State) : Option Placed × State :=
  let st := staOf k s
  if ledBar k s then (some (ledLine k t s), s)
  else match st.placed.find? (fun p => p.has t) with
    | some p => (some p, s)
    | none =>
      match st.ahead.find? (fun p => p.has t) with
      | some p => (some p, s)
      | none =>
        let at0 := match st.ahead.getLast? with | some p => p.lsn + p.adv | none => st.ptr
        let p := scanFor k ((st.facet + st.ahead.length) % facetCount k s) at0 s
        if facetOk k s && p.has t then (some p, setSta k { st with ahead := st.ahead ++ [p] } s) else (none, s)

/-- Lines of the line buffer that no later destination line draws on are given up. -/
def pruneLines (k : Nat) (s : State) : State :=
  let st := staOf k s
  let low := Nat.min st.form (firstUnfired k s) - reachEff k s
  setSta k { st with lines := st.lines.filter (fun e => decide (low ≤ e.lsn)) } s

/-- Stages 6 to 9 of the destination line `t` of a scan. -/
def formLine (k t : Nat) (p : Placed) (s : State) : State :=
  let r := dutyLine k t (p.wstart + (t - p.lsn)) (destLine k t p.pt p.mirror s) s
  let s1 := headSend k (linePackets k t (p.wstart + (t - p.lsn)) r.1 s) r.2
  pruneLines k (setSta k { staOf k s1 with form := t + 1 } s1)

/-- The next destination line is formed, if it may be and its source lines are there; false: it is not. -/
def formNext (k : Nat) (s : State) : Bool × State :=
  let t := formAt k s
  if !mayForm k t s then (false, s)
  else
    let r := takeSources k (t + reachEff k s) (2 * reachEff k s + 80) s
    if !r.1 || timSt k r.2 != 2 then (false, r.2)
    else if formAt k r.2 ≠ t then (true, r.2)
    else match scanOf k t r.2 with
      | (none, s1) => (false, s1)
      | (some p, s1) => (true, formLine k t p s1)

/-- STATION_LINE (R213): a station passes one line of its stream through the pipeline. -/
def execStationLine (k : Nat) (s : State) : Host.Outcome State Fault Refusal :=
  if !stationOn k s || timSt k s != 2 then .next s else .next (formNext k s).2

/-! ### Changes of the selected tables (R239) -/

/-- The lines from LSN `from0` on, taken already, pass stages 2 to 4 again, and the destination lines from there are formed
again. -/
def recode (k from0 : Nat) (s : State) : State :=
  let st := staOf k s
  setSta k { st with
    form := Nat.min st.form from0
    lines := st.lines.map (fun e => if from0 ≤ e.lsn then { e with codes := sourceCodes e.slot k e.n e.lsn e.row s } else e) } s

/-- The scans from the line pointer on are foreseen anew. -/
def reforesee (k : Nat) (s : State) : State :=
  let st := staOf k s
  setSta k { st with form := Nat.min st.form st.ptr, ahead := [] } s

/-- SEL, PLUMB_CTL.PITCH, LED_SHIFT, INSCAN_OFFS have changed from line `from0` on. -/
def selectionChanged (k from0 : Nat) (s : State) : State := facetUpdate k (reforesee k (recode k from0 s))

end Sys2Proof.Machine
end

