-- ==== Sys2Proof/Machine/Timing.lean ====
section
/-! DEFINITION. Line timing and firing: planes begun, scans and strobes, slip, stops and resumes (R243 to R267, R349, R352). -/

namespace Sys2Proof.Machine

/-! ### Time in ticks, states -/

/-- The station's tick count at the end of the present nanosecond's ticks (R243). -/
def tickNow (k : Nat) (s : State) : Nat := 16 * counterC (stDie k) s + 15

/-- LSN_NOW and TSTAT.FACET follow the timing. -/
def showTiming (k : Nat) (s : State) : State :=
  wr (R.STIM.TSTAT_FACET (stDie k) (stLoc k)) (staOf k s).facet
    (putWord (R.STIM.LSN_NOW_LSN (stDie k) (stLoc k)).addr (BitVec.ofNat 32 (firstUnfired k s)) s)

/-- OFF is left when TCFG.RUN is 1 and the station is enabled and not fenced (R247); an LED bar goes on at once. -/
def timingStart (k : Nat) (s : State) : State :=
  if timSt k s = 0 ∧ flag (R.STIM.TCFG_RUN (stDie k) (stLoc k)) s ∧ stationOn k s then
    let s1 := wr (R.STIM.TSTAT_STATE (stDie k) (stLoc k)) 1 (setSta k { staOf k s with beam := {}, facet := 0 } s)
    lenUpdate k (showTiming k (if ledBar k s1 then enterRun k s1 else s1))
  else s

/-- A station that has become an LED bar in ACQUIRE goes to RUN at once (R247). -/
def ledAcquire (k : Nat) (s : State) : State :=
  if timSt k s = 1 ∧ ledBar k s = true then lenUpdate k (showTiming k (enterRun k s)) else s

/-- TCFG.RUN has been written (R247). -/
def timingRun (k : Nat) (s : State) : State :=
  if flag (R.STIM.TCFG_RUN (stDie k) (stLoc k)) s then timingStart k s else timingEnd k s

/-! ### Planes (R79, R81, R249) -/

/-- A plane that the station images: begun, not ended and not done. -/
def StaPlane.active (p : StaPlane) : Bool := p.ended.isNone && !p.done

/-- One of the lines of LSN `lo` to `lo + n − 1` belongs to a plane. -/
def carriesPlane (k lo n : Nat) (s : State) : Bool :=
  (staOf k s).planes.any (fun p => p.active && decide (p.s0 < lo + n) && decide (lo < p.s0 + p.lines))

/-- A slip spoils the frame with cause SLIP, then source 2 is raised, and a web path stops (R250, R266, R348). -/
def slipSpoil (k i : Nat) (s : State) : State :=
  let web := !frameSheet i s
  let s1 := spoilFrame i 2 k s
  let s2 := if web && onPath k s then sendCause (pathOf k s) 3 s1 else s1
  stationFault k (stimPage (stLoc k)) 2 false s2

/-- The coverage message for course `c` of a plane (R421). A coverage record that cannot be read leaves its sums open. -/
def cffSend (k i xs offs c : Nat) (s : State) : State :=
  let d := stDie k
  let l := stLoc k
  let p := planeDesc i k s
  if flag (R.LOOP.CFF_ROUTE_EN d l) s && decide (c < p.courses) then
    let r := match agentRead agOther (p.record c) 80 s with
      | (.ok b, s1) => (b, s1)
      | (_, s1) => freeBytes 80 s1
    let cpc := rd (R.LOOP.CFF_CPC_CPC d l) s
    let xc := (xs + two56 - offs % two56 + c * cpc) % two56
    { r.2 with msgs := r.2.msgs ++ [.cff (rd (R.LOOP.CFF_ROUTE_DIE d l) s) k (frameFsn i s) xc (courseOut p c)
        (if p.contone then 255 else 15) p.width cpc ((List.range 16).map (fun z => fieldLe r.1 (16 + 4 * z) 4))] }
  else s

/-- A plane is begun at L1 (R81, R249). Its lines pass every stage: what was taken for gap lines at or beyond s0 is given up. -/
def beginPlane (k : Nat) (e : StartEntry) (l1 : Nat) (s : State) : State :=
  let i := e.slot
  let st := staOf k s
  if frameFsn i s ≠ e.fsn ∨ (slotOf i s).st < 4 ∨ 5 < (slotOf i s).st then s
  else if st.planes.any (fun p => p.ended.isNone && decide (l1 < p.s0 + p.lines)) then spoilFrame i 8 k s
  else
    let s0 := l1 + reachEff k s
    let keep := st.planes.filter (fun p => decide (l1 ≤ p.s0 + p.lines + 2 * reachEff k s))
    let p : StaPlane := { slot := i, fsn := e.fsn, l1 := l1, s0 := s0, lines := (planeDesc i k s).lines, xs := e.xs, offs := e.offs, met := e.met }
    wr (R.STIM.SLIP_CNT_FRAME (stDie k) (stLoc k)) 0
      (putWord (R.STIM.FRAME_S0_LSN (stDie k) (stLoc k)).addr (BitVec.ofNat 32 s0)
        (setSta k { st with planes := keep ++ [p], form := Nat.min st.form l1, src := Nat.min st.src s0
                            lines := st.lines.filter (fun e => decide (e.lsn < s0)) } s))

/-- A start event that waits takes the line `l1` as its L1. -/
def startTaken (k l1 : Nat) (s : State) : State :=
  match (staOf k s).start with
  | none => s
  | some e => beginPlane k e l1 (setSta k { staOf k s with start := none } s)

/-- The lowest spoil cause among the latches that are set (R301, R302). -/
def latchCause (w : Nat) : Nat := if testBit w 4 then 4 else if testBit w 3 then 5 else 6

/-- The edge that fires L1 of a plane falls: its frame is IMAGING (R79), and spoiled by the latches that its start event met (R302),
or by those that have suppressed its edges since (log 163). Where L1 was passed over as
slip, it is the edge that fires the first line after it (DESIGN CHOICE, log 146). -/
def firstFired (k : Nat) (p : StaPlane) (s : State) : State :=
  let s1 := putPlane k { p with fired := true } s
  let s2 := frameBegun p.slot k (setSta k { staOf k s1 with boundary := true, curFsn := some p.fsn } s1)
  let w := if p.met = 0 then latches k s2 else p.met
  if w = 0 then s2
  else onlyIf (p.met != 0) (evt (stDie k) (sprotPage (stLoc k)) 8) (spoilFrame p.slot (latchCause w) k s2)

/-- The planes whose L1 lies in the lines `lo` to `lo + n − 1` begin, and the coverage messages of the courses that follow
theirs are sent (R421). -/
def firedLines (k lo n : Nat) (s : State) : State :=
  let s0 := setSta k { staOf k s with boundary := false } s
  let s1 := ((staOf k s).planes.filter (fun p => p.active && !p.fired && decide (p.l1 < lo + n))).foldl
    (fun s p => firstFired k p s) s0
  (staOf k s1).planes.foldl (fun s p =>
    if !p.active then s
    else (List.range n).foldl (fun s j =>
      let t := lo + j
      if decide (p.s0 ≤ t) && decide (t < p.s0 + p.lines) && (t - p.s0) % 64 == 0 then cffSend k p.slot p.xs p.offs ((t - p.s0) / 64 + 1) s
      else s) s) s1

/-- I_p and the ends of planes follow the lines fired or passed over (R79, R83, R214). -/
def progress (k : Nat) (s : State) : State :=
  let s1 := (staOf k s).planes.foldl (fun s p =>
    if !p.active then s
    else
      let n0 := firstUnfired k s
      let c := Nat.min ((n0 - p.s0) / 64) (planeDesc p.slot k s).courses
      let q := planeOf p.slot k s
      let s1 := if q.imaging = c then s else leadCheck p.slot k (setPlane p.slot k { q with imaging := c } s)
      if p.s0 + p.lines ≤ n0 then
        planeFinished p.slot k (onlyIf (!p.fired) (frameBegun p.slot k) (putPlane k { p with done := true } s1))
      else s1) s
  showTiming k s1

/-! ### Slip (R265, R266) -/

/-- The frame that a station images and whose lines L1 to s0 + L − 1 include LSN `t`. -/
def imagedAt (k t : Nat) (s : State) : Option StaPlane :=
  (staOf k s).planes.find? (fun p => p.active && decide (p.l1 ≤ t) && decide (t < p.s0 + p.lines))

/-- The lines `lo` to `lo + n − 1` are counted as slip; the slot of the frame that has slipped too far. -/
def slipCount (k lo n : Nat) (s : State) : Option Nat × State :=
  if n = 0 then (none, s)
  else
    let d := stDie k
    let l := stLoc k
    let s1 := evt d (stimPage l) 2 (bumpBy (R.STIM.SLIP_TOTAL_COUNT d l) n s)
    let inPlane := (List.range n).filterMap (fun j => imagedAt k (lo + j) s)
    let s2 := bumpBy (R.STIM.SLIP_CNT_FRAME d l) inPlane.length s1
    match inPlane with
    | p :: _ => (if rd (R.STIM.SLIP_CFG_LIMIT d l) s2 < rd (R.STIM.SLIP_CNT_FRAME d l) s2 then some p.slot else none, s2)
    | [] => (none, s2)

/-- Lines that lie before the next line to be fired have been passed over as slip. A frame whose last line is among them is DONE
before it can be spoiled (R79). -/
def slipLines (k lo n : Nat) (s : State) : State :=
  let r := slipCount k lo n s
  let s1 := progress k r.2
  match r.1 with
  | some i => slipSpoil k i s1
  | none => s1

/-! ### Tags (R245, R281) -/

/-- A LAUNCH-TAG is sent; the PSN it has, if it has gone out. -/
def sendTag (k : Nat) (p : Placed) (s : State) : Option Nat × State :=
  let plane := (staOf k s).planes.any (fun q => q.active && !q.fired && decide (q.l1 < p.lsn + p.adv))
  let body := leBytes 1 p.wstart ++ leBytes 1 p.adv ++ leBytes 1 (b2n plane + 2 * b2n p.runStart) ++ leBytes 1 p.facet ++ [0, 0, 0, 0]
  let s1 := headSend k [{ type := 0x21, lsn := p.lsn % 4294967296, payload := body }] s
  let out := (headOf k s1).replay.reverse.find? (fun x => x.2.type == 0x21 && x.2.lsn == p.lsn % 4294967296)
  (out.map (fun x => x.1), s1)

/-- The next placed edge gets its tag once the edge before it has fired. -/
def tagNext (k : Nat) (s : State) : State :=
  match (staOf k s).placed with
  | p :: rest =>
    if p.tag.isSome then s
    else
      let r := sendTag k p s
      setSta k { staOf k r.2 with placed := { p with tag := some (r.1.getD 65536) } :: rest } r.2
  | [] => s

/-- The tag with this PSN has been acknowledged. -/
def tagAcked (k : Nat) (tag : Option Nat) (s : State) : Bool :=
  match tag with
  | some n => decide (n < 65536) && !(headOf k s).replay.any (fun x => x.1 == n)
  | none => false

/-! ### Stops (R251, R349) -/

/-- The stop line of a seam stop: the end of the course being imaged, or of the next where that line has been fired. -/
def stopAfter (R n0 : Nat) (p : StaPlane) (ip : Nat) : Nat :=
  let c := Nat.max ip (ceilDiv (n0 + R - p.s0) 64 - 1)
  p.s0 + 64 * (c + 1) - 1 - R

/-- The plane that a stop cuts: the earliest that the station images. -/
def stopPlane (k : Nat) (s : State) : Option StaPlane := (staOf k s).planes.find? (fun p => p.active)

/-- A station that is to stop fixes its stop line, once (R251). -/
def fixStop (k : Nat) (s : State) : State :=
  let st := staOf k s
  if !st.stopping || st.stopLine.isSome then s
  else match stopPlane k s with
    | none => s
    | some p =>
      let z := stopAfter (reachEff k s) (firstUnfired k s) p (planeOf p.slot k s).imaging
      putWord (R.STIM.STOP_LSN_LSN (stDie k) (stLoc k)).addr (BitVec.ofNat 32 z) (setSta k { st with stopLine := some z } s)

/-- The resume position of a scanner from the BD edge at tick `t` of the first scan not fired (R349). With no interval of the
counter Δ is open. -/
def scanResume (k t : Nat) (s : State) : State :=
  let d := stDie k
  let c := counterOf d (rd (R.CUE.STA_PATH_COUNTER d (stLoc k)) s) s
  let r := if c.interval = 0 then drawFree s else (16 * rd (R.STIM.BD_PERIOD_TICKS d (stLoc k)) s / c.interval, s)
  putResume k ((c.posAt (t / 16) + two56 - r.1 / 2 % two56) % two56) r.2

/-- The timing goes from RUN to HOLD (R247, R251, R231, R129); a fence that waits for an edge takes effect at once (log 65). -/
def enterHold (k : Nat) (s : State) : State :=
  let d := stDie k
  let l := stLoc k
  let st := staOf k s
  let n0 := firstUnfired k s
  let cut := match st.stopLine, stopPlane k s with
    | some z, some p => some (p, (z + reachEff k s + 1 - p.s0) / 64)
    | _, _ => none
  let lim := match cut with | some (p, c) => p.s0 + 64 * c | none => st.src
  let s1 := setSta k { st with
    ptr := n0, placed := [], found := [], strobeTag := none, ahead := [], form := Nat.min st.form n0, src := Nat.min st.src lim
    lines := st.lines.filter (fun e => decide (e.lsn < lim)), resWanted := !ledBar k s && st.placed.isEmpty, resDue := none
    planes := if lim < st.src then st.planes.map (fun p => { p with cov := 0 }) else st.planes } s
  let s2 := wr (R.STIM.TSTAT_STATE d l) 3 s1
  let s3 := if ledBar k s then putResume k (256 * st.holdCount) s2
    else match st.placed with
      | p :: _ => scanResume k p.bd s2
      | [] => s2
  let s4 := match cut with
    | some (p, c) => imagerHold k p.slot ((planeDesc p.slot k s).courseLines * c) s3
    | none => s3
  let s5 := stationStopped k (lenUpdate k (evtMask d (stimPage l) 0x42 (showTiming k s4)))
  if st.fenceAt.isSome then stationFence k s5 else s5

/-- The next scan or line lies beyond the stop line: the station holds. -/
def holdCheck (k : Nat) (s : State) : State :=
  let st := staOf k s
  match st.stopping, st.stopLine with
  | true, some z =>
    let n0 := firstUnfired k s
    let n := if ledBar k s then 1 else match st.placed with
      | p :: _ => p.adv
      | [] => (facetEntry k (facetBank k s) st.facet s).adv
    if timSt k s = 2 ∧ z + 1 < n0 + n then enterHold k s else s
  | _, _ => s

/-- After an edge: a station that stops holds, or with no plane imaging holds now (R349). -/
def stopCheck (k : Nat) (s : State) : State :=
  let s1 := fixStop k s
  let st := staOf k s1
  if st.stopping && st.stopLine.isNone && timSt k s1 == 2 then enterHold k s1 else holdCheck k s1

/-! ### Firing -/

/-- A course that is not surveyed when its first line is due is blanked, and the frame is spoiled, in sheet mode (R85). -/
def lateCourse (k : Nat) (s : State) : Option State :=
  match planeAt k (staOf k s).src s with
  | none => none
  | some q =>
    let c := ((staOf k s).src - q.s0) / 64
    if frameSheet q.slot s && !planeComplete q.slot k s && decide ((planeOf q.slot k s).surveyed ≤ c) then some (spoilFrame q.slot 7 k s)
    else none

/-- The lines that draw on the source line that is missing are late; once no line of the edge does, the source line is given up
(R128). -/
def lateLines (k upto : Nat) (s : State) : State :=
  let st := staOf k s
  let t := formAt k s
  let last := Nat.min upto (st.src + reachEff k s + 1)
  let s1 := setSta k { st with form := Nat.max t last, src := if last < upto then st.src + 1 else st.src } s
  if t < last then
    evt (stDie k) 0x40 5
      (bumpBy (if stLoc k = 0 then R.CODEC.IMG_LATE_LOCAL0 (stDie k) else R.CODEC.IMG_LATE_LOCAL1 (stDie k)) (last - t) s1)
  else s1

/-- The lines below LSN `upto` are formed as far as they can be; the others are late (R128). -/
def formDue (k upto : Nat) : Nat → State → State
  | 0, s => s
  | fuel + 1, s =>
    if upto ≤ formAt k s then s
    else
      let r := formNext k s
      if r.1 then formDue k upto fuel r.2
      else if timSt k r.2 ≠ 2 then r.2
      else match lateCourse k r.2 with
        | some s1 => formDue k upto fuel s1
        | none => formDue k upto fuel (lateLines k upto r.2)

/-- The line boundary of a gate has come with the edge at `tick` (R300): LEN falls, and a fence that waits takes effect. -/
def gateReached (k tick : Nat) (s : State) : State :=
  let st := staOf k s
  match st.gateAt with
  | some g =>
    if g ≤ tick then
      let later := st.fenceAt.filter (fun t => decide (tick < t))
      let s1 := lenUpdate k (setSta k { st with gateAt := later, fenceAt := later, gated := true } s)
      if st.fenceAt.isSome && later.isNone then stationFence k s1 else s1
    else s
  | none => s

/-- Edges are suppressed: a PAPER, JAM or HOT latch is set and its line boundary has passed (R300). -/
def suppressed (k : Nat) (s : State) : Bool := decide (4 ≤ latches k s) && (staOf k s).gated

/-- An edge at `tick` fires the lines `lo` to `lo + n − 1`, or is suppressed; what waits for it has been taken off. -/
def fireEdge (k tick lo n : Nat) (tag : Option Nat) (s : State) : State :=
  let s1 := if suppressed k s then s
    else
      let st := staOf k s
      setSta k { st with lastEdge := some tick, firedTo := some (lo + n - 1), edges := st.edges ++ [(lo, tagAcked k tag s)] }
        { s with sent := .lgo k tick (rd (R.STIM.LGO_CFG_WIDTH (stDie k) (stLoc k)) s) :: s.sent }
  stopCheck k (progress k (firedLines k lo n s1))

/-- The LGO edge of the scan `p`, the first that is placed, falls (R256). -/
def lgoFalls (k : Nat) (p : Placed) (s : State) : State :=
  let s1 := gateReached k p.tick (formDue k (p.lsn + p.adv) (4 * p.adv + 8) s)
  if timSt k s1 ≠ 2 then s1
  else
    let st := staOf k s1
    tagNext k (fireEdge k p.tick p.lsn p.adv p.tag (setSta k { st with placed := st.placed.drop 1 } s1))

/-! ### Beam detect and facet identity (R253 to R255) -/

def beamWin (k : Nat) (s : State) : Nat := rd (R.STIM.BD_CFG_WIN (stDie k) (stLoc k)) s
def beamPeriod (k : Nat) (s : State) : Nat := rd (R.STIM.BD_PERIOD_TICKS (stDie k) (stLoc k)) s
def setBeam (k : Nat) (b : Beam) (s : State) : State := setSta k { staOf k s with beam := b } s
def fidMode (k : Nat) (s : State) : Nat := rd (R.STIM.TCFG_FID_MODE (stDie k) (stLoc k)) s
def fidConfirm (k : Nat) (s : State) : Nat := rd (R.STIM.FID_CFG_CONFIRM (stDie k) (stLoc k)) s

/-- The deviations of a revolution, which saturate to 16 bits (R255). -/
def deviations (rev : List Nat) : List Int :=
  let m : Int := ((rev.sum / rev.length : Nat) : Int)
  rev.map (fun (i : Nat) => clampInt (-32768) 32767 ((i : Int) - m))

/-- FSIG. -/
def fsig (k : Nat) (s : State) : List Int :=
  (List.range 16).map (fun f => toSigned 16 (bitsOf (rd (R.STIM.FSIG (stDie k) (stLoc k) (f / 2)) s) (16 * (f % 2)) 16))

/-- S_r. -/
def sigScore (dev sig : List Int) (r : Nat) : Nat :=
  ((List.range dev.length).map (fun f => (dev.getD f 0 - sig.getD ((f + r) % dev.length) 0).natAbs)).sum

/-- The winning rotation, and whether it leads by the margin within MAXERR. -/
def sigWinner (dev sig : List Int) (maxErr margin : Nat) : Nat × Bool :=
  let sc := (List.range dev.length).map (sigScore dev sig)
  let best := sc.zipIdx.foldl (fun (b : Nat × Nat) x => if x.1 < b.1 then (x.1, x.2) else b) (sc.headD 0, 0)
  (best.2, decide (best.1 ≤ maxErr) && sc.zipIdx.all (fun x => x.2 == best.2 || decide (best.1 + margin ≤ x.1)))

/-- FMEAS takes the deviations of a revolution, in counter order. -/
def showDeviations (k : Nat) (dev : List Int) (s : State) : State :=
  dev.zipIdx.foldl (fun s e =>
    let l := R.STIM.FMEAS (stDie k) (stLoc k) (e.2 / 2)
    wr { l with lsb := l.lsb + 16 * (e.2 % 2), width := 16 } (ofSigned 16 e.1) s) s

/-- Identity is lost (R255). -/
def identityLost (k : Nat) (s : State) : State :=
  stationFault k (stimPage (stLoc k)) 1 false (wr (R.STIM.TSTAT_FID_OK (stDie k) (stLoc k)) 0 s)

/-- A revolution has met the criterion, or the contrary of it has held; `rot` corrects the counter at confirmation. Identity is lost
in RUN only. -/
def judgeIdentity (k : Nat) (holds contrary : Bool) (rot : Nat) (s : State) : State :=
  let b := (staOf k s).beam
  if flag (R.STIM.TSTAT_FID_OK (stDie k) (stLoc k)) s then
    if timSt k s ≠ 2 then s
    else if contrary then
      let n := b.lose + 1
      if fidConfirm k s ≤ n then identityLost k (setBeam k { b with lose := 0 } s) else setBeam k { b with lose := n } s
    else if holds then setBeam k { b with lose := 0 } s else s
  else if !holds then setBeam k { b with confirm := 0, winner := none } s
  else
    let n := if b.winner = some rot ∨ b.winner = none then b.confirm + 1 else 1
    if fidConfirm k s ≤ n then
      let st := staOf k s
      evt (stDie k) (stimPage (stLoc k)) 4 (wr (R.STIM.TSTAT_FID_OK (stDie k) (stLoc k)) 1
        (setSta k { st with facet := (st.facet + rot) % facetCount k s
                            beam := { b with confirm := 0, winner := none, rev := [], revBad := b.revBad || rot != 0 } } s))
    else setBeam k { b with confirm := n, winner := some rot } s

/-- A revolution without early or missed edges has ended (R255). -/
def revolution (k : Nat) (rev : List Nat) (s : State) : State :=
  let d := stDie k
  let l := stLoc k
  let dev := deviations rev
  let s1 := showDeviations k dev s
  if fidMode k s1 ≠ 2 then s1
  else
    let w := sigWinner dev (fsig k s1) (rd (R.STIM.FID_CFG_MAXERR d l) s1) (rd (R.STIM.FID_MARGIN_MARGIN d l) s1)
    if flag (R.STIM.TSTAT_FID_OK d l) s1 then judgeIdentity k (w.2 && w.1 == 0) (w.2 && w.1 != 0) 0 s1
    else judgeIdentity k w.2 false w.1 s1

/-- STABLE consecutive intervals lie within ±WIN/256 of their mean. -/
def intervalsStable (win n : Nat) (l : List Nat) : Bool :=
  let x := l.take n
  let sum := x.sum
  x.length == n && x.all (fun (i : Nat) => decide (256 * (((i * n : Nat) : Int) - (sum : Int)).natAbs ≤ win * sum))

/-- P_e is the mean of the last N intervals; of those that there are when beam detect becomes stable before N (log 62). -/
def periodUpdate (k : Nat) (s : State) : State :=
  let last := (staOf k s).beam.intervals.take (facetCount k s)
  wr (R.STIM.BD_PERIOD_TICKS (stDie k) (stLoc k)) (last.sum / last.length) s

/-- Beam detect becomes stable. -/
def stableCheck (k : Nat) (s : State) : State :=
  let b := (staOf k s).beam
  if b.stable || !intervalsStable (beamWin k s) (rd (R.STIM.BD_CFG_STABLE (stDie k) (stLoc k)) s) b.intervals then s
  else periodUpdate k (setBeam k { b with stable := true } s)

/-- Once beam detect is stable, every accepted edge that ends N intervals without an early or missed edge moves P_e (R253, R254). -/
def periodFollow (k : Nat) (s : State) : State :=
  let b := (staOf k s).beam
  if b.stable && decide (facetCount k s ≤ b.intervals.length) then periodUpdate k s else s

/-- ACQUIRE is left (R247): the count mode confirms at once. -/
def acquired (k : Nat) (s : State) : State :=
  let d := stDie k
  let l := stLoc k
  if timSt k s ≠ 1 ∨ !(staOf k s).beam.stable then s
  else
    let s1 := if fidMode k s = 0 ∧ !flag (R.STIM.TSTAT_FID_OK d l) s then
        evt d (stimPage l) 4 (wr (R.STIM.TSTAT_FID_OK d l) 1 s) else s
    if flag (R.STIM.TSTAT_FID_OK d l) s1 then lenUpdate k (enterRun k s1) else s1

/-- An edge at tick `t` is accepted: the facet of its scan, and what the edge says of the beam (R253 to R255). -/
def beamAccept (k t : Nat) (s : State) : Nat × State :=
  let d := stDie k
  let l := stLoc k
  let st := staOf k s
  let b := st.beam
  let n := facetCount k s
  let acquiring := timSt k s == 1
  let f0 := if b.last.isNone then 0 else st.facet
  let f := if b.idxNext && acquiring && !flag (R.STIM.TSTAT_FID_OK d l) s && fidMode k s == 1 then 0 else f0
  let gap := match b.last with | some p => t - p | none => 0
  let rev := match b.last with | some _ => b.rev ++ [gap] | none => []
  let b1 : Beam := { b with
    last := some t, base := t, missed := 0, scans := b.scans + 1, lastC := counterC d s
    intervals := if b.last.isNone || b.gapBad then [] else (gap :: b.intervals).take 255, gapBad := false
    rev := if f = 0 then [] else rev, revBad := if f = 0 then false else b.revBad || f != f0
    sinceIdx := if b.idxNext then some 1 else b.sinceIdx.map (· + 1)
    idxZero := if b.idxNext then f == 0 else b.idxZero
    idxNext := false }
  let s1 := putWord (R.STIM.BD_TIME_TICKS d l).addr (BitVec.ofNat 32 t)
    (wr (R.STA.FACET_STAT_FACET d l) f (setSta k { st with facet := (f + 1) % n, beam := b1 } s))
  let s2 := if f0 = 0 ∧ f = 0 ∧ rev.length = n ∧ !b.revBad then revolution k rev s1 else s1
  let s3 := periodFollow k s2
  (f, showTiming k (if acquiring then acquired k (stableCheck k s3) else s3))

/-- FID_INDEX_EDGE (R255): a rising edge on the pin that FID_CFG.PIN names (log 153); N edges since the last one make a good revolution. -/
def execFidIndexEdge (k : Nat) (s : State) : Host.Outcome State Fault Refusal :=
  if ledBar k s || !stationOn k s || timSt k s == 0 || fidMode k s != 1 then .next s
  else
    let b := (staOf k s).beam
    let s1 := match b.sinceIdx with
      | some m => if b.idxBad then s
        else
          let good := m == facetCount k s && b.idxZero
          judgeIdentity k good (!good) 0 s
      | none => s
    .next (acquired k (setBeam k { (staOf k s1).beam with idxNext := true, sinceIdx := some 0, idxBad := false } s1))

/-! ### Scans (R254, R256, R257) -/

/-- The line pointer moves on by the lines of the scan of facet `f`, which is not placed. -/
def passScan (k adv : Nat) (s : State) : State :=
  let st := staOf k s
  setSta k { st with ptr := st.ptr + adv, ahead := st.ahead.drop 1 } s

/-- A scan is lost: its lines count as slip (R265). -/
def loseScan (k f : Nat) (s : State) : State :=
  let adv := (facetEntry k (facetBank k s) f s).adv
  let lo := (staOf k s).ptr
  slipLines k lo adv (passScan k adv s)

/-- The scan of facet `f` whose edge was accepted at tick `t` is placed (R256, R257). -/
def placeScan (k f t : Nat) (s : State) : State :=
  let st := staOf k s
  let p0 := scanFor k f st.ptr s
  let carries := carriesPlane k st.ptr p0.adv s
  if !facetOk k s then
    if carries then stationFault k (staPage (stLoc k)) 1 false s else progress k (passScan k p0.adv s)
  else
    let df := facetDelay k f s
    if !delayInRange df then
      if carries then stationFault k (stimPage (stLoc k)) 4 false s else progress k (passScan k p0.adv s)
    else
      let tick := t + df.toNat
      let before := match st.placed.getLast? with | some q => some q.tick | none => st.lastEdge
      let close := match before with | some b => decide (tick < b + 32000) | none => false
      if close || decide (8 ≤ st.placed.length) then loseScan k f s
      else
        let p := { p0 with tick := tick, bd := t, runStart := st.runEdge }
        let same := match st.ahead.head? with
          | some a => a.lsn == p.lsn && a.adv == p.adv && a.wstart == p.wstart && a.pt == p.pt && a.mirror == p.mirror
          | none => false
        tagNext k (setSta k { st with
          placed := st.placed ++ [p], ptr := st.ptr + p.adv, runEdge := false
          ahead := if same then st.ahead.drop 1 else [], form := if same then st.form else Nat.min st.form st.ptr } s)

/-- The scan of an accepted edge in RUN: it may be the first after a start event, or beyond a stop line. -/
def takeScan (k f t : Nat) (s : State) : State :=
  let s1 := holdCheck k (fixStop k (startTaken k (staOf k s).ptr s))
  let st := staOf k s1
  if timSt k s1 = 3 then (if st.resWanted then scanResume k t (setSta k { st with resWanted := false } s1) else s1)
  else if timSt k s1 ≠ 2 then s1
  else
    let adv := (facetEntry k (facetBank k s1) f s1).adv
    match st.stopLine with
    | some z => if z + 1 < st.ptr + adv then s1 else placeScan k f t s1
    | none => placeScan k f t s1

/-- A scan that was due has not come (R254). In HOLD it is not slip (R251). -/
def missScan (k : Nat) (s : State) : State :=
  let d := stDie k
  let l := stLoc k
  let st := staOf k s
  let b := st.beam
  let s1 := bump (R.STIM.BD_CNT_MISSED d l) (setSta k { st with
    facet := (st.facet + 1) % facetCount k s
    beam := { b with missed := b.missed + 1, base := b.base + beamPeriod k s, rev := [], revBad := true, gapBad := true, intervals := [], idxBad := true
                     idxNext := false, sinceIdx := b.sinceIdx.map (· + 1) } } s)
  let s2 := if timSt k s1 = 2 then loseScan k st.facet s1 else s1
  if rd (R.STIM.BD_CFG_LOSS d l) s2 ≤ b.missed + 1 ∧ timSt k s2 ≠ 0 then stationFault k (stimPage l) 0 false s2 else showTiming k s2

/-- The window of the next edge is over at tick `t`. -/
def windowOver (k t : Nat) (s : State) : Bool :=
  let b := (staOf k s).beam
  (timSt k s == 2 || timSt k s == 3) && b.last.isSome && decide (256 * b.base + (256 + beamWin k s) * beamPeriod k s < 256 * t)

/-- Scans missed before tick `t`. -/
def missUntil (k t : Nat) : Nat → State → State
  | 0, s => s
  | fuel + 1, s => if windowOver k t s then missUntil k t fuel (missScan k s) else s

/-- BD_MISSED (R254): the window of an edge is over without one. -/
def execBdMissed (k : Nat) (s : State) : Host.Outcome State Fault Refusal :=
  if ledBar k s || !stationOn k s || !windowOver k (16 * counterC (stDie k) s) s then .next s else .next (missScan k s)

/-- An edge before its window: ignored and counted (R254). -/
def earlyEdge (k : Nat) (s : State) : State :=
  let b := (staOf k s).beam
  stationFault k (stimPage (stLoc k)) 6 false
    (bump (R.STIM.BD_CNT_EARLY (stDie k) (stLoc k)) (setBeam k { b with revBad := true, gapBad := true, intervals := [], idxBad := true } s))

/-- BD_EDGE (R244, R253, R254): the edge of BD_Sk that TCFG.BD_EDGE selects (log 153), captured at tick 16·C + phase. In HOLD it is judged as in RUN, but nothing is
placed (log 61). -/
def execBdEdge (k phase : Nat) (s : State) : Host.Outcome State Fault Refusal :=
  let t := 16 * counterC (stDie k) s + phase % 16
  if ledBar k s || !stationOn k s || timSt k s == 0 then .next s
  else if timSt k s = 1 then .next (beamAccept k t s).2
  else
    let s1 := missUntil k t 64 s
    let b := (staOf k s1).beam
    if timSt k s1 = 0 then .next s1
    else if b.last.isSome && decide (256 * t + beamWin k s1 * beamPeriod k s1 < 256 * (b.base + beamPeriod k s1)) then .next (earlyEdge k s1)
    else
      let r := beamAccept k t s1
      if timSt k r.2 = 2 then .next (takeScan k r.1 t r.2)
      else if timSt k r.2 = 3 ∧ (staOf k r.2).resWanted then
        .next (scanResume k t (setSta k { staOf k r.2 with resWanted := false } r.2))
      else .next r.2

/-! ### LED bars (R261 to R263) -/

/-- P_min. -/
def strobeMin (k : Nat) (s : State) : Nat :=
  Nat.max 32000 (Nat.max (rd (R.STIM.LINE_MIN_TICKS (stDie k) (stLoc k)) s)
    (ceilDiv (16 * 8 * rd (R.STA.LINE_LEN_LEN8 (stDie k) (stLoc k)) s) 6))

/-- One step of the line generator's counter at time `t` (C), `up` as the counter counted, with its interval (R261, R262). -/
def lineStep (k : Nat) (up : Bool) (t count interval : Nat) (s : State) : State :=
  let d := stDie k
  let l := stLoc k
  if !ledBar k s || timSt k s != 2 then s
  else
    let s0 := wr (R.STIM.BD_PERIOD_TICKS d l) (16 * interval) s
    let st := staOf k s0
    let a := rd (R.STIM.LG_ACC_A d l) s0
    let num := rd (R.STIM.LG_NUM_NUM d l) s0
    let den := rd (R.STIM.LG_DEN_DEN d l) s0
    if up == flag (R.STIM.LG_CFG_REVERSE d l) s0 then
      if a < num then wr (R.STIM.LG_ACC_A d l) (a + den - num) (setSta k { st with owed := st.owed + 1 } s0)
      else wr (R.STIM.LG_ACC_A d l) (a - num) s0
    else if a + num < den then wr (R.STIM.LG_ACC_A d l) (a + num) s0
    else
      let acc := a + num - den
      let s1 := wr (R.STIM.LG_ACC_A d l) acc s0
      if 0 < st.owed then setSta k { st with owed := st.owed - 1 } s1
      else
        let r := if interval = 0 then drawFree s1 else (interval, s1)
        let tick := 16 * t + rd (R.STIM.LG_DELAY_TICKS d l) s1 + 16 * (den - a) * r.1 / num
        let s2 := startTaken k st.ptr r.2
        let st2 := staOf k s2
        showTiming k (setSta k { st2 with ptr := st2.ptr + 1, found := st2.found ++ [⟨st.ptr, tick, count, acc⟩] } s2)

/-- The lines that a strobe may fire: none beyond a stop line. -/
def strobeLines (k : Nat) (s : State) : List FoundLine :=
  let st := staOf k s
  match st.stopLine with
  | some z => st.found.filter (fun f => decide (f.lsn ≤ z))
  | none => st.found

/-- The coming strobe: its tick and the line it fires (R263). -/
def nextStrobe (k : Nat) (s : State) : Option (Nat × FoundLine) :=
  match strobeLines k s with
  | [] => none
  | f :: rest =>
    let t := match (staOf k s).lastEdge with | some e => Nat.max f.tick (e + strobeMin k s) | none => f.tick
    some (t, rest.foldl (fun b x => if x.tick ≤ t then x else b) f)

/-- The tag of the coming strobe is sent (R263, R281). -/
def strobeTagSend (k : Nat) (f : FoundLine) (s : State) : State :=
  let st := staOf k s
  match st.strobeTag with
  | some x => if x.1 = f.lsn then s else s
  | none =>
    let r := sendTag k { lsn := f.lsn, adv := 1, wstart := 0, facet := 0, tick := 0, runStart := st.runEdge } s
    setSta k { staOf k r.2 with strobeTag := some (f.lsn, r.1), runEdge := false } r.2

/-- The strobe at tick `t` falls and fires the line `f`; the lines found before it are slip (R263). -/
def strobeFalls (k t : Nat) (f : FoundLine) (s : State) : State :=
  let st := staOf k s
  let passed := (st.found.filter (fun x => decide (x.lsn < f.lsn))).map (fun x => x.lsn)
  let s1 := setSta k { st with found := st.found.filter (fun x => decide (f.lsn ≤ x.lsn)), holdAcc := f.acc, holdCount := f.count } s
  let s2 := slipLines k (passed.headD 0) passed.length s1
  if timSt k s2 ≠ 2 then s2
  else
    let s3 := gateReached k t (formDue k (f.lsn + 1) 16 (strobeTagSend k f s2))
    if timSt k s3 ≠ 2 then s3
    else
      let st3 := staOf k s3
      let tag := match st3.strobeTag with | some x => x.2 | none => none
      fireEdge k t f.lsn 1 tag (setSta k { st3 with found := st3.found.drop 1, strobeTag := none } s3)

/-- The tag of the strobe of station `k` is due: between 2.0 and 1.5 µs before it (R263). -/
def strobeTagDue (k : Nat) (s : State) : State :=
  if !ledBar k s || timSt k s != 2 || (staOf k s).strobeTag.isSome then s
  else match nextStrobe k s with
    | some (t, f) => if t ≤ 16 * counterC (stDie k) s + 32000 then strobeTagSend k f s else s
    | none => s

/-- What one nanosecond brings to the LED stations. -/
def ledTags (s : State) : State := s.stations.foldl (fun s e => strobeTagDue e.1 s) s

/-! ### Start and resume events (R249, R250, R342, R352) -/

/-- START_EVENT (R342): the oldest start of a station is due. -/
def execStartEvent (k : Nat) (s : State) : Host.Outcome State Fault Refusal :=
  match startListOf k s with
  | [] => .next s
  | e :: rest =>
    let due := match e.due with | some t => decide (t ≤ counterC (stDie k) s) | none => false
    if !due || startsHeld k s then .next s
    else
      let s1 := watchStart k (setStartList k rest s)
      if timSt k s1 ≠ 2 then .next (evt (stDie k) (stimPage (stLoc k)) 7 (slipSpoil k e.slot s1))
      else
        let s2 := cffSend k e.slot e.xs e.offs 0 s1
        if (staOf k s2).start.isSome then .next (spoilFrame e.slot 8 k s2)
        else .next (setSta k { staOf k s2 with start := some { e with met := latches k s2 } } s2)

/-- RESUME_EVENT (R252, R352): a held station's resume position is reached in RUNUP. -/
def execResumeEvent (k : Nat) (s : State) : Host.Outcome State Fault Refusal :=
  if timSt k s ≠ 3 ∨ !onPath k s ∨ pathState (pathOf k s) s ≠ 6 ∨ !resumeDue k s then .next s
  else
    let p := pathOf k s
    let s1 := if cruiseSettled p s then s else runupFailed (stDie k) p s
    .next (pathRunup p (showTiming k (releaseHold k s1)))

/-! ### Underruns (R267) -/

/-- The head has reported an underrun of an LSN, as an unwrapped line number. -/
def underrun (k t : Nat) (s : State) : State :=
  let d := stDie k
  let l := stLoc k
  let s1 := evt d (stimPage l) 3 (if flag (R.STIM.UNDERRUN_CNT_VALID d l) s then s
    else wr (R.STIM.UNDERRUN_CNT_VALID d l) 1 (putWord (R.STIM.UNDERRUN_LOG_LSN d l).addr (BitVec.ofNat 32 t) s))
  let n0 := firstUnfired k s
  match (if t < n0 ∧ n0 ≤ t + 65536 then imagedAt k t s else none) with
  | some p => stationFault k (stimPage l) 3 false (spoilFrame p.slot 3 k (bump (R.STIM.UNDERRUN_CNT_PLANE d l) s1))
  | none => stationFault k (stimPage l) 5 false (bump (R.STIM.UNDERRUN_CNT_GAP d l) s1)

/-- A 32-bit LSN near the present line, without its wrap. -/
def unwrapLsn (k lsn : Nat) (s : State) : Nat :=
  let n0 := firstUnfired k s
  let back := (n0 + 4294967296 - lsn) % 4294967296
  if back < 2147483648 then n0 - back else n0 + (4294967296 - back)

/-- The line that a TAG_MISS report stands for. -/
def tagMissLine (k : Nat) (s : State) : Option Nat :=
  let e := (staOf k s).edges
  match e.find? (fun x => !x.2) with
  | some x => some x.1
  | none => e.head?.map (fun x => x.1)

end Sys2Proof.Machine
end

