-- ==== Sys2Proof/Machine/Tick.lean ====
section
/-! DEFINITION. The passing of time: what one nanosecond does to the clocks (R437 to R440). -/

namespace Sys2Proof.Machine

/-- M with a signed number of 2^-32 ns added; nanoseconds carry into the 48-bit seconds. -/
def MasterTime.add (m : MasterTime) (x : Int) : MasterTime :=
  let unit : Int := 4294967296
  let t := ((m.sec * 1000000000 + m.ns : Nat) : Int) * unit + (m.frac : Nat) + x
  let n := t / unit
  { m with frac := (t % unit).toNat, ns := (n % 1000000000).toNat, sec := (n / 1000000000 % 281474976710656).toNat }

/-- One 500 MHz tick of M (R437, R438): a load discards an adjustment, and a new increment then applies from the following
tick; otherwise an adjustment and the new increment are added in this tick. -/
def masterTick (s : State) : State :=
  let m := s.master
  let incr := m.newIncr.getD m.incr
  if m.load then
    evt 0 0x32 0 { s with master := { m with
      sec := rd (R.TIME.SET_SEC_LO_SEC 0) s + 4294967296 * rd (R.TIME.SET_SEC_HI_SEC 0) s
      ns := rd (R.TIME.SET_NS_NS 0) s, frac := 0, incr := incr, newIncr := none, adj := none, load := false } }
  else
    let s1 := { s with master := { (m.add (m.adj.getD 0 * 4294967296 + incr)) with incr := incr, newIncr := none, adj := none } }
    onlyIf m.adj.isSome (evt 0 0x32 0) s1

/-- One nanosecond (DESIGN CHOICE, log 4); the 500 MHz edges are the even ones. -/
def tick (s : State) : State :=
  let s1 := { s with now := s.now + 1 }
  if s1.now % 2 = 0 then masterTick s1 else s1

/-- What a step does when no command waits: one nanosecond, in which the lanes send (R163), the tags go out that a strobe of
an LED bar owes by then (R263), and the step pulses that are due (R366). -/
def idle (s : State) : State := stepPulses (ledTags (linkTick (tick s)))

end Sys2Proof.Machine
end

