-- ==== Sys2Proof/Machine/Net.lean ====
section
/-! DEFINITION. Network time and the engine-link Ethernet ports (R435 to R453). -/

namespace Sys2Proof.Machine

/-! ### The master counter and local time (R437 to R444) -/

/-- The bounds of INCR: 2 ns ± 250 ppm in units of 2^-32 ns (R437). -/
def incrLow : Nat := 8587787043
def incrHigh : Nat := 8592082141

/-- A write of INCR_NS applies the pair, held to its bounds, at the next tick (R437). -/
def timeIncr (s : State) : State :=
  let v := rd (R.TIME.INCR_FRAC_FRAC 0) s + 4294967296 * rd (R.TIME.INCR_NS_NS 0) s
  let w := Nat.max incrLow (Nat.min incrHigh v)
  let s1 := wr (R.TIME.INCR_NS_NS 0) (w / 4294967296) (wr (R.TIME.INCR_FRAC_FRAC 0) w s)
  { s1 with master := { s1.master with newIncr := some w } }

/-- A write of ADJ: a signed number of ns, once, at the next tick (R438). -/
def timeAdj (v : Nat) (s : State) : State :=
  { s with master := { s.master with adj := some (s.master.adj.getD 0 + toSigned 32 v) } }

/-- SET_CTL.GO (R438). -/
def timeSet (s : State) : State := { s with master := { s.master with load := true } }

/-- M in ns form (R439), interpolated between its ticks (R445). -/
def masterNs (s : State) : Nat := (s.master.sec * 1000000000 + s.master.ns + s.now % 2) % 18446744073709551616

/-- TIME_REFRESH_SEND (R441): D0 sends M to each present die, and samples M itself. -/
def execTimeRefreshSend (s : State) : Host.Outcome State Fault Refusal :=
  .next { s with msgs := s.msgs ++ (List.range s.dies).map (fun d => .refresh d s.master.sec s.master.ns s.master.frac) }

/-- R_k that removes an error of `e` ns over 1 ms of an M that gains `incr` in each tick, within ±500 ppm of nominal (R441;
log 172). A quotient that is not whole is rounded in a way the spec leaves open (log 50). -/
def slewRate (incr : Nat) (e : Int) : Nat :=
  let x := (incr : Int) * (1000000 - e)
  let q := x / 2000000 + (if x % 2000000 = 0 then 0 else Config.rotated 50 [e, incr] % 2)
  (clampInt 4292819813 4297114779 q).toNat

/-- A refresh whose time, with its latency, is `t` reaches die `d` (R441, R443). -/
def refreshDie (d t : Nat) (s : State) : State :=
  let l := ltime d s
  let e := toSigned 64 (l + 18446744073709551616 - t % 18446744073709551616)
  let s1 := wr (R.TIME.SYNC_STAT_MISSED d) 0 (wrS (R.TIME.SYNC_STAT_ERR d) (clampInt (-32768) 32767 e) s)
  let c := clockOf d s1
  if e.natAbs ≤ 1000 * rd (R.TIME.SYNC_CFG_STEP_THR d) s1 then
    let r := slewRate s.master.incr e
    wrS (R.TIME.RATE_CORR d) ((r : Int) - 4294967296) (setClock d { c with lk := l, ck := counterC d s1, rk := r } s1)
  else
    let r := slewRate s.master.incr 0
    let s2 := setClock d { c with lk := t % 18446744073709551616, ck := counterC d s1, rk := r } s1
    evt d 0x32 1 (bump (R.TIME.SYNC_STAT_STEPS d) (wrS (R.TIME.RATE_CORR d) ((r : Int) - 4294967296) s2))

def isRefresh (d : Nat) : Msg → Bool
  | .refresh d' .. => d' == d
  | _ => false

/-- TIME_REFRESH (R441): the oldest refresh on its way to a die arrives; D0's own has a latency of 0. -/
def execTimeRefresh (d : Nat) (s : State) : Host.Outcome State Fault Refusal :=
  match s.msgs.find? (isRefresh d) with
  | some (.refresh d' sec ns frac) =>
    let s1 := { s with msgs := s.msgs.erase (.refresh d' sec ns frac) }
    if dieUp d s1 && !dieFenced d s1 then
      .next (refreshDie d (sec * 1000000000 + ns + (if d = 0 then 0 else rd (R.TIME.MORT_LAT_NS d) s1)) s1)
    else .next s1
  | _ => .next s

/-- TIME_REFRESH_MISS (R443): an expected refresh has not come; it is lost. -/
def execTimeRefreshMiss (d : Nat) (s : State) : Host.Outcome State Fault Refusal :=
  if !dieUp d s then .next s
  else
    let s0 := match s.msgs.find? (isRefresh d) with
      | some m => { s with msgs := s.msgs.erase m }
      | none => s
    let before := rd (R.TIME.SYNC_STAT_MISSED d) s0
    let s1 := bump (R.TIME.SYNC_STAT_MISSED d) s0
    if before < rd (R.TIME.SYNC_CFG_MISS_LIM d) s1 ∧ rd (R.TIME.SYNC_CFG_MISS_LIM d) s1 ≤ before + 1 then
      .next (evt d 0x32 2 (recordFault d 0x32 0 false s1))
    else .next s1

/-! ### Frames (R435, R436, R446, R447) -/

def ethOf (p : Nat) (s : State) : EthPort := mapGet (fun _ => {}) s.eths p
def setEth (p : Nat) (v : EthPort) (s : State) : State := { s with eths := mapSet (fun _ => {}) s.eths p v }

/-- The port takes and sends frames: enabled, not fenced, its lane in state 5 (R435). -/
def ethUp (p : Nat) (s : State) : Bool :=
  decide (p < 2) && blockUp 0 0x31 s && flag (R.ELNK.PCFG_EN 0 p) s && !isFenced (.eth p) s && !isFenced (.lane 0 (10 + p)) s &&
    rd (R.LANE.LSTAT_STATE 0 (10 + p)) s == 5

/-- A big-endian number of a frame. -/
def fieldBe (bs : List Byte) (o n : Nat) : Nat := ((bs.drop o).take n).foldl (fun a b => 256 * a + b.toNat) 0

/-- The `n` big-endian bytes of a number. -/
def beBytes (n v : Nat) : List Byte := (leBytes n v).reverse

/-- Bytes of a frame replaced from an offset. -/
def patchBytes (bs : List Byte) (o : Nat) (new : List Byte) : List Byte := bs.take o ++ new ++ bs.drop (o + new.length)

/-- The offset of the EtherType, after one 802.1Q tag. -/
def etherTypeAt (f : List Byte) : Nat := if fieldBe f 12 2 = 0x8100 then 16 else 12

/-- The offset of the UDP header of a frame that holds one. -/
def udpAt (f : List Byte) : Option Nat :=
  let o := etherTypeAt f
  let t := fieldBe f o 2
  let h := o + 2
  if t = 0x0800 ∧ fieldBe f (h + 9) 1 = 17 then some (h + 4 * (fieldBe f h 1 % 16))
  else if t = 0x86DD ∧ fieldBe f (h + 6) 1 = 17 then some (h + 40)
  else none

/-- The offset of the PTP header of a PTP message (R446). -/
def ptpAt (f : List Byte) : Option Nat :=
  let o := etherTypeAt f
  if fieldBe f o 2 = 0x88F7 then some (o + 2)
  else match udpAt f with
    | some u => if fieldBe f (u + 2) 2 = 319 ∨ fieldBe f (u + 2) 2 = 320 then some (u + 8) else none
    | none => none

/-- A Sync of version 2.x at a PTP header. -/
def isSync (f : List Byte) (o : Nat) : Bool := fieldBe f o 1 % 16 == 0 && fieldBe f (o + 1) 1 % 16 == 2

/-- R436: the destination address is one that the port delivers. -/
def ethAccepts (p : Nat) (f : List Byte) (s : State) : Bool :=
  flag (R.ELNK.PCFG_PROMISC 0 p) s ||
    fieldLe f 0 6 == rd (R.ELNK.MAC_LO_ADDR 0 p) s + 4294967296 * rd (R.ELNK.MAC_HI_ADDR 0 p) s ||
    fieldBe f 0 6 == 0xFFFFFFFFFFFF || fieldBe f 0 6 == 0x011B19000000 || fieldBe f 0 6 == 0x0180C200000E ||
    (flag (R.ELNK.PCFG_MCAST 0 p) s && testBit (fieldBe f 0 1) 0)

/-- A Sync is recorded (R450): the identity is the 80-bit number of its ten bytes in order (log 48). -/
def takeSync (f : List Byte) (o : Nat) (s : State) : State :=
  let id := fieldBe f (o + 20) 10
  let old := rd (R.ELNK.GM_ID_LO_ID 0) s + 4294967296 * rd (R.ELNK.GM_ID_MID_ID 0) s +
    18446744073709551616 * rd (R.ELNK.GM_ID_HI_ID 0) s
  let changed := s.syncAt.isSome && old != id
  let s1 := wr (R.ELNK.GM_ID_LO_ID 0) id (wr (R.ELNK.GM_ID_MID_ID 0) (id / 4294967296)
    (wr (R.ELNK.GM_ID_HI_ID 0) (id / 18446744073709551616) { s with syncAt := some s.now }))
  onlyIf changed (evt 0 0x31 1) (wr (R.ELNK.HOLD_STAT_HOLDOVER 0) 0 s1)

/-- The receive descriptor that the port would fill: its address, where the ring has one that it owns. -/
def rxDesc (p : Nat) (s : State) : Option Nat :=
  let size := rd (R.ELNK.RX_CFG_SIZE 0 p) s
  let base := rd (R.ELNK.RX_BASE_LO_ADDR 0 p) s / 32 * 32 + 4294967296 * rd (R.ELNK.RX_BASE_HI_ADDR 0 p) s
  let a := base + 32 * rd (R.ELNK.RX_CFG_NEXT 0 p) s
  if size = 0 ∨ (ethOf p s).stopped.contains 8 then none
  else if testBit (hostGet (a + 10) s).toNat 0 then some a else none

/-- ETH_FRAME_RECEIVE (R436, R445, R446, R448, R450): a frame with its FCS arrives; `sound`: the FCS is good. The frame is
stored with its FCS (log 47). -/
def execEthFrameReceive (p : Nat) (frame : List Byte) (sound : Bool) (s : State) : Host.Outcome State Fault Refusal :=
  if !ethUp p s then .next s
  else if !sound ∨ frame.length < 64 ∨ 2048 < frame.length then .next (bump (R.ELNK.RX_ERR_COUNT 0 p) s)
  else
    let ptp := ptpAt frame
    let s1 := match ptp with
      | some o => if isSync frame o then takeSync frame o s else s
      | none => s
    if !ethAccepts p frame s1 then .next s1
    else match rxDesc p s1 with
      | none =>
        let e := ethOf p s1
        let e1 : EthPort := if e.stopped.contains 8 then e else { e with stopped := 8 :: e.stopped }
        .next (bump (R.ELNK.RX_DROP_COUNT 0 p) (setEth p e1 s1))
      | some a =>
        let stamp := (masterNs s1 + 18446744073709551616 - rd (R.ELNK.LAT_ING 0 p) s1) % 18446744073709551616
        let s2 := hostWrite (leNat (hostRead a 8 s1)) frame s1
        let s3 := hostWrite (a + 16) (leBytes 8 stamp) (hostWrite (a + 8) (leBytes 2 frame.length) s2)
        let flags := (hostGet (a + 10) s3).toNat
        let s4 := hostPut (a + 10) (BitVec.ofNat 8 (withBits (withBits flags 1 1 (b2n ptp.isSome)) 0 1 0)) s3
        let s5 := wr (R.ELNK.RX_CFG_NEXT 0 p) ((rd (R.ELNK.RX_CFG_NEXT 0 p) s4 + 1) % rd (R.ELNK.RX_CFG_SIZE 0 p) s4) s4
        .next (evt 0 0x31 0 (bump (R.ELNK.RX_OK_COUNT 0 p) s5))

/-! ### Transmission (R447 to R449) -/

/-- The address of the descriptor at the head of a transmit ring. -/
def txHeadAddr (p q : Nat) (s : State) : Nat :=
  rd (R.ELNK.TXQ_BASE_LO 0 p q) s / 32 * 32 + 4294967296 * rd (R.ELNK.TXQ_BASE_HI 0 p q) s + 32 * rd (R.ELNK.TXQ_CFG_NEXT 0 p q) s

/-- The head of a ring that the controller owns. -/
def txHead (p q : Nat) (s : State) : Option (List Byte) :=
  if rd (R.ELNK.TXQ_CFG_SIZE 0 p q) s = 0 ∨ (ethOf p s).stopped.contains q then none
  else
    let b := hostRead (txHeadAddr p q s) 32 s
    if testBit (fieldLe b 10 1) 0 then some b else none

def txLaunch (b : List Byte) : Bool := testBit (fieldLe b 10 1) 1

/-- The descriptor is well formed (R448). -/
def txSound (b : List Byte) : Bool :=
  decide (14 ≤ fieldLe b 8 2) && decide (fieldLe b 8 2 ≤ 2044) && decide (fieldLe b 10 1 < 32) && fieldLe b 12 4 == 0 &&
    fieldLe b 25 7 == 0

/-- How long a frame takes on the line, ns: preamble, padded frame and FCS (log 49). -/
def txTime (p len : Nat) (s : State) : Nat :=
  ceilDiv (8 * (8 + Nat.max 60 len + 4)) (if (laneOf 0 (10 + p) s).rate = 3 then 25 else 10)

/-- A descriptor is completed: bytes 16 to 24 are written, then OWN is cleared, and the ring goes on. -/
def txComplete (p q addr : Nat) (desc : List Byte) (stamp : Option Nat) (status : Nat) (s : State) : State :=
  let s1 := match stamp with
    | some t => hostWrite (addr + 16) (leBytes 8 t) s
    | none => s
  let s2 := hostPut (addr + 24) (BitVec.ofNat 8 status) s1
  let s3 := hostPut (addr + 10) (BitVec.ofNat 8 (fieldLe desc 10 1 / 2 * 2)) s2
  let s4 := wr (R.ELNK.TXQ_CFG_NEXT 0 p q) ((rd (R.ELNK.TXQ_CFG_NEXT 0 p q) s3 + 1) % Nat.max 1 (rd (R.ELNK.TXQ_CFG_SIZE 0 p q) s3)) s3
  evt 0 0x31 3 s4

/-- A bad descriptor or a bus error (R453). -/
def txBad (p q addr : Nat) (desc : List Byte) (status : Nat) (s : State) : State :=
  evt 0 0x31 5 (recordFault 0 0x31 0 false (txComplete p q addr desc none status s))

/-- A frame starts. -/
def txStart (p q : Nat) (b : List Byte) (status : Nat) (s : State) : State :=
  let e := ethOf p s
  let stamp := (masterNs s + rd (R.ELNK.LAT_EGR 0 p) s) % 18446744073709551616
  setEth p { e with run := some ⟨q, txHeadAddr p q s, b, status, stamp, s.now + txTime p (fieldLe b 8 2) s⟩ } s

/-- The launch times at the heads of the queues. -/
def txLaunches (p : Nat) (s : State) : List Nat :=
  (List.range 8).filterMap (fun q => match txHead p q s with
    | some b => if txLaunch b then some (fieldLe b 16 8) else none
    | none => none)

/-- R449: a frame of `len` bytes would end in time before the earliest launch. -/
def txFits (p len : Nat) (s : State) : Bool :=
  (txLaunches p s).all (fun t => decide (masterNs s + txTime p len s + 100 ≤ t))

/-- The port looks at its queues, the highest first: bad descriptors complete, a frame without a launch time starts if it
may. `n` bounds the descriptors looked at. -/
def txSchedule (p : Nat) : Nat → State → State
  | 0, s => s
  | n + 1, s =>
    if !ethUp p s ∨ (ethOf p s).run.isSome then s
    else
      let heads := (List.range 8).reverse.filterMap (fun q => (txHead p q s).map (fun b => (q, b)))
      match heads.find? (fun h => !txSound h.2) with
      | some h => txSchedule p n (txBad p h.1 (txHeadAddr p h.1 s) h.2 3 s)
      | none =>
        let empty := (List.range 8).filter (fun q => (txHead p q s).isNone && rd (R.ELNK.TXQ_CFG_SIZE 0 p q) s != 0)
        let e := ethOf p s
        let s1 := setEth p { e with stopped := empty.filter (fun q => !e.stopped.contains q) ++ e.stopped } s
        match heads.find? (fun h => !txLaunch h.2) with
        | some h => if txFits p (fieldLe h.2 8 2) s1 then txStart p h.1 h.2 0 s1 else s1
        | none => s1

def txLook (p : Nat) (s : State) : State := txSchedule p 65536 s

/-- TX_KICK and RX_KICK (R448): a ring is looked at again. -/
def txKick (p q : Nat) (s : State) : State :=
  let e := ethOf p s
  txLook p (setEth p { e with stopped := e.stopped.filter (· != q) } s)

def rxKick (p : Nat) (s : State) : State :=
  let e := ethOf p s
  setEth p { e with stopped := e.stopped.filter (· != 8) } s

/-- PCFG has been written: an enabled port takes its rings from index 0; a disabled or fenced one drops its frame. -/
def ethEnable (p : Nat) (before : Bool) (s : State) : State :=
  let on := flag (R.ELNK.PCFG_EN 0 p) s
  if on && !before then
    let s1 := (List.range 8).foldl (fun s q => wr (R.ELNK.TXQ_CFG_NEXT 0 p q) 0 s) (wr (R.ELNK.RX_CFG_NEXT 0 p) 0 (setEth p {} s))
    txLook p s1
  else if !on && before then setEth p {} s
  else s

def ethFence (p : Nat) (s : State) : State := setEth p { ethOf p s with run := none } (addFence (.eth p) s)

/-- ETH_LAUNCH (R449): M has reached the launch time at the head of a queue and the port is free. A higher queue that is
due goes first. -/
def execEthLaunch (p q : Nat) (s : State) : Host.Outcome State Fault Refusal :=
  let due (b : List Byte) : Bool := txLaunch b && decide (fieldLe b 16 8 ≤ masterNs s)
  if !ethUp p s ∨ (ethOf p s).run.isSome ∨ 8 ≤ q then .next s
  else match txHead p q s with
    | none => .next s
    | some b =>
      if !due b ∨ ((List.range 8).any (fun r => decide (q < r) &&
          (match txHead p r s with | some c => due c | none => false))) then .next s
      else if !txSound b then .next (txLook p (txBad p q (txHeadAddr p q s) b 3 s))
      else if fieldLe b 16 8 + rd (R.ELNK.LATE_TOL_NS 0 p) s < masterNs s then
        let s1 := evt 0 0x31 4 (bump (R.ELNK.TX_LATE_COUNT 0 p) s)
        if testBit (fieldLe b 10 1) 4 then .next (txLook p (txComplete p q (txHeadAddr p q s) b none 1 s1))
        else .next (txStart p q b 2 s1)
      else .next (txStart p q b 0 s)

/-- The one's-complement sum of 16-bit words. -/
def onesSum : List Byte → Nat → Nat
  | a :: b :: t, acc => onesSum t (acc + 256 * a.toNat + b.toNat)
  | [a], acc => acc + 256 * a.toNat
  | [], acc => acc

def fold16 (v : Nat) : Nat :=
  let a := v / 65536 + v % 65536
  let b := a / 65536 + a % 65536
  b / 65536 + b % 65536

/-- The UDP checksum recomputed (R447). -/
def fixUdp (f : List Byte) : List Byte :=
  match udpAt f with
  | none => f
  | some u =>
    let v4 := fieldBe f (etherTypeAt f) 2 == 0x0800
    if v4 && fieldBe f (u + 6) 2 == 0 then f
    else
      let ip := etherTypeAt f + 2
      let addrs := if v4 then (f.drop (ip + 12)).take 8 else (f.drop (ip + 8)).take 32
      let len := fieldBe f (u + 4) 2
      let body := patchBytes ((f.drop u).take len) 6 [0, 0]
      let c := 65535 - fold16 (onesSum addrs (17 + len) + onesSum body 0)
      patchBytes f (u + 6) (beBytes 2 (if c = 0 then 65535 else c))

/-- The frame as sent: padded, with the one-step timestamp of a Sync (R447) and its FCS. -/
def txFrame (b data : List Byte) (stamp : Nat) : List Byte :=
  let f0 := data ++ List.replicate (60 - data.length) 0
  let o := fieldLe b 11 1
  let f1 := if testBit (fieldLe b 10 1) 3 ∧ isSync f0 o ∧ o + 44 ≤ f0.length then
      fixUdp (patchBytes f0 (o + 34) (beBytes 6 (stamp / 1000000000) ++ beBytes 4 (stamp % 1000000000)))
    else f0
  f1 ++ leBytes 4 (crc32 f1)

/-- ETH_FRAME_SENT (R447, R448): the frame under way has left; `busErr`: its buffer could not be read. -/
def execEthFrameSent (p q : Nat) (busErr : Bool) (s : State) : Host.Outcome State Fault Refusal :=
  let e := ethOf p s
  match e.run with
  | none => .next s
  | some r =>
    if r.q ≠ q ∨ (!busErr ∧ s.now < r.finish) then .next s
    else
      let s0 := setEth p { e with run := none } s
      if busErr then .next (txLook p (txBad p q r.addr r.desc 4 s0))
      else
        let data := hostRead (fieldLe r.desc 0 8) (fieldLe r.desc 8 2) s0
        let s1 := { s0 with sent := .eth p (txFrame r.desc data r.stamp) :: s0.sent }
        let ts := if testBit (fieldLe r.desc 10 1) 2 then some r.stamp else none
        .next (txLook p (bump (R.ELNK.TX_OK_COUNT 0 p) (txComplete p q r.addr r.desc ts r.status s1)))

/-- SYNC_TIMEOUT (R450): no Sync for SYNC_TMO ms. -/
def execSyncTimeout (s : State) : Host.Outcome State Fault Refusal :=
  if blockUp 0 0x31 s ∧ s.syncAt.getD 0 + 1000000 * rd (R.ELNK.SYNC_TMO_MS 0) s ≤ s.now ∧
      !flag (R.ELNK.HOLD_STAT_HOLDOVER 0) s then
    .next (evt 0 0x31 2 (wr (R.ELNK.HOLD_STAT_HOLDOVER 0) 1 s))
  else .next s

end Sys2Proof.Machine
end

