-- ==== Sys2Proof/Machine/Lanes.lean ====
section
/-! DEFINITION. Serial lanes: bring-up, loss, fencing, and the eye scan (R156 to R181). -/

namespace Sys2Proof.Machine

/-- The lane's page is on and the lane is not fenced. -/
def laneOn (d n : Nat) (s : State) : Bool := decide (n < 12) && blockOn d (lanePage n) s && !laneFenced d n s

/-- The first lane of a lane's group (R157). -/
def groupFirst (d n : Nat) : Nat := if isHeadLane n then 4 + 3 * ((n - 4) / 3) else if isRasterLane d n then 0 else n

/-- The rate codes a lane accepts (R158). -/
def rateAccepted (d n rate : Nat) : Bool :=
  if isHeadLane n || isRasterLane d n then decide (rate ≤ 4) else rate == 0 || rate == 3

def setLaneSt (d n st : Nat) (s : State) : State := wr (R.LANE.LSTAT_STATE d n) st s

/-- Bring-up starts, where the lane may run and its rate is its group's (R157, R159, R169, R170). -/
def laneStart (d n : Nat) (s : State) : State :=
  if !laneOn d n s || laneSt d n s != 0 || rd (R.CLK.PLL_STAT_STATE d 3) s != 2 then s
  else
    let r := rd (R.LANE.LCFG_RATE d n) s
    if r ≠ rd (R.LANE.LCFG_RATE d (groupFirst d n)) s then evt d (lanePage n) 5 s
    else setLaneSt d n 1 (setLane d n { laneOf d n s with
      rate := r, prbs := flag (R.LANE.LCFG_PRBS_GEN d n) s, check := flag (R.LANE.LCFG_PRBS_CHK d n) s
      near := flag (R.LANE.LCFG_LOOP_NEAR d n) s, far := flag (R.LANE.LCFG_LOOP_FAR d n) s, on := true } s)

/-- An engine-link port whose lane goes down sends the frame under way again when it is up (log 157). -/
def portDown (d n : Nat) (s : State) : State :=
  if d = 0 ∧ 10 ≤ n then setEth (n - 10) { ethOf (n - 10) s with run := none } s else s

/-- The lane leaves state 5 for state `st` (R170, R172). -/
def laneDown (d n st : Nat) (s : State) : State :=
  if laneSt d n s = 5 then
    let s1 := wr (R.LANE.LSTAT_BLOCK_LOCK d n) 0 (setLaneSt d n st
      (setLane d n { laneOf d n s with lostAt := some s.now, invalid := [] } s))
    portDown d n (bondLaneDown d n (evt d (lanePage n) 1 s1))
  else setLaneSt d n st s

/-- The running eye scan of a lane ends (R178). -/
def eyeEnd (d n result : Nat) (s : State) : State :=
  let st := rd (R.LANE.EYE_STAT_STATE d n) s
  if st = 1 ∨ st = 2 then evt d (lanePage n) 2 (wr (R.LANE.EYE_STAT_STATE d n) 3 (wr (R.LANE.EYE_STAT_RESULT d n) result s)) else s

/-- The lane goes off: disabled, or its domain goes off (R170, R178). -/
def laneOff (d n : Nat) (s : State) : State :=
  let s1 := laneDown d n 0 (eyeEnd d n 1 s)
  wr (R.LANE.LSTAT_SIG_DET d n) 0 (wr (R.LANE.LSTAT_HI_BER d n) 0 (setLane d n { laneOf d n s1 with lostAt := none, on := false, wire := [] } s1))

/-- A lane is fenced (R173, R181, R186, R271): its link goes on without it, or is fenced with its last lane. -/
def laneFence (d n : Nat) (s : State) : State :=
  if s.fenced.contains (.lane d n) then s
  else
    let s1 := laneDown d n 6 (eyeEnd d n 1 (addFence (.lane d n) s))
    let s2 := setLane d n { laneOf d n s1 with lostAt := none } s1
    if isHeadLane n then
      let k := laneStation d n
      let s3 := headForm k (spareTakeover k s2)
      if (headLanes k).all (fun m => laneFenced d m s3) then stationFault k (shlPage (stLoc k)) 2 false s3 else s3
    else if isRasterLane d n then
      if (rasterLanes d).all (fun m => laneFenced d m s2) then rasterFence d (recordFault d 0x30 2 false s2)
      else if (bondOf d s2).lanes.contains n then rasterForm d s2 else s2
    else s2

/-- A fault of a LANE page (R181). -/
def laneFault (d n src : Nat) (forced : Bool) (s : State) : State :=
  let s1 := recordFault d (lanePage n) src forced s
  if src = 0 ∨ src = 2 then laneFence d n s1 else s1

/-- A lane's unfence request (R493): it leaves FENCED and starts again; a head lane comes back as the spare (R173). -/
def laneUnfence (d n : Nat) (s : State) : State :=
  let s1 := unfence d (lanePage n) (.lane d n) s
  if s.fenced.contains (.lane d n) ∧ !s1.fenced.contains (.lane d n) then
    let s2 := laneStart d n (setLaneSt d n 0 (setLane d n { laneOf d n s1 with rejoin := true } s1))
    if isHeadLane n then headForm (laneStation d n) s2 else s2
  else s1

/-! ### Bring-up (R169) -/

/-- LANE_SYNTH_LOCK. -/
def execLaneSynthLock (d n : Nat) (s : State) : Host.Outcome State Fault Refusal :=
  if laneOn d n s && laneSt d n s == 1 then .next (setLaneSt d n 2 s) else .next s

/-- LANE_SIGNAL_DETECT. -/
def execLaneSignalDetect (d n : Nat) (s : State) : Host.Outcome State Fault Refusal :=
  if laneOn d n s && laneSt d n s == 2 then .next (setLaneSt d n 3 (wr (R.LANE.LSTAT_SIG_DET d n) 1 s)) else .next s

/-- RXEQ_STAT takes what the equalisers have found, unless ADAPT_FREEZE holds them (R167). -/
def adapted (d n ctle dfe : Nat) (s : State) : State :=
  if flag (R.LANE.LCFG_ADAPT_FREEZE d n) s then s
  else wr (R.LANE.RXEQ_STAT_DFE1 d n) dfe (wr (R.LANE.RXEQ_STAT_CTLE d n) ctle s)

/-- LANE_ADAPT_DONE (R167): the initial adaptation ends, or in states 4 and 5 the equalisers have moved in the background
(log 158). -/
def execLaneAdaptDone (d n ctle dfe : Nat) (s : State) : Host.Outcome State Fault Refusal :=
  if laneOn d n s && laneSt d n s == 3 then .next (setLaneSt d n 4 (adapted d n ctle dfe s))
  else if laneOn d n s && (laneSt d n s == 4 || laneSt d n s == 5) then .next (adapted d n ctle dfe s)
  else .next s

/-- The recovery allowance of R172 is over. -/
def lockHoldOver (d n : Nat) (s : State) : Bool :=
  match (laneOf d n s).lostAt with
  | some t => decide (t + 1000 * rd (R.LANE.LOCK_HOLD_TIME d n) s < s.now)
  | none => false

/-- What the protocol of a lane does when the lane comes up. -/
def laneUp (d n : Nat) (s : State) : State :=
  if isHeadLane n then headForm (laneStation d n) (spareTakeover (laneStation d n) s)
  else if isRasterLane d n then
    if (laneOf d n s).rejoin then rasterForm d (setLane d n { laneOf d n s with rejoin := false } s) else s
  else txLook (n - 10) s

/-- LANE_BLOCK_LOCK (R169, R172, R174): a lane that checks PRBS31 or loops back stays below state 5. -/
def execLaneBlockLock (d n : Nat) (s : State) : Host.Outcome State Fault Refusal :=
  if !laneOn d n s || laneSt d n s != 4 then .next s
  else if (laneOf d n s).check || (laneOf d n s).near || (laneOf d n s).far then .next (wr (R.LANE.LSTAT_BLOCK_LOCK d n) 1 s)
  else if lockHoldOver d n s then .next (laneFault d n 0 false s)
  else
    let s1 := if (laneOf d n s).lostAt.isSome then
      bump (R.LANE.LOCK_CNT_LOSSES d n) (setLane d n { laneOf d n s with lostAt := none } s) else s
    let s2 := wr (R.LANE.LSTAT_BLOCK_LOCK d n) 1 (wr (R.LANE.LSTAT_SIG_DET d n) 1 (wr (R.LANE.LSTAT_HI_BER d n) 0 (setLaneSt d n 5 s1)))
    .next (laneUp d n (evt d (lanePage n) 0 s2))

/-- LANE_LOSS (R169, R171): `why` 0 invalid headers, 1 loss of signal, 2 a high error rate. -/
def execLaneLoss (d n why : Nat) (s : State) : Host.Outcome State Fault Refusal :=
  if !laneOn d n s || laneSt d n s != 5 then .next s
  else
    let s1 := if why = 1 then wr (R.LANE.LSTAT_SIG_DET d n) 0 s
      else if why = 2 then evt d (lanePage n) 3 (wr (R.LANE.LSTAT_HI_BER d n) 1 s) else s
    .next (laneDown d n 4 s1)

/-- The page of a fenced lane is on: a fault is counted and has no further effect (R181). -/
def laneMuted (d n : Nat) (s : State) : Bool := decide (n < 12) && blockOn d (lanePage n) s && laneFenced d n s

/-- An invalid sync header in state 5: the sixteenth within the window is a high error rate and takes the lane out of state 5 (R171;
log 159). Sixteen within 64 blocks, which end block lock (R169), are always such: 64 blocks take less than the least window, 1 µs. -/
def headerJudge (d n : Nat) (s : State) : State :=
  let x := laneOf d n s
  let l := (s.now :: x.invalid).take 16
  let s1 := setLane d n { x with invalid := l } s
  match l[15]? with
  | none => s1
  | some t =>
    if s.now ≤ t + 1000 * rd (R.LANE.HIBER_CFG_WINDOW d n) s then
      laneDown d n 4 (evt d (lanePage n) 3 (wr (R.LANE.LSTAT_HI_BER d n) 1 s1))
    else s1

/-- SYNC_HEADER_ERROR (R171, R181). -/
def execSyncHeaderError (d n : Nat) (s : State) : Host.Outcome State Fault Refusal :=
  if laneMuted d n s then .next (invalidHeader d n s)
  else if laneOn d n s && laneSt d n s == 5 then .next (headerJudge d n (invalidHeader d n s))
  else if laneOn d n s && laneSt d n s == 4 then .next (invalidHeader d n s)
  else .next s

/-- ELASTIC_OVERFLOW (R165): on raster and head lanes. -/
def execElasticOverflow (d n : Nat) (s : State) : Host.Outcome State Fault Refusal :=
  if laneOn d n s && laneSt d n s == 5 && (isHeadLane n || isRasterLane d n) then
    .next (laneFault d n 1 false (bump (R.LANE.LOCK_CNT_OVF d n) (wr (R.LANE.LSTAT_FILL d n) 32 s)))
  else .next s

/-- LANE_LOCK_HOLD_TIMEOUT (R172). -/
def execLaneLockHoldTimeout (d n : Nat) (s : State) : Host.Outcome State Fault Refusal :=
  if laneOn d n s && laneSt d n s != 5 && lockHoldOver d n s then .next (laneFault d n 0 false s) else .next s

/-- LANE_SYNTH_LOSS (R170, R172): the lane goes to OFF and starts again, and the fault fences it. -/
def execLaneSynthLoss (d n : Nat) (s : State) : Host.Outcome State Fault Refusal :=
  if laneMuted d n s then .next (laneFault d n 2 false s)
  else if laneOn d n s && decide (2 ≤ laneSt d n s) && decide (laneSt d n s ≤ 5) then
    .next (laneFault d n 2 false (laneStart d n (laneDown d n 0 s)))
  else .next s

/-! ### The eye scan (R175 to R179) -/

def eyeS (l : Loc) (s : State) : Int := toSigned 7 (rd l s)

/-- Columns and rows of the grid (R175). -/
def eyeColumns (d n : Nat) (s : State) : Nat :=
  ((eyeS (R.LANE.EYE_H_STOP d n) s - eyeS (R.LANE.EYE_H_START d n) s) / (rd (R.LANE.EYE_H_STEP d n) s : Int)).toNat + 1
def eyeRows (d n : Nat) (s : State) : Nat :=
  ((eyeS (R.LANE.EYE_V_STOP d n) s - eyeS (R.LANE.EYE_V_START d n) s) / (rd (R.LANE.EYE_V_STEP d n) s : Int)).toNat + 1

def eyeBuf (d n : Nat) (s : State) : Nat := 8 * rd (R.LANE.EYE_BUF_LO_ADDR d n) s + 0x100000000 * rd (R.LANE.EYE_BUF_HI_ADDR d n) s

/-- The settings of a scan are sound (R178). -/
def eyeSound (d n : Nat) (s : State) : Bool :=
  let h0 := eyeS (R.LANE.EYE_H_START d n) s
  let h1 := eyeS (R.LANE.EYE_H_STOP d n) s
  let v0 := eyeS (R.LANE.EYE_V_START d n) s
  let v1 := eyeS (R.LANE.EYE_V_STOP d n) s
  let a := eyeBuf d n s
  decide (h0 ≤ h1) && decide (v0 ≤ v1) && rd (R.LANE.EYE_H_STEP d n) s != 0 && rd (R.LANE.EYE_V_STEP d n) s != 0 &&
    decide (v0 ≠ -64) && decide (v1 ≠ -64) && decide (rd (R.LANE.EYE_DWELL_DWELL d n) s ≤ 24) && memDie a == d &&
    decide (a % 0x1000000000 + 8 * (eyeColumns d n s * eyeRows d n s) ≤ fittedBytes d s)

/-- The scan may run (R179). -/
def eyeMay (d n : Nat) (s : State) : Bool := laneSt d n s == 5 && !backgroundDeferred d s

/-- LCTL.EYE_GO. -/
def eyeGo (d n : Nat) (s : State) : State :=
  let st := rd (R.LANE.EYE_STAT_STATE d n) s
  if st = 1 ∨ st = 2 then s
  else
    let s1 := wr (R.LANE.EYE_STAT_POINTS d n) 0 s
    if !eyeSound d n s then evt d (lanePage n) 2 (wr (R.LANE.EYE_STAT_STATE d n) 3 (wr (R.LANE.EYE_STAT_RESULT d n) 2 s1))
    else wr (R.LANE.EYE_STAT_STATE d n) (if eyeMay d n s then 1 else 2) (wr (R.LANE.EYE_STAT_RESULT d n) 0
      (setLane d n { laneOf d n s1 with point := 0 } s1))

/-- A point's count is one that R176 allows: no more errors than bits, and the end of the dwell or of the first unit in which the
errors reach ERR_STOP, which adds at most 1,024. -/
def eyeCount (d n errs units : Nat) (s : State) : Bool :=
  let full := 2 ^ rd (R.LANE.EYE_DWELL_DWELL d n) s
  let stop := rd (R.LANE.EYE_DWELL_ERR_STOP d n) s
  decide (errs ≤ 1024 * units) && (if stop = 0 ∨ errs < stop then units == full
    else decide (1 ≤ units) && decide (units ≤ full) && decide (errs < stop + 1024))

/-- EYE_POINT_DONE (R177): the offset sampler has compared `units` × 1,024 bits, `errs` of them in disagreement. -/
def execEyePointDone (d n errs units : Nat) (s : State) : Host.Outcome State Fault Refusal :=
  if !laneOn d n s || rd (R.LANE.EYE_STAT_STATE d n) s != 1 || !eyeCount d n errs units s then .next s
  else
    let i := (laneOf d n s).point
    let r := agentWrite agOther (eyeBuf d n s + 8 * i) (leBytes 4 (Nat.min errs 0xFFFFFFFF) ++ leBytes 4 units) s
    let s1 := setLane d n { laneOf d n r.2 with point := i + 1 } r.2
    let s2 := if r.1 then wr (R.LANE.EYE_STAT_POINTS d n) (rd (R.LANE.EYE_STAT_POINTS d n) s1 + 1) s1 else s1
    if i + 1 = eyeColumns d n s * eyeRows d n s then .next (eyeEnd d n 0 s2)
    else .next (if eyeMay d n s2 then s2 else wr (R.LANE.EYE_STAT_STATE d n) 2 s2)

/-- EYE_SCAN_RESUME (R179). -/
def execEyeScanResume (d n : Nat) (s : State) : Host.Outcome State Fault Refusal :=
  if laneOn d n s && rd (R.LANE.EYE_STAT_STATE d n) s == 2 && eyeMay d n s then .next (wr (R.LANE.EYE_STAT_STATE d n) 1 s)
  else .next s

/-- The write of LCTL: RETRAIN, EYE_GO, EYE_STOP. -/
def laneCtl (d n v : Nat) (s : State) : State :=
  let s1 := if testBit v 0 && laneOn d n s then laneStart d n (laneDown d n 0 s) else s
  let s2 := if testBit v 1 && laneOn d n s1 then eyeGo d n s1 else s1
  if testBit v 2 then eyeEnd d n 1 s2 else s2

/-- A LANE page has been enabled or disabled, or its domain has gone on or off. -/
def laneEnable (d n : Nat) (s : State) : State := if laneOn d n s then laneStart d n s else if laneFenced d n s then s else laneOff d n s

end Sys2Proof.Machine
end

