-- ==== Sys2Proof/Machine/Protect.lean ====
section
/-! DEFINITION. Head protection: latches, the head's temperature, the soft state, the head duty window (R295, R299 to R308). -/

namespace Sys2Proof.Machine

/-! ### Latches (R299 to R303) -/

/-- The gate of station `k` is judged now: it closes at the next line boundary, and LEN falls then in RUN, else at once (R300;
log 65). -/
def gateNow (k : Nat) (s : State) : State := lenUpdate k (gateAtBoundary k s)

/-- An input of a latch: since when it has been deasserted (R303); none: asserted. -/
def inputSince (k bit : Nat) (v : Option Nat) (s : State) : State :=
  let st := staOf k s
  let rest := st.inputAt.filter (fun x => x.1 != bit)
  setSta k { st with inputAt := match v with | some t => (bit, t) :: rest | none => rest } s

/-- A latch is set with its spoil cause (R301). -/
def latchSet (k bit cause : Nat) (s : State) : State :=
  if testBit (latches k s) bit then s
  else
    let s1 := spoilImaging k cause (setLatch k bit true (if bit ≤ 1 then s else gateFresh k s))
    if bit ≤ 1 then lenUpdate k s1 else gateNow k s1

/-- SPROT of the station works. -/
def sprotOn (k : Nat) (s : State) : Bool := blockUp (stDie k) (sprotPage (stLoc k)) s

/-- The stations of the package. -/
def allStations (s : State) : List Nat := List.range (stationCount s)

/-- ILK_FALL (R299, R301): ILK_N falls on every station of the package. -/
def execIlkFall (s : State) : Host.Outcome State Fault Refusal :=
  .next ((allStations s).foldl (fun s k =>
    let s1 := inputSince k 0 none s
    if sprotOn k s1 then latchSet k 0 6 s1 else lenUpdate k s1) { s with ilkIn := false })

/-- HOK_FALL (R299, R301). -/
def execHokFall (k : Nat) (s : State) : Host.Outcome State Fault Refusal :=
  if stationCount s ≤ k then .next s
  else
    let s1 := inputSince k 1 none { s with hokIn := s.hokIn.filter (· != k) }
    .next (if sprotOn k s1 then latchSet k 1 6 s1 else lenUpdate k s1)

/-- The pin, polarity and enable that SENS_CFG gives the paper-out (bit 2) or the jam input (bit 3) of station `k`. -/
def sensor (k bit : Nat) (s : State) : Nat × Bool × Bool :=
  let d := stDie k
  let l := stLoc k
  if bit = 2 then (rd (R.SPROT.SENS_CFG_PAPER_PIN d l) s, flag (R.SPROT.SENS_CFG_PAPER_POL d l) s, flag (R.SPROT.SENS_CFG_PAPER_EN d l) s)
  else (rd (R.SPROT.SENS_CFG_JAM_PIN d l) s, flag (R.SPROT.SENS_CFG_JAM_POL d l) s, flag (R.SPROT.SENS_CFG_JAM_EN d l) s)

def sensFilt (k : Nat) (s : State) : Nat := rd (R.SPROT.SENS_CFG_FILT (stDie k) (stLoc k)) s

/-- The stations on the path of the sensor of station `k` (R301): those of its die that use the same pin. -/
def sensorPath (k bit : Nat) (s : State) : List Nat :=
  [2 * stDie k, 2 * stDie k + 1].filter (fun j => j == k || (sprotOn j s && sensor j bit s == sensor k bit s))

/-- The paper-out or the jam input of a station has been asserted for FILT: its latch is set, and a jam stops the path (R301, R356). -/
def sensorLatch (k bit : Nat) (s : State) : State :=
  let d := stDie k
  let l := stLoc k
  let s1 := inputSince k bit none (wr (if bit = 2 then R.SPROT.GATE_STAT_PAPER_IN d l else R.SPROT.GATE_STAT_JAM_IN d l) 1 s)
  if testBit (latches k s1) bit then s1
  else if bit = 2 then latchSet k 2 6 (evt d (sprotPage l) 7 s1)
  else
    let s2 := latchSet k 3 5 (evt d (sprotPage l) 6 s1)
    if onPath k s2 then pathJam (pathOf k s2) s2 else s2

/-- The sensor of station `k` has been asserted for that station's FILT, and so for every station on its path with no longer a
filter. -/
def sensorAsserted (k bit : Nat) (s : State) : State :=
  ((sensorPath k bit s).filter (fun j => decide (sensFilt j s ≤ sensFilt k s))).foldl (fun s j => sensorLatch j bit s) s

/-- PAPER_OUT (R301): the paper-out input of station `k` has been asserted for SENS_CFG.FILT. -/
def execPaperOut (k : Nat) (s : State) : Host.Outcome State Fault Refusal :=
  if !sprotOn k s || !(sensor k 2 s).2.2 then .next s else .next (sensorAsserted k 2 s)

/-- JAM (R301, R356): the jam input of station `k` has been asserted for SENS_CFG.FILT. -/
def execJam (k : Nat) (s : State) : Host.Outcome State Fault Refusal :=
  if !sprotOn k s || !(sensor k 3 s).2.2 then .next s else .next (sensorAsserted k 3 s)

/-- A sensor returns to its deasserted level, for every station on its path. -/
def sensorReleased (k bit : Nat) (s : State) : State :=
  (sensorPath k bit s).foldl (fun s j => inputSince j bit (some s.now)
    (wr (if bit = 2 then R.SPROT.GATE_STAT_PAPER_IN (stDie j) (stLoc j) else R.SPROT.GATE_STAT_JAM_IN (stDie j) (stLoc j)) 0 s)) s

/-- INPUT_DEASSERTED (R303): ILK_N (0), HOK_Sk (1), the paper-out (2) or the jam input (3) returns to its deasserted level. -/
def execInputDeasserted (which k : Nat) (s : State) : Host.Outcome State Fault Refusal :=
  if which = 0 then
    .next ((allStations s).foldl (fun s k => lenUpdate k (inputSince k 0 (some s.now) s)) { s with ilkIn := true })
  else if stationCount s ≤ k then .next s
  else
    match which with
    | 1 => .next (lenUpdate k (inputSince k 1 (some s.now)
        { s with hokIn := if s.hokIn.contains k then s.hokIn else k :: s.hokIn }))
    | 2 => if sprotOn k s then .next (sensorReleased k 2 s) else .next s
    | 3 => if sprotOn k s then .next (sensorReleased k 3 s) else .next s
    | _ => .next s

/-- The input of latch `bit` has been deasserted for QUAL (R303). -/
def qualified (k bit : Nat) (s : State) : Bool :=
  match (staOf k s).inputAt.find? (fun x => x.1 == bit) with
  | some x => decide (x.2 + 1000000 * rd (R.SPROT.SENS_CFG_QUAL (stDie k) (stLoc k)) s ≤ s.now)
  | none => false

/-- LEN_CTL.REARM (R303): EVT_STAT bit 1 says that a latch is left set, the HOT latch among them. -/
def rearmLatches (k : Nat) (s : State) : State :=
  let s1 := [0, 1, 2, 3].foldl (fun s b => if testBit (latches k s) b && qualified k b s then setLatch k b false s else s) s
  lenUpdate k (onlyIf (latches k s1 != 0) (evt (stDie k) (sprotPage (stLoc k)) 1) s1)

/-! ### The head's temperature (R304 to R306) -/

/-- A frame is IMAGING on the station. -/
def imagingNow (k : Nat) (s : State) : Bool :=
  (List.range 64).any (fun i => (slotOf i s).st == 5 && (slotOf i s).begun.contains k && !(slotOf i s).ended.contains k)

/-- The soft state becomes what the last STATUS asked for (R305). -/
def softApply (k : Nat) (s : State) : State :=
  let d := stDie k
  let l := stLoc k
  let v := (staOf k s).softWant
  evt d (sprotPage l) (if v then 2 else 3) (wr (R.SPROT.GATE_STAT_SOFT d l) (b2n v) (wr (R.SPROT.GATE_STAT_SOFT_PEND d l) 0 s))

/-- A STATUS enters or leaves the soft state; a change that waits already goes on waiting (R305, R306). The edge before it is no
boundary for it. -/
def softJudge (k : Nat) (t : Int) (s : State) : State :=
  let d := stDie k
  let l := stLoc k
  let soft := rdS (R.SPROT.TEMP_LIM_SOFT d l) s
  let hyst : Int := (rd (R.SPROT.TEMP_CFG_HYST d l) s : Nat)
  let want := if soft ≤ t then true else if t < soft - hyst then false else (staOf k s).softWant
  let s1 := setSta k { staOf k s with softWant := want } s
  if want = (staOf k s).softWant then s1
  else if want = flag (R.SPROT.GATE_STAT_SOFT d l) s1 then wr (R.SPROT.GATE_STAT_SOFT_PEND d l) 0 s1
  else if imagingNow k s1 then wr (R.SPROT.GATE_STAT_SOFT_PEND d l) 1 (setSta k { staOf k s1 with boundary := false } s1)
  else softApply k s1

/-- The station is fenced at its next line boundary; with no edge to come, at once (log 65). -/
def fenceAtBoundary (k : Nat) (s : State) : State :=
  if timSt k s = 2 then gateAtBoundary k (setSta k { staOf k s with fenceAt := some (gateTick k s) } s) else stationFence k s

/-- A STATUS at or above the hard limit (R304). -/
def hardLimit (k : Nat) (s : State) : State :=
  let p := sprotPage (stLoc k)
  let s1 := latchSet k 4 4 (evt (stDie k) p 4 s)
  fenceAtBoundary k (recordFault (stDie k) p 0 false s1)

/-- The HOT latch clears itself on a temperature below HARD − HYST (R303). -/
def hotClear (k : Nat) (t : Int) (s : State) : State :=
  let hyst : Int := (rd (R.SPROT.TEMP_CFG_HYST (stDie k) (stLoc k)) s : Nat)
  if t < rdS (R.SPROT.TEMP_LIM_HARD (stDie k) (stLoc k)) s - hyst ∧ testBit (latches k s) 4 then lenUpdate k (setLatch k 4 false s)
  else s

/-- The temperature of a valid STATUS is judged (R304, R305). The frame that a hard limit spoils counts as IMAGING for the soft
state: the change it asks for waits for a frame boundary (R306; log 89). -/
def judgeTemp (k : Nat) (t : Int) (s : State) : State :=
  if !sprotOn k s then s
  else
    let hard := rdS (R.SPROT.TEMP_LIM_HARD (stDie k) (stLoc k)) s
    let s1 := softJudge k t s
    if hard ≤ t then (if testBit (latches k s1) 4 then s1 else hardLimit k s1)
    else hotClear k t s1

/-- SOFT_STATE_APPLY (R305): a pending change is applied at the frame boundary that the last edge made. -/
def execSoftStateApply (k : Nat) (s : State) : Host.Outcome State Fault Refusal :=
  if sprotOn k s && flag (R.SPROT.GATE_STAT_SOFT_PEND (stDie k) (stLoc k)) s && (staOf k s).boundary then .next (softApply k s)
  else .next s

/-- HEAD_BUCKET_TICK (R295): the head duty window slides with each millisecond of the die's local time; after a backward step it
waits (R444). -/
def execHeadBucketTick (k : Nat) (s : State) : Host.Outcome State Fault Refusal :=
  let st := staOf k s
  let ms := ltime (stDie k) s / 1000000
  if !sprotOn k s || decide (ms ≤ st.bucketAt) then .next s
  else
    let n := Nat.min 64 (ms - st.bucketAt)
    .next (showHeadSum k (setSta k { st with buckets := (List.replicate n 0 ++ st.buckets).take 64, bucketAt := ms } s))

/-- A fault of the SPROT page (R308). -/
def protFault (k src : Nat) (forced : Bool) (s : State) : State :=
  let p := sprotPage (stLoc k)
  if src = 0 ∨ src = 2 then
    let s1 := recordFault (stDie k) p src forced s
    if isFenced (.station k) s1 then s1
    else if src = 2 then fenceAtBoundary k (setSta k { staOf k s1 with dutyBad := true } s1)
    else fenceAtBoundary k (spoilImaging k 4 s1)
  else stationFault k p src forced s

end Sys2Proof.Machine
end

