-- ==== Sys2Proof/Machine/HeadRx.lean ====
section
/-! DEFINITION. The upstream side of the head link: STATUS, ACK, NAK, CREDIT, sessions and replay (R277 to R288). -/

namespace Sys2Proof.Machine

/-- The station hears its head: it is enabled and not fenced, its SHL page is on, its bond is up. -/
def headHears (k : Nat) (s : State) : Bool :=
  stationOn k s && blockUp (stDie k) (shlPage (stLoc k)) s && rd (R.SHL.HSTAT_BOND (stDie k) (stLoc k)) s == 2

/-- The fields of a head-link packet's header (R274). -/
def hlType (b : List Byte) : Nat := fieldLe b 0 1
def hlInit (b : List Byte) : Bool := testBit (fieldLe b 1 1) 1
def hlPsn (b : List Byte) : Nat := fieldLe b 2 2
def hlLen (b : List Byte) : Nat := fieldLe b 12 4 / 1048576
def hlPayload (b : List Byte) : List Byte := (b.drop 16).take (hlLen b)

/-- The payload of each upstream type; none: not an upstream type. -/
def hlSize (type : Nat) : Option Nat :=
  match type with | 0x30 => some 64 | 0x31 => some 0 | 0x32 => some 0 | 0x34 => some 8 | _ => none

/-- The reserved bytes of a STATUS are 0 (R275, R286). -/
def reservedZero (b : List Byte) : Bool := hlType b != 0x30 || fieldLe b 42 6 == 0

/-- 0 sound, 1 a framing error, 2 a CRC mismatch (R272, R275, R277). -/
def hlVerdict (b : List Byte) : Nat :=
  if b.length % 8 ≠ 0 ∨ b.length < 24 ∨ b.length / 8 ≠ ceilDiv (20 + hlLen b) 8 then 1
  else if fieldLe b (16 + hlLen b) 4 ≠ crc32 (b.take (16 + hlLen b)) then 2
  else if hlSize (hlType b) ≠ some (hlLen b) ∨ 16 ≤ fieldLe b 1 1 ∨ fieldLe b 10 2 ≠ 0 ∨ !reservedZero b then 1 else 0

/-- A packet that fails framing or CRC is counted (R277). -/
def hlBad (k : Nat) (b : List Byte) (s : State) : State :=
  let c := if hlVerdict b = 2 then R.SHL.UP_ERR_CRC (stDie k) (stLoc k) else R.SHL.UP_ERR_FRAMING (stDie k) (stLoc k)
  stationFault k (shlPage (stLoc k)) 4 false (bump c s)

/-- A packet of a type arrives: `f` takes it if it is sound. -/
def hlArrival (k type : Nat) (b : List Byte) (f : State → State) (s : State) : State :=
  if !headHears k s || hlType b != type then s else if hlVerdict b = 0 then f s else hlBad k b s

/-! ### STATUS (R286 to R288) -/

/-- What a STATUS says of the head goes to the SHL page, with the events of what has changed. -/
def statusShow (k : Nat) (p : List Byte) (s : State) : State :=
  let d := stDie k
  let l := stLoc k
  let pg := shlPage l
  let was := (headOf k s).last
  let changed (o n : Nat) : Bool := match was with | some q => fieldLe q o n != fieldLe p o n | none => false
  let trim := rd (R.SHL.GEN_STAT_TRIM_APPLIED d l) s != fieldLe p 6 1
  let lin := rd (R.SHL.GEN_STAT_LIN_APPLIED d l) s != fieldLe p 7 1
  let s1 := bump (R.SHL.STAT_CNT_COUNT d l) (setHead k { headOf k s with last := some p, statusAt := s.now } s)
  let s2 := wr (R.SHL.HEAD_TEMP_SEQ d l) (fieldLe p 3 1) (wr (R.SHL.HEAD_TEMP_TEMP d l) (fieldLe p 0 2) s1)
  let s3 := wr (R.SHL.HEAD_LAT_TICKS d l) (fieldLe p 8 3) (wr (R.SHL.BUF_STAT_LINES d l) (fieldLe p 4 2) s2)
  let s4 := wr (R.SHL.GEN_STAT_TRIM_APPLIED d l) (fieldLe p 6 1) (wr (R.SHL.GEN_STAT_LIN_APPLIED d l) (fieldLe p 7 1) s3)
  let s5 := wr (R.SHL.EMIT_FAULT1_ELEMS d l) (fieldLe p 18 2) (wr (R.SHL.EMIT_FAULT1_MAP d l) (fieldLe p 24 2)
    (wr (R.SHL.EMIT_FAULT0_MAP d l) (fieldLe p 20 4) s4))
  let s6 := onlyIf trim (evt d pg 3) (onlyIf lin (evt d pg 4) s5)
  onlyIf (changed 2 1 || changed 20 6) (evt d pg 5) (onlyIf (changed 8 3) (evt d pg 6) s6)

/-- The underrun that a STATUS reports (R267). -/
def statusUnderrun (k : Nat) (p : List Byte) (s : State) : State :=
  let f := fieldLe p 16 1
  if testBit f 1 then
    match tagMissLine k s with
    | some t => underrun k t s
    | none => s
  else if testBit f 0 then underrun k (unwrapLsn k (fieldLe p 12 4) s) s
  else s

/-- A valid STATUS is taken. -/
def statusTake (k : Nat) (p : List Byte) (s : State) : State :=
  if !sessionOpen k s then s
  else
    let s1 := statusUnderrun k p (statusShow k p s)
    judgeTemp k (toSigned 16 (fieldLe p 0 2)) (setSta k { staOf k s1 with edges := [] } s1)

/-- A fenced station takes of a sound STATUS only that the head has cooled (R303; log 164). -/
def statusCool (k : Nat) (pkt : List Byte) (s : State) : State :=
  if sprotOn k s && hlType pkt == 0x30 && hlVerdict pkt == 0 then hotClear k (toSigned 16 (fieldLe (hlPayload pkt) 0 2)) s else s

/-- HL_STATUS (R287). -/
def execHlStatus (k : Nat) (pkt : List Byte) (s : State) : Host.Outcome State Fault Refusal :=
  if isFenced (.station k) s then .next (statusCool k pkt s)
  else .next (hlArrival k 0x30 pkt (statusTake k (hlPayload pkt)) s)

/-- HL_STATUS_TIMEOUT (R287). -/
def execHlStatusTimeout (k : Nat) (s : State) : Host.Outcome State Fault Refusal :=
  let d := stDie k
  let l := stLoc k
  if stationOn k s && sessionOpen k s && decide ((headOf k s).statusAt + 1000000 * rd (R.SHL.HCFG_TIMEOUT d l) s ≤ s.now) then
    .next (stationFault k (shlPage l) 0 false (evt d (shlPage l) 7 s))
  else .next s

/-! ### Replay (R277) -/

/-- The packets that an ACK of `psn` leaves in the replay buffer; none: it covers nothing held. -/
def ackRest (psn : Nat) : List (Nat × HeadPkt) → Option (List (Nat × HeadPkt))
  | [] => none
  | x :: t => if x.1 = psn then some t else ackRest psn t

/-- The packets that an ACK of `psn` covers. -/
def ackCovered (psn : Nat) : List (Nat × HeadPkt) → List HeadPkt
  | [] => []
  | x :: t => if x.1 = psn then [x.2] else x.2 :: ackCovered psn t

/-- An ACK releases what it covers; a HEADCFG so acknowledged is done (R285). -/
def ackTake (k psn : Nat) (s : State) : State :=
  let d := stDie k
  let l := stLoc k
  let h := headOf k s
  match ackRest psn h.replay with
  | none => s
  | some rest =>
    let s1 := wr (R.SHL.PSN_STAT_ACKED d l) psn (setHead k { h with replay := rest, advAt := s.now } s)
    let s2 := if (ackCovered psn h.replay).any (fun p => p.type == 0x22) then
      evt d (shlPage l) 2 (wr (R.SHL.HCFG_CTL_DONE d l) 1 s1) else s1
    headPump k s2

/-- The head restarts on its own (R278): the frame imaging is spoiled and the session closes. -/
def headRestart (k : Nat) (s : State) : State := if sessionOpen k s then closeSession k (spoilImaging k 3 s) else s

/-- HL_ACK (R277, R278). -/
def execHlAck (k : Nat) (pkt : List Byte) (s : State) : Host.Outcome State Fault Refusal :=
  .next (hlArrival k 0x31 pkt (fun s =>
    if hlInit pkt then headRestart k s else if sessionOpen k s then ackTake k (hlPsn pkt) s else s) s)

/-- Packets go out again in order. -/
def resend (k : Nat) (l : List (Nat × HeadPkt)) (s : State) : State :=
  if l.isEmpty then s
  else bump (R.SHL.RPL_CNT_REPLAYS (stDie k) (stLoc k))
    (l.foldl (fun s x => headOut k x.1 x.2 s) s)

/-- A NAK for `psn`: everything from it on is sent again; RETRY_LIMIT of them for one PSN exhaust replay. -/
def nakTake (k psn : Nat) (s : State) : State :=
  let d := stDie k
  let l := stLoc k
  let h := headOf k s
  let n := if h.nakPsn = psn then h.naks + 1 else 1
  let s1 := bump (R.SHL.RPL_CNT_NAKS d l) (setHead k { h with nakPsn := psn, naks := n } s)
  let s2 := resend k (h.replay.dropWhile (fun x => x.1 != psn)) s1
  if rd (R.SHL.HCFG_RETRY_LIMIT d l) s2 ≤ n then stationFault k (shlPage l) 1 false s2 else s2

/-- HL_NAK (R277). -/
def execHlNak (k : Nat) (pkt : List Byte) (s : State) : Host.Outcome State Fault Refusal :=
  .next (hlArrival k 0x32 pkt (fun s => if sessionOpen k s then nakTake k (hlPsn pkt) s else s) s)

/-- HL_BAD_PACKET (R277): an upstream packet fails framing or CRC. -/
def execHlBadPacket (k : Nat) (pkt : List Byte) (s : State) : Host.Outcome State Fault Refusal :=
  if !headHears k s || hlVerdict pkt == 0 then .next s else .next (hlBad k pkt s)

/-- HL_REPLAY_TIMER (R277): 20 µs have passed without an ACK that advances. -/
def execHlReplayTimer (k : Nat) (s : State) : Host.Outcome State Fault Refusal :=
  let h := headOf k s
  if headHears k s && sessionOpen k s && !h.replay.isEmpty && decide (h.advAt + 20000 ≤ s.now) then
    .next (resend k h.replay (setHead k { h with advAt := s.now } s))
  else .next s

/-! ### Sessions (R278 to R280) -/

/-- The least initial line grant (R280). -/
def minGrant (k : Nat) (s : State) : Nat :=
  let per := ceilDiv (rd (R.STA.LINE_LEN_LEN8 (stDie k) (stLoc k)) s * depthBits k s) 2048
  if ledBar k s then 64 * per else 8 * rd (R.STA.CFG_EMITTERS (stDie k) (stLoc k)) s * per

/-- The head holds no line and no tag: those not yet fired are sent again (log 58). -/
def resendLines (k : Nat) (s : State) : State :=
  let st := staOf k s
  tagNext k (setSta k { st with
    form := Nat.min st.form (firstUnfired k s), placed := st.placed.map (fun p => { p with tag := none }), strobeTag := none } s)

/-- A CREDIT with INIT opens the session: the LINTAB and the last trim set go out before any line. -/
def sessionBegin (k line ctl : Nat) (s : State) : State :=
  let d := stDie k
  let l := stLoc k
  let h := headOf k s
  let s1 := setHead k { h with
    waiting := [], replay := [], lineGiven := line, ctlGiven := ctl, lineUsed := 0, ctlUsed := 0, naks := 0, advAt := s.now
    resyncAt := none, statusAt := s.now, opening := true } s
  let s2 := wr (R.SHL.BUF_STAT_GRANT d l) line (evt d (shlPage l) 0 (wr (R.SHL.HSTAT_SESSION d l) 1 s1))
  if line < minGrant k s2 ∨ ctl < 4 then stationFault k (shlPage l) 3 false (showCredits k s2)
  else resendLines k (headSend k (h.trim ++ h.waiting.filter (fun p => p.type == 0x22)) (sendLintab k (showCredits k s2)))

/-- HL_CREDIT (R278, R279). -/
def execHlCredit (k : Nat) (pkt : List Byte) (s : State) : Host.Outcome State Fault Refusal :=
  .next (hlArrival k 0x34 pkt (fun s =>
    let p := hlPayload pkt
    let h := headOf k s
    if sessionOpen k s then
      headPump k (showCredits k (setHead k { h with lineGiven := fieldLe p 0 2, ctlGiven := fieldLe p 2 2 } s))
    else if hlInit pkt && h.resyncAt.isSome then sessionBegin k (fieldLe p 0 2) (fieldLe p 2 2) s
    else s) s)

/-- HL_RESYNC_TIMER (R278): RESYNC is sent every 10 µs until the session opens. -/
def execHlResyncTimer (k : Nat) (s : State) : Host.Outcome State Fault Refusal :=
  let h := headOf k s
  let due := match h.resyncAt with | some t => decide (t + 10000 ≤ s.now) | none => true
  if headHears k s && !sessionOpen k s && due then
    let psn := rd (R.SHL.PSN_STAT_NEXT (stDie k) (stLoc k)) s
    .next (headOut k psn { type := 0x25 } (setHead k { h with resyncAt := some s.now } s))
  else .next s

/-! ### HEADCFG (R285) -/

/-- HCFG_CTL.GO. -/
def headcfgGo (k : Nat) (s : State) : State :=
  let d := stDie k
  let l := stLoc k
  if !flag (R.SHL.HCFG_CTL_DONE d l) s then s
  else
    let n := Nat.min 16 (rd (R.SHL.HCFG_CTL_WORDS d l) s)
    let body := leBytes 4 (rd (R.SHL.HCFG_ADDR_ADDR d l) s) ++ (List.range n).flatMap (fun i => leBytes 4 (rd (R.SHL.HCFG_DATA d l i) s))
    headSend k [{ type := 0x22, payload := body }] (wr (R.SHL.HCFG_CTL_DONE d l) 0 s)

end Sys2Proof.Machine
end

