-- ==== Sys2Proof/Machine/Rails.lean ====
section
/-! DEFINITION. The rail sequencer, the NV stores and the snapshot log (R505 to R517). -/

namespace Sys2Proof.Machine

/-! ### Rail slots (R505 to R510) -/

def railOf (n : Nat) (s : State) : Rail := mapGet (fun _ => {}) s.rails n
def setRail (n : Nat) (r : Rail) (s : State) : State := { s with rails := mapSet (fun _ => {}) s.rails n r }

def railSt (n : Nat) (s : State) : Nat := rd (R.SEQ.RSTAT_STATE 0 n) s

/-- R507: the slot is good. -/
def railGood (n : Nat) (s : State) : Bool :=
  flag (R.SEQ.RSTAT_PG 0 n) s &&
    (!flag (R.SEQ.RCFG_MON_EN 0 n) s ||
      (decide (rd (R.SEQ.RMON_LO 0 n) s ≤ rd (R.SEQ.RSTAT_V 0 n) s) &&
        decide (rd (R.SEQ.RSTAT_V 0 n) s ≤ rd (R.SEQ.RMON_HI 0 n) s)))

/-- Slot `m` is a prerequisite of slot `n`; a slot's own bit is ignored. -/
def railNeeds (n m : Nat) (s : State) : Bool := m != n && testBit (rd (R.SEQ.RCFG_PREREQ 0 n) s) m

def railWanted (n : Nat) (s : State) : Bool := testBit (rd (R.SEQ.RAIL_REQ_REQ 0) s) n

def railReady (n : Nat) (s : State) : Bool := (List.range 24).all (fun m => !railNeeds n m s || railSt m s == 4)

def railDueDown (n : Nat) (s : State) : Bool := !railWanted n s || !railReady n s

/-- Every slot that lists `n` as a prerequisite is down. -/
def railFree (n : Nat) (s : State) : Bool :=
  (List.range 24).all (fun m => !railNeeds m n s || [0, 1, 6, 7].contains (railSt m s))

/-- A slot enters a state: its enable, its masks, its events, and for FAILED the fault and the log record (R509). -/
def railEnter (n st : Nat) (s : State) : State :=
  let old := railSt n s
  let fresh := st == 2 && (old == 0 || old == 1 || old == 6)
  let r := railOf n s
  let s1 := setRail n { r with since := s.now, ramp := if fresh then s.now else r.ramp, bad := none, late := false } s
  let s2 := wr (R.SEQ.RSTAT_EN 0 n) (b2n (st == 2 || st == 3 || st == 4)) (wr (R.SEQ.RSTAT_STATE 0 n) st s1)
  let s3 := if fresh then wr (R.SEQ.RSTAT_CHAT 0 n) 0 s2 else s2
  let s4 := wr (R.SEQ.RAIL_ON_MASK 0) (withBits (rd (R.SEQ.RAIL_ON_MASK 0) s3) n 1 (b2n (st == 4))) s3
  let s5 := wr (R.SEQ.RAIL_FAILED_MASK 0) (withBits (rd (R.SEQ.RAIL_FAILED_MASK 0) s4) n 1 (b2n (st == 7))) s4
  if st = 4 then evt 0 0x13 0 s5
  else if st = 7 then logTrigger 3 0 (evt 0 0x13 1 (recordFault 0 0x13 0 false s5))
  else s5

/-- TIMEOUT has elapsed since the ramp began. -/
def railTimedOut (n : Nat) (s : State) : Bool :=
  decide ((railOf n s).ramp + 10000 * rd (R.SEQ.RTIME_TIMEOUT 0 n) s ≤ s.now)

def railQualified (n : Nat) (s : State) : Bool :=
  decide ((railOf n s).since + 10000 * rd (R.SEQ.RTIME_QUAL 0 n) s ≤ s.now)

def railMinOff (n : Nat) (s : State) : Bool :=
  decide ((railOf n s).since + 1000000 * rd (R.SEQ.RCFG2_MINOFF 0 n) s ≤ s.now)

/-- The good level has been missing for 2 µs. -/
def railLost (n : Nat) (s : State) : Bool :=
  match (railOf n s).bad with
  | some t => decide (t + 2000 ≤ s.now)
  | none => false

/-- The first row of R508 that applies to slot `n`, judged in state `v`: the state it goes to, and whether CHAT goes up. -/
def railRow (n : Nat) (v : State) : Option (Nat × Bool) :=
  let st := railSt n v
  let up := st == 2 || st == 3
  if up && railDueDown n v then some (5, false)
  else if st == 4 && railDueDown n v && railFree n v then some (5, false)
  else if st == 4 && railLost n v then some (7, false)
  else if up && railTimedOut n v then some (7, false)
  else if st == 3 && !railGood n v then
    some (if rd (R.SEQ.RCFG2_CHATTER 0 n) v < rd (R.SEQ.RSTAT_CHAT 0 n) v + 1 then 7 else 2, true)
  else if st == 2 && railGood n v then some (3, false)
  else if st == 3 && railGood n v && railQualified n v then some (4, false)
  else if st == 0 && railWanted n v then some (1, false)
  else if st == 1 && !railWanted n v then some (0, false)
  else if st == 1 && railReady n v then some (2, false)
  else if st == 5 && !flag (R.SEQ.RSTAT_PG 0 n) v then some (6, false)
  else if st == 6 && railMinOff n v then some (0, false)
  else none

def railApply (n : Nat) (row : Option (Nat × Bool)) (s : State) : State :=
  match row with
  | some (st, chat) => railEnter n st (onlyIf chat (bump (R.SEQ.RSTAT_CHAT 0 n)) s)
  | none => s

/-- The levels of a slot's monitor, and since when an ON slot has not been good. -/
def railWatch (n : Nat) (s : State) : State :=
  let s1 := if flag (R.SEQ.RCFG_MON_EN 0 n) s then
      wr (R.SEQ.RSTAT_V 0 n) (mapGet (fun _ => 0) s.rmon (rd (R.SEQ.RCFG_MON 0 n) s)) s
    else s
  let r := railOf n s1
  setRail n { r with bad := if railSt n s1 = 4 ∧ !railGood n s1 then some (r.bad.getD s1.now) else none } s1

/-- RAIL_SEQ_STEP (R508): one step of 1 µs; `mon` are new conversions of the eight monitor inputs, if any. -/
def execRailSeqStep (mon : List Nat) (s : State) : Host.Outcome State Fault Refusal :=
  let s0 := (List.range 8).foldl (fun (s : State) m => match mon[m]? with
    | some v => { s with rmon := mapSet (fun _ => 0) s.rmon m (v % 4096) }
    | none => s) s
  let v := (List.range 24).foldl (fun s n => railWatch n s) s0
  .next ((List.range 24).foldl (fun s n => railApply n (railRow n v) s) v)

/-- RAIL_PG_CHANGE (R508): the level of D0_PG_RAILn; the next step judges it. -/
def execRailPgChange (n : Nat) (level : Bool) (s : State) : Host.Outcome State Fault Refusal :=
  if 24 ≤ n then .next s else .next (railWatch n (wr (R.SEQ.RSTAT_PG 0 n) (b2n level) s))

/-- One slot takes the row of R508 that applies to it, when `due`. -/
def railTimer (n : Nat) (due : Bool) (s : State) : State :=
  if decide (n < 24) && due then railApply n (railRow n s) s else s

/-- RAIL_QUALIFY_DONE (R508): good throughout QUAL. -/
def execRailQualifyDone (n : Nat) (s : State) : Host.Outcome State Fault Refusal :=
  .next (railTimer n (railSt n s == 3 && railQualified n s) s)

/-- RAIL_TIMEOUT (R508): TIMEOUT has elapsed in RAMP or QUALIFY. -/
def execRailTimeout (n : Nat) (s : State) : Host.Outcome State Fault Refusal :=
  .next (railTimer n ((railSt n s == 2 || railSt n s == 3) && railTimedOut n s) s)

/-- RAIL_MINOFF_END (R508). -/
def execRailMinoffEnd (n : Nat) (s : State) : Host.Outcome State Fault Refusal :=
  .next (railTimer n (railSt n s == 6 && railMinOff n s) s)

/-- RAIL_DOWN_TIMEOUT (R509): the slot has stayed in DOWN for longer than TIMEOUT; it stays there. -/
def execRailDownTimeout (n : Nat) (s : State) : Host.Outcome State Fault Refusal :=
  let r := railOf n s
  if n < 24 ∧ railSt n s = 5 ∧ !r.late ∧ r.since + 10000 * rd (R.SEQ.RTIME_TIMEOUT 0 n) s < s.now then
    .next (recordFault 0 0x13 1 false (setRail n { r with late := true } s))
  else .next s

/-- RAIL_CLR (R508): FAILED slots to OFF. -/
def railClear (mask : Nat) (s : State) : State :=
  (List.range 24).foldl (fun s n => if testBit mask n ∧ railSt n s = 7 then railEnter n 0 s else s) s

/-- R510: the configuration of a slot may be written. -/
def railWritable (n : Nat) (s : State) : Bool := railSt n s == 0 || railSt n s == 7

/-! ### The NV stores (R516, R517) -/

def nvBadIn (d o n : Nat) (s : State) : Bool :=
  s.nvBad.any (fun w => decide (d * 32768 + o / 64 ≤ w) && decide (w ≤ d * 32768 + (o + n - 1) / 64))

/-- An uncorrectable word is met (R517, R528). -/
def nvUncorrectable (d : Nat) (s : State) : State :=
  evt d 0x15 2 (recordFault d 0x15 1 false (bump (R.NVS.NV_CNT_UE d) s))

/-- A read of the store: the bytes, 0 in an uncorrectable word, and whether one was met. -/
def nvReadChecked (d o n : Nat) (s : State) : List Byte × Bool × State :=
  if nvBadIn d o n s then
    ((List.range n).map (fun i => if s.nvBad.contains (d * 32768 + (o + i) / 64) then 0 else nvGet d (o + i) s), true,
      nvUncorrectable d s)
  else (nvRead d o n s, false, s)

/-- A write of the store by the controller; words covered whole hold good data again. -/
def nvStore (d o : Nat) (bs : List Byte) (s : State) : State :=
  let s1 := nvWriteBytes d o bs s
  { s1 with nvBad := s1.nvBad.filter (fun w =>
      !(decide (d * 32768 * 64 + o ≤ 64 * w) && decide (64 * w + 64 ≤ d * 32768 * 64 + o + bs.length))) }

/-- Offsets of D0's store that the host never writes: the log and the sequencer table. -/
def nvProtected (d o : Nat) : Bool :=
  d == 0 && ((decide (0x180000 ≤ o) && decide (o < 0x1C0000)) || (decide (0x1C0000 ≤ o) && decide (o < 0x1C0340)))

/-- A host write of one word of the window, with its byte enables (R517). -/
def nvHostWrite (d o v be : Nat) (s : State) : State :=
  if flag (R.NVS.NV_CTL_WEN d) s && !flag (R.NVS.NV_STAT_VIN_BLOCK d) s && !nvProtected d o then
    (List.range 4).foldl (fun s i =>
      if testBit be i then nvPut d (o / 4 * 4 + i) (BitVec.ofNat 8 (v / 256 ^ i)) s else s) s
  else evt d 0x15 1 (bump (R.NVS.NV_CNT2_DROPPED d) s)

/-- The sequencer's table is read from the store (R506). -/
def railTableLoad (s : State) : State :=
  let r := nvReadChecked 0 0x1C0000 832 s
  let b := r.1
  let ok := fieldLe b 0 1 == 0x5C && fieldLe b 1 1 == 1 && fieldLe b 12 4 == crc32c (b.take 12 ++ b.drop 16)
  let s1 := r.2.2
  if !ok then evt 0 0x13 5 (wr (R.SEQ.SEQ_CFG_TABLE_OK 0) 0 (wr (R.SEQ.RAIL_REQ_REQ 0) 0 s1))
  else
    let s2 := wr (R.SEQ.SEQ_CFG_TABLE_OK 0) 1 (wr (R.SEQ.RAIL_REQ_REQ 0) (fieldLe b 4 3)
      (wr (R.SEQ.VIN_CFG_QUAL 0) (Nat.max 1 (fieldLe b 8 1)) s1))
    (List.range 24).foldl (fun s n =>
      let e := (b.drop (64 + 32 * n)).take 16
      let s1 := putWord (R.SEQ.RCFG_PREREQ 0 n).addr (BitVec.ofNat 32 (fieldLe e 0 4 % 0x10000000)) s
      let s2 := wr (R.SEQ.RTIME_QUAL 0 n) (Nat.max 1 (Nat.min 10000 (fieldLe e 6 2)))
        (wr (R.SEQ.RTIME_TIMEOUT 0 n) (Nat.max 1 (fieldLe e 4 2)) s1)
      let s3 := wr (R.SEQ.RCFG2_MINOFF 0 n) (fieldLe e 10 2) (wr (R.SEQ.RCFG2_CHATTER 0 n) (fieldLe e 8 1) s2)
      wr (R.SEQ.RMON_HI 0 n) (fieldLe e 14 2) (wr (R.SEQ.RMON_LO 0 n) (fieldLe e 12 2) s3)) s2

/-! ### The snapshot log (R512 to R515) -/

def logBase : Nat := 0x180000

/-- Bytes 0 to 247 of a record (R513). -/
def logBody (cause info seq : Nat) (s : State) : List Byte :=
  let dies := List.range 8
  let here (d : Nat) : Bool := decide (d < s.dies)
  let nib (n : Nat) : Nat := railSt (2 * n) s + 16 * railSt (2 * n + 1) s
  let levels (f : Nat → Bool) : Nat := (List.range 24).foldl (fun a n => a + 2 ^ n * b2n (f n)) 0
  [0x5E, 0x01] ++ leBytes 1 cause ++ [0] ++ leBytes 4 seq ++ leBytes 8 (ltime 0 s) ++
    leBytes 2 (rd (R.SEQ.VIN_STAT_CODE 0) s) ++ [0, 0] ++
    dies.flatMap (fun d => leBytes 2 (if here d then rd (R.THERM.TEMP_EFF d) s else 0x8000)) ++
    dies.flatMap (fun d => leBytes 1 (if here d then (word (R.THERM.TSTAT_STATE d).addr s).toNat % 256 else 0)) ++
    (List.range 24).flatMap (fun n => leBytes 2 (if flag (R.SEQ.RCFG_MON_EN 0 n) s then rd (R.SEQ.RSTAT_V 0 n) s else 0xFFFF)) ++
    (List.range 12).flatMap (fun n => leBytes 1 (nib n)) ++
    leBytes 3 (levels (fun n => flag (R.SEQ.RSTAT_PG 0 n) s)) ++ leBytes 3 (levels (fun n => flag (R.SEQ.RSTAT_EN 0 n) s)) ++
    [0, 0] ++ dies.flatMap (fun d => leBytes 4 (if here d then domStat d s else 0)) ++
    leBytes 4 (dieFencedWord s) ++ leBytes 4 (if cause = 6 then info else 0) ++ List.replicate 96 0

/-- The record of bytes 0 to 251, and its commit word. -/
def logRecord (cause info seq : Nat) (s : State) : List Byte × List Byte :=
  let b := logBody cause info seq s
  let c := crc32c b
  (b ++ leBytes 4 c, leBytes 4 (0xFFFFFFFF - c))

/-- The sequence number of the next record. -/
def logNext (s : State) : Nat := s.logSeq

def logAdvance (s : State) : State :=
  let n := (s.logSeq + 1) % 4294967296
  wr (R.NVS.LOG_HEAD_SLOT 0) n { s with logSeq := n }

/-- A record is valid (R514). -/
def logValid (b : List Byte) : Bool :=
  fieldLe b 0 1 == 0x5E && fieldLe b 1 1 == 1 && fieldLe b 248 4 == crc32c (b.take 248) &&
    fieldLe b 252 4 == 0xFFFFFFFF - fieldLe b 248 4

/-- The scan of the ring at a cold reset (R514). An all-zero slot holds no record and counts as neither (log 51). -/
def logScan (s : State) : State :=
  let r := (List.range 1024).foldl (fun (a : Nat × Nat × Option Nat) i =>
    let b := nvRead 0 (logBase + 256 * i) 256 s
    if nvBadIn 0 (logBase + 256 * i) 256 s then (a.1, a.2.1 + 1, a.2.2)
    else if logValid b then
      let q := fieldLe b 4 4
      (a.1 + 1, a.2.1, match a.2.2 with
        | some m => if later 32 q m then some q else some m
        | none => some q)
    else if b.all (· == 0) then a else (a.1, a.2.1 + 1, a.2.2)) (0, 0, none)
  let n := match r.2.2 with
    | some q => (q + 1) % 4294967296
    | none => 0
  let s1 := wr (R.NVS.LOG_STAT_INVALID 0) r.2.1 (wr (R.NVS.LOG_STAT_VALID 0) r.1 { s with logSeq := n })
  wr (R.NVS.LOG_HEAD_SLOT 0) n (wr (R.NVS.LOG_SEQ_SEQ 0) (r.2.2.getD 0) s1)

/-- LOG_RECORD_WRITE (R514, R515): the record of the trigger in progress is written and committed, and a waiting trigger
takes its place. After a VIN_MON trip only the record of the trip is written. -/
def execLogRecordWrite (s : State) : Host.Outcome State Fault Refusal :=
  match s.logBusy with
  | none => .next s
  | some (cause, info) =>
    if flag (R.NVS.NV_STAT_VIN_BLOCK 0) s ∧ cause ≠ 2 then .next s
    else
      let o := logBase + 256 * (logNext s % 1024)
      let r := logRecord cause info (logNext s) s
      let s1 := nvStore 0 o (r.1 ++ r.2) s
      let s2 := logAdvance (wr (R.NVS.LOG_SEQ_SEQ 0) (logNext s) s1)
      .next (evt 0 0x15 0 { s2 with logBusy := s2.logWait, logWait := none })

/-- A record in progress is abandoned (R512): bytes 0 to 251 may stand, the commit word does not (log 51). -/
def logAbandon (s : State) : State :=
  match s.logBusy with
  | none => s
  | some (cause, info) =>
    let r := logRecord cause info (logNext s) s
    let s1 := nvStore 0 (logBase + 256 * (logNext s % 1024)) (r.1 ++ leBytes 4 0) s
    logAdvance { s1 with logBusy := none }

/-- The record of a VIN_MON trip takes precedence over a waiting trigger. -/
def logVin (s : State) : State := { logAbandon s with logBusy := some (2, 0) }

/-- VIN_MON has tripped (R512), but for the writes that the ageing actions abandon. -/
def vinTrip (code : Nat) (s : State) : State :=
  let s1 := (List.range s.dies).foldl (fun s d => wr (R.NVS.NV_STAT_VIN_BLOCK d) 1 s) s
  let s2 := bump (R.SEQ.VIN_CNT_TRIPS 0) (wr (R.SEQ.VIN_STAT_TRIP 0) 1 (wr (R.SEQ.VIN_STAT_CODE 0) code s1))
  let s3 := if flag (R.SEQ.SEQ_CFG_VIN_DOWN 0) s2 then wr (R.SEQ.RAIL_REQ_REQ 0) 0 s2 else s2
  evt 0 0x13 3 (recordFault 0 0x13 2 false (logVin s3))

/-- VIN_RECOVER (R511): VIN_MON has been above 0.630 V for VIN_CFG.QUAL ms. -/
def execVinRecover (code : Nat) (s : State) : Host.Outcome State Fault Refusal :=
  if !flag (R.SEQ.VIN_STAT_TRIP 0) s then .next s
  else
    let s1 := wr (R.SEQ.VIN_STAT_TRIP 0) 0 (wr (R.SEQ.VIN_STAT_CODE 0) code s)
    .next (evt 0 0x13 4 ((List.range s1.dies).foldl (fun s d => wr (R.NVS.NV_STAT_VIN_BLOCK d) 0 s) s1))

end Sys2Proof.Machine
end

