-- ==== Sys2Proof/Machine/Calib.lean ====
section
/-! DEFINITION. Calibration sets, element trims and ageing, mark inputs and the measurement of auto-registration (R309 to
R323). -/

namespace Sys2Proof.Machine

/-! ### Trim sets (R284, R311, R315, R318) -/

/-- Bytes of page memory that a trim set is made of. What cannot be read leaves the trims open (log 68). -/
def trimBytes (a n : Nat) (s : State) : List Byte × State :=
  match agentRead agOther a n s with
  | (.ok b, s1) => (b, s1)
  | (_, s1) => freeBytes n s1

/-- Numbers of two bytes each. -/
def halves : Nat → List Byte → List Nat
  | 0, _ => []
  | n + 1, b => fieldLe b 0 2 :: halves n (b.drop 2)

/-- Numbers of four bytes each. -/
def words4 : Nat → List Byte → List Nat
  | 0, _ => []
  | n + 1, b => fieldLe b 0 4 :: words4 n (b.drop 4)

/-- The knots g_0 to g_15 of a station's ageing curve. -/
def ageKnots (k : Nat) (s : State) : List Nat :=
  (List.range 8).flatMap (fun i =>
    let w := rd (R.PIO.AGE_CURVE (stDie k) (stLoc k) i) s
    [w % 65536, w / 65536])

/-- The gain g of a wear count (R318). -/
def ageGain (knots : List Nat) (shift w : Nat) : Int :=
  let i := w / 2 ^ shift
  let f := w % 2 ^ shift
  if 15 ≤ i then (knots.getD 15 0 : Nat)
  else (knots.getD i 0 : Nat) + ((knots.getD (i + 1) 0 : Nat) - (knots.getD i 0 : Nat) : Int) * f / (2 ^ shift : Nat)

/-- The aged trim of a base trim (R318). -/
def agedTrim (knots : List Nat) (shift w base : Nat) : Nat :=
  Nat.min 65535 ((base : Int) * (4096 + ageGain knots shift w) / 4096).toNat

/-- The base table of a station (R315). -/
def ageAddr (k : Nat) (s : State) : Nat :=
  2 * rd (R.PIO.AGE_BASE_LO_ADDR (stDie k) (stLoc k)) s + 0x100000000 * rd (R.PIO.AGE_BASE_HI_ADDR (stDie k) (stLoc k)) s

/-- `n` aged element trims. -/
def agedTrims (k n : Nat) (s : State) : List Nat × State :=
  let b := trimBytes (ageAddr k s) (2 * n) s
  let w := trimBytes (wearAddr k b.2) (4 * n) b.2
  let knots := ageKnots k s
  let shift := rd (R.PIO.AGE_CFG_SHIFT (stDie k) (stLoc k)) s
  (List.zipWith (fun base wear => agedTrim knots shift wear base) (halves n b.1) (words4 n w.1), w.2)

/-- The packets of a trim set: up to 1,022 trims each, the first flagged FIRST and the last LAST. -/
def trimPackets (kind gen : Nat) : Nat → Nat → List Nat → List HeadPkt
  | 0, _, _ => []
  | fuel + 1, i, t =>
    let last := t.length ≤ 1022
    { type := 0x23, flags := (if i = 0 then 8 else 0) + (if last then 1 else 0), gen := gen
      payload := leBytes 4 (i + 65536 * kind) ++ (t.take 1022).flatMap (leBytes 2) } ::
      (if last then [] else trimPackets kind gen fuel (i + 1022) (t.drop 1022))

/-- A set with the next generation goes out; `keep`: it is the set that a new session sends again (R278). -/
def trimSend (k kind : Nat) (keep : Bool) (trims : List Nat) (s : State) : State :=
  let loc := R.SHL.GEN_STAT_TRIM_SENT (stDie k) (stLoc k)
  let g := (rd loc s + 1) % 256
  let ps := trimPackets kind g 65 0 trims
  let s1 := wr loc g (if keep then setHead k { headOf k s with trim := ps } s else s)
  if sessionOpen k s1 then headSend k ps s1 else s1

/-- TRIM_CTL.GO (R284, R315); a set of no trims sends nothing (log 64). -/
def trimGo (k : Nat) (s : State) : State :=
  let d := stDie k
  let l := stLoc k
  let n := Nat.min 65536 (rd (R.SHL.TRIM_CTL_COUNT d l) s)
  let kind := rd (R.SHL.TRIM_CTL_KIND d l) s
  if n = 0 then s
  else if kind = 0 ∧ flag (R.PIO.AGE_CTL_EN d l) s = true then
    let t := agedTrims k n s
    trimSend k 0 true t.1 t.2
  else
    let b := trimBytes (8 * rd (R.SHL.TRIM_BASE_LO_ADDR d l) s + 0x100000000 * rd (R.SHL.TRIM_BASE_HI_ADDR d l) s) (2 * n) s
    trimSend k kind true (halves n b.1) b.2

def ageOf (k : Nat) (s : State) : AgeRun := mapGet (fun _ => {}) s.ages k
def setAge (k : Nat) (v : AgeRun) (s : State) : State := { s with ages := mapSet (fun _ => {}) s.ages k v }

/-- AGE_REFRESH (R319): an aged element set of LINE_LEN trims is due and no other set is being sent. -/
def execAgeRefresh (k : Nat) (s : State) : Host.Outcome State Fault Refusal :=
  let d := stDie k
  let l := stLoc k
  let due := decide ((ageOf k s).sentAt + 1000000000 * rd (R.PIO.AGE_CFG_REFRESH d l) s ≤ s.now)
  if pioOn d s && stationOn k s && sessionOpen k s && flag (R.PIO.AGE_CTL_EN d l) s && due &&
      !(headOf k s).waiting.any (fun p => p.type == 0x23) then
    let t := agedTrims k (lineLen k s) s
    .next (trimSend k 0 false t.1 (setAge k { ageOf k t.2 with sentAt := s.now } t.2))
  else .next s

/-! ### Ageing data in the NV store (R312, R316, R320) -/

def masterBytes : Nat := 131072
def wearBytes : Nat := 262144
def masterData (l : Nat) : Nat := 0x20000 + 0x20000 * l
def masterHead (l : Nat) : Nat := 0x160000 + 0x100 * l
def wearData (l c : Nat) : Nat := 0x60000 + 0x80000 * l + 0x40000 * c
def wearHead (l c : Nat) : Nat := 0x160040 + 0x100 * l + 0x40 * c

/-- A header; the bytes R316 gives no content are 0 (log 69). -/
def ageHeader (kind seq crc n : Nat) : List Byte :=
  [0xAE, 0x01] ++ leBytes 1 kind ++ [0] ++ leBytes 4 seq ++ leBytes 4 n ++ leBytes 4 crc ++ List.replicate 44 0 ++
    leBytes 4 (0xFFFFFFFF - crc)

/-- A header is valid for its data (R316). -/
def headerValid (h data : List Byte) : Bool :=
  let crc := fieldLe h 12 4
  fieldLe h 0 1 == 0xAE && fieldLe h 1 1 == 1 && crc == crc32c data && fieldLe h 60 4 == 0xFFFFFFFF - crc

/-- A header and its data as they are read: valid, the sequence, the data, and whether an uncorrectable word was met. -/
def readCopy (d head data n : Nat) (s : State) : (Bool × Nat × List Byte × Bool) × State :=
  let h := nvReadChecked d head 64 s
  let b := nvReadChecked d data n h.2.2
  ((headerValid h.1 b.1, fieldLe h.1 4 4, b.1, h.2.1 || b.2.1), b.2.2)

/-- The newer of the valid wear copies (R316): which, its sequence and data. -/
def newerCopy (d l : Nat) (s : State) : (Option (Nat × Nat × List Byte) × Bool) × State :=
  let a := readCopy d (wearHead l 0) (wearData l 0) wearBytes s
  let b := readCopy d (wearHead l 1) (wearData l 1) wearBytes a.2
  let r := if a.1.1 && b.1.1 then
      (if later 32 b.1.2.1 a.1.2.1 then some (1, b.1.2.1, b.1.2.2.1) else some (0, a.1.2.1, a.1.2.2.1))
    else if a.1.1 then some (0, a.1.2.1, a.1.2.2.1)
    else if b.1.1 then some (1, b.1.2.1, b.1.2.2.1) else none
  ((r, a.1.2.2.2 || b.1.2.2.2), b.2)

/-- RESTORE (R316). -/
def ageRestore (k : Nat) (s : State) : State :=
  let d := stDie k
  let l := stLoc k
  let m := readCopy d (masterHead l) (masterData l) masterBytes s
  let s1 := wr (R.PIO.AGE_CTL_BASE_BAD d l) (b2n (!m.1.1)) m.2
  let s2 := if m.1.1 then agentPut agOther (ageAddr k s1) m.1.2.2.1 s1 else s1
  let w := newerCopy d l s2
  let s3 := wr (R.PIO.AGE_CTL_NV_ERR d l) (b2n (m.1.2.2.2 || w.1.2)) w.2
  let s4 := wr (R.PIO.AGE_CTL_WEAR_BAD d l) (b2n w.1.1.isNone) s3
  match w.1.1 with
  | some c => wr (R.PIO.WEAR_STAT_SEQ d l) c.2.1 (agentPut agOther (wearAddr k s4) c.2.2 s4)
  | none => agentPut agOther (wearAddr k s4) (List.replicate wearBytes 0) s4

/-- A copy is abandoned part-way: its data are open and its header is invalid (R316, R320). -/
def abandonCopy (d head data n : Nat) (s : State) : State :=
  let f := freeBytes n s
  nvStore d head (List.replicate 64 0) (nvStore d data f.1 f.2)

/-- SAVE (R316): the data first, the header last. The sequence of a master is open (log 69). -/
def ageSave (k : Nat) (s : State) : State :=
  let d := stDie k
  let l := stLoc k
  match agentRead agOther (ageAddr k s) masterBytes s with
  | (.ok b, s1) =>
    let q := drawFree (nvStore d (masterData l) b s1)
    wr (R.PIO.AGE_CTL_NV_ERR d l) 0 (nvStore d (masterHead l) (ageHeader 0 q.1 (crc32c b) masterBytes) q.2)
  | (_, s1) => wr (R.PIO.AGE_CTL_NV_ERR d l) 1 (abandonCopy d (masterHead l) (masterData l) masterBytes s1)

/-- A checkpoint is abandoned (R320). -/
def ckptAbandoned (k : Nat) (s : State) : State := evt (stDie k) 0x71 31 (recordFault (stDie k) 0x71 26 false s)

/-- A wear checkpoint (R320): the older copy, with a sequence one above the newer. An error that the store or the page memory meets
abandons it. -/
def ageCheckpoint (k : Nat) (s : State) : State :=
  let d := stDie k
  let l := stLoc k
  let w := newerCopy d l s
  let c := match w.1.1 with | some x => 1 - x.1 | none => 0
  let seq := match w.1.1 with | some x => (x.2.1 + 1) % 4294967296 | none => 0
  match w.1.2, agentRead agOther (wearAddr k w.2) wearBytes w.2 with
  | false, (.ok b, s1) =>
    let s2 := nvStore d (wearHead l c) (ageHeader 1 seq (crc32c b) wearBytes) (nvStore d (wearData l c) b s1)
    evt d 0x71 30 (wr (R.PIO.WEAR_STAT_SEQ d l) seq (wr (R.PIO.AGE_CTL_NV_ERR d l) 0 s2))
  | _, (_, s1) => ckptAbandoned k (wr (R.PIO.AGE_CTL_NV_ERR d l) 1 (abandonCopy d (wearHead l c) (wearData l c) wearBytes s1))

/-- An action ends: BUSY is cleared. -/
def ageIdle (k : Nat) (s : State) : State :=
  wr (R.PIO.AGE_CTL_BUSY (stDie k) (stLoc k)) 0 (setAge k { ageOf k s with action := 0 } s)

/-- AGE_ACTION_END: the action under way is carried out and ends. While VIN_MON blocks the stores, nothing is written. -/
def execAgeActionEnd (k : Nat) (s : State) : Host.Outcome State Fault Refusal :=
  let d := stDie k
  let a := (ageOf k s).action
  let blocked := flag (R.NVS.NV_STAT_VIN_BLOCK d) s
  if !pioOn d s || a == 0 then .next s
  else
    let s1 := if a = 1 then evt d 0x71 29 (ageRestore k s)
      else if a = 2 then evt d 0x71 29 (if blocked then s else ageSave k s)
      else if blocked then ckptAbandoned k s else ageCheckpoint k s
    .next (ageIdle k s1)

/-- An action begins. -/
def ageStart (k a : Nat) (s : State) : State :=
  wr (R.PIO.AGE_CTL_BUSY (stDie k) (stLoc k)) 1 (setAge k { ageOf k s with action := a } s)

/-- VIN_MON has tripped: a save or a checkpoint under way on station `k` is abandoned. -/
def ageAbandon (k : Nat) (s : State) : State :=
  let d := stDie k
  let l := stLoc k
  match (ageOf k s).action with
  | 2 => ageIdle k (evt d 0x71 29 (abandonCopy d (masterHead l) (masterData l) masterBytes s))
  | 3 =>
    let w := newerCopy d l s
    let c := match w.1.1 with | some x => 1 - x.1 | none => 0
    ageIdle k (ckptAbandoned k (abandonCopy d (wearHead l c) (wearData l c) wearBytes w.2))
  | _ => s

/-- A write to AGE_CTL, after EN has been stored (R316, R320): RESTORE and SAVE are ignored while EN or BUSY is 1. The periods
of R319 and R320 begin when EN becomes 1. -/
def ageCtl (k : Nat) (enBefore : Bool) (w : Nat) (s : State) : State :=
  let en := testBit w 0
  let s1 := if en && !enBefore then setAge k { ageOf k s with ckptAt := s.now, sentAt := s.now } s else s
  let idle (s : State) : Bool := (ageOf k s).action == 0
  let s2 := if testBit w 1 && !en && idle s1 then ageStart k 1 s1 else s1
  let s3 := if testBit w 2 && !en && idle s2 then ageStart k 2 s2 else s2
  if testBit w 3 && idle s3 then ageStart k 3 s3 else s3

/-- WEAR_CHECKPOINT (R320): a checkpoint is due and background work is not deferred. -/
def execWearCheckpoint (k : Nat) (s : State) : Host.Outcome State Fault Refusal :=
  let d := stDie k
  let a := ageOf k s
  let per := rd (R.PIO.AGE_CFG_CKPT d (stLoc k)) s
  if pioOn d s && flag (R.PIO.AGE_CTL_EN d (stLoc k)) s && per != 0 && decide (a.ckptAt + 10000000000 * per ≤ s.now) &&
      a.action == 0 && !backgroundDeferred d s then
    .next (ageStart k 3 (setAge k { a with ckptAt := s.now } s))
  else .next s

/-! ### Calibration sets (R313, R314) -/

def calJobOf (d : Nat) (s : State) : Option CalJob := mapGet (fun _ => none) s.calJobs d
def setCalJob (d : Nat) (v : Option CalJob) (s : State) : State := { s with calJobs := mapSet (fun _ => none) s.calJobs d v }

/-- A load ends with a result. -/
def calEnd (d result : Nat) (s : State) : State :=
  let s1 := wr (R.PIO.CAL_STAT_RESULT d) result (wr (R.PIO.CAL_STAT_BUSY d) 0 (setCalJob d none s))
  evt d 0x71 28 (wr (R.PIO.CAL_STAT_VALID d) 1 s1)

/-- CLEAR of a slot that is neither checking nor prepared (R48). -/
def slotClear (d i : Nat) (s : State) : State :=
  if slotBusy d i s then s else wr (R.TXN.TXS_COUNT_COUNT d i) 0 (wr (R.TXN.TXS_STAT_STATE d i) 0 s)

/-- A slot is cleared and given entries (address, mask, data). -/
def slotStage (d i : Nat) (es : List (Nat × Nat × Nat)) (s : State) : State :=
  if slotBusy d i s then s
  else
    let s1 := wr (R.TXN.TXS_COUNT_COUNT d i) es.length (slotClear d i s)
    es.zipIdx.foldl (fun s e =>
      wr (R.TXN.ENTRY_DATA d i e.2) e.1.2.2 (wr (R.TXN.ENTRY_MASK d i e.2) e.1.2.1 (wr (R.TXN.ENTRY_ADDR d i e.2) e.1.1 s))) s1

/-- The NV offset of set `j` of local station `l` (R312). -/
def calOffset (l j : Nat) : Nat := 0x10000 * l + 0x2000 * j

/-- Checks 1 and 2 of R314 on the bytes of a set; 0: passed. -/
def calCheck (d l : Nat) (b : List Byte) (s : State) : Nat :=
  if fieldLe b 0 1 ≠ 0xCA ∨ fieldLe b 1 1 ≠ 1 ∨ fieldLe b 60 4 ≠ crc32c (b.take 60 ++ b.drop 64) then 1
  else if fieldLe b 2 1 ≠ rd (R.STA.CFG_HEAD d l) s then 2
  else if !flag (R.STA.CFG_HEAD d l) s ∧
      (fieldLe b 7 1 ≠ rd (R.STA.FACET_CFG_COUNT d l (rd (R.STA.SEL_FACET_BANK d l) s)) s ∨
        fieldLe b 18 1 ≠ rd (R.STA.CFG_EMITTERS d l) s) then 2
  else 0

/-- CAL_LOAD.GO (R314): the checks; a set that passes is loaded until CAL_LOAD_END. -/
def calGo (d : Nat) (s : State) : State :=
  if flag (R.PIO.CAL_STAT_BUSY d) s then s
  else
    let l := rd (R.PIO.CAL_LOAD_STATION d) s
    let j := rd (R.PIO.CAL_LOAD_SET d) s
    let i := rd (R.PIO.CAL_LOAD_SLOT d) s
    let b := nvReadChecked d (calOffset l j) 8192 s
    let s1 := b.2.2
    if b.2.1 then calEnd d 5 (slotClear d i s1)
    else
      let r := calCheck d l b.1 s1
      if r ≠ 0 then calEnd d r s1
      else if slotBusy d i s1 then calEnd d 3 s1
      else wr (R.PIO.CAL_STAT_BUSY d) 1 (setCalJob d (some
        { l := l, set := j, slot := i, plumb := 1 - rd (R.STA.SEL_PLUMB_BANK d l) s1
          facet := 1 - rd (R.STA.SEL_FACET_BANK d l) s1, lin := 1 - rd (R.STIM.LIN_LIN_BANK d l) s1 }) s1)

/-- The tables of the banks that a load fills, as offsets in the table window and bytes of the set. -/
def calTables (scanner : Bool) (c : CalJob) (b : List Byte) : List (Nat × List Byte) :=
  (0x81000 + 0x2000 * c.plumb, (b.drop 1024).take 6144) ::
    (if scanner then [(0x85000 + 0x100 * c.facet, (b.drop 64).take 256), (0x86000 + 0x400 * c.lin, (b.drop 320).take 256)] else [])

/-- The entries that swap the banks in and set the fields of a set, one for each register (R314). -/
def calEntries (scanner : Bool) (c : CalJob) (b : List Byte) : List (Nat × Nat × Nat) :=
  let sta := 0x1000 * staPage c.l
  let stim := 0x1000 * stimPage c.l
  [(sta + 0x48, if scanner then 0x26 else 0x22,
      2 * c.plumb + (if scanner then 4 * c.facet else 0) + 32 * (fieldLe b 3 1 % 2)),
    (sta + 0x4C, 3, fieldLe b 6 1 % 4),
    (stim + 0x44, 0xFFFFFF, fieldLe b 8 3),
    (stim + 0x48, 0xFFFFFFFF, fieldLe b 12 4),
    (stim + 0x4C, if scanner then 3 else 2, (if scanner then c.lin else 0) + 2 * (fieldLe b 3 1 / 2 % 2)),
    (stim + 0xB4, 0xFFFF, fieldLe b 16 2)]

/-- The content of the banks is open. -/
def calSpoil (tables : List (Nat × List Byte)) (k : Nat) (s : State) : State :=
  tables.foldl (fun s t =>
    let f := freeBytes t.2.length s
    putBytes (staWin k + t.1) f.1 f.2) s

/-- The first table of a load whose bank a commit has made active, as its offset (R237, R259, R314): none while the station is
disabled. -/
def calRefused (d : Nat) (scanner : Bool) (c : CalJob) (s : State) : Option Nat :=
  if !blockOn d (staPage c.l) s then none
  else if rd (R.STA.SEL_PLUMB_BANK d c.l) s = c.plumb then some (0x81000 + 0x2000 * c.plumb)
  else if scanner ∧ rd (R.STA.SEL_FACET_BANK d c.l) s = c.facet then some (0x85000 + 0x100 * c.facet)
  else if scanner ∧ rd (R.STIM.LIN_LIN_BANK d c.l) s = c.lin then some (0x86000 + 0x400 * c.lin)
  else none

/-- CAL_LOAD_END (R314): the copies and the staged slot, and the result. -/
def execCalLoadEnd (d : Nat) (s : State) : Host.Outcome State Fault Refusal :=
  match calJobOf d s with
  | none => .next s
  | some c =>
    let k := 2 * d + c.l
    let scanner := !flag (R.STA.CFG_HEAD d c.l) s
    let b := nvReadChecked d (calOffset c.l c.set) 8192 s
    let s1 := b.2.2
    let tables := calTables scanner c b.1
    let lost (r : Nat) (s : State) : State := calEnd d r (slotClear d c.slot (facetUpdate k (calSpoil tables k s)))
    if b.2.1 then .next (lost 5 s1)
    else match calRefused d scanner c s1 with
      | some o => .next (lost 4 (stationRefuse k 1 o s1))
      | none =>
        let s2 := tables.foldl (fun s t => putBytes (staWin k + t.1) t.2 s) s1
        let s3 := if scanner then wr (R.STA.FACET_CFG_COUNT d c.l c.facet) (fieldLe b.1 7 1) s2 else s2
        let a := 2 * rd (R.PIO.CAL_ETRIM_LO_ADDR d) s3 + 0x100000000 * rd (R.PIO.CAL_ETRIM_HI_ADDR d) s3
        let r := agentWrite agOther a ((b.1.drop 576).take 96) (facetUpdate k s3)
        if !r.1 then .next (lost 5 r.2)
        else
          let s5 := if slotBusy d c.slot r.2 then r.2
            else wr (R.TXN.TXS_CTL_STATION d c.slot) c.l (slotStage d c.slot (calEntries scanner c b.1) r.2)
          .next (calEnd d 0 s5)

/-! ### Mark inputs and the measurement of auto-registration (R321 to R323) -/

def markOf (d m : Nat) (s : State) : MarkInput := mapGet (fun _ => {}) s.marks (4 * d + m)
def setMark (d m : Nat) (v : MarkInput) (s : State) : State := { s with marks := mapSet (fun _ => {}) s.marks (4 * d + m) v }

/-- The registers show the oldest capture. -/
def showMark (d m : Nat) (s : State) : State :=
  let f := (markOf d m s).fifo
  let c := f.headD (0, 0, 0)
  let s1 := wr (R.PIO.MARK_T_B_IDX d m) c.2.1 (wr (R.PIO.MARK_T_STIME d m) c.1 (wr (R.PIO.MARK_STAT_FIFO d m) f.length s))
  wr (R.PIO.MARK_P_LO_P d m) c.2.2 (wr (R.PIO.MARK_P_HI_P d m) (c.2.2 / 4294967296) s1)

/-- The reference and the station's mark of a window, if both have been captured. -/
def markPair (ref sta : Nat) (w : List (Nat × Nat)) : Option (Nat × Nat) :=
  match w.find? (fun c => c.1 == ref), w.find? (fun c => c.1 == sta) with
  | some a, some b => some (a.2, b.2)
  | _, _ => none

/-- E of R323 from the two positions. -/
def aregError (pRef pSta : Nat) (nom : Int) (lnum lden : Nat) : Int :=
  let e := toSigned 56 (pSta + two56 - pRef % two56) - nom
  (e * lnum + 2 * lden) / (4 * lden : Nat)

/-- Auto-registration `l` takes a measurement (R323). -/
def aregMeasure (d l : Nat) (p : Nat × Nat) (s : State) : State :=
  let e := aregError p.1 p.2 (rdS (R.PIO.AREG_NOM_NOM d l) s) (rd (R.PIO.AREG_SCALE_LNUM d l) s) (rd (R.PIO.AREG_SCALE_LDEN d l) s)
  if e.natAbs ≤ rd (R.PIO.AREG_LIM_MAXERR d l) s then
    evt d 0x71 25 (wr (R.PIO.AREG_ERR_SEQ d l) (rd (R.PIO.AREG_ERR_SEQ d l) s + 1) (wrS (R.PIO.AREG_ERR_E d l) e s))
  else recordFault d 0x71 24 false (bump (R.PIO.AREG_CNT_IMPLAUS d l) s)

/-- The loops that measure on input `m`. -/
def aregOn (d m : Nat) (s : State) : List Nat :=
  [0, 1].filter (fun l => flag (R.PIO.AREG_CFG_EN d l) s && rd (R.PIO.AREG_CFG_SENSOR d l) s == m)

def aregPair (d l : Nat) (w : List (Nat × Nat)) (s : State) : Option (Nat × Nat) :=
  markPair (rd (R.PIO.AREG_CFG_REF_IDX d l) s) (rd (R.PIO.AREG_CFG_STA_IDX d l) s) w

/-- MARK_CAPTURE (R321 to R323): an edge of input `m`, rising where `level.1`, has begun a level that has lasted `level.2` ns.
The edge itself is timestamped. -/
def execMarkCapture (d m : Nat) (level : Bool × Nat) (s : State) : Host.Outcome State Fault Refusal :=
  let rising := level.1
  let held := level.2
  let edge := rd (R.PIO.MARK_CFG_EDGE d m) s
  if 4 ≤ m ∨ held < rd (R.PIO.MARK_CFG_FILT d m) s ∨ !pioOn d s ∨ !flag (R.PIO.MARK_CFG_EN d m) s ∨ (edge = 0 ∧ !rising) ∨ (edge = 1 ∧ rising) then .next s
  else
    let p := (counterOf d (rd (R.PIO.MARK_CFG_COUNTER d m) s) s).posAt (counterC d s - held)
    let t := (stime d s + 4294967296 - held % 4294967296) % 4294967296
    let idx := rd (R.PIO.MARK_STAT_INDEX d m) s
    let x := markOf d m s
    let win := flag (R.PIO.MARK_CFG_CUE_EN d m) s
    let old := x.window.getD []
    let w := old ++ [(idx, p)]
    let s1 := if x.fifo.length < 16 then setMark d m { x with fifo := x.fifo ++ [(t, idx, p)] } s
      else evt d 0x71 24 (bump (R.PIO.MARK_STAT_LOST d m) s)
    let s2 := showMark d m s1
    if !win then .next s2
    else
      let s3 := wr (R.PIO.MARK_STAT_INDEX d m) (Nat.min 255 (idx + 1))
        (setMark d m { markOf d m s2 with window := x.window.map (fun _ => w) } s2)
      if x.window.isNone then .next s3
      else .next ((aregOn d m s3).foldl (fun s l =>
        match aregPair d l old s, aregPair d l w s with
        | none, some pr => aregMeasure d l pr s
        | _, _ => s) s3)

/-- A cue that opens windows fires (R322, R323). -/
def markWindows (d n : Nat) (s : State) : State :=
  [0, 1, 2, 3].foldl (fun s m =>
    if flag (R.PIO.MARK_CFG_CUE_EN d m) s && rd (R.PIO.MARK_CFG_CUE d m) s == n && pioOn d s then
      let s1 := match (markOf d m s).window with
        | none => s
        | some w => (aregOn d m s).foldl (fun s l =>
            if (aregPair d l w s).isNone then evt d 0x71 26 (bump (R.PIO.AREG_CNT_MISSES d l) s) else s) s
      wr (R.PIO.MARK_STAT_INDEX d m) 0 (setMark d m { markOf d m s1 with window := some [] } s1)
    else s) s

/-- A read of MARK_P_LO removes the oldest capture (R322). -/
def markPop (d m : Nat) (s : State) : State :=
  showMark d m (setMark d m { markOf d m s with fifo := (markOf d m s).fifo.drop 1 } s)

end Sys2Proof.Machine
end

