-- ==== Sys2Proof/Machine/Txn.lean ====
section
/-! DEFINITION. Hardware transactions on one die and across dies (R48 to R59), and the staging of auto-registration outputs
(R324, R325). -/

namespace Sys2Proof.Machine

/-! ### Arming and checking (R48 to R50) -/

/-- D0 assigns the next TSN (R59). -/
def nextTsn (s : State) : Nat × State :=
  let n := (rd (R.CTRL.TSN_LAST_TSN 0) s + 1) % 4294967296
  (n, wr (R.CTRL.TSN_LAST_TSN 0) n s)

/-- The argument of a slot's condition as it stands. -/
def slotArg (d i : Nat) (s : State) : Nat := rd (R.TXN.TXS_ARG0_ARG d i) s + 4294967296 * rd (R.TXN.TXS_ARG1_ARG d i) s

/-- An ARM that is carried out: the slot is checking, with a new TSN. -/
def slotArm (d i : Nat) (bar2 : Bool) (areg : Option Nat) (s : State) : State :=
  let t := nextTsn s
  let s1 := wr (R.TXN.TXS_STAT_STATE d i) 4 (wr (R.TXN.TXS_TSN_TSN d i) t.1 t.2)
  let s2 := wr (R.TXN.TXS_STAT_VIEW d i) (b2n bar2) (wr (R.TXN.TXS_STAT_XDIE d i) 0 s1)
  setTxn d i { arg := slotArg d i s, areg := areg } s2

/-- A prepared or checking slot is abandoned by the host (R50, R54, R55). -/
def slotAbort (d i : Nat) (s : State) : State :=
  if !slotBusy d i s || slotDecided d i s then s
  else
    let s1 := slotReject d i 8 0 s
    if flag (R.TXN.TXS_STAT_XDIE d i) s then { s1 with msgs := s1.msgs ++ [.answer d 8] } else s1

/-- A write of `w` to TXS_CTL (R48): the fields, then ABORT, CLEAR and ARM. -/
def slotCtl (d i : Nat) (bar2 : Bool) (w : Nat) (s : State) : State :=
  let arm := testBit w 0
  let abort := testBit w 1
  let clear := testBit w 2
  let cond := bitsOf w 8 3
  let sta := bitsOf w 12 1
  if slotBusy d i s then
    let moved := cond != rd (R.TXN.TXS_CTL_COND d i) s || sta != rd (R.TXN.TXS_CTL_STATION d i) s
    let s1 := if abort then slotAbort d i s else s
    if moved || arm || clear then accErr 3 true (R.TXN.TXS_CTL_ARM d i).addr s1 else s1
  else
    let s1 := wr (R.TXN.TXS_CTL_STATION d i) sta (wr (R.TXN.TXS_CTL_COND d i) cond s)
    let s2 := if clear then slotClear d i s1 else s1
    if arm then slotArm d i bar2 none s2 else s2

/-- The RWS bits of a register's fields, and the /P bits. -/
def rwsMask (r : RegD) : Nat := r.fields.foldl (fun m f => if f.acc = .rws then m + (2 ^ f.width - 1) * 2 ^ f.lsb else m) 0
def privMask (r : RegD) : Nat := r.fields.foldl (fun m f => if f.priv then m + (2 ^ f.width - 1) * 2 ^ f.lsb else m) 0

/-- The register at an offset of a die window. -/
def regAt (d o : Nat) : Option RegD :=
  match Layout.pageKind (o / 0x1000) with
  | none => none
  | some (k, _) => match Layout.find k (o % 0x1000) with
    | some r => if r.d0Only && d != 0 then none else some r
    | none => none

/-- Another prepared slot holds the shadow of a register. -/
def shadowHeld (d i a : Nat) (s : State) : Bool :=
  (List.range 8).any (fun j => j != i && rd (R.TXN.TXS_STAT_STATE d j) s == 1 &&
    (slotEntries d j s).any (fun e => e.2.2.1 != 0 && e.2.1 == a))

/-- The first check of R50 that an entry fails; 0: none. -/
def entryReason (d i : Nat) (bar2 : Bool) (a m : Nat) (s : State) : Nat :=
  if m = 0 then 0
  else if a % 4 ≠ 0 ∨ 0x100000 ≤ a ∨ !pagePresent d (a / 0x1000) s ∨ (2 ≤ a / 0x1000 ∧ a / 0x1000 ≤ 9) then 2
  else
    let r := regAt d a
    let priv := match r with | some r => privMask r | none => 0
    let rws := match r with | some r => rwsMask r | none => 0
    if bar2 ∧ m &&& priv ≠ 0 then 3
    else if m &&& rws ≠ m then 4
    else if (domainOf d (pageDomain (a / 0x1000)) s).st ≠ 2 then 5
    else if (match targetUnit d a with | some u => isFenced u s | none => dieFenced d s) = true then 6
    else if shadowHeld d i a s then 7
    else 0

/-- The condition checks of R50: 11 BAD_COND, then 1 LATE. -/
def condReason (d i : Nat) (s : State) : Nat :=
  let c := rd (R.TXN.TXS_CTL_COND d i) s
  let k := 2 * d + rd (R.TXN.TXS_CTL_STATION d i) s
  let arg := (txnOf d i s).arg
  let arg0 := arg % 4294967296
  if c = 7 ∨ (c = 2 ∧ 511 < arg0) ∨ (3 ≤ c ∧ !blockOn d (staPage (stLoc k)) s) then 11
  else if c = 1 ∧ !later 64 arg (ltime d s) then 1
  else if c = 3 ∧ (match (staOf k s).firedTo with | some t => !later 32 arg0 (t % 4294967296) | none => false) = true then 1
  else if c = 5 ∧ (match (staOf k s).curFsn with | some f => !later 32 arg0 f | none => false) = true then 1
  else 0

/-- The first entry that fails, with its reason. -/
def badEntry (d i : Nat) (bar2 : Bool) (s : State) : Option (Nat × Nat × Nat) :=
  ((slotEntries d i s).map (fun e => (e.1, entryReason d i bar2 e.2.1 e.2.2.1 s, e.2.1))).find? (fun e => e.2.1 != 0)

/-- The entries are checked: the slot becomes prepared or rejected; a PRIVILEGE failure is also a violation (R37), at the offset of
the write that armed the slot (DESIGN CHOICE, log 95). -/
def slotJudge (d i : Nat) (s : State) : State :=
  match badEntry d i (flag (R.TXN.TXS_STAT_VIEW d i) s) s with
  | none => wr (R.TXN.TXS_STAT_BAD d i) 0 (wr (R.TXN.TXS_STAT_REASON d i) 0 (wr (R.TXN.TXS_STAT_STATE d i) 1 s))
  | some (n, r, _) => slotReject d i r n (if r = 3 then privViolation (R.TXN.TXS_CTL_ARM d i).addr s else s)

/-- TXN_CHECKS_DONE (R50): the checks of a checking slot end. -/
def execTxnChecksDone (d i : Nat) (s : State) : Host.Outcome State Fault Refusal :=
  if s.dies ≤ d ∨ 8 ≤ i ∨ rd (R.TXN.TXS_STAT_STATE d i) s ≠ 4 then .next s
  else
    let c := condReason d i s
    if c ≠ 0 then .next (slotReject d i c 0 s) else .next (slotJudge d i s)

/-! ### The commit (R51 to R54) -/

/-- What a change of an RWS register brings, whether by a write or by a commit (R239, R264, R370); `linChanged` sends the LINTAB. -/
def rwsChanged (d o : Nat) (s : State) : State :=
  match Layout.pageKind (o / 0x1000) with
  | some (.staP, l) => selectionChanged (2 * d + l) (firstUnfired (2 * d + l) s) s
  | some (.stimP, l) =>
    let k := 2 * d + l
    if o % 0x1000 = 0x48 ∨ o % 0x1000 = 0x4C then s else selectionChanged k (firstUnfired k s) s
  | some (.stepP, _) => stepLimits d ((o % 0x1000 - 0x100) / 0x40) s
  | _ => s

/-- A field's value held between its bounds. -/
def clampField (f : FieldD) (v : Nat) : Nat := withBits v f.lsb f.width (Nat.max f.lo (Nat.min f.hi (bitsOf v f.lsb f.width)))

/-- The active value takes the masked bits of an entry (R49, R52). -/
def applyEntry (d a m v : Nat) (s : State) : State :=
  let loc := d * 0x1000000 + a
  putWord loc (BitVec.ofNat 32 (((word loc s).toNat &&& (0xFFFFFFFF - m)) ||| (v &&& m))) s

/-- The bounded fields of a register are held between their bounds, once every entry for it has been applied (R52). -/
def clampEntry (d a : Nat) (s : State) : State :=
  match regAt d a with
  | none => s
  | some r =>
    let loc := d * 0x1000000 + a
    putWord loc (BitVec.ofNat 32 ((r.fields.filter (fun f => f.acc == .rws)).foldl (fun w f => clampField f w) (word loc s).toNat)) s

/-- A page holds the TSN of the last transaction that committed to it; of two at one instant, the later (R59). -/
def tagPage (d i tsn a : Nat) (s : State) : State :=
  let p := a / 0x1000
  let other := (List.range 8).any (fun j => j != i && (txnOf d j s).doneAt == some s.now &&
    later 32 (rd (R.TXN.TXS_TSN_TSN d j) s) tsn && (slotEntries d j s).any (fun e => e.2.2.1 != 0 && e.2.1 / 0x1000 == p))
  if other then s else wr (R.HDR.TXN_TAG_TSN d p) tsn s

/-- A prepared slot commits. -/
def slotCommit (d i : Nat) (s : State) : State :=
  let es := (slotEntries d i s).filter (fun e => e.2.2.1 != 0)
  let tsn := rd (R.TXN.TXS_TSN_TSN d i) s
  let s0 := es.foldl (fun s e => applyEntry d e.2.1 e.2.2.1 e.2.2.2 s) s
  let s1 := es.foldl (fun s e => clampEntry d e.2.1 s) s0
  let s2 := es.foldl (fun s e => tagPage d i tsn e.2.1 (rwsChanged d e.2.1 s)) s1
  let s2 := [0, 1].foldl (fun t l => linChanged (2 * d + l) s t) s2
  let s3 := setTxn d i { txnOf d i s2 with doneAt := some s2.now } (wr (R.TXN.TXS_STAT_STATE d i) 2 s2)
  let s4 := evt d (2 + i) 0 (wr (R.TXN.TXS_TIME_STIME d i) (stime d s3) s3)
  if flag (R.TXN.TXS_STAT_XDIE d i) s4 then { s4 with msgs := s4.msgs ++ [.report d] } else s4

/-- The first line and the number of lines of a station's next edge. -/
def nextEdge (k : Nat) (s : State) : Option (Nat × Nat) :=
  if timSt k s ≠ 2 then none
  else if ledBar k s then (nextStrobe k s).map (fun x => (x.2.lsn, 1))
  else (staOf k s).placed.head?.map (fun p => (p.lsn, p.adv))

/-- The next edge fires L1 of a plane that `f` holds of, or the first line after an L1 that was passed over as slip. -/
def nextFirst (k : Nat) (f : StaPlane → Bool) (s : State) : Bool :=
  match nextEdge k s with
  | none => false
  | some (lo, n) => (staOf k s).planes.any (fun p =>
      p.active && !p.fired && decide (p.l1 < lo + n) && f p)

/-- The condition of a prepared slot is reached (R51); a cue's firing commits the slots that name it (R336). -/
def slotDue (d i : Nat) (s : State) : Bool :=
  let c := rd (R.TXN.TXS_CTL_COND d i) s
  let k := 2 * d + rd (R.TXN.TXS_CTL_STATION d i) s
  let t := txnOf d i s
  let arg0 := t.arg % 4294967296
  if flag (R.TXN.TXS_STAT_XDIE d i) s then t.decided && !dieFenced d s && !later 64 t.arg (ltime d s)
  else match c with
    | 0 => true
    | 1 => !later 64 t.arg (ltime d s)
    | 3 => match nextEdge k s with | some (lo, n) => !later 32 arg0 ((lo + n - 1) % 4294967296) | none => false
    | 4 => (nextEdge k s).isSome
    | 5 => nextFirst k (fun p => p.fsn == arg0) s
    | 6 => nextFirst k (fun _ => true) s
    | _ => false

/-- TXN_COMMIT (R53): the condition of a prepared slot is reached. -/
def execTxnCommit (d i : Nat) (s : State) : Host.Outcome State Fault Refusal :=
  if s.dies ≤ d ∨ 8 ≤ i ∨ rd (R.TXN.TXS_STAT_STATE d i) s ≠ 1 ∨ !slotDue d i s then .next s else .next (slotCommit d i s)

/-- The prepared slots of a die whose condition names a cue commit at its firing (R51, R336). -/
def commitOnCue (d n : Nat) (s : State) : State :=
  (List.range 8).foldl (fun s i =>
    if rd (R.TXN.TXS_STAT_STATE d i) s = 1 ∧ !flag (R.TXN.TXS_STAT_XDIE d i) s ∧ rd (R.TXN.TXS_CTL_COND d i) s = 2 ∧
        (txnOf d i s).arg % 4294967296 = n then slotCommit d i s else s) s

/-- The prepared slots whose line or frame boundary on station `k` is the next edge commit before it falls (R51, R53). -/
def commitOnEdge (k : Nat) (s : State) : State :=
  let d := stDie k
  (List.range 8).foldl (fun s i =>
    let c := rd (R.TXN.TXS_CTL_COND d i) s
    if rd (R.TXN.TXS_STAT_STATE d i) s = 1 ∧ !flag (R.TXN.TXS_STAT_XDIE d i) s ∧ 3 ≤ c ∧ c ≤ 6 ∧
        rd (R.TXN.TXS_CTL_STATION d i) s = stLoc k ∧ slotDue d i s = true then slotCommit d i s else s) s

/-- A slot whose commit is decided holds a shadow of a register in domain `dom` (R58). -/
def decidedIn (d dom : Nat) (s : State) : Bool :=
  (List.range 8).any (fun i => rd (R.TXN.TXS_STAT_STATE d i) s == 1 && slotDecided d i s &&
    (slotEntries d i s).any (fun e => e.2.2.1 != 0 && pageDomain (e.2.1 / 0x1000) == dom))

/-! ### Cross-die transactions (R56 to R58) -/

def xtxnState (s : State) : Nat := rd (R.CTRL.XTXN_STAT_STATE 0) s

/-- The participating dies, and the slot of a die, as XTXN_MAP named them at GO. -/
def mapDies (m : Nat) : List Nat := (List.range 8).filter (fun d => testBit m (4 * d + 3))

/-- The transaction ends (R57). -/
def xtxnEnd (st reason die : Nat) (s : State) : State :=
  evt 0 1 2 (wr (R.CTRL.XTXN_STAT_DIE 0) die (wr (R.CTRL.XTXN_STAT_REASON 0) reason (wr (R.CTRL.XTXN_STAT_STATE 0) st s)))

/-- It is abandoned: every participating die is told. -/
def xtxnAbandon (reason die : Nat) (s : State) : State :=
  let s1 := xtxnEnd 4 reason die s
  { s1 with msgs := s1.msgs ++ s1.xtxn.slots.map (fun x => .abort x.1 x.2) }

/-- An answer FAIL is on its way to D0. -/
def isFail : Msg → Bool
  | .answer _ r => r != 0
  | _ => false

/-- D0 decides when every die has answered OK, none of them has failed since, and all are still part of the package. -/
def xtxnDecide (s : State) : State :=
  if xtxnState s = 1 ∧ s.xtxn.slots.all (fun x => s.xtxn.answered.contains x.1 && !dieFenced x.1 s) = true ∧
      s.msgs.any isFail = false then
    let s1 := wr (R.CTRL.XTXN_STAT_STATE 0) 2 s
    { s1 with msgs := s1.msgs ++ s1.xtxn.slots.map (fun x => .commit x.1 x.2) }
  else s

/-- The transaction is committed when every die still part of the package has reported (R57, R58). -/
def xtxnDone (s : State) : State :=
  if xtxnState s = 2 ∧ s.xtxn.slots.all (fun x => s.xtxn.reported.contains x.1 || dieFenced x.1 s) = true then
    xtxnEnd 3 0 0 s
  else s

/-- XTXN_CTL.GO (R57). While one is preparing or decided a further GO is ignored (log 72). One that names no die is decided and
committed at once (DESIGN CHOICE, log 143). -/
def xtxnGo (s : State) : State :=
  if xtxnState s = 1 ∨ xtxnState s = 2 then s
  else
    let t := nextTsn s
    let time := rd (R.CTRL.XTXN_TIME_LO_T 0) s + 4294967296 * rd (R.CTRL.XTXN_TIME_HI_T 0) s
    let m := rd (R.CTRL.XTXN_MAP_MAP 0) s
    let slots := (mapDies m).map (fun d => (d, bitsOf m (4 * d) 3))
    let s1 := wr (R.CTRL.XTXN_TSN_TSN 0) t.1 { t.2 with xtxn := { time := time, slots := slots } }
    let s2 := wr (R.CTRL.XTXN_STAT_DIE 0) 0 (wr (R.CTRL.XTXN_STAT_REASON 0) 0 (wr (R.CTRL.XTXN_STAT_STATE 0) 1 s1))
    if !later 64 time ((ltime 0 s + 49999) % 18446744073709551616) then xtxnEnd 4 1 0 s2
    else xtxnDone (xtxnDecide { s2 with msgs := s2.msgs ++ slots.map (fun x => .prepare x.1 x.2 t.1 time) })

/-- XTXN_CTL.ABORT, before the decision (R57, R58). -/
def xtxnAbort (s : State) : State := if xtxnState s = 1 then xtxnAbandon 8 0 s else s

def isPrepare (d : Nat) : Msg → Bool
  | .prepare d' _ _ _ => d' == d
  | _ => false

/-- XTXN_PREPARE (R57): die `d` arms its slot, runs the checks but for the condition, and answers; a die that is fenced from the
package does not answer. TXS_STAT.VIEW of such a slot is 0 (DESIGN CHOICE, log 144). -/
def execXtxnPrepare (d : Nat) (s : State) : Host.Outcome State Fault Refusal :=
  match takeMsg (isPrepare d) s with
  | some (.prepare _ i tsn time, s1) =>
    if !dieUp d s1 || dieFenced d s1 then .next s1
    else if slotBusy d i s1 then .next { s1 with msgs := s1.msgs ++ [.answer d 7] }
    else
      let s2 := wr (R.TXN.TXS_STAT_STATE d i) 4 (wr (R.TXN.TXS_TSN_TSN d i) tsn s1)
      let s3 := wr (R.TXN.TXS_STAT_VIEW d i) 0 (wr (R.TXN.TXS_STAT_XDIE d i) 1 s2)
      let s4 := slotJudge d i (setTxn d i { arg := time } s3)
      .next { s4 with msgs := s4.msgs ++ [.answer d (rd (R.TXN.TXS_STAT_REASON d i) s4)] }
  | _ => .next s

def isAnswer (d : Nat) : Msg → Bool
  | .answer d' _ => d' == d
  | _ => false

/-- XTXN_ANSWER (R57): D0 receives an answer. Of several failing dies the lowest is named. -/
def execXtxnAnswer (d : Nat) (s : State) : Host.Outcome State Fault Refusal :=
  match takeMsg (isAnswer d) s with
  | some (.answer _ 0, s1) =>
    if xtxnState s1 = 1 then .next (xtxnDecide { s1 with xtxn := { s1.xtxn with answered := d :: s1.xtxn.answered } })
    else .next s1
  | some (.answer _ r, s1) =>
    let s2 := { s1 with xtxn := { s1.xtxn with failed := d :: s1.xtxn.failed } }
    if xtxnState s1 = 1 then .next (xtxnAbandon r d s2)
    else if xtxnState s1 = 4 ∧ s1.xtxn.failed ≠ [] ∧ d < rd (R.CTRL.XTXN_STAT_DIE 0) s1 then
      .next (wr (R.CTRL.XTXN_STAT_DIE 0) d (wr (R.CTRL.XTXN_STAT_REASON 0) r s2))
    else .next s1
  | _ => .next s

def isCommit (d : Nat) : Msg → Bool
  | .commit d' _ => d' == d
  | _ => false

/-- XTXN_COMMIT_MSG (R57, R58): the commit reaches die `d`, which waits for T. -/
def execXtxnCommitMsg (d : Nat) (s : State) : Host.Outcome State Fault Refusal :=
  match takeMsg (isCommit d) s with
  | some (.commit _ i, s1) =>
    if slotBusy d i s1 && flag (R.TXN.TXS_STAT_XDIE d i) s1 && !dieFenced d s1 then .next (setTxn d i { txnOf d i s1 with decided := true } s1)
    else .next s1
  | _ => .next s

def isAbort (d : Nat) : Msg → Bool
  | .abort d' _ => d' == d
  | _ => false

/-- XTXN_ABORT_MSG (R57): the abort reaches die `d`; a prepared slot becomes rejected with PEER. -/
def execXtxnAbortMsg (d : Nat) (s : State) : Host.Outcome State Fault Refusal :=
  match takeMsg (isAbort d) s with
  | some (.abort _ i, s1) =>
    if slotBusy d i s1 && flag (R.TXN.TXS_STAT_XDIE d i) s1 then .next (slotReject d i 9 0 s1) else .next s1
  | _ => .next s

def isReport (d : Nat) : Msg → Bool
  | .report d' => d' == d
  | _ => false

/-- XTXN_COMMIT_REPORT (R57): D0 receives a die's report. -/
def execXtxnCommitReport (d : Nat) (s : State) : Host.Outcome State Fault Refusal :=
  match takeMsg (isReport d) s with
  | some (_, s1) => .next (xtxnDone { s1 with xtxn := { s1.xtxn with reported := d :: s1.xtxn.reported } })
  | none => .next s

/-- XTXN_TIMEOUT (R57): an answer is missing 20 µs before T, or its die has left the package since. -/
def execXtxnTimeout (s : State) : Host.Outcome State Fault Refusal :=
  if xtxnState s = 1 ∧ !later 64 s.xtxn.time ((ltime 0 s + 20000) % 18446744073709551616) then
    match s.xtxn.slots.find? (fun x => !s.xtxn.answered.contains x.1 || dieFenced x.1 s) with
    | some x => .next (xtxnAbandon 10 x.1 s)
    | none => .next s
  else .next s

/-! ### Auto-registration outputs (R324, R325) -/

/-- The lowest set bit of a mask, and its width from there to the highest. -/
def maskLow (m : Nat) : Nat := ((List.range 32).find? (fun i => testBit m i)).getD 0
def maskWidth (m : Nat) : Nat := if m = 0 then 0 else Nat.log2 m + 1 - maskLow m

/-- An output of a station's loop is staged in its slot and armed; while the slot is busy it is held. -/
def aregStage (k : Nat) (s : State) : State :=
  let d := stDie k
  let l := stLoc k
  let i := rd (R.PIO.AREG_CFG_SLOT d l) s
  match s.aregOut.find? (fun a => a.1 == k) with
  | none => s
  | some a =>
    if slotBusy d i s || !flag (R.PIO.AREG_CFG_EN d l) s then s
    else
      let m := rd (R.PIO.AREG_MASK_MASK d l) s
      let v := ofSigned (maskWidth m) ((rd (R.PIO.AREG_BASE_BASE d l) s : Nat) + a.2) * 2 ^ maskLow m
      let s1 := slotStage d i [(4 * rd (R.PIO.AREG_TGT_ADDR d l) s, m, v)] s
      let s2 := wr (R.TXN.TXS_CTL_STATION d i) l (wr (R.TXN.TXS_CTL_COND d i) 6 s1)
      slotArm d i false (some l) { s2 with aregOut := s2.aregOut.filter (fun x => x.1 != k) }

/-- AREG_HELD_STAGE (R325). -/
def execAregHeldStage (k : Nat) (s : State) : Host.Outcome State Fault Refusal := .next (aregStage k s)

/-- LOOP_TICK (R398, R418, R423): the contexts that are due run, and what they give for auto-registration is staged. -/
def execLoopTick (d : Nat) (s : State) : Host.Outcome State Fault Refusal :=
  .next (aregStage (2 * d + 1) (aregStage (2 * d) (loopTick d s)))

end Sys2Proof.Machine
end

