-- ==== Sys2Proof/Machine/Launch.lean ====
section
/-! DEFINITION. Encoder steps, cue firings, launches, and the automatic backfeed (R329 to R344, R351, R353, R355). -/

namespace Sys2Proof.Machine

/-! ### Encoder steps (R329 to R333) -/

/-- Counter `c` of die `d` takes a step: triggers, start positions and line generators follow it. -/
def counterStep (d c : Nat) (up : Bool) (s : State) : State :=
  let n := (counterOf d c s).step up (counterC d s)
  let s1 := reachResume d c up (reachStart d c up (cueReach d c up (setCounter d c n s)))
  [0, 1].foldl (fun s l =>
    if rd (R.STIM.LG_CFG_COUNTER d l) s = c ∧ stationOn (2 * d + l) s = true then
      lineStep (2 * d + l) up n.time n.count n.interval s
    else s) s1

/-- What a change of the levels of input `e` is for counter `c` (R329, R330): 0 no step, 1 up, 2 down, 3 an error. In modes 1 and 2
a second change within the filter window is an error. -/
def edgeKind (d c e : Nat) (old new : Encoder) (s : State) : Nat :=
  let mode := rd (R.CUE.POS_CFG_MODE d c) s
  if (mode = 1 ∨ mode = 2) ∧ edgeNear d e (rd (R.CUE.POS_CFG_FILT d c) s) (old.a != new.a) (old.b != new.b) s = true then 3
  else decodeStep mode old.a old.b new.a new.b

/-- A change of levels makes counter `c` count, or is an error (R330). -/
def counterEdge (d c e : Nat) (old new : Encoder) (s : State) : State :=
  let inv := flag (R.CUE.POS_CFG_INV d c) s
  match edgeKind d c e old new s with
  | 1 => counterStep d c (!inv) s
  | 2 => counterStep d c inv s
  | 3 => evt d 0x60 4 (recordFault d 0x60 2 false (bump (R.CUE.POS_ERR_QUAD d c) s))
  | _ => s

/-- ENCODER_STEP (R329 to R331): the filtered levels of input `e` change; one command stands for changes of A and B that come
within one filter window (log 165). -/
def execEncoderStep (d e : Nat) (la lb : Bool) (s : State) : Host.Outcome State Fault Refusal :=
  if 8 ≤ e ∨ !blockUp d 0x60 s then .next s
  else
    let old := encoderOf d e s
    let new : Encoder := { a := la, b := lb }
    .next ((List.range 8).foldl (fun s c => if rd (R.CUE.POS_CFG_SRC d c) s = e then counterEdge d c e old new s else s)
      (setEncoder d e new s) |> noteEdges d e (old.a != la) (old.b != lb))

/-! ### Launches (R80, R341 to R343, R353, R355) -/

/-- The stations of die `d` that a frame prints, in order. -/
def frameOn (i d : Nat) (s : State) : List Nat := (frameStations i s).filter (fun k => stDie k == d)

/-- The frame that a firing of launch cue `n` on die `d` names (R341; log 70). -/
def namedFrame (d n : Nat) (s : State) : Option Nat :=
  let cand := (List.range 64).filter (fun i =>
    let x := slotOf i s
    decide (1 ≤ x.st) && decide (x.st ≤ 5) && !x.left && frameCue i s == n && !(frameOn i d s).isEmpty && !x.launched.contains d)
  cand.foldl (fun best i => match best with
    | none => some i
    | some j => if later 32 (frameFsn j s) (frameFsn i s) then some i else best) none

/-- A station may take a launch of a frame with a medium mode, but for the room in its start list (R341). -/
def launchStation (sheet : Bool) (k : Nat) (s : State) : Bool :=
  onPath k s && pathState (pathOf k s) s != 0 && pathState (pathOf k s) s != 7 && pathSheet (pathOf k s) s == sheet

def startRoom (k : Nat) (s : State) : Bool := decide ((startListOf k s).length < 16)

/-- The launch is accepted, but for the room in the start lists. -/
def launchable (i d : Nat) (late : Bool) (s : State) : Bool :=
  let x := slotOf i s
  (x.st == 4 || x.st == 5) && !late && (frameOn i d s).all (fun k => launchStation (frameSheet i s) k s)

/-- p(t) of the path's counter on D0, which X_F is taken from (R355). -/
def pathPos (p : Nat) (s : State) : Nat := posNow 0 (rd (R.CUE.PATH_CFG_COUNTER 0 p) s) s

/-- The path that STA_PATH names for the frame's lowest station on die `d`. -/
def launchPath (i d : Nat) (s : State) : Option Nat :=
  match frameOn i d s with
  | [] => none
  | k :: _ => if onPath k s then some (pathOf k s) else none

/-- The path and X_F of a launch, unless those of another are to be kept: the first launch that is accepted counts, or else the
first that is refused (R355). -/
def noteLaunch (keep : Bool) (i d : Nat) (s : State) : State :=
  if keep then s else setSlot i { slotOf i s with xf := (launchPath i d s).map (fun p => (p, pathPos p s)) } s

/-- A launch is accepted: the start lists take X_S = X_L + STA_OFFS (R342). -/
def launchAccept (i d : Nat) (s : State) : State :=
  let s0 := noteLaunch (!(slotOf i s).launched.isEmpty) i d s
  let s1 := setSlot i { slotOf i s0 with launched := d :: (slotOf i s0).launched } s0
  (frameOn i d s1).foldl (fun s k =>
    let offs := rd (R.CUE.STA_OFFS_OFFS (stDie k) (stLoc k)) s
    let e : StartEntry := { slot := i, fsn := frameFsn i s, xs := (staPos k s + offs) % two56, offs := offs }
    watchStart k (setStartList k (startListOf k s ++ [e]) s)) s1

/-- A refused launch of a frame (R80, R341, R355): a frame already IMAGING is spoiled with cause SLIP (log 90). On a path that is
JAMMED a refusal starts no stop (R356). -/
def launchRefuse (i d : Nat) (s : State) : State :=
  let s1 := evt 0 0x48 6 s
  let s2 := match launchPath i d s1 with
    | some p => if frameSheet i s1 || pathState p s1 == 7 then s1 else sendCause p 2 s1
    | none => s1
  if (slotOf i s2).st = 5 then
    match frameOn i d s2 with
    | k :: _ => spoilFrame i 2 k s2
    | [] => s2
  else if frameSheet i s2 then
    match launchPath i d s2 with
    | some p => purgeRequest p (frameFsn i s2) (pathPos p s2) (noteLaunch (slotOf i s2).xf.isSome i d s2)
    | none => s2
  else s2

/-- A launch that was refused for another reason than a full start list is re-armed on a web path (R353). -/
def launchRearm (i d n : Nat) (old : CueRun) (s : State) : State :=
  match launchPath i d s with
  | some p =>
    if pathSheet p s ∨ cueKind (cueEntry d n s) ≠ 2 then s
    else setArmed d n true (cueStore d n (setCue d n
      { cueOf d n s with arg := old.arg, rep := old.rep, reached := false, late := false, rearmed := some old.arg } s))
  | none => s

/-- The firing of launch cue `n`, decided at once (log 73); `old` is the cue as it fired. -/
def launch (d n : Nat) (late : Bool) (old : CueRun) (s : State) : State :=
  match namedFrame d n s with
  | none => evt 0 0x48 6 s
  | some i =>
    if launchable i d late s then
      let full := (frameOn i d s).filter (fun k => !startRoom k s)
      if full.isEmpty then launchAccept i d s
      else launchRefuse i d (full.foldl (fun s k =>
        evt (stDie k) 0x60 3 (bump (R.CUE.STA_START_REFUSED (stDie k) (stLoc k)) s)) s)
    else launchRearm i d n old (launchRefuse i d s)

/-! ### Firing (R336 to R340) -/

/-- The action of a cue is refused: the cue completes at its firing (R340). -/
def actionRefused (d n : Nat) (s : State) : State := cueCompleted d n (cueRefuse d s)

/-- The action is under way. -/
def actionIssued (d n : Nat) (move : Option Nat) (s : State) : State :=
  setCue d n { cueOf d n s with acting := true, move := move } s

/-- The action of an entry (R336, R340). -/
def cueAct (d n : Nat) (e : List Byte) (late : Bool) (old : CueRun) (s : State) : State :=
  let t := cueTarget e
  let arg := fieldLe e 24 4
  match cueAction e with
  | 1 =>
    if domainReady d 11 s && rd (R.GPIO.PIN_CFG_FUNC d t) s == 2 then actionIssued d n none (cuePin d t (fieldLe e 5 1 % 4) s)
    else actionRefused d n s
  | 2 =>
    if domainReady d 11 s && !isFenced (.step d t) s then
      let r := stepMove d t (toSigned 32 arg) s
      if r.1 then actionIssued d n (some t) r.2 else actionRefused d n r.2
    else actionRefused d n s
  | 3 =>
    if domainReady d 12 s && !isFenced (.loop d t) s then actionIssued d n none (wr (R.LOOP.SP_SP d t) arg s)
    else actionRefused d n s
  | 4 => actionIssued d n none (launch d n late old s)
  | 5 => cueCompleted d n (evt d 0x60 (16 + t) s)
  | _ => cueCompleted d n s

/-- CUE_FIRE (R335 to R340): the trigger of an armed cue has been reached. Slots whose condition names the cue commit before
its action. -/
def execCueFire (d n : Nat) (s : State) : Host.Outcome State Fault Refusal :=
  if 512 ≤ n ∨ !blockUp d 0x60 s ∨ !cueDue d n s then .next s
  else
    let e := cueEntry d n s
    let old := cueOf d n s
    let s1 := if old.late then cueLate d s else s
    let s2 := markWindows d n (commitOnCue d n (setBitOf (R.CUE.CUE_FIRED d (n / 32)) (n % 32) true s1))
    .next (cueAct d n e old.late old (cueAdvance d n s2))

/-! ### Automatic backfeed (R351) -/

/-- Launch cues on the dies of a path that are re-armed. -/
def rearmedCues (p : Nat) (s : State) : List (Nat × Nat) :=
  (List.range s.dies).flatMap (fun d =>
    if (pathMembers p s).any (fun k => stDie k == d) then
      ((armedCues d s).filter (fun n => (cueOf d n s).rearmed.isSome)).map (fun n => (d, n))
    else [])

/-- The conditions of R351. -/
def backfeedReady (p : Nat) (s : State) : Bool :=
  (pathMembers p s).all (fun k => !anyLatch k s && imagerReady k s &&
    (staOf k s).planes.all (fun q => !q.active || planeComplete q.slot k s || leadAtLeast (admitDist s) q.slot k s)) &&
  (rearmedCues p s).all (fun x => match namedFrame x.1 x.2 s with | some i => (slotOf i s).st == 4 | none => true)

/-- PATH_BACKFEED_AUTO (R351): a held path with AUTO leaves HELD. -/
def execPathBackfeedAuto (p : Nat) (s : State) : Host.Outcome State Fault Refusal :=
  if 2 ≤ p ∨ pathState p s ≠ 4 ∨ !flag (R.CUE.PATH_CFG_AUTO 0 p) s ∨ !backfeedReady p s then .next s
  else .next (pathBackfeed p s)

end Sys2Proof.Machine
end

