-- ==== Sys2Proof/Machine/RasterRx.lean ====
section
/-! DEFINITION. The receiving side of the raster link: packets, credits, sessions, placing (R189 to R210). -/

namespace Sys2Proof.Machine

/-- A downstream packet as R190 lays it out. -/
structure RasterPkt where
  type : Nat
  flags : Nat
  psn : Nat
  fsn : Nat
  course : Nat
  ashlar : Nat
  offset : Nat
  len : Nat
  payload : List Byte
  deriving DecidableEq, Repr

def parseRaster (b : List Byte) : RasterPkt :=
  let w := fieldLe b 12 4
  ⟨fieldLe b 0 1, fieldLe b 1 1, fieldLe b 2 2, fieldLe b 4 4, fieldLe b 8 2, fieldLe b 10 2, w % 1048576, w / 1048576,
    (b.drop 16).take (w / 1048576)⟩

def RasterPkt.station (p : RasterPkt) : Nat := p.flags % 16
def RasterPkt.last (p : RasterPkt) : Bool := testBit p.flags 4

/-- The data blocks carry what the header's P says (R189). -/
def framed (b : List Byte) : Bool :=
  b.length % 8 == 0 && decide (24 ≤ b.length) && decide (b.length / 8 = ceilDiv (20 + (parseRaster b).len) 8)

/-- The control block `start` before the data blocks is a packet start that names their number (R185, R189). -/
def startOk (start b : List Byte) : Bool := start == leBytes 1 0x78 ++ leBytes 2 (b.length / 8) ++ [0, 0, 0, 0, 0]

/-- The CRC after the payload matches (R191). -/
def crcMatches (b : List Byte) : Bool :=
  let n := 16 + (parseRaster b).len
  fieldLe b n 4 == crc32 (b.take n)

/-- The station is served by the die (R202). -/
def served (d k : Nat) (s : State) : Bool :=
  k / 2 == d || (flag (R.RLNK.ROUTE_EN d) s && k / 2 == rd (R.RLNK.ROUTE_DIE d) s)

/-- The pool of a packet and the credits it takes (R199, R200); a packet for a station not served, or of a reserved type, has no
pool (log 63). -/
def rasterPool (d : Nat) (p : RasterPkt) (s : State) : Option Nat :=
  if p.type = 3 then some 16
  else if p.type = 1 ∨ p.type = 2 then (if served d p.station s then some p.station else none)
  else none

def rasterCost (p : RasterPkt) : Nat := ceilDiv p.len 2048

def rasterCredit (d : Nat) (p : RasterPkt) (s : State) : Bool :=
  match rasterPool d p s with
  | none => true
  | some i => decide (rasterCost p ≤ (rasterOf d s).granted.getD i 0 - (rasterOf d s).used.getD i 0)

/-- What the receiver makes of a packet in an open session (R193, R194): 0 accepted, 1 framing, 2 CRC, 3 later PSN, 4 earlier
PSN, 5 no credit. -/
def rasterVerdict (d : Nat) (b : List Byte) (s : State) : Nat :=
  let p := parseRaster b
  let e := rd (R.RLNK.PSN_STAT_EXPECT d) s
  if !framed b then 1
  else if !crcMatches b then 2
  else if p.psn ≠ e then (if later 16 p.psn e then 3 else 4)
  else if !rasterCredit d p s then 5 else 0

def addAt (l : List Nat) (i n : Nat) : List Nat := l.set i (l.getD i 0 + n)

/-- A NAK is sent, and with the last one the limit allows replay is exhausted (R195). -/
def rasterNak (d : Nat) (s : State) : State :=
  let s1 := sendNak d s
  if rd (R.RLNK.RETRY_LIMIT d) s1 ≤ (rasterOf d s1).naks then rasterFence d (recordFault d 0x30 1 false s1) else s1

/-- A cause of a NAK (R195): none while one for this PSN is less than 20 µs old. -/
def rasterNakCause (d : Nat) (s : State) : State :=
  match (rasterOf d s).nakAt with
  | some t => if s.now < t + 20000 then s else rasterNak d s
  | none => rasterNak d s

/-! ### Applying (R202 to R209) -/

/-- The plane that an ASHLAR or INDEX packet acts on (R202). -/
def rasterPlane (fsn k : Nat) (s : State) : Option Nat :=
  match slotOfFsn fsn s with
  | some i =>
    let x := slotOf i s
    if 1 ≤ x.st ∧ x.st ≤ 5 ∧ !x.left ∧ testBit (frameMask i s) k ∧ !(planeDesc i k s).carry then some i else none
  | none => none

/-- R192: the fields that a type does not use are 0, and its P is one it allows. -/
def rasterTypeOk (p : RasterPkt) : Bool :=
  match p.type with
  | 1 => decide (p.flags < 32) && decide (1 ≤ p.len) && decide (p.len ≤ 2048)
  | 2 => decide (p.flags < 16) && p.course == 0 && p.offset == 0 && decide (1 ≤ p.len) && decide (p.len ≤ 2048) && p.len % 8 == 0
  | 3 => p.flags == 0 && p.fsn == 0 && p.course == 0 && p.ashlar == 0 && p.offset == 0 && p.len == 256
  | 4 => p.flags == 0 && p.fsn == 0 && p.course == 0 && p.ashlar == 0 && p.offset == 0 && p.len == 0
  | _ => false

/-- The partial ashlar of a station. -/
def partialOf (d k : Nat) (s : State) : Option Partial := (rasterOf d s).partials.find? (fun x => x.station == k)

def dropPartial (d k : Nat) (s : State) : State :=
  let r := rasterOf d s
  setRaster d { r with partials := r.partials.filter (fun x => x.station != k) } s

/-- An accepted packet is dropped (R208). -/
def rasterDrop (d reason : Nat) (p : RasterPkt) (s : State) : State :=
  let s1 := if (reason = 3 ∨ reason = 4) ∧ p.type = 1 then dropPartial d p.station s else s
  let s2 := if flag (R.RLNK.DROP_LOG0_VALID d) s1 then s1
    else putWord (R.RLNK.DROP_LOG2_ASHLAR d).addr (BitVec.ofNat 32 (p.ashlar + 65536 * p.course))
      (putWord (R.RLNK.DROP_LOG1_FSN d).addr (BitVec.ofNat 32 p.fsn)
        (putWord (R.RLNK.DROP_LOG0_VALID d).addr (BitVec.ofNat 32 (reason + 16 * p.station + 256 * p.type + 2147483648)) s1))
  let s3 := evt d 0x30 3 (bump (R.RLNK.COUNT2_DROPS d) s2)
  match rasterPool d p s3 with
  | some i =>
    let r := rasterOf d s3
    regrant d (setRaster d { r with landed := addAt r.landed i (rasterCost p) } s3)
  | none => s3

/-- What an accepted packet writes waits to land. -/
def rasterLand (d addr : Nat) (bytes : List Byte) (p : RasterPkt) (complete : Option Nat) (s : State) : State :=
  let r := rasterOf d s
  setRaster d { r with queue := r.queue ++
    [{ addr := addr, bytes := bytes, pool := (rasterPool d p s).getD 16, credits := rasterCost p, fsn := p.fsn
       station := p.station, complete := complete }] } s

/-- A segment of an ashlar whose entry has been read: it lies at the entry's address plus its offset (R205 to R207). -/
def rasterSegment (d : Nat) (p : RasterPkt) (x : Partial) (s : State) : State :=
  let stop := p.offset + p.len
  if x.len < stop ∨ (p.last = true ∧ stop ≠ x.len) then rasterDrop d 3 p s
  else
    let s1 := dropPartial d p.station s
    let r := rasterOf d s1
    let s2 := if p.last then s1 else setRaster d { r with partials := r.partials ++ [{ x with next := stop }] } s1
    rasterLand d (x.addr + p.offset) (if x.dup then [] else p.payload) p (if p.last then some p.ashlar else none) s2

/-- What the accepted packets that have not landed write at `a`, the latest of them first (R193). -/
def landingByte (d a : Nat) (s : State) : Option Byte :=
  ((rasterOf d s).queue.reverse.find? (fun q => decide (q.addr ≤ a) && decide (a < q.addr + q.bytes.length))).bind
    (fun q => q.bytes[a - q.addr]?)

/-- A read of the link's own die that follows every packet accepted before it (R193, R204). -/
def landedRead (d a n : Nat) (s : State) : MemRes × State :=
  let w := (List.range n).map (fun i => landingByte d (a + i) s)
  if w.all Option.isSome then (.ok (w.map (fun b => b.getD 0)), s)
  else match agentRead agRaster a n s with
    | (.ok e, s1) => (.ok (e.zipIdx.map (fun x => (w.getD x.2 none).getD x.1)), s1)
    | r => r

/-- The ashlar has been delivered before. -/
def everDelivered (d i k n : Nat) (s : State) : Bool :=
  let q := planeOf i k s
  decide (n < q.resCount) || q.resSet.contains n || planeComplete i k s || q.passed.any (fun y => y.n == n) || q.failed == some n ||
    (rasterOf d s).queue.any (fun x => x.station == k && x.fsn == frameFsn i s && x.complete == some n)

/-- An ashlar begins out of the index order (R205): a later one of the plane has begun in the session, and this one has never been
delivered, so that it is no fresh delivery (log 161). -/
def outOfOrder (d i : Nat) (p : RasterPkt) (s : State) : Bool :=
  (rasterOf d s).begun.any (fun x => x.1 == p.station && x.2.1 == p.fsn && decide (p.ashlar < x.2.2)) &&
    !everDelivered d i p.station p.ashlar s

/-- The ashlar that begins, as the latest of its plane. -/
def noteBegun (d : Nat) (p : RasterPkt) (s : State) : State :=
  let r := rasterOf d s
  let same (x : Nat × Nat × Nat) : Bool := x.1 == p.station && x.2.1 == p.fsn
  let n := Nat.max p.ashlar (((r.begun.find? same).map (fun x => x.2.2)).getD 0)
  setRaster d { r with begun := (p.station, p.fsn, n) :: r.begun.filter (fun x => !same x && (slotOfFsn x.2.1 s).isSome) } s

/-- An ASHLAR packet is applied. -/
def applyAshlar (d : Nat) (p : RasterPkt) (s : State) : State :=
  let k := p.station
  match rasterPlane p.fsn k s with
  | none => rasterDrop d 2 p s
  | some i =>
    let q := planeDesc i k s
    match partialOf d k s with
    | some x =>
      if x.fsn = p.fsn ∧ x.ashlar = p.ashlar ∧ x.next = p.offset then rasterSegment d p x s else rasterDrop d 4 p s
    | none =>
      if p.offset ≠ 0 ∨ outOfOrder d i p s = true then rasterDrop d 4 p s
      else
        match landedRead d (q.entry p.ashlar) 8 s with
        | (.ok e, s1) =>
          let a := fieldLe e 0 5
          let n := fieldLe e 5 3
          if n < 16 ∨ 2 ^ 39 ≤ a ∨ memDie a ≠ stDie k ∨ fittedBytes (stDie k) s1 < a % 0x1000000000 + n then rasterDrop d 3 p s1
          else
            let dup := planeComplete i k s1 || (planeOf i k s1).passed.any (fun y => y.n == p.ashlar)
            rasterSegment d p ⟨k, p.fsn, p.ashlar, p.course, a, n, 0, dup⟩ (noteBegun d p s1)
        | (_, s1) => rasterDrop d 3 p s1

/-- An INDEX packet is applied (R204). -/
def applyIndex (d : Nat) (p : RasterPkt) (s : State) : State :=
  match rasterPlane p.fsn p.station s with
  | none => rasterDrop d 2 p s
  | some i =>
    if 65536 < p.ashlar + p.len / 8 then rasterDrop d 3 p s
    else rasterLand d ((planeDesc i p.station s).entry p.ashlar) p.payload p none s

/-- A DESCRIPTOR packet is submitted (R209). With no slot to take, the slot that the rejection names is open. -/
def applyDescriptor (d : Nat) (p : RasterPkt) (s : State) : State :=
  let s1 := match openSlot s with
    | some i => submitSlot i (putBytes (slotAddr i) p.payload s)
    | none => let f := drawFree s; submitReject (f.1 % 64) 1 f.2
  rasterLand d 0 [] p none (evt d 0x30 6 s1)

/-- An accepted packet is applied, or dropped with the first reason that holds (R208). -/
def applyRaster (d : Nat) (p : RasterPkt) (s : State) : State :=
  if !rasterTypeOk p then rasterDrop d 5 p s
  else if p.type = 3 then (if flag (R.RLNK.CFG_DESC_EN d) s then applyDescriptor d p s else rasterDrop d 6 p s)
  else if !served d p.station s then rasterDrop d 1 p s
  else if p.type = 1 then applyAshlar d p s else applyIndex d p s

/-! ### Sessions (R198) -/

/-- The session that a RESYNC opens begins once everything accepted has landed. -/
def openRaster (d : Nat) (s : State) : State :=
  let r := rasterOf d s
  match r.resync with
  | none => s
  | some psn =>
    if !r.queue.isEmpty then s
    else
      let r1 : Raster := { granted := (List.range 17).map (fun i => poolSize d i s), partials := r.partials, creditAt := s.now }
      let s1 := wr (R.RLNK.PSN_STAT_SESSION d) 1 (wr (R.RLNK.PSN_STAT_EXPECT d) psn (setRaster d r1 s))
      sendCredit d 1 (sendAck d 0 (psn + 65535) (evt d 0x30 2 (bump (R.RLNK.COUNT2_RESYNCS d) s1)))

/-- The receiver takes what arrives: RLNK is enabled, not fenced, its bond up. -/
def rasterHears (d : Nat) (s : State) : Bool := rasterUsable d s && rd (R.RLNK.BOND_STAT_STATE d) s == 2

/-- A RESYNC that passes its CRC and keeps R192 (log 160). -/
def isResync (b : List Byte) : Bool :=
  framed b && crcMatches b && (parseRaster b).type == 4 && rasterTypeOk (parseRaster b)

/-- A packet that passes every check of R193 is acknowledged and applied (R196). -/
def rasterAccept (d : Nat) (p : RasterPkt) (s : State) : State :=
  let r := rasterOf d s
  let used := match rasterPool d p s with | some i => addAt r.used i (rasterCost p) | none => r.used
  let s1 := bump (R.RLNK.PKT_CNT_COUNT d) (wr (R.RLNK.PSN_STAT_EXPECT d) (p.psn + 1)
    (setRaster d { r with used := used, nakAt := none, naks := 0 } s))
  applyRaster d p (sendAck d 0 p.psn s1)

/-- A packet of an open session (R194). -/
def rasterPacket (d : Nat) (b : List Byte) (s : State) : State :=
  match rasterVerdict d b s with
  | 0 => rasterAccept d (parseRaster b) s
  | 1 => rasterNakCause d (bump (R.RLNK.ERR_CNT1_FRAMING d) s)
  | 2 => rasterNakCause d (recordFault d 0x30 0 false (bump (R.RLNK.ERR_CNT0_CRC d) s))
  | 3 => rasterNakCause d (bump (R.RLNK.ERR_CNT0_GAP d) s)
  | 4 => sendAck d 0 (rd (R.RLNK.PSN_STAT_EXPECT d) s + 65535) s
  | _ => rasterNakCause d (bump (R.RLNK.ERR_CNT1_CREDIT d) s)

/-- A packet that is not a RESYNC arrives: without a session, or while one is being opened, it is discarded (R198). -/
def rasterArrival (d : Nat) (b : List Byte) (s : State) : State :=
  if !rasterHears d s || !rasterOpen d s || (rasterOf d s).resync.isSome then s else rasterPacket d b s

/-- RL_ASHLAR (R207): an ASHLAR packet arrives; `pkt` is the bytes of its data blocks, whose number its packet start names. -/
def execRlAshlar (d : Nat) (pkt : List Byte) (s : State) : Host.Outcome State Fault Refusal :=
  if (parseRaster pkt).type = 1 then .next (rasterArrival d pkt s) else .next s

/-- RL_INDEX (R204). -/
def execRlIndex (d : Nat) (pkt : List Byte) (s : State) : Host.Outcome State Fault Refusal :=
  if (parseRaster pkt).type = 2 then .next (rasterArrival d pkt s) else .next s

/-- RL_DESCRIPTOR (R209). -/
def execRlDescriptor (d : Nat) (pkt : List Byte) (s : State) : Host.Outcome State Fault Refusal :=
  if (parseRaster pkt).type = 3 then .next (rasterArrival d pkt s) else .next s

/-- RL_RESYNC (R198): a RESYNC that passes its CRC opens a session, whatever its PSN. -/
def execRlResync (d : Nat) (pkt : List Byte) (s : State) : Host.Outcome State Fault Refusal :=
  if rasterHears d s && isResync pkt then
    .next (openRaster d (setRaster d { rasterOf d s with resync := some (parseRaster pkt).psn } s))
  else .next s

/-- A framing error that the data blocks do not show: data outside a packet, a packet cut short, a control block of another type
(R185, R189). -/
def rasterUnframed (d : Nat) (s : State) : State :=
  if !rasterHears d s || !rasterOpen d s || (rasterOf d s).resync.isSome then s
  else rasterNakCause d (bump (R.RLNK.ERR_CNT1_FRAMING d) s)

/-- RL_BAD_PACKET (R185, R189, R194, R208): the bytes `blocks` of a control block and of the data blocks after it, which are no
sound packet of a type that R192 defines. A sound one of a reserved type is accepted and dropped. -/
def execRlBadPacket (d : Nat) (blocks : List Byte) (s : State) : Host.Outcome State Fault Refusal :=
  let start := blocks.take 8
  let pkt := blocks.drop 8
  if start == fillerBlock.bytes && pkt.isEmpty then .next s
  else if !startOk start pkt then .next (rasterUnframed d s)
  else if isResync pkt || (rasterVerdict d pkt s == 0 && [1, 2, 3].contains (parseRaster pkt).type) then .next s
  else .next (rasterArrival d pkt s)

/-- RL_PACKET_LANDED (R201, R207): the oldest accepted packet lands. -/
def execRlPacketLanded (d : Nat) (s : State) : Host.Outcome State Fault Refusal :=
  match (rasterOf d s).queue with
  | [] => .next s
  | q :: rest =>
    let s1 := setRaster d { rasterOf d s with queue := rest } s
    let s2 := if q.bytes.isEmpty then s1 else agentPut agRaster q.addr q.bytes s1
    let s3 := match q.complete with | some n => ashlarDelivered q.station q.fsn n s2 | none => s2
    let r := rasterOf d s3
    let s4 := setRaster d { r with landed := addAt r.landed q.pool q.credits } s3
    .next (openRaster d (if rasterOpen d s4 then regrant d s4 else s4))

/-- RL_NAK_TIMER (R195). -/
def execRlNakTimer (d : Nat) (s : State) : Host.Outcome State Fault Refusal :=
  match (rasterOf d s).nakAt with
  | some t => if rasterHears d s && rasterOpen d s && decide (t + 20000 ≤ s.now) then .next (rasterNak d s) else .next s
  | none => .next s

/-- RL_INIT_ACK_TIMER (R198). -/
def execRlInitAckTimer (d : Nat) (s : State) : Host.Outcome State Fault Refusal :=
  let r := rasterOf d s
  let due := match r.initAt with | some t => decide (t + 10000 ≤ s.now) | none => true
  if rasterHears d s && !rasterOpen d s && due then .next (sendAck d 1 0 (setRaster d { r with initAt := some s.now } s)) else .next s

/-- RL_CREDIT_TIMER (R201). -/
def execRlCreditTimer (d : Nat) (s : State) : Host.Outcome State Fault Refusal :=
  if rasterHears d s && rasterOpen d s && decide ((rasterOf d s).creditAt + 100000 ≤ s.now) then .next (sendCredit d 0 s) else .next s

/-! ### Configuration (R201 to R203) -/

/-- A write of ROUTE: one that names the die itself or an absent die is ignored; a change closes the session. -/
def routeWrite (d w : Nat) (s : State) : State :=
  let en := b2n (testBit w 0)
  let die := bitsOf w 4 3
  if die = d ∨ s.dies ≤ die then evt d 0x30 4 s
  else
    let changed := en != rd (R.RLNK.ROUTE_EN d) s || die != rd (R.RLNK.ROUTE_DIE d) s
    let s1 := wr (R.RLNK.ROUTE_EN d) en (wr (R.RLNK.ROUTE_DIE d) die s)
    if changed && rasterOpen d s then closeRaster d s1 else s1

/-- A write of a CRED_ALLOC register that would pass 512 credits in all is undone (R201); `old` is the state before it. -/
def creditCheck (d : Nat) (old s : State) : State :=
  let total := rd (R.RLNK.CRED_ALLOC0_L0 d) s + rd (R.RLNK.CRED_ALLOC0_L1 d) s + rd (R.RLNK.CRED_ALLOC1_X0 d) s +
    rd (R.RLNK.CRED_ALLOC1_X1 d) s + rd (R.RLNK.CRED_ALLOC2_CTL d) s
  if 512 < total then evt d 0x30 4 old else if rasterOpen d s then regrant d s else s

/-- RLNK has been enabled or disabled, or its domain has gone on or off: it opens no session (R198). -/
def rasterEnable (d : Nat) (s : State) : State :=
  if rasterUsable d s then (if rd (R.RLNK.BOND_STAT_STATE d) s = 0 ∨ rd (R.RLNK.BOND_STAT_STATE d) s = 3 then rasterForm d (closeRaster d s) else s)
  else rasterForm d (closeRaster d s)

/-- The unfence request of the bond (R212, R493). -/
def rasterUnfence (d : Nat) (s : State) : State :=
  let s1 := unfence d 0x30 (.bond d) s
  if s.fenced.contains (.bond d) ∧ !s1.fenced.contains (.bond d) then rasterForm d (closeRaster d s1) else s1

/-- The packet whose bytes in the receive buffer are damaged, the oldest that has not landed (log 162), is not written: its ashlar
does not become complete. -/
def dropDamaged (d : Nat) (s : State) : State :=
  let r := rasterOf d s
  match r.queue with
  | [] => s
  | q :: rest => setRaster d { r with
      queue := { q with bytes := [], complete := none } :: rest.map (fun x =>
        if x.station = q.station ∧ x.fsn = q.fsn then { x with complete := none } else x)
      partials := r.partials.filter (fun x => !(x.station == q.station && x.fsn == q.fsn)) } s

/-- A fault of the RLNK page (R212). -/
def rasterFault (d src : Nat) (forced : Bool) (s : State) : State :=
  let s1 := recordFault d 0x30 src forced s
  let s2 := if src = 3 ∧ !forced then dropDamaged d s1 else s1
  if 1 ≤ src ∧ src ≤ 3 then rasterFence d s2 else s2

end Sys2Proof.Machine
end

