-- ==== Sys2Proof/Machine/Fence.lean ====
section
/-! DEFINITION. Fencing and unfencing of units and pages, the safe state of a die, safe stop and the degrade policy, fenced
mortar links, ERR_N (R16, R392, R482 to R497). -/

namespace Sys2Proof.Machine

/-! ### Units (R483, R492 to R494) -/

/-- The units that a page governs (R483). -/
def pageUnits (d p : Nat) : List UnitId :=
  match Layout.pageKind p with
  | some (.codecP, _) => (List.range 24).map (fun n => .decode d n) ++ (List.range 8).map (fun n => .comp d n)
  | some (.laneP, n) => [.lane d n]
  | some (.rlnkP, _) => [.bond d]
  | some (.elnkP, _) => [.eth 0, .eth 1]
  | some (.staP, l) | some (.stimP, l) | some (.shlP, l) | some (.sprotP, l) => [.station (2 * d + l)]
  | some (.cueP, _) => (List.range 512).map (fun n => .cue d n)
  | some (.stepP, _) => (List.range 8).map (fun n => .step d n)
  | some (.focP, _) => (List.range 4).map (fun n => .foc d n)
  | some (.busP, _) => (List.range 4).map (fun b => .bus d b)
  | some (.loopP, _) => (List.range 160).map (fun i => .loop d i)
  | some (.dmaP, _) => (List.range 8).map (fun n => .dma d n)
  | _ => []

/-- A motor bus is fenced: its bridges are off and its brake is engaged (R392). -/
def busFence (d b : Nat) (s : State) : State := busBrake d b (busChannelsOff d b (addFence (.bus d b) s))

/-- A unit is fenced, with the effects of R492 on what it is doing. -/
def fenceUnit (u : UnitId) (s : State) : State :=
  if s.fenced.contains u then s
  else
    match u with
    | .station k => stationFence k s
    | .lane d n => laneFence d n s
    | .bond d => rasterFence d s
    | .decode d n => decodeFence d n s
    | .comp d n => compFenced d n (addFence u s)
    | .dma d n => dmaFenced d n (addFence u s)
    | .step d n => stepFence d n (addFence u s)
    | .foc d n => focOff d n (addFence u s)
    | .bus d b => busFence d b s
    | .loop d i => loopFence d i s
    | .cue d n => cueFence d n s
    | .eth p => ethFence p s
    | .die _ => addFence u s

def fenceUnits (us : List UnitId) (s : State) : State := us.foldl (fun s u => fenceUnit u s) s

/-- PAGE_CTL.FENCE_REQ (R494). -/
def fencePage (d p : Nat) (s : State) : State := fenceUnits (pageUnits d p) s

/-- PAGE_CTL.UNFENCE of a station (R493): pending until the station's frame boundary. -/
def stationUnfence (k p : Nat) (s : State) : State :=
  let d := stDie k
  let l := stLoc k
  if !s.fenced.contains (.station k) then s
  else if [staPage l, stimPage l, shlPage l, sprotPage l].any (fun q => faultsHold d q s) then unfRefuse d p s
  else { s with unfPending := if s.unfPending.contains k then s.unfPending else k :: s.unfPending }

/-- BUS_CTL.UNFENCE (R392, R493). -/
def busUnfence (d b : Nat) (s : State) : State :=
  if !s.fenced.contains (.bus d b) then s
  else if faultsHold d 0x6A s = true ∨
      rd (R.BUS.VB_CFG_OV_REGEN d b) s ≤ rd (R.BUS.BUS_STAT_V d b) s + rd (R.BUS.UVH_HYST d b) s then unfRefuse d 0x6A s
  else busBrake d b (wr (R.BUS.BUS_STAT_TRIPPED d b) 0 (dropFence (.bus d b) s))

/-- PAGE_CTL.UNFENCE of ELNK: an enabled port's rings restart at index 0 (R493). -/
def ethUnfence (p : Nat) (s : State) : State :=
  let s1 := unfence 0 0x31 (.eth p) s
  if s.fenced.contains (.eth p) && !s1.fenced.contains (.eth p) then ethEnable p false s1 else s1

/-- The unfence command of one unit of a page (R493). -/
def unfenceUnit (d p : Nat) (u : UnitId) (s : State) : State :=
  match u with
  | .station k => stationUnfence k p s
  | .lane d n => laneUnfence d n s
  | .bond d => rasterUnfence d s
  | .decode d n => codecUnfence d (0x80000000 + n) s
  | .comp d n => codecUnfence d (0x80000000 + 24 + n) s
  | .bus d b => busUnfence d b s
  | .loop d i => loopUnfence d i s
  | .cue d n => cueUnfence d n s
  | .eth p => ethUnfence p s
  | u => unfence d p u s

/-- PAGE_CTL.UNFENCE (R493). -/
def unfencePage (d p : Nat) (s : State) : State :=
  ((pageUnits d p).filter (fun u => s.fenced.contains u)).foldl (fun s u => unfenceUnit d p u s) s

/-- A frame that prints on a station is IMAGING. -/
def printsNow (k : Nat) (s : State) : Bool :=
  (List.range 64).any (fun i => (slotOf i s).st == 5 && (frameStations i s).contains k)

/-- STATION_UNFENCE_APPLY (R493): a pending unfence takes effect at the station's frame boundary; with no head
lane unfenced, source 2 fences it again (R271). -/
def execStationUnfenceApply (k : Nat) (s : State) : Host.Outcome State Fault Refusal :=
  if s.unfPending.contains k && !printsNow k s then
    let s1 := dropFence (.station k) { s with unfPending := s.unfPending.filter (· != k) }
    .next (if (headLanes k).all (fun m => laneFenced (stDie k) m s1) then stationFault k (shlPage (stLoc k)) 2 false s1
      else lenUpdate k (timingStart k (headForm k s1)))
  else .next s

/-! ### The safe state of a die (R495, R496) -/

/-- A station of a die in safe state. -/
def stationSafe (k : Nat) (s : State) : State :=
  let s1 := setSta k { staOf k s with fenceAt := none } { s with unfPending := s.unfPending.filter (· != k) }
  headForm k (closeSession k (lenUpdate k (timingOff k s1)))

/-- Heaters and HV outputs go off. -/
def pioSafe (d : Nat) (s : State) : State :=
  let s1 := (List.range 4).foldl (fun s h =>
    setHeater d h { heaterOf d h s with next := 0, high := none } (wr (R.PIO.HTR_STAT_DUTY d h) 0 s)) s
  (List.range 8).foldl (fun s n => wr (R.PIO.HV_VAL_DAC d n) 0 s) s1

/-- Every S-class output of a die goes to its safe level, and its cues are disarmed (R495). -/
def dieSafe (d : Nat) (s : State) : State :=
  let s1 := stationSafe (2 * d + 1) (stationSafe (2 * d) s)
  let s2 := (armedCues d s1).foldl (fun s n => cueDisarm d n s) s1
  let s3 := (enabledLoops d s2).foldl (fun s i => loopDisable d i s) s2
  let s4 := (List.range 4).foldl (fun s n => focOff d n s) s3
  let s5 := (List.range 8).foldl (fun s n => stepFence d n s) s4
  let s6 := (List.range 4).foldl (fun s b => busBrake d b s) (pioSafe d s5)
  (List.range 12).foldl (fun s n => if laneSt d n s = 6 then s else laneOff d n s) s6

/-- The mortar traffic of a fenced die. -/
def msgOfDie (d : Nat) : Msg → Bool
  | .prepare e _ _ _ | .answer e _ | .commit e _ | .abort e _ | .report e | .refresh e _ _ _ | .cffCancel e _ => e == d
  | .plane _ k => stDie k == d
  | .cff e k _ _ _ _ _ _ _ => e == d || stDie k == d
  | .stopCause _ _ => false

/-- The package goes to safe stop (R496). -/
def safeStopNow (s : State) : State :=
  if s.safeStop then s
  else
    let s1 := evt 0 0 2 { spoilAll 10 s with safeStop := true }
    let s2 := (List.range s.dies).foldl (fun s d => dieSafe d (rejectTargets d 6 (fun _ => true) s)) s1
    { s2 with msgs := [] }

/-- The degrade policy for die `d` (R496). -/
def degrade (d : Nat) (s : State) : State :=
  if d ≠ 0 ∧ testBit (rd (R.DIE.DEGRADE_POLICY_MASK 0) s) d then s else safeStopNow s

/-- Die `d` goes to safe state and is fenced from the package; a path whose master it holds is jammed (R495, R496). -/
def dieIsolate (d : Nat) (s : State) : State :=
  let s1 := addFence (.die d) (spoilDie d 10 s)
  let s2 := dieSafe d { s1 with msgs := s1.msgs.filter (fun m => !msgOfDie d m) }
  let s3 := [0, 1].foldl (fun s p => if rd (R.CUE.PATH_CFG_MDIE 0 p) s = d then pathJam p s else s) s2
  xtxnDone (evt 0 0 0 s3)

/-- The reaction to a fault of class F of a die (R495); a die already fenced has no further effect (R488). -/
def dieFatal (d : Nat) (s : State) : State :=
  if dieFenced d s then s else degrade d (recordFault 0 0 d false (dieIsolate d s))

/-- A fault of class F of a page is recorded and takes its die down. -/
def fatalFault (d p src : Nat) (forced : Bool) (s : State) : State := dieFatal d (recordFault d p src forced s)

/-! ### Mortar links (R15, R16) -/

/-- Every link of the way from D0 to die `d` works, in rising or in falling die order. -/
def reachable (d : Nat) (s : State) : Bool :=
  (List.range s.dies).all (fun i => decide (d ≤ i) || !s.linksFenced.contains i) ||
    (List.range s.dies).all (fun i => decide (i < d) || !s.linksFenced.contains i)

/-- A die that has become unreachable (R16): it counts as a class F fault of that die (R497), whose page, source and ESN the
spec does not give (log 75). -/
def dieLost (d : Nat) (s : State) : State :=
  if dieFenced d s then s
  else
    let f := drawFree s
    let g := drawFree f.2
    dieFatal d (errPulse d (f.1 % 256) (f.1 / 256 % 32) 3 g.1 false g.2)

/-- MORTAR_LINK_FENCED (R16): link `d` fails; traffic takes the other way round, and a die that cannot be reached is fenced. -/
def execMortarLinkFenced (d : Nat) (s : State) : Host.Outcome State Fault Refusal :=
  if s.dies ≤ d ∨ s.linksFenced.contains d = true then .next s
  else
    let s1 := { s with linksFenced := d :: s.linksFenced }
    .next ((List.range s1.dies).foldl (fun s m => if reachable m s then s else dieLost m s) s1)

/-! ### ERR_N (R497) -/

/-- ERR_PULSE_END (R497). -/
def execErrPulseEnd (s : State) : Host.Outcome State Fault Refusal :=
  match s.errPulseEnd with
  | some t => if t ≤ s.now then .next (wr (R.CTRL.ERR_STAT_PULSE 0) 0 { s with errPulseEnd := none }) else .next s
  | none => .next s

/-! ### Training of the memory (R455) -/

/-- MEM_TRAIN_DONE (R455): training succeeds, or fails with MEMC source 2. -/
def execMemTrainDone (d : Nat) (ok : Bool) (s : State) : Host.Outcome State Fault Refusal :=
  if !domainReady d 7 s || rd (R.MEMC.MSTAT_STATE d) s != 1 then .next s
  else if ok then .next (memTrained d s)
  else .next (fatalFault d 0x38 2 false (evt d 0x38 1 (wr (R.MEMC.MSTAT_STATE d) 4 s)))

end Sys2Proof.Machine
end

