-- ==== Sys2Proof/Machine/Power.lean ====
section
/-! DEFINITION. The reset of a block's registers and internal state, and the power domains (R33 to R35, R501 to R504, R524). -/

namespace Sys2Proof.Machine

/-! ### Registers that the straps reset (R35, R154, R357) -/

/-- R35: how many stations are enabled at reset. -/
def profStations (prof : Nat) : Nat :=
  match prof with
  | 1 => 4 | 2 => 8 | 3 => 6 | 4 => 12 | 5 => 16 | 6 => 1 | _ => 0

/-- The word of PAGE_CTL at reset. -/
def pageCtlReset (d p : Nat) (s : State) : Nat :=
  match Layout.pageKind p with
  | some (.staP, l) | some (.stimP, l) | some (.shlP, l) | some (.sprotP, l) =>
    if 2 * d + l < profStations s.straps.prof then 9 else 0
  | _ => if alwaysOnPage p then 9 else 0

def putPageCtl (d p : Nat) (s : State) : State :=
  putWord (R.HDR.PAGE_CTL_EN d p).addr (BitVec.ofNat 32 (pageCtlReset d p s)) s

/-- The registers of a block whose reset values the straps decide. -/
def strapRegs (d p : Nat) (s : State) : State :=
  match Layout.pageKind p with
  | some (.codecP, _) => wr (R.CODEC.CFG_CARRY_DEF d) (b2n s.straps.legacy) s
  | some (.cueP, _) =>
    if d = 0 then
      let m := b2n (s.straps.prof == 1 || s.straps.prof == 2)
      wr (R.CUE.PATH_CFG_MODE 0 1) m (wr (R.CUE.PATH_CFG_MODE 0 0) m s)
    else s
  | _ => s

/-! ### What a block is doing ends -/

/-- Register words and table words from `lo` up to `hi` return to their reset values. -/
def dropWords (lo hi : Nat) (s : State) : State :=
  { s with regs := mapDrop (fun a => decide (lo ≤ a) && decide (a < hi)) s.regs }

/-- Entries of a table whose keys lie from `lo` up to `hi`. -/
def dropKeys {α : Type} (lo n : Nat) (l : List (Nat × α)) : List (Nat × α) :=
  mapDrop (fun i => decide (lo ≤ i) && decide (i < lo + n)) l

/-- What a block stops when its domain goes off or its registers are reset. -/
def blockQuiet (d p : Nat) (s : State) : State :=
  match Layout.pageKind p with
  | some (.staP, l) => headForm (2 * d + l) (closeSession (2 * d + l) (timingEnd (2 * d + l) s))
  | some (.stimP, l) => timingEnd (2 * d + l) s
  | some (.shlP, l) => headForm (2 * d + l) (closeSession (2 * d + l) s)
  | some (.sprotP, l) => lenUpdate (2 * d + l) s
  | some (.laneP, n) => if laneSt d n s = 6 then s else laneOff d n s
  | some (.rlnkP, _) => rasterForm d s
  | some (.elnkP, _) => setEth 1 { ethOf 1 s with run := none } (setEth 0 { ethOf 0 s with run := none } s)
  | some (.focP, _) => (List.range 4).foldl (fun s n => focOff d n s) s
  | some (.stepP, _) => (List.range 8).foldl (fun s n => stepFence d n s) s
  | some (.pioP, _) => pioSafe d s
  | _ => s

/-- PAGE_CTL.EN of a station, a lane or the raster link has changed (R170, R198, R247, R278). -/
def blockEnable (d p : Nat) (s : State) : State :=
  match Layout.pageKind p with
  | some (.staP, l) =>
    if stationOn (2 * d + l) s then timingStart (2 * d + l) (headForm (2 * d + l) s)
    else headForm (2 * d + l) (closeSession (2 * d + l) (timingEnd (2 * d + l) s))
  | some (.laneP, n) => laneEnable d n s
  | some (.rlnkP, _) => rasterEnable d s
  | _ => s

/-- What a block that is powered and released begins; a station, a lane or the raster link only while it is enabled. -/
def blockWakes (d p : Nat) (s : State) : State :=
  if !blockUp d p s then s
  else match Layout.pageKind p with
    | some (.staP, l) | some (.stimP, l) => timingStart (2 * d + l) (headForm (2 * d + l) s)
    | some (.shlP, l) => headForm (2 * d + l) s
    | some (.sprotP, l) => lenUpdate (2 * d + l) s
    | some (.laneP, n) => laneEnable d n s
    | some (.rlnkP, _) => rasterEnable d s
    | some (.elnkP, _) => ethEnable 1 false (ethEnable 0 false s)
    | _ => s

/-! ### A block's registers and internal state take their reset values (R34, R503) -/

/-- The part of a station's state that a page of it holds takes its reset value. -/
def stationClear (k : Nat) (kind : PageKind) (s : State) : State :=
  let st := staOf k s
  match kind with
  | .staP => setImager k {} (setSta k { residue := st.residue, edges := st.edges, duty := st.duty, buckets := st.buckets
                                        bucketAt := st.bucketAt, inputAt := st.inputAt, softWant := st.softWant } s)
  | .stimP => setSta k { st with beam := {}, placed := [], found := [], strobeTag := none, owed := 0, lastEdge := none
                                 firedTo := none, holdAcc := 0, holdCount := 0 } s
  | .shlP => setBond (16 + k) {} (setHead k {} (setSta k { st with edges := [] } s))
  | .sprotP => setSta k { st with gateAt := none, fenceAt := none, gated := false, duty := [], buckets := [], inputAt := []
                                  softWant := false, dutyBad := false } s
  | _ => s

/-- The wear residues of station `k` are lost with its domain or its die's reset (R317). -/
def residueLost (k : Nat) (s : State) : State := setSta k { staOf k s with residue := [] } s

/-- The frame queue of D0 is emptied. -/
def frameClear (s : State) : State :=
  let s1 := (List.range 64).foldl (fun s i =>
    if (slotOf i s).st = 0 then s else (frameStations i s).foldl (fun s k => spoilStation i k s) s) s
  dropWords 0x700000 0x800000 { s1 with
    slots := [], planes := [], decls := [], retained := [], freed := [], freedWait := [], spoilLog := [] }

/-- The planes of a member die are dropped. -/
def planesClear (d : Nat) (s : State) : State :=
  { s with planes := mapDrop (fun i => decide (stDie (i % 16) = d)) s.planes, decls := s.decls.filter (fun x => stDie x.station != d) }

/-- What lies behind a page's registers takes its reset value; an input's level, and what the AON domain holds for the buses
(R390, R392), stand. -/
def blockClear (d p : Nat) (s : State) : State :=
  match Layout.pageKind p with
  | some (.ctrlP, _) => if d = 0 then { s with xtxn := {} } else s
  | some (.txnP, i) => setTxn d i {} s
  | some (.seqP, _) => { s with rails := [] }
  | some (.thermP, _) => { s with thermals := dropKeys d 1 s.thermals }
  | some (.nvsP, _) => if d = 0 then { s with logBusy := none, logWait := none } else s
  | some (.rstP, _) => { s with dogs := dropKeys d 1 (if d = 0 then dropKeys 8 1 s.dogs else s.dogs) }
  | some (.timeP, _) =>
    let s1 := setClock d { c0 := s.now } { s with loopNext := dropKeys d 1 s.loopNext }
    if d = 0 then { s1 with master := {} } else s1
  | some (.frameP, _) => if d = 0 then frameClear s else planesClear d s
  | some (.codecP, _) => dropWords (0x1000000 * d + 0x300000) (0x1000000 * d + 0x400000)
      (setImager (2 * d) {} (setImager (2 * d + 1) {} { s with
        dlanes := dropKeys (32 * d) 32 s.dlanes, jobs := dropKeys (8 * d) 8 s.jobs, jobNext := dropKeys (2 * d) 2 s.jobNext
        jobEnded := s.jobEnded.filter (fun j => j / 256 != d) }))
  | some (.laneP, n) => { s with lanes := dropKeys (16 * d + n) 1 s.lanes }
  | some (.rlnkP, _) => { s with rasters := dropKeys d 1 s.rasters, bonds := dropKeys d 1 s.bonds }
  | some (.elnkP, _) => { s with eths := [], syncAt := none }
  | some (.memcP, _) => { s with scrubs := dropKeys d 1 s.scrubs }
  | some (.dmaP, _) => { s with dmas := dropKeys (8 * d) 8 s.dmas }
  | some (.staP, l) => showTiming (2 * d + l)
      (dropWords (staWin (2 * d + l)) (staWin (2 * d + l) + 0x100000) (stationClear (2 * d + l) .staP s))
  | some (.stimP, l) => stationClear (2 * d + l) .stimP s
  | some (.shlP, l) => stationClear (2 * d + l) .shlP s
  | some (.sprotP, l) => stationClear (2 * d + l) .sprotP s
  | some (.cueP, _) =>
    let s1 := dropWords (0x1000000 * d + 0x400000) (0x1000000 * d + 0x500000)
      { s with counters := dropKeys (8 * d) 8 s.counters, cues := dropKeys (512 * d) 512 s.cues
               startLists := dropKeys (2 * d) 2 s.startLists }
    if d = 0 then { s1 with paths := [], purges := [], stopAtRun := [] } else s1
  | some (.stepP, _) => { s with steps := dropKeys (8 * d) 8 s.steps }
  | some (.focP, _) => { s with focs := dropKeys (4 * d) 4 s.focs }
  | some (.loopP, _) => dropWords (0x1000000 * d + 0x500000) (0x1000000 * d + 0x700000)
      { s with loops := dropKeys (160 * d) 160 s.loops, cffs := dropKeys (8 * d) 8 s.cffs }
  | some (.pioP, _) =>
    { s with adcs := dropKeys (16 * d) 16 s.adcs, heaters := dropKeys (4 * d) 4 s.heaters, zeros := dropKeys d 1 s.zeros
             hvOver := dropKeys (8 * d) 8 s.hvOver, marks := dropKeys (4 * d) 4 s.marks, calJobs := dropKeys d 1 s.calJobs
             ages := dropKeys (2 * d) 2 s.ages, aregOut := dropKeys (2 * d) 2 s.aregOut }
  | some (.gpioP, _) => setGpio d { seen := (gpioOf d s).seen } s
  | _ => s

/-- The register words that a block's reset leaves as they are: what pins, fuses and the AON domain show. -/
def keptWords (d p : Nat) : List Nat :=
  let offs : List Nat := match Layout.pageKind p with
    | some (.rstP, _) => 0x74 :: (List.range 8).map (fun i => 0x80 + 4 * i)
    | some (.clkP, _) => [0x40, 0x44, 0x48, 0x4C, 0x50]
    | some (.busP, _) => (List.range 4).flatMap (fun b => [0x100 + 0x40 * b, 0x104 + 0x40 * b])
    | _ => []
  offs.map (fun o => Layout.addr d p o)

/-- The bits of fences, latched inputs and trips that a block shows beside its registers. -/
def fenceViews (d p : Nat) (s0 s : State) : State :=
  match Layout.pageKind p with
  | some (.codecP, _) => (List.range 24).foldl (fun s n => if s.fenced.contains (.decode d n) then wr (roleLoc d n) 3 s else s) s
  | some (.cueP, _) => (List.range 512).foldl (fun s n =>
      if s.fenced.contains (.cue d n) then setBitOf (R.CUE.CUE_FENCED d (n / 32)) (n % 32) true s else s) s
  | some (.laneP, n) => if s.fenced.contains (.lane d n) then setLaneSt d n 6 s else s
  | some (.sprotP, l) => wr (R.SPROT.GATE_STAT_PAPER_IN d l) (rd (R.SPROT.GATE_STAT_PAPER_IN d l) s0)
      (wr (R.SPROT.GATE_STAT_JAM_IN d l) (rd (R.SPROT.GATE_STAT_JAM_IN d l) s0) s)
  | some (.busP, _) => (List.range 4).foldl (fun s b =>
      wr (R.BUS.BUS_STAT_TRIPPED d b) (rd (R.BUS.BUS_STAT_TRIPPED d b) s0) (wr (R.BUS.BUS_STAT_V d b) (rd (R.BUS.BUS_STAT_V d b) s0) s)) s
  | some (.seqP, _) => (List.range 24).foldl (fun s n => wr (R.SEQ.RSTAT_PG 0 n) (rd (R.SEQ.RSTAT_PG 0 n) s0) s) s
  | some (.loopP, _) => ((List.range 160).filter (fun i => s.fenced.contains (.loop d i))).foldl (fun s i => setMode d i {} s) s
  | _ => s

/-- The duty counters follow a line length and an array that a reset of the STA page has changed (R293). -/
def resized (d p : Nat) (s : State) : State :=
  match Layout.pageKind p with
  | some (.staP, l) => dutyResize (2 * d + l) s
  | _ => s

/-- The registers of a page from 0x040 and its block's internal state take their reset values; fences stand (log 78). -/
def blockReset (d p : Nat) (s : State) : State :=
  let kept := (keptWords d p).map (fun a => (a, word a s))
  let s1 := dropWords (Layout.addr d p 0x40) (Layout.addr d p 0x1000) (blockClear d p s)
  resized d p (fenceViews d p s (strapRegs d p (kept.foldl (fun s e => putWord e.1 e.2 s) s1)))

/-- PAGE_CTL.SRST (R34): the block ends what it is doing and its registers and internal state take their reset values. -/
def pageSrst (d p : Nat) (s : State) : State :=
  let s1 := blockReset d p (blockQuiet d p s)
  blockWakes d p (if p = 0x38 then { s1 with memTrained := s1.memTrained.filter (· != d) } else s1)

/-! ### Power domains (R501 to R504) -/

/-- R501: the prerequisites of a domain. -/
def domNeeds (d dom : Nat) : List Nat :=
  match dom with
  | 0 => []
  | 3 => [7] | 4 => [9] | 5 => [10]
  | 6 => if d = 0 then [0] else [3]
  | 8 | 13 => [7]
  | 9 | 10 => [8, 11]
  | 12 => [11]
  | _ => [0]

/-- The pages of a domain. -/
def domPages (d dom : Nat) (s : State) : List Nat :=
  (List.range 256).filter (fun p => pagePresent d p s && pageDomain p == dom)

/-- A page of the domain requests it on. -/
def domAsked (d dom : Nat) (s : State) : Bool :=
  match dom with
  | 0 | 1 => true
  | 2 => d == 0
  | _ => (domPages d dom s).any (fun p => flag (R.HDR.PAGE_CTL_PWR_REQ d p) s)

/-- R502: the domain is requested on, by its pages or as a prerequisite; a chain of prerequisites has at most five links. -/
def domWantedBy (d : Nat) (s : State) : Nat → Nat → Bool
  | 0, dom => domAsked d dom s
  | n + 1, dom => domAsked d dom s || (List.range 14).any (fun e => (domNeeds d e).contains dom && domWantedBy d s n e)

def domWanted (d dom : Nat) (s : State) : Bool := domWantedBy d s 5 dom

def domSt (d dom : Nat) (s : State) : Nat := (domainOf d dom s).st

/-- R504: a frame that prints on the domain's station is ARMED or IMAGING. -/
def domBusy (d dom : Nat) (s : State) : Bool :=
  (dom == 9 || dom == 10) &&
    (List.range 64).any (fun i =>
      ((slotOf i s).st == 4 || (slotOf i s).st == 5) && (frameStations i s).contains (2 * d + (dom - 9)))

/-- DOM_HELD (R504, R524). -/
def domHeld (d : Nat) (s : State) : Nat :=
  [9, 10].foldl (fun m dom => if domSt d dom s = 2 && !domWanted d dom s && domBusy d dom s then m + 2 ^ dom else m) 0

/-- A power-down request rejects the prepared slots that target the domain's blocks (R54). -/
def rejectDomain (d dom : Nat) (s : State) : State := rejectTargets d 5 (fun o => pageDomain (o / 0x1000) == dom) s

/-- The requests of a die are judged: a requested domain whose prerequisites are on begins to power up (R503), the slots that
target an unrequested one are rejected, and a hold is shown (R504). -/
def powerLook (d : Nat) (s : State) : State :=
  let s1 := (List.range 14).foldl (fun s dom =>
    let x := domainOf d dom s
    if dom < 3 then s
    else if !domWanted d dom s then
      let s1 := setDomain d dom { x with failed := false } s
      if x.st = 2 then rejectDomain d dom s1 else s1
    else if x.st = 0 ∧ !x.failed ∧ (domNeeds d dom).all (fun e => domSt d e s == 2) then
      setDomain d dom { st := 1, since := s.now } s
    else s) s
  let old := rd (R.PWR.DOM_HELD_HELD d) s1
  let held := domHeld d s1
  let s2 := wr (R.PWR.DOM_HELD_HELD d) held s1
  if [9, 10].any (fun b => testBit held b && !testBit old b) then evt d 0x12 2 s2 else s2

/-- DOMAIN_POWER_UP (R503): the domain is on; its islands are released under R538. -/
def execDomainPowerUp (d dom : Nat) (s : State) : Host.Outcome State Fault Refusal :=
  if !dieUp d s || decide (14 ≤ dom) || domSt d dom s != 1 || !domWanted d dom s then .next s
  else .next (powerLook d (evt d 0x12 0 (setDomain d dom { st := 2, since := s.now } s)))

/-- The units of a page behave as fenced, with no fault and no lasting fence (R503). -/
def stopUnits (d p : Nat) (s : State) : State :=
  match Layout.pageKind p with
  | some (.cueP, _) => (armedCues d s).foldl (fun s n => cueDisarm d n s) s
  | some (.loopP, _) => (enabledLoops d s).foldl (fun s i => loopDisable d i s) s
  | _ =>
    let us := (pageUnits d p).filter (fun u => !s.fenced.contains u)
    us.foldl (fun s u => dropFence u s) (fenceUnits us s)

/-- A domain goes off: its units stop, its registers, tables and internal state are lost (R33, R503). -/
def domainOff (d dom : Nat) (s : State) : State :=
  let pages := domPages d dom s
  let s1 := pages.foldl (fun s p => stopUnits d p s) (rejectDomain d dom s)
  let s2 := if dom = 7 then memSelfRefresh d s1 else s1
  let mst := rd (R.MEMC.MSTAT_STATE d) s2
  let mcfg := word (R.MEMC.MCFG_DENSITY d).addr s2
  let s3 := pages.foldl (fun s p => blockReset d p (blockQuiet d p s)) (setDomain d dom {} s2)
  let s3 := [0, 1].foldl (fun s l => onlyIf (pages.contains (staPage l)) (residueLost (2 * d + l)) s) s3
  if dom = 7 then wr (R.MEMC.MSTAT_STATE d) (if mst = 3 then 3 else 0) (putWord (R.MEMC.MCFG_DENSITY d).addr mcfg s3) else s3

/-- Every domain that lists `dom` as a prerequisite is off. -/
def domFree (d dom : Nat) (s : State) : Bool :=
  (List.range 14).all (fun e => !(domNeeds d e).contains dom || domSt d e s == 0)

/-- DOMAIN_POWER_DOWN (R503, R504, R58). -/
def execDomainPowerDown (d dom : Nat) (s : State) : Host.Outcome State Fault Refusal :=
  if !dieUp d s || decide (dom < 3) || decide (14 ≤ dom) || domSt d dom s == 0 || domWanted d dom s || !domFree d dom s then .next s
  else if domBusy d dom s || decidedIn d dom s then .next (powerLook d s)
  else .next (powerLook d (evt d 0x12 1 (bump (R.PWR.PWR_CNT_DOWNS d) (domainOff d dom s))))

/-- DOMAIN_POWER_TIMEOUT (R524): not on within 20 µs. -/
def execDomainPowerTimeout (d dom : Nat) (s : State) : Host.Outcome State Fault Refusal :=
  let x := domainOf d dom s
  if !dieUp d s || decide (14 ≤ dom) || x.st != 1 || decide (s.now < x.since + 20000) then .next s
  else
    let s1 := recordFault d 0x12 0 false s
    let s2 := (domPages d dom s1).foldl (fun s p => fencePage d p s) s1
    .next (setDomain d dom { failed := true } s2)

/-- The islands of a domain report clock-good and leave reset (R538): its enabled blocks begin. -/
def domainRelease (d dom : Nat) (s : State) : State :=
  let s1 := setDomain d dom { domainOf d dom s with good := true, rel := true } s
  let s2 := if dom = 7 then memWake d s1 else s1
  (domPages d dom s2).foldl (fun s p => blockWakes d p s) s2

end Sys2Proof.Machine
end

