-- ==== Sys2Proof/Machine/Thermal.lean ====
section
/-! DEFINITION. The temperature of the dies and its reactions (R518 to R523, R526). -/

namespace Sys2Proof.Machine

def thermalOf (d : Nat) (s : State) : Thermal := mapGet (fun _ => {}) s.thermals d
def setThermal (d : Nat) (v : Thermal) (s : State) : State := { s with thermals := mapSet (fun _ => {}) s.thermals d v }

def thermEff (d : Nat) (s : State) : Int := rdS (R.THERM.TEMP_EFF d) s
def thermWarn (d : Nat) (s : State) : Int := rdS (R.THERM.TLIM_WARN d) s
def thermCrit (d : Nat) (s : State) : Int := rdS (R.THERM.TLIM_CRIT d) s
def thermHyst (d : Nat) (s : State) : Int := (rd (R.THERM.TCFG_HYST d) s : Nat)

/-- The ring neighbours of a die (R15); on a PX7182 there is one. -/
def neighbours (d : Nat) (s : State) : List Nat :=
  let n := s.dies
  let a := (d + 1) % n
  let b := (d + n - 1) % n
  if a = b then [a] else [a, b]

/-- The latest valid samples of the neighbours. -/
def neighbourTemps (d : Nat) (s : State) : List Int :=
  (neighbours d s).filterMap (fun e => (thermalOf e s).valid.map (fun v => v.1))

/-- R519: a sample is broken. -/
def sampleBroken (d : Nat) (raw : Int) (s : State) : Bool :=
  let ns := neighbourTemps d s
  decide (raw < -640) || decide (2400 < raw) ||
    (match (thermalOf d s).valid with
     | some (v, t) => decide (320 * (s.now - t) < (raw - v).natAbs * 1000000)
     | none => false) ||
    (!ns.isEmpty && decide (560 * ns.length < (raw * ns.length - ns.sum).natAbs))

/-- The highest of a list. -/
def highest (l : List Int) : Option Int :=
  match l with
  | [] => none
  | x :: t => some (t.foldl max x)

/-- A die goes to shutdown (R522). -/
def shutdown (d : Nat) (s : State) : State :=
  let s1 := logTrigger 5 0 (spoilDie d 12 (setThermal d { thermalOf d s with hot := true } s))
  fatalFault d 0x14 4 false s1

/-- A lane that critical temperature turns off (R521). -/
def laneIdle (d n : Nat) (s : State) : Bool :=
  (isHeadLane n && laneRoleOf d n s == 2) || (isRasterLane d n && !rasterOpen d s) ||
    (d == 0 && decide (10 ≤ n) && !flag (R.ELNK.PCFG_EN 0 (n - 10)) s)

/-- A die enters critical (R520, R521). -/
def enterCritical (d : Nat) (s : State) : State :=
  let s1 := criticalStop d (logTrigger 4 0 (evt d 0x14 1 (recordFault d 0x14 3 false s)))
  (List.range 12).foldl (fun s n => if laneIdle d n s ∧ laneSt d n s ≠ 6 then laneOff d n s else s) s1

/-- The state that EFF leads to (R520); while the die is in reset the shutdown state may fall. -/
def thermTarget (d st : Nat) (s : State) : Nat :=
  let e := thermEff d s
  let h := thermHyst d s
  let up := if 1840 ≤ e then 3 else if thermCrit d s ≤ e then 2 else if thermWarn d s ≤ e then 1 else 0
  let down := if thermCrit d s - h ≤ e then 2 else if thermWarn d s - h ≤ e then 1 else 0
  if st ≤ up then up else if st = 3 ∧ (releaseOf d s).phase = 9 then 3 else Nat.min st down

/-- TSTAT follows EFF (R518, R520). -/
def thermState (d : Nat) (s : State) : State :=
  let old := rd (R.THERM.TSTAT_STATE d) s
  let new := thermTarget d old s
  let rate := if thermCrit d s - 48 ≤ thermEff d s then 2 else if thermWarn d s - 160 ≤ thermEff d s then 1 else 0
  let s1 := wr (R.THERM.TSTAT_RATE d) rate (wr (R.THERM.TSTAT_STATE d) new s)
  let s2 := if old = 0 ∧ 1 ≤ new then evt d 0x14 0 s1 else if new < old then evt d 0x14 2 s1 else s1
  let s3 := if old ≠ 2 ∧ new = 2 ∧ old < 2 then enterCritical d s2 else s2
  let s4 := if old < 3 ∧ new = 3 then shutdown d s3 else s3
  if old = 2 ∧ new < 2 then
    (List.range 12).foldl (fun s n => if laneSt d n s = 0 then laneEnable d n s else s) s4
  else s4

/-- The die has been sampled since it was reset cold. -/
def sampled (d : Nat) (s : State) : Bool := (thermalOf d s).valid.isSome || (thermalOf d s).broken

/-- The difference of two neighbours is judged by each against its own limit (R523). -/
def thermDiff (d : Nat) (s : State) : State :=
  let diffs := ((neighbours d s).filter (fun e => sampled e s)).map (fun e => (thermEff d s - thermEff e s).natAbs)
  let m := diffs.foldl Nat.max 0
  let lim := rd (R.THERM.TCFG_DIFF_LIM d) s
  if !sampled d s then s
  else if !flag (R.THERM.TSTAT_DIFF d) s && decide (16 * lim < m) then
    evt d 0x14 4 (bump (R.THERM.TCNT_DIFF d) (recordFault d 0x14 2 false (wr (R.THERM.TSTAT_DIFF d) 1 s)))
  else if flag (R.THERM.TSTAT_DIFF d) s && decide (m + 32 < 16 * lim) then wr (R.THERM.TSTAT_DIFF d) 0 s
  else s

/-- EFF takes a value and is judged. -/
def thermSet (d : Nat) (e : Int) (s : State) : State :=
  let s1 := wrS (R.THERM.TEMP_EFF d) e s
  let s2 := if rdS (R.THERM.TMAX_TEMP d) s1 < e then wrS (R.THERM.TMAX_TEMP d) e s1 else s1
  (d :: neighbours d s2).foldl (fun s x => thermDiff x s) (thermState d s2)

/-- TEMP_SAMPLE (R519): a sample of a die's diode. -/
def execTempSample (d : Nat) (raw : Int) (s : State) : Host.Outcome State Fault Refusal :=
  if s.dies ≤ d then .next s
  else
    let bad := sampleBroken d raw s
    let best := highest (neighbourTemps d s)
    let t := thermalOf d s
    let s1 := wr (R.THERM.TSTAT_BROKEN d) (b2n bad) (wrS (R.THERM.TEMP_RAW d) (clampInt (-32768) 32767 raw) s)
    let s2 := wr (R.THERM.TSTAT_NO_NEIGH d) (b2n (bad && best.isNone)) s1
    if !bad then .next (thermSet d raw (setThermal d { t with valid := some (raw, s.now), broken := false, alone := false } s2))
    else
      let s3 := evt d 0x14 3 (bump (R.THERM.TCNT_BROKEN d) (setThermal d { t with broken := true, alone := best.isNone } s2))
      let s4 := if t.broken then s3 else recordFault d 0x14 0 false s3
      match best with
      | some v => .next (thermSet d (v + 160) s4)
      | none => .next (thermSet d (thermCrit d s4) (if t.alone then s4 else recordFault d 0x14 1 false s4))

end Sys2Proof.Machine
end

