-- ==== Sys2Proof/Machine/Reset.lean ====
section
/-! DEFINITION. Resets, their release, the clocks and the watchdogs (R529 to R548). -/

namespace Sys2Proof.Machine

/-! ### Straps (R541 to R543): reserved codes behave as code 0 -/

def Straps.bootCode (x : Straps) : Nat := if x.boot ≤ 4 then x.boot else 0
def Straps.clockCode (x : Straps) : Nat := if x.clkm ≤ 2 then x.clkm else 0

/-- The dies that a missing reference of die `d` affects (R543, R548). -/
def refDies (d : Nat) (s : State) : List Nat := if s.straps.clockCode = 1 then [d] else List.range s.dies

/-! ### The reset of a die's state (R530, R531) -/

/-- Pages whose registers a warm reset keeps (R531). -/
def warmPage (p : Nat) : Bool :=
  match Layout.pageKind p with
  | some (.rstP, _) | some (.clkP, _) | some (.pwrP, _) | some (.seqP, _) | some (.thermP, _) | some (.nvsP, _) => true
  | _ => false

/-- The words of a die that a warm reset keeps (R489, R531). -/
def warmKeeps (d a : Nat) : Bool :=
  let o := a % 0x1000000
  let p := o / 0x1000
  let off := o % 0x1000
  if 0x100000 ≤ o then d == 0 && decide (0xF00000 ≤ o)
  else warmPage p || off == 0x1C || (decide (0x28 ≤ off) && decide (off ≤ 0x38)) || (p == 0x38 && off == 0x40) ||
    (d == 0 && p == 1 && (off == 0x100 || off == 0x104 || off == 0x108))

def allPages (d : Nat) (s : State) : List Nat := (List.range 256).filter (fun p => pagePresent d p s)

/-- Every register and all state of a die take their reset values but for what R531 keeps. -/
def dieClear (d : Nat) (s : State) : State :=
  let s0 := memSelfRefresh d s
  let mst := rd (R.MEMC.MSTAT_STATE d) s0
  let pages := (allPages d s0).filter (fun p => !warmPage p)
  let s1 := residueLost (2 * d) (residueLost (2 * d + 1) (pages.foldl (fun s p => blockClear d p s) s0))
  let kept := pages.flatMap (fun p => keptWords d p)
  let s2 := { s1 with
    regs := mapDrop (fun a => a / 0x1000000 == d && !warmKeeps d a && !kept.contains a) s1.regs
    fenced := s1.fenced.filter (fun u => unitDie u != d || u == .die d ||
      (match u with | .bus _ b => flag (R.BUS.BUS_STAT_TRIPPED d b) s1 | _ => false))
    unfPending := s1.unfPending.filter (fun k => stDie k != d)
    domains := (List.range 14).foldl (fun m i => mapSet domainReset m (16 * d + i) {}) s1.domains
    landed := mapDrop (fun i => decide (i % 16 = d) || (decide (d = 0) && decide (i % 16 = 8))) s1.landed
    msgs := s1.msgs.filter (fun m => !msgOfDie d m) }
  let s3 := pages.foldl (fun s p => fenceViews d p s1 (strapRegs d p (putPageCtl d p s))) s2
  wr (R.MEMC.MSTAT_STATE d) (if mst = 3 then 3 else 0) (wr (R.THERM.TSTAT_STATE d) 0 { s3 with dogs := dropKeys d 1 (if d = 0 then dropKeys 8 1 s3.dogs else s3.dogs) })

/-- RST_CAUSE gains a bit and WARM_CNT counts (R531). -/
def warmNoted (d cause : Nat) (s : State) : State :=
  bump (R.RST.WARM_CNT_COUNT d) (wr (R.RST.RST_CAUSE_CAUSE d) (rd (R.RST.RST_CAUSE_CAUSE d) s ||| 2 ^ cause) s)

/-- A warm reset of one die is asserted for 10 µs (R532). -/
def assertWarm (d cause : Nat) (pkg clock held : Bool) (s : State) : State :=
  setRelease d { phase := 0, pkg := pkg, due := s.now + 10000, held := held
                 refCheck := clock || ((releaseOf d s).phase != 9 && (releaseOf d s).refCheck) } (warmNoted d cause (dieClear d s))

/-- A cold reset has not been released yet: warm sources are ignored (R533). -/
def coldRunning (s : State) : Bool := (List.range s.dies).any (fun d => (releaseOf d s).cold && (releaseOf d s).phase != 9)

/-- A warm reset of the package is under way. -/
def packageRunning (s : State) : Bool := (releaseOf 0 s).pkg && (releaseOf 0 s).phase != 9

/-- A warm reset of package scope: every die; safe stop, fences and the frame queue end with it. -/
def warmPackage (cause : Nat) (clock : Bool) (s : State) : State :=
  if coldRunning s then s
  else
    let s1 := (List.range s.dies).foldl (fun s d => dieSafe d s) s
    let s2 := (List.range s.dies).foldl (fun s d => assertWarm d cause true clock (releaseOf d s).held s) s1
    { s2 with safeStop := false, msgs := [], clkFails := [], fenced := s2.fenced.filter (fun u => match u with | .die _ => false | _ => true)
              bootWaits := true }

/-- A warm reset of die scope: the die is isolated, with no fault recorded here (R532). -/
def warmDie (d cause : Nat) (clock : Bool) (held : Bool) (s : State) : State :=
  if coldRunning s then s
  else
    let s1 := if dieFenced d s then s else dieIsolate d s
    assertWarm d cause false clock held { s1 with clkFails := s1.clkFails.filter (fun e => e.1 != d) }

/-- A warm source acts on its die, or on the package; a warm reset of D0 always has package scope (R529, R533). -/
def warmReset (d cause : Nat) (pkg clock : Bool) (s : State) : State :=
  if pkg || d == 0 || packageRunning s then warmPackage cause clock s else warmDie d cause clock false s

/-! ### Cold reset (R530, R536) -/

/-- The controller after a cold reset: what remains is the NV stores, the fuses, the environment, the levels of its inputs and
the record of what it has sent. -/
def coldState (s : State) : State :=
  { part := s.part, nv := s.nv, nvBad := s.nvBad, host := s.host, flash := s.flash, now := s.now, pending := s.pending
    freeSeq := s.freeSeq, sent := s.sent, resp := s.resp, ilkIn := s.ilkIn, hokIn := s.hokIn, encoders := s.encoders
    gpios := s.gpios.filterMap (fun e => if e.2.seen = 0 then none else some (e.1, { seen := e.2.seen }))
    domains := (List.range 8).foldl (fun m d => [0, 1, 2].foldl (fun m i => mapSet domainReset m (16 * d + i) {}) m) []
    pcieUp := false, bootWaits := true }

/-- Registers that show a die under reset: its PLLs are off, its cause is noted; fuses and pin levels stand. -/
def coldDie (d cause : Nat) (old s : State) : State :=
  let s1 := [0, 1, 2, 3].foldl (fun s p => wr (R.CLK.PLL_STAT_STATE d p) 0 s) (wr (R.CLK.CLK_STAT_REF_OK d) 0 s)
  let s2 := wr (R.RST.RST_CAUSE_CAUSE d) (2 ^ cause) s1
  let s3 := (0x74 :: (List.range 8).map (fun i => 0x80 + 4 * i)).foldl
    (fun s o => putWord (Layout.addr d 0x10 o) (word (Layout.addr d 0x10 o) old) s) s2
  setClock d { c0 := s3.now } (setRelease d { phase := 1, cold := true } s3)

/-- A cold reset of the package (R529, R530): the sequencer's table is read, the log is scanned and a record is triggered. -/
def coldReset (cause : Nat) (s : State) : State :=
  let s0 := (List.range (2 * s.dies)).foldl (fun s k => ageAbandon k s) (logAbandon s)
  let s1 := (List.range s.dies).foldl (fun t d => coldDie d cause s0 t) (coldState s0)
  let s2 := (List.range 24).foldl (fun t n => wr (R.SEQ.RSTAT_PG 0 n) (rd (R.SEQ.RSTAT_PG 0 n) s0) t) s1
  logTrigger 1 0 (logScan (railTableLoad s2))

/-- POWER_ON (R529). -/
def execPowerOn (s : State) : Host.Outcome State Fault Refusal := .next (coldReset 0 s)

/-- BROWN_OUT (R529). -/
def execBrownOut (s : State) : Host.Outcome State Fault Refusal := .next (coldReset 1 s)

/-- RESET_PIN (R529): RST_N has been low for `ns`. Between 0.5 µs and 1 µs the spec leaves the outcome open (log 79). -/
def execResetPin (ns : Nat) (s : State) : Host.Outcome State Fault Refusal :=
  if 1000 ≤ ns then .next (coldReset 2 s)
  else if ns < 500 then .next s
  else
    let f := drawFree s
    .next (if f.1 % 2 = 1 then coldReset 2 f.2 else f.2)

/-! ### Release (R536 to R538) -/

/-- STRAP_SAMPLE (R541, R542). -/
def execStrapSample (boot clkm prof : Nat) (legacy : Bool) (s : State) : Host.Outcome State Fault Refusal :=
  if (releaseOf 0 s).phase ≠ 1 then .next s
  else
    let b := boot % 8
    let c := clkm % 4
    let p := prof % 8
    let s1 := { s with straps := ⟨b, c, p, legacy, decide (5 ≤ b) || decide (c = 3) || decide (p = 7)⟩, strapsAt := some s.now }
    let s2 := (List.range s1.dies).foldl (fun s d => (allPages d s).foldl (fun s p => strapRegs d p (putPageCtl d p s)) s) s1
    .next ((List.range s2.dies).foldl (fun s d => setRelease d { releaseOf d s with phase := 3, refCheck := true } s) s2)

/-- Every PLL of the die has declared lock. -/
def pllsLocked (d : Nat) (s : State) : Bool := [0, 1, 2, 3].all (fun p => rd (R.CLK.PLL_STAT_STATE d p) s == 2)

/-- Step 4: what is not locked seeks lock; step 5 follows when all are. -/
def toPlls (d : Nat) (s : State) : State :=
  let s1 := [0, 1, 2, 3].foldl (fun s p => if rd (R.CLK.PLL_STAT_STATE d p) s = 0 then wr (R.CLK.PLL_STAT_STATE d p) 1 s else s) s
  setRelease d { releaseOf d s1 with phase := if pllsLocked d s1 then 5 else 4, refCheck := false } s1

/-- No die waits for its reference any more: the hold of R536 ends, but for a hold by R538. -/
def errHoldCheck (s : State) : State :=
  if (List.range s.dies).any (fun d => (releaseOf d s).phase == 3) then s else { s with strapsAt := none, errAonHold := false }

/-- REFERENCE_CHECK (R536): a check that has not passed 10 ms after strap sampling holds ERR_N low. -/
def execReferenceCheck (d : Nat) (ok : Bool) (s : State) : Host.Outcome State Fault Refusal :=
  if s.dies ≤ d ∨ (releaseOf d s).phase ≠ 3 then .next s
  else if ok then .next (errHoldCheck (toPlls d (wr (R.CLK.CLK_STAT_ON_RC d) 0 (wr (R.CLK.CLK_STAT_REF_OK d) 1 s))))
  else
    match s.strapsAt with
    | some t => .next (if t + 10000000 ≤ s.now then { s with errAonHold := true } else s)
    | none => .next s

/-- WARM_RESET_RELEASE (R532, R522): the assertion ends; a die that is still too hot waits. -/
def execWarmResetRelease (d : Nat) (s : State) : Host.Outcome State Fault Refusal :=
  let r := releaseOf d s
  if s.dies ≤ d ∨ r.phase ≠ 0 ∨ r.held = true ∨ s.now < r.due ∨
      ((thermalOf d s).hot = true ∧ thermCrit d s - thermHyst d s ≤ thermEff d s) then .next s
  else
    let s1 := setThermal d { thermalOf d s with hot := false } s
    .next (if r.refCheck then setRelease d { r with phase := 3 } s1 else toPlls d s1)

/-- The mortar links of a die: to the next die and from the one before. -/
def linksOf (d : Nat) (s : State) : List Nat := [d, (d + s.dies - 1) % s.dies]

/-- MORTAR_TRAINED (R536): the links of a die are trained, which ends the fence of each of them (DESIGN CHOICE, log 114), and its
latency is measured. -/
def execMortarTrained (d lat : Nat) (s : State) : Host.Outcome State Fault Refusal :=
  if s.dies ≤ d ∨ (releaseOf d s).phase ≠ 5 then .next s
  else
    let s1 := { s with linksFenced := s.linksFenced.filter (fun i => !(linksOf d s).contains i) }
    let s2 := if d = 0 then s1 else wr (R.TIME.MORT_LAT_NS d) lat s1
    let on : List Nat := if d = 0 then [0, 1, 2] else [0, 1]
    .next (setRelease d { releaseOf d s2 with phase := 6 } (on.foldl (fun s i => setDomain d i { st := 2, since := s.now } s) s2))

/-- The boot engine starts the image that the straps select (R549). -/
def bootStart (s : State) : State :=
  let s1 := { s with bootWaits := false, boot := {} }
  if s1.straps.bootCode = 0 then wr (R.RST.BOOT_STAT_STATE 0) 0 s1
  else wr (R.RST.BOOT_STAT_RECORD 0) 0 (wr (R.RST.BOOT_STAT_CODE 0) 0 (wr (R.RST.BOOT_STAT_STATE 0) 1 s1))

/-- A die is released: its clocks and watchdog start, it rejoins the package if it can be reached (R16), its requested domains power up (R495, R536). -/
def dieReleased (d : Nat) (s : State) : State :=
  let r := releaseOf d s
  let s1 := setRelease d {} (onlyIf (reachable d s) (dropFence (.die d)) (setClock d { c0 := s.now } s))
  let s2 := { s1 with dogs := mapSet (fun _ => 0) s1.dogs d s1.now, loopNext := dropKeys d 1 s1.loopNext }
  let s3 := if d = 0 then { s2 with dogs := mapSet (fun _ => 0) s2.dogs 8 s2.now, master := {} } else s2
  let s4 := powerLook d s3
  if d = 0 ∧ r.pkg = true ∧ s4.pcieUp = true ∧ s4.bootWaits = true then bootStart s4 else s4

/-- ISLAND_RELEASE (R538): the islands of domain `isl` report clock-good and are released; with CTRL, MORT and on D0 HOST the
die is. -/
def execIslandRelease (d isl : Nat) (s : State) : Host.Outcome State Fault Refusal :=
  let x := domainOf d isl s
  let ph := (releaseOf d s).phase
  if s.dies ≤ d ∨ 14 ≤ isl ∨ x.st ≠ 2 ∨ x.rel = true ∨ (ph ≠ 6 ∧ ph ≠ 9) then .next s
  else
    let s1 := domainRelease d isl s
    let need : List Nat := if d = 0 then [0, 1, 2] else [0, 1]
    .next (if ph = 6 ∧ need.all (fun i => (domainOf d i s1).rel) then dieReleased d s1 else s1)

/-- CLOCK_GOOD_TIMEOUT (R538): no clock-good 1 ms after the domain came on. -/
def execClockGoodTimeout (d isl : Nat) (s : State) : Host.Outcome State Fault Refusal :=
  let x := domainOf d isl s
  if s.dies ≤ d ∨ 14 ≤ isl ∨ x.st ≠ 2 ∨ x.rel = true ∨ s.now < x.since + 1000000 ∨ flag (R.CLK.CLK_STAT_REF_OK d) s = false then .next s
  else
    let s1 := evt d 0x11 2 (recordFault d 0x11 3 false (setDomain d isl { x with since := s.now } s))
    let s2 := (domPages d isl s1).foldl (fun s p => fencePage d p s) s1
    .next (if isl ≠ 0 then s2 else if d = 0 then { s2 with errAonHold := true } else dieLost d s2)

/-- PCIE_READY (R536): step 7 of a cold release; the boot image follows. -/
def execPcieReady (s : State) : Host.Outcome State Fault Refusal :=
  if s.pcieUp || !dieUp 0 s then .next s
  else
    let s1 := { s with pcieUp := true }
    .next (if s1.bootWaits then bootStart s1 else s1)

/-! ### PLLs and the reference (R544 to R548) -/

/-- A PLL goes to bypass (R546). -/
def pllBypass (d p : Nat) (s : State) : State :=
  if rd (R.CLK.PLL_STAT_STATE d p) s ≠ 2 then s
  else
    let s1 := if p = 0 then setClock d { clockOf d s with byp := s.now - (clockOf d s).c0 } s else s
    evt d 0x11 0 (bump (R.CLK.PLL_STAT_LOSSES d p) (wr (R.CLK.PLL_STAT_STATE d p) 3 s1))

/-- PLL_LOCK (R545, R547): a PLL declares lock. -/
def execPllLock (d p : Nat) (s : State) : Host.Outcome State Fault Refusal :=
  if s.dies ≤ d ∨ 4 ≤ p ∨ rd (R.CLK.PLL_STAT_STATE d p) s = 2 ∨ rd (R.CLK.PLL_STAT_STATE d p) s = 0 ∨
      flag (R.CLK.CLK_STAT_REF_OK d) s = false then .next s
  else
    let relock := rd (R.CLK.PLL_STAT_STATE d p) s == 3
    let c := clockOf d s
    let n := s.now - c.c0
    let s0 := if relock ∧ p = 0 then setClock d { c with c0 := s.now - (c.byp + (n - c.byp) / 10 * 10) } s else s
    let s1 := wr (R.CLK.PLL_STAT_STATE d p) 2 s0
    let s2 := if relock then evt d 0x11 1 s1 else s1
    let s3 := if relock ∧ p = 2 ∧ domSt d 7 s = 2 then memWake d s2 else s2
    let s4 := if relock ∧ p = 3 then (List.range 12).foldl (fun s n => laneStart d n s) s3 else s3
    .next (if (releaseOf d s4).phase = 4 ∧ pllsLocked d s4 then setRelease d { releaseOf d s4 with phase := 5 } s4 else s4)

/-- The reaction to CLK source 1 (R547, R559): frames imaging on the die are spoiled, then both stations are fenced. -/
def clockStations (d : Nat) (s : State) : State :=
  let s1 := spoilImaging (2 * d + 1) 11 (spoilImaging (2 * d) 11 s)
  stationFence (2 * d + 1) (stationFence (2 * d) s1)

/-- PLL_LOCK_LOSS (R547). -/
def execPllLockLoss (d p : Nat) (s : State) : Host.Outcome State Fault Refusal :=
  if s.dies ≤ d ∨ 4 ≤ p ∨ rd (R.CLK.PLL_STAT_STATE d p) s ≠ 2 then .next s
  else
    let s1 := pllBypass d p s
    let r := releaseOf d s1
    let s2 := if r.phase = 5 ∨ r.phase = 6 then setRelease d { r with phase := 4 } s1 else s1
    if p = 1 then .next (recordFault d 0x11 2 false s2)
    else
      let s3 := clockStations d (recordFault d 0x11 1 false s2)
      let s4 := if p = 2 then memSelfRefresh d s3 else s3
      .next (if p = 3 then (List.range 12).foldl (fun s n => if laneSt d n s = 6 then s else laneDown d n 0 s) s4 else s4)

/-- CLOCK_FAILURE (R548): a reference has been missing for 1 µs. -/
def execClockFailure (d : Nat) (s : State) : Host.Outcome State Fault Refusal :=
  if s.dies ≤ d ∨ flag (R.CLK.CLK_STAT_REF_OK d) s = false then .next s
  else
    let ds := refDies d s
    let s1 := ds.foldl (fun s e =>
      let s1 := [0, 1, 2, 3].foldl (fun s p => pllBypass e p s) s
      bump (R.CLK.CLKFAIL_CNT_COUNT e) (wr (R.CLK.CLK_STAT_ON_RC e) 1 (wr (R.CLK.CLK_STAT_REF_OK e) 0 s1))) s
    let s2 := ds.foldl (fun s e => spoilDie e 11 s) s1
    let s3 := { s2 with clkFails := s2.clkFails ++ [(d, s2.now)] }
    .next (ds.foldl (fun s e => fatalFault e 0x11 0 false s) s3)

/-- CLOCK_FAILURE_WARM_RESET (R548): 10 µs after the judgement. -/
def execClockFailureWarmReset (d : Nat) (s : State) : Host.Outcome State Fault Refusal :=
  match s.clkFails.find? (fun e => e.1 == d) with
  | some e =>
    if e.2 + 10000 ≤ s.now then .next (warmReset d 7 (decide (s.straps.clockCode ≠ 1)) true { s with clkFails := s.clkFails.erase e })
    else .next s
  | none => .next s

/-! ### Watchdogs, lock-up, software reset (R529, R531, R534, R535) -/

def dogAt (i : Nat) (s : State) : Nat := mapGet (fun _ => 0) s.dogs i
def setDog (i : Nat) (s : State) : State := { s with dogs := mapSet (fun _ => 0) s.dogs i s.now }

/-- WDT_STAT.REMAIN of a die: the milliseconds that are left, rounded up. -/
def dogRemain (d : Nat) (s : State) : Nat :=
  if flag (R.RST.WDT_CFG_EN d) s && dieUp d s then
    ceilDiv (dogAt d s + 1000000 * rd (R.RST.WDT_CFG_TIMEOUT d) s - s.now) 1000000
  else 0

/-- DIE_WATCHDOG_EXPIRE (R534). -/
def execDieWatchdogExpire (d : Nat) (s : State) : Host.Outcome State Fault Refusal :=
  if !dieUp d s || !flag (R.RST.WDT_CFG_EN d) s || decide (s.now < dogAt d s + 1000000 * rd (R.RST.WDT_CFG_TIMEOUT d) s) then .next s
  else
    let pkg := flag (R.RST.RST_CFG_WDT_PKG d) s
    .next (warmReset d 3 pkg false (fatalFault d 0x10 0 false s))

/-- PKG_WATCHDOG_EXPIRE (R534). -/
def execPkgWatchdogExpire (s : State) : Host.Outcome State Fault Refusal :=
  if !dieUp 0 s || !flag (R.RST.PKG_WDT_CFG_EN 0) s || decide (s.now < dogAt 8 s + 1000000 * rd (R.RST.PKG_WDT_CFG_TIMEOUT 0) s) then
    .next s
  else .next (warmReset 0 4 true false (safeStopNow (recordFault 0 0x10 1 false s)))

/-- A write to RST_CTL with GO and KEY (R529). -/
def softReset (d : Nat) (s : State) : State := warmReset d 5 (flag (R.RST.RST_CTL_SCOPE d) s) false s

/-- LOCKUP (R535): the control channel of a die has been stalled for 10 ms. -/
def execLockup (d : Nat) (s : State) : Host.Outcome State Fault Refusal :=
  if !dieUp d s then .next s
  else .next (warmReset d 8 (flag (R.RST.RST_CFG_LOCK_PKG d) s) false (fatalFault d 0x10 2 false s))

/-! ### VIN_MON (R511, R512) -/

/-- VIN_TRIP (R512): every NV write in progress is abandoned, a checkpoint or save among them. -/
def execVinTrip (code : Nat) (s : State) : Host.Outcome State Fault Refusal :=
  if flag (R.SEQ.VIN_STAT_TRIP 0) s then .next s
  else .next (vinTrip code ((List.range (2 * s.dies)).foldl (fun s k => ageAbandon k s) s))

end Sys2Proof.Machine
end

