-- ==== Sys2Proof/Machine/Force.lean ====
section
/-! DEFINITION. Faults that are forced for test, and errors that a block detects in its own memory or logic (R484, R491). -/

namespace Sys2Proof.Machine

/-- A course that cannot be checked counts as a mismatch (R223). -/
def uncheckedCourse (k : Nat) (s : State) : State :=
  evt (stDie k) (staPage (stLoc k)) 0 (bump (R.STA.COV_CNT_MISMATCHES (stDie k) (stLoc k)) s)

/-- The reaction of a station page's fault beside the fence (R224, R241, R270, R308). -/
def forceStation (k p src : Nat) (s : State) : State :=
  match Layout.pageKind p with
  | some (.staP, _) => stationFault k p src true (if src = 0 then spoilImaging k 1 s else if src = 4 then uncheckedCourse k (spoilImaging k 1 s) else s)
  | some (.stimP, _) =>
    if src = 2 then
      let s1 := spoilImaging k 2 s
      stationFault k p src true (if imagingNow k s && onPath k s && !pathSheet (pathOf k s) s then sendCause (pathOf k s) 3 s1 else s1)
    else stationFault k p src true (if src = 3 then spoilImaging k 3 s else s)
  | some (.sprotP, _) => protFault k src true s
  | _ => stationFault k p src true s

/-- Record a fault, then fence a unit. -/
def faultUnit (d p src : Nat) (u : UnitId) (forced : Bool) (s : State) : State := fenceUnit u (recordFault d p src forced s)

/-- A motor bus is tripped (R392). -/
def busTripNow (d b : Nat) (s : State) : State :=
  let s1 := wr (R.BUS.BUS_STAT_TRIPPED d b) 1 (busChannelsOff d b s)
  evt d 0x6A (8 + b) (busBrake d b (addFence (.bus d b) s1))

/-- The regenerative clamp of a bus begins (R391). -/
def busClampNow (d b : Nat) (s : State) : State :=
  if flag (R.BUS.BUS_STAT_CLAMP d b) s then s
  else evt d 0x6A b (bump (R.BUS.BUS_CNT_CLAMPS d b) (wr (R.BUS.BUS_STAT_CHOP_BAD d b) 1 (wr (R.BUS.BUS_STAT_CLAMP d b) 1 s)))

/-- R491: a fault source of a page is forced, with the reaction that a detection would have; where only a detection identifies
the unit, nothing reacts. -/
def forceFault (d p src : Nat) (s : State) : State :=
  match Layout.pageKind p with
  | some (.dieP, _) =>
    if src ≤ 7 then (if d = 0 then degrade src (recordFault 0 0 src true s) else s)
    else if src = 8 then fatalFault d p src true s else recordFault d p src true s
  | some (.laneP, n) => laneFault d n src true s
  | some (.rlnkP, _) => rasterFault d src true s
  | some (.staP, l) | some (.stimP, l) | some (.shlP, l) | some (.sprotP, l) => forceStation (2 * d + l) p src s
  | some (.pioP, _) =>
    if src = 0 then
      let s1 := recordFault d p 0 true s
      evt d 0x71 0 (wr (R.PIO.ZC_STAT_OK d) 0 ((List.range 4).foldl (fun s h => setHeater d h { heaterOf d h s with high := none } s) s1))
    else if src ≤ 8 then evt d 0x71 (1 + src) (hvSafe d (src - 1) (recordFault d p src true s))
    else recordFault d p src true s
  | some (.stepP, _) => if src ≤ 7 then faultUnit d p src (.step d src) true s else recordFault d p src true s
  | some (.focP, _) => if src ≤ 15 then faultUnit d p src (.foc d (src % 4)) true s else recordFault d p src true s
  | some (.busP, _) =>
    let s1 := recordFault d p src true s
    if src ≤ 3 then busClampNow d src s1 else if src ≤ 7 then busTripNow d (src - 4) s1 else s1
  | some (.elnkP, _) => recordFault d p src true s
  | some (.memcP, _) => if src = 2 then fatalFault d p src true s else recordFault d p src true s
  | some (.dmaP, _) => if src ≤ 7 then faultUnit d p src (.dma d src) true s else recordFault d p src true s
  | some (.seqP, _) =>
    let s1 := recordFault d p src true s
    if src = 2 then logVin ((List.range (2 * s1.dies)).foldl (fun s k => ageAbandon k s) s1) else s1
  | some (.thermP, _) =>
    if src = 4 then fatalFault d p 4 true (spoilDie d 12 s)
    else
      let s1 := recordFault d p src true s
      if src = 1 then thermSet d (thermCrit d s1) s1
      else if src = 2 then evt d p 4 (bump (R.THERM.TCNT_DIFF d) (wr (R.THERM.TSTAT_DIFF d) 1 s1))
      else if src = 3 then criticalStop d s1 else s1
  | some (.rstP, _) =>
    if src = 0 then warmReset d 3 (flag (R.RST.RST_CFG_WDT_PKG d) s) false (fatalFault d p 0 true s)
    else if src = 1 then (if d = 0 then warmReset 0 4 true false (safeStopNow (recordFault 0 p 1 true s)) else s)
    else if src = 2 then warmReset d 8 (flag (R.RST.RST_CFG_LOCK_PKG d) s) false (fatalFault d p 2 true s)
    else recordFault d p src true s
  | some (.clkP, _) =>
    if src = 0 then { fatalFault d p 0 true (spoilDie d 11 s) with clkFails := s.clkFails ++ [(d, s.now)] }
    else if src = 1 then clockStations d (recordFault d p 1 true s)
    else recordFault d p src true s
  | _ => recordFault d p src true s

/-- The page has the source: sources 0 to 7 of DIE and source 1 of RST are D0's (R500, R559). -/
def hasSource (d p src : Nat) : Bool :=
  faultClass p src != 0 && (d == 0 || !((p == 0 && decide (src ≤ 7)) || (p == 0x10 && src == 1)))

/-- One bit of a FLT_FORCE write (R491). -/
def forceBit (d p src : Nat) (s : State) : State :=
  if !hasSource d p src then s
  else if faultClass p src = 3 ∧ flag (R.DIE.FORCE_CFG_F_EN d) s = false then evt d 0 1 s
  else forceFault d p src (bump (R.DIE.FORCE_CNT_COUNT d) s)

/-- A write of FLT_FORCE: the sources are raised in the order of R486. -/
def forceWord (d p w : Nat) (s : State) : State :=
  let bits := (List.range 32).filter (fun i => testBit w i)
  let order := (bits.filter (fun i => faultClass p i == 3)) ++ (bits.filter (fun i => faultClass p i == 2)) ++
    (bits.filter (fun i => faultClass p i != 3 && faultClass p i != 2))
  order.foldl (fun s i => forceBit d p i s) s

/-- The loop contexts that use a table: friction and cogging tables are 0 to 15. -/
def tableUsers (d t : Nat) (s : State) : List Nat :=
  (enabledLoops d s).filter (fun i =>
    let e := loopEntry d i s
    (decide (128 ≤ eU e 32 1) && eU e 32 1 % 16 == t) || (decide (128 ≤ eU e 33 1) && eU e 33 1 % 16 == t))

/-- A block detects an error in its own state and raises the matching source; `unit` says which unit, lane, cue, context, port
or word holds it. A source that another command detects is none of these. -/
def selfError (d p src unit : Nat) (s : State) : State :=
  match Layout.pageKind p with
  | some (.dieP, _) => if src = 8 then fatalFault d p 8 false s else if src = 9 then recordFault d p 9 false s else s
  | some (.codecP, _) =>
    if src = 0 ∧ unit < 24 then decodeFence d unit (recordFault d p 0 false s)
    else if src = 1 ∧ unit < 8 then faultUnit d p 1 (.comp d unit) false s
    else if src = 2 then recordFault d p 2 false s else s
  | some (.rlnkP, _) => if src = 3 ∨ src = 4 then rasterFault d src false s else s
  | some (.staP, l) => if src = 2 ∨ src = 3 then stationFault (2 * d + l) p src false s else s
  | some (.shlP, l) => if src = 5 ∨ src = 6 then stationFault (2 * d + l) p src false s else s
  | some (.sprotP, l) => if src = 2 ∨ src = 3 then protFault (2 * d + l) src false s else s
  | some (.cueP, _) =>
    if src = 3 ∧ unit < 512 then cueFence d unit (recordFault d p 3 false s)
    else if src = 4 then recordFault d p 4 false s else s
  | some (.stepP, _) =>
    if src ≤ 7 then faultUnit d p src (.step d src) false s else if src = 8 then recordFault d p 8 false s else s
  | some (.focP, _) => if src = 20 then recordFault d p 20 false s else s
  | some (.busP, _) => if src = 8 then recordFault d p 8 false s else s
  | some (.loopP, _) =>
    if src = 3 then
      let s1 := recordFault d p 3 false s
      if unit < 160 then (if s1.fenced.contains (.loop d unit) then s1 else loopFence d unit s1)
      else (tableUsers d ((unit - 160) % 16) s1).foldl (fun s i => loopFence d i s) s1
    else if src = 4 then recordFault d p 4 false s else s
  | some (.pioP, _) => if src = 9 then recordFault d p 9 false s else s
  | some (.timeP, _) => if src = 1 then recordFault d p 1 false s else s
  | some (.elnkP, _) =>
    if src = 1 ∧ unit < 2 then faultUnit 0 p 1 (.eth unit) false s else if src = 2 then recordFault 0 p 2 false s else s
  | some (.memcP, _) => if src = 2 then fatalFault d p 2 false s else s
  | some (.dmaP, _) =>
    if src ≤ 7 then faultUnit d p src (.dma d src) false s else if src = 10 then recordFault d p 10 false s else s
  | some (.pwrP, _) => if src = 1 then recordFault d p 1 false s else s
  | some (.nvsP, _) =>
    if src = 0 then recordFault d p 0 false (bump (R.NVS.NV_CNT_CE d) s)
    else if src = 1 ∧ unit < 32768 then
      { s with nvBad := if s.nvBad.contains (32768 * d + unit) then s.nvBad else (32768 * d + unit) :: s.nvBad }
    else s
  | _ => s

/-- INTERNAL_ERROR (R484). -/
def execInternalError (d p src unit : Nat) (s : State) : Host.Outcome State Fault Refusal :=
  if pagePresent d p s && domainReady d (pageDomain p) s then .next (selfError d p src unit s) else .next s

end Sys2Proof.Machine
end

