-- ==== Sys2Proof/Machine/Read.lean ====
section
/-! DEFINITION. Reads of the register space: which die, page or window answers, what the registers that report live state
show, and what a read removes or latches (R28 to R41, R576). -/

namespace Sys2Proof.Machine

/-! ### Table windows (R32, R33, R38) -/

/-- The domain that owns the window at an offset of the die window. -/
def windowDomain (o : Nat) : Nat :=
  match o / 0x100000 with
  | 1 => 9
  | 2 => 10
  | 3 => 8
  | 4 => 11
  | 5 | 6 => 12
  | _ => 0

/-- The windows that are privileged in whole: the NV store, the MSI-X table and the pending bits (R38). -/
def windowPrivileged (d o : Nat) : Bool :=
  (decide (0x800000 ≤ o) && decide (o < 0xA00000)) || (d == 0 && decide (0xF00000 ≤ o) && decide (o < 0xF04080))

def inNv (o : Nat) : Bool := decide (0x800000 ≤ o) && decide (o < 0xA00000)

/-- The offset of a window is part of its layout (R32, R70, R134, R137, R240, R334, R398). -/
def windowUsed (d o : Nat) : Bool :=
  let w := o % 0x100000
  match o / 0x100000 with
  | 1 | 2 => decide (w < 0x80080) || (decide (0x81000 ≤ w) && decide (w < 0x82800)) || (decide (0x83000 ≤ w) && decide (w < 0x84800)) ||
      (decide (0x85000 ≤ w) && decide (w < 0x85200)) || (decide (0x86000 ≤ w) && decide (w < 0x87000))
  | 3 => decide (w < 0x6000) || (decide (0x80000 ≤ w) && decide (w < 0x80200))
  | 4 => decide (w < 0x4000)
  | 5 => decide (w < 0x5000) || (decide (0x8000 ≤ w) && decide (w < 0x10000))
  | 6 => decide (w < 0x1400)
  | 7 => d == 0 && decide (w < 0x4000)
  | 8 | 9 => true
  | 15 => d == 0 && decide (w < 0x4080)
  | _ => false

/-! ### The page header (R34) -/

/-- PAGE_CAP.UNITS; 0xFF stands for the 512 cues (R483). -/
def pageUnitCount (d p : Nat) : Nat := if p = 0x60 then 0xFF else (pageUnits d p).length

/-- The block has a table window (R32): stations' tables, job rings, cues, loop contexts and profiles, the frame queue, the NV
store. -/
def pageHasTable (d p : Nat) : Bool :=
  match Layout.pageKind p with
  | some (.staP, _) | some (.stimP, _) | some (.codecP, _) | some (.cueP, _) | some (.loopP, _) | some (.nvsP, _) => true
  | some (.frameP, _) => d == 0
  | _ => false

/-- A page holds RWS fields. -/
def pageShadowed (p : Nat) : Bool :=
  match Layout.pageKind p with
  | some (k, _) => (Layout.blockRegs k).any (fun r => rwsMask r != 0)
  | none => false

def pageCap (d p : Nat) : Nat :=
  b2n (pageShadowed p) + 2 * b2n (pageUnitCount d p != 0) + 4 * b2n (decide (3 ≤ pageDomain p)) + 8 * b2n (pageHasTable d p) +
    256 * pageUnitCount d p

/-- PAGE_STAT.BUSY: the block has work in progress (log 80). -/
def pageBusy (d p : Nat) (s : State) : Bool :=
  match Layout.pageKind p with
  | some (.ctrlP, _) => d == 0 && (xtxnState s == 1 || xtxnState s == 2)
  | some (.txnP, i) => slotBusy d i s
  | some (.frameP, _) => d == 0 && (List.range 64).any (fun i => (slotOf i s).st != 0 && (slotOf i s).st != 8)
  | some (.codecP, _) => (List.range 24).any (fun n => (dlaneOf d n s).work.isSome) || (List.range 8).any (fun n => (jobOf d n s).isSome)
  | some (.laneP, n) => rd (R.LANE.EYE_STAT_STATE d n) s == 1 || (decide (1 ≤ laneSt d n s) && decide (laneSt d n s ≤ 4))
  | some (.rlnkP, _) => !(rasterOf d s).queue.isEmpty || !(rasterOf d s).partials.isEmpty
  | some (.elnkP, _) => (ethOf 0 s).run.isSome || (ethOf 1 s).run.isSome
  | some (.memcP, _) => rd (R.MEMC.MSTAT_STATE d) s == 1
  | some (.dmaP, _) => (List.range 8).any (fun n => (dmaOf d n s).cur.isSome)
  | some (.staP, l) => (staOf (2 * d + l) s).planes.any (fun x => x.active)
  | some (.stimP, l) => timSt (2 * d + l) s != 0
  | some (.shlP, l) => !(headOf (2 * d + l) s).waiting.isEmpty || !(headOf (2 * d + l) s).replay.isEmpty
  | some (.cueP, _) => (List.range 512).any (fun n => (cueOf d n s).acting || (cueOf d n s).due.isSome)
  | some (.stepP, _) => (List.range 8).any (fun n => stepPhase d n s != 0)
  | some (.focP, _) => (List.range 4).any (fun n => focState d n s != 0)
  | some (.loopP, _) => !(enabledLoops d s).isEmpty
  | some (.pioP, _) => flag (R.PIO.CAL_STAT_BUSY d) s || flag (R.PIO.AGE_CTL_BUSY d 0) s || flag (R.PIO.AGE_CTL_BUSY d 1) s
  | some (.nvsP, _) => d == 0 && s.logBusy.isSome
  | _ => false

/-- PAGE_STAT. A domain that powers down does so within the step, so PWR is never 3. -/
def pageStat (d p : Nat) (s : State) : Nat :=
  let x := domainOf d (pageDomain p) s
  let st := if x.st ≠ 2 then 0 else if !x.rel then 1 else if flag (R.HDR.PAGE_CTL_EN d p) s then 3 else 2
  st + 4 * b2n ((pageUnits d p).any (fun u => isFenced u s)) + 8 * b2n (pageBusy d p s) + 16 * b2n x.good + 32 * x.st

/-- FLT_CLASS.PEND. -/
def pagePend (d p : Nat) (s : State) : Nat :=
  (List.range 32).foldl (fun m i => if testBit (rd (R.HDR.FLT_STAT_FLT d p) s) i then Nat.max m (faultClass p i) else m) 0

def headerValue (d p o : Nat) (s : State) : Nat :=
  if o = 0 then p + 256 * d + 0x10000 + 0xA5000000
  else if o = 4 then pageCap d p
  else if o = 0xC then pageStat d p s
  else if o = 0x24 then pagePend d p s
  else (word (Layout.addr d p o) s).toNat

/-! ### Registers that report live state -/

/-- The frames that a station images or is to image, in queue states LOADING to IMAGING. -/
def stationFrames (k : Nat) (s : State) : List Nat :=
  (List.range 64).filter (fun i => decide (1 ≤ (slotOf i s).st) && decide ((slotOf i s).st ≤ 5) && (frameStations i s).contains k &&
    !(slotOf i s).ended.contains k)

/-- The slot with the earliest FSN (R11). -/
def earliest : List Nat → State → Option Nat
  | [], _ => none
  | i :: t, s => match earliest t s with
    | none => some i
    | some j => if later 32 (frameFsn i s) (frameFsn j s) then some j else some i

/-- The frame that station `k` images, or else the next (R96). -/
def frameShown (k : Nat) (s : State) : Option Nat :=
  let all := stationFrames k s
  match earliest (all.filter (fun i => (slotOf i s).st == 5 && (slotOf i s).begun.contains k)) s with
  | some i => some i
  | none => earliest all s

/-- PL_FSN and PL_POS (R83, R96). -/
def planeView (k : Nat) (pos : Bool) (s : State) : Nat :=
  match frameShown k s with
  | none => 0
  | some i =>
    if pos then
      (planeOf i k s).imaging % 65536 + 65536 * (match planeLead i k s with | none => 0xFFFF | some n => Nat.min n 0xFFFE)
    else frameFsn i s

def slotsIn (lo hi : Nat) (s : State) : List Nat :=
  (List.range 64).filter (fun i => decide (lo ≤ (slotOf i s).st) && decide ((slotOf i s).st ≤ hi))

/-- LSTAT and LFSN (R97). The oldest IMAGING frame is the one with the earliest FSN (DESIGN CHOICE, log 149). -/
def legacyView (o : Nat) (s : State) : Nat :=
  let free := !(slotsIn 0 0 s).isEmpty
  let img := slotsIn 5 5 s
  let fsn := match earliest img s with | some i => frameFsn i s | none => 0
  if o = 0x44 then fsn
  else b2n free + 2 * b2n (!img.isEmpty) + 4 * b2n (!free) + 8 * b2n ((allPages 0 s).any (fun p => pagePend 0 p s != 0)) +
    16 * Nat.min 15 (slotsIn 1 4 s).length + 256 * (fsn % 256) + 65536 * Nat.min 255 s.spoils

/-- The FRAME registers that report the queue, the retention directory and the FIFOs (R96); an empty FIFO reads 0 (log 82). -/
def frameView (d o : Nat) (s : State) : Option Nat :=
  if 0x100 ≤ o ∧ o < 0x110 then some (planeView (2 * d + (o - 0x100) / 8) (o % 8 == 4) s)
  else if d ≠ 0 then none
  else if o = 0x4C then
    some ((slotsIn 0 0 s).length + 256 * (((List.range 64).find? (fun i => slotFree i s && hostReserved i s)).getD 0))
  else if o = 0x60 then
    some ((s.retained.filter (fun e => e.2.use == 2)).length + 65536 * (s.retained.filter (fun e => e.2.use == 1)).length)
  else if 0x80 ≤ o ∧ o < 0xA0 then
    some ((List.range 8).foldl (fun v j => v + 16 ^ j * (slotOf (8 * ((o - 0x80) / 4) + j) s).st) 0)
  else if o = 0xA0 then some (s.freed.headD 0)
  else if o = 0xA4 then some s.freed.length
  else if o = 0xB0 then some (match s.spoilLog with | e :: _ => e.fsn | [] => 0)
  else if o = 0xB4 then
    some (match s.spoilLog with
      | e :: _ => e.cause + 16 * e.station + 256 * (e.course % 65536) + 16777216 * b2n e.requeued + 33554432 * b2n e.retained + 2147483648
      | [] => 0)
  else if o = 0xB8 then some (withBits (word (R.FRAME.SPOIL_STAT_LOST 0).addr s).toNat 0 5 s.spoilLog.length)
  else none

/-- CODEC.DLANE_BUSY and CLANE_STAT (R154). -/
def codecView (d o : Nat) (s : State) : Option Nat :=
  let mask (n : Nat) (f : Nat → Bool) : Nat := (List.range n).foldl (fun v i => v + 2 ^ i * b2n (f i)) 0
  if o = 0x4C then some (mask 24 (fun n => (dlaneOf d n s).work.isSome))
  else if o = 0x50 then
    some (mask 8 (fun n => (jobOf d n s).isSome) + 256 * mask 8 (fun n => match jobOf d n s with | some j => j.bg | none => false) +
      65536 * mask 8 (fun n => isFenced (.comp d n) s))
  else none

/-- ISL_GOOD.MASK (R558). -/
def islGood (d : Nat) (s : State) : Nat :=
  ([0, 1, 8, 9, 10, 11, 12, 13, 7].zipIdx).foldl (fun v e => v + 2 ^ e.2 * b2n (domainOf d e.1 s).good) 512

/-- DIE.FLT_SUM[i]. -/
def fltSum (d i : Nat) (s : State) : Nat := (List.range 32).foldl (fun v b => v + 2 ^ b * b2n (fltLine d (32 * i + b) s)) 0

/-- What a block register that reports live state shows; none: what is stored. -/
def liveView (d p o : Nat) (s : State) : Option Nat :=
  let w := (word (Layout.addr d p o) s).toNat
  match Layout.pageKind p with
  | some (.dieP, _) =>
    if o = 0x108 ∧ d = 0 then some (dieFencedWord s + 256 * b2n s.safeStop)
    else if 0x120 ≤ o ∧ o < 0x140 then some (fltSum d ((o - 0x120) / 4) s) else none
  | some (.ctrlP, _) => if o = 0x108 ∧ d = 0 then some (withBits w (R.CTRL.ERR_STAT_PIN 0).lsb 1 (b2n (errLow s))) else none
  | some (.pwrP, _) =>
    if o = 0x40 then some (domStat d s)
    else if o = 0x44 then some ((List.range 14).foldl (fun v i => v + 2 ^ i * b2n (domWanted d i s)) 0)
    else if o = 0x48 then some (domHeld d s) else none
  | some (.nvsP, _) =>
    if o = 0x44 then some (withBits w 0 1 (b2n ((d == 0 && s.logBusy.isSome) || 2 ≤ (ageOf (2 * d) s).action || 2 ≤ (ageOf (2 * d + 1) s).action)))
    else none
  | some (.rstP, _) =>
    if o = 0x4C then some (s.straps.boot + 16 * s.straps.clkm + 256 * s.straps.prof + 4096 * b2n s.straps.legacy + 32768 * b2n s.straps.bad)
    else if o = 0x58 then some (dogRemain d s) else none
  | some (.clkP, _) => if o = 0x64 then some (islGood d s) else none
  | some (.timeP, _) =>
    if o = 0x40 ∨ o = 0x48 then some (stime d s)
    else if o = 0x5C then some (counterC d s % 4294967296)
    else if o = 0x80 ∧ d = 0 then some s.master.ns else none
  | some (.frameP, _) => frameView d o s
  | some (.legacyP, _) => some (legacyView o s)
  | some (.codecP, _) => codecView d o s
  | some (.dmaP, _) =>
    if o % 0x40 = 0x14 then (if isFenced (.dma d ((o - 0x100) / 0x40)) s then some (withBits w 0 2 3) else none) else none
  | some (.staP, l) => if o = 0x50 then some (plumbStat (2 * d + l) s) else none
  | some (.sprotP, l) =>
    let k := 2 * d + l
    if o = 0x44 then
      some (withBits (withBits w (R.SPROT.GATE_STAT_ILK_IN d l).lsb 1 (b2n s.ilkIn)) (R.SPROT.GATE_STAT_HOK_IN d l).lsb 1 (b2n (s.hokIn.contains k)))
    else if o = 0x7C then some (dutyValue k s) else none
  | some (.cueP, _) =>
    if 0x160 ≤ o ∧ o < 0x1A0 ∧ o % 8 = 0 then some ((counterOf d ((o - 0x160) / 8) s).count % 4294967296) else none
  | some (.pioP, _) =>
    if 0x104 ≤ o ∧ o < 0x124 ∧ o % 8 = 4 then
      some (withBits w (R.PIO.HTR_STAT_ON d 0).lsb 1 (b2n (heaterHigh d ((o - 0x104) / 8) s)))
    else none
  | some (.gpioP, _) => if o = 0x40 then some (gpioInRead d s) else if o = 0x44 then some (gpioOutRead d s) else none
  | _ => none

/-- What a read of a block register latches or removes (R89, R94, R322, R355, R357, R451, R452). -/
def readEffect (d p o : Nat) (s : State) : State :=
  match Layout.pageKind p with
  | some (.timeP, _) =>
    if o = 0x40 then wr (R.TIME.LT_HI_LTIME d) (ltime d s / 4294967296) s
    else if o = 0x5C then wr (R.TIME.FRC_HI_COUNT d) (counterC d s / 4294967296) s
    else if o = 0x80 ∧ d = 0 then wr (R.TIME.MT_SEC_HI_SEC 0) (s.master.sec / 4294967296) (wr (R.TIME.MT_SEC_LO_SEC 0) s.master.sec s)
    else s
  | some (.frameP, _) => if d = 0 ∧ o = 0xA0 then freedPop s else if d = 0 ∧ o = 0xB4 then spoilPop s else s
  | some (.cueP, _) =>
    if 0x160 ≤ o ∧ o < 0x1A0 ∧ o % 8 = 0 then
      let c := (o - 0x160) / 8
      wr (R.CUE.POS_HI_COUNT d c) ((counterOf d c s).count / 4294967296) s
    else if d = 0 ∧ o = 0x3C0 then purgePop s else s
  | some (.pioP, _) => if 0x450 ≤ o ∧ o < 0x460 then markPop d ((o - 0x450) / 4) s else s
  | _ => s

/-! ### The read (R28, R29, R33, R37, R41, R495, R537) -/

/-- The number of a requester (R39). -/
def rqCode : Requester → Nat
  | .host => 0
  | .boot => 1
  | .jtag => 2

/-- The register writes of a requester landed on die `d`, or on any die for D0 (R41). -/
def landedOn (rq : Requester) (d : Nat) (s : State) : Nat :=
  mapGet (fun _ => 0) s.landed (16 * rqCode rq + (if d = 0 then 8 else d))

/-- D0 serves no register access: it is in reset (R537), or the host's endpoint is not ready. -/
def accessDown (a : Access) (s : State) : Bool := (releaseOf 0 s).phase != 9 || (a.rq == .host && !s.pcieUp)

/-- Die `d` answers reads: it is out of reset and reachable (R16, R495). -/
def dieAnswers (d : Nat) (s : State) : Bool := dieUp d s && reachable d s

/-- The bits that a BAR2 access does not see (R9). -/
def hiddenBits (a : Access) (r : RegD) : Nat := if a.bar2 then privMask r else 0

def windowValue (a : Access) (d o : Nat) (s : State) : Nat × State :=
  if (a.bar2 && windowPrivileged d o) || !windowUsed d o || domSt d (windowDomain o) s != 2 then (0, s)
  else if inNv o then
    let r := nvReadChecked d (o - 0x800000) 4 s
    (leNat r.1, r.2.2)
  else ((word (d * 0x1000000 + o) s).toNat, s)

def pageValue (a : Access) (d p o : Nat) (s : State) : Nat × State :=
  match Layout.pageKind p with
  | none => (0, s)
  | some (k, _) =>
    match Layout.find k o with
    | none => (0, s)
    | some r =>
      if !pagePresent d p s || (r.d0Only && d != 0) then (0, s)
      else
        let m := 0xFFFFFFFF - hiddenBits a r
        if o < 0x40 then (headerValue d p o s &&& m, s)
        else if domSt d (pageDomain p) s ≠ 2 then (0, s)
        else if p = 1 ∧ o = 0x40 then (landedOn a.rq d s, s)
        else (((liveView d p o s).getD (word (Layout.addr d p o) s).toNat) &&& m, readEffect d p o s)

/-- A read of the doubleword at an offset of BAR0 or BAR2: the value, and the state after it. -/
def readReg (a : Access) (off : Nat) (s : State) : Nat × State :=
  let x := off / 4 * 4
  let d := x / 0x1000000
  let o := x % 0x1000000
  if accessDown a s || decide (0x8000000 ≤ off) then (0, s)
  else if s.dies ≤ d then (0, accErr 0 false x s)
  else if !dieAnswers d s then (0, s)
  else if 0x100000 ≤ o then windowValue a d o s
  else pageValue a d (o / 0x1000) (o % 0x1000) s

/-- A read whose completion goes back to its requester. -/
def readBack (a : Access) (off : Nat) (s : State) : State :=
  let r := readReg a off s
  { r.2 with resp := { value := BitVec.ofNat 32 r.1 } }

end Sys2Proof.Machine
end

