-- ==== Sys2Proof/Machine/Store.lean ====
section
/-! DEFINITION. What a register write stores: the access types of R5, the views of R9, and the writes of the page header
(R34, R44, R46, R485, R491, R494). -/

namespace Sys2Proof.Machine

/-! ### Fields -/

/-- A register's word `w` after `v` is written to one of its fields (R5, R9). -/
def storeField (bar2 : Bool) (v w : Nat) (f : FieldD) : Nat :=
  if f.priv && bar2 then w
  else
    let old := bitsOf w f.lsb f.width
    let new := bitsOf v f.lsb f.width
    match f.acc with
    | .rw | .rws => clampField f (withBits w f.lsb f.width new)
    | .w1c => withBits w f.lsb f.width (old &&& (2 ^ f.width - 1 - new))
    | .w1s => withBits w f.lsb f.width (old ||| new)
    | .ro | .wo => w

/-- A write that reaches a register: who made it and through which view, the die, page and page offset, the register, its BAR0
offset, the word written, and what its write-only fields take of it. -/
structure RegWrite where
  rq : Requester
  bar2 : Bool
  d : Nat
  p : Nat
  o : Nat
  r : RegD
  v : Nat
  e : Nat

def RegWrite.at (w : RegWrite) : Nat := Layout.addr w.d w.p w.o

/-- The fields of the register take the word written. -/
def RegWrite.store (w : RegWrite) (s : State) : State :=
  putWord w.at (BitVec.ofNat 32 (w.r.fields.foldl (storeField w.bar2 w.v) (word w.at s).toNat)) s

/-- Only the W1C fields take the word written (R492). -/
def RegWrite.storeClears (w : RegWrite) (s : State) : State :=
  if w.bar2 then s
  else putWord w.at (BitVec.ofNat 32 ((w.r.fields.filter (fun f => f.acc == .w1c)).foldl (storeField false w.v) (word w.at s).toNat)) s

/-! ### The header -/

/-- Events that stay set while their cause lasts (R94, R125). -/
def heldEvents (d p : Nat) (s : State) : Nat :=
  match Layout.pageKind p with
  | some (.frameP, _) => if d = 0 ∧ !s.freedWait.isEmpty then 512 else 0
  | some (.codecP, _) => if (List.range 24).all (fun n => decodeRole d n s != 0) then 8 else 0
  | _ => 0

/-- R46: after a write of EVT_STAT, EVT_EN or FLT_STAT, messages for the lines that rose, and for a write from the host those
that are still asserted. -/
def lineMessages (rq : Requester) (d p : Nat) (evtBefore fltBefore : Bool) (s : State) : State :=
  let s1 := if evtLine d p s && (rq == .host || !evtBefore) then signalLine d p 0 s else s
  if fltLine d p s1 && (rq == .host || !fltBefore) then signalLine d p 1 s1 else s1

/-- A write of EVT_STAT, EVT_EN or FLT_STAT whose fields `f` stores. -/
def lineWrite (w : RegWrite) (f : State → State) (s : State) : State :=
  let s1 := f s
  let a := (R.HDR.EVT_STAT_EVT w.d w.p).addr
  let s2 := putWord a (word a s1 ||| BitVec.ofNat 32 (heldEvents w.d w.p s1)) s1
  lineMessages w.rq w.d w.p (evtLine w.d w.p s) (fltLine w.d w.p s) s2

/-- PAGE_CTL: EN and PWR_REQ are stored, then SRST, FENCE_REQ and UNFENCE act, then the changes of EN and PWR_REQ (DESIGN
CHOICE, log 83). The pages of the CTRL and MORT domains store PWR_REQ as 1 (R502). -/
def pageCtlWrite (w : RegWrite) (s : State) : State :=
  if w.bar2 then s
  else
    let en0 := flag (R.HDR.PAGE_CTL_EN w.d w.p) s
    let pwr0 := flag (R.HDR.PAGE_CTL_PWR_REQ w.d w.p) s
    let en := testBit w.v 0
    let pwr := testBit w.v 3 || decide (pageDomain w.p ≤ 1)
    let s1 := wr (R.HDR.PAGE_CTL_PWR_REQ w.d w.p) (b2n pwr) (wr (R.HDR.PAGE_CTL_EN w.d w.p) (b2n en) s)
    let s2 := if testBit w.v 1 then pageSrst w.d w.p s1 else s1
    let s3 := if testBit w.v 2 then fencePage w.d w.p s2 else s2
    let s4 := if testBit w.v 4 then unfencePage w.d w.p s3 else s3
    let s5 := if en != en0 then blockEnable w.d w.p s4 else s4
    if pwr != pwr0 then powerLook w.d s5 else s5

/-- A write of 1 to the VALID bit of an error record clears both its words. -/
def recordClear (w : RegWrite) (s : State) : State :=
  if testBit w.v 7 && !w.bar2 then putWord w.at 0 (putWord (w.at + 4) 0 s) else s

/-- A write of a header register. -/
def headerWrite (w : RegWrite) (s : State) : State :=
  if w.o = 8 then pageCtlWrite w s
  else if w.o = 0x10 ∨ w.o = 0x14 ∨ w.o = 0x1C then lineWrite w w.store s
  else if w.o = 0x18 then evtMask w.d w.p w.e s
  else if w.o = 0x20 then forceWord w.d w.p w.e s
  else if w.o = 0x28 ∨ w.o = 0x30 then recordClear w s
  else w.store s

/-- A write of a header register of a page whose only unit is fenced (R492). -/
def headerWriteFenced (w : RegWrite) (s : State) : State :=
  if w.o = 8 then (if testBit w.v 4 && !w.bar2 then unfencePage w.d w.p s else s)
  else if w.o = 0x10 ∨ w.o = 0x1C then lineWrite w w.storeClears s
  else if w.o = 0x28 ∨ w.o = 0x30 then recordClear w s
  else s

end Sys2Proof.Machine
end

