-- ==== Sys2Proof/Machine/Access.lean ====
section
/-! DEFINITION. Writes of the register space: the registers of each block with the effects of a write, the table windows, and
the write path common to all requesters (R28 to R41, R492, R495, R576). -/

namespace Sys2Proof.Machine

/-! ### Stations (R237 to R239, R268) -/

/-- A frame that prints on station `k` is ARMED or IMAGING (R238). -/
def stationHeld (k : Nat) (s : State) : Bool :=
  (List.range 64).any (fun i => ((slotOf i s).st == 4 || (slotOf i s).st == 5) && (frameStations i s).contains k)

/-- The station is enabled (R237). -/
def stationEnabled (k : Nat) (s : State) : Bool := blockOn (stDie k) (staPage (stLoc k)) s

/-- The station images a C8 plane that selects screen slot `j` (R237). -/
def screenActive (k j : Nat) (s : State) : Bool :=
  stationEnabled k s &&
    (staOf k s).planes.any (fun p => p.active &&
      (let q := planeDesc p.slot k s
       q.contone && screenSlot k q s == j))

def staWrite (w : RegWrite) (l : Nat) (s : State) : State :=
  let k := 2 * w.d + l
  if w.o = 0x40 ∨ w.o = 0x44 then
    if stationHeld k s then stationRefuse k 0 w.o s
    else
      let s1 := dutyResize k (reachUpdate k (w.store s))
      ledAcquire k (selectionChanged k (firstUnfired k s1) s1)
  else if w.o = 0x48 then rwsChanged w.d (w.p * 0x1000 + w.o) (w.store s)
  else if w.o = 0x4C then
    let old := rd (R.STA.PLUMB_CTL_REACH w.d l) s
    let s1 := w.store s
    let s2 := if rd (R.STA.PLUMB_CTL_REACH w.d l) s1 = old then s1
      else if stationHeld k s then stationRefuse k 0 w.o (wr (R.STA.PLUMB_CTL_REACH w.d l) old s1)
      else reachUpdate k s1
    rwsChanged w.d (w.p * 0x1000 + w.o) s2
  else if w.o = 0x54 ∨ w.o = 0x58 then
    if screenActive k ((w.o - 0x54) / 4) s then stationRefuse k 3 w.o s else w.store s
  else if w.o = 0x5C ∨ w.o = 0x60 then
    if stationEnabled k s && rd (R.STA.SEL_FACET_BANK w.d l) s == (w.o - 0x5C) / 4 then stationRefuse k 3 w.o s
    else facetUpdate k (w.store s)
  else w.store s

/-- The registers that R268 holds while a frame is ARMED or IMAGING. -/
def stimHeld (o : Nat) : Bool :=
  [0x40, 0x50, 0x54, 0x58, 0xA0, 0xA4, 0xA8, 0xAC, 0xB0].contains o || (decide (0x60 ≤ o) && decide (o < 0x80))

def stimWrite (w : RegWrite) (l : Nat) (s : State) : State :=
  let k := 2 * w.d + l
  let s1 := w.store s
  let lgBad := (w.o == 0xA4 || w.o == 0xA8) &&
    (decide (rd (R.STIM.LG_DEN_DEN w.d l) s1 < rd (R.STIM.LG_NUM_NUM w.d l) s1) || rd (R.STIM.LG_DEN_DEN w.d l) s1 == 0)
  if (stimHeld w.o && stationHeld k s) || lgBad then stationRefuse k 0 w.o s
  else if w.o = 0x40 then timingRun k s1
  else if w.o = 0x44 ∨ w.o = 0x48 ∨ w.o = 0x4C ∨ w.o = 0xB4 then linChanged k s (rwsChanged w.d (w.p * 0x1000 + w.o) s1)
  else s1

def shlWrite (w : RegWrite) (l : Nat) (s : State) : State :=
  let k := 2 * w.d + l
  let s1 := w.store s
  if w.o = 0x70 ∧ testBit w.e 31 = true then trimGo k s1
  else if w.o = 0x78 ∧ testBit w.e 31 = true then headcfgGo k s1
  else s1

def sprotWrite (w : RegWrite) (l : Nat) (s : State) : State :=
  let k := 2 * w.d + l
  let s1 := w.store s
  if w.o = 0x40 then
    let s2 := if testBit w.e 1 then rearmLatches k s1 else s1
    lenUpdate k s2
  else s1

/-! ### Lanes and the raster link -/

/-- LCFG keeps its RATE where the lane does not accept the code written (R157, R158). -/
def laneWrite (w : RegWrite) (n : Nat) (s : State) : State :=
  let s1 := w.store s
  if w.o = 0x40 then
    if rateAccepted w.d n (rd (R.LANE.LCFG_RATE w.d n) s1) then s1
    else evt w.d w.p 5 (wr (R.LANE.LCFG_RATE w.d n) (rd (R.LANE.LCFG_RATE w.d n) s) s1)
  else if w.o = 0x44 then laneCtl w.d n w.e s1
  else if w.o = 0x4C then
    let pre := rd (R.LANE.TXEQ_PRE w.d n) s1
    let post := rd (R.LANE.TXEQ_POST w.d n) s1
    let main := rd (R.LANE.TXEQ_MAIN w.d n) s1
    if 63 < pre + main + post ∨ main < 16 then evt w.d w.p 5 s else s1
  else s1

def rlnkWrite (w : RegWrite) (s : State) : State :=
  let s1 := w.store s
  if w.o = 0x40 then
    let s2 := if w.d = 0 ∧ rd (R.RLNK.CFG_WIDTH 0) s1 = 3 then wr (R.RLNK.CFG_WIDTH 0) 2 s1 else s1
    rasterForm w.d s2
  else if w.o = 0x44 then (if w.bar2 then s else routeWrite w.d w.v s)
  else if 0x48 ≤ w.o ∧ w.o ≤ 0x50 then creditCheck w.d s s1
  else s1

/-! ### The frame queue and the codec -/

def frameWrite (w : RegWrite) (s : State) : State :=
  if w.o = 0x40 then leadCheckAll (w.store s)
  else if w.o = 0x44 then frameSubmit (w.e % 64) s
  else if w.o = 0x5C then (if s.retained.any (fun x => x.2.use != 0) then s else w.store s)
  else if w.o = 0x6C then (if testBit w.e 31 then reprintGo (w.store s) else w.store s)
  else if w.o = 0x70 then frameRelease w.e s
  else if w.o = 0x74 then frameAbort w.e s
  else if w.o = 0x114 then resCtl w.d w.e s
  else w.store s

def codecWrite (w : RegWrite) (s : State) : State :=
  if w.o = 0x54 then codecUnfence w.d w.e s
  else if w.o = 0x70 then jobAbort w.d w.e s
  else w.store s

/-! ### Cues, paths and motion -/

def cueWrite (w : RegWrite) (s : State) : State :=
  if w.o = 0x40 then cueCtl w.d w.e s
  else if w.o = 0x50 then (if testBit w.e 31 then posAdjust w.d (w.e % 8) s else s)
  else if w.o = 0x300 ∨ w.o = 0x340 then pathEnable ((w.o - 0x300) / 0x40) (w.store s)
  else if w.o = 0x310 ∨ w.o = 0x350 then pathCtl ((w.o - 0x310) / 0x40) w.e s
  else w.store s

def stepWrite (w : RegWrite) (s : State) : State :=
  let n := (w.o - 0x100) / 0x40
  let s1 := w.store s
  match w.o % 0x40 with
  | 0x00 => stepClampV w.d n s1
  | 0x04 => stepEnable w.d n s1
  | 0x08 =>
    let s2 := stepClampV w.d n s1
    if rd (R.STEP.VMAX_V w.d n) s2 ≠ rd (R.STEP.VMAX_V w.d n) s then stepLimits w.d n s2 else s2
  | 0x0C => if rd (R.STEP.AMAX_A w.d n) s1 ≠ rd (R.STEP.AMAX_A w.d n) s then stepLimits w.d n s1 else s1
  | 0x10 => if rd (R.STEP.JMAX_J w.d n) s1 ≠ rd (R.STEP.JMAX_J w.d n) s then stepLimits w.d n s1 else s1
  | 0x18 => if stepPhase w.d n s ≠ 0 then wr (R.STEP.STAT_TGT_PEND w.d n) 1 s1 else s1
  | 0x1C =>
    if isFenced (.step w.d n) s then (if testBit w.e 3 then unfence w.d 0x68 (.step w.d n) s else s)
    else stepCtl w.d n (w.e % 8) s
  | 0x20 => if stepPhase w.d n s = 0 then s1 else stepRefuse w.d n s
  | _ => s1

/-- CFG0, CFG1 and ENC_CPR are refused outside OFF (R379 to R384), with FOC.EVT_STAT bit 16, through BAR2 too (DESIGN CHOICE, log
141); CTL starts, stops and unfences (R386, R395). -/
def focWrite (w : RegWrite) (s : State) : State :=
  if 0x400 ≤ w.o then w.store s
  else
    let n := (w.o - 0x100) / 0x80
    let c := (w.o - 0x100) % 0x80
    if c ≤ 8 then (if focState w.d n s = 0 then w.store s else evt w.d 0x69 16 s)
    else if c = 0x40 then
      if isFenced (.foc w.d n) s then (if testBit w.e 1 then unfence w.d 0x69 (.foc w.d n) s else s)
      else
        let s1 := w.store s
        if flag (R.FOC.CTL_EN w.d n) s1 then s1 else focOff w.d n s1
    else w.store s

/-- CH_OFF < CH_ON < OV_REGEN < OV_HARD (R389). -/
def busOrder (d b : Nat) (s : State) : Bool :=
  decide (rd (R.BUS.CHOP_CFG_CH_OFF d b) s < rd (R.BUS.CHOP_CFG_CH_ON d b) s) &&
    decide (rd (R.BUS.CHOP_CFG_CH_ON d b) s < rd (R.BUS.VB_CFG_OV_REGEN d b) s) &&
    decide (rd (R.BUS.VB_CFG_OV_REGEN d b) s < rd (R.BUS.VB_CFG_OV_HARD d b) s)

def busWrite (w : RegWrite) (s : State) : State :=
  let b := (w.o - 0x100) / 0x40
  let c := w.o % 0x40
  if c = 0 ∨ c = 4 then (if busOrder w.d b (w.store s) then w.store s else evt w.d 0x6A 16 s)
  else if c = 0x10 then
    if isFenced (.bus w.d b) s then (if testBit w.e 1 then busUnfence w.d b s else s)
    else
      let s1 := busBrake w.d b (w.store s)
      if testBit w.e 2 then wr (R.BUS.BUS_STAT_CHOP_BAD w.d b) 0 s1 else s1
  else w.store s

def loopWrite (w : RegWrite) (s : State) : State := if w.o = 0x40 then loopCtl w.d w.e s else w.store s

/-! ### Process I/O, general-purpose pins -/

def pioWrite (w : RegWrite) (s : State) : State :=
  let s1 := w.store s
  if 0x100 ≤ w.o ∧ w.o < 0x120 ∧ w.o % 8 = 0 then
    let h := (w.o - 0x100) / 8
    if rd (R.PIO.HTR_CFG_MODE w.d h) s1 = 3 then wr (R.PIO.HTR_CFG_MODE w.d h) 0 s1 else s1
  else if 0x140 ≤ w.o ∧ w.o < 0x180 ∧ w.o % 8 = 0 then hvJudge w.d ((w.o - 0x140) / 8) s1
  else if w.o = 0x500 ∨ w.o = 0x540 then
    let l := (w.o - 0x500) / 0x40
    if w.bar2 then s else ageCtl (2 * w.d + l) (flag (R.PIO.AGE_CTL_EN w.d l) s) w.v s1
  else if w.o = 0x580 ∧ testBit w.e 31 = true then calGo w.d s1
  else s1

def gpioRegWrite (w : RegWrite) (s : State) : State :=
  if w.o = 0x44 then gpioWrite w.d w.v s
  else if w.o = 0x48 then gpioSet w.d w.e s
  else if w.o = 0x4C then gpioClr w.d w.e s
  else w.store s

/-! ### Time, network, memory -/

def timeWrite (w : RegWrite) (s : State) : State :=
  if w.o = 0x90 then (if w.bar2 then s else timeIncr (w.store s))
  else if w.o = 0x94 then (if w.bar2 then s else timeAdj w.e s)
  else if w.o = 0xA4 then (if testBit w.e 0 then timeSet s else s)
  else w.store s

/-- The sizes of the rings are held while the port is enabled (R453). -/
def elnkWrite (w : RegWrite) (s : State) : State :=
  if w.o < 0x100 then w.store s
  else
    let p := (w.o - 0x100) / 0x100
    let c := (w.o - 0x100) % 0x100
    let on := flag (R.ELNK.PCFG_EN 0 p) s
    if c = 0 then ethEnable p on (w.store s)
    else if c = 0x14 then txKick p (w.e % 8) s
    else if c = 0x18 then (if testBit w.e 0 then rxKick p s else s)
    else if on && (c == 0x28 || (decide (0x48 ≤ c) && decide (c < 0xC0) && c % 16 == 8)) then s
    else w.store s

/-- MCTL starts the controller; while it is ready, FITTED follows MCFG (R455). -/
def memcWrite (w : RegWrite) (s : State) : State :=
  if w.o = 0x44 then (if testBit w.e 0 then memInit w.d s else s)
  else if w.o = 0x40 then onlyIf (rd (R.MEMC.MSTAT_STATE w.d) s == 2) (memFitted w.d) (w.store s)
  else w.store s

def dmaWrite (w : RegWrite) (s : State) : State :=
  let n := (w.o - 0x100) / 0x40
  let c := w.o % 0x40
  let on := flag (R.DMA.CTL_EN w.d n) s
  if c ≤ 8 then (if on then evt w.d 0x39 24 s else w.store s)
  else if c = 0xC then
    if isFenced (.dma w.d n) s then (if testBit w.e 3 then unfence w.d 0x39 (.dma w.d n) s else s)
    else dmaCtl w.d n on w.v (w.store s)
  else w.store (onlyIf (c == 0x10) (dmaSettle w.d n) s)

/-! ### The control, transaction, reset, power and thermal pages -/

def dieWrite (w : RegWrite) (s : State) : State :=
  if w.o = 0x104 then wr ⟨w.at, 0, 1⟩ 0 (w.store s) else w.store s

/-- A write of EVT_SRC that asserts its source signals the source's vector (R45, R46). -/
def ctrlWrite (w : RegWrite) (s : State) : State :=
  if w.o = 0x80 then
    let s1 := if testBit w.e 0 then xtxnGo s else s
    if testBit w.e 1 then xtxnAbort s1 else s1
  else if 0x400 ≤ w.o then
    let s1 := w.store s
    if srcLine w.d (word w.at s1) s1 && !srcLine w.d (word w.at s) s then signalVector (128 * w.d + (w.o - 0x400) / 4) s1 else s1
  else w.store s

/-- R48: COUNT and the entries are held while the slot is checking or prepared. -/
def txnWrite (w : RegWrite) (i : Nat) (s : State) : State :=
  if w.o = 0x40 then slotCtl w.d i w.bar2 w.e s
  else if (w.o = 0x44 ∨ 0x400 ≤ w.o) ∧ slotBusy w.d i s = true then accErr 3 true w.at s
  else w.store s

/-- A watchdog's configuration: held once LOCK is 1; EN going to 1 starts the count (R534). -/
def dogWrite (w : RegWrite) (en lock : Loc) (i : Nat) (s : State) : State :=
  if flag lock s then s
  else
    let s1 := w.store s
    if flag en s1 && !flag en s then setDog i s1 else s1

/-- The programming of the fuses, by JTAG alone (R559). -/
def fusePgm (w : RegWrite) (s : State) : State :=
  if w.rq ≠ .jtag ∨ bitsOf w.e 8 8 ≠ 0x5A then s
  else
    let s1 := if testBit w.e 0 then wr (R.RST.FUSE_DIGEST_SET w.d) 1 s else s
    if testBit w.e 1 && flag (R.RST.FUSE_DIGEST_SET w.d) s1 then wr (R.RST.FUSE_LOCK w.d) 1 s1 else s1

def rstWrite (w : RegWrite) (s : State) : State :=
  if w.o = 0x40 then
    let s1 := w.store s
    if testBit w.e 0 && bitsOf w.e 8 8 == 0xA5 then softReset w.d s1 else s1
  else if w.o = 0x50 then dogWrite w (R.RST.WDT_CFG_EN w.d) (R.RST.WDT_CFG_LOCK w.d) w.d s
  else if w.o = 0x54 then (if w.e % 65536 = 0xC0DE then setDog w.d s else s)
  else if w.o = 0x60 then dogWrite w (R.RST.PKG_WDT_CFG_EN 0) (R.RST.PKG_WDT_CFG_LOCK 0) 8 s
  else if w.o = 0x64 then (if w.e % 65536 = 0xC0DE then setDog 8 s else s)
  else if w.o = 0x78 then fusePgm w s
  else if 0x80 ≤ w.o ∧ w.o < 0xA0 then
    if w.rq = .jtag ∧ flag (R.RST.FUSE_DIGEST_SET w.d) s = false then putWord w.at (BitVec.ofNat 32 w.v) s else s
  else w.store s

/-- A refused write sets SEQ.EVT_STAT bit 2, through BAR2 too (DESIGN CHOICE, log 141). -/
def seqWrite (w : RegWrite) (s : State) : State :=
  if w.o = 0x50 then railClear w.e s
  else if 0x100 ≤ w.o ∧ !railWritable ((w.o - 0x100) / 0x20) s = true then evt 0 0x13 2 s
  else w.store s

/-- WARN may not exceed CRIT − 16, nor CRIT 1,680 (R526). -/
def thermWrite (w : RegWrite) (s : State) : State :=
  let s1 := w.store s
  if w.o = 0x48 ∧ (thermCrit w.d s1 - 16 < thermWarn w.d s1 ∨ 1680 < thermCrit w.d s1) then evt w.d 0x14 5 s else s1

def nvsWrite (w : RegWrite) (s : State) : State :=
  if w.o = 0x58 then (if testBit w.e 0 then logTrigger 7 0 s else s) else w.store s

/-! ### A write of a block register -/

def blockWrite (w : RegWrite) (s : State) : State :=
  match Layout.pageKind w.p with
  | some (.dieP, _) => dieWrite w s
  | some (.ctrlP, _) => ctrlWrite w s
  | some (.txnP, i) => txnWrite w i s
  | some (.rstP, _) => rstWrite w s
  | some (.seqP, _) => seqWrite w s
  | some (.thermP, _) => thermWrite w s
  | some (.nvsP, _) => nvsWrite w s
  | some (.laneP, n) => laneWrite w n s
  | some (.rlnkP, _) => rlnkWrite w s
  | some (.elnkP, _) => elnkWrite w s
  | some (.timeP, _) => timeWrite w s
  | some (.memcP, _) => memcWrite w s
  | some (.dmaP, _) => dmaWrite w s
  | some (.codecP, _) => codecWrite w s
  | some (.frameP, _) => frameWrite w s
  | some (.staP, l) => staWrite w l s
  | some (.stimP, l) => stimWrite w l s
  | some (.shlP, l) => shlWrite w l s
  | some (.sprotP, l) => sprotWrite w l s
  | some (.cueP, _) => cueWrite w s
  | some (.stepP, _) => stepWrite w s
  | some (.focP, _) => focWrite w s
  | some (.busP, _) => busWrite w s
  | some (.loopP, _) => loopWrite w s
  | some (.pioP, _) => pioWrite w s
  | some (.gpioP, _) => gpioRegWrite w s
  | _ => w.store s

/-- The unit that alone has the register at an offset of a page of several units (R492). -/
def unitAt (d p o : Nat) : Option UnitId :=
  match Layout.pageKind p with
  | some (.stepP, _) => if 0x100 ≤ o then some (.step d ((o - 0x100) / 0x40)) else none
  | some (.focP, _) => if 0x400 ≤ o then some (.foc d ((o - 0x400) / 0x40)) else if 0x100 ≤ o then some (.foc d ((o - 0x100) / 0x80)) else none
  | some (.busP, _) => if 0x100 ≤ o then some (.bus d ((o - 0x100) / 0x40)) else none
  | some (.dmaP, _) => if 0x100 ≤ o then some (.dma d ((o - 0x100) / 0x40)) else none
  | some (.loopP, _) =>
    if 0x400 ≤ o ∧ o < 0x680 then some (.loop d ((o - 0x400) / 4))
    else if 0x700 ≤ o ∧ o < 0x980 then some (.loop d ((o - 0x700) / 4)) else none
  | some (.elnkP, _) => if 0x100 ≤ o then some (.eth ((o - 0x100) / 0x100)) else none
  | _ => none

/-- The register holds the unfence command of its own unit (R493). -/
def holdsUnfence (p o : Nat) : Bool :=
  match Layout.pageKind p with
  | some (.stepP, _) => o % 0x40 == 0x1C
  | some (.focP, _) => decide (o < 0x400) && (o - 0x100) % 0x80 == 0x40
  | some (.busP, _) => o % 0x40 == 0x10
  | some (.dmaP, _) => o % 0x40 == 0xC
  | _ => false

/-- The page's only unit is fenced (R492). -/
def pageFenced (d p : Nat) (s : State) : Bool :=
  match pageUnits d p with
  | [u] => isFenced u s
  | _ => false

/-- A write of a register of a present page whose block is powered. -/
def registerWrite (w : RegWrite) (s : State) : State :=
  if w.o < 0x40 then (if pageFenced w.d w.p s then headerWriteFenced w s else headerWrite w s)
  else if pageFenced w.d w.p s then w.storeClears s
  else match unitAt w.d w.p w.o with
    | some u => if isFenced u s && !holdsUnfence w.p w.o then s else blockWrite w s
    | none => blockWrite w s

/-! ### The table windows (R32, R70, R237, R334, R404, R517) -/

/-- A word of a station's window: an active bank or screen slot is refused; the other words are stored. -/
def stationTableWrite (k o : Nat) (v : Word) (s : State) : State :=
  let d := stDie k
  let l := stLoc k
  let on := stationEnabled k s
  let put := putWord (staWin k + o) v
  if o < 0x80000 then (if screenActive k (o / 0x40000) s then stationRefuse k 2 o s else put s)
  else if o < 0x80080 then
    if on && rd (R.STA.SEL_TONE_BANK d l) s == (o - 0x80000) / 0x40 then stationRefuse k 1 o s else put s
  else if o < 0x85000 then
    if on && rd (R.STA.SEL_PLUMB_BANK d l) s == (o - 0x81000) / 0x2000 then stationRefuse k 1 o s else put s
  else if o < 0x86000 then
    if on && rd (R.STA.SEL_FACET_BANK d l) s == (o - 0x85000) / 0x100 then stationRefuse k 1 o s else facetUpdate k (put s)
  else if on && rd (R.STIM.LIN_LIN_BANK d l) s == (o - 0x86000) / 0x400 then stationRefuse k 1 o s
  else put s

/-- A word of a loop context, table or profile (R404). -/
def loopTableWrite (d o : Nat) (v : Word) (s : State) : State :=
  let i := o % 0x100000 / 128
  if o / 0x100000 = 5 ∧ o % 0x100000 < 0x5000 ∧ loopEnabled d i s = true ∧
      (List.range 4).any (fun j => loopGuarded (o % 128 + j)) = true then evt d 0x70 2 s
  else putWord (d * 0x1000000 + o) v s

/-- A word of the MSI-X table: a vector that is unmasked sends what is pending. The pending bits are read-only (log 5). -/
def msixWrite (o : Nat) (v : Word) (s : State) : State :=
  if 0xF04000 ≤ o then s
  else
    let s1 := putWord o v s
    let n := (o - 0xF00000) / 16
    if !testBit (word (msixAddr n 3) s1).toNat 0 && testBit (word (msixPbaAddr n) s1).toNat (n % 32) then
      signalVector n (putWord (msixPbaAddr n) (BitVec.ofNat 32 (withBits (word (msixPbaAddr n) s1).toNat (n % 32) 1 0)) s1)
    else s1

def windowWrite (rq : Requester) (d o : Nat) (v : Word) (s : State) : State :=
  let w := o % 0x100000
  match o / 0x100000 with
  | 1 => stationTableWrite (2 * d) w v s
  | 2 => stationTableWrite (2 * d + 1) w v s
  | 4 => if cueArmed d (w / 32) s then cueError d (w / 32) 5 s else putWord (d * 0x1000000 + o) v s
  | 5 | 6 => loopTableWrite d o v s
  | 7 =>
    if slotFree (w / 256) s && (rq != .host || hostReserved (w / 256) s) then putWord (d * 0x1000000 + o) v s else s
  | 8 | 9 => nvHostWrite d (o - 0x800000) v.toNat 15 s
  | 15 => msixWrite o v s
  | _ => putWord (d * 0x1000000 + o) v s

/-! ### The write path -/

/-- The write is counted as landed for its requester (R41). -/
def landWrite (rq : Requester) (d : Nat) (s : State) : State :=
  let up (k : Nat) (l : List (Nat × Nat)) := mapSet (fun _ => 0) l k ((mapGet (fun _ => 0) l k + 1) % 4294967296)
  let l1 := up (16 * rqCode rq + 8) s.landed
  { s with landed := if 1 ≤ d ∧ d < s.dies then up (16 * rqCode rq + d) l1 else l1 }

/-- A BAR2 write that is a privilege violation whatever becomes of it (R37, R38). A register that only D0 has is absent from a
member die, so a write there is none (DESIGN CHOICE, log 140). -/
def violates (a : Access) (d o : Nat) (s : State) : Bool :=
  a.bar2 &&
    (if 0x100000 ≤ o then windowPrivileged d o
     else pagePresent d (o / 0x1000) s && (match regAt d o with | some r => privMask r != 0 | none => false))

/-- A whole word written to an answering die. -/
def acceptedWrite (a : Access) (d o x : Nat) (v : Word) (s : State) : State :=
  let p := o / 0x1000
  if dieFenced d s && !(decide (o < 0x100000) && p == 0x10) then accErr 4 true x s
  else if 0x100000 ≤ o then
    if domSt d (windowDomain o) s ≠ 2 then accErr 2 true x s
    else if !windowUsed d o || (a.bar2 && windowPrivileged d o) then s
    else windowWrite a.rq d o v s
  else
    match regAt d o with
    | none => s
    | some r =>
      if !pagePresent d p s then s
      else if 0x40 ≤ o % 0x1000 ∧ domSt d (pageDomain p) s ≠ 2 then accErr 2 true x s
      else
        registerWrite { rq := a.rq, bar2 := a.bar2, d := d, p := p, o := o % 0x1000, r := r, v := v.toNat
                        e := v.toNat &&& (0xFFFFFFFF - hiddenBits a r) } s

/-- R27: what base address register `i` of the PCIe function reads as, where the host has written `placed`: registers 1 and 3 and
the expansion ROM's (6) are not implemented and read 0. No command of the block reads configuration space (log 139). -/
def configBar (i placed : Nat) : Nat := if i = 1 ∨ i = 3 ∨ i = 6 then 0 else placed

/-- A write of `v` with byte enables `be` at an offset of BAR0 or BAR2; an offset beyond the 128 MiB names nothing (R27). -/
def regWrite (a : Access) (off : Nat) (v : Word) (be : Nat) (s : State) : State :=
  let x := off / 4 * 4
  let d := x / 0x1000000
  let o := x % 0x1000000
  if accessDown a s || decide (0x8000000 ≤ off) then s
  else
    let s1 := landWrite a.rq d s
    if s.dies ≤ d then accErr 0 true x s1
    else
      let s2 := onlyIf (violates a d o s1) (privViolation x) s1
      if be % 16 ≠ 15 then accErr 1 true x s2
      else if !dieAnswers d s2 then (if dieFenced d s2 then accErr 4 true x s2 else s2)
      else acceptedWrite a d o x v s2

end Sys2Proof.Machine
end

