-- ==== Sys2Proof/Machine/Writes.lean ====
section
/-! DEFINITION. The commands that are writes and reads of the register space: REGISTER_WRITE, the rows that name one register,
and the reads with an effect. Each is the access it names, by the write path or the read of R28 to R41. -/

namespace Sys2Proof.Machine

/-- A whole-word write to a register; an index beyond the register's array names none. -/
def commandWrite (ok : Bool) (a : Access) (off : Nat) (v : Word) (s : State) : Host.Outcome State Fault Refusal :=
  .next (if ok then regWrite a off v 15 s else s)

/-- A read whose completion goes back to its requester. -/
def commandRead (ok : Bool) (a : Access) (off : Nat) (s : State) : Host.Outcome State Fault Refusal :=
  .next (if ok then readBack a off s else s)

/-! ### Any register (R40, R41, R535) -/

def execRegisterWrite (a : Access) (off : Nat) (v : Word) (be : Nat) (s : State) : Host.Outcome State Fault Refusal :=
  .next (regWrite a off v be s)

/-- FENCE_READ (R41): every earlier write of the requester has landed, so the count of landed writes is returned. -/
def execFenceRead (a : Access) (d : Nat) (s : State) : Host.Outcome State Fault Refusal :=
  commandRead true a (Layout.addr d 1 0x40) s

/-- The end of a JTAG access at the port of D0, which carries the JTAG requester (R555). -/
def tapFail (s : State) : State :=
  { s with taps := s.taps.map (fun t => if t.2.ir = 0x21 then (t.1, { t.2 with done := true, err := true }) else t) }

/-- ACCESS_TIMEOUT (R535): an access that an island accepted does not complete: a write is dropped, a read ends in an error
completion. -/
def execAccessTimeout (a : Access) (off : Nat) (write : Bool) (s : State) : Host.Outcome State Fault Refusal :=
  let x := off / 4 * 4
  let d := x / 0x1000000
  if accessDown a s || decide (0x8000000 ≤ off) || !dieAnswers d s then .next s
  else
    let s1 := if write then landWrite a.rq d s else { s with resp := { error := true } }
    let s2 := accErr 5 write x s1
    let s3 := if flag (R.RST.LOCKUP_VALID d) s2 then s2
      else wr (R.RST.LOCKUP_VALID d) 1 (wr (R.RST.LOCKUP_ADDR d) x s2)
    let s4 := recordFault d 0x10 3 false s3
    .next (if a.rq = .jtag then tapFail s4 else s4)

/-! ### The page header (R34, R491, R494, R502) -/

def execPageSrst (a : Access) (d p : Nat) (v : Word) (s : State) : Host.Outcome State Fault Refusal :=
  commandWrite (p < 256) a (Layout.addr d p 8) (v ||| 2) s

def execPageEnable (a : Access) (d p : Nat) (v : Word) (s : State) : Host.Outcome State Fault Refusal :=
  commandWrite (p < 256) a (Layout.addr d p 8) v s

def execFenceReq (a : Access) (d p : Nat) (v : Word) (s : State) : Host.Outcome State Fault Refusal :=
  commandWrite (p < 256) a (Layout.addr d p 8) (v ||| 4) s

def execUnfence (a : Access) (d p : Nat) (v : Word) (s : State) : Host.Outcome State Fault Refusal :=
  commandWrite (p < 256) a (Layout.addr d p 8) (v ||| 16) s

def execPwrReq (a : Access) (d p : Nat) (v : Word) (s : State) : Host.Outcome State Fault Refusal :=
  commandWrite (p < 256) a (Layout.addr d p 8) v s

def execEvtForce (a : Access) (d p : Nat) (v : Word) (s : State) : Host.Outcome State Fault Refusal :=
  commandWrite (p < 256) a (Layout.addr d p 0x18) v s

def execFltForce (a : Access) (d p : Nat) (v : Word) (s : State) : Host.Outcome State Fault Refusal :=
  commandWrite (p < 256) a (Layout.addr d p 0x20) v s

/-! ### Transactions (R48, R57) -/

def execTxnArm (a : Access) (d i : Nat) (v : Word) (s : State) : Host.Outcome State Fault Refusal :=
  commandWrite (i < 8) a (R.TXN.TXS_CTL_ARM d i).addr (v ||| 1) s

def execTxnAbort (a : Access) (d i : Nat) (v : Word) (s : State) : Host.Outcome State Fault Refusal :=
  commandWrite (i < 8) a (R.TXN.TXS_CTL_ARM d i).addr (v ||| 2) s

def execTxnClear (a : Access) (d i : Nat) (v : Word) (s : State) : Host.Outcome State Fault Refusal :=
  commandWrite (i < 8) a (R.TXN.TXS_CTL_ARM d i).addr (v ||| 4) s

def execXtxnGo (a : Access) (v : Word) (s : State) : Host.Outcome State Fault Refusal :=
  commandWrite true a (Layout.addr 0 1 0x80) (v ||| 1) s

def execXtxnAbort (a : Access) (v : Word) (s : State) : Host.Outcome State Fault Refusal :=
  commandWrite true a (Layout.addr 0 1 0x80) (v ||| 2) s

/-! ### Frames (R72 to R77, R89 to R95) -/

def execFrameSubmit (a : Access) (v : Word) (s : State) : Host.Outcome State Fault Refusal :=
  commandWrite true a (R.FRAME.Q_SUBMIT_SLOT 0).addr v s

def execResDeclare (a : Access) (d : Nat) (v : Word) (s : State) : Host.Outcome State Fault Refusal :=
  commandWrite true a (R.FRAME.RES_CTL_VALUE d).addr (v &&& 0xFDFFFFFF) s

def execResurvey (a : Access) (d : Nat) (v : Word) (s : State) : Host.Outcome State Fault Refusal :=
  commandWrite true a (R.FRAME.RES_CTL_VALUE d).addr (v ||| 0x2000000) s

def execReprint (a : Access) (v : Word) (s : State) : Host.Outcome State Fault Refusal :=
  commandWrite true a (R.FRAME.REPRINT_CTL_GO 0).addr (v ||| 0x80000000) s

def execFrameRelease (a : Access) (v : Word) (s : State) : Host.Outcome State Fault Refusal :=
  commandWrite true a (R.FRAME.RELEASE_FSN 0).addr v s

def execFrameAbort (a : Access) (v : Word) (s : State) : Host.Outcome State Fault Refusal :=
  commandWrite true a (R.FRAME.ABORT_FSN 0).addr v s

def execFreedFsnRead (a : Access) (s : State) : Host.Outcome State Fault Refusal :=
  commandRead true a (R.FRAME.FREED_FSN_FSN 0).addr s

def execSpoilLogRead (a : Access) (s : State) : Host.Outcome State Fault Refusal :=
  commandRead true a (R.FRAME.SPOIL_INFO_CAUSE 0).addr s

/-! ### Codec, lanes, links (R125, R137, R152, R170, R178, R203, R284, R285) -/

def execCodecLaneUnfence (a : Access) (d : Nat) (v : Word) (s : State) : Host.Outcome State Fault Refusal :=
  commandWrite true a (Layout.addr d 0x40 0x54) (v ||| 0x80000000) s

/-- JOB_SUBMIT: a write of the HEAD of the foreground ring, or of the background ring. -/
def execJobSubmit (a : Access) (d : Nat) (bg : Bool) (v : Word) (s : State) : Host.Outcome State Fault Refusal :=
  commandWrite true a (headLoc d bg).addr v s

def execJobAbort (a : Access) (d : Nat) (v : Word) (s : State) : Host.Outcome State Fault Refusal :=
  commandWrite true a (Layout.addr d 0x40 0x70) v s

def execLaneRetrain (a : Access) (d n : Nat) (v : Word) (s : State) : Host.Outcome State Fault Refusal :=
  commandWrite (n < 12) a (Layout.addr d (lanePage n) 0x44) (v ||| 1) s

def execEyeScanGo (a : Access) (d n : Nat) (v : Word) (s : State) : Host.Outcome State Fault Refusal :=
  commandWrite (n < 12) a (Layout.addr d (lanePage n) 0x44) (v ||| 2) s

def execEyeScanStop (a : Access) (d n : Nat) (v : Word) (s : State) : Host.Outcome State Fault Refusal :=
  commandWrite (n < 12) a (Layout.addr d (lanePage n) 0x44) (v ||| 4) s

def execRlRouteChange (a : Access) (d : Nat) (v : Word) (s : State) : Host.Outcome State Fault Refusal :=
  commandWrite true a (R.RLNK.ROUTE_EN d).addr v s

def execHeadcfgSend (a : Access) (k : Nat) (v : Word) (s : State) : Host.Outcome State Fault Refusal :=
  commandWrite true a (R.SHL.HCFG_CTL_DONE (stDie k) (stLoc k)).addr (v ||| 0x80000000) s

def execTrimSetSend (a : Access) (k : Nat) (v : Word) (s : State) : Host.Outcome State Fault Refusal :=
  commandWrite true a (R.SHL.TRIM_CTL_COUNT (stDie k) (stLoc k)).addr (v ||| 0x80000000) s

/-! ### Protection, calibration, marks (R300, R314 to R322) -/

def execRearm (a : Access) (k : Nat) (v : Word) (s : State) : Host.Outcome State Fault Refusal :=
  commandWrite true a (R.SPROT.LEN_CTL_REARM (stDie k) (stLoc k)).addr (v ||| 2) s

def execCalLoad (a : Access) (d : Nat) (v : Word) (s : State) : Host.Outcome State Fault Refusal :=
  commandWrite true a (R.PIO.CAL_LOAD_GO d).addr (v ||| 0x80000000) s

def execAgeRestore (a : Access) (k : Nat) (v : Word) (s : State) : Host.Outcome State Fault Refusal :=
  commandWrite true a (R.PIO.AGE_CTL_RESTORE (stDie k) (stLoc k)).addr (v ||| 2) s

def execAgeSave (a : Access) (k : Nat) (v : Word) (s : State) : Host.Outcome State Fault Refusal :=
  commandWrite true a (R.PIO.AGE_CTL_SAVE (stDie k) (stLoc k)).addr (v ||| 4) s

def execCkptNow (a : Access) (k : Nat) (v : Word) (s : State) : Host.Outcome State Fault Refusal :=
  commandWrite true a (R.PIO.AGE_CTL_CKPT_NOW (stDie k) (stLoc k)).addr (v ||| 8) s

def execMarkCaptureRead (a : Access) (d m : Nat) (s : State) : Host.Outcome State Fault Refusal :=
  commandRead (m < 4) a (R.PIO.MARK_P_LO_P d m).addr s

/-! ### Counters, cues, paths (R332, R337, R347 to R357) -/

def execPosAdj (a : Access) (d : Nat) (v : Word) (s : State) : Host.Outcome State Fault Refusal :=
  commandWrite true a (Layout.addr d 0x60 0x50) (v ||| 0x80000000) s

def execCueArm (a : Access) (d : Nat) (v : Word) (s : State) : Host.Outcome State Fault Refusal :=
  commandWrite true a (Layout.addr d 0x60 0x40) (v ||| 0x10000) s

def execCueDisarm (a : Access) (d : Nat) (v : Word) (s : State) : Host.Outcome State Fault Refusal :=
  commandWrite true a (Layout.addr d 0x60 0x40) (v ||| 0x20000) s

def execCueUnfence (a : Access) (d : Nat) (v : Word) (s : State) : Host.Outcome State Fault Refusal :=
  commandWrite true a (Layout.addr d 0x60 0x40) (v ||| 0x40000) s

def execPathEnable (a : Access) (p : Nat) (v : Word) (s : State) : Host.Outcome State Fault Refusal :=
  commandWrite (p < 2) a (R.CUE.PATH_CFG_EN 0 p).addr v s

def execPathStop (a : Access) (p : Nat) (v : Word) (s : State) : Host.Outcome State Fault Refusal :=
  commandWrite (p < 2) a (Layout.addr 0 0x60 (0x310 + 0x40 * p)) (v ||| 1) s

def execPathResume (a : Access) (p : Nat) (v : Word) (s : State) : Host.Outcome State Fault Refusal :=
  commandWrite (p < 2) a (Layout.addr 0 0x60 (0x310 + 0x40 * p)) (v ||| 2) s

def execPathClear (a : Access) (p : Nat) (v : Word) (s : State) : Host.Outcome State Fault Refusal :=
  commandWrite (p < 2) a (Layout.addr 0 0x60 (0x310 + 0x40 * p)) (v ||| 4) s

def execPurgeFsnRead (a : Access) (s : State) : Host.Outcome State Fault Refusal :=
  commandRead true a (R.CUE.PURGE_FSN_FSN 0).addr s

def execPosLoRead (a : Access) (d c : Nat) (s : State) : Host.Outcome State Fault Refusal :=
  commandRead (c < 8) a (Layout.addr d 0x60 (0x160 + 8 * c)) s

/-! ### Motion (R364, R371, R374, R386, R392, R395) -/

def execStepGo (a : Access) (d n : Nat) (v : Word) (s : State) : Host.Outcome State Fault Refusal :=
  commandWrite (n < 8) a (R.STEP.CTL_GO d n).addr (v ||| 1) s

def execStepStop (a : Access) (d n : Nat) (v : Word) (s : State) : Host.Outcome State Fault Refusal :=
  commandWrite (n < 8) a (R.STEP.CTL_STOP d n).addr (v ||| 2) s

def execStepQstop (a : Access) (d n : Nat) (v : Word) (s : State) : Host.Outcome State Fault Refusal :=
  commandWrite (n < 8) a (R.STEP.CTL_QSTOP d n).addr (v ||| 4) s

def execStepUnfence (a : Access) (d n : Nat) (v : Word) (s : State) : Host.Outcome State Fault Refusal :=
  commandWrite (n < 8) a (R.STEP.CTL_UNFENCE d n).addr (v ||| 8) s

def execFocUnfence (a : Access) (d n : Nat) (v : Word) (s : State) : Host.Outcome State Fault Refusal :=
  commandWrite (n < 4) a (R.FOC.CTL_EN d n).addr (v ||| 2) s

def execBusUnfence (a : Access) (d b : Nat) (v : Word) (s : State) : Host.Outcome State Fault Refusal :=
  commandWrite (b < 4) a (R.BUS.BUS_CTL_UNFENCE d b).addr (v ||| 2) s

def execChopBadClear (a : Access) (d b : Nat) (v : Word) (s : State) : Host.Outcome State Fault Refusal :=
  commandWrite (b < 4) a (R.BUS.BUS_CTL_CHOP_BAD_CLR d b).addr (v ||| 4) s

/-! ### Control loops and pins (R417, R428) -/

def execLoopEnable (a : Access) (d : Nat) (v : Word) (s : State) : Host.Outcome State Fault Refusal :=
  commandWrite true a (Layout.addr d 0x70 0x40) (v ||| 0x10000) s

def execLoopDisable (a : Access) (d : Nat) (v : Word) (s : State) : Host.Outcome State Fault Refusal :=
  commandWrite true a (Layout.addr d 0x70 0x40) (v ||| 0x20000) s

def execLoopAuto (a : Access) (d : Nat) (v : Word) (s : State) : Host.Outcome State Fault Refusal :=
  commandWrite true a (Layout.addr d 0x70 0x40) (v ||| 0x40000) s

def execLoopManual (a : Access) (d : Nat) (v : Word) (s : State) : Host.Outcome State Fault Refusal :=
  commandWrite true a (Layout.addr d 0x70 0x40) (v ||| 0x80000) s

def execLoopUnfence (a : Access) (d : Nat) (v : Word) (s : State) : Host.Outcome State Fault Refusal :=
  commandWrite true a (Layout.addr d 0x70 0x40) (v ||| 0x100000) s

def execGpioSet (a : Access) (d : Nat) (v : Word) (s : State) : Host.Outcome State Fault Refusal :=
  commandWrite true a (Layout.addr d 0x78 0x48) v s

def execGpioClr (a : Access) (d : Nat) (v : Word) (s : State) : Host.Outcome State Fault Refusal :=
  commandWrite true a (Layout.addr d 0x78 0x4C) v s

/-! ### Network and time (R437 to R440, R448, R452) -/

def execTxKick (a : Access) (p : Nat) (v : Word) (s : State) : Host.Outcome State Fault Refusal :=
  commandWrite (p < 2) a (Layout.addr 0 0x31 (0x114 + 0x100 * p)) v s

def execRxKick (a : Access) (p : Nat) (v : Word) (s : State) : Host.Outcome State Fault Refusal :=
  commandWrite (p < 2) a (Layout.addr 0 0x31 (0x118 + 0x100 * p)) (v ||| 1) s

def execTimeIncr (a : Access) (v : Word) (s : State) : Host.Outcome State Fault Refusal :=
  commandWrite true a (R.TIME.INCR_NS_NS 0).addr v s

def execTimeAdj (a : Access) (v : Word) (s : State) : Host.Outcome State Fault Refusal :=
  commandWrite true a (Layout.addr 0 0x32 0x94) v s

def execTimeSet (a : Access) (v : Word) (s : State) : Host.Outcome State Fault Refusal :=
  commandWrite true a (Layout.addr 0 0x32 0xA4) (v ||| 1) s

def execLtLoRead (a : Access) (d : Nat) (s : State) : Host.Outcome State Fault Refusal :=
  commandRead true a (Layout.addr d 0x32 0x40) s

def execFrcLoRead (a : Access) (d : Nat) (s : State) : Host.Outcome State Fault Refusal :=
  commandRead true a (Layout.addr d 0x32 0x5C) s

def execMtNsRead (a : Access) (s : State) : Host.Outcome State Fault Refusal :=
  commandRead true a (Layout.addr 0 0x32 0x80) s

/-! ### Page memory and DMA (R455, R464, R477) -/

def execMemInit (a : Access) (d : Nat) (v : Word) (s : State) : Host.Outcome State Fault Refusal :=
  commandWrite true a (Layout.addr d 0x38 0x44) (v ||| 1) s

/-- DMA_ENABLE: a write of CTL with the EN bit as `v` has it. -/
def execDmaEnable (a : Access) (d n : Nat) (v : Word) (s : State) : Host.Outcome State Fault Refusal :=
  commandWrite (n < 8) a (R.DMA.CTL_EN d n).addr v s

def execDmaKick (a : Access) (d n : Nat) (v : Word) (s : State) : Host.Outcome State Fault Refusal :=
  commandWrite (n < 8) a (R.DMA.CTL_EN d n).addr (v ||| 2) s

def execDmaAbort (a : Access) (d n : Nat) (v : Word) (s : State) : Host.Outcome State Fault Refusal :=
  commandWrite (n < 8) a (R.DMA.CTL_EN d n).addr (v ||| 4) s

def execDmaUnfence (a : Access) (d n : Nat) (v : Word) (s : State) : Host.Outcome State Fault Refusal :=
  commandWrite (n < 8) a (R.DMA.CTL_EN d n).addr (v ||| 8) s

/-! ### Rails, NV stores, resets, fuses (R508, R514, R517, R529, R534, R553) -/

def execRailRequest (a : Access) (v : Word) (s : State) : Host.Outcome State Fault Refusal :=
  commandWrite true a (R.SEQ.RAIL_REQ_REQ 0).addr v s

def execRailClear (a : Access) (v : Word) (s : State) : Host.Outcome State Fault Refusal :=
  commandWrite true a (Layout.addr 0 0x13 0x50) v s

def execLogSnap (a : Access) (v : Word) (s : State) : Host.Outcome State Fault Refusal :=
  commandWrite true a (R.NVS.LOG_CTL_SNAP 0).addr (v ||| 1) s

/-- NV_WRITE: a write of a word of the NV store window of die `d`, with byte enables. -/
def execNvWrite (a : Access) (d off : Nat) (v : Word) (be : Nat) (s : State) : Host.Outcome State Fault Refusal :=
  .next (regWrite a (d * 0x1000000 + 0x800000 + off % nvSize) v be s)

def execSoftwareReset (a : Access) (d : Nat) (v : Word) (s : State) : Host.Outcome State Fault Refusal :=
  commandWrite true a (R.RST.RST_CTL_GO d).addr (v ||| 1) s

def execWatchdogKick (a : Access) (d : Nat) (v : Word) (s : State) : Host.Outcome State Fault Refusal :=
  commandWrite true a (R.RST.WDT_KICK_KEY d).addr v s

def execPkgWatchdogKick (a : Access) (v : Word) (s : State) : Host.Outcome State Fault Refusal :=
  commandWrite true a (R.RST.PKG_WDT_KICK_KEY 0).addr v s

def execFuseBurn (a : Access) (v : Word) (s : State) : Host.Outcome State Fault Refusal :=
  commandWrite true a (R.RST.FUSE_PGM_BURN 0).addr (v ||| 1) s

def execFuseLock (a : Access) (v : Word) (s : State) : Host.Outcome State Fault Refusal :=
  commandWrite true a (R.RST.FUSE_PGM_LOCK 0).addr (v ||| 2) s

end Sys2Proof.Machine
end

