-- ==== Sys2Proof/Machine/Boot.lean ====
section
/-! DEFINITION. The boot engine of D0: SHA-256, the check of an image, and its records (R549 to R553). -/

namespace Sys2Proof.Machine

/-! ### SHA-256 (R550; the function itself PRESUMED, log 84) -/

/-- The greatest `r` of `b` bits, above the bits already in `r`, whose `k`-th power does not exceed `n`. -/
def floorRoot (k n : Nat) : Nat → Nat → Nat
  | 0, r => r
  | b + 1, r => floorRoot k n b (if (r + 2 ^ b) ^ k ≤ n then r + 2 ^ b else r)

/-- The first 64 primes. -/
def shaPrimes : List Nat :=
  (List.range 312).filter (fun p => decide (2 ≤ p) && (List.range 18).all (fun q => decide (q < 2) || decide (p ≤ q) || p % q != 0))

/-- The first 32 fraction bits of the `k`-th root of a prime. -/
def primeRoot (k p : Nat) : Word := BitVec.ofNat 32 (floorRoot k (p * 2 ^ (32 * k)) 37 0)

/-- The round constants. -/
def shaConstants : List Word := shaPrimes.map (primeRoot 3)

/-- The eight chaining words. -/
structure Sha where
  a : Word := primeRoot 2 2
  b : Word := primeRoot 2 3
  c : Word := primeRoot 2 5
  d : Word := primeRoot 2 7
  e : Word := primeRoot 2 11
  f : Word := primeRoot 2 13
  g : Word := primeRoot 2 17
  h : Word := primeRoot 2 19

/-- The message schedule: `n` further words put before the newest-first list. -/
def shaExtend : Nat → List Word → List Word
  | 0, w => w
  | n + 1, w =>
    let x := w.getD 1 0
    let y := w.getD 14 0
    let s1 := x.rotateRight 17 ^^^ x.rotateRight 19 ^^^ (x >>> 10)
    let s0 := y.rotateRight 7 ^^^ y.rotateRight 18 ^^^ (y >>> 3)
    shaExtend n ((s1 + w.getD 6 0 + s0 + w.getD 15 0) :: w)

def shaRound (x : Sha) (kw : Word × Word) : Sha :=
  let t1 := x.h + (x.e.rotateRight 6 ^^^ x.e.rotateRight 11 ^^^ x.e.rotateRight 25) + ((x.e &&& x.f) ^^^ (~~~x.e &&& x.g)) + kw.1 + kw.2
  let t2 := (x.a.rotateRight 2 ^^^ x.a.rotateRight 13 ^^^ x.a.rotateRight 22) + ((x.a &&& x.b) ^^^ (x.a &&& x.c) ^^^ (x.b &&& x.c))
  { a := t1 + t2, b := x.a, c := x.b, d := x.c, e := x.d + t1, f := x.e, g := x.f, h := x.g }

/-- A number of big-endian bytes. -/
def wordBe (b : List Byte) : Word := BitVec.ofNat 32 (b.foldl (fun a x => 256 * a + x.toNat) 0)

def shaBlock (x : Sha) (block : List Byte) : Sha :=
  let w := (shaExtend 48 ((pieces 16 4 block).map wordBe).reverse).reverse
  let y := (shaConstants.zip w).foldl shaRound x
  { a := x.a + y.a, b := x.b + y.b, c := x.c + y.c, d := x.d + y.d, e := x.e + y.e, f := x.f + y.f, g := x.g + y.g, h := x.h + y.h }

/-- The 32 bytes of the SHA-256 of a message. -/
def sha256 (m : List Byte) : List Byte :=
  let zeros := (119 - m.length % 64) % 64
  let p := m ++ [0x80] ++ List.replicate zeros 0 ++ beBytes 8 (8 * m.length)
  let x := (pieces (p.length / 64) 64 p).foldl shaBlock {}
  [x.a, x.b, x.c, x.d, x.e, x.f, x.g, x.h].flatMap (fun w => beBytes 4 w.toNat)

/-! ### The image (R549 to R552) -/

/-- `n` bytes of the image from an offset, whether an uncorrectable word was met, and the state after the read. Code 4 reads the
NV store, the other codes the flash. -/
def imageRead (o n : Nat) (s : State) : List Byte × Bool × State :=
  if s.straps.bootCode = 4 then nvReadChecked 0 (0x1D0000 + o) n s
  else ((List.range n).map (fun i => flashGet (o + i) s), false, s)

/-- The bytes of an image that its CRC covers: all but 12 to 15. -/
def crcPart (b : List Byte) : List Byte := b.take 12 ++ b.drop 16

def bootLimit (s : State) : Nat := if s.straps.bootCode = 4 then 196608 else 16777216

/-- The boot stops with a failure (R552). The byte offset `at0` is that of the failing record; a failure of the first pass has
none and leaves RECORD at 0 (DESIGN CHOICE, log 85). -/
def bootFail (code at0 : Nat) (s : State) : State :=
  let s1 := wr (R.RST.BOOT_STAT_RECORD 0) at0 (wr (R.RST.BOOT_STAT_CODE 0) code (wr (R.RST.BOOT_STAT_STATE 0) 4 s))
  let s2 := if s.straps.bootCode ≠ 3 then wr (R.CTRL.ERR_HOLD_HOLD 0) 1 s1 else s1
  evt 0 0x10 1 s2

/-- The fused digest as bytes (R553). -/
def fusedDigest (s : State) : List Byte := (List.range 8).flatMap (fun j => leBytes 4 (rd (R.RST.FUSE_DIG 0 j) s))

/-- The failure code of an image in the first pass, by the order of R552; 0: it passes. A digest that is present must be that of
the image, and while LOCK is blown a digest must be present and equal the fused one (DEDUCED, log 86). -/
def imageCode (h b : List Byte) (s : State) : Nat :=
  let n := fieldLe h 8 4
  if fieldLe h 0 4 ≠ 0x49425850 ∨ fieldLe h 4 2 ≠ 1 then 1
  else if n < 68 ∨ bootLimit s < n then 2
  else if crc32c (crcPart b) ≠ fieldLe h 12 4 then 3
  else
    let digest := testBit (fieldLe h 6 2) 0
    let lock := flag (R.RST.FUSE_LOCK 0) s
    let sum := (b.drop 32).take 32
    if !digest then (if lock then 4 else 0)
    else if sha256 (b.take 12 ++ (b.drop 16).take 16 ++ b.drop 64) ≠ sum ∨ (lock = true ∧ sum ≠ fusedDigest s) then 4
    else 0

/-- BOOT_CHECK_PASS (R552): the first pass. -/
def execBootCheckPass (s : State) : Host.Outcome State Fault Refusal :=
  if rd (R.RST.BOOT_STAT_STATE 0) s ≠ 1 ∨ !dieUp 0 s = true then .next s
  else
    let h := imageRead 0 64 s
    let n := fieldLe h.1 8 4
    let b := imageRead 0 (if n ≤ bootLimit s then n else 64) s
    if h.2.1 then .next (bootFail 8 0 h.2.2)
    else if fieldLe h.1 0 4 = 0x49425850 ∧ fieldLe h.1 4 2 = 1 ∧ 68 ≤ n ∧ b.2.1 = true then .next (bootFail 8 0 b.2.2)
    else
      let c := imageCode h.1 b.1 s
      if c ≠ 0 then .next (bootFail c 0 s)
      else .next (wr (R.RST.BOOT_STAT_STATE 0) 2 { s with boot := { pos := 64, crc := crcFrom 0x82F63B78 (crcPart (b.1.take 64)) 0xFFFFFFFF } })

/-! ### Records (R551, R552) -/

/-- The requester of the boot engine (R39). -/
def bootAccess : Access := { rq := .boot, bar2 := false }

/-- The length of a record of a type; 0: no such type. -/
def recordLength (type n : Nat) : Nat :=
  match type with
  | 1 => 12 | 2 => 16 | 3 => 20 | 4 => 8 + 4 * n | 5 => 8 | 6 => 4 | _ => 0

/-- The record of `b` cannot be executed (R552 code 5). -/
def recordBad (b : List Byte) (left : Nat) : Bool :=
  let type := fieldLe b 0 1
  let n := fieldLe b 2 2
  let addr := fieldLe b 4 4
  let size := recordLength type n
  size == 0 || decide (left < size) || (type == 4 && (n == 0 || decide (16384 < n))) ||
    (decide (type ≤ 4) && (addr % 4 != 0 || decide (0x8000000 < addr + 4 * (if type = 4 then n else 1))))

/-- The second pass is under way, and no DELAY runs. -/
def bootRuns (s : State) : Bool :=
  rd (R.RST.BOOT_STAT_STATE 0) s == 2 && dieUp 0 s &&
    (match s.boot.delayEnd with | some t => decide (t ≤ s.now) | none => true)

/-- The length of the image, from its header. -/
def imageLength (s : State) : Nat := fieldLe (imageRead 0 64 s).1 8 4

/-- The engine goes past a record whose bytes it has read. -/
def bootAdvance (b : List Byte) (s : State) : State :=
  { s with boot := { pos := s.boot.pos + b.length, crc := crcFrom 0x82F63B78 b s.boot.crc } }

/-- The next record is read; where it has the type given, `f` carries it out. A record that cannot be executed, or read, ends the
boot. -/
def bootRecord (type : Nat) (f : List Byte → State → State) (s : State) : Host.Outcome State Fault Refusal :=
  if !bootRuns s then .next s
  else
    let pos := s.boot.pos
    let left := imageLength s - pos
    let head := imageRead pos (Nat.min 8 left) s
    if head.2.1 then .next (bootFail 8 pos head.2.2)
    else if recordBad head.1 left then .next (bootFail 5 pos s)
    else
      let b := imageRead pos (recordLength (fieldLe head.1 0 1) (fieldLe head.1 2 2)) s
      if b.2.1 then .next (bootFail 8 pos b.2.2)
      else if fieldLe b.1 0 1 ≠ type then .next s
      else .next (f b.1 s)

/-- BOOT_WRITE: a WRITE record. -/
def execBootWrite (s : State) : Host.Outcome State Fault Refusal :=
  bootRecord 1 (fun b s => regWrite bootAccess (fieldLe b 4 4) (BitVec.ofNat 32 (fieldLe b 8 4)) 15 (bootAdvance b s)) s

/-- BOOT_MASKED: a MASKED record. -/
def execBootMasked (s : State) : Host.Outcome State Fault Refusal :=
  bootRecord 2 (fun b s =>
    let m := fieldLe b 8 4
    let r := readReg bootAccess (fieldLe b 4 4) (bootAdvance b s)
    regWrite bootAccess (fieldLe b 4 4) (BitVec.ofNat 32 ((r.1 &&& (0xFFFFFFFF - m)) ||| (fieldLe b 12 4 &&& m))) 15 r.2) s

/-- BOOT_POLL: one read of a POLL record; the first starts its time. -/
def execBootPoll (s : State) : Host.Outcome State Fault Refusal :=
  bootRecord 3 (fun b s =>
    let r := readReg bootAccess (fieldLe b 4 4) s
    if r.1 &&& fieldLe b 8 4 = fieldLe b 12 4 then bootAdvance b r.2
    else if r.2.boot.pollEnd.isNone then { r.2 with boot := { r.2.boot with pollEnd := some (s.now + 1000 * fieldLe b 16 4) } }
    else r.2) s

/-- BOOT_POLL_TIMEOUT: the time of the POLL record has passed. -/
def execBootPollTimeout (s : State) : Host.Outcome State Fault Refusal :=
  bootRecord 3 (fun _ s => match s.boot.pollEnd with
    | some t => if t ≤ s.now then bootFail 6 s.boot.pos s else s
    | none => s) s

/-- The words of a TABLE record to consecutive addresses. -/
def tableWrites : Nat → List Byte → Nat → State → State
  | 0, _, _, s => s
  | n + 1, b, a, s => tableWrites n (b.drop 4) (a + 4) (regWrite bootAccess a (BitVec.ofNat 32 (fieldLe b 0 4)) 15 s)

/-- BOOT_TABLE: a TABLE record. -/
def execBootTable (s : State) : Host.Outcome State Fault Refusal :=
  bootRecord 4 (fun b s => tableWrites (fieldLe b 2 2) (b.drop 8) (fieldLe b 4 4) (bootAdvance b s)) s

/-- BOOT_DELAY: a DELAY record; the next record waits for its end. -/
def execBootDelay (s : State) : Host.Outcome State Fault Refusal :=
  bootRecord 5 (fun b s =>
    let s1 := bootAdvance b s
    { s1 with boot := { s1.boot with delayEnd := some (s.now + 1000 * fieldLe b 4 4) } }) s

/-- BOOT_END: an END record; the rest of the image is read, and the CRC of the second pass is checked. -/
def execBootEnd (s : State) : Host.Outcome State Fault Refusal :=
  bootRecord 6 (fun _ s =>
    let pos := s.boot.pos
    let rest := imageRead pos (imageLength s - pos) s
    if rest.2.1 then bootFail 8 pos rest.2.2
    else if Nat.xor (crcFrom 0x82F63B78 rest.1 s.boot.crc) 0xFFFFFFFF ≠ fieldLe (imageRead 0 64 s).1 12 4 then bootFail 7 pos s
    else evt 0 0x10 0 (wr (R.RST.BOOT_STAT_STATE 0) 3 s)) s

end Sys2Proof.Machine
end

