-- ==== Sys2Proof/Machine/Firing.lean ====
section
/-! DEFINITION. The edges that fire lines: what commits at their boundary, then the edge itself (R51, R53, R251, R256, R263). -/

namespace Sys2Proof.Machine

/-- LGO_EDGE (R256): the next placed edge of a scanner falls, after the transactions that its boundary commits. -/
def execLgoEdge (k : Nat) (s : State) : Host.Outcome State Fault Refusal :=
  match (staOf k s).placed with
  | [] => .next s
  | p :: _ =>
    if timSt k s ≠ 2 ∨ tickNow k s < p.tick then .next s
    else .next (lgoFalls k p (commitOnEdge k s))

/-- LED_STROBE (R263): the strobe falls and fires the latest line that is due. A bar with no line left before its stop line
holds (R251). -/
def execLedStrobe (k : Nat) (s : State) : Host.Outcome State Fault Refusal :=
  if !ledBar k s || timSt k s != 2 then .next s
  else
    let s0 := fixStop k s
    match nextStrobe k s0 with
    | none => .next (holdCheck k s0)
    | some (t, f) => if tickNow k s < t then .next s else .next (strobeFalls k t f (commitOnEdge k s0))

end Sys2Proof.Machine
end

