-- ==== Sys2Proof/Machine/Jtag.lean ====
section
/-! DEFINITION. The test access ports: their instructions, the debug resets they hold or request, and the JTAG requester (R529,
R554 to R556). -/

namespace Sys2Proof.Machine

def tapOf (d : Nat) (s : State) : Tap := mapGet (fun _ => {}) s.taps d
def setTap (d : Nat) (t : Tap) (s : State) : State := { s with taps := mapSet (fun _ => {}) s.taps d t }

/-- The instructions that hold their die in reset: EXTEST, HIGHZ and CLAMP (R556). -/
def holdsReset (ir : Nat) : Bool := ir == 0 || ir == 5 || ir == 6

/-- The die's functional logic is held in a warm reset with the effects of the debug source; that of D0 has package scope
(R529, R556). -/
def holdDie (d : Nat) (s : State) : State :=
  if (releaseOf d s).held then s
  else if d = 0 then
    let s1 := warmPackage 6 false s
    if coldRunning s then s1 else setRelease 0 { releaseOf 0 s1 with held := true } s1
  else warmDie d 6 false true s

/-- A TAP takes an instruction; one that held the die and is replaced lets it go. -/
def tapTake (d ir : Nat) (s : State) : State :=
  if s.dies ≤ d then s
  else
    let old := (tapOf d s).ir
    let s1 := setTap d { tapOf d s with ir := ir } s
    if holdsReset ir then holdDie d s1
    else if holdsReset old then setRelease d { releaseOf d s1 with held := false } s1
    else s1

/-- An instruction that holds its die is in the register, or is replaced: by BYPASS, until a further instruction is named
(DESIGN CHOICE, log 87). -/
def tapHold (d ir : Nat) (held : Bool) (s : State) : State :=
  if held then tapTake d ir s else if (tapOf d s).ir = ir then tapTake d 0xFF s else s

/-- TAP_RESET (R554): the TAPs alone; the reset instruction is IDCODE (PRESUMED, log 74). -/
def execTapReset (s : State) : Host.Outcome State Fault Refusal :=
  let s1 := (List.range s.dies).foldl (fun s d => tapTake d 1 s) s
  .next { s1 with taps := [] }

def execJtagExtest (d : Nat) (held : Bool) (s : State) : Host.Outcome State Fault Refusal := .next (tapHold d 0 held s)

/-- JTAG_IDCODE (R555): the identification of die `d`. -/
def execJtagIdcode (d : Nat) (s : State) : Host.Outcome State Fault Refusal :=
  if s.dies ≤ d then .next s
  else .next { tapTake d 1 s with resp := { value := BitVec.ofNat 32 (0x171804E7 + 0x1000 * d) } }

def execJtagSamplePreload (d : Nat) (s : State) : Host.Outcome State Fault Refusal := .next (tapTake d 2 s)

def execJtagHighz (d : Nat) (held : Bool) (s : State) : Host.Outcome State Fault Refusal := .next (tapHold d 5 held s)

def execJtagClamp (d : Nat) (held : Bool) (s : State) : Host.Outcome State Fault Refusal := .next (tapHold d 6 held s)

/-- JTAG_BYPASS (R555): code 0xFF, or one that no other instruction has. -/
def execJtagBypass (d code : Nat) (s : State) : Host.Outcome State Fault Refusal :=
  if [0x00, 0x01, 0x02, 0x05, 0x06, 0x20, 0x21].contains (code % 256) then .next s else .next (tapTake d 0xFF s)

/-- JTAG_DBG_RESET (R529, R555). -/
def execJtagDbgReset (d : Nat) (s : State) : Host.Outcome State Fault Refusal :=
  if s.dies ≤ d then .next s
  else .next (warmReset d 6 (flag (R.RST.RST_CFG_DBG_PKG d) s) false (tapTake d 0x20 s))

/-- JTAG_DBG_ACCESS (R555): Update-DR starts an access of the JTAG requester; DONE and the read data are captured next. The data
bits after a write are open. -/
def execJtagDbgAccess (d off : Nat) (v : Word) (write : Bool) (s : State) : Host.Outcome State Fault Refusal :=
  if s.dies ≤ d then .next s
  else
    let a : Access := { rq := .jtag, bar2 := false }
    let s1 := tapTake d 0x21 s
    if write then
      let s2 := regWrite a off v 15 s1
      let f := drawFree s2
      .next (setTap d { ir := 0x21, done := true, data := BitVec.ofNat 32 f.1 } f.2)
    else
      let r := readReg a off s1
      .next { setTap d { ir := 0x21, done := true, data := BitVec.ofNat 32 r.1 } r.2 with resp := { value := BitVec.ofNat 32 r.1 } }

end Sys2Proof.Machine
end

