-- ==== Sys2Proof/Machine/Dispatch.lean ====
section
/-! DEFINITION. The meaning of each command, by constructor. -/

namespace Sys2Proof.Machine

def exec (i : Instr) (s : State) : Host.Outcome State Fault Refusal :=
  match i with
  | .registerWrite a off v be => Sys2Proof.Machine.execRegisterWrite a off v be s
  | .fenceRead a d => Sys2Proof.Machine.execFenceRead a d s
  | .accessTimeout a off write => Sys2Proof.Machine.execAccessTimeout a off write s
  | .lockup d => Sys2Proof.Machine.execLockup d s
  | .pageSrst a d p v => Sys2Proof.Machine.execPageSrst a d p v s
  | .pageEnable a d p v => Sys2Proof.Machine.execPageEnable a d p v s
  | .fenceReq a d p v => Sys2Proof.Machine.execFenceReq a d p v s
  | .unfence a d p v => Sys2Proof.Machine.execUnfence a d p v s
  | .stationUnfenceApply k => Sys2Proof.Machine.execStationUnfenceApply k s
  | .pwrReq a d p v => Sys2Proof.Machine.execPwrReq a d p v s
  | .evtForce a d p v => Sys2Proof.Machine.execEvtForce a d p v s
  | .fltForce a d p v => Sys2Proof.Machine.execFltForce a d p v s
  | .errPulseEnd => Sys2Proof.Machine.execErrPulseEnd s
  | .txnArm a d x v => Sys2Proof.Machine.execTxnArm a d x v s
  | .txnChecksDone d x => Sys2Proof.Machine.execTxnChecksDone d x s
  | .txnAbort a d x v => Sys2Proof.Machine.execTxnAbort a d x v s
  | .txnClear a d x v => Sys2Proof.Machine.execTxnClear a d x v s
  | .txnCommit d x => Sys2Proof.Machine.execTxnCommit d x s
  | .xtxnGo a v => Sys2Proof.Machine.execXtxnGo a v s
  | .xtxnAbort a v => Sys2Proof.Machine.execXtxnAbort a v s
  | .xtxnPrepare d => Sys2Proof.Machine.execXtxnPrepare d s
  | .xtxnAnswer d => Sys2Proof.Machine.execXtxnAnswer d s
  | .xtxnCommitMsg d => Sys2Proof.Machine.execXtxnCommitMsg d s
  | .xtxnAbortMsg d => Sys2Proof.Machine.execXtxnAbortMsg d s
  | .xtxnCommitReport d => Sys2Proof.Machine.execXtxnCommitReport d s
  | .xtxnTimeout => Sys2Proof.Machine.execXtxnTimeout s
  | .frameSubmit a v => Sys2Proof.Machine.execFrameSubmit a v s
  | .planeDescriptorMsg slot k => Sys2Proof.Machine.execPlaneDescriptorMsg slot k s
  | .resDeclare a d v => Sys2Proof.Machine.execResDeclare a d v s
  | .resurvey a d v => Sys2Proof.Machine.execResurvey a d v s
  | .surveyAshlarStart d lane slot k => Sys2Proof.Machine.execSurveyAshlarStart d lane slot k s
  | .surveyAshlarDone d lane => Sys2Proof.Machine.execSurveyAshlarDone d lane s
  | .frameAdmitted slot => Sys2Proof.Machine.execFrameAdmitted slot s
  | .frameArmed slot => Sys2Proof.Machine.execFrameArmed slot s
  | .frameRetire slot => Sys2Proof.Machine.execFrameRetire slot s
  | .spoiledExit slot => Sys2Proof.Machine.execSpoiledExit slot s
  | .reprint a v => Sys2Proof.Machine.execReprint a v s
  | .frameRelease a v => Sys2Proof.Machine.execFrameRelease a v s
  | .frameAbort a v => Sys2Proof.Machine.execFrameAbort a v s
  | .freedFsnRead a => Sys2Proof.Machine.execFreedFsnRead a s
  | .spoilLogRead a => Sys2Proof.Machine.execSpoilLogRead a s
  | .imgAshlarStart d lane => Sys2Proof.Machine.execImgAshlarStart d lane s
  | .imgAshlarDone d lane => Sys2Proof.Machine.execImgAshlarDone d lane s
  | .laneRoleChange d lane => Sys2Proof.Machine.execLaneRoleChange d lane s
  | .codecLaneUnfence a d v => Sys2Proof.Machine.execCodecLaneUnfence a d v s
  | .carrySurveyStart d lane slot k => Sys2Proof.Machine.execCarrySurveyStart d lane slot k s
  | .carryRecordDone d lane => Sys2Proof.Machine.execCarryRecordDone d lane s
  | .jobSubmit a d bg v => Sys2Proof.Machine.execJobSubmit a d bg v s
  | .jobStart d lane => Sys2Proof.Machine.execJobStart d lane s
  | .jobAshlarDone d lane => Sys2Proof.Machine.execJobAshlarDone d lane s
  | .jobAbort a d v => Sys2Proof.Machine.execJobAbort a d v s
  | .laneSynthLock d n => Sys2Proof.Machine.execLaneSynthLock d n s
  | .laneSignalDetect d n => Sys2Proof.Machine.execLaneSignalDetect d n s
  | .laneAdaptDone d n ctle dfe => Sys2Proof.Machine.execLaneAdaptDone d n ctle dfe s
  | .laneBlockLock d n => Sys2Proof.Machine.execLaneBlockLock d n s
  | .laneLoss d n why => Sys2Proof.Machine.execLaneLoss d n why s
  | .syncHeaderError d n => Sys2Proof.Machine.execSyncHeaderError d n s
  | .elasticOverflow d n => Sys2Proof.Machine.execElasticOverflow d n s
  | .laneLockHoldTimeout d n => Sys2Proof.Machine.execLaneLockHoldTimeout d n s
  | .laneSynthLoss d n => Sys2Proof.Machine.execLaneSynthLoss d n s
  | .laneRetrain a d n v => Sys2Proof.Machine.execLaneRetrain a d n v s
  | .eyeScanGo a d n v => Sys2Proof.Machine.execEyeScanGo a d n v s
  | .eyeScanStop a d n v => Sys2Proof.Machine.execEyeScanStop a d n v s
  | .eyePointDone d n errs bits => Sys2Proof.Machine.execEyePointDone d n errs bits s
  | .eyeScanResume d n => Sys2Proof.Machine.execEyeScanResume d n s
  | .alignmentMarker d n body gap skew => Sys2Proof.Machine.execAlignmentMarker d n body gap skew s
  | .bondAlignTimeout d => Sys2Proof.Machine.execBondAlignTimeout d s
  | .rlAshlar d pkt => Sys2Proof.Machine.execRlAshlar d pkt s
  | .rlIndex d pkt => Sys2Proof.Machine.execRlIndex d pkt s
  | .rlDescriptor d pkt => Sys2Proof.Machine.execRlDescriptor d pkt s
  | .rlResync d pkt => Sys2Proof.Machine.execRlResync d pkt s
  | .rlBadPacket d pkt => Sys2Proof.Machine.execRlBadPacket d pkt s
  | .rlPacketLanded d => Sys2Proof.Machine.execRlPacketLanded d s
  | .rlNakTimer d => Sys2Proof.Machine.execRlNakTimer d s
  | .rlInitAckTimer d => Sys2Proof.Machine.execRlInitAckTimer d s
  | .rlCreditTimer d => Sys2Proof.Machine.execRlCreditTimer d s
  | .rlRouteChange a d v => Sys2Proof.Machine.execRlRouteChange a d v s
  | .stationLine k => Sys2Proof.Machine.execStationLine k s
  | .bdEdge k phase => Sys2Proof.Machine.execBdEdge k phase s
  | .bdMissed k => Sys2Proof.Machine.execBdMissed k s
  | .fidIndexEdge k => Sys2Proof.Machine.execFidIndexEdge k s
  | .lgoEdge k => Sys2Proof.Machine.execLgoEdge k s
  | .ledStrobe k => Sys2Proof.Machine.execLedStrobe k s
  | .startEvent k => Sys2Proof.Machine.execStartEvent k s
  | .resumeEvent k => Sys2Proof.Machine.execResumeEvent k s
  | .hlStatus k pkt => Sys2Proof.Machine.execHlStatus k pkt s
  | .hlAck k pkt => Sys2Proof.Machine.execHlAck k pkt s
  | .hlNak k pkt => Sys2Proof.Machine.execHlNak k pkt s
  | .hlCredit k pkt => Sys2Proof.Machine.execHlCredit k pkt s
  | .hlBadPacket k pkt => Sys2Proof.Machine.execHlBadPacket k pkt s
  | .hlReplayTimer k => Sys2Proof.Machine.execHlReplayTimer k s
  | .hlResyncTimer k => Sys2Proof.Machine.execHlResyncTimer k s
  | .hlStatusTimeout k => Sys2Proof.Machine.execHlStatusTimeout k s
  | .headcfgSend a k v => Sys2Proof.Machine.execHeadcfgSend a k v s
  | .trimSetSend a k v => Sys2Proof.Machine.execTrimSetSend a k v s
  | .ilkFall => Sys2Proof.Machine.execIlkFall s
  | .hokFall k => Sys2Proof.Machine.execHokFall k s
  | .paperOut k => Sys2Proof.Machine.execPaperOut k s
  | .jam k => Sys2Proof.Machine.execJam k s
  | .rearm a k v => Sys2Proof.Machine.execRearm a k v s
  | .softStateApply k => Sys2Proof.Machine.execSoftStateApply k s
  | .headBucketTick k => Sys2Proof.Machine.execHeadBucketTick k s
  | .calLoad a d v => Sys2Proof.Machine.execCalLoad a d v s
  | .calLoadEnd d => Sys2Proof.Machine.execCalLoadEnd d s
  | .ageRestore a k v => Sys2Proof.Machine.execAgeRestore a k v s
  | .ageSave a k v => Sys2Proof.Machine.execAgeSave a k v s
  | .ckptNow a k v => Sys2Proof.Machine.execCkptNow a k v s
  | .ageActionEnd k => Sys2Proof.Machine.execAgeActionEnd k s
  | .wearCheckpoint k => Sys2Proof.Machine.execWearCheckpoint k s
  | .ageRefresh k => Sys2Proof.Machine.execAgeRefresh k s
  | .markCapture d m rising => Sys2Proof.Machine.execMarkCapture d m rising s
  | .markCaptureRead a d m => Sys2Proof.Machine.execMarkCaptureRead a d m s
  | .aregHeldStage k => Sys2Proof.Machine.execAregHeldStage k s
  | .encoderStep d e la lb => Sys2Proof.Machine.execEncoderStep d e la lb s
  | .encoderIndex d e => Sys2Proof.Machine.execEncoderIndex d e s
  | .posAdj a d v => Sys2Proof.Machine.execPosAdj a d v s
  | .cueArm a d v => Sys2Proof.Machine.execCueArm a d v s
  | .cueDisarm a d v => Sys2Proof.Machine.execCueDisarm a d v s
  | .cueUnfence a d v => Sys2Proof.Machine.execCueUnfence a d v s
  | .cueFire d n => Sys2Proof.Machine.execCueFire d n s
  | .cueComplete d n => Sys2Proof.Machine.execCueComplete d n s
  | .pathEnable a p v => Sys2Proof.Machine.execPathEnable a p v s
  | .pathStop a p v => Sys2Proof.Machine.execPathStop a p v s
  | .pathStopCause p => Sys2Proof.Machine.execPathStopCause p s
  | .pathResume a p v => Sys2Proof.Machine.execPathResume a p v s
  | .pathClear a p v => Sys2Proof.Machine.execPathClear a p v s
  | .pathBackfeedAuto p => Sys2Proof.Machine.execPathBackfeedAuto p s
  | .pathStandstill p => Sys2Proof.Machine.execPathStandstill p s
  | .rhoBroadcast p => Sys2Proof.Machine.execRhoBroadcast p s
  | .purgeFsnRead a => Sys2Proof.Machine.execPurgeFsnRead a s
  | .stepGo a d n v => Sys2Proof.Machine.execStepGo a d n v s
  | .stepStop a d n v => Sys2Proof.Machine.execStepStop a d n v s
  | .stepQstop a d n v => Sys2Proof.Machine.execStepQstop a d n v s
  | .stepUnfence a d n v => Sys2Proof.Machine.execStepUnfence a d n v s
  | .stepProfileTick d n => Sys2Proof.Machine.execStepProfileTick d n s
  | .stepHoldDelay d n => Sys2Proof.Machine.execStepHoldDelay d n s
  | .stepHoldReached d n => Sys2Proof.Machine.execStepHoldReached d n s
  | .focPeriod d n ia ib ic => Sys2Proof.Machine.execFocPeriod d n ia ib ic s
  | .hallTransition d n code => Sys2Proof.Machine.execHallTransition d n code s
  | .catchEnd d n speed theta vd vq => Sys2Proof.Machine.execCatchEnd d n speed theta vd vq s
  | .alignEnd d n => Sys2Proof.Machine.execAlignEnd d n s
  | .brakeTimeout d n => Sys2Proof.Machine.execBrakeTimeout d n s
  | .focUnfence a d n v => Sys2Proof.Machine.execFocUnfence a d n v s
  | .chopperSwitch d b v => Sys2Proof.Machine.execChopperSwitch d b v s
  | .busClamp d b v => Sys2Proof.Machine.execBusClamp d b v s
  | .busClampEnd d b v => Sys2Proof.Machine.execBusClampEnd d b v s
  | .busTrip d b v => Sys2Proof.Machine.execBusTrip d b v s
  | .busUndervoltage d b v => Sys2Proof.Machine.execBusUndervoltage d b v s
  | .busUnfence a d b v => Sys2Proof.Machine.execBusUnfence a d b v s
  | .chopBadClear a d b v => Sys2Proof.Machine.execChopBadClear a d b v s
  | .loopEnable a d v => Sys2Proof.Machine.execLoopEnable a d v s
  | .loopDisable a d v => Sys2Proof.Machine.execLoopDisable a d v s
  | .loopAuto a d v => Sys2Proof.Machine.execLoopAuto a d v s
  | .loopManual a d v => Sys2Proof.Machine.execLoopManual a d v s
  | .loopUnfence a d v => Sys2Proof.Machine.execLoopUnfence a d v s
  | .loopTick d => Sys2Proof.Machine.execLoopTick d s
  | .cffMessage d => Sys2Proof.Machine.execCffMessage d s
  | .cffCancel d => Sys2Proof.Machine.execCffCancel d s
  | .adcConversion d ain hvm => Sys2Proof.Machine.execAdcConversion d ain hvm s
  | .zeroCross d => Sys2Proof.Machine.execZeroCross d s
  | .zeroCrossLost d => Sys2Proof.Machine.execZeroCrossLost d s
  | .gpioEdge d g level => Sys2Proof.Machine.execGpioEdge d g level s
  | .gpioSet a d v => Sys2Proof.Machine.execGpioSet a d v s
  | .gpioClr a d v => Sys2Proof.Machine.execGpioClr a d v s
  | .spliceDetect d => Sys2Proof.Machine.execSpliceDetect d s
  | .ethFrameReceive p frame sound => Sys2Proof.Machine.execEthFrameReceive p frame sound s
  | .txKick a p v => Sys2Proof.Machine.execTxKick a p v s
  | .rxKick a p v => Sys2Proof.Machine.execRxKick a p v s
  | .ethLaunch p q => Sys2Proof.Machine.execEthLaunch p q s
  | .ethFrameSent p q busErr => Sys2Proof.Machine.execEthFrameSent p q busErr s
  | .syncTimeout => Sys2Proof.Machine.execSyncTimeout s
  | .timeIncr a v => Sys2Proof.Machine.execTimeIncr a v s
  | .timeAdj a v => Sys2Proof.Machine.execTimeAdj a v s
  | .timeSet a v => Sys2Proof.Machine.execTimeSet a v s
  | .timeRefreshSend => Sys2Proof.Machine.execTimeRefreshSend s
  | .timeRefresh d => Sys2Proof.Machine.execTimeRefresh d s
  | .timeRefreshMiss d => Sys2Proof.Machine.execTimeRefreshMiss d s
  | .ltLoRead a d => Sys2Proof.Machine.execLtLoRead a d s
  | .frcLoRead a d => Sys2Proof.Machine.execFrcLoRead a d s
  | .mtNsRead a => Sys2Proof.Machine.execMtNsRead a s
  | .posLoRead a d c => Sys2Proof.Machine.execPosLoRead a d c s
  | .memInit a d v => Sys2Proof.Machine.execMemInit a d v s
  | .memTrainDone d ok => Sys2Proof.Machine.execMemTrainDone d ok s
  | .bar4Read off len ecc => Sys2Proof.Machine.execBar4Read off len ecc s
  | .bar4Write off bytes en ue => Sys2Proof.Machine.execBar4Write off bytes en ue s
  | .scrubRead d res => Sys2Proof.Machine.execScrubRead d res s
  | .dmaEnable a d n v => Sys2Proof.Machine.execDmaEnable a d n v s
  | .dmaKick a d n v => Sys2Proof.Machine.execDmaKick a d n v s
  | .dmaAbort a d n v => Sys2Proof.Machine.execDmaAbort a d n v s
  | .dmaUnfence a d n v => Sys2Proof.Machine.execDmaUnfence a d n v s
  | .dmaDescriptorFetch d n busErr => Sys2Proof.Machine.execDmaDescriptorFetch d n busErr s
  | .dmaDescriptorComplete d n hostErr wbErr => Sys2Proof.Machine.execDmaDescriptorComplete d n hostErr wbErr s
  | .domainPowerUp d dom => Sys2Proof.Machine.execDomainPowerUp d dom s
  | .domainPowerDown d dom => Sys2Proof.Machine.execDomainPowerDown d dom s
  | .domainPowerTimeout d dom => Sys2Proof.Machine.execDomainPowerTimeout d dom s
  | .railRequest a v => Sys2Proof.Machine.execRailRequest a v s
  | .railClear a v => Sys2Proof.Machine.execRailClear a v s
  | .railSeqStep mon => Sys2Proof.Machine.execRailSeqStep mon s
  | .railPgChange n level => Sys2Proof.Machine.execRailPgChange n level s
  | .railQualifyDone n => Sys2Proof.Machine.execRailQualifyDone n s
  | .railTimeout n => Sys2Proof.Machine.execRailTimeout n s
  | .railDownTimeout n => Sys2Proof.Machine.execRailDownTimeout n s
  | .railMinoffEnd n => Sys2Proof.Machine.execRailMinoffEnd n s
  | .vinTrip code => Sys2Proof.Machine.execVinTrip code s
  | .vinRecover code => Sys2Proof.Machine.execVinRecover code s
  | .logSnap a v => Sys2Proof.Machine.execLogSnap a v s
  | .logRecordWrite => Sys2Proof.Machine.execLogRecordWrite s
  | .nvWrite a d off v be => Sys2Proof.Machine.execNvWrite a d off v be s
  | .tempSample d raw => Sys2Proof.Machine.execTempSample d raw s
  | .powerOn => Sys2Proof.Machine.execPowerOn s
  | .brownOut => Sys2Proof.Machine.execBrownOut s
  | .resetPin ns => Sys2Proof.Machine.execResetPin ns s
  | .softwareReset a d v => Sys2Proof.Machine.execSoftwareReset a d v s
  | .dieWatchdogExpire d => Sys2Proof.Machine.execDieWatchdogExpire d s
  | .pkgWatchdogExpire => Sys2Proof.Machine.execPkgWatchdogExpire s
  | .watchdogKick a d v => Sys2Proof.Machine.execWatchdogKick a d v s
  | .pkgWatchdogKick a v => Sys2Proof.Machine.execPkgWatchdogKick a v s
  | .clockFailure d => Sys2Proof.Machine.execClockFailure d s
  | .warmResetRelease d => Sys2Proof.Machine.execWarmResetRelease d s
  | .strapSample boot clkm prof legacy => Sys2Proof.Machine.execStrapSample boot clkm prof legacy s
  | .referenceCheck d ok => Sys2Proof.Machine.execReferenceCheck d ok s
  | .pllLock d p => Sys2Proof.Machine.execPllLock d p s
  | .pllLockLoss d p => Sys2Proof.Machine.execPllLockLoss d p s
  | .mortarTrained d lat => Sys2Proof.Machine.execMortarTrained d lat s
  | .islandRelease d isl => Sys2Proof.Machine.execIslandRelease d isl s
  | .clockGoodTimeout d isl => Sys2Proof.Machine.execClockGoodTimeout d isl s
  | .pcieReady => Sys2Proof.Machine.execPcieReady s
  | .bootCheckPass => Sys2Proof.Machine.execBootCheckPass s
  | .bootWrite => Sys2Proof.Machine.execBootWrite s
  | .bootMasked => Sys2Proof.Machine.execBootMasked s
  | .bootPoll => Sys2Proof.Machine.execBootPoll s
  | .bootPollTimeout => Sys2Proof.Machine.execBootPollTimeout s
  | .bootTable => Sys2Proof.Machine.execBootTable s
  | .bootDelay => Sys2Proof.Machine.execBootDelay s
  | .bootEnd => Sys2Proof.Machine.execBootEnd s
  | .tapReset => Sys2Proof.Machine.execTapReset s
  | .jtagExtest d held => Sys2Proof.Machine.execJtagExtest d held s
  | .jtagIdcode d => Sys2Proof.Machine.execJtagIdcode d s
  | .jtagSamplePreload d => Sys2Proof.Machine.execJtagSamplePreload d s
  | .jtagHighz d held => Sys2Proof.Machine.execJtagHighz d held s
  | .jtagClamp d held => Sys2Proof.Machine.execJtagClamp d held s
  | .jtagBypass d code => Sys2Proof.Machine.execJtagBypass d code s
  | .jtagDbgReset d => Sys2Proof.Machine.execJtagDbgReset d s
  | .jtagDbgAccess d off v write => Sys2Proof.Machine.execJtagDbgAccess d off v write s
  | .fuseBurn a v => Sys2Proof.Machine.execFuseBurn a v s
  | .fuseLock a v => Sys2Proof.Machine.execFuseLock a v s
  | .internalError d p src unit => Sys2Proof.Machine.execInternalError d p src unit s
  | .mortarLinkFenced d => Sys2Proof.Machine.execMortarLinkFenced d s
  | .inputDeasserted which k => Sys2Proof.Machine.execInputDeasserted which k s
  | .clockFailureWarmReset d => Sys2Proof.Machine.execClockFailureWarmReset d s

end Sys2Proof.Machine
end

