-- ==== Sys2Proof/Safety.lean ====
section
/-! DEFINITION. The words in which statements speak of the machine: its canonical states, and when an access gets through to
the register that it names. -/

namespace Sys2Proof.Machine

/-- The registers and the memories are in their canonical form: equal contents are equal data. -/
abbrev State.canonical (s : State) : Prop :=
  mapWf resetWord s.regs = true ∧ Memory.wf s.mem = true ∧ Memory.wf s.nv = true ∧ Memory.wf s.host = true

/-- No field of the register at offset `o` of page `p` of die `d` is privileged (R9). -/
def unprivileged (d p o : Nat) : Bool :=
  match regAt d (p * 0x1000 + o) with
  | some r => privMask r == 0
  | none => false

/-- The unit that alone has the register is not fenced, or the register holds that unit's unfence command (R492, R493). -/
def unitOpen (d p o : Nat) (s : State) : Bool :=
  match unitAt d p o with
  | some u => !isFenced u s || holdsUnfence p o
  | none => true

/-- A whole-word write of the register at an offset of a page. -/
def RegWrite.of (a : Access) (d p o : Nat) (v : Word) : RegWrite :=
  { rq := a.rq, bar2 := a.bar2, d := d, p := p, o := o
    r := (regAt d (p * 0x1000 + o)).getD ⟨0, 0, 0, 0, 0, false, []⟩, v := v.toNat, e := v.toNat }

/-- A whole-word write to the register at offset `o` of page `p` of die `d` gets through to its block: D0 serves accesses
(R537), the die answers (R495) and is not fenced, the page is present (R31) and its domain on (R502), the view is BAR0 or the
register has no privileged field (R9), and no fence covers the register (R492). -/
abbrev Reaches (a : Access) (d p o : Nat) (s : State) : Prop :=
  accessDown a s = false ∧ dieAnswers d s = true ∧ dieFenced d s = false ∧ pagePresent d p s = true ∧
    (o < 0x40 ∨ domSt d (pageDomain p) s = 2) ∧ (a.bar2 = false ∨ unprivileged d p o = true) ∧
    pageFenced d p s = false ∧ unitOpen d p o s = true

/-- A page whose block begins nothing when PAGE_CTL.EN changes: no STA page, LANE page or RLNK (log 76). -/
def startsNothing (p : Nat) : Bool :=
  match Layout.pageKind p with
  | some (.staP, _) | some (.laneP, _) | some (.rlnkP, _) => false
  | _ => true

/-- What a field holds that held `old` when `new` is written to it through a view (R5, R9). -/
def fieldAfter (bar2 : Bool) (f : FieldD) (old new : Nat) : Nat :=
  if f.priv && bar2 then old
  else match f.acc with
    | .rw | .rws => Nat.max f.lo (Nat.min f.hi new)
    | .w1c => old &&& (2 ^ f.width - 1 - new)
    | .w1s => old ||| new
    | .ro | .wo => old

/-- A read of the register at offset `o` of page `p` of die `d` by a requester is answered by its block. -/
abbrev Answers (a : Access) (d p : Nat) (s : State) : Prop :=
  accessDown a s = false ∧ dieAnswers d s = true ∧ pagePresent d p s = true ∧ domSt d (pageDomain p) s = 2

/-- The second pass of the boot engine runs, and its next record can be executed, is read whole as `b` and has this type (R551). -/
abbrev RecordReads (type : Nat) (b : List Byte) (s : State) : Prop :=
  bootRuns s = true ∧ (imageRead s.boot.pos (Nat.min 8 (imageLength s - s.boot.pos)) s).2.1 = false ∧
    recordBad (imageRead s.boot.pos (Nat.min 8 (imageLength s - s.boot.pos)) s).1 (imageLength s - s.boot.pos) = false ∧
    (imageRead s.boot.pos (recordLength (fieldLe (imageRead s.boot.pos (Nat.min 8 (imageLength s - s.boot.pos)) s).1 0 1)
      (fieldLe (imageRead s.boot.pos (Nat.min 8 (imageLength s - s.boot.pos)) s).1 2 2)) s).2.1 = false ∧
    (imageRead s.boot.pos (recordLength (fieldLe (imageRead s.boot.pos (Nat.min 8 (imageLength s - s.boot.pos)) s).1 0 1)
      (fieldLe (imageRead s.boot.pos (Nat.min 8 (imageLength s - s.boot.pos)) s).1 2 2)) s).1 = b ∧ fieldLe b 0 1 = type

end Sys2Proof.Machine
end

