-- ==== Sys2Proof/Certificates/Slice0/Obligations.lean ====
section
/-! DEFINITION. The statements for the provers. Each says, for the commands of a family, the next state that they answer
under hypotheses on the state and the operands, or a property of every step. -/

open Sys2Proof Sys2Proof.Machine

/-- A step with a command at the front of the queue carries out that command, with the rest of the queue left to wait. This is
the model's form of a step; a step with no command waiting is one nanosecond (log 4). -/
def Obligations.StepRunsTheFrontCommand : Prop :=
  (∀ (c : Instr) (rest : List Instr) (s : State), s.pending = c :: rest → step s = exec c { s with pending := rest }) ∧
  (∀ s : State, s.pending = [] → step s = .next (idle s))

/-- No command changes the queue, the part that the package is, the boot flash or the time, and the count of free values never
goes back. A step takes off the queue the command that it runs, and time goes on by a nanosecond where none waits (log 4). -/
def Obligations.CommandsLeaveQueueAndTime : Prop :=
  (∀ (c : Instr) (s t : State), exec c s = .next t →
    t.pending = s.pending ∧ t.part = s.part ∧ t.flash = s.flash ∧ t.now = s.now ∧ s.freeSeq ≤ t.freeSeq) ∧
  (∀ (c : Instr) (rest : List Instr) (s t : State), s.pending = c :: rest → step s = .next t → t.pending = rest ∧ t.now = s.now)

/-- Every step, of a command or of time, keeps the canonical form of the register space, of the page memory, of the non-volatile store
and of the host's memory: equal contents stay equal data. -/
def Obligations.StepKeepsCanonicalForm : Prop :=
  ∀ s t : State, s.canonical → step s = .next t → t.canonical

/-- The state after reset is canonical, with an empty queue, no page memory, non-volatile store or host memory listed, no fence
held, nothing sent, and every register at its reset value. -/
def Obligations.ResetIsCanonical : Prop :=
  State.reset.canonical ∧ State.reset.pending = [] ∧ State.reset.mem = [] ∧ State.reset.nv = [] ∧ State.reset.host = [] ∧
    State.reset.fenced = [] ∧ State.reset.sent = [] ∧ (∀ a : Nat, word a State.reset = resetWord a)

/-- A reverse step of an LED bar's counter undoes a forward step of the line generator, and a borrow is a line owed, which a
later boundary pays off with no strobe and no line (R262). The accumulator lies below LG_DEN, and LG_NUM does not exceed it. -/
def Obligations.ReverseStepsOweLines : Prop :=
  -- A reverse step: NUM is subtracted, or with a borrow DEN − NUM added and one line owed. Neither moves the lines.
  (∀ (k t count interval : Nat) (up : Bool) (s : State), ledBar k s = true → timSt k s = 2 →
    up = flag (R.STIM.LG_CFG_REVERSE (stDie k) (stLoc k)) s →
    rd (R.STIM.LG_ACC_A (stDie k) (stLoc k)) s < rd (R.STIM.LG_DEN_DEN (stDie k) (stLoc k)) s →
    rd (R.STIM.LG_NUM_NUM (stDie k) (stLoc k)) s ≤ rd (R.STIM.LG_DEN_DEN (stDie k) (stLoc k)) s →
    rd (R.STIM.LG_ACC_A (stDie k) (stLoc k)) (lineStep k up t count interval s) =
      (if rd (R.STIM.LG_ACC_A (stDie k) (stLoc k)) s < rd (R.STIM.LG_NUM_NUM (stDie k) (stLoc k)) s
        then rd (R.STIM.LG_ACC_A (stDie k) (stLoc k)) s + rd (R.STIM.LG_DEN_DEN (stDie k) (stLoc k)) s -
          rd (R.STIM.LG_NUM_NUM (stDie k) (stLoc k)) s
        else rd (R.STIM.LG_ACC_A (stDie k) (stLoc k)) s - rd (R.STIM.LG_NUM_NUM (stDie k) (stLoc k)) s) ∧
    (staOf k (lineStep k up t count interval s)).owed = (staOf k s).owed +
      (if rd (R.STIM.LG_ACC_A (stDie k) (stLoc k)) s < rd (R.STIM.LG_NUM_NUM (stDie k) (stLoc k)) s then 1 else 0) ∧
    (staOf k (lineStep k up t count interval s)).ptr = (staOf k s).ptr ∧
    (staOf k (lineStep k up t count interval s)).found = (staOf k s).found) ∧
  -- A boundary found by a forward step while lines are owed pays one off: no strobe is scheduled and the LSN does not advance.
  (∀ (k t count interval : Nat) (up : Bool) (s : State), ledBar k s = true → timSt k s = 2 →
    up ≠ flag (R.STIM.LG_CFG_REVERSE (stDie k) (stLoc k)) s → 0 < (staOf k s).owed →
    rd (R.STIM.LG_DEN_DEN (stDie k) (stLoc k)) s ≤
      rd (R.STIM.LG_ACC_A (stDie k) (stLoc k)) s + rd (R.STIM.LG_NUM_NUM (stDie k) (stLoc k)) s →
    (staOf k (lineStep k up t count interval s)).owed + 1 = (staOf k s).owed ∧
    (staOf k (lineStep k up t count interval s)).ptr = (staOf k s).ptr ∧
    (staOf k (lineStep k up t count interval s)).found = (staOf k s).found)

/-- The integrator of a control loop: KI × e is added unless the output stands at the bound that the product drives it to, and
the sum is then clamped to what the output can use (R408). Sums keep to the 40 bits of the accumulator (R402). -/
def Obligations.IntegratorNeverWindsUp : Prop :=
  ∀ (g : Stage) (e u : Int), g.lo ≤ g.hi →
    -- At OUT_MAX with a positive product, or at OUT_MIN with a negative one, nothing is added.
    ((u = g.hi ∧ 0 < mul31 g.ki e) ∨ (u = g.lo ∧ mul31 g.ki e < 0) →
      g.next e u false = clampInt ((g.lo * 65536) >>> g.shift) ((g.hi * 65536) >>> g.shift) g.i) ∧
    -- Otherwise the product is.
    (¬ ((u = g.hi ∧ 0 < mul31 g.ki e) ∨ (u = g.lo ∧ mul31 g.ki e < 0)) →
      g.next e u false = clampInt ((g.lo * 65536) >>> g.shift) ((g.hi * 65536) >>> g.shift) (sat40 (g.i + mul31 g.ki e))) ∧
    -- The integrator never leaves its range.
    (g.lo * 65536) >>> g.shift ≤ g.next e u false ∧ g.next e u false ≤ (g.hi * 65536) >>> g.shift

/-- Which commands may change the parts of the machine that few commands reach: for each of these parts, every command but the
ones named leaves it as it was. -/
def Obligations.OnlyTheirCommandsChange : Prop :=
  ∀ (c : Instr) (s t : State), exec c s = .next t →
    -- The straps: only a supply cycle, the reset pin and the sampling itself set them.
    (match c with
    | .powerOn .. | .brownOut .. | .resetPin .. | .strapSample .. => True
    | _ => t.straps = s.straps) ∧
    -- What holds ERR asserted in the always-on domain (R536).
    (match c with
    | .powerOn .. | .brownOut .. | .resetPin .. | .referenceCheck .. | .clockGoodTimeout .. => True
    | _ => t.errAonHold = s.errAonHold) ∧
    -- The levels of the encoder inputs.
    (match c with
    | .encoderStep .. => True
    | _ => t.encoders = s.encoders) ∧
    -- The times of the last encoder edges.
    (match c with
    | .encoderStep .. | .powerOn .. | .brownOut .. | .resetPin .. => True
    | _ => t.encEdges = s.encEdges) ∧
    -- The motor bus: its clamp and its trip.
    (match c with
    | .chopperSwitch .. | .busClamp .. | .busClampEnd .. | .busTrip .. | .busUndervoltage .. | .powerOn ..
    | .brownOut .. | .resetPin .. => True
    | _ => t.buses = s.buses) ∧
    -- The interlock inputs of the stations.
    (match c with
    | .ilkFall .. | .inputDeasserted .. => True
    | _ => t.ilkIn = s.ilkIn) ∧
    -- The head-OK inputs.
    (match c with
    | .hokFall .. | .inputDeasserted .. => True
    | _ => t.hokIn = s.hokIn) ∧
    -- The rail monitors.
    (match c with
    | .railSeqStep .. | .powerOn .. | .brownOut .. | .resetPin .. => True
    | _ => t.rmon = s.rmon) ∧
    -- The fences of mortar links.
    (match c with
    | .powerOn .. | .brownOut .. | .resetPin .. | .mortarTrained .. | .mortarLinkFenced .. => True
    | _ => t.linksFenced = s.linksFenced) ∧
    -- Whether the PCIe link is up.
    (match c with
    | .powerOn .. | .brownOut .. | .resetPin .. | .pcieReady .. => True
    | _ => t.pcieUp = s.pcieUp) ∧
    -- The JTAG state.
    (match c with
    | .accessTimeout .. | .powerOn .. | .brownOut .. | .resetPin .. | .tapReset .. | .jtagExtest .. | .jtagIdcode ..
    | .jtagSamplePreload .. | .jtagHighz .. | .jtagClamp .. | .jtagBypass .. | .jtagDbgReset .. | .jtagDbgAccess .. =>
    True
    | _ => t.taps = s.taps) ∧
    -- The boot processor.
    (match c with
    | .powerOn .. | .brownOut .. | .resetPin .. | .islandRelease .. | .pcieReady .. | .bootCheckPass ..
    | .bootWrite .. | .bootMasked .. | .bootPoll .. | .bootTable .. | .bootDelay .. => True
    | _ => t.boot = s.boot) ∧
    -- The answers that the host has read.
    (match c with
    | .fenceRead .. | .accessTimeout .. | .freedFsnRead .. | .spoilLogRead .. | .markCaptureRead .. | .purgeFsnRead ..
    | .ltLoRead .. | .frcLoRead .. | .mtNsRead .. | .posLoRead .. | .bar4Read .. | .jtagIdcode .. | .jtagDbgAccess ..
    => True
    | _ => t.resp = s.resp)

/-- What each command leaves alone, register writes and cold resets aside: those may start almost any work. Of the other commands,
only those named for a part of the machine change that part. -/
def Obligations.EventsReachOnlyTheirUnits : Prop :=
  ∀ (c : Instr) (s t : State), exec c s = .next t →
    match c with
    | .registerWrite .. | .pageSrst .. | .pageEnable .. | .fenceReq .. | .unfence .. | .pwrReq .. | .evtForce ..
    | .fltForce .. | .txnArm .. | .txnAbort .. | .txnClear .. | .xtxnGo .. | .xtxnAbort .. | .frameSubmit ..
    | .resDeclare .. | .resurvey .. | .reprint .. | .frameRelease .. | .frameAbort .. | .codecLaneUnfence ..
    | .jobSubmit .. | .jobAbort .. | .laneRetrain .. | .eyeScanGo .. | .eyeScanStop .. | .rlRouteChange ..
    | .headcfgSend .. | .trimSetSend .. | .rearm .. | .calLoad .. | .ageRestore .. | .ageSave .. | .ckptNow ..
    | .posAdj .. | .cueArm .. | .cueDisarm .. | .cueUnfence .. | .pathEnable .. | .pathStop .. | .pathResume ..
    | .pathClear .. | .stepGo .. | .stepStop .. | .stepQstop .. | .stepUnfence .. | .focUnfence .. | .busUnfence ..
    | .chopBadClear .. | .loopEnable .. | .loopDisable .. | .loopAuto .. | .loopManual .. | .loopUnfence ..
    | .gpioSet .. | .gpioClr .. | .txKick .. | .rxKick .. | .timeIncr .. | .timeAdj .. | .timeSet .. | .memInit ..
    | .dmaEnable .. | .dmaKick .. | .dmaAbort .. | .dmaUnfence .. | .railRequest .. | .railClear .. | .logSnap ..
    | .nvWrite .. | .powerOn .. | .brownOut .. | .resetPin .. | .softwareReset .. | .watchdogKick ..
    | .pkgWatchdogKick .. | .bootWrite .. | .bootMasked .. | .bootTable .. | .jtagDbgAccess .. | .fuseBurn ..
    | .fuseLock .. => True
    | _ =>
      -- Page memory.
      (match c with
      | .surveyAshlarDone .. | .frameRetire .. | .spoiledExit .. | .laneRoleChange .. | .carrySurveyStart ..
      | .carryRecordDone .. | .jobStart .. | .jobAshlarDone .. | .eyePointDone .. | .rlPacketLanded ..
      | .stationLine .. | .lgoEdge .. | .ledStrobe .. | .calLoadEnd .. | .ageActionEnd .. | .bar4Write ..
      | .dmaDescriptorFetch .. | .dmaDescriptorComplete .. | .domainPowerDown .. | .domainPowerTimeout ..
      | .clockGoodTimeout .. | .internalError .. => True
      | _ => t.mem = s.mem) ∧
      -- The blocks of page memory held as bad.
      (match c with
      | .surveyAshlarDone .. | .frameRetire .. | .spoiledExit .. | .laneRoleChange .. | .carrySurveyStart ..
      | .carryRecordDone .. | .jobAshlarDone .. | .eyePointDone .. | .rlPacketLanded .. | .stationLine ..
      | .lgoEdge .. | .ledStrobe .. | .calLoadEnd .. | .ageActionEnd .. | .bar4Read .. | .bar4Write .. | .scrubRead ..
      | .dmaDescriptorFetch .. | .dmaDescriptorComplete .. | .domainPowerDown .. | .domainPowerTimeout ..
      | .clockGoodTimeout .. | .internalError .. => True
      | _ => t.badBlocks = s.badBlocks) ∧
      -- The non-volatile store.
      (match c with
      | .ageActionEnd .. | .vinTrip .. | .logRecordWrite .. => True
      | _ => t.nv = s.nv) ∧
      -- Its bad words.
      (match c with
      | .ageActionEnd .. | .vinTrip .. | .logRecordWrite .. | .internalError .. => True
      | _ => t.nvBad = s.nvBad) ∧
      -- The sequence of the event log.
      (match c with
      | .vinTrip .. | .logRecordWrite .. => True
      | _ => t.logSeq = s.logSeq) ∧
      -- The host's memory.
      (match c with
      | .laneBlockLock .. | .ethFrameReceive .. | .ethLaunch .. | .ethFrameSent .. | .dmaDescriptorFetch ..
      | .dmaDescriptorComplete .. | .islandRelease .. => True
      | _ => t.host = s.host) ∧
      -- Whether a frame has been submitted since the cold reset.
      (match c with
      | .rlAshlar .. | .rlIndex .. | .rlDescriptor .. | .rlBadPacket .. => True
      | _ => t.lastFsnValid = s.lastFsnValid) ∧
      -- Resets and a domain that turns off put much of the rest at its reset value.
      (match c with
      | .lockup .. | .dieWatchdogExpire .. | .pkgWatchdogExpire .. | .domainPowerDown .. | .clockFailureWarmReset ..
      | .tapReset .. | .jtagExtest .. | .jtagIdcode .. | .jtagSamplePreload .. | .jtagHighz .. | .jtagClamp ..
      | .jtagBypass .. | .jtagDbgReset .. => True
      | _ =>
        -- The die clocks.
        (match c with
        | .timeRefresh .. | .clockFailure .. | .pllLock .. | .pllLockLoss .. | .islandRelease .. => True
        | _ => t.clocks = s.clocks) ∧
        -- The master time.
        (match c with
        | .islandRelease .. => True
        | _ => t.master = s.master) ∧
        -- The count of landed register writes.
        (match c with
        | .accessTimeout .. => True
        | _ => t.landed = s.landed) ∧
        -- The release of the dies.
        (match c with
        | .warmResetRelease .. | .strapSample .. | .referenceCheck .. | .pllLock .. | .pllLockLoss ..
        | .mortarTrained .. | .islandRelease .. => True
        | _ => t.releases = s.releases) ∧
        -- The power domains.
        (match c with
        | .domainPowerUp .. | .domainPowerTimeout .. | .mortarTrained .. | .islandRelease .. | .clockGoodTimeout .. =>
        True
        | _ => t.domains = s.domains) ∧
        -- The register transactions.
        (match c with
        | .txnCommit .. | .xtxnPrepare .. | .xtxnCommitMsg .. | .lgoEdge .. | .ledStrobe .. | .aregHeldStage ..
        | .cueFire .. | .loopTick .. => True
        | _ => t.txns = s.txns) ∧
        -- The cross-die transaction.
        (match c with
        | .xtxnAnswer .. | .xtxnCommitReport .. => True
        | _ => t.xtxn = s.xtxn) ∧
        -- The declared planes.
        (match c with
        | .planeDescriptorMsg .. | .jobAshlarDone .. | .rlPacketLanded .. => True
        | _ => t.decls = s.decls) ∧
        -- The DMA channels.
        (match c with
        | .dmaDescriptorFetch .. | .dmaDescriptorComplete .. | .domainPowerTimeout .. | .clockGoodTimeout ..
        | .internalError .. => True
        | _ => t.dmas = s.dmas) ∧
        -- The scrubbers.
        (match c with
        | .scrubRead .. => True
        | _ => t.scrubs = s.scrubs) ∧
        -- The compression jobs.
        (match c with
        | .jobStart .. | .jobAshlarDone .. | .domainPowerTimeout .. | .clockGoodTimeout .. | .internalError .. => True
        | _ => t.jobs = s.jobs) ∧
        -- The position counters.
        (match c with
        | .encoderStep .. | .encoderIndex .. => True
        | _ => t.counters = s.counters) ∧
        -- The gated feed-forward.
        (match c with
        | .loopTick .. | .cffMessage .. | .cffCancel .. => True
        | _ => t.cffs = s.cffs) ∧
        -- The converter.
        (match c with
        | .adcConversion .. => True
        | _ => t.adcs = s.adcs) ∧
        -- The zero-cross inputs.
        (match c with
        | .zeroCross .. => True
        | _ => t.zeros = s.zeros) ∧
        -- The high-voltage limits.
        (match c with
        | .adcConversion .. => True
        | _ => t.hvOver = s.hvOver) ∧
        -- The synchronisation times.
        (match c with
        | .ethFrameReceive .. => True
        | _ => t.syncAt = s.syncAt) ∧
        -- The next loop tick.
        (match c with
        | .loopTick .. | .islandRelease .. => True
        | _ => t.loopNext = s.loopNext) ∧
        -- The rails.
        (match c with
        | .railSeqStep .. | .railPgChange .. | .railQualifyDone .. | .railTimeout .. | .railDownTimeout ..
        | .railMinoffEnd .. => True
        | _ => t.rails = s.rails) ∧
        -- The thermal states.
        (match c with
        | .tempSample .. | .warmResetRelease .. => True
        | _ => t.thermals = s.thermals) ∧
        -- The calibration loads.
        (match c with
        | .calLoadEnd .. => True
        | _ => t.calJobs = s.calJobs) ∧
        -- The wear checkpoints.
        (match c with
        | .ageActionEnd .. | .wearCheckpoint .. | .ageRefresh .. | .vinTrip .. => True
        | _ => t.ages = s.ages) ∧
        -- The clock failures.
        (match c with
        | .clockFailure .. => True
        | _ => t.clkFails = s.clkFails) ∧
        -- The watchdogs.
        (match c with
        | .islandRelease .. => True
        | _ => t.dogs = s.dogs) ∧
        -- The waits of the boot.
        (match c with
        | .islandRelease .. | .pcieReady .. => True
        | _ => t.bootWaits = s.bootWaits))

/-- The 66-bit blocks of a lane: the scrambler of the payload bits, the descrambler that undoes it from any history after 58
bits, and the sync header that is not scrambled; a block is read back as it was sent (R160, R161). -/
def Obligations.LaneBlocksReadBack : Prop :=
  -- Each transmitted bit is the payload bit XOR the bits sent 39 and 58 before it.
  (∀ (h n : Nat) (d : List Bool), 58 ≤ n → n < d.length →
    (scramble h d).1.getD n false =
      ((d.getD n false != (scramble h d).1.getD (n - 39) false) != (scramble h d).1.getD (n - 58) false)) ∧
  -- The receiver takes the same two transmitted bits away.
  (∀ (h n : Nat) (r : List Bool), 58 ≤ n → n < r.length →
    (descramble h r).1.getD n false = ((r.getD n false != r.getD (n - 39) false) != r.getD (n - 58) false)) ∧
  -- Neither changes the number of bits, and from equal histories the payload comes back at once.
  (∀ (h : Nat) (d : List Bool), (scramble h d).1.length = d.length ∧ descramble h (scramble h d).1 = (d, (scramble h d).2)) ∧
  -- From any other history it comes back from the 59th bit on.
  (∀ (h g : Nat) (d : List Bool), (descramble g (scramble h d).1).1.drop 58 = d.drop 58) ∧
  -- A block of 8 payload bytes is read back, control or data, and both ends keep one history.
  (∀ (h : Nat) (b : Block), b.bytes.length = 8 →
    readBlock h (b.header ++ (scramble h b.payload).1) = (some b, (scramble h b.payload).2)) ∧
  -- The other two header values are invalid.
  (∀ (h : Nat) (x : Bool) (l : List Bool), (readBlock h (x :: x :: l)).1 = none)

/-- Packets as blocks: the packet start with its count, the data blocks with the CRC and the padding; what is sent is framed,
passes its CRC and reads back as it was (R185, R189, R190, R191). The CRC has the spec's check value. -/
def Obligations.PacketsReadBack : Prop :=
  -- Header and payload `b`: one packet start and B data blocks of 8 bytes, which hold the packet, its CRC and zeros.
  (∀ b : List Byte,
    ∃ (start : Block) (rest : List Block) (pad : Nat), packetBlocks b = start :: rest ∧ start.control = true ∧ pad < 8 ∧
      (∀ x ∈ rest, x.control = false ∧ x.bytes.length = 8) ∧
      rest.flatMap (·.bytes) = b ++ leBytes 4 (crc32 b) ++ List.replicate pad 0 ∧
      8 * rest.length = b.length + 4 + pad ∧ startOk start.bytes (rest.flatMap (·.bytes)) = true) ∧
  -- Where P of the header is the payload's length, the receiver takes the packet and reads the same fields and payload.
  (∀ (b : List Byte) (start : Block) (rest : List Block), 16 ≤ b.length → (parseRaster b).len = b.length - 16 →
    packetBlocks b = start :: rest →
    framed (rest.flatMap (·.bytes)) = true ∧ crcMatches (rest.flatMap (·.bytes)) = true ∧
      parseRaster (rest.flatMap (·.bytes)) = parseRaster b) ∧
  -- The header's byte map.
  (∀ (type flags psn fsn course ashlar offset : Nat) (payload : List Byte), type < 256 → flags < 256 → psn < 65536 →
    fsn < 4294967296 → course < 65536 → ashlar < 65536 → offset < 1048576 → payload.length < 4096 →
    parseRaster (leBytes 1 type ++ leBytes 1 flags ++ leBytes 2 psn ++ leBytes 4 fsn ++ leBytes 2 course ++ leBytes 2 ashlar ++
      leBytes 4 (offset + 1048576 * payload.length) ++ payload) =
      ⟨type, flags, psn, fsn, course, ashlar, offset, payload.length, payload⟩) ∧
  -- The three packets sent upstream: ACK and NAK with their PSN and no payload, CREDIT with 36 bytes.
  (∀ init psn : Nat, init < 2 → psn < 65536 →
    parseRaster (rasterBytes 0x10 [init, psn]) = ⟨0x10, 32 * init, psn, 0, 0, 0, 0, 0, []⟩ ∧
    parseRaster (rasterBytes 0x11 [psn]) = ⟨0x11, 0, psn, 0, 0, 0, 0, 0, []⟩) ∧
  (∀ (init : Nat) (counts : List Nat), init < 2 → counts.length = 17 →
    parseRaster (rasterBytes 0x12 (init :: counts)) =
      ⟨0x12, 32 * init, 0, 0, 0, 0, 0, 36, counts.flatMap (leBytes 2) ++ [0, 0]⟩) ∧
  -- The check value over "123456789".
  crc32 [0x31, 0x32, 0x33, 0x34, 0x35, 0x36, 0x37, 0x38, 0x39] = 0xCBF43926

/-- What the lanes of a bond send in one block slot: a marker on every lane in each 16,384th slot, a filler on every lane in one
slot of 2,048 and where nothing waits, and block j of the stream on the lane at position j mod W; a lane below state 5 sends
fillers. Polarity follows TX_INV (R163, R168, R183, R184; when a slot takes of the stream is log 154). -/
def Obligations.BondSlotsCarryTheStream : Prop :=
  ∀ (i p x : Nat) (s : State), (bondOf i s).lanes[p]? = some x → (bondOf i s).lanes.Nodup → (∀ m ∈ (bondOf i s).lanes, m < 12) →
    2 ≤ laneSt (bondDie i) x s → laneSt (bondDie i) x s ≤ 5 → (laneOf (bondDie i) x s).prbs = false →
    (laneOf (bondDie i) x s).far = false → (laneOf (bondDie i) x s).near = false → frameOut (bondDie i) x s = false →
    (bondOf i (bondSlot i s)).slot = (bondOf i s).slot + 1 ∧
    (let send := fun (b : Block) =>
        let w := b.header ++ (scramble (laneOf (bondDie i) x s).scr b.payload).1
        (laneOf (bondDie i) x (bondSlot i s)).wire = (if flag (R.LANE.LCFG_TX_INV (bondDie i) x) s then w.map (!·) else w) ∧
          (laneOf (bondDie i) x (bondSlot i s)).scr = (scramble (laneOf (bondDie i) x s).scr b.payload).2
     -- A lane that has not come up, or a slot kept for fillers.
     (laneSt (bondDie i) x s ≠ 5 ∨ ((bondOf i s).slot + 1) % 2048 = 1 → send fillerBlock) ∧
     -- The marker, with the lane's position, the width and the generation.
     (laneSt (bondDie i) x s = 5 → ((bondOf i s).slot + 1) % 16384 = 0 →
       send (markerBlock p (bondOf i s).lanes.length (bondGen i s)) ∧ (bondOf i (bondSlot i s)).stream = (bondOf i s).stream) ∧
     -- Any other slot: W blocks of the stream where the bond is up and W wait; fillers where not.
     (laneSt (bondDie i) x s = 5 → ((bondOf i s).slot + 1) % 16384 ≠ 0 → ((bondOf i s).slot + 1) % 2048 ≠ 1 →
       (rd (bondStLoc i) s = 2 ∧ (bondOf i s).lanes.length ≤ (bondOf i s).stream.length →
         send ((bondOf i s).stream.getD p fillerBlock) ∧
           (bondOf i (bondSlot i s)).stream = (bondOf i s).stream.drop (bondOf i s).lanes.length) ∧
       (¬ (rd (bondStLoc i) s = 2 ∧ (bondOf i s).lanes.length ≤ (bondOf i s).stream.length) →
         send fillerBlock ∧ (bondOf i (bondSlot i s)).stream = (bondOf i s).stream)))

/-- Register writes that are turned away, and privilege violations: what each leaves in ACC_ERR, PRIV_COUNT, PRIV_ADDR and the
event bits of D0, and that the register addressed is left as it was (R9, R28, R33, R37, R495, R576). -/
def Obligations.WritesTurnedAwayAreRecorded : Prop :=
  -- A write to a die window that the package lacks lands and is latched with KIND 0.
  (∀ (a : Access) (off be : Nat) (v : Word) (s : State), accessDown a s = false → off < 0x8000000 → s.dies ≤ off / 0x1000000 →
    exec (.registerWrite a off v be) s = .next (accErr 0 true (off / 4 * 4) (landWrite a.rq (off / 0x1000000) s))) ∧
  -- A write whose byte enables are not all set is dropped and latched with KIND 1; where its register holds a /P field and the
  -- view is BAR2, it counts as a violation too.
  (∀ (a : Access) (d p o be : Nat) (v : Word) (s : State) (r : RegD), accessDown a s = false → d < s.dies → p < 256 → o < 0x1000 →
    o % 4 = 0 → regAt d (p * 0x1000 + o) = some r → pagePresent d p s = true → be % 16 ≠ 15 →
    exec (.registerWrite a (Layout.addr d p o) v be) s = .next (accErr 1 true (Layout.addr d p o)
      (if a.bar2 = true ∧ privMask r ≠ 0 then privViolation (Layout.addr d p o) (landWrite a.rq d s) else landWrite a.rq d s))) ∧
  -- A write to a block register of a domain that is off is ignored and latched with KIND 2, and likewise counted.
  (∀ (a : Access) (d p o : Nat) (v : Word) (s : State) (r : RegD), accessDown a s = false → dieAnswers d s = true →
    dieFenced d s = false → p < 256 → 0x40 ≤ o → o < 0x1000 → o % 4 = 0 → regAt d (p * 0x1000 + o) = some r →
    pagePresent d p s = true → domSt d (pageDomain p) s ≠ 2 →
    exec (.registerWrite a (Layout.addr d p o) v 15) s = .next (accErr 2 true (Layout.addr d p o)
      (if a.bar2 = true ∧ privMask r ≠ 0 then privViolation (Layout.addr d p o) (landWrite a.rq d s) else landWrite a.rq d s))) ∧
  -- A write to a fenced die is ignored and latched with KIND 4, but for those to its RST page.
  (∀ (a : Access) (d p o : Nat) (v : Word) (s : State) (r : RegD), accessDown a s = false → dieAnswers d s = true →
    dieFenced d s = true → p < 256 → p ≠ 0x10 → o < 0x1000 → o % 4 = 0 → regAt d (p * 0x1000 + o) = some r →
    pagePresent d p s = true →
    exec (.registerWrite a (Layout.addr d p o) v 15) s = .next (accErr 4 true (Layout.addr d p o)
      (if a.bar2 = true ∧ privMask r ≠ 0 then privViolation (Layout.addr d p o) (landWrite a.rq d s) else landWrite a.rq d s))) ∧
  -- A violation that gets through is counted, the /P fields keep their values, and the others are written normally.
  (∀ (a : Access) (d p o : Nat) (v : Word) (s : State) (r : RegD), a.bar2 = true → p ∈ [0x11, 0x12] → 0x40 ≤ o → o < 0x1000 →
    o % 4 = 0 → regAt d (p * 0x1000 + o) = some r → privMask r ≠ 0 → Reaches { a with bar2 := false } d p o s →
    ∃ t, exec (.registerWrite a (Layout.addr d p o) v 15) s = .next t ∧
      (∀ f ∈ r.fields, rd ⟨Layout.addr d p o, f.lsb, f.width⟩ t =
        if f.priv then rd ⟨Layout.addr d p o, f.lsb, f.width⟩ s
        else fieldAfter false f (rd ⟨Layout.addr d p o, f.lsb, f.width⟩ s) (bitsOf v.toNat f.lsb f.width)) ∧
      (∀ x, x ≠ Layout.addr d p o → word x t = word x (privViolation (Layout.addr d p o) (landWrite a.rq d s)))) ∧
  -- The latch: the address, the kind and the direction of the first failure; the event bit is set at each.
  (∀ (k x : Nat) (w : Bool) (s : State), k < 8 → x < 0x8000000 →
    flag (R.CTRL.ACC_ERR_VALID 0) (accErr k w x s) = true ∧
    testBit (word (R.HDR.EVT_STAT_EVT 0 1).addr (accErr k w x s)).toNat 1 = true ∧
    (flag (R.CTRL.ACC_ERR_VALID 0) s = false → rd (R.CTRL.ACC_ERR_ADDR 0) (accErr k w x s) = x ∧
      rd (R.CTRL.ACC_ERR_KIND 0) (accErr k w x s) = k ∧ flag (R.CTRL.ACC_ERR_WRITE 0) (accErr k w x s) = w) ∧
    (flag (R.CTRL.ACC_ERR_VALID 0) s = true →
      word (R.CTRL.ACC_ERR_VALID 0).addr (accErr k w x s) = word (R.CTRL.ACC_ERR_VALID 0).addr s)) ∧
  -- The record of a violation: the count goes up to its largest value, and the first offset is held.
  (∀ (x : Nat) (s : State), x < 0x8000000 →
    rd (R.CTRL.PRIV_COUNT_COUNT 0) (privViolation x s) = Nat.min (rd (R.CTRL.PRIV_COUNT_COUNT 0) s + 1) 65535 ∧
    testBit (word (R.HDR.EVT_STAT_EVT 0 1).addr (privViolation x s)).toNat 0 = true ∧
    flag (R.CTRL.PRIV_ADDR_VALID 0) (privViolation x s) = true ∧
    (flag (R.CTRL.PRIV_ADDR_VALID 0) s = false → rd (R.CTRL.PRIV_ADDR_ADDR 0) (privViolation x s) = x) ∧
    (flag (R.CTRL.PRIV_ADDR_VALID 0) s = true →
      word (R.CTRL.PRIV_ADDR_VALID 0).addr (privViolation x s) = word (R.CTRL.PRIV_ADDR_VALID 0).addr s)) ∧
  -- Neither touches the register that was addressed, nor any other word of a block.
  (∀ (d p o k x : Nat) (w : Bool) (s : State), p < 256 → p ≠ 0 → p ≠ 1 → p ≠ 0x15 → 0x40 ≤ o → o < 0x1000 →
    word (Layout.addr d p o) (accErr k w x s) = word (Layout.addr d p o) s ∧
    word (Layout.addr d p o) (privViolation x s) = word (Layout.addr d p o) s)

/-- The order of the wrapping counters FSN, PSN, LSN, ESN, TSN and STIME: a is later than b exactly when (a − b) mod 2^w lies
between 1 and 2^(w−1) − 1; no two values are each later than the other, and the order follows a counter through its wrap (R11). -/
def Obligations.LaterFollowsTheWrap : Prop :=
  (∀ w a b : Nat, 1 ≤ w → a < 2 ^ w → b < 2 ^ w →
    (later w a b = true ↔ 1 ≤ ((a : Int) - b) % 2 ^ w ∧ ((a : Int) - b) % 2 ^ w ≤ 2 ^ (w - 1) - 1)) ∧
  (∀ w a b : Nat, 1 ≤ w → a < 2 ^ w → b < 2 ^ w → later w a b = true → later w b a = false) ∧
  (∀ w b k : Nat, 1 ≤ w → b < 2 ^ w → 1 ≤ k → k < 2 ^ (w - 1) → later w ((b + k) % 2 ^ w) b = true)

/-- The commands of a page's header (R34, R44, R484, R491, R493, R494, R502). PAGE_CTL and the force registers are privileged,
so `Reaches` asks for a BAR0 write. -/
def Obligations.PageHeaderCommandsAct : Prop :=
  -- EVT_FORCE sets the bits written in EVT_STAT.
  (∀ (a : Access) (d p : Nat) (v : Word) (s : State), p < 256 → Reaches a d p 0x18 s →
    ∃ t, exec (.evtForce a d p v) s = .next t ∧
      word (R.HDR.EVT_STAT_EVT d p).addr t = word (R.HDR.EVT_STAT_EVT d p).addr s ||| v) ∧
  -- FLT_FORCE of one class C source of a page that does no more: it is counted, and recorded as the detected fault would be.
  (∀ (a : Access) (d p src : Nat) (s : State), p ∈ [0x12, 0x15, 0x31, 0x32, 0x38, 0x39, 0x40] → faultClass p src = 1 →
    Reaches a d p 0x20 s →
    ∃ t, exec (.fltForce a d p (BitVec.ofNat 32 (2 ^ src))) s = .next t ∧
      t = recordFault d p src true (bump (R.DIE.FORCE_CNT_COUNT d) (landWrite a.rq d s))) ∧
  -- PAGE_ENABLE of a page whose block begins nothing: EN takes bit 0 of the word.
  (∀ (a : Access) (d p : Nat) (v : Word) (s : State), p < 256 → Reaches a d p 8 s →
    startsNothing p = true → (testBit v.toNat 3 || decide (pageDomain p ≤ 1)) = flag (R.HDR.PAGE_CTL_PWR_REQ d p) s →
    testBit v.toNat 1 = false → testBit v.toNat 2 = false → testBit v.toNat 4 = false →
    ∃ t, exec (.pageEnable a d p v) s = .next t ∧ flag (R.HDR.PAGE_CTL_EN d p) t = testBit v.toNat 0) ∧
  -- PAGE_SRST: every register of the page above the header reads its reset value.
  (∀ (a : Access) (d p o : Nat) (v : Word) (s : State), p ∈ [2, 3, 4, 5, 6, 7, 8, 9, 0x14, 0x32, 0x39, 0x78] →
    Reaches a d p 8 s → testBit v.toNat 2 = false → testBit v.toNat 4 = false →
    testBit v.toNat 3 = flag (R.HDR.PAGE_CTL_PWR_REQ d p) s → (p ≤ 0x32 → testBit v.toNat 3 = true) →
    0x40 ≤ o → o < 0x1000 →
    ∃ t, exec (.pageSrst a d p v) s = .next t ∧
      word (Layout.addr d p o) t = resetWord (Layout.addr d p o)) ∧
  -- FENCE_REQ fences every unit of the page.
  (∀ (a : Access) (d p : Nat) (v : Word) (s : State), p ∈ [0x31, 0x39, 0x68, 0x69] → Reaches a d p 8 s →
    testBit v.toNat 1 = false → testBit v.toNat 4 = false →
    ∃ t, exec (.fenceReq a d p v) s = .next t ∧ ∀ u ∈ pageUnits d p, u ∈ t.fenced) ∧
  -- UNFENCE unfences the units of the page, while no fault of class U or F of the page is set, and no other.
  (∀ (a : Access) (d p : Nat) (v : Word) (s : State), p ∈ [0x39, 0x68, 0x69] → Reaches a d p 8 s →
    testBit v.toNat 1 = false → testBit v.toNat 2 = false → faultsHold d p s = false →
    ∃ t, exec (.unfence a d p v) s = .next t ∧ ∀ u, u ∈ t.fenced ↔ u ∈ s.fenced ∧ u ∉ pageUnits d p) ∧
  -- PWR_REQ of a page whose domain is off while the domains that it needs are on: the domain begins to power up.
  (∀ (a : Access) (d p : Nat) (v : Word) (s : State), p < 256 → Reaches a d p 8 s → 3 ≤ pageDomain p →
    (domainOf d (pageDomain p) s).st = 0 → (domainOf d (pageDomain p) s).failed = false →
    (domNeeds d (pageDomain p)).all (fun e => domSt d e s == 2) = true →
    (∀ i < 8, rd (R.TXN.TXS_STAT_STATE d i) s ≠ 1) →
    flag (R.HDR.PAGE_CTL_PWR_REQ d p) s = false → testBit v.toNat 0 = flag (R.HDR.PAGE_CTL_EN d p) s →
    testBit v.toNat 1 = false → testBit v.toNat 2 = false → testBit v.toNat 3 = true → testBit v.toNat 4 = false →
    ∃ t, exec (.pwrReq a d p v) s = .next t ∧ domainOf d (pageDomain p) t = { st := 1, since := s.now }) ∧
  -- STATION_UNFENCE_APPLY at the station's frame boundary.
  (∀ (k : Nat) (s : State), k ∈ s.unfPending → printsNow k s = false →
    (∃ m ∈ headLanes k, laneFenced (stDie k) m s = false) →
    ∃ t, exec (.stationUnfenceApply k) s = .next t ∧ UnitId.station k ∉ t.fenced ∧ k ∉ t.unfPending)

/-- Accesses of the register space and the ends that they can come to (R5, R9, R41, R497, R535). -/
def Obligations.RegisterAccessCommandsAct : Prop :=
  -- REGISTER_WRITE of a register without an effect of its own: each field takes what its access type and the view say, the write
  -- is counted, and nothing else changes.
  (∀ (a : Access) (d p o : Nat) (v : Word) (s : State) (r : RegD),
    (p ∈ [0x11, 0x12] ∨ p = 0x40 ∧ o ∉ [0x54, 0x70] ∨ p = 0x60 ∧ o < 0x300 ∧ o ∉ [0x40, 0x50]) → 0x40 ≤ o → o < 0x1000 → o % 4 = 0 →
    regAt d (p * 0x1000 + o) = some r → Reaches a d p o s →
    ∃ t, exec (.registerWrite a (Layout.addr d p o) v 15) s = .next t ∧
      (∀ f ∈ r.fields, rd ⟨Layout.addr d p o, f.lsb, f.width⟩ t =
        fieldAfter a.bar2 f (rd ⟨Layout.addr d p o, f.lsb, f.width⟩ s) (bitsOf v.toNat f.lsb f.width)) ∧
      (∀ x, x ≠ Layout.addr d p o → word x t = word x s) ∧
      t = { s with regs := t.regs, landed := (landWrite a.rq d s).landed }) ∧
  -- FENCE_READ returns the number of writes of its requester that have landed, and changes nothing else.
  (∀ (a : Access) (d : Nat) (s : State), Answers a d 1 s →
    ∃ t, exec (.fenceRead a d) s = .next t ∧ t = { s with resp := { value := BitVec.ofNat 32 (landedOn a.rq d s) } }) ∧
  -- ACCESS_TIMEOUT: a read ends in an error completion; the first one is recorded in LOCKUP of its die.
  (∀ (a : Access) (off : Nat) (write : Bool) (s : State), accessDown a s = false → off < 0x8000000 →
    dieAnswers (off / 0x1000000) s = true → flag (R.RST.LOCKUP_VALID (off / 0x1000000)) s = false →
    ∃ t, exec (.accessTimeout a off write) s = .next t ∧ (write = false → t.resp = { error := true }) ∧
      flag (R.RST.LOCKUP_VALID (off / 0x1000000)) t = true ∧
      rd (R.RST.LOCKUP_ADDR (off / 0x1000000)) t = off / 4 * 4) ∧
  -- LOCKUP resets its die, or the package where the die is D0 or RST_CFG.LOCK_PKG is set.
  (∀ (d : Nat) (s : State), dieUp d s = true → coldRunning s = false →
    ∃ t, exec (.lockup d) s = .next t ∧ (releaseOf d t).phase = 0 ∧ (releaseOf d t).due = s.now + 10000 ∧
      (flag (R.RST.RST_CFG_LOCK_PKG d) s = true ∨ d = 0 → ∀ e < s.dies, (releaseOf e t).phase = 0)) ∧
  -- ERR_PULSE_END: the pulse is over; nothing else changes.
  (∀ (e : Nat) (s : State), s.errPulseEnd = some e → e ≤ s.now →
    ∃ t, exec .errPulseEnd s = .next t ∧ t = wr (R.CTRL.ERR_STAT_PULSE 0) 0 { s with errPulseEnd := none } ∧
      flag (R.CTRL.ERR_STAT_PULSE 0) t = false)

/-- Hardware transactions on one die (R48 to R55). -/
def Obligations.StagingSlotCommandsAct : Prop :=
  -- TXN_ARM of a slot that is neither checking nor prepared: it is checking, with the next TSN, the condition written and the
  -- argument as it stands.
  (∀ (a : Access) (d i : Nat) (v : Word) (s : State), i < 8 → Reaches a d (2 + i) 0x40 s → slotBusy d i s = false →
    testBit v.toNat 2 = false →
    ∃ t, exec (.txnArm a d i v) s = .next t ∧ rd (R.TXN.TXS_STAT_STATE d i) t = 4 ∧
      rd (R.TXN.TXS_TSN_TSN d i) t = (rd (R.CTRL.TSN_LAST_TSN 0) s + 1) % 4294967296 ∧
      rd (R.CTRL.TSN_LAST_TSN 0) t = (rd (R.CTRL.TSN_LAST_TSN 0) s + 1) % 4294967296 ∧
      rd (R.TXN.TXS_CTL_COND d i) t = bitsOf v.toNat 8 3 ∧ rd (R.TXN.TXS_CTL_STATION d i) t = bitsOf v.toNat 12 1 ∧
      flag (R.TXN.TXS_STAT_XDIE d i) t = false ∧ flag (R.TXN.TXS_STAT_VIEW d i) t = a.bar2 ∧
      txnOf d i t = { arg := slotArg d i s, areg := none }) ∧
  -- TXN_CHECKS_DONE: the slot is prepared when no check fails; a failed condition check rejects it with that reason; else the first
  -- entry that fails rejects it, with its reason and, in BAD, its number.
  (∀ (d i : Nat) (s : State), d < s.dies → i < 8 → rd (R.TXN.TXS_STAT_STATE d i) s = 4 → condReason d i s = 0 →
    badEntry d i (flag (R.TXN.TXS_STAT_VIEW d i) s) s = none →
    ∃ t, exec (.txnChecksDone d i) s = .next t ∧ rd (R.TXN.TXS_STAT_STATE d i) t = 1 ∧
      rd (R.TXN.TXS_STAT_REASON d i) t = 0 ∧ t = { s with regs := t.regs }) ∧
  (∀ (d i : Nat) (s : State), d < s.dies → i < 8 → rd (R.TXN.TXS_STAT_STATE d i) s = 4 → condReason d i s ≠ 0 →
    ∃ t, exec (.txnChecksDone d i) s = .next t ∧ rd (R.TXN.TXS_STAT_STATE d i) t = 3 ∧
      rd (R.TXN.TXS_STAT_REASON d i) t = condReason d i s) ∧
  (∀ (d i n r x : Nat) (s : State), d < s.dies → i < 8 → rd (R.TXN.TXS_STAT_STATE d i) s = 4 → condReason d i s = 0 →
    badEntry d i (flag (R.TXN.TXS_STAT_VIEW d i) s) s = some (n, r, x) → n < 512 → r < 16 →
    ∃ t, exec (.txnChecksDone d i) s = .next t ∧ rd (R.TXN.TXS_STAT_STATE d i) t = 3 ∧
      rd (R.TXN.TXS_STAT_REASON d i) t = r ∧ rd (R.TXN.TXS_STAT_BAD d i) t = n) ∧
  -- TXN_ABORT of a checking or prepared slot whose commit is not decided, with nothing else in the word: rejected with ABORTED.
  (∀ (a : Access) (d i : Nat) (v : Word) (s : State), i < 8 → Reaches a d (2 + i) 0x40 s → slotBusy d i s = true →
    slotDecided d i s = false → testBit v.toNat 0 = false → testBit v.toNat 2 = false →
    bitsOf v.toNat 8 3 = rd (R.TXN.TXS_CTL_COND d i) s → bitsOf v.toNat 12 1 = rd (R.TXN.TXS_CTL_STATION d i) s →
    ∃ t, exec (.txnAbort a d i v) s = .next t ∧ rd (R.TXN.TXS_STAT_STATE d i) t = 3 ∧ rd (R.TXN.TXS_STAT_REASON d i) t = 8) ∧
  -- TXN_CLEAR of a slot that is neither: it is idle, with no entry.
  (∀ (a : Access) (d i : Nat) (v : Word) (s : State), i < 8 → Reaches a d (2 + i) 0x40 s → slotBusy d i s = false →
    testBit v.toNat 0 = false →
    ∃ t, exec (.txnClear a d i v) s = .next t ∧ rd (R.TXN.TXS_STAT_STATE d i) t = 0 ∧ rd (R.TXN.TXS_COUNT_COUNT d i) t = 0 ∧
      slotEntries d i t = []) ∧
  -- TXN_COMMIT of a prepared slot whose condition is reached: all its entries take effect in this one step, and it is committed.
  (∀ (d i : Nat) (s : State), d < s.dies → i < 8 → rd (R.TXN.TXS_STAT_STATE d i) s = 1 → slotDue d i s = true →
    ∃ t, exec (.txnCommit d i) s = .next t ∧ t = slotCommit d i s ∧ rd (R.TXN.TXS_STAT_STATE d i) t = 2 ∧ (txnOf d i t).doneAt = some s.now)

/-- Transactions across dies (R56 to R58). -/
def Obligations.CrossDieCommandsAct : Prop :=
  -- XTXN_GO far enough before T, with a die in the map: it is preparing, and every die of the map is told.
  (∀ (a : Access) (v : Word) (s : State), Reaches a 0 1 0x80 s → testBit v.toNat 1 = false → xtxnState s ≠ 1 → xtxnState s ≠ 2 →
    mapDies (rd (R.CTRL.XTXN_MAP_MAP 0) s) ≠ [] →
    later 64 (rd (R.CTRL.XTXN_TIME_LO_T 0) s + 4294967296 * rd (R.CTRL.XTXN_TIME_HI_T 0) s)
      ((ltime 0 s + 49999) % 18446744073709551616) = true →
    ∃ t, exec (.xtxnGo a v) s = .next t ∧ xtxnState t = 1 ∧
      t.xtxn.time = rd (R.CTRL.XTXN_TIME_LO_T 0) s + 4294967296 * rd (R.CTRL.XTXN_TIME_HI_T 0) s ∧
      t.xtxn.slots = (mapDies (rd (R.CTRL.XTXN_MAP_MAP 0) s)).map (fun d => (d, bitsOf (rd (R.CTRL.XTXN_MAP_MAP 0) s) (4 * d) 3)) ∧
      rd (R.CTRL.XTXN_TSN_TSN 0) t = (rd (R.CTRL.TSN_LAST_TSN 0) s + 1) % 4294967296 ∧
      t.msgs = s.msgs ++ t.xtxn.slots.map (fun x => .prepare x.1 x.2 (rd (R.CTRL.XTXN_TSN_TSN 0) t) t.xtxn.time)) ∧
  -- With T less than 50 µs away it is abandoned at once with LATE, and no die is told.
  (∀ (a : Access) (v : Word) (s : State), Reaches a 0 1 0x80 s → testBit v.toNat 1 = false → xtxnState s ≠ 1 → xtxnState s ≠ 2 →
    later 64 (rd (R.CTRL.XTXN_TIME_LO_T 0) s + 4294967296 * rd (R.CTRL.XTXN_TIME_HI_T 0) s)
      ((ltime 0 s + 49999) % 18446744073709551616) = false →
    ∃ t, exec (.xtxnGo a v) s = .next t ∧ xtxnState t = 4 ∧ rd (R.CTRL.XTXN_STAT_REASON 0) t = 1 ∧ t.msgs = s.msgs) ∧
  -- XTXN_ABORT while it is preparing.
  (∀ (a : Access) (v : Word) (s : State), Reaches a 0 1 0x80 s → testBit v.toNat 0 = false → xtxnState s = 1 →
    ∃ t, exec (.xtxnAbort a v) s = .next t ∧ xtxnState t = 4 ∧ rd (R.CTRL.XTXN_STAT_REASON 0) t = 8 ∧
      t.msgs = s.msgs ++ s.xtxn.slots.map (fun x => .abort x.1 x.2)) ∧
  -- XTXN_PREPARE at a die whose slot is free: armed and checked; the answer carries the reason, 0 when it is prepared.
  (∀ (d i tsn time : Nat) (s : State), s.msgs.find? (isPrepare d) = some (.prepare d i tsn time) → i < 8 → dieUp d s = true →
    dieFenced d s = false → slotBusy d i s = false →
    ∃ t, exec (.xtxnPrepare d) s = .next t ∧ flag (R.TXN.TXS_STAT_XDIE d i) t = true ∧
      rd (R.TXN.TXS_TSN_TSN d i) t = tsn % 4294967296 ∧ (txnOf d i t).arg = time ∧
      rd (R.TXN.TXS_STAT_STATE d i) t = (if rd (R.TXN.TXS_STAT_REASON d i) t = 0 then 1 else 3) ∧
      t.msgs = s.msgs.erase (.prepare d i tsn time) ++ [.answer d (rd (R.TXN.TXS_STAT_REASON d i) t)]) ∧
  -- XTXN_ANSWER: the last OK decides, with no die of it fenced and no refusal on its way; a refusal abandons.
  (∀ (d : Nat) (s : State), s.msgs.find? (isAnswer d) = some (.answer d 0) → xtxnState s = 1 →
    ∃ t, exec (.xtxnAnswer d) s = .next t ∧ t.xtxn.answered = d :: s.xtxn.answered ∧
      (if s.xtxn.slots.all (fun x => (d :: s.xtxn.answered).contains x.1 && !dieFenced x.1 s) = true ∧ s.msgs.any isFail = false then
        xtxnState t = 2 ∧ t.msgs = s.msgs.erase (.answer d 0) ++ s.xtxn.slots.map (fun x => .commit x.1 x.2)
      else xtxnState t = 1 ∧ t.msgs = s.msgs.erase (.answer d 0))) ∧
  (∀ (d r : Nat) (s : State), s.msgs.find? (isAnswer d) = some (.answer d r) → xtxnState s = 1 → 0 < r → r < 16 → d < 8 →
    ∃ t, exec (.xtxnAnswer d) s = .next t ∧ xtxnState t = 4 ∧ rd (R.CTRL.XTXN_STAT_REASON 0) t = r ∧
      rd (R.CTRL.XTXN_STAT_DIE 0) t = d ∧
      t.msgs = s.msgs.erase (.answer d r) ++ s.xtxn.slots.map (fun x => .abort x.1 x.2)) ∧
  -- XTXN_COMMIT_MSG: the commit of the slot is decided, and it waits for T.
  (∀ (d i : Nat) (s : State), s.msgs.find? (isCommit d) = some (.commit d i) → slotBusy d i s = true →
    flag (R.TXN.TXS_STAT_XDIE d i) s = true → dieFenced d s = false →
    ∃ t, exec (.xtxnCommitMsg d) s = .next t ∧ txnOf d i t = { txnOf d i s with decided := true } ∧
      t = { s with msgs := s.msgs.erase (.commit d i), txns := t.txns }) ∧
  -- XTXN_ABORT_MSG: the slot is rejected with PEER.
  (∀ (d i : Nat) (s : State), s.msgs.find? (isAbort d) = some (.abort d i) → i < 8 → slotBusy d i s = true →
    flag (R.TXN.TXS_STAT_XDIE d i) s = true →
    ∃ t, exec (.xtxnAbortMsg d) s = .next t ∧ rd (R.TXN.TXS_STAT_STATE d i) t = 3 ∧ rd (R.TXN.TXS_STAT_REASON d i) t = 9) ∧
  -- XTXN_COMMIT_REPORT: the last report ends the transaction as committed.
  (∀ (d : Nat) (s : State), s.msgs.find? (isReport d) = some (.report d) → xtxnState s = 2 →
    ∃ t, exec (.xtxnCommitReport d) s = .next t ∧ t.xtxn.reported = d :: s.xtxn.reported ∧
      (if s.xtxn.slots.all (fun x => (d :: s.xtxn.reported).contains x.1 || dieFenced x.1 s) = true then
        xtxnState t = 3 else xtxnState t = 2)) ∧
  -- XTXN_TIMEOUT: with an answer missing, or a die of it fenced, 20 µs before T it is abandoned, naming the first such die.
  (∀ (d i : Nat) (s : State), xtxnState s = 1 → later 64 s.xtxn.time ((ltime 0 s + 20000) % 18446744073709551616) = false →
    s.xtxn.slots.find? (fun x => !s.xtxn.answered.contains x.1 || dieFenced x.1 s) = some (d, i) → d < 8 →
    ∃ t, exec .xtxnTimeout s = .next t ∧ xtxnState t = 4 ∧ rd (R.CTRL.XTXN_STAT_REASON 0) t = 10 ∧
      rd (R.CTRL.XTXN_STAT_DIE 0) t = d ∧ t.msgs = s.msgs ++ s.xtxn.slots.map (fun x => .abort x.1 x.2))

/-- Frames on their way into the queue (R71 to R74, R77, R79, R84, R90). -/
def Obligations.FrameEntryCommandsAct : Prop :=
  -- FRAME_SUBMIT of a slot that is FREE and reserved for the host, with a descriptor that passes: LOADING, and its planes
  -- are on their way.
  (∀ (a : Access) (v : Word) (s : State), Reaches a 0 0x48 0x44 s → slotFree (v.toNat % 64) s = true →
    hostReserved (v.toNat % 64) s = true → frameReason (descBytes (v.toNat % 64) s) s = 0 →
    ∃ t, exec (.frameSubmit a v) s = .next t ∧ slotOf (v.toNat % 64) t = { st := 1 } ∧
      (∀ k < 16, planeOf (v.toNat % 64) k t = {}) ∧ t.lastFsnValid = true ∧
      rd (R.FRAME.LAST_FSN_FSN 0) t = frameFsn (v.toNat % 64) s % 4294967296 ∧
      t.msgs = s.msgs ++ (frameStations (v.toNat % 64) s).map (fun k => .plane (v.toNat % 64) k)) ∧
  -- One that does not pass leaves the slot as it was, and SUBMIT_STAT says why.
  (∀ (a : Access) (v : Word) (s : State), Reaches a 0 0x48 0x44 s → slotFree (v.toNat % 64) s = true →
    hostReserved (v.toNat % 64) s = true → frameReason (descBytes (v.toNat % 64) s) s ≠ 0 →
    ∃ t, exec (.frameSubmit a v) s = .next t ∧ slotOf (v.toNat % 64) t = slotOf (v.toNat % 64) s ∧ t.msgs = s.msgs ∧
      rd (R.FRAME.SUBMIT_STAT_SLOT 0) t = v.toNat % 64 ∧
      rd (R.FRAME.SUBMIT_STAT_REASON 0) t = frameReason (descBytes (v.toNat % 64) s) s ∧
      flag (R.FRAME.SUBMIT_STAT_VALID 0) t = true) ∧
  -- PLANE_DESCRIPTOR_MSG: the die holds the plane, with what was declared resident of it before.
  (∀ (i k : Nat) (m : Msg) (s : State), s.msgs.find? (isPlaneMsg i k) = some m → (slotOf i s).st ≠ 0 →
    dieFenced (stDie k) s = false → (planeOf i k s).got = false →
    ∃ t, exec (.planeDescriptorMsg i k) s = .next t ∧ (planeOf i k t).got = true ∧ (planeOf i k t).fsn = frameFsn i s ∧
      (∀ n, s.decls.filter (fun e => e.fsn == frameFsn i s && e.station == k) = [⟨frameFsn i s, k, n, []⟩] →
        (planeOf i k t).resCount = n) ∧
      t = { s with msgs := s.msgs.erase m, planes := t.planes,
                   decls := s.decls.filter (fun e => !(e.fsn == frameFsn i s && e.station == k)) }) ∧
  -- RES_DECLARE for a plane that its die holds: the resident count is the larger of the two.
  (∀ (a : Access) (d i : Nat) (v : Word) (s : State), Reaches a d 0x48 0x114 s →
    slotOfFsn (rd (R.FRAME.RES_FSN_FSN d) s) s = some i → (planeOf i (2 * d + bitsOf v.toNat 24 1) s).got = true →
    (planeOf i (2 * d + bitsOf v.toNat 24 1) s).resSet = [] →
    ∃ t, exec (.resDeclare a d v) s = .next t ∧
      planeOf i (2 * d + bitsOf v.toNat 24 1) t = { planeOf i (2 * d + bitsOf v.toNat 24 1) s with
        resCount := Nat.max (planeOf i (2 * d + bitsOf v.toNat 24 1) s).resCount (v.toNat % 131072) }) ∧
  -- RESURVEY of the ashlar that failed: it and what follows are surveyed again.
  (∀ (a : Access) (d i : Nat) (v : Word) (s : State), Reaches a d 0x48 0x114 s →
    slotOfFsn (rd (R.FRAME.RES_FSN_FSN d) s) s = some i → (planeOf i (2 * d + bitsOf v.toNat 24 1) s).got = true →
    frameOrigin i s = 0 → (planeDesc i (2 * d + bitsOf v.toNat 24 1) s).carry = false →
    (planeOf i (2 * d + bitsOf v.toNat 24 1) s).failed = some (v.toNat % 131072) →
    ∃ t, exec (.resurvey a d v) s = .next t ∧ (planeOf i (2 * d + bitsOf v.toNat 24 1) t).failed = none ∧
      (planeOf i (2 * d + bitsOf v.toNat 24 1) t).passed =
        (planeOf i (2 * d + bitsOf v.toNat 24 1) s).passed.filter (fun x => decide (x.n < v.toNat % 131072))) ∧
  -- FRAME_ADMITTED without copies, with copies and a free retention entry, and with copies and none.
  (∀ (i : Nat) (s : State), i < 64 → (slotOf i s).left = false → (slotOf i s).st = 1 ∨ (slotOf i s).st = 2 →
    admissible i s = true → frameCount i s = 0 →
    ∃ t, exec (.frameAdmitted i) s = .next t ∧ slotOf i t = { slotOf i s with st := 3 } ∧ t.retained = s.retained) ∧
  (∀ (i e : Nat) (s : State), i < 64 → (slotOf i s).left = false → (slotOf i s).st = 1 ∨ (slotOf i s).st = 2 →
    admissible i s = true → frameCount i s ≠ 0 → frameOrigin i s = 0 → (slotOf i s).resv = none → freeEntry s = some e →
    ∃ t, exec (.frameAdmitted i) s = .next t ∧ slotOf i t = { slotOf i s with st := 3, resv := some e } ∧
      retainedOf e t = { use := 1 }) ∧
  (∀ (i : Nat) (s : State), i < 64 → (slotOf i s).left = false → (slotOf i s).st = 1 ∨ (slotOf i s).st = 2 →
    admissible i s = true → frameCount i s ≠ 0 → frameOrigin i s = 0 → (slotOf i s).resv = none → freeEntry s = none →
    ∃ t, exec (.frameAdmitted i) s = .next t ∧ t.slots = s.slots) ∧
  -- FRAME_ARMED with no earlier frame on a shared station still short of IMAGING.
  (∀ (i : Nat) (s : State), i < 64 → (slotOf i s).left = false → (slotOf i s).st = 3 →
    (∀ j ∈ sharing i s, 1 ≤ (slotOf j s).st → (slotOf j s).st ≤ 4 → later 32 (frameFsn i s) (frameFsn j s) = false) →
    ∃ t, exec (.frameArmed i) s = .next t ∧ slotOf i t = { slotOf i s with st := 4 } ∧ t = { s with slots := t.slots })

/-- Frames leaving the queue, reprints, releases and aborts (R79, R86 to R95). -/
def Obligations.FrameExitCommandsAct : Prop :=
  -- FRAME_RETIRE without copies, with room in the freed FIFO: the slot is FREE and its FSN enters.
  (∀ (i : Nat) (s : State), i < 64 → (slotOf i s).st = 6 → frameOrigin i s = 0 → frameCount i s = 0 →
    s.freedWait = [] → s.freed.length < 128 →
    ∃ t, exec (.frameRetire i) s = .next t ∧ slotOf i t = {} ∧ t.freed = s.freed ++ [frameFsn i s]) ∧
  -- With the FIFO full it waits in its slot.
  (∀ (i : Nat) (s : State), i < 64 → (slotOf i s).st = 6 → frameOrigin i s = 0 → frameCount i s = 0 →
    s.freedWait = [] → 128 ≤ s.freed.length →
    ∃ t, exec (.frameRetire i) s = .next t ∧ slotOf i t = slotOf i s ∧ t.freed = s.freed ∧ t.freedWait = [.slot i]) ∧
  -- With copies it is RETAINED: its reserved entry holds its FSN and its count.
  (∀ (i e : Nat) (s : State), i < 64 → (slotOf i s).st = 6 → frameOrigin i s = 0 → frameCount i s ≠ 0 →
    (slotOf i s).resv = some e →
    ∃ t, exec (.frameRetire i) s = .next t ∧ slotOf i t = {} ∧ t.freed = s.freed ∧
      retainedOf e t = { use := 2, fsn := frameFsn i s, count := frameCount i s }) ∧
  -- SPOILED_EXIT of a frame that is requeued: SURVEYED again, with its retention entry.
  (∀ (i : Nat) (s : State), i < 64 → (slotOf i s).st = 7 → (slotOf i s).left = false → .slot i ∉ s.freedWait →
    spoilOutcome i s = 1 →
    ∃ t, exec (.spoiledExit i) s = .next t ∧ slotOf i t = { st := 2, resv := (slotOf i s).resv }) ∧
  -- And of one that leaves for FREE, for RETAINED.
  (∀ (i : Nat) (s : State), i < 64 → (slotOf i s).st = 7 → (slotOf i s).left = false → spoilOutcome i s = 0 →
    frameOrigin i s = 0 → s.freedWait = [] → s.freed.length < 128 →
    ∃ t, exec (.spoiledExit i) s = .next t ∧ slotOf i t = {} ∧ t.freed = s.freed ++ [frameFsn i s]) ∧
  (∀ (i e : Nat) (s : State), i < 64 → (slotOf i s).st = 7 → (slotOf i s).left = false → .slot i ∉ s.freedWait →
    spoilOutcome i s = 2 → (slotOf i s).resv = some e →
    ∃ t, exec (.spoiledExit i) s = .next t ∧ slotOf i t = {} ∧ t.freed = s.freed ∧
      retainedOf e t = { use := 2, fsn := frameFsn i s, count := frameCount i s }) ∧
  -- REPRINT of a retained FSN with copies left, with a slot for it: SURVEYED there, and one copy fewer is left.
  (∀ (a : Access) (i e : Nat) (v : Word) (s : State), Reaches a 0 0x48 0x6C s →
    entryOf (rd (R.FRAME.REPRINT_FSN_FSN 0) s) s = some e → (retainedOf e s).released = false → 0 < (retainedOf e s).count →
    (retainedOf e s).count < 255 →
    (s.lastFsnValid = true → later 32 (rd (R.FRAME.REPRINT_NEW_FSN 0) s) (rd (R.FRAME.LAST_FSN_FSN 0) s) = true) →
    openSlot s = some i →
    ∃ t, exec (.reprint a v) s = .next t ∧ slotOf i t = { st := 2 } ∧ t.lastFsnValid = true ∧
      retainedOf e t = { retainedOf e s with count := (retainedOf e s).count - 1 } ∧
      word (R.FRAME.CMD_STAT_VALID 0).addr t = BitVec.ofNat 32 (16 + 256 * i + 2147483648)) ∧
  -- FRAME_RELEASE of a retained FSN with no reprint in the queue frees the entry; with one, the entry is marked.
  (∀ (a : Access) (e : Nat) (v : Word) (s : State), Reaches a 0 0x48 0x70 s → entryOf v.toNat s = some e →
    reprinting v.toNat s = false → s.freedWait = [] → s.freed.length < 128 →
    ∃ t, exec (.frameRelease a v) s = .next t ∧ retainedOf e t = {} ∧ t.freed = s.freed ++ [v.toNat] ∧
      word (R.FRAME.CMD_STAT_VALID 0).addr t = BitVec.ofNat 32 (32 + 2147483648)) ∧
  (∀ (a : Access) (e : Nat) (v : Word) (s : State), Reaches a 0 0x48 0x70 s → entryOf v.toNat s = some e →
    reprinting v.toNat s = true →
    ∃ t, exec (.frameRelease a v) s = .next t ∧ retainedOf e t = { retainedOf e s with released := true } ∧
      t.freed = s.freed ∧ word (R.FRAME.CMD_STAT_VALID 0).addr t = BitVec.ofNat 32 (32 + 2147483648)) ∧
  -- FRAME_ABORT of an FSN that no slot holds, and of a frame that is IMAGING: SPOILED with cause 13.
  (∀ (a : Access) (v : Word) (s : State), Reaches a 0 0x48 0x74 s → slotOfFsn v.toNat s = none →
    ∃ t, exec (.frameAbort a v) s = .next t ∧ t.slots = s.slots ∧
      word (R.FRAME.CMD_STAT_VALID 0).addr t = BitVec.ofNat 32 (1 + 48 + 2147483648)) ∧
  (∀ (a : Access) (i : Nat) (v : Word) (s : State), Reaches a 0 0x48 0x74 s → slotOfFsn v.toNat s = some i →
    (slotOf i s).st = 5 → (slotOf i s).left = false →
    ∃ t, exec (.frameAbort a v) s = .next t ∧ (slotOf i t).st = 7 ∧ (slotOf i t).cause = 13 ∧ (slotOf i t).spoiledIn = 5 ∧
      word (R.FRAME.CMD_STAT_VALID 0).addr t = BitVec.ofNat 32 (48 + 2147483648)) ∧
  -- FREED_FSN_READ and SPOIL_LOG_READ take the oldest entry.
  (∀ (a : Access) (f : Nat) (l : List Nat) (s : State), Answers a 0 0x48 s → s.freed = f :: l → s.freedWait = [] →
    ∃ t, exec (.freedFsnRead a) s = .next t ∧ t.freed = l ∧ t.resp = { value := BitVec.ofNat 32 f }) ∧
  (∀ (a : Access) (s : State), Answers a 0 0x48 s →
    ∃ t, exec (.spoilLogRead a) s = .next t ∧ t.spoilLog = s.spoilLog.drop 1 ∧ t = { s with spoilLog := t.spoilLog, resp := t.resp })

/-- The codec's decode lanes: the survey, the imaging pass, carry-mode streams and roles (R75 to R77, R112, R119, R125, R126,
R130, R493). -/
def Obligations.DecodeLaneCommandsAct : Prop :=
  -- SURVEY_ASHLAR_START: a free survey lane takes the next ashlar of the first plane that waits.
  (∀ (d n i k m : Nat) (s : State), dlaneOn d n s = true → decodeRole d n s = 0 → (dlaneOf d n s).work = none →
    (dlaneOf d n s).takeover = none → stDie k = d → firstWork d s = some (i, k) → nextAshlar i k s = some m →
    ∃ t, exec (.surveyAshlarStart d n i k) s = .next t ∧ dlaneOf d n t = { work := some (.survey i k m), since := s.now } ∧
      (planeOf i k t).busy = m :: (planeOf i k s).busy) ∧
  -- SURVEY_ASHLAR_DONE of an ashlar that passes: it joins the passed ones with its lines and zone sums.
  (∀ (d n i k m : Nat) (rows : List (List Byte)) (s s1 : State), (dlaneOf d n s).work = some (.survey i k m) →
    (dlaneOf d n s).discard = false → surveyable i k s = true → (planeOf i k s).busy.contains m = true →
    readAshlar (planeDesc i k s) d m ((planeOf i k s).starts.getD m 0)
      (setDlane d n { takeover := (dlaneOf d n s).takeover } s) = (.ok rows, s1) →
    ∃ t, exec (.surveyAshlarDone d n) s = .next t ∧ dlaneOf d n t = { takeover := (dlaneOf d n s).takeover } ∧
      (planeOf i k t).passed = ⟨m, (planeOf i k s).starts.getD m 0, rows.length,
        rowsZones (planeDesc i k s) (maskRect i k s1) ((planeOf i k s).starts.getD m 0) rows⟩ :: (planeOf i k s).passed) ∧
  -- And of one that fails: it is the plane's failed ashlar, and the lane is free.
  (∀ (d n i k m e : Nat) (s s1 : State), (dlaneOf d n s).work = some (.survey i k m) → (dlaneOf d n s).discard = false →
    surveyable i k s = true → (planeOf i k s).busy.contains m = true → (planeOf i k s).failed = none →
    readAshlar (planeDesc i k s) d m ((planeOf i k s).starts.getD m 0)
      (setDlane d n { takeover := (dlaneOf d n s).takeover } s) = (.error e, s1) →
    ∃ t, exec (.surveyAshlarDone d n) s = .next t ∧ dlaneOf d n t = { takeover := (dlaneOf d n s).takeover } ∧
      (planeOf i k t).failed = some m ∧ (planeOf i k t).passed = (planeOf i k s).passed) ∧
  -- IMG_ASHLAR_START: an imaging lane takes the next ashlar of the plane its station decodes, while it has room.
  (∀ (d n i k : Nat) (s : State), dlaneOn d n s = true → decodeRole d n s = 1 ∨ decodeRole d n s = 2 →
    (dlaneOf d n s).work = none → k = 2 * d + (decodeRole d n s - 1) → nextPlane k s = some i → (imagerOf k s).slot = some i →
    (planeDesc i k s).carry = false → (imagerOf k s).redo = [] →
    (imagerOf k s).nextLine < (planeDesc i k s).storedLines → ashlarSound i k (imagerOf k s).next s = true →
    reorderUsed (imagerOf k s) + decodeRoom (planeDesc i k s) (peekLines (planeDesc i k s) (imagerOf k s).next s) ≤ reorderSize →
    ∃ t, exec (.imgAshlarStart d n) s = .next t ∧
      dlaneOf d n t = { work := some (.image i k (imagerOf k s).next), since := s.now } ∧
      (imagerOf k t).flying = (imagerOf k s).flying ++ [(i, (imagerOf k s).next, (imagerOf k s).nextLine,
        decodeRoom (planeDesc i k s) (peekLines (planeDesc i k s) (imagerOf k s).next s))]) ∧
  -- IMG_ASHLAR_DONE: the lines of the ashlar enter the reorder buffer.
  (∀ (d n i k m first bytes : Nat) (rows : List (List Byte)) (s s2 : State),
    (dlaneOf d n s).work = some (.image i k m) → (planeDesc i k s).carry = false →
    (imagerOf k s).flying.find? (fun f => f.1 == i && f.2.1 == m) = some (i, m, first, bytes) → (imagerOf k s).skipTo = 0 →
    readAshlar (planeDesc i k s) d m first (setImager k { imagerOf k s with flying := (imagerOf k s).flying.filter (fun g => !(g.1 == i && g.2.1 == m)) }
      (setDlane d n { takeover := (dlaneOf d n s).takeover } s)) = (.ok rows, s2) → rows ≠ [] →
    ∃ t, exec (.imgAshlarDone d n) s = .next t ∧ dlaneOf d n t = { takeover := (dlaneOf d n s).takeover } ∧
      (imagerOf k t).held = (imagerOf k s).held ++ [⟨i, first, rows⟩]) ∧
  -- LANE_ROLE_CHANGE of a lane that takes over a role, idle or with a stream.
  (∀ (d n r : Nat) (s : State), dlaneOn d n s = true → (dlaneOf d n s).takeover = some r → r < 4 →
    ((dlaneOf d n s).work = none ∨ ∃ i k, (dlaneOf d n s).work = some (.carry i k)) →
    ∃ t, exec (.laneRoleChange d n) s = .next t ∧ decodeRole d n t = r ∧ dlaneOf d n t = {}) ∧
  -- CODEC_LANE_UNFENCE while no fault of class U or F of CODEC is set: a decode lane is a survey lane again.
  (∀ (a : Access) (d : Nat) (v : Word) (s : State), Reaches a d 0x40 0x54 s → v.toNat % 32 < 24 →
    .decode d (v.toNat % 32) ∈ s.fenced → decodeRole d (v.toNat % 32) s = 3 → faultsHold d 0x40 s = false →
    ∃ t, exec (.codecLaneUnfence a d v) s = .next t ∧ .decode d (v.toNat % 32) ∉ t.fenced ∧
      decodeRole d (v.toNat % 32) t = 0 ∧ dlaneOf d (v.toNat % 32) t = {}) ∧
  -- CARRY_SURVEY_START: a free survey lane takes a stream that no state entry holds.
  (∀ (d n i k : Nat) (s : State), dlaneOn d n s = true → decodeRole d n s = 0 → (dlaneOf d n s).work = none →
    (dlaneOf d n s).takeover = none → stDie k = d → firstWork d s = some (i, k) → carryReady i k s = true →
    (planeOf i k s).carry.entry = none →
    ∃ t, exec (.carrySurveyStart d n i k) s = .next t ∧ dlaneOf d n t = { work := some (.carry i k), since := s.now } ∧
      t = { s with dlanes := t.dlanes }) ∧
  -- CARRY_RECORD_DONE of a record in the middle of a course, in its lane's slice: the stream goes on after it.
  (∀ (d n i k : Nat) (r : RecordOut) (s s1 : State), dlaneOn d n s = true → (dlaneOf d n s).work = some (.carry i k) →
    (dlaneOf d n s).discard = false → (dlaneOf d n s).takeover = none → surveyable i k s = true →
    readRecord (planeDesc i k s) d (planeOf i k s).carry.off (planeOf i k s).carry.line (planeOf i k s).carry.history s = (.ok r, s1) →
    ((planeOf i k s).carry.line + r.rows.length) % (planeDesc i k s1).courseLines ≠ 0 →
    (planeOf i k s).carry.line + r.rows.length ≠ (planeDesc i k s1).storedLines →
    (planeOf i k s).surveyed < (planeDesc i k s1).courses →
    s.now < (dlaneOf d n s).since + 10000 * rd (R.CODEC.CFG_CARRY_SLICE d) s1 →
    ∃ t, exec (.carryRecordDone d n) s = .next t ∧ dlaneOf d n t = dlaneOf d n s ∧ (planeOf i k t).carry.off = r.off ∧
      (planeOf i k t).carry.line = (planeOf i k s).carry.line + r.rows.length ∧ (planeOf i k t).carry.history = r.history) ∧
  -- And of one that is unsound: the plane has failed at its index, and the lane is free.
  (∀ (d n i k e : Nat) (s s1 : State), dlaneOn d n s = true → (dlaneOf d n s).work = some (.carry i k) →
    (dlaneOf d n s).discard = false → surveyable i k s = true →
    readRecord (planeDesc i k s) d (planeOf i k s).carry.off (planeOf i k s).carry.line (planeOf i k s).carry.history s = (.error e, s1) →
    ∃ t, exec (.carryRecordDone d n) s = .next t ∧ dlaneOf d n t = { takeover := (dlaneOf d n s).takeover } ∧
      (planeOf i k t).failed = some (Nat.min 65535 (planeOf i k s).carry.course))

/-- Jobs of the compressor lanes (R137 to R153). -/
def Obligations.JobCommandsAct : Prop :=
  -- JOB_SUBMIT: the ring's HEAD takes the index written, and nothing else changes.
  (∀ (a : Access) (d : Nat) (bg : Bool) (v : Word) (s : State), Reaches a d 0x40 (if bg then 0x68 else 0x60) s →
    ∃ t, exec (.jobSubmit a d bg v) s = .next t ∧ rd (headLoc d bg) t = v.toNat % 128 ∧
      t = { s with regs := t.regs, landed := t.landed }) ∧
  -- JOB_START: a free lane takes the job its ring offers, from the descriptor as it stands.
  (∀ (d n i : Nat) (bg : Bool) (s : State), blockUp d 0x40 s = true → n < 8 → jobOf d n s = none →
    isFenced (.comp d n) s = false → pickJob d s = some (bg, i) →
    jobOk d bg (parseJob (wordBytes (jobDescAddr d bg i) 16 s)) s = true →
    (parseJob (wordBytes (jobDescAddr d bg i) 16 s)).skip < jobTotal (parseJob (wordBytes (jobDescAddr d bg i) 16 s)) →
    ∃ t, exec (.jobStart d n) s = .next t ∧
      jobOf d n t = some ⟨bg, i, wordBytes (jobDescAddr d bg i) 16 s, (parseJob (wordBytes (jobDescAddr d bg i) 16 s)).skip,
        linesBefore (parseJob (wordBytes (jobDescAddr d bg i) 16 s)) s, 0, 0, 0, none⟩ ∧ jobNextOf d bg t = (i + 1) % 128 ∧
      t = { s with jobs := t.jobs, jobNext := t.jobNext }) ∧
  -- A descriptor that breaks a rule ends with status 2 and VALID in its completion record, and the lane stays free.
  (∀ (d n i : Nat) (bg : Bool) (s : State), blockUp d 0x40 s = true → n < 8 → jobOf d n s = none →
    isFenced (.comp d n) s = false → pickJob d s = some (bg, i) → i < 128 →
    jobOk d bg (parseJob (wordBytes (jobDescAddr d bg i) 16 s)) s = false →
    ∃ t, exec (.jobStart d n) s = .next t ∧ jobOf d n t = none ∧ word (jobDoneAddr d bg i) t = 258 ∧
      word (jobDoneAddr d bg i + 4) t = BitVec.ofNat 32 (parseJob (wordBytes (jobDescAddr d bg i) 16 s)).tag) ∧
  -- JOB_ASHLAR_DONE of a compression that is not the job's last: the ashlar is placed and the job goes on.
  (∀ (d n buf pos : Nat) (j : Job) (raw : List Byte) (ps : List (Nat × Nat)) (s s1 s2 s3 s4 : State), jobOf d n s = some j →
    blockUp d 0x40 s = true → isFenced (.comp d n) s = false → (parseJob j.desc).op = 1 → (parseJob j.desc).placed = true →
    memDie ((parseJob j.desc).src + (jobPart (parseJob j.desc) j.done).1 * (parseJob j.desc).stride) = d →
    agentRead agCodec ((parseJob j.desc).src + (jobPart (parseJob j.desc) j.done).1 * (parseJob j.desc).stride)
      ((jobPart (parseJob j.desc) j.done).2 * (parseJob j.desc).stride) s = (.ok raw, s1) →
    jobCarry d (parseJob j.desc) s = false →
    wholePlace d (parseJob j.desc).bufs (parseJob j.desc).align64 (listBound d s1) j.buf j.pos
      (compressAshlar (parseJob j.desc).level (parseJob j.desc).filter (jobPart (parseJob j.desc) j.done).2
        (parseJob j.desc).stride raw).length s1 = (.ok (ps, buf, pos), s2) →
    writePieces d ps (compressAshlar (parseJob j.desc).level (parseJob j.desc).filter (jobPart (parseJob j.desc) j.done).2
      (parseJob j.desc).stride raw) s2 = (true, s3) →
    (if (parseJob j.desc).writeIndex then
      jobPut d ((parseJob j.desc).index + 8 * j.done) (leBytes 5 (ps.headD (0, 0)).1 ++ leBytes 3
        (compressAshlar (parseJob j.desc).level (parseJob j.desc).filter (jobPart (parseJob j.desc) j.done).2
          (parseJob j.desc).stride raw).length) s3 else (true, s3)) = (true, s4) →
    j.done + 1 < jobTotal (parseJob j.desc) →
    ∃ t, exec (.jobAshlarDone d n) s = .next t ∧
      jobOf d n t = some ({ j with
        done := j.done + 1, lines := j.lines + (jobPart (parseJob j.desc) j.done).2
        bytes := j.bytes + (compressAshlar (parseJob j.desc).level (parseJob j.desc).filter (jobPart (parseJob j.desc) j.done).2
          (parseJob j.desc).stride raw).length
        buf := buf, pos := pos, first := some (j.first.getD (ps.headD (0, 0)).1) })) ∧
  -- JOB_ABORT ends every running job with the tag.
  (∀ (a : Access) (d n : Nat) (j : Job) (v : Word) (s : State), Reaches a d 0x40 0x70 s → n < 8 → jobOf d n s = some j →
    (parseJob j.desc).tag = v.toNat →
    ∃ t, exec (.jobAbort a d v) s = .next t ∧ jobOf d n t = none) ∧
  -- And leaves the lanes that work for another tag.
  (∀ (a : Access) (d n : Nat) (j : Job) (v : Word) (s : State), Reaches a d 0x40 0x70 s → n < 8 → jobOf d n s = some j →
    (parseJob j.desc).tag ≠ v.toNat →
    ∃ t, exec (.jobAbort a d v) s = .next t ∧ jobOf d n t = some j)

/-- Lanes coming up and going down (R165, R169 to R174, R181). -/
def Obligations.LaneBringUpCommandsAct : Prop :=
  -- LANE_SYNTH_LOCK: SYNTH is over.
  (∀ (d n : Nat) (s : State), laneOn d n s = true → laneSt d n s = 1 →
    ∃ t, exec (.laneSynthLock d n) s = .next t ∧ laneSt d n t = 2 ∧ t = { s with regs := t.regs }) ∧
  -- LANE_SIGNAL_DETECT.
  (∀ (d n : Nat) (s : State), laneOn d n s = true → laneSt d n s = 2 →
    ∃ t, exec (.laneSignalDetect d n) s = .next t ∧ laneSt d n t = 3 ∧ flag (R.LANE.LSTAT_SIG_DET d n) t = true ∧
      t = { s with regs := t.regs }) ∧
  -- LANE_ADAPT_DONE: RXEQ_STAT shows what the equalisers found; while ADAPT_FREEZE holds them it stays.
  (∀ (d n ctle dfe : Nat) (s : State), laneOn d n s = true → laneSt d n s = 3 → ctle < 32 → dfe < 64 →
    ∃ t, exec (.laneAdaptDone d n ctle dfe) s = .next t ∧ laneSt d n t = 4 ∧
      rd (R.LANE.RXEQ_STAT_CTLE d n) t =
        (if flag (R.LANE.LCFG_ADAPT_FREEZE d n) s then rd (R.LANE.RXEQ_STAT_CTLE d n) s else ctle) ∧
      rd (R.LANE.RXEQ_STAT_DFE1 d n) t =
        (if flag (R.LANE.LCFG_ADAPT_FREEZE d n) s then rd (R.LANE.RXEQ_STAT_DFE1 d n) s else dfe) ∧
      t = { s with regs := t.regs }) ∧
  -- LANE_BLOCK_LOCK of a lane in service: state 5; a recovery in time is counted.
  (∀ (d n : Nat) (s : State), laneOn d n s = true → laneSt d n s = 4 → (laneOf d n s).check = false →
    (laneOf d n s).near = false → (laneOf d n s).far = false → lockHoldOver d n s = false →
    ∃ t, exec (.laneBlockLock d n) s = .next t ∧ laneSt d n t = 5 ∧ flag (R.LANE.LSTAT_BLOCK_LOCK d n) t = true ∧
      flag (R.LANE.LSTAT_SIG_DET d n) t = true ∧ flag (R.LANE.LSTAT_HI_BER d n) t = false ∧
      rd (R.LANE.LOCK_CNT_LOSSES d n) t = (if (laneOf d n s).lostAt.isSome
        then Nat.min (rd (R.LANE.LOCK_CNT_LOSSES d n) s + 1) 65535 else rd (R.LANE.LOCK_CNT_LOSSES d n) s)) ∧
  -- Of a lane that checks PRBS31 or loops back: the lock shows, and the lane stays where it is.
  (∀ (d n : Nat) (s : State), laneOn d n s = true → laneSt d n s = 4 → ((laneOf d n s).check || (laneOf d n s).near || (laneOf d n s).far) = true →
    ∃ t, exec (.laneBlockLock d n) s = .next t ∧ laneSt d n t = 4 ∧ flag (R.LANE.LSTAT_BLOCK_LOCK d n) t = true ∧
      t = { s with regs := t.regs }) ∧
  -- LANE_LOSS: back to LOCK, the time of the loss is noted, and what was lost shows.
  (∀ (d n why : Nat) (s : State), laneOn d n s = true → laneSt d n s = 5 → why < 3 → d < 8 →
    ∃ t, exec (.laneLoss d n why) s = .next t ∧ laneSt d n t = 4 ∧ flag (R.LANE.LSTAT_BLOCK_LOCK d n) t = false ∧
      (laneOf d n t).lostAt = some s.now ∧ (why = 1 → flag (R.LANE.LSTAT_SIG_DET d n) t = false) ∧
      (why = 2 → flag (R.LANE.LSTAT_HI_BER d n) t = true)) ∧
  -- SYNC_HEADER_ERROR counts; on a lane that is up the sixteenth within the window takes it down with HI_BER.
  (∀ (d n : Nat) (s : State), laneOn d n s = true → laneSt d n s = 4 →
    ∃ t, exec (.syncHeaderError d n) s = .next t ∧ laneSt d n t = 4 ∧
      rd (R.LANE.SYNC_ERR_COUNT d n) t = Nat.min (rd (R.LANE.SYNC_ERR_COUNT d n) s + 1) 4294967295 ∧ t.fenced = s.fenced) ∧
  (∀ (d n : Nat) (s : State), laneOn d n s = true → laneSt d n s = 5 →
    (∀ x, (laneOf d n s).invalid[14]? = some x → x + 1000 * rd (R.LANE.HIBER_CFG_WINDOW d n) s < s.now) →
    ∃ t, exec (.syncHeaderError d n) s = .next t ∧ laneSt d n t = 5 ∧
      rd (R.LANE.SYNC_ERR_COUNT d n) t = Nat.min (rd (R.LANE.SYNC_ERR_COUNT d n) s + 1) 4294967295 ∧ t.fenced = s.fenced) ∧
  (∀ (d n x : Nat) (s : State), laneOn d n s = true → laneSt d n s = 5 → d < 8 → (laneOf d n s).invalid[14]? = some x →
    s.now ≤ x + 1000 * rd (R.LANE.HIBER_CFG_WINDOW d n) s →
    ∃ t, exec (.syncHeaderError d n) s = .next t ∧ laneSt d n t = 4 ∧ flag (R.LANE.LSTAT_BLOCK_LOCK d n) t = false ∧
      flag (R.LANE.LSTAT_HI_BER d n) t = true) ∧
  -- ELASTIC_OVERFLOW of a raster or a head lane counts, and FILL starts again from the middle.
  (∀ (d n : Nat) (s : State), laneOn d n s = true → laneSt d n s = 5 → (isHeadLane n || isRasterLane d n) = true →
    ∃ t, exec (.elasticOverflow d n) s = .next t ∧ laneSt d n t = 5 ∧ rd (R.LANE.LSTAT_FILL d n) t = 32 ∧
      rd (R.LANE.LOCK_CNT_OVF d n) t = Nat.min (rd (R.LANE.LOCK_CNT_OVF d n) s + 1) 65535 ∧ t.fenced = s.fenced) ∧
  -- LANE_LOCK_HOLD_TIMEOUT of a lane that has not come back in time: it is fenced.
  (∀ (d n : Nat) (s : State), laneOn d n s = true → laneSt d n s ≠ 5 → lockHoldOver d n s = true →
    ∃ t, exec (.laneLockHoldTimeout d n) s = .next t ∧ UnitId.lane d n ∈ t.fenced ∧ laneOn d n t = false) ∧
  -- LANE_SYNTH_LOSS of a lane past SYNTH: it is fenced.
  (∀ (d n : Nat) (s : State), laneOn d n s = true → 2 ≤ laneSt d n s → laneSt d n s ≤ 5 →
    ∃ t, exec (.laneSynthLoss d n) s = .next t ∧ UnitId.lane d n ∈ t.fenced ∧ laneOn d n t = false)

/-- Retraining, the eye scan, and the alignment of bonds (R157 to R159, R170, R175 to R179, R184, R187). -/
def Obligations.LaneServiceCommandsAct : Prop :=
  -- LANE_RETRAIN of a lane whose PLL is locked and whose rate is its group's: bring-up starts from SYNTH with LCFG as it is.
  (∀ (a : Access) (d n : Nat) (v : Word) (s : State), n < 12 → Reaches a d (lanePage n) 0x44 s → laneOn d n s = true → d < 8 →
    testBit v.toNat 1 = false → testBit v.toNat 2 = false → rd (R.CLK.PLL_STAT_STATE d 3) s = 2 →
    rd (R.LANE.LCFG_RATE d n) s = rd (R.LANE.LCFG_RATE d (groupFirst d n)) s →
    ∃ t, exec (.laneRetrain a d n v) s = .next t ∧ laneSt d n t = 1 ∧ (laneOf d n t).rate = rd (R.LANE.LCFG_RATE d n) s ∧
      (laneOf d n t).check = flag (R.LANE.LCFG_PRBS_CHK d n) s) ∧
  -- EYE_SCAN_GO with sound settings: the scan runs from its first point, or waits until it may.
  (∀ (a : Access) (d n : Nat) (v : Word) (s : State), n < 12 → Reaches a d (lanePage n) 0x44 s → laneOn d n s = true →
    testBit v.toNat 0 = false → testBit v.toNat 2 = false → rd (R.LANE.EYE_STAT_STATE d n) s ≠ 1 →
    rd (R.LANE.EYE_STAT_STATE d n) s ≠ 2 → eyeSound d n s = true →
    ∃ t, exec (.eyeScanGo a d n v) s = .next t ∧ rd (R.LANE.EYE_STAT_STATE d n) t = (if eyeMay d n s then 1 else 2) ∧
      rd (R.LANE.EYE_STAT_POINTS d n) t = 0 ∧ rd (R.LANE.EYE_STAT_RESULT d n) t = 0 ∧ (laneOf d n t).point = 0) ∧
  -- With settings that are not sound it ends at once with RESULT 2.
  (∀ (a : Access) (d n : Nat) (v : Word) (s : State), n < 12 → Reaches a d (lanePage n) 0x44 s → laneOn d n s = true →
    testBit v.toNat 0 = false → testBit v.toNat 2 = false → rd (R.LANE.EYE_STAT_STATE d n) s ≠ 1 →
    rd (R.LANE.EYE_STAT_STATE d n) s ≠ 2 → eyeSound d n s = false →
    ∃ t, exec (.eyeScanGo a d n v) s = .next t ∧ rd (R.LANE.EYE_STAT_STATE d n) t = 3 ∧
      rd (R.LANE.EYE_STAT_RESULT d n) t = 2 ∧ rd (R.LANE.EYE_STAT_POINTS d n) t = 0) ∧
  -- EYE_SCAN_STOP of a running or waiting scan: it ends with RESULT 1.
  (∀ (a : Access) (d n : Nat) (v : Word) (s : State), n < 12 → Reaches a d (lanePage n) 0x44 s →
    testBit v.toNat 0 = false → testBit v.toNat 1 = false →
    (rd (R.LANE.EYE_STAT_STATE d n) s = 1 ∨ rd (R.LANE.EYE_STAT_STATE d n) s = 2) →
    ∃ t, exec (.eyeScanStop a d n v) s = .next t ∧ rd (R.LANE.EYE_STAT_STATE d n) t = 3 ∧ rd (R.LANE.EYE_STAT_RESULT d n) t = 1) ∧
  -- EYE_POINT_DONE: the point's two words stand in the buffer, and the next point is named; after the last the scan is over.
  (∀ (d n errs units : Nat) (s s1 : State), laneOn d n s = true → rd (R.LANE.EYE_STAT_STATE d n) s = 1 →
    eyeCount d n errs units s = true → rd (R.LANE.EYE_STAT_POINTS d n) s < 65535 →
    agentWrite agOther (eyeBuf d n s + 8 * (laneOf d n s).point) (leBytes 4 (Nat.min errs 0xFFFFFFFF) ++ leBytes 4 units) s = (true, s1) →
    ∃ t, exec (.eyePointDone d n errs units) s = .next t ∧ t.mem = s1.mem ∧ (laneOf d n t).point = (laneOf d n s).point + 1 ∧
      rd (R.LANE.EYE_STAT_POINTS d n) t = rd (R.LANE.EYE_STAT_POINTS d n) s + 1 ∧
      rd (R.LANE.EYE_STAT_STATE d n) t =
        (if (laneOf d n s).point + 1 = eyeColumns d n s * eyeRows d n s then 3 else if eyeMay d n s then 1 else 2)) ∧
  -- EYE_SCAN_RESUME.
  (∀ (d n : Nat) (s : State), laneOn d n s = true → rd (R.LANE.EYE_STAT_STATE d n) s = 2 → eyeMay d n s = true →
    ∃ t, exec (.eyeScanResume d n) s = .next t ∧ rd (R.LANE.EYE_STAT_STATE d n) t = 1 ∧ t = { s with regs := t.regs }) ∧
  -- ALIGNMENT_MARKER that completes the alignment of a bond: it is up.
  (∀ (d n p gap skew : Nat) (s : State), (bondOf (laneBond d n) s).lanes.idxOf? n = some p → laneSt d n s = 5 →
    laneFenced d n s = false → rd (bondStLoc (laneBond d n)) s ≠ 3 → rd (bondStLoc (laneBond d n)) s ≠ 2 → gap = 16384 →
    (∃ c, c ≠ 0 ∧ (bondOf (laneBond d n) s).marks.find? (fun x => x.1 == n) = some (n, c)) → skew ≤ 2000 →
    (∀ m ∈ (bondOf (laneBond d n) s).lanes, laneSt d m s = 5 ∧ (m ≠ n → (m, 2) ∈ (bondOf (laneBond d n) s).marks)) →
    ∃ t, exec (.alignmentMarker d n (leBytes 1 0x4B ++ leBytes 1 p ++ leBytes 1 (bondOf (laneBond d n) s).lanes.length ++
        leBytes 1 (bondGen (laneBond d n) s) ++ [0x5A, 0xA5, 0x5A, 0xA5]) gap skew) s = .next t ∧
      rd (bondStLoc (laneBond d n)) t = 2) ∧
  -- A marker that is not the one due on a bond that is up: alignment is lost.
  (∀ (d n p gap skew : Nat) (body : List Byte) (s : State), (bondOf (laneBond d n) s).lanes.idxOf? n = some p → laneSt d n s = 5 →
    laneFenced d n s = false → rd (bondStLoc (laneBond d n)) s = 2 →
    body ≠ leBytes 1 0x4B ++ leBytes 1 p ++ leBytes 1 (bondOf (laneBond d n) s).lanes.length ++
        leBytes 1 (bondGen (laneBond d n) s) ++ [0x5A, 0xA5, 0x5A, 0xA5] →
    ∃ t, exec (.alignmentMarker d n body gap skew) s = .next t ∧ rd (bondStLoc (laneBond d n)) t = 1 ∧
      (bondOf (laneBond d n) t).lanes = (bondOf (laneBond d n) s).lanes) ∧
  -- BOND_ALIGN_TIMEOUT, 1 ms after a raster bond was formed: it is late, once.
  (∀ (d : Nat) (s : State), rd (R.RLNK.BOND_STAT_STATE d) s = 1 → (bondOf d s).late = false → (bondOf d s).formedAt + 1000000 ≤ s.now →
    ∃ t, exec (.bondAlignTimeout d) s = .next t ∧ (bondOf d t).late = true ∧ rd (R.RLNK.BOND_STAT_STATE d) t = 1)

/-- Packets of the raster link (R192 to R209). -/
def Obligations.RasterPacketCommandsAct : Prop :=
  -- RL_ASHLAR, RL_INDEX and RL_DESCRIPTOR: a packet that passes every check is acknowledged, and then applied.
  (∀ (d : Nat) (pkt : List Byte) (s : State), rasterHears d s = true → rasterOpen d s = true → (rasterOf d s).resync = none →
    rasterVerdict d pkt s = 0 →
    ∃ t, ((parseRaster pkt).type = 1 → exec (.rlAshlar d pkt) s = .next (applyRaster d (parseRaster pkt) t)) ∧
      ((parseRaster pkt).type = 2 → exec (.rlIndex d pkt) s = .next (applyRaster d (parseRaster pkt) t)) ∧
      ((parseRaster pkt).type = 3 → exec (.rlDescriptor d pkt) s = .next (applyRaster d (parseRaster pkt) t)) ∧
      rd (R.RLNK.PSN_STAT_EXPECT d) t = ((parseRaster pkt).psn + 1) % 65536 ∧ rasterOpen d t = true ∧
      rd (R.RLNK.PKT_CNT_COUNT d) t = Nat.min (rd (R.RLNK.PKT_CNT_COUNT d) s + 1) 4294967295 ∧
      (rasterOf d t).nakAt = none ∧ (rasterOf d t).naks = 0 ∧ (rasterOf d t).queue = (rasterOf d s).queue ∧
      (∀ i, rasterPool d (parseRaster pkt) s = some i → (rasterOf d t).used = addAt (rasterOf d s).used i (rasterCost (parseRaster pkt))) ∧
      t.sent = .raster d 0x10 [0, (parseRaster pkt).psn % 65536] :: s.sent) ∧
  -- An INDEX packet for a plane that takes it waits to land on the ashlar index.
  (∀ (d i : Nat) (p : RasterPkt) (s : State), rasterTypeOk p = true → p.type = 2 → served d p.station s = true →
    rasterPlane p.fsn p.station s = some i → p.ashlar + p.len / 8 ≤ 65536 →
    applyRaster d p s = setRaster d { rasterOf d s with queue := (rasterOf d s).queue ++
      [{ addr := (planeDesc i p.station s).entry p.ashlar, bytes := p.payload, pool := (rasterPool d p s).getD 16
         credits := rasterCost p, fsn := p.fsn, station := p.station, complete := none }] } s) ∧
  -- An ASHLAR packet that goes on with the station's partial ashlar waits to land behind what came before; the last one
  -- completes the ashlar.
  (∀ (d i : Nat) (p : RasterPkt) (x : Partial) (s : State), rasterTypeOk p = true → p.type = 1 → served d p.station s = true →
    rasterPlane p.fsn p.station s = some i → partialOf d p.station s = some x → x.fsn = p.fsn → x.ashlar = p.ashlar →
    x.next = p.offset → p.offset + p.len ≤ x.len → (p.last = true → p.offset + p.len = x.len) →
    (rasterOf d (applyRaster d p s)).queue = (rasterOf d s).queue ++
      [{ addr := x.addr + p.offset, bytes := if x.dup then [] else p.payload, pool := (rasterPool d p s).getD 16
         credits := rasterCost p, fsn := p.fsn, station := p.station, complete := if p.last then some p.ashlar else none }] ∧
    (rasterOf d (applyRaster d p s)).partials = (rasterOf d s).partials.filter (fun y => y.station != p.station) ++
      (if p.last then [] else [{ x with next := p.offset + p.len }])) ∧
  -- The first segment of an ashlar takes its place and length from the ashlar's entry.
  (∀ (d i : Nat) (p : RasterPkt) (e : List Byte) (s : State), rasterTypeOk p = true → p.type = 1 → served d p.station s = true →
    rasterPlane p.fsn p.station s = some i → partialOf d p.station s = none → p.offset = 0 → p.last = false →
    outOfOrder d i p s = false →
    landedRead d ((planeDesc i p.station s).entry p.ashlar) 8 s = (.ok e, s) → 16 ≤ fieldLe e 5 3 →
    fieldLe e 0 5 < 2 ^ 39 → memDie (fieldLe e 0 5) = stDie p.station →
    fieldLe e 0 5 % 0x1000000000 + fieldLe e 5 3 ≤ fittedBytes (stDie p.station) s → p.len ≤ fieldLe e 5 3 →
    (rasterOf d (applyRaster d p s)).partials = (rasterOf d s).partials.filter (fun y => y.station != p.station) ++
      [⟨p.station, p.fsn, p.ashlar, p.course, fieldLe e 0 5, fieldLe e 5 3, p.len,
        planeComplete i p.station s || (planeOf i p.station s).passed.any (fun y => y.n == p.ashlar)⟩]) ∧
  -- A DESCRIPTOR packet is submitted to the lowest slot that is open.
  (∀ (d i : Nat) (p : RasterPkt) (s : State), rasterTypeOk p = true → p.type = 3 → flag (R.RLNK.CFG_DESC_EN d) s = true →
    openSlot s = some i →
    applyRaster d p s = rasterLand d 0 [] p none (evt d 0x30 6 (submitSlot i (putBytes (slotAddr i) p.payload s)))) ∧
  -- A packet whose fields do not fit its type is dropped with reason 5; its credits come back at once.
  (∀ (d : Nat) (p : RasterPkt) (s : State), rasterTypeOk p = false → rd (R.RLNK.DROP_LOG0_VALID d) s = 0 → p.type < 256 →
    ∃ t, applyRaster d p s = t ∧ rd (R.RLNK.COUNT2_DROPS d) t = Nat.min (rd (R.RLNK.COUNT2_DROPS d) s + 1) 65535 ∧
      rd (R.RLNK.DROP_LOG0_REASON d) t = 5 ∧ rd (R.RLNK.DROP_LOG0_VALID d) t = 1 ∧
      (rasterOf d t).queue = (rasterOf d s).queue ∧
      (∀ i, rasterPool d p s = some i → (rasterOf d t).landed = addAt (rasterOf d s).landed i (rasterCost p))) ∧
  -- RL_RESYNC with nothing left to land: a session is open from its PSN, with every pool's credits.
  (∀ (d : Nat) (pkt : List Byte) (s : State), rasterHears d s = true → isResync pkt = true → (rasterOf d s).queue = [] →
    ∃ t, exec (.rlResync d pkt) s = .next t ∧ rasterOpen d t = true ∧ rd (R.RLNK.PSN_STAT_EXPECT d) t = (parseRaster pkt).psn % 65536 ∧
      (rasterOf d t).resync = none ∧ (rasterOf d t).granted = (List.range 17).map (fun i => poolSize d i s) ∧
      (rasterOf d t).landed = List.replicate 17 0 ∧ (rasterOf d t).used = List.replicate 17 0 ∧
      rd (R.RLNK.COUNT2_RESYNCS d) t = Nat.min (rd (R.RLNK.COUNT2_RESYNCS d) s + 1) 65535) ∧
  -- With something still to land it waits.
  (∀ (d : Nat) (pkt : List Byte) (s : State), rasterHears d s = true → isResync pkt = true → (rasterOf d s).queue ≠ [] →
    ∃ t, exec (.rlResync d pkt) s = .next t ∧ (rasterOf d t).resync = some (parseRaster pkt).psn ∧
      t = { s with rasters := t.rasters }) ∧
  -- RL_BAD_PACKET with an earlier PSN: what has been accepted is acknowledged again.
  (∀ (d : Nat) (blocks : List Byte) (s : State), rasterHears d s = true → rasterOpen d s = true → (rasterOf d s).resync = none →
    startOk (blocks.take 8) (blocks.drop 8) = true → isResync (blocks.drop 8) = false → rasterVerdict d (blocks.drop 8) s = 4 →
    ∃ t, exec (.rlBadPacket d blocks) s = .next t ∧
      t = { s with sent := .raster d 0x10 [0, (rd (R.RLNK.PSN_STAT_EXPECT d) s + 65535) % 65536] :: s.sent, bonds := t.bonds }) ∧
  -- One that breaks the framing is counted and brings a NAK for the expected PSN.
  (∀ (d : Nat) (blocks : List Byte) (s : State), rasterHears d s = true → rasterOpen d s = true → (rasterOf d s).resync = none →
    (startOk (blocks.take 8) (blocks.drop 8) = true ∧ isResync (blocks.drop 8) = false ∧ rasterVerdict d (blocks.drop 8) s = 1 ∨
      startOk (blocks.take 8) (blocks.drop 8) = false ∧ blocks ≠ fillerBlock.bytes) → (rasterOf d s).nakAt = none →
    (rasterOf d s).naks + 1 < rd (R.RLNK.RETRY_LIMIT d) s →
    ∃ t, exec (.rlBadPacket d blocks) s = .next t ∧ rd (R.RLNK.ERR_CNT1_FRAMING d) t = Nat.min (rd (R.RLNK.ERR_CNT1_FRAMING d) s + 1) 65535 ∧
      rd (R.RLNK.NAK_CNT_COUNT d) t = Nat.min (rd (R.RLNK.NAK_CNT_COUNT d) s + 1) 4294967295 ∧
      (rasterOf d t).nakAt = some s.now ∧ (rasterOf d t).naks = (rasterOf d s).naks + 1 ∧
      t.sent = .raster d 0x11 [rd (R.RLNK.PSN_STAT_EXPECT d) s] :: s.sent) ∧
  -- While a NAK for this PSN is younger than 20 µs it is only counted.
  (∀ (d u : Nat) (blocks : List Byte) (s : State), rasterHears d s = true → rasterOpen d s = true → (rasterOf d s).resync = none →
    (startOk (blocks.take 8) (blocks.drop 8) = true ∧ isResync (blocks.drop 8) = false ∧ rasterVerdict d (blocks.drop 8) s = 1 ∨
      startOk (blocks.take 8) (blocks.drop 8) = false ∧ blocks ≠ fillerBlock.bytes) → (rasterOf d s).nakAt = some u → s.now < u + 20000 →
    ∃ t, exec (.rlBadPacket d blocks) s = .next t ∧ rd (R.RLNK.ERR_CNT1_FRAMING d) t = Nat.min (rd (R.RLNK.ERR_CNT1_FRAMING d) s + 1) 65535 ∧
      t = { s with regs := t.regs }) ∧
  -- RL_PACKET_LANDED: the oldest packet leaves the queue, its bytes are written and its credits come back.
  (∀ (d : Nat) (q : Landing) (rest : List Landing) (s s1 : State), (rasterOf d s).queue = q :: rest → (rasterOf d s).resync = none →
    q.bytes ≠ [] → q.complete = none →
    agentWrite agRaster q.addr q.bytes (setRaster d { rasterOf d s with queue := rest } s) = (true, s1) →
    ∃ t, exec (.rlPacketLanded d) s = .next t ∧ t.mem = s1.mem ∧ (rasterOf d t).queue = rest ∧
      (rasterOf d t).landed = addAt (rasterOf d s).landed q.pool q.credits)

/-- The raster link's timers and its route (R195, R198, R201 to R203, R210). -/
def Obligations.RasterTimerCommandsAct : Prop :=
  -- RL_NAK_TIMER, 20 µs after a NAK that has not been answered: another NAK for the expected PSN.
  (∀ (d u : Nat) (s : State), rasterHears d s = true → rasterOpen d s = true → (rasterOf d s).nakAt = some u → u + 20000 ≤ s.now →
    (rasterOf d s).naks + 1 < rd (R.RLNK.RETRY_LIMIT d) s →
    ∃ t, exec (.rlNakTimer d) s = .next t ∧ (rasterOf d t).nakAt = some s.now ∧ (rasterOf d t).naks = (rasterOf d s).naks + 1 ∧
      rd (R.RLNK.NAK_CNT_COUNT d) t = Nat.min (rd (R.RLNK.NAK_CNT_COUNT d) s + 1) 4294967295 ∧
      t.sent = .raster d 0x11 [rd (R.RLNK.PSN_STAT_EXPECT d) s] :: s.sent) ∧
  -- With the last NAK that RETRY_LIMIT allows the link is fenced.
  (∀ (d u : Nat) (s : State), rasterHears d s = true → rasterOpen d s = true → (rasterOf d s).nakAt = some u → u + 20000 ≤ s.now →
    rd (R.RLNK.RETRY_LIMIT d) s ≤ (rasterOf d s).naks + 1 →
    ∃ t, exec (.rlNakTimer d) s = .next t ∧ UnitId.bond d ∈ t.fenced) ∧
  -- RL_INIT_ACK_TIMER: a bond that is up without a session sends an ACK with INIT every 10 µs.
  (∀ (d : Nat) (s : State), rasterHears d s = true → rasterOpen d s = false → (∀ u, (rasterOf d s).initAt = some u → u + 10000 ≤ s.now) →
    ∃ t, exec (.rlInitAckTimer d) s = .next t ∧ (rasterOf d t).initAt = some s.now ∧ t.sent = .raster d 0x10 [1, 0] :: s.sent ∧
      t = { s with rasters := t.rasters, sent := t.sent, bonds := t.bonds }) ∧
  -- RL_CREDIT_TIMER: 100 µs after the last CREDIT another one, with every pool's counter.
  (∀ (d : Nat) (s : State), rasterHears d s = true → rasterOpen d s = true → (rasterOf d s).creditAt + 100000 ≤ s.now →
    ∃ t, exec (.rlCreditTimer d) s = .next t ∧ (rasterOf d t).creditAt = s.now ∧ (rasterOf d t).granted = (rasterOf d s).granted ∧
      t.sent = .raster d 0x12 (0 :: (rasterOf d s).granted.map (fun g => g % 65536)) :: s.sent ∧
      t = { s with rasters := t.rasters, sent := t.sent, bonds := t.bonds }) ∧
  -- RL_ROUTE_CHANGE: ROUTE takes the word, and a change closes the session.
  (∀ (a : Access) (d : Nat) (v : Word) (s : State), Reaches a d 0x30 0x44 s → a.bar2 = false → bitsOf v.toNat 4 3 ≠ d →
    bitsOf v.toNat 4 3 < s.dies → (bitsOf v.toNat 0 1 ≠ rd (R.RLNK.ROUTE_EN d) s ∨ bitsOf v.toNat 4 3 ≠ rd (R.RLNK.ROUTE_DIE d) s) →
    ∃ t, exec (.rlRouteChange a d v) s = .next t ∧ rd (R.RLNK.ROUTE_EN d) t = bitsOf v.toNat 0 1 ∧
      rd (R.RLNK.ROUTE_DIE d) t = bitsOf v.toNat 4 3 ∧ rasterOpen d t = false) ∧
  -- A word that names the die itself, or an absent die, changes nothing there.
  (∀ (a : Access) (d : Nat) (v : Word) (s : State), Reaches a d 0x30 0x44 s → a.bar2 = false →
    (bitsOf v.toNat 4 3 = d ∨ s.dies ≤ bitsOf v.toNat 4 3) →
    ∃ t, exec (.rlRouteChange a d v) s = .next t ∧ rd (R.RLNK.ROUTE_EN d) t = rd (R.RLNK.ROUTE_EN d) s ∧
      rd (R.RLNK.ROUTE_DIE d) t = rd (R.RLNK.ROUTE_DIE d) s ∧ rasterOpen d t = rasterOpen d s)

/-- Line timing of the stations (R234, R247 to R257, R263, R265, R342, R349, R352). -/
def Obligations.StationTimingCommandsAct : Prop :=
  -- STATION_LINE: the next destination line is formed, once its source lines are in the line buffer.
  (∀ (k x : Nat) (p : Placed) (s : State), stationOn k s = true → timSt k s = 2 → ledBar k s = false → formAt k s = x →
    mayForm k x s = true → x + reachEff k s < (staOf k s).src → (staOf k s).placed.find? (fun p => p.has x) = some p →
    ∃ t, exec (.stationLine k) s = .next t ∧ t = formLine k x p s ∧ (staOf k t).form = x + 1) ∧
  -- BD_EDGE, the first in ACQUIRE: its tick is captured, and the facet counter starts.
  (∀ (k phase : Nat) (s : State), ledBar k s = false → stationOn k s = true → timSt k s = 1 → (staOf k s).beam.last = none →
    (staOf k s).beam.stable = false → (staOf k s).beam.idxNext = false → rd (R.STIM.BD_CFG_STABLE (stDie k) (stLoc k)) s ≠ 0 →
    ∃ t, exec (.bdEdge k phase) s = .next t ∧ timSt k t = 1 ∧
      word (R.STIM.BD_TIME_TICKS (stDie k) (stLoc k)).addr t = BitVec.ofNat 32 (16 * counterC (stDie k) s + phase % 16) ∧
      (staOf k t).beam.last = some (16 * counterC (stDie k) s + phase % 16) ∧ (staOf k t).beam.intervals = [] ∧
      (staOf k t).facet = 1 % facetCount k s) ∧
  -- An edge before its window is ignored and counted.
  (∀ (k phase u : Nat) (s : State), ledBar k s = false → stationOn k s = true → (timSt k s = 2 ∨ timSt k s = 3) →
    (staOf k s).beam.last = some u → windowOver k (16 * counterC (stDie k) s + phase % 16) s = false →
    256 * (16 * counterC (stDie k) s + phase % 16) + beamWin k s * beamPeriod k s < 256 * ((staOf k s).beam.base + beamPeriod k s) →
    ∃ t, exec (.bdEdge k phase) s = .next t ∧
      rd (R.STIM.BD_CNT_EARLY (stDie k) (stLoc k)) t = Nat.min (rd (R.STIM.BD_CNT_EARLY (stDie k) (stLoc k)) s + 1) 65535 ∧
      (staOf k t).beam.last = some u ∧ (staOf k t).beam.revBad = true ∧ (staOf k t).placed = (staOf k s).placed ∧
      (staOf k t).facet = (staOf k s).facet) ∧
  -- A scan in RUN is placed: its edge is due the facet's delay after the beam-detect edge, and the line pointer moves on.
  (∀ (k f t0 : Nat) (s : State), facetOk k s = true → delayInRange (facetDelay k f s) = true → (staOf k s).placed.length < 8 →
    (∀ b, (match (staOf k s).placed.getLast? with | some q => some q.tick | none => (staOf k s).lastEdge) = some b →
      b + 32000 ≤ t0 + (facetDelay k f s).toNat) → (staOf k s).placed ≠ [] →
    (staOf k (placeScan k f t0 s)).ptr = (staOf k s).ptr + (scanFor k f (staOf k s).ptr s).adv ∧
    (staOf k (placeScan k f t0 s)).placed.length = (staOf k s).placed.length + 1 ∧
    (staOf k (placeScan k f t0 s)).runEdge = false) ∧
  -- BD_MISSED in HOLD, short of BD_CFG.LOSS: the scan is counted as missed and the facet counter goes on.
  (∀ (k : Nat) (s : State), ledBar k s = false → stationOn k s = true → timSt k s = 3 →
    windowOver k (16 * counterC (stDie k) s) s = true → (staOf k s).beam.missed + 1 < rd (R.STIM.BD_CFG_LOSS (stDie k) (stLoc k)) s →
    ∃ t, exec (.bdMissed k) s = .next t ∧ (staOf k t).facet = ((staOf k s).facet + 1) % facetCount k s ∧
      (staOf k t).beam.missed = (staOf k s).beam.missed + 1 ∧ (staOf k t).beam.base = (staOf k s).beam.base + beamPeriod k s ∧
      rd (R.STIM.BD_CNT_MISSED (stDie k) (stLoc k)) t = Nat.min (rd (R.STIM.BD_CNT_MISSED (stDie k) (stLoc k)) s + 1) 65535 ∧
      (staOf k t).ptr = (staOf k s).ptr) ∧
  -- In RUN with no plane the lines of the scan count as slip besides, and the line pointer passes them.
  (∀ (k : Nat) (s : State), ledBar k s = false → stationOn k s = true → timSt k s = 2 → (staOf k s).planes = [] →
    windowOver k (16 * counterC (stDie k) s) s = true → (staOf k s).beam.missed + 1 < rd (R.STIM.BD_CFG_LOSS (stDie k) (stLoc k)) s →
    ∃ t, exec (.bdMissed k) s = .next t ∧ (staOf k t).beam.missed = (staOf k s).beam.missed + 1 ∧
      (staOf k t).ptr = (staOf k s).ptr + (facetEntry k (facetBank k s) (staOf k s).facet s).adv ∧
      rd (R.STIM.SLIP_TOTAL_COUNT (stDie k) (stLoc k)) t = (if (facetEntry k (facetBank k s) (staOf k s).facet s).adv = 0
        then rd (R.STIM.SLIP_TOTAL_COUNT (stDie k) (stLoc k)) s
        else Nat.min (rd (R.STIM.SLIP_TOTAL_COUNT (stDie k) (stLoc k)) s + (facetEntry k (facetBank k s) (staOf k s).facet s).adv) 4294967295)) ∧
  -- FID_INDEX_EDGE in RUN or HOLD: the next accepted edge is the first after the index pulse.
  (∀ (k : Nat) (s : State), ledBar k s = false → stationOn k s = true → (timSt k s = 2 ∨ timSt k s = 3) → fidMode k s = 1 →
    ((staOf k s).beam.sinceIdx = none ∨ (staOf k s).beam.idxBad = true) →
    ∃ t, exec (.fidIndexEdge k) s = .next t ∧ (staOf k t).beam.idxNext = true ∧ (staOf k t).beam.sinceIdx = some 0 ∧
      (staOf k t).beam.idxBad = false ∧ (staOf k t).facet = (staOf k s).facet) ∧
  -- LGO_EDGE of the last placed edge of a station with no plane: the edge falls.
  (∀ (k : Nat) (p : Placed) (s : State), (staOf k s).placed = [p] → timSt k s = 2 → p.tick ≤ tickNow k s →
    (∀ i, i < 8 → rd (R.TXN.TXS_STAT_STATE (stDie k) i) s ≠ 1) → p.lsn + p.adv ≤ formAt k s → (staOf k s).gateAt = none → latches k s = 0 → (staOf k s).planes = [] →
    (staOf k s).stopping = false →
    ∃ t, exec (.lgoEdge k) s = .next t ∧ (staOf k t).placed = [] ∧ (staOf k t).lastEdge = some p.tick ∧
      (staOf k t).firedTo = some (p.lsn + p.adv - 1) ∧ t.sent = .lgo k p.tick (rd (R.STIM.LGO_CFG_WIDTH (stDie k) (stLoc k)) s) :: s.sent) ∧
  -- LED_STROBE of a bar with no plane whose line is due: the strobe falls.
  (∀ (k : Nat) (f : FoundLine) (s : State), ledBar k s = true → timSt k s = 2 → (staOf k s).found = [f] → (staOf k s).stopping = false →
    (staOf k s).stopLine = none → (∀ i, i < 8 → rd (R.TXN.TXS_STAT_STATE (stDie k) i) s ≠ 1) → (∀ e, (staOf k s).lastEdge = some e → e + strobeMin k s ≤ f.tick) → f.tick ≤ tickNow k s →
    (staOf k s).strobeTag = some (f.lsn, none) → f.lsn < (staOf k s).form → (staOf k s).ptr ≤ (staOf k s).form →
    (staOf k s).gateAt = none → latches k s = 0 → (staOf k s).planes = [] →
    ∃ t, exec (.ledStrobe k) s = .next t ∧ (staOf k t).found = [] ∧ (staOf k t).lastEdge = some f.tick ∧
      (staOf k t).firedTo = some f.lsn ∧ (staOf k t).holdAcc = f.acc ∧ (staOf k t).holdCount = f.count ∧
      t.sent = .lgo k f.tick (rd (R.STIM.LGO_CFG_WIDTH (stDie k) (stLoc k)) s) :: s.sent) ∧
  -- START_EVENT in RUN: the start waits for the next line, and leaves the list.
  (∀ (k u : Nat) (e : StartEntry) (s : State), startListOf k s = [e] → e.due = some u → u ≤ counterC (stDie k) s →
    startsHeld k s = false → timSt k s = 2 → flag (R.LOOP.CFF_ROUTE_EN (stDie k) (stLoc k)) s = false → (staOf k s).start = none →
    ∃ t, exec (.startEvent k) s = .next t ∧ (staOf k t).start = some { e with met := latches k s } ∧ startListOf k t = []) ∧
  -- RESUME_EVENT in RUNUP: the station goes from HOLD to RUN.
  (∀ (k : Nat) (s : State), k < 16 → timSt k s = 3 → onPath k s = true → pathState (pathOf k s) s = 6 → pathOf k s < 4 →
    (∃ u, (staOf k s).resDue = some u ∧ u ≤ counterC (stDie k) s) → cruiseSettled (pathOf k s) s = true →
    ∃ t, exec (.resumeEvent k) s = .next t ∧ timSt k t = 2 ∧ (staOf k t).stopping = false ∧ (staOf k t).stopLine = none ∧
      (staOf k t).runEdge = true)

/-- The upstream packets of a head link (R277 to R280, R286, R287). -/
def Obligations.HeadLinkPacketCommandsAct : Prop :=
  -- A sound STATUS in a session shows what the head says of itself. It reports no underrun, and its temperature lies below the
  -- hard limit.
  (∀ (k : Nat) (pkt : List Byte) (s : State), headHears k s = true → hlType pkt = 0x30 → hlVerdict pkt = 0 → sessionOpen k s = true →
    testBit (fieldLe (hlPayload pkt) 16 1) 0 = false → testBit (fieldLe (hlPayload pkt) 16 1) 1 = false →
    toSigned 16 (fieldLe (hlPayload pkt) 0 2) < rdS (R.SPROT.TEMP_LIM_HARD (stDie k) (stLoc k)) s →
    ∃ t, exec (.hlStatus k pkt) s = .next t ∧ (headOf k t).last = some (hlPayload pkt) ∧ (headOf k t).statusAt = s.now ∧
      rd (R.SHL.HEAD_TEMP_TEMP (stDie k) (stLoc k)) t = fieldLe (hlPayload pkt) 0 2 % 65536 ∧
      rd (R.SHL.BUF_STAT_LINES (stDie k) (stLoc k)) t = fieldLe (hlPayload pkt) 4 2 % 65536 ∧
      rd (R.SHL.HEAD_LAT_TICKS (stDie k) (stLoc k)) t = fieldLe (hlPayload pkt) 8 3 % 16777216 ∧
      rd (R.SHL.GEN_STAT_TRIM_APPLIED (stDie k) (stLoc k)) t = fieldLe (hlPayload pkt) 6 1 % 256 ∧
      rd (R.SHL.GEN_STAT_LIN_APPLIED (stDie k) (stLoc k)) t = fieldLe (hlPayload pkt) 7 1 % 256) ∧
  -- An ACK that covers packets of the replay buffer releases them.
  (∀ (k : Nat) (pkt : List Byte) (rest : List (Nat × HeadPkt)) (s : State), headHears k s = true → hlType pkt = 0x31 → hlVerdict pkt = 0 →
    hlInit pkt = false → sessionOpen k s = true → ackRest (hlPsn pkt) (headOf k s).replay = some rest → (headOf k s).waiting = [] →
    ∃ t, exec (.hlAck k pkt) s = .next t ∧ (headOf k t).replay = rest ∧ (headOf k t).advAt = s.now ∧ (headOf k t).waiting = [] ∧
      rd (R.SHL.PSN_STAT_ACKED (stDie k) (stLoc k)) t = hlPsn pkt % 65536) ∧
  -- An ACK with INIT in a session: the head has restarted, and the session closes.
  (∀ (k : Nat) (pkt : List Byte) (s : State), headHears k s = true → hlType pkt = 0x31 → hlVerdict pkt = 0 →
    hlInit pkt = true → sessionOpen k s = true →
    ∃ t, exec (.hlAck k pkt) s = .next t ∧ sessionOpen k t = false ∧ (headOf k t).replay = []) ∧
  -- A NAK: everything from the PSN named is sent again.
  (∀ (k : Nat) (pkt : List Byte) (s : State), headHears k s = true → hlType pkt = 0x32 → hlVerdict pkt = 0 → sessionOpen k s = true →
    (headOf k s).nakPsn = hlPsn pkt → (headOf k s).naks + 1 < rd (R.SHL.HCFG_RETRY_LIMIT (stDie k) (stLoc k)) s →
    ∃ t, exec (.hlNak k pkt) s = .next t ∧ (headOf k t).naks = (headOf k s).naks + 1 ∧ (headOf k t).replay = (headOf k s).replay ∧
      rd (R.SHL.RPL_CNT_NAKS (stDie k) (stLoc k)) t = Nat.min (rd (R.SHL.RPL_CNT_NAKS (stDie k) (stLoc k)) s + 1) 65535 ∧
      t.sent = (((headOf k s).replay.dropWhile (fun x => x.1 != hlPsn pkt)).map (fun x => Sent.head k x.1 x.2)).reverse ++ s.sent) ∧
  -- With the last NAK that RETRY_LIMIT allows the station is fenced.
  (∀ (k : Nat) (pkt : List Byte) (s : State), headHears k s = true → hlType pkt = 0x32 → hlVerdict pkt = 0 → sessionOpen k s = true →
    (headOf k s).nakPsn = hlPsn pkt → rd (R.SHL.HCFG_RETRY_LIMIT (stDie k) (stLoc k)) s ≤ (headOf k s).naks + 1 →
    ∃ t, exec (.hlNak k pkt) s = .next t ∧ isFenced (.station k) t = true) ∧
  -- A CREDIT in a session gives the two counters anew.
  (∀ (k : Nat) (pkt : List Byte) (s : State), headHears k s = true → hlType pkt = 0x34 → hlVerdict pkt = 0 → sessionOpen k s = true →
    (headOf k s).waiting = [] →
    ∃ t, exec (.hlCredit k pkt) s = .next t ∧ (headOf k t).lineGiven = fieldLe (hlPayload pkt) 0 2 ∧
      (headOf k t).ctlGiven = fieldLe (hlPayload pkt) 2 2 ∧ (headOf k t).replay = (headOf k s).replay ∧ t.sent = s.sent) ∧
  -- A CREDIT with INIT that answers a RESYNC opens the session, where it grants enough.
  (∀ (k : Nat) (pkt : List Byte) (s : State), headHears k s = true → hlType pkt = 0x34 → hlVerdict pkt = 0 → sessionOpen k s = false →
    hlInit pkt = true → (headOf k s).resyncAt.isSome = true → minGrant k s ≤ fieldLe (hlPayload pkt) 0 2 → 4 ≤ fieldLe (hlPayload pkt) 2 2 →
    ∃ t, exec (.hlCredit k pkt) s = .next t ∧ sessionOpen k t = true ∧
      rd (R.SHL.BUF_STAT_GRANT (stDie k) (stLoc k)) t = fieldLe (hlPayload pkt) 0 2 % 65536) ∧
  -- HL_BAD_PACKET: a packet that fails framing or its CRC is counted, and nothing of it is taken.
  (∀ (k : Nat) (pkt : List Byte) (s : State), headHears k s = true → hlVerdict pkt ≠ 0 →
    ∃ t, exec (.hlBadPacket k pkt) s = .next t ∧ t.headLinks = s.headLinks ∧
      rd (R.SHL.UP_ERR_CRC (stDie k) (stLoc k)) t = (if hlVerdict pkt = 2 then Nat.min (rd (R.SHL.UP_ERR_CRC (stDie k) (stLoc k)) s + 1) 65535
        else rd (R.SHL.UP_ERR_CRC (stDie k) (stLoc k)) s) ∧
      rd (R.SHL.UP_ERR_FRAMING (stDie k) (stLoc k)) t = (if hlVerdict pkt = 2 then rd (R.SHL.UP_ERR_FRAMING (stDie k) (stLoc k)) s
        else Nat.min (rd (R.SHL.UP_ERR_FRAMING (stDie k) (stLoc k)) s + 1) 65535))

/-- The head link's timers and what the host sends over it (R277, R278, R284, R285, R287). -/
def Obligations.HeadLinkSendCommandsAct : Prop :=
  -- HL_REPLAY_TIMER, 20 µs without an ACK that advances: everything in the replay buffer is sent again.
  (∀ (k : Nat) (s : State), headHears k s = true → sessionOpen k s = true → (headOf k s).replay ≠ [] → (headOf k s).advAt + 20000 ≤ s.now →
    ∃ t, exec (.hlReplayTimer k) s = .next t ∧ (headOf k t).advAt = s.now ∧ (headOf k t).replay = (headOf k s).replay ∧
      t.sent = ((headOf k s).replay.map (fun x => Sent.head k x.1 x.2)).reverse ++ s.sent) ∧
  -- HL_RESYNC_TIMER, without a session, 10 µs after the last RESYNC: another one, under the PSN that comes next.
  (∀ (k : Nat) (s : State), headHears k s = true → sessionOpen k s = false → (∀ u, (headOf k s).resyncAt = some u → u + 10000 ≤ s.now) →
    ∃ t, exec (.hlResyncTimer k) s = .next t ∧ (headOf k t).resyncAt = some s.now ∧
      t.sent = .head k (rd (R.SHL.PSN_STAT_NEXT (stDie k) (stLoc k)) s) { type := 0x25 } :: s.sent ∧
      t = { s with headLinks := t.headLinks, sent := t.sent, bonds := t.bonds }) ∧
  -- HL_STATUS_TIMEOUT: no STATUS for TIMEOUT ms in a session fences the station.
  (∀ (k : Nat) (s : State), stationOn k s = true → sessionOpen k s = true →
    (headOf k s).statusAt + 1000000 * rd (R.SHL.HCFG_TIMEOUT (stDie k) (stLoc k)) s ≤ s.now →
    ∃ t, exec (.hlStatusTimeout k) s = .next t ∧ isFenced (.station k) t = true) ∧
  -- HEADCFG_SEND without a session: the packet with the address and up to 16 words waits for one, and DONE falls.
  (∀ (a : Access) (k : Nat) (v : Word) (s : State), k < 16 → Reaches a (stDie k) (shlPage (stLoc k)) 0x78 s → a.bar2 = false →
    flag (R.SHL.HCFG_CTL_DONE (stDie k) (stLoc k)) s = true → sessionOpen k s = false →
    ∃ t, exec (.headcfgSend a k v) s = .next t ∧ flag (R.SHL.HCFG_CTL_DONE (stDie k) (stLoc k)) t = false ∧ t.sent = s.sent ∧
      ∃ body : List Byte, (headOf k t).waiting = (headOf k s).waiting ++ [{ type := 0x22, payload := body }] ∧
        body.length = 4 + 4 * Nat.min 16 (Nat.max 1 (bitsOf v.toNat 0 5))) ∧
  -- TRIM_SET_SEND of a set of kind 1: the set is kept for the sessions to come, under the generation that TRIM_SENT then shows.
  (∀ (a : Access) (k : Nat) (v : Word) (s : State), k < 16 → Reaches a (stDie k) (shlPage (stLoc k)) 0x70 s → a.bar2 = false →
    bitsOf v.toNat 20 1 = 1 → bitsOf v.toNat 0 17 ≠ 0 →
    ∃ t, exec (.trimSetSend a k v) s = .next t ∧ ∃ trims : List Nat, trims.length = Nat.min 65536 (bitsOf v.toNat 0 17) ∧
      (headOf k t).trim = trimPackets 1 (rd (R.SHL.GEN_STAT_TRIM_SENT (stDie k) (stLoc k)) t) 65 0 trims)

/-- Head protection: the gate of a station, its latches, its soft state and its duty window (R295, R299 to R303, R305). -/
def Obligations.ProtectionCommandsAct : Prop :=
  -- ILK_FALL: the interlock input is low, and with it no station of the package may be enabled.
  (∀ s : State, ∃ t, exec .ilkFall s = .next t ∧ t.ilkIn = false ∧ t.hokIn = s.hokIn ∧ ∀ k, lenAllowed k t = false) ∧
  -- HOK_FALL sets latch HOK of a station where every frame that has begun has ended, and LEN falls.
  (∀ (k : Nat) (s : State), k < stationCount s → sprotOn k s = true → testBit (latches k s) 1 = false →
    (∀ i, i < 64 → (slotOf i s).begun.contains k = true → (slotOf i s).ended.contains k = true) →
    ∃ t, exec (.hokFall k) s = .next t ∧ t.hokIn = s.hokIn.filter (· != k) ∧ testBit (latches k t) 1 = true ∧
      flag (R.SPROT.GATE_STAT_LEN (stDie k) (stLoc k)) t = false) ∧
  -- PAPER_OUT sets PAPER_IN and latch PAPER, of the station alone where the other of its die names another pin; while the
  -- station runs, the gate closes at its next line boundary.
  (∀ (k : Nat) (s : State), sprotOn k s = true → flag (R.SPROT.SENS_CFG_PAPER_EN (stDie k) (stLoc k)) s = true →
    testBit (latches k s) 2 = false → sensorPath k 2 s = [k] →
    (∀ i, i < 64 → (slotOf i s).begun.contains k = true → (slotOf i s).ended.contains k = true) →
    ∃ t, exec (.paperOut k) s = .next t ∧ testBit (latches k t) 2 = true ∧ flag (R.SPROT.GATE_STAT_PAPER_IN (stDie k) (stLoc k)) t = true ∧
      (timSt k s = 2 → (staOf k t).gateAt.isSome = true)) ∧
  -- JAM the same with JAM_IN and latch JAM.
  (∀ (k : Nat) (s : State), sprotOn k s = true → flag (R.SPROT.SENS_CFG_JAM_EN (stDie k) (stLoc k)) s = true →
    testBit (latches k s) 3 = false → sensorPath k 3 s = [k] →
    (∀ i, i < 64 → (slotOf i s).begun.contains k = true → (slotOf i s).ended.contains k = true) →
    ∃ t, exec (.jam k) s = .next t ∧ testBit (latches k t) 3 = true ∧ flag (R.SPROT.GATE_STAT_JAM_IN (stDie k) (stLoc k)) t = true ∧
      (timSt k s = 2 → (staOf k t).gateAt.isSome = true)) ∧
  -- REARM clears each latch whose input has been deasserted for QUAL, and no other.
  (∀ (a : Access) (k : Nat) (v : Word) (s : State), k < 16 → Reaches a (stDie k) (sprotPage (stLoc k)) 0x40 s →
    ∃ t, exec (.rearm a k v) s = .next t ∧ (∀ b < 4, testBit (latches k t) b = (testBit (latches k s) b && !qualified k b s)) ∧
      testBit (latches k t) 4 = testBit (latches k s) 4) ∧
  -- SOFT_STATE_APPLY at the frame boundary: SOFT becomes what the last STATUS asked for.
  (∀ (k : Nat) (s : State), sprotOn k s = true → flag (R.SPROT.GATE_STAT_SOFT_PEND (stDie k) (stLoc k)) s = true →
    (staOf k s).boundary = true →
    ∃ t, exec (.softStateApply k) s = .next t ∧ flag (R.SPROT.GATE_STAT_SOFT (stDie k) (stLoc k)) t = (staOf k s).softWant ∧
      flag (R.SPROT.GATE_STAT_SOFT_PEND (stDie k) (stLoc k)) t = false) ∧
  -- HEAD_BUCKET_TICK: the window of 64 buckets slides by the milliseconds of local time that have passed.
  (∀ (k : Nat) (s : State), sprotOn k s = true → (staOf k s).bucketAt < ltime (stDie k) s / 1000000 →
    ∃ t, exec (.headBucketTick k) s = .next t ∧ (staOf k t).bucketAt = ltime (stDie k) s / 1000000 ∧
      (staOf k t).buckets = (List.replicate (Nat.min 64 (ltime (stDie k) s / 1000000 - (staOf k s).bucketAt)) 0 ++ (staOf k s).buckets).take 64) ∧
  -- INPUT_DEASSERTED: the level and, for the sensor inputs, the time from which QUAL counts.
  (∀ (k : Nat) (s : State), ∃ t, exec (.inputDeasserted 0 k) s = .next t ∧ t.ilkIn = true) ∧
  (∀ (k : Nat) (s : State), k < stationCount s → ∃ t, exec (.inputDeasserted 1 k) s = .next t ∧ k ∈ t.hokIn ∧ (1, s.now) ∈ (staOf k t).inputAt) ∧
  (∀ (k : Nat) (s : State), k < stationCount s → sprotOn k s = true → sensorPath k 2 s = [k] →
    ∃ t, exec (.inputDeasserted 2 k) s = .next t ∧ flag (R.SPROT.GATE_STAT_PAPER_IN (stDie k) (stLoc k)) t = false ∧
      (2, s.now) ∈ (staOf k t).inputAt) ∧
  (∀ (k : Nat) (s : State), k < stationCount s → sprotOn k s = true → sensorPath k 3 s = [k] →
    ∃ t, exec (.inputDeasserted 3 k) s = .next t ∧ flag (R.SPROT.GATE_STAT_JAM_IN (stDie k) (stLoc k)) t = false ∧
      (3, s.now) ∈ (staOf k t).inputAt)

/-- Calibration sets and ageing (R314, R316, R319, R320). -/
def Obligations.CalibrationCommandsAct : Prop :=
  -- CAL_LOAD.GO: a set whose checks fail ends the load at once with its result code.
  (∀ (a : Access) (d : Nat) (v : Word) (s S : State), Reaches a d 0x71 0x580 s → (RegWrite.of a d 0x71 0x580 (v ||| 0x80000000)).store (landWrite a.rq d s) = S →
    flag (R.PIO.CAL_STAT_BUSY d) S = false →
    (nvReadChecked d (calOffset (rd (R.PIO.CAL_LOAD_STATION d) S) (rd (R.PIO.CAL_LOAD_SET d) S)) 8192 S).2.1 = false →
    ∀ r, calCheck d (rd (R.PIO.CAL_LOAD_STATION d) S)
        (nvReadChecked d (calOffset (rd (R.PIO.CAL_LOAD_STATION d) S) (rd (R.PIO.CAL_LOAD_SET d) S)) 8192 S).1 S = r → r ≠ 0 →
      ∃ t, exec (.calLoad a d v) s = .next t ∧ rd (R.PIO.CAL_STAT_RESULT d) t = r ∧ flag (R.PIO.CAL_STAT_VALID d) t = true ∧
        flag (R.PIO.CAL_STAT_BUSY d) t = false ∧ calJobOf d t = none) ∧
  -- A set that passes, with a slot that is free, is loaded into the banks that are not in use.
  (∀ (a : Access) (d : Nat) (v : Word) (s S : State), Reaches a d 0x71 0x580 s → (RegWrite.of a d 0x71 0x580 (v ||| 0x80000000)).store (landWrite a.rq d s) = S →
    flag (R.PIO.CAL_STAT_BUSY d) S = false →
    (nvReadChecked d (calOffset (rd (R.PIO.CAL_LOAD_STATION d) S) (rd (R.PIO.CAL_LOAD_SET d) S)) 8192 S).2.1 = false →
    calCheck d (rd (R.PIO.CAL_LOAD_STATION d) S)
        (nvReadChecked d (calOffset (rd (R.PIO.CAL_LOAD_STATION d) S) (rd (R.PIO.CAL_LOAD_SET d) S)) 8192 S).1 S = 0 →
    slotBusy d (rd (R.PIO.CAL_LOAD_SLOT d) S) S = false →
      ∃ t, exec (.calLoad a d v) s = .next t ∧ flag (R.PIO.CAL_STAT_BUSY d) t = true ∧
        calJobOf d t = some {
          l := rd (R.PIO.CAL_LOAD_STATION d) S, set := rd (R.PIO.CAL_LOAD_SET d) S, slot := rd (R.PIO.CAL_LOAD_SLOT d) S,
          plumb := 1 - rd (R.STA.SEL_PLUMB_BANK d (rd (R.PIO.CAL_LOAD_STATION d) S)) S,
          facet := 1 - rd (R.STA.SEL_FACET_BANK d (rd (R.PIO.CAL_LOAD_STATION d) S)) S,
          lin := 1 - rd (R.STIM.LIN_LIN_BANK d (rd (R.PIO.CAL_LOAD_STATION d) S)) S }) ∧
  -- CAL_LOAD_END: result 5 for an uncorrectable word of the NV store, 4 for a bank that a commit has made active; else 0, or 5
  -- where page memory does not take the emitter trims.
  (∀ (d : Nat) (c : CalJob) (s : State), calJobOf d s = some c →
    ∃ t, exec (.calLoadEnd d) s = .next t ∧ calJobOf d t = none ∧ flag (R.PIO.CAL_STAT_BUSY d) t = false ∧ flag (R.PIO.CAL_STAT_VALID d) t = true ∧
      (nvBadIn d (calOffset c.l c.set) 8192 s = true → rd (R.PIO.CAL_STAT_RESULT d) t = 5) ∧
      (nvBadIn d (calOffset c.l c.set) 8192 s = false →
        if (calRefused d (!flag (R.STA.CFG_HEAD d c.l) s) c s).isSome then rd (R.PIO.CAL_STAT_RESULT d) t = 4
        else rd (R.PIO.CAL_STAT_RESULT d) t = 0 ∨ rd (R.PIO.CAL_STAT_RESULT d) t = 5)) ∧
  -- RESTORE and SAVE begin while EN and BUSY are 0; CKPT_NOW begins whatever EN is.
  (∀ (a : Access) (k : Nat) (v : Word) (s : State), k < 16 → Reaches a (stDie k) 0x71 (0x500 + 0x40 * stLoc k) s → testBit v.toNat 0 = false →
    (ageOf k s).action = 0 →
    ∃ t, exec (.ageRestore a k v) s = .next t ∧ (ageOf k t).action = 1 ∧ flag (R.PIO.AGE_CTL_BUSY (stDie k) (stLoc k)) t = true) ∧
  (∀ (a : Access) (k : Nat) (v : Word) (s : State), k < 16 → Reaches a (stDie k) 0x71 (0x500 + 0x40 * stLoc k) s → testBit v.toNat 0 = false →
    testBit v.toNat 1 = false → (ageOf k s).action = 0 →
    ∃ t, exec (.ageSave a k v) s = .next t ∧ (ageOf k t).action = 2 ∧ flag (R.PIO.AGE_CTL_BUSY (stDie k) (stLoc k)) t = true) ∧
  (∀ (a : Access) (k : Nat) (v : Word) (s : State), k < 16 → Reaches a (stDie k) 0x71 (0x500 + 0x40 * stLoc k) s →
    testBit v.toNat 1 = false → testBit v.toNat 2 = false → (ageOf k s).action = 0 →
    ∃ t, exec (.ckptNow a k v) s = .next t ∧ (ageOf k t).action = 3 ∧ flag (R.PIO.AGE_CTL_BUSY (stDie k) (stLoc k)) t = true) ∧
  -- The action under way ends, and BUSY with it.
  (∀ (k : Nat) (s : State), pioOn (stDie k) s = true → (ageOf k s).action ≠ 0 →
    ∃ t, exec (.ageActionEnd k) s = .next t ∧ (ageOf k t).action = 0 ∧ flag (R.PIO.AGE_CTL_BUSY (stDie k) (stLoc k)) t = false) ∧
  -- A checkpoint that is due begins, unless background work is deferred.
  (∀ (k : Nat) (s : State), pioOn (stDie k) s = true → flag (R.PIO.AGE_CTL_EN (stDie k) (stLoc k)) s = true →
    rd (R.PIO.AGE_CFG_CKPT (stDie k) (stLoc k)) s ≠ 0 →
    (ageOf k s).ckptAt + 10000000000 * rd (R.PIO.AGE_CFG_CKPT (stDie k) (stLoc k)) s ≤ s.now → (ageOf k s).action = 0 →
    backgroundDeferred (stDie k) s = false →
    ∃ t, exec (.wearCheckpoint k) s = .next t ∧ (ageOf k t).action = 3 ∧ (ageOf k t).ckptAt = s.now ∧
      flag (R.PIO.AGE_CTL_BUSY (stDie k) (stLoc k)) t = true) ∧
  -- A refresh that is due sends an aged set under the next generation.
  (∀ (k : Nat) (b w : List Byte) (s : State), pioOn (stDie k) s = true → stationOn k s = true → sessionOpen k s = true →
    flag (R.PIO.AGE_CTL_EN (stDie k) (stLoc k)) s = true →
    (ageOf k s).sentAt + 1000000000 * rd (R.PIO.AGE_CFG_REFRESH (stDie k) (stLoc k)) s ≤ s.now →
    (headOf k s).waiting.any (fun p => p.type == 0x23) = false →
    agentRead agOther (ageAddr k s) (2 * lineLen k s) s = (.ok b, s) → agentRead agOther (wearAddr k s) (4 * lineLen k s) s = (.ok w, s) →
    ∃ t, exec (.ageRefresh k) s = .next t ∧ (ageOf k t).sentAt = s.now ∧
      rd (R.SHL.GEN_STAT_TRIM_SENT (stDie k) (stLoc k)) t = (rd (R.SHL.GEN_STAT_TRIM_SENT (stDie k) (stLoc k)) s + 1) % 256)

/-- Mark inputs, the outputs of auto-registration, and the position counters (R321, R322, R325, R329 to R332). -/
def Obligations.MarkAndCounterCommandsAct : Prop :=
  -- MARK_CAPTURE outside a window, with the level held for FILT at least: the capture goes to the FIFO, with the time and the
  -- position at which the level changed; a full FIFO counts it as lost.
  (∀ (d m held : Nat) (rising : Bool) (s : State), m < 4 → pioOn d s = true → flag (R.PIO.MARK_CFG_EN d m) s = true →
    (rd (R.PIO.MARK_CFG_EDGE d m) s = 2 ∨ rd (R.PIO.MARK_CFG_EDGE d m) s = (if rising then 0 else 1)) →
    rd (R.PIO.MARK_CFG_FILT d m) s ≤ held → flag (R.PIO.MARK_CFG_CUE_EN d m) s = false →
    ∃ t, exec (.markCapture d m (rising, held)) s = .next t ∧
      (markOf d m t).fifo = (if (markOf d m s).fifo.length < 16 then
        (markOf d m s).fifo ++ [((stime d s + 4294967296 - held % 4294967296) % 4294967296, rd (R.PIO.MARK_STAT_INDEX d m) s,
          (counterOf d (rd (R.PIO.MARK_CFG_COUNTER d m) s) s).posAt (counterC d s - held))]
        else (markOf d m s).fifo) ∧
      (16 ≤ (markOf d m s).fifo.length →
        rd (R.PIO.MARK_STAT_LOST d m) t = Nat.min (rd (R.PIO.MARK_STAT_LOST d m) s + 1) 65535)) ∧
  -- A read of MARK_P_LO answers the oldest capture and removes it.
  (∀ (a : Access) (d m : Nat) (s : State), m < 4 → Answers a d 0x71 s →
    ∃ t, exec (.markCaptureRead a d m) s = .next t ∧ (markOf d m t).fifo = (markOf d m s).fifo.drop 1 ∧
      t.resp.value.toNat = rd (R.PIO.MARK_P_LO_P d m) s ∧
      rd (R.PIO.MARK_STAT_FIFO d m) t = ((markOf d m s).fifo.length - 1) % 32) ∧
  -- AREG_HELD_STAGE: a held output is staged once its slot is free, and the slot is armed.
  (∀ (k v : Nat) (e : Int) (s : State), s.aregOut.find? (fun x => x.1 == k) = some (v, e) →
    slotBusy (stDie k) (rd (R.PIO.AREG_CFG_SLOT (stDie k) (stLoc k)) s) s = false →
    flag (R.PIO.AREG_CFG_EN (stDie k) (stLoc k)) s = true →
    ∃ t, exec (.aregHeldStage k) s = .next t ∧ t.aregOut = s.aregOut.filter (fun x => x.1 != k) ∧
      rd (R.TXN.TXS_STAT_STATE (stDie k) (rd (R.PIO.AREG_CFG_SLOT (stDie k) (stLoc k)) s)) t = 4) ∧
  -- ENCODER_STEP, with no edge of the other level within FILT: the counter that follows the input takes a step, up or down; its line generators stand still.
  (∀ (d e c n : Nat) (la lb : Bool) (s : State), e < 8 → c < 8 → blockUp d 0x60 s = true → rd (R.CUE.POS_CFG_SRC d c) s = e →
    (∀ c' < 8, c' ≠ c → rd (R.CUE.POS_CFG_SRC d c') s ≠ e) → (∀ l < 2, stationOn (2 * d + l) s = false) →
    edgeNear d e (rd (R.CUE.POS_CFG_FILT d c) s) ((encoderOf d e s).a != la) ((encoderOf d e s).b != lb) s = false →
    decodeStep (rd (R.CUE.POS_CFG_MODE d c) s) (encoderOf d e s).a (encoderOf d e s).b la lb = n → (n = 1 ∨ n = 2) →
    ∃ t, exec (.encoderStep d e la lb) s = .next t ∧ encoderOf d e t = { a := la, b := lb } ∧
      counterOf d c t = (counterOf d c s).step (if n = 1 then !flag (R.CUE.POS_CFG_INV d c) s else flag (R.CUE.POS_CFG_INV d c) s) (counterC d s)) ∧
  -- An invalid change of the levels is counted as an error, and no counter moves.
  (∀ (d e c : Nat) (la lb : Bool) (s : State), e < 8 → c < 8 → blockUp d 0x60 s = true → rd (R.CUE.POS_CFG_SRC d c) s = e →
    (∀ c' < 8, c' ≠ c → rd (R.CUE.POS_CFG_SRC d c') s ≠ e) →
    decodeStep (rd (R.CUE.POS_CFG_MODE d c) s) (encoderOf d e s).a (encoderOf d e s).b la lb = 3 →
    ∃ t, exec (.encoderStep d e la lb) s = .next t ∧ encoderOf d e t = { a := la, b := lb } ∧ t.counters = s.counters ∧
      rd (R.CUE.POS_ERR_QUAD d c) t = Nat.min (rd (R.CUE.POS_ERR_QUAD d c) s + 1) 65535) ∧
  -- ENCODER_INDEX: POS_IDX takes the count; IDX_ZERO makes it 0 once.
  (∀ (d e : Nat) (s : State), blockUp d 0x60 s = true →
    ∃ t, exec (.encoderIndex d e) s = .next t ∧ ∀ c < 8, rd (R.CUE.POS_CFG_SRC d c) s = e →
      rd (R.CUE.POS_IDX_COUNT d c) t = (counterOf d c s).count % 4294967296 ∧ flag (R.CUE.POS_CFG_IDX_ZERO d c) t = false ∧
      (counterOf d c t).count = (if flag (R.CUE.POS_CFG_IDX_ZERO d c) s then 0 else (counterOf d c s).count)) ∧
  -- POS_ADJ: the counter that the write names is shifted by DELTA, modulo 2^48; no other counter is.
  (∀ (a : Access) (d : Nat) (v : Word) (s : State), Reaches a d 0x60 0x50 s →
    ∃ t, exec (.posAdj a d v) s = .next t ∧
      (counterOf d (v.toNat % 8) t).count = ofSigned 48 (((counterOf d (v.toNat % 8) s).count : Int) + rdS (R.CUE.POS_ADJ_DELTA d) s) ∧
      ∀ c < 8, c ≠ v.toNat % 8 → counterOf d c t = counterOf d c s)

/-- The cue table: arming, disarming, unfencing, firing and completion (R335 to R339, R493). -/
def Obligations.CueCommandsAct : Prop :=
  -- ARM of a cue that passes the checks; a trigger that has passed makes it due at once, late.
  (∀ (a : Access) (d n : Nat) (v : Word) (s : State), Reaches a d 0x60 0x40 s → v.toNat % 512 = n → testBit v.toNat 17 = false →
    testBit v.toNat 18 = false → cueArmed d n s = false → cueReason d n s = 0 →
    ∃ t, exec (.cueArm a d v) s = .next t ∧ cueArmed d n t = true ∧ (cueOf d n t).arg = cueArg (cueEntry d n s) ∧
      (cueOf d n t).rep = fieldLe (cueEntry d n s) 28 2 ∧ (cueOf d n t).late = cuePassed d (cueEntry d n s) (cueArg (cueEntry d n s)) s ∧
      (cueOf d n t).reached = (cueOf d n t).late) ∧
  -- ARM of a cue that fails: CUE_ERR takes the failure if it is free, and the cue stays disarmed.
  (∀ (a : Access) (d n r : Nat) (v : Word) (s : State), Reaches a d 0x60 0x40 s → v.toNat % 512 = n → testBit v.toNat 17 = false →
    testBit v.toNat 18 = false → cueArmed d n s = false → cueReason d n s = r → r ≠ 0 → flag (R.CUE.CUE_ERR_VALID d) s = false →
    ∃ t, exec (.cueArm a d v) s = .next t ∧ cueArmed d n t = false ∧ flag (R.CUE.CUE_ERR_VALID d) t = true ∧
      rd (R.CUE.CUE_ERR_INDEX d) t = n ∧ rd (R.CUE.CUE_ERR_REASON d) t = r ∧ testBit (word (R.HDR.EVT_STAT_EVT d 0x60).addr t).toNat 0 = true) ∧
  -- DISARM: the trigger is given up; an action that has been issued proceeds.
  (∀ (a : Access) (d n : Nat) (v : Word) (s : State), Reaches a d 0x60 0x40 s → v.toNat % 512 = n → testBit v.toNat 16 = false →
    testBit v.toNat 18 = false →
    ∃ t, exec (.cueDisarm a d v) s = .next t ∧ cueArmed d n t = false ∧ (cueOf d n t).acting = (cueOf d n s).acting ∧
      (cueOf d n t).reached = false) ∧
  -- UNFENCE, once no fault of the page holds.
  (∀ (a : Access) (d n : Nat) (v : Word) (s : State), Reaches a d 0x60 0x40 s → v.toNat % 512 = n → testBit v.toNat 16 = false →
    testBit v.toNat 17 = false → faultsHold d 0x60 s = false →
    ∃ t, exec (.cueUnfence a d v) s = .next t ∧ UnitId.cue d n ∉ t.fenced ∧ testBit (rd (R.CUE.CUE_FENCED d (n / 32)) t) (n % 32) = false) ∧
  -- CUE_FIRE of a cue without a period whose action is an event; no slot is prepared, no mark window opens, no purge waits.
  (∀ (d n : Nat) (s : State), n < 512 → blockUp d 0x60 s = true → cueDue d n s = true → cuePeriod (cueEntry d n s) = 0 →
    cueAction (cueEntry d n s) = 5 → cueTarget (cueEntry d n s) < 16 → (∀ i < 8, rd (R.TXN.TXS_STAT_STATE d i) s ≠ 1) →
    (∀ m < 4, flag (R.PIO.MARK_CFG_CUE_EN d m) s = false) → (∀ p < 2, (pathRunOf p s).waiting = []) →
    ∃ t, exec (.cueFire d n) s = .next t ∧ cueArmed d n t = false ∧ testBit (rd (R.CUE.CUE_FIRED d (n / 32)) t) (n % 32) = true ∧
      testBit (word (R.HDR.EVT_STAT_EVT d 0x60).addr t).toNat (16 + cueTarget (cueEntry d n s)) = true ∧
      rd (R.CUE.CUE_CNT_LATE d) t = (if (cueOf d n s).late then Nat.min (rd (R.CUE.CUE_CNT_LATE d) s + 1) 65535 else rd (R.CUE.CUE_CNT_LATE d) s)) ∧
  -- CUE_COMPLETE: the action is over, and the delays of the completion triggers that name the cue begin.
  (∀ (d n : Nat) (s : State), n < 512 → (cueOf d n s).acting = true → (cueOf d n s).move = none →
    ∃ t, exec (.cueComplete d n) s = .next t ∧ (d ≠ 0 → (cueOf d n t).acting = false) ∧
      ∀ m < 512, d ≠ 0 → m ≠ n → cueArmed d m s = true → cueKind (cueEntry d m s) = 4 → cueSource (cueEntry d m s) = n →
        (cueOf d m s).due = none → (cueOf d m t).due = some (Nat.max (s.now + (cueOf d m s).arg) ((s.now / 5 + 1) * 5)))

/-- The medium paths (R346 to R353). -/
def Obligations.MediumPathCommandsAct : Prop :=
  -- EN written 1 to an IDLE path: RUN, or JAMMED where a station of the path holds a jam latch. EN written 0: IDLE.
  (∀ (a : Access) (p : Nat) (v : Word) (s : State), p < 2 → Reaches a 0 0x60 (0x300 + 0x40 * p) s → pathState p s = 0 →
    testBit v.toNat 0 = true → s.stopAtRun.contains p = false →
    ∃ t, exec (.pathEnable a p v) s = .next t ∧
      pathState p t = (if (pathMembers p s).any (fun k => jamSet k s) then 7 else 1) ∧ flag (R.CUE.PATH_CFG_EN 0 p) t = true) ∧
  (∀ (a : Access) (p : Nat) (v : Word) (s : State), p < 2 → Reaches a 0 0x60 (0x300 + 0x40 * p) s → testBit v.toNat 0 = false →
    ∃ t, exec (.pathEnable a p v) s = .next t ∧ pathState p t = 0 ∧ flag (R.CUE.PATH_CFG_EN 0 p) t = false) ∧
  -- STOP of a web path in RUN or RUNUP: cause 4. The path is in STOPPING, or in DECEL where no station has to stop first.
  (∀ (a : Access) (p : Nat) (v : Word) (s : State), p < 2 → Reaches a 0 0x60 (0x310 + 0x40 * p) s → testBit v.toNat 1 = false →
    testBit v.toNat 2 = false → pathSheet p s = false → (pathState p s = 1 ∨ pathState p s = 6) →
    ∃ t, exec (.pathStop a p v) s = .next t ∧ (pathState p t = 2 ∨ pathState p t = 3) ∧ rd (R.CUE.PATH_STAT_CAUSE 0 p) t = 4 ∧
      rd (R.CUE.PATH_CNT_STOPS 0 p) t = Nat.min (rd (R.CUE.PATH_CNT_STOPS 0 p) s + 1) 65535) ∧
  -- A cause that a die has told D0 does the same under its own code.
  (∀ (p c : Nat) (s : State), p < 2 → c < 8 → s.msgs.find? (isCause p) = some (.stopCause p c) → pathSheet p s = false →
    (pathState p s = 1 ∨ pathState p s = 6) →
    ∃ t, exec (.pathStopCause p) s = .next t ∧ (pathState p t = 2 ∨ pathState p t = 3) ∧ rd (R.CUE.PATH_STAT_CAUSE 0 p) t = c ∧
      rd (R.CUE.PATH_CNT_STOPS 0 p) t = Nat.min (rd (R.CUE.PATH_CNT_STOPS 0 p) s + 1) 65535) ∧
  -- RESUME of a web path that is HELD: BACKFEED.
  (∀ (a : Access) (p : Nat) (v : Word) (s : State), p < 2 → Reaches a 0 0x60 (0x310 + 0x40 * p) s → testBit v.toNat 0 = false →
    testBit v.toNat 2 = false → pathSheet p s = false → pathState p s = 4 →
    ∃ t, exec (.pathResume a p v) s = .next t ∧ pathState p t = 5) ∧
  -- CLEAR of a JAMMED path with no jam latch: RUN.
  (∀ (a : Access) (p : Nat) (v : Word) (s : State), p < 2 → Reaches a 0 0x60 (0x310 + 0x40 * p) s → testBit v.toNat 0 = false →
    testBit v.toNat 1 = false → pathState p s = 7 → dieFenced (rd (R.CUE.PATH_CFG_MDIE 0 p) s) s = false →
    (pathMembers p s).any (fun k => jamSet k s) = false → s.stopAtRun.contains p = false →
    ∃ t, exec (.pathClear a p v) s = .next t ∧ pathState p t = 1 ∧
      testBit (word (R.HDR.EVT_STAT_EVT 0 0x60).addr t).toNat 7 = true) ∧
  -- HELD with AUTO, and its conditions met: BACKFEED.
  (∀ (p : Nat) (s : State), p < 2 → pathState p s = 4 → flag (R.CUE.PATH_CFG_AUTO 0 p) s = true → backfeedReady p s = true →
    ∃ t, exec (.pathBackfeedAuto p) s = .next t ∧ pathState p t = 5) ∧
  -- The master at standstill: DECEL becomes HELD; BACKFEED at its target becomes RUNUP, or RUN where no station waits.
  (∀ (p : Nat) (s : State), p < 2 → (masterLoop p s).s = 0 → (masterLoop p s).prof.phase = 0 → pathState p s = 3 →
    ∃ t, exec (.pathStandstill p) s = .next t ∧ pathState p t = 4 ∧ testBit (word (R.HDR.EVT_STAT_EVT 0 0x60).addr t).toNat 6 = true) ∧
  (∀ (p : Nat) (s : State), p < 2 → (masterLoop p s).s = 0 → (masterLoop p s).prof.phase = 0 → pathState p s = 5 →
    masterAtTarget p s = true → s.stopAtRun.contains p = false →
    ∃ t, exec (.pathStandstill p) s = .next t ∧ (pathState p t = 6 ∨ pathState p t = 1)) ∧
  -- RHO is broadcast anew.
  (∀ (p : Nat) (s : State), p < 2 → blockUp (rd (R.CUE.PATH_CFG_MDIE 0 p) s) 0x70 s = true →
    ∃ t, exec (.rhoBroadcast p) s = .next t ∧
      rd (R.CUE.PATH_STAT_RHO 0 p) t = (rhoOf ((masterLoop p s).s / unit32) (pathRunOf p s).vrun s).1 % 65536) ∧
  -- A read of PURGE_FSN answers the oldest entry and removes it.
  (∀ (a : Access) (s : State), Answers a 0 0x60 s →
    ∃ t, exec (.purgeFsnRead a) s = .next t ∧ t.purges = s.purges.drop 1 ∧
      t.resp.value.toNat = rd (R.CUE.PURGE_FSN_FSN 0) s)

/-- The step channels (R362 to R372). -/
def Obligations.StepCommandsAct : Prop :=
  -- GO of a channel at rest with its three limits set: the move to TARGET waits in phase 1; a TARGET that is POS ends it at once.
  (∀ (a : Access) (d n : Nat) (v : Word) (s : State), n < 8 → Reaches a d 0x68 (0x11C + 0x40 * n) s → testBit v.toNat 1 = false →
    testBit v.toNat 2 = false → isFenced (.step d n) s = false → (stepOf d n s).prof.phase = 0 → rd (R.STEP.VMAX_V d n) s ≠ 0 →
    rd (R.STEP.AMAX_A d n) s ≠ 0 → rd (R.STEP.JMAX_J d n) s ≠ 0 → rdS (R.STEP.TARGET_POS d n) s ≠ rdS (R.STEP.POS_POS d n) s →
    ∃ t, exec (.stepGo a d n v) s = .next t ∧ (stepOf d n t).prof = { phase := 1 } ∧
      (stepOf d n t).len = (rdS (R.STEP.TARGET_POS d n) s - rdS (R.STEP.POS_POS d n) s).natAbs ∧
      (stepOf d n t).down = decide (rdS (R.STEP.TARGET_POS d n) s < rdS (R.STEP.POS_POS d n) s) ∧
      rd (R.STEP.STAT_PHASE d n) t = 1) ∧
  (∀ (a : Access) (d n : Nat) (v : Word) (s : State), n < 8 → Reaches a d 0x68 (0x11C + 0x40 * n) s → testBit v.toNat 1 = false →
    testBit v.toNat 2 = false → isFenced (.step d n) s = false → (stepOf d n s).prof.phase = 0 → rd (R.STEP.VMAX_V d n) s ≠ 0 →
    rd (R.STEP.AMAX_A d n) s ≠ 0 → rd (R.STEP.JMAX_J d n) s ≠ 0 → rdS (R.STEP.TARGET_POS d n) s = rdS (R.STEP.POS_POS d n) s →
    ∃ t, exec (.stepGo a d n v) s = .next t ∧ (stepOf d n t).prof = {} ∧ rd (R.STEP.STAT_RESULT d n) t = 0 ∧
      testBit (word (R.HDR.EVT_STAT_EVT d 0x68).addr t).toNat n = true) ∧
  -- STOP of a moving channel (phases 2 to 6) brakes; QSTOP takes any motion to phase 11. While the move waits both end it.
  (∀ (a : Access) (d n : Nat) (v : Word) (s : State), n < 8 → Reaches a d 0x68 (0x11C + 0x40 * n) s → testBit v.toNat 0 = false →
    testBit v.toNat 2 = false → isFenced (.step d n) s = false → 2 ≤ (stepOf d n s).prof.phase → (stepOf d n s).prof.phase ≤ 6 →
    ∃ t, exec (.stepStop a d n v) s = .next t ∧ (stepOf d n t).prof = (stepOf d n s).prof.brake ∧ (stepOf d n t).abandoned = true) ∧
  (∀ (a : Access) (d n : Nat) (v : Word) (s : State), n < 8 → Reaches a d 0x68 (0x11C + 0x40 * n) s → testBit v.toNat 0 = false →
    testBit v.toNat 2 = false → isFenced (.step d n) s = false → (stepOf d n s).prof.phase = 1 →
    ∃ t, exec (.stepStop a d n v) s = .next t ∧ (stepOf d n t).prof = {} ∧ rd (R.STEP.STAT_RESULT d n) t = 1 ∧
      testBit (word (R.HDR.EVT_STAT_EVT d 0x68).addr t).toNat n = true) ∧
  (∀ (a : Access) (d n : Nat) (v : Word) (s : State), n < 8 → Reaches a d 0x68 (0x11C + 0x40 * n) s → testBit v.toNat 0 = false →
    testBit v.toNat 1 = false → isFenced (.step d n) s = false → 2 ≤ (stepOf d n s).prof.phase → (stepOf d n s).prof.phase ≤ 10 →
    ∃ t, exec (.stepQstop a d n v) s = .next t ∧ (stepOf d n t).prof.phase = 11 ∧
      (stepOf d n t).prof.al = stepQ d n s ∧ (stepOf d n t).abandoned = true) ∧
  (∀ (a : Access) (d n : Nat) (v : Word) (s : State), n < 8 → Reaches a d 0x68 (0x11C + 0x40 * n) s → testBit v.toNat 0 = false →
    testBit v.toNat 1 = false → isFenced (.step d n) s = false → (stepOf d n s).prof.phase = 1 →
    ∃ t, exec (.stepQstop a d n v) s = .next t ∧ (stepOf d n t).prof = {} ∧ rd (R.STEP.STAT_RESULT d n) t = 2 ∧
      testBit (word (R.HDR.EVT_STAT_EVT d 0x68).addr t).toNat n = true) ∧
  -- UNFENCE of a fenced channel whose page holds no fault of class U or above.
  (∀ (a : Access) (d n : Nat) (v : Word) (s : State), n < 8 → Reaches a d 0x68 (0x11C + 0x40 * n) s → isFenced (.step d n) s = true →
    faultsHold d 0x68 s = false →
    ∃ t, exec (.stepUnfence a d n v) s = .next t ∧ UnitId.step d n ∉ t.fenced) ∧
  -- One tick of a moving profile: the new profile, and the steps that it makes due, each with the time of its active edge.
  (∀ (d n : Nat) (s : State), blockUp d 0x68 s = true → isFenced (.step d n) s = false → 2 ≤ (stepOf d n s).prof.phase →
    (stepOf d n s).prof.phase ≠ 10 → (stepOf d n s).ending = none →
    ((stepOf d n s).prof.takeTick (stepV d n s) (stepA d n s) (stepJ d n s) ((stepOf d n s).len * 4294967296)).2.phase ≠ 10 →
    ∃ t, exec (.stepProfileTick d n) s = .next t ∧
      (stepOf d n t).prof =
        ((stepOf d n s).prof.takeTick (stepV d n s) (stepA d n s) (stepJ d n s) ((stepOf d n s).len * 4294967296)).2 ∧
      (stepOf d n t).due = stepDue d n (stepOf d n s) (stepOf d n s).prof.q (stepOf d n t).prof.q s ∧
      rd (R.STEP.STAT_PHASE d n) t = (stepOf d n t).prof.phase % 16) ∧
  -- A step that is due is issued: its edge leaves at its time, and POS counts it.
  (∀ (d n u : Nat) (rest : List Nat) (s : State), (stepOf d n s).due = u :: rest → u ≤ s.now → (stepOf d n s).ending = none →
    (stepIssue d n s).sent = .step d n u (!(stepOf d n s).down) :: s.sent ∧ (stepOf d n (stepIssue d n s)).due = rest ∧
      rd (R.STEP.POS_POS d n) (stepIssue d n s) =
        ofSigned 32 (if (stepOf d n s).down then rdS (R.STEP.POS_POS d n) s - 1 else rdS (R.STEP.POS_POS d n) s + 1)) ∧
  -- FINISH at the target with every step issued ends the move with result 0.
  (∀ (d n : Nat) (s : State), n < 8 → blockUp d 0x68 s = true → isFenced (.step d n) s = false → (stepOf d n s).prof.phase = 10 →
    (stepOf d n s).abandoned = false → (stepOf d n s).ending = none → (stepOf d n s).due = [] →
    (stepOf d n s).prof.q = (stepOf d n s).len * 4294967296 →
    ∃ t, exec (.stepProfileTick d n) s = .next t ∧ (stepOf d n t).prof = {} ∧ rd (R.STEP.STAT_RESULT d n) t = 0 ∧
      testBit (word (R.HDR.EVT_STAT_EVT d 0x68).addr t).toNat n = true) ∧
  -- HOLD_DELAY after a move: the ramp begins, or IHOLD is reached at once where RAMP is 0. HOLD_REACHED: IHOLD is reached.
  (∀ (d n e : Nat) (s : State), n < 8 → (stepOf d n s).ended = some e → (stepOf d n s).ramping = false → (stepOf d n s).prof.phase = 0 →
    e + 1000000 * rd (R.STEP.HOLD_CFG_DELAY d n) s ≤ s.now →
    ∃ t, exec (.stepHoldDelay d n) s = .next t ∧
      (rd (R.STEP.HOLD_CFG_RAMP d n) s ≠ 0 → (stepOf d n t).ramping = true) ∧
      (rd (R.STEP.HOLD_CFG_RAMP d n) s = 0 → (stepOf d n t).ended = none ∧ flag (R.STEP.STAT_HOLDING d n) t = true ∧
        testBit (word (R.HDR.EVT_STAT_EVT d 0x68).addr t).toNat (16 + n) = true)) ∧
  (∀ (d n e : Nat) (s : State), n < 8 → (stepOf d n s).ended = some e → (stepOf d n s).ramping = true → (stepOf d n s).prof.phase = 0 →
    e + 1000000 * (rd (R.STEP.HOLD_CFG_DELAY d n) s + rd (R.STEP.HOLD_CFG_RAMP d n) s) ≤ s.now →
    ∃ t, exec (.stepHoldReached d n) s = .next t ∧ (stepOf d n t).ended = none ∧ flag (R.STEP.STAT_HOLDING d n) t = true ∧
      testBit (word (R.HDR.EVT_STAT_EVT d 0x68).addr t).toNat (16 + n) = true)

/-- The motor channels (R381 to R392). -/
def Obligations.MotorCommandsAct : Prop :=
  -- A carrier period of an enabled channel in OFF enters OFFSET; CTL.EN = 0 takes a channel to OFF.
  (∀ (d n ia ib ic : Nat) (s : State), n < 4 → domainReady d 11 s = true → isFenced (.foc d n) s = false →
    isFenced (.bus d (rd (R.FOC.CFG0_BUS d n) s)) s = false → flag (R.FOC.CTL_EN d n) s = true →
    flag (R.BUS.BUS_STAT_TRIPPED d (rd (R.FOC.CFG0_BUS d n) s)) s = false → focState d n s = 0 →
    ∃ t, exec (.focPeriod d n ia ib ic) s = .next t ∧ focState d n t = 1) ∧
  (∀ (d n ia ib ic : Nat) (s : State), n < 4 → domainReady d 11 s = true → flag (R.FOC.CTL_EN d n) s = false → focState d n s ≠ 0 →
    ∃ t, exec (.focPeriod d n ia ib ic) s = .next t ∧ focState d n t = 0) ∧
  -- In OFFSET the period takes one of the 256 samples.
  (∀ (d n ia ib ic : Nat) (s : State), n < 4 → domainReady d 11 s = true → isFenced (.foc d n) s = false →
    isFenced (.bus d (rd (R.FOC.CFG0_BUS d n) s)) s = false → flag (R.FOC.CTL_EN d n) s = true →
    flag (R.BUS.BUS_STAT_TRIPPED d (rd (R.FOC.CFG0_BUS d n) s)) s = false → focState d n s = 1 → (focOf d n s).samples < 255 →
    ∃ t, exec (.focPeriod d n ia ib ic) s = .next t ∧ (focOf d n t).samples = (focOf d n s).samples + 1 ∧
      (focOf d n t).sumU = (focOf d n s).sumU + ia ∧ (focOf d n t).sumV = (focOf d n s).sumV + ib ∧
      (focOf d n t).sumW = (focOf d n s).sumW + ic) ∧
  -- In RUN with a sensor and currents under ILIM.OC: the duties of the next period are set.
  (∀ (d n ia ib ic : Nat) (s : State), n < 4 → domainReady d 11 s = true → isFenced (.foc d n) s = false →
    isFenced (.bus d (rd (R.FOC.CFG0_BUS d n) s)) s = false → flag (R.FOC.CTL_EN d n) s = true →
    flag (R.BUS.BUS_STAT_TRIPPED d (rd (R.FOC.CFG0_BUS d n) s)) s = false → focState d n s = 6 → rd (R.FOC.CFG1_SENSE d n) s ≠ 3 →
    (focCurrents d n ia ib ic s).1.natAbs < rd (R.FOC.ILIM_OC d n) s → (focCurrents d n ia ib ic s).2.1.natAbs < rd (R.FOC.ILIM_OC d n) s →
    (focCurrents d n ia ib ic s).2.2.natAbs < rd (R.FOC.ILIM_OC d n) s →
    ((focCurrents d n ia ib ic s).1 + (focCurrents d n ia ib ic s).2.1 + (focCurrents d n ia ib ic s).2.2).natAbs ≤ 2048 →
    ∃ t, exec (.focPeriod d n ia ib ic) s = .next t ∧ (focOf d n t).duties.isSome = true ∧
      (focOf d n t).iAlpha = (focCurrents d n ia ib ic s).1) ∧
  -- A phase at ILIM.OC in RUN: the channel is fenced and off.
  (∀ (d n ia ib ic : Nat) (s : State), n < 4 → domainReady d 11 s = true → isFenced (.foc d n) s = false →
    isFenced (.bus d (rd (R.FOC.CFG0_BUS d n) s)) s = false → flag (R.FOC.CTL_EN d n) s = true →
    flag (R.BUS.BUS_STAT_TRIPPED d (rd (R.FOC.CFG0_BUS d n) s)) s = false → focState d n s = 6 →
    rd (R.FOC.ILIM_OC d n) s ≤ (focCurrents d n ia ib ic s).1.natAbs →
    ∃ t, exec (.focPeriod d n ia ib ic) s = .next t ∧ UnitId.foc d n ∈ t.fenced ∧ focState d n t = 0) ∧
  -- A Hall code of a sector, on a channel with Hall sensors; a code of no sector fences a channel in any state, under any SENSE.
  (∀ (d n code sec : Nat) (s : State), n < 4 → domainReady d 11 s = true → rd (R.FOC.CFG1_SENSE d n) s = 0 →
    hallSector code = some sec →
    ∃ t, exec (.hallTransition d n code) s = .next t ∧ rd (R.FOC.STAT_HALL d n) t = code ∧ (focOf d n t).hallAt.isSome = true ∧
      (hallSector (rd (R.FOC.STAT_HALL d n) s) ≠ some ((sec + 1) % 6) → (focOf d n t).hallEdge = 10923 * sec ∧ (focOf d n t).hallBack = false) ∧
      (hallSector (rd (R.FOC.STAT_HALL d n) s) = some ((sec + 1) % 6) →
        (focOf d n t).hallEdge = 10923 * (sec + 1) % 65536 ∧ (focOf d n t).hallBack = true)) ∧
  (∀ (d n code : Nat) (s : State), n < 4 → domainReady d 11 s = true → isFenced (.foc d n) s = false → hallSector code = none →
    ∃ t, exec (.hallTransition d n code) s = .next t ∧ UnitId.foc d n ∈ t.fenced ∧ focState d n t = 0) ∧
  -- CATCH ends: in RUN where the rotor turns forward at MIN_SPEED or more; in BRAKE where it turns back above REV_THR.
  (∀ (d n theta : Nat) (speed vd vq : Int) (s : State), n < 4 → focState d n s = 2 →
    (focOf d n s).since + 1000000 * rd (R.FOC.CATCH_CFG_TIME d n) s ≤ s.now → 0 ≤ speed → rd (R.FOC.CATCH_MIN_SPEED d n) s ≤ speed.natAbs →
    rd (R.FOC.CFG1_SENSE d n) s ≠ 3 →
    ∃ t, exec (.catchEnd d n speed theta vd vq) s = .next t ∧ focState d n t = 6 ∧ (focOf d n t).intD = vd * 65536 ∧
      (focOf d n t).intQ = vq * 65536) ∧
  (∀ (d n theta : Nat) (speed vd vq : Int) (s : State), n < 4 → focState d n s = 2 →
    (focOf d n s).since + 1000000 * rd (R.FOC.CATCH_CFG_TIME d n) s ≤ s.now → speed < 0 → rd (R.FOC.CATCH_MIN_SPEED d n) s ≤ speed.natAbs →
    rd (R.FOC.REV_THR_SPEED d n) s < speed.natAbs →
    ∃ t, exec (.catchEnd d n speed theta vd vq) s = .next t ∧ focState d n t = 3) ∧
  -- ALIGN ends: the open-loop ramp of a sensorless channel, else RUN from angle 0.
  (∀ (d n : Nat) (s : State), n < 4 → focState d n s = 4 → (focOf d n s).since + 1000000 * rd (R.FOC.ALIGN_T d n) s ≤ s.now →
    ∃ t, exec (.alignEnd d n) s = .next t ∧ focState d n t = (if rd (R.FOC.CFG1_SENSE d n) s = 3 then 5 else 6)) ∧
  -- BRAKE that lasts too long: the channel is fenced and off.
  (∀ (d n : Nat) (s : State), n < 4 → focState d n s = 3 → (focOf d n s).since + 1000000 * rd (R.FOC.CATCH_CFG_BRAKE_TMO d n) s ≤ s.now →
    isFenced (.foc d n) s = false →
    ∃ t, exec (.brakeTimeout d n) s = .next t ∧ UnitId.foc d n ∈ t.fenced ∧ focState d n t = 0) ∧
  -- UNFENCE of a fenced channel whose page holds no fault of class U or above.
  (∀ (a : Access) (d n : Nat) (v : Word) (s : State), n < 4 → Reaches a d 0x69 (0x140 + 0x80 * n) s → isFenced (.foc d n) s = true →
    faultsHold d 0x69 s = false →
    ∃ t, exec (.focUnfence a d n v) s = .next t ∧ UnitId.foc d n ∉ t.fenced)

/-- The motor buses (R388 to R392). -/
def Obligations.MotorBusCommandsAct : Prop :=
  -- A reading with the chopper in hysteresis: it switches on at CH_ON and off below CH_OFF.
  (∀ (d b v : Nat) (s : State), d < s.dies → b < 4 → flag (R.BUS.CHOP_CFG_MODE d b) s = false →
    ∃ t, exec (.chopperSwitch d b v) s = .next t ∧ rd (R.BUS.BUS_STAT_V d b) t = v % 4096 ∧
      (rd (R.BUS.CHOP_CFG_CH_ON d b) s ≤ v → flag (R.BUS.BUS_STAT_CHOP d b) t = true) ∧
      (v < rd (R.BUS.CHOP_CFG_CH_ON d b) s → v < rd (R.BUS.CHOP_CFG_CH_OFF d b) s → flag (R.BUS.BUS_STAT_CHOP d b) t = false)) ∧
  -- The clamp begins where the chopper has been fully on for the window, the bus is at OV_REGEN or more (under OV_HARD) and
  -- has risen by INEFF.RISE over the window: CLAMP, CHOP_BAD, the event and the fault.
  (∀ (d b v t0 v0 : Nat) (s : State), d < s.dies → b < 4 → blockUp d 0x6A s = true → flag (R.BUS.CHOP_CFG_MODE d b) s = false →
    flag (R.BUS.BUS_STAT_CLAMP d b) s = false → rd (R.BUS.CHOP_CFG_CH_ON d b) s ≤ v → rd (R.BUS.VB_CFG_OV_REGEN d b) s ≤ v →
    v < rd (R.BUS.VB_CFG_OV_HARD d b) s → 0 < rd (R.BUS.INEFF_TIME d b) s → 1000 * rd (R.BUS.INEFF_TIME d b) s ≤ s.now →
    (busOf d b s).chopSince = some t0 → t0 + 1000 * rd (R.BUS.INEFF_TIME d b) s ≤ s.now →
    readingAt (busOf d b s).readings (s.now - 1000 * rd (R.BUS.INEFF_TIME d b) s) = some v0 → v0 + rd (R.BUS.INEFF_RISE d b) s ≤ v →
    ∃ t, exec (.busClamp d b v) s = .next t ∧ flag (R.BUS.BUS_STAT_CLAMP d b) t = true ∧ flag (R.BUS.BUS_STAT_CHOP_BAD d b) t = true) ∧
  -- It ends below OV_REGEN − HYST.
  (∀ (d b v : Nat) (s : State), d < s.dies → b < 4 → flag (R.BUS.BUS_STAT_CLAMP d b) s = true →
    v + rd (R.BUS.UVH_HYST d b) s < rd (R.BUS.VB_CFG_OV_REGEN d b) s →
    ∃ t, exec (.busClampEnd d b v) s = .next t ∧ flag (R.BUS.BUS_STAT_CLAMP d b) t = false ∧
      testBit (word (R.HDR.EVT_STAT_EVT d 0x6A).addr t).toNat (4 + b) = true) ∧
  -- At OV_HARD the bus trips: the bus is fenced.
  (∀ (d b v : Nat) (s : State), d < s.dies → b < 4 → flag (R.BUS.BUS_STAT_TRIPPED d b) s = false →
    rd (R.BUS.VB_CFG_OV_HARD d b) s ≤ v →
    ∃ t, exec (.busTrip d b v) s = .next t ∧ UnitId.bus d b ∈ t.fenced ∧
      testBit (word (R.HDR.EVT_STAT_EVT d 0x6A).addr t).toNat (8 + b) = true) ∧
  -- At UV_LIM or below: the event.
  (∀ (d b v : Nat) (s : State), d < s.dies → b < 4 → v ≤ rd (R.BUS.UVH_UV_LIM d b) s →
    ∃ t, exec (.busUndervoltage d b v) s = .next t ∧ testBit (word (R.HDR.EVT_STAT_EVT d 0x6A).addr t).toNat (12 + b) = true) ∧
  -- UNFENCE below OV_REGEN − HYST with no fault held: the bus is unfenced and TRIPPED reads 0.
  (∀ (a : Access) (d b : Nat) (v : Word) (s : State), b < 4 → Reaches a d 0x6A (0x110 + 0x40 * b) s → UnitId.bus d b ∈ s.fenced →
    faultsHold d 0x6A s = false → rd (R.BUS.BUS_STAT_V d b) s + rd (R.BUS.UVH_HYST d b) s < rd (R.BUS.VB_CFG_OV_REGEN d b) s →
    ∃ t, exec (.busUnfence a d b v) s = .next t ∧ UnitId.bus d b ∉ t.fenced ∧ flag (R.BUS.BUS_STAT_TRIPPED d b) t = false) ∧
  -- CHOP_BAD_CLR on a bus that is not fenced.
  (∀ (a : Access) (d b : Nat) (v : Word) (s : State), b < 4 → Reaches a d 0x6A (0x110 + 0x40 * b) s → isFenced (.bus d b) s = false →
    ∃ t, exec (.chopBadClear a d b v) s = .next t ∧ flag (R.BUS.BUS_STAT_CHOP_BAD d b) t = false)

/-- The control loops (R398 to R423). -/
def Obligations.LoopCommandsAct : Prop :=
  -- ENABLE of a context that R404 has no reason to refuse: MANUAL. Else the refusal's event; the context keeps its mode.
  (∀ (a : Access) (d : Nat) (v : Word) (s : State), Reaches a d 0x70 0x40 s → v.toNat < 160 → loopReason d v.toNat s = 0 →
    ∃ t, exec (.loopEnable a d v) s = .next t ∧ (loopOf d v.toNat t).mode = 1 ∧ (loopOf d v.toNat t).ran = false) ∧
  (∀ (a : Access) (d : Nat) (v : Word) (s : State), Reaches a d 0x70 0x40 s → v.toNat < 160 → loopReason d v.toNat s ≠ 0 →
    ∃ t, exec (.loopEnable a d v) s = .next t ∧ loopOf d v.toNat t = loopOf d v.toNat s ∧
      testBit (word (R.HDR.EVT_STAT_EVT d 0x70).addr t).toNat 0 = true) ∧
  -- DISABLE, AUTO (from MANUAL) and MANUAL.
  (∀ (a : Access) (d : Nat) (v : Word) (s : State), Reaches a d 0x70 0x40 s → v.toNat < 160 → (loopOf d v.toNat s).mode ≠ 0 →
    ∃ t, exec (.loopDisable a d v) s = .next t ∧ loopOf d v.toNat t = { loopOf d v.toNat s with mode := 0 }) ∧
  (∀ (a : Access) (d : Nat) (v : Word) (s : State), Reaches a d 0x70 0x40 s → v.toNat < 160 → (loopOf d v.toNat s).mode = 1 →
    ∃ t, exec (.loopAuto a d v) s = .next t ∧ loopOf d v.toNat t = { loopOf d v.toNat s with mode := 2, fresh := true } ∧
      testBit (rd (R.LOOP.LOOP_AUTO d (v.toNat / 32)) t) (v.toNat % 32) = true) ∧
  (∀ (a : Access) (d : Nat) (v : Word) (s : State), Reaches a d 0x70 0x40 s → v.toNat < 160 → (loopOf d v.toNat s).mode ≠ 0 →
    ∃ t, exec (.loopManual a d v) s = .next t ∧ loopOf d v.toNat t = { loopOf d v.toNat s with mode := 1 } ∧
      testBit (rd (R.LOOP.LOOP_AUTO d (v.toNat / 32)) t) (v.toNat % 32) = false) ∧
  -- UNFENCE where the page holds no fault of class U or above.
  (∀ (a : Access) (d : Nat) (v : Word) (s : State), Reaches a d 0x70 0x40 s → v.toNat < 160 → faultsHold d 0x70 s = false →
    ∃ t, exec (.loopUnfence a d v) s = .next t ∧ UnitId.loop d v.toNat ∉ t.fenced ∧
      testBit (rd (R.LOOP.LOOP_FENCED d (v.toNat / 32)) t) (v.toNat % 32) = false) ∧
  -- The tick, where one context is enabled, in MANUAL, due, and drives no area: its output is MAN_OUT. The tick has run.
  (∀ (d i : Nat) (s : State), i < 160 → blockUp d 0x70 s = true → mapGet (fun _ => 0) s.loopNext d ≤ ltime d s / 20000 →
    enabledLoops d s = [i] → (loopOf d i s).mode = 1 →
    ltime d s / 20000 % periodTicks (eU (loopEntry d i s) 1 1 % 8) = eU (loopEntry d i s) 2 1 → eU (loopEntry d i s) 8 1 ≠ 1 →
    loopKind (loopEntry d i s) ≠ 5 → aregStation d i s = none → s.aregOut = [] →
    ∃ t, exec (.loopTick d) s = .next t ∧ rd (R.LOOP.OUT_U d i) t = rd (R.LOOP.MAN_OUT d i) s ∧
      mapGet (fun _ => 0) t.loopNext d = ltime d s / 20000 + 1) ∧
  -- A coverage message to a die: taken, and its entry is put on every channel that serves its station, has room and has not
  -- passed the course's start (shown for a counter that counts down, where no entry ends by being passed).
  (∀ (d k fsn xc lines level width cpc : Nat) (zones : List Nat) (s : State),
    s.msgs.find? (isCff d) = some (.cff d k fsn xc lines level width cpc zones) → blockUp d 0x70 s = true → dieFenced d s = false →
    (counterOf d (cffCount d s) s).up = false →
    ∃ t, exec (.cffMessage d) s = .next t ∧ t.msgs = s.msgs.erase (.cff d k fsn xc lines level width cpc zones) ∧
      ∀ ch < 8, testBit (rd (R.LOOP.CFF_CFG_STATIONS d ch) s) k = true →
        ((cffOf d ch s).filter (fun y => y.station == k)).length < 4 →
        passedFine (posNow d (cffCount d s) s) (cffFrom d ch ⟨k, fsn, xc, lines, level, width, cpc, zones, false⟩ s) = false →
        cffOf d ch t = cffOf d ch s ++ [⟨k, fsn, xc, lines, level, width, cpc, zones, false⟩]) ∧
  -- A cancel message: the zones of the frame's entries are emptied (shown for a counter that counts down).
  (∀ (d fsn : Nat) (s : State), s.msgs.find? (isCancel d) = some (.cffCancel d fsn) → dieFenced d s = false →
    (counterOf d (cffCount d s) s).up = false →
    ∃ t, exec (.cffCancel d) s = .next t ∧ t.msgs = s.msgs.erase (.cffCancel d fsn) ∧
      ∀ ch < 8, cffOf d ch t = (cffOf d ch s).map (fun x => if x.fsn = fsn then { x with zones := [] } else x))

/-- Process I/O (R424 to R429). -/
def Obligations.ProcessIoCommandsAct : Prop :=
  -- A conversion: an enabled input keeps its last 16 codes. (Its VAL, the mean of the last 2^AVG of them, is shown for a
  -- conversion of the general inputs alone: the monitors' conversions can trip an output.)
  (∀ (d a c : Nat) (ain hvm : List Nat) (s : State), blockUp d 0x71 s = true → a < 16 → ain[a]? = some c → flag (R.PIO.ADC_EN d a) s = true →
    ∃ t, exec (.adcConversion d ain hvm) s = .next t ∧ adcOf d a t = (c % 4096 :: adcOf d a s).take 16 ∧
      (hvm = [] → rd (R.PIO.ADC_VAL d a) t =
        ((((c % 4096 :: adcOf d a s).take 16).take (2 ^ rd (R.PIO.ADC_AVG d a) s)).foldl (· + ·) 0 /
          Nat.max 1 (((c % 4096 :: adcOf d a s).take 16).take (2 ^ rd (R.PIO.ADC_AVG d a) s)).length) % 4096)) ∧
  -- A zero crossing: the interval is taken, and OK reads 1 exactly while the half-period of eight intervals is in its range.
  (∀ (d : Nat) (s : State), blockUp d 0x71 s = true →
    ∃ t, exec (.zeroCross d) s = .next t ∧ (zeroOf d t).last = some s.now ∧
      (∀ t0, (zeroOf d s).last = some t0 → (zeroOf d t).intervals = ((s.now - t0) :: (zeroOf d s).intervals).take 8) ∧
      flag (R.PIO.ZC_STAT_OK d) t = (decide (7690000 ≤ halfPeriod (zeroOf d t)) && decide (halfPeriod (zeroOf d t) ≤ 11110000))) ∧
  -- No edge within 1.5 T_h: OK falls, with the event, and every heater output goes low.
  (∀ (d t0 : Nat) (s : State), blockUp d 0x71 s = true → (zeroOf d s).last = some t0 → 3 * halfPeriod (zeroOf d s) < 2 * (s.now - t0) →
    flag (R.PIO.ZC_STAT_OK d) s = true →
    ∃ t, exec (.zeroCrossLost d) s = .next t ∧ flag (R.PIO.ZC_STAT_OK d) t = false ∧
      testBit (word (R.HDR.EVT_STAT_EVT d 0x71).addr t).toNat 0 = true ∧ ∀ h < 4, (heaterOf d h t).high = none) ∧
  -- An edge of a pin: its level is taken, and its event is set where it is enabled.
  (∀ (d g : Nat) (level : Bool) (s : State), blockUp d 0x78 s = true → g < 32 → testBit (gpioOf d s).seen g ≠ level →
    ∃ t, exec (.gpioEdge d g level) s = .next t ∧ testBit (gpioOf d t).seen g = level ∧
      ((if level then flag (R.GPIO.PIN_CFG_EV_RISE d g) s else flag (R.GPIO.PIN_CFG_EV_FALL d g) s) = true →
        testBit (word (R.HDR.EVT_STAT_EVT d 0x78).addr t).toNat g = true)) ∧
  -- SET and CLR act on the pins of FUNC 1 that they name.
  (∀ (a : Access) (d : Nat) (v : Word) (s : State), Reaches a d 0x78 0x48 s →
    ∃ t, exec (.gpioSet a d v) s = .next t ∧ ∀ g < 32, testBit (rd (R.GPIO.GPIO_OUT_LEVEL d) t) g =
      if rd (R.GPIO.PIN_CFG_FUNC d g) s = 1 then testBit (rd (R.GPIO.GPIO_OUT_LEVEL d) s) g || testBit v.toNat g
      else testBit (rd (R.GPIO.GPIO_OUT_LEVEL d) s) g) ∧
  (∀ (a : Access) (d : Nat) (v : Word) (s : State), Reaches a d 0x78 0x4C s →
    ∃ t, exec (.gpioClr a d v) s = .next t ∧ ∀ g < 32, testBit (rd (R.GPIO.GPIO_OUT_LEVEL d) t) g =
      if rd (R.GPIO.PIN_CFG_FUNC d g) s = 1 then testBit (rd (R.GPIO.GPIO_OUT_LEVEL d) s) g && !testBit v.toNat g
      else testBit (rd (R.GPIO.GPIO_OUT_LEVEL d) s) g) ∧
  -- A splice that counts is recorded as of the raw edge, FILT µs ago.
  (∀ (d : Nat) (s : State), blockUp d 0x78 s = true → flag (R.GPIO.SPLICE_CFG_EN d) s = true →
    ∃ t, exec (.spliceDetect d) s = .next t ∧
      rd (R.GPIO.SPLICE_CNT_COUNT d) t = Nat.min (rd (R.GPIO.SPLICE_CNT_COUNT d) s + 1) 65535 ∧
      rd (R.GPIO.SPLICE_POS_LO_P d) t = (counterOf d (rd (R.GPIO.SPLICE_CFG_COUNTER d) s) s).posAt
        (counterC d s - 1000 * rd (R.GPIO.PIN_CFG_FILT d (rd (R.GPIO.SPLICE_CFG_PIN d) s)) s) % 4294967296)

/-- The Ethernet ports of D0 (R435 to R450). -/
def Obligations.EthernetCommandsAct : Prop :=
  -- A frame with a bad FCS or length is dropped and counted in RX_ERR.
  (∀ (p : Nat) (frame : List Sys2Proof.Byte) (sound : Bool) (s : State), ethUp p s = true →
    (sound = false ∨ frame.length < 64 ∨ 2048 < frame.length) →
    ∃ t, exec (.ethFrameReceive p frame sound) s = .next t ∧
      rd (R.ELNK.RX_ERR_COUNT 0 p) t = Nat.min (rd (R.ELNK.RX_ERR_COUNT 0 p) s + 1) 65535) ∧
  -- A sound frame for the port that is no Sync: delivered where a descriptor is posted, else dropped and counted.
  (∀ (p : Nat) (frame : List Sys2Proof.Byte) (s : State), ethUp p s = true → 64 ≤ frame.length → frame.length ≤ 2048 →
    (∀ o, ptpAt frame = some o → isSync frame o = false) → ethAccepts p frame s = true →
    ∃ t, exec (.ethFrameReceive p frame true) s = .next t ∧
      (rxDesc p s ≠ none → rd (R.ELNK.RX_OK_COUNT 0 p) t = Nat.min (rd (R.ELNK.RX_OK_COUNT 0 p) s + 1) 4294967295 ∧
        testBit (word (R.HDR.EVT_STAT_EVT 0 0x31).addr t).toNat 0 = true) ∧
      (rxDesc p s = none → rd (R.ELNK.RX_DROP_COUNT 0 p) t = Nat.min (rd (R.ELNK.RX_DROP_COUNT 0 p) s + 1) 65535)) ∧
  -- RX_KICK: the receive ring is looked at again. TX_KICK does the same for a transmit queue (seen while the port sends).
  (∀ (a : Access) (p : Nat) (v : Word) (s : State), p < 2 → Reaches a 0 0x31 (0x118 + 0x100 * p) s →
    ∃ t, exec (.rxKick a p v) s = .next t ∧ 8 ∉ (ethOf p t).stopped) ∧
  (∀ (a : Access) (p : Nat) (v : Word) (s : State), p < 2 → Reaches a 0 0x31 (0x114 + 0x100 * p) s → (ethOf p s).run ≠ none →
    ∃ t, exec (.txKick a p v) s = .next t ∧ (ethOf p t).run = (ethOf p s).run ∧ v.toNat % 8 ∉ (ethOf p t).stopped) ∧
  -- TX_KICK of an idle port whose one posted frame is at the head of that queue, sound and without launch time: it is sent.
  (∀ (a : Access) (p : Nat) (v : Word) (s : State), p < 2 → Reaches a 0 0x31 (0x114 + 0x100 * p) s → ethUp p s = true →
    (ethOf p s).run = none → rd (R.ELNK.TXQ_CFG_SIZE 0 p (v.toNat % 8)) s ≠ 0 →
    (∀ r, r < 8 → r ≠ v.toNat % 8 → txHead p r s = none) →
    testBit (fieldLe (hostRead (txHeadAddr p (v.toNat % 8) s) 32 s) 10 1) 0 = true →
    txSound (hostRead (txHeadAddr p (v.toNat % 8) s) 32 s) = true → txLaunch (hostRead (txHeadAddr p (v.toNat % 8) s) 32 s) = false →
    ∃ t, exec (.txKick a p v) s = .next t ∧ ∃ r, (ethOf p t).run = some r ∧ r.q = v.toNat % 8 ∧
      r.desc = hostRead (txHeadAddr p (v.toNat % 8) s) 32 s ∧ r.status = 0) ∧
  -- A launch time that has come, the highest queue first: sent, with status 2 where it is later than LATE_TOL allows.
  (∀ (p q : Nat) (b : List Sys2Proof.Byte) (s : State), ethUp p s = true → (ethOf p s).run = none → q < 8 → txHead p q s = some b →
    txLaunch b = true → fieldLe b 16 8 ≤ masterNs s → (∀ r, r < 8 → q < r → txHead p r s = none) → txSound b = true →
    (masterNs s ≤ fieldLe b 16 8 + rd (R.ELNK.LATE_TOL_NS 0 p) s ∨ testBit (fieldLe b 10 1) 4 = false) →
    ∃ t, exec (.ethLaunch p q) s = .next t ∧ ∃ r, (ethOf p t).run = some r ∧ r.q = q ∧ r.desc = b ∧
      r.status = if masterNs s ≤ fieldLe b 16 8 + rd (R.ELNK.LATE_TOL_NS 0 p) s then 0 else 2) ∧
  -- A frame sent: it is on the wire, counted, and the queue goes on.
  (∀ (p q : Nat) (r : TxRun) (s : State), p < 2 → q < 8 → (ethOf p s).run = some r → r.q = q → r.finish ≤ s.now →
    ∃ t, exec (.ethFrameSent p q false) s = .next t ∧
      Sent.eth p (txFrame r.desc (hostRead (fieldLe r.desc 0 8) (fieldLe r.desc 8 2) s) r.stamp) ∈ t.sent ∧
      rd (R.ELNK.TX_OK_COUNT 0 p) t = Nat.min (rd (R.ELNK.TX_OK_COUNT 0 p) s + 1) 4294967295) ∧
  -- No Sync for SYNC_TMO: holdover.
  (∀ (s : State), blockUp 0 0x31 s = true → s.syncAt.getD 0 + 1000000 * rd (R.ELNK.SYNC_TMO_MS 0) s ≤ s.now →
    flag (R.ELNK.HOLD_STAT_HOLDOVER 0) s = false →
    ∃ t, exec .syncTimeout s = .next t ∧ flag (R.ELNK.HOLD_STAT_HOLDOVER 0) t = true ∧
      testBit (word (R.HDR.EVT_STAT_EVT 0 0x31).addr t).toNat 2 = true)

/-- The master time of D0 and the local time of the dies (R437 to R445). -/
def Obligations.TimeCommandsAct : Prop :=
  -- INCR: the pair is taken, an increment outside 2 ns ± 250 ppm as the nearer bound. ADJ adds its nanoseconds. GO loads.
  (∀ (a : Access) (v : Word) (s : State), Reaches a 0 0x32 0x90 s →
    ∃ t, exec (.timeIncr a v) s = .next t ∧
      t.master.newIncr = some (Nat.max 8587787043 (Nat.min 8592082141 (rd (R.TIME.INCR_FRAC_FRAC 0) s + 4294967296 * v.toNat)))) ∧
  (∀ (a : Access) (v : Word) (s : State), Reaches a 0 0x32 0x94 s →
    ∃ t, exec (.timeAdj a v) s = .next t ∧ t.master.adj = some (s.master.adj.getD 0 + toSigned 32 v.toNat)) ∧
  (∀ (a : Access) (v : Word) (s : State), Reaches a 0 0x32 0xA4 s →
    ∃ t, exec (.timeSet a v) s = .next t ∧ t.master.load = true) ∧
  -- A refresh to every die carries the master time.
  (∀ s : State, ∃ t, exec .timeRefreshSend s = .next t ∧
    t.msgs = s.msgs ++ (List.range s.dies).map (fun d => .refresh d s.master.sec s.master.ns s.master.frac)) ∧
  -- A refresh that arrives: within STEP_THR the local time stays as it is and takes the slewing rate; beyond it, it steps.
  (∀ (d sec ns frac T : Nat) (e : Int) (s : State), s.msgs.find? (isRefresh d) = some (.refresh d sec ns frac) → dieUp d s = true →
    dieFenced d s = false → T = sec * 1000000000 + ns + (if d = 0 then 0 else rd (R.TIME.MORT_LAT_NS d) s) →
    e = toSigned 64 (ltime d s + 18446744073709551616 - T % 18446744073709551616) →
    ∃ t, exec (.timeRefresh d) s = .next t ∧ t.msgs = s.msgs.erase (.refresh d sec ns frac) ∧ rd (R.TIME.SYNC_STAT_MISSED d) t = 0 ∧
      (e.natAbs ≤ 1000 * rd (R.TIME.SYNC_CFG_STEP_THR d) s → ltime d t = ltime d s ∧ (clockOf d t).rk = slewRate s.master.incr e) ∧
      (1000 * rd (R.TIME.SYNC_CFG_STEP_THR d) s < e.natAbs → ltime d t = T % 18446744073709551616 ∧ (clockOf d t).rk = slewRate s.master.incr 0 ∧
        testBit (word (R.HDR.EVT_STAT_EVT d 0x32).addr t).toNat 1 = true)) ∧
  -- A refresh missed: counted; at MISS_LIM the event (and the fault).
  (∀ (d : Nat) (s : State), dieUp d s = true →
    ∃ t, exec (.timeRefreshMiss d) s = .next t ∧
      rd (R.TIME.SYNC_STAT_MISSED d) t = Nat.min (rd (R.TIME.SYNC_STAT_MISSED d) s + 1) 255 ∧
      (rd (R.TIME.SYNC_STAT_MISSED d) s + 1 = rd (R.TIME.SYNC_CFG_MISS_LIM d) s →
        testBit (word (R.HDR.EVT_STAT_EVT d 0x32).addr t).toNat 2 = true)) ∧
  -- Reads that latch the upper part: of the local time, the counter, the master time and a position count.
  (∀ (a : Access) (d : Nat) (s : State), Answers a d 0x32 s →
    ∃ t, exec (.ltLoRead a d) s = .next t ∧ t.resp.value.toNat = ltime d s % 4294967296 ∧
      rd (R.TIME.LT_HI_LTIME d) t = ltime d s / 4294967296) ∧
  (∀ (a : Access) (d : Nat) (s : State), Answers a d 0x32 s →
    ∃ t, exec (.frcLoRead a d) s = .next t ∧ t.resp.value.toNat = counterC d s % 4294967296 ∧
      rd (R.TIME.FRC_HI_COUNT d) t = counterC d s / 4294967296 % 4294967296) ∧
  (∀ (a : Access) (s : State), Answers a 0 0x32 s →
    ∃ t, exec (.mtNsRead a) s = .next t ∧ t.resp.value.toNat = s.master.ns % 4294967296 ∧
      rd (R.TIME.MT_SEC_LO_SEC 0) t = s.master.sec % 4294967296 ∧ rd (R.TIME.MT_SEC_HI_SEC 0) t = s.master.sec / 4294967296 % 65536) ∧
  (∀ (a : Access) (d c : Nat) (s : State), c < 8 → Answers a d 0x60 s →
    ∃ t, exec (.posLoRead a d c) s = .next t ∧ t.resp.value.toNat = (counterOf d c s).count % 4294967296 ∧
      rd (R.CUE.POS_HI_COUNT d c) t = (counterOf d c s).count / 4294967296 % 65536)

/-- Page memory (R455, R456, R458, R460, R463): training, the BAR4 aperture and the scrub. -/
def Obligations.MemoryCommandsAct : Prop :=
  -- INIT in state 0 or 4 starts training.
  (∀ (a : Access) (d : Nat) (v : Word) (s : State), Reaches a d 0x38 0x44 s →
    (rd (R.MEMC.MSTAT_STATE d) s = 0 ∨ rd (R.MEMC.MSTAT_STATE d) s = 4) →
    ∃ t, exec (.memInit a d v) s = .next t ∧ rd (R.MEMC.MSTAT_STATE d) t = 1) ∧
  -- Training done: the memory is ready, with the units DENSITY and RANKS give, and event 0.
  (∀ (d : Nat) (s : State), domainReady d 7 s = true → rd (R.MEMC.MSTAT_STATE d) s = 1 →
    ∃ t, exec (.memTrainDone d true) s = .next t ∧ rd (R.MEMC.MSTAT_STATE d) t = 2 ∧
      rd (R.MEMC.MSTAT_FITTED d) t = 15 * 2 ^ rd (R.MEMC.MCFG_DENSITY d) s * (rd (R.MEMC.MCFG_RANKS d) s + 1) % 256 ∧
      testBit (word (R.HDR.EVT_STAT_EVT d 0x38).addr t).toNat 0 = true) ∧
  -- A BAR4 read of sound, reachable memory answers its bytes.
  (∀ (off len : Nat) (s : State), memFault (aperture off s) len s = none → badIn (aperture off s) len s = none →
    ∃ t, exec (.bar4Read off len 0) s = .next t ∧ t.resp.poison = false ∧
      t.resp.bytes = (List.range len).map (fun i => memGet (aperture off s + i) s)) ∧
  -- A BAR4 write: the enabled bytes are written, every other byte of page memory stands.
  (∀ (off : Nat) (bytes : List Sys2Proof.Byte) (en : List Bool) (ue : Bool) (s : State), memFault (aperture off s) bytes.length s = none →
    en.length = bytes.length →
    ∃ t, exec (.bar4Write off bytes en ue) s = .next t ∧
      (∀ i, i < bytes.length → memGet (aperture off s + i) t = if en.getD i false then bytes.getD i 0 else memGet (aperture off s + i) s) ∧
      (∀ x, x < aperture off s ∨ aperture off s + bytes.length ≤ x → memGet x t = memGet x s)) ∧
  -- A scrub read that finds the block sound goes on to the next block; the last one ends the pass and counts it.
  (∀ (d : Nat) (s : State), memReady d s = true → flag (R.MEMC.SCRUB_CFG_EN d) s = true → backgroundDeferred d s = false →
    fittedBytes d s ≠ 0 → s.badBlocks.contains ((d * 0x1000000000 + 32 * (scrubOf d s).pos) / 32) = false →
    s.now ≤ (scrubOf d s).start + rd (R.MEMC.SCRUB_CFG_INTERVAL d) s * 3600000000000 →
    ∃ t, exec (.scrubRead d 0) s = .next t ∧
      (32 * ((scrubOf d s).pos + 1) < fittedBytes d s → (scrubOf d t).pos = (scrubOf d s).pos + 1) ∧
      (fittedBytes d s ≤ 32 * ((scrubOf d s).pos + 1) → (scrubOf d t).pos = 0 ∧
        rd (R.MEMC.SCRUB_STAT_PASSES d) t = Nat.min (rd (R.MEMC.SCRUB_STAT_PASSES d) s + 1) 65535))

/-- The DMA channels (R464, R465, R468, R469, R471, R493). -/
def Obligations.DmaCommandsAct : Prop :=
  -- EN from 0 to 1: the channel runs from entry 0 of its ring.
  (∀ (a : Access) (d n : Nat) (v : Word) (s : State), n < 8 → Reaches a d 0x39 (0x10C + 0x40 * n) s → isFenced (.dma d n) s = false →
    flag (R.DMA.CTL_EN d n) s = false → v.toNat % 8 = 1 →
    ∃ t, exec (.dmaEnable a d n v) s = .next t ∧ flag (R.DMA.CTL_EN d n) t = true ∧ rd (R.DMA.STAT_STATE d n) t = 1 ∧
      rd (R.DMA.STAT_NEXT d n) t = 0) ∧
  -- KICK of a channel that waits (state 2): it reads its next descriptor again.
  (∀ (a : Access) (d n : Nat) (v : Word) (s : State), n < 8 → Reaches a d 0x39 (0x10C + 0x40 * n) s → isFenced (.dma d n) s = false →
    flag (R.DMA.CTL_EN d n) s = true → rd (R.DMA.STAT_STATE d n) s = 2 → testBit v.toNat 0 = true → testBit v.toNat 2 = false →
    ∃ t, exec (.dmaKick a d n v) s = .next t ∧ rd (R.DMA.STAT_STATE d n) t = 1) ∧
  -- ABORT: no descriptor stays in work; a channel without one stops at once.
  (∀ (a : Access) (d n : Nat) (v : Word) (s : State), n < 8 → Reaches a d 0x39 (0x10C + 0x40 * n) s → isFenced (.dma d n) s = false →
    ∃ t, exec (.dmaAbort a d n v) s = .next t ∧ (dmaOf d n t).cur = none ∧
      ((dmaOf d n s).cur = none → flag (R.DMA.CTL_EN d n) t = false ∧ rd (R.DMA.STAT_STATE d n) t = 0)) ∧
  -- UNFENCE of a fenced channel whose faults are clear.
  (∀ (a : Access) (d n : Nat) (v : Word) (s : State), n < 8 → Reaches a d 0x39 (0x10C + 0x40 * n) s → UnitId.dma d n ∈ s.fenced →
    faultsHold d 0x39 s = false →
    ∃ t, exec (.dmaUnfence a d n v) s = .next t ∧ UnitId.dma d n ∉ t.fenced) ∧
  -- A descriptor of a host ring is read: with OWN 0 the channel waits, with OWN 1 and sound it is in work.
  (∀ (d n : Nat) (s : State), blockUp d 0x39 s = true → n < 8 → isFenced (.dma d n) s = false → flag (R.DMA.CTL_EN d n) s = true →
    rd (R.DMA.STAT_STATE d n) s = 1 → (dmaOf d n s).cur = none → dmaHostRing d n s = true →
    ∃ t, exec (.dmaDescriptorFetch d n false) s = .next t ∧
      ((parseDma (hostRead (dmaRing d n s + 32 * rd (R.DMA.STAT_NEXT d n) s) 32 s)).own = false → rd (R.DMA.STAT_STATE d n) t = 2) ∧
      ((parseDma (hostRead (dmaRing d n s + 32 * rd (R.DMA.STAT_NEXT d n) s) 32 s)).own = true →
        (dmaCheck (parseDma (hostRead (dmaRing d n s + 32 * rd (R.DMA.STAT_NEXT d n) s) 32 s)) s).1 = 0 →
        (dmaOf d n t).cur = some (hostRead (dmaRing d n s + 32 * rd (R.DMA.STAT_NEXT d n) s) 32 s) ∧
          (dmaOf d n t).tbl = (dmaCheck (parseDma (hostRead (dmaRing d n s + 32 * rd (R.DMA.STAT_NEXT d n) s) 32 s)) s).2.1)) ∧
  -- The transfer of a descriptor ends once the token bucket has let its reads go: the channel has none in work; a sound one
  -- leaves the data moved and status 0 written back.
  (∀ (d n : Nat) (b : List Sys2Proof.Byte) (s : State), (dmaOf d n s).cur = some b → blockUp d 0x39 s = true → n < 8 →
    isFenced (.dma d n) s = false → (dmaOf d n (dmaSettle d n s)).left = 0 →
    ∃ t, exec (.dmaDescriptorComplete d n false false) s = .next t ∧ (dmaOf d n t).cur = none ∧
      ((dmaTransfer (parseDma b) (dmaOf d n s).tbl false s).1 = 0 → (dmaWriteBack d n (dmaOf d n s).addr 0 b (dmaTransfer (parseDma b) (dmaOf d n s).tbl false s).2).1 = true →
        rd (R.DMA.STAT_LAST d n) t = 0 ∧ t.mem = (dmaWriteBack d n (dmaOf d n s).addr 0 b (dmaTransfer (parseDma b) (dmaOf d n s).tbl false s).2).2.mem ∧
        t.host = (dmaWriteBack d n (dmaOf d n s).addr 0 b (dmaTransfer (parseDma b) (dmaOf d n s).tbl false s).2).2.host))

/-- The power domains of a die (R501 to R504): what the three commands leave. -/
def Obligations.DomainCommandsAct : Prop :=
  -- A domain that is powering up and is still wanted is up.
  (∀ (d dom : Nat) (s : State), dieUp d s = true → dom < 14 → domSt d dom s = 1 → domWanted d dom s = true →
    ∃ t, exec (.domainPowerUp d dom) s = .next t ∧ domSt d dom t = 2) ∧
  -- A domain that nothing wants, with every domain that needs it off, and not held by a frame or a decided transaction, goes down.
  (∀ (d dom : Nat) (s : State), dieUp d s = true → 3 ≤ dom → dom < 14 → domSt d dom s ≠ 0 → domWanted d dom s = false →
    domFree d dom s = true → domBusy d dom s = false → decidedIn d dom s = false →
    ∃ t, exec (.domainPowerDown d dom) s = .next t ∧ domSt d dom t ≠ 2) ∧
  -- Held, it stays as it is.
  (∀ (d dom : Nat) (s : State), dieUp d s = true → 3 ≤ dom → dom < 14 → domSt d dom s = 2 → domWanted d dom s = false →
    domFree d dom s = true → domBusy d dom s = true →
    ∃ t, exec (.domainPowerDown d dom) s = .next t ∧ domSt d dom t = 2) ∧
  -- 20 µs without power good: the domain is off and failed.
  (∀ (d dom : Nat) (s : State), dieUp d s = true → dom < 14 → domSt d dom s = 1 → (domainOf d dom s).since + 20000 ≤ s.now →
    ∃ t, exec (.domainPowerTimeout d dom) s = .next t ∧ domSt d dom t = 0 ∧ (domainOf d dom t).failed = true)

/-- The rail sequencer (R505 to R510) and the input supply (R511 to R513). -/
def Obligations.RailCommandsAct : Prop :=
  -- The host's requests.
  (∀ (a : Access) (v : Word) (s : State), Reaches a 0 0x13 0x44 s →
    ∃ t, exec (.railRequest a v) s = .next t ∧ rd (R.SEQ.RAIL_REQ_REQ 0) t = v.toNat % 16777216) ∧
  -- RAIL_CLR: a FAILED slot whose bit is written goes to OFF.
  (∀ (a : Access) (n : Nat) (v : Word) (s : State), n < 24 → Reaches a 0 0x13 0x50 s → testBit v.toNat n = true → railSt n s = 7 →
    ∃ t, exec (.railClear a v) s = .next t ∧ railSt n t = 0 ∧ flag (R.SEQ.RSTAT_EN 0 n) t = false) ∧
  -- A step: the rows of R508 for OFF, WAIT, an ON slot that is due down and free, and DOWN.
  (∀ (n : Nat) (s : State), n < 24 → ∃ t, exec (.railSeqStep []) s = .next t ∧
    (railSt n s = 0 → railWanted n s = true → railSt n t = 1) ∧
    (railSt n s = 1 → railWanted n s = false → railSt n t = 0) ∧
    (railSt n s = 1 → railWanted n s = true → railReady n s = true → railSt n t = 2 ∧ flag (R.SEQ.RSTAT_EN 0 n) t = true) ∧
    (railSt n s = 4 → railDueDown n s = true → railFree n s = true → railSt n t = 5 ∧ flag (R.SEQ.RSTAT_EN 0 n) t = false) ∧
    ((railSt n s = 2 ∨ railSt n s = 3) → railDueDown n s = true → railSt n t = 5 ∧ flag (R.SEQ.RSTAT_EN 0 n) t = false) ∧
    (railSt n s = 5 → flag (R.SEQ.RSTAT_PG 0 n) s = false → railSt n t = 6)) ∧
  -- The level of a power-good pin.
  (∀ (n : Nat) (level : Bool) (s : State), n < 24 →
    ∃ t, exec (.railPgChange n level) s = .next t ∧ flag (R.SEQ.RSTAT_PG 0 n) t = level) ∧
  -- Good throughout QUAL, in time and not due down: the slot is ON.
  (∀ (n : Nat) (s : State), n < 24 → railSt n s = 3 → railQualified n s = true → railGood n s = true → railDueDown n s = false →
    railTimedOut n s = false →
    ∃ t, exec (.railQualifyDone n) s = .next t ∧ railSt n t = 4 ∧ flag (R.SEQ.RSTAT_EN 0 n) t = true ∧
      testBit (rd (R.SEQ.RAIL_ON_MASK 0) t) n = true) ∧
  -- TIMEOUT in RAMP or QUALIFY: FAILED, the enable withdrawn.
  (∀ (n : Nat) (s : State), n < 24 → (railSt n s = 2 ∨ railSt n s = 3) → railTimedOut n s = true → railDueDown n s = false →
    ∃ t, exec (.railTimeout n) s = .next t ∧ railSt n t = 7 ∧ flag (R.SEQ.RSTAT_EN 0 n) t = false ∧
      testBit (rd (R.SEQ.RAIL_FAILED_MASK 0) t) n = true) ∧
  -- Longer than TIMEOUT in DOWN: the slot stays there, and the fault is raised once.
  (∀ (n : Nat) (s : State), n < 24 → railSt n s = 5 → (railOf n s).late = false →
    (railOf n s).since + 10000 * rd (R.SEQ.RTIME_TIMEOUT 0 n) s < s.now →
    ∃ t, exec (.railDownTimeout n) s = .next t ∧ railSt n t = 5 ∧ (railOf n t).late = true) ∧
  -- MINOFF over: OFF.
  (∀ (n : Nat) (s : State), n < 24 → railSt n s = 6 → railMinOff n s = true →
    ∃ t, exec (.railMinoffEnd n) s = .next t ∧ railSt n t = 0) ∧
  -- The input supply trips, and recovers.
  (∀ (code : Nat) (s : State), flag (R.SEQ.VIN_STAT_TRIP 0) s = false →
    ∃ t, exec (.vinTrip code) s = .next t ∧ flag (R.SEQ.VIN_STAT_TRIP 0) t = true ∧ rd (R.SEQ.VIN_STAT_CODE 0) t = code % 4096 ∧
      testBit (word (R.HDR.EVT_STAT_EVT 0 0x13).addr t).toNat 3 = true) ∧
  (∀ (code : Nat) (s : State), flag (R.SEQ.VIN_STAT_TRIP 0) s = true →
    ∃ t, exec (.vinRecover code) s = .next t ∧ flag (R.SEQ.VIN_STAT_TRIP 0) t = false ∧ rd (R.SEQ.VIN_STAT_CODE 0) t = code % 4096 ∧
      (∀ d, d < s.dies → flag (R.NVS.NV_STAT_VIN_BLOCK d) t = false) ∧
      testBit (word (R.HDR.EVT_STAT_EVT 0 0x13).addr t).toNat 4 = true)

/-- The NV store and its log (R513, R514, R517) and the die temperatures (R519). -/
def Obligations.StoreAndThermalCommandsAct : Prop :=
  -- SNAP: a record is asked for at once, or waits behind the one that is being written.
  (∀ (a : Access) (v : Word) (s : State), Reaches a 0 0x15 0x58 s →
    ∃ t, exec (.logSnap a v) s = .next t ∧ (s.logBusy = none → t.logBusy = some (7, 0)) ∧
      (s.logBusy ≠ none → s.logWait = none → t.logWait = some (7, 0))) ∧
  -- A record is written: its bytes stand in the slot of its sequence number, and the record that waited is next.
  (∀ (cause info : Nat) (s : State), s.logBusy = some (cause, info) → flag (R.NVS.NV_STAT_VIN_BLOCK 0) s = false →
    ∃ t, exec .logRecordWrite s = .next t ∧ t.logSeq = (s.logSeq + 1) % 4294967296 ∧ t.logBusy = s.logWait ∧ t.logWait = none ∧
      testBit (word (R.HDR.EVT_STAT_EVT 0 0x15).addr t).toNat 0 = true ∧
      ∀ i, i < ((logRecord cause info s.logSeq s).1 ++ (logRecord cause info s.logSeq s).2).length →
        nvGet 0 (0x180000 + 256 * (s.logSeq % 1024) + i) t =
          ((logRecord cause info s.logSeq s).1 ++ (logRecord cause info s.logSeq s).2).getD i 0) ∧
  -- A host write of a word of the window that lands, and one that is dropped and counted.
  (∀ (a : Access) (d off be : Nat) (v : Word) (s : State), accessDown a s = false → a.bar2 = false → d < 8 → d < s.dies →
    dieAnswers d s = true → dieFenced d s = false → domSt d 0 s = 2 → off < 0x200000 → off % 4 = 0 → be % 16 = 15 →
    ∃ t, exec (.nvWrite a d off v be) s = .next t ∧
      (flag (R.NVS.NV_CTL_WEN d) s = true → flag (R.NVS.NV_STAT_VIN_BLOCK d) s = false → nvProtected d off = false →
        ∀ i, i < 4 → nvGet d (off + i) t = BitVec.ofNat 8 (v.toNat / 256 ^ i)) ∧
      ((flag (R.NVS.NV_CTL_WEN d) s = false ∨ flag (R.NVS.NV_STAT_VIN_BLOCK d) s = true ∨ nvProtected d off = true) →
        t.nv = s.nv ∧ testBit (word (R.HDR.EVT_STAT_EVT d 0x15).addr t).toNat 1 = true)) ∧
  -- A temperature sample that is sound is the die's latest valid one; a broken one is marked.
  (∀ (d : Nat) (raw : Int) (s : State), d < s.dies →
    ∃ t, exec (.tempSample d raw) s = .next t ∧
      (sampleBroken d raw s = false → (thermalOf d t).valid = some (raw, s.now) ∧ (thermalOf d t).broken = false) ∧
      (sampleBroken d raw s = true → (thermalOf d t).valid = (thermalOf d s).valid ∧ (thermalOf d t).broken = true))

/-- Cold reset and the release of the dies (R529, R536, R538, R541, R545, R547). -/
def Obligations.ColdReleaseCommandsAct : Prop :=
  -- Power on, brown-out and D0_RESET_N low for 1 µs or more: every die is in cold reset, every fence and the safe stop are gone,
  -- and the cause register of every die holds the one bit of this cause.
  (∀ (d : Nat) (s : State), d < s.dies → ∃ t, exec .powerOn s = .next t ∧ (releaseOf d t).phase = 1 ∧ (releaseOf d t).cold = true ∧
    t.fenced = [] ∧ t.safeStop = false ∧ rd (R.RST.RST_CAUSE_CAUSE d) t = 1) ∧
  (∀ (d : Nat) (s : State), d < s.dies → ∃ t, exec .brownOut s = .next t ∧ (releaseOf d t).phase = 1 ∧ (releaseOf d t).cold = true ∧
    t.fenced = [] ∧ t.safeStop = false ∧ rd (R.RST.RST_CAUSE_CAUSE d) t = 2) ∧
  (∀ (d ns : Nat) (s : State), d < s.dies → 1000 ≤ ns → ∃ t, exec (.resetPin ns) s = .next t ∧ (releaseOf d t).phase = 1 ∧
    (releaseOf d t).cold = true ∧ t.fenced = [] ∧ t.safeStop = false ∧ rd (R.RST.RST_CAUSE_CAUSE d) t = 4) ∧
  -- Low for less than 500 ns: nothing.
  (∀ (ns : Nat) (s : State), ns < 500 → exec (.resetPin ns) s = .next s) ∧
  -- The straps are sampled, and every die goes on to its reference check.
  (∀ (boot clkm prof : Nat) (legacy : Bool) (s : State), (releaseOf 0 s).phase = 1 →
    ∃ t, exec (.strapSample boot clkm prof legacy) s = .next t ∧
      t.straps = ⟨boot % 8, clkm % 4, prof % 8, legacy, decide (5 ≤ boot % 8) || decide (clkm % 4 = 3) || decide (prof % 8 = 7)⟩ ∧
      ∀ d, d < s.dies → (releaseOf d t).phase = 3 ∧ (releaseOf d t).refCheck = true) ∧
  -- The reference is good: the die waits for its PLLs, or for the mortar where they are locked; bad for 10 ms: the error pin holds.
  (∀ (d : Nat) (s : State), d < s.dies → (releaseOf d s).phase = 3 →
    ∃ t, exec (.referenceCheck d true) s = .next t ∧ flag (R.CLK.CLK_STAT_REF_OK d) t = true ∧
      (releaseOf d t).phase = if pllsLocked d t then 5 else 4) ∧
  (∀ (d at_ : Nat) (s : State), d < s.dies → (releaseOf d s).phase = 3 → s.strapsAt = some at_ → at_ + 10000000 ≤ s.now →
    ∃ t, exec (.referenceCheck d false) s = .next t ∧ t.errAonHold = true) ∧
  -- A PLL that is locking has locked; the last one of a die in release sends it on to the mortar.
  (∀ (d p : Nat) (s : State), d < s.dies → p < 4 → (rd (R.CLK.PLL_STAT_STATE d p) s = 1 ∨ rd (R.CLK.PLL_STAT_STATE d p) s = 3) →
    flag (R.CLK.CLK_STAT_REF_OK d) s = true →
    ∃ t, exec (.pllLock d p) s = .next t ∧ rd (R.CLK.PLL_STAT_STATE d p) t = 2 ∧
      (releaseOf d t).phase = if (releaseOf d s).phase = 4 ∧ pllsLocked d t = true then 5 else (releaseOf d s).phase) ∧
  -- The mortar is trained: its links are not fenced, and the die waits for its islands.
  (∀ (d lat : Nat) (s : State), d < s.dies → (releaseOf d s).phase = 5 →
    ∃ t, exec (.mortarTrained d lat) s = .next t ∧ (releaseOf d t).phase = 6 ∧ (∀ i, i ∈ linksOf d s → i ∉ t.linksFenced) ∧
      (d ≠ 0 → rd (R.TIME.MORT_LAT_NS d) t = lat % 65536) ∧ domSt d 0 t = 2 ∧ domSt d 1 t = 2) ∧
  -- An island whose domain is on is released; the last of a die's first islands ends its reset.
  (∀ (d isl : Nat) (s : State), d < s.dies → isl < 14 → domSt d isl s = 2 → (domainOf d isl s).rel = false → (releaseOf d s).phase = 9 →
    ∃ t, exec (.islandRelease d isl) s = .next t ∧ (domainOf d isl t).rel = true) ∧
  (∀ (d isl : Nat) (s : State), d < s.dies → isl < 14 → domSt d isl s = 2 → (domainOf d isl s).rel = false → (releaseOf d s).phase = 6 →
    (∀ i, i < 3 → i ≠ isl → (domainOf d i s).rel = true) →
    ∃ t, exec (.islandRelease d isl) s = .next t ∧ (releaseOf d t).phase = 9) ∧
  -- 1 ms without a good clock: the island stays held and its wait starts again; on D0's first island the error pin holds.
  (∀ (d isl : Nat) (s : State), d < s.dies → isl < 14 → domSt d isl s = 2 → (domainOf d isl s).rel = false →
    (domainOf d isl s).since + 1000000 ≤ s.now → flag (R.CLK.CLK_STAT_REF_OK d) s = true →
    ∃ t, exec (.clockGoodTimeout d isl) s = .next t ∧ (domainOf d isl t).rel = false ∧ (domainOf d isl t).since = s.now ∧
      (d = 0 → isl = 0 → t.errAonHold = true)) ∧
  -- PCIe is up: a boot that waited for it starts.
  (∀ (s : State), s.pcieUp = false → dieUp 0 s = true →
    ∃ t, exec .pcieReady s = .next t ∧ t.pcieUp = true ∧
      (s.bootWaits = true → t.bootWaits = false ∧ rd (R.RST.BOOT_STAT_STATE 0) t = if s.straps.bootCode = 0 then 0 else 1))

/-- Warm resets, watchdogs and clock failures (R529 to R535, R546 to R548). A source of package scope resets every die; the
others reset theirs. -/
def Obligations.WarmResetCommandsAct : Prop :=
  -- SOFTWARE_RESET with the key: the die goes into reset for 10 µs; with SCOPE, or on D0, the package does and safe stop ends.
  (∀ (a : Access) (d : Nat) (v : Word) (s : State), Reaches a d 0x10 0x40 s → bitsOf v.toNat 8 8 = 0xA5 → coldRunning s = false →
    ∃ t, exec (.softwareReset a d v) s = .next t ∧ (releaseOf d t).phase = 0 ∧ (releaseOf d t).due = s.now + 10000 ∧
      (testBit v.toNat 1 = true ∨ d = 0 → t.safeStop = false ∧ ∀ e < s.dies, (releaseOf e t).phase = 0 ∧ (releaseOf e t).pkg = true)) ∧
  -- DIE_WATCHDOG_EXPIRE.
  (∀ (d : Nat) (s : State), dieUp d s = true → flag (R.RST.WDT_CFG_EN d) s = true → coldRunning s = false →
    dogAt d s + 1000000 * rd (R.RST.WDT_CFG_TIMEOUT d) s ≤ s.now →
    ∃ t, exec (.dieWatchdogExpire d) s = .next t ∧ (releaseOf d t).phase = 0 ∧ (releaseOf d t).due = s.now + 10000) ∧
  -- PKG_WATCHDOG_EXPIRE resets every die.
  (∀ (s : State), dieUp 0 s = true → flag (R.RST.PKG_WDT_CFG_EN 0) s = true → coldRunning s = false →
    dogAt 8 s + 1000000 * rd (R.RST.PKG_WDT_CFG_TIMEOUT 0) s ≤ s.now →
    ∃ t, exec .pkgWatchdogExpire s = .next t ∧ ∀ e < s.dies, (releaseOf e t).phase = 0 ∧ (releaseOf e t).pkg = true) ∧
  -- WATCHDOG_KICK and PKG_WATCHDOG_KICK with the key restart the count, and only it.
  (∀ (a : Access) (d : Nat) (v : Word) (s : State), Reaches a d 0x10 0x54 s → v.toNat % 65536 = 0xC0DE →
    ∃ t, exec (.watchdogKick a d v) s = .next t ∧ dogAt d t = s.now ∧ (∀ i, i ≠ d → dogAt i t = dogAt i s) ∧
      t = { s with dogs := t.dogs, landed := t.landed }) ∧
  (∀ (a : Access) (v : Word) (s : State), Reaches a 0 0x10 0x64 s → v.toNat % 65536 = 0xC0DE →
    ∃ t, exec (.pkgWatchdogKick a v) s = .next t ∧ dogAt 8 t = s.now ∧ (∀ i, i ≠ 8 → dogAt i t = dogAt i s) ∧
      t = { s with dogs := t.dogs, landed := t.landed }) ∧
  -- CLOCK_FAILURE: the warm reset that follows is due.
  (∀ (d : Nat) (s : State), d < s.dies → flag (R.CLK.CLK_STAT_REF_OK d) s = true →
    ∃ t, exec (.clockFailure d) s = .next t ∧ t.clkFails = s.clkFails ++ [(d, s.now)]) ∧
  -- CLOCK_FAILURE_WARM_RESET, 10 µs later: the die waits in reset for its reference.
  (∀ (d e : Nat) (s : State), s.clkFails.find? (fun x => x.1 == d) = some (d, e) → e + 10000 ≤ s.now → d < s.dies →
    coldRunning s = false →
    ∃ t, exec (.clockFailureWarmReset d) s = .next t ∧ (releaseOf d t).phase = 0 ∧ (releaseOf d t).refCheck = true) ∧
  -- WARM_RESET_RELEASE goes on with the reference check where it is due, else with the PLLs.
  (∀ (d : Nat) (s : State), d < s.dies → (releaseOf d s).phase = 0 → (releaseOf d s).held = false → (releaseOf d s).due ≤ s.now →
    (thermalOf d s).hot = false →
    ∃ t, exec (.warmResetRelease d) s = .next t ∧ (thermalOf d t).hot = false ∧
      ((releaseOf d s).refCheck = true → releaseOf d t = { releaseOf d s with phase := 3 }) ∧
      ((releaseOf d s).refCheck = false → (releaseOf d t).phase = if pllsLocked d t then 5 else 4)) ∧
  -- PLL_LOCK_LOSS of a die that waits for the mortar or its islands: the release waits for the PLLs again.
  (∀ (d p : Nat) (s : State), d < s.dies → p < 4 → rd (R.CLK.PLL_STAT_STATE d p) s = 2 →
    ∃ t, exec (.pllLockLoss d p) s = .next t ∧
      (releaseOf d t).phase = (if (releaseOf d s).phase = 5 ∨ (releaseOf d s).phase = 6 then 4 else (releaseOf d s).phase) ∧
      (p = 1 → rd (R.CLK.PLL_STAT_STATE d 1) t = 3))

/-- The boot engine (R549 to R553): the check of the image and each record of the second pass. -/
def Obligations.BootCommandsAct : Prop :=
  -- The first pass: an image that is read without an uncorrectable word passes or fails by the order of R552.
  (∀ (s : State), rd (R.RST.BOOT_STAT_STATE 0) s = 1 → dieUp 0 s = true → (imageRead 0 64 s).2.1 = false →
    (imageRead 0 (if fieldLe (imageRead 0 64 s).1 8 4 ≤ bootLimit s then fieldLe (imageRead 0 64 s).1 8 4 else 64) s).2.1 = false →
    ∃ t, exec .bootCheckPass s = .next t ∧
      (imageCode (imageRead 0 64 s).1 (imageRead 0 (if fieldLe (imageRead 0 64 s).1 8 4 ≤ bootLimit s then fieldLe (imageRead 0 64 s).1 8 4 else 64) s).1 s = 0 →
        rd (R.RST.BOOT_STAT_STATE 0) t = 2 ∧ t.boot.pos = 64) ∧
      (imageCode (imageRead 0 64 s).1 (imageRead 0 (if fieldLe (imageRead 0 64 s).1 8 4 ≤ bootLimit s then fieldLe (imageRead 0 64 s).1 8 4 else 64) s).1 s ≠ 0 →
        rd (R.RST.BOOT_STAT_STATE 0) t = 4 ∧ testBit (word (R.HDR.EVT_STAT_EVT 0 0x10).addr t).toNat 1 = true)) ∧
  -- WRITE and MASKED: one register write of the boot engine; TABLE: its words to consecutive addresses.
  (∀ (b : List Sys2Proof.Byte) (s : State), RecordReads 1 b s →
    exec .bootWrite s = .next (regWrite bootAccess (fieldLe b 4 4) (BitVec.ofNat 32 (fieldLe b 8 4)) 15 (bootAdvance b s))) ∧
  (∀ (b : List Sys2Proof.Byte) (r : Nat × State) (s : State), RecordReads 2 b s → readReg bootAccess (fieldLe b 4 4) (bootAdvance b s) = r →
    exec .bootMasked s = .next (regWrite bootAccess (fieldLe b 4 4)
      (BitVec.ofNat 32 ((r.1 &&& (0xFFFFFFFF - fieldLe b 8 4)) ||| (fieldLe b 12 4 &&& fieldLe b 8 4))) 15 r.2)) ∧
  (∀ (b : List Sys2Proof.Byte) (s : State), RecordReads 4 b s → fieldLe b 2 2 = 1 →
    exec .bootTable s = .next (regWrite bootAccess (fieldLe b 4 4) (BitVec.ofNat 32 (fieldLe (b.drop 8) 0 4)) 15 (bootAdvance b s))) ∧
  -- POLL: a match goes past the record; the first miss starts its time, and its end fails the boot.
  (∀ (b : List Sys2Proof.Byte) (s : State), RecordReads 3 b s → ∃ t, exec .bootPoll s = .next t ∧
    ((readReg bootAccess (fieldLe b 4 4) s).1 &&& fieldLe b 8 4 = fieldLe b 12 4 → t.boot.pos = s.boot.pos + b.length ∧ t.boot.pollEnd = none) ∧
    ((readReg bootAccess (fieldLe b 4 4) s).1 &&& fieldLe b 8 4 ≠ fieldLe b 12 4 → s.boot.pollEnd = none →
      t.boot.pos = s.boot.pos ∧ t.boot.pollEnd = some (s.now + 1000 * fieldLe b 16 4))) ∧
  (∀ (b : List Sys2Proof.Byte) (e : Nat) (s : State), RecordReads 3 b s → s.boot.pollEnd = some e → e ≤ s.now →
    ∃ t, exec .bootPollTimeout s = .next t ∧ rd (R.RST.BOOT_STAT_STATE 0) t = 4 ∧ rd (R.RST.BOOT_STAT_CODE 0) t = 6 ∧
      rd (R.RST.BOOT_STAT_RECORD 0) t = s.boot.pos % 16777216 ∧ testBit (word (R.HDR.EVT_STAT_EVT 0 0x10).addr t).toNat 1 = true) ∧
  -- DELAY: the next record waits.
  (∀ (b : List Sys2Proof.Byte) (s : State), RecordReads 5 b s →
    ∃ t, exec .bootDelay s = .next t ∧ t.boot.pos = s.boot.pos + b.length ∧ t.boot.delayEnd = some (s.now + 1000 * fieldLe b 4 4)) ∧
  -- END with the CRC of the first pass: the boot is complete.
  (∀ (b : List Sys2Proof.Byte) (s : State), RecordReads 6 b s → (imageRead s.boot.pos (imageLength s - s.boot.pos) s).2.1 = false →
    Nat.xor (crcFrom 0x82F63B78 (imageRead s.boot.pos (imageLength s - s.boot.pos) s).1 s.boot.crc) 0xFFFFFFFF = fieldLe (imageRead 0 64 s).1 12 4 →
    ∃ t, exec .bootEnd s = .next t ∧ rd (R.RST.BOOT_STAT_STATE 0) t = 3 ∧ testBit (word (R.HDR.EVT_STAT_EVT 0 0x10).addr t).toNat 0 = true)

/-- The TAPs and the fuses (R553 to R556). -/
def Obligations.JtagCommandsAct : Prop :=
  -- A TAP reset: IDCODE is in every instruction register.
  (∀ (s : State), ∃ t, exec .tapReset s = .next t ∧ ∀ d, (tapOf d t).ir = 1) ∧
  -- EXTEST, HIGHZ and CLAMP hold their die in reset while no cold reset runs, and release it when they are replaced.
  (∀ (d : Nat) (s : State), d < s.dies → coldRunning s = false → ∃ t, exec (.jtagExtest d true) s = .next t ∧ (tapOf d t).ir = 0 ∧
    (releaseOf d t).held = true) ∧
  (∀ (d : Nat) (s : State), d < s.dies → coldRunning s = false → ∃ t, exec (.jtagHighz d true) s = .next t ∧ (tapOf d t).ir = 5 ∧
    (releaseOf d t).held = true) ∧
  (∀ (d : Nat) (s : State), d < s.dies → coldRunning s = false → ∃ t, exec (.jtagClamp d true) s = .next t ∧ (tapOf d t).ir = 6 ∧
    (releaseOf d t).held = true) ∧
  (∀ (d : Nat) (s : State), d < s.dies → (tapOf d s).ir = 0 → ∃ t, exec (.jtagExtest d false) s = .next t ∧ (tapOf d t).ir = 0xFF ∧
    (releaseOf d t).held = false) ∧
  (∀ (d : Nat) (s : State), d < s.dies → (tapOf d s).ir = 5 → ∃ t, exec (.jtagHighz d false) s = .next t ∧ (tapOf d t).ir = 0xFF ∧
    (releaseOf d t).held = false) ∧
  (∀ (d : Nat) (s : State), d < s.dies → (tapOf d s).ir = 6 → ∃ t, exec (.jtagClamp d false) s = .next t ∧ (tapOf d t).ir = 0xFF ∧
    (releaseOf d t).held = false) ∧
  -- IDCODE, SAMPLE/PRELOAD, and every code that the table does not list.
  (∀ (d : Nat) (s : State), d < s.dies → ∃ t, exec (.jtagIdcode d) s = .next t ∧ (tapOf d t).ir = 1 ∧
    t.resp.value = BitVec.ofNat 32 (0x171804E7 + 0x1000 * d)) ∧
  (∀ (d : Nat) (s : State), d < s.dies → ∃ t, exec (.jtagSamplePreload d) s = .next t ∧ (tapOf d t).ir = 2) ∧
  (∀ (d code : Nat) (s : State), d < s.dies → code % 256 ∉ [0x00, 0x01, 0x02, 0x05, 0x06, 0x20, 0x21] →
    ∃ t, exec (.jtagBypass d code) s = .next t ∧ (tapOf d t).ir = 0xFF) ∧
  -- DBG_RESET: the die goes into reset for 10 µs.
  (∀ (d : Nat) (s : State), d < s.dies → coldRunning s = false → ∃ t, exec (.jtagDbgReset d) s = .next t ∧ (releaseOf d t).phase = 0 ∧
    (releaseOf d t).due = s.now + 10000) ∧
  -- DBG_ACCESS: a read or a write of BAR0 by the JTAG requester.
  (∀ (d off : Nat) (v : Word) (s : State), d < s.dies → ∃ t, exec (.jtagDbgAccess d off v false) s = .next t ∧
    t.resp.value = BitVec.ofNat 32 (readReg { rq := .jtag, bar2 := false } off (tapTake d 0x21 s)).1 ∧
    tapOf d t = { ir := 0x21, done := true, data := t.resp.value }) ∧
  (∀ (d off : Nat) (v : Word) (s : State), d < s.dies → ∃ t, exec (.jtagDbgAccess d off v true) s = .next t ∧
    t.regs = (regWrite { rq := .jtag, bar2 := false } off v 15 (tapTake d 0x21 s)).regs ∧ (tapOf d t).done = true) ∧
  -- BURN and LOCK by the JTAG requester with the key; LOCK needs a burnt digest.
  (∀ (a : Access) (v : Word) (s : State), Reaches a 0 0x10 0x78 s → a.rq = .jtag → bitsOf v.toNat 8 8 = 0x5A →
    ∃ t, exec (.fuseBurn a v) s = .next t ∧ flag (R.RST.FUSE_DIGEST_SET 0) t = true) ∧
  (∀ (a : Access) (v : Word) (s : State), Reaches a 0 0x10 0x78 s → a.rq = .jtag → bitsOf v.toNat 8 8 = 0x5A →
    flag (R.RST.FUSE_DIGEST_SET 0) s = true →
    ∃ t, exec (.fuseLock a v) s = .next t ∧ flag (R.RST.FUSE_LOCK 0) t = true)

/-- Faults from inside (R16, R481, R484, R495, R517): a channel whose own check fails is fenced, an uncorrectable word is remembered, and
the dies that the fence of a mortar link cuts off are fenced from the package. -/
def Obligations.InternalFaultCommandsAct : Prop :=
  (∀ (d n unit : Nat) (s : State), n < 8 → pagePresent d 0x39 s = true → domainReady d (pageDomain 0x39) s = true →
    ∃ t, exec (.internalError d 0x39 n unit) s = .next t ∧ UnitId.dma d n ∈ t.fenced) ∧
  (∀ (d n unit : Nat) (s : State), n < 8 → pagePresent d 0x68 s = true → domainReady d (pageDomain 0x68) s = true →
    ∃ t, exec (.internalError d 0x68 n unit) s = .next t ∧ UnitId.step d n ∈ t.fenced) ∧
  (∀ (d unit : Nat) (s : State), unit < 32768 → pagePresent d 0x15 s = true → domainReady d (pageDomain 0x15) s = true →
    ∃ t, exec (.internalError d 0x15 1 unit) s = .next t ∧ 32768 * d + unit ∈ t.nvBad) ∧
  (∀ (d : Nat) (s : State), d < s.dies → d ∉ s.linksFenced →
    ∃ t, exec (.mortarLinkFenced d) s = .next t ∧ t.linksFenced = d :: s.linksFenced ∧
      ∀ m, m < s.dies → reachable m t = false → UnitId.die m ∈ t.fenced)
end

