-- ==== Sys2Proof/Laws/Sparse.lean ====
section
/-! SUPPORT. The laws of the finite maps: a read after a write, and that every operation keeps the canonical form. -/

namespace Sys2Proof.Machine

variable {α : Type}

@[simp] theorem mapGet_nil (d : Nat → α) (k : Nat) : mapGet d [] k = d k := rfl

theorem mapGet_erase_same (d : Nat → α) (l : List (Nat × α)) (k : Nat) : mapGet d (mapErase l k) k = d k := by
  induction l with
  | nil => rfl
  | cons e t ih =>
    obtain ⟨a, v⟩ := e
    by_cases h : a = k <;> simp [mapErase, mapGet, h, ih]

theorem mapGet_erase_other (d : Nat → α) (l : List (Nat × α)) {k j : Nat} (hj : j ≠ k) :
    mapGet d (mapErase l k) j = mapGet d l j := by
  induction l with
  | nil => rfl
  | cons e t ih =>
    obtain ⟨a, v⟩ := e
    by_cases h : a = k
    · simp [mapErase, mapGet, h, ih, Ne.symm hj]
    · simp [mapErase, mapGet, h, ih]

theorem mapGet_insert_other (d : Nat → α) (v : α) (l : List (Nat × α)) {k j : Nat} (hj : j ≠ k) :
    mapGet d (mapInsert k v l) j = mapGet d l j := by
  induction l with
  | nil => simp [mapInsert, mapGet, Ne.symm hj]
  | cons e t ih =>
    obtain ⟨a, w⟩ := e
    by_cases h : k < a
    · simp [mapInsert, mapGet, h, Ne.symm hj]
    · simp [mapInsert, mapGet, h, ih]

theorem mapGet_insert_erase (d : Nat → α) (v : α) (l : List (Nat × α)) (k : Nat) :
    mapGet d (mapInsert k v (mapErase l k)) k = v := by
  induction l with
  | nil => simp [mapErase, mapInsert, mapGet]
  | cons e t ih =>
    obtain ⟨a, w⟩ := e
    by_cases h : a = k
    · simpa [mapErase, h] using ih
    · by_cases hk : k < a
      · simp [mapErase, mapInsert, mapGet, h, hk]
      · simp [mapErase, mapInsert, mapGet, h, hk, ih]

/-- A read after a write to the same key gives the value written. -/
@[simp] theorem mapGet_set_same [DecidableEq α] (d : Nat → α) (l : List (Nat × α)) (k : Nat) (v : α) :
    mapGet d (mapSet d l k v) k = v := by
  unfold mapSet
  split
  · rename_i h; rw [mapGet_erase_same, h]
  · exact mapGet_insert_erase d v l k

/-- A write leaves every other key alone. -/
theorem mapGet_set_other [DecidableEq α] (d : Nat → α) (l : List (Nat × α)) {k j : Nat} (v : α) (hj : j ≠ k) :
    mapGet d (mapSet d l k v) j = mapGet d l j := by
  unfold mapSet
  split
  · exact mapGet_erase_other d l hj
  · rw [mapGet_insert_other d v _ hj, mapGet_erase_other d l hj]

theorem mapAbove_cons (k a : Nat) (w : α) (t : List (Nat × α)) :
    mapAbove k ((a, w) :: t) = true ↔ k < a ∧ mapAbove k t = true := by
  simp [mapAbove]

theorem mapAbove_erase {k : Nat} {l : List (Nat × α)} (j : Nat) (h : mapAbove k l = true) :
    mapAbove k (mapErase l j) = true := by
  induction l with
  | nil => rfl
  | cons e t ih =>
    obtain ⟨a, w⟩ := e
    rw [mapAbove_cons] at h
    by_cases ha : a = j
    · simpa only [mapErase, ha, if_true] using ih h.2
    · simp only [mapErase, ha, if_false, mapAbove_cons]
      exact ⟨h.1, ih h.2⟩

theorem mapAbove_insert {k j : Nat} {v : α} {l : List (Nat × α)} (hj : k < j) (h : mapAbove k l = true) :
    mapAbove k (mapInsert j v l) = true := by
  induction l with
  | nil => simpa [mapInsert, mapAbove] using hj
  | cons e t ih =>
    obtain ⟨a, w⟩ := e
    rw [mapAbove_cons] at h
    by_cases ha : j < a
    · simp only [mapInsert, ha, if_true, mapAbove_cons]
      exact ⟨hj, h.1, h.2⟩
    · simp only [mapInsert, ha, if_false, mapAbove_cons]
      exact ⟨h.1, ih h.2⟩

theorem mapAbove_mono {k j : Nat} {l : List (Nat × α)} (hj : j < k) (h : mapAbove k l = true) :
    mapAbove j l = true := by
  simp only [mapAbove, List.all_eq_true, decide_eq_true_eq] at *
  exact fun e he => lt_trans hj (h e he)

theorem mapWf_erase [DecidableEq α] {d : Nat → α} {l : List (Nat × α)} (k : Nat) (h : mapWf d l = true) :
    mapWf d (mapErase l k) = true := by
  induction l with
  | nil => rfl
  | cons e t ih =>
    obtain ⟨a, w⟩ := e
    simp only [mapWf, Bool.and_eq_true] at h
    by_cases ha : a = k
    · simpa [mapErase, ha] using ih h.2
    · simp only [mapErase, ha, if_false, mapWf, Bool.and_eq_true]
      exact ⟨⟨h.1.1, mapAbove_erase k h.1.2⟩, ih h.2⟩

theorem mapGet_above (d : Nat → α) {l : List (Nat × α)} {k : Nat} (h : mapAbove k l = true) : mapGet d l k = d k := by
  induction l with
  | nil => rfl
  | cons e t ih =>
    obtain ⟨a, w⟩ := e
    rw [mapAbove_cons] at h
    have : a ≠ k := by omega
    simp only [mapGet, this, if_false, ih h.2]

theorem mapErase_notMem {l : List (Nat × α)} (k : Nat) : (mapErase l k).all (fun e => decide (e.1 ≠ k)) = true := by
  induction l with
  | nil => rfl
  | cons e t ih =>
    obtain ⟨a, w⟩ := e
    by_cases ha : a = k
    · simpa [mapErase, ha] using ih
    · simpa [mapErase, ha] using ih

theorem mapWf_insert [DecidableEq α] {d : Nat → α} {l : List (Nat × α)} {k : Nat} {v : α} (hv : v ≠ d k)
    (hn : l.all (fun e => decide (e.1 ≠ k)) = true) (h : mapWf d l = true) : mapWf d (mapInsert k v l) = true := by
  induction l with
  | nil => simpa [mapInsert, mapWf, mapAbove] using hv
  | cons e t ih =>
    obtain ⟨a, w⟩ := e
    simp only [mapWf, Bool.and_eq_true] at h
    simp only [List.all_cons, Bool.and_eq_true, decide_eq_true_eq] at hn
    by_cases ha : k < a
    · simp only [mapInsert, ha, if_true, mapWf, Bool.and_eq_true]
      refine ⟨⟨by simpa using hv, ?_⟩, h⟩
      exact (mapAbove_cons k a w t).2 ⟨ha, mapAbove_mono ha h.1.2⟩
    · have hlt : a < k := by have := hn.1; omega
      simp only [mapInsert, ha, if_false, mapWf, Bool.and_eq_true]
      exact ⟨⟨h.1.1, mapAbove_insert hlt h.1.2⟩, ih hn.2 h.2⟩

/-- Every write keeps the canonical form. -/
theorem mapWf_set [DecidableEq α] {d : Nat → α} {l : List (Nat × α)} (k : Nat) (v : α) (h : mapWf d l = true) :
    mapWf d (mapSet d l k v) = true := by
  unfold mapSet
  split
  · exact mapWf_erase k h
  · rename_i hv
    exact mapWf_insert hv (mapErase_notMem k) (mapWf_erase k h)

/-- A dropped key reads its default, any other key what it read. -/
theorem mapGet_drop (d : Nat → α) (p : Nat → Bool) (l : List (Nat × α)) (k : Nat) :
    mapGet d (mapDrop p l) k = if p k then d k else mapGet d l k := by
  induction l with
  | nil => simp [mapDrop, mapGet]
  | cons e t ih =>
    obtain ⟨j, v⟩ := e
    unfold mapDrop at ih ⊢
    rw [List.filter_cons]
    by_cases hj : j = k
    · subst hj
      cases hp : p j <;> simp [hp, mapGet] at ih ⊢
      exact ih
    · cases hp : p j <;> simp [mapGet, hj, ih]

theorem mapAbove_drop {k : Nat} {l : List (Nat × α)} (p : Nat → Bool) (h : mapAbove k l = true) :
    mapAbove k (mapDrop p l) = true := by
  simp only [mapAbove, mapDrop, List.all_eq_true, List.mem_filter] at *
  exact fun e he => h e he.1

/-- Dropping keys keeps the canonical form. -/
theorem mapWf_drop [DecidableEq α] {d : Nat → α} {l : List (Nat × α)} (p : Nat → Bool) (h : mapWf d l = true) :
    mapWf d (mapDrop p l) = true := by
  induction l with
  | nil => rfl
  | cons e t ih =>
    obtain ⟨a, w⟩ := e
    simp only [mapWf, Bool.and_eq_true] at h
    by_cases hp : p a = true
    · simpa [mapDrop, hp] using ih h.2
    · have : mapDrop p ((a, w) :: t) = (a, w) :: mapDrop p t := by simp [mapDrop, hp]
      rw [this]
      simp only [mapWf, Bool.and_eq_true]
      exact ⟨⟨h.1.1, mapAbove_drop p h.1.2⟩, ih h.2⟩

end Sys2Proof.Machine
end

