-- ==== Sys2Proof/Laws/State.lean ====
section
/-! SUPPORT. What each update of the state leaves as it was, field by field. -/

namespace Sys2Proof.Machine

@[simp] theorem putWord_fields (a : Nat) (v : Word) (s : State) : (putWord a v s).part = s.part ∧ (putWord a v
    s).straps = s.straps ∧ (putWord a v s).mem = s.mem ∧ (putWord a v s).nv = s.nv ∧ (putWord a v s).host = s.host ∧
    (putWord a v s).flash = s.flash ∧ (putWord a v s).now = s.now ∧ (putWord a v s).clocks = s.clocks ∧ (putWord a v
    s).master = s.master ∧ (putWord a v s).landed = s.landed ∧ (putWord a v s).resp = s.resp ∧ (putWord a v s).sent =
    s.sent ∧ (putWord a v s).msgs = s.msgs ∧ (putWord a v s).freeSeq = s.freeSeq ∧ (putWord a v s).fenced = s.fenced ∧
    (putWord a v s).unfPending = s.unfPending ∧ (putWord a v s).safeStop = s.safeStop ∧ (putWord a v s).errPulseEnd =
    s.errPulseEnd ∧ (putWord a v s).errAonHold = s.errAonHold ∧ (putWord a v s).releases = s.releases ∧ (putWord a v
    s).domains = s.domains ∧ (putWord a v s).txns = s.txns ∧ (putWord a v s).xtxn = s.xtxn ∧ (putWord a v
    s).lastFsnValid = s.lastFsnValid ∧ (putWord a v s).slots = s.slots ∧ (putWord a v s).planes = s.planes ∧ (putWord
    a v s).decls = s.decls ∧ (putWord a v s).retained = s.retained ∧ (putWord a v s).freed = s.freed ∧ (putWord a v
    s).freedWait = s.freedWait ∧ (putWord a v s).spoilLog = s.spoilLog ∧ (putWord a v s).spoils = s.spoils ∧ (putWord
    a v s).badBlocks = s.badBlocks ∧ (putWord a v s).memTrained = s.memTrained ∧ (putWord a v s).dmas = s.dmas ∧
    (putWord a v s).scrubs = s.scrubs ∧ (putWord a v s).jobs = s.jobs ∧ (putWord a v s).jobNext = s.jobNext ∧ (putWord
    a v s).jobEnded = s.jobEnded ∧ (putWord a v s).dlanes = s.dlanes ∧ (putWord a v s).counters = s.counters ∧
    (putWord a v s).encoders = s.encoders ∧ (putWord a v s).cues = s.cues ∧ (putWord a v s).startLists = s.startLists
    ∧ (putWord a v s).paths = s.paths ∧ (putWord a v s).purges = s.purges ∧ (putWord a v s).logBusy = s.logBusy ∧
    (putWord a v s).logWait = s.logWait ∧ (putWord a v s).focs = s.focs ∧ (putWord a v s).buses = s.buses ∧ (putWord a
    v s).steps = s.steps ∧ (putWord a v s).ilkIn = s.ilkIn ∧ (putWord a v s).hokIn = s.hokIn ∧ (putWord a v
    s).stations = s.stations ∧ (putWord a v s).imagers = s.imagers ∧ (putWord a v s).loops = s.loops ∧ (putWord a v
    s).cffs = s.cffs ∧ (putWord a v s).aregOut = s.aregOut ∧ (putWord a v s).adcs = s.adcs ∧ (putWord a v s).heaters =
    s.heaters ∧ (putWord a v s).zeros = s.zeros ∧ (putWord a v s).hvOver = s.hvOver ∧ (putWord a v s).gpios = s.gpios
    ∧ (putWord a v s).eths = s.eths ∧ (putWord a v s).syncAt = s.syncAt ∧ (putWord a v s).loopNext = s.loopNext ∧
    (putWord a v s).rails = s.rails ∧ (putWord a v s).rmon = s.rmon ∧ (putWord a v s).thermals = s.thermals ∧ (putWord
    a v s).stopAtRun = s.stopAtRun ∧ (putWord a v s).nvBad = s.nvBad ∧ (putWord a v s).logSeq = s.logSeq ∧ (putWord a
    v s).lanes = s.lanes ∧ (putWord a v s).rasters = s.rasters ∧ (putWord a v s).headLinks = s.headLinks ∧ (putWord a
    v s).bonds = s.bonds ∧ (putWord a v s).marks = s.marks ∧ (putWord a v s).calJobs = s.calJobs ∧ (putWord a v
    s).ages = s.ages ∧ (putWord a v s).linksFenced = s.linksFenced ∧ (putWord a v s).clkFails = s.clkFails ∧ (putWord
    a v s).strapsAt = s.strapsAt ∧ (putWord a v s).boot = s.boot ∧ (putWord a v s).taps = s.taps ∧ (putWord a v
    s).dogs = s.dogs ∧ (putWord a v s).pcieUp = s.pcieUp ∧ (putWord a v s).bootWaits = s.bootWaits ∧ (putWord a v
    s).encEdges = s.encEdges ∧ (putWord a v s).pending = s.pending :=
  ⟨rfl, rfl, rfl, rfl, rfl, rfl, rfl, rfl, rfl, rfl, rfl, rfl, rfl, rfl, rfl, rfl, rfl, rfl, rfl, rfl, rfl, rfl, rfl,
    rfl, rfl, rfl, rfl, rfl, rfl, rfl, rfl, rfl, rfl, rfl, rfl, rfl, rfl, rfl, rfl, rfl, rfl, rfl, rfl, rfl, rfl, rfl,
    rfl, rfl, rfl, rfl, rfl, rfl, rfl, rfl, rfl, rfl, rfl, rfl, rfl, rfl, rfl, rfl, rfl, rfl, rfl, rfl, rfl, rfl, rfl,
    rfl, rfl, rfl, rfl, rfl, rfl, rfl, rfl, rfl, rfl, rfl, rfl, rfl, rfl, rfl, rfl, rfl, rfl, rfl, rfl⟩

@[simp] theorem wr_fields (l : Loc) (v : Nat) (s : State) : (wr l v s).part = s.part ∧ (wr l v s).straps = s.straps ∧
    (wr l v s).mem = s.mem ∧ (wr l v s).nv = s.nv ∧ (wr l v s).host = s.host ∧ (wr l v s).flash = s.flash ∧ (wr l v
    s).now = s.now ∧ (wr l v s).clocks = s.clocks ∧ (wr l v s).master = s.master ∧ (wr l v s).landed = s.landed ∧ (wr
    l v s).resp = s.resp ∧ (wr l v s).sent = s.sent ∧ (wr l v s).msgs = s.msgs ∧ (wr l v s).freeSeq = s.freeSeq ∧ (wr
    l v s).fenced = s.fenced ∧ (wr l v s).unfPending = s.unfPending ∧ (wr l v s).safeStop = s.safeStop ∧ (wr l v
    s).errPulseEnd = s.errPulseEnd ∧ (wr l v s).errAonHold = s.errAonHold ∧ (wr l v s).releases = s.releases ∧ (wr l v
    s).domains = s.domains ∧ (wr l v s).txns = s.txns ∧ (wr l v s).xtxn = s.xtxn ∧ (wr l v s).lastFsnValid =
    s.lastFsnValid ∧ (wr l v s).slots = s.slots ∧ (wr l v s).planes = s.planes ∧ (wr l v s).decls = s.decls ∧ (wr l v
    s).retained = s.retained ∧ (wr l v s).freed = s.freed ∧ (wr l v s).freedWait = s.freedWait ∧ (wr l v s).spoilLog =
    s.spoilLog ∧ (wr l v s).spoils = s.spoils ∧ (wr l v s).badBlocks = s.badBlocks ∧ (wr l v s).memTrained =
    s.memTrained ∧ (wr l v s).dmas = s.dmas ∧ (wr l v s).scrubs = s.scrubs ∧ (wr l v s).jobs = s.jobs ∧ (wr l v
    s).jobNext = s.jobNext ∧ (wr l v s).jobEnded = s.jobEnded ∧ (wr l v s).dlanes = s.dlanes ∧ (wr l v s).counters =
    s.counters ∧ (wr l v s).encoders = s.encoders ∧ (wr l v s).cues = s.cues ∧ (wr l v s).startLists = s.startLists ∧
    (wr l v s).paths = s.paths ∧ (wr l v s).purges = s.purges ∧ (wr l v s).logBusy = s.logBusy ∧ (wr l v s).logWait =
    s.logWait ∧ (wr l v s).focs = s.focs ∧ (wr l v s).buses = s.buses ∧ (wr l v s).steps = s.steps ∧ (wr l v s).ilkIn
    = s.ilkIn ∧ (wr l v s).hokIn = s.hokIn ∧ (wr l v s).stations = s.stations ∧ (wr l v s).imagers = s.imagers ∧ (wr l
    v s).loops = s.loops ∧ (wr l v s).cffs = s.cffs ∧ (wr l v s).aregOut = s.aregOut ∧ (wr l v s).adcs = s.adcs ∧ (wr
    l v s).heaters = s.heaters ∧ (wr l v s).zeros = s.zeros ∧ (wr l v s).hvOver = s.hvOver ∧ (wr l v s).gpios =
    s.gpios ∧ (wr l v s).eths = s.eths ∧ (wr l v s).syncAt = s.syncAt ∧ (wr l v s).loopNext = s.loopNext ∧ (wr l v
    s).rails = s.rails ∧ (wr l v s).rmon = s.rmon ∧ (wr l v s).thermals = s.thermals ∧ (wr l v s).stopAtRun =
    s.stopAtRun ∧ (wr l v s).nvBad = s.nvBad ∧ (wr l v s).logSeq = s.logSeq ∧ (wr l v s).lanes = s.lanes ∧ (wr l v
    s).rasters = s.rasters ∧ (wr l v s).headLinks = s.headLinks ∧ (wr l v s).bonds = s.bonds ∧ (wr l v s).marks =
    s.marks ∧ (wr l v s).calJobs = s.calJobs ∧ (wr l v s).ages = s.ages ∧ (wr l v s).linksFenced = s.linksFenced ∧ (wr
    l v s).clkFails = s.clkFails ∧ (wr l v s).strapsAt = s.strapsAt ∧ (wr l v s).boot = s.boot ∧ (wr l v s).taps =
    s.taps ∧ (wr l v s).dogs = s.dogs ∧ (wr l v s).pcieUp = s.pcieUp ∧ (wr l v s).bootWaits = s.bootWaits ∧ (wr l v
    s).encEdges = s.encEdges ∧ (wr l v s).pending = s.pending :=
  ⟨rfl, rfl, rfl, rfl, rfl, rfl, rfl, rfl, rfl, rfl, rfl, rfl, rfl, rfl, rfl, rfl, rfl, rfl, rfl, rfl, rfl, rfl, rfl,
    rfl, rfl, rfl, rfl, rfl, rfl, rfl, rfl, rfl, rfl, rfl, rfl, rfl, rfl, rfl, rfl, rfl, rfl, rfl, rfl, rfl, rfl, rfl,
    rfl, rfl, rfl, rfl, rfl, rfl, rfl, rfl, rfl, rfl, rfl, rfl, rfl, rfl, rfl, rfl, rfl, rfl, rfl, rfl, rfl, rfl, rfl,
    rfl, rfl, rfl, rfl, rfl, rfl, rfl, rfl, rfl, rfl, rfl, rfl, rfl, rfl, rfl, rfl, rfl, rfl, rfl, rfl⟩

@[simp] theorem wrS_fields (l : Loc) (v : Int) (s : State) : (wrS l v s).part = s.part ∧ (wrS l v s).straps = s.straps
    ∧ (wrS l v s).mem = s.mem ∧ (wrS l v s).nv = s.nv ∧ (wrS l v s).host = s.host ∧ (wrS l v s).flash = s.flash ∧ (wrS
    l v s).now = s.now ∧ (wrS l v s).clocks = s.clocks ∧ (wrS l v s).master = s.master ∧ (wrS l v s).landed = s.landed
    ∧ (wrS l v s).resp = s.resp ∧ (wrS l v s).sent = s.sent ∧ (wrS l v s).msgs = s.msgs ∧ (wrS l v s).freeSeq =
    s.freeSeq ∧ (wrS l v s).fenced = s.fenced ∧ (wrS l v s).unfPending = s.unfPending ∧ (wrS l v s).safeStop =
    s.safeStop ∧ (wrS l v s).errPulseEnd = s.errPulseEnd ∧ (wrS l v s).errAonHold = s.errAonHold ∧ (wrS l v
    s).releases = s.releases ∧ (wrS l v s).domains = s.domains ∧ (wrS l v s).txns = s.txns ∧ (wrS l v s).xtxn = s.xtxn
    ∧ (wrS l v s).lastFsnValid = s.lastFsnValid ∧ (wrS l v s).slots = s.slots ∧ (wrS l v s).planes = s.planes ∧ (wrS l
    v s).decls = s.decls ∧ (wrS l v s).retained = s.retained ∧ (wrS l v s).freed = s.freed ∧ (wrS l v s).freedWait =
    s.freedWait ∧ (wrS l v s).spoilLog = s.spoilLog ∧ (wrS l v s).spoils = s.spoils ∧ (wrS l v s).badBlocks =
    s.badBlocks ∧ (wrS l v s).memTrained = s.memTrained ∧ (wrS l v s).dmas = s.dmas ∧ (wrS l v s).scrubs = s.scrubs ∧
    (wrS l v s).jobs = s.jobs ∧ (wrS l v s).jobNext = s.jobNext ∧ (wrS l v s).jobEnded = s.jobEnded ∧ (wrS l v
    s).dlanes = s.dlanes ∧ (wrS l v s).counters = s.counters ∧ (wrS l v s).encoders = s.encoders ∧ (wrS l v s).cues =
    s.cues ∧ (wrS l v s).startLists = s.startLists ∧ (wrS l v s).paths = s.paths ∧ (wrS l v s).purges = s.purges ∧
    (wrS l v s).logBusy = s.logBusy ∧ (wrS l v s).logWait = s.logWait ∧ (wrS l v s).focs = s.focs ∧ (wrS l v s).buses
    = s.buses ∧ (wrS l v s).steps = s.steps ∧ (wrS l v s).ilkIn = s.ilkIn ∧ (wrS l v s).hokIn = s.hokIn ∧ (wrS l v
    s).stations = s.stations ∧ (wrS l v s).imagers = s.imagers ∧ (wrS l v s).loops = s.loops ∧ (wrS l v s).cffs =
    s.cffs ∧ (wrS l v s).aregOut = s.aregOut ∧ (wrS l v s).adcs = s.adcs ∧ (wrS l v s).heaters = s.heaters ∧ (wrS l v
    s).zeros = s.zeros ∧ (wrS l v s).hvOver = s.hvOver ∧ (wrS l v s).gpios = s.gpios ∧ (wrS l v s).eths = s.eths ∧
    (wrS l v s).syncAt = s.syncAt ∧ (wrS l v s).loopNext = s.loopNext ∧ (wrS l v s).rails = s.rails ∧ (wrS l v s).rmon
    = s.rmon ∧ (wrS l v s).thermals = s.thermals ∧ (wrS l v s).stopAtRun = s.stopAtRun ∧ (wrS l v s).nvBad = s.nvBad ∧
    (wrS l v s).logSeq = s.logSeq ∧ (wrS l v s).lanes = s.lanes ∧ (wrS l v s).rasters = s.rasters ∧ (wrS l v
    s).headLinks = s.headLinks ∧ (wrS l v s).bonds = s.bonds ∧ (wrS l v s).marks = s.marks ∧ (wrS l v s).calJobs =
    s.calJobs ∧ (wrS l v s).ages = s.ages ∧ (wrS l v s).linksFenced = s.linksFenced ∧ (wrS l v s).clkFails =
    s.clkFails ∧ (wrS l v s).strapsAt = s.strapsAt ∧ (wrS l v s).boot = s.boot ∧ (wrS l v s).taps = s.taps ∧ (wrS l v
    s).dogs = s.dogs ∧ (wrS l v s).pcieUp = s.pcieUp ∧ (wrS l v s).bootWaits = s.bootWaits ∧ (wrS l v s).encEdges =
    s.encEdges ∧ (wrS l v s).pending = s.pending :=
  ⟨rfl, rfl, rfl, rfl, rfl, rfl, rfl, rfl, rfl, rfl, rfl, rfl, rfl, rfl, rfl, rfl, rfl, rfl, rfl, rfl, rfl, rfl, rfl,
    rfl, rfl, rfl, rfl, rfl, rfl, rfl, rfl, rfl, rfl, rfl, rfl, rfl, rfl, rfl, rfl, rfl, rfl, rfl, rfl, rfl, rfl, rfl,
    rfl, rfl, rfl, rfl, rfl, rfl, rfl, rfl, rfl, rfl, rfl, rfl, rfl, rfl, rfl, rfl, rfl, rfl, rfl, rfl, rfl, rfl, rfl,
    rfl, rfl, rfl, rfl, rfl, rfl, rfl, rfl, rfl, rfl, rfl, rfl, rfl, rfl, rfl, rfl, rfl, rfl, rfl, rfl⟩

@[simp] theorem bumpBy_fields (l : Loc) (n : Nat) (s : State) : (bumpBy l n s).part = s.part ∧ (bumpBy l n s).straps =
    s.straps ∧ (bumpBy l n s).mem = s.mem ∧ (bumpBy l n s).nv = s.nv ∧ (bumpBy l n s).host = s.host ∧ (bumpBy l n
    s).flash = s.flash ∧ (bumpBy l n s).now = s.now ∧ (bumpBy l n s).clocks = s.clocks ∧ (bumpBy l n s).master =
    s.master ∧ (bumpBy l n s).landed = s.landed ∧ (bumpBy l n s).resp = s.resp ∧ (bumpBy l n s).sent = s.sent ∧
    (bumpBy l n s).msgs = s.msgs ∧ (bumpBy l n s).freeSeq = s.freeSeq ∧ (bumpBy l n s).fenced = s.fenced ∧ (bumpBy l n
    s).unfPending = s.unfPending ∧ (bumpBy l n s).safeStop = s.safeStop ∧ (bumpBy l n s).errPulseEnd = s.errPulseEnd ∧
    (bumpBy l n s).errAonHold = s.errAonHold ∧ (bumpBy l n s).releases = s.releases ∧ (bumpBy l n s).domains =
    s.domains ∧ (bumpBy l n s).txns = s.txns ∧ (bumpBy l n s).xtxn = s.xtxn ∧ (bumpBy l n s).lastFsnValid =
    s.lastFsnValid ∧ (bumpBy l n s).slots = s.slots ∧ (bumpBy l n s).planes = s.planes ∧ (bumpBy l n s).decls =
    s.decls ∧ (bumpBy l n s).retained = s.retained ∧ (bumpBy l n s).freed = s.freed ∧ (bumpBy l n s).freedWait =
    s.freedWait ∧ (bumpBy l n s).spoilLog = s.spoilLog ∧ (bumpBy l n s).spoils = s.spoils ∧ (bumpBy l n s).badBlocks =
    s.badBlocks ∧ (bumpBy l n s).memTrained = s.memTrained ∧ (bumpBy l n s).dmas = s.dmas ∧ (bumpBy l n s).scrubs =
    s.scrubs ∧ (bumpBy l n s).jobs = s.jobs ∧ (bumpBy l n s).jobNext = s.jobNext ∧ (bumpBy l n s).jobEnded =
    s.jobEnded ∧ (bumpBy l n s).dlanes = s.dlanes ∧ (bumpBy l n s).counters = s.counters ∧ (bumpBy l n s).encoders =
    s.encoders ∧ (bumpBy l n s).cues = s.cues ∧ (bumpBy l n s).startLists = s.startLists ∧ (bumpBy l n s).paths =
    s.paths ∧ (bumpBy l n s).purges = s.purges ∧ (bumpBy l n s).logBusy = s.logBusy ∧ (bumpBy l n s).logWait =
    s.logWait ∧ (bumpBy l n s).focs = s.focs ∧ (bumpBy l n s).buses = s.buses ∧ (bumpBy l n s).steps = s.steps ∧
    (bumpBy l n s).ilkIn = s.ilkIn ∧ (bumpBy l n s).hokIn = s.hokIn ∧ (bumpBy l n s).stations = s.stations ∧ (bumpBy l
    n s).imagers = s.imagers ∧ (bumpBy l n s).loops = s.loops ∧ (bumpBy l n s).cffs = s.cffs ∧ (bumpBy l n s).aregOut
    = s.aregOut ∧ (bumpBy l n s).adcs = s.adcs ∧ (bumpBy l n s).heaters = s.heaters ∧ (bumpBy l n s).zeros = s.zeros ∧
    (bumpBy l n s).hvOver = s.hvOver ∧ (bumpBy l n s).gpios = s.gpios ∧ (bumpBy l n s).eths = s.eths ∧ (bumpBy l n
    s).syncAt = s.syncAt ∧ (bumpBy l n s).loopNext = s.loopNext ∧ (bumpBy l n s).rails = s.rails ∧ (bumpBy l n s).rmon
    = s.rmon ∧ (bumpBy l n s).thermals = s.thermals ∧ (bumpBy l n s).stopAtRun = s.stopAtRun ∧ (bumpBy l n s).nvBad =
    s.nvBad ∧ (bumpBy l n s).logSeq = s.logSeq ∧ (bumpBy l n s).lanes = s.lanes ∧ (bumpBy l n s).rasters = s.rasters ∧
    (bumpBy l n s).headLinks = s.headLinks ∧ (bumpBy l n s).bonds = s.bonds ∧ (bumpBy l n s).marks = s.marks ∧ (bumpBy
    l n s).calJobs = s.calJobs ∧ (bumpBy l n s).ages = s.ages ∧ (bumpBy l n s).linksFenced = s.linksFenced ∧ (bumpBy l
    n s).clkFails = s.clkFails ∧ (bumpBy l n s).strapsAt = s.strapsAt ∧ (bumpBy l n s).boot = s.boot ∧ (bumpBy l n
    s).taps = s.taps ∧ (bumpBy l n s).dogs = s.dogs ∧ (bumpBy l n s).pcieUp = s.pcieUp ∧ (bumpBy l n s).bootWaits =
    s.bootWaits ∧ (bumpBy l n s).encEdges = s.encEdges ∧ (bumpBy l n s).pending = s.pending :=
  ⟨rfl, rfl, rfl, rfl, rfl, rfl, rfl, rfl, rfl, rfl, rfl, rfl, rfl, rfl, rfl, rfl, rfl, rfl, rfl, rfl, rfl, rfl, rfl,
    rfl, rfl, rfl, rfl, rfl, rfl, rfl, rfl, rfl, rfl, rfl, rfl, rfl, rfl, rfl, rfl, rfl, rfl, rfl, rfl, rfl, rfl, rfl,
    rfl, rfl, rfl, rfl, rfl, rfl, rfl, rfl, rfl, rfl, rfl, rfl, rfl, rfl, rfl, rfl, rfl, rfl, rfl, rfl, rfl, rfl, rfl,
    rfl, rfl, rfl, rfl, rfl, rfl, rfl, rfl, rfl, rfl, rfl, rfl, rfl, rfl, rfl, rfl, rfl, rfl, rfl, rfl⟩

@[simp] theorem bump_fields (l : Loc) (s : State) : (bump l s).part = s.part ∧ (bump l s).straps = s.straps ∧ (bump l
    s).mem = s.mem ∧ (bump l s).nv = s.nv ∧ (bump l s).host = s.host ∧ (bump l s).flash = s.flash ∧ (bump l s).now =
    s.now ∧ (bump l s).clocks = s.clocks ∧ (bump l s).master = s.master ∧ (bump l s).landed = s.landed ∧ (bump l
    s).resp = s.resp ∧ (bump l s).sent = s.sent ∧ (bump l s).msgs = s.msgs ∧ (bump l s).freeSeq = s.freeSeq ∧ (bump l
    s).fenced = s.fenced ∧ (bump l s).unfPending = s.unfPending ∧ (bump l s).safeStop = s.safeStop ∧ (bump l
    s).errPulseEnd = s.errPulseEnd ∧ (bump l s).errAonHold = s.errAonHold ∧ (bump l s).releases = s.releases ∧ (bump l
    s).domains = s.domains ∧ (bump l s).txns = s.txns ∧ (bump l s).xtxn = s.xtxn ∧ (bump l s).lastFsnValid =
    s.lastFsnValid ∧ (bump l s).slots = s.slots ∧ (bump l s).planes = s.planes ∧ (bump l s).decls = s.decls ∧ (bump l
    s).retained = s.retained ∧ (bump l s).freed = s.freed ∧ (bump l s).freedWait = s.freedWait ∧ (bump l s).spoilLog =
    s.spoilLog ∧ (bump l s).spoils = s.spoils ∧ (bump l s).badBlocks = s.badBlocks ∧ (bump l s).memTrained =
    s.memTrained ∧ (bump l s).dmas = s.dmas ∧ (bump l s).scrubs = s.scrubs ∧ (bump l s).jobs = s.jobs ∧ (bump l
    s).jobNext = s.jobNext ∧ (bump l s).jobEnded = s.jobEnded ∧ (bump l s).dlanes = s.dlanes ∧ (bump l s).counters =
    s.counters ∧ (bump l s).encoders = s.encoders ∧ (bump l s).cues = s.cues ∧ (bump l s).startLists = s.startLists ∧
    (bump l s).paths = s.paths ∧ (bump l s).purges = s.purges ∧ (bump l s).logBusy = s.logBusy ∧ (bump l s).logWait =
    s.logWait ∧ (bump l s).focs = s.focs ∧ (bump l s).buses = s.buses ∧ (bump l s).steps = s.steps ∧ (bump l s).ilkIn
    = s.ilkIn ∧ (bump l s).hokIn = s.hokIn ∧ (bump l s).stations = s.stations ∧ (bump l s).imagers = s.imagers ∧ (bump
    l s).loops = s.loops ∧ (bump l s).cffs = s.cffs ∧ (bump l s).aregOut = s.aregOut ∧ (bump l s).adcs = s.adcs ∧
    (bump l s).heaters = s.heaters ∧ (bump l s).zeros = s.zeros ∧ (bump l s).hvOver = s.hvOver ∧ (bump l s).gpios =
    s.gpios ∧ (bump l s).eths = s.eths ∧ (bump l s).syncAt = s.syncAt ∧ (bump l s).loopNext = s.loopNext ∧ (bump l
    s).rails = s.rails ∧ (bump l s).rmon = s.rmon ∧ (bump l s).thermals = s.thermals ∧ (bump l s).stopAtRun =
    s.stopAtRun ∧ (bump l s).nvBad = s.nvBad ∧ (bump l s).logSeq = s.logSeq ∧ (bump l s).lanes = s.lanes ∧ (bump l
    s).rasters = s.rasters ∧ (bump l s).headLinks = s.headLinks ∧ (bump l s).bonds = s.bonds ∧ (bump l s).marks =
    s.marks ∧ (bump l s).calJobs = s.calJobs ∧ (bump l s).ages = s.ages ∧ (bump l s).linksFenced = s.linksFenced ∧
    (bump l s).clkFails = s.clkFails ∧ (bump l s).strapsAt = s.strapsAt ∧ (bump l s).boot = s.boot ∧ (bump l s).taps =
    s.taps ∧ (bump l s).dogs = s.dogs ∧ (bump l s).pcieUp = s.pcieUp ∧ (bump l s).bootWaits = s.bootWaits ∧ (bump l
    s).encEdges = s.encEdges ∧ (bump l s).pending = s.pending :=
  ⟨rfl, rfl, rfl, rfl, rfl, rfl, rfl, rfl, rfl, rfl, rfl, rfl, rfl, rfl, rfl, rfl, rfl, rfl, rfl, rfl, rfl, rfl, rfl,
    rfl, rfl, rfl, rfl, rfl, rfl, rfl, rfl, rfl, rfl, rfl, rfl, rfl, rfl, rfl, rfl, rfl, rfl, rfl, rfl, rfl, rfl, rfl,
    rfl, rfl, rfl, rfl, rfl, rfl, rfl, rfl, rfl, rfl, rfl, rfl, rfl, rfl, rfl, rfl, rfl, rfl, rfl, rfl, rfl, rfl, rfl,
    rfl, rfl, rfl, rfl, rfl, rfl, rfl, rfl, rfl, rfl, rfl, rfl, rfl, rfl, rfl, rfl, rfl, rfl, rfl, rfl⟩

@[simp] theorem memPut_fields (a : Nat) (v : Byte) (s : State) : (memPut a v s).part = s.part ∧ (memPut a v s).straps
    = s.straps ∧ (memPut a v s).regs = s.regs ∧ (memPut a v s).nv = s.nv ∧ (memPut a v s).host = s.host ∧ (memPut a v
    s).flash = s.flash ∧ (memPut a v s).now = s.now ∧ (memPut a v s).clocks = s.clocks ∧ (memPut a v s).master =
    s.master ∧ (memPut a v s).landed = s.landed ∧ (memPut a v s).resp = s.resp ∧ (memPut a v s).sent = s.sent ∧
    (memPut a v s).msgs = s.msgs ∧ (memPut a v s).freeSeq = s.freeSeq ∧ (memPut a v s).fenced = s.fenced ∧ (memPut a v
    s).unfPending = s.unfPending ∧ (memPut a v s).safeStop = s.safeStop ∧ (memPut a v s).errPulseEnd = s.errPulseEnd ∧
    (memPut a v s).errAonHold = s.errAonHold ∧ (memPut a v s).releases = s.releases ∧ (memPut a v s).domains =
    s.domains ∧ (memPut a v s).txns = s.txns ∧ (memPut a v s).xtxn = s.xtxn ∧ (memPut a v s).lastFsnValid =
    s.lastFsnValid ∧ (memPut a v s).slots = s.slots ∧ (memPut a v s).planes = s.planes ∧ (memPut a v s).decls =
    s.decls ∧ (memPut a v s).retained = s.retained ∧ (memPut a v s).freed = s.freed ∧ (memPut a v s).freedWait =
    s.freedWait ∧ (memPut a v s).spoilLog = s.spoilLog ∧ (memPut a v s).spoils = s.spoils ∧ (memPut a v s).badBlocks =
    s.badBlocks ∧ (memPut a v s).memTrained = s.memTrained ∧ (memPut a v s).dmas = s.dmas ∧ (memPut a v s).scrubs =
    s.scrubs ∧ (memPut a v s).jobs = s.jobs ∧ (memPut a v s).jobNext = s.jobNext ∧ (memPut a v s).jobEnded =
    s.jobEnded ∧ (memPut a v s).dlanes = s.dlanes ∧ (memPut a v s).counters = s.counters ∧ (memPut a v s).encoders =
    s.encoders ∧ (memPut a v s).cues = s.cues ∧ (memPut a v s).startLists = s.startLists ∧ (memPut a v s).paths =
    s.paths ∧ (memPut a v s).purges = s.purges ∧ (memPut a v s).logBusy = s.logBusy ∧ (memPut a v s).logWait =
    s.logWait ∧ (memPut a v s).focs = s.focs ∧ (memPut a v s).buses = s.buses ∧ (memPut a v s).steps = s.steps ∧
    (memPut a v s).ilkIn = s.ilkIn ∧ (memPut a v s).hokIn = s.hokIn ∧ (memPut a v s).stations = s.stations ∧ (memPut a
    v s).imagers = s.imagers ∧ (memPut a v s).loops = s.loops ∧ (memPut a v s).cffs = s.cffs ∧ (memPut a v s).aregOut
    = s.aregOut ∧ (memPut a v s).adcs = s.adcs ∧ (memPut a v s).heaters = s.heaters ∧ (memPut a v s).zeros = s.zeros ∧
    (memPut a v s).hvOver = s.hvOver ∧ (memPut a v s).gpios = s.gpios ∧ (memPut a v s).eths = s.eths ∧ (memPut a v
    s).syncAt = s.syncAt ∧ (memPut a v s).loopNext = s.loopNext ∧ (memPut a v s).rails = s.rails ∧ (memPut a v s).rmon
    = s.rmon ∧ (memPut a v s).thermals = s.thermals ∧ (memPut a v s).stopAtRun = s.stopAtRun ∧ (memPut a v s).nvBad =
    s.nvBad ∧ (memPut a v s).logSeq = s.logSeq ∧ (memPut a v s).lanes = s.lanes ∧ (memPut a v s).rasters = s.rasters ∧
    (memPut a v s).headLinks = s.headLinks ∧ (memPut a v s).bonds = s.bonds ∧ (memPut a v s).marks = s.marks ∧ (memPut
    a v s).calJobs = s.calJobs ∧ (memPut a v s).ages = s.ages ∧ (memPut a v s).linksFenced = s.linksFenced ∧ (memPut a
    v s).clkFails = s.clkFails ∧ (memPut a v s).strapsAt = s.strapsAt ∧ (memPut a v s).boot = s.boot ∧ (memPut a v
    s).taps = s.taps ∧ (memPut a v s).dogs = s.dogs ∧ (memPut a v s).pcieUp = s.pcieUp ∧ (memPut a v s).bootWaits =
    s.bootWaits ∧ (memPut a v s).encEdges = s.encEdges ∧ (memPut a v s).pending = s.pending :=
  ⟨rfl, rfl, rfl, rfl, rfl, rfl, rfl, rfl, rfl, rfl, rfl, rfl, rfl, rfl, rfl, rfl, rfl, rfl, rfl, rfl, rfl, rfl, rfl,
    rfl, rfl, rfl, rfl, rfl, rfl, rfl, rfl, rfl, rfl, rfl, rfl, rfl, rfl, rfl, rfl, rfl, rfl, rfl, rfl, rfl, rfl, rfl,
    rfl, rfl, rfl, rfl, rfl, rfl, rfl, rfl, rfl, rfl, rfl, rfl, rfl, rfl, rfl, rfl, rfl, rfl, rfl, rfl, rfl, rfl, rfl,
    rfl, rfl, rfl, rfl, rfl, rfl, rfl, rfl, rfl, rfl, rfl, rfl, rfl, rfl, rfl, rfl, rfl, rfl, rfl, rfl⟩

@[simp] theorem word_memPut (at_ : Nat) (a : Nat) (v : Byte) (s : State) : word at_ (memPut a v s) = word at_ s := rfl

@[simp] theorem rd_memPut (at_ : Loc) (a : Nat) (v : Byte) (s : State) : rd at_ (memPut a v s) = rd at_ s := rfl

@[simp] theorem nvPut_fields (d o : Nat) (v : Byte) (s : State) : (nvPut d o v s).part = s.part ∧ (nvPut d o v
    s).straps = s.straps ∧ (nvPut d o v s).regs = s.regs ∧ (nvPut d o v s).mem = s.mem ∧ (nvPut d o v s).host = s.host
    ∧ (nvPut d o v s).flash = s.flash ∧ (nvPut d o v s).now = s.now ∧ (nvPut d o v s).clocks = s.clocks ∧ (nvPut d o v
    s).master = s.master ∧ (nvPut d o v s).landed = s.landed ∧ (nvPut d o v s).resp = s.resp ∧ (nvPut d o v s).sent =
    s.sent ∧ (nvPut d o v s).msgs = s.msgs ∧ (nvPut d o v s).freeSeq = s.freeSeq ∧ (nvPut d o v s).fenced = s.fenced ∧
    (nvPut d o v s).unfPending = s.unfPending ∧ (nvPut d o v s).safeStop = s.safeStop ∧ (nvPut d o v s).errPulseEnd =
    s.errPulseEnd ∧ (nvPut d o v s).errAonHold = s.errAonHold ∧ (nvPut d o v s).releases = s.releases ∧ (nvPut d o v
    s).domains = s.domains ∧ (nvPut d o v s).txns = s.txns ∧ (nvPut d o v s).xtxn = s.xtxn ∧ (nvPut d o v
    s).lastFsnValid = s.lastFsnValid ∧ (nvPut d o v s).slots = s.slots ∧ (nvPut d o v s).planes = s.planes ∧ (nvPut d
    o v s).decls = s.decls ∧ (nvPut d o v s).retained = s.retained ∧ (nvPut d o v s).freed = s.freed ∧ (nvPut d o v
    s).freedWait = s.freedWait ∧ (nvPut d o v s).spoilLog = s.spoilLog ∧ (nvPut d o v s).spoils = s.spoils ∧ (nvPut d
    o v s).badBlocks = s.badBlocks ∧ (nvPut d o v s).memTrained = s.memTrained ∧ (nvPut d o v s).dmas = s.dmas ∧
    (nvPut d o v s).scrubs = s.scrubs ∧ (nvPut d o v s).jobs = s.jobs ∧ (nvPut d o v s).jobNext = s.jobNext ∧ (nvPut d
    o v s).jobEnded = s.jobEnded ∧ (nvPut d o v s).dlanes = s.dlanes ∧ (nvPut d o v s).counters = s.counters ∧ (nvPut
    d o v s).encoders = s.encoders ∧ (nvPut d o v s).cues = s.cues ∧ (nvPut d o v s).startLists = s.startLists ∧
    (nvPut d o v s).paths = s.paths ∧ (nvPut d o v s).purges = s.purges ∧ (nvPut d o v s).logBusy = s.logBusy ∧ (nvPut
    d o v s).logWait = s.logWait ∧ (nvPut d o v s).focs = s.focs ∧ (nvPut d o v s).buses = s.buses ∧ (nvPut d o v
    s).steps = s.steps ∧ (nvPut d o v s).ilkIn = s.ilkIn ∧ (nvPut d o v s).hokIn = s.hokIn ∧ (nvPut d o v s).stations
    = s.stations ∧ (nvPut d o v s).imagers = s.imagers ∧ (nvPut d o v s).loops = s.loops ∧ (nvPut d o v s).cffs =
    s.cffs ∧ (nvPut d o v s).aregOut = s.aregOut ∧ (nvPut d o v s).adcs = s.adcs ∧ (nvPut d o v s).heaters = s.heaters
    ∧ (nvPut d o v s).zeros = s.zeros ∧ (nvPut d o v s).hvOver = s.hvOver ∧ (nvPut d o v s).gpios = s.gpios ∧ (nvPut d
    o v s).eths = s.eths ∧ (nvPut d o v s).syncAt = s.syncAt ∧ (nvPut d o v s).loopNext = s.loopNext ∧ (nvPut d o v
    s).rails = s.rails ∧ (nvPut d o v s).rmon = s.rmon ∧ (nvPut d o v s).thermals = s.thermals ∧ (nvPut d o v
    s).stopAtRun = s.stopAtRun ∧ (nvPut d o v s).nvBad = s.nvBad ∧ (nvPut d o v s).logSeq = s.logSeq ∧ (nvPut d o v
    s).lanes = s.lanes ∧ (nvPut d o v s).rasters = s.rasters ∧ (nvPut d o v s).headLinks = s.headLinks ∧ (nvPut d o v
    s).bonds = s.bonds ∧ (nvPut d o v s).marks = s.marks ∧ (nvPut d o v s).calJobs = s.calJobs ∧ (nvPut d o v s).ages
    = s.ages ∧ (nvPut d o v s).linksFenced = s.linksFenced ∧ (nvPut d o v s).clkFails = s.clkFails ∧ (nvPut d o v
    s).strapsAt = s.strapsAt ∧ (nvPut d o v s).boot = s.boot ∧ (nvPut d o v s).taps = s.taps ∧ (nvPut d o v s).dogs =
    s.dogs ∧ (nvPut d o v s).pcieUp = s.pcieUp ∧ (nvPut d o v s).bootWaits = s.bootWaits ∧ (nvPut d o v s).encEdges =
    s.encEdges ∧ (nvPut d o v s).pending = s.pending :=
  ⟨rfl, rfl, rfl, rfl, rfl, rfl, rfl, rfl, rfl, rfl, rfl, rfl, rfl, rfl, rfl, rfl, rfl, rfl, rfl, rfl, rfl, rfl, rfl,
    rfl, rfl, rfl, rfl, rfl, rfl, rfl, rfl, rfl, rfl, rfl, rfl, rfl, rfl, rfl, rfl, rfl, rfl, rfl, rfl, rfl, rfl, rfl,
    rfl, rfl, rfl, rfl, rfl, rfl, rfl, rfl, rfl, rfl, rfl, rfl, rfl, rfl, rfl, rfl, rfl, rfl, rfl, rfl, rfl, rfl, rfl,
    rfl, rfl, rfl, rfl, rfl, rfl, rfl, rfl, rfl, rfl, rfl, rfl, rfl, rfl, rfl, rfl, rfl, rfl, rfl, rfl⟩

@[simp] theorem word_nvPut (at_ : Nat) (d o : Nat) (v : Byte) (s : State) : word at_ (nvPut d o v s) = word at_ s :=
    rfl

@[simp] theorem rd_nvPut (at_ : Loc) (d o : Nat) (v : Byte) (s : State) : rd at_ (nvPut d o v s) = rd at_ s := rfl

@[simp] theorem hostPut_fields (a : Nat) (v : Byte) (s : State) : (hostPut a v s).part = s.part ∧ (hostPut a v
    s).straps = s.straps ∧ (hostPut a v s).regs = s.regs ∧ (hostPut a v s).mem = s.mem ∧ (hostPut a v s).nv = s.nv ∧
    (hostPut a v s).flash = s.flash ∧ (hostPut a v s).now = s.now ∧ (hostPut a v s).clocks = s.clocks ∧ (hostPut a v
    s).master = s.master ∧ (hostPut a v s).landed = s.landed ∧ (hostPut a v s).resp = s.resp ∧ (hostPut a v s).sent =
    s.sent ∧ (hostPut a v s).msgs = s.msgs ∧ (hostPut a v s).freeSeq = s.freeSeq ∧ (hostPut a v s).fenced = s.fenced ∧
    (hostPut a v s).unfPending = s.unfPending ∧ (hostPut a v s).safeStop = s.safeStop ∧ (hostPut a v s).errPulseEnd =
    s.errPulseEnd ∧ (hostPut a v s).errAonHold = s.errAonHold ∧ (hostPut a v s).releases = s.releases ∧ (hostPut a v
    s).domains = s.domains ∧ (hostPut a v s).txns = s.txns ∧ (hostPut a v s).xtxn = s.xtxn ∧ (hostPut a v
    s).lastFsnValid = s.lastFsnValid ∧ (hostPut a v s).slots = s.slots ∧ (hostPut a v s).planes = s.planes ∧ (hostPut
    a v s).decls = s.decls ∧ (hostPut a v s).retained = s.retained ∧ (hostPut a v s).freed = s.freed ∧ (hostPut a v
    s).freedWait = s.freedWait ∧ (hostPut a v s).spoilLog = s.spoilLog ∧ (hostPut a v s).spoils = s.spoils ∧ (hostPut
    a v s).badBlocks = s.badBlocks ∧ (hostPut a v s).memTrained = s.memTrained ∧ (hostPut a v s).dmas = s.dmas ∧
    (hostPut a v s).scrubs = s.scrubs ∧ (hostPut a v s).jobs = s.jobs ∧ (hostPut a v s).jobNext = s.jobNext ∧ (hostPut
    a v s).jobEnded = s.jobEnded ∧ (hostPut a v s).dlanes = s.dlanes ∧ (hostPut a v s).counters = s.counters ∧
    (hostPut a v s).encoders = s.encoders ∧ (hostPut a v s).cues = s.cues ∧ (hostPut a v s).startLists = s.startLists
    ∧ (hostPut a v s).paths = s.paths ∧ (hostPut a v s).purges = s.purges ∧ (hostPut a v s).logBusy = s.logBusy ∧
    (hostPut a v s).logWait = s.logWait ∧ (hostPut a v s).focs = s.focs ∧ (hostPut a v s).buses = s.buses ∧ (hostPut a
    v s).steps = s.steps ∧ (hostPut a v s).ilkIn = s.ilkIn ∧ (hostPut a v s).hokIn = s.hokIn ∧ (hostPut a v
    s).stations = s.stations ∧ (hostPut a v s).imagers = s.imagers ∧ (hostPut a v s).loops = s.loops ∧ (hostPut a v
    s).cffs = s.cffs ∧ (hostPut a v s).aregOut = s.aregOut ∧ (hostPut a v s).adcs = s.adcs ∧ (hostPut a v s).heaters =
    s.heaters ∧ (hostPut a v s).zeros = s.zeros ∧ (hostPut a v s).hvOver = s.hvOver ∧ (hostPut a v s).gpios = s.gpios
    ∧ (hostPut a v s).eths = s.eths ∧ (hostPut a v s).syncAt = s.syncAt ∧ (hostPut a v s).loopNext = s.loopNext ∧
    (hostPut a v s).rails = s.rails ∧ (hostPut a v s).rmon = s.rmon ∧ (hostPut a v s).thermals = s.thermals ∧ (hostPut
    a v s).stopAtRun = s.stopAtRun ∧ (hostPut a v s).nvBad = s.nvBad ∧ (hostPut a v s).logSeq = s.logSeq ∧ (hostPut a
    v s).lanes = s.lanes ∧ (hostPut a v s).rasters = s.rasters ∧ (hostPut a v s).headLinks = s.headLinks ∧ (hostPut a
    v s).bonds = s.bonds ∧ (hostPut a v s).marks = s.marks ∧ (hostPut a v s).calJobs = s.calJobs ∧ (hostPut a v
    s).ages = s.ages ∧ (hostPut a v s).linksFenced = s.linksFenced ∧ (hostPut a v s).clkFails = s.clkFails ∧ (hostPut
    a v s).strapsAt = s.strapsAt ∧ (hostPut a v s).boot = s.boot ∧ (hostPut a v s).taps = s.taps ∧ (hostPut a v
    s).dogs = s.dogs ∧ (hostPut a v s).pcieUp = s.pcieUp ∧ (hostPut a v s).bootWaits = s.bootWaits ∧ (hostPut a v
    s).encEdges = s.encEdges ∧ (hostPut a v s).pending = s.pending :=
  ⟨rfl, rfl, rfl, rfl, rfl, rfl, rfl, rfl, rfl, rfl, rfl, rfl, rfl, rfl, rfl, rfl, rfl, rfl, rfl, rfl, rfl, rfl, rfl,
    rfl, rfl, rfl, rfl, rfl, rfl, rfl, rfl, rfl, rfl, rfl, rfl, rfl, rfl, rfl, rfl, rfl, rfl, rfl, rfl, rfl, rfl, rfl,
    rfl, rfl, rfl, rfl, rfl, rfl, rfl, rfl, rfl, rfl, rfl, rfl, rfl, rfl, rfl, rfl, rfl, rfl, rfl, rfl, rfl, rfl, rfl,
    rfl, rfl, rfl, rfl, rfl, rfl, rfl, rfl, rfl, rfl, rfl, rfl, rfl, rfl, rfl, rfl, rfl, rfl, rfl, rfl⟩

@[simp] theorem word_hostPut (at_ : Nat) (a : Nat) (v : Byte) (s : State) : word at_ (hostPut a v s) = word at_ s :=
    rfl

@[simp] theorem rd_hostPut (at_ : Loc) (a : Nat) (v : Byte) (s : State) : rd at_ (hostPut a v s) = rd at_ s := rfl

@[simp] theorem setRelease_fields (d : Nat) (r : Release) (s : State) : (setRelease d r s).part = s.part ∧ (setRelease
    d r s).straps = s.straps ∧ (setRelease d r s).regs = s.regs ∧ (setRelease d r s).mem = s.mem ∧ (setRelease d r
    s).nv = s.nv ∧ (setRelease d r s).host = s.host ∧ (setRelease d r s).flash = s.flash ∧ (setRelease d r s).now =
    s.now ∧ (setRelease d r s).clocks = s.clocks ∧ (setRelease d r s).master = s.master ∧ (setRelease d r s).landed =
    s.landed ∧ (setRelease d r s).resp = s.resp ∧ (setRelease d r s).sent = s.sent ∧ (setRelease d r s).msgs = s.msgs
    ∧ (setRelease d r s).freeSeq = s.freeSeq ∧ (setRelease d r s).fenced = s.fenced ∧ (setRelease d r s).unfPending =
    s.unfPending ∧ (setRelease d r s).safeStop = s.safeStop ∧ (setRelease d r s).errPulseEnd = s.errPulseEnd ∧
    (setRelease d r s).errAonHold = s.errAonHold ∧ (setRelease d r s).domains = s.domains ∧ (setRelease d r s).txns =
    s.txns ∧ (setRelease d r s).xtxn = s.xtxn ∧ (setRelease d r s).lastFsnValid = s.lastFsnValid ∧ (setRelease d r
    s).slots = s.slots ∧ (setRelease d r s).planes = s.planes ∧ (setRelease d r s).decls = s.decls ∧ (setRelease d r
    s).retained = s.retained ∧ (setRelease d r s).freed = s.freed ∧ (setRelease d r s).freedWait = s.freedWait ∧
    (setRelease d r s).spoilLog = s.spoilLog ∧ (setRelease d r s).spoils = s.spoils ∧ (setRelease d r s).badBlocks =
    s.badBlocks ∧ (setRelease d r s).memTrained = s.memTrained ∧ (setRelease d r s).dmas = s.dmas ∧ (setRelease d r
    s).scrubs = s.scrubs ∧ (setRelease d r s).jobs = s.jobs ∧ (setRelease d r s).jobNext = s.jobNext ∧ (setRelease d r
    s).jobEnded = s.jobEnded ∧ (setRelease d r s).dlanes = s.dlanes ∧ (setRelease d r s).counters = s.counters ∧
    (setRelease d r s).encoders = s.encoders ∧ (setRelease d r s).cues = s.cues ∧ (setRelease d r s).startLists =
    s.startLists ∧ (setRelease d r s).paths = s.paths ∧ (setRelease d r s).purges = s.purges ∧ (setRelease d r
    s).logBusy = s.logBusy ∧ (setRelease d r s).logWait = s.logWait ∧ (setRelease d r s).focs = s.focs ∧ (setRelease d
    r s).buses = s.buses ∧ (setRelease d r s).steps = s.steps ∧ (setRelease d r s).ilkIn = s.ilkIn ∧ (setRelease d r
    s).hokIn = s.hokIn ∧ (setRelease d r s).stations = s.stations ∧ (setRelease d r s).imagers = s.imagers ∧
    (setRelease d r s).loops = s.loops ∧ (setRelease d r s).cffs = s.cffs ∧ (setRelease d r s).aregOut = s.aregOut ∧
    (setRelease d r s).adcs = s.adcs ∧ (setRelease d r s).heaters = s.heaters ∧ (setRelease d r s).zeros = s.zeros ∧
    (setRelease d r s).hvOver = s.hvOver ∧ (setRelease d r s).gpios = s.gpios ∧ (setRelease d r s).eths = s.eths ∧
    (setRelease d r s).syncAt = s.syncAt ∧ (setRelease d r s).loopNext = s.loopNext ∧ (setRelease d r s).rails =
    s.rails ∧ (setRelease d r s).rmon = s.rmon ∧ (setRelease d r s).thermals = s.thermals ∧ (setRelease d r
    s).stopAtRun = s.stopAtRun ∧ (setRelease d r s).nvBad = s.nvBad ∧ (setRelease d r s).logSeq = s.logSeq ∧
    (setRelease d r s).lanes = s.lanes ∧ (setRelease d r s).rasters = s.rasters ∧ (setRelease d r s).headLinks =
    s.headLinks ∧ (setRelease d r s).bonds = s.bonds ∧ (setRelease d r s).marks = s.marks ∧ (setRelease d r s).calJobs
    = s.calJobs ∧ (setRelease d r s).ages = s.ages ∧ (setRelease d r s).linksFenced = s.linksFenced ∧ (setRelease d r
    s).clkFails = s.clkFails ∧ (setRelease d r s).strapsAt = s.strapsAt ∧ (setRelease d r s).boot = s.boot ∧
    (setRelease d r s).taps = s.taps ∧ (setRelease d r s).dogs = s.dogs ∧ (setRelease d r s).pcieUp = s.pcieUp ∧
    (setRelease d r s).bootWaits = s.bootWaits ∧ (setRelease d r s).encEdges = s.encEdges ∧ (setRelease d r s).pending
    = s.pending :=
  ⟨rfl, rfl, rfl, rfl, rfl, rfl, rfl, rfl, rfl, rfl, rfl, rfl, rfl, rfl, rfl, rfl, rfl, rfl, rfl, rfl, rfl, rfl, rfl,
    rfl, rfl, rfl, rfl, rfl, rfl, rfl, rfl, rfl, rfl, rfl, rfl, rfl, rfl, rfl, rfl, rfl, rfl, rfl, rfl, rfl, rfl, rfl,
    rfl, rfl, rfl, rfl, rfl, rfl, rfl, rfl, rfl, rfl, rfl, rfl, rfl, rfl, rfl, rfl, rfl, rfl, rfl, rfl, rfl, rfl, rfl,
    rfl, rfl, rfl, rfl, rfl, rfl, rfl, rfl, rfl, rfl, rfl, rfl, rfl, rfl, rfl, rfl, rfl, rfl, rfl, rfl⟩

@[simp] theorem word_setRelease (at_ : Nat) (d : Nat) (r : Release) (s : State) : word at_ (setRelease d r s) = word
    at_ s := rfl

@[simp] theorem rd_setRelease (at_ : Loc) (d : Nat) (r : Release) (s : State) : rd at_ (setRelease d r s) = rd at_ s
    := rfl

@[simp] theorem setDomain_fields (d dom : Nat) (v : Domain) (s : State) : (setDomain d dom v s).part = s.part ∧
    (setDomain d dom v s).straps = s.straps ∧ (setDomain d dom v s).regs = s.regs ∧ (setDomain d dom v s).mem = s.mem
    ∧ (setDomain d dom v s).nv = s.nv ∧ (setDomain d dom v s).host = s.host ∧ (setDomain d dom v s).flash = s.flash ∧
    (setDomain d dom v s).now = s.now ∧ (setDomain d dom v s).clocks = s.clocks ∧ (setDomain d dom v s).master =
    s.master ∧ (setDomain d dom v s).landed = s.landed ∧ (setDomain d dom v s).resp = s.resp ∧ (setDomain d dom v
    s).sent = s.sent ∧ (setDomain d dom v s).msgs = s.msgs ∧ (setDomain d dom v s).freeSeq = s.freeSeq ∧ (setDomain d
    dom v s).fenced = s.fenced ∧ (setDomain d dom v s).unfPending = s.unfPending ∧ (setDomain d dom v s).safeStop =
    s.safeStop ∧ (setDomain d dom v s).errPulseEnd = s.errPulseEnd ∧ (setDomain d dom v s).errAonHold = s.errAonHold ∧
    (setDomain d dom v s).releases = s.releases ∧ (setDomain d dom v s).txns = s.txns ∧ (setDomain d dom v s).xtxn =
    s.xtxn ∧ (setDomain d dom v s).lastFsnValid = s.lastFsnValid ∧ (setDomain d dom v s).slots = s.slots ∧ (setDomain
    d dom v s).planes = s.planes ∧ (setDomain d dom v s).decls = s.decls ∧ (setDomain d dom v s).retained = s.retained
    ∧ (setDomain d dom v s).freed = s.freed ∧ (setDomain d dom v s).freedWait = s.freedWait ∧ (setDomain d dom v
    s).spoilLog = s.spoilLog ∧ (setDomain d dom v s).spoils = s.spoils ∧ (setDomain d dom v s).badBlocks = s.badBlocks
    ∧ (setDomain d dom v s).memTrained = s.memTrained ∧ (setDomain d dom v s).dmas = s.dmas ∧ (setDomain d dom v
    s).scrubs = s.scrubs ∧ (setDomain d dom v s).jobs = s.jobs ∧ (setDomain d dom v s).jobNext = s.jobNext ∧
    (setDomain d dom v s).jobEnded = s.jobEnded ∧ (setDomain d dom v s).dlanes = s.dlanes ∧ (setDomain d dom v
    s).counters = s.counters ∧ (setDomain d dom v s).encoders = s.encoders ∧ (setDomain d dom v s).cues = s.cues ∧
    (setDomain d dom v s).startLists = s.startLists ∧ (setDomain d dom v s).paths = s.paths ∧ (setDomain d dom v
    s).purges = s.purges ∧ (setDomain d dom v s).logBusy = s.logBusy ∧ (setDomain d dom v s).logWait = s.logWait ∧
    (setDomain d dom v s).focs = s.focs ∧ (setDomain d dom v s).buses = s.buses ∧ (setDomain d dom v s).steps =
    s.steps ∧ (setDomain d dom v s).ilkIn = s.ilkIn ∧ (setDomain d dom v s).hokIn = s.hokIn ∧ (setDomain d dom v
    s).stations = s.stations ∧ (setDomain d dom v s).imagers = s.imagers ∧ (setDomain d dom v s).loops = s.loops ∧
    (setDomain d dom v s).cffs = s.cffs ∧ (setDomain d dom v s).aregOut = s.aregOut ∧ (setDomain d dom v s).adcs =
    s.adcs ∧ (setDomain d dom v s).heaters = s.heaters ∧ (setDomain d dom v s).zeros = s.zeros ∧ (setDomain d dom v
    s).hvOver = s.hvOver ∧ (setDomain d dom v s).gpios = s.gpios ∧ (setDomain d dom v s).eths = s.eths ∧ (setDomain d
    dom v s).syncAt = s.syncAt ∧ (setDomain d dom v s).loopNext = s.loopNext ∧ (setDomain d dom v s).rails = s.rails ∧
    (setDomain d dom v s).rmon = s.rmon ∧ (setDomain d dom v s).thermals = s.thermals ∧ (setDomain d dom v
    s).stopAtRun = s.stopAtRun ∧ (setDomain d dom v s).nvBad = s.nvBad ∧ (setDomain d dom v s).logSeq = s.logSeq ∧
    (setDomain d dom v s).lanes = s.lanes ∧ (setDomain d dom v s).rasters = s.rasters ∧ (setDomain d dom v
    s).headLinks = s.headLinks ∧ (setDomain d dom v s).bonds = s.bonds ∧ (setDomain d dom v s).marks = s.marks ∧
    (setDomain d dom v s).calJobs = s.calJobs ∧ (setDomain d dom v s).ages = s.ages ∧ (setDomain d dom v
    s).linksFenced = s.linksFenced ∧ (setDomain d dom v s).clkFails = s.clkFails ∧ (setDomain d dom v s).strapsAt =
    s.strapsAt ∧ (setDomain d dom v s).boot = s.boot ∧ (setDomain d dom v s).taps = s.taps ∧ (setDomain d dom v
    s).dogs = s.dogs ∧ (setDomain d dom v s).pcieUp = s.pcieUp ∧ (setDomain d dom v s).bootWaits = s.bootWaits ∧
    (setDomain d dom v s).encEdges = s.encEdges ∧ (setDomain d dom v s).pending = s.pending :=
  ⟨rfl, rfl, rfl, rfl, rfl, rfl, rfl, rfl, rfl, rfl, rfl, rfl, rfl, rfl, rfl, rfl, rfl, rfl, rfl, rfl, rfl, rfl, rfl,
    rfl, rfl, rfl, rfl, rfl, rfl, rfl, rfl, rfl, rfl, rfl, rfl, rfl, rfl, rfl, rfl, rfl, rfl, rfl, rfl, rfl, rfl, rfl,
    rfl, rfl, rfl, rfl, rfl, rfl, rfl, rfl, rfl, rfl, rfl, rfl, rfl, rfl, rfl, rfl, rfl, rfl, rfl, rfl, rfl, rfl, rfl,
    rfl, rfl, rfl, rfl, rfl, rfl, rfl, rfl, rfl, rfl, rfl, rfl, rfl, rfl, rfl, rfl, rfl, rfl, rfl, rfl⟩

@[simp] theorem word_setDomain (at_ : Nat) (d dom : Nat) (v : Domain) (s : State) : word at_ (setDomain d dom v s) =
    word at_ s := rfl

@[simp] theorem rd_setDomain (at_ : Loc) (d dom : Nat) (v : Domain) (s : State) : rd at_ (setDomain d dom v s) = rd
    at_ s := rfl

@[simp] theorem setTxn_fields (d i : Nat) (v : TxnSlot) (s : State) : (setTxn d i v s).part = s.part ∧ (setTxn d i v
    s).straps = s.straps ∧ (setTxn d i v s).regs = s.regs ∧ (setTxn d i v s).mem = s.mem ∧ (setTxn d i v s).nv = s.nv
    ∧ (setTxn d i v s).host = s.host ∧ (setTxn d i v s).flash = s.flash ∧ (setTxn d i v s).now = s.now ∧ (setTxn d i v
    s).clocks = s.clocks ∧ (setTxn d i v s).master = s.master ∧ (setTxn d i v s).landed = s.landed ∧ (setTxn d i v
    s).resp = s.resp ∧ (setTxn d i v s).sent = s.sent ∧ (setTxn d i v s).msgs = s.msgs ∧ (setTxn d i v s).freeSeq =
    s.freeSeq ∧ (setTxn d i v s).fenced = s.fenced ∧ (setTxn d i v s).unfPending = s.unfPending ∧ (setTxn d i v
    s).safeStop = s.safeStop ∧ (setTxn d i v s).errPulseEnd = s.errPulseEnd ∧ (setTxn d i v s).errAonHold =
    s.errAonHold ∧ (setTxn d i v s).releases = s.releases ∧ (setTxn d i v s).domains = s.domains ∧ (setTxn d i v
    s).xtxn = s.xtxn ∧ (setTxn d i v s).lastFsnValid = s.lastFsnValid ∧ (setTxn d i v s).slots = s.slots ∧ (setTxn d i
    v s).planes = s.planes ∧ (setTxn d i v s).decls = s.decls ∧ (setTxn d i v s).retained = s.retained ∧ (setTxn d i v
    s).freed = s.freed ∧ (setTxn d i v s).freedWait = s.freedWait ∧ (setTxn d i v s).spoilLog = s.spoilLog ∧ (setTxn d
    i v s).spoils = s.spoils ∧ (setTxn d i v s).badBlocks = s.badBlocks ∧ (setTxn d i v s).memTrained = s.memTrained ∧
    (setTxn d i v s).dmas = s.dmas ∧ (setTxn d i v s).scrubs = s.scrubs ∧ (setTxn d i v s).jobs = s.jobs ∧ (setTxn d i
    v s).jobNext = s.jobNext ∧ (setTxn d i v s).jobEnded = s.jobEnded ∧ (setTxn d i v s).dlanes = s.dlanes ∧ (setTxn d
    i v s).counters = s.counters ∧ (setTxn d i v s).encoders = s.encoders ∧ (setTxn d i v s).cues = s.cues ∧ (setTxn d
    i v s).startLists = s.startLists ∧ (setTxn d i v s).paths = s.paths ∧ (setTxn d i v s).purges = s.purges ∧ (setTxn
    d i v s).logBusy = s.logBusy ∧ (setTxn d i v s).logWait = s.logWait ∧ (setTxn d i v s).focs = s.focs ∧ (setTxn d i
    v s).buses = s.buses ∧ (setTxn d i v s).steps = s.steps ∧ (setTxn d i v s).ilkIn = s.ilkIn ∧ (setTxn d i v
    s).hokIn = s.hokIn ∧ (setTxn d i v s).stations = s.stations ∧ (setTxn d i v s).imagers = s.imagers ∧ (setTxn d i v
    s).loops = s.loops ∧ (setTxn d i v s).cffs = s.cffs ∧ (setTxn d i v s).aregOut = s.aregOut ∧ (setTxn d i v s).adcs
    = s.adcs ∧ (setTxn d i v s).heaters = s.heaters ∧ (setTxn d i v s).zeros = s.zeros ∧ (setTxn d i v s).hvOver =
    s.hvOver ∧ (setTxn d i v s).gpios = s.gpios ∧ (setTxn d i v s).eths = s.eths ∧ (setTxn d i v s).syncAt = s.syncAt
    ∧ (setTxn d i v s).loopNext = s.loopNext ∧ (setTxn d i v s).rails = s.rails ∧ (setTxn d i v s).rmon = s.rmon ∧
    (setTxn d i v s).thermals = s.thermals ∧ (setTxn d i v s).stopAtRun = s.stopAtRun ∧ (setTxn d i v s).nvBad =
    s.nvBad ∧ (setTxn d i v s).logSeq = s.logSeq ∧ (setTxn d i v s).lanes = s.lanes ∧ (setTxn d i v s).rasters =
    s.rasters ∧ (setTxn d i v s).headLinks = s.headLinks ∧ (setTxn d i v s).bonds = s.bonds ∧ (setTxn d i v s).marks =
    s.marks ∧ (setTxn d i v s).calJobs = s.calJobs ∧ (setTxn d i v s).ages = s.ages ∧ (setTxn d i v s).linksFenced =
    s.linksFenced ∧ (setTxn d i v s).clkFails = s.clkFails ∧ (setTxn d i v s).strapsAt = s.strapsAt ∧ (setTxn d i v
    s).boot = s.boot ∧ (setTxn d i v s).taps = s.taps ∧ (setTxn d i v s).dogs = s.dogs ∧ (setTxn d i v s).pcieUp =
    s.pcieUp ∧ (setTxn d i v s).bootWaits = s.bootWaits ∧ (setTxn d i v s).encEdges = s.encEdges ∧ (setTxn d i v
    s).pending = s.pending :=
  ⟨rfl, rfl, rfl, rfl, rfl, rfl, rfl, rfl, rfl, rfl, rfl, rfl, rfl, rfl, rfl, rfl, rfl, rfl, rfl, rfl, rfl, rfl, rfl,
    rfl, rfl, rfl, rfl, rfl, rfl, rfl, rfl, rfl, rfl, rfl, rfl, rfl, rfl, rfl, rfl, rfl, rfl, rfl, rfl, rfl, rfl, rfl,
    rfl, rfl, rfl, rfl, rfl, rfl, rfl, rfl, rfl, rfl, rfl, rfl, rfl, rfl, rfl, rfl, rfl, rfl, rfl, rfl, rfl, rfl, rfl,
    rfl, rfl, rfl, rfl, rfl, rfl, rfl, rfl, rfl, rfl, rfl, rfl, rfl, rfl, rfl, rfl, rfl, rfl, rfl, rfl⟩

@[simp] theorem word_setTxn (at_ : Nat) (d i : Nat) (v : TxnSlot) (s : State) : word at_ (setTxn d i v s) = word at_ s
    := rfl

@[simp] theorem rd_setTxn (at_ : Loc) (d i : Nat) (v : TxnSlot) (s : State) : rd at_ (setTxn d i v s) = rd at_ s :=
    rfl

@[simp] theorem setSlot_fields (i : Nat) (v : Slot) (s : State) : (setSlot i v s).part = s.part ∧ (setSlot i v
    s).straps = s.straps ∧ (setSlot i v s).regs = s.regs ∧ (setSlot i v s).mem = s.mem ∧ (setSlot i v s).nv = s.nv ∧
    (setSlot i v s).host = s.host ∧ (setSlot i v s).flash = s.flash ∧ (setSlot i v s).now = s.now ∧ (setSlot i v
    s).clocks = s.clocks ∧ (setSlot i v s).master = s.master ∧ (setSlot i v s).landed = s.landed ∧ (setSlot i v
    s).resp = s.resp ∧ (setSlot i v s).sent = s.sent ∧ (setSlot i v s).msgs = s.msgs ∧ (setSlot i v s).freeSeq =
    s.freeSeq ∧ (setSlot i v s).fenced = s.fenced ∧ (setSlot i v s).unfPending = s.unfPending ∧ (setSlot i v
    s).safeStop = s.safeStop ∧ (setSlot i v s).errPulseEnd = s.errPulseEnd ∧ (setSlot i v s).errAonHold = s.errAonHold
    ∧ (setSlot i v s).releases = s.releases ∧ (setSlot i v s).domains = s.domains ∧ (setSlot i v s).txns = s.txns ∧
    (setSlot i v s).xtxn = s.xtxn ∧ (setSlot i v s).lastFsnValid = s.lastFsnValid ∧ (setSlot i v s).planes = s.planes
    ∧ (setSlot i v s).decls = s.decls ∧ (setSlot i v s).retained = s.retained ∧ (setSlot i v s).freed = s.freed ∧
    (setSlot i v s).freedWait = s.freedWait ∧ (setSlot i v s).spoilLog = s.spoilLog ∧ (setSlot i v s).spoils =
    s.spoils ∧ (setSlot i v s).badBlocks = s.badBlocks ∧ (setSlot i v s).memTrained = s.memTrained ∧ (setSlot i v
    s).dmas = s.dmas ∧ (setSlot i v s).scrubs = s.scrubs ∧ (setSlot i v s).jobs = s.jobs ∧ (setSlot i v s).jobNext =
    s.jobNext ∧ (setSlot i v s).jobEnded = s.jobEnded ∧ (setSlot i v s).dlanes = s.dlanes ∧ (setSlot i v s).counters =
    s.counters ∧ (setSlot i v s).encoders = s.encoders ∧ (setSlot i v s).cues = s.cues ∧ (setSlot i v s).startLists =
    s.startLists ∧ (setSlot i v s).paths = s.paths ∧ (setSlot i v s).purges = s.purges ∧ (setSlot i v s).logBusy =
    s.logBusy ∧ (setSlot i v s).logWait = s.logWait ∧ (setSlot i v s).focs = s.focs ∧ (setSlot i v s).buses = s.buses
    ∧ (setSlot i v s).steps = s.steps ∧ (setSlot i v s).ilkIn = s.ilkIn ∧ (setSlot i v s).hokIn = s.hokIn ∧ (setSlot i
    v s).stations = s.stations ∧ (setSlot i v s).imagers = s.imagers ∧ (setSlot i v s).loops = s.loops ∧ (setSlot i v
    s).cffs = s.cffs ∧ (setSlot i v s).aregOut = s.aregOut ∧ (setSlot i v s).adcs = s.adcs ∧ (setSlot i v s).heaters =
    s.heaters ∧ (setSlot i v s).zeros = s.zeros ∧ (setSlot i v s).hvOver = s.hvOver ∧ (setSlot i v s).gpios = s.gpios
    ∧ (setSlot i v s).eths = s.eths ∧ (setSlot i v s).syncAt = s.syncAt ∧ (setSlot i v s).loopNext = s.loopNext ∧
    (setSlot i v s).rails = s.rails ∧ (setSlot i v s).rmon = s.rmon ∧ (setSlot i v s).thermals = s.thermals ∧ (setSlot
    i v s).stopAtRun = s.stopAtRun ∧ (setSlot i v s).nvBad = s.nvBad ∧ (setSlot i v s).logSeq = s.logSeq ∧ (setSlot i
    v s).lanes = s.lanes ∧ (setSlot i v s).rasters = s.rasters ∧ (setSlot i v s).headLinks = s.headLinks ∧ (setSlot i
    v s).bonds = s.bonds ∧ (setSlot i v s).marks = s.marks ∧ (setSlot i v s).calJobs = s.calJobs ∧ (setSlot i v
    s).ages = s.ages ∧ (setSlot i v s).linksFenced = s.linksFenced ∧ (setSlot i v s).clkFails = s.clkFails ∧ (setSlot
    i v s).strapsAt = s.strapsAt ∧ (setSlot i v s).boot = s.boot ∧ (setSlot i v s).taps = s.taps ∧ (setSlot i v
    s).dogs = s.dogs ∧ (setSlot i v s).pcieUp = s.pcieUp ∧ (setSlot i v s).bootWaits = s.bootWaits ∧ (setSlot i v
    s).encEdges = s.encEdges ∧ (setSlot i v s).pending = s.pending :=
  ⟨rfl, rfl, rfl, rfl, rfl, rfl, rfl, rfl, rfl, rfl, rfl, rfl, rfl, rfl, rfl, rfl, rfl, rfl, rfl, rfl, rfl, rfl, rfl,
    rfl, rfl, rfl, rfl, rfl, rfl, rfl, rfl, rfl, rfl, rfl, rfl, rfl, rfl, rfl, rfl, rfl, rfl, rfl, rfl, rfl, rfl, rfl,
    rfl, rfl, rfl, rfl, rfl, rfl, rfl, rfl, rfl, rfl, rfl, rfl, rfl, rfl, rfl, rfl, rfl, rfl, rfl, rfl, rfl, rfl, rfl,
    rfl, rfl, rfl, rfl, rfl, rfl, rfl, rfl, rfl, rfl, rfl, rfl, rfl, rfl, rfl, rfl, rfl, rfl, rfl, rfl⟩

@[simp] theorem word_setSlot (at_ : Nat) (i : Nat) (v : Slot) (s : State) : word at_ (setSlot i v s) = word at_ s :=
    rfl

@[simp] theorem rd_setSlot (at_ : Loc) (i : Nat) (v : Slot) (s : State) : rd at_ (setSlot i v s) = rd at_ s := rfl

@[simp] theorem setPlane_fields (i k : Nat) (v : Plane) (s : State) : (setPlane i k v s).part = s.part ∧ (setPlane i k
    v s).straps = s.straps ∧ (setPlane i k v s).regs = s.regs ∧ (setPlane i k v s).mem = s.mem ∧ (setPlane i k v s).nv
    = s.nv ∧ (setPlane i k v s).host = s.host ∧ (setPlane i k v s).flash = s.flash ∧ (setPlane i k v s).now = s.now ∧
    (setPlane i k v s).clocks = s.clocks ∧ (setPlane i k v s).master = s.master ∧ (setPlane i k v s).landed = s.landed
    ∧ (setPlane i k v s).resp = s.resp ∧ (setPlane i k v s).sent = s.sent ∧ (setPlane i k v s).msgs = s.msgs ∧
    (setPlane i k v s).freeSeq = s.freeSeq ∧ (setPlane i k v s).fenced = s.fenced ∧ (setPlane i k v s).unfPending =
    s.unfPending ∧ (setPlane i k v s).safeStop = s.safeStop ∧ (setPlane i k v s).errPulseEnd = s.errPulseEnd ∧
    (setPlane i k v s).errAonHold = s.errAonHold ∧ (setPlane i k v s).releases = s.releases ∧ (setPlane i k v
    s).domains = s.domains ∧ (setPlane i k v s).txns = s.txns ∧ (setPlane i k v s).xtxn = s.xtxn ∧ (setPlane i k v
    s).lastFsnValid = s.lastFsnValid ∧ (setPlane i k v s).slots = s.slots ∧ (setPlane i k v s).decls = s.decls ∧
    (setPlane i k v s).retained = s.retained ∧ (setPlane i k v s).freed = s.freed ∧ (setPlane i k v s).freedWait =
    s.freedWait ∧ (setPlane i k v s).spoilLog = s.spoilLog ∧ (setPlane i k v s).spoils = s.spoils ∧ (setPlane i k v
    s).badBlocks = s.badBlocks ∧ (setPlane i k v s).memTrained = s.memTrained ∧ (setPlane i k v s).dmas = s.dmas ∧
    (setPlane i k v s).scrubs = s.scrubs ∧ (setPlane i k v s).jobs = s.jobs ∧ (setPlane i k v s).jobNext = s.jobNext ∧
    (setPlane i k v s).jobEnded = s.jobEnded ∧ (setPlane i k v s).dlanes = s.dlanes ∧ (setPlane i k v s).counters =
    s.counters ∧ (setPlane i k v s).encoders = s.encoders ∧ (setPlane i k v s).cues = s.cues ∧ (setPlane i k v
    s).startLists = s.startLists ∧ (setPlane i k v s).paths = s.paths ∧ (setPlane i k v s).purges = s.purges ∧
    (setPlane i k v s).logBusy = s.logBusy ∧ (setPlane i k v s).logWait = s.logWait ∧ (setPlane i k v s).focs = s.focs
    ∧ (setPlane i k v s).buses = s.buses ∧ (setPlane i k v s).steps = s.steps ∧ (setPlane i k v s).ilkIn = s.ilkIn ∧
    (setPlane i k v s).hokIn = s.hokIn ∧ (setPlane i k v s).stations = s.stations ∧ (setPlane i k v s).imagers =
    s.imagers ∧ (setPlane i k v s).loops = s.loops ∧ (setPlane i k v s).cffs = s.cffs ∧ (setPlane i k v s).aregOut =
    s.aregOut ∧ (setPlane i k v s).adcs = s.adcs ∧ (setPlane i k v s).heaters = s.heaters ∧ (setPlane i k v s).zeros =
    s.zeros ∧ (setPlane i k v s).hvOver = s.hvOver ∧ (setPlane i k v s).gpios = s.gpios ∧ (setPlane i k v s).eths =
    s.eths ∧ (setPlane i k v s).syncAt = s.syncAt ∧ (setPlane i k v s).loopNext = s.loopNext ∧ (setPlane i k v
    s).rails = s.rails ∧ (setPlane i k v s).rmon = s.rmon ∧ (setPlane i k v s).thermals = s.thermals ∧ (setPlane i k v
    s).stopAtRun = s.stopAtRun ∧ (setPlane i k v s).nvBad = s.nvBad ∧ (setPlane i k v s).logSeq = s.logSeq ∧ (setPlane
    i k v s).lanes = s.lanes ∧ (setPlane i k v s).rasters = s.rasters ∧ (setPlane i k v s).headLinks = s.headLinks ∧
    (setPlane i k v s).bonds = s.bonds ∧ (setPlane i k v s).marks = s.marks ∧ (setPlane i k v s).calJobs = s.calJobs ∧
    (setPlane i k v s).ages = s.ages ∧ (setPlane i k v s).linksFenced = s.linksFenced ∧ (setPlane i k v s).clkFails =
    s.clkFails ∧ (setPlane i k v s).strapsAt = s.strapsAt ∧ (setPlane i k v s).boot = s.boot ∧ (setPlane i k v s).taps
    = s.taps ∧ (setPlane i k v s).dogs = s.dogs ∧ (setPlane i k v s).pcieUp = s.pcieUp ∧ (setPlane i k v s).bootWaits
    = s.bootWaits ∧ (setPlane i k v s).encEdges = s.encEdges ∧ (setPlane i k v s).pending = s.pending :=
  ⟨rfl, rfl, rfl, rfl, rfl, rfl, rfl, rfl, rfl, rfl, rfl, rfl, rfl, rfl, rfl, rfl, rfl, rfl, rfl, rfl, rfl, rfl, rfl,
    rfl, rfl, rfl, rfl, rfl, rfl, rfl, rfl, rfl, rfl, rfl, rfl, rfl, rfl, rfl, rfl, rfl, rfl, rfl, rfl, rfl, rfl, rfl,
    rfl, rfl, rfl, rfl, rfl, rfl, rfl, rfl, rfl, rfl, rfl, rfl, rfl, rfl, rfl, rfl, rfl, rfl, rfl, rfl, rfl, rfl, rfl,
    rfl, rfl, rfl, rfl, rfl, rfl, rfl, rfl, rfl, rfl, rfl, rfl, rfl, rfl, rfl, rfl, rfl, rfl, rfl, rfl⟩

@[simp] theorem word_setPlane (at_ : Nat) (i k : Nat) (v : Plane) (s : State) : word at_ (setPlane i k v s) = word at_
    s := rfl

@[simp] theorem rd_setPlane (at_ : Loc) (i k : Nat) (v : Plane) (s : State) : rd at_ (setPlane i k v s) = rd at_ s :=
    rfl

@[simp] theorem setRetained_fields (i : Nat) (v : Retained) (s : State) : (setRetained i v s).part = s.part ∧
    (setRetained i v s).straps = s.straps ∧ (setRetained i v s).regs = s.regs ∧ (setRetained i v s).mem = s.mem ∧
    (setRetained i v s).nv = s.nv ∧ (setRetained i v s).host = s.host ∧ (setRetained i v s).flash = s.flash ∧
    (setRetained i v s).now = s.now ∧ (setRetained i v s).clocks = s.clocks ∧ (setRetained i v s).master = s.master ∧
    (setRetained i v s).landed = s.landed ∧ (setRetained i v s).resp = s.resp ∧ (setRetained i v s).sent = s.sent ∧
    (setRetained i v s).msgs = s.msgs ∧ (setRetained i v s).freeSeq = s.freeSeq ∧ (setRetained i v s).fenced =
    s.fenced ∧ (setRetained i v s).unfPending = s.unfPending ∧ (setRetained i v s).safeStop = s.safeStop ∧
    (setRetained i v s).errPulseEnd = s.errPulseEnd ∧ (setRetained i v s).errAonHold = s.errAonHold ∧ (setRetained i v
    s).releases = s.releases ∧ (setRetained i v s).domains = s.domains ∧ (setRetained i v s).txns = s.txns ∧
    (setRetained i v s).xtxn = s.xtxn ∧ (setRetained i v s).lastFsnValid = s.lastFsnValid ∧ (setRetained i v s).slots
    = s.slots ∧ (setRetained i v s).planes = s.planes ∧ (setRetained i v s).decls = s.decls ∧ (setRetained i v
    s).freed = s.freed ∧ (setRetained i v s).freedWait = s.freedWait ∧ (setRetained i v s).spoilLog = s.spoilLog ∧
    (setRetained i v s).spoils = s.spoils ∧ (setRetained i v s).badBlocks = s.badBlocks ∧ (setRetained i v
    s).memTrained = s.memTrained ∧ (setRetained i v s).dmas = s.dmas ∧ (setRetained i v s).scrubs = s.scrubs ∧
    (setRetained i v s).jobs = s.jobs ∧ (setRetained i v s).jobNext = s.jobNext ∧ (setRetained i v s).jobEnded =
    s.jobEnded ∧ (setRetained i v s).dlanes = s.dlanes ∧ (setRetained i v s).counters = s.counters ∧ (setRetained i v
    s).encoders = s.encoders ∧ (setRetained i v s).cues = s.cues ∧ (setRetained i v s).startLists = s.startLists ∧
    (setRetained i v s).paths = s.paths ∧ (setRetained i v s).purges = s.purges ∧ (setRetained i v s).logBusy =
    s.logBusy ∧ (setRetained i v s).logWait = s.logWait ∧ (setRetained i v s).focs = s.focs ∧ (setRetained i v
    s).buses = s.buses ∧ (setRetained i v s).steps = s.steps ∧ (setRetained i v s).ilkIn = s.ilkIn ∧ (setRetained i v
    s).hokIn = s.hokIn ∧ (setRetained i v s).stations = s.stations ∧ (setRetained i v s).imagers = s.imagers ∧
    (setRetained i v s).loops = s.loops ∧ (setRetained i v s).cffs = s.cffs ∧ (setRetained i v s).aregOut = s.aregOut
    ∧ (setRetained i v s).adcs = s.adcs ∧ (setRetained i v s).heaters = s.heaters ∧ (setRetained i v s).zeros =
    s.zeros ∧ (setRetained i v s).hvOver = s.hvOver ∧ (setRetained i v s).gpios = s.gpios ∧ (setRetained i v s).eths =
    s.eths ∧ (setRetained i v s).syncAt = s.syncAt ∧ (setRetained i v s).loopNext = s.loopNext ∧ (setRetained i v
    s).rails = s.rails ∧ (setRetained i v s).rmon = s.rmon ∧ (setRetained i v s).thermals = s.thermals ∧ (setRetained
    i v s).stopAtRun = s.stopAtRun ∧ (setRetained i v s).nvBad = s.nvBad ∧ (setRetained i v s).logSeq = s.logSeq ∧
    (setRetained i v s).lanes = s.lanes ∧ (setRetained i v s).rasters = s.rasters ∧ (setRetained i v s).headLinks =
    s.headLinks ∧ (setRetained i v s).bonds = s.bonds ∧ (setRetained i v s).marks = s.marks ∧ (setRetained i v
    s).calJobs = s.calJobs ∧ (setRetained i v s).ages = s.ages ∧ (setRetained i v s).linksFenced = s.linksFenced ∧
    (setRetained i v s).clkFails = s.clkFails ∧ (setRetained i v s).strapsAt = s.strapsAt ∧ (setRetained i v s).boot =
    s.boot ∧ (setRetained i v s).taps = s.taps ∧ (setRetained i v s).dogs = s.dogs ∧ (setRetained i v s).pcieUp =
    s.pcieUp ∧ (setRetained i v s).bootWaits = s.bootWaits ∧ (setRetained i v s).encEdges = s.encEdges ∧ (setRetained
    i v s).pending = s.pending :=
  ⟨rfl, rfl, rfl, rfl, rfl, rfl, rfl, rfl, rfl, rfl, rfl, rfl, rfl, rfl, rfl, rfl, rfl, rfl, rfl, rfl, rfl, rfl, rfl,
    rfl, rfl, rfl, rfl, rfl, rfl, rfl, rfl, rfl, rfl, rfl, rfl, rfl, rfl, rfl, rfl, rfl, rfl, rfl, rfl, rfl, rfl, rfl,
    rfl, rfl, rfl, rfl, rfl, rfl, rfl, rfl, rfl, rfl, rfl, rfl, rfl, rfl, rfl, rfl, rfl, rfl, rfl, rfl, rfl, rfl, rfl,
    rfl, rfl, rfl, rfl, rfl, rfl, rfl, rfl, rfl, rfl, rfl, rfl, rfl, rfl, rfl, rfl, rfl, rfl, rfl, rfl⟩

@[simp] theorem word_setRetained (at_ : Nat) (i : Nat) (v : Retained) (s : State) : word at_ (setRetained i v s) =
    word at_ s := rfl

@[simp] theorem rd_setRetained (at_ : Loc) (i : Nat) (v : Retained) (s : State) : rd at_ (setRetained i v s) = rd at_
    s := rfl

@[simp] theorem setClock_fields (d : Nat) (c : DieClock) (s : State) : (setClock d c s).part = s.part ∧ (setClock d c
    s).straps = s.straps ∧ (setClock d c s).regs = s.regs ∧ (setClock d c s).mem = s.mem ∧ (setClock d c s).nv = s.nv
    ∧ (setClock d c s).host = s.host ∧ (setClock d c s).flash = s.flash ∧ (setClock d c s).now = s.now ∧ (setClock d c
    s).master = s.master ∧ (setClock d c s).landed = s.landed ∧ (setClock d c s).resp = s.resp ∧ (setClock d c s).sent
    = s.sent ∧ (setClock d c s).msgs = s.msgs ∧ (setClock d c s).freeSeq = s.freeSeq ∧ (setClock d c s).fenced =
    s.fenced ∧ (setClock d c s).unfPending = s.unfPending ∧ (setClock d c s).safeStop = s.safeStop ∧ (setClock d c
    s).errPulseEnd = s.errPulseEnd ∧ (setClock d c s).errAonHold = s.errAonHold ∧ (setClock d c s).releases =
    s.releases ∧ (setClock d c s).domains = s.domains ∧ (setClock d c s).txns = s.txns ∧ (setClock d c s).xtxn =
    s.xtxn ∧ (setClock d c s).lastFsnValid = s.lastFsnValid ∧ (setClock d c s).slots = s.slots ∧ (setClock d c
    s).planes = s.planes ∧ (setClock d c s).decls = s.decls ∧ (setClock d c s).retained = s.retained ∧ (setClock d c
    s).freed = s.freed ∧ (setClock d c s).freedWait = s.freedWait ∧ (setClock d c s).spoilLog = s.spoilLog ∧ (setClock
    d c s).spoils = s.spoils ∧ (setClock d c s).badBlocks = s.badBlocks ∧ (setClock d c s).memTrained = s.memTrained ∧
    (setClock d c s).dmas = s.dmas ∧ (setClock d c s).scrubs = s.scrubs ∧ (setClock d c s).jobs = s.jobs ∧ (setClock d
    c s).jobNext = s.jobNext ∧ (setClock d c s).jobEnded = s.jobEnded ∧ (setClock d c s).dlanes = s.dlanes ∧ (setClock
    d c s).counters = s.counters ∧ (setClock d c s).encoders = s.encoders ∧ (setClock d c s).cues = s.cues ∧ (setClock
    d c s).startLists = s.startLists ∧ (setClock d c s).paths = s.paths ∧ (setClock d c s).purges = s.purges ∧
    (setClock d c s).logBusy = s.logBusy ∧ (setClock d c s).logWait = s.logWait ∧ (setClock d c s).focs = s.focs ∧
    (setClock d c s).buses = s.buses ∧ (setClock d c s).steps = s.steps ∧ (setClock d c s).ilkIn = s.ilkIn ∧ (setClock
    d c s).hokIn = s.hokIn ∧ (setClock d c s).stations = s.stations ∧ (setClock d c s).imagers = s.imagers ∧ (setClock
    d c s).loops = s.loops ∧ (setClock d c s).cffs = s.cffs ∧ (setClock d c s).aregOut = s.aregOut ∧ (setClock d c
    s).adcs = s.adcs ∧ (setClock d c s).heaters = s.heaters ∧ (setClock d c s).zeros = s.zeros ∧ (setClock d c
    s).hvOver = s.hvOver ∧ (setClock d c s).gpios = s.gpios ∧ (setClock d c s).eths = s.eths ∧ (setClock d c s).syncAt
    = s.syncAt ∧ (setClock d c s).loopNext = s.loopNext ∧ (setClock d c s).rails = s.rails ∧ (setClock d c s).rmon =
    s.rmon ∧ (setClock d c s).thermals = s.thermals ∧ (setClock d c s).stopAtRun = s.stopAtRun ∧ (setClock d c
    s).nvBad = s.nvBad ∧ (setClock d c s).logSeq = s.logSeq ∧ (setClock d c s).lanes = s.lanes ∧ (setClock d c
    s).rasters = s.rasters ∧ (setClock d c s).headLinks = s.headLinks ∧ (setClock d c s).bonds = s.bonds ∧ (setClock d
    c s).marks = s.marks ∧ (setClock d c s).calJobs = s.calJobs ∧ (setClock d c s).ages = s.ages ∧ (setClock d c
    s).linksFenced = s.linksFenced ∧ (setClock d c s).clkFails = s.clkFails ∧ (setClock d c s).strapsAt = s.strapsAt ∧
    (setClock d c s).boot = s.boot ∧ (setClock d c s).taps = s.taps ∧ (setClock d c s).dogs = s.dogs ∧ (setClock d c
    s).pcieUp = s.pcieUp ∧ (setClock d c s).bootWaits = s.bootWaits ∧ (setClock d c s).encEdges = s.encEdges ∧
    (setClock d c s).pending = s.pending :=
  ⟨rfl, rfl, rfl, rfl, rfl, rfl, rfl, rfl, rfl, rfl, rfl, rfl, rfl, rfl, rfl, rfl, rfl, rfl, rfl, rfl, rfl, rfl, rfl,
    rfl, rfl, rfl, rfl, rfl, rfl, rfl, rfl, rfl, rfl, rfl, rfl, rfl, rfl, rfl, rfl, rfl, rfl, rfl, rfl, rfl, rfl, rfl,
    rfl, rfl, rfl, rfl, rfl, rfl, rfl, rfl, rfl, rfl, rfl, rfl, rfl, rfl, rfl, rfl, rfl, rfl, rfl, rfl, rfl, rfl, rfl,
    rfl, rfl, rfl, rfl, rfl, rfl, rfl, rfl, rfl, rfl, rfl, rfl, rfl, rfl, rfl, rfl, rfl, rfl, rfl, rfl⟩

@[simp] theorem word_setClock (at_ : Nat) (d : Nat) (c : DieClock) (s : State) : word at_ (setClock d c s) = word at_
    s := rfl

@[simp] theorem rd_setClock (at_ : Loc) (d : Nat) (c : DieClock) (s : State) : rd at_ (setClock d c s) = rd at_ s :=
    rfl

@[simp] theorem dropFence_fields (u : UnitId) (s : State) : (dropFence u s).part = s.part ∧ (dropFence u s).straps =
    s.straps ∧ (dropFence u s).regs = s.regs ∧ (dropFence u s).mem = s.mem ∧ (dropFence u s).nv = s.nv ∧ (dropFence u
    s).host = s.host ∧ (dropFence u s).flash = s.flash ∧ (dropFence u s).now = s.now ∧ (dropFence u s).clocks =
    s.clocks ∧ (dropFence u s).master = s.master ∧ (dropFence u s).landed = s.landed ∧ (dropFence u s).resp = s.resp ∧
    (dropFence u s).sent = s.sent ∧ (dropFence u s).msgs = s.msgs ∧ (dropFence u s).freeSeq = s.freeSeq ∧ (dropFence u
    s).unfPending = s.unfPending ∧ (dropFence u s).safeStop = s.safeStop ∧ (dropFence u s).errPulseEnd = s.errPulseEnd
    ∧ (dropFence u s).errAonHold = s.errAonHold ∧ (dropFence u s).releases = s.releases ∧ (dropFence u s).domains =
    s.domains ∧ (dropFence u s).txns = s.txns ∧ (dropFence u s).xtxn = s.xtxn ∧ (dropFence u s).lastFsnValid =
    s.lastFsnValid ∧ (dropFence u s).slots = s.slots ∧ (dropFence u s).planes = s.planes ∧ (dropFence u s).decls =
    s.decls ∧ (dropFence u s).retained = s.retained ∧ (dropFence u s).freed = s.freed ∧ (dropFence u s).freedWait =
    s.freedWait ∧ (dropFence u s).spoilLog = s.spoilLog ∧ (dropFence u s).spoils = s.spoils ∧ (dropFence u
    s).badBlocks = s.badBlocks ∧ (dropFence u s).memTrained = s.memTrained ∧ (dropFence u s).dmas = s.dmas ∧
    (dropFence u s).scrubs = s.scrubs ∧ (dropFence u s).jobs = s.jobs ∧ (dropFence u s).jobNext = s.jobNext ∧
    (dropFence u s).jobEnded = s.jobEnded ∧ (dropFence u s).dlanes = s.dlanes ∧ (dropFence u s).counters = s.counters
    ∧ (dropFence u s).encoders = s.encoders ∧ (dropFence u s).cues = s.cues ∧ (dropFence u s).startLists =
    s.startLists ∧ (dropFence u s).paths = s.paths ∧ (dropFence u s).purges = s.purges ∧ (dropFence u s).logBusy =
    s.logBusy ∧ (dropFence u s).logWait = s.logWait ∧ (dropFence u s).focs = s.focs ∧ (dropFence u s).buses = s.buses
    ∧ (dropFence u s).steps = s.steps ∧ (dropFence u s).ilkIn = s.ilkIn ∧ (dropFence u s).hokIn = s.hokIn ∧ (dropFence
    u s).stations = s.stations ∧ (dropFence u s).imagers = s.imagers ∧ (dropFence u s).loops = s.loops ∧ (dropFence u
    s).cffs = s.cffs ∧ (dropFence u s).aregOut = s.aregOut ∧ (dropFence u s).adcs = s.adcs ∧ (dropFence u s).heaters =
    s.heaters ∧ (dropFence u s).zeros = s.zeros ∧ (dropFence u s).hvOver = s.hvOver ∧ (dropFence u s).gpios = s.gpios
    ∧ (dropFence u s).eths = s.eths ∧ (dropFence u s).syncAt = s.syncAt ∧ (dropFence u s).loopNext = s.loopNext ∧
    (dropFence u s).rails = s.rails ∧ (dropFence u s).rmon = s.rmon ∧ (dropFence u s).thermals = s.thermals ∧
    (dropFence u s).stopAtRun = s.stopAtRun ∧ (dropFence u s).nvBad = s.nvBad ∧ (dropFence u s).logSeq = s.logSeq ∧
    (dropFence u s).lanes = s.lanes ∧ (dropFence u s).rasters = s.rasters ∧ (dropFence u s).headLinks = s.headLinks ∧
    (dropFence u s).bonds = s.bonds ∧ (dropFence u s).marks = s.marks ∧ (dropFence u s).calJobs = s.calJobs ∧
    (dropFence u s).ages = s.ages ∧ (dropFence u s).linksFenced = s.linksFenced ∧ (dropFence u s).clkFails =
    s.clkFails ∧ (dropFence u s).strapsAt = s.strapsAt ∧ (dropFence u s).boot = s.boot ∧ (dropFence u s).taps = s.taps
    ∧ (dropFence u s).dogs = s.dogs ∧ (dropFence u s).pcieUp = s.pcieUp ∧ (dropFence u s).bootWaits = s.bootWaits ∧
    (dropFence u s).encEdges = s.encEdges ∧ (dropFence u s).pending = s.pending :=
  ⟨rfl, rfl, rfl, rfl, rfl, rfl, rfl, rfl, rfl, rfl, rfl, rfl, rfl, rfl, rfl, rfl, rfl, rfl, rfl, rfl, rfl, rfl, rfl,
    rfl, rfl, rfl, rfl, rfl, rfl, rfl, rfl, rfl, rfl, rfl, rfl, rfl, rfl, rfl, rfl, rfl, rfl, rfl, rfl, rfl, rfl, rfl,
    rfl, rfl, rfl, rfl, rfl, rfl, rfl, rfl, rfl, rfl, rfl, rfl, rfl, rfl, rfl, rfl, rfl, rfl, rfl, rfl, rfl, rfl, rfl,
    rfl, rfl, rfl, rfl, rfl, rfl, rfl, rfl, rfl, rfl, rfl, rfl, rfl, rfl, rfl, rfl, rfl, rfl, rfl, rfl⟩

@[simp] theorem word_dropFence (at_ : Nat) (u : UnitId) (s : State) : word at_ (dropFence u s) = word at_ s := rfl

@[simp] theorem rd_dropFence (at_ : Loc) (u : UnitId) (s : State) : rd at_ (dropFence u s) = rd at_ s := rfl

@[simp] theorem setSta_fields (k : Nat) (v : Station) (s : State) : (setSta k v s).part = s.part ∧ (setSta k v
    s).straps = s.straps ∧ (setSta k v s).regs = s.regs ∧ (setSta k v s).mem = s.mem ∧ (setSta k v s).nv = s.nv ∧
    (setSta k v s).host = s.host ∧ (setSta k v s).flash = s.flash ∧ (setSta k v s).now = s.now ∧ (setSta k v s).clocks
    = s.clocks ∧ (setSta k v s).master = s.master ∧ (setSta k v s).landed = s.landed ∧ (setSta k v s).resp = s.resp ∧
    (setSta k v s).sent = s.sent ∧ (setSta k v s).msgs = s.msgs ∧ (setSta k v s).freeSeq = s.freeSeq ∧ (setSta k v
    s).fenced = s.fenced ∧ (setSta k v s).unfPending = s.unfPending ∧ (setSta k v s).safeStop = s.safeStop ∧ (setSta k
    v s).errPulseEnd = s.errPulseEnd ∧ (setSta k v s).errAonHold = s.errAonHold ∧ (setSta k v s).releases = s.releases
    ∧ (setSta k v s).domains = s.domains ∧ (setSta k v s).txns = s.txns ∧ (setSta k v s).xtxn = s.xtxn ∧ (setSta k v
    s).lastFsnValid = s.lastFsnValid ∧ (setSta k v s).slots = s.slots ∧ (setSta k v s).planes = s.planes ∧ (setSta k v
    s).decls = s.decls ∧ (setSta k v s).retained = s.retained ∧ (setSta k v s).freed = s.freed ∧ (setSta k v
    s).freedWait = s.freedWait ∧ (setSta k v s).spoilLog = s.spoilLog ∧ (setSta k v s).spoils = s.spoils ∧ (setSta k v
    s).badBlocks = s.badBlocks ∧ (setSta k v s).memTrained = s.memTrained ∧ (setSta k v s).dmas = s.dmas ∧ (setSta k v
    s).scrubs = s.scrubs ∧ (setSta k v s).jobs = s.jobs ∧ (setSta k v s).jobNext = s.jobNext ∧ (setSta k v s).jobEnded
    = s.jobEnded ∧ (setSta k v s).dlanes = s.dlanes ∧ (setSta k v s).counters = s.counters ∧ (setSta k v s).encoders =
    s.encoders ∧ (setSta k v s).cues = s.cues ∧ (setSta k v s).startLists = s.startLists ∧ (setSta k v s).paths =
    s.paths ∧ (setSta k v s).purges = s.purges ∧ (setSta k v s).logBusy = s.logBusy ∧ (setSta k v s).logWait =
    s.logWait ∧ (setSta k v s).focs = s.focs ∧ (setSta k v s).buses = s.buses ∧ (setSta k v s).steps = s.steps ∧
    (setSta k v s).ilkIn = s.ilkIn ∧ (setSta k v s).hokIn = s.hokIn ∧ (setSta k v s).imagers = s.imagers ∧ (setSta k v
    s).loops = s.loops ∧ (setSta k v s).cffs = s.cffs ∧ (setSta k v s).aregOut = s.aregOut ∧ (setSta k v s).adcs =
    s.adcs ∧ (setSta k v s).heaters = s.heaters ∧ (setSta k v s).zeros = s.zeros ∧ (setSta k v s).hvOver = s.hvOver ∧
    (setSta k v s).gpios = s.gpios ∧ (setSta k v s).eths = s.eths ∧ (setSta k v s).syncAt = s.syncAt ∧ (setSta k v
    s).loopNext = s.loopNext ∧ (setSta k v s).rails = s.rails ∧ (setSta k v s).rmon = s.rmon ∧ (setSta k v s).thermals
    = s.thermals ∧ (setSta k v s).stopAtRun = s.stopAtRun ∧ (setSta k v s).nvBad = s.nvBad ∧ (setSta k v s).logSeq =
    s.logSeq ∧ (setSta k v s).lanes = s.lanes ∧ (setSta k v s).rasters = s.rasters ∧ (setSta k v s).headLinks =
    s.headLinks ∧ (setSta k v s).bonds = s.bonds ∧ (setSta k v s).marks = s.marks ∧ (setSta k v s).calJobs = s.calJobs
    ∧ (setSta k v s).ages = s.ages ∧ (setSta k v s).linksFenced = s.linksFenced ∧ (setSta k v s).clkFails = s.clkFails
    ∧ (setSta k v s).strapsAt = s.strapsAt ∧ (setSta k v s).boot = s.boot ∧ (setSta k v s).taps = s.taps ∧ (setSta k v
    s).dogs = s.dogs ∧ (setSta k v s).pcieUp = s.pcieUp ∧ (setSta k v s).bootWaits = s.bootWaits ∧ (setSta k v
    s).encEdges = s.encEdges ∧ (setSta k v s).pending = s.pending :=
  ⟨rfl, rfl, rfl, rfl, rfl, rfl, rfl, rfl, rfl, rfl, rfl, rfl, rfl, rfl, rfl, rfl, rfl, rfl, rfl, rfl, rfl, rfl, rfl,
    rfl, rfl, rfl, rfl, rfl, rfl, rfl, rfl, rfl, rfl, rfl, rfl, rfl, rfl, rfl, rfl, rfl, rfl, rfl, rfl, rfl, rfl, rfl,
    rfl, rfl, rfl, rfl, rfl, rfl, rfl, rfl, rfl, rfl, rfl, rfl, rfl, rfl, rfl, rfl, rfl, rfl, rfl, rfl, rfl, rfl, rfl,
    rfl, rfl, rfl, rfl, rfl, rfl, rfl, rfl, rfl, rfl, rfl, rfl, rfl, rfl, rfl, rfl, rfl, rfl, rfl, rfl⟩

@[simp] theorem word_setSta (at_ : Nat) (k : Nat) (v : Station) (s : State) : word at_ (setSta k v s) = word at_ s :=
    rfl

@[simp] theorem rd_setSta (at_ : Loc) (k : Nat) (v : Station) (s : State) : rd at_ (setSta k v s) = rd at_ s := rfl

@[simp] theorem setHead_fields (k : Nat) (v : HeadLink) (s : State) : (setHead k v s).part = s.part ∧ (setHead k v
    s).straps = s.straps ∧ (setHead k v s).regs = s.regs ∧ (setHead k v s).mem = s.mem ∧ (setHead k v s).nv = s.nv ∧
    (setHead k v s).host = s.host ∧ (setHead k v s).flash = s.flash ∧ (setHead k v s).now = s.now ∧ (setHead k v
    s).clocks = s.clocks ∧ (setHead k v s).master = s.master ∧ (setHead k v s).landed = s.landed ∧ (setHead k v
    s).resp = s.resp ∧ (setHead k v s).sent = s.sent ∧ (setHead k v s).msgs = s.msgs ∧ (setHead k v s).freeSeq =
    s.freeSeq ∧ (setHead k v s).fenced = s.fenced ∧ (setHead k v s).unfPending = s.unfPending ∧ (setHead k v
    s).safeStop = s.safeStop ∧ (setHead k v s).errPulseEnd = s.errPulseEnd ∧ (setHead k v s).errAonHold = s.errAonHold
    ∧ (setHead k v s).releases = s.releases ∧ (setHead k v s).domains = s.domains ∧ (setHead k v s).txns = s.txns ∧
    (setHead k v s).xtxn = s.xtxn ∧ (setHead k v s).lastFsnValid = s.lastFsnValid ∧ (setHead k v s).slots = s.slots ∧
    (setHead k v s).planes = s.planes ∧ (setHead k v s).decls = s.decls ∧ (setHead k v s).retained = s.retained ∧
    (setHead k v s).freed = s.freed ∧ (setHead k v s).freedWait = s.freedWait ∧ (setHead k v s).spoilLog = s.spoilLog
    ∧ (setHead k v s).spoils = s.spoils ∧ (setHead k v s).badBlocks = s.badBlocks ∧ (setHead k v s).memTrained =
    s.memTrained ∧ (setHead k v s).dmas = s.dmas ∧ (setHead k v s).scrubs = s.scrubs ∧ (setHead k v s).jobs = s.jobs ∧
    (setHead k v s).jobNext = s.jobNext ∧ (setHead k v s).jobEnded = s.jobEnded ∧ (setHead k v s).dlanes = s.dlanes ∧
    (setHead k v s).counters = s.counters ∧ (setHead k v s).encoders = s.encoders ∧ (setHead k v s).cues = s.cues ∧
    (setHead k v s).startLists = s.startLists ∧ (setHead k v s).paths = s.paths ∧ (setHead k v s).purges = s.purges ∧
    (setHead k v s).logBusy = s.logBusy ∧ (setHead k v s).logWait = s.logWait ∧ (setHead k v s).focs = s.focs ∧
    (setHead k v s).buses = s.buses ∧ (setHead k v s).steps = s.steps ∧ (setHead k v s).ilkIn = s.ilkIn ∧ (setHead k v
    s).hokIn = s.hokIn ∧ (setHead k v s).stations = s.stations ∧ (setHead k v s).imagers = s.imagers ∧ (setHead k v
    s).loops = s.loops ∧ (setHead k v s).cffs = s.cffs ∧ (setHead k v s).aregOut = s.aregOut ∧ (setHead k v s).adcs =
    s.adcs ∧ (setHead k v s).heaters = s.heaters ∧ (setHead k v s).zeros = s.zeros ∧ (setHead k v s).hvOver = s.hvOver
    ∧ (setHead k v s).gpios = s.gpios ∧ (setHead k v s).eths = s.eths ∧ (setHead k v s).syncAt = s.syncAt ∧ (setHead k
    v s).loopNext = s.loopNext ∧ (setHead k v s).rails = s.rails ∧ (setHead k v s).rmon = s.rmon ∧ (setHead k v
    s).thermals = s.thermals ∧ (setHead k v s).stopAtRun = s.stopAtRun ∧ (setHead k v s).nvBad = s.nvBad ∧ (setHead k
    v s).logSeq = s.logSeq ∧ (setHead k v s).lanes = s.lanes ∧ (setHead k v s).rasters = s.rasters ∧ (setHead k v
    s).bonds = s.bonds ∧ (setHead k v s).marks = s.marks ∧ (setHead k v s).calJobs = s.calJobs ∧ (setHead k v s).ages
    = s.ages ∧ (setHead k v s).linksFenced = s.linksFenced ∧ (setHead k v s).clkFails = s.clkFails ∧ (setHead k v
    s).strapsAt = s.strapsAt ∧ (setHead k v s).boot = s.boot ∧ (setHead k v s).taps = s.taps ∧ (setHead k v s).dogs =
    s.dogs ∧ (setHead k v s).pcieUp = s.pcieUp ∧ (setHead k v s).bootWaits = s.bootWaits ∧ (setHead k v s).encEdges =
    s.encEdges ∧ (setHead k v s).pending = s.pending :=
  ⟨rfl, rfl, rfl, rfl, rfl, rfl, rfl, rfl, rfl, rfl, rfl, rfl, rfl, rfl, rfl, rfl, rfl, rfl, rfl, rfl, rfl, rfl, rfl,
    rfl, rfl, rfl, rfl, rfl, rfl, rfl, rfl, rfl, rfl, rfl, rfl, rfl, rfl, rfl, rfl, rfl, rfl, rfl, rfl, rfl, rfl, rfl,
    rfl, rfl, rfl, rfl, rfl, rfl, rfl, rfl, rfl, rfl, rfl, rfl, rfl, rfl, rfl, rfl, rfl, rfl, rfl, rfl, rfl, rfl, rfl,
    rfl, rfl, rfl, rfl, rfl, rfl, rfl, rfl, rfl, rfl, rfl, rfl, rfl, rfl, rfl, rfl, rfl, rfl, rfl, rfl⟩

@[simp] theorem word_setHead (at_ : Nat) (k : Nat) (v : HeadLink) (s : State) : word at_ (setHead k v s) = word at_ s
    := rfl

@[simp] theorem rd_setHead (at_ : Loc) (k : Nat) (v : HeadLink) (s : State) : rd at_ (setHead k v s) = rd at_ s := rfl

@[simp] theorem setLane_fields (d n : Nat) (v : Lane) (s : State) : (setLane d n v s).part = s.part ∧ (setLane d n v
    s).straps = s.straps ∧ (setLane d n v s).regs = s.regs ∧ (setLane d n v s).mem = s.mem ∧ (setLane d n v s).nv =
    s.nv ∧ (setLane d n v s).host = s.host ∧ (setLane d n v s).flash = s.flash ∧ (setLane d n v s).now = s.now ∧
    (setLane d n v s).clocks = s.clocks ∧ (setLane d n v s).master = s.master ∧ (setLane d n v s).landed = s.landed ∧
    (setLane d n v s).resp = s.resp ∧ (setLane d n v s).sent = s.sent ∧ (setLane d n v s).msgs = s.msgs ∧ (setLane d n
    v s).freeSeq = s.freeSeq ∧ (setLane d n v s).fenced = s.fenced ∧ (setLane d n v s).unfPending = s.unfPending ∧
    (setLane d n v s).safeStop = s.safeStop ∧ (setLane d n v s).errPulseEnd = s.errPulseEnd ∧ (setLane d n v
    s).errAonHold = s.errAonHold ∧ (setLane d n v s).releases = s.releases ∧ (setLane d n v s).domains = s.domains ∧
    (setLane d n v s).txns = s.txns ∧ (setLane d n v s).xtxn = s.xtxn ∧ (setLane d n v s).lastFsnValid =
    s.lastFsnValid ∧ (setLane d n v s).slots = s.slots ∧ (setLane d n v s).planes = s.planes ∧ (setLane d n v s).decls
    = s.decls ∧ (setLane d n v s).retained = s.retained ∧ (setLane d n v s).freed = s.freed ∧ (setLane d n v
    s).freedWait = s.freedWait ∧ (setLane d n v s).spoilLog = s.spoilLog ∧ (setLane d n v s).spoils = s.spoils ∧
    (setLane d n v s).badBlocks = s.badBlocks ∧ (setLane d n v s).memTrained = s.memTrained ∧ (setLane d n v s).dmas =
    s.dmas ∧ (setLane d n v s).scrubs = s.scrubs ∧ (setLane d n v s).jobs = s.jobs ∧ (setLane d n v s).jobNext =
    s.jobNext ∧ (setLane d n v s).jobEnded = s.jobEnded ∧ (setLane d n v s).dlanes = s.dlanes ∧ (setLane d n v
    s).counters = s.counters ∧ (setLane d n v s).encoders = s.encoders ∧ (setLane d n v s).cues = s.cues ∧ (setLane d
    n v s).startLists = s.startLists ∧ (setLane d n v s).paths = s.paths ∧ (setLane d n v s).purges = s.purges ∧
    (setLane d n v s).logBusy = s.logBusy ∧ (setLane d n v s).logWait = s.logWait ∧ (setLane d n v s).focs = s.focs ∧
    (setLane d n v s).buses = s.buses ∧ (setLane d n v s).steps = s.steps ∧ (setLane d n v s).ilkIn = s.ilkIn ∧
    (setLane d n v s).hokIn = s.hokIn ∧ (setLane d n v s).stations = s.stations ∧ (setLane d n v s).imagers =
    s.imagers ∧ (setLane d n v s).loops = s.loops ∧ (setLane d n v s).cffs = s.cffs ∧ (setLane d n v s).aregOut =
    s.aregOut ∧ (setLane d n v s).adcs = s.adcs ∧ (setLane d n v s).heaters = s.heaters ∧ (setLane d n v s).zeros =
    s.zeros ∧ (setLane d n v s).hvOver = s.hvOver ∧ (setLane d n v s).gpios = s.gpios ∧ (setLane d n v s).eths =
    s.eths ∧ (setLane d n v s).syncAt = s.syncAt ∧ (setLane d n v s).loopNext = s.loopNext ∧ (setLane d n v s).rails =
    s.rails ∧ (setLane d n v s).rmon = s.rmon ∧ (setLane d n v s).thermals = s.thermals ∧ (setLane d n v s).stopAtRun
    = s.stopAtRun ∧ (setLane d n v s).nvBad = s.nvBad ∧ (setLane d n v s).logSeq = s.logSeq ∧ (setLane d n v
    s).rasters = s.rasters ∧ (setLane d n v s).headLinks = s.headLinks ∧ (setLane d n v s).bonds = s.bonds ∧ (setLane
    d n v s).marks = s.marks ∧ (setLane d n v s).calJobs = s.calJobs ∧ (setLane d n v s).ages = s.ages ∧ (setLane d n
    v s).linksFenced = s.linksFenced ∧ (setLane d n v s).clkFails = s.clkFails ∧ (setLane d n v s).strapsAt =
    s.strapsAt ∧ (setLane d n v s).boot = s.boot ∧ (setLane d n v s).taps = s.taps ∧ (setLane d n v s).dogs = s.dogs ∧
    (setLane d n v s).pcieUp = s.pcieUp ∧ (setLane d n v s).bootWaits = s.bootWaits ∧ (setLane d n v s).encEdges =
    s.encEdges ∧ (setLane d n v s).pending = s.pending :=
  ⟨rfl, rfl, rfl, rfl, rfl, rfl, rfl, rfl, rfl, rfl, rfl, rfl, rfl, rfl, rfl, rfl, rfl, rfl, rfl, rfl, rfl, rfl, rfl,
    rfl, rfl, rfl, rfl, rfl, rfl, rfl, rfl, rfl, rfl, rfl, rfl, rfl, rfl, rfl, rfl, rfl, rfl, rfl, rfl, rfl, rfl, rfl,
    rfl, rfl, rfl, rfl, rfl, rfl, rfl, rfl, rfl, rfl, rfl, rfl, rfl, rfl, rfl, rfl, rfl, rfl, rfl, rfl, rfl, rfl, rfl,
    rfl, rfl, rfl, rfl, rfl, rfl, rfl, rfl, rfl, rfl, rfl, rfl, rfl, rfl, rfl, rfl, rfl, rfl, rfl, rfl⟩

@[simp] theorem word_setLane (at_ : Nat) (d n : Nat) (v : Lane) (s : State) : word at_ (setLane d n v s) = word at_ s
    := rfl

@[simp] theorem rd_setLane (at_ : Loc) (d n : Nat) (v : Lane) (s : State) : rd at_ (setLane d n v s) = rd at_ s := rfl

@[simp] theorem setBond_fields (i : Nat) (v : Bond) (s : State) : (setBond i v s).part = s.part ∧ (setBond i v
    s).straps = s.straps ∧ (setBond i v s).regs = s.regs ∧ (setBond i v s).mem = s.mem ∧ (setBond i v s).nv = s.nv ∧
    (setBond i v s).host = s.host ∧ (setBond i v s).flash = s.flash ∧ (setBond i v s).now = s.now ∧ (setBond i v
    s).clocks = s.clocks ∧ (setBond i v s).master = s.master ∧ (setBond i v s).landed = s.landed ∧ (setBond i v
    s).resp = s.resp ∧ (setBond i v s).sent = s.sent ∧ (setBond i v s).msgs = s.msgs ∧ (setBond i v s).freeSeq =
    s.freeSeq ∧ (setBond i v s).fenced = s.fenced ∧ (setBond i v s).unfPending = s.unfPending ∧ (setBond i v
    s).safeStop = s.safeStop ∧ (setBond i v s).errPulseEnd = s.errPulseEnd ∧ (setBond i v s).errAonHold = s.errAonHold
    ∧ (setBond i v s).releases = s.releases ∧ (setBond i v s).domains = s.domains ∧ (setBond i v s).txns = s.txns ∧
    (setBond i v s).xtxn = s.xtxn ∧ (setBond i v s).lastFsnValid = s.lastFsnValid ∧ (setBond i v s).slots = s.slots ∧
    (setBond i v s).planes = s.planes ∧ (setBond i v s).decls = s.decls ∧ (setBond i v s).retained = s.retained ∧
    (setBond i v s).freed = s.freed ∧ (setBond i v s).freedWait = s.freedWait ∧ (setBond i v s).spoilLog = s.spoilLog
    ∧ (setBond i v s).spoils = s.spoils ∧ (setBond i v s).badBlocks = s.badBlocks ∧ (setBond i v s).memTrained =
    s.memTrained ∧ (setBond i v s).dmas = s.dmas ∧ (setBond i v s).scrubs = s.scrubs ∧ (setBond i v s).jobs = s.jobs ∧
    (setBond i v s).jobNext = s.jobNext ∧ (setBond i v s).jobEnded = s.jobEnded ∧ (setBond i v s).dlanes = s.dlanes ∧
    (setBond i v s).counters = s.counters ∧ (setBond i v s).encoders = s.encoders ∧ (setBond i v s).cues = s.cues ∧
    (setBond i v s).startLists = s.startLists ∧ (setBond i v s).paths = s.paths ∧ (setBond i v s).purges = s.purges ∧
    (setBond i v s).logBusy = s.logBusy ∧ (setBond i v s).logWait = s.logWait ∧ (setBond i v s).focs = s.focs ∧
    (setBond i v s).buses = s.buses ∧ (setBond i v s).steps = s.steps ∧ (setBond i v s).ilkIn = s.ilkIn ∧ (setBond i v
    s).hokIn = s.hokIn ∧ (setBond i v s).stations = s.stations ∧ (setBond i v s).imagers = s.imagers ∧ (setBond i v
    s).loops = s.loops ∧ (setBond i v s).cffs = s.cffs ∧ (setBond i v s).aregOut = s.aregOut ∧ (setBond i v s).adcs =
    s.adcs ∧ (setBond i v s).heaters = s.heaters ∧ (setBond i v s).zeros = s.zeros ∧ (setBond i v s).hvOver = s.hvOver
    ∧ (setBond i v s).gpios = s.gpios ∧ (setBond i v s).eths = s.eths ∧ (setBond i v s).syncAt = s.syncAt ∧ (setBond i
    v s).loopNext = s.loopNext ∧ (setBond i v s).rails = s.rails ∧ (setBond i v s).rmon = s.rmon ∧ (setBond i v
    s).thermals = s.thermals ∧ (setBond i v s).stopAtRun = s.stopAtRun ∧ (setBond i v s).nvBad = s.nvBad ∧ (setBond i
    v s).logSeq = s.logSeq ∧ (setBond i v s).lanes = s.lanes ∧ (setBond i v s).rasters = s.rasters ∧ (setBond i v
    s).headLinks = s.headLinks ∧ (setBond i v s).marks = s.marks ∧ (setBond i v s).calJobs = s.calJobs ∧ (setBond i v
    s).ages = s.ages ∧ (setBond i v s).linksFenced = s.linksFenced ∧ (setBond i v s).clkFails = s.clkFails ∧ (setBond
    i v s).strapsAt = s.strapsAt ∧ (setBond i v s).boot = s.boot ∧ (setBond i v s).taps = s.taps ∧ (setBond i v
    s).dogs = s.dogs ∧ (setBond i v s).pcieUp = s.pcieUp ∧ (setBond i v s).bootWaits = s.bootWaits ∧ (setBond i v
    s).encEdges = s.encEdges ∧ (setBond i v s).pending = s.pending :=
  ⟨rfl, rfl, rfl, rfl, rfl, rfl, rfl, rfl, rfl, rfl, rfl, rfl, rfl, rfl, rfl, rfl, rfl, rfl, rfl, rfl, rfl, rfl, rfl,
    rfl, rfl, rfl, rfl, rfl, rfl, rfl, rfl, rfl, rfl, rfl, rfl, rfl, rfl, rfl, rfl, rfl, rfl, rfl, rfl, rfl, rfl, rfl,
    rfl, rfl, rfl, rfl, rfl, rfl, rfl, rfl, rfl, rfl, rfl, rfl, rfl, rfl, rfl, rfl, rfl, rfl, rfl, rfl, rfl, rfl, rfl,
    rfl, rfl, rfl, rfl, rfl, rfl, rfl, rfl, rfl, rfl, rfl, rfl, rfl, rfl, rfl, rfl, rfl, rfl, rfl, rfl⟩

@[simp] theorem word_setBond (at_ : Nat) (i : Nat) (v : Bond) (s : State) : word at_ (setBond i v s) = word at_ s :=
    rfl

@[simp] theorem rd_setBond (at_ : Loc) (i : Nat) (v : Bond) (s : State) : rd at_ (setBond i v s) = rd at_ s := rfl

@[simp] theorem setRaster_fields (d : Nat) (v : Raster) (s : State) : (setRaster d v s).part = s.part ∧ (setRaster d v
    s).straps = s.straps ∧ (setRaster d v s).regs = s.regs ∧ (setRaster d v s).mem = s.mem ∧ (setRaster d v s).nv =
    s.nv ∧ (setRaster d v s).host = s.host ∧ (setRaster d v s).flash = s.flash ∧ (setRaster d v s).now = s.now ∧
    (setRaster d v s).clocks = s.clocks ∧ (setRaster d v s).master = s.master ∧ (setRaster d v s).landed = s.landed ∧
    (setRaster d v s).resp = s.resp ∧ (setRaster d v s).sent = s.sent ∧ (setRaster d v s).msgs = s.msgs ∧ (setRaster d
    v s).freeSeq = s.freeSeq ∧ (setRaster d v s).fenced = s.fenced ∧ (setRaster d v s).unfPending = s.unfPending ∧
    (setRaster d v s).safeStop = s.safeStop ∧ (setRaster d v s).errPulseEnd = s.errPulseEnd ∧ (setRaster d v
    s).errAonHold = s.errAonHold ∧ (setRaster d v s).releases = s.releases ∧ (setRaster d v s).domains = s.domains ∧
    (setRaster d v s).txns = s.txns ∧ (setRaster d v s).xtxn = s.xtxn ∧ (setRaster d v s).lastFsnValid =
    s.lastFsnValid ∧ (setRaster d v s).slots = s.slots ∧ (setRaster d v s).planes = s.planes ∧ (setRaster d v s).decls
    = s.decls ∧ (setRaster d v s).retained = s.retained ∧ (setRaster d v s).freed = s.freed ∧ (setRaster d v
    s).freedWait = s.freedWait ∧ (setRaster d v s).spoilLog = s.spoilLog ∧ (setRaster d v s).spoils = s.spoils ∧
    (setRaster d v s).badBlocks = s.badBlocks ∧ (setRaster d v s).memTrained = s.memTrained ∧ (setRaster d v s).dmas =
    s.dmas ∧ (setRaster d v s).scrubs = s.scrubs ∧ (setRaster d v s).jobs = s.jobs ∧ (setRaster d v s).jobNext =
    s.jobNext ∧ (setRaster d v s).jobEnded = s.jobEnded ∧ (setRaster d v s).dlanes = s.dlanes ∧ (setRaster d v
    s).counters = s.counters ∧ (setRaster d v s).encoders = s.encoders ∧ (setRaster d v s).cues = s.cues ∧ (setRaster
    d v s).startLists = s.startLists ∧ (setRaster d v s).paths = s.paths ∧ (setRaster d v s).purges = s.purges ∧
    (setRaster d v s).logBusy = s.logBusy ∧ (setRaster d v s).logWait = s.logWait ∧ (setRaster d v s).focs = s.focs ∧
    (setRaster d v s).buses = s.buses ∧ (setRaster d v s).steps = s.steps ∧ (setRaster d v s).ilkIn = s.ilkIn ∧
    (setRaster d v s).hokIn = s.hokIn ∧ (setRaster d v s).stations = s.stations ∧ (setRaster d v s).imagers =
    s.imagers ∧ (setRaster d v s).loops = s.loops ∧ (setRaster d v s).cffs = s.cffs ∧ (setRaster d v s).aregOut =
    s.aregOut ∧ (setRaster d v s).adcs = s.adcs ∧ (setRaster d v s).heaters = s.heaters ∧ (setRaster d v s).zeros =
    s.zeros ∧ (setRaster d v s).hvOver = s.hvOver ∧ (setRaster d v s).gpios = s.gpios ∧ (setRaster d v s).eths =
    s.eths ∧ (setRaster d v s).syncAt = s.syncAt ∧ (setRaster d v s).loopNext = s.loopNext ∧ (setRaster d v s).rails =
    s.rails ∧ (setRaster d v s).rmon = s.rmon ∧ (setRaster d v s).thermals = s.thermals ∧ (setRaster d v s).stopAtRun
    = s.stopAtRun ∧ (setRaster d v s).nvBad = s.nvBad ∧ (setRaster d v s).logSeq = s.logSeq ∧ (setRaster d v s).lanes
    = s.lanes ∧ (setRaster d v s).headLinks = s.headLinks ∧ (setRaster d v s).bonds = s.bonds ∧ (setRaster d v
    s).marks = s.marks ∧ (setRaster d v s).calJobs = s.calJobs ∧ (setRaster d v s).ages = s.ages ∧ (setRaster d v
    s).linksFenced = s.linksFenced ∧ (setRaster d v s).clkFails = s.clkFails ∧ (setRaster d v s).strapsAt = s.strapsAt
    ∧ (setRaster d v s).boot = s.boot ∧ (setRaster d v s).taps = s.taps ∧ (setRaster d v s).dogs = s.dogs ∧ (setRaster
    d v s).pcieUp = s.pcieUp ∧ (setRaster d v s).bootWaits = s.bootWaits ∧ (setRaster d v s).encEdges = s.encEdges ∧
    (setRaster d v s).pending = s.pending :=
  ⟨rfl, rfl, rfl, rfl, rfl, rfl, rfl, rfl, rfl, rfl, rfl, rfl, rfl, rfl, rfl, rfl, rfl, rfl, rfl, rfl, rfl, rfl, rfl,
    rfl, rfl, rfl, rfl, rfl, rfl, rfl, rfl, rfl, rfl, rfl, rfl, rfl, rfl, rfl, rfl, rfl, rfl, rfl, rfl, rfl, rfl, rfl,
    rfl, rfl, rfl, rfl, rfl, rfl, rfl, rfl, rfl, rfl, rfl, rfl, rfl, rfl, rfl, rfl, rfl, rfl, rfl, rfl, rfl, rfl, rfl,
    rfl, rfl, rfl, rfl, rfl, rfl, rfl, rfl, rfl, rfl, rfl, rfl, rfl, rfl, rfl, rfl, rfl, rfl, rfl, rfl⟩

@[simp] theorem word_setRaster (at_ : Nat) (d : Nat) (v : Raster) (s : State) : word at_ (setRaster d v s) = word at_
    s := rfl

@[simp] theorem rd_setRaster (at_ : Loc) (d : Nat) (v : Raster) (s : State) : rd at_ (setRaster d v s) = rd at_ s :=
    rfl

@[simp] theorem setJob_fields (d n : Nat) (j : Option Job) (s : State) : (setJob d n j s).part = s.part ∧ (setJob d n
    j s).straps = s.straps ∧ (setJob d n j s).regs = s.regs ∧ (setJob d n j s).mem = s.mem ∧ (setJob d n j s).nv =
    s.nv ∧ (setJob d n j s).host = s.host ∧ (setJob d n j s).flash = s.flash ∧ (setJob d n j s).now = s.now ∧ (setJob
    d n j s).clocks = s.clocks ∧ (setJob d n j s).master = s.master ∧ (setJob d n j s).landed = s.landed ∧ (setJob d n
    j s).resp = s.resp ∧ (setJob d n j s).sent = s.sent ∧ (setJob d n j s).msgs = s.msgs ∧ (setJob d n j s).freeSeq =
    s.freeSeq ∧ (setJob d n j s).fenced = s.fenced ∧ (setJob d n j s).unfPending = s.unfPending ∧ (setJob d n j
    s).safeStop = s.safeStop ∧ (setJob d n j s).errPulseEnd = s.errPulseEnd ∧ (setJob d n j s).errAonHold =
    s.errAonHold ∧ (setJob d n j s).releases = s.releases ∧ (setJob d n j s).domains = s.domains ∧ (setJob d n j
    s).txns = s.txns ∧ (setJob d n j s).xtxn = s.xtxn ∧ (setJob d n j s).lastFsnValid = s.lastFsnValid ∧ (setJob d n j
    s).slots = s.slots ∧ (setJob d n j s).planes = s.planes ∧ (setJob d n j s).decls = s.decls ∧ (setJob d n j
    s).retained = s.retained ∧ (setJob d n j s).freed = s.freed ∧ (setJob d n j s).freedWait = s.freedWait ∧ (setJob d
    n j s).spoilLog = s.spoilLog ∧ (setJob d n j s).spoils = s.spoils ∧ (setJob d n j s).badBlocks = s.badBlocks ∧
    (setJob d n j s).memTrained = s.memTrained ∧ (setJob d n j s).dmas = s.dmas ∧ (setJob d n j s).scrubs = s.scrubs ∧
    (setJob d n j s).jobNext = s.jobNext ∧ (setJob d n j s).jobEnded = s.jobEnded ∧ (setJob d n j s).dlanes = s.dlanes
    ∧ (setJob d n j s).counters = s.counters ∧ (setJob d n j s).encoders = s.encoders ∧ (setJob d n j s).cues = s.cues
    ∧ (setJob d n j s).startLists = s.startLists ∧ (setJob d n j s).paths = s.paths ∧ (setJob d n j s).purges =
    s.purges ∧ (setJob d n j s).logBusy = s.logBusy ∧ (setJob d n j s).logWait = s.logWait ∧ (setJob d n j s).focs =
    s.focs ∧ (setJob d n j s).buses = s.buses ∧ (setJob d n j s).steps = s.steps ∧ (setJob d n j s).ilkIn = s.ilkIn ∧
    (setJob d n j s).hokIn = s.hokIn ∧ (setJob d n j s).stations = s.stations ∧ (setJob d n j s).imagers = s.imagers ∧
    (setJob d n j s).loops = s.loops ∧ (setJob d n j s).cffs = s.cffs ∧ (setJob d n j s).aregOut = s.aregOut ∧ (setJob
    d n j s).adcs = s.adcs ∧ (setJob d n j s).heaters = s.heaters ∧ (setJob d n j s).zeros = s.zeros ∧ (setJob d n j
    s).hvOver = s.hvOver ∧ (setJob d n j s).gpios = s.gpios ∧ (setJob d n j s).eths = s.eths ∧ (setJob d n j s).syncAt
    = s.syncAt ∧ (setJob d n j s).loopNext = s.loopNext ∧ (setJob d n j s).rails = s.rails ∧ (setJob d n j s).rmon =
    s.rmon ∧ (setJob d n j s).thermals = s.thermals ∧ (setJob d n j s).stopAtRun = s.stopAtRun ∧ (setJob d n j
    s).nvBad = s.nvBad ∧ (setJob d n j s).logSeq = s.logSeq ∧ (setJob d n j s).lanes = s.lanes ∧ (setJob d n j
    s).rasters = s.rasters ∧ (setJob d n j s).headLinks = s.headLinks ∧ (setJob d n j s).bonds = s.bonds ∧ (setJob d n
    j s).marks = s.marks ∧ (setJob d n j s).calJobs = s.calJobs ∧ (setJob d n j s).ages = s.ages ∧ (setJob d n j
    s).linksFenced = s.linksFenced ∧ (setJob d n j s).clkFails = s.clkFails ∧ (setJob d n j s).strapsAt = s.strapsAt ∧
    (setJob d n j s).boot = s.boot ∧ (setJob d n j s).taps = s.taps ∧ (setJob d n j s).dogs = s.dogs ∧ (setJob d n j
    s).pcieUp = s.pcieUp ∧ (setJob d n j s).bootWaits = s.bootWaits ∧ (setJob d n j s).encEdges = s.encEdges ∧ (setJob
    d n j s).pending = s.pending :=
  ⟨rfl, rfl, rfl, rfl, rfl, rfl, rfl, rfl, rfl, rfl, rfl, rfl, rfl, rfl, rfl, rfl, rfl, rfl, rfl, rfl, rfl, rfl, rfl,
    rfl, rfl, rfl, rfl, rfl, rfl, rfl, rfl, rfl, rfl, rfl, rfl, rfl, rfl, rfl, rfl, rfl, rfl, rfl, rfl, rfl, rfl, rfl,
    rfl, rfl, rfl, rfl, rfl, rfl, rfl, rfl, rfl, rfl, rfl, rfl, rfl, rfl, rfl, rfl, rfl, rfl, rfl, rfl, rfl, rfl, rfl,
    rfl, rfl, rfl, rfl, rfl, rfl, rfl, rfl, rfl, rfl, rfl, rfl, rfl, rfl, rfl, rfl, rfl, rfl, rfl, rfl⟩

@[simp] theorem word_setJob (at_ : Nat) (d n : Nat) (j : Option Job) (s : State) : word at_ (setJob d n j s) = word
    at_ s := rfl

@[simp] theorem rd_setJob (at_ : Loc) (d n : Nat) (j : Option Job) (s : State) : rd at_ (setJob d n j s) = rd at_ s :=
    rfl

@[simp] theorem setCue_fields (d n : Nat) (c : CueRun) (s : State) : (setCue d n c s).part = s.part ∧ (setCue d n c
    s).straps = s.straps ∧ (setCue d n c s).regs = s.regs ∧ (setCue d n c s).mem = s.mem ∧ (setCue d n c s).nv = s.nv
    ∧ (setCue d n c s).host = s.host ∧ (setCue d n c s).flash = s.flash ∧ (setCue d n c s).now = s.now ∧ (setCue d n c
    s).clocks = s.clocks ∧ (setCue d n c s).master = s.master ∧ (setCue d n c s).landed = s.landed ∧ (setCue d n c
    s).resp = s.resp ∧ (setCue d n c s).sent = s.sent ∧ (setCue d n c s).msgs = s.msgs ∧ (setCue d n c s).freeSeq =
    s.freeSeq ∧ (setCue d n c s).fenced = s.fenced ∧ (setCue d n c s).unfPending = s.unfPending ∧ (setCue d n c
    s).safeStop = s.safeStop ∧ (setCue d n c s).errPulseEnd = s.errPulseEnd ∧ (setCue d n c s).errAonHold =
    s.errAonHold ∧ (setCue d n c s).releases = s.releases ∧ (setCue d n c s).domains = s.domains ∧ (setCue d n c
    s).txns = s.txns ∧ (setCue d n c s).xtxn = s.xtxn ∧ (setCue d n c s).lastFsnValid = s.lastFsnValid ∧ (setCue d n c
    s).slots = s.slots ∧ (setCue d n c s).planes = s.planes ∧ (setCue d n c s).decls = s.decls ∧ (setCue d n c
    s).retained = s.retained ∧ (setCue d n c s).freed = s.freed ∧ (setCue d n c s).freedWait = s.freedWait ∧ (setCue d
    n c s).spoilLog = s.spoilLog ∧ (setCue d n c s).spoils = s.spoils ∧ (setCue d n c s).badBlocks = s.badBlocks ∧
    (setCue d n c s).memTrained = s.memTrained ∧ (setCue d n c s).dmas = s.dmas ∧ (setCue d n c s).scrubs = s.scrubs ∧
    (setCue d n c s).jobs = s.jobs ∧ (setCue d n c s).jobNext = s.jobNext ∧ (setCue d n c s).jobEnded = s.jobEnded ∧
    (setCue d n c s).dlanes = s.dlanes ∧ (setCue d n c s).counters = s.counters ∧ (setCue d n c s).encoders =
    s.encoders ∧ (setCue d n c s).startLists = s.startLists ∧ (setCue d n c s).paths = s.paths ∧ (setCue d n c
    s).purges = s.purges ∧ (setCue d n c s).logBusy = s.logBusy ∧ (setCue d n c s).logWait = s.logWait ∧ (setCue d n c
    s).focs = s.focs ∧ (setCue d n c s).buses = s.buses ∧ (setCue d n c s).steps = s.steps ∧ (setCue d n c s).ilkIn =
    s.ilkIn ∧ (setCue d n c s).hokIn = s.hokIn ∧ (setCue d n c s).stations = s.stations ∧ (setCue d n c s).imagers =
    s.imagers ∧ (setCue d n c s).loops = s.loops ∧ (setCue d n c s).cffs = s.cffs ∧ (setCue d n c s).aregOut =
    s.aregOut ∧ (setCue d n c s).adcs = s.adcs ∧ (setCue d n c s).heaters = s.heaters ∧ (setCue d n c s).zeros =
    s.zeros ∧ (setCue d n c s).hvOver = s.hvOver ∧ (setCue d n c s).gpios = s.gpios ∧ (setCue d n c s).eths = s.eths ∧
    (setCue d n c s).syncAt = s.syncAt ∧ (setCue d n c s).loopNext = s.loopNext ∧ (setCue d n c s).rails = s.rails ∧
    (setCue d n c s).rmon = s.rmon ∧ (setCue d n c s).thermals = s.thermals ∧ (setCue d n c s).stopAtRun = s.stopAtRun
    ∧ (setCue d n c s).nvBad = s.nvBad ∧ (setCue d n c s).logSeq = s.logSeq ∧ (setCue d n c s).lanes = s.lanes ∧
    (setCue d n c s).rasters = s.rasters ∧ (setCue d n c s).headLinks = s.headLinks ∧ (setCue d n c s).bonds = s.bonds
    ∧ (setCue d n c s).marks = s.marks ∧ (setCue d n c s).calJobs = s.calJobs ∧ (setCue d n c s).ages = s.ages ∧
    (setCue d n c s).linksFenced = s.linksFenced ∧ (setCue d n c s).clkFails = s.clkFails ∧ (setCue d n c s).strapsAt
    = s.strapsAt ∧ (setCue d n c s).boot = s.boot ∧ (setCue d n c s).taps = s.taps ∧ (setCue d n c s).dogs = s.dogs ∧
    (setCue d n c s).pcieUp = s.pcieUp ∧ (setCue d n c s).bootWaits = s.bootWaits ∧ (setCue d n c s).encEdges =
    s.encEdges ∧ (setCue d n c s).pending = s.pending :=
  ⟨rfl, rfl, rfl, rfl, rfl, rfl, rfl, rfl, rfl, rfl, rfl, rfl, rfl, rfl, rfl, rfl, rfl, rfl, rfl, rfl, rfl, rfl, rfl,
    rfl, rfl, rfl, rfl, rfl, rfl, rfl, rfl, rfl, rfl, rfl, rfl, rfl, rfl, rfl, rfl, rfl, rfl, rfl, rfl, rfl, rfl, rfl,
    rfl, rfl, rfl, rfl, rfl, rfl, rfl, rfl, rfl, rfl, rfl, rfl, rfl, rfl, rfl, rfl, rfl, rfl, rfl, rfl, rfl, rfl, rfl,
    rfl, rfl, rfl, rfl, rfl, rfl, rfl, rfl, rfl, rfl, rfl, rfl, rfl, rfl, rfl, rfl, rfl, rfl, rfl, rfl⟩

@[simp] theorem word_setCue (at_ : Nat) (d n : Nat) (c : CueRun) (s : State) : word at_ (setCue d n c s) = word at_ s
    := rfl

@[simp] theorem rd_setCue (at_ : Loc) (d n : Nat) (c : CueRun) (s : State) : rd at_ (setCue d n c s) = rd at_ s := rfl

@[simp] theorem setCounter_fields (d c : Nat) (v : PosCounter) (s : State) : (setCounter d c v s).part = s.part ∧
    (setCounter d c v s).straps = s.straps ∧ (setCounter d c v s).regs = s.regs ∧ (setCounter d c v s).mem = s.mem ∧
    (setCounter d c v s).nv = s.nv ∧ (setCounter d c v s).host = s.host ∧ (setCounter d c v s).flash = s.flash ∧
    (setCounter d c v s).now = s.now ∧ (setCounter d c v s).clocks = s.clocks ∧ (setCounter d c v s).master = s.master
    ∧ (setCounter d c v s).landed = s.landed ∧ (setCounter d c v s).resp = s.resp ∧ (setCounter d c v s).sent = s.sent
    ∧ (setCounter d c v s).msgs = s.msgs ∧ (setCounter d c v s).freeSeq = s.freeSeq ∧ (setCounter d c v s).fenced =
    s.fenced ∧ (setCounter d c v s).unfPending = s.unfPending ∧ (setCounter d c v s).safeStop = s.safeStop ∧
    (setCounter d c v s).errPulseEnd = s.errPulseEnd ∧ (setCounter d c v s).errAonHold = s.errAonHold ∧ (setCounter d
    c v s).releases = s.releases ∧ (setCounter d c v s).domains = s.domains ∧ (setCounter d c v s).txns = s.txns ∧
    (setCounter d c v s).xtxn = s.xtxn ∧ (setCounter d c v s).lastFsnValid = s.lastFsnValid ∧ (setCounter d c v
    s).slots = s.slots ∧ (setCounter d c v s).planes = s.planes ∧ (setCounter d c v s).decls = s.decls ∧ (setCounter d
    c v s).retained = s.retained ∧ (setCounter d c v s).freed = s.freed ∧ (setCounter d c v s).freedWait = s.freedWait
    ∧ (setCounter d c v s).spoilLog = s.spoilLog ∧ (setCounter d c v s).spoils = s.spoils ∧ (setCounter d c v
    s).badBlocks = s.badBlocks ∧ (setCounter d c v s).memTrained = s.memTrained ∧ (setCounter d c v s).dmas = s.dmas ∧
    (setCounter d c v s).scrubs = s.scrubs ∧ (setCounter d c v s).jobs = s.jobs ∧ (setCounter d c v s).jobNext =
    s.jobNext ∧ (setCounter d c v s).jobEnded = s.jobEnded ∧ (setCounter d c v s).dlanes = s.dlanes ∧ (setCounter d c
    v s).encoders = s.encoders ∧ (setCounter d c v s).cues = s.cues ∧ (setCounter d c v s).startLists = s.startLists ∧
    (setCounter d c v s).paths = s.paths ∧ (setCounter d c v s).purges = s.purges ∧ (setCounter d c v s).logBusy =
    s.logBusy ∧ (setCounter d c v s).logWait = s.logWait ∧ (setCounter d c v s).focs = s.focs ∧ (setCounter d c v
    s).buses = s.buses ∧ (setCounter d c v s).steps = s.steps ∧ (setCounter d c v s).ilkIn = s.ilkIn ∧ (setCounter d c
    v s).hokIn = s.hokIn ∧ (setCounter d c v s).stations = s.stations ∧ (setCounter d c v s).imagers = s.imagers ∧
    (setCounter d c v s).loops = s.loops ∧ (setCounter d c v s).cffs = s.cffs ∧ (setCounter d c v s).aregOut =
    s.aregOut ∧ (setCounter d c v s).adcs = s.adcs ∧ (setCounter d c v s).heaters = s.heaters ∧ (setCounter d c v
    s).zeros = s.zeros ∧ (setCounter d c v s).hvOver = s.hvOver ∧ (setCounter d c v s).gpios = s.gpios ∧ (setCounter d
    c v s).eths = s.eths ∧ (setCounter d c v s).syncAt = s.syncAt ∧ (setCounter d c v s).loopNext = s.loopNext ∧
    (setCounter d c v s).rails = s.rails ∧ (setCounter d c v s).rmon = s.rmon ∧ (setCounter d c v s).thermals =
    s.thermals ∧ (setCounter d c v s).stopAtRun = s.stopAtRun ∧ (setCounter d c v s).nvBad = s.nvBad ∧ (setCounter d c
    v s).logSeq = s.logSeq ∧ (setCounter d c v s).lanes = s.lanes ∧ (setCounter d c v s).rasters = s.rasters ∧
    (setCounter d c v s).headLinks = s.headLinks ∧ (setCounter d c v s).bonds = s.bonds ∧ (setCounter d c v s).marks =
    s.marks ∧ (setCounter d c v s).calJobs = s.calJobs ∧ (setCounter d c v s).ages = s.ages ∧ (setCounter d c v
    s).linksFenced = s.linksFenced ∧ (setCounter d c v s).clkFails = s.clkFails ∧ (setCounter d c v s).strapsAt =
    s.strapsAt ∧ (setCounter d c v s).boot = s.boot ∧ (setCounter d c v s).taps = s.taps ∧ (setCounter d c v s).dogs =
    s.dogs ∧ (setCounter d c v s).pcieUp = s.pcieUp ∧ (setCounter d c v s).bootWaits = s.bootWaits ∧ (setCounter d c v
    s).encEdges = s.encEdges ∧ (setCounter d c v s).pending = s.pending :=
  ⟨rfl, rfl, rfl, rfl, rfl, rfl, rfl, rfl, rfl, rfl, rfl, rfl, rfl, rfl, rfl, rfl, rfl, rfl, rfl, rfl, rfl, rfl, rfl,
    rfl, rfl, rfl, rfl, rfl, rfl, rfl, rfl, rfl, rfl, rfl, rfl, rfl, rfl, rfl, rfl, rfl, rfl, rfl, rfl, rfl, rfl, rfl,
    rfl, rfl, rfl, rfl, rfl, rfl, rfl, rfl, rfl, rfl, rfl, rfl, rfl, rfl, rfl, rfl, rfl, rfl, rfl, rfl, rfl, rfl, rfl,
    rfl, rfl, rfl, rfl, rfl, rfl, rfl, rfl, rfl, rfl, rfl, rfl, rfl, rfl, rfl, rfl, rfl, rfl, rfl, rfl⟩

@[simp] theorem word_setCounter (at_ : Nat) (d c : Nat) (v : PosCounter) (s : State) : word at_ (setCounter d c v s) =
    word at_ s := rfl

@[simp] theorem rd_setCounter (at_ : Loc) (d c : Nat) (v : PosCounter) (s : State) : rd at_ (setCounter d c v s) = rd
    at_ s := rfl

@[simp] theorem setDma_fields (d n : Nat) (c : DmaCh) (s : State) : (setDma d n c s).part = s.part ∧ (setDma d n c
    s).straps = s.straps ∧ (setDma d n c s).regs = s.regs ∧ (setDma d n c s).mem = s.mem ∧ (setDma d n c s).nv = s.nv
    ∧ (setDma d n c s).host = s.host ∧ (setDma d n c s).flash = s.flash ∧ (setDma d n c s).now = s.now ∧ (setDma d n c
    s).clocks = s.clocks ∧ (setDma d n c s).master = s.master ∧ (setDma d n c s).landed = s.landed ∧ (setDma d n c
    s).resp = s.resp ∧ (setDma d n c s).sent = s.sent ∧ (setDma d n c s).msgs = s.msgs ∧ (setDma d n c s).freeSeq =
    s.freeSeq ∧ (setDma d n c s).fenced = s.fenced ∧ (setDma d n c s).unfPending = s.unfPending ∧ (setDma d n c
    s).safeStop = s.safeStop ∧ (setDma d n c s).errPulseEnd = s.errPulseEnd ∧ (setDma d n c s).errAonHold =
    s.errAonHold ∧ (setDma d n c s).releases = s.releases ∧ (setDma d n c s).domains = s.domains ∧ (setDma d n c
    s).txns = s.txns ∧ (setDma d n c s).xtxn = s.xtxn ∧ (setDma d n c s).lastFsnValid = s.lastFsnValid ∧ (setDma d n c
    s).slots = s.slots ∧ (setDma d n c s).planes = s.planes ∧ (setDma d n c s).decls = s.decls ∧ (setDma d n c
    s).retained = s.retained ∧ (setDma d n c s).freed = s.freed ∧ (setDma d n c s).freedWait = s.freedWait ∧ (setDma d
    n c s).spoilLog = s.spoilLog ∧ (setDma d n c s).spoils = s.spoils ∧ (setDma d n c s).badBlocks = s.badBlocks ∧
    (setDma d n c s).memTrained = s.memTrained ∧ (setDma d n c s).scrubs = s.scrubs ∧ (setDma d n c s).jobs = s.jobs ∧
    (setDma d n c s).jobNext = s.jobNext ∧ (setDma d n c s).jobEnded = s.jobEnded ∧ (setDma d n c s).dlanes = s.dlanes
    ∧ (setDma d n c s).counters = s.counters ∧ (setDma d n c s).encoders = s.encoders ∧ (setDma d n c s).cues = s.cues
    ∧ (setDma d n c s).startLists = s.startLists ∧ (setDma d n c s).paths = s.paths ∧ (setDma d n c s).purges =
    s.purges ∧ (setDma d n c s).logBusy = s.logBusy ∧ (setDma d n c s).logWait = s.logWait ∧ (setDma d n c s).focs =
    s.focs ∧ (setDma d n c s).buses = s.buses ∧ (setDma d n c s).steps = s.steps ∧ (setDma d n c s).ilkIn = s.ilkIn ∧
    (setDma d n c s).hokIn = s.hokIn ∧ (setDma d n c s).stations = s.stations ∧ (setDma d n c s).imagers = s.imagers ∧
    (setDma d n c s).loops = s.loops ∧ (setDma d n c s).cffs = s.cffs ∧ (setDma d n c s).aregOut = s.aregOut ∧ (setDma
    d n c s).adcs = s.adcs ∧ (setDma d n c s).heaters = s.heaters ∧ (setDma d n c s).zeros = s.zeros ∧ (setDma d n c
    s).hvOver = s.hvOver ∧ (setDma d n c s).gpios = s.gpios ∧ (setDma d n c s).eths = s.eths ∧ (setDma d n c s).syncAt
    = s.syncAt ∧ (setDma d n c s).loopNext = s.loopNext ∧ (setDma d n c s).rails = s.rails ∧ (setDma d n c s).rmon =
    s.rmon ∧ (setDma d n c s).thermals = s.thermals ∧ (setDma d n c s).stopAtRun = s.stopAtRun ∧ (setDma d n c
    s).nvBad = s.nvBad ∧ (setDma d n c s).logSeq = s.logSeq ∧ (setDma d n c s).lanes = s.lanes ∧ (setDma d n c
    s).rasters = s.rasters ∧ (setDma d n c s).headLinks = s.headLinks ∧ (setDma d n c s).bonds = s.bonds ∧ (setDma d n
    c s).marks = s.marks ∧ (setDma d n c s).calJobs = s.calJobs ∧ (setDma d n c s).ages = s.ages ∧ (setDma d n c
    s).linksFenced = s.linksFenced ∧ (setDma d n c s).clkFails = s.clkFails ∧ (setDma d n c s).strapsAt = s.strapsAt ∧
    (setDma d n c s).boot = s.boot ∧ (setDma d n c s).taps = s.taps ∧ (setDma d n c s).dogs = s.dogs ∧ (setDma d n c
    s).pcieUp = s.pcieUp ∧ (setDma d n c s).bootWaits = s.bootWaits ∧ (setDma d n c s).encEdges = s.encEdges ∧ (setDma
    d n c s).pending = s.pending :=
  ⟨rfl, rfl, rfl, rfl, rfl, rfl, rfl, rfl, rfl, rfl, rfl, rfl, rfl, rfl, rfl, rfl, rfl, rfl, rfl, rfl, rfl, rfl, rfl,
    rfl, rfl, rfl, rfl, rfl, rfl, rfl, rfl, rfl, rfl, rfl, rfl, rfl, rfl, rfl, rfl, rfl, rfl, rfl, rfl, rfl, rfl, rfl,
    rfl, rfl, rfl, rfl, rfl, rfl, rfl, rfl, rfl, rfl, rfl, rfl, rfl, rfl, rfl, rfl, rfl, rfl, rfl, rfl, rfl, rfl, rfl,
    rfl, rfl, rfl, rfl, rfl, rfl, rfl, rfl, rfl, rfl, rfl, rfl, rfl, rfl, rfl, rfl, rfl, rfl, rfl, rfl⟩

@[simp] theorem word_setDma (at_ : Nat) (d n : Nat) (c : DmaCh) (s : State) : word at_ (setDma d n c s) = word at_ s
    := rfl

@[simp] theorem rd_setDma (at_ : Loc) (d n : Nat) (c : DmaCh) (s : State) : rd at_ (setDma d n c s) = rd at_ s := rfl

@[simp] theorem setFoc_fields (d n : Nat) (c : FocCh) (s : State) : (setFoc d n c s).part = s.part ∧ (setFoc d n c
    s).straps = s.straps ∧ (setFoc d n c s).regs = s.regs ∧ (setFoc d n c s).mem = s.mem ∧ (setFoc d n c s).nv = s.nv
    ∧ (setFoc d n c s).host = s.host ∧ (setFoc d n c s).flash = s.flash ∧ (setFoc d n c s).now = s.now ∧ (setFoc d n c
    s).clocks = s.clocks ∧ (setFoc d n c s).master = s.master ∧ (setFoc d n c s).landed = s.landed ∧ (setFoc d n c
    s).resp = s.resp ∧ (setFoc d n c s).sent = s.sent ∧ (setFoc d n c s).msgs = s.msgs ∧ (setFoc d n c s).freeSeq =
    s.freeSeq ∧ (setFoc d n c s).fenced = s.fenced ∧ (setFoc d n c s).unfPending = s.unfPending ∧ (setFoc d n c
    s).safeStop = s.safeStop ∧ (setFoc d n c s).errPulseEnd = s.errPulseEnd ∧ (setFoc d n c s).errAonHold =
    s.errAonHold ∧ (setFoc d n c s).releases = s.releases ∧ (setFoc d n c s).domains = s.domains ∧ (setFoc d n c
    s).txns = s.txns ∧ (setFoc d n c s).xtxn = s.xtxn ∧ (setFoc d n c s).lastFsnValid = s.lastFsnValid ∧ (setFoc d n c
    s).slots = s.slots ∧ (setFoc d n c s).planes = s.planes ∧ (setFoc d n c s).decls = s.decls ∧ (setFoc d n c
    s).retained = s.retained ∧ (setFoc d n c s).freed = s.freed ∧ (setFoc d n c s).freedWait = s.freedWait ∧ (setFoc d
    n c s).spoilLog = s.spoilLog ∧ (setFoc d n c s).spoils = s.spoils ∧ (setFoc d n c s).badBlocks = s.badBlocks ∧
    (setFoc d n c s).memTrained = s.memTrained ∧ (setFoc d n c s).dmas = s.dmas ∧ (setFoc d n c s).scrubs = s.scrubs ∧
    (setFoc d n c s).jobs = s.jobs ∧ (setFoc d n c s).jobNext = s.jobNext ∧ (setFoc d n c s).jobEnded = s.jobEnded ∧
    (setFoc d n c s).dlanes = s.dlanes ∧ (setFoc d n c s).counters = s.counters ∧ (setFoc d n c s).encoders =
    s.encoders ∧ (setFoc d n c s).cues = s.cues ∧ (setFoc d n c s).startLists = s.startLists ∧ (setFoc d n c s).paths
    = s.paths ∧ (setFoc d n c s).purges = s.purges ∧ (setFoc d n c s).logBusy = s.logBusy ∧ (setFoc d n c s).logWait =
    s.logWait ∧ (setFoc d n c s).buses = s.buses ∧ (setFoc d n c s).steps = s.steps ∧ (setFoc d n c s).ilkIn = s.ilkIn
    ∧ (setFoc d n c s).hokIn = s.hokIn ∧ (setFoc d n c s).stations = s.stations ∧ (setFoc d n c s).imagers = s.imagers
    ∧ (setFoc d n c s).loops = s.loops ∧ (setFoc d n c s).cffs = s.cffs ∧ (setFoc d n c s).aregOut = s.aregOut ∧
    (setFoc d n c s).adcs = s.adcs ∧ (setFoc d n c s).heaters = s.heaters ∧ (setFoc d n c s).zeros = s.zeros ∧ (setFoc
    d n c s).hvOver = s.hvOver ∧ (setFoc d n c s).gpios = s.gpios ∧ (setFoc d n c s).eths = s.eths ∧ (setFoc d n c
    s).syncAt = s.syncAt ∧ (setFoc d n c s).loopNext = s.loopNext ∧ (setFoc d n c s).rails = s.rails ∧ (setFoc d n c
    s).rmon = s.rmon ∧ (setFoc d n c s).thermals = s.thermals ∧ (setFoc d n c s).stopAtRun = s.stopAtRun ∧ (setFoc d n
    c s).nvBad = s.nvBad ∧ (setFoc d n c s).logSeq = s.logSeq ∧ (setFoc d n c s).lanes = s.lanes ∧ (setFoc d n c
    s).rasters = s.rasters ∧ (setFoc d n c s).headLinks = s.headLinks ∧ (setFoc d n c s).bonds = s.bonds ∧ (setFoc d n
    c s).marks = s.marks ∧ (setFoc d n c s).calJobs = s.calJobs ∧ (setFoc d n c s).ages = s.ages ∧ (setFoc d n c
    s).linksFenced = s.linksFenced ∧ (setFoc d n c s).clkFails = s.clkFails ∧ (setFoc d n c s).strapsAt = s.strapsAt ∧
    (setFoc d n c s).boot = s.boot ∧ (setFoc d n c s).taps = s.taps ∧ (setFoc d n c s).dogs = s.dogs ∧ (setFoc d n c
    s).pcieUp = s.pcieUp ∧ (setFoc d n c s).bootWaits = s.bootWaits ∧ (setFoc d n c s).encEdges = s.encEdges ∧ (setFoc
    d n c s).pending = s.pending :=
  ⟨rfl, rfl, rfl, rfl, rfl, rfl, rfl, rfl, rfl, rfl, rfl, rfl, rfl, rfl, rfl, rfl, rfl, rfl, rfl, rfl, rfl, rfl, rfl,
    rfl, rfl, rfl, rfl, rfl, rfl, rfl, rfl, rfl, rfl, rfl, rfl, rfl, rfl, rfl, rfl, rfl, rfl, rfl, rfl, rfl, rfl, rfl,
    rfl, rfl, rfl, rfl, rfl, rfl, rfl, rfl, rfl, rfl, rfl, rfl, rfl, rfl, rfl, rfl, rfl, rfl, rfl, rfl, rfl, rfl, rfl,
    rfl, rfl, rfl, rfl, rfl, rfl, rfl, rfl, rfl, rfl, rfl, rfl, rfl, rfl, rfl, rfl, rfl, rfl, rfl, rfl⟩

@[simp] theorem word_setFoc (at_ : Nat) (d n : Nat) (c : FocCh) (s : State) : word at_ (setFoc d n c s) = word at_ s
    := rfl

@[simp] theorem rd_setFoc (at_ : Loc) (d n : Nat) (c : FocCh) (s : State) : rd at_ (setFoc d n c s) = rd at_ s := rfl

@[simp] theorem setBus_fields (d b : Nat) (v : BusRun) (s : State) : (setBus d b v s).part = s.part ∧ (setBus d b v
    s).straps = s.straps ∧ (setBus d b v s).regs = s.regs ∧ (setBus d b v s).mem = s.mem ∧ (setBus d b v s).nv = s.nv
    ∧ (setBus d b v s).host = s.host ∧ (setBus d b v s).flash = s.flash ∧ (setBus d b v s).now = s.now ∧ (setBus d b v
    s).clocks = s.clocks ∧ (setBus d b v s).master = s.master ∧ (setBus d b v s).landed = s.landed ∧ (setBus d b v
    s).resp = s.resp ∧ (setBus d b v s).sent = s.sent ∧ (setBus d b v s).msgs = s.msgs ∧ (setBus d b v s).freeSeq =
    s.freeSeq ∧ (setBus d b v s).fenced = s.fenced ∧ (setBus d b v s).unfPending = s.unfPending ∧ (setBus d b v
    s).safeStop = s.safeStop ∧ (setBus d b v s).errPulseEnd = s.errPulseEnd ∧ (setBus d b v s).errAonHold =
    s.errAonHold ∧ (setBus d b v s).releases = s.releases ∧ (setBus d b v s).domains = s.domains ∧ (setBus d b v
    s).txns = s.txns ∧ (setBus d b v s).xtxn = s.xtxn ∧ (setBus d b v s).lastFsnValid = s.lastFsnValid ∧ (setBus d b v
    s).slots = s.slots ∧ (setBus d b v s).planes = s.planes ∧ (setBus d b v s).decls = s.decls ∧ (setBus d b v
    s).retained = s.retained ∧ (setBus d b v s).freed = s.freed ∧ (setBus d b v s).freedWait = s.freedWait ∧ (setBus d
    b v s).spoilLog = s.spoilLog ∧ (setBus d b v s).spoils = s.spoils ∧ (setBus d b v s).badBlocks = s.badBlocks ∧
    (setBus d b v s).memTrained = s.memTrained ∧ (setBus d b v s).dmas = s.dmas ∧ (setBus d b v s).scrubs = s.scrubs ∧
    (setBus d b v s).jobs = s.jobs ∧ (setBus d b v s).jobNext = s.jobNext ∧ (setBus d b v s).jobEnded = s.jobEnded ∧
    (setBus d b v s).dlanes = s.dlanes ∧ (setBus d b v s).counters = s.counters ∧ (setBus d b v s).encoders =
    s.encoders ∧ (setBus d b v s).cues = s.cues ∧ (setBus d b v s).startLists = s.startLists ∧ (setBus d b v s).paths
    = s.paths ∧ (setBus d b v s).purges = s.purges ∧ (setBus d b v s).logBusy = s.logBusy ∧ (setBus d b v s).logWait =
    s.logWait ∧ (setBus d b v s).focs = s.focs ∧ (setBus d b v s).steps = s.steps ∧ (setBus d b v s).ilkIn = s.ilkIn ∧
    (setBus d b v s).hokIn = s.hokIn ∧ (setBus d b v s).stations = s.stations ∧ (setBus d b v s).imagers = s.imagers ∧
    (setBus d b v s).loops = s.loops ∧ (setBus d b v s).cffs = s.cffs ∧ (setBus d b v s).aregOut = s.aregOut ∧ (setBus
    d b v s).adcs = s.adcs ∧ (setBus d b v s).heaters = s.heaters ∧ (setBus d b v s).zeros = s.zeros ∧ (setBus d b v
    s).hvOver = s.hvOver ∧ (setBus d b v s).gpios = s.gpios ∧ (setBus d b v s).eths = s.eths ∧ (setBus d b v s).syncAt
    = s.syncAt ∧ (setBus d b v s).loopNext = s.loopNext ∧ (setBus d b v s).rails = s.rails ∧ (setBus d b v s).rmon =
    s.rmon ∧ (setBus d b v s).thermals = s.thermals ∧ (setBus d b v s).stopAtRun = s.stopAtRun ∧ (setBus d b v
    s).nvBad = s.nvBad ∧ (setBus d b v s).logSeq = s.logSeq ∧ (setBus d b v s).lanes = s.lanes ∧ (setBus d b v
    s).rasters = s.rasters ∧ (setBus d b v s).headLinks = s.headLinks ∧ (setBus d b v s).bonds = s.bonds ∧ (setBus d b
    v s).marks = s.marks ∧ (setBus d b v s).calJobs = s.calJobs ∧ (setBus d b v s).ages = s.ages ∧ (setBus d b v
    s).linksFenced = s.linksFenced ∧ (setBus d b v s).clkFails = s.clkFails ∧ (setBus d b v s).strapsAt = s.strapsAt ∧
    (setBus d b v s).boot = s.boot ∧ (setBus d b v s).taps = s.taps ∧ (setBus d b v s).dogs = s.dogs ∧ (setBus d b v
    s).pcieUp = s.pcieUp ∧ (setBus d b v s).bootWaits = s.bootWaits ∧ (setBus d b v s).encEdges = s.encEdges ∧ (setBus
    d b v s).pending = s.pending :=
  ⟨rfl, rfl, rfl, rfl, rfl, rfl, rfl, rfl, rfl, rfl, rfl, rfl, rfl, rfl, rfl, rfl, rfl, rfl, rfl, rfl, rfl, rfl, rfl,
    rfl, rfl, rfl, rfl, rfl, rfl, rfl, rfl, rfl, rfl, rfl, rfl, rfl, rfl, rfl, rfl, rfl, rfl, rfl, rfl, rfl, rfl, rfl,
    rfl, rfl, rfl, rfl, rfl, rfl, rfl, rfl, rfl, rfl, rfl, rfl, rfl, rfl, rfl, rfl, rfl, rfl, rfl, rfl, rfl, rfl, rfl,
    rfl, rfl, rfl, rfl, rfl, rfl, rfl, rfl, rfl, rfl, rfl, rfl, rfl, rfl, rfl, rfl, rfl, rfl, rfl, rfl⟩

@[simp] theorem word_setBus (at_ : Nat) (d b : Nat) (v : BusRun) (s : State) : word at_ (setBus d b v s) = word at_ s
    := rfl

@[simp] theorem rd_setBus (at_ : Loc) (d b : Nat) (v : BusRun) (s : State) : rd at_ (setBus d b v s) = rd at_ s := rfl

@[simp] theorem setGpio_fields (d : Nat) (g : Gpio) (s : State) : (setGpio d g s).part = s.part ∧ (setGpio d g
    s).straps = s.straps ∧ (setGpio d g s).regs = s.regs ∧ (setGpio d g s).mem = s.mem ∧ (setGpio d g s).nv = s.nv ∧
    (setGpio d g s).host = s.host ∧ (setGpio d g s).flash = s.flash ∧ (setGpio d g s).now = s.now ∧ (setGpio d g
    s).clocks = s.clocks ∧ (setGpio d g s).master = s.master ∧ (setGpio d g s).landed = s.landed ∧ (setGpio d g
    s).resp = s.resp ∧ (setGpio d g s).sent = s.sent ∧ (setGpio d g s).msgs = s.msgs ∧ (setGpio d g s).freeSeq =
    s.freeSeq ∧ (setGpio d g s).fenced = s.fenced ∧ (setGpio d g s).unfPending = s.unfPending ∧ (setGpio d g
    s).safeStop = s.safeStop ∧ (setGpio d g s).errPulseEnd = s.errPulseEnd ∧ (setGpio d g s).errAonHold = s.errAonHold
    ∧ (setGpio d g s).releases = s.releases ∧ (setGpio d g s).domains = s.domains ∧ (setGpio d g s).txns = s.txns ∧
    (setGpio d g s).xtxn = s.xtxn ∧ (setGpio d g s).lastFsnValid = s.lastFsnValid ∧ (setGpio d g s).slots = s.slots ∧
    (setGpio d g s).planes = s.planes ∧ (setGpio d g s).decls = s.decls ∧ (setGpio d g s).retained = s.retained ∧
    (setGpio d g s).freed = s.freed ∧ (setGpio d g s).freedWait = s.freedWait ∧ (setGpio d g s).spoilLog = s.spoilLog
    ∧ (setGpio d g s).spoils = s.spoils ∧ (setGpio d g s).badBlocks = s.badBlocks ∧ (setGpio d g s).memTrained =
    s.memTrained ∧ (setGpio d g s).dmas = s.dmas ∧ (setGpio d g s).scrubs = s.scrubs ∧ (setGpio d g s).jobs = s.jobs ∧
    (setGpio d g s).jobNext = s.jobNext ∧ (setGpio d g s).jobEnded = s.jobEnded ∧ (setGpio d g s).dlanes = s.dlanes ∧
    (setGpio d g s).counters = s.counters ∧ (setGpio d g s).encoders = s.encoders ∧ (setGpio d g s).cues = s.cues ∧
    (setGpio d g s).startLists = s.startLists ∧ (setGpio d g s).paths = s.paths ∧ (setGpio d g s).purges = s.purges ∧
    (setGpio d g s).logBusy = s.logBusy ∧ (setGpio d g s).logWait = s.logWait ∧ (setGpio d g s).focs = s.focs ∧
    (setGpio d g s).buses = s.buses ∧ (setGpio d g s).steps = s.steps ∧ (setGpio d g s).ilkIn = s.ilkIn ∧ (setGpio d g
    s).hokIn = s.hokIn ∧ (setGpio d g s).stations = s.stations ∧ (setGpio d g s).imagers = s.imagers ∧ (setGpio d g
    s).loops = s.loops ∧ (setGpio d g s).cffs = s.cffs ∧ (setGpio d g s).aregOut = s.aregOut ∧ (setGpio d g s).adcs =
    s.adcs ∧ (setGpio d g s).heaters = s.heaters ∧ (setGpio d g s).zeros = s.zeros ∧ (setGpio d g s).hvOver = s.hvOver
    ∧ (setGpio d g s).eths = s.eths ∧ (setGpio d g s).syncAt = s.syncAt ∧ (setGpio d g s).loopNext = s.loopNext ∧
    (setGpio d g s).rails = s.rails ∧ (setGpio d g s).rmon = s.rmon ∧ (setGpio d g s).thermals = s.thermals ∧ (setGpio
    d g s).stopAtRun = s.stopAtRun ∧ (setGpio d g s).nvBad = s.nvBad ∧ (setGpio d g s).logSeq = s.logSeq ∧ (setGpio d
    g s).lanes = s.lanes ∧ (setGpio d g s).rasters = s.rasters ∧ (setGpio d g s).headLinks = s.headLinks ∧ (setGpio d
    g s).bonds = s.bonds ∧ (setGpio d g s).marks = s.marks ∧ (setGpio d g s).calJobs = s.calJobs ∧ (setGpio d g
    s).ages = s.ages ∧ (setGpio d g s).linksFenced = s.linksFenced ∧ (setGpio d g s).clkFails = s.clkFails ∧ (setGpio
    d g s).strapsAt = s.strapsAt ∧ (setGpio d g s).boot = s.boot ∧ (setGpio d g s).taps = s.taps ∧ (setGpio d g
    s).dogs = s.dogs ∧ (setGpio d g s).pcieUp = s.pcieUp ∧ (setGpio d g s).bootWaits = s.bootWaits ∧ (setGpio d g
    s).encEdges = s.encEdges ∧ (setGpio d g s).pending = s.pending :=
  ⟨rfl, rfl, rfl, rfl, rfl, rfl, rfl, rfl, rfl, rfl, rfl, rfl, rfl, rfl, rfl, rfl, rfl, rfl, rfl, rfl, rfl, rfl, rfl,
    rfl, rfl, rfl, rfl, rfl, rfl, rfl, rfl, rfl, rfl, rfl, rfl, rfl, rfl, rfl, rfl, rfl, rfl, rfl, rfl, rfl, rfl, rfl,
    rfl, rfl, rfl, rfl, rfl, rfl, rfl, rfl, rfl, rfl, rfl, rfl, rfl, rfl, rfl, rfl, rfl, rfl, rfl, rfl, rfl, rfl, rfl,
    rfl, rfl, rfl, rfl, rfl, rfl, rfl, rfl, rfl, rfl, rfl, rfl, rfl, rfl, rfl, rfl, rfl, rfl, rfl, rfl⟩

@[simp] theorem word_setGpio (at_ : Nat) (d : Nat) (g : Gpio) (s : State) : word at_ (setGpio d g s) = word at_ s :=
    rfl

@[simp] theorem rd_setGpio (at_ : Loc) (d : Nat) (g : Gpio) (s : State) : rd at_ (setGpio d g s) = rd at_ s := rfl

@[simp] theorem setHeater_fields (d h : Nat) (v : Heater) (s : State) : (setHeater d h v s).part = s.part ∧ (setHeater
    d h v s).straps = s.straps ∧ (setHeater d h v s).regs = s.regs ∧ (setHeater d h v s).mem = s.mem ∧ (setHeater d h
    v s).nv = s.nv ∧ (setHeater d h v s).host = s.host ∧ (setHeater d h v s).flash = s.flash ∧ (setHeater d h v s).now
    = s.now ∧ (setHeater d h v s).clocks = s.clocks ∧ (setHeater d h v s).master = s.master ∧ (setHeater d h v
    s).landed = s.landed ∧ (setHeater d h v s).resp = s.resp ∧ (setHeater d h v s).sent = s.sent ∧ (setHeater d h v
    s).msgs = s.msgs ∧ (setHeater d h v s).freeSeq = s.freeSeq ∧ (setHeater d h v s).fenced = s.fenced ∧ (setHeater d
    h v s).unfPending = s.unfPending ∧ (setHeater d h v s).safeStop = s.safeStop ∧ (setHeater d h v s).errPulseEnd =
    s.errPulseEnd ∧ (setHeater d h v s).errAonHold = s.errAonHold ∧ (setHeater d h v s).releases = s.releases ∧
    (setHeater d h v s).domains = s.domains ∧ (setHeater d h v s).txns = s.txns ∧ (setHeater d h v s).xtxn = s.xtxn ∧
    (setHeater d h v s).lastFsnValid = s.lastFsnValid ∧ (setHeater d h v s).slots = s.slots ∧ (setHeater d h v
    s).planes = s.planes ∧ (setHeater d h v s).decls = s.decls ∧ (setHeater d h v s).retained = s.retained ∧
    (setHeater d h v s).freed = s.freed ∧ (setHeater d h v s).freedWait = s.freedWait ∧ (setHeater d h v s).spoilLog =
    s.spoilLog ∧ (setHeater d h v s).spoils = s.spoils ∧ (setHeater d h v s).badBlocks = s.badBlocks ∧ (setHeater d h
    v s).memTrained = s.memTrained ∧ (setHeater d h v s).dmas = s.dmas ∧ (setHeater d h v s).scrubs = s.scrubs ∧
    (setHeater d h v s).jobs = s.jobs ∧ (setHeater d h v s).jobNext = s.jobNext ∧ (setHeater d h v s).jobEnded =
    s.jobEnded ∧ (setHeater d h v s).dlanes = s.dlanes ∧ (setHeater d h v s).counters = s.counters ∧ (setHeater d h v
    s).encoders = s.encoders ∧ (setHeater d h v s).cues = s.cues ∧ (setHeater d h v s).startLists = s.startLists ∧
    (setHeater d h v s).paths = s.paths ∧ (setHeater d h v s).purges = s.purges ∧ (setHeater d h v s).logBusy =
    s.logBusy ∧ (setHeater d h v s).logWait = s.logWait ∧ (setHeater d h v s).focs = s.focs ∧ (setHeater d h v
    s).buses = s.buses ∧ (setHeater d h v s).steps = s.steps ∧ (setHeater d h v s).ilkIn = s.ilkIn ∧ (setHeater d h v
    s).hokIn = s.hokIn ∧ (setHeater d h v s).stations = s.stations ∧ (setHeater d h v s).imagers = s.imagers ∧
    (setHeater d h v s).loops = s.loops ∧ (setHeater d h v s).cffs = s.cffs ∧ (setHeater d h v s).aregOut = s.aregOut
    ∧ (setHeater d h v s).adcs = s.adcs ∧ (setHeater d h v s).zeros = s.zeros ∧ (setHeater d h v s).hvOver = s.hvOver
    ∧ (setHeater d h v s).gpios = s.gpios ∧ (setHeater d h v s).eths = s.eths ∧ (setHeater d h v s).syncAt = s.syncAt
    ∧ (setHeater d h v s).loopNext = s.loopNext ∧ (setHeater d h v s).rails = s.rails ∧ (setHeater d h v s).rmon =
    s.rmon ∧ (setHeater d h v s).thermals = s.thermals ∧ (setHeater d h v s).stopAtRun = s.stopAtRun ∧ (setHeater d h
    v s).nvBad = s.nvBad ∧ (setHeater d h v s).logSeq = s.logSeq ∧ (setHeater d h v s).lanes = s.lanes ∧ (setHeater d
    h v s).rasters = s.rasters ∧ (setHeater d h v s).headLinks = s.headLinks ∧ (setHeater d h v s).bonds = s.bonds ∧
    (setHeater d h v s).marks = s.marks ∧ (setHeater d h v s).calJobs = s.calJobs ∧ (setHeater d h v s).ages = s.ages
    ∧ (setHeater d h v s).linksFenced = s.linksFenced ∧ (setHeater d h v s).clkFails = s.clkFails ∧ (setHeater d h v
    s).strapsAt = s.strapsAt ∧ (setHeater d h v s).boot = s.boot ∧ (setHeater d h v s).taps = s.taps ∧ (setHeater d h
    v s).dogs = s.dogs ∧ (setHeater d h v s).pcieUp = s.pcieUp ∧ (setHeater d h v s).bootWaits = s.bootWaits ∧
    (setHeater d h v s).encEdges = s.encEdges ∧ (setHeater d h v s).pending = s.pending :=
  ⟨rfl, rfl, rfl, rfl, rfl, rfl, rfl, rfl, rfl, rfl, rfl, rfl, rfl, rfl, rfl, rfl, rfl, rfl, rfl, rfl, rfl, rfl, rfl,
    rfl, rfl, rfl, rfl, rfl, rfl, rfl, rfl, rfl, rfl, rfl, rfl, rfl, rfl, rfl, rfl, rfl, rfl, rfl, rfl, rfl, rfl, rfl,
    rfl, rfl, rfl, rfl, rfl, rfl, rfl, rfl, rfl, rfl, rfl, rfl, rfl, rfl, rfl, rfl, rfl, rfl, rfl, rfl, rfl, rfl, rfl,
    rfl, rfl, rfl, rfl, rfl, rfl, rfl, rfl, rfl, rfl, rfl, rfl, rfl, rfl, rfl, rfl, rfl, rfl, rfl, rfl⟩

@[simp] theorem word_setHeater (at_ : Nat) (d h : Nat) (v : Heater) (s : State) : word at_ (setHeater d h v s) = word
    at_ s := rfl

@[simp] theorem rd_setHeater (at_ : Loc) (d h : Nat) (v : Heater) (s : State) : rd at_ (setHeater d h v s) = rd at_ s
    := rfl

@[simp] theorem setPathRun_fields (p : Nat) (v : PathRun) (s : State) : (setPathRun p v s).part = s.part ∧ (setPathRun
    p v s).straps = s.straps ∧ (setPathRun p v s).regs = s.regs ∧ (setPathRun p v s).mem = s.mem ∧ (setPathRun p v
    s).nv = s.nv ∧ (setPathRun p v s).host = s.host ∧ (setPathRun p v s).flash = s.flash ∧ (setPathRun p v s).now =
    s.now ∧ (setPathRun p v s).clocks = s.clocks ∧ (setPathRun p v s).master = s.master ∧ (setPathRun p v s).landed =
    s.landed ∧ (setPathRun p v s).resp = s.resp ∧ (setPathRun p v s).sent = s.sent ∧ (setPathRun p v s).msgs = s.msgs
    ∧ (setPathRun p v s).freeSeq = s.freeSeq ∧ (setPathRun p v s).fenced = s.fenced ∧ (setPathRun p v s).unfPending =
    s.unfPending ∧ (setPathRun p v s).safeStop = s.safeStop ∧ (setPathRun p v s).errPulseEnd = s.errPulseEnd ∧
    (setPathRun p v s).errAonHold = s.errAonHold ∧ (setPathRun p v s).releases = s.releases ∧ (setPathRun p v
    s).domains = s.domains ∧ (setPathRun p v s).txns = s.txns ∧ (setPathRun p v s).xtxn = s.xtxn ∧ (setPathRun p v
    s).lastFsnValid = s.lastFsnValid ∧ (setPathRun p v s).slots = s.slots ∧ (setPathRun p v s).planes = s.planes ∧
    (setPathRun p v s).decls = s.decls ∧ (setPathRun p v s).retained = s.retained ∧ (setPathRun p v s).freed = s.freed
    ∧ (setPathRun p v s).freedWait = s.freedWait ∧ (setPathRun p v s).spoilLog = s.spoilLog ∧ (setPathRun p v
    s).spoils = s.spoils ∧ (setPathRun p v s).badBlocks = s.badBlocks ∧ (setPathRun p v s).memTrained = s.memTrained ∧
    (setPathRun p v s).dmas = s.dmas ∧ (setPathRun p v s).scrubs = s.scrubs ∧ (setPathRun p v s).jobs = s.jobs ∧
    (setPathRun p v s).jobNext = s.jobNext ∧ (setPathRun p v s).jobEnded = s.jobEnded ∧ (setPathRun p v s).dlanes =
    s.dlanes ∧ (setPathRun p v s).counters = s.counters ∧ (setPathRun p v s).encoders = s.encoders ∧ (setPathRun p v
    s).cues = s.cues ∧ (setPathRun p v s).startLists = s.startLists ∧ (setPathRun p v s).purges = s.purges ∧
    (setPathRun p v s).logBusy = s.logBusy ∧ (setPathRun p v s).logWait = s.logWait ∧ (setPathRun p v s).focs = s.focs
    ∧ (setPathRun p v s).buses = s.buses ∧ (setPathRun p v s).steps = s.steps ∧ (setPathRun p v s).ilkIn = s.ilkIn ∧
    (setPathRun p v s).hokIn = s.hokIn ∧ (setPathRun p v s).stations = s.stations ∧ (setPathRun p v s).imagers =
    s.imagers ∧ (setPathRun p v s).loops = s.loops ∧ (setPathRun p v s).cffs = s.cffs ∧ (setPathRun p v s).aregOut =
    s.aregOut ∧ (setPathRun p v s).adcs = s.adcs ∧ (setPathRun p v s).heaters = s.heaters ∧ (setPathRun p v s).zeros =
    s.zeros ∧ (setPathRun p v s).hvOver = s.hvOver ∧ (setPathRun p v s).gpios = s.gpios ∧ (setPathRun p v s).eths =
    s.eths ∧ (setPathRun p v s).syncAt = s.syncAt ∧ (setPathRun p v s).loopNext = s.loopNext ∧ (setPathRun p v
    s).rails = s.rails ∧ (setPathRun p v s).rmon = s.rmon ∧ (setPathRun p v s).thermals = s.thermals ∧ (setPathRun p v
    s).stopAtRun = s.stopAtRun ∧ (setPathRun p v s).nvBad = s.nvBad ∧ (setPathRun p v s).logSeq = s.logSeq ∧
    (setPathRun p v s).lanes = s.lanes ∧ (setPathRun p v s).rasters = s.rasters ∧ (setPathRun p v s).headLinks =
    s.headLinks ∧ (setPathRun p v s).bonds = s.bonds ∧ (setPathRun p v s).marks = s.marks ∧ (setPathRun p v s).calJobs
    = s.calJobs ∧ (setPathRun p v s).ages = s.ages ∧ (setPathRun p v s).linksFenced = s.linksFenced ∧ (setPathRun p v
    s).clkFails = s.clkFails ∧ (setPathRun p v s).strapsAt = s.strapsAt ∧ (setPathRun p v s).boot = s.boot ∧
    (setPathRun p v s).taps = s.taps ∧ (setPathRun p v s).dogs = s.dogs ∧ (setPathRun p v s).pcieUp = s.pcieUp ∧
    (setPathRun p v s).bootWaits = s.bootWaits ∧ (setPathRun p v s).encEdges = s.encEdges ∧ (setPathRun p v s).pending
    = s.pending :=
  ⟨rfl, rfl, rfl, rfl, rfl, rfl, rfl, rfl, rfl, rfl, rfl, rfl, rfl, rfl, rfl, rfl, rfl, rfl, rfl, rfl, rfl, rfl, rfl,
    rfl, rfl, rfl, rfl, rfl, rfl, rfl, rfl, rfl, rfl, rfl, rfl, rfl, rfl, rfl, rfl, rfl, rfl, rfl, rfl, rfl, rfl, rfl,
    rfl, rfl, rfl, rfl, rfl, rfl, rfl, rfl, rfl, rfl, rfl, rfl, rfl, rfl, rfl, rfl, rfl, rfl, rfl, rfl, rfl, rfl, rfl,
    rfl, rfl, rfl, rfl, rfl, rfl, rfl, rfl, rfl, rfl, rfl, rfl, rfl, rfl, rfl, rfl, rfl, rfl, rfl, rfl⟩

@[simp] theorem word_setPathRun (at_ : Nat) (p : Nat) (v : PathRun) (s : State) : word at_ (setPathRun p v s) = word
    at_ s := rfl

@[simp] theorem rd_setPathRun (at_ : Loc) (p : Nat) (v : PathRun) (s : State) : rd at_ (setPathRun p v s) = rd at_ s
    := rfl

@[simp] theorem setCff_fields (d ch : Nat) (l : List CffEntry) (s : State) : (setCff d ch l s).part = s.part ∧ (setCff
    d ch l s).straps = s.straps ∧ (setCff d ch l s).regs = s.regs ∧ (setCff d ch l s).mem = s.mem ∧ (setCff d ch l
    s).nv = s.nv ∧ (setCff d ch l s).host = s.host ∧ (setCff d ch l s).flash = s.flash ∧ (setCff d ch l s).now = s.now
    ∧ (setCff d ch l s).clocks = s.clocks ∧ (setCff d ch l s).master = s.master ∧ (setCff d ch l s).landed = s.landed
    ∧ (setCff d ch l s).resp = s.resp ∧ (setCff d ch l s).sent = s.sent ∧ (setCff d ch l s).msgs = s.msgs ∧ (setCff d
    ch l s).freeSeq = s.freeSeq ∧ (setCff d ch l s).fenced = s.fenced ∧ (setCff d ch l s).unfPending = s.unfPending ∧
    (setCff d ch l s).safeStop = s.safeStop ∧ (setCff d ch l s).errPulseEnd = s.errPulseEnd ∧ (setCff d ch l
    s).errAonHold = s.errAonHold ∧ (setCff d ch l s).releases = s.releases ∧ (setCff d ch l s).domains = s.domains ∧
    (setCff d ch l s).txns = s.txns ∧ (setCff d ch l s).xtxn = s.xtxn ∧ (setCff d ch l s).lastFsnValid =
    s.lastFsnValid ∧ (setCff d ch l s).slots = s.slots ∧ (setCff d ch l s).planes = s.planes ∧ (setCff d ch l s).decls
    = s.decls ∧ (setCff d ch l s).retained = s.retained ∧ (setCff d ch l s).freed = s.freed ∧ (setCff d ch l
    s).freedWait = s.freedWait ∧ (setCff d ch l s).spoilLog = s.spoilLog ∧ (setCff d ch l s).spoils = s.spoils ∧
    (setCff d ch l s).badBlocks = s.badBlocks ∧ (setCff d ch l s).memTrained = s.memTrained ∧ (setCff d ch l s).dmas =
    s.dmas ∧ (setCff d ch l s).scrubs = s.scrubs ∧ (setCff d ch l s).jobs = s.jobs ∧ (setCff d ch l s).jobNext =
    s.jobNext ∧ (setCff d ch l s).jobEnded = s.jobEnded ∧ (setCff d ch l s).dlanes = s.dlanes ∧ (setCff d ch l
    s).counters = s.counters ∧ (setCff d ch l s).encoders = s.encoders ∧ (setCff d ch l s).cues = s.cues ∧ (setCff d
    ch l s).startLists = s.startLists ∧ (setCff d ch l s).paths = s.paths ∧ (setCff d ch l s).purges = s.purges ∧
    (setCff d ch l s).logBusy = s.logBusy ∧ (setCff d ch l s).logWait = s.logWait ∧ (setCff d ch l s).focs = s.focs ∧
    (setCff d ch l s).buses = s.buses ∧ (setCff d ch l s).steps = s.steps ∧ (setCff d ch l s).ilkIn = s.ilkIn ∧
    (setCff d ch l s).hokIn = s.hokIn ∧ (setCff d ch l s).stations = s.stations ∧ (setCff d ch l s).imagers =
    s.imagers ∧ (setCff d ch l s).loops = s.loops ∧ (setCff d ch l s).aregOut = s.aregOut ∧ (setCff d ch l s).adcs =
    s.adcs ∧ (setCff d ch l s).heaters = s.heaters ∧ (setCff d ch l s).zeros = s.zeros ∧ (setCff d ch l s).hvOver =
    s.hvOver ∧ (setCff d ch l s).gpios = s.gpios ∧ (setCff d ch l s).eths = s.eths ∧ (setCff d ch l s).syncAt =
    s.syncAt ∧ (setCff d ch l s).loopNext = s.loopNext ∧ (setCff d ch l s).rails = s.rails ∧ (setCff d ch l s).rmon =
    s.rmon ∧ (setCff d ch l s).thermals = s.thermals ∧ (setCff d ch l s).stopAtRun = s.stopAtRun ∧ (setCff d ch l
    s).nvBad = s.nvBad ∧ (setCff d ch l s).logSeq = s.logSeq ∧ (setCff d ch l s).lanes = s.lanes ∧ (setCff d ch l
    s).rasters = s.rasters ∧ (setCff d ch l s).headLinks = s.headLinks ∧ (setCff d ch l s).bonds = s.bonds ∧ (setCff d
    ch l s).marks = s.marks ∧ (setCff d ch l s).calJobs = s.calJobs ∧ (setCff d ch l s).ages = s.ages ∧ (setCff d ch l
    s).linksFenced = s.linksFenced ∧ (setCff d ch l s).clkFails = s.clkFails ∧ (setCff d ch l s).strapsAt = s.strapsAt
    ∧ (setCff d ch l s).boot = s.boot ∧ (setCff d ch l s).taps = s.taps ∧ (setCff d ch l s).dogs = s.dogs ∧ (setCff d
    ch l s).pcieUp = s.pcieUp ∧ (setCff d ch l s).bootWaits = s.bootWaits ∧ (setCff d ch l s).encEdges = s.encEdges ∧
    (setCff d ch l s).pending = s.pending :=
  ⟨rfl, rfl, rfl, rfl, rfl, rfl, rfl, rfl, rfl, rfl, rfl, rfl, rfl, rfl, rfl, rfl, rfl, rfl, rfl, rfl, rfl, rfl, rfl,
    rfl, rfl, rfl, rfl, rfl, rfl, rfl, rfl, rfl, rfl, rfl, rfl, rfl, rfl, rfl, rfl, rfl, rfl, rfl, rfl, rfl, rfl, rfl,
    rfl, rfl, rfl, rfl, rfl, rfl, rfl, rfl, rfl, rfl, rfl, rfl, rfl, rfl, rfl, rfl, rfl, rfl, rfl, rfl, rfl, rfl, rfl,
    rfl, rfl, rfl, rfl, rfl, rfl, rfl, rfl, rfl, rfl, rfl, rfl, rfl, rfl, rfl, rfl, rfl, rfl, rfl, rfl⟩

@[simp] theorem word_setCff (at_ : Nat) (d ch : Nat) (l : List CffEntry) (s : State) : word at_ (setCff d ch l s) =
    word at_ s := rfl

@[simp] theorem rd_setCff (at_ : Loc) (d ch : Nat) (l : List CffEntry) (s : State) : rd at_ (setCff d ch l s) = rd at_
    s := rfl

@[simp] theorem setLoop_fields (d i : Nat) (c : LoopCtx) (s : State) : (setLoop d i c s).part = s.part ∧ (setLoop d i
    c s).straps = s.straps ∧ (setLoop d i c s).regs = s.regs ∧ (setLoop d i c s).mem = s.mem ∧ (setLoop d i c s).nv =
    s.nv ∧ (setLoop d i c s).host = s.host ∧ (setLoop d i c s).flash = s.flash ∧ (setLoop d i c s).now = s.now ∧
    (setLoop d i c s).clocks = s.clocks ∧ (setLoop d i c s).master = s.master ∧ (setLoop d i c s).landed = s.landed ∧
    (setLoop d i c s).resp = s.resp ∧ (setLoop d i c s).sent = s.sent ∧ (setLoop d i c s).msgs = s.msgs ∧ (setLoop d i
    c s).freeSeq = s.freeSeq ∧ (setLoop d i c s).fenced = s.fenced ∧ (setLoop d i c s).unfPending = s.unfPending ∧
    (setLoop d i c s).safeStop = s.safeStop ∧ (setLoop d i c s).errPulseEnd = s.errPulseEnd ∧ (setLoop d i c
    s).errAonHold = s.errAonHold ∧ (setLoop d i c s).releases = s.releases ∧ (setLoop d i c s).domains = s.domains ∧
    (setLoop d i c s).txns = s.txns ∧ (setLoop d i c s).xtxn = s.xtxn ∧ (setLoop d i c s).lastFsnValid =
    s.lastFsnValid ∧ (setLoop d i c s).slots = s.slots ∧ (setLoop d i c s).planes = s.planes ∧ (setLoop d i c s).decls
    = s.decls ∧ (setLoop d i c s).retained = s.retained ∧ (setLoop d i c s).freed = s.freed ∧ (setLoop d i c
    s).freedWait = s.freedWait ∧ (setLoop d i c s).spoilLog = s.spoilLog ∧ (setLoop d i c s).spoils = s.spoils ∧
    (setLoop d i c s).badBlocks = s.badBlocks ∧ (setLoop d i c s).memTrained = s.memTrained ∧ (setLoop d i c s).dmas =
    s.dmas ∧ (setLoop d i c s).scrubs = s.scrubs ∧ (setLoop d i c s).jobs = s.jobs ∧ (setLoop d i c s).jobNext =
    s.jobNext ∧ (setLoop d i c s).jobEnded = s.jobEnded ∧ (setLoop d i c s).dlanes = s.dlanes ∧ (setLoop d i c
    s).counters = s.counters ∧ (setLoop d i c s).encoders = s.encoders ∧ (setLoop d i c s).cues = s.cues ∧ (setLoop d
    i c s).startLists = s.startLists ∧ (setLoop d i c s).paths = s.paths ∧ (setLoop d i c s).purges = s.purges ∧
    (setLoop d i c s).logBusy = s.logBusy ∧ (setLoop d i c s).logWait = s.logWait ∧ (setLoop d i c s).focs = s.focs ∧
    (setLoop d i c s).buses = s.buses ∧ (setLoop d i c s).steps = s.steps ∧ (setLoop d i c s).ilkIn = s.ilkIn ∧
    (setLoop d i c s).hokIn = s.hokIn ∧ (setLoop d i c s).stations = s.stations ∧ (setLoop d i c s).imagers =
    s.imagers ∧ (setLoop d i c s).cffs = s.cffs ∧ (setLoop d i c s).aregOut = s.aregOut ∧ (setLoop d i c s).adcs =
    s.adcs ∧ (setLoop d i c s).heaters = s.heaters ∧ (setLoop d i c s).zeros = s.zeros ∧ (setLoop d i c s).hvOver =
    s.hvOver ∧ (setLoop d i c s).gpios = s.gpios ∧ (setLoop d i c s).eths = s.eths ∧ (setLoop d i c s).syncAt =
    s.syncAt ∧ (setLoop d i c s).loopNext = s.loopNext ∧ (setLoop d i c s).rails = s.rails ∧ (setLoop d i c s).rmon =
    s.rmon ∧ (setLoop d i c s).thermals = s.thermals ∧ (setLoop d i c s).stopAtRun = s.stopAtRun ∧ (setLoop d i c
    s).nvBad = s.nvBad ∧ (setLoop d i c s).logSeq = s.logSeq ∧ (setLoop d i c s).lanes = s.lanes ∧ (setLoop d i c
    s).rasters = s.rasters ∧ (setLoop d i c s).headLinks = s.headLinks ∧ (setLoop d i c s).bonds = s.bonds ∧ (setLoop
    d i c s).marks = s.marks ∧ (setLoop d i c s).calJobs = s.calJobs ∧ (setLoop d i c s).ages = s.ages ∧ (setLoop d i
    c s).linksFenced = s.linksFenced ∧ (setLoop d i c s).clkFails = s.clkFails ∧ (setLoop d i c s).strapsAt =
    s.strapsAt ∧ (setLoop d i c s).boot = s.boot ∧ (setLoop d i c s).taps = s.taps ∧ (setLoop d i c s).dogs = s.dogs ∧
    (setLoop d i c s).pcieUp = s.pcieUp ∧ (setLoop d i c s).bootWaits = s.bootWaits ∧ (setLoop d i c s).encEdges =
    s.encEdges ∧ (setLoop d i c s).pending = s.pending :=
  ⟨rfl, rfl, rfl, rfl, rfl, rfl, rfl, rfl, rfl, rfl, rfl, rfl, rfl, rfl, rfl, rfl, rfl, rfl, rfl, rfl, rfl, rfl, rfl,
    rfl, rfl, rfl, rfl, rfl, rfl, rfl, rfl, rfl, rfl, rfl, rfl, rfl, rfl, rfl, rfl, rfl, rfl, rfl, rfl, rfl, rfl, rfl,
    rfl, rfl, rfl, rfl, rfl, rfl, rfl, rfl, rfl, rfl, rfl, rfl, rfl, rfl, rfl, rfl, rfl, rfl, rfl, rfl, rfl, rfl, rfl,
    rfl, rfl, rfl, rfl, rfl, rfl, rfl, rfl, rfl, rfl, rfl, rfl, rfl, rfl, rfl, rfl, rfl, rfl, rfl, rfl⟩

@[simp] theorem word_setLoop (at_ : Nat) (d i : Nat) (c : LoopCtx) (s : State) : word at_ (setLoop d i c s) = word at_
    s := rfl

@[simp] theorem rd_setLoop (at_ : Loc) (d i : Nat) (c : LoopCtx) (s : State) : rd at_ (setLoop d i c s) = rd at_ s :=
    rfl

@[simp] theorem setScrub_fields (d : Nat) (v : Scrub) (s : State) : (setScrub d v s).part = s.part ∧ (setScrub d v
    s).straps = s.straps ∧ (setScrub d v s).regs = s.regs ∧ (setScrub d v s).mem = s.mem ∧ (setScrub d v s).nv = s.nv
    ∧ (setScrub d v s).host = s.host ∧ (setScrub d v s).flash = s.flash ∧ (setScrub d v s).now = s.now ∧ (setScrub d v
    s).clocks = s.clocks ∧ (setScrub d v s).master = s.master ∧ (setScrub d v s).landed = s.landed ∧ (setScrub d v
    s).resp = s.resp ∧ (setScrub d v s).sent = s.sent ∧ (setScrub d v s).msgs = s.msgs ∧ (setScrub d v s).freeSeq =
    s.freeSeq ∧ (setScrub d v s).fenced = s.fenced ∧ (setScrub d v s).unfPending = s.unfPending ∧ (setScrub d v
    s).safeStop = s.safeStop ∧ (setScrub d v s).errPulseEnd = s.errPulseEnd ∧ (setScrub d v s).errAonHold =
    s.errAonHold ∧ (setScrub d v s).releases = s.releases ∧ (setScrub d v s).domains = s.domains ∧ (setScrub d v
    s).txns = s.txns ∧ (setScrub d v s).xtxn = s.xtxn ∧ (setScrub d v s).lastFsnValid = s.lastFsnValid ∧ (setScrub d v
    s).slots = s.slots ∧ (setScrub d v s).planes = s.planes ∧ (setScrub d v s).decls = s.decls ∧ (setScrub d v
    s).retained = s.retained ∧ (setScrub d v s).freed = s.freed ∧ (setScrub d v s).freedWait = s.freedWait ∧ (setScrub
    d v s).spoilLog = s.spoilLog ∧ (setScrub d v s).spoils = s.spoils ∧ (setScrub d v s).badBlocks = s.badBlocks ∧
    (setScrub d v s).memTrained = s.memTrained ∧ (setScrub d v s).dmas = s.dmas ∧ (setScrub d v s).jobs = s.jobs ∧
    (setScrub d v s).jobNext = s.jobNext ∧ (setScrub d v s).jobEnded = s.jobEnded ∧ (setScrub d v s).dlanes = s.dlanes
    ∧ (setScrub d v s).counters = s.counters ∧ (setScrub d v s).encoders = s.encoders ∧ (setScrub d v s).cues = s.cues
    ∧ (setScrub d v s).startLists = s.startLists ∧ (setScrub d v s).paths = s.paths ∧ (setScrub d v s).purges =
    s.purges ∧ (setScrub d v s).logBusy = s.logBusy ∧ (setScrub d v s).logWait = s.logWait ∧ (setScrub d v s).focs =
    s.focs ∧ (setScrub d v s).buses = s.buses ∧ (setScrub d v s).steps = s.steps ∧ (setScrub d v s).ilkIn = s.ilkIn ∧
    (setScrub d v s).hokIn = s.hokIn ∧ (setScrub d v s).stations = s.stations ∧ (setScrub d v s).imagers = s.imagers ∧
    (setScrub d v s).loops = s.loops ∧ (setScrub d v s).cffs = s.cffs ∧ (setScrub d v s).aregOut = s.aregOut ∧
    (setScrub d v s).adcs = s.adcs ∧ (setScrub d v s).heaters = s.heaters ∧ (setScrub d v s).zeros = s.zeros ∧
    (setScrub d v s).hvOver = s.hvOver ∧ (setScrub d v s).gpios = s.gpios ∧ (setScrub d v s).eths = s.eths ∧ (setScrub
    d v s).syncAt = s.syncAt ∧ (setScrub d v s).loopNext = s.loopNext ∧ (setScrub d v s).rails = s.rails ∧ (setScrub d
    v s).rmon = s.rmon ∧ (setScrub d v s).thermals = s.thermals ∧ (setScrub d v s).stopAtRun = s.stopAtRun ∧ (setScrub
    d v s).nvBad = s.nvBad ∧ (setScrub d v s).logSeq = s.logSeq ∧ (setScrub d v s).lanes = s.lanes ∧ (setScrub d v
    s).rasters = s.rasters ∧ (setScrub d v s).headLinks = s.headLinks ∧ (setScrub d v s).bonds = s.bonds ∧ (setScrub d
    v s).marks = s.marks ∧ (setScrub d v s).calJobs = s.calJobs ∧ (setScrub d v s).ages = s.ages ∧ (setScrub d v
    s).linksFenced = s.linksFenced ∧ (setScrub d v s).clkFails = s.clkFails ∧ (setScrub d v s).strapsAt = s.strapsAt ∧
    (setScrub d v s).boot = s.boot ∧ (setScrub d v s).taps = s.taps ∧ (setScrub d v s).dogs = s.dogs ∧ (setScrub d v
    s).pcieUp = s.pcieUp ∧ (setScrub d v s).bootWaits = s.bootWaits ∧ (setScrub d v s).encEdges = s.encEdges ∧
    (setScrub d v s).pending = s.pending :=
  ⟨rfl, rfl, rfl, rfl, rfl, rfl, rfl, rfl, rfl, rfl, rfl, rfl, rfl, rfl, rfl, rfl, rfl, rfl, rfl, rfl, rfl, rfl, rfl,
    rfl, rfl, rfl, rfl, rfl, rfl, rfl, rfl, rfl, rfl, rfl, rfl, rfl, rfl, rfl, rfl, rfl, rfl, rfl, rfl, rfl, rfl, rfl,
    rfl, rfl, rfl, rfl, rfl, rfl, rfl, rfl, rfl, rfl, rfl, rfl, rfl, rfl, rfl, rfl, rfl, rfl, rfl, rfl, rfl, rfl, rfl,
    rfl, rfl, rfl, rfl, rfl, rfl, rfl, rfl, rfl, rfl, rfl, rfl, rfl, rfl, rfl, rfl, rfl, rfl, rfl, rfl⟩

@[simp] theorem word_setScrub (at_ : Nat) (d : Nat) (v : Scrub) (s : State) : word at_ (setScrub d v s) = word at_ s
    := rfl

@[simp] theorem rd_setScrub (at_ : Loc) (d : Nat) (v : Scrub) (s : State) : rd at_ (setScrub d v s) = rd at_ s := rfl

@[simp] theorem setEth_fields (p : Nat) (v : EthPort) (s : State) : (setEth p v s).part = s.part ∧ (setEth p v
    s).straps = s.straps ∧ (setEth p v s).regs = s.regs ∧ (setEth p v s).mem = s.mem ∧ (setEth p v s).nv = s.nv ∧
    (setEth p v s).host = s.host ∧ (setEth p v s).flash = s.flash ∧ (setEth p v s).now = s.now ∧ (setEth p v s).clocks
    = s.clocks ∧ (setEth p v s).master = s.master ∧ (setEth p v s).landed = s.landed ∧ (setEth p v s).resp = s.resp ∧
    (setEth p v s).sent = s.sent ∧ (setEth p v s).msgs = s.msgs ∧ (setEth p v s).freeSeq = s.freeSeq ∧ (setEth p v
    s).fenced = s.fenced ∧ (setEth p v s).unfPending = s.unfPending ∧ (setEth p v s).safeStop = s.safeStop ∧ (setEth p
    v s).errPulseEnd = s.errPulseEnd ∧ (setEth p v s).errAonHold = s.errAonHold ∧ (setEth p v s).releases = s.releases
    ∧ (setEth p v s).domains = s.domains ∧ (setEth p v s).txns = s.txns ∧ (setEth p v s).xtxn = s.xtxn ∧ (setEth p v
    s).lastFsnValid = s.lastFsnValid ∧ (setEth p v s).slots = s.slots ∧ (setEth p v s).planes = s.planes ∧ (setEth p v
    s).decls = s.decls ∧ (setEth p v s).retained = s.retained ∧ (setEth p v s).freed = s.freed ∧ (setEth p v
    s).freedWait = s.freedWait ∧ (setEth p v s).spoilLog = s.spoilLog ∧ (setEth p v s).spoils = s.spoils ∧ (setEth p v
    s).badBlocks = s.badBlocks ∧ (setEth p v s).memTrained = s.memTrained ∧ (setEth p v s).dmas = s.dmas ∧ (setEth p v
    s).scrubs = s.scrubs ∧ (setEth p v s).jobs = s.jobs ∧ (setEth p v s).jobNext = s.jobNext ∧ (setEth p v s).jobEnded
    = s.jobEnded ∧ (setEth p v s).dlanes = s.dlanes ∧ (setEth p v s).counters = s.counters ∧ (setEth p v s).encoders =
    s.encoders ∧ (setEth p v s).cues = s.cues ∧ (setEth p v s).startLists = s.startLists ∧ (setEth p v s).paths =
    s.paths ∧ (setEth p v s).purges = s.purges ∧ (setEth p v s).logBusy = s.logBusy ∧ (setEth p v s).logWait =
    s.logWait ∧ (setEth p v s).focs = s.focs ∧ (setEth p v s).buses = s.buses ∧ (setEth p v s).steps = s.steps ∧
    (setEth p v s).ilkIn = s.ilkIn ∧ (setEth p v s).hokIn = s.hokIn ∧ (setEth p v s).stations = s.stations ∧ (setEth p
    v s).imagers = s.imagers ∧ (setEth p v s).loops = s.loops ∧ (setEth p v s).cffs = s.cffs ∧ (setEth p v s).aregOut
    = s.aregOut ∧ (setEth p v s).adcs = s.adcs ∧ (setEth p v s).heaters = s.heaters ∧ (setEth p v s).zeros = s.zeros ∧
    (setEth p v s).hvOver = s.hvOver ∧ (setEth p v s).gpios = s.gpios ∧ (setEth p v s).syncAt = s.syncAt ∧ (setEth p v
    s).loopNext = s.loopNext ∧ (setEth p v s).rails = s.rails ∧ (setEth p v s).rmon = s.rmon ∧ (setEth p v s).thermals
    = s.thermals ∧ (setEth p v s).stopAtRun = s.stopAtRun ∧ (setEth p v s).nvBad = s.nvBad ∧ (setEth p v s).logSeq =
    s.logSeq ∧ (setEth p v s).lanes = s.lanes ∧ (setEth p v s).rasters = s.rasters ∧ (setEth p v s).headLinks =
    s.headLinks ∧ (setEth p v s).bonds = s.bonds ∧ (setEth p v s).marks = s.marks ∧ (setEth p v s).calJobs = s.calJobs
    ∧ (setEth p v s).ages = s.ages ∧ (setEth p v s).linksFenced = s.linksFenced ∧ (setEth p v s).clkFails = s.clkFails
    ∧ (setEth p v s).strapsAt = s.strapsAt ∧ (setEth p v s).boot = s.boot ∧ (setEth p v s).taps = s.taps ∧ (setEth p v
    s).dogs = s.dogs ∧ (setEth p v s).pcieUp = s.pcieUp ∧ (setEth p v s).bootWaits = s.bootWaits ∧ (setEth p v
    s).encEdges = s.encEdges ∧ (setEth p v s).pending = s.pending :=
  ⟨rfl, rfl, rfl, rfl, rfl, rfl, rfl, rfl, rfl, rfl, rfl, rfl, rfl, rfl, rfl, rfl, rfl, rfl, rfl, rfl, rfl, rfl, rfl,
    rfl, rfl, rfl, rfl, rfl, rfl, rfl, rfl, rfl, rfl, rfl, rfl, rfl, rfl, rfl, rfl, rfl, rfl, rfl, rfl, rfl, rfl, rfl,
    rfl, rfl, rfl, rfl, rfl, rfl, rfl, rfl, rfl, rfl, rfl, rfl, rfl, rfl, rfl, rfl, rfl, rfl, rfl, rfl, rfl, rfl, rfl,
    rfl, rfl, rfl, rfl, rfl, rfl, rfl, rfl, rfl, rfl, rfl, rfl, rfl, rfl, rfl, rfl, rfl, rfl, rfl, rfl⟩

@[simp] theorem word_setEth (at_ : Nat) (p : Nat) (v : EthPort) (s : State) : word at_ (setEth p v s) = word at_ s :=
    rfl

@[simp] theorem rd_setEth (at_ : Loc) (p : Nat) (v : EthPort) (s : State) : rd at_ (setEth p v s) = rd at_ s := rfl

@[simp] theorem setZero_fields (d : Nat) (v : ZeroCross) (s : State) : (setZero d v s).part = s.part ∧ (setZero d v
    s).straps = s.straps ∧ (setZero d v s).regs = s.regs ∧ (setZero d v s).mem = s.mem ∧ (setZero d v s).nv = s.nv ∧
    (setZero d v s).host = s.host ∧ (setZero d v s).flash = s.flash ∧ (setZero d v s).now = s.now ∧ (setZero d v
    s).clocks = s.clocks ∧ (setZero d v s).master = s.master ∧ (setZero d v s).landed = s.landed ∧ (setZero d v
    s).resp = s.resp ∧ (setZero d v s).sent = s.sent ∧ (setZero d v s).msgs = s.msgs ∧ (setZero d v s).freeSeq =
    s.freeSeq ∧ (setZero d v s).fenced = s.fenced ∧ (setZero d v s).unfPending = s.unfPending ∧ (setZero d v
    s).safeStop = s.safeStop ∧ (setZero d v s).errPulseEnd = s.errPulseEnd ∧ (setZero d v s).errAonHold = s.errAonHold
    ∧ (setZero d v s).releases = s.releases ∧ (setZero d v s).domains = s.domains ∧ (setZero d v s).txns = s.txns ∧
    (setZero d v s).xtxn = s.xtxn ∧ (setZero d v s).lastFsnValid = s.lastFsnValid ∧ (setZero d v s).slots = s.slots ∧
    (setZero d v s).planes = s.planes ∧ (setZero d v s).decls = s.decls ∧ (setZero d v s).retained = s.retained ∧
    (setZero d v s).freed = s.freed ∧ (setZero d v s).freedWait = s.freedWait ∧ (setZero d v s).spoilLog = s.spoilLog
    ∧ (setZero d v s).spoils = s.spoils ∧ (setZero d v s).badBlocks = s.badBlocks ∧ (setZero d v s).memTrained =
    s.memTrained ∧ (setZero d v s).dmas = s.dmas ∧ (setZero d v s).scrubs = s.scrubs ∧ (setZero d v s).jobs = s.jobs ∧
    (setZero d v s).jobNext = s.jobNext ∧ (setZero d v s).jobEnded = s.jobEnded ∧ (setZero d v s).dlanes = s.dlanes ∧
    (setZero d v s).counters = s.counters ∧ (setZero d v s).encoders = s.encoders ∧ (setZero d v s).cues = s.cues ∧
    (setZero d v s).startLists = s.startLists ∧ (setZero d v s).paths = s.paths ∧ (setZero d v s).purges = s.purges ∧
    (setZero d v s).logBusy = s.logBusy ∧ (setZero d v s).logWait = s.logWait ∧ (setZero d v s).focs = s.focs ∧
    (setZero d v s).buses = s.buses ∧ (setZero d v s).steps = s.steps ∧ (setZero d v s).ilkIn = s.ilkIn ∧ (setZero d v
    s).hokIn = s.hokIn ∧ (setZero d v s).stations = s.stations ∧ (setZero d v s).imagers = s.imagers ∧ (setZero d v
    s).loops = s.loops ∧ (setZero d v s).cffs = s.cffs ∧ (setZero d v s).aregOut = s.aregOut ∧ (setZero d v s).adcs =
    s.adcs ∧ (setZero d v s).heaters = s.heaters ∧ (setZero d v s).hvOver = s.hvOver ∧ (setZero d v s).gpios = s.gpios
    ∧ (setZero d v s).eths = s.eths ∧ (setZero d v s).syncAt = s.syncAt ∧ (setZero d v s).loopNext = s.loopNext ∧
    (setZero d v s).rails = s.rails ∧ (setZero d v s).rmon = s.rmon ∧ (setZero d v s).thermals = s.thermals ∧ (setZero
    d v s).stopAtRun = s.stopAtRun ∧ (setZero d v s).nvBad = s.nvBad ∧ (setZero d v s).logSeq = s.logSeq ∧ (setZero d
    v s).lanes = s.lanes ∧ (setZero d v s).rasters = s.rasters ∧ (setZero d v s).headLinks = s.headLinks ∧ (setZero d
    v s).bonds = s.bonds ∧ (setZero d v s).marks = s.marks ∧ (setZero d v s).calJobs = s.calJobs ∧ (setZero d v
    s).ages = s.ages ∧ (setZero d v s).linksFenced = s.linksFenced ∧ (setZero d v s).clkFails = s.clkFails ∧ (setZero
    d v s).strapsAt = s.strapsAt ∧ (setZero d v s).boot = s.boot ∧ (setZero d v s).taps = s.taps ∧ (setZero d v
    s).dogs = s.dogs ∧ (setZero d v s).pcieUp = s.pcieUp ∧ (setZero d v s).bootWaits = s.bootWaits ∧ (setZero d v
    s).encEdges = s.encEdges ∧ (setZero d v s).pending = s.pending :=
  ⟨rfl, rfl, rfl, rfl, rfl, rfl, rfl, rfl, rfl, rfl, rfl, rfl, rfl, rfl, rfl, rfl, rfl, rfl, rfl, rfl, rfl, rfl, rfl,
    rfl, rfl, rfl, rfl, rfl, rfl, rfl, rfl, rfl, rfl, rfl, rfl, rfl, rfl, rfl, rfl, rfl, rfl, rfl, rfl, rfl, rfl, rfl,
    rfl, rfl, rfl, rfl, rfl, rfl, rfl, rfl, rfl, rfl, rfl, rfl, rfl, rfl, rfl, rfl, rfl, rfl, rfl, rfl, rfl, rfl, rfl,
    rfl, rfl, rfl, rfl, rfl, rfl, rfl, rfl, rfl, rfl, rfl, rfl, rfl, rfl, rfl, rfl, rfl, rfl, rfl, rfl⟩

@[simp] theorem word_setZero (at_ : Nat) (d : Nat) (v : ZeroCross) (s : State) : word at_ (setZero d v s) = word at_ s
    := rfl

@[simp] theorem rd_setZero (at_ : Loc) (d : Nat) (v : ZeroCross) (s : State) : rd at_ (setZero d v s) = rd at_ s :=
    rfl

@[simp] theorem setRail_fields (n : Nat) (r : Rail) (s : State) : (setRail n r s).part = s.part ∧ (setRail n r
    s).straps = s.straps ∧ (setRail n r s).regs = s.regs ∧ (setRail n r s).mem = s.mem ∧ (setRail n r s).nv = s.nv ∧
    (setRail n r s).host = s.host ∧ (setRail n r s).flash = s.flash ∧ (setRail n r s).now = s.now ∧ (setRail n r
    s).clocks = s.clocks ∧ (setRail n r s).master = s.master ∧ (setRail n r s).landed = s.landed ∧ (setRail n r
    s).resp = s.resp ∧ (setRail n r s).sent = s.sent ∧ (setRail n r s).msgs = s.msgs ∧ (setRail n r s).freeSeq =
    s.freeSeq ∧ (setRail n r s).fenced = s.fenced ∧ (setRail n r s).unfPending = s.unfPending ∧ (setRail n r
    s).safeStop = s.safeStop ∧ (setRail n r s).errPulseEnd = s.errPulseEnd ∧ (setRail n r s).errAonHold = s.errAonHold
    ∧ (setRail n r s).releases = s.releases ∧ (setRail n r s).domains = s.domains ∧ (setRail n r s).txns = s.txns ∧
    (setRail n r s).xtxn = s.xtxn ∧ (setRail n r s).lastFsnValid = s.lastFsnValid ∧ (setRail n r s).slots = s.slots ∧
    (setRail n r s).planes = s.planes ∧ (setRail n r s).decls = s.decls ∧ (setRail n r s).retained = s.retained ∧
    (setRail n r s).freed = s.freed ∧ (setRail n r s).freedWait = s.freedWait ∧ (setRail n r s).spoilLog = s.spoilLog
    ∧ (setRail n r s).spoils = s.spoils ∧ (setRail n r s).badBlocks = s.badBlocks ∧ (setRail n r s).memTrained =
    s.memTrained ∧ (setRail n r s).dmas = s.dmas ∧ (setRail n r s).scrubs = s.scrubs ∧ (setRail n r s).jobs = s.jobs ∧
    (setRail n r s).jobNext = s.jobNext ∧ (setRail n r s).jobEnded = s.jobEnded ∧ (setRail n r s).dlanes = s.dlanes ∧
    (setRail n r s).counters = s.counters ∧ (setRail n r s).encoders = s.encoders ∧ (setRail n r s).cues = s.cues ∧
    (setRail n r s).startLists = s.startLists ∧ (setRail n r s).paths = s.paths ∧ (setRail n r s).purges = s.purges ∧
    (setRail n r s).logBusy = s.logBusy ∧ (setRail n r s).logWait = s.logWait ∧ (setRail n r s).focs = s.focs ∧
    (setRail n r s).buses = s.buses ∧ (setRail n r s).steps = s.steps ∧ (setRail n r s).ilkIn = s.ilkIn ∧ (setRail n r
    s).hokIn = s.hokIn ∧ (setRail n r s).stations = s.stations ∧ (setRail n r s).imagers = s.imagers ∧ (setRail n r
    s).loops = s.loops ∧ (setRail n r s).cffs = s.cffs ∧ (setRail n r s).aregOut = s.aregOut ∧ (setRail n r s).adcs =
    s.adcs ∧ (setRail n r s).heaters = s.heaters ∧ (setRail n r s).zeros = s.zeros ∧ (setRail n r s).hvOver = s.hvOver
    ∧ (setRail n r s).gpios = s.gpios ∧ (setRail n r s).eths = s.eths ∧ (setRail n r s).syncAt = s.syncAt ∧ (setRail n
    r s).loopNext = s.loopNext ∧ (setRail n r s).rmon = s.rmon ∧ (setRail n r s).thermals = s.thermals ∧ (setRail n r
    s).stopAtRun = s.stopAtRun ∧ (setRail n r s).nvBad = s.nvBad ∧ (setRail n r s).logSeq = s.logSeq ∧ (setRail n r
    s).lanes = s.lanes ∧ (setRail n r s).rasters = s.rasters ∧ (setRail n r s).headLinks = s.headLinks ∧ (setRail n r
    s).bonds = s.bonds ∧ (setRail n r s).marks = s.marks ∧ (setRail n r s).calJobs = s.calJobs ∧ (setRail n r s).ages
    = s.ages ∧ (setRail n r s).linksFenced = s.linksFenced ∧ (setRail n r s).clkFails = s.clkFails ∧ (setRail n r
    s).strapsAt = s.strapsAt ∧ (setRail n r s).boot = s.boot ∧ (setRail n r s).taps = s.taps ∧ (setRail n r s).dogs =
    s.dogs ∧ (setRail n r s).pcieUp = s.pcieUp ∧ (setRail n r s).bootWaits = s.bootWaits ∧ (setRail n r s).encEdges =
    s.encEdges ∧ (setRail n r s).pending = s.pending :=
  ⟨rfl, rfl, rfl, rfl, rfl, rfl, rfl, rfl, rfl, rfl, rfl, rfl, rfl, rfl, rfl, rfl, rfl, rfl, rfl, rfl, rfl, rfl, rfl,
    rfl, rfl, rfl, rfl, rfl, rfl, rfl, rfl, rfl, rfl, rfl, rfl, rfl, rfl, rfl, rfl, rfl, rfl, rfl, rfl, rfl, rfl, rfl,
    rfl, rfl, rfl, rfl, rfl, rfl, rfl, rfl, rfl, rfl, rfl, rfl, rfl, rfl, rfl, rfl, rfl, rfl, rfl, rfl, rfl, rfl, rfl,
    rfl, rfl, rfl, rfl, rfl, rfl, rfl, rfl, rfl, rfl, rfl, rfl, rfl, rfl, rfl, rfl, rfl, rfl, rfl, rfl⟩

@[simp] theorem word_setRail (at_ : Nat) (n : Nat) (r : Rail) (s : State) : word at_ (setRail n r s) = word at_ s :=
    rfl

@[simp] theorem rd_setRail (at_ : Loc) (n : Nat) (r : Rail) (s : State) : rd at_ (setRail n r s) = rd at_ s := rfl

@[simp] theorem setDog_fields (i : Nat) (s : State) : (setDog i s).part = s.part ∧ (setDog i s).straps = s.straps ∧
    (setDog i s).regs = s.regs ∧ (setDog i s).mem = s.mem ∧ (setDog i s).nv = s.nv ∧ (setDog i s).host = s.host ∧
    (setDog i s).flash = s.flash ∧ (setDog i s).now = s.now ∧ (setDog i s).clocks = s.clocks ∧ (setDog i s).master =
    s.master ∧ (setDog i s).landed = s.landed ∧ (setDog i s).resp = s.resp ∧ (setDog i s).sent = s.sent ∧ (setDog i
    s).msgs = s.msgs ∧ (setDog i s).freeSeq = s.freeSeq ∧ (setDog i s).fenced = s.fenced ∧ (setDog i s).unfPending =
    s.unfPending ∧ (setDog i s).safeStop = s.safeStop ∧ (setDog i s).errPulseEnd = s.errPulseEnd ∧ (setDog i
    s).errAonHold = s.errAonHold ∧ (setDog i s).releases = s.releases ∧ (setDog i s).domains = s.domains ∧ (setDog i
    s).txns = s.txns ∧ (setDog i s).xtxn = s.xtxn ∧ (setDog i s).lastFsnValid = s.lastFsnValid ∧ (setDog i s).slots =
    s.slots ∧ (setDog i s).planes = s.planes ∧ (setDog i s).decls = s.decls ∧ (setDog i s).retained = s.retained ∧
    (setDog i s).freed = s.freed ∧ (setDog i s).freedWait = s.freedWait ∧ (setDog i s).spoilLog = s.spoilLog ∧ (setDog
    i s).spoils = s.spoils ∧ (setDog i s).badBlocks = s.badBlocks ∧ (setDog i s).memTrained = s.memTrained ∧ (setDog i
    s).dmas = s.dmas ∧ (setDog i s).scrubs = s.scrubs ∧ (setDog i s).jobs = s.jobs ∧ (setDog i s).jobNext = s.jobNext
    ∧ (setDog i s).jobEnded = s.jobEnded ∧ (setDog i s).dlanes = s.dlanes ∧ (setDog i s).counters = s.counters ∧
    (setDog i s).encoders = s.encoders ∧ (setDog i s).cues = s.cues ∧ (setDog i s).startLists = s.startLists ∧ (setDog
    i s).paths = s.paths ∧ (setDog i s).purges = s.purges ∧ (setDog i s).logBusy = s.logBusy ∧ (setDog i s).logWait =
    s.logWait ∧ (setDog i s).focs = s.focs ∧ (setDog i s).buses = s.buses ∧ (setDog i s).steps = s.steps ∧ (setDog i
    s).ilkIn = s.ilkIn ∧ (setDog i s).hokIn = s.hokIn ∧ (setDog i s).stations = s.stations ∧ (setDog i s).imagers =
    s.imagers ∧ (setDog i s).loops = s.loops ∧ (setDog i s).cffs = s.cffs ∧ (setDog i s).aregOut = s.aregOut ∧ (setDog
    i s).adcs = s.adcs ∧ (setDog i s).heaters = s.heaters ∧ (setDog i s).zeros = s.zeros ∧ (setDog i s).hvOver =
    s.hvOver ∧ (setDog i s).gpios = s.gpios ∧ (setDog i s).eths = s.eths ∧ (setDog i s).syncAt = s.syncAt ∧ (setDog i
    s).loopNext = s.loopNext ∧ (setDog i s).rails = s.rails ∧ (setDog i s).rmon = s.rmon ∧ (setDog i s).thermals =
    s.thermals ∧ (setDog i s).stopAtRun = s.stopAtRun ∧ (setDog i s).nvBad = s.nvBad ∧ (setDog i s).logSeq = s.logSeq
    ∧ (setDog i s).lanes = s.lanes ∧ (setDog i s).rasters = s.rasters ∧ (setDog i s).headLinks = s.headLinks ∧ (setDog
    i s).bonds = s.bonds ∧ (setDog i s).marks = s.marks ∧ (setDog i s).calJobs = s.calJobs ∧ (setDog i s).ages =
    s.ages ∧ (setDog i s).linksFenced = s.linksFenced ∧ (setDog i s).clkFails = s.clkFails ∧ (setDog i s).strapsAt =
    s.strapsAt ∧ (setDog i s).boot = s.boot ∧ (setDog i s).taps = s.taps ∧ (setDog i s).pcieUp = s.pcieUp ∧ (setDog i
    s).bootWaits = s.bootWaits ∧ (setDog i s).encEdges = s.encEdges ∧ (setDog i s).pending = s.pending :=
  ⟨rfl, rfl, rfl, rfl, rfl, rfl, rfl, rfl, rfl, rfl, rfl, rfl, rfl, rfl, rfl, rfl, rfl, rfl, rfl, rfl, rfl, rfl, rfl,
    rfl, rfl, rfl, rfl, rfl, rfl, rfl, rfl, rfl, rfl, rfl, rfl, rfl, rfl, rfl, rfl, rfl, rfl, rfl, rfl, rfl, rfl, rfl,
    rfl, rfl, rfl, rfl, rfl, rfl, rfl, rfl, rfl, rfl, rfl, rfl, rfl, rfl, rfl, rfl, rfl, rfl, rfl, rfl, rfl, rfl, rfl,
    rfl, rfl, rfl, rfl, rfl, rfl, rfl, rfl, rfl, rfl, rfl, rfl, rfl, rfl, rfl, rfl, rfl, rfl, rfl, rfl⟩

@[simp] theorem word_setDog (at_ : Nat) (i : Nat) (s : State) : word at_ (setDog i s) = word at_ s := rfl

@[simp] theorem rd_setDog (at_ : Loc) (i : Nat) (s : State) : rd at_ (setDog i s) = rd at_ s := rfl

@[simp] theorem setStep_fields (d n : Nat) (c : StepCh) (s : State) : (setStep d n c s).part = s.part ∧ (setStep d n c
    s).straps = s.straps ∧ (setStep d n c s).regs = s.regs ∧ (setStep d n c s).mem = s.mem ∧ (setStep d n c s).nv =
    s.nv ∧ (setStep d n c s).host = s.host ∧ (setStep d n c s).flash = s.flash ∧ (setStep d n c s).now = s.now ∧
    (setStep d n c s).clocks = s.clocks ∧ (setStep d n c s).master = s.master ∧ (setStep d n c s).landed = s.landed ∧
    (setStep d n c s).resp = s.resp ∧ (setStep d n c s).sent = s.sent ∧ (setStep d n c s).msgs = s.msgs ∧ (setStep d n
    c s).freeSeq = s.freeSeq ∧ (setStep d n c s).fenced = s.fenced ∧ (setStep d n c s).unfPending = s.unfPending ∧
    (setStep d n c s).safeStop = s.safeStop ∧ (setStep d n c s).errPulseEnd = s.errPulseEnd ∧ (setStep d n c
    s).errAonHold = s.errAonHold ∧ (setStep d n c s).releases = s.releases ∧ (setStep d n c s).domains = s.domains ∧
    (setStep d n c s).txns = s.txns ∧ (setStep d n c s).xtxn = s.xtxn ∧ (setStep d n c s).lastFsnValid =
    s.lastFsnValid ∧ (setStep d n c s).slots = s.slots ∧ (setStep d n c s).planes = s.planes ∧ (setStep d n c s).decls
    = s.decls ∧ (setStep d n c s).retained = s.retained ∧ (setStep d n c s).freed = s.freed ∧ (setStep d n c
    s).freedWait = s.freedWait ∧ (setStep d n c s).spoilLog = s.spoilLog ∧ (setStep d n c s).spoils = s.spoils ∧
    (setStep d n c s).badBlocks = s.badBlocks ∧ (setStep d n c s).memTrained = s.memTrained ∧ (setStep d n c s).dmas =
    s.dmas ∧ (setStep d n c s).scrubs = s.scrubs ∧ (setStep d n c s).jobs = s.jobs ∧ (setStep d n c s).jobNext =
    s.jobNext ∧ (setStep d n c s).jobEnded = s.jobEnded ∧ (setStep d n c s).dlanes = s.dlanes ∧ (setStep d n c
    s).counters = s.counters ∧ (setStep d n c s).encoders = s.encoders ∧ (setStep d n c s).cues = s.cues ∧ (setStep d
    n c s).startLists = s.startLists ∧ (setStep d n c s).paths = s.paths ∧ (setStep d n c s).purges = s.purges ∧
    (setStep d n c s).logBusy = s.logBusy ∧ (setStep d n c s).logWait = s.logWait ∧ (setStep d n c s).focs = s.focs ∧
    (setStep d n c s).buses = s.buses ∧ (setStep d n c s).ilkIn = s.ilkIn ∧ (setStep d n c s).hokIn = s.hokIn ∧
    (setStep d n c s).stations = s.stations ∧ (setStep d n c s).imagers = s.imagers ∧ (setStep d n c s).loops =
    s.loops ∧ (setStep d n c s).cffs = s.cffs ∧ (setStep d n c s).aregOut = s.aregOut ∧ (setStep d n c s).adcs =
    s.adcs ∧ (setStep d n c s).heaters = s.heaters ∧ (setStep d n c s).zeros = s.zeros ∧ (setStep d n c s).hvOver =
    s.hvOver ∧ (setStep d n c s).gpios = s.gpios ∧ (setStep d n c s).eths = s.eths ∧ (setStep d n c s).syncAt =
    s.syncAt ∧ (setStep d n c s).loopNext = s.loopNext ∧ (setStep d n c s).rails = s.rails ∧ (setStep d n c s).rmon =
    s.rmon ∧ (setStep d n c s).thermals = s.thermals ∧ (setStep d n c s).stopAtRun = s.stopAtRun ∧ (setStep d n c
    s).nvBad = s.nvBad ∧ (setStep d n c s).logSeq = s.logSeq ∧ (setStep d n c s).lanes = s.lanes ∧ (setStep d n c
    s).rasters = s.rasters ∧ (setStep d n c s).headLinks = s.headLinks ∧ (setStep d n c s).bonds = s.bonds ∧ (setStep
    d n c s).marks = s.marks ∧ (setStep d n c s).calJobs = s.calJobs ∧ (setStep d n c s).ages = s.ages ∧ (setStep d n
    c s).linksFenced = s.linksFenced ∧ (setStep d n c s).clkFails = s.clkFails ∧ (setStep d n c s).strapsAt =
    s.strapsAt ∧ (setStep d n c s).boot = s.boot ∧ (setStep d n c s).taps = s.taps ∧ (setStep d n c s).dogs = s.dogs ∧
    (setStep d n c s).pcieUp = s.pcieUp ∧ (setStep d n c s).bootWaits = s.bootWaits ∧ (setStep d n c s).encEdges =
    s.encEdges ∧ (setStep d n c s).pending = s.pending :=
  ⟨rfl, rfl, rfl, rfl, rfl, rfl, rfl, rfl, rfl, rfl, rfl, rfl, rfl, rfl, rfl, rfl, rfl, rfl, rfl, rfl, rfl, rfl, rfl,
    rfl, rfl, rfl, rfl, rfl, rfl, rfl, rfl, rfl, rfl, rfl, rfl, rfl, rfl, rfl, rfl, rfl, rfl, rfl, rfl, rfl, rfl, rfl,
    rfl, rfl, rfl, rfl, rfl, rfl, rfl, rfl, rfl, rfl, rfl, rfl, rfl, rfl, rfl, rfl, rfl, rfl, rfl, rfl, rfl, rfl, rfl,
    rfl, rfl, rfl, rfl, rfl, rfl, rfl, rfl, rfl, rfl, rfl, rfl, rfl, rfl, rfl, rfl, rfl, rfl, rfl, rfl⟩

@[simp] theorem word_setStep (at_ : Nat) (d n : Nat) (c : StepCh) (s : State) : word at_ (setStep d n c s) = word at_
    s := rfl

@[simp] theorem rd_setStep (at_ : Loc) (d n : Nat) (c : StepCh) (s : State) : rd at_ (setStep d n c s) = rd at_ s :=
    rfl

@[simp] theorem setDlane_fields (d n : Nat) (v : DecodeLane) (s : State) : (setDlane d n v s).part = s.part ∧
    (setDlane d n v s).straps = s.straps ∧ (setDlane d n v s).regs = s.regs ∧ (setDlane d n v s).mem = s.mem ∧
    (setDlane d n v s).nv = s.nv ∧ (setDlane d n v s).host = s.host ∧ (setDlane d n v s).flash = s.flash ∧ (setDlane d
    n v s).now = s.now ∧ (setDlane d n v s).clocks = s.clocks ∧ (setDlane d n v s).master = s.master ∧ (setDlane d n v
    s).landed = s.landed ∧ (setDlane d n v s).resp = s.resp ∧ (setDlane d n v s).sent = s.sent ∧ (setDlane d n v
    s).msgs = s.msgs ∧ (setDlane d n v s).freeSeq = s.freeSeq ∧ (setDlane d n v s).fenced = s.fenced ∧ (setDlane d n v
    s).unfPending = s.unfPending ∧ (setDlane d n v s).safeStop = s.safeStop ∧ (setDlane d n v s).errPulseEnd =
    s.errPulseEnd ∧ (setDlane d n v s).errAonHold = s.errAonHold ∧ (setDlane d n v s).releases = s.releases ∧
    (setDlane d n v s).domains = s.domains ∧ (setDlane d n v s).txns = s.txns ∧ (setDlane d n v s).xtxn = s.xtxn ∧
    (setDlane d n v s).lastFsnValid = s.lastFsnValid ∧ (setDlane d n v s).slots = s.slots ∧ (setDlane d n v s).planes
    = s.planes ∧ (setDlane d n v s).decls = s.decls ∧ (setDlane d n v s).retained = s.retained ∧ (setDlane d n v
    s).freed = s.freed ∧ (setDlane d n v s).freedWait = s.freedWait ∧ (setDlane d n v s).spoilLog = s.spoilLog ∧
    (setDlane d n v s).spoils = s.spoils ∧ (setDlane d n v s).badBlocks = s.badBlocks ∧ (setDlane d n v s).memTrained
    = s.memTrained ∧ (setDlane d n v s).dmas = s.dmas ∧ (setDlane d n v s).scrubs = s.scrubs ∧ (setDlane d n v s).jobs
    = s.jobs ∧ (setDlane d n v s).jobNext = s.jobNext ∧ (setDlane d n v s).jobEnded = s.jobEnded ∧ (setDlane d n v
    s).counters = s.counters ∧ (setDlane d n v s).encoders = s.encoders ∧ (setDlane d n v s).cues = s.cues ∧ (setDlane
    d n v s).startLists = s.startLists ∧ (setDlane d n v s).paths = s.paths ∧ (setDlane d n v s).purges = s.purges ∧
    (setDlane d n v s).logBusy = s.logBusy ∧ (setDlane d n v s).logWait = s.logWait ∧ (setDlane d n v s).focs = s.focs
    ∧ (setDlane d n v s).buses = s.buses ∧ (setDlane d n v s).steps = s.steps ∧ (setDlane d n v s).ilkIn = s.ilkIn ∧
    (setDlane d n v s).hokIn = s.hokIn ∧ (setDlane d n v s).stations = s.stations ∧ (setDlane d n v s).imagers =
    s.imagers ∧ (setDlane d n v s).loops = s.loops ∧ (setDlane d n v s).cffs = s.cffs ∧ (setDlane d n v s).aregOut =
    s.aregOut ∧ (setDlane d n v s).adcs = s.adcs ∧ (setDlane d n v s).heaters = s.heaters ∧ (setDlane d n v s).zeros =
    s.zeros ∧ (setDlane d n v s).hvOver = s.hvOver ∧ (setDlane d n v s).gpios = s.gpios ∧ (setDlane d n v s).eths =
    s.eths ∧ (setDlane d n v s).syncAt = s.syncAt ∧ (setDlane d n v s).loopNext = s.loopNext ∧ (setDlane d n v
    s).rails = s.rails ∧ (setDlane d n v s).rmon = s.rmon ∧ (setDlane d n v s).thermals = s.thermals ∧ (setDlane d n v
    s).stopAtRun = s.stopAtRun ∧ (setDlane d n v s).nvBad = s.nvBad ∧ (setDlane d n v s).logSeq = s.logSeq ∧ (setDlane
    d n v s).lanes = s.lanes ∧ (setDlane d n v s).rasters = s.rasters ∧ (setDlane d n v s).headLinks = s.headLinks ∧
    (setDlane d n v s).bonds = s.bonds ∧ (setDlane d n v s).marks = s.marks ∧ (setDlane d n v s).calJobs = s.calJobs ∧
    (setDlane d n v s).ages = s.ages ∧ (setDlane d n v s).linksFenced = s.linksFenced ∧ (setDlane d n v s).clkFails =
    s.clkFails ∧ (setDlane d n v s).strapsAt = s.strapsAt ∧ (setDlane d n v s).boot = s.boot ∧ (setDlane d n v s).taps
    = s.taps ∧ (setDlane d n v s).dogs = s.dogs ∧ (setDlane d n v s).pcieUp = s.pcieUp ∧ (setDlane d n v s).bootWaits
    = s.bootWaits ∧ (setDlane d n v s).encEdges = s.encEdges ∧ (setDlane d n v s).pending = s.pending :=
  ⟨rfl, rfl, rfl, rfl, rfl, rfl, rfl, rfl, rfl, rfl, rfl, rfl, rfl, rfl, rfl, rfl, rfl, rfl, rfl, rfl, rfl, rfl, rfl,
    rfl, rfl, rfl, rfl, rfl, rfl, rfl, rfl, rfl, rfl, rfl, rfl, rfl, rfl, rfl, rfl, rfl, rfl, rfl, rfl, rfl, rfl, rfl,
    rfl, rfl, rfl, rfl, rfl, rfl, rfl, rfl, rfl, rfl, rfl, rfl, rfl, rfl, rfl, rfl, rfl, rfl, rfl, rfl, rfl, rfl, rfl,
    rfl, rfl, rfl, rfl, rfl, rfl, rfl, rfl, rfl, rfl, rfl, rfl, rfl, rfl, rfl, rfl, rfl, rfl, rfl, rfl⟩

@[simp] theorem word_setDlane (at_ : Nat) (d n : Nat) (v : DecodeLane) (s : State) : word at_ (setDlane d n v s) =
    word at_ s := rfl

@[simp] theorem rd_setDlane (at_ : Loc) (d n : Nat) (v : DecodeLane) (s : State) : rd at_ (setDlane d n v s) = rd at_
    s := rfl

@[simp] theorem setImager_fields (k : Nat) (v : Imager) (s : State) : (setImager k v s).part = s.part ∧ (setImager k v
    s).straps = s.straps ∧ (setImager k v s).regs = s.regs ∧ (setImager k v s).mem = s.mem ∧ (setImager k v s).nv =
    s.nv ∧ (setImager k v s).host = s.host ∧ (setImager k v s).flash = s.flash ∧ (setImager k v s).now = s.now ∧
    (setImager k v s).clocks = s.clocks ∧ (setImager k v s).master = s.master ∧ (setImager k v s).landed = s.landed ∧
    (setImager k v s).resp = s.resp ∧ (setImager k v s).sent = s.sent ∧ (setImager k v s).msgs = s.msgs ∧ (setImager k
    v s).freeSeq = s.freeSeq ∧ (setImager k v s).fenced = s.fenced ∧ (setImager k v s).unfPending = s.unfPending ∧
    (setImager k v s).safeStop = s.safeStop ∧ (setImager k v s).errPulseEnd = s.errPulseEnd ∧ (setImager k v
    s).errAonHold = s.errAonHold ∧ (setImager k v s).releases = s.releases ∧ (setImager k v s).domains = s.domains ∧
    (setImager k v s).txns = s.txns ∧ (setImager k v s).xtxn = s.xtxn ∧ (setImager k v s).lastFsnValid =
    s.lastFsnValid ∧ (setImager k v s).slots = s.slots ∧ (setImager k v s).planes = s.planes ∧ (setImager k v s).decls
    = s.decls ∧ (setImager k v s).retained = s.retained ∧ (setImager k v s).freed = s.freed ∧ (setImager k v
    s).freedWait = s.freedWait ∧ (setImager k v s).spoilLog = s.spoilLog ∧ (setImager k v s).spoils = s.spoils ∧
    (setImager k v s).badBlocks = s.badBlocks ∧ (setImager k v s).memTrained = s.memTrained ∧ (setImager k v s).dmas =
    s.dmas ∧ (setImager k v s).scrubs = s.scrubs ∧ (setImager k v s).jobs = s.jobs ∧ (setImager k v s).jobNext =
    s.jobNext ∧ (setImager k v s).jobEnded = s.jobEnded ∧ (setImager k v s).dlanes = s.dlanes ∧ (setImager k v
    s).counters = s.counters ∧ (setImager k v s).encoders = s.encoders ∧ (setImager k v s).cues = s.cues ∧ (setImager
    k v s).startLists = s.startLists ∧ (setImager k v s).paths = s.paths ∧ (setImager k v s).purges = s.purges ∧
    (setImager k v s).logBusy = s.logBusy ∧ (setImager k v s).logWait = s.logWait ∧ (setImager k v s).focs = s.focs ∧
    (setImager k v s).buses = s.buses ∧ (setImager k v s).steps = s.steps ∧ (setImager k v s).ilkIn = s.ilkIn ∧
    (setImager k v s).hokIn = s.hokIn ∧ (setImager k v s).stations = s.stations ∧ (setImager k v s).loops = s.loops ∧
    (setImager k v s).cffs = s.cffs ∧ (setImager k v s).aregOut = s.aregOut ∧ (setImager k v s).adcs = s.adcs ∧
    (setImager k v s).heaters = s.heaters ∧ (setImager k v s).zeros = s.zeros ∧ (setImager k v s).hvOver = s.hvOver ∧
    (setImager k v s).gpios = s.gpios ∧ (setImager k v s).eths = s.eths ∧ (setImager k v s).syncAt = s.syncAt ∧
    (setImager k v s).loopNext = s.loopNext ∧ (setImager k v s).rails = s.rails ∧ (setImager k v s).rmon = s.rmon ∧
    (setImager k v s).thermals = s.thermals ∧ (setImager k v s).stopAtRun = s.stopAtRun ∧ (setImager k v s).nvBad =
    s.nvBad ∧ (setImager k v s).logSeq = s.logSeq ∧ (setImager k v s).lanes = s.lanes ∧ (setImager k v s).rasters =
    s.rasters ∧ (setImager k v s).headLinks = s.headLinks ∧ (setImager k v s).bonds = s.bonds ∧ (setImager k v
    s).marks = s.marks ∧ (setImager k v s).calJobs = s.calJobs ∧ (setImager k v s).ages = s.ages ∧ (setImager k v
    s).linksFenced = s.linksFenced ∧ (setImager k v s).clkFails = s.clkFails ∧ (setImager k v s).strapsAt = s.strapsAt
    ∧ (setImager k v s).boot = s.boot ∧ (setImager k v s).taps = s.taps ∧ (setImager k v s).dogs = s.dogs ∧ (setImager
    k v s).pcieUp = s.pcieUp ∧ (setImager k v s).bootWaits = s.bootWaits ∧ (setImager k v s).encEdges = s.encEdges ∧
    (setImager k v s).pending = s.pending :=
  ⟨rfl, rfl, rfl, rfl, rfl, rfl, rfl, rfl, rfl, rfl, rfl, rfl, rfl, rfl, rfl, rfl, rfl, rfl, rfl, rfl, rfl, rfl, rfl,
    rfl, rfl, rfl, rfl, rfl, rfl, rfl, rfl, rfl, rfl, rfl, rfl, rfl, rfl, rfl, rfl, rfl, rfl, rfl, rfl, rfl, rfl, rfl,
    rfl, rfl, rfl, rfl, rfl, rfl, rfl, rfl, rfl, rfl, rfl, rfl, rfl, rfl, rfl, rfl, rfl, rfl, rfl, rfl, rfl, rfl, rfl,
    rfl, rfl, rfl, rfl, rfl, rfl, rfl, rfl, rfl, rfl, rfl, rfl, rfl, rfl, rfl, rfl, rfl, rfl, rfl, rfl⟩

@[simp] theorem word_setImager (at_ : Nat) (k : Nat) (v : Imager) (s : State) : word at_ (setImager k v s) = word at_
    s := rfl

@[simp] theorem rd_setImager (at_ : Loc) (k : Nat) (v : Imager) (s : State) : rd at_ (setImager k v s) = rd at_ s :=
    rfl

@[simp] theorem setThermal_fields (d : Nat) (v : Thermal) (s : State) : (setThermal d v s).part = s.part ∧ (setThermal
    d v s).straps = s.straps ∧ (setThermal d v s).regs = s.regs ∧ (setThermal d v s).mem = s.mem ∧ (setThermal d v
    s).nv = s.nv ∧ (setThermal d v s).host = s.host ∧ (setThermal d v s).flash = s.flash ∧ (setThermal d v s).now =
    s.now ∧ (setThermal d v s).clocks = s.clocks ∧ (setThermal d v s).master = s.master ∧ (setThermal d v s).landed =
    s.landed ∧ (setThermal d v s).resp = s.resp ∧ (setThermal d v s).sent = s.sent ∧ (setThermal d v s).msgs = s.msgs
    ∧ (setThermal d v s).freeSeq = s.freeSeq ∧ (setThermal d v s).fenced = s.fenced ∧ (setThermal d v s).unfPending =
    s.unfPending ∧ (setThermal d v s).safeStop = s.safeStop ∧ (setThermal d v s).errPulseEnd = s.errPulseEnd ∧
    (setThermal d v s).errAonHold = s.errAonHold ∧ (setThermal d v s).releases = s.releases ∧ (setThermal d v
    s).domains = s.domains ∧ (setThermal d v s).txns = s.txns ∧ (setThermal d v s).xtxn = s.xtxn ∧ (setThermal d v
    s).lastFsnValid = s.lastFsnValid ∧ (setThermal d v s).slots = s.slots ∧ (setThermal d v s).planes = s.planes ∧
    (setThermal d v s).decls = s.decls ∧ (setThermal d v s).retained = s.retained ∧ (setThermal d v s).freed = s.freed
    ∧ (setThermal d v s).freedWait = s.freedWait ∧ (setThermal d v s).spoilLog = s.spoilLog ∧ (setThermal d v
    s).spoils = s.spoils ∧ (setThermal d v s).badBlocks = s.badBlocks ∧ (setThermal d v s).memTrained = s.memTrained ∧
    (setThermal d v s).dmas = s.dmas ∧ (setThermal d v s).scrubs = s.scrubs ∧ (setThermal d v s).jobs = s.jobs ∧
    (setThermal d v s).jobNext = s.jobNext ∧ (setThermal d v s).jobEnded = s.jobEnded ∧ (setThermal d v s).dlanes =
    s.dlanes ∧ (setThermal d v s).counters = s.counters ∧ (setThermal d v s).encoders = s.encoders ∧ (setThermal d v
    s).cues = s.cues ∧ (setThermal d v s).startLists = s.startLists ∧ (setThermal d v s).paths = s.paths ∧ (setThermal
    d v s).purges = s.purges ∧ (setThermal d v s).logBusy = s.logBusy ∧ (setThermal d v s).logWait = s.logWait ∧
    (setThermal d v s).focs = s.focs ∧ (setThermal d v s).buses = s.buses ∧ (setThermal d v s).steps = s.steps ∧
    (setThermal d v s).ilkIn = s.ilkIn ∧ (setThermal d v s).hokIn = s.hokIn ∧ (setThermal d v s).stations = s.stations
    ∧ (setThermal d v s).imagers = s.imagers ∧ (setThermal d v s).loops = s.loops ∧ (setThermal d v s).cffs = s.cffs ∧
    (setThermal d v s).aregOut = s.aregOut ∧ (setThermal d v s).adcs = s.adcs ∧ (setThermal d v s).heaters = s.heaters
    ∧ (setThermal d v s).zeros = s.zeros ∧ (setThermal d v s).hvOver = s.hvOver ∧ (setThermal d v s).gpios = s.gpios ∧
    (setThermal d v s).eths = s.eths ∧ (setThermal d v s).syncAt = s.syncAt ∧ (setThermal d v s).loopNext = s.loopNext
    ∧ (setThermal d v s).rails = s.rails ∧ (setThermal d v s).rmon = s.rmon ∧ (setThermal d v s).stopAtRun =
    s.stopAtRun ∧ (setThermal d v s).nvBad = s.nvBad ∧ (setThermal d v s).logSeq = s.logSeq ∧ (setThermal d v s).lanes
    = s.lanes ∧ (setThermal d v s).rasters = s.rasters ∧ (setThermal d v s).headLinks = s.headLinks ∧ (setThermal d v
    s).bonds = s.bonds ∧ (setThermal d v s).marks = s.marks ∧ (setThermal d v s).calJobs = s.calJobs ∧ (setThermal d v
    s).ages = s.ages ∧ (setThermal d v s).linksFenced = s.linksFenced ∧ (setThermal d v s).clkFails = s.clkFails ∧
    (setThermal d v s).strapsAt = s.strapsAt ∧ (setThermal d v s).boot = s.boot ∧ (setThermal d v s).taps = s.taps ∧
    (setThermal d v s).dogs = s.dogs ∧ (setThermal d v s).pcieUp = s.pcieUp ∧ (setThermal d v s).bootWaits =
    s.bootWaits ∧ (setThermal d v s).encEdges = s.encEdges ∧ (setThermal d v s).pending = s.pending :=
  ⟨rfl, rfl, rfl, rfl, rfl, rfl, rfl, rfl, rfl, rfl, rfl, rfl, rfl, rfl, rfl, rfl, rfl, rfl, rfl, rfl, rfl, rfl, rfl,
    rfl, rfl, rfl, rfl, rfl, rfl, rfl, rfl, rfl, rfl, rfl, rfl, rfl, rfl, rfl, rfl, rfl, rfl, rfl, rfl, rfl, rfl, rfl,
    rfl, rfl, rfl, rfl, rfl, rfl, rfl, rfl, rfl, rfl, rfl, rfl, rfl, rfl, rfl, rfl, rfl, rfl, rfl, rfl, rfl, rfl, rfl,
    rfl, rfl, rfl, rfl, rfl, rfl, rfl, rfl, rfl, rfl, rfl, rfl, rfl, rfl, rfl, rfl, rfl, rfl, rfl, rfl⟩

@[simp] theorem word_setThermal (at_ : Nat) (d : Nat) (v : Thermal) (s : State) : word at_ (setThermal d v s) = word
    at_ s := rfl

@[simp] theorem rd_setThermal (at_ : Loc) (d : Nat) (v : Thermal) (s : State) : rd at_ (setThermal d v s) = rd at_ s
    := rfl

@[simp] theorem setAge_fields (k : Nat) (v : AgeRun) (s : State) : (setAge k v s).part = s.part ∧ (setAge k v
    s).straps = s.straps ∧ (setAge k v s).regs = s.regs ∧ (setAge k v s).mem = s.mem ∧ (setAge k v s).nv = s.nv ∧
    (setAge k v s).host = s.host ∧ (setAge k v s).flash = s.flash ∧ (setAge k v s).now = s.now ∧ (setAge k v s).clocks
    = s.clocks ∧ (setAge k v s).master = s.master ∧ (setAge k v s).landed = s.landed ∧ (setAge k v s).resp = s.resp ∧
    (setAge k v s).sent = s.sent ∧ (setAge k v s).msgs = s.msgs ∧ (setAge k v s).freeSeq = s.freeSeq ∧ (setAge k v
    s).fenced = s.fenced ∧ (setAge k v s).unfPending = s.unfPending ∧ (setAge k v s).safeStop = s.safeStop ∧ (setAge k
    v s).errPulseEnd = s.errPulseEnd ∧ (setAge k v s).errAonHold = s.errAonHold ∧ (setAge k v s).releases = s.releases
    ∧ (setAge k v s).domains = s.domains ∧ (setAge k v s).txns = s.txns ∧ (setAge k v s).xtxn = s.xtxn ∧ (setAge k v
    s).lastFsnValid = s.lastFsnValid ∧ (setAge k v s).slots = s.slots ∧ (setAge k v s).planes = s.planes ∧ (setAge k v
    s).decls = s.decls ∧ (setAge k v s).retained = s.retained ∧ (setAge k v s).freed = s.freed ∧ (setAge k v
    s).freedWait = s.freedWait ∧ (setAge k v s).spoilLog = s.spoilLog ∧ (setAge k v s).spoils = s.spoils ∧ (setAge k v
    s).badBlocks = s.badBlocks ∧ (setAge k v s).memTrained = s.memTrained ∧ (setAge k v s).dmas = s.dmas ∧ (setAge k v
    s).scrubs = s.scrubs ∧ (setAge k v s).jobs = s.jobs ∧ (setAge k v s).jobNext = s.jobNext ∧ (setAge k v s).jobEnded
    = s.jobEnded ∧ (setAge k v s).dlanes = s.dlanes ∧ (setAge k v s).counters = s.counters ∧ (setAge k v s).encoders =
    s.encoders ∧ (setAge k v s).cues = s.cues ∧ (setAge k v s).startLists = s.startLists ∧ (setAge k v s).paths =
    s.paths ∧ (setAge k v s).purges = s.purges ∧ (setAge k v s).logBusy = s.logBusy ∧ (setAge k v s).logWait =
    s.logWait ∧ (setAge k v s).focs = s.focs ∧ (setAge k v s).buses = s.buses ∧ (setAge k v s).steps = s.steps ∧
    (setAge k v s).ilkIn = s.ilkIn ∧ (setAge k v s).hokIn = s.hokIn ∧ (setAge k v s).stations = s.stations ∧ (setAge k
    v s).imagers = s.imagers ∧ (setAge k v s).loops = s.loops ∧ (setAge k v s).cffs = s.cffs ∧ (setAge k v s).aregOut
    = s.aregOut ∧ (setAge k v s).adcs = s.adcs ∧ (setAge k v s).heaters = s.heaters ∧ (setAge k v s).zeros = s.zeros ∧
    (setAge k v s).hvOver = s.hvOver ∧ (setAge k v s).gpios = s.gpios ∧ (setAge k v s).eths = s.eths ∧ (setAge k v
    s).syncAt = s.syncAt ∧ (setAge k v s).loopNext = s.loopNext ∧ (setAge k v s).rails = s.rails ∧ (setAge k v s).rmon
    = s.rmon ∧ (setAge k v s).thermals = s.thermals ∧ (setAge k v s).stopAtRun = s.stopAtRun ∧ (setAge k v s).nvBad =
    s.nvBad ∧ (setAge k v s).logSeq = s.logSeq ∧ (setAge k v s).lanes = s.lanes ∧ (setAge k v s).rasters = s.rasters ∧
    (setAge k v s).headLinks = s.headLinks ∧ (setAge k v s).bonds = s.bonds ∧ (setAge k v s).marks = s.marks ∧ (setAge
    k v s).calJobs = s.calJobs ∧ (setAge k v s).linksFenced = s.linksFenced ∧ (setAge k v s).clkFails = s.clkFails ∧
    (setAge k v s).strapsAt = s.strapsAt ∧ (setAge k v s).boot = s.boot ∧ (setAge k v s).taps = s.taps ∧ (setAge k v
    s).dogs = s.dogs ∧ (setAge k v s).pcieUp = s.pcieUp ∧ (setAge k v s).bootWaits = s.bootWaits ∧ (setAge k v
    s).encEdges = s.encEdges ∧ (setAge k v s).pending = s.pending :=
  ⟨rfl, rfl, rfl, rfl, rfl, rfl, rfl, rfl, rfl, rfl, rfl, rfl, rfl, rfl, rfl, rfl, rfl, rfl, rfl, rfl, rfl, rfl, rfl,
    rfl, rfl, rfl, rfl, rfl, rfl, rfl, rfl, rfl, rfl, rfl, rfl, rfl, rfl, rfl, rfl, rfl, rfl, rfl, rfl, rfl, rfl, rfl,
    rfl, rfl, rfl, rfl, rfl, rfl, rfl, rfl, rfl, rfl, rfl, rfl, rfl, rfl, rfl, rfl, rfl, rfl, rfl, rfl, rfl, rfl, rfl,
    rfl, rfl, rfl, rfl, rfl, rfl, rfl, rfl, rfl, rfl, rfl, rfl, rfl, rfl, rfl, rfl, rfl, rfl, rfl, rfl⟩

@[simp] theorem word_setAge (at_ : Nat) (k : Nat) (v : AgeRun) (s : State) : word at_ (setAge k v s) = word at_ s :=
    rfl

@[simp] theorem rd_setAge (at_ : Loc) (k : Nat) (v : AgeRun) (s : State) : rd at_ (setAge k v s) = rd at_ s := rfl

@[simp] theorem setCalJob_fields (d : Nat) (v : Option CalJob) (s : State) : (setCalJob d v s).part = s.part ∧
    (setCalJob d v s).straps = s.straps ∧ (setCalJob d v s).regs = s.regs ∧ (setCalJob d v s).mem = s.mem ∧ (setCalJob
    d v s).nv = s.nv ∧ (setCalJob d v s).host = s.host ∧ (setCalJob d v s).flash = s.flash ∧ (setCalJob d v s).now =
    s.now ∧ (setCalJob d v s).clocks = s.clocks ∧ (setCalJob d v s).master = s.master ∧ (setCalJob d v s).landed =
    s.landed ∧ (setCalJob d v s).resp = s.resp ∧ (setCalJob d v s).sent = s.sent ∧ (setCalJob d v s).msgs = s.msgs ∧
    (setCalJob d v s).freeSeq = s.freeSeq ∧ (setCalJob d v s).fenced = s.fenced ∧ (setCalJob d v s).unfPending =
    s.unfPending ∧ (setCalJob d v s).safeStop = s.safeStop ∧ (setCalJob d v s).errPulseEnd = s.errPulseEnd ∧
    (setCalJob d v s).errAonHold = s.errAonHold ∧ (setCalJob d v s).releases = s.releases ∧ (setCalJob d v s).domains
    = s.domains ∧ (setCalJob d v s).txns = s.txns ∧ (setCalJob d v s).xtxn = s.xtxn ∧ (setCalJob d v s).lastFsnValid =
    s.lastFsnValid ∧ (setCalJob d v s).slots = s.slots ∧ (setCalJob d v s).planes = s.planes ∧ (setCalJob d v s).decls
    = s.decls ∧ (setCalJob d v s).retained = s.retained ∧ (setCalJob d v s).freed = s.freed ∧ (setCalJob d v
    s).freedWait = s.freedWait ∧ (setCalJob d v s).spoilLog = s.spoilLog ∧ (setCalJob d v s).spoils = s.spoils ∧
    (setCalJob d v s).badBlocks = s.badBlocks ∧ (setCalJob d v s).memTrained = s.memTrained ∧ (setCalJob d v s).dmas =
    s.dmas ∧ (setCalJob d v s).scrubs = s.scrubs ∧ (setCalJob d v s).jobs = s.jobs ∧ (setCalJob d v s).jobNext =
    s.jobNext ∧ (setCalJob d v s).jobEnded = s.jobEnded ∧ (setCalJob d v s).dlanes = s.dlanes ∧ (setCalJob d v
    s).counters = s.counters ∧ (setCalJob d v s).encoders = s.encoders ∧ (setCalJob d v s).cues = s.cues ∧ (setCalJob
    d v s).startLists = s.startLists ∧ (setCalJob d v s).paths = s.paths ∧ (setCalJob d v s).purges = s.purges ∧
    (setCalJob d v s).logBusy = s.logBusy ∧ (setCalJob d v s).logWait = s.logWait ∧ (setCalJob d v s).focs = s.focs ∧
    (setCalJob d v s).buses = s.buses ∧ (setCalJob d v s).steps = s.steps ∧ (setCalJob d v s).ilkIn = s.ilkIn ∧
    (setCalJob d v s).hokIn = s.hokIn ∧ (setCalJob d v s).stations = s.stations ∧ (setCalJob d v s).imagers =
    s.imagers ∧ (setCalJob d v s).loops = s.loops ∧ (setCalJob d v s).cffs = s.cffs ∧ (setCalJob d v s).aregOut =
    s.aregOut ∧ (setCalJob d v s).adcs = s.adcs ∧ (setCalJob d v s).heaters = s.heaters ∧ (setCalJob d v s).zeros =
    s.zeros ∧ (setCalJob d v s).hvOver = s.hvOver ∧ (setCalJob d v s).gpios = s.gpios ∧ (setCalJob d v s).eths =
    s.eths ∧ (setCalJob d v s).syncAt = s.syncAt ∧ (setCalJob d v s).loopNext = s.loopNext ∧ (setCalJob d v s).rails =
    s.rails ∧ (setCalJob d v s).rmon = s.rmon ∧ (setCalJob d v s).thermals = s.thermals ∧ (setCalJob d v s).stopAtRun
    = s.stopAtRun ∧ (setCalJob d v s).nvBad = s.nvBad ∧ (setCalJob d v s).logSeq = s.logSeq ∧ (setCalJob d v s).lanes
    = s.lanes ∧ (setCalJob d v s).rasters = s.rasters ∧ (setCalJob d v s).headLinks = s.headLinks ∧ (setCalJob d v
    s).bonds = s.bonds ∧ (setCalJob d v s).marks = s.marks ∧ (setCalJob d v s).ages = s.ages ∧ (setCalJob d v
    s).linksFenced = s.linksFenced ∧ (setCalJob d v s).clkFails = s.clkFails ∧ (setCalJob d v s).strapsAt = s.strapsAt
    ∧ (setCalJob d v s).boot = s.boot ∧ (setCalJob d v s).taps = s.taps ∧ (setCalJob d v s).dogs = s.dogs ∧ (setCalJob
    d v s).pcieUp = s.pcieUp ∧ (setCalJob d v s).bootWaits = s.bootWaits ∧ (setCalJob d v s).encEdges = s.encEdges ∧
    (setCalJob d v s).pending = s.pending :=
  ⟨rfl, rfl, rfl, rfl, rfl, rfl, rfl, rfl, rfl, rfl, rfl, rfl, rfl, rfl, rfl, rfl, rfl, rfl, rfl, rfl, rfl, rfl, rfl,
    rfl, rfl, rfl, rfl, rfl, rfl, rfl, rfl, rfl, rfl, rfl, rfl, rfl, rfl, rfl, rfl, rfl, rfl, rfl, rfl, rfl, rfl, rfl,
    rfl, rfl, rfl, rfl, rfl, rfl, rfl, rfl, rfl, rfl, rfl, rfl, rfl, rfl, rfl, rfl, rfl, rfl, rfl, rfl, rfl, rfl, rfl,
    rfl, rfl, rfl, rfl, rfl, rfl, rfl, rfl, rfl, rfl, rfl, rfl, rfl, rfl, rfl, rfl, rfl, rfl, rfl, rfl⟩

@[simp] theorem word_setCalJob (at_ : Nat) (d : Nat) (v : Option CalJob) (s : State) : word at_ (setCalJob d v s) =
    word at_ s := rfl

@[simp] theorem rd_setCalJob (at_ : Loc) (d : Nat) (v : Option CalJob) (s : State) : rd at_ (setCalJob d v s) = rd at_
    s := rfl

@[simp] theorem setMark_fields (d m : Nat) (v : MarkInput) (s : State) : (setMark d m v s).part = s.part ∧ (setMark d
    m v s).straps = s.straps ∧ (setMark d m v s).regs = s.regs ∧ (setMark d m v s).mem = s.mem ∧ (setMark d m v s).nv
    = s.nv ∧ (setMark d m v s).host = s.host ∧ (setMark d m v s).flash = s.flash ∧ (setMark d m v s).now = s.now ∧
    (setMark d m v s).clocks = s.clocks ∧ (setMark d m v s).master = s.master ∧ (setMark d m v s).landed = s.landed ∧
    (setMark d m v s).resp = s.resp ∧ (setMark d m v s).sent = s.sent ∧ (setMark d m v s).msgs = s.msgs ∧ (setMark d m
    v s).freeSeq = s.freeSeq ∧ (setMark d m v s).fenced = s.fenced ∧ (setMark d m v s).unfPending = s.unfPending ∧
    (setMark d m v s).safeStop = s.safeStop ∧ (setMark d m v s).errPulseEnd = s.errPulseEnd ∧ (setMark d m v
    s).errAonHold = s.errAonHold ∧ (setMark d m v s).releases = s.releases ∧ (setMark d m v s).domains = s.domains ∧
    (setMark d m v s).txns = s.txns ∧ (setMark d m v s).xtxn = s.xtxn ∧ (setMark d m v s).lastFsnValid =
    s.lastFsnValid ∧ (setMark d m v s).slots = s.slots ∧ (setMark d m v s).planes = s.planes ∧ (setMark d m v s).decls
    = s.decls ∧ (setMark d m v s).retained = s.retained ∧ (setMark d m v s).freed = s.freed ∧ (setMark d m v
    s).freedWait = s.freedWait ∧ (setMark d m v s).spoilLog = s.spoilLog ∧ (setMark d m v s).spoils = s.spoils ∧
    (setMark d m v s).badBlocks = s.badBlocks ∧ (setMark d m v s).memTrained = s.memTrained ∧ (setMark d m v s).dmas =
    s.dmas ∧ (setMark d m v s).scrubs = s.scrubs ∧ (setMark d m v s).jobs = s.jobs ∧ (setMark d m v s).jobNext =
    s.jobNext ∧ (setMark d m v s).jobEnded = s.jobEnded ∧ (setMark d m v s).dlanes = s.dlanes ∧ (setMark d m v
    s).counters = s.counters ∧ (setMark d m v s).encoders = s.encoders ∧ (setMark d m v s).cues = s.cues ∧ (setMark d
    m v s).startLists = s.startLists ∧ (setMark d m v s).paths = s.paths ∧ (setMark d m v s).purges = s.purges ∧
    (setMark d m v s).logBusy = s.logBusy ∧ (setMark d m v s).logWait = s.logWait ∧ (setMark d m v s).focs = s.focs ∧
    (setMark d m v s).buses = s.buses ∧ (setMark d m v s).steps = s.steps ∧ (setMark d m v s).ilkIn = s.ilkIn ∧
    (setMark d m v s).hokIn = s.hokIn ∧ (setMark d m v s).stations = s.stations ∧ (setMark d m v s).imagers =
    s.imagers ∧ (setMark d m v s).loops = s.loops ∧ (setMark d m v s).cffs = s.cffs ∧ (setMark d m v s).aregOut =
    s.aregOut ∧ (setMark d m v s).adcs = s.adcs ∧ (setMark d m v s).heaters = s.heaters ∧ (setMark d m v s).zeros =
    s.zeros ∧ (setMark d m v s).hvOver = s.hvOver ∧ (setMark d m v s).gpios = s.gpios ∧ (setMark d m v s).eths =
    s.eths ∧ (setMark d m v s).syncAt = s.syncAt ∧ (setMark d m v s).loopNext = s.loopNext ∧ (setMark d m v s).rails =
    s.rails ∧ (setMark d m v s).rmon = s.rmon ∧ (setMark d m v s).thermals = s.thermals ∧ (setMark d m v s).stopAtRun
    = s.stopAtRun ∧ (setMark d m v s).nvBad = s.nvBad ∧ (setMark d m v s).logSeq = s.logSeq ∧ (setMark d m v s).lanes
    = s.lanes ∧ (setMark d m v s).rasters = s.rasters ∧ (setMark d m v s).headLinks = s.headLinks ∧ (setMark d m v
    s).bonds = s.bonds ∧ (setMark d m v s).calJobs = s.calJobs ∧ (setMark d m v s).ages = s.ages ∧ (setMark d m v
    s).linksFenced = s.linksFenced ∧ (setMark d m v s).clkFails = s.clkFails ∧ (setMark d m v s).strapsAt = s.strapsAt
    ∧ (setMark d m v s).boot = s.boot ∧ (setMark d m v s).taps = s.taps ∧ (setMark d m v s).dogs = s.dogs ∧ (setMark d
    m v s).pcieUp = s.pcieUp ∧ (setMark d m v s).bootWaits = s.bootWaits ∧ (setMark d m v s).encEdges = s.encEdges ∧
    (setMark d m v s).pending = s.pending :=
  ⟨rfl, rfl, rfl, rfl, rfl, rfl, rfl, rfl, rfl, rfl, rfl, rfl, rfl, rfl, rfl, rfl, rfl, rfl, rfl, rfl, rfl, rfl, rfl,
    rfl, rfl, rfl, rfl, rfl, rfl, rfl, rfl, rfl, rfl, rfl, rfl, rfl, rfl, rfl, rfl, rfl, rfl, rfl, rfl, rfl, rfl, rfl,
    rfl, rfl, rfl, rfl, rfl, rfl, rfl, rfl, rfl, rfl, rfl, rfl, rfl, rfl, rfl, rfl, rfl, rfl, rfl, rfl, rfl, rfl, rfl,
    rfl, rfl, rfl, rfl, rfl, rfl, rfl, rfl, rfl, rfl, rfl, rfl, rfl, rfl, rfl, rfl, rfl, rfl, rfl, rfl⟩

@[simp] theorem word_setMark (at_ : Nat) (d m : Nat) (v : MarkInput) (s : State) : word at_ (setMark d m v s) = word
    at_ s := rfl

@[simp] theorem rd_setMark (at_ : Loc) (d m : Nat) (v : MarkInput) (s : State) : rd at_ (setMark d m v s) = rd at_ s
    := rfl

@[simp] theorem setTap_fields (d : Nat) (t : Tap) (s : State) : (setTap d t s).part = s.part ∧ (setTap d t s).straps =
    s.straps ∧ (setTap d t s).regs = s.regs ∧ (setTap d t s).mem = s.mem ∧ (setTap d t s).nv = s.nv ∧ (setTap d t
    s).host = s.host ∧ (setTap d t s).flash = s.flash ∧ (setTap d t s).now = s.now ∧ (setTap d t s).clocks = s.clocks
    ∧ (setTap d t s).master = s.master ∧ (setTap d t s).landed = s.landed ∧ (setTap d t s).resp = s.resp ∧ (setTap d t
    s).sent = s.sent ∧ (setTap d t s).msgs = s.msgs ∧ (setTap d t s).freeSeq = s.freeSeq ∧ (setTap d t s).fenced =
    s.fenced ∧ (setTap d t s).unfPending = s.unfPending ∧ (setTap d t s).safeStop = s.safeStop ∧ (setTap d t
    s).errPulseEnd = s.errPulseEnd ∧ (setTap d t s).errAonHold = s.errAonHold ∧ (setTap d t s).releases = s.releases ∧
    (setTap d t s).domains = s.domains ∧ (setTap d t s).txns = s.txns ∧ (setTap d t s).xtxn = s.xtxn ∧ (setTap d t
    s).lastFsnValid = s.lastFsnValid ∧ (setTap d t s).slots = s.slots ∧ (setTap d t s).planes = s.planes ∧ (setTap d t
    s).decls = s.decls ∧ (setTap d t s).retained = s.retained ∧ (setTap d t s).freed = s.freed ∧ (setTap d t
    s).freedWait = s.freedWait ∧ (setTap d t s).spoilLog = s.spoilLog ∧ (setTap d t s).spoils = s.spoils ∧ (setTap d t
    s).badBlocks = s.badBlocks ∧ (setTap d t s).memTrained = s.memTrained ∧ (setTap d t s).dmas = s.dmas ∧ (setTap d t
    s).scrubs = s.scrubs ∧ (setTap d t s).jobs = s.jobs ∧ (setTap d t s).jobNext = s.jobNext ∧ (setTap d t s).jobEnded
    = s.jobEnded ∧ (setTap d t s).dlanes = s.dlanes ∧ (setTap d t s).counters = s.counters ∧ (setTap d t s).encoders =
    s.encoders ∧ (setTap d t s).cues = s.cues ∧ (setTap d t s).startLists = s.startLists ∧ (setTap d t s).paths =
    s.paths ∧ (setTap d t s).purges = s.purges ∧ (setTap d t s).logBusy = s.logBusy ∧ (setTap d t s).logWait =
    s.logWait ∧ (setTap d t s).focs = s.focs ∧ (setTap d t s).buses = s.buses ∧ (setTap d t s).steps = s.steps ∧
    (setTap d t s).ilkIn = s.ilkIn ∧ (setTap d t s).hokIn = s.hokIn ∧ (setTap d t s).stations = s.stations ∧ (setTap d
    t s).imagers = s.imagers ∧ (setTap d t s).loops = s.loops ∧ (setTap d t s).cffs = s.cffs ∧ (setTap d t s).aregOut
    = s.aregOut ∧ (setTap d t s).adcs = s.adcs ∧ (setTap d t s).heaters = s.heaters ∧ (setTap d t s).zeros = s.zeros ∧
    (setTap d t s).hvOver = s.hvOver ∧ (setTap d t s).gpios = s.gpios ∧ (setTap d t s).eths = s.eths ∧ (setTap d t
    s).syncAt = s.syncAt ∧ (setTap d t s).loopNext = s.loopNext ∧ (setTap d t s).rails = s.rails ∧ (setTap d t s).rmon
    = s.rmon ∧ (setTap d t s).thermals = s.thermals ∧ (setTap d t s).stopAtRun = s.stopAtRun ∧ (setTap d t s).nvBad =
    s.nvBad ∧ (setTap d t s).logSeq = s.logSeq ∧ (setTap d t s).lanes = s.lanes ∧ (setTap d t s).rasters = s.rasters ∧
    (setTap d t s).headLinks = s.headLinks ∧ (setTap d t s).bonds = s.bonds ∧ (setTap d t s).marks = s.marks ∧ (setTap
    d t s).calJobs = s.calJobs ∧ (setTap d t s).ages = s.ages ∧ (setTap d t s).linksFenced = s.linksFenced ∧ (setTap d
    t s).clkFails = s.clkFails ∧ (setTap d t s).strapsAt = s.strapsAt ∧ (setTap d t s).boot = s.boot ∧ (setTap d t
    s).dogs = s.dogs ∧ (setTap d t s).pcieUp = s.pcieUp ∧ (setTap d t s).bootWaits = s.bootWaits ∧ (setTap d t
    s).encEdges = s.encEdges ∧ (setTap d t s).pending = s.pending :=
  ⟨rfl, rfl, rfl, rfl, rfl, rfl, rfl, rfl, rfl, rfl, rfl, rfl, rfl, rfl, rfl, rfl, rfl, rfl, rfl, rfl, rfl, rfl, rfl,
    rfl, rfl, rfl, rfl, rfl, rfl, rfl, rfl, rfl, rfl, rfl, rfl, rfl, rfl, rfl, rfl, rfl, rfl, rfl, rfl, rfl, rfl, rfl,
    rfl, rfl, rfl, rfl, rfl, rfl, rfl, rfl, rfl, rfl, rfl, rfl, rfl, rfl, rfl, rfl, rfl, rfl, rfl, rfl, rfl, rfl, rfl,
    rfl, rfl, rfl, rfl, rfl, rfl, rfl, rfl, rfl, rfl, rfl, rfl, rfl, rfl, rfl, rfl, rfl, rfl, rfl, rfl⟩

@[simp] theorem word_setTap (at_ : Nat) (d : Nat) (t : Tap) (s : State) : word at_ (setTap d t s) = word at_ s := rfl

@[simp] theorem rd_setTap (at_ : Loc) (d : Nat) (t : Tap) (s : State) : rd at_ (setTap d t s) = rd at_ s := rfl

@[simp] theorem rasterSend_fields (d type : Nat) (body : List Nat) (s : State) : (rasterSend d type body s).part =
    s.part ∧ (rasterSend d type body s).straps = s.straps ∧ (rasterSend d type body s).regs = s.regs ∧ (rasterSend d
    type body s).mem = s.mem ∧ (rasterSend d type body s).nv = s.nv ∧ (rasterSend d type body s).host = s.host ∧
    (rasterSend d type body s).flash = s.flash ∧ (rasterSend d type body s).now = s.now ∧ (rasterSend d type body
    s).clocks = s.clocks ∧ (rasterSend d type body s).master = s.master ∧ (rasterSend d type body s).landed = s.landed
    ∧ (rasterSend d type body s).resp = s.resp ∧ (rasterSend d type body s).msgs = s.msgs ∧ (rasterSend d type body
    s).freeSeq = s.freeSeq ∧ (rasterSend d type body s).fenced = s.fenced ∧ (rasterSend d type body s).unfPending =
    s.unfPending ∧ (rasterSend d type body s).safeStop = s.safeStop ∧ (rasterSend d type body s).errPulseEnd =
    s.errPulseEnd ∧ (rasterSend d type body s).errAonHold = s.errAonHold ∧ (rasterSend d type body s).releases =
    s.releases ∧ (rasterSend d type body s).domains = s.domains ∧ (rasterSend d type body s).txns = s.txns ∧
    (rasterSend d type body s).xtxn = s.xtxn ∧ (rasterSend d type body s).lastFsnValid = s.lastFsnValid ∧ (rasterSend
    d type body s).slots = s.slots ∧ (rasterSend d type body s).planes = s.planes ∧ (rasterSend d type body s).decls =
    s.decls ∧ (rasterSend d type body s).retained = s.retained ∧ (rasterSend d type body s).freed = s.freed ∧
    (rasterSend d type body s).freedWait = s.freedWait ∧ (rasterSend d type body s).spoilLog = s.spoilLog ∧
    (rasterSend d type body s).spoils = s.spoils ∧ (rasterSend d type body s).badBlocks = s.badBlocks ∧ (rasterSend d
    type body s).memTrained = s.memTrained ∧ (rasterSend d type body s).dmas = s.dmas ∧ (rasterSend d type body
    s).scrubs = s.scrubs ∧ (rasterSend d type body s).jobs = s.jobs ∧ (rasterSend d type body s).jobNext = s.jobNext ∧
    (rasterSend d type body s).jobEnded = s.jobEnded ∧ (rasterSend d type body s).dlanes = s.dlanes ∧ (rasterSend d
    type body s).counters = s.counters ∧ (rasterSend d type body s).encoders = s.encoders ∧ (rasterSend d type body
    s).cues = s.cues ∧ (rasterSend d type body s).startLists = s.startLists ∧ (rasterSend d type body s).paths =
    s.paths ∧ (rasterSend d type body s).purges = s.purges ∧ (rasterSend d type body s).logBusy = s.logBusy ∧
    (rasterSend d type body s).logWait = s.logWait ∧ (rasterSend d type body s).focs = s.focs ∧ (rasterSend d type
    body s).buses = s.buses ∧ (rasterSend d type body s).steps = s.steps ∧ (rasterSend d type body s).ilkIn = s.ilkIn
    ∧ (rasterSend d type body s).hokIn = s.hokIn ∧ (rasterSend d type body s).stations = s.stations ∧ (rasterSend d
    type body s).imagers = s.imagers ∧ (rasterSend d type body s).loops = s.loops ∧ (rasterSend d type body s).cffs =
    s.cffs ∧ (rasterSend d type body s).aregOut = s.aregOut ∧ (rasterSend d type body s).adcs = s.adcs ∧ (rasterSend d
    type body s).heaters = s.heaters ∧ (rasterSend d type body s).zeros = s.zeros ∧ (rasterSend d type body s).hvOver
    = s.hvOver ∧ (rasterSend d type body s).gpios = s.gpios ∧ (rasterSend d type body s).eths = s.eths ∧ (rasterSend d
    type body s).syncAt = s.syncAt ∧ (rasterSend d type body s).loopNext = s.loopNext ∧ (rasterSend d type body
    s).rails = s.rails ∧ (rasterSend d type body s).rmon = s.rmon ∧ (rasterSend d type body s).thermals = s.thermals ∧
    (rasterSend d type body s).stopAtRun = s.stopAtRun ∧ (rasterSend d type body s).nvBad = s.nvBad ∧ (rasterSend d
    type body s).logSeq = s.logSeq ∧ (rasterSend d type body s).lanes = s.lanes ∧ (rasterSend d type body s).rasters =
    s.rasters ∧ (rasterSend d type body s).headLinks = s.headLinks ∧ (rasterSend d type body s).marks = s.marks ∧
    (rasterSend d type body s).calJobs = s.calJobs ∧ (rasterSend d type body s).ages = s.ages ∧ (rasterSend d type
    body s).linksFenced = s.linksFenced ∧ (rasterSend d type body s).clkFails = s.clkFails ∧ (rasterSend d type body
    s).strapsAt = s.strapsAt ∧ (rasterSend d type body s).boot = s.boot ∧ (rasterSend d type body s).taps = s.taps ∧
    (rasterSend d type body s).dogs = s.dogs ∧ (rasterSend d type body s).pcieUp = s.pcieUp ∧ (rasterSend d type body
    s).bootWaits = s.bootWaits ∧ (rasterSend d type body s).encEdges = s.encEdges ∧ (rasterSend d type body s).pending
    = s.pending := by
  unfold rasterSend streamPacket; dsimp only; split <;> exact
    ⟨rfl, rfl, rfl, rfl, rfl, rfl, rfl, rfl, rfl, rfl, rfl, rfl, rfl, rfl, rfl, rfl, rfl, rfl, rfl, rfl, rfl, rfl, rfl,
    rfl, rfl, rfl, rfl, rfl, rfl, rfl, rfl, rfl, rfl, rfl, rfl, rfl, rfl, rfl, rfl, rfl, rfl, rfl, rfl, rfl, rfl, rfl,
    rfl, rfl, rfl, rfl, rfl, rfl, rfl, rfl, rfl, rfl, rfl, rfl, rfl, rfl, rfl, rfl, rfl, rfl, rfl, rfl, rfl, rfl, rfl,
    rfl, rfl, rfl, rfl, rfl, rfl, rfl, rfl, rfl, rfl, rfl, rfl, rfl, rfl, rfl, rfl, rfl, rfl, rfl⟩

@[simp] theorem word_rasterSend (at_ : Nat) (d type : Nat) (body : List Nat) (s : State) : word at_ (rasterSend d type
    body s) = word at_ s := by unfold rasterSend streamPacket; dsimp only; split <;> rfl

@[simp] theorem rd_rasterSend (at_ : Loc) (d type : Nat) (body : List Nat) (s : State) : rd at_ (rasterSend d type
    body s) = rd at_ s := by unfold rasterSend streamPacket; dsimp only; split <;> rfl

@[simp] theorem sendCause_fields (p cause : Nat) (s : State) : (sendCause p cause s).part = s.part ∧ (sendCause p
    cause s).straps = s.straps ∧ (sendCause p cause s).regs = s.regs ∧ (sendCause p cause s).mem = s.mem ∧ (sendCause
    p cause s).nv = s.nv ∧ (sendCause p cause s).host = s.host ∧ (sendCause p cause s).flash = s.flash ∧ (sendCause p
    cause s).now = s.now ∧ (sendCause p cause s).clocks = s.clocks ∧ (sendCause p cause s).master = s.master ∧
    (sendCause p cause s).landed = s.landed ∧ (sendCause p cause s).resp = s.resp ∧ (sendCause p cause s).sent =
    s.sent ∧ (sendCause p cause s).freeSeq = s.freeSeq ∧ (sendCause p cause s).fenced = s.fenced ∧ (sendCause p cause
    s).unfPending = s.unfPending ∧ (sendCause p cause s).safeStop = s.safeStop ∧ (sendCause p cause s).errPulseEnd =
    s.errPulseEnd ∧ (sendCause p cause s).errAonHold = s.errAonHold ∧ (sendCause p cause s).releases = s.releases ∧
    (sendCause p cause s).domains = s.domains ∧ (sendCause p cause s).txns = s.txns ∧ (sendCause p cause s).xtxn =
    s.xtxn ∧ (sendCause p cause s).lastFsnValid = s.lastFsnValid ∧ (sendCause p cause s).slots = s.slots ∧ (sendCause
    p cause s).planes = s.planes ∧ (sendCause p cause s).decls = s.decls ∧ (sendCause p cause s).retained = s.retained
    ∧ (sendCause p cause s).freed = s.freed ∧ (sendCause p cause s).freedWait = s.freedWait ∧ (sendCause p cause
    s).spoilLog = s.spoilLog ∧ (sendCause p cause s).spoils = s.spoils ∧ (sendCause p cause s).badBlocks = s.badBlocks
    ∧ (sendCause p cause s).memTrained = s.memTrained ∧ (sendCause p cause s).dmas = s.dmas ∧ (sendCause p cause
    s).scrubs = s.scrubs ∧ (sendCause p cause s).jobs = s.jobs ∧ (sendCause p cause s).jobNext = s.jobNext ∧
    (sendCause p cause s).jobEnded = s.jobEnded ∧ (sendCause p cause s).dlanes = s.dlanes ∧ (sendCause p cause
    s).counters = s.counters ∧ (sendCause p cause s).encoders = s.encoders ∧ (sendCause p cause s).cues = s.cues ∧
    (sendCause p cause s).startLists = s.startLists ∧ (sendCause p cause s).paths = s.paths ∧ (sendCause p cause
    s).purges = s.purges ∧ (sendCause p cause s).logBusy = s.logBusy ∧ (sendCause p cause s).logWait = s.logWait ∧
    (sendCause p cause s).focs = s.focs ∧ (sendCause p cause s).buses = s.buses ∧ (sendCause p cause s).steps =
    s.steps ∧ (sendCause p cause s).ilkIn = s.ilkIn ∧ (sendCause p cause s).hokIn = s.hokIn ∧ (sendCause p cause
    s).stations = s.stations ∧ (sendCause p cause s).imagers = s.imagers ∧ (sendCause p cause s).loops = s.loops ∧
    (sendCause p cause s).cffs = s.cffs ∧ (sendCause p cause s).aregOut = s.aregOut ∧ (sendCause p cause s).adcs =
    s.adcs ∧ (sendCause p cause s).heaters = s.heaters ∧ (sendCause p cause s).zeros = s.zeros ∧ (sendCause p cause
    s).hvOver = s.hvOver ∧ (sendCause p cause s).gpios = s.gpios ∧ (sendCause p cause s).eths = s.eths ∧ (sendCause p
    cause s).syncAt = s.syncAt ∧ (sendCause p cause s).loopNext = s.loopNext ∧ (sendCause p cause s).rails = s.rails ∧
    (sendCause p cause s).rmon = s.rmon ∧ (sendCause p cause s).thermals = s.thermals ∧ (sendCause p cause
    s).stopAtRun = s.stopAtRun ∧ (sendCause p cause s).nvBad = s.nvBad ∧ (sendCause p cause s).logSeq = s.logSeq ∧
    (sendCause p cause s).lanes = s.lanes ∧ (sendCause p cause s).rasters = s.rasters ∧ (sendCause p cause
    s).headLinks = s.headLinks ∧ (sendCause p cause s).bonds = s.bonds ∧ (sendCause p cause s).marks = s.marks ∧
    (sendCause p cause s).calJobs = s.calJobs ∧ (sendCause p cause s).ages = s.ages ∧ (sendCause p cause
    s).linksFenced = s.linksFenced ∧ (sendCause p cause s).clkFails = s.clkFails ∧ (sendCause p cause s).strapsAt =
    s.strapsAt ∧ (sendCause p cause s).boot = s.boot ∧ (sendCause p cause s).taps = s.taps ∧ (sendCause p cause
    s).dogs = s.dogs ∧ (sendCause p cause s).pcieUp = s.pcieUp ∧ (sendCause p cause s).bootWaits = s.bootWaits ∧
    (sendCause p cause s).encEdges = s.encEdges ∧ (sendCause p cause s).pending = s.pending :=
  ⟨rfl, rfl, rfl, rfl, rfl, rfl, rfl, rfl, rfl, rfl, rfl, rfl, rfl, rfl, rfl, rfl, rfl, rfl, rfl, rfl, rfl, rfl, rfl,
    rfl, rfl, rfl, rfl, rfl, rfl, rfl, rfl, rfl, rfl, rfl, rfl, rfl, rfl, rfl, rfl, rfl, rfl, rfl, rfl, rfl, rfl, rfl,
    rfl, rfl, rfl, rfl, rfl, rfl, rfl, rfl, rfl, rfl, rfl, rfl, rfl, rfl, rfl, rfl, rfl, rfl, rfl, rfl, rfl, rfl, rfl,
    rfl, rfl, rfl, rfl, rfl, rfl, rfl, rfl, rfl, rfl, rfl, rfl, rfl, rfl, rfl, rfl, rfl, rfl, rfl, rfl⟩

@[simp] theorem word_sendCause (at_ : Nat) (p cause : Nat) (s : State) : word at_ (sendCause p cause s) = word at_ s
    := rfl

@[simp] theorem rd_sendCause (at_ : Loc) (p cause : Nat) (s : State) : rd at_ (sendCause p cause s) = rd at_ s := rfl

@[simp] theorem setEncoder_fields (d e : Nat) (v : Encoder) (s : State) : (setEncoder d e v s).part = s.part ∧
    (setEncoder d e v s).straps = s.straps ∧ (setEncoder d e v s).regs = s.regs ∧ (setEncoder d e v s).mem = s.mem ∧
    (setEncoder d e v s).nv = s.nv ∧ (setEncoder d e v s).host = s.host ∧ (setEncoder d e v s).flash = s.flash ∧
    (setEncoder d e v s).now = s.now ∧ (setEncoder d e v s).clocks = s.clocks ∧ (setEncoder d e v s).master = s.master
    ∧ (setEncoder d e v s).landed = s.landed ∧ (setEncoder d e v s).resp = s.resp ∧ (setEncoder d e v s).sent = s.sent
    ∧ (setEncoder d e v s).msgs = s.msgs ∧ (setEncoder d e v s).freeSeq = s.freeSeq ∧ (setEncoder d e v s).fenced =
    s.fenced ∧ (setEncoder d e v s).unfPending = s.unfPending ∧ (setEncoder d e v s).safeStop = s.safeStop ∧
    (setEncoder d e v s).errPulseEnd = s.errPulseEnd ∧ (setEncoder d e v s).errAonHold = s.errAonHold ∧ (setEncoder d
    e v s).releases = s.releases ∧ (setEncoder d e v s).domains = s.domains ∧ (setEncoder d e v s).txns = s.txns ∧
    (setEncoder d e v s).xtxn = s.xtxn ∧ (setEncoder d e v s).lastFsnValid = s.lastFsnValid ∧ (setEncoder d e v
    s).slots = s.slots ∧ (setEncoder d e v s).planes = s.planes ∧ (setEncoder d e v s).decls = s.decls ∧ (setEncoder d
    e v s).retained = s.retained ∧ (setEncoder d e v s).freed = s.freed ∧ (setEncoder d e v s).freedWait = s.freedWait
    ∧ (setEncoder d e v s).spoilLog = s.spoilLog ∧ (setEncoder d e v s).spoils = s.spoils ∧ (setEncoder d e v
    s).badBlocks = s.badBlocks ∧ (setEncoder d e v s).memTrained = s.memTrained ∧ (setEncoder d e v s).dmas = s.dmas ∧
    (setEncoder d e v s).scrubs = s.scrubs ∧ (setEncoder d e v s).jobs = s.jobs ∧ (setEncoder d e v s).jobNext =
    s.jobNext ∧ (setEncoder d e v s).jobEnded = s.jobEnded ∧ (setEncoder d e v s).dlanes = s.dlanes ∧ (setEncoder d e
    v s).counters = s.counters ∧ (setEncoder d e v s).cues = s.cues ∧ (setEncoder d e v s).startLists = s.startLists ∧
    (setEncoder d e v s).paths = s.paths ∧ (setEncoder d e v s).purges = s.purges ∧ (setEncoder d e v s).logBusy =
    s.logBusy ∧ (setEncoder d e v s).logWait = s.logWait ∧ (setEncoder d e v s).focs = s.focs ∧ (setEncoder d e v
    s).buses = s.buses ∧ (setEncoder d e v s).steps = s.steps ∧ (setEncoder d e v s).ilkIn = s.ilkIn ∧ (setEncoder d e
    v s).hokIn = s.hokIn ∧ (setEncoder d e v s).stations = s.stations ∧ (setEncoder d e v s).imagers = s.imagers ∧
    (setEncoder d e v s).loops = s.loops ∧ (setEncoder d e v s).cffs = s.cffs ∧ (setEncoder d e v s).aregOut =
    s.aregOut ∧ (setEncoder d e v s).adcs = s.adcs ∧ (setEncoder d e v s).heaters = s.heaters ∧ (setEncoder d e v
    s).zeros = s.zeros ∧ (setEncoder d e v s).hvOver = s.hvOver ∧ (setEncoder d e v s).gpios = s.gpios ∧ (setEncoder d
    e v s).eths = s.eths ∧ (setEncoder d e v s).syncAt = s.syncAt ∧ (setEncoder d e v s).loopNext = s.loopNext ∧
    (setEncoder d e v s).rails = s.rails ∧ (setEncoder d e v s).rmon = s.rmon ∧ (setEncoder d e v s).thermals =
    s.thermals ∧ (setEncoder d e v s).stopAtRun = s.stopAtRun ∧ (setEncoder d e v s).nvBad = s.nvBad ∧ (setEncoder d e
    v s).logSeq = s.logSeq ∧ (setEncoder d e v s).lanes = s.lanes ∧ (setEncoder d e v s).rasters = s.rasters ∧
    (setEncoder d e v s).headLinks = s.headLinks ∧ (setEncoder d e v s).bonds = s.bonds ∧ (setEncoder d e v s).marks =
    s.marks ∧ (setEncoder d e v s).calJobs = s.calJobs ∧ (setEncoder d e v s).ages = s.ages ∧ (setEncoder d e v
    s).linksFenced = s.linksFenced ∧ (setEncoder d e v s).clkFails = s.clkFails ∧ (setEncoder d e v s).strapsAt =
    s.strapsAt ∧ (setEncoder d e v s).boot = s.boot ∧ (setEncoder d e v s).taps = s.taps ∧ (setEncoder d e v s).dogs =
    s.dogs ∧ (setEncoder d e v s).pcieUp = s.pcieUp ∧ (setEncoder d e v s).bootWaits = s.bootWaits ∧ (setEncoder d e v
    s).encEdges = s.encEdges ∧ (setEncoder d e v s).pending = s.pending :=
  ⟨rfl, rfl, rfl, rfl, rfl, rfl, rfl, rfl, rfl, rfl, rfl, rfl, rfl, rfl, rfl, rfl, rfl, rfl, rfl, rfl, rfl, rfl, rfl,
    rfl, rfl, rfl, rfl, rfl, rfl, rfl, rfl, rfl, rfl, rfl, rfl, rfl, rfl, rfl, rfl, rfl, rfl, rfl, rfl, rfl, rfl, rfl,
    rfl, rfl, rfl, rfl, rfl, rfl, rfl, rfl, rfl, rfl, rfl, rfl, rfl, rfl, rfl, rfl, rfl, rfl, rfl, rfl, rfl, rfl, rfl,
    rfl, rfl, rfl, rfl, rfl, rfl, rfl, rfl, rfl, rfl, rfl, rfl, rfl, rfl, rfl, rfl, rfl, rfl, rfl, rfl⟩

@[simp] theorem word_setEncoder (at_ : Nat) (d e : Nat) (v : Encoder) (s : State) : word at_ (setEncoder d e v s) =
    word at_ s := rfl

@[simp] theorem rd_setEncoder (at_ : Loc) (d e : Nat) (v : Encoder) (s : State) : rd at_ (setEncoder d e v s) = rd at_
    s := rfl

end Sys2Proof.Machine
end

