-- ==== Sys2Proof/Laws/Regs.lean ====
section
/-! SUPPORT. Reads of register fields after writes of register fields, and which words and fields an event, a fault record
and a latched access error leave as they were. -/

namespace Sys2Proof.Machine

/-! ### Words -/

@[simp] theorem word_putWord_same (a : Nat) (v : Word) (s : State) : word a (putWord a v s) = v := by
  simp [word, putWord]

theorem word_putWord_ne {a b : Nat} (v : Word) (s : State) (h : a ≠ b) : word a (putWord b v s) = word a s := by
  simp [word, putWord, mapGet_set_other _ _ _ h]

theorem word_wr_ne {a : Nat} {l : Loc} (v : Nat) (s : State) (h : a ≠ l.addr) : word a (wr l v s) = word a s :=
  word_putWord_ne _ s h

theorem word_bumpBy_ne {a : Nat} {l : Loc} (n : Nat) (s : State) (h : a ≠ l.addr) : word a (bumpBy l n s) = word a s :=
  word_wr_ne _ s h

theorem word_bump_ne {a : Nat} {l : Loc} (s : State) (h : a ≠ l.addr) : word a (bump l s) = word a s :=
  word_wr_ne _ s h

/-! ### Bit fields -/

theorem bitsOf_withBits_same (old lsb width v : Nat) : bitsOf (withBits old lsb width v) lsb width = v % 2 ^ width := by
  have h : withBits old lsb width v / 2 ^ lsb = v % 2 ^ width + 2 ^ width * (old / 2 ^ (lsb + width)) := by
    unfold withBits
    rw [Nat.add_mul_div_left _ _ (Nat.two_pow_pos lsb), Nat.div_eq_of_lt (Nat.mod_lt _ (Nat.two_pow_pos lsb)), Nat.zero_add]
  rw [bitsOf, h, Nat.add_mul_mod_self_left, Nat.mod_mod]

theorem withBits_lt {old lsb width v : Nat} (h : lsb + width ≤ 32) (ho : old < 2 ^ 32) :
    withBits old lsb width v < 2 ^ 32 := by
  obtain ⟨k, hk⟩ := Nat.exists_eq_add_of_le h
  have e : 2 ^ 32 = 2 ^ lsb * (2 ^ width * 2 ^ k) := by rw [← pow_add, ← pow_add, hk, Nat.add_assoc]
  have h1 : old % 2 ^ lsb < 2 ^ lsb := Nat.mod_lt _ (Nat.two_pow_pos lsb)
  have h2 : v % 2 ^ width < 2 ^ width := Nat.mod_lt _ (Nat.two_pow_pos width)
  have h3 : old / 2 ^ (lsb + width) < 2 ^ k := by
    rw [Nat.div_lt_iff_lt_mul (Nat.two_pow_pos _), ← pow_add, Nat.add_comm k, ← hk]; exact ho
  have h4 : v % 2 ^ width + 2 ^ width * (old / 2 ^ (lsb + width)) < 2 ^ width * 2 ^ k := by
    calc _ < 2 ^ width + 2 ^ width * (old / 2 ^ (lsb + width)) := Nat.add_lt_add_right h2 _
      _ = 2 ^ width * (old / 2 ^ (lsb + width) + 1) := by ring
      _ ≤ _ := Nat.mul_le_mul_left _ h3
  rw [e]
  unfold withBits
  calc _ < 2 ^ lsb + 2 ^ lsb * (v % 2 ^ width + 2 ^ width * (old / 2 ^ (lsb + width))) := Nat.add_lt_add_right h1 _
    _ = 2 ^ lsb * (v % 2 ^ width + 2 ^ width * (old / 2 ^ (lsb + width)) + 1) := by ring
    _ ≤ _ := Nat.mul_le_mul_left _ h4

theorem bitsOf_withBits_below {old lsb width v i n : Nat} (h : i + n ≤ lsb) :
    bitsOf (withBits old lsb width v) i n = bitsOf old i n := by
  obtain ⟨k, rfl⟩ := Nat.exists_eq_add_of_le h
  have e : withBits old (i + n + k) width v = old % 2 ^ (i + n + k) +
      2 ^ i * (2 ^ n * (2 ^ k * (v % 2 ^ width + 2 ^ width * (old / 2 ^ (i + n + k + width))))) := by
    unfold withBits; rw [pow_add 2 (i + n) k, pow_add 2 i n]; ring
  rw [bitsOf, bitsOf, e, Nat.add_mul_div_left _ _ (Nat.two_pow_pos i), Nat.add_mul_mod_self_left]
  have : old % 2 ^ (i + n + k) / 2 ^ i % 2 ^ n = old / 2 ^ i % 2 ^ n := by
    rw [show i + n + k = i + (n + k) by omega, pow_add 2 i, Nat.mod_mul_right_div_self, pow_add, Nat.mod_mul_right_mod]
  exact this

theorem bitsOf_withBits_above {old lsb width v i n : Nat} (h : lsb + width ≤ i) :
    bitsOf (withBits old lsb width v) i n = bitsOf old i n := by
  obtain ⟨k, rfl⟩ := Nat.exists_eq_add_of_le h
  have h1 : withBits old lsb width v / 2 ^ (lsb + width) = old / 2 ^ (lsb + width) := by
    have : withBits old lsb width v =
        (old % 2 ^ lsb + 2 ^ lsb * (v % 2 ^ width)) + 2 ^ (lsb + width) * (old / 2 ^ (lsb + width)) := by
      unfold withBits; rw [pow_add]; ring
    rw [this, Nat.add_mul_div_left _ _ (Nat.two_pow_pos _), Nat.div_eq_of_lt, Nat.zero_add]
    have a : old % 2 ^ lsb < 2 ^ lsb := Nat.mod_lt _ (Nat.two_pow_pos lsb)
    have b : v % 2 ^ width + 1 ≤ 2 ^ width := Nat.mod_lt _ (Nat.two_pow_pos width)
    calc _ < 2 ^ lsb + 2 ^ lsb * (v % 2 ^ width) := Nat.add_lt_add_right a _
      _ = 2 ^ lsb * (v % 2 ^ width + 1) := by ring
      _ ≤ 2 ^ lsb * 2 ^ width := Nat.mul_le_mul_left _ b
      _ = _ := (pow_add 2 lsb width).symm
  rw [bitsOf, bitsOf, pow_add, ← Nat.div_div_eq_div_mul, ← Nat.div_div_eq_div_mul, h1]

/-! ### Fields of registers -/

/-- A field reads back what was written, modulo its width. -/
theorem rd_wr_same {l : Loc} (v : Nat) (s : State) (h : l.lsb + l.width ≤ 32) : rd l (wr l v s) = v % 2 ^ l.width := by
  unfold rd wr
  rw [word_putWord_same, BitVec.toNat_ofNat, Nat.mod_eq_of_lt (withBits_lt h (word l.addr s).isLt),
    bitsOf_withBits_same]

theorem rd_wr_ne {l m : Loc} (v : Nat) (s : State) (h : l.addr ≠ m.addr) : rd l (wr m v s) = rd l s := by
  unfold rd; rw [word_wr_ne v s h]

/-- A write of one field leaves the other fields of its register. -/
theorem rd_wr_apart {l m : Loc} (v : Nat) (s : State) (ha : l.addr = m.addr) (hm : m.lsb + m.width ≤ 32)
    (h : l.lsb + l.width ≤ m.lsb ∨ m.lsb + m.width ≤ l.lsb) : rd l (wr m v s) = rd l s := by
  unfold rd wr
  rw [ha, word_putWord_same, BitVec.toNat_ofNat, Nat.mod_eq_of_lt (withBits_lt hm (word m.addr s).isLt)]
  rcases h with h | h
  · exact bitsOf_withBits_below h
  · exact bitsOf_withBits_above h

theorem rd_putWord_ne {l : Loc} {b : Nat} (v : Word) (s : State) (h : l.addr ≠ b) : rd l (putWord b v s) = rd l s := by
  unfold rd; rw [word_putWord_ne v s h]

theorem rd_putWord_same {l : Loc} {b : Nat} (v : Word) (s : State) (h : l.addr = b) :
    rd l (putWord b v s) = bitsOf v.toNat l.lsb l.width := by
  unfold rd; rw [h, word_putWord_same]

theorem rd_lt (l : Loc) (s : State) : rd l s < 2 ^ l.width := Nat.mod_lt _ (Nat.two_pow_pos _)

theorem rd_bump_same {l : Loc} (s : State) (h : l.lsb + l.width ≤ 32) :
    rd l (bump l s) = Nat.min (rd l s + 1) (2 ^ l.width - 1) := by
  unfold bump bumpBy
  rw [rd_wr_same _ _ h, Nat.mod_eq_of_lt]
  have := Nat.two_pow_pos l.width
  have := Nat.min_le_right (rd l s + 1) (2 ^ l.width - 1)
  simp only [Nat.min_def] at *
  omega

theorem rd_bump_ne {l m : Loc} (s : State) (h : l.addr ≠ m.addr) : rd l (bump m s) = rd l s := rd_wr_ne _ s h

theorem rd_bumpBy_ne {l m : Loc} (n : Nat) (s : State) (h : l.addr ≠ m.addr) : rd l (bumpBy m n s) = rd l s := rd_wr_ne _ s h

theorem rd_wrS_ne {l m : Loc} (x : Int) (s : State) (h : l.addr ≠ m.addr) : rd l (wrS m x s) = rd l s := rd_wr_ne _ s h

/-! ### Messages and events -/

/-- Only register words and what has been sent may differ. -/
def RegsSent (s t : State) : Prop := ∃ r m, t = { s with regs := r, sent := m }

theorem RegsSent.refl (s : State) : RegsSent s s := ⟨s.regs, s.sent, rfl⟩

theorem RegsSent.trans {s t u : State} (h : RegsSent s t) (k : RegsSent t u) : RegsSent s u := by
  obtain ⟨_, _, rfl⟩ := h; obtain ⟨_, _, rfl⟩ := k; exact ⟨_, _, rfl⟩

theorem RegsSent.putWord (a : Nat) (v : Word) (s : State) : RegsSent s (putWord a v s) := ⟨_, _, rfl⟩

theorem signalVector_regsSent (v : Nat) (s : State) : RegsSent s (signalVector v s) := by
  unfold signalVector; split
  · exact .putWord _ _ s
  · exact ⟨_, _, rfl⟩

theorem signalAll_regsSent (l : List Nat) (s : State) : RegsSent s (signalAll l s) := by
  induction l generalizing s with
  | nil => exact .refl s
  | cons a t ih => exact (signalVector_regsSent a s).trans (ih _)

theorem afterHeader_regsSent (d p : Nat) (x y : Bool) (s : State) : RegsSent s (afterHeader d p x y s) := by
  unfold afterHeader
  have h : ∀ c : Bool, ∀ k u, RegsSent u (if c then signalLine d p k u else u) := fun c k u => by
    split
    · exact signalAll_regsSent _ u
    · exact .refl u
  exact (h _ 0 s).trans (h _ 1 _)

theorem evtMask_regsSent (d p m : Nat) (s : State) : RegsSent s (evtMask d p m s) :=
  (RegsSent.putWord _ _ s).trans (afterHeader_regsSent d p _ _ _)

theorem evt_regsSent (d p b : Nat) (s : State) : RegsSent s (evt d p b s) := evtMask_regsSent d p _ s

/-- The pending-bit words of the MSI-X table lie apart from `a`. -/
def NotPba (a : Nat) : Prop := a < 0xF04000 ∨ 0xF04080 ≤ a

theorem word_signalVector {a : Nat} (v : Nat) (s : State) (h : NotPba a) : word a (signalVector v s) = word a s := by
  unfold signalVector; split
  · apply word_putWord_ne; unfold NotPba msixPbaAddr at *; omega
  · rfl

theorem word_signalAll {a : Nat} (l : List Nat) (s : State) (h : NotPba a) : word a (signalAll l s) = word a s := by
  induction l generalizing s with
  | nil => rfl
  | cons v t ih => exact (ih _).trans (word_signalVector v s h)

theorem word_signalLine {a : Nat} (d p k : Nat) (s : State) (h : NotPba a) : word a (signalLine d p k s) = word a s :=
  word_signalAll _ s h

theorem word_afterHeader {a : Nat} (d p : Nat) (x y : Bool) (s : State) (h : NotPba a) :
    word a (afterHeader d p x y s) = word a s := by
  have k : ∀ c : Bool, ∀ k u, word a (if c then signalLine d p k u else u) = word a u := fun c k u => by
    split
    · exact word_signalLine d p k u h
    · rfl
  exact (k _ 1 _).trans (k _ 0 s)

theorem word_evtMask_ne {a : Nat} (d p m : Nat) (s : State) (h : NotPba a) (hn : a ≠ (R.HDR.EVT_STAT_EVT d p).addr) :
    word a (evtMask d p m s) = word a s := (word_afterHeader d p _ _ _ h).trans (word_putWord_ne _ s hn)

/-- An event sets its bits of EVT_STAT. -/
theorem word_evtMask_same (d p m : Nat) (s : State) (h : NotPba (R.HDR.EVT_STAT_EVT d p).addr) :
    word (R.HDR.EVT_STAT_EVT d p).addr (evtMask d p m s) =
      word (R.HDR.EVT_STAT_EVT d p).addr s ||| BitVec.ofNat 32 m :=
  (word_afterHeader d p _ _ _ h).trans (word_putWord_same _ _ s)

theorem word_evt_ne {a : Nat} (d p b : Nat) (s : State) (h : NotPba a) (hn : a ≠ (R.HDR.EVT_STAT_EVT d p).addr) :
    word a (evt d p b s) = word a s := word_evtMask_ne d p _ s h hn

theorem rd_evt_ne {l : Loc} (d p b : Nat) (s : State) (h : NotPba l.addr) (hn : l.addr ≠ (R.HDR.EVT_STAT_EVT d p).addr) :
    rd l (evt d p b s) = rd l s := by unfold rd; rw [word_evt_ne d p b s h hn]

theorem rd_evtMask_ne {l : Loc} (d p m : Nat) (s : State) (h : NotPba l.addr)
    (hn : l.addr ≠ (R.HDR.EVT_STAT_EVT d p).addr) : rd l (evtMask d p m s) = rd l s := by
  unfold rd; rw [word_evtMask_ne d p m s h hn]

/-- The bit of an event reads 1. -/
theorem testBit_evt (d p b : Nat) (s : State) (hb : b < 32) (h : NotPba (R.HDR.EVT_STAT_EVT d p).addr) :
    testBit (word (R.HDR.EVT_STAT_EVT d p).addr (evt d p b s)).toNat b = true := by
  unfold evt
  rw [word_evtMask_same d p _ s h]
  have : testBit = fun v i => v / 2 ^ i % 2 == 1 := rfl
  have e : ∀ v i : Nat, (v / 2 ^ i % 2 == 1) = v.testBit i := fun v i => by
    rw [Nat.testBit_eq_decide_div_mod_eq]; rfl
  simp only [this, e, BitVec.toNat_or, Nat.testBit_or, BitVec.toNat_ofNat]
  rw [Nat.mod_eq_of_lt (Nat.pow_lt_pow_right (by decide) hb), Nat.testBit_two_pow_self, Bool.or_true]

end Sys2Proof.Machine
end

