-- ==== Sys2Proof/Laws/Reach.lean ====
section
/-! SUPPORT. What a write does that gets through to its register. -/

namespace Sys2Proof.Machine

theorem addr_die {d p o : Nat} (hp : p < 256) (ho : o < 0x1000) : Layout.addr d p o / 0x1000000 = d := by
  unfold Layout.addr; omega

theorem addr_off {d p o : Nat} (hp : p < 256) (ho : o < 0x1000) :
    Layout.addr d p o % 0x1000000 = p * 0x1000 + o := by
  unfold Layout.addr; omega

theorem dies_le (s : State) : s.dies ≤ 8 := by unfold State.dies Part.dies; split <;> decide

theorem dieAnswers_lt {d : Nat} {s : State} (h : dieAnswers d s = true) : d < s.dies := by
  simp [dieAnswers, dieUp] at h; exact h.1.1

theorem land_fields (rq : Requester) (d : Nat) (s : State) : ∃ l, landWrite rq d s = { s with landed := l } := ⟨_, rfl⟩

@[simp] theorem land_land (rq : Requester) (d : Nat) (f : List (Nat × Nat) → List (Nat × Nat)) (s : State) :
    { landWrite rq d s with landed := f s.landed } = { s with landed := f s.landed } := rfl

/-- What a whole-word write does that gets through: it is counted as landed, and it acts on the register. -/
theorem regWrite_reaches {a : Access} {d p o : Nat} {v : Word} {s : State} {r : RegD} (h : Reaches a d p o s)
    (hp : p < 256) (ho : o < 0x1000) (h4 : o % 4 = 0) (hr : regAt d (p * 0x1000 + o) = some r) :
    regWrite a (Layout.addr d p o) v 15 s =
      (if o < 0x40 then headerWrite else blockWrite)
        { rq := a.rq, bar2 := a.bar2, d := d, p := p, o := o, r := r, v := v.toNat, e := v.toNat } (landWrite a.rq d s) := by
  obtain ⟨h1, h2, h3, h4', h5, h6, h7, h8⟩ := h
  have hd : d < s.dies := dieAnswers_lt h2
  have h8d := dies_le s
  have e4 : Layout.addr d p o / 4 * 4 = Layout.addr d p o := by unfold Layout.addr; omega
  have hlt : ¬ 0x8000000 ≤ Layout.addr d p o := by unfold Layout.addr; omega
  obtain ⟨l, hl⟩ := land_fields a.rq d s
  have hv : violates a d (p * 0x1000 + o) (landWrite a.rq d s) = false := by
    rcases h6 with h6 | h6
    · simp [violates, h6]
    · have : ¬ 0x100000 ≤ p * 0x1000 + o := by omega
      simp [unprivileged, hr] at h6
      simp [violates, this, hr, h6]
  have hm : hiddenBits a r = 0 := by
    rcases h6 with h6 | h6
    · simp [hiddenBits, h6]
    · simp [unprivileged, hr] at h6
      simp [hiddenBits, h6]
  have he : v.toNat &&& (0xFFFFFFFF - hiddenBits a r) = v.toNat := by
    rw [hm, Nat.sub_zero, show 0xFFFFFFFF = 2 ^ 32 - 1 from rfl, Nat.and_two_pow_sub_one_eq_mod]
    exact Nat.mod_eq_of_lt v.isLt
  have hn : ¬ 0x100000 ≤ p * 0x1000 + o := by omega
  have hq : (p * 0x1000 + o) / 0x1000 = p := by omega
  have hz : (p * 0x1000 + o) % 0x1000 = o := by omega
  have b2 : dieAnswers d (landWrite a.rq d s) = true := h2
  have b3 : dieFenced d (landWrite a.rq d s) = false := h3
  have b4 : pagePresent d p (landWrite a.rq d s) = true := h4'
  have b5 : ¬ (0x40 ≤ o ∧ domSt d (pageDomain p) (landWrite a.rq d s) ≠ 2) := by
    rintro ⟨x, y⟩; exact h5.elim (fun z => by omega) (fun z => y z)
  have b7 : pageFenced d p (landWrite a.rq d s) = false := h7
  have b8 : unitOpen d p o (landWrite a.rq d s) = true := h8
  unfold regWrite
  simp only [e4, addr_die hp ho, addr_off hp ho, h1, hlt, decide_false, Bool.or_false, Bool.false_eq_true, if_false,
    Nat.not_le.mpr hd, hv, onlyIf, show ¬ 15 % 16 ≠ 15 by decide, b2, Bool.not_true]
  unfold acceptedWrite
  simp only [b3, Bool.false_and, Bool.false_eq_true, if_false, hn, hr, hq, hz, b4, Bool.not_true, b5, he, registerWrite,
    b7]
  split
  · rfl
  · unfold unitOpen at b8
    split at b8
    · rename_i u hu
      try rw [hu]
      simp only [Bool.or_eq_true, Bool.not_eq_true', Bool.and_eq_true] at b8 ⊢
      rw [if_neg]
      rintro ⟨x, y⟩
      rcases b8 with b8 | b8
      · rw [b8] at x; cases x
      · rw [b8] at y; cases y
    · rename_i hu
      first | rw [hu] | rfl

end Sys2Proof.Machine
end

