-- ==== Sys2Proof/Laws/Keeps.lean ====
section
/-! SUPPORT. What every command keeps: the part, the queue and the boot flash stand, time and the count of free values do
not go back, and the register space and the memories keep their canonical form. -/

namespace Sys2Proof.Machine

/-- The register space and the memories are in canonical form. -/
structure Stores (s : State) : Prop where
  regs : mapWf resetWord s.regs = true
  mem : Memory.wf s.mem = true
  nv : Memory.wf s.nv = true
  host : Memory.wf s.host = true

/-- What stands between `z` and a later state `s`. -/
structure Keeps (z s : State) : Prop where
  part : s.part = z.part
  pending : s.pending = z.pending
  flash : s.flash = z.flash
  now : s.now = z.now
  free : z.freeSeq ≤ s.freeSeq
  stores : Stores z → Stores s

/-- The same of the next state of an outcome. -/
def KeepsO (z : State) (o : Host.Outcome State Fault Refusal) : Prop := ∀ t, o = .next t → Keeps z t

theorem Keeps.refl (z : State) : Keeps z z := ⟨rfl, rfl, rfl, rfl, Nat.le_refl _, id⟩

theorem KeepsO.next {z t : State} (h : Keeps z t) : KeepsO z (.next t) := fun _ e => by cases e; exact h

/-- An update of other fields. -/
theorem Keeps.frame {z s t : State} (h : Keeps z s) (h1 : t.part = s.part) (h2 : t.pending = s.pending)
    (h3 : t.flash = s.flash) (h4 : t.now = s.now) (h5 : t.freeSeq = s.freeSeq) (h6 : t.regs = s.regs) (h7 : t.mem = s.mem)
    (h8 : t.nv = s.nv) (h9 : t.host = s.host) : Keeps z t :=
  ⟨h1.trans h.part, h2.trans h.pending, h3.trans h.flash, h4.trans h.now, h5 ▸ h.free,
    fun w => ⟨h6 ▸ (h.stores w).regs, h7 ▸ (h.stores w).mem, h8 ▸ (h.stores w).nv, h9 ▸ (h.stores w).host⟩⟩

/-- An update of any fields but those that `Keeps` speaks of. -/
theorem Keeps.update {z s : State} {x0 : Straps} {x1 : List (Nat × DieClock)} {x2 : MasterTime} {x3 : List (Nat ×
        Nat)} {x4 : Completion} {x5 : List Sent} {x6 : List Msg} {x7 : List UnitId} {x8 : List Nat} {x9 : Bool} {x10 :
        Option Nat} {x11 : Bool} {x12 : List (Nat × Release)} {x13 : List (Nat × Domain)} {x14 : List (Nat × TxnSlot)}
        {x15 : Xtxn} {x16 : Bool} {x17 : List (Nat × Slot)} {x18 : List (Nat × Plane)} {x19 : List Decl} {x20 : List
        (Nat × Retained)} {x21 : List Nat} {x22 : List FreedWait} {x23 : List SpoilEntry} {x24 : Nat} {x25 : List Nat}
        {x26 : List Nat} {x27 : List (Nat × DmaCh)} {x28 : List (Nat × Scrub)} {x29 : List (Nat × Option Job)} {x30 :
        List (Nat × Nat)} {x31 : List Nat} {x32 : List (Nat × DecodeLane)} {x33 : List (Nat × PosCounter)} {x34 : List
        (Nat × Encoder)} {x35 : List (Nat × CueRun)} {x36 : List (Nat × List StartEntry)} {x37 : List (Nat × PathRun)}
        {x38 : List Purge} {x39 : Option (Nat × Nat)} {x40 : Option (Nat × Nat)} {x41 : List (Nat × FocCh)} {x42 :
        List (Nat × BusRun)} {x43 : List (Nat × StepCh)} {x44 : Bool} {x45 : List Nat} {x46 : List (Nat × Station)}
        {x47 : List (Nat × Imager)} {x48 : List (Nat × LoopCtx)} {x49 : List (Nat × List CffEntry)} {x50 : List (Nat ×
        Int)} {x51 : List (Nat × List Nat)} {x52 : List (Nat × Heater)} {x53 : List (Nat × ZeroCross)} {x54 : List
        (Nat × Nat)} {x55 : List (Nat × Gpio)} {x56 : List (Nat × EthPort)} {x57 : Option Nat} {x58 : List (Nat ×
        Nat)} {x59 : List (Nat × Rail)} {x60 : List (Nat × Nat)} {x61 : List (Nat × Thermal)} {x62 : List Nat} {x63 :
        List Nat} {x64 : Nat} {x65 : List (Nat × Lane)} {x66 : List (Nat × Raster)} {x67 : List (Nat × HeadLink)} {x68
        : List (Nat × Bond)} {x69 : List (Nat × MarkInput)} {x70 : List (Nat × Option CalJob)} {x71 : List (Nat ×
        AgeRun)} {x72 : List Nat} {x73 : List (Nat × Nat)} {x74 : Option Nat} {x75 : Boot} {x76 : List (Nat × Tap)}
        {x77 : List (Nat × Nat)} {x78 : Bool} {x79 : Bool}
        {x80 : List (Nat × (Option Nat × Option Nat))} (h : Keeps z s) :
    Keeps z { s with
        straps := x0, clocks := x1, master := x2, landed := x3, resp := x4, sent := x5, msgs := x6, fenced := x7,
        unfPending := x8, safeStop := x9, errPulseEnd := x10, errAonHold := x11, releases := x12, domains := x13, txns
        := x14, xtxn := x15, lastFsnValid := x16, slots := x17, planes := x18, decls := x19, retained := x20, freed :=
        x21, freedWait := x22, spoilLog := x23, spoils := x24, badBlocks := x25, memTrained := x26, dmas := x27,
        scrubs := x28, jobs := x29, jobNext := x30, jobEnded := x31, dlanes := x32, counters := x33, encoders := x34,
        cues := x35, startLists := x36, paths := x37, purges := x38, logBusy := x39, logWait := x40, focs := x41,
        buses := x42, steps := x43, ilkIn := x44, hokIn := x45, stations := x46, imagers := x47, loops := x48, cffs :=
        x49, aregOut := x50, adcs := x51, heaters := x52, zeros := x53, hvOver := x54, gpios := x55, eths := x56,
        syncAt := x57, loopNext := x58, rails := x59, rmon := x60, thermals := x61, stopAtRun := x62, nvBad := x63,
        logSeq := x64, lanes := x65, rasters := x66, headLinks := x67, bonds := x68, marks := x69, calJobs := x70,
        ages := x71, linksFenced := x72, clkFails := x73, strapsAt := x74, boot := x75, taps := x76, dogs := x77,
        pcieUp := x78, bootWaits := x79,
        encEdges := x80 } :=
  ⟨h.part, h.pending, h.flash, h.now, h.free, fun w => ⟨(h.stores w).regs, (h.stores w).mem, (h.stores w).nv,
        (h.stores w).host⟩⟩

/-- The same with register words dropped. -/
theorem Keeps.updateDrop {z s : State} {x0 : Straps} {x1 : List (Nat × DieClock)} {x2 : MasterTime} {x3 : List (Nat ×
        Nat)} {x4 : Completion} {x5 : List Sent} {x6 : List Msg} {x7 : List UnitId} {x8 : List Nat} {x9 : Bool} {x10 :
        Option Nat} {x11 : Bool} {x12 : List (Nat × Release)} {x13 : List (Nat × Domain)} {x14 : List (Nat × TxnSlot)}
        {x15 : Xtxn} {x16 : Bool} {x17 : List (Nat × Slot)} {x18 : List (Nat × Plane)} {x19 : List Decl} {x20 : List
        (Nat × Retained)} {x21 : List Nat} {x22 : List FreedWait} {x23 : List SpoilEntry} {x24 : Nat} {x25 : List Nat}
        {x26 : List Nat} {x27 : List (Nat × DmaCh)} {x28 : List (Nat × Scrub)} {x29 : List (Nat × Option Job)} {x30 :
        List (Nat × Nat)} {x31 : List Nat} {x32 : List (Nat × DecodeLane)} {x33 : List (Nat × PosCounter)} {x34 : List
        (Nat × Encoder)} {x35 : List (Nat × CueRun)} {x36 : List (Nat × List StartEntry)} {x37 : List (Nat × PathRun)}
        {x38 : List Purge} {x39 : Option (Nat × Nat)} {x40 : Option (Nat × Nat)} {x41 : List (Nat × FocCh)} {x42 :
        List (Nat × BusRun)} {x43 : List (Nat × StepCh)} {x44 : Bool} {x45 : List Nat} {x46 : List (Nat × Station)}
        {x47 : List (Nat × Imager)} {x48 : List (Nat × LoopCtx)} {x49 : List (Nat × List CffEntry)} {x50 : List (Nat ×
        Int)} {x51 : List (Nat × List Nat)} {x52 : List (Nat × Heater)} {x53 : List (Nat × ZeroCross)} {x54 : List
        (Nat × Nat)} {x55 : List (Nat × Gpio)} {x56 : List (Nat × EthPort)} {x57 : Option Nat} {x58 : List (Nat ×
        Nat)} {x59 : List (Nat × Rail)} {x60 : List (Nat × Nat)} {x61 : List (Nat × Thermal)} {x62 : List Nat} {x63 :
        List Nat} {x64 : Nat} {x65 : List (Nat × Lane)} {x66 : List (Nat × Raster)} {x67 : List (Nat × HeadLink)} {x68
        : List (Nat × Bond)} {x69 : List (Nat × MarkInput)} {x70 : List (Nat × Option CalJob)} {x71 : List (Nat ×
        AgeRun)} {x72 : List Nat} {x73 : List (Nat × Nat)} {x74 : Option Nat} {x75 : Boot} {x76 : List (Nat × Tap)}
        {x77 : List (Nat × Nat)} {x78 : Bool} {x79 : Bool}
        {x80 : List (Nat × (Option Nat × Option Nat))} (p : Nat → Bool)
        (h : Keeps z s) :
    Keeps z { s with
        straps := x0, clocks := x1, master := x2, landed := x3, resp := x4, sent := x5, msgs := x6, fenced := x7,
        unfPending := x8, safeStop := x9, errPulseEnd := x10, errAonHold := x11, releases := x12, domains := x13, txns
        := x14, xtxn := x15, lastFsnValid := x16, slots := x17, planes := x18, decls := x19, retained := x20, freed :=
        x21, freedWait := x22, spoilLog := x23, spoils := x24, badBlocks := x25, memTrained := x26, dmas := x27,
        scrubs := x28, jobs := x29, jobNext := x30, jobEnded := x31, dlanes := x32, counters := x33, encoders := x34,
        cues := x35, startLists := x36, paths := x37, purges := x38, logBusy := x39, logWait := x40, focs := x41,
        buses := x42, steps := x43, ilkIn := x44, hokIn := x45, stations := x46, imagers := x47, loops := x48, cffs :=
        x49, aregOut := x50, adcs := x51, heaters := x52, zeros := x53, hvOver := x54, gpios := x55, eths := x56,
        syncAt := x57, loopNext := x58, rails := x59, rmon := x60, thermals := x61, stopAtRun := x62, nvBad := x63,
        logSeq := x64, lanes := x65, rasters := x66, headLinks := x67, bonds := x68, marks := x69, calJobs := x70,
        ages := x71, linksFenced := x72, clkFails := x73, strapsAt := x74, boot := x75, taps := x76, dogs := x77,
        pcieUp := x78, bootWaits := x79,
        encEdges := x80, regs := mapDrop p s.regs } :=
  ⟨h.part, h.pending, h.flash, h.now, h.free, fun w => ⟨mapWf_drop p (h.stores w).regs, (h.stores w).mem, (h.stores w).nv,
        (h.stores w).host⟩⟩

theorem Keeps.ofPair {α : Type} {z t : State} {p : α × State} {x : α} (e : p = (x, t)) (h : Keeps z p.2) : Keeps z t := by
  rw [e] at h; exact h

theorem Keeps.ofPair3 {α β : Type} {z t : State} {p : α × β × State} {x : α} {y : β} (e : p = (x, y, t))
    (h : Keeps z p.2.2) : Keeps z t := by
  rw [e] at h; exact h

theorem keeps_ite {c : Prop} [Decidable c] {z a b : State} (h1 : Keeps z a) (h2 : Keeps z b) :
    Keeps z (if c then a else b) := by split <;> assumption

theorem keeps_ite1 {α : Type} {c : Prop} [Decidable c] {z : State} {a b : α × State} (h1 : Keeps z a.2)
    (h2 : Keeps z b.2) : Keeps z (if c then a else b).2 := by split <;> assumption

theorem keeps_ite2 {α β : Type} {c : Prop} [Decidable c] {z : State} {a b : α × β × State} (h1 : Keeps z a.2.2)
    (h2 : Keeps z b.2.2) : Keeps z (if c then a else b).2.2 := by split <;> assumption

theorem keepsO_ite {c : Prop} [Decidable c] {z : State} {a b : Host.Outcome State Fault Refusal} (h1 : KeepsO z a)
    (h2 : KeepsO z b) : KeepsO z (if c then a else b) := by split <;> assumption

theorem foldl_keeps {α : Type} {z : State} {f : State → α → State} {l : List α} {s : State}
    (hf : ∀ t a, Keeps z t → Keeps z (f t a)) (h : Keeps z s) : Keeps z (l.foldl f s) := by
  induction l generalizing s with
  | nil => exact h
  | cons a t ih => exact ih (hf _ _ h)

theorem onlyIf_keeps {z : State} {c : Bool} {f : State → State} {s : State} (hf : ∀ t, Keeps z t → Keeps z (f t))
    (h : Keeps z s) : Keeps z (onlyIf c f s) := by
  unfold onlyIf; split
  · exact hf _ h
  · exact h

theorem putWord_keeps {z : State} {a : Nat} {v : Word} {s : State} (h : Keeps z s) : Keeps z (putWord a v s) :=
  ⟨h.part, h.pending, h.flash, h.now, h.free, fun w =>
    ⟨mapWf_set a v (h.stores w).regs, (h.stores w).mem, (h.stores w).nv, (h.stores w).host⟩⟩

theorem memPut_keeps {z : State} {a : Nat} {v : Byte} {s : State} (h : Keeps z s) : Keeps z (memPut a v s) :=
  ⟨h.part, h.pending, h.flash, h.now, h.free, fun w =>
    ⟨(h.stores w).regs, mapWf_set a v (h.stores w).mem, (h.stores w).nv, (h.stores w).host⟩⟩

theorem nvPut_keeps {z : State} {d o : Nat} {v : Byte} {s : State} (h : Keeps z s) : Keeps z (nvPut d o v s) :=
  ⟨h.part, h.pending, h.flash, h.now, h.free, fun w =>
    ⟨(h.stores w).regs, (h.stores w).mem, mapWf_set _ v (h.stores w).nv, (h.stores w).host⟩⟩

theorem hostPut_keeps {z : State} {a : Nat} {v : Byte} {s : State} (h : Keeps z s) : Keeps z (hostPut a v s) :=
  ⟨h.part, h.pending, h.flash, h.now, h.free, fun w =>
    ⟨(h.stores w).regs, (h.stores w).mem, (h.stores w).nv, mapWf_set a v (h.stores w).host⟩⟩

theorem dropWords_keeps {z : State} {lo hi : Nat} {s : State} (h : Keeps z s) : Keeps z (dropWords lo hi s) :=
  Keeps.updateDrop (fun a => decide (lo ≤ a) && decide (a < hi)) h

end Sys2Proof.Machine
end

