-- ==== Sys2Proof/Laws/KeepsOps.lean ====
section
/-! SUPPORT. What every operation of Ops keeps. -/

namespace Sys2Proof.Machine

theorem signalVector_keeps {z : State} {v : Nat} {s : State} (h : Keeps z s) : Keeps z (signalVector v s) :=
  (keeps_ite (putWord_keeps h) (Keeps.update h))

theorem signalAll_keeps {z : State} {x0 : List Nat} {x1 : State} (h : Keeps z x1) : Keeps z (signalAll x0 x1) := by
  fun_induction signalAll x0 x1 <;> first | exact Keeps.update (by assumption) | grind [signalVector_keeps]

theorem signalLine_keeps {z : State} {d : Nat} {p : Nat} {kind : Nat} {s : State} (h : Keeps z s) : Keeps z
    (signalLine d p kind s) :=
  (signalAll_keeps h)

theorem afterHeader_keeps {z : State} {d : Nat} {p : Nat} {evtBefore : Bool} {fltBefore : Bool} {s : State} (h : Keeps
    z s) : Keeps z (afterHeader d p evtBefore fltBefore s) :=
  (keeps_ite (signalLine_keeps (keeps_ite (signalLine_keeps h) h)) (keeps_ite (signalLine_keeps h) h))

theorem evtMask_keeps {z : State} {d : Nat} {p : Nat} {mask : Nat} {s : State} (h : Keeps z s) : Keeps z (evtMask d p
    mask s) :=
  (afterHeader_keeps (putWord_keeps h))

theorem evt_keeps {z : State} {d : Nat} {p : Nat} {bit : Nat} {s : State} (h : Keeps z s) : Keeps z (evt d p bit s) :=
  (evtMask_keeps h)

theorem accErr_keeps {z : State} {kind : Nat} {write : Bool} {a : Nat} {s : State} (h : Keeps z s) : Keeps z (accErr
    kind write a s) :=
  (evt_keeps (keeps_ite h (putWord_keeps h)))

theorem wr_keeps {z : State} {l : Sys2Proof.Loc} {v : Nat} {s : State} (h : Keeps z s) : Keeps z (wr l v s) :=
  (putWord_keeps h)

theorem bumpBy_keeps {z : State} {l : Sys2Proof.Loc} {n : Nat} {s : State} (h : Keeps z s) : Keeps z (bumpBy l n s) :=
  (wr_keeps h)

theorem bump_keeps {z : State} {l : Sys2Proof.Loc} {s : State} (h : Keeps z s) : Keeps z (bump l s) :=
  (bumpBy_keeps h)

theorem errPulse_keeps {z : State} {d : Nat} {p : Nat} {src : Nat} {cls : Nat} {esn : Nat} {forced : Bool} {s : State}
    (h : Keeps z s) : Keeps z (errPulse d p src cls esn forced s) :=
  (keeps_ite (evt_keeps (putWord_keeps (putWord_keeps (wr_keeps (bump_keeps (Keeps.update h)))))) h)

theorem fillRecords_keeps {z : State} {d : Nat} {p : Nat} {src : Nat} {cls : Nat} {esn : Nat} {s : State} (h : Keeps z
    s) : Keeps z (fillRecords d p src cls esn s) :=
  (keeps_ite (putWord_keeps (putWord_keeps h)) (keeps_ite (putWord_keeps (putWord_keeps h)) h))

theorem logTrigger_keeps {z : State} {cause : Nat} {info : Nat} {s : State} (h : Keeps z s) : Keeps z (logTrigger
    cause info s) :=
  (keeps_ite (Keeps.update h) (keeps_ite (Keeps.update h) (bump_keeps h)))

theorem recordFault_keeps {z : State} {d : Nat} {p : Nat} {src : Nat} {forced : Bool} {s : State} (h : Keeps z s) :
    Keeps z (recordFault d p src forced s) :=
  (keeps_ite (logTrigger_keeps (errPulse_keeps (fillRecords_keeps (bump_keeps (wr_keeps (afterHeader_keeps
    (putWord_keeps h))))))) (errPulse_keeps (fillRecords_keeps (bump_keeps (wr_keeps (afterHeader_keeps (putWord_keeps
    h)))))))

theorem slotReject_keeps {z : State} {d : Nat} {i : Nat} {reason : Nat} {bad : Nat} {s : State} (h : Keeps z s) :
    Keeps z (slotReject d i reason bad s) := by
  have e := Eq.refl @slotReject; conv_rhs at e => delta slotReject
  rw [e]
  (try dsimp only)
  split <;> (try dsimp only)
  exacts [(evt_keeps (wr_keeps (wr_keeps (wr_keeps (wr_keeps h))))), (evt_keeps (recordFault_keeps (bump_keeps (evt_keeps (wr_keeps (wr_keeps (wr_keeps (wr_keeps h))))))))]

theorem rejectTargets_keeps {z : State} {d : Nat} {reason : Nat} {hit : Nat → Bool} {s : State} (h : Keeps z s) :
    Keeps z (rejectTargets d reason hit s) :=
  (foldl_keeps (fun _ _ h1 => (keeps_ite h1 (by (try dsimp only); split <;> (try dsimp only); exacts [h1, (keeps_ite
    (Keeps.update (slotReject_keeps h1)) (slotReject_keeps h1))]))) h)

theorem addFence_keeps {z : State} {u : UnitId} {s : State} (h : Keeps z s) : Keeps z (addFence u s) :=
  (keeps_ite h (rejectTargets_keeps (Keeps.update h)))

theorem drawFree_keeps {z : State} {s : State} (h : Keeps z s) : Keeps z (drawFree s).2 :=
     ⟨h.part, h.pending, h.flash, h.now, Nat.le_succ_of_le h.free, fun w => ⟨(h.stores w).regs, (h.stores w).mem,
    (h.stores w).nv, (h.stores w).host⟩⟩

theorem dropFence_keeps {z : State} {u : UnitId} {s : State} (h : Keeps z s) : Keeps z (dropFence u s) :=
  (Keeps.update h)

theorem hostWrite_keeps {z : State} {x0 : Nat} {x1 : List Sys2Proof.Byte} {x2 : State} (h : Keeps z x2) : Keeps z
    (hostWrite x0 x1 x2) := by
  fun_induction hostWrite x0 x1 x2 <;> first | exact Keeps.update (by assumption) | grind [hostPut_keeps]

theorem memWrite_keeps {z : State} {x0 : Nat} {x1 : List Sys2Proof.Byte} {x2 : State} (h : Keeps z x2) : Keeps z
    (memWrite x0 x1 x2) := by
  fun_induction memWrite x0 x1 x2 <;> first | exact Keeps.update (by assumption) | grind [memPut_keeps]

theorem nvWriteBytes_keeps {z : State} {d : Nat} {x1 : Nat} {x2 : List Sys2Proof.Byte} {x3 : State} (h : Keeps z x3) :
    Keeps z (nvWriteBytes d x1 x2 x3) := by
  fun_induction nvWriteBytes d x1 x2 x3 <;> first | exact Keeps.update (by assumption) | grind [nvPut_keeps]

theorem privViolation_keeps {z : State} {a : Nat} {s : State} (h : Keeps z s) : Keeps z (privViolation a s) :=
  (evt_keeps (keeps_ite (bump_keeps h) (putWord_keeps (bump_keeps h))))

theorem putBytes_keeps {z : State} {x0 : Nat} {x1 : List Sys2Proof.Byte} {x2 : State} (h : Keeps z x2) : Keeps z
    (putBytes x0 x1 x2) := by
  fun_induction putBytes x0 x1 x2 <;> first | exact Keeps.update (by assumption) | grind [putWord_keeps]

theorem setClock_keeps {z : State} {d : Nat} {c : DieClock} {s : State} (h : Keeps z s) : Keeps z (setClock d c s) :=
  (Keeps.update h)

theorem setDomain_keeps {z : State} {d : Nat} {dom : Nat} {v : Domain} {s : State} (h : Keeps z s) : Keeps z
    (setDomain d dom v s) :=
  (Keeps.update h)

theorem setPlane_keeps {z : State} {i : Nat} {k : Nat} {v : Plane} {s : State} (h : Keeps z s) : Keeps z (setPlane i k
    v s) :=
  (Keeps.update h)

theorem setRelease_keeps {z : State} {d : Nat} {r : Release} {s : State} (h : Keeps z s) : Keeps z (setRelease d r s)
    :=
  (Keeps.update h)

theorem setRetained_keeps {z : State} {i : Nat} {v : Retained} {s : State} (h : Keeps z s) : Keeps z (setRetained i v
    s) :=
  (Keeps.update h)

theorem setSlot_keeps {z : State} {i : Nat} {v : Slot} {s : State} (h : Keeps z s) : Keeps z (setSlot i v s) :=
  (Keeps.update h)

theorem setTxn_keeps {z : State} {d : Nat} {i : Nat} {v : TxnSlot} {s : State} (h : Keeps z s) : Keeps z (setTxn d i v
    s) :=
  (Keeps.update h)

theorem unfRefuse_keeps {z : State} {d : Nat} {p : Nat} {s : State} (h : Keeps z s) : Keeps z (unfRefuse d p s) :=
  (evt_keeps (keeps_ite h (putWord_keeps h)))

theorem unfence_keeps {z : State} {d : Nat} {p : Nat} {u : UnitId} {s : State} (h : Keeps z s) : Keeps z (unfence d p
    u s) :=
  (keeps_ite h (keeps_ite (unfRefuse_keeps h) (dropFence_keeps h)))

theorem wrS_keeps {z : State} {l : Sys2Proof.Loc} {v : Int} {s : State} (h : Keeps z s) : Keeps z (wrS l v s) :=
  (wr_keeps h)

end Sys2Proof.Machine
end

