-- ==== Sys2Proof/Laws/Touches.lean ====
section
/-! SUPPORT. Which fields of the state an operation may change: bit i of a mask stands for the field numbered i. -/

namespace Sys2Proof.Machine

/-- The bits of `a` are bits of `b`. -/
def Sub (a b : Nat) : Prop := a &&& b = a

theorem Sub.of {a b m : Nat} (h : Sub b m) (e : a &&& b = a) : Sub a m := by
  unfold Sub at *
  rw [← e, Nat.and_assoc, h]

theorem Sub.bit {a m i : Nat} {p : Prop} (h : Sub a m) (ha : a.testBit i = true) (hi : m.testBit i = false) : p := by
  unfold Sub at h
  rw [← h, Nat.testBit_and, hi, Bool.and_false] at ha
  cases ha

/-- The fields whose bit is not set in `m` are the same in `z` and `s`. -/
structure Touches (m : Nat) (z s : State) : Prop where
  part : m.testBit 0 = false → s.part = z.part
  straps : m.testBit 1 = false → s.straps = z.straps
  regs : m.testBit 2 = false → s.regs = z.regs
  mem : m.testBit 3 = false → s.mem = z.mem
  nv : m.testBit 4 = false → s.nv = z.nv
  host : m.testBit 5 = false → s.host = z.host
  flash : m.testBit 6 = false → s.flash = z.flash
  now : m.testBit 7 = false → s.now = z.now
  clocks : m.testBit 8 = false → s.clocks = z.clocks
  master : m.testBit 9 = false → s.master = z.master
  landed : m.testBit 10 = false → s.landed = z.landed
  resp : m.testBit 11 = false → s.resp = z.resp
  sent : m.testBit 12 = false → s.sent = z.sent
  msgs : m.testBit 13 = false → s.msgs = z.msgs
  freeSeq : m.testBit 14 = false → s.freeSeq = z.freeSeq
  fenced : m.testBit 15 = false → s.fenced = z.fenced
  unfPending : m.testBit 16 = false → s.unfPending = z.unfPending
  safeStop : m.testBit 17 = false → s.safeStop = z.safeStop
  errPulseEnd : m.testBit 18 = false → s.errPulseEnd = z.errPulseEnd
  errAonHold : m.testBit 19 = false → s.errAonHold = z.errAonHold
  releases : m.testBit 20 = false → s.releases = z.releases
  domains : m.testBit 21 = false → s.domains = z.domains
  txns : m.testBit 22 = false → s.txns = z.txns
  xtxn : m.testBit 23 = false → s.xtxn = z.xtxn
  lastFsnValid : m.testBit 24 = false → s.lastFsnValid = z.lastFsnValid
  slots : m.testBit 25 = false → s.slots = z.slots
  planes : m.testBit 26 = false → s.planes = z.planes
  decls : m.testBit 27 = false → s.decls = z.decls
  retained : m.testBit 28 = false → s.retained = z.retained
  freed : m.testBit 29 = false → s.freed = z.freed
  freedWait : m.testBit 30 = false → s.freedWait = z.freedWait
  spoilLog : m.testBit 31 = false → s.spoilLog = z.spoilLog
  spoils : m.testBit 32 = false → s.spoils = z.spoils
  badBlocks : m.testBit 33 = false → s.badBlocks = z.badBlocks
  memTrained : m.testBit 34 = false → s.memTrained = z.memTrained
  dmas : m.testBit 35 = false → s.dmas = z.dmas
  scrubs : m.testBit 36 = false → s.scrubs = z.scrubs
  jobs : m.testBit 37 = false → s.jobs = z.jobs
  jobNext : m.testBit 38 = false → s.jobNext = z.jobNext
  jobEnded : m.testBit 39 = false → s.jobEnded = z.jobEnded
  dlanes : m.testBit 40 = false → s.dlanes = z.dlanes
  counters : m.testBit 41 = false → s.counters = z.counters
  encoders : m.testBit 42 = false → s.encoders = z.encoders
  cues : m.testBit 43 = false → s.cues = z.cues
  startLists : m.testBit 44 = false → s.startLists = z.startLists
  paths : m.testBit 45 = false → s.paths = z.paths
  purges : m.testBit 46 = false → s.purges = z.purges
  logBusy : m.testBit 47 = false → s.logBusy = z.logBusy
  logWait : m.testBit 48 = false → s.logWait = z.logWait
  focs : m.testBit 49 = false → s.focs = z.focs
  buses : m.testBit 50 = false → s.buses = z.buses
  steps : m.testBit 51 = false → s.steps = z.steps
  ilkIn : m.testBit 52 = false → s.ilkIn = z.ilkIn
  hokIn : m.testBit 53 = false → s.hokIn = z.hokIn
  stations : m.testBit 54 = false → s.stations = z.stations
  imagers : m.testBit 55 = false → s.imagers = z.imagers
  loops : m.testBit 56 = false → s.loops = z.loops
  cffs : m.testBit 57 = false → s.cffs = z.cffs
  aregOut : m.testBit 58 = false → s.aregOut = z.aregOut
  adcs : m.testBit 59 = false → s.adcs = z.adcs
  heaters : m.testBit 60 = false → s.heaters = z.heaters
  zeros : m.testBit 61 = false → s.zeros = z.zeros
  hvOver : m.testBit 62 = false → s.hvOver = z.hvOver
  gpios : m.testBit 63 = false → s.gpios = z.gpios
  eths : m.testBit 64 = false → s.eths = z.eths
  syncAt : m.testBit 65 = false → s.syncAt = z.syncAt
  loopNext : m.testBit 66 = false → s.loopNext = z.loopNext
  rails : m.testBit 67 = false → s.rails = z.rails
  rmon : m.testBit 68 = false → s.rmon = z.rmon
  thermals : m.testBit 69 = false → s.thermals = z.thermals
  stopAtRun : m.testBit 70 = false → s.stopAtRun = z.stopAtRun
  nvBad : m.testBit 71 = false → s.nvBad = z.nvBad
  logSeq : m.testBit 72 = false → s.logSeq = z.logSeq
  lanes : m.testBit 73 = false → s.lanes = z.lanes
  rasters : m.testBit 74 = false → s.rasters = z.rasters
  headLinks : m.testBit 75 = false → s.headLinks = z.headLinks
  bonds : m.testBit 76 = false → s.bonds = z.bonds
  marks : m.testBit 77 = false → s.marks = z.marks
  calJobs : m.testBit 78 = false → s.calJobs = z.calJobs
  ages : m.testBit 79 = false → s.ages = z.ages
  linksFenced : m.testBit 80 = false → s.linksFenced = z.linksFenced
  clkFails : m.testBit 81 = false → s.clkFails = z.clkFails
  strapsAt : m.testBit 82 = false → s.strapsAt = z.strapsAt
  boot : m.testBit 83 = false → s.boot = z.boot
  taps : m.testBit 84 = false → s.taps = z.taps
  dogs : m.testBit 85 = false → s.dogs = z.dogs
  pcieUp : m.testBit 86 = false → s.pcieUp = z.pcieUp
  bootWaits : m.testBit 87 = false → s.bootWaits = z.bootWaits
  encEdges : m.testBit 88 = false → s.encEdges = z.encEdges
  pending : m.testBit 89 = false → s.pending = z.pending

/-- The same of the next state of an outcome. -/
def TouchesO (m : Nat) (z : State) (o : Host.Outcome State Fault Refusal) : Prop := ∀ t, o = .next t → Touches m z t

theorem Touches.refl (m : Nat) (z : State) : Touches m z z := ⟨fun _ => rfl, fun _ => rfl, fun _ => rfl, fun _ => rfl,
  fun _ => rfl, fun _ => rfl, fun _ => rfl, fun _ => rfl, fun _ => rfl, fun _ => rfl, fun _ => rfl, fun _ => rfl, fun
  _ => rfl, fun _ => rfl, fun _ => rfl, fun _ => rfl, fun _ => rfl, fun _ => rfl, fun _ => rfl, fun _ => rfl, fun _ =>
  rfl, fun _ => rfl, fun _ => rfl, fun _ => rfl, fun _ => rfl, fun _ => rfl, fun _ => rfl, fun _ => rfl, fun _ => rfl,
  fun _ => rfl, fun _ => rfl, fun _ => rfl, fun _ => rfl, fun _ => rfl, fun _ => rfl, fun _ => rfl, fun _ => rfl, fun
  _ => rfl, fun _ => rfl, fun _ => rfl, fun _ => rfl, fun _ => rfl, fun _ => rfl, fun _ => rfl, fun _ => rfl, fun _ =>
  rfl, fun _ => rfl, fun _ => rfl, fun _ => rfl, fun _ => rfl, fun _ => rfl, fun _ => rfl, fun _ => rfl, fun _ => rfl,
  fun _ => rfl, fun _ => rfl, fun _ => rfl, fun _ => rfl, fun _ => rfl, fun _ => rfl, fun _ => rfl, fun _ => rfl, fun
  _ => rfl, fun _ => rfl, fun _ => rfl, fun _ => rfl, fun _ => rfl, fun _ => rfl, fun _ => rfl, fun _ => rfl, fun _ =>
  rfl, fun _ => rfl, fun _ => rfl, fun _ => rfl, fun _ => rfl, fun _ => rfl, fun _ => rfl, fun _ => rfl, fun _ => rfl,
  fun _ => rfl, fun _ => rfl, fun _ => rfl, fun _ => rfl, fun _ => rfl, fun _ => rfl, fun _ => rfl, fun _ => rfl, fun
  _ => rfl, fun _ => rfl, fun _ => rfl⟩

theorem TouchesO.next {m : Nat} {z t : State} (h : Touches m z t) : TouchesO m z (.next t) := fun _ e => by cases e; exact h

theorem Touches.ofPair {m : Nat} {α : Type} {z t : State} {p : α × State} {x : α} (e : p = (x, t)) (h : Touches m z p.2) :
    Touches m z t := by
  rw [e] at h; exact h

theorem Touches.ofPair3 {m : Nat} {α β : Type} {z t : State} {p : α × β × State} {x : α} {y : β} (e : p = (x, y, t))
    (h : Touches m z p.2.2) : Touches m z t := by
  rw [e] at h; exact h

theorem touches_ite {m : Nat} {c : Prop} [Decidable c] {z a b : State} (h1 : Touches m z a) (h2 : Touches m z b) :
    Touches m z (if c then a else b) := by split <;> assumption

theorem touches_ite1 {m : Nat} {α : Type} {c : Prop} [Decidable c] {z : State} {a b : α × State} (h1 : Touches m z a.2)
    (h2 : Touches m z b.2) : Touches m z (if c then a else b).2 := by split <;> assumption

theorem touches_ite2 {m : Nat} {α β : Type} {c : Prop} [Decidable c] {z : State} {a b : α × β × State}
    (h1 : Touches m z a.2.2) (h2 : Touches m z b.2.2) : Touches m z (if c then a else b).2.2 := by split <;> assumption

theorem touchesO_ite {m : Nat} {c : Prop} [Decidable c] {z : State} {a b : Host.Outcome State Fault Refusal}
    (h1 : TouchesO m z a) (h2 : TouchesO m z b) : TouchesO m z (if c then a else b) := by split <;> assumption

theorem foldl_touches {m : Nat} {α : Type} {z : State} {f : State → α → State} {l : List α} {s : State}
    (hf : ∀ t a, Touches m z t → Touches m z (f t a)) (h : Touches m z s) : Touches m z (l.foldl f s) := by
  induction l generalizing s with
  | nil => exact h
  | cons a t ih => exact ih (hf _ _ h)

theorem onlyIf_touches {m : Nat} {z : State} {c : Bool} {f : State → State} {s : State}
    (hf : ∀ t, Touches m z t → Touches m z (f t)) (h : Touches m z s) : Touches m z (onlyIf c f s) := by
  unfold onlyIf; split
  · exact hf _ h
  · exact h

theorem Touches.upD_adcs {m : Nat} {z s : State} {x0 : List (Nat × List Nat)} (hm : Sub 0x800000000000000 m) (h :
    Touches m z s) :
    Touches m z { s with
      adcs := x0 } :=
  { h with
    adcs := hm.bit rfl }

theorem Touches.upD_ages {m : Nat} {z s : State} {x0 : List (Nat × AgeRun)} (hm : Sub 0x80000000000000000000 m) (h :
    Touches m z s) :
    Touches m z { s with
      ages := x0 } :=
  { h with
    ages := hm.bit rfl }

theorem Touches.upD_aregOut {m : Nat} {z s : State} {x0 : List (Nat × Int)} (hm : Sub 0x400000000000000 m) (h :
    Touches m z s) :
    Touches m z { s with
      aregOut := x0 } :=
  { h with
    aregOut := hm.bit rfl }

theorem Touches.upD_aregOut_adcs_heaters_zeros_hvOver_marks_calJobs_ages {m : Nat} {z s : State} {x0 : List (Nat ×
    Int)} {x1 : List (Nat × List Nat)} {x2 : List (Nat × Heater)} {x3 : List (Nat × ZeroCross)} {x4 : List (Nat × Nat)}
    {x5 : List (Nat × MarkInput)} {x6 : List (Nat × Option CalJob)} {x7 : List (Nat × AgeRun)} (hm : Sub
    0xe0007c00000000000000 m) (h : Touches m z s) :
    Touches m z { s with
      aregOut := x0, adcs := x1, heaters := x2, zeros := x3, hvOver := x4, marks := x5, calJobs := x6, ages := x7 } :=
  { h with
    aregOut := hm.bit rfl, adcs := hm.bit rfl, heaters := hm.bit rfl, zeros := hm.bit rfl, hvOver := hm.bit rfl,
    marks := hm.bit rfl, calJobs := hm.bit rfl, ages := hm.bit rfl }

theorem Touches.upD_badBlocks {m : Nat} {z s : State} {x0 : List Nat} (hm : Sub 0x200000000 m) (h : Touches m z s) :
    Touches m z { s with
      badBlocks := x0 } :=
  { h with
    badBlocks := hm.bit rfl }

theorem Touches.upD_bonds {m : Nat} {z s : State} {x0 : List (Nat × Bond)} (hm : Sub 0x10000000000000000000 m) (h :
    Touches m z s) :
    Touches m z { s with
      bonds := x0 } :=
  { h with
    bonds := hm.bit rfl }

theorem Touches.upD_boot {m : Nat} {z s : State} {x0 : Boot} (hm : Sub 0x800000000000000000000 m) (h : Touches m z s)
    :
    Touches m z { s with
      boot := x0 } :=
  { h with
    boot := hm.bit rfl }

theorem Touches.upD_boot_bootWaits {m : Nat} {z s : State} {x0 : Boot} {x1 : Bool} (hm : Sub 0x8800000000000000000000
    m) (h : Touches m z s) :
    Touches m z { s with
      boot := x0, bootWaits := x1 } :=
  { h with
    boot := hm.bit rfl, bootWaits := hm.bit rfl }

theorem Touches.upD_buses {m : Nat} {z s : State} {x0 : List (Nat × BusRun)} (hm : Sub 0x4000000000000 m) (h : Touches
    m z s) :
    Touches m z { s with
      buses := x0 } :=
  { h with
    buses := hm.bit rfl }

theorem Touches.upD_calJobs {m : Nat} {z s : State} {x0 : List (Nat × Option CalJob)} (hm : Sub 0x40000000000000000000
    m) (h : Touches m z s) :
    Touches m z { s with
      calJobs := x0 } :=
  { h with
    calJobs := hm.bit rfl }

theorem Touches.upD_cffs {m : Nat} {z s : State} {x0 : List (Nat × List CffEntry)} (hm : Sub 0x200000000000000 m) (h :
    Touches m z s) :
    Touches m z { s with
      cffs := x0 } :=
  { h with
    cffs := hm.bit rfl }

theorem Touches.upD_clkFails {m : Nat} {z s : State} {x0 : List (Nat × Nat)} (hm : Sub 0x200000000000000000000 m) (h :
    Touches m z s) :
    Touches m z { s with
      clkFails := x0 } :=
  { h with
    clkFails := hm.bit rfl }

theorem Touches.upD_clocks {m : Nat} {z s : State} {x0 : List (Nat × DieClock)} (hm : Sub 0x100 m) (h : Touches m z s)
    :
    Touches m z { s with
      clocks := x0 } :=
  { h with
    clocks := hm.bit rfl }

theorem Touches.upD_counters {m : Nat} {z s : State} {x0 : List (Nat × PosCounter)} (hm : Sub 0x20000000000 m) (h :
    Touches m z s) :
    Touches m z { s with
      counters := x0 } :=
  { h with
    counters := hm.bit rfl }

theorem Touches.upD_counters_cues_startLists {m : Nat} {z s : State} {x0 : List (Nat × PosCounter)} {x1 : List (Nat ×
    CueRun)} {x2 : List (Nat × List StartEntry)} (hm : Sub 0x1a0000000000 m) (h : Touches m z s) :
    Touches m z { s with
      counters := x0, cues := x1, startLists := x2 } :=
  { h with
    counters := hm.bit rfl, cues := hm.bit rfl, startLists := hm.bit rfl }

theorem Touches.upD_cues {m : Nat} {z s : State} {x0 : List (Nat × CueRun)} (hm : Sub 0x80000000000 m) (h : Touches m
    z s) :
    Touches m z { s with
      cues := x0 } :=
  { h with
    cues := hm.bit rfl }

theorem Touches.upD_decls {m : Nat} {z s : State} {x0 : List Decl} (hm : Sub 0x8000000 m) (h : Touches m z s) :
    Touches m z { s with
      decls := x0 } :=
  { h with
    decls := hm.bit rfl }

theorem Touches.upD_dlanes {m : Nat} {z s : State} {x0 : List (Nat × DecodeLane)} (hm : Sub 0x10000000000 m) (h :
    Touches m z s) :
    Touches m z { s with
      dlanes := x0 } :=
  { h with
    dlanes := hm.bit rfl }

theorem Touches.upD_dmas {m : Nat} {z s : State} {x0 : List (Nat × DmaCh)} (hm : Sub 0x800000000 m) (h : Touches m z
    s) :
    Touches m z { s with
      dmas := x0 } :=
  { h with
    dmas := hm.bit rfl }

theorem Touches.upD_dogs {m : Nat} {z s : State} {x0 : List (Nat × Nat)} (hm : Sub 0x2000000000000000000000 m) (h :
    Touches m z s) :
    Touches m z { s with
      dogs := x0 } :=
  { h with
    dogs := hm.bit rfl }

theorem Touches.upD_domains {m : Nat} {z s : State} {x0 : List (Nat × Domain)} (hm : Sub 0x200000 m) (h : Touches m z
    s) :
    Touches m z { s with
      domains := x0 } :=
  { h with
    domains := hm.bit rfl }

theorem Touches.upD_encEdges {m : Nat} {z s : State} {x0 : List (Nat × (Option Nat × Option Nat))} (hm : Sub
    0x10000000000000000000000 m) (h : Touches m z s) :
    Touches m z { s with
      encEdges := x0 } :=
  { h with
    encEdges := hm.bit rfl }

theorem Touches.upD_encoders {m : Nat} {z s : State} {x0 : List (Nat × Encoder)} (hm : Sub 0x40000000000 m) (h :
    Touches m z s) :
    Touches m z { s with
      encoders := x0 } :=
  { h with
    encoders := hm.bit rfl }

theorem Touches.upD_errAonHold {m : Nat} {z s : State} {x0 : Bool} (hm : Sub 0x80000 m) (h : Touches m z s) :
    Touches m z { s with
      errAonHold := x0 } :=
  { h with
    errAonHold := hm.bit rfl }

theorem Touches.upD_errAonHold_strapsAt {m : Nat} {z s : State} {x0 : Bool} {x1 : Option Nat} (hm : Sub
    0x400000000000000080000 m) (h : Touches m z s) :
    Touches m z { s with
      errAonHold := x0, strapsAt := x1 } :=
  { h with
    errAonHold := hm.bit rfl, strapsAt := hm.bit rfl }

theorem Touches.upD_errPulseEnd {m : Nat} {z s : State} {x0 : Option Nat} (hm : Sub 0x40000 m) (h : Touches m z s) :
    Touches m z { s with
      errPulseEnd := x0 } :=
  { h with
    errPulseEnd := hm.bit rfl }

theorem Touches.upD_eths {m : Nat} {z s : State} {x0 : List (Nat × EthPort)} (hm : Sub 0x10000000000000000 m) (h :
    Touches m z s) :
    Touches m z { s with
      eths := x0 } :=
  { h with
    eths := hm.bit rfl }

theorem Touches.upD_eths_syncAt {m : Nat} {z s : State} {x0 : List (Nat × EthPort)} {x1 : Option Nat} (hm : Sub
    0x30000000000000000 m) (h : Touches m z s) :
    Touches m z { s with
      eths := x0, syncAt := x1 } :=
  { h with
    eths := hm.bit rfl, syncAt := hm.bit rfl }

theorem Touches.upD_fenced {m : Nat} {z s : State} {x0 : List UnitId} (hm : Sub 0x8000 m) (h : Touches m z s) :
    Touches m z { s with
      fenced := x0 } :=
  { h with
    fenced := hm.bit rfl }

theorem Touches.upD_focs {m : Nat} {z s : State} {x0 : List (Nat × FocCh)} (hm : Sub 0x2000000000000 m) (h : Touches m
    z s) :
    Touches m z { s with
      focs := x0 } :=
  { h with
    focs := hm.bit rfl }

theorem Touches.upD_freeSeq {m : Nat} {z s : State} {x0 : Nat} (hm : Sub 0x4000 m) (h : Touches m z s) :
    Touches m z { s with
      freeSeq := x0 } :=
  { h with
    freeSeq := hm.bit rfl }

theorem Touches.upD_freed {m : Nat} {z s : State} {x0 : List Nat} (hm : Sub 0x20000000 m) (h : Touches m z s) :
    Touches m z { s with
      freed := x0 } :=
  { h with
    freed := hm.bit rfl }

theorem Touches.upD_freedWait {m : Nat} {z s : State} {x0 : List FreedWait} (hm : Sub 0x40000000 m) (h : Touches m z
    s) :
    Touches m z { s with
      freedWait := x0 } :=
  { h with
    freedWait := hm.bit rfl }

theorem Touches.upD_gpios {m : Nat} {z s : State} {x0 : List (Nat × Gpio)} (hm : Sub 0x8000000000000000 m) (h :
    Touches m z s) :
    Touches m z { s with
      gpios := x0 } :=
  { h with
    gpios := hm.bit rfl }

theorem Touches.upD_headLinks {m : Nat} {z s : State} {x0 : List (Nat × HeadLink)} (hm : Sub 0x8000000000000000000 m)
    (h : Touches m z s) :
    Touches m z { s with
      headLinks := x0 } :=
  { h with
    headLinks := hm.bit rfl }

theorem Touches.upD_heaters {m : Nat} {z s : State} {x0 : List (Nat × Heater)} (hm : Sub 0x1000000000000000 m) (h :
    Touches m z s) :
    Touches m z { s with
      heaters := x0 } :=
  { h with
    heaters := hm.bit rfl }

theorem Touches.upD_hokIn {m : Nat} {z s : State} {x0 : List Nat} (hm : Sub 0x20000000000000 m) (h : Touches m z s) :
    Touches m z { s with
      hokIn := x0 } :=
  { h with
    hokIn := hm.bit rfl }

theorem Touches.upD_host {m : Nat} {z s : State} {x0 : List Host.Cell} (hm : Sub 0x20 m) (h : Touches m z s) :
    Touches m z { s with
      host := x0 } :=
  { h with
    host := hm.bit rfl }

theorem Touches.upD_hvOver {m : Nat} {z s : State} {x0 : List (Nat × Nat)} (hm : Sub 0x4000000000000000 m) (h :
    Touches m z s) :
    Touches m z { s with
      hvOver := x0 } :=
  { h with
    hvOver := hm.bit rfl }

theorem Touches.upD_ilkIn {m : Nat} {z s : State} {x0 : Bool} (hm : Sub 0x10000000000000 m) (h : Touches m z s) :
    Touches m z { s with
      ilkIn := x0 } :=
  { h with
    ilkIn := hm.bit rfl }

theorem Touches.upD_imagers {m : Nat} {z s : State} {x0 : List (Nat × Imager)} (hm : Sub 0x80000000000000 m) (h :
    Touches m z s) :
    Touches m z { s with
      imagers := x0 } :=
  { h with
    imagers := hm.bit rfl }

theorem Touches.upD_jobEnded {m : Nat} {z s : State} {x0 : List Nat} (hm : Sub 0x8000000000 m) (h : Touches m z s) :
    Touches m z { s with
      jobEnded := x0 } :=
  { h with
    jobEnded := hm.bit rfl }

theorem Touches.upD_jobNext {m : Nat} {z s : State} {x0 : List (Nat × Nat)} (hm : Sub 0x4000000000 m) (h : Touches m z
    s) :
    Touches m z { s with
      jobNext := x0 } :=
  { h with
    jobNext := hm.bit rfl }

theorem Touches.upD_jobs {m : Nat} {z s : State} {x0 : List (Nat × Option Job)} (hm : Sub 0x2000000000 m) (h : Touches
    m z s) :
    Touches m z { s with
      jobs := x0 } :=
  { h with
    jobs := hm.bit rfl }

theorem Touches.upD_jobs_jobNext_jobEnded_dlanes {m : Nat} {z s : State} {x0 : List (Nat × Option Job)} {x1 : List
    (Nat × Nat)} {x2 : List Nat} {x3 : List (Nat × DecodeLane)} (hm : Sub 0x1e000000000 m) (h : Touches m z s) :
    Touches m z { s with
      jobs := x0, jobNext := x1, jobEnded := x2, dlanes := x3 } :=
  { h with
    jobs := hm.bit rfl, jobNext := hm.bit rfl, jobEnded := hm.bit rfl, dlanes := hm.bit rfl }

theorem Touches.upD_landed {m : Nat} {z s : State} {x0 : List (Nat × Nat)} (hm : Sub 0x400 m) (h : Touches m z s) :
    Touches m z { s with
      landed := x0 } :=
  { h with
    landed := hm.bit rfl }

theorem Touches.upD_lanes {m : Nat} {z s : State} {x0 : List (Nat × Lane)} (hm : Sub 0x2000000000000000000 m) (h :
    Touches m z s) :
    Touches m z { s with
      lanes := x0 } :=
  { h with
    lanes := hm.bit rfl }

theorem Touches.upD_lastFsnValid {m : Nat} {z s : State} {x0 : Bool} (hm : Sub 0x1000000 m) (h : Touches m z s) :
    Touches m z { s with
      lastFsnValid := x0 } :=
  { h with
    lastFsnValid := hm.bit rfl }

theorem Touches.upD_linksFenced {m : Nat} {z s : State} {x0 : List Nat} (hm : Sub 0x100000000000000000000 m) (h :
    Touches m z s) :
    Touches m z { s with
      linksFenced := x0 } :=
  { h with
    linksFenced := hm.bit rfl }

theorem Touches.upD_logBusy {m : Nat} {z s : State} {x0 : Option (Nat × Nat)} (hm : Sub 0x800000000000 m) (h : Touches
    m z s) :
    Touches m z { s with
      logBusy := x0 } :=
  { h with
    logBusy := hm.bit rfl }

theorem Touches.upD_logBusy_logWait {m : Nat} {z s : State} {x0 : Option (Nat × Nat)} {x1 : Option (Nat × Nat)} (hm :
    Sub 0x1800000000000 m) (h : Touches m z s) :
    Touches m z { s with
      logBusy := x0, logWait := x1 } :=
  { h with
    logBusy := hm.bit rfl, logWait := hm.bit rfl }

theorem Touches.upD_logSeq {m : Nat} {z s : State} {x0 : Nat} (hm : Sub 0x1000000000000000000 m) (h : Touches m z s) :
    Touches m z { s with
      logSeq := x0 } :=
  { h with
    logSeq := hm.bit rfl }

theorem Touches.upD_logWait {m : Nat} {z s : State} {x0 : Option (Nat × Nat)} (hm : Sub 0x1000000000000 m) (h :
    Touches m z s) :
    Touches m z { s with
      logWait := x0 } :=
  { h with
    logWait := hm.bit rfl }

theorem Touches.upD_loopNext {m : Nat} {z s : State} {x0 : List (Nat × Nat)} (hm : Sub 0x40000000000000000 m) (h :
    Touches m z s) :
    Touches m z { s with
      loopNext := x0 } :=
  { h with
    loopNext := hm.bit rfl }

theorem Touches.upD_loopNext_dogs {m : Nat} {z s : State} {x0 : List (Nat × Nat)} {x1 : List (Nat × Nat)} (hm : Sub
    0x2000040000000000000000 m) (h : Touches m z s) :
    Touches m z { s with
      loopNext := x0, dogs := x1 } :=
  { h with
    loopNext := hm.bit rfl, dogs := hm.bit rfl }

theorem Touches.upD_loops {m : Nat} {z s : State} {x0 : List (Nat × LoopCtx)} (hm : Sub 0x100000000000000 m) (h :
    Touches m z s) :
    Touches m z { s with
      loops := x0 } :=
  { h with
    loops := hm.bit rfl }

theorem Touches.upD_loops_cffs {m : Nat} {z s : State} {x0 : List (Nat × LoopCtx)} {x1 : List (Nat × List CffEntry)}
    (hm : Sub 0x300000000000000 m) (h : Touches m z s) :
    Touches m z { s with
      loops := x0, cffs := x1 } :=
  { h with
    loops := hm.bit rfl, cffs := hm.bit rfl }

theorem Touches.upD_marks {m : Nat} {z s : State} {x0 : List (Nat × MarkInput)} (hm : Sub 0x20000000000000000000 m) (h
    : Touches m z s) :
    Touches m z { s with
      marks := x0 } :=
  { h with
    marks := hm.bit rfl }

theorem Touches.upD_master {m : Nat} {z s : State} {x0 : MasterTime} (hm : Sub 0x200 m) (h : Touches m z s) :
    Touches m z { s with
      master := x0 } :=
  { h with
    master := hm.bit rfl }

theorem Touches.upD_master_dogs {m : Nat} {z s : State} {x0 : MasterTime} {x1 : List (Nat × Nat)} (hm : Sub
    0x2000000000000000000200 m) (h : Touches m z s) :
    Touches m z { s with
      master := x0, dogs := x1 } :=
  { h with
    master := hm.bit rfl, dogs := hm.bit rfl }

theorem Touches.upD_mem {m : Nat} {z s : State} {x0 : List Host.Cell} (hm : Sub 0x8 m) (h : Touches m z s) :
    Touches m z { s with
      mem := x0 } :=
  { h with
    mem := hm.bit rfl }

theorem Touches.upD_memTrained {m : Nat} {z s : State} {x0 : List Nat} (hm : Sub 0x400000000 m) (h : Touches m z s) :
    Touches m z { s with
      memTrained := x0 } :=
  { h with
    memTrained := hm.bit rfl }

theorem Touches.upD_msgs {m : Nat} {z s : State} {x0 : List Msg} (hm : Sub 0x2000 m) (h : Touches m z s) :
    Touches m z { s with
      msgs := x0 } :=
  { h with
    msgs := hm.bit rfl }

theorem Touches.upD_msgs_fenced_safeStop_clkFails_bootWaits {m : Nat} {z s : State} {x0 : List Msg} {x1 : List UnitId}
    {x2 : Bool} {x3 : List (Nat × Nat)} {x4 : Bool} (hm : Sub 0x820000000000000002a000 m) (h : Touches m z s) :
    Touches m z { s with
      msgs := x0, fenced := x1, safeStop := x2, clkFails := x3, bootWaits := x4 } :=
  { h with
    msgs := hm.bit rfl, fenced := hm.bit rfl, safeStop := hm.bit rfl, clkFails := hm.bit rfl, bootWaits := hm.bit rfl }

theorem Touches.upD_nv {m : Nat} {z s : State} {x0 : List Host.Cell} (hm : Sub 0x10 m) (h : Touches m z s) :
    Touches m z { s with
      nv := x0 } :=
  { h with
    nv := hm.bit rfl }

theorem Touches.upD_nvBad {m : Nat} {z s : State} {x0 : List Nat} (hm : Sub 0x800000000000000000 m) (h : Touches m z
    s) :
    Touches m z { s with
      nvBad := x0 } :=
  { h with
    nvBad := hm.bit rfl }

theorem Touches.upD_paths {m : Nat} {z s : State} {x0 : List (Nat × PathRun)} (hm : Sub 0x200000000000 m) (h : Touches
    m z s) :
    Touches m z { s with
      paths := x0 } :=
  { h with
    paths := hm.bit rfl }

theorem Touches.upD_paths_purges_stopAtRun {m : Nat} {z s : State} {x0 : List (Nat × PathRun)} {x1 : List Purge} {x2 :
    List Nat} (hm : Sub 0x400000600000000000 m) (h : Touches m z s) :
    Touches m z { s with
      paths := x0, purges := x1, stopAtRun := x2 } :=
  { h with
    paths := hm.bit rfl, purges := hm.bit rfl, stopAtRun := hm.bit rfl }

theorem Touches.upD_pcieUp {m : Nat} {z s : State} {x0 : Bool} (hm : Sub 0x4000000000000000000000 m) (h : Touches m z
    s) :
    Touches m z { s with
      pcieUp := x0 } :=
  { h with
    pcieUp := hm.bit rfl }

theorem Touches.upD_planes {m : Nat} {z s : State} {x0 : List (Nat × Plane)} (hm : Sub 0x4000000 m) (h : Touches m z
    s) :
    Touches m z { s with
      planes := x0 } :=
  { h with
    planes := hm.bit rfl }

theorem Touches.upD_planes_decls {m : Nat} {z s : State} {x0 : List (Nat × Plane)} {x1 : List Decl} (hm : Sub
    0xc000000 m) (h : Touches m z s) :
    Touches m z { s with
      planes := x0, decls := x1 } :=
  { h with
    planes := hm.bit rfl, decls := hm.bit rfl }

theorem Touches.upD_purges {m : Nat} {z s : State} {x0 : List Purge} (hm : Sub 0x400000000000 m) (h : Touches m z s) :
    Touches m z { s with
      purges := x0 } :=
  { h with
    purges := hm.bit rfl }

theorem Touches.upD_rails {m : Nat} {z s : State} {x0 : List (Nat × Rail)} (hm : Sub 0x80000000000000000 m) (h :
    Touches m z s) :
    Touches m z { s with
      rails := x0 } :=
  { h with
    rails := hm.bit rfl }

theorem Touches.upD_rasters {m : Nat} {z s : State} {x0 : List (Nat × Raster)} (hm : Sub 0x4000000000000000000 m) (h :
    Touches m z s) :
    Touches m z { s with
      rasters := x0 } :=
  { h with
    rasters := hm.bit rfl }

theorem Touches.upD_rasters_bonds {m : Nat} {z s : State} {x0 : List (Nat × Raster)} {x1 : List (Nat × Bond)} (hm :
    Sub 0x14000000000000000000 m) (h : Touches m z s) :
    Touches m z { s with
      rasters := x0, bonds := x1 } :=
  { h with
    rasters := hm.bit rfl, bonds := hm.bit rfl }

theorem Touches.upD_regs {m : Nat} {z s : State} {x0 : List (Nat × Word)} (hm : Sub 0x4 m) (h : Touches m z s) :
    Touches m z { s with
      regs := x0 } :=
  { h with
    regs := hm.bit rfl }

theorem Touches.upD_regs_landed_msgs_fenced_unfPending_domains {m : Nat} {z s : State} {x0 : List (Nat × Word)} {x1 :
    List (Nat × Nat)} {x2 : List Msg} {x3 : List UnitId} {x4 : List Nat} {x5 : List (Nat × Domain)} (hm : Sub 0x21a404
    m) (h : Touches m z s) :
    Touches m z { s with
      regs := x0, landed := x1, msgs := x2, fenced := x3, unfPending := x4, domains := x5 } :=
  { h with
    regs := hm.bit rfl, landed := hm.bit rfl, msgs := hm.bit rfl, fenced := hm.bit rfl, unfPending := hm.bit rfl,
    domains := hm.bit rfl }

theorem Touches.upD_releases {m : Nat} {z s : State} {x0 : List (Nat × Release)} (hm : Sub 0x100000 m) (h : Touches m
    z s) :
    Touches m z { s with
      releases := x0 } :=
  { h with
    releases := hm.bit rfl }

theorem Touches.upD_resp {m : Nat} {z s : State} {x0 : Completion} (hm : Sub 0x800 m) (h : Touches m z s) :
    Touches m z { s with
      resp := x0 } :=
  { h with
    resp := hm.bit rfl }

theorem Touches.upD_retained {m : Nat} {z s : State} {x0 : List (Nat × Retained)} (hm : Sub 0x10000000 m) (h : Touches
    m z s) :
    Touches m z { s with
      retained := x0 } :=
  { h with
    retained := hm.bit rfl }

theorem Touches.upD_rmon {m : Nat} {z s : State} {x0 : List (Nat × Nat)} (hm : Sub 0x100000000000000000 m) (h :
    Touches m z s) :
    Touches m z { s with
      rmon := x0 } :=
  { h with
    rmon := hm.bit rfl }

theorem Touches.upD_safeStop {m : Nat} {z s : State} {x0 : Bool} (hm : Sub 0x20000 m) (h : Touches m z s) :
    Touches m z { s with
      safeStop := x0 } :=
  { h with
    safeStop := hm.bit rfl }

theorem Touches.upD_scrubs {m : Nat} {z s : State} {x0 : List (Nat × Scrub)} (hm : Sub 0x1000000000 m) (h : Touches m
    z s) :
    Touches m z { s with
      scrubs := x0 } :=
  { h with
    scrubs := hm.bit rfl }

theorem Touches.upD_sent {m : Nat} {z s : State} {x0 : List Sent} (hm : Sub 0x1000 m) (h : Touches m z s) :
    Touches m z { s with
      sent := x0 } :=
  { h with
    sent := hm.bit rfl }

theorem Touches.upD_slots {m : Nat} {z s : State} {x0 : List (Nat × Slot)} (hm : Sub 0x2000000 m) (h : Touches m z s)
    :
    Touches m z { s with
      slots := x0 } :=
  { h with
    slots := hm.bit rfl }

theorem Touches.upD_slots_planes_decls_retained_freed_freedWait_spoilLog {m : Nat} {z s : State} {x0 : List (Nat ×
    Slot)} {x1 : List (Nat × Plane)} {x2 : List Decl} {x3 : List (Nat × Retained)} {x4 : List Nat} {x5 : List FreedWait}
    {x6 : List SpoilEntry} (hm : Sub 0xfe000000 m) (h : Touches m z s) :
    Touches m z { s with
      slots := x0, planes := x1, decls := x2, retained := x3, freed := x4, freedWait := x5, spoilLog := x6 } :=
  { h with
    slots := hm.bit rfl, planes := hm.bit rfl, decls := hm.bit rfl, retained := hm.bit rfl, freed := hm.bit rfl,
    freedWait := hm.bit rfl, spoilLog := hm.bit rfl }

theorem Touches.upD_spoilLog {m : Nat} {z s : State} {x0 : List SpoilEntry} (hm : Sub 0x80000000 m) (h : Touches m z
    s) :
    Touches m z { s with
      spoilLog := x0 } :=
  { h with
    spoilLog := hm.bit rfl }

theorem Touches.upD_spoils {m : Nat} {z s : State} {x0 : Nat} (hm : Sub 0x100000000 m) (h : Touches m z s) :
    Touches m z { s with
      spoils := x0 } :=
  { h with
    spoils := hm.bit rfl }

theorem Touches.upD_startLists {m : Nat} {z s : State} {x0 : List (Nat × List StartEntry)} (hm : Sub 0x100000000000 m)
    (h : Touches m z s) :
    Touches m z { s with
      startLists := x0 } :=
  { h with
    startLists := hm.bit rfl }

theorem Touches.upD_stations {m : Nat} {z s : State} {x0 : List (Nat × Station)} (hm : Sub 0x40000000000000 m) (h :
    Touches m z s) :
    Touches m z { s with
      stations := x0 } :=
  { h with
    stations := hm.bit rfl }

theorem Touches.upD_steps {m : Nat} {z s : State} {x0 : List (Nat × StepCh)} (hm : Sub 0x8000000000000 m) (h : Touches
    m z s) :
    Touches m z { s with
      steps := x0 } :=
  { h with
    steps := hm.bit rfl }

theorem Touches.upD_stopAtRun {m : Nat} {z s : State} {x0 : List Nat} (hm : Sub 0x400000000000000000 m) (h : Touches m
    z s) :
    Touches m z { s with
      stopAtRun := x0 } :=
  { h with
    stopAtRun := hm.bit rfl }

theorem
    Touches.upD_straps_regs_mem_clocks_master_landed_msgs_fenced_unfPending_safeStop_errPulseEnd_errAonHold_releases_domains_txns_xtxn_lastFsnValid_slots_planes_decls_retained_freed_freedWait_spoilLog_spoils_badBlocks_memTrained_dmas_scrubs_jobs_jobNext_jobEnded_dlanes_counters_cues_startLists_paths_purges_logBusy_logWait_focs_buses_steps_stations_imagers_loops_cffs_aregOut_adcs_heaters_zeros_hvOver_gpios_eths_syncAt_loopNext_rails_rmon_thermals_stopAtRun_logSeq_lanes_rasters_headLinks_bonds_marks_calJobs_ages_linksFenced_clkFails_strapsAt_boot_taps_dogs_pcieUp_bootWaits_encEdges
    {m : Nat} {z s : State} {x0 : Straps} {x1 : List (Nat × Word)} {x2 : List Host.Cell} {x3 : List (Nat × DieClock)}
    {x4 : MasterTime} {x5 : List (Nat × Nat)} {x6 : List Msg} {x7 : List UnitId} {x8 : List Nat} {x9 : Bool} {x10 :
    Option Nat} {x11 : Bool} {x12 : List (Nat × Release)} {x13 : List (Nat × Domain)} {x14 : List (Nat × TxnSlot)} {x15
    : Xtxn} {x16 : Bool} {x17 : List (Nat × Slot)} {x18 : List (Nat × Plane)} {x19 : List Decl} {x20 : List (Nat ×
    Retained)} {x21 : List Nat} {x22 : List FreedWait} {x23 : List SpoilEntry} {x24 : Nat} {x25 : List Nat} {x26 : List
    Nat} {x27 : List (Nat × DmaCh)} {x28 : List (Nat × Scrub)} {x29 : List (Nat × Option Job)} {x30 : List (Nat × Nat)}
    {x31 : List Nat} {x32 : List (Nat × DecodeLane)} {x33 : List (Nat × PosCounter)} {x34 : List (Nat × CueRun)} {x35 :
    List (Nat × List StartEntry)} {x36 : List (Nat × PathRun)} {x37 : List Purge} {x38 : Option (Nat × Nat)} {x39 :
    Option (Nat × Nat)} {x40 : List (Nat × FocCh)} {x41 : List (Nat × BusRun)} {x42 : List (Nat × StepCh)} {x43 : List
    (Nat × Station)} {x44 : List (Nat × Imager)} {x45 : List (Nat × LoopCtx)} {x46 : List (Nat × List CffEntry)} {x47 :
    List (Nat × Int)} {x48 : List (Nat × List Nat)} {x49 : List (Nat × Heater)} {x50 : List (Nat × ZeroCross)} {x51 :
    List (Nat × Nat)} {x52 : List (Nat × Gpio)} {x53 : List (Nat × EthPort)} {x54 : Option Nat} {x55 : List (Nat × Nat)}
    {x56 : List (Nat × Rail)} {x57 : List (Nat × Nat)} {x58 : List (Nat × Thermal)} {x59 : List Nat} {x60 : Nat} {x61 :
    List (Nat × Lane)} {x62 : List (Nat × Raster)} {x63 : List (Nat × HeadLink)} {x64 : List (Nat × Bond)} {x65 : List
    (Nat × MarkInput)} {x66 : List (Nat × Option CalJob)} {x67 : List (Nat × AgeRun)} {x68 : List Nat} {x69 : List (Nat
    × Nat)} {x70 : Option Nat} {x71 : Boot} {x72 : List (Nat × Tap)} {x73 : List (Nat × Nat)} {x74 : Bool} {x75 : Bool}
    {x76 : List (Nat × (Option Nat × Option Nat))} (hm : Sub 0x1ffff7fffcffbffffffa70e m) (h : Touches m z s) :
    Touches m z { s with
      straps := x0, regs := x1, mem := x2, clocks := x3, master := x4, landed := x5, msgs := x6, fenced := x7,
      unfPending := x8, safeStop := x9, errPulseEnd := x10, errAonHold := x11, releases := x12, domains := x13,
      txns := x14, xtxn := x15, lastFsnValid := x16, slots := x17, planes := x18, decls := x19, retained := x20,
      freed := x21, freedWait := x22, spoilLog := x23, spoils := x24, badBlocks := x25, memTrained := x26,
      dmas := x27, scrubs := x28, jobs := x29, jobNext := x30, jobEnded := x31, dlanes := x32, counters := x33,
      cues := x34, startLists := x35, paths := x36, purges := x37, logBusy := x38, logWait := x39, focs := x40,
      buses := x41, steps := x42, stations := x43, imagers := x44, loops := x45, cffs := x46, aregOut := x47,
      adcs := x48, heaters := x49, zeros := x50, hvOver := x51, gpios := x52, eths := x53, syncAt := x54,
      loopNext := x55, rails := x56, rmon := x57, thermals := x58, stopAtRun := x59, logSeq := x60, lanes := x61,
      rasters := x62, headLinks := x63, bonds := x64, marks := x65, calJobs := x66, ages := x67, linksFenced := x68,
      clkFails := x69, strapsAt := x70, boot := x71, taps := x72, dogs := x73, pcieUp := x74, bootWaits := x75,
      encEdges := x76 } :=
  { h with
    straps := hm.bit rfl, regs := hm.bit rfl, mem := hm.bit rfl, clocks := hm.bit rfl, master := hm.bit rfl,
    landed := hm.bit rfl, msgs := hm.bit rfl, fenced := hm.bit rfl, unfPending := hm.bit rfl,
    safeStop := hm.bit rfl, errPulseEnd := hm.bit rfl, errAonHold := hm.bit rfl, releases := hm.bit rfl,
    domains := hm.bit rfl, txns := hm.bit rfl, xtxn := hm.bit rfl, lastFsnValid := hm.bit rfl, slots := hm.bit rfl,
    planes := hm.bit rfl, decls := hm.bit rfl, retained := hm.bit rfl, freed := hm.bit rfl, freedWait := hm.bit rfl,
    spoilLog := hm.bit rfl, spoils := hm.bit rfl, badBlocks := hm.bit rfl, memTrained := hm.bit rfl,
    dmas := hm.bit rfl, scrubs := hm.bit rfl, jobs := hm.bit rfl, jobNext := hm.bit rfl, jobEnded := hm.bit rfl,
    dlanes := hm.bit rfl, counters := hm.bit rfl, cues := hm.bit rfl, startLists := hm.bit rfl, paths := hm.bit rfl,
    purges := hm.bit rfl, logBusy := hm.bit rfl, logWait := hm.bit rfl, focs := hm.bit rfl, buses := hm.bit rfl,
    steps := hm.bit rfl, stations := hm.bit rfl, imagers := hm.bit rfl, loops := hm.bit rfl, cffs := hm.bit rfl,
    aregOut := hm.bit rfl, adcs := hm.bit rfl, heaters := hm.bit rfl, zeros := hm.bit rfl, hvOver := hm.bit rfl,
    gpios := hm.bit rfl, eths := hm.bit rfl, syncAt := hm.bit rfl, loopNext := hm.bit rfl, rails := hm.bit rfl,
    rmon := hm.bit rfl, thermals := hm.bit rfl, stopAtRun := hm.bit rfl, logSeq := hm.bit rfl, lanes := hm.bit rfl,
    rasters := hm.bit rfl, headLinks := hm.bit rfl, bonds := hm.bit rfl, marks := hm.bit rfl, calJobs := hm.bit rfl,
    ages := hm.bit rfl, linksFenced := hm.bit rfl, clkFails := hm.bit rfl, strapsAt := hm.bit rfl,
    boot := hm.bit rfl, taps := hm.bit rfl, dogs := hm.bit rfl, pcieUp := hm.bit rfl, bootWaits := hm.bit rfl,
    encEdges := hm.bit rfl }

theorem Touches.upD_straps_strapsAt {m : Nat} {z s : State} {x0 : Straps} {x1 : Option Nat} (hm : Sub
    0x400000000000000000002 m) (h : Touches m z s) :
    Touches m z { s with
      straps := x0, strapsAt := x1 } :=
  { h with
    straps := hm.bit rfl, strapsAt := hm.bit rfl }

theorem Touches.upD_syncAt {m : Nat} {z s : State} {x0 : Option Nat} (hm : Sub 0x20000000000000000 m) (h : Touches m z
    s) :
    Touches m z { s with
      syncAt := x0 } :=
  { h with
    syncAt := hm.bit rfl }

theorem Touches.upD_taps {m : Nat} {z s : State} {x0 : List (Nat × Tap)} (hm : Sub 0x1000000000000000000000 m) (h :
    Touches m z s) :
    Touches m z { s with
      taps := x0 } :=
  { h with
    taps := hm.bit rfl }

theorem Touches.upD_thermals {m : Nat} {z s : State} {x0 : List (Nat × Thermal)} (hm : Sub 0x200000000000000000 m) (h
    : Touches m z s) :
    Touches m z { s with
      thermals := x0 } :=
  { h with
    thermals := hm.bit rfl }

theorem Touches.upD_txns {m : Nat} {z s : State} {x0 : List (Nat × TxnSlot)} (hm : Sub 0x400000 m) (h : Touches m z s)
    :
    Touches m z { s with
      txns := x0 } :=
  { h with
    txns := hm.bit rfl }

theorem Touches.upD_unfPending {m : Nat} {z s : State} {x0 : List Nat} (hm : Sub 0x10000 m) (h : Touches m z s) :
    Touches m z { s with
      unfPending := x0 } :=
  { h with
    unfPending := hm.bit rfl }

theorem Touches.upD_xtxn {m : Nat} {z s : State} {x0 : Xtxn} (hm : Sub 0x800000 m) (h : Touches m z s) :
    Touches m z { s with
      xtxn := x0 } :=
  { h with
    xtxn := hm.bit rfl }

theorem Touches.upD_zeros {m : Nat} {z s : State} {x0 : List (Nat × ZeroCross)} (hm : Sub 0x2000000000000000 m) (h :
    Touches m z s) :
    Touches m z { s with
      zeros := x0 } :=
  { h with
    zeros := hm.bit rfl }

end Sys2Proof.Machine
end

