-- ==== Sys2Proof/Laws/TouchesOps.lean ====
section
/-! SUPPORT. Which fields of the state every operation of Ops may change. -/

namespace Sys2Proof.Machine

theorem putWord_touches {z : State} {msk : Nat} {a : Nat} {v : Sys2Proof.Word} {s : State} (hm : Sub 0x4 msk) (h :
    Touches msk z s) : Touches msk z (putWord a v s) :=
  (Touches.upD_regs (hm.of rfl) h)

theorem signalVector_touches {z : State} {msk : Nat} {v : Nat} {s : State} (hm : Sub 0x1004 msk) (h : Touches msk z s)
    : Touches msk z (signalVector v s) :=
  (touches_ite (putWord_touches (hm.of rfl) h) (Touches.upD_sent (hm.of rfl) h))

theorem signalAll_touches {z : State} {msk : Nat} {x0 : List Nat} {x1 : State} (hm : Sub 0x1004 msk) (h : Touches msk
    z x1) : Touches msk z (signalAll x0 x1) := by
  have h0 : Sub 0x1004 msk := hm.of rfl
  fun_induction signalAll x0 x1 <;> grind [signalVector_touches]

theorem signalLine_touches {z : State} {msk : Nat} {d : Nat} {p : Nat} {kind : Nat} {s : State} (hm : Sub 0x1004 msk)
    (h : Touches msk z s) : Touches msk z (signalLine d p kind s) :=
  (signalAll_touches (hm.of rfl) h)

theorem afterHeader_touches {z : State} {msk : Nat} {d : Nat} {p : Nat} {evtBefore : Bool} {fltBefore : Bool} {s :
    State} (hm : Sub 0x1004 msk) (h : Touches msk z s) : Touches msk z (afterHeader d p evtBefore fltBefore s) :=
  (touches_ite (signalLine_touches (hm.of rfl) (touches_ite (signalLine_touches (hm.of rfl) h) h)) (touches_ite
    (signalLine_touches (hm.of rfl) h) h))

theorem evtMask_touches {z : State} {msk : Nat} {d : Nat} {p : Nat} {mask : Nat} {s : State} (hm : Sub 0x1004 msk) (h
    : Touches msk z s) : Touches msk z (evtMask d p mask s) :=
  (afterHeader_touches (hm.of rfl) (putWord_touches (hm.of rfl) h))

theorem evt_touches {z : State} {msk : Nat} {d : Nat} {p : Nat} {bit : Nat} {s : State} (hm : Sub 0x1004 msk) (h :
    Touches msk z s) : Touches msk z (evt d p bit s) :=
  (evtMask_touches (hm.of rfl) h)

theorem accErr_touches {z : State} {msk : Nat} {kind : Nat} {write : Bool} {a : Nat} {s : State} (hm : Sub 0x1004 msk)
    (h : Touches msk z s) : Touches msk z (accErr kind write a s) :=
  (evt_touches (hm.of rfl) (touches_ite h (putWord_touches (hm.of rfl) h)))

theorem wr_touches {z : State} {msk : Nat} {l : Sys2Proof.Loc} {v : Nat} {s : State} (hm : Sub 0x4 msk) (h : Touches
    msk z s) : Touches msk z (wr l v s) :=
  (putWord_touches (hm.of rfl) h)

theorem bumpBy_touches {z : State} {msk : Nat} {l : Sys2Proof.Loc} {n : Nat} {s : State} (hm : Sub 0x4 msk) (h :
    Touches msk z s) : Touches msk z (bumpBy l n s) :=
  (wr_touches (hm.of rfl) h)

theorem bump_touches {z : State} {msk : Nat} {l : Sys2Proof.Loc} {s : State} (hm : Sub 0x4 msk) (h : Touches msk z s)
    : Touches msk z (bump l s) :=
  (bumpBy_touches (hm.of rfl) h)

theorem errPulse_touches {z : State} {msk : Nat} {d : Nat} {p : Nat} {src : Nat} {cls : Nat} {esn : Nat} {forced :
    Bool} {s : State} (hm : Sub 0x41004 msk) (h : Touches msk z s) : Touches msk z (errPulse d p src cls esn forced s)
    :=
  (touches_ite (evt_touches (hm.of rfl) (putWord_touches (hm.of rfl) (putWord_touches (hm.of rfl) (wr_touches (hm.of
    rfl) (bump_touches (hm.of rfl) (Touches.upD_errPulseEnd (hm.of rfl) h)))))) h)

theorem fillRecords_touches {z : State} {msk : Nat} {d : Nat} {p : Nat} {src : Nat} {cls : Nat} {esn : Nat} {s :
    State} (hm : Sub 0x4 msk) (h : Touches msk z s) : Touches msk z (fillRecords d p src cls esn s) :=
  (touches_ite (putWord_touches (hm.of rfl) (putWord_touches (hm.of rfl) h)) (touches_ite (putWord_touches (hm.of rfl)
    (putWord_touches (hm.of rfl) h)) h))

theorem logTrigger_touches {z : State} {msk : Nat} {cause : Nat} {info : Nat} {s : State} (hm : Sub 0x1800000000004
    msk) (h : Touches msk z s) : Touches msk z (logTrigger cause info s) :=
  (touches_ite (Touches.upD_logBusy (hm.of rfl) h) (touches_ite (Touches.upD_logWait (hm.of rfl) h) (bump_touches
    (hm.of rfl) h)))

theorem recordFault_touches {z : State} {msk : Nat} {d : Nat} {p : Nat} {src : Nat} {forced : Bool} {s : State} (hm :
    Sub 0x1800000041004 msk) (h : Touches msk z s) : Touches msk z (recordFault d p src forced s) :=
  (touches_ite (logTrigger_touches (hm.of rfl) (errPulse_touches (hm.of rfl) (fillRecords_touches (hm.of rfl)
    (bump_touches (hm.of rfl) (wr_touches (hm.of rfl) (afterHeader_touches (hm.of rfl) (putWord_touches (hm.of rfl)
    h))))))) (errPulse_touches (hm.of rfl) (fillRecords_touches (hm.of rfl) (bump_touches (hm.of rfl) (wr_touches
    (hm.of rfl) (afterHeader_touches (hm.of rfl) (putWord_touches (hm.of rfl) h)))))))

theorem slotReject_touches {z : State} {msk : Nat} {d : Nat} {i : Nat} {reason : Nat} {bad : Nat} {s : State} (hm :
    Sub 0x1800000041004 msk) (h : Touches msk z s) : Touches msk z (slotReject d i reason bad s) := by
  have e := Eq.refl @slotReject; conv at e => rhs; delta slotReject
  rw [e]
  (try dsimp only)
  split <;> (try dsimp only)
  exacts [(evt_touches (hm.of rfl) (wr_touches (hm.of rfl) (wr_touches (hm.of rfl) (wr_touches (hm.of rfl) (wr_touches (hm.of rfl) h))))), (evt_touches (hm.of rfl) (recordFault_touches (hm.of rfl) (bump_touches (hm.of rfl) (evt_touches (hm.of rfl) (wr_touches (hm.of rfl) (wr_touches (hm.of rfl) (wr_touches (hm.of rfl) (wr_touches (hm.of rfl) h))))))))]

theorem rejectTargets_touches {z : State} {msk : Nat} {d : Nat} {reason : Nat} {hit : Nat → Bool} {s : State} (hm :
    Sub 0x1800000043004 msk) (h : Touches msk z s) : Touches msk z (rejectTargets d reason hit s) :=
  (foldl_touches (fun _ _ h1 => (touches_ite h1 (by (try dsimp only); split <;> (try dsimp only); exacts [h1,
    (touches_ite (Touches.upD_msgs (hm.of rfl) (slotReject_touches (hm.of rfl) h1)) (slotReject_touches (hm.of rfl)
    h1))]))) h)

theorem addFence_touches {z : State} {msk : Nat} {u : UnitId} {s : State} (hm : Sub 0x180000004b004 msk) (h : Touches
    msk z s) : Touches msk z (addFence u s) :=
  (touches_ite h (rejectTargets_touches (hm.of rfl) (Touches.upD_fenced (hm.of rfl) h)))

theorem drawFree_touches {z : State} {msk : Nat} {s : State} (hm : Sub 0x4000 msk) (h : Touches msk z s) : Touches msk
    z (drawFree s).2 :=
  (Touches.upD_freeSeq (hm.of rfl) h)

theorem dropFence_touches {z : State} {msk : Nat} {u : UnitId} {s : State} (hm : Sub 0x8000 msk) (h : Touches msk z s)
    : Touches msk z (dropFence u s) :=
  (Touches.upD_fenced (hm.of rfl) h)

theorem hostPut_touches {z : State} {msk : Nat} {a : Nat} {v : Sys2Proof.Byte} {s : State} (hm : Sub 0x20 msk) (h :
    Touches msk z s) : Touches msk z (hostPut a v s) :=
  (Touches.upD_host (hm.of rfl) h)

theorem hostWrite_touches {z : State} {msk : Nat} {x0 : Nat} {x1 : List Sys2Proof.Byte} {x2 : State} (hm : Sub 0x20
    msk) (h : Touches msk z x2) : Touches msk z (hostWrite x0 x1 x2) := by
  have h0 : Sub 0x20 msk := hm.of rfl
  fun_induction hostWrite x0 x1 x2 <;> grind [hostPut_touches]

theorem memPut_touches {z : State} {msk : Nat} {a : Nat} {v : Sys2Proof.Byte} {s : State} (hm : Sub 0x8 msk) (h :
    Touches msk z s) : Touches msk z (memPut a v s) :=
  (Touches.upD_mem (hm.of rfl) h)

theorem memWrite_touches {z : State} {msk : Nat} {x0 : Nat} {x1 : List Sys2Proof.Byte} {x2 : State} (hm : Sub 0x8 msk)
    (h : Touches msk z x2) : Touches msk z (memWrite x0 x1 x2) := by
  have h0 : Sub 0x8 msk := hm.of rfl
  fun_induction memWrite x0 x1 x2 <;> grind [memPut_touches]

theorem nvPut_touches {z : State} {msk : Nat} {d : Nat} {o : Nat} {v : Sys2Proof.Byte} {s : State} (hm : Sub 0x10 msk)
    (h : Touches msk z s) : Touches msk z (nvPut d o v s) :=
  (Touches.upD_nv (hm.of rfl) h)

theorem nvWriteBytes_touches {z : State} {msk : Nat} {d : Nat} {x1 : Nat} {x2 : List Sys2Proof.Byte} {x3 : State} (hm
    : Sub 0x10 msk) (h : Touches msk z x3) : Touches msk z (nvWriteBytes d x1 x2 x3) := by
  have h0 : Sub 0x10 msk := hm.of rfl
  fun_induction nvWriteBytes d x1 x2 x3 <;> grind [nvPut_touches]

theorem privViolation_touches {z : State} {msk : Nat} {a : Nat} {s : State} (hm : Sub 0x1004 msk) (h : Touches msk z
    s) : Touches msk z (privViolation a s) :=
  (evt_touches (hm.of rfl) (touches_ite (bump_touches (hm.of rfl) h) (putWord_touches (hm.of rfl) (bump_touches (hm.of
    rfl) h))))

theorem putBytes_touches {z : State} {msk : Nat} {x0 : Nat} {x1 : List Sys2Proof.Byte} {x2 : State} (hm : Sub 0x4 msk)
    (h : Touches msk z x2) : Touches msk z (putBytes x0 x1 x2) := by
  have h0 : Sub 0x4 msk := hm.of rfl
  fun_induction putBytes x0 x1 x2 <;> grind [putWord_touches]

theorem setClock_touches {z : State} {msk : Nat} {d : Nat} {c : DieClock} {s : State} (hm : Sub 0x100 msk) (h :
    Touches msk z s) : Touches msk z (setClock d c s) :=
  (Touches.upD_clocks (hm.of rfl) h)

theorem setDomain_touches {z : State} {msk : Nat} {d : Nat} {dom : Nat} {v : Domain} {s : State} (hm : Sub 0x200000
    msk) (h : Touches msk z s) : Touches msk z (setDomain d dom v s) :=
  (Touches.upD_domains (hm.of rfl) h)

theorem setPlane_touches {z : State} {msk : Nat} {i : Nat} {k : Nat} {v : Plane} {s : State} (hm : Sub 0x4000000 msk)
    (h : Touches msk z s) : Touches msk z (setPlane i k v s) :=
  (Touches.upD_planes (hm.of rfl) h)

theorem setRelease_touches {z : State} {msk : Nat} {d : Nat} {r : Release} {s : State} (hm : Sub 0x100000 msk) (h :
    Touches msk z s) : Touches msk z (setRelease d r s) :=
  (Touches.upD_releases (hm.of rfl) h)

theorem setRetained_touches {z : State} {msk : Nat} {i : Nat} {v : Retained} {s : State} (hm : Sub 0x10000000 msk) (h
    : Touches msk z s) : Touches msk z (setRetained i v s) :=
  (Touches.upD_retained (hm.of rfl) h)

theorem setSlot_touches {z : State} {msk : Nat} {i : Nat} {v : Slot} {s : State} (hm : Sub 0x2000000 msk) (h : Touches
    msk z s) : Touches msk z (setSlot i v s) :=
  (Touches.upD_slots (hm.of rfl) h)

theorem setTxn_touches {z : State} {msk : Nat} {d : Nat} {i : Nat} {v : TxnSlot} {s : State} (hm : Sub 0x400000 msk)
    (h : Touches msk z s) : Touches msk z (setTxn d i v s) :=
  (Touches.upD_txns (hm.of rfl) h)

theorem unfRefuse_touches {z : State} {msk : Nat} {d : Nat} {p : Nat} {s : State} (hm : Sub 0x1004 msk) (h : Touches
    msk z s) : Touches msk z (unfRefuse d p s) :=
  (evt_touches (hm.of rfl) (touches_ite h (putWord_touches (hm.of rfl) h)))

theorem unfence_touches {z : State} {msk : Nat} {d : Nat} {p : Nat} {u : UnitId} {s : State} (hm : Sub 0x9004 msk) (h
    : Touches msk z s) : Touches msk z (unfence d p u s) :=
  (touches_ite h (touches_ite (unfRefuse_touches (hm.of rfl) h) (dropFence_touches (hm.of rfl) h)))

theorem wrS_touches {z : State} {msk : Nat} {l : Sys2Proof.Loc} {v : Int} {s : State} (hm : Sub 0x4 msk) (h : Touches
    msk z s) : Touches msk z (wrS l v s) :=
  (wr_touches (hm.of rfl) h)

end Sys2Proof.Machine
end

