-- ==== Sys2Proof/Laws/Blocks.lean ====
section
/-! SUPPORT. What an event, a message, a fault record and a latched access error leave as they were: every field of the state
but the registers, what has been sent and the triggers of a fault, and every word of a block but the header's. -/

namespace Sys2Proof.Machine

@[simp] theorem signalVector_fields (v : Nat) (s : State) : (signalVector v s).part = s.part ∧ (signalVector v
    s).straps = s.straps ∧ (signalVector v s).mem = s.mem ∧ (signalVector v s).nv = s.nv ∧ (signalVector v s).host =
    s.host ∧ (signalVector v s).flash = s.flash ∧ (signalVector v s).now = s.now ∧ (signalVector v s).clocks =
    s.clocks ∧ (signalVector v s).master = s.master ∧ (signalVector v s).landed = s.landed ∧ (signalVector v s).resp =
    s.resp ∧ (signalVector v s).msgs = s.msgs ∧ (signalVector v s).freeSeq = s.freeSeq ∧ (signalVector v s).fenced =
    s.fenced ∧ (signalVector v s).unfPending = s.unfPending ∧ (signalVector v s).safeStop = s.safeStop ∧ (signalVector
    v s).errPulseEnd = s.errPulseEnd ∧ (signalVector v s).errAonHold = s.errAonHold ∧ (signalVector v s).releases =
    s.releases ∧ (signalVector v s).domains = s.domains ∧ (signalVector v s).txns = s.txns ∧ (signalVector v s).xtxn =
    s.xtxn ∧ (signalVector v s).lastFsnValid = s.lastFsnValid ∧ (signalVector v s).slots = s.slots ∧ (signalVector v
    s).planes = s.planes ∧ (signalVector v s).decls = s.decls ∧ (signalVector v s).retained = s.retained ∧
    (signalVector v s).freed = s.freed ∧ (signalVector v s).freedWait = s.freedWait ∧ (signalVector v s).spoilLog =
    s.spoilLog ∧ (signalVector v s).spoils = s.spoils ∧ (signalVector v s).badBlocks = s.badBlocks ∧ (signalVector v
    s).memTrained = s.memTrained ∧ (signalVector v s).dmas = s.dmas ∧ (signalVector v s).scrubs = s.scrubs ∧
    (signalVector v s).jobs = s.jobs ∧ (signalVector v s).jobNext = s.jobNext ∧ (signalVector v s).jobEnded =
    s.jobEnded ∧ (signalVector v s).dlanes = s.dlanes ∧ (signalVector v s).counters = s.counters ∧ (signalVector v
    s).encoders = s.encoders ∧ (signalVector v s).cues = s.cues ∧ (signalVector v s).startLists = s.startLists ∧
    (signalVector v s).paths = s.paths ∧ (signalVector v s).purges = s.purges ∧ (signalVector v s).logBusy = s.logBusy
    ∧ (signalVector v s).logWait = s.logWait ∧ (signalVector v s).focs = s.focs ∧ (signalVector v s).buses = s.buses ∧
    (signalVector v s).steps = s.steps ∧ (signalVector v s).ilkIn = s.ilkIn ∧ (signalVector v s).hokIn = s.hokIn ∧
    (signalVector v s).stations = s.stations ∧ (signalVector v s).imagers = s.imagers ∧ (signalVector v s).loops =
    s.loops ∧ (signalVector v s).cffs = s.cffs ∧ (signalVector v s).aregOut = s.aregOut ∧ (signalVector v s).adcs =
    s.adcs ∧ (signalVector v s).heaters = s.heaters ∧ (signalVector v s).zeros = s.zeros ∧ (signalVector v s).hvOver =
    s.hvOver ∧ (signalVector v s).gpios = s.gpios ∧ (signalVector v s).eths = s.eths ∧ (signalVector v s).syncAt =
    s.syncAt ∧ (signalVector v s).loopNext = s.loopNext ∧ (signalVector v s).rails = s.rails ∧ (signalVector v s).rmon
    = s.rmon ∧ (signalVector v s).thermals = s.thermals ∧ (signalVector v s).stopAtRun = s.stopAtRun ∧ (signalVector v
    s).nvBad = s.nvBad ∧ (signalVector v s).logSeq = s.logSeq ∧ (signalVector v s).lanes = s.lanes ∧ (signalVector v
    s).rasters = s.rasters ∧ (signalVector v s).headLinks = s.headLinks ∧ (signalVector v s).bonds = s.bonds ∧
    (signalVector v s).marks = s.marks ∧ (signalVector v s).calJobs = s.calJobs ∧ (signalVector v s).ages = s.ages ∧
    (signalVector v s).linksFenced = s.linksFenced ∧ (signalVector v s).clkFails = s.clkFails ∧ (signalVector v
    s).strapsAt = s.strapsAt ∧ (signalVector v s).boot = s.boot ∧ (signalVector v s).taps = s.taps ∧ (signalVector v
    s).dogs = s.dogs ∧ (signalVector v s).pcieUp = s.pcieUp ∧ (signalVector v s).bootWaits = s.bootWaits ∧
    (signalVector v s).encEdges = s.encEdges ∧ (signalVector v s).pending = s.pending :=
  have h : Touches 0x1004 s (signalVector v s) := signalVector_touches (Nat.and_self _) (Touches.refl _ _)
  ⟨h.part rfl, h.straps rfl, h.mem rfl, h.nv rfl, h.host rfl, h.flash rfl, h.now rfl, h.clocks rfl, h.master rfl,
    h.landed rfl, h.resp rfl, h.msgs rfl, h.freeSeq rfl, h.fenced rfl, h.unfPending rfl, h.safeStop rfl, h.errPulseEnd
    rfl, h.errAonHold rfl, h.releases rfl, h.domains rfl, h.txns rfl, h.xtxn rfl, h.lastFsnValid rfl, h.slots rfl,
    h.planes rfl, h.decls rfl, h.retained rfl, h.freed rfl, h.freedWait rfl, h.spoilLog rfl, h.spoils rfl, h.badBlocks
    rfl, h.memTrained rfl, h.dmas rfl, h.scrubs rfl, h.jobs rfl, h.jobNext rfl, h.jobEnded rfl, h.dlanes rfl,
    h.counters rfl, h.encoders rfl, h.cues rfl, h.startLists rfl, h.paths rfl, h.purges rfl, h.logBusy rfl, h.logWait
    rfl, h.focs rfl, h.buses rfl, h.steps rfl, h.ilkIn rfl, h.hokIn rfl, h.stations rfl, h.imagers rfl, h.loops rfl,
    h.cffs rfl, h.aregOut rfl, h.adcs rfl, h.heaters rfl, h.zeros rfl, h.hvOver rfl, h.gpios rfl, h.eths rfl, h.syncAt
    rfl, h.loopNext rfl, h.rails rfl, h.rmon rfl, h.thermals rfl, h.stopAtRun rfl, h.nvBad rfl, h.logSeq rfl, h.lanes
    rfl, h.rasters rfl, h.headLinks rfl, h.bonds rfl, h.marks rfl, h.calJobs rfl, h.ages rfl, h.linksFenced rfl,
    h.clkFails rfl, h.strapsAt rfl, h.boot rfl, h.taps rfl, h.dogs rfl, h.pcieUp rfl, h.bootWaits rfl, h.encEdges rfl,
    h.pending rfl⟩

@[simp] theorem signalLine_fields (d p k : Nat) (s : State) : (signalLine d p k s).part = s.part ∧ (signalLine d p k
    s).straps = s.straps ∧ (signalLine d p k s).mem = s.mem ∧ (signalLine d p k s).nv = s.nv ∧ (signalLine d p k
    s).host = s.host ∧ (signalLine d p k s).flash = s.flash ∧ (signalLine d p k s).now = s.now ∧ (signalLine d p k
    s).clocks = s.clocks ∧ (signalLine d p k s).master = s.master ∧ (signalLine d p k s).landed = s.landed ∧
    (signalLine d p k s).resp = s.resp ∧ (signalLine d p k s).msgs = s.msgs ∧ (signalLine d p k s).freeSeq = s.freeSeq
    ∧ (signalLine d p k s).fenced = s.fenced ∧ (signalLine d p k s).unfPending = s.unfPending ∧ (signalLine d p k
    s).safeStop = s.safeStop ∧ (signalLine d p k s).errPulseEnd = s.errPulseEnd ∧ (signalLine d p k s).errAonHold =
    s.errAonHold ∧ (signalLine d p k s).releases = s.releases ∧ (signalLine d p k s).domains = s.domains ∧ (signalLine
    d p k s).txns = s.txns ∧ (signalLine d p k s).xtxn = s.xtxn ∧ (signalLine d p k s).lastFsnValid = s.lastFsnValid ∧
    (signalLine d p k s).slots = s.slots ∧ (signalLine d p k s).planes = s.planes ∧ (signalLine d p k s).decls =
    s.decls ∧ (signalLine d p k s).retained = s.retained ∧ (signalLine d p k s).freed = s.freed ∧ (signalLine d p k
    s).freedWait = s.freedWait ∧ (signalLine d p k s).spoilLog = s.spoilLog ∧ (signalLine d p k s).spoils = s.spoils ∧
    (signalLine d p k s).badBlocks = s.badBlocks ∧ (signalLine d p k s).memTrained = s.memTrained ∧ (signalLine d p k
    s).dmas = s.dmas ∧ (signalLine d p k s).scrubs = s.scrubs ∧ (signalLine d p k s).jobs = s.jobs ∧ (signalLine d p k
    s).jobNext = s.jobNext ∧ (signalLine d p k s).jobEnded = s.jobEnded ∧ (signalLine d p k s).dlanes = s.dlanes ∧
    (signalLine d p k s).counters = s.counters ∧ (signalLine d p k s).encoders = s.encoders ∧ (signalLine d p k
    s).cues = s.cues ∧ (signalLine d p k s).startLists = s.startLists ∧ (signalLine d p k s).paths = s.paths ∧
    (signalLine d p k s).purges = s.purges ∧ (signalLine d p k s).logBusy = s.logBusy ∧ (signalLine d p k s).logWait =
    s.logWait ∧ (signalLine d p k s).focs = s.focs ∧ (signalLine d p k s).buses = s.buses ∧ (signalLine d p k s).steps
    = s.steps ∧ (signalLine d p k s).ilkIn = s.ilkIn ∧ (signalLine d p k s).hokIn = s.hokIn ∧ (signalLine d p k
    s).stations = s.stations ∧ (signalLine d p k s).imagers = s.imagers ∧ (signalLine d p k s).loops = s.loops ∧
    (signalLine d p k s).cffs = s.cffs ∧ (signalLine d p k s).aregOut = s.aregOut ∧ (signalLine d p k s).adcs = s.adcs
    ∧ (signalLine d p k s).heaters = s.heaters ∧ (signalLine d p k s).zeros = s.zeros ∧ (signalLine d p k s).hvOver =
    s.hvOver ∧ (signalLine d p k s).gpios = s.gpios ∧ (signalLine d p k s).eths = s.eths ∧ (signalLine d p k s).syncAt
    = s.syncAt ∧ (signalLine d p k s).loopNext = s.loopNext ∧ (signalLine d p k s).rails = s.rails ∧ (signalLine d p k
    s).rmon = s.rmon ∧ (signalLine d p k s).thermals = s.thermals ∧ (signalLine d p k s).stopAtRun = s.stopAtRun ∧
    (signalLine d p k s).nvBad = s.nvBad ∧ (signalLine d p k s).logSeq = s.logSeq ∧ (signalLine d p k s).lanes =
    s.lanes ∧ (signalLine d p k s).rasters = s.rasters ∧ (signalLine d p k s).headLinks = s.headLinks ∧ (signalLine d
    p k s).bonds = s.bonds ∧ (signalLine d p k s).marks = s.marks ∧ (signalLine d p k s).calJobs = s.calJobs ∧
    (signalLine d p k s).ages = s.ages ∧ (signalLine d p k s).linksFenced = s.linksFenced ∧ (signalLine d p k
    s).clkFails = s.clkFails ∧ (signalLine d p k s).strapsAt = s.strapsAt ∧ (signalLine d p k s).boot = s.boot ∧
    (signalLine d p k s).taps = s.taps ∧ (signalLine d p k s).dogs = s.dogs ∧ (signalLine d p k s).pcieUp = s.pcieUp ∧
    (signalLine d p k s).bootWaits = s.bootWaits ∧ (signalLine d p k s).encEdges = s.encEdges ∧ (signalLine d p k
    s).pending = s.pending :=
  have h : Touches 0x1004 s (signalLine d p k s) := signalLine_touches (Nat.and_self _) (Touches.refl _ _)
  ⟨h.part rfl, h.straps rfl, h.mem rfl, h.nv rfl, h.host rfl, h.flash rfl, h.now rfl, h.clocks rfl, h.master rfl,
    h.landed rfl, h.resp rfl, h.msgs rfl, h.freeSeq rfl, h.fenced rfl, h.unfPending rfl, h.safeStop rfl, h.errPulseEnd
    rfl, h.errAonHold rfl, h.releases rfl, h.domains rfl, h.txns rfl, h.xtxn rfl, h.lastFsnValid rfl, h.slots rfl,
    h.planes rfl, h.decls rfl, h.retained rfl, h.freed rfl, h.freedWait rfl, h.spoilLog rfl, h.spoils rfl, h.badBlocks
    rfl, h.memTrained rfl, h.dmas rfl, h.scrubs rfl, h.jobs rfl, h.jobNext rfl, h.jobEnded rfl, h.dlanes rfl,
    h.counters rfl, h.encoders rfl, h.cues rfl, h.startLists rfl, h.paths rfl, h.purges rfl, h.logBusy rfl, h.logWait
    rfl, h.focs rfl, h.buses rfl, h.steps rfl, h.ilkIn rfl, h.hokIn rfl, h.stations rfl, h.imagers rfl, h.loops rfl,
    h.cffs rfl, h.aregOut rfl, h.adcs rfl, h.heaters rfl, h.zeros rfl, h.hvOver rfl, h.gpios rfl, h.eths rfl, h.syncAt
    rfl, h.loopNext rfl, h.rails rfl, h.rmon rfl, h.thermals rfl, h.stopAtRun rfl, h.nvBad rfl, h.logSeq rfl, h.lanes
    rfl, h.rasters rfl, h.headLinks rfl, h.bonds rfl, h.marks rfl, h.calJobs rfl, h.ages rfl, h.linksFenced rfl,
    h.clkFails rfl, h.strapsAt rfl, h.boot rfl, h.taps rfl, h.dogs rfl, h.pcieUp rfl, h.bootWaits rfl, h.encEdges rfl,
    h.pending rfl⟩

@[simp] theorem afterHeader_fields (d p : Nat) (x y : Bool) (s : State) : (afterHeader d p x y s).part = s.part ∧
    (afterHeader d p x y s).straps = s.straps ∧ (afterHeader d p x y s).mem = s.mem ∧ (afterHeader d p x y s).nv =
    s.nv ∧ (afterHeader d p x y s).host = s.host ∧ (afterHeader d p x y s).flash = s.flash ∧ (afterHeader d p x y
    s).now = s.now ∧ (afterHeader d p x y s).clocks = s.clocks ∧ (afterHeader d p x y s).master = s.master ∧
    (afterHeader d p x y s).landed = s.landed ∧ (afterHeader d p x y s).resp = s.resp ∧ (afterHeader d p x y s).msgs =
    s.msgs ∧ (afterHeader d p x y s).freeSeq = s.freeSeq ∧ (afterHeader d p x y s).fenced = s.fenced ∧ (afterHeader d
    p x y s).unfPending = s.unfPending ∧ (afterHeader d p x y s).safeStop = s.safeStop ∧ (afterHeader d p x y
    s).errPulseEnd = s.errPulseEnd ∧ (afterHeader d p x y s).errAonHold = s.errAonHold ∧ (afterHeader d p x y
    s).releases = s.releases ∧ (afterHeader d p x y s).domains = s.domains ∧ (afterHeader d p x y s).txns = s.txns ∧
    (afterHeader d p x y s).xtxn = s.xtxn ∧ (afterHeader d p x y s).lastFsnValid = s.lastFsnValid ∧ (afterHeader d p x
    y s).slots = s.slots ∧ (afterHeader d p x y s).planes = s.planes ∧ (afterHeader d p x y s).decls = s.decls ∧
    (afterHeader d p x y s).retained = s.retained ∧ (afterHeader d p x y s).freed = s.freed ∧ (afterHeader d p x y
    s).freedWait = s.freedWait ∧ (afterHeader d p x y s).spoilLog = s.spoilLog ∧ (afterHeader d p x y s).spoils =
    s.spoils ∧ (afterHeader d p x y s).badBlocks = s.badBlocks ∧ (afterHeader d p x y s).memTrained = s.memTrained ∧
    (afterHeader d p x y s).dmas = s.dmas ∧ (afterHeader d p x y s).scrubs = s.scrubs ∧ (afterHeader d p x y s).jobs =
    s.jobs ∧ (afterHeader d p x y s).jobNext = s.jobNext ∧ (afterHeader d p x y s).jobEnded = s.jobEnded ∧
    (afterHeader d p x y s).dlanes = s.dlanes ∧ (afterHeader d p x y s).counters = s.counters ∧ (afterHeader d p x y
    s).encoders = s.encoders ∧ (afterHeader d p x y s).cues = s.cues ∧ (afterHeader d p x y s).startLists =
    s.startLists ∧ (afterHeader d p x y s).paths = s.paths ∧ (afterHeader d p x y s).purges = s.purges ∧ (afterHeader
    d p x y s).logBusy = s.logBusy ∧ (afterHeader d p x y s).logWait = s.logWait ∧ (afterHeader d p x y s).focs =
    s.focs ∧ (afterHeader d p x y s).buses = s.buses ∧ (afterHeader d p x y s).steps = s.steps ∧ (afterHeader d p x y
    s).ilkIn = s.ilkIn ∧ (afterHeader d p x y s).hokIn = s.hokIn ∧ (afterHeader d p x y s).stations = s.stations ∧
    (afterHeader d p x y s).imagers = s.imagers ∧ (afterHeader d p x y s).loops = s.loops ∧ (afterHeader d p x y
    s).cffs = s.cffs ∧ (afterHeader d p x y s).aregOut = s.aregOut ∧ (afterHeader d p x y s).adcs = s.adcs ∧
    (afterHeader d p x y s).heaters = s.heaters ∧ (afterHeader d p x y s).zeros = s.zeros ∧ (afterHeader d p x y
    s).hvOver = s.hvOver ∧ (afterHeader d p x y s).gpios = s.gpios ∧ (afterHeader d p x y s).eths = s.eths ∧
    (afterHeader d p x y s).syncAt = s.syncAt ∧ (afterHeader d p x y s).loopNext = s.loopNext ∧ (afterHeader d p x y
    s).rails = s.rails ∧ (afterHeader d p x y s).rmon = s.rmon ∧ (afterHeader d p x y s).thermals = s.thermals ∧
    (afterHeader d p x y s).stopAtRun = s.stopAtRun ∧ (afterHeader d p x y s).nvBad = s.nvBad ∧ (afterHeader d p x y
    s).logSeq = s.logSeq ∧ (afterHeader d p x y s).lanes = s.lanes ∧ (afterHeader d p x y s).rasters = s.rasters ∧
    (afterHeader d p x y s).headLinks = s.headLinks ∧ (afterHeader d p x y s).bonds = s.bonds ∧ (afterHeader d p x y
    s).marks = s.marks ∧ (afterHeader d p x y s).calJobs = s.calJobs ∧ (afterHeader d p x y s).ages = s.ages ∧
    (afterHeader d p x y s).linksFenced = s.linksFenced ∧ (afterHeader d p x y s).clkFails = s.clkFails ∧ (afterHeader
    d p x y s).strapsAt = s.strapsAt ∧ (afterHeader d p x y s).boot = s.boot ∧ (afterHeader d p x y s).taps = s.taps ∧
    (afterHeader d p x y s).dogs = s.dogs ∧ (afterHeader d p x y s).pcieUp = s.pcieUp ∧ (afterHeader d p x y
    s).bootWaits = s.bootWaits ∧ (afterHeader d p x y s).encEdges = s.encEdges ∧ (afterHeader d p x y s).pending =
    s.pending :=
  have h : Touches 0x1004 s (afterHeader d p x y s) := afterHeader_touches (Nat.and_self _) (Touches.refl _ _)
  ⟨h.part rfl, h.straps rfl, h.mem rfl, h.nv rfl, h.host rfl, h.flash rfl, h.now rfl, h.clocks rfl, h.master rfl,
    h.landed rfl, h.resp rfl, h.msgs rfl, h.freeSeq rfl, h.fenced rfl, h.unfPending rfl, h.safeStop rfl, h.errPulseEnd
    rfl, h.errAonHold rfl, h.releases rfl, h.domains rfl, h.txns rfl, h.xtxn rfl, h.lastFsnValid rfl, h.slots rfl,
    h.planes rfl, h.decls rfl, h.retained rfl, h.freed rfl, h.freedWait rfl, h.spoilLog rfl, h.spoils rfl, h.badBlocks
    rfl, h.memTrained rfl, h.dmas rfl, h.scrubs rfl, h.jobs rfl, h.jobNext rfl, h.jobEnded rfl, h.dlanes rfl,
    h.counters rfl, h.encoders rfl, h.cues rfl, h.startLists rfl, h.paths rfl, h.purges rfl, h.logBusy rfl, h.logWait
    rfl, h.focs rfl, h.buses rfl, h.steps rfl, h.ilkIn rfl, h.hokIn rfl, h.stations rfl, h.imagers rfl, h.loops rfl,
    h.cffs rfl, h.aregOut rfl, h.adcs rfl, h.heaters rfl, h.zeros rfl, h.hvOver rfl, h.gpios rfl, h.eths rfl, h.syncAt
    rfl, h.loopNext rfl, h.rails rfl, h.rmon rfl, h.thermals rfl, h.stopAtRun rfl, h.nvBad rfl, h.logSeq rfl, h.lanes
    rfl, h.rasters rfl, h.headLinks rfl, h.bonds rfl, h.marks rfl, h.calJobs rfl, h.ages rfl, h.linksFenced rfl,
    h.clkFails rfl, h.strapsAt rfl, h.boot rfl, h.taps rfl, h.dogs rfl, h.pcieUp rfl, h.bootWaits rfl, h.encEdges rfl,
    h.pending rfl⟩

@[simp] theorem evtMask_fields (d p m : Nat) (s : State) : (evtMask d p m s).part = s.part ∧ (evtMask d p m s).straps
    = s.straps ∧ (evtMask d p m s).mem = s.mem ∧ (evtMask d p m s).nv = s.nv ∧ (evtMask d p m s).host = s.host ∧
    (evtMask d p m s).flash = s.flash ∧ (evtMask d p m s).now = s.now ∧ (evtMask d p m s).clocks = s.clocks ∧ (evtMask
    d p m s).master = s.master ∧ (evtMask d p m s).landed = s.landed ∧ (evtMask d p m s).resp = s.resp ∧ (evtMask d p
    m s).msgs = s.msgs ∧ (evtMask d p m s).freeSeq = s.freeSeq ∧ (evtMask d p m s).fenced = s.fenced ∧ (evtMask d p m
    s).unfPending = s.unfPending ∧ (evtMask d p m s).safeStop = s.safeStop ∧ (evtMask d p m s).errPulseEnd =
    s.errPulseEnd ∧ (evtMask d p m s).errAonHold = s.errAonHold ∧ (evtMask d p m s).releases = s.releases ∧ (evtMask d
    p m s).domains = s.domains ∧ (evtMask d p m s).txns = s.txns ∧ (evtMask d p m s).xtxn = s.xtxn ∧ (evtMask d p m
    s).lastFsnValid = s.lastFsnValid ∧ (evtMask d p m s).slots = s.slots ∧ (evtMask d p m s).planes = s.planes ∧
    (evtMask d p m s).decls = s.decls ∧ (evtMask d p m s).retained = s.retained ∧ (evtMask d p m s).freed = s.freed ∧
    (evtMask d p m s).freedWait = s.freedWait ∧ (evtMask d p m s).spoilLog = s.spoilLog ∧ (evtMask d p m s).spoils =
    s.spoils ∧ (evtMask d p m s).badBlocks = s.badBlocks ∧ (evtMask d p m s).memTrained = s.memTrained ∧ (evtMask d p
    m s).dmas = s.dmas ∧ (evtMask d p m s).scrubs = s.scrubs ∧ (evtMask d p m s).jobs = s.jobs ∧ (evtMask d p m
    s).jobNext = s.jobNext ∧ (evtMask d p m s).jobEnded = s.jobEnded ∧ (evtMask d p m s).dlanes = s.dlanes ∧ (evtMask
    d p m s).counters = s.counters ∧ (evtMask d p m s).encoders = s.encoders ∧ (evtMask d p m s).cues = s.cues ∧
    (evtMask d p m s).startLists = s.startLists ∧ (evtMask d p m s).paths = s.paths ∧ (evtMask d p m s).purges =
    s.purges ∧ (evtMask d p m s).logBusy = s.logBusy ∧ (evtMask d p m s).logWait = s.logWait ∧ (evtMask d p m s).focs
    = s.focs ∧ (evtMask d p m s).buses = s.buses ∧ (evtMask d p m s).steps = s.steps ∧ (evtMask d p m s).ilkIn =
    s.ilkIn ∧ (evtMask d p m s).hokIn = s.hokIn ∧ (evtMask d p m s).stations = s.stations ∧ (evtMask d p m s).imagers
    = s.imagers ∧ (evtMask d p m s).loops = s.loops ∧ (evtMask d p m s).cffs = s.cffs ∧ (evtMask d p m s).aregOut =
    s.aregOut ∧ (evtMask d p m s).adcs = s.adcs ∧ (evtMask d p m s).heaters = s.heaters ∧ (evtMask d p m s).zeros =
    s.zeros ∧ (evtMask d p m s).hvOver = s.hvOver ∧ (evtMask d p m s).gpios = s.gpios ∧ (evtMask d p m s).eths =
    s.eths ∧ (evtMask d p m s).syncAt = s.syncAt ∧ (evtMask d p m s).loopNext = s.loopNext ∧ (evtMask d p m s).rails =
    s.rails ∧ (evtMask d p m s).rmon = s.rmon ∧ (evtMask d p m s).thermals = s.thermals ∧ (evtMask d p m s).stopAtRun
    = s.stopAtRun ∧ (evtMask d p m s).nvBad = s.nvBad ∧ (evtMask d p m s).logSeq = s.logSeq ∧ (evtMask d p m s).lanes
    = s.lanes ∧ (evtMask d p m s).rasters = s.rasters ∧ (evtMask d p m s).headLinks = s.headLinks ∧ (evtMask d p m
    s).bonds = s.bonds ∧ (evtMask d p m s).marks = s.marks ∧ (evtMask d p m s).calJobs = s.calJobs ∧ (evtMask d p m
    s).ages = s.ages ∧ (evtMask d p m s).linksFenced = s.linksFenced ∧ (evtMask d p m s).clkFails = s.clkFails ∧
    (evtMask d p m s).strapsAt = s.strapsAt ∧ (evtMask d p m s).boot = s.boot ∧ (evtMask d p m s).taps = s.taps ∧
    (evtMask d p m s).dogs = s.dogs ∧ (evtMask d p m s).pcieUp = s.pcieUp ∧ (evtMask d p m s).bootWaits = s.bootWaits
    ∧ (evtMask d p m s).encEdges = s.encEdges ∧ (evtMask d p m s).pending = s.pending :=
  have h : Touches 0x1004 s (evtMask d p m s) := evtMask_touches (Nat.and_self _) (Touches.refl _ _)
  ⟨h.part rfl, h.straps rfl, h.mem rfl, h.nv rfl, h.host rfl, h.flash rfl, h.now rfl, h.clocks rfl, h.master rfl,
    h.landed rfl, h.resp rfl, h.msgs rfl, h.freeSeq rfl, h.fenced rfl, h.unfPending rfl, h.safeStop rfl, h.errPulseEnd
    rfl, h.errAonHold rfl, h.releases rfl, h.domains rfl, h.txns rfl, h.xtxn rfl, h.lastFsnValid rfl, h.slots rfl,
    h.planes rfl, h.decls rfl, h.retained rfl, h.freed rfl, h.freedWait rfl, h.spoilLog rfl, h.spoils rfl, h.badBlocks
    rfl, h.memTrained rfl, h.dmas rfl, h.scrubs rfl, h.jobs rfl, h.jobNext rfl, h.jobEnded rfl, h.dlanes rfl,
    h.counters rfl, h.encoders rfl, h.cues rfl, h.startLists rfl, h.paths rfl, h.purges rfl, h.logBusy rfl, h.logWait
    rfl, h.focs rfl, h.buses rfl, h.steps rfl, h.ilkIn rfl, h.hokIn rfl, h.stations rfl, h.imagers rfl, h.loops rfl,
    h.cffs rfl, h.aregOut rfl, h.adcs rfl, h.heaters rfl, h.zeros rfl, h.hvOver rfl, h.gpios rfl, h.eths rfl, h.syncAt
    rfl, h.loopNext rfl, h.rails rfl, h.rmon rfl, h.thermals rfl, h.stopAtRun rfl, h.nvBad rfl, h.logSeq rfl, h.lanes
    rfl, h.rasters rfl, h.headLinks rfl, h.bonds rfl, h.marks rfl, h.calJobs rfl, h.ages rfl, h.linksFenced rfl,
    h.clkFails rfl, h.strapsAt rfl, h.boot rfl, h.taps rfl, h.dogs rfl, h.pcieUp rfl, h.bootWaits rfl, h.encEdges rfl,
    h.pending rfl⟩

@[simp] theorem evt_fields (d p b : Nat) (s : State) : (evt d p b s).part = s.part ∧ (evt d p b s).straps = s.straps ∧
    (evt d p b s).mem = s.mem ∧ (evt d p b s).nv = s.nv ∧ (evt d p b s).host = s.host ∧ (evt d p b s).flash = s.flash
    ∧ (evt d p b s).now = s.now ∧ (evt d p b s).clocks = s.clocks ∧ (evt d p b s).master = s.master ∧ (evt d p b
    s).landed = s.landed ∧ (evt d p b s).resp = s.resp ∧ (evt d p b s).msgs = s.msgs ∧ (evt d p b s).freeSeq =
    s.freeSeq ∧ (evt d p b s).fenced = s.fenced ∧ (evt d p b s).unfPending = s.unfPending ∧ (evt d p b s).safeStop =
    s.safeStop ∧ (evt d p b s).errPulseEnd = s.errPulseEnd ∧ (evt d p b s).errAonHold = s.errAonHold ∧ (evt d p b
    s).releases = s.releases ∧ (evt d p b s).domains = s.domains ∧ (evt d p b s).txns = s.txns ∧ (evt d p b s).xtxn =
    s.xtxn ∧ (evt d p b s).lastFsnValid = s.lastFsnValid ∧ (evt d p b s).slots = s.slots ∧ (evt d p b s).planes =
    s.planes ∧ (evt d p b s).decls = s.decls ∧ (evt d p b s).retained = s.retained ∧ (evt d p b s).freed = s.freed ∧
    (evt d p b s).freedWait = s.freedWait ∧ (evt d p b s).spoilLog = s.spoilLog ∧ (evt d p b s).spoils = s.spoils ∧
    (evt d p b s).badBlocks = s.badBlocks ∧ (evt d p b s).memTrained = s.memTrained ∧ (evt d p b s).dmas = s.dmas ∧
    (evt d p b s).scrubs = s.scrubs ∧ (evt d p b s).jobs = s.jobs ∧ (evt d p b s).jobNext = s.jobNext ∧ (evt d p b
    s).jobEnded = s.jobEnded ∧ (evt d p b s).dlanes = s.dlanes ∧ (evt d p b s).counters = s.counters ∧ (evt d p b
    s).encoders = s.encoders ∧ (evt d p b s).cues = s.cues ∧ (evt d p b s).startLists = s.startLists ∧ (evt d p b
    s).paths = s.paths ∧ (evt d p b s).purges = s.purges ∧ (evt d p b s).logBusy = s.logBusy ∧ (evt d p b s).logWait =
    s.logWait ∧ (evt d p b s).focs = s.focs ∧ (evt d p b s).buses = s.buses ∧ (evt d p b s).steps = s.steps ∧ (evt d p
    b s).ilkIn = s.ilkIn ∧ (evt d p b s).hokIn = s.hokIn ∧ (evt d p b s).stations = s.stations ∧ (evt d p b s).imagers
    = s.imagers ∧ (evt d p b s).loops = s.loops ∧ (evt d p b s).cffs = s.cffs ∧ (evt d p b s).aregOut = s.aregOut ∧
    (evt d p b s).adcs = s.adcs ∧ (evt d p b s).heaters = s.heaters ∧ (evt d p b s).zeros = s.zeros ∧ (evt d p b
    s).hvOver = s.hvOver ∧ (evt d p b s).gpios = s.gpios ∧ (evt d p b s).eths = s.eths ∧ (evt d p b s).syncAt =
    s.syncAt ∧ (evt d p b s).loopNext = s.loopNext ∧ (evt d p b s).rails = s.rails ∧ (evt d p b s).rmon = s.rmon ∧
    (evt d p b s).thermals = s.thermals ∧ (evt d p b s).stopAtRun = s.stopAtRun ∧ (evt d p b s).nvBad = s.nvBad ∧ (evt
    d p b s).logSeq = s.logSeq ∧ (evt d p b s).lanes = s.lanes ∧ (evt d p b s).rasters = s.rasters ∧ (evt d p b
    s).headLinks = s.headLinks ∧ (evt d p b s).bonds = s.bonds ∧ (evt d p b s).marks = s.marks ∧ (evt d p b s).calJobs
    = s.calJobs ∧ (evt d p b s).ages = s.ages ∧ (evt d p b s).linksFenced = s.linksFenced ∧ (evt d p b s).clkFails =
    s.clkFails ∧ (evt d p b s).strapsAt = s.strapsAt ∧ (evt d p b s).boot = s.boot ∧ (evt d p b s).taps = s.taps ∧
    (evt d p b s).dogs = s.dogs ∧ (evt d p b s).pcieUp = s.pcieUp ∧ (evt d p b s).bootWaits = s.bootWaits ∧ (evt d p b
    s).encEdges = s.encEdges ∧ (evt d p b s).pending = s.pending :=
  have h : Touches 0x1004 s (evt d p b s) := evt_touches (Nat.and_self _) (Touches.refl _ _)
  ⟨h.part rfl, h.straps rfl, h.mem rfl, h.nv rfl, h.host rfl, h.flash rfl, h.now rfl, h.clocks rfl, h.master rfl,
    h.landed rfl, h.resp rfl, h.msgs rfl, h.freeSeq rfl, h.fenced rfl, h.unfPending rfl, h.safeStop rfl, h.errPulseEnd
    rfl, h.errAonHold rfl, h.releases rfl, h.domains rfl, h.txns rfl, h.xtxn rfl, h.lastFsnValid rfl, h.slots rfl,
    h.planes rfl, h.decls rfl, h.retained rfl, h.freed rfl, h.freedWait rfl, h.spoilLog rfl, h.spoils rfl, h.badBlocks
    rfl, h.memTrained rfl, h.dmas rfl, h.scrubs rfl, h.jobs rfl, h.jobNext rfl, h.jobEnded rfl, h.dlanes rfl,
    h.counters rfl, h.encoders rfl, h.cues rfl, h.startLists rfl, h.paths rfl, h.purges rfl, h.logBusy rfl, h.logWait
    rfl, h.focs rfl, h.buses rfl, h.steps rfl, h.ilkIn rfl, h.hokIn rfl, h.stations rfl, h.imagers rfl, h.loops rfl,
    h.cffs rfl, h.aregOut rfl, h.adcs rfl, h.heaters rfl, h.zeros rfl, h.hvOver rfl, h.gpios rfl, h.eths rfl, h.syncAt
    rfl, h.loopNext rfl, h.rails rfl, h.rmon rfl, h.thermals rfl, h.stopAtRun rfl, h.nvBad rfl, h.logSeq rfl, h.lanes
    rfl, h.rasters rfl, h.headLinks rfl, h.bonds rfl, h.marks rfl, h.calJobs rfl, h.ages rfl, h.linksFenced rfl,
    h.clkFails rfl, h.strapsAt rfl, h.boot rfl, h.taps rfl, h.dogs rfl, h.pcieUp rfl, h.bootWaits rfl, h.encEdges rfl,
    h.pending rfl⟩

@[simp] theorem accErr_fields (k : Nat) (w : Bool) (a : Nat) (s : State) : (accErr k w a s).part = s.part ∧ (accErr k
    w a s).straps = s.straps ∧ (accErr k w a s).mem = s.mem ∧ (accErr k w a s).nv = s.nv ∧ (accErr k w a s).host =
    s.host ∧ (accErr k w a s).flash = s.flash ∧ (accErr k w a s).now = s.now ∧ (accErr k w a s).clocks = s.clocks ∧
    (accErr k w a s).master = s.master ∧ (accErr k w a s).landed = s.landed ∧ (accErr k w a s).resp = s.resp ∧ (accErr
    k w a s).msgs = s.msgs ∧ (accErr k w a s).freeSeq = s.freeSeq ∧ (accErr k w a s).fenced = s.fenced ∧ (accErr k w a
    s).unfPending = s.unfPending ∧ (accErr k w a s).safeStop = s.safeStop ∧ (accErr k w a s).errPulseEnd =
    s.errPulseEnd ∧ (accErr k w a s).errAonHold = s.errAonHold ∧ (accErr k w a s).releases = s.releases ∧ (accErr k w
    a s).domains = s.domains ∧ (accErr k w a s).txns = s.txns ∧ (accErr k w a s).xtxn = s.xtxn ∧ (accErr k w a
    s).lastFsnValid = s.lastFsnValid ∧ (accErr k w a s).slots = s.slots ∧ (accErr k w a s).planes = s.planes ∧ (accErr
    k w a s).decls = s.decls ∧ (accErr k w a s).retained = s.retained ∧ (accErr k w a s).freed = s.freed ∧ (accErr k w
    a s).freedWait = s.freedWait ∧ (accErr k w a s).spoilLog = s.spoilLog ∧ (accErr k w a s).spoils = s.spoils ∧
    (accErr k w a s).badBlocks = s.badBlocks ∧ (accErr k w a s).memTrained = s.memTrained ∧ (accErr k w a s).dmas =
    s.dmas ∧ (accErr k w a s).scrubs = s.scrubs ∧ (accErr k w a s).jobs = s.jobs ∧ (accErr k w a s).jobNext =
    s.jobNext ∧ (accErr k w a s).jobEnded = s.jobEnded ∧ (accErr k w a s).dlanes = s.dlanes ∧ (accErr k w a
    s).counters = s.counters ∧ (accErr k w a s).encoders = s.encoders ∧ (accErr k w a s).cues = s.cues ∧ (accErr k w a
    s).startLists = s.startLists ∧ (accErr k w a s).paths = s.paths ∧ (accErr k w a s).purges = s.purges ∧ (accErr k w
    a s).logBusy = s.logBusy ∧ (accErr k w a s).logWait = s.logWait ∧ (accErr k w a s).focs = s.focs ∧ (accErr k w a
    s).buses = s.buses ∧ (accErr k w a s).steps = s.steps ∧ (accErr k w a s).ilkIn = s.ilkIn ∧ (accErr k w a s).hokIn
    = s.hokIn ∧ (accErr k w a s).stations = s.stations ∧ (accErr k w a s).imagers = s.imagers ∧ (accErr k w a s).loops
    = s.loops ∧ (accErr k w a s).cffs = s.cffs ∧ (accErr k w a s).aregOut = s.aregOut ∧ (accErr k w a s).adcs = s.adcs
    ∧ (accErr k w a s).heaters = s.heaters ∧ (accErr k w a s).zeros = s.zeros ∧ (accErr k w a s).hvOver = s.hvOver ∧
    (accErr k w a s).gpios = s.gpios ∧ (accErr k w a s).eths = s.eths ∧ (accErr k w a s).syncAt = s.syncAt ∧ (accErr k
    w a s).loopNext = s.loopNext ∧ (accErr k w a s).rails = s.rails ∧ (accErr k w a s).rmon = s.rmon ∧ (accErr k w a
    s).thermals = s.thermals ∧ (accErr k w a s).stopAtRun = s.stopAtRun ∧ (accErr k w a s).nvBad = s.nvBad ∧ (accErr k
    w a s).logSeq = s.logSeq ∧ (accErr k w a s).lanes = s.lanes ∧ (accErr k w a s).rasters = s.rasters ∧ (accErr k w a
    s).headLinks = s.headLinks ∧ (accErr k w a s).bonds = s.bonds ∧ (accErr k w a s).marks = s.marks ∧ (accErr k w a
    s).calJobs = s.calJobs ∧ (accErr k w a s).ages = s.ages ∧ (accErr k w a s).linksFenced = s.linksFenced ∧ (accErr k
    w a s).clkFails = s.clkFails ∧ (accErr k w a s).strapsAt = s.strapsAt ∧ (accErr k w a s).boot = s.boot ∧ (accErr k
    w a s).taps = s.taps ∧ (accErr k w a s).dogs = s.dogs ∧ (accErr k w a s).pcieUp = s.pcieUp ∧ (accErr k w a
    s).bootWaits = s.bootWaits ∧ (accErr k w a s).encEdges = s.encEdges ∧ (accErr k w a s).pending = s.pending :=
  have h : Touches 0x1004 s (accErr k w a s) := accErr_touches (Nat.and_self _) (Touches.refl _ _)
  ⟨h.part rfl, h.straps rfl, h.mem rfl, h.nv rfl, h.host rfl, h.flash rfl, h.now rfl, h.clocks rfl, h.master rfl,
    h.landed rfl, h.resp rfl, h.msgs rfl, h.freeSeq rfl, h.fenced rfl, h.unfPending rfl, h.safeStop rfl, h.errPulseEnd
    rfl, h.errAonHold rfl, h.releases rfl, h.domains rfl, h.txns rfl, h.xtxn rfl, h.lastFsnValid rfl, h.slots rfl,
    h.planes rfl, h.decls rfl, h.retained rfl, h.freed rfl, h.freedWait rfl, h.spoilLog rfl, h.spoils rfl, h.badBlocks
    rfl, h.memTrained rfl, h.dmas rfl, h.scrubs rfl, h.jobs rfl, h.jobNext rfl, h.jobEnded rfl, h.dlanes rfl,
    h.counters rfl, h.encoders rfl, h.cues rfl, h.startLists rfl, h.paths rfl, h.purges rfl, h.logBusy rfl, h.logWait
    rfl, h.focs rfl, h.buses rfl, h.steps rfl, h.ilkIn rfl, h.hokIn rfl, h.stations rfl, h.imagers rfl, h.loops rfl,
    h.cffs rfl, h.aregOut rfl, h.adcs rfl, h.heaters rfl, h.zeros rfl, h.hvOver rfl, h.gpios rfl, h.eths rfl, h.syncAt
    rfl, h.loopNext rfl, h.rails rfl, h.rmon rfl, h.thermals rfl, h.stopAtRun rfl, h.nvBad rfl, h.logSeq rfl, h.lanes
    rfl, h.rasters rfl, h.headLinks rfl, h.bonds rfl, h.marks rfl, h.calJobs rfl, h.ages rfl, h.linksFenced rfl,
    h.clkFails rfl, h.strapsAt rfl, h.boot rfl, h.taps rfl, h.dogs rfl, h.pcieUp rfl, h.bootWaits rfl, h.encEdges rfl,
    h.pending rfl⟩

@[simp] theorem privViolation_fields (a : Nat) (s : State) : (privViolation a s).part = s.part ∧ (privViolation a
    s).straps = s.straps ∧ (privViolation a s).mem = s.mem ∧ (privViolation a s).nv = s.nv ∧ (privViolation a s).host
    = s.host ∧ (privViolation a s).flash = s.flash ∧ (privViolation a s).now = s.now ∧ (privViolation a s).clocks =
    s.clocks ∧ (privViolation a s).master = s.master ∧ (privViolation a s).landed = s.landed ∧ (privViolation a
    s).resp = s.resp ∧ (privViolation a s).msgs = s.msgs ∧ (privViolation a s).freeSeq = s.freeSeq ∧ (privViolation a
    s).fenced = s.fenced ∧ (privViolation a s).unfPending = s.unfPending ∧ (privViolation a s).safeStop = s.safeStop ∧
    (privViolation a s).errPulseEnd = s.errPulseEnd ∧ (privViolation a s).errAonHold = s.errAonHold ∧ (privViolation a
    s).releases = s.releases ∧ (privViolation a s).domains = s.domains ∧ (privViolation a s).txns = s.txns ∧
    (privViolation a s).xtxn = s.xtxn ∧ (privViolation a s).lastFsnValid = s.lastFsnValid ∧ (privViolation a s).slots
    = s.slots ∧ (privViolation a s).planes = s.planes ∧ (privViolation a s).decls = s.decls ∧ (privViolation a
    s).retained = s.retained ∧ (privViolation a s).freed = s.freed ∧ (privViolation a s).freedWait = s.freedWait ∧
    (privViolation a s).spoilLog = s.spoilLog ∧ (privViolation a s).spoils = s.spoils ∧ (privViolation a s).badBlocks
    = s.badBlocks ∧ (privViolation a s).memTrained = s.memTrained ∧ (privViolation a s).dmas = s.dmas ∧ (privViolation
    a s).scrubs = s.scrubs ∧ (privViolation a s).jobs = s.jobs ∧ (privViolation a s).jobNext = s.jobNext ∧
    (privViolation a s).jobEnded = s.jobEnded ∧ (privViolation a s).dlanes = s.dlanes ∧ (privViolation a s).counters =
    s.counters ∧ (privViolation a s).encoders = s.encoders ∧ (privViolation a s).cues = s.cues ∧ (privViolation a
    s).startLists = s.startLists ∧ (privViolation a s).paths = s.paths ∧ (privViolation a s).purges = s.purges ∧
    (privViolation a s).logBusy = s.logBusy ∧ (privViolation a s).logWait = s.logWait ∧ (privViolation a s).focs =
    s.focs ∧ (privViolation a s).buses = s.buses ∧ (privViolation a s).steps = s.steps ∧ (privViolation a s).ilkIn =
    s.ilkIn ∧ (privViolation a s).hokIn = s.hokIn ∧ (privViolation a s).stations = s.stations ∧ (privViolation a
    s).imagers = s.imagers ∧ (privViolation a s).loops = s.loops ∧ (privViolation a s).cffs = s.cffs ∧ (privViolation
    a s).aregOut = s.aregOut ∧ (privViolation a s).adcs = s.adcs ∧ (privViolation a s).heaters = s.heaters ∧
    (privViolation a s).zeros = s.zeros ∧ (privViolation a s).hvOver = s.hvOver ∧ (privViolation a s).gpios = s.gpios
    ∧ (privViolation a s).eths = s.eths ∧ (privViolation a s).syncAt = s.syncAt ∧ (privViolation a s).loopNext =
    s.loopNext ∧ (privViolation a s).rails = s.rails ∧ (privViolation a s).rmon = s.rmon ∧ (privViolation a
    s).thermals = s.thermals ∧ (privViolation a s).stopAtRun = s.stopAtRun ∧ (privViolation a s).nvBad = s.nvBad ∧
    (privViolation a s).logSeq = s.logSeq ∧ (privViolation a s).lanes = s.lanes ∧ (privViolation a s).rasters =
    s.rasters ∧ (privViolation a s).headLinks = s.headLinks ∧ (privViolation a s).bonds = s.bonds ∧ (privViolation a
    s).marks = s.marks ∧ (privViolation a s).calJobs = s.calJobs ∧ (privViolation a s).ages = s.ages ∧ (privViolation
    a s).linksFenced = s.linksFenced ∧ (privViolation a s).clkFails = s.clkFails ∧ (privViolation a s).strapsAt =
    s.strapsAt ∧ (privViolation a s).boot = s.boot ∧ (privViolation a s).taps = s.taps ∧ (privViolation a s).dogs =
    s.dogs ∧ (privViolation a s).pcieUp = s.pcieUp ∧ (privViolation a s).bootWaits = s.bootWaits ∧ (privViolation a
    s).encEdges = s.encEdges ∧ (privViolation a s).pending = s.pending :=
  have h : Touches 0x1004 s (privViolation a s) := privViolation_touches (Nat.and_self _) (Touches.refl _ _)
  ⟨h.part rfl, h.straps rfl, h.mem rfl, h.nv rfl, h.host rfl, h.flash rfl, h.now rfl, h.clocks rfl, h.master rfl,
    h.landed rfl, h.resp rfl, h.msgs rfl, h.freeSeq rfl, h.fenced rfl, h.unfPending rfl, h.safeStop rfl, h.errPulseEnd
    rfl, h.errAonHold rfl, h.releases rfl, h.domains rfl, h.txns rfl, h.xtxn rfl, h.lastFsnValid rfl, h.slots rfl,
    h.planes rfl, h.decls rfl, h.retained rfl, h.freed rfl, h.freedWait rfl, h.spoilLog rfl, h.spoils rfl, h.badBlocks
    rfl, h.memTrained rfl, h.dmas rfl, h.scrubs rfl, h.jobs rfl, h.jobNext rfl, h.jobEnded rfl, h.dlanes rfl,
    h.counters rfl, h.encoders rfl, h.cues rfl, h.startLists rfl, h.paths rfl, h.purges rfl, h.logBusy rfl, h.logWait
    rfl, h.focs rfl, h.buses rfl, h.steps rfl, h.ilkIn rfl, h.hokIn rfl, h.stations rfl, h.imagers rfl, h.loops rfl,
    h.cffs rfl, h.aregOut rfl, h.adcs rfl, h.heaters rfl, h.zeros rfl, h.hvOver rfl, h.gpios rfl, h.eths rfl, h.syncAt
    rfl, h.loopNext rfl, h.rails rfl, h.rmon rfl, h.thermals rfl, h.stopAtRun rfl, h.nvBad rfl, h.logSeq rfl, h.lanes
    rfl, h.rasters rfl, h.headLinks rfl, h.bonds rfl, h.marks rfl, h.calJobs rfl, h.ages rfl, h.linksFenced rfl,
    h.clkFails rfl, h.strapsAt rfl, h.boot rfl, h.taps rfl, h.dogs rfl, h.pcieUp rfl, h.bootWaits rfl, h.encEdges rfl,
    h.pending rfl⟩

@[simp] theorem logTrigger_fields (c i : Nat) (s : State) : (logTrigger c i s).part = s.part ∧ (logTrigger c i
    s).straps = s.straps ∧ (logTrigger c i s).mem = s.mem ∧ (logTrigger c i s).nv = s.nv ∧ (logTrigger c i s).host =
    s.host ∧ (logTrigger c i s).flash = s.flash ∧ (logTrigger c i s).now = s.now ∧ (logTrigger c i s).clocks =
    s.clocks ∧ (logTrigger c i s).master = s.master ∧ (logTrigger c i s).landed = s.landed ∧ (logTrigger c i s).resp =
    s.resp ∧ (logTrigger c i s).sent = s.sent ∧ (logTrigger c i s).msgs = s.msgs ∧ (logTrigger c i s).freeSeq =
    s.freeSeq ∧ (logTrigger c i s).fenced = s.fenced ∧ (logTrigger c i s).unfPending = s.unfPending ∧ (logTrigger c i
    s).safeStop = s.safeStop ∧ (logTrigger c i s).errPulseEnd = s.errPulseEnd ∧ (logTrigger c i s).errAonHold =
    s.errAonHold ∧ (logTrigger c i s).releases = s.releases ∧ (logTrigger c i s).domains = s.domains ∧ (logTrigger c i
    s).txns = s.txns ∧ (logTrigger c i s).xtxn = s.xtxn ∧ (logTrigger c i s).lastFsnValid = s.lastFsnValid ∧
    (logTrigger c i s).slots = s.slots ∧ (logTrigger c i s).planes = s.planes ∧ (logTrigger c i s).decls = s.decls ∧
    (logTrigger c i s).retained = s.retained ∧ (logTrigger c i s).freed = s.freed ∧ (logTrigger c i s).freedWait =
    s.freedWait ∧ (logTrigger c i s).spoilLog = s.spoilLog ∧ (logTrigger c i s).spoils = s.spoils ∧ (logTrigger c i
    s).badBlocks = s.badBlocks ∧ (logTrigger c i s).memTrained = s.memTrained ∧ (logTrigger c i s).dmas = s.dmas ∧
    (logTrigger c i s).scrubs = s.scrubs ∧ (logTrigger c i s).jobs = s.jobs ∧ (logTrigger c i s).jobNext = s.jobNext ∧
    (logTrigger c i s).jobEnded = s.jobEnded ∧ (logTrigger c i s).dlanes = s.dlanes ∧ (logTrigger c i s).counters =
    s.counters ∧ (logTrigger c i s).encoders = s.encoders ∧ (logTrigger c i s).cues = s.cues ∧ (logTrigger c i
    s).startLists = s.startLists ∧ (logTrigger c i s).paths = s.paths ∧ (logTrigger c i s).purges = s.purges ∧
    (logTrigger c i s).focs = s.focs ∧ (logTrigger c i s).buses = s.buses ∧ (logTrigger c i s).steps = s.steps ∧
    (logTrigger c i s).ilkIn = s.ilkIn ∧ (logTrigger c i s).hokIn = s.hokIn ∧ (logTrigger c i s).stations = s.stations
    ∧ (logTrigger c i s).imagers = s.imagers ∧ (logTrigger c i s).loops = s.loops ∧ (logTrigger c i s).cffs = s.cffs ∧
    (logTrigger c i s).aregOut = s.aregOut ∧ (logTrigger c i s).adcs = s.adcs ∧ (logTrigger c i s).heaters = s.heaters
    ∧ (logTrigger c i s).zeros = s.zeros ∧ (logTrigger c i s).hvOver = s.hvOver ∧ (logTrigger c i s).gpios = s.gpios ∧
    (logTrigger c i s).eths = s.eths ∧ (logTrigger c i s).syncAt = s.syncAt ∧ (logTrigger c i s).loopNext = s.loopNext
    ∧ (logTrigger c i s).rails = s.rails ∧ (logTrigger c i s).rmon = s.rmon ∧ (logTrigger c i s).thermals = s.thermals
    ∧ (logTrigger c i s).stopAtRun = s.stopAtRun ∧ (logTrigger c i s).nvBad = s.nvBad ∧ (logTrigger c i s).logSeq =
    s.logSeq ∧ (logTrigger c i s).lanes = s.lanes ∧ (logTrigger c i s).rasters = s.rasters ∧ (logTrigger c i
    s).headLinks = s.headLinks ∧ (logTrigger c i s).bonds = s.bonds ∧ (logTrigger c i s).marks = s.marks ∧ (logTrigger
    c i s).calJobs = s.calJobs ∧ (logTrigger c i s).ages = s.ages ∧ (logTrigger c i s).linksFenced = s.linksFenced ∧
    (logTrigger c i s).clkFails = s.clkFails ∧ (logTrigger c i s).strapsAt = s.strapsAt ∧ (logTrigger c i s).boot =
    s.boot ∧ (logTrigger c i s).taps = s.taps ∧ (logTrigger c i s).dogs = s.dogs ∧ (logTrigger c i s).pcieUp =
    s.pcieUp ∧ (logTrigger c i s).bootWaits = s.bootWaits ∧ (logTrigger c i s).encEdges = s.encEdges ∧ (logTrigger c i
    s).pending = s.pending :=
  have h : Touches 0x1800000000004 s (logTrigger c i s) := logTrigger_touches (Nat.and_self _) (Touches.refl _ _)
  ⟨h.part rfl, h.straps rfl, h.mem rfl, h.nv rfl, h.host rfl, h.flash rfl, h.now rfl, h.clocks rfl, h.master rfl,
    h.landed rfl, h.resp rfl, h.sent rfl, h.msgs rfl, h.freeSeq rfl, h.fenced rfl, h.unfPending rfl, h.safeStop rfl,
    h.errPulseEnd rfl, h.errAonHold rfl, h.releases rfl, h.domains rfl, h.txns rfl, h.xtxn rfl, h.lastFsnValid rfl,
    h.slots rfl, h.planes rfl, h.decls rfl, h.retained rfl, h.freed rfl, h.freedWait rfl, h.spoilLog rfl, h.spoils
    rfl, h.badBlocks rfl, h.memTrained rfl, h.dmas rfl, h.scrubs rfl, h.jobs rfl, h.jobNext rfl, h.jobEnded rfl,
    h.dlanes rfl, h.counters rfl, h.encoders rfl, h.cues rfl, h.startLists rfl, h.paths rfl, h.purges rfl, h.focs rfl,
    h.buses rfl, h.steps rfl, h.ilkIn rfl, h.hokIn rfl, h.stations rfl, h.imagers rfl, h.loops rfl, h.cffs rfl,
    h.aregOut rfl, h.adcs rfl, h.heaters rfl, h.zeros rfl, h.hvOver rfl, h.gpios rfl, h.eths rfl, h.syncAt rfl,
    h.loopNext rfl, h.rails rfl, h.rmon rfl, h.thermals rfl, h.stopAtRun rfl, h.nvBad rfl, h.logSeq rfl, h.lanes rfl,
    h.rasters rfl, h.headLinks rfl, h.bonds rfl, h.marks rfl, h.calJobs rfl, h.ages rfl, h.linksFenced rfl, h.clkFails
    rfl, h.strapsAt rfl, h.boot rfl, h.taps rfl, h.dogs rfl, h.pcieUp rfl, h.bootWaits rfl, h.encEdges rfl, h.pending
    rfl⟩

@[simp] theorem recordFault_fields (d p src : Nat) (forced : Bool) (s : State) : (recordFault d p src forced s).part =
    s.part ∧ (recordFault d p src forced s).straps = s.straps ∧ (recordFault d p src forced s).mem = s.mem ∧
    (recordFault d p src forced s).nv = s.nv ∧ (recordFault d p src forced s).host = s.host ∧ (recordFault d p src
    forced s).flash = s.flash ∧ (recordFault d p src forced s).now = s.now ∧ (recordFault d p src forced s).clocks =
    s.clocks ∧ (recordFault d p src forced s).master = s.master ∧ (recordFault d p src forced s).landed = s.landed ∧
    (recordFault d p src forced s).resp = s.resp ∧ (recordFault d p src forced s).msgs = s.msgs ∧ (recordFault d p src
    forced s).freeSeq = s.freeSeq ∧ (recordFault d p src forced s).fenced = s.fenced ∧ (recordFault d p src forced
    s).unfPending = s.unfPending ∧ (recordFault d p src forced s).safeStop = s.safeStop ∧ (recordFault d p src forced
    s).errAonHold = s.errAonHold ∧ (recordFault d p src forced s).releases = s.releases ∧ (recordFault d p src forced
    s).domains = s.domains ∧ (recordFault d p src forced s).txns = s.txns ∧ (recordFault d p src forced s).xtxn =
    s.xtxn ∧ (recordFault d p src forced s).lastFsnValid = s.lastFsnValid ∧ (recordFault d p src forced s).slots =
    s.slots ∧ (recordFault d p src forced s).planes = s.planes ∧ (recordFault d p src forced s).decls = s.decls ∧
    (recordFault d p src forced s).retained = s.retained ∧ (recordFault d p src forced s).freed = s.freed ∧
    (recordFault d p src forced s).freedWait = s.freedWait ∧ (recordFault d p src forced s).spoilLog = s.spoilLog ∧
    (recordFault d p src forced s).spoils = s.spoils ∧ (recordFault d p src forced s).badBlocks = s.badBlocks ∧
    (recordFault d p src forced s).memTrained = s.memTrained ∧ (recordFault d p src forced s).dmas = s.dmas ∧
    (recordFault d p src forced s).scrubs = s.scrubs ∧ (recordFault d p src forced s).jobs = s.jobs ∧ (recordFault d p
    src forced s).jobNext = s.jobNext ∧ (recordFault d p src forced s).jobEnded = s.jobEnded ∧ (recordFault d p src
    forced s).dlanes = s.dlanes ∧ (recordFault d p src forced s).counters = s.counters ∧ (recordFault d p src forced
    s).encoders = s.encoders ∧ (recordFault d p src forced s).cues = s.cues ∧ (recordFault d p src forced
    s).startLists = s.startLists ∧ (recordFault d p src forced s).paths = s.paths ∧ (recordFault d p src forced
    s).purges = s.purges ∧ (recordFault d p src forced s).focs = s.focs ∧ (recordFault d p src forced s).buses =
    s.buses ∧ (recordFault d p src forced s).steps = s.steps ∧ (recordFault d p src forced s).ilkIn = s.ilkIn ∧
    (recordFault d p src forced s).hokIn = s.hokIn ∧ (recordFault d p src forced s).stations = s.stations ∧
    (recordFault d p src forced s).imagers = s.imagers ∧ (recordFault d p src forced s).loops = s.loops ∧ (recordFault
    d p src forced s).cffs = s.cffs ∧ (recordFault d p src forced s).aregOut = s.aregOut ∧ (recordFault d p src forced
    s).adcs = s.adcs ∧ (recordFault d p src forced s).heaters = s.heaters ∧ (recordFault d p src forced s).zeros =
    s.zeros ∧ (recordFault d p src forced s).hvOver = s.hvOver ∧ (recordFault d p src forced s).gpios = s.gpios ∧
    (recordFault d p src forced s).eths = s.eths ∧ (recordFault d p src forced s).syncAt = s.syncAt ∧ (recordFault d p
    src forced s).loopNext = s.loopNext ∧ (recordFault d p src forced s).rails = s.rails ∧ (recordFault d p src forced
    s).rmon = s.rmon ∧ (recordFault d p src forced s).thermals = s.thermals ∧ (recordFault d p src forced s).stopAtRun
    = s.stopAtRun ∧ (recordFault d p src forced s).nvBad = s.nvBad ∧ (recordFault d p src forced s).logSeq = s.logSeq
    ∧ (recordFault d p src forced s).lanes = s.lanes ∧ (recordFault d p src forced s).rasters = s.rasters ∧
    (recordFault d p src forced s).headLinks = s.headLinks ∧ (recordFault d p src forced s).bonds = s.bonds ∧
    (recordFault d p src forced s).marks = s.marks ∧ (recordFault d p src forced s).calJobs = s.calJobs ∧ (recordFault
    d p src forced s).ages = s.ages ∧ (recordFault d p src forced s).linksFenced = s.linksFenced ∧ (recordFault d p
    src forced s).clkFails = s.clkFails ∧ (recordFault d p src forced s).strapsAt = s.strapsAt ∧ (recordFault d p src
    forced s).boot = s.boot ∧ (recordFault d p src forced s).taps = s.taps ∧ (recordFault d p src forced s).dogs =
    s.dogs ∧ (recordFault d p src forced s).pcieUp = s.pcieUp ∧ (recordFault d p src forced s).bootWaits = s.bootWaits
    ∧ (recordFault d p src forced s).encEdges = s.encEdges ∧ (recordFault d p src forced s).pending = s.pending :=
  have h : Touches 0x1800000041004 s (recordFault d p src forced s) := recordFault_touches (Nat.and_self _) (Touches.refl _ _)
  ⟨h.part rfl, h.straps rfl, h.mem rfl, h.nv rfl, h.host rfl, h.flash rfl, h.now rfl, h.clocks rfl, h.master rfl,
    h.landed rfl, h.resp rfl, h.msgs rfl, h.freeSeq rfl, h.fenced rfl, h.unfPending rfl, h.safeStop rfl, h.errAonHold
    rfl, h.releases rfl, h.domains rfl, h.txns rfl, h.xtxn rfl, h.lastFsnValid rfl, h.slots rfl, h.planes rfl, h.decls
    rfl, h.retained rfl, h.freed rfl, h.freedWait rfl, h.spoilLog rfl, h.spoils rfl, h.badBlocks rfl, h.memTrained
    rfl, h.dmas rfl, h.scrubs rfl, h.jobs rfl, h.jobNext rfl, h.jobEnded rfl, h.dlanes rfl, h.counters rfl, h.encoders
    rfl, h.cues rfl, h.startLists rfl, h.paths rfl, h.purges rfl, h.focs rfl, h.buses rfl, h.steps rfl, h.ilkIn rfl,
    h.hokIn rfl, h.stations rfl, h.imagers rfl, h.loops rfl, h.cffs rfl, h.aregOut rfl, h.adcs rfl, h.heaters rfl,
    h.zeros rfl, h.hvOver rfl, h.gpios rfl, h.eths rfl, h.syncAt rfl, h.loopNext rfl, h.rails rfl, h.rmon rfl,
    h.thermals rfl, h.stopAtRun rfl, h.nvBad rfl, h.logSeq rfl, h.lanes rfl, h.rasters rfl, h.headLinks rfl, h.bonds
    rfl, h.marks rfl, h.calJobs rfl, h.ages rfl, h.linksFenced rfl, h.clkFails rfl, h.strapsAt rfl, h.boot rfl, h.taps
    rfl, h.dogs rfl, h.pcieUp rfl, h.bootWaits rfl, h.encEdges rfl, h.pending rfl⟩

@[simp] theorem landWrite_fields (rq : Requester) (d : Nat) (s : State) : (landWrite rq d s).part = s.part ∧
    (landWrite rq d s).straps = s.straps ∧ (landWrite rq d s).regs = s.regs ∧ (landWrite rq d s).mem = s.mem ∧
    (landWrite rq d s).nv = s.nv ∧ (landWrite rq d s).host = s.host ∧ (landWrite rq d s).flash = s.flash ∧ (landWrite
    rq d s).now = s.now ∧ (landWrite rq d s).clocks = s.clocks ∧ (landWrite rq d s).master = s.master ∧ (landWrite rq
    d s).resp = s.resp ∧ (landWrite rq d s).sent = s.sent ∧ (landWrite rq d s).msgs = s.msgs ∧ (landWrite rq d
    s).freeSeq = s.freeSeq ∧ (landWrite rq d s).fenced = s.fenced ∧ (landWrite rq d s).unfPending = s.unfPending ∧
    (landWrite rq d s).safeStop = s.safeStop ∧ (landWrite rq d s).errPulseEnd = s.errPulseEnd ∧ (landWrite rq d
    s).errAonHold = s.errAonHold ∧ (landWrite rq d s).releases = s.releases ∧ (landWrite rq d s).domains = s.domains ∧
    (landWrite rq d s).txns = s.txns ∧ (landWrite rq d s).xtxn = s.xtxn ∧ (landWrite rq d s).lastFsnValid =
    s.lastFsnValid ∧ (landWrite rq d s).slots = s.slots ∧ (landWrite rq d s).planes = s.planes ∧ (landWrite rq d
    s).decls = s.decls ∧ (landWrite rq d s).retained = s.retained ∧ (landWrite rq d s).freed = s.freed ∧ (landWrite rq
    d s).freedWait = s.freedWait ∧ (landWrite rq d s).spoilLog = s.spoilLog ∧ (landWrite rq d s).spoils = s.spoils ∧
    (landWrite rq d s).badBlocks = s.badBlocks ∧ (landWrite rq d s).memTrained = s.memTrained ∧ (landWrite rq d
    s).dmas = s.dmas ∧ (landWrite rq d s).scrubs = s.scrubs ∧ (landWrite rq d s).jobs = s.jobs ∧ (landWrite rq d
    s).jobNext = s.jobNext ∧ (landWrite rq d s).jobEnded = s.jobEnded ∧ (landWrite rq d s).dlanes = s.dlanes ∧
    (landWrite rq d s).counters = s.counters ∧ (landWrite rq d s).encoders = s.encoders ∧ (landWrite rq d s).cues =
    s.cues ∧ (landWrite rq d s).startLists = s.startLists ∧ (landWrite rq d s).paths = s.paths ∧ (landWrite rq d
    s).purges = s.purges ∧ (landWrite rq d s).logBusy = s.logBusy ∧ (landWrite rq d s).logWait = s.logWait ∧
    (landWrite rq d s).focs = s.focs ∧ (landWrite rq d s).buses = s.buses ∧ (landWrite rq d s).steps = s.steps ∧
    (landWrite rq d s).ilkIn = s.ilkIn ∧ (landWrite rq d s).hokIn = s.hokIn ∧ (landWrite rq d s).stations = s.stations
    ∧ (landWrite rq d s).imagers = s.imagers ∧ (landWrite rq d s).loops = s.loops ∧ (landWrite rq d s).cffs = s.cffs ∧
    (landWrite rq d s).aregOut = s.aregOut ∧ (landWrite rq d s).adcs = s.adcs ∧ (landWrite rq d s).heaters = s.heaters
    ∧ (landWrite rq d s).zeros = s.zeros ∧ (landWrite rq d s).hvOver = s.hvOver ∧ (landWrite rq d s).gpios = s.gpios ∧
    (landWrite rq d s).eths = s.eths ∧ (landWrite rq d s).syncAt = s.syncAt ∧ (landWrite rq d s).loopNext = s.loopNext
    ∧ (landWrite rq d s).rails = s.rails ∧ (landWrite rq d s).rmon = s.rmon ∧ (landWrite rq d s).thermals = s.thermals
    ∧ (landWrite rq d s).stopAtRun = s.stopAtRun ∧ (landWrite rq d s).nvBad = s.nvBad ∧ (landWrite rq d s).logSeq =
    s.logSeq ∧ (landWrite rq d s).lanes = s.lanes ∧ (landWrite rq d s).rasters = s.rasters ∧ (landWrite rq d
    s).headLinks = s.headLinks ∧ (landWrite rq d s).bonds = s.bonds ∧ (landWrite rq d s).marks = s.marks ∧ (landWrite
    rq d s).calJobs = s.calJobs ∧ (landWrite rq d s).ages = s.ages ∧ (landWrite rq d s).linksFenced = s.linksFenced ∧
    (landWrite rq d s).clkFails = s.clkFails ∧ (landWrite rq d s).strapsAt = s.strapsAt ∧ (landWrite rq d s).boot =
    s.boot ∧ (landWrite rq d s).taps = s.taps ∧ (landWrite rq d s).dogs = s.dogs ∧ (landWrite rq d s).pcieUp =
    s.pcieUp ∧ (landWrite rq d s).bootWaits = s.bootWaits ∧ (landWrite rq d s).encEdges = s.encEdges ∧ (landWrite rq d
    s).pending = s.pending :=
  ⟨rfl, rfl, rfl, rfl, rfl, rfl, rfl, rfl, rfl, rfl, rfl, rfl, rfl, rfl, rfl, rfl, rfl, rfl, rfl, rfl, rfl, rfl, rfl,
    rfl, rfl, rfl, rfl, rfl, rfl, rfl, rfl, rfl, rfl, rfl, rfl, rfl, rfl, rfl, rfl, rfl, rfl, rfl, rfl, rfl, rfl, rfl,
    rfl, rfl, rfl, rfl, rfl, rfl, rfl, rfl, rfl, rfl, rfl, rfl, rfl, rfl, rfl, rfl, rfl, rfl, rfl, rfl, rfl, rfl, rfl,
    rfl, rfl, rfl, rfl, rfl, rfl, rfl, rfl, rfl, rfl, rfl, rfl, rfl, rfl, rfl, rfl, rfl, rfl, rfl, rfl⟩

@[simp] theorem word_landWrite (a : Nat) (rq : Requester) (d : Nat) (s : State) : word a (landWrite rq d s) = word a s := rfl

@[simp] theorem rd_landWrite (l : Loc) (rq : Requester) (d : Nat) (s : State) : rd l (landWrite rq d s) = rd l s := rfl

@[simp] theorem flag_landWrite (l : Loc) (rq : Requester) (d : Nat) (s : State) : flag l (landWrite rq d s) = flag l s := rfl

@[simp] theorem store_fields (w : RegWrite) (s : State) : (w.store s).part = s.part ∧ (w.store s).straps = s.straps ∧
    (w.store s).mem = s.mem ∧ (w.store s).nv = s.nv ∧ (w.store s).host = s.host ∧ (w.store s).flash = s.flash ∧
    (w.store s).now = s.now ∧ (w.store s).clocks = s.clocks ∧ (w.store s).master = s.master ∧ (w.store s).landed =
    s.landed ∧ (w.store s).resp = s.resp ∧ (w.store s).sent = s.sent ∧ (w.store s).msgs = s.msgs ∧ (w.store s).freeSeq
    = s.freeSeq ∧ (w.store s).fenced = s.fenced ∧ (w.store s).unfPending = s.unfPending ∧ (w.store s).safeStop =
    s.safeStop ∧ (w.store s).errPulseEnd = s.errPulseEnd ∧ (w.store s).errAonHold = s.errAonHold ∧ (w.store
    s).releases = s.releases ∧ (w.store s).domains = s.domains ∧ (w.store s).txns = s.txns ∧ (w.store s).xtxn = s.xtxn
    ∧ (w.store s).lastFsnValid = s.lastFsnValid ∧ (w.store s).slots = s.slots ∧ (w.store s).planes = s.planes ∧
    (w.store s).decls = s.decls ∧ (w.store s).retained = s.retained ∧ (w.store s).freed = s.freed ∧ (w.store
    s).freedWait = s.freedWait ∧ (w.store s).spoilLog = s.spoilLog ∧ (w.store s).spoils = s.spoils ∧ (w.store
    s).badBlocks = s.badBlocks ∧ (w.store s).memTrained = s.memTrained ∧ (w.store s).dmas = s.dmas ∧ (w.store
    s).scrubs = s.scrubs ∧ (w.store s).jobs = s.jobs ∧ (w.store s).jobNext = s.jobNext ∧ (w.store s).jobEnded =
    s.jobEnded ∧ (w.store s).dlanes = s.dlanes ∧ (w.store s).counters = s.counters ∧ (w.store s).encoders = s.encoders
    ∧ (w.store s).cues = s.cues ∧ (w.store s).startLists = s.startLists ∧ (w.store s).paths = s.paths ∧ (w.store
    s).purges = s.purges ∧ (w.store s).logBusy = s.logBusy ∧ (w.store s).logWait = s.logWait ∧ (w.store s).focs =
    s.focs ∧ (w.store s).buses = s.buses ∧ (w.store s).steps = s.steps ∧ (w.store s).ilkIn = s.ilkIn ∧ (w.store
    s).hokIn = s.hokIn ∧ (w.store s).stations = s.stations ∧ (w.store s).imagers = s.imagers ∧ (w.store s).loops =
    s.loops ∧ (w.store s).cffs = s.cffs ∧ (w.store s).aregOut = s.aregOut ∧ (w.store s).adcs = s.adcs ∧ (w.store
    s).heaters = s.heaters ∧ (w.store s).zeros = s.zeros ∧ (w.store s).hvOver = s.hvOver ∧ (w.store s).gpios = s.gpios
    ∧ (w.store s).eths = s.eths ∧ (w.store s).syncAt = s.syncAt ∧ (w.store s).loopNext = s.loopNext ∧ (w.store
    s).rails = s.rails ∧ (w.store s).rmon = s.rmon ∧ (w.store s).thermals = s.thermals ∧ (w.store s).stopAtRun =
    s.stopAtRun ∧ (w.store s).nvBad = s.nvBad ∧ (w.store s).logSeq = s.logSeq ∧ (w.store s).lanes = s.lanes ∧ (w.store
    s).rasters = s.rasters ∧ (w.store s).headLinks = s.headLinks ∧ (w.store s).bonds = s.bonds ∧ (w.store s).marks =
    s.marks ∧ (w.store s).calJobs = s.calJobs ∧ (w.store s).ages = s.ages ∧ (w.store s).linksFenced = s.linksFenced ∧
    (w.store s).clkFails = s.clkFails ∧ (w.store s).strapsAt = s.strapsAt ∧ (w.store s).boot = s.boot ∧ (w.store
    s).taps = s.taps ∧ (w.store s).dogs = s.dogs ∧ (w.store s).pcieUp = s.pcieUp ∧ (w.store s).bootWaits = s.bootWaits
    ∧ (w.store s).encEdges = s.encEdges ∧ (w.store s).pending = s.pending := by
  unfold RegWrite.store; exact putWord_fields _ _ _

/-! ### Words of a block -/

/-- `a` is a register word beyond the header of a page other than DIE, CTRL and NVS, or one of the header's first four
words, PAGE_CTL among them. -/
def BlockWord (a : Nat) : Prop :=
  ∃ d p o, a = Layout.addr d p o ∧ p < 256 ∧ o < 0x1000 ∧ (o < 0x10 ∨ p ≠ 0 ∧ p ≠ 1 ∧ p ≠ 0x15 ∧ 0x40 ≤ o)

theorem blockWord_addr {d p o : Nat} (hp : p < 256) (ho : o < 0x1000)
    (h : o < 0x10 ∨ p ≠ 0 ∧ p ≠ 1 ∧ p ≠ 0x15 ∧ 0x40 ≤ o) : BlockWord (Layout.addr d p o) := ⟨d, p, o, rfl, hp, ho, h⟩

theorem addr_inj {d p o d' p' o' : Nat} (hp : p < 256) (ho : o < 0x1000) (hp' : p' < 256) (ho' : o' < 0x1000)
    (h : Layout.addr d p o = Layout.addr d' p' o') : d = d' ∧ p = p' ∧ o = o' := by
  unfold Layout.addr at h; omega

/-- Words of different offsets below 0x100 pages and 0x1000 bytes are different words. -/
theorem addr_ne {d p o d' p' o' : Nat} (hp : p < 256) (ho : o < 0x1000) (hp' : p' < 256) (ho' : o' < 0x1000)
    (h : d ≠ d' ∨ p ≠ p' ∨ o ≠ o') : Layout.addr d p o ≠ Layout.addr d' p' o' := by
  unfold Layout.addr; omega

theorem notPba_addr {d p o : Nat} (hp : p < 256) (ho : o < 0x1000) : NotPba (Layout.addr d p o) := by
  unfold NotPba Layout.addr
  rcases Nat.eq_zero_or_pos d with h | h
  · left; omega
  · right; omega

theorem BlockWord.notPba {a : Nat} (h : BlockWord a) : NotPba a := by
  obtain ⟨d, p, o, rfl, hp, ho, -⟩ := h; exact notPba_addr hp ho

theorem BlockWord.ne_header {a d p o : Nat} (h : BlockWord a) (hp : p < 256) (ho : 0x10 ≤ o ∧ o < 0x40) :
    a ≠ Layout.addr d p o := by
  obtain ⟨d', p', o', rfl, hp', ho', h1⟩ := h
  exact addr_ne hp' ho' hp (by omega) (by omega)

theorem BlockWord.ne_low {a d p o : Nat} (h : BlockWord a) (hp : p = 0 ∨ p = 1 ∨ p = 0x15) (ho : 0x10 ≤ o ∧ o < 0x1000) :
    a ≠ Layout.addr d p o := by
  obtain ⟨d', p', o', rfl, hp', ho', h1⟩ := h
  exact addr_ne hp' ho' (by omega) (by omega) (by omega)

theorem evt_block {a d p b : Nat} {s : State} (h : BlockWord a) (hp : p < 256) : word a (evt d p b s) = word a s :=
  word_evt_ne d p b s h.notPba (h.ne_header hp (by decide : 0x10 ≤ 0x10 ∧ 0x10 < 0x40))

theorem evtMask_block {a d p b : Nat} {s : State} (h : BlockWord a) (hp : p < 256) :
    word a (evtMask d p b s) = word a s :=
  word_evtMask_ne d p b s h.notPba (h.ne_header hp (by decide : 0x10 ≤ 0x10 ∧ 0x10 < 0x40))

theorem accErr_block {a k x : Nat} {w : Bool} {s : State} (h : BlockWord a) : word a (accErr k w x s) = word a s := by
  have h1 : a ≠ (R.CTRL.ACC_ERR_VALID 0).addr := h.ne_low (d := 0) (p := 1) (o := 0x4C) (by decide) (by decide)
  unfold accErr
  rw [evt_block h (by decide)]
  split
  · rfl
  · rw [word_putWord_ne _ _ h1]

theorem privViolation_block {a x : Nat} {s : State} (h : BlockWord a) : word a (privViolation x s) = word a s := by
  have h1 : a ≠ (R.CTRL.PRIV_COUNT_COUNT 0).addr := h.ne_low (d := 0) (p := 1) (o := 0x48) (by decide) (by decide)
  have h2 : a ≠ (R.CTRL.PRIV_ADDR_VALID 0).addr := h.ne_low (d := 0) (p := 1) (o := 0x44) (by decide) (by decide)
  unfold privViolation
  rw [evt_block h (by decide)]
  split
  · rw [word_bump_ne _ h1]
  · rw [word_putWord_ne _ _ h2, word_bump_ne _ h1]

theorem logTrigger_block {a c i : Nat} {s : State} (h : BlockWord a) : word a (logTrigger c i s) = word a s := by
  have h1 : ∃ o, (R.NVS.LOG_CNT_LOST 0).addr = Layout.addr 0 0x15 o ∧ 0x10 ≤ o ∧ o < 0x1000 := ⟨_, rfl, by decide⟩
  obtain ⟨o, e, ho⟩ := h1
  unfold logTrigger
  split
  · rfl
  · split
    · rfl
    · rw [word_bump_ne _ (by rw [e]; exact h.ne_low (by decide) ho)]

theorem fillRecords_block {a d p src cls esn : Nat} {s : State} (h : BlockWord a) (hp : p < 256) :
    word a (fillRecords d p src cls esn s) = word a s := by
  have h1 : a ≠ (R.HDR.FIRST_ERR1_STIME d p).addr := h.ne_header (d := d) (p := p) (o := 0x2C) hp (by decide)
  have h2 : a ≠ (R.HDR.FIRST_ERR0_VALID d p).addr := h.ne_header (d := d) (p := p) (o := 0x28) hp (by decide)
  have h3 : a ≠ (R.HDR.WORST_ERR1_STIME d p).addr := h.ne_header (d := d) (p := p) (o := 0x34) hp (by decide)
  have h4 : a ≠ (R.HDR.WORST_ERR0_VALID d p).addr := h.ne_header (d := d) (p := p) (o := 0x30) hp (by decide)
  unfold fillRecords
  split
  · rw [word_putWord_ne _ _ h1, word_putWord_ne _ _ h2]
  · split
    · rw [word_putWord_ne _ _ h3, word_putWord_ne _ _ h4]
    · rfl

theorem errPulse_block {a d p src cls esn : Nat} {forced : Bool} {s : State} (h : BlockWord a) :
    word a (errPulse d p src cls esn forced s) = word a s := by
  have h1 : a ≠ (R.CTRL.ERR_SRC1_ESN 0).addr := h.ne_low (d := 0) (p := 1) (o := 0x110) (by decide) (by decide)
  have h2 : a ≠ (R.CTRL.ERR_SRC0_DIE 0).addr := h.ne_low (d := 0) (p := 1) (o := 0x10C) (by decide) (by decide)
  have h3 : a ≠ (R.CTRL.ERR_STAT_PULSE 0).addr := h.ne_low (d := 0) (p := 1) (o := 0x108) (by decide) (by decide)
  have h4 : a ≠ (R.CTRL.ERR_STAT_PULSES 0).addr := h.ne_low (d := 0) (p := 1) (o := 0x108) (by decide) (by decide)
  unfold errPulse
  split
  · dsimp only
    rw [evt_block h (by decide), word_putWord_ne _ _ h1, word_putWord_ne _ _ h2, word_wr_ne _ _ h3, word_bump_ne _ h4]
    rfl
  · rfl

theorem recordFault_block {a d p src : Nat} {forced : Bool} {s : State} (h : BlockWord a) (hp : p < 256) :
    word a (recordFault d p src forced s) = word a s := by
  have h1 : a ≠ (R.HDR.ERR_COUNT_COUNT d p).addr := h.ne_header (d := d) (p := p) (o := 0x38) hp (by decide)
  have h2 : a ≠ (R.DIE.ESN_NOW_ESN d).addr := h.ne_low (d := d) (p := 0) (o := 0x100) (by decide) (by decide)
  have h3 : a ≠ (R.HDR.FLT_STAT_FLT d p).addr := h.ne_header (d := d) (p := p) (o := 0x1C) hp (by decide)
  unfold recordFault
  dsimp only
  split
  · rw [logTrigger_block h, errPulse_block h, fillRecords_block h hp, word_bump_ne _ h1, word_wr_ne _ _ h2,
      word_afterHeader _ _ _ _ _ h.notPba, word_putWord_ne _ _ h3]
  · rw [errPulse_block h, fillRecords_block h hp, word_bump_ne _ h1, word_wr_ne _ _ h2,
      word_afterHeader _ _ _ _ _ h.notPba, word_putWord_ne _ _ h3]

theorem rd_evt_block {l : Loc} {d p b : Nat} {s : State} (h : BlockWord l.addr) (hp : p < 256) :
    rd l (evt d p b s) = rd l s := by unfold rd; rw [evt_block h hp]

theorem rd_recordFault_block {l : Loc} {d p src : Nat} {forced : Bool} {s : State} (h : BlockWord l.addr) (hp : p < 256) :
    rd l (recordFault d p src forced s) = rd l s := by unfold rd; rw [recordFault_block h hp]

theorem rd_accErr_block {l : Loc} {k x : Nat} {w : Bool} {s : State} (h : BlockWord l.addr) :
    rd l (accErr k w x s) = rd l s := by unfold rd; rw [accErr_block h]

theorem rd_privViolation_block {l : Loc} {x : Nat} {s : State} (h : BlockWord l.addr) :
    rd l (privViolation x s) = rd l s := by unfold rd; rw [privViolation_block h]

end Sys2Proof.Machine
end

