-- ==== Sys2Proof/Laws/Commands.lean ====
section
/-! SUPPORT. What the commands that name one register do when their write gets through: each is the operation that its block
performs, on the state in which the write is counted as landed. -/

namespace Sys2Proof.Machine

theorem RegWrite.of_o (a : Access) (d p o : Nat) (v : Word) : (RegWrite.of a d p o v).o = o := rfl
theorem RegWrite.of_d (a : Access) (d p o : Nat) (v : Word) : (RegWrite.of a d p o v).d = d := rfl
theorem RegWrite.of_p (a : Access) (d p o : Nat) (v : Word) : (RegWrite.of a d p o v).p = p := rfl
theorem RegWrite.of_v (a : Access) (d p o : Nat) (v : Word) : (RegWrite.of a d p o v).v = v.toNat := rfl
theorem RegWrite.of_e (a : Access) (d p o : Nat) (v : Word) : (RegWrite.of a d p o v).e = v.toNat := rfl
theorem RegWrite.of_rq (a : Access) (d p o : Nat) (v : Word) : (RegWrite.of a d p o v).rq = a.rq := rfl
theorem RegWrite.of_bar2 (a : Access) (d p o : Nat) (v : Word) : (RegWrite.of a d p o v).bar2 = a.bar2 := rfl
theorem RegWrite.of_at (a : Access) (d p o : Nat) (v : Word) : (RegWrite.of a d p o v).at = Layout.addr d p o := rfl

theorem commandWrite_reaches {ok : Bool} {a : Access} {d p o : Nat} {v : Word} {s : State} (h : Reaches a d p o s)
    (hok : ok = true) (hp : p < 256) (hlo : 0x40 ≤ o) (ho : o < 0x1000) (h4 : o % 4 = 0)
    (hr : (regAt d (p * 0x1000 + o)).isSome = true) :
    commandWrite ok a (Layout.addr d p o) v s = .next (blockWrite (RegWrite.of a d p o v) (landWrite a.rq d s)) := by
  obtain ⟨r, hr'⟩ := Option.isSome_iff_exists.mp hr
  unfold commandWrite
  rw [hok, if_pos rfl, regWrite_reaches h hp ho h4 hr', if_neg (by omega)]
  unfold RegWrite.of
  rw [hr', Option.getD_some]

/-! ### The pages of several instances -/

theorem pageKind_txn {i : Nat} (h : i < 8) : Layout.pageKind (2 + i) = some (.txnP, i) := by interval_cases i <;> rfl
theorem pageKind_lane {n : Nat} (h : n < 12) : Layout.pageKind (lanePage n) = some (.laneP, n) := by
  interval_cases n <;> rfl
theorem pageKind_sta {l : Nat} (h : l < 2) : Layout.pageKind (staPage l) = some (.staP, l) := by interval_cases l <;> rfl
theorem pageKind_stim {l : Nat} (h : l < 2) : Layout.pageKind (stimPage l) = some (.stimP, l) := by
  interval_cases l <;> rfl
theorem pageKind_shl {l : Nat} (h : l < 2) : Layout.pageKind (shlPage l) = some (.shlP, l) := by interval_cases l <;> rfl
theorem pageKind_sprot {l : Nat} (h : l < 2) : Layout.pageKind (sprotPage l) = some (.sprotP, l) := by
  interval_cases l <;> rfl

theorem regAt_txn {d i : Nat} (h : i < 8) : (regAt d ((2 + i) * 0x1000 + 0x40)).isSome = true := by
  interval_cases i <;> rfl
theorem regAt_lane {d n : Nat} (h : n < 12) : (regAt d (lanePage n * 0x1000 + 0x44)).isSome = true := by
  interval_cases n <;> rfl
theorem regAt_shl {d l o : Nat} (h : l < 2) (ho : o ∈ [0x70, 0x78]) : (regAt d (shlPage l * 0x1000 + o)).isSome = true := by
  simp only [List.mem_cons, List.not_mem_nil, or_false] at ho
  rcases ho with rfl | rfl <;> interval_cases l <;> rfl
theorem regAt_sprot {d l : Nat} (h : l < 2) : (regAt d (sprotPage l * 0x1000 + 0x40)).isSome = true := by
  interval_cases l <;> rfl

/-! ### A write of a block register, by the kind of its page -/

theorem blockWrite_frame {w : RegWrite} (h : Layout.pageKind w.p = some (.frameP, 0)) (s : State) :
    blockWrite w s = frameWrite w s := by
  unfold blockWrite; rw [h]

theorem blockWrite_codec {w : RegWrite} (h : Layout.pageKind w.p = some (.codecP, 0)) (s : State) :
    blockWrite w s = codecWrite w s := by
  unfold blockWrite; rw [h]

theorem blockWrite_rlnk {w : RegWrite} (h : Layout.pageKind w.p = some (.rlnkP, 0)) (s : State) :
    blockWrite w s = rlnkWrite w s := by
  unfold blockWrite; rw [h]

theorem blockWrite_pio {w : RegWrite} (h : Layout.pageKind w.p = some (.pioP, 0)) (s : State) :
    blockWrite w s = pioWrite w s := by
  unfold blockWrite; rw [h]

theorem blockWrite_cue {w : RegWrite} (h : Layout.pageKind w.p = some (.cueP, 0)) (s : State) :
    blockWrite w s = cueWrite w s := by
  unfold blockWrite; rw [h]

theorem blockWrite_step {w : RegWrite} (h : Layout.pageKind w.p = some (.stepP, 0)) (s : State) :
    blockWrite w s = stepWrite w s := by
  unfold blockWrite; rw [h]

theorem blockWrite_foc {w : RegWrite} (h : Layout.pageKind w.p = some (.focP, 0)) (s : State) :
    blockWrite w s = focWrite w s := by
  unfold blockWrite; rw [h]

theorem blockWrite_bus {w : RegWrite} (h : Layout.pageKind w.p = some (.busP, 0)) (s : State) :
    blockWrite w s = busWrite w s := by
  unfold blockWrite; rw [h]

theorem blockWrite_loop {w : RegWrite} (h : Layout.pageKind w.p = some (.loopP, 0)) (s : State) :
    blockWrite w s = loopWrite w s := by
  unfold blockWrite; rw [h]

theorem blockWrite_gpio {w : RegWrite} (h : Layout.pageKind w.p = some (.gpioP, 0)) (s : State) :
    blockWrite w s = gpioRegWrite w s := by
  unfold blockWrite; rw [h]

theorem blockWrite_elnk {w : RegWrite} (h : Layout.pageKind w.p = some (.elnkP, 0)) (s : State) :
    blockWrite w s = elnkWrite w s := by
  unfold blockWrite; rw [h]

theorem blockWrite_time {w : RegWrite} (h : Layout.pageKind w.p = some (.timeP, 0)) (s : State) :
    blockWrite w s = timeWrite w s := by
  unfold blockWrite; rw [h]

theorem blockWrite_memc {w : RegWrite} (h : Layout.pageKind w.p = some (.memcP, 0)) (s : State) :
    blockWrite w s = memcWrite w s := by
  unfold blockWrite; rw [h]

theorem blockWrite_dma {w : RegWrite} (h : Layout.pageKind w.p = some (.dmaP, 0)) (s : State) :
    blockWrite w s = dmaWrite w s := by
  unfold blockWrite; rw [h]

theorem blockWrite_seq {w : RegWrite} (h : Layout.pageKind w.p = some (.seqP, 0)) (s : State) :
    blockWrite w s = seqWrite w s := by
  unfold blockWrite; rw [h]

theorem blockWrite_nvs {w : RegWrite} (h : Layout.pageKind w.p = some (.nvsP, 0)) (s : State) :
    blockWrite w s = nvsWrite w s := by
  unfold blockWrite; rw [h]

theorem blockWrite_rst {w : RegWrite} (h : Layout.pageKind w.p = some (.rstP, 0)) (s : State) :
    blockWrite w s = rstWrite w s := by
  unfold blockWrite; rw [h]

theorem blockWrite_ctrl {w : RegWrite} (h : Layout.pageKind w.p = some (.ctrlP, 0)) (s : State) :
    blockWrite w s = ctrlWrite w s := by
  unfold blockWrite; rw [h]

theorem blockWrite_txn {w : RegWrite} {n : Nat} (h : Layout.pageKind w.p = some (.txnP, n)) (s : State) :
    blockWrite w s = txnWrite w n s := by
  unfold blockWrite; rw [h]

theorem blockWrite_lane {w : RegWrite} {n : Nat} (h : Layout.pageKind w.p = some (.laneP, n)) (s : State) :
    blockWrite w s = laneWrite w n s := by
  unfold blockWrite; rw [h]

theorem blockWrite_shl {w : RegWrite} {n : Nat} (h : Layout.pageKind w.p = some (.shlP, n)) (s : State) :
    blockWrite w s = shlWrite w n s := by
  unfold blockWrite; rw [h]

theorem blockWrite_sprot {w : RegWrite} {n : Nat} (h : Layout.pageKind w.p = some (.sprotP, n)) (s : State) :
    blockWrite w s = sprotWrite w n s := by
  unfold blockWrite; rw [h]

theorem blockWrite_sta {w : RegWrite} {n : Nat} (h : Layout.pageKind w.p = some (.staP, n)) (s : State) :
    blockWrite w s = staWrite w n s := by
  unfold blockWrite; rw [h]

theorem blockWrite_stim {w : RegWrite} {n : Nat} (h : Layout.pageKind w.p = some (.stimP, n)) (s : State) :
    blockWrite w s = stimWrite w n s := by
  unfold blockWrite; rw [h]

theorem blockWrite_die {w : RegWrite} (h : Layout.pageKind w.p = some (.dieP, 0)) (s : State) :
    blockWrite w s = dieWrite w s := by
  unfold blockWrite; rw [h]

theorem blockWrite_therm {w : RegWrite} (h : Layout.pageKind w.p = some (.thermP, 0)) (s : State) :
    blockWrite w s = thermWrite w s := by
  unfold blockWrite; rw [h]

/-! ### The header (R34) -/

theorem regAt_header {d p o : Nat} {s : State} (h : pagePresent d p s = true) (ho : o < 0x40)
    (hs : (Layout.header.find? (fun r => Layout.hits r o)).isSome = true) :
    regAt d (p * 0x1000 + o) = Layout.header.find? (fun r => Layout.hits r o) := by
  have e1 : (p * 0x1000 + o) / 0x1000 = p := by omega
  have e2 : (p * 0x1000 + o) % 0x1000 = o := by omega
  unfold regAt Layout.find
  rw [e1, e2]
  unfold pagePresent at h
  cases hk : Layout.pageKind p with
  | none => rw [hk] at h; simp at h
  | some k =>
    obtain ⟨r, hr⟩ := Option.isSome_iff_exists.mp hs
    have hd : Layout.header.all (fun r => !r.d0Only) = true := by decide
    have := List.all_eq_true.mp hd r (List.mem_of_find?_eq_some hr)
    simp only [Bool.not_eq_true'] at this
    simp only [if_pos ho, hr, this, Bool.false_and, Bool.false_eq_true, if_false]

theorem commandHeader_reaches {ok : Bool} {a : Access} {d p o : Nat} {v : Word} {s : State} (h : Reaches a d p o s)
    (hok : ok = true) (hp : p < 256) (ho : o < 0x40) (h4 : o % 4 = 0)
    (hs : (Layout.header.find? (fun r => Layout.hits r o)).isSome = true) :
    commandWrite ok a (Layout.addr d p o) v s = .next (headerWrite (RegWrite.of a d p o v) (landWrite a.rq d s)) := by
  have e := regAt_header h.2.2.2.1 ho hs (d := d)
  obtain ⟨r, hr⟩ := Option.isSome_iff_exists.mp hs
  unfold commandWrite
  rw [hok, if_pos rfl, regWrite_reaches h hp (by omega) h4 (e.trans hr), if_pos ho]
  unfold RegWrite.of
  rw [e, hr, Option.getD_some]

theorem exec_evtForce {a : Access} {d p : Nat} {v : Word} {s : State} (hp : p < 256) (h : Reaches a d p 0x18 s) :
    exec (.evtForce a d p v) s = .next (evtMask d p v.toNat (landWrite a.rq d s)) := by
  refine Eq.trans (b := execEvtForce a d p v s) rfl ?_
  unfold execEvtForce
  refine (commandHeader_reaches (o := 0x18) h (decide_eq_true hp) hp (by decide) (by decide) (by decide)).trans ?_
  unfold headerWrite
  simp only [RegWrite.of_o, RegWrite.of_d, RegWrite.of_e, RegWrite.of_p]
  simp

theorem exec_fltForce {a : Access} {d p : Nat} {v : Word} {s : State} (hp : p < 256) (h : Reaches a d p 0x20 s) :
    exec (.fltForce a d p v) s = .next (forceWord d p v.toNat (landWrite a.rq d s)) := by
  refine Eq.trans (b := execFltForce a d p v s) rfl ?_
  unfold execFltForce
  refine (commandHeader_reaches (o := 0x20) h (decide_eq_true hp) hp (by decide) (by decide) (by decide)).trans ?_
  unfold headerWrite
  simp only [RegWrite.of_o, RegWrite.of_d, RegWrite.of_e, RegWrite.of_p]
  simp

/-- A write of PAGE_CTL of a page. -/
theorem commandPageCtl {ok : Bool} {a : Access} {d p : Nat} {v : Word} {s : State} (hok : ok = true) (hp : p < 256)
    (h : Reaches a d p 8 s) :
    commandWrite ok a (Layout.addr d p 8) v s = .next (pageCtlWrite (RegWrite.of a d p 8 v) (landWrite a.rq d s)) := by
  refine (commandHeader_reaches (o := 8) h hok hp (by decide) (by decide) (by decide)).trans ?_
  unfold headerWrite
  simp only [RegWrite.of_o]
  simp

/-- The write of PAGE_CTL, with EN and PWR_REQ stored first. -/
theorem pageCtlWrite_of {a : Access} (d p : Nat) (v : Word) (s : State) (hb : a.bar2 = false) :
    pageCtlWrite (RegWrite.of a d p 8 v) s =
      (let pwr := testBit v.toNat 3 || decide (pageDomain p ≤ 1)
       let s1 := wr (R.HDR.PAGE_CTL_PWR_REQ d p) (b2n pwr) (wr (R.HDR.PAGE_CTL_EN d p) (b2n (testBit v.toNat 0)) s)
       let s2 := if testBit v.toNat 1 then pageSrst d p s1 else s1
       let s3 := if testBit v.toNat 2 then fencePage d p s2 else s2
       let s4 := if testBit v.toNat 4 then unfencePage d p s3 else s3
       let s5 := if testBit v.toNat 0 != flag (R.HDR.PAGE_CTL_EN d p) s then blockEnable d p s4 else s4
       if pwr != flag (R.HDR.PAGE_CTL_PWR_REQ d p) s then powerLook d s5 else s5) := by
  unfold pageCtlWrite
  rw [RegWrite.of_bar2, hb]
  rfl

theorem exec_pageEnable {a : Access} {d p : Nat} {v : Word} {s : State} (hp : p < 256) (h : Reaches a d p 8 s) :
    exec (.pageEnable a d p v) s = .next (pageCtlWrite (RegWrite.of a d p 8 v) (landWrite a.rq d s)) :=
  commandPageCtl (decide_eq_true hp) hp h
theorem exec_pageSrst {a : Access} {d p : Nat} {v : Word} {s : State} (hp : p < 256) (h : Reaches a d p 8 s) :
    exec (.pageSrst a d p v) s = .next (pageCtlWrite (RegWrite.of a d p 8 (v ||| 2)) (landWrite a.rq d s)) :=
  commandPageCtl (decide_eq_true hp) hp h
theorem exec_fenceReq {a : Access} {d p : Nat} {v : Word} {s : State} (hp : p < 256) (h : Reaches a d p 8 s) :
    exec (.fenceReq a d p v) s = .next (pageCtlWrite (RegWrite.of a d p 8 (v ||| 4)) (landWrite a.rq d s)) :=
  commandPageCtl (decide_eq_true hp) hp h
theorem exec_unfence {a : Access} {d p : Nat} {v : Word} {s : State} (hp : p < 256) (h : Reaches a d p 8 s) :
    exec (.unfence a d p v) s = .next (pageCtlWrite (RegWrite.of a d p 8 (v ||| 16)) (landWrite a.rq d s)) :=
  commandPageCtl (decide_eq_true hp) hp h
theorem exec_pwrReq {a : Access} {d p : Nat} {v : Word} {s : State} (hp : p < 256) (h : Reaches a d p 8 s) :
    exec (.pwrReq a d p v) s = .next (pageCtlWrite (RegWrite.of a d p 8 v) (landWrite a.rq d s)) :=
  commandPageCtl (decide_eq_true hp) hp h

theorem exec_jobSubmit {a : Access} {d : Nat} {bg : Bool} {v : Word} {s : State}
    (h : Reaches a d 0x40 (if bg then 0x68 else 0x60) s) :
    exec (.jobSubmit a d bg v) s =
      .next ((RegWrite.of a d 0x40 (if bg then 0x68 else 0x60) v).store (landWrite a.rq d s)) := by
  refine Eq.trans (b := execJobSubmit a d bg v s) rfl ?_
  unfold execJobSubmit
  cases bg
  · refine (commandWrite_reaches (p := 0x40) (o := 0x60) h rfl (by decide) (by decide) (by decide) (by decide) rfl).trans ?_
    rw [blockWrite_codec rfl]
    unfold codecWrite
    simp only [RegWrite.of_o]
    simp
  · refine (commandWrite_reaches (p := 0x40) (o := 0x68) h rfl (by decide) (by decide) (by decide) (by decide) rfl).trans ?_
    rw [blockWrite_codec rfl]
    unfold codecWrite
    simp only [RegWrite.of_o]
    simp


/-- A read of a block register returns what the register shows, and has the effect of that read. -/
theorem readReg_answers {a : Access} {d p o : Nat} {s : State} {r : RegD} (h : Answers a d p s) (hp : p < 256)
    (hlo : 0x40 ≤ o) (ho : o < 0x1000) (h4 : o % 4 = 0) (hq : ¬ (p = 1 ∧ o = 0x40))
    (hr : regAt d (p * 0x1000 + o) = some r) (hv : privMask r = 0) :
    readReg a (Layout.addr d p o) s =
      ((liveView d p o s).getD (word (Layout.addr d p o) s).toNat % 4294967296, readEffect d p o s) := by
  obtain ⟨h1, h2, h3, h5⟩ := h
  have hd := dieAnswers_lt h2
  have h8 := dies_le s
  have e4 : Layout.addr d p o / 4 * 4 = Layout.addr d p o := by unfold Layout.addr; omega
  have hz : (p * 0x1000 + o) / 0x1000 = p := by omega
  have hy : (p * 0x1000 + o) % 0x1000 = o := by omega
  have hm : 0xFFFFFFFF - hiddenBits a r = 2 ^ 32 - 1 := by unfold hiddenBits; split <;> simp [hv]
  unfold readReg
  simp only [e4, addr_die hp ho, addr_off hp ho, h1, hz, hy]
  rw [if_neg (by simp; unfold Layout.addr; omega), if_neg (by omega), if_neg (by simp [h2]), if_neg (by omega)]
  unfold regAt at hr
  rw [hz, hy] at hr
  unfold pageValue
  revert hr
  cases Layout.pageKind p with
  | none => intro hr; cases hr
  | some k =>
    dsimp only
    cases Layout.find k.1 o with
    | none => intro hr; cases hr
    | some r' =>
      dsimp only
      intro hr
      split at hr
      · cases hr
      · rename_i hd0
        cases hr
        rw [if_neg (by simp [h3]; simpa using hd0), if_neg (by omega), if_neg (by simp [h5]), if_neg hq, hm,
          Nat.and_two_pow_sub_one_eq_mod]

/-- A read of the count of landed writes. -/
theorem readReg_fence {a : Access} {d : Nat} {s : State} (h : Answers a d 1 s) :
    readReg a (Layout.addr d 1 0x40) s = (landedOn a.rq d s, s) := by
  obtain ⟨h1, h2, h3, h5⟩ := h
  have hd := dieAnswers_lt h2
  have h8 := dies_le s
  have e4 : Layout.addr d 1 0x40 / 4 * 4 = Layout.addr d 1 0x40 := by unfold Layout.addr; omega
  have hr : ∃ r, Layout.find .ctrlP 0x40 = some r ∧ r.d0Only = false := ⟨_, rfl, rfl⟩
  obtain ⟨r, hf, h0⟩ := hr
  unfold readReg
  simp only [e4, addr_die (show 1 < 256 by decide) (show 0x40 < 0x1000 by decide),
    addr_off (show 1 < 256 by decide) (show 0x40 < 0x1000 by decide), h1]
  rw [if_neg (by simp; unfold Layout.addr; omega), if_neg (by omega), if_neg (by simp [h2]), if_neg (by decide)]
  unfold pageValue
  rw [show Layout.pageKind ((1 * 0x1000 + 0x40) / 0x1000) = some (.ctrlP, 0) from rfl,
    show (1 * 0x1000 + 0x40) % 0x1000 = 0x40 from rfl]
  simp only [hf, h0]
  rw [if_neg (by simp; exact h3), if_neg (by decide), if_neg (by simp; exact h5), if_pos (by decide)]

/-- A read that goes back to its requester. -/
theorem commandRead_answers {ok : Bool} {a : Access} {d p o : Nat} {s : State} {r : RegD} (h : Answers a d p s)
    (hok : ok = true) (hp : p < 256) (hlo : 0x40 ≤ o) (ho : o < 0x1000) (h4 : o % 4 = 0) (hq : ¬ (p = 1 ∧ o = 0x40))
    (hr : regAt d (p * 0x1000 + o) = some r) (hv : privMask r = 0) :
    commandRead ok a (Layout.addr d p o) s = .next { readEffect d p o s with
      resp := { value := BitVec.ofNat 32 ((liveView d p o s).getD (word (Layout.addr d p o) s).toNat) } } := by
  unfold commandRead readBack
  rw [hok, if_pos rfl, readReg_answers h hp hlo ho h4 hq hr hv]
  have : ∀ n, BitVec.ofNat 32 (n % 4294967296) = BitVec.ofNat 32 n := fun n => by
    apply BitVec.eq_of_toNat_eq; simp
  dsimp only
  rw [this]

theorem exec_freedFsnRead {a : Access} {s : State} (h : Answers a 0 0x48 s) :
    exec (.freedFsnRead a) s = .next { readEffect 0 0x48 0xA0 s with
      resp := { value := BitVec.ofNat 32 ((liveView 0 0x48 0xA0 s).getD (word (Layout.addr 0 0x48 0xA0) s).toNat) } } := by
  refine Eq.trans (b := execFreedFsnRead a s) rfl ?_
  unfold execFreedFsnRead
  exact commandRead_answers (p := 0x48) (o := 0xA0) h rfl (by decide) (by decide) (by decide) (by decide) (by decide) rfl rfl

theorem exec_spoilLogRead {a : Access} {s : State} (h : Answers a 0 0x48 s) :
    exec (.spoilLogRead a) s = .next { readEffect 0 0x48 0xB4 s with
      resp := { value := BitVec.ofNat 32 ((liveView 0 0x48 0xB4 s).getD (word (Layout.addr 0 0x48 0xB4) s).toNat) } } := by
  refine Eq.trans (b := execSpoilLogRead a s) rfl ?_
  unfold execSpoilLogRead
  exact commandRead_answers (p := 0x48) (o := 0xB4) h rfl (by decide) (by decide) (by decide) (by decide) (by decide) rfl rfl

theorem exec_purgeFsnRead {a : Access} {s : State} (h : Answers a 0 0x60 s) :
    exec (.purgeFsnRead a) s = .next { readEffect 0 0x60 0x3C0 s with
      resp := { value := BitVec.ofNat 32 ((liveView 0 0x60 0x3C0 s).getD (word (Layout.addr 0 0x60 0x3C0) s).toNat) } } := by
  refine Eq.trans (b := execPurgeFsnRead a s) rfl ?_
  unfold execPurgeFsnRead
  exact commandRead_answers (p := 0x60) (o := 0x3C0) h rfl (by decide) (by decide) (by decide) (by decide) (by decide) rfl rfl

theorem exec_ltLoRead {a : Access} {d : Nat} {s : State} (h : Answers a d 0x32 s) :
    exec (.ltLoRead a d) s = .next { readEffect d 0x32 0x40 s with
      resp := { value := BitVec.ofNat 32 ((liveView d 0x32 0x40 s).getD (word (Layout.addr d 0x32 0x40) s).toNat) } } := by
  refine Eq.trans (b := execLtLoRead a d s) rfl ?_
  unfold execLtLoRead
  exact commandRead_answers (p := 0x32) (o := 0x40) h rfl (by decide) (by decide) (by decide) (by decide) (by decide) rfl rfl

theorem exec_frcLoRead {a : Access} {d : Nat} {s : State} (h : Answers a d 0x32 s) :
    exec (.frcLoRead a d) s = .next { readEffect d 0x32 0x5C s with
      resp := { value := BitVec.ofNat 32 ((liveView d 0x32 0x5C s).getD (word (Layout.addr d 0x32 0x5C) s).toNat) } } := by
  refine Eq.trans (b := execFrcLoRead a d s) rfl ?_
  unfold execFrcLoRead
  exact commandRead_answers (p := 0x32) (o := 0x5C) h rfl (by decide) (by decide) (by decide) (by decide) (by decide) rfl rfl

theorem exec_mtNsRead {a : Access} {s : State} (h : Answers a 0 0x32 s) :
    exec (.mtNsRead a) s = .next { readEffect 0 0x32 0x80 s with
      resp := { value := BitVec.ofNat 32 ((liveView 0 0x32 0x80 s).getD (word (Layout.addr 0 0x32 0x80) s).toNat) } } := by
  refine Eq.trans (b := execMtNsRead a s) rfl ?_
  unfold execMtNsRead
  exact commandRead_answers (p := 0x32) (o := 0x80) h rfl (by decide) (by decide) (by decide) (by decide) (by decide) rfl rfl

theorem exec_markCaptureRead {a : Access} {d m : Nat} {s : State} (hi : m < 4) (h : Answers a d 0x71 s) :
    exec (.markCaptureRead a d m) s = .next { readEffect d 0x71 (0x450 + 4 * m) s with
      resp := { value := BitVec.ofNat 32 ((liveView d 0x71 (0x450 + 4 * m) s).getD (word (Layout.addr d 0x71 (0x450 + 4 * m)) s).toNat) } } := by
  refine Eq.trans (b := execMarkCaptureRead a d m s) rfl ?_
  unfold execMarkCaptureRead
  have hr : ∀ j, j < 4 → ∃ r, regAt d (0x71 * 0x1000 + (0x450 + 4 * j)) = some r ∧ privMask r = 0 := by
    intro j hj; interval_cases j <;> exact ⟨_, rfl, rfl⟩
  obtain ⟨r, hr, hv⟩ := hr _ hi
  exact commandRead_answers (p := 0x71) (o := (0x450 + 4 * m)) h (decide_eq_true hi) (by decide) (by omega) (by omega) (by omega) (by omega) hr hv

theorem exec_posLoRead {a : Access} {d c : Nat} {s : State} (hi : c < 8) (h : Answers a d 0x60 s) :
    exec (.posLoRead a d c) s = .next { readEffect d 0x60 (0x160 + 8 * c) s with
      resp := { value := BitVec.ofNat 32 ((liveView d 0x60 (0x160 + 8 * c) s).getD (word (Layout.addr d 0x60 (0x160 + 8 * c)) s).toNat) } } := by
  refine Eq.trans (b := execPosLoRead a d c s) rfl ?_
  unfold execPosLoRead
  have hr : ∀ j, j < 8 → ∃ r, regAt d (0x60 * 0x1000 + (0x160 + 8 * j)) = some r ∧ privMask r = 0 := by
    intro j hj; interval_cases j <;> exact ⟨_, rfl, rfl⟩
  obtain ⟨r, hr, hv⟩ := hr _ hi
  exact commandRead_answers (p := 0x60) (o := (0x160 + 8 * c)) h (decide_eq_true hi) (by decide) (by omega) (by omega) (by omega) (by omega) hr hv

/-- REGISTER_WRITE of a whole word to a block register. -/
theorem exec_registerWrite {a : Access} {d p o : Nat} {v : Word} {s : State} (h : Reaches a d p o s) (hp : p < 256)
    (hlo : 0x40 ≤ o) (ho : o < 0x1000) (h4 : o % 4 = 0) (hr : (regAt d (p * 0x1000 + o)).isSome = true) :
    exec (.registerWrite a (Layout.addr d p o) v 15) s =
      .next (blockWrite (RegWrite.of a d p o v) (landWrite a.rq d s)) :=
  (commandWrite_reaches (ok := true) h rfl hp hlo ho h4 hr)

/-- The bits of a word with the bits of a constant set. -/
theorem or_bit (v c : Word) (i : Nat) : testBit (v ||| c).toNat i = (testBit v.toNat i || testBit c.toNat i) := by
  have e : ∀ v i : Nat, testBit v i = v.testBit i := fun v i => by
    unfold testBit; rw [Nat.testBit_eq_decide_div_mod_eq]; rfl
  rw [e, e, e, BitVec.toNat_or, Nat.testBit_or]


/-! ### The commands -/

theorem exec_txnArm {a : Access} {d i : Nat} {v : Word} {s : State} (hi : i < 8) (h : Reaches a d (2 + i) 0x40 s) :
    exec (.txnArm a d i v) s = .next (slotCtl d i a.bar2 (v ||| 1).toNat (landWrite a.rq d s)) := by
  refine Eq.trans (b := execTxnArm a d i v s) rfl ?_
  unfold execTxnArm
  refine (commandWrite_reaches (p := (2 + i)) (o := 0x40) h (decide_eq_true hi) (by omega) (by decide) (by decide) (by decide) (regAt_txn hi)).trans ?_
  rw [blockWrite_txn (pageKind_txn hi)]
  unfold txnWrite
  simp only [RegWrite.of_o, RegWrite.of_d, RegWrite.of_e, RegWrite.of_v, RegWrite.of_p, RegWrite.of_bar2]
  try simp
  try rfl

theorem exec_txnAbort {a : Access} {d i : Nat} {v : Word} {s : State} (hi : i < 8) (h : Reaches a d (2 + i) 0x40 s) :
    exec (.txnAbort a d i v) s = .next (slotCtl d i a.bar2 (v ||| 2).toNat (landWrite a.rq d s)) := by
  refine Eq.trans (b := execTxnAbort a d i v s) rfl ?_
  unfold execTxnAbort
  refine (commandWrite_reaches (p := (2 + i)) (o := 0x40) h (decide_eq_true hi) (by omega) (by decide) (by decide) (by decide) (regAt_txn hi)).trans ?_
  rw [blockWrite_txn (pageKind_txn hi)]
  unfold txnWrite
  simp only [RegWrite.of_o, RegWrite.of_d, RegWrite.of_e, RegWrite.of_v, RegWrite.of_p, RegWrite.of_bar2]
  try simp
  try rfl

theorem exec_txnClear {a : Access} {d i : Nat} {v : Word} {s : State} (hi : i < 8) (h : Reaches a d (2 + i) 0x40 s) :
    exec (.txnClear a d i v) s = .next (slotCtl d i a.bar2 (v ||| 4).toNat (landWrite a.rq d s)) := by
  refine Eq.trans (b := execTxnClear a d i v s) rfl ?_
  unfold execTxnClear
  refine (commandWrite_reaches (p := (2 + i)) (o := 0x40) h (decide_eq_true hi) (by omega) (by decide) (by decide) (by decide) (regAt_txn hi)).trans ?_
  rw [blockWrite_txn (pageKind_txn hi)]
  unfold txnWrite
  simp only [RegWrite.of_o, RegWrite.of_d, RegWrite.of_e, RegWrite.of_v, RegWrite.of_p, RegWrite.of_bar2]
  try simp
  try rfl

theorem exec_xtxnGo {a : Access} {v : Word} {s : State} (h : Reaches a 0 1 0x80 s) :
    exec (.xtxnGo a v) s = .next (ctrlWrite (RegWrite.of a 0 1 0x80 (v ||| 1)) (landWrite a.rq 0 s)) := by
  refine Eq.trans (b := execXtxnGo a v s) rfl ?_
  unfold execXtxnGo
  refine (commandWrite_reaches (p := 1) (o := 0x80) h rfl (by decide) (by decide) (by decide) (by decide) rfl).trans ?_
  rw [blockWrite_ctrl rfl]

theorem exec_xtxnAbort {a : Access} {v : Word} {s : State} (h : Reaches a 0 1 0x80 s) :
    exec (.xtxnAbort a v) s = .next (ctrlWrite (RegWrite.of a 0 1 0x80 (v ||| 2)) (landWrite a.rq 0 s)) := by
  refine Eq.trans (b := execXtxnAbort a v s) rfl ?_
  unfold execXtxnAbort
  refine (commandWrite_reaches (p := 1) (o := 0x80) h rfl (by decide) (by decide) (by decide) (by decide) rfl).trans ?_
  rw [blockWrite_ctrl rfl]

theorem exec_frameSubmit {a : Access} {v : Word} {s : State} (h : Reaches a 0 0x48 0x44 s) :
    exec (.frameSubmit a v) s = .next (frameSubmit (v.toNat % 64) (landWrite a.rq 0 s)) := by
  refine Eq.trans (b := execFrameSubmit a v s) rfl ?_
  unfold execFrameSubmit
  refine (commandWrite_reaches (p := 0x48) (o := 0x44) h rfl (by decide) (by decide) (by decide) (by decide) rfl).trans ?_
  rw [blockWrite_frame rfl]
  unfold frameWrite
  simp only [RegWrite.of_o, RegWrite.of_d, RegWrite.of_e, RegWrite.of_v, RegWrite.of_p, RegWrite.of_bar2]
  try simp
  try rfl

theorem exec_resDeclare {a : Access} {d : Nat} {v : Word} {s : State} (h : Reaches a d 0x48 0x114 s) :
    exec (.resDeclare a d v) s = .next (resCtl d (v &&& 0xFDFFFFFF).toNat (landWrite a.rq d s)) := by
  refine Eq.trans (b := execResDeclare a d v s) rfl ?_
  unfold execResDeclare
  refine (commandWrite_reaches (p := 0x48) (o := 0x114) h rfl (by decide) (by decide) (by decide) (by decide) rfl).trans ?_
  rw [blockWrite_frame rfl]
  unfold frameWrite
  simp only [RegWrite.of_o, RegWrite.of_d, RegWrite.of_e, RegWrite.of_v, RegWrite.of_p, RegWrite.of_bar2]
  try simp
  try rfl

theorem exec_resurvey {a : Access} {d : Nat} {v : Word} {s : State} (h : Reaches a d 0x48 0x114 s) :
    exec (.resurvey a d v) s = .next (resCtl d (v ||| 0x2000000).toNat (landWrite a.rq d s)) := by
  refine Eq.trans (b := execResurvey a d v s) rfl ?_
  unfold execResurvey
  refine (commandWrite_reaches (p := 0x48) (o := 0x114) h rfl (by decide) (by decide) (by decide) (by decide) rfl).trans ?_
  rw [blockWrite_frame rfl]
  unfold frameWrite
  simp only [RegWrite.of_o, RegWrite.of_d, RegWrite.of_e, RegWrite.of_v, RegWrite.of_p, RegWrite.of_bar2]
  try simp
  try rfl

theorem exec_reprint {a : Access} {v : Word} {s : State} (h : Reaches a 0 0x48 0x6C s) :
    exec (.reprint a v) s = .next (if testBit (v ||| 0x80000000).toNat 31 then reprintGo ((RegWrite.of a 0 0x48 0x6C (v ||| 0x80000000)).store (landWrite a.rq 0 s)) else (RegWrite.of a 0 0x48 0x6C (v ||| 0x80000000)).store (landWrite a.rq 0 s)) := by
  refine Eq.trans (b := execReprint a v s) rfl ?_
  unfold execReprint
  refine (commandWrite_reaches (p := 0x48) (o := 0x6C) h rfl (by decide) (by decide) (by decide) (by decide) rfl).trans ?_
  rw [blockWrite_frame rfl]
  unfold frameWrite
  simp only [RegWrite.of_o, RegWrite.of_d, RegWrite.of_e, RegWrite.of_v, RegWrite.of_p, RegWrite.of_bar2]
  try simp
  try rfl

theorem exec_frameRelease {a : Access} {v : Word} {s : State} (h : Reaches a 0 0x48 0x70 s) :
    exec (.frameRelease a v) s = .next (frameRelease v.toNat (landWrite a.rq 0 s)) := by
  refine Eq.trans (b := execFrameRelease a v s) rfl ?_
  unfold execFrameRelease
  refine (commandWrite_reaches (p := 0x48) (o := 0x70) h rfl (by decide) (by decide) (by decide) (by decide) rfl).trans ?_
  rw [blockWrite_frame rfl]
  unfold frameWrite
  simp only [RegWrite.of_o, RegWrite.of_d, RegWrite.of_e, RegWrite.of_v, RegWrite.of_p, RegWrite.of_bar2]
  try simp
  try rfl

theorem exec_frameAbort {a : Access} {v : Word} {s : State} (h : Reaches a 0 0x48 0x74 s) :
    exec (.frameAbort a v) s = .next (frameAbort v.toNat (landWrite a.rq 0 s)) := by
  refine Eq.trans (b := execFrameAbort a v s) rfl ?_
  unfold execFrameAbort
  refine (commandWrite_reaches (p := 0x48) (o := 0x74) h rfl (by decide) (by decide) (by decide) (by decide) rfl).trans ?_
  rw [blockWrite_frame rfl]
  unfold frameWrite
  simp only [RegWrite.of_o, RegWrite.of_d, RegWrite.of_e, RegWrite.of_v, RegWrite.of_p, RegWrite.of_bar2]
  try simp
  try rfl

theorem exec_codecLaneUnfence {a : Access} {d : Nat} {v : Word} {s : State} (h : Reaches a d 0x40 0x54 s) :
    exec (.codecLaneUnfence a d v) s = .next (codecUnfence d (v ||| 0x80000000).toNat (landWrite a.rq d s)) := by
  refine Eq.trans (b := execCodecLaneUnfence a d v s) rfl ?_
  unfold execCodecLaneUnfence
  refine (commandWrite_reaches (p := 0x40) (o := 0x54) h rfl (by decide) (by decide) (by decide) (by decide) rfl).trans ?_
  rw [blockWrite_codec rfl]
  unfold codecWrite
  simp only [RegWrite.of_o, RegWrite.of_d, RegWrite.of_e, RegWrite.of_v, RegWrite.of_p, RegWrite.of_bar2]
  try simp
  try rfl

theorem exec_jobAbort {a : Access} {d : Nat} {v : Word} {s : State} (h : Reaches a d 0x40 0x70 s) :
    exec (.jobAbort a d v) s = .next (jobAbort d v.toNat (landWrite a.rq d s)) := by
  refine Eq.trans (b := execJobAbort a d v s) rfl ?_
  unfold execJobAbort
  refine (commandWrite_reaches (p := 0x40) (o := 0x70) h rfl (by decide) (by decide) (by decide) (by decide) rfl).trans ?_
  rw [blockWrite_codec rfl]
  unfold codecWrite
  simp only [RegWrite.of_o, RegWrite.of_d, RegWrite.of_e, RegWrite.of_v, RegWrite.of_p, RegWrite.of_bar2]
  try simp
  try rfl

theorem exec_laneRetrain {a : Access} {d n : Nat} {v : Word} {s : State} (hi : n < 12) (h : Reaches a d (lanePage n) 0x44 s) :
    exec (.laneRetrain a d n v) s = .next (laneCtl d n (v ||| 1).toNat ((RegWrite.of a d (lanePage n) 0x44 (v ||| 1)).store (landWrite a.rq d s))) := by
  refine Eq.trans (b := execLaneRetrain a d n v s) rfl ?_
  unfold execLaneRetrain
  refine (commandWrite_reaches (p := (lanePage n)) (o := 0x44) h (decide_eq_true hi) (by unfold lanePage; omega) (by decide) (by decide) (by decide) (regAt_lane hi)).trans ?_
  rw [blockWrite_lane (pageKind_lane hi)]
  unfold laneWrite
  simp only [RegWrite.of_o, RegWrite.of_d, RegWrite.of_e, RegWrite.of_v, RegWrite.of_p, RegWrite.of_bar2]
  try simp
  try rfl

theorem exec_eyeScanGo {a : Access} {d n : Nat} {v : Word} {s : State} (hi : n < 12) (h : Reaches a d (lanePage n) 0x44 s) :
    exec (.eyeScanGo a d n v) s = .next (laneCtl d n (v ||| 2).toNat ((RegWrite.of a d (lanePage n) 0x44 (v ||| 2)).store (landWrite a.rq d s))) := by
  refine Eq.trans (b := execEyeScanGo a d n v s) rfl ?_
  unfold execEyeScanGo
  refine (commandWrite_reaches (p := (lanePage n)) (o := 0x44) h (decide_eq_true hi) (by unfold lanePage; omega) (by decide) (by decide) (by decide) (regAt_lane hi)).trans ?_
  rw [blockWrite_lane (pageKind_lane hi)]
  unfold laneWrite
  simp only [RegWrite.of_o, RegWrite.of_d, RegWrite.of_e, RegWrite.of_v, RegWrite.of_p, RegWrite.of_bar2]
  try simp
  try rfl

theorem exec_eyeScanStop {a : Access} {d n : Nat} {v : Word} {s : State} (hi : n < 12) (h : Reaches a d (lanePage n) 0x44 s) :
    exec (.eyeScanStop a d n v) s = .next (laneCtl d n (v ||| 4).toNat ((RegWrite.of a d (lanePage n) 0x44 (v ||| 4)).store (landWrite a.rq d s))) := by
  refine Eq.trans (b := execEyeScanStop a d n v s) rfl ?_
  unfold execEyeScanStop
  refine (commandWrite_reaches (p := (lanePage n)) (o := 0x44) h (decide_eq_true hi) (by unfold lanePage; omega) (by decide) (by decide) (by decide) (regAt_lane hi)).trans ?_
  rw [blockWrite_lane (pageKind_lane hi)]
  unfold laneWrite
  simp only [RegWrite.of_o, RegWrite.of_d, RegWrite.of_e, RegWrite.of_v, RegWrite.of_p, RegWrite.of_bar2]
  try simp
  try rfl

theorem exec_rlRouteChange {a : Access} {d : Nat} {v : Word} {s : State} (h : Reaches a d 0x30 0x44 s) :
    exec (.rlRouteChange a d v) s = .next (if a.bar2 then (landWrite a.rq d s) else routeWrite d v.toNat (landWrite a.rq d s)) := by
  refine Eq.trans (b := execRlRouteChange a d v s) rfl ?_
  unfold execRlRouteChange
  refine (commandWrite_reaches (p := 0x30) (o := 0x44) h rfl (by decide) (by decide) (by decide) (by decide) rfl).trans ?_
  rw [blockWrite_rlnk rfl]
  unfold rlnkWrite
  simp only [RegWrite.of_o, RegWrite.of_d, RegWrite.of_e, RegWrite.of_v, RegWrite.of_p, RegWrite.of_bar2]
  try simp
  try rfl

theorem exec_headcfgSend {a : Access} {k : Nat} {v : Word} {s : State} (h : Reaches a (stDie k) (shlPage (stLoc k)) 0x78 s) :
    exec (.headcfgSend a k v) s = .next (shlWrite (RegWrite.of a (stDie k) (shlPage (stLoc k)) 0x78 (v ||| 0x80000000)) (stLoc k) (landWrite a.rq (stDie k) s)) := by
  have hl : stLoc k < 2 := Nat.mod_lt _ (by decide)
  refine Eq.trans (b := execHeadcfgSend a k v s) rfl ?_
  unfold execHeadcfgSend
  refine (commandWrite_reaches (p := (shlPage (stLoc k))) (o := 0x78) h rfl (by unfold shlPage; omega) (by decide) (by decide) (by decide) (regAt_shl hl (by decide))).trans ?_
  rw [blockWrite_shl (pageKind_shl hl)]

theorem exec_trimSetSend {a : Access} {k : Nat} {v : Word} {s : State} (h : Reaches a (stDie k) (shlPage (stLoc k)) 0x70 s) :
    exec (.trimSetSend a k v) s = .next (shlWrite (RegWrite.of a (stDie k) (shlPage (stLoc k)) 0x70 (v ||| 0x80000000)) (stLoc k) (landWrite a.rq (stDie k) s)) := by
  have hl : stLoc k < 2 := Nat.mod_lt _ (by decide)
  refine Eq.trans (b := execTrimSetSend a k v s) rfl ?_
  unfold execTrimSetSend
  refine (commandWrite_reaches (p := (shlPage (stLoc k))) (o := 0x70) h rfl (by unfold shlPage; omega) (by decide) (by decide) (by decide) (regAt_shl hl (by decide))).trans ?_
  rw [blockWrite_shl (pageKind_shl hl)]

theorem exec_rearm {a : Access} {k : Nat} {v : Word} {s : State} (h : Reaches a (stDie k) (sprotPage (stLoc k)) 0x40 s) :
    exec (.rearm a k v) s = .next (sprotWrite (RegWrite.of a (stDie k) (sprotPage (stLoc k)) 0x40 (v ||| 2)) (stLoc k) (landWrite a.rq (stDie k) s)) := by
  have hl : stLoc k < 2 := Nat.mod_lt _ (by decide)
  refine Eq.trans (b := execRearm a k v s) rfl ?_
  unfold execRearm
  refine (commandWrite_reaches (p := (sprotPage (stLoc k))) (o := 0x40) h rfl (by unfold sprotPage; omega) (by decide) (by decide) (by decide) (regAt_sprot hl)).trans ?_
  rw [blockWrite_sprot (pageKind_sprot hl)]

theorem exec_calLoad {a : Access} {d : Nat} {v : Word} {s : State} (h : Reaches a d 0x71 0x580 s) :
    exec (.calLoad a d v) s = .next (if testBit (v ||| 0x80000000).toNat 31 then calGo d ((RegWrite.of a d 0x71 0x580 (v ||| 0x80000000)).store (landWrite a.rq d s)) else (RegWrite.of a d 0x71 0x580 (v ||| 0x80000000)).store (landWrite a.rq d s)) := by
  refine Eq.trans (b := execCalLoad a d v s) rfl ?_
  unfold execCalLoad
  refine (commandWrite_reaches (p := 0x71) (o := 0x580) h rfl (by decide) (by decide) (by decide) (by decide) rfl).trans ?_
  rw [blockWrite_pio rfl]
  unfold pioWrite
  simp only [RegWrite.of_o, RegWrite.of_d, RegWrite.of_e, RegWrite.of_v, RegWrite.of_p, RegWrite.of_bar2]
  try simp
  try rfl

theorem exec_ageRestore {a : Access} {k : Nat} {v : Word} {s : State} (h : Reaches a (stDie k) 0x71 (0x500 + 0x40 * stLoc k) s) :
    exec (.ageRestore a k v) s = .next (pioWrite (RegWrite.of a (stDie k) 0x71 (0x500 + 0x40 * stLoc k) (v ||| 2)) (landWrite a.rq (stDie k) s)) := by
  have hl : stLoc k < 2 := Nat.mod_lt _ (by decide)
  have ho : 0x40 ≤ (0x500 + 0x40 * stLoc k) ∧ (0x500 + 0x40 * stLoc k) < 0x1000 ∧ (0x500 + 0x40 * stLoc k) % 4 = 0 := by omega
  have hr : ∀ j, j < 2 → (regAt (stDie k) (0x71 * 0x1000 + ((0x500 + 0x40 * j)))).isSome = true := by
    intro j hj; interval_cases j <;> rfl
  refine Eq.trans (b := execAgeRestore a k v s) rfl ?_
  unfold execAgeRestore
  refine (commandWrite_reaches (p := 0x71) (o := (0x500 + 0x40 * stLoc k)) h rfl (by decide) ho.1 ho.2.1 ho.2.2 (hr _ hl)).trans ?_
  rw [blockWrite_pio rfl]

theorem exec_ageSave {a : Access} {k : Nat} {v : Word} {s : State} (h : Reaches a (stDie k) 0x71 (0x500 + 0x40 * stLoc k) s) :
    exec (.ageSave a k v) s = .next (pioWrite (RegWrite.of a (stDie k) 0x71 (0x500 + 0x40 * stLoc k) (v ||| 4)) (landWrite a.rq (stDie k) s)) := by
  have hl : stLoc k < 2 := Nat.mod_lt _ (by decide)
  have ho : 0x40 ≤ (0x500 + 0x40 * stLoc k) ∧ (0x500 + 0x40 * stLoc k) < 0x1000 ∧ (0x500 + 0x40 * stLoc k) % 4 = 0 := by omega
  have hr : ∀ j, j < 2 → (regAt (stDie k) (0x71 * 0x1000 + ((0x500 + 0x40 * j)))).isSome = true := by
    intro j hj; interval_cases j <;> rfl
  refine Eq.trans (b := execAgeSave a k v s) rfl ?_
  unfold execAgeSave
  refine (commandWrite_reaches (p := 0x71) (o := (0x500 + 0x40 * stLoc k)) h rfl (by decide) ho.1 ho.2.1 ho.2.2 (hr _ hl)).trans ?_
  rw [blockWrite_pio rfl]

theorem exec_ckptNow {a : Access} {k : Nat} {v : Word} {s : State} (h : Reaches a (stDie k) 0x71 (0x500 + 0x40 * stLoc k) s) :
    exec (.ckptNow a k v) s = .next (pioWrite (RegWrite.of a (stDie k) 0x71 (0x500 + 0x40 * stLoc k) (v ||| 8)) (landWrite a.rq (stDie k) s)) := by
  have hl : stLoc k < 2 := Nat.mod_lt _ (by decide)
  have ho : 0x40 ≤ (0x500 + 0x40 * stLoc k) ∧ (0x500 + 0x40 * stLoc k) < 0x1000 ∧ (0x500 + 0x40 * stLoc k) % 4 = 0 := by omega
  have hr : ∀ j, j < 2 → (regAt (stDie k) (0x71 * 0x1000 + ((0x500 + 0x40 * j)))).isSome = true := by
    intro j hj; interval_cases j <;> rfl
  refine Eq.trans (b := execCkptNow a k v s) rfl ?_
  unfold execCkptNow
  refine (commandWrite_reaches (p := 0x71) (o := (0x500 + 0x40 * stLoc k)) h rfl (by decide) ho.1 ho.2.1 ho.2.2 (hr _ hl)).trans ?_
  rw [blockWrite_pio rfl]

theorem exec_posAdj {a : Access} {d : Nat} {v : Word} {s : State} (h : Reaches a d 0x60 0x50 s) :
    exec (.posAdj a d v) s = .next (if testBit (v ||| 0x80000000).toNat 31 then posAdjust d ((v ||| 0x80000000).toNat % 8) (landWrite a.rq d s) else (landWrite a.rq d s)) := by
  refine Eq.trans (b := execPosAdj a d v s) rfl ?_
  unfold execPosAdj
  refine (commandWrite_reaches (p := 0x60) (o := 0x50) h rfl (by decide) (by decide) (by decide) (by decide) rfl).trans ?_
  rw [blockWrite_cue rfl]
  unfold cueWrite
  simp only [RegWrite.of_o, RegWrite.of_d, RegWrite.of_e, RegWrite.of_v, RegWrite.of_p, RegWrite.of_bar2]
  try simp
  try rfl

theorem exec_cueArm {a : Access} {d : Nat} {v : Word} {s : State} (h : Reaches a d 0x60 0x40 s) :
    exec (.cueArm a d v) s = .next (cueCtl d (v ||| 0x10000).toNat (landWrite a.rq d s)) := by
  refine Eq.trans (b := execCueArm a d v s) rfl ?_
  unfold execCueArm
  refine (commandWrite_reaches (p := 0x60) (o := 0x40) h rfl (by decide) (by decide) (by decide) (by decide) rfl).trans ?_
  rw [blockWrite_cue rfl]
  unfold cueWrite
  simp only [RegWrite.of_o, RegWrite.of_d, RegWrite.of_e, RegWrite.of_v, RegWrite.of_p, RegWrite.of_bar2]
  try simp
  try rfl

theorem exec_cueDisarm {a : Access} {d : Nat} {v : Word} {s : State} (h : Reaches a d 0x60 0x40 s) :
    exec (.cueDisarm a d v) s = .next (cueCtl d (v ||| 0x20000).toNat (landWrite a.rq d s)) := by
  refine Eq.trans (b := execCueDisarm a d v s) rfl ?_
  unfold execCueDisarm
  refine (commandWrite_reaches (p := 0x60) (o := 0x40) h rfl (by decide) (by decide) (by decide) (by decide) rfl).trans ?_
  rw [blockWrite_cue rfl]
  unfold cueWrite
  simp only [RegWrite.of_o, RegWrite.of_d, RegWrite.of_e, RegWrite.of_v, RegWrite.of_p, RegWrite.of_bar2]
  try simp
  try rfl

theorem exec_cueUnfence {a : Access} {d : Nat} {v : Word} {s : State} (h : Reaches a d 0x60 0x40 s) :
    exec (.cueUnfence a d v) s = .next (cueCtl d (v ||| 0x40000).toNat (landWrite a.rq d s)) := by
  refine Eq.trans (b := execCueUnfence a d v s) rfl ?_
  unfold execCueUnfence
  refine (commandWrite_reaches (p := 0x60) (o := 0x40) h rfl (by decide) (by decide) (by decide) (by decide) rfl).trans ?_
  rw [blockWrite_cue rfl]
  unfold cueWrite
  simp only [RegWrite.of_o, RegWrite.of_d, RegWrite.of_e, RegWrite.of_v, RegWrite.of_p, RegWrite.of_bar2]
  try simp
  try rfl

theorem exec_pathEnable {a : Access} {p : Nat} {v : Word} {s : State} (hi : p < 2) (h : Reaches a 0 0x60 (0x300 + 0x40 * p) s) :
    exec (.pathEnable a p v) s = .next (pathEnable p ((RegWrite.of a 0 0x60 (0x300 + 0x40 * p) v).store (landWrite a.rq 0 s))) := by
  have ho : 0x40 ≤ (0x300 + 0x40 * p) ∧ (0x300 + 0x40 * p) < 0x1000 ∧ (0x300 + 0x40 * p) % 4 = 0 := by omega
  have hr : ∀ j, j < 2 → (regAt 0 (0x60 * 0x1000 + ((0x300 + 0x40 * j)))).isSome = true := by
    intro j hj; interval_cases j <;> rfl
  refine Eq.trans (b := execPathEnable a p v s) rfl ?_
  unfold execPathEnable
  refine (commandWrite_reaches (p := 0x60) (o := (0x300 + 0x40 * p)) h (decide_eq_true hi) (by decide) ho.1 ho.2.1 ho.2.2 (hr _ hi)).trans ?_
  rw [blockWrite_cue rfl]
  unfold cueWrite
  have e1 : ((0x300 + 0x40 * p) - 0x300) / 0x40 = p := by omega
  have n1 : ¬ (0x300 + 0x40 * p) = 0x40 := by omega
  have n2 : ¬ (0x300 + 0x40 * p) = 0x50 := by omega
  have n3 : (0x300 + 0x40 * p) = 0x300 ∨ (0x300 + 0x40 * p) = 0x340 := by omega
  simp only [RegWrite.of_o, RegWrite.of_d, RegWrite.of_e, RegWrite.of_v, RegWrite.of_p, RegWrite.of_bar2, e1, n1, n2, n3]
  try simp
  try rfl

theorem exec_pathStop {a : Access} {p : Nat} {v : Word} {s : State} (hi : p < 2) (h : Reaches a 0 0x60 (0x310 + 0x40 * p) s) :
    exec (.pathStop a p v) s = .next (pathCtl p (v ||| 1).toNat (landWrite a.rq 0 s)) := by
  have ho : 0x40 ≤ (0x310 + 0x40 * p) ∧ (0x310 + 0x40 * p) < 0x1000 ∧ (0x310 + 0x40 * p) % 4 = 0 := by omega
  have hr : ∀ j, j < 2 → (regAt 0 (0x60 * 0x1000 + ((0x310 + 0x40 * j)))).isSome = true := by
    intro j hj; interval_cases j <;> rfl
  refine Eq.trans (b := execPathStop a p v s) rfl ?_
  unfold execPathStop
  refine (commandWrite_reaches (p := 0x60) (o := (0x310 + 0x40 * p)) h (decide_eq_true hi) (by decide) ho.1 ho.2.1 ho.2.2 (hr _ hi)).trans ?_
  rw [blockWrite_cue rfl]
  unfold cueWrite
  have e1 : ((0x310 + 0x40 * p) - 0x310) / 0x40 = p := by omega
  have n1 : ¬ (0x310 + 0x40 * p) = 0x40 := by omega
  have n2 : ¬ (0x310 + 0x40 * p) = 0x50 := by omega
  have n3 : ¬ ((0x310 + 0x40 * p) = 0x300 ∨ (0x310 + 0x40 * p) = 0x340) := by omega
  have n4 : (0x310 + 0x40 * p) = 0x310 ∨ (0x310 + 0x40 * p) = 0x350 := by omega
  simp only [RegWrite.of_o, RegWrite.of_d, RegWrite.of_e, RegWrite.of_v, RegWrite.of_p, RegWrite.of_bar2, e1, n1, n2, n3, n4]
  try simp
  try rfl

theorem exec_pathResume {a : Access} {p : Nat} {v : Word} {s : State} (hi : p < 2) (h : Reaches a 0 0x60 (0x310 + 0x40 * p) s) :
    exec (.pathResume a p v) s = .next (pathCtl p (v ||| 2).toNat (landWrite a.rq 0 s)) := by
  have ho : 0x40 ≤ (0x310 + 0x40 * p) ∧ (0x310 + 0x40 * p) < 0x1000 ∧ (0x310 + 0x40 * p) % 4 = 0 := by omega
  have hr : ∀ j, j < 2 → (regAt 0 (0x60 * 0x1000 + ((0x310 + 0x40 * j)))).isSome = true := by
    intro j hj; interval_cases j <;> rfl
  refine Eq.trans (b := execPathResume a p v s) rfl ?_
  unfold execPathResume
  refine (commandWrite_reaches (p := 0x60) (o := (0x310 + 0x40 * p)) h (decide_eq_true hi) (by decide) ho.1 ho.2.1 ho.2.2 (hr _ hi)).trans ?_
  rw [blockWrite_cue rfl]
  unfold cueWrite
  have e1 : ((0x310 + 0x40 * p) - 0x310) / 0x40 = p := by omega
  have n1 : ¬ (0x310 + 0x40 * p) = 0x40 := by omega
  have n2 : ¬ (0x310 + 0x40 * p) = 0x50 := by omega
  have n3 : ¬ ((0x310 + 0x40 * p) = 0x300 ∨ (0x310 + 0x40 * p) = 0x340) := by omega
  have n4 : (0x310 + 0x40 * p) = 0x310 ∨ (0x310 + 0x40 * p) = 0x350 := by omega
  simp only [RegWrite.of_o, RegWrite.of_d, RegWrite.of_e, RegWrite.of_v, RegWrite.of_p, RegWrite.of_bar2, e1, n1, n2, n3, n4]
  try simp
  try rfl

theorem exec_pathClear {a : Access} {p : Nat} {v : Word} {s : State} (hi : p < 2) (h : Reaches a 0 0x60 (0x310 + 0x40 * p) s) :
    exec (.pathClear a p v) s = .next (pathCtl p (v ||| 4).toNat (landWrite a.rq 0 s)) := by
  have ho : 0x40 ≤ (0x310 + 0x40 * p) ∧ (0x310 + 0x40 * p) < 0x1000 ∧ (0x310 + 0x40 * p) % 4 = 0 := by omega
  have hr : ∀ j, j < 2 → (regAt 0 (0x60 * 0x1000 + ((0x310 + 0x40 * j)))).isSome = true := by
    intro j hj; interval_cases j <;> rfl
  refine Eq.trans (b := execPathClear a p v s) rfl ?_
  unfold execPathClear
  refine (commandWrite_reaches (p := 0x60) (o := (0x310 + 0x40 * p)) h (decide_eq_true hi) (by decide) ho.1 ho.2.1 ho.2.2 (hr _ hi)).trans ?_
  rw [blockWrite_cue rfl]
  unfold cueWrite
  have e1 : ((0x310 + 0x40 * p) - 0x310) / 0x40 = p := by omega
  have n1 : ¬ (0x310 + 0x40 * p) = 0x40 := by omega
  have n2 : ¬ (0x310 + 0x40 * p) = 0x50 := by omega
  have n3 : ¬ ((0x310 + 0x40 * p) = 0x300 ∨ (0x310 + 0x40 * p) = 0x340) := by omega
  have n4 : (0x310 + 0x40 * p) = 0x310 ∨ (0x310 + 0x40 * p) = 0x350 := by omega
  simp only [RegWrite.of_o, RegWrite.of_d, RegWrite.of_e, RegWrite.of_v, RegWrite.of_p, RegWrite.of_bar2, e1, n1, n2, n3, n4]
  try simp
  try rfl

theorem exec_stepGo {a : Access} {d n : Nat} {v : Word} {s : State} (hi : n < 8) (h : Reaches a d 0x68 (0x11C + 0x40 * n) s) :
    exec (.stepGo a d n v) s = .next (if isFenced (.step d n) (landWrite a.rq d s) then (if testBit (v ||| 1).toNat 3 then unfence d 0x68 (.step d n) (landWrite a.rq d s) else (landWrite a.rq d s)) else stepCtl d n ((v ||| 1).toNat % 8) (landWrite a.rq d s)) := by
  have ho : 0x40 ≤ (0x11C + 0x40 * n) ∧ (0x11C + 0x40 * n) < 0x1000 ∧ (0x11C + 0x40 * n) % 4 = 0 := by omega
  have hr : ∀ j, j < 8 → (regAt d (0x68 * 0x1000 + ((0x11C + 0x40 * j)))).isSome = true := by
    intro j hj; interval_cases j <;> rfl
  refine Eq.trans (b := execStepGo a d n v s) rfl ?_
  unfold execStepGo
  refine (commandWrite_reaches (p := 0x68) (o := (0x11C + 0x40 * n)) h (decide_eq_true hi) (by decide) ho.1 ho.2.1 ho.2.2 (hr _ hi)).trans ?_
  rw [blockWrite_step rfl]
  unfold stepWrite
  have e1 : ((0x11C + 0x40 * n) - 0x100) / 0x40 = n := by omega
  have e2 : (0x11C + 0x40 * n) % 0x40 = 0x1c := by omega
  simp only [RegWrite.of_o, RegWrite.of_d, RegWrite.of_e, RegWrite.of_v, RegWrite.of_p, RegWrite.of_bar2, e1, e2]
  try simp
  try rfl

theorem exec_stepStop {a : Access} {d n : Nat} {v : Word} {s : State} (hi : n < 8) (h : Reaches a d 0x68 (0x11C + 0x40 * n) s) :
    exec (.stepStop a d n v) s = .next (if isFenced (.step d n) (landWrite a.rq d s) then (if testBit (v ||| 2).toNat 3 then unfence d 0x68 (.step d n) (landWrite a.rq d s) else (landWrite a.rq d s)) else stepCtl d n ((v ||| 2).toNat % 8) (landWrite a.rq d s)) := by
  have ho : 0x40 ≤ (0x11C + 0x40 * n) ∧ (0x11C + 0x40 * n) < 0x1000 ∧ (0x11C + 0x40 * n) % 4 = 0 := by omega
  have hr : ∀ j, j < 8 → (regAt d (0x68 * 0x1000 + ((0x11C + 0x40 * j)))).isSome = true := by
    intro j hj; interval_cases j <;> rfl
  refine Eq.trans (b := execStepStop a d n v s) rfl ?_
  unfold execStepStop
  refine (commandWrite_reaches (p := 0x68) (o := (0x11C + 0x40 * n)) h (decide_eq_true hi) (by decide) ho.1 ho.2.1 ho.2.2 (hr _ hi)).trans ?_
  rw [blockWrite_step rfl]
  unfold stepWrite
  have e1 : ((0x11C + 0x40 * n) - 0x100) / 0x40 = n := by omega
  have e2 : (0x11C + 0x40 * n) % 0x40 = 0x1c := by omega
  simp only [RegWrite.of_o, RegWrite.of_d, RegWrite.of_e, RegWrite.of_v, RegWrite.of_p, RegWrite.of_bar2, e1, e2]
  try simp
  try rfl

theorem exec_stepQstop {a : Access} {d n : Nat} {v : Word} {s : State} (hi : n < 8) (h : Reaches a d 0x68 (0x11C + 0x40 * n) s) :
    exec (.stepQstop a d n v) s = .next (if isFenced (.step d n) (landWrite a.rq d s) then (if testBit (v ||| 4).toNat 3 then unfence d 0x68 (.step d n) (landWrite a.rq d s) else (landWrite a.rq d s)) else stepCtl d n ((v ||| 4).toNat % 8) (landWrite a.rq d s)) := by
  have ho : 0x40 ≤ (0x11C + 0x40 * n) ∧ (0x11C + 0x40 * n) < 0x1000 ∧ (0x11C + 0x40 * n) % 4 = 0 := by omega
  have hr : ∀ j, j < 8 → (regAt d (0x68 * 0x1000 + ((0x11C + 0x40 * j)))).isSome = true := by
    intro j hj; interval_cases j <;> rfl
  refine Eq.trans (b := execStepQstop a d n v s) rfl ?_
  unfold execStepQstop
  refine (commandWrite_reaches (p := 0x68) (o := (0x11C + 0x40 * n)) h (decide_eq_true hi) (by decide) ho.1 ho.2.1 ho.2.2 (hr _ hi)).trans ?_
  rw [blockWrite_step rfl]
  unfold stepWrite
  have e1 : ((0x11C + 0x40 * n) - 0x100) / 0x40 = n := by omega
  have e2 : (0x11C + 0x40 * n) % 0x40 = 0x1c := by omega
  simp only [RegWrite.of_o, RegWrite.of_d, RegWrite.of_e, RegWrite.of_v, RegWrite.of_p, RegWrite.of_bar2, e1, e2]
  try simp
  try rfl

theorem exec_stepUnfence {a : Access} {d n : Nat} {v : Word} {s : State} (hi : n < 8) (h : Reaches a d 0x68 (0x11C + 0x40 * n) s) :
    exec (.stepUnfence a d n v) s = .next (if isFenced (.step d n) (landWrite a.rq d s) then (if testBit (v ||| 8).toNat 3 then unfence d 0x68 (.step d n) (landWrite a.rq d s) else (landWrite a.rq d s)) else stepCtl d n ((v ||| 8).toNat % 8) (landWrite a.rq d s)) := by
  have ho : 0x40 ≤ (0x11C + 0x40 * n) ∧ (0x11C + 0x40 * n) < 0x1000 ∧ (0x11C + 0x40 * n) % 4 = 0 := by omega
  have hr : ∀ j, j < 8 → (regAt d (0x68 * 0x1000 + ((0x11C + 0x40 * j)))).isSome = true := by
    intro j hj; interval_cases j <;> rfl
  refine Eq.trans (b := execStepUnfence a d n v s) rfl ?_
  unfold execStepUnfence
  refine (commandWrite_reaches (p := 0x68) (o := (0x11C + 0x40 * n)) h (decide_eq_true hi) (by decide) ho.1 ho.2.1 ho.2.2 (hr _ hi)).trans ?_
  rw [blockWrite_step rfl]
  unfold stepWrite
  have e1 : ((0x11C + 0x40 * n) - 0x100) / 0x40 = n := by omega
  have e2 : (0x11C + 0x40 * n) % 0x40 = 0x1c := by omega
  simp only [RegWrite.of_o, RegWrite.of_d, RegWrite.of_e, RegWrite.of_v, RegWrite.of_p, RegWrite.of_bar2, e1, e2]
  try simp
  try rfl

theorem exec_focUnfence {a : Access} {d n : Nat} {v : Word} {s : State} (hi : n < 4) (h : Reaches a d 0x69 (0x140 + 0x80 * n) s) :
    exec (.focUnfence a d n v) s = .next (focWrite (RegWrite.of a d 0x69 (0x140 + 0x80 * n) (v ||| 2)) (landWrite a.rq d s)) := by
  have ho : 0x40 ≤ (0x140 + 0x80 * n) ∧ (0x140 + 0x80 * n) < 0x1000 ∧ (0x140 + 0x80 * n) % 4 = 0 := by omega
  have hr : ∀ j, j < 4 → (regAt d (0x69 * 0x1000 + ((0x140 + 0x80 * j)))).isSome = true := by
    intro j hj; interval_cases j <;> rfl
  refine Eq.trans (b := execFocUnfence a d n v s) rfl ?_
  unfold execFocUnfence
  refine (commandWrite_reaches (p := 0x69) (o := (0x140 + 0x80 * n)) h (decide_eq_true hi) (by decide) ho.1 ho.2.1 ho.2.2 (hr _ hi)).trans ?_
  rw [blockWrite_foc rfl]

theorem exec_busUnfence {a : Access} {d b : Nat} {v : Word} {s : State} (hi : b < 4) (h : Reaches a d 0x6A (0x110 + 0x40 * b) s) :
    exec (.busUnfence a d b v) s = .next (busWrite (RegWrite.of a d 0x6A (0x110 + 0x40 * b) (v ||| 2)) (landWrite a.rq d s)) := by
  have ho : 0x40 ≤ (0x110 + 0x40 * b) ∧ (0x110 + 0x40 * b) < 0x1000 ∧ (0x110 + 0x40 * b) % 4 = 0 := by omega
  have hr : ∀ j, j < 4 → (regAt d (0x6A * 0x1000 + ((0x110 + 0x40 * j)))).isSome = true := by
    intro j hj; interval_cases j <;> rfl
  refine Eq.trans (b := execBusUnfence a d b v s) rfl ?_
  unfold execBusUnfence
  refine (commandWrite_reaches (p := 0x6A) (o := (0x110 + 0x40 * b)) h (decide_eq_true hi) (by decide) ho.1 ho.2.1 ho.2.2 (hr _ hi)).trans ?_
  rw [blockWrite_bus rfl]

theorem exec_chopBadClear {a : Access} {d b : Nat} {v : Word} {s : State} (hi : b < 4) (h : Reaches a d 0x6A (0x110 + 0x40 * b) s) :
    exec (.chopBadClear a d b v) s = .next (busWrite (RegWrite.of a d 0x6A (0x110 + 0x40 * b) (v ||| 4)) (landWrite a.rq d s)) := by
  have ho : 0x40 ≤ (0x110 + 0x40 * b) ∧ (0x110 + 0x40 * b) < 0x1000 ∧ (0x110 + 0x40 * b) % 4 = 0 := by omega
  have hr : ∀ j, j < 4 → (regAt d (0x6A * 0x1000 + ((0x110 + 0x40 * j)))).isSome = true := by
    intro j hj; interval_cases j <;> rfl
  refine Eq.trans (b := execChopBadClear a d b v s) rfl ?_
  unfold execChopBadClear
  refine (commandWrite_reaches (p := 0x6A) (o := (0x110 + 0x40 * b)) h (decide_eq_true hi) (by decide) ho.1 ho.2.1 ho.2.2 (hr _ hi)).trans ?_
  rw [blockWrite_bus rfl]

theorem exec_loopEnable {a : Access} {d : Nat} {v : Word} {s : State} (h : Reaches a d 0x70 0x40 s) :
    exec (.loopEnable a d v) s = .next (loopCtl d (v ||| 0x10000).toNat (landWrite a.rq d s)) := by
  refine Eq.trans (b := execLoopEnable a d v s) rfl ?_
  unfold execLoopEnable
  refine (commandWrite_reaches (p := 0x70) (o := 0x40) h rfl (by decide) (by decide) (by decide) (by decide) rfl).trans ?_
  rw [blockWrite_loop rfl]
  unfold loopWrite
  simp only [RegWrite.of_o, RegWrite.of_d, RegWrite.of_e, RegWrite.of_v, RegWrite.of_p, RegWrite.of_bar2]
  try simp
  try rfl

theorem exec_loopDisable {a : Access} {d : Nat} {v : Word} {s : State} (h : Reaches a d 0x70 0x40 s) :
    exec (.loopDisable a d v) s = .next (loopCtl d (v ||| 0x20000).toNat (landWrite a.rq d s)) := by
  refine Eq.trans (b := execLoopDisable a d v s) rfl ?_
  unfold execLoopDisable
  refine (commandWrite_reaches (p := 0x70) (o := 0x40) h rfl (by decide) (by decide) (by decide) (by decide) rfl).trans ?_
  rw [blockWrite_loop rfl]
  unfold loopWrite
  simp only [RegWrite.of_o, RegWrite.of_d, RegWrite.of_e, RegWrite.of_v, RegWrite.of_p, RegWrite.of_bar2]
  try simp
  try rfl

theorem exec_loopAuto {a : Access} {d : Nat} {v : Word} {s : State} (h : Reaches a d 0x70 0x40 s) :
    exec (.loopAuto a d v) s = .next (loopCtl d (v ||| 0x40000).toNat (landWrite a.rq d s)) := by
  refine Eq.trans (b := execLoopAuto a d v s) rfl ?_
  unfold execLoopAuto
  refine (commandWrite_reaches (p := 0x70) (o := 0x40) h rfl (by decide) (by decide) (by decide) (by decide) rfl).trans ?_
  rw [blockWrite_loop rfl]
  unfold loopWrite
  simp only [RegWrite.of_o, RegWrite.of_d, RegWrite.of_e, RegWrite.of_v, RegWrite.of_p, RegWrite.of_bar2]
  try simp
  try rfl

theorem exec_loopManual {a : Access} {d : Nat} {v : Word} {s : State} (h : Reaches a d 0x70 0x40 s) :
    exec (.loopManual a d v) s = .next (loopCtl d (v ||| 0x80000).toNat (landWrite a.rq d s)) := by
  refine Eq.trans (b := execLoopManual a d v s) rfl ?_
  unfold execLoopManual
  refine (commandWrite_reaches (p := 0x70) (o := 0x40) h rfl (by decide) (by decide) (by decide) (by decide) rfl).trans ?_
  rw [blockWrite_loop rfl]
  unfold loopWrite
  simp only [RegWrite.of_o, RegWrite.of_d, RegWrite.of_e, RegWrite.of_v, RegWrite.of_p, RegWrite.of_bar2]
  try simp
  try rfl

theorem exec_loopUnfence {a : Access} {d : Nat} {v : Word} {s : State} (h : Reaches a d 0x70 0x40 s) :
    exec (.loopUnfence a d v) s = .next (loopCtl d (v ||| 0x100000).toNat (landWrite a.rq d s)) := by
  refine Eq.trans (b := execLoopUnfence a d v s) rfl ?_
  unfold execLoopUnfence
  refine (commandWrite_reaches (p := 0x70) (o := 0x40) h rfl (by decide) (by decide) (by decide) (by decide) rfl).trans ?_
  rw [blockWrite_loop rfl]
  unfold loopWrite
  simp only [RegWrite.of_o, RegWrite.of_d, RegWrite.of_e, RegWrite.of_v, RegWrite.of_p, RegWrite.of_bar2]
  try simp
  try rfl

theorem exec_gpioSet {a : Access} {d : Nat} {v : Word} {s : State} (h : Reaches a d 0x78 0x48 s) :
    exec (.gpioSet a d v) s = .next (gpioSet d v.toNat (landWrite a.rq d s)) := by
  refine Eq.trans (b := execGpioSet a d v s) rfl ?_
  unfold execGpioSet
  refine (commandWrite_reaches (p := 0x78) (o := 0x48) h rfl (by decide) (by decide) (by decide) (by decide) rfl).trans ?_
  rw [blockWrite_gpio rfl]
  unfold gpioRegWrite
  simp only [RegWrite.of_o, RegWrite.of_d, RegWrite.of_e, RegWrite.of_v, RegWrite.of_p, RegWrite.of_bar2]
  try simp
  try rfl

theorem exec_gpioClr {a : Access} {d : Nat} {v : Word} {s : State} (h : Reaches a d 0x78 0x4C s) :
    exec (.gpioClr a d v) s = .next (gpioClr d v.toNat (landWrite a.rq d s)) := by
  refine Eq.trans (b := execGpioClr a d v s) rfl ?_
  unfold execGpioClr
  refine (commandWrite_reaches (p := 0x78) (o := 0x4C) h rfl (by decide) (by decide) (by decide) (by decide) rfl).trans ?_
  rw [blockWrite_gpio rfl]
  unfold gpioRegWrite
  simp only [RegWrite.of_o, RegWrite.of_d, RegWrite.of_e, RegWrite.of_v, RegWrite.of_p, RegWrite.of_bar2]
  try simp
  try rfl

theorem exec_txKick {a : Access} {p : Nat} {v : Word} {s : State} (hi : p < 2) (h : Reaches a 0 0x31 (0x114 + 0x100 * p) s) :
    exec (.txKick a p v) s = .next (txKick p (v.toNat % 8) (landWrite a.rq 0 s)) := by
  have ho : 0x40 ≤ (0x114 + 0x100 * p) ∧ (0x114 + 0x100 * p) < 0x1000 ∧ (0x114 + 0x100 * p) % 4 = 0 := by omega
  have hr : ∀ j, j < 2 → (regAt 0 (0x31 * 0x1000 + ((0x114 + 0x100 * j)))).isSome = true := by
    intro j hj; interval_cases j <;> rfl
  refine Eq.trans (b := execTxKick a p v s) rfl ?_
  unfold execTxKick
  refine (commandWrite_reaches (p := 0x31) (o := (0x114 + 0x100 * p)) h (decide_eq_true hi) (by decide) ho.1 ho.2.1 ho.2.2 (hr _ hi)).trans ?_
  rw [blockWrite_elnk rfl]
  unfold elnkWrite
  have e1 : ((0x114 + 0x100 * p) - 0x100) / 0x100 = p := by omega
  have e3 : ((0x114 + 0x100 * p) - 0x100) % 0x100 = 0x14 := by omega
  have e0 : ¬ (0x114 + 0x100 * p) < 0x100 := by omega
  simp only [RegWrite.of_o, RegWrite.of_d, RegWrite.of_e, RegWrite.of_v, RegWrite.of_p, RegWrite.of_bar2, e1, e3, e0]
  try simp
  try rfl

theorem exec_rxKick {a : Access} {p : Nat} {v : Word} {s : State} (hi : p < 2) (h : Reaches a 0 0x31 (0x118 + 0x100 * p) s) :
    exec (.rxKick a p v) s = .next (if testBit (v ||| 1).toNat 0 then rxKick p (landWrite a.rq 0 s) else (landWrite a.rq 0 s)) := by
  have ho : 0x40 ≤ (0x118 + 0x100 * p) ∧ (0x118 + 0x100 * p) < 0x1000 ∧ (0x118 + 0x100 * p) % 4 = 0 := by omega
  have hr : ∀ j, j < 2 → (regAt 0 (0x31 * 0x1000 + ((0x118 + 0x100 * j)))).isSome = true := by
    intro j hj; interval_cases j <;> rfl
  refine Eq.trans (b := execRxKick a p v s) rfl ?_
  unfold execRxKick
  refine (commandWrite_reaches (p := 0x31) (o := (0x118 + 0x100 * p)) h (decide_eq_true hi) (by decide) ho.1 ho.2.1 ho.2.2 (hr _ hi)).trans ?_
  rw [blockWrite_elnk rfl]
  unfold elnkWrite
  have e1 : ((0x118 + 0x100 * p) - 0x100) / 0x100 = p := by omega
  have e3 : ((0x118 + 0x100 * p) - 0x100) % 0x100 = 0x18 := by omega
  have e0 : ¬ (0x118 + 0x100 * p) < 0x100 := by omega
  simp only [RegWrite.of_o, RegWrite.of_d, RegWrite.of_e, RegWrite.of_v, RegWrite.of_p, RegWrite.of_bar2, e1, e3, e0]
  try simp
  try rfl

theorem exec_timeIncr {a : Access} {v : Word} {s : State} (h : Reaches a 0 0x32 0x90 s) :
    exec (.timeIncr a v) s = .next (if a.bar2 then (landWrite a.rq 0 s) else timeIncr ((RegWrite.of a 0 0x32 0x90 v).store (landWrite a.rq 0 s))) := by
  refine Eq.trans (b := execTimeIncr a v s) rfl ?_
  unfold execTimeIncr
  refine (commandWrite_reaches (p := 0x32) (o := 0x90) h rfl (by decide) (by decide) (by decide) (by decide) rfl).trans ?_
  rw [blockWrite_time rfl]
  unfold timeWrite
  simp only [RegWrite.of_o, RegWrite.of_d, RegWrite.of_e, RegWrite.of_v, RegWrite.of_p, RegWrite.of_bar2]
  try simp
  try rfl

theorem exec_timeAdj {a : Access} {v : Word} {s : State} (h : Reaches a 0 0x32 0x94 s) :
    exec (.timeAdj a v) s = .next (if a.bar2 then (landWrite a.rq 0 s) else timeAdj v.toNat (landWrite a.rq 0 s)) := by
  refine Eq.trans (b := execTimeAdj a v s) rfl ?_
  unfold execTimeAdj
  refine (commandWrite_reaches (p := 0x32) (o := 0x94) h rfl (by decide) (by decide) (by decide) (by decide) rfl).trans ?_
  rw [blockWrite_time rfl]
  unfold timeWrite
  simp only [RegWrite.of_o, RegWrite.of_d, RegWrite.of_e, RegWrite.of_v, RegWrite.of_p, RegWrite.of_bar2]
  try simp
  try rfl

theorem exec_timeSet {a : Access} {v : Word} {s : State} (h : Reaches a 0 0x32 0xA4 s) :
    exec (.timeSet a v) s = .next (if testBit (v ||| 1).toNat 0 then timeSet (landWrite a.rq 0 s) else (landWrite a.rq 0 s)) := by
  refine Eq.trans (b := execTimeSet a v s) rfl ?_
  unfold execTimeSet
  refine (commandWrite_reaches (p := 0x32) (o := 0xA4) h rfl (by decide) (by decide) (by decide) (by decide) rfl).trans ?_
  rw [blockWrite_time rfl]
  unfold timeWrite
  simp only [RegWrite.of_o, RegWrite.of_d, RegWrite.of_e, RegWrite.of_v, RegWrite.of_p, RegWrite.of_bar2]
  try simp
  try rfl

theorem exec_memInit {a : Access} {d : Nat} {v : Word} {s : State} (h : Reaches a d 0x38 0x44 s) :
    exec (.memInit a d v) s = .next (if testBit (v ||| 1).toNat 0 then memInit d (landWrite a.rq d s) else (landWrite a.rq d s)) := by
  refine Eq.trans (b := execMemInit a d v s) rfl ?_
  unfold execMemInit
  refine (commandWrite_reaches (p := 0x38) (o := 0x44) h rfl (by decide) (by decide) (by decide) (by decide) rfl).trans ?_
  rw [blockWrite_memc rfl]
  unfold memcWrite
  simp only [RegWrite.of_o, RegWrite.of_d, RegWrite.of_e, RegWrite.of_v, RegWrite.of_p, RegWrite.of_bar2]
  try simp
  try rfl

theorem exec_dmaEnable {a : Access} {d n : Nat} {v : Word} {s : State} (hi : n < 8) (h : Reaches a d 0x39 (0x10C + 0x40 * n) s) :
    exec (.dmaEnable a d n v) s = .next (if isFenced (.dma d n) (landWrite a.rq d s) then (if testBit v.toNat 3 then unfence d 0x39 (.dma d n) (landWrite a.rq d s) else (landWrite a.rq d s)) else dmaCtl d n (flag (R.DMA.CTL_EN d n) (landWrite a.rq d s)) v.toNat ((RegWrite.of a d 0x39 (0x10C + 0x40 * n) v).store (landWrite a.rq d s))) := by
  have ho : 0x40 ≤ (0x10C + 0x40 * n) ∧ (0x10C + 0x40 * n) < 0x1000 ∧ (0x10C + 0x40 * n) % 4 = 0 := by omega
  have hr : ∀ j, j < 8 → (regAt d (0x39 * 0x1000 + ((0x10C + 0x40 * j)))).isSome = true := by
    intro j hj; interval_cases j <;> rfl
  refine Eq.trans (b := execDmaEnable a d n v s) rfl ?_
  unfold execDmaEnable
  refine (commandWrite_reaches (p := 0x39) (o := (0x10C + 0x40 * n)) h (decide_eq_true hi) (by decide) ho.1 ho.2.1 ho.2.2 (hr _ hi)).trans ?_
  rw [blockWrite_dma rfl]
  unfold dmaWrite
  have e1 : ((0x10C + 0x40 * n) - 0x100) / 0x40 = n := by omega
  have e2 : (0x10C + 0x40 * n) % 0x40 = 0xc := by omega
  simp only [RegWrite.of_o, RegWrite.of_d, RegWrite.of_e, RegWrite.of_v, RegWrite.of_p, RegWrite.of_bar2, e1, e2]
  try simp
  try rfl

theorem exec_dmaKick {a : Access} {d n : Nat} {v : Word} {s : State} (hi : n < 8) (h : Reaches a d 0x39 (0x10C + 0x40 * n) s) :
    exec (.dmaKick a d n v) s = .next (if isFenced (.dma d n) (landWrite a.rq d s) then (if testBit (v ||| 2).toNat 3 then unfence d 0x39 (.dma d n) (landWrite a.rq d s) else (landWrite a.rq d s)) else dmaCtl d n (flag (R.DMA.CTL_EN d n) (landWrite a.rq d s)) (v ||| 2).toNat ((RegWrite.of a d 0x39 (0x10C + 0x40 * n) (v ||| 2)).store (landWrite a.rq d s))) := by
  have ho : 0x40 ≤ (0x10C + 0x40 * n) ∧ (0x10C + 0x40 * n) < 0x1000 ∧ (0x10C + 0x40 * n) % 4 = 0 := by omega
  have hr : ∀ j, j < 8 → (regAt d (0x39 * 0x1000 + ((0x10C + 0x40 * j)))).isSome = true := by
    intro j hj; interval_cases j <;> rfl
  refine Eq.trans (b := execDmaKick a d n v s) rfl ?_
  unfold execDmaKick
  refine (commandWrite_reaches (p := 0x39) (o := (0x10C + 0x40 * n)) h (decide_eq_true hi) (by decide) ho.1 ho.2.1 ho.2.2 (hr _ hi)).trans ?_
  rw [blockWrite_dma rfl]
  unfold dmaWrite
  have e1 : ((0x10C + 0x40 * n) - 0x100) / 0x40 = n := by omega
  have e2 : (0x10C + 0x40 * n) % 0x40 = 0xc := by omega
  simp only [RegWrite.of_o, RegWrite.of_d, RegWrite.of_e, RegWrite.of_v, RegWrite.of_p, RegWrite.of_bar2, e1, e2]
  try simp
  try rfl

theorem exec_dmaAbort {a : Access} {d n : Nat} {v : Word} {s : State} (hi : n < 8) (h : Reaches a d 0x39 (0x10C + 0x40 * n) s) :
    exec (.dmaAbort a d n v) s = .next (if isFenced (.dma d n) (landWrite a.rq d s) then (if testBit (v ||| 4).toNat 3 then unfence d 0x39 (.dma d n) (landWrite a.rq d s) else (landWrite a.rq d s)) else dmaCtl d n (flag (R.DMA.CTL_EN d n) (landWrite a.rq d s)) (v ||| 4).toNat ((RegWrite.of a d 0x39 (0x10C + 0x40 * n) (v ||| 4)).store (landWrite a.rq d s))) := by
  have ho : 0x40 ≤ (0x10C + 0x40 * n) ∧ (0x10C + 0x40 * n) < 0x1000 ∧ (0x10C + 0x40 * n) % 4 = 0 := by omega
  have hr : ∀ j, j < 8 → (regAt d (0x39 * 0x1000 + ((0x10C + 0x40 * j)))).isSome = true := by
    intro j hj; interval_cases j <;> rfl
  refine Eq.trans (b := execDmaAbort a d n v s) rfl ?_
  unfold execDmaAbort
  refine (commandWrite_reaches (p := 0x39) (o := (0x10C + 0x40 * n)) h (decide_eq_true hi) (by decide) ho.1 ho.2.1 ho.2.2 (hr _ hi)).trans ?_
  rw [blockWrite_dma rfl]
  unfold dmaWrite
  have e1 : ((0x10C + 0x40 * n) - 0x100) / 0x40 = n := by omega
  have e2 : (0x10C + 0x40 * n) % 0x40 = 0xc := by omega
  simp only [RegWrite.of_o, RegWrite.of_d, RegWrite.of_e, RegWrite.of_v, RegWrite.of_p, RegWrite.of_bar2, e1, e2]
  try simp
  try rfl

theorem exec_dmaUnfence {a : Access} {d n : Nat} {v : Word} {s : State} (hi : n < 8) (h : Reaches a d 0x39 (0x10C + 0x40 * n) s) :
    exec (.dmaUnfence a d n v) s = .next (if isFenced (.dma d n) (landWrite a.rq d s) then (if testBit (v ||| 8).toNat 3 then unfence d 0x39 (.dma d n) (landWrite a.rq d s) else (landWrite a.rq d s)) else dmaCtl d n (flag (R.DMA.CTL_EN d n) (landWrite a.rq d s)) (v ||| 8).toNat ((RegWrite.of a d 0x39 (0x10C + 0x40 * n) (v ||| 8)).store (landWrite a.rq d s))) := by
  have ho : 0x40 ≤ (0x10C + 0x40 * n) ∧ (0x10C + 0x40 * n) < 0x1000 ∧ (0x10C + 0x40 * n) % 4 = 0 := by omega
  have hr : ∀ j, j < 8 → (regAt d (0x39 * 0x1000 + ((0x10C + 0x40 * j)))).isSome = true := by
    intro j hj; interval_cases j <;> rfl
  refine Eq.trans (b := execDmaUnfence a d n v s) rfl ?_
  unfold execDmaUnfence
  refine (commandWrite_reaches (p := 0x39) (o := (0x10C + 0x40 * n)) h (decide_eq_true hi) (by decide) ho.1 ho.2.1 ho.2.2 (hr _ hi)).trans ?_
  rw [blockWrite_dma rfl]
  unfold dmaWrite
  have e1 : ((0x10C + 0x40 * n) - 0x100) / 0x40 = n := by omega
  have e2 : (0x10C + 0x40 * n) % 0x40 = 0xc := by omega
  simp only [RegWrite.of_o, RegWrite.of_d, RegWrite.of_e, RegWrite.of_v, RegWrite.of_p, RegWrite.of_bar2, e1, e2]
  try simp
  try rfl

theorem exec_railRequest {a : Access} {v : Word} {s : State} (h : Reaches a 0 0x13 0x44 s) :
    exec (.railRequest a v) s = .next ((RegWrite.of a 0 0x13 0x44 v).store (landWrite a.rq 0 s)) := by
  refine Eq.trans (b := execRailRequest a v s) rfl ?_
  unfold execRailRequest
  refine (commandWrite_reaches (p := 0x13) (o := 0x44) h rfl (by decide) (by decide) (by decide) (by decide) rfl).trans ?_
  rw [blockWrite_seq rfl]
  unfold seqWrite
  simp only [RegWrite.of_o, RegWrite.of_d, RegWrite.of_e, RegWrite.of_v, RegWrite.of_p, RegWrite.of_bar2]
  try simp
  try rfl

theorem exec_railClear {a : Access} {v : Word} {s : State} (h : Reaches a 0 0x13 0x50 s) :
    exec (.railClear a v) s = .next (railClear v.toNat (landWrite a.rq 0 s)) := by
  refine Eq.trans (b := execRailClear a v s) rfl ?_
  unfold execRailClear
  refine (commandWrite_reaches (p := 0x13) (o := 0x50) h rfl (by decide) (by decide) (by decide) (by decide) rfl).trans ?_
  rw [blockWrite_seq rfl]
  unfold seqWrite
  simp only [RegWrite.of_o, RegWrite.of_d, RegWrite.of_e, RegWrite.of_v, RegWrite.of_p, RegWrite.of_bar2]
  try simp
  try rfl

theorem exec_logSnap {a : Access} {v : Word} {s : State} (h : Reaches a 0 0x15 0x58 s) :
    exec (.logSnap a v) s = .next (if testBit (v ||| 1).toNat 0 then logTrigger 7 0 (landWrite a.rq 0 s) else (landWrite a.rq 0 s)) := by
  refine Eq.trans (b := execLogSnap a v s) rfl ?_
  unfold execLogSnap
  refine (commandWrite_reaches (p := 0x15) (o := 0x58) h rfl (by decide) (by decide) (by decide) (by decide) rfl).trans ?_
  rw [blockWrite_nvs rfl]
  unfold nvsWrite
  simp only [RegWrite.of_o, RegWrite.of_d, RegWrite.of_e, RegWrite.of_v, RegWrite.of_p, RegWrite.of_bar2]
  try simp
  try rfl

theorem exec_softwareReset {a : Access} {d : Nat} {v : Word} {s : State} (h : Reaches a d 0x10 0x40 s) :
    exec (.softwareReset a d v) s = .next (rstWrite (RegWrite.of a d 0x10 0x40 (v ||| 1)) (landWrite a.rq d s)) := by
  refine Eq.trans (b := execSoftwareReset a d v s) rfl ?_
  unfold execSoftwareReset
  refine (commandWrite_reaches (p := 0x10) (o := 0x40) h rfl (by decide) (by decide) (by decide) (by decide) rfl).trans ?_
  rw [blockWrite_rst rfl]

theorem exec_watchdogKick {a : Access} {d : Nat} {v : Word} {s : State} (h : Reaches a d 0x10 0x54 s) :
    exec (.watchdogKick a d v) s = .next (rstWrite (RegWrite.of a d 0x10 0x54 v) (landWrite a.rq d s)) := by
  refine Eq.trans (b := execWatchdogKick a d v s) rfl ?_
  unfold execWatchdogKick
  refine (commandWrite_reaches (p := 0x10) (o := 0x54) h rfl (by decide) (by decide) (by decide) (by decide) rfl).trans ?_
  rw [blockWrite_rst rfl]

theorem exec_pkgWatchdogKick {a : Access} {v : Word} {s : State} (h : Reaches a 0 0x10 0x64 s) :
    exec (.pkgWatchdogKick a v) s = .next (rstWrite (RegWrite.of a 0 0x10 0x64 v) (landWrite a.rq 0 s)) := by
  refine Eq.trans (b := execPkgWatchdogKick a v s) rfl ?_
  unfold execPkgWatchdogKick
  refine (commandWrite_reaches (p := 0x10) (o := 0x64) h rfl (by decide) (by decide) (by decide) (by decide) rfl).trans ?_
  rw [blockWrite_rst rfl]

theorem exec_fuseBurn {a : Access} {v : Word} {s : State} (h : Reaches a 0 0x10 0x78 s) :
    exec (.fuseBurn a v) s = .next (rstWrite (RegWrite.of a 0 0x10 0x78 (v ||| 1)) (landWrite a.rq 0 s)) := by
  refine Eq.trans (b := execFuseBurn a v s) rfl ?_
  unfold execFuseBurn
  refine (commandWrite_reaches (p := 0x10) (o := 0x78) h rfl (by decide) (by decide) (by decide) (by decide) rfl).trans ?_
  rw [blockWrite_rst rfl]

theorem exec_fuseLock {a : Access} {v : Word} {s : State} (h : Reaches a 0 0x10 0x78 s) :
    exec (.fuseLock a v) s = .next (rstWrite (RegWrite.of a 0 0x10 0x78 (v ||| 2)) (landWrite a.rq 0 s)) := by
  refine Eq.trans (b := execFuseLock a v s) rfl ?_
  unfold execFuseLock
  refine (commandWrite_reaches (p := 0x10) (o := 0x78) h rfl (by decide) (by decide) (by decide) (by decide) rfl).trans ?_
  rw [blockWrite_rst rfl]

end Sys2Proof.Machine
end

