-- ==== Sys2Proof/Laws/Fields.lean ====
section
/-! SUPPORT. The fields of a register lie apart, and a write gives each of them what its access type says. -/

namespace Sys2Proof.Machine

/-- Fields that lie within the word and apart from each other, and whose bounds fit them. -/
def fieldsApart : List FieldD → Bool
  | [] => true
  | f :: t => decide (f.lsb + f.width ≤ 32) && decide (f.lo < 2 ^ f.width) && decide (f.hi < 2 ^ f.width) &&
      t.all (fun g => decide (f.lsb + f.width ≤ g.lsb ∨ g.lsb + g.width ≤ f.lsb)) && fieldsApart t

theorem header_apart : Layout.header.all (fun r => fieldsApart r.fields) = true := by decide

theorem block_apart (k : PageKind) : (Layout.blockRegs k).all (fun r => fieldsApart r.fields) = true := by
  cases k <;> decide

theorem find_apart {k : PageKind} {o : Nat} {r : RegD} (h : Layout.find k o = some r) : fieldsApart r.fields = true := by
  unfold Layout.find at h
  split at h
  · exact List.all_eq_true.mp header_apart r (List.mem_of_find?_eq_some h)
  · exact List.all_eq_true.mp (block_apart k) r (List.mem_of_find?_eq_some h)

/-- The fields of a register of the layout lie apart. -/
theorem regAt_apart {d o : Nat} {r : RegD} (h : regAt d o = some r) : fieldsApart r.fields = true := by
  unfold regAt at h
  split at h
  · cases h
  · split at h
    · rename_i k _ _ r' hf
      have := find_apart hf
      split at h
      · cases h
      · cases h; exact this
    · cases h

theorem bitsOf_lt (v i n : Nat) : bitsOf v i n < 2 ^ n := Nat.mod_lt _ (Nat.two_pow_pos _)

theorem storeField_lt {bar2 : Bool} {v w : Nat} {f : FieldD} (h : f.lsb + f.width ≤ 32) (hw : w < 2 ^ 32) :
    storeField bar2 v w f < 2 ^ 32 := by
  unfold storeField
  split
  · exact hw
  · dsimp only
    split
    · exact withBits_lt h (withBits_lt h hw)
    · exact withBits_lt h (withBits_lt h hw)
    · exact withBits_lt h hw
    · exact withBits_lt h hw
    · exact hw
    · exact hw

/-- A write of one field leaves what lies apart from it. -/
theorem storeField_apart {bar2 : Bool} {v w i n : Nat} {f : FieldD} (h : i + n ≤ f.lsb ∨ f.lsb + f.width ≤ i) :
    bitsOf (storeField bar2 v w f) i n = bitsOf w i n := by
  have k : ∀ u x, bitsOf (withBits u f.lsb f.width x) i n = bitsOf u i n := fun u x => by
    rcases h with h | h
    · exact bitsOf_withBits_below h
    · exact bitsOf_withBits_above h
  unfold storeField
  split
  · rfl
  · dsimp only
    split
    · exact (k _ _).trans (k _ _)
    · exact (k _ _).trans (k _ _)
    · exact k _ _
    · exact k _ _
    · rfl
    · rfl

theorem storeField_same {bar2 : Bool} {v w : Nat} {f : FieldD} (hl : f.lo < 2 ^ f.width) (hh : f.hi < 2 ^ f.width) :
    bitsOf (storeField bar2 v w f) f.lsb f.width =
      fieldAfter bar2 f (bitsOf w f.lsb f.width) (bitsOf v f.lsb f.width) := by
  have hn := bitsOf_lt v f.lsb f.width
  have ho := bitsOf_lt w f.lsb f.width
  have hm : Nat.max f.lo (Nat.min f.hi (bitsOf v f.lsb f.width)) < 2 ^ f.width :=
    Nat.max_lt.mpr ⟨hl, lt_of_le_of_lt (Nat.min_le_left _ _) hh⟩
  have hc : ∀ u x, x < 2 ^ f.width → bitsOf (clampField f (withBits u f.lsb f.width x)) f.lsb f.width =
      Nat.max f.lo (Nat.min f.hi x) := fun u x hx => by
    have hx' : Nat.max f.lo (Nat.min f.hi x) < 2 ^ f.width :=
      Nat.max_lt.mpr ⟨hl, lt_of_le_of_lt (Nat.min_le_left _ _) hh⟩
    unfold clampField
    rw [bitsOf_withBits_same, bitsOf_withBits_same, Nat.mod_eq_of_lt hx, Nat.mod_eq_of_lt hx']
  unfold storeField fieldAfter
  split
  · rfl
  · dsimp only
    cases f.acc <;> dsimp only
    · exact hc _ _ hn
    · rw [bitsOf_withBits_same, Nat.mod_eq_of_lt]
      exact lt_of_le_of_lt Nat.and_le_left ho
    · rw [bitsOf_withBits_same, Nat.mod_eq_of_lt]
      exact Nat.or_lt_two_pow ho hn
    · exact hc _ _ hn

theorem storeFold_lt {bar2 : Bool} {v : Nat} (l : List FieldD) : ∀ {w : Nat}, fieldsApart l = true → w < 2 ^ 32 →
    l.foldl (storeField bar2 v) w < 2 ^ 32 := by
  induction l with
  | nil => exact fun _ h => h
  | cons f t ih =>
    intro w h hw
    simp only [fieldsApart, Bool.and_eq_true, decide_eq_true_eq] at h
    exact ih h.2 (storeField_lt h.1.1.1.1 hw)

theorem storeFold_apart {bar2 : Bool} {v i n : Nat} (l : List FieldD) : ∀ {w : Nat},
    (∀ f ∈ l, i + n ≤ f.lsb ∨ f.lsb + f.width ≤ i) → bitsOf (l.foldl (storeField bar2 v) w) i n = bitsOf w i n := by
  induction l with
  | nil => exact fun _ => rfl
  | cons f t ih =>
    intro w h
    rw [List.foldl_cons, ih (fun g hg => h g (List.mem_cons_of_mem _ hg))]
    exact storeField_apart (h f List.mem_cons_self)

/-- Each field takes what its access type says. -/
theorem storeFold_field {bar2 : Bool} {v : Nat} (l : List FieldD) : ∀ {w : Nat}, fieldsApart l = true → ∀ f ∈ l,
    bitsOf (l.foldl (storeField bar2 v) w) f.lsb f.width =
      fieldAfter bar2 f (bitsOf w f.lsb f.width) (bitsOf v f.lsb f.width) := by
  induction l with
  | nil => exact fun _ f hf => by cases hf
  | cons g t ih =>
    intro w h f hf
    simp only [fieldsApart, Bool.and_eq_true, decide_eq_true_eq, List.all_eq_true] at h
    obtain ⟨⟨⟨⟨-, hl⟩, hh⟩, ha⟩, ht⟩ := h
    rw [List.foldl_cons]
    rcases List.mem_cons.mp hf with rfl | hf
    · rw [storeFold_apart t (fun e he => ha e he)]
      exact storeField_same hl hh
    · rw [ih ht f hf, storeField_apart]
      exact (ha f hf).symm

/-- What a field of the register written holds. -/
theorem rd_store {w : RegWrite} {s : State} (h : fieldsApart w.r.fields = true) {f : FieldD} (hf : f ∈ w.r.fields) :
    rd ⟨w.at, f.lsb, f.width⟩ (w.store s) =
      fieldAfter w.bar2 f (rd ⟨w.at, f.lsb, f.width⟩ s) (bitsOf w.v f.lsb f.width) := by
  unfold rd RegWrite.store
  rw [word_putWord_same, BitVec.toNat_ofNat, Nat.mod_eq_of_lt (storeFold_lt _ h (word w.at s).isLt)]
  exact storeFold_field _ h f hf

theorem word_store_ne {w : RegWrite} {s : State} {a : Nat} (h : a ≠ w.at) : word a (w.store s) = word a s :=
  word_putWord_ne _ s h

theorem rd_store_ne {w : RegWrite} {s : State} {l : Loc} (h : l.addr ≠ w.at) : rd l (w.store s) = rd l s := by
  unfold rd; rw [word_store_ne h]

end Sys2Proof.Machine
end

