-- ==== Sys2Proof/Laws/Getters.lean ====
section
/-! SUPPORT. What reading an entry of a table gives after it, or another, is written. -/

namespace Sys2Proof.Machine

theorem laneOf_congr (d n : Nat) {s t : State} (hk : t.lanes = s.lanes) : laneOf d n t = laneOf d n s := by
  unfold laneOf; rw [hk]

@[simp] theorem laneOf_setLane (d n : Nat) (x : Lane) (s : State) : laneOf d n (setLane d n x s) = x := by
  unfold laneOf setLane; exact mapGet_set_same _ _ _ _

theorem laneOf_setLane_ne {d n : Nat} {d' n' : Nat} (x : Lane) (s : State) (hk : (16 * d + n) ≠ (16 * d' + n')) :
    laneOf d n (setLane d' n' x s) = laneOf d n s := by
  unfold laneOf setLane; exact mapGet_set_other _ _ _ hk

theorem bondOf_congr (i : Nat) {s t : State} (hk : t.bonds = s.bonds) : bondOf i t = bondOf i s := by
  unfold bondOf; rw [hk]

@[simp] theorem bondOf_setBond (i : Nat) (x : Bond) (s : State) : bondOf i (setBond i x s) = x := by
  unfold bondOf setBond; exact mapGet_set_same _ _ _ _

theorem bondOf_setBond_ne {i : Nat} {i' : Nat} (x : Bond) (s : State) (hk : i ≠ i') :
    bondOf i (setBond i' x s) = bondOf i s := by
  unfold bondOf setBond; exact mapGet_set_other _ _ _ hk

theorem rasterOf_congr (d : Nat) {s t : State} (hk : t.rasters = s.rasters) : rasterOf d t = rasterOf d s := by
  unfold rasterOf; rw [hk]

@[simp] theorem rasterOf_setRaster (d : Nat) (x : Raster) (s : State) : rasterOf d (setRaster d x s) = x := by
  unfold rasterOf setRaster; exact mapGet_set_same _ _ _ _

theorem rasterOf_setRaster_ne {d : Nat} {d' : Nat} (x : Raster) (s : State) (hk : d ≠ d') :
    rasterOf d (setRaster d' x s) = rasterOf d s := by
  unfold rasterOf setRaster; exact mapGet_set_other _ _ _ hk

theorem ageOf_congr (k : Nat) {s t : State} (hk : t.ages = s.ages) : ageOf k t = ageOf k s := by
  unfold ageOf; rw [hk]

@[simp] theorem ageOf_setAge (k : Nat) (x : AgeRun) (s : State) : ageOf k (setAge k x s) = x := by
  unfold ageOf setAge; exact mapGet_set_same _ _ _ _

theorem ageOf_setAge_ne {k : Nat} {k' : Nat} (x : AgeRun) (s : State) (hk : k ≠ k') :
    ageOf k (setAge k' x s) = ageOf k s := by
  unfold ageOf setAge; exact mapGet_set_other _ _ _ hk

theorem calJobOf_congr (d : Nat) {s t : State} (hk : t.calJobs = s.calJobs) : calJobOf d t = calJobOf d s := by
  unfold calJobOf; rw [hk]

@[simp] theorem calJobOf_setCalJob (d : Nat) (x : Option CalJob) (s : State) : calJobOf d (setCalJob d x s) = x := by
  unfold calJobOf setCalJob; exact mapGet_set_same _ _ _ _

theorem calJobOf_setCalJob_ne {d : Nat} {d' : Nat} (x : Option CalJob) (s : State) (hk : d ≠ d') :
    calJobOf d (setCalJob d' x s) = calJobOf d s := by
  unfold calJobOf setCalJob; exact mapGet_set_other _ _ _ hk

theorem markOf_congr (d m : Nat) {s t : State} (hk : t.marks = s.marks) : markOf d m t = markOf d m s := by
  unfold markOf; rw [hk]

@[simp] theorem markOf_setMark (d m : Nat) (x : MarkInput) (s : State) : markOf d m (setMark d m x s) = x := by
  unfold markOf setMark; exact mapGet_set_same _ _ _ _

theorem markOf_setMark_ne {d m : Nat} {d' m' : Nat} (x : MarkInput) (s : State) (hk : (4 * d + m) ≠ (4 * d' + m')) :
    markOf d m (setMark d' m' x s) = markOf d m s := by
  unfold markOf setMark; exact mapGet_set_other _ _ _ hk

theorem jobOf_congr (d n : Nat) {s t : State} (hk : t.jobs = s.jobs) : jobOf d n t = jobOf d n s := by
  unfold jobOf; rw [hk]

@[simp] theorem jobOf_setJob (d n : Nat) (x : Option Job) (s : State) : jobOf d n (setJob d n x s) = x := by
  unfold jobOf setJob; exact mapGet_set_same _ _ _ _

theorem jobOf_setJob_ne {d n : Nat} {d' n' : Nat} (x : Option Job) (s : State) (hk : (8 * d + n) ≠ (8 * d' + n')) :
    jobOf d n (setJob d' n' x s) = jobOf d n s := by
  unfold jobOf setJob; exact mapGet_set_other _ _ _ hk

theorem jobNextOf_congr (d : Nat) (bg : Bool) {s t : State} (hk : t.jobNext = s.jobNext) : jobNextOf d bg t = jobNextOf d bg s := by
  unfold jobNextOf; rw [hk]

@[simp] theorem jobNextOf_setJobNext (d : Nat) (bg : Bool) (x : Nat) (s : State) : jobNextOf d bg (setJobNext d bg x s) = x := by
  unfold jobNextOf setJobNext; exact mapGet_set_same _ _ _ _

theorem jobNextOf_setJobNext_ne {d : Nat} {bg : Bool} {d' : Nat} {bg' : Bool} (x : Nat) (s : State) (hk : (ringKey d bg) ≠ (ringKey d' bg')) :
    jobNextOf d bg (setJobNext d' bg' x s) = jobNextOf d bg s := by
  unfold jobNextOf setJobNext; exact mapGet_set_other _ _ _ hk

theorem counterOf_congr (d c : Nat) {s t : State} (hk : t.counters = s.counters) : counterOf d c t = counterOf d c s := by
  unfold counterOf; rw [hk]

@[simp] theorem counterOf_setCounter (d c : Nat) (x : PosCounter) (s : State) : counterOf d c (setCounter d c x s) = x := by
  unfold counterOf setCounter; exact mapGet_set_same _ _ _ _

theorem counterOf_setCounter_ne {d c : Nat} {d' c' : Nat} (x : PosCounter) (s : State) (hk : (8 * d + c) ≠ (8 * d' + c')) :
    counterOf d c (setCounter d' c' x s) = counterOf d c s := by
  unfold counterOf setCounter; exact mapGet_set_other _ _ _ hk

theorem encoderOf_congr (d e : Nat) {s t : State} (hk : t.encoders = s.encoders) : encoderOf d e t = encoderOf d e s := by
  unfold encoderOf; rw [hk]

@[simp] theorem encoderOf_setEncoder (d e : Nat) (x : Encoder) (s : State) : encoderOf d e (setEncoder d e x s) = x := by
  unfold encoderOf setEncoder; exact mapGet_set_same _ _ _ _

theorem encoderOf_setEncoder_ne {d e : Nat} {d' e' : Nat} (x : Encoder) (s : State) (hk : (8 * d + e) ≠ (8 * d' + e')) :
    encoderOf d e (setEncoder d' e' x s) = encoderOf d e s := by
  unfold encoderOf setEncoder; exact mapGet_set_other _ _ _ hk

theorem cueOf_congr (d n : Nat) {s t : State} (hk : t.cues = s.cues) : cueOf d n t = cueOf d n s := by
  unfold cueOf; rw [hk]

@[simp] theorem cueOf_setCue (d n : Nat) (x : CueRun) (s : State) : cueOf d n (setCue d n x s) = x := by
  unfold cueOf setCue; exact mapGet_set_same _ _ _ _

theorem cueOf_setCue_ne {d n : Nat} {d' n' : Nat} (x : CueRun) (s : State) (hk : (512 * d + n) ≠ (512 * d' + n')) :
    cueOf d n (setCue d' n' x s) = cueOf d n s := by
  unfold cueOf setCue; exact mapGet_set_other _ _ _ hk

theorem startListOf_congr (k : Nat) {s t : State} (hk : t.startLists = s.startLists) : startListOf k t = startListOf k s := by
  unfold startListOf; rw [hk]

theorem dmaOf_congr (d n : Nat) {s t : State} (hk : t.dmas = s.dmas) : dmaOf d n t = dmaOf d n s := by
  unfold dmaOf; rw [hk]

@[simp] theorem dmaOf_setDma (d n : Nat) (x : DmaCh) (s : State) : dmaOf d n (setDma d n x s) = x := by
  unfold dmaOf setDma; exact mapGet_set_same _ _ _ _

theorem dmaOf_setDma_ne {d n : Nat} {d' n' : Nat} (x : DmaCh) (s : State) (hk : (8 * d + n) ≠ (8 * d' + n')) :
    dmaOf d n (setDma d' n' x s) = dmaOf d n s := by
  unfold dmaOf setDma; exact mapGet_set_other _ _ _ hk

theorem focOf_congr (d n : Nat) {s t : State} (hk : t.focs = s.focs) : focOf d n t = focOf d n s := by
  unfold focOf; rw [hk]

@[simp] theorem focOf_setFoc (d n : Nat) (x : FocCh) (s : State) : focOf d n (setFoc d n x s) = x := by
  unfold focOf setFoc; exact mapGet_set_same _ _ _ _

theorem focOf_setFoc_ne {d n : Nat} {d' n' : Nat} (x : FocCh) (s : State) (hk : (4 * d + n) ≠ (4 * d' + n')) :
    focOf d n (setFoc d' n' x s) = focOf d n s := by
  unfold focOf setFoc; exact mapGet_set_other _ _ _ hk

theorem busOf_congr (d b : Nat) {s t : State} (hk : t.buses = s.buses) : busOf d b t = busOf d b s := by
  unfold busOf; rw [hk]

@[simp] theorem busOf_setBus (d b : Nat) (x : BusRun) (s : State) : busOf d b (setBus d b x s) = x := by
  unfold busOf setBus; exact mapGet_set_same _ _ _ _

theorem busOf_setBus_ne {d b : Nat} {d' b' : Nat} (x : BusRun) (s : State) (hk : (4 * d + b) ≠ (4 * d' + b')) :
    busOf d b (setBus d' b' x s) = busOf d b s := by
  unfold busOf setBus; exact mapGet_set_other _ _ _ hk

theorem staOf_congr (k : Nat) {s t : State} (hk : t.stations = s.stations) : staOf k t = staOf k s := by
  unfold staOf; rw [hk]

@[simp] theorem staOf_setSta (k : Nat) (x : Station) (s : State) : staOf k (setSta k x s) = x := by
  unfold staOf setSta; exact mapGet_set_same _ _ _ _

theorem staOf_setSta_ne {k : Nat} {k' : Nat} (x : Station) (s : State) (hk : k ≠ k') :
    staOf k (setSta k' x s) = staOf k s := by
  unfold staOf setSta; exact mapGet_set_other _ _ _ hk

theorem headOf_congr (k : Nat) {s t : State} (hk : t.headLinks = s.headLinks) : headOf k t = headOf k s := by
  unfold headOf; rw [hk]

@[simp] theorem headOf_setHead (k : Nat) (x : HeadLink) (s : State) : headOf k (setHead k x s) = x := by
  unfold headOf setHead; exact mapGet_set_same _ _ _ _

theorem headOf_setHead_ne {k : Nat} {k' : Nat} (x : HeadLink) (s : State) (hk : k ≠ k') :
    headOf k (setHead k' x s) = headOf k s := by
  unfold headOf setHead; exact mapGet_set_other _ _ _ hk

theorem tapOf_congr (d : Nat) {s t : State} (hk : t.taps = s.taps) : tapOf d t = tapOf d s := by
  unfold tapOf; rw [hk]

@[simp] theorem tapOf_setTap (d : Nat) (x : Tap) (s : State) : tapOf d (setTap d x s) = x := by
  unfold tapOf setTap; exact mapGet_set_same _ _ _ _

theorem tapOf_setTap_ne {d : Nat} {d' : Nat} (x : Tap) (s : State) (hk : d ≠ d') :
    tapOf d (setTap d' x s) = tapOf d s := by
  unfold tapOf setTap; exact mapGet_set_other _ _ _ hk

theorem loopOf_congr (d i : Nat) {s t : State} (hk : t.loops = s.loops) : loopOf d i t = loopOf d i s := by
  unfold loopOf; rw [hk]

@[simp] theorem loopOf_setLoop (d i : Nat) (x : LoopCtx) (s : State) : loopOf d i (setLoop d i x s) = x := by
  unfold loopOf setLoop; exact mapGet_set_same _ _ _ _

theorem loopOf_setLoop_ne {d i : Nat} {d' i' : Nat} (x : LoopCtx) (s : State) (hk : (160 * d + i) ≠ (160 * d' + i')) :
    loopOf d i (setLoop d' i' x s) = loopOf d i s := by
  unfold loopOf setLoop; exact mapGet_set_other _ _ _ hk

theorem gpioOf_congr (d : Nat) {s t : State} (hk : t.gpios = s.gpios) : gpioOf d t = gpioOf d s := by
  unfold gpioOf; rw [hk]

@[simp] theorem gpioOf_setGpio (d : Nat) (x : Gpio) (s : State) : gpioOf d (setGpio d x s) = x := by
  unfold gpioOf setGpio; exact mapGet_set_same _ _ _ _

theorem gpioOf_setGpio_ne {d : Nat} {d' : Nat} (x : Gpio) (s : State) (hk : d ≠ d') :
    gpioOf d (setGpio d' x s) = gpioOf d s := by
  unfold gpioOf setGpio; exact mapGet_set_other _ _ _ hk

theorem heaterOf_congr (d h : Nat) {s t : State} (hk : t.heaters = s.heaters) : heaterOf d h t = heaterOf d h s := by
  unfold heaterOf; rw [hk]

@[simp] theorem heaterOf_setHeater (d h : Nat) (x : Heater) (s : State) : heaterOf d h (setHeater d h x s) = x := by
  unfold heaterOf setHeater; exact mapGet_set_same _ _ _ _

theorem heaterOf_setHeater_ne {d h : Nat} {d' h' : Nat} (x : Heater) (s : State) (hk : (4 * d + h) ≠ (4 * d' + h')) :
    heaterOf d h (setHeater d' h' x s) = heaterOf d h s := by
  unfold heaterOf setHeater; exact mapGet_set_other _ _ _ hk

theorem pathRunOf_congr (p : Nat) {s t : State} (hk : t.paths = s.paths) : pathRunOf p t = pathRunOf p s := by
  unfold pathRunOf; rw [hk]

@[simp] theorem pathRunOf_setPathRun (p : Nat) (x : PathRun) (s : State) : pathRunOf p (setPathRun p x s) = x := by
  unfold pathRunOf setPathRun; exact mapGet_set_same _ _ _ _

theorem pathRunOf_setPathRun_ne {p : Nat} {p' : Nat} (x : PathRun) (s : State) (hk : p ≠ p') :
    pathRunOf p (setPathRun p' x s) = pathRunOf p s := by
  unfold pathRunOf setPathRun; exact mapGet_set_other _ _ _ hk

theorem cffOf_congr (d ch : Nat) {s t : State} (hk : t.cffs = s.cffs) : cffOf d ch t = cffOf d ch s := by
  unfold cffOf; rw [hk]

@[simp] theorem cffOf_setCff (d ch : Nat) (x : List CffEntry) (s : State) : cffOf d ch (setCff d ch x s) = x := by
  unfold cffOf setCff; exact mapGet_set_same _ _ _ _

theorem cffOf_setCff_ne {d ch : Nat} {d' ch' : Nat} (x : List CffEntry) (s : State) (hk : (8 * d + ch) ≠ (8 * d' + ch')) :
    cffOf d ch (setCff d' ch' x s) = cffOf d ch s := by
  unfold cffOf setCff; exact mapGet_set_other _ _ _ hk

theorem scrubOf_congr (d : Nat) {s t : State} (hk : t.scrubs = s.scrubs) : scrubOf d t = scrubOf d s := by
  unfold scrubOf; rw [hk]

@[simp] theorem scrubOf_setScrub (d : Nat) (x : Scrub) (s : State) : scrubOf d (setScrub d x s) = x := by
  unfold scrubOf setScrub; exact mapGet_set_same _ _ _ _

theorem scrubOf_setScrub_ne {d : Nat} {d' : Nat} (x : Scrub) (s : State) (hk : d ≠ d') :
    scrubOf d (setScrub d' x s) = scrubOf d s := by
  unfold scrubOf setScrub; exact mapGet_set_other _ _ _ hk

theorem ethOf_congr (p : Nat) {s t : State} (hk : t.eths = s.eths) : ethOf p t = ethOf p s := by
  unfold ethOf; rw [hk]

@[simp] theorem ethOf_setEth (p : Nat) (x : EthPort) (s : State) : ethOf p (setEth p x s) = x := by
  unfold ethOf setEth; exact mapGet_set_same _ _ _ _

theorem ethOf_setEth_ne {p : Nat} {p' : Nat} (x : EthPort) (s : State) (hk : p ≠ p') :
    ethOf p (setEth p' x s) = ethOf p s := by
  unfold ethOf setEth; exact mapGet_set_other _ _ _ hk

theorem releaseOf_congr (d : Nat) {s t : State} (hk : t.releases = s.releases) : releaseOf d t = releaseOf d s := by
  unfold releaseOf; rw [hk]

@[simp] theorem releaseOf_setRelease (d : Nat) (x : Release) (s : State) : releaseOf d (setRelease d x s) = x := by
  unfold releaseOf setRelease; exact mapGet_set_same _ _ _ _

theorem releaseOf_setRelease_ne {d : Nat} {d' : Nat} (x : Release) (s : State) (hk : d ≠ d') :
    releaseOf d (setRelease d' x s) = releaseOf d s := by
  unfold releaseOf setRelease; exact mapGet_set_other _ _ _ hk

theorem domainOf_congr (d dom : Nat) {s t : State} (hk : t.domains = s.domains) : domainOf d dom t = domainOf d dom s := by
  unfold domainOf; rw [hk]

@[simp] theorem domainOf_setDomain (d dom : Nat) (x : Domain) (s : State) : domainOf d dom (setDomain d dom x s) = x := by
  unfold domainOf setDomain; exact mapGet_set_same _ _ _ _

theorem domainOf_setDomain_ne {d dom : Nat} {d' dom' : Nat} (x : Domain) (s : State) (hk : (16 * d + dom) ≠ (16 * d' + dom')) :
    domainOf d dom (setDomain d' dom' x s) = domainOf d dom s := by
  unfold domainOf setDomain; exact mapGet_set_other _ _ _ hk

theorem txnOf_congr (d i : Nat) {s t : State} (hk : t.txns = s.txns) : txnOf d i t = txnOf d i s := by
  unfold txnOf; rw [hk]

@[simp] theorem txnOf_setTxn (d i : Nat) (x : TxnSlot) (s : State) : txnOf d i (setTxn d i x s) = x := by
  unfold txnOf setTxn; exact mapGet_set_same _ _ _ _

theorem txnOf_setTxn_ne {d i : Nat} {d' i' : Nat} (x : TxnSlot) (s : State) (hk : (8 * d + i) ≠ (8 * d' + i')) :
    txnOf d i (setTxn d' i' x s) = txnOf d i s := by
  unfold txnOf setTxn; exact mapGet_set_other _ _ _ hk

theorem slotOf_congr (i : Nat) {s t : State} (hk : t.slots = s.slots) : slotOf i t = slotOf i s := by
  unfold slotOf; rw [hk]

@[simp] theorem slotOf_setSlot (i : Nat) (x : Slot) (s : State) : slotOf i (setSlot i x s) = x := by
  unfold slotOf setSlot; exact mapGet_set_same _ _ _ _

theorem slotOf_setSlot_ne {i : Nat} {i' : Nat} (x : Slot) (s : State) (hk : i ≠ i') :
    slotOf i (setSlot i' x s) = slotOf i s := by
  unfold slotOf setSlot; exact mapGet_set_other _ _ _ hk

theorem planeOf_congr (i k : Nat) {s t : State} (hk : t.planes = s.planes) : planeOf i k t = planeOf i k s := by
  unfold planeOf; rw [hk]

@[simp] theorem planeOf_setPlane (i k : Nat) (x : Plane) (s : State) : planeOf i k (setPlane i k x s) = x := by
  unfold planeOf setPlane; exact mapGet_set_same _ _ _ _

theorem planeOf_setPlane_ne {i k : Nat} {i' k' : Nat} (x : Plane) (s : State) (hk : (16 * i + k) ≠ (16 * i' + k')) :
    planeOf i k (setPlane i' k' x s) = planeOf i k s := by
  unfold planeOf setPlane; exact mapGet_set_other _ _ _ hk

theorem retainedOf_congr (i : Nat) {s t : State} (hk : t.retained = s.retained) : retainedOf i t = retainedOf i s := by
  unfold retainedOf; rw [hk]

@[simp] theorem retainedOf_setRetained (i : Nat) (x : Retained) (s : State) : retainedOf i (setRetained i x s) = x := by
  unfold retainedOf setRetained; exact mapGet_set_same _ _ _ _

theorem retainedOf_setRetained_ne {i : Nat} {i' : Nat} (x : Retained) (s : State) (hk : i ≠ i') :
    retainedOf i (setRetained i' x s) = retainedOf i s := by
  unfold retainedOf setRetained; exact mapGet_set_other _ _ _ hk

theorem clockOf_congr (d : Nat) {s t : State} (hk : t.clocks = s.clocks) : clockOf d t = clockOf d s := by
  unfold clockOf; rw [hk]

@[simp] theorem clockOf_setClock (d : Nat) (x : DieClock) (s : State) : clockOf d (setClock d x s) = x := by
  unfold clockOf setClock; exact mapGet_set_same _ _ _ _

theorem clockOf_setClock_ne {d : Nat} {d' : Nat} (x : DieClock) (s : State) (hk : d ≠ d') :
    clockOf d (setClock d' x s) = clockOf d s := by
  unfold clockOf setClock; exact mapGet_set_other _ _ _ hk

theorem adcOf_congr (d a : Nat) {s t : State} (hk : t.adcs = s.adcs) : adcOf d a t = adcOf d a s := by
  unfold adcOf; rw [hk]

theorem hvOverOf_congr (d n : Nat) {s t : State} (hk : t.hvOver = s.hvOver) : hvOverOf d n t = hvOverOf d n s := by
  unfold hvOverOf; rw [hk]

theorem zeroOf_congr (d : Nat) {s t : State} (hk : t.zeros = s.zeros) : zeroOf d t = zeroOf d s := by
  unfold zeroOf; rw [hk]

@[simp] theorem zeroOf_setZero (d : Nat) (x : ZeroCross) (s : State) : zeroOf d (setZero d x s) = x := by
  unfold zeroOf setZero; exact mapGet_set_same _ _ _ _

theorem zeroOf_setZero_ne {d : Nat} {d' : Nat} (x : ZeroCross) (s : State) (hk : d ≠ d') :
    zeroOf d (setZero d' x s) = zeroOf d s := by
  unfold zeroOf setZero; exact mapGet_set_other _ _ _ hk

theorem railOf_congr (n : Nat) {s t : State} (hk : t.rails = s.rails) : railOf n t = railOf n s := by
  unfold railOf; rw [hk]

@[simp] theorem railOf_setRail (n : Nat) (x : Rail) (s : State) : railOf n (setRail n x s) = x := by
  unfold railOf setRail; exact mapGet_set_same _ _ _ _

theorem railOf_setRail_ne {n : Nat} {n' : Nat} (x : Rail) (s : State) (hk : n ≠ n') :
    railOf n (setRail n' x s) = railOf n s := by
  unfold railOf setRail; exact mapGet_set_other _ _ _ hk

theorem dogAt_congr (i : Nat) {s t : State} (hk : t.dogs = s.dogs) : dogAt i t = dogAt i s := by
  unfold dogAt; rw [hk]

theorem stepOf_congr (d n : Nat) {s t : State} (hk : t.steps = s.steps) : stepOf d n t = stepOf d n s := by
  unfold stepOf; rw [hk]

@[simp] theorem stepOf_setStep (d n : Nat) (x : StepCh) (s : State) : stepOf d n (setStep d n x s) = x := by
  unfold stepOf setStep; exact mapGet_set_same _ _ _ _

theorem stepOf_setStep_ne {d n : Nat} {d' n' : Nat} (x : StepCh) (s : State) (hk : (8 * d + n) ≠ (8 * d' + n')) :
    stepOf d n (setStep d' n' x s) = stepOf d n s := by
  unfold stepOf setStep; exact mapGet_set_other _ _ _ hk

theorem dlaneOf_congr (d n : Nat) {s t : State} (hk : t.dlanes = s.dlanes) : dlaneOf d n t = dlaneOf d n s := by
  unfold dlaneOf; rw [hk]

@[simp] theorem dlaneOf_setDlane (d n : Nat) (x : DecodeLane) (s : State) : dlaneOf d n (setDlane d n x s) = x := by
  unfold dlaneOf setDlane; exact mapGet_set_same _ _ _ _

theorem dlaneOf_setDlane_ne {d n : Nat} {d' n' : Nat} (x : DecodeLane) (s : State) (hk : (32 * d + n) ≠ (32 * d' + n')) :
    dlaneOf d n (setDlane d' n' x s) = dlaneOf d n s := by
  unfold dlaneOf setDlane; exact mapGet_set_other _ _ _ hk

theorem imagerOf_congr (k : Nat) {s t : State} (hk : t.imagers = s.imagers) : imagerOf k t = imagerOf k s := by
  unfold imagerOf; rw [hk]

@[simp] theorem imagerOf_setImager (k : Nat) (x : Imager) (s : State) : imagerOf k (setImager k x s) = x := by
  unfold imagerOf setImager; exact mapGet_set_same _ _ _ _

theorem imagerOf_setImager_ne {k : Nat} {k' : Nat} (x : Imager) (s : State) (hk : k ≠ k') :
    imagerOf k (setImager k' x s) = imagerOf k s := by
  unfold imagerOf setImager; exact mapGet_set_other _ _ _ hk

theorem thermalOf_congr (d : Nat) {s t : State} (hk : t.thermals = s.thermals) : thermalOf d t = thermalOf d s := by
  unfold thermalOf; rw [hk]

@[simp] theorem thermalOf_setThermal (d : Nat) (x : Thermal) (s : State) : thermalOf d (setThermal d x s) = x := by
  unfold thermalOf setThermal; exact mapGet_set_same _ _ _ _

theorem thermalOf_setThermal_ne {d : Nat} {d' : Nat} (x : Thermal) (s : State) (hk : d ≠ d') :
    thermalOf d (setThermal d' x s) = thermalOf d s := by
  unfold thermalOf setThermal; exact mapGet_set_other _ _ _ hk

end Sys2Proof.Machine
end

