-- ==== Sys2Proof/Laws/KeepsBlocks.lean ====
section
/-! SUPPORT. What every operation of Blocks keeps. -/

namespace Sys2Proof.Machine

theorem setBond_keeps {z : State} {i : Nat} {v : Bond} {s : State} (h : Keeps z s) : Keeps z (setBond i v s) :=
  (Keeps.update h)

theorem setLane_keeps {z : State} {d : Nat} {n : Nat} {v : Lane} {s : State} (h : Keeps z s) : Keeps z (setLane d n v
    s) :=
  (Keeps.update h)

theorem invalidHeader_keeps {z : State} {d : Nat} {n : Nat} {s : State} (h : Keeps z s) : Keeps z (invalidHeader d n
    s) :=
  (recordFault_keeps (bump_keeps h))

theorem loopBack_keeps {z : State} {d : Nat} {n : Nat} {bits : List Bool} {s : State} (h : Keeps z s) : Keeps z
    (loopBack d n bits s) :=
  (keeps_ite (bumpBy_keeps (setLane_keeps h)) (keeps_ite (invalidHeader_keeps (setLane_keeps h)) (setLane_keeps h)))

theorem laneWire_keeps {z : State} {d : Nat} {n : Nat} {bits : List Bool} {s : State} (h : Keeps z s) : Keeps z
    (laneWire d n bits s) :=
  (onlyIf_keeps (fun _ h1 => (loopBack_keeps h1)) (setLane_keeps h))

theorem openBits_keeps {z : State} {s : State} (h : Keeps z s) : Keeps z (openBits s).2 :=
  (drawFree_keeps (drawFree_keeps (drawFree_keeps h)))

theorem fillRead_keeps {z : State} {d : Nat} {n : Nat} {s : State} (h : Keeps z s) : Keeps z (fillRead d n s) :=
  (wr_keeps h)

theorem laneSlot_keeps {z : State} {d : Nat} {n : Nat} {b : Block} {s : State} (h : Keeps z s) : Keeps z (laneSlot d n
    b s) :=
  (keeps_ite (setLane_keeps h) (keeps_ite (laneWire_keeps (setLane_keeps h)) (keeps_ite (laneWire_keeps
    (openBits_keeps h)) (fillRead_keeps (laneWire_keeps (setLane_keeps h))))))

theorem bondSlot_keeps {z : State} {i : Nat} {s : State} (h : Keeps z s) : Keeps z (bondSlot i s) :=
  (foldl_keeps (fun _ _ h1 => (laneSlot_keeps h1)) (setBond_keeps h))

theorem bondTick_keeps {z : State} {i : Nat} {s : State} (h : Keeps z s) : Keeps z (bondTick i s) := by
  have e := Eq.refl @bondTick; conv_rhs at e => delta bondTick
  rw [e]
  (try dsimp only)
  split <;> (try dsimp only)
  exacts [h, (keeps_ite (setBond_keeps h) (bondSlot_keeps (setBond_keeps h)))]

theorem laneTick_keeps {z : State} {d : Nat} {n : Nat} {s : State} (h : Keeps z s) : Keeps z (laneTick d n s) :=
  (keeps_ite h (keeps_ite (setLane_keeps h) (laneSlot_keeps (setLane_keeps h))))

theorem linkTick_keeps {z : State} {s : State} (h : Keeps z s) : Keeps z (linkTick s) :=
  (foldl_keeps (fun _ _ h1 => (laneTick_keeps h1)) (foldl_keeps (fun _ _ h1 => (bondTick_keeps h1)) h))

theorem streamPacket_keeps {z : State} {i : Nat} {b : List Sys2Proof.Byte} {s : State} (h : Keeps z s) : Keeps z
    (streamPacket i b s) :=
  (keeps_ite h (setBond_keeps h))

end Sys2Proof.Machine
end

