-- ==== Sys2Proof/Laws/KeepsHeadTx.lean ====
section
/-! SUPPORT. What every operation of HeadTx keeps. -/

namespace Sys2Proof.Machine

theorem showCredits_keeps {z : State} {k : Nat} {s : State} (h : Keeps z s) : Keeps z (showCredits k s) :=
  (wr_keeps (wr_keeps h))

theorem setHead_keeps {z : State} {k : Nat} {v : HeadLink} {s : State} (h : Keeps z s) : Keeps z (setHead k v s) :=
  (Keeps.update h)

theorem closeSession_keeps {z : State} {k : Nat} {s : State} (h : Keeps z s) : Keeps z (closeSession k s) :=
  (showCredits_keeps (wr_keeps (setHead_keeps h)))

theorem headOut_keeps {z : State} {k : Nat} {psn : Nat} {p : HeadPkt} {s : State} (h : Keeps z s) : Keeps z (headOut k
    psn p s) :=
  (streamPacket_keeps (Keeps.update h))

theorem headSendNow_keeps {z : State} {k : Nat} {p : HeadPkt} {s : State} (h : Keeps z s) : Keeps z (headSendNow k p
    s) :=
  (showCredits_keeps (wr_keeps (setHead_keeps (headOut_keeps h))))

theorem headPumpFrom_keeps {z : State} {k : Nat} {x1 : List HeadPkt} {lb : Bool} {cb : Bool} {x4 : State} (h : Keeps z
    x4) : Keeps z (headPumpFrom k x1 lb cb x4) := by
  fun_induction headPumpFrom k x1 lb cb x4 <;> first | exact Keeps.update (by assumption) | grind [setHead_keeps, headSendNow_keeps]

theorem headPump_keeps {z : State} {k : Nat} {s : State} (h : Keeps z s) : Keeps z (headPump k s) :=
  (headPumpFrom_keeps (setHead_keeps h))

theorem headSend_keeps {z : State} {k : Nat} {ps : List HeadPkt} {s : State} (h : Keeps z s) : Keeps z (headSend k ps
    s) :=
  (headPump_keeps (setHead_keeps h))

theorem sendLintab_keeps {z : State} {k : Nat} {s : State} (h : Keeps z s) : Keeps z (sendLintab k s) :=
  (keeps_ite h (headSend_keeps (wr_keeps h)))

theorem setSta_keeps {z : State} {k : Nat} {v : Station} {s : State} (h : Keeps z s) : Keeps z (setSta k v s) :=
  (Keeps.update h)

theorem enterRun_keeps {z : State} {k : Nat} {s : State} (h : Keeps z s) : Keeps z (enterRun k s) :=
  (sendLintab_keeps (evt_keeps (wr_keeps (setSta_keeps h))))

theorem linChanged_keeps {z : State} {k : Nat} {old : State} {s : State} (h : Keeps z s) : Keeps z (linChanged k old
    s) :=
  (keeps_ite h (sendLintab_keeps h))

end Sys2Proof.Machine
end

