-- ==== Sys2Proof/Laws/KeepsBonds.lean ====
section
/-! SUPPORT. What every operation of Bonds keeps. -/

namespace Sys2Proof.Machine

theorem bondLost_keeps {z : State} {i : Nat} {s : State} (h : Keeps z s) : Keeps z (bondLost i s) :=
  (keeps_ite (keeps_ite (evt_keeps (wr_keeps (setBond_keeps h))) (wr_keeps (setBond_keeps h))) h)

theorem bondLaneDown_keeps {z : State} {d : Nat} {n : Nat} {s : State} (h : Keeps z s) : Keeps z (bondLaneDown d n s)
    :=
  (keeps_ite (bondLost_keeps (setBond_keeps h)) h)

theorem rasterSend_keeps {z : State} {d : Nat} {type : Nat} {body : List Nat} {s : State} (h : Keeps z s) : Keeps z
    (rasterSend d type body s) :=
  (streamPacket_keeps (Keeps.update h))

theorem sendAck_keeps {z : State} {d : Nat} {init : Nat} {psn : Nat} {s : State} (h : Keeps z s) : Keeps z (sendAck d
    init psn s) :=
  (rasterSend_keeps h)

theorem bondUp_keeps {z : State} {i : Nat} {s : State} (h : Keeps z s) : Keeps z (bondUp i s) :=
  (keeps_ite (keeps_ite (sendAck_keeps (evt_keeps (wr_keeps (setBond_keeps h)))) (evt_keeps (wr_keeps (setBond_keeps
    h)))) (headPump_keeps (wr_keeps (setBond_keeps h))))

theorem setRaster_keeps {z : State} {d : Nat} {v : Raster} {s : State} (h : Keeps z s) : Keeps z (setRaster d v s) :=
  (Keeps.update h)

theorem closeRaster_keeps {z : State} {d : Nat} {s : State} (h : Keeps z s) : Keeps z (closeRaster d s) :=
  (wr_keeps (setRaster_keeps h))

theorem execAlignmentMarker_keeps {z : State} {d : Nat} {n : Nat} {body : List Sys2Proof.Byte} {gap : Nat} {skew :
    Nat} {s : State} (h : Keeps z s) : KeepsO z (execAlignmentMarker d n body gap skew s) := by
  have e := Eq.refl @execAlignmentMarker; conv_rhs at e => delta execAlignmentMarker
  rw [e]
  (try dsimp only)
  split <;> (try dsimp only)
  exacts [(.next h), (keepsO_ite (.next h) (.next (keeps_ite (keeps_ite (setBond_keeps h) (bondLost_keeps (setBond_keeps h))) (keeps_ite (bondUp_keeps (setBond_keeps h)) (setBond_keeps h)))))]

theorem execBondAlignTimeout_keeps {z : State} {d : Nat} {s : State} (h : Keeps z s) : KeepsO z (execBondAlignTimeout
    d s) :=
  (keepsO_ite (.next (evt_keeps (setBond_keeps h))) (.next h))

theorem showHeadBond_keeps {z : State} {k : Nat} {st : Nat} {lanes : List Nat} {s : State} (h : Keeps z s) : Keeps z
    (showHeadBond k st lanes s) :=
  (wr_keeps (wr_keeps (wr_keeps h)))

theorem headForm_keeps {z : State} {k : Nat} {s : State} (h : Keeps z s) : Keeps z (headForm k s) :=
  (keeps_ite (keeps_ite (wr_keeps h) h) (keeps_ite (evt_keeps (keeps_ite (showHeadBond_keeps (setBond_keeps h))
    (wr_keeps (showHeadBond_keeps (setBond_keeps h))))) (keeps_ite (showHeadBond_keeps (setBond_keeps h)) (wr_keeps
    (showHeadBond_keeps (setBond_keeps h))))))

theorem rasterForm_keeps {z : State} {d : Nat} {s : State} (h : Keeps z s) : Keeps z (rasterForm d s) :=
  (keeps_ite (wr_keeps (setBond_keeps (keeps_ite (evt_keeps h) h))) (keeps_ite (wr_keeps (setBond_keeps (keeps_ite
    (evt_keeps h) h))) (wr_keeps (wr_keeps (wr_keeps (wr_keeps (setBond_keeps (keeps_ite (evt_keeps h) h))))))))

theorem rasterFence_keeps {z : State} {d : Nat} {s : State} (h : Keeps z s) : Keeps z (rasterFence d s) :=
  (keeps_ite h (rasterForm_keeps (closeRaster_keeps (addFence_keeps h))))

theorem sendCredit_keeps {z : State} {d : Nat} {init : Nat} {s : State} (h : Keeps z s) : Keeps z (sendCredit d init
    s) :=
  (rasterSend_keeps (setRaster_keeps h))

theorem regrant_keeps {z : State} {d : Nat} {s : State} (h : Keeps z s) : Keeps z (regrant d s) :=
  (keeps_ite h (sendCredit_keeps (setRaster_keeps h)))

theorem sendNak_keeps {z : State} {d : Nat} {s : State} (h : Keeps z s) : Keeps z (sendNak d s) :=
  (bump_keeps (rasterSend_keeps (setRaster_keeps h)))

theorem spareTakeover_keeps {z : State} {k : Nat} {s : State} (h : Keeps z s) : Keeps z (spareTakeover k s) := by
  have e := Eq.refl @spareTakeover; conv_rhs at e => delta spareTakeover
  rw [e]
  (try dsimp only)
  split <;> (try dsimp only)
  exacts [(evt_keeps (wr_keeps (wr_keeps h))), h]

end Sys2Proof.Machine
end

