-- ==== Sys2Proof/Laws/KeepsPageMem.lean ====
section
/-! SUPPORT. What every operation of PageMem keeps. -/

namespace Sys2Proof.Machine

theorem memErrRec_keeps {z : State} {kind : Nat} {agent : Nat} {a : Nat} {s : State} (h : Keeps z s) : Keeps z
    (memErrRec kind agent a s) :=
  (keeps_ite h (evt_keeps (putWord_keeps (wr_keeps h))))

theorem healBlocks_keeps {z : State} {a : Nat} {n : Nat} {s : State} (h : Keeps z s) : Keeps z (healBlocks a n s) :=
  (Keeps.update h)

theorem agentWrite_keeps {z : State} {agent : Nat} {a : Nat} {bs : List Sys2Proof.Byte} {s : State} (h : Keeps z s) :
    Keeps z (agentWrite agent a bs s).2 := by
  have e := Eq.refl @agentWrite; conv_rhs at e => delta agentWrite
  rw [e]
  (try dsimp only)
  split <;> (try dsimp only)
  exacts [(memErrRec_keeps h), (memWrite_keeps (healBlocks_keeps h))]

theorem agentPut_keeps {z : State} {agent : Nat} {a : Nat} {bs : List Sys2Proof.Byte} {s : State} (h : Keeps z s) :
    Keeps z (agentPut agent a bs s) :=
  (agentWrite_keeps h)

theorem uncorrectable_keeps {z : State} {agent : Nat} {block : Nat} {s : State} (h : Keeps z s) : Keeps z
    (uncorrectable agent block s) := by
  have e := Eq.refl @uncorrectable; conv_rhs at e => delta uncorrectable
  rw [e]
  exact (memErrRec_keeps (recordFault_keeps (bump_keeps h)))

theorem agentRead_keeps {z : State} {agent : Nat} {a : Nat} {n : Nat} {s : State} (h : Keeps z s) : Keeps z (agentRead
    agent a n s).2 := by
  have e := Eq.refl @agentRead; conv_rhs at e => delta agentRead
  rw [e]
  (try dsimp only)
  split <;> (try dsimp only)
  exacts [(memErrRec_keeps h), (by (try dsimp only); split <;> (try dsimp only); exacts [(uncorrectable_keeps h), h])]

theorem corrected_keeps {z : State} {d : Nat} {s : State} (h : Keeps z s) : Keeps z (corrected d s) :=
  (recordFault_keeps (bump_keeps h))

end Sys2Proof.Machine
end

