-- ==== Sys2Proof/Laws/KeepsDma.lean ====
section
/-! SUPPORT. What every operation of Dma keeps. -/

namespace Sys2Proof.Machine

theorem dmaTable_keeps {z : State} {q : DmaDesc} {s : State} (h : Keeps z s) : Keeps z (dmaTable q s).2.2 :=
  (keeps_ite2 h (keeps_ite2 h (by (try dsimp only); split <;> (try dsimp only); exacts [(Keeps.ofPair (by assumption)
    (agentRead_keeps h)), (Keeps.ofPair (by assumption) (agentRead_keeps h)), (Keeps.ofPair (by assumption)
    (agentRead_keeps h))])))

theorem dmaCheck_keeps {z : State} {q : DmaDesc} {s : State} (h : Keeps z s) : Keeps z (dmaCheck q s).2.2 :=
  (keeps_ite2 h (keeps_ite2 (dmaTable_keeps h) (dmaTable_keeps h)))

theorem setDma_keeps {z : State} {d : Nat} {n : Nat} {c : DmaCh} {s : State} (h : Keeps z s) : Keeps z (setDma d n c
    s) :=
  (Keeps.update h)

theorem dmaSettle_keeps {z : State} {d : Nat} {n : Nat} {s : State} (h : Keeps z s) : Keeps z (dmaSettle d n s) :=
  (setDma_keeps h)

theorem dmaWriteBack_keeps {z : State} {d : Nat} {n : Nat} {addr : Nat} {status : Nat} {desc : List Sys2Proof.Byte} {s
    : State} (h : Keeps z s) : Keeps z (dmaWriteBack d n addr status desc s).2 :=
  (keeps_ite1 (hostPut_keeps (hostPut_keeps h))
    (by (try dsimp only); split <;> (try dsimp only); exacts [(agentWrite_keeps (Keeps.ofPair (by assumption)
    (agentWrite_keeps h))), (Keeps.ofPair (by assumption) (agentWrite_keeps h))]))

theorem dmaDrop_keeps {z : State} {d : Nat} {n : Nat} {s : State} (h : Keeps z s) : Keeps z (dmaDrop d n s) :=
  (setDma_keeps (dmaSettle_keeps h))

theorem dmaStop_keeps {z : State} {d : Nat} {n : Nat} {s : State} (h : Keeps z s) : Keeps z (dmaStop d n s) :=
  (evt_keeps (recordFault_keeps (dmaDrop_keeps (wr_keeps (wr_keeps h)))))

theorem dmaEnd_keeps {z : State} {d : Nat} {n : Nat} {status : Nat} {busErr : Bool} {s : State} (h : Keeps z s) :
    Keeps z (dmaEnd d n status busErr s) :=
  (keeps_ite (dmaStop_keeps (keeps_ite h (dmaWriteBack_keeps h))) (wr_keeps (onlyIf_keeps (fun _ h1 => (evt_keeps h1))
    (keeps_ite (evt_keeps (recordFault_keeps (bump_keeps (bump_keeps (wr_keeps (wr_keeps (dmaDrop_keeps
    (dmaWriteBack_keeps h)))))))) (bump_keeps (wr_keeps (wr_keeps (dmaDrop_keeps (dmaWriteBack_keeps h)))))))))

theorem freeBytes_keeps {z : State} {x0 : Nat} {x1 : State} (h : Keeps z x1) : Keeps z (freeBytes x0 x1).2 := by
  fun_induction freeBytes x0 x1 <;> first | exact Keeps.update (by assumption) | grind [drawFree_keeps]

theorem dmaUndefined_keeps {z : State} {x0 : List (Bool × Nat × Nat)} {x1 : State} (h : Keeps z x1) : Keeps z
    (dmaUndefined x0 x1) := by
  fun_induction dmaUndefined x0 x1 <;> first | exact Keeps.update (by assumption) | grind [freeBytes_keeps, hostWrite_keeps, memWrite_keeps]

theorem dmaBegin_keeps {z : State} {d : Nat} {n : Nat} {a : Nat} {b : List Sys2Proof.Byte} {s : State} (h : Keeps z s)
    : Keeps z (dmaBegin d n a b s) :=
  (keeps_ite (setDma_keeps (dmaSettle_keeps (dmaCheck_keeps h))) (dmaEnd_keeps (onlyIf_keeps (fun _ h1 =>
    (dmaUndefined_keeps h1)) (setDma_keeps (dmaSettle_keeps (dmaCheck_keeps h))))))

theorem dmaCtl_keeps {z : State} {d : Nat} {n : Nat} {enBefore : Bool} {v : Nat} {s : State} (h : Keeps z s) : Keeps z
    (dmaCtl d n enBefore v s) :=
  (keeps_ite (by (try dsimp only); split <;> (try dsimp only); exacts [(dmaEnd_keeps (dmaUndefined_keeps (wr_keeps
    (keeps_ite (wr_keeps (keeps_ite (wr_keeps (wr_keeps h)) (keeps_ite (wr_keeps h) h))) (keeps_ite (wr_keeps
    (wr_keeps h)) (keeps_ite (wr_keeps h) h)))))), (wr_keeps (wr_keeps (keeps_ite (wr_keeps (keeps_ite (wr_keeps
    (wr_keeps h)) (keeps_ite (wr_keeps h) h))) (keeps_ite (wr_keeps (wr_keeps h)) (keeps_ite (wr_keeps h) h)))))])
    (keeps_ite (wr_keeps (keeps_ite (wr_keeps (wr_keeps h)) (keeps_ite (wr_keeps h) h))) (keeps_ite (wr_keeps
    (wr_keeps h)) (keeps_ite (wr_keeps h) h))))

theorem dmaFenced_keeps {z : State} {d : Nat} {n : Nat} {s : State} (h : Keeps z s) : Keeps z (dmaFenced d n s) :=
  (wr_keeps (dmaDrop_keeps (keeps_ite (bump_keeps (wr_keeps (wr_keeps h))) (wr_keeps h))))

theorem dmaReadAll_keeps {z : State} {x0 : List (Bool × Nat × Nat)} {x1 : State} (h : Keeps z x1) : Keeps z
    (dmaReadAll x0 x1).2.2 := by
  fun_induction dmaReadAll x0 x1 <;> first | exact Keeps.update (by assumption) | grind [agentRead_keeps]

theorem dmaWriteAll_keeps {z : State} {x0 : List ((Bool × Nat × Nat) × List Sys2Proof.Byte)} {x1 : State} (h : Keeps z
    x1) : Keeps z (dmaWriteAll x0 x1).2 := by
  fun_induction dmaWriteAll x0 x1 <;> first | exact Keeps.update (by assumption) | grind [hostWrite_keeps, agentWrite_keeps]

theorem dmaTransfer_keeps {z : State} {q : DmaDesc} {tbl : List Nat} {hostErr : Bool} {s : State} (h : Keeps z s) :
    Keeps z (dmaTransfer q tbl hostErr s).2 :=
  (keeps_ite1 (keeps_ite1 (dmaWriteAll_keeps (dmaReadAll_keeps h)) (dmaUndefined_keeps (dmaWriteAll_keeps
    (dmaReadAll_keeps h)))) (dmaUndefined_keeps (dmaReadAll_keeps h)))

theorem execDmaDescriptorComplete_keeps {z : State} {d : Nat} {n : Nat} {hostErr : Bool} {wbErr : Bool} {s : State} (h
    : Keeps z s) : KeepsO z (execDmaDescriptorComplete d n hostErr wbErr s) := by
  have e := Eq.refl @execDmaDescriptorComplete; conv_rhs at e => delta execDmaDescriptorComplete
  rw [e]
  (try dsimp only)
  split <;> (try dsimp only)
  exacts [(keepsO_ite (keepsO_ite (.next h) (.next (dmaEnd_keeps (dmaTransfer_keeps h)))) (.next h)), (.next h)]

theorem execDmaDescriptorFetch_keeps {z : State} {d : Nat} {n : Nat} {busErr : Bool} {s : State} (h : Keeps z s) :
    KeepsO z (execDmaDescriptorFetch d n busErr s) :=
  (keepsO_ite (by (try dsimp only); split <;> (try dsimp only); exacts [(keepsO_ite (.next (dmaBegin_keeps
    (Keeps.ofPair (by assumption) (keeps_ite1 (keeps_ite1 h h) (agentRead_keeps h))))) (.next (wr_keeps (Keeps.ofPair
    (by assumption) (keeps_ite1 (keeps_ite1 h h) (agentRead_keeps h)))))), (.next (dmaStop_keeps (Keeps.ofPair (by
    assumption) (keeps_ite1 (keeps_ite1 h h) (agentRead_keeps h)))))]) (.next h))

end Sys2Proof.Machine
end

