-- ==== Sys2Proof/Laws/KeepsMemory.lean ====
section
/-! SUPPORT. What every operation of Memory keeps. -/

namespace Sys2Proof.Machine

theorem bar4Answer_keeps {z : State} {len : Nat} {r : MemRes} {s : State} (h : Keeps z s) : Keeps z (bar4Answer len r
    s) := by
  have e := Eq.refl @bar4Answer; conv_rhs at e => delta bar4Answer
  rw [e]
  (try dsimp only)
  split <;> (try dsimp only)
  exacts [(Keeps.update h), (Keeps.update h), (Keeps.update (freeBytes_keeps h))]

theorem putEnabled_keeps {z : State} {x0 : Nat} {x1 : List Sys2Proof.Byte} {x2 : List Bool} {x3 : State} (h : Keeps z
    x3) : Keeps z (putEnabled x0 x1 x2 x3) := by
  fun_induction putEnabled x0 x1 x2 x3 <;> first | exact Keeps.update (by assumption) | grind [memPut_keeps]

theorem bar4Store_keeps {z : State} {a : Nat} {bytes : List Sys2Proof.Byte} {en : List Bool} {ue : Bool} {s : State}
    (h : Keeps z s) : Keeps z (bar4Store a bytes en ue s) :=
  (putEnabled_keeps (Keeps.update h))

theorem bar4Put_keeps {z : State} {refusal : Option Nat} {a : Nat} {bytes : List Sys2Proof.Byte} {en : List Bool} {ue
    : Bool} {s : State} (h : Keeps z s) : Keeps z (bar4Put refusal a bytes en ue s) := by
  have e := Eq.refl @bar4Put; conv_rhs at e => delta bar4Put
  rw [e]
  (try dsimp only)
  split <;> (try dsimp only)
  exacts [(memErrRec_keeps h), (bar4Store_keeps h)]

theorem execBar4Read_keeps {z : State} {off : Nat} {len : Nat} {ecc : Nat} {s : State} (h : Keeps z s) : KeepsO z
    (execBar4Read off len ecc s) :=
  (.next (bar4Answer_keeps (agentRead_keeps (keeps_ite (corrected_keeps h) (keeps_ite (Keeps.update h) h)))))

theorem execBar4Write_keeps {z : State} {off : Nat} {bytes : List Sys2Proof.Byte} {en : List Bool} {ue : Bool} {s :
    State} (h : Keeps z s) : KeepsO z (execBar4Write off bytes en ue s) :=
  (.next (bar4Put_keeps h))

theorem setScrub_keeps {z : State} {d : Nat} {v : Scrub} {s : State} (h : Keeps z s) : Keeps z (setScrub d v s) :=
  (Keeps.update h)

theorem execScrubRead_keeps {z : State} {d : Nat} {res : Nat} {s : State} (h : Keeps z s) : KeepsO z (execScrubRead d
    res s) :=
  (keepsO_ite (keepsO_ite (.next (setScrub_keeps (keeps_ite (evt_keeps (wr_keeps (keeps_ite (corrected_keeps h)
    (keeps_ite (uncorrectable_keeps (Keeps.update h)) h)))) (keeps_ite (corrected_keeps h) (keeps_ite
    (uncorrectable_keeps (Keeps.update h)) h))))) (.next (setScrub_keeps (bump_keeps (keeps_ite (evt_keeps (wr_keeps
    (keeps_ite (corrected_keeps h) (keeps_ite (uncorrectable_keeps (Keeps.update h)) h)))) (keeps_ite (corrected_keeps
    h) (keeps_ite (uncorrectable_keeps (Keeps.update h)) h))))))) (.next h))

theorem memFitted_keeps {z : State} {d : Nat} {s : State} (h : Keeps z s) : Keeps z (memFitted d s) :=
  (wr_keeps h)

theorem memInit_keeps {z : State} {d : Nat} {s : State} (h : Keeps z s) : Keeps z (memInit d s) :=
  (keeps_ite (wr_keeps h) h)

theorem memSelfRefresh_keeps {z : State} {d : Nat} {s : State} (h : Keeps z s) : Keeps z (memSelfRefresh d s) :=
  (keeps_ite (wr_keeps h) h)

theorem memTrained_keeps {z : State} {d : Nat} {s : State} (h : Keeps z s) : Keeps z (memTrained d s) :=
  (evt_keeps (Keeps.update (wr_keeps (wr_keeps h))))

theorem memWake_keeps {z : State} {d : Nat} {s : State} (h : Keeps z s) : Keeps z (memWake d s) :=
  (keeps_ite (wr_keeps (wr_keeps h)) h)

end Sys2Proof.Machine
end

