-- ==== Sys2Proof/Laws/KeepsCodec.lean ====
section
/-! SUPPORT. What every operation of Codec keeps. -/

namespace Sys2Proof.Machine

theorem setJobNext_keeps {z : State} {d : Nat} {bg : Bool} {i : Nat} {s : State} (h : Keeps z s) : Keeps z (setJobNext
    d bg i s) :=
  (Keeps.update h)

theorem advanceTail_keeps {z : State} {d : Nat} {bg : Bool} {x2 : Nat} {x3 : State} (h : Keeps z x3) : Keeps z
    (advanceTail d bg x2 x3) := by
  fun_induction advanceTail d bg x2 x3 <;> repeat' first
    | assumption
    | apply_assumption
    | with_reducible first | apply setJobNext_keeps | apply wr_keeps | apply keeps_ite
    | with_reducible apply Keeps.update

theorem completeJob_keeps {z : State} {d : Nat} {bg : Bool} {slot : Nat} {status : Nat} {tag : Nat} {done : Nat}
    {lines : Nat} {bytes : Nat} {fail : Nat} {reason : Nat} {s : State} (h : Keeps z s) : Keeps z (completeJob d bg slot
    status tag done lines bytes fail reason s) :=
  (advanceTail_keeps (Keeps.update (evtMask_keeps (wr_keeps (putWord_keeps (putWord_keeps (putWord_keeps
    (putWord_keeps (putWord_keeps (putWord_keeps (putWord_keeps (putWord_keeps (putWord_keeps h)))))))))))))

theorem abortQueued_keeps {z : State} {d : Nat} {tag : Nat} {bg : Bool} {x3 : List Nat} {x4 : State} (h : Keeps z x4)
    : Keeps z (abortQueued d tag bg x3 x4) := by
  fun_induction abortQueued d tag bg x3 x4 <;> first | exact Keeps.update (by assumption) | grind [completeJob_keeps]

theorem buffersUndefined_keeps {z : State} {d : Nat} {list : Nat} {x2 : Nat} {buf : Nat} {pos : Nat} {x5 : State} (h :
    Keeps z x5) : Keeps z (buffersUndefined d list x2 buf pos x5) := by
  fun_induction buffersUndefined d list x2 buf pos x5 <;> first | exact Keeps.update (by assumption) | grind [freeBytes_keeps, memWrite_keeps]

theorem setJob_keeps {z : State} {d : Nat} {n : Nat} {j : Option Job} {s : State} (h : Keeps z s) : Keeps z (setJob d
    n j s) :=
  (Keeps.update h)

theorem endJob_keeps {z : State} {d : Nat} {n : Nat} {status : Nat} {fail : Nat} {reason : Nat} {s : State} (h : Keeps
    z s) : Keeps z (endJob d n status fail reason s) := by
  have e := Eq.refl @endJob; conv_rhs at e => delta endJob
  rw [e]
  (try dsimp only)
  split <;> (try dsimp only)
  exacts [h, (completeJob_keeps (setJob_keeps (keeps_ite h (buffersUndefined_keeps h))))]

theorem abortRunning_keeps {z : State} {d : Nat} {tag : Nat} {x2 : List Nat} {x3 : State} (h : Keeps z x3) : Keeps z
    (abortRunning d tag x2 x3) := by
  fun_induction abortRunning d tag x2 x3 <;> first | exact Keeps.update (by assumption) | grind [endJob_keeps]

theorem bufEntry_keeps {z : State} {d : Nat} {list : Nat} {i : Nat} {s : State} (h : Keeps z s) : Keeps z (bufEntry d
    list i s).2 :=
  (keeps_ite1 h (by (try dsimp only); split <;> (try dsimp only); exacts [(Keeps.ofPair (by assumption)
    (agentRead_keeps h)), (Keeps.ofPair (by assumption) (agentRead_keeps h)), (Keeps.ofPair (by assumption)
    (agentRead_keeps h))]))

theorem streamStart_keeps {z : State} {q : JobDesc} {j : Job} {s : State} (h : Keeps z s) : Keeps z (streamStart q j
    s).2 :=
  (keeps_ite1 h (keeps_ite1 (drawFree_keeps h) h))

theorem jobPut_keeps {z : State} {d : Nat} {a : Nat} {bs : List Sys2Proof.Byte} {s : State} (h : Keeps z s) : Keeps z
    (jobPut d a bs s).2 :=
  (keeps_ite1 h (agentWrite_keeps h))

theorem declareResident_keeps {z : State} {d : Nat} {fsn : Nat} {l : Nat} {count : Nat} {s : State} (h : Keeps z s) :
    Keeps z (declareResident d fsn l count s) := by
  have e := Eq.refl @declareResident; conv_rhs at e => delta declareResident
  rw [e]
  (try dsimp only)
  split <;> (try dsimp only)
  exacts [(setPlane_keeps h), (by (try dsimp only); split <;> (try dsimp only); exacts [(Keeps.update h), (Keeps.update h)])]

theorem jobDeclare_keeps {z : State} {d : Nat} {q : JobDesc} {done : Nat} {s : State} (h : Keeps z s) : Keeps z
    (jobDeclare d q done s) :=
  (keeps_ite (declareResident_keeps h) h)

theorem carryJobEnd_keeps {z : State} {d : Nat} {n : Nat} {j : Job} {q : JobDesc} {s : State} (h : Keeps z s) : Keeps
    z (carryJobEnd d n j q s) :=
  (keeps_ite (endJob_keeps (jobDeclare_keeps (keeps_ite1 (jobPut_keeps (streamStart_keeps h)) h))) (endJob_keeps
    (keeps_ite1 (jobPut_keeps (streamStart_keeps h)) h)))

theorem compFenced_keeps {z : State} {d : Nat} {n : Nat} {s : State} (h : Keeps z s) : Keeps z (compFenced d n s) :=
  (endJob_keeps (evt_keeps h))

theorem wholePlace_keeps {z : State} {d : Nat} {list : Nat} {align : Bool} {x3 : Nat} {buf : Nat} {pos : Nat} {n :
    Nat} {x7 : State} (h : Keeps z x7) : Keeps z (wholePlace d list align x3 buf pos n x7).2 := by
  fun_induction wholePlace d list align x3 buf pos n x7 <;> first | exact Keeps.update (by assumption) | grind [bufEntry_keeps]

theorem streamPlaces_keeps {z : State} {d : Nat} {list : Nat} {x2 : Nat} {buf : Nat} {pos : Nat} {n : Nat} {x6 :
    State} (h : Keeps z x6) : Keeps z (streamPlaces d list x2 buf pos n x6).2 := by
  fun_induction streamPlaces d list x2 buf pos n x6 <;> first | exact Keeps.update (by assumption) | grind [bufEntry_keeps]

theorem writePieces_keeps {z : State} {d : Nat} {x1 : List (Nat × Nat)} {x2 : List Sys2Proof.Byte} {x3 : State} (h :
    Keeps z x3) : Keeps z (writePieces d x1 x2 x3).2 := by
  fun_induction writePieces d x1 x2 x3 <;> first | exact Keeps.update (by assumption) | grind [jobPut_keeps]

theorem placeOutput_keeps {z : State} {d : Nat} {n : Nat} {j : Job} {q : JobDesc} {lines : Nat} {out : List
    Sys2Proof.Byte} {carry : Bool} {s : State} (h : Keeps z s) : Keeps z (placeOutput d n j q lines out carry s) := by
  have e := Eq.refl @placeOutput; conv_rhs at e => delta placeOutput
  rw [e]
  (try dsimp only)
  split <;> (try dsimp only)
  exacts [(endJob_keeps (Keeps.ofPair (by assumption) (keeps_ite1 (wholePlace_keeps h) (streamPlaces_keeps h)))), (by (try dsimp only); split <;> (try dsimp only); exacts [(endJob_keeps (Keeps.ofPair (by assumption) (writePieces_keeps (Keeps.ofPair (by assumption) (keeps_ite1 (wholePlace_keeps h) (streamPlaces_keeps h)))))), (keeps_ite (endJob_keeps (keeps_ite1 (jobPut_keeps (Keeps.ofPair (by assumption) (writePieces_keeps (Keeps.ofPair (by assumption) (keeps_ite1 (wholePlace_keeps h) (streamPlaces_keeps h)))))) (Keeps.ofPair (by assumption) (writePieces_keeps (Keeps.ofPair (by assumption) (keeps_ite1 (wholePlace_keeps h) (streamPlaces_keeps h))))))) (keeps_ite (keeps_ite (setJob_keeps (keeps_ite1 (jobPut_keeps (Keeps.ofPair (by assumption) (writePieces_keeps (Keeps.ofPair (by assumption) (keeps_ite1 (wholePlace_keeps h) (streamPlaces_keeps h)))))) (Keeps.ofPair (by assumption) (writePieces_keeps (Keeps.ofPair (by assumption) (keeps_ite1 (wholePlace_keeps h) (streamPlaces_keeps h))))))) (jobDeclare_keeps (setJob_keeps (keeps_ite1 (jobPut_keeps (Keeps.ofPair (by assumption) (writePieces_keeps (Keeps.ofPair (by assumption) (keeps_ite1 (wholePlace_keeps h) (streamPlaces_keeps h)))))) (Keeps.ofPair (by assumption) (writePieces_keeps (Keeps.ofPair (by assumption) (keeps_ite1 (wholePlace_keeps h) (streamPlaces_keeps h))))))))) (keeps_ite (carryJobEnd_keeps (keeps_ite (setJob_keeps (keeps_ite1 (jobPut_keeps (Keeps.ofPair (by assumption) (writePieces_keeps (Keeps.ofPair (by assumption) (keeps_ite1 (wholePlace_keeps h) (streamPlaces_keeps h)))))) (Keeps.ofPair (by assumption) (writePieces_keeps (Keeps.ofPair (by assumption) (keeps_ite1 (wholePlace_keeps h) (streamPlaces_keeps h))))))) (jobDeclare_keeps (setJob_keeps (keeps_ite1 (jobPut_keeps (Keeps.ofPair (by assumption) (writePieces_keeps (Keeps.ofPair (by assumption) (keeps_ite1 (wholePlace_keeps h) (streamPlaces_keeps h)))))) (Keeps.ofPair (by assumption) (writePieces_keeps (Keeps.ofPair (by assumption) (keeps_ite1 (wholePlace_keeps h) (streamPlaces_keeps h)))))))))) (endJob_keeps (keeps_ite (setJob_keeps (keeps_ite1 (jobPut_keeps (Keeps.ofPair (by assumption) (writePieces_keeps (Keeps.ofPair (by assumption) (keeps_ite1 (wholePlace_keeps h) (streamPlaces_keeps h)))))) (Keeps.ofPair (by assumption) (writePieces_keeps (Keeps.ofPair (by assumption) (keeps_ite1 (wholePlace_keeps h) (streamPlaces_keeps h))))))) (jobDeclare_keeps (setJob_keeps (keeps_ite1 (jobPut_keeps (Keeps.ofPair (by assumption) (writePieces_keeps (Keeps.ofPair (by assumption) (keeps_ite1 (wholePlace_keeps h) (streamPlaces_keeps h)))))) (Keeps.ofPair (by assumption) (writePieces_keeps (Keeps.ofPair (by assumption) (keeps_ite1 (wholePlace_keeps h) (streamPlaces_keeps h)))))))))))))])]

theorem readDbf_keeps {z : State} {a : Nat} {len : Nat} {stride : Nat} {left : Nat} {s : State} (h : Keeps z s) :
    Keeps z (readDbf a len stride left s).2 := by
  have e := Eq.refl @readDbf; conv_rhs at e => delta readDbf
  rw [e]
  (try dsimp only)
  split <;> (try dsimp only)
  exacts [(Keeps.ofPair (by assumption) (agentRead_keeps h)), (Keeps.ofPair (by assumption) (agentRead_keeps h)), (by (try dsimp only); split <;> (try dsimp only); exacts [(by (try dsimp only); split <;> (try dsimp only); exacts [(Keeps.ofPair (by assumption) (keeps_ite1 (Keeps.ofPair (by assumption) (agentRead_keeps h)) (agentRead_keeps (Keeps.ofPair (by assumption) (agentRead_keeps h))))), (Keeps.ofPair (by assumption) (keeps_ite1 (Keeps.ofPair (by assumption) (agentRead_keeps h)) (agentRead_keeps (Keeps.ofPair (by assumption) (agentRead_keeps h))))), (by (try dsimp only); split <;> (try dsimp only); exacts [(Keeps.ofPair (by assumption) (keeps_ite1 (Keeps.ofPair (by assumption) (agentRead_keeps h)) (agentRead_keeps (Keeps.ofPair (by assumption) (agentRead_keeps h))))), (Keeps.ofPair (by assumption) (keeps_ite1 (Keeps.ofPair (by assumption) (agentRead_keeps h)) (agentRead_keeps (Keeps.ofPair (by assumption) (agentRead_keeps h)))))])]), (Keeps.ofPair (by assumption) (agentRead_keeps h))])]

theorem execJobAshlarDone_keeps {z : State} {d : Nat} {n : Nat} {s : State} (h : Keeps z s) : KeepsO z
    (execJobAshlarDone d n s) := by
  have e := Eq.refl @execJobAshlarDone; conv_rhs at e => delta execJobAshlarDone
  rw [e]
  (try dsimp only)
  split <;> (try dsimp only)
  exacts [(.next h), (keepsO_ite (.next h) (keepsO_ite (keepsO_ite (.next (endJob_keeps h)) (by (try dsimp only); split <;> (try dsimp only); exacts [(.next (endJob_keeps (Keeps.ofPair (by assumption) (agentRead_keeps h)))), (.next (endJob_keeps (Keeps.ofPair (by assumption) (agentRead_keeps h)))), (keepsO_ite (.next (placeOutput_keeps (Keeps.ofPair (by assumption) (agentRead_keeps h)))) (.next (placeOutput_keeps (Keeps.ofPair (by assumption) (agentRead_keeps h)))))])) (keepsO_ite (.next (endJob_keeps h)) (by (try dsimp only); split <;> (try dsimp only); exacts [(.next (endJob_keeps (Keeps.ofPair (by assumption) (agentRead_keeps h)))), (.next (endJob_keeps (Keeps.ofPair (by assumption) (agentRead_keeps h)))), (keepsO_ite (.next (endJob_keeps (Keeps.ofPair (by assumption) (agentRead_keeps h)))) (by (try dsimp only); split <;> (try dsimp only); exacts [(.next (endJob_keeps (Keeps.ofPair (by assumption) (readDbf_keeps (Keeps.ofPair (by assumption) (agentRead_keeps h)))))), (.next (endJob_keeps (Keeps.ofPair (by assumption) (readDbf_keeps (Keeps.ofPair (by assumption) (agentRead_keeps h)))))), (.next (placeOutput_keeps (Keeps.ofPair (by assumption) (readDbf_keeps (Keeps.ofPair (by assumption) (agentRead_keeps h))))))]))]))))]

theorem execJobStart_keeps {z : State} {d : Nat} {n : Nat} {s : State} (h : Keeps z s) : KeepsO z (execJobStart d n s)
    :=
  (keepsO_ite (by (try dsimp only); split <;> (try dsimp only); exacts [(.next h), (.next (keeps_ite (endJob_keeps
    (setJob_keeps (setJobNext_keeps h))) (keeps_ite (endJob_keeps (setJob_keeps (setJobNext_keeps h))) (setJob_keeps
    (setJobNext_keeps h)))))]) (.next h))

theorem jobAbort_keeps {z : State} {d : Nat} {tag : Nat} {s : State} (h : Keeps z s) : Keeps z (jobAbort d tag s) :=
  (abortQueued_keeps (abortQueued_keeps (abortRunning_keeps h)))

end Sys2Proof.Machine
end

