-- ==== Sys2Proof/Laws/KeepsCounters.lean ====
section
/-! SUPPORT. What every operation of Counters keeps. -/

namespace Sys2Proof.Machine

theorem noteEdges_keeps {z : State} {d : Nat} {e : Nat} {a : Bool} {b : Bool} {s : State} (h : Keeps z s) : Keeps z
    (noteEdges d e a b s) :=
  (Keeps.update h)

theorem setCounter_keeps {z : State} {d : Nat} {c : Nat} {v : PosCounter} {s : State} (h : Keeps z s) : Keeps z
    (setCounter d c v s) :=
  (Keeps.update h)

theorem setEncoder_keeps {z : State} {d : Nat} {e : Nat} {v : Encoder} {s : State} (h : Keeps z s) : Keeps z
    (setEncoder d e v s) :=
  (Keeps.update h)

end Sys2Proof.Machine
end

