-- ==== Sys2Proof/Laws/KeepsFoc.lean ====
section
/-! SUPPORT. What every operation of Foc keeps. -/

namespace Sys2Proof.Machine

theorem busBrake_keeps {z : State} {d : Nat} {b : Nat} {s : State} (h : Keeps z s) : Keeps z (busBrake d b s) :=
  (wr_keeps h)

theorem setFoc_keeps {z : State} {d : Nat} {n : Nat} {c : FocCh} {s : State} (h : Keeps z s) : Keeps z (setFoc d n c
    s) :=
  (Keeps.update h)

theorem focEnter_keeps {z : State} {d : Nat} {n : Nat} {st : Nat} {s : State} (h : Keeps z s) : Keeps z (focEnter d n
    st s) :=
  (keeps_ite (evt_keeps (keeps_ite (evt_keeps (wr_keeps (setFoc_keeps h))) (wr_keeps (setFoc_keeps h)))) (keeps_ite
    (evt_keeps (keeps_ite (evt_keeps (wr_keeps (setFoc_keeps h))) (wr_keeps (setFoc_keeps h)))) (keeps_ite (evt_keeps
    (wr_keeps (setFoc_keeps h))) (wr_keeps (setFoc_keeps h)))))

theorem focOff_keeps {z : State} {d : Nat} {n : Nat} {s : State} (h : Keeps z s) : Keeps z (focOff d n s) :=
  (keeps_ite h (wr_keeps (wr_keeps (wr_keeps (setFoc_keeps (focEnter_keeps h))))))

theorem busChannelsOff_keeps {z : State} {d : Nat} {b : Nat} {s : State} (h : Keeps z s) : Keeps z (busChannelsOff d b
    s) :=
  (foldl_keeps (fun _ _ h1 => (keeps_ite (focOff_keeps h1) h1)) h)

theorem setBus_keeps {z : State} {d : Nat} {b : Nat} {v : BusRun} {s : State} (h : Keeps z s) : Keeps z (setBus d b v
    s) :=
  (Keeps.update h)

theorem busReading_keeps {z : State} {d : Nat} {b : Nat} {v : Nat} {s : State} (h : Keeps z s) : Keeps z (busReading d
    b v s) :=
  (keeps_ite (bump_keeps (wr_keeps (setBus_keeps (keeps_ite (wr_keeps (wr_keeps h)) (wr_keeps h))))) (wr_keeps
    (setBus_keeps (keeps_ite (wr_keeps (wr_keeps h)) (wr_keeps h)))))

theorem execAlignEnd_keeps {z : State} {d : Nat} {n : Nat} {s : State} (h : Keeps z s) : KeepsO z (execAlignEnd d n s)
    :=
  (keepsO_ite (.next h) (keepsO_ite (.next (focEnter_keeps (setFoc_keeps h))) (.next (focEnter_keeps (setFoc_keeps
    h)))))

theorem focFault_keeps {z : State} {d : Nat} {n : Nat} {src : Nat} {s : State} (h : Keeps z s) : Keeps z (focFault d n
    src s) :=
  (keeps_ite (recordFault_keeps h) (focOff_keeps (addFence_keeps (recordFault_keeps h))))

theorem execBrakeTimeout_keeps {z : State} {d : Nat} {n : Nat} {s : State} (h : Keeps z s) : KeepsO z
    (execBrakeTimeout d n s) :=
  (keepsO_ite (.next h) (.next (focFault_keeps h)))

theorem execBusClamp_keeps {z : State} {d : Nat} {b : Nat} {v : Nat} {s : State} (h : Keeps z s) : KeepsO z
    (execBusClamp d b v s) :=
  (keepsO_ite (.next h) (keepsO_ite (.next (recordFault_keeps (evt_keeps (bump_keeps (wr_keeps (wr_keeps
    (busReading_keeps h))))))) (.next (busReading_keeps h))))

theorem execBusClampEnd_keeps {z : State} {d : Nat} {b : Nat} {v : Nat} {s : State} (h : Keeps z s) : KeepsO z
    (execBusClampEnd d b v s) :=
  (keepsO_ite (.next h) (keepsO_ite (.next (evt_keeps (wr_keeps (busReading_keeps h)))) (.next (busReading_keeps h))))

theorem execBusTrip_keeps {z : State} {d : Nat} {b : Nat} {v : Nat} {s : State} (h : Keeps z s) : KeepsO z
    (execBusTrip d b v s) :=
  (keepsO_ite (.next h) (keepsO_ite (.next (evt_keeps (recordFault_keeps (addFence_keeps (busChannelsOff_keeps
    (wr_keeps (wr_keeps (busReading_keeps h)))))))) (.next (busReading_keeps h))))

theorem execBusUndervoltage_keeps {z : State} {d : Nat} {b : Nat} {v : Nat} {s : State} (h : Keeps z s) : KeepsO z
    (execBusUndervoltage d b v s) :=
  (keepsO_ite (.next h) (keepsO_ite (.next (evt_keeps (busReading_keeps h))) (.next (busReading_keeps h))))

theorem showSpeed_keeps {z : State} {d : Nat} {n : Nat} {v : Int} {s : State} (h : Keeps z s) : Keeps z (showSpeed d n
    v s) :=
  (wr_keeps (wrS_keeps h))

theorem focStart_keeps {z : State} {d : Nat} {n : Nat} {s : State} (h : Keeps z s) : Keeps z (focStart d n s) :=
  (keeps_ite (focEnter_keeps h) (focEnter_keeps h))

theorem execCatchEnd_keeps {z : State} {d : Nat} {n : Nat} {speed : Int} {theta : Nat} {vd : Int} {vq : Int} {s :
    State} (h : Keeps z s) : KeepsO z (execCatchEnd d n speed theta vd vq s) :=
  (keepsO_ite (.next h) (keepsO_ite (.next (focStart_keeps (showSpeed_keeps h))) (keepsO_ite (keepsO_ite (.next
    (focEnter_keeps (setFoc_keeps (showSpeed_keeps h)))) (.next (focEnter_keeps (setFoc_keeps (showSpeed_keeps h)))))
    (keepsO_ite (.next (focStart_keeps (showSpeed_keeps h))) (.next (focEnter_keeps (showSpeed_keeps h)))))))

theorem execChopperSwitch_keeps {z : State} {d : Nat} {b : Nat} {v : Nat} {s : State} (h : Keeps z s) : KeepsO z
    (execChopperSwitch d b v s) :=
  (keepsO_ite (.next (busReading_keeps h)) (.next h))

theorem focOffsetPeriod_keeps {z : State} {d : Nat} {n : Nat} {ia : Nat} {ib : Nat} {ic : Nat} {s : State} (h : Keeps
    z s) : Keeps z (focOffsetPeriod d n ia ib ic s) :=
  (keeps_ite (setFoc_keeps h) (keeps_ite (focFault_keeps (setFoc_keeps h)) (keeps_ite (focEnter_keeps (setFoc_keeps
    h)) (focStart_keeps (setFoc_keeps h)))))

theorem focBrakePeriod_keeps {z : State} {d : Nat} {n : Nat} {cur : Int × Int × Int} {s : State} (h : Keeps z s) :
    Keeps z (focBrakePeriod d n cur s) :=
  (keeps_ite (focStart_keeps (bump_keeps (showSpeed_keeps (setFoc_keeps h)))) (bump_keeps (showSpeed_keeps
    (setFoc_keeps h))))

theorem focControl_keeps {z : State} {d : Nat} {n : Nat} {cur : Int × Int × Int} {theta : Nat} {thetaOut : Nat} {idRef
    : Int} {iqRef : Int} {s : State} (h : Keeps z s) : Keeps z (focControl d n cur theta thetaOut idRef iqRef s) :=
  (keeps_ite (evt_keeps (keeps_ite (bump_keeps (wr_keeps (wr_keeps (wr_keeps (wr_keeps (wrS_keeps (wrS_keeps
    (setFoc_keeps h)))))))) (wr_keeps (wr_keeps (wr_keeps (wr_keeps (wrS_keeps (wrS_keeps (setFoc_keeps h)))))))))
    (keeps_ite (bump_keeps (wr_keeps (wr_keeps (wr_keeps (wr_keeps (wrS_keeps (wrS_keeps (setFoc_keeps h))))))))
    (wr_keeps (wr_keeps (wr_keeps (wr_keeps (wrS_keeps (wrS_keeps (setFoc_keeps h)))))))))

theorem focOpenPeriod_keeps {z : State} {d : Nat} {n : Nat} {cur : Int × Int × Int} {s : State} (h : Keeps z s) :
    Keeps z (focOpenPeriod d n cur s) :=
  (keeps_ite (focEnter_keeps (focControl_keeps (showSpeed_keeps (setFoc_keeps h)))) (focControl_keeps (showSpeed_keeps
    (setFoc_keeps h))))

theorem focRunPeriod_keeps {z : State} {d : Nat} {n : Nat} {cur : Int × Int × Int} {s : State} (h : Keeps z s) : Keeps
    z (focRunPeriod d n cur s) :=
  (keeps_ite (focFault_keeps (showSpeed_keeps h)) (focControl_keeps (wr_keeps (showSpeed_keeps h))))

theorem execFocPeriod_keeps {z : State} {d : Nat} {n : Nat} {ia : Nat} {ib : Nat} {ic : Nat} {s : State} (h : Keeps z
    s) : KeepsO z (execFocPeriod d n ia ib ic s) :=
  (keepsO_ite (.next h) (keepsO_ite (.next (focOff_keeps h)) (keepsO_ite (.next (focEnter_keeps h)) (keepsO_ite (.next
    (focOffsetPeriod_keeps h)) (keepsO_ite (.next (focFault_keeps h)) (.next
    (by (try dsimp only); split <;> (try dsimp only); exacts [(keeps_ite (recordFault_keeps h) h),
    (focBrakePeriod_keeps (keeps_ite (recordFault_keeps h) h)), (focControl_keeps (keeps_ite (recordFault_keeps h)
    h)), (focOpenPeriod_keeps (keeps_ite (recordFault_keeps h) h)), (focRunPeriod_keeps (keeps_ite (recordFault_keeps
    h) h))])))))))

theorem execHallTransition_keeps {z : State} {d : Nat} {n : Nat} {code : Nat} {s : State} (h : Keeps z s) : KeepsO z
    (execHallTransition d n code s) :=
  (keepsO_ite (.next h) (by (try dsimp only); split <;> (try dsimp only); exacts [(.next (focFault_keeps (wr_keeps
    h))), (keepsO_ite (.next (wr_keeps h)) (.next (keeps_ite (focFault_keeps (setFoc_keeps (wr_keeps h)))
    (setFoc_keeps (wr_keeps h)))))]))

theorem focIndex_keeps {z : State} {d : Nat} {k : Nat} {s : State} (h : Keeps z s) : Keeps z (focIndex d k s) :=
  (foldl_keeps (fun _ _ h1 => (keeps_ite (setFoc_keeps h1) h1)) h)

end Sys2Proof.Machine
end

