-- ==== Sys2Proof/Laws/KeepsLoops.lean ====
section
/-! SUPPORT. What every operation of Loops keeps. -/

namespace Sys2Proof.Machine

theorem setHeater_keeps {z : State} {d : Nat} {x1 : Nat} {v : Heater} {s : State} (h : Keeps z s) : Keeps z (setHeater
    d x1 v s) :=
  (Keeps.update h)

theorem setGpio_keeps {z : State} {d : Nat} {g : Gpio} {s : State} (h : Keeps z s) : Keeps z (setGpio d g s) :=
  (Keeps.update h)

theorem applyTarget_keeps {z : State} {d : Nat} {i : Nat} {e : List Sys2Proof.Byte} {u : Int} {s : State} (h : Keeps z
    s) : Keeps z (applyTarget d i e u s) := by
  have e := Eq.refl @applyTarget; conv_rhs at e => delta applyTarget
  rw [e]
  (try dsimp only)
  split <;> (try dsimp only)
  exacts [(keeps_ite (setFoc_keeps h) h), (keeps_ite (setHeater_keeps h) h), (keeps_ite (wr_keeps h) h), (keeps_ite (setGpio_keeps h) h), (by (try dsimp only); split <;> (try dsimp only); exacts [(Keeps.update h), h]), h]

theorem cffLate_keeps {z : State} {d : Nat} {s : State} (h : Keeps z s) : Keeps z (cffLate d s) :=
  (evt_keeps (bump_keeps h))

theorem setCff_keeps {z : State} {d : Nat} {ch : Nat} {l : List CffEntry} {s : State} (h : Keeps z s) : Keeps z
    (setCff d ch l s) :=
  (Keeps.update h)

theorem cffTake_keeps {z : State} {d : Nat} {ch : Nat} {x : CffEntry} {s : State} (h : Keeps z s) : Keeps z (cffTake d
    ch x s) :=
  (keeps_ite h (keeps_ite (cffLate_keeps h) (keeps_ite (cffLate_keeps (setCff_keeps h)) (setCff_keeps h))))

theorem cffUpdate_keeps {z : State} {d : Nat} {s : State} (h : Keeps z s) : Keeps z (cffUpdate d s) :=
  (foldl_keeps (fun _ _ h1 => (wrS_keeps (keeps_ite (setCff_keeps h1) h1))) h)

theorem setLoop_keeps {z : State} {d : Nat} {i : Nat} {c : LoopCtx} {s : State} (h : Keeps z s) : Keeps z (setLoop d i
    c s) :=
  (Keeps.update h)

theorem putEntry_keeps {z : State} {d : Nat} {i : Nat} {o : Nat} {n : Nat} {v : Int} {s : State} (h : Keeps z s) :
    Keeps z (putEntry d i o n v s) :=
  (putBytes_keeps h)

theorem setBitOf_keeps {z : State} {l : Sys2Proof.Loc} {i : Nat} {v : Bool} {s : State} (h : Keeps z s) : Keeps z
    (setBitOf l i v s) :=
  (wr_keeps h)

theorem showLoad_keeps {z : State} {d : Nat} {s : State} (h : Keeps z s) : Keeps z (showLoad d s) :=
  (wr_keeps (wr_keeps h))

theorem setMode_keeps {z : State} {d : Nat} {i : Nat} {c : LoopCtx} {s : State} (h : Keeps z s) : Keeps z (setMode d i
    c s) :=
  (showLoad_keeps (setBitOf_keeps (setBitOf_keeps (setBitOf_keeps (setLoop_keeps h)))))

theorem loopOffTarget_keeps {z : State} {d : Nat} {i : Nat} {s : State} (h : Keeps z s) : Keeps z (loopOffTarget d i
    s) :=
  (keeps_ite h (applyTarget_keeps h))

theorem loopFence_keeps {z : State} {d : Nat} {i : Nat} {s : State} (h : Keeps z s) : Keeps z (loopFence d i s) :=
  (loopOffTarget_keeps (setMode_keeps (addFence_keeps h)))

theorem loopFault_keeps {z : State} {d : Nat} {i : Nat} {src : Nat} {s : State} (h : Keeps z s) : Keeps z (loopFault d
    i src s) :=
  (keeps_ite (recordFault_keeps h) (loopFence_keeps (recordFault_keeps h)))

theorem supervise_keeps {z : State} {d : Nat} {i : Nat} {e : List Sys2Proof.Byte} {err : Int} {u : Int} {s : State} (h
    : Keeps z s) : Keeps z (supervise d i e err u s).2 :=
  (keeps_ite1 h (keeps_ite1 (putEntry_keeps h) (keeps_ite1 (putEntry_keeps h)
    (by (try dsimp only); split <;> (try dsimp only); exacts [(recordFault_keeps (evt_keeps (bump_keeps
    (putEntry_keeps h)))), (setMode_keeps (wrS_keeps (recordFault_keeps (evt_keeps (bump_keeps (putEntry_keeps
    h)))))), (loopFault_keeps (evt_keeps (bump_keeps (putEntry_keeps h))))]))))

theorem giveOut_keeps {z : State} {d : Nat} {i : Nat} {e : List Sys2Proof.Byte} {u : Int} {s : State} (h : Keeps z s)
    : Keeps z (giveOut d i e u s) :=
  (applyTarget_keeps (putEntry_keeps (wrS_keeps h)))

theorem storeExec_keeps {z : State} {d : Nat} {i : Nat} {e : List Sys2Proof.Byte} {x : Executed} {s : State} (h :
    Keeps z s) : Keeps z (storeExec d i e x s) :=
  (keeps_ite (supervise_keeps h) (giveOut_keeps (wrS_keeps (putEntry_keeps (putEntry_keeps (putEntry_keeps
    (putEntry_keeps (supervise_keeps h))))))))

theorem execAuto_keeps {z : State} {d : Nat} {i : Nat} {e : List Sys2Proof.Byte} {fresh : Bool} {s0 : State} {s :
    State} (h : Keeps z s) : Keeps z (execAuto d i e fresh s0 s) := by
  have e := Eq.refl @execAuto; conv_rhs at e => delta execAuto
  rw [e]
  (try dsimp only)
  split <;> (try dsimp only)
  exacts [(storeExec_keeps (setLoop_keeps h)), (storeExec_keeps (putEntry_keeps (putEntry_keeps (setLoop_keeps (setLoop_keeps h))))), (storeExec_keeps (setLoop_keeps h)), (keeps_ite (evt_keeps (loopFault_keeps (wrS_keeps (giveOut_keeps (setLoop_keeps h))))) (storeExec_keeps (setLoop_keeps h))), (storeExec_keeps (setLoop_keeps h))]

theorem takeMsg_keeps {z : State} {p : Msg → Bool} {s : State} (h : Keeps z s) : ∀ t, (takeMsg p s) = some t → Keeps z
    t.2 := by
  have e := Eq.refl @takeMsg; conv_rhs at e => delta takeMsg
  rw [e]
  (try dsimp only)
  split <;> (try dsimp only)
  exacts [(fun _ e => by cases e; exact (Keeps.update h)), (fun _ e => by cases e)]

theorem execCffCancel_keeps {z : State} {d : Nat} {s : State} (h : Keeps z s) : KeepsO z (execCffCancel d s) := by
  have e := Eq.refl @execCffCancel; conv_rhs at e => delta execCffCancel
  rw [e]
  (try dsimp only)
  split <;> (try dsimp only)
  exacts [(keepsO_ite (.next ((takeMsg_keeps h) _ (by assumption))) (.next (cffUpdate_keeps (foldl_keeps (fun _ _ h2 => (setCff_keeps h2)) ((takeMsg_keeps h) _ (by assumption)))))), (.next h)]

theorem execCffMessage_keeps {z : State} {d : Nat} {s : State} (h : Keeps z s) : KeepsO z (execCffMessage d s) := by
  have e := Eq.refl @execCffMessage; conv_rhs at e => delta execCffMessage
  rw [e]
  (try dsimp only)
  split <;> (try dsimp only)
  exacts [(keepsO_ite (.next (cffUpdate_keeps (foldl_keeps (fun _ _ h2 => (cffTake_keeps h2)) ((takeMsg_keeps h) _ (by assumption))))) (.next ((takeMsg_keeps h) _ (by assumption)))), (.next h)]

theorem gearAdjust_keeps {z : State} {d : Nat} {k : Nat} {delta : Int} {s : State} (h : Keeps z s) : Keeps z
    (gearAdjust d k delta s) :=
  (foldl_keeps (fun _ _ h1 => (keeps_ite (putEntry_keeps (keeps_ite (putEntry_keeps h1) h1)) (keeps_ite
    (putEntry_keeps h1) h1))) h)

theorem loopAuto_keeps {z : State} {d : Nat} {i : Nat} {s : State} (h : Keeps z s) : Keeps z (loopAuto d i s) :=
  (keeps_ite (setMode_keeps h) h)

theorem loopUnfence_keeps {z : State} {d : Nat} {i : Nat} {s : State} (h : Keeps z s) : Keeps z (loopUnfence d i s) :=
  (setMode_keeps (unfence_keeps h))

theorem loopEnable_keeps {z : State} {d : Nat} {i : Nat} {s : State} (h : Keeps z s) : Keeps z (loopEnable d i s) :=
  (keeps_ite (evt_keeps (keeps_ite h (putWord_keeps h))) (putEntry_keeps (giveOut_keeps (setMode_keeps h))))

theorem loopDisable_keeps {z : State} {d : Nat} {i : Nat} {s : State} (h : Keeps z s) : Keeps z (loopDisable d i s) :=
  (keeps_ite (loopOffTarget_keeps (setMode_keeps h)) h)

theorem loopManual_keeps {z : State} {d : Nat} {i : Nat} {s : State} (h : Keeps z s) : Keeps z (loopManual d i s) :=
  (keeps_ite (setMode_keeps h) h)

theorem loopCtl_keeps {z : State} {d : Nat} {w : Nat} {s : State} (h : Keeps z s) : Keeps z (loopCtl d w s) :=
  (keeps_ite h (keeps_ite (loopAuto_keeps (keeps_ite (loopManual_keeps (keeps_ite (loopDisable_keeps (keeps_ite
    (loopEnable_keeps (keeps_ite (loopUnfence_keeps h) h)) (keeps_ite (loopUnfence_keeps h) h))) (keeps_ite
    (loopEnable_keeps (keeps_ite (loopUnfence_keeps h) h)) (keeps_ite (loopUnfence_keeps h) h)))) (keeps_ite
    (loopDisable_keeps (keeps_ite (loopEnable_keeps (keeps_ite (loopUnfence_keeps h) h)) (keeps_ite (loopUnfence_keeps
    h) h))) (keeps_ite (loopEnable_keeps (keeps_ite (loopUnfence_keeps h) h)) (keeps_ite (loopUnfence_keeps h) h)))))
    (keeps_ite (loopManual_keeps (keeps_ite (loopDisable_keeps (keeps_ite (loopEnable_keeps (keeps_ite
    (loopUnfence_keeps h) h)) (keeps_ite (loopUnfence_keeps h) h))) (keeps_ite (loopEnable_keeps (keeps_ite
    (loopUnfence_keeps h) h)) (keeps_ite (loopUnfence_keeps h) h)))) (keeps_ite (loopDisable_keeps (keeps_ite
    (loopEnable_keeps (keeps_ite (loopUnfence_keeps h) h)) (keeps_ite (loopUnfence_keeps h) h))) (keeps_ite
    (loopEnable_keeps (keeps_ite (loopUnfence_keeps h) h)) (keeps_ite (loopUnfence_keeps h) h))))))

theorem stepLoopProfile_keeps {z : State} {d : Nat} {i : Nat} {e : List Sys2Proof.Byte} {s : State} (h : Keeps z s) :
    Keeps z (stepLoopProfile d i e s) :=
  (putBytes_keeps (putBytes_keeps (setLoop_keeps h)))

theorem trackMeasure_keeps {z : State} {d : Nat} {i : Nat} {e : List Sys2Proof.Byte} {r : Int} {y : Int} {s : State}
    (h : Keeps z s) : Keeps z (trackMeasure d i e r y s) :=
  (wrS_keeps (putEntry_keeps h))

theorem loopExecute_keeps {z : State} {d : Nat} {i : Nat} {s0 : State} {s : State} (h : Keeps z s) : Keeps z
    (loopExecute d i s0 s) :=
  (keeps_ite h (keeps_ite (giveOut_keeps (trackMeasure_keeps (keeps_ite (stepLoopProfile_keeps (setLoop_keeps h))
    (setLoop_keeps h)))) (keeps_ite (execAuto_keeps (keeps_ite (setMode_keeps (keeps_ite (stepLoopProfile_keeps
    (setLoop_keeps h)) (setLoop_keeps h))) (keeps_ite (stepLoopProfile_keeps (setLoop_keeps h)) (setLoop_keeps h))))
    (putEntry_keeps (wrS_keeps (trackMeasure_keeps (setMode_keeps (keeps_ite (stepLoopProfile_keeps (setLoop_keeps h))
    (setLoop_keeps h)))))))))

theorem loopTick_keeps {z : State} {d : Nat} {s : State} (h : Keeps z s) : Keeps z (loopTick d s) :=
  (keeps_ite h (foldl_keeps (fun _ _ h1 => (keeps_ite (loopExecute_keeps h1) h1)) (cffUpdate_keeps (Keeps.update h))))

theorem setPathRun_keeps {z : State} {p : Nat} {v : PathRun} {s : State} (h : Keeps z s) : Keeps z (setPathRun p v s)
    :=
  (Keeps.update h)

end Sys2Proof.Machine
end

