-- ==== Sys2Proof/Laws/KeepsPio.lean ====
section
/-! SUPPORT. What every operation of Pio keeps. -/

namespace Sys2Proof.Machine

theorem adcConvert_keeps {z : State} {d : Nat} {a : Nat} {code : Nat} {s : State} (h : Keeps z s) : Keeps z
    (adcConvert d a code s) :=
  (keeps_ite h (wr_keeps (Keeps.update h)))

theorem cuePin_keeps {z : State} {d : Nat} {g : Nat} {op : Nat} {s : State} (h : Keeps z s) : Keeps z (cuePin d g op
    s) :=
  (setGpio_keeps h)

theorem hvSafe_keeps {z : State} {d : Nat} {n : Nat} {s : State} (h : Keeps z s) : Keeps z (hvSafe d n s) := by
  have e := Eq.refl @hvSafe; conv_rhs at e => delta hvSafe
  rw [e]
  (try dsimp only)
  split <;> (try dsimp only)
  exacts [(loopFence_keeps (wr_keeps (wr_keeps h))), (wr_keeps (wr_keeps h))]

theorem hvTrip_keeps {z : State} {d : Nat} {n : Nat} {s : State} (h : Keeps z s) : Keeps z (hvTrip d n s) :=
  (evt_keeps (hvSafe_keeps (recordFault_keeps h)))

theorem hvJudge_keeps {z : State} {d : Nat} {n : Nat} {s : State} (h : Keeps z s) : Keeps z (hvJudge d n s) :=
  (keeps_ite (wr_keeps h) (keeps_ite (hvTrip_keeps h) h))

theorem hvConvert_keeps {z : State} {d : Nat} {n : Nat} {code : Nat} {s : State} (h : Keeps z s) : Keeps z (hvConvert
    d n code s) :=
  (hvJudge_keeps (wr_keeps (Keeps.update h)))

theorem execAdcConversion_keeps {z : State} {d : Nat} {ain : List Nat} {hvm : List Nat} {s : State} (h : Keeps z s) :
    KeepsO z (execAdcConversion d ain hvm s) :=
  (keepsO_ite (.next h) (.next (foldl_keeps (fun _ _ h1 =>
    (by (try dsimp only); split <;> (try dsimp only); exacts [(hvConvert_keeps h1), h1])) (foldl_keeps (fun _ _ h1 =>
    (by (try dsimp only); split <;> (try dsimp only); exacts [(adcConvert_keeps h1), h1])) h))))

theorem execGpioEdge_keeps {z : State} {d : Nat} {g : Nat} {level : Bool} {s : State} (h : Keeps z s) : KeepsO z
    (execGpioEdge d g level s) :=
  (keepsO_ite (.next h) (keepsO_ite (.next h) (.next (onlyIf_keeps (fun _ h1 => (evt_keeps h1)) (setGpio_keeps h)))))

theorem execSpliceDetect_keeps {z : State} {d : Nat} {s : State} (h : Keeps z s) : KeepsO z (execSpliceDetect d s) :=
  (keepsO_ite (.next h) (.next (bump_keeps (wr_keeps (wr_keeps (wr_keeps h))))))

theorem setZero_keeps {z : State} {d : Nat} {v : ZeroCross} {s : State} (h : Keeps z s) : Keeps z (setZero d v s) :=
  (Keeps.update h)

theorem zeroLost_keeps {z : State} {d : Nat} {s : State} (h : Keeps z s) : Keeps z (zeroLost d s) :=
  (keeps_ite h (evt_keeps (recordFault_keeps (foldl_keeps (fun _ _ h1 => (setHeater_keeps h1)) (wr_keeps h)))))

theorem heaterCross_keeps {z : State} {d : Nat} {th : Nat} {x2 : Nat} {s : State} (h : Keeps z s) : Keeps z
    (heaterCross d th x2 s) :=
  (setHeater_keeps (wr_keeps h))

theorem execZeroCross_keeps {z : State} {d : Nat} {s : State} (h : Keeps z s) : KeepsO z (execZeroCross d s) :=
  (keepsO_ite (.next h) (.next (foldl_keeps (fun _ _ h1 => (heaterCross_keeps h1)) (keeps_ite (zeroLost_keeps
    (wr_keeps (setZero_keeps h))) (keeps_ite (wr_keeps (setZero_keeps h)) (evt_keeps (wr_keeps (wr_keeps
    (setZero_keeps h)))))))))

theorem execZeroCrossLost_keeps {z : State} {d : Nat} {s : State} (h : Keeps z s) : KeepsO z (execZeroCrossLost d s)
    := by
  have e := Eq.refl @execZeroCrossLost; conv_rhs at e => delta execZeroCrossLost
  rw [e]
  (try dsimp only)
  split <;> (try dsimp only)
  exacts [(keepsO_ite (.next (zeroLost_keeps h)) (.next h)), (.next h)]

theorem gpioWrite_keeps {z : State} {d : Nat} {v : Nat} {s : State} (h : Keeps z s) : Keeps z (gpioWrite d v s) :=
  (wr_keeps h)

theorem gpioClr_keeps {z : State} {d : Nat} {v : Nat} {s : State} (h : Keeps z s) : Keeps z (gpioClr d v s) :=
  (gpioWrite_keeps h)

theorem gpioSet_keeps {z : State} {d : Nat} {v : Nat} {s : State} (h : Keeps z s) : Keeps z (gpioSet d v s) :=
  (gpioWrite_keeps h)

end Sys2Proof.Machine
end

