-- ==== Sys2Proof/Laws/KeepsSteps.lean ====
section
/-! SUPPORT. What every operation of Steps keeps. -/

namespace Sys2Proof.Machine

theorem setStep_keeps {z : State} {d : Nat} {n : Nat} {c : StepCh} {s : State} (h : Keeps z s) : Keeps z (setStep d n
    c s) :=
  (Keeps.update h)

theorem stepHolding_keeps {z : State} {d : Nat} {n : Nat} {s : State} (h : Keeps z s) : Keeps z (stepHolding d n s) :=
  (evt_keeps (wr_keeps (setStep_keeps h)))

theorem execStepHoldDelay_keeps {z : State} {d : Nat} {n : Nat} {s : State} (h : Keeps z s) : KeepsO z
    (execStepHoldDelay d n s) := by
  have e := Eq.refl @execStepHoldDelay; conv_rhs at e => delta execStepHoldDelay
  rw [e]
  (try dsimp only)
  split <;> (try dsimp only)
  exacts [(.next h), (keepsO_ite (.next h) (keepsO_ite (.next (stepHolding_keeps h)) (.next (setStep_keeps h))))]

theorem execStepHoldReached_keeps {z : State} {d : Nat} {n : Nat} {s : State} (h : Keeps z s) : KeepsO z
    (execStepHoldReached d n s) := by
  have e := Eq.refl @execStepHoldReached; conv_rhs at e => delta execStepHoldReached
  rw [e]
  (try dsimp only)
  split <;> (try dsimp only)
  exacts [(.next h), (keepsO_ite (.next h) (.next (stepHolding_keeps h)))]

theorem showStep_keeps {z : State} {d : Nat} {n : Nat} {s : State} (h : Keeps z s) : Keeps z (showStep d n s) :=
  (wr_keeps (wr_keeps h))

theorem putStep_keeps {z : State} {d : Nat} {n : Nat} {c : StepCh} {s : State} (h : Keeps z s) : Keeps z (putStep d n
    c s) :=
  (showStep_keeps (setStep_keeps h))

theorem stepEnd_keeps {z : State} {d : Nat} {n : Nat} {result : Nat} {s : State} (h : Keeps z s) : Keeps z (stepEnd d
    n result s) :=
  (evt_keeps (wr_keeps (wr_keeps (putStep_keeps h))))

theorem stepFinish_keeps {z : State} {d : Nat} {n : Nat} {result : Nat} {s : State} (h : Keeps z s) : Keeps z
    (stepFinish d n result s) :=
  (keeps_ite (stepEnd_keeps h) (setStep_keeps h))

theorem execStepProfileTick_keeps {z : State} {d : Nat} {n : Nat} {s : State} (h : Keeps z s) : KeepsO z
    (execStepProfileTick d n s) :=
  (keepsO_ite (.next h) (keepsO_ite (.next h) (keepsO_ite (.next (stepFinish_keeps (putStep_keeps (onlyIf_keeps (fun _
    h1 => (wr_keeps (bump_keeps h1))) h)))) (keepsO_ite (.next (stepFinish_keeps (putStep_keeps (onlyIf_keeps (fun _
    h1 => (wr_keeps (bump_keeps h1))) h)))) (.next (putStep_keeps (onlyIf_keeps (fun _ h1 => (wr_keeps (bump_keeps
    h1))) h)))))))

theorem stepBegin_keeps {z : State} {d : Nat} {n : Nat} {target : Int} {s : State} (h : Keeps z s) : Keeps z
    (stepBegin d n target s) :=
  (keeps_ite (stepEnd_keeps (wr_keeps (wr_keeps h))) (putStep_keeps (wr_keeps (wr_keeps h))))

theorem stepClampV_keeps {z : State} {d : Nat} {n : Nat} {s : State} (h : Keeps z s) : Keeps z (stepClampV d n s) :=
  (keeps_ite (wr_keeps h) h)

theorem stepQstop_keeps {z : State} {d : Nat} {n : Nat} {s : State} (h : Keeps z s) : Keeps z (stepQstop d n s) :=
  (keeps_ite (stepEnd_keeps h) (keeps_ite h (putStep_keeps h)))

theorem stepStop_keeps {z : State} {d : Nat} {n : Nat} {s : State} (h : Keeps z s) : Keeps z (stepStop d n s) :=
  (keeps_ite (stepEnd_keeps h) (keeps_ite (putStep_keeps h) h))

theorem stepRefuse_keeps {z : State} {d : Nat} {n : Nat} {s : State} (h : Keeps z s) : Keeps z (stepRefuse d n s) :=
  (evt_keeps (bump_keeps h))

theorem stepCtl_keeps {z : State} {d : Nat} {n : Nat} {w : Nat} {s : State} (h : Keeps z s) : Keeps z (stepCtl d n w
    s) :=
  (keeps_ite (keeps_ite (stepBegin_keeps (keeps_ite (stepStop_keeps (keeps_ite (stepQstop_keeps h) h)) (keeps_ite
    (stepQstop_keeps h) h))) (stepRefuse_keeps (keeps_ite (stepStop_keeps (keeps_ite (stepQstop_keeps h) h))
    (keeps_ite (stepQstop_keeps h) h)))) (keeps_ite (stepStop_keeps (keeps_ite (stepQstop_keeps h) h)) (keeps_ite
    (stepQstop_keeps h) h)))

theorem stepEnable_keeps {z : State} {d : Nat} {n : Nat} {s : State} (h : Keeps z s) : Keeps z (stepEnable d n s) :=
  (keeps_ite (keeps_ite (setStep_keeps h) h) (setStep_keeps h))

theorem stepFence_keeps {z : State} {d : Nat} {n : Nat} {s : State} (h : Keeps z s) : Keeps z (stepFence d n s) :=
  (keeps_ite (setStep_keeps h) (stepEnd_keeps (setStep_keeps h)))

theorem stepIssue_keeps {z : State} {d : Nat} {n : Nat} {s : State} (h : Keeps z s) : Keeps z (stepIssue d n s) := by
  have e := Eq.refl @stepIssue; conv_rhs at e => delta stepIssue
  rw [e]
  (try dsimp only)
  split <;> (try dsimp only)
  exacts [h, (keeps_ite h (by (try dsimp only); split <;> (try dsimp only); exacts [(stepEnd_keeps (wrS_keeps (setStep_keeps (Keeps.update h)))), (wrS_keeps (setStep_keeps (Keeps.update h)))]))]

theorem stepLimits_keeps {z : State} {d : Nat} {n : Nat} {s : State} (h : Keeps z s) : Keeps z (stepLimits d n s) :=
  (keeps_ite (wr_keeps (bump_keeps h)) h)

theorem stepMove_keeps {z : State} {d : Nat} {n : Nat} {target : Int} {s : State} (h : Keeps z s) : Keeps z (stepMove
    d n target s).2 :=
  (keeps_ite1 (stepBegin_keeps h) h)

theorem stepPulses_keeps {z : State} {s : State} (h : Keeps z s) : Keeps z (stepPulses s) :=
  (foldl_keeps (fun _ _ h1 => (stepIssue_keeps h1)) h)

end Sys2Proof.Machine
end

