-- ==== Sys2Proof/Laws/KeepsCues.lean ====
section
/-! SUPPORT. What every operation of Cues keeps. -/

namespace Sys2Proof.Machine

theorem cueStore_keeps {z : State} {d : Nat} {n : Nat} {s : State} (h : Keeps z s) : Keeps z (cueStore d n s) :=
  (putWord_keeps (putWord_keeps (putWord_keeps h)))

theorem setCue_keeps {z : State} {d : Nat} {n : Nat} {c : CueRun} {s : State} (h : Keeps z s) : Keeps z (setCue d n c
    s) :=
  (Keeps.update h)

theorem setArmed_keeps {z : State} {d : Nat} {n : Nat} {v : Bool} {s : State} (h : Keeps z s) : Keeps z (setArmed d n
    v s) :=
  (setBitOf_keeps h)

theorem cueDisarm_keeps {z : State} {d : Nat} {n : Nat} {s : State} (h : Keeps z s) : Keeps z (cueDisarm d n s) :=
  (setArmed_keeps (setCue_keeps h))

theorem cueAdvance_keeps {z : State} {d : Nat} {n : Nat} {s : State} (h : Keeps z s) : Keeps z (cueAdvance d n s) :=
  (keeps_ite (cueStore_keeps (setCue_keeps h)) (cueDisarm_keeps h))

theorem cueError_keeps {z : State} {d : Nat} {n : Nat} {reason : Nat} {s : State} (h : Keeps z s) : Keeps z (cueError
    d n reason s) :=
  (evt_keeps (keeps_ite h (putWord_keeps h)))

theorem cueArm_keeps {z : State} {d : Nat} {n : Nat} {s : State} (h : Keeps z s) : Keeps z (cueArm d n s) :=
  (keeps_ite h (keeps_ite (cueError_keeps h) (setArmed_keeps (setCue_keeps h))))

theorem purgeArm_keeps {z : State} {p : Nat} {target : Nat} {s : State} (h : Keeps z s) : Keeps z (purgeArm p target
    s) :=
  (cueArm_keeps (putBytes_keeps (putBytes_keeps h)))

theorem pathRunSet_keeps {z : State} {p : Nat} {f : PathRun → PathRun} {s : State} (h : Keeps z s) : Keeps z
    (pathRunSet p f s) :=
  (setPathRun_keeps h)

theorem purgeNext_keeps {z : State} {n : Nat} {s : State} (h : Keeps z s) : Keeps z (purgeNext n s) :=
  (foldl_keeps (fun _ _ h1 => (by (try dsimp only); split <;> (try dsimp only); exacts [(keeps_ite (purgeArm_keeps
    (pathRunSet_keeps h1)) h1), h1])) h)

theorem cueCompleted_keeps {z : State} {d : Nat} {n : Nat} {s : State} (h : Keeps z s) : Keeps z (cueCompleted d n s)
    :=
  (keeps_ite (purgeNext_keeps (foldl_keeps (fun _ _ h1 => (keeps_ite (setCue_keeps h1) h1)) h)) (foldl_keeps (fun _ _
    h1 => (keeps_ite (setCue_keeps h1) h1)) h))

theorem cueUnfence_keeps {z : State} {d : Nat} {n : Nat} {s : State} (h : Keeps z s) : Keeps z (cueUnfence d n s) :=
  (setBitOf_keeps (unfence_keeps h))

theorem cueCtl_keeps {z : State} {d : Nat} {w : Nat} {s : State} (h : Keeps z s) : Keeps z (cueCtl d w s) :=
  (keeps_ite (cueArm_keeps (keeps_ite (cueUnfence_keeps (keeps_ite (cueDisarm_keeps h) h)) (keeps_ite (cueDisarm_keeps
    h) h))) (keeps_ite (cueUnfence_keeps (keeps_ite (cueDisarm_keeps h) h)) (keeps_ite (cueDisarm_keeps h) h)))

theorem cueFence_keeps {z : State} {d : Nat} {n : Nat} {s : State} (h : Keeps z s) : Keeps z (cueFence d n s) :=
  (setBitOf_keeps (addFence_keeps (cueDisarm_keeps h)))

theorem cueLate_keeps {z : State} {d : Nat} {s : State} (h : Keeps z s) : Keeps z (cueLate d s) :=
  (evt_keeps (recordFault_keeps (bump_keeps h)))

theorem cueReach_keeps {z : State} {d : Nat} {k : Nat} {up : Bool} {s : State} (h : Keeps z s) : Keeps z (cueReach d k
    up s) :=
  (foldl_keeps (fun _ _ h1 => (keeps_ite (setCue_keeps h1) h1)) h)

theorem cueRefuse_keeps {z : State} {d : Nat} {s : State} (h : Keeps z s) : Keeps z (cueRefuse d s) :=
  (evt_keeps (recordFault_keeps (bump_keeps h)))

theorem execCueComplete_keeps {z : State} {d : Nat} {n : Nat} {s : State} (h : Keeps z s) : KeepsO z (execCueComplete
    d n s) :=
  (keepsO_ite (.next h) (.next (cueCompleted_keeps (setCue_keeps h))))

theorem execEncoderIndex_keeps {z : State} {d : Nat} {e : Nat} {s : State} (h : Keeps z s) : KeepsO z
    (execEncoderIndex d e s) :=
  (keepsO_ite (.next h) (.next (foldl_keeps (fun _ _ h1 => (keeps_ite h1 (keeps_ite (wr_keeps (setCounter_keeps
    (focIndex_keeps (wr_keeps h1)))) (focIndex_keeps (wr_keeps h1))))) h)))

theorem putResume_keeps {z : State} {k : Nat} {x : Nat} {s : State} (h : Keeps z s) : Keeps z (putResume k x s) :=
  (wr_keeps (wr_keeps h))

theorem setStartList_keeps {z : State} {k : Nat} {l : List StartEntry} {s : State} (h : Keeps z s) : Keeps z
    (setStartList k l s) :=
  (wr_keeps (Keeps.update h))

theorem posAdjust_keeps {z : State} {d : Nat} {c : Nat} {s : State} (h : Keeps z s) : Keeps z (posAdjust d c s) :=
  (gearAdjust_keeps (foldl_keeps (fun _ _ h1 => (putResume_keeps (setStartList_keeps h1))) (foldl_keeps (fun _ _ h1 =>
    (keeps_ite (cueStore_keeps (setCue_keeps h1)) h1)) (setCounter_keeps h))))

theorem showPurge_keeps {z : State} {s : State} (h : Keeps z s) : Keeps z (showPurge s) :=
  (wr_keeps (wr_keeps (wr_keeps h)))

theorem purgePop_keeps {z : State} {s : State} (h : Keeps z s) : Keeps z (purgePop s) :=
  (showPurge_keeps (Keeps.update h))

theorem purgeRequest_keeps {z : State} {p : Nat} {fsn : Nat} {xf : Nat} {s : State} (h : Keeps z s) : Keeps z
    (purgeRequest p fsn xf s) :=
  (keeps_ite (evt_keeps (bump_keeps (showPurge_keeps (keeps_ite (Keeps.update h) (wr_keeps h))))) (keeps_ite
    (pathRunSet_keeps (evt_keeps (bump_keeps (showPurge_keeps (keeps_ite (Keeps.update h) (wr_keeps h))))))
    (purgeArm_keeps (evt_keeps (bump_keeps (showPurge_keeps (keeps_ite (Keeps.update h) (wr_keeps h))))))))

end Sys2Proof.Machine
end

