-- ==== Sys2Proof/Laws/KeepsPaths.lean ====
section
/-! SUPPORT. What every operation of Paths keeps. -/

namespace Sys2Proof.Machine

theorem releaseHold_keeps {z : State} {k : Nat} {s : State} (h : Keeps z s) : Keeps z (releaseHold k s) :=
  (keeps_ite (enterRun_keeps (keeps_ite (wr_keeps (setSta_keeps h)) (setSta_keeps h))) h)

theorem setPathState_keeps {z : State} {p : Nat} {st : Nat} {s : State} (h : Keeps z s) : Keeps z (setPathState p st
    s) :=
  (wr_keeps h)

theorem pathRun_keeps {z : State} {p : Nat} {s : State} (h : Keeps z s) : Keeps z (pathRun p s) :=
  (keeps_ite (setPathState_keeps (wr_keeps (Keeps.update (setPathState_keeps h)))) (setPathState_keeps h))

theorem pathJam_keeps {z : State} {p : Nat} {s : State} (h : Keeps z s) : Keeps z (pathJam p s) :=
  (keeps_ite h (evt_keeps (setPathState_keeps h)))

theorem pathEnable_keeps {z : State} {p : Nat} {s : State} (h : Keeps z s) : Keeps z (pathEnable p s) :=
  (keeps_ite (keeps_ite h (foldl_keeps (fun _ _ h1 => (releaseHold_keeps h1)) (setPathState_keeps h))) (keeps_ite
    (keeps_ite (pathJam_keeps (pathRun_keeps h)) (pathRun_keeps h)) h))

theorem criticalStop_keeps {z : State} {d : Nat} {s : State} (h : Keeps z s) : Keeps z (criticalStop d s) :=
  (foldl_keeps (fun _ _ h1 => (keeps_ite (keeps_ite (pathEnable_keeps (wr_keeps h1)) (keeps_ite h1 (wr_keeps
    (Keeps.update h1)))) h1)) h)

theorem dropDue_keeps {z : State} {k : Nat} {s : State} (h : Keeps z s) : Keeps z (dropDue k s) :=
  (keeps_ite (setStartList_keeps h) h)

theorem pathRunup_keeps {z : State} {p : Nat} {s : State} (h : Keeps z s) : Keeps z (pathRunup p s) :=
  (keeps_ite (evt_keeps (pathRun_keeps h)) h)

theorem execPathStandstill_keeps {z : State} {p : Nat} {s : State} (h : Keeps z s) : KeepsO z (execPathStandstill p s)
    :=
  (keepsO_ite (.next h) (keepsO_ite (.next (evt_keeps (setPathState_keeps h))) (keepsO_ite (.next (pathRunup_keeps
    (setPathState_keeps h))) (.next h))))

theorem pathDecel_keeps {z : State} {p : Nat} {s : State} (h : Keeps z s) : Keeps z (pathDecel p s) :=
  (keeps_ite (setPathState_keeps (pathRunSet_keeps h)) h)

theorem pathCause_keeps {z : State} {p : Nat} {cause : Nat} {s : State} (h : Keeps z s) : Keeps z (pathCause p cause
    s) :=
  (keeps_ite h (pathDecel_keeps (foldl_keeps (fun _ _ h1 => (dropDue_keeps (keeps_ite (setSta_keeps h1) h1)))
    (evt_keeps (bump_keeps (wr_keeps (setPathState_keeps h)))))))

theorem execPathStopCause_keeps {z : State} {p : Nat} {s : State} (h : Keeps z s) : KeepsO z (execPathStopCause p s)
    := by
  have e := Eq.refl @execPathStopCause; conv_rhs at e => delta execPathStopCause
  rw [e]
  (try dsimp only)
  split <;> (try dsimp only)
  exacts [(.next (pathCause_keeps ((takeMsg_keeps h) _ (by assumption)))), (.next h)]

theorem rhoOf_keeps {z : State} {v : Int} {run : Int} {s : State} (h : Keeps z s) : Keeps z (rhoOf v run s).2 :=
  (keeps_ite1 (drawFree_keeps h) h)

theorem execRhoBroadcast_keeps {z : State} {p : Nat} {s : State} (h : Keeps z s) : KeepsO z (execRhoBroadcast p s) :=
  (keepsO_ite (.next h) (.next (wr_keeps (pathRunSet_keeps (rhoOf_keeps h)))))

theorem pathBackfeed_keeps {z : State} {p : Nat} {s : State} (h : Keeps z s) : Keeps z (pathBackfeed p s) :=
  (setPathState_keeps (wr_keeps (wr_keeps (by (try dsimp only); split <;> (try dsimp only); exacts [(drawFree_keeps
    h), h]))))

theorem pathClear_keeps {z : State} {p : Nat} {s : State} (h : Keeps z s) : Keeps z (pathClear p s) :=
  (keeps_ite (evt_keeps (pathRun_keeps (foldl_keeps (fun _ _ h1 => (releaseHold_keeps h1)) h))) h)

theorem pathResume_keeps {z : State} {p : Nat} {s : State} (h : Keeps z s) : Keeps z (pathResume p s) :=
  (keeps_ite (pathBackfeed_keeps h) h)

theorem pathCtl_keeps {z : State} {p : Nat} {w : Nat} {s : State} (h : Keeps z s) : Keeps z (pathCtl p w s) :=
  (keeps_ite (pathClear_keeps (keeps_ite (pathResume_keeps (keeps_ite (pathCause_keeps h) h)) (keeps_ite
    (pathCause_keeps h) h))) (keeps_ite (pathResume_keeps (keeps_ite (pathCause_keeps h) h)) (keeps_ite
    (pathCause_keeps h) h)))

theorem reachResume_keeps {z : State} {d : Nat} {c : Nat} {up : Bool} {s : State} (h : Keeps z s) : Keeps z
    (reachResume d c up s) :=
  (foldl_keeps (fun _ _ h1 => (keeps_ite (setSta_keeps h1) h1)) h)

theorem reachStart_keeps {z : State} {d : Nat} {c : Nat} {up : Bool} {s : State} (h : Keeps z s) : Keeps z (reachStart
    d c up s) :=
  (foldl_keeps (fun _ _ h1 => (by (try dsimp only); split <;> (try dsimp only); exacts [h1, (keeps_ite
    (setStartList_keeps h1) h1)])) h)

theorem sendCause_keeps {z : State} {p : Nat} {cause : Nat} {s : State} (h : Keeps z s) : Keeps z (sendCause p cause
    s) :=
  (Keeps.update h)

theorem runupFailed_keeps {z : State} {d : Nat} {p : Nat} {s : State} (h : Keeps z s) : Keeps z (runupFailed d p s) :=
  (sendCause_keeps (wr_keeps (recordFault_keeps (evt_keeps h))))

theorem stationStopped_keeps {z : State} {k : Nat} {s : State} (h : Keeps z s) : Keeps z (stationStopped k s) :=
  (keeps_ite (pathDecel_keeps h) h)

theorem watchStart_keeps {z : State} {k : Nat} {s : State} (h : Keeps z s) : Keeps z (watchStart k s) := by
  have e := Eq.refl @watchStart; conv_rhs at e => delta watchStart
  rw [e]
  (try dsimp only)
  split <;> (try dsimp only)
  exacts [h, (keeps_ite (setStartList_keeps h) h)]

end Sys2Proof.Machine
end

