-- ==== Sys2Proof/Laws/KeepsFrames.lean ====
section
/-! SUPPORT. What every operation of Frames keeps. -/

namespace Sys2Proof.Machine

theorem cmdResult_keeps {z : State} {cmd : Nat} {result : Nat} {slot : Nat} {s : State} (h : Keeps z s) : Keeps z
    (cmdResult cmd result slot s) :=
  (evt_keeps (putWord_keeps h))

theorem dropPlanes_keeps {z : State} {i : Nat} {s : State} (h : Keeps z s) : Keeps z (dropPlanes i s) :=
  (foldl_keeps (fun _ _ h1 => (setPlane_keeps h1)) h)

theorem dropStarts_keeps {z : State} {i : Nat} {k : Nat} {s : State} (h : Keeps z s) : Keeps z (dropStarts i k s) :=
  (keeps_ite (watchStart_keeps (setStartList_keeps (keeps_ite (setSta_keeps h) h))) (keeps_ite (setSta_keeps h) h))

theorem dropImaging_keeps {z : State} {i : Nat} {k : Nat} {s : State} (h : Keeps z s) : Keeps z (dropImaging i k s) :=
  (Keeps.update (foldl_keeps (fun _ _ h1 => (Keeps.update h1)) h))

theorem spoilStation_keeps {z : State} {i : Nat} {k : Nat} {s : State} (h : Keeps z s) : Keeps z (spoilStation i k s)
    :=
  (dropStarts_keeps (dropImaging_keeps (keeps_ite (keeps_ite (Keeps.update (setSta_keeps h)) (setSta_keeps h)) h)))

theorem freeSlot_keeps {z : State} {i : Nat} {s : State} (h : Keeps z s) : Keeps z (freeSlot i s) :=
  (dropPlanes_keeps (setSlot_keeps (foldl_keeps (fun _ _ h1 => (spoilStation_keeps h1))
    (by (try dsimp only); split <;> (try dsimp only); exacts [(keeps_ite (setRetained_keeps h) h), h]))))

theorem pushFreed_keeps {z : State} {fsn : Nat} {s : State} (h : Keeps z s) : Keeps z (pushFreed fsn s) :=
  (evt_keeps (Keeps.update h))

theorem freedDone_keeps {z : State} {w : FreedWait} {s : State} (h : Keeps z s) : Keeps z (freedDone w s) := by
  have e := Eq.refl @freedDone; conv_rhs at e => delta freedDone
  rw [e]
  (try dsimp only)
  split <;> (try dsimp only)
  exacts [(freeSlot_keeps (pushFreed_keeps h)), (setRetained_keeps (pushFreed_keeps h))]

theorem drainFreed_keeps {z : State} {x0 : List FreedWait} {x1 : State} (h : Keeps z x1) : Keeps z (drainFreed x0 x1)
    := by
  fun_induction drainFreed x0 x1 <;> first | exact Keeps.update (by assumption) | grind [freedDone_keeps]

theorem entryBytes_keeps {z : State} {e : Nat} {s : State} (h : Keeps z s) : Keeps z (entryBytes e s).2 := by
  have e := Eq.refl @entryBytes; conv_rhs at e => delta entryBytes
  rw [e]
  (try dsimp only)
  split <;> (try dsimp only)
  exacts [(Keeps.ofPair (by assumption) (agentRead_keeps h)), (freeBytes_keeps (Keeps.ofPair (by assumption) (agentRead_keeps h)))]

theorem queueFreed_keeps {z : State} {w : FreedWait} {s : State} (h : Keeps z s) : Keeps z (queueFreed w s) :=
  (keeps_ite h (keeps_ite (freedDone_keeps h) (evt_keeps (Keeps.update h))))

theorem entryCheck_keeps {z : State} {fsn : Nat} {s : State} (h : Keeps z s) : Keeps z (entryCheck fsn s) := by
  have e := Eq.refl @entryCheck; conv_rhs at e => delta entryCheck
  rw [e]
  (try dsimp only)
  split <;> (try dsimp only)
  exacts [h, (keeps_ite (queueFreed_keeps h) h)]

theorem execFrameAdmitted_keeps {z : State} {i : Nat} {s : State} (h : Keeps z s) : KeepsO z (execFrameAdmitted i s)
    :=
  (keepsO_ite (.next h) (keepsO_ite (by (try dsimp only); split <;> (try dsimp only); exacts [(.next (evt_keeps h)),
    (.next (evt_keeps (setSlot_keeps (setRetained_keeps h))))]) (.next (evt_keeps (setSlot_keeps h)))))

theorem execFrameArmed_keeps {z : State} {i : Nat} {s : State} (h : Keeps z s) : KeepsO z (execFrameArmed i s) :=
  (keepsO_ite (.next h) (.next (setSlot_keeps h)))

theorem goFree_keeps {z : State} {i : Nat} {s : State} (h : Keeps z s) : Keeps z (goFree i s) :=
  (keeps_ite (entryCheck_keeps (freeSlot_keeps h)) (queueFreed_keeps h))

theorem goRetained_keeps {z : State} {i : Nat} {s : State} (h : Keeps z s) : Keeps z (goRetained i s) := by
  have e := Eq.refl @goRetained; conv_rhs at e => delta goRetained
  rw [e]
  (try dsimp only)
  split <;> (try dsimp only)
  exacts [(goFree_keeps h), (freeSlot_keeps (setRetained_keeps (agentPut_keeps h)))]

theorem execFrameRetire_keeps {z : State} {i : Nat} {s : State} (h : Keeps z s) : KeepsO z (execFrameRetire i s) :=
  (keepsO_ite (.next h) (keepsO_ite (.next (goRetained_keeps h)) (.next (goFree_keeps h))))

theorem execPlaneDescriptorMsg_keeps {z : State} {i : Nat} {k : Nat} {s : State} (h : Keeps z s) : KeepsO z
    (execPlaneDescriptorMsg i k s) := by
  have e := Eq.refl @execPlaneDescriptorMsg; conv_rhs at e => delta execPlaneDescriptorMsg
  rw [e]
  (try dsimp only)
  split <;> (try dsimp only)
  exacts [(.next h), (keepsO_ite (.next ((takeMsg_keeps h) _ (by assumption))) (.next (setPlane_keeps (Keeps.update ((takeMsg_keeps h) _ (by assumption))))))]

theorem setFrameCount_keeps {z : State} {i : Nat} {v : Nat} {s : State} (h : Keeps z s) : Keeps z (setFrameCount i v
    s) :=
  (putBytes_keeps h)

theorem requeue_keeps {z : State} {i : Nat} {s : State} (h : Keeps z s) : Keeps z (requeue i s) :=
  (foldl_keeps (fun _ _ h1 => (keeps_ite (foldl_keeps (fun _ _ h2 => (dropImaging_keeps h2)) (setSlot_keeps h1)) h1))
    (foldl_keeps (fun _ _ h1 => (setPlane_keeps h1)) (setSlot_keeps (keeps_ite (setFrameCount_keeps h) h))))

theorem setEntryCount_keeps {z : State} {e : Nat} {n : Nat} {s : State} (h : Keeps z s) : Keeps z (setEntryCount e n
    s) :=
  (agentPut_keeps (setRetained_keeps h))

theorem giveBack_keeps {z : State} {fsn : Nat} {s : State} (h : Keeps z s) : Keeps z (giveBack fsn s) := by
  have e := Eq.refl @giveBack; conv_rhs at e => delta giveBack
  rw [e]
  (try dsimp only)
  split <;> (try dsimp only)
  exacts [(keeps_ite h (setEntryCount_keeps h)), h]

theorem execSpoiledExit_keeps {z : State} {i : Nat} {s : State} (h : Keeps z s) : KeepsO z (execSpoiledExit i s) :=
  (keepsO_ite (.next h) (by (try dsimp only); split <;> (try dsimp only); exacts [(.next (requeue_keeps h)), (.next
    (goRetained_keeps h)), (.next (goFree_keeps (keeps_ite (giveBack_keeps h) h)))]))

theorem spoilPurge_keeps {z : State} {i : Nat} {cause : Nat} {s : State} (h : Keeps z s) : Keeps z (spoilPurge i cause
    s) := by
  have e := Eq.refl @spoilPurge; conv_rhs at e => delta spoilPurge
  rw [e]
  (try dsimp only)
  split <;> (try dsimp only)
  exacts [(keeps_ite (purgeRequest_keeps h) h), h]

theorem spoilAgain_keeps {z : State} {i : Nat} {cause : Nat} {k : Nat} {s : State} (h : Keeps z s) : Keeps z
    (spoilAgain i cause k s) :=
  (keeps_ite (keeps_ite (spoilPurge_keeps (Keeps.update (setSlot_keeps h))) (Keeps.update (setSlot_keeps h))) h)

theorem logSpoil_keeps {z : State} {e : SpoilEntry} {s : State} (h : Keeps z s) : Keeps z (logSpoil e s) :=
  (keeps_ite (Keeps.update h) (wr_keeps (bump_keeps h)))

theorem spoilFrame_keeps {z : State} {i : Nat} {cause : Nat} {k : Nat} {s : State} (h : Keeps z s) : Keeps z
    (spoilFrame i cause k s) :=
  (keeps_ite (spoilAgain_keeps h) (spoilPurge_keeps (foldl_keeps (fun _ _ h1 => (spoilStation_keeps h1)) (evt_keeps
    (logSpoil_keeps (Keeps.update (setSlot_keeps h)))))))

theorem frameAbort_keeps {z : State} {fsn : Nat} {s : State} (h : Keeps z s) : Keeps z (frameAbort fsn s) := by
  have e := Eq.refl @frameAbort; conv_rhs at e => delta frameAbort
  rw [e]
  (try dsimp only)
  split <;> (try dsimp only)
  exacts [(cmdResult_keeps h), (keeps_ite (cmdResult_keeps (spoilFrame_keeps h)) (keeps_ite (cmdResult_keeps (goFree_keeps (giveBack_keeps h))) (cmdResult_keeps (queueFreed_keeps (setSlot_keeps (foldl_keeps (fun _ _ h1 => (spoilStation_keeps h1)) (by (try dsimp only); split <;> (try dsimp only); exacts [(setRetained_keeps (setSlot_keeps h)), h])))))))]

theorem frameBegun_keeps {z : State} {i : Nat} {k : Nat} {s : State} (h : Keeps z s) : Keeps z (frameBegun i k s) :=
  (setSlot_keeps h)

theorem frameRelease_keeps {z : State} {fsn : Nat} {s : State} (h : Keeps z s) : Keeps z (frameRelease fsn s) := by
  have e := Eq.refl @frameRelease; conv_rhs at e => delta frameRelease
  rw [e]
  (try dsimp only)
  split <;> (try dsimp only)
  exacts [(cmdResult_keeps (entryCheck_keeps (setRetained_keeps h))), (cmdResult_keeps h)]

theorem submitReject_keeps {z : State} {i : Nat} {reason : Nat} {s : State} (h : Keeps z s) : Keeps z (submitReject i
    reason s) :=
  (evt_keeps (wr_keeps (wr_keeps (wr_keeps h))))

theorem submitSlot_keeps {z : State} {i : Nat} {s0 : State} (h : Keeps z s0) : Keeps z (submitSlot i s0) :=
  (keeps_ite (submitReject_keeps (Keeps.update h)) (Keeps.update (wr_keeps (setSlot_keeps (dropPlanes_keeps
    (Keeps.update h))))))

theorem frameSubmit_keeps {z : State} {i : Nat} {s : State} (h : Keeps z s) : Keeps z (frameSubmit i s) :=
  (keeps_ite (submitSlot_keeps h) (submitReject_keeps (Keeps.update h)))

theorem freedPop_keeps {z : State} {s : State} (h : Keeps z s) : Keeps z (freedPop s) :=
  (drainFreed_keeps (Keeps.update h))

theorem leadCheck_keeps {z : State} {i : Nat} {k : Nat} {s : State} (h : Keeps z s) : Keeps z (leadCheck i k s) :=
  (keeps_ite (sendCause_keeps h) h)

theorem leadCheckStation_keeps {z : State} {k : Nat} {s : State} (h : Keeps z s) : Keeps z (leadCheckStation k s) :=
  (foldl_keeps (fun _ _ h1 => (keeps_ite (leadCheck_keeps h1) h1)) h)

theorem leadCheckAll_keeps {z : State} {s : State} (h : Keeps z s) : Keeps z (leadCheckAll s) :=
  (foldl_keeps (fun _ _ h1 => (leadCheckStation_keeps h1)) h)

theorem planeFinished_keeps {z : State} {i : Nat} {k : Nat} {s : State} (h : Keeps z s) : Keeps z (planeFinished i k
    s) :=
  (keeps_ite (evt_keeps (setSlot_keeps h)) (setSlot_keeps h))

theorem reprintGo_keeps {z : State} {s : State} (h : Keeps z s) : Keeps z (reprintGo s) := by
  have e := Eq.refl @reprintGo; conv_rhs at e => delta reprintGo
  rw [e]
  (try dsimp only)
  split <;> (try dsimp only)
  exacts [(cmdResult_keeps h), (keeps_ite (cmdResult_keeps h) (keeps_ite (cmdResult_keeps h) (keeps_ite (cmdResult_keeps h) (by (try dsimp only); split <;> (try dsimp only); exacts [(cmdResult_keeps h), (cmdResult_keeps (keeps_ite (foldl_keeps (fun _ _ h1 => (setPlane_keeps h1)) (wr_keeps (Keeps.update (setSlot_keeps (putBytes_keeps (dropPlanes_keeps (entryBytes_keeps h))))))) (setEntryCount_keeps (foldl_keeps (fun _ _ h1 => (setPlane_keeps h1)) (wr_keeps (Keeps.update (setSlot_keeps (putBytes_keeps (dropPlanes_keeps (entryBytes_keeps h))))))))))]))))]

theorem spoilAll_keeps {z : State} {cause : Nat} {s : State} (h : Keeps z s) : Keeps z (spoilAll cause s) :=
  (foldl_keeps (fun _ _ h1 => (by (try dsimp only); split <;> (try dsimp only); exacts [(keeps_ite h1
    (spoilFrame_keeps h1)), h1])) h)

theorem spoilDie_keeps {z : State} {d : Nat} {cause : Nat} {s : State} (h : Keeps z s) : Keeps z (spoilDie d cause s)
    :=
  (foldl_keeps (fun _ _ h1 => (by (try dsimp only); split <;> (try dsimp only); exacts [(keeps_ite h1
    (spoilFrame_keeps h1)), h1])) h)

theorem spoilImaging_keeps {z : State} {k : Nat} {cause : Nat} {s : State} (h : Keeps z s) : Keeps z (spoilImaging k
    cause s) :=
  (foldl_keeps (fun _ _ h1 => (keeps_ite (spoilFrame_keeps h1) h1)) h)

theorem spoilPop_keeps {z : State} {s : State} (h : Keeps z s) : Keeps z (spoilPop s) :=
  (Keeps.update h)

theorem surveyedCheck_keeps {z : State} {i : Nat} {s : State} (h : Keeps z s) : Keeps z (surveyedCheck i s) :=
  (keeps_ite (setSlot_keeps h) h)

end Sys2Proof.Machine
end

