-- ==== Sys2Proof/Laws/KeepsStationFence.lean ====
section
/-! SUPPORT. What every operation of StationFence keeps. -/

namespace Sys2Proof.Machine

theorem gateAtBoundary_keeps {z : State} {k : Nat} {s : State} (h : Keeps z s) : Keeps z (gateAtBoundary k s) :=
  (setSta_keeps h)

theorem gateFresh_keeps {z : State} {k : Nat} {s : State} (h : Keeps z s) : Keeps z (gateFresh k s) :=
  (keeps_ite (setSta_keeps h) h)

theorem lenUpdate_keeps {z : State} {k : Nat} {s : State} (h : Keeps z s) : Keeps z (lenUpdate k s) :=
  (keeps_ite h (keeps_ite (wr_keeps h) (evt_keeps (wr_keeps h))))

theorem setLatch_keeps {z : State} {k : Nat} {bit : Nat} {v : Bool} {s : State} (h : Keeps z s) : Keeps z (setLatch k
    bit v s) :=
  (setBitOf_keeps h)

theorem timingOff_keeps {z : State} {k : Nat} {s : State} (h : Keeps z s) : Keeps z (timingOff k s) :=
  (keeps_ite h (stationStopped_keeps (lenUpdate_keeps (spoilImaging_keeps (keeps_ite (evt_keeps (wr_keeps (wr_keeps
    (setSta_keeps h)))) (wr_keeps (wr_keeps (setSta_keeps h))))))))

theorem stationFence_keeps {z : State} {k : Nat} {s : State} (h : Keeps z s) : Keeps z (stationFence k s) :=
  (keeps_ite (Keeps.update h) (headForm_keeps (closeSession_keeps (lenUpdate_keeps (timingOff_keeps (setSta_keeps
    (addFence_keeps (Keeps.update (spoilImaging_keeps h)))))))))

theorem stationFault_keeps {z : State} {k : Nat} {p : Nat} {src : Nat} {forced : Bool} {s : State} (h : Keeps z s) :
    Keeps z (stationFault k p src forced s) :=
  (keeps_ite (stationFence_keeps (recordFault_keeps h)) (recordFault_keeps h))

theorem stationRefuse_keeps {z : State} {k : Nat} {kind : Nat} {addr : Nat} {s : State} (h : Keeps z s) : Keeps z
    (stationRefuse k kind addr s) :=
  (evt_keeps (keeps_ite h (wr_keeps (wr_keeps (wr_keeps h)))))

theorem timingEnd_keeps {z : State} {k : Nat} {s : State} (h : Keeps z s) : Keeps z (timingEnd k s) :=
  (keeps_ite (stationFence_keeps (timingOff_keeps h)) (timingOff_keeps h))

end Sys2Proof.Machine
end

