-- ==== Sys2Proof/Laws/KeepsSurvey.lean ====
section
/-! SUPPORT. What every operation of Survey keeps. -/

namespace Sys2Proof.Machine

theorem setDlane_keeps {z : State} {d : Nat} {n : Nat} {v : DecodeLane} {s : State} (h : Keeps z s) : Keeps z
    (setDlane d n v s) :=
  (Keeps.update h)

theorem clearRecords_keeps {z : State} {i : Nat} {k : Nat} {c : Nat} {s : State} (h : Keeps z s) : Keeps z
    (clearRecords i k c s) :=
  (foldl_keeps (fun _ _ h1 => (keeps_ite (agentPut_keeps h1) h1)) h)

theorem resurveyFrom_keeps {z : State} {i : Nat} {k : Nat} {n : Nat} {s : State} (h : Keeps z s) : Keeps z
    (resurveyFrom i k n s) :=
  (leadCheckStation_keeps (setPlane_keeps (clearRecords_keeps (foldl_keeps (fun _ _ h1 =>
    (by (try dsimp only); split <;> (try dsimp only); exacts [(keeps_ite (setDlane_keeps h1) h1), h1])) h))))

theorem ashlarDelivered_keeps {z : State} {k : Nat} {fsn : Nat} {n : Nat} {s : State} (h : Keeps z s) : Keeps z
    (ashlarDelivered k fsn n s) := by
  have e := Eq.refl @ashlarDelivered; conv_rhs at e => delta ashlarDelivered
  rw [e]
  (try dsimp only)
  split <;> (try dsimp only)
  exacts [(keeps_ite (Keeps.update h) (keeps_ite (resurveyFrom_keeps h) (keeps_ite (bump_keeps h) (setPlane_keeps h)))), h]

theorem writeRecord_keeps {z : State} {i : Nat} {k : Nat} {c : Nat} {ashlars : Nat} {zones : List Nat} {s : State} (h
    : Keeps z s) : Keeps z (writeRecord i k c ashlars zones s) :=
  (keeps_ite (agentPut_keeps (agentPut_keeps h)) (agentPut_keeps (agentPut_keeps (agentPut_keeps (agentPut_keeps
    h)))))

theorem ashlarPassed_keeps {z : State} {i : Nat} {k : Nat} {a : Passed} {s : State} (h : Keeps z s) : Keeps z
    (ashlarPassed i k a s) :=
  (surveyedCheck_keeps (setPlane_keeps (keeps_ite (writeRecord_keeps h) h)))

theorem stateRecord_keeps {z : State} {kind : Nat} {l : Nat} {fsn : Nat} {final : Bool} {c : Carry} {s : State} (h :
    Keeps z s) : Keeps z (stateRecord kind l fsn final c s).2 :=
  (freeBytes_keeps (freeBytes_keeps h))

theorem carryYield_keeps {z : State} {i : Nat} {k : Nat} {e : Nat} {s : State} (h : Keeps z s) : Keeps z (carryYield i
    k e s) :=
  (bump_keeps (wr_keeps (setPlane_keeps (agentPut_keeps (stateRecord_keeps h)))))

theorem carryRestart_keeps {z : State} {i : Nat} {k : Nat} {s : State} (h : Keeps z s) : Keeps z (carryRestart i k s)
    :=
  (leadCheckStation_keeps (setPlane_keeps (clearRecords_keeps h)))

theorem carryBoundary_keeps {z : State} {d : Nat} {n : Nat} {i : Nat} {k : Nat} {s : State} (h : Keeps z s) : Keeps z
    (carryBoundary d n i k s) :=
  (keeps_ite (setDlane_keeps h) (keeps_ite (by (try dsimp only); split <;> (try dsimp only); exacts [(setDlane_keeps
    (carryYield_keeps h)), (keeps_ite (setDlane_keeps (carryRestart_keeps h)) (evt_keeps h))]) h))

theorem carryPassed_keeps {z : State} {i : Nat} {k : Nat} {r : RecordOut} {s : State} (h : Keeps z s) : Keeps z
    (carryPassed i k r s) :=
  (keeps_ite (surveyedCheck_keeps (setPlane_keeps (writeRecord_keeps (drawFree_keeps h)))) (setPlane_keeps h))

theorem readRecord_keeps {z : State} {p : PlaneDesc} {d : Nat} {off : Nat} {line : Nat} {history : List
    Sys2Proof.Byte} {s : State} (h : Keeps z s) : Keeps z (readRecord p d off line history s).2 := by
  have e := Eq.refl @readRecord; conv_rhs at e => delta readRecord
  rw [e]
  (try dsimp only)
  split <;> (try dsimp only)
  exacts [(Keeps.ofPair (by assumption) (agentRead_keeps h)), (Keeps.ofPair (by assumption) (agentRead_keeps h)), (keeps_ite1 (Keeps.ofPair (by assumption) (agentRead_keeps h)) (by (try dsimp only); split <;> (try dsimp only); exacts [(keeps_ite1 (Keeps.ofPair (by assumption) (agentRead_keeps (Keeps.ofPair (by assumption) (agentRead_keeps h)))) (by (try dsimp only); split <;> (try dsimp only); exacts [(by (try dsimp only); split <;> (try dsimp only); exacts [(Keeps.ofPair (by assumption) (agentRead_keeps (Keeps.ofPair (by assumption) (agentRead_keeps (Keeps.ofPair (by assumption) (agentRead_keeps h)))))), (keeps_ite1 (Keeps.ofPair (by assumption) (agentRead_keeps (Keeps.ofPair (by assumption) (agentRead_keeps (Keeps.ofPair (by assumption) (agentRead_keeps h)))))) (keeps_ite1 (Keeps.ofPair (by assumption) (agentRead_keeps (Keeps.ofPair (by assumption) (agentRead_keeps (Keeps.ofPair (by assumption) (agentRead_keeps h)))))) (keeps_ite1 (Keeps.ofPair (by assumption) (agentRead_keeps (Keeps.ofPair (by assumption) (agentRead_keeps (Keeps.ofPair (by assumption) (agentRead_keeps h)))))) (by (try dsimp only); split <;> (try dsimp only); exacts [(keeps_ite1 (Keeps.ofPair (by assumption) (agentRead_keeps (Keeps.ofPair (by assumption) (agentRead_keeps (Keeps.ofPair (by assumption) (agentRead_keeps (Keeps.ofPair (by assumption) (agentRead_keeps h)))))))) (Keeps.ofPair (by assumption) (agentRead_keeps (Keeps.ofPair (by assumption) (agentRead_keeps (Keeps.ofPair (by assumption) (agentRead_keeps (Keeps.ofPair (by assumption) (agentRead_keeps h))))))))), (Keeps.ofPair (by assumption) (agentRead_keeps (Keeps.ofPair (by assumption) (agentRead_keeps (Keeps.ofPair (by assumption) (agentRead_keeps (Keeps.ofPair (by assumption) (agentRead_keeps h))))))))]))))]), (Keeps.ofPair (by assumption) (agentRead_keeps (Keeps.ofPair (by assumption) (agentRead_keeps (Keeps.ofPair (by assumption) (agentRead_keeps h))))))])), (Keeps.ofPair (by assumption) (agentRead_keeps (Keeps.ofPair (by assumption) (agentRead_keeps h))))]))]

theorem surveyFail_keeps {z : State} {k : Nat} {fsn : Nat} {n : Nat} {reason : Nat} {s : State} (h : Keeps z s) :
    Keeps z (surveyFail k fsn n reason s) :=
  (evt_keeps (bump_keeps (keeps_ite h (wr_keeps (putWord_keeps h)))))

theorem carrySurveyRecord_keeps {z : State} {d : Nat} {n : Nat} {i : Nat} {k : Nat} {s : State} (h : Keeps z s) :
    Keeps z (carrySurveyRecord d n i k s) :=
  (keeps_ite (setDlane_keeps h) (by (try dsimp only); split <;> (try dsimp only); exacts [(carryBoundary_keeps
    (carryPassed_keeps (Keeps.ofPair (by assumption) (readRecord_keeps h)))), (setDlane_keeps (surveyFail_keeps
    (setPlane_keeps (Keeps.ofPair (by assumption) (readRecord_keeps h)))))]))

theorem codecLanesEvent_keeps {z : State} {d : Nat} {s : State} (h : Keeps z s) : Keeps z (codecLanesEvent d s) :=
  (evt_keeps h)

theorem codecUnfence_keeps {z : State} {d : Nat} {w : Nat} {s : State} (h : Keeps z s) : Keeps z (codecUnfence d w s)
    :=
  (keeps_ite h (keeps_ite (unfence_keeps h) (keeps_ite (wr_keeps (setDlane_keeps (unfence_keeps h))) (unfence_keeps
    h))))

theorem setImager_keeps {z : State} {k : Nat} {v : Imager} {s : State} (h : Keeps z s) : Keeps z (setImager k v s) :=
  (Keeps.update h)

theorem laneWorkLost_keeps {z : State} {l : DecodeLane} {s : State} (h : Keeps z s) : Keeps z (laneWorkLost l s) := by
  have e := Eq.refl @laneWorkLost; conv_rhs at e => delta laneWorkLost
  rw [e]
  (try dsimp only)
  split <;> (try dsimp only)
  exacts [(keeps_ite h (setPlane_keeps h)), (carryRestart_keeps h), (by (try dsimp only); split <;> (try dsimp only); exacts [(setImager_keeps h), (setImager_keeps h)]), h]

theorem roleTaken_keeps {z : State} {d : Nat} {lost : Nat} {s : State} (h : Keeps z s) : Keeps z (roleTaken d lost s)
    := by
  have e := Eq.refl @roleTaken; conv_rhs at e => delta roleTaken
  rw [e]
  (try dsimp only)
  split <;> (try dsimp only)
  exacts [(setDlane_keeps h), h]

theorem decodeFence_keeps {z : State} {d : Nat} {n : Nat} {s : State} (h : Keeps z s) : Keeps z (decodeFence d n s) :=
  (keeps_ite h (keeps_ite (codecLanesEvent_keeps (setDlane_keeps (wr_keeps (addFence_keeps (laneWorkLost_keeps h)))))
    (roleTaken_keeps (codecLanesEvent_keeps (setDlane_keeps (wr_keeps (addFence_keeps (laneWorkLost_keeps h))))))))

theorem execCarrySurveyStart_keeps {z : State} {d : Nat} {n : Nat} {i : Nat} {k : Nat} {s : State} (h : Keeps z s) :
    KeepsO z (execCarrySurveyStart d n i k s) :=
  (keepsO_ite (.next h) (by (try dsimp only); split <;> (try dsimp only); exacts [(.next (setDlane_keeps h)),
    (by (try dsimp only); split <;> (try dsimp only); exacts [(.next (setDlane_keeps (setPlane_keeps (wr_keeps
    (by (try dsimp only); split <;> (try dsimp only); exacts [(Keeps.ofPair (by assumption) (agentRead_keeps h)),
    (Keeps.ofPair (by assumption) (agentRead_keeps h))]))))), (.next (setDlane_keeps (carryRestart_keeps (bump_keeps
    (wr_keeps (by (try dsimp only); split <;> (try dsimp only); exacts [(Keeps.ofPair (by assumption) (agentRead_keeps
    h)), (Keeps.ofPair (by assumption) (agentRead_keeps h))]))))))])]))

theorem roleSet_keeps {z : State} {d : Nat} {n : Nat} {r : Nat} {s : State} (h : Keeps z s) : Keeps z (roleSet d n r
    s) :=
  (keeps_ite (setDlane_keeps (wr_keeps h)) (codecLanesEvent_keeps (setDlane_keeps (wr_keeps h))))

theorem execLaneRoleChange_keeps {z : State} {d : Nat} {n : Nat} {s : State} (h : Keeps z s) : KeepsO z
    (execLaneRoleChange d n s) := by
  have e := Eq.refl @execLaneRoleChange; conv_rhs at e => delta execLaneRoleChange
  rw [e]
  (try dsimp only)
  split <;> (try dsimp only)
  exacts [(.next h), (keepsO_ite (.next h) (by (try dsimp only); split <;> (try dsimp only); exacts [(.next (roleSet_keeps h)), (.next (roleSet_keeps (by (try dsimp only); split <;> (try dsimp only); exacts [(carryYield_keeps h), (carryRestart_keeps h)]))), (.next h)]))]

theorem readAshlar_keeps {z : State} {p : PlaneDesc} {d : Nat} {n : Nat} {first : Nat} {s : State} (h : Keeps z s) :
    Keeps z (readAshlar p d n first s).2 := by
  have e := Eq.refl @readAshlar; conv_rhs at e => delta readAshlar
  rw [e]
  (try dsimp only)
  split <;> (try dsimp only)
  exacts [(Keeps.ofPair (by assumption) (agentRead_keeps h)), (Keeps.ofPair (by assumption) (agentRead_keeps h)), (keeps_ite1 (Keeps.ofPair (by assumption) (agentRead_keeps h)) (by (try dsimp only); split <;> (try dsimp only); exacts [(Keeps.ofPair (by assumption) (readDbf_keeps (Keeps.ofPair (by assumption) (agentRead_keeps h)))), (Keeps.ofPair (by assumption) (readDbf_keeps (Keeps.ofPair (by assumption) (agentRead_keeps h))))]))]

theorem execSurveyAshlarDone_keeps {z : State} {d : Nat} {n : Nat} {s : State} (h : Keeps z s) : KeepsO z
    (execSurveyAshlarDone d n s) := by
  have e := Eq.refl @execSurveyAshlarDone; conv_rhs at e => delta execSurveyAshlarDone
  rw [e]
  (try dsimp only)
  split <;> (try dsimp only)
  exacts [(keepsO_ite (.next (setDlane_keeps h)) (by (try dsimp only); split <;> (try dsimp only); exacts [(.next (ashlarPassed_keeps (Keeps.ofPair (by assumption) (readAshlar_keeps (setDlane_keeps h))))), (.next (surveyFail_keeps (setPlane_keeps (Keeps.ofPair (by assumption) (readAshlar_keeps (setDlane_keeps h))))))])), (.next h)]

theorem execSurveyAshlarStart_keeps {z : State} {d : Nat} {n : Nat} {i : Nat} {k : Nat} {s : State} (h : Keeps z s) :
    KeepsO z (execSurveyAshlarStart d n i k s) :=
  (keepsO_ite (.next h) (by (try dsimp only); split <;> (try dsimp only); exacts [(.next h), (.next (setDlane_keeps
    (setPlane_keeps h)))]))

theorem resCtl_keeps {z : State} {d : Nat} {w : Nat} {s : State} (h : Keeps z s) : Keeps z (resCtl d w s) :=
  (keeps_ite (by (try dsimp only); split <;> (try dsimp only); exacts [h, (keeps_ite h (keeps_ite (keeps_ite
    (carryRestart_keeps h) h) (keeps_ite (resurveyFrom_keeps h) h)))]) (declareResident_keeps h))

end Sys2Proof.Machine
end

