-- ==== Sys2Proof/Laws/KeepsImaging.lean ====
section
/-! SUPPORT. What every operation of Imaging keeps. -/

namespace Sys2Proof.Machine

theorem holdRows_keeps {z : State} {k : Nat} {i : Nat} {first : Nat} {skip : Nat} {rows : List (List Sys2Proof.Byte)}
    {s : State} (h : Keeps z s) : Keeps z (holdRows k i first skip rows s) :=
  (keeps_ite h (setImager_keeps h))

theorem writeCkpt_keeps {z : State} {k : Nat} {i : Nat} {final : Bool} {s : State} (h : Keeps z s) : Keeps z
    (writeCkpt k i final s) := by
  have e := Eq.refl @writeCkpt; conv_rhs at e => delta writeCkpt
  rw [e]
  (try dsimp only)
  split <;> (try dsimp only)
  exacts [h, (agentPut_keeps (setImager_keeps (stateRecord_keeps h)))]

theorem carryImageRecord_keeps {z : State} {d : Nat} {n : Nat} {i : Nat} {k : Nat} {s : State} (h : Keeps z s) : Keeps
    z (carryImageRecord d n i k s) :=
  (keeps_ite (setDlane_keeps h) (by (try dsimp only); split <;> (try dsimp only); exacts [(setDlane_keeps
    (spoilFrame_keeps (Keeps.ofPair (by assumption) (readRecord_keeps h)))), (keeps_ite h (keeps_ite (setDlane_keeps
    (setImager_keeps (keeps_ite (writeCkpt_keeps (setImager_keeps (holdRows_keeps (Keeps.ofPair (by assumption)
    (readRecord_keeps h))))) (setImager_keeps (holdRows_keeps (Keeps.ofPair (by assumption) (readRecord_keeps h)))))))
    (keeps_ite (writeCkpt_keeps (setImager_keeps (holdRows_keeps (Keeps.ofPair (by assumption) (readRecord_keeps
    h))))) (setImager_keeps (holdRows_keeps (Keeps.ofPair (by assumption) (readRecord_keeps h)))))))]))

theorem readCkpts_keeps {z : State} {a : Nat} {line : Nat} {x2 : List Nat} {x3 : State} (h : Keeps z x3) : Keeps z
    (readCkpts a line x2 x3).2 := by
  fun_induction readCkpts a line x2 x3 <;> first | exact Keeps.update (by assumption) | grind [agentRead_keeps]

theorem carryResume_keeps {z : State} {k : Nat} {i : Nat} {line : Nat} {s : State} (h : Keeps z s) : Keeps z
    (carryResume k i line s).2 := by
  have e := Eq.refl @carryResume; conv_rhs at e => delta carryResume
  rw [e]
  (try dsimp only)
  split <;> (try dsimp only)
  exacts [h, (readCkpts_keeps h)]

theorem coverageFault_keeps {z : State} {k : Nat} {i : Nat} {s : State} (h : Keeps z s) : Keeps z (coverageFault k i
    s) :=
  (stationFault_keeps (spoilFrame_keeps (evt_keeps (bump_keeps h))))

theorem execCarryRecordDone_keeps {z : State} {d : Nat} {n : Nat} {s : State} (h : Keeps z s) : KeepsO z
    (execCarryRecordDone d n s) :=
  (keepsO_ite (.next h) (by (try dsimp only); split <;> (try dsimp only); exacts [(.next (carrySurveyRecord_keeps h)),
    (.next (keeps_ite (carryImageRecord_keeps h) h)), (.next h)]))

theorem execImgAshlarDone_keeps {z : State} {d : Nat} {n : Nat} {s : State} (h : Keeps z s) : KeepsO z
    (execImgAshlarDone d n s) := by
  have e := Eq.refl @execImgAshlarDone; conv_rhs at e => delta execImgAshlarDone
  rw [e]
  (try dsimp only)
  split <;> (try dsimp only)
  exacts [(keepsO_ite (.next h) (by (try dsimp only); split <;> (try dsimp only); exacts [(.next (setDlane_keeps h)), (by (try dsimp only); split <;> (try dsimp only); exacts [(.next (holdRows_keeps (Keeps.ofPair (by assumption) (readAshlar_keeps (setImager_keeps (setDlane_keeps h)))))), (.next (coverageFault_keeps (Keeps.ofPair (by assumption) (readAshlar_keeps (setImager_keeps (setDlane_keeps h))))))])])), (.next h)]

theorem execImgAshlarStart_keeps {z : State} {d : Nat} {n : Nat} {s : State} (h : Keeps z s) : KeepsO z
    (execImgAshlarStart d n s) :=
  (keepsO_ite (.next h) (by (try dsimp only); split <;> (try dsimp only); exacts [(.next h),
    (by (try dsimp only); split <;> (try dsimp only); exacts [(keepsO_ite (.next h) (.next (setDlane_keeps
    (setImager_keeps h)))), (keepsO_ite (keepsO_ite (.next (setDlane_keeps (setImager_keeps h))) (.next h))
    (keepsO_ite (.next h) (.next (setDlane_keeps (setImager_keeps h)))))])]))

theorem imagerHold_keeps {z : State} {k : Nat} {i : Nat} {line : Nat} {s : State} (h : Keeps z s) : Keeps z
    (imagerHold k i line s) :=
  (keeps_ite (setImager_keeps h) (keeps_ite
    (by (try dsimp only); split <;> (try dsimp only); exacts [(spoilFrame_keeps (carryResume_keeps h)),
    (setImager_keeps (carryResume_keeps h))]) (setImager_keeps h)))

end Sys2Proof.Machine
end

