-- ==== Sys2Proof/Laws/KeepsPipeline.lean ====
section
/-! SUPPORT. What every operation of Pipeline keeps. -/

namespace Sys2Proof.Machine

theorem wearElements_keeps {z : State} {base : Nat} {x1 : List (Nat × Nat)} {x2 : State} (h : Keeps z x2) : Keeps z
    (wearElements base x1 x2).2 := by
  fun_induction wearElements base x1 x2 <;> first | exact Keeps.update (by assumption) | grind [agentRead_keeps, agentPut_keeps]

theorem blockDone_keeps {z : State} {k : Nat} {b : Nat} {s : State} (h : Keeps z s) : Keeps z (blockDone k b s) :=
  (keeps_ite (setSta_keeps (wearElements_keeps h)) h)

theorem blocksDone_keeps {z : State} {k : Nat} {b : Nat} {s : State} (h : Keeps z s) : Keeps z (blocksDone k b s) :=
  (keeps_ite h (foldl_keeps (fun _ _ h1 => (keeps_ite (blockDone_keeps h1) h1)) h))

theorem clipReport_keeps {z : State} {k : Nat} {lsn : Nat} {emitter : Nat} {kinds : List (List Nat)} {s : State} (h :
    Keeps z s) : Keeps z (clipReport k lsn emitter kinds s) := by
  have e := Eq.refl @clipReport; conv_rhs at e => delta clipReport
  rw [e]
  (try dsimp only)
  split <;> (try dsimp only)
  exacts [h, (stationFault_keeps (evt_keeps (keeps_ite (onlyIf_keeps (fun _ h1 => (bump_keeps h1)) (onlyIf_keeps (fun _ h1 => (bump_keeps h1)) (onlyIf_keeps (fun _ h1 => (bump_keeps h1)) (onlyIf_keeps (fun _ h1 => (bump_keeps h1)) h)))) (putWord_keeps (putWord_keeps (onlyIf_keeps (fun _ h1 => (bump_keeps h1)) (onlyIf_keeps (fun _ h1 => (bump_keeps h1)) (onlyIf_keeps (fun _ h1 => (bump_keeps h1)) (onlyIf_keeps (fun _ h1 => (bump_keeps h1)) h)))))))))]

theorem showHeadSum_keeps {z : State} {k : Nat} {s : State} (h : Keeps z s) : Keeps z (showHeadSum k s) :=
  (putWord_keeps h)

theorem countLine_keeps {z : State} {k : Nat} {lsn : Nat} {emitter : Nat} {codes : List Nat} {s : State} (h : Keeps z
    s) : Keeps z (countLine k lsn emitter codes s) :=
  (showHeadSum_keeps (setSta_keeps h))

theorem showCov_keeps {z : State} {k : Nat} {c : Nat} {img : Nat} {surv : Nat} {bad : Bool} {s : State} (h : Keeps z
    s) : Keeps z (showCov k c img surv bad s) :=
  (putWord_keeps (putWord_keeps (wr_keeps (wr_keeps h))))

theorem coverageCompare_keeps {z : State} {k : Nat} {i : Nat} {c : Nat} {img : Nat} {s : State} (h : Keeps z s) :
    Keeps z (coverageCompare k i c img s) := by
  have e := Eq.refl @coverageCompare; conv_rhs at e => delta coverageCompare
  rw [e]
  (try dsimp only)
  split <;> (try dsimp only)
  exacts [(keeps_ite (stationFault_keeps (evt_keeps (bump_keeps (showCov_keeps (spoilFrame_keeps (Keeps.ofPair (by assumption) (agentRead_keeps h))))))) (keeps_ite (showCov_keeps (bump_keeps (Keeps.ofPair (by assumption) (agentRead_keeps h)))) (coverageFault_keeps (showCov_keeps (bump_keeps (Keeps.ofPair (by assumption) (agentRead_keeps h))))))), (stationFault_keeps (evt_keeps (bump_keeps (showCov_keeps (spoilFrame_keeps (Keeps.ofPair (by assumption) (agentRead_keeps h)))))))]

theorem delayCheck_keeps {z : State} {k : Nat} {s : State} (h : Keeps z s) : Keeps z (delayCheck k s) :=
  (wr_keeps h)

theorem dutyLine_keeps {z : State} {k : Nat} {lsn : Nat} {emitter : Nat} {codes : List Nat} {s : State} (h : Keeps z
    s) : Keeps z (dutyLine k lsn emitter codes s).2 :=
  (countLine_keeps (clipReport_keeps (blocksDone_keeps h)))

theorem dutyResize_keeps {z : State} {k : Nat} {s : State} (h : Keeps z s) : Keeps z (dutyResize k s) :=
  (setSta_keeps h)

theorem putPlane_keeps {z : State} {k : Nat} {p : StaPlane} {s : State} (h : Keeps z s) : Keeps z (putPlane k p s) :=
  (setSta_keeps h)

theorem freeRows_keeps {z : State} {k : Nat} {i : Nat} {x2 : Nat} {s : State} (h : Keeps z s) : Keeps z (freeRows k i
    x2 s) :=
  (setImager_keeps h)

theorem takeSource_keeps {z : State} {k : Nat} {upto : Nat} {s : State} (h : Keeps z s) : ∀ t, (takeSource k upto s) =
    some t → Keeps z t := by
  have e := Eq.refl @takeSource; conv_rhs at e => delta takeSource
  rw [e]
  (try dsimp only)
  split <;> (try dsimp only)
  exacts [(fun _ e => by cases e; exact (setSta_keeps h)), (by (try dsimp only); split <;> (try dsimp only); exacts [(fun _ e => by cases e), (fun _ e => by cases e; exact (keeps_ite (coverageCompare_keeps (keeps_ite (putPlane_keeps (setSta_keeps h)) (freeRows_keeps (putPlane_keeps (setSta_keeps h))))) (keeps_ite (putPlane_keeps (setSta_keeps h)) (freeRows_keeps (putPlane_keeps (setSta_keeps h))))))])]

theorem takeSources_keeps {z : State} {k : Nat} {upto : Nat} {x2 : Nat} {x3 : State} (h : Keeps z x3) : Keeps z
    (takeSources k upto x2 x3).2 := by
  fun_induction takeSources k upto x2 x3 <;> first | exact Keeps.update (by assumption) | grind [takeSource_keeps]

theorem scanOf_keeps {z : State} {k : Nat} {x1 : Nat} {s : State} (h : Keeps z s) : Keeps z (scanOf k x1 s).2 :=
  (keeps_ite1 h (by (try dsimp only); split <;> (try dsimp only); exacts [h,
    (by (try dsimp only); split <;> (try dsimp only); exacts [h, (keeps_ite1 (setSta_keeps h) h)])]))

theorem pruneLines_keeps {z : State} {k : Nat} {s : State} (h : Keeps z s) : Keeps z (pruneLines k s) :=
  (setSta_keeps h)

theorem formLine_keeps {z : State} {k : Nat} {x1 : Nat} {p : Placed} {s : State} (h : Keeps z s) : Keeps z (formLine k
    x1 p s) :=
  (pruneLines_keeps (setSta_keeps (headSend_keeps (dutyLine_keeps h))))

theorem formNext_keeps {z : State} {k : Nat} {s : State} (h : Keeps z s) : Keeps z (formNext k s).2 :=
  (keeps_ite1 h (keeps_ite1 (takeSources_keeps h) (keeps_ite1 (takeSources_keeps h)
    (by (try dsimp only); split <;> (try dsimp only); exacts [(Keeps.ofPair (by assumption) (scanOf_keeps
    (takeSources_keeps h))), (formLine_keeps (Keeps.ofPair (by assumption) (scanOf_keeps (takeSources_keeps h))))]))))

theorem execStationLine_keeps {z : State} {k : Nat} {s : State} (h : Keeps z s) : KeepsO z (execStationLine k s) :=
  (keepsO_ite (.next h) (.next (formNext_keeps h)))

theorem facetBankCheck_keeps {z : State} {k : Nat} {b : Nat} {s : State} (h : Keeps z s) : Keeps z (facetBankCheck k b
    s) :=
  (wr_keeps (wr_keeps h))

theorem facetUpdate_keeps {z : State} {k : Nat} {s : State} (h : Keeps z s) : Keeps z (facetUpdate k s) :=
  (delayCheck_keeps (facetBankCheck_keeps (facetBankCheck_keeps h)))

theorem reachUpdate_keeps {z : State} {k : Nat} {s : State} (h : Keeps z s) : Keeps z (reachUpdate k s) :=
  (keeps_ite (evt_keeps h) h)

theorem recode_keeps {z : State} {k : Nat} {from0 : Nat} {s : State} (h : Keeps z s) : Keeps z (recode k from0 s) :=
  (setSta_keeps h)

theorem reforesee_keeps {z : State} {k : Nat} {s : State} (h : Keeps z s) : Keeps z (reforesee k s) :=
  (setSta_keeps h)

theorem selectionChanged_keeps {z : State} {k : Nat} {from0 : Nat} {s : State} (h : Keeps z s) : Keeps z
    (selectionChanged k from0 s) :=
  (facetUpdate_keeps (reforesee_keeps (recode_keeps h)))

end Sys2Proof.Machine
end

