-- ==== Sys2Proof/Laws/KeepsTiming.lean ====
section
/-! SUPPORT. What every operation of Timing keeps. -/

namespace Sys2Proof.Machine

theorem acquired_keeps {z : State} {k : Nat} {s : State} (h : Keeps z s) : Keeps z (acquired k s) :=
  (keeps_ite h (keeps_ite (lenUpdate_keeps (enterRun_keeps (keeps_ite (evt_keeps (wr_keeps h)) h))) (keeps_ite
    (evt_keeps (wr_keeps h)) h)))

theorem showDeviations_keeps {z : State} {k : Nat} {dev : List Int} {s : State} (h : Keeps z s) : Keeps z
    (showDeviations k dev s) :=
  (foldl_keeps (fun _ _ h1 => (wr_keeps h1)) h)

theorem identityLost_keeps {z : State} {k : Nat} {s : State} (h : Keeps z s) : Keeps z (identityLost k s) :=
  (stationFault_keeps (wr_keeps h))

theorem setBeam_keeps {z : State} {k : Nat} {b : Beam} {s : State} (h : Keeps z s) : Keeps z (setBeam k b s) :=
  (setSta_keeps h)

theorem judgeIdentity_keeps {z : State} {k : Nat} {holds : Bool} {contrary : Bool} {rot : Nat} {s : State} (h : Keeps
    z s) : Keeps z (judgeIdentity k holds contrary rot s) :=
  (keeps_ite (keeps_ite h (keeps_ite (keeps_ite (identityLost_keeps (setBeam_keeps h)) (setBeam_keeps h)) (keeps_ite
    (setBeam_keeps h) h))) (keeps_ite (setBeam_keeps h) (keeps_ite (evt_keeps (wr_keeps (setSta_keeps h)))
    (setBeam_keeps h))))

theorem revolution_keeps {z : State} {k : Nat} {rev : List Nat} {s : State} (h : Keeps z s) : Keeps z (revolution k
    rev s) :=
  (keeps_ite (showDeviations_keeps h) (keeps_ite (judgeIdentity_keeps (showDeviations_keeps h)) (judgeIdentity_keeps
    (showDeviations_keeps h))))

theorem periodUpdate_keeps {z : State} {k : Nat} {s : State} (h : Keeps z s) : Keeps z (periodUpdate k s) :=
  (wr_keeps h)

theorem periodFollow_keeps {z : State} {k : Nat} {s : State} (h : Keeps z s) : Keeps z (periodFollow k s) :=
  (keeps_ite (periodUpdate_keeps h) h)

theorem showTiming_keeps {z : State} {k : Nat} {s : State} (h : Keeps z s) : Keeps z (showTiming k s) :=
  (wr_keeps (putWord_keeps h))

theorem stableCheck_keeps {z : State} {k : Nat} {s : State} (h : Keeps z s) : Keeps z (stableCheck k s) :=
  (keeps_ite h (periodUpdate_keeps (setBeam_keeps h)))

theorem beamAccept_keeps {z : State} {k : Nat} {x1 : Nat} {s : State} (h : Keeps z s) : Keeps z (beamAccept k x1 s).2
    :=
  (showTiming_keeps (keeps_ite (acquired_keeps (stableCheck_keeps (periodFollow_keeps (keeps_ite (revolution_keeps
    (putWord_keeps (wr_keeps (setSta_keeps h)))) (putWord_keeps (wr_keeps (setSta_keeps h))))))) (periodFollow_keeps
    (keeps_ite (revolution_keeps (putWord_keeps (wr_keeps (setSta_keeps h)))) (putWord_keeps (wr_keeps (setSta_keeps
    h)))))))

theorem beginPlane_keeps {z : State} {k : Nat} {e : StartEntry} {l1 : Nat} {s : State} (h : Keeps z s) : Keeps z
    (beginPlane k e l1 s) :=
  (keeps_ite h (keeps_ite (spoilFrame_keeps h) (wr_keeps (putWord_keeps (setSta_keeps h)))))

theorem cffSend_keeps {z : State} {k : Nat} {i : Nat} {xs : Nat} {offs : Nat} {c : Nat} {s : State} (h : Keeps z s) :
    Keeps z (cffSend k i xs offs c s) :=
  (keeps_ite (Keeps.update (by (try dsimp only); split <;> (try dsimp only); exacts [(Keeps.ofPair (by assumption)
    (agentRead_keeps h)), (freeBytes_keeps (Keeps.ofPair (by assumption) (agentRead_keeps h)))])) h)

theorem earlyEdge_keeps {z : State} {k : Nat} {s : State} (h : Keeps z s) : Keeps z (earlyEdge k s) :=
  (stationFault_keeps (bump_keeps (setBeam_keeps h)))

theorem scanResume_keeps {z : State} {k : Nat} {x1 : Nat} {s : State} (h : Keeps z s) : Keeps z (scanResume k x1 s) :=
  (putResume_keeps (keeps_ite1 (drawFree_keeps h) h))

theorem enterHold_keeps {z : State} {k : Nat} {s : State} (h : Keeps z s) : Keeps z (enterHold k s) :=
  (keeps_ite (stationFence_keeps (stationStopped_keeps (lenUpdate_keeps (evtMask_keeps (showTiming_keeps
    (by (try dsimp only); split <;> (try dsimp only); exacts [(imagerHold_keeps (keeps_ite (putResume_keeps (wr_keeps
    (setSta_keeps h))) (by (try dsimp only); split <;> (try dsimp only); exacts [(scanResume_keeps (wr_keeps
    (setSta_keeps h))), (wr_keeps (setSta_keeps h))]))), (keeps_ite (putResume_keeps (wr_keeps (setSta_keeps h)))
    (by (try dsimp only); split <;> (try dsimp only); exacts [(scanResume_keeps (wr_keeps (setSta_keeps h))),
    (wr_keeps (setSta_keeps h))]))])))))) (stationStopped_keeps (lenUpdate_keeps (evtMask_keeps (showTiming_keeps
    (by (try dsimp only); split <;> (try dsimp only); exacts [(imagerHold_keeps (keeps_ite (putResume_keeps (wr_keeps
    (setSta_keeps h))) (by (try dsimp only); split <;> (try dsimp only); exacts [(scanResume_keeps (wr_keeps
    (setSta_keeps h))), (wr_keeps (setSta_keeps h))]))), (keeps_ite (putResume_keeps (wr_keeps (setSta_keeps h)))
    (by (try dsimp only); split <;> (try dsimp only); exacts [(scanResume_keeps (wr_keeps (setSta_keeps h))),
    (wr_keeps (setSta_keeps h))]))]))))))

theorem slipCount_keeps {z : State} {k : Nat} {lo : Nat} {n : Nat} {s : State} (h : Keeps z s) : Keeps z (slipCount k
    lo n s).2 :=
  (keeps_ite1 h (by (try dsimp only); split <;> (try dsimp only); exacts [(bumpBy_keeps (evt_keeps (bumpBy_keeps h))),
    (bumpBy_keeps (evt_keeps (bumpBy_keeps h)))]))

theorem progress_keeps {z : State} {k : Nat} {s : State} (h : Keeps z s) : Keeps z (progress k s) :=
  (showTiming_keeps (foldl_keeps (fun _ _ h1 => (keeps_ite h1 (keeps_ite (planeFinished_keeps (onlyIf_keeps (fun _ h2
    => (frameBegun_keeps h2)) (putPlane_keeps (keeps_ite h1 (leadCheck_keeps (setPlane_keeps h1)))))) (keeps_ite h1
    (leadCheck_keeps (setPlane_keeps h1)))))) h))

theorem slipSpoil_keeps {z : State} {k : Nat} {i : Nat} {s : State} (h : Keeps z s) : Keeps z (slipSpoil k i s) :=
  (stationFault_keeps (keeps_ite (sendCause_keeps (spoilFrame_keeps h)) (spoilFrame_keeps h)))

theorem slipLines_keeps {z : State} {k : Nat} {lo : Nat} {n : Nat} {s : State} (h : Keeps z s) : Keeps z (slipLines k
    lo n s) := by
  have e := Eq.refl @slipLines; conv_rhs at e => delta slipLines
  rw [e]
  (try dsimp only)
  split <;> (try dsimp only)
  exacts [(slipSpoil_keeps (progress_keeps (slipCount_keeps h))), (progress_keeps (slipCount_keeps h))]

theorem passScan_keeps {z : State} {k : Nat} {adv : Nat} {s : State} (h : Keeps z s) : Keeps z (passScan k adv s) :=
  (setSta_keeps h)

theorem loseScan_keeps {z : State} {k : Nat} {f : Nat} {s : State} (h : Keeps z s) : Keeps z (loseScan k f s) :=
  (slipLines_keeps (passScan_keeps h))

theorem missScan_keeps {z : State} {k : Nat} {s : State} (h : Keeps z s) : Keeps z (missScan k s) :=
  (keeps_ite (stationFault_keeps (keeps_ite (loseScan_keeps (bump_keeps (setSta_keeps h))) (bump_keeps (setSta_keeps
    h)))) (showTiming_keeps (keeps_ite (loseScan_keeps (bump_keeps (setSta_keeps h))) (bump_keeps (setSta_keeps h)))))

theorem missUntil_keeps {z : State} {k : Nat} {x1 : Nat} {x2 : Nat} {x3 : State} (h : Keeps z x3) : Keeps z (missUntil
    k x1 x2 x3) := by
  fun_induction missUntil k x1 x2 x3 <;> first | exact Keeps.update (by assumption) | grind [missScan_keeps]

theorem holdCheck_keeps {z : State} {k : Nat} {s : State} (h : Keeps z s) : Keeps z (holdCheck k s) := by
  have e := Eq.refl @holdCheck; conv_rhs at e => delta holdCheck
  rw [e]
  (try dsimp only)
  split <;> (try dsimp only)
  exacts [(keeps_ite (enterHold_keeps h) h), h]

theorem fixStop_keeps {z : State} {k : Nat} {s : State} (h : Keeps z s) : Keeps z (fixStop k s) :=
  (keeps_ite h (by (try dsimp only); split <;> (try dsimp only); exacts [h, (putWord_keeps (setSta_keeps h))]))

theorem startTaken_keeps {z : State} {k : Nat} {l1 : Nat} {s : State} (h : Keeps z s) : Keeps z (startTaken k l1 s) := by
  have e := Eq.refl @startTaken; conv_rhs at e => delta startTaken
  rw [e]
  (try dsimp only)
  split <;> (try dsimp only)
  exacts [h, (beginPlane_keeps (setSta_keeps h))]

theorem sendTag_keeps {z : State} {k : Nat} {p : Placed} {s : State} (h : Keeps z s) : Keeps z (sendTag k p s).2 :=
  (headSend_keeps h)

theorem tagNext_keeps {z : State} {k : Nat} {s : State} (h : Keeps z s) : Keeps z (tagNext k s) := by
  have e := Eq.refl @tagNext; conv_rhs at e => delta tagNext
  rw [e]
  (try dsimp only)
  split <;> (try dsimp only)
  exacts [(keeps_ite h (setSta_keeps (sendTag_keeps h))), h]

theorem placeScan_keeps {z : State} {k : Nat} {f : Nat} {x2 : Nat} {s : State} (h : Keeps z s) : Keeps z (placeScan k
    f x2 s) :=
  (keeps_ite (keeps_ite (stationFault_keeps h) (progress_keeps (passScan_keeps h))) (keeps_ite (keeps_ite
    (stationFault_keeps h) (progress_keeps (passScan_keeps h))) (keeps_ite (loseScan_keeps h) (tagNext_keeps
    (setSta_keeps h)))))

theorem takeScan_keeps {z : State} {k : Nat} {f : Nat} {x2 : Nat} {s : State} (h : Keeps z s) : Keeps z (takeScan k f
    x2 s) :=
  (keeps_ite (keeps_ite (scanResume_keeps (setSta_keeps (holdCheck_keeps (fixStop_keeps (startTaken_keeps h)))))
    (holdCheck_keeps (fixStop_keeps (startTaken_keeps h)))) (keeps_ite (holdCheck_keeps (fixStop_keeps
    (startTaken_keeps h))) (by (try dsimp only); split <;> (try dsimp only); exacts [(keeps_ite (holdCheck_keeps
    (fixStop_keeps (startTaken_keeps h))) (placeScan_keeps (holdCheck_keeps (fixStop_keeps (startTaken_keeps h))))),
    (placeScan_keeps (holdCheck_keeps (fixStop_keeps (startTaken_keeps h))))])))

theorem execBdEdge_keeps {z : State} {k : Nat} {phase : Nat} {s : State} (h : Keeps z s) : KeepsO z (execBdEdge k
    phase s) :=
  (keepsO_ite (.next h) (keepsO_ite (.next (beamAccept_keeps h)) (keepsO_ite (.next (missUntil_keeps h)) (keepsO_ite
    (.next (earlyEdge_keeps (missUntil_keeps h))) (keepsO_ite (.next (takeScan_keeps (beamAccept_keeps
    (missUntil_keeps h)))) (keepsO_ite (.next (scanResume_keeps (setSta_keeps (beamAccept_keeps (missUntil_keeps
    h))))) (.next (beamAccept_keeps (missUntil_keeps h)))))))))

theorem execBdMissed_keeps {z : State} {k : Nat} {s : State} (h : Keeps z s) : KeepsO z (execBdMissed k s) :=
  (keepsO_ite (.next h) (.next (missScan_keeps h)))

theorem execFidIndexEdge_keeps {z : State} {k : Nat} {s : State} (h : Keeps z s) : KeepsO z (execFidIndexEdge k s) :=
  (keepsO_ite (.next h) (.next (acquired_keeps (setBeam_keeps
    (by (try dsimp only); split <;> (try dsimp only); exacts [(keeps_ite h (judgeIdentity_keeps h)), h])))))

theorem execResumeEvent_keeps {z : State} {k : Nat} {s : State} (h : Keeps z s) : KeepsO z (execResumeEvent k s) :=
  (keepsO_ite (.next h) (.next (pathRunup_keeps (showTiming_keeps (releaseHold_keeps (keeps_ite h (runupFailed_keeps
    h)))))))

theorem execStartEvent_keeps {z : State} {k : Nat} {s : State} (h : Keeps z s) : KeepsO z (execStartEvent k s) := by
  have e := Eq.refl @execStartEvent; conv_rhs at e => delta execStartEvent
  rw [e]
  (try dsimp only)
  split <;> (try dsimp only)
  exacts [(.next h), (keepsO_ite (.next h) (keepsO_ite (.next (evt_keeps (slipSpoil_keeps (watchStart_keeps (setStartList_keeps h))))) (keepsO_ite (.next (spoilFrame_keeps (cffSend_keeps (watchStart_keeps (setStartList_keeps h))))) (.next (setSta_keeps (cffSend_keeps (watchStart_keeps (setStartList_keeps h))))))))]

theorem stopCheck_keeps {z : State} {k : Nat} {s : State} (h : Keeps z s) : Keeps z (stopCheck k s) :=
  (keeps_ite (enterHold_keeps (fixStop_keeps h)) (holdCheck_keeps (fixStop_keeps h)))

theorem firstFired_keeps {z : State} {k : Nat} {p : StaPlane} {s : State} (h : Keeps z s) : Keeps z (firstFired k p s)
    :=
  (keeps_ite (frameBegun_keeps (setSta_keeps (putPlane_keeps h))) (onlyIf_keeps (fun _ h1 => (evt_keeps h1))
    (spoilFrame_keeps (frameBegun_keeps (setSta_keeps (putPlane_keeps h))))))

theorem firedLines_keeps {z : State} {k : Nat} {lo : Nat} {n : Nat} {s : State} (h : Keeps z s) : Keeps z (firedLines
    k lo n s) :=
  (foldl_keeps (fun _ _ h1 => (keeps_ite h1 (foldl_keeps (fun _ _ h2 => (keeps_ite (cffSend_keeps h2) h2)) h1)))
    (foldl_keeps (fun _ _ h1 => (firstFired_keeps h1)) (setSta_keeps h)))

theorem fireEdge_keeps {z : State} {k : Nat} {tick : Nat} {lo : Nat} {n : Nat} {tag : Option Nat} {s : State} (h :
    Keeps z s) : Keeps z (fireEdge k tick lo n tag s) :=
  (stopCheck_keeps (progress_keeps (firedLines_keeps (keeps_ite h (setSta_keeps (Keeps.update h))))))

theorem lateCourse_keeps {z : State} {k : Nat} {s : State} (h : Keeps z s) : ∀ t, (lateCourse k s) = some t → Keeps z
    t := by
  have e := Eq.refl @lateCourse; conv_rhs at e => delta lateCourse
  rw [e]
  (try dsimp only)
  split <;> (try dsimp only)
  exacts [(fun _ e => by cases e), (by (try dsimp only); split <;> (try dsimp only); exacts [(fun _ e => by cases e; exact (spoilFrame_keeps h)), (fun _ e => by cases e)])]

theorem lateLines_keeps {z : State} {k : Nat} {upto : Nat} {s : State} (h : Keeps z s) : Keeps z (lateLines k upto s)
    :=
  (keeps_ite (evt_keeps (bumpBy_keeps (setSta_keeps h))) (setSta_keeps h))

theorem formDue_keeps {z : State} {k : Nat} {upto : Nat} {x2 : Nat} {x3 : State} (h : Keeps z x3) : Keeps z (formDue k
    upto x2 x3) := by
  fun_induction formDue k upto x2 x3 <;> first
    | grind [formNext_keeps, setSta_keeps, evt_keeps, bumpBy_keeps]
    | (apply_assumption; exact lateCourse_keeps (formNext_keeps h) _ (by assumption))
    | (apply_assumption; exact lateLines_keeps (formNext_keeps h))

theorem gateReached_keeps {z : State} {k : Nat} {tick : Nat} {s : State} (h : Keeps z s) : Keeps z (gateReached k tick
    s) := by
  have e := Eq.refl @gateReached; conv_rhs at e => delta gateReached
  rw [e]
  (try dsimp only)
  split <;> (try dsimp only)
  exacts [(keeps_ite (keeps_ite (stationFence_keeps (lenUpdate_keeps (setSta_keeps h))) (lenUpdate_keeps (setSta_keeps h))) h), h]

theorem ledAcquire_keeps {z : State} {k : Nat} {s : State} (h : Keeps z s) : Keeps z (ledAcquire k s) :=
  (keeps_ite (lenUpdate_keeps (showTiming_keeps (enterRun_keeps h))) h)

theorem strobeTagSend_keeps {z : State} {k : Nat} {f : FoundLine} {s : State} (h : Keeps z s) : Keeps z (strobeTagSend
    k f s) := by
  have e := Eq.refl @strobeTagSend; conv_rhs at e => delta strobeTagSend
  rw [e]
  (try dsimp only)
  split <;> (try dsimp only)
  exacts [(keeps_ite h h), (setSta_keeps (sendTag_keeps h))]

theorem strobeTagDue_keeps {z : State} {k : Nat} {s : State} (h : Keeps z s) : Keeps z (strobeTagDue k s) :=
  (keeps_ite h (by (try dsimp only); split <;> (try dsimp only); exacts [(keeps_ite (strobeTagSend_keeps h) h), h]))

theorem ledTags_keeps {z : State} {s : State} (h : Keeps z s) : Keeps z (ledTags s) :=
  (foldl_keeps (fun _ _ h1 => (strobeTagDue_keeps h1)) h)

theorem lgoFalls_keeps {z : State} {k : Nat} {p : Placed} {s : State} (h : Keeps z s) : Keeps z (lgoFalls k p s) :=
  (keeps_ite (gateReached_keeps (formDue_keeps h)) (tagNext_keeps (fireEdge_keeps (setSta_keeps (gateReached_keeps
    (formDue_keeps h))))))

theorem lineStep_keeps {z : State} {k : Nat} {up : Bool} {x2 : Nat} {count : Nat} {interval : Nat} {s : State} (h :
    Keeps z s) : Keeps z (lineStep k up x2 count interval s) :=
  (keeps_ite h (keeps_ite (keeps_ite (wr_keeps (setSta_keeps (wr_keeps h))) (wr_keeps (wr_keeps h))) (keeps_ite
    (wr_keeps (wr_keeps h)) (keeps_ite (setSta_keeps (wr_keeps (wr_keeps h))) (showTiming_keeps (setSta_keeps
    (startTaken_keeps (keeps_ite1 (drawFree_keeps (wr_keeps (wr_keeps h))) (wr_keeps (wr_keeps h))))))))))

theorem strobeFalls_keeps {z : State} {k : Nat} {x1 : Nat} {f : FoundLine} {s : State} (h : Keeps z s) : Keeps z
    (strobeFalls k x1 f s) :=
  (keeps_ite (slipLines_keeps (setSta_keeps h)) (keeps_ite (gateReached_keeps (formDue_keeps (strobeTagSend_keeps
    (slipLines_keeps (setSta_keeps h))))) (fireEdge_keeps (setSta_keeps (gateReached_keeps (formDue_keeps
    (strobeTagSend_keeps (slipLines_keeps (setSta_keeps h)))))))))

theorem timingStart_keeps {z : State} {k : Nat} {s : State} (h : Keeps z s) : Keeps z (timingStart k s) :=
  (keeps_ite (lenUpdate_keeps (showTiming_keeps (keeps_ite (enterRun_keeps (wr_keeps (setSta_keeps h))) (wr_keeps
    (setSta_keeps h))))) h)

theorem timingRun_keeps {z : State} {k : Nat} {s : State} (h : Keeps z s) : Keeps z (timingRun k s) :=
  (keeps_ite (timingStart_keeps h) (timingEnd_keeps h))

theorem underrun_keeps {z : State} {k : Nat} {x1 : Nat} {s : State} (h : Keeps z s) : Keeps z (underrun k x1 s) := by
  have e := Eq.refl @underrun; conv_rhs at e => delta underrun
  rw [e]
  (try dsimp only)
  split <;> (try dsimp only)
  exacts [(stationFault_keeps (spoilFrame_keeps (bump_keeps (evt_keeps (keeps_ite h (wr_keeps (putWord_keeps h))))))), (stationFault_keeps (bump_keeps (evt_keeps (keeps_ite h (wr_keeps (putWord_keeps h))))))]

end Sys2Proof.Machine
end

