-- ==== Sys2Proof/Laws/KeepsNet.lean ====
section
/-! SUPPORT. What every operation of Net keeps. -/

namespace Sys2Proof.Machine

theorem setEth_keeps {z : State} {p : Nat} {v : EthPort} {s : State} (h : Keeps z s) : Keeps z (setEth p v s) :=
  (Keeps.update h)

theorem txComplete_keeps {z : State} {p : Nat} {q : Nat} {addr : Nat} {desc : List Sys2Proof.Byte} {stamp : Option
    Nat} {status : Nat} {s : State} (h : Keeps z s) : Keeps z (txComplete p q addr desc stamp status s) :=
  (evt_keeps (wr_keeps (hostPut_keeps (hostPut_keeps
    (by (try dsimp only); split <;> (try dsimp only); exacts [(hostWrite_keeps h), h])))))

theorem txBad_keeps {z : State} {p : Nat} {q : Nat} {addr : Nat} {desc : List Sys2Proof.Byte} {status : Nat} {s :
    State} (h : Keeps z s) : Keeps z (txBad p q addr desc status s) :=
  (evt_keeps (recordFault_keeps (txComplete_keeps h)))

theorem txStart_keeps {z : State} {p : Nat} {q : Nat} {b : List Sys2Proof.Byte} {status : Nat} {s : State} (h : Keeps
    z s) : Keeps z (txStart p q b status s) :=
  (setEth_keeps h)

theorem txSchedule_keeps {z : State} {p : Nat} {x1 : Nat} {x2 : State} (h : Keeps z x2) : Keeps z (txSchedule p x1 x2)
    := by
  fun_induction txSchedule p x1 x2 <;> first | exact Keeps.update (by assumption) | grind [txBad_keeps, setEth_keeps, txStart_keeps]

theorem txLook_keeps {z : State} {p : Nat} {s : State} (h : Keeps z s) : Keeps z (txLook p s) :=
  (txSchedule_keeps h)

theorem ethEnable_keeps {z : State} {p : Nat} {before : Bool} {s : State} (h : Keeps z s) : Keeps z (ethEnable p
    before s) :=
  (keeps_ite (txLook_keeps (foldl_keeps (fun _ _ h1 => (wr_keeps h1)) (wr_keeps (setEth_keeps h)))) (keeps_ite
    (setEth_keeps h) h))

theorem ethFence_keeps {z : State} {p : Nat} {s : State} (h : Keeps z s) : Keeps z (ethFence p s) :=
  (setEth_keeps (addFence_keeps h))

theorem takeSync_keeps {z : State} {f : List Sys2Proof.Byte} {o : Nat} {s : State} (h : Keeps z s) : Keeps z (takeSync
    f o s) :=
  (onlyIf_keeps (fun _ h1 => (evt_keeps h1)) (wr_keeps (wr_keeps (wr_keeps (wr_keeps (Keeps.update h))))))

theorem execEthFrameReceive_keeps {z : State} {p : Nat} {frame : List Sys2Proof.Byte} {sound : Bool} {s : State} (h :
    Keeps z s) : KeepsO z (execEthFrameReceive p frame sound s) :=
  (keepsO_ite (.next h) (keepsO_ite (.next (bump_keeps h)) (keepsO_ite (.next
    (by (try dsimp only); split <;> (try dsimp only); exacts [(keeps_ite (takeSync_keeps h) h), h]))
    (by (try dsimp only); split <;> (try dsimp only); exacts [(.next (bump_keeps (setEth_keeps
    (by (try dsimp only); split <;> (try dsimp only); exacts [(keeps_ite (takeSync_keeps h) h), h])))), (.next
    (evt_keeps (bump_keeps (wr_keeps (hostPut_keeps (hostWrite_keeps (hostWrite_keeps (hostWrite_keeps
    (by (try dsimp only); split <;> (try dsimp only); exacts [(keeps_ite (takeSync_keeps h) h), h])))))))))]))))

theorem execEthFrameSent_keeps {z : State} {p : Nat} {q : Nat} {busErr : Bool} {s : State} (h : Keeps z s) : KeepsO z
    (execEthFrameSent p q busErr s) := by
  have e := Eq.refl @execEthFrameSent; conv_rhs at e => delta execEthFrameSent
  rw [e]
  (try dsimp only)
  split <;> (try dsimp only)
  exacts [(.next h), (keepsO_ite (.next h) (keepsO_ite (.next (txLook_keeps (txBad_keeps (setEth_keeps h)))) (.next (txLook_keeps (bump_keeps (txComplete_keeps (Keeps.update (setEth_keeps h))))))))]

theorem execEthLaunch_keeps {z : State} {p : Nat} {q : Nat} {s : State} (h : Keeps z s) : KeepsO z (execEthLaunch p q
    s) :=
  (keepsO_ite (.next h) (by (try dsimp only); split <;> (try dsimp only); exacts [(.next h), (keepsO_ite (.next h)
    (keepsO_ite (.next (txLook_keeps (txBad_keeps h))) (keepsO_ite (keepsO_ite (.next (txLook_keeps (txComplete_keeps
    (evt_keeps (bump_keeps h))))) (.next (txStart_keeps (evt_keeps (bump_keeps h))))) (.next (txStart_keeps h)))))]))

theorem execSyncTimeout_keeps {z : State} {s : State} (h : Keeps z s) : KeepsO z (execSyncTimeout s) :=
  (keepsO_ite (.next (evt_keeps (wr_keeps h))) (.next h))

theorem refreshDie_keeps {z : State} {d : Nat} {x1 : Nat} {s : State} (h : Keeps z s) : Keeps z (refreshDie d x1 s) :=
  (keeps_ite (wrS_keeps (setClock_keeps (wr_keeps (wrS_keeps h)))) (evt_keeps (bump_keeps (wrS_keeps (setClock_keeps
    (wr_keeps (wrS_keeps h)))))))

theorem execTimeRefresh_keeps {z : State} {d : Nat} {s : State} (h : Keeps z s) : KeepsO z (execTimeRefresh d s) := by
  have e := Eq.refl @execTimeRefresh; conv_rhs at e => delta execTimeRefresh
  rw [e]
  (try dsimp only)
  split <;> (try dsimp only)
  exacts [(keepsO_ite (.next (refreshDie_keeps (Keeps.update h))) (.next (Keeps.update h))), (.next h)]

theorem execTimeRefreshMiss_keeps {z : State} {d : Nat} {s : State} (h : Keeps z s) : KeepsO z (execTimeRefreshMiss d
    s) :=
  (keepsO_ite (.next h) (keepsO_ite (.next (evt_keeps (recordFault_keeps (bump_keeps
    (by (try dsimp only); split <;> (try dsimp only); exacts [(Keeps.update h), h]))))) (.next (bump_keeps
    (by (try dsimp only); split <;> (try dsimp only); exacts [(Keeps.update h), h])))))

theorem execTimeRefreshSend_keeps {z : State} {s : State} (h : Keeps z s) : KeepsO z (execTimeRefreshSend s) :=
  (.next (Keeps.update h))

theorem rxKick_keeps {z : State} {p : Nat} {s : State} (h : Keeps z s) : Keeps z (rxKick p s) :=
  (setEth_keeps h)

theorem timeAdj_keeps {z : State} {v : Nat} {s : State} (h : Keeps z s) : Keeps z (timeAdj v s) :=
  (Keeps.update h)

theorem timeIncr_keeps {z : State} {s : State} (h : Keeps z s) : Keeps z (timeIncr s) :=
  (Keeps.update (wr_keeps (wr_keeps h)))

theorem timeSet_keeps {z : State} {s : State} (h : Keeps z s) : Keeps z (timeSet s) :=
  (Keeps.update h)

theorem txKick_keeps {z : State} {p : Nat} {q : Nat} {s : State} (h : Keeps z s) : Keeps z (txKick p q s) :=
  (txLook_keeps (setEth_keeps h))

end Sys2Proof.Machine
end

