-- ==== Sys2Proof/Laws/KeepsLanes.lean ====
section
/-! SUPPORT. What every operation of Lanes keeps. -/

namespace Sys2Proof.Machine

theorem adapted_keeps {z : State} {d : Nat} {n : Nat} {ctle : Nat} {dfe : Nat} {s : State} (h : Keeps z s) : Keeps z
    (adapted d n ctle dfe s) :=
  (keeps_ite h (wr_keeps (wr_keeps h)))

theorem setLaneSt_keeps {z : State} {d : Nat} {n : Nat} {st : Nat} {s : State} (h : Keeps z s) : Keeps z (setLaneSt d
    n st s) :=
  (wr_keeps h)

theorem portDown_keeps {z : State} {d : Nat} {n : Nat} {s : State} (h : Keeps z s) : Keeps z (portDown d n s) :=
  (keeps_ite (setEth_keeps h) h)

theorem laneDown_keeps {z : State} {d : Nat} {n : Nat} {st : Nat} {s : State} (h : Keeps z s) : Keeps z (laneDown d n
    st s) :=
  (keeps_ite (portDown_keeps (bondLaneDown_keeps (evt_keeps (wr_keeps (setLaneSt_keeps (setLane_keeps h))))))
    (setLaneSt_keeps h))

theorem eyeEnd_keeps {z : State} {d : Nat} {n : Nat} {result : Nat} {s : State} (h : Keeps z s) : Keeps z (eyeEnd d n
    result s) :=
  (keeps_ite (evt_keeps (wr_keeps (wr_keeps h))) h)

theorem laneFence_keeps {z : State} {d : Nat} {n : Nat} {s : State} (h : Keeps z s) : Keeps z (laneFence d n s) :=
  (keeps_ite h (keeps_ite (keeps_ite (stationFault_keeps (headForm_keeps (spareTakeover_keeps (setLane_keeps
    (laneDown_keeps (eyeEnd_keeps (addFence_keeps h))))))) (headForm_keeps (spareTakeover_keeps (setLane_keeps
    (laneDown_keeps (eyeEnd_keeps (addFence_keeps h))))))) (keeps_ite (keeps_ite (rasterFence_keeps (recordFault_keeps
    (setLane_keeps (laneDown_keeps (eyeEnd_keeps (addFence_keeps h)))))) (keeps_ite (rasterForm_keeps (setLane_keeps
    (laneDown_keeps (eyeEnd_keeps (addFence_keeps h))))) (setLane_keeps (laneDown_keeps (eyeEnd_keeps (addFence_keeps
    h)))))) (setLane_keeps (laneDown_keeps (eyeEnd_keeps (addFence_keeps h)))))))

theorem laneFault_keeps {z : State} {d : Nat} {n : Nat} {src : Nat} {forced : Bool} {s : State} (h : Keeps z s) :
    Keeps z (laneFault d n src forced s) :=
  (keeps_ite (laneFence_keeps (recordFault_keeps h)) (recordFault_keeps h))

theorem execElasticOverflow_keeps {z : State} {d : Nat} {n : Nat} {s : State} (h : Keeps z s) : KeepsO z
    (execElasticOverflow d n s) :=
  (keepsO_ite (.next (laneFault_keeps (bump_keeps (wr_keeps h)))) (.next h))

theorem execEyePointDone_keeps {z : State} {d : Nat} {n : Nat} {errs : Nat} {units : Nat} {s : State} (h : Keeps z s)
    : KeepsO z (execEyePointDone d n errs units s) :=
  (keepsO_ite (.next h) (keepsO_ite (.next (eyeEnd_keeps (keeps_ite (wr_keeps (setLane_keeps (agentWrite_keeps h)))
    (setLane_keeps (agentWrite_keeps h))))) (.next (keeps_ite (keeps_ite (wr_keeps (setLane_keeps (agentWrite_keeps
    h))) (setLane_keeps (agentWrite_keeps h))) (wr_keeps (keeps_ite (wr_keeps (setLane_keeps (agentWrite_keeps h)))
    (setLane_keeps (agentWrite_keeps h))))))))

theorem execEyeScanResume_keeps {z : State} {d : Nat} {n : Nat} {s : State} (h : Keeps z s) : KeepsO z
    (execEyeScanResume d n s) :=
  (keepsO_ite (.next (wr_keeps h)) (.next h))

theorem execLaneAdaptDone_keeps {z : State} {d : Nat} {n : Nat} {ctle : Nat} {dfe : Nat} {s : State} (h : Keeps z s) :
    KeepsO z (execLaneAdaptDone d n ctle dfe s) :=
  (keepsO_ite (.next (setLaneSt_keeps (adapted_keeps h))) (keepsO_ite (.next (adapted_keeps h)) (.next h)))

theorem laneUp_keeps {z : State} {d : Nat} {n : Nat} {s : State} (h : Keeps z s) : Keeps z (laneUp d n s) :=
  (keeps_ite (headForm_keeps (spareTakeover_keeps h)) (keeps_ite (keeps_ite (rasterForm_keeps (setLane_keeps h)) h)
    (txLook_keeps h)))

theorem execLaneBlockLock_keeps {z : State} {d : Nat} {n : Nat} {s : State} (h : Keeps z s) : KeepsO z
    (execLaneBlockLock d n s) :=
  (keepsO_ite (.next h) (keepsO_ite (.next (wr_keeps h)) (keepsO_ite (.next (laneFault_keeps h)) (.next (laneUp_keeps
    (evt_keeps (wr_keeps (wr_keeps (wr_keeps (setLaneSt_keeps (keeps_ite (bump_keeps (setLane_keeps h)) h)))))))))))

theorem execLaneLockHoldTimeout_keeps {z : State} {d : Nat} {n : Nat} {s : State} (h : Keeps z s) : KeepsO z
    (execLaneLockHoldTimeout d n s) :=
  (keepsO_ite (.next (laneFault_keeps h)) (.next h))

theorem execLaneLoss_keeps {z : State} {d : Nat} {n : Nat} {why : Nat} {s : State} (h : Keeps z s) : KeepsO z
    (execLaneLoss d n why s) :=
  (keepsO_ite (.next h) (.next (laneDown_keeps (keeps_ite (wr_keeps h) (keeps_ite (evt_keeps (wr_keeps h)) h)))))

theorem execLaneSignalDetect_keeps {z : State} {d : Nat} {n : Nat} {s : State} (h : Keeps z s) : KeepsO z
    (execLaneSignalDetect d n s) :=
  (keepsO_ite (.next (setLaneSt_keeps (wr_keeps h))) (.next h))

theorem execLaneSynthLock_keeps {z : State} {d : Nat} {n : Nat} {s : State} (h : Keeps z s) : KeepsO z
    (execLaneSynthLock d n s) :=
  (keepsO_ite (.next (setLaneSt_keeps h)) (.next h))

theorem laneStart_keeps {z : State} {d : Nat} {n : Nat} {s : State} (h : Keeps z s) : Keeps z (laneStart d n s) :=
  (keeps_ite h (keeps_ite (evt_keeps h) (setLaneSt_keeps (setLane_keeps h))))

theorem execLaneSynthLoss_keeps {z : State} {d : Nat} {n : Nat} {s : State} (h : Keeps z s) : KeepsO z
    (execLaneSynthLoss d n s) :=
  (keepsO_ite (.next (laneFault_keeps h)) (keepsO_ite (.next (laneFault_keeps (laneStart_keeps (laneDown_keeps h))))
    (.next h)))

theorem headerJudge_keeps {z : State} {d : Nat} {n : Nat} {s : State} (h : Keeps z s) : Keeps z (headerJudge d n s) := by
  have e := Eq.refl @headerJudge; conv_rhs at e => delta headerJudge
  rw [e]
  (try dsimp only)
  split <;> (try dsimp only)
  exacts [(setLane_keeps h), (keeps_ite (laneDown_keeps (evt_keeps (wr_keeps (setLane_keeps h)))) (setLane_keeps h))]

theorem execSyncHeaderError_keeps {z : State} {d : Nat} {n : Nat} {s : State} (h : Keeps z s) : KeepsO z
    (execSyncHeaderError d n s) :=
  (keepsO_ite (.next (invalidHeader_keeps h)) (keepsO_ite (.next (headerJudge_keeps (invalidHeader_keeps h)))
    (keepsO_ite (.next (invalidHeader_keeps h)) (.next h))))

theorem eyeGo_keeps {z : State} {d : Nat} {n : Nat} {s : State} (h : Keeps z s) : Keeps z (eyeGo d n s) :=
  (keeps_ite h (keeps_ite (evt_keeps (wr_keeps (wr_keeps (wr_keeps h)))) (wr_keeps (wr_keeps (setLane_keeps (wr_keeps
    h))))))

theorem laneCtl_keeps {z : State} {d : Nat} {n : Nat} {v : Nat} {s : State} (h : Keeps z s) : Keeps z (laneCtl d n v
    s) :=
  (keeps_ite (eyeEnd_keeps (keeps_ite (eyeGo_keeps (keeps_ite (laneStart_keeps (laneDown_keeps h)) h)) (keeps_ite
    (laneStart_keeps (laneDown_keeps h)) h))) (keeps_ite (eyeGo_keeps (keeps_ite (laneStart_keeps (laneDown_keeps h))
    h)) (keeps_ite (laneStart_keeps (laneDown_keeps h)) h)))

theorem laneOff_keeps {z : State} {d : Nat} {n : Nat} {s : State} (h : Keeps z s) : Keeps z (laneOff d n s) :=
  (wr_keeps (wr_keeps (setLane_keeps (laneDown_keeps (eyeEnd_keeps h)))))

theorem laneEnable_keeps {z : State} {d : Nat} {n : Nat} {s : State} (h : Keeps z s) : Keeps z (laneEnable d n s) :=
  (keeps_ite (laneStart_keeps h) (keeps_ite h (laneOff_keeps h)))

theorem laneUnfence_keeps {z : State} {d : Nat} {n : Nat} {s : State} (h : Keeps z s) : Keeps z (laneUnfence d n s) :=
  (keeps_ite (keeps_ite (headForm_keeps (laneStart_keeps (setLaneSt_keeps (setLane_keeps (unfence_keeps h)))))
    (laneStart_keeps (setLaneSt_keeps (setLane_keeps (unfence_keeps h))))) (unfence_keeps h))

end Sys2Proof.Machine
end

