-- ==== Sys2Proof/Laws/KeepsProtect.lean ====
section
/-! SUPPORT. What every operation of Protect keeps. -/

namespace Sys2Proof.Machine

theorem execHeadBucketTick_keeps {z : State} {k : Nat} {s : State} (h : Keeps z s) : KeepsO z (execHeadBucketTick k s)
    :=
  (keepsO_ite (.next h) (.next (showHeadSum_keeps (setSta_keeps h))))

theorem inputSince_keeps {z : State} {k : Nat} {bit : Nat} {v : Option Nat} {s : State} (h : Keeps z s) : Keeps z
    (inputSince k bit v s) :=
  (setSta_keeps h)

theorem gateNow_keeps {z : State} {k : Nat} {s : State} (h : Keeps z s) : Keeps z (gateNow k s) :=
  (lenUpdate_keeps (gateAtBoundary_keeps h))

theorem latchSet_keeps {z : State} {k : Nat} {bit : Nat} {cause : Nat} {s : State} (h : Keeps z s) : Keeps z (latchSet
    k bit cause s) :=
  (keeps_ite h (keeps_ite (lenUpdate_keeps (spoilImaging_keeps (setLatch_keeps (keeps_ite h (gateFresh_keeps h)))))
    (gateNow_keeps (spoilImaging_keeps (setLatch_keeps (keeps_ite h (gateFresh_keeps h)))))))

theorem execHokFall_keeps {z : State} {k : Nat} {s : State} (h : Keeps z s) : KeepsO z (execHokFall k s) :=
  (keepsO_ite (.next h) (.next (keeps_ite (latchSet_keeps (inputSince_keeps (Keeps.update h))) (lenUpdate_keeps
    (inputSince_keeps (Keeps.update h))))))

theorem execIlkFall_keeps {z : State} {s : State} (h : Keeps z s) : KeepsO z (execIlkFall s) :=
  (.next (foldl_keeps (fun _ _ h1 => (keeps_ite (latchSet_keeps (inputSince_keeps h1)) (lenUpdate_keeps
    (inputSince_keeps h1)))) (Keeps.update h)))

theorem sensorReleased_keeps {z : State} {k : Nat} {bit : Nat} {s : State} (h : Keeps z s) : Keeps z (sensorReleased k
    bit s) :=
  (foldl_keeps (fun _ _ h1 => (inputSince_keeps (wr_keeps h1))) h)

theorem execInputDeasserted_keeps {z : State} {which : Nat} {k : Nat} {s : State} (h : Keeps z s) : KeepsO z
    (execInputDeasserted which k s) :=
  (keepsO_ite (.next (foldl_keeps (fun _ _ h1 => (lenUpdate_keeps (inputSince_keeps h1))) (Keeps.update h)))
    (keepsO_ite (.next h) (by (try dsimp only); split <;> (try dsimp only); exacts [(.next (lenUpdate_keeps
    (inputSince_keeps (Keeps.update h)))), (keepsO_ite (.next (sensorReleased_keeps h)) (.next h)), (keepsO_ite (.next
    (sensorReleased_keeps h)) (.next h)), (.next h)])))

theorem sensorLatch_keeps {z : State} {k : Nat} {bit : Nat} {s : State} (h : Keeps z s) : Keeps z (sensorLatch k bit
    s) :=
  (keeps_ite (inputSince_keeps (wr_keeps h)) (keeps_ite (latchSet_keeps (evt_keeps (inputSince_keeps (wr_keeps h))))
    (keeps_ite (pathJam_keeps (latchSet_keeps (evt_keeps (inputSince_keeps (wr_keeps h))))) (latchSet_keeps (evt_keeps
    (inputSince_keeps (wr_keeps h)))))))

theorem sensorAsserted_keeps {z : State} {k : Nat} {bit : Nat} {s : State} (h : Keeps z s) : Keeps z (sensorAsserted k
    bit s) :=
  (foldl_keeps (fun _ _ h1 => (sensorLatch_keeps h1)) h)

theorem execJam_keeps {z : State} {k : Nat} {s : State} (h : Keeps z s) : KeepsO z (execJam k s) :=
  (keepsO_ite (.next h) (.next (sensorAsserted_keeps h)))

theorem execPaperOut_keeps {z : State} {k : Nat} {s : State} (h : Keeps z s) : KeepsO z (execPaperOut k s) :=
  (keepsO_ite (.next h) (.next (sensorAsserted_keeps h)))

theorem softApply_keeps {z : State} {k : Nat} {s : State} (h : Keeps z s) : Keeps z (softApply k s) :=
  (evt_keeps (wr_keeps (wr_keeps h)))

theorem execSoftStateApply_keeps {z : State} {k : Nat} {s : State} (h : Keeps z s) : KeepsO z (execSoftStateApply k s)
    :=
  (keepsO_ite (.next (softApply_keeps h)) (.next h))

theorem fenceAtBoundary_keeps {z : State} {k : Nat} {s : State} (h : Keeps z s) : Keeps z (fenceAtBoundary k s) :=
  (keeps_ite (gateAtBoundary_keeps (setSta_keeps h)) (stationFence_keeps h))

theorem hardLimit_keeps {z : State} {k : Nat} {s : State} (h : Keeps z s) : Keeps z (hardLimit k s) :=
  (fenceAtBoundary_keeps (recordFault_keeps (latchSet_keeps (evt_keeps h))))

theorem hotClear_keeps {z : State} {k : Nat} {x1 : Int} {s : State} (h : Keeps z s) : Keeps z (hotClear k x1 s) :=
  (keeps_ite (lenUpdate_keeps (setLatch_keeps h)) h)

theorem softJudge_keeps {z : State} {k : Nat} {x1 : Int} {s : State} (h : Keeps z s) : Keeps z (softJudge k x1 s) :=
  (keeps_ite (setSta_keeps h) (keeps_ite (wr_keeps (setSta_keeps h)) (keeps_ite (wr_keeps (setSta_keeps (setSta_keeps
    h))) (softApply_keeps (setSta_keeps h)))))

theorem judgeTemp_keeps {z : State} {k : Nat} {x1 : Int} {s : State} (h : Keeps z s) : Keeps z (judgeTemp k x1 s) :=
  (keeps_ite h (keeps_ite (keeps_ite (softJudge_keeps h) (hardLimit_keeps (softJudge_keeps h))) (hotClear_keeps
    (softJudge_keeps h))))

theorem protFault_keeps {z : State} {k : Nat} {src : Nat} {forced : Bool} {s : State} (h : Keeps z s) : Keeps z
    (protFault k src forced s) :=
  (keeps_ite (keeps_ite (recordFault_keeps h) (keeps_ite (fenceAtBoundary_keeps (setSta_keeps (recordFault_keeps h)))
    (fenceAtBoundary_keeps (spoilImaging_keeps (recordFault_keeps h))))) (stationFault_keeps h))

theorem rearmLatches_keeps {z : State} {k : Nat} {s : State} (h : Keeps z s) : Keeps z (rearmLatches k s) :=
  (lenUpdate_keeps (onlyIf_keeps (fun _ h1 => (evt_keeps h1)) (foldl_keeps (fun _ _ h1 => (keeps_ite (setLatch_keeps
    h1) h1)) h)))

end Sys2Proof.Machine
end

