-- ==== Sys2Proof/Laws/KeepsHeadRx.lean ====
section
/-! SUPPORT. What every operation of HeadRx keeps. -/

namespace Sys2Proof.Machine

theorem ackTake_keeps {z : State} {k : Nat} {psn : Nat} {s : State} (h : Keeps z s) : Keeps z (ackTake k psn s) := by
  have e := Eq.refl @ackTake; conv_rhs at e => delta ackTake
  rw [e]
  (try dsimp only)
  split <;> (try dsimp only)
  exacts [h, (headPump_keeps (keeps_ite (evt_keeps (wr_keeps (wr_keeps (setHead_keeps h)))) (wr_keeps (setHead_keeps h))))]

theorem hlBad_keeps {z : State} {k : Nat} {b : List Sys2Proof.Byte} {s : State} (h : Keeps z s) : Keeps z (hlBad k b
    s) :=
  (stationFault_keeps (bump_keeps h))

theorem hlArrival_keeps {z : State} {k : Nat} {type : Nat} {b : List Sys2Proof.Byte} {f : State → State} {s : State}
    (hf0 : ∀ t, Keeps z t → Keeps z (f t)) (h : Keeps z s) : Keeps z (hlArrival k type b f s) :=
  (keeps_ite h (keeps_ite (hf0 _ h) (hlBad_keeps h)))

theorem headRestart_keeps {z : State} {k : Nat} {s : State} (h : Keeps z s) : Keeps z (headRestart k s) :=
  (keeps_ite (closeSession_keeps (spoilImaging_keeps h)) h)

theorem execHlAck_keeps {z : State} {k : Nat} {pkt : List Sys2Proof.Byte} {s : State} (h : Keeps z s) : KeepsO z
    (execHlAck k pkt s) :=
  (.next (hlArrival_keeps (fun _ h1 => (keeps_ite (headRestart_keeps h1) (keeps_ite (ackTake_keeps h1) h1))) h))

theorem execHlBadPacket_keeps {z : State} {k : Nat} {pkt : List Sys2Proof.Byte} {s : State} (h : Keeps z s) : KeepsO z
    (execHlBadPacket k pkt s) :=
  (keepsO_ite (.next h) (.next (hlBad_keeps h)))

theorem resendLines_keeps {z : State} {k : Nat} {s : State} (h : Keeps z s) : Keeps z (resendLines k s) :=
  (tagNext_keeps (setSta_keeps h))

theorem sessionBegin_keeps {z : State} {k : Nat} {line : Nat} {ctl : Nat} {s : State} (h : Keeps z s) : Keeps z
    (sessionBegin k line ctl s) :=
  (keeps_ite (stationFault_keeps (showCredits_keeps (wr_keeps (evt_keeps (wr_keeps (setHead_keeps h))))))
    (resendLines_keeps (headSend_keeps (sendLintab_keeps (showCredits_keeps (wr_keeps (evt_keeps (wr_keeps
    (setHead_keeps h)))))))))

theorem execHlCredit_keeps {z : State} {k : Nat} {pkt : List Sys2Proof.Byte} {s : State} (h : Keeps z s) : KeepsO z
    (execHlCredit k pkt s) :=
  (.next (hlArrival_keeps (fun _ h1 => (keeps_ite (headPump_keeps (showCredits_keeps (setHead_keeps h1))) (keeps_ite
    (sessionBegin_keeps h1) h1))) h))

theorem resend_keeps {z : State} {k : Nat} {l : List (Nat × HeadPkt)} {s : State} (h : Keeps z s) : Keeps z (resend k
    l s) :=
  (keeps_ite h (bump_keeps (foldl_keeps (fun _ _ h1 => (headOut_keeps h1)) h)))

theorem nakTake_keeps {z : State} {k : Nat} {psn : Nat} {s : State} (h : Keeps z s) : Keeps z (nakTake k psn s) :=
  (keeps_ite (stationFault_keeps (resend_keeps (bump_keeps (setHead_keeps h)))) (resend_keeps (bump_keeps
    (setHead_keeps h))))

theorem execHlNak_keeps {z : State} {k : Nat} {pkt : List Sys2Proof.Byte} {s : State} (h : Keeps z s) : KeepsO z
    (execHlNak k pkt s) :=
  (.next (hlArrival_keeps (fun _ h1 => (keeps_ite (nakTake_keeps h1) h1)) h))

theorem execHlReplayTimer_keeps {z : State} {k : Nat} {s : State} (h : Keeps z s) : KeepsO z (execHlReplayTimer k s)
    :=
  (keepsO_ite (.next (resend_keeps (setHead_keeps h))) (.next h))

theorem execHlResyncTimer_keeps {z : State} {k : Nat} {s : State} (h : Keeps z s) : KeepsO z (execHlResyncTimer k s)
    :=
  (keepsO_ite (.next (headOut_keeps (setHead_keeps h))) (.next h))

theorem statusCool_keeps {z : State} {k : Nat} {pkt : List Sys2Proof.Byte} {s : State} (h : Keeps z s) : Keeps z
    (statusCool k pkt s) :=
  (keeps_ite (hotClear_keeps h) h)

theorem statusUnderrun_keeps {z : State} {k : Nat} {p : List Sys2Proof.Byte} {s : State} (h : Keeps z s) : Keeps z
    (statusUnderrun k p s) :=
  (keeps_ite (by (try dsimp only); split <;> (try dsimp only); exacts [(underrun_keeps h), h]) (keeps_ite
    (underrun_keeps h) h))

theorem statusShow_keeps {z : State} {k : Nat} {p : List Sys2Proof.Byte} {s : State} (h : Keeps z s) : Keeps z
    (statusShow k p s) :=
  (onlyIf_keeps (fun _ h1 => (evt_keeps h1)) (onlyIf_keeps (fun _ h1 => (evt_keeps h1)) (onlyIf_keeps (fun _ h1 =>
    (evt_keeps h1)) (onlyIf_keeps (fun _ h1 => (evt_keeps h1)) (wr_keeps (wr_keeps (wr_keeps (wr_keeps (wr_keeps
    (wr_keeps (wr_keeps (wr_keeps (wr_keeps (bump_keeps (setHead_keeps h)))))))))))))))

theorem statusTake_keeps {z : State} {k : Nat} {p : List Sys2Proof.Byte} {s : State} (h : Keeps z s) : Keeps z
    (statusTake k p s) :=
  (keeps_ite h (judgeTemp_keeps (setSta_keeps (statusUnderrun_keeps (statusShow_keeps h)))))

theorem execHlStatus_keeps {z : State} {k : Nat} {pkt : List Sys2Proof.Byte} {s : State} (h : Keeps z s) : KeepsO z
    (execHlStatus k pkt s) :=
  (keepsO_ite (.next (statusCool_keeps h)) (.next (hlArrival_keeps (fun _ h1 => (statusTake_keeps h1)) h)))

theorem execHlStatusTimeout_keeps {z : State} {k : Nat} {s : State} (h : Keeps z s) : KeepsO z (execHlStatusTimeout k
    s) :=
  (keepsO_ite (.next (stationFault_keeps (evt_keeps h))) (.next h))

theorem headcfgGo_keeps {z : State} {k : Nat} {s : State} (h : Keeps z s) : Keeps z (headcfgGo k s) :=
  (keeps_ite h (headSend_keeps (wr_keeps h)))

end Sys2Proof.Machine
end

