-- ==== Sys2Proof/Laws/KeepsRails.lean ====
section
/-! SUPPORT. What every operation of Rails keeps. -/

namespace Sys2Proof.Machine

theorem nvStore_keeps {z : State} {d : Nat} {o : Nat} {bs : List Sys2Proof.Byte} {s : State} (h : Keeps z s) : Keeps z
    (nvStore d o bs s) :=
  (Keeps.update (nvWriteBytes_keeps h))

theorem logAdvance_keeps {z : State} {s : State} (h : Keeps z s) : Keeps z (logAdvance s) :=
  (wr_keeps (Keeps.update h))

theorem execLogRecordWrite_keeps {z : State} {s : State} (h : Keeps z s) : KeepsO z (execLogRecordWrite s) := by
  have e := Eq.refl @execLogRecordWrite; conv_rhs at e => delta execLogRecordWrite
  rw [e]
  (try dsimp only)
  split <;> (try dsimp only)
  exacts [(.next h), (keepsO_ite (.next h) (.next (evt_keeps (Keeps.update (logAdvance_keeps (wr_keeps (nvStore_keeps h)))))))]

theorem setRail_keeps {z : State} {n : Nat} {r : Rail} {s : State} (h : Keeps z s) : Keeps z (setRail n r s) :=
  (Keeps.update h)

theorem execRailDownTimeout_keeps {z : State} {n : Nat} {s : State} (h : Keeps z s) : KeepsO z (execRailDownTimeout n
    s) :=
  (keepsO_ite (.next (recordFault_keeps (setRail_keeps h))) (.next h))

theorem railEnter_keeps {z : State} {n : Nat} {st : Nat} {s : State} (h : Keeps z s) : Keeps z (railEnter n st s) :=
  (keeps_ite (evt_keeps (wr_keeps (wr_keeps (keeps_ite (wr_keeps (wr_keeps (wr_keeps (setRail_keeps h)))) (wr_keeps
    (wr_keeps (setRail_keeps h))))))) (keeps_ite (logTrigger_keeps (evt_keeps (recordFault_keeps (wr_keeps (wr_keeps
    (keeps_ite (wr_keeps (wr_keeps (wr_keeps (setRail_keeps h)))) (wr_keeps (wr_keeps (setRail_keeps h)))))))))
    (wr_keeps (wr_keeps (keeps_ite (wr_keeps (wr_keeps (wr_keeps (setRail_keeps h)))) (wr_keeps (wr_keeps
    (setRail_keeps h))))))))

theorem railApply_keeps {z : State} {n : Nat} {row : Option (Nat × Bool)} {s : State} (h : Keeps z s) : Keeps z
    (railApply n row s) := by
  have e := Eq.refl @railApply; conv_rhs at e => delta railApply
  rw [e]
  (try dsimp only)
  split <;> (try dsimp only)
  exacts [(railEnter_keeps (onlyIf_keeps (fun _ h1 => (bump_keeps h1)) h)), h]

theorem railTimer_keeps {z : State} {n : Nat} {due : Bool} {s : State} (h : Keeps z s) : Keeps z (railTimer n due s)
    :=
  (keeps_ite (railApply_keeps h) h)

theorem execRailMinoffEnd_keeps {z : State} {n : Nat} {s : State} (h : Keeps z s) : KeepsO z (execRailMinoffEnd n s)
    :=
  (.next (railTimer_keeps h))

theorem railWatch_keeps {z : State} {n : Nat} {s : State} (h : Keeps z s) : Keeps z (railWatch n s) :=
  (setRail_keeps (keeps_ite (wr_keeps h) h))

theorem execRailPgChange_keeps {z : State} {n : Nat} {level : Bool} {s : State} (h : Keeps z s) : KeepsO z
    (execRailPgChange n level s) :=
  (keepsO_ite (.next h) (.next (railWatch_keeps (wr_keeps h))))

theorem execRailQualifyDone_keeps {z : State} {n : Nat} {s : State} (h : Keeps z s) : KeepsO z (execRailQualifyDone n
    s) :=
  (.next (railTimer_keeps h))

theorem execRailSeqStep_keeps {z : State} {mon : List Nat} {s : State} (h : Keeps z s) : KeepsO z (execRailSeqStep mon
    s) :=
  (.next (foldl_keeps (fun _ _ h1 => (railApply_keeps h1)) (foldl_keeps (fun _ _ h1 => (railWatch_keeps h1))
    (foldl_keeps (fun _ _ h1 => (by (try dsimp only); split <;> (try dsimp only); exacts [(Keeps.update h1), h1]))
    h))))

theorem execRailTimeout_keeps {z : State} {n : Nat} {s : State} (h : Keeps z s) : KeepsO z (execRailTimeout n s) :=
  (.next (railTimer_keeps h))

theorem execVinRecover_keeps {z : State} {code : Nat} {s : State} (h : Keeps z s) : KeepsO z (execVinRecover code s)
    :=
  (keepsO_ite (.next h) (.next (evt_keeps (foldl_keeps (fun _ _ h1 => (wr_keeps h1)) (wr_keeps (wr_keeps h))))))

theorem logAbandon_keeps {z : State} {s : State} (h : Keeps z s) : Keeps z (logAbandon s) := by
  have e := Eq.refl @logAbandon; conv_rhs at e => delta logAbandon
  rw [e]
  (try dsimp only)
  split <;> (try dsimp only)
  exacts [h, (logAdvance_keeps (Keeps.update (nvStore_keeps h)))]

theorem logScan_keeps {z : State} {s : State} (h : Keeps z s) : Keeps z (logScan s) :=
  (wr_keeps (wr_keeps (wr_keeps (wr_keeps (Keeps.update h)))))

theorem logVin_keeps {z : State} {s : State} (h : Keeps z s) : Keeps z (logVin s) :=
  (Keeps.update (logAbandon_keeps h))

theorem nvHostWrite_keeps {z : State} {d : Nat} {o : Nat} {v : Nat} {be : Nat} {s : State} (h : Keeps z s) : Keeps z
    (nvHostWrite d o v be s) :=
  (keeps_ite (foldl_keeps (fun _ _ h1 => (keeps_ite (nvPut_keeps h1) h1)) h) (evt_keeps (bump_keeps h)))

theorem nvUncorrectable_keeps {z : State} {d : Nat} {s : State} (h : Keeps z s) : Keeps z (nvUncorrectable d s) :=
  (evt_keeps (recordFault_keeps (bump_keeps h)))

theorem nvReadChecked_keeps {z : State} {d : Nat} {o : Nat} {n : Nat} {s : State} (h : Keeps z s) : Keeps z
    (nvReadChecked d o n s).2.2 :=
  (keeps_ite2 (nvUncorrectable_keeps h) h)

theorem railClear_keeps {z : State} {mask : Nat} {s : State} (h : Keeps z s) : Keeps z (railClear mask s) :=
  (foldl_keeps (fun _ _ h1 => (keeps_ite (railEnter_keeps h1) h1)) h)

theorem railTableLoad_keeps {z : State} {s : State} (h : Keeps z s) : Keeps z (railTableLoad s) :=
  (keeps_ite (evt_keeps (wr_keeps (wr_keeps (nvReadChecked_keeps h)))) (foldl_keeps (fun _ _ h1 => (wr_keeps (wr_keeps
    (wr_keeps (wr_keeps (wr_keeps (wr_keeps (putWord_keeps h1)))))))) (wr_keeps (wr_keeps (wr_keeps
    (nvReadChecked_keeps h))))))

theorem vinTrip_keeps {z : State} {code : Nat} {s : State} (h : Keeps z s) : Keeps z (vinTrip code s) :=
  (evt_keeps (recordFault_keeps (logVin_keeps (keeps_ite (wr_keeps (bump_keeps (wr_keeps (wr_keeps (foldl_keeps (fun _
    _ h1 => (wr_keeps h1)) h))))) (bump_keeps (wr_keeps (wr_keeps (foldl_keeps (fun _ _ h1 => (wr_keeps h1)) h))))))))

end Sys2Proof.Machine
end

