-- ==== Sys2Proof/Laws/KeepsCalib.lean ====
section
/-! SUPPORT. What every operation of Calib keeps. -/

namespace Sys2Proof.Machine

theorem abandonCopy_keeps {z : State} {d : Nat} {head : Nat} {data : Nat} {n : Nat} {s : State} (h : Keeps z s) :
    Keeps z (abandonCopy d head data n s) :=
  (nvStore_keeps (nvStore_keeps (freeBytes_keeps h)))

theorem setAge_keeps {z : State} {k : Nat} {v : AgeRun} {s : State} (h : Keeps z s) : Keeps z (setAge k v s) :=
  (Keeps.update h)

theorem ageIdle_keeps {z : State} {k : Nat} {s : State} (h : Keeps z s) : Keeps z (ageIdle k s) :=
  (wr_keeps (setAge_keeps h))

theorem readCopy_keeps {z : State} {d : Nat} {head : Nat} {data : Nat} {n : Nat} {s : State} (h : Keeps z s) : Keeps z
    (readCopy d head data n s).2 :=
  (nvReadChecked_keeps (nvReadChecked_keeps h))

theorem newerCopy_keeps {z : State} {d : Nat} {l : Nat} {s : State} (h : Keeps z s) : Keeps z (newerCopy d l s).2 :=
  (readCopy_keeps (readCopy_keeps h))

theorem ckptAbandoned_keeps {z : State} {k : Nat} {s : State} (h : Keeps z s) : Keeps z (ckptAbandoned k s) :=
  (evt_keeps (recordFault_keeps h))

theorem ageAbandon_keeps {z : State} {k : Nat} {s : State} (h : Keeps z s) : Keeps z (ageAbandon k s) := by
  have e := Eq.refl @ageAbandon; conv_rhs at e => delta ageAbandon
  rw [e]
  (try dsimp only)
  split <;> (try dsimp only)
  exacts [(ageIdle_keeps (evt_keeps (abandonCopy_keeps h))), (ageIdle_keeps (ckptAbandoned_keeps (abandonCopy_keeps (newerCopy_keeps h)))), h]

theorem ageCheckpoint_keeps {z : State} {k : Nat} {s : State} (h : Keeps z s) : Keeps z (ageCheckpoint k s) := by
  have e := Eq.refl @ageCheckpoint; conv_rhs at e => delta ageCheckpoint
  rw [e]
  (try dsimp only)
  split <;> (try dsimp only)
  exacts [(evt_keeps (wr_keeps (wr_keeps (nvStore_keeps (nvStore_keeps (Keeps.ofPair (by assumption) (agentRead_keeps (newerCopy_keeps h)))))))), (ckptAbandoned_keeps (wr_keeps (abandonCopy_keeps (Keeps.ofPair (by assumption) (agentRead_keeps (newerCopy_keeps h))))))]

theorem ageStart_keeps {z : State} {k : Nat} {a : Nat} {s : State} (h : Keeps z s) : Keeps z (ageStart k a s) :=
  (wr_keeps (setAge_keeps h))

theorem ageCtl_keeps {z : State} {k : Nat} {enBefore : Bool} {w : Nat} {s : State} (h : Keeps z s) : Keeps z (ageCtl k
    enBefore w s) :=
  (keeps_ite (ageStart_keeps (keeps_ite (ageStart_keeps (keeps_ite (ageStart_keeps (keeps_ite (setAge_keeps h) h))
    (keeps_ite (setAge_keeps h) h))) (keeps_ite (ageStart_keeps (keeps_ite (setAge_keeps h) h)) (keeps_ite
    (setAge_keeps h) h)))) (keeps_ite (ageStart_keeps (keeps_ite (ageStart_keeps (keeps_ite (setAge_keeps h) h))
    (keeps_ite (setAge_keeps h) h))) (keeps_ite (ageStart_keeps (keeps_ite (setAge_keeps h) h)) (keeps_ite
    (setAge_keeps h) h))))

theorem ageRestore_keeps {z : State} {k : Nat} {s : State} (h : Keeps z s) : Keeps z (ageRestore k s) := by
  have e := Eq.refl @ageRestore; conv_rhs at e => delta ageRestore
  rw [e]
  (try dsimp only)
  split <;> (try dsimp only)
  exacts [(wr_keeps (agentPut_keeps (wr_keeps (wr_keeps (newerCopy_keeps (keeps_ite (agentPut_keeps (wr_keeps (readCopy_keeps h))) (wr_keeps (readCopy_keeps h)))))))), (agentPut_keeps (wr_keeps (wr_keeps (newerCopy_keeps (keeps_ite (agentPut_keeps (wr_keeps (readCopy_keeps h))) (wr_keeps (readCopy_keeps h)))))))]

theorem ageSave_keeps {z : State} {k : Nat} {s : State} (h : Keeps z s) : Keeps z (ageSave k s) := by
  have e := Eq.refl @ageSave; conv_rhs at e => delta ageSave
  rw [e]
  (try dsimp only)
  split <;> (try dsimp only)
  exacts [(wr_keeps (nvStore_keeps (drawFree_keeps (nvStore_keeps (Keeps.ofPair (by assumption) (agentRead_keeps h)))))), (wr_keeps (abandonCopy_keeps (Keeps.ofPair (by assumption) (agentRead_keeps h))))]

theorem trimBytes_keeps {z : State} {a : Nat} {n : Nat} {s : State} (h : Keeps z s) : Keeps z (trimBytes a n s).2 := by
  have e := Eq.refl @trimBytes; conv_rhs at e => delta trimBytes
  rw [e]
  (try dsimp only)
  split <;> (try dsimp only)
  exacts [(Keeps.ofPair (by assumption) (agentRead_keeps h)), (freeBytes_keeps (Keeps.ofPair (by assumption) (agentRead_keeps h)))]

theorem agedTrims_keeps {z : State} {k : Nat} {n : Nat} {s : State} (h : Keeps z s) : Keeps z (agedTrims k n s).2 :=
  (trimBytes_keeps (trimBytes_keeps h))

theorem aregMeasure_keeps {z : State} {d : Nat} {l : Nat} {p : Nat × Nat} {s : State} (h : Keeps z s) : Keeps z
    (aregMeasure d l p s) :=
  (keeps_ite (evt_keeps (wr_keeps (wrS_keeps h))) (recordFault_keeps (bump_keeps h)))

theorem setCalJob_keeps {z : State} {d : Nat} {v : Option CalJob} {s : State} (h : Keeps z s) : Keeps z (setCalJob d v
    s) :=
  (Keeps.update h)

theorem calEnd_keeps {z : State} {d : Nat} {result : Nat} {s : State} (h : Keeps z s) : Keeps z (calEnd d result s) :=
  (evt_keeps (wr_keeps (wr_keeps (wr_keeps (setCalJob_keeps h)))))

theorem slotClear_keeps {z : State} {d : Nat} {i : Nat} {s : State} (h : Keeps z s) : Keeps z (slotClear d i s) :=
  (keeps_ite h (wr_keeps (wr_keeps h)))

theorem calGo_keeps {z : State} {d : Nat} {s : State} (h : Keeps z s) : Keeps z (calGo d s) :=
  (keeps_ite h (keeps_ite (calEnd_keeps (slotClear_keeps (nvReadChecked_keeps h))) (keeps_ite (calEnd_keeps
    (nvReadChecked_keeps h)) (keeps_ite (calEnd_keeps (nvReadChecked_keeps h)) (wr_keeps (setCalJob_keeps
    (nvReadChecked_keeps h)))))))

theorem calSpoil_keeps {z : State} {tables : List (Nat × List Sys2Proof.Byte)} {k : Nat} {s : State} (h : Keeps z s) :
    Keeps z (calSpoil tables k s) :=
  (foldl_keeps (fun _ _ h1 => (putBytes_keeps (freeBytes_keeps h1))) h)

theorem execAgeActionEnd_keeps {z : State} {k : Nat} {s : State} (h : Keeps z s) : KeepsO z (execAgeActionEnd k s) :=
  (keepsO_ite (.next h) (.next (ageIdle_keeps (keeps_ite (evt_keeps (ageRestore_keeps h)) (keeps_ite (evt_keeps
    (keeps_ite h (ageSave_keeps h))) (keeps_ite (ckptAbandoned_keeps h) (ageCheckpoint_keeps h)))))))

theorem trimSend_keeps {z : State} {k : Nat} {kind : Nat} {keep : Bool} {trims : List Nat} {s : State} (h : Keeps z s)
    : Keeps z (trimSend k kind keep trims s) :=
  (keeps_ite (headSend_keeps (wr_keeps (keeps_ite (setHead_keeps h) h))) (wr_keeps (keeps_ite (setHead_keeps h) h)))

theorem execAgeRefresh_keeps {z : State} {k : Nat} {s : State} (h : Keeps z s) : KeepsO z (execAgeRefresh k s) :=
  (keepsO_ite (.next (trimSend_keeps (setAge_keeps (agedTrims_keeps h)))) (.next h))

theorem slotStage_keeps {z : State} {d : Nat} {i : Nat} {es : List (Nat × Nat × Nat)} {s : State} (h : Keeps z s) :
    Keeps z (slotStage d i es s) :=
  (keeps_ite h (foldl_keeps (fun _ _ h1 => (wr_keeps (wr_keeps (wr_keeps h1)))) (wr_keeps (slotClear_keeps h))))

theorem execCalLoadEnd_keeps {z : State} {d : Nat} {s : State} (h : Keeps z s) : KeepsO z (execCalLoadEnd d s) := by
  have e := Eq.refl @execCalLoadEnd; conv_rhs at e => delta execCalLoadEnd
  rw [e]
  (try dsimp only)
  split <;> (try dsimp only)
  exacts [(.next h), (keepsO_ite (.next (calEnd_keeps (slotClear_keeps (facetUpdate_keeps (calSpoil_keeps (nvReadChecked_keeps h)))))) (by (try dsimp only); split <;> (try dsimp only); exacts [(.next (calEnd_keeps (slotClear_keeps (facetUpdate_keeps (calSpoil_keeps (stationRefuse_keeps (nvReadChecked_keeps h))))))), (keepsO_ite (.next (calEnd_keeps (slotClear_keeps (facetUpdate_keeps (calSpoil_keeps (agentWrite_keeps (facetUpdate_keeps (keeps_ite (wr_keeps (foldl_keeps (fun _ _ h1 => (putBytes_keeps h1)) (nvReadChecked_keeps h))) (foldl_keeps (fun _ _ h1 => (putBytes_keeps h1)) (nvReadChecked_keeps h)))))))))) (.next (calEnd_keeps (keeps_ite (agentWrite_keeps (facetUpdate_keeps (keeps_ite (wr_keeps (foldl_keeps (fun _ _ h1 => (putBytes_keeps h1)) (nvReadChecked_keeps h))) (foldl_keeps (fun _ _ h1 => (putBytes_keeps h1)) (nvReadChecked_keeps h))))) (wr_keeps (slotStage_keeps (agentWrite_keeps (facetUpdate_keeps (keeps_ite (wr_keeps (foldl_keeps (fun _ _ h1 => (putBytes_keeps h1)) (nvReadChecked_keeps h))) (foldl_keeps (fun _ _ h1 => (putBytes_keeps h1)) (nvReadChecked_keeps h)))))))))))]))]

theorem setMark_keeps {z : State} {d : Nat} {m : Nat} {v : MarkInput} {s : State} (h : Keeps z s) : Keeps z (setMark d
    m v s) :=
  (Keeps.update h)

theorem showMark_keeps {z : State} {d : Nat} {m : Nat} {s : State} (h : Keeps z s) : Keeps z (showMark d m s) :=
  (wr_keeps (wr_keeps (wr_keeps (wr_keeps (wr_keeps h)))))

theorem execMarkCapture_keeps {z : State} {d : Nat} {m : Nat} {level : Bool × Nat} {s : State} (h : Keeps z s) :
    KeepsO z (execMarkCapture d m level s) :=
  (keepsO_ite (.next h) (keepsO_ite (.next (showMark_keeps (keeps_ite (setMark_keeps h) (evt_keeps (bump_keeps h)))))
    (keepsO_ite (.next (wr_keeps (setMark_keeps (showMark_keeps (keeps_ite (setMark_keeps h) (evt_keeps (bump_keeps
    h))))))) (.next (foldl_keeps (fun _ _ h1 =>
    (by (try dsimp only); split <;> (try dsimp only); exacts [(aregMeasure_keeps h1), h1])) (wr_keeps (setMark_keeps
    (showMark_keeps (keeps_ite (setMark_keeps h) (evt_keeps (bump_keeps h)))))))))))

theorem execWearCheckpoint_keeps {z : State} {k : Nat} {s : State} (h : Keeps z s) : KeepsO z (execWearCheckpoint k s)
    :=
  (keepsO_ite (.next (ageStart_keeps (setAge_keeps h))) (.next h))

theorem markPop_keeps {z : State} {d : Nat} {m : Nat} {s : State} (h : Keeps z s) : Keeps z (markPop d m s) :=
  (showMark_keeps (setMark_keeps h))

theorem markWindows_keeps {z : State} {d : Nat} {n : Nat} {s : State} (h : Keeps z s) : Keeps z (markWindows d n s) :=
  (foldl_keeps (fun _ _ h1 => (keeps_ite (wr_keeps (setMark_keeps
    (by (try dsimp only); split <;> (try dsimp only); exacts [h1, (foldl_keeps (fun _ _ h2 => (keeps_ite (evt_keeps
    (bump_keeps h2)) h2)) h1)]))) h1)) h)

theorem trimGo_keeps {z : State} {k : Nat} {s : State} (h : Keeps z s) : Keeps z (trimGo k s) :=
  (keeps_ite h (keeps_ite (trimSend_keeps (agedTrims_keeps h)) (trimSend_keeps (trimBytes_keeps h))))

end Sys2Proof.Machine
end

