-- ==== Sys2Proof/Laws/KeepsTxn.lean ====
section
/-! SUPPORT. What every operation of Txn keeps. -/

namespace Sys2Proof.Machine

theorem applyEntry_keeps {z : State} {d : Nat} {a : Nat} {m : Nat} {v : Nat} {s : State} (h : Keeps z s) : Keeps z
    (applyEntry d a m v s) :=
  (putWord_keeps h)

theorem nextTsn_keeps {z : State} {s : State} (h : Keeps z s) : Keeps z (nextTsn s).2 :=
  (wr_keeps h)

theorem slotArm_keeps {z : State} {d : Nat} {i : Nat} {bar2 : Bool} {areg : Option Nat} {s : State} (h : Keeps z s) :
    Keeps z (slotArm d i bar2 areg s) :=
  (setTxn_keeps (wr_keeps (wr_keeps (wr_keeps (wr_keeps (nextTsn_keeps h))))))

theorem aregStage_keeps {z : State} {k : Nat} {s : State} (h : Keeps z s) : Keeps z (aregStage k s) := by
  have e := Eq.refl @aregStage; conv_rhs at e => delta aregStage
  rw [e]
  (try dsimp only)
  split <;> (try dsimp only)
  exacts [h, (keeps_ite h (slotArm_keeps (Keeps.update (wr_keeps (wr_keeps (slotStage_keeps h))))))]

theorem clampEntry_keeps {z : State} {d : Nat} {a : Nat} {s : State} (h : Keeps z s) : Keeps z (clampEntry d a s) := by
  have e := Eq.refl @clampEntry; conv_rhs at e => delta clampEntry
  rw [e]
  (try dsimp only)
  split <;> (try dsimp only)
  exacts [h, (putWord_keeps h)]

theorem tagPage_keeps {z : State} {d : Nat} {i : Nat} {tsn : Nat} {a : Nat} {s : State} (h : Keeps z s) : Keeps z
    (tagPage d i tsn a s) :=
  (keeps_ite h (wr_keeps h))

theorem rwsChanged_keeps {z : State} {d : Nat} {o : Nat} {s : State} (h : Keeps z s) : Keeps z (rwsChanged d o s) := by
  have e := Eq.refl @rwsChanged; conv_rhs at e => delta rwsChanged
  rw [e]
  (try dsimp only)
  split <;> (try dsimp only)
  exacts [(selectionChanged_keeps h), (keeps_ite h (selectionChanged_keeps h)), (stepLimits_keeps h), h]

theorem slotCommit_keeps {z : State} {d : Nat} {i : Nat} {s : State} (h : Keeps z s) : Keeps z (slotCommit d i s) :=
  (keeps_ite (Keeps.update (evt_keeps (wr_keeps (setTxn_keeps (wr_keeps (foldl_keeps (fun _ _ h1 => (linChanged_keeps
    h1)) (foldl_keeps (fun _ _ h1 => (tagPage_keeps (rwsChanged_keeps h1))) (foldl_keeps (fun _ _ h1 =>
    (clampEntry_keeps h1)) (foldl_keeps (fun _ _ h1 => (applyEntry_keeps h1)) h))))))))) (evt_keeps (wr_keeps
    (setTxn_keeps (wr_keeps (foldl_keeps (fun _ _ h1 => (linChanged_keeps h1)) (foldl_keeps (fun _ _ h1 =>
    (tagPage_keeps (rwsChanged_keeps h1))) (foldl_keeps (fun _ _ h1 => (clampEntry_keeps h1)) (foldl_keeps (fun _ _ h1
    => (applyEntry_keeps h1)) h)))))))))

theorem commitOnCue_keeps {z : State} {d : Nat} {n : Nat} {s : State} (h : Keeps z s) : Keeps z (commitOnCue d n s) :=
  (foldl_keeps (fun _ _ h1 => (keeps_ite (slotCommit_keeps h1) h1)) h)

theorem commitOnEdge_keeps {z : State} {k : Nat} {s : State} (h : Keeps z s) : Keeps z (commitOnEdge k s) :=
  (foldl_keeps (fun _ _ h1 => (keeps_ite (slotCommit_keeps h1) h1)) h)

theorem execAregHeldStage_keeps {z : State} {k : Nat} {s : State} (h : Keeps z s) : KeepsO z (execAregHeldStage k s)
    :=
  (.next (aregStage_keeps h))

theorem execLoopTick_keeps {z : State} {d : Nat} {s : State} (h : Keeps z s) : KeepsO z (execLoopTick d s) :=
  (.next (aregStage_keeps (aregStage_keeps (loopTick_keeps h))))

theorem slotJudge_keeps {z : State} {d : Nat} {i : Nat} {s : State} (h : Keeps z s) : Keeps z (slotJudge d i s) := by
  have e := Eq.refl @slotJudge; conv_rhs at e => delta slotJudge
  rw [e]
  (try dsimp only)
  split <;> (try dsimp only)
  exacts [(wr_keeps (wr_keeps (wr_keeps h))), (slotReject_keeps (keeps_ite (privViolation_keeps h) h))]

theorem execTxnChecksDone_keeps {z : State} {d : Nat} {i : Nat} {s : State} (h : Keeps z s) : KeepsO z
    (execTxnChecksDone d i s) :=
  (keepsO_ite (.next h) (keepsO_ite (.next (slotReject_keeps h)) (.next (slotJudge_keeps h))))

theorem execTxnCommit_keeps {z : State} {d : Nat} {i : Nat} {s : State} (h : Keeps z s) : KeepsO z (execTxnCommit d i
    s) :=
  (keepsO_ite (.next h) (.next (slotCommit_keeps h)))

theorem execXtxnAbortMsg_keeps {z : State} {d : Nat} {s : State} (h : Keeps z s) : KeepsO z (execXtxnAbortMsg d s) := by
  have e := Eq.refl @execXtxnAbortMsg; conv_rhs at e => delta execXtxnAbortMsg
  rw [e]
  (try dsimp only)
  split <;> (try dsimp only)
  exacts [(keepsO_ite (.next (slotReject_keeps ((takeMsg_keeps h) _ (by assumption)))) (.next ((takeMsg_keeps h) _ (by assumption)))), (.next h)]

theorem xtxnDecide_keeps {z : State} {s : State} (h : Keeps z s) : Keeps z (xtxnDecide s) :=
  (keeps_ite (Keeps.update (wr_keeps h)) h)

theorem xtxnEnd_keeps {z : State} {st : Nat} {reason : Nat} {die : Nat} {s : State} (h : Keeps z s) : Keeps z (xtxnEnd
    st reason die s) :=
  (evt_keeps (wr_keeps (wr_keeps (wr_keeps h))))

theorem xtxnAbandon_keeps {z : State} {reason : Nat} {die : Nat} {s : State} (h : Keeps z s) : Keeps z (xtxnAbandon
    reason die s) :=
  (Keeps.update (xtxnEnd_keeps h))

theorem execXtxnAnswer_keeps {z : State} {d : Nat} {s : State} (h : Keeps z s) : KeepsO z (execXtxnAnswer d s) := by
  have e := Eq.refl @execXtxnAnswer; conv_rhs at e => delta execXtxnAnswer
  rw [e]
  (try dsimp only)
  split <;> (try dsimp only)
  exacts [(keepsO_ite (.next (xtxnDecide_keeps (Keeps.update ((takeMsg_keeps h) _ (by assumption))))) (.next ((takeMsg_keeps h) _ (by assumption)))), (keepsO_ite (.next (xtxnAbandon_keeps (Keeps.update ((takeMsg_keeps h) _ (by assumption))))) (keepsO_ite (.next (wr_keeps (wr_keeps (Keeps.update ((takeMsg_keeps h) _ (by assumption)))))) (.next ((takeMsg_keeps h) _ (by assumption))))), (.next h)]

theorem execXtxnCommitMsg_keeps {z : State} {d : Nat} {s : State} (h : Keeps z s) : KeepsO z (execXtxnCommitMsg d s)
    := by
  have e := Eq.refl @execXtxnCommitMsg; conv_rhs at e => delta execXtxnCommitMsg
  rw [e]
  (try dsimp only)
  split <;> (try dsimp only)
  exacts [(keepsO_ite (.next (setTxn_keeps ((takeMsg_keeps h) _ (by assumption)))) (.next ((takeMsg_keeps h) _ (by assumption)))), (.next h)]

theorem xtxnDone_keeps {z : State} {s : State} (h : Keeps z s) : Keeps z (xtxnDone s) :=
  (keeps_ite (xtxnEnd_keeps h) h)

theorem execXtxnCommitReport_keeps {z : State} {d : Nat} {s : State} (h : Keeps z s) : KeepsO z (execXtxnCommitReport
    d s) := by
  have e := Eq.refl @execXtxnCommitReport; conv_rhs at e => delta execXtxnCommitReport
  rw [e]
  (try dsimp only)
  split <;> (try dsimp only)
  exacts [(.next (xtxnDone_keeps (Keeps.update ((takeMsg_keeps h) _ (by assumption))))), (.next h)]

theorem execXtxnPrepare_keeps {z : State} {d : Nat} {s : State} (h : Keeps z s) : KeepsO z (execXtxnPrepare d s) := by
  have e := Eq.refl @execXtxnPrepare; conv_rhs at e => delta execXtxnPrepare
  rw [e]
  (try dsimp only)
  split <;> (try dsimp only)
  exacts [(keepsO_ite (.next ((takeMsg_keeps h) _ (by assumption))) (keepsO_ite (.next (Keeps.update ((takeMsg_keeps h) _ (by assumption)))) (.next (Keeps.update (slotJudge_keeps (setTxn_keeps (wr_keeps (wr_keeps (wr_keeps (wr_keeps ((takeMsg_keeps h) _ (by assumption)))))))))))), (.next h)]

theorem execXtxnTimeout_keeps {z : State} {s : State} (h : Keeps z s) : KeepsO z (execXtxnTimeout s) :=
  (keepsO_ite (by (try dsimp only); split <;> (try dsimp only); exacts [(.next (xtxnAbandon_keeps h)), (.next h)])
    (.next h))

theorem slotAbort_keeps {z : State} {d : Nat} {i : Nat} {s : State} (h : Keeps z s) : Keeps z (slotAbort d i s) :=
  (keeps_ite h (keeps_ite (Keeps.update (slotReject_keeps h)) (slotReject_keeps h)))

theorem slotCtl_keeps {z : State} {d : Nat} {i : Nat} {bar2 : Bool} {w : Nat} {s : State} (h : Keeps z s) : Keeps z
    (slotCtl d i bar2 w s) :=
  (keeps_ite (keeps_ite (accErr_keeps (keeps_ite (slotAbort_keeps h) h)) (keeps_ite (slotAbort_keeps h) h)) (keeps_ite
    (slotArm_keeps (keeps_ite (slotClear_keeps (wr_keeps (wr_keeps h))) (wr_keeps (wr_keeps h)))) (keeps_ite
    (slotClear_keeps (wr_keeps (wr_keeps h))) (wr_keeps (wr_keeps h)))))

theorem xtxnAbort_keeps {z : State} {s : State} (h : Keeps z s) : Keeps z (xtxnAbort s) :=
  (keeps_ite (xtxnAbandon_keeps h) h)

theorem xtxnGo_keeps {z : State} {s : State} (h : Keeps z s) : Keeps z (xtxnGo s) :=
  (keeps_ite h (keeps_ite (xtxnEnd_keeps (wr_keeps (wr_keeps (wr_keeps (wr_keeps (Keeps.update (nextTsn_keeps h)))))))
    (xtxnDone_keeps (xtxnDecide_keeps (Keeps.update (wr_keeps (wr_keeps (wr_keeps (wr_keeps (Keeps.update
    (nextTsn_keeps h)))))))))))

end Sys2Proof.Machine
end

