-- ==== Sys2Proof/Laws/KeepsLaunch.lean ====
section
/-! SUPPORT. What every operation of Launch keeps. -/

namespace Sys2Proof.Machine

theorem actionIssued_keeps {z : State} {d : Nat} {n : Nat} {move : Option Nat} {s : State} (h : Keeps z s) : Keeps z
    (actionIssued d n move s) :=
  (setCue_keeps h)

theorem actionRefused_keeps {z : State} {d : Nat} {n : Nat} {s : State} (h : Keeps z s) : Keeps z (actionRefused d n
    s) :=
  (cueCompleted_keeps (cueRefuse_keeps h))

theorem counterStep_keeps {z : State} {d : Nat} {c : Nat} {up : Bool} {s : State} (h : Keeps z s) : Keeps z
    (counterStep d c up s) :=
  (foldl_keeps (fun _ _ h1 => (keeps_ite (lineStep_keeps h1) h1)) (reachResume_keeps (reachStart_keeps (cueReach_keeps
    (setCounter_keeps h)))))

theorem counterEdge_keeps {z : State} {d : Nat} {c : Nat} {e : Nat} {old : Encoder} {new : Encoder} {s : State} (h :
    Keeps z s) : Keeps z (counterEdge d c e old new s) := by
  have e := Eq.refl @counterEdge; conv_rhs at e => delta counterEdge
  rw [e]
  (try dsimp only)
  split <;> (try dsimp only)
  exacts [(counterStep_keeps h), (counterStep_keeps h), (evt_keeps (recordFault_keeps (bump_keeps h))), h]

theorem noteLaunch_keeps {z : State} {keep : Bool} {i : Nat} {d : Nat} {s : State} (h : Keeps z s) : Keeps z
    (noteLaunch keep i d s) :=
  (keeps_ite h (setSlot_keeps h))

theorem launchAccept_keeps {z : State} {i : Nat} {d : Nat} {s : State} (h : Keeps z s) : Keeps z (launchAccept i d s)
    :=
  (foldl_keeps (fun _ _ h1 => (watchStart_keeps (setStartList_keeps h1))) (setSlot_keeps (noteLaunch_keeps h)))

theorem launchRefuse_keeps {z : State} {i : Nat} {d : Nat} {s : State} (h : Keeps z s) : Keeps z (launchRefuse i d s)
    :=
  (keeps_ite (by (try dsimp only); split <;> (try dsimp only); exacts [(spoilFrame_keeps
    (by (try dsimp only); split <;> (try dsimp only); exacts [(keeps_ite (evt_keeps h) (sendCause_keeps (evt_keeps
    h))), (evt_keeps h)])), (by (try dsimp only); split <;> (try dsimp only); exacts [(keeps_ite (evt_keeps h)
    (sendCause_keeps (evt_keeps h))), (evt_keeps h)])]) (keeps_ite
    (by (try dsimp only); split <;> (try dsimp only); exacts [(purgeRequest_keeps (noteLaunch_keeps
    (by (try dsimp only); split <;> (try dsimp only); exacts [(keeps_ite (evt_keeps h) (sendCause_keeps (evt_keeps
    h))), (evt_keeps h)]))), (by (try dsimp only); split <;> (try dsimp only); exacts [(keeps_ite (evt_keeps h)
    (sendCause_keeps (evt_keeps h))), (evt_keeps h)])])
    (by (try dsimp only); split <;> (try dsimp only); exacts [(keeps_ite (evt_keeps h) (sendCause_keeps (evt_keeps
    h))), (evt_keeps h)])))

theorem launchRearm_keeps {z : State} {i : Nat} {d : Nat} {n : Nat} {old : CueRun} {s : State} (h : Keeps z s) : Keeps
    z (launchRearm i d n old s) := by
  have e := Eq.refl @launchRearm; conv_rhs at e => delta launchRearm
  rw [e]
  (try dsimp only)
  split <;> (try dsimp only)
  exacts [(keeps_ite h (setArmed_keeps (cueStore_keeps (setCue_keeps h)))), h]

theorem launch_keeps {z : State} {d : Nat} {n : Nat} {late : Bool} {old : CueRun} {s : State} (h : Keeps z s) : Keeps
    z (launch d n late old s) := by
  have e := Eq.refl @launch; conv_rhs at e => delta launch
  rw [e]
  (try dsimp only)
  split <;> (try dsimp only)
  exacts [(evt_keeps h), (keeps_ite (keeps_ite (launchAccept_keeps h) (launchRefuse_keeps (foldl_keeps (fun _ _ h1 => (evt_keeps (bump_keeps h1))) h))) (launchRearm_keeps (launchRefuse_keeps h)))]

theorem cueAct_keeps {z : State} {d : Nat} {n : Nat} {e : List Sys2Proof.Byte} {late : Bool} {old : CueRun} {s :
    State} (h : Keeps z s) : Keeps z (cueAct d n e late old s) := by
  have e := Eq.refl @cueAct; conv_rhs at e => delta cueAct
  rw [e]
  (try dsimp only)
  split <;> (try dsimp only)
  exacts [(keeps_ite (actionIssued_keeps (cuePin_keeps h)) (actionRefused_keeps h)), (keeps_ite (keeps_ite (actionIssued_keeps (stepMove_keeps h)) (actionRefused_keeps (stepMove_keeps h))) (actionRefused_keeps h)), (keeps_ite (actionIssued_keeps (wr_keeps h)) (actionRefused_keeps h)), (actionIssued_keeps (launch_keeps h)), (cueCompleted_keeps (evt_keeps h)), (cueCompleted_keeps h)]

theorem execCueFire_keeps {z : State} {d : Nat} {n : Nat} {s : State} (h : Keeps z s) : KeepsO z (execCueFire d n s)
    :=
  (keepsO_ite (.next h) (.next (cueAct_keeps (cueAdvance_keeps (markWindows_keeps (commitOnCue_keeps (setBitOf_keeps
    (keeps_ite (cueLate_keeps h) h))))))))

theorem execEncoderStep_keeps {z : State} {d : Nat} {e : Nat} {la : Bool} {lb : Bool} {s : State} (h : Keeps z s) :
    KeepsO z (execEncoderStep d e la lb s) :=
  (keepsO_ite (.next h) (.next (noteEdges_keeps (foldl_keeps (fun _ _ h1 => (keeps_ite (counterEdge_keeps h1) h1))
    (setEncoder_keeps h)))))

theorem execPathBackfeedAuto_keeps {z : State} {p : Nat} {s : State} (h : Keeps z s) : KeepsO z (execPathBackfeedAuto
    p s) :=
  (keepsO_ite (.next h) (.next (pathBackfeed_keeps h)))

end Sys2Proof.Machine
end

