-- ==== Sys2Proof/Laws/KeepsRasterRx.lean ====
section
/-! SUPPORT. What every operation of RasterRx keeps. -/

namespace Sys2Proof.Machine

theorem dropPartial_keeps {z : State} {d : Nat} {k : Nat} {s : State} (h : Keeps z s) : Keeps z (dropPartial d k s) :=
  (setRaster_keeps h)

theorem rasterDrop_keeps {z : State} {d : Nat} {reason : Nat} {p : RasterPkt} {s : State} (h : Keeps z s) : Keeps z
    (rasterDrop d reason p s) := by
  have e := Eq.refl @rasterDrop; conv_rhs at e => delta rasterDrop
  rw [e]
  (try dsimp only)
  split <;> (try dsimp only)
  exacts [(regrant_keeps (setRaster_keeps (evt_keeps (bump_keeps (keeps_ite (keeps_ite (dropPartial_keeps h) h) (putWord_keeps (putWord_keeps (putWord_keeps (keeps_ite (dropPartial_keeps h) h))))))))), (evt_keeps (bump_keeps (keeps_ite (keeps_ite (dropPartial_keeps h) h) (putWord_keeps (putWord_keeps (putWord_keeps (keeps_ite (dropPartial_keeps h) h)))))))]

theorem rasterLand_keeps {z : State} {d : Nat} {addr : Nat} {bytes : List Sys2Proof.Byte} {p : RasterPkt} {complete :
    Option Nat} {s : State} (h : Keeps z s) : Keeps z (rasterLand d addr bytes p complete s) :=
  (setRaster_keeps h)

theorem rasterSegment_keeps {z : State} {d : Nat} {p : RasterPkt} {x : Partial} {s : State} (h : Keeps z s) : Keeps z
    (rasterSegment d p x s) :=
  (keeps_ite (rasterDrop_keeps h) (rasterLand_keeps (keeps_ite (dropPartial_keeps h) (setRaster_keeps
    (dropPartial_keeps h)))))

theorem landedRead_keeps {z : State} {d : Nat} {a : Nat} {n : Nat} {s : State} (h : Keeps z s) : Keeps z (landedRead d
    a n s).2 :=
  (keeps_ite1 h (by (try dsimp only); split <;> (try dsimp only); exacts [(Keeps.ofPair (by assumption)
    (agentRead_keeps h)), (agentRead_keeps h)]))

theorem noteBegun_keeps {z : State} {d : Nat} {p : RasterPkt} {s : State} (h : Keeps z s) : Keeps z (noteBegun d p s)
    :=
  (setRaster_keeps h)

theorem applyAshlar_keeps {z : State} {d : Nat} {p : RasterPkt} {s : State} (h : Keeps z s) : Keeps z (applyAshlar d p
    s) := by
  have e := Eq.refl @applyAshlar; conv_rhs at e => delta applyAshlar
  rw [e]
  (try dsimp only)
  split <;> (try dsimp only)
  exacts [(rasterDrop_keeps h), (by (try dsimp only); split <;> (try dsimp only); exacts [(keeps_ite (rasterSegment_keeps h) (rasterDrop_keeps h)), (keeps_ite (rasterDrop_keeps h) (by (try dsimp only); split <;> (try dsimp only); exacts [(keeps_ite (rasterDrop_keeps (Keeps.ofPair (by assumption) (landedRead_keeps h))) (rasterSegment_keeps (noteBegun_keeps (Keeps.ofPair (by assumption) (landedRead_keeps h))))), (rasterDrop_keeps (Keeps.ofPair (by assumption) (landedRead_keeps h)))]))])]

theorem applyDescriptor_keeps {z : State} {d : Nat} {p : RasterPkt} {s : State} (h : Keeps z s) : Keeps z
    (applyDescriptor d p s) :=
  (rasterLand_keeps (evt_keeps (by (try dsimp only); split <;> (try dsimp only); exacts [(submitSlot_keeps
    (putBytes_keeps h)), (submitReject_keeps (drawFree_keeps h))])))

theorem applyIndex_keeps {z : State} {d : Nat} {p : RasterPkt} {s : State} (h : Keeps z s) : Keeps z (applyIndex d p
    s) := by
  have e := Eq.refl @applyIndex; conv_rhs at e => delta applyIndex
  rw [e]
  (try dsimp only)
  split <;> (try dsimp only)
  exacts [(rasterDrop_keeps h), (keeps_ite (rasterDrop_keeps h) (rasterLand_keeps h))]

theorem applyRaster_keeps {z : State} {d : Nat} {p : RasterPkt} {s : State} (h : Keeps z s) : Keeps z (applyRaster d p
    s) :=
  (keeps_ite (rasterDrop_keeps h) (keeps_ite (keeps_ite (applyDescriptor_keeps h) (rasterDrop_keeps h)) (keeps_ite
    (rasterDrop_keeps h) (keeps_ite (applyAshlar_keeps h) (applyIndex_keeps h)))))

theorem creditCheck_keeps {z : State} {d : Nat} {old : State} {s : State} (ho : Keeps z old) (h : Keeps z s) : Keeps z
    (creditCheck d old s) :=
  (keeps_ite (evt_keeps ho) (keeps_ite (regrant_keeps h) h))

theorem dropDamaged_keeps {z : State} {d : Nat} {s : State} (h : Keeps z s) : Keeps z (dropDamaged d s) := by
  have e := Eq.refl @dropDamaged; conv_rhs at e => delta dropDamaged
  rw [e]
  (try dsimp only)
  split <;> (try dsimp only)
  exacts [h, (setRaster_keeps h)]

theorem rasterAccept_keeps {z : State} {d : Nat} {p : RasterPkt} {s : State} (h : Keeps z s) : Keeps z (rasterAccept d
    p s) :=
  (applyRaster_keeps (sendAck_keeps (bump_keeps (wr_keeps (setRaster_keeps h)))))

theorem rasterNak_keeps {z : State} {d : Nat} {s : State} (h : Keeps z s) : Keeps z (rasterNak d s) :=
  (keeps_ite (rasterFence_keeps (recordFault_keeps (sendNak_keeps h))) (sendNak_keeps h))

theorem rasterNakCause_keeps {z : State} {d : Nat} {s : State} (h : Keeps z s) : Keeps z (rasterNakCause d s) := by
  have e := Eq.refl @rasterNakCause; conv_rhs at e => delta rasterNakCause
  rw [e]
  (try dsimp only)
  split <;> (try dsimp only)
  exacts [(keeps_ite h (rasterNak_keeps h)), (rasterNak_keeps h)]

theorem rasterPacket_keeps {z : State} {d : Nat} {b : List Sys2Proof.Byte} {s : State} (h : Keeps z s) : Keeps z
    (rasterPacket d b s) := by
  have e := Eq.refl @rasterPacket; conv_rhs at e => delta rasterPacket
  rw [e]
  (try dsimp only)
  split <;> (try dsimp only)
  exacts [(rasterAccept_keeps h), (rasterNakCause_keeps (bump_keeps h)), (rasterNakCause_keeps (recordFault_keeps (bump_keeps h))), (rasterNakCause_keeps (bump_keeps h)), (sendAck_keeps h), (rasterNakCause_keeps (bump_keeps h))]

theorem rasterArrival_keeps {z : State} {d : Nat} {b : List Sys2Proof.Byte} {s : State} (h : Keeps z s) : Keeps z
    (rasterArrival d b s) :=
  (keeps_ite h (rasterPacket_keeps h))

theorem execRlAshlar_keeps {z : State} {d : Nat} {pkt : List Sys2Proof.Byte} {s : State} (h : Keeps z s) : KeepsO z
    (execRlAshlar d pkt s) :=
  (keepsO_ite (.next (rasterArrival_keeps h)) (.next h))

theorem rasterUnframed_keeps {z : State} {d : Nat} {s : State} (h : Keeps z s) : Keeps z (rasterUnframed d s) :=
  (keeps_ite h (rasterNakCause_keeps (bump_keeps h)))

theorem execRlBadPacket_keeps {z : State} {d : Nat} {blocks : List Sys2Proof.Byte} {s : State} (h : Keeps z s) :
    KeepsO z (execRlBadPacket d blocks s) :=
  (keepsO_ite (.next h) (keepsO_ite (.next (rasterUnframed_keeps h)) (keepsO_ite (.next h) (.next (rasterArrival_keeps
    h)))))

theorem execRlCreditTimer_keeps {z : State} {d : Nat} {s : State} (h : Keeps z s) : KeepsO z (execRlCreditTimer d s)
    :=
  (keepsO_ite (.next (sendCredit_keeps h)) (.next h))

theorem execRlDescriptor_keeps {z : State} {d : Nat} {pkt : List Sys2Proof.Byte} {s : State} (h : Keeps z s) : KeepsO
    z (execRlDescriptor d pkt s) :=
  (keepsO_ite (.next (rasterArrival_keeps h)) (.next h))

theorem execRlIndex_keeps {z : State} {d : Nat} {pkt : List Sys2Proof.Byte} {s : State} (h : Keeps z s) : KeepsO z
    (execRlIndex d pkt s) :=
  (keepsO_ite (.next (rasterArrival_keeps h)) (.next h))

theorem execRlInitAckTimer_keeps {z : State} {d : Nat} {s : State} (h : Keeps z s) : KeepsO z (execRlInitAckTimer d s)
    :=
  (keepsO_ite (.next (sendAck_keeps (setRaster_keeps h))) (.next h))

theorem execRlNakTimer_keeps {z : State} {d : Nat} {s : State} (h : Keeps z s) : KeepsO z (execRlNakTimer d s) := by
  have e := Eq.refl @execRlNakTimer; conv_rhs at e => delta execRlNakTimer
  rw [e]
  (try dsimp only)
  split <;> (try dsimp only)
  exacts [(keepsO_ite (.next (rasterNak_keeps h)) (.next h)), (.next h)]

theorem openRaster_keeps {z : State} {d : Nat} {s : State} (h : Keeps z s) : Keeps z (openRaster d s) := by
  have e := Eq.refl @openRaster; conv_rhs at e => delta openRaster
  rw [e]
  (try dsimp only)
  split <;> (try dsimp only)
  exacts [h, (keeps_ite h (sendCredit_keeps (sendAck_keeps (evt_keeps (bump_keeps (wr_keeps (wr_keeps (setRaster_keeps h))))))))]

theorem execRlPacketLanded_keeps {z : State} {d : Nat} {s : State} (h : Keeps z s) : KeepsO z (execRlPacketLanded d s)
    := by
  have e := Eq.refl @execRlPacketLanded; conv_rhs at e => delta execRlPacketLanded
  rw [e]
  (try dsimp only)
  split <;> (try dsimp only)
  exacts [(.next h), (.next (openRaster_keeps (keeps_ite (regrant_keeps (setRaster_keeps (by (try dsimp only); split <;> (try dsimp only); exacts [(ashlarDelivered_keeps (keeps_ite (setRaster_keeps h) (agentPut_keeps (setRaster_keeps h)))), (keeps_ite (setRaster_keeps h) (agentPut_keeps (setRaster_keeps h)))]))) (setRaster_keeps (by (try dsimp only); split <;> (try dsimp only); exacts [(ashlarDelivered_keeps (keeps_ite (setRaster_keeps h) (agentPut_keeps (setRaster_keeps h)))), (keeps_ite (setRaster_keeps h) (agentPut_keeps (setRaster_keeps h)))])))))]

theorem execRlResync_keeps {z : State} {d : Nat} {pkt : List Sys2Proof.Byte} {s : State} (h : Keeps z s) : KeepsO z
    (execRlResync d pkt s) :=
  (keepsO_ite (.next (openRaster_keeps (setRaster_keeps h))) (.next h))

theorem rasterEnable_keeps {z : State} {d : Nat} {s : State} (h : Keeps z s) : Keeps z (rasterEnable d s) :=
  (keeps_ite (keeps_ite (rasterForm_keeps (closeRaster_keeps h)) h) (rasterForm_keeps (closeRaster_keeps h)))

theorem rasterFault_keeps {z : State} {d : Nat} {src : Nat} {forced : Bool} {s : State} (h : Keeps z s) : Keeps z
    (rasterFault d src forced s) :=
  (keeps_ite (rasterFence_keeps (keeps_ite (dropDamaged_keeps (recordFault_keeps h)) (recordFault_keeps h)))
    (keeps_ite (dropDamaged_keeps (recordFault_keeps h)) (recordFault_keeps h)))

theorem rasterUnfence_keeps {z : State} {d : Nat} {s : State} (h : Keeps z s) : Keeps z (rasterUnfence d s) :=
  (keeps_ite (rasterForm_keeps (closeRaster_keeps (unfence_keeps h))) (unfence_keeps h))

theorem routeWrite_keeps {z : State} {d : Nat} {w : Nat} {s : State} (h : Keeps z s) : Keeps z (routeWrite d w s) :=
  (keeps_ite (evt_keeps h) (keeps_ite (closeRaster_keeps (wr_keeps (wr_keeps h))) (wr_keeps (wr_keeps h))))

end Sys2Proof.Machine
end

