-- ==== Sys2Proof/Laws/KeepsFence.lean ====
section
/-! SUPPORT. What every operation of Fence keeps. -/

namespace Sys2Proof.Machine

theorem busFence_keeps {z : State} {d : Nat} {b : Nat} {s : State} (h : Keeps z s) : Keeps z (busFence d b s) :=
  (busBrake_keeps (busChannelsOff_keeps (addFence_keeps h)))

theorem busUnfence_keeps {z : State} {d : Nat} {b : Nat} {s : State} (h : Keeps z s) : Keeps z (busUnfence d b s) :=
  (keeps_ite h (keeps_ite (unfRefuse_keeps h) (busBrake_keeps (wr_keeps (dropFence_keeps h)))))

theorem stationSafe_keeps {z : State} {k : Nat} {s : State} (h : Keeps z s) : Keeps z (stationSafe k s) :=
  (headForm_keeps (closeSession_keeps (lenUpdate_keeps (timingOff_keeps (setSta_keeps (Keeps.update h))))))

theorem pioSafe_keeps {z : State} {d : Nat} {s : State} (h : Keeps z s) : Keeps z (pioSafe d s) :=
  (foldl_keeps (fun _ _ h1 => (wr_keeps h1)) (foldl_keeps (fun _ _ h1 => (setHeater_keeps (wr_keeps h1))) h))

theorem dieSafe_keeps {z : State} {d : Nat} {s : State} (h : Keeps z s) : Keeps z (dieSafe d s) :=
  (foldl_keeps (fun _ _ h1 => (keeps_ite h1 (laneOff_keeps h1))) (foldl_keeps (fun _ _ h1 => (busBrake_keeps h1))
    (pioSafe_keeps (foldl_keeps (fun _ _ h1 => (stepFence_keeps h1)) (foldl_keeps (fun _ _ h1 => (focOff_keeps h1))
    (foldl_keeps (fun _ _ h1 => (loopDisable_keeps h1)) (foldl_keeps (fun _ _ h1 => (cueDisarm_keeps h1))
    (stationSafe_keeps (stationSafe_keeps h)))))))))

theorem safeStopNow_keeps {z : State} {s : State} (h : Keeps z s) : Keeps z (safeStopNow s) :=
  (keeps_ite h (Keeps.update (foldl_keeps (fun _ _ h1 => (dieSafe_keeps (rejectTargets_keeps h1))) (evt_keeps
    (Keeps.update (spoilAll_keeps h))))))

theorem degrade_keeps {z : State} {d : Nat} {s : State} (h : Keeps z s) : Keeps z (degrade d s) :=
  (keeps_ite h (safeStopNow_keeps h))

theorem dieIsolate_keeps {z : State} {d : Nat} {s : State} (h : Keeps z s) : Keeps z (dieIsolate d s) :=
  (xtxnDone_keeps (evt_keeps (foldl_keeps (fun _ _ h1 => (keeps_ite (pathJam_keeps h1) h1)) (dieSafe_keeps
    (Keeps.update (addFence_keeps (spoilDie_keeps h)))))))

theorem dieFatal_keeps {z : State} {d : Nat} {s : State} (h : Keeps z s) : Keeps z (dieFatal d s) :=
  (keeps_ite h (degrade_keeps (recordFault_keeps (dieIsolate_keeps h))))

theorem dieLost_keeps {z : State} {d : Nat} {s : State} (h : Keeps z s) : Keeps z (dieLost d s) :=
  (keeps_ite h (dieFatal_keeps (errPulse_keeps (drawFree_keeps (drawFree_keeps h)))))

theorem ethUnfence_keeps {z : State} {p : Nat} {s : State} (h : Keeps z s) : Keeps z (ethUnfence p s) :=
  (keeps_ite (ethEnable_keeps (unfence_keeps h)) (unfence_keeps h))

theorem execErrPulseEnd_keeps {z : State} {s : State} (h : Keeps z s) : KeepsO z (execErrPulseEnd s) := by
  have e := Eq.refl @execErrPulseEnd; conv_rhs at e => delta execErrPulseEnd
  rw [e]
  (try dsimp only)
  split <;> (try dsimp only)
  exacts [(keepsO_ite (.next (wr_keeps (Keeps.update h))) (.next h)), (.next h)]

theorem fatalFault_keeps {z : State} {d : Nat} {p : Nat} {src : Nat} {forced : Bool} {s : State} (h : Keeps z s) :
    Keeps z (fatalFault d p src forced s) :=
  (dieFatal_keeps (recordFault_keeps h))

theorem execMemTrainDone_keeps {z : State} {d : Nat} {ok : Bool} {s : State} (h : Keeps z s) : KeepsO z
    (execMemTrainDone d ok s) :=
  (keepsO_ite (.next h) (keepsO_ite (.next (memTrained_keeps h)) (.next (fatalFault_keeps (evt_keeps (wr_keeps h))))))

theorem execMortarLinkFenced_keeps {z : State} {d : Nat} {s : State} (h : Keeps z s) : KeepsO z (execMortarLinkFenced
    d s) :=
  (keepsO_ite (.next h) (.next (foldl_keeps (fun _ _ h1 => (keeps_ite h1 (dieLost_keeps h1))) (Keeps.update h))))

theorem execStationUnfenceApply_keeps {z : State} {k : Nat} {s : State} (h : Keeps z s) : KeepsO z
    (execStationUnfenceApply k s) :=
  (keepsO_ite (.next (keeps_ite (stationFault_keeps (dropFence_keeps (Keeps.update h))) (lenUpdate_keeps
    (timingStart_keeps (headForm_keeps (dropFence_keeps (Keeps.update h))))))) (.next h))

theorem fenceUnit_keeps {z : State} {u : UnitId} {s : State} (h : Keeps z s) : Keeps z (fenceUnit u s) :=
  (keeps_ite h (by (try dsimp only); split <;> (try dsimp only); exacts [(stationFence_keeps h), (laneFence_keeps h),
    (rasterFence_keeps h), (decodeFence_keeps h), (compFenced_keeps (addFence_keeps h)), (dmaFenced_keeps
    (addFence_keeps h)), (stepFence_keeps (addFence_keeps h)), (focOff_keeps (addFence_keeps h)), (busFence_keeps h),
    (loopFence_keeps h), (cueFence_keeps h), (ethFence_keeps h), (addFence_keeps h)]))

theorem fenceUnits_keeps {z : State} {us : List UnitId} {s : State} (h : Keeps z s) : Keeps z (fenceUnits us s) :=
  (foldl_keeps (fun _ _ h1 => (fenceUnit_keeps h1)) h)

theorem fencePage_keeps {z : State} {d : Nat} {p : Nat} {s : State} (h : Keeps z s) : Keeps z (fencePage d p s) :=
  (fenceUnits_keeps h)

theorem stationUnfence_keeps {z : State} {k : Nat} {p : Nat} {s : State} (h : Keeps z s) : Keeps z (stationUnfence k p
    s) :=
  (keeps_ite h (keeps_ite (unfRefuse_keeps h) (Keeps.update h)))

theorem unfenceUnit_keeps {z : State} {d : Nat} {p : Nat} {u : UnitId} {s : State} (h : Keeps z s) : Keeps z
    (unfenceUnit d p u s) := by
  have e := Eq.refl @unfenceUnit; conv_rhs at e => delta unfenceUnit
  rw [e]
  (try dsimp only)
  split <;> (try dsimp only)
  exacts [(stationUnfence_keeps h), (laneUnfence_keeps h), (rasterUnfence_keeps h), (codecUnfence_keeps h), (codecUnfence_keeps h), (busUnfence_keeps h), (loopUnfence_keeps h), (cueUnfence_keeps h), (ethUnfence_keeps h), (unfence_keeps h)]

theorem unfencePage_keeps {z : State} {d : Nat} {p : Nat} {s : State} (h : Keeps z s) : Keeps z (unfencePage d p s) :=
  (foldl_keeps (fun _ _ h1 => (unfenceUnit_keeps h1)) h)

end Sys2Proof.Machine
end

