-- ==== Sys2Proof/Laws/KeepsPower.lean ====
section
/-! SUPPORT. What every operation of Power keeps. -/

namespace Sys2Proof.Machine

theorem frameClear_keeps {z : State} {s : State} (h : Keeps z s) : Keeps z (frameClear s) :=
  (dropWords_keeps (Keeps.update (foldl_keeps (fun _ _ h1 => (keeps_ite h1 (foldl_keeps (fun _ _ h2 =>
    (spoilStation_keeps h2)) h1))) h)))

theorem planesClear_keeps {z : State} {d : Nat} {s : State} (h : Keeps z s) : Keeps z (planesClear d s) :=
  (Keeps.update h)

theorem stationClear_keeps {z : State} {k : Nat} {kind : Sys2Proof.PageKind} {s : State} (h : Keeps z s) : Keeps z
    (stationClear k kind s) := by
  have e := Eq.refl @stationClear; conv_rhs at e => delta stationClear
  rw [e]
  (try dsimp only)
  split <;> (try dsimp only)
  exacts [(setImager_keeps (setSta_keeps h)), (setSta_keeps h), (setBond_keeps (setHead_keeps (setSta_keeps h))), (setSta_keeps h), h]

theorem blockClear_keeps {z : State} {d : Nat} {p : Nat} {s : State} (h : Keeps z s) : Keeps z (blockClear d p s) := by
  have e := Eq.refl @blockClear; conv_rhs at e => delta blockClear
  rw [e]
  (try dsimp only)
  split <;> (try dsimp only)
  exacts [(keeps_ite (Keeps.update h) h), (setTxn_keeps h), (Keeps.update h), (Keeps.update h), (keeps_ite (Keeps.update h) h), (Keeps.update h), (keeps_ite (Keeps.update (setClock_keeps (Keeps.update h))) (setClock_keeps (Keeps.update h))), (keeps_ite (frameClear_keeps h) (planesClear_keeps h)), (dropWords_keeps (setImager_keeps (setImager_keeps (Keeps.update h)))), (Keeps.update h), (Keeps.update h), (Keeps.update h), (Keeps.update h), (Keeps.update h), (showTiming_keeps (dropWords_keeps (stationClear_keeps h))), (stationClear_keeps h), (stationClear_keeps h), (stationClear_keeps h), (keeps_ite (Keeps.update (dropWords_keeps (Keeps.update h))) (dropWords_keeps (Keeps.update h))), (Keeps.update h), (Keeps.update h), (dropWords_keeps (Keeps.update h)), (Keeps.update h), (setGpio_keeps h), h]

theorem blockEnable_keeps {z : State} {d : Nat} {p : Nat} {s : State} (h : Keeps z s) : Keeps z (blockEnable d p s) := by
  have e := Eq.refl @blockEnable; conv_rhs at e => delta blockEnable
  rw [e]
  (try dsimp only)
  split <;> (try dsimp only)
  exacts [(keeps_ite (timingStart_keeps (headForm_keeps h)) (headForm_keeps (closeSession_keeps (timingEnd_keeps h)))), (laneEnable_keeps h), (rasterEnable_keeps h), h]

theorem blockQuiet_keeps {z : State} {d : Nat} {p : Nat} {s : State} (h : Keeps z s) : Keeps z (blockQuiet d p s) := by
  have e := Eq.refl @blockQuiet; conv_rhs at e => delta blockQuiet
  rw [e]
  (try dsimp only)
  split <;> (try dsimp only)
  exacts [(headForm_keeps (closeSession_keeps (timingEnd_keeps h))), (timingEnd_keeps h), (headForm_keeps (closeSession_keeps h)), (lenUpdate_keeps h), (keeps_ite h (laneOff_keeps h)), (rasterForm_keeps h), (setEth_keeps (setEth_keeps h)), (foldl_keeps (fun _ _ h1 => (focOff_keeps h1)) h), (foldl_keeps (fun _ _ h1 => (stepFence_keeps h1)) h), (pioSafe_keeps h), h]

theorem resized_keeps {z : State} {d : Nat} {p : Nat} {s : State} (h : Keeps z s) : Keeps z (resized d p s) := by
  have e := Eq.refl @resized; conv_rhs at e => delta resized
  rw [e]
  (try dsimp only)
  split <;> (try dsimp only)
  exacts [(dutyResize_keeps h), h]

theorem fenceViews_keeps {z : State} {d : Nat} {p : Nat} {s0 : State} {s : State} (h : Keeps z s) : Keeps z
    (fenceViews d p s0 s) := by
  have e := Eq.refl @fenceViews; conv_rhs at e => delta fenceViews
  rw [e]
  (try dsimp only)
  split <;> (try dsimp only)
  exacts [(foldl_keeps (fun _ _ h1 => (keeps_ite (wr_keeps h1) h1)) h), (foldl_keeps (fun _ _ h1 => (keeps_ite (setBitOf_keeps h1) h1)) h), (keeps_ite (setLaneSt_keeps h) h), (wr_keeps (wr_keeps h)), (foldl_keeps (fun _ _ h1 => (wr_keeps (wr_keeps h1))) h), (foldl_keeps (fun _ _ h1 => (wr_keeps h1)) h), (foldl_keeps (fun _ _ h1 => (setMode_keeps h1)) h), h]

theorem strapRegs_keeps {z : State} {d : Nat} {p : Nat} {s : State} (h : Keeps z s) : Keeps z (strapRegs d p s) := by
  have e := Eq.refl @strapRegs; conv_rhs at e => delta strapRegs
  rw [e]
  (try dsimp only)
  split <;> (try dsimp only)
  exacts [(wr_keeps h), (keeps_ite (wr_keeps (wr_keeps h)) h), h]

theorem blockReset_keeps {z : State} {d : Nat} {p : Nat} {s : State} (h : Keeps z s) : Keeps z (blockReset d p s) :=
  (resized_keeps (fenceViews_keeps (strapRegs_keeps (foldl_keeps (fun _ _ h1 => (putWord_keeps h1)) (dropWords_keeps
    (blockClear_keeps h))))))

theorem blockWakes_keeps {z : State} {d : Nat} {p : Nat} {s : State} (h : Keeps z s) : Keeps z (blockWakes d p s) :=
  (keeps_ite h (by (try dsimp only); split <;> (try dsimp only); exacts [(timingStart_keeps (headForm_keeps h)),
    (timingStart_keeps (headForm_keeps h)), (headForm_keeps h), (lenUpdate_keeps h), (laneEnable_keeps h),
    (rasterEnable_keeps h), (ethEnable_keeps (ethEnable_keeps h)), h]))

theorem stopUnits_keeps {z : State} {d : Nat} {p : Nat} {s : State} (h : Keeps z s) : Keeps z (stopUnits d p s) := by
  have e := Eq.refl @stopUnits; conv_rhs at e => delta stopUnits
  rw [e]
  (try dsimp only)
  split <;> (try dsimp only)
  exacts [(foldl_keeps (fun _ _ h1 => (cueDisarm_keeps h1)) h), (foldl_keeps (fun _ _ h1 => (loopDisable_keeps h1)) h), (foldl_keeps (fun _ _ h1 => (dropFence_keeps h1)) (fenceUnits_keeps h))]

theorem rejectDomain_keeps {z : State} {d : Nat} {dom : Nat} {s : State} (h : Keeps z s) : Keeps z (rejectDomain d dom
    s) :=
  (rejectTargets_keeps h)

theorem residueLost_keeps {z : State} {k : Nat} {s : State} (h : Keeps z s) : Keeps z (residueLost k s) :=
  (setSta_keeps h)

theorem domainOff_keeps {z : State} {d : Nat} {dom : Nat} {s : State} (h : Keeps z s) : Keeps z (domainOff d dom s) :=
  (keeps_ite (wr_keeps (putWord_keeps (foldl_keeps (fun _ _ h1 => (onlyIf_keeps (fun _ h2 => (residueLost_keeps h2))
    h1)) (foldl_keeps (fun _ _ h1 => (blockReset_keeps (blockQuiet_keeps h1))) (setDomain_keeps (keeps_ite
    (memSelfRefresh_keeps (foldl_keeps (fun _ _ h1 => (stopUnits_keeps h1)) (rejectDomain_keeps h))) (foldl_keeps (fun
    _ _ h1 => (stopUnits_keeps h1)) (rejectDomain_keeps h)))))))) (foldl_keeps (fun _ _ h1 => (onlyIf_keeps (fun _ h2
    => (residueLost_keeps h2)) h1)) (foldl_keeps (fun _ _ h1 => (blockReset_keeps (blockQuiet_keeps h1)))
    (setDomain_keeps (keeps_ite (memSelfRefresh_keeps (foldl_keeps (fun _ _ h1 => (stopUnits_keeps h1))
    (rejectDomain_keeps h))) (foldl_keeps (fun _ _ h1 => (stopUnits_keeps h1)) (rejectDomain_keeps h)))))))

theorem domainRelease_keeps {z : State} {d : Nat} {dom : Nat} {s : State} (h : Keeps z s) : Keeps z (domainRelease d
    dom s) :=
  (foldl_keeps (fun _ _ h1 => (blockWakes_keeps h1)) (keeps_ite (memWake_keeps (setDomain_keeps h)) (setDomain_keeps
    h)))

theorem powerLook_keeps {z : State} {d : Nat} {s : State} (h : Keeps z s) : Keeps z (powerLook d s) :=
  (keeps_ite (evt_keeps (wr_keeps (foldl_keeps (fun _ _ h1 => (keeps_ite h1 (keeps_ite (keeps_ite (rejectDomain_keeps
    (setDomain_keeps h1)) (setDomain_keeps h1)) (keeps_ite (setDomain_keeps h1) h1)))) h))) (wr_keeps (foldl_keeps
    (fun _ _ h1 => (keeps_ite h1 (keeps_ite (keeps_ite (rejectDomain_keeps (setDomain_keeps h1)) (setDomain_keeps h1))
    (keeps_ite (setDomain_keeps h1) h1)))) h)))

theorem execDomainPowerDown_keeps {z : State} {d : Nat} {dom : Nat} {s : State} (h : Keeps z s) : KeepsO z
    (execDomainPowerDown d dom s) :=
  (keepsO_ite (.next h) (keepsO_ite (.next (powerLook_keeps h)) (.next (powerLook_keeps (evt_keeps (bump_keeps
    (domainOff_keeps h)))))))

theorem execDomainPowerTimeout_keeps {z : State} {d : Nat} {dom : Nat} {s : State} (h : Keeps z s) : KeepsO z
    (execDomainPowerTimeout d dom s) :=
  (keepsO_ite (.next h) (.next (setDomain_keeps (foldl_keeps (fun _ _ h1 => (fencePage_keeps h1)) (recordFault_keeps
    h)))))

theorem execDomainPowerUp_keeps {z : State} {d : Nat} {dom : Nat} {s : State} (h : Keeps z s) : KeepsO z
    (execDomainPowerUp d dom s) :=
  (keepsO_ite (.next h) (.next (powerLook_keeps (evt_keeps (setDomain_keeps h)))))

theorem pageSrst_keeps {z : State} {d : Nat} {p : Nat} {s : State} (h : Keeps z s) : Keeps z (pageSrst d p s) :=
  (blockWakes_keeps (keeps_ite (Keeps.update (blockReset_keeps (blockQuiet_keeps h))) (blockReset_keeps
    (blockQuiet_keeps h))))

theorem putPageCtl_keeps {z : State} {d : Nat} {p : Nat} {s : State} (h : Keeps z s) : Keeps z (putPageCtl d p s) :=
  (putWord_keeps h)

end Sys2Proof.Machine
end

