-- ==== Sys2Proof/Laws/KeepsThermal.lean ====
section
/-! SUPPORT. What every operation of Thermal keeps. -/

namespace Sys2Proof.Machine

theorem enterCritical_keeps {z : State} {d : Nat} {s : State} (h : Keeps z s) : Keeps z (enterCritical d s) :=
  (foldl_keeps (fun _ _ h1 => (keeps_ite (laneOff_keeps h1) h1)) (criticalStop_keeps (logTrigger_keeps (evt_keeps
    (recordFault_keeps h)))))

theorem thermDiff_keeps {z : State} {d : Nat} {s : State} (h : Keeps z s) : Keeps z (thermDiff d s) :=
  (keeps_ite h (keeps_ite (evt_keeps (bump_keeps (recordFault_keeps (wr_keeps h)))) (keeps_ite (wr_keeps h) h)))

theorem setThermal_keeps {z : State} {d : Nat} {v : Thermal} {s : State} (h : Keeps z s) : Keeps z (setThermal d v s)
    :=
  (Keeps.update h)

theorem shutdown_keeps {z : State} {d : Nat} {s : State} (h : Keeps z s) : Keeps z (shutdown d s) :=
  (fatalFault_keeps (logTrigger_keeps (spoilDie_keeps (setThermal_keeps h))))

theorem thermState_keeps {z : State} {d : Nat} {s : State} (h : Keeps z s) : Keeps z (thermState d s) :=
  (keeps_ite (foldl_keeps (fun _ _ h1 => (keeps_ite (laneEnable_keeps h1) h1)) (keeps_ite (shutdown_keeps (keeps_ite
    (enterCritical_keeps (keeps_ite (evt_keeps (wr_keeps (wr_keeps h))) (keeps_ite (evt_keeps (wr_keeps (wr_keeps h)))
    (wr_keeps (wr_keeps h))))) (keeps_ite (evt_keeps (wr_keeps (wr_keeps h))) (keeps_ite (evt_keeps (wr_keeps
    (wr_keeps h))) (wr_keeps (wr_keeps h)))))) (keeps_ite (enterCritical_keeps (keeps_ite (evt_keeps (wr_keeps
    (wr_keeps h))) (keeps_ite (evt_keeps (wr_keeps (wr_keeps h))) (wr_keeps (wr_keeps h))))) (keeps_ite (evt_keeps
    (wr_keeps (wr_keeps h))) (keeps_ite (evt_keeps (wr_keeps (wr_keeps h))) (wr_keeps (wr_keeps h))))))) (keeps_ite
    (shutdown_keeps (keeps_ite (enterCritical_keeps (keeps_ite (evt_keeps (wr_keeps (wr_keeps h))) (keeps_ite
    (evt_keeps (wr_keeps (wr_keeps h))) (wr_keeps (wr_keeps h))))) (keeps_ite (evt_keeps (wr_keeps (wr_keeps h)))
    (keeps_ite (evt_keeps (wr_keeps (wr_keeps h))) (wr_keeps (wr_keeps h)))))) (keeps_ite (enterCritical_keeps
    (keeps_ite (evt_keeps (wr_keeps (wr_keeps h))) (keeps_ite (evt_keeps (wr_keeps (wr_keeps h))) (wr_keeps (wr_keeps
    h))))) (keeps_ite (evt_keeps (wr_keeps (wr_keeps h))) (keeps_ite (evt_keeps (wr_keeps (wr_keeps h))) (wr_keeps
    (wr_keeps h)))))))

theorem thermSet_keeps {z : State} {d : Nat} {e : Int} {s : State} (h : Keeps z s) : Keeps z (thermSet d e s) :=
  (foldl_keeps (fun _ _ h1 => (thermDiff_keeps h1)) (thermState_keeps (keeps_ite (wrS_keeps (wrS_keeps h)) (wrS_keeps
    h))))

theorem execTempSample_keeps {z : State} {d : Nat} {raw : Int} {s : State} (h : Keeps z s) : KeepsO z (execTempSample
    d raw s) :=
  (keepsO_ite (.next h) (keepsO_ite (.next (thermSet_keeps (setThermal_keeps (wr_keeps (wr_keeps (wrS_keeps h))))))
    (by (try dsimp only); split <;> (try dsimp only); exacts [(.next (thermSet_keeps (keeps_ite (evt_keeps (bump_keeps
    (setThermal_keeps (wr_keeps (wr_keeps (wrS_keeps h)))))) (recordFault_keeps (evt_keeps (bump_keeps
    (setThermal_keeps (wr_keeps (wr_keeps (wrS_keeps h)))))))))), (.next (thermSet_keeps (keeps_ite (keeps_ite
    (evt_keeps (bump_keeps (setThermal_keeps (wr_keeps (wr_keeps (wrS_keeps h)))))) (recordFault_keeps (evt_keeps
    (bump_keeps (setThermal_keeps (wr_keeps (wr_keeps (wrS_keeps h)))))))) (recordFault_keeps (keeps_ite (evt_keeps
    (bump_keeps (setThermal_keeps (wr_keeps (wr_keeps (wrS_keeps h)))))) (recordFault_keeps (evt_keeps (bump_keeps
    (setThermal_keeps (wr_keeps (wr_keeps (wrS_keeps h))))))))))))])))

end Sys2Proof.Machine
end

