-- ==== Sys2Proof/Laws/KeepsReset.lean ====
section
/-! SUPPORT. What every operation of Reset keeps. -/

namespace Sys2Proof.Machine

theorem warmNoted_keeps {z : State} {d : Nat} {cause : Nat} {s : State} (h : Keeps z s) : Keeps z (warmNoted d cause
    s) :=
  (bump_keeps (wr_keeps h))

theorem dieClear_keeps {z : State} {d : Nat} {s : State} (h : Keeps z s) : Keeps z (dieClear d s) :=
  (wr_keeps (wr_keeps (Keeps.update (foldl_keeps (fun _ _ h => fenceViews_keeps (strapRegs_keeps (putPageCtl_keeps
    h))) (Keeps.updateDrop _ (residueLost_keeps (residueLost_keeps (foldl_keeps (fun _ _ h => blockClear_keeps h)
    (memSelfRefresh_keeps h)))))))))

theorem assertWarm_keeps {z : State} {d : Nat} {cause : Nat} {pkg : Bool} {clock : Bool} {held : Bool} {s : State} (h
    : Keeps z s) : Keeps z (assertWarm d cause pkg clock held s) :=
  (setRelease_keeps (warmNoted_keeps (dieClear_keeps h)))

theorem bootStart_keeps {z : State} {s : State} (h : Keeps z s) : Keeps z (bootStart s) :=
  (keeps_ite (wr_keeps (Keeps.update h)) (wr_keeps (wr_keeps (wr_keeps (Keeps.update h)))))

theorem clockStations_keeps {z : State} {d : Nat} {s : State} (h : Keeps z s) : Keeps z (clockStations d s) :=
  (stationFence_keeps (stationFence_keeps (spoilImaging_keeps (spoilImaging_keeps h))))

theorem coldDie_keeps {z : State} {d : Nat} {cause : Nat} {old : State} {s : State} (h : Keeps z s) : Keeps z (coldDie
    d cause old s) :=
  (setClock_keeps (setRelease_keeps (foldl_keeps (fun _ _ h1 => (putWord_keeps h1)) (wr_keeps (foldl_keeps (fun _ _ h1
    => (wr_keeps h1)) (wr_keeps h))))))

theorem coldState_keeps {z : State} {s : State} (h : Keeps z s) : Keeps z (coldState s) :=
  ⟨h.part, h.pending, h.flash, h.now, h.free, fun w => ⟨rfl, rfl, (h.stores w).nv, (h.stores w).host⟩⟩

theorem coldReset_keeps {z : State} {cause : Nat} {s : State} (h : Keeps z s) : Keeps z (coldReset cause s) :=
  (logTrigger_keeps (logScan_keeps (railTableLoad_keeps (foldl_keeps (fun _ _ h1 => (wr_keeps h1)) (foldl_keeps (fun _
    _ h1 => (coldDie_keeps h1)) (coldState_keeps (foldl_keeps (fun _ _ h1 => (ageAbandon_keeps h1)) (logAbandon_keeps
    h))))))))

theorem dieReleased_keeps {z : State} {d : Nat} {s : State} (h : Keeps z s) : Keeps z (dieReleased d s) :=
  (keeps_ite (bootStart_keeps (powerLook_keeps (keeps_ite (Keeps.update (Keeps.update (setRelease_keeps (onlyIf_keeps
    (fun _ h1 => (dropFence_keeps h1)) (setClock_keeps h))))) (Keeps.update (setRelease_keeps (onlyIf_keeps (fun _ h1
    => (dropFence_keeps h1)) (setClock_keeps h))))))) (powerLook_keeps (keeps_ite (Keeps.update (Keeps.update
    (setRelease_keeps (onlyIf_keeps (fun _ h1 => (dropFence_keeps h1)) (setClock_keeps h))))) (Keeps.update
    (setRelease_keeps (onlyIf_keeps (fun _ h1 => (dropFence_keeps h1)) (setClock_keeps h)))))))

theorem errHoldCheck_keeps {z : State} {s : State} (h : Keeps z s) : Keeps z (errHoldCheck s) :=
  (keeps_ite h (Keeps.update h))

theorem execBrownOut_keeps {z : State} {s : State} (h : Keeps z s) : KeepsO z (execBrownOut s) :=
  (.next (coldReset_keeps h))

theorem pllBypass_keeps {z : State} {d : Nat} {p : Nat} {s : State} (h : Keeps z s) : Keeps z (pllBypass d p s) :=
  (keeps_ite h (evt_keeps (bump_keeps (wr_keeps (keeps_ite (setClock_keeps h) h)))))

theorem execClockFailure_keeps {z : State} {d : Nat} {s : State} (h : Keeps z s) : KeepsO z (execClockFailure d s) :=
  (keepsO_ite (.next h) (.next (foldl_keeps (fun _ _ h1 => (fatalFault_keeps h1)) (Keeps.update (foldl_keeps (fun _ _
    h1 => (spoilDie_keeps h1)) (foldl_keeps (fun _ _ h1 => (bump_keeps (wr_keeps (wr_keeps (foldl_keeps (fun _ _ h2 =>
    (pllBypass_keeps h2)) h1))))) h))))))

theorem warmPackage_keeps {z : State} {cause : Nat} {clock : Bool} {s : State} (h : Keeps z s) : Keeps z (warmPackage
    cause clock s) :=
  (keeps_ite h (Keeps.update (foldl_keeps (fun _ _ h1 => (assertWarm_keeps h1)) (foldl_keeps (fun _ _ h1 =>
    (dieSafe_keeps h1)) h))))

theorem warmDie_keeps {z : State} {d : Nat} {cause : Nat} {clock : Bool} {held : Bool} {s : State} (h : Keeps z s) :
    Keeps z (warmDie d cause clock held s) :=
  (keeps_ite h (assertWarm_keeps (Keeps.update (keeps_ite h (dieIsolate_keeps h)))))

theorem warmReset_keeps {z : State} {d : Nat} {cause : Nat} {pkg : Bool} {clock : Bool} {s : State} (h : Keeps z s) :
    Keeps z (warmReset d cause pkg clock s) :=
  (keeps_ite (warmPackage_keeps h) (warmDie_keeps h))

theorem execClockFailureWarmReset_keeps {z : State} {d : Nat} {s : State} (h : Keeps z s) : KeepsO z
    (execClockFailureWarmReset d s) := by
  have e := Eq.refl @execClockFailureWarmReset; conv_rhs at e => delta execClockFailureWarmReset
  rw [e]
  (try dsimp only)
  split <;> (try dsimp only)
  exacts [(keepsO_ite (.next (warmReset_keeps (Keeps.update h))) (.next h)), (.next h)]

theorem execClockGoodTimeout_keeps {z : State} {d : Nat} {isl : Nat} {s : State} (h : Keeps z s) : KeepsO z
    (execClockGoodTimeout d isl s) :=
  (keepsO_ite (.next h) (.next (keeps_ite (foldl_keeps (fun _ _ h1 => (fencePage_keeps h1)) (evt_keeps
    (recordFault_keeps (setDomain_keeps h)))) (keeps_ite (Keeps.update (foldl_keeps (fun _ _ h1 => (fencePage_keeps
    h1)) (evt_keeps (recordFault_keeps (setDomain_keeps h))))) (dieLost_keeps (foldl_keeps (fun _ _ h1 =>
    (fencePage_keeps h1)) (evt_keeps (recordFault_keeps (setDomain_keeps h)))))))))

theorem execDieWatchdogExpire_keeps {z : State} {d : Nat} {s : State} (h : Keeps z s) : KeepsO z
    (execDieWatchdogExpire d s) :=
  (keepsO_ite (.next h) (.next (warmReset_keeps (fatalFault_keeps h))))

theorem execIslandRelease_keeps {z : State} {d : Nat} {isl : Nat} {s : State} (h : Keeps z s) : KeepsO z
    (execIslandRelease d isl s) :=
  (keepsO_ite (.next h) (.next (keeps_ite (dieReleased_keeps (domainRelease_keeps h)) (domainRelease_keeps h))))

theorem execLockup_keeps {z : State} {d : Nat} {s : State} (h : Keeps z s) : KeepsO z (execLockup d s) :=
  (keepsO_ite (.next h) (.next (warmReset_keeps (fatalFault_keeps h))))

theorem execMortarTrained_keeps {z : State} {d : Nat} {lat : Nat} {s : State} (h : Keeps z s) : KeepsO z
    (execMortarTrained d lat s) :=
  (keepsO_ite (.next h) (.next (setRelease_keeps (foldl_keeps (fun _ _ h1 => (setDomain_keeps h1)) (keeps_ite
    (Keeps.update h) (wr_keeps (Keeps.update h)))))))

theorem execPcieReady_keeps {z : State} {s : State} (h : Keeps z s) : KeepsO z (execPcieReady s) :=
  (keepsO_ite (.next h) (.next (keeps_ite (bootStart_keeps (Keeps.update h)) (Keeps.update h))))

theorem execPkgWatchdogExpire_keeps {z : State} {s : State} (h : Keeps z s) : KeepsO z (execPkgWatchdogExpire s) :=
  (keepsO_ite (.next h) (.next (warmReset_keeps (safeStopNow_keeps (recordFault_keeps h)))))

theorem execPllLock_keeps {z : State} {d : Nat} {p : Nat} {s : State} (h : Keeps z s) : KeepsO z (execPllLock d p s)
    :=
  (keepsO_ite (.next h) (.next (keeps_ite (setRelease_keeps (keeps_ite (foldl_keeps (fun _ _ h1 => (laneStart_keeps
    h1)) (keeps_ite (memWake_keeps (keeps_ite (evt_keeps (wr_keeps (keeps_ite (setClock_keeps h) h))) (wr_keeps
    (keeps_ite (setClock_keeps h) h)))) (keeps_ite (evt_keeps (wr_keeps (keeps_ite (setClock_keeps h) h))) (wr_keeps
    (keeps_ite (setClock_keeps h) h))))) (keeps_ite (memWake_keeps (keeps_ite (evt_keeps (wr_keeps (keeps_ite
    (setClock_keeps h) h))) (wr_keeps (keeps_ite (setClock_keeps h) h)))) (keeps_ite (evt_keeps (wr_keeps (keeps_ite
    (setClock_keeps h) h))) (wr_keeps (keeps_ite (setClock_keeps h) h)))))) (keeps_ite (foldl_keeps (fun _ _ h1 =>
    (laneStart_keeps h1)) (keeps_ite (memWake_keeps (keeps_ite (evt_keeps (wr_keeps (keeps_ite (setClock_keeps h) h)))
    (wr_keeps (keeps_ite (setClock_keeps h) h)))) (keeps_ite (evt_keeps (wr_keeps (keeps_ite (setClock_keeps h) h)))
    (wr_keeps (keeps_ite (setClock_keeps h) h))))) (keeps_ite (memWake_keeps (keeps_ite (evt_keeps (wr_keeps
    (keeps_ite (setClock_keeps h) h))) (wr_keeps (keeps_ite (setClock_keeps h) h)))) (keeps_ite (evt_keeps (wr_keeps
    (keeps_ite (setClock_keeps h) h))) (wr_keeps (keeps_ite (setClock_keeps h) h))))))))

theorem execPllLockLoss_keeps {z : State} {d : Nat} {p : Nat} {s : State} (h : Keeps z s) : KeepsO z (execPllLockLoss
    d p s) :=
  (keepsO_ite (.next h) (keepsO_ite (.next (recordFault_keeps (keeps_ite (setRelease_keeps (pllBypass_keeps h))
    (pllBypass_keeps h)))) (.next (keeps_ite (foldl_keeps (fun _ _ h1 => (keeps_ite h1 (laneDown_keeps h1)))
    (keeps_ite (memSelfRefresh_keeps (clockStations_keeps (recordFault_keeps (keeps_ite (setRelease_keeps
    (pllBypass_keeps h)) (pllBypass_keeps h))))) (clockStations_keeps (recordFault_keeps (keeps_ite (setRelease_keeps
    (pllBypass_keeps h)) (pllBypass_keeps h)))))) (keeps_ite (memSelfRefresh_keeps (clockStations_keeps
    (recordFault_keeps (keeps_ite (setRelease_keeps (pllBypass_keeps h)) (pllBypass_keeps h))))) (clockStations_keeps
    (recordFault_keeps (keeps_ite (setRelease_keeps (pllBypass_keeps h)) (pllBypass_keeps h)))))))))

theorem execPowerOn_keeps {z : State} {s : State} (h : Keeps z s) : KeepsO z (execPowerOn s) :=
  (.next (coldReset_keeps h))

theorem toPlls_keeps {z : State} {d : Nat} {s : State} (h : Keeps z s) : Keeps z (toPlls d s) :=
  (setRelease_keeps (foldl_keeps (fun _ _ h1 => (keeps_ite (wr_keeps h1) h1)) h))

theorem execReferenceCheck_keeps {z : State} {d : Nat} {ok : Bool} {s : State} (h : Keeps z s) : KeepsO z
    (execReferenceCheck d ok s) :=
  (keepsO_ite (.next h) (keepsO_ite (.next (errHoldCheck_keeps (toPlls_keeps (wr_keeps (wr_keeps h)))))
    (by (try dsimp only); split <;> (try dsimp only); exacts [(.next (keeps_ite (Keeps.update h) h)), (.next h)])))

theorem execResetPin_keeps {z : State} {ns : Nat} {s : State} (h : Keeps z s) : KeepsO z (execResetPin ns s) :=
  (keepsO_ite (.next (coldReset_keeps h)) (keepsO_ite (.next h) (.next (keeps_ite (coldReset_keeps (drawFree_keeps h))
    (drawFree_keeps h)))))

theorem execStrapSample_keeps {z : State} {boot : Nat} {clkm : Nat} {prof : Nat} {legacy : Bool} {s : State} (h :
    Keeps z s) : KeepsO z (execStrapSample boot clkm prof legacy s) :=
  (keepsO_ite (.next h) (.next (foldl_keeps (fun _ _ h1 => (setRelease_keeps h1)) (foldl_keeps (fun _ _ h1 =>
    (foldl_keeps (fun _ _ h2 => (strapRegs_keeps (putPageCtl_keeps h2))) h1)) (Keeps.update h)))))

theorem execVinTrip_keeps {z : State} {code : Nat} {s : State} (h : Keeps z s) : KeepsO z (execVinTrip code s) :=
  (keepsO_ite (.next h) (.next (vinTrip_keeps (foldl_keeps (fun _ _ h1 => (ageAbandon_keeps h1)) h))))

theorem execWarmResetRelease_keeps {z : State} {d : Nat} {s : State} (h : Keeps z s) : KeepsO z (execWarmResetRelease
    d s) :=
  (keepsO_ite (.next h) (.next (keeps_ite (setRelease_keeps (setThermal_keeps h)) (toPlls_keeps (setThermal_keeps
    h)))))

theorem setDog_keeps {z : State} {i : Nat} {s : State} (h : Keeps z s) : Keeps z (setDog i s) :=
  (Keeps.update h)

theorem softReset_keeps {z : State} {d : Nat} {s : State} (h : Keeps z s) : Keeps z (softReset d s) :=
  (warmReset_keeps h)

end Sys2Proof.Machine
end

