-- ==== Sys2Proof/Laws/KeepsForce.lean ====
section
/-! SUPPORT. What every operation of Force keeps. -/

namespace Sys2Proof.Machine

theorem busClampNow_keeps {z : State} {d : Nat} {b : Nat} {s : State} (h : Keeps z s) : Keeps z (busClampNow d b s) :=
  (keeps_ite h (evt_keeps (bump_keeps (wr_keeps (wr_keeps h)))))

theorem busTripNow_keeps {z : State} {d : Nat} {b : Nat} {s : State} (h : Keeps z s) : Keeps z (busTripNow d b s) :=
  (evt_keeps (busBrake_keeps (addFence_keeps (wr_keeps (busChannelsOff_keeps h)))))

theorem faultUnit_keeps {z : State} {d : Nat} {p : Nat} {src : Nat} {u : UnitId} {forced : Bool} {s : State} (h :
    Keeps z s) : Keeps z (faultUnit d p src u forced s) :=
  (fenceUnit_keeps (recordFault_keeps h))

theorem selfError_keeps {z : State} {d : Nat} {p : Nat} {src : Nat} {unit : Nat} {s : State} (h : Keeps z s) : Keeps z
    (selfError d p src unit s) := by
  have e := Eq.refl @selfError; conv_rhs at e => delta selfError
  rw [e]
  (try dsimp only)
  split <;> (try dsimp only)
  exacts [(keeps_ite (fatalFault_keeps h) (keeps_ite (recordFault_keeps h) h)), (keeps_ite (decodeFence_keeps (recordFault_keeps h)) (keeps_ite (faultUnit_keeps h) (keeps_ite (recordFault_keeps h) h))), (keeps_ite (rasterFault_keeps h) h), (keeps_ite (stationFault_keeps h) h), (keeps_ite (stationFault_keeps h) h), (keeps_ite (protFault_keeps h) h), (keeps_ite (cueFence_keeps (recordFault_keeps h)) (keeps_ite (recordFault_keeps h) h)), (keeps_ite (faultUnit_keeps h) (keeps_ite (recordFault_keeps h) h)), (keeps_ite (recordFault_keeps h) h), (keeps_ite (recordFault_keeps h) h), (keeps_ite (keeps_ite (keeps_ite (recordFault_keeps h) (loopFence_keeps (recordFault_keeps h))) (foldl_keeps (fun _ _ h1 => (loopFence_keeps h1)) (recordFault_keeps h))) (keeps_ite (recordFault_keeps h) h)), (keeps_ite (recordFault_keeps h) h), (keeps_ite (recordFault_keeps h) h), (keeps_ite (faultUnit_keeps h) (keeps_ite (recordFault_keeps h) h)), (keeps_ite (fatalFault_keeps h) h), (keeps_ite (faultUnit_keeps h) (keeps_ite (recordFault_keeps h) h)), (keeps_ite (recordFault_keeps h) h), (keeps_ite (recordFault_keeps (bump_keeps h)) (keeps_ite (Keeps.update h) h)), h]

theorem execInternalError_keeps {z : State} {d : Nat} {p : Nat} {src : Nat} {unit : Nat} {s : State} (h : Keeps z s) :
    KeepsO z (execInternalError d p src unit s) :=
  (keepsO_ite (.next (selfError_keeps h)) (.next h))

theorem uncheckedCourse_keeps {z : State} {k : Nat} {s : State} (h : Keeps z s) : Keeps z (uncheckedCourse k s) :=
  (evt_keeps (bump_keeps h))

theorem forceStation_keeps {z : State} {k : Nat} {p : Nat} {src : Nat} {s : State} (h : Keeps z s) : Keeps z
    (forceStation k p src s) := by
  have e := Eq.refl @forceStation; conv_rhs at e => delta forceStation
  rw [e]
  (try dsimp only)
  split <;> (try dsimp only)
  exacts [(stationFault_keeps (keeps_ite (spoilImaging_keeps h) (keeps_ite (uncheckedCourse_keeps (spoilImaging_keeps h)) h))), (keeps_ite (stationFault_keeps (keeps_ite (sendCause_keeps (spoilImaging_keeps h)) (spoilImaging_keeps h))) (stationFault_keeps (keeps_ite (spoilImaging_keeps h) h))), (protFault_keeps h), (stationFault_keeps h)]

theorem forceFault_keeps {z : State} {d : Nat} {p : Nat} {src : Nat} {s : State} (h : Keeps z s) : Keeps z (forceFault
    d p src s) := by
  have e := Eq.refl @forceFault; conv_rhs at e => delta forceFault
  rw [e]
  (try dsimp only)
  split <;> (try dsimp only)
  exacts [(keeps_ite (keeps_ite (degrade_keeps (recordFault_keeps h)) h) (keeps_ite (fatalFault_keeps h) (recordFault_keeps h))), (laneFault_keeps h), (rasterFault_keeps h), (forceStation_keeps h), (forceStation_keeps h), (forceStation_keeps h), (forceStation_keeps h), (keeps_ite (evt_keeps (wr_keeps (foldl_keeps (fun _ _ h1 => (setHeater_keeps h1)) (recordFault_keeps h)))) (keeps_ite (evt_keeps (hvSafe_keeps (recordFault_keeps h))) (recordFault_keeps h))), (keeps_ite (faultUnit_keeps h) (recordFault_keeps h)), (keeps_ite (faultUnit_keeps h) (recordFault_keeps h)), (keeps_ite (busClampNow_keeps (recordFault_keeps h)) (keeps_ite (busTripNow_keeps (recordFault_keeps h)) (recordFault_keeps h))), (recordFault_keeps h), (keeps_ite (fatalFault_keeps h) (recordFault_keeps h)), (keeps_ite (faultUnit_keeps h) (recordFault_keeps h)), (keeps_ite (logVin_keeps (foldl_keeps (fun _ _ h1 => (ageAbandon_keeps h1)) (recordFault_keeps h))) (recordFault_keeps h)), (keeps_ite (fatalFault_keeps (spoilDie_keeps h)) (keeps_ite (thermSet_keeps (recordFault_keeps h)) (keeps_ite (evt_keeps (bump_keeps (wr_keeps (recordFault_keeps h)))) (keeps_ite (criticalStop_keeps (recordFault_keeps h)) (recordFault_keeps h))))), (keeps_ite (warmReset_keeps (fatalFault_keeps h)) (keeps_ite (keeps_ite (warmReset_keeps (safeStopNow_keeps (recordFault_keeps h))) h) (keeps_ite (warmReset_keeps (fatalFault_keeps h)) (recordFault_keeps h)))), (keeps_ite (Keeps.update (fatalFault_keeps (spoilDie_keeps h))) (keeps_ite (clockStations_keeps (recordFault_keeps h)) (recordFault_keeps h))), (recordFault_keeps h)]

theorem forceBit_keeps {z : State} {d : Nat} {p : Nat} {src : Nat} {s : State} (h : Keeps z s) : Keeps z (forceBit d p
    src s) :=
  (keeps_ite h (keeps_ite (evt_keeps h) (forceFault_keeps (bump_keeps h))))

theorem forceWord_keeps {z : State} {d : Nat} {p : Nat} {w : Nat} {s : State} (h : Keeps z s) : Keeps z (forceWord d p
    w s) :=
  (foldl_keeps (fun _ _ h1 => (forceBit_keeps h1)) h)

end Sys2Proof.Machine
end

