-- ==== Sys2Proof/Laws/KeepsRead.lean ====
section
/-! SUPPORT. What every operation of Read keeps. -/

namespace Sys2Proof.Machine

theorem readEffect_keeps {z : State} {d : Nat} {p : Nat} {o : Nat} {s : State} (h : Keeps z s) : Keeps z (readEffect d
    p o s) := by
  have e := Eq.refl @readEffect; conv_rhs at e => delta readEffect
  rw [e]
  (try dsimp only)
  split <;> (try dsimp only)
  exacts [(keeps_ite (wr_keeps h) (keeps_ite (wr_keeps h) (keeps_ite (wr_keeps (wr_keeps h)) h))), (keeps_ite (freedPop_keeps h) (keeps_ite (spoilPop_keeps h) h)), (keeps_ite (wr_keeps h) (keeps_ite (purgePop_keeps h) h)), (keeps_ite (markPop_keeps h) h), h]

theorem pageValue_keeps {z : State} {a : Sys2Proof.Access} {d : Nat} {p : Nat} {o : Nat} {s : State} (h : Keeps z s) :
    Keeps z (pageValue a d p o s).2 := by
  have e := Eq.refl @pageValue; conv_rhs at e => delta pageValue
  rw [e]
  (try dsimp only)
  split <;> (try dsimp only)
  exacts [h, (by (try dsimp only); split <;> (try dsimp only); exacts [h, (keeps_ite1 h (keeps_ite1 h (keeps_ite1 h (keeps_ite1 h (readEffect_keeps h)))))])]

theorem windowValue_keeps {z : State} {a : Sys2Proof.Access} {d : Nat} {o : Nat} {s : State} (h : Keeps z s) : Keeps z
    (windowValue a d o s).2 :=
  (keeps_ite1 h (keeps_ite1 (nvReadChecked_keeps h) h))

theorem readReg_keeps {z : State} {a : Sys2Proof.Access} {off : Nat} {s : State} (h : Keeps z s) : Keeps z (readReg a
    off s).2 :=
  (keeps_ite1 h (keeps_ite1 (accErr_keeps h) (keeps_ite1 h (keeps_ite1 (windowValue_keeps h) (pageValue_keeps h)))))

theorem readBack_keeps {z : State} {a : Sys2Proof.Access} {off : Nat} {s : State} (h : Keeps z s) : Keeps z (readBack
    a off s) :=
  (Keeps.update (readReg_keeps h))

end Sys2Proof.Machine
end

