-- ==== Sys2Proof/Laws/KeepsStore.lean ====
section
/-! SUPPORT. What every operation of Store keeps. -/

namespace Sys2Proof.Machine

theorem RegWrite.store_keeps {z : State} {w : RegWrite} {s : State} (h : Keeps z s) : Keeps z (RegWrite.store w s) :=
  (putWord_keeps h)

theorem RegWrite.storeClears_keeps {z : State} {w : RegWrite} {s : State} (h : Keeps z s) : Keeps z
    (RegWrite.storeClears w s) :=
  (keeps_ite h (putWord_keeps h))

theorem pageCtlWrite_keeps {z : State} {w : RegWrite} {s : State} (h : Keeps z s) : Keeps z (pageCtlWrite w s) :=
  (keeps_ite h (keeps_ite (powerLook_keeps (keeps_ite (blockEnable_keeps (keeps_ite (unfencePage_keeps (keeps_ite
    (fencePage_keeps (keeps_ite (pageSrst_keeps (wr_keeps (wr_keeps h))) (wr_keeps (wr_keeps h)))) (keeps_ite
    (pageSrst_keeps (wr_keeps (wr_keeps h))) (wr_keeps (wr_keeps h))))) (keeps_ite (fencePage_keeps (keeps_ite
    (pageSrst_keeps (wr_keeps (wr_keeps h))) (wr_keeps (wr_keeps h)))) (keeps_ite (pageSrst_keeps (wr_keeps (wr_keeps
    h))) (wr_keeps (wr_keeps h)))))) (keeps_ite (unfencePage_keeps (keeps_ite (fencePage_keeps (keeps_ite
    (pageSrst_keeps (wr_keeps (wr_keeps h))) (wr_keeps (wr_keeps h)))) (keeps_ite (pageSrst_keeps (wr_keeps (wr_keeps
    h))) (wr_keeps (wr_keeps h))))) (keeps_ite (fencePage_keeps (keeps_ite (pageSrst_keeps (wr_keeps (wr_keeps h)))
    (wr_keeps (wr_keeps h)))) (keeps_ite (pageSrst_keeps (wr_keeps (wr_keeps h))) (wr_keeps (wr_keeps h)))))))
    (keeps_ite (blockEnable_keeps (keeps_ite (unfencePage_keeps (keeps_ite (fencePage_keeps (keeps_ite (pageSrst_keeps
    (wr_keeps (wr_keeps h))) (wr_keeps (wr_keeps h)))) (keeps_ite (pageSrst_keeps (wr_keeps (wr_keeps h))) (wr_keeps
    (wr_keeps h))))) (keeps_ite (fencePage_keeps (keeps_ite (pageSrst_keeps (wr_keeps (wr_keeps h))) (wr_keeps
    (wr_keeps h)))) (keeps_ite (pageSrst_keeps (wr_keeps (wr_keeps h))) (wr_keeps (wr_keeps h)))))) (keeps_ite
    (unfencePage_keeps (keeps_ite (fencePage_keeps (keeps_ite (pageSrst_keeps (wr_keeps (wr_keeps h))) (wr_keeps
    (wr_keeps h)))) (keeps_ite (pageSrst_keeps (wr_keeps (wr_keeps h))) (wr_keeps (wr_keeps h))))) (keeps_ite
    (fencePage_keeps (keeps_ite (pageSrst_keeps (wr_keeps (wr_keeps h))) (wr_keeps (wr_keeps h)))) (keeps_ite
    (pageSrst_keeps (wr_keeps (wr_keeps h))) (wr_keeps (wr_keeps h))))))))

theorem lineMessages_keeps {z : State} {rq : Sys2Proof.Requester} {d : Nat} {p : Nat} {evtBefore : Bool} {fltBefore :
    Bool} {s : State} (h : Keeps z s) : Keeps z (lineMessages rq d p evtBefore fltBefore s) :=
  (keeps_ite (signalLine_keeps (keeps_ite (signalLine_keeps h) h)) (keeps_ite (signalLine_keeps h) h))

theorem lineWrite_keeps {z : State} {w : RegWrite} {f : State → State} {s : State} (hf0 : ∀ t, Keeps z t → Keeps z (f
    t)) (h : Keeps z s) : Keeps z (lineWrite w f s) :=
  (lineMessages_keeps (putWord_keeps (hf0 _ h)))

theorem recordClear_keeps {z : State} {w : RegWrite} {s : State} (h : Keeps z s) : Keeps z (recordClear w s) :=
  (keeps_ite (putWord_keeps (putWord_keeps h)) h)

theorem headerWrite_keeps {z : State} {w : RegWrite} {s : State} (h : Keeps z s) : Keeps z (headerWrite w s) :=
  (keeps_ite (pageCtlWrite_keeps h) (keeps_ite (lineWrite_keeps (fun _ h1 => (RegWrite.store_keeps h1)) h) (keeps_ite
    (evtMask_keeps h) (keeps_ite (forceWord_keeps h) (keeps_ite (recordClear_keeps h) (RegWrite.store_keeps h))))))

theorem headerWriteFenced_keeps {z : State} {w : RegWrite} {s : State} (h : Keeps z s) : Keeps z (headerWriteFenced w
    s) :=
  (keeps_ite (keeps_ite (unfencePage_keeps h) h) (keeps_ite (lineWrite_keeps (fun _ h1 => (RegWrite.storeClears_keeps
    h1)) h) (keeps_ite (recordClear_keeps h) h)))

end Sys2Proof.Machine
end

