-- ==== Sys2Proof/Laws/KeepsAccess.lean ====
section
/-! SUPPORT. What every operation of Access keeps. -/

namespace Sys2Proof.Machine

theorem stationTableWrite_keeps {z : State} {k : Nat} {o : Nat} {v : Sys2Proof.Word} {s : State} (h : Keeps z s) :
    Keeps z (stationTableWrite k o v s) :=
  (keeps_ite (keeps_ite (stationRefuse_keeps h) (putWord_keeps h)) (keeps_ite (keeps_ite (stationRefuse_keeps h)
    (putWord_keeps h)) (keeps_ite (keeps_ite (stationRefuse_keeps h) (putWord_keeps h)) (keeps_ite (keeps_ite
    (stationRefuse_keeps h) (facetUpdate_keeps (putWord_keeps h))) (keeps_ite (stationRefuse_keeps h) (putWord_keeps
    h))))))

theorem loopTableWrite_keeps {z : State} {d : Nat} {o : Nat} {v : Sys2Proof.Word} {s : State} (h : Keeps z s) : Keeps
    z (loopTableWrite d o v s) :=
  (keeps_ite (evt_keeps h) (putWord_keeps h))

theorem msixWrite_keeps {z : State} {o : Nat} {v : Sys2Proof.Word} {s : State} (h : Keeps z s) : Keeps z (msixWrite o
    v s) :=
  (keeps_ite h (keeps_ite (signalVector_keeps (putWord_keeps (putWord_keeps h))) (putWord_keeps h)))

theorem windowWrite_keeps {z : State} {rq : Sys2Proof.Requester} {d : Nat} {o : Nat} {v : Sys2Proof.Word} {s : State}
    (h : Keeps z s) : Keeps z (windowWrite rq d o v s) := by
  have e := Eq.refl @windowWrite; conv_rhs at e => delta windowWrite
  rw [e]
  (try dsimp only)
  split <;> (try dsimp only)
  exacts [(stationTableWrite_keeps h), (stationTableWrite_keeps h), (keeps_ite (cueError_keeps h) (putWord_keeps h)), (loopTableWrite_keeps h), (loopTableWrite_keeps h), (keeps_ite (putWord_keeps h) h), (nvHostWrite_keeps h), (nvHostWrite_keeps h), (msixWrite_keeps h), (putWord_keeps h)]

theorem dieWrite_keeps {z : State} {w : RegWrite} {s : State} (h : Keeps z s) : Keeps z (dieWrite w s) :=
  (keeps_ite (wr_keeps (RegWrite.store_keeps h)) (RegWrite.store_keeps h))

theorem ctrlWrite_keeps {z : State} {w : RegWrite} {s : State} (h : Keeps z s) : Keeps z (ctrlWrite w s) :=
  (keeps_ite (keeps_ite (xtxnAbort_keeps (keeps_ite (xtxnGo_keeps h) h)) (keeps_ite (xtxnGo_keeps h) h)) (keeps_ite
    (keeps_ite (signalVector_keeps (RegWrite.store_keeps h)) (RegWrite.store_keeps h)) (RegWrite.store_keeps h)))

theorem txnWrite_keeps {z : State} {w : RegWrite} {i : Nat} {s : State} (h : Keeps z s) : Keeps z (txnWrite w i s) :=
  (keeps_ite (slotCtl_keeps h) (keeps_ite (accErr_keeps h) (RegWrite.store_keeps h)))

theorem dogWrite_keeps {z : State} {w : RegWrite} {en : Sys2Proof.Loc} {lock : Sys2Proof.Loc} {i : Nat} {s : State} (h
    : Keeps z s) : Keeps z (dogWrite w en lock i s) :=
  (keeps_ite h (keeps_ite (setDog_keeps (RegWrite.store_keeps h)) (RegWrite.store_keeps h)))

theorem fusePgm_keeps {z : State} {w : RegWrite} {s : State} (h : Keeps z s) : Keeps z (fusePgm w s) :=
  (keeps_ite h (keeps_ite (wr_keeps (keeps_ite (wr_keeps h) h)) (keeps_ite (wr_keeps h) h)))

theorem rstWrite_keeps {z : State} {w : RegWrite} {s : State} (h : Keeps z s) : Keeps z (rstWrite w s) :=
  (keeps_ite (keeps_ite (softReset_keeps (RegWrite.store_keeps h)) (RegWrite.store_keeps h)) (keeps_ite
    (dogWrite_keeps h) (keeps_ite (keeps_ite (setDog_keeps h) h) (keeps_ite (dogWrite_keeps h) (keeps_ite (keeps_ite
    (setDog_keeps h) h) (keeps_ite (fusePgm_keeps h) (keeps_ite (keeps_ite (putWord_keeps h) h) (RegWrite.store_keeps
    h))))))))

theorem seqWrite_keeps {z : State} {w : RegWrite} {s : State} (h : Keeps z s) : Keeps z (seqWrite w s) :=
  (keeps_ite (railClear_keeps h) (keeps_ite (evt_keeps h) (RegWrite.store_keeps h)))

theorem thermWrite_keeps {z : State} {w : RegWrite} {s : State} (h : Keeps z s) : Keeps z (thermWrite w s) :=
  (keeps_ite (evt_keeps h) (RegWrite.store_keeps h))

theorem nvsWrite_keeps {z : State} {w : RegWrite} {s : State} (h : Keeps z s) : Keeps z (nvsWrite w s) :=
  (keeps_ite (keeps_ite (logTrigger_keeps h) h) (RegWrite.store_keeps h))

theorem laneWrite_keeps {z : State} {w : RegWrite} {n : Nat} {s : State} (h : Keeps z s) : Keeps z (laneWrite w n s)
    :=
  (keeps_ite (keeps_ite (RegWrite.store_keeps h) (evt_keeps (wr_keeps (RegWrite.store_keeps h)))) (keeps_ite
    (laneCtl_keeps (RegWrite.store_keeps h)) (keeps_ite (keeps_ite (evt_keeps h) (RegWrite.store_keeps h))
    (RegWrite.store_keeps h))))

theorem rlnkWrite_keeps {z : State} {w : RegWrite} {s : State} (h : Keeps z s) : Keeps z (rlnkWrite w s) :=
  (keeps_ite (rasterForm_keeps (keeps_ite (wr_keeps (RegWrite.store_keeps h)) (RegWrite.store_keeps h))) (keeps_ite
    (keeps_ite h (routeWrite_keeps h)) (keeps_ite (creditCheck_keeps h (RegWrite.store_keeps h)) (RegWrite.store_keeps
    h))))

theorem elnkWrite_keeps {z : State} {w : RegWrite} {s : State} (h : Keeps z s) : Keeps z (elnkWrite w s) :=
  (keeps_ite (RegWrite.store_keeps h) (keeps_ite (ethEnable_keeps (RegWrite.store_keeps h)) (keeps_ite (txKick_keeps
    h) (keeps_ite (keeps_ite (rxKick_keeps h) h) (keeps_ite h (RegWrite.store_keeps h))))))

theorem timeWrite_keeps {z : State} {w : RegWrite} {s : State} (h : Keeps z s) : Keeps z (timeWrite w s) :=
  (keeps_ite (keeps_ite h (timeIncr_keeps (RegWrite.store_keeps h))) (keeps_ite (keeps_ite h (timeAdj_keeps h))
    (keeps_ite (keeps_ite (timeSet_keeps h) h) (RegWrite.store_keeps h))))

theorem memcWrite_keeps {z : State} {w : RegWrite} {s : State} (h : Keeps z s) : Keeps z (memcWrite w s) :=
  (keeps_ite (keeps_ite (memInit_keeps h) h) (keeps_ite (onlyIf_keeps (fun _ h1 => (memFitted_keeps h1))
    (RegWrite.store_keeps h)) (RegWrite.store_keeps h)))

theorem dmaWrite_keeps {z : State} {w : RegWrite} {s : State} (h : Keeps z s) : Keeps z (dmaWrite w s) :=
  (keeps_ite (keeps_ite (evt_keeps h) (RegWrite.store_keeps h)) (keeps_ite (keeps_ite (keeps_ite (unfence_keeps h) h)
    (dmaCtl_keeps (RegWrite.store_keeps h))) (RegWrite.store_keeps (onlyIf_keeps (fun _ h1 => (dmaSettle_keeps h1))
    h))))

theorem codecWrite_keeps {z : State} {w : RegWrite} {s : State} (h : Keeps z s) : Keeps z (codecWrite w s) :=
  (keeps_ite (codecUnfence_keeps h) (keeps_ite (jobAbort_keeps h) (RegWrite.store_keeps h)))

theorem frameWrite_keeps {z : State} {w : RegWrite} {s : State} (h : Keeps z s) : Keeps z (frameWrite w s) :=
  (keeps_ite (leadCheckAll_keeps (RegWrite.store_keeps h)) (keeps_ite (frameSubmit_keeps h) (keeps_ite (keeps_ite h
    (RegWrite.store_keeps h)) (keeps_ite (keeps_ite (reprintGo_keeps (RegWrite.store_keeps h)) (RegWrite.store_keeps
    h)) (keeps_ite (frameRelease_keeps h) (keeps_ite (frameAbort_keeps h) (keeps_ite (resCtl_keeps h)
    (RegWrite.store_keeps h))))))))

theorem staWrite_keeps {z : State} {w : RegWrite} {l : Nat} {s : State} (h : Keeps z s) : Keeps z (staWrite w l s) :=
  (keeps_ite (keeps_ite (stationRefuse_keeps h) (ledAcquire_keeps (selectionChanged_keeps (dutyResize_keeps
    (reachUpdate_keeps (RegWrite.store_keeps h)))))) (keeps_ite (rwsChanged_keeps (RegWrite.store_keeps h)) (keeps_ite
    (rwsChanged_keeps (keeps_ite (RegWrite.store_keeps h) (keeps_ite (stationRefuse_keeps (wr_keeps
    (RegWrite.store_keeps h))) (reachUpdate_keeps (RegWrite.store_keeps h))))) (keeps_ite (keeps_ite
    (stationRefuse_keeps h) (RegWrite.store_keeps h)) (keeps_ite (keeps_ite (stationRefuse_keeps h) (facetUpdate_keeps
    (RegWrite.store_keeps h))) (RegWrite.store_keeps h))))))

theorem stimWrite_keeps {z : State} {w : RegWrite} {l : Nat} {s : State} (h : Keeps z s) : Keeps z (stimWrite w l s)
    :=
  (keeps_ite (stationRefuse_keeps h) (keeps_ite (timingRun_keeps (RegWrite.store_keeps h)) (keeps_ite
    (linChanged_keeps (rwsChanged_keeps (RegWrite.store_keeps h))) (RegWrite.store_keeps h))))

theorem shlWrite_keeps {z : State} {w : RegWrite} {l : Nat} {s : State} (h : Keeps z s) : Keeps z (shlWrite w l s) :=
  (keeps_ite (trimGo_keeps (RegWrite.store_keeps h)) (keeps_ite (headcfgGo_keeps (RegWrite.store_keeps h))
    (RegWrite.store_keeps h)))

theorem sprotWrite_keeps {z : State} {w : RegWrite} {l : Nat} {s : State} (h : Keeps z s) : Keeps z (sprotWrite w l s)
    :=
  (keeps_ite (lenUpdate_keeps (keeps_ite (rearmLatches_keeps (RegWrite.store_keeps h)) (RegWrite.store_keeps h)))
    (RegWrite.store_keeps h))

theorem cueWrite_keeps {z : State} {w : RegWrite} {s : State} (h : Keeps z s) : Keeps z (cueWrite w s) :=
  (keeps_ite (cueCtl_keeps h) (keeps_ite (keeps_ite (posAdjust_keeps h) h) (keeps_ite (pathEnable_keeps
    (RegWrite.store_keeps h)) (keeps_ite (pathCtl_keeps h) (RegWrite.store_keeps h)))))

theorem stepWrite_keeps {z : State} {w : RegWrite} {s : State} (h : Keeps z s) : Keeps z (stepWrite w s) := by
  have e := Eq.refl @stepWrite; conv_rhs at e => delta stepWrite
  rw [e]
  (try dsimp only)
  split <;> (try dsimp only)
  exacts [(stepClampV_keeps (RegWrite.store_keeps h)), (stepEnable_keeps (RegWrite.store_keeps h)), (keeps_ite (stepLimits_keeps (stepClampV_keeps (RegWrite.store_keeps h))) (stepClampV_keeps (RegWrite.store_keeps h))), (keeps_ite (stepLimits_keeps (RegWrite.store_keeps h)) (RegWrite.store_keeps h)), (keeps_ite (stepLimits_keeps (RegWrite.store_keeps h)) (RegWrite.store_keeps h)), (keeps_ite (wr_keeps (RegWrite.store_keeps h)) (RegWrite.store_keeps h)), (keeps_ite (keeps_ite (unfence_keeps h) h) (stepCtl_keeps h)), (keeps_ite (RegWrite.store_keeps h) (stepRefuse_keeps h)), (RegWrite.store_keeps h)]

theorem focWrite_keeps {z : State} {w : RegWrite} {s : State} (h : Keeps z s) : Keeps z (focWrite w s) :=
  (keeps_ite (RegWrite.store_keeps h) (keeps_ite (keeps_ite (RegWrite.store_keeps h) (evt_keeps h)) (keeps_ite
    (keeps_ite (keeps_ite (unfence_keeps h) h) (keeps_ite (RegWrite.store_keeps h) (focOff_keeps (RegWrite.store_keeps
    h)))) (RegWrite.store_keeps h))))

theorem busWrite_keeps {z : State} {w : RegWrite} {s : State} (h : Keeps z s) : Keeps z (busWrite w s) :=
  (keeps_ite (keeps_ite (RegWrite.store_keeps h) (evt_keeps h)) (keeps_ite (keeps_ite (keeps_ite (busUnfence_keeps h)
    h) (keeps_ite (wr_keeps (busBrake_keeps (RegWrite.store_keeps h))) (busBrake_keeps (RegWrite.store_keeps h))))
    (RegWrite.store_keeps h)))

theorem loopWrite_keeps {z : State} {w : RegWrite} {s : State} (h : Keeps z s) : Keeps z (loopWrite w s) :=
  (keeps_ite (loopCtl_keeps h) (RegWrite.store_keeps h))

theorem pioWrite_keeps {z : State} {w : RegWrite} {s : State} (h : Keeps z s) : Keeps z (pioWrite w s) :=
  (keeps_ite (keeps_ite (wr_keeps (RegWrite.store_keeps h)) (RegWrite.store_keeps h)) (keeps_ite (hvJudge_keeps
    (RegWrite.store_keeps h)) (keeps_ite (keeps_ite h (ageCtl_keeps (RegWrite.store_keeps h))) (keeps_ite (calGo_keeps
    (RegWrite.store_keeps h)) (RegWrite.store_keeps h)))))

theorem gpioRegWrite_keeps {z : State} {w : RegWrite} {s : State} (h : Keeps z s) : Keeps z (gpioRegWrite w s) :=
  (keeps_ite (gpioWrite_keeps h) (keeps_ite (gpioSet_keeps h) (keeps_ite (gpioClr_keeps h) (RegWrite.store_keeps h))))

theorem blockWrite_keeps {z : State} {w : RegWrite} {s : State} (h : Keeps z s) : Keeps z (blockWrite w s) := by
  have e := Eq.refl @blockWrite; conv_rhs at e => delta blockWrite
  rw [e]
  (try dsimp only)
  split <;> (try dsimp only)
  exacts [(dieWrite_keeps h), (ctrlWrite_keeps h), (txnWrite_keeps h), (rstWrite_keeps h), (seqWrite_keeps h), (thermWrite_keeps h), (nvsWrite_keeps h), (laneWrite_keeps h), (rlnkWrite_keeps h), (elnkWrite_keeps h), (timeWrite_keeps h), (memcWrite_keeps h), (dmaWrite_keeps h), (codecWrite_keeps h), (frameWrite_keeps h), (staWrite_keeps h), (stimWrite_keeps h), (shlWrite_keeps h), (sprotWrite_keeps h), (cueWrite_keeps h), (stepWrite_keeps h), (focWrite_keeps h), (busWrite_keeps h), (loopWrite_keeps h), (pioWrite_keeps h), (gpioRegWrite_keeps h), (RegWrite.store_keeps h)]

theorem registerWrite_keeps {z : State} {w : RegWrite} {s : State} (h : Keeps z s) : Keeps z (registerWrite w s) :=
  (keeps_ite (keeps_ite (headerWriteFenced_keeps h) (headerWrite_keeps h)) (keeps_ite (RegWrite.storeClears_keeps h)
    (by (try dsimp only); split <;> (try dsimp only); exacts [(keeps_ite h (blockWrite_keeps h)), (blockWrite_keeps
    h)])))

theorem acceptedWrite_keeps {z : State} {a : Sys2Proof.Access} {d : Nat} {o : Nat} {x : Nat} {v : Sys2Proof.Word} {s :
    State} (h : Keeps z s) : Keeps z (acceptedWrite a d o x v s) :=
  (keeps_ite (accErr_keeps h) (keeps_ite (keeps_ite (accErr_keeps h) (keeps_ite h (windowWrite_keeps h)))
    (by (try dsimp only); split <;> (try dsimp only); exacts [h, (keeps_ite h (keeps_ite (accErr_keeps h)
    (registerWrite_keeps h)))])))

theorem landWrite_keeps {z : State} {rq : Sys2Proof.Requester} {d : Nat} {s : State} (h : Keeps z s) : Keeps z
    (landWrite rq d s) :=
  (Keeps.update h)

theorem regWrite_keeps {z : State} {a : Sys2Proof.Access} {off : Nat} {v : Sys2Proof.Word} {be : Nat} {s : State} (h :
    Keeps z s) : Keeps z (regWrite a off v be s) :=
  (keeps_ite h (keeps_ite (accErr_keeps (landWrite_keeps h)) (keeps_ite (accErr_keeps (onlyIf_keeps (fun _ h1 =>
    (privViolation_keeps h1)) (landWrite_keeps h))) (keeps_ite (keeps_ite (accErr_keeps (onlyIf_keeps (fun _ h1 =>
    (privViolation_keeps h1)) (landWrite_keeps h))) (onlyIf_keeps (fun _ h1 => (privViolation_keeps h1))
    (landWrite_keeps h))) (acceptedWrite_keeps (onlyIf_keeps (fun _ h1 => (privViolation_keeps h1)) (landWrite_keeps
    h)))))))

end Sys2Proof.Machine
end

