-- ==== Sys2Proof/Laws/KeepsWrites.lean ====
section
/-! SUPPORT. What every operation of Writes keeps. -/

namespace Sys2Proof.Machine

theorem commandRead_keeps {z : State} {ok : Bool} {a : Sys2Proof.Access} {off : Nat} {s : State} (h : Keeps z s) :
    KeepsO z (commandRead ok a off s) :=
  (.next (keeps_ite (readBack_keeps h) h))

theorem commandWrite_keeps {z : State} {ok : Bool} {a : Sys2Proof.Access} {off : Nat} {v : Sys2Proof.Word} {s : State}
    (h : Keeps z s) : KeepsO z (commandWrite ok a off v s) :=
  (.next (keeps_ite (regWrite_keeps h) h))

theorem tapFail_keeps {z : State} {s : State} (h : Keeps z s) : Keeps z (tapFail s) :=
  (Keeps.update h)

theorem execAccessTimeout_keeps {z : State} {a : Sys2Proof.Access} {off : Nat} {write : Bool} {s : State} (h : Keeps z
    s) : KeepsO z (execAccessTimeout a off write s) :=
  (keepsO_ite (.next h) (.next (keeps_ite (tapFail_keeps (recordFault_keeps (keeps_ite (accErr_keeps (keeps_ite
    (landWrite_keeps h) (Keeps.update h))) (wr_keeps (wr_keeps (accErr_keeps (keeps_ite (landWrite_keeps h)
    (Keeps.update h)))))))) (recordFault_keeps (keeps_ite (accErr_keeps (keeps_ite (landWrite_keeps h) (Keeps.update
    h))) (wr_keeps (wr_keeps (accErr_keeps (keeps_ite (landWrite_keeps h) (Keeps.update h))))))))))

theorem execAgeRestore_keeps {z : State} {a : Sys2Proof.Access} {k : Nat} {v : Sys2Proof.Word} {s : State} (h : Keeps
    z s) : KeepsO z (execAgeRestore a k v s) :=
  (commandWrite_keeps h)

theorem execAgeSave_keeps {z : State} {a : Sys2Proof.Access} {k : Nat} {v : Sys2Proof.Word} {s : State} (h : Keeps z
    s) : KeepsO z (execAgeSave a k v s) :=
  (commandWrite_keeps h)

theorem execBusUnfence_keeps {z : State} {a : Sys2Proof.Access} {d : Nat} {b : Nat} {v : Sys2Proof.Word} {s : State}
    (h : Keeps z s) : KeepsO z (execBusUnfence a d b v s) :=
  (commandWrite_keeps h)

theorem execCalLoad_keeps {z : State} {a : Sys2Proof.Access} {d : Nat} {v : Sys2Proof.Word} {s : State} (h : Keeps z
    s) : KeepsO z (execCalLoad a d v s) :=
  (commandWrite_keeps h)

theorem execChopBadClear_keeps {z : State} {a : Sys2Proof.Access} {d : Nat} {b : Nat} {v : Sys2Proof.Word} {s : State}
    (h : Keeps z s) : KeepsO z (execChopBadClear a d b v s) :=
  (commandWrite_keeps h)

theorem execCkptNow_keeps {z : State} {a : Sys2Proof.Access} {k : Nat} {v : Sys2Proof.Word} {s : State} (h : Keeps z
    s) : KeepsO z (execCkptNow a k v s) :=
  (commandWrite_keeps h)

theorem execCodecLaneUnfence_keeps {z : State} {a : Sys2Proof.Access} {d : Nat} {v : Sys2Proof.Word} {s : State} (h :
    Keeps z s) : KeepsO z (execCodecLaneUnfence a d v s) :=
  (commandWrite_keeps h)

theorem execCueArm_keeps {z : State} {a : Sys2Proof.Access} {d : Nat} {v : Sys2Proof.Word} {s : State} (h : Keeps z s)
    : KeepsO z (execCueArm a d v s) :=
  (commandWrite_keeps h)

theorem execCueDisarm_keeps {z : State} {a : Sys2Proof.Access} {d : Nat} {v : Sys2Proof.Word} {s : State} (h : Keeps z
    s) : KeepsO z (execCueDisarm a d v s) :=
  (commandWrite_keeps h)

theorem execCueUnfence_keeps {z : State} {a : Sys2Proof.Access} {d : Nat} {v : Sys2Proof.Word} {s : State} (h : Keeps
    z s) : KeepsO z (execCueUnfence a d v s) :=
  (commandWrite_keeps h)

theorem execDmaAbort_keeps {z : State} {a : Sys2Proof.Access} {d : Nat} {n : Nat} {v : Sys2Proof.Word} {s : State} (h
    : Keeps z s) : KeepsO z (execDmaAbort a d n v s) :=
  (commandWrite_keeps h)

theorem execDmaEnable_keeps {z : State} {a : Sys2Proof.Access} {d : Nat} {n : Nat} {v : Sys2Proof.Word} {s : State} (h
    : Keeps z s) : KeepsO z (execDmaEnable a d n v s) :=
  (commandWrite_keeps h)

theorem execDmaKick_keeps {z : State} {a : Sys2Proof.Access} {d : Nat} {n : Nat} {v : Sys2Proof.Word} {s : State} (h :
    Keeps z s) : KeepsO z (execDmaKick a d n v s) :=
  (commandWrite_keeps h)

theorem execDmaUnfence_keeps {z : State} {a : Sys2Proof.Access} {d : Nat} {n : Nat} {v : Sys2Proof.Word} {s : State}
    (h : Keeps z s) : KeepsO z (execDmaUnfence a d n v s) :=
  (commandWrite_keeps h)

theorem execEvtForce_keeps {z : State} {a : Sys2Proof.Access} {d : Nat} {p : Nat} {v : Sys2Proof.Word} {s : State} (h
    : Keeps z s) : KeepsO z (execEvtForce a d p v s) :=
  (commandWrite_keeps h)

theorem execEyeScanGo_keeps {z : State} {a : Sys2Proof.Access} {d : Nat} {n : Nat} {v : Sys2Proof.Word} {s : State} (h
    : Keeps z s) : KeepsO z (execEyeScanGo a d n v s) :=
  (commandWrite_keeps h)

theorem execEyeScanStop_keeps {z : State} {a : Sys2Proof.Access} {d : Nat} {n : Nat} {v : Sys2Proof.Word} {s : State}
    (h : Keeps z s) : KeepsO z (execEyeScanStop a d n v s) :=
  (commandWrite_keeps h)

theorem execFenceRead_keeps {z : State} {a : Sys2Proof.Access} {d : Nat} {s : State} (h : Keeps z s) : KeepsO z
    (execFenceRead a d s) :=
  (commandRead_keeps h)

theorem execFenceReq_keeps {z : State} {a : Sys2Proof.Access} {d : Nat} {p : Nat} {v : Sys2Proof.Word} {s : State} (h
    : Keeps z s) : KeepsO z (execFenceReq a d p v s) :=
  (commandWrite_keeps h)

theorem execFltForce_keeps {z : State} {a : Sys2Proof.Access} {d : Nat} {p : Nat} {v : Sys2Proof.Word} {s : State} (h
    : Keeps z s) : KeepsO z (execFltForce a d p v s) :=
  (commandWrite_keeps h)

theorem execFocUnfence_keeps {z : State} {a : Sys2Proof.Access} {d : Nat} {n : Nat} {v : Sys2Proof.Word} {s : State}
    (h : Keeps z s) : KeepsO z (execFocUnfence a d n v s) :=
  (commandWrite_keeps h)

theorem execFrameAbort_keeps {z : State} {a : Sys2Proof.Access} {v : Sys2Proof.Word} {s : State} (h : Keeps z s) :
    KeepsO z (execFrameAbort a v s) :=
  (commandWrite_keeps h)

theorem execFrameRelease_keeps {z : State} {a : Sys2Proof.Access} {v : Sys2Proof.Word} {s : State} (h : Keeps z s) :
    KeepsO z (execFrameRelease a v s) :=
  (commandWrite_keeps h)

theorem execFrameSubmit_keeps {z : State} {a : Sys2Proof.Access} {v : Sys2Proof.Word} {s : State} (h : Keeps z s) :
    KeepsO z (execFrameSubmit a v s) :=
  (commandWrite_keeps h)

theorem execFrcLoRead_keeps {z : State} {a : Sys2Proof.Access} {d : Nat} {s : State} (h : Keeps z s) : KeepsO z
    (execFrcLoRead a d s) :=
  (commandRead_keeps h)

theorem execFreedFsnRead_keeps {z : State} {a : Sys2Proof.Access} {s : State} (h : Keeps z s) : KeepsO z
    (execFreedFsnRead a s) :=
  (commandRead_keeps h)

theorem execFuseBurn_keeps {z : State} {a : Sys2Proof.Access} {v : Sys2Proof.Word} {s : State} (h : Keeps z s) :
    KeepsO z (execFuseBurn a v s) :=
  (commandWrite_keeps h)

theorem execFuseLock_keeps {z : State} {a : Sys2Proof.Access} {v : Sys2Proof.Word} {s : State} (h : Keeps z s) :
    KeepsO z (execFuseLock a v s) :=
  (commandWrite_keeps h)

theorem execGpioClr_keeps {z : State} {a : Sys2Proof.Access} {d : Nat} {v : Sys2Proof.Word} {s : State} (h : Keeps z
    s) : KeepsO z (execGpioClr a d v s) :=
  (commandWrite_keeps h)

theorem execGpioSet_keeps {z : State} {a : Sys2Proof.Access} {d : Nat} {v : Sys2Proof.Word} {s : State} (h : Keeps z
    s) : KeepsO z (execGpioSet a d v s) :=
  (commandWrite_keeps h)

theorem execHeadcfgSend_keeps {z : State} {a : Sys2Proof.Access} {k : Nat} {v : Sys2Proof.Word} {s : State} (h : Keeps
    z s) : KeepsO z (execHeadcfgSend a k v s) :=
  (commandWrite_keeps h)

theorem execJobAbort_keeps {z : State} {a : Sys2Proof.Access} {d : Nat} {v : Sys2Proof.Word} {s : State} (h : Keeps z
    s) : KeepsO z (execJobAbort a d v s) :=
  (commandWrite_keeps h)

theorem execJobSubmit_keeps {z : State} {a : Sys2Proof.Access} {d : Nat} {bg : Bool} {v : Sys2Proof.Word} {s : State}
    (h : Keeps z s) : KeepsO z (execJobSubmit a d bg v s) :=
  (commandWrite_keeps h)

theorem execLaneRetrain_keeps {z : State} {a : Sys2Proof.Access} {d : Nat} {n : Nat} {v : Sys2Proof.Word} {s : State}
    (h : Keeps z s) : KeepsO z (execLaneRetrain a d n v s) :=
  (commandWrite_keeps h)

theorem execLogSnap_keeps {z : State} {a : Sys2Proof.Access} {v : Sys2Proof.Word} {s : State} (h : Keeps z s) : KeepsO
    z (execLogSnap a v s) :=
  (commandWrite_keeps h)

theorem execLoopAuto_keeps {z : State} {a : Sys2Proof.Access} {d : Nat} {v : Sys2Proof.Word} {s : State} (h : Keeps z
    s) : KeepsO z (execLoopAuto a d v s) :=
  (commandWrite_keeps h)

theorem execLoopDisable_keeps {z : State} {a : Sys2Proof.Access} {d : Nat} {v : Sys2Proof.Word} {s : State} (h : Keeps
    z s) : KeepsO z (execLoopDisable a d v s) :=
  (commandWrite_keeps h)

theorem execLoopEnable_keeps {z : State} {a : Sys2Proof.Access} {d : Nat} {v : Sys2Proof.Word} {s : State} (h : Keeps
    z s) : KeepsO z (execLoopEnable a d v s) :=
  (commandWrite_keeps h)

theorem execLoopManual_keeps {z : State} {a : Sys2Proof.Access} {d : Nat} {v : Sys2Proof.Word} {s : State} (h : Keeps
    z s) : KeepsO z (execLoopManual a d v s) :=
  (commandWrite_keeps h)

theorem execLoopUnfence_keeps {z : State} {a : Sys2Proof.Access} {d : Nat} {v : Sys2Proof.Word} {s : State} (h : Keeps
    z s) : KeepsO z (execLoopUnfence a d v s) :=
  (commandWrite_keeps h)

theorem execLtLoRead_keeps {z : State} {a : Sys2Proof.Access} {d : Nat} {s : State} (h : Keeps z s) : KeepsO z
    (execLtLoRead a d s) :=
  (commandRead_keeps h)

theorem execMarkCaptureRead_keeps {z : State} {a : Sys2Proof.Access} {d : Nat} {m : Nat} {s : State} (h : Keeps z s) :
    KeepsO z (execMarkCaptureRead a d m s) :=
  (commandRead_keeps h)

theorem execMemInit_keeps {z : State} {a : Sys2Proof.Access} {d : Nat} {v : Sys2Proof.Word} {s : State} (h : Keeps z
    s) : KeepsO z (execMemInit a d v s) :=
  (commandWrite_keeps h)

theorem execMtNsRead_keeps {z : State} {a : Sys2Proof.Access} {s : State} (h : Keeps z s) : KeepsO z (execMtNsRead a
    s) :=
  (commandRead_keeps h)

theorem execNvWrite_keeps {z : State} {a : Sys2Proof.Access} {d : Nat} {off : Nat} {v : Sys2Proof.Word} {be : Nat} {s
    : State} (h : Keeps z s) : KeepsO z (execNvWrite a d off v be s) :=
  (.next (regWrite_keeps h))

theorem execPageEnable_keeps {z : State} {a : Sys2Proof.Access} {d : Nat} {p : Nat} {v : Sys2Proof.Word} {s : State}
    (h : Keeps z s) : KeepsO z (execPageEnable a d p v s) :=
  (commandWrite_keeps h)

theorem execPageSrst_keeps {z : State} {a : Sys2Proof.Access} {d : Nat} {p : Nat} {v : Sys2Proof.Word} {s : State} (h
    : Keeps z s) : KeepsO z (execPageSrst a d p v s) :=
  (commandWrite_keeps h)

theorem execPathClear_keeps {z : State} {a : Sys2Proof.Access} {p : Nat} {v : Sys2Proof.Word} {s : State} (h : Keeps z
    s) : KeepsO z (execPathClear a p v s) :=
  (commandWrite_keeps h)

theorem execPathEnable_keeps {z : State} {a : Sys2Proof.Access} {p : Nat} {v : Sys2Proof.Word} {s : State} (h : Keeps
    z s) : KeepsO z (execPathEnable a p v s) :=
  (commandWrite_keeps h)

theorem execPathResume_keeps {z : State} {a : Sys2Proof.Access} {p : Nat} {v : Sys2Proof.Word} {s : State} (h : Keeps
    z s) : KeepsO z (execPathResume a p v s) :=
  (commandWrite_keeps h)

theorem execPathStop_keeps {z : State} {a : Sys2Proof.Access} {p : Nat} {v : Sys2Proof.Word} {s : State} (h : Keeps z
    s) : KeepsO z (execPathStop a p v s) :=
  (commandWrite_keeps h)

theorem execPkgWatchdogKick_keeps {z : State} {a : Sys2Proof.Access} {v : Sys2Proof.Word} {s : State} (h : Keeps z s)
    : KeepsO z (execPkgWatchdogKick a v s) :=
  (commandWrite_keeps h)

theorem execPosAdj_keeps {z : State} {a : Sys2Proof.Access} {d : Nat} {v : Sys2Proof.Word} {s : State} (h : Keeps z s)
    : KeepsO z (execPosAdj a d v s) :=
  (commandWrite_keeps h)

theorem execPosLoRead_keeps {z : State} {a : Sys2Proof.Access} {d : Nat} {c : Nat} {s : State} (h : Keeps z s) :
    KeepsO z (execPosLoRead a d c s) :=
  (commandRead_keeps h)

theorem execPurgeFsnRead_keeps {z : State} {a : Sys2Proof.Access} {s : State} (h : Keeps z s) : KeepsO z
    (execPurgeFsnRead a s) :=
  (commandRead_keeps h)

theorem execPwrReq_keeps {z : State} {a : Sys2Proof.Access} {d : Nat} {p : Nat} {v : Sys2Proof.Word} {s : State} (h :
    Keeps z s) : KeepsO z (execPwrReq a d p v s) :=
  (commandWrite_keeps h)

theorem execRailClear_keeps {z : State} {a : Sys2Proof.Access} {v : Sys2Proof.Word} {s : State} (h : Keeps z s) :
    KeepsO z (execRailClear a v s) :=
  (commandWrite_keeps h)

theorem execRailRequest_keeps {z : State} {a : Sys2Proof.Access} {v : Sys2Proof.Word} {s : State} (h : Keeps z s) :
    KeepsO z (execRailRequest a v s) :=
  (commandWrite_keeps h)

theorem execRearm_keeps {z : State} {a : Sys2Proof.Access} {k : Nat} {v : Sys2Proof.Word} {s : State} (h : Keeps z s)
    : KeepsO z (execRearm a k v s) :=
  (commandWrite_keeps h)

theorem execRegisterWrite_keeps {z : State} {a : Sys2Proof.Access} {off : Nat} {v : Sys2Proof.Word} {be : Nat} {s :
    State} (h : Keeps z s) : KeepsO z (execRegisterWrite a off v be s) :=
  (.next (regWrite_keeps h))

theorem execReprint_keeps {z : State} {a : Sys2Proof.Access} {v : Sys2Proof.Word} {s : State} (h : Keeps z s) : KeepsO
    z (execReprint a v s) :=
  (commandWrite_keeps h)

theorem execResDeclare_keeps {z : State} {a : Sys2Proof.Access} {d : Nat} {v : Sys2Proof.Word} {s : State} (h : Keeps
    z s) : KeepsO z (execResDeclare a d v s) :=
  (commandWrite_keeps h)

theorem execResurvey_keeps {z : State} {a : Sys2Proof.Access} {d : Nat} {v : Sys2Proof.Word} {s : State} (h : Keeps z
    s) : KeepsO z (execResurvey a d v s) :=
  (commandWrite_keeps h)

theorem execRlRouteChange_keeps {z : State} {a : Sys2Proof.Access} {d : Nat} {v : Sys2Proof.Word} {s : State} (h :
    Keeps z s) : KeepsO z (execRlRouteChange a d v s) :=
  (commandWrite_keeps h)

theorem execRxKick_keeps {z : State} {a : Sys2Proof.Access} {p : Nat} {v : Sys2Proof.Word} {s : State} (h : Keeps z s)
    : KeepsO z (execRxKick a p v s) :=
  (commandWrite_keeps h)

theorem execSoftwareReset_keeps {z : State} {a : Sys2Proof.Access} {d : Nat} {v : Sys2Proof.Word} {s : State} (h :
    Keeps z s) : KeepsO z (execSoftwareReset a d v s) :=
  (commandWrite_keeps h)

theorem execSpoilLogRead_keeps {z : State} {a : Sys2Proof.Access} {s : State} (h : Keeps z s) : KeepsO z
    (execSpoilLogRead a s) :=
  (commandRead_keeps h)

theorem execStepGo_keeps {z : State} {a : Sys2Proof.Access} {d : Nat} {n : Nat} {v : Sys2Proof.Word} {s : State} (h :
    Keeps z s) : KeepsO z (execStepGo a d n v s) :=
  (commandWrite_keeps h)

theorem execStepQstop_keeps {z : State} {a : Sys2Proof.Access} {d : Nat} {n : Nat} {v : Sys2Proof.Word} {s : State} (h
    : Keeps z s) : KeepsO z (execStepQstop a d n v s) :=
  (commandWrite_keeps h)

theorem execStepStop_keeps {z : State} {a : Sys2Proof.Access} {d : Nat} {n : Nat} {v : Sys2Proof.Word} {s : State} (h
    : Keeps z s) : KeepsO z (execStepStop a d n v s) :=
  (commandWrite_keeps h)

theorem execStepUnfence_keeps {z : State} {a : Sys2Proof.Access} {d : Nat} {n : Nat} {v : Sys2Proof.Word} {s : State}
    (h : Keeps z s) : KeepsO z (execStepUnfence a d n v s) :=
  (commandWrite_keeps h)

theorem execTimeAdj_keeps {z : State} {a : Sys2Proof.Access} {v : Sys2Proof.Word} {s : State} (h : Keeps z s) : KeepsO
    z (execTimeAdj a v s) :=
  (commandWrite_keeps h)

theorem execTimeIncr_keeps {z : State} {a : Sys2Proof.Access} {v : Sys2Proof.Word} {s : State} (h : Keeps z s) :
    KeepsO z (execTimeIncr a v s) :=
  (commandWrite_keeps h)

theorem execTimeSet_keeps {z : State} {a : Sys2Proof.Access} {v : Sys2Proof.Word} {s : State} (h : Keeps z s) : KeepsO
    z (execTimeSet a v s) :=
  (commandWrite_keeps h)

theorem execTrimSetSend_keeps {z : State} {a : Sys2Proof.Access} {k : Nat} {v : Sys2Proof.Word} {s : State} (h : Keeps
    z s) : KeepsO z (execTrimSetSend a k v s) :=
  (commandWrite_keeps h)

theorem execTxKick_keeps {z : State} {a : Sys2Proof.Access} {p : Nat} {v : Sys2Proof.Word} {s : State} (h : Keeps z s)
    : KeepsO z (execTxKick a p v s) :=
  (commandWrite_keeps h)

theorem execTxnAbort_keeps {z : State} {a : Sys2Proof.Access} {d : Nat} {i : Nat} {v : Sys2Proof.Word} {s : State} (h
    : Keeps z s) : KeepsO z (execTxnAbort a d i v s) :=
  (commandWrite_keeps h)

theorem execTxnArm_keeps {z : State} {a : Sys2Proof.Access} {d : Nat} {i : Nat} {v : Sys2Proof.Word} {s : State} (h :
    Keeps z s) : KeepsO z (execTxnArm a d i v s) :=
  (commandWrite_keeps h)

theorem execTxnClear_keeps {z : State} {a : Sys2Proof.Access} {d : Nat} {i : Nat} {v : Sys2Proof.Word} {s : State} (h
    : Keeps z s) : KeepsO z (execTxnClear a d i v s) :=
  (commandWrite_keeps h)

theorem execUnfence_keeps {z : State} {a : Sys2Proof.Access} {d : Nat} {p : Nat} {v : Sys2Proof.Word} {s : State} (h :
    Keeps z s) : KeepsO z (execUnfence a d p v s) :=
  (commandWrite_keeps h)

theorem execWatchdogKick_keeps {z : State} {a : Sys2Proof.Access} {d : Nat} {v : Sys2Proof.Word} {s : State} (h :
    Keeps z s) : KeepsO z (execWatchdogKick a d v s) :=
  (commandWrite_keeps h)

theorem execXtxnAbort_keeps {z : State} {a : Sys2Proof.Access} {v : Sys2Proof.Word} {s : State} (h : Keeps z s) :
    KeepsO z (execXtxnAbort a v s) :=
  (commandWrite_keeps h)

theorem execXtxnGo_keeps {z : State} {a : Sys2Proof.Access} {v : Sys2Proof.Word} {s : State} (h : Keeps z s) : KeepsO
    z (execXtxnGo a v s) :=
  (commandWrite_keeps h)

end Sys2Proof.Machine
end

