-- ==== Sys2Proof/Laws/KeepsBoot.lean ====
section
/-! SUPPORT. What every operation of Boot keeps. -/

namespace Sys2Proof.Machine

theorem bootAdvance_keeps {z : State} {b : List Sys2Proof.Byte} {s : State} (h : Keeps z s) : Keeps z (bootAdvance b
    s) :=
  (Keeps.update h)

theorem bootFail_keeps {z : State} {code : Nat} {at0 : Nat} {s : State} (h : Keeps z s) : Keeps z (bootFail code at0
    s) :=
  (evt_keeps (keeps_ite (wr_keeps (wr_keeps (wr_keeps (wr_keeps h)))) (wr_keeps (wr_keeps (wr_keeps h)))))

theorem imageRead_keeps {z : State} {o : Nat} {n : Nat} {s : State} (h : Keeps z s) : Keeps z (imageRead o n s).2.2 :=
  (keeps_ite2 (nvReadChecked_keeps h) h)

theorem bootRecord_keeps {z : State} {type : Nat} {f : List Sys2Proof.Byte → State → State} {s : State} (hf : ∀ b t,
    Keeps z t → Keeps z (f b t)) (h : Keeps z s) : KeepsO z (bootRecord type f s) :=
  (keepsO_ite (.next h) (keepsO_ite (.next (bootFail_keeps (imageRead_keeps h))) (keepsO_ite (.next (bootFail_keeps
    h)) (keepsO_ite (.next (bootFail_keeps (imageRead_keeps h))) (keepsO_ite (.next h) (.next (hf _ _ h)))))))

theorem execBootCheckPass_keeps {z : State} {s : State} (h : Keeps z s) : KeepsO z (execBootCheckPass s) :=
  (keepsO_ite (.next h) (keepsO_ite (.next (bootFail_keeps (imageRead_keeps h))) (keepsO_ite (.next (bootFail_keeps
    (imageRead_keeps h))) (keepsO_ite (.next (bootFail_keeps h)) (.next (wr_keeps (Keeps.update h)))))))

theorem execBootDelay_keeps {z : State} {s : State} (h : Keeps z s) : KeepsO z (execBootDelay s) :=
  (bootRecord_keeps (fun _ _ h => (bootAdvance_keeps h).update) h)

theorem execBootEnd_keeps {z : State} {s : State} (h : Keeps z s) : KeepsO z (execBootEnd s) :=
  (bootRecord_keeps (fun _ _ h => keeps_ite (bootFail_keeps (imageRead_keeps h)) (keeps_ite (bootFail_keeps h)
    (evt_keeps (wr_keeps h)))) h)

theorem execBootMasked_keeps {z : State} {s : State} (h : Keeps z s) : KeepsO z (execBootMasked s) :=
  (bootRecord_keeps (fun _ _ h => regWrite_keeps (readReg_keeps (bootAdvance_keeps h))) h)

theorem execBootPoll_keeps {z : State} {s : State} (h : Keeps z s) : KeepsO z (execBootPoll s) :=
  (bootRecord_keeps (fun _ _ h => keeps_ite (bootAdvance_keeps (readReg_keeps h)) (keeps_ite (readReg_keeps h).update
    (readReg_keeps h))) h)

theorem execBootPollTimeout_keeps {z : State} {s : State} (h : Keeps z s) : KeepsO z (execBootPollTimeout s) :=
  (bootRecord_keeps (fun _ _ h => by split; exacts [keeps_ite (bootFail_keeps h) h, h]) h)

theorem tableWrites_keeps {z : State} {x0 : Nat} {x1 : List Sys2Proof.Byte} {x2 : Nat} {x3 : State} (h : Keeps z x3) :
    Keeps z (tableWrites x0 x1 x2 x3) := by
  fun_induction tableWrites x0 x1 x2 x3 <;> first | exact Keeps.update (by assumption) | grind [regWrite_keeps]

theorem execBootTable_keeps {z : State} {s : State} (h : Keeps z s) : KeepsO z (execBootTable s) :=
  (bootRecord_keeps (fun _ _ h => tableWrites_keeps (bootAdvance_keeps h)) h)

theorem execBootWrite_keeps {z : State} {s : State} (h : Keeps z s) : KeepsO z (execBootWrite s) :=
  (bootRecord_keeps (fun _ _ h => regWrite_keeps (bootAdvance_keeps h)) h)

end Sys2Proof.Machine
end

