-- ==== Sys2Proof/Laws/KeepsFiring.lean ====
section
/-! SUPPORT. What every operation of Firing keeps. -/

namespace Sys2Proof.Machine

theorem execLedStrobe_keeps {z : State} {k : Nat} {s : State} (h : Keeps z s) : KeepsO z (execLedStrobe k s) :=
  (keepsO_ite (.next h) (by (try dsimp only); split <;> (try dsimp only); exacts [(.next (holdCheck_keeps
    (fixStop_keeps h))), (keepsO_ite (.next h) (.next (strobeFalls_keeps (commitOnEdge_keeps (fixStop_keeps h)))))]))

theorem execLgoEdge_keeps {z : State} {k : Nat} {s : State} (h : Keeps z s) : KeepsO z (execLgoEdge k s) := by
  have e := Eq.refl @execLgoEdge; conv_rhs at e => delta execLgoEdge
  rw [e]
  (try dsimp only)
  split <;> (try dsimp only)
  exacts [(.next h), (keepsO_ite (.next h) (.next (lgoFalls_keeps (commitOnEdge_keeps h))))]

end Sys2Proof.Machine
end

