-- ==== Sys2Proof/Laws/KeepsJtag.lean ====
section
/-! SUPPORT. What every operation of Jtag keeps. -/

namespace Sys2Proof.Machine

theorem setTap_keeps {z : State} {d : Nat} {x1 : Tap} {s : State} (h : Keeps z s) : Keeps z (setTap d x1 s) :=
  (Keeps.update h)

theorem holdDie_keeps {z : State} {d : Nat} {s : State} (h : Keeps z s) : Keeps z (holdDie d s) :=
  (keeps_ite h (keeps_ite (keeps_ite (warmPackage_keeps h) (setRelease_keeps (warmPackage_keeps h))) (warmDie_keeps
    h)))

theorem tapTake_keeps {z : State} {d : Nat} {ir : Nat} {s : State} (h : Keeps z s) : Keeps z (tapTake d ir s) :=
  (keeps_ite h (keeps_ite (holdDie_keeps (setTap_keeps h)) (keeps_ite (setRelease_keeps (setTap_keeps h))
    (setTap_keeps h))))

theorem execJtagBypass_keeps {z : State} {d : Nat} {code : Nat} {s : State} (h : Keeps z s) : KeepsO z (execJtagBypass
    d code s) :=
  (keepsO_ite (.next h) (.next (tapTake_keeps h)))

theorem tapHold_keeps {z : State} {d : Nat} {ir : Nat} {held : Bool} {s : State} (h : Keeps z s) : Keeps z (tapHold d
    ir held s) :=
  (keeps_ite (tapTake_keeps h) (keeps_ite (tapTake_keeps h) h))

theorem execJtagClamp_keeps {z : State} {d : Nat} {held : Bool} {s : State} (h : Keeps z s) : KeepsO z (execJtagClamp
    d held s) :=
  (.next (tapHold_keeps h))

theorem execJtagDbgAccess_keeps {z : State} {d : Nat} {off : Nat} {v : Sys2Proof.Word} {write : Bool} {s : State} (h :
    Keeps z s) : KeepsO z (execJtagDbgAccess d off v write s) :=
  (keepsO_ite (.next h) (keepsO_ite (.next (setTap_keeps (drawFree_keeps (regWrite_keeps (tapTake_keeps h))))) (.next
    (Keeps.update (setTap_keeps (readReg_keeps (tapTake_keeps h)))))))

theorem execJtagDbgReset_keeps {z : State} {d : Nat} {s : State} (h : Keeps z s) : KeepsO z (execJtagDbgReset d s) :=
  (keepsO_ite (.next h) (.next (warmReset_keeps (tapTake_keeps h))))

theorem execJtagExtest_keeps {z : State} {d : Nat} {held : Bool} {s : State} (h : Keeps z s) : KeepsO z
    (execJtagExtest d held s) :=
  (.next (tapHold_keeps h))

theorem execJtagHighz_keeps {z : State} {d : Nat} {held : Bool} {s : State} (h : Keeps z s) : KeepsO z (execJtagHighz
    d held s) :=
  (.next (tapHold_keeps h))

theorem execJtagIdcode_keeps {z : State} {d : Nat} {s : State} (h : Keeps z s) : KeepsO z (execJtagIdcode d s) :=
  (keepsO_ite (.next h) (.next (Keeps.update (tapTake_keeps h))))

theorem execJtagSamplePreload_keeps {z : State} {d : Nat} {s : State} (h : Keeps z s) : KeepsO z
    (execJtagSamplePreload d s) :=
  (.next (tapTake_keeps h))

theorem execTapReset_keeps {z : State} {s : State} (h : Keeps z s) : KeepsO z (execTapReset s) :=
  (.next (Keeps.update (foldl_keeps (fun _ _ h1 => (tapTake_keeps h1)) h)))

end Sys2Proof.Machine
end

