-- ==== Sys2Proof/Laws/TouchesBlocks.lean ====
section
/-! SUPPORT. Which fields of the state every operation of Blocks may change. -/

namespace Sys2Proof.Machine

theorem setBond_touches {z : State} {msk : Nat} {i : Nat} {v : Bond} {s : State} (hm : Sub 0x10000000000000000000 msk)
    (h : Touches msk z s) : Touches msk z (setBond i v s) :=
  (Touches.upD_bonds (hm.of rfl) h)

theorem setLane_touches {z : State} {msk : Nat} {d : Nat} {n : Nat} {v : Lane} {s : State} (hm : Sub
    0x2000000000000000000 msk) (h : Touches msk z s) : Touches msk z (setLane d n v s) :=
  (Touches.upD_lanes (hm.of rfl) h)

theorem invalidHeader_touches {z : State} {msk : Nat} {d : Nat} {n : Nat} {s : State} (hm : Sub 0x1800000041004 msk)
    (h : Touches msk z s) : Touches msk z (invalidHeader d n s) :=
  (recordFault_touches (hm.of rfl) (bump_touches (hm.of rfl) h))

theorem loopBack_touches {z : State} {msk : Nat} {d : Nat} {n : Nat} {bits : List Bool} {s : State} (hm : Sub
    0x2000001800000041004 msk) (h : Touches msk z s) : Touches msk z (loopBack d n bits s) :=
  (touches_ite (bumpBy_touches (hm.of rfl) (setLane_touches (hm.of rfl) h)) (touches_ite (invalidHeader_touches (hm.of
    rfl) (setLane_touches (hm.of rfl) h)) (setLane_touches (hm.of rfl) h)))

theorem laneWire_touches {z : State} {msk : Nat} {d : Nat} {n : Nat} {bits : List Bool} {s : State} (hm : Sub
    0x2000001800000041004 msk) (h : Touches msk z s) : Touches msk z (laneWire d n bits s) :=
  (onlyIf_touches (fun _ h1 => (loopBack_touches (hm.of rfl) h1)) (setLane_touches (hm.of rfl) h))

theorem openBits_touches {z : State} {msk : Nat} {s : State} (hm : Sub 0x4000 msk) (h : Touches msk z s) : Touches msk
    z (openBits s).2 :=
  (drawFree_touches (hm.of rfl) (drawFree_touches (hm.of rfl) (drawFree_touches (hm.of rfl) h)))

theorem fillRead_touches {z : State} {msk : Nat} {d : Nat} {n : Nat} {s : State} (hm : Sub 0x4 msk) (h : Touches msk z
    s) : Touches msk z (fillRead d n s) :=
  (wr_touches (hm.of rfl) h)

theorem laneSlot_touches {z : State} {msk : Nat} {d : Nat} {n : Nat} {b : Block} {s : State} (hm : Sub
    0x2000001800000045004 msk) (h : Touches msk z s) : Touches msk z (laneSlot d n b s) :=
  (touches_ite (setLane_touches (hm.of rfl) h) (touches_ite (laneWire_touches (hm.of rfl) (setLane_touches (hm.of rfl)
    h)) (touches_ite (laneWire_touches (hm.of rfl) (openBits_touches (hm.of rfl) h)) (fillRead_touches (hm.of rfl)
    (laneWire_touches (hm.of rfl) (setLane_touches (hm.of rfl) h))))))

theorem bondSlot_touches {z : State} {msk : Nat} {i : Nat} {s : State} (hm : Sub 0x12000001800000045004 msk) (h :
    Touches msk z s) : Touches msk z (bondSlot i s) :=
  (foldl_touches (fun _ _ h1 => (laneSlot_touches (hm.of rfl) h1)) (setBond_touches (hm.of rfl) h))

theorem bondTick_touches {z : State} {msk : Nat} {i : Nat} {s : State} (hm : Sub 0x12000001800000045004 msk) (h :
    Touches msk z s) : Touches msk z (bondTick i s) := by
  have e := Eq.refl @bondTick; conv at e => rhs; delta bondTick
  rw [e]
  (try dsimp only)
  split <;> (try dsimp only)
  exacts [h, (touches_ite (setBond_touches (hm.of rfl) h) (bondSlot_touches (hm.of rfl) (setBond_touches (hm.of rfl) h)))]

theorem laneTick_touches {z : State} {msk : Nat} {d : Nat} {n : Nat} {s : State} (hm : Sub 0x2000001800000045004 msk)
    (h : Touches msk z s) : Touches msk z (laneTick d n s) :=
  (touches_ite h (touches_ite (setLane_touches (hm.of rfl) h) (laneSlot_touches (hm.of rfl) (setLane_touches (hm.of
    rfl) h))))

theorem linkTick_touches {z : State} {msk : Nat} {s : State} (hm : Sub 0x12000001800000045004 msk) (h : Touches msk z
    s) : Touches msk z (linkTick s) :=
  (foldl_touches (fun _ _ h1 => (laneTick_touches (hm.of rfl) h1)) (foldl_touches (fun _ _ h1 => (bondTick_touches
    (hm.of rfl) h1)) h))

theorem streamPacket_touches {z : State} {msk : Nat} {i : Nat} {b : List Sys2Proof.Byte} {s : State} (hm : Sub
    0x10000000000000000000 msk) (h : Touches msk z s) : Touches msk z (streamPacket i b s) :=
  (touches_ite h (setBond_touches (hm.of rfl) h))

end Sys2Proof.Machine
end

