-- ==== Sys2Proof/Laws/TouchesHeadTx.lean ====
section
/-! SUPPORT. Which fields of the state every operation of HeadTx may change. -/

namespace Sys2Proof.Machine

theorem showCredits_touches {z : State} {msk : Nat} {k : Nat} {s : State} (hm : Sub 0x4 msk) (h : Touches msk z s) :
    Touches msk z (showCredits k s) :=
  (wr_touches (hm.of rfl) (wr_touches (hm.of rfl) h))

theorem setHead_touches {z : State} {msk : Nat} {k : Nat} {v : HeadLink} {s : State} (hm : Sub 0x8000000000000000000
    msk) (h : Touches msk z s) : Touches msk z (setHead k v s) :=
  (Touches.upD_headLinks (hm.of rfl) h)

theorem closeSession_touches {z : State} {msk : Nat} {k : Nat} {s : State} (hm : Sub 0x8000000000000000004 msk) (h :
    Touches msk z s) : Touches msk z (closeSession k s) :=
  (showCredits_touches (hm.of rfl) (wr_touches (hm.of rfl) (setHead_touches (hm.of rfl) h)))

theorem headOut_touches {z : State} {msk : Nat} {k : Nat} {psn : Nat} {p : HeadPkt} {s : State} (hm : Sub
    0x10000000000000001000 msk) (h : Touches msk z s) : Touches msk z (headOut k psn p s) :=
  (streamPacket_touches (hm.of rfl) (Touches.upD_sent (hm.of rfl) h))

theorem headSendNow_touches {z : State} {msk : Nat} {k : Nat} {p : HeadPkt} {s : State} (hm : Sub
    0x18000000000000001004 msk) (h : Touches msk z s) : Touches msk z (headSendNow k p s) :=
  (showCredits_touches (hm.of rfl) (wr_touches (hm.of rfl) (setHead_touches (hm.of rfl) (headOut_touches (hm.of rfl)
    h))))

theorem headPumpFrom_touches {z : State} {msk : Nat} {k : Nat} {x1 : List HeadPkt} {lb : Bool} {cb : Bool} {x4 :
    State} (hm : Sub 0x18000000000000001004 msk) (h : Touches msk z x4) : Touches msk z (headPumpFrom k x1 lb cb x4) := by
  have h0 : Sub 0x8000000000000000000 msk := hm.of rfl
  have h1 : Sub 0x18000000000000001004 msk := hm.of rfl
  fun_induction headPumpFrom k x1 lb cb x4 <;> grind [setHead_touches, headSendNow_touches]

theorem headPump_touches {z : State} {msk : Nat} {k : Nat} {s : State} (hm : Sub 0x18000000000000001004 msk) (h :
    Touches msk z s) : Touches msk z (headPump k s) :=
  (headPumpFrom_touches (hm.of rfl) (setHead_touches (hm.of rfl) h))

theorem headSend_touches {z : State} {msk : Nat} {k : Nat} {ps : List HeadPkt} {s : State} (hm : Sub
    0x18000000000000001004 msk) (h : Touches msk z s) : Touches msk z (headSend k ps s) :=
  (headPump_touches (hm.of rfl) (setHead_touches (hm.of rfl) h))

theorem sendLintab_touches {z : State} {msk : Nat} {k : Nat} {s : State} (hm : Sub 0x18000000000000001004 msk) (h :
    Touches msk z s) : Touches msk z (sendLintab k s) :=
  (touches_ite h (headSend_touches (hm.of rfl) (wr_touches (hm.of rfl) h)))

theorem setSta_touches {z : State} {msk : Nat} {k : Nat} {v : Station} {s : State} (hm : Sub 0x40000000000000 msk) (h
    : Touches msk z s) : Touches msk z (setSta k v s) :=
  (Touches.upD_stations (hm.of rfl) h)

theorem enterRun_touches {z : State} {msk : Nat} {k : Nat} {s : State} (hm : Sub 0x18000040000000001004 msk) (h :
    Touches msk z s) : Touches msk z (enterRun k s) :=
  (sendLintab_touches (hm.of rfl) (evt_touches (hm.of rfl) (wr_touches (hm.of rfl) (setSta_touches (hm.of rfl) h))))

theorem linChanged_touches {z : State} {msk : Nat} {k : Nat} {old : State} {s : State} (hm : Sub
    0x18000000000000001004 msk) (h : Touches msk z s) : Touches msk z (linChanged k old s) :=
  (touches_ite h (sendLintab_touches (hm.of rfl) h))

end Sys2Proof.Machine
end

