-- ==== Sys2Proof/Laws/TouchesBonds.lean ====
section
/-! SUPPORT. Which fields of the state every operation of Bonds may change. -/

namespace Sys2Proof.Machine

theorem bondLost_touches {z : State} {msk : Nat} {i : Nat} {s : State} (hm : Sub 0x10000000000000001004 msk) (h :
    Touches msk z s) : Touches msk z (bondLost i s) :=
  (touches_ite (touches_ite (evt_touches (hm.of rfl) (wr_touches (hm.of rfl) (setBond_touches (hm.of rfl) h)))
    (wr_touches (hm.of rfl) (setBond_touches (hm.of rfl) h))) h)

theorem bondLaneDown_touches {z : State} {msk : Nat} {d : Nat} {n : Nat} {s : State} (hm : Sub 0x10000000000000001004
    msk) (h : Touches msk z s) : Touches msk z (bondLaneDown d n s) :=
  (touches_ite (bondLost_touches (hm.of rfl) (setBond_touches (hm.of rfl) h)) h)

theorem rasterSend_touches {z : State} {msk : Nat} {d : Nat} {type : Nat} {body : List Nat} {s : State} (hm : Sub
    0x10000000000000001000 msk) (h : Touches msk z s) : Touches msk z (rasterSend d type body s) :=
  (streamPacket_touches (hm.of rfl) (Touches.upD_sent (hm.of rfl) h))

theorem sendAck_touches {z : State} {msk : Nat} {d : Nat} {init : Nat} {psn : Nat} {s : State} (hm : Sub
    0x10000000000000001000 msk) (h : Touches msk z s) : Touches msk z (sendAck d init psn s) :=
  (rasterSend_touches (hm.of rfl) h)

theorem bondUp_touches {z : State} {msk : Nat} {i : Nat} {s : State} (hm : Sub 0x18000000000000001004 msk) (h :
    Touches msk z s) : Touches msk z (bondUp i s) :=
  (touches_ite (touches_ite (sendAck_touches (hm.of rfl) (evt_touches (hm.of rfl) (wr_touches (hm.of rfl)
    (setBond_touches (hm.of rfl) h)))) (evt_touches (hm.of rfl) (wr_touches (hm.of rfl) (setBond_touches (hm.of rfl)
    h)))) (headPump_touches (hm.of rfl) (wr_touches (hm.of rfl) (setBond_touches (hm.of rfl) h))))

theorem setRaster_touches {z : State} {msk : Nat} {d : Nat} {v : Raster} {s : State} (hm : Sub 0x4000000000000000000
    msk) (h : Touches msk z s) : Touches msk z (setRaster d v s) :=
  (Touches.upD_rasters (hm.of rfl) h)

theorem closeRaster_touches {z : State} {msk : Nat} {d : Nat} {s : State} (hm : Sub 0x4000000000000000004 msk) (h :
    Touches msk z s) : Touches msk z (closeRaster d s) :=
  (wr_touches (hm.of rfl) (setRaster_touches (hm.of rfl) h))

theorem execAlignmentMarker_touches {z : State} {msk : Nat} {d : Nat} {n : Nat} {body : List Sys2Proof.Byte} {gap :
    Nat} {skew : Nat} {s : State} (hm : Sub 0x18000000000000001004 msk) (h : Touches msk z s) : TouchesO msk z
    (execAlignmentMarker d n body gap skew s) := by
  have e := Eq.refl @execAlignmentMarker; conv at e => rhs; delta execAlignmentMarker
  rw [e]
  (try dsimp only)
  split <;> (try dsimp only)
  exacts [(.next h), (touchesO_ite (.next h) (.next (touches_ite (touches_ite (setBond_touches (hm.of rfl) h) (bondLost_touches (hm.of rfl) (setBond_touches (hm.of rfl) h))) (touches_ite (bondUp_touches (hm.of rfl) (setBond_touches (hm.of rfl) h)) (setBond_touches (hm.of rfl) h)))))]

theorem execBondAlignTimeout_touches {z : State} {msk : Nat} {d : Nat} {s : State} (hm : Sub 0x10000000000000001004
    msk) (h : Touches msk z s) : TouchesO msk z (execBondAlignTimeout d s) :=
  (touchesO_ite (.next (evt_touches (hm.of rfl) (setBond_touches (hm.of rfl) h))) (.next h))

theorem showHeadBond_touches {z : State} {msk : Nat} {k : Nat} {st : Nat} {lanes : List Nat} {s : State} (hm : Sub 0x4
    msk) (h : Touches msk z s) : Touches msk z (showHeadBond k st lanes s) :=
  (wr_touches (hm.of rfl) (wr_touches (hm.of rfl) (wr_touches (hm.of rfl) h)))

theorem headForm_touches {z : State} {msk : Nat} {k : Nat} {s : State} (hm : Sub 0x10000000000000001004 msk) (h :
    Touches msk z s) : Touches msk z (headForm k s) :=
  (touches_ite (touches_ite (wr_touches (hm.of rfl) h) h) (touches_ite (evt_touches (hm.of rfl) (touches_ite
    (showHeadBond_touches (hm.of rfl) (setBond_touches (hm.of rfl) h)) (wr_touches (hm.of rfl) (showHeadBond_touches
    (hm.of rfl) (setBond_touches (hm.of rfl) h))))) (touches_ite (showHeadBond_touches (hm.of rfl) (setBond_touches
    (hm.of rfl) h)) (wr_touches (hm.of rfl) (showHeadBond_touches (hm.of rfl) (setBond_touches (hm.of rfl) h))))))

theorem rasterForm_touches {z : State} {msk : Nat} {d : Nat} {s : State} (hm : Sub 0x10000000000000001004 msk) (h :
    Touches msk z s) : Touches msk z (rasterForm d s) :=
  (touches_ite (wr_touches (hm.of rfl) (setBond_touches (hm.of rfl) (touches_ite (evt_touches (hm.of rfl) h) h)))
    (touches_ite (wr_touches (hm.of rfl) (setBond_touches (hm.of rfl) (touches_ite (evt_touches (hm.of rfl) h) h)))
    (wr_touches (hm.of rfl) (wr_touches (hm.of rfl) (wr_touches (hm.of rfl) (wr_touches (hm.of rfl) (setBond_touches
    (hm.of rfl) (touches_ite (evt_touches (hm.of rfl) h) h))))))))

theorem rasterFence_touches {z : State} {msk : Nat} {d : Nat} {s : State} (hm : Sub 0x1400000180000004b004 msk) (h :
    Touches msk z s) : Touches msk z (rasterFence d s) :=
  (touches_ite h (rasterForm_touches (hm.of rfl) (closeRaster_touches (hm.of rfl) (addFence_touches (hm.of rfl) h))))

theorem sendCredit_touches {z : State} {msk : Nat} {d : Nat} {init : Nat} {s : State} (hm : Sub 0x14000000000000001000
    msk) (h : Touches msk z s) : Touches msk z (sendCredit d init s) :=
  (rasterSend_touches (hm.of rfl) (setRaster_touches (hm.of rfl) h))

theorem regrant_touches {z : State} {msk : Nat} {d : Nat} {s : State} (hm : Sub 0x14000000000000001000 msk) (h :
    Touches msk z s) : Touches msk z (regrant d s) :=
  (touches_ite h (sendCredit_touches (hm.of rfl) (setRaster_touches (hm.of rfl) h)))

theorem sendNak_touches {z : State} {msk : Nat} {d : Nat} {s : State} (hm : Sub 0x14000000000000001004 msk) (h :
    Touches msk z s) : Touches msk z (sendNak d s) :=
  (bump_touches (hm.of rfl) (rasterSend_touches (hm.of rfl) (setRaster_touches (hm.of rfl) h)))

theorem spareTakeover_touches {z : State} {msk : Nat} {k : Nat} {s : State} (hm : Sub 0x1004 msk) (h : Touches msk z
    s) : Touches msk z (spareTakeover k s) := by
  have e := Eq.refl @spareTakeover; conv at e => rhs; delta spareTakeover
  rw [e]
  (try dsimp only)
  split <;> (try dsimp only)
  exacts [(evt_touches (hm.of rfl) (wr_touches (hm.of rfl) (wr_touches (hm.of rfl) h))), h]

end Sys2Proof.Machine
end

