-- ==== Sys2Proof/Laws/TouchesPageMem.lean ====
section
/-! SUPPORT. Which fields of the state every operation of PageMem may change. -/

namespace Sys2Proof.Machine

theorem memErrRec_touches {z : State} {msk : Nat} {kind : Nat} {agent : Nat} {a : Nat} {s : State} (hm : Sub 0x1004
    msk) (h : Touches msk z s) : Touches msk z (memErrRec kind agent a s) :=
  (touches_ite h (evt_touches (hm.of rfl) (putWord_touches (hm.of rfl) (wr_touches (hm.of rfl) h))))

theorem healBlocks_touches {z : State} {msk : Nat} {a : Nat} {n : Nat} {s : State} (hm : Sub 0x200000000 msk) (h :
    Touches msk z s) : Touches msk z (healBlocks a n s) :=
  (Touches.upD_badBlocks (hm.of rfl) h)

theorem agentWrite_touches {z : State} {msk : Nat} {agent : Nat} {a : Nat} {bs : List Sys2Proof.Byte} {s : State} (hm
    : Sub 0x20000100c msk) (h : Touches msk z s) : Touches msk z (agentWrite agent a bs s).2 := by
  have e := Eq.refl @agentWrite; conv at e => rhs; delta agentWrite
  rw [e]
  (try dsimp only)
  split <;> (try dsimp only)
  exacts [(memErrRec_touches (hm.of rfl) h), (memWrite_touches (hm.of rfl) (healBlocks_touches (hm.of rfl) h))]

theorem agentPut_touches {z : State} {msk : Nat} {agent : Nat} {a : Nat} {bs : List Sys2Proof.Byte} {s : State} (hm :
    Sub 0x20000100c msk) (h : Touches msk z s) : Touches msk z (agentPut agent a bs s) :=
  (agentWrite_touches (hm.of rfl) h)

theorem uncorrectable_touches {z : State} {msk : Nat} {agent : Nat} {block : Nat} {s : State} (hm : Sub
    0x1800000041004 msk) (h : Touches msk z s) : Touches msk z (uncorrectable agent block s) := by
  have e := Eq.refl @uncorrectable; conv at e => rhs; delta uncorrectable
  rw [e]
  exact (memErrRec_touches (hm.of rfl) (recordFault_touches (hm.of rfl) (bump_touches (hm.of rfl) h)))

theorem agentRead_touches {z : State} {msk : Nat} {agent : Nat} {a : Nat} {n : Nat} {s : State} (hm : Sub
    0x1800000041004 msk) (h : Touches msk z s) : Touches msk z (agentRead agent a n s).2 := by
  have e := Eq.refl @agentRead; conv at e => rhs; delta agentRead
  rw [e]
  (try dsimp only)
  split <;> (try dsimp only)
  exacts [(memErrRec_touches (hm.of rfl) h), (by (try dsimp only); split <;> (try dsimp only); exacts [(uncorrectable_touches (hm.of rfl) h), h])]

theorem corrected_touches {z : State} {msk : Nat} {d : Nat} {s : State} (hm : Sub 0x1800000041004 msk) (h : Touches
    msk z s) : Touches msk z (corrected d s) :=
  (recordFault_touches (hm.of rfl) (bump_touches (hm.of rfl) h))

end Sys2Proof.Machine
end

