-- ==== Sys2Proof/Laws/TouchesDma.lean ====
section
/-! SUPPORT. Which fields of the state every operation of Dma may change. -/

namespace Sys2Proof.Machine

theorem dmaTable_touches {z : State} {msk : Nat} {q : DmaDesc} {s : State} (hm : Sub 0x1800000041004 msk) (h : Touches
    msk z s) : Touches msk z (dmaTable q s).2.2 :=
  (touches_ite2 h (touches_ite2 h (by (try dsimp only); split <;> (try dsimp only); exacts [(Touches.ofPair (by
    assumption) (agentRead_touches (hm.of rfl) h)), (Touches.ofPair (by assumption) (agentRead_touches (hm.of rfl)
    h)), (Touches.ofPair (by assumption) (agentRead_touches (hm.of rfl) h))])))

theorem dmaCheck_touches {z : State} {msk : Nat} {q : DmaDesc} {s : State} (hm : Sub 0x1800000041004 msk) (h : Touches
    msk z s) : Touches msk z (dmaCheck q s).2.2 :=
  (touches_ite2 h (touches_ite2 (dmaTable_touches (hm.of rfl) h) (dmaTable_touches (hm.of rfl) h)))

theorem setDma_touches {z : State} {msk : Nat} {d : Nat} {n : Nat} {c : DmaCh} {s : State} (hm : Sub 0x800000000 msk)
    (h : Touches msk z s) : Touches msk z (setDma d n c s) :=
  (Touches.upD_dmas (hm.of rfl) h)

theorem dmaSettle_touches {z : State} {msk : Nat} {d : Nat} {n : Nat} {s : State} (hm : Sub 0x800000000 msk) (h :
    Touches msk z s) : Touches msk z (dmaSettle d n s) :=
  (setDma_touches (hm.of rfl) h)

theorem dmaWriteBack_touches {z : State} {msk : Nat} {d : Nat} {n : Nat} {addr : Nat} {status : Nat} {desc : List
    Sys2Proof.Byte} {s : State} (hm : Sub 0x20000102c msk) (h : Touches msk z s) : Touches msk z (dmaWriteBack d n addr
    status desc s).2 :=
  (touches_ite1 (hostPut_touches (hm.of rfl) (hostPut_touches (hm.of rfl) h))
    (by (try dsimp only); split <;> (try dsimp only); exacts [(agentWrite_touches (hm.of rfl) (Touches.ofPair (by
    assumption) (agentWrite_touches (hm.of rfl) h))), (Touches.ofPair (by assumption) (agentWrite_touches (hm.of rfl)
    h))]))

theorem dmaDrop_touches {z : State} {msk : Nat} {d : Nat} {n : Nat} {s : State} (hm : Sub 0x800000000 msk) (h :
    Touches msk z s) : Touches msk z (dmaDrop d n s) :=
  (setDma_touches (hm.of rfl) (dmaSettle_touches (hm.of rfl) h))

theorem dmaStop_touches {z : State} {msk : Nat} {d : Nat} {n : Nat} {s : State} (hm : Sub 0x1800800041004 msk) (h :
    Touches msk z s) : Touches msk z (dmaStop d n s) :=
  (evt_touches (hm.of rfl) (recordFault_touches (hm.of rfl) (dmaDrop_touches (hm.of rfl) (wr_touches (hm.of rfl)
    (wr_touches (hm.of rfl) h)))))

theorem dmaEnd_touches {z : State} {msk : Nat} {d : Nat} {n : Nat} {status : Nat} {busErr : Bool} {s : State} (hm :
    Sub 0x1800a0004102c msk) (h : Touches msk z s) : Touches msk z (dmaEnd d n status busErr s) :=
  (touches_ite (dmaStop_touches (hm.of rfl) (touches_ite h (dmaWriteBack_touches (hm.of rfl) h))) (wr_touches (hm.of
    rfl) (onlyIf_touches (fun _ h1 => (evt_touches (hm.of rfl) h1)) (touches_ite (evt_touches (hm.of rfl)
    (recordFault_touches (hm.of rfl) (bump_touches (hm.of rfl) (bump_touches (hm.of rfl) (wr_touches (hm.of rfl)
    (wr_touches (hm.of rfl) (dmaDrop_touches (hm.of rfl) (dmaWriteBack_touches (hm.of rfl) h)))))))) (bump_touches
    (hm.of rfl) (wr_touches (hm.of rfl) (wr_touches (hm.of rfl) (dmaDrop_touches (hm.of rfl) (dmaWriteBack_touches
    (hm.of rfl) h)))))))))

theorem freeBytes_touches {z : State} {msk : Nat} {x0 : Nat} {x1 : State} (hm : Sub 0x4000 msk) (h : Touches msk z x1)
    : Touches msk z (freeBytes x0 x1).2 := by
  have h0 : Sub 0x4000 msk := hm.of rfl
  fun_induction freeBytes x0 x1 <;> grind [drawFree_touches]

theorem dmaUndefined_touches {z : State} {msk : Nat} {x0 : List (Bool × Nat × Nat)} {x1 : State} (hm : Sub 0x4028 msk)
    (h : Touches msk z x1) : Touches msk z (dmaUndefined x0 x1) := by
  have h0 : Sub 0x8 msk := hm.of rfl
  have h1 : Sub 0x20 msk := hm.of rfl
  have h2 : Sub 0x4000 msk := hm.of rfl
  fun_induction dmaUndefined x0 x1 <;> grind [freeBytes_touches, hostWrite_touches, memWrite_touches]

theorem dmaBegin_touches {z : State} {msk : Nat} {d : Nat} {n : Nat} {a : Nat} {b : List Sys2Proof.Byte} {s : State}
    (hm : Sub 0x1800a0004502c msk) (h : Touches msk z s) : Touches msk z (dmaBegin d n a b s) :=
  (touches_ite (setDma_touches (hm.of rfl) (dmaSettle_touches (hm.of rfl) (dmaCheck_touches (hm.of rfl) h)))
    (dmaEnd_touches (hm.of rfl) (onlyIf_touches (fun _ h1 => (dmaUndefined_touches (hm.of rfl) h1)) (setDma_touches
    (hm.of rfl) (dmaSettle_touches (hm.of rfl) (dmaCheck_touches (hm.of rfl) h))))))

theorem dmaCtl_touches {z : State} {msk : Nat} {d : Nat} {n : Nat} {enBefore : Bool} {v : Nat} {s : State} (hm : Sub
    0x1800a0004502c msk) (h : Touches msk z s) : Touches msk z (dmaCtl d n enBefore v s) :=
  (touches_ite (by (try dsimp only); split <;> (try dsimp only); exacts [(dmaEnd_touches (hm.of rfl)
    (dmaUndefined_touches (hm.of rfl) (wr_touches (hm.of rfl) (touches_ite (wr_touches (hm.of rfl) (touches_ite
    (wr_touches (hm.of rfl) (wr_touches (hm.of rfl) h)) (touches_ite (wr_touches (hm.of rfl) h) h))) (touches_ite
    (wr_touches (hm.of rfl) (wr_touches (hm.of rfl) h)) (touches_ite (wr_touches (hm.of rfl) h) h)))))), (wr_touches
    (hm.of rfl) (wr_touches (hm.of rfl) (touches_ite (wr_touches (hm.of rfl) (touches_ite (wr_touches (hm.of rfl)
    (wr_touches (hm.of rfl) h)) (touches_ite (wr_touches (hm.of rfl) h) h))) (touches_ite (wr_touches (hm.of rfl)
    (wr_touches (hm.of rfl) h)) (touches_ite (wr_touches (hm.of rfl) h) h)))))]) (touches_ite (wr_touches (hm.of rfl)
    (touches_ite (wr_touches (hm.of rfl) (wr_touches (hm.of rfl) h)) (touches_ite (wr_touches (hm.of rfl) h) h)))
    (touches_ite (wr_touches (hm.of rfl) (wr_touches (hm.of rfl) h)) (touches_ite (wr_touches (hm.of rfl) h) h))))

theorem dmaFenced_touches {z : State} {msk : Nat} {d : Nat} {n : Nat} {s : State} (hm : Sub 0x800000004 msk) (h :
    Touches msk z s) : Touches msk z (dmaFenced d n s) :=
  (wr_touches (hm.of rfl) (dmaDrop_touches (hm.of rfl) (touches_ite (bump_touches (hm.of rfl) (wr_touches (hm.of rfl)
    (wr_touches (hm.of rfl) h))) (wr_touches (hm.of rfl) h))))

theorem dmaReadAll_touches {z : State} {msk : Nat} {x0 : List (Bool × Nat × Nat)} {x1 : State} (hm : Sub
    0x1800000041004 msk) (h : Touches msk z x1) : Touches msk z (dmaReadAll x0 x1).2.2 := by
  have h0 : Sub 0x1800000041004 msk := hm.of rfl
  fun_induction dmaReadAll x0 x1 <;> grind [agentRead_touches]

theorem dmaWriteAll_touches {z : State} {msk : Nat} {x0 : List ((Bool × Nat × Nat) × List Sys2Proof.Byte)} {x1 :
    State} (hm : Sub 0x20000102c msk) (h : Touches msk z x1) : Touches msk z (dmaWriteAll x0 x1).2 := by
  have h0 : Sub 0x20 msk := hm.of rfl
  have h1 : Sub 0x20000100c msk := hm.of rfl
  fun_induction dmaWriteAll x0 x1 <;> grind [hostWrite_touches, agentWrite_touches]

theorem dmaTransfer_touches {z : State} {msk : Nat} {q : DmaDesc} {tbl : List Nat} {hostErr : Bool} {s : State} (hm :
    Sub 0x180020004502c msk) (h : Touches msk z s) : Touches msk z (dmaTransfer q tbl hostErr s).2 :=
  (touches_ite1 (touches_ite1 (dmaWriteAll_touches (hm.of rfl) (dmaReadAll_touches (hm.of rfl) h))
    (dmaUndefined_touches (hm.of rfl) (dmaWriteAll_touches (hm.of rfl) (dmaReadAll_touches (hm.of rfl) h))))
    (dmaUndefined_touches (hm.of rfl) (dmaReadAll_touches (hm.of rfl) h)))

theorem execDmaDescriptorComplete_touches {z : State} {msk : Nat} {d : Nat} {n : Nat} {hostErr : Bool} {wbErr : Bool}
    {s : State} (hm : Sub 0x1800a0004502c msk) (h : Touches msk z s) : TouchesO msk z (execDmaDescriptorComplete d n
    hostErr wbErr s) := by
  have e := Eq.refl @execDmaDescriptorComplete; conv at e => rhs; delta execDmaDescriptorComplete
  rw [e]
  (try dsimp only)
  split <;> (try dsimp only)
  exacts [(touchesO_ite (touchesO_ite (.next h) (.next (dmaEnd_touches (hm.of rfl) (dmaTransfer_touches (hm.of rfl) h)))) (.next h)), (.next h)]

theorem execDmaDescriptorFetch_touches {z : State} {msk : Nat} {d : Nat} {n : Nat} {busErr : Bool} {s : State} (hm :
    Sub 0x1800a0004502c msk) (h : Touches msk z s) : TouchesO msk z (execDmaDescriptorFetch d n busErr s) :=
  (touchesO_ite (by (try dsimp only); split <;> (try dsimp only); exacts [(touchesO_ite (.next (dmaBegin_touches
    (hm.of rfl) (Touches.ofPair (by assumption) (touches_ite1 (touches_ite1 h h) (agentRead_touches (hm.of rfl) h)))))
    (.next (wr_touches (hm.of rfl) (Touches.ofPair (by assumption) (touches_ite1 (touches_ite1 h h) (agentRead_touches
    (hm.of rfl) h)))))), (.next (dmaStop_touches (hm.of rfl) (Touches.ofPair (by assumption) (touches_ite1
    (touches_ite1 h h) (agentRead_touches (hm.of rfl) h)))))]) (.next h))

end Sys2Proof.Machine
end

