-- ==== Sys2Proof/Laws/TouchesMemory.lean ====
section
/-! SUPPORT. Which fields of the state every operation of Memory may change. -/

namespace Sys2Proof.Machine

theorem bar4Answer_touches {z : State} {msk : Nat} {len : Nat} {r : MemRes} {s : State} (hm : Sub 0x4800 msk) (h :
    Touches msk z s) : Touches msk z (bar4Answer len r s) := by
  have e := Eq.refl @bar4Answer; conv at e => rhs; delta bar4Answer
  rw [e]
  (try dsimp only)
  split <;> (try dsimp only)
  exacts [(Touches.upD_resp (hm.of rfl) h), (Touches.upD_resp (hm.of rfl) h), (Touches.upD_resp (hm.of rfl) (freeBytes_touches (hm.of rfl) h))]

theorem putEnabled_touches {z : State} {msk : Nat} {x0 : Nat} {x1 : List Sys2Proof.Byte} {x2 : List Bool} {x3 : State}
    (hm : Sub 0x8 msk) (h : Touches msk z x3) : Touches msk z (putEnabled x0 x1 x2 x3) := by
  have h0 : Sub 0x8 msk := hm.of rfl
  fun_induction putEnabled x0 x1 x2 x3 <;> grind [memPut_touches]

theorem bar4Store_touches {z : State} {msk : Nat} {a : Nat} {bytes : List Sys2Proof.Byte} {en : List Bool} {ue : Bool}
    {s : State} (hm : Sub 0x200000008 msk) (h : Touches msk z s) : Touches msk z (bar4Store a bytes en ue s) :=
  (putEnabled_touches (hm.of rfl) (Touches.upD_badBlocks (hm.of rfl) h))

theorem bar4Put_touches {z : State} {msk : Nat} {refusal : Option Nat} {a : Nat} {bytes : List Sys2Proof.Byte} {en :
    List Bool} {ue : Bool} {s : State} (hm : Sub 0x20000100c msk) (h : Touches msk z s) : Touches msk z (bar4Put refusal
    a bytes en ue s) := by
  have e := Eq.refl @bar4Put; conv at e => rhs; delta bar4Put
  rw [e]
  (try dsimp only)
  split <;> (try dsimp only)
  exacts [(memErrRec_touches (hm.of rfl) h), (bar4Store_touches (hm.of rfl) h)]

theorem execBar4Read_touches {z : State} {msk : Nat} {off : Nat} {len : Nat} {ecc : Nat} {s : State} (hm : Sub
    0x1800200045804 msk) (h : Touches msk z s) : TouchesO msk z (execBar4Read off len ecc s) :=
  (.next (bar4Answer_touches (hm.of rfl) (agentRead_touches (hm.of rfl) (touches_ite (corrected_touches (hm.of rfl) h)
    (touches_ite (Touches.upD_badBlocks (hm.of rfl) h) h)))))

theorem execBar4Write_touches {z : State} {msk : Nat} {off : Nat} {bytes : List Sys2Proof.Byte} {en : List Bool} {ue :
    Bool} {s : State} (hm : Sub 0x20000100c msk) (h : Touches msk z s) : TouchesO msk z (execBar4Write off bytes en ue
    s) :=
  (.next (bar4Put_touches (hm.of rfl) h))

theorem setScrub_touches {z : State} {msk : Nat} {d : Nat} {v : Scrub} {s : State} (hm : Sub 0x1000000000 msk) (h :
    Touches msk z s) : Touches msk z (setScrub d v s) :=
  (Touches.upD_scrubs (hm.of rfl) h)

theorem execScrubRead_touches {z : State} {msk : Nat} {d : Nat} {res : Nat} {s : State} (hm : Sub 0x1801200041004 msk)
    (h : Touches msk z s) : TouchesO msk z (execScrubRead d res s) :=
  (touchesO_ite (touchesO_ite (.next (setScrub_touches (hm.of rfl) (touches_ite (evt_touches (hm.of rfl) (wr_touches
    (hm.of rfl) (touches_ite (corrected_touches (hm.of rfl) h) (touches_ite (uncorrectable_touches (hm.of rfl)
    (Touches.upD_badBlocks (hm.of rfl) h)) h)))) (touches_ite (corrected_touches (hm.of rfl) h) (touches_ite
    (uncorrectable_touches (hm.of rfl) (Touches.upD_badBlocks (hm.of rfl) h)) h))))) (.next (setScrub_touches (hm.of
    rfl) (bump_touches (hm.of rfl) (touches_ite (evt_touches (hm.of rfl) (wr_touches (hm.of rfl) (touches_ite
    (corrected_touches (hm.of rfl) h) (touches_ite (uncorrectable_touches (hm.of rfl) (Touches.upD_badBlocks (hm.of
    rfl) h)) h)))) (touches_ite (corrected_touches (hm.of rfl) h) (touches_ite (uncorrectable_touches (hm.of rfl)
    (Touches.upD_badBlocks (hm.of rfl) h)) h))))))) (.next h))

theorem memFitted_touches {z : State} {msk : Nat} {d : Nat} {s : State} (hm : Sub 0x4 msk) (h : Touches msk z s) :
    Touches msk z (memFitted d s) :=
  (wr_touches (hm.of rfl) h)

theorem memInit_touches {z : State} {msk : Nat} {d : Nat} {s : State} (hm : Sub 0x4 msk) (h : Touches msk z s) :
    Touches msk z (memInit d s) :=
  (touches_ite (wr_touches (hm.of rfl) h) h)

theorem memSelfRefresh_touches {z : State} {msk : Nat} {d : Nat} {s : State} (hm : Sub 0x4 msk) (h : Touches msk z s)
    : Touches msk z (memSelfRefresh d s) :=
  (touches_ite (wr_touches (hm.of rfl) h) h)

theorem memTrained_touches {z : State} {msk : Nat} {d : Nat} {s : State} (hm : Sub 0x400001004 msk) (h : Touches msk z
    s) : Touches msk z (memTrained d s) :=
  (evt_touches (hm.of rfl) (Touches.upD_memTrained (hm.of rfl) (wr_touches (hm.of rfl) (wr_touches (hm.of rfl) h))))

theorem memWake_touches {z : State} {msk : Nat} {d : Nat} {s : State} (hm : Sub 0x4 msk) (h : Touches msk z s) :
    Touches msk z (memWake d s) :=
  (touches_ite (wr_touches (hm.of rfl) (wr_touches (hm.of rfl) h)) h)

end Sys2Proof.Machine
end

