-- ==== Sys2Proof/Laws/TouchesCodec.lean ====
section
/-! SUPPORT. Which fields of the state every operation of Codec may change. -/

namespace Sys2Proof.Machine

theorem setJobNext_touches {z : State} {msk : Nat} {d : Nat} {bg : Bool} {i : Nat} {s : State} (hm : Sub 0x4000000000
    msk) (h : Touches msk z s) : Touches msk z (setJobNext d bg i s) :=
  (Touches.upD_jobNext (hm.of rfl) h)

theorem advanceTail_touches {z : State} {msk : Nat} {d : Nat} {bg : Bool} {x2 : Nat} {x3 : State} (hm : Sub
    0xc000000004 msk) (h : Touches msk z x3) : Touches msk z (advanceTail d bg x2 x3) := by
  fun_induction advanceTail d bg x2 x3 <;> first
    | assumption
    | (apply_assumption; exact (wr_touches (hm.of rfl) (touches_ite (setJobNext_touches (hm.of rfl) (Touches.upD_jobEnded (hm.of rfl)
        (by assumption))) (Touches.upD_jobEnded (hm.of rfl) (by assumption)))))

theorem completeJob_touches {z : State} {msk : Nat} {d : Nat} {bg : Bool} {slot : Nat} {status : Nat} {tag : Nat}
    {done : Nat} {lines : Nat} {bytes : Nat} {fail : Nat} {reason : Nat} {s : State} (hm : Sub 0xc000001004 msk) (h :
    Touches msk z s) : Touches msk z (completeJob d bg slot status tag done lines bytes fail reason s) :=
  (advanceTail_touches (hm.of rfl) (Touches.upD_jobEnded (hm.of rfl) (evtMask_touches (hm.of rfl) (wr_touches (hm.of
    rfl) (putWord_touches (hm.of rfl) (putWord_touches (hm.of rfl) (putWord_touches (hm.of rfl) (putWord_touches
    (hm.of rfl) (putWord_touches (hm.of rfl) (putWord_touches (hm.of rfl) (putWord_touches (hm.of rfl)
    (putWord_touches (hm.of rfl) (putWord_touches (hm.of rfl) h)))))))))))))

theorem abortQueued_touches {z : State} {msk : Nat} {d : Nat} {tag : Nat} {bg : Bool} {x3 : List Nat} {x4 : State} (hm
    : Sub 0xc000001004 msk) (h : Touches msk z x4) : Touches msk z (abortQueued d tag bg x3 x4) := by
  have h0 : Sub 0xc000001004 msk := hm.of rfl
  fun_induction abortQueued d tag bg x3 x4 <;> grind [completeJob_touches]

theorem buffersUndefined_touches {z : State} {msk : Nat} {d : Nat} {list : Nat} {x2 : Nat} {buf : Nat} {pos : Nat} {x5
    : State} (hm : Sub 0x4008 msk) (h : Touches msk z x5) : Touches msk z (buffersUndefined d list x2 buf pos x5) := by
  have h0 : Sub 0x8 msk := hm.of rfl
  have h1 : Sub 0x4000 msk := hm.of rfl
  fun_induction buffersUndefined d list x2 buf pos x5 <;> grind [freeBytes_touches, memWrite_touches]

theorem setJob_touches {z : State} {msk : Nat} {d : Nat} {n : Nat} {j : Option Job} {s : State} (hm : Sub 0x2000000000
    msk) (h : Touches msk z s) : Touches msk z (setJob d n j s) :=
  (Touches.upD_jobs (hm.of rfl) h)

theorem endJob_touches {z : State} {msk : Nat} {d : Nat} {n : Nat} {status : Nat} {fail : Nat} {reason : Nat} {s :
    State} (hm : Sub 0xe00000500c msk) (h : Touches msk z s) : Touches msk z (endJob d n status fail reason s) := by
  have e := Eq.refl @endJob; conv at e => rhs; delta endJob
  rw [e]
  (try dsimp only)
  split <;> (try dsimp only)
  exacts [h, (completeJob_touches (hm.of rfl) (setJob_touches (hm.of rfl) (touches_ite h (buffersUndefined_touches (hm.of rfl) h))))]

theorem abortRunning_touches {z : State} {msk : Nat} {d : Nat} {tag : Nat} {x2 : List Nat} {x3 : State} (hm : Sub
    0xe00000500c msk) (h : Touches msk z x3) : Touches msk z (abortRunning d tag x2 x3) := by
  have h0 : Sub 0xe00000500c msk := hm.of rfl
  fun_induction abortRunning d tag x2 x3 <;> grind [endJob_touches]

theorem bufEntry_touches {z : State} {msk : Nat} {d : Nat} {list : Nat} {i : Nat} {s : State} (hm : Sub
    0x1800000041004 msk) (h : Touches msk z s) : Touches msk z (bufEntry d list i s).2 :=
  (touches_ite1 h (by (try dsimp only); split <;> (try dsimp only); exacts [(Touches.ofPair (by assumption)
    (agentRead_touches (hm.of rfl) h)), (Touches.ofPair (by assumption) (agentRead_touches (hm.of rfl) h)),
    (Touches.ofPair (by assumption) (agentRead_touches (hm.of rfl) h))]))

theorem streamStart_touches {z : State} {msk : Nat} {q : JobDesc} {j : Job} {s : State} (hm : Sub 0x4000 msk) (h :
    Touches msk z s) : Touches msk z (streamStart q j s).2 :=
  (touches_ite1 h (touches_ite1 (drawFree_touches (hm.of rfl) h) h))

theorem jobPut_touches {z : State} {msk : Nat} {d : Nat} {a : Nat} {bs : List Sys2Proof.Byte} {s : State} (hm : Sub
    0x20000100c msk) (h : Touches msk z s) : Touches msk z (jobPut d a bs s).2 :=
  (touches_ite1 h (agentWrite_touches (hm.of rfl) h))

theorem declareResident_touches {z : State} {msk : Nat} {d : Nat} {fsn : Nat} {l : Nat} {count : Nat} {s : State} (hm
    : Sub 0xc000000 msk) (h : Touches msk z s) : Touches msk z (declareResident d fsn l count s) := by
  have e := Eq.refl @declareResident; conv at e => rhs; delta declareResident
  rw [e]
  (try dsimp only)
  split <;> (try dsimp only)
  exacts [(setPlane_touches (hm.of rfl) h), (by (try dsimp only); split <;> (try dsimp only); exacts [(Touches.upD_decls (hm.of rfl) h), (Touches.upD_decls (hm.of rfl) h)])]

theorem jobDeclare_touches {z : State} {msk : Nat} {d : Nat} {q : JobDesc} {done : Nat} {s : State} (hm : Sub
    0xc000000 msk) (h : Touches msk z s) : Touches msk z (jobDeclare d q done s) :=
  (touches_ite (declareResident_touches (hm.of rfl) h) h)

theorem carryJobEnd_touches {z : State} {msk : Nat} {d : Nat} {n : Nat} {j : Job} {q : JobDesc} {s : State} (hm : Sub
    0xe20c00500c msk) (h : Touches msk z s) : Touches msk z (carryJobEnd d n j q s) :=
  (touches_ite (endJob_touches (hm.of rfl) (jobDeclare_touches (hm.of rfl) (touches_ite1 (jobPut_touches (hm.of rfl)
    (streamStart_touches (hm.of rfl) h)) h))) (endJob_touches (hm.of rfl) (touches_ite1 (jobPut_touches (hm.of rfl)
    (streamStart_touches (hm.of rfl) h)) h)))

theorem compFenced_touches {z : State} {msk : Nat} {d : Nat} {n : Nat} {s : State} (hm : Sub 0xe00000500c msk) (h :
    Touches msk z s) : Touches msk z (compFenced d n s) :=
  (endJob_touches (hm.of rfl) (evt_touches (hm.of rfl) h))

theorem wholePlace_touches {z : State} {msk : Nat} {d : Nat} {list : Nat} {align : Bool} {x3 : Nat} {buf : Nat} {pos :
    Nat} {n : Nat} {x7 : State} (hm : Sub 0x1800000041004 msk) (h : Touches msk z x7) : Touches msk z (wholePlace d list
    align x3 buf pos n x7).2 := by
  have h0 : Sub 0x1800000041004 msk := hm.of rfl
  fun_induction wholePlace d list align x3 buf pos n x7 <;> grind [bufEntry_touches]

theorem streamPlaces_touches {z : State} {msk : Nat} {d : Nat} {list : Nat} {x2 : Nat} {buf : Nat} {pos : Nat} {n :
    Nat} {x6 : State} (hm : Sub 0x1800000041004 msk) (h : Touches msk z x6) : Touches msk z (streamPlaces d list x2 buf
    pos n x6).2 := by
  have h0 : Sub 0x1800000041004 msk := hm.of rfl
  fun_induction streamPlaces d list x2 buf pos n x6 <;> grind [bufEntry_touches]

theorem writePieces_touches {z : State} {msk : Nat} {d : Nat} {x1 : List (Nat × Nat)} {x2 : List Sys2Proof.Byte} {x3 :
    State} (hm : Sub 0x20000100c msk) (h : Touches msk z x3) : Touches msk z (writePieces d x1 x2 x3).2 := by
  have h0 : Sub 0x20000100c msk := hm.of rfl
  fun_induction writePieces d x1 x2 x3 <;> grind [jobPut_touches]

theorem placeOutput_touches {z : State} {msk : Nat} {d : Nat} {n : Nat} {j : Job} {q : JobDesc} {lines : Nat} {out :
    List Sys2Proof.Byte} {carry : Bool} {s : State} (hm : Sub 0x180e20c04500c msk) (h : Touches msk z s) : Touches msk z
    (placeOutput d n j q lines out carry s) := by
  have e := Eq.refl @placeOutput; conv at e => rhs; delta placeOutput
  rw [e]
  (try dsimp only)
  split <;> (try dsimp only)
  exacts [(endJob_touches (hm.of rfl) (Touches.ofPair (by assumption) (touches_ite1 (wholePlace_touches (hm.of rfl) h) (streamPlaces_touches (hm.of rfl) h)))), (by (try dsimp only); split <;> (try dsimp only); exacts [(endJob_touches (hm.of rfl) (Touches.ofPair (by assumption) (writePieces_touches (hm.of rfl) (Touches.ofPair (by assumption) (touches_ite1 (wholePlace_touches (hm.of rfl) h) (streamPlaces_touches (hm.of rfl) h)))))), (touches_ite (endJob_touches (hm.of rfl) (touches_ite1 (jobPut_touches (hm.of rfl) (Touches.ofPair (by assumption) (writePieces_touches (hm.of rfl) (Touches.ofPair (by assumption) (touches_ite1 (wholePlace_touches (hm.of rfl) h) (streamPlaces_touches (hm.of rfl) h)))))) (Touches.ofPair (by assumption) (writePieces_touches (hm.of rfl) (Touches.ofPair (by assumption) (touches_ite1 (wholePlace_touches (hm.of rfl) h) (streamPlaces_touches (hm.of rfl) h))))))) (touches_ite (touches_ite (setJob_touches (hm.of rfl) (touches_ite1 (jobPut_touches (hm.of rfl) (Touches.ofPair (by assumption) (writePieces_touches (hm.of rfl) (Touches.ofPair (by assumption) (touches_ite1 (wholePlace_touches (hm.of rfl) h) (streamPlaces_touches (hm.of rfl) h)))))) (Touches.ofPair (by assumption) (writePieces_touches (hm.of rfl) (Touches.ofPair (by assumption) (touches_ite1 (wholePlace_touches (hm.of rfl) h) (streamPlaces_touches (hm.of rfl) h))))))) (jobDeclare_touches (hm.of rfl) (setJob_touches (hm.of rfl) (touches_ite1 (jobPut_touches (hm.of rfl) (Touches.ofPair (by assumption) (writePieces_touches (hm.of rfl) (Touches.ofPair (by assumption) (touches_ite1 (wholePlace_touches (hm.of rfl) h) (streamPlaces_touches (hm.of rfl) h)))))) (Touches.ofPair (by assumption) (writePieces_touches (hm.of rfl) (Touches.ofPair (by assumption) (touches_ite1 (wholePlace_touches (hm.of rfl) h) (streamPlaces_touches (hm.of rfl) h))))))))) (touches_ite (carryJobEnd_touches (hm.of rfl) (touches_ite (setJob_touches (hm.of rfl) (touches_ite1 (jobPut_touches (hm.of rfl) (Touches.ofPair (by assumption) (writePieces_touches (hm.of rfl) (Touches.ofPair (by assumption) (touches_ite1 (wholePlace_touches (hm.of rfl) h) (streamPlaces_touches (hm.of rfl) h)))))) (Touches.ofPair (by assumption) (writePieces_touches (hm.of rfl) (Touches.ofPair (by assumption) (touches_ite1 (wholePlace_touches (hm.of rfl) h) (streamPlaces_touches (hm.of rfl) h))))))) (jobDeclare_touches (hm.of rfl) (setJob_touches (hm.of rfl) (touches_ite1 (jobPut_touches (hm.of rfl) (Touches.ofPair (by assumption) (writePieces_touches (hm.of rfl) (Touches.ofPair (by assumption) (touches_ite1 (wholePlace_touches (hm.of rfl) h) (streamPlaces_touches (hm.of rfl) h)))))) (Touches.ofPair (by assumption) (writePieces_touches (hm.of rfl) (Touches.ofPair (by assumption) (touches_ite1 (wholePlace_touches (hm.of rfl) h) (streamPlaces_touches (hm.of rfl) h)))))))))) (endJob_touches (hm.of rfl) (touches_ite (setJob_touches (hm.of rfl) (touches_ite1 (jobPut_touches (hm.of rfl) (Touches.ofPair (by assumption) (writePieces_touches (hm.of rfl) (Touches.ofPair (by assumption) (touches_ite1 (wholePlace_touches (hm.of rfl) h) (streamPlaces_touches (hm.of rfl) h)))))) (Touches.ofPair (by assumption) (writePieces_touches (hm.of rfl) (Touches.ofPair (by assumption) (touches_ite1 (wholePlace_touches (hm.of rfl) h) (streamPlaces_touches (hm.of rfl) h))))))) (jobDeclare_touches (hm.of rfl) (setJob_touches (hm.of rfl) (touches_ite1 (jobPut_touches (hm.of rfl) (Touches.ofPair (by assumption) (writePieces_touches (hm.of rfl) (Touches.ofPair (by assumption) (touches_ite1 (wholePlace_touches (hm.of rfl) h) (streamPlaces_touches (hm.of rfl) h)))))) (Touches.ofPair (by assumption) (writePieces_touches (hm.of rfl) (Touches.ofPair (by assumption) (touches_ite1 (wholePlace_touches (hm.of rfl) h) (streamPlaces_touches (hm.of rfl) h)))))))))))))])]

theorem readDbf_touches {z : State} {msk : Nat} {a : Nat} {len : Nat} {stride : Nat} {left : Nat} {s : State} (hm :
    Sub 0x1800000041004 msk) (h : Touches msk z s) : Touches msk z (readDbf a len stride left s).2 := by
  have e := Eq.refl @readDbf; conv at e => rhs; delta readDbf
  rw [e]
  (try dsimp only)
  split <;> (try dsimp only)
  exacts [(Touches.ofPair (by assumption) (agentRead_touches (hm.of rfl) h)), (Touches.ofPair (by assumption) (agentRead_touches (hm.of rfl) h)), (by (try dsimp only); split <;> (try dsimp only); exacts [(by (try dsimp only); split <;> (try dsimp only); exacts [(Touches.ofPair (by assumption) (touches_ite1 (Touches.ofPair (by assumption) (agentRead_touches (hm.of rfl) h)) (agentRead_touches (hm.of rfl) (Touches.ofPair (by assumption) (agentRead_touches (hm.of rfl) h))))), (Touches.ofPair (by assumption) (touches_ite1 (Touches.ofPair (by assumption) (agentRead_touches (hm.of rfl) h)) (agentRead_touches (hm.of rfl) (Touches.ofPair (by assumption) (agentRead_touches (hm.of rfl) h))))), (by (try dsimp only); split <;> (try dsimp only); exacts [(Touches.ofPair (by assumption) (touches_ite1 (Touches.ofPair (by assumption) (agentRead_touches (hm.of rfl) h)) (agentRead_touches (hm.of rfl) (Touches.ofPair (by assumption) (agentRead_touches (hm.of rfl) h))))), (Touches.ofPair (by assumption) (touches_ite1 (Touches.ofPair (by assumption) (agentRead_touches (hm.of rfl) h)) (agentRead_touches (hm.of rfl) (Touches.ofPair (by assumption) (agentRead_touches (hm.of rfl) h)))))])]), (Touches.ofPair (by assumption) (agentRead_touches (hm.of rfl) h))])]

theorem execJobAshlarDone_touches {z : State} {msk : Nat} {d : Nat} {n : Nat} {s : State} (hm : Sub 0x180e20c04500c
    msk) (h : Touches msk z s) : TouchesO msk z (execJobAshlarDone d n s) := by
  have e := Eq.refl @execJobAshlarDone; conv at e => rhs; delta execJobAshlarDone
  rw [e]
  (try dsimp only)
  split <;> (try dsimp only)
  exacts [(.next h), (touchesO_ite (.next h) (touchesO_ite (touchesO_ite (.next (endJob_touches (hm.of rfl) h)) (by (try dsimp only); split <;> (try dsimp only); exacts [(.next (endJob_touches (hm.of rfl) (Touches.ofPair (by assumption) (agentRead_touches (hm.of rfl) h)))), (.next (endJob_touches (hm.of rfl) (Touches.ofPair (by assumption) (agentRead_touches (hm.of rfl) h)))), (touchesO_ite (.next (placeOutput_touches (hm.of rfl) (Touches.ofPair (by assumption) (agentRead_touches (hm.of rfl) h)))) (.next (placeOutput_touches (hm.of rfl) (Touches.ofPair (by assumption) (agentRead_touches (hm.of rfl) h)))))])) (touchesO_ite (.next (endJob_touches (hm.of rfl) h)) (by (try dsimp only); split <;> (try dsimp only); exacts [(.next (endJob_touches (hm.of rfl) (Touches.ofPair (by assumption) (agentRead_touches (hm.of rfl) h)))), (.next (endJob_touches (hm.of rfl) (Touches.ofPair (by assumption) (agentRead_touches (hm.of rfl) h)))), (touchesO_ite (.next (endJob_touches (hm.of rfl) (Touches.ofPair (by assumption) (agentRead_touches (hm.of rfl) h)))) (by (try dsimp only); split <;> (try dsimp only); exacts [(.next (endJob_touches (hm.of rfl) (Touches.ofPair (by assumption) (readDbf_touches (hm.of rfl) (Touches.ofPair (by assumption) (agentRead_touches (hm.of rfl) h)))))), (.next (endJob_touches (hm.of rfl) (Touches.ofPair (by assumption) (readDbf_touches (hm.of rfl) (Touches.ofPair (by assumption) (agentRead_touches (hm.of rfl) h)))))), (.next (placeOutput_touches (hm.of rfl) (Touches.ofPair (by assumption) (readDbf_touches (hm.of rfl) (Touches.ofPair (by assumption) (agentRead_touches (hm.of rfl) h))))))]))]))))]

theorem execJobStart_touches {z : State} {msk : Nat} {d : Nat} {n : Nat} {s : State} (hm : Sub 0xe00000500c msk) (h :
    Touches msk z s) : TouchesO msk z (execJobStart d n s) :=
  (touchesO_ite (by (try dsimp only); split <;> (try dsimp only); exacts [(.next h), (.next (touches_ite
    (endJob_touches (hm.of rfl) (setJob_touches (hm.of rfl) (setJobNext_touches (hm.of rfl) h))) (touches_ite
    (endJob_touches (hm.of rfl) (setJob_touches (hm.of rfl) (setJobNext_touches (hm.of rfl) h))) (setJob_touches
    (hm.of rfl) (setJobNext_touches (hm.of rfl) h)))))]) (.next h))

theorem jobAbort_touches {z : State} {msk : Nat} {d : Nat} {tag : Nat} {s : State} (hm : Sub 0xe00000500c msk) (h :
    Touches msk z s) : Touches msk z (jobAbort d tag s) :=
  (abortQueued_touches (hm.of rfl) (abortQueued_touches (hm.of rfl) (abortRunning_touches (hm.of rfl) h)))

end Sys2Proof.Machine
end

