-- ==== Sys2Proof/Laws/TouchesCounters.lean ====
section
/-! SUPPORT. Which fields of the state every operation of Counters may change. -/

namespace Sys2Proof.Machine

theorem noteEdges_touches {z : State} {msk : Nat} {d : Nat} {e : Nat} {a : Bool} {b : Bool} {s : State} (hm : Sub
    0x10000000000000000000000 msk) (h : Touches msk z s) : Touches msk z (noteEdges d e a b s) :=
  (Touches.upD_encEdges (hm.of rfl) h)

theorem setCounter_touches {z : State} {msk : Nat} {d : Nat} {c : Nat} {v : PosCounter} {s : State} (hm : Sub
    0x20000000000 msk) (h : Touches msk z s) : Touches msk z (setCounter d c v s) :=
  (Touches.upD_counters (hm.of rfl) h)

theorem setEncoder_touches {z : State} {msk : Nat} {d : Nat} {e : Nat} {v : Encoder} {s : State} (hm : Sub
    0x40000000000 msk) (h : Touches msk z s) : Touches msk z (setEncoder d e v s) :=
  (Touches.upD_encoders (hm.of rfl) h)

end Sys2Proof.Machine
end

