-- ==== Sys2Proof/Laws/TouchesFoc.lean ====
section
/-! SUPPORT. Which fields of the state every operation of Foc may change. -/

namespace Sys2Proof.Machine

theorem busBrake_touches {z : State} {msk : Nat} {d : Nat} {b : Nat} {s : State} (hm : Sub 0x4 msk) (h : Touches msk z
    s) : Touches msk z (busBrake d b s) :=
  (wr_touches (hm.of rfl) h)

theorem setFoc_touches {z : State} {msk : Nat} {d : Nat} {n : Nat} {c : FocCh} {s : State} (hm : Sub 0x2000000000000
    msk) (h : Touches msk z s) : Touches msk z (setFoc d n c s) :=
  (Touches.upD_focs (hm.of rfl) h)

theorem focEnter_touches {z : State} {msk : Nat} {d : Nat} {n : Nat} {st : Nat} {s : State} (hm : Sub 0x2000000001004
    msk) (h : Touches msk z s) : Touches msk z (focEnter d n st s) :=
  (touches_ite (evt_touches (hm.of rfl) (touches_ite (evt_touches (hm.of rfl) (wr_touches (hm.of rfl) (setFoc_touches
    (hm.of rfl) h))) (wr_touches (hm.of rfl) (setFoc_touches (hm.of rfl) h)))) (touches_ite (evt_touches (hm.of rfl)
    (touches_ite (evt_touches (hm.of rfl) (wr_touches (hm.of rfl) (setFoc_touches (hm.of rfl) h))) (wr_touches (hm.of
    rfl) (setFoc_touches (hm.of rfl) h)))) (touches_ite (evt_touches (hm.of rfl) (wr_touches (hm.of rfl)
    (setFoc_touches (hm.of rfl) h))) (wr_touches (hm.of rfl) (setFoc_touches (hm.of rfl) h)))))

theorem focOff_touches {z : State} {msk : Nat} {d : Nat} {n : Nat} {s : State} (hm : Sub 0x2000000001004 msk) (h :
    Touches msk z s) : Touches msk z (focOff d n s) :=
  (touches_ite h (wr_touches (hm.of rfl) (wr_touches (hm.of rfl) (wr_touches (hm.of rfl) (setFoc_touches (hm.of rfl)
    (focEnter_touches (hm.of rfl) h))))))

theorem busChannelsOff_touches {z : State} {msk : Nat} {d : Nat} {b : Nat} {s : State} (hm : Sub 0x2000000001004 msk)
    (h : Touches msk z s) : Touches msk z (busChannelsOff d b s) :=
  (foldl_touches (fun _ _ h1 => (touches_ite (focOff_touches (hm.of rfl) h1) h1)) h)

theorem setBus_touches {z : State} {msk : Nat} {d : Nat} {b : Nat} {v : BusRun} {s : State} (hm : Sub 0x4000000000000
    msk) (h : Touches msk z s) : Touches msk z (setBus d b v s) :=
  (Touches.upD_buses (hm.of rfl) h)

theorem busReading_touches {z : State} {msk : Nat} {d : Nat} {b : Nat} {v : Nat} {s : State} (hm : Sub 0x4000000000004
    msk) (h : Touches msk z s) : Touches msk z (busReading d b v s) :=
  (touches_ite (bump_touches (hm.of rfl) (wr_touches (hm.of rfl) (setBus_touches (hm.of rfl) (touches_ite (wr_touches
    (hm.of rfl) (wr_touches (hm.of rfl) h)) (wr_touches (hm.of rfl) h))))) (wr_touches (hm.of rfl) (setBus_touches
    (hm.of rfl) (touches_ite (wr_touches (hm.of rfl) (wr_touches (hm.of rfl) h)) (wr_touches (hm.of rfl) h)))))

theorem execAlignEnd_touches {z : State} {msk : Nat} {d : Nat} {n : Nat} {s : State} (hm : Sub 0x2000000001004 msk) (h
    : Touches msk z s) : TouchesO msk z (execAlignEnd d n s) :=
  (touchesO_ite (.next h) (touchesO_ite (.next (focEnter_touches (hm.of rfl) (setFoc_touches (hm.of rfl) h))) (.next
    (focEnter_touches (hm.of rfl) (setFoc_touches (hm.of rfl) h)))))

theorem focFault_touches {z : State} {msk : Nat} {d : Nat} {n : Nat} {src : Nat} {s : State} (hm : Sub 0x380000004b004
    msk) (h : Touches msk z s) : Touches msk z (focFault d n src s) :=
  (touches_ite (recordFault_touches (hm.of rfl) h) (focOff_touches (hm.of rfl) (addFence_touches (hm.of rfl)
    (recordFault_touches (hm.of rfl) h))))

theorem execBrakeTimeout_touches {z : State} {msk : Nat} {d : Nat} {n : Nat} {s : State} (hm : Sub 0x380000004b004
    msk) (h : Touches msk z s) : TouchesO msk z (execBrakeTimeout d n s) :=
  (touchesO_ite (.next h) (.next (focFault_touches (hm.of rfl) h)))

theorem execBusClamp_touches {z : State} {msk : Nat} {d : Nat} {b : Nat} {v : Nat} {s : State} (hm : Sub
    0x5800000041004 msk) (h : Touches msk z s) : TouchesO msk z (execBusClamp d b v s) :=
  (touchesO_ite (.next h) (touchesO_ite (.next (recordFault_touches (hm.of rfl) (evt_touches (hm.of rfl) (bump_touches
    (hm.of rfl) (wr_touches (hm.of rfl) (wr_touches (hm.of rfl) (busReading_touches (hm.of rfl) h))))))) (.next
    (busReading_touches (hm.of rfl) h))))

theorem execBusClampEnd_touches {z : State} {msk : Nat} {d : Nat} {b : Nat} {v : Nat} {s : State} (hm : Sub
    0x4000000001004 msk) (h : Touches msk z s) : TouchesO msk z (execBusClampEnd d b v s) :=
  (touchesO_ite (.next h) (touchesO_ite (.next (evt_touches (hm.of rfl) (wr_touches (hm.of rfl) (busReading_touches
    (hm.of rfl) h)))) (.next (busReading_touches (hm.of rfl) h))))

theorem execBusTrip_touches {z : State} {msk : Nat} {d : Nat} {b : Nat} {v : Nat} {s : State} (hm : Sub
    0x780000004b004 msk) (h : Touches msk z s) : TouchesO msk z (execBusTrip d b v s) :=
  (touchesO_ite (.next h) (touchesO_ite (.next (evt_touches (hm.of rfl) (recordFault_touches (hm.of rfl)
    (addFence_touches (hm.of rfl) (busChannelsOff_touches (hm.of rfl) (wr_touches (hm.of rfl) (wr_touches (hm.of rfl)
    (busReading_touches (hm.of rfl) h)))))))) (.next (busReading_touches (hm.of rfl) h))))

theorem execBusUndervoltage_touches {z : State} {msk : Nat} {d : Nat} {b : Nat} {v : Nat} {s : State} (hm : Sub
    0x4000000001004 msk) (h : Touches msk z s) : TouchesO msk z (execBusUndervoltage d b v s) :=
  (touchesO_ite (.next h) (touchesO_ite (.next (evt_touches (hm.of rfl) (busReading_touches (hm.of rfl) h))) (.next
    (busReading_touches (hm.of rfl) h))))

theorem showSpeed_touches {z : State} {msk : Nat} {d : Nat} {n : Nat} {v : Int} {s : State} (hm : Sub 0x4 msk) (h :
    Touches msk z s) : Touches msk z (showSpeed d n v s) :=
  (wr_touches (hm.of rfl) (wrS_touches (hm.of rfl) h))

theorem focStart_touches {z : State} {msk : Nat} {d : Nat} {n : Nat} {s : State} (hm : Sub 0x2000000001004 msk) (h :
    Touches msk z s) : Touches msk z (focStart d n s) :=
  (touches_ite (focEnter_touches (hm.of rfl) h) (focEnter_touches (hm.of rfl) h))

theorem execCatchEnd_touches {z : State} {msk : Nat} {d : Nat} {n : Nat} {speed : Int} {theta : Nat} {vd : Int} {vq :
    Int} {s : State} (hm : Sub 0x2000000001004 msk) (h : Touches msk z s) : TouchesO msk z (execCatchEnd d n speed theta
    vd vq s) :=
  (touchesO_ite (.next h) (touchesO_ite (.next (focStart_touches (hm.of rfl) (showSpeed_touches (hm.of rfl) h)))
    (touchesO_ite (touchesO_ite (.next (focEnter_touches (hm.of rfl) (setFoc_touches (hm.of rfl) (showSpeed_touches
    (hm.of rfl) h)))) (.next (focEnter_touches (hm.of rfl) (setFoc_touches (hm.of rfl) (showSpeed_touches (hm.of rfl)
    h))))) (touchesO_ite (.next (focStart_touches (hm.of rfl) (showSpeed_touches (hm.of rfl) h))) (.next
    (focEnter_touches (hm.of rfl) (showSpeed_touches (hm.of rfl) h)))))))

theorem execChopperSwitch_touches {z : State} {msk : Nat} {d : Nat} {b : Nat} {v : Nat} {s : State} (hm : Sub
    0x4000000000004 msk) (h : Touches msk z s) : TouchesO msk z (execChopperSwitch d b v s) :=
  (touchesO_ite (.next (busReading_touches (hm.of rfl) h)) (.next h))

theorem focOffsetPeriod_touches {z : State} {msk : Nat} {d : Nat} {n : Nat} {ia : Nat} {ib : Nat} {ic : Nat} {s :
    State} (hm : Sub 0x380000004b004 msk) (h : Touches msk z s) : Touches msk z (focOffsetPeriod d n ia ib ic s) :=
  (touches_ite (setFoc_touches (hm.of rfl) h) (touches_ite (focFault_touches (hm.of rfl) (setFoc_touches (hm.of rfl)
    h)) (touches_ite (focEnter_touches (hm.of rfl) (setFoc_touches (hm.of rfl) h)) (focStart_touches (hm.of rfl)
    (setFoc_touches (hm.of rfl) h)))))

theorem focBrakePeriod_touches {z : State} {msk : Nat} {d : Nat} {n : Nat} {cur : Int × Int × Int} {s : State} (hm :
    Sub 0x2000000001004 msk) (h : Touches msk z s) : Touches msk z (focBrakePeriod d n cur s) :=
  (touches_ite (focStart_touches (hm.of rfl) (bump_touches (hm.of rfl) (showSpeed_touches (hm.of rfl) (setFoc_touches
    (hm.of rfl) h)))) (bump_touches (hm.of rfl) (showSpeed_touches (hm.of rfl) (setFoc_touches (hm.of rfl) h))))

theorem focControl_touches {z : State} {msk : Nat} {d : Nat} {n : Nat} {cur : Int × Int × Int} {theta : Nat} {thetaOut
    : Nat} {idRef : Int} {iqRef : Int} {s : State} (hm : Sub 0x2000000001004 msk) (h : Touches msk z s) : Touches msk z
    (focControl d n cur theta thetaOut idRef iqRef s) :=
  (touches_ite (evt_touches (hm.of rfl) (touches_ite (bump_touches (hm.of rfl) (wr_touches (hm.of rfl) (wr_touches
    (hm.of rfl) (wr_touches (hm.of rfl) (wr_touches (hm.of rfl) (wrS_touches (hm.of rfl) (wrS_touches (hm.of rfl)
    (setFoc_touches (hm.of rfl) h)))))))) (wr_touches (hm.of rfl) (wr_touches (hm.of rfl) (wr_touches (hm.of rfl)
    (wr_touches (hm.of rfl) (wrS_touches (hm.of rfl) (wrS_touches (hm.of rfl) (setFoc_touches (hm.of rfl) h)))))))))
    (touches_ite (bump_touches (hm.of rfl) (wr_touches (hm.of rfl) (wr_touches (hm.of rfl) (wr_touches (hm.of rfl)
    (wr_touches (hm.of rfl) (wrS_touches (hm.of rfl) (wrS_touches (hm.of rfl) (setFoc_touches (hm.of rfl) h))))))))
    (wr_touches (hm.of rfl) (wr_touches (hm.of rfl) (wr_touches (hm.of rfl) (wr_touches (hm.of rfl) (wrS_touches
    (hm.of rfl) (wrS_touches (hm.of rfl) (setFoc_touches (hm.of rfl) h)))))))))

theorem focOpenPeriod_touches {z : State} {msk : Nat} {d : Nat} {n : Nat} {cur : Int × Int × Int} {s : State} (hm :
    Sub 0x2000000001004 msk) (h : Touches msk z s) : Touches msk z (focOpenPeriod d n cur s) :=
  (touches_ite (focEnter_touches (hm.of rfl) (focControl_touches (hm.of rfl) (showSpeed_touches (hm.of rfl)
    (setFoc_touches (hm.of rfl) h)))) (focControl_touches (hm.of rfl) (showSpeed_touches (hm.of rfl) (setFoc_touches
    (hm.of rfl) h))))

theorem focRunPeriod_touches {z : State} {msk : Nat} {d : Nat} {n : Nat} {cur : Int × Int × Int} {s : State} (hm : Sub
    0x380000004b004 msk) (h : Touches msk z s) : Touches msk z (focRunPeriod d n cur s) :=
  (touches_ite (focFault_touches (hm.of rfl) (showSpeed_touches (hm.of rfl) h)) (focControl_touches (hm.of rfl)
    (wr_touches (hm.of rfl) (showSpeed_touches (hm.of rfl) h))))

theorem execFocPeriod_touches {z : State} {msk : Nat} {d : Nat} {n : Nat} {ia : Nat} {ib : Nat} {ic : Nat} {s : State}
    (hm : Sub 0x380000004b004 msk) (h : Touches msk z s) : TouchesO msk z (execFocPeriod d n ia ib ic s) :=
  (touchesO_ite (.next h) (touchesO_ite (.next (focOff_touches (hm.of rfl) h)) (touchesO_ite (.next (focEnter_touches
    (hm.of rfl) h)) (touchesO_ite (.next (focOffsetPeriod_touches (hm.of rfl) h)) (touchesO_ite (.next
    (focFault_touches (hm.of rfl) h)) (.next (by (try dsimp only); split <;> (try dsimp only); exacts [(touches_ite
    (recordFault_touches (hm.of rfl) h) h), (focBrakePeriod_touches (hm.of rfl) (touches_ite (recordFault_touches
    (hm.of rfl) h) h)), (focControl_touches (hm.of rfl) (touches_ite (recordFault_touches (hm.of rfl) h) h)),
    (focOpenPeriod_touches (hm.of rfl) (touches_ite (recordFault_touches (hm.of rfl) h) h)), (focRunPeriod_touches
    (hm.of rfl) (touches_ite (recordFault_touches (hm.of rfl) h) h))])))))))

theorem execHallTransition_touches {z : State} {msk : Nat} {d : Nat} {n : Nat} {code : Nat} {s : State} (hm : Sub
    0x380000004b004 msk) (h : Touches msk z s) : TouchesO msk z (execHallTransition d n code s) :=
  (touchesO_ite (.next h) (by (try dsimp only); split <;> (try dsimp only); exacts [(.next (focFault_touches (hm.of
    rfl) (wr_touches (hm.of rfl) h))), (touchesO_ite (.next (wr_touches (hm.of rfl) h)) (.next (touches_ite
    (focFault_touches (hm.of rfl) (setFoc_touches (hm.of rfl) (wr_touches (hm.of rfl) h))) (setFoc_touches (hm.of rfl)
    (wr_touches (hm.of rfl) h)))))]))

theorem focIndex_touches {z : State} {msk : Nat} {d : Nat} {k : Nat} {s : State} (hm : Sub 0x2000000000000 msk) (h :
    Touches msk z s) : Touches msk z (focIndex d k s) :=
  (foldl_touches (fun _ _ h1 => (touches_ite (setFoc_touches (hm.of rfl) h1) h1)) h)

end Sys2Proof.Machine
end

