-- ==== Sys2Proof/Laws/TouchesLoops.lean ====
section
/-! SUPPORT. Which fields of the state every operation of Loops may change. -/

namespace Sys2Proof.Machine

theorem setHeater_touches {z : State} {msk : Nat} {d : Nat} {x1 : Nat} {v : Heater} {s : State} (hm : Sub
    0x1000000000000000 msk) (h : Touches msk z s) : Touches msk z (setHeater d x1 v s) :=
  (Touches.upD_heaters (hm.of rfl) h)

theorem setGpio_touches {z : State} {msk : Nat} {d : Nat} {g : Gpio} {s : State} (hm : Sub 0x8000000000000000 msk) (h
    : Touches msk z s) : Touches msk z (setGpio d g s) :=
  (Touches.upD_gpios (hm.of rfl) h)

theorem applyTarget_touches {z : State} {msk : Nat} {d : Nat} {i : Nat} {e : List Sys2Proof.Byte} {u : Int} {s :
    State} (hm : Sub 0x9402000000000004 msk) (h : Touches msk z s) : Touches msk z (applyTarget d i e u s) := by
  have e := Eq.refl @applyTarget; conv at e => rhs; delta applyTarget
  rw [e]
  (try dsimp only)
  split <;> (try dsimp only)
  exacts [(touches_ite (setFoc_touches (hm.of rfl) h) h), (touches_ite (setHeater_touches (hm.of rfl) h) h), (touches_ite (wr_touches (hm.of rfl) h) h), (touches_ite (setGpio_touches (hm.of rfl) h) h), (by (try dsimp only); split <;> (try dsimp only); exacts [(Touches.upD_aregOut (hm.of rfl) h), h]), h]

theorem cffLate_touches {z : State} {msk : Nat} {d : Nat} {s : State} (hm : Sub 0x1004 msk) (h : Touches msk z s) :
    Touches msk z (cffLate d s) :=
  (evt_touches (hm.of rfl) (bump_touches (hm.of rfl) h))

theorem setCff_touches {z : State} {msk : Nat} {d : Nat} {ch : Nat} {l : List CffEntry} {s : State} (hm : Sub
    0x200000000000000 msk) (h : Touches msk z s) : Touches msk z (setCff d ch l s) :=
  (Touches.upD_cffs (hm.of rfl) h)

theorem cffTake_touches {z : State} {msk : Nat} {d : Nat} {ch : Nat} {x : CffEntry} {s : State} (hm : Sub
    0x200000000001004 msk) (h : Touches msk z s) : Touches msk z (cffTake d ch x s) :=
  (touches_ite h (touches_ite (cffLate_touches (hm.of rfl) h) (touches_ite (cffLate_touches (hm.of rfl)
    (setCff_touches (hm.of rfl) h)) (setCff_touches (hm.of rfl) h))))

theorem cffUpdate_touches {z : State} {msk : Nat} {d : Nat} {s : State} (hm : Sub 0x200000000000004 msk) (h : Touches
    msk z s) : Touches msk z (cffUpdate d s) :=
  (foldl_touches (fun _ _ h1 => (wrS_touches (hm.of rfl) (touches_ite (setCff_touches (hm.of rfl) h1) h1))) h)

theorem setLoop_touches {z : State} {msk : Nat} {d : Nat} {i : Nat} {c : LoopCtx} {s : State} (hm : Sub
    0x100000000000000 msk) (h : Touches msk z s) : Touches msk z (setLoop d i c s) :=
  (Touches.upD_loops (hm.of rfl) h)

theorem putEntry_touches {z : State} {msk : Nat} {d : Nat} {i : Nat} {o : Nat} {n : Nat} {v : Int} {s : State} (hm :
    Sub 0x4 msk) (h : Touches msk z s) : Touches msk z (putEntry d i o n v s) :=
  (putBytes_touches (hm.of rfl) h)

theorem setBitOf_touches {z : State} {msk : Nat} {l : Sys2Proof.Loc} {i : Nat} {v : Bool} {s : State} (hm : Sub 0x4
    msk) (h : Touches msk z s) : Touches msk z (setBitOf l i v s) :=
  (wr_touches (hm.of rfl) h)

theorem showLoad_touches {z : State} {msk : Nat} {d : Nat} {s : State} (hm : Sub 0x4 msk) (h : Touches msk z s) :
    Touches msk z (showLoad d s) :=
  (wr_touches (hm.of rfl) (wr_touches (hm.of rfl) h))

theorem setMode_touches {z : State} {msk : Nat} {d : Nat} {i : Nat} {c : LoopCtx} {s : State} (hm : Sub
    0x100000000000004 msk) (h : Touches msk z s) : Touches msk z (setMode d i c s) :=
  (showLoad_touches (hm.of rfl) (setBitOf_touches (hm.of rfl) (setBitOf_touches (hm.of rfl) (setBitOf_touches (hm.of
    rfl) (setLoop_touches (hm.of rfl) h)))))

theorem loopOffTarget_touches {z : State} {msk : Nat} {d : Nat} {i : Nat} {s : State} (hm : Sub 0x9402000000000004
    msk) (h : Touches msk z s) : Touches msk z (loopOffTarget d i s) :=
  (touches_ite h (applyTarget_touches (hm.of rfl) h))

theorem loopFence_touches {z : State} {msk : Nat} {d : Nat} {i : Nat} {s : State} (hm : Sub 0x950380000004b004 msk) (h
    : Touches msk z s) : Touches msk z (loopFence d i s) :=
  (loopOffTarget_touches (hm.of rfl) (setMode_touches (hm.of rfl) (addFence_touches (hm.of rfl) h)))

theorem loopFault_touches {z : State} {msk : Nat} {d : Nat} {i : Nat} {src : Nat} {s : State} (hm : Sub
    0x950380000004b004 msk) (h : Touches msk z s) : Touches msk z (loopFault d i src s) :=
  (touches_ite (recordFault_touches (hm.of rfl) h) (loopFence_touches (hm.of rfl) (recordFault_touches (hm.of rfl)
    h)))

theorem supervise_touches {z : State} {msk : Nat} {d : Nat} {i : Nat} {e : List Sys2Proof.Byte} {err : Int} {u : Int}
    {s : State} (hm : Sub 0x950380000004b004 msk) (h : Touches msk z s) : Touches msk z (supervise d i e err u s).2 :=
  (touches_ite1 h (touches_ite1 (putEntry_touches (hm.of rfl) h) (touches_ite1 (putEntry_touches (hm.of rfl) h)
    (by (try dsimp only); split <;> (try dsimp only); exacts [(recordFault_touches (hm.of rfl) (evt_touches (hm.of
    rfl) (bump_touches (hm.of rfl) (putEntry_touches (hm.of rfl) h)))), (setMode_touches (hm.of rfl) (wrS_touches
    (hm.of rfl) (recordFault_touches (hm.of rfl) (evt_touches (hm.of rfl) (bump_touches (hm.of rfl) (putEntry_touches
    (hm.of rfl) h)))))), (loopFault_touches (hm.of rfl) (evt_touches (hm.of rfl) (bump_touches (hm.of rfl)
    (putEntry_touches (hm.of rfl) h))))]))))

theorem giveOut_touches {z : State} {msk : Nat} {d : Nat} {i : Nat} {e : List Sys2Proof.Byte} {u : Int} {s : State}
    (hm : Sub 0x9402000000000004 msk) (h : Touches msk z s) : Touches msk z (giveOut d i e u s) :=
  (applyTarget_touches (hm.of rfl) (putEntry_touches (hm.of rfl) (wrS_touches (hm.of rfl) h)))

theorem storeExec_touches {z : State} {msk : Nat} {d : Nat} {i : Nat} {e : List Sys2Proof.Byte} {x : Executed} {s :
    State} (hm : Sub 0x950380000004b004 msk) (h : Touches msk z s) : Touches msk z (storeExec d i e x s) :=
  (touches_ite (supervise_touches (hm.of rfl) h) (giveOut_touches (hm.of rfl) (wrS_touches (hm.of rfl)
    (putEntry_touches (hm.of rfl) (putEntry_touches (hm.of rfl) (putEntry_touches (hm.of rfl) (putEntry_touches (hm.of
    rfl) (supervise_touches (hm.of rfl) h))))))))

theorem execAuto_touches {z : State} {msk : Nat} {d : Nat} {i : Nat} {e : List Sys2Proof.Byte} {fresh : Bool} {s0 :
    State} {s : State} (hm : Sub 0x950380000004b004 msk) (h : Touches msk z s) : Touches msk z (execAuto d i e fresh s0
    s) := by
  have e := Eq.refl @execAuto; conv at e => rhs; delta execAuto
  rw [e]
  (try dsimp only)
  split <;> (try dsimp only)
  exacts [(storeExec_touches (hm.of rfl) (setLoop_touches (hm.of rfl) h)), (storeExec_touches (hm.of rfl) (putEntry_touches (hm.of rfl) (putEntry_touches (hm.of rfl) (setLoop_touches (hm.of rfl) (setLoop_touches (hm.of rfl) h))))), (storeExec_touches (hm.of rfl) (setLoop_touches (hm.of rfl) h)), (touches_ite (evt_touches (hm.of rfl) (loopFault_touches (hm.of rfl) (wrS_touches (hm.of rfl) (giveOut_touches (hm.of rfl) (setLoop_touches (hm.of rfl) h))))) (storeExec_touches (hm.of rfl) (setLoop_touches (hm.of rfl) h))), (storeExec_touches (hm.of rfl) (setLoop_touches (hm.of rfl) h))]

theorem takeMsg_touches {z : State} {msk : Nat} {p : Msg → Bool} {s : State} (hm : Sub 0x2000 msk) (h : Touches msk z
    s) : ∀ t, (takeMsg p s) = some t → Touches msk z t.2 := by
  have e := Eq.refl @takeMsg; conv at e => rhs; delta takeMsg
  rw [e]
  (try dsimp only)
  split <;> (try dsimp only)
  exacts [(fun _ e => by cases e; exact (Touches.upD_msgs (hm.of rfl) h)), (fun _ e => by cases e)]

theorem execCffCancel_touches {z : State} {msk : Nat} {d : Nat} {s : State} (hm : Sub 0x200000000002004 msk) (h :
    Touches msk z s) : TouchesO msk z (execCffCancel d s) := by
  have e := Eq.refl @execCffCancel; conv at e => rhs; delta execCffCancel
  rw [e]
  (try dsimp only)
  split <;> (try dsimp only)
  exacts [(touchesO_ite (.next ((takeMsg_touches (hm.of rfl) h) _ (by assumption))) (.next (cffUpdate_touches (hm.of rfl) (foldl_touches (fun _ _ h2 => (setCff_touches (hm.of rfl) h2)) ((takeMsg_touches (hm.of rfl) h) _ (by assumption)))))), (.next h)]

theorem execCffMessage_touches {z : State} {msk : Nat} {d : Nat} {s : State} (hm : Sub 0x200000000003004 msk) (h :
    Touches msk z s) : TouchesO msk z (execCffMessage d s) := by
  have e := Eq.refl @execCffMessage; conv at e => rhs; delta execCffMessage
  rw [e]
  (try dsimp only)
  split <;> (try dsimp only)
  exacts [(touchesO_ite (.next (cffUpdate_touches (hm.of rfl) (foldl_touches (fun _ _ h2 => (cffTake_touches (hm.of rfl) h2)) ((takeMsg_touches (hm.of rfl) h) _ (by assumption))))) (.next ((takeMsg_touches (hm.of rfl) h) _ (by assumption)))), (.next h)]

theorem gearAdjust_touches {z : State} {msk : Nat} {d : Nat} {k : Nat} {delta : Int} {s : State} (hm : Sub 0x4 msk) (h
    : Touches msk z s) : Touches msk z (gearAdjust d k delta s) :=
  (foldl_touches (fun _ _ h1 => (touches_ite (putEntry_touches (hm.of rfl) (touches_ite (putEntry_touches (hm.of rfl)
    h1) h1)) (touches_ite (putEntry_touches (hm.of rfl) h1) h1))) h)

theorem loopAuto_touches {z : State} {msk : Nat} {d : Nat} {i : Nat} {s : State} (hm : Sub 0x100000000000004 msk) (h :
    Touches msk z s) : Touches msk z (loopAuto d i s) :=
  (touches_ite (setMode_touches (hm.of rfl) h) h)

theorem loopUnfence_touches {z : State} {msk : Nat} {d : Nat} {i : Nat} {s : State} (hm : Sub 0x100000000009004 msk)
    (h : Touches msk z s) : Touches msk z (loopUnfence d i s) :=
  (setMode_touches (hm.of rfl) (unfence_touches (hm.of rfl) h))

theorem loopEnable_touches {z : State} {msk : Nat} {d : Nat} {i : Nat} {s : State} (hm : Sub 0x9502000000001004 msk)
    (h : Touches msk z s) : Touches msk z (loopEnable d i s) :=
  (touches_ite (evt_touches (hm.of rfl) (touches_ite h (putWord_touches (hm.of rfl) h))) (putEntry_touches (hm.of rfl)
    (giveOut_touches (hm.of rfl) (setMode_touches (hm.of rfl) h))))

theorem loopDisable_touches {z : State} {msk : Nat} {d : Nat} {i : Nat} {s : State} (hm : Sub 0x9502000000000004 msk)
    (h : Touches msk z s) : Touches msk z (loopDisable d i s) :=
  (touches_ite (loopOffTarget_touches (hm.of rfl) (setMode_touches (hm.of rfl) h)) h)

theorem loopManual_touches {z : State} {msk : Nat} {d : Nat} {i : Nat} {s : State} (hm : Sub 0x100000000000004 msk) (h
    : Touches msk z s) : Touches msk z (loopManual d i s) :=
  (touches_ite (setMode_touches (hm.of rfl) h) h)

theorem loopCtl_touches {z : State} {msk : Nat} {d : Nat} {w : Nat} {s : State} (hm : Sub 0x9502000000009004 msk) (h :
    Touches msk z s) : Touches msk z (loopCtl d w s) :=
  (touches_ite h (touches_ite (loopAuto_touches (hm.of rfl) (touches_ite (loopManual_touches (hm.of rfl) (touches_ite
    (loopDisable_touches (hm.of rfl) (touches_ite (loopEnable_touches (hm.of rfl) (touches_ite (loopUnfence_touches
    (hm.of rfl) h) h)) (touches_ite (loopUnfence_touches (hm.of rfl) h) h))) (touches_ite (loopEnable_touches (hm.of
    rfl) (touches_ite (loopUnfence_touches (hm.of rfl) h) h)) (touches_ite (loopUnfence_touches (hm.of rfl) h) h))))
    (touches_ite (loopDisable_touches (hm.of rfl) (touches_ite (loopEnable_touches (hm.of rfl) (touches_ite
    (loopUnfence_touches (hm.of rfl) h) h)) (touches_ite (loopUnfence_touches (hm.of rfl) h) h))) (touches_ite
    (loopEnable_touches (hm.of rfl) (touches_ite (loopUnfence_touches (hm.of rfl) h) h)) (touches_ite
    (loopUnfence_touches (hm.of rfl) h) h))))) (touches_ite (loopManual_touches (hm.of rfl) (touches_ite
    (loopDisable_touches (hm.of rfl) (touches_ite (loopEnable_touches (hm.of rfl) (touches_ite (loopUnfence_touches
    (hm.of rfl) h) h)) (touches_ite (loopUnfence_touches (hm.of rfl) h) h))) (touches_ite (loopEnable_touches (hm.of
    rfl) (touches_ite (loopUnfence_touches (hm.of rfl) h) h)) (touches_ite (loopUnfence_touches (hm.of rfl) h) h))))
    (touches_ite (loopDisable_touches (hm.of rfl) (touches_ite (loopEnable_touches (hm.of rfl) (touches_ite
    (loopUnfence_touches (hm.of rfl) h) h)) (touches_ite (loopUnfence_touches (hm.of rfl) h) h))) (touches_ite
    (loopEnable_touches (hm.of rfl) (touches_ite (loopUnfence_touches (hm.of rfl) h) h)) (touches_ite
    (loopUnfence_touches (hm.of rfl) h) h))))))

theorem stepLoopProfile_touches {z : State} {msk : Nat} {d : Nat} {i : Nat} {e : List Sys2Proof.Byte} {s : State} (hm
    : Sub 0x100000000000004 msk) (h : Touches msk z s) : Touches msk z (stepLoopProfile d i e s) :=
  (putBytes_touches (hm.of rfl) (putBytes_touches (hm.of rfl) (setLoop_touches (hm.of rfl) h)))

theorem trackMeasure_touches {z : State} {msk : Nat} {d : Nat} {i : Nat} {e : List Sys2Proof.Byte} {r : Int} {y : Int}
    {s : State} (hm : Sub 0x4 msk) (h : Touches msk z s) : Touches msk z (trackMeasure d i e r y s) :=
  (wrS_touches (hm.of rfl) (putEntry_touches (hm.of rfl) h))

theorem loopExecute_touches {z : State} {msk : Nat} {d : Nat} {i : Nat} {s0 : State} {s : State} (hm : Sub
    0x950380000004b004 msk) (h : Touches msk z s) : Touches msk z (loopExecute d i s0 s) :=
  (touches_ite h (touches_ite (giveOut_touches (hm.of rfl) (trackMeasure_touches (hm.of rfl) (touches_ite
    (stepLoopProfile_touches (hm.of rfl) (setLoop_touches (hm.of rfl) h)) (setLoop_touches (hm.of rfl) h))))
    (touches_ite (execAuto_touches (hm.of rfl) (touches_ite (setMode_touches (hm.of rfl) (touches_ite
    (stepLoopProfile_touches (hm.of rfl) (setLoop_touches (hm.of rfl) h)) (setLoop_touches (hm.of rfl) h)))
    (touches_ite (stepLoopProfile_touches (hm.of rfl) (setLoop_touches (hm.of rfl) h)) (setLoop_touches (hm.of rfl)
    h)))) (putEntry_touches (hm.of rfl) (wrS_touches (hm.of rfl) (trackMeasure_touches (hm.of rfl) (setMode_touches
    (hm.of rfl) (touches_ite (stepLoopProfile_touches (hm.of rfl) (setLoop_touches (hm.of rfl) h)) (setLoop_touches
    (hm.of rfl) h)))))))))

theorem loopTick_touches {z : State} {msk : Nat} {d : Nat} {s : State} (hm : Sub 0x4970380000004b004 msk) (h : Touches
    msk z s) : Touches msk z (loopTick d s) :=
  (touches_ite h (foldl_touches (fun _ _ h1 => (touches_ite (loopExecute_touches (hm.of rfl) h1) h1))
    (cffUpdate_touches (hm.of rfl) (Touches.upD_loopNext (hm.of rfl) h))))

theorem setPathRun_touches {z : State} {msk : Nat} {p : Nat} {v : PathRun} {s : State} (hm : Sub 0x200000000000 msk)
    (h : Touches msk z s) : Touches msk z (setPathRun p v s) :=
  (Touches.upD_paths (hm.of rfl) h)

end Sys2Proof.Machine
end

