-- ==== Sys2Proof/Laws/TouchesPio.lean ====
section
/-! SUPPORT. Which fields of the state every operation of Pio may change. -/

namespace Sys2Proof.Machine

theorem adcConvert_touches {z : State} {msk : Nat} {d : Nat} {a : Nat} {code : Nat} {s : State} (hm : Sub
    0x800000000000004 msk) (h : Touches msk z s) : Touches msk z (adcConvert d a code s) :=
  (touches_ite h (wr_touches (hm.of rfl) (Touches.upD_adcs (hm.of rfl) h)))

theorem cuePin_touches {z : State} {msk : Nat} {d : Nat} {g : Nat} {op : Nat} {s : State} (hm : Sub 0x8000000000000000
    msk) (h : Touches msk z s) : Touches msk z (cuePin d g op s) :=
  (setGpio_touches (hm.of rfl) h)

theorem hvSafe_touches {z : State} {msk : Nat} {d : Nat} {n : Nat} {s : State} (hm : Sub 0x950380000004b004 msk) (h :
    Touches msk z s) : Touches msk z (hvSafe d n s) := by
  have e := Eq.refl @hvSafe; conv at e => rhs; delta hvSafe
  rw [e]
  (try dsimp only)
  split <;> (try dsimp only)
  exacts [(loopFence_touches (hm.of rfl) (wr_touches (hm.of rfl) (wr_touches (hm.of rfl) h))), (wr_touches (hm.of rfl) (wr_touches (hm.of rfl) h))]

theorem hvTrip_touches {z : State} {msk : Nat} {d : Nat} {n : Nat} {s : State} (hm : Sub 0x950380000004b004 msk) (h :
    Touches msk z s) : Touches msk z (hvTrip d n s) :=
  (evt_touches (hm.of rfl) (hvSafe_touches (hm.of rfl) (recordFault_touches (hm.of rfl) h)))

theorem hvJudge_touches {z : State} {msk : Nat} {d : Nat} {n : Nat} {s : State} (hm : Sub 0x950380000004b004 msk) (h :
    Touches msk z s) : Touches msk z (hvJudge d n s) :=
  (touches_ite (wr_touches (hm.of rfl) h) (touches_ite (hvTrip_touches (hm.of rfl) h) h))

theorem hvConvert_touches {z : State} {msk : Nat} {d : Nat} {n : Nat} {code : Nat} {s : State} (hm : Sub
    0xd50380000004b004 msk) (h : Touches msk z s) : Touches msk z (hvConvert d n code s) :=
  (hvJudge_touches (hm.of rfl) (wr_touches (hm.of rfl) (Touches.upD_hvOver (hm.of rfl) h)))

theorem execAdcConversion_touches {z : State} {msk : Nat} {d : Nat} {ain : List Nat} {hvm : List Nat} {s : State} (hm
    : Sub 0xdd0380000004b004 msk) (h : Touches msk z s) : TouchesO msk z (execAdcConversion d ain hvm s) :=
  (touchesO_ite (.next h) (.next (foldl_touches (fun _ _ h1 =>
    (by (try dsimp only); split <;> (try dsimp only); exacts [(hvConvert_touches (hm.of rfl) h1), h1])) (foldl_touches
    (fun _ _ h1 => (by (try dsimp only); split <;> (try dsimp only); exacts [(adcConvert_touches (hm.of rfl) h1),
    h1])) h))))

theorem execGpioEdge_touches {z : State} {msk : Nat} {d : Nat} {g : Nat} {level : Bool} {s : State} (hm : Sub
    0x8000000000001004 msk) (h : Touches msk z s) : TouchesO msk z (execGpioEdge d g level s) :=
  (touchesO_ite (.next h) (touchesO_ite (.next h) (.next (onlyIf_touches (fun _ h1 => (evt_touches (hm.of rfl) h1))
    (setGpio_touches (hm.of rfl) h)))))

theorem execSpliceDetect_touches {z : State} {msk : Nat} {d : Nat} {s : State} (hm : Sub 0x4 msk) (h : Touches msk z
    s) : TouchesO msk z (execSpliceDetect d s) :=
  (touchesO_ite (.next h) (.next (bump_touches (hm.of rfl) (wr_touches (hm.of rfl) (wr_touches (hm.of rfl) (wr_touches
    (hm.of rfl) h))))))

theorem setZero_touches {z : State} {msk : Nat} {d : Nat} {v : ZeroCross} {s : State} (hm : Sub 0x2000000000000000
    msk) (h : Touches msk z s) : Touches msk z (setZero d v s) :=
  (Touches.upD_zeros (hm.of rfl) h)

theorem zeroLost_touches {z : State} {msk : Nat} {d : Nat} {s : State} (hm : Sub 0x1001800000041004 msk) (h : Touches
    msk z s) : Touches msk z (zeroLost d s) :=
  (touches_ite h (evt_touches (hm.of rfl) (recordFault_touches (hm.of rfl) (foldl_touches (fun _ _ h1 =>
    (setHeater_touches (hm.of rfl) h1)) (wr_touches (hm.of rfl) h)))))

theorem heaterCross_touches {z : State} {msk : Nat} {d : Nat} {th : Nat} {x2 : Nat} {s : State} (hm : Sub
    0x1000000000000004 msk) (h : Touches msk z s) : Touches msk z (heaterCross d th x2 s) :=
  (setHeater_touches (hm.of rfl) (wr_touches (hm.of rfl) h))

theorem execZeroCross_touches {z : State} {msk : Nat} {d : Nat} {s : State} (hm : Sub 0x3001800000041004 msk) (h :
    Touches msk z s) : TouchesO msk z (execZeroCross d s) :=
  (touchesO_ite (.next h) (.next (foldl_touches (fun _ _ h1 => (heaterCross_touches (hm.of rfl) h1)) (touches_ite
    (zeroLost_touches (hm.of rfl) (wr_touches (hm.of rfl) (setZero_touches (hm.of rfl) h))) (touches_ite (wr_touches
    (hm.of rfl) (setZero_touches (hm.of rfl) h)) (evt_touches (hm.of rfl) (wr_touches (hm.of rfl) (wr_touches (hm.of
    rfl) (setZero_touches (hm.of rfl) h)))))))))

theorem execZeroCrossLost_touches {z : State} {msk : Nat} {d : Nat} {s : State} (hm : Sub 0x1001800000041004 msk) (h :
    Touches msk z s) : TouchesO msk z (execZeroCrossLost d s) := by
  have e := Eq.refl @execZeroCrossLost; conv at e => rhs; delta execZeroCrossLost
  rw [e]
  (try dsimp only)
  split <;> (try dsimp only)
  exacts [(touchesO_ite (.next (zeroLost_touches (hm.of rfl) h)) (.next h)), (.next h)]

theorem gpioWrite_touches {z : State} {msk : Nat} {d : Nat} {v : Nat} {s : State} (hm : Sub 0x4 msk) (h : Touches msk
    z s) : Touches msk z (gpioWrite d v s) :=
  (wr_touches (hm.of rfl) h)

theorem gpioClr_touches {z : State} {msk : Nat} {d : Nat} {v : Nat} {s : State} (hm : Sub 0x4 msk) (h : Touches msk z
    s) : Touches msk z (gpioClr d v s) :=
  (gpioWrite_touches (hm.of rfl) h)

theorem gpioSet_touches {z : State} {msk : Nat} {d : Nat} {v : Nat} {s : State} (hm : Sub 0x4 msk) (h : Touches msk z
    s) : Touches msk z (gpioSet d v s) :=
  (gpioWrite_touches (hm.of rfl) h)

end Sys2Proof.Machine
end

