-- ==== Sys2Proof/Laws/TouchesSteps.lean ====
section
/-! SUPPORT. Which fields of the state every operation of Steps may change. -/

namespace Sys2Proof.Machine

theorem setStep_touches {z : State} {msk : Nat} {d : Nat} {n : Nat} {c : StepCh} {s : State} (hm : Sub 0x8000000000000
    msk) (h : Touches msk z s) : Touches msk z (setStep d n c s) :=
  (Touches.upD_steps (hm.of rfl) h)

theorem stepHolding_touches {z : State} {msk : Nat} {d : Nat} {n : Nat} {s : State} (hm : Sub 0x8000000001004 msk) (h
    : Touches msk z s) : Touches msk z (stepHolding d n s) :=
  (evt_touches (hm.of rfl) (wr_touches (hm.of rfl) (setStep_touches (hm.of rfl) h)))

theorem execStepHoldDelay_touches {z : State} {msk : Nat} {d : Nat} {n : Nat} {s : State} (hm : Sub 0x8000000001004
    msk) (h : Touches msk z s) : TouchesO msk z (execStepHoldDelay d n s) := by
  have e := Eq.refl @execStepHoldDelay; conv at e => rhs; delta execStepHoldDelay
  rw [e]
  (try dsimp only)
  split <;> (try dsimp only)
  exacts [(.next h), (touchesO_ite (.next h) (touchesO_ite (.next (stepHolding_touches (hm.of rfl) h)) (.next (setStep_touches (hm.of rfl) h))))]

theorem execStepHoldReached_touches {z : State} {msk : Nat} {d : Nat} {n : Nat} {s : State} (hm : Sub 0x8000000001004
    msk) (h : Touches msk z s) : TouchesO msk z (execStepHoldReached d n s) := by
  have e := Eq.refl @execStepHoldReached; conv at e => rhs; delta execStepHoldReached
  rw [e]
  (try dsimp only)
  split <;> (try dsimp only)
  exacts [(.next h), (touchesO_ite (.next h) (.next (stepHolding_touches (hm.of rfl) h)))]

theorem showStep_touches {z : State} {msk : Nat} {d : Nat} {n : Nat} {s : State} (hm : Sub 0x4 msk) (h : Touches msk z
    s) : Touches msk z (showStep d n s) :=
  (wr_touches (hm.of rfl) (wr_touches (hm.of rfl) h))

theorem putStep_touches {z : State} {msk : Nat} {d : Nat} {n : Nat} {c : StepCh} {s : State} (hm : Sub 0x8000000000004
    msk) (h : Touches msk z s) : Touches msk z (putStep d n c s) :=
  (showStep_touches (hm.of rfl) (setStep_touches (hm.of rfl) h))

theorem stepEnd_touches {z : State} {msk : Nat} {d : Nat} {n : Nat} {result : Nat} {s : State} (hm : Sub
    0x8000000001004 msk) (h : Touches msk z s) : Touches msk z (stepEnd d n result s) :=
  (evt_touches (hm.of rfl) (wr_touches (hm.of rfl) (wr_touches (hm.of rfl) (putStep_touches (hm.of rfl) h))))

theorem stepFinish_touches {z : State} {msk : Nat} {d : Nat} {n : Nat} {result : Nat} {s : State} (hm : Sub
    0x8000000001004 msk) (h : Touches msk z s) : Touches msk z (stepFinish d n result s) :=
  (touches_ite (stepEnd_touches (hm.of rfl) h) (setStep_touches (hm.of rfl) h))

theorem execStepProfileTick_touches {z : State} {msk : Nat} {d : Nat} {n : Nat} {s : State} (hm : Sub 0x8000000001004
    msk) (h : Touches msk z s) : TouchesO msk z (execStepProfileTick d n s) :=
  (touchesO_ite (.next h) (touchesO_ite (.next h) (touchesO_ite (.next (stepFinish_touches (hm.of rfl)
    (putStep_touches (hm.of rfl) (onlyIf_touches (fun _ h1 => (wr_touches (hm.of rfl) (bump_touches (hm.of rfl) h1)))
    h)))) (touchesO_ite (.next (stepFinish_touches (hm.of rfl) (putStep_touches (hm.of rfl) (onlyIf_touches (fun _ h1
    => (wr_touches (hm.of rfl) (bump_touches (hm.of rfl) h1))) h)))) (.next (putStep_touches (hm.of rfl)
    (onlyIf_touches (fun _ h1 => (wr_touches (hm.of rfl) (bump_touches (hm.of rfl) h1))) h)))))))

theorem stepBegin_touches {z : State} {msk : Nat} {d : Nat} {n : Nat} {target : Int} {s : State} (hm : Sub
    0x8000000001004 msk) (h : Touches msk z s) : Touches msk z (stepBegin d n target s) :=
  (touches_ite (stepEnd_touches (hm.of rfl) (wr_touches (hm.of rfl) (wr_touches (hm.of rfl) h))) (putStep_touches
    (hm.of rfl) (wr_touches (hm.of rfl) (wr_touches (hm.of rfl) h))))

theorem stepClampV_touches {z : State} {msk : Nat} {d : Nat} {n : Nat} {s : State} (hm : Sub 0x4 msk) (h : Touches msk
    z s) : Touches msk z (stepClampV d n s) :=
  (touches_ite (wr_touches (hm.of rfl) h) h)

theorem stepQstop_touches {z : State} {msk : Nat} {d : Nat} {n : Nat} {s : State} (hm : Sub 0x8000000001004 msk) (h :
    Touches msk z s) : Touches msk z (stepQstop d n s) :=
  (touches_ite (stepEnd_touches (hm.of rfl) h) (touches_ite h (putStep_touches (hm.of rfl) h)))

theorem stepStop_touches {z : State} {msk : Nat} {d : Nat} {n : Nat} {s : State} (hm : Sub 0x8000000001004 msk) (h :
    Touches msk z s) : Touches msk z (stepStop d n s) :=
  (touches_ite (stepEnd_touches (hm.of rfl) h) (touches_ite (putStep_touches (hm.of rfl) h) h))

theorem stepRefuse_touches {z : State} {msk : Nat} {d : Nat} {n : Nat} {s : State} (hm : Sub 0x1004 msk) (h : Touches
    msk z s) : Touches msk z (stepRefuse d n s) :=
  (evt_touches (hm.of rfl) (bump_touches (hm.of rfl) h))

theorem stepCtl_touches {z : State} {msk : Nat} {d : Nat} {n : Nat} {w : Nat} {s : State} (hm : Sub 0x8000000001004
    msk) (h : Touches msk z s) : Touches msk z (stepCtl d n w s) :=
  (touches_ite (touches_ite (stepBegin_touches (hm.of rfl) (touches_ite (stepStop_touches (hm.of rfl) (touches_ite
    (stepQstop_touches (hm.of rfl) h) h)) (touches_ite (stepQstop_touches (hm.of rfl) h) h))) (stepRefuse_touches
    (hm.of rfl) (touches_ite (stepStop_touches (hm.of rfl) (touches_ite (stepQstop_touches (hm.of rfl) h) h))
    (touches_ite (stepQstop_touches (hm.of rfl) h) h)))) (touches_ite (stepStop_touches (hm.of rfl) (touches_ite
    (stepQstop_touches (hm.of rfl) h) h)) (touches_ite (stepQstop_touches (hm.of rfl) h) h)))

theorem stepEnable_touches {z : State} {msk : Nat} {d : Nat} {n : Nat} {s : State} (hm : Sub 0x8000000000000 msk) (h :
    Touches msk z s) : Touches msk z (stepEnable d n s) :=
  (touches_ite (touches_ite (setStep_touches (hm.of rfl) h) h) (setStep_touches (hm.of rfl) h))

theorem stepFence_touches {z : State} {msk : Nat} {d : Nat} {n : Nat} {s : State} (hm : Sub 0x8000000001004 msk) (h :
    Touches msk z s) : Touches msk z (stepFence d n s) :=
  (touches_ite (setStep_touches (hm.of rfl) h) (stepEnd_touches (hm.of rfl) (setStep_touches (hm.of rfl) h)))

theorem stepIssue_touches {z : State} {msk : Nat} {d : Nat} {n : Nat} {s : State} (hm : Sub 0x8000000001004 msk) (h :
    Touches msk z s) : Touches msk z (stepIssue d n s) := by
  have e := Eq.refl @stepIssue; conv at e => rhs; delta stepIssue
  rw [e]
  (try dsimp only)
  split <;> (try dsimp only)
  exacts [h, (touches_ite h (by (try dsimp only); split <;> (try dsimp only); exacts [(stepEnd_touches (hm.of rfl) (wrS_touches (hm.of rfl) (setStep_touches (hm.of rfl) (Touches.upD_sent (hm.of rfl) h)))), (wrS_touches (hm.of rfl) (setStep_touches (hm.of rfl) (Touches.upD_sent (hm.of rfl) h)))]))]

theorem stepLimits_touches {z : State} {msk : Nat} {d : Nat} {n : Nat} {s : State} (hm : Sub 0x4 msk) (h : Touches msk
    z s) : Touches msk z (stepLimits d n s) :=
  (touches_ite (wr_touches (hm.of rfl) (bump_touches (hm.of rfl) h)) h)

theorem stepMove_touches {z : State} {msk : Nat} {d : Nat} {n : Nat} {target : Int} {s : State} (hm : Sub
    0x8000000001004 msk) (h : Touches msk z s) : Touches msk z (stepMove d n target s).2 :=
  (touches_ite1 (stepBegin_touches (hm.of rfl) h) h)

theorem stepPulses_touches {z : State} {msk : Nat} {s : State} (hm : Sub 0x8000000001004 msk) (h : Touches msk z s) :
    Touches msk z (stepPulses s) :=
  (foldl_touches (fun _ _ h1 => (stepIssue_touches (hm.of rfl) h1)) h)

end Sys2Proof.Machine
end

