-- ==== Sys2Proof/Laws/TouchesCues.lean ====
section
/-! SUPPORT. Which fields of the state every operation of Cues may change. -/

namespace Sys2Proof.Machine

theorem cueStore_touches {z : State} {msk : Nat} {d : Nat} {n : Nat} {s : State} (hm : Sub 0x4 msk) (h : Touches msk z
    s) : Touches msk z (cueStore d n s) :=
  (putWord_touches (hm.of rfl) (putWord_touches (hm.of rfl) (putWord_touches (hm.of rfl) h)))

theorem setCue_touches {z : State} {msk : Nat} {d : Nat} {n : Nat} {c : CueRun} {s : State} (hm : Sub 0x80000000000
    msk) (h : Touches msk z s) : Touches msk z (setCue d n c s) :=
  (Touches.upD_cues (hm.of rfl) h)

theorem setArmed_touches {z : State} {msk : Nat} {d : Nat} {n : Nat} {v : Bool} {s : State} (hm : Sub 0x4 msk) (h :
    Touches msk z s) : Touches msk z (setArmed d n v s) :=
  (setBitOf_touches (hm.of rfl) h)

theorem cueDisarm_touches {z : State} {msk : Nat} {d : Nat} {n : Nat} {s : State} (hm : Sub 0x80000000004 msk) (h :
    Touches msk z s) : Touches msk z (cueDisarm d n s) :=
  (setArmed_touches (hm.of rfl) (setCue_touches (hm.of rfl) h))

theorem cueAdvance_touches {z : State} {msk : Nat} {d : Nat} {n : Nat} {s : State} (hm : Sub 0x80000000004 msk) (h :
    Touches msk z s) : Touches msk z (cueAdvance d n s) :=
  (touches_ite (cueStore_touches (hm.of rfl) (setCue_touches (hm.of rfl) h)) (cueDisarm_touches (hm.of rfl) h))

theorem cueError_touches {z : State} {msk : Nat} {d : Nat} {n : Nat} {reason : Nat} {s : State} (hm : Sub 0x1004 msk)
    (h : Touches msk z s) : Touches msk z (cueError d n reason s) :=
  (evt_touches (hm.of rfl) (touches_ite h (putWord_touches (hm.of rfl) h)))

theorem cueArm_touches {z : State} {msk : Nat} {d : Nat} {n : Nat} {s : State} (hm : Sub 0x80000001004 msk) (h :
    Touches msk z s) : Touches msk z (cueArm d n s) :=
  (touches_ite h (touches_ite (cueError_touches (hm.of rfl) h) (setArmed_touches (hm.of rfl) (setCue_touches (hm.of
    rfl) h))))

theorem purgeArm_touches {z : State} {msk : Nat} {p : Nat} {target : Nat} {s : State} (hm : Sub 0x80000001004 msk) (h
    : Touches msk z s) : Touches msk z (purgeArm p target s) :=
  (cueArm_touches (hm.of rfl) (putBytes_touches (hm.of rfl) (putBytes_touches (hm.of rfl) h)))

theorem pathRunSet_touches {z : State} {msk : Nat} {p : Nat} {f : PathRun → PathRun} {s : State} (hm : Sub
    0x200000000000 msk) (h : Touches msk z s) : Touches msk z (pathRunSet p f s) :=
  (setPathRun_touches (hm.of rfl) h)

theorem purgeNext_touches {z : State} {msk : Nat} {n : Nat} {s : State} (hm : Sub 0x280000001004 msk) (h : Touches msk
    z s) : Touches msk z (purgeNext n s) :=
  (foldl_touches (fun _ _ h1 => (by (try dsimp only); split <;> (try dsimp only); exacts [(touches_ite
    (purgeArm_touches (hm.of rfl) (pathRunSet_touches (hm.of rfl) h1)) h1), h1])) h)

theorem cueCompleted_touches {z : State} {msk : Nat} {d : Nat} {n : Nat} {s : State} (hm : Sub 0x280000001004 msk) (h
    : Touches msk z s) : Touches msk z (cueCompleted d n s) :=
  (touches_ite (purgeNext_touches (hm.of rfl) (foldl_touches (fun _ _ h1 => (touches_ite (setCue_touches (hm.of rfl)
    h1) h1)) h)) (foldl_touches (fun _ _ h1 => (touches_ite (setCue_touches (hm.of rfl) h1) h1)) h))

theorem cueUnfence_touches {z : State} {msk : Nat} {d : Nat} {n : Nat} {s : State} (hm : Sub 0x9004 msk) (h : Touches
    msk z s) : Touches msk z (cueUnfence d n s) :=
  (setBitOf_touches (hm.of rfl) (unfence_touches (hm.of rfl) h))

theorem cueCtl_touches {z : State} {msk : Nat} {d : Nat} {w : Nat} {s : State} (hm : Sub 0x80000009004 msk) (h :
    Touches msk z s) : Touches msk z (cueCtl d w s) :=
  (touches_ite (cueArm_touches (hm.of rfl) (touches_ite (cueUnfence_touches (hm.of rfl) (touches_ite
    (cueDisarm_touches (hm.of rfl) h) h)) (touches_ite (cueDisarm_touches (hm.of rfl) h) h))) (touches_ite
    (cueUnfence_touches (hm.of rfl) (touches_ite (cueDisarm_touches (hm.of rfl) h) h)) (touches_ite (cueDisarm_touches
    (hm.of rfl) h) h)))

theorem cueFence_touches {z : State} {msk : Nat} {d : Nat} {n : Nat} {s : State} (hm : Sub 0x188000004b004 msk) (h :
    Touches msk z s) : Touches msk z (cueFence d n s) :=
  (setBitOf_touches (hm.of rfl) (addFence_touches (hm.of rfl) (cueDisarm_touches (hm.of rfl) h)))

theorem cueLate_touches {z : State} {msk : Nat} {d : Nat} {s : State} (hm : Sub 0x1800000041004 msk) (h : Touches msk
    z s) : Touches msk z (cueLate d s) :=
  (evt_touches (hm.of rfl) (recordFault_touches (hm.of rfl) (bump_touches (hm.of rfl) h)))

theorem cueReach_touches {z : State} {msk : Nat} {d : Nat} {k : Nat} {up : Bool} {s : State} (hm : Sub 0x80000000000
    msk) (h : Touches msk z s) : Touches msk z (cueReach d k up s) :=
  (foldl_touches (fun _ _ h1 => (touches_ite (setCue_touches (hm.of rfl) h1) h1)) h)

theorem cueRefuse_touches {z : State} {msk : Nat} {d : Nat} {s : State} (hm : Sub 0x1800000041004 msk) (h : Touches
    msk z s) : Touches msk z (cueRefuse d s) :=
  (evt_touches (hm.of rfl) (recordFault_touches (hm.of rfl) (bump_touches (hm.of rfl) h)))

theorem execCueComplete_touches {z : State} {msk : Nat} {d : Nat} {n : Nat} {s : State} (hm : Sub 0x280000001004 msk)
    (h : Touches msk z s) : TouchesO msk z (execCueComplete d n s) :=
  (touchesO_ite (.next h) (.next (cueCompleted_touches (hm.of rfl) (setCue_touches (hm.of rfl) h))))

theorem execEncoderIndex_touches {z : State} {msk : Nat} {d : Nat} {e : Nat} {s : State} (hm : Sub 0x2020000000004
    msk) (h : Touches msk z s) : TouchesO msk z (execEncoderIndex d e s) :=
  (touchesO_ite (.next h) (.next (foldl_touches (fun _ _ h1 => (touches_ite h1 (touches_ite (wr_touches (hm.of rfl)
    (setCounter_touches (hm.of rfl) (focIndex_touches (hm.of rfl) (wr_touches (hm.of rfl) h1)))) (focIndex_touches
    (hm.of rfl) (wr_touches (hm.of rfl) h1))))) h)))

theorem putResume_touches {z : State} {msk : Nat} {k : Nat} {x : Nat} {s : State} (hm : Sub 0x4 msk) (h : Touches msk
    z s) : Touches msk z (putResume k x s) :=
  (wr_touches (hm.of rfl) (wr_touches (hm.of rfl) h))

theorem setStartList_touches {z : State} {msk : Nat} {k : Nat} {l : List StartEntry} {s : State} (hm : Sub
    0x100000000004 msk) (h : Touches msk z s) : Touches msk z (setStartList k l s) :=
  (wr_touches (hm.of rfl) (Touches.upD_startLists (hm.of rfl) h))

theorem posAdjust_touches {z : State} {msk : Nat} {d : Nat} {c : Nat} {s : State} (hm : Sub 0x1a0000000004 msk) (h :
    Touches msk z s) : Touches msk z (posAdjust d c s) :=
  (gearAdjust_touches (hm.of rfl) (foldl_touches (fun _ _ h1 => (putResume_touches (hm.of rfl) (setStartList_touches
    (hm.of rfl) h1))) (foldl_touches (fun _ _ h1 => (touches_ite (cueStore_touches (hm.of rfl) (setCue_touches (hm.of
    rfl) h1)) h1)) (setCounter_touches (hm.of rfl) h))))

theorem showPurge_touches {z : State} {msk : Nat} {s : State} (hm : Sub 0x4 msk) (h : Touches msk z s) : Touches msk z
    (showPurge s) :=
  (wr_touches (hm.of rfl) (wr_touches (hm.of rfl) (wr_touches (hm.of rfl) h)))

theorem purgePop_touches {z : State} {msk : Nat} {s : State} (hm : Sub 0x400000000004 msk) (h : Touches msk z s) :
    Touches msk z (purgePop s) :=
  (showPurge_touches (hm.of rfl) (Touches.upD_purges (hm.of rfl) h))

theorem purgeRequest_touches {z : State} {msk : Nat} {p : Nat} {fsn : Nat} {xf : Nat} {s : State} (hm : Sub
    0x680000001004 msk) (h : Touches msk z s) : Touches msk z (purgeRequest p fsn xf s) :=
  (touches_ite (evt_touches (hm.of rfl) (bump_touches (hm.of rfl) (showPurge_touches (hm.of rfl) (touches_ite
    (Touches.upD_purges (hm.of rfl) h) (wr_touches (hm.of rfl) h))))) (touches_ite (pathRunSet_touches (hm.of rfl)
    (evt_touches (hm.of rfl) (bump_touches (hm.of rfl) (showPurge_touches (hm.of rfl) (touches_ite (Touches.upD_purges
    (hm.of rfl) h) (wr_touches (hm.of rfl) h)))))) (purgeArm_touches (hm.of rfl) (evt_touches (hm.of rfl)
    (bump_touches (hm.of rfl) (showPurge_touches (hm.of rfl) (touches_ite (Touches.upD_purges (hm.of rfl) h)
    (wr_touches (hm.of rfl) h))))))))

end Sys2Proof.Machine
end

