-- ==== Sys2Proof/Laws/TouchesPaths.lean ====
section
/-! SUPPORT. Which fields of the state every operation of Paths may change. -/

namespace Sys2Proof.Machine

theorem releaseHold_touches {z : State} {msk : Nat} {k : Nat} {s : State} (hm : Sub 0x18000040000000001004 msk) (h :
    Touches msk z s) : Touches msk z (releaseHold k s) :=
  (touches_ite (enterRun_touches (hm.of rfl) (touches_ite (wr_touches (hm.of rfl) (setSta_touches (hm.of rfl) h))
    (setSta_touches (hm.of rfl) h))) h)

theorem setPathState_touches {z : State} {msk : Nat} {p : Nat} {st : Nat} {s : State} (hm : Sub 0x4 msk) (h : Touches
    msk z s) : Touches msk z (setPathState p st s) :=
  (wr_touches (hm.of rfl) h)

theorem pathRun_touches {z : State} {msk : Nat} {p : Nat} {s : State} (hm : Sub 0x400000000000000004 msk) (h : Touches
    msk z s) : Touches msk z (pathRun p s) :=
  (touches_ite (setPathState_touches (hm.of rfl) (wr_touches (hm.of rfl) (Touches.upD_stopAtRun (hm.of rfl)
    (setPathState_touches (hm.of rfl) h)))) (setPathState_touches (hm.of rfl) h))

theorem pathJam_touches {z : State} {msk : Nat} {p : Nat} {s : State} (hm : Sub 0x1004 msk) (h : Touches msk z s) :
    Touches msk z (pathJam p s) :=
  (touches_ite h (evt_touches (hm.of rfl) (setPathState_touches (hm.of rfl) h)))

theorem pathEnable_touches {z : State} {msk : Nat} {p : Nat} {s : State} (hm : Sub 0x18400040000000001004 msk) (h :
    Touches msk z s) : Touches msk z (pathEnable p s) :=
  (touches_ite (touches_ite h (foldl_touches (fun _ _ h1 => (releaseHold_touches (hm.of rfl) h1))
    (setPathState_touches (hm.of rfl) h))) (touches_ite (touches_ite (pathJam_touches (hm.of rfl) (pathRun_touches
    (hm.of rfl) h)) (pathRun_touches (hm.of rfl) h)) h))

theorem criticalStop_touches {z : State} {msk : Nat} {d : Nat} {s : State} (hm : Sub 0x18400040000000001004 msk) (h :
    Touches msk z s) : Touches msk z (criticalStop d s) :=
  (foldl_touches (fun _ _ h1 => (touches_ite (touches_ite (pathEnable_touches (hm.of rfl) (wr_touches (hm.of rfl) h1))
    (touches_ite h1 (wr_touches (hm.of rfl) (Touches.upD_stopAtRun (hm.of rfl) h1)))) h1)) h)

theorem dropDue_touches {z : State} {msk : Nat} {k : Nat} {s : State} (hm : Sub 0x100000000004 msk) (h : Touches msk z
    s) : Touches msk z (dropDue k s) :=
  (touches_ite (setStartList_touches (hm.of rfl) h) h)

theorem pathRunup_touches {z : State} {msk : Nat} {p : Nat} {s : State} (hm : Sub 0x400000000000001004 msk) (h :
    Touches msk z s) : Touches msk z (pathRunup p s) :=
  (touches_ite (evt_touches (hm.of rfl) (pathRun_touches (hm.of rfl) h)) h)

theorem execPathStandstill_touches {z : State} {msk : Nat} {p : Nat} {s : State} (hm : Sub 0x400000000000001004 msk)
    (h : Touches msk z s) : TouchesO msk z (execPathStandstill p s) :=
  (touchesO_ite (.next h) (touchesO_ite (.next (evt_touches (hm.of rfl) (setPathState_touches (hm.of rfl) h)))
    (touchesO_ite (.next (pathRunup_touches (hm.of rfl) (setPathState_touches (hm.of rfl) h))) (.next h))))

theorem pathDecel_touches {z : State} {msk : Nat} {p : Nat} {s : State} (hm : Sub 0x200000000004 msk) (h : Touches msk
    z s) : Touches msk z (pathDecel p s) :=
  (touches_ite (setPathState_touches (hm.of rfl) (pathRunSet_touches (hm.of rfl) h)) h)

theorem pathCause_touches {z : State} {msk : Nat} {p : Nat} {cause : Nat} {s : State} (hm : Sub 0x40300000001004 msk)
    (h : Touches msk z s) : Touches msk z (pathCause p cause s) :=
  (touches_ite h (pathDecel_touches (hm.of rfl) (foldl_touches (fun _ _ h1 => (dropDue_touches (hm.of rfl)
    (touches_ite (setSta_touches (hm.of rfl) h1) h1))) (evt_touches (hm.of rfl) (bump_touches (hm.of rfl) (wr_touches
    (hm.of rfl) (setPathState_touches (hm.of rfl) h)))))))

theorem execPathStopCause_touches {z : State} {msk : Nat} {p : Nat} {s : State} (hm : Sub 0x40300000003004 msk) (h :
    Touches msk z s) : TouchesO msk z (execPathStopCause p s) := by
  have e := Eq.refl @execPathStopCause; conv at e => rhs; delta execPathStopCause
  rw [e]
  (try dsimp only)
  split <;> (try dsimp only)
  exacts [(.next (pathCause_touches (hm.of rfl) ((takeMsg_touches (hm.of rfl) h) _ (by assumption)))), (.next h)]

theorem rhoOf_touches {z : State} {msk : Nat} {v : Int} {run : Int} {s : State} (hm : Sub 0x4000 msk) (h : Touches msk
    z s) : Touches msk z (rhoOf v run s).2 :=
  (touches_ite1 (drawFree_touches (hm.of rfl) h) h)

theorem execRhoBroadcast_touches {z : State} {msk : Nat} {p : Nat} {s : State} (hm : Sub 0x200000004004 msk) (h :
    Touches msk z s) : TouchesO msk z (execRhoBroadcast p s) :=
  (touchesO_ite (.next h) (.next (wr_touches (hm.of rfl) (pathRunSet_touches (hm.of rfl) (rhoOf_touches (hm.of rfl)
    h)))))

theorem pathBackfeed_touches {z : State} {msk : Nat} {p : Nat} {s : State} (hm : Sub 0x4004 msk) (h : Touches msk z s)
    : Touches msk z (pathBackfeed p s) :=
  (setPathState_touches (hm.of rfl) (wr_touches (hm.of rfl) (wr_touches (hm.of rfl)
    (by (try dsimp only); split <;> (try dsimp only); exacts [(drawFree_touches (hm.of rfl) h), h]))))

theorem pathClear_touches {z : State} {msk : Nat} {p : Nat} {s : State} (hm : Sub 0x18400040000000001004 msk) (h :
    Touches msk z s) : Touches msk z (pathClear p s) :=
  (touches_ite (evt_touches (hm.of rfl) (pathRun_touches (hm.of rfl) (foldl_touches (fun _ _ h1 =>
    (releaseHold_touches (hm.of rfl) h1)) h))) h)

theorem pathResume_touches {z : State} {msk : Nat} {p : Nat} {s : State} (hm : Sub 0x4004 msk) (h : Touches msk z s) :
    Touches msk z (pathResume p s) :=
  (touches_ite (pathBackfeed_touches (hm.of rfl) h) h)

theorem pathCtl_touches {z : State} {msk : Nat} {p : Nat} {w : Nat} {s : State} (hm : Sub 0x18400040300000005004 msk)
    (h : Touches msk z s) : Touches msk z (pathCtl p w s) :=
  (touches_ite (pathClear_touches (hm.of rfl) (touches_ite (pathResume_touches (hm.of rfl) (touches_ite
    (pathCause_touches (hm.of rfl) h) h)) (touches_ite (pathCause_touches (hm.of rfl) h) h))) (touches_ite
    (pathResume_touches (hm.of rfl) (touches_ite (pathCause_touches (hm.of rfl) h) h)) (touches_ite (pathCause_touches
    (hm.of rfl) h) h)))

theorem reachResume_touches {z : State} {msk : Nat} {d : Nat} {c : Nat} {up : Bool} {s : State} (hm : Sub
    0x40000000000000 msk) (h : Touches msk z s) : Touches msk z (reachResume d c up s) :=
  (foldl_touches (fun _ _ h1 => (touches_ite (setSta_touches (hm.of rfl) h1) h1)) h)

theorem reachStart_touches {z : State} {msk : Nat} {d : Nat} {c : Nat} {up : Bool} {s : State} (hm : Sub
    0x100000000004 msk) (h : Touches msk z s) : Touches msk z (reachStart d c up s) :=
  (foldl_touches (fun _ _ h1 => (by (try dsimp only); split <;> (try dsimp only); exacts [h1, (touches_ite
    (setStartList_touches (hm.of rfl) h1) h1)])) h)

theorem sendCause_touches {z : State} {msk : Nat} {p : Nat} {cause : Nat} {s : State} (hm : Sub 0x2000 msk) (h :
    Touches msk z s) : Touches msk z (sendCause p cause s) :=
  (Touches.upD_msgs (hm.of rfl) h)

theorem runupFailed_touches {z : State} {msk : Nat} {d : Nat} {p : Nat} {s : State} (hm : Sub 0x1800000043004 msk) (h
    : Touches msk z s) : Touches msk z (runupFailed d p s) :=
  (sendCause_touches (hm.of rfl) (wr_touches (hm.of rfl) (recordFault_touches (hm.of rfl) (evt_touches (hm.of rfl)
    h))))

theorem stationStopped_touches {z : State} {msk : Nat} {k : Nat} {s : State} (hm : Sub 0x200000000004 msk) (h :
    Touches msk z s) : Touches msk z (stationStopped k s) :=
  (touches_ite (pathDecel_touches (hm.of rfl) h) h)

theorem watchStart_touches {z : State} {msk : Nat} {k : Nat} {s : State} (hm : Sub 0x100000000004 msk) (h : Touches
    msk z s) : Touches msk z (watchStart k s) := by
  have e := Eq.refl @watchStart; conv at e => rhs; delta watchStart
  rw [e]
  (try dsimp only)
  split <;> (try dsimp only)
  exacts [h, (touches_ite (setStartList_touches (hm.of rfl) h) h)]

end Sys2Proof.Machine
end

