-- ==== Sys2Proof/Laws/TouchesFrames.lean ====
section
/-! SUPPORT. Which fields of the state every operation of Frames may change. -/

namespace Sys2Proof.Machine

theorem cmdResult_touches {z : State} {msk : Nat} {cmd : Nat} {result : Nat} {slot : Nat} {s : State} (hm : Sub 0x1004
    msk) (h : Touches msk z s) : Touches msk z (cmdResult cmd result slot s) :=
  (evt_touches (hm.of rfl) (putWord_touches (hm.of rfl) h))

theorem dropPlanes_touches {z : State} {msk : Nat} {i : Nat} {s : State} (hm : Sub 0x4000000 msk) (h : Touches msk z
    s) : Touches msk z (dropPlanes i s) :=
  (foldl_touches (fun _ _ h1 => (setPlane_touches (hm.of rfl) h1)) h)

theorem dropStarts_touches {z : State} {msk : Nat} {i : Nat} {k : Nat} {s : State} (hm : Sub 0x40100000000004 msk) (h
    : Touches msk z s) : Touches msk z (dropStarts i k s) :=
  (touches_ite (watchStart_touches (hm.of rfl) (setStartList_touches (hm.of rfl) (touches_ite (setSta_touches (hm.of
    rfl) h) h))) (touches_ite (setSta_touches (hm.of rfl) h) h))

theorem dropImaging_touches {z : State} {msk : Nat} {i : Nat} {k : Nat} {s : State} (hm : Sub 0x80010000000000 msk) (h
    : Touches msk z s) : Touches msk z (dropImaging i k s) :=
  (Touches.upD_imagers (hm.of rfl) (foldl_touches (fun _ _ h1 => (Touches.upD_dlanes (hm.of rfl) h1)) h))

theorem spoilStation_touches {z : State} {msk : Nat} {i : Nat} {k : Nat} {s : State} (hm : Sub 0xc0110000002004 msk)
    (h : Touches msk z s) : Touches msk z (spoilStation i k s) :=
  (dropStarts_touches (hm.of rfl) (dropImaging_touches (hm.of rfl) (touches_ite (touches_ite (Touches.upD_msgs (hm.of
    rfl) (setSta_touches (hm.of rfl) h)) (setSta_touches (hm.of rfl) h)) h)))

theorem freeSlot_touches {z : State} {msk : Nat} {i : Nat} {s : State} (hm : Sub 0xc0110016002004 msk) (h : Touches
    msk z s) : Touches msk z (freeSlot i s) :=
  (dropPlanes_touches (hm.of rfl) (setSlot_touches (hm.of rfl) (foldl_touches (fun _ _ h1 => (spoilStation_touches
    (hm.of rfl) h1)) (by (try dsimp only); split <;> (try dsimp only); exacts [(touches_ite (setRetained_touches
    (hm.of rfl) h) h), h]))))

theorem pushFreed_touches {z : State} {msk : Nat} {fsn : Nat} {s : State} (hm : Sub 0x20001004 msk) (h : Touches msk z
    s) : Touches msk z (pushFreed fsn s) :=
  (evt_touches (hm.of rfl) (Touches.upD_freed (hm.of rfl) h))

theorem freedDone_touches {z : State} {msk : Nat} {w : FreedWait} {s : State} (hm : Sub 0xc0110036003004 msk) (h :
    Touches msk z s) : Touches msk z (freedDone w s) := by
  have e := Eq.refl @freedDone; conv at e => rhs; delta freedDone
  rw [e]
  (try dsimp only)
  split <;> (try dsimp only)
  exacts [(freeSlot_touches (hm.of rfl) (pushFreed_touches (hm.of rfl) h)), (setRetained_touches (hm.of rfl) (pushFreed_touches (hm.of rfl) h))]

theorem drainFreed_touches {z : State} {msk : Nat} {x0 : List FreedWait} {x1 : State} (hm : Sub 0xc0110076003004 msk)
    (h : Touches msk z x1) : Touches msk z (drainFreed x0 x1) := by
  have h0 : Sub 0xc0110036003004 msk := hm.of rfl
  fun_induction drainFreed x0 x1 <;> first | exact Touches.upD_freedWait (hm.of rfl) (by assumption) | grind [freedDone_touches]

theorem entryBytes_touches {z : State} {msk : Nat} {e : Nat} {s : State} (hm : Sub 0x1800000045004 msk) (h : Touches
    msk z s) : Touches msk z (entryBytes e s).2 := by
  have e := Eq.refl @entryBytes; conv at e => rhs; delta entryBytes
  rw [e]
  (try dsimp only)
  split <;> (try dsimp only)
  exacts [(Touches.ofPair (by assumption) (agentRead_touches (hm.of rfl) h)), (freeBytes_touches (hm.of rfl) (Touches.ofPair (by assumption) (agentRead_touches (hm.of rfl) h)))]

theorem queueFreed_touches {z : State} {msk : Nat} {w : FreedWait} {s : State} (hm : Sub 0xc0110076003004 msk) (h :
    Touches msk z s) : Touches msk z (queueFreed w s) :=
  (touches_ite h (touches_ite (freedDone_touches (hm.of rfl) h) (evt_touches (hm.of rfl) (Touches.upD_freedWait (hm.of
    rfl) h))))

theorem entryCheck_touches {z : State} {msk : Nat} {fsn : Nat} {s : State} (hm : Sub 0xc0110076003004 msk) (h :
    Touches msk z s) : Touches msk z (entryCheck fsn s) := by
  have e := Eq.refl @entryCheck; conv at e => rhs; delta entryCheck
  rw [e]
  (try dsimp only)
  split <;> (try dsimp only)
  exacts [h, (touches_ite (queueFreed_touches (hm.of rfl) h) h)]

theorem execFrameAdmitted_touches {z : State} {msk : Nat} {i : Nat} {s : State} (hm : Sub 0x12001004 msk) (h : Touches
    msk z s) : TouchesO msk z (execFrameAdmitted i s) :=
  (touchesO_ite (.next h) (touchesO_ite (by (try dsimp only); split <;> (try dsimp only); exacts [(.next (evt_touches
    (hm.of rfl) h)), (.next (evt_touches (hm.of rfl) (setSlot_touches (hm.of rfl) (setRetained_touches (hm.of rfl)
    h))))]) (.next (evt_touches (hm.of rfl) (setSlot_touches (hm.of rfl) h)))))

theorem execFrameArmed_touches {z : State} {msk : Nat} {i : Nat} {s : State} (hm : Sub 0x2000000 msk) (h : Touches msk
    z s) : TouchesO msk z (execFrameArmed i s) :=
  (touchesO_ite (.next h) (.next (setSlot_touches (hm.of rfl) h)))

theorem goFree_touches {z : State} {msk : Nat} {i : Nat} {s : State} (hm : Sub 0xc0110076003004 msk) (h : Touches msk
    z s) : Touches msk z (goFree i s) :=
  (touches_ite (entryCheck_touches (hm.of rfl) (freeSlot_touches (hm.of rfl) h)) (queueFreed_touches (hm.of rfl) h))

theorem goRetained_touches {z : State} {msk : Nat} {i : Nat} {s : State} (hm : Sub 0xc011027600300c msk) (h : Touches
    msk z s) : Touches msk z (goRetained i s) := by
  have e := Eq.refl @goRetained; conv at e => rhs; delta goRetained
  rw [e]
  (try dsimp only)
  split <;> (try dsimp only)
  exacts [(goFree_touches (hm.of rfl) h), (freeSlot_touches (hm.of rfl) (setRetained_touches (hm.of rfl) (agentPut_touches (hm.of rfl) h)))]

theorem execFrameRetire_touches {z : State} {msk : Nat} {i : Nat} {s : State} (hm : Sub 0xc011027600300c msk) (h :
    Touches msk z s) : TouchesO msk z (execFrameRetire i s) :=
  (touchesO_ite (.next h) (touchesO_ite (.next (goRetained_touches (hm.of rfl) h)) (.next (goFree_touches (hm.of rfl)
    h))))

theorem execPlaneDescriptorMsg_touches {z : State} {msk : Nat} {i : Nat} {k : Nat} {s : State} (hm : Sub 0xc002000
    msk) (h : Touches msk z s) : TouchesO msk z (execPlaneDescriptorMsg i k s) := by
  have e := Eq.refl @execPlaneDescriptorMsg; conv at e => rhs; delta execPlaneDescriptorMsg
  rw [e]
  (try dsimp only)
  split <;> (try dsimp only)
  exacts [(.next h), (touchesO_ite (.next ((takeMsg_touches (hm.of rfl) h) _ (by assumption))) (.next (setPlane_touches (hm.of rfl) (Touches.upD_decls (hm.of rfl) ((takeMsg_touches (hm.of rfl) h) _ (by assumption))))))]

theorem setFrameCount_touches {z : State} {msk : Nat} {i : Nat} {v : Nat} {s : State} (hm : Sub 0x4 msk) (h : Touches
    msk z s) : Touches msk z (setFrameCount i v s) :=
  (putBytes_touches (hm.of rfl) h)

theorem requeue_touches {z : State} {msk : Nat} {i : Nat} {s : State} (hm : Sub 0x80010006000004 msk) (h : Touches msk
    z s) : Touches msk z (requeue i s) :=
  (foldl_touches (fun _ _ h1 => (touches_ite (foldl_touches (fun _ _ h2 => (dropImaging_touches (hm.of rfl) h2))
    (setSlot_touches (hm.of rfl) h1)) h1)) (foldl_touches (fun _ _ h1 => (setPlane_touches (hm.of rfl) h1))
    (setSlot_touches (hm.of rfl) (touches_ite (setFrameCount_touches (hm.of rfl) h) h))))

theorem setEntryCount_touches {z : State} {msk : Nat} {e : Nat} {n : Nat} {s : State} (hm : Sub 0x21000100c msk) (h :
    Touches msk z s) : Touches msk z (setEntryCount e n s) :=
  (agentPut_touches (hm.of rfl) (setRetained_touches (hm.of rfl) h))

theorem giveBack_touches {z : State} {msk : Nat} {fsn : Nat} {s : State} (hm : Sub 0x21000100c msk) (h : Touches msk z
    s) : Touches msk z (giveBack fsn s) := by
  have e := Eq.refl @giveBack; conv at e => rhs; delta giveBack
  rw [e]
  (try dsimp only)
  split <;> (try dsimp only)
  exacts [(touches_ite h (setEntryCount_touches (hm.of rfl) h)), h]

theorem execSpoiledExit_touches {z : State} {msk : Nat} {i : Nat} {s : State} (hm : Sub 0xc011027600300c msk) (h :
    Touches msk z s) : TouchesO msk z (execSpoiledExit i s) :=
  (touchesO_ite (.next h) (by (try dsimp only); split <;> (try dsimp only); exacts [(.next (requeue_touches (hm.of
    rfl) h)), (.next (goRetained_touches (hm.of rfl) h)), (.next (goFree_touches (hm.of rfl) (touches_ite
    (giveBack_touches (hm.of rfl) h) h)))]))

theorem spoilPurge_touches {z : State} {msk : Nat} {i : Nat} {cause : Nat} {s : State} (hm : Sub 0x680000001004 msk)
    (h : Touches msk z s) : Touches msk z (spoilPurge i cause s) := by
  have e := Eq.refl @spoilPurge; conv at e => rhs; delta spoilPurge
  rw [e]
  (try dsimp only)
  split <;> (try dsimp only)
  exacts [(touches_ite (purgeRequest_touches (hm.of rfl) h) h), h]

theorem spoilAgain_touches {z : State} {msk : Nat} {i : Nat} {cause : Nat} {k : Nat} {s : State} (hm : Sub
    0x680082001004 msk) (h : Touches msk z s) : Touches msk z (spoilAgain i cause k s) :=
  (touches_ite (touches_ite (spoilPurge_touches (hm.of rfl) (Touches.upD_spoilLog (hm.of rfl) (setSlot_touches (hm.of
    rfl) h))) (Touches.upD_spoilLog (hm.of rfl) (setSlot_touches (hm.of rfl) h))) h)

theorem logSpoil_touches {z : State} {msk : Nat} {e : SpoilEntry} {s : State} (hm : Sub 0x80000004 msk) (h : Touches
    msk z s) : Touches msk z (logSpoil e s) :=
  (touches_ite (Touches.upD_spoilLog (hm.of rfl) h) (wr_touches (hm.of rfl) (bump_touches (hm.of rfl) h)))

theorem spoilFrame_touches {z : State} {msk : Nat} {i : Nat} {cause : Nat} {k : Nat} {s : State} (hm : Sub
    0xc0790182003004 msk) (h : Touches msk z s) : Touches msk z (spoilFrame i cause k s) :=
  (touches_ite (spoilAgain_touches (hm.of rfl) h) (spoilPurge_touches (hm.of rfl) (foldl_touches (fun _ _ h1 =>
    (spoilStation_touches (hm.of rfl) h1)) (evt_touches (hm.of rfl) (logSpoil_touches (hm.of rfl) (Touches.upD_spoils
    (hm.of rfl) (setSlot_touches (hm.of rfl) h)))))))

theorem frameAbort_touches {z : State} {msk : Nat} {fsn : Nat} {s : State} (hm : Sub 0xc07903f600300c msk) (h :
    Touches msk z s) : Touches msk z (frameAbort fsn s) := by
  have e := Eq.refl @frameAbort; conv at e => rhs; delta frameAbort
  rw [e]
  (try dsimp only)
  split <;> (try dsimp only)
  exacts [(cmdResult_touches (hm.of rfl) h), (touches_ite (cmdResult_touches (hm.of rfl) (spoilFrame_touches (hm.of rfl) h)) (touches_ite (cmdResult_touches (hm.of rfl) (goFree_touches (hm.of rfl) (giveBack_touches (hm.of rfl) h))) (cmdResult_touches (hm.of rfl) (queueFreed_touches (hm.of rfl) (setSlot_touches (hm.of rfl) (foldl_touches (fun _ _ h1 => (spoilStation_touches (hm.of rfl) h1)) (by (try dsimp only); split <;> (try dsimp only); exacts [(setRetained_touches (hm.of rfl) (setSlot_touches (hm.of rfl) h)), h])))))))]

theorem frameBegun_touches {z : State} {msk : Nat} {i : Nat} {k : Nat} {s : State} (hm : Sub 0x2000000 msk) (h :
    Touches msk z s) : Touches msk z (frameBegun i k s) :=
  (setSlot_touches (hm.of rfl) h)

theorem frameRelease_touches {z : State} {msk : Nat} {fsn : Nat} {s : State} (hm : Sub 0xc0110076003004 msk) (h :
    Touches msk z s) : Touches msk z (frameRelease fsn s) := by
  have e := Eq.refl @frameRelease; conv at e => rhs; delta frameRelease
  rw [e]
  (try dsimp only)
  split <;> (try dsimp only)
  exacts [(cmdResult_touches (hm.of rfl) (entryCheck_touches (hm.of rfl) (setRetained_touches (hm.of rfl) h))), (cmdResult_touches (hm.of rfl) h)]

theorem submitReject_touches {z : State} {msk : Nat} {i : Nat} {reason : Nat} {s : State} (hm : Sub 0x1004 msk) (h :
    Touches msk z s) : Touches msk z (submitReject i reason s) :=
  (evt_touches (hm.of rfl) (wr_touches (hm.of rfl) (wr_touches (hm.of rfl) (wr_touches (hm.of rfl) h))))

theorem submitSlot_touches {z : State} {msk : Nat} {i : Nat} {s0 : State} (hm : Sub 0x7003004 msk) (h : Touches msk z
    s0) : Touches msk z (submitSlot i s0) :=
  (touches_ite (submitReject_touches (hm.of rfl) (Touches.upD_lastFsnValid (hm.of rfl) h)) (Touches.upD_msgs (hm.of
    rfl) (wr_touches (hm.of rfl) (setSlot_touches (hm.of rfl) (dropPlanes_touches (hm.of rfl)
    (Touches.upD_lastFsnValid (hm.of rfl) h))))))

theorem frameSubmit_touches {z : State} {msk : Nat} {i : Nat} {s : State} (hm : Sub 0x7003004 msk) (h : Touches msk z
    s) : Touches msk z (frameSubmit i s) :=
  (touches_ite (submitSlot_touches (hm.of rfl) h) (submitReject_touches (hm.of rfl) (Touches.upD_lastFsnValid (hm.of
    rfl) h)))

theorem freedPop_touches {z : State} {msk : Nat} {s : State} (hm : Sub 0xc0110076003004 msk) (h : Touches msk z s) :
    Touches msk z (freedPop s) :=
  (drainFreed_touches (hm.of rfl) (Touches.upD_freed (hm.of rfl) h))

theorem leadCheck_touches {z : State} {msk : Nat} {i : Nat} {k : Nat} {s : State} (hm : Sub 0x2000 msk) (h : Touches
    msk z s) : Touches msk z (leadCheck i k s) :=
  (touches_ite (sendCause_touches (hm.of rfl) h) h)

theorem leadCheckStation_touches {z : State} {msk : Nat} {k : Nat} {s : State} (hm : Sub 0x2000 msk) (h : Touches msk
    z s) : Touches msk z (leadCheckStation k s) :=
  (foldl_touches (fun _ _ h1 => (touches_ite (leadCheck_touches (hm.of rfl) h1) h1)) h)

theorem leadCheckAll_touches {z : State} {msk : Nat} {s : State} (hm : Sub 0x2000 msk) (h : Touches msk z s) : Touches
    msk z (leadCheckAll s) :=
  (foldl_touches (fun _ _ h1 => (leadCheckStation_touches (hm.of rfl) h1)) h)

theorem planeFinished_touches {z : State} {msk : Nat} {i : Nat} {k : Nat} {s : State} (hm : Sub 0x2001004 msk) (h :
    Touches msk z s) : Touches msk z (planeFinished i k s) :=
  (touches_ite (evt_touches (hm.of rfl) (setSlot_touches (hm.of rfl) h)) (setSlot_touches (hm.of rfl) h))

theorem reprintGo_touches {z : State} {msk : Nat} {s : State} (hm : Sub 0x180021704500c msk) (h : Touches msk z s) :
    Touches msk z (reprintGo s) := by
  have e := Eq.refl @reprintGo; conv at e => rhs; delta reprintGo
  rw [e]
  (try dsimp only)
  split <;> (try dsimp only)
  exacts [(cmdResult_touches (hm.of rfl) h), (touches_ite (cmdResult_touches (hm.of rfl) h) (touches_ite (cmdResult_touches (hm.of rfl) h) (touches_ite (cmdResult_touches (hm.of rfl) h) (by (try dsimp only); split <;> (try dsimp only); exacts [(cmdResult_touches (hm.of rfl) h), (cmdResult_touches (hm.of rfl) (touches_ite (foldl_touches (fun _ _ h1 => (setPlane_touches (hm.of rfl) h1)) (wr_touches (hm.of rfl) (Touches.upD_lastFsnValid (hm.of rfl) (setSlot_touches (hm.of rfl) (putBytes_touches (hm.of rfl) (dropPlanes_touches (hm.of rfl) (entryBytes_touches (hm.of rfl) h))))))) (setEntryCount_touches (hm.of rfl) (foldl_touches (fun _ _ h1 => (setPlane_touches (hm.of rfl) h1)) (wr_touches (hm.of rfl) (Touches.upD_lastFsnValid (hm.of rfl) (setSlot_touches (hm.of rfl) (putBytes_touches (hm.of rfl) (dropPlanes_touches (hm.of rfl) (entryBytes_touches (hm.of rfl) h))))))))))]))))]

theorem spoilAll_touches {z : State} {msk : Nat} {cause : Nat} {s : State} (hm : Sub 0xc0790182003004 msk) (h :
    Touches msk z s) : Touches msk z (spoilAll cause s) :=
  (foldl_touches (fun _ _ h1 => (by (try dsimp only); split <;> (try dsimp only); exacts [(touches_ite h1
    (spoilFrame_touches (hm.of rfl) h1)), h1])) h)

theorem spoilDie_touches {z : State} {msk : Nat} {d : Nat} {cause : Nat} {s : State} (hm : Sub 0xc0790182003004 msk)
    (h : Touches msk z s) : Touches msk z (spoilDie d cause s) :=
  (foldl_touches (fun _ _ h1 => (by (try dsimp only); split <;> (try dsimp only); exacts [(touches_ite h1
    (spoilFrame_touches (hm.of rfl) h1)), h1])) h)

theorem spoilImaging_touches {z : State} {msk : Nat} {k : Nat} {cause : Nat} {s : State} (hm : Sub 0xc0790182003004
    msk) (h : Touches msk z s) : Touches msk z (spoilImaging k cause s) :=
  (foldl_touches (fun _ _ h1 => (touches_ite (spoilFrame_touches (hm.of rfl) h1) h1)) h)

theorem spoilPop_touches {z : State} {msk : Nat} {s : State} (hm : Sub 0x80000000 msk) (h : Touches msk z s) : Touches
    msk z (spoilPop s) :=
  (Touches.upD_spoilLog (hm.of rfl) h)

theorem surveyedCheck_touches {z : State} {msk : Nat} {i : Nat} {s : State} (hm : Sub 0x2000000 msk) (h : Touches msk
    z s) : Touches msk z (surveyedCheck i s) :=
  (touches_ite (setSlot_touches (hm.of rfl) h) h)

end Sys2Proof.Machine
end

