-- ==== Sys2Proof/Laws/TouchesStationFence.lean ====
section
/-! SUPPORT. Which fields of the state every operation of StationFence may change. -/

namespace Sys2Proof.Machine

theorem gateAtBoundary_touches {z : State} {msk : Nat} {k : Nat} {s : State} (hm : Sub 0x40000000000000 msk) (h :
    Touches msk z s) : Touches msk z (gateAtBoundary k s) :=
  (setSta_touches (hm.of rfl) h)

theorem gateFresh_touches {z : State} {msk : Nat} {k : Nat} {s : State} (hm : Sub 0x40000000000000 msk) (h : Touches
    msk z s) : Touches msk z (gateFresh k s) :=
  (touches_ite (setSta_touches (hm.of rfl) h) h)

theorem lenUpdate_touches {z : State} {msk : Nat} {k : Nat} {s : State} (hm : Sub 0x1004 msk) (h : Touches msk z s) :
    Touches msk z (lenUpdate k s) :=
  (touches_ite h (touches_ite (wr_touches (hm.of rfl) h) (evt_touches (hm.of rfl) (wr_touches (hm.of rfl) h))))

theorem setLatch_touches {z : State} {msk : Nat} {k : Nat} {bit : Nat} {v : Bool} {s : State} (hm : Sub 0x4 msk) (h :
    Touches msk z s) : Touches msk z (setLatch k bit v s) :=
  (setBitOf_touches (hm.of rfl) h)

theorem timingOff_touches {z : State} {msk : Nat} {k : Nat} {s : State} (hm : Sub 0xc0790182003004 msk) (h : Touches
    msk z s) : Touches msk z (timingOff k s) :=
  (touches_ite h (stationStopped_touches (hm.of rfl) (lenUpdate_touches (hm.of rfl) (spoilImaging_touches (hm.of rfl)
    (touches_ite (evt_touches (hm.of rfl) (wr_touches (hm.of rfl) (wr_touches (hm.of rfl) (setSta_touches (hm.of rfl)
    h)))) (wr_touches (hm.of rfl) (wr_touches (hm.of rfl) (setSta_touches (hm.of rfl) h))))))))

theorem stationFence_touches {z : State} {msk : Nat} {k : Nat} {s : State} (hm : Sub 0x180000c1f9018205b004 msk) (h :
    Touches msk z s) : Touches msk z (stationFence k s) :=
  (touches_ite (Touches.upD_unfPending (hm.of rfl) h) (headForm_touches (hm.of rfl) (closeSession_touches (hm.of rfl)
    (lenUpdate_touches (hm.of rfl) (timingOff_touches (hm.of rfl) (setSta_touches (hm.of rfl) (addFence_touches (hm.of
    rfl) (Touches.upD_unfPending (hm.of rfl) (spoilImaging_touches (hm.of rfl) h)))))))))

theorem stationFault_touches {z : State} {msk : Nat} {k : Nat} {p : Nat} {src : Nat} {forced : Bool} {s : State} (hm :
    Sub 0x180000c1f9018205b004 msk) (h : Touches msk z s) : Touches msk z (stationFault k p src forced s) :=
  (touches_ite (stationFence_touches (hm.of rfl) (recordFault_touches (hm.of rfl) h)) (recordFault_touches (hm.of rfl)
    h))

theorem stationRefuse_touches {z : State} {msk : Nat} {k : Nat} {kind : Nat} {addr : Nat} {s : State} (hm : Sub 0x1004
    msk) (h : Touches msk z s) : Touches msk z (stationRefuse k kind addr s) :=
  (evt_touches (hm.of rfl) (touches_ite h (wr_touches (hm.of rfl) (wr_touches (hm.of rfl) (wr_touches (hm.of rfl)
    h)))))

theorem timingEnd_touches {z : State} {msk : Nat} {k : Nat} {s : State} (hm : Sub 0x180000c1f9018205b004 msk) (h :
    Touches msk z s) : Touches msk z (timingEnd k s) :=
  (touches_ite (stationFence_touches (hm.of rfl) (timingOff_touches (hm.of rfl) h)) (timingOff_touches (hm.of rfl) h))

end Sys2Proof.Machine
end

