-- ==== Sys2Proof/Laws/TouchesSurvey.lean ====
section
/-! SUPPORT. Which fields of the state every operation of Survey may change. -/

namespace Sys2Proof.Machine

theorem setDlane_touches {z : State} {msk : Nat} {d : Nat} {n : Nat} {v : DecodeLane} {s : State} (hm : Sub
    0x10000000000 msk) (h : Touches msk z s) : Touches msk z (setDlane d n v s) :=
  (Touches.upD_dlanes (hm.of rfl) h)

theorem clearRecords_touches {z : State} {msk : Nat} {i : Nat} {k : Nat} {c : Nat} {s : State} (hm : Sub 0x20000100c
    msk) (h : Touches msk z s) : Touches msk z (clearRecords i k c s) :=
  (foldl_touches (fun _ _ h1 => (touches_ite (agentPut_touches (hm.of rfl) h1) h1)) h)

theorem resurveyFrom_touches {z : State} {msk : Nat} {i : Nat} {k : Nat} {n : Nat} {s : State} (hm : Sub 0x1020400300c
    msk) (h : Touches msk z s) : Touches msk z (resurveyFrom i k n s) :=
  (leadCheckStation_touches (hm.of rfl) (setPlane_touches (hm.of rfl) (clearRecords_touches (hm.of rfl) (foldl_touches
    (fun _ _ h1 => (by (try dsimp only); split <;> (try dsimp only); exacts [(touches_ite (setDlane_touches (hm.of
    rfl) h1) h1), h1])) h))))

theorem ashlarDelivered_touches {z : State} {msk : Nat} {k : Nat} {fsn : Nat} {n : Nat} {s : State} (hm : Sub
    0x1020c00300c msk) (h : Touches msk z s) : Touches msk z (ashlarDelivered k fsn n s) := by
  have e := Eq.refl @ashlarDelivered; conv at e => rhs; delta ashlarDelivered
  rw [e]
  (try dsimp only)
  split <;> (try dsimp only)
  exacts [(touches_ite (Touches.upD_decls (hm.of rfl) h) (touches_ite (resurveyFrom_touches (hm.of rfl) h) (touches_ite (bump_touches (hm.of rfl) h) (setPlane_touches (hm.of rfl) h)))), h]

theorem writeRecord_touches {z : State} {msk : Nat} {i : Nat} {k : Nat} {c : Nat} {ashlars : Nat} {zones : List Nat}
    {s : State} (hm : Sub 0x20000100c msk) (h : Touches msk z s) : Touches msk z (writeRecord i k c ashlars zones s) :=
  (touches_ite (agentPut_touches (hm.of rfl) (agentPut_touches (hm.of rfl) h)) (agentPut_touches (hm.of rfl)
    (agentPut_touches (hm.of rfl) (agentPut_touches (hm.of rfl) (agentPut_touches (hm.of rfl) h)))))

theorem ashlarPassed_touches {z : State} {msk : Nat} {i : Nat} {k : Nat} {a : Passed} {s : State} (hm : Sub
    0x20600100c msk) (h : Touches msk z s) : Touches msk z (ashlarPassed i k a s) :=
  (surveyedCheck_touches (hm.of rfl) (setPlane_touches (hm.of rfl) (touches_ite (writeRecord_touches (hm.of rfl) h)
    h)))

theorem stateRecord_touches {z : State} {msk : Nat} {kind : Nat} {l : Nat} {fsn : Nat} {final : Bool} {c : Carry} {s :
    State} (hm : Sub 0x4000 msk) (h : Touches msk z s) : Touches msk z (stateRecord kind l fsn final c s).2 :=
  (freeBytes_touches (hm.of rfl) (freeBytes_touches (hm.of rfl) h))

theorem carryYield_touches {z : State} {msk : Nat} {i : Nat} {k : Nat} {e : Nat} {s : State} (hm : Sub 0x20400500c
    msk) (h : Touches msk z s) : Touches msk z (carryYield i k e s) :=
  (bump_touches (hm.of rfl) (wr_touches (hm.of rfl) (setPlane_touches (hm.of rfl) (agentPut_touches (hm.of rfl)
    (stateRecord_touches (hm.of rfl) h)))))

theorem carryRestart_touches {z : State} {msk : Nat} {i : Nat} {k : Nat} {s : State} (hm : Sub 0x20400300c msk) (h :
    Touches msk z s) : Touches msk z (carryRestart i k s) :=
  (leadCheckStation_touches (hm.of rfl) (setPlane_touches (hm.of rfl) (clearRecords_touches (hm.of rfl) h)))

theorem carryBoundary_touches {z : State} {msk : Nat} {d : Nat} {n : Nat} {i : Nat} {k : Nat} {s : State} (hm : Sub
    0x1020400700c msk) (h : Touches msk z s) : Touches msk z (carryBoundary d n i k s) :=
  (touches_ite (setDlane_touches (hm.of rfl) h) (touches_ite
    (by (try dsimp only); split <;> (try dsimp only); exacts [(setDlane_touches (hm.of rfl) (carryYield_touches (hm.of
    rfl) h)), (touches_ite (setDlane_touches (hm.of rfl) (carryRestart_touches (hm.of rfl) h)) (evt_touches (hm.of
    rfl) h))]) h))

theorem carryPassed_touches {z : State} {msk : Nat} {i : Nat} {k : Nat} {r : RecordOut} {s : State} (hm : Sub
    0x20600500c msk) (h : Touches msk z s) : Touches msk z (carryPassed i k r s) :=
  (touches_ite (surveyedCheck_touches (hm.of rfl) (setPlane_touches (hm.of rfl) (writeRecord_touches (hm.of rfl)
    (drawFree_touches (hm.of rfl) h)))) (setPlane_touches (hm.of rfl) h))

theorem readRecord_touches {z : State} {msk : Nat} {p : PlaneDesc} {d : Nat} {off : Nat} {line : Nat} {history : List
    Sys2Proof.Byte} {s : State} (hm : Sub 0x1800000041004 msk) (h : Touches msk z s) : Touches msk z (readRecord p d off
    line history s).2 := by
  have e := Eq.refl @readRecord; conv at e => rhs; delta readRecord
  rw [e]
  (try dsimp only)
  split <;> (try dsimp only)
  exacts [(Touches.ofPair (by assumption) (agentRead_touches (hm.of rfl) h)), (Touches.ofPair (by assumption) (agentRead_touches (hm.of rfl) h)), (touches_ite1 (Touches.ofPair (by assumption) (agentRead_touches (hm.of rfl) h)) (by (try dsimp only); split <;> (try dsimp only); exacts [(touches_ite1 (Touches.ofPair (by assumption) (agentRead_touches (hm.of rfl) (Touches.ofPair (by assumption) (agentRead_touches (hm.of rfl) h)))) (by (try dsimp only); split <;> (try dsimp only); exacts [(by (try dsimp only); split <;> (try dsimp only); exacts [(Touches.ofPair (by assumption) (agentRead_touches (hm.of rfl) (Touches.ofPair (by assumption) (agentRead_touches (hm.of rfl) (Touches.ofPair (by assumption) (agentRead_touches (hm.of rfl) h)))))), (touches_ite1 (Touches.ofPair (by assumption) (agentRead_touches (hm.of rfl) (Touches.ofPair (by assumption) (agentRead_touches (hm.of rfl) (Touches.ofPair (by assumption) (agentRead_touches (hm.of rfl) h)))))) (touches_ite1 (Touches.ofPair (by assumption) (agentRead_touches (hm.of rfl) (Touches.ofPair (by assumption) (agentRead_touches (hm.of rfl) (Touches.ofPair (by assumption) (agentRead_touches (hm.of rfl) h)))))) (touches_ite1 (Touches.ofPair (by assumption) (agentRead_touches (hm.of rfl) (Touches.ofPair (by assumption) (agentRead_touches (hm.of rfl) (Touches.ofPair (by assumption) (agentRead_touches (hm.of rfl) h)))))) (by (try dsimp only); split <;> (try dsimp only); exacts [(touches_ite1 (Touches.ofPair (by assumption) (agentRead_touches (hm.of rfl) (Touches.ofPair (by assumption) (agentRead_touches (hm.of rfl) (Touches.ofPair (by assumption) (agentRead_touches (hm.of rfl) (Touches.ofPair (by assumption) (agentRead_touches (hm.of rfl) h)))))))) (Touches.ofPair (by assumption) (agentRead_touches (hm.of rfl) (Touches.ofPair (by assumption) (agentRead_touches (hm.of rfl) (Touches.ofPair (by assumption) (agentRead_touches (hm.of rfl) (Touches.ofPair (by assumption) (agentRead_touches (hm.of rfl) h))))))))), (Touches.ofPair (by assumption) (agentRead_touches (hm.of rfl) (Touches.ofPair (by assumption) (agentRead_touches (hm.of rfl) (Touches.ofPair (by assumption) (agentRead_touches (hm.of rfl) (Touches.ofPair (by assumption) (agentRead_touches (hm.of rfl) h))))))))]))))]), (Touches.ofPair (by assumption) (agentRead_touches (hm.of rfl) (Touches.ofPair (by assumption) (agentRead_touches (hm.of rfl) (Touches.ofPair (by assumption) (agentRead_touches (hm.of rfl) h))))))])), (Touches.ofPair (by assumption) (agentRead_touches (hm.of rfl) (Touches.ofPair (by assumption) (agentRead_touches (hm.of rfl) h))))]))]

theorem surveyFail_touches {z : State} {msk : Nat} {k : Nat} {fsn : Nat} {n : Nat} {reason : Nat} {s : State} (hm :
    Sub 0x1004 msk) (h : Touches msk z s) : Touches msk z (surveyFail k fsn n reason s) :=
  (evt_touches (hm.of rfl) (bump_touches (hm.of rfl) (touches_ite h (wr_touches (hm.of rfl) (putWord_touches (hm.of
    rfl) h)))))

theorem carrySurveyRecord_touches {z : State} {msk : Nat} {d : Nat} {n : Nat} {i : Nat} {k : Nat} {s : State} (hm :
    Sub 0x181020604700c msk) (h : Touches msk z s) : Touches msk z (carrySurveyRecord d n i k s) :=
  (touches_ite (setDlane_touches (hm.of rfl) h)
    (by (try dsimp only); split <;> (try dsimp only); exacts [(carryBoundary_touches (hm.of rfl) (carryPassed_touches
    (hm.of rfl) (Touches.ofPair (by assumption) (readRecord_touches (hm.of rfl) h)))), (setDlane_touches (hm.of rfl)
    (surveyFail_touches (hm.of rfl) (setPlane_touches (hm.of rfl) (Touches.ofPair (by assumption) (readRecord_touches
    (hm.of rfl) h)))))]))

theorem codecLanesEvent_touches {z : State} {msk : Nat} {d : Nat} {s : State} (hm : Sub 0x1004 msk) (h : Touches msk z
    s) : Touches msk z (codecLanesEvent d s) :=
  (evt_touches (hm.of rfl) h)

theorem codecUnfence_touches {z : State} {msk : Nat} {d : Nat} {w : Nat} {s : State} (hm : Sub 0x10000009004 msk) (h :
    Touches msk z s) : Touches msk z (codecUnfence d w s) :=
  (touches_ite h (touches_ite (unfence_touches (hm.of rfl) h) (touches_ite (wr_touches (hm.of rfl) (setDlane_touches
    (hm.of rfl) (unfence_touches (hm.of rfl) h))) (unfence_touches (hm.of rfl) h))))

theorem setImager_touches {z : State} {msk : Nat} {k : Nat} {v : Imager} {s : State} (hm : Sub 0x80000000000000 msk)
    (h : Touches msk z s) : Touches msk z (setImager k v s) :=
  (Touches.upD_imagers (hm.of rfl) h)

theorem laneWorkLost_touches {z : State} {msk : Nat} {l : DecodeLane} {s : State} (hm : Sub 0x8000020400300c msk) (h :
    Touches msk z s) : Touches msk z (laneWorkLost l s) := by
  have e := Eq.refl @laneWorkLost; conv at e => rhs; delta laneWorkLost
  rw [e]
  (try dsimp only)
  split <;> (try dsimp only)
  exacts [(touches_ite h (setPlane_touches (hm.of rfl) h)), (carryRestart_touches (hm.of rfl) h), (by (try dsimp only); split <;> (try dsimp only); exacts [(setImager_touches (hm.of rfl) h), (setImager_touches (hm.of rfl) h)]), h]

theorem roleTaken_touches {z : State} {msk : Nat} {d : Nat} {lost : Nat} {s : State} (hm : Sub 0x10000000000 msk) (h :
    Touches msk z s) : Touches msk z (roleTaken d lost s) := by
  have e := Eq.refl @roleTaken; conv at e => rhs; delta roleTaken
  rw [e]
  (try dsimp only)
  split <;> (try dsimp only)
  exacts [(setDlane_touches (hm.of rfl) h), h]

theorem decodeFence_touches {z : State} {msk : Nat} {d : Nat} {n : Nat} {s : State} (hm : Sub 0x8181020404b00c msk) (h
    : Touches msk z s) : Touches msk z (decodeFence d n s) :=
  (touches_ite h (touches_ite (codecLanesEvent_touches (hm.of rfl) (setDlane_touches (hm.of rfl) (wr_touches (hm.of
    rfl) (addFence_touches (hm.of rfl) (laneWorkLost_touches (hm.of rfl) h))))) (roleTaken_touches (hm.of rfl)
    (codecLanesEvent_touches (hm.of rfl) (setDlane_touches (hm.of rfl) (wr_touches (hm.of rfl) (addFence_touches
    (hm.of rfl) (laneWorkLost_touches (hm.of rfl) h))))))))

theorem execCarrySurveyStart_touches {z : State} {msk : Nat} {d : Nat} {n : Nat} {i : Nat} {k : Nat} {s : State} (hm :
    Sub 0x181020404300c msk) (h : Touches msk z s) : TouchesO msk z (execCarrySurveyStart d n i k s) :=
  (touchesO_ite (.next h) (by (try dsimp only); split <;> (try dsimp only); exacts [(.next (setDlane_touches (hm.of
    rfl) h)), (by (try dsimp only); split <;> (try dsimp only); exacts [(.next (setDlane_touches (hm.of rfl)
    (setPlane_touches (hm.of rfl) (wr_touches (hm.of rfl)
    (by (try dsimp only); split <;> (try dsimp only); exacts [(Touches.ofPair (by assumption) (agentRead_touches
    (hm.of rfl) h)), (Touches.ofPair (by assumption) (agentRead_touches (hm.of rfl) h))]))))), (.next
    (setDlane_touches (hm.of rfl) (carryRestart_touches (hm.of rfl) (bump_touches (hm.of rfl) (wr_touches (hm.of rfl)
    (by (try dsimp only); split <;> (try dsimp only); exacts [(Touches.ofPair (by assumption) (agentRead_touches
    (hm.of rfl) h)), (Touches.ofPair (by assumption) (agentRead_touches (hm.of rfl) h))]))))))])]))

theorem roleSet_touches {z : State} {msk : Nat} {d : Nat} {n : Nat} {r : Nat} {s : State} (hm : Sub 0x10000001004 msk)
    (h : Touches msk z s) : Touches msk z (roleSet d n r s) :=
  (touches_ite (setDlane_touches (hm.of rfl) (wr_touches (hm.of rfl) h)) (codecLanesEvent_touches (hm.of rfl)
    (setDlane_touches (hm.of rfl) (wr_touches (hm.of rfl) h))))

theorem execLaneRoleChange_touches {z : State} {msk : Nat} {d : Nat} {n : Nat} {s : State} (hm : Sub 0x1020400700c
    msk) (h : Touches msk z s) : TouchesO msk z (execLaneRoleChange d n s) := by
  have e := Eq.refl @execLaneRoleChange; conv at e => rhs; delta execLaneRoleChange
  rw [e]
  (try dsimp only)
  split <;> (try dsimp only)
  exacts [(.next h), (touchesO_ite (.next h) (by (try dsimp only); split <;> (try dsimp only); exacts [(.next (roleSet_touches (hm.of rfl) h)), (.next (roleSet_touches (hm.of rfl) (by (try dsimp only); split <;> (try dsimp only); exacts [(carryYield_touches (hm.of rfl) h), (carryRestart_touches (hm.of rfl) h)]))), (.next h)]))]

theorem readAshlar_touches {z : State} {msk : Nat} {p : PlaneDesc} {d : Nat} {n : Nat} {first : Nat} {s : State} (hm :
    Sub 0x1800000041004 msk) (h : Touches msk z s) : Touches msk z (readAshlar p d n first s).2 := by
  have e := Eq.refl @readAshlar; conv at e => rhs; delta readAshlar
  rw [e]
  (try dsimp only)
  split <;> (try dsimp only)
  exacts [(Touches.ofPair (by assumption) (agentRead_touches (hm.of rfl) h)), (Touches.ofPair (by assumption) (agentRead_touches (hm.of rfl) h)), (touches_ite1 (Touches.ofPair (by assumption) (agentRead_touches (hm.of rfl) h)) (by (try dsimp only); split <;> (try dsimp only); exacts [(Touches.ofPair (by assumption) (readDbf_touches (hm.of rfl) (Touches.ofPair (by assumption) (agentRead_touches (hm.of rfl) h)))), (Touches.ofPair (by assumption) (readDbf_touches (hm.of rfl) (Touches.ofPair (by assumption) (agentRead_touches (hm.of rfl) h))))]))]

theorem execSurveyAshlarDone_touches {z : State} {msk : Nat} {d : Nat} {n : Nat} {s : State} (hm : Sub 0x181020604100c
    msk) (h : Touches msk z s) : TouchesO msk z (execSurveyAshlarDone d n s) := by
  have e := Eq.refl @execSurveyAshlarDone; conv at e => rhs; delta execSurveyAshlarDone
  rw [e]
  (try dsimp only)
  split <;> (try dsimp only)
  exacts [(touchesO_ite (.next (setDlane_touches (hm.of rfl) h)) (by (try dsimp only); split <;> (try dsimp only); exacts [(.next (ashlarPassed_touches (hm.of rfl) (Touches.ofPair (by assumption) (readAshlar_touches (hm.of rfl) (setDlane_touches (hm.of rfl) h))))), (.next (surveyFail_touches (hm.of rfl) (setPlane_touches (hm.of rfl) (Touches.ofPair (by assumption) (readAshlar_touches (hm.of rfl) (setDlane_touches (hm.of rfl) h))))))])), (.next h)]

theorem execSurveyAshlarStart_touches {z : State} {msk : Nat} {d : Nat} {n : Nat} {i : Nat} {k : Nat} {s : State} (hm
    : Sub 0x10004000000 msk) (h : Touches msk z s) : TouchesO msk z (execSurveyAshlarStart d n i k s) :=
  (touchesO_ite (.next h) (by (try dsimp only); split <;> (try dsimp only); exacts [(.next h), (.next
    (setDlane_touches (hm.of rfl) (setPlane_touches (hm.of rfl) h)))]))

theorem resCtl_touches {z : State} {msk : Nat} {d : Nat} {w : Nat} {s : State} (hm : Sub 0x1020c00300c msk) (h :
    Touches msk z s) : Touches msk z (resCtl d w s) :=
  (touches_ite (by (try dsimp only); split <;> (try dsimp only); exacts [h, (touches_ite h (touches_ite (touches_ite
    (carryRestart_touches (hm.of rfl) h) h) (touches_ite (resurveyFrom_touches (hm.of rfl) h) h)))])
    (declareResident_touches (hm.of rfl) h))

end Sys2Proof.Machine
end

