-- ==== Sys2Proof/Laws/TouchesImaging.lean ====
section
/-! SUPPORT. Which fields of the state every operation of Imaging may change. -/

namespace Sys2Proof.Machine

theorem holdRows_touches {z : State} {msk : Nat} {k : Nat} {i : Nat} {first : Nat} {skip : Nat} {rows : List (List
    Sys2Proof.Byte)} {s : State} (hm : Sub 0x80000000000000 msk) (h : Touches msk z s) : Touches msk z (holdRows k i
    first skip rows s) :=
  (touches_ite h (setImager_touches (hm.of rfl) h))

theorem writeCkpt_touches {z : State} {msk : Nat} {k : Nat} {i : Nat} {final : Bool} {s : State} (hm : Sub
    0x8000020000500c msk) (h : Touches msk z s) : Touches msk z (writeCkpt k i final s) := by
  have e := Eq.refl @writeCkpt; conv at e => rhs; delta writeCkpt
  rw [e]
  (try dsimp only)
  split <;> (try dsimp only)
  exacts [h, (agentPut_touches (hm.of rfl) (setImager_touches (hm.of rfl) (stateRecord_touches (hm.of rfl) h)))]

theorem carryImageRecord_touches {z : State} {msk : Nat} {d : Nat} {n : Nat} {i : Nat} {k : Nat} {s : State} (hm : Sub
    0xc1f9038204700c msk) (h : Touches msk z s) : Touches msk z (carryImageRecord d n i k s) :=
  (touches_ite (setDlane_touches (hm.of rfl) h)
    (by (try dsimp only); split <;> (try dsimp only); exacts [(setDlane_touches (hm.of rfl) (spoilFrame_touches (hm.of
    rfl) (Touches.ofPair (by assumption) (readRecord_touches (hm.of rfl) h)))), (touches_ite h (touches_ite
    (setDlane_touches (hm.of rfl) (setImager_touches (hm.of rfl) (touches_ite (writeCkpt_touches (hm.of rfl)
    (setImager_touches (hm.of rfl) (holdRows_touches (hm.of rfl) (Touches.ofPair (by assumption) (readRecord_touches
    (hm.of rfl) h))))) (setImager_touches (hm.of rfl) (holdRows_touches (hm.of rfl) (Touches.ofPair (by assumption)
    (readRecord_touches (hm.of rfl) h))))))) (touches_ite (writeCkpt_touches (hm.of rfl) (setImager_touches (hm.of
    rfl) (holdRows_touches (hm.of rfl) (Touches.ofPair (by assumption) (readRecord_touches (hm.of rfl) h)))))
    (setImager_touches (hm.of rfl) (holdRows_touches (hm.of rfl) (Touches.ofPair (by assumption) (readRecord_touches
    (hm.of rfl) h)))))))]))

theorem readCkpts_touches {z : State} {msk : Nat} {a : Nat} {line : Nat} {x2 : List Nat} {x3 : State} (hm : Sub
    0x1800000041004 msk) (h : Touches msk z x3) : Touches msk z (readCkpts a line x2 x3).2 := by
  have h0 : Sub 0x1800000041004 msk := hm.of rfl
  fun_induction readCkpts a line x2 x3 <;> grind [agentRead_touches]

theorem carryResume_touches {z : State} {msk : Nat} {k : Nat} {i : Nat} {line : Nat} {s : State} (hm : Sub
    0x1800000041004 msk) (h : Touches msk z s) : Touches msk z (carryResume k i line s).2 := by
  have e := Eq.refl @carryResume; conv at e => rhs; delta carryResume
  rw [e]
  (try dsimp only)
  split <;> (try dsimp only)
  exacts [h, (readCkpts_touches (hm.of rfl) h)]

theorem coverageFault_touches {z : State} {msk : Nat} {k : Nat} {i : Nat} {s : State} (hm : Sub 0x180000c1f9018205b004
    msk) (h : Touches msk z s) : Touches msk z (coverageFault k i s) :=
  (stationFault_touches (hm.of rfl) (spoilFrame_touches (hm.of rfl) (evt_touches (hm.of rfl) (bump_touches (hm.of rfl)
    h))))

theorem execCarryRecordDone_touches {z : State} {msk : Nat} {d : Nat} {n : Nat} {s : State} (hm : Sub 0xc1f9038604700c
    msk) (h : Touches msk z s) : TouchesO msk z (execCarryRecordDone d n s) :=
  (touchesO_ite (.next h) (by (try dsimp only); split <;> (try dsimp only); exacts [(.next (carrySurveyRecord_touches
    (hm.of rfl) h)), (.next (touches_ite (carryImageRecord_touches (hm.of rfl) h) h)), (.next h)]))

theorem execImgAshlarDone_touches {z : State} {msk : Nat} {d : Nat} {n : Nat} {s : State} (hm : Sub
    0x180000c1f9018205b004 msk) (h : Touches msk z s) : TouchesO msk z (execImgAshlarDone d n s) := by
  have e := Eq.refl @execImgAshlarDone; conv at e => rhs; delta execImgAshlarDone
  rw [e]
  (try dsimp only)
  split <;> (try dsimp only)
  exacts [(touchesO_ite (.next h) (by (try dsimp only); split <;> (try dsimp only); exacts [(.next (setDlane_touches (hm.of rfl) h)), (by (try dsimp only); split <;> (try dsimp only); exacts [(.next (holdRows_touches (hm.of rfl) (Touches.ofPair (by assumption) (readAshlar_touches (hm.of rfl) (setImager_touches (hm.of rfl) (setDlane_touches (hm.of rfl) h)))))), (.next (coverageFault_touches (hm.of rfl) (Touches.ofPair (by assumption) (readAshlar_touches (hm.of rfl) (setImager_touches (hm.of rfl) (setDlane_touches (hm.of rfl) h))))))])])), (.next h)]

theorem execImgAshlarStart_touches {z : State} {msk : Nat} {d : Nat} {n : Nat} {s : State} (hm : Sub 0x80010000000000
    msk) (h : Touches msk z s) : TouchesO msk z (execImgAshlarStart d n s) :=
  (touchesO_ite (.next h) (by (try dsimp only); split <;> (try dsimp only); exacts [(.next h),
    (by (try dsimp only); split <;> (try dsimp only); exacts [(touchesO_ite (.next h) (.next (setDlane_touches (hm.of
    rfl) (setImager_touches (hm.of rfl) h)))), (touchesO_ite (touchesO_ite (.next (setDlane_touches (hm.of rfl)
    (setImager_touches (hm.of rfl) h))) (.next h)) (touchesO_ite (.next h) (.next (setDlane_touches (hm.of rfl)
    (setImager_touches (hm.of rfl) h)))))])]))

theorem imagerHold_touches {z : State} {msk : Nat} {k : Nat} {i : Nat} {line : Nat} {s : State} (hm : Sub
    0xc1f90182043004 msk) (h : Touches msk z s) : Touches msk z (imagerHold k i line s) :=
  (touches_ite (setImager_touches (hm.of rfl) h) (touches_ite
    (by (try dsimp only); split <;> (try dsimp only); exacts [(spoilFrame_touches (hm.of rfl) (carryResume_touches
    (hm.of rfl) h)), (setImager_touches (hm.of rfl) (carryResume_touches (hm.of rfl) h))]) (setImager_touches (hm.of
    rfl) h)))

end Sys2Proof.Machine
end

