-- ==== Sys2Proof/Laws/TouchesPipeline.lean ====
section
/-! SUPPORT. Which fields of the state every operation of Pipeline may change. -/

namespace Sys2Proof.Machine

theorem wearElements_touches {z : State} {msk : Nat} {base : Nat} {x1 : List (Nat × Nat)} {x2 : State} (hm : Sub
    0x180020004100c msk) (h : Touches msk z x2) : Touches msk z (wearElements base x1 x2).2 := by
  have h0 : Sub 0x20000100c msk := hm.of rfl
  have h1 : Sub 0x1800000041004 msk := hm.of rfl
  fun_induction wearElements base x1 x2 <;> grind [agentRead_touches, agentPut_touches]

theorem blockDone_touches {z : State} {msk : Nat} {k : Nat} {b : Nat} {s : State} (hm : Sub 0x4180020004100c msk) (h :
    Touches msk z s) : Touches msk z (blockDone k b s) :=
  (touches_ite (setSta_touches (hm.of rfl) (wearElements_touches (hm.of rfl) h)) h)

theorem blocksDone_touches {z : State} {msk : Nat} {k : Nat} {b : Nat} {s : State} (hm : Sub 0x4180020004100c msk) (h
    : Touches msk z s) : Touches msk z (blocksDone k b s) :=
  (touches_ite h (foldl_touches (fun _ _ h1 => (touches_ite (blockDone_touches (hm.of rfl) h1) h1)) h))

theorem clipReport_touches {z : State} {msk : Nat} {k : Nat} {lsn : Nat} {emitter : Nat} {kinds : List (List Nat)} {s
    : State} (hm : Sub 0x180000c1f9018205b004 msk) (h : Touches msk z s) : Touches msk z (clipReport k lsn emitter kinds
    s) := by
  have e := Eq.refl @clipReport; conv at e => rhs; delta clipReport
  rw [e]
  (try dsimp only)
  split <;> (try dsimp only)
  exacts [h, (stationFault_touches (hm.of rfl) (evt_touches (hm.of rfl) (touches_ite (onlyIf_touches (fun _ h1 => (bump_touches (hm.of rfl) h1)) (onlyIf_touches (fun _ h1 => (bump_touches (hm.of rfl) h1)) (onlyIf_touches (fun _ h1 => (bump_touches (hm.of rfl) h1)) (onlyIf_touches (fun _ h1 => (bump_touches (hm.of rfl) h1)) h)))) (putWord_touches (hm.of rfl) (putWord_touches (hm.of rfl) (onlyIf_touches (fun _ h1 => (bump_touches (hm.of rfl) h1)) (onlyIf_touches (fun _ h1 => (bump_touches (hm.of rfl) h1)) (onlyIf_touches (fun _ h1 => (bump_touches (hm.of rfl) h1)) (onlyIf_touches (fun _ h1 => (bump_touches (hm.of rfl) h1)) h)))))))))]

theorem showHeadSum_touches {z : State} {msk : Nat} {k : Nat} {s : State} (hm : Sub 0x4 msk) (h : Touches msk z s) :
    Touches msk z (showHeadSum k s) :=
  (putWord_touches (hm.of rfl) h)

theorem countLine_touches {z : State} {msk : Nat} {k : Nat} {lsn : Nat} {emitter : Nat} {codes : List Nat} {s : State}
    (hm : Sub 0x40000000000004 msk) (h : Touches msk z s) : Touches msk z (countLine k lsn emitter codes s) :=
  (showHeadSum_touches (hm.of rfl) (setSta_touches (hm.of rfl) h))

theorem showCov_touches {z : State} {msk : Nat} {k : Nat} {c : Nat} {img : Nat} {surv : Nat} {bad : Bool} {s : State}
    (hm : Sub 0x4 msk) (h : Touches msk z s) : Touches msk z (showCov k c img surv bad s) :=
  (putWord_touches (hm.of rfl) (putWord_touches (hm.of rfl) (wr_touches (hm.of rfl) (wr_touches (hm.of rfl) h))))

theorem coverageCompare_touches {z : State} {msk : Nat} {k : Nat} {i : Nat} {c : Nat} {img : Nat} {s : State} (hm :
    Sub 0x180000c1f9018205b004 msk) (h : Touches msk z s) : Touches msk z (coverageCompare k i c img s) := by
  have e := Eq.refl @coverageCompare; conv at e => rhs; delta coverageCompare
  rw [e]
  (try dsimp only)
  split <;> (try dsimp only)
  exacts [(touches_ite (stationFault_touches (hm.of rfl) (evt_touches (hm.of rfl) (bump_touches (hm.of rfl) (showCov_touches (hm.of rfl) (spoilFrame_touches (hm.of rfl) (Touches.ofPair (by assumption) (agentRead_touches (hm.of rfl) h))))))) (touches_ite (showCov_touches (hm.of rfl) (bump_touches (hm.of rfl) (Touches.ofPair (by assumption) (agentRead_touches (hm.of rfl) h)))) (coverageFault_touches (hm.of rfl) (showCov_touches (hm.of rfl) (bump_touches (hm.of rfl) (Touches.ofPair (by assumption) (agentRead_touches (hm.of rfl) h))))))), (stationFault_touches (hm.of rfl) (evt_touches (hm.of rfl) (bump_touches (hm.of rfl) (showCov_touches (hm.of rfl) (spoilFrame_touches (hm.of rfl) (Touches.ofPair (by assumption) (agentRead_touches (hm.of rfl) h)))))))]

theorem delayCheck_touches {z : State} {msk : Nat} {k : Nat} {s : State} (hm : Sub 0x4 msk) (h : Touches msk z s) :
    Touches msk z (delayCheck k s) :=
  (wr_touches (hm.of rfl) h)

theorem dutyLine_touches {z : State} {msk : Nat} {k : Nat} {lsn : Nat} {emitter : Nat} {codes : List Nat} {s : State}
    (hm : Sub 0x180000c1f9038205b00c msk) (h : Touches msk z s) : Touches msk z (dutyLine k lsn emitter codes s).2 :=
  (countLine_touches (hm.of rfl) (clipReport_touches (hm.of rfl) (blocksDone_touches (hm.of rfl) h)))

theorem dutyResize_touches {z : State} {msk : Nat} {k : Nat} {s : State} (hm : Sub 0x40000000000000 msk) (h : Touches
    msk z s) : Touches msk z (dutyResize k s) :=
  (setSta_touches (hm.of rfl) h)

theorem putPlane_touches {z : State} {msk : Nat} {k : Nat} {p : StaPlane} {s : State} (hm : Sub 0x40000000000000 msk)
    (h : Touches msk z s) : Touches msk z (putPlane k p s) :=
  (setSta_touches (hm.of rfl) h)

theorem freeRows_touches {z : State} {msk : Nat} {k : Nat} {i : Nat} {x2 : Nat} {s : State} (hm : Sub 0x80000000000000
    msk) (h : Touches msk z s) : Touches msk z (freeRows k i x2 s) :=
  (setImager_touches (hm.of rfl) h)

theorem takeSource_touches {z : State} {msk : Nat} {k : Nat} {upto : Nat} {s : State} (hm : Sub 0x180000c1f9018205b004
    msk) (h : Touches msk z s) : ∀ t, (takeSource k upto s) = some t → Touches msk z t := by
  have e := Eq.refl @takeSource; conv at e => rhs; delta takeSource
  rw [e]
  (try dsimp only)
  split <;> (try dsimp only)
  exacts [(fun _ e => by cases e; exact (setSta_touches (hm.of rfl) h)), (by (try dsimp only); split <;> (try dsimp only); exacts [(fun _ e => by cases e), (fun _ e => by cases e; exact (touches_ite (coverageCompare_touches (hm.of rfl) (touches_ite (putPlane_touches (hm.of rfl) (setSta_touches (hm.of rfl) h)) (freeRows_touches (hm.of rfl) (putPlane_touches (hm.of rfl) (setSta_touches (hm.of rfl) h))))) (touches_ite (putPlane_touches (hm.of rfl) (setSta_touches (hm.of rfl) h)) (freeRows_touches (hm.of rfl) (putPlane_touches (hm.of rfl) (setSta_touches (hm.of rfl) h))))))])]

theorem takeSources_touches {z : State} {msk : Nat} {k : Nat} {upto : Nat} {x2 : Nat} {x3 : State} (hm : Sub
    0x180000c1f9018205b004 msk) (h : Touches msk z x3) : Touches msk z (takeSources k upto x2 x3).2 := by
  have h0 : Sub 0x180000c1f9018205b004 msk := hm.of rfl
  fun_induction takeSources k upto x2 x3 <;> grind [takeSource_touches]

theorem scanOf_touches {z : State} {msk : Nat} {k : Nat} {x1 : Nat} {s : State} (hm : Sub 0x40000000000000 msk) (h :
    Touches msk z s) : Touches msk z (scanOf k x1 s).2 :=
  (touches_ite1 h (by (try dsimp only); split <;> (try dsimp only); exacts [h,
    (by (try dsimp only); split <;> (try dsimp only); exacts [h, (touches_ite1 (setSta_touches (hm.of rfl) h) h)])]))

theorem pruneLines_touches {z : State} {msk : Nat} {k : Nat} {s : State} (hm : Sub 0x40000000000000 msk) (h : Touches
    msk z s) : Touches msk z (pruneLines k s) :=
  (setSta_touches (hm.of rfl) h)

theorem formLine_touches {z : State} {msk : Nat} {k : Nat} {x1 : Nat} {p : Placed} {s : State} (hm : Sub
    0x180000c1f9038205b00c msk) (h : Touches msk z s) : Touches msk z (formLine k x1 p s) :=
  (pruneLines_touches (hm.of rfl) (setSta_touches (hm.of rfl) (headSend_touches (hm.of rfl) (dutyLine_touches (hm.of
    rfl) h))))

theorem formNext_touches {z : State} {msk : Nat} {k : Nat} {s : State} (hm : Sub 0x180000c1f9038205b00c msk) (h :
    Touches msk z s) : Touches msk z (formNext k s).2 :=
  (touches_ite1 h (touches_ite1 (takeSources_touches (hm.of rfl) h) (touches_ite1 (takeSources_touches (hm.of rfl) h)
    (by (try dsimp only); split <;> (try dsimp only); exacts [(Touches.ofPair (by assumption) (scanOf_touches (hm.of
    rfl) (takeSources_touches (hm.of rfl) h))), (formLine_touches (hm.of rfl) (Touches.ofPair (by assumption)
    (scanOf_touches (hm.of rfl) (takeSources_touches (hm.of rfl) h))))]))))

theorem execStationLine_touches {z : State} {msk : Nat} {k : Nat} {s : State} (hm : Sub 0x180000c1f9038205b00c msk) (h
    : Touches msk z s) : TouchesO msk z (execStationLine k s) :=
  (touchesO_ite (.next h) (.next (formNext_touches (hm.of rfl) h)))

theorem facetBankCheck_touches {z : State} {msk : Nat} {k : Nat} {b : Nat} {s : State} (hm : Sub 0x4 msk) (h : Touches
    msk z s) : Touches msk z (facetBankCheck k b s) :=
  (wr_touches (hm.of rfl) (wr_touches (hm.of rfl) h))

theorem facetUpdate_touches {z : State} {msk : Nat} {k : Nat} {s : State} (hm : Sub 0x4 msk) (h : Touches msk z s) :
    Touches msk z (facetUpdate k s) :=
  (delayCheck_touches (hm.of rfl) (facetBankCheck_touches (hm.of rfl) (facetBankCheck_touches (hm.of rfl) h)))

theorem reachUpdate_touches {z : State} {msk : Nat} {k : Nat} {s : State} (hm : Sub 0x1004 msk) (h : Touches msk z s)
    : Touches msk z (reachUpdate k s) :=
  (touches_ite (evt_touches (hm.of rfl) h) h)

theorem recode_touches {z : State} {msk : Nat} {k : Nat} {from0 : Nat} {s : State} (hm : Sub 0x40000000000000 msk) (h
    : Touches msk z s) : Touches msk z (recode k from0 s) :=
  (setSta_touches (hm.of rfl) h)

theorem reforesee_touches {z : State} {msk : Nat} {k : Nat} {s : State} (hm : Sub 0x40000000000000 msk) (h : Touches
    msk z s) : Touches msk z (reforesee k s) :=
  (setSta_touches (hm.of rfl) h)

theorem selectionChanged_touches {z : State} {msk : Nat} {k : Nat} {from0 : Nat} {s : State} (hm : Sub
    0x40000000000004 msk) (h : Touches msk z s) : Touches msk z (selectionChanged k from0 s) :=
  (facetUpdate_touches (hm.of rfl) (reforesee_touches (hm.of rfl) (recode_touches (hm.of rfl) h)))

end Sys2Proof.Machine
end

