-- ==== Sys2Proof/Laws/TouchesTiming.lean ====
section
/-! SUPPORT. Which fields of the state every operation of Timing may change. -/

namespace Sys2Proof.Machine

theorem acquired_touches {z : State} {msk : Nat} {k : Nat} {s : State} (hm : Sub 0x18000040000000001004 msk) (h :
    Touches msk z s) : Touches msk z (acquired k s) :=
  (touches_ite h (touches_ite (lenUpdate_touches (hm.of rfl) (enterRun_touches (hm.of rfl) (touches_ite (evt_touches
    (hm.of rfl) (wr_touches (hm.of rfl) h)) h))) (touches_ite (evt_touches (hm.of rfl) (wr_touches (hm.of rfl) h))
    h)))

theorem showDeviations_touches {z : State} {msk : Nat} {k : Nat} {dev : List Int} {s : State} (hm : Sub 0x4 msk) (h :
    Touches msk z s) : Touches msk z (showDeviations k dev s) :=
  (foldl_touches (fun _ _ h1 => (wr_touches (hm.of rfl) h1)) h)

theorem identityLost_touches {z : State} {msk : Nat} {k : Nat} {s : State} (hm : Sub 0x180000c1f9018205b004 msk) (h :
    Touches msk z s) : Touches msk z (identityLost k s) :=
  (stationFault_touches (hm.of rfl) (wr_touches (hm.of rfl) h))

theorem setBeam_touches {z : State} {msk : Nat} {k : Nat} {b : Beam} {s : State} (hm : Sub 0x40000000000000 msk) (h :
    Touches msk z s) : Touches msk z (setBeam k b s) :=
  (setSta_touches (hm.of rfl) h)

theorem judgeIdentity_touches {z : State} {msk : Nat} {k : Nat} {holds : Bool} {contrary : Bool} {rot : Nat} {s :
    State} (hm : Sub 0x180000c1f9018205b004 msk) (h : Touches msk z s) : Touches msk z (judgeIdentity k holds contrary
    rot s) :=
  (touches_ite (touches_ite h (touches_ite (touches_ite (identityLost_touches (hm.of rfl) (setBeam_touches (hm.of rfl)
    h)) (setBeam_touches (hm.of rfl) h)) (touches_ite (setBeam_touches (hm.of rfl) h) h))) (touches_ite
    (setBeam_touches (hm.of rfl) h) (touches_ite (evt_touches (hm.of rfl) (wr_touches (hm.of rfl) (setSta_touches
    (hm.of rfl) h))) (setBeam_touches (hm.of rfl) h))))

theorem revolution_touches {z : State} {msk : Nat} {k : Nat} {rev : List Nat} {s : State} (hm : Sub
    0x180000c1f9018205b004 msk) (h : Touches msk z s) : Touches msk z (revolution k rev s) :=
  (touches_ite (showDeviations_touches (hm.of rfl) h) (touches_ite (judgeIdentity_touches (hm.of rfl)
    (showDeviations_touches (hm.of rfl) h)) (judgeIdentity_touches (hm.of rfl) (showDeviations_touches (hm.of rfl)
    h))))

theorem periodUpdate_touches {z : State} {msk : Nat} {k : Nat} {s : State} (hm : Sub 0x4 msk) (h : Touches msk z s) :
    Touches msk z (periodUpdate k s) :=
  (wr_touches (hm.of rfl) h)

theorem periodFollow_touches {z : State} {msk : Nat} {k : Nat} {s : State} (hm : Sub 0x4 msk) (h : Touches msk z s) :
    Touches msk z (periodFollow k s) :=
  (touches_ite (periodUpdate_touches (hm.of rfl) h) h)

theorem showTiming_touches {z : State} {msk : Nat} {k : Nat} {s : State} (hm : Sub 0x4 msk) (h : Touches msk z s) :
    Touches msk z (showTiming k s) :=
  (wr_touches (hm.of rfl) (putWord_touches (hm.of rfl) h))

theorem stableCheck_touches {z : State} {msk : Nat} {k : Nat} {s : State} (hm : Sub 0x40000000000004 msk) (h : Touches
    msk z s) : Touches msk z (stableCheck k s) :=
  (touches_ite h (periodUpdate_touches (hm.of rfl) (setBeam_touches (hm.of rfl) h)))

theorem beamAccept_touches {z : State} {msk : Nat} {k : Nat} {x1 : Nat} {s : State} (hm : Sub 0x180000c1f9018205b004
    msk) (h : Touches msk z s) : Touches msk z (beamAccept k x1 s).2 :=
  (showTiming_touches (hm.of rfl) (touches_ite (acquired_touches (hm.of rfl) (stableCheck_touches (hm.of rfl)
    (periodFollow_touches (hm.of rfl) (touches_ite (revolution_touches (hm.of rfl) (putWord_touches (hm.of rfl)
    (wr_touches (hm.of rfl) (setSta_touches (hm.of rfl) h)))) (putWord_touches (hm.of rfl) (wr_touches (hm.of rfl)
    (setSta_touches (hm.of rfl) h))))))) (periodFollow_touches (hm.of rfl) (touches_ite (revolution_touches (hm.of
    rfl) (putWord_touches (hm.of rfl) (wr_touches (hm.of rfl) (setSta_touches (hm.of rfl) h)))) (putWord_touches
    (hm.of rfl) (wr_touches (hm.of rfl) (setSta_touches (hm.of rfl) h)))))))

theorem beginPlane_touches {z : State} {msk : Nat} {k : Nat} {e : StartEntry} {l1 : Nat} {s : State} (hm : Sub
    0xc0790182003004 msk) (h : Touches msk z s) : Touches msk z (beginPlane k e l1 s) :=
  (touches_ite h (touches_ite (spoilFrame_touches (hm.of rfl) h) (wr_touches (hm.of rfl) (putWord_touches (hm.of rfl)
    (setSta_touches (hm.of rfl) h)))))

theorem cffSend_touches {z : State} {msk : Nat} {k : Nat} {i : Nat} {xs : Nat} {offs : Nat} {c : Nat} {s : State} (hm
    : Sub 0x1800000047004 msk) (h : Touches msk z s) : Touches msk z (cffSend k i xs offs c s) :=
  (touches_ite (Touches.upD_msgs (hm.of rfl) (by (try dsimp only); split <;> (try dsimp only); exacts [(Touches.ofPair
    (by assumption) (agentRead_touches (hm.of rfl) h)), (freeBytes_touches (hm.of rfl) (Touches.ofPair (by assumption)
    (agentRead_touches (hm.of rfl) h)))])) h)

theorem earlyEdge_touches {z : State} {msk : Nat} {k : Nat} {s : State} (hm : Sub 0x180000c1f9018205b004 msk) (h :
    Touches msk z s) : Touches msk z (earlyEdge k s) :=
  (stationFault_touches (hm.of rfl) (bump_touches (hm.of rfl) (setBeam_touches (hm.of rfl) h)))

theorem scanResume_touches {z : State} {msk : Nat} {k : Nat} {x1 : Nat} {s : State} (hm : Sub 0x4004 msk) (h : Touches
    msk z s) : Touches msk z (scanResume k x1 s) :=
  (putResume_touches (hm.of rfl) (touches_ite1 (drawFree_touches (hm.of rfl) h) h))

theorem enterHold_touches {z : State} {msk : Nat} {k : Nat} {s : State} (hm : Sub 0x180000c1f9018205f004 msk) (h :
    Touches msk z s) : Touches msk z (enterHold k s) :=
  (touches_ite (stationFence_touches (hm.of rfl) (stationStopped_touches (hm.of rfl) (lenUpdate_touches (hm.of rfl)
    (evtMask_touches (hm.of rfl) (showTiming_touches (hm.of rfl)
    (by (try dsimp only); split <;> (try dsimp only); exacts [(imagerHold_touches (hm.of rfl) (touches_ite
    (putResume_touches (hm.of rfl) (wr_touches (hm.of rfl) (setSta_touches (hm.of rfl) h)))
    (by (try dsimp only); split <;> (try dsimp only); exacts [(scanResume_touches (hm.of rfl) (wr_touches (hm.of rfl)
    (setSta_touches (hm.of rfl) h))), (wr_touches (hm.of rfl) (setSta_touches (hm.of rfl) h))]))), (touches_ite
    (putResume_touches (hm.of rfl) (wr_touches (hm.of rfl) (setSta_touches (hm.of rfl) h)))
    (by (try dsimp only); split <;> (try dsimp only); exacts [(scanResume_touches (hm.of rfl) (wr_touches (hm.of rfl)
    (setSta_touches (hm.of rfl) h))), (wr_touches (hm.of rfl) (setSta_touches (hm.of rfl) h))]))]))))))
    (stationStopped_touches (hm.of rfl) (lenUpdate_touches (hm.of rfl) (evtMask_touches (hm.of rfl)
    (showTiming_touches (hm.of rfl) (by (try dsimp only); split <;> (try dsimp only); exacts [(imagerHold_touches
    (hm.of rfl) (touches_ite (putResume_touches (hm.of rfl) (wr_touches (hm.of rfl) (setSta_touches (hm.of rfl) h)))
    (by (try dsimp only); split <;> (try dsimp only); exacts [(scanResume_touches (hm.of rfl) (wr_touches (hm.of rfl)
    (setSta_touches (hm.of rfl) h))), (wr_touches (hm.of rfl) (setSta_touches (hm.of rfl) h))]))), (touches_ite
    (putResume_touches (hm.of rfl) (wr_touches (hm.of rfl) (setSta_touches (hm.of rfl) h)))
    (by (try dsimp only); split <;> (try dsimp only); exacts [(scanResume_touches (hm.of rfl) (wr_touches (hm.of rfl)
    (setSta_touches (hm.of rfl) h))), (wr_touches (hm.of rfl) (setSta_touches (hm.of rfl) h))]))]))))))

theorem slipCount_touches {z : State} {msk : Nat} {k : Nat} {lo : Nat} {n : Nat} {s : State} (hm : Sub 0x1004 msk) (h
    : Touches msk z s) : Touches msk z (slipCount k lo n s).2 :=
  (touches_ite1 h (by (try dsimp only); split <;> (try dsimp only); exacts [(bumpBy_touches (hm.of rfl) (evt_touches
    (hm.of rfl) (bumpBy_touches (hm.of rfl) h))), (bumpBy_touches (hm.of rfl) (evt_touches (hm.of rfl) (bumpBy_touches
    (hm.of rfl) h)))]))

theorem progress_touches {z : State} {msk : Nat} {k : Nat} {s : State} (hm : Sub 0x40000006003004 msk) (h : Touches
    msk z s) : Touches msk z (progress k s) :=
  (showTiming_touches (hm.of rfl) (foldl_touches (fun _ _ h1 => (touches_ite h1 (touches_ite (planeFinished_touches
    (hm.of rfl) (onlyIf_touches (fun _ h2 => (frameBegun_touches (hm.of rfl) h2)) (putPlane_touches (hm.of rfl)
    (touches_ite h1 (leadCheck_touches (hm.of rfl) (setPlane_touches (hm.of rfl) h1)))))) (touches_ite h1
    (leadCheck_touches (hm.of rfl) (setPlane_touches (hm.of rfl) h1)))))) h))

theorem slipSpoil_touches {z : State} {msk : Nat} {k : Nat} {i : Nat} {s : State} (hm : Sub 0x180000c1f9018205b004
    msk) (h : Touches msk z s) : Touches msk z (slipSpoil k i s) :=
  (stationFault_touches (hm.of rfl) (touches_ite (sendCause_touches (hm.of rfl) (spoilFrame_touches (hm.of rfl) h))
    (spoilFrame_touches (hm.of rfl) h)))

theorem slipLines_touches {z : State} {msk : Nat} {k : Nat} {lo : Nat} {n : Nat} {s : State} (hm : Sub
    0x180000c1f9018605b004 msk) (h : Touches msk z s) : Touches msk z (slipLines k lo n s) := by
  have e := Eq.refl @slipLines; conv at e => rhs; delta slipLines
  rw [e]
  (try dsimp only)
  split <;> (try dsimp only)
  exacts [(slipSpoil_touches (hm.of rfl) (progress_touches (hm.of rfl) (slipCount_touches (hm.of rfl) h))), (progress_touches (hm.of rfl) (slipCount_touches (hm.of rfl) h))]

theorem passScan_touches {z : State} {msk : Nat} {k : Nat} {adv : Nat} {s : State} (hm : Sub 0x40000000000000 msk) (h
    : Touches msk z s) : Touches msk z (passScan k adv s) :=
  (setSta_touches (hm.of rfl) h)

theorem loseScan_touches {z : State} {msk : Nat} {k : Nat} {f : Nat} {s : State} (hm : Sub 0x180000c1f9018605b004 msk)
    (h : Touches msk z s) : Touches msk z (loseScan k f s) :=
  (slipLines_touches (hm.of rfl) (passScan_touches (hm.of rfl) h))

theorem missScan_touches {z : State} {msk : Nat} {k : Nat} {s : State} (hm : Sub 0x180000c1f9018605b004 msk) (h :
    Touches msk z s) : Touches msk z (missScan k s) :=
  (touches_ite (stationFault_touches (hm.of rfl) (touches_ite (loseScan_touches (hm.of rfl) (bump_touches (hm.of rfl)
    (setSta_touches (hm.of rfl) h))) (bump_touches (hm.of rfl) (setSta_touches (hm.of rfl) h)))) (showTiming_touches
    (hm.of rfl) (touches_ite (loseScan_touches (hm.of rfl) (bump_touches (hm.of rfl) (setSta_touches (hm.of rfl) h)))
    (bump_touches (hm.of rfl) (setSta_touches (hm.of rfl) h)))))

theorem missUntil_touches {z : State} {msk : Nat} {k : Nat} {x1 : Nat} {x2 : Nat} {x3 : State} (hm : Sub
    0x180000c1f9018605b004 msk) (h : Touches msk z x3) : Touches msk z (missUntil k x1 x2 x3) := by
  have h0 : Sub 0x180000c1f9018605b004 msk := hm.of rfl
  fun_induction missUntil k x1 x2 x3 <;> grind [missScan_touches]

theorem holdCheck_touches {z : State} {msk : Nat} {k : Nat} {s : State} (hm : Sub 0x180000c1f9018205f004 msk) (h :
    Touches msk z s) : Touches msk z (holdCheck k s) := by
  have e := Eq.refl @holdCheck; conv at e => rhs; delta holdCheck
  rw [e]
  (try dsimp only)
  split <;> (try dsimp only)
  exacts [(touches_ite (enterHold_touches (hm.of rfl) h) h), h]

theorem fixStop_touches {z : State} {msk : Nat} {k : Nat} {s : State} (hm : Sub 0x40000000000004 msk) (h : Touches msk
    z s) : Touches msk z (fixStop k s) :=
  (touches_ite h (by (try dsimp only); split <;> (try dsimp only); exacts [h, (putWord_touches (hm.of rfl)
    (setSta_touches (hm.of rfl) h))]))

theorem startTaken_touches {z : State} {msk : Nat} {k : Nat} {l1 : Nat} {s : State} (hm : Sub 0xc0790182003004 msk) (h
    : Touches msk z s) : Touches msk z (startTaken k l1 s) := by
  have e := Eq.refl @startTaken; conv at e => rhs; delta startTaken
  rw [e]
  (try dsimp only)
  split <;> (try dsimp only)
  exacts [h, (beginPlane_touches (hm.of rfl) (setSta_touches (hm.of rfl) h))]

theorem sendTag_touches {z : State} {msk : Nat} {k : Nat} {p : Placed} {s : State} (hm : Sub 0x18000000000000001004
    msk) (h : Touches msk z s) : Touches msk z (sendTag k p s).2 :=
  (headSend_touches (hm.of rfl) h)

theorem tagNext_touches {z : State} {msk : Nat} {k : Nat} {s : State} (hm : Sub 0x18000040000000001004 msk) (h :
    Touches msk z s) : Touches msk z (tagNext k s) := by
  have e := Eq.refl @tagNext; conv at e => rhs; delta tagNext
  rw [e]
  (try dsimp only)
  split <;> (try dsimp only)
  exacts [(touches_ite h (setSta_touches (hm.of rfl) (sendTag_touches (hm.of rfl) h))), h]

theorem placeScan_touches {z : State} {msk : Nat} {k : Nat} {f : Nat} {x2 : Nat} {s : State} (hm : Sub
    0x180000c1f9018605b004 msk) (h : Touches msk z s) : Touches msk z (placeScan k f x2 s) :=
  (touches_ite (touches_ite (stationFault_touches (hm.of rfl) h) (progress_touches (hm.of rfl) (passScan_touches
    (hm.of rfl) h))) (touches_ite (touches_ite (stationFault_touches (hm.of rfl) h) (progress_touches (hm.of rfl)
    (passScan_touches (hm.of rfl) h))) (touches_ite (loseScan_touches (hm.of rfl) h) (tagNext_touches (hm.of rfl)
    (setSta_touches (hm.of rfl) h)))))

theorem takeScan_touches {z : State} {msk : Nat} {k : Nat} {f : Nat} {x2 : Nat} {s : State} (hm : Sub
    0x180000c1f9018605f004 msk) (h : Touches msk z s) : Touches msk z (takeScan k f x2 s) :=
  (touches_ite (touches_ite (scanResume_touches (hm.of rfl) (setSta_touches (hm.of rfl) (holdCheck_touches (hm.of rfl)
    (fixStop_touches (hm.of rfl) (startTaken_touches (hm.of rfl) h))))) (holdCheck_touches (hm.of rfl)
    (fixStop_touches (hm.of rfl) (startTaken_touches (hm.of rfl) h)))) (touches_ite (holdCheck_touches (hm.of rfl)
    (fixStop_touches (hm.of rfl) (startTaken_touches (hm.of rfl) h)))
    (by (try dsimp only); split <;> (try dsimp only); exacts [(touches_ite (holdCheck_touches (hm.of rfl)
    (fixStop_touches (hm.of rfl) (startTaken_touches (hm.of rfl) h))) (placeScan_touches (hm.of rfl)
    (holdCheck_touches (hm.of rfl) (fixStop_touches (hm.of rfl) (startTaken_touches (hm.of rfl) h))))),
    (placeScan_touches (hm.of rfl) (holdCheck_touches (hm.of rfl) (fixStop_touches (hm.of rfl) (startTaken_touches
    (hm.of rfl) h))))])))

theorem execBdEdge_touches {z : State} {msk : Nat} {k : Nat} {phase : Nat} {s : State} (hm : Sub
    0x180000c1f9018605f004 msk) (h : Touches msk z s) : TouchesO msk z (execBdEdge k phase s) :=
  (touchesO_ite (.next h) (touchesO_ite (.next (beamAccept_touches (hm.of rfl) h)) (touchesO_ite (.next
    (missUntil_touches (hm.of rfl) h)) (touchesO_ite (.next (earlyEdge_touches (hm.of rfl) (missUntil_touches (hm.of
    rfl) h))) (touchesO_ite (.next (takeScan_touches (hm.of rfl) (beamAccept_touches (hm.of rfl) (missUntil_touches
    (hm.of rfl) h)))) (touchesO_ite (.next (scanResume_touches (hm.of rfl) (setSta_touches (hm.of rfl)
    (beamAccept_touches (hm.of rfl) (missUntil_touches (hm.of rfl) h))))) (.next (beamAccept_touches (hm.of rfl)
    (missUntil_touches (hm.of rfl) h)))))))))

theorem execBdMissed_touches {z : State} {msk : Nat} {k : Nat} {s : State} (hm : Sub 0x180000c1f9018605b004 msk) (h :
    Touches msk z s) : TouchesO msk z (execBdMissed k s) :=
  (touchesO_ite (.next h) (.next (missScan_touches (hm.of rfl) h)))

theorem execFidIndexEdge_touches {z : State} {msk : Nat} {k : Nat} {s : State} (hm : Sub 0x180000c1f9018205b004 msk)
    (h : Touches msk z s) : TouchesO msk z (execFidIndexEdge k s) :=
  (touchesO_ite (.next h) (.next (acquired_touches (hm.of rfl) (setBeam_touches (hm.of rfl)
    (by (try dsimp only); split <;> (try dsimp only); exacts [(touches_ite h (judgeIdentity_touches (hm.of rfl) h)),
    h])))))

theorem execResumeEvent_touches {z : State} {msk : Nat} {k : Nat} {s : State} (hm : Sub 0x18400041800000043004 msk) (h
    : Touches msk z s) : TouchesO msk z (execResumeEvent k s) :=
  (touchesO_ite (.next h) (.next (pathRunup_touches (hm.of rfl) (showTiming_touches (hm.of rfl) (releaseHold_touches
    (hm.of rfl) (touches_ite h (runupFailed_touches (hm.of rfl) h)))))))

theorem execStartEvent_touches {z : State} {msk : Nat} {k : Nat} {s : State} (hm : Sub 0x180000c1f9018205f004 msk) (h
    : Touches msk z s) : TouchesO msk z (execStartEvent k s) := by
  have e := Eq.refl @execStartEvent; conv at e => rhs; delta execStartEvent
  rw [e]
  (try dsimp only)
  split <;> (try dsimp only)
  exacts [(.next h), (touchesO_ite (.next h) (touchesO_ite (.next (evt_touches (hm.of rfl) (slipSpoil_touches (hm.of rfl) (watchStart_touches (hm.of rfl) (setStartList_touches (hm.of rfl) h))))) (touchesO_ite (.next (spoilFrame_touches (hm.of rfl) (cffSend_touches (hm.of rfl) (watchStart_touches (hm.of rfl) (setStartList_touches (hm.of rfl) h))))) (.next (setSta_touches (hm.of rfl) (cffSend_touches (hm.of rfl) (watchStart_touches (hm.of rfl) (setStartList_touches (hm.of rfl) h))))))))]

theorem stopCheck_touches {z : State} {msk : Nat} {k : Nat} {s : State} (hm : Sub 0x180000c1f9018205f004 msk) (h :
    Touches msk z s) : Touches msk z (stopCheck k s) :=
  (touches_ite (enterHold_touches (hm.of rfl) (fixStop_touches (hm.of rfl) h)) (holdCheck_touches (hm.of rfl)
    (fixStop_touches (hm.of rfl) h)))

theorem firstFired_touches {z : State} {msk : Nat} {k : Nat} {p : StaPlane} {s : State} (hm : Sub 0xc0790182003004
    msk) (h : Touches msk z s) : Touches msk z (firstFired k p s) :=
  (touches_ite (frameBegun_touches (hm.of rfl) (setSta_touches (hm.of rfl) (putPlane_touches (hm.of rfl) h)))
    (onlyIf_touches (fun _ h1 => (evt_touches (hm.of rfl) h1)) (spoilFrame_touches (hm.of rfl) (frameBegun_touches
    (hm.of rfl) (setSta_touches (hm.of rfl) (putPlane_touches (hm.of rfl) h))))))

theorem firedLines_touches {z : State} {msk : Nat} {k : Nat} {lo : Nat} {n : Nat} {s : State} (hm : Sub
    0xc1f90182047004 msk) (h : Touches msk z s) : Touches msk z (firedLines k lo n s) :=
  (foldl_touches (fun _ _ h1 => (touches_ite h1 (foldl_touches (fun _ _ h2 => (touches_ite (cffSend_touches (hm.of
    rfl) h2) h2)) h1))) (foldl_touches (fun _ _ h1 => (firstFired_touches (hm.of rfl) h1)) (setSta_touches (hm.of rfl)
    h)))

theorem fireEdge_touches {z : State} {msk : Nat} {k : Nat} {tick : Nat} {lo : Nat} {n : Nat} {tag : Option Nat} {s :
    State} (hm : Sub 0x180000c1f9018605f004 msk) (h : Touches msk z s) : Touches msk z (fireEdge k tick lo n tag s) :=
  (stopCheck_touches (hm.of rfl) (progress_touches (hm.of rfl) (firedLines_touches (hm.of rfl) (touches_ite h
    (setSta_touches (hm.of rfl) (Touches.upD_sent (hm.of rfl) h))))))

theorem lateCourse_touches {z : State} {msk : Nat} {k : Nat} {s : State} (hm : Sub 0xc0790182003004 msk) (h : Touches
    msk z s) : ∀ t, (lateCourse k s) = some t → Touches msk z t := by
  have e := Eq.refl @lateCourse; conv at e => rhs; delta lateCourse
  rw [e]
  (try dsimp only)
  split <;> (try dsimp only)
  exacts [(fun _ e => by cases e), (by (try dsimp only); split <;> (try dsimp only); exacts [(fun _ e => by cases e; exact (spoilFrame_touches (hm.of rfl) h)), (fun _ e => by cases e)])]

theorem lateLines_touches {z : State} {msk : Nat} {k : Nat} {upto : Nat} {s : State} (hm : Sub 0x40000000001004 msk)
    (h : Touches msk z s) : Touches msk z (lateLines k upto s) :=
  (touches_ite (evt_touches (hm.of rfl) (bumpBy_touches (hm.of rfl) (setSta_touches (hm.of rfl) h))) (setSta_touches
    (hm.of rfl) h))

theorem formDue_touches {z : State} {msk : Nat} {k : Nat} {upto : Nat} {x2 : Nat} {x3 : State} (hm : Sub
    0x180000c1f9038205b00c msk) (h : Touches msk z x3) : Touches msk z (formDue k upto x2 x3) := by
  have h0 : Sub 0x180000c1f9038205b00c msk := hm.of rfl
  have h1 : Sub 0x40000000000000 msk := hm.of rfl
  have h2 : Sub 0x1004 msk := hm.of rfl
  have h3 : Sub 0x4 msk := hm.of rfl
  fun_induction formDue k upto x2 x3 <;> first
    | grind [formNext_touches, setSta_touches, evt_touches, bumpBy_touches]
    | (apply_assumption; exact lateCourse_touches (hm.of rfl) (formNext_touches (hm.of rfl) h) _ (by assumption))
    | (apply_assumption; exact lateLines_touches (hm.of rfl) (formNext_touches (hm.of rfl) h))

theorem gateReached_touches {z : State} {msk : Nat} {k : Nat} {tick : Nat} {s : State} (hm : Sub
    0x180000c1f9018205b004 msk) (h : Touches msk z s) : Touches msk z (gateReached k tick s) := by
  have e := Eq.refl @gateReached; conv at e => rhs; delta gateReached
  rw [e]
  (try dsimp only)
  split <;> (try dsimp only)
  exacts [(touches_ite (touches_ite (stationFence_touches (hm.of rfl) (lenUpdate_touches (hm.of rfl) (setSta_touches (hm.of rfl) h))) (lenUpdate_touches (hm.of rfl) (setSta_touches (hm.of rfl) h))) h), h]

theorem ledAcquire_touches {z : State} {msk : Nat} {k : Nat} {s : State} (hm : Sub 0x18000040000000001004 msk) (h :
    Touches msk z s) : Touches msk z (ledAcquire k s) :=
  (touches_ite (lenUpdate_touches (hm.of rfl) (showTiming_touches (hm.of rfl) (enterRun_touches (hm.of rfl) h))) h)

theorem strobeTagSend_touches {z : State} {msk : Nat} {k : Nat} {f : FoundLine} {s : State} (hm : Sub
    0x18000040000000001004 msk) (h : Touches msk z s) : Touches msk z (strobeTagSend k f s) := by
  have e := Eq.refl @strobeTagSend; conv at e => rhs; delta strobeTagSend
  rw [e]
  (try dsimp only)
  split <;> (try dsimp only)
  exacts [(touches_ite h h), (setSta_touches (hm.of rfl) (sendTag_touches (hm.of rfl) h))]

theorem strobeTagDue_touches {z : State} {msk : Nat} {k : Nat} {s : State} (hm : Sub 0x18000040000000001004 msk) (h :
    Touches msk z s) : Touches msk z (strobeTagDue k s) :=
  (touches_ite h (by (try dsimp only); split <;> (try dsimp only); exacts [(touches_ite (strobeTagSend_touches (hm.of
    rfl) h) h), h]))

theorem ledTags_touches {z : State} {msk : Nat} {s : State} (hm : Sub 0x18000040000000001004 msk) (h : Touches msk z
    s) : Touches msk z (ledTags s) :=
  (foldl_touches (fun _ _ h1 => (strobeTagDue_touches (hm.of rfl) h1)) h)

theorem lgoFalls_touches {z : State} {msk : Nat} {k : Nat} {p : Placed} {s : State} (hm : Sub 0x180000c1f9038605f00c
    msk) (h : Touches msk z s) : Touches msk z (lgoFalls k p s) :=
  (touches_ite (gateReached_touches (hm.of rfl) (formDue_touches (hm.of rfl) h)) (tagNext_touches (hm.of rfl)
    (fireEdge_touches (hm.of rfl) (setSta_touches (hm.of rfl) (gateReached_touches (hm.of rfl) (formDue_touches (hm.of
    rfl) h))))))

theorem lineStep_touches {z : State} {msk : Nat} {k : Nat} {up : Bool} {x2 : Nat} {count : Nat} {interval : Nat} {s :
    State} (hm : Sub 0xc0790182007004 msk) (h : Touches msk z s) : Touches msk z (lineStep k up x2 count interval s) :=
  (touches_ite h (touches_ite (touches_ite (wr_touches (hm.of rfl) (setSta_touches (hm.of rfl) (wr_touches (hm.of rfl)
    h))) (wr_touches (hm.of rfl) (wr_touches (hm.of rfl) h))) (touches_ite (wr_touches (hm.of rfl) (wr_touches (hm.of
    rfl) h)) (touches_ite (setSta_touches (hm.of rfl) (wr_touches (hm.of rfl) (wr_touches (hm.of rfl) h)))
    (showTiming_touches (hm.of rfl) (setSta_touches (hm.of rfl) (startTaken_touches (hm.of rfl) (touches_ite1
    (drawFree_touches (hm.of rfl) (wr_touches (hm.of rfl) (wr_touches (hm.of rfl) h))) (wr_touches (hm.of rfl)
    (wr_touches (hm.of rfl) h))))))))))

theorem strobeFalls_touches {z : State} {msk : Nat} {k : Nat} {x1 : Nat} {f : FoundLine} {s : State} (hm : Sub
    0x180000c1f9038605f00c msk) (h : Touches msk z s) : Touches msk z (strobeFalls k x1 f s) :=
  (touches_ite (slipLines_touches (hm.of rfl) (setSta_touches (hm.of rfl) h)) (touches_ite (gateReached_touches (hm.of
    rfl) (formDue_touches (hm.of rfl) (strobeTagSend_touches (hm.of rfl) (slipLines_touches (hm.of rfl)
    (setSta_touches (hm.of rfl) h))))) (fireEdge_touches (hm.of rfl) (setSta_touches (hm.of rfl) (gateReached_touches
    (hm.of rfl) (formDue_touches (hm.of rfl) (strobeTagSend_touches (hm.of rfl) (slipLines_touches (hm.of rfl)
    (setSta_touches (hm.of rfl) h)))))))))

theorem timingStart_touches {z : State} {msk : Nat} {k : Nat} {s : State} (hm : Sub 0x18000040000000001004 msk) (h :
    Touches msk z s) : Touches msk z (timingStart k s) :=
  (touches_ite (lenUpdate_touches (hm.of rfl) (showTiming_touches (hm.of rfl) (touches_ite (enterRun_touches (hm.of
    rfl) (wr_touches (hm.of rfl) (setSta_touches (hm.of rfl) h))) (wr_touches (hm.of rfl) (setSta_touches (hm.of rfl)
    h))))) h)

theorem timingRun_touches {z : State} {msk : Nat} {k : Nat} {s : State} (hm : Sub 0x180000c1f9018205b004 msk) (h :
    Touches msk z s) : Touches msk z (timingRun k s) :=
  (touches_ite (timingStart_touches (hm.of rfl) h) (timingEnd_touches (hm.of rfl) h))

theorem underrun_touches {z : State} {msk : Nat} {k : Nat} {x1 : Nat} {s : State} (hm : Sub 0x180000c1f9018205b004
    msk) (h : Touches msk z s) : Touches msk z (underrun k x1 s) := by
  have e := Eq.refl @underrun; conv at e => rhs; delta underrun
  rw [e]
  (try dsimp only)
  split <;> (try dsimp only)
  exacts [(stationFault_touches (hm.of rfl) (spoilFrame_touches (hm.of rfl) (bump_touches (hm.of rfl) (evt_touches (hm.of rfl) (touches_ite h (wr_touches (hm.of rfl) (putWord_touches (hm.of rfl) h))))))), (stationFault_touches (hm.of rfl) (bump_touches (hm.of rfl) (evt_touches (hm.of rfl) (touches_ite h (wr_touches (hm.of rfl) (putWord_touches (hm.of rfl) h))))))]

end Sys2Proof.Machine
end

