-- ==== Sys2Proof/Laws/TouchesNet.lean ====
section
/-! SUPPORT. Which fields of the state every operation of Net may change. -/

namespace Sys2Proof.Machine

theorem setEth_touches {z : State} {msk : Nat} {p : Nat} {v : EthPort} {s : State} (hm : Sub 0x10000000000000000 msk)
    (h : Touches msk z s) : Touches msk z (setEth p v s) :=
  (Touches.upD_eths (hm.of rfl) h)

theorem txComplete_touches {z : State} {msk : Nat} {p : Nat} {q : Nat} {addr : Nat} {desc : List Sys2Proof.Byte}
    {stamp : Option Nat} {status : Nat} {s : State} (hm : Sub 0x1024 msk) (h : Touches msk z s) : Touches msk z
    (txComplete p q addr desc stamp status s) :=
  (evt_touches (hm.of rfl) (wr_touches (hm.of rfl) (hostPut_touches (hm.of rfl) (hostPut_touches (hm.of rfl)
    (by (try dsimp only); split <;> (try dsimp only); exacts [(hostWrite_touches (hm.of rfl) h), h])))))

theorem txBad_touches {z : State} {msk : Nat} {p : Nat} {q : Nat} {addr : Nat} {desc : List Sys2Proof.Byte} {status :
    Nat} {s : State} (hm : Sub 0x1800000041024 msk) (h : Touches msk z s) : Touches msk z (txBad p q addr desc status s)
    :=
  (evt_touches (hm.of rfl) (recordFault_touches (hm.of rfl) (txComplete_touches (hm.of rfl) h)))

theorem txStart_touches {z : State} {msk : Nat} {p : Nat} {q : Nat} {b : List Sys2Proof.Byte} {status : Nat} {s :
    State} (hm : Sub 0x10000000000000000 msk) (h : Touches msk z s) : Touches msk z (txStart p q b status s) :=
  (setEth_touches (hm.of rfl) h)

theorem txSchedule_touches {z : State} {msk : Nat} {p : Nat} {x1 : Nat} {x2 : State} (hm : Sub 0x10001800000041024
    msk) (h : Touches msk z x2) : Touches msk z (txSchedule p x1 x2) := by
  have h0 : Sub 0x1800000041024 msk := hm.of rfl
  have h1 : Sub 0x10000000000000000 msk := hm.of rfl
  fun_induction txSchedule p x1 x2 <;> grind [txBad_touches, setEth_touches, txStart_touches]

theorem txLook_touches {z : State} {msk : Nat} {p : Nat} {s : State} (hm : Sub 0x10001800000041024 msk) (h : Touches
    msk z s) : Touches msk z (txLook p s) :=
  (txSchedule_touches (hm.of rfl) h)

theorem ethEnable_touches {z : State} {msk : Nat} {p : Nat} {before : Bool} {s : State} (hm : Sub 0x10001800000041024
    msk) (h : Touches msk z s) : Touches msk z (ethEnable p before s) :=
  (touches_ite (txLook_touches (hm.of rfl) (foldl_touches (fun _ _ h1 => (wr_touches (hm.of rfl) h1)) (wr_touches
    (hm.of rfl) (setEth_touches (hm.of rfl) h)))) (touches_ite (setEth_touches (hm.of rfl) h) h))

theorem ethFence_touches {z : State} {msk : Nat} {p : Nat} {s : State} (hm : Sub 0x1000180000004b004 msk) (h : Touches
    msk z s) : Touches msk z (ethFence p s) :=
  (setEth_touches (hm.of rfl) (addFence_touches (hm.of rfl) h))

theorem takeSync_touches {z : State} {msk : Nat} {f : List Sys2Proof.Byte} {o : Nat} {s : State} (hm : Sub
    0x20000000000001004 msk) (h : Touches msk z s) : Touches msk z (takeSync f o s) :=
  (onlyIf_touches (fun _ h1 => (evt_touches (hm.of rfl) h1)) (wr_touches (hm.of rfl) (wr_touches (hm.of rfl)
    (wr_touches (hm.of rfl) (wr_touches (hm.of rfl) (Touches.upD_syncAt (hm.of rfl) h))))))

theorem execEthFrameReceive_touches {z : State} {msk : Nat} {p : Nat} {frame : List Sys2Proof.Byte} {sound : Bool} {s
    : State} (hm : Sub 0x30000000000001024 msk) (h : Touches msk z s) : TouchesO msk z (execEthFrameReceive p frame
    sound s) :=
  (touchesO_ite (.next h) (touchesO_ite (.next (bump_touches (hm.of rfl) h)) (touchesO_ite (.next
    (by (try dsimp only); split <;> (try dsimp only); exacts [(touches_ite (takeSync_touches (hm.of rfl) h) h), h]))
    (by (try dsimp only); split <;> (try dsimp only); exacts [(.next (bump_touches (hm.of rfl) (setEth_touches (hm.of
    rfl) (by (try dsimp only); split <;> (try dsimp only); exacts [(touches_ite (takeSync_touches (hm.of rfl) h) h),
    h])))), (.next (evt_touches (hm.of rfl) (bump_touches (hm.of rfl) (wr_touches (hm.of rfl) (hostPut_touches (hm.of
    rfl) (hostWrite_touches (hm.of rfl) (hostWrite_touches (hm.of rfl) (hostWrite_touches (hm.of rfl)
    (by (try dsimp only); split <;> (try dsimp only); exacts [(touches_ite (takeSync_touches (hm.of rfl) h) h),
    h])))))))))]))))

theorem execEthFrameSent_touches {z : State} {msk : Nat} {p : Nat} {q : Nat} {busErr : Bool} {s : State} (hm : Sub
    0x10001800000041024 msk) (h : Touches msk z s) : TouchesO msk z (execEthFrameSent p q busErr s) := by
  have e := Eq.refl @execEthFrameSent; conv at e => rhs; delta execEthFrameSent
  rw [e]
  (try dsimp only)
  split <;> (try dsimp only)
  exacts [(.next h), (touchesO_ite (.next h) (touchesO_ite (.next (txLook_touches (hm.of rfl) (txBad_touches (hm.of rfl) (setEth_touches (hm.of rfl) h)))) (.next (txLook_touches (hm.of rfl) (bump_touches (hm.of rfl) (txComplete_touches (hm.of rfl) (Touches.upD_sent (hm.of rfl) (setEth_touches (hm.of rfl) h))))))))]

theorem execEthLaunch_touches {z : State} {msk : Nat} {p : Nat} {q : Nat} {s : State} (hm : Sub 0x10001800000041024
    msk) (h : Touches msk z s) : TouchesO msk z (execEthLaunch p q s) :=
  (touchesO_ite (.next h) (by (try dsimp only); split <;> (try dsimp only); exacts [(.next h), (touchesO_ite (.next h)
    (touchesO_ite (.next (txLook_touches (hm.of rfl) (txBad_touches (hm.of rfl) h))) (touchesO_ite (touchesO_ite
    (.next (txLook_touches (hm.of rfl) (txComplete_touches (hm.of rfl) (evt_touches (hm.of rfl) (bump_touches (hm.of
    rfl) h))))) (.next (txStart_touches (hm.of rfl) (evt_touches (hm.of rfl) (bump_touches (hm.of rfl) h))))) (.next
    (txStart_touches (hm.of rfl) h)))))]))

theorem execSyncTimeout_touches {z : State} {msk : Nat} {s : State} (hm : Sub 0x1004 msk) (h : Touches msk z s) :
    TouchesO msk z (execSyncTimeout s) :=
  (touchesO_ite (.next (evt_touches (hm.of rfl) (wr_touches (hm.of rfl) h))) (.next h))

theorem refreshDie_touches {z : State} {msk : Nat} {d : Nat} {x1 : Nat} {s : State} (hm : Sub 0x1104 msk) (h : Touches
    msk z s) : Touches msk z (refreshDie d x1 s) :=
  (touches_ite (wrS_touches (hm.of rfl) (setClock_touches (hm.of rfl) (wr_touches (hm.of rfl) (wrS_touches (hm.of rfl)
    h)))) (evt_touches (hm.of rfl) (bump_touches (hm.of rfl) (wrS_touches (hm.of rfl) (setClock_touches (hm.of rfl)
    (wr_touches (hm.of rfl) (wrS_touches (hm.of rfl) h)))))))

theorem execTimeRefresh_touches {z : State} {msk : Nat} {d : Nat} {s : State} (hm : Sub 0x3104 msk) (h : Touches msk z
    s) : TouchesO msk z (execTimeRefresh d s) := by
  have e := Eq.refl @execTimeRefresh; conv at e => rhs; delta execTimeRefresh
  rw [e]
  (try dsimp only)
  split <;> (try dsimp only)
  exacts [(touchesO_ite (.next (refreshDie_touches (hm.of rfl) (Touches.upD_msgs (hm.of rfl) h))) (.next (Touches.upD_msgs (hm.of rfl) h))), (.next h)]

theorem execTimeRefreshMiss_touches {z : State} {msk : Nat} {d : Nat} {s : State} (hm : Sub 0x1800000043004 msk) (h :
    Touches msk z s) : TouchesO msk z (execTimeRefreshMiss d s) :=
  (touchesO_ite (.next h) (touchesO_ite (.next (evt_touches (hm.of rfl) (recordFault_touches (hm.of rfl) (bump_touches
    (hm.of rfl) (by (try dsimp only); split <;> (try dsimp only); exacts [(Touches.upD_msgs (hm.of rfl) h), h])))))
    (.next (bump_touches (hm.of rfl) (by (try dsimp only); split <;> (try dsimp only); exacts [(Touches.upD_msgs
    (hm.of rfl) h), h])))))

theorem execTimeRefreshSend_touches {z : State} {msk : Nat} {s : State} (hm : Sub 0x2000 msk) (h : Touches msk z s) :
    TouchesO msk z (execTimeRefreshSend s) :=
  (.next (Touches.upD_msgs (hm.of rfl) h))

theorem rxKick_touches {z : State} {msk : Nat} {p : Nat} {s : State} (hm : Sub 0x10000000000000000 msk) (h : Touches
    msk z s) : Touches msk z (rxKick p s) :=
  (setEth_touches (hm.of rfl) h)

theorem timeAdj_touches {z : State} {msk : Nat} {v : Nat} {s : State} (hm : Sub 0x200 msk) (h : Touches msk z s) :
    Touches msk z (timeAdj v s) :=
  (Touches.upD_master (hm.of rfl) h)

theorem timeIncr_touches {z : State} {msk : Nat} {s : State} (hm : Sub 0x204 msk) (h : Touches msk z s) : Touches msk
    z (timeIncr s) :=
  (Touches.upD_master (hm.of rfl) (wr_touches (hm.of rfl) (wr_touches (hm.of rfl) h)))

theorem timeSet_touches {z : State} {msk : Nat} {s : State} (hm : Sub 0x200 msk) (h : Touches msk z s) : Touches msk z
    (timeSet s) :=
  (Touches.upD_master (hm.of rfl) h)

theorem txKick_touches {z : State} {msk : Nat} {p : Nat} {q : Nat} {s : State} (hm : Sub 0x10001800000041024 msk) (h :
    Touches msk z s) : Touches msk z (txKick p q s) :=
  (txLook_touches (hm.of rfl) (setEth_touches (hm.of rfl) h))

end Sys2Proof.Machine
end

