-- ==== Sys2Proof/Laws/TouchesLanes.lean ====
section
/-! SUPPORT. Which fields of the state every operation of Lanes may change. -/

namespace Sys2Proof.Machine

theorem adapted_touches {z : State} {msk : Nat} {d : Nat} {n : Nat} {ctle : Nat} {dfe : Nat} {s : State} (hm : Sub 0x4
    msk) (h : Touches msk z s) : Touches msk z (adapted d n ctle dfe s) :=
  (touches_ite h (wr_touches (hm.of rfl) (wr_touches (hm.of rfl) h)))

theorem setLaneSt_touches {z : State} {msk : Nat} {d : Nat} {n : Nat} {st : Nat} {s : State} (hm : Sub 0x4 msk) (h :
    Touches msk z s) : Touches msk z (setLaneSt d n st s) :=
  (wr_touches (hm.of rfl) h)

theorem portDown_touches {z : State} {msk : Nat} {d : Nat} {n : Nat} {s : State} (hm : Sub 0x10000000000000000 msk) (h
    : Touches msk z s) : Touches msk z (portDown d n s) :=
  (touches_ite (setEth_touches (hm.of rfl) h) h)

theorem laneDown_touches {z : State} {msk : Nat} {d : Nat} {n : Nat} {st : Nat} {s : State} (hm : Sub
    0x12010000000000001004 msk) (h : Touches msk z s) : Touches msk z (laneDown d n st s) :=
  (touches_ite (portDown_touches (hm.of rfl) (bondLaneDown_touches (hm.of rfl) (evt_touches (hm.of rfl) (wr_touches
    (hm.of rfl) (setLaneSt_touches (hm.of rfl) (setLane_touches (hm.of rfl) h)))))) (setLaneSt_touches (hm.of rfl) h))

theorem eyeEnd_touches {z : State} {msk : Nat} {d : Nat} {n : Nat} {result : Nat} {s : State} (hm : Sub 0x1004 msk) (h
    : Touches msk z s) : Touches msk z (eyeEnd d n result s) :=
  (touches_ite (evt_touches (hm.of rfl) (wr_touches (hm.of rfl) (wr_touches (hm.of rfl) h))) h)

theorem laneFence_touches {z : State} {msk : Nat} {d : Nat} {n : Nat} {s : State} (hm : Sub 0x1e0100c1f9018205b004
    msk) (h : Touches msk z s) : Touches msk z (laneFence d n s) :=
  (touches_ite h (touches_ite (touches_ite (stationFault_touches (hm.of rfl) (headForm_touches (hm.of rfl)
    (spareTakeover_touches (hm.of rfl) (setLane_touches (hm.of rfl) (laneDown_touches (hm.of rfl) (eyeEnd_touches
    (hm.of rfl) (addFence_touches (hm.of rfl) h))))))) (headForm_touches (hm.of rfl) (spareTakeover_touches (hm.of
    rfl) (setLane_touches (hm.of rfl) (laneDown_touches (hm.of rfl) (eyeEnd_touches (hm.of rfl) (addFence_touches
    (hm.of rfl) h))))))) (touches_ite (touches_ite (rasterFence_touches (hm.of rfl) (recordFault_touches (hm.of rfl)
    (setLane_touches (hm.of rfl) (laneDown_touches (hm.of rfl) (eyeEnd_touches (hm.of rfl) (addFence_touches (hm.of
    rfl) h)))))) (touches_ite (rasterForm_touches (hm.of rfl) (setLane_touches (hm.of rfl) (laneDown_touches (hm.of
    rfl) (eyeEnd_touches (hm.of rfl) (addFence_touches (hm.of rfl) h))))) (setLane_touches (hm.of rfl)
    (laneDown_touches (hm.of rfl) (eyeEnd_touches (hm.of rfl) (addFence_touches (hm.of rfl) h)))))) (setLane_touches
    (hm.of rfl) (laneDown_touches (hm.of rfl) (eyeEnd_touches (hm.of rfl) (addFence_touches (hm.of rfl) h)))))))

theorem laneFault_touches {z : State} {msk : Nat} {d : Nat} {n : Nat} {src : Nat} {forced : Bool} {s : State} (hm :
    Sub 0x1e0100c1f9018205b004 msk) (h : Touches msk z s) : Touches msk z (laneFault d n src forced s) :=
  (touches_ite (laneFence_touches (hm.of rfl) (recordFault_touches (hm.of rfl) h)) (recordFault_touches (hm.of rfl)
    h))

theorem execElasticOverflow_touches {z : State} {msk : Nat} {d : Nat} {n : Nat} {s : State} (hm : Sub
    0x1e0100c1f9018205b004 msk) (h : Touches msk z s) : TouchesO msk z (execElasticOverflow d n s) :=
  (touchesO_ite (.next (laneFault_touches (hm.of rfl) (bump_touches (hm.of rfl) (wr_touches (hm.of rfl) h)))) (.next
    h))

theorem execEyePointDone_touches {z : State} {msk : Nat} {d : Nat} {n : Nat} {errs : Nat} {units : Nat} {s : State}
    (hm : Sub 0x200000000020000100c msk) (h : Touches msk z s) : TouchesO msk z (execEyePointDone d n errs units s) :=
  (touchesO_ite (.next h) (touchesO_ite (.next (eyeEnd_touches (hm.of rfl) (touches_ite (wr_touches (hm.of rfl)
    (setLane_touches (hm.of rfl) (agentWrite_touches (hm.of rfl) h))) (setLane_touches (hm.of rfl) (agentWrite_touches
    (hm.of rfl) h))))) (.next (touches_ite (touches_ite (wr_touches (hm.of rfl) (setLane_touches (hm.of rfl)
    (agentWrite_touches (hm.of rfl) h))) (setLane_touches (hm.of rfl) (agentWrite_touches (hm.of rfl) h))) (wr_touches
    (hm.of rfl) (touches_ite (wr_touches (hm.of rfl) (setLane_touches (hm.of rfl) (agentWrite_touches (hm.of rfl) h)))
    (setLane_touches (hm.of rfl) (agentWrite_touches (hm.of rfl) h))))))))

theorem execEyeScanResume_touches {z : State} {msk : Nat} {d : Nat} {n : Nat} {s : State} (hm : Sub 0x4 msk) (h :
    Touches msk z s) : TouchesO msk z (execEyeScanResume d n s) :=
  (touchesO_ite (.next (wr_touches (hm.of rfl) h)) (.next h))

theorem execLaneAdaptDone_touches {z : State} {msk : Nat} {d : Nat} {n : Nat} {ctle : Nat} {dfe : Nat} {s : State} (hm
    : Sub 0x4 msk) (h : Touches msk z s) : TouchesO msk z (execLaneAdaptDone d n ctle dfe s) :=
  (touchesO_ite (.next (setLaneSt_touches (hm.of rfl) (adapted_touches (hm.of rfl) h))) (touchesO_ite (.next
    (adapted_touches (hm.of rfl) h)) (.next h)))

theorem laneUp_touches {z : State} {msk : Nat} {d : Nat} {n : Nat} {s : State} (hm : Sub 0x12010001800000041024 msk)
    (h : Touches msk z s) : Touches msk z (laneUp d n s) :=
  (touches_ite (headForm_touches (hm.of rfl) (spareTakeover_touches (hm.of rfl) h)) (touches_ite (touches_ite
    (rasterForm_touches (hm.of rfl) (setLane_touches (hm.of rfl) h)) h) (txLook_touches (hm.of rfl) h)))

theorem execLaneBlockLock_touches {z : State} {msk : Nat} {d : Nat} {n : Nat} {s : State} (hm : Sub
    0x1e0100c1f9018205b024 msk) (h : Touches msk z s) : TouchesO msk z (execLaneBlockLock d n s) :=
  (touchesO_ite (.next h) (touchesO_ite (.next (wr_touches (hm.of rfl) h)) (touchesO_ite (.next (laneFault_touches
    (hm.of rfl) h)) (.next (laneUp_touches (hm.of rfl) (evt_touches (hm.of rfl) (wr_touches (hm.of rfl) (wr_touches
    (hm.of rfl) (wr_touches (hm.of rfl) (setLaneSt_touches (hm.of rfl) (touches_ite (bump_touches (hm.of rfl)
    (setLane_touches (hm.of rfl) h)) h)))))))))))

theorem execLaneLockHoldTimeout_touches {z : State} {msk : Nat} {d : Nat} {n : Nat} {s : State} (hm : Sub
    0x1e0100c1f9018205b004 msk) (h : Touches msk z s) : TouchesO msk z (execLaneLockHoldTimeout d n s) :=
  (touchesO_ite (.next (laneFault_touches (hm.of rfl) h)) (.next h))

theorem execLaneLoss_touches {z : State} {msk : Nat} {d : Nat} {n : Nat} {why : Nat} {s : State} (hm : Sub
    0x12010000000000001004 msk) (h : Touches msk z s) : TouchesO msk z (execLaneLoss d n why s) :=
  (touchesO_ite (.next h) (.next (laneDown_touches (hm.of rfl) (touches_ite (wr_touches (hm.of rfl) h) (touches_ite
    (evt_touches (hm.of rfl) (wr_touches (hm.of rfl) h)) h)))))

theorem execLaneSignalDetect_touches {z : State} {msk : Nat} {d : Nat} {n : Nat} {s : State} (hm : Sub 0x4 msk) (h :
    Touches msk z s) : TouchesO msk z (execLaneSignalDetect d n s) :=
  (touchesO_ite (.next (setLaneSt_touches (hm.of rfl) (wr_touches (hm.of rfl) h))) (.next h))

theorem execLaneSynthLock_touches {z : State} {msk : Nat} {d : Nat} {n : Nat} {s : State} (hm : Sub 0x4 msk) (h :
    Touches msk z s) : TouchesO msk z (execLaneSynthLock d n s) :=
  (touchesO_ite (.next (setLaneSt_touches (hm.of rfl) h)) (.next h))

theorem laneStart_touches {z : State} {msk : Nat} {d : Nat} {n : Nat} {s : State} (hm : Sub 0x2000000000000001004 msk)
    (h : Touches msk z s) : Touches msk z (laneStart d n s) :=
  (touches_ite h (touches_ite (evt_touches (hm.of rfl) h) (setLaneSt_touches (hm.of rfl) (setLane_touches (hm.of rfl)
    h))))

theorem execLaneSynthLoss_touches {z : State} {msk : Nat} {d : Nat} {n : Nat} {s : State} (hm : Sub
    0x1e0100c1f9018205b004 msk) (h : Touches msk z s) : TouchesO msk z (execLaneSynthLoss d n s) :=
  (touchesO_ite (.next (laneFault_touches (hm.of rfl) h)) (touchesO_ite (.next (laneFault_touches (hm.of rfl)
    (laneStart_touches (hm.of rfl) (laneDown_touches (hm.of rfl) h)))) (.next h)))

theorem headerJudge_touches {z : State} {msk : Nat} {d : Nat} {n : Nat} {s : State} (hm : Sub 0x12010000000000001004
    msk) (h : Touches msk z s) : Touches msk z (headerJudge d n s) := by
  have e := Eq.refl @headerJudge; conv at e => rhs; delta headerJudge
  rw [e]
  (try dsimp only)
  split <;> (try dsimp only)
  exacts [(setLane_touches (hm.of rfl) h), (touches_ite (laneDown_touches (hm.of rfl) (evt_touches (hm.of rfl) (wr_touches (hm.of rfl) (setLane_touches (hm.of rfl) h)))) (setLane_touches (hm.of rfl) h))]

theorem execSyncHeaderError_touches {z : State} {msk : Nat} {d : Nat} {n : Nat} {s : State} (hm : Sub
    0x12010001800000041004 msk) (h : Touches msk z s) : TouchesO msk z (execSyncHeaderError d n s) :=
  (touchesO_ite (.next (invalidHeader_touches (hm.of rfl) h)) (touchesO_ite (.next (headerJudge_touches (hm.of rfl)
    (invalidHeader_touches (hm.of rfl) h))) (touchesO_ite (.next (invalidHeader_touches (hm.of rfl) h)) (.next h))))

theorem eyeGo_touches {z : State} {msk : Nat} {d : Nat} {n : Nat} {s : State} (hm : Sub 0x2000000000000001004 msk) (h
    : Touches msk z s) : Touches msk z (eyeGo d n s) :=
  (touches_ite h (touches_ite (evt_touches (hm.of rfl) (wr_touches (hm.of rfl) (wr_touches (hm.of rfl) (wr_touches
    (hm.of rfl) h)))) (wr_touches (hm.of rfl) (wr_touches (hm.of rfl) (setLane_touches (hm.of rfl) (wr_touches (hm.of
    rfl) h))))))

theorem laneCtl_touches {z : State} {msk : Nat} {d : Nat} {n : Nat} {v : Nat} {s : State} (hm : Sub
    0x12010000000000001004 msk) (h : Touches msk z s) : Touches msk z (laneCtl d n v s) :=
  (touches_ite (eyeEnd_touches (hm.of rfl) (touches_ite (eyeGo_touches (hm.of rfl) (touches_ite (laneStart_touches
    (hm.of rfl) (laneDown_touches (hm.of rfl) h)) h)) (touches_ite (laneStart_touches (hm.of rfl) (laneDown_touches
    (hm.of rfl) h)) h))) (touches_ite (eyeGo_touches (hm.of rfl) (touches_ite (laneStart_touches (hm.of rfl)
    (laneDown_touches (hm.of rfl) h)) h)) (touches_ite (laneStart_touches (hm.of rfl) (laneDown_touches (hm.of rfl)
    h)) h)))

theorem laneOff_touches {z : State} {msk : Nat} {d : Nat} {n : Nat} {s : State} (hm : Sub 0x12010000000000001004 msk)
    (h : Touches msk z s) : Touches msk z (laneOff d n s) :=
  (wr_touches (hm.of rfl) (wr_touches (hm.of rfl) (setLane_touches (hm.of rfl) (laneDown_touches (hm.of rfl)
    (eyeEnd_touches (hm.of rfl) h)))))

theorem laneEnable_touches {z : State} {msk : Nat} {d : Nat} {n : Nat} {s : State} (hm : Sub 0x12010000000000001004
    msk) (h : Touches msk z s) : Touches msk z (laneEnable d n s) :=
  (touches_ite (laneStart_touches (hm.of rfl) h) (touches_ite h (laneOff_touches (hm.of rfl) h)))

theorem laneUnfence_touches {z : State} {msk : Nat} {d : Nat} {n : Nat} {s : State} (hm : Sub 0x12000000000000009004
    msk) (h : Touches msk z s) : Touches msk z (laneUnfence d n s) :=
  (touches_ite (touches_ite (headForm_touches (hm.of rfl) (laneStart_touches (hm.of rfl) (setLaneSt_touches (hm.of
    rfl) (setLane_touches (hm.of rfl) (unfence_touches (hm.of rfl) h))))) (laneStart_touches (hm.of rfl)
    (setLaneSt_touches (hm.of rfl) (setLane_touches (hm.of rfl) (unfence_touches (hm.of rfl) h))))) (unfence_touches
    (hm.of rfl) h))

end Sys2Proof.Machine
end

