-- ==== Sys2Proof/Laws/TouchesProtect.lean ====
section
/-! SUPPORT. Which fields of the state every operation of Protect may change. -/

namespace Sys2Proof.Machine

theorem execHeadBucketTick_touches {z : State} {msk : Nat} {k : Nat} {s : State} (hm : Sub 0x40000000000004 msk) (h :
    Touches msk z s) : TouchesO msk z (execHeadBucketTick k s) :=
  (touchesO_ite (.next h) (.next (showHeadSum_touches (hm.of rfl) (setSta_touches (hm.of rfl) h))))

theorem inputSince_touches {z : State} {msk : Nat} {k : Nat} {bit : Nat} {v : Option Nat} {s : State} (hm : Sub
    0x40000000000000 msk) (h : Touches msk z s) : Touches msk z (inputSince k bit v s) :=
  (setSta_touches (hm.of rfl) h)

theorem gateNow_touches {z : State} {msk : Nat} {k : Nat} {s : State} (hm : Sub 0x40000000001004 msk) (h : Touches msk
    z s) : Touches msk z (gateNow k s) :=
  (lenUpdate_touches (hm.of rfl) (gateAtBoundary_touches (hm.of rfl) h))

theorem latchSet_touches {z : State} {msk : Nat} {k : Nat} {bit : Nat} {cause : Nat} {s : State} (hm : Sub
    0xc0790182003004 msk) (h : Touches msk z s) : Touches msk z (latchSet k bit cause s) :=
  (touches_ite h (touches_ite (lenUpdate_touches (hm.of rfl) (spoilImaging_touches (hm.of rfl) (setLatch_touches
    (hm.of rfl) (touches_ite h (gateFresh_touches (hm.of rfl) h))))) (gateNow_touches (hm.of rfl)
    (spoilImaging_touches (hm.of rfl) (setLatch_touches (hm.of rfl) (touches_ite h (gateFresh_touches (hm.of rfl)
    h)))))))

theorem execHokFall_touches {z : State} {msk : Nat} {k : Nat} {s : State} (hm : Sub 0xe0790182003004 msk) (h : Touches
    msk z s) : TouchesO msk z (execHokFall k s) :=
  (touchesO_ite (.next h) (.next (touches_ite (latchSet_touches (hm.of rfl) (inputSince_touches (hm.of rfl)
    (Touches.upD_hokIn (hm.of rfl) h))) (lenUpdate_touches (hm.of rfl) (inputSince_touches (hm.of rfl)
    (Touches.upD_hokIn (hm.of rfl) h))))))

theorem execIlkFall_touches {z : State} {msk : Nat} {s : State} (hm : Sub 0xd0790182003004 msk) (h : Touches msk z s)
    : TouchesO msk z (execIlkFall s) :=
  (.next (foldl_touches (fun _ _ h1 => (touches_ite (latchSet_touches (hm.of rfl) (inputSince_touches (hm.of rfl) h1))
    (lenUpdate_touches (hm.of rfl) (inputSince_touches (hm.of rfl) h1)))) (Touches.upD_ilkIn (hm.of rfl) h)))

theorem sensorReleased_touches {z : State} {msk : Nat} {k : Nat} {bit : Nat} {s : State} (hm : Sub 0x40000000000004
    msk) (h : Touches msk z s) : Touches msk z (sensorReleased k bit s) :=
  (foldl_touches (fun _ _ h1 => (inputSince_touches (hm.of rfl) (wr_touches (hm.of rfl) h1))) h)

theorem execInputDeasserted_touches {z : State} {msk : Nat} {which : Nat} {k : Nat} {s : State} (hm : Sub
    0x70000000001004 msk) (h : Touches msk z s) : TouchesO msk z (execInputDeasserted which k s) :=
  (touchesO_ite (.next (foldl_touches (fun _ _ h1 => (lenUpdate_touches (hm.of rfl) (inputSince_touches (hm.of rfl)
    h1))) (Touches.upD_ilkIn (hm.of rfl) h))) (touchesO_ite (.next h)
    (by (try dsimp only); split <;> (try dsimp only); exacts [(.next (lenUpdate_touches (hm.of rfl)
    (inputSince_touches (hm.of rfl) (Touches.upD_hokIn (hm.of rfl) h)))), (touchesO_ite (.next (sensorReleased_touches
    (hm.of rfl) h)) (.next h)), (touchesO_ite (.next (sensorReleased_touches (hm.of rfl) h)) (.next h)), (.next h)])))

theorem sensorLatch_touches {z : State} {msk : Nat} {k : Nat} {bit : Nat} {s : State} (hm : Sub 0xc0790182003004 msk)
    (h : Touches msk z s) : Touches msk z (sensorLatch k bit s) :=
  (touches_ite (inputSince_touches (hm.of rfl) (wr_touches (hm.of rfl) h)) (touches_ite (latchSet_touches (hm.of rfl)
    (evt_touches (hm.of rfl) (inputSince_touches (hm.of rfl) (wr_touches (hm.of rfl) h)))) (touches_ite
    (pathJam_touches (hm.of rfl) (latchSet_touches (hm.of rfl) (evt_touches (hm.of rfl) (inputSince_touches (hm.of
    rfl) (wr_touches (hm.of rfl) h))))) (latchSet_touches (hm.of rfl) (evt_touches (hm.of rfl) (inputSince_touches
    (hm.of rfl) (wr_touches (hm.of rfl) h)))))))

theorem sensorAsserted_touches {z : State} {msk : Nat} {k : Nat} {bit : Nat} {s : State} (hm : Sub 0xc0790182003004
    msk) (h : Touches msk z s) : Touches msk z (sensorAsserted k bit s) :=
  (foldl_touches (fun _ _ h1 => (sensorLatch_touches (hm.of rfl) h1)) h)

theorem execJam_touches {z : State} {msk : Nat} {k : Nat} {s : State} (hm : Sub 0xc0790182003004 msk) (h : Touches msk
    z s) : TouchesO msk z (execJam k s) :=
  (touchesO_ite (.next h) (.next (sensorAsserted_touches (hm.of rfl) h)))

theorem execPaperOut_touches {z : State} {msk : Nat} {k : Nat} {s : State} (hm : Sub 0xc0790182003004 msk) (h :
    Touches msk z s) : TouchesO msk z (execPaperOut k s) :=
  (touchesO_ite (.next h) (.next (sensorAsserted_touches (hm.of rfl) h)))

theorem softApply_touches {z : State} {msk : Nat} {k : Nat} {s : State} (hm : Sub 0x1004 msk) (h : Touches msk z s) :
    Touches msk z (softApply k s) :=
  (evt_touches (hm.of rfl) (wr_touches (hm.of rfl) (wr_touches (hm.of rfl) h)))

theorem execSoftStateApply_touches {z : State} {msk : Nat} {k : Nat} {s : State} (hm : Sub 0x1004 msk) (h : Touches
    msk z s) : TouchesO msk z (execSoftStateApply k s) :=
  (touchesO_ite (.next (softApply_touches (hm.of rfl) h)) (.next h))

theorem fenceAtBoundary_touches {z : State} {msk : Nat} {k : Nat} {s : State} (hm : Sub 0x180000c1f9018205b004 msk) (h
    : Touches msk z s) : Touches msk z (fenceAtBoundary k s) :=
  (touches_ite (gateAtBoundary_touches (hm.of rfl) (setSta_touches (hm.of rfl) h)) (stationFence_touches (hm.of rfl)
    h))

theorem hardLimit_touches {z : State} {msk : Nat} {k : Nat} {s : State} (hm : Sub 0x180000c1f9018205b004 msk) (h :
    Touches msk z s) : Touches msk z (hardLimit k s) :=
  (fenceAtBoundary_touches (hm.of rfl) (recordFault_touches (hm.of rfl) (latchSet_touches (hm.of rfl) (evt_touches
    (hm.of rfl) h))))

theorem hotClear_touches {z : State} {msk : Nat} {k : Nat} {x1 : Int} {s : State} (hm : Sub 0x1004 msk) (h : Touches
    msk z s) : Touches msk z (hotClear k x1 s) :=
  (touches_ite (lenUpdate_touches (hm.of rfl) (setLatch_touches (hm.of rfl) h)) h)

theorem softJudge_touches {z : State} {msk : Nat} {k : Nat} {x1 : Int} {s : State} (hm : Sub 0x40000000001004 msk) (h
    : Touches msk z s) : Touches msk z (softJudge k x1 s) :=
  (touches_ite (setSta_touches (hm.of rfl) h) (touches_ite (wr_touches (hm.of rfl) (setSta_touches (hm.of rfl) h))
    (touches_ite (wr_touches (hm.of rfl) (setSta_touches (hm.of rfl) (setSta_touches (hm.of rfl) h)))
    (softApply_touches (hm.of rfl) (setSta_touches (hm.of rfl) h)))))

theorem judgeTemp_touches {z : State} {msk : Nat} {k : Nat} {x1 : Int} {s : State} (hm : Sub 0x180000c1f9018205b004
    msk) (h : Touches msk z s) : Touches msk z (judgeTemp k x1 s) :=
  (touches_ite h (touches_ite (touches_ite (softJudge_touches (hm.of rfl) h) (hardLimit_touches (hm.of rfl)
    (softJudge_touches (hm.of rfl) h))) (hotClear_touches (hm.of rfl) (softJudge_touches (hm.of rfl) h))))

theorem protFault_touches {z : State} {msk : Nat} {k : Nat} {src : Nat} {forced : Bool} {s : State} (hm : Sub
    0x180000c1f9018205b004 msk) (h : Touches msk z s) : Touches msk z (protFault k src forced s) :=
  (touches_ite (touches_ite (recordFault_touches (hm.of rfl) h) (touches_ite (fenceAtBoundary_touches (hm.of rfl)
    (setSta_touches (hm.of rfl) (recordFault_touches (hm.of rfl) h))) (fenceAtBoundary_touches (hm.of rfl)
    (spoilImaging_touches (hm.of rfl) (recordFault_touches (hm.of rfl) h))))) (stationFault_touches (hm.of rfl) h))

theorem rearmLatches_touches {z : State} {msk : Nat} {k : Nat} {s : State} (hm : Sub 0x1004 msk) (h : Touches msk z s)
    : Touches msk z (rearmLatches k s) :=
  (lenUpdate_touches (hm.of rfl) (onlyIf_touches (fun _ h1 => (evt_touches (hm.of rfl) h1)) (foldl_touches (fun _ _ h1
    => (touches_ite (setLatch_touches (hm.of rfl) h1) h1)) h)))

end Sys2Proof.Machine
end

