-- ==== Sys2Proof/Laws/TouchesHeadRx.lean ====
section
/-! SUPPORT. Which fields of the state every operation of HeadRx may change. -/

namespace Sys2Proof.Machine

theorem ackTake_touches {z : State} {msk : Nat} {k : Nat} {psn : Nat} {s : State} (hm : Sub 0x18000000000000001004
    msk) (h : Touches msk z s) : Touches msk z (ackTake k psn s) := by
  have e := Eq.refl @ackTake; conv at e => rhs; delta ackTake
  rw [e]
  (try dsimp only)
  split <;> (try dsimp only)
  exacts [h, (headPump_touches (hm.of rfl) (touches_ite (evt_touches (hm.of rfl) (wr_touches (hm.of rfl) (wr_touches (hm.of rfl) (setHead_touches (hm.of rfl) h)))) (wr_touches (hm.of rfl) (setHead_touches (hm.of rfl) h))))]

theorem hlBad_touches {z : State} {msk : Nat} {k : Nat} {b : List Sys2Proof.Byte} {s : State} (hm : Sub
    0x180000c1f9018205b004 msk) (h : Touches msk z s) : Touches msk z (hlBad k b s) :=
  (stationFault_touches (hm.of rfl) (bump_touches (hm.of rfl) h))

theorem hlArrival_touches {z : State} {msk : Nat} {k : Nat} {type : Nat} {b : List Sys2Proof.Byte} {f : State → State}
    {s : State} (hm : Sub 0x180000c1f9018205b004 msk) (hf0 : ∀ t, Touches msk z t → Touches msk z (f t)) (h : Touches
    msk z s) : Touches msk z (hlArrival k type b f s) :=
  (touches_ite h (touches_ite (hf0 _ h) (hlBad_touches (hm.of rfl) h)))

theorem headRestart_touches {z : State} {msk : Nat} {k : Nat} {s : State} (hm : Sub 0x80000c0790182003004 msk) (h :
    Touches msk z s) : Touches msk z (headRestart k s) :=
  (touches_ite (closeSession_touches (hm.of rfl) (spoilImaging_touches (hm.of rfl) h)) h)

theorem execHlAck_touches {z : State} {msk : Nat} {k : Nat} {pkt : List Sys2Proof.Byte} {s : State} (hm : Sub
    0x180000c1f9018205b004 msk) (h : Touches msk z s) : TouchesO msk z (execHlAck k pkt s) :=
  (.next (hlArrival_touches (hm.of rfl) (fun _ h1 => (touches_ite (headRestart_touches (hm.of rfl) h1) (touches_ite
    (ackTake_touches (hm.of rfl) h1) h1))) h))

theorem execHlBadPacket_touches {z : State} {msk : Nat} {k : Nat} {pkt : List Sys2Proof.Byte} {s : State} (hm : Sub
    0x180000c1f9018205b004 msk) (h : Touches msk z s) : TouchesO msk z (execHlBadPacket k pkt s) :=
  (touchesO_ite (.next h) (.next (hlBad_touches (hm.of rfl) h)))

theorem resendLines_touches {z : State} {msk : Nat} {k : Nat} {s : State} (hm : Sub 0x18000040000000001004 msk) (h :
    Touches msk z s) : Touches msk z (resendLines k s) :=
  (tagNext_touches (hm.of rfl) (setSta_touches (hm.of rfl) h))

theorem sessionBegin_touches {z : State} {msk : Nat} {k : Nat} {line : Nat} {ctl : Nat} {s : State} (hm : Sub
    0x180000c1f9018205b004 msk) (h : Touches msk z s) : Touches msk z (sessionBegin k line ctl s) :=
  (touches_ite (stationFault_touches (hm.of rfl) (showCredits_touches (hm.of rfl) (wr_touches (hm.of rfl) (evt_touches
    (hm.of rfl) (wr_touches (hm.of rfl) (setHead_touches (hm.of rfl) h)))))) (resendLines_touches (hm.of rfl)
    (headSend_touches (hm.of rfl) (sendLintab_touches (hm.of rfl) (showCredits_touches (hm.of rfl) (wr_touches (hm.of
    rfl) (evt_touches (hm.of rfl) (wr_touches (hm.of rfl) (setHead_touches (hm.of rfl) h)))))))))

theorem execHlCredit_touches {z : State} {msk : Nat} {k : Nat} {pkt : List Sys2Proof.Byte} {s : State} (hm : Sub
    0x180000c1f9018205b004 msk) (h : Touches msk z s) : TouchesO msk z (execHlCredit k pkt s) :=
  (.next (hlArrival_touches (hm.of rfl) (fun _ h1 => (touches_ite (headPump_touches (hm.of rfl) (showCredits_touches
    (hm.of rfl) (setHead_touches (hm.of rfl) h1))) (touches_ite (sessionBegin_touches (hm.of rfl) h1) h1))) h))

theorem resend_touches {z : State} {msk : Nat} {k : Nat} {l : List (Nat × HeadPkt)} {s : State} (hm : Sub
    0x10000000000000001004 msk) (h : Touches msk z s) : Touches msk z (resend k l s) :=
  (touches_ite h (bump_touches (hm.of rfl) (foldl_touches (fun _ _ h1 => (headOut_touches (hm.of rfl) h1)) h)))

theorem nakTake_touches {z : State} {msk : Nat} {k : Nat} {psn : Nat} {s : State} (hm : Sub 0x180000c1f9018205b004
    msk) (h : Touches msk z s) : Touches msk z (nakTake k psn s) :=
  (touches_ite (stationFault_touches (hm.of rfl) (resend_touches (hm.of rfl) (bump_touches (hm.of rfl)
    (setHead_touches (hm.of rfl) h)))) (resend_touches (hm.of rfl) (bump_touches (hm.of rfl) (setHead_touches (hm.of
    rfl) h))))

theorem execHlNak_touches {z : State} {msk : Nat} {k : Nat} {pkt : List Sys2Proof.Byte} {s : State} (hm : Sub
    0x180000c1f9018205b004 msk) (h : Touches msk z s) : TouchesO msk z (execHlNak k pkt s) :=
  (.next (hlArrival_touches (hm.of rfl) (fun _ h1 => (touches_ite (nakTake_touches (hm.of rfl) h1) h1)) h))

theorem execHlReplayTimer_touches {z : State} {msk : Nat} {k : Nat} {s : State} (hm : Sub 0x18000000000000001004 msk)
    (h : Touches msk z s) : TouchesO msk z (execHlReplayTimer k s) :=
  (touchesO_ite (.next (resend_touches (hm.of rfl) (setHead_touches (hm.of rfl) h))) (.next h))

theorem execHlResyncTimer_touches {z : State} {msk : Nat} {k : Nat} {s : State} (hm : Sub 0x18000000000000001000 msk)
    (h : Touches msk z s) : TouchesO msk z (execHlResyncTimer k s) :=
  (touchesO_ite (.next (headOut_touches (hm.of rfl) (setHead_touches (hm.of rfl) h))) (.next h))

theorem statusCool_touches {z : State} {msk : Nat} {k : Nat} {pkt : List Sys2Proof.Byte} {s : State} (hm : Sub 0x1004
    msk) (h : Touches msk z s) : Touches msk z (statusCool k pkt s) :=
  (touches_ite (hotClear_touches (hm.of rfl) h) h)

theorem statusUnderrun_touches {z : State} {msk : Nat} {k : Nat} {p : List Sys2Proof.Byte} {s : State} (hm : Sub
    0x180000c1f9018205b004 msk) (h : Touches msk z s) : Touches msk z (statusUnderrun k p s) :=
  (touches_ite (by (try dsimp only); split <;> (try dsimp only); exacts [(underrun_touches (hm.of rfl) h), h])
    (touches_ite (underrun_touches (hm.of rfl) h) h))

theorem statusShow_touches {z : State} {msk : Nat} {k : Nat} {p : List Sys2Proof.Byte} {s : State} (hm : Sub
    0x8000000000000001004 msk) (h : Touches msk z s) : Touches msk z (statusShow k p s) :=
  (onlyIf_touches (fun _ h1 => (evt_touches (hm.of rfl) h1)) (onlyIf_touches (fun _ h1 => (evt_touches (hm.of rfl)
    h1)) (onlyIf_touches (fun _ h1 => (evt_touches (hm.of rfl) h1)) (onlyIf_touches (fun _ h1 => (evt_touches (hm.of
    rfl) h1)) (wr_touches (hm.of rfl) (wr_touches (hm.of rfl) (wr_touches (hm.of rfl) (wr_touches (hm.of rfl)
    (wr_touches (hm.of rfl) (wr_touches (hm.of rfl) (wr_touches (hm.of rfl) (wr_touches (hm.of rfl) (wr_touches (hm.of
    rfl) (bump_touches (hm.of rfl) (setHead_touches (hm.of rfl) h)))))))))))))))

theorem statusTake_touches {z : State} {msk : Nat} {k : Nat} {p : List Sys2Proof.Byte} {s : State} (hm : Sub
    0x180000c1f9018205b004 msk) (h : Touches msk z s) : Touches msk z (statusTake k p s) :=
  (touches_ite h (judgeTemp_touches (hm.of rfl) (setSta_touches (hm.of rfl) (statusUnderrun_touches (hm.of rfl)
    (statusShow_touches (hm.of rfl) h)))))

theorem execHlStatus_touches {z : State} {msk : Nat} {k : Nat} {pkt : List Sys2Proof.Byte} {s : State} (hm : Sub
    0x180000c1f9018205b004 msk) (h : Touches msk z s) : TouchesO msk z (execHlStatus k pkt s) :=
  (touchesO_ite (.next (statusCool_touches (hm.of rfl) h)) (.next (hlArrival_touches (hm.of rfl) (fun _ h1 =>
    (statusTake_touches (hm.of rfl) h1)) h)))

theorem execHlStatusTimeout_touches {z : State} {msk : Nat} {k : Nat} {s : State} (hm : Sub 0x180000c1f9018205b004
    msk) (h : Touches msk z s) : TouchesO msk z (execHlStatusTimeout k s) :=
  (touchesO_ite (.next (stationFault_touches (hm.of rfl) (evt_touches (hm.of rfl) h))) (.next h))

theorem headcfgGo_touches {z : State} {msk : Nat} {k : Nat} {s : State} (hm : Sub 0x18000000000000001004 msk) (h :
    Touches msk z s) : Touches msk z (headcfgGo k s) :=
  (touches_ite h (headSend_touches (hm.of rfl) (wr_touches (hm.of rfl) h)))

end Sys2Proof.Machine
end

