-- ==== Sys2Proof/Laws/TouchesRails.lean ====
section
/-! SUPPORT. Which fields of the state every operation of Rails may change. -/

namespace Sys2Proof.Machine

theorem nvStore_touches {z : State} {msk : Nat} {d : Nat} {o : Nat} {bs : List Sys2Proof.Byte} {s : State} (hm : Sub
    0x800000000000000010 msk) (h : Touches msk z s) : Touches msk z (nvStore d o bs s) :=
  (Touches.upD_nvBad (hm.of rfl) (nvWriteBytes_touches (hm.of rfl) h))

theorem logAdvance_touches {z : State} {msk : Nat} {s : State} (hm : Sub 0x1000000000000000004 msk) (h : Touches msk z
    s) : Touches msk z (logAdvance s) :=
  (wr_touches (hm.of rfl) (Touches.upD_logSeq (hm.of rfl) h))

theorem execLogRecordWrite_touches {z : State} {msk : Nat} {s : State} (hm : Sub 0x1800001800000001014 msk) (h :
    Touches msk z s) : TouchesO msk z (execLogRecordWrite s) := by
  have e := Eq.refl @execLogRecordWrite; conv at e => rhs; delta execLogRecordWrite
  rw [e]
  (try dsimp only)
  split <;> (try dsimp only)
  exacts [(.next h), (touchesO_ite (.next h) (.next (evt_touches (hm.of rfl) (Touches.upD_logBusy_logWait (hm.of rfl) (logAdvance_touches (hm.of rfl) (wr_touches (hm.of rfl) (nvStore_touches (hm.of rfl) h)))))))]

theorem setRail_touches {z : State} {msk : Nat} {n : Nat} {r : Rail} {s : State} (hm : Sub 0x80000000000000000 msk) (h
    : Touches msk z s) : Touches msk z (setRail n r s) :=
  (Touches.upD_rails (hm.of rfl) h)

theorem execRailDownTimeout_touches {z : State} {msk : Nat} {n : Nat} {s : State} (hm : Sub 0x80001800000041004 msk)
    (h : Touches msk z s) : TouchesO msk z (execRailDownTimeout n s) :=
  (touchesO_ite (.next (recordFault_touches (hm.of rfl) (setRail_touches (hm.of rfl) h))) (.next h))

theorem railEnter_touches {z : State} {msk : Nat} {n : Nat} {st : Nat} {s : State} (hm : Sub 0x80001800000041004 msk)
    (h : Touches msk z s) : Touches msk z (railEnter n st s) :=
  (touches_ite (evt_touches (hm.of rfl) (wr_touches (hm.of rfl) (wr_touches (hm.of rfl) (touches_ite (wr_touches
    (hm.of rfl) (wr_touches (hm.of rfl) (wr_touches (hm.of rfl) (setRail_touches (hm.of rfl) h)))) (wr_touches (hm.of
    rfl) (wr_touches (hm.of rfl) (setRail_touches (hm.of rfl) h))))))) (touches_ite (logTrigger_touches (hm.of rfl)
    (evt_touches (hm.of rfl) (recordFault_touches (hm.of rfl) (wr_touches (hm.of rfl) (wr_touches (hm.of rfl)
    (touches_ite (wr_touches (hm.of rfl) (wr_touches (hm.of rfl) (wr_touches (hm.of rfl) (setRail_touches (hm.of rfl)
    h)))) (wr_touches (hm.of rfl) (wr_touches (hm.of rfl) (setRail_touches (hm.of rfl) h))))))))) (wr_touches (hm.of
    rfl) (wr_touches (hm.of rfl) (touches_ite (wr_touches (hm.of rfl) (wr_touches (hm.of rfl) (wr_touches (hm.of rfl)
    (setRail_touches (hm.of rfl) h)))) (wr_touches (hm.of rfl) (wr_touches (hm.of rfl) (setRail_touches (hm.of rfl)
    h))))))))

theorem railApply_touches {z : State} {msk : Nat} {n : Nat} {row : Option (Nat × Bool)} {s : State} (hm : Sub
    0x80001800000041004 msk) (h : Touches msk z s) : Touches msk z (railApply n row s) := by
  have e := Eq.refl @railApply; conv at e => rhs; delta railApply
  rw [e]
  (try dsimp only)
  split <;> (try dsimp only)
  exacts [(railEnter_touches (hm.of rfl) (onlyIf_touches (fun _ h1 => (bump_touches (hm.of rfl) h1)) h)), h]

theorem railTimer_touches {z : State} {msk : Nat} {n : Nat} {due : Bool} {s : State} (hm : Sub 0x80001800000041004
    msk) (h : Touches msk z s) : Touches msk z (railTimer n due s) :=
  (touches_ite (railApply_touches (hm.of rfl) h) h)

theorem execRailMinoffEnd_touches {z : State} {msk : Nat} {n : Nat} {s : State} (hm : Sub 0x80001800000041004 msk) (h
    : Touches msk z s) : TouchesO msk z (execRailMinoffEnd n s) :=
  (.next (railTimer_touches (hm.of rfl) h))

theorem railWatch_touches {z : State} {msk : Nat} {n : Nat} {s : State} (hm : Sub 0x80000000000000004 msk) (h :
    Touches msk z s) : Touches msk z (railWatch n s) :=
  (setRail_touches (hm.of rfl) (touches_ite (wr_touches (hm.of rfl) h) h))

theorem execRailPgChange_touches {z : State} {msk : Nat} {n : Nat} {level : Bool} {s : State} (hm : Sub
    0x80000000000000004 msk) (h : Touches msk z s) : TouchesO msk z (execRailPgChange n level s) :=
  (touchesO_ite (.next h) (.next (railWatch_touches (hm.of rfl) (wr_touches (hm.of rfl) h))))

theorem execRailQualifyDone_touches {z : State} {msk : Nat} {n : Nat} {s : State} (hm : Sub 0x80001800000041004 msk)
    (h : Touches msk z s) : TouchesO msk z (execRailQualifyDone n s) :=
  (.next (railTimer_touches (hm.of rfl) h))

theorem execRailSeqStep_touches {z : State} {msk : Nat} {mon : List Nat} {s : State} (hm : Sub 0x180001800000041004
    msk) (h : Touches msk z s) : TouchesO msk z (execRailSeqStep mon s) :=
  (.next (foldl_touches (fun _ _ h1 => (railApply_touches (hm.of rfl) h1)) (foldl_touches (fun _ _ h1 =>
    (railWatch_touches (hm.of rfl) h1)) (foldl_touches (fun _ _ h1 =>
    (by (try dsimp only); split <;> (try dsimp only); exacts [(Touches.upD_rmon (hm.of rfl) h1), h1])) h))))

theorem execRailTimeout_touches {z : State} {msk : Nat} {n : Nat} {s : State} (hm : Sub 0x80001800000041004 msk) (h :
    Touches msk z s) : TouchesO msk z (execRailTimeout n s) :=
  (.next (railTimer_touches (hm.of rfl) h))

theorem execVinRecover_touches {z : State} {msk : Nat} {code : Nat} {s : State} (hm : Sub 0x1004 msk) (h : Touches msk
    z s) : TouchesO msk z (execVinRecover code s) :=
  (touchesO_ite (.next h) (.next (evt_touches (hm.of rfl) (foldl_touches (fun _ _ h1 => (wr_touches (hm.of rfl) h1))
    (wr_touches (hm.of rfl) (wr_touches (hm.of rfl) h))))))

theorem logAbandon_touches {z : State} {msk : Nat} {s : State} (hm : Sub 0x1800000800000000014 msk) (h : Touches msk z
    s) : Touches msk z (logAbandon s) := by
  have e := Eq.refl @logAbandon; conv at e => rhs; delta logAbandon
  rw [e]
  (try dsimp only)
  split <;> (try dsimp only)
  exacts [h, (logAdvance_touches (hm.of rfl) (Touches.upD_logBusy (hm.of rfl) (nvStore_touches (hm.of rfl) h)))]

theorem logScan_touches {z : State} {msk : Nat} {s : State} (hm : Sub 0x1000000000000000004 msk) (h : Touches msk z s)
    : Touches msk z (logScan s) :=
  (wr_touches (hm.of rfl) (wr_touches (hm.of rfl) (wr_touches (hm.of rfl) (wr_touches (hm.of rfl) (Touches.upD_logSeq
    (hm.of rfl) h)))))

theorem logVin_touches {z : State} {msk : Nat} {s : State} (hm : Sub 0x1800000800000000014 msk) (h : Touches msk z s)
    : Touches msk z (logVin s) :=
  (Touches.upD_logBusy (hm.of rfl) (logAbandon_touches (hm.of rfl) h))

theorem nvHostWrite_touches {z : State} {msk : Nat} {d : Nat} {o : Nat} {v : Nat} {be : Nat} {s : State} (hm : Sub
    0x1014 msk) (h : Touches msk z s) : Touches msk z (nvHostWrite d o v be s) :=
  (touches_ite (foldl_touches (fun _ _ h1 => (touches_ite (nvPut_touches (hm.of rfl) h1) h1)) h) (evt_touches (hm.of
    rfl) (bump_touches (hm.of rfl) h)))

theorem nvUncorrectable_touches {z : State} {msk : Nat} {d : Nat} {s : State} (hm : Sub 0x1800000041004 msk) (h :
    Touches msk z s) : Touches msk z (nvUncorrectable d s) :=
  (evt_touches (hm.of rfl) (recordFault_touches (hm.of rfl) (bump_touches (hm.of rfl) h)))

theorem nvReadChecked_touches {z : State} {msk : Nat} {d : Nat} {o : Nat} {n : Nat} {s : State} (hm : Sub
    0x1800000041004 msk) (h : Touches msk z s) : Touches msk z (nvReadChecked d o n s).2.2 :=
  (touches_ite2 (nvUncorrectable_touches (hm.of rfl) h) h)

theorem railClear_touches {z : State} {msk : Nat} {mask : Nat} {s : State} (hm : Sub 0x80001800000041004 msk) (h :
    Touches msk z s) : Touches msk z (railClear mask s) :=
  (foldl_touches (fun _ _ h1 => (touches_ite (railEnter_touches (hm.of rfl) h1) h1)) h)

theorem railTableLoad_touches {z : State} {msk : Nat} {s : State} (hm : Sub 0x1800000041004 msk) (h : Touches msk z s)
    : Touches msk z (railTableLoad s) :=
  (touches_ite (evt_touches (hm.of rfl) (wr_touches (hm.of rfl) (wr_touches (hm.of rfl) (nvReadChecked_touches (hm.of
    rfl) h)))) (foldl_touches (fun _ _ h1 => (wr_touches (hm.of rfl) (wr_touches (hm.of rfl) (wr_touches (hm.of rfl)
    (wr_touches (hm.of rfl) (wr_touches (hm.of rfl) (wr_touches (hm.of rfl) (putWord_touches (hm.of rfl) h1))))))))
    (wr_touches (hm.of rfl) (wr_touches (hm.of rfl) (wr_touches (hm.of rfl) (nvReadChecked_touches (hm.of rfl) h))))))

theorem vinTrip_touches {z : State} {msk : Nat} {code : Nat} {s : State} (hm : Sub 0x1800001800000041014 msk) (h :
    Touches msk z s) : Touches msk z (vinTrip code s) :=
  (evt_touches (hm.of rfl) (recordFault_touches (hm.of rfl) (logVin_touches (hm.of rfl) (touches_ite (wr_touches
    (hm.of rfl) (bump_touches (hm.of rfl) (wr_touches (hm.of rfl) (wr_touches (hm.of rfl) (foldl_touches (fun _ _ h1
    => (wr_touches (hm.of rfl) h1)) h))))) (bump_touches (hm.of rfl) (wr_touches (hm.of rfl) (wr_touches (hm.of rfl)
    (foldl_touches (fun _ _ h1 => (wr_touches (hm.of rfl) h1)) h))))))))

end Sys2Proof.Machine
end

