-- ==== Sys2Proof/Laws/TouchesCalib.lean ====
section
/-! SUPPORT. Which fields of the state every operation of Calib may change. -/

namespace Sys2Proof.Machine

theorem abandonCopy_touches {z : State} {msk : Nat} {d : Nat} {head : Nat} {data : Nat} {n : Nat} {s : State} (hm :
    Sub 0x800000000000004010 msk) (h : Touches msk z s) : Touches msk z (abandonCopy d head data n s) :=
  (nvStore_touches (hm.of rfl) (nvStore_touches (hm.of rfl) (freeBytes_touches (hm.of rfl) h)))

theorem setAge_touches {z : State} {msk : Nat} {k : Nat} {v : AgeRun} {s : State} (hm : Sub 0x80000000000000000000
    msk) (h : Touches msk z s) : Touches msk z (setAge k v s) :=
  (Touches.upD_ages (hm.of rfl) h)

theorem ageIdle_touches {z : State} {msk : Nat} {k : Nat} {s : State} (hm : Sub 0x80000000000000000004 msk) (h :
    Touches msk z s) : Touches msk z (ageIdle k s) :=
  (wr_touches (hm.of rfl) (setAge_touches (hm.of rfl) h))

theorem readCopy_touches {z : State} {msk : Nat} {d : Nat} {head : Nat} {data : Nat} {n : Nat} {s : State} (hm : Sub
    0x1800000041004 msk) (h : Touches msk z s) : Touches msk z (readCopy d head data n s).2 :=
  (nvReadChecked_touches (hm.of rfl) (nvReadChecked_touches (hm.of rfl) h))

theorem newerCopy_touches {z : State} {msk : Nat} {d : Nat} {l : Nat} {s : State} (hm : Sub 0x1800000041004 msk) (h :
    Touches msk z s) : Touches msk z (newerCopy d l s).2 :=
  (readCopy_touches (hm.of rfl) (readCopy_touches (hm.of rfl) h))

theorem ckptAbandoned_touches {z : State} {msk : Nat} {k : Nat} {s : State} (hm : Sub 0x1800000041004 msk) (h :
    Touches msk z s) : Touches msk z (ckptAbandoned k s) :=
  (evt_touches (hm.of rfl) (recordFault_touches (hm.of rfl) h))

theorem ageAbandon_touches {z : State} {msk : Nat} {k : Nat} {s : State} (hm : Sub 0x80800001800000045014 msk) (h :
    Touches msk z s) : Touches msk z (ageAbandon k s) := by
  have e := Eq.refl @ageAbandon; conv at e => rhs; delta ageAbandon
  rw [e]
  (try dsimp only)
  split <;> (try dsimp only)
  exacts [(ageIdle_touches (hm.of rfl) (evt_touches (hm.of rfl) (abandonCopy_touches (hm.of rfl) h))), (ageIdle_touches (hm.of rfl) (ckptAbandoned_touches (hm.of rfl) (abandonCopy_touches (hm.of rfl) (newerCopy_touches (hm.of rfl) h)))), h]

theorem ageCheckpoint_touches {z : State} {msk : Nat} {k : Nat} {s : State} (hm : Sub 0x800001800000045014 msk) (h :
    Touches msk z s) : Touches msk z (ageCheckpoint k s) := by
  have e := Eq.refl @ageCheckpoint; conv at e => rhs; delta ageCheckpoint
  rw [e]
  (try dsimp only)
  split <;> (try dsimp only)
  exacts [(evt_touches (hm.of rfl) (wr_touches (hm.of rfl) (wr_touches (hm.of rfl) (nvStore_touches (hm.of rfl) (nvStore_touches (hm.of rfl) (Touches.ofPair (by assumption) (agentRead_touches (hm.of rfl) (newerCopy_touches (hm.of rfl) h)))))))), (ckptAbandoned_touches (hm.of rfl) (wr_touches (hm.of rfl) (abandonCopy_touches (hm.of rfl) (Touches.ofPair (by assumption) (agentRead_touches (hm.of rfl) (newerCopy_touches (hm.of rfl) h))))))]

theorem ageStart_touches {z : State} {msk : Nat} {k : Nat} {a : Nat} {s : State} (hm : Sub 0x80000000000000000004 msk)
    (h : Touches msk z s) : Touches msk z (ageStart k a s) :=
  (wr_touches (hm.of rfl) (setAge_touches (hm.of rfl) h))

theorem ageCtl_touches {z : State} {msk : Nat} {k : Nat} {enBefore : Bool} {w : Nat} {s : State} (hm : Sub
    0x80000000000000000004 msk) (h : Touches msk z s) : Touches msk z (ageCtl k enBefore w s) :=
  (touches_ite (ageStart_touches (hm.of rfl) (touches_ite (ageStart_touches (hm.of rfl) (touches_ite (ageStart_touches
    (hm.of rfl) (touches_ite (setAge_touches (hm.of rfl) h) h)) (touches_ite (setAge_touches (hm.of rfl) h) h)))
    (touches_ite (ageStart_touches (hm.of rfl) (touches_ite (setAge_touches (hm.of rfl) h) h)) (touches_ite
    (setAge_touches (hm.of rfl) h) h)))) (touches_ite (ageStart_touches (hm.of rfl) (touches_ite (ageStart_touches
    (hm.of rfl) (touches_ite (setAge_touches (hm.of rfl) h) h)) (touches_ite (setAge_touches (hm.of rfl) h) h)))
    (touches_ite (ageStart_touches (hm.of rfl) (touches_ite (setAge_touches (hm.of rfl) h) h)) (touches_ite
    (setAge_touches (hm.of rfl) h) h))))

theorem ageRestore_touches {z : State} {msk : Nat} {k : Nat} {s : State} (hm : Sub 0x180020004100c msk) (h : Touches
    msk z s) : Touches msk z (ageRestore k s) := by
  have e := Eq.refl @ageRestore; conv at e => rhs; delta ageRestore
  rw [e]
  (try dsimp only)
  split <;> (try dsimp only)
  exacts [(wr_touches (hm.of rfl) (agentPut_touches (hm.of rfl) (wr_touches (hm.of rfl) (wr_touches (hm.of rfl) (newerCopy_touches (hm.of rfl) (touches_ite (agentPut_touches (hm.of rfl) (wr_touches (hm.of rfl) (readCopy_touches (hm.of rfl) h))) (wr_touches (hm.of rfl) (readCopy_touches (hm.of rfl) h)))))))), (agentPut_touches (hm.of rfl) (wr_touches (hm.of rfl) (wr_touches (hm.of rfl) (newerCopy_touches (hm.of rfl) (touches_ite (agentPut_touches (hm.of rfl) (wr_touches (hm.of rfl) (readCopy_touches (hm.of rfl) h))) (wr_touches (hm.of rfl) (readCopy_touches (hm.of rfl) h)))))))]

theorem ageSave_touches {z : State} {msk : Nat} {k : Nat} {s : State} (hm : Sub 0x800001800000045014 msk) (h : Touches
    msk z s) : Touches msk z (ageSave k s) := by
  have e := Eq.refl @ageSave; conv at e => rhs; delta ageSave
  rw [e]
  (try dsimp only)
  split <;> (try dsimp only)
  exacts [(wr_touches (hm.of rfl) (nvStore_touches (hm.of rfl) (drawFree_touches (hm.of rfl) (nvStore_touches (hm.of rfl) (Touches.ofPair (by assumption) (agentRead_touches (hm.of rfl) h)))))), (wr_touches (hm.of rfl) (abandonCopy_touches (hm.of rfl) (Touches.ofPair (by assumption) (agentRead_touches (hm.of rfl) h))))]

theorem trimBytes_touches {z : State} {msk : Nat} {a : Nat} {n : Nat} {s : State} (hm : Sub 0x1800000045004 msk) (h :
    Touches msk z s) : Touches msk z (trimBytes a n s).2 := by
  have e := Eq.refl @trimBytes; conv at e => rhs; delta trimBytes
  rw [e]
  (try dsimp only)
  split <;> (try dsimp only)
  exacts [(Touches.ofPair (by assumption) (agentRead_touches (hm.of rfl) h)), (freeBytes_touches (hm.of rfl) (Touches.ofPair (by assumption) (agentRead_touches (hm.of rfl) h)))]

theorem agedTrims_touches {z : State} {msk : Nat} {k : Nat} {n : Nat} {s : State} (hm : Sub 0x1800000045004 msk) (h :
    Touches msk z s) : Touches msk z (agedTrims k n s).2 :=
  (trimBytes_touches (hm.of rfl) (trimBytes_touches (hm.of rfl) h))

theorem aregMeasure_touches {z : State} {msk : Nat} {d : Nat} {l : Nat} {p : Nat × Nat} {s : State} (hm : Sub
    0x1800000041004 msk) (h : Touches msk z s) : Touches msk z (aregMeasure d l p s) :=
  (touches_ite (evt_touches (hm.of rfl) (wr_touches (hm.of rfl) (wrS_touches (hm.of rfl) h))) (recordFault_touches
    (hm.of rfl) (bump_touches (hm.of rfl) h)))

theorem setCalJob_touches {z : State} {msk : Nat} {d : Nat} {v : Option CalJob} {s : State} (hm : Sub
    0x40000000000000000000 msk) (h : Touches msk z s) : Touches msk z (setCalJob d v s) :=
  (Touches.upD_calJobs (hm.of rfl) h)

theorem calEnd_touches {z : State} {msk : Nat} {d : Nat} {result : Nat} {s : State} (hm : Sub 0x40000000000000001004
    msk) (h : Touches msk z s) : Touches msk z (calEnd d result s) :=
  (evt_touches (hm.of rfl) (wr_touches (hm.of rfl) (wr_touches (hm.of rfl) (wr_touches (hm.of rfl) (setCalJob_touches
    (hm.of rfl) h)))))

theorem slotClear_touches {z : State} {msk : Nat} {d : Nat} {i : Nat} {s : State} (hm : Sub 0x4 msk) (h : Touches msk
    z s) : Touches msk z (slotClear d i s) :=
  (touches_ite h (wr_touches (hm.of rfl) (wr_touches (hm.of rfl) h)))

theorem calGo_touches {z : State} {msk : Nat} {d : Nat} {s : State} (hm : Sub 0x40000001800000041004 msk) (h : Touches
    msk z s) : Touches msk z (calGo d s) :=
  (touches_ite h (touches_ite (calEnd_touches (hm.of rfl) (slotClear_touches (hm.of rfl) (nvReadChecked_touches (hm.of
    rfl) h))) (touches_ite (calEnd_touches (hm.of rfl) (nvReadChecked_touches (hm.of rfl) h)) (touches_ite
    (calEnd_touches (hm.of rfl) (nvReadChecked_touches (hm.of rfl) h)) (wr_touches (hm.of rfl) (setCalJob_touches
    (hm.of rfl) (nvReadChecked_touches (hm.of rfl) h)))))))

theorem calSpoil_touches {z : State} {msk : Nat} {tables : List (Nat × List Sys2Proof.Byte)} {k : Nat} {s : State} (hm
    : Sub 0x4004 msk) (h : Touches msk z s) : Touches msk z (calSpoil tables k s) :=
  (foldl_touches (fun _ _ h1 => (putBytes_touches (hm.of rfl) (freeBytes_touches (hm.of rfl) h1))) h)

theorem execAgeActionEnd_touches {z : State} {msk : Nat} {k : Nat} {s : State} (hm : Sub 0x8080000180020004501c msk)
    (h : Touches msk z s) : TouchesO msk z (execAgeActionEnd k s) :=
  (touchesO_ite (.next h) (.next (ageIdle_touches (hm.of rfl) (touches_ite (evt_touches (hm.of rfl)
    (ageRestore_touches (hm.of rfl) h)) (touches_ite (evt_touches (hm.of rfl) (touches_ite h (ageSave_touches (hm.of
    rfl) h))) (touches_ite (ckptAbandoned_touches (hm.of rfl) h) (ageCheckpoint_touches (hm.of rfl) h)))))))

theorem trimSend_touches {z : State} {msk : Nat} {k : Nat} {kind : Nat} {keep : Bool} {trims : List Nat} {s : State}
    (hm : Sub 0x18000000000000001004 msk) (h : Touches msk z s) : Touches msk z (trimSend k kind keep trims s) :=
  (touches_ite (headSend_touches (hm.of rfl) (wr_touches (hm.of rfl) (touches_ite (setHead_touches (hm.of rfl) h) h)))
    (wr_touches (hm.of rfl) (touches_ite (setHead_touches (hm.of rfl) h) h)))

theorem execAgeRefresh_touches {z : State} {msk : Nat} {k : Nat} {s : State} (hm : Sub 0x98000001800000045004 msk) (h
    : Touches msk z s) : TouchesO msk z (execAgeRefresh k s) :=
  (touchesO_ite (.next (trimSend_touches (hm.of rfl) (setAge_touches (hm.of rfl) (agedTrims_touches (hm.of rfl) h))))
    (.next h))

theorem slotStage_touches {z : State} {msk : Nat} {d : Nat} {i : Nat} {es : List (Nat × Nat × Nat)} {s : State} (hm :
    Sub 0x4 msk) (h : Touches msk z s) : Touches msk z (slotStage d i es s) :=
  (touches_ite h (foldl_touches (fun _ _ h1 => (wr_touches (hm.of rfl) (wr_touches (hm.of rfl) (wr_touches (hm.of rfl)
    h1)))) (wr_touches (hm.of rfl) (slotClear_touches (hm.of rfl) h))))

theorem execCalLoadEnd_touches {z : State} {msk : Nat} {d : Nat} {s : State} (hm : Sub 0x4000000180020004500c msk) (h
    : Touches msk z s) : TouchesO msk z (execCalLoadEnd d s) := by
  have e := Eq.refl @execCalLoadEnd; conv at e => rhs; delta execCalLoadEnd
  rw [e]
  (try dsimp only)
  split <;> (try dsimp only)
  exacts [(.next h), (touchesO_ite (.next (calEnd_touches (hm.of rfl) (slotClear_touches (hm.of rfl) (facetUpdate_touches (hm.of rfl) (calSpoil_touches (hm.of rfl) (nvReadChecked_touches (hm.of rfl) h)))))) (by (try dsimp only); split <;> (try dsimp only); exacts [(.next (calEnd_touches (hm.of rfl) (slotClear_touches (hm.of rfl) (facetUpdate_touches (hm.of rfl) (calSpoil_touches (hm.of rfl) (stationRefuse_touches (hm.of rfl) (nvReadChecked_touches (hm.of rfl) h))))))), (touchesO_ite (.next (calEnd_touches (hm.of rfl) (slotClear_touches (hm.of rfl) (facetUpdate_touches (hm.of rfl) (calSpoil_touches (hm.of rfl) (agentWrite_touches (hm.of rfl) (facetUpdate_touches (hm.of rfl) (touches_ite (wr_touches (hm.of rfl) (foldl_touches (fun _ _ h1 => (putBytes_touches (hm.of rfl) h1)) (nvReadChecked_touches (hm.of rfl) h))) (foldl_touches (fun _ _ h1 => (putBytes_touches (hm.of rfl) h1)) (nvReadChecked_touches (hm.of rfl) h)))))))))) (.next (calEnd_touches (hm.of rfl) (touches_ite (agentWrite_touches (hm.of rfl) (facetUpdate_touches (hm.of rfl) (touches_ite (wr_touches (hm.of rfl) (foldl_touches (fun _ _ h1 => (putBytes_touches (hm.of rfl) h1)) (nvReadChecked_touches (hm.of rfl) h))) (foldl_touches (fun _ _ h1 => (putBytes_touches (hm.of rfl) h1)) (nvReadChecked_touches (hm.of rfl) h))))) (wr_touches (hm.of rfl) (slotStage_touches (hm.of rfl) (agentWrite_touches (hm.of rfl) (facetUpdate_touches (hm.of rfl) (touches_ite (wr_touches (hm.of rfl) (foldl_touches (fun _ _ h1 => (putBytes_touches (hm.of rfl) h1)) (nvReadChecked_touches (hm.of rfl) h))) (foldl_touches (fun _ _ h1 => (putBytes_touches (hm.of rfl) h1)) (nvReadChecked_touches (hm.of rfl) h)))))))))))]))]

theorem setMark_touches {z : State} {msk : Nat} {d : Nat} {m : Nat} {v : MarkInput} {s : State} (hm : Sub
    0x20000000000000000000 msk) (h : Touches msk z s) : Touches msk z (setMark d m v s) :=
  (Touches.upD_marks (hm.of rfl) h)

theorem showMark_touches {z : State} {msk : Nat} {d : Nat} {m : Nat} {s : State} (hm : Sub 0x4 msk) (h : Touches msk z
    s) : Touches msk z (showMark d m s) :=
  (wr_touches (hm.of rfl) (wr_touches (hm.of rfl) (wr_touches (hm.of rfl) (wr_touches (hm.of rfl) (wr_touches (hm.of
    rfl) h)))))

theorem execMarkCapture_touches {z : State} {msk : Nat} {d : Nat} {m : Nat} {level : Bool × Nat} {s : State} (hm : Sub
    0x20000001800000041004 msk) (h : Touches msk z s) : TouchesO msk z (execMarkCapture d m level s) :=
  (touchesO_ite (.next h) (touchesO_ite (.next (showMark_touches (hm.of rfl) (touches_ite (setMark_touches (hm.of rfl)
    h) (evt_touches (hm.of rfl) (bump_touches (hm.of rfl) h))))) (touchesO_ite (.next (wr_touches (hm.of rfl)
    (setMark_touches (hm.of rfl) (showMark_touches (hm.of rfl) (touches_ite (setMark_touches (hm.of rfl) h)
    (evt_touches (hm.of rfl) (bump_touches (hm.of rfl) h))))))) (.next (foldl_touches (fun _ _ h1 =>
    (by (try dsimp only); split <;> (try dsimp only); exacts [(aregMeasure_touches (hm.of rfl) h1), h1])) (wr_touches
    (hm.of rfl) (setMark_touches (hm.of rfl) (showMark_touches (hm.of rfl) (touches_ite (setMark_touches (hm.of rfl)
    h) (evt_touches (hm.of rfl) (bump_touches (hm.of rfl) h)))))))))))

theorem execWearCheckpoint_touches {z : State} {msk : Nat} {k : Nat} {s : State} (hm : Sub 0x80000000000000000004 msk)
    (h : Touches msk z s) : TouchesO msk z (execWearCheckpoint k s) :=
  (touchesO_ite (.next (ageStart_touches (hm.of rfl) (setAge_touches (hm.of rfl) h))) (.next h))

theorem markPop_touches {z : State} {msk : Nat} {d : Nat} {m : Nat} {s : State} (hm : Sub 0x20000000000000000004 msk)
    (h : Touches msk z s) : Touches msk z (markPop d m s) :=
  (showMark_touches (hm.of rfl) (setMark_touches (hm.of rfl) h))

theorem markWindows_touches {z : State} {msk : Nat} {d : Nat} {n : Nat} {s : State} (hm : Sub 0x20000000000000001004
    msk) (h : Touches msk z s) : Touches msk z (markWindows d n s) :=
  (foldl_touches (fun _ _ h1 => (touches_ite (wr_touches (hm.of rfl) (setMark_touches (hm.of rfl)
    (by (try dsimp only); split <;> (try dsimp only); exacts [h1, (foldl_touches (fun _ _ h2 => (touches_ite
    (evt_touches (hm.of rfl) (bump_touches (hm.of rfl) h2)) h2)) h1)]))) h1)) h)

theorem trimGo_touches {z : State} {msk : Nat} {k : Nat} {s : State} (hm : Sub 0x18000001800000045004 msk) (h :
    Touches msk z s) : Touches msk z (trimGo k s) :=
  (touches_ite h (touches_ite (trimSend_touches (hm.of rfl) (agedTrims_touches (hm.of rfl) h)) (trimSend_touches
    (hm.of rfl) (trimBytes_touches (hm.of rfl) h))))

end Sys2Proof.Machine
end

