-- ==== Sys2Proof/Laws/TouchesTxn.lean ====
section
/-! SUPPORT. Which fields of the state every operation of Txn may change. -/

namespace Sys2Proof.Machine

theorem applyEntry_touches {z : State} {msk : Nat} {d : Nat} {a : Nat} {m : Nat} {v : Nat} {s : State} (hm : Sub 0x4
    msk) (h : Touches msk z s) : Touches msk z (applyEntry d a m v s) :=
  (putWord_touches (hm.of rfl) h)

theorem nextTsn_touches {z : State} {msk : Nat} {s : State} (hm : Sub 0x4 msk) (h : Touches msk z s) : Touches msk z
    (nextTsn s).2 :=
  (wr_touches (hm.of rfl) h)

theorem slotArm_touches {z : State} {msk : Nat} {d : Nat} {i : Nat} {bar2 : Bool} {areg : Option Nat} {s : State} (hm
    : Sub 0x400004 msk) (h : Touches msk z s) : Touches msk z (slotArm d i bar2 areg s) :=
  (setTxn_touches (hm.of rfl) (wr_touches (hm.of rfl) (wr_touches (hm.of rfl) (wr_touches (hm.of rfl) (wr_touches
    (hm.of rfl) (nextTsn_touches (hm.of rfl) h))))))

theorem aregStage_touches {z : State} {msk : Nat} {k : Nat} {s : State} (hm : Sub 0x400000000400004 msk) (h : Touches
    msk z s) : Touches msk z (aregStage k s) := by
  have e := Eq.refl @aregStage; conv at e => rhs; delta aregStage
  rw [e]
  (try dsimp only)
  split <;> (try dsimp only)
  exacts [h, (touches_ite h (slotArm_touches (hm.of rfl) (Touches.upD_aregOut (hm.of rfl) (wr_touches (hm.of rfl) (wr_touches (hm.of rfl) (slotStage_touches (hm.of rfl) h))))))]

theorem clampEntry_touches {z : State} {msk : Nat} {d : Nat} {a : Nat} {s : State} (hm : Sub 0x4 msk) (h : Touches msk
    z s) : Touches msk z (clampEntry d a s) := by
  have e := Eq.refl @clampEntry; conv at e => rhs; delta clampEntry
  rw [e]
  (try dsimp only)
  split <;> (try dsimp only)
  exacts [h, (putWord_touches (hm.of rfl) h)]

theorem tagPage_touches {z : State} {msk : Nat} {d : Nat} {i : Nat} {tsn : Nat} {a : Nat} {s : State} (hm : Sub 0x4
    msk) (h : Touches msk z s) : Touches msk z (tagPage d i tsn a s) :=
  (touches_ite h (wr_touches (hm.of rfl) h))

theorem rwsChanged_touches {z : State} {msk : Nat} {d : Nat} {o : Nat} {s : State} (hm : Sub 0x40000000000004 msk) (h
    : Touches msk z s) : Touches msk z (rwsChanged d o s) := by
  have e := Eq.refl @rwsChanged; conv at e => rhs; delta rwsChanged
  rw [e]
  (try dsimp only)
  split <;> (try dsimp only)
  exacts [(selectionChanged_touches (hm.of rfl) h), (touches_ite h (selectionChanged_touches (hm.of rfl) h)), (stepLimits_touches (hm.of rfl) h), h]

theorem slotCommit_touches {z : State} {msk : Nat} {d : Nat} {i : Nat} {s : State} (hm : Sub 0x18000040000000403004
    msk) (h : Touches msk z s) : Touches msk z (slotCommit d i s) :=
  (touches_ite (Touches.upD_msgs (hm.of rfl) (evt_touches (hm.of rfl) (wr_touches (hm.of rfl) (setTxn_touches (hm.of
    rfl) (wr_touches (hm.of rfl) (foldl_touches (fun _ _ h1 => (linChanged_touches (hm.of rfl) h1)) (foldl_touches
    (fun _ _ h1 => (tagPage_touches (hm.of rfl) (rwsChanged_touches (hm.of rfl) h1))) (foldl_touches (fun _ _ h1 =>
    (clampEntry_touches (hm.of rfl) h1)) (foldl_touches (fun _ _ h1 => (applyEntry_touches (hm.of rfl) h1)) h)))))))))
    (evt_touches (hm.of rfl) (wr_touches (hm.of rfl) (setTxn_touches (hm.of rfl) (wr_touches (hm.of rfl)
    (foldl_touches (fun _ _ h1 => (linChanged_touches (hm.of rfl) h1)) (foldl_touches (fun _ _ h1 => (tagPage_touches
    (hm.of rfl) (rwsChanged_touches (hm.of rfl) h1))) (foldl_touches (fun _ _ h1 => (clampEntry_touches (hm.of rfl)
    h1)) (foldl_touches (fun _ _ h1 => (applyEntry_touches (hm.of rfl) h1)) h)))))))))

theorem commitOnCue_touches {z : State} {msk : Nat} {d : Nat} {n : Nat} {s : State} (hm : Sub 0x18000040000000403004
    msk) (h : Touches msk z s) : Touches msk z (commitOnCue d n s) :=
  (foldl_touches (fun _ _ h1 => (touches_ite (slotCommit_touches (hm.of rfl) h1) h1)) h)

theorem commitOnEdge_touches {z : State} {msk : Nat} {k : Nat} {s : State} (hm : Sub 0x18000040000000403004 msk) (h :
    Touches msk z s) : Touches msk z (commitOnEdge k s) :=
  (foldl_touches (fun _ _ h1 => (touches_ite (slotCommit_touches (hm.of rfl) h1) h1)) h)

theorem execAregHeldStage_touches {z : State} {msk : Nat} {k : Nat} {s : State} (hm : Sub 0x400000000400004 msk) (h :
    Touches msk z s) : TouchesO msk z (execAregHeldStage k s) :=
  (.next (aregStage_touches (hm.of rfl) h))

theorem execLoopTick_touches {z : State} {msk : Nat} {d : Nat} {s : State} (hm : Sub 0x4970380000044b004 msk) (h :
    Touches msk z s) : TouchesO msk z (execLoopTick d s) :=
  (.next (aregStage_touches (hm.of rfl) (aregStage_touches (hm.of rfl) (loopTick_touches (hm.of rfl) h))))

theorem slotJudge_touches {z : State} {msk : Nat} {d : Nat} {i : Nat} {s : State} (hm : Sub 0x1800000041004 msk) (h :
    Touches msk z s) : Touches msk z (slotJudge d i s) := by
  have e := Eq.refl @slotJudge; conv at e => rhs; delta slotJudge
  rw [e]
  (try dsimp only)
  split <;> (try dsimp only)
  exacts [(wr_touches (hm.of rfl) (wr_touches (hm.of rfl) (wr_touches (hm.of rfl) h))), (slotReject_touches (hm.of rfl) (touches_ite (privViolation_touches (hm.of rfl) h) h))]

theorem execTxnChecksDone_touches {z : State} {msk : Nat} {d : Nat} {i : Nat} {s : State} (hm : Sub 0x1800000041004
    msk) (h : Touches msk z s) : TouchesO msk z (execTxnChecksDone d i s) :=
  (touchesO_ite (.next h) (touchesO_ite (.next (slotReject_touches (hm.of rfl) h)) (.next (slotJudge_touches (hm.of
    rfl) h))))

theorem execTxnCommit_touches {z : State} {msk : Nat} {d : Nat} {i : Nat} {s : State} (hm : Sub 0x18000040000000403004
    msk) (h : Touches msk z s) : TouchesO msk z (execTxnCommit d i s) :=
  (touchesO_ite (.next h) (.next (slotCommit_touches (hm.of rfl) h)))

theorem execXtxnAbortMsg_touches {z : State} {msk : Nat} {d : Nat} {s : State} (hm : Sub 0x1800000043004 msk) (h :
    Touches msk z s) : TouchesO msk z (execXtxnAbortMsg d s) := by
  have e := Eq.refl @execXtxnAbortMsg; conv at e => rhs; delta execXtxnAbortMsg
  rw [e]
  (try dsimp only)
  split <;> (try dsimp only)
  exacts [(touchesO_ite (.next (slotReject_touches (hm.of rfl) ((takeMsg_touches (hm.of rfl) h) _ (by assumption)))) (.next ((takeMsg_touches (hm.of rfl) h) _ (by assumption)))), (.next h)]

theorem xtxnDecide_touches {z : State} {msk : Nat} {s : State} (hm : Sub 0x2004 msk) (h : Touches msk z s) : Touches
    msk z (xtxnDecide s) :=
  (touches_ite (Touches.upD_msgs (hm.of rfl) (wr_touches (hm.of rfl) h)) h)

theorem xtxnEnd_touches {z : State} {msk : Nat} {st : Nat} {reason : Nat} {die : Nat} {s : State} (hm : Sub 0x1004
    msk) (h : Touches msk z s) : Touches msk z (xtxnEnd st reason die s) :=
  (evt_touches (hm.of rfl) (wr_touches (hm.of rfl) (wr_touches (hm.of rfl) (wr_touches (hm.of rfl) h))))

theorem xtxnAbandon_touches {z : State} {msk : Nat} {reason : Nat} {die : Nat} {s : State} (hm : Sub 0x3004 msk) (h :
    Touches msk z s) : Touches msk z (xtxnAbandon reason die s) :=
  (Touches.upD_msgs (hm.of rfl) (xtxnEnd_touches (hm.of rfl) h))

theorem execXtxnAnswer_touches {z : State} {msk : Nat} {d : Nat} {s : State} (hm : Sub 0x803004 msk) (h : Touches msk
    z s) : TouchesO msk z (execXtxnAnswer d s) := by
  have e := Eq.refl @execXtxnAnswer; conv at e => rhs; delta execXtxnAnswer
  rw [e]
  (try dsimp only)
  split <;> (try dsimp only)
  exacts [(touchesO_ite (.next (xtxnDecide_touches (hm.of rfl) (Touches.upD_xtxn (hm.of rfl) ((takeMsg_touches (hm.of rfl) h) _ (by assumption))))) (.next ((takeMsg_touches (hm.of rfl) h) _ (by assumption)))), (touchesO_ite (.next (xtxnAbandon_touches (hm.of rfl) (Touches.upD_xtxn (hm.of rfl) ((takeMsg_touches (hm.of rfl) h) _ (by assumption))))) (touchesO_ite (.next (wr_touches (hm.of rfl) (wr_touches (hm.of rfl) (Touches.upD_xtxn (hm.of rfl) ((takeMsg_touches (hm.of rfl) h) _ (by assumption)))))) (.next ((takeMsg_touches (hm.of rfl) h) _ (by assumption))))), (.next h)]

theorem execXtxnCommitMsg_touches {z : State} {msk : Nat} {d : Nat} {s : State} (hm : Sub 0x402000 msk) (h : Touches
    msk z s) : TouchesO msk z (execXtxnCommitMsg d s) := by
  have e := Eq.refl @execXtxnCommitMsg; conv at e => rhs; delta execXtxnCommitMsg
  rw [e]
  (try dsimp only)
  split <;> (try dsimp only)
  exacts [(touchesO_ite (.next (setTxn_touches (hm.of rfl) ((takeMsg_touches (hm.of rfl) h) _ (by assumption)))) (.next ((takeMsg_touches (hm.of rfl) h) _ (by assumption)))), (.next h)]

theorem xtxnDone_touches {z : State} {msk : Nat} {s : State} (hm : Sub 0x1004 msk) (h : Touches msk z s) : Touches msk
    z (xtxnDone s) :=
  (touches_ite (xtxnEnd_touches (hm.of rfl) h) h)

theorem execXtxnCommitReport_touches {z : State} {msk : Nat} {d : Nat} {s : State} (hm : Sub 0x803004 msk) (h :
    Touches msk z s) : TouchesO msk z (execXtxnCommitReport d s) := by
  have e := Eq.refl @execXtxnCommitReport; conv at e => rhs; delta execXtxnCommitReport
  rw [e]
  (try dsimp only)
  split <;> (try dsimp only)
  exacts [(.next (xtxnDone_touches (hm.of rfl) (Touches.upD_xtxn (hm.of rfl) ((takeMsg_touches (hm.of rfl) h) _ (by assumption))))), (.next h)]

theorem execXtxnPrepare_touches {z : State} {msk : Nat} {d : Nat} {s : State} (hm : Sub 0x1800000443004 msk) (h :
    Touches msk z s) : TouchesO msk z (execXtxnPrepare d s) := by
  have e := Eq.refl @execXtxnPrepare; conv at e => rhs; delta execXtxnPrepare
  rw [e]
  (try dsimp only)
  split <;> (try dsimp only)
  exacts [(touchesO_ite (.next ((takeMsg_touches (hm.of rfl) h) _ (by assumption))) (touchesO_ite (.next (Touches.upD_msgs (hm.of rfl) ((takeMsg_touches (hm.of rfl) h) _ (by assumption)))) (.next (Touches.upD_msgs (hm.of rfl) (slotJudge_touches (hm.of rfl) (setTxn_touches (hm.of rfl) (wr_touches (hm.of rfl) (wr_touches (hm.of rfl) (wr_touches (hm.of rfl) (wr_touches (hm.of rfl) ((takeMsg_touches (hm.of rfl) h) _ (by assumption)))))))))))), (.next h)]

theorem execXtxnTimeout_touches {z : State} {msk : Nat} {s : State} (hm : Sub 0x3004 msk) (h : Touches msk z s) :
    TouchesO msk z (execXtxnTimeout s) :=
  (touchesO_ite (by (try dsimp only); split <;> (try dsimp only); exacts [(.next (xtxnAbandon_touches (hm.of rfl) h)),
    (.next h)]) (.next h))

theorem slotAbort_touches {z : State} {msk : Nat} {d : Nat} {i : Nat} {s : State} (hm : Sub 0x1800000043004 msk) (h :
    Touches msk z s) : Touches msk z (slotAbort d i s) :=
  (touches_ite h (touches_ite (Touches.upD_msgs (hm.of rfl) (slotReject_touches (hm.of rfl) h)) (slotReject_touches
    (hm.of rfl) h)))

theorem slotCtl_touches {z : State} {msk : Nat} {d : Nat} {i : Nat} {bar2 : Bool} {w : Nat} {s : State} (hm : Sub
    0x1800000443004 msk) (h : Touches msk z s) : Touches msk z (slotCtl d i bar2 w s) :=
  (touches_ite (touches_ite (accErr_touches (hm.of rfl) (touches_ite (slotAbort_touches (hm.of rfl) h) h))
    (touches_ite (slotAbort_touches (hm.of rfl) h) h)) (touches_ite (slotArm_touches (hm.of rfl) (touches_ite
    (slotClear_touches (hm.of rfl) (wr_touches (hm.of rfl) (wr_touches (hm.of rfl) h))) (wr_touches (hm.of rfl)
    (wr_touches (hm.of rfl) h)))) (touches_ite (slotClear_touches (hm.of rfl) (wr_touches (hm.of rfl) (wr_touches
    (hm.of rfl) h))) (wr_touches (hm.of rfl) (wr_touches (hm.of rfl) h)))))

theorem xtxnAbort_touches {z : State} {msk : Nat} {s : State} (hm : Sub 0x3004 msk) (h : Touches msk z s) : Touches
    msk z (xtxnAbort s) :=
  (touches_ite (xtxnAbandon_touches (hm.of rfl) h) h)

theorem xtxnGo_touches {z : State} {msk : Nat} {s : State} (hm : Sub 0x803004 msk) (h : Touches msk z s) : Touches msk
    z (xtxnGo s) :=
  (touches_ite h (touches_ite (xtxnEnd_touches (hm.of rfl) (wr_touches (hm.of rfl) (wr_touches (hm.of rfl) (wr_touches
    (hm.of rfl) (wr_touches (hm.of rfl) (Touches.upD_xtxn (hm.of rfl) (nextTsn_touches (hm.of rfl) h)))))))
    (xtxnDone_touches (hm.of rfl) (xtxnDecide_touches (hm.of rfl) (Touches.upD_msgs (hm.of rfl) (wr_touches (hm.of
    rfl) (wr_touches (hm.of rfl) (wr_touches (hm.of rfl) (wr_touches (hm.of rfl) (Touches.upD_xtxn (hm.of rfl)
    (nextTsn_touches (hm.of rfl) h)))))))))))

end Sys2Proof.Machine
end

