-- ==== Sys2Proof/Laws/TouchesLaunch.lean ====
section
/-! SUPPORT. Which fields of the state every operation of Launch may change. -/

namespace Sys2Proof.Machine

theorem actionIssued_touches {z : State} {msk : Nat} {d : Nat} {n : Nat} {move : Option Nat} {s : State} (hm : Sub
    0x80000000000 msk) (h : Touches msk z s) : Touches msk z (actionIssued d n move s) :=
  (setCue_touches (hm.of rfl) h)

theorem actionRefused_touches {z : State} {msk : Nat} {d : Nat} {n : Nat} {s : State} (hm : Sub 0x1a80000041004 msk)
    (h : Touches msk z s) : Touches msk z (actionRefused d n s) :=
  (cueCompleted_touches (hm.of rfl) (cueRefuse_touches (hm.of rfl) h))

theorem counterStep_touches {z : State} {msk : Nat} {d : Nat} {c : Nat} {up : Bool} {s : State} (hm : Sub
    0xc07b0182007004 msk) (h : Touches msk z s) : Touches msk z (counterStep d c up s) :=
  (foldl_touches (fun _ _ h1 => (touches_ite (lineStep_touches (hm.of rfl) h1) h1)) (reachResume_touches (hm.of rfl)
    (reachStart_touches (hm.of rfl) (cueReach_touches (hm.of rfl) (setCounter_touches (hm.of rfl) h)))))

theorem counterEdge_touches {z : State} {msk : Nat} {d : Nat} {c : Nat} {e : Nat} {old : Encoder} {new : Encoder} {s :
    State} (hm : Sub 0xc1fb0182047004 msk) (h : Touches msk z s) : Touches msk z (counterEdge d c e old new s) := by
  have e := Eq.refl @counterEdge; conv at e => rhs; delta counterEdge
  rw [e]
  (try dsimp only)
  split <;> (try dsimp only)
  exacts [(counterStep_touches (hm.of rfl) h), (counterStep_touches (hm.of rfl) h), (evt_touches (hm.of rfl) (recordFault_touches (hm.of rfl) (bump_touches (hm.of rfl) h))), h]

theorem noteLaunch_touches {z : State} {msk : Nat} {keep : Bool} {i : Nat} {d : Nat} {s : State} (hm : Sub 0x2000000
    msk) (h : Touches msk z s) : Touches msk z (noteLaunch keep i d s) :=
  (touches_ite h (setSlot_touches (hm.of rfl) h))

theorem launchAccept_touches {z : State} {msk : Nat} {i : Nat} {d : Nat} {s : State} (hm : Sub 0x100002000004 msk) (h
    : Touches msk z s) : Touches msk z (launchAccept i d s) :=
  (foldl_touches (fun _ _ h1 => (watchStart_touches (hm.of rfl) (setStartList_touches (hm.of rfl) h1)))
    (setSlot_touches (hm.of rfl) (noteLaunch_touches (hm.of rfl) h)))

theorem launchRefuse_touches {z : State} {msk : Nat} {i : Nat} {d : Nat} {s : State} (hm : Sub 0xc0790182003004 msk)
    (h : Touches msk z s) : Touches msk z (launchRefuse i d s) :=
  (touches_ite (by (try dsimp only); split <;> (try dsimp only); exacts [(spoilFrame_touches (hm.of rfl)
    (by (try dsimp only); split <;> (try dsimp only); exacts [(touches_ite (evt_touches (hm.of rfl) h)
    (sendCause_touches (hm.of rfl) (evt_touches (hm.of rfl) h))), (evt_touches (hm.of rfl) h)])),
    (by (try dsimp only); split <;> (try dsimp only); exacts [(touches_ite (evt_touches (hm.of rfl) h)
    (sendCause_touches (hm.of rfl) (evt_touches (hm.of rfl) h))), (evt_touches (hm.of rfl) h)])]) (touches_ite
    (by (try dsimp only); split <;> (try dsimp only); exacts [(purgeRequest_touches (hm.of rfl) (noteLaunch_touches
    (hm.of rfl) (by (try dsimp only); split <;> (try dsimp only); exacts [(touches_ite (evt_touches (hm.of rfl) h)
    (sendCause_touches (hm.of rfl) (evt_touches (hm.of rfl) h))), (evt_touches (hm.of rfl) h)]))),
    (by (try dsimp only); split <;> (try dsimp only); exacts [(touches_ite (evt_touches (hm.of rfl) h)
    (sendCause_touches (hm.of rfl) (evt_touches (hm.of rfl) h))), (evt_touches (hm.of rfl) h)])])
    (by (try dsimp only); split <;> (try dsimp only); exacts [(touches_ite (evt_touches (hm.of rfl) h)
    (sendCause_touches (hm.of rfl) (evt_touches (hm.of rfl) h))), (evt_touches (hm.of rfl) h)])))

theorem launchRearm_touches {z : State} {msk : Nat} {i : Nat} {d : Nat} {n : Nat} {old : CueRun} {s : State} (hm : Sub
    0x80000000004 msk) (h : Touches msk z s) : Touches msk z (launchRearm i d n old s) := by
  have e := Eq.refl @launchRearm; conv at e => rhs; delta launchRearm
  rw [e]
  (try dsimp only)
  split <;> (try dsimp only)
  exacts [(touches_ite h (setArmed_touches (hm.of rfl) (cueStore_touches (hm.of rfl) (setCue_touches (hm.of rfl) h)))), h]

theorem launch_touches {z : State} {msk : Nat} {d : Nat} {n : Nat} {late : Bool} {old : CueRun} {s : State} (hm : Sub
    0xc0790182003004 msk) (h : Touches msk z s) : Touches msk z (launch d n late old s) := by
  have e := Eq.refl @launch; conv at e => rhs; delta launch
  rw [e]
  (try dsimp only)
  split <;> (try dsimp only)
  exacts [(evt_touches (hm.of rfl) h), (touches_ite (touches_ite (launchAccept_touches (hm.of rfl) h) (launchRefuse_touches (hm.of rfl) (foldl_touches (fun _ _ h1 => (evt_touches (hm.of rfl) (bump_touches (hm.of rfl) h1))) h))) (launchRearm_touches (hm.of rfl) (launchRefuse_touches (hm.of rfl) h)))]

theorem cueAct_touches {z : State} {msk : Nat} {d : Nat} {n : Nat} {e : List Sys2Proof.Byte} {late : Bool} {old :
    CueRun} {s : State} (hm : Sub 0x80c9f90182043004 msk) (h : Touches msk z s) : Touches msk z (cueAct d n e late old
    s) := by
  have e := Eq.refl @cueAct; conv at e => rhs; delta cueAct
  rw [e]
  (try dsimp only)
  split <;> (try dsimp only)
  exacts [(touches_ite (actionIssued_touches (hm.of rfl) (cuePin_touches (hm.of rfl) h)) (actionRefused_touches (hm.of rfl) h)), (touches_ite (touches_ite (actionIssued_touches (hm.of rfl) (stepMove_touches (hm.of rfl) h)) (actionRefused_touches (hm.of rfl) (stepMove_touches (hm.of rfl) h))) (actionRefused_touches (hm.of rfl) h)), (touches_ite (actionIssued_touches (hm.of rfl) (wr_touches (hm.of rfl) h)) (actionRefused_touches (hm.of rfl) h)), (actionIssued_touches (hm.of rfl) (launch_touches (hm.of rfl) h)), (cueCompleted_touches (hm.of rfl) (evt_touches (hm.of rfl) h)), (cueCompleted_touches (hm.of rfl) h)]

theorem execCueFire_touches {z : State} {msk : Nat} {d : Nat} {n : Nat} {s : State} (hm : Sub 0x380080c9f90182443004
    msk) (h : Touches msk z s) : TouchesO msk z (execCueFire d n s) :=
  (touchesO_ite (.next h) (.next (cueAct_touches (hm.of rfl) (cueAdvance_touches (hm.of rfl) (markWindows_touches
    (hm.of rfl) (commitOnCue_touches (hm.of rfl) (setBitOf_touches (hm.of rfl) (touches_ite (cueLate_touches (hm.of
    rfl) h) h))))))))

theorem execEncoderStep_touches {z : State} {msk : Nat} {d : Nat} {e : Nat} {la : Bool} {lb : Bool} {s : State} (hm :
    Sub 0x100000000c1ff0182047004 msk) (h : Touches msk z s) : TouchesO msk z (execEncoderStep d e la lb s) :=
  (touchesO_ite (.next h) (.next (noteEdges_touches (hm.of rfl) (foldl_touches (fun _ _ h1 => (touches_ite
    (counterEdge_touches (hm.of rfl) h1) h1)) (setEncoder_touches (hm.of rfl) h)))))

theorem execPathBackfeedAuto_touches {z : State} {msk : Nat} {p : Nat} {s : State} (hm : Sub 0x4004 msk) (h : Touches
    msk z s) : TouchesO msk z (execPathBackfeedAuto p s) :=
  (touchesO_ite (.next h) (.next (pathBackfeed_touches (hm.of rfl) h)))

end Sys2Proof.Machine
end

