-- ==== Sys2Proof/Laws/TouchesRasterRx.lean ====
section
/-! SUPPORT. Which fields of the state every operation of RasterRx may change. -/

namespace Sys2Proof.Machine

theorem dropPartial_touches {z : State} {msk : Nat} {d : Nat} {k : Nat} {s : State} (hm : Sub 0x4000000000000000000
    msk) (h : Touches msk z s) : Touches msk z (dropPartial d k s) :=
  (setRaster_touches (hm.of rfl) h)

theorem rasterDrop_touches {z : State} {msk : Nat} {d : Nat} {reason : Nat} {p : RasterPkt} {s : State} (hm : Sub
    0x14000000000000001004 msk) (h : Touches msk z s) : Touches msk z (rasterDrop d reason p s) := by
  have e := Eq.refl @rasterDrop; conv at e => rhs; delta rasterDrop
  rw [e]
  (try dsimp only)
  split <;> (try dsimp only)
  exacts [(regrant_touches (hm.of rfl) (setRaster_touches (hm.of rfl) (evt_touches (hm.of rfl) (bump_touches (hm.of rfl) (touches_ite (touches_ite (dropPartial_touches (hm.of rfl) h) h) (putWord_touches (hm.of rfl) (putWord_touches (hm.of rfl) (putWord_touches (hm.of rfl) (touches_ite (dropPartial_touches (hm.of rfl) h) h))))))))), (evt_touches (hm.of rfl) (bump_touches (hm.of rfl) (touches_ite (touches_ite (dropPartial_touches (hm.of rfl) h) h) (putWord_touches (hm.of rfl) (putWord_touches (hm.of rfl) (putWord_touches (hm.of rfl) (touches_ite (dropPartial_touches (hm.of rfl) h) h)))))))]

theorem rasterLand_touches {z : State} {msk : Nat} {d : Nat} {addr : Nat} {bytes : List Sys2Proof.Byte} {p :
    RasterPkt} {complete : Option Nat} {s : State} (hm : Sub 0x4000000000000000000 msk) (h : Touches msk z s) : Touches
    msk z (rasterLand d addr bytes p complete s) :=
  (setRaster_touches (hm.of rfl) h)

theorem rasterSegment_touches {z : State} {msk : Nat} {d : Nat} {p : RasterPkt} {x : Partial} {s : State} (hm : Sub
    0x14000000000000001004 msk) (h : Touches msk z s) : Touches msk z (rasterSegment d p x s) :=
  (touches_ite (rasterDrop_touches (hm.of rfl) h) (rasterLand_touches (hm.of rfl) (touches_ite (dropPartial_touches
    (hm.of rfl) h) (setRaster_touches (hm.of rfl) (dropPartial_touches (hm.of rfl) h)))))

theorem landedRead_touches {z : State} {msk : Nat} {d : Nat} {a : Nat} {n : Nat} {s : State} (hm : Sub 0x1800000041004
    msk) (h : Touches msk z s) : Touches msk z (landedRead d a n s).2 :=
  (touches_ite1 h (by (try dsimp only); split <;> (try dsimp only); exacts [(Touches.ofPair (by assumption)
    (agentRead_touches (hm.of rfl) h)), (agentRead_touches (hm.of rfl) h)]))

theorem noteBegun_touches {z : State} {msk : Nat} {d : Nat} {p : RasterPkt} {s : State} (hm : Sub
    0x4000000000000000000 msk) (h : Touches msk z s) : Touches msk z (noteBegun d p s) :=
  (setRaster_touches (hm.of rfl) h)

theorem applyAshlar_touches {z : State} {msk : Nat} {d : Nat} {p : RasterPkt} {s : State} (hm : Sub
    0x14000001800000041004 msk) (h : Touches msk z s) : Touches msk z (applyAshlar d p s) := by
  have e := Eq.refl @applyAshlar; conv at e => rhs; delta applyAshlar
  rw [e]
  (try dsimp only)
  split <;> (try dsimp only)
  exacts [(rasterDrop_touches (hm.of rfl) h), (by (try dsimp only); split <;> (try dsimp only); exacts [(touches_ite (rasterSegment_touches (hm.of rfl) h) (rasterDrop_touches (hm.of rfl) h)), (touches_ite (rasterDrop_touches (hm.of rfl) h) (by (try dsimp only); split <;> (try dsimp only); exacts [(touches_ite (rasterDrop_touches (hm.of rfl) (Touches.ofPair (by assumption) (landedRead_touches (hm.of rfl) h))) (rasterSegment_touches (hm.of rfl) (noteBegun_touches (hm.of rfl) (Touches.ofPair (by assumption) (landedRead_touches (hm.of rfl) h))))), (rasterDrop_touches (hm.of rfl) (Touches.ofPair (by assumption) (landedRead_touches (hm.of rfl) h)))]))])]

theorem applyDescriptor_touches {z : State} {msk : Nat} {d : Nat} {p : RasterPkt} {s : State} (hm : Sub
    0x4000000000007007004 msk) (h : Touches msk z s) : Touches msk z (applyDescriptor d p s) :=
  (rasterLand_touches (hm.of rfl) (evt_touches (hm.of rfl)
    (by (try dsimp only); split <;> (try dsimp only); exacts [(submitSlot_touches (hm.of rfl) (putBytes_touches (hm.of
    rfl) h)), (submitReject_touches (hm.of rfl) (drawFree_touches (hm.of rfl) h))])))

theorem applyIndex_touches {z : State} {msk : Nat} {d : Nat} {p : RasterPkt} {s : State} (hm : Sub
    0x14000000000000001004 msk) (h : Touches msk z s) : Touches msk z (applyIndex d p s) := by
  have e := Eq.refl @applyIndex; conv at e => rhs; delta applyIndex
  rw [e]
  (try dsimp only)
  split <;> (try dsimp only)
  exacts [(rasterDrop_touches (hm.of rfl) h), (touches_ite (rasterDrop_touches (hm.of rfl) h) (rasterLand_touches (hm.of rfl) h))]

theorem applyRaster_touches {z : State} {msk : Nat} {d : Nat} {p : RasterPkt} {s : State} (hm : Sub
    0x14000001800007047004 msk) (h : Touches msk z s) : Touches msk z (applyRaster d p s) :=
  (touches_ite (rasterDrop_touches (hm.of rfl) h) (touches_ite (touches_ite (applyDescriptor_touches (hm.of rfl) h)
    (rasterDrop_touches (hm.of rfl) h)) (touches_ite (rasterDrop_touches (hm.of rfl) h) (touches_ite
    (applyAshlar_touches (hm.of rfl) h) (applyIndex_touches (hm.of rfl) h)))))

theorem creditCheck_touches {z : State} {msk : Nat} {d : Nat} {old : State} {s : State} (hm : Sub
    0x14000000000000001004 msk) (ho : Touches msk z old) (h : Touches msk z s) : Touches msk z (creditCheck d old s) :=
  (touches_ite (evt_touches (hm.of rfl) ho) (touches_ite (regrant_touches (hm.of rfl) h) h))

theorem dropDamaged_touches {z : State} {msk : Nat} {d : Nat} {s : State} (hm : Sub 0x4000000000000000000 msk) (h :
    Touches msk z s) : Touches msk z (dropDamaged d s) := by
  have e := Eq.refl @dropDamaged; conv at e => rhs; delta dropDamaged
  rw [e]
  (try dsimp only)
  split <;> (try dsimp only)
  exacts [h, (setRaster_touches (hm.of rfl) h)]

theorem rasterAccept_touches {z : State} {msk : Nat} {d : Nat} {p : RasterPkt} {s : State} (hm : Sub
    0x14000001800007047004 msk) (h : Touches msk z s) : Touches msk z (rasterAccept d p s) :=
  (applyRaster_touches (hm.of rfl) (sendAck_touches (hm.of rfl) (bump_touches (hm.of rfl) (wr_touches (hm.of rfl)
    (setRaster_touches (hm.of rfl) h)))))

theorem rasterNak_touches {z : State} {msk : Nat} {d : Nat} {s : State} (hm : Sub 0x1400000180000004b004 msk) (h :
    Touches msk z s) : Touches msk z (rasterNak d s) :=
  (touches_ite (rasterFence_touches (hm.of rfl) (recordFault_touches (hm.of rfl) (sendNak_touches (hm.of rfl) h)))
    (sendNak_touches (hm.of rfl) h))

theorem rasterNakCause_touches {z : State} {msk : Nat} {d : Nat} {s : State} (hm : Sub 0x1400000180000004b004 msk) (h
    : Touches msk z s) : Touches msk z (rasterNakCause d s) := by
  have e := Eq.refl @rasterNakCause; conv at e => rhs; delta rasterNakCause
  rw [e]
  (try dsimp only)
  split <;> (try dsimp only)
  exacts [(touches_ite h (rasterNak_touches (hm.of rfl) h)), (rasterNak_touches (hm.of rfl) h)]

theorem rasterPacket_touches {z : State} {msk : Nat} {d : Nat} {b : List Sys2Proof.Byte} {s : State} (hm : Sub
    0x1400000180000704f004 msk) (h : Touches msk z s) : Touches msk z (rasterPacket d b s) := by
  have e := Eq.refl @rasterPacket; conv at e => rhs; delta rasterPacket
  rw [e]
  (try dsimp only)
  split <;> (try dsimp only)
  exacts [(rasterAccept_touches (hm.of rfl) h), (rasterNakCause_touches (hm.of rfl) (bump_touches (hm.of rfl) h)), (rasterNakCause_touches (hm.of rfl) (recordFault_touches (hm.of rfl) (bump_touches (hm.of rfl) h))), (rasterNakCause_touches (hm.of rfl) (bump_touches (hm.of rfl) h)), (sendAck_touches (hm.of rfl) h), (rasterNakCause_touches (hm.of rfl) (bump_touches (hm.of rfl) h))]

theorem rasterArrival_touches {z : State} {msk : Nat} {d : Nat} {b : List Sys2Proof.Byte} {s : State} (hm : Sub
    0x1400000180000704f004 msk) (h : Touches msk z s) : Touches msk z (rasterArrival d b s) :=
  (touches_ite h (rasterPacket_touches (hm.of rfl) h))

theorem execRlAshlar_touches {z : State} {msk : Nat} {d : Nat} {pkt : List Sys2Proof.Byte} {s : State} (hm : Sub
    0x1400000180000704f004 msk) (h : Touches msk z s) : TouchesO msk z (execRlAshlar d pkt s) :=
  (touchesO_ite (.next (rasterArrival_touches (hm.of rfl) h)) (.next h))

theorem rasterUnframed_touches {z : State} {msk : Nat} {d : Nat} {s : State} (hm : Sub 0x1400000180000004b004 msk) (h
    : Touches msk z s) : Touches msk z (rasterUnframed d s) :=
  (touches_ite h (rasterNakCause_touches (hm.of rfl) (bump_touches (hm.of rfl) h)))

theorem execRlBadPacket_touches {z : State} {msk : Nat} {d : Nat} {blocks : List Sys2Proof.Byte} {s : State} (hm : Sub
    0x1400000180000704f004 msk) (h : Touches msk z s) : TouchesO msk z (execRlBadPacket d blocks s) :=
  (touchesO_ite (.next h) (touchesO_ite (.next (rasterUnframed_touches (hm.of rfl) h)) (touchesO_ite (.next h) (.next
    (rasterArrival_touches (hm.of rfl) h)))))

theorem execRlCreditTimer_touches {z : State} {msk : Nat} {d : Nat} {s : State} (hm : Sub 0x14000000000000001000 msk)
    (h : Touches msk z s) : TouchesO msk z (execRlCreditTimer d s) :=
  (touchesO_ite (.next (sendCredit_touches (hm.of rfl) h)) (.next h))

theorem execRlDescriptor_touches {z : State} {msk : Nat} {d : Nat} {pkt : List Sys2Proof.Byte} {s : State} (hm : Sub
    0x1400000180000704f004 msk) (h : Touches msk z s) : TouchesO msk z (execRlDescriptor d pkt s) :=
  (touchesO_ite (.next (rasterArrival_touches (hm.of rfl) h)) (.next h))

theorem execRlIndex_touches {z : State} {msk : Nat} {d : Nat} {pkt : List Sys2Proof.Byte} {s : State} (hm : Sub
    0x1400000180000704f004 msk) (h : Touches msk z s) : TouchesO msk z (execRlIndex d pkt s) :=
  (touchesO_ite (.next (rasterArrival_touches (hm.of rfl) h)) (.next h))

theorem execRlInitAckTimer_touches {z : State} {msk : Nat} {d : Nat} {s : State} (hm : Sub 0x14000000000000001000 msk)
    (h : Touches msk z s) : TouchesO msk z (execRlInitAckTimer d s) :=
  (touchesO_ite (.next (sendAck_touches (hm.of rfl) (setRaster_touches (hm.of rfl) h))) (.next h))

theorem execRlNakTimer_touches {z : State} {msk : Nat} {d : Nat} {s : State} (hm : Sub 0x1400000180000004b004 msk) (h
    : Touches msk z s) : TouchesO msk z (execRlNakTimer d s) := by
  have e := Eq.refl @execRlNakTimer; conv at e => rhs; delta execRlNakTimer
  rw [e]
  (try dsimp only)
  split <;> (try dsimp only)
  exacts [(touchesO_ite (.next (rasterNak_touches (hm.of rfl) h)) (.next h)), (.next h)]

theorem openRaster_touches {z : State} {msk : Nat} {d : Nat} {s : State} (hm : Sub 0x14000000000000001004 msk) (h :
    Touches msk z s) : Touches msk z (openRaster d s) := by
  have e := Eq.refl @openRaster; conv at e => rhs; delta openRaster
  rw [e]
  (try dsimp only)
  split <;> (try dsimp only)
  exacts [h, (touches_ite h (sendCredit_touches (hm.of rfl) (sendAck_touches (hm.of rfl) (evt_touches (hm.of rfl) (bump_touches (hm.of rfl) (wr_touches (hm.of rfl) (wr_touches (hm.of rfl) (setRaster_touches (hm.of rfl) h))))))))]

theorem execRlPacketLanded_touches {z : State} {msk : Nat} {d : Nat} {s : State} (hm : Sub 0x1400000001020c00300c msk)
    (h : Touches msk z s) : TouchesO msk z (execRlPacketLanded d s) := by
  have e := Eq.refl @execRlPacketLanded; conv at e => rhs; delta execRlPacketLanded
  rw [e]
  (try dsimp only)
  split <;> (try dsimp only)
  exacts [(.next h), (.next (openRaster_touches (hm.of rfl) (touches_ite (regrant_touches (hm.of rfl) (setRaster_touches (hm.of rfl) (by (try dsimp only); split <;> (try dsimp only); exacts [(ashlarDelivered_touches (hm.of rfl) (touches_ite (setRaster_touches (hm.of rfl) h) (agentPut_touches (hm.of rfl) (setRaster_touches (hm.of rfl) h)))), (touches_ite (setRaster_touches (hm.of rfl) h) (agentPut_touches (hm.of rfl) (setRaster_touches (hm.of rfl) h)))]))) (setRaster_touches (hm.of rfl) (by (try dsimp only); split <;> (try dsimp only); exacts [(ashlarDelivered_touches (hm.of rfl) (touches_ite (setRaster_touches (hm.of rfl) h) (agentPut_touches (hm.of rfl) (setRaster_touches (hm.of rfl) h)))), (touches_ite (setRaster_touches (hm.of rfl) h) (agentPut_touches (hm.of rfl) (setRaster_touches (hm.of rfl) h)))])))))]

theorem execRlResync_touches {z : State} {msk : Nat} {d : Nat} {pkt : List Sys2Proof.Byte} {s : State} (hm : Sub
    0x14000000000000001004 msk) (h : Touches msk z s) : TouchesO msk z (execRlResync d pkt s) :=
  (touchesO_ite (.next (openRaster_touches (hm.of rfl) (setRaster_touches (hm.of rfl) h))) (.next h))

theorem rasterEnable_touches {z : State} {msk : Nat} {d : Nat} {s : State} (hm : Sub 0x14000000000000001004 msk) (h :
    Touches msk z s) : Touches msk z (rasterEnable d s) :=
  (touches_ite (touches_ite (rasterForm_touches (hm.of rfl) (closeRaster_touches (hm.of rfl) h)) h)
    (rasterForm_touches (hm.of rfl) (closeRaster_touches (hm.of rfl) h)))

theorem rasterFault_touches {z : State} {msk : Nat} {d : Nat} {src : Nat} {forced : Bool} {s : State} (hm : Sub
    0x1400000180000004b004 msk) (h : Touches msk z s) : Touches msk z (rasterFault d src forced s) :=
  (touches_ite (rasterFence_touches (hm.of rfl) (touches_ite (dropDamaged_touches (hm.of rfl) (recordFault_touches
    (hm.of rfl) h)) (recordFault_touches (hm.of rfl) h))) (touches_ite (dropDamaged_touches (hm.of rfl)
    (recordFault_touches (hm.of rfl) h)) (recordFault_touches (hm.of rfl) h)))

theorem rasterUnfence_touches {z : State} {msk : Nat} {d : Nat} {s : State} (hm : Sub 0x14000000000000009004 msk) (h :
    Touches msk z s) : Touches msk z (rasterUnfence d s) :=
  (touches_ite (rasterForm_touches (hm.of rfl) (closeRaster_touches (hm.of rfl) (unfence_touches (hm.of rfl) h)))
    (unfence_touches (hm.of rfl) h))

theorem routeWrite_touches {z : State} {msk : Nat} {d : Nat} {w : Nat} {s : State} (hm : Sub 0x4000000000000001004
    msk) (h : Touches msk z s) : Touches msk z (routeWrite d w s) :=
  (touches_ite (evt_touches (hm.of rfl) h) (touches_ite (closeRaster_touches (hm.of rfl) (wr_touches (hm.of rfl)
    (wr_touches (hm.of rfl) h))) (wr_touches (hm.of rfl) (wr_touches (hm.of rfl) h))))

end Sys2Proof.Machine
end

