-- ==== Sys2Proof/Laws/TouchesFence.lean ====
section
/-! SUPPORT. Which fields of the state every operation of Fence may change. -/

namespace Sys2Proof.Machine

theorem busFence_touches {z : State} {msk : Nat} {d : Nat} {b : Nat} {s : State} (hm : Sub 0x380000004b004 msk) (h :
    Touches msk z s) : Touches msk z (busFence d b s) :=
  (busBrake_touches (hm.of rfl) (busChannelsOff_touches (hm.of rfl) (addFence_touches (hm.of rfl) h)))

theorem busUnfence_touches {z : State} {msk : Nat} {d : Nat} {b : Nat} {s : State} (hm : Sub 0x9004 msk) (h : Touches
    msk z s) : Touches msk z (busUnfence d b s) :=
  (touches_ite h (touches_ite (unfRefuse_touches (hm.of rfl) h) (busBrake_touches (hm.of rfl) (wr_touches (hm.of rfl)
    (dropFence_touches (hm.of rfl) h)))))

theorem stationSafe_touches {z : State} {msk : Nat} {k : Nat} {s : State} (hm : Sub 0x180000c0790182013004 msk) (h :
    Touches msk z s) : Touches msk z (stationSafe k s) :=
  (headForm_touches (hm.of rfl) (closeSession_touches (hm.of rfl) (lenUpdate_touches (hm.of rfl) (timingOff_touches
    (hm.of rfl) (setSta_touches (hm.of rfl) (Touches.upD_unfPending (hm.of rfl) h))))))

theorem pioSafe_touches {z : State} {msk : Nat} {d : Nat} {s : State} (hm : Sub 0x1000000000000004 msk) (h : Touches
    msk z s) : Touches msk z (pioSafe d s) :=
  (foldl_touches (fun _ _ h1 => (wr_touches (hm.of rfl) h1)) (foldl_touches (fun _ _ h1 => (setHeater_touches (hm.of
    rfl) (wr_touches (hm.of rfl) h1))) h))

theorem dieSafe_touches {z : State} {msk : Nat} {d : Nat} {s : State} (hm : Sub 0x1a0195ca790182013004 msk) (h :
    Touches msk z s) : Touches msk z (dieSafe d s) :=
  (foldl_touches (fun _ _ h1 => (touches_ite h1 (laneOff_touches (hm.of rfl) h1))) (foldl_touches (fun _ _ h1 =>
    (busBrake_touches (hm.of rfl) h1)) (pioSafe_touches (hm.of rfl) (foldl_touches (fun _ _ h1 => (stepFence_touches
    (hm.of rfl) h1)) (foldl_touches (fun _ _ h1 => (focOff_touches (hm.of rfl) h1)) (foldl_touches (fun _ _ h1 =>
    (loopDisable_touches (hm.of rfl) h1)) (foldl_touches (fun _ _ h1 => (cueDisarm_touches (hm.of rfl) h1))
    (stationSafe_touches (hm.of rfl) (stationSafe_touches (hm.of rfl) h)))))))))

theorem safeStopNow_touches {z : State} {msk : Nat} {s : State} (hm : Sub 0x1a0195cbf90182073004 msk) (h : Touches msk
    z s) : Touches msk z (safeStopNow s) :=
  (touches_ite h (Touches.upD_msgs (hm.of rfl) (foldl_touches (fun _ _ h1 => (dieSafe_touches (hm.of rfl)
    (rejectTargets_touches (hm.of rfl) h1))) (evt_touches (hm.of rfl) (Touches.upD_safeStop (hm.of rfl)
    (spoilAll_touches (hm.of rfl) h))))))

theorem degrade_touches {z : State} {msk : Nat} {d : Nat} {s : State} (hm : Sub 0x1a0195cbf90182073004 msk) (h :
    Touches msk z s) : Touches msk z (degrade d s) :=
  (touches_ite h (safeStopNow_touches (hm.of rfl) h))

theorem dieIsolate_touches {z : State} {msk : Nat} {d : Nat} {s : State} (hm : Sub 0x1a0195cbf9018205b004 msk) (h :
    Touches msk z s) : Touches msk z (dieIsolate d s) :=
  (xtxnDone_touches (hm.of rfl) (evt_touches (hm.of rfl) (foldl_touches (fun _ _ h1 => (touches_ite (pathJam_touches
    (hm.of rfl) h1) h1)) (dieSafe_touches (hm.of rfl) (Touches.upD_msgs (hm.of rfl) (addFence_touches (hm.of rfl)
    (spoilDie_touches (hm.of rfl) h)))))))

theorem dieFatal_touches {z : State} {msk : Nat} {d : Nat} {s : State} (hm : Sub 0x1a0195cbf9018207b004 msk) (h :
    Touches msk z s) : Touches msk z (dieFatal d s) :=
  (touches_ite h (degrade_touches (hm.of rfl) (recordFault_touches (hm.of rfl) (dieIsolate_touches (hm.of rfl) h))))

theorem dieLost_touches {z : State} {msk : Nat} {d : Nat} {s : State} (hm : Sub 0x1a0195cbf9018207f004 msk) (h :
    Touches msk z s) : Touches msk z (dieLost d s) :=
  (touches_ite h (dieFatal_touches (hm.of rfl) (errPulse_touches (hm.of rfl) (drawFree_touches (hm.of rfl)
    (drawFree_touches (hm.of rfl) h)))))

theorem ethUnfence_touches {z : State} {msk : Nat} {p : Nat} {s : State} (hm : Sub 0x10001800000049024 msk) (h :
    Touches msk z s) : Touches msk z (ethUnfence p s) :=
  (touches_ite (ethEnable_touches (hm.of rfl) (unfence_touches (hm.of rfl) h)) (unfence_touches (hm.of rfl) h))

theorem execErrPulseEnd_touches {z : State} {msk : Nat} {s : State} (hm : Sub 0x40004 msk) (h : Touches msk z s) :
    TouchesO msk z (execErrPulseEnd s) := by
  have e := Eq.refl @execErrPulseEnd; conv at e => rhs; delta execErrPulseEnd
  rw [e]
  (try dsimp only)
  split <;> (try dsimp only)
  exacts [(touchesO_ite (.next (wr_touches (hm.of rfl) (Touches.upD_errPulseEnd (hm.of rfl) h))) (.next h)), (.next h)]

theorem fatalFault_touches {z : State} {msk : Nat} {d : Nat} {p : Nat} {src : Nat} {forced : Bool} {s : State} (hm :
    Sub 0x1a0195cbf9018207b004 msk) (h : Touches msk z s) : Touches msk z (fatalFault d p src forced s) :=
  (dieFatal_touches (hm.of rfl) (recordFault_touches (hm.of rfl) h))

theorem execMemTrainDone_touches {z : State} {msk : Nat} {d : Nat} {ok : Bool} {s : State} (hm : Sub
    0x1a0195cbf9058207b004 msk) (h : Touches msk z s) : TouchesO msk z (execMemTrainDone d ok s) :=
  (touchesO_ite (.next h) (touchesO_ite (.next (memTrained_touches (hm.of rfl) h)) (.next (fatalFault_touches (hm.of
    rfl) (evt_touches (hm.of rfl) (wr_touches (hm.of rfl) h))))))

theorem execMortarLinkFenced_touches {z : State} {msk : Nat} {d : Nat} {s : State} (hm : Sub 0x11a0195cbf9018207f004
    msk) (h : Touches msk z s) : TouchesO msk z (execMortarLinkFenced d s) :=
  (touchesO_ite (.next h) (.next (foldl_touches (fun _ _ h1 => (touches_ite h1 (dieLost_touches (hm.of rfl) h1)))
    (Touches.upD_linksFenced (hm.of rfl) h))))

theorem execStationUnfenceApply_touches {z : State} {msk : Nat} {k : Nat} {s : State} (hm : Sub 0x180000c1f9018205b004
    msk) (h : Touches msk z s) : TouchesO msk z (execStationUnfenceApply k s) :=
  (touchesO_ite (.next (touches_ite (stationFault_touches (hm.of rfl) (dropFence_touches (hm.of rfl)
    (Touches.upD_unfPending (hm.of rfl) h))) (lenUpdate_touches (hm.of rfl) (timingStart_touches (hm.of rfl)
    (headForm_touches (hm.of rfl) (dropFence_touches (hm.of rfl) (Touches.upD_unfPending (hm.of rfl) h))))))) (.next
    h))

theorem fenceUnit_touches {z : State} {msk : Nat} {u : UnitId} {s : State} (hm : Sub 0x1e0195cbf9eb8605f00c msk) (h :
    Touches msk z s) : Touches msk z (fenceUnit u s) :=
  (touches_ite h (by (try dsimp only); split <;> (try dsimp only); exacts [(stationFence_touches (hm.of rfl) h),
    (laneFence_touches (hm.of rfl) h), (rasterFence_touches (hm.of rfl) h), (decodeFence_touches (hm.of rfl) h),
    (compFenced_touches (hm.of rfl) (addFence_touches (hm.of rfl) h)), (dmaFenced_touches (hm.of rfl)
    (addFence_touches (hm.of rfl) h)), (stepFence_touches (hm.of rfl) (addFence_touches (hm.of rfl) h)),
    (focOff_touches (hm.of rfl) (addFence_touches (hm.of rfl) h)), (busFence_touches (hm.of rfl) h),
    (loopFence_touches (hm.of rfl) h), (cueFence_touches (hm.of rfl) h), (ethFence_touches (hm.of rfl) h),
    (addFence_touches (hm.of rfl) h)]))

theorem fenceUnits_touches {z : State} {msk : Nat} {us : List UnitId} {s : State} (hm : Sub 0x1e0195cbf9eb8605f00c
    msk) (h : Touches msk z s) : Touches msk z (fenceUnits us s) :=
  (foldl_touches (fun _ _ h1 => (fenceUnit_touches (hm.of rfl) h1)) h)

theorem fencePage_touches {z : State} {msk : Nat} {d : Nat} {p : Nat} {s : State} (hm : Sub 0x1e0195cbf9eb8605f00c
    msk) (h : Touches msk z s) : Touches msk z (fencePage d p s) :=
  (fenceUnits_touches (hm.of rfl) h)

theorem stationUnfence_touches {z : State} {msk : Nat} {k : Nat} {p : Nat} {s : State} (hm : Sub 0x11004 msk) (h :
    Touches msk z s) : Touches msk z (stationUnfence k p s) :=
  (touches_ite h (touches_ite (unfRefuse_touches (hm.of rfl) h) (Touches.upD_unfPending (hm.of rfl) h)))

theorem unfenceUnit_touches {z : State} {msk : Nat} {d : Nat} {p : Nat} {u : UnitId} {s : State} (hm : Sub
    0x16010101810000059024 msk) (h : Touches msk z s) : Touches msk z (unfenceUnit d p u s) := by
  have e := Eq.refl @unfenceUnit; conv at e => rhs; delta unfenceUnit
  rw [e]
  (try dsimp only)
  split <;> (try dsimp only)
  exacts [(stationUnfence_touches (hm.of rfl) h), (laneUnfence_touches (hm.of rfl) h), (rasterUnfence_touches (hm.of rfl) h), (codecUnfence_touches (hm.of rfl) h), (codecUnfence_touches (hm.of rfl) h), (busUnfence_touches (hm.of rfl) h), (loopUnfence_touches (hm.of rfl) h), (cueUnfence_touches (hm.of rfl) h), (ethUnfence_touches (hm.of rfl) h), (unfence_touches (hm.of rfl) h)]

theorem unfencePage_touches {z : State} {msk : Nat} {d : Nat} {p : Nat} {s : State} (hm : Sub 0x16010101810000059024
    msk) (h : Touches msk z s) : Touches msk z (unfencePage d p s) :=
  (foldl_touches (fun _ _ h1 => (unfenceUnit_touches (hm.of rfl) h1)) h)

end Sys2Proof.Machine
end

