-- ==== Sys2Proof/Laws/TouchesPower.lean ====
section
/-! SUPPORT. Which fields of the state every operation of Power may change. -/

namespace Sys2Proof.Machine

theorem dropWords_touches {z : State} {msk : Nat} {lo : Nat} {hi : Nat} {s : State} (hm : Sub 0x4 msk) (h : Touches
    msk z s) : Touches msk z (dropWords lo hi s) :=
  (Touches.upD_regs (hm.of rfl) h)

theorem frameClear_touches {z : State} {msk : Nat} {s : State} (hm : Sub 0xc01100fe002004 msk) (h : Touches msk z s) :
    Touches msk z (frameClear s) :=
  (dropWords_touches (hm.of rfl) (Touches.upD_slots_planes_decls_retained_freed_freedWait_spoilLog (hm.of rfl)
    (foldl_touches (fun _ _ h1 => (touches_ite h1 (foldl_touches (fun _ _ h2 => (spoilStation_touches (hm.of rfl) h2))
    h1))) h)))

theorem planesClear_touches {z : State} {msk : Nat} {d : Nat} {s : State} (hm : Sub 0xc000000 msk) (h : Touches msk z
    s) : Touches msk z (planesClear d s) :=
  (Touches.upD_planes_decls (hm.of rfl) h)

theorem stationClear_touches {z : State} {msk : Nat} {k : Nat} {kind : Sys2Proof.PageKind} {s : State} (hm : Sub
    0x180000c0000000000000 msk) (h : Touches msk z s) : Touches msk z (stationClear k kind s) := by
  have e := Eq.refl @stationClear; conv at e => rhs; delta stationClear
  rw [e]
  (try dsimp only)
  split <;> (try dsimp only)
  exacts [(setImager_touches (hm.of rfl) (setSta_touches (hm.of rfl) h)), (setSta_touches (hm.of rfl) h), (setBond_touches (hm.of rfl) (setHead_touches (hm.of rfl) (setSta_touches (hm.of rfl) h))), (setSta_touches (hm.of rfl) h), h]

theorem blockClear_touches {z : State} {msk : Nat} {d : Nat} {p : Nat} {s : State} (hm : Sub 0x20fe6fffcbfbf8fec02304
    msk) (h : Touches msk z s) : Touches msk z (blockClear d p s) := by
  have e := Eq.refl @blockClear; conv at e => rhs; delta blockClear
  rw [e]
  (try dsimp only)
  split <;> (try dsimp only)
  exacts [(touches_ite (Touches.upD_xtxn (hm.of rfl) h) h), (setTxn_touches (hm.of rfl) h), (Touches.upD_rails (hm.of rfl) h), (Touches.upD_thermals (hm.of rfl) h), (touches_ite (Touches.upD_logBusy_logWait (hm.of rfl) h) h), (Touches.upD_dogs (hm.of rfl) h), (touches_ite (Touches.upD_master (hm.of rfl) (setClock_touches (hm.of rfl) (Touches.upD_loopNext (hm.of rfl) h))) (setClock_touches (hm.of rfl) (Touches.upD_loopNext (hm.of rfl) h))), (touches_ite (frameClear_touches (hm.of rfl) h) (planesClear_touches (hm.of rfl) h)), (dropWords_touches (hm.of rfl) (setImager_touches (hm.of rfl) (setImager_touches (hm.of rfl) (Touches.upD_jobs_jobNext_jobEnded_dlanes (hm.of rfl) h)))), (Touches.upD_lanes (hm.of rfl) h), (Touches.upD_rasters_bonds (hm.of rfl) h), (Touches.upD_eths_syncAt (hm.of rfl) h), (Touches.upD_scrubs (hm.of rfl) h), (Touches.upD_dmas (hm.of rfl) h), (showTiming_touches (hm.of rfl) (dropWords_touches (hm.of rfl) (stationClear_touches (hm.of rfl) h))), (stationClear_touches (hm.of rfl) h), (stationClear_touches (hm.of rfl) h), (stationClear_touches (hm.of rfl) h), (touches_ite (Touches.upD_paths_purges_stopAtRun (hm.of rfl) (dropWords_touches (hm.of rfl) (Touches.upD_counters_cues_startLists (hm.of rfl) h))) (dropWords_touches (hm.of rfl) (Touches.upD_counters_cues_startLists (hm.of rfl) h))), (Touches.upD_steps (hm.of rfl) h), (Touches.upD_focs (hm.of rfl) h), (dropWords_touches (hm.of rfl) (Touches.upD_loops_cffs (hm.of rfl) h)), (Touches.upD_aregOut_adcs_heaters_zeros_hvOver_marks_calJobs_ages (hm.of rfl) h), (setGpio_touches (hm.of rfl) h), h]

theorem blockEnable_touches {z : State} {msk : Nat} {d : Nat} {p : Nat} {s : State} (hm : Sub 0x1e0100c1f9018205b004
    msk) (h : Touches msk z s) : Touches msk z (blockEnable d p s) := by
  have e := Eq.refl @blockEnable; conv at e => rhs; delta blockEnable
  rw [e]
  (try dsimp only)
  split <;> (try dsimp only)
  exacts [(touches_ite (timingStart_touches (hm.of rfl) (headForm_touches (hm.of rfl) h)) (headForm_touches (hm.of rfl) (closeSession_touches (hm.of rfl) (timingEnd_touches (hm.of rfl) h)))), (laneEnable_touches (hm.of rfl) h), (rasterEnable_touches (hm.of rfl) h), h]

theorem blockQuiet_touches {z : State} {msk : Nat} {d : Nat} {p : Nat} {s : State} (hm : Sub 0x1a0110cbf9018205b004
    msk) (h : Touches msk z s) : Touches msk z (blockQuiet d p s) := by
  have e := Eq.refl @blockQuiet; conv at e => rhs; delta blockQuiet
  rw [e]
  (try dsimp only)
  split <;> (try dsimp only)
  exacts [(headForm_touches (hm.of rfl) (closeSession_touches (hm.of rfl) (timingEnd_touches (hm.of rfl) h))), (timingEnd_touches (hm.of rfl) h), (headForm_touches (hm.of rfl) (closeSession_touches (hm.of rfl) h)), (lenUpdate_touches (hm.of rfl) h), (touches_ite h (laneOff_touches (hm.of rfl) h)), (rasterForm_touches (hm.of rfl) h), (setEth_touches (hm.of rfl) (setEth_touches (hm.of rfl) h)), (foldl_touches (fun _ _ h1 => (focOff_touches (hm.of rfl) h1)) h), (foldl_touches (fun _ _ h1 => (stepFence_touches (hm.of rfl) h1)) h), (pioSafe_touches (hm.of rfl) h), h]

theorem resized_touches {z : State} {msk : Nat} {d : Nat} {p : Nat} {s : State} (hm : Sub 0x40000000000000 msk) (h :
    Touches msk z s) : Touches msk z (resized d p s) := by
  have e := Eq.refl @resized; conv at e => rhs; delta resized
  rw [e]
  (try dsimp only)
  split <;> (try dsimp only)
  exacts [(dutyResize_touches (hm.of rfl) h), h]

theorem fenceViews_touches {z : State} {msk : Nat} {d : Nat} {p : Nat} {s0 : State} {s : State} (hm : Sub
    0x100000000000004 msk) (h : Touches msk z s) : Touches msk z (fenceViews d p s0 s) := by
  have e := Eq.refl @fenceViews; conv at e => rhs; delta fenceViews
  rw [e]
  (try dsimp only)
  split <;> (try dsimp only)
  exacts [(foldl_touches (fun _ _ h1 => (touches_ite (wr_touches (hm.of rfl) h1) h1)) h), (foldl_touches (fun _ _ h1 => (touches_ite (setBitOf_touches (hm.of rfl) h1) h1)) h), (touches_ite (setLaneSt_touches (hm.of rfl) h) h), (wr_touches (hm.of rfl) (wr_touches (hm.of rfl) h)), (foldl_touches (fun _ _ h1 => (wr_touches (hm.of rfl) (wr_touches (hm.of rfl) h1))) h), (foldl_touches (fun _ _ h1 => (wr_touches (hm.of rfl) h1)) h), (foldl_touches (fun _ _ h1 => (setMode_touches (hm.of rfl) h1)) h), h]

theorem strapRegs_touches {z : State} {msk : Nat} {d : Nat} {p : Nat} {s : State} (hm : Sub 0x4 msk) (h : Touches msk
    z s) : Touches msk z (strapRegs d p s) := by
  have e := Eq.refl @strapRegs; conv at e => rhs; delta strapRegs
  rw [e]
  (try dsimp only)
  split <;> (try dsimp only)
  exacts [(wr_touches (hm.of rfl) h), (touches_ite (wr_touches (hm.of rfl) (wr_touches (hm.of rfl) h)) h), h]

theorem blockReset_touches {z : State} {msk : Nat} {d : Nat} {p : Nat} {s : State} (hm : Sub 0x20fe6fffcbfbf8fec02304
    msk) (h : Touches msk z s) : Touches msk z (blockReset d p s) :=
  (resized_touches (hm.of rfl) (fenceViews_touches (hm.of rfl) (strapRegs_touches (hm.of rfl) (foldl_touches (fun _ _
    h1 => (putWord_touches (hm.of rfl) h1)) (dropWords_touches (hm.of rfl) (blockClear_touches (hm.of rfl) h))))))

theorem blockWakes_touches {z : State} {msk : Nat} {d : Nat} {p : Nat} {s : State} (hm : Sub 0x1e010041800000041024
    msk) (h : Touches msk z s) : Touches msk z (blockWakes d p s) :=
  (touches_ite h (by (try dsimp only); split <;> (try dsimp only); exacts [(timingStart_touches (hm.of rfl)
    (headForm_touches (hm.of rfl) h)), (timingStart_touches (hm.of rfl) (headForm_touches (hm.of rfl) h)),
    (headForm_touches (hm.of rfl) h), (lenUpdate_touches (hm.of rfl) h), (laneEnable_touches (hm.of rfl) h),
    (rasterEnable_touches (hm.of rfl) h), (ethEnable_touches (hm.of rfl) (ethEnable_touches (hm.of rfl) h)), h]))

theorem stopUnits_touches {z : State} {msk : Nat} {d : Nat} {p : Nat} {s : State} (hm : Sub 0x1e0195cbf9eb8605f00c
    msk) (h : Touches msk z s) : Touches msk z (stopUnits d p s) := by
  have e := Eq.refl @stopUnits; conv at e => rhs; delta stopUnits
  rw [e]
  (try dsimp only)
  split <;> (try dsimp only)
  exacts [(foldl_touches (fun _ _ h1 => (cueDisarm_touches (hm.of rfl) h1)) h), (foldl_touches (fun _ _ h1 => (loopDisable_touches (hm.of rfl) h1)) h), (foldl_touches (fun _ _ h1 => (dropFence_touches (hm.of rfl) h1)) (fenceUnits_touches (hm.of rfl) h))]

theorem rejectDomain_touches {z : State} {msk : Nat} {d : Nat} {dom : Nat} {s : State} (hm : Sub 0x1800000043004 msk)
    (h : Touches msk z s) : Touches msk z (rejectDomain d dom s) :=
  (rejectTargets_touches (hm.of rfl) h)

theorem residueLost_touches {z : State} {msk : Nat} {k : Nat} {s : State} (hm : Sub 0x40000000000000 msk) (h : Touches
    msk z s) : Touches msk z (residueLost k s) :=
  (setSta_touches (hm.of rfl) h)

theorem domainOff_touches {z : State} {msk : Nat} {d : Nat} {dom : Nat} {s : State} (hm : Sub 0x20fe6fffcbfbfbfee5f30c
    msk) (h : Touches msk z s) : Touches msk z (domainOff d dom s) :=
  (touches_ite (wr_touches (hm.of rfl) (putWord_touches (hm.of rfl) (foldl_touches (fun _ _ h1 => (onlyIf_touches (fun
    _ h2 => (residueLost_touches (hm.of rfl) h2)) h1)) (foldl_touches (fun _ _ h1 => (blockReset_touches (hm.of rfl)
    (blockQuiet_touches (hm.of rfl) h1))) (setDomain_touches (hm.of rfl) (touches_ite (memSelfRefresh_touches (hm.of
    rfl) (foldl_touches (fun _ _ h1 => (stopUnits_touches (hm.of rfl) h1)) (rejectDomain_touches (hm.of rfl) h)))
    (foldl_touches (fun _ _ h1 => (stopUnits_touches (hm.of rfl) h1)) (rejectDomain_touches (hm.of rfl) h))))))))
    (foldl_touches (fun _ _ h1 => (onlyIf_touches (fun _ h2 => (residueLost_touches (hm.of rfl) h2)) h1))
    (foldl_touches (fun _ _ h1 => (blockReset_touches (hm.of rfl) (blockQuiet_touches (hm.of rfl) h1)))
    (setDomain_touches (hm.of rfl) (touches_ite (memSelfRefresh_touches (hm.of rfl) (foldl_touches (fun _ _ h1 =>
    (stopUnits_touches (hm.of rfl) h1)) (rejectDomain_touches (hm.of rfl) h))) (foldl_touches (fun _ _ h1 =>
    (stopUnits_touches (hm.of rfl) h1)) (rejectDomain_touches (hm.of rfl) h)))))))

theorem domainRelease_touches {z : State} {msk : Nat} {d : Nat} {dom : Nat} {s : State} (hm : Sub
    0x1e010041800000241024 msk) (h : Touches msk z s) : Touches msk z (domainRelease d dom s) :=
  (foldl_touches (fun _ _ h1 => (blockWakes_touches (hm.of rfl) h1)) (touches_ite (memWake_touches (hm.of rfl)
    (setDomain_touches (hm.of rfl) h)) (setDomain_touches (hm.of rfl) h)))

theorem powerLook_touches {z : State} {msk : Nat} {d : Nat} {s : State} (hm : Sub 0x1800000243004 msk) (h : Touches
    msk z s) : Touches msk z (powerLook d s) :=
  (touches_ite (evt_touches (hm.of rfl) (wr_touches (hm.of rfl) (foldl_touches (fun _ _ h1 => (touches_ite h1
    (touches_ite (touches_ite (rejectDomain_touches (hm.of rfl) (setDomain_touches (hm.of rfl) h1)) (setDomain_touches
    (hm.of rfl) h1)) (touches_ite (setDomain_touches (hm.of rfl) h1) h1)))) h))) (wr_touches (hm.of rfl)
    (foldl_touches (fun _ _ h1 => (touches_ite h1 (touches_ite (touches_ite (rejectDomain_touches (hm.of rfl)
    (setDomain_touches (hm.of rfl) h1)) (setDomain_touches (hm.of rfl) h1)) (touches_ite (setDomain_touches (hm.of
    rfl) h1) h1)))) h)))

theorem execDomainPowerDown_touches {z : State} {msk : Nat} {d : Nat} {dom : Nat} {s : State} (hm : Sub
    0x20fe6fffcbfbfbfee5f30c msk) (h : Touches msk z s) : TouchesO msk z (execDomainPowerDown d dom s) :=
  (touchesO_ite (.next h) (touchesO_ite (.next (powerLook_touches (hm.of rfl) h)) (.next (powerLook_touches (hm.of
    rfl) (evt_touches (hm.of rfl) (bump_touches (hm.of rfl) (domainOff_touches (hm.of rfl) h)))))))

theorem execDomainPowerTimeout_touches {z : State} {msk : Nat} {d : Nat} {dom : Nat} {s : State} (hm : Sub
    0x1e0195cbf9eb8625f00c msk) (h : Touches msk z s) : TouchesO msk z (execDomainPowerTimeout d dom s) :=
  (touchesO_ite (.next h) (.next (setDomain_touches (hm.of rfl) (foldl_touches (fun _ _ h1 => (fencePage_touches
    (hm.of rfl) h1)) (recordFault_touches (hm.of rfl) h)))))

theorem execDomainPowerUp_touches {z : State} {msk : Nat} {d : Nat} {dom : Nat} {s : State} (hm : Sub 0x1800000243004
    msk) (h : Touches msk z s) : TouchesO msk z (execDomainPowerUp d dom s) :=
  (touchesO_ite (.next h) (.next (powerLook_touches (hm.of rfl) (evt_touches (hm.of rfl) (setDomain_touches (hm.of
    rfl) h)))))

theorem pageSrst_touches {z : State} {msk : Nat} {d : Nat} {p : Nat} {s : State} (hm : Sub 0x20fe6fffcbfbfdfec5b324
    msk) (h : Touches msk z s) : Touches msk z (pageSrst d p s) :=
  (blockWakes_touches (hm.of rfl) (touches_ite (Touches.upD_memTrained (hm.of rfl) (blockReset_touches (hm.of rfl)
    (blockQuiet_touches (hm.of rfl) h))) (blockReset_touches (hm.of rfl) (blockQuiet_touches (hm.of rfl) h))))

theorem putPageCtl_touches {z : State} {msk : Nat} {d : Nat} {p : Nat} {s : State} (hm : Sub 0x4 msk) (h : Touches msk
    z s) : Touches msk z (putPageCtl d p s) :=
  (putWord_touches (hm.of rfl) h)

end Sys2Proof.Machine
end

