-- ==== Sys2Proof/Laws/TouchesThermal.lean ====
section
/-! SUPPORT. Which fields of the state every operation of Thermal may change. -/

namespace Sys2Proof.Machine

theorem enterCritical_touches {z : State} {msk : Nat} {d : Nat} {s : State} (hm : Sub 0x1a410041800000041004 msk) (h :
    Touches msk z s) : Touches msk z (enterCritical d s) :=
  (foldl_touches (fun _ _ h1 => (touches_ite (laneOff_touches (hm.of rfl) h1) h1)) (criticalStop_touches (hm.of rfl)
    (logTrigger_touches (hm.of rfl) (evt_touches (hm.of rfl) (recordFault_touches (hm.of rfl) h)))))

theorem thermDiff_touches {z : State} {msk : Nat} {d : Nat} {s : State} (hm : Sub 0x1800000041004 msk) (h : Touches
    msk z s) : Touches msk z (thermDiff d s) :=
  (touches_ite h (touches_ite (evt_touches (hm.of rfl) (bump_touches (hm.of rfl) (recordFault_touches (hm.of rfl)
    (wr_touches (hm.of rfl) h)))) (touches_ite (wr_touches (hm.of rfl) h) h)))

theorem setThermal_touches {z : State} {msk : Nat} {d : Nat} {v : Thermal} {s : State} (hm : Sub 0x200000000000000000
    msk) (h : Touches msk z s) : Touches msk z (setThermal d v s) :=
  (Touches.upD_thermals (hm.of rfl) h)

theorem shutdown_touches {z : State} {msk : Nat} {d : Nat} {s : State} (hm : Sub 0x1a2195cbf9018207b004 msk) (h :
    Touches msk z s) : Touches msk z (shutdown d s) :=
  (fatalFault_touches (hm.of rfl) (logTrigger_touches (hm.of rfl) (spoilDie_touches (hm.of rfl) (setThermal_touches
    (hm.of rfl) h))))

theorem thermState_touches {z : State} {msk : Nat} {d : Nat} {s : State} (hm : Sub 0x1a6195cbf9018207b004 msk) (h :
    Touches msk z s) : Touches msk z (thermState d s) :=
  (touches_ite (foldl_touches (fun _ _ h1 => (touches_ite (laneEnable_touches (hm.of rfl) h1) h1)) (touches_ite
    (shutdown_touches (hm.of rfl) (touches_ite (enterCritical_touches (hm.of rfl) (touches_ite (evt_touches (hm.of
    rfl) (wr_touches (hm.of rfl) (wr_touches (hm.of rfl) h))) (touches_ite (evt_touches (hm.of rfl) (wr_touches (hm.of
    rfl) (wr_touches (hm.of rfl) h))) (wr_touches (hm.of rfl) (wr_touches (hm.of rfl) h))))) (touches_ite (evt_touches
    (hm.of rfl) (wr_touches (hm.of rfl) (wr_touches (hm.of rfl) h))) (touches_ite (evt_touches (hm.of rfl) (wr_touches
    (hm.of rfl) (wr_touches (hm.of rfl) h))) (wr_touches (hm.of rfl) (wr_touches (hm.of rfl) h)))))) (touches_ite
    (enterCritical_touches (hm.of rfl) (touches_ite (evt_touches (hm.of rfl) (wr_touches (hm.of rfl) (wr_touches
    (hm.of rfl) h))) (touches_ite (evt_touches (hm.of rfl) (wr_touches (hm.of rfl) (wr_touches (hm.of rfl) h)))
    (wr_touches (hm.of rfl) (wr_touches (hm.of rfl) h))))) (touches_ite (evt_touches (hm.of rfl) (wr_touches (hm.of
    rfl) (wr_touches (hm.of rfl) h))) (touches_ite (evt_touches (hm.of rfl) (wr_touches (hm.of rfl) (wr_touches (hm.of
    rfl) h))) (wr_touches (hm.of rfl) (wr_touches (hm.of rfl) h))))))) (touches_ite (shutdown_touches (hm.of rfl)
    (touches_ite (enterCritical_touches (hm.of rfl) (touches_ite (evt_touches (hm.of rfl) (wr_touches (hm.of rfl)
    (wr_touches (hm.of rfl) h))) (touches_ite (evt_touches (hm.of rfl) (wr_touches (hm.of rfl) (wr_touches (hm.of rfl)
    h))) (wr_touches (hm.of rfl) (wr_touches (hm.of rfl) h))))) (touches_ite (evt_touches (hm.of rfl) (wr_touches
    (hm.of rfl) (wr_touches (hm.of rfl) h))) (touches_ite (evt_touches (hm.of rfl) (wr_touches (hm.of rfl) (wr_touches
    (hm.of rfl) h))) (wr_touches (hm.of rfl) (wr_touches (hm.of rfl) h)))))) (touches_ite (enterCritical_touches
    (hm.of rfl) (touches_ite (evt_touches (hm.of rfl) (wr_touches (hm.of rfl) (wr_touches (hm.of rfl) h)))
    (touches_ite (evt_touches (hm.of rfl) (wr_touches (hm.of rfl) (wr_touches (hm.of rfl) h))) (wr_touches (hm.of rfl)
    (wr_touches (hm.of rfl) h))))) (touches_ite (evt_touches (hm.of rfl) (wr_touches (hm.of rfl) (wr_touches (hm.of
    rfl) h))) (touches_ite (evt_touches (hm.of rfl) (wr_touches (hm.of rfl) (wr_touches (hm.of rfl) h))) (wr_touches
    (hm.of rfl) (wr_touches (hm.of rfl) h)))))))

theorem thermSet_touches {z : State} {msk : Nat} {d : Nat} {e : Int} {s : State} (hm : Sub 0x1a6195cbf9018207b004 msk)
    (h : Touches msk z s) : Touches msk z (thermSet d e s) :=
  (foldl_touches (fun _ _ h1 => (thermDiff_touches (hm.of rfl) h1)) (thermState_touches (hm.of rfl) (touches_ite
    (wrS_touches (hm.of rfl) (wrS_touches (hm.of rfl) h)) (wrS_touches (hm.of rfl) h))))

theorem execTempSample_touches {z : State} {msk : Nat} {d : Nat} {raw : Int} {s : State} (hm : Sub
    0x1a6195cbf9018207b004 msk) (h : Touches msk z s) : TouchesO msk z (execTempSample d raw s) :=
  (touchesO_ite (.next h) (touchesO_ite (.next (thermSet_touches (hm.of rfl) (setThermal_touches (hm.of rfl)
    (wr_touches (hm.of rfl) (wr_touches (hm.of rfl) (wrS_touches (hm.of rfl) h))))))
    (by (try dsimp only); split <;> (try dsimp only); exacts [(.next (thermSet_touches (hm.of rfl) (touches_ite
    (evt_touches (hm.of rfl) (bump_touches (hm.of rfl) (setThermal_touches (hm.of rfl) (wr_touches (hm.of rfl)
    (wr_touches (hm.of rfl) (wrS_touches (hm.of rfl) h)))))) (recordFault_touches (hm.of rfl) (evt_touches (hm.of rfl)
    (bump_touches (hm.of rfl) (setThermal_touches (hm.of rfl) (wr_touches (hm.of rfl) (wr_touches (hm.of rfl)
    (wrS_touches (hm.of rfl) h)))))))))), (.next (thermSet_touches (hm.of rfl) (touches_ite (touches_ite (evt_touches
    (hm.of rfl) (bump_touches (hm.of rfl) (setThermal_touches (hm.of rfl) (wr_touches (hm.of rfl) (wr_touches (hm.of
    rfl) (wrS_touches (hm.of rfl) h)))))) (recordFault_touches (hm.of rfl) (evt_touches (hm.of rfl) (bump_touches
    (hm.of rfl) (setThermal_touches (hm.of rfl) (wr_touches (hm.of rfl) (wr_touches (hm.of rfl) (wrS_touches (hm.of
    rfl) h)))))))) (recordFault_touches (hm.of rfl) (touches_ite (evt_touches (hm.of rfl) (bump_touches (hm.of rfl)
    (setThermal_touches (hm.of rfl) (wr_touches (hm.of rfl) (wr_touches (hm.of rfl) (wrS_touches (hm.of rfl) h))))))
    (recordFault_touches (hm.of rfl) (evt_touches (hm.of rfl) (bump_touches (hm.of rfl) (setThermal_touches (hm.of
    rfl) (wr_touches (hm.of rfl) (wr_touches (hm.of rfl) (wrS_touches (hm.of rfl) h))))))))))))])))

end Sys2Proof.Machine
end

