-- ==== Sys2Proof/Laws/TouchesReset.lean ====
section
/-! SUPPORT. Which fields of the state every operation of Reset may change. -/

namespace Sys2Proof.Machine

theorem warmNoted_touches {z : State} {msk : Nat} {d : Nat} {cause : Nat} {s : State} (hm : Sub 0x4 msk) (h : Touches
    msk z s) : Touches msk z (warmNoted d cause s) :=
  (bump_touches (hm.of rfl) (wr_touches (hm.of rfl) h))

theorem dieClear_touches {z : State} {msk : Nat} {d : Nat} {s : State} (hm : Sub 0x20fe6fffcbfbf8fee1a704 msk) (h :
    Touches msk z s) : Touches msk z (dieClear d s) :=
  (wr_touches (hm.of rfl) (wr_touches (hm.of rfl) (Touches.upD_dogs (hm.of rfl) (foldl_touches (fun _ _ h1 =>
    (fenceViews_touches (hm.of rfl) (strapRegs_touches (hm.of rfl) (putPageCtl_touches (hm.of rfl) h1))))
    (Touches.upD_regs_landed_msgs_fenced_unfPending_domains (hm.of rfl) (residueLost_touches (hm.of rfl)
    (residueLost_touches (hm.of rfl) (foldl_touches (fun _ _ h1 => (blockClear_touches (hm.of rfl) h1))
    (memSelfRefresh_touches (hm.of rfl) h)))))))))

theorem assertWarm_touches {z : State} {msk : Nat} {d : Nat} {cause : Nat} {pkg : Bool} {clock : Bool} {held : Bool}
    {s : State} (hm : Sub 0x20fe6fffcbfbf8fef1a704 msk) (h : Touches msk z s) : Touches msk z (assertWarm d cause pkg
    clock held s) :=
  (setRelease_touches (hm.of rfl) (warmNoted_touches (hm.of rfl) (dieClear_touches (hm.of rfl) h)))

theorem bootStart_touches {z : State} {msk : Nat} {s : State} (hm : Sub 0x8800000000000000000004 msk) (h : Touches msk
    z s) : Touches msk z (bootStart s) :=
  (touches_ite (wr_touches (hm.of rfl) (Touches.upD_boot_bootWaits (hm.of rfl) h)) (wr_touches (hm.of rfl) (wr_touches
    (hm.of rfl) (wr_touches (hm.of rfl) (Touches.upD_boot_bootWaits (hm.of rfl) h)))))

theorem clockStations_touches {z : State} {msk : Nat} {d : Nat} {s : State} (hm : Sub 0x180000c1f9018205b004 msk) (h :
    Touches msk z s) : Touches msk z (clockStations d s) :=
  (stationFence_touches (hm.of rfl) (stationFence_touches (hm.of rfl) (spoilImaging_touches (hm.of rfl)
    (spoilImaging_touches (hm.of rfl) h))))

theorem coldDie_touches {z : State} {msk : Nat} {d : Nat} {cause : Nat} {old : State} {s : State} (hm : Sub 0x100104
    msk) (h : Touches msk z s) : Touches msk z (coldDie d cause old s) :=
  (setClock_touches (hm.of rfl) (setRelease_touches (hm.of rfl) (foldl_touches (fun _ _ h1 => (putWord_touches (hm.of
    rfl) h1)) (wr_touches (hm.of rfl) (foldl_touches (fun _ _ h1 => (wr_touches (hm.of rfl) h1)) (wr_touches (hm.of
    rfl) h))))))

theorem coldState_touches {z : State} {msk : Nat} {s : State} (hm : Sub 0x1ffff7fffcffbffffffa70e msk) (h : Touches
    msk z s) : Touches msk z (coldState s) :=
  (Touches.upD_straps_regs_mem_clocks_master_landed_msgs_fenced_unfPending_safeStop_errPulseEnd_errAonHold_releases_domains_txns_xtxn_lastFsnValid_slots_planes_decls_retained_freed_freedWait_spoilLog_spoils_badBlocks_memTrained_dmas_scrubs_jobs_jobNext_jobEnded_dlanes_counters_cues_startLists_paths_purges_logBusy_logWait_focs_buses_steps_stations_imagers_loops_cffs_aregOut_adcs_heaters_zeros_hvOver_gpios_eths_syncAt_loopNext_rails_rmon_thermals_stopAtRun_logSeq_lanes_rasters_headLinks_bonds_marks_calJobs_ages_linksFenced_clkFails_strapsAt_boot_taps_dogs_pcieUp_bootWaits_encEdges
    (hm.of rfl) h)

theorem coldReset_touches {z : State} {msk : Nat} {cause : Nat} {s : State} (hm : Sub 0x1ffffffffcffbfffffff71e msk)
    (h : Touches msk z s) : Touches msk z (coldReset cause s) :=
  (logTrigger_touches (hm.of rfl) (logScan_touches (hm.of rfl) (railTableLoad_touches (hm.of rfl) (foldl_touches (fun
    _ _ h1 => (wr_touches (hm.of rfl) h1)) (foldl_touches (fun _ _ h1 => (coldDie_touches (hm.of rfl) h1))
    (coldState_touches (hm.of rfl) (foldl_touches (fun _ _ h1 => (ageAbandon_touches (hm.of rfl) h1))
    (logAbandon_touches (hm.of rfl) h))))))))

theorem dieReleased_touches {z : State} {msk : Nat} {d : Nat} {s : State} (hm : Sub 0xa80004000180000034b304 msk) (h :
    Touches msk z s) : Touches msk z (dieReleased d s) :=
  (touches_ite (bootStart_touches (hm.of rfl) (powerLook_touches (hm.of rfl) (touches_ite (Touches.upD_master_dogs
    (hm.of rfl) (Touches.upD_loopNext_dogs (hm.of rfl) (setRelease_touches (hm.of rfl) (onlyIf_touches (fun _ h1 =>
    (dropFence_touches (hm.of rfl) h1)) (setClock_touches (hm.of rfl) h))))) (Touches.upD_loopNext_dogs (hm.of rfl)
    (setRelease_touches (hm.of rfl) (onlyIf_touches (fun _ h1 => (dropFence_touches (hm.of rfl) h1)) (setClock_touches
    (hm.of rfl) h))))))) (powerLook_touches (hm.of rfl) (touches_ite (Touches.upD_master_dogs (hm.of rfl)
    (Touches.upD_loopNext_dogs (hm.of rfl) (setRelease_touches (hm.of rfl) (onlyIf_touches (fun _ h1 =>
    (dropFence_touches (hm.of rfl) h1)) (setClock_touches (hm.of rfl) h))))) (Touches.upD_loopNext_dogs (hm.of rfl)
    (setRelease_touches (hm.of rfl) (onlyIf_touches (fun _ h1 => (dropFence_touches (hm.of rfl) h1)) (setClock_touches
    (hm.of rfl) h)))))))

theorem errHoldCheck_touches {z : State} {msk : Nat} {s : State} (hm : Sub 0x400000000000000080000 msk) (h : Touches
    msk z s) : Touches msk z (errHoldCheck s) :=
  (touches_ite h (Touches.upD_errAonHold_strapsAt (hm.of rfl) h))

theorem execBrownOut_touches {z : State} {msk : Nat} {s : State} (hm : Sub 0x1ffffffffcffbfffffff71e msk) (h : Touches
    msk z s) : TouchesO msk z (execBrownOut s) :=
  (.next (coldReset_touches (hm.of rfl) h))

theorem pllBypass_touches {z : State} {msk : Nat} {d : Nat} {p : Nat} {s : State} (hm : Sub 0x1104 msk) (h : Touches
    msk z s) : Touches msk z (pllBypass d p s) :=
  (touches_ite h (evt_touches (hm.of rfl) (bump_touches (hm.of rfl) (wr_touches (hm.of rfl) (touches_ite
    (setClock_touches (hm.of rfl) h) h)))))

theorem execClockFailure_touches {z : State} {msk : Nat} {d : Nat} {s : State} (hm : Sub 0x21a0195cbf9018207b104 msk)
    (h : Touches msk z s) : TouchesO msk z (execClockFailure d s) :=
  (touchesO_ite (.next h) (.next (foldl_touches (fun _ _ h1 => (fatalFault_touches (hm.of rfl) h1))
    (Touches.upD_clkFails (hm.of rfl) (foldl_touches (fun _ _ h1 => (spoilDie_touches (hm.of rfl) h1)) (foldl_touches
    (fun _ _ h1 => (bump_touches (hm.of rfl) (wr_touches (hm.of rfl) (wr_touches (hm.of rfl) (foldl_touches (fun _ _
    h2 => (pllBypass_touches (hm.of rfl) h2)) h1))))) h))))))

theorem warmPackage_touches {z : State} {msk : Nat} {cause : Nat} {clock : Bool} {s : State} (hm : Sub
    0xa2fe6fffcbfbf9fef3b704 msk) (h : Touches msk z s) : Touches msk z (warmPackage cause clock s) :=
  (touches_ite h (Touches.upD_msgs_fenced_safeStop_clkFails_bootWaits (hm.of rfl) (foldl_touches (fun _ _ h1 =>
    (assertWarm_touches (hm.of rfl) h1)) (foldl_touches (fun _ _ h1 => (dieSafe_touches (hm.of rfl) h1)) h))))

theorem warmDie_touches {z : State} {msk : Nat} {d : Nat} {cause : Nat} {clock : Bool} {held : Bool} {s : State} (hm :
    Sub 0x22fe6fffcbfbf9fef5b704 msk) (h : Touches msk z s) : Touches msk z (warmDie d cause clock held s) :=
  (touches_ite h (assertWarm_touches (hm.of rfl) (Touches.upD_clkFails (hm.of rfl) (touches_ite h (dieIsolate_touches
    (hm.of rfl) h)))))

theorem warmReset_touches {z : State} {msk : Nat} {d : Nat} {cause : Nat} {pkg : Bool} {clock : Bool} {s : State} (hm
    : Sub 0xa2fe6fffcbfbf9fef7b704 msk) (h : Touches msk z s) : Touches msk z (warmReset d cause pkg clock s) :=
  (touches_ite (warmPackage_touches (hm.of rfl) h) (warmDie_touches (hm.of rfl) h))

theorem execClockFailureWarmReset_touches {z : State} {msk : Nat} {d : Nat} {s : State} (hm : Sub
    0xa2fe6fffcbfbf9fef7b704 msk) (h : Touches msk z s) : TouchesO msk z (execClockFailureWarmReset d s) := by
  have e := Eq.refl @execClockFailureWarmReset; conv at e => rhs; delta execClockFailureWarmReset
  rw [e]
  (try dsimp only)
  split <;> (try dsimp only)
  exacts [(touchesO_ite (.next (warmReset_touches (hm.of rfl) (Touches.upD_clkFails (hm.of rfl) h))) (.next h)), (.next h)]

theorem execClockGoodTimeout_touches {z : State} {msk : Nat} {d : Nat} {isl : Nat} {s : State} (hm : Sub
    0x1e0195cbf9eb862ff00c msk) (h : Touches msk z s) : TouchesO msk z (execClockGoodTimeout d isl s) :=
  (touchesO_ite (.next h) (.next (touches_ite (foldl_touches (fun _ _ h1 => (fencePage_touches (hm.of rfl) h1))
    (evt_touches (hm.of rfl) (recordFault_touches (hm.of rfl) (setDomain_touches (hm.of rfl) h)))) (touches_ite
    (Touches.upD_errAonHold (hm.of rfl) (foldl_touches (fun _ _ h1 => (fencePage_touches (hm.of rfl) h1)) (evt_touches
    (hm.of rfl) (recordFault_touches (hm.of rfl) (setDomain_touches (hm.of rfl) h))))) (dieLost_touches (hm.of rfl)
    (foldl_touches (fun _ _ h1 => (fencePage_touches (hm.of rfl) h1)) (evt_touches (hm.of rfl) (recordFault_touches
    (hm.of rfl) (setDomain_touches (hm.of rfl) h)))))))))

theorem execDieWatchdogExpire_touches {z : State} {msk : Nat} {d : Nat} {s : State} (hm : Sub 0xa2fe6fffcbfbf9fef7b704
    msk) (h : Touches msk z s) : TouchesO msk z (execDieWatchdogExpire d s) :=
  (touchesO_ite (.next h) (.next (warmReset_touches (hm.of rfl) (fatalFault_touches (hm.of rfl) h))))

theorem execIslandRelease_touches {z : State} {msk : Nat} {d : Nat} {isl : Nat} {s : State} (hm : Sub
    0xa81e05004180000034b324 msk) (h : Touches msk z s) : TouchesO msk z (execIslandRelease d isl s) :=
  (touchesO_ite (.next h) (.next (touches_ite (dieReleased_touches (hm.of rfl) (domainRelease_touches (hm.of rfl) h))
    (domainRelease_touches (hm.of rfl) h))))

theorem execLockup_touches {z : State} {msk : Nat} {d : Nat} {s : State} (hm : Sub 0xa2fe6fffcbfbf9fef7b704 msk) (h :
    Touches msk z s) : TouchesO msk z (execLockup d s) :=
  (touchesO_ite (.next h) (.next (warmReset_touches (hm.of rfl) (fatalFault_touches (hm.of rfl) h))))

theorem execMortarTrained_touches {z : State} {msk : Nat} {d : Nat} {lat : Nat} {s : State} (hm : Sub
    0x100000000000000300004 msk) (h : Touches msk z s) : TouchesO msk z (execMortarTrained d lat s) :=
  (touchesO_ite (.next h) (.next (setRelease_touches (hm.of rfl) (foldl_touches (fun _ _ h1 => (setDomain_touches
    (hm.of rfl) h1)) (touches_ite (Touches.upD_linksFenced (hm.of rfl) h) (wr_touches (hm.of rfl)
    (Touches.upD_linksFenced (hm.of rfl) h)))))))

theorem execPcieReady_touches {z : State} {msk : Nat} {s : State} (hm : Sub 0xc800000000000000000004 msk) (h : Touches
    msk z s) : TouchesO msk z (execPcieReady s) :=
  (touchesO_ite (.next h) (.next (touches_ite (bootStart_touches (hm.of rfl) (Touches.upD_pcieUp (hm.of rfl) h))
    (Touches.upD_pcieUp (hm.of rfl) h))))

theorem execPkgWatchdogExpire_touches {z : State} {msk : Nat} {s : State} (hm : Sub 0xa2fe6fffcbfbf9fef7b704 msk) (h :
    Touches msk z s) : TouchesO msk z (execPkgWatchdogExpire s) :=
  (touchesO_ite (.next h) (.next (warmReset_touches (hm.of rfl) (safeStopNow_touches (hm.of rfl) (recordFault_touches
    (hm.of rfl) h)))))

theorem execPllLock_touches {z : State} {msk : Nat} {d : Nat} {p : Nat} {s : State} (hm : Sub 0x2000000000000101104
    msk) (h : Touches msk z s) : TouchesO msk z (execPllLock d p s) :=
  (touchesO_ite (.next h) (.next (touches_ite (setRelease_touches (hm.of rfl) (touches_ite (foldl_touches (fun _ _ h1
    => (laneStart_touches (hm.of rfl) h1)) (touches_ite (memWake_touches (hm.of rfl) (touches_ite (evt_touches (hm.of
    rfl) (wr_touches (hm.of rfl) (touches_ite (setClock_touches (hm.of rfl) h) h))) (wr_touches (hm.of rfl)
    (touches_ite (setClock_touches (hm.of rfl) h) h)))) (touches_ite (evt_touches (hm.of rfl) (wr_touches (hm.of rfl)
    (touches_ite (setClock_touches (hm.of rfl) h) h))) (wr_touches (hm.of rfl) (touches_ite (setClock_touches (hm.of
    rfl) h) h))))) (touches_ite (memWake_touches (hm.of rfl) (touches_ite (evt_touches (hm.of rfl) (wr_touches (hm.of
    rfl) (touches_ite (setClock_touches (hm.of rfl) h) h))) (wr_touches (hm.of rfl) (touches_ite (setClock_touches
    (hm.of rfl) h) h)))) (touches_ite (evt_touches (hm.of rfl) (wr_touches (hm.of rfl) (touches_ite (setClock_touches
    (hm.of rfl) h) h))) (wr_touches (hm.of rfl) (touches_ite (setClock_touches (hm.of rfl) h) h)))))) (touches_ite
    (foldl_touches (fun _ _ h1 => (laneStart_touches (hm.of rfl) h1)) (touches_ite (memWake_touches (hm.of rfl)
    (touches_ite (evt_touches (hm.of rfl) (wr_touches (hm.of rfl) (touches_ite (setClock_touches (hm.of rfl) h) h)))
    (wr_touches (hm.of rfl) (touches_ite (setClock_touches (hm.of rfl) h) h)))) (touches_ite (evt_touches (hm.of rfl)
    (wr_touches (hm.of rfl) (touches_ite (setClock_touches (hm.of rfl) h) h))) (wr_touches (hm.of rfl) (touches_ite
    (setClock_touches (hm.of rfl) h) h))))) (touches_ite (memWake_touches (hm.of rfl) (touches_ite (evt_touches (hm.of
    rfl) (wr_touches (hm.of rfl) (touches_ite (setClock_touches (hm.of rfl) h) h))) (wr_touches (hm.of rfl)
    (touches_ite (setClock_touches (hm.of rfl) h) h)))) (touches_ite (evt_touches (hm.of rfl) (wr_touches (hm.of rfl)
    (touches_ite (setClock_touches (hm.of rfl) h) h))) (wr_touches (hm.of rfl) (touches_ite (setClock_touches (hm.of
    rfl) h) h))))))))

theorem execPllLockLoss_touches {z : State} {msk : Nat} {d : Nat} {p : Nat} {s : State} (hm : Sub
    0x1a0100c1f9018215b104 msk) (h : Touches msk z s) : TouchesO msk z (execPllLockLoss d p s) :=
  (touchesO_ite (.next h) (touchesO_ite (.next (recordFault_touches (hm.of rfl) (touches_ite (setRelease_touches
    (hm.of rfl) (pllBypass_touches (hm.of rfl) h)) (pllBypass_touches (hm.of rfl) h)))) (.next (touches_ite
    (foldl_touches (fun _ _ h1 => (touches_ite h1 (laneDown_touches (hm.of rfl) h1))) (touches_ite
    (memSelfRefresh_touches (hm.of rfl) (clockStations_touches (hm.of rfl) (recordFault_touches (hm.of rfl)
    (touches_ite (setRelease_touches (hm.of rfl) (pllBypass_touches (hm.of rfl) h)) (pllBypass_touches (hm.of rfl)
    h))))) (clockStations_touches (hm.of rfl) (recordFault_touches (hm.of rfl) (touches_ite (setRelease_touches (hm.of
    rfl) (pllBypass_touches (hm.of rfl) h)) (pllBypass_touches (hm.of rfl) h)))))) (touches_ite
    (memSelfRefresh_touches (hm.of rfl) (clockStations_touches (hm.of rfl) (recordFault_touches (hm.of rfl)
    (touches_ite (setRelease_touches (hm.of rfl) (pllBypass_touches (hm.of rfl) h)) (pllBypass_touches (hm.of rfl)
    h))))) (clockStations_touches (hm.of rfl) (recordFault_touches (hm.of rfl) (touches_ite (setRelease_touches (hm.of
    rfl) (pllBypass_touches (hm.of rfl) h)) (pllBypass_touches (hm.of rfl) h)))))))))

theorem execPowerOn_touches {z : State} {msk : Nat} {s : State} (hm : Sub 0x1ffffffffcffbfffffff71e msk) (h : Touches
    msk z s) : TouchesO msk z (execPowerOn s) :=
  (.next (coldReset_touches (hm.of rfl) h))

theorem toPlls_touches {z : State} {msk : Nat} {d : Nat} {s : State} (hm : Sub 0x100004 msk) (h : Touches msk z s) :
    Touches msk z (toPlls d s) :=
  (setRelease_touches (hm.of rfl) (foldl_touches (fun _ _ h1 => (touches_ite (wr_touches (hm.of rfl) h1) h1)) h))

theorem execReferenceCheck_touches {z : State} {msk : Nat} {d : Nat} {ok : Bool} {s : State} (hm : Sub
    0x400000000000000180004 msk) (h : Touches msk z s) : TouchesO msk z (execReferenceCheck d ok s) :=
  (touchesO_ite (.next h) (touchesO_ite (.next (errHoldCheck_touches (hm.of rfl) (toPlls_touches (hm.of rfl)
    (wr_touches (hm.of rfl) (wr_touches (hm.of rfl) h)))))
    (by (try dsimp only); split <;> (try dsimp only); exacts [(.next (touches_ite (Touches.upD_errAonHold (hm.of rfl)
    h) h)), (.next h)])))

theorem execResetPin_touches {z : State} {msk : Nat} {ns : Nat} {s : State} (hm : Sub 0x1ffffffffcffbfffffff71e msk)
    (h : Touches msk z s) : TouchesO msk z (execResetPin ns s) :=
  (touchesO_ite (.next (coldReset_touches (hm.of rfl) h)) (touchesO_ite (.next h) (.next (touches_ite
    (coldReset_touches (hm.of rfl) (drawFree_touches (hm.of rfl) h)) (drawFree_touches (hm.of rfl) h)))))

theorem execStrapSample_touches {z : State} {msk : Nat} {boot : Nat} {clkm : Nat} {prof : Nat} {legacy : Bool} {s :
    State} (hm : Sub 0x400000000000000100006 msk) (h : Touches msk z s) : TouchesO msk z (execStrapSample boot clkm prof
    legacy s) :=
  (touchesO_ite (.next h) (.next (foldl_touches (fun _ _ h1 => (setRelease_touches (hm.of rfl) h1)) (foldl_touches
    (fun _ _ h1 => (foldl_touches (fun _ _ h2 => (strapRegs_touches (hm.of rfl) (putPageCtl_touches (hm.of rfl) h2)))
    h1)) (Touches.upD_straps_strapsAt (hm.of rfl) h)))))

theorem execVinTrip_touches {z : State} {msk : Nat} {code : Nat} {s : State} (hm : Sub 0x81800001800000045014 msk) (h
    : Touches msk z s) : TouchesO msk z (execVinTrip code s) :=
  (touchesO_ite (.next h) (.next (vinTrip_touches (hm.of rfl) (foldl_touches (fun _ _ h1 => (ageAbandon_touches (hm.of
    rfl) h1)) h))))

theorem execWarmResetRelease_touches {z : State} {msk : Nat} {d : Nat} {s : State} (hm : Sub 0x200000000000100004 msk)
    (h : Touches msk z s) : TouchesO msk z (execWarmResetRelease d s) :=
  (touchesO_ite (.next h) (.next (touches_ite (setRelease_touches (hm.of rfl) (setThermal_touches (hm.of rfl) h))
    (toPlls_touches (hm.of rfl) (setThermal_touches (hm.of rfl) h)))))

theorem setDog_touches {z : State} {msk : Nat} {i : Nat} {s : State} (hm : Sub 0x2000000000000000000000 msk) (h :
    Touches msk z s) : Touches msk z (setDog i s) :=
  (Touches.upD_dogs (hm.of rfl) h)

theorem softReset_touches {z : State} {msk : Nat} {d : Nat} {s : State} (hm : Sub 0xa2fe6fffcbfbf9fef7b704 msk) (h :
    Touches msk z s) : Touches msk z (softReset d s) :=
  (warmReset_touches (hm.of rfl) h)

end Sys2Proof.Machine
end

