-- ==== Sys2Proof/Laws/Resets.lean ====
section
/-! SUPPORT. What a warm reset leaves: the releases of the dies that it resets, the safe stop and the fenced dies. -/

namespace Sys2Proof.Machine

theorem setRelease_get (d : Nat) (r : Release) (s : State) : releaseOf d (setRelease d r s) = r := by
  unfold releaseOf setRelease; exact mapGet_set_same _ _ _ _

theorem setRelease_ne {d e : Nat} (r : Release) (s : State) (h : e ≠ d) : releaseOf e (setRelease d r s) = releaseOf e s := by
  unfold releaseOf setRelease; exact mapGet_set_other _ _ _ h

/-- The release of a die whose warm reset is asserted at time `t` (R532). -/
def warmRelease (pkg clock held : Bool) (t : Nat) (r : Release) : Release :=
  { phase := 0, pkg := pkg, due := t + 10000, held := held, refCheck := clock || (r.phase != 9 && r.refCheck) }

theorem assertWarm_same (d cause : Nat) (pkg clock held : Bool) (s : State) :
    releaseOf d (assertWarm d cause pkg clock held s) = warmRelease pkg clock held s.now (releaseOf d s) :=
  setRelease_get d _ _

theorem assertWarm_other {d e : Nat} (cause : Nat) (pkg clock held : Bool) (s : State) (h : e ≠ d) :
    releaseOf e (assertWarm d cause pkg clock held s) = releaseOf e s := by
  unfold assertWarm
  rw [setRelease_ne _ _ h]
  unfold releaseOf
  rw [((warmNoted_touches (Nat.and_self _) (Touches.refl _ _)).releases rfl : (warmNoted d cause (dieClear d s)).releases = _),
    ((dieClear_touches (Nat.and_self _) (Touches.refl _ _)).releases rfl : (dieClear d s).releases = _)]

theorem assertWarm_now (d cause : Nat) (pkg clock held : Bool) (s : State) :
    (assertWarm d cause pkg clock held s).now = s.now := (assertWarm_touches (Nat.and_self _) (Touches.refl _ _)).now rfl

theorem assertWarm_fold (cause : Nat) (clock : Bool) (l : List Nat) : ∀ (s : State), l.Nodup →
    (l.foldl (fun s d => assertWarm d cause true clock (releaseOf d s).held s) s).now = s.now ∧
    (∀ e ∈ l, releaseOf e (l.foldl (fun s d => assertWarm d cause true clock (releaseOf d s).held s) s) =
      warmRelease true clock (releaseOf e s).held s.now (releaseOf e s)) ∧
    ∀ e, e ∉ l → releaseOf e (l.foldl (fun s d => assertWarm d cause true clock (releaseOf d s).held s) s) = releaseOf e s := by
  induction l with
  | nil => intro s _; exact ⟨rfl, fun _ h => (nomatch h), fun _ _ => rfl⟩
  | cons x t ih =>
    intro s hn
    have hx := (List.nodup_cons.mp hn)
    obtain ⟨h1, h2, h3⟩ := ih (assertWarm x cause true clock (releaseOf x s).held s) hx.2
    rw [assertWarm_now] at h1 h2
    refine ⟨h1, fun e he => ?_, fun e he => ?_⟩
    · rw [List.foldl_cons]
      rcases List.mem_cons.mp he with rfl | he
      · rw [h3 _ hx.1, assertWarm_same]
      · have : e ≠ x := fun c => hx.1 (c ▸ he)
        rw [h2 e he, assertWarm_other _ _ _ _ _ this]
    · rw [List.foldl_cons, h3 e (fun c => he (List.mem_cons_of_mem _ c)),
        assertWarm_other _ _ _ _ _ (fun c => he (by subst c; exact List.mem_cons_self))]

theorem dieSafe_fold (l : List Nat) : ∀ s : State, (l.foldl (fun s d => dieSafe d s) s).releases = s.releases ∧
    (l.foldl (fun s d => dieSafe d s) s).now = s.now := by
  induction l with
  | nil => intro s; exact ⟨rfl, rfl⟩
  | cons x t ih =>
    intro s
    have h := ih (dieSafe x s)
    have k : Touches _ s (dieSafe x s) := dieSafe_touches (Nat.and_self _) (Touches.refl _ _)
    exact ⟨h.1.trans (k.releases rfl), h.2.trans (k.now rfl)⟩

/-- A warm reset of package scope holds every die in reset for 10 µs and ends safe stop and the fences of dies (R532, R533). -/
theorem warmReset_package {d cause : Nat} {pkg clock : Bool} {s : State} (hc : coldRunning s = false)
    (hp : (pkg || d == 0 || packageRunning s) = true) :
    (warmReset d cause pkg clock s).safeStop = false ∧
    (∀ e < s.dies, releaseOf e (warmReset d cause pkg clock s) =
      warmRelease true clock (releaseOf e s).held s.now (releaseOf e s)) ∧
    ∀ e, UnitId.die e ∉ (warmReset d cause pkg clock s).fenced := by
  unfold warmReset
  rw [if_pos hp]
  unfold warmPackage
  rw [if_neg (by rw [hc]; decide)]
  have hs := dieSafe_fold (List.range s.dies) s
  have hf := assertWarm_fold cause clock (List.range s.dies) ((List.range s.dies).foldl (fun s d => dieSafe d s) s)
    List.nodup_range
  rw [hs.2] at hf
  refine ⟨rfl, fun e he => ?_, fun e => ?_⟩
  · have := hf.2.1 e (List.mem_range.mpr he)
    unfold releaseOf at *
    rw [hs.1] at this
    exact this
  · intro hm
    have := (List.mem_filter.mp hm).2
    cases this

theorem clkFails_stand (x : List (Nat × Nat)) (s : State) : ({ s with clkFails := x } : State).now = s.now ∧
    ({ s with clkFails := x } : State).releases = s.releases := ⟨rfl, rfl⟩

/-- A warm reset of die scope (R532). -/
theorem warmReset_die {d cause : Nat} {clock : Bool} {s : State} (hc : coldRunning s = false) (h0 : d ≠ 0)
    (hr : packageRunning s = false) :
    releaseOf d (warmReset d cause false clock s) = warmRelease false clock false s.now (releaseOf d s) := by
  unfold warmReset
  rw [if_neg (by simp [h0, hr])]
  unfold warmDie
  rw [if_neg (by rw [hc]; decide), assertWarm_same]
  have k : Touches _ s (dieIsolate d s) := dieIsolate_touches (Nat.and_self _) (Touches.refl _ _)
  have g : ∀ u : State, u.now = s.now → u.releases = s.releases →
      warmRelease false clock false u.now (releaseOf d u) = warmRelease false clock false s.now (releaseOf d s) := by
    intro u h1 h2; unfold releaseOf; rw [h1, h2]
  split
  · exact g _ (clkFails_stand _ _).1 (clkFails_stand _ _).2
  · exact g _ ((clkFails_stand _ _).1.trans (k.now rfl)) ((clkFails_stand _ _).2.trans (k.releases rfl))

/-- What decides the scope of a warm reset is not changed by a fault. -/
theorem scope_congr {s t : State} (h : t.releases = s.releases) (hp : t.part = s.part) :
    coldRunning t = coldRunning s ∧ packageRunning t = packageRunning s := by
  unfold coldRunning packageRunning releaseOf State.dies
  rw [h, hp]; exact ⟨rfl, rfl⟩

end Sys2Proof.Machine
end

