-- ==== Sys2Proof/Laws/TouchesForce.lean ====
section
/-! SUPPORT. Which fields of the state every operation of Force may change. -/

namespace Sys2Proof.Machine

theorem busClampNow_touches {z : State} {msk : Nat} {d : Nat} {b : Nat} {s : State} (hm : Sub 0x1004 msk) (h : Touches
    msk z s) : Touches msk z (busClampNow d b s) :=
  (touches_ite h (evt_touches (hm.of rfl) (bump_touches (hm.of rfl) (wr_touches (hm.of rfl) (wr_touches (hm.of rfl)
    h)))))

theorem busTripNow_touches {z : State} {msk : Nat} {d : Nat} {b : Nat} {s : State} (hm : Sub 0x380000004b004 msk) (h :
    Touches msk z s) : Touches msk z (busTripNow d b s) :=
  (evt_touches (hm.of rfl) (busBrake_touches (hm.of rfl) (addFence_touches (hm.of rfl) (wr_touches (hm.of rfl)
    (busChannelsOff_touches (hm.of rfl) h)))))

theorem faultUnit_touches {z : State} {msk : Nat} {d : Nat} {p : Nat} {src : Nat} {u : UnitId} {forced : Bool} {s :
    State} (hm : Sub 0x1e0195cbf9eb8605f00c msk) (h : Touches msk z s) : Touches msk z (faultUnit d p src u forced s) :=
  (fenceUnit_touches (hm.of rfl) (recordFault_touches (hm.of rfl) h))

theorem selfError_touches {z : State} {msk : Nat} {d : Nat} {p : Nat} {src : Nat} {unit : Nat} {s : State} (hm : Sub
    0x1e8195cbf9eb8607f00c msk) (h : Touches msk z s) : Touches msk z (selfError d p src unit s) := by
  have e := Eq.refl @selfError; conv at e => rhs; delta selfError
  rw [e]
  (try dsimp only)
  split <;> (try dsimp only)
  exacts [(touches_ite (fatalFault_touches (hm.of rfl) h) (touches_ite (recordFault_touches (hm.of rfl) h) h)), (touches_ite (decodeFence_touches (hm.of rfl) (recordFault_touches (hm.of rfl) h)) (touches_ite (faultUnit_touches (hm.of rfl) h) (touches_ite (recordFault_touches (hm.of rfl) h) h))), (touches_ite (rasterFault_touches (hm.of rfl) h) h), (touches_ite (stationFault_touches (hm.of rfl) h) h), (touches_ite (stationFault_touches (hm.of rfl) h) h), (touches_ite (protFault_touches (hm.of rfl) h) h), (touches_ite (cueFence_touches (hm.of rfl) (recordFault_touches (hm.of rfl) h)) (touches_ite (recordFault_touches (hm.of rfl) h) h)), (touches_ite (faultUnit_touches (hm.of rfl) h) (touches_ite (recordFault_touches (hm.of rfl) h) h)), (touches_ite (recordFault_touches (hm.of rfl) h) h), (touches_ite (recordFault_touches (hm.of rfl) h) h), (touches_ite (touches_ite (touches_ite (recordFault_touches (hm.of rfl) h) (loopFence_touches (hm.of rfl) (recordFault_touches (hm.of rfl) h))) (foldl_touches (fun _ _ h1 => (loopFence_touches (hm.of rfl) h1)) (recordFault_touches (hm.of rfl) h))) (touches_ite (recordFault_touches (hm.of rfl) h) h)), (touches_ite (recordFault_touches (hm.of rfl) h) h), (touches_ite (recordFault_touches (hm.of rfl) h) h), (touches_ite (faultUnit_touches (hm.of rfl) h) (touches_ite (recordFault_touches (hm.of rfl) h) h)), (touches_ite (fatalFault_touches (hm.of rfl) h) h), (touches_ite (faultUnit_touches (hm.of rfl) h) (touches_ite (recordFault_touches (hm.of rfl) h) h)), (touches_ite (recordFault_touches (hm.of rfl) h) h), (touches_ite (recordFault_touches (hm.of rfl) (bump_touches (hm.of rfl) h)) (touches_ite (Touches.upD_nvBad (hm.of rfl) h) h)), h]

theorem execInternalError_touches {z : State} {msk : Nat} {d : Nat} {p : Nat} {src : Nat} {unit : Nat} {s : State} (hm
    : Sub 0x1e8195cbf9eb8607f00c msk) (h : Touches msk z s) : TouchesO msk z (execInternalError d p src unit s) :=
  (touchesO_ite (.next (selfError_touches (hm.of rfl) h)) (.next h))

theorem uncheckedCourse_touches {z : State} {msk : Nat} {k : Nat} {s : State} (hm : Sub 0x1004 msk) (h : Touches msk z
    s) : Touches msk z (uncheckedCourse k s) :=
  (evt_touches (hm.of rfl) (bump_touches (hm.of rfl) h))

theorem forceStation_touches {z : State} {msk : Nat} {k : Nat} {p : Nat} {src : Nat} {s : State} (hm : Sub
    0x180000c1f9018205b004 msk) (h : Touches msk z s) : Touches msk z (forceStation k p src s) := by
  have e := Eq.refl @forceStation; conv at e => rhs; delta forceStation
  rw [e]
  (try dsimp only)
  split <;> (try dsimp only)
  exacts [(stationFault_touches (hm.of rfl) (touches_ite (spoilImaging_touches (hm.of rfl) h) (touches_ite (uncheckedCourse_touches (hm.of rfl) (spoilImaging_touches (hm.of rfl) h)) h))), (touches_ite (stationFault_touches (hm.of rfl) (touches_ite (sendCause_touches (hm.of rfl) (spoilImaging_touches (hm.of rfl) h)) (spoilImaging_touches (hm.of rfl) h))) (stationFault_touches (hm.of rfl) (touches_ite (spoilImaging_touches (hm.of rfl) h) h))), (protFault_touches (hm.of rfl) h), (stationFault_touches (hm.of rfl) h)]

theorem forceFault_touches {z : State} {msk : Nat} {d : Nat} {p : Nat} {src : Nat} {s : State} (hm : Sub
    0xa2ffefffcbfbfbfef7f71c msk) (h : Touches msk z s) : Touches msk z (forceFault d p src s) := by
  have e := Eq.refl @forceFault; conv at e => rhs; delta forceFault
  rw [e]
  (try dsimp only)
  split <;> (try dsimp only)
  exacts [(touches_ite (touches_ite (degrade_touches (hm.of rfl) (recordFault_touches (hm.of rfl) h)) h) (touches_ite (fatalFault_touches (hm.of rfl) h) (recordFault_touches (hm.of rfl) h))), (laneFault_touches (hm.of rfl) h), (rasterFault_touches (hm.of rfl) h), (forceStation_touches (hm.of rfl) h), (forceStation_touches (hm.of rfl) h), (forceStation_touches (hm.of rfl) h), (forceStation_touches (hm.of rfl) h), (touches_ite (evt_touches (hm.of rfl) (wr_touches (hm.of rfl) (foldl_touches (fun _ _ h1 => (setHeater_touches (hm.of rfl) h1)) (recordFault_touches (hm.of rfl) h)))) (touches_ite (evt_touches (hm.of rfl) (hvSafe_touches (hm.of rfl) (recordFault_touches (hm.of rfl) h))) (recordFault_touches (hm.of rfl) h))), (touches_ite (faultUnit_touches (hm.of rfl) h) (recordFault_touches (hm.of rfl) h)), (touches_ite (faultUnit_touches (hm.of rfl) h) (recordFault_touches (hm.of rfl) h)), (touches_ite (busClampNow_touches (hm.of rfl) (recordFault_touches (hm.of rfl) h)) (touches_ite (busTripNow_touches (hm.of rfl) (recordFault_touches (hm.of rfl) h)) (recordFault_touches (hm.of rfl) h))), (recordFault_touches (hm.of rfl) h), (touches_ite (fatalFault_touches (hm.of rfl) h) (recordFault_touches (hm.of rfl) h)), (touches_ite (faultUnit_touches (hm.of rfl) h) (recordFault_touches (hm.of rfl) h)), (touches_ite (logVin_touches (hm.of rfl) (foldl_touches (fun _ _ h1 => (ageAbandon_touches (hm.of rfl) h1)) (recordFault_touches (hm.of rfl) h))) (recordFault_touches (hm.of rfl) h)), (touches_ite (fatalFault_touches (hm.of rfl) (spoilDie_touches (hm.of rfl) h)) (touches_ite (thermSet_touches (hm.of rfl) (recordFault_touches (hm.of rfl) h)) (touches_ite (evt_touches (hm.of rfl) (bump_touches (hm.of rfl) (wr_touches (hm.of rfl) (recordFault_touches (hm.of rfl) h)))) (touches_ite (criticalStop_touches (hm.of rfl) (recordFault_touches (hm.of rfl) h)) (recordFault_touches (hm.of rfl) h))))), (touches_ite (warmReset_touches (hm.of rfl) (fatalFault_touches (hm.of rfl) h)) (touches_ite (touches_ite (warmReset_touches (hm.of rfl) (safeStopNow_touches (hm.of rfl) (recordFault_touches (hm.of rfl) h))) h) (touches_ite (warmReset_touches (hm.of rfl) (fatalFault_touches (hm.of rfl) h)) (recordFault_touches (hm.of rfl) h)))), (touches_ite (Touches.upD_clkFails (hm.of rfl) (fatalFault_touches (hm.of rfl) (spoilDie_touches (hm.of rfl) h))) (touches_ite (clockStations_touches (hm.of rfl) (recordFault_touches (hm.of rfl) h)) (recordFault_touches (hm.of rfl) h))), (recordFault_touches (hm.of rfl) h)]

theorem forceBit_touches {z : State} {msk : Nat} {d : Nat} {p : Nat} {src : Nat} {s : State} (hm : Sub
    0xa2ffefffcbfbfbfef7f71c msk) (h : Touches msk z s) : Touches msk z (forceBit d p src s) :=
  (touches_ite h (touches_ite (evt_touches (hm.of rfl) h) (forceFault_touches (hm.of rfl) (bump_touches (hm.of rfl)
    h))))

theorem forceWord_touches {z : State} {msk : Nat} {d : Nat} {p : Nat} {w : Nat} {s : State} (hm : Sub
    0xa2ffefffcbfbfbfef7f71c msk) (h : Touches msk z s) : Touches msk z (forceWord d p w s) :=
  (foldl_touches (fun _ _ h1 => (forceBit_touches (hm.of rfl) h1)) h)

end Sys2Proof.Machine
end

