-- ==== Sys2Proof/Laws/TouchesRead.lean ====
section
/-! SUPPORT. Which fields of the state every operation of Read may change. -/

namespace Sys2Proof.Machine

theorem readEffect_touches {z : State} {msk : Nat} {d : Nat} {p : Nat} {o : Nat} {s : State} (hm : Sub
    0x200000c05100f6003004 msk) (h : Touches msk z s) : Touches msk z (readEffect d p o s) := by
  have e := Eq.refl @readEffect; conv at e => rhs; delta readEffect
  rw [e]
  (try dsimp only)
  split <;> (try dsimp only)
  exacts [(touches_ite (wr_touches (hm.of rfl) h) (touches_ite (wr_touches (hm.of rfl) h) (touches_ite (wr_touches (hm.of rfl) (wr_touches (hm.of rfl) h)) h))), (touches_ite (freedPop_touches (hm.of rfl) h) (touches_ite (spoilPop_touches (hm.of rfl) h) h)), (touches_ite (wr_touches (hm.of rfl) h) (touches_ite (purgePop_touches (hm.of rfl) h) h)), (touches_ite (markPop_touches (hm.of rfl) h) h), h]

theorem pageValue_touches {z : State} {msk : Nat} {a : Sys2Proof.Access} {d : Nat} {p : Nat} {o : Nat} {s : State} (hm
    : Sub 0x200000c05100f6003004 msk) (h : Touches msk z s) : Touches msk z (pageValue a d p o s).2 := by
  have e := Eq.refl @pageValue; conv at e => rhs; delta pageValue
  rw [e]
  (try dsimp only)
  split <;> (try dsimp only)
  exacts [h, (by (try dsimp only); split <;> (try dsimp only); exacts [h, (touches_ite1 h (touches_ite1 h (touches_ite1 h (touches_ite1 h (readEffect_touches (hm.of rfl) h)))))])]

theorem windowValue_touches {z : State} {msk : Nat} {a : Sys2Proof.Access} {d : Nat} {o : Nat} {s : State} (hm : Sub
    0x1800000041004 msk) (h : Touches msk z s) : Touches msk z (windowValue a d o s).2 :=
  (touches_ite1 h (touches_ite1 (nvReadChecked_touches (hm.of rfl) h) h))

theorem readReg_touches {z : State} {msk : Nat} {a : Sys2Proof.Access} {off : Nat} {s : State} (hm : Sub
    0x200000c1d100f6043004 msk) (h : Touches msk z s) : Touches msk z (readReg a off s).2 :=
  (touches_ite1 h (touches_ite1 (accErr_touches (hm.of rfl) h) (touches_ite1 h (touches_ite1 (windowValue_touches
    (hm.of rfl) h) (pageValue_touches (hm.of rfl) h)))))

theorem readBack_touches {z : State} {msk : Nat} {a : Sys2Proof.Access} {off : Nat} {s : State} (hm : Sub
    0x200000c1d100f6043804 msk) (h : Touches msk z s) : Touches msk z (readBack a off s) :=
  (Touches.upD_resp (hm.of rfl) (readReg_touches (hm.of rfl) h))

end Sys2Proof.Machine
end

