-- ==== Sys2Proof/Laws/TouchesStore.lean ====
section
/-! SUPPORT. Which fields of the state every operation of Store may change. -/

namespace Sys2Proof.Machine

theorem RegWrite.store_touches {z : State} {msk : Nat} {w : RegWrite} {s : State} (hm : Sub 0x4 msk) (h : Touches msk
    z s) : Touches msk z (RegWrite.store w s) :=
  (putWord_touches (hm.of rfl) h)

theorem RegWrite.storeClears_touches {z : State} {msk : Nat} {w : RegWrite} {s : State} (hm : Sub 0x4 msk) (h :
    Touches msk z s) : Touches msk z (RegWrite.storeClears w s) :=
  (touches_ite h (putWord_touches (hm.of rfl) h))

theorem pageCtlWrite_touches {z : State} {msk : Nat} {w : RegWrite} {s : State} (hm : Sub 0x20fe6fffcbfbfffee5f32c
    msk) (h : Touches msk z s) : Touches msk z (pageCtlWrite w s) :=
  (touches_ite h (touches_ite (powerLook_touches (hm.of rfl) (touches_ite (blockEnable_touches (hm.of rfl)
    (touches_ite (unfencePage_touches (hm.of rfl) (touches_ite (fencePage_touches (hm.of rfl) (touches_ite
    (pageSrst_touches (hm.of rfl) (wr_touches (hm.of rfl) (wr_touches (hm.of rfl) h))) (wr_touches (hm.of rfl)
    (wr_touches (hm.of rfl) h)))) (touches_ite (pageSrst_touches (hm.of rfl) (wr_touches (hm.of rfl) (wr_touches
    (hm.of rfl) h))) (wr_touches (hm.of rfl) (wr_touches (hm.of rfl) h))))) (touches_ite (fencePage_touches (hm.of
    rfl) (touches_ite (pageSrst_touches (hm.of rfl) (wr_touches (hm.of rfl) (wr_touches (hm.of rfl) h))) (wr_touches
    (hm.of rfl) (wr_touches (hm.of rfl) h)))) (touches_ite (pageSrst_touches (hm.of rfl) (wr_touches (hm.of rfl)
    (wr_touches (hm.of rfl) h))) (wr_touches (hm.of rfl) (wr_touches (hm.of rfl) h)))))) (touches_ite
    (unfencePage_touches (hm.of rfl) (touches_ite (fencePage_touches (hm.of rfl) (touches_ite (pageSrst_touches (hm.of
    rfl) (wr_touches (hm.of rfl) (wr_touches (hm.of rfl) h))) (wr_touches (hm.of rfl) (wr_touches (hm.of rfl) h))))
    (touches_ite (pageSrst_touches (hm.of rfl) (wr_touches (hm.of rfl) (wr_touches (hm.of rfl) h))) (wr_touches (hm.of
    rfl) (wr_touches (hm.of rfl) h))))) (touches_ite (fencePage_touches (hm.of rfl) (touches_ite (pageSrst_touches
    (hm.of rfl) (wr_touches (hm.of rfl) (wr_touches (hm.of rfl) h))) (wr_touches (hm.of rfl) (wr_touches (hm.of rfl)
    h)))) (touches_ite (pageSrst_touches (hm.of rfl) (wr_touches (hm.of rfl) (wr_touches (hm.of rfl) h))) (wr_touches
    (hm.of rfl) (wr_touches (hm.of rfl) h))))))) (touches_ite (blockEnable_touches (hm.of rfl) (touches_ite
    (unfencePage_touches (hm.of rfl) (touches_ite (fencePage_touches (hm.of rfl) (touches_ite (pageSrst_touches (hm.of
    rfl) (wr_touches (hm.of rfl) (wr_touches (hm.of rfl) h))) (wr_touches (hm.of rfl) (wr_touches (hm.of rfl) h))))
    (touches_ite (pageSrst_touches (hm.of rfl) (wr_touches (hm.of rfl) (wr_touches (hm.of rfl) h))) (wr_touches (hm.of
    rfl) (wr_touches (hm.of rfl) h))))) (touches_ite (fencePage_touches (hm.of rfl) (touches_ite (pageSrst_touches
    (hm.of rfl) (wr_touches (hm.of rfl) (wr_touches (hm.of rfl) h))) (wr_touches (hm.of rfl) (wr_touches (hm.of rfl)
    h)))) (touches_ite (pageSrst_touches (hm.of rfl) (wr_touches (hm.of rfl) (wr_touches (hm.of rfl) h))) (wr_touches
    (hm.of rfl) (wr_touches (hm.of rfl) h)))))) (touches_ite (unfencePage_touches (hm.of rfl) (touches_ite
    (fencePage_touches (hm.of rfl) (touches_ite (pageSrst_touches (hm.of rfl) (wr_touches (hm.of rfl) (wr_touches
    (hm.of rfl) h))) (wr_touches (hm.of rfl) (wr_touches (hm.of rfl) h)))) (touches_ite (pageSrst_touches (hm.of rfl)
    (wr_touches (hm.of rfl) (wr_touches (hm.of rfl) h))) (wr_touches (hm.of rfl) (wr_touches (hm.of rfl) h)))))
    (touches_ite (fencePage_touches (hm.of rfl) (touches_ite (pageSrst_touches (hm.of rfl) (wr_touches (hm.of rfl)
    (wr_touches (hm.of rfl) h))) (wr_touches (hm.of rfl) (wr_touches (hm.of rfl) h)))) (touches_ite (pageSrst_touches
    (hm.of rfl) (wr_touches (hm.of rfl) (wr_touches (hm.of rfl) h))) (wr_touches (hm.of rfl) (wr_touches (hm.of rfl)
    h))))))))

theorem lineMessages_touches {z : State} {msk : Nat} {rq : Sys2Proof.Requester} {d : Nat} {p : Nat} {evtBefore : Bool}
    {fltBefore : Bool} {s : State} (hm : Sub 0x1004 msk) (h : Touches msk z s) : Touches msk z (lineMessages rq d p
    evtBefore fltBefore s) :=
  (touches_ite (signalLine_touches (hm.of rfl) (touches_ite (signalLine_touches (hm.of rfl) h) h)) (touches_ite
    (signalLine_touches (hm.of rfl) h) h))

theorem lineWrite_touches {z : State} {msk : Nat} {w : RegWrite} {f : State → State} {s : State} (hm : Sub 0x1004 msk)
    (hf0 : ∀ t, Touches msk z t → Touches msk z (f t)) (h : Touches msk z s) : Touches msk z (lineWrite w f s) :=
  (lineMessages_touches (hm.of rfl) (putWord_touches (hm.of rfl) (hf0 _ h)))

theorem recordClear_touches {z : State} {msk : Nat} {w : RegWrite} {s : State} (hm : Sub 0x4 msk) (h : Touches msk z
    s) : Touches msk z (recordClear w s) :=
  (touches_ite (putWord_touches (hm.of rfl) (putWord_touches (hm.of rfl) h)) h)

theorem headerWrite_touches {z : State} {msk : Nat} {w : RegWrite} {s : State} (hm : Sub 0xa2ffefffcbfbfffef7f73c msk)
    (h : Touches msk z s) : Touches msk z (headerWrite w s) :=
  (touches_ite (pageCtlWrite_touches (hm.of rfl) h) (touches_ite (lineWrite_touches (hm.of rfl) (fun _ h1 =>
    (RegWrite.store_touches (hm.of rfl) h1)) h) (touches_ite (evtMask_touches (hm.of rfl) h) (touches_ite
    (forceWord_touches (hm.of rfl) h) (touches_ite (recordClear_touches (hm.of rfl) h) (RegWrite.store_touches (hm.of
    rfl) h))))))

theorem headerWriteFenced_touches {z : State} {msk : Nat} {w : RegWrite} {s : State} (hm : Sub 0x16010101810000059024
    msk) (h : Touches msk z s) : Touches msk z (headerWriteFenced w s) :=
  (touches_ite (touches_ite (unfencePage_touches (hm.of rfl) h) h) (touches_ite (lineWrite_touches (hm.of rfl) (fun _
    h1 => (RegWrite.storeClears_touches (hm.of rfl) h1)) h) (touches_ite (recordClear_touches (hm.of rfl) h) h)))

end Sys2Proof.Machine
end

