-- ==== Sys2Proof/Laws/TouchesAccess.lean ====
section
/-! SUPPORT. Which fields of the state every operation of Access may change. -/

namespace Sys2Proof.Machine

theorem stationTableWrite_touches {z : State} {msk : Nat} {k : Nat} {o : Nat} {v : Sys2Proof.Word} {s : State} (hm :
    Sub 0x1004 msk) (h : Touches msk z s) : Touches msk z (stationTableWrite k o v s) :=
  (touches_ite (touches_ite (stationRefuse_touches (hm.of rfl) h) (putWord_touches (hm.of rfl) h)) (touches_ite
    (touches_ite (stationRefuse_touches (hm.of rfl) h) (putWord_touches (hm.of rfl) h)) (touches_ite (touches_ite
    (stationRefuse_touches (hm.of rfl) h) (putWord_touches (hm.of rfl) h)) (touches_ite (touches_ite
    (stationRefuse_touches (hm.of rfl) h) (facetUpdate_touches (hm.of rfl) (putWord_touches (hm.of rfl) h)))
    (touches_ite (stationRefuse_touches (hm.of rfl) h) (putWord_touches (hm.of rfl) h))))))

theorem loopTableWrite_touches {z : State} {msk : Nat} {d : Nat} {o : Nat} {v : Sys2Proof.Word} {s : State} (hm : Sub
    0x1004 msk) (h : Touches msk z s) : Touches msk z (loopTableWrite d o v s) :=
  (touches_ite (evt_touches (hm.of rfl) h) (putWord_touches (hm.of rfl) h))

theorem msixWrite_touches {z : State} {msk : Nat} {o : Nat} {v : Sys2Proof.Word} {s : State} (hm : Sub 0x1004 msk) (h
    : Touches msk z s) : Touches msk z (msixWrite o v s) :=
  (touches_ite h (touches_ite (signalVector_touches (hm.of rfl) (putWord_touches (hm.of rfl) (putWord_touches (hm.of
    rfl) h))) (putWord_touches (hm.of rfl) h)))

theorem windowWrite_touches {z : State} {msk : Nat} {rq : Sys2Proof.Requester} {d : Nat} {o : Nat} {v :
    Sys2Proof.Word} {s : State} (hm : Sub 0x1014 msk) (h : Touches msk z s) : Touches msk z (windowWrite rq d o v s) := by
  have e := Eq.refl @windowWrite; conv at e => rhs; delta windowWrite
  rw [e]
  (try dsimp only)
  split <;> (try dsimp only)
  exacts [(stationTableWrite_touches (hm.of rfl) h), (stationTableWrite_touches (hm.of rfl) h), (touches_ite (cueError_touches (hm.of rfl) h) (putWord_touches (hm.of rfl) h)), (loopTableWrite_touches (hm.of rfl) h), (loopTableWrite_touches (hm.of rfl) h), (touches_ite (putWord_touches (hm.of rfl) h) h), (nvHostWrite_touches (hm.of rfl) h), (nvHostWrite_touches (hm.of rfl) h), (msixWrite_touches (hm.of rfl) h), (putWord_touches (hm.of rfl) h)]

theorem dieWrite_touches {z : State} {msk : Nat} {w : RegWrite} {s : State} (hm : Sub 0x4 msk) (h : Touches msk z s) :
    Touches msk z (dieWrite w s) :=
  (touches_ite (wr_touches (hm.of rfl) (RegWrite.store_touches (hm.of rfl) h)) (RegWrite.store_touches (hm.of rfl) h))

theorem ctrlWrite_touches {z : State} {msk : Nat} {w : RegWrite} {s : State} (hm : Sub 0x803004 msk) (h : Touches msk
    z s) : Touches msk z (ctrlWrite w s) :=
  (touches_ite (touches_ite (xtxnAbort_touches (hm.of rfl) (touches_ite (xtxnGo_touches (hm.of rfl) h) h))
    (touches_ite (xtxnGo_touches (hm.of rfl) h) h)) (touches_ite (touches_ite (signalVector_touches (hm.of rfl)
    (RegWrite.store_touches (hm.of rfl) h)) (RegWrite.store_touches (hm.of rfl) h)) (RegWrite.store_touches (hm.of
    rfl) h)))

theorem txnWrite_touches {z : State} {msk : Nat} {w : RegWrite} {i : Nat} {s : State} (hm : Sub 0x1800000443004 msk)
    (h : Touches msk z s) : Touches msk z (txnWrite w i s) :=
  (touches_ite (slotCtl_touches (hm.of rfl) h) (touches_ite (accErr_touches (hm.of rfl) h) (RegWrite.store_touches
    (hm.of rfl) h)))

theorem dogWrite_touches {z : State} {msk : Nat} {w : RegWrite} {en : Sys2Proof.Loc} {lock : Sys2Proof.Loc} {i : Nat}
    {s : State} (hm : Sub 0x2000000000000000000004 msk) (h : Touches msk z s) : Touches msk z (dogWrite w en lock i s)
    :=
  (touches_ite h (touches_ite (setDog_touches (hm.of rfl) (RegWrite.store_touches (hm.of rfl) h))
    (RegWrite.store_touches (hm.of rfl) h)))

theorem fusePgm_touches {z : State} {msk : Nat} {w : RegWrite} {s : State} (hm : Sub 0x4 msk) (h : Touches msk z s) :
    Touches msk z (fusePgm w s) :=
  (touches_ite h (touches_ite (wr_touches (hm.of rfl) (touches_ite (wr_touches (hm.of rfl) h) h)) (touches_ite
    (wr_touches (hm.of rfl) h) h)))

theorem rstWrite_touches {z : State} {msk : Nat} {w : RegWrite} {s : State} (hm : Sub 0xa2fe6fffcbfbf9fef7b704 msk) (h
    : Touches msk z s) : Touches msk z (rstWrite w s) :=
  (touches_ite (touches_ite (softReset_touches (hm.of rfl) (RegWrite.store_touches (hm.of rfl) h))
    (RegWrite.store_touches (hm.of rfl) h)) (touches_ite (dogWrite_touches (hm.of rfl) h) (touches_ite (touches_ite
    (setDog_touches (hm.of rfl) h) h) (touches_ite (dogWrite_touches (hm.of rfl) h) (touches_ite (touches_ite
    (setDog_touches (hm.of rfl) h) h) (touches_ite (fusePgm_touches (hm.of rfl) h) (touches_ite (touches_ite
    (putWord_touches (hm.of rfl) h) h) (RegWrite.store_touches (hm.of rfl) h))))))))

theorem seqWrite_touches {z : State} {msk : Nat} {w : RegWrite} {s : State} (hm : Sub 0x80001800000041004 msk) (h :
    Touches msk z s) : Touches msk z (seqWrite w s) :=
  (touches_ite (railClear_touches (hm.of rfl) h) (touches_ite (evt_touches (hm.of rfl) h) (RegWrite.store_touches
    (hm.of rfl) h)))

theorem thermWrite_touches {z : State} {msk : Nat} {w : RegWrite} {s : State} (hm : Sub 0x1004 msk) (h : Touches msk z
    s) : Touches msk z (thermWrite w s) :=
  (touches_ite (evt_touches (hm.of rfl) h) (RegWrite.store_touches (hm.of rfl) h))

theorem nvsWrite_touches {z : State} {msk : Nat} {w : RegWrite} {s : State} (hm : Sub 0x1800000000004 msk) (h :
    Touches msk z s) : Touches msk z (nvsWrite w s) :=
  (touches_ite (touches_ite (logTrigger_touches (hm.of rfl) h) h) (RegWrite.store_touches (hm.of rfl) h))

theorem laneWrite_touches {z : State} {msk : Nat} {w : RegWrite} {n : Nat} {s : State} (hm : Sub
    0x12010000000000001004 msk) (h : Touches msk z s) : Touches msk z (laneWrite w n s) :=
  (touches_ite (touches_ite (RegWrite.store_touches (hm.of rfl) h) (evt_touches (hm.of rfl) (wr_touches (hm.of rfl)
    (RegWrite.store_touches (hm.of rfl) h)))) (touches_ite (laneCtl_touches (hm.of rfl) (RegWrite.store_touches (hm.of
    rfl) h)) (touches_ite (touches_ite (evt_touches (hm.of rfl) h) (RegWrite.store_touches (hm.of rfl) h))
    (RegWrite.store_touches (hm.of rfl) h))))

theorem rlnkWrite_touches {z : State} {msk : Nat} {w : RegWrite} {s : State} (hm : Sub 0x14000000000000001004 msk) (h
    : Touches msk z s) : Touches msk z (rlnkWrite w s) :=
  (touches_ite (rasterForm_touches (hm.of rfl) (touches_ite (wr_touches (hm.of rfl) (RegWrite.store_touches (hm.of
    rfl) h)) (RegWrite.store_touches (hm.of rfl) h))) (touches_ite (touches_ite h (routeWrite_touches (hm.of rfl) h))
    (touches_ite (creditCheck_touches (hm.of rfl) h (RegWrite.store_touches (hm.of rfl) h)) (RegWrite.store_touches
    (hm.of rfl) h))))

theorem elnkWrite_touches {z : State} {msk : Nat} {w : RegWrite} {s : State} (hm : Sub 0x10001800000041024 msk) (h :
    Touches msk z s) : Touches msk z (elnkWrite w s) :=
  (touches_ite (RegWrite.store_touches (hm.of rfl) h) (touches_ite (ethEnable_touches (hm.of rfl)
    (RegWrite.store_touches (hm.of rfl) h)) (touches_ite (txKick_touches (hm.of rfl) h) (touches_ite (touches_ite
    (rxKick_touches (hm.of rfl) h) h) (touches_ite h (RegWrite.store_touches (hm.of rfl) h))))))

theorem timeWrite_touches {z : State} {msk : Nat} {w : RegWrite} {s : State} (hm : Sub 0x204 msk) (h : Touches msk z
    s) : Touches msk z (timeWrite w s) :=
  (touches_ite (touches_ite h (timeIncr_touches (hm.of rfl) (RegWrite.store_touches (hm.of rfl) h))) (touches_ite
    (touches_ite h (timeAdj_touches (hm.of rfl) h)) (touches_ite (touches_ite (timeSet_touches (hm.of rfl) h) h)
    (RegWrite.store_touches (hm.of rfl) h))))

theorem memcWrite_touches {z : State} {msk : Nat} {w : RegWrite} {s : State} (hm : Sub 0x4 msk) (h : Touches msk z s)
    : Touches msk z (memcWrite w s) :=
  (touches_ite (touches_ite (memInit_touches (hm.of rfl) h) h) (touches_ite (onlyIf_touches (fun _ h1 =>
    (memFitted_touches (hm.of rfl) h1)) (RegWrite.store_touches (hm.of rfl) h)) (RegWrite.store_touches (hm.of rfl)
    h)))

theorem dmaWrite_touches {z : State} {msk : Nat} {w : RegWrite} {s : State} (hm : Sub 0x1800a0004d02c msk) (h :
    Touches msk z s) : Touches msk z (dmaWrite w s) :=
  (touches_ite (touches_ite (evt_touches (hm.of rfl) h) (RegWrite.store_touches (hm.of rfl) h)) (touches_ite
    (touches_ite (touches_ite (unfence_touches (hm.of rfl) h) h) (dmaCtl_touches (hm.of rfl) (RegWrite.store_touches
    (hm.of rfl) h))) (RegWrite.store_touches (hm.of rfl) (onlyIf_touches (fun _ h1 => (dmaSettle_touches (hm.of rfl)
    h1)) h))))

theorem codecWrite_touches {z : State} {msk : Nat} {w : RegWrite} {s : State} (hm : Sub 0x1e00000d00c msk) (h :
    Touches msk z s) : Touches msk z (codecWrite w s) :=
  (touches_ite (codecUnfence_touches (hm.of rfl) h) (touches_ite (jobAbort_touches (hm.of rfl) h)
    (RegWrite.store_touches (hm.of rfl) h)))

theorem frameWrite_touches {z : State} {msk : Nat} {w : RegWrite} {s : State} (hm : Sub 0xc1f903ff04700c msk) (h :
    Touches msk z s) : Touches msk z (frameWrite w s) :=
  (touches_ite (leadCheckAll_touches (hm.of rfl) (RegWrite.store_touches (hm.of rfl) h)) (touches_ite
    (frameSubmit_touches (hm.of rfl) h) (touches_ite (touches_ite h (RegWrite.store_touches (hm.of rfl) h))
    (touches_ite (touches_ite (reprintGo_touches (hm.of rfl) (RegWrite.store_touches (hm.of rfl) h))
    (RegWrite.store_touches (hm.of rfl) h)) (touches_ite (frameRelease_touches (hm.of rfl) h) (touches_ite
    (frameAbort_touches (hm.of rfl) h) (touches_ite (resCtl_touches (hm.of rfl) h) (RegWrite.store_touches (hm.of rfl)
    h))))))))

theorem staWrite_touches {z : State} {msk : Nat} {w : RegWrite} {l : Nat} {s : State} (hm : Sub 0x18000040000000001004
    msk) (h : Touches msk z s) : Touches msk z (staWrite w l s) :=
  (touches_ite (touches_ite (stationRefuse_touches (hm.of rfl) h) (ledAcquire_touches (hm.of rfl)
    (selectionChanged_touches (hm.of rfl) (dutyResize_touches (hm.of rfl) (reachUpdate_touches (hm.of rfl)
    (RegWrite.store_touches (hm.of rfl) h)))))) (touches_ite (rwsChanged_touches (hm.of rfl) (RegWrite.store_touches
    (hm.of rfl) h)) (touches_ite (rwsChanged_touches (hm.of rfl) (touches_ite (RegWrite.store_touches (hm.of rfl) h)
    (touches_ite (stationRefuse_touches (hm.of rfl) (wr_touches (hm.of rfl) (RegWrite.store_touches (hm.of rfl) h)))
    (reachUpdate_touches (hm.of rfl) (RegWrite.store_touches (hm.of rfl) h))))) (touches_ite (touches_ite
    (stationRefuse_touches (hm.of rfl) h) (RegWrite.store_touches (hm.of rfl) h)) (touches_ite (touches_ite
    (stationRefuse_touches (hm.of rfl) h) (facetUpdate_touches (hm.of rfl) (RegWrite.store_touches (hm.of rfl) h)))
    (RegWrite.store_touches (hm.of rfl) h))))))

theorem stimWrite_touches {z : State} {msk : Nat} {w : RegWrite} {l : Nat} {s : State} (hm : Sub
    0x180000c1f9018205b004 msk) (h : Touches msk z s) : Touches msk z (stimWrite w l s) :=
  (touches_ite (stationRefuse_touches (hm.of rfl) h) (touches_ite (timingRun_touches (hm.of rfl)
    (RegWrite.store_touches (hm.of rfl) h)) (touches_ite (linChanged_touches (hm.of rfl) (rwsChanged_touches (hm.of
    rfl) (RegWrite.store_touches (hm.of rfl) h))) (RegWrite.store_touches (hm.of rfl) h))))

theorem shlWrite_touches {z : State} {msk : Nat} {w : RegWrite} {l : Nat} {s : State} (hm : Sub 0x18000001800000045004
    msk) (h : Touches msk z s) : Touches msk z (shlWrite w l s) :=
  (touches_ite (trimGo_touches (hm.of rfl) (RegWrite.store_touches (hm.of rfl) h)) (touches_ite (headcfgGo_touches
    (hm.of rfl) (RegWrite.store_touches (hm.of rfl) h)) (RegWrite.store_touches (hm.of rfl) h)))

theorem sprotWrite_touches {z : State} {msk : Nat} {w : RegWrite} {l : Nat} {s : State} (hm : Sub 0x1004 msk) (h :
    Touches msk z s) : Touches msk z (sprotWrite w l s) :=
  (touches_ite (lenUpdate_touches (hm.of rfl) (touches_ite (rearmLatches_touches (hm.of rfl) (RegWrite.store_touches
    (hm.of rfl) h)) (RegWrite.store_touches (hm.of rfl) h))) (RegWrite.store_touches (hm.of rfl) h))

theorem cueWrite_touches {z : State} {msk : Nat} {w : RegWrite} {s : State} (hm : Sub 0x184000403a000000d004 msk) (h :
    Touches msk z s) : Touches msk z (cueWrite w s) :=
  (touches_ite (cueCtl_touches (hm.of rfl) h) (touches_ite (touches_ite (posAdjust_touches (hm.of rfl) h) h)
    (touches_ite (pathEnable_touches (hm.of rfl) (RegWrite.store_touches (hm.of rfl) h)) (touches_ite (pathCtl_touches
    (hm.of rfl) h) (RegWrite.store_touches (hm.of rfl) h)))))

theorem stepWrite_touches {z : State} {msk : Nat} {w : RegWrite} {s : State} (hm : Sub 0x8000000009004 msk) (h :
    Touches msk z s) : Touches msk z (stepWrite w s) := by
  have e := Eq.refl @stepWrite; conv at e => rhs; delta stepWrite
  rw [e]
  (try dsimp only)
  split <;> (try dsimp only)
  exacts [(stepClampV_touches (hm.of rfl) (RegWrite.store_touches (hm.of rfl) h)), (stepEnable_touches (hm.of rfl) (RegWrite.store_touches (hm.of rfl) h)), (touches_ite (stepLimits_touches (hm.of rfl) (stepClampV_touches (hm.of rfl) (RegWrite.store_touches (hm.of rfl) h))) (stepClampV_touches (hm.of rfl) (RegWrite.store_touches (hm.of rfl) h))), (touches_ite (stepLimits_touches (hm.of rfl) (RegWrite.store_touches (hm.of rfl) h)) (RegWrite.store_touches (hm.of rfl) h)), (touches_ite (stepLimits_touches (hm.of rfl) (RegWrite.store_touches (hm.of rfl) h)) (RegWrite.store_touches (hm.of rfl) h)), (touches_ite (wr_touches (hm.of rfl) (RegWrite.store_touches (hm.of rfl) h)) (RegWrite.store_touches (hm.of rfl) h)), (touches_ite (touches_ite (unfence_touches (hm.of rfl) h) h) (stepCtl_touches (hm.of rfl) h)), (touches_ite (RegWrite.store_touches (hm.of rfl) h) (stepRefuse_touches (hm.of rfl) h)), (RegWrite.store_touches (hm.of rfl) h)]

theorem focWrite_touches {z : State} {msk : Nat} {w : RegWrite} {s : State} (hm : Sub 0x2000000009004 msk) (h :
    Touches msk z s) : Touches msk z (focWrite w s) :=
  (touches_ite (RegWrite.store_touches (hm.of rfl) h) (touches_ite (touches_ite (RegWrite.store_touches (hm.of rfl) h)
    (evt_touches (hm.of rfl) h)) (touches_ite (touches_ite (touches_ite (unfence_touches (hm.of rfl) h) h)
    (touches_ite (RegWrite.store_touches (hm.of rfl) h) (focOff_touches (hm.of rfl) (RegWrite.store_touches (hm.of
    rfl) h)))) (RegWrite.store_touches (hm.of rfl) h))))

theorem busWrite_touches {z : State} {msk : Nat} {w : RegWrite} {s : State} (hm : Sub 0x9004 msk) (h : Touches msk z
    s) : Touches msk z (busWrite w s) :=
  (touches_ite (touches_ite (RegWrite.store_touches (hm.of rfl) h) (evt_touches (hm.of rfl) h)) (touches_ite
    (touches_ite (touches_ite (busUnfence_touches (hm.of rfl) h) h) (touches_ite (wr_touches (hm.of rfl)
    (busBrake_touches (hm.of rfl) (RegWrite.store_touches (hm.of rfl) h))) (busBrake_touches (hm.of rfl)
    (RegWrite.store_touches (hm.of rfl) h)))) (RegWrite.store_touches (hm.of rfl) h)))

theorem loopWrite_touches {z : State} {msk : Nat} {w : RegWrite} {s : State} (hm : Sub 0x9502000000009004 msk) (h :
    Touches msk z s) : Touches msk z (loopWrite w s) :=
  (touches_ite (loopCtl_touches (hm.of rfl) h) (RegWrite.store_touches (hm.of rfl) h))

theorem pioWrite_touches {z : State} {msk : Nat} {w : RegWrite} {s : State} (hm : Sub 0xc000950380000004b004 msk) (h :
    Touches msk z s) : Touches msk z (pioWrite w s) :=
  (touches_ite (touches_ite (wr_touches (hm.of rfl) (RegWrite.store_touches (hm.of rfl) h)) (RegWrite.store_touches
    (hm.of rfl) h)) (touches_ite (hvJudge_touches (hm.of rfl) (RegWrite.store_touches (hm.of rfl) h)) (touches_ite
    (touches_ite h (ageCtl_touches (hm.of rfl) (RegWrite.store_touches (hm.of rfl) h))) (touches_ite (calGo_touches
    (hm.of rfl) (RegWrite.store_touches (hm.of rfl) h)) (RegWrite.store_touches (hm.of rfl) h)))))

theorem gpioRegWrite_touches {z : State} {msk : Nat} {w : RegWrite} {s : State} (hm : Sub 0x4 msk) (h : Touches msk z
    s) : Touches msk z (gpioRegWrite w s) :=
  (touches_ite (gpioWrite_touches (hm.of rfl) h) (touches_ite (gpioSet_touches (hm.of rfl) h) (touches_ite
    (gpioClr_touches (hm.of rfl) h) (RegWrite.store_touches (hm.of rfl) h))))

theorem blockWrite_touches {z : State} {msk : Nat} {w : RegWrite} {s : State} (hm : Sub 0xa2fe6fffcbfbfbfff7f72c msk)
    (h : Touches msk z s) : Touches msk z (blockWrite w s) := by
  have e := Eq.refl @blockWrite; conv at e => rhs; delta blockWrite
  rw [e]
  (try dsimp only)
  split <;> (try dsimp only)
  exacts [(dieWrite_touches (hm.of rfl) h), (ctrlWrite_touches (hm.of rfl) h), (txnWrite_touches (hm.of rfl) h), (rstWrite_touches (hm.of rfl) h), (seqWrite_touches (hm.of rfl) h), (thermWrite_touches (hm.of rfl) h), (nvsWrite_touches (hm.of rfl) h), (laneWrite_touches (hm.of rfl) h), (rlnkWrite_touches (hm.of rfl) h), (elnkWrite_touches (hm.of rfl) h), (timeWrite_touches (hm.of rfl) h), (memcWrite_touches (hm.of rfl) h), (dmaWrite_touches (hm.of rfl) h), (codecWrite_touches (hm.of rfl) h), (frameWrite_touches (hm.of rfl) h), (staWrite_touches (hm.of rfl) h), (stimWrite_touches (hm.of rfl) h), (shlWrite_touches (hm.of rfl) h), (sprotWrite_touches (hm.of rfl) h), (cueWrite_touches (hm.of rfl) h), (stepWrite_touches (hm.of rfl) h), (focWrite_touches (hm.of rfl) h), (busWrite_touches (hm.of rfl) h), (loopWrite_touches (hm.of rfl) h), (pioWrite_touches (hm.of rfl) h), (gpioRegWrite_touches (hm.of rfl) h), (RegWrite.store_touches (hm.of rfl) h)]

theorem registerWrite_touches {z : State} {msk : Nat} {w : RegWrite} {s : State} (hm : Sub 0xa2ffefffcbfbfffff7f73c
    msk) (h : Touches msk z s) : Touches msk z (registerWrite w s) :=
  (touches_ite (touches_ite (headerWriteFenced_touches (hm.of rfl) h) (headerWrite_touches (hm.of rfl) h))
    (touches_ite (RegWrite.storeClears_touches (hm.of rfl) h)
    (by (try dsimp only); split <;> (try dsimp only); exacts [(touches_ite h (blockWrite_touches (hm.of rfl) h)),
    (blockWrite_touches (hm.of rfl) h)])))

theorem acceptedWrite_touches {z : State} {msk : Nat} {a : Sys2Proof.Access} {d : Nat} {o : Nat} {x : Nat} {v :
    Sys2Proof.Word} {s : State} (hm : Sub 0xa2ffefffcbfbfffff7f73c msk) (h : Touches msk z s) : Touches msk z
    (acceptedWrite a d o x v s) :=
  (touches_ite (accErr_touches (hm.of rfl) h) (touches_ite (touches_ite (accErr_touches (hm.of rfl) h) (touches_ite h
    (windowWrite_touches (hm.of rfl) h))) (by (try dsimp only); split <;> (try dsimp only); exacts [h, (touches_ite h
    (touches_ite (accErr_touches (hm.of rfl) h) (registerWrite_touches (hm.of rfl) h)))])))

theorem landWrite_touches {z : State} {msk : Nat} {rq : Sys2Proof.Requester} {d : Nat} {s : State} (hm : Sub 0x400
    msk) (h : Touches msk z s) : Touches msk z (landWrite rq d s) :=
  (Touches.upD_landed (hm.of rfl) h)

theorem regWrite_touches {z : State} {msk : Nat} {a : Sys2Proof.Access} {off : Nat} {v : Sys2Proof.Word} {be : Nat} {s
    : State} (hm : Sub 0xa2ffefffcbfbfffff7f73c msk) (h : Touches msk z s) : Touches msk z (regWrite a off v be s) :=
  (touches_ite h (touches_ite (accErr_touches (hm.of rfl) (landWrite_touches (hm.of rfl) h)) (touches_ite
    (accErr_touches (hm.of rfl) (onlyIf_touches (fun _ h1 => (privViolation_touches (hm.of rfl) h1))
    (landWrite_touches (hm.of rfl) h))) (touches_ite (touches_ite (accErr_touches (hm.of rfl) (onlyIf_touches (fun _
    h1 => (privViolation_touches (hm.of rfl) h1)) (landWrite_touches (hm.of rfl) h))) (onlyIf_touches (fun _ h1 =>
    (privViolation_touches (hm.of rfl) h1)) (landWrite_touches (hm.of rfl) h))) (acceptedWrite_touches (hm.of rfl)
    (onlyIf_touches (fun _ h1 => (privViolation_touches (hm.of rfl) h1)) (landWrite_touches (hm.of rfl) h)))))))

end Sys2Proof.Machine
end

