-- ==== Sys2Proof/Laws/TouchesWrites.lean ====
section
/-! SUPPORT. Which fields of the state every operation of Writes may change. -/

namespace Sys2Proof.Machine

theorem commandRead_touches {z : State} {msk : Nat} {ok : Bool} {a : Sys2Proof.Access} {off : Nat} {s : State} (hm :
    Sub 0x200000c1d100f6043804 msk) (h : Touches msk z s) : TouchesO msk z (commandRead ok a off s) :=
  (.next (touches_ite (readBack_touches (hm.of rfl) h) h))

theorem commandWrite_touches {z : State} {msk : Nat} {ok : Bool} {a : Sys2Proof.Access} {off : Nat} {v :
    Sys2Proof.Word} {s : State} (hm : Sub 0xa2ffefffcbfbfffff7f73c msk) (h : Touches msk z s) : TouchesO msk z
    (commandWrite ok a off v s) :=
  (.next (touches_ite (regWrite_touches (hm.of rfl) h) h))

theorem tapFail_touches {z : State} {msk : Nat} {s : State} (hm : Sub 0x1000000000000000000000 msk) (h : Touches msk z
    s) : Touches msk z (tapFail s) :=
  (Touches.upD_taps (hm.of rfl) h)

theorem execAccessTimeout_touches {z : State} {msk : Nat} {a : Sys2Proof.Access} {off : Nat} {write : Bool} {s :
    State} (hm : Sub 0x1000000001800000041c04 msk) (h : Touches msk z s) : TouchesO msk z (execAccessTimeout a off write
    s) :=
  (touchesO_ite (.next h) (.next (touches_ite (tapFail_touches (hm.of rfl) (recordFault_touches (hm.of rfl)
    (touches_ite (accErr_touches (hm.of rfl) (touches_ite (landWrite_touches (hm.of rfl) h) (Touches.upD_resp (hm.of
    rfl) h))) (wr_touches (hm.of rfl) (wr_touches (hm.of rfl) (accErr_touches (hm.of rfl) (touches_ite
    (landWrite_touches (hm.of rfl) h) (Touches.upD_resp (hm.of rfl) h)))))))) (recordFault_touches (hm.of rfl)
    (touches_ite (accErr_touches (hm.of rfl) (touches_ite (landWrite_touches (hm.of rfl) h) (Touches.upD_resp (hm.of
    rfl) h))) (wr_touches (hm.of rfl) (wr_touches (hm.of rfl) (accErr_touches (hm.of rfl) (touches_ite
    (landWrite_touches (hm.of rfl) h) (Touches.upD_resp (hm.of rfl) h))))))))))

theorem execAgeRestore_touches {z : State} {msk : Nat} {a : Sys2Proof.Access} {k : Nat} {v : Sys2Proof.Word} {s :
    State} (hm : Sub 0xa2ffefffcbfbfffff7f73c msk) (h : Touches msk z s) : TouchesO msk z (execAgeRestore a k v s) :=
  (commandWrite_touches (hm.of rfl) h)

theorem execAgeSave_touches {z : State} {msk : Nat} {a : Sys2Proof.Access} {k : Nat} {v : Sys2Proof.Word} {s : State}
    (hm : Sub 0xa2ffefffcbfbfffff7f73c msk) (h : Touches msk z s) : TouchesO msk z (execAgeSave a k v s) :=
  (commandWrite_touches (hm.of rfl) h)

theorem execBusUnfence_touches {z : State} {msk : Nat} {a : Sys2Proof.Access} {d : Nat} {b : Nat} {v : Sys2Proof.Word}
    {s : State} (hm : Sub 0xa2ffefffcbfbfffff7f73c msk) (h : Touches msk z s) : TouchesO msk z (execBusUnfence a d b v
    s) :=
  (commandWrite_touches (hm.of rfl) h)

theorem execCalLoad_touches {z : State} {msk : Nat} {a : Sys2Proof.Access} {d : Nat} {v : Sys2Proof.Word} {s : State}
    (hm : Sub 0xa2ffefffcbfbfffff7f73c msk) (h : Touches msk z s) : TouchesO msk z (execCalLoad a d v s) :=
  (commandWrite_touches (hm.of rfl) h)

theorem execChopBadClear_touches {z : State} {msk : Nat} {a : Sys2Proof.Access} {d : Nat} {b : Nat} {v :
    Sys2Proof.Word} {s : State} (hm : Sub 0xa2ffefffcbfbfffff7f73c msk) (h : Touches msk z s) : TouchesO msk z
    (execChopBadClear a d b v s) :=
  (commandWrite_touches (hm.of rfl) h)

theorem execCkptNow_touches {z : State} {msk : Nat} {a : Sys2Proof.Access} {k : Nat} {v : Sys2Proof.Word} {s : State}
    (hm : Sub 0xa2ffefffcbfbfffff7f73c msk) (h : Touches msk z s) : TouchesO msk z (execCkptNow a k v s) :=
  (commandWrite_touches (hm.of rfl) h)

theorem execCodecLaneUnfence_touches {z : State} {msk : Nat} {a : Sys2Proof.Access} {d : Nat} {v : Sys2Proof.Word} {s
    : State} (hm : Sub 0xa2ffefffcbfbfffff7f73c msk) (h : Touches msk z s) : TouchesO msk z (execCodecLaneUnfence a d v
    s) :=
  (commandWrite_touches (hm.of rfl) h)

theorem execCueArm_touches {z : State} {msk : Nat} {a : Sys2Proof.Access} {d : Nat} {v : Sys2Proof.Word} {s : State}
    (hm : Sub 0xa2ffefffcbfbfffff7f73c msk) (h : Touches msk z s) : TouchesO msk z (execCueArm a d v s) :=
  (commandWrite_touches (hm.of rfl) h)

theorem execCueDisarm_touches {z : State} {msk : Nat} {a : Sys2Proof.Access} {d : Nat} {v : Sys2Proof.Word} {s :
    State} (hm : Sub 0xa2ffefffcbfbfffff7f73c msk) (h : Touches msk z s) : TouchesO msk z (execCueDisarm a d v s) :=
  (commandWrite_touches (hm.of rfl) h)

theorem execCueUnfence_touches {z : State} {msk : Nat} {a : Sys2Proof.Access} {d : Nat} {v : Sys2Proof.Word} {s :
    State} (hm : Sub 0xa2ffefffcbfbfffff7f73c msk) (h : Touches msk z s) : TouchesO msk z (execCueUnfence a d v s) :=
  (commandWrite_touches (hm.of rfl) h)

theorem execDmaAbort_touches {z : State} {msk : Nat} {a : Sys2Proof.Access} {d : Nat} {n : Nat} {v : Sys2Proof.Word}
    {s : State} (hm : Sub 0xa2ffefffcbfbfffff7f73c msk) (h : Touches msk z s) : TouchesO msk z (execDmaAbort a d n v s)
    :=
  (commandWrite_touches (hm.of rfl) h)

theorem execDmaEnable_touches {z : State} {msk : Nat} {a : Sys2Proof.Access} {d : Nat} {n : Nat} {v : Sys2Proof.Word}
    {s : State} (hm : Sub 0xa2ffefffcbfbfffff7f73c msk) (h : Touches msk z s) : TouchesO msk z (execDmaEnable a d n v s)
    :=
  (commandWrite_touches (hm.of rfl) h)

theorem execDmaKick_touches {z : State} {msk : Nat} {a : Sys2Proof.Access} {d : Nat} {n : Nat} {v : Sys2Proof.Word} {s
    : State} (hm : Sub 0xa2ffefffcbfbfffff7f73c msk) (h : Touches msk z s) : TouchesO msk z (execDmaKick a d n v s) :=
  (commandWrite_touches (hm.of rfl) h)

theorem execDmaUnfence_touches {z : State} {msk : Nat} {a : Sys2Proof.Access} {d : Nat} {n : Nat} {v : Sys2Proof.Word}
    {s : State} (hm : Sub 0xa2ffefffcbfbfffff7f73c msk) (h : Touches msk z s) : TouchesO msk z (execDmaUnfence a d n v
    s) :=
  (commandWrite_touches (hm.of rfl) h)

theorem execEvtForce_touches {z : State} {msk : Nat} {a : Sys2Proof.Access} {d : Nat} {p : Nat} {v : Sys2Proof.Word}
    {s : State} (hm : Sub 0xa2ffefffcbfbfffff7f73c msk) (h : Touches msk z s) : TouchesO msk z (execEvtForce a d p v s)
    :=
  (commandWrite_touches (hm.of rfl) h)

theorem execEyeScanGo_touches {z : State} {msk : Nat} {a : Sys2Proof.Access} {d : Nat} {n : Nat} {v : Sys2Proof.Word}
    {s : State} (hm : Sub 0xa2ffefffcbfbfffff7f73c msk) (h : Touches msk z s) : TouchesO msk z (execEyeScanGo a d n v s)
    :=
  (commandWrite_touches (hm.of rfl) h)

theorem execEyeScanStop_touches {z : State} {msk : Nat} {a : Sys2Proof.Access} {d : Nat} {n : Nat} {v :
    Sys2Proof.Word} {s : State} (hm : Sub 0xa2ffefffcbfbfffff7f73c msk) (h : Touches msk z s) : TouchesO msk z
    (execEyeScanStop a d n v s) :=
  (commandWrite_touches (hm.of rfl) h)

theorem execFenceRead_touches {z : State} {msk : Nat} {a : Sys2Proof.Access} {d : Nat} {s : State} (hm : Sub
    0x200000c1d100f6043804 msk) (h : Touches msk z s) : TouchesO msk z (execFenceRead a d s) :=
  (commandRead_touches (hm.of rfl) h)

theorem execFenceReq_touches {z : State} {msk : Nat} {a : Sys2Proof.Access} {d : Nat} {p : Nat} {v : Sys2Proof.Word}
    {s : State} (hm : Sub 0xa2ffefffcbfbfffff7f73c msk) (h : Touches msk z s) : TouchesO msk z (execFenceReq a d p v s)
    :=
  (commandWrite_touches (hm.of rfl) h)

theorem execFltForce_touches {z : State} {msk : Nat} {a : Sys2Proof.Access} {d : Nat} {p : Nat} {v : Sys2Proof.Word}
    {s : State} (hm : Sub 0xa2ffefffcbfbfffff7f73c msk) (h : Touches msk z s) : TouchesO msk z (execFltForce a d p v s)
    :=
  (commandWrite_touches (hm.of rfl) h)

theorem execFocUnfence_touches {z : State} {msk : Nat} {a : Sys2Proof.Access} {d : Nat} {n : Nat} {v : Sys2Proof.Word}
    {s : State} (hm : Sub 0xa2ffefffcbfbfffff7f73c msk) (h : Touches msk z s) : TouchesO msk z (execFocUnfence a d n v
    s) :=
  (commandWrite_touches (hm.of rfl) h)

theorem execFrameAbort_touches {z : State} {msk : Nat} {a : Sys2Proof.Access} {v : Sys2Proof.Word} {s : State} (hm :
    Sub 0xa2ffefffcbfbfffff7f73c msk) (h : Touches msk z s) : TouchesO msk z (execFrameAbort a v s) :=
  (commandWrite_touches (hm.of rfl) h)

theorem execFrameRelease_touches {z : State} {msk : Nat} {a : Sys2Proof.Access} {v : Sys2Proof.Word} {s : State} (hm :
    Sub 0xa2ffefffcbfbfffff7f73c msk) (h : Touches msk z s) : TouchesO msk z (execFrameRelease a v s) :=
  (commandWrite_touches (hm.of rfl) h)

theorem execFrameSubmit_touches {z : State} {msk : Nat} {a : Sys2Proof.Access} {v : Sys2Proof.Word} {s : State} (hm :
    Sub 0xa2ffefffcbfbfffff7f73c msk) (h : Touches msk z s) : TouchesO msk z (execFrameSubmit a v s) :=
  (commandWrite_touches (hm.of rfl) h)

theorem execFrcLoRead_touches {z : State} {msk : Nat} {a : Sys2Proof.Access} {d : Nat} {s : State} (hm : Sub
    0x200000c1d100f6043804 msk) (h : Touches msk z s) : TouchesO msk z (execFrcLoRead a d s) :=
  (commandRead_touches (hm.of rfl) h)

theorem execFreedFsnRead_touches {z : State} {msk : Nat} {a : Sys2Proof.Access} {s : State} (hm : Sub
    0x200000c1d100f6043804 msk) (h : Touches msk z s) : TouchesO msk z (execFreedFsnRead a s) :=
  (commandRead_touches (hm.of rfl) h)

theorem execFuseBurn_touches {z : State} {msk : Nat} {a : Sys2Proof.Access} {v : Sys2Proof.Word} {s : State} (hm : Sub
    0xa2ffefffcbfbfffff7f73c msk) (h : Touches msk z s) : TouchesO msk z (execFuseBurn a v s) :=
  (commandWrite_touches (hm.of rfl) h)

theorem execFuseLock_touches {z : State} {msk : Nat} {a : Sys2Proof.Access} {v : Sys2Proof.Word} {s : State} (hm : Sub
    0xa2ffefffcbfbfffff7f73c msk) (h : Touches msk z s) : TouchesO msk z (execFuseLock a v s) :=
  (commandWrite_touches (hm.of rfl) h)

theorem execGpioClr_touches {z : State} {msk : Nat} {a : Sys2Proof.Access} {d : Nat} {v : Sys2Proof.Word} {s : State}
    (hm : Sub 0xa2ffefffcbfbfffff7f73c msk) (h : Touches msk z s) : TouchesO msk z (execGpioClr a d v s) :=
  (commandWrite_touches (hm.of rfl) h)

theorem execGpioSet_touches {z : State} {msk : Nat} {a : Sys2Proof.Access} {d : Nat} {v : Sys2Proof.Word} {s : State}
    (hm : Sub 0xa2ffefffcbfbfffff7f73c msk) (h : Touches msk z s) : TouchesO msk z (execGpioSet a d v s) :=
  (commandWrite_touches (hm.of rfl) h)

theorem execHeadcfgSend_touches {z : State} {msk : Nat} {a : Sys2Proof.Access} {k : Nat} {v : Sys2Proof.Word} {s :
    State} (hm : Sub 0xa2ffefffcbfbfffff7f73c msk) (h : Touches msk z s) : TouchesO msk z (execHeadcfgSend a k v s) :=
  (commandWrite_touches (hm.of rfl) h)

theorem execJobAbort_touches {z : State} {msk : Nat} {a : Sys2Proof.Access} {d : Nat} {v : Sys2Proof.Word} {s : State}
    (hm : Sub 0xa2ffefffcbfbfffff7f73c msk) (h : Touches msk z s) : TouchesO msk z (execJobAbort a d v s) :=
  (commandWrite_touches (hm.of rfl) h)

theorem execJobSubmit_touches {z : State} {msk : Nat} {a : Sys2Proof.Access} {d : Nat} {bg : Bool} {v :
    Sys2Proof.Word} {s : State} (hm : Sub 0xa2ffefffcbfbfffff7f73c msk) (h : Touches msk z s) : TouchesO msk z
    (execJobSubmit a d bg v s) :=
  (commandWrite_touches (hm.of rfl) h)

theorem execLaneRetrain_touches {z : State} {msk : Nat} {a : Sys2Proof.Access} {d : Nat} {n : Nat} {v :
    Sys2Proof.Word} {s : State} (hm : Sub 0xa2ffefffcbfbfffff7f73c msk) (h : Touches msk z s) : TouchesO msk z
    (execLaneRetrain a d n v s) :=
  (commandWrite_touches (hm.of rfl) h)

theorem execLogSnap_touches {z : State} {msk : Nat} {a : Sys2Proof.Access} {v : Sys2Proof.Word} {s : State} (hm : Sub
    0xa2ffefffcbfbfffff7f73c msk) (h : Touches msk z s) : TouchesO msk z (execLogSnap a v s) :=
  (commandWrite_touches (hm.of rfl) h)

theorem execLoopAuto_touches {z : State} {msk : Nat} {a : Sys2Proof.Access} {d : Nat} {v : Sys2Proof.Word} {s : State}
    (hm : Sub 0xa2ffefffcbfbfffff7f73c msk) (h : Touches msk z s) : TouchesO msk z (execLoopAuto a d v s) :=
  (commandWrite_touches (hm.of rfl) h)

theorem execLoopDisable_touches {z : State} {msk : Nat} {a : Sys2Proof.Access} {d : Nat} {v : Sys2Proof.Word} {s :
    State} (hm : Sub 0xa2ffefffcbfbfffff7f73c msk) (h : Touches msk z s) : TouchesO msk z (execLoopDisable a d v s) :=
  (commandWrite_touches (hm.of rfl) h)

theorem execLoopEnable_touches {z : State} {msk : Nat} {a : Sys2Proof.Access} {d : Nat} {v : Sys2Proof.Word} {s :
    State} (hm : Sub 0xa2ffefffcbfbfffff7f73c msk) (h : Touches msk z s) : TouchesO msk z (execLoopEnable a d v s) :=
  (commandWrite_touches (hm.of rfl) h)

theorem execLoopManual_touches {z : State} {msk : Nat} {a : Sys2Proof.Access} {d : Nat} {v : Sys2Proof.Word} {s :
    State} (hm : Sub 0xa2ffefffcbfbfffff7f73c msk) (h : Touches msk z s) : TouchesO msk z (execLoopManual a d v s) :=
  (commandWrite_touches (hm.of rfl) h)

theorem execLoopUnfence_touches {z : State} {msk : Nat} {a : Sys2Proof.Access} {d : Nat} {v : Sys2Proof.Word} {s :
    State} (hm : Sub 0xa2ffefffcbfbfffff7f73c msk) (h : Touches msk z s) : TouchesO msk z (execLoopUnfence a d v s) :=
  (commandWrite_touches (hm.of rfl) h)

theorem execLtLoRead_touches {z : State} {msk : Nat} {a : Sys2Proof.Access} {d : Nat} {s : State} (hm : Sub
    0x200000c1d100f6043804 msk) (h : Touches msk z s) : TouchesO msk z (execLtLoRead a d s) :=
  (commandRead_touches (hm.of rfl) h)

theorem execMarkCaptureRead_touches {z : State} {msk : Nat} {a : Sys2Proof.Access} {d : Nat} {m : Nat} {s : State} (hm
    : Sub 0x200000c1d100f6043804 msk) (h : Touches msk z s) : TouchesO msk z (execMarkCaptureRead a d m s) :=
  (commandRead_touches (hm.of rfl) h)

theorem execMemInit_touches {z : State} {msk : Nat} {a : Sys2Proof.Access} {d : Nat} {v : Sys2Proof.Word} {s : State}
    (hm : Sub 0xa2ffefffcbfbfffff7f73c msk) (h : Touches msk z s) : TouchesO msk z (execMemInit a d v s) :=
  (commandWrite_touches (hm.of rfl) h)

theorem execMtNsRead_touches {z : State} {msk : Nat} {a : Sys2Proof.Access} {s : State} (hm : Sub
    0x200000c1d100f6043804 msk) (h : Touches msk z s) : TouchesO msk z (execMtNsRead a s) :=
  (commandRead_touches (hm.of rfl) h)

theorem execNvWrite_touches {z : State} {msk : Nat} {a : Sys2Proof.Access} {d : Nat} {off : Nat} {v : Sys2Proof.Word}
    {be : Nat} {s : State} (hm : Sub 0xa2ffefffcbfbfffff7f73c msk) (h : Touches msk z s) : TouchesO msk z (execNvWrite a
    d off v be s) :=
  (.next (regWrite_touches (hm.of rfl) h))

theorem execPageEnable_touches {z : State} {msk : Nat} {a : Sys2Proof.Access} {d : Nat} {p : Nat} {v : Sys2Proof.Word}
    {s : State} (hm : Sub 0xa2ffefffcbfbfffff7f73c msk) (h : Touches msk z s) : TouchesO msk z (execPageEnable a d p v
    s) :=
  (commandWrite_touches (hm.of rfl) h)

theorem execPageSrst_touches {z : State} {msk : Nat} {a : Sys2Proof.Access} {d : Nat} {p : Nat} {v : Sys2Proof.Word}
    {s : State} (hm : Sub 0xa2ffefffcbfbfffff7f73c msk) (h : Touches msk z s) : TouchesO msk z (execPageSrst a d p v s)
    :=
  (commandWrite_touches (hm.of rfl) h)

theorem execPathClear_touches {z : State} {msk : Nat} {a : Sys2Proof.Access} {p : Nat} {v : Sys2Proof.Word} {s :
    State} (hm : Sub 0xa2ffefffcbfbfffff7f73c msk) (h : Touches msk z s) : TouchesO msk z (execPathClear a p v s) :=
  (commandWrite_touches (hm.of rfl) h)

theorem execPathEnable_touches {z : State} {msk : Nat} {a : Sys2Proof.Access} {p : Nat} {v : Sys2Proof.Word} {s :
    State} (hm : Sub 0xa2ffefffcbfbfffff7f73c msk) (h : Touches msk z s) : TouchesO msk z (execPathEnable a p v s) :=
  (commandWrite_touches (hm.of rfl) h)

theorem execPathResume_touches {z : State} {msk : Nat} {a : Sys2Proof.Access} {p : Nat} {v : Sys2Proof.Word} {s :
    State} (hm : Sub 0xa2ffefffcbfbfffff7f73c msk) (h : Touches msk z s) : TouchesO msk z (execPathResume a p v s) :=
  (commandWrite_touches (hm.of rfl) h)

theorem execPathStop_touches {z : State} {msk : Nat} {a : Sys2Proof.Access} {p : Nat} {v : Sys2Proof.Word} {s : State}
    (hm : Sub 0xa2ffefffcbfbfffff7f73c msk) (h : Touches msk z s) : TouchesO msk z (execPathStop a p v s) :=
  (commandWrite_touches (hm.of rfl) h)

theorem execPkgWatchdogKick_touches {z : State} {msk : Nat} {a : Sys2Proof.Access} {v : Sys2Proof.Word} {s : State}
    (hm : Sub 0xa2ffefffcbfbfffff7f73c msk) (h : Touches msk z s) : TouchesO msk z (execPkgWatchdogKick a v s) :=
  (commandWrite_touches (hm.of rfl) h)

theorem execPosAdj_touches {z : State} {msk : Nat} {a : Sys2Proof.Access} {d : Nat} {v : Sys2Proof.Word} {s : State}
    (hm : Sub 0xa2ffefffcbfbfffff7f73c msk) (h : Touches msk z s) : TouchesO msk z (execPosAdj a d v s) :=
  (commandWrite_touches (hm.of rfl) h)

theorem execPosLoRead_touches {z : State} {msk : Nat} {a : Sys2Proof.Access} {d : Nat} {c : Nat} {s : State} (hm : Sub
    0x200000c1d100f6043804 msk) (h : Touches msk z s) : TouchesO msk z (execPosLoRead a d c s) :=
  (commandRead_touches (hm.of rfl) h)

theorem execPurgeFsnRead_touches {z : State} {msk : Nat} {a : Sys2Proof.Access} {s : State} (hm : Sub
    0x200000c1d100f6043804 msk) (h : Touches msk z s) : TouchesO msk z (execPurgeFsnRead a s) :=
  (commandRead_touches (hm.of rfl) h)

theorem execPwrReq_touches {z : State} {msk : Nat} {a : Sys2Proof.Access} {d : Nat} {p : Nat} {v : Sys2Proof.Word} {s
    : State} (hm : Sub 0xa2ffefffcbfbfffff7f73c msk) (h : Touches msk z s) : TouchesO msk z (execPwrReq a d p v s) :=
  (commandWrite_touches (hm.of rfl) h)

theorem execRailClear_touches {z : State} {msk : Nat} {a : Sys2Proof.Access} {v : Sys2Proof.Word} {s : State} (hm :
    Sub 0xa2ffefffcbfbfffff7f73c msk) (h : Touches msk z s) : TouchesO msk z (execRailClear a v s) :=
  (commandWrite_touches (hm.of rfl) h)

theorem execRailRequest_touches {z : State} {msk : Nat} {a : Sys2Proof.Access} {v : Sys2Proof.Word} {s : State} (hm :
    Sub 0xa2ffefffcbfbfffff7f73c msk) (h : Touches msk z s) : TouchesO msk z (execRailRequest a v s) :=
  (commandWrite_touches (hm.of rfl) h)

theorem execRearm_touches {z : State} {msk : Nat} {a : Sys2Proof.Access} {k : Nat} {v : Sys2Proof.Word} {s : State}
    (hm : Sub 0xa2ffefffcbfbfffff7f73c msk) (h : Touches msk z s) : TouchesO msk z (execRearm a k v s) :=
  (commandWrite_touches (hm.of rfl) h)

theorem execRegisterWrite_touches {z : State} {msk : Nat} {a : Sys2Proof.Access} {off : Nat} {v : Sys2Proof.Word} {be
    : Nat} {s : State} (hm : Sub 0xa2ffefffcbfbfffff7f73c msk) (h : Touches msk z s) : TouchesO msk z (execRegisterWrite
    a off v be s) :=
  (.next (regWrite_touches (hm.of rfl) h))

theorem execReprint_touches {z : State} {msk : Nat} {a : Sys2Proof.Access} {v : Sys2Proof.Word} {s : State} (hm : Sub
    0xa2ffefffcbfbfffff7f73c msk) (h : Touches msk z s) : TouchesO msk z (execReprint a v s) :=
  (commandWrite_touches (hm.of rfl) h)

theorem execResDeclare_touches {z : State} {msk : Nat} {a : Sys2Proof.Access} {d : Nat} {v : Sys2Proof.Word} {s :
    State} (hm : Sub 0xa2ffefffcbfbfffff7f73c msk) (h : Touches msk z s) : TouchesO msk z (execResDeclare a d v s) :=
  (commandWrite_touches (hm.of rfl) h)

theorem execResurvey_touches {z : State} {msk : Nat} {a : Sys2Proof.Access} {d : Nat} {v : Sys2Proof.Word} {s : State}
    (hm : Sub 0xa2ffefffcbfbfffff7f73c msk) (h : Touches msk z s) : TouchesO msk z (execResurvey a d v s) :=
  (commandWrite_touches (hm.of rfl) h)

theorem execRlRouteChange_touches {z : State} {msk : Nat} {a : Sys2Proof.Access} {d : Nat} {v : Sys2Proof.Word} {s :
    State} (hm : Sub 0xa2ffefffcbfbfffff7f73c msk) (h : Touches msk z s) : TouchesO msk z (execRlRouteChange a d v s) :=
  (commandWrite_touches (hm.of rfl) h)

theorem execRxKick_touches {z : State} {msk : Nat} {a : Sys2Proof.Access} {p : Nat} {v : Sys2Proof.Word} {s : State}
    (hm : Sub 0xa2ffefffcbfbfffff7f73c msk) (h : Touches msk z s) : TouchesO msk z (execRxKick a p v s) :=
  (commandWrite_touches (hm.of rfl) h)

theorem execSoftwareReset_touches {z : State} {msk : Nat} {a : Sys2Proof.Access} {d : Nat} {v : Sys2Proof.Word} {s :
    State} (hm : Sub 0xa2ffefffcbfbfffff7f73c msk) (h : Touches msk z s) : TouchesO msk z (execSoftwareReset a d v s) :=
  (commandWrite_touches (hm.of rfl) h)

theorem execSpoilLogRead_touches {z : State} {msk : Nat} {a : Sys2Proof.Access} {s : State} (hm : Sub
    0x200000c1d100f6043804 msk) (h : Touches msk z s) : TouchesO msk z (execSpoilLogRead a s) :=
  (commandRead_touches (hm.of rfl) h)

theorem execStepGo_touches {z : State} {msk : Nat} {a : Sys2Proof.Access} {d : Nat} {n : Nat} {v : Sys2Proof.Word} {s
    : State} (hm : Sub 0xa2ffefffcbfbfffff7f73c msk) (h : Touches msk z s) : TouchesO msk z (execStepGo a d n v s) :=
  (commandWrite_touches (hm.of rfl) h)

theorem execStepQstop_touches {z : State} {msk : Nat} {a : Sys2Proof.Access} {d : Nat} {n : Nat} {v : Sys2Proof.Word}
    {s : State} (hm : Sub 0xa2ffefffcbfbfffff7f73c msk) (h : Touches msk z s) : TouchesO msk z (execStepQstop a d n v s)
    :=
  (commandWrite_touches (hm.of rfl) h)

theorem execStepStop_touches {z : State} {msk : Nat} {a : Sys2Proof.Access} {d : Nat} {n : Nat} {v : Sys2Proof.Word}
    {s : State} (hm : Sub 0xa2ffefffcbfbfffff7f73c msk) (h : Touches msk z s) : TouchesO msk z (execStepStop a d n v s)
    :=
  (commandWrite_touches (hm.of rfl) h)

theorem execStepUnfence_touches {z : State} {msk : Nat} {a : Sys2Proof.Access} {d : Nat} {n : Nat} {v :
    Sys2Proof.Word} {s : State} (hm : Sub 0xa2ffefffcbfbfffff7f73c msk) (h : Touches msk z s) : TouchesO msk z
    (execStepUnfence a d n v s) :=
  (commandWrite_touches (hm.of rfl) h)

theorem execTimeAdj_touches {z : State} {msk : Nat} {a : Sys2Proof.Access} {v : Sys2Proof.Word} {s : State} (hm : Sub
    0xa2ffefffcbfbfffff7f73c msk) (h : Touches msk z s) : TouchesO msk z (execTimeAdj a v s) :=
  (commandWrite_touches (hm.of rfl) h)

theorem execTimeIncr_touches {z : State} {msk : Nat} {a : Sys2Proof.Access} {v : Sys2Proof.Word} {s : State} (hm : Sub
    0xa2ffefffcbfbfffff7f73c msk) (h : Touches msk z s) : TouchesO msk z (execTimeIncr a v s) :=
  (commandWrite_touches (hm.of rfl) h)

theorem execTimeSet_touches {z : State} {msk : Nat} {a : Sys2Proof.Access} {v : Sys2Proof.Word} {s : State} (hm : Sub
    0xa2ffefffcbfbfffff7f73c msk) (h : Touches msk z s) : TouchesO msk z (execTimeSet a v s) :=
  (commandWrite_touches (hm.of rfl) h)

theorem execTrimSetSend_touches {z : State} {msk : Nat} {a : Sys2Proof.Access} {k : Nat} {v : Sys2Proof.Word} {s :
    State} (hm : Sub 0xa2ffefffcbfbfffff7f73c msk) (h : Touches msk z s) : TouchesO msk z (execTrimSetSend a k v s) :=
  (commandWrite_touches (hm.of rfl) h)

theorem execTxKick_touches {z : State} {msk : Nat} {a : Sys2Proof.Access} {p : Nat} {v : Sys2Proof.Word} {s : State}
    (hm : Sub 0xa2ffefffcbfbfffff7f73c msk) (h : Touches msk z s) : TouchesO msk z (execTxKick a p v s) :=
  (commandWrite_touches (hm.of rfl) h)

theorem execTxnAbort_touches {z : State} {msk : Nat} {a : Sys2Proof.Access} {d : Nat} {i : Nat} {v : Sys2Proof.Word}
    {s : State} (hm : Sub 0xa2ffefffcbfbfffff7f73c msk) (h : Touches msk z s) : TouchesO msk z (execTxnAbort a d i v s)
    :=
  (commandWrite_touches (hm.of rfl) h)

theorem execTxnArm_touches {z : State} {msk : Nat} {a : Sys2Proof.Access} {d : Nat} {i : Nat} {v : Sys2Proof.Word} {s
    : State} (hm : Sub 0xa2ffefffcbfbfffff7f73c msk) (h : Touches msk z s) : TouchesO msk z (execTxnArm a d i v s) :=
  (commandWrite_touches (hm.of rfl) h)

theorem execTxnClear_touches {z : State} {msk : Nat} {a : Sys2Proof.Access} {d : Nat} {i : Nat} {v : Sys2Proof.Word}
    {s : State} (hm : Sub 0xa2ffefffcbfbfffff7f73c msk) (h : Touches msk z s) : TouchesO msk z (execTxnClear a d i v s)
    :=
  (commandWrite_touches (hm.of rfl) h)

theorem execUnfence_touches {z : State} {msk : Nat} {a : Sys2Proof.Access} {d : Nat} {p : Nat} {v : Sys2Proof.Word} {s
    : State} (hm : Sub 0xa2ffefffcbfbfffff7f73c msk) (h : Touches msk z s) : TouchesO msk z (execUnfence a d p v s) :=
  (commandWrite_touches (hm.of rfl) h)

theorem execWatchdogKick_touches {z : State} {msk : Nat} {a : Sys2Proof.Access} {d : Nat} {v : Sys2Proof.Word} {s :
    State} (hm : Sub 0xa2ffefffcbfbfffff7f73c msk) (h : Touches msk z s) : TouchesO msk z (execWatchdogKick a d v s) :=
  (commandWrite_touches (hm.of rfl) h)

theorem execXtxnAbort_touches {z : State} {msk : Nat} {a : Sys2Proof.Access} {v : Sys2Proof.Word} {s : State} (hm :
    Sub 0xa2ffefffcbfbfffff7f73c msk) (h : Touches msk z s) : TouchesO msk z (execXtxnAbort a v s) :=
  (commandWrite_touches (hm.of rfl) h)

theorem execXtxnGo_touches {z : State} {msk : Nat} {a : Sys2Proof.Access} {v : Sys2Proof.Word} {s : State} (hm : Sub
    0xa2ffefffcbfbfffff7f73c msk) (h : Touches msk z s) : TouchesO msk z (execXtxnGo a v s) :=
  (commandWrite_touches (hm.of rfl) h)

end Sys2Proof.Machine
end

