-- ==== Sys2Proof/Laws/TouchesBoot.lean ====
section
/-! SUPPORT. Which fields of the state every operation of Boot may change. -/

namespace Sys2Proof.Machine

theorem bootAdvance_touches {z : State} {msk : Nat} {b : List Sys2Proof.Byte} {s : State} (hm : Sub
    0x800000000000000000000 msk) (h : Touches msk z s) : Touches msk z (bootAdvance b s) :=
  (Touches.upD_boot (hm.of rfl) h)

theorem bootFail_touches {z : State} {msk : Nat} {code : Nat} {at0 : Nat} {s : State} (hm : Sub 0x1004 msk) (h :
    Touches msk z s) : Touches msk z (bootFail code at0 s) :=
  (evt_touches (hm.of rfl) (touches_ite (wr_touches (hm.of rfl) (wr_touches (hm.of rfl) (wr_touches (hm.of rfl)
    (wr_touches (hm.of rfl) h)))) (wr_touches (hm.of rfl) (wr_touches (hm.of rfl) (wr_touches (hm.of rfl) h)))))

theorem imageRead_touches {z : State} {msk : Nat} {o : Nat} {n : Nat} {s : State} (hm : Sub 0x1800000041004 msk) (h :
    Touches msk z s) : Touches msk z (imageRead o n s).2.2 :=
  (touches_ite2 (nvReadChecked_touches (hm.of rfl) h) h)

theorem bootRecord_touches {z : State} {msk : Nat} {type : Nat} {f : List Sys2Proof.Byte → State → State} {s : State}
    (hm : Sub 0x1800000041004 msk) (hf : ∀ b t, Touches msk z t → Touches msk z (f b t)) (h : Touches msk z s) :
    TouchesO msk z (bootRecord type f s) :=
  (touchesO_ite (.next h) (touchesO_ite (.next (bootFail_touches (hm.of rfl) (imageRead_touches (hm.of rfl) h)))
    (touchesO_ite (.next (bootFail_touches (hm.of rfl) h)) (touchesO_ite (.next (bootFail_touches (hm.of rfl)
    (imageRead_touches (hm.of rfl) h))) (touchesO_ite (.next h) (.next (hf _ _ h)))))))

theorem execBootCheckPass_touches {z : State} {msk : Nat} {s : State} (hm : Sub 0x800000001800000041004 msk) (h :
    Touches msk z s) : TouchesO msk z (execBootCheckPass s) :=
  (touchesO_ite (.next h) (touchesO_ite (.next (bootFail_touches (hm.of rfl) (imageRead_touches (hm.of rfl) h)))
    (touchesO_ite (.next (bootFail_touches (hm.of rfl) (imageRead_touches (hm.of rfl) h))) (touchesO_ite (.next
    (bootFail_touches (hm.of rfl) h)) (.next (wr_touches (hm.of rfl) (Touches.upD_boot (hm.of rfl) h)))))))

theorem execBootDelay_touches {z : State} {msk : Nat} {s : State} (hm : Sub 0x800000001800000041004 msk) (h : Touches
    msk z s) : TouchesO msk z (execBootDelay s) :=
  (bootRecord_touches (hm.of rfl) (fun _ _ h => (Touches.upD_boot (hm.of rfl) (bootAdvance_touches (hm.of rfl) h))) h)

theorem execBootEnd_touches {z : State} {msk : Nat} {s : State} (hm : Sub 0x1800000041004 msk) (h : Touches msk z s) :
    TouchesO msk z (execBootEnd s) :=
  (bootRecord_touches (hm.of rfl) (fun _ _ h => touches_ite (bootFail_touches (hm.of rfl) (imageRead_touches (hm.of
    rfl) h)) (touches_ite (bootFail_touches (hm.of rfl) h) (evt_touches (hm.of rfl) (wr_touches (hm.of rfl) h)))) h)

theorem execBootMasked_touches {z : State} {msk : Nat} {s : State} (hm : Sub 0xaaffefffcbfbfffff7f73c msk) (h :
    Touches msk z s) : TouchesO msk z (execBootMasked s) :=
  (bootRecord_touches (hm.of rfl) (fun _ _ h => regWrite_touches (hm.of rfl) (readReg_touches (hm.of rfl)
    (bootAdvance_touches (hm.of rfl) h))) h)

theorem execBootPoll_touches {z : State} {msk : Nat} {s : State} (hm : Sub 0x8200000c1d100f6043004 msk) (h : Touches
    msk z s) : TouchesO msk z (execBootPoll s) :=
  (bootRecord_touches (hm.of rfl) (fun _ _ h => touches_ite (bootAdvance_touches (hm.of rfl) (readReg_touches (hm.of
    rfl) h)) (touches_ite (Touches.upD_boot (hm.of rfl) (readReg_touches (hm.of rfl) h)) (readReg_touches (hm.of rfl)
    h))) h)

theorem execBootPollTimeout_touches {z : State} {msk : Nat} {s : State} (hm : Sub 0x1800000041004 msk) (h : Touches
    msk z s) : TouchesO msk z (execBootPollTimeout s) :=
  (bootRecord_touches (hm.of rfl) (fun _ _ h => by split; exacts [touches_ite (bootFail_touches (hm.of rfl) h) h, h])
    h)

theorem tableWrites_touches {z : State} {msk : Nat} {x0 : Nat} {x1 : List Sys2Proof.Byte} {x2 : Nat} {x3 : State} (hm
    : Sub 0xa2ffefffcbfbfffff7f73c msk) (h : Touches msk z x3) : Touches msk z (tableWrites x0 x1 x2 x3) := by
  have h0 : Sub 0xa2ffefffcbfbfffff7f73c msk := hm.of rfl
  fun_induction tableWrites x0 x1 x2 x3 <;> grind [regWrite_touches]

theorem execBootTable_touches {z : State} {msk : Nat} {s : State} (hm : Sub 0xaaffefffcbfbfffff7f73c msk) (h : Touches
    msk z s) : TouchesO msk z (execBootTable s) :=
  (bootRecord_touches (hm.of rfl) (fun _ _ h => tableWrites_touches (hm.of rfl) (bootAdvance_touches (hm.of rfl) h))
    h)

theorem execBootWrite_touches {z : State} {msk : Nat} {s : State} (hm : Sub 0xaaffefffcbfbfffff7f73c msk) (h : Touches
    msk z s) : TouchesO msk z (execBootWrite s) :=
  (bootRecord_touches (hm.of rfl) (fun _ _ h => regWrite_touches (hm.of rfl) (bootAdvance_touches (hm.of rfl) h)) h)

end Sys2Proof.Machine
end

