-- ==== Sys2Proof/Laws/TouchesFiring.lean ====
section
/-! SUPPORT. Which fields of the state every operation of Firing may change. -/

namespace Sys2Proof.Machine

theorem execLedStrobe_touches {z : State} {msk : Nat} {k : Nat} {s : State} (hm : Sub 0x180000c1f9038645f00c msk) (h :
    Touches msk z s) : TouchesO msk z (execLedStrobe k s) :=
  (touchesO_ite (.next h) (by (try dsimp only); split <;> (try dsimp only); exacts [(.next (holdCheck_touches (hm.of
    rfl) (fixStop_touches (hm.of rfl) h))), (touchesO_ite (.next h) (.next (strobeFalls_touches (hm.of rfl)
    (commitOnEdge_touches (hm.of rfl) (fixStop_touches (hm.of rfl) h)))))]))

theorem execLgoEdge_touches {z : State} {msk : Nat} {k : Nat} {s : State} (hm : Sub 0x180000c1f9038645f00c msk) (h :
    Touches msk z s) : TouchesO msk z (execLgoEdge k s) := by
  have e := Eq.refl @execLgoEdge; conv at e => rhs; delta execLgoEdge
  rw [e]
  (try dsimp only)
  split <;> (try dsimp only)
  exacts [(.next h), (touchesO_ite (.next h) (.next (lgoFalls_touches (hm.of rfl) (commitOnEdge_touches (hm.of rfl) h))))]

end Sys2Proof.Machine
end

