-- ==== Sys2Proof/Laws/TouchesJtag.lean ====
section
/-! SUPPORT. Which fields of the state every operation of Jtag may change. -/

namespace Sys2Proof.Machine

theorem setTap_touches {z : State} {msk : Nat} {d : Nat} {x1 : Tap} {s : State} (hm : Sub 0x1000000000000000000000
    msk) (h : Touches msk z s) : Touches msk z (setTap d x1 s) :=
  (Touches.upD_taps (hm.of rfl) h)

theorem holdDie_touches {z : State} {msk : Nat} {d : Nat} {s : State} (hm : Sub 0xa2fe6fffcbfbf9fef7b704 msk) (h :
    Touches msk z s) : Touches msk z (holdDie d s) :=
  (touches_ite h (touches_ite (touches_ite (warmPackage_touches (hm.of rfl) h) (setRelease_touches (hm.of rfl)
    (warmPackage_touches (hm.of rfl) h))) (warmDie_touches (hm.of rfl) h)))

theorem tapTake_touches {z : State} {msk : Nat} {d : Nat} {ir : Nat} {s : State} (hm : Sub 0xb2fe6fffcbfbf9fef7b704
    msk) (h : Touches msk z s) : Touches msk z (tapTake d ir s) :=
  (touches_ite h (touches_ite (holdDie_touches (hm.of rfl) (setTap_touches (hm.of rfl) h)) (touches_ite
    (setRelease_touches (hm.of rfl) (setTap_touches (hm.of rfl) h)) (setTap_touches (hm.of rfl) h))))

theorem execJtagBypass_touches {z : State} {msk : Nat} {d : Nat} {code : Nat} {s : State} (hm : Sub
    0xb2fe6fffcbfbf9fef7b704 msk) (h : Touches msk z s) : TouchesO msk z (execJtagBypass d code s) :=
  (touchesO_ite (.next h) (.next (tapTake_touches (hm.of rfl) h)))

theorem tapHold_touches {z : State} {msk : Nat} {d : Nat} {ir : Nat} {held : Bool} {s : State} (hm : Sub
    0xb2fe6fffcbfbf9fef7b704 msk) (h : Touches msk z s) : Touches msk z (tapHold d ir held s) :=
  (touches_ite (tapTake_touches (hm.of rfl) h) (touches_ite (tapTake_touches (hm.of rfl) h) h))

theorem execJtagClamp_touches {z : State} {msk : Nat} {d : Nat} {held : Bool} {s : State} (hm : Sub
    0xb2fe6fffcbfbf9fef7b704 msk) (h : Touches msk z s) : TouchesO msk z (execJtagClamp d held s) :=
  (.next (tapHold_touches (hm.of rfl) h))

theorem execJtagDbgAccess_touches {z : State} {msk : Nat} {d : Nat} {off : Nat} {v : Sys2Proof.Word} {write : Bool} {s
    : State} (hm : Sub 0xb2ffefffcbfbfffff7ff3c msk) (h : Touches msk z s) : TouchesO msk z (execJtagDbgAccess d off v
    write s) :=
  (touchesO_ite (.next h) (touchesO_ite (.next (setTap_touches (hm.of rfl) (drawFree_touches (hm.of rfl)
    (regWrite_touches (hm.of rfl) (tapTake_touches (hm.of rfl) h))))) (.next (Touches.upD_resp (hm.of rfl)
    (setTap_touches (hm.of rfl) (readReg_touches (hm.of rfl) (tapTake_touches (hm.of rfl) h)))))))

theorem execJtagDbgReset_touches {z : State} {msk : Nat} {d : Nat} {s : State} (hm : Sub 0xb2fe6fffcbfbf9fef7b704 msk)
    (h : Touches msk z s) : TouchesO msk z (execJtagDbgReset d s) :=
  (touchesO_ite (.next h) (.next (warmReset_touches (hm.of rfl) (tapTake_touches (hm.of rfl) h))))

theorem execJtagExtest_touches {z : State} {msk : Nat} {d : Nat} {held : Bool} {s : State} (hm : Sub
    0xb2fe6fffcbfbf9fef7b704 msk) (h : Touches msk z s) : TouchesO msk z (execJtagExtest d held s) :=
  (.next (tapHold_touches (hm.of rfl) h))

theorem execJtagHighz_touches {z : State} {msk : Nat} {d : Nat} {held : Bool} {s : State} (hm : Sub
    0xb2fe6fffcbfbf9fef7b704 msk) (h : Touches msk z s) : TouchesO msk z (execJtagHighz d held s) :=
  (.next (tapHold_touches (hm.of rfl) h))

theorem execJtagIdcode_touches {z : State} {msk : Nat} {d : Nat} {s : State} (hm : Sub 0xb2fe6fffcbfbf9fef7bf04 msk)
    (h : Touches msk z s) : TouchesO msk z (execJtagIdcode d s) :=
  (touchesO_ite (.next h) (.next (Touches.upD_resp (hm.of rfl) (tapTake_touches (hm.of rfl) h))))

theorem execJtagSamplePreload_touches {z : State} {msk : Nat} {d : Nat} {s : State} (hm : Sub 0xb2fe6fffcbfbf9fef7b704
    msk) (h : Touches msk z s) : TouchesO msk z (execJtagSamplePreload d s) :=
  (.next (tapTake_touches (hm.of rfl) h))

theorem execTapReset_touches {z : State} {msk : Nat} {s : State} (hm : Sub 0xb2fe6fffcbfbf9fef7b704 msk) (h : Touches
    msk z s) : TouchesO msk z (execTapReset s) :=
  (.next (Touches.upD_taps (hm.of rfl) (foldl_touches (fun _ _ h1 => (tapTake_touches (hm.of rfl) h1)) h)))

end Sys2Proof.Machine
end

