-- ==== Sys2Proof/WellFormed.lean ====
section
/-! DEFINITION. The well-formed commands: every operand names something the package can have and fits the width that the spec
gives it. -/

namespace Sys2Proof

/-- Only the host has the BAR2 view (R27, R37). -/
def accessOk (a : Access) : Bool := !a.bar2 || a.rq == .host

/-- An operand lies below a bound. -/
def below (n x : Nat) : Bool := decide (x < n)

/-- A package has at most 8 dies (R1). -/
def dieOk (d : Nat) : Bool := below 8 d

/-- Each die has two stations (R1). -/
def stationOk (k : Nat) : Bool := below 16 k

/-- The frame queue has 64 slots (R70). -/
def queueSlotOk (i : Nat) : Bool := below 64 i

/-- Byte enables of a 32-bit word (R28). -/
def enablesOk (be : Nat) : Bool := below 16 be

/-- The code of a 12-bit conversion (R390, R424). -/
def codeOk (v : Nat) : Bool := below 4096 v

/-- The size of the NV store window (R38). -/
def nvBytes : Nat := 0x200000

/-- The commands whose operands are within the spec's bounds. -/
def Instr.wf : Instr → Bool
  | .registerWrite a off _ be => accessOk a && below 0x8000000 off && enablesOk be
  | .fenceRead a d => accessOk a && dieOk d
  | .accessTimeout a off _ => accessOk a && below 0x8000000 off
  | .lockup d => dieOk d
  | .pageSrst a d p _ => accessOk a && dieOk d && below 256 p
  | .pageEnable a d p _ => accessOk a && dieOk d && below 256 p
  | .fenceReq a d p _ => accessOk a && dieOk d && below 256 p
  | .unfence a d p _ => accessOk a && dieOk d && below 256 p
  | .stationUnfenceApply k => stationOk k
  | .pwrReq a d p _ => accessOk a && dieOk d && below 256 p
  | .evtForce a d p _ => accessOk a && dieOk d && below 256 p
  | .fltForce a d p _ => accessOk a && dieOk d && below 256 p
  | .errPulseEnd => true
  | .txnArm a d i _ => accessOk a && dieOk d && below 8 i
  | .txnChecksDone d i => dieOk d && below 8 i
  | .txnAbort a d i _ => accessOk a && dieOk d && below 8 i
  | .txnClear a d i _ => accessOk a && dieOk d && below 8 i
  | .txnCommit d i => dieOk d && below 8 i
  | .xtxnGo a _ => accessOk a
  | .xtxnAbort a _ => accessOk a
  | .xtxnPrepare d => dieOk d
  | .xtxnAnswer d => dieOk d
  | .xtxnCommitMsg d => dieOk d
  | .xtxnAbortMsg d => dieOk d
  | .xtxnCommitReport d => dieOk d
  | .xtxnTimeout => true
  | .frameSubmit a _ => accessOk a
  | .planeDescriptorMsg slot k => queueSlotOk slot && stationOk k
  | .resDeclare a d _ => accessOk a && dieOk d
  | .resurvey a d _ => accessOk a && dieOk d
  | .surveyAshlarStart d lane slot k => dieOk d && below 24 lane && queueSlotOk slot && stationOk k
  | .surveyAshlarDone d lane => dieOk d && below 24 lane
  | .frameAdmitted slot => queueSlotOk slot
  | .frameArmed slot => queueSlotOk slot
  | .frameRetire slot => queueSlotOk slot
  | .spoiledExit slot => queueSlotOk slot
  | .reprint a _ => accessOk a
  | .frameRelease a _ => accessOk a
  | .frameAbort a _ => accessOk a
  | .freedFsnRead a => accessOk a
  | .spoilLogRead a => accessOk a
  | .imgAshlarStart d lane => dieOk d && below 24 lane
  | .imgAshlarDone d lane => dieOk d && below 24 lane
  | .laneRoleChange d lane => dieOk d && below 24 lane
  | .codecLaneUnfence a d _ => accessOk a && dieOk d
  | .carrySurveyStart d lane slot k => dieOk d && below 24 lane && queueSlotOk slot && stationOk k
  | .carryRecordDone d lane => dieOk d && below 24 lane
  | .jobSubmit a d _ _ => accessOk a && dieOk d
  | .jobStart d lane => dieOk d && below 8 lane
  | .jobAshlarDone d lane => dieOk d && below 8 lane
  | .jobAbort a d _ => accessOk a && dieOk d
  | .laneSynthLock d n => dieOk d && below 12 n
  | .laneSignalDetect d n => dieOk d && below 12 n
  | .laneAdaptDone d n _ _ => dieOk d && below 12 n
  | .laneBlockLock d n => dieOk d && below 12 n
  | .laneLoss d n why => dieOk d && below 12 n && below 3 why
  | .syncHeaderError d n => dieOk d && below 12 n
  | .elasticOverflow d n => dieOk d && below 12 n
  | .laneLockHoldTimeout d n => dieOk d && below 12 n
  | .laneSynthLoss d n => dieOk d && below 12 n
  | .laneRetrain a d n _ => accessOk a && dieOk d && below 12 n
  | .eyeScanGo a d n _ => accessOk a && dieOk d && below 12 n
  | .eyeScanStop a d n _ => accessOk a && dieOk d && below 12 n
  | .eyePointDone d n _ bits => dieOk d && below 12 n && below 0x100000000 bits
  | .eyeScanResume d n => dieOk d && below 12 n
  | .alignmentMarker d n body _ _ => dieOk d && below 12 n && body.length == 8
  | .bondAlignTimeout d => dieOk d
  | .rlAshlar d _ => dieOk d
  | .rlIndex d _ => dieOk d
  | .rlDescriptor d _ => dieOk d
  | .rlResync d _ => dieOk d
  | .rlBadPacket d _ => dieOk d
  | .rlPacketLanded d => dieOk d
  | .rlNakTimer d => dieOk d
  | .rlInitAckTimer d => dieOk d
  | .rlCreditTimer d => dieOk d
  | .rlRouteChange a d _ => accessOk a && dieOk d
  | .stationLine k => stationOk k
  | .bdEdge k phase => stationOk k && below 16 phase
  | .bdMissed k => stationOk k
  | .fidIndexEdge k => stationOk k
  | .lgoEdge k => stationOk k
  | .ledStrobe k => stationOk k
  | .startEvent k => stationOk k
  | .resumeEvent k => stationOk k
  | .hlStatus k _ => stationOk k
  | .hlAck k _ => stationOk k
  | .hlNak k _ => stationOk k
  | .hlCredit k _ => stationOk k
  | .hlBadPacket k _ => stationOk k
  | .hlReplayTimer k => stationOk k
  | .hlResyncTimer k => stationOk k
  | .hlStatusTimeout k => stationOk k
  | .headcfgSend a k _ => accessOk a && stationOk k
  | .trimSetSend a k _ => accessOk a && stationOk k
  | .ilkFall => true
  | .hokFall k => stationOk k
  | .paperOut k => stationOk k
  | .jam k => stationOk k
  | .rearm a k _ => accessOk a && stationOk k
  | .softStateApply k => stationOk k
  | .headBucketTick k => stationOk k
  | .calLoad a d _ => accessOk a && dieOk d
  | .calLoadEnd d => dieOk d
  | .ageRestore a k _ => accessOk a && stationOk k
  | .ageSave a k _ => accessOk a && stationOk k
  | .ckptNow a k _ => accessOk a && stationOk k
  | .ageActionEnd k => stationOk k
  | .wearCheckpoint k => stationOk k
  | .ageRefresh k => stationOk k
  | .markCapture d m _ => dieOk d && below 4 m
  | .markCaptureRead a d m => accessOk a && dieOk d && below 4 m
  | .aregHeldStage k => stationOk k
  | .encoderStep d e _ _ => dieOk d && below 8 e
  | .encoderIndex d e => dieOk d && below 8 e
  | .posAdj a d _ => accessOk a && dieOk d
  | .cueArm a d _ => accessOk a && dieOk d
  | .cueDisarm a d _ => accessOk a && dieOk d
  | .cueUnfence a d _ => accessOk a && dieOk d
  | .cueFire d n => dieOk d && below 512 n
  | .cueComplete d n => dieOk d && below 512 n
  | .pathEnable a p _ => accessOk a && below 2 p
  | .pathStop a p _ => accessOk a && below 2 p
  | .pathStopCause p => below 2 p
  | .pathResume a p _ => accessOk a && below 2 p
  | .pathClear a p _ => accessOk a && below 2 p
  | .pathBackfeedAuto p => below 2 p
  | .pathStandstill p => below 2 p
  | .rhoBroadcast p => below 2 p
  | .purgeFsnRead a => accessOk a
  | .stepGo a d n _ => accessOk a && dieOk d && below 8 n
  | .stepStop a d n _ => accessOk a && dieOk d && below 8 n
  | .stepQstop a d n _ => accessOk a && dieOk d && below 8 n
  | .stepUnfence a d n _ => accessOk a && dieOk d && below 8 n
  | .stepProfileTick d n => dieOk d && below 8 n
  | .stepHoldDelay d n => dieOk d && below 8 n
  | .stepHoldReached d n => dieOk d && below 8 n
  | .focPeriod d n ia ib ic => dieOk d && below 4 n && codeOk ia && codeOk ib && codeOk ic
  | .hallTransition d n code => dieOk d && below 4 n && below 8 code
  | .catchEnd d n _ _ _ _ => dieOk d && below 4 n
  | .alignEnd d n => dieOk d && below 4 n
  | .brakeTimeout d n => dieOk d && below 4 n
  | .focUnfence a d n _ => accessOk a && dieOk d && below 4 n
  | .chopperSwitch d b v => dieOk d && below 4 b && codeOk v
  | .busClamp d b v => dieOk d && below 4 b && codeOk v
  | .busClampEnd d b v => dieOk d && below 4 b && codeOk v
  | .busTrip d b v => dieOk d && below 4 b && codeOk v
  | .busUndervoltage d b v => dieOk d && below 4 b && codeOk v
  | .busUnfence a d b _ => accessOk a && dieOk d && below 4 b
  | .chopBadClear a d b _ => accessOk a && dieOk d && below 4 b
  | .loopEnable a d _ => accessOk a && dieOk d
  | .loopDisable a d _ => accessOk a && dieOk d
  | .loopAuto a d _ => accessOk a && dieOk d
  | .loopManual a d _ => accessOk a && dieOk d
  | .loopUnfence a d _ => accessOk a && dieOk d
  | .loopTick d => dieOk d
  | .cffMessage d => dieOk d
  | .cffCancel d => dieOk d
  | .adcConversion d ain hvm => dieOk d && ain.length == 16 && ain.all codeOk && hvm.length == 8 && hvm.all codeOk
  | .zeroCross d => dieOk d
  | .zeroCrossLost d => dieOk d
  | .gpioEdge d g _ => dieOk d && below 32 g
  | .gpioSet a d _ => accessOk a && dieOk d
  | .gpioClr a d _ => accessOk a && dieOk d
  | .spliceDetect d => dieOk d
  | .ethFrameReceive p _ _ => below 2 p
  | .txKick a p _ => accessOk a && below 2 p
  | .rxKick a p _ => accessOk a && below 2 p
  | .ethLaunch p q => below 2 p && below 8 q
  | .ethFrameSent p q _ => below 2 p && below 8 q
  | .syncTimeout => true
  | .timeIncr a _ => accessOk a
  | .timeAdj a _ => accessOk a
  | .timeSet a _ => accessOk a
  | .timeRefreshSend => true
  | .timeRefresh d => dieOk d
  | .timeRefreshMiss d => dieOk d
  | .ltLoRead a d => accessOk a && dieOk d
  | .frcLoRead a d => accessOk a && dieOk d
  | .mtNsRead a => accessOk a
  | .posLoRead a d c => accessOk a && dieOk d && below 8 c
  | .memInit a d _ => accessOk a && dieOk d
  | .memTrainDone d _ => dieOk d
  | .bar4Read off _ ecc => below 0x1000000000 off && below 3 ecc
  | .bar4Write off bytes en _ => below 0x1000000000 off && en.length == bytes.length
  | .scrubRead d res => dieOk d && below 3 res
  | .dmaEnable a d n _ => accessOk a && dieOk d && below 8 n
  | .dmaKick a d n _ => accessOk a && dieOk d && below 8 n
  | .dmaAbort a d n _ => accessOk a && dieOk d && below 8 n
  | .dmaUnfence a d n _ => accessOk a && dieOk d && below 8 n
  | .dmaDescriptorFetch d n _ => dieOk d && below 8 n
  | .dmaDescriptorComplete d n _ _ => dieOk d && below 8 n
  | .domainPowerUp d dom => dieOk d && below 14 dom
  | .domainPowerDown d dom => dieOk d && below 14 dom
  | .domainPowerTimeout d dom => dieOk d && below 14 dom
  | .railRequest a _ => accessOk a
  | .railClear a _ => accessOk a
  | .railSeqStep mon => mon.length == 8 && mon.all codeOk
  | .railPgChange n _ => below 24 n
  | .railQualifyDone n => below 24 n
  | .railTimeout n => below 24 n
  | .railDownTimeout n => below 24 n
  | .railMinoffEnd n => below 24 n
  | .vinTrip code => codeOk code
  | .vinRecover code => codeOk code
  | .logSnap a _ => accessOk a
  | .logRecordWrite => true
  | .nvWrite a d off _ be => accessOk a && dieOk d && below nvBytes off && enablesOk be
  | .tempSample d _ => dieOk d
  | .powerOn => true
  | .brownOut => true
  | .resetPin _ => true
  | .softwareReset a d _ => accessOk a && dieOk d
  | .dieWatchdogExpire d => dieOk d
  | .pkgWatchdogExpire => true
  | .watchdogKick a d _ => accessOk a && dieOk d
  | .pkgWatchdogKick a _ => accessOk a
  | .clockFailure d => dieOk d
  | .warmResetRelease d => dieOk d
  | .strapSample boot clkm prof _ => below 8 boot && below 4 clkm && below 8 prof
  | .referenceCheck d _ => dieOk d
  | .pllLock d p => dieOk d && below 4 p
  | .pllLockLoss d p => dieOk d && below 4 p
  | .mortarTrained d _ => dieOk d
  | .islandRelease d isl => dieOk d && below 14 isl
  | .clockGoodTimeout d isl => dieOk d && below 14 isl
  | .pcieReady => true
  | .bootCheckPass => true
  | .bootWrite => true
  | .bootMasked => true
  | .bootPoll => true
  | .bootPollTimeout => true
  | .bootTable => true
  | .bootDelay => true
  | .bootEnd => true
  | .tapReset => true
  | .jtagExtest d _ => dieOk d
  | .jtagIdcode d => dieOk d
  | .jtagSamplePreload d => dieOk d
  | .jtagHighz d _ => dieOk d
  | .jtagClamp d _ => dieOk d
  | .jtagBypass d code => dieOk d && below 256 code
  | .jtagDbgReset d => dieOk d
  | .jtagDbgAccess d off _ _ => dieOk d && below 0x8000000 off
  | .fuseBurn a _ => accessOk a
  | .fuseLock a _ => accessOk a
  | .internalError d p src _ => dieOk d && below 256 p && below 32 src
  | .mortarLinkFenced d => dieOk d
  | .inputDeasserted which k => below 4 which && stationOk k
  | .clockFailureWarmReset d => dieOk d

end Sys2Proof
end

