-- ==== Sys2Proof/Tests/Slice0.lean ====
section
/-! SUPPORT. Small tests: an ill-formed command for each check of `Instr.wf`, and states that meet the hypotheses of the
statements. -/

namespace Sys2Proof

/-! ### Well-formed commands: each check takes a command and refuses one that differs in the operand checked. -/

theorem test_wf_accessOk_a : Instr.wf (.registerWrite ⟨.host, false⟩ 0 0 0 : Instr) = true ∧
    Instr.wf (.registerWrite ⟨.boot, true⟩ 0 0 0 : Instr) = false := by decide

theorem test_wf_below_0x8000000_off : Instr.wf (.registerWrite ⟨.host, false⟩ 0 0 0 : Instr) = true ∧
    Instr.wf (.registerWrite ⟨.host, false⟩ 134217728 0 0 : Instr) = false := by decide

theorem test_wf_enablesOk_be : Instr.wf (.registerWrite ⟨.host, false⟩ 0 0 0 : Instr) = true ∧
    Instr.wf (.registerWrite ⟨.host, false⟩ 0 0 16 : Instr) = false := by decide

theorem test_wf_dieOk_d : Instr.wf (.fenceRead ⟨.host, false⟩ 0 : Instr) = true ∧
    Instr.wf (.fenceRead ⟨.host, false⟩ 8 : Instr) = false := by decide

theorem test_wf_below_256_p : Instr.wf (.pageSrst ⟨.host, false⟩ 0 0 0 : Instr) = true ∧
    Instr.wf (.pageSrst ⟨.host, false⟩ 0 256 0 : Instr) = false := by decide

theorem test_wf_stationOk_k : Instr.wf (.stationUnfenceApply 0 : Instr) = true ∧
    Instr.wf (.stationUnfenceApply 16 : Instr) = false := by decide

theorem test_wf_below_8_i : Instr.wf (.txnArm ⟨.host, false⟩ 0 0 0 : Instr) = true ∧
    Instr.wf (.txnArm ⟨.host, false⟩ 0 8 0 : Instr) = false := by decide

theorem test_wf_queueSlotOk_slot : Instr.wf (.planeDescriptorMsg 0 0 : Instr) = true ∧
    Instr.wf (.planeDescriptorMsg 64 0 : Instr) = false := by decide

theorem test_wf_below_24_lane : Instr.wf (.surveyAshlarStart 0 0 0 0 : Instr) = true ∧
    Instr.wf (.surveyAshlarStart 0 24 0 0 : Instr) = false := by decide

theorem test_wf_below_8_lane : Instr.wf (.jobStart 0 0 : Instr) = true ∧
    Instr.wf (.jobStart 0 8 : Instr) = false := by decide

theorem test_wf_below_12_n : Instr.wf (.laneSynthLock 0 0 : Instr) = true ∧
    Instr.wf (.laneSynthLock 0 12 : Instr) = false := by decide

theorem test_wf_below_3_why : Instr.wf (.laneLoss 0 0 0 : Instr) = true ∧
    Instr.wf (.laneLoss 0 0 3 : Instr) = false := by decide

theorem test_wf_below_0x100000000_bits : Instr.wf (.eyePointDone 0 0 0 0 : Instr) = true ∧
    Instr.wf (.eyePointDone 0 0 0 4294967296 : Instr) = false := by decide

theorem test_wf_body_length_8 : Instr.wf (.alignmentMarker 0 0 (List.replicate 8 0) 0 0 : Instr) = true ∧
    Instr.wf (.alignmentMarker 0 0 [] 0 0 : Instr) = false := by decide

theorem test_wf_below_16_phase : Instr.wf (.bdEdge 0 0 : Instr) = true ∧
    Instr.wf (.bdEdge 0 16 : Instr) = false := by decide

theorem test_wf_below_4_m : Instr.wf (.markCapture 0 0 (false, 0) : Instr) = true ∧
    Instr.wf (.markCapture 0 4 (false, 0) : Instr) = false := by decide

theorem test_wf_below_8_e : Instr.wf (.encoderStep 0 0 false false : Instr) = true ∧
    Instr.wf (.encoderStep 0 8 false false : Instr) = false := by decide

theorem test_wf_below_512_n : Instr.wf (.cueFire 0 0 : Instr) = true ∧
    Instr.wf (.cueFire 0 512 : Instr) = false := by decide

theorem test_wf_below_2_p : Instr.wf (.pathEnable ⟨.host, false⟩ 0 0 : Instr) = true ∧
    Instr.wf (.pathEnable ⟨.host, false⟩ 2 0 : Instr) = false := by decide

theorem test_wf_below_8_n : Instr.wf (.stepGo ⟨.host, false⟩ 0 0 0 : Instr) = true ∧
    Instr.wf (.stepGo ⟨.host, false⟩ 0 8 0 : Instr) = false := by decide

theorem test_wf_below_4_n : Instr.wf (.focPeriod 0 0 0 0 0 : Instr) = true ∧
    Instr.wf (.focPeriod 0 4 0 0 0 : Instr) = false := by decide

theorem test_wf_codeOk_ia : Instr.wf (.focPeriod 0 0 0 0 0 : Instr) = true ∧
    Instr.wf (.focPeriod 0 0 4096 0 0 : Instr) = false := by decide

theorem test_wf_codeOk_ib : Instr.wf (.focPeriod 0 0 0 0 0 : Instr) = true ∧
    Instr.wf (.focPeriod 0 0 0 4096 0 : Instr) = false := by decide

theorem test_wf_codeOk_ic : Instr.wf (.focPeriod 0 0 0 0 0 : Instr) = true ∧
    Instr.wf (.focPeriod 0 0 0 0 4096 : Instr) = false := by decide

theorem test_wf_below_8_code : Instr.wf (.hallTransition 0 0 0 : Instr) = true ∧
    Instr.wf (.hallTransition 0 0 8 : Instr) = false := by decide

theorem test_wf_below_4_b : Instr.wf (.chopperSwitch 0 0 0 : Instr) = true ∧
    Instr.wf (.chopperSwitch 0 4 0 : Instr) = false := by decide

theorem test_wf_codeOk_v : Instr.wf (.chopperSwitch 0 0 0 : Instr) = true ∧
    Instr.wf (.chopperSwitch 0 0 4096 : Instr) = false := by decide

theorem test_wf_ain_length_16 : Instr.wf (.adcConversion 0 (List.replicate 16 0) (List.replicate 8 0) : Instr) = true ∧
    Instr.wf (.adcConversion 0 [] (List.replicate 8 0) : Instr) = false := by decide

theorem test_wf_ain_all_codeOk : Instr.wf (.adcConversion 0 (List.replicate 16 0) (List.replicate 8 0) : Instr) = true ∧
    Instr.wf (.adcConversion 0 (4096 :: List.replicate 15 0) (List.replicate 8 0) : Instr) = false := by decide

theorem test_wf_hvm_length_8 : Instr.wf (.adcConversion 0 (List.replicate 16 0) (List.replicate 8 0) : Instr) = true ∧
    Instr.wf (.adcConversion 0 (List.replicate 16 0) [] : Instr) = false := by decide

theorem test_wf_hvm_all_codeOk : Instr.wf (.adcConversion 0 (List.replicate 16 0) (List.replicate 8 0) : Instr) = true ∧
    Instr.wf (.adcConversion 0 (List.replicate 16 0) (4096 :: List.replicate 7 0) : Instr) = false := by decide

theorem test_wf_below_32_g : Instr.wf (.gpioEdge 0 0 false : Instr) = true ∧
    Instr.wf (.gpioEdge 0 32 false : Instr) = false := by decide

theorem test_wf_below_8_q : Instr.wf (.ethLaunch 0 0 : Instr) = true ∧
    Instr.wf (.ethLaunch 0 8 : Instr) = false := by decide

theorem test_wf_below_8_c : Instr.wf (.posLoRead ⟨.host, false⟩ 0 0 : Instr) = true ∧
    Instr.wf (.posLoRead ⟨.host, false⟩ 0 8 : Instr) = false := by decide

theorem test_wf_below_0x1000000000_off : Instr.wf (.bar4Read 0 0 0 : Instr) = true ∧
    Instr.wf (.bar4Read 68719476736 0 0 : Instr) = false := by decide

theorem test_wf_below_3_ecc : Instr.wf (.bar4Read 0 0 0 : Instr) = true ∧
    Instr.wf (.bar4Read 0 0 3 : Instr) = false := by decide

theorem test_wf_en_length_bytes_length : Instr.wf (.bar4Write 0 [] [] false : Instr) = true ∧
    Instr.wf (.bar4Write 0 [] [true] false : Instr) = false := by decide

theorem test_wf_below_3_res : Instr.wf (.scrubRead 0 0 : Instr) = true ∧
    Instr.wf (.scrubRead 0 3 : Instr) = false := by decide

theorem test_wf_below_14_dom : Instr.wf (.domainPowerUp 0 0 : Instr) = true ∧
    Instr.wf (.domainPowerUp 0 14 : Instr) = false := by decide

theorem test_wf_mon_length_8 : Instr.wf (.railSeqStep (List.replicate 8 0) : Instr) = true ∧
    Instr.wf (.railSeqStep [] : Instr) = false := by decide

theorem test_wf_mon_all_codeOk : Instr.wf (.railSeqStep (List.replicate 8 0) : Instr) = true ∧
    Instr.wf (.railSeqStep (4096 :: List.replicate 7 0) : Instr) = false := by decide

theorem test_wf_below_24_n : Instr.wf (.railPgChange 0 false : Instr) = true ∧
    Instr.wf (.railPgChange 24 false : Instr) = false := by decide

theorem test_wf_codeOk_code : Instr.wf (.vinTrip 0 : Instr) = true ∧
    Instr.wf (.vinTrip 4096 : Instr) = false := by decide

theorem test_wf_below_nvBytes_off : Instr.wf (.nvWrite ⟨.host, false⟩ 0 0 0 0 : Instr) = true ∧
    Instr.wf (.nvWrite ⟨.host, false⟩ 0 2097152 0 0 : Instr) = false := by decide

theorem test_wf_below_8_boot : Instr.wf (.strapSample 0 0 0 false : Instr) = true ∧
    Instr.wf (.strapSample 8 0 0 false : Instr) = false := by decide

theorem test_wf_below_4_clkm : Instr.wf (.strapSample 0 0 0 false : Instr) = true ∧
    Instr.wf (.strapSample 0 4 0 false : Instr) = false := by decide

theorem test_wf_below_8_prof : Instr.wf (.strapSample 0 0 0 false : Instr) = true ∧
    Instr.wf (.strapSample 0 0 8 false : Instr) = false := by decide

theorem test_wf_below_4_p : Instr.wf (.pllLock 0 0 : Instr) = true ∧
    Instr.wf (.pllLock 0 4 : Instr) = false := by decide

theorem test_wf_below_14_isl : Instr.wf (.islandRelease 0 0 : Instr) = true ∧
    Instr.wf (.islandRelease 0 14 : Instr) = false := by decide

theorem test_wf_below_256_code : Instr.wf (.jtagBypass 0 0 : Instr) = true ∧
    Instr.wf (.jtagBypass 0 256 : Instr) = false := by decide

theorem test_wf_below_32_src : Instr.wf (.internalError 0 0 0 0 : Instr) = true ∧
    Instr.wf (.internalError 0 0 32 0 : Instr) = false := by decide

theorem test_wf_below_4_which : Instr.wf (.inputDeasserted 0 0 : Instr) = true ∧
    Instr.wf (.inputDeasserted 4 0 : Instr) = false := by decide

/-! ### Worked values: three steps of a 10 µs tick on the 5 ns grid (R366); the gates around the turn-on and turn-off of a phase at
half duty (R379); the mean of an HV output over 64 periods (R427). -/

theorem test_step_times : Machine.stepTimes 100000 0 12884901888 = [103335, 106665, 110000] := by decide

theorem test_step_spacing : Machine.spaceSteps 200 (some 1000) [1100, 1300, 1700] = [1200, 1400, 1700] := by decide

theorem test_phase_gates : [664, 665, 1874, 1875, 1914, 1915].map (fun t => Machine.phaseGates 2500 40 t 16384) =
    [(false, false), (true, false), (true, false), (false, false), (false, false), (false, true)] := by decide

theorem test_hv_spread : ((List.range 64).map (fun k => Machine.hvDuty 0 0 k (Machine.wr (R.PIO.HV_VAL_DAC 0 0) 100
    Machine.State.reset))).sum = 100 := by decide

end Sys2Proof

namespace Sys2Proof.Witness
open Sys2Proof Sys2Proof.Machine
set_option maxRecDepth 100000
set_option Elab.async false

/-! ### States that meet the hypotheses of the statements -/

/-- A host access through BAR0, and one through BAR2. -/
def bar0 : Access := ⟨.host, false⟩
def bar2 : Access := ⟨.host, true⟩

/-- A machine that has been running for 10 s, every domain on, with some register fields set. -/
def up (l : List (Loc × Nat)) : State :=
  l.foldl (fun s e => wr e.1 e.2 s)
    { now := 10000000000, domains := (List.range 128).map (fun i => (i, { st := 2, good := true, rel := true })) }

/-- PAGE_CTL.EN of a page. -/
def en (d p : Nat) : Loc × Nat := (R.HDR.PAGE_CTL_EN d p, 1)

/-- A register's layout. -/
def regOf (d p o : Nat) : RegD := (RegWrite.of bar0 d p o 0).r

/-- A whole word of the register space. -/
def at32 (a v : Nat) : Loc × Nat := (⟨a, 0, 32⟩, v)

/-- What a computation gave, or another value where it gave an error; and the error. -/
def okOf {α σ : Type} (r : Except Nat α × σ) (x : α) : α := match r.1 with | .ok y => y | .error _ => x
def errOf {α σ : Type} (r : Except Nat α × σ) : Nat := match r.1 with | .ok _ => 0 | .error e => e

/-- Page memory of die 0 ready, 256 MiB. -/
def mem0 : List (Loc × Nat) := [(R.MEMC.MSTAT_STATE 0, 2), (R.MEMC.MSTAT_FITTED 0, 1)]

/-- A frame in slot 0: FSN 0, one plane on station 0 of one line of 8 pixels in 8 bytes, its tables at address 0. -/
def frame0 : List (Loc × Nat) := [at32 0x70000C 1, at32 0x700030 0x01000701, at32 0x700034 0x00010000]

/-- A station's pages enabled, with a line of 8 elements. -/
def sta0 : List (Loc × Nat) := [en 0 0x50, (R.STA.LINE_LEN_LEN8 0 0, 1)]

/-- Slot 0 surveys its plane: one ashlar of a line of zeros at address 128. -/
def ashlar0 (f : List (Loc × Nat)) : State :=
  { memWrite 80 (leBytes 5 128 ++ leBytes 3 16) (memWrite 128 (compressAshlar 0 0 1 8 (List.replicate 8 0)) (up (frame0 ++ mem0 ++ f))) with
    slots := [(0, { st := 1 })], planes := [(0, { got := true, resCount := 1, busy := [0] })]
    dlanes := [(0, { work := some (.survey 0 0 0) })] }

/-- Slot 0 surveys a carry-mode plane of two lines: its first record, a line of zeros, at address 128. -/
def carry0 : State :=
  { memWrite 80 (leBytes 5 128 ++ leBytes 3 1) (memWrite 128
      (leBytes 4 18 ++ [0, 8, 0, 0xF7, 0xFF, 0, 0, 0, 0, 0, 0, 0, 0, 0, 0, 0, 0xFF, 0xFF])
      (up (frame0 ++ mem0 ++ [at32 0x700030 0x02000711, (roleLoc 0 0, 0)]))) with
    slots := [(0, { st := 1 })], planes := [(0, { got := true, resCount := 1 })]
    dlanes := [(0, { work := some (.carry 0 0), since := 10000000000 })] }

/-- Lane 0 of die 0 decodes the ashlar for printing. -/
def image0 : State :=
  { ashlar0 [(roleLoc 0 0, 1)] with
    dlanes := [(0, { work := some (.image 0 0 0) })], imagers := [(0, { slot := some 0, flying := [(0, 0, 0, 8)] })] }

/-- A job: one line of 8 bytes at 0x1000, compressed at level 0 and placed by the list at 0x2000. -/
def job0 : List Byte :=
  leBytes 4 0x01000001 ++ leBytes 4 0x14001 ++ leBytes 4 1 ++ leBytes 4 0 ++ leBytes 8 0x1000 ++ leBytes 8 0x2000 ++ List.replicate 32 0

/-- Lane 0 of die 0 runs it; the list names 4 KiB at 0x3000. -/
def jobs0 : State :=
  { memWrite 0x2000 (leBytes 8 0x3000 ++ leBytes 4 0x1000 ++ leBytes 4 1) (up mem0) with
    jobs := [(0, some ⟨false, 0, job0, 0, 0, 0, 0, 0, none⟩)] }

/-- The same with two lines, and where its first ashlar goes. -/
def job1 : Job :=
  ⟨false, 0, leBytes 4 0x01000001 ++ leBytes 4 0x14001 ++ leBytes 4 2 ++ leBytes 4 0 ++ leBytes 8 0x1000 ++ leBytes 8 0x2000 ++
    List.replicate 32 0, 0, 0, 0, 0, 0, none⟩
def jobs1 : State := { jobs0 with jobs := [(0, some job1)] }
def coded1 : List Byte :=
  compressAshlar (parseJob job1.desc).level (parseJob job1.desc).filter (jobPart (parseJob job1.desc) 0).2
    (parseJob job1.desc).stride (List.replicate 8 0)
def place1 : Except Nat (List (Nat × Nat) × Nat × Nat) × State :=
  wholePlace 0 (parseJob job1.desc).bufs (parseJob job1.desc).align64 (listBound 0 jobs1) 0 0 coded1.length jobs1

/-- Lane 0 of die 0 in a state. -/
def lane0 (st : Nat) : List (Loc × Nat) := [en 0 0x20, (R.LANE.LSTAT_STATE 0 0, st)]

/-- An eye scan runs on lane 0, of one unit a point. -/
def eye0 : List (Loc × Nat) := [(R.LANE.EYE_STAT_STATE 0 0, 1), (R.LANE.EYE_DWELL_DWELL 0 0, 0)] ++ lane0 5 ++ mem0

/-- The data blocks of a packet of 16 header bytes that begins with these. -/
def packet (b : List Byte) : List Byte := (packetBlocks (b ++ List.replicate (16 - b.length) 0)).tail.flatMap (·.bytes)

/-- The whole of it, with its packet start. -/
def blocks (b : List Byte) : List Byte := (packetBlocks (b ++ List.replicate (16 - b.length) 0)).flatMap (·.bytes)

/-- The raster link of die 0 up, its session open. -/
def rl0 : List (Loc × Nat) := [en 0 0x30, (R.RLNK.BOND_STAT_STATE 0, 2), (R.RLNK.PSN_STAT_SESSION 0, 1), (R.RLNK.RETRY_LIMIT 0, 3)]


/-- Station 0 on, its timing in a state: of a laser head, and of an LED bar. -/
def tim (st : Nat) : List (Loc × Nat) := [(R.STIM.TSTAT_STATE 0 0, st), (R.STIM.BD_CFG_STABLE 0 0, 4), (R.STIM.BD_CFG_LOSS 0 0, 8)] ++ sta0
def led (st : Nat) : List (Loc × Nat) := (R.STA.CFG_HEAD 0 0, 1) :: tim st

/-- A scan placed at tick 100. -/
def scan0 : Placed := { lsn := 0, adv := 1, wstart := 0, facet := 0, tick := 100 }

/-- An upstream packet of the head link, as its data blocks carry it. -/
def hlPacket (type flags psn : Nat) (payload : List Byte) : List Byte :=
  let b := leBytes 1 type ++ leBytes 1 flags ++ leBytes 2 psn ++ List.replicate 8 0 ++ leBytes 4 (1048576 * payload.length) ++ payload
  let c := b ++ leBytes 4 (crc32 b)
  c ++ List.replicate ((8 - c.length % 8) % 8) 0

/-- The head link of station 0 up, its session open. -/
def hl0 : List (Loc × Nat) := [(R.SHL.HSTAT_BOND 0 0, 2), (R.SHL.HSTAT_SESSION 0 0, 1), (R.SHL.HCFG_RETRY_LIMIT 0 0, 3)] ++ sta0

/-- Ageing of station 0 on, its refresh period 1 s; and what its buffers read. -/
def age0 : List (Loc × Nat) := (R.PIO.AGE_CTL_EN 0 0, 1) :: (R.PIO.AGE_CFG_REFRESH 0 0, 1) :: hl0 ++ mem0
def memOf (r : MemRes × State) : List Byte := match r.1 with | .ok b => b | _ => []
def okAge (s : State) : List Byte := memOf (agentRead agOther (ageAddr 0 s) (2 * lineLen 0 s) s)
def okWear (s : State) : List Byte := memOf (agentRead agOther (wearAddr 0 s) (4 * lineLen 0 s) s)

/-- Encoder 0 feeds counter 0 of die 0 only. -/
def src0 : List (Loc × Nat) := (List.range 7).map (fun c => (R.CUE.POS_CFG_SRC 0 (c + 1), 7))

/-- The calibration set of an LED bar in the NV store of die 0. -/
def cal0 : State := { up (led 0) with nv := [(0, 202), (1, 1), (2, 1), (60, 68), (61, 54), (62, 247), (63, 164)] }

/-- Cue 0 of die 0, armed: a cue with action 5. -/
def cue0 : List (Loc × Nat) := [at32 (cueAddr 0 0) 1, at32 (cueAddr 0 0 + 4) 5]

/-- Step channel 0 with limits, and motor channel 0 enabled. -/
def step0 : List (Loc × Nat) := [(R.STEP.VMAX_V 0 0, 1000), (R.STEP.AMAX_A 0 0, 1000), (R.STEP.JMAX_J 0 0, 1000)]
def foc0 : List (Loc × Nat) := [(R.FOC.CTL_EN 0 0, 1)]

/-- Motor bus 0 of die 0 between its limits, its chopper on. -/
def bus0 : List (Loc × Nat) :=
  [(R.BUS.CHOP_CFG_MODE 0 0, 0), (R.BUS.CHOP_CFG_CH_ON 0 0, 100), (R.BUS.VB_CFG_OV_REGEN 0 0, 100), (R.BUS.VB_CFG_OV_HARD 0 0, 200),
    (R.BUS.UVH_HYST 0 0, 10), (R.BUS.UVH_UV_LIM 0 0, 50), (R.BUS.INEFF_TIME 0 0, 5), (R.BUS.INEFF_RISE 0 0, 3)]

/-- Port 0 enabled, its lane up, with a transmit ring whose first descriptor is in host memory with these flags. -/
def eth0 : List (Loc × Nat) :=
  [(R.ELNK.PCFG_EN 0 0, 1), (R.ELNK.PCFG_PROMISC 0 0, 1), (R.LANE.LSTAT_STATE 0 10, 5), (R.ELNK.TXQ_CFG_SIZE 0 0 0, 8)]
def ethTx (flags : Byte) : State := { up eth0 with host := [(8, 60), (10, flags)] }

/-- Power domain `dom` of die 0 in a state, every other one off. -/
def domIn (dom st : Nat) (l : List (Loc × Nat)) : State := { up l with domains := [(dom, { st := st, good := true, rel := true })] }

/-- Rail 0 in a state. -/
def rail0 (st : Nat) : List (Loc × Nat) := [(R.SEQ.RSTAT_STATE 0 0, st), (R.SEQ.RTIME_TIMEOUT 0 0, 65535), (R.SEQ.RAIL_REQ_REQ 0, 1)]

/-- The boot engine at a record, which is the last of an image in the flash. -/
def booting (b : List Byte) : State :=
  { up [(R.RST.BOOT_STAT_STATE 0, 2)] with
    flash := (8, BitVec.ofNat 8 (64 + b.length)) :: [(12, 181), (13, 89), (14, 34), (15, 140)] ++ (List.range b.length).map (fun i => (64 + i, b.getD i 0)),
    boot := { pos := 64, crc := 0xFFFFFFFF } }

/-- Die 0 in a phase of its release, and every die in it cold. -/
def phase0 (p : Nat) (l : List (Loc × Nat)) : State := { up l with releases := [(0, { phase := p })] }

/-- States that meet the hypotheses of StepRunsTheFrontCommand. -/
theorem witness_StepRunsTheFrontCommand :
    (∃ c : Instr, ∃ rest : List Instr, ∃ s : State, (s.pending = c :: rest)) ∧
    (∃ s : State, (s.pending = [])) := by
  refine
    ⟨⟨.errPulseEnd, [], { up [] with pending := [.errPulseEnd] }, ?_⟩,
      ⟨up [], ?_⟩⟩ <;>
  (repeat' apply And.intro) <;>
    decide +kernel

/-- States that meet the hypotheses of CommandsLeaveQueueAndTime. -/
theorem witness_CommandsLeaveQueueAndTime :
    (∃ c : Instr, ∃ s : State, ∃ t : State, (exec c s = .next t)) ∧
    (∃ c : Instr, ∃ rest : List Instr, ∃ s : State, ∃ t : State, (s.pending = c :: rest) ∧ (step s = .next t)) := by
  refine
    ⟨⟨.errPulseEnd, up [], up [], ?_⟩,
      ⟨.errPulseEnd, [], { up [] with pending := [.errPulseEnd] }, up [], ?_⟩⟩ <;>
  (repeat' apply And.intro) <;>
    first | decide +kernel | exact rfl

/-- States that meet the hypotheses of StepKeepsCanonicalForm. -/
theorem witness_StepKeepsCanonicalForm :
    (∃ s : State, ∃ t : State, (s.canonical) ∧ (step s = .next t)) := by
  refine
    ⟨State.reset, idle State.reset, ?_⟩ <;>
  (repeat' apply And.intro) <;>
    first | decide +kernel | exact rfl

/-- States that meet the hypotheses of ReverseStepsOweLines. -/
theorem witness_ReverseStepsOweLines :
    (∃ k : Nat, ∃ t : Nat, ∃ count : Nat, ∃ interval : Nat, ∃ up : Bool, ∃ s : State, (ledBar k s = true) ∧ (timSt k s = 2) ∧ (up = flag
      (R.STIM.LG_CFG_REVERSE (stDie k) (stLoc k)) s) ∧ (rd (R.STIM.LG_ACC_A (stDie k) (stLoc k)) s < rd (R.STIM.LG_DEN_DEN (stDie k) (stLoc k)) s) ∧ (rd
      (R.STIM.LG_NUM_NUM (stDie k) (stLoc k)) s ≤ rd (R.STIM.LG_DEN_DEN (stDie k) (stLoc k)) s)) ∧
    (∃ k : Nat, ∃ t : Nat, ∃ count : Nat, ∃ interval : Nat, ∃ up : Bool, ∃ s : State, (ledBar k s = true) ∧ (timSt k s = 2) ∧ (up ≠ flag
      (R.STIM.LG_CFG_REVERSE (stDie k) (stLoc k)) s) ∧ (0 < (staOf k s).owed) ∧ (rd (R.STIM.LG_DEN_DEN (stDie k) (stLoc k)) s ≤ rd (R.STIM.LG_ACC_A (stDie
      k) (stLoc k)) s + rd (R.STIM.LG_NUM_NUM (stDie k) (stLoc k)) s)) := by
  refine
    ⟨⟨0, 0, 0, 0, false, up [(R.STA.CFG_HEAD 0 0, 1), (R.STIM.TSTAT_STATE 0 0, 2), (R.STIM.LG_DEN_DEN 0 0, 10), (R.STIM.LG_NUM_NUM 0 0, 3)], ?_⟩,
      ⟨0, 0, 0, 0, true, { up [(R.STA.CFG_HEAD 0 0, 1), (R.STIM.TSTAT_STATE 0 0, 2), (R.STIM.LG_DEN_DEN 0 0, 10), (R.STIM.LG_NUM_NUM 0 0, 3), (R.STIM.LG_ACC_A 0 0, 8)] with stations := [(0, { owed := 1 })] },
        ?_⟩⟩ <;>
  (repeat' apply And.intro) <;>
    decide +kernel

/-- States that meet the hypotheses of IntegratorNeverWindsUp. -/
theorem witness_IntegratorNeverWindsUp :
    (∃ g : Stage, ∃ e : Int, ∃ u : Int, (g.lo ≤ g.hi) ∧ ((u = g.hi ∧ 0 < mul31 g.ki e) ∨ (u = g.lo ∧ mul31 g.ki e < 0))) ∧
    (∃ g : Stage, ∃ e : Int, ∃ u : Int, (g.lo ≤ g.hi) ∧ (¬ ((u = g.hi ∧ 0 < mul31 g.ki e) ∨ (u = g.lo ∧ mul31 g.ki e < 0)))) := by
  refine
    ⟨⟨⟨0, 4294967296, 0, 0, 0, 100, 0⟩, 1000, 100, ?_⟩,
      ⟨⟨0, 0, 0, 0, 0, 100, 0⟩, 1000, 50, ?_⟩⟩ <;>
  (repeat' apply And.intro) <;>
    decide +kernel

/-- States that meet the hypotheses of OnlyTheirCommandsChange. -/
theorem witness_OnlyTheirCommandsChange :
    (∃ c : Instr, ∃ s : State, ∃ t : State, (exec c s = .next t)) := by
  refine
    ⟨.errPulseEnd, up [], up [], ?_⟩ <;>
  (repeat' apply And.intro) <;>
    first | decide +kernel | exact rfl

/-- States that meet the hypotheses of EventsReachOnlyTheirUnits. -/
theorem witness_EventsReachOnlyTheirUnits :
    (∃ c : Instr, ∃ s : State, ∃ t : State, (exec c s = .next t)) := by
  refine
    ⟨.errPulseEnd, up [], up [], ?_⟩ <;>
  (repeat' apply And.intro) <;>
    first | decide +kernel | exact rfl

/-- States that meet the hypotheses of LaneBlocksReadBack. -/
theorem witness_LaneBlocksReadBack :
    (∃ h : Nat, ∃ n : Nat, ∃ d : List Bool, (58 ≤ n) ∧ (n < d.length)) ∧
    (∃ h : Nat, ∃ n : Nat, ∃ r : List Bool, (58 ≤ n) ∧ (n < r.length)) ∧
    (∃ h : Nat, ∃ b : Block, (b.bytes.length = 8)) := by
  refine
    ⟨⟨0, 58, List.replicate 59 true, ?_⟩,
      ⟨0, 58, List.replicate 59 true, ?_⟩,
      ⟨0, fillerBlock, ?_⟩⟩ <;>
  (repeat' apply And.intro) <;>
    decide +kernel

/-- States that meet the hypotheses of PacketsReadBack. -/
theorem witness_PacketsReadBack :
    (∃ b : List Byte, ∃ start : Block, ∃ rest : List Block, (16 ≤ b.length) ∧ ((parseRaster b).len = b.length - 16) ∧ (packetBlocks b = start :: rest)) ∧
    (∃ type : Nat, ∃ flags : Nat, ∃ psn : Nat, ∃ fsn : Nat, ∃ course : Nat, ∃ ashlar : Nat, ∃ offset : Nat, ∃ payload : List Byte, (type < 256) ∧ (flags <
      256) ∧ (psn < 65536) ∧ (fsn < 4294967296) ∧ (course < 65536) ∧ (ashlar < 65536) ∧ (offset < 1048576) ∧ (payload.length < 4096)) ∧
    (∃ init : Nat, ∃ psn : Nat, (init < 2) ∧ (psn < 65536)) ∧
    (∃ init : Nat, ∃ counts : List Nat, (init < 2) ∧ (counts.length = 17)) := by
  refine
    ⟨⟨List.replicate 16 0, (packetBlocks (List.replicate 16 0)).headD fillerBlock, (packetBlocks (List.replicate 16 0)).tail, ?_⟩,
      ⟨1, 0, 7, 1, 0, 0, 1048575, [], ?_⟩,
      ⟨1, 65535, ?_⟩,
      ⟨1, List.replicate 17 3, ?_⟩⟩ <;>
  (repeat' apply And.intro) <;>
    decide +kernel

/-- States that meet the hypotheses of BondSlotsCarryTheStream. -/
theorem witness_BondSlotsCarryTheStream :
    (∃ i : Nat, ∃ p : Nat, ∃ x : Nat, ∃ s : State, ((bondOf i s).lanes[p]? = some x) ∧ ((bondOf i s).lanes.Nodup) ∧ ((∀ m ∈ (bondOf i s).lanes, m < 12)) ∧
      (2 ≤ laneSt (bondDie i) x s) ∧ (laneSt (bondDie i) x s ≤ 5) ∧ ((laneOf (bondDie i) x s).prbs = false) ∧ ((laneOf (bondDie i) x s).far = false) ∧
      ((laneOf (bondDie i) x s).near = false) ∧ (frameOut (bondDie i) x s = false)) := by
  refine
    ⟨0, 1, 1, { up [(R.LANE.LSTAT_STATE 0 1, 5)] with bonds := [(0, { lanes := [0, 1] })] }, ?_⟩ <;>
  (repeat' apply And.intro) <;>
    decide +kernel

/-- States that meet the hypotheses of WritesTurnedAwayAreRecorded. -/
theorem witness_WritesTurnedAwayAreRecorded :
    (∃ a : Access, ∃ off : Nat, ∃ be : Nat, ∃ v : Word, ∃ s : State, (accessDown a s = false) ∧ (off < 0x8000000) ∧ (s.dies ≤ off / 0x1000000)) ∧
    (∃ a : Access, ∃ d : Nat, ∃ p : Nat, ∃ o : Nat, ∃ be : Nat, ∃ v : Word, ∃ s : State, ∃ r : RegD, (accessDown a s = false) ∧ (d < s.dies) ∧ (p < 256) ∧
      (o < 0x1000) ∧ (o % 4 = 0) ∧ (regAt d (p * 0x1000 + o) = some r) ∧ (pagePresent d p s = true) ∧ (be % 16 ≠ 15)) ∧
    (∃ a : Access, ∃ d : Nat, ∃ p : Nat, ∃ o : Nat, ∃ v : Word, ∃ s : State, ∃ r : RegD, (accessDown a s = false) ∧ (dieAnswers d s = true) ∧ (dieFenced d
      s = false) ∧ (p < 256) ∧ (0x40 ≤ o) ∧ (o < 0x1000) ∧ (o % 4 = 0) ∧ (regAt d (p * 0x1000 + o) = some r) ∧ (pagePresent d p s = true) ∧ (domSt d
      (pageDomain p) s ≠ 2)) ∧
    (∃ a : Access, ∃ d : Nat, ∃ p : Nat, ∃ o : Nat, ∃ v : Word, ∃ s : State, ∃ r : RegD, (accessDown a s = false) ∧ (dieAnswers d s = true) ∧ (dieFenced d
      s = true) ∧ (p < 256) ∧ (p ≠ 0x10) ∧ (o < 0x1000) ∧ (o % 4 = 0) ∧ (regAt d (p * 0x1000 + o) = some r) ∧ (pagePresent d p s = true)) ∧
    (∃ a : Access, ∃ d : Nat, ∃ p : Nat, ∃ o : Nat, ∃ v : Word, ∃ s : State, ∃ r : RegD, (a.bar2 = true) ∧ (p ∈ [0x11, 0x12]) ∧ (0x40 ≤ o) ∧ (o < 0x1000)
      ∧ (o % 4 = 0) ∧ (regAt d (p * 0x1000 + o) = some r) ∧ (privMask r ≠ 0) ∧ (Reaches { a with bar2 := false } d p o s)) ∧
    (∃ k : Nat, ∃ x : Nat, ∃ w : Bool, ∃ s : State, (k < 8) ∧ (x < 0x8000000) ∧ (flag (R.CTRL.ACC_ERR_VALID 0) s = false)) ∧
    (∃ k : Nat, ∃ x : Nat, ∃ w : Bool, ∃ s : State, (k < 8) ∧ (x < 0x8000000) ∧ (flag (R.CTRL.ACC_ERR_VALID 0) s = true)) ∧
    (∃ x : Nat, ∃ s : State, (x < 0x8000000) ∧ (flag (R.CTRL.PRIV_ADDR_VALID 0) s = false)) ∧
    (∃ x : Nat, ∃ s : State, (x < 0x8000000) ∧ (flag (R.CTRL.PRIV_ADDR_VALID 0) s = true)) ∧
    (∃ d : Nat, ∃ p : Nat, ∃ o : Nat, ∃ k : Nat, ∃ x : Nat, ∃ w : Bool, ∃ s : State, (p < 256) ∧ (p ≠ 0) ∧ (p ≠ 1) ∧ (p ≠ 0x15) ∧ (0x40 ≤ o) ∧ (o <
      0x1000)) := by
  refine
    ⟨⟨bar0, 0x7000000, 15, 0, { up [] with part := .px7182 }, ?_⟩,
      ⟨bar0, 0, 0x11, 0x44, 7, 0, up [], regOf 0 0x11 0x44, ?_⟩,
      ⟨bar0, 0, 0x40, 0x54, 0, { up [] with domains := [] }, regOf 0 0x40 0x54, ?_⟩,
      ⟨bar0, 0, 0x11, 0x44, 0, { up [] with fenced := [.die 0] }, regOf 0 0x11 0x44, ?_⟩,
      ⟨bar2, 0, 0x11, 0x44, 0, up [], regOf 0 0x11 0x44, ?_⟩,
      ⟨7, 0x7FFFFFC, true, up [], ?_⟩,
      ⟨0, 0, false, up [(R.CTRL.ACC_ERR_VALID 0, 1)], ?_⟩,
      ⟨0x7FFFFFC, up [], ?_⟩,
      ⟨0, up [(R.CTRL.PRIV_ADDR_VALID 0, 1)], ?_⟩,
      ⟨0, 0x11, 0x44, 0, 0, true, up [], ?_⟩⟩ <;>
  (repeat' apply And.intro) <;>
    decide +kernel

/-- States that meet the hypotheses of LaterFollowsTheWrap. -/
theorem witness_LaterFollowsTheWrap :
    (∃ w : Nat, ∃ a : Nat, ∃ b : Nat, (1 ≤ w) ∧ (a < 2 ^ w) ∧ (b < 2 ^ w)) ∧
    (∃ w : Nat, ∃ a : Nat, ∃ b : Nat, (1 ≤ w) ∧ (a < 2 ^ w) ∧ (b < 2 ^ w) ∧ (later w a b = true)) ∧
    (∃ w : Nat, ∃ b : Nat, ∃ k : Nat, (1 ≤ w) ∧ (b < 2 ^ w) ∧ (1 ≤ k) ∧ (k < 2 ^ (w - 1))) := by
  refine
    ⟨⟨8, 1, 255, ?_⟩,
      ⟨8, 1, 255, ?_⟩,
      ⟨8, 255, 127, ?_⟩⟩ <;>
  (repeat' apply And.intro) <;>
    decide +kernel

/-- States that meet the hypotheses of PageHeaderCommandsAct. -/
theorem witness_PageHeaderCommandsAct :
    (∃ a : Access, ∃ d : Nat, ∃ p : Nat, ∃ v : Word, ∃ s : State, (p < 256) ∧ (Reaches a d p 0x18 s)) ∧
    (∃ a : Access, ∃ d : Nat, ∃ p : Nat, ∃ src : Nat, ∃ s : State, (p ∈ [0x12, 0x15, 0x31, 0x32, 0x38, 0x39, 0x40]) ∧ (faultClass p src = 1) ∧ (Reaches a
      d p 0x20 s)) ∧
    (∃ a : Access, ∃ d : Nat, ∃ p : Nat, ∃ v : Word, ∃ s : State, (p < 256) ∧ (Reaches a d p 8 s) ∧ (startsNothing p = true) ∧ ((testBit v.toNat 3 ||
      decide (pageDomain p ≤ 1)) = flag (R.HDR.PAGE_CTL_PWR_REQ d p) s) ∧ (testBit v.toNat 1 = false) ∧ (testBit v.toNat 2 = false) ∧ (testBit v.toNat 4 =
      false)) ∧
    (∃ a : Access, ∃ d : Nat, ∃ p : Nat, ∃ o : Nat, ∃ v : Word, ∃ s : State, (p ∈ [2, 3, 4, 5, 6, 7, 8, 9, 0x14, 0x32, 0x39, 0x78]) ∧ (Reaches a d p 8 s)
      ∧ (testBit v.toNat 2 = false) ∧ (testBit v.toNat 4 = false) ∧ (testBit v.toNat 3 = flag (R.HDR.PAGE_CTL_PWR_REQ d p) s) ∧ ((p ≤ 0x32 → testBit v.toNat
      3 = true)) ∧ (0x40 ≤ o) ∧ (o < 0x1000)) ∧
    (∃ a : Access, ∃ d : Nat, ∃ p : Nat, ∃ v : Word, ∃ s : State, (p ∈ [0x31, 0x39, 0x68, 0x69]) ∧ (Reaches a d p 8 s) ∧ (testBit v.toNat 1 = false) ∧
      (testBit v.toNat 4 = false)) ∧
    (∃ a : Access, ∃ d : Nat, ∃ p : Nat, ∃ v : Word, ∃ s : State, (p ∈ [0x39, 0x68, 0x69]) ∧ (Reaches a d p 8 s) ∧ (testBit v.toNat 1 = false) ∧ (testBit
      v.toNat 2 = false) ∧ (faultsHold d p s = false)) ∧
    (∃ a : Access, ∃ d : Nat, ∃ p : Nat, ∃ v : Word, ∃ s : State, (p < 256) ∧ (Reaches a d p 8 s) ∧ (3 ≤ pageDomain p) ∧ ((domainOf d (pageDomain p) s).st
      = 0) ∧ ((domainOf d (pageDomain p) s).failed = false) ∧ ((domNeeds d (pageDomain p)).all (fun e => domSt d e s == 2) = true) ∧ ((∀ i < 8, rd
      (R.TXN.TXS_STAT_STATE d i) s ≠ 1)) ∧ (flag (R.HDR.PAGE_CTL_PWR_REQ d p) s = false) ∧ (testBit v.toNat 0 = flag (R.HDR.PAGE_CTL_EN d p) s) ∧ (testBit
      v.toNat 1 = false) ∧ (testBit v.toNat 2 = false) ∧ (testBit v.toNat 3 = true) ∧ (testBit v.toNat 4 = false)) ∧
    (∃ k : Nat, ∃ s : State, (k ∈ s.unfPending) ∧ (printsNow k s = false) ∧ ((∃ m ∈ headLanes k, laneFenced (stDie k) m s = false))) := by
  refine
    ⟨⟨bar0, 0, 0x39, 0, up [], ?_⟩,
      ⟨bar0, 0, 0x39, 8, up [], ?_⟩,
      ⟨bar0, 0, 0x39, 1, up [], ?_⟩,
      ⟨bar0, 0, 0x32, 0x40, 8, up [], ?_⟩,
      ⟨bar0, 0, 0x39, 4, up [], ?_⟩,
      ⟨bar0, 0, 0x39, 16, up [], ?_⟩,
      ⟨bar0, 0, 0x39, 8, { up [] with domains := (List.range 13).map (fun i => (i, { st := 2, good := true, rel := true })) }, ?_⟩,
      ⟨0, { up [] with unfPending := [0] }, ?_⟩⟩ <;>
  (repeat' apply And.intro) <;>
    decide +kernel

/-- States that meet the hypotheses of RegisterAccessCommandsAct. -/
theorem witness_RegisterAccessCommandsAct :
    (∃ a : Access, ∃ d : Nat, ∃ p : Nat, ∃ o : Nat, ∃ v : Word, ∃ s : State, ∃ r : RegD, ((p ∈ [0x11, 0x12] ∨ p = 0x40 ∧ o ∉ [0x54, 0x70] ∨ p = 0x60 ∧ o <
      0x300 ∧ o ∉ [0x40, 0x50])) ∧ (0x40 ≤ o) ∧ (o < 0x1000) ∧ (o % 4 = 0) ∧ (regAt d (p * 0x1000 + o) = some r) ∧ (Reaches a d p o s)) ∧
    (∃ a : Access, ∃ d : Nat, ∃ s : State, (Answers a d 1 s)) ∧
    (∃ a : Access, ∃ off : Nat, ∃ write : Bool, ∃ s : State, (accessDown a s = false) ∧ (off < 0x8000000) ∧ (dieAnswers (off / 0x1000000) s = true) ∧
      (flag (R.RST.LOCKUP_VALID (off / 0x1000000)) s = false)) ∧
    (∃ d : Nat, ∃ s : State, (dieUp d s = true) ∧ (coldRunning s = false)) ∧
    (∃ e : Nat, ∃ s : State, (s.errPulseEnd = some e) ∧ (e ≤ s.now)) := by
  refine
    ⟨⟨bar0, 0, 0x11, 0x44, 0, up [], regOf 0 0x11 0x44, ?_⟩,
      ⟨bar0, 0, up [], ?_⟩,
      ⟨bar0, 0, false, up [], ?_⟩,
      ⟨0, up [], ?_⟩,
      ⟨5, { up [] with errPulseEnd := some 5 }, ?_⟩⟩ <;>
  (repeat' apply And.intro) <;>
    decide +kernel

/-- States that meet the hypotheses of StagingSlotCommandsAct. -/
theorem witness_StagingSlotCommandsAct :
    (∃ a : Access, ∃ d : Nat, ∃ i : Nat, ∃ v : Word, ∃ s : State, (i < 8) ∧ (Reaches a d (2 + i) 0x40 s) ∧ (slotBusy d i s = false) ∧ (testBit v.toNat 2 =
      false)) ∧
    (∃ d : Nat, ∃ i : Nat, ∃ s : State, (d < s.dies) ∧ (i < 8) ∧ (rd (R.TXN.TXS_STAT_STATE d i) s = 4) ∧ (condReason d i s = 0) ∧ (badEntry d i (flag
      (R.TXN.TXS_STAT_VIEW d i) s) s = none)) ∧
    (∃ d : Nat, ∃ i : Nat, ∃ s : State, (d < s.dies) ∧ (i < 8) ∧ (rd (R.TXN.TXS_STAT_STATE d i) s = 4) ∧ (condReason d i s ≠ 0)) ∧
    (∃ d : Nat, ∃ i : Nat, ∃ n : Nat, ∃ r : Nat, ∃ x : Nat, ∃ s : State, (d < s.dies) ∧ (i < 8) ∧ (rd (R.TXN.TXS_STAT_STATE d i) s = 4) ∧ (condReason d i
      s = 0) ∧ (badEntry d i (flag (R.TXN.TXS_STAT_VIEW d i) s) s = some (n, r, x)) ∧ (n < 512) ∧ (r < 16)) ∧
    (∃ a : Access, ∃ d : Nat, ∃ i : Nat, ∃ v : Word, ∃ s : State, (i < 8) ∧ (Reaches a d (2 + i) 0x40 s) ∧ (slotBusy d i s = true) ∧ (slotDecided d i s =
      false) ∧ (testBit v.toNat 0 = false) ∧ (testBit v.toNat 2 = false) ∧ (bitsOf v.toNat 8 3 = rd (R.TXN.TXS_CTL_COND d i) s) ∧ (bitsOf v.toNat 12 1 = rd
      (R.TXN.TXS_CTL_STATION d i) s)) ∧
    (∃ a : Access, ∃ d : Nat, ∃ i : Nat, ∃ v : Word, ∃ s : State, (i < 8) ∧ (Reaches a d (2 + i) 0x40 s) ∧ (slotBusy d i s = false) ∧ (testBit v.toNat 0 =
      false)) ∧
    (∃ d : Nat, ∃ i : Nat, ∃ s : State, (d < s.dies) ∧ (i < 8) ∧ (rd (R.TXN.TXS_STAT_STATE d i) s = 1) ∧ (slotDue d i s = true)) := by
  refine
    ⟨⟨bar0, 0, 0, 1, up [], ?_⟩,
      ⟨0, 0, up [(R.TXN.TXS_STAT_STATE 0 0, 4)], ?_⟩,
      ⟨0, 0, up [(R.TXN.TXS_STAT_STATE 0 0, 4), (R.TXN.TXS_CTL_COND 0 0, 7)], ?_⟩,
      ⟨0, 0, 0, 2, 0x2000, up [(R.TXN.TXS_STAT_STATE 0 0, 4), (R.TXN.TXS_COUNT_COUNT 0 0, 1), (R.TXN.ENTRY_ADDR 0 0 0, 0x2000), (R.TXN.ENTRY_MASK 0 0 0,
        1)], ?_⟩,
      ⟨bar0, 0, 0, 2, up [(R.TXN.TXS_STAT_STATE 0 0, 1)], ?_⟩,
      ⟨bar0, 0, 0, 4, up [], ?_⟩,
      ⟨0, 0, up [(R.TXN.TXS_STAT_STATE 0 0, 1)], ?_⟩⟩ <;>
  (repeat' apply And.intro) <;>
    decide +kernel

/-- States that meet the hypotheses of CrossDieCommandsAct. -/
theorem witness_CrossDieCommandsAct :
    (∃ a : Access, ∃ v : Word, ∃ s : State, (Reaches a 0 1 0x80 s) ∧ (testBit v.toNat 1 = false) ∧ (xtxnState s ≠ 1) ∧ (xtxnState s ≠ 2) ∧ (mapDies (rd
      (R.CTRL.XTXN_MAP_MAP 0) s) ≠ []) ∧ (later 64 (rd (R.CTRL.XTXN_TIME_LO_T 0) s + 4294967296 * rd (R.CTRL.XTXN_TIME_HI_T 0) s) ((ltime 0 s + 49999) %
      18446744073709551616) = true)) ∧
    (∃ a : Access, ∃ v : Word, ∃ s : State, (Reaches a 0 1 0x80 s) ∧ (testBit v.toNat 1 = false) ∧ (xtxnState s ≠ 1) ∧ (xtxnState s ≠ 2) ∧ (later 64 (rd
      (R.CTRL.XTXN_TIME_LO_T 0) s + 4294967296 * rd (R.CTRL.XTXN_TIME_HI_T 0) s) ((ltime 0 s + 49999) % 18446744073709551616) = false)) ∧
    (∃ a : Access, ∃ v : Word, ∃ s : State, (Reaches a 0 1 0x80 s) ∧ (testBit v.toNat 0 = false) ∧ (xtxnState s = 1)) ∧
    (∃ d : Nat, ∃ i : Nat, ∃ tsn : Nat, ∃ time : Nat, ∃ s : State, (s.msgs.find? (isPrepare d) = some (.prepare d i tsn time)) ∧ (i < 8) ∧ (dieUp d s =
      true) ∧ (dieFenced d s = false) ∧ (slotBusy d i s = false)) ∧
    (∃ d : Nat, ∃ s : State, (s.msgs.find? (isAnswer d) = some (.answer d 0)) ∧ (xtxnState s = 1)) ∧
    (∃ d : Nat, ∃ r : Nat, ∃ s : State, (s.msgs.find? (isAnswer d) = some (.answer d r)) ∧ (xtxnState s = 1) ∧ (0 < r) ∧ (r < 16) ∧ (d < 8)) ∧
    (∃ d : Nat, ∃ i : Nat, ∃ s : State, (s.msgs.find? (isCommit d) = some (.commit d i)) ∧ (slotBusy d i s = true) ∧ (flag (R.TXN.TXS_STAT_XDIE d i) s =
      true) ∧ (dieFenced d s = false)) ∧
    (∃ d : Nat, ∃ i : Nat, ∃ s : State, (s.msgs.find? (isAbort d) = some (.abort d i)) ∧ (i < 8) ∧ (slotBusy d i s = true) ∧ (flag (R.TXN.TXS_STAT_XDIE d
      i) s = true)) ∧
    (∃ d : Nat, ∃ s : State, (s.msgs.find? (isReport d) = some (.report d)) ∧ (xtxnState s = 2)) ∧
    (∃ d : Nat, ∃ i : Nat, ∃ s : State, (xtxnState s = 1) ∧ (later 64 s.xtxn.time ((ltime 0 s + 20000) % 18446744073709551616) = false) ∧
      (s.xtxn.slots.find? (fun x => !s.xtxn.answered.contains x.1 || dieFenced x.1 s) = some (d, i)) ∧ (d < 8)) := by
  refine
    ⟨⟨bar0, 1, up [(R.CTRL.XTXN_MAP_MAP 0, 8), (R.CTRL.XTXN_TIME_LO_T 0, 1411065408), (R.CTRL.XTXN_TIME_HI_T 0, 2)], ?_⟩,
      ⟨bar0, 1, up [(R.CTRL.XTXN_MAP_MAP 0, 8)], ?_⟩,
      ⟨bar0, 2, up [(R.CTRL.XTXN_STAT_STATE 0, 1)], ?_⟩,
      ⟨1, 0, 5, 6, { up [] with msgs := [.prepare 1 0 5 6] }, ?_⟩,
      ⟨1, { up [(R.CTRL.XTXN_STAT_STATE 0, 1)] with msgs := [.answer 1 0] }, ?_⟩,
      ⟨1, 3, { up [(R.CTRL.XTXN_STAT_STATE 0, 1)] with msgs := [.answer 1 3] }, ?_⟩,
      ⟨1, 0, { up [(R.TXN.TXS_STAT_STATE 1 0, 1), (R.TXN.TXS_STAT_XDIE 1 0, 1)] with msgs := [.commit 1 0] }, ?_⟩,
      ⟨1, 0, { up [(R.TXN.TXS_STAT_STATE 1 0, 1), (R.TXN.TXS_STAT_XDIE 1 0, 1)] with msgs := [.abort 1 0] }, ?_⟩,
      ⟨1, { up [(R.CTRL.XTXN_STAT_STATE 0, 2)] with msgs := [.report 1] }, ?_⟩,
      ⟨1, 0, { up [(R.CTRL.XTXN_STAT_STATE 0, 1)] with xtxn := { slots := [(1, 0)] } }, ?_⟩⟩ <;>
  (repeat' apply And.intro) <;>
    decide +kernel

/-- States that meet the hypotheses of FrameEntryCommandsAct. -/
theorem witness_FrameEntryCommandsAct :
    (∃ a : Access, ∃ v : Word, ∃ s : State, (Reaches a 0 0x48 0x44 s) ∧ (slotFree (v.toNat % 64) s = true) ∧ (hostReserved (v.toNat % 64) s = true) ∧
      (frameReason (descBytes (v.toNat % 64) s) s = 0)) ∧
    (∃ a : Access, ∃ v : Word, ∃ s : State, (Reaches a 0 0x48 0x44 s) ∧ (slotFree (v.toNat % 64) s = true) ∧ (hostReserved (v.toNat % 64) s = true) ∧
      (frameReason (descBytes (v.toNat % 64) s) s ≠ 0)) ∧
    (∃ i : Nat, ∃ k : Nat, ∃ m : Msg, ∃ s : State, (s.msgs.find? (isPlaneMsg i k) = some m) ∧ ((slotOf i s).st ≠ 0) ∧ (dieFenced (stDie k) s = false) ∧
      ((planeOf i k s).got = false)) ∧
    (∃ a : Access, ∃ d : Nat, ∃ i : Nat, ∃ v : Word, ∃ s : State, (Reaches a d 0x48 0x114 s) ∧ (slotOfFsn (rd (R.FRAME.RES_FSN_FSN d) s) s = some i) ∧
      ((planeOf i (2 * d + bitsOf v.toNat 24 1) s).got = true) ∧ ((planeOf i (2 * d + bitsOf v.toNat 24 1) s).resSet = [])) ∧
    (∃ a : Access, ∃ d : Nat, ∃ i : Nat, ∃ v : Word, ∃ s : State, (Reaches a d 0x48 0x114 s) ∧ (slotOfFsn (rd (R.FRAME.RES_FSN_FSN d) s) s = some i) ∧
      ((planeOf i (2 * d + bitsOf v.toNat 24 1) s).got = true) ∧ (frameOrigin i s = 0) ∧ ((planeDesc i (2 * d + bitsOf v.toNat 24 1) s).carry = false) ∧
      ((planeOf i (2 * d + bitsOf v.toNat 24 1) s).failed = some (v.toNat % 131072))) ∧
    (∃ i : Nat, ∃ s : State, (i < 64) ∧ ((slotOf i s).left = false) ∧ ((slotOf i s).st = 1 ∨ (slotOf i s).st = 2) ∧ (admissible i s = true) ∧ (frameCount
      i s = 0)) ∧
    (∃ i : Nat, ∃ e : Nat, ∃ s : State, (i < 64) ∧ ((slotOf i s).left = false) ∧ ((slotOf i s).st = 1 ∨ (slotOf i s).st = 2) ∧ (admissible i s = true) ∧
      (frameCount i s ≠ 0) ∧ (frameOrigin i s = 0) ∧ ((slotOf i s).resv = none) ∧ (freeEntry s = some e)) ∧
    (∃ i : Nat, ∃ s : State, (i < 64) ∧ ((slotOf i s).left = false) ∧ ((slotOf i s).st = 1 ∨ (slotOf i s).st = 2) ∧ (admissible i s = true) ∧ (frameCount
      i s ≠ 0) ∧ (frameOrigin i s = 0) ∧ ((slotOf i s).resv = none) ∧ (freeEntry s = none)) ∧
    (∃ i : Nat, ∃ s : State, (i < 64) ∧ ((slotOf i s).left = false) ∧ ((slotOf i s).st = 3) ∧ ((∀ j ∈ sharing i s, 1 ≤ (slotOf j s).st → (slotOf j s).st ≤
      4 → later 32 (frameFsn i s) (frameFsn j s) = false))) := by
  refine
    ⟨⟨bar0, 0, up ((R.FRAME.HOST_RES0_MASK 0, 1) :: frame0 ++ sta0 ++ mem0), ?_⟩,
      ⟨bar0, 0, up [(R.FRAME.HOST_RES0_MASK 0, 1)], ?_⟩,
      ⟨0, 0, .plane 0 0, { up [] with slots := [(0, { st := 1 })], msgs := [.plane 0 0] }, ?_⟩,
      ⟨bar0, 0, 0, 0, { up [] with slots := [(0, { st := 1 })], planes := [(0, { got := true })] }, ?_⟩,
      ⟨bar0, 0, 0, 0, { up [] with slots := [(0, { st := 1 })], planes := [(0, { got := true, failed := some 0 })] }, ?_⟩,
      ⟨0, { up [] with slots := [(0, { st := 1 })] }, ?_⟩,
      ⟨0, 0, { up [at32 0x70000C 0x10000, (R.FRAME.RET_CFG_LIMIT 0, 1)] with slots := [(0, { st := 1 })] }, ?_⟩,
      ⟨0, { up [at32 0x70000C 0x10000] with slots := [(0, { st := 1 })] }, ?_⟩,
      ⟨0, { up [] with slots := [(0, { st := 3 })] }, ?_⟩⟩ <;>
  (repeat' apply And.intro) <;>
    decide +kernel

/-- States that meet the hypotheses of FrameExitCommandsAct. -/
theorem witness_FrameExitCommandsAct :
    (∃ i : Nat, ∃ s : State, (i < 64) ∧ ((slotOf i s).st = 6) ∧ (frameOrigin i s = 0) ∧ (frameCount i s = 0) ∧ (s.freedWait = []) ∧ (s.freed.length <
      128)) ∧
    (∃ i : Nat, ∃ s : State, (i < 64) ∧ ((slotOf i s).st = 6) ∧ (frameOrigin i s = 0) ∧ (frameCount i s = 0) ∧ (s.freedWait = []) ∧ (128 ≤
      s.freed.length)) ∧
    (∃ i : Nat, ∃ e : Nat, ∃ s : State, (i < 64) ∧ ((slotOf i s).st = 6) ∧ (frameOrigin i s = 0) ∧ (frameCount i s ≠ 0) ∧ ((slotOf i s).resv = some e)) ∧
    (∃ i : Nat, ∃ s : State, (i < 64) ∧ ((slotOf i s).st = 7) ∧ ((slotOf i s).left = false) ∧ (.slot i ∉ s.freedWait) ∧ (spoilOutcome i s = 1)) ∧
    (∃ i : Nat, ∃ s : State, (i < 64) ∧ ((slotOf i s).st = 7) ∧ ((slotOf i s).left = false) ∧ (spoilOutcome i s = 0) ∧ (frameOrigin i s = 0) ∧
      (s.freedWait = []) ∧ (s.freed.length < 128)) ∧
    (∃ i : Nat, ∃ e : Nat, ∃ s : State, (i < 64) ∧ ((slotOf i s).st = 7) ∧ ((slotOf i s).left = false) ∧ (.slot i ∉ s.freedWait) ∧ (spoilOutcome i s = 2)
      ∧ ((slotOf i s).resv = some e)) ∧
    (∃ a : Access, ∃ i : Nat, ∃ e : Nat, ∃ v : Word, ∃ s : State, (Reaches a 0 0x48 0x6C s) ∧ (entryOf (rd (R.FRAME.REPRINT_FSN_FSN 0) s) s = some e) ∧
      ((retainedOf e s).released = false) ∧ (0 < (retainedOf e s).count) ∧ ((retainedOf e s).count < 255) ∧ ((s.lastFsnValid = true → later 32 (rd
      (R.FRAME.REPRINT_NEW_FSN 0) s) (rd (R.FRAME.LAST_FSN_FSN 0) s) = true)) ∧ (openSlot s = some i)) ∧
    (∃ a : Access, ∃ e : Nat, ∃ v : Word, ∃ s : State, (Reaches a 0 0x48 0x70 s) ∧ (entryOf v.toNat s = some e) ∧ (reprinting v.toNat s = false) ∧
      (s.freedWait = []) ∧ (s.freed.length < 128)) ∧
    (∃ a : Access, ∃ e : Nat, ∃ v : Word, ∃ s : State, (Reaches a 0 0x48 0x70 s) ∧ (entryOf v.toNat s = some e) ∧ (reprinting v.toNat s = true)) ∧
    (∃ a : Access, ∃ v : Word, ∃ s : State, (Reaches a 0 0x48 0x74 s) ∧ (slotOfFsn v.toNat s = none)) ∧
    (∃ a : Access, ∃ i : Nat, ∃ v : Word, ∃ s : State, (Reaches a 0 0x48 0x74 s) ∧ (slotOfFsn v.toNat s = some i) ∧ ((slotOf i s).st = 5) ∧ ((slotOf i
      s).left = false)) ∧
    (∃ a : Access, ∃ f : Nat, ∃ l : List Nat, ∃ s : State, (Answers a 0 0x48 s) ∧ (s.freed = f :: l) ∧ (s.freedWait = [])) ∧
    (∃ a : Access, ∃ s : State, (Answers a 0 0x48 s)) := by
  refine
    ⟨⟨0, { up [] with slots := [(0, { st := 6 })] }, ?_⟩,
      ⟨0, { up [] with slots := [(0, { st := 6 })], freed := List.replicate 128 0 }, ?_⟩,
      ⟨0, 0, { up [at32 0x70000C 0x10000] with slots := [(0, { st := 6, resv := some 0 })] }, ?_⟩,
      ⟨0, { up [at32 0x70000C 0x10000, at32 0x700008 0x01000000] with slots := [(0, { st := 7, spoiledIn := 5 })] }, ?_⟩,
      ⟨0, { up [] with slots := [(0, { st := 7 })] }, ?_⟩,
      ⟨0, 0, { up [at32 0x70000C 0x10000] with slots := [(0, { st := 7, spoiledIn := 5, resv := some 0 })] }, ?_⟩,
      ⟨bar0, 0, 0, 0, { up [(R.FRAME.RET_CFG_LIMIT 0, 1), (R.FRAME.HOST_RES0_MASK 0, 0)] with retained := [(0, { use := 2, count := 1 })] }, ?_⟩,
      ⟨bar0, 0, 0, { up [(R.FRAME.RET_CFG_LIMIT 0, 1)] with retained := [(0, { use := 2, count := 1 })] }, ?_⟩,
      ⟨bar0, 0, 5, { up [(R.FRAME.RET_CFG_LIMIT 0, 1), at32 0x700028 5] with retained := [(0, { use := 2, fsn := 5, count := 1 })], slots := [(0, { st := 1 })] },
        ?_⟩,
      ⟨bar0, 5, up [], ?_⟩,
      ⟨bar0, 0, 0, { up [] with slots := [(0, { st := 5 })] }, ?_⟩,
      ⟨bar0, 3, [], { up [] with freed := [3] }, ?_⟩,
      ⟨bar0, up [], ?_⟩⟩ <;>
  (repeat' apply And.intro) <;>
    decide +kernel

/-- States that meet the hypotheses of DecodeLaneCommandsAct. -/
theorem witness_DecodeLaneCommandsAct :
    (∃ d : Nat, ∃ n : Nat, ∃ i : Nat, ∃ k : Nat, ∃ m : Nat, ∃ s : State, (dlaneOn d n s = true) ∧ (decodeRole d n s = 0) ∧ ((dlaneOf d n s).work = none) ∧
      ((dlaneOf d n s).takeover = none) ∧ (stDie k = d) ∧ (firstWork d s = some (i, k)) ∧ (nextAshlar i k s = some m)) ∧
    (∃ d : Nat, ∃ n : Nat, ∃ i : Nat, ∃ k : Nat, ∃ m : Nat, ∃ rows : List (List Byte), ∃ s : State, ∃ s1 : State, ((dlaneOf d n s).work = some (.survey i
      k m)) ∧ ((dlaneOf d n s).discard = false) ∧ (surveyable i k s = true) ∧ ((planeOf i k s).busy.contains m = true) ∧ (readAshlar (planeDesc i k s) d m
      ((planeOf i k s).starts.getD m 0) (setDlane d n { takeover := (dlaneOf d n s).takeover } s) = (.ok rows, s1))) ∧
    (∃ d : Nat, ∃ n : Nat, ∃ i : Nat, ∃ k : Nat, ∃ m : Nat, ∃ e : Nat, ∃ s : State, ∃ s1 : State, ((dlaneOf d n s).work = some (.survey i k m)) ∧
      ((dlaneOf d n s).discard = false) ∧ (surveyable i k s = true) ∧ ((planeOf i k s).busy.contains m = true) ∧ ((planeOf i k s).failed = none) ∧
      (readAshlar (planeDesc i k s) d m ((planeOf i k s).starts.getD m 0) (setDlane d n { takeover := (dlaneOf d n s).takeover } s) = (.error e, s1))) ∧
    (∃ d : Nat, ∃ n : Nat, ∃ i : Nat, ∃ k : Nat, ∃ s : State, (dlaneOn d n s = true) ∧ (decodeRole d n s = 1 ∨ decodeRole d n s = 2) ∧ ((dlaneOf d n
      s).work = none) ∧ (k = 2 * d + (decodeRole d n s - 1)) ∧ (nextPlane k s = some i) ∧ ((imagerOf k s).slot = some i) ∧ ((planeDesc i k s).carry = false)
      ∧ ((imagerOf k s).redo = []) ∧ ((imagerOf k s).nextLine < (planeDesc i k s).storedLines) ∧ (ashlarSound i k (imagerOf k s).next s = true) ∧
      (reorderUsed (imagerOf k s) + decodeRoom (planeDesc i k s) (peekLines (planeDesc i k s) (imagerOf k s).next s) ≤ reorderSize)) ∧
    (∃ d : Nat, ∃ n : Nat, ∃ i : Nat, ∃ k : Nat, ∃ m : Nat, ∃ first : Nat, ∃ bytes : Nat, ∃ rows : List (List Byte), ∃ s : State, ∃ s2 : State, ((dlaneOf
      d n s).work = some (.image i k m)) ∧ ((planeDesc i k s).carry = false) ∧ ((imagerOf k s).flying.find? (fun f => f.1 == i && f.2.1 == m) = some (i, m,
      first, bytes)) ∧ ((imagerOf k s).skipTo = 0) ∧ (readAshlar (planeDesc i k s) d m first (setImager k { imagerOf k s with flying := (imagerOf k s).flying.filter (fun g => !(g.1 == i && g.2.1 == m)) }
      (setDlane d n { takeover := (dlaneOf d n s).takeover } s)) = (.ok rows, s2)) ∧ (rows ≠ [])) ∧
    (∃ d : Nat, ∃ n : Nat, ∃ r : Nat, ∃ s : State, (dlaneOn d n s = true) ∧ ((dlaneOf d n s).takeover = some r) ∧ (r < 4) ∧ (((dlaneOf d n s).work = none
      ∨ ∃ i k, (dlaneOf d n s).work = some (.carry i k)))) ∧
    (∃ a : Access, ∃ d : Nat, ∃ v : Word, ∃ s : State, (Reaches a d 0x40 0x54 s) ∧ (v.toNat % 32 < 24) ∧ (.decode d (v.toNat % 32) ∈ s.fenced) ∧
      (decodeRole d (v.toNat % 32) s = 3) ∧ (faultsHold d 0x40 s = false)) ∧
    (∃ d : Nat, ∃ n : Nat, ∃ i : Nat, ∃ k : Nat, ∃ s : State, (dlaneOn d n s = true) ∧ (decodeRole d n s = 0) ∧ ((dlaneOf d n s).work = none) ∧ ((dlaneOf
      d n s).takeover = none) ∧ (stDie k = d) ∧ (firstWork d s = some (i, k)) ∧ (carryReady i k s = true) ∧ ((planeOf i k s).carry.entry = none)) ∧
    (∃ d : Nat, ∃ n : Nat, ∃ i : Nat, ∃ k : Nat, ∃ r : RecordOut, ∃ s : State, ∃ s1 : State, (dlaneOn d n s = true) ∧ ((dlaneOf d n s).work = some (.carry
      i k)) ∧ ((dlaneOf d n s).discard = false) ∧ ((dlaneOf d n s).takeover = none) ∧ (surveyable i k s = true) ∧ (readRecord (planeDesc i k s) d (planeOf i
      k s).carry.off (planeOf i k s).carry.line (planeOf i k s).carry.history s = (.ok r, s1)) ∧ (((planeOf i k s).carry.line + r.rows.length) % (planeDesc
      i k s1).courseLines ≠ 0) ∧ ((planeOf i k s).carry.line + r.rows.length ≠ (planeDesc i k s1).storedLines) ∧ ((planeOf i k s).surveyed < (planeDesc i k
      s1).courses) ∧ (s.now < (dlaneOf d n s).since + 10000 * rd (R.CODEC.CFG_CARRY_SLICE d) s1)) ∧
    (∃ d : Nat, ∃ n : Nat, ∃ i : Nat, ∃ k : Nat, ∃ e : Nat, ∃ s : State, ∃ s1 : State, (dlaneOn d n s = true) ∧ ((dlaneOf d n s).work = some (.carry i k))
      ∧ ((dlaneOf d n s).discard = false) ∧ (surveyable i k s = true) ∧ (readRecord (planeDesc i k s) d (planeOf i k s).carry.off (planeOf i k s).carry.line
      (planeOf i k s).carry.history s = (.error e, s1))) := by
  refine
    ⟨⟨0, 0, 0, 0, 0, { ashlar0 [(roleLoc 0 0, 0)] with dlanes := [], planes := [(0, { got := true, resCount := 1 })] }, ?_⟩,
      ⟨0, 0, 0, 0, 0, okOf (readAshlar (planeDesc 0 0 (ashlar0 [])) 0 0 0 (setDlane 0 0 {} (ashlar0 []))) [], ashlar0 [], (readAshlar (planeDesc 0 0
        (ashlar0 [])) 0 0 0 (setDlane 0 0 {} (ashlar0 []))).2, ?_⟩,
      ⟨0, 0, 0, 0, 0, errOf (readAshlar (planeDesc 0 0 (ashlar0 [])) 0 0 0 (setDlane 0 0 {} { ashlar0 [] with mem := [] })), { ashlar0 [] with mem := [] },
        (readAshlar (planeDesc 0 0 (ashlar0 [])) 0 0 0 (setDlane 0 0 {} { ashlar0 [] with mem := [] })).2, ?_⟩,
      ⟨0, 0, 0, 0, { ashlar0 [(roleLoc 0 0, 1)] with dlanes := [], imagers := [(0, { slot := some 0 })], planes := [(0, { got := true, resCount := 1, passed := [⟨0, 0, 1, []⟩] })] },
        ?_⟩,
      ⟨0, 0, 0, 0, 0, 0, 8, okOf (readAshlar (planeDesc 0 0 image0) 0 0 0 (setImager 0 { slot := some 0 } (setDlane 0 0 {} image0))) [], image0, (readAshlar
        (planeDesc 0 0 image0) 0 0 0 (setImager 0 { slot := some 0 } (setDlane 0 0 {} image0))).2, ?_⟩,
      ⟨0, 0, 1, { up [] with dlanes := [(0, { takeover := some 1 })] }, ?_⟩,
      ⟨bar0, 0, 0, { up [(roleLoc 0 0, 3)] with fenced := [.decode 0 0] }, ?_⟩,
      ⟨0, 0, 0, 0, { carry0 with dlanes := [] }, ?_⟩,
      ⟨0, 0, 0, 0, okOf (readRecord (planeDesc 0 0 carry0) 0 0 0 [] carry0) ⟨0, [], [], false⟩, carry0, (readRecord (planeDesc 0 0 carry0) 0 0 0 []
        carry0).2, ?_⟩,
      ⟨0, 0, 0, 0, errOf (readRecord (planeDesc 0 0 carry0) 0 0 0 [] { carry0 with mem := [] }), { carry0 with mem := [] }, (readRecord (planeDesc 0 0
        carry0) 0 0 0 [] { carry0 with mem := [] }).2, ?_⟩⟩ <;>
  (repeat' apply And.intro) <;>
    first | decide +kernel | exact Or.inl (by decide +kernel)

/-- States that meet the hypotheses of JobCommandsAct. -/
theorem witness_JobCommandsAct :
    (∃ a : Access, ∃ d : Nat, ∃ bg : Bool, ∃ v : Word, ∃ s : State, (Reaches a d 0x40 (if bg then 0x68 else 0x60) s)) ∧
    (∃ d : Nat, ∃ n : Nat, ∃ i : Nat, ∃ bg : Bool, ∃ s : State, (blockUp d 0x40 s = true) ∧ (n < 8) ∧ (jobOf d n s = none) ∧ (isFenced (.comp d n) s =
      false) ∧ (pickJob d s = some (bg, i)) ∧ (jobOk d bg (parseJob (wordBytes (jobDescAddr d bg i) 16 s)) s = true) ∧ ((parseJob (wordBytes (jobDescAddr d
      bg i) 16 s)).skip < jobTotal (parseJob (wordBytes (jobDescAddr d bg i) 16 s)))) ∧
    (∃ d : Nat, ∃ n : Nat, ∃ i : Nat, ∃ bg : Bool, ∃ s : State, (blockUp d 0x40 s = true) ∧ (n < 8) ∧ (jobOf d n s = none) ∧ (isFenced (.comp d n) s =
      false) ∧ (pickJob d s = some (bg, i)) ∧ (i < 128) ∧ (jobOk d bg (parseJob (wordBytes (jobDescAddr d bg i) 16 s)) s = false)) ∧
    (∃ d : Nat, ∃ n : Nat, ∃ buf : Nat, ∃ pos : Nat, ∃ j : Job, ∃ raw : List Byte, ∃ ps : List (Nat × Nat), ∃ s : State, ∃ s1 : State, ∃ s2 : State, ∃ s3
      : State, ∃ s4 : State, (jobOf d n s = some j) ∧ (blockUp d 0x40 s = true) ∧ (isFenced (.comp d n) s = false) ∧ ((parseJob j.desc).op = 1) ∧ ((parseJob
      j.desc).placed = true) ∧ (memDie ((parseJob j.desc).src + (jobPart (parseJob j.desc) j.done).1 * (parseJob j.desc).stride) = d) ∧ (agentRead agCodec
      ((parseJob j.desc).src + (jobPart (parseJob j.desc) j.done).1 * (parseJob j.desc).stride) ((jobPart (parseJob j.desc) j.done).2 * (parseJob
      j.desc).stride) s = (.ok raw, s1)) ∧ (jobCarry d (parseJob j.desc) s = false) ∧ (wholePlace d (parseJob j.desc).bufs (parseJob j.desc).align64
      (listBound d s1) j.buf j.pos (compressAshlar (parseJob j.desc).level (parseJob j.desc).filter (jobPart (parseJob j.desc) j.done).2 (parseJob
      j.desc).stride raw).length s1 = (.ok (ps, buf, pos), s2)) ∧ (writePieces d ps (compressAshlar (parseJob j.desc).level (parseJob j.desc).filter
      (jobPart (parseJob j.desc) j.done).2 (parseJob j.desc).stride raw) s2 = (true, s3)) ∧ ((if (parseJob j.desc).writeIndex then jobPut d ((parseJob
      j.desc).index + 8 * j.done) (leBytes 5 (ps.headD (0, 0)).1 ++ leBytes 3 (compressAshlar (parseJob j.desc).level (parseJob j.desc).filter (jobPart
      (parseJob j.desc) j.done).2 (parseJob j.desc).stride raw).length) s3 else (true, s3)) = (true, s4)) ∧ (j.done + 1 < jobTotal (parseJob j.desc))) ∧
    (∃ a : Access, ∃ d : Nat, ∃ n : Nat, ∃ j : Job, ∃ v : Word, ∃ s : State, (Reaches a d 0x40 0x70 s) ∧ (n < 8) ∧ (jobOf d n s = some j) ∧ ((parseJob
      j.desc).tag = v.toNat)) ∧
    (∃ a : Access, ∃ d : Nat, ∃ n : Nat, ∃ j : Job, ∃ v : Word, ∃ s : State, (Reaches a d 0x40 0x70 s) ∧ (n < 8) ∧ (jobOf d n s = some j) ∧ ((parseJob
      j.desc).tag ≠ v.toNat)) := by
  refine
    ⟨⟨bar0, 0, false, 0, up [], ?_⟩,
      ⟨0, 0, 0, false, up [(headLoc 0 false, 1), at32 0x300000 0x01000001, at32 0x300004 0x14000, at32 0x300008 1], ?_⟩,
      ⟨0, 0, 0, false, up [(headLoc 0 false, 1)], ?_⟩,
      ⟨0, 0, (okOf place1 ([], 0, 0)).2.1, (okOf place1 ([], 0, 0)).2.2, job1, List.replicate 8 0, (okOf place1 ([], 0, 0)).1, jobs1, jobs1, place1.2,
        (writePieces 0 (okOf place1 ([], 0, 0)).1 coded1 place1.2).2, (writePieces 0 (okOf place1 ([], 0, 0)).1 coded1 place1.2).2, ?_⟩,
      ⟨bar0, 0, 0, ⟨false, 0, job0, 0, 0, 0, 0, 0, none⟩, 0, jobs0, ?_⟩,
      ⟨bar0, 0, 0, ⟨false, 0, job0, 0, 0, 0, 0, 0, none⟩, 9, jobs0, ?_⟩⟩ <;>
  (repeat' apply And.intro) <;>
    decide +kernel

/-- States that meet the hypotheses of LaneBringUpCommandsAct. -/
theorem witness_LaneBringUpCommandsAct :
    (∃ d : Nat, ∃ n : Nat, ∃ s : State, (laneOn d n s = true) ∧ (laneSt d n s = 1)) ∧
    (∃ d : Nat, ∃ n : Nat, ∃ s : State, (laneOn d n s = true) ∧ (laneSt d n s = 2)) ∧
    (∃ d : Nat, ∃ n : Nat, ∃ ctle : Nat, ∃ dfe : Nat, ∃ s : State, (laneOn d n s = true) ∧ (laneSt d n s = 3) ∧ (ctle < 32) ∧ (dfe < 64)) ∧
    (∃ d : Nat, ∃ n : Nat, ∃ s : State, (laneOn d n s = true) ∧ (laneSt d n s = 4) ∧ ((laneOf d n s).check = false) ∧ ((laneOf d n s).near = false) ∧
      ((laneOf d n s).far = false) ∧ (lockHoldOver d n s = false)) ∧
    (∃ d : Nat, ∃ n : Nat, ∃ s : State, (laneOn d n s = true) ∧ (laneSt d n s = 4) ∧ (((laneOf d n s).check || (laneOf d n s).near || (laneOf d n s).far)
      = true)) ∧
    (∃ d : Nat, ∃ n : Nat, ∃ why : Nat, ∃ s : State, (laneOn d n s = true) ∧ (laneSt d n s = 5) ∧ (why < 3) ∧ (d < 8)) ∧
    (∃ d : Nat, ∃ n : Nat, ∃ s : State, (laneOn d n s = true) ∧ (laneSt d n s = 4)) ∧
    (∃ d : Nat, ∃ n : Nat, ∃ s : State, (laneOn d n s = true) ∧ (laneSt d n s = 5) ∧ ((∀ x, (laneOf d n s).invalid[14]? = some x → x + 1000 * rd
      (R.LANE.HIBER_CFG_WINDOW d n) s < s.now))) ∧
    (∃ d : Nat, ∃ n : Nat, ∃ x : Nat, ∃ s : State, (laneOn d n s = true) ∧ (laneSt d n s = 5) ∧ (d < 8) ∧ ((laneOf d n s).invalid[14]? = some x) ∧ (s.now
      ≤ x + 1000 * rd (R.LANE.HIBER_CFG_WINDOW d n) s)) ∧
    (∃ d : Nat, ∃ n : Nat, ∃ s : State, (laneOn d n s = true) ∧ (laneSt d n s = 5) ∧ ((isHeadLane n || isRasterLane d n) = true)) ∧
    (∃ d : Nat, ∃ n : Nat, ∃ s : State, (laneOn d n s = true) ∧ (laneSt d n s ≠ 5) ∧ (lockHoldOver d n s = true)) ∧
    (∃ d : Nat, ∃ n : Nat, ∃ s : State, (laneOn d n s = true) ∧ (2 ≤ laneSt d n s) ∧ (laneSt d n s ≤ 5)) := by
  refine
    ⟨⟨0, 0, up (lane0 1), ?_⟩,
      ⟨0, 0, up (lane0 2), ?_⟩,
      ⟨0, 0, 31, 63, up (lane0 3), ?_⟩,
      ⟨0, 0, up (lane0 4), ?_⟩,
      ⟨0, 0, { up (lane0 4) with lanes := [(0, { check := true })] }, ?_⟩,
      ⟨0, 0, 2, up (lane0 5), ?_⟩,
      ⟨0, 0, up (lane0 4), ?_⟩,
      ⟨0, 0, up (lane0 5), ?_⟩,
      ⟨0, 0, 10000000000, { up (lane0 5) with lanes := [(0, { invalid := List.replicate 15 10000000000 })] }, ?_⟩,
      ⟨0, 0, up (lane0 5), ?_⟩,
      ⟨0, 0, { up (lane0 4) with lanes := [(0, { lostAt := some 0 })] }, ?_⟩,
      ⟨0, 0, up (lane0 2), ?_⟩⟩ <;>
  (repeat' apply And.intro) <;>
    decide +kernel

/-- States that meet the hypotheses of LaneServiceCommandsAct. -/
theorem witness_LaneServiceCommandsAct :
    (∃ a : Access, ∃ d : Nat, ∃ n : Nat, ∃ v : Word, ∃ s : State, (n < 12) ∧ (Reaches a d (lanePage n) 0x44 s) ∧ (laneOn d n s = true) ∧ (d < 8) ∧
      (testBit v.toNat 1 = false) ∧ (testBit v.toNat 2 = false) ∧ (rd (R.CLK.PLL_STAT_STATE d 3) s = 2) ∧ (rd (R.LANE.LCFG_RATE d n) s = rd
      (R.LANE.LCFG_RATE d (groupFirst d n)) s)) ∧
    (∃ a : Access, ∃ d : Nat, ∃ n : Nat, ∃ v : Word, ∃ s : State, (n < 12) ∧ (Reaches a d (lanePage n) 0x44 s) ∧ (laneOn d n s = true) ∧ (testBit v.toNat
      0 = false) ∧ (testBit v.toNat 2 = false) ∧ (rd (R.LANE.EYE_STAT_STATE d n) s ≠ 1) ∧ (rd (R.LANE.EYE_STAT_STATE d n) s ≠ 2) ∧ (eyeSound d n s = true)) ∧
    (∃ a : Access, ∃ d : Nat, ∃ n : Nat, ∃ v : Word, ∃ s : State, (n < 12) ∧ (Reaches a d (lanePage n) 0x44 s) ∧ (laneOn d n s = true) ∧ (testBit v.toNat
      0 = false) ∧ (testBit v.toNat 2 = false) ∧ (rd (R.LANE.EYE_STAT_STATE d n) s ≠ 1) ∧ (rd (R.LANE.EYE_STAT_STATE d n) s ≠ 2) ∧ (eyeSound d n s = false)) ∧
    (∃ a : Access, ∃ d : Nat, ∃ n : Nat, ∃ v : Word, ∃ s : State, (n < 12) ∧ (Reaches a d (lanePage n) 0x44 s) ∧ (testBit v.toNat 0 = false) ∧ (testBit
      v.toNat 1 = false) ∧ ((rd (R.LANE.EYE_STAT_STATE d n) s = 1 ∨ rd (R.LANE.EYE_STAT_STATE d n) s = 2))) ∧
    (∃ d : Nat, ∃ n : Nat, ∃ errs : Nat, ∃ units : Nat, ∃ s : State, ∃ s1 : State, (laneOn d n s = true) ∧ (rd (R.LANE.EYE_STAT_STATE d n) s = 1) ∧
      (eyeCount d n errs units s = true) ∧ (rd (R.LANE.EYE_STAT_POINTS d n) s < 65535) ∧ (agentWrite agOther (eyeBuf d n s + 8 * (laneOf d n s).point)
      (leBytes 4 (Nat.min errs 0xFFFFFFFF) ++ leBytes 4 units) s = (true, s1))) ∧
    (∃ d : Nat, ∃ n : Nat, ∃ s : State, (laneOn d n s = true) ∧ (rd (R.LANE.EYE_STAT_STATE d n) s = 2) ∧ (eyeMay d n s = true)) ∧
    (∃ d : Nat, ∃ n : Nat, ∃ p : Nat, ∃ gap : Nat, ∃ skew : Nat, ∃ s : State, ((bondOf (laneBond d n) s).lanes.idxOf? n = some p) ∧ (laneSt d n s = 5) ∧
      (laneFenced d n s = false) ∧ (rd (bondStLoc (laneBond d n)) s ≠ 3) ∧ (rd (bondStLoc (laneBond d n)) s ≠ 2) ∧ (gap = 16384) ∧ ((∃ c, c ≠ 0 ∧ (bondOf
      (laneBond d n) s).marks.find? (fun x => x.1 == n) = some (n, c))) ∧ (skew ≤ 2000) ∧ ((∀ m ∈ (bondOf (laneBond d n) s).lanes, laneSt d m s = 5 ∧ (m ≠ n
      → (m, 2) ∈ (bondOf (laneBond d n) s).marks)))) ∧
    (∃ d : Nat, ∃ n : Nat, ∃ p : Nat, ∃ gap : Nat, ∃ skew : Nat, ∃ body : List Byte, ∃ s : State, ((bondOf (laneBond d n) s).lanes.idxOf? n = some p) ∧
      (laneSt d n s = 5) ∧ (laneFenced d n s = false) ∧ (rd (bondStLoc (laneBond d n)) s = 2) ∧ (body ≠ leBytes 1 0x4B ++ leBytes 1 p ++ leBytes 1 (bondOf
      (laneBond d n) s).lanes.length ++ leBytes 1 (bondGen (laneBond d n) s) ++ [0x5A, 0xA5, 0x5A, 0xA5])) ∧
    (∃ d : Nat, ∃ s : State, (rd (R.RLNK.BOND_STAT_STATE d) s = 1) ∧ ((bondOf d s).late = false) ∧ ((bondOf d s).formedAt + 1000000 ≤ s.now)) := by
  refine
    ⟨⟨bar0, 0, 0, 1, up (lane0 5), ?_⟩,
      ⟨bar0, 0, 0, 2, up ([(R.LANE.EYE_H_STEP 0 0, 1), (R.LANE.EYE_V_STEP 0 0, 1)] ++ lane0 5 ++ mem0), ?_⟩,
      ⟨bar0, 0, 0, 2, up (lane0 5), ?_⟩,
      ⟨bar0, 0, 0, 4, up ((R.LANE.EYE_STAT_STATE 0 0, 1) :: lane0 5), ?_⟩,
      ⟨0, 0, 0, 1, up eye0, (agentWrite agOther (eyeBuf 0 0 (up eye0)) (leBytes 4 0 ++ leBytes 4 1) (up eye0)).2, ?_⟩,
      ⟨0, 0, up ((R.LANE.EYE_STAT_STATE 0 0, 2) :: lane0 5), ?_⟩,
      ⟨0, 0, 0, 16384, 0, { up ((R.LANE.LSTAT_STATE 0 1, 5) :: (R.RLNK.BOND_STAT_STATE 0, 1) :: lane0 5) with bonds := [(0, { lanes := [0, 1], marks := [(0, 1), (1, 2)] })] },
        ?_⟩,
      ⟨0, 0, 0, 16384, 0, [], { up ((R.RLNK.BOND_STAT_STATE 0, 2) :: lane0 5) with bonds := [(0, { lanes := [0, 1] })] }, ?_⟩,
      ⟨0, up [(R.RLNK.BOND_STAT_STATE 0, 1)], ?_⟩⟩ <;>
  (repeat' apply And.intro) <;>
    first | decide +kernel | exact ⟨1, by decide +kernel⟩

/-- States that meet the hypotheses of RasterPacketCommandsAct. -/
theorem witness_RasterPacketCommandsAct :
    (∃ d : Nat, ∃ pkt : List Byte, ∃ s : State, (rasterHears d s = true) ∧ (rasterOpen d s = true) ∧ ((rasterOf d s).resync = none) ∧ (rasterVerdict d pkt
      s = 0)) ∧
    (∃ d : Nat, ∃ i : Nat, ∃ p : RasterPkt, ∃ s : State, (rasterTypeOk p = true) ∧ (p.type = 2) ∧ (served d p.station s = true) ∧ (rasterPlane p.fsn
      p.station s = some i) ∧ (p.ashlar + p.len / 8 ≤ 65536)) ∧
    (∃ d : Nat, ∃ i : Nat, ∃ p : RasterPkt, ∃ x : Partial, ∃ s : State, (rasterTypeOk p = true) ∧ (p.type = 1) ∧ (served d p.station s = true) ∧
      (rasterPlane p.fsn p.station s = some i) ∧ (partialOf d p.station s = some x) ∧ (x.fsn = p.fsn) ∧ (x.ashlar = p.ashlar) ∧ (x.next = p.offset) ∧
      (p.offset + p.len ≤ x.len) ∧ ((p.last = true → p.offset + p.len = x.len))) ∧
    (∃ d : Nat, ∃ i : Nat, ∃ p : RasterPkt, ∃ e : List Byte, ∃ s : State, (rasterTypeOk p = true) ∧ (p.type = 1) ∧ (served d p.station s = true) ∧
      (rasterPlane p.fsn p.station s = some i) ∧ (partialOf d p.station s = none) ∧ (p.offset = 0) ∧ (p.last = false) ∧ (outOfOrder d i p s = false) ∧
      (landedRead d ((planeDesc i p.station s).entry p.ashlar) 8 s = (.ok e, s)) ∧ (16 ≤ fieldLe e 5 3) ∧ (fieldLe e 0 5 < 2 ^ 39) ∧ (memDie (fieldLe e 0 5)
      = stDie p.station) ∧ (fieldLe e 0 5 % 0x1000000000 + fieldLe e 5 3 ≤ fittedBytes (stDie p.station) s) ∧ (p.len ≤ fieldLe e 5 3)) ∧
    (∃ d : Nat, ∃ i : Nat, ∃ p : RasterPkt, ∃ s : State, (rasterTypeOk p = true) ∧ (p.type = 3) ∧ (flag (R.RLNK.CFG_DESC_EN d) s = true) ∧ (openSlot s =
      some i)) ∧
    (∃ d : Nat, ∃ p : RasterPkt, ∃ s : State, (rasterTypeOk p = false) ∧ (rd (R.RLNK.DROP_LOG0_VALID d) s = 0) ∧ (p.type < 256)) ∧
    (∃ d : Nat, ∃ pkt : List Byte, ∃ s : State, (rasterHears d s = true) ∧ (isResync pkt = true) ∧ ((rasterOf d s).queue = [])) ∧
    (∃ d : Nat, ∃ pkt : List Byte, ∃ s : State, (rasterHears d s = true) ∧ (isResync pkt = true) ∧ ((rasterOf d s).queue ≠ [])) ∧
    (∃ d : Nat, ∃ blocks : List Byte, ∃ s : State, (rasterHears d s = true) ∧ (rasterOpen d s = true) ∧ ((rasterOf d s).resync = none) ∧ (startOk
      (blocks.take 8) (blocks.drop 8) = true) ∧ (isResync (blocks.drop 8) = false) ∧ (rasterVerdict d (blocks.drop 8) s = 4)) ∧
    (∃ d : Nat, ∃ blocks : List Byte, ∃ s : State, (rasterHears d s = true) ∧ (rasterOpen d s = true) ∧ ((rasterOf d s).resync = none) ∧ ((startOk
      (blocks.take 8) (blocks.drop 8) = true ∧ isResync (blocks.drop 8) = false ∧ rasterVerdict d (blocks.drop 8) s = 1 ∨ startOk (blocks.take 8)
      (blocks.drop 8) = false ∧ blocks ≠ fillerBlock.bytes)) ∧ ((rasterOf d s).nakAt = none) ∧ ((rasterOf d s).naks + 1 < rd (R.RLNK.RETRY_LIMIT d) s)) ∧
    (∃ d : Nat, ∃ u : Nat, ∃ blocks : List Byte, ∃ s : State, (rasterHears d s = true) ∧ (rasterOpen d s = true) ∧ ((rasterOf d s).resync = none) ∧
      ((startOk (blocks.take 8) (blocks.drop 8) = true ∧ isResync (blocks.drop 8) = false ∧ rasterVerdict d (blocks.drop 8) s = 1 ∨ startOk (blocks.take 8)
      (blocks.drop 8) = false ∧ blocks ≠ fillerBlock.bytes)) ∧ ((rasterOf d s).nakAt = some u) ∧ (s.now < u + 20000)) ∧
    (∃ d : Nat, ∃ q : Landing, ∃ rest : List Landing, ∃ s : State, ∃ s1 : State, ((rasterOf d s).queue = q :: rest) ∧ ((rasterOf d s).resync = none) ∧
      (q.bytes ≠ []) ∧ (q.complete = none) ∧ (agentWrite agRaster q.addr q.bytes (setRaster d { rasterOf d s with queue := rest } s) = (true, s1))) := by
  refine
    ⟨⟨0, packet [1, 5], up rl0, ?_⟩,
      ⟨0, 0, ⟨2, 0, 0, 0, 0, 0, 0, 8, []⟩, { up frame0 with slots := [(0, { st := 1 })] }, ?_⟩,
      ⟨0, 0, ⟨1, 0, 0, 0, 0, 0, 0, 8, []⟩, ⟨0, 0, 0, 0, 128, 16, 0, false⟩, { up frame0 with slots := [(0, { st := 1 })], rasters := [(0, { partials := [⟨0, 0, 0, 0, 128, 16, 0, false⟩] })] },
        ?_⟩,
      ⟨0, 0, ⟨1, 0, 0, 0, 0, 0, 0, 8, []⟩, leBytes 5 128 ++ leBytes 3 16, ashlar0 [], ?_⟩,
      ⟨0, 0, ⟨3, 0, 0, 0, 0, 0, 0, 256, []⟩, up [(R.RLNK.CFG_DESC_EN 0, 1), (R.FRAME.HOST_RES0_MASK 0, 0)], ?_⟩,
      ⟨0, ⟨9, 0, 0, 0, 0, 0, 0, 0, []⟩, up [], ?_⟩,
      ⟨0, packet [4], up rl0, ?_⟩,
      ⟨0, packet [4], { up rl0 with rasters := [(0, { queue := [⟨0x100, [1], 0, 0, 0, 0, none⟩] })] }, ?_⟩,
      ⟨0, blocks [1, 5], up ((R.RLNK.PSN_STAT_EXPECT 0, 5) :: rl0), ?_⟩,
      ⟨0, [1], up rl0, ?_⟩,
      ⟨0, 10000000000, [1], { up rl0 with rasters := [(0, { nakAt := some 10000000000 })] }, ?_⟩,
      ⟨0, ⟨0x100, [1], 0, 0, 0, 0, none⟩, [], { up mem0 with rasters := [(0, { queue := [⟨0x100, [1], 0, 0, 0, 0, none⟩] })] }, (agentWrite agRaster 0x100
        [1] (setRaster 0 {} (up mem0))).2, ?_⟩⟩ <;>
  (repeat' apply And.intro) <;>
    decide +kernel

/-- States that meet the hypotheses of RasterTimerCommandsAct. -/
theorem witness_RasterTimerCommandsAct :
    (∃ d : Nat, ∃ u : Nat, ∃ s : State, (rasterHears d s = true) ∧ (rasterOpen d s = true) ∧ ((rasterOf d s).nakAt = some u) ∧ (u + 20000 ≤ s.now) ∧
      ((rasterOf d s).naks + 1 < rd (R.RLNK.RETRY_LIMIT d) s)) ∧
    (∃ d : Nat, ∃ u : Nat, ∃ s : State, (rasterHears d s = true) ∧ (rasterOpen d s = true) ∧ ((rasterOf d s).nakAt = some u) ∧ (u + 20000 ≤ s.now) ∧ (rd
      (R.RLNK.RETRY_LIMIT d) s ≤ (rasterOf d s).naks + 1)) ∧
    (∃ d : Nat, ∃ s : State, (rasterHears d s = true) ∧ (rasterOpen d s = false) ∧ ((∀ u, (rasterOf d s).initAt = some u → u + 10000 ≤ s.now))) ∧
    (∃ d : Nat, ∃ s : State, (rasterHears d s = true) ∧ (rasterOpen d s = true) ∧ ((rasterOf d s).creditAt + 100000 ≤ s.now)) ∧
    (∃ a : Access, ∃ d : Nat, ∃ v : Word, ∃ s : State, (Reaches a d 0x30 0x44 s) ∧ (a.bar2 = false) ∧ (bitsOf v.toNat 4 3 ≠ d) ∧ (bitsOf v.toNat 4 3 <
      s.dies) ∧ ((bitsOf v.toNat 0 1 ≠ rd (R.RLNK.ROUTE_EN d) s ∨ bitsOf v.toNat 4 3 ≠ rd (R.RLNK.ROUTE_DIE d) s))) ∧
    (∃ a : Access, ∃ d : Nat, ∃ v : Word, ∃ s : State, (Reaches a d 0x30 0x44 s) ∧ (a.bar2 = false) ∧ ((bitsOf v.toNat 4 3 = d ∨ s.dies ≤ bitsOf v.toNat 4
      3))) := by
  refine
    ⟨⟨0, 0, { up rl0 with rasters := [(0, { nakAt := some 0 })] }, ?_⟩,
      ⟨0, 0, { up rl0 with rasters := [(0, { nakAt := some 0, naks := 5 })] }, ?_⟩,
      ⟨0, up ((R.RLNK.PSN_STAT_SESSION 0, 0) :: rl0.take 2), ?_⟩,
      ⟨0, up rl0, ?_⟩,
      ⟨bar0, 0, 0x11, up rl0, ?_⟩,
      ⟨bar0, 0, 0, up rl0, ?_⟩⟩ <;>
  (repeat' apply And.intro) <;>
    decide +kernel

/-- States that meet the hypotheses of StationTimingCommandsAct. -/
theorem witness_StationTimingCommandsAct :
    (∃ k : Nat, ∃ x : Nat, ∃ p : Placed, ∃ s : State, (stationOn k s = true) ∧ (timSt k s = 2) ∧ (ledBar k s = false) ∧ (formAt k s = x) ∧ (mayForm k x s
      = true) ∧ (x + reachEff k s < (staOf k s).src) ∧ ((staOf k s).placed.find? (fun p => p.has x) = some p)) ∧
    (∃ k : Nat, ∃ phase : Nat, ∃ s : State, (ledBar k s = false) ∧ (stationOn k s = true) ∧ (timSt k s = 1) ∧ ((staOf k s).beam.last = none) ∧ ((staOf k
      s).beam.stable = false) ∧ ((staOf k s).beam.idxNext = false) ∧ (rd (R.STIM.BD_CFG_STABLE (stDie k) (stLoc k)) s ≠ 0)) ∧
    (∃ k : Nat, ∃ phase : Nat, ∃ u : Nat, ∃ s : State, (ledBar k s = false) ∧ (stationOn k s = true) ∧ ((timSt k s = 2 ∨ timSt k s = 3)) ∧ ((staOf k
      s).beam.last = some u) ∧ (windowOver k (16 * counterC (stDie k) s + phase % 16) s = false) ∧ (256 * (16 * counterC (stDie k) s + phase % 16) + beamWin
      k s * beamPeriod k s < 256 * ((staOf k s).beam.base + beamPeriod k s))) ∧
    (∃ k : Nat, ∃ f : Nat, ∃ t0 : Nat, ∃ s : State, (facetOk k s = true) ∧ (delayInRange (facetDelay k f s) = true) ∧ ((staOf k s).placed.length < 8) ∧
      ((∀ b, (match (staOf k s).placed.getLast? with | some q => some q.tick | none => (staOf k s).lastEdge) = some b → b + 32000 ≤ t0 + (facetDelay k f
      s).toNat)) ∧ ((staOf k s).placed ≠ [])) ∧
    (∃ k : Nat, ∃ s : State, (ledBar k s = false) ∧ (stationOn k s = true) ∧ (timSt k s = 3) ∧ (windowOver k (16 * counterC (stDie k) s) s = true) ∧
      ((staOf k s).beam.missed + 1 < rd (R.STIM.BD_CFG_LOSS (stDie k) (stLoc k)) s)) ∧
    (∃ k : Nat, ∃ s : State, (ledBar k s = false) ∧ (stationOn k s = true) ∧ (timSt k s = 2) ∧ ((staOf k s).planes = []) ∧ (windowOver k (16 * counterC
      (stDie k) s) s = true) ∧ ((staOf k s).beam.missed + 1 < rd (R.STIM.BD_CFG_LOSS (stDie k) (stLoc k)) s)) ∧
    (∃ k : Nat, ∃ s : State, (ledBar k s = false) ∧ (stationOn k s = true) ∧ ((timSt k s = 2 ∨ timSt k s = 3)) ∧ (fidMode k s = 1) ∧ (((staOf k
      s).beam.sinceIdx = none ∨ (staOf k s).beam.idxBad = true))) ∧
    (∃ k : Nat, ∃ p : Placed, ∃ s : State, ((staOf k s).placed = [p]) ∧ (timSt k s = 2) ∧ (p.tick ≤ tickNow k s) ∧ ((∀ i, i < 8 → rd (R.TXN.TXS_STAT_STATE
      (stDie k) i) s ≠ 1)) ∧ (p.lsn + p.adv ≤ formAt k s) ∧ ((staOf k s).gateAt = none) ∧ (latches k s = 0) ∧ ((staOf k s).planes = []) ∧ ((staOf k
      s).stopping = false)) ∧
    (∃ k : Nat, ∃ f : FoundLine, ∃ s : State, (ledBar k s = true) ∧ (timSt k s = 2) ∧ ((staOf k s).found = [f]) ∧ ((staOf k s).stopping = false) ∧ ((staOf
      k s).stopLine = none) ∧ ((∀ i, i < 8 → rd (R.TXN.TXS_STAT_STATE (stDie k) i) s ≠ 1)) ∧ ((∀ e, (staOf k s).lastEdge = some e → e + strobeMin k s ≤
      f.tick)) ∧ (f.tick ≤ tickNow k s) ∧ ((staOf k s).strobeTag = some (f.lsn, none)) ∧ (f.lsn < (staOf k s).form) ∧ ((staOf k s).ptr ≤ (staOf k s).form) ∧
      ((staOf k s).gateAt = none) ∧ (latches k s = 0) ∧ ((staOf k s).planes = [])) ∧
    (∃ k : Nat, ∃ u : Nat, ∃ e : StartEntry, ∃ s : State, (startListOf k s = [e]) ∧ (e.due = some u) ∧ (u ≤ counterC (stDie k) s) ∧ (startsHeld k s =
      false) ∧ (timSt k s = 2) ∧ (flag (R.LOOP.CFF_ROUTE_EN (stDie k) (stLoc k)) s = false) ∧ ((staOf k s).start = none)) ∧
    (∃ k : Nat, ∃ s : State, (k < 16) ∧ (timSt k s = 3) ∧ (onPath k s = true) ∧ (pathState (pathOf k s) s = 6) ∧ (pathOf k s < 4) ∧ ((∃ u, (staOf k
      s).resDue = some u ∧ u ≤ counterC (stDie k) s)) ∧ (cruiseSettled (pathOf k s) s = true)) := by
  refine
    ⟨⟨0, 0, scan0, { up (tim 2) with stations := [(0, { ptr := 1, src := 200, placed := [scan0] })] }, ?_⟩,
      ⟨0, 0, up (tim 1), ?_⟩,
      ⟨0, 0, 159999999999, { up ((R.STIM.BD_PERIOD_TICKS 0 0, 1600000) :: tim 2) with stations := [(0, { beam := { last := some 159999999999, base := 159999999999 } })] },
        ?_⟩,
      ⟨0, 0, 0, { up ((R.STA.FACET_CFG_OK 0 0 0, 1) :: (R.STIM.INSCAN_OFFS_TICKS 0 0, 50000) :: tim 2) with stations := [(0, { placed := [scan0] })] }, ?_⟩,
      ⟨0, { up ((R.STIM.BD_PERIOD_TICKS 0 0, 1600000) :: tim 3) with stations := [(0, { beam := { last := some 0, base := 0 } })] }, ?_⟩,
      ⟨0, { up ((R.STIM.BD_PERIOD_TICKS 0 0, 1600000) :: tim 2) with stations := [(0, { beam := { last := some 0, base := 0 } })] }, ?_⟩,
      ⟨0, up ((R.STIM.TCFG_FID_MODE 0 0, 1) :: tim 2), ?_⟩,
      ⟨0, scan0, { up (tim 2) with stations := [(0, { ptr := 1, form := 1, placed := [scan0] })] }, ?_⟩,
      ⟨0, ⟨0, 100, 0, 0⟩, { up (led 2) with stations := [(0, { ptr := 1, form := 1, found := [⟨0, 100, 0, 0⟩], strobeTag := some (0, none) })] }, ?_⟩,
      ⟨0, 5, ⟨0, 0, 0, 0, some 5, 0⟩, { up (tim 2) with startLists := [(0, [⟨0, 0, 0, 0, some 5, 0⟩])] }, ?_⟩,
      ⟨0, { up ((R.CUE.STA_PATH_EN 0 0, 1) :: (R.CUE.PATH_STAT_STATE 0 0, 6) :: tim 3) with stations := [(0, { resDue := some 5 })], paths := [(0, { cruise := some 0 })] },
        ?_⟩⟩ <;>
  (repeat' apply And.intro) <;>
    decide +kernel

/-- States that meet the hypotheses of HeadLinkPacketCommandsAct. -/
theorem witness_HeadLinkPacketCommandsAct :
    (∃ k : Nat, ∃ pkt : List Byte, ∃ s : State, (headHears k s = true) ∧ (hlType pkt = 0x30) ∧ (hlVerdict pkt = 0) ∧ (sessionOpen k s = true) ∧ (testBit
      (fieldLe (hlPayload pkt) 16 1) 0 = false) ∧ (testBit (fieldLe (hlPayload pkt) 16 1) 1 = false) ∧ (toSigned 16 (fieldLe (hlPayload pkt) 0 2) < rdS
      (R.SPROT.TEMP_LIM_HARD (stDie k) (stLoc k)) s)) ∧
    (∃ k : Nat, ∃ pkt : List Byte, ∃ rest : List (Nat × HeadPkt), ∃ s : State, (headHears k s = true) ∧ (hlType pkt = 0x31) ∧ (hlVerdict pkt = 0) ∧
      (hlInit pkt = false) ∧ (sessionOpen k s = true) ∧ (ackRest (hlPsn pkt) (headOf k s).replay = some rest) ∧ ((headOf k s).waiting = [])) ∧
    (∃ k : Nat, ∃ pkt : List Byte, ∃ s : State, (headHears k s = true) ∧ (hlType pkt = 0x31) ∧ (hlVerdict pkt = 0) ∧ (hlInit pkt = true) ∧ (sessionOpen k
      s = true)) ∧
    (∃ k : Nat, ∃ pkt : List Byte, ∃ s : State, (headHears k s = true) ∧ (hlType pkt = 0x32) ∧ (hlVerdict pkt = 0) ∧ (sessionOpen k s = true) ∧ ((headOf k
      s).nakPsn = hlPsn pkt) ∧ ((headOf k s).naks + 1 < rd (R.SHL.HCFG_RETRY_LIMIT (stDie k) (stLoc k)) s)) ∧
    (∃ k : Nat, ∃ pkt : List Byte, ∃ s : State, (headHears k s = true) ∧ (hlType pkt = 0x32) ∧ (hlVerdict pkt = 0) ∧ (sessionOpen k s = true) ∧ ((headOf k
      s).nakPsn = hlPsn pkt) ∧ (rd (R.SHL.HCFG_RETRY_LIMIT (stDie k) (stLoc k)) s ≤ (headOf k s).naks + 1)) ∧
    (∃ k : Nat, ∃ pkt : List Byte, ∃ s : State, (headHears k s = true) ∧ (hlType pkt = 0x34) ∧ (hlVerdict pkt = 0) ∧ (sessionOpen k s = true) ∧ ((headOf k
      s).waiting = [])) ∧
    (∃ k : Nat, ∃ pkt : List Byte, ∃ s : State, (headHears k s = true) ∧ (hlType pkt = 0x34) ∧ (hlVerdict pkt = 0) ∧ (sessionOpen k s = false) ∧ (hlInit
      pkt = true) ∧ ((headOf k s).resyncAt.isSome = true) ∧ (minGrant k s ≤ fieldLe (hlPayload pkt) 0 2) ∧ (4 ≤ fieldLe (hlPayload pkt) 2 2)) ∧
    (∃ k : Nat, ∃ pkt : List Byte, ∃ s : State, (headHears k s = true) ∧ (hlVerdict pkt ≠ 0)) := by
  refine
    ⟨⟨0, hlPacket 0x30 0 0 (List.replicate 64 0), up ((R.SPROT.TEMP_LIM_HARD 0 0, 100) :: hl0), ?_⟩,
      ⟨0, hlPacket 0x31 0 5 [], [], { up hl0 with headLinks := [(0, { replay := [(5, ⟨0x20, 0, 0, 0, 0, 0, []⟩)] })] }, ?_⟩,
      ⟨0, hlPacket 0x31 2 5 [], up hl0, ?_⟩,
      ⟨0, hlPacket 0x32 0 5 [], { up hl0 with headLinks := [(0, { nakPsn := 5 })] }, ?_⟩,
      ⟨0, hlPacket 0x32 0 5 [], { up hl0 with headLinks := [(0, { nakPsn := 5, naks := 2 })] }, ?_⟩,
      ⟨0, hlPacket 0x34 0 5 (List.replicate 8 0), up hl0, ?_⟩,
      ⟨0, hlPacket 0x34 2 5 [255, 255, 4, 0, 0, 0, 0, 0], { up ((R.SHL.HSTAT_SESSION 0 0, 0) :: (R.SHL.HSTAT_BOND 0 0, 2) :: sta0) with headLinks := [(0, { resyncAt := some 0 })] },
        ?_⟩,
      ⟨0, [1], up hl0, ?_⟩⟩ <;>
  (repeat' apply And.intro) <;>
    decide +kernel

/-- States that meet the hypotheses of HeadLinkSendCommandsAct. -/
theorem witness_HeadLinkSendCommandsAct :
    (∃ k : Nat, ∃ s : State, (headHears k s = true) ∧ (sessionOpen k s = true) ∧ ((headOf k s).replay ≠ []) ∧ ((headOf k s).advAt + 20000 ≤ s.now)) ∧
    (∃ k : Nat, ∃ s : State, (headHears k s = true) ∧ (sessionOpen k s = false) ∧ ((∀ u, (headOf k s).resyncAt = some u → u + 10000 ≤ s.now))) ∧
    (∃ k : Nat, ∃ s : State, (stationOn k s = true) ∧ (sessionOpen k s = true) ∧ ((headOf k s).statusAt + 1000000 * rd (R.SHL.HCFG_TIMEOUT (stDie k)
      (stLoc k)) s ≤ s.now)) ∧
    (∃ a : Access, ∃ k : Nat, ∃ v : Word, ∃ s : State, (k < 16) ∧ (Reaches a (stDie k) (shlPage (stLoc k)) 0x78 s) ∧ (a.bar2 = false) ∧ (flag
      (R.SHL.HCFG_CTL_DONE (stDie k) (stLoc k)) s = true) ∧ (sessionOpen k s = false)) ∧
    (∃ a : Access, ∃ k : Nat, ∃ v : Word, ∃ s : State, (k < 16) ∧ (Reaches a (stDie k) (shlPage (stLoc k)) 0x70 s) ∧ (a.bar2 = false) ∧ (bitsOf v.toNat 20
      1 = 1) ∧ (bitsOf v.toNat 0 17 ≠ 0)) := by
  refine
    ⟨⟨0, { up hl0 with headLinks := [(0, { replay := [(5, ⟨0x20, 0, 0, 0, 0, 0, []⟩)] })] }, ?_⟩,
      ⟨0, up ((R.SHL.HSTAT_BOND 0 0, 2) :: sta0), ?_⟩,
      ⟨0, up ((R.SHL.HCFG_TIMEOUT 0 0, 1) :: hl0), ?_⟩,
      ⟨bar0, 0, 0, up ((R.SHL.HCFG_CTL_DONE 0 0, 1) :: sta0), ?_⟩,
      ⟨bar0, 0, 0x100001, up hl0, ?_⟩⟩ <;>
  (repeat' apply And.intro) <;>
    decide +kernel

/-- States that meet the hypotheses of ProtectionCommandsAct. -/
theorem witness_ProtectionCommandsAct :
    (∃ k : Nat, ∃ s : State, (k < stationCount s) ∧ (sprotOn k s = true) ∧ (testBit (latches k s) 1 = false) ∧ ((∀ i, i < 64 → (slotOf i s).begun.contains
      k = true → (slotOf i s).ended.contains k = true))) ∧
    (∃ k : Nat, ∃ s : State, (sprotOn k s = true) ∧ (flag (R.SPROT.SENS_CFG_PAPER_EN (stDie k) (stLoc k)) s = true) ∧ (testBit (latches k s) 2 = false) ∧
      (sensorPath k 2 s = [k]) ∧ ((∀ i, i < 64 → (slotOf i s).begun.contains k = true → (slotOf i s).ended.contains k = true))) ∧
    (∃ k : Nat, ∃ s : State, (sprotOn k s = true) ∧ (flag (R.SPROT.SENS_CFG_JAM_EN (stDie k) (stLoc k)) s = true) ∧ (testBit (latches k s) 3 = false) ∧
      (sensorPath k 3 s = [k]) ∧ ((∀ i, i < 64 → (slotOf i s).begun.contains k = true → (slotOf i s).ended.contains k = true))) ∧
    (∃ a : Access, ∃ k : Nat, ∃ v : Word, ∃ s : State, (k < 16) ∧ (Reaches a (stDie k) (sprotPage (stLoc k)) 0x40 s)) ∧
    (∃ k : Nat, ∃ s : State, (sprotOn k s = true) ∧ (flag (R.SPROT.GATE_STAT_SOFT_PEND (stDie k) (stLoc k)) s = true) ∧ ((staOf k s).boundary = true)) ∧
    (∃ k : Nat, ∃ s : State, (sprotOn k s = true) ∧ ((staOf k s).bucketAt < ltime (stDie k) s / 1000000)) ∧
    (∃ k : Nat, ∃ s : State, (k < stationCount s)) ∧
    (∃ k : Nat, ∃ s : State, (k < stationCount s) ∧ (sprotOn k s = true) ∧ (sensorPath k 2 s = [k])) ∧
    (∃ k : Nat, ∃ s : State, (k < stationCount s) ∧ (sprotOn k s = true) ∧ (sensorPath k 3 s = [k])) := by
  refine
    ⟨⟨0, up sta0, ?_⟩,
      ⟨0, up ((R.SPROT.SENS_CFG_PAPER_EN 0 0, 1) :: sta0), ?_⟩,
      ⟨0, up ((R.SPROT.SENS_CFG_JAM_EN 0 0, 1) :: sta0), ?_⟩,
      ⟨bar0, 0, 0, up sta0, ?_⟩,
      ⟨0, { up ((R.SPROT.GATE_STAT_SOFT_PEND 0 0, 1) :: sta0) with stations := [(0, { boundary := true })] }, ?_⟩,
      ⟨0, up sta0, ?_⟩,
      ⟨0, up sta0, ?_⟩,
      ⟨0, up ((R.SPROT.SENS_CFG_PAPER_EN 0 0, 1) :: sta0), ?_⟩,
      ⟨0, up ((R.SPROT.SENS_CFG_JAM_EN 0 0, 1) :: sta0), ?_⟩⟩ <;>
  (repeat' apply And.intro) <;>
    decide +kernel

/-- States that meet the hypotheses of CalibrationCommandsAct. -/
theorem witness_CalibrationCommandsAct :
    (∃ a : Access, ∃ d : Nat, ∃ v : Word, ∃ s : State, ∃ S : State, ∃ r : _, (Reaches a d 0x71 0x580 s) ∧ ((RegWrite.of a d 0x71 0x580 (v |||
      0x80000000)).store (landWrite a.rq d s) = S) ∧ (flag (R.PIO.CAL_STAT_BUSY d) S = false) ∧ ((nvReadChecked d (calOffset (rd (R.PIO.CAL_LOAD_STATION d)
      S) (rd (R.PIO.CAL_LOAD_SET d) S)) 8192 S).2.1 = false) ∧ (calCheck d (rd (R.PIO.CAL_LOAD_STATION d) S) (nvReadChecked d (calOffset (rd
      (R.PIO.CAL_LOAD_STATION d) S) (rd (R.PIO.CAL_LOAD_SET d) S)) 8192 S).1 S = r) ∧ (r ≠ 0)) ∧
    (∃ a : Access, ∃ d : Nat, ∃ v : Word, ∃ s : State, ∃ S : State, (Reaches a d 0x71 0x580 s) ∧ ((RegWrite.of a d 0x71 0x580 (v ||| 0x80000000)).store
      (landWrite a.rq d s) = S) ∧ (flag (R.PIO.CAL_STAT_BUSY d) S = false) ∧ ((nvReadChecked d (calOffset (rd (R.PIO.CAL_LOAD_STATION d) S) (rd
      (R.PIO.CAL_LOAD_SET d) S)) 8192 S).2.1 = false) ∧ (calCheck d (rd (R.PIO.CAL_LOAD_STATION d) S) (nvReadChecked d (calOffset (rd
      (R.PIO.CAL_LOAD_STATION d) S) (rd (R.PIO.CAL_LOAD_SET d) S)) 8192 S).1 S = 0) ∧ (slotBusy d (rd (R.PIO.CAL_LOAD_SLOT d) S) S = false)) ∧
    (∃ d : Nat, ∃ c : CalJob, ∃ s : State, (calJobOf d s = some c)) ∧
    (∃ a : Access, ∃ k : Nat, ∃ v : Word, ∃ s : State, (k < 16) ∧ (Reaches a (stDie k) 0x71 (0x500 + 0x40 * stLoc k) s) ∧ (testBit v.toNat 0 = false) ∧
      ((ageOf k s).action = 0)) ∧
    (∃ a : Access, ∃ k : Nat, ∃ v : Word, ∃ s : State, (k < 16) ∧ (Reaches a (stDie k) 0x71 (0x500 + 0x40 * stLoc k) s) ∧ (testBit v.toNat 0 = false) ∧
      (testBit v.toNat 1 = false) ∧ ((ageOf k s).action = 0)) ∧
    (∃ a : Access, ∃ k : Nat, ∃ v : Word, ∃ s : State, (k < 16) ∧ (Reaches a (stDie k) 0x71 (0x500 + 0x40 * stLoc k) s) ∧ (testBit v.toNat 1 = false) ∧
      (testBit v.toNat 2 = false) ∧ ((ageOf k s).action = 0)) ∧
    (∃ k : Nat, ∃ s : State, (pioOn (stDie k) s = true) ∧ ((ageOf k s).action ≠ 0)) ∧
    (∃ k : Nat, ∃ s : State, (pioOn (stDie k) s = true) ∧ (flag (R.PIO.AGE_CTL_EN (stDie k) (stLoc k)) s = true) ∧ (rd (R.PIO.AGE_CFG_CKPT (stDie k)
      (stLoc k)) s ≠ 0) ∧ ((ageOf k s).ckptAt + 10000000000 * rd (R.PIO.AGE_CFG_CKPT (stDie k) (stLoc k)) s ≤ s.now) ∧ ((ageOf k s).action = 0) ∧
      (backgroundDeferred (stDie k) s = false)) ∧
    (∃ k : Nat, ∃ b : List Byte, ∃ w : List Byte, ∃ s : State, (pioOn (stDie k) s = true) ∧ (stationOn k s = true) ∧ (sessionOpen k s = true) ∧ (flag
      (R.PIO.AGE_CTL_EN (stDie k) (stLoc k)) s = true) ∧ ((ageOf k s).sentAt + 1000000000 * rd (R.PIO.AGE_CFG_REFRESH (stDie k) (stLoc k)) s ≤ s.now) ∧
      ((headOf k s).waiting.any (fun p => p.type == 0x23) = false) ∧ (agentRead agOther (ageAddr k s) (2 * lineLen k s) s = (.ok b, s)) ∧ (agentRead agOther
      (wearAddr k s) (4 * lineLen k s) s = (.ok w, s))) := by
  refine
    ⟨⟨bar0, 0, 0, up [], (RegWrite.of bar0 0 0x71 0x580 0x80000000).store (landWrite .host 0 (up [])), 1, ?_⟩,
      ⟨bar0, 0, 0, cal0, (RegWrite.of bar0 0 0x71 0x580 0x80000000).store (landWrite .host 0 cal0), ?_⟩,
      ⟨0, ⟨0, 0, 0, 0, 0, 0⟩, { up [] with calJobs := [(0, some ⟨0, 0, 0, 0, 0, 0⟩)] }, ?_⟩,
      ⟨bar0, 0, 2, up sta0, ?_⟩,
      ⟨bar0, 0, 4, up sta0, ?_⟩,
      ⟨bar0, 0, 1, up sta0, ?_⟩,
      ⟨0, { up sta0 with ages := [(0, { action := 1 })] }, ?_⟩,
      ⟨0, up ((R.PIO.AGE_CTL_EN 0 0, 1) :: (R.PIO.AGE_CFG_CKPT 0 0, 1) :: sta0), ?_⟩,
      ⟨0, okAge (up age0), okWear (up age0), up age0, ?_⟩⟩ <;>
  (repeat' apply And.intro) <;>
    decide +kernel

/-- States that meet the hypotheses of MarkAndCounterCommandsAct. -/
theorem witness_MarkAndCounterCommandsAct :
    (∃ d : Nat, ∃ m : Nat, ∃ held : Nat, ∃ rising : Bool, ∃ s : State, (m < 4) ∧ (pioOn d s = true) ∧ (flag (R.PIO.MARK_CFG_EN d m) s = true) ∧ ((rd
      (R.PIO.MARK_CFG_EDGE d m) s = 2 ∨ rd (R.PIO.MARK_CFG_EDGE d m) s = (if rising then 0 else 1))) ∧ (rd (R.PIO.MARK_CFG_FILT d m) s ≤ held) ∧ (flag
      (R.PIO.MARK_CFG_CUE_EN d m) s = false)) ∧
    (∃ a : Access, ∃ d : Nat, ∃ m : Nat, ∃ s : State, (m < 4) ∧ (Answers a d 0x71 s)) ∧
    (∃ k : Nat, ∃ v : Nat, ∃ e : Int, ∃ s : State, (s.aregOut.find? (fun x => x.1 == k) = some (v, e)) ∧ (slotBusy (stDie k) (rd (R.PIO.AREG_CFG_SLOT
      (stDie k) (stLoc k)) s) s = false) ∧ (flag (R.PIO.AREG_CFG_EN (stDie k) (stLoc k)) s = true)) ∧
    (∃ d : Nat, ∃ e : Nat, ∃ c : Nat, ∃ n : Nat, ∃ la : Bool, ∃ lb : Bool, ∃ s : State, (e < 8) ∧ (c < 8) ∧ (blockUp d 0x60 s = true) ∧ (rd
      (R.CUE.POS_CFG_SRC d c) s = e) ∧ ((∀ c' < 8, c' ≠ c → rd (R.CUE.POS_CFG_SRC d c') s ≠ e)) ∧ ((∀ l < 2, stationOn (2 * d + l) s = false)) ∧ (edgeNear d
      e (rd (R.CUE.POS_CFG_FILT d c) s) ((encoderOf d e s).a != la) ((encoderOf d e s).b != lb) s = false) ∧ (decodeStep (rd (R.CUE.POS_CFG_MODE d c) s)
      (encoderOf d e s).a (encoderOf d e s).b la lb = n) ∧ ((n = 1 ∨ n = 2))) ∧
    (∃ d : Nat, ∃ e : Nat, ∃ c : Nat, ∃ la : Bool, ∃ lb : Bool, ∃ s : State, (e < 8) ∧ (c < 8) ∧ (blockUp d 0x60 s = true) ∧ (rd (R.CUE.POS_CFG_SRC d c) s
      = e) ∧ ((∀ c' < 8, c' ≠ c → rd (R.CUE.POS_CFG_SRC d c') s ≠ e)) ∧ (decodeStep (rd (R.CUE.POS_CFG_MODE d c) s) (encoderOf d e s).a (encoderOf d e s).b
      la lb = 3)) ∧
    (∃ d : Nat, ∃ e : Nat, ∃ s : State, (blockUp d 0x60 s = true)) ∧
    (∃ a : Access, ∃ d : Nat, ∃ v : Word, ∃ s : State, (Reaches a d 0x60 0x50 s)) := by
  refine
    ⟨⟨0, 0, 1000000, true, up [(R.PIO.MARK_CFG_EN 0 0, 1)], ?_⟩,
      ⟨bar0, 0, 0, up [], ?_⟩,
      ⟨0, 0, 7, { up [(R.PIO.AREG_CFG_EN 0 0, 1)] with aregOut := [(0, 7)] }, ?_⟩,
      ⟨0, 0, 0, 1, true, false, up ((R.CUE.POS_CFG_MODE 0 0, 1) :: src0), ?_⟩,
      ⟨0, 0, 0, true, true, up ((R.CUE.POS_CFG_MODE 0 0, 1) :: src0), ?_⟩,
      ⟨0, 0, up [], ?_⟩,
      ⟨bar0, 0, 0, up [], ?_⟩⟩ <;>
  (repeat' apply And.intro) <;>
    decide +kernel

/-- States that meet the hypotheses of CueCommandsAct. -/
theorem witness_CueCommandsAct :
    (∃ a : Access, ∃ d : Nat, ∃ n : Nat, ∃ v : Word, ∃ s : State, (Reaches a d 0x60 0x40 s) ∧ (v.toNat % 512 = n) ∧ (testBit v.toNat 17 = false) ∧
      (testBit v.toNat 18 = false) ∧ (cueArmed d n s = false) ∧ (cueReason d n s = 0)) ∧
    (∃ a : Access, ∃ d : Nat, ∃ n : Nat, ∃ r : Nat, ∃ v : Word, ∃ s : State, (Reaches a d 0x60 0x40 s) ∧ (v.toNat % 512 = n) ∧ (testBit v.toNat 17 =
      false) ∧ (testBit v.toNat 18 = false) ∧ (cueArmed d n s = false) ∧ (cueReason d n s = r) ∧ (r ≠ 0) ∧ (flag (R.CUE.CUE_ERR_VALID d) s = false)) ∧
    (∃ a : Access, ∃ d : Nat, ∃ n : Nat, ∃ v : Word, ∃ s : State, (Reaches a d 0x60 0x40 s) ∧ (v.toNat % 512 = n) ∧ (testBit v.toNat 16 = false) ∧
      (testBit v.toNat 18 = false)) ∧
    (∃ a : Access, ∃ d : Nat, ∃ n : Nat, ∃ v : Word, ∃ s : State, (Reaches a d 0x60 0x40 s) ∧ (v.toNat % 512 = n) ∧ (testBit v.toNat 16 = false) ∧
      (testBit v.toNat 17 = false) ∧ (faultsHold d 0x60 s = false)) ∧
    (∃ d : Nat, ∃ n : Nat, ∃ s : State, (n < 512) ∧ (blockUp d 0x60 s = true) ∧ (cueDue d n s = true) ∧ (cuePeriod (cueEntry d n s) = 0) ∧ (cueAction
      (cueEntry d n s) = 5) ∧ (cueTarget (cueEntry d n s) < 16) ∧ ((∀ i < 8, rd (R.TXN.TXS_STAT_STATE d i) s ≠ 1)) ∧ ((∀ m < 4, flag (R.PIO.MARK_CFG_CUE_EN
      d m) s = false)) ∧ ((∀ p < 2, (pathRunOf p s).waiting = []))) ∧
    (∃ d : Nat, ∃ n : Nat, ∃ s : State, (n < 512) ∧ ((cueOf d n s).acting = true) ∧ ((cueOf d n s).move = none)) := by
  refine
    ⟨⟨bar0, 0, 0, 0x10000, up cue0, ?_⟩,
      ⟨bar0, 0, 0, 1, 0x10000, up [], ?_⟩,
      ⟨bar0, 0, 0, 0x20000, up cue0, ?_⟩,
      ⟨bar0, 0, 0, 0x40000, up [], ?_⟩,
      ⟨0, 0, { up ((R.CUE.CUE_ARMED 0 0, 1) :: cue0) with cues := [(0, { reached := true })] }, ?_⟩,
      ⟨0, 0, { up [] with cues := [(0, { acting := true })] }, ?_⟩⟩ <;>
  (repeat' apply And.intro) <;>
    decide +kernel

/-- States that meet the hypotheses of MediumPathCommandsAct. -/
theorem witness_MediumPathCommandsAct :
    (∃ a : Access, ∃ p : Nat, ∃ v : Word, ∃ s : State, (p < 2) ∧ (Reaches a 0 0x60 (0x300 + 0x40 * p) s) ∧ (pathState p s = 0) ∧ (testBit v.toNat 0 =
      true) ∧ (s.stopAtRun.contains p = false)) ∧
    (∃ a : Access, ∃ p : Nat, ∃ v : Word, ∃ s : State, (p < 2) ∧ (Reaches a 0 0x60 (0x300 + 0x40 * p) s) ∧ (testBit v.toNat 0 = false)) ∧
    (∃ a : Access, ∃ p : Nat, ∃ v : Word, ∃ s : State, (p < 2) ∧ (Reaches a 0 0x60 (0x310 + 0x40 * p) s) ∧ (testBit v.toNat 1 = false) ∧ (testBit v.toNat
      2 = false) ∧ (pathSheet p s = false) ∧ ((pathState p s = 1 ∨ pathState p s = 6))) ∧
    (∃ p : Nat, ∃ c : Nat, ∃ s : State, (p < 2) ∧ (c < 8) ∧ (s.msgs.find? (isCause p) = some (.stopCause p c)) ∧ (pathSheet p s = false) ∧ ((pathState p s
      = 1 ∨ pathState p s = 6))) ∧
    (∃ a : Access, ∃ p : Nat, ∃ v : Word, ∃ s : State, (p < 2) ∧ (Reaches a 0 0x60 (0x310 + 0x40 * p) s) ∧ (testBit v.toNat 0 = false) ∧ (testBit v.toNat
      2 = false) ∧ (pathSheet p s = false) ∧ (pathState p s = 4)) ∧
    (∃ a : Access, ∃ p : Nat, ∃ v : Word, ∃ s : State, (p < 2) ∧ (Reaches a 0 0x60 (0x310 + 0x40 * p) s) ∧ (testBit v.toNat 0 = false) ∧ (testBit v.toNat
      1 = false) ∧ (pathState p s = 7) ∧ (dieFenced (rd (R.CUE.PATH_CFG_MDIE 0 p) s) s = false) ∧ ((pathMembers p s).any (fun k => jamSet k s) = false) ∧
      (s.stopAtRun.contains p = false)) ∧
    (∃ p : Nat, ∃ s : State, (p < 2) ∧ (pathState p s = 4) ∧ (flag (R.CUE.PATH_CFG_AUTO 0 p) s = true) ∧ (backfeedReady p s = true)) ∧
    (∃ p : Nat, ∃ s : State, (p < 2) ∧ ((masterLoop p s).s = 0) ∧ ((masterLoop p s).prof.phase = 0) ∧ (pathState p s = 3)) ∧
    (∃ p : Nat, ∃ s : State, (p < 2) ∧ ((masterLoop p s).s = 0) ∧ ((masterLoop p s).prof.phase = 0) ∧ (pathState p s = 5) ∧ (masterAtTarget p s = true) ∧
      (s.stopAtRun.contains p = false)) ∧
    (∃ p : Nat, ∃ s : State, (p < 2) ∧ (blockUp (rd (R.CUE.PATH_CFG_MDIE 0 p) s) 0x70 s = true)) ∧
    (∃ a : Access, ∃ s : State, (Answers a 0 0x60 s)) := by
  refine
    ⟨⟨bar0, 0, 1, up [], ?_⟩,
      ⟨bar0, 0, 0, up [], ?_⟩,
      ⟨bar0, 0, 1, up [(R.CUE.PATH_STAT_STATE 0 0, 1)], ?_⟩,
      ⟨0, 7, { up [(R.CUE.PATH_STAT_STATE 0 0, 6)] with msgs := [.stopCause 0 7] }, ?_⟩,
      ⟨bar0, 0, 2, up [(R.CUE.PATH_STAT_STATE 0 0, 4)], ?_⟩,
      ⟨bar0, 0, 4, up [(R.CUE.PATH_STAT_STATE 0 0, 7)], ?_⟩,
      ⟨0, up [(R.CUE.PATH_STAT_STATE 0 0, 4), (R.CUE.PATH_CFG_AUTO 0 0, 1)], ?_⟩,
      ⟨0, up [(R.CUE.PATH_STAT_STATE 0 0, 3)], ?_⟩,
      ⟨0, up [(R.CUE.PATH_STAT_STATE 0 0, 5)], ?_⟩,
      ⟨0, up [], ?_⟩,
      ⟨bar0, up [], ?_⟩⟩ <;>
  (repeat' apply And.intro) <;>
    decide +kernel

/-- States that meet the hypotheses of StepCommandsAct. -/
theorem witness_StepCommandsAct :
    (∃ a : Access, ∃ d : Nat, ∃ n : Nat, ∃ v : Word, ∃ s : State, (n < 8) ∧ (Reaches a d 0x68 (0x11C + 0x40 * n) s) ∧ (testBit v.toNat 1 = false) ∧
      (testBit v.toNat 2 = false) ∧ (isFenced (.step d n) s = false) ∧ ((stepOf d n s).prof.phase = 0) ∧ (rd (R.STEP.VMAX_V d n) s ≠ 0) ∧ (rd (R.STEP.AMAX_A
      d n) s ≠ 0) ∧ (rd (R.STEP.JMAX_J d n) s ≠ 0) ∧ (rdS (R.STEP.TARGET_POS d n) s ≠ rdS (R.STEP.POS_POS d n) s)) ∧
    (∃ a : Access, ∃ d : Nat, ∃ n : Nat, ∃ v : Word, ∃ s : State, (n < 8) ∧ (Reaches a d 0x68 (0x11C + 0x40 * n) s) ∧ (testBit v.toNat 1 = false) ∧
      (testBit v.toNat 2 = false) ∧ (isFenced (.step d n) s = false) ∧ ((stepOf d n s).prof.phase = 0) ∧ (rd (R.STEP.VMAX_V d n) s ≠ 0) ∧ (rd (R.STEP.AMAX_A
      d n) s ≠ 0) ∧ (rd (R.STEP.JMAX_J d n) s ≠ 0) ∧ (rdS (R.STEP.TARGET_POS d n) s = rdS (R.STEP.POS_POS d n) s)) ∧
    (∃ a : Access, ∃ d : Nat, ∃ n : Nat, ∃ v : Word, ∃ s : State, (n < 8) ∧ (Reaches a d 0x68 (0x11C + 0x40 * n) s) ∧ (testBit v.toNat 0 = false) ∧
      (testBit v.toNat 2 = false) ∧ (isFenced (.step d n) s = false) ∧ (2 ≤ (stepOf d n s).prof.phase) ∧ ((stepOf d n s).prof.phase ≤ 6)) ∧
    (∃ a : Access, ∃ d : Nat, ∃ n : Nat, ∃ v : Word, ∃ s : State, (n < 8) ∧ (Reaches a d 0x68 (0x11C + 0x40 * n) s) ∧ (testBit v.toNat 0 = false) ∧
      (testBit v.toNat 2 = false) ∧ (isFenced (.step d n) s = false) ∧ ((stepOf d n s).prof.phase = 1)) ∧
    (∃ a : Access, ∃ d : Nat, ∃ n : Nat, ∃ v : Word, ∃ s : State, (n < 8) ∧ (Reaches a d 0x68 (0x11C + 0x40 * n) s) ∧ (testBit v.toNat 0 = false) ∧
      (testBit v.toNat 1 = false) ∧ (isFenced (.step d n) s = false) ∧ (2 ≤ (stepOf d n s).prof.phase) ∧ ((stepOf d n s).prof.phase ≤ 10)) ∧
    (∃ a : Access, ∃ d : Nat, ∃ n : Nat, ∃ v : Word, ∃ s : State, (n < 8) ∧ (Reaches a d 0x68 (0x11C + 0x40 * n) s) ∧ (testBit v.toNat 0 = false) ∧
      (testBit v.toNat 1 = false) ∧ (isFenced (.step d n) s = false) ∧ ((stepOf d n s).prof.phase = 1)) ∧
    (∃ a : Access, ∃ d : Nat, ∃ n : Nat, ∃ v : Word, ∃ s : State, (n < 8) ∧ (Reaches a d 0x68 (0x11C + 0x40 * n) s) ∧ (isFenced (.step d n) s = true) ∧
      (faultsHold d 0x68 s = false)) ∧
    (∃ d : Nat, ∃ n : Nat, ∃ s : State, (blockUp d 0x68 s = true) ∧ (isFenced (.step d n) s = false) ∧ (2 ≤ (stepOf d n s).prof.phase) ∧ ((stepOf d n
      s).prof.phase ≠ 10) ∧ ((stepOf d n s).ending = none) ∧ (((stepOf d n s).prof.takeTick (stepV d n s) (stepA d n s) (stepJ d n s) ((stepOf d n s).len *
      4294967296)).2.phase ≠ 10)) ∧
    (∃ d : Nat, ∃ n : Nat, ∃ u : Nat, ∃ rest : List Nat, ∃ s : State, ((stepOf d n s).due = u :: rest) ∧ (u ≤ s.now) ∧ ((stepOf d n s).ending = none)) ∧
    (∃ d : Nat, ∃ n : Nat, ∃ s : State, (n < 8) ∧ (blockUp d 0x68 s = true) ∧ (isFenced (.step d n) s = false) ∧ ((stepOf d n s).prof.phase = 10) ∧
      ((stepOf d n s).abandoned = false) ∧ ((stepOf d n s).ending = none) ∧ ((stepOf d n s).due = []) ∧ ((stepOf d n s).prof.q = (stepOf d n s).len *
      4294967296)) ∧
    (∃ d : Nat, ∃ n : Nat, ∃ e : Nat, ∃ s : State, (n < 8) ∧ ((stepOf d n s).ended = some e) ∧ ((stepOf d n s).ramping = false) ∧ ((stepOf d n
      s).prof.phase = 0) ∧ (e + 1000000 * rd (R.STEP.HOLD_CFG_DELAY d n) s ≤ s.now)) ∧
    (∃ d : Nat, ∃ n : Nat, ∃ e : Nat, ∃ s : State, (n < 8) ∧ ((stepOf d n s).ended = some e) ∧ ((stepOf d n s).ramping = true) ∧ ((stepOf d n
      s).prof.phase = 0) ∧ (e + 1000000 * (rd (R.STEP.HOLD_CFG_DELAY d n) s + rd (R.STEP.HOLD_CFG_RAMP d n) s) ≤ s.now)) := by
  refine
    ⟨⟨bar0, 0, 0, 1, up ((R.STEP.TARGET_POS 0 0, 5) :: step0), ?_⟩,
      ⟨bar0, 0, 0, 1, up step0, ?_⟩,
      ⟨bar0, 0, 0, 2, { up step0 with steps := [(0, { prof := { phase := 2 } })] }, ?_⟩,
      ⟨bar0, 0, 0, 2, { up step0 with steps := [(0, { prof := { phase := 1 } })] }, ?_⟩,
      ⟨bar0, 0, 0, 4, { up step0 with steps := [(0, { prof := { phase := 10 } })] }, ?_⟩,
      ⟨bar0, 0, 0, 4, { up step0 with steps := [(0, { prof := { phase := 1 } })] }, ?_⟩,
      ⟨bar0, 0, 0, 0, { up step0 with fenced := [.step 0 0] }, ?_⟩,
      ⟨0, 0, { up step0 with steps := [(0, { prof := { phase := 2 }, len := 100 })] }, ?_⟩,
      ⟨0, 0, 7, [12], { up step0 with now := 9, steps := [(0, { prof := { phase := 5 }, due := [7, 12], len := 3 })] }, ?_⟩,
      ⟨0, 0, { up step0 with steps := [(0, { prof := { phase := 10, q := 429496729600 }, len := 100 })] }, ?_⟩,
      ⟨0, 0, 0, { up [] with steps := [(0, { ended := some 0 })] }, ?_⟩,
      ⟨0, 0, 0, { up [] with steps := [(0, { ended := some 0, ramping := true })] }, ?_⟩⟩ <;>
  (repeat' apply And.intro) <;>
    decide +kernel

/-- States that meet the hypotheses of MotorCommandsAct. -/
theorem witness_MotorCommandsAct :
    (∃ d : Nat, ∃ n : Nat, ∃ ia : Nat, ∃ ib : Nat, ∃ ic : Nat, ∃ s : State, (n < 4) ∧ (domainReady d 11 s = true) ∧ (isFenced (.foc d n) s = false) ∧
      (isFenced (.bus d (rd (R.FOC.CFG0_BUS d n) s)) s = false) ∧ (flag (R.FOC.CTL_EN d n) s = true) ∧ (flag (R.BUS.BUS_STAT_TRIPPED d (rd (R.FOC.CFG0_BUS d
      n) s)) s = false) ∧ (focState d n s = 0)) ∧
    (∃ d : Nat, ∃ n : Nat, ∃ ia : Nat, ∃ ib : Nat, ∃ ic : Nat, ∃ s : State, (n < 4) ∧ (domainReady d 11 s = true) ∧ (flag (R.FOC.CTL_EN d n) s = false) ∧
      (focState d n s ≠ 0)) ∧
    (∃ d : Nat, ∃ n : Nat, ∃ ia : Nat, ∃ ib : Nat, ∃ ic : Nat, ∃ s : State, (n < 4) ∧ (domainReady d 11 s = true) ∧ (isFenced (.foc d n) s = false) ∧
      (isFenced (.bus d (rd (R.FOC.CFG0_BUS d n) s)) s = false) ∧ (flag (R.FOC.CTL_EN d n) s = true) ∧ (flag (R.BUS.BUS_STAT_TRIPPED d (rd (R.FOC.CFG0_BUS d
      n) s)) s = false) ∧ (focState d n s = 1) ∧ ((focOf d n s).samples < 255)) ∧
    (∃ d : Nat, ∃ n : Nat, ∃ ia : Nat, ∃ ib : Nat, ∃ ic : Nat, ∃ s : State, (n < 4) ∧ (domainReady d 11 s = true) ∧ (isFenced (.foc d n) s = false) ∧
      (isFenced (.bus d (rd (R.FOC.CFG0_BUS d n) s)) s = false) ∧ (flag (R.FOC.CTL_EN d n) s = true) ∧ (flag (R.BUS.BUS_STAT_TRIPPED d (rd (R.FOC.CFG0_BUS d
      n) s)) s = false) ∧ (focState d n s = 6) ∧ (rd (R.FOC.CFG1_SENSE d n) s ≠ 3) ∧ ((focCurrents d n ia ib ic s).1.natAbs < rd (R.FOC.ILIM_OC d n) s) ∧
      ((focCurrents d n ia ib ic s).2.1.natAbs < rd (R.FOC.ILIM_OC d n) s) ∧ ((focCurrents d n ia ib ic s).2.2.natAbs < rd (R.FOC.ILIM_OC d n) s) ∧
      (((focCurrents d n ia ib ic s).1 + (focCurrents d n ia ib ic s).2.1 + (focCurrents d n ia ib ic s).2.2).natAbs ≤ 2048)) ∧
    (∃ d : Nat, ∃ n : Nat, ∃ ia : Nat, ∃ ib : Nat, ∃ ic : Nat, ∃ s : State, (n < 4) ∧ (domainReady d 11 s = true) ∧ (isFenced (.foc d n) s = false) ∧
      (isFenced (.bus d (rd (R.FOC.CFG0_BUS d n) s)) s = false) ∧ (flag (R.FOC.CTL_EN d n) s = true) ∧ (flag (R.BUS.BUS_STAT_TRIPPED d (rd (R.FOC.CFG0_BUS d
      n) s)) s = false) ∧ (focState d n s = 6) ∧ (rd (R.FOC.ILIM_OC d n) s ≤ (focCurrents d n ia ib ic s).1.natAbs)) ∧
    (∃ d : Nat, ∃ n : Nat, ∃ code : Nat, ∃ sec : Nat, ∃ s : State, (n < 4) ∧ (domainReady d 11 s = true) ∧ (rd (R.FOC.CFG1_SENSE d n) s = 0) ∧ (hallSector
      code = some sec)) ∧
    (∃ d : Nat, ∃ n : Nat, ∃ code : Nat, ∃ s : State, (n < 4) ∧ (domainReady d 11 s = true) ∧ (isFenced (.foc d n) s = false) ∧ (hallSector code = none)) ∧
    (∃ d : Nat, ∃ n : Nat, ∃ theta : Nat, ∃ speed : Int, ∃ vd : Int, ∃ vq : Int, ∃ s : State, (n < 4) ∧ (focState d n s = 2) ∧ ((focOf d n s).since +
      1000000 * rd (R.FOC.CATCH_CFG_TIME d n) s ≤ s.now) ∧ (0 ≤ speed) ∧ (rd (R.FOC.CATCH_MIN_SPEED d n) s ≤ speed.natAbs) ∧ (rd (R.FOC.CFG1_SENSE d n) s ≠
      3)) ∧
    (∃ d : Nat, ∃ n : Nat, ∃ theta : Nat, ∃ speed : Int, ∃ vd : Int, ∃ vq : Int, ∃ s : State, (n < 4) ∧ (focState d n s = 2) ∧ ((focOf d n s).since +
      1000000 * rd (R.FOC.CATCH_CFG_TIME d n) s ≤ s.now) ∧ (speed < 0) ∧ (rd (R.FOC.CATCH_MIN_SPEED d n) s ≤ speed.natAbs) ∧ (rd (R.FOC.REV_THR_SPEED d n) s
      < speed.natAbs)) ∧
    (∃ d : Nat, ∃ n : Nat, ∃ s : State, (n < 4) ∧ (focState d n s = 4) ∧ ((focOf d n s).since + 1000000 * rd (R.FOC.ALIGN_T d n) s ≤ s.now)) ∧
    (∃ d : Nat, ∃ n : Nat, ∃ s : State, (n < 4) ∧ (focState d n s = 3) ∧ ((focOf d n s).since + 1000000 * rd (R.FOC.CATCH_CFG_BRAKE_TMO d n) s ≤ s.now) ∧
      (isFenced (.foc d n) s = false)) ∧
    (∃ a : Access, ∃ d : Nat, ∃ n : Nat, ∃ v : Word, ∃ s : State, (n < 4) ∧ (Reaches a d 0x69 (0x140 + 0x80 * n) s) ∧ (isFenced (.foc d n) s = true) ∧
      (faultsHold d 0x69 s = false)) := by
  refine
    ⟨⟨0, 0, 0, 0, 0, up foc0, ?_⟩,
      ⟨0, 0, 0, 0, 0, up [(R.FOC.STAT_STATE 0 0, 6), (R.FOC.CTL_EN 0 0, 0)], ?_⟩,
      ⟨0, 0, 0, 0, 0, { up ((R.FOC.STAT_STATE 0 0, 1) :: foc0) with focs := [(0, { samples := 254 })] }, ?_⟩,
      ⟨0, 0, 2048, 2048, 2048, up ((R.FOC.STAT_STATE 0 0, 6) :: (R.FOC.ILIM_OC 0 0, 100) :: foc0), ?_⟩,
      ⟨0, 0, 4095, 2048, 2048, up ((R.FOC.STAT_STATE 0 0, 6) :: (R.FOC.ILIM_OC 0 0, 100) :: foc0), ?_⟩,
      ⟨0, 0, 1, 0, up ((R.FOC.STAT_STATE 0 0, 6) :: (R.FOC.CFG1_SENSE 0 0, 0) :: foc0), ?_⟩,
      ⟨0, 0, 7, up ((R.FOC.STAT_STATE 0 0, 6) :: (R.FOC.CFG1_SENSE 0 0, 1) :: foc0), ?_⟩,
      ⟨0, 0, 0, 100, 0, 0, up ((R.FOC.STAT_STATE 0 0, 2) :: (R.FOC.CATCH_MIN_SPEED 0 0, 100) :: foc0), ?_⟩,
      ⟨0, 0, 0, -101, 0, 0, up ((R.FOC.STAT_STATE 0 0, 2) :: (R.FOC.CATCH_MIN_SPEED 0 0, 100) :: (R.FOC.REV_THR_SPEED 0 0, 100) :: foc0), ?_⟩,
      ⟨0, 0, up ((R.FOC.STAT_STATE 0 0, 4) :: foc0), ?_⟩,
      ⟨0, 0, up ((R.FOC.STAT_STATE 0 0, 3) :: foc0), ?_⟩,
      ⟨bar0, 0, 0, 0, { up foc0 with fenced := [.foc 0 0] }, ?_⟩⟩ <;>
  (repeat' apply And.intro) <;>
    decide +kernel

/-- States that meet the hypotheses of MotorBusCommandsAct. -/
theorem witness_MotorBusCommandsAct :
    (∃ d : Nat, ∃ b : Nat, ∃ v : Nat, ∃ s : State, (d < s.dies) ∧ (b < 4) ∧ (flag (R.BUS.CHOP_CFG_MODE d b) s = false)) ∧
    (∃ d : Nat, ∃ b : Nat, ∃ v : Nat, ∃ t0 : Nat, ∃ v0 : Nat, ∃ s : State, (d < s.dies) ∧ (b < 4) ∧ (blockUp d 0x6A s = true) ∧ (flag (R.BUS.CHOP_CFG_MODE
      d b) s = false) ∧ (flag (R.BUS.BUS_STAT_CLAMP d b) s = false) ∧ (rd (R.BUS.CHOP_CFG_CH_ON d b) s ≤ v) ∧ (rd (R.BUS.VB_CFG_OV_REGEN d b) s ≤ v) ∧ (v <
      rd (R.BUS.VB_CFG_OV_HARD d b) s) ∧ (0 < rd (R.BUS.INEFF_TIME d b) s) ∧ (1000 * rd (R.BUS.INEFF_TIME d b) s ≤ s.now) ∧ ((busOf d b s).chopSince = some
      t0) ∧ (t0 + 1000 * rd (R.BUS.INEFF_TIME d b) s ≤ s.now) ∧ (readingAt (busOf d b s).readings (s.now - 1000 * rd (R.BUS.INEFF_TIME d b) s) = some v0) ∧
      (v0 + rd (R.BUS.INEFF_RISE d b) s ≤ v)) ∧
    (∃ d : Nat, ∃ b : Nat, ∃ v : Nat, ∃ s : State, (d < s.dies) ∧ (b < 4) ∧ (flag (R.BUS.BUS_STAT_CLAMP d b) s = true) ∧ (v + rd (R.BUS.UVH_HYST d b) s <
      rd (R.BUS.VB_CFG_OV_REGEN d b) s)) ∧
    (∃ d : Nat, ∃ b : Nat, ∃ v : Nat, ∃ s : State, (d < s.dies) ∧ (b < 4) ∧ (flag (R.BUS.BUS_STAT_TRIPPED d b) s = false) ∧ (rd (R.BUS.VB_CFG_OV_HARD d b)
      s ≤ v)) ∧
    (∃ d : Nat, ∃ b : Nat, ∃ v : Nat, ∃ s : State, (d < s.dies) ∧ (b < 4) ∧ (v ≤ rd (R.BUS.UVH_UV_LIM d b) s)) ∧
    (∃ a : Access, ∃ d : Nat, ∃ b : Nat, ∃ v : Word, ∃ s : State, (b < 4) ∧ (Reaches a d 0x6A (0x110 + 0x40 * b) s) ∧ (UnitId.bus d b ∈ s.fenced) ∧
      (faultsHold d 0x6A s = false) ∧ (rd (R.BUS.BUS_STAT_V d b) s + rd (R.BUS.UVH_HYST d b) s < rd (R.BUS.VB_CFG_OV_REGEN d b) s)) ∧
    (∃ a : Access, ∃ d : Nat, ∃ b : Nat, ∃ v : Word, ∃ s : State, (b < 4) ∧ (Reaches a d 0x6A (0x110 + 0x40 * b) s) ∧ (isFenced (.bus d b) s = false)) := by
  refine
    ⟨⟨0, 0, 0, up bus0, ?_⟩,
      ⟨0, 0, 103, 0, 100, { up bus0 with buses := [(0, { readings := [(0, 100)], chopSince := some 0 })] }, ?_⟩,
      ⟨0, 0, 89, up ((R.BUS.BUS_STAT_CLAMP 0 0, 1) :: bus0), ?_⟩,
      ⟨0, 0, 200, up bus0, ?_⟩,
      ⟨0, 0, 49, up bus0, ?_⟩,
      ⟨bar0, 0, 0, 0, { up bus0 with fenced := [.bus 0 0] }, ?_⟩,
      ⟨bar0, 0, 0, 0, up bus0, ?_⟩⟩ <;>
  (repeat' apply And.intro) <;>
    decide +kernel

/-- States that meet the hypotheses of LoopCommandsAct. -/
theorem witness_LoopCommandsAct :
    (∃ a : Access, ∃ d : Nat, ∃ v : Word, ∃ s : State, (Reaches a d 0x70 0x40 s) ∧ (v.toNat < 160) ∧ (loopReason d v.toNat s = 0)) ∧
    (∃ a : Access, ∃ d : Nat, ∃ v : Word, ∃ s : State, (Reaches a d 0x70 0x40 s) ∧ (v.toNat < 160) ∧ (loopReason d v.toNat s ≠ 0)) ∧
    (∃ a : Access, ∃ d : Nat, ∃ v : Word, ∃ s : State, (Reaches a d 0x70 0x40 s) ∧ (v.toNat < 160) ∧ ((loopOf d v.toNat s).mode ≠ 0)) ∧
    (∃ a : Access, ∃ d : Nat, ∃ v : Word, ∃ s : State, (Reaches a d 0x70 0x40 s) ∧ (v.toNat < 160) ∧ ((loopOf d v.toNat s).mode = 1)) ∧
    (∃ a : Access, ∃ d : Nat, ∃ v : Word, ∃ s : State, (Reaches a d 0x70 0x40 s) ∧ (v.toNat < 160) ∧ ((loopOf d v.toNat s).mode ≠ 0)) ∧
    (∃ a : Access, ∃ d : Nat, ∃ v : Word, ∃ s : State, (Reaches a d 0x70 0x40 s) ∧ (v.toNat < 160) ∧ (faultsHold d 0x70 s = false)) ∧
    (∃ d : Nat, ∃ i : Nat, ∃ s : State, (i < 160) ∧ (blockUp d 0x70 s = true) ∧ (mapGet (fun _ => 0) s.loopNext d ≤ ltime d s / 20000) ∧ (enabledLoops d s
      = [i]) ∧ ((loopOf d i s).mode = 1) ∧ (ltime d s / 20000 % periodTicks (eU (loopEntry d i s) 1 1 % 8) = eU (loopEntry d i s) 2 1) ∧ (eU (loopEntry d i
      s) 8 1 ≠ 1) ∧ (loopKind (loopEntry d i s) ≠ 5) ∧ (aregStation d i s = none) ∧ (s.aregOut = [])) ∧
    (∃ d : Nat, ∃ k : Nat, ∃ fsn : Nat, ∃ xc : Nat, ∃ lines : Nat, ∃ level : Nat, ∃ width : Nat, ∃ cpc : Nat, ∃ zones : List Nat, ∃ s : State,
      (s.msgs.find? (isCff d) = some (.cff d k fsn xc lines level width cpc zones)) ∧ (blockUp d 0x70 s = true) ∧ (dieFenced d s = false) ∧ ((counterOf d
      (cffCount d s) s).up = false)) ∧
    (∃ d : Nat, ∃ fsn : Nat, ∃ s : State, (s.msgs.find? (isCancel d) = some (.cffCancel d fsn)) ∧ (dieFenced d s = false) ∧ ((counterOf d (cffCount d s)
      s).up = false)) := by
  refine
    ⟨⟨bar0, 0, 0, up [at32 (loopAddr 0 0) 1, at32 (loopAddr 0 0 + 4) 0x0100], ?_⟩,
      ⟨bar0, 0, 159, up [at32 (loopAddr 0 159) 0x0700], ?_⟩,
      ⟨bar0, 0, 0, { up [] with loops := [(0, { mode := 1 })] }, ?_⟩,
      ⟨bar0, 0, 0, { up [] with loops := [(0, { mode := 1 })] }, ?_⟩,
      ⟨bar0, 0, 0, { up [] with loops := [(0, { mode := 2 })] }, ?_⟩,
      ⟨bar0, 0, 0, up [], ?_⟩,
      ⟨0, 0, { up [] with loops := [(0, { mode := 1 })] }, ?_⟩,
      ⟨0, 0, 0, 0, 0, 0, 0, 0, [], { up [] with msgs := [.cff 0 0 0 0 0 0 0 0 []], counters := [(0, { up := false })] }, ?_⟩,
      ⟨0, 5, { up [] with msgs := [.cffCancel 0 5], counters := [(0, { up := false })] }, ?_⟩⟩ <;>
  (repeat' apply And.intro) <;>
    decide +kernel

/-- States that meet the hypotheses of ProcessIoCommandsAct. -/
theorem witness_ProcessIoCommandsAct :
    (∃ d : Nat, ∃ a : Nat, ∃ c : Nat, ∃ ain : List Nat, ∃ hvm : List Nat, ∃ s : State, (blockUp d 0x71 s = true) ∧ (a < 16) ∧ (ain[a]? = some c) ∧ (flag
      (R.PIO.ADC_EN d a) s = true)) ∧
    (∃ d : Nat, ∃ s : State, (blockUp d 0x71 s = true)) ∧
    (∃ d : Nat, ∃ t0 : Nat, ∃ s : State, (blockUp d 0x71 s = true) ∧ ((zeroOf d s).last = some t0) ∧ (3 * halfPeriod (zeroOf d s) < 2 * (s.now - t0)) ∧
      (flag (R.PIO.ZC_STAT_OK d) s = true)) ∧
    (∃ d : Nat, ∃ g : Nat, ∃ level : Bool, ∃ s : State, (blockUp d 0x78 s = true) ∧ (g < 32) ∧ (testBit (gpioOf d s).seen g ≠ level)) ∧
    (∃ a : Access, ∃ d : Nat, ∃ v : Word, ∃ s : State, (Reaches a d 0x78 0x48 s)) ∧
    (∃ a : Access, ∃ d : Nat, ∃ v : Word, ∃ s : State, (Reaches a d 0x78 0x4C s)) ∧
    (∃ d : Nat, ∃ s : State, (blockUp d 0x78 s = true) ∧ (flag (R.GPIO.SPLICE_CFG_EN d) s = true)) := by
  refine
    ⟨⟨0, 15, 7, List.replicate 16 7, [], up [(R.PIO.ADC_EN 0 15, 1)], ?_⟩,
      ⟨0, up [], ?_⟩,
      ⟨0, 0, { up [(R.PIO.ZC_STAT_OK 0, 1)] with zeros := [(0, { last := some 0 })] }, ?_⟩,
      ⟨0, 31, true, up [], ?_⟩,
      ⟨bar0, 0, 0, up [], ?_⟩,
      ⟨bar0, 0, 0, up [], ?_⟩,
      ⟨0, up [(R.GPIO.SPLICE_CFG_EN 0, 1)], ?_⟩⟩ <;>
  (repeat' apply And.intro) <;>
    decide +kernel

/-- States that meet the hypotheses of EthernetCommandsAct. -/
theorem witness_EthernetCommandsAct :
    (∃ p : Nat, ∃ frame : List Sys2Proof.Byte, ∃ sound : Bool, ∃ s : State, (ethUp p s = true) ∧ ((sound = false ∨ frame.length < 64 ∨ 2048 <
      frame.length))) ∧
    (∃ p : Nat, ∃ frame : List Sys2Proof.Byte, ∃ s : State, (ethUp p s = true) ∧ (64 ≤ frame.length) ∧ (frame.length ≤ 2048) ∧ ((∀ o, ptpAt frame = some o
      → isSync frame o = false)) ∧ (ethAccepts p frame s = true)) ∧
    (∃ a : Access, ∃ p : Nat, ∃ v : Word, ∃ s : State, (p < 2) ∧ (Reaches a 0 0x31 (0x118 + 0x100 * p) s)) ∧
    (∃ a : Access, ∃ p : Nat, ∃ v : Word, ∃ s : State, (p < 2) ∧ (Reaches a 0 0x31 (0x114 + 0x100 * p) s) ∧ ((ethOf p s).run ≠ none)) ∧
    (∃ a : Access, ∃ p : Nat, ∃ v : Word, ∃ s : State, (p < 2) ∧ (Reaches a 0 0x31 (0x114 + 0x100 * p) s) ∧ (ethUp p s = true) ∧ ((ethOf p s).run = none)
      ∧ (rd (R.ELNK.TXQ_CFG_SIZE 0 p (v.toNat % 8)) s ≠ 0) ∧ ((∀ r, r < 8 → r ≠ v.toNat % 8 → txHead p r s = none)) ∧ (testBit (fieldLe (hostRead
      (txHeadAddr p (v.toNat % 8) s) 32 s) 10 1) 0 = true) ∧ (txSound (hostRead (txHeadAddr p (v.toNat % 8) s) 32 s) = true) ∧ (txLaunch (hostRead
      (txHeadAddr p (v.toNat % 8) s) 32 s) = false)) ∧
    (∃ p : Nat, ∃ q : Nat, ∃ b : List Sys2Proof.Byte, ∃ s : State, (ethUp p s = true) ∧ ((ethOf p s).run = none) ∧ (q < 8) ∧ (txHead p q s = some b) ∧
      (txLaunch b = true) ∧ (fieldLe b 16 8 ≤ masterNs s) ∧ ((∀ r, r < 8 → q < r → txHead p r s = none)) ∧ (txSound b = true) ∧ ((masterNs s ≤ fieldLe b 16
      8 + rd (R.ELNK.LATE_TOL_NS 0 p) s ∨ testBit (fieldLe b 10 1) 4 = false))) ∧
    (∃ p : Nat, ∃ q : Nat, ∃ r : TxRun, ∃ s : State, (p < 2) ∧ (q < 8) ∧ ((ethOf p s).run = some r) ∧ (r.q = q) ∧ (r.finish ≤ s.now)) ∧
    (∃ s : State, (blockUp 0 0x31 s = true) ∧ (s.syncAt.getD 0 + 1000000 * rd (R.ELNK.SYNC_TMO_MS 0) s ≤ s.now) ∧ (flag (R.ELNK.HOLD_STAT_HOLDOVER 0) s =
      false)) := by
  refine
    ⟨⟨0, [], false, up eth0, ?_⟩,
      ⟨0, List.replicate 64 0, up eth0, ?_⟩,
      ⟨bar0, 0, 0, up eth0, ?_⟩,
      ⟨bar0, 0, 0, { up eth0 with eths := [(0, { run := some ⟨0, 0, [], 0, 0, 0⟩ })] }, ?_⟩,
      ⟨bar0, 0, 0, ethTx 1, ?_⟩,
      ⟨0, 0, (txHead 0 0 (ethTx 3)).getD [], ethTx 3, ?_⟩,
      ⟨0, 0, ⟨0, 0, [], 0, 0, 0⟩, { up eth0 with eths := [(0, { run := some ⟨0, 0, [], 0, 0, 0⟩ })] }, ?_⟩,
      ⟨up [], ?_⟩⟩ <;>
  (repeat' apply And.intro) <;>
    decide +kernel

/-- States that meet the hypotheses of TimeCommandsAct. -/
theorem witness_TimeCommandsAct :
    (∃ a : Access, ∃ v : Word, ∃ s : State, (Reaches a 0 0x32 0x90 s)) ∧
    (∃ a : Access, ∃ v : Word, ∃ s : State, (Reaches a 0 0x32 0x94 s)) ∧
    (∃ a : Access, ∃ v : Word, ∃ s : State, (Reaches a 0 0x32 0xA4 s)) ∧
    (∃ d : Nat, ∃ sec : Nat, ∃ ns : Nat, ∃ frac : Nat, ∃ T : Nat, ∃ e : Int, ∃ s : State, (s.msgs.find? (isRefresh d) = some (.refresh d sec ns frac)) ∧
      (dieUp d s = true) ∧ (dieFenced d s = false) ∧ (T = sec * 1000000000 + ns + (if d = 0 then 0 else rd (R.TIME.MORT_LAT_NS d) s)) ∧ (e = toSigned 64
      (ltime d s + 18446744073709551616 - T % 18446744073709551616))) ∧
    (∃ d : Nat, ∃ s : State, (dieUp d s = true)) ∧
    (∃ a : Access, ∃ d : Nat, ∃ s : State, (Answers a d 0x32 s)) ∧
    (∃ a : Access, ∃ d : Nat, ∃ s : State, (Answers a d 0x32 s)) ∧
    (∃ a : Access, ∃ s : State, (Answers a 0 0x32 s)) ∧
    (∃ a : Access, ∃ d : Nat, ∃ c : Nat, ∃ s : State, (c < 8) ∧ (Answers a d 0x60 s)) := by
  refine
    ⟨⟨bar0, 0, up [], ?_⟩,
      ⟨bar0, 0, up [], ?_⟩,
      ⟨bar0, 0, up [], ?_⟩,
      ⟨0, 10, 5, 0, 10000000005, -5, { up [] with msgs := [.refresh 0 10 5 0] }, ?_⟩,
      ⟨0, up [], ?_⟩,
      ⟨bar0, 0, up [], ?_⟩,
      ⟨bar0, 0, up [], ?_⟩,
      ⟨bar0, up [], ?_⟩,
      ⟨bar0, 0, 7, up [], ?_⟩⟩ <;>
  (repeat' apply And.intro) <;>
    decide +kernel

/-- States that meet the hypotheses of MemoryCommandsAct. -/
theorem witness_MemoryCommandsAct :
    (∃ a : Access, ∃ d : Nat, ∃ v : Word, ∃ s : State, (Reaches a d 0x38 0x44 s) ∧ ((rd (R.MEMC.MSTAT_STATE d) s = 0 ∨ rd (R.MEMC.MSTAT_STATE d) s = 4))) ∧
    (∃ d : Nat, ∃ s : State, (domainReady d 7 s = true) ∧ (rd (R.MEMC.MSTAT_STATE d) s = 1)) ∧
    (∃ off : Nat, ∃ len : Nat, ∃ s : State, (memFault (aperture off s) len s = none) ∧ (badIn (aperture off s) len s = none)) ∧
    (∃ off : Nat, ∃ bytes : List Sys2Proof.Byte, ∃ en : List Bool, ∃ ue : Bool, ∃ s : State, (memFault (aperture off s) bytes.length s = none) ∧
      (en.length = bytes.length)) ∧
    (∃ d : Nat, ∃ s : State, (memReady d s = true) ∧ (flag (R.MEMC.SCRUB_CFG_EN d) s = true) ∧ (backgroundDeferred d s = false) ∧ (fittedBytes d s ≠ 0) ∧
      (s.badBlocks.contains ((d * 0x1000000000 + 32 * (scrubOf d s).pos) / 32) = false) ∧ (s.now ≤ (scrubOf d s).start + rd (R.MEMC.SCRUB_CFG_INTERVAL d) s
      * 3600000000000)) := by
  refine
    ⟨⟨bar0, 0, 0, up [], ?_⟩,
      ⟨0, up [(R.MEMC.MSTAT_STATE 0, 1)], ?_⟩,
      ⟨0, 8, up mem0, ?_⟩,
      ⟨0, [1], [true], false, up mem0, ?_⟩,
      ⟨0, up ((R.MEMC.SCRUB_CFG_EN 0, 1) :: (R.MEMC.SCRUB_CFG_INTERVAL 0, 1) :: mem0), ?_⟩⟩ <;>
  (repeat' apply And.intro) <;>
    decide +kernel

/-- States that meet the hypotheses of DmaCommandsAct. -/
theorem witness_DmaCommandsAct :
    (∃ a : Access, ∃ d : Nat, ∃ n : Nat, ∃ v : Word, ∃ s : State, (n < 8) ∧ (Reaches a d 0x39 (0x10C + 0x40 * n) s) ∧ (isFenced (.dma d n) s = false) ∧
      (flag (R.DMA.CTL_EN d n) s = false) ∧ (v.toNat % 8 = 1)) ∧
    (∃ a : Access, ∃ d : Nat, ∃ n : Nat, ∃ v : Word, ∃ s : State, (n < 8) ∧ (Reaches a d 0x39 (0x10C + 0x40 * n) s) ∧ (isFenced (.dma d n) s = false) ∧
      (flag (R.DMA.CTL_EN d n) s = true) ∧ (rd (R.DMA.STAT_STATE d n) s = 2) ∧ (testBit v.toNat 0 = true) ∧ (testBit v.toNat 2 = false)) ∧
    (∃ a : Access, ∃ d : Nat, ∃ n : Nat, ∃ v : Word, ∃ s : State, (n < 8) ∧ (Reaches a d 0x39 (0x10C + 0x40 * n) s) ∧ (isFenced (.dma d n) s = false)) ∧
    (∃ a : Access, ∃ d : Nat, ∃ n : Nat, ∃ v : Word, ∃ s : State, (n < 8) ∧ (Reaches a d 0x39 (0x10C + 0x40 * n) s) ∧ (UnitId.dma d n ∈ s.fenced) ∧
      (faultsHold d 0x39 s = false)) ∧
    (∃ d : Nat, ∃ n : Nat, ∃ s : State, (blockUp d 0x39 s = true) ∧ (n < 8) ∧ (isFenced (.dma d n) s = false) ∧ (flag (R.DMA.CTL_EN d n) s = true) ∧ (rd
      (R.DMA.STAT_STATE d n) s = 1) ∧ ((dmaOf d n s).cur = none) ∧ (dmaHostRing d n s = true)) ∧
    (∃ d : Nat, ∃ n : Nat, ∃ b : List Sys2Proof.Byte, ∃ s : State, ((dmaOf d n s).cur = some b) ∧ (blockUp d 0x39 s = true) ∧ (n < 8) ∧ (isFenced (.dma d
      n) s = false) ∧ ((dmaOf d n (dmaSettle d n s)).left = 0)) := by
  refine
    ⟨⟨bar0, 0, 0, 1, up [(R.DMA.CTL_EN 0 0, 0)], ?_⟩,
      ⟨bar0, 0, 0, 1, up [(R.DMA.CTL_EN 0 0, 1), (R.DMA.STAT_STATE 0 0, 2)], ?_⟩,
      ⟨bar0, 0, 0, 0, up [], ?_⟩,
      ⟨bar0, 0, 0, 0, { up [] with fenced := [.dma 0 0] }, ?_⟩,
      ⟨0, 0, up [(R.DMA.CTL_EN 0 0, 1), (R.DMA.STAT_STATE 0 0, 1), (R.DMA.RING_CFG_SPACE 0 0, 1)], ?_⟩,
      ⟨0, 0, [], { up [] with dmas := [(0, { cur := some [] })] }, ?_⟩⟩ <;>
  (repeat' apply And.intro) <;>
    decide +kernel

/-- States that meet the hypotheses of DomainCommandsAct. -/
theorem witness_DomainCommandsAct :
    (∃ d : Nat, ∃ dom : Nat, ∃ s : State, (dieUp d s = true) ∧ (dom < 14) ∧ (domSt d dom s = 1) ∧ (domWanted d dom s = true)) ∧
    (∃ d : Nat, ∃ dom : Nat, ∃ s : State, (dieUp d s = true) ∧ (3 ≤ dom) ∧ (dom < 14) ∧ (domSt d dom s ≠ 0) ∧ (domWanted d dom s = false) ∧ (domFree d dom
      s = true) ∧ (domBusy d dom s = false) ∧ (decidedIn d dom s = false)) ∧
    (∃ d : Nat, ∃ dom : Nat, ∃ s : State, (dieUp d s = true) ∧ (3 ≤ dom) ∧ (dom < 14) ∧ (domSt d dom s = 2) ∧ (domWanted d dom s = false) ∧ (domFree d dom
      s = true) ∧ (domBusy d dom s = true)) ∧
    (∃ d : Nat, ∃ dom : Nat, ∃ s : State, (dieUp d s = true) ∧ (dom < 14) ∧ (domSt d dom s = 1) ∧ ((domainOf d dom s).since + 20000 ≤ s.now)) := by
  refine
    ⟨⟨0, 0, domIn 0 1 [], ?_⟩,
      ⟨0, 5, domIn 5 2 [], ?_⟩,
      ⟨0, 9, { domIn 9 2 [at32 0x700030 0x01000701, at32 0x70000C 1] with slots := [(0, { st := 5 })] }, ?_⟩,
      ⟨0, 0, domIn 0 1 [], ?_⟩⟩ <;>
  (repeat' apply And.intro) <;>
    decide +kernel

/-- States that meet the hypotheses of RailCommandsAct. -/
theorem witness_RailCommandsAct :
    (∃ a : Access, ∃ v : Word, ∃ s : State, (Reaches a 0 0x13 0x44 s)) ∧
    (∃ a : Access, ∃ n : Nat, ∃ v : Word, ∃ s : State, (n < 24) ∧ (Reaches a 0 0x13 0x50 s) ∧ (testBit v.toNat n = true) ∧ (railSt n s = 7)) ∧
    (∃ n : Nat, ∃ s : State, (n < 24)) ∧
    (∃ n : Nat, ∃ level : Bool, ∃ s : State, (n < 24)) ∧
    (∃ n : Nat, ∃ s : State, (n < 24) ∧ (railSt n s = 3) ∧ (railQualified n s = true) ∧ (railGood n s = true) ∧ (railDueDown n s = false) ∧ (railTimedOut
      n s = false)) ∧
    (∃ n : Nat, ∃ s : State, (n < 24) ∧ ((railSt n s = 2 ∨ railSt n s = 3)) ∧ (railTimedOut n s = true) ∧ (railDueDown n s = false)) ∧
    (∃ n : Nat, ∃ s : State, (n < 24) ∧ (railSt n s = 5) ∧ ((railOf n s).late = false) ∧ ((railOf n s).since + 10000 * rd (R.SEQ.RTIME_TIMEOUT 0 n) s <
      s.now)) ∧
    (∃ n : Nat, ∃ s : State, (n < 24) ∧ (railSt n s = 6) ∧ (railMinOff n s = true)) ∧
    (∃ code : Nat, ∃ s : State, (flag (R.SEQ.VIN_STAT_TRIP 0) s = false)) ∧
    (∃ code : Nat, ∃ s : State, (flag (R.SEQ.VIN_STAT_TRIP 0) s = true)) := by
  refine
    ⟨⟨bar0, 0, up [], ?_⟩,
      ⟨bar0, 0, 1, up (rail0 7), ?_⟩,
      ⟨0, up [], ?_⟩,
      ⟨0, true, up [], ?_⟩,
      ⟨0, { up ((R.SEQ.RSTAT_PG 0 0, 1) :: rail0 3) with rails := [(0, { ramp := 10000000000 })] }, ?_⟩,
      ⟨0, up (rail0 2), ?_⟩,
      ⟨0, up (rail0 5), ?_⟩,
      ⟨0, up (rail0 6), ?_⟩,
      ⟨0, up [], ?_⟩,
      ⟨0, up [(R.SEQ.VIN_STAT_TRIP 0, 1)], ?_⟩⟩ <;>
  (repeat' apply And.intro) <;>
    decide +kernel

/-- States that meet the hypotheses of StoreAndThermalCommandsAct. -/
theorem witness_StoreAndThermalCommandsAct :
    (∃ a : Access, ∃ v : Word, ∃ s : State, (Reaches a 0 0x15 0x58 s)) ∧
    (∃ cause : Nat, ∃ info : Nat, ∃ s : State, (s.logBusy = some (cause, info)) ∧ (flag (R.NVS.NV_STAT_VIN_BLOCK 0) s = false)) ∧
    (∃ a : Access, ∃ d : Nat, ∃ off : Nat, ∃ be : Nat, ∃ v : Word, ∃ s : State, (accessDown a s = false) ∧ (a.bar2 = false) ∧ (d < 8) ∧ (d < s.dies) ∧
      (dieAnswers d s = true) ∧ (dieFenced d s = false) ∧ (domSt d 0 s = 2) ∧ (off < 0x200000) ∧ (off % 4 = 0) ∧ (be % 16 = 15)) ∧
    (∃ d : Nat, ∃ raw : Int, ∃ s : State, (d < s.dies)) := by
  refine
    ⟨⟨bar0, 0, up [], ?_⟩,
      ⟨1, 0, { up [] with logBusy := some (1, 0) }, ?_⟩,
      ⟨bar0, 0, 0x1FFFFC, 15, 7, up [], ?_⟩,
      ⟨7, -5, up [], ?_⟩⟩ <;>
  (repeat' apply And.intro) <;>
    decide +kernel

/-- States that meet the hypotheses of ColdReleaseCommandsAct. -/
theorem witness_ColdReleaseCommandsAct :
    (∃ d : Nat, ∃ s : State, (d < s.dies)) ∧
    (∃ d : Nat, ∃ s : State, (d < s.dies)) ∧
    (∃ d : Nat, ∃ ns : Nat, ∃ s : State, (d < s.dies) ∧ (1000 ≤ ns)) ∧
    (∃ ns : Nat, ∃ s : State, (ns < 500)) ∧
    (∃ boot : Nat, ∃ clkm : Nat, ∃ prof : Nat, ∃ legacy : Bool, ∃ s : State, ((releaseOf 0 s).phase = 1)) ∧
    (∃ d : Nat, ∃ s : State, (d < s.dies) ∧ ((releaseOf d s).phase = 3)) ∧
    (∃ d : Nat, ∃ at_ : Nat, ∃ s : State, (d < s.dies) ∧ ((releaseOf d s).phase = 3) ∧ (s.strapsAt = some at_) ∧ (at_ + 10000000 ≤ s.now)) ∧
    (∃ d : Nat, ∃ p : Nat, ∃ s : State, (d < s.dies) ∧ (p < 4) ∧ ((rd (R.CLK.PLL_STAT_STATE d p) s = 1 ∨ rd (R.CLK.PLL_STAT_STATE d p) s = 3)) ∧ (flag
      (R.CLK.CLK_STAT_REF_OK d) s = true)) ∧
    (∃ d : Nat, ∃ lat : Nat, ∃ s : State, (d < s.dies) ∧ ((releaseOf d s).phase = 5)) ∧
    (∃ d : Nat, ∃ isl : Nat, ∃ s : State, (d < s.dies) ∧ (isl < 14) ∧ (domSt d isl s = 2) ∧ ((domainOf d isl s).rel = false) ∧ ((releaseOf d s).phase =
      9)) ∧
    (∃ d : Nat, ∃ isl : Nat, ∃ s : State, (d < s.dies) ∧ (isl < 14) ∧ (domSt d isl s = 2) ∧ ((domainOf d isl s).rel = false) ∧ ((releaseOf d s).phase = 6)
      ∧ ((∀ i, i < 3 → i ≠ isl → (domainOf d i s).rel = true))) ∧
    (∃ d : Nat, ∃ isl : Nat, ∃ s : State, (d < s.dies) ∧ (isl < 14) ∧ (domSt d isl s = 2) ∧ ((domainOf d isl s).rel = false) ∧ ((domainOf d isl s).since +
      1000000 ≤ s.now) ∧ (flag (R.CLK.CLK_STAT_REF_OK d) s = true)) ∧
    (∃ s : State, (s.pcieUp = false) ∧ (dieUp 0 s = true)) := by
  refine
    ⟨⟨7, up [], ?_⟩,
      ⟨7, up [], ?_⟩,
      ⟨7, 1000, up [], ?_⟩,
      ⟨499, up [], ?_⟩,
      ⟨0, 0, 0, false, phase0 1 [], ?_⟩,
      ⟨0, phase0 3 [], ?_⟩,
      ⟨0, 0, { phase0 3 [] with strapsAt := some 0 }, ?_⟩,
      ⟨0, 3, up [(R.CLK.PLL_STAT_STATE 0 3, 1), (R.CLK.CLK_STAT_REF_OK 0, 1)], ?_⟩,
      ⟨0, 0, phase0 5 [], ?_⟩,
      ⟨0, 13, { up [] with domains := [(13, { st := 2 })] }, ?_⟩,
      ⟨0, 2, { phase0 6 [] with domains := [(0, { st := 2, rel := true }), (1, { st := 2, rel := true }), (2, { st := 2 })] }, ?_⟩,
      ⟨0, 0, { up [(R.CLK.CLK_STAT_REF_OK 0, 1)] with domains := [(0, { st := 2 })] }, ?_⟩,
      ⟨{ up [] with pcieUp := false }, ?_⟩⟩ <;>
  (repeat' apply And.intro) <;>
    decide +kernel

/-- States that meet the hypotheses of WarmResetCommandsAct. -/
theorem witness_WarmResetCommandsAct :
    (∃ a : Access, ∃ d : Nat, ∃ v : Word, ∃ s : State, (Reaches a d 0x10 0x40 s) ∧ (bitsOf v.toNat 8 8 = 0xA5) ∧ (coldRunning s = false)) ∧
    (∃ d : Nat, ∃ s : State, (dieUp d s = true) ∧ (flag (R.RST.WDT_CFG_EN d) s = true) ∧ (coldRunning s = false) ∧ (dogAt d s + 1000000 * rd
      (R.RST.WDT_CFG_TIMEOUT d) s ≤ s.now)) ∧
    (∃ s : State, (dieUp 0 s = true) ∧ (flag (R.RST.PKG_WDT_CFG_EN 0) s = true) ∧ (coldRunning s = false) ∧ (dogAt 8 s + 1000000 * rd
      (R.RST.PKG_WDT_CFG_TIMEOUT 0) s ≤ s.now)) ∧
    (∃ a : Access, ∃ d : Nat, ∃ v : Word, ∃ s : State, (Reaches a d 0x10 0x54 s) ∧ (v.toNat % 65536 = 0xC0DE)) ∧
    (∃ a : Access, ∃ v : Word, ∃ s : State, (Reaches a 0 0x10 0x64 s) ∧ (v.toNat % 65536 = 0xC0DE)) ∧
    (∃ d : Nat, ∃ s : State, (d < s.dies) ∧ (flag (R.CLK.CLK_STAT_REF_OK d) s = true)) ∧
    (∃ d : Nat, ∃ e : Nat, ∃ s : State, (s.clkFails.find? (fun x => x.1 == d) = some (d, e)) ∧ (e + 10000 ≤ s.now) ∧ (d < s.dies) ∧ (coldRunning s =
      false)) ∧
    (∃ d : Nat, ∃ s : State, (d < s.dies) ∧ ((releaseOf d s).phase = 0) ∧ ((releaseOf d s).held = false) ∧ ((releaseOf d s).due ≤ s.now) ∧ ((thermalOf d
      s).hot = false)) ∧
    (∃ d : Nat, ∃ p : Nat, ∃ s : State, (d < s.dies) ∧ (p < 4) ∧ (rd (R.CLK.PLL_STAT_STATE d p) s = 2)) := by
  refine
    ⟨⟨bar0, 0, 0xA500, up [], ?_⟩,
      ⟨0, up [(R.RST.WDT_CFG_EN 0, 1)], ?_⟩,
      ⟨up [(R.RST.PKG_WDT_CFG_EN 0, 1)], ?_⟩,
      ⟨bar0, 0, 0xC0DE, up [], ?_⟩,
      ⟨bar0, 0xC0DE, up [], ?_⟩,
      ⟨0, up [(R.CLK.CLK_STAT_REF_OK 0, 1)], ?_⟩,
      ⟨0, 0, { up [] with clkFails := [(0, 0)] }, ?_⟩,
      ⟨0, phase0 0 [], ?_⟩,
      ⟨0, 0, up [(R.CLK.PLL_STAT_STATE 0 0, 2)], ?_⟩⟩ <;>
  (repeat' apply And.intro) <;>
    decide +kernel

/-- States that meet the hypotheses of BootCommandsAct. -/
theorem witness_BootCommandsAct :
    (∃ s : State, (rd (R.RST.BOOT_STAT_STATE 0) s = 1) ∧ (dieUp 0 s = true) ∧ ((imageRead 0 64 s).2.1 = false) ∧ ((imageRead 0 (if fieldLe (imageRead 0 64
      s).1 8 4 ≤ bootLimit s then fieldLe (imageRead 0 64 s).1 8 4 else 64) s).2.1 = false)) ∧
    (∃ b : List Sys2Proof.Byte, ∃ s : State, (RecordReads 1 b s)) ∧
    (∃ b : List Sys2Proof.Byte, ∃ r : Nat × State, ∃ s : State, (RecordReads 2 b s) ∧ (readReg bootAccess (fieldLe b 4 4) (bootAdvance b s) = r)) ∧
    (∃ b : List Sys2Proof.Byte, ∃ s : State, (RecordReads 4 b s) ∧ (fieldLe b 2 2 = 1)) ∧
    (∃ b : List Sys2Proof.Byte, ∃ s : State, (RecordReads 3 b s)) ∧
    (∃ b : List Sys2Proof.Byte, ∃ e : Nat, ∃ s : State, (RecordReads 3 b s) ∧ (s.boot.pollEnd = some e) ∧ (e ≤ s.now)) ∧
    (∃ b : List Sys2Proof.Byte, ∃ s : State, (RecordReads 5 b s)) ∧
    (∃ b : List Sys2Proof.Byte, ∃ s : State, (RecordReads 6 b s) ∧ ((imageRead s.boot.pos (imageLength s - s.boot.pos) s).2.1 = false) ∧ (Nat.xor (crcFrom
      0x82F63B78 (imageRead s.boot.pos (imageLength s - s.boot.pos) s).1 s.boot.crc) 0xFFFFFFFF = fieldLe (imageRead 0 64 s).1 12 4)) := by
  refine
    ⟨⟨{ booting [] with regs := (up [(R.RST.BOOT_STAT_STATE 0, 1)]).regs }, ?_⟩,
      ⟨[1, 0, 0, 0, 4, 0, 0, 0, 9, 0, 0, 0], booting [1, 0, 0, 0, 4, 0, 0, 0, 9, 0, 0, 0], ?_⟩,
      ⟨[2, 0, 0, 0, 4, 0, 0, 0, 9, 0, 0, 0, 1, 0, 0, 0], readReg bootAccess 4 (bootAdvance [2, 0, 0, 0, 4, 0, 0, 0, 9, 0, 0, 0, 1, 0, 0, 0] (booting [2, 0,
        0, 0, 4, 0, 0, 0, 9, 0, 0, 0, 1, 0, 0, 0])), booting [2, 0, 0, 0, 4, 0, 0, 0, 9, 0, 0, 0, 1, 0, 0, 0], ?_⟩,
      ⟨[4, 0, 1, 0, 4, 0, 0, 0, 9, 0, 0, 0], booting [4, 0, 1, 0, 4, 0, 0, 0, 9, 0, 0, 0], ?_⟩,
      ⟨3 :: List.replicate 19 0, booting (3 :: List.replicate 19 0), ?_⟩,
      ⟨3 :: List.replicate 19 0, 5, { booting (3 :: List.replicate 19 0) with boot := { pos := 64, pollEnd := some 5 } }, ?_⟩,
      ⟨5 :: List.replicate 7 0, booting (5 :: List.replicate 7 0), ?_⟩,
      ⟨[6, 0, 0, 0], booting [6, 0, 0, 0], ?_⟩⟩ <;>
  (repeat' apply And.intro) <;>
    decide +kernel

/-- States that meet the hypotheses of JtagCommandsAct. -/
theorem witness_JtagCommandsAct :
    (∃ d : Nat, ∃ s : State, (d < s.dies) ∧ (coldRunning s = false)) ∧
    (∃ d : Nat, ∃ s : State, (d < s.dies) ∧ (coldRunning s = false)) ∧
    (∃ d : Nat, ∃ s : State, (d < s.dies) ∧ (coldRunning s = false)) ∧
    (∃ d : Nat, ∃ s : State, (d < s.dies) ∧ ((tapOf d s).ir = 0)) ∧
    (∃ d : Nat, ∃ s : State, (d < s.dies) ∧ ((tapOf d s).ir = 5)) ∧
    (∃ d : Nat, ∃ s : State, (d < s.dies) ∧ ((tapOf d s).ir = 6)) ∧
    (∃ d : Nat, ∃ s : State, (d < s.dies)) ∧
    (∃ d : Nat, ∃ s : State, (d < s.dies)) ∧
    (∃ d : Nat, ∃ code : Nat, ∃ s : State, (d < s.dies) ∧ (code % 256 ∉ [0x00, 0x01, 0x02, 0x05, 0x06, 0x20, 0x21])) ∧
    (∃ d : Nat, ∃ s : State, (d < s.dies) ∧ (coldRunning s = false)) ∧
    (∃ d : Nat, ∃ off : Nat, ∃ v : Word, ∃ s : State, (d < s.dies)) ∧
    (∃ d : Nat, ∃ off : Nat, ∃ v : Word, ∃ s : State, (d < s.dies)) ∧
    (∃ a : Access, ∃ v : Word, ∃ s : State, (Reaches a 0 0x10 0x78 s) ∧ (a.rq = .jtag) ∧ (bitsOf v.toNat 8 8 = 0x5A)) ∧
    (∃ a : Access, ∃ v : Word, ∃ s : State, (Reaches a 0 0x10 0x78 s) ∧ (a.rq = .jtag) ∧ (bitsOf v.toNat 8 8 = 0x5A) ∧ (flag (R.RST.FUSE_DIGEST_SET 0) s =
      true)) := by
  refine
    ⟨⟨7, up [], ?_⟩,
      ⟨7, up [], ?_⟩,
      ⟨7, up [], ?_⟩,
      ⟨0, { up [] with taps := [(0, { ir := 0 })] }, ?_⟩,
      ⟨0, { up [] with taps := [(0, { ir := 5 })] }, ?_⟩,
      ⟨0, { up [] with taps := [(0, { ir := 6 })] }, ?_⟩,
      ⟨0, up [], ?_⟩,
      ⟨0, up [], ?_⟩,
      ⟨0, 0x1FF, up [], ?_⟩,
      ⟨0, up [], ?_⟩,
      ⟨0, 0, 0, up [], ?_⟩,
      ⟨0, 0, 0, up [], ?_⟩,
      ⟨⟨.jtag, false⟩, 0x5A00, up [], ?_⟩,
      ⟨⟨.jtag, false⟩, 0x5A00, up [(R.RST.FUSE_DIGEST_SET 0, 1)], ?_⟩⟩ <;>
  (repeat' apply And.intro) <;>
    decide +kernel

/-- States that meet the hypotheses of InternalFaultCommandsAct. -/
theorem witness_InternalFaultCommandsAct :
    (∃ d : Nat, ∃ n : Nat, ∃ unit : Nat, ∃ s : State, (n < 8) ∧ (pagePresent d 0x39 s = true) ∧ (domainReady d (pageDomain 0x39) s = true)) ∧
    (∃ d : Nat, ∃ n : Nat, ∃ unit : Nat, ∃ s : State, (n < 8) ∧ (pagePresent d 0x68 s = true) ∧ (domainReady d (pageDomain 0x68) s = true)) ∧
    (∃ d : Nat, ∃ unit : Nat, ∃ s : State, (unit < 32768) ∧ (pagePresent d 0x15 s = true) ∧ (domainReady d (pageDomain 0x15) s = true)) ∧
    (∃ d : Nat, ∃ s : State, (d < s.dies) ∧ (d ∉ s.linksFenced)) := by
  refine
    ⟨⟨0, 7, 0, up [], ?_⟩,
      ⟨0, 7, 0, up [], ?_⟩,
      ⟨0, 32767, up [], ?_⟩,
      ⟨7, up [], ?_⟩⟩ <;>
  (repeat' apply And.intro) <;>
    decide +kernel

end Sys2Proof.Witness
end

section
/-! PROOFS. The canonical form is kept by every step: by every command, and by the passing of a nanosecond (R4, R27, R454). -/

namespace Sys2Proof.Machine

theorem stores_iff_canonical {s : State} : Stores s ↔ s.canonical :=
  ⟨fun h => ⟨h.regs, h.mem, h.nv, h.host⟩, fun ⟨hr, hm, hn, hh⟩ => ⟨hr, hm, hn, hh⟩⟩

/-- What every command keeps, by the law of its own meaning. -/
theorem exec_keeps (c : Instr) (s : State) : KeepsO s (exec c s) := by
  cases c with
  | registerWrite => exact execRegisterWrite_keeps (.refl s)
  | fenceRead => exact execFenceRead_keeps (.refl s)
  | accessTimeout => exact execAccessTimeout_keeps (.refl s)
  | lockup => exact execLockup_keeps (.refl s)
  | pageSrst => exact execPageSrst_keeps (.refl s)
  | pageEnable => exact execPageEnable_keeps (.refl s)
  | fenceReq => exact execFenceReq_keeps (.refl s)
  | unfence => exact execUnfence_keeps (.refl s)
  | stationUnfenceApply => exact execStationUnfenceApply_keeps (.refl s)
  | pwrReq => exact execPwrReq_keeps (.refl s)
  | evtForce => exact execEvtForce_keeps (.refl s)
  | fltForce => exact execFltForce_keeps (.refl s)
  | errPulseEnd => exact execErrPulseEnd_keeps (.refl s)
  | txnArm => exact execTxnArm_keeps (.refl s)
  | txnChecksDone => exact execTxnChecksDone_keeps (.refl s)
  | txnAbort => exact execTxnAbort_keeps (.refl s)
  | txnClear => exact execTxnClear_keeps (.refl s)
  | txnCommit => exact execTxnCommit_keeps (.refl s)
  | xtxnGo => exact execXtxnGo_keeps (.refl s)
  | xtxnAbort => exact execXtxnAbort_keeps (.refl s)
  | xtxnPrepare => exact execXtxnPrepare_keeps (.refl s)
  | xtxnAnswer => exact execXtxnAnswer_keeps (.refl s)
  | xtxnCommitMsg => exact execXtxnCommitMsg_keeps (.refl s)
  | xtxnAbortMsg => exact execXtxnAbortMsg_keeps (.refl s)
  | xtxnCommitReport => exact execXtxnCommitReport_keeps (.refl s)
  | xtxnTimeout => exact execXtxnTimeout_keeps (.refl s)
  | frameSubmit => exact execFrameSubmit_keeps (.refl s)
  | planeDescriptorMsg => exact execPlaneDescriptorMsg_keeps (.refl s)
  | resDeclare => exact execResDeclare_keeps (.refl s)
  | resurvey => exact execResurvey_keeps (.refl s)
  | surveyAshlarStart => exact execSurveyAshlarStart_keeps (.refl s)
  | surveyAshlarDone => exact execSurveyAshlarDone_keeps (.refl s)
  | frameAdmitted => exact execFrameAdmitted_keeps (.refl s)
  | frameArmed => exact execFrameArmed_keeps (.refl s)
  | frameRetire => exact execFrameRetire_keeps (.refl s)
  | spoiledExit => exact execSpoiledExit_keeps (.refl s)
  | reprint => exact execReprint_keeps (.refl s)
  | frameRelease => exact execFrameRelease_keeps (.refl s)
  | frameAbort => exact execFrameAbort_keeps (.refl s)
  | freedFsnRead => exact execFreedFsnRead_keeps (.refl s)
  | spoilLogRead => exact execSpoilLogRead_keeps (.refl s)
  | imgAshlarStart => exact execImgAshlarStart_keeps (.refl s)
  | imgAshlarDone => exact execImgAshlarDone_keeps (.refl s)
  | laneRoleChange => exact execLaneRoleChange_keeps (.refl s)
  | codecLaneUnfence => exact execCodecLaneUnfence_keeps (.refl s)
  | carrySurveyStart => exact execCarrySurveyStart_keeps (.refl s)
  | carryRecordDone => exact execCarryRecordDone_keeps (.refl s)
  | jobSubmit => exact execJobSubmit_keeps (.refl s)
  | jobStart => exact execJobStart_keeps (.refl s)
  | jobAshlarDone => exact execJobAshlarDone_keeps (.refl s)
  | jobAbort => exact execJobAbort_keeps (.refl s)
  | laneSynthLock => exact execLaneSynthLock_keeps (.refl s)
  | laneSignalDetect => exact execLaneSignalDetect_keeps (.refl s)
  | laneAdaptDone => exact execLaneAdaptDone_keeps (.refl s)
  | laneBlockLock => exact execLaneBlockLock_keeps (.refl s)
  | laneLoss => exact execLaneLoss_keeps (.refl s)
  | syncHeaderError => exact execSyncHeaderError_keeps (.refl s)
  | elasticOverflow => exact execElasticOverflow_keeps (.refl s)
  | laneLockHoldTimeout => exact execLaneLockHoldTimeout_keeps (.refl s)
  | laneSynthLoss => exact execLaneSynthLoss_keeps (.refl s)
  | laneRetrain => exact execLaneRetrain_keeps (.refl s)
  | eyeScanGo => exact execEyeScanGo_keeps (.refl s)
  | eyeScanStop => exact execEyeScanStop_keeps (.refl s)
  | eyePointDone => exact execEyePointDone_keeps (.refl s)
  | eyeScanResume => exact execEyeScanResume_keeps (.refl s)
  | alignmentMarker => exact execAlignmentMarker_keeps (.refl s)
  | bondAlignTimeout => exact execBondAlignTimeout_keeps (.refl s)
  | rlAshlar => exact execRlAshlar_keeps (.refl s)
  | rlIndex => exact execRlIndex_keeps (.refl s)
  | rlDescriptor => exact execRlDescriptor_keeps (.refl s)
  | rlResync => exact execRlResync_keeps (.refl s)
  | rlBadPacket => exact execRlBadPacket_keeps (.refl s)
  | rlPacketLanded => exact execRlPacketLanded_keeps (.refl s)
  | rlNakTimer => exact execRlNakTimer_keeps (.refl s)
  | rlInitAckTimer => exact execRlInitAckTimer_keeps (.refl s)
  | rlCreditTimer => exact execRlCreditTimer_keeps (.refl s)
  | rlRouteChange => exact execRlRouteChange_keeps (.refl s)
  | stationLine => exact execStationLine_keeps (.refl s)
  | bdEdge => exact execBdEdge_keeps (.refl s)
  | bdMissed => exact execBdMissed_keeps (.refl s)
  | fidIndexEdge => exact execFidIndexEdge_keeps (.refl s)
  | lgoEdge => exact execLgoEdge_keeps (.refl s)
  | ledStrobe => exact execLedStrobe_keeps (.refl s)
  | startEvent => exact execStartEvent_keeps (.refl s)
  | resumeEvent => exact execResumeEvent_keeps (.refl s)
  | hlStatus => exact execHlStatus_keeps (.refl s)
  | hlAck => exact execHlAck_keeps (.refl s)
  | hlNak => exact execHlNak_keeps (.refl s)
  | hlCredit => exact execHlCredit_keeps (.refl s)
  | hlBadPacket => exact execHlBadPacket_keeps (.refl s)
  | hlReplayTimer => exact execHlReplayTimer_keeps (.refl s)
  | hlResyncTimer => exact execHlResyncTimer_keeps (.refl s)
  | hlStatusTimeout => exact execHlStatusTimeout_keeps (.refl s)
  | headcfgSend => exact execHeadcfgSend_keeps (.refl s)
  | trimSetSend => exact execTrimSetSend_keeps (.refl s)
  | ilkFall => exact execIlkFall_keeps (.refl s)
  | hokFall => exact execHokFall_keeps (.refl s)
  | paperOut => exact execPaperOut_keeps (.refl s)
  | jam => exact execJam_keeps (.refl s)
  | rearm => exact execRearm_keeps (.refl s)
  | softStateApply => exact execSoftStateApply_keeps (.refl s)
  | headBucketTick => exact execHeadBucketTick_keeps (.refl s)
  | calLoad => exact execCalLoad_keeps (.refl s)
  | calLoadEnd => exact execCalLoadEnd_keeps (.refl s)
  | ageRestore => exact execAgeRestore_keeps (.refl s)
  | ageSave => exact execAgeSave_keeps (.refl s)
  | ckptNow => exact execCkptNow_keeps (.refl s)
  | ageActionEnd => exact execAgeActionEnd_keeps (.refl s)
  | wearCheckpoint => exact execWearCheckpoint_keeps (.refl s)
  | ageRefresh => exact execAgeRefresh_keeps (.refl s)
  | markCapture => exact execMarkCapture_keeps (.refl s)
  | markCaptureRead => exact execMarkCaptureRead_keeps (.refl s)
  | aregHeldStage => exact execAregHeldStage_keeps (.refl s)
  | encoderStep => exact execEncoderStep_keeps (.refl s)
  | encoderIndex => exact execEncoderIndex_keeps (.refl s)
  | posAdj => exact execPosAdj_keeps (.refl s)
  | cueArm => exact execCueArm_keeps (.refl s)
  | cueDisarm => exact execCueDisarm_keeps (.refl s)
  | cueUnfence => exact execCueUnfence_keeps (.refl s)
  | cueFire => exact execCueFire_keeps (.refl s)
  | cueComplete => exact execCueComplete_keeps (.refl s)
  | pathEnable => exact execPathEnable_keeps (.refl s)
  | pathStop => exact execPathStop_keeps (.refl s)
  | pathStopCause => exact execPathStopCause_keeps (.refl s)
  | pathResume => exact execPathResume_keeps (.refl s)
  | pathClear => exact execPathClear_keeps (.refl s)
  | pathBackfeedAuto => exact execPathBackfeedAuto_keeps (.refl s)
  | pathStandstill => exact execPathStandstill_keeps (.refl s)
  | rhoBroadcast => exact execRhoBroadcast_keeps (.refl s)
  | purgeFsnRead => exact execPurgeFsnRead_keeps (.refl s)
  | stepGo => exact execStepGo_keeps (.refl s)
  | stepStop => exact execStepStop_keeps (.refl s)
  | stepQstop => exact execStepQstop_keeps (.refl s)
  | stepUnfence => exact execStepUnfence_keeps (.refl s)
  | stepProfileTick => exact execStepProfileTick_keeps (.refl s)
  | stepHoldDelay => exact execStepHoldDelay_keeps (.refl s)
  | stepHoldReached => exact execStepHoldReached_keeps (.refl s)
  | focPeriod => exact execFocPeriod_keeps (.refl s)
  | hallTransition => exact execHallTransition_keeps (.refl s)
  | catchEnd => exact execCatchEnd_keeps (.refl s)
  | alignEnd => exact execAlignEnd_keeps (.refl s)
  | brakeTimeout => exact execBrakeTimeout_keeps (.refl s)
  | focUnfence => exact execFocUnfence_keeps (.refl s)
  | chopperSwitch => exact execChopperSwitch_keeps (.refl s)
  | busClamp => exact execBusClamp_keeps (.refl s)
  | busClampEnd => exact execBusClampEnd_keeps (.refl s)
  | busTrip => exact execBusTrip_keeps (.refl s)
  | busUndervoltage => exact execBusUndervoltage_keeps (.refl s)
  | busUnfence => exact execBusUnfence_keeps (.refl s)
  | chopBadClear => exact execChopBadClear_keeps (.refl s)
  | loopEnable => exact execLoopEnable_keeps (.refl s)
  | loopDisable => exact execLoopDisable_keeps (.refl s)
  | loopAuto => exact execLoopAuto_keeps (.refl s)
  | loopManual => exact execLoopManual_keeps (.refl s)
  | loopUnfence => exact execLoopUnfence_keeps (.refl s)
  | loopTick => exact execLoopTick_keeps (.refl s)
  | cffMessage => exact execCffMessage_keeps (.refl s)
  | cffCancel => exact execCffCancel_keeps (.refl s)
  | adcConversion => exact execAdcConversion_keeps (.refl s)
  | zeroCross => exact execZeroCross_keeps (.refl s)
  | zeroCrossLost => exact execZeroCrossLost_keeps (.refl s)
  | gpioEdge => exact execGpioEdge_keeps (.refl s)
  | gpioSet => exact execGpioSet_keeps (.refl s)
  | gpioClr => exact execGpioClr_keeps (.refl s)
  | spliceDetect => exact execSpliceDetect_keeps (.refl s)
  | ethFrameReceive => exact execEthFrameReceive_keeps (.refl s)
  | txKick => exact execTxKick_keeps (.refl s)
  | rxKick => exact execRxKick_keeps (.refl s)
  | ethLaunch => exact execEthLaunch_keeps (.refl s)
  | ethFrameSent => exact execEthFrameSent_keeps (.refl s)
  | syncTimeout => exact execSyncTimeout_keeps (.refl s)
  | timeIncr => exact execTimeIncr_keeps (.refl s)
  | timeAdj => exact execTimeAdj_keeps (.refl s)
  | timeSet => exact execTimeSet_keeps (.refl s)
  | timeRefreshSend => exact execTimeRefreshSend_keeps (.refl s)
  | timeRefresh => exact execTimeRefresh_keeps (.refl s)
  | timeRefreshMiss => exact execTimeRefreshMiss_keeps (.refl s)
  | ltLoRead => exact execLtLoRead_keeps (.refl s)
  | frcLoRead => exact execFrcLoRead_keeps (.refl s)
  | mtNsRead => exact execMtNsRead_keeps (.refl s)
  | posLoRead => exact execPosLoRead_keeps (.refl s)
  | memInit => exact execMemInit_keeps (.refl s)
  | memTrainDone => exact execMemTrainDone_keeps (.refl s)
  | bar4Read => exact execBar4Read_keeps (.refl s)
  | bar4Write => exact execBar4Write_keeps (.refl s)
  | scrubRead => exact execScrubRead_keeps (.refl s)
  | dmaEnable => exact execDmaEnable_keeps (.refl s)
  | dmaKick => exact execDmaKick_keeps (.refl s)
  | dmaAbort => exact execDmaAbort_keeps (.refl s)
  | dmaUnfence => exact execDmaUnfence_keeps (.refl s)
  | dmaDescriptorFetch => exact execDmaDescriptorFetch_keeps (.refl s)
  | dmaDescriptorComplete => exact execDmaDescriptorComplete_keeps (.refl s)
  | domainPowerUp => exact execDomainPowerUp_keeps (.refl s)
  | domainPowerDown => exact execDomainPowerDown_keeps (.refl s)
  | domainPowerTimeout => exact execDomainPowerTimeout_keeps (.refl s)
  | railRequest => exact execRailRequest_keeps (.refl s)
  | railClear => exact execRailClear_keeps (.refl s)
  | railSeqStep => exact execRailSeqStep_keeps (.refl s)
  | railPgChange => exact execRailPgChange_keeps (.refl s)
  | railQualifyDone => exact execRailQualifyDone_keeps (.refl s)
  | railTimeout => exact execRailTimeout_keeps (.refl s)
  | railDownTimeout => exact execRailDownTimeout_keeps (.refl s)
  | railMinoffEnd => exact execRailMinoffEnd_keeps (.refl s)
  | vinTrip => exact execVinTrip_keeps (.refl s)
  | vinRecover => exact execVinRecover_keeps (.refl s)
  | logSnap => exact execLogSnap_keeps (.refl s)
  | logRecordWrite => exact execLogRecordWrite_keeps (.refl s)
  | nvWrite => exact execNvWrite_keeps (.refl s)
  | tempSample => exact execTempSample_keeps (.refl s)
  | powerOn => exact execPowerOn_keeps (.refl s)
  | brownOut => exact execBrownOut_keeps (.refl s)
  | resetPin => exact execResetPin_keeps (.refl s)
  | softwareReset => exact execSoftwareReset_keeps (.refl s)
  | dieWatchdogExpire => exact execDieWatchdogExpire_keeps (.refl s)
  | pkgWatchdogExpire => exact execPkgWatchdogExpire_keeps (.refl s)
  | watchdogKick => exact execWatchdogKick_keeps (.refl s)
  | pkgWatchdogKick => exact execPkgWatchdogKick_keeps (.refl s)
  | clockFailure => exact execClockFailure_keeps (.refl s)
  | warmResetRelease => exact execWarmResetRelease_keeps (.refl s)
  | strapSample => exact execStrapSample_keeps (.refl s)
  | referenceCheck => exact execReferenceCheck_keeps (.refl s)
  | pllLock => exact execPllLock_keeps (.refl s)
  | pllLockLoss => exact execPllLockLoss_keeps (.refl s)
  | mortarTrained => exact execMortarTrained_keeps (.refl s)
  | islandRelease => exact execIslandRelease_keeps (.refl s)
  | clockGoodTimeout => exact execClockGoodTimeout_keeps (.refl s)
  | pcieReady => exact execPcieReady_keeps (.refl s)
  | bootCheckPass => exact execBootCheckPass_keeps (.refl s)
  | bootWrite => exact execBootWrite_keeps (.refl s)
  | bootMasked => exact execBootMasked_keeps (.refl s)
  | bootPoll => exact execBootPoll_keeps (.refl s)
  | bootPollTimeout => exact execBootPollTimeout_keeps (.refl s)
  | bootTable => exact execBootTable_keeps (.refl s)
  | bootDelay => exact execBootDelay_keeps (.refl s)
  | bootEnd => exact execBootEnd_keeps (.refl s)
  | tapReset => exact execTapReset_keeps (.refl s)
  | jtagExtest => exact execJtagExtest_keeps (.refl s)
  | jtagIdcode => exact execJtagIdcode_keeps (.refl s)
  | jtagSamplePreload => exact execJtagSamplePreload_keeps (.refl s)
  | jtagHighz => exact execJtagHighz_keeps (.refl s)
  | jtagClamp => exact execJtagClamp_keeps (.refl s)
  | jtagBypass => exact execJtagBypass_keeps (.refl s)
  | jtagDbgReset => exact execJtagDbgReset_keeps (.refl s)
  | jtagDbgAccess => exact execJtagDbgAccess_keeps (.refl s)
  | fuseBurn => exact execFuseBurn_keeps (.refl s)
  | fuseLock => exact execFuseLock_keeps (.refl s)
  | internalError => exact execInternalError_keeps (.refl s)
  | mortarLinkFenced => exact execMortarLinkFenced_keeps (.refl s)
  | inputDeasserted => exact execInputDeasserted_keeps (.refl s)
  | clockFailureWarmReset => exact execClockFailureWarmReset_keeps (.refl s)

theorem masterTick_keeps {z s : State} (h : Keeps z s) : Keeps z (masterTick s) :=
  keeps_ite (evt_keeps (.update h)) (onlyIf_keeps (fun _ ht => evt_keeps ht) (.update h))

/-- A nanosecond changes the time by one, and keeps what a command keeps. -/
theorem tick_keeps (s : State) : Keeps { s with now := s.now + 1 } (tick s) :=
  keeps_ite (masterTick_keeps (.refl _)) (.refl _)

theorem idle_keeps (s : State) : Keeps { s with now := s.now + 1 } (idle s) :=
  stepPulses_keeps (ledTags_keeps (linkTick_keeps (tick_keeps s)))

theorem step_keeps_stores {s t : State} (hs : Stores s) (h : step s = .next t) : Stores t := by
  unfold step at h
  split at h
  next hq =>
    cases h
    exact (idle_keeps s).stores ⟨hs.regs, hs.mem, hs.nv, hs.host⟩
  next c rest hq => exact (exec_keeps c _ t h).stores ⟨hs.regs, hs.mem, hs.nv, hs.host⟩

/-- Settles O3: each command's law gives the step of a command, and the laws of the clocks and links give the idle step. -/
theorem stepKeepsCanonicalForm : Obligations.StepKeepsCanonicalForm := by
  unfold Obligations.StepKeepsCanonicalForm
  intro s t hs h
  exact stores_iff_canonical.mp (step_keeps_stores (stores_iff_canonical.mpr hs) h)

end Sys2Proof.Machine
end

section
/-! PROOFS. The order of the wrapping counters (R11). -/

namespace Sys2Proof.Machine

theorem two_pow_eq_double {w : Nat} (hw : 1 ≤ w) : 2 ^ w = 2 * 2 ^ (w - 1) := by
  rw [← Nat.pow_succ', Nat.succ_eq_add_one, Nat.sub_add_cancel hw]

/-- R11 without the modulus: `a` is ahead of `b` by less than half the range, directly or past the wrap. -/
theorem later_iff {w a b : Nat} (ha : a < 2 ^ w) (hb : b < 2 ^ w) :
    later w a b = true ↔ b < a ∧ a - b < 2 ^ (w - 1) ∨ a < b ∧ a + 2 ^ w - b < 2 ^ (w - 1) := by
  have hh : 0 < 2 ^ (w - 1) := Nat.two_pow_pos _
  simp only [later, Bool.and_eq_true, decide_eq_true_eq, Nat.mod_eq_of_lt hb]
  rcases Nat.lt_or_ge a b with hab | hab
  · rw [Nat.mod_eq_of_lt (by omega : a + 2 ^ w - b < 2 ^ w)]
    omega
  · rw [Nat.sub_add_comm hab, Nat.add_mod_right, Nat.mod_eq_of_lt (by omega : a - b < 2 ^ w)]
    omega

/-- The distance of R11 as a number: the difference, with the range added where it is negative. -/
theorem sub_emod_two_pow {w a b : Nat} (ha : a < 2 ^ w) (hb : b < 2 ^ w) :
    ((a : Int) - b) % 2 ^ w = if b ≤ a then (a : Int) - b else (a : Int) - b + (2 ^ w : Nat) := by
  have e : (2 : Int) ^ w = ((2 ^ w : Nat) : Int) := by norm_cast
  rw [e]
  split
  · exact Int.emod_eq_of_lt (by omega) (by omega)
  · rw [← Int.add_emod_right]
    exact Int.emod_eq_of_lt (by omega) (by omega)

theorem later_iff_distance {w a b : Nat} (ha : a < 2 ^ w) (hb : b < 2 ^ w) :
    later w a b = true ↔ 1 ≤ ((a : Int) - b) % 2 ^ w ∧ ((a : Int) - b) % 2 ^ w ≤ 2 ^ (w - 1) - 1 := by
  have e : (2 : Int) ^ (w - 1) = ((2 ^ (w - 1) : Nat) : Int) := by norm_cast
  rw [later_iff ha hb, sub_emod_two_pow ha hb, e]
  split <;> omega

theorem later_asymm {w a b : Nat} (hw : 1 ≤ w) (ha : a < 2 ^ w) (hb : b < 2 ^ w) (h : later w a b = true) :
    later w b a = false := by
  have hd := two_pow_eq_double hw
  rw [later_iff ha hb] at h
  rw [← Bool.not_eq_true, later_iff hb ha]
  omega

/-- A counter that has gone on by less than half its range is later than it was, past its wrap too. -/
theorem later_advance {w b k : Nat} (hw : 1 ≤ w) (hb : b < 2 ^ w) (hk : 1 ≤ k) (hk' : k < 2 ^ (w - 1)) :
    later w ((b + k) % 2 ^ w) b = true := by
  have hd := two_pow_eq_double hw
  rw [later_iff (Nat.mod_lt _ (Nat.two_pow_pos w)) hb]
  rcases Nat.lt_or_ge (b + k) (2 ^ w) with hbk | hbk
  · rw [Nat.mod_eq_of_lt hbk]
    omega
  · rw [Nat.mod_eq_sub_mod hbk, Nat.mod_eq_of_lt (by omega : b + k - 2 ^ w < 2 ^ w)]
    omega

/-- Settles O13: the order is the distance of R11, which is antisymmetric and grows with the counter. -/
theorem laterFollowsTheWrap : Obligations.LaterFollowsTheWrap := by
  unfold Obligations.LaterFollowsTheWrap
  exact ⟨fun _ _ _ _ ha hb => later_iff_distance ha hb, fun _ _ _ hw ha hb h => later_asymm hw ha hb h,
    fun _ _ _ hw hb hk hk' => later_advance hw hb hk hk'⟩

end Sys2Proof.Machine
end

section
/-! PROOFS. Accesses of the register space and the ends that they can come to (R5, R9, R41, R497, R535). -/

namespace Sys2Proof.Machine

/-! ### Registers without an effect of their own -/

/-- The block registers of the CLK, PWR, CODEC and CUE pages whose write does no more than store. -/
def PlainRegister (p o : Nat) : Prop :=
  p ∈ [0x11, 0x12] ∨ p = 0x40 ∧ o ∉ [0x54, 0x70] ∨ p = 0x60 ∧ o < 0x300 ∧ o ∉ [0x40, 0x50]

theorem PlainRegister.page_lt {p o : Nat} (h : PlainRegister p o) : p < 256 := by
  rcases h with h | h | h
  · simp only [List.mem_cons, List.not_mem_nil, or_false] at h
    omega
  all_goals omega

theorem blockWrite_clk {w : RegWrite} (h : Layout.pageKind w.p = some (.clkP, 0)) (s : State) :
    blockWrite w s = w.store s := by
  unfold blockWrite; rw [h]

theorem blockWrite_pwr {w : RegWrite} (h : Layout.pageKind w.p = some (.pwrP, 0)) (s : State) :
    blockWrite w s = w.store s := by
  unfold blockWrite; rw [h]

theorem codecWrite_plain {w : RegWrite} (h : w.o ∉ [0x54, 0x70]) (s : State) : codecWrite w s = w.store s := by
  simp only [List.mem_cons, List.not_mem_nil, or_false, not_or] at h
  unfold codecWrite
  rw [if_neg h.1, if_neg h.2]

theorem cueWrite_plain {w : RegWrite} (hlt : w.o < 0x300) (h : w.o ∉ [0x40, 0x50]) (s : State) :
    cueWrite w s = w.store s := by
  simp only [List.mem_cons, List.not_mem_nil, or_false, not_or] at h
  unfold cueWrite
  rw [if_neg h.1, if_neg h.2, if_neg (by omega), if_neg (by omega)]

theorem blockWrite_plain {w : RegWrite} (h : PlainRegister w.p w.o) (s : State) : blockWrite w s = w.store s := by
  rcases h with hp | ⟨hp, ho⟩ | ⟨hp, hlt, ho⟩
  · simp only [List.mem_cons, List.not_mem_nil, or_false] at hp
    rcases hp with hp | hp
    · exact blockWrite_clk (by rw [hp]; rfl) s
    · exact blockWrite_pwr (by rw [hp]; rfl) s
  · rw [blockWrite_codec (by rw [hp]; rfl), codecWrite_plain ho]
  · rw [blockWrite_cue (by rw [hp]; rfl), cueWrite_plain hlt ho]

/-- REGISTER_WRITE of a plain register stores the word and counts the write. -/
theorem exec_registerWrite_plain {a : Access} {d p o : Nat} {v : Word} {s : State} (h : Reaches a d p o s)
    (hk : PlainRegister p o) (hlo : 0x40 ≤ o) (ho : o < 0x1000) (h4 : o % 4 = 0)
    (hr : (regAt d (p * 0x1000 + o)).isSome = true) :
    exec (.registerWrite a (Layout.addr d p o) v 15) s = .next ((RegWrite.of a d p o v).store (landWrite a.rq d s)) := by
  rw [exec_registerWrite h hk.page_lt hlo ho h4 hr, blockWrite_plain hk]

theorem RegWrite.of_r {a : Access} {d p o : Nat} {v : Word} {r : RegD} (hr : regAt d (p * 0x1000 + o) = some r) :
    (RegWrite.of a d p o v).r = r := by
  unfold RegWrite.of; rw [hr]; rfl

/-- A field of the register that a whole-word write stores. -/
theorem rd_store_of {a : Access} {d p o : Nat} {v : Word} {r : RegD} (hr : regAt d (p * 0x1000 + o) = some r)
    {f : FieldD} (hf : f ∈ r.fields) (s : State) :
    rd ⟨Layout.addr d p o, f.lsb, f.width⟩ ((RegWrite.of a d p o v).store s) =
      fieldAfter a.bar2 f (rd ⟨Layout.addr d p o, f.lsb, f.width⟩ s) (bitsOf v.toNat f.lsb f.width) := by
  have e := RegWrite.of_r (a := a) (v := v) hr
  exact rd_store (w := RegWrite.of a d p o v) (by rw [e]; exact regAt_apart hr) (by rw [e]; exact hf)

/-! ### FENCE_READ -/

theorem exec_fenceRead {a : Access} {d : Nat} {s : State} (h : Answers a d 1 s) :
    exec (.fenceRead a d) s = .next { s with resp := { value := BitVec.ofNat 32 (landedOn a.rq d s) } } := by
  refine Eq.trans (b := commandRead true a (Layout.addr d 1 0x40) s) rfl ?_
  unfold commandRead readBack
  rw [if_pos rfl, readReg_fence h]

/-! ### ACCESS_TIMEOUT -/

/-- What the requester sees of an access that does not complete: a write counts as landed, a read ends in an error completion. -/
def timeoutAnswered (a : Access) (off : Nat) (write : Bool) (s : State) : State :=
  if write then landWrite a.rq (off / 0x1000000) s else { s with resp := { error := true } }

@[simp] theorem rd_timeoutAnswered (l : Loc) (a : Access) (off : Nat) (write : Bool) (s : State) :
    rd l (timeoutAnswered a off write s) = rd l s := by
  unfold timeoutAnswered; split <;> rfl

@[simp] theorem timeoutAnswered_resp (a : Access) (off : Nat) (s : State) :
    (timeoutAnswered a off false s).resp = { error := true } := rfl

/-- The state once the timeout is latched in ACC_ERR and in LOCKUP of its die, and recorded as RST source 3. -/
def timeoutRecorded (a : Access) (off : Nat) (write : Bool) (s : State) : State :=
  recordFault (off / 0x1000000) 0x10 3 false
    (wr (R.RST.LOCKUP_VALID (off / 0x1000000)) 1 (wr (R.RST.LOCKUP_ADDR (off / 0x1000000)) (off / 4 * 4)
      (accErr 5 write (off / 4 * 4) (timeoutAnswered a off write s))))

theorem lockup_blockWord (d : Nat) : BlockWord (R.RST.LOCKUP_VALID d).addr :=
  blockWord_addr (p := 0x10) (o := 0xA4) (by decide) (by decide) (by decide)

/-- The first timeout of a die (R535); one of the JTAG requester also ends its access. -/
theorem exec_accessTimeout {a : Access} {off : Nat} {write : Bool} {s : State} (hdown : accessDown a s = false)
    (hoff : off < 0x8000000) (hans : dieAnswers (off / 0x1000000) s = true)
    (hfirst : flag (R.RST.LOCKUP_VALID (off / 0x1000000)) s = false) :
    exec (.accessTimeout a off write) s =
      .next (if a.rq = .jtag then tapFail (timeoutRecorded a off write s) else timeoutRecorded a off write s) := by
  refine Eq.trans (b := execAccessTimeout a off write s) rfl ?_
  have hd : off / 4 * 4 / 0x1000000 = off / 0x1000000 := by omega
  have hfree : flag (R.RST.LOCKUP_VALID (off / 0x1000000))
      (accErr 5 write (off / 4 * 4) (timeoutAnswered a off write s)) = false := by
    unfold flag at hfirst ⊢
    rw [rd_accErr_block (lockup_blockWord _), rd_timeoutAnswered, hfirst]
  unfold execAccessTimeout
  simp only [hd]
  rw [if_neg (by simp [hdown, hans, hoff])]
  unfold timeoutAnswered at hfree
  rw [hfree]
  rfl

theorem timeoutRecorded_resp (a : Access) (off : Nat) (s : State) :
    (timeoutRecorded a off false s).resp = { error := true } := by
  simp [timeoutRecorded]

theorem timeoutRecorded_valid (a : Access) (off : Nat) (write : Bool) (s : State) :
    flag (R.RST.LOCKUP_VALID (off / 0x1000000)) (timeoutRecorded a off write s) = true := by
  unfold flag timeoutRecorded
  rw [rd_recordFault_block (lockup_blockWord _) (by decide), rd_wr_same _ _ (show 31 + 1 ≤ 32 by decide)]
  rfl

theorem timeoutRecorded_addr {off : Nat} (hoff : off < 0x8000000) (a : Access) (write : Bool) (s : State) :
    rd (R.RST.LOCKUP_ADDR (off / 0x1000000)) (timeoutRecorded a off write s) = off / 4 * 4 := by
  unfold timeoutRecorded
  rw [rd_recordFault_block (l := R.RST.LOCKUP_ADDR _) (lockup_blockWord _) (by decide),
    rd_wr_apart (l := R.RST.LOCKUP_ADDR _) (m := R.RST.LOCKUP_VALID _) 1 _ rfl (show 31 + 1 ≤ 32 by decide)
      (.inl (show 0 + 27 ≤ 31 by decide)),
    rd_wr_same _ _ (show 0 + 27 ≤ 32 by decide)]
  exact Nat.mod_eq_of_lt (lt_of_le_of_lt (Nat.div_mul_le_self off 4) hoff)

theorem tapFail_ite_resp (c : Prop) [Decidable c] (s : State) : (if c then tapFail s else s).resp = s.resp := by
  split <;> rfl

theorem rd_tapFail_ite (c : Prop) [Decidable c] (l : Loc) (s : State) : rd l (if c then tapFail s else s) = rd l s := by
  split <;> rfl

/-! ### LOCKUP -/

theorem exec_lockup {d : Nat} {s : State} (h : dieUp d s = true) :
    exec (.lockup d) s =
      .next (warmReset d 8 (flag (R.RST.RST_CFG_LOCK_PKG d) s) false (fatalFault d 0x10 2 false s)) := by
  refine Eq.trans (b := execLockup d s) rfl ?_
  unfold execLockup
  rw [h]
  rfl

/-- A warm reset of a die holds it for 10 µs, alone or with the package (R529, R532, R533). -/
theorem warmReset_holds {d cause : Nat} {pkg clock : Bool} {s : State} (hc : coldRunning s = false) (hd : d < s.dies) :
    (releaseOf d (warmReset d cause pkg clock s)).phase = 0 ∧
    (releaseOf d (warmReset d cause pkg clock s)).due = s.now + 10000 ∧
    (pkg = true ∨ d = 0 → ∀ e < s.dies, (releaseOf e (warmReset d cause pkg clock s)).phase = 0) := by
  by_cases hp : (pkg || d == 0 || packageRunning s) = true
  · obtain ⟨-, hall, -⟩ := warmReset_package (cause := cause) (clock := clock) hc hp
    refine ⟨?_, ?_, fun _ e he => ?_⟩
    · rw [hall d hd]; rfl
    · rw [hall d hd]; rfl
    · rw [hall e he]; rfl
  · simp only [Bool.or_eq_true, beq_iff_eq, not_or, Bool.not_eq_true] at hp
    obtain ⟨⟨rfl, h0⟩, hr⟩ := hp
    rw [warmReset_die hc h0 hr]
    exact ⟨rfl, rfl, fun h => absurd h (by simp [h0])⟩

/-- A fault of class F stands outside resets, time and the part. -/
theorem fatalFault_stands (d p src : Nat) (forced : Bool) (s : State) :
    (fatalFault d p src forced s).releases = s.releases ∧ (fatalFault d p src forced s).now = s.now ∧
    (fatalFault d p src forced s).part = s.part := by
  have h := fatalFault_touches (d := d) (p := p) (src := src) (forced := forced) (Nat.and_self _) (Touches.refl _ s)
  exact ⟨h.releases rfl, h.now rfl, h.part rfl⟩

theorem dieUp_lt {d : Nat} {s : State} (h : dieUp d s = true) : d < s.dies := by
  simp only [dieUp, Bool.and_eq_true, decide_eq_true_eq] at h
  exact h.1

/-- What LOCKUP leaves of the releases of the dies (R535). -/
theorem lockup_holds {d : Nat} {pkg : Bool} {s : State} (hup : dieUp d s = true) (hc : coldRunning s = false) :
    (releaseOf d (warmReset d 8 pkg false (fatalFault d 0x10 2 false s))).phase = 0 ∧
    (releaseOf d (warmReset d 8 pkg false (fatalFault d 0x10 2 false s))).due = s.now + 10000 ∧
    (pkg = true ∨ d = 0 →
      ∀ e < s.dies, (releaseOf e (warmReset d 8 pkg false (fatalFault d 0x10 2 false s))).phase = 0) := by
  obtain ⟨hrel, hnow, hpart⟩ := fatalFault_stands d 0x10 2 false s
  have hdies : (fatalFault d 0x10 2 false s).dies = s.dies := congrArg Part.dies hpart
  have h := warmReset_holds (cause := 8) (pkg := pkg) (clock := false) ((scope_congr hrel hpart).1.trans hc)
    (hdies.symm ▸ dieUp_lt hup)
  rwa [hnow, hdies] at h

/-! ### ERR_PULSE_END -/

theorem exec_errPulseEnd {e : Nat} {s : State} (he : s.errPulseEnd = some e) (hle : e ≤ s.now) :
    exec .errPulseEnd s = .next (wr (R.CTRL.ERR_STAT_PULSE 0) 0 { s with errPulseEnd := none }) := by
  refine Eq.trans (b := execErrPulseEnd s) rfl ?_
  unfold execErrPulseEnd
  rw [he]
  exact if_pos hle

theorem flag_wr_zero {l : Loc} (s : State) (h : l.lsb + l.width ≤ 32) : flag l (wr l 0 s) = false := by
  unfold flag
  rw [rd_wr_same _ _ h, Nat.zero_mod]
  rfl

/-- Settles O15: each command's next state, and then the reads of it that the statement names. -/
theorem registerAccessCommandsAct : Obligations.RegisterAccessCommandsAct := by
  unfold Obligations.RegisterAccessCommandsAct
  refine ⟨?registerWrite, ?fenceRead, ?accessTimeout, ?lockup, ?errPulseEnd⟩
  case registerWrite =>
    intro a d p o v s r hk hlo ho h4 hr h
    exact ⟨_, exec_registerWrite_plain h hk hlo ho h4 (by rw [hr]; rfl), fun f hf => rd_store_of hr hf _,
      fun x hx => word_store_ne hx, rfl⟩
  case fenceRead => exact fun a d s h => ⟨_, exec_fenceRead h, rfl⟩
  case accessTimeout =>
    intro a off write s hdown hoff hans hfirst
    refine ⟨_, exec_accessTimeout hdown hoff hans hfirst, fun hw => ?_, ?_, ?_⟩
    · rw [tapFail_ite_resp, hw, timeoutRecorded_resp]
    · unfold flag
      rw [rd_tapFail_ite]
      exact timeoutRecorded_valid a off write s
    · rw [rd_tapFail_ite, timeoutRecorded_addr hoff]
  case lockup => exact fun d s hup hc => ⟨_, exec_lockup hup, lockup_holds hup hc⟩
  case errPulseEnd => exact fun e s he hle => ⟨_, exec_errPulseEnd he hle, rfl, flag_wr_zero _ (by decide)⟩

end Sys2Proof.Machine
end

section
/-! PROOFS. The queue, the part, the boot flash and the time are not for a command to change (R12, R27, log 4). -/

namespace Sys2Proof.Machine

theorem step_of_pending {s : State} {c : Instr} {rest : List Instr} (h : s.pending = c :: rest) :
    step s = exec c { s with pending := rest } := by
  unfold step; rw [h]

/-- Settles O2: what each command keeps, and that a step hands its command the rest of the queue. -/
theorem commandsLeaveQueueAndTime : Obligations.CommandsLeaveQueueAndTime := by
  unfold Obligations.CommandsLeaveQueueAndTime
  refine ⟨fun c s t h => ?command, fun c rest s t hq h => ?step⟩
  case command =>
    have k := exec_keeps c s t h
    exact ⟨k.pending, k.part, k.flash, k.now, k.free⟩
  case step =>
    have k := exec_keeps c { s with pending := rest } t (step_of_pending hq ▸ h)
    exact ⟨k.pending, k.now⟩

end Sys2Proof.Machine
end

section
/-! PROOFS. Faults from inside a die, and the dies that a fenced mortar link cuts off (R16, R481, R484, R495, R517). -/

namespace Sys2Proof.Machine

/-! ### What is fenced after a fence -/

theorem dieFenced_iff {d : Nat} {s : State} : dieFenced d s = true ↔ UnitId.die d ∈ s.fenced :=
  List.contains_iff_mem

theorem mem_fenced_addFence {u v : UnitId} {s : State} : v ∈ (addFence u s).fenced ↔ v = u ∨ v ∈ s.fenced := by
  unfold addFence
  split
  next h => exact (or_iff_right_of_imp fun e => e ▸ List.contains_iff_mem.mp h).symm
  next h =>
    rw [(rejectTargets_touches (Nat.and_self _) (Touches.refl _ _)).fenced rfl]
    exact List.mem_cons

/-- What follows a fence without changing the list of fenced units leaves the unit fenced. -/
theorem Touches.mem_fenced_of_addFence {m : Nat} {u : UnitId} {s t : State} (h : Touches m (addFence u s) t)
    (hm : m.testBit 15 = false) : u ∈ t.fenced := by
  rw [h.fenced hm]
  exact mem_fenced_addFence.mpr (.inl rfl)

theorem mem_fenced_fenceUnit_dma (d n : Nat) (s : State) : UnitId.dma d n ∈ (fenceUnit (.dma d n) s).fenced := by
  unfold fenceUnit
  split
  next h => exact List.contains_iff_mem.mp h
  next => exact (dmaFenced_touches (Nat.and_self _) (Touches.refl _ _)).mem_fenced_of_addFence rfl

theorem mem_fenced_fenceUnit_step (d n : Nat) (s : State) : UnitId.step d n ∈ (fenceUnit (.step d n) s).fenced := by
  unfold fenceUnit
  split
  next h => exact List.contains_iff_mem.mp h
  next => exact (stepFence_touches (Nat.and_self _) (Touches.refl _ _)).mem_fenced_of_addFence rfl

/-! ### INTERNAL_ERROR (R484) -/

theorem exec_internalError {d p src unit : Nat} {s : State} (hp : pagePresent d p s = true)
    (hr : domainReady d (pageDomain p) s = true) :
    exec (.internalError d p src unit) s = .next (selfError d p src unit s) := by
  refine Eq.trans (b := execInternalError d p src unit s) rfl ?_
  unfold execInternalError
  rw [hp, hr]
  rfl

theorem selfError_dma {d n unit : Nat} {s : State} (hn : n < 8) :
    selfError d 0x39 n unit s = faultUnit d 0x39 n (.dma d n) false s :=
  if_pos (Nat.le_of_lt_succ hn)

theorem selfError_step {d n unit : Nat} {s : State} (hn : n < 8) :
    selfError d 0x68 n unit s = faultUnit d 0x68 n (.step d n) false s :=
  if_pos (Nat.le_of_lt_succ hn)

/-- An uncorrectable word of the NV store is remembered once (R517). -/
theorem selfError_nvs {d unit : Nat} {s : State} (hu : unit < 32768) :
    selfError d 0x15 1 unit s =
      { s with nvBad := if s.nvBad.contains (32768 * d + unit) then s.nvBad else (32768 * d + unit) :: s.nvBad } :=
  if_pos ⟨rfl, hu⟩

theorem mem_nvBad_selfError_nvs {d unit : Nat} {s : State} (hu : unit < 32768) :
    32768 * d + unit ∈ (selfError d 0x15 1 unit s).nvBad := by
  rw [selfError_nvs hu]
  dsimp only
  split
  next h => exact List.contains_iff_mem.mp h
  next => exact List.mem_cons_self

/-! ### A die that is taken down (R16, R495) -/

theorem mem_fenced_dieIsolate {d : Nat} {u : UnitId} {s : State} :
    u ∈ (dieIsolate d s).fenced ↔ u = .die d ∨ u ∈ s.fenced := by
  have h : Touches 0x1a0195cbf90182053004 (addFence (.die d) (spoilDie d 10 s)) (dieIsolate d s) :=
    xtxnDone_touches rfl (evt_touches rfl (foldl_touches
      (fun _ _ ht => touches_ite (pathJam_touches rfl ht) ht) (dieSafe_touches rfl (.upD_msgs rfl (.refl _ _)))))
  have hs : (spoilDie d 10 s).fenced = s.fenced := (spoilDie_touches (Nat.and_self _) (Touches.refl _ s)).fenced rfl
  rw [h.fenced rfl, mem_fenced_addFence, hs]

theorem mem_fenced_dieFatal {d : Nat} {u : UnitId} {s : State} :
    u ∈ (dieFatal d s).fenced ↔ u = .die d ∨ u ∈ s.fenced := by
  unfold dieFatal
  split
  next h => exact (or_iff_right_of_imp fun e => e ▸ dieFenced_iff.mp h).symm
  next h =>
    rw [(degrade_touches (Nat.and_self _) (Touches.refl _ _)).fenced rfl,
      (recordFault_touches (Nat.and_self _) (Touches.refl _ _)).fenced rfl]
    exact mem_fenced_dieIsolate

theorem mem_fenced_dieLost {d : Nat} {u : UnitId} {s : State} :
    u ∈ (dieLost d s).fenced ↔ u = .die d ∨ u ∈ s.fenced := by
  unfold dieLost
  split
  next h => exact (or_iff_right_of_imp fun e => e ▸ dieFenced_iff.mp h).symm
  next h =>
    dsimp only
    rw [mem_fenced_dieFatal, (errPulse_touches (Nat.and_self _) (Touches.refl _ _)).fenced rfl]
    rfl

/-! ### MORTAR_LINK_FENCED (R16) -/

theorem reachable_congr {s t : State} (hp : t.part = s.part) (hl : t.linksFenced = s.linksFenced) (m : Nat) :
    reachable m t = reachable m s := by
  unfold reachable State.dies
  rw [hp, hl]

/-- Die `m` is fenced from the package if no way to it is left. -/
def cutOff (m : Nat) (s : State) : State := if reachable m s then s else dieLost m s

theorem exec_mortarLinkFenced {d : Nat} {s : State} (hd : d < s.dies) (hl : d ∉ s.linksFenced) :
    exec (.mortarLinkFenced d) s =
      .next ((List.range s.dies).foldl (fun s m => cutOff m s) { s with linksFenced := d :: s.linksFenced }) := by
  refine Eq.trans (b := execMortarLinkFenced d s) rfl ?_
  unfold execMortarLinkFenced
  rw [if_neg]
  · rfl
  · rw [List.contains_iff_mem]
    exact not_or.mpr ⟨Nat.not_le.mpr hd, hl⟩

/-- Cutting off a die changes neither the ring nor the size of the package. -/
theorem cutOff_ring (m : Nat) (s : State) : (cutOff m s).part = s.part ∧ (cutOff m s).linksFenced = s.linksFenced := by
  unfold cutOff
  split
  · exact ⟨rfl, rfl⟩
  · have h := dieLost_touches (d := m) (Nat.and_self _) (Touches.refl _ s)
    exact ⟨h.part rfl, h.linksFenced rfl⟩

theorem mem_fenced_cutOff {m : Nat} {u : UnitId} {s : State} :
    u ∈ (cutOff m s).fenced ↔ u = .die m ∧ reachable m s = false ∨ u ∈ s.fenced := by
  unfold cutOff
  split
  next h => simp [h]
  next h => simp [h, mem_fenced_dieLost]

theorem foldl_cutOff_ring (l : List Nat) (s : State) :
    (l.foldl (fun s m => cutOff m s) s).part = s.part ∧
    (l.foldl (fun s m => cutOff m s) s).linksFenced = s.linksFenced := by
  induction l generalizing s with
  | nil => exact ⟨rfl, rfl⟩
  | cons x xs ih =>
    obtain ⟨hp, hl⟩ := cutOff_ring x s
    exact ⟨(ih _).1.trans hp, (ih _).2.trans hl⟩

/-- Exactly the dies that cannot be reached are added to the fenced units. -/
theorem mem_fenced_foldl_cutOff {l : List Nat} {u : UnitId} {s : State} :
    u ∈ (l.foldl (fun s m => cutOff m s) s).fenced ↔
      (∃ m ∈ l, u = .die m ∧ reachable m s = false) ∨ u ∈ s.fenced := by
  induction l generalizing s with
  | nil => simp
  | cons x xs ih =>
    obtain ⟨hp, hl⟩ := cutOff_ring x s
    rw [List.foldl_cons, ih, mem_fenced_cutOff]
    simp only [reachable_congr hp hl, List.exists_mem_cons_iff, or_assoc, or_left_comm]

/-- Settles O50: the channel's own fence, the list of bad words, and the walk over the dies that cuts off those out of reach. -/
theorem internalFaultCommandsAct : Obligations.InternalFaultCommandsAct := by
  unfold Obligations.InternalFaultCommandsAct
  refine ⟨fun d n unit s hn hp hr => ?dma, fun d n unit s hn hp hr => ?step, fun d unit s hu hp hr => ?nvs,
    fun d s hd hl => ?mortar⟩
  case dma =>
    refine ⟨_, exec_internalError hp hr, ?_⟩
    rw [selfError_dma hn]
    exact mem_fenced_fenceUnit_dma d n _
  case step =>
    refine ⟨_, exec_internalError hp hr, ?_⟩
    rw [selfError_step hn]
    exact mem_fenced_fenceUnit_step d n _
  case nvs => exact ⟨_, exec_internalError hp hr, mem_nvBad_selfError_nvs hu⟩
  case mortar =>
    obtain ⟨hpart, hlinks⟩ := foldl_cutOff_ring (List.range s.dies) { s with linksFenced := d :: s.linksFenced }
    refine ⟨_, exec_mortarLinkFenced hd hl, hlinks, fun m hm hr => ?_⟩
    rw [reachable_congr hpart hlinks] at hr
    exact mem_fenced_foldl_cutOff.mpr (.inl ⟨m, List.mem_range.mpr hm, rfl, hr⟩)

end Sys2Proof.Machine
end

section
/-! PROOFS. The fields of the state that each command may change, and the commands that each part of the machine answers to
(R27, R39, R41, R48, R66, R137, R301, R330, R391, R392, R454, R475, R499, R508, R536, R541, R554). -/

namespace Sys2Proof.Machine

/-! ### The fields that a command may change -/

/-- The fields that commands of many families change: the registers, what has been sent, the messages, the fences, and the
blocks' work on frames, lanes and axes. -/
def ordinaryFields : Nat := 0x43e4195cbf9c5f607f004

/-- The fields that a register write may change. -/
def registerWriteFields : Nat := 0xa6ffefffcbfbfffff7f73c

/-- The fields that a warm reset may change. -/
def warmResetFields : Nat := 0xa2fe6fffcbfbf9fef7f704

/-- The mask of the fields that a command may change. -/
def reach : Instr → Nat
  -- straps, errAonHold, buses, rmon, linksFenced, boot, taps, pcieUp, encEdges
  | .powerOn .. | .brownOut .. | .resetPin .. =>
    registerWriteFields ||| 1 <<< 1 ||| 1 <<< 19 ||| 1 <<< 50 ||| 1 <<< 68 ||| 1 <<< 80 ||| 1 <<< 83 ||| 1 <<< 84 ||| 1 <<< 86
      ||| 1 <<< 88
  -- boot
  | .bootWrite .. | .bootMasked .. | .bootTable .. => registerWriteFields ||| 1 <<< 83
  -- resp, taps
  | .jtagDbgAccess .. => registerWriteFields ||| 1 <<< 11 ||| 1 <<< 84
  | .registerWrite .. | .pageSrst .. | .pageEnable .. | .fenceReq .. | .unfence .. | .pwrReq .. | .evtForce ..
  | .fltForce .. | .txnArm .. | .txnAbort .. | .txnClear .. | .xtxnGo .. | .xtxnAbort .. | .frameSubmit ..
  | .resDeclare .. | .resurvey .. | .reprint .. | .frameRelease .. | .frameAbort .. | .codecLaneUnfence ..
  | .jobSubmit .. | .jobAbort .. | .laneRetrain .. | .eyeScanGo .. | .eyeScanStop .. | .rlRouteChange ..
  | .headcfgSend .. | .trimSetSend .. | .rearm .. | .calLoad .. | .ageRestore .. | .ageSave .. | .ckptNow ..
  | .posAdj .. | .cueArm .. | .cueDisarm .. | .cueUnfence .. | .pathEnable .. | .pathStop .. | .pathResume ..
  | .pathClear .. | .stepGo .. | .stepStop .. | .stepQstop .. | .stepUnfence .. | .focUnfence .. | .busUnfence ..
  | .chopBadClear .. | .loopEnable .. | .loopDisable .. | .loopAuto .. | .loopManual .. | .loopUnfence ..
  | .gpioSet .. | .gpioClr .. | .txKick .. | .rxKick .. | .timeIncr .. | .timeAdj .. | .timeSet .. | .memInit ..
  | .dmaEnable .. | .dmaKick .. | .dmaAbort .. | .dmaUnfence .. | .railRequest .. | .railClear .. | .logSnap ..
  | .nvWrite .. | .softwareReset .. | .watchdogKick .. | .pkgWatchdogKick .. | .fuseBurn .. | .fuseLock .. =>
    registerWriteFields
  -- mem, badBlocks
  | .domainPowerDown .. => warmResetFields ||| 1 <<< 3 ||| 1 <<< 33
  -- taps
  | .tapReset .. | .jtagExtest .. | .jtagSamplePreload .. | .jtagHighz .. | .jtagClamp .. | .jtagBypass ..
  | .jtagDbgReset .. =>
    warmResetFields ||| 1 <<< 84
  -- resp, taps
  | .jtagIdcode .. => warmResetFields ||| 1 <<< 11 ||| 1 <<< 84
  | .lockup .. | .dieWatchdogExpire .. | .pkgWatchdogExpire .. | .clockFailureWarmReset .. => warmResetFields
  -- straps, releases
  | .strapSample .. => ordinaryFields ||| 1 <<< 1 ||| 1 <<< 20
  -- mem, badBlocks
  | .surveyAshlarDone .. | .frameRetire .. | .spoiledExit .. | .laneRoleChange .. | .carrySurveyStart ..
  | .carryRecordDone .. | .eyePointDone .. | .stationLine .. | .bar4Write .. =>
    ordinaryFields ||| 1 <<< 3 ||| 1 <<< 33
  -- mem, nv, badBlocks, nvBad, ages
  | .ageActionEnd .. => ordinaryFields ||| 1 <<< 3 ||| 1 <<< 4 ||| 1 <<< 33 ||| 1 <<< 71 ||| 1 <<< 79
  -- mem, host, badBlocks, dmas
  | .dmaDescriptorFetch .. | .dmaDescriptorComplete .. => ordinaryFields ||| 1 <<< 3 ||| 1 <<< 5 ||| 1 <<< 33 ||| 1 <<< 35
  -- mem, domains, badBlocks, dmas, jobs
  | .domainPowerTimeout .. => ordinaryFields ||| 1 <<< 3 ||| 1 <<< 21 ||| 1 <<< 33 ||| 1 <<< 35 ||| 1 <<< 37
  -- mem, txns, badBlocks
  | .lgoEdge .. | .ledStrobe .. => ordinaryFields ||| 1 <<< 3 ||| 1 <<< 22 ||| 1 <<< 33
  -- mem, decls, badBlocks
  | .rlPacketLanded .. => ordinaryFields ||| 1 <<< 3 ||| 1 <<< 27 ||| 1 <<< 33
  -- mem, decls, badBlocks, jobs
  | .jobAshlarDone .. => ordinaryFields ||| 1 <<< 3 ||| 1 <<< 27 ||| 1 <<< 33 ||| 1 <<< 37
  -- mem, badBlocks, dmas, jobs, nvBad
  | .internalError .. => ordinaryFields ||| 1 <<< 3 ||| 1 <<< 33 ||| 1 <<< 35 ||| 1 <<< 37 ||| 1 <<< 71
  -- mem, badBlocks, calJobs
  | .calLoadEnd .. => ordinaryFields ||| 1 <<< 3 ||| 1 <<< 33 ||| 1 <<< 78
  -- mem, jobs
  | .jobStart .. => ordinaryFields ||| 1 <<< 3 ||| 1 <<< 37
  -- nv, nvBad, logSeq
  | .logRecordWrite .. => ordinaryFields ||| 1 <<< 4 ||| 1 <<< 71 ||| 1 <<< 72
  -- nv, nvBad, logSeq, ages
  | .vinTrip .. => ordinaryFields ||| 1 <<< 4 ||| 1 <<< 71 ||| 1 <<< 72 ||| 1 <<< 79
  -- host
  | .laneBlockLock .. | .ethLaunch .. | .ethFrameSent .. => ordinaryFields ||| 1 <<< 5
  -- host, syncAt
  | .ethFrameReceive .. => ordinaryFields ||| 1 <<< 5 ||| 1 <<< 65
  -- clocks
  | .timeRefresh .. => ordinaryFields ||| 1 <<< 8
  -- clocks, releases
  | .pllLock .. | .pllLockLoss .. => ordinaryFields ||| 1 <<< 8 ||| 1 <<< 20
  -- clocks, clkFails
  | .clockFailure .. => ordinaryFields ||| 1 <<< 8 ||| 1 <<< 81
  -- resp
  | .fenceRead .. | .freedFsnRead .. | .spoilLogRead .. | .markCaptureRead .. | .purgeFsnRead .. | .ltLoRead ..
  | .frcLoRead .. | .mtNsRead .. | .posLoRead .. =>
    ordinaryFields ||| 1 <<< 11
  -- resp, badBlocks
  | .bar4Read .. => ordinaryFields ||| 1 <<< 11 ||| 1 <<< 33
  -- mem, errAonHold, domains, badBlocks, dmas, jobs
  | .clockGoodTimeout .. => ordinaryFields ||| 1 <<< 3 ||| 1 <<< 19 ||| 1 <<< 21 ||| 1 <<< 33 ||| 1 <<< 35 ||| 1 <<< 37
  -- errAonHold, releases
  | .referenceCheck .. => ordinaryFields ||| 1 <<< 19 ||| 1 <<< 20
  -- releases, thermals
  | .warmResetRelease .. => ordinaryFields ||| 1 <<< 20 ||| 1 <<< 69
  -- domains
  | .domainPowerUp .. => ordinaryFields ||| 1 <<< 21
  -- txns
  | .txnCommit .. | .xtxnPrepare .. | .xtxnCommitMsg .. | .aregHeldStage .. | .cueFire .. => ordinaryFields ||| 1 <<< 22
  -- txns, cffs, loopNext
  | .loopTick .. => ordinaryFields ||| 1 <<< 22 ||| 1 <<< 57 ||| 1 <<< 66
  -- xtxn
  | .xtxnAnswer .. | .xtxnCommitReport .. => ordinaryFields ||| 1 <<< 23
  -- lastFsnValid
  | .rlAshlar .. | .rlIndex .. | .rlDescriptor .. | .rlBadPacket .. => ordinaryFields ||| 1 <<< 24
  -- decls
  | .planeDescriptorMsg .. => ordinaryFields ||| 1 <<< 27
  -- badBlocks, scrubs
  | .scrubRead .. => ordinaryFields ||| 1 <<< 33 ||| 1 <<< 36
  -- counters
  | .encoderIndex .. => ordinaryFields ||| 1 <<< 41
  -- counters, encoders, encEdges
  | .encoderStep .. => ordinaryFields ||| 1 <<< 41 ||| 1 <<< 42 ||| 1 <<< 88
  -- buses
  | .chopperSwitch .. | .busClamp .. | .busClampEnd .. | .busTrip .. | .busUndervoltage .. => ordinaryFields ||| 1 <<< 50
  -- ilkIn
  | .ilkFall .. => ordinaryFields ||| 1 <<< 52
  -- ilkIn, hokIn
  | .inputDeasserted .. => ordinaryFields ||| 1 <<< 52 ||| 1 <<< 53
  -- hokIn
  | .hokFall .. => ordinaryFields ||| 1 <<< 53
  -- cffs
  | .cffMessage .. | .cffCancel .. => ordinaryFields ||| 1 <<< 57
  -- adcs, hvOver
  | .adcConversion .. => ordinaryFields ||| 1 <<< 59 ||| 1 <<< 62
  -- zeros
  | .zeroCross .. => ordinaryFields ||| 1 <<< 61
  -- rails
  | .railPgChange .. | .railQualifyDone .. | .railTimeout .. | .railDownTimeout .. | .railMinoffEnd .. =>
    ordinaryFields ||| 1 <<< 67
  -- rails, rmon
  | .railSeqStep .. => ordinaryFields ||| 1 <<< 67 ||| 1 <<< 68
  -- thermals
  | .tempSample .. => ordinaryFields ||| 1 <<< 69
  -- ages
  | .wearCheckpoint .. | .ageRefresh .. => ordinaryFields ||| 1 <<< 79
  -- linksFenced
  | .mortarLinkFenced .. => ordinaryFields ||| 1 <<< 80
  -- releases, domains, linksFenced
  | .mortarTrained .. => ordinaryFields ||| 1 <<< 20 ||| 1 <<< 21 ||| 1 <<< 80
  -- boot
  | .bootCheckPass .. | .bootPoll .. | .bootDelay .. => ordinaryFields ||| 1 <<< 83
  -- host, clocks, master, releases, domains, loopNext, boot, dogs, bootWaits
  | .islandRelease .. =>
    ordinaryFields ||| 1 <<< 5 ||| 1 <<< 8 ||| 1 <<< 9 ||| 1 <<< 20 ||| 1 <<< 21 ||| 1 <<< 66 ||| 1 <<< 83 ||| 1 <<< 85
      ||| 1 <<< 87
  -- landed, resp, taps
  | .accessTimeout .. => ordinaryFields ||| 1 <<< 10 ||| 1 <<< 11 ||| 1 <<< 84
  -- boot, pcieUp, bootWaits
  | .pcieReady .. => ordinaryFields ||| 1 <<< 83 ||| 1 <<< 86 ||| 1 <<< 87
  | _ => ordinaryFields

theorem exec_touches (c : Instr) (s : State) : TouchesO (reach c) s (exec c s) := by
  cases c with dsimp only [reach]
  | registerWrite => exact execRegisterWrite_touches rfl (.refl _ s)
  | fenceRead => exact execFenceRead_touches rfl (.refl _ s)
  | accessTimeout => exact execAccessTimeout_touches rfl (.refl _ s)
  | lockup => exact execLockup_touches rfl (.refl _ s)
  | pageSrst => exact execPageSrst_touches rfl (.refl _ s)
  | pageEnable => exact execPageEnable_touches rfl (.refl _ s)
  | fenceReq => exact execFenceReq_touches rfl (.refl _ s)
  | unfence => exact execUnfence_touches rfl (.refl _ s)
  | stationUnfenceApply => exact execStationUnfenceApply_touches rfl (.refl _ s)
  | pwrReq => exact execPwrReq_touches rfl (.refl _ s)
  | evtForce => exact execEvtForce_touches rfl (.refl _ s)
  | fltForce => exact execFltForce_touches rfl (.refl _ s)
  | errPulseEnd => exact execErrPulseEnd_touches rfl (.refl _ s)
  | txnArm => exact execTxnArm_touches rfl (.refl _ s)
  | txnChecksDone => exact execTxnChecksDone_touches rfl (.refl _ s)
  | txnAbort => exact execTxnAbort_touches rfl (.refl _ s)
  | txnClear => exact execTxnClear_touches rfl (.refl _ s)
  | txnCommit => exact execTxnCommit_touches rfl (.refl _ s)
  | xtxnGo => exact execXtxnGo_touches rfl (.refl _ s)
  | xtxnAbort => exact execXtxnAbort_touches rfl (.refl _ s)
  | xtxnPrepare => exact execXtxnPrepare_touches rfl (.refl _ s)
  | xtxnAnswer => exact execXtxnAnswer_touches rfl (.refl _ s)
  | xtxnCommitMsg => exact execXtxnCommitMsg_touches rfl (.refl _ s)
  | xtxnAbortMsg => exact execXtxnAbortMsg_touches rfl (.refl _ s)
  | xtxnCommitReport => exact execXtxnCommitReport_touches rfl (.refl _ s)
  | xtxnTimeout => exact execXtxnTimeout_touches rfl (.refl _ s)
  | frameSubmit => exact execFrameSubmit_touches rfl (.refl _ s)
  | planeDescriptorMsg => exact execPlaneDescriptorMsg_touches rfl (.refl _ s)
  | resDeclare => exact execResDeclare_touches rfl (.refl _ s)
  | resurvey => exact execResurvey_touches rfl (.refl _ s)
  | surveyAshlarStart => exact execSurveyAshlarStart_touches rfl (.refl _ s)
  | surveyAshlarDone => exact execSurveyAshlarDone_touches rfl (.refl _ s)
  | frameAdmitted => exact execFrameAdmitted_touches rfl (.refl _ s)
  | frameArmed => exact execFrameArmed_touches rfl (.refl _ s)
  | frameRetire => exact execFrameRetire_touches rfl (.refl _ s)
  | spoiledExit => exact execSpoiledExit_touches rfl (.refl _ s)
  | reprint => exact execReprint_touches rfl (.refl _ s)
  | frameRelease => exact execFrameRelease_touches rfl (.refl _ s)
  | frameAbort => exact execFrameAbort_touches rfl (.refl _ s)
  | freedFsnRead => exact execFreedFsnRead_touches rfl (.refl _ s)
  | spoilLogRead => exact execSpoilLogRead_touches rfl (.refl _ s)
  | imgAshlarStart => exact execImgAshlarStart_touches rfl (.refl _ s)
  | imgAshlarDone => exact execImgAshlarDone_touches rfl (.refl _ s)
  | laneRoleChange => exact execLaneRoleChange_touches rfl (.refl _ s)
  | codecLaneUnfence => exact execCodecLaneUnfence_touches rfl (.refl _ s)
  | carrySurveyStart => exact execCarrySurveyStart_touches rfl (.refl _ s)
  | carryRecordDone => exact execCarryRecordDone_touches rfl (.refl _ s)
  | jobSubmit => exact execJobSubmit_touches rfl (.refl _ s)
  | jobStart => exact execJobStart_touches rfl (.refl _ s)
  | jobAshlarDone => exact execJobAshlarDone_touches rfl (.refl _ s)
  | jobAbort => exact execJobAbort_touches rfl (.refl _ s)
  | laneSynthLock => exact execLaneSynthLock_touches rfl (.refl _ s)
  | laneSignalDetect => exact execLaneSignalDetect_touches rfl (.refl _ s)
  | laneAdaptDone => exact execLaneAdaptDone_touches rfl (.refl _ s)
  | laneBlockLock => exact execLaneBlockLock_touches rfl (.refl _ s)
  | laneLoss => exact execLaneLoss_touches rfl (.refl _ s)
  | syncHeaderError => exact execSyncHeaderError_touches rfl (.refl _ s)
  | elasticOverflow => exact execElasticOverflow_touches rfl (.refl _ s)
  | laneLockHoldTimeout => exact execLaneLockHoldTimeout_touches rfl (.refl _ s)
  | laneSynthLoss => exact execLaneSynthLoss_touches rfl (.refl _ s)
  | laneRetrain => exact execLaneRetrain_touches rfl (.refl _ s)
  | eyeScanGo => exact execEyeScanGo_touches rfl (.refl _ s)
  | eyeScanStop => exact execEyeScanStop_touches rfl (.refl _ s)
  | eyePointDone => exact execEyePointDone_touches rfl (.refl _ s)
  | eyeScanResume => exact execEyeScanResume_touches rfl (.refl _ s)
  | alignmentMarker => exact execAlignmentMarker_touches rfl (.refl _ s)
  | bondAlignTimeout => exact execBondAlignTimeout_touches rfl (.refl _ s)
  | rlAshlar => exact execRlAshlar_touches rfl (.refl _ s)
  | rlIndex => exact execRlIndex_touches rfl (.refl _ s)
  | rlDescriptor => exact execRlDescriptor_touches rfl (.refl _ s)
  | rlResync => exact execRlResync_touches rfl (.refl _ s)
  | rlBadPacket => exact execRlBadPacket_touches rfl (.refl _ s)
  | rlPacketLanded => exact execRlPacketLanded_touches rfl (.refl _ s)
  | rlNakTimer => exact execRlNakTimer_touches rfl (.refl _ s)
  | rlInitAckTimer => exact execRlInitAckTimer_touches rfl (.refl _ s)
  | rlCreditTimer => exact execRlCreditTimer_touches rfl (.refl _ s)
  | rlRouteChange => exact execRlRouteChange_touches rfl (.refl _ s)
  | stationLine => exact execStationLine_touches rfl (.refl _ s)
  | bdEdge => exact execBdEdge_touches rfl (.refl _ s)
  | bdMissed => exact execBdMissed_touches rfl (.refl _ s)
  | fidIndexEdge => exact execFidIndexEdge_touches rfl (.refl _ s)
  | lgoEdge => exact execLgoEdge_touches rfl (.refl _ s)
  | ledStrobe => exact execLedStrobe_touches rfl (.refl _ s)
  | startEvent => exact execStartEvent_touches rfl (.refl _ s)
  | resumeEvent => exact execResumeEvent_touches rfl (.refl _ s)
  | hlStatus => exact execHlStatus_touches rfl (.refl _ s)
  | hlAck => exact execHlAck_touches rfl (.refl _ s)
  | hlNak => exact execHlNak_touches rfl (.refl _ s)
  | hlCredit => exact execHlCredit_touches rfl (.refl _ s)
  | hlBadPacket => exact execHlBadPacket_touches rfl (.refl _ s)
  | hlReplayTimer => exact execHlReplayTimer_touches rfl (.refl _ s)
  | hlResyncTimer => exact execHlResyncTimer_touches rfl (.refl _ s)
  | hlStatusTimeout => exact execHlStatusTimeout_touches rfl (.refl _ s)
  | headcfgSend => exact execHeadcfgSend_touches rfl (.refl _ s)
  | trimSetSend => exact execTrimSetSend_touches rfl (.refl _ s)
  | ilkFall => exact execIlkFall_touches rfl (.refl _ s)
  | hokFall => exact execHokFall_touches rfl (.refl _ s)
  | paperOut => exact execPaperOut_touches rfl (.refl _ s)
  | jam => exact execJam_touches rfl (.refl _ s)
  | rearm => exact execRearm_touches rfl (.refl _ s)
  | softStateApply => exact execSoftStateApply_touches rfl (.refl _ s)
  | headBucketTick => exact execHeadBucketTick_touches rfl (.refl _ s)
  | calLoad => exact execCalLoad_touches rfl (.refl _ s)
  | calLoadEnd => exact execCalLoadEnd_touches rfl (.refl _ s)
  | ageRestore => exact execAgeRestore_touches rfl (.refl _ s)
  | ageSave => exact execAgeSave_touches rfl (.refl _ s)
  | ckptNow => exact execCkptNow_touches rfl (.refl _ s)
  | ageActionEnd => exact execAgeActionEnd_touches rfl (.refl _ s)
  | wearCheckpoint => exact execWearCheckpoint_touches rfl (.refl _ s)
  | ageRefresh => exact execAgeRefresh_touches rfl (.refl _ s)
  | markCapture => exact execMarkCapture_touches rfl (.refl _ s)
  | markCaptureRead => exact execMarkCaptureRead_touches rfl (.refl _ s)
  | aregHeldStage => exact execAregHeldStage_touches rfl (.refl _ s)
  | encoderStep => exact execEncoderStep_touches rfl (.refl _ s)
  | encoderIndex => exact execEncoderIndex_touches rfl (.refl _ s)
  | posAdj => exact execPosAdj_touches rfl (.refl _ s)
  | cueArm => exact execCueArm_touches rfl (.refl _ s)
  | cueDisarm => exact execCueDisarm_touches rfl (.refl _ s)
  | cueUnfence => exact execCueUnfence_touches rfl (.refl _ s)
  | cueFire => exact execCueFire_touches rfl (.refl _ s)
  | cueComplete => exact execCueComplete_touches rfl (.refl _ s)
  | pathEnable => exact execPathEnable_touches rfl (.refl _ s)
  | pathStop => exact execPathStop_touches rfl (.refl _ s)
  | pathStopCause => exact execPathStopCause_touches rfl (.refl _ s)
  | pathResume => exact execPathResume_touches rfl (.refl _ s)
  | pathClear => exact execPathClear_touches rfl (.refl _ s)
  | pathBackfeedAuto => exact execPathBackfeedAuto_touches rfl (.refl _ s)
  | pathStandstill => exact execPathStandstill_touches rfl (.refl _ s)
  | rhoBroadcast => exact execRhoBroadcast_touches rfl (.refl _ s)
  | purgeFsnRead => exact execPurgeFsnRead_touches rfl (.refl _ s)
  | stepGo => exact execStepGo_touches rfl (.refl _ s)
  | stepStop => exact execStepStop_touches rfl (.refl _ s)
  | stepQstop => exact execStepQstop_touches rfl (.refl _ s)
  | stepUnfence => exact execStepUnfence_touches rfl (.refl _ s)
  | stepProfileTick => exact execStepProfileTick_touches rfl (.refl _ s)
  | stepHoldDelay => exact execStepHoldDelay_touches rfl (.refl _ s)
  | stepHoldReached => exact execStepHoldReached_touches rfl (.refl _ s)
  | focPeriod => exact execFocPeriod_touches rfl (.refl _ s)
  | hallTransition => exact execHallTransition_touches rfl (.refl _ s)
  | catchEnd => exact execCatchEnd_touches rfl (.refl _ s)
  | alignEnd => exact execAlignEnd_touches rfl (.refl _ s)
  | brakeTimeout => exact execBrakeTimeout_touches rfl (.refl _ s)
  | focUnfence => exact execFocUnfence_touches rfl (.refl _ s)
  | chopperSwitch => exact execChopperSwitch_touches rfl (.refl _ s)
  | busClamp => exact execBusClamp_touches rfl (.refl _ s)
  | busClampEnd => exact execBusClampEnd_touches rfl (.refl _ s)
  | busTrip => exact execBusTrip_touches rfl (.refl _ s)
  | busUndervoltage => exact execBusUndervoltage_touches rfl (.refl _ s)
  | busUnfence => exact execBusUnfence_touches rfl (.refl _ s)
  | chopBadClear => exact execChopBadClear_touches rfl (.refl _ s)
  | loopEnable => exact execLoopEnable_touches rfl (.refl _ s)
  | loopDisable => exact execLoopDisable_touches rfl (.refl _ s)
  | loopAuto => exact execLoopAuto_touches rfl (.refl _ s)
  | loopManual => exact execLoopManual_touches rfl (.refl _ s)
  | loopUnfence => exact execLoopUnfence_touches rfl (.refl _ s)
  | loopTick => exact execLoopTick_touches rfl (.refl _ s)
  | cffMessage => exact execCffMessage_touches rfl (.refl _ s)
  | cffCancel => exact execCffCancel_touches rfl (.refl _ s)
  | adcConversion => exact execAdcConversion_touches rfl (.refl _ s)
  | zeroCross => exact execZeroCross_touches rfl (.refl _ s)
  | zeroCrossLost => exact execZeroCrossLost_touches rfl (.refl _ s)
  | gpioEdge => exact execGpioEdge_touches rfl (.refl _ s)
  | gpioSet => exact execGpioSet_touches rfl (.refl _ s)
  | gpioClr => exact execGpioClr_touches rfl (.refl _ s)
  | spliceDetect => exact execSpliceDetect_touches rfl (.refl _ s)
  | ethFrameReceive => exact execEthFrameReceive_touches rfl (.refl _ s)
  | txKick => exact execTxKick_touches rfl (.refl _ s)
  | rxKick => exact execRxKick_touches rfl (.refl _ s)
  | ethLaunch => exact execEthLaunch_touches rfl (.refl _ s)
  | ethFrameSent => exact execEthFrameSent_touches rfl (.refl _ s)
  | syncTimeout => exact execSyncTimeout_touches rfl (.refl _ s)
  | timeIncr => exact execTimeIncr_touches rfl (.refl _ s)
  | timeAdj => exact execTimeAdj_touches rfl (.refl _ s)
  | timeSet => exact execTimeSet_touches rfl (.refl _ s)
  | timeRefreshSend => exact execTimeRefreshSend_touches rfl (.refl _ s)
  | timeRefresh => exact execTimeRefresh_touches rfl (.refl _ s)
  | timeRefreshMiss => exact execTimeRefreshMiss_touches rfl (.refl _ s)
  | ltLoRead => exact execLtLoRead_touches rfl (.refl _ s)
  | frcLoRead => exact execFrcLoRead_touches rfl (.refl _ s)
  | mtNsRead => exact execMtNsRead_touches rfl (.refl _ s)
  | posLoRead => exact execPosLoRead_touches rfl (.refl _ s)
  | memInit => exact execMemInit_touches rfl (.refl _ s)
  | memTrainDone => exact execMemTrainDone_touches rfl (.refl _ s)
  | bar4Read => exact execBar4Read_touches rfl (.refl _ s)
  | bar4Write => exact execBar4Write_touches rfl (.refl _ s)
  | scrubRead => exact execScrubRead_touches rfl (.refl _ s)
  | dmaEnable => exact execDmaEnable_touches rfl (.refl _ s)
  | dmaKick => exact execDmaKick_touches rfl (.refl _ s)
  | dmaAbort => exact execDmaAbort_touches rfl (.refl _ s)
  | dmaUnfence => exact execDmaUnfence_touches rfl (.refl _ s)
  | dmaDescriptorFetch => exact execDmaDescriptorFetch_touches rfl (.refl _ s)
  | dmaDescriptorComplete => exact execDmaDescriptorComplete_touches rfl (.refl _ s)
  | domainPowerUp => exact execDomainPowerUp_touches rfl (.refl _ s)
  | domainPowerDown => exact execDomainPowerDown_touches rfl (.refl _ s)
  | domainPowerTimeout => exact execDomainPowerTimeout_touches rfl (.refl _ s)
  | railRequest => exact execRailRequest_touches rfl (.refl _ s)
  | railClear => exact execRailClear_touches rfl (.refl _ s)
  | railSeqStep => exact execRailSeqStep_touches rfl (.refl _ s)
  | railPgChange => exact execRailPgChange_touches rfl (.refl _ s)
  | railQualifyDone => exact execRailQualifyDone_touches rfl (.refl _ s)
  | railTimeout => exact execRailTimeout_touches rfl (.refl _ s)
  | railDownTimeout => exact execRailDownTimeout_touches rfl (.refl _ s)
  | railMinoffEnd => exact execRailMinoffEnd_touches rfl (.refl _ s)
  | vinTrip => exact execVinTrip_touches rfl (.refl _ s)
  | vinRecover => exact execVinRecover_touches rfl (.refl _ s)
  | logSnap => exact execLogSnap_touches rfl (.refl _ s)
  | logRecordWrite => exact execLogRecordWrite_touches rfl (.refl _ s)
  | nvWrite => exact execNvWrite_touches rfl (.refl _ s)
  | tempSample => exact execTempSample_touches rfl (.refl _ s)
  | powerOn => exact execPowerOn_touches rfl (.refl _ s)
  | brownOut => exact execBrownOut_touches rfl (.refl _ s)
  | resetPin => exact execResetPin_touches rfl (.refl _ s)
  | softwareReset => exact execSoftwareReset_touches rfl (.refl _ s)
  | dieWatchdogExpire => exact execDieWatchdogExpire_touches rfl (.refl _ s)
  | pkgWatchdogExpire => exact execPkgWatchdogExpire_touches rfl (.refl _ s)
  | watchdogKick => exact execWatchdogKick_touches rfl (.refl _ s)
  | pkgWatchdogKick => exact execPkgWatchdogKick_touches rfl (.refl _ s)
  | clockFailure => exact execClockFailure_touches rfl (.refl _ s)
  | warmResetRelease => exact execWarmResetRelease_touches rfl (.refl _ s)
  | strapSample => exact execStrapSample_touches rfl (.refl _ s)
  | referenceCheck => exact execReferenceCheck_touches rfl (.refl _ s)
  | pllLock => exact execPllLock_touches rfl (.refl _ s)
  | pllLockLoss => exact execPllLockLoss_touches rfl (.refl _ s)
  | mortarTrained => exact execMortarTrained_touches rfl (.refl _ s)
  | islandRelease => exact execIslandRelease_touches rfl (.refl _ s)
  | clockGoodTimeout => exact execClockGoodTimeout_touches rfl (.refl _ s)
  | pcieReady => exact execPcieReady_touches rfl (.refl _ s)
  | bootCheckPass => exact execBootCheckPass_touches rfl (.refl _ s)
  | bootWrite => exact execBootWrite_touches rfl (.refl _ s)
  | bootMasked => exact execBootMasked_touches rfl (.refl _ s)
  | bootPoll => exact execBootPoll_touches rfl (.refl _ s)
  | bootPollTimeout => exact execBootPollTimeout_touches rfl (.refl _ s)
  | bootTable => exact execBootTable_touches rfl (.refl _ s)
  | bootDelay => exact execBootDelay_touches rfl (.refl _ s)
  | bootEnd => exact execBootEnd_touches rfl (.refl _ s)
  | tapReset => exact execTapReset_touches rfl (.refl _ s)
  | jtagExtest => exact execJtagExtest_touches rfl (.refl _ s)
  | jtagIdcode => exact execJtagIdcode_touches rfl (.refl _ s)
  | jtagSamplePreload => exact execJtagSamplePreload_touches rfl (.refl _ s)
  | jtagHighz => exact execJtagHighz_touches rfl (.refl _ s)
  | jtagClamp => exact execJtagClamp_touches rfl (.refl _ s)
  | jtagBypass => exact execJtagBypass_touches rfl (.refl _ s)
  | jtagDbgReset => exact execJtagDbgReset_touches rfl (.refl _ s)
  | jtagDbgAccess => exact execJtagDbgAccess_touches rfl (.refl _ s)
  | fuseBurn => exact execFuseBurn_touches rfl (.refl _ s)
  | fuseLock => exact execFuseLock_touches rfl (.refl _ s)
  | internalError => exact execInternalError_touches rfl (.refl _ s)
  | mortarLinkFenced => exact execMortarLinkFenced_touches rfl (.refl _ s)
  | inputDeasserted => exact execInputDeasserted_touches rfl (.refl _ s)
  | clockFailureWarmReset => exact execClockFailureWarmReset_touches rfl (.refl _ s)

/-! ### What a command leaves alone -/

/-- `p`, or nothing where `b` holds. -/
def UnlessReached (b : Bool) (p : Prop) : Prop := bif b then True else p

theorem unlessReached {b : Bool} {p : Prop} (h : b = false → p) : UnlessReached b p := by
  cases b with
  | true => trivial
  | false => exact h rfl

/-- Of the parts of the machine that few commands reach, those outside the mask are as they were. -/
def SparesParts (m : Nat) (s t : State) : Prop :=
  UnlessReached (m.testBit 1) (t.straps = s.straps) ∧ UnlessReached (m.testBit 19) (t.errAonHold = s.errAonHold) ∧
  UnlessReached (m.testBit 42) (t.encoders = s.encoders) ∧ UnlessReached (m.testBit 88) (t.encEdges = s.encEdges) ∧
  UnlessReached (m.testBit 50) (t.buses = s.buses) ∧ UnlessReached (m.testBit 52) (t.ilkIn = s.ilkIn) ∧
  UnlessReached (m.testBit 53) (t.hokIn = s.hokIn) ∧ UnlessReached (m.testBit 68) (t.rmon = s.rmon) ∧
  UnlessReached (m.testBit 80) (t.linksFenced = s.linksFenced) ∧ UnlessReached (m.testBit 86) (t.pcieUp = s.pcieUp) ∧
  UnlessReached (m.testBit 84) (t.taps = s.taps) ∧ UnlessReached (m.testBit 83) (t.boot = s.boot) ∧
  UnlessReached (m.testBit 11) (t.resp = s.resp)

theorem Touches.sparesParts {m : Nat} {s t : State} (k : Touches m s t) : SparesParts m s t :=
  ⟨unlessReached k.straps, unlessReached k.errAonHold, unlessReached k.encoders, unlessReached k.encEdges,
    unlessReached k.buses, unlessReached k.ilkIn, unlessReached k.hokIn, unlessReached k.rmon, unlessReached k.linksFenced,
    unlessReached k.pcieUp, unlessReached k.taps, unlessReached k.boot, unlessReached k.resp⟩

/-- Settles O7: the mask of each command holds such a field exactly where the field's clause names the command. -/
theorem onlyTheirCommandsChange : Obligations.OnlyTheirCommandsChange := by
  unfold Obligations.OnlyTheirCommandsChange
  intro c s t h
  have k := exec_touches c s t h
  cases c with dsimp only [reach] at k
  | _ => exact k.sparesParts

/-- The mask holds every field of `wide`. -/
def reachesAll (wide m : Nat) : Bool := m &&& wide == wide

/-- Of the units, those outside the mask are as they were, where it does not hold all that a register write may change;
of most of them, where it does not hold all that a warm reset may change either. -/
def SparesUnits (m : Nat) (s t : State) : Prop :=
  UnlessReached (reachesAll registerWriteFields m)
    (UnlessReached (m.testBit 3) (t.mem = s.mem) ∧ UnlessReached (m.testBit 33) (t.badBlocks = s.badBlocks) ∧
      UnlessReached (m.testBit 4) (t.nv = s.nv) ∧ UnlessReached (m.testBit 71) (t.nvBad = s.nvBad) ∧
      UnlessReached (m.testBit 72) (t.logSeq = s.logSeq) ∧ UnlessReached (m.testBit 5) (t.host = s.host) ∧
      UnlessReached (m.testBit 24) (t.lastFsnValid = s.lastFsnValid) ∧
      UnlessReached (reachesAll warmResetFields m)
        (UnlessReached (m.testBit 8) (t.clocks = s.clocks) ∧ UnlessReached (m.testBit 9) (t.master = s.master) ∧
          UnlessReached (m.testBit 10) (t.landed = s.landed) ∧
          UnlessReached (m.testBit 20) (t.releases = s.releases) ∧
          UnlessReached (m.testBit 21) (t.domains = s.domains) ∧ UnlessReached (m.testBit 22) (t.txns = s.txns) ∧
          UnlessReached (m.testBit 23) (t.xtxn = s.xtxn) ∧ UnlessReached (m.testBit 27) (t.decls = s.decls) ∧
          UnlessReached (m.testBit 35) (t.dmas = s.dmas) ∧ UnlessReached (m.testBit 36) (t.scrubs = s.scrubs) ∧
          UnlessReached (m.testBit 37) (t.jobs = s.jobs) ∧ UnlessReached (m.testBit 41) (t.counters = s.counters) ∧
          UnlessReached (m.testBit 57) (t.cffs = s.cffs) ∧ UnlessReached (m.testBit 59) (t.adcs = s.adcs) ∧
          UnlessReached (m.testBit 61) (t.zeros = s.zeros) ∧ UnlessReached (m.testBit 62) (t.hvOver = s.hvOver) ∧
          UnlessReached (m.testBit 65) (t.syncAt = s.syncAt) ∧
          UnlessReached (m.testBit 66) (t.loopNext = s.loopNext) ∧ UnlessReached (m.testBit 67) (t.rails = s.rails) ∧
          UnlessReached (m.testBit 69) (t.thermals = s.thermals) ∧
          UnlessReached (m.testBit 78) (t.calJobs = s.calJobs) ∧ UnlessReached (m.testBit 79) (t.ages = s.ages) ∧
          UnlessReached (m.testBit 81) (t.clkFails = s.clkFails) ∧ UnlessReached (m.testBit 85) (t.dogs = s.dogs) ∧
          UnlessReached (m.testBit 87) (t.bootWaits = s.bootWaits)))

theorem Touches.sparesUnits {m : Nat} {s t : State} (k : Touches m s t) : SparesUnits m s t :=
  unlessReached fun _ => ⟨unlessReached k.mem, unlessReached k.badBlocks, unlessReached k.nv, unlessReached k.nvBad,
    unlessReached k.logSeq, unlessReached k.host, unlessReached k.lastFsnValid, unlessReached fun _ => ⟨
    unlessReached k.clocks, unlessReached k.master, unlessReached k.landed, unlessReached k.releases, unlessReached k.domains,
    unlessReached k.txns, unlessReached k.xtxn, unlessReached k.decls, unlessReached k.dmas, unlessReached k.scrubs,
    unlessReached k.jobs, unlessReached k.counters, unlessReached k.cffs, unlessReached k.adcs, unlessReached k.zeros,
    unlessReached k.hvOver, unlessReached k.syncAt, unlessReached k.loopNext, unlessReached k.rails,
    unlessReached k.thermals, unlessReached k.calJobs, unlessReached k.ages, unlessReached k.clkFails, unlessReached k.dogs,
    unlessReached k.bootWaits⟩⟩

/-- Settles O8: register writes and cold resets reach all that a register write may change, and no other command does; of
the rest, the mask of each holds a field exactly where the field's clause names the command. -/
theorem eventsReachOnlyTheirUnits : Obligations.EventsReachOnlyTheirUnits := by
  unfold Obligations.EventsReachOnlyTheirUnits
  intro c s t h
  have k := exec_touches c s t h
  cases c with dsimp only [reach] at k
  | _ => exact k.sparesUnits

end Sys2Proof.Machine
end

section
/-! PROOFS. Register writes that are turned away, and what a failed access and a violation leave behind (R9, R28, R33, R37,
R495, R576). -/

namespace Sys2Proof.Machine

/-! ### A violation changes registers and messages only -/

theorem RegsSent.ite {c : Prop} [Decidable c] {s t u : State} (ht : RegsSent s t) (hu : RegsSent s u) :
    RegsSent s (if c then t else u) := by
  split
  · exact ht
  · exact hu

theorem privViolation_regsSent (x : Nat) (s : State) : RegsSent s (privViolation x s) := by
  have hcount : RegsSent s (bump (R.CTRL.PRIV_COUNT_COUNT 0) s) := .putWord _ _ s
  exact (hcount.ite (hcount.trans (.putWord _ _ _))).trans (evt_regsSent 0 1 0 _)

/-- The state with the violation of a write counted, where it is one (R37). -/
def violationCounted (a : Access) (r : RegD) (x : Nat) (s : State) : State :=
  if a.bar2 = true ∧ privMask r ≠ 0 then privViolation x s else s

theorem violationCounted_regsSent (a : Access) (r : RegD) (x : Nat) (s : State) :
    RegsSent s (violationCounted a r x s) :=
  (privViolation_regsSent x s).ite (.refl s)

/-- The tests that decide whether an access is served come out the same. -/
structure SameGates (s t : State) : Prop where
  down : ∀ a, accessDown a t = accessDown a s
  answers : ∀ d, dieAnswers d t = dieAnswers d s
  fenced : ∀ d, dieFenced d t = dieFenced d s
  present : ∀ d p, pagePresent d p t = pagePresent d p s
  domain : ∀ d n, domSt d n t = domSt d n s
  pageFenced : ∀ d p, pageFenced d p t = pageFenced d p s
  unitOpen : ∀ d p o, unitOpen d p o t = unitOpen d p o s

theorem SameGates.violation {a : Access} {r : RegD} {x d : Nat} {s : State} :
    SameGates s (violationCounted a r x (landWrite a.rq d s)) := by
  obtain ⟨g, m, e⟩ := violationCounted_regsSent a r x (landWrite a.rq d s)
  rw [e]
  exact ⟨fun _ => rfl, fun _ => rfl, fun _ => rfl, fun _ _ => rfl, fun _ _ => rfl, fun _ _ => rfl, fun _ _ _ => rfl⟩

/-! ### The write path -/

theorem violates_register {a : Access} {d p o : Nat} {r : RegD} {s : State} (hp : p < 256) (ho : o < 0x1000)
    (hr : regAt d (p * 0x1000 + o) = some r) (hpres : pagePresent d p s = true) :
    violates a d (p * 0x1000 + o) s = decide (a.bar2 = true ∧ privMask r ≠ 0) := by
  have hpage : (p * 0x1000 + o) / 0x1000 = p := by omega
  unfold violates
  rw [if_neg (by omega), hpage, hpres, hr]
  cases a.bar2 <;> simp [bne, beq_eq_decide]

/-- A write to a register of a present page lands, and a violation is counted, whatever becomes of the write. -/
theorem regWrite_present {a : Access} {d p o be : Nat} {v : Word} {r : RegD} {s : State} (hdown : accessDown a s = false)
    (hd : d < s.dies) (hp : p < 256) (ho : o < 0x1000) (h4 : o % 4 = 0) (hr : regAt d (p * 0x1000 + o) = some r)
    (hpres : pagePresent d p s = true) {t : State}
    (ht : t = violationCounted a r (Layout.addr d p o) (landWrite a.rq d s)) :
    regWrite a (Layout.addr d p o) v be s =
      (if be % 16 ≠ 15 then accErr 1 true (Layout.addr d p o) t
       else if !dieAnswers d t then (if dieFenced d t then accErr 4 true (Layout.addr d p o) t else t)
       else acceptedWrite a d (p * 0x1000 + o) (Layout.addr d p o) v t) := by
  have h8 := dies_le s
  have e4 : Layout.addr d p o / 4 * 4 = Layout.addr d p o := by unfold Layout.addr; omega
  have hin : ¬ 0x8000000 ≤ Layout.addr d p o := by unfold Layout.addr; omega
  have hv : onlyIf (violates a d (p * 0x1000 + o) (landWrite a.rq d s)) (privViolation (Layout.addr d p o))
      (landWrite a.rq d s) = t := by
    rw [ht, violates_register (s := landWrite a.rq d s) hp ho hr hpres]
    exact if_congr decide_eq_true_iff rfl rfl
  unfold regWrite
  simp only [e4, addr_die hp ho, addr_off hp ho]
  rw [if_neg (by simp [hdown, hin]), if_neg (Nat.not_le.mpr hd), hv]

theorem exec_registerWrite_regWrite (a : Access) (off be : Nat) (v : Word) (s : State) :
    exec (.registerWrite a off v be) s = .next (regWrite a off v be s) := rfl

/-- A write to a die that the package lacks (R28). -/
theorem regWrite_noDie {a : Access} {off be : Nat} {v : Word} {s : State} (hdown : accessDown a s = false)
    (hoff : off < 0x8000000) (hd : s.dies ≤ off / 0x1000000) :
    regWrite a off v be s = accErr 0 true (off / 4 * 4) (landWrite a.rq (off / 0x1000000) s) := by
  have e : off / 4 * 4 / 0x1000000 = off / 0x1000000 := by omega
  unfold regWrite
  simp only [e]
  rw [if_neg (by simp [hdown]; omega), if_pos hd]

theorem acceptedWrite_domainOff {a : Access} {d p o x : Nat} {v : Word} {r : RegD} {s : State}
    (hfence : dieFenced d s = false) (hp : p < 256) (hlo : 0x40 ≤ o) (ho : o < 0x1000)
    (hr : regAt d (p * 0x1000 + o) = some r) (hpres : pagePresent d p s = true) (hoff : domSt d (pageDomain p) s ≠ 2) :
    acceptedWrite a d (p * 0x1000 + o) x v s = accErr 2 true x s := by
  have hpage : (p * 0x1000 + o) / 0x1000 = p := by omega
  have hword : (p * 0x1000 + o) % 0x1000 = o := by omega
  unfold acceptedWrite
  simp only [hpage, hword, hfence, hr, hpres]
  rw [if_neg (by simp), if_neg (by omega), if_neg (by simp), if_pos ⟨hlo, hoff⟩]

theorem acceptedWrite_fenced {a : Access} {d p o x : Nat} {v : Word} {s : State} (hfence : dieFenced d s = true)
    (hrst : p ≠ 0x10) (ho : o < 0x1000) : acceptedWrite a d (p * 0x1000 + o) x v s = accErr 4 true x s := by
  have hpage : (p * 0x1000 + o) / 0x1000 = p := by omega
  unfold acceptedWrite
  simp only [hpage]
  rw [if_pos (by simp [hfence, hrst])]

/-- An accepted write of a CLK or PWR register is stored, in the view that it was made through. -/
theorem acceptedWrite_plain {a : Access} {d p o x : Nat} {v : Word} {r : RegD} {s : State} (hk : p ∈ [0x11, 0x12])
    (hlo : 0x40 ≤ o) (ho : o < 0x1000) (hr : regAt d (p * 0x1000 + o) = some r)
    (h : Reaches { a with bar2 := false } d p o s) :
    acceptedWrite a d (p * 0x1000 + o) x v s = (RegWrite.of a d p o v).store s := by
  obtain ⟨-, -, hfence, hpres, hdom, -, hpf, -⟩ := h
  have hpage : (p * 0x1000 + o) / 0x1000 = p := by simp only [List.mem_cons, List.not_mem_nil, or_false] at hk; omega
  have hword : (p * 0x1000 + o) % 0x1000 = o := by omega
  have hunit : unitAt d p o = none := by
    simp only [List.mem_cons, List.not_mem_nil, or_false] at hk
    rcases hk with rfl | rfl <;> rfl
  have hk' : PlainRegister p o := .inl hk
  have hlt := hk'.page_lt
  unfold acceptedWrite
  simp only [hpage, hword, hfence, hr, hpres]
  rw [if_neg (by simp), if_neg (by omega), if_neg (by simp), if_neg (by omega)]
  unfold registerWrite
  simp only [hunit, hpf]
  rw [if_neg (by omega), if_neg (by simp)]
  refine (blockWrite_plain hk' s).trans ?_
  unfold RegWrite.of RegWrite.store
  rw [hr]
  rfl

theorem SameGates.reaches {a : Access} {d p o : Nat} {s t : State} (g : SameGates s t) (h : Reaches a d p o s) :
    Reaches a d p o t := by
  unfold Reaches at h ⊢
  rwa [g.down, g.answers, g.fenced, g.present, g.domain, g.pageFenced, g.unitOpen]

/-! ### Writes that are turned away -/

/-- A write with a byte enable clear (R28). -/
theorem exec_registerWrite_partial {a : Access} {d p o be : Nat} {v : Word} {r : RegD} {s : State}
    (hdown : accessDown a s = false) (hd : d < s.dies) (hp : p < 256) (ho : o < 0x1000) (h4 : o % 4 = 0)
    (hr : regAt d (p * 0x1000 + o) = some r) (hpres : pagePresent d p s = true) (hbe : be % 16 ≠ 15) :
    exec (.registerWrite a (Layout.addr d p o) v be) s =
      .next (accErr 1 true (Layout.addr d p o) (violationCounted a r (Layout.addr d p o) (landWrite a.rq d s))) := by
  rw [exec_registerWrite_regWrite, regWrite_present hdown hd hp ho h4 hr hpres rfl, if_pos hbe]

/-- A whole-word write to a die that answers. -/
theorem regWrite_answered {a : Access} {d p o : Nat} {v : Word} {r : RegD} {s t : State} (hdown : accessDown a s = false)
    (hans : dieAnswers d s = true) (hp : p < 256) (ho : o < 0x1000) (h4 : o % 4 = 0)
    (hr : regAt d (p * 0x1000 + o) = some r) (hpres : pagePresent d p s = true)
    (ht : t = violationCounted a r (Layout.addr d p o) (landWrite a.rq d s)) :
    regWrite a (Layout.addr d p o) v 15 s = acceptedWrite a d (p * 0x1000 + o) (Layout.addr d p o) v t := by
  have hans' : dieAnswers d t = true := by rw [ht, SameGates.violation.answers, hans]
  rw [regWrite_present hdown (dieAnswers_lt hans) hp ho h4 hr hpres ht, if_neg (by decide), if_neg (by simp [hans'])]

theorem exec_registerWrite_domainOff {a : Access} {d p o : Nat} {v : Word} {r : RegD} {s : State}
    (hdown : accessDown a s = false) (hans : dieAnswers d s = true) (hfence : dieFenced d s = false) (hp : p < 256)
    (hlo : 0x40 ≤ o) (ho : o < 0x1000) (h4 : o % 4 = 0) (hr : regAt d (p * 0x1000 + o) = some r)
    (hpres : pagePresent d p s = true) (hoff : domSt d (pageDomain p) s ≠ 2) :
    exec (.registerWrite a (Layout.addr d p o) v 15) s =
      .next (accErr 2 true (Layout.addr d p o) (violationCounted a r (Layout.addr d p o) (landWrite a.rq d s))) := by
  have g : SameGates s _ := SameGates.violation (a := a) (r := r) (x := Layout.addr d p o) (d := d)
  rw [exec_registerWrite_regWrite, regWrite_answered hdown hans hp ho h4 hr hpres rfl,
    acceptedWrite_domainOff ((g.fenced d).trans hfence) hp hlo ho hr ((g.present d p).trans hpres)
      (by rwa [g.domain])]

theorem exec_registerWrite_fenced {a : Access} {d p o : Nat} {v : Word} {r : RegD} {s : State}
    (hdown : accessDown a s = false) (hans : dieAnswers d s = true) (hfence : dieFenced d s = true) (hp : p < 256)
    (hrst : p ≠ 0x10) (ho : o < 0x1000) (h4 : o % 4 = 0) (hr : regAt d (p * 0x1000 + o) = some r)
    (hpres : pagePresent d p s = true) :
    exec (.registerWrite a (Layout.addr d p o) v 15) s =
      .next (accErr 4 true (Layout.addr d p o) (violationCounted a r (Layout.addr d p o) (landWrite a.rq d s))) := by
  rw [exec_registerWrite_regWrite, regWrite_answered hdown hans hp ho h4 hr hpres rfl,
    acceptedWrite_fenced ((SameGates.violation.fenced d).trans hfence) hrst ho]

/-! ### A violation that gets through -/

/-- The register takes the word after the violation has been counted (R9, R37). -/
theorem exec_registerWrite_violation {a : Access} {d p o : Nat} {v : Word} {r : RegD} {s : State} (hb : a.bar2 = true)
    (hk : p ∈ [0x11, 0x12]) (hlo : 0x40 ≤ o) (ho : o < 0x1000) (h4 : o % 4 = 0)
    (hr : regAt d (p * 0x1000 + o) = some r) (hpriv : privMask r ≠ 0) (h : Reaches { a with bar2 := false } d p o s) :
    exec (.registerWrite a (Layout.addr d p o) v 15) s =
      .next ((RegWrite.of a d p o v).store (privViolation (Layout.addr d p o) (landWrite a.rq d s))) := by
  have hp : p < 256 := PlainRegister.page_lt (o := o) (.inl hk)
  have g : SameGates s (violationCounted a r (Layout.addr d p o) (landWrite a.rq d s)) := .violation
  obtain ⟨hdown, hans, -, hpres, -⟩ := id h
  rw [exec_registerWrite_regWrite, regWrite_answered (a := a) hdown hans hp ho h4 hr hpres rfl,
    acceptedWrite_plain hk hlo ho hr (g.reaches h)]
  unfold violationCounted
  rw [if_pos ⟨hb, hpriv⟩]

/-- A field of the register written by a violation keeps its value where it is /P, and is written normally where it is not. -/
theorem rd_store_violation {a : Access} {d p o : Nat} {v : Word} {r : RegD} {s : State} (hb : a.bar2 = true)
    (hk : p ∈ [0x11, 0x12]) (hlo : 0x40 ≤ o) (ho : o < 0x1000) (hr : regAt d (p * 0x1000 + o) = some r) {f : FieldD}
    (hf : f ∈ r.fields) :
    rd ⟨Layout.addr d p o, f.lsb, f.width⟩
        ((RegWrite.of a d p o v).store (privViolation (Layout.addr d p o) (landWrite a.rq d s))) =
      if f.priv then rd ⟨Layout.addr d p o, f.lsb, f.width⟩ s
      else fieldAfter false f (rd ⟨Layout.addr d p o, f.lsb, f.width⟩ s) (bitsOf v.toNat f.lsb f.width) := by
  have hblock : BlockWord (Layout.addr d p o) := by
    simp only [List.mem_cons, List.not_mem_nil, or_false] at hk
    exact blockWord_addr (by omega) ho (by omega)
  rw [rd_store_of hr hf, hb, rd_privViolation_block (l := ⟨Layout.addr d p o, f.lsb, f.width⟩) hblock, rd_landWrite]
  unfold fieldAfter
  cases f.priv <;> rfl

/-! ### The latch of a failed access (R576) -/

theorem rd_evt_ctrl {l : Loc} {o b : Nat} (ha : l.addr = Layout.addr 0 1 o) (ho : 0x40 ≤ o ∧ o < 0x1000) (s : State) :
    rd l (evt 0 1 b s) = rd l s :=
  rd_evt_ne 0 1 b s (ha ▸ notPba_addr (by decide) ho.2)
    (ha ▸ addr_ne (by decide) ho.2 (by decide) (by decide) (.inr (.inr (by omega))))

/-- What ACC_ERR takes of a failure: its address, kind and direction, and VALID. -/
def accErrWord (k x : Nat) (w : Bool) : Nat := x % 0x8000000 + 0x8000000 * k + 0x40000000 * b2n w + 0x80000000

theorem b2n_le_one (w : Bool) : b2n w ≤ 1 := by cases w <;> decide

theorem accErrWord_lt {k : Nat} (hk : k < 8) (x : Nat) (w : Bool) : accErrWord k x w < 2 ^ 32 := by
  have hw := b2n_le_one w
  unfold accErrWord
  omega

/-- A field of ACC_ERR after the first failure. -/
theorem rd_accErr_first {k x : Nat} {w : Bool} {s : State} {l : Loc} (hl : l.addr = (R.CTRL.ACC_ERR_VALID 0).addr)
    (hk : k < 8) (hfirst : flag (R.CTRL.ACC_ERR_VALID 0) s = false) :
    rd l (accErr k w x s) = bitsOf (accErrWord k x w) l.lsb l.width := by
  unfold accErr
  rw [hfirst, rd_evt_ctrl hl (by decide), if_neg (by decide), rd_putWord_same _ _ hl, BitVec.toNat_ofNat]
  change bitsOf (accErrWord k x w % 2 ^ 32) l.lsb l.width = _
  rw [Nat.mod_eq_of_lt (accErrWord_lt hk x w)]

/-- A field of ACC_ERR after a further failure. -/
theorem rd_accErr_again {k x : Nat} {w : Bool} {s : State} {l : Loc} (hl : l.addr = (R.CTRL.ACC_ERR_VALID 0).addr)
    (hheld : flag (R.CTRL.ACC_ERR_VALID 0) s = true) : rd l (accErr k w x s) = rd l s := by
  unfold accErr
  rw [hheld, rd_evt_ctrl hl (by decide), if_pos rfl]

theorem flag_accErr_valid {k x : Nat} {w : Bool} {s : State} (hk : k < 8) :
    flag (R.CTRL.ACC_ERR_VALID 0) (accErr k w x s) = true := by
  cases hv : flag (R.CTRL.ACC_ERR_VALID 0) s with
  | true => exact (congrArg (· != 0) (rd_accErr_again rfl hv)).trans hv
  | false =>
    have hw := b2n_le_one w
    have hbit : bitsOf (accErrWord k x w) 31 1 = 1 := by unfold bitsOf accErrWord; omega
    exact congrArg (· != 0) ((rd_accErr_first rfl hk hv).trans hbit)

/-- The first failure is latched with its address, kind and direction. -/
theorem accErr_latches {k x : Nat} {w : Bool} {s : State} (hk : k < 8) (hx : x < 0x8000000)
    (hfirst : flag (R.CTRL.ACC_ERR_VALID 0) s = false) :
    rd (R.CTRL.ACC_ERR_ADDR 0) (accErr k w x s) = x ∧ rd (R.CTRL.ACC_ERR_KIND 0) (accErr k w x s) = k ∧
      flag (R.CTRL.ACC_ERR_WRITE 0) (accErr k w x s) = w := by
  have hw := b2n_le_one w
  have haddr : bitsOf (accErrWord k x w) 0 27 = x := by unfold bitsOf accErrWord; omega
  have hkind : bitsOf (accErrWord k x w) 27 3 = k := by unfold bitsOf accErrWord; omega
  have hwrite : bitsOf (accErrWord k x w) 30 1 = b2n w := by unfold bitsOf accErrWord; omega
  refine ⟨(rd_accErr_first (l := R.CTRL.ACC_ERR_ADDR 0) rfl hk hfirst).trans haddr,
    (rd_accErr_first (l := R.CTRL.ACC_ERR_KIND 0) rfl hk hfirst).trans hkind, ?_⟩
  unfold flag
  rw [(rd_accErr_first (l := R.CTRL.ACC_ERR_WRITE 0) rfl hk hfirst).trans hwrite]
  cases w <;> rfl

theorem word_accErr_held {k x : Nat} {w : Bool} {s : State} (hheld : flag (R.CTRL.ACC_ERR_VALID 0) s = true) :
    word (R.CTRL.ACC_ERR_VALID 0).addr (accErr k w x s) = word (R.CTRL.ACC_ERR_VALID 0).addr s := by
  unfold accErr
  rw [hheld, if_pos rfl]
  exact word_evt_ne 0 1 1 s (.inl (by decide)) (by decide)

/-! ### The record of a violation (R37) -/

theorem rd_privViolation_count (x : Nat) (s : State) :
    rd (R.CTRL.PRIV_COUNT_COUNT 0) (privViolation x s) = Nat.min (rd (R.CTRL.PRIV_COUNT_COUNT 0) s + 1) 65535 := by
  unfold privViolation
  rw [rd_evt_ctrl (o := 0x48) rfl (by decide)]
  split
  · exact rd_bump_same s (by decide)
  · rw [rd_putWord_ne (l := R.CTRL.PRIV_COUNT_COUNT 0) _ _ (by decide)]
    exact rd_bump_same s (by decide)

/-- A field of PRIV_ADDR after the first violation. -/
theorem rd_privViolation_first {x : Nat} {s : State} {l : Loc} (hl : l.addr = (R.CTRL.PRIV_ADDR_VALID 0).addr)
    (hfirst : flag (R.CTRL.PRIV_ADDR_VALID 0) s = false) :
    rd l (privViolation x s) = bitsOf (x % 0x8000000 + 0x80000000) l.lsb l.width := by
  have hkeep : flag (R.CTRL.PRIV_ADDR_VALID 0) (bump (R.CTRL.PRIV_COUNT_COUNT 0) s) = false :=
    (congrArg (· != 0) (rd_bump_ne s (by decide))).trans hfirst
  have hlt : x % 0x8000000 + 0x80000000 < 2 ^ 32 := by omega
  unfold privViolation
  rw [rd_evt_ctrl hl (by decide), hkeep, if_neg (by decide), rd_putWord_same _ _ hl, BitVec.toNat_ofNat,
    Nat.mod_eq_of_lt hlt]

theorem word_privViolation_held {x : Nat} {s : State} (hheld : flag (R.CTRL.PRIV_ADDR_VALID 0) s = true) :
    word (R.CTRL.PRIV_ADDR_VALID 0).addr (privViolation x s) = word (R.CTRL.PRIV_ADDR_VALID 0).addr s := by
  have hkeep : flag (R.CTRL.PRIV_ADDR_VALID 0) (bump (R.CTRL.PRIV_COUNT_COUNT 0) s) = true :=
    (congrArg (· != 0) (rd_bump_ne s (by decide))).trans hheld
  unfold privViolation
  rw [word_evt_ne 0 1 0 _ (.inl (by decide)) (by decide), hkeep, if_pos rfl]
  exact word_bump_ne s (by decide)

theorem flag_privViolation_valid (x : Nat) (s : State) :
    flag (R.CTRL.PRIV_ADDR_VALID 0) (privViolation x s) = true := by
  cases hv : flag (R.CTRL.PRIV_ADDR_VALID 0) s with
  | true => exact (congrArg (fun u : Word => bitsOf u.toNat 31 1 != 0) (word_privViolation_held hv)).trans hv
  | false =>
    have hbit : bitsOf (x % 0x8000000 + 0x80000000) 31 1 = 1 := by unfold bitsOf; omega
    exact congrArg (· != 0) ((rd_privViolation_first rfl hv).trans hbit)

theorem rd_privViolation_addr {x : Nat} {s : State} (hx : x < 0x8000000)
    (hfirst : flag (R.CTRL.PRIV_ADDR_VALID 0) s = false) : rd (R.CTRL.PRIV_ADDR_ADDR 0) (privViolation x s) = x := by
  have haddr : bitsOf (x % 0x8000000 + 0x80000000) 0 27 = x := by unfold bitsOf; omega
  exact (rd_privViolation_first (l := R.CTRL.PRIV_ADDR_ADDR 0) rfl hfirst).trans haddr

/-- Settles O12: the write path up to the test that turns the write away, and the words that the latches are made of. -/
theorem writesTurnedAwayAreRecorded : Obligations.WritesTurnedAwayAreRecorded := by
  unfold Obligations.WritesTurnedAwayAreRecorded
  refine ⟨?noDie, ?partialWord, ?domainOff, ?fenced, ?violation, ?latch, ?record, ?frame⟩
  case noDie =>
    exact fun a off be v s hdown hoff hd => congrArg Host.Outcome.next (regWrite_noDie hdown hoff hd)
  case partialWord =>
    exact fun a d p o be v s r hdown hd hp ho h4 hr hpres hbe =>
      exec_registerWrite_partial hdown hd hp ho h4 hr hpres hbe
  case domainOff =>
    exact fun a d p o v s r hdown hans hfence hp hlo ho h4 hr hpres hoff =>
      exec_registerWrite_domainOff hdown hans hfence hp hlo ho h4 hr hpres hoff
  case fenced =>
    exact fun a d p o v s r hdown hans hfence hp hrst ho h4 hr hpres =>
      exec_registerWrite_fenced hdown hans hfence hp hrst ho h4 hr hpres
  case violation =>
    exact fun a d p o v s r hb hk hlo ho h4 hr hpriv h =>
      ⟨_, exec_registerWrite_violation hb hk hlo ho h4 hr hpriv h,
        fun f hf => rd_store_violation hb hk hlo ho hr hf, fun x hx => word_store_ne hx⟩
  case latch =>
    exact fun k x w s hk hx => ⟨flag_accErr_valid hk, testBit_evt 0 1 1 _ (by decide) (.inl (by decide)),
      accErr_latches hk hx, word_accErr_held⟩
  case record =>
    exact fun x s hx => ⟨rd_privViolation_count x s, testBit_evt 0 1 0 _ (by decide) (.inl (by decide)),
      flag_privViolation_valid x s, rd_privViolation_addr hx, word_privViolation_held⟩
  case frame =>
    intro d p o k x w s hp h0 h1 h15 hlo ho
    have hblock : BlockWord (Layout.addr d p o) := blockWord_addr hp ho (.inr ⟨h0, h1, h15, hlo⟩)
    exact ⟨accErr_block hblock, privViolation_block hblock⟩

end Sys2Proof.Machine
end

section
/-! PROOFS. The commands of a page's header (R34, R44, R271, R484, R491, R493, R494, R502). -/

namespace Sys2Proof.Machine

/-! ### A write of PAGE_CTL -/

/-- PAGE_CTL is privileged, so a write that reaches it came through BAR0. -/
theorem bar0_of_reaches_pageCtl {a : Access} {d p : Nat} {s : State} (h : Reaches a d p 8 s) : a.bar2 = false := by
  obtain ⟨-, -, -, hpres, -, hview, -⟩ := h
  refine hview.resolve_right fun hpriv => ?_
  unfold unprivileged at hpriv
  rw [regAt_header (o := 8) hpres (by decide) (by decide)] at hpriv
  exact absurd hpriv (by decide)

/-- The state with EN and PWR_REQ of a page stored. -/
def pageCtlStored (d p : Nat) (v : Word) (s : State) : State :=
  wr (R.HDR.PAGE_CTL_PWR_REQ d p) (b2n (testBit v.toNat 3 || decide (pageDomain p ≤ 1)))
    (wr (R.HDR.PAGE_CTL_EN d p) (b2n (testBit v.toNat 0)) s)

theorem b2n_mod_two (b : Bool) : (b2n b % 2 ^ 1 != 0) = b := by cases b <;> rfl

theorem flag_pageCtlStored_en (d p : Nat) (v : Word) (s : State) :
    flag (R.HDR.PAGE_CTL_EN d p) (pageCtlStored d p v s) = testBit v.toNat 0 := by
  unfold flag pageCtlStored
  rw [rd_wr_apart (l := R.HDR.PAGE_CTL_EN d p) (m := R.HDR.PAGE_CTL_PWR_REQ d p) _ _ rfl (show 3 + 1 ≤ 32 by decide)
      (.inl (show 0 + 1 ≤ 3 by decide)), rd_wr_same _ _ (show 0 + 1 ≤ 32 by decide)]
  exact b2n_mod_two _

theorem flag_pageCtlStored_pwr (d p : Nat) (v : Word) (s : State) :
    flag (R.HDR.PAGE_CTL_PWR_REQ d p) (pageCtlStored d p v s) = (testBit v.toNat 3 || decide (pageDomain p ≤ 1)) := by
  unfold flag pageCtlStored
  rw [rd_wr_same _ _ (show 3 + 1 ≤ 32 by decide)]
  exact b2n_mod_two _

theorem word_pageCtlStored_ne {d p x : Nat} {v : Word} {s : State} (h : x ≠ Layout.addr d p 8) :
    word x (pageCtlStored d p v s) = word x s :=
  (word_wr_ne _ _ h).trans (word_wr_ne _ _ h)

theorem pageCtlStored_touches (d p : Nat) (v : Word) (s : State) : Touches 0x4 s (pageCtlStored d p v s) :=
  wr_touches rfl (wr_touches rfl (.refl _ s))

theorem blockEnable_of_startsNothing {p : Nat} (h : startsNothing p = true) (d : Nat) (s : State) :
    blockEnable d p s = s := by
  unfold startsNothing at h
  unfold blockEnable
  split <;> simp_all

/-- PAGE_CTL where no block begins or ends with EN: its commands act in their order on the state with EN and PWR_REQ stored. -/
theorem pageCtlWrite_quiet {a : Access} {d p : Nat} {v : Word} {s : State} (hb : a.bar2 = false)
    (h : startsNothing p = true ∨ testBit v.toNat 0 = flag (R.HDR.PAGE_CTL_EN d p) s) :
    pageCtlWrite (RegWrite.of a d p 8 v) s =
      onlyIf ((testBit v.toNat 3 || decide (pageDomain p ≤ 1)) != flag (R.HDR.PAGE_CTL_PWR_REQ d p) s) (powerLook d)
        (onlyIf (testBit v.toNat 4) (unfencePage d p) (onlyIf (testBit v.toNat 2) (fencePage d p)
          (onlyIf (testBit v.toNat 1) (pageSrst d p) (pageCtlStored d p v s)))) := by
  have hen : ∀ t, (if testBit v.toNat 0 != flag (R.HDR.PAGE_CTL_EN d p) s then blockEnable d p t else t) = t := by
    intro t
    rcases h with h | h
    · rw [blockEnable_of_startsNothing h, ite_self]
    · rw [h, bne_self_eq_false]
      rfl
  rw [pageCtlWrite_of d p v s hb]
  dsimp only
  rw [hen]
  rfl

/-! ### FLT_FORCE (R491) -/

/-- The pages whose sources of class C bring nothing beside the record. -/
def RecordsOnly (p : Nat) : Prop := p ∈ [0x12, 0x15, 0x31, 0x32, 0x38, 0x39, 0x40]

theorem RecordsOnly.cases {p : Nat} (h : RecordsOnly p) :
    p = 0x12 ∨ p = 0x15 ∨ p = 0x31 ∨ p = 0x32 ∨ p = 0x38 ∨ p = 0x39 ∨ p = 0x40 := by
  unfold RecordsOnly at h
  simpa using h

theorem source_lt_of_classC {p src : Nat} (hc : faultClass p src = 1) : src < 32 := by
  unfold faultClass at hc
  repeat' split at hc
  all_goals omega

/-- A source of class C of such a page is only recorded: of MEMC and DMA the other sources are of class F and U. -/
theorem forceFault_recordsOnly {d p src : Nat} (h : RecordsOnly p) (hc : faultClass p src = 1) (s : State) :
    forceFault d p src s = recordFault d p src true s := by
  rcases h.cases with rfl | rfl | rfl | rfl | rfl | rfl | rfl
  case inr.inr.inr.inr.inl =>
    refine if_neg fun h2 => ?_
    rw [h2] at hc
    exact absurd hc (by decide)
  case inr.inr.inr.inr.inr.inl =>
    refine if_neg fun h7 => ?_
    have hu : faultClass 0x39 src = 2 := if_pos h7
    omega
  all_goals rfl

/-- A FLT_FORCE write of one bit forces its source. -/
theorem forceWord_one {d p src : Nat} (hsrc : src < 32) (hc : faultClass p src = 1) (s : State) :
    forceWord d p (BitVec.ofNat 32 (2 ^ src)).toNat s = forceBit d p src s := by
  have hbits : (List.range 32).filter (fun i => testBit (BitVec.ofNat 32 (2 ^ src)).toNat i) = [src] := by
    have hall : ∀ i < 32, (List.range 32).filter (fun j => testBit (BitVec.ofNat 32 (2 ^ i)).toNat j) = [i] := by decide
    exact hall src hsrc
  unfold forceWord
  rw [hbits]
  simp [hc]

theorem hasSource_recordsOnly {p src : Nat} (h : RecordsOnly p) (hc : faultClass p src = 1) (d : Nat) :
    hasSource d p src = true := by
  have hp : p ≠ 0 ∧ p ≠ 0x10 := by rcases h.cases with rfl | rfl | rfl | rfl | rfl | rfl | rfl <;> decide
  unfold hasSource
  simp [hc, hp.1, hp.2]

theorem forceWord_recordsOnly {d p src : Nat} (h : RecordsOnly p) (hc : faultClass p src = 1) (s : State) :
    forceWord d p (BitVec.ofNat 32 (2 ^ src)).toNat s =
      recordFault d p src true (bump (R.DIE.FORCE_CNT_COUNT d) s) := by
  rw [forceWord_one (source_lt_of_classC hc) hc]
  unfold forceBit
  rw [hasSource_recordsOnly h hc, if_neg (by decide), if_neg (by omega), forceFault_recordsOnly h hc]

/-! ### PAGE_SRST (R34) -/

/-- The pages whose block has no part beyond its registers but plain tables: TXN, THERM, TIME, DMA and GPIO. -/
def ResetsPlainly (p : Nat) : Prop := p ∈ [2, 3, 4, 5, 6, 7, 8, 9, 0x14, 0x32, 0x39, 0x78]

/-- The words from `lo` up to `hi` read their reset values. -/
theorem word_dropWords {lo hi x : Nat} (s : State) (hx : lo ≤ x ∧ x < hi) : word x (dropWords lo hi s) = resetWord x := by
  unfold word dropWords
  rw [mapGet_drop, if_pos (by simp [hx])]

theorem blockQuiet_plain {p : Nat} (h : ResetsPlainly p) (d : Nat) (s : State) : blockQuiet d p s = s := by
  unfold ResetsPlainly at h
  fin_cases h <;> rfl

theorem blockWakes_plain {p : Nat} (h : ResetsPlainly p) (d : Nat) (s : State) : blockWakes d p s = s := by
  unfold ResetsPlainly at h
  fin_cases h <;> exact ite_self s

theorem blockReset_plain {p : Nat} (h : ResetsPlainly p) (d : Nat) (s : State) :
    blockReset d p s = dropWords (Layout.addr d p 0x40) (Layout.addr d p 0x1000) (blockClear d p s) := by
  unfold ResetsPlainly at h
  fin_cases h <;> rfl

theorem pageSrst_plain {d p o : Nat} (h : ResetsPlainly p) (s : State) (hlo : 0x40 ≤ o) (ho : o < 0x1000) :
    word (Layout.addr d p o) (pageSrst d p s) = resetWord (Layout.addr d p o) := by
  have h38 : p ≠ 0x38 := by rintro rfl; exact absurd h (by unfold ResetsPlainly; decide)
  unfold pageSrst
  dsimp only
  rw [blockWakes_plain h, if_neg h38, blockQuiet_plain h, blockReset_plain h]
  exact word_dropWords _ (by unfold Layout.addr; omega)

theorem ResetsPlainly.page {p : Nat} (h : ResetsPlainly p) :
    p < 256 ∧ startsNothing p = true ∧ (0x32 < p → pageDomain p > 1) := by
  unfold ResetsPlainly at h
  fin_cases h <;> decide

/-! ### FENCE_REQ and UNFENCE of pages of plain units (R493, R494) -/

/-- Units whose fence adds nothing to the fenced units but themselves. -/
def fencesAlone : UnitId → Bool
  | .eth _ | .dma .. | .step .. | .foc .. => true
  | _ => false

theorem mem_fenced_fenceUnit {u v : UnitId} {s : State} (hu : fencesAlone u = true) :
    v ∈ (fenceUnit u s).fenced ↔ v = u ∨ v ∈ s.fenced := by
  by_cases hc : s.fenced.contains u = true
  · unfold fenceUnit
    rw [if_pos hc]
    exact (or_iff_right_of_imp fun e => e ▸ List.contains_iff_mem.mp hc).symm
  · have hadd : (fenceUnit u s).fenced = (addFence u s).fenced := by
      unfold fenceUnit
      rw [if_neg hc]
      cases u with
      | eth p => rfl
      | dma d n => exact (dmaFenced_touches (Nat.and_self _) (.refl _ _)).fenced rfl
      | step d n => exact (stepFence_touches (Nat.and_self _) (.refl _ _)).fenced rfl
      | foc d n => exact (focOff_touches (Nat.and_self _) (.refl _ _)).fenced rfl
      | _ => cases hu
    rw [hadd]
    exact mem_fenced_addFence

theorem mem_fenced_fenceUnits {l : List UnitId} {v : UnitId} {s : State} (hl : ∀ u ∈ l, fencesAlone u = true) :
    v ∈ (fenceUnits l s).fenced ↔ v ∈ l ∨ v ∈ s.fenced := by
  unfold fenceUnits
  induction l generalizing s with
  | nil => simp
  | cons u t ih =>
    rw [List.forall_mem_cons] at hl
    rw [List.foldl_cons, ih hl.2, mem_fenced_fenceUnit hl.1, List.mem_cons, or_assoc, or_left_comm]

theorem pageUnits_fenceAlone {d p : Nat} (hp : p ∈ [0x31, 0x39, 0x68, 0x69]) :
    ∀ u ∈ pageUnits d p, fencesAlone u = true := by
  have hall : (pageUnits d p).all fencesAlone = true := by fin_cases hp <;> rfl
  exact List.all_eq_true.mp hall

/-- The units that an unfence command releases by themselves. -/
def unfencesAlone : UnitId → Bool
  | .dma .. | .step .. | .foc .. => true
  | _ => false

theorem unfenceUnit_alone {d p : Nat} {u : UnitId} {s : State} (hu : unfencesAlone u = true) :
    unfenceUnit d p u s = unfence d p u s := by
  cases u with
  | dma | step | foc => rfl
  | _ => cases hu

/-- An unfence command of a page without a fault of class U or F takes the unit off the list and does nothing else. -/
theorem unfence_faultless {d p : Nat} {u v : UnitId} {s : State} (hf : faultsHold d p s = false) :
    faultsHold d p (unfence d p u s) = false ∧ (v ∈ (unfence d p u s).fenced ↔ v ∈ s.fenced ∧ v ≠ u) := by
  unfold unfence
  by_cases hc : u ∈ s.fenced
  · rw [if_neg (by simp [hc]), hf, if_neg (by decide)]
    exact ⟨hf, by simp [dropFence]⟩
  · rw [if_pos (by simp [hc])]
    exact ⟨hf, (and_iff_left_of_imp fun hv (e : v = u) => hc (e ▸ hv)).symm⟩

theorem mem_fenced_foldl_unfence {d p : Nat} {l : List UnitId} {v : UnitId} {s : State}
    (hl : ∀ u ∈ l, unfencesAlone u = true) (hf : faultsHold d p s = false) :
    v ∈ (l.foldl (fun s u => unfenceUnit d p u s) s).fenced ↔ v ∈ s.fenced ∧ v ∉ l := by
  induction l generalizing s with
  | nil => simp
  | cons u t ih =>
    rw [List.forall_mem_cons] at hl
    obtain ⟨hf', hv⟩ := unfence_faultless (u := u) (v := v) hf
    rw [List.foldl_cons, unfenceUnit_alone hl.1, ih hl.2 hf', hv, List.mem_cons, not_or, and_assoc]

theorem pageUnits_unfenceAlone {d p : Nat} (hp : p ∈ [0x39, 0x68, 0x69]) :
    ∀ u ∈ pageUnits d p, unfencesAlone u = true := by
  have hall : (pageUnits d p).all unfencesAlone = true := by fin_cases hp <;> rfl
  exact List.all_eq_true.mp hall

theorem mem_fenced_unfencePage {d p : Nat} {v : UnitId} {s : State} (hp : p ∈ [0x39, 0x68, 0x69])
    (hf : faultsHold d p s = false) : v ∈ (unfencePage d p s).fenced ↔ v ∈ s.fenced ∧ v ∉ pageUnits d p := by
  unfold unfencePage
  rw [mem_fenced_foldl_unfence (fun u hu => pageUnits_unfenceAlone hp u (List.mem_of_mem_filter hu)) hf,
    List.mem_filter, List.contains_iff_mem]
  tauto

theorem faultsHold_pageCtlStored {d p : Nat} {v : Word} {s : State} (hp : p < 256) :
    faultsHold d p (pageCtlStored d p v s) = faultsHold d p s := by
  have hne : (R.HDR.FLT_STAT_FLT d p).addr ≠ Layout.addr d p 8 :=
    addr_ne (o := 0x1C) hp (by decide) hp (by decide) (.inr (.inr (by decide)))
  have hflt : rd (R.HDR.FLT_STAT_FLT d p) (pageCtlStored d p v s) = rd (R.HDR.FLT_STAT_FLT d p) s := by
    unfold rd
    rw [word_pageCtlStored_ne hne]
  unfold faultsHold
  rw [hflt]

theorem onlyIf_powerLook_fenced (c : Bool) (d : Nat) (s : State) : (onlyIf c (powerLook d) s).fenced = s.fenced :=
  (onlyIf_touches (fun _ h => powerLook_touches (Nat.and_self _) h) (.refl _ s)).fenced rfl

/-! ### PWR_REQ (R502, R503) -/

/-- What the requests of a die bring one of its domains, as `powerLook` judges them one after another. -/
def domainJudged (d dom : Nat) (s : State) : State :=
  let x := domainOf d dom s
  if dom < 3 then s
  else if !domWanted d dom s then
    let s1 := setDomain d dom { x with failed := false } s
    if x.st = 2 then rejectDomain d dom s1 else s1
  else if x.st = 0 ∧ !x.failed ∧ (domNeeds d dom).all (fun e => domSt d e s == 2) then
    setDomain d dom { st := 1, since := s.now } s
  else s

theorem domainOf_powerLook (d e : Nat) (s : State) :
    domainOf d e (powerLook d s) = domainOf d e ((List.range 14).foldl (fun s dom => domainJudged d dom s) s) := by
  obtain ⟨held, shown, hlook⟩ : ∃ held shown, powerLook d s = onlyIf shown (evt d 0x12 2)
      (wr (R.PWR.DOM_HELD_HELD d) held ((List.range 14).foldl (fun s dom => domainJudged d dom s) s)) := ⟨_, _, rfl⟩
  rw [hlook]
  refine domainOf_congr d e (Touches.domains (m := 0x1004) ?_ rfl)
  exact onlyIf_touches (fun _ h => evt_touches (Nat.and_self _) h) (wr_touches rfl (.refl _ _))

theorem foldl_eq_self {α β : Type} {f : β → α → β} {b : β} {l : List α} (h : ∀ a ∈ l, f b a = b) : l.foldl f b = b := by
  induction l with
  | nil => rfl
  | cons a t ih =>
    rw [List.forall_mem_cons] at h
    rw [List.foldl_cons, h.1, ih h.2]

/-- No staging slot of the die is prepared. -/
def NonePrepared (d : Nat) (s : State) : Prop := ∀ i < 8, rd (R.TXN.TXS_STAT_STATE d i) s ≠ 1

theorem rejectTargets_nonePrepared {d reason : Nat} {hit : Nat → Bool} {s : State} (h : NonePrepared d s) :
    rejectTargets d reason hit s = s :=
  foldl_eq_self fun i hi => if_pos (.inl (h i (List.mem_range.mp hi)))

/-- Only the domains of the die differ, and those that were on still are. -/
structure DomainsMoved (d : Nat) (s t : State) : Prop where
  only : ∃ l, t = { s with domains := l }
  on : ∀ e < 16, domSt d e s = 2 → domSt d e t = 2

theorem DomainsMoved.refl (d : Nat) (s : State) : DomainsMoved d s s := ⟨⟨s.domains, rfl⟩, fun _ _ h => h⟩

theorem DomainsMoved.trans {d : Nat} {s t u : State} (h : DomainsMoved d s t) (k : DomainsMoved d t u) :
    DomainsMoved d s u := by
  obtain ⟨l, rfl⟩ := h.only
  obtain ⟨m, rfl⟩ := k.only
  exact ⟨⟨m, rfl⟩, fun e he x => k.on e he (h.on e he x)⟩

theorem DomainsMoved.set {d dom : Nat} {x : Domain} {s : State} (h : domSt d dom s = 2 → x.st = 2) :
    DomainsMoved d s (setDomain d dom x s) := by
  refine ⟨⟨_, rfl⟩, fun e he hon => ?_⟩
  unfold domSt
  by_cases hd : e = dom
  · rw [hd, domainOf_setDomain]
    exact h (hd ▸ hon)
  · rw [domainOf_setDomain_ne _ _ (by omega)]
    exact hon

theorem domainJudged_moves {d dom : Nat} {s : State} (h : NonePrepared d s) : DomainsMoved d s (domainJudged d dom s) := by
  have hreject : ∀ x, rejectDomain d dom (setDomain d dom x s) = setDomain d dom x s :=
    fun x => rejectTargets_nonePrepared (s := setDomain d dom x s) h
  unfold domainJudged
  dsimp only
  rw [hreject, ite_self]
  split_ifs with h3 hw hon
  · exact .refl d s
  · exact .set id
  · exact .set fun h2 => by unfold domSt at h2; omega
  · exact .refl d s

theorem domainOf_domainJudged_ne {d dom e : Nat} {s : State} (h : NonePrepared d s) (he : e ≠ dom) :
    domainOf d e (domainJudged d dom s) = domainOf d e s := by
  have hreject : ∀ x, rejectDomain d dom (setDomain d dom x s) = setDomain d dom x s :=
    fun x => rejectTargets_nonePrepared (s := setDomain d dom x s) h
  unfold domainJudged
  dsimp only
  rw [hreject, ite_self]
  split_ifs
  · rfl
  · exact domainOf_setDomain_ne _ _ (by omega)
  · exact domainOf_setDomain_ne _ _ (by omega)
  · rfl

/-- A requested domain that is off, and did not fail, begins to power up where the domains that it needs are on. -/
theorem domainOf_domainJudged_same {d dom : Nat} {s : State} (h3 : 3 ≤ dom) (hw : domWanted d dom s = true)
    (hoff : (domainOf d dom s).st = 0) (hfail : (domainOf d dom s).failed = false)
    (hneeds : (domNeeds d dom).all (fun e => domSt d e s == 2) = true) :
    domainOf d dom (domainJudged d dom s) = { st := 1, since := s.now } := by
  unfold domainJudged
  dsimp only
  rw [if_neg (by omega), if_neg (by simp [hw]), if_pos ⟨hoff, by simp [hfail], hneeds⟩, domainOf_setDomain]

theorem foldl_domainJudged {d e : Nat} {l : List Nat} {s : State} (h : NonePrepared d s) (he : e ∉ l) :
    DomainsMoved d s (l.foldl (fun s dom => domainJudged d dom s) s) ∧
      domainOf d e (l.foldl (fun s dom => domainJudged d dom s) s) = domainOf d e s := by
  induction l generalizing s with
  | nil => exact ⟨.refl d s, rfl⟩
  | cons a t ih =>
    rw [List.mem_cons, not_or] at he
    have hm := domainJudged_moves (dom := a) h
    have hn : NonePrepared d (domainJudged d a s) := by
      obtain ⟨x, hx⟩ := hm.only
      rw [hx]
      exact h
    obtain ⟨hmt, het⟩ := ih hn he.2
    exact ⟨hm.trans hmt, het.trans (domainOf_domainJudged_ne h he.1)⟩

theorem domNeeds_lt {d dom e : Nat} (h : e ∈ domNeeds d dom) : e < 16 := by
  unfold domNeeds at h
  grind

/-- `powerLook` lets a requested domain that is off begin to power up (R503). -/
theorem domainOf_powerLook_begins {d dom : Nat} {s : State} (h : NonePrepared d s) (h3 : 3 ≤ dom) (h14 : dom < 14)
    (hw : domWanted d dom s = true) (hoff : (domainOf d dom s).st = 0) (hfail : (domainOf d dom s).failed = false)
    (hneeds : (domNeeds d dom).all (fun e => domSt d e s == 2) = true) :
    domainOf d dom (powerLook d s) = { st := 1, since := s.now } := by
  obtain ⟨l, r, hlr⟩ := List.append_of_mem (List.mem_range.mpr h14)
  have hnodup : (l ++ dom :: r).Nodup := hlr ▸ List.nodup_range
  rw [List.nodup_middle, List.nodup_cons, List.mem_append, not_or] at hnodup
  obtain ⟨⟨hl, hr⟩, -⟩ := hnodup
  obtain ⟨hm, hsame⟩ := foldl_domainJudged h hl
  rw [domainOf_powerLook, hlr, List.foldl_append, List.foldl_cons]
  generalize l.foldl (fun s dom => domainJudged d dom s) s = t at hm hsame
  have hneeds' : (domNeeds d dom).all (fun e => domSt d e t == 2) = true := by
    simp only [List.all_eq_true, beq_iff_eq] at hneeds ⊢
    exact fun e he => hm.on e (domNeeds_lt he) (hneeds e he)
  obtain ⟨x, rfl⟩ := hm.only
  have hn : NonePrepared d { s with domains := x } := h
  have hj := domainJudged_moves (dom := dom) hn
  have hn' : NonePrepared d (domainJudged d dom { s with domains := x }) := by
    obtain ⟨y, hy⟩ := hj.only
    rw [hy]
    exact h
  rw [(foldl_domainJudged hn' hr).2]
  exact domainOf_domainJudged_same h3 hw (hsame ▸ hoff) (hsame ▸ hfail) hneeds'

/-- The CTRL, MORT and HOST domains aside, a domain is asked for by its pages. -/
theorem domAsked_of_three_le {d dom : Nat} {s : State} (h : 3 ≤ dom) :
    domAsked d dom s = (domPages d dom s).any (fun p => flag (R.HDR.PAGE_CTL_PWR_REQ d p) s) := by
  obtain ⟨n, rfl⟩ := Nat.exists_eq_add_of_le' h
  rfl

/-- A page that asks for its domain wants it on (R502). -/
theorem domWanted_of_asks {d p : Nat} {s : State} (hp : p < 256) (hpres : pagePresent d p s = true)
    (h3 : 3 ≤ pageDomain p) (hask : flag (R.HDR.PAGE_CTL_PWR_REQ d p) s = true) :
    domWanted d (pageDomain p) s = true := by
  have hasked : domAsked d (pageDomain p) s = true := by
    rw [domAsked_of_three_le h3]
    refine List.any_eq_true.mpr ⟨p, ?_, hask⟩
    unfold domPages
    simp [hp, hpres]
  unfold domWanted domWantedBy
  rw [hasked, Bool.true_or]

theorem pageDomain_lt {p : Nat} (hp : p < 256) : pageDomain p < 14 := by
  have hall : ∀ p < 256, pageDomain p < 14 := by decide +kernel
  exact hall p hp

/-! ### STATION_UNFENCE_APPLY (R271, R493) -/

/-- To unfence a station leaves its lanes as they were. -/
theorem laneFenced_dropFence_station {d k m : Nat} {s : State} (h : laneFenced d m s = false) :
    laneFenced d m (dropFence (.station k) s) = false := by
  unfold laneFenced isFenced dieFenced at h ⊢
  simp only [dropFence, Bool.or_eq_false_iff, List.contains_eq_mem, decide_eq_false_iff_not, List.mem_filter] at h ⊢
  obtain ⟨⟨hlane, hdie⟩, hstop⟩ := h
  exact ⟨⟨fun c => hlane c.1, fun c => hdie c.1⟩, hstop⟩

/-- With a lane of its head link in use, the station comes back into use and forms its frames again. -/
theorem execStationUnfenceApply_lane {k : Nat} {s : State} (hk : k ∈ s.unfPending) (hp : printsNow k s = false)
    (hlane : ∃ m ∈ headLanes k, laneFenced (stDie k) m s = false) :
    execStationUnfenceApply k s = .next (lenUpdate k (timingStart k (headForm k
      (dropFence (.station k) { s with unfPending := s.unfPending.filter (· != k) })))) := by
  obtain ⟨m, hm, hf⟩ := hlane
  have hf' : laneFenced (stDie k) m (dropFence (.station k) { s with unfPending := s.unfPending.filter (· != k) }) = false :=
    laneFenced_dropFence_station (s := { s with unfPending := s.unfPending.filter (· != k) }) hf
  unfold execStationUnfenceApply
  dsimp only
  rw [if_pos (by simp [hk, hp]), if_neg fun hall => ?_]
  have := List.all_eq_true.mp hall m hm
  simp [hf'] at this

theorem station_unfenced {k : Nat} {s t : State}
    (h : t = lenUpdate k (timingStart k (headForm k (dropFence (.station k) { s with unfPending := s.unfPending.filter (· != k) })))) :
    UnitId.station k ∉ t.fenced ∧ k ∉ t.unfPending := by
  have ht : Touches 0x18000040000000001004 (dropFence (.station k) { s with unfPending := s.unfPending.filter (· != k) }) t := by
    rw [h]
    exact lenUpdate_touches rfl (timingStart_touches rfl (headForm_touches rfl (.refl _ _)))
  rw [ht.fenced rfl, ht.unfPending rfl]
  simp [dropFence]

/-! ### The commands -/

/-- FENCE_REQ fences every unit of a page of plain units (R493). -/
theorem fenced_fencePage {d p : Nat} {u : UnitId} {s : State} (hp : p ∈ [0x31, 0x39, 0x68, 0x69]) (hu : u ∈ pageUnits d p) :
    u ∈ (fencePage d p s).fenced := by
  unfold fencePage
  exact (mem_fenced_fenceUnits (pageUnits_fenceAlone hp)).mpr (.inl hu)

theorem evtForce_sets {a : Access} {d p : Nat} {v : Word} {s : State} (hp : p < 256) (h : Reaches a d p 0x18 s) :
    ∃ t, exec (.evtForce a d p v) s = .next t ∧
      word (R.HDR.EVT_STAT_EVT d p).addr t = word (R.HDR.EVT_STAT_EVT d p).addr s ||| v := by
  refine ⟨_, exec_evtForce hp h, (word_evtMask_same d p _ _ (notPba_addr hp (by decide))).trans ?_⟩
  rw [word_landWrite, BitVec.ofNat_toNat, BitVec.setWidth_eq]

theorem fltForce_records {a : Access} {d p src : Nat} {s : State} (hp : RecordsOnly p) (hc : faultClass p src = 1)
    (h : Reaches a d p 0x20 s) :
    ∃ t, exec (.fltForce a d p (BitVec.ofNat 32 (2 ^ src))) s = .next t ∧
      t = recordFault d p src true (bump (R.DIE.FORCE_CNT_COUNT d) (landWrite a.rq d s)) := by
  have hlt : p < 256 := by rcases hp.cases with rfl | rfl | rfl | rfl | rfl | rfl | rfl <;> decide
  exact ⟨_, exec_fltForce hlt h, forceWord_recordsOnly hp hc _⟩

theorem pageEnable_sets {a : Access} {d p : Nat} {v : Word} {s : State} (hp : p < 256) (h : Reaches a d p 8 s)
    (hq : startsNothing p = true)
    (h3 : (testBit v.toNat 3 || decide (pageDomain p ≤ 1)) = flag (R.HDR.PAGE_CTL_PWR_REQ d p) s)
    (h1 : testBit v.toNat 1 = false) (h2 : testBit v.toNat 2 = false) (h4 : testBit v.toNat 4 = false) :
    ∃ t, exec (.pageEnable a d p v) s = .next t ∧ flag (R.HDR.PAGE_CTL_EN d p) t = testBit v.toNat 0 := by
  refine ⟨_, exec_pageEnable hp h, ?_⟩
  rw [pageCtlWrite_quiet (bar0_of_reaches_pageCtl h) (.inl hq), flag_landWrite, h1, h2, h3, h4, bne_self_eq_false]
  exact flag_pageCtlStored_en d p v _

theorem pageSrst_resets {a : Access} {d p o : Nat} {v : Word} {s : State} (hp : ResetsPlainly p) (h : Reaches a d p 8 s)
    (h2 : testBit v.toNat 2 = false) (h4 : testBit v.toNat 4 = false)
    (h3 : testBit v.toNat 3 = flag (R.HDR.PAGE_CTL_PWR_REQ d p) s) (hlow : p ≤ 0x32 → testBit v.toNat 3 = true)
    (hlo : 0x40 ≤ o) (ho : o < 0x1000) :
    ∃ t, exec (.pageSrst a d p v) s = .next t ∧ word (Layout.addr d p o) t = resetWord (Layout.addr d p o) := by
  obtain ⟨hlt, hq, hdom⟩ := hp.page
  have hpwr : (testBit v.toNat 3 || decide (pageDomain p ≤ 1)) = flag (R.HDR.PAGE_CTL_PWR_REQ d p) s := by
    rw [← h3]
    rcases Nat.lt_or_ge 0x32 p with hhi | hle
    · rw [decide_eq_false (by have := hdom hhi; omega), Bool.or_false]
    · rw [hlow hle, Bool.true_or]
  have b1 : testBit (v ||| 2).toNat 1 = true := (or_bit v 2 1).trans (Bool.or_true _)
  have b2 : testBit (v ||| 2).toNat 2 = false := (or_bit v 2 2).trans ((Bool.or_false _).trans h2)
  have b3 : testBit (v ||| 2).toNat 3 = testBit v.toNat 3 := (or_bit v 2 3).trans (Bool.or_false _)
  have b4 : testBit (v ||| 2).toNat 4 = false := (or_bit v 2 4).trans ((Bool.or_false _).trans h4)
  refine ⟨_, exec_pageSrst hlt h, ?_⟩
  rw [pageCtlWrite_quiet (bar0_of_reaches_pageCtl h) (.inl hq), flag_landWrite, b1, b2, b3, b4, hpwr, bne_self_eq_false]
  exact pageSrst_plain hp _ hlo ho

theorem fenceReq_fences {a : Access} {d p : Nat} {v : Word} {s : State} (hp : p ∈ [0x31, 0x39, 0x68, 0x69])
    (h : Reaches a d p 8 s) (h1 : testBit v.toNat 1 = false) (h4 : testBit v.toNat 4 = false) :
    ∃ t, exec (.fenceReq a d p v) s = .next t ∧ ∀ u ∈ pageUnits d p, u ∈ t.fenced := by
  have hpage : p < 256 ∧ startsNothing p = true := by fin_cases hp <;> decide
  have b1 : testBit (v ||| 4).toNat 1 = false := (or_bit v 4 1).trans ((Bool.or_false _).trans h1)
  have b2 : testBit (v ||| 4).toNat 2 = true := (or_bit v 4 2).trans (Bool.or_true _)
  have b4 : testBit (v ||| 4).toNat 4 = false := (or_bit v 4 4).trans ((Bool.or_false _).trans h4)
  refine ⟨_, exec_fenceReq hpage.1 h, fun u hu => ?_⟩
  rw [pageCtlWrite_quiet (bar0_of_reaches_pageCtl h) (.inl hpage.2), onlyIf_powerLook_fenced, b1, b2, b4]
  exact fenced_fencePage hp hu

theorem unfence_unfences {a : Access} {d p : Nat} {v : Word} {s : State} (hp : p ∈ [0x39, 0x68, 0x69])
    (h : Reaches a d p 8 s) (h1 : testBit v.toNat 1 = false) (h2 : testBit v.toNat 2 = false)
    (hf : faultsHold d p s = false) :
    ∃ t, exec (.unfence a d p v) s = .next t ∧ ∀ u, u ∈ t.fenced ↔ u ∈ s.fenced ∧ u ∉ pageUnits d p := by
  have hpage : p < 256 ∧ startsNothing p = true := by fin_cases hp <;> decide
  have b1 : testBit (v ||| 16).toNat 1 = false := (or_bit v 16 1).trans ((Bool.or_false _).trans h1)
  have b2 : testBit (v ||| 16).toNat 2 = false := (or_bit v 16 2).trans ((Bool.or_false _).trans h2)
  have b4 : testBit (v ||| 16).toNat 4 = true := (or_bit v 16 4).trans (Bool.or_true _)
  refine ⟨_, exec_unfence hpage.1 h, fun u => ?_⟩
  rw [pageCtlWrite_quiet (bar0_of_reaches_pageCtl h) (.inl hpage.2), onlyIf_powerLook_fenced, b1, b2, b4]
  have hf' : faultsHold d p (pageCtlStored d p (v ||| 16) (landWrite a.rq d s)) = false :=
    (faultsHold_pageCtlStored hpage.1).trans hf
  refine (mem_fenced_unfencePage hp hf').trans ?_
  rw [(pageCtlStored_touches d p (v ||| 16) (landWrite a.rq d s)).fenced rfl]
  exact Iff.rfl

theorem nonePrepared_pageCtlStored {d p : Nat} {v : Word} {s : State} (hp : p < 256) (h : NonePrepared d s) :
    NonePrepared d (pageCtlStored d p v s) := by
  intro i hi
  have hne : (R.TXN.TXS_STAT_STATE d i).addr ≠ Layout.addr d p 8 :=
    addr_ne (o := 0x50) (by omega) (by decide) hp (by decide) (.inr (.inr (by decide)))
  unfold rd
  rw [word_pageCtlStored_ne hne]
  exact h i hi

theorem pagePresent_pageCtlStored (d p e q : Nat) (v : Word) (s : State) :
    pagePresent e q (pageCtlStored d p v s) = pagePresent e q s := by
  have hkept := pageCtlStored_touches d p v s
  have hdies : (pageCtlStored d p v s).dies = s.dies :=
    congrArg Part.dies (hkept.part rfl)
  unfold pagePresent
  rw [hdies, hkept.straps rfl]

theorem pwrReq_begins {a : Access} {d p : Nat} {v : Word} {s : State} (hp : p < 256) (h : Reaches a d p 8 s)
    (hdom : 3 ≤ pageDomain p) (hoff : (domainOf d (pageDomain p) s).st = 0)
    (hfail : (domainOf d (pageDomain p) s).failed = false)
    (hneeds : (domNeeds d (pageDomain p)).all (fun e => domSt d e s == 2) = true) (hnone : NonePrepared d s)
    (hpwr : flag (R.HDR.PAGE_CTL_PWR_REQ d p) s = false) (h0 : testBit v.toNat 0 = flag (R.HDR.PAGE_CTL_EN d p) s)
    (h1 : testBit v.toNat 1 = false) (h2 : testBit v.toNat 2 = false) (h3 : testBit v.toNat 3 = true)
    (h4 : testBit v.toNat 4 = false) :
    ∃ t, exec (.pwrReq a d p v) s = .next t ∧ domainOf d (pageDomain p) t = { st := 1, since := s.now } := by
  have hkept := pageCtlStored_touches d p v (landWrite a.rq d s)
  have hdoms : ∀ e, domainOf d e (pageCtlStored d p v (landWrite a.rq d s)) = domainOf d e s :=
    fun e => domainOf_congr d e (hkept.domains rfl)
  have hnone' : NonePrepared d (pageCtlStored d p v (landWrite a.rq d s)) :=
    nonePrepared_pageCtlStored (s := landWrite a.rq d s) hp hnone
  have hask : flag (R.HDR.PAGE_CTL_PWR_REQ d p) (pageCtlStored d p v (landWrite a.rq d s)) = true := by
    rw [flag_pageCtlStored_pwr, h3, Bool.true_or]
  have hpres : pagePresent d p (pageCtlStored d p v (landWrite a.rq d s)) = true := by
    obtain ⟨-, -, -, hpres, -⟩ := id h
    exact (pagePresent_pageCtlStored d p d p v _).trans hpres
  refine ⟨_, exec_pwrReq hp h, ?_⟩
  have hquiet := pageCtlWrite_quiet (s := landWrite a.rq d s) (bar0_of_reaches_pageCtl h) (.inr h0)
  rw [hquiet, flag_landWrite, h1, h2, h3, h4, hpwr]
  refine (domainOf_powerLook_begins hnone' hdom (pageDomain_lt hp) (domWanted_of_asks hp hpres hdom hask) ?_ ?_ ?_).trans ?_
  · exact (congrArg Domain.st (hdoms _)).trans hoff
  · exact (congrArg Domain.failed (hdoms _)).trans hfail
  · unfold domSt at hneeds ⊢
    simpa only [hdoms] using hneeds
  · rw [hkept.now rfl]
    rfl

/-- Settles O14: each command's form of the PAGE_CTL or force word is judged on the state with the word stored. -/
theorem pageHeaderCommandsAct : Obligations.PageHeaderCommandsAct := by
  unfold Obligations.PageHeaderCommandsAct
  refine ⟨?_, ?_, ?_, ?_, ?_, ?_, ?_, ?_⟩
  · exact fun a d p v s hp h => evtForce_sets hp h
  · exact fun a d p src s hp hc h => fltForce_records hp hc h
  · exact fun a d p v s hp h hq h3 h1 h2 h4 => pageEnable_sets hp h hq h3 h1 h2 h4
  · exact fun a d p o v s hp h h2 h4 h3 hlow hlo ho => pageSrst_resets hp h h2 h4 h3 hlow hlo ho
  · exact fun a d p v s hp h h1 h4 => fenceReq_fences hp h h1 h4
  · exact fun a d p v s hp h h1 h2 hf => unfence_unfences hp h h1 h2 hf
  · exact fun a d p v s hp h hdom hoff hfail hneeds hnone hpwr h0 h1 h2 h3 h4 =>
      pwrReq_begins hp h hdom hoff hfail hneeds hnone hpwr h0 h1 h2 h3 h4
  · exact fun k s hk hp hlane => ⟨_, execStationUnfenceApply_lane hk hp hlane, station_unfenced rfl⟩

end Sys2Proof.Machine
end

section
/-! PROOFS. Hardware transactions on one die (R48 to R55). -/

namespace Sys2Proof.Machine

/-! ### The registers of a staging slot -/

theorem blockWord_slot (d : Nat) {i o : Nat} (hi : i < 8) (h : 0x40 ≤ o ∧ o < 0x1000) : BlockWord (Layout.addr d (2 + i) o) :=
  blockWord_addr (by omega) h.2 (.inr ⟨by omega, by omega, by omega, h.1⟩)

/-- Two words of one page. -/
theorem addr_ne_offset {d p o o' : Nat} (h : o ≠ o') : Layout.addr d p o ≠ Layout.addr d p o' := by
  unfold Layout.addr
  omega

/-- The pages of a die stand in their order. -/
theorem addr_lt_of_page_lt {d p o p' o' : Nat} (hp : p < p') (ho : o < 0x1000) : Layout.addr d p o < Layout.addr d p' o' := by
  unfold Layout.addr
  omega

theorem bitsOf_or_low {v c : Word} {lsb : Nat} (w : Nat) (hc : c.toNat < 2 ^ lsb) :
    bitsOf (v ||| c).toNat lsb w = bitsOf v.toNat lsb w := by
  unfold bitsOf
  rw [BitVec.toNat_or, Nat.or_div_two_pow, Nat.div_eq_of_lt hc, Nat.or_zero]

/-- The state with STATE, REASON and BAD of a slot written, as its checks or its rejection leave them (R50). -/
def slotShown (d i st reason bad : Nat) (s : State) : State :=
  wr (R.TXN.TXS_STAT_BAD d i) bad (wr (R.TXN.TXS_STAT_REASON d i) reason (wr (R.TXN.TXS_STAT_STATE d i) st s))

theorem rd_slotShown_state (d i st reason bad : Nat) (s : State) :
    rd (R.TXN.TXS_STAT_STATE d i) (slotShown d i st reason bad s) = st % 8 := by
  unfold slotShown
  rw [rd_wr_apart (l := R.TXN.TXS_STAT_STATE d i) (m := R.TXN.TXS_STAT_BAD d i) _ _ rfl (show 8 + 9 ≤ 32 by decide)
      (.inl (show 0 + 3 ≤ 8 by decide)),
    rd_wr_apart (l := R.TXN.TXS_STAT_STATE d i) (m := R.TXN.TXS_STAT_REASON d i) _ _ rfl (show 4 + 4 ≤ 32 by decide)
      (.inl (show 0 + 3 ≤ 4 by decide)),
    rd_wr_same _ _ (show 0 + 3 ≤ 32 by decide)]
  rfl

theorem rd_slotShown_reason (d i st reason bad : Nat) (s : State) :
    rd (R.TXN.TXS_STAT_REASON d i) (slotShown d i st reason bad s) = reason % 16 := by
  unfold slotShown
  rw [rd_wr_apart (l := R.TXN.TXS_STAT_REASON d i) (m := R.TXN.TXS_STAT_BAD d i) _ _ rfl (show 8 + 9 ≤ 32 by decide)
      (.inl (show 4 + 4 ≤ 8 by decide)),
    rd_wr_same _ _ (show 4 + 4 ≤ 32 by decide)]
  rfl

theorem rd_slotShown_bad (d i st reason bad : Nat) (s : State) :
    rd (R.TXN.TXS_STAT_BAD d i) (slotShown d i st reason bad s) = bad % 512 :=
  rd_wr_same _ _ (show 8 + 9 ≤ 32 by decide)

theorem rd_slotShown_xdie (d i st reason bad : Nat) (s : State) :
    rd (R.TXN.TXS_STAT_XDIE d i) (slotShown d i st reason bad s) = rd (R.TXN.TXS_STAT_XDIE d i) s := by
  unfold slotShown
  rw [rd_wr_apart (l := R.TXN.TXS_STAT_XDIE d i) (m := R.TXN.TXS_STAT_BAD d i) _ _ rfl (show 8 + 9 ≤ 32 by decide)
      (.inr (show 8 + 9 ≤ 17 by decide)),
    rd_wr_apart (l := R.TXN.TXS_STAT_XDIE d i) (m := R.TXN.TXS_STAT_REASON d i) _ _ rfl (show 4 + 4 ≤ 32 by decide)
      (.inr (show 4 + 4 ≤ 17 by decide)),
    rd_wr_apart (l := R.TXN.TXS_STAT_XDIE d i) (m := R.TXN.TXS_STAT_STATE d i) _ _ rfl (show 0 + 3 ≤ 32 by decide)
      (.inr (show 0 + 3 ≤ 17 by decide))]

theorem word_slotShown_ne {d i st reason bad x : Nat} {s : State} (h : x ≠ Layout.addr d (2 + i) 0x50) :
    word x (slotShown d i st reason bad s) = word x s :=
  (word_wr_ne _ _ h).trans ((word_wr_ne _ _ h).trans (word_wr_ne _ _ h))

theorem slotShown_regs (d i st reason bad : Nat) (s : State) : ∃ g, slotShown d i st reason bad s = { s with regs := g } := by
  have hwr : ∀ l v (t : State), ∃ g, wr l v t = { t with regs := g } := fun _ _ _ => ⟨_, rfl⟩
  unfold slotShown
  obtain ⟨g1, h1⟩ := hwr (R.TXN.TXS_STAT_STATE d i) st s
  obtain ⟨g2, h2⟩ := hwr (R.TXN.TXS_STAT_REASON d i) reason { s with regs := g1 }
  obtain ⟨g3, h3⟩ := hwr (R.TXN.TXS_STAT_BAD d i) bad { s with regs := g2 }
  exact ⟨g3, by rw [h1, h2, h3]⟩

/-! ### A rejection (R50) -/

/-- The count of the rejected outputs of auto-registration lies above the slots' pages. -/
theorem ne_aregRejects {d i o : Nat} (l : Nat) (hi : i < 8) (ho : o < 0x1000) :
    Layout.addr d (2 + i) o ≠ (R.PIO.AREG_CNT_REJECTS d l).addr :=
  Nat.ne_of_lt (addr_lt_of_page_lt (p' := 0x71) (o' := 0x478 + 0x20 * l) (by omega) ho)

/-- Beside the time of its end, a rejection changes of the slot's registers only what the slot shows. -/
theorem word_slotReject {d i o reason bad : Nat} {s : State} (hi : i < 8) (ho : 0x40 ≤ o ∧ o < 0x1000) (htime : o ≠ 0x58) :
    word (Layout.addr d (2 + i) o) (slotReject d i reason bad s) =
      word (Layout.addr d (2 + i) o) (slotShown d i 3 reason bad s) := by
  have hb := blockWord_slot d hi ho
  have hended : ∀ t, word (Layout.addr d (2 + i) o) (evt d (2 + i) 1 (wr (R.TXN.TXS_TIME_STIME d i) (stime d s) t)) =
      word (Layout.addr d (2 + i) o) t := fun t =>
    (evt_block hb (by omega)).trans (word_wr_ne _ _ (addr_ne_offset htime))
  have hdef := Eq.refl @slotReject
  conv_rhs at hdef => delta slotReject
  rw [hdef]
  dsimp only
  unfold slotShown
  split
  · exact hended _
  · rw [evt_block hb (by decide), recordFault_block hb (by decide), word_bump_ne _ (ne_aregRejects _ hi ho.2)]
    exact hended _

/-- A field of the slot's status reads after a rejection as the rejection shows it. -/
theorem rd_slotReject_stat {d i reason bad : Nat} {l : Loc} {s : State} (hi : i < 8) (hl : l.addr = Layout.addr d (2 + i) 0x50) :
    rd l (slotReject d i reason bad s) = rd l (slotShown d i 3 reason bad s) := by
  unfold rd
  rw [hl, word_slotReject hi (by decide) (by decide)]

theorem rd_slotReject_state {d i reason bad : Nat} {s : State} (hi : i < 8) :
    rd (R.TXN.TXS_STAT_STATE d i) (slotReject d i reason bad s) = 3 :=
  (rd_slotReject_stat hi rfl).trans (rd_slotShown_state ..)

theorem rd_slotReject_reason {d i reason bad : Nat} {s : State} (hi : i < 8) (hr : reason < 16) :
    rd (R.TXN.TXS_STAT_REASON d i) (slotReject d i reason bad s) = reason :=
  (rd_slotReject_stat hi rfl).trans ((rd_slotShown_reason ..).trans (Nat.mod_eq_of_lt hr))

theorem rd_slotReject_bad {d i reason bad : Nat} {s : State} (hi : i < 8) (hb : bad < 512) :
    rd (R.TXN.TXS_STAT_BAD d i) (slotReject d i reason bad s) = bad :=
  (rd_slotReject_stat hi rfl).trans ((rd_slotShown_bad ..).trans (Nat.mod_eq_of_lt hb))

/-! ### The checks (R50) -/

theorem condReason_le (d i : Nat) (s : State) : condReason d i s ≤ 11 := by
  unfold condReason
  dsimp only
  repeat' split
  all_goals decide

theorem execTxnChecksDone_checking {d i : Nat} {s : State} (hd : d < s.dies) (hi : i < 8)
    (hst : rd (R.TXN.TXS_STAT_STATE d i) s = 4) :
    execTxnChecksDone d i s =
      if condReason d i s ≠ 0 then .next (slotReject d i (condReason d i s) 0 s) else .next (slotJudge d i s) := by
  unfold execTxnChecksDone
  rw [if_neg (by omega)]

theorem slotJudge_prepared {d i : Nat} {s : State} (h : badEntry d i (flag (R.TXN.TXS_STAT_VIEW d i) s) s = none) :
    slotJudge d i s = slotShown d i 1 0 0 s := by
  unfold slotJudge
  rw [h]
  rfl

theorem slotJudge_rejected {d i n r x : Nat} {s : State}
    (h : badEntry d i (flag (R.TXN.TXS_STAT_VIEW d i) s) s = some (n, r, x)) :
    slotJudge d i s = slotReject d i r n (if r = 3 then privViolation (R.TXN.TXS_CTL_ARM d i).addr s else s) := by
  unfold slotJudge
  rw [h]

theorem txnChecksDone_prepares {d i : Nat} {s : State} (hd : d < s.dies) (hi : i < 8)
    (hst : rd (R.TXN.TXS_STAT_STATE d i) s = 4) (hc : condReason d i s = 0)
    (hbad : badEntry d i (flag (R.TXN.TXS_STAT_VIEW d i) s) s = none) :
    ∃ t, exec (.txnChecksDone d i) s = .next t ∧ rd (R.TXN.TXS_STAT_STATE d i) t = 1 ∧
      rd (R.TXN.TXS_STAT_REASON d i) t = 0 ∧ t = { s with regs := t.regs } := by
  have honly : slotShown d i 1 0 0 s = { s with regs := (slotShown d i 1 0 0 s).regs } := by
    obtain ⟨g, hg⟩ := slotShown_regs d i 1 0 0 s
    rw [hg]
  refine ⟨slotShown d i 1 0 0 s, ?_, rd_slotShown_state .., rd_slotShown_reason .., honly⟩
  refine Eq.trans (b := execTxnChecksDone d i s) rfl ?_
  rw [execTxnChecksDone_checking hd hi hst, if_neg (by simp [hc]), slotJudge_prepared hbad]

theorem txnChecksDone_rejects_condition {d i : Nat} {s : State} (hd : d < s.dies) (hi : i < 8)
    (hst : rd (R.TXN.TXS_STAT_STATE d i) s = 4) (hc : condReason d i s ≠ 0) :
    ∃ t, exec (.txnChecksDone d i) s = .next t ∧ rd (R.TXN.TXS_STAT_STATE d i) t = 3 ∧
      rd (R.TXN.TXS_STAT_REASON d i) t = condReason d i s := by
  have hle := condReason_le d i s
  refine ⟨slotReject d i (condReason d i s) 0 s, ?_, rd_slotReject_state hi, rd_slotReject_reason hi (by omega)⟩
  refine Eq.trans (b := execTxnChecksDone d i s) rfl ?_
  rw [execTxnChecksDone_checking hd hi hst, if_pos hc]

theorem txnChecksDone_rejects_entry {d i n r x : Nat} {s : State} (hd : d < s.dies) (hi : i < 8)
    (hst : rd (R.TXN.TXS_STAT_STATE d i) s = 4) (hc : condReason d i s = 0)
    (hbad : badEntry d i (flag (R.TXN.TXS_STAT_VIEW d i) s) s = some (n, r, x)) (hn : n < 512) (hr : r < 16) :
    ∃ t, exec (.txnChecksDone d i) s = .next t ∧ rd (R.TXN.TXS_STAT_STATE d i) t = 3 ∧
      rd (R.TXN.TXS_STAT_REASON d i) t = r ∧ rd (R.TXN.TXS_STAT_BAD d i) t = n := by
  have hexec : exec (.txnChecksDone d i) s = .next (slotReject d i r n
      (if r = 3 then privViolation (R.TXN.TXS_CTL_ARM d i).addr s else s)) := by
    refine Eq.trans (b := execTxnChecksDone d i s) rfl ?_
    rw [execTxnChecksDone_checking hd hi hst, if_neg (by simp [hc]), slotJudge_rejected hbad]
  exact ⟨_, hexec, rd_slotReject_state hi, rd_slotReject_reason hi hr, rd_slotReject_bad hi hn⟩

/-! ### A write of TXS_CTL (R48) -/

/-- The state with the condition of a slot written. -/
def condStored (d i w : Nat) (s : State) : State :=
  wr (R.TXN.TXS_CTL_STATION d i) (bitsOf w 12 1) (wr (R.TXN.TXS_CTL_COND d i) (bitsOf w 8 3) s)

theorem word_condStored_ne {d i w x : Nat} {s : State} (h : x ≠ Layout.addr d (2 + i) 0x40) :
    word x (condStored d i w s) = word x s :=
  (word_wr_ne _ _ h).trans (word_wr_ne _ _ h)

theorem rd_condStored_ne {d i w : Nat} {l : Loc} {s : State} (h : l.addr ≠ Layout.addr d (2 + i) 0x40) :
    rd l (condStored d i w s) = rd l s := by
  unfold rd
  rw [word_condStored_ne h]

theorem rd_condStored_cond (d i w : Nat) (s : State) : rd (R.TXN.TXS_CTL_COND d i) (condStored d i w s) = bitsOf w 8 3 := by
  unfold condStored
  rw [rd_wr_apart (l := R.TXN.TXS_CTL_COND d i) (m := R.TXN.TXS_CTL_STATION d i) _ _ rfl (show 12 + 1 ≤ 32 by decide)
      (.inl (show 8 + 3 ≤ 12 by decide)), rd_wr_same _ _ (show 8 + 3 ≤ 32 by decide)]
  exact Nat.mod_mod _ _

theorem rd_condStored_station (d i w : Nat) (s : State) :
    rd (R.TXN.TXS_CTL_STATION d i) (condStored d i w s) = bitsOf w 12 1 :=
  (rd_wr_same _ _ (show 12 + 1 ≤ 32 by decide)).trans (Nat.mod_mod _ _)

/-- A slot that is neither checking nor prepared takes the condition, and then CLEAR and ARM. -/
theorem slotCtl_free {d i w : Nat} {bar2 : Bool} {s : State} (h : slotBusy d i s = false) :
    slotCtl d i bar2 w s = onlyIf (testBit w 0) (slotArm d i bar2 none) (onlyIf (testBit w 2) (slotClear d i) (condStored d i w s)) := by
  unfold slotCtl
  dsimp only
  rw [h]
  rfl

/-- A checking or prepared slot keeps its condition and obeys ABORT alone. -/
theorem slotCtl_abort {d i w : Nat} {bar2 : Bool} {s : State} (h : slotBusy d i s = true) (h0 : testBit w 0 = false)
    (h1 : testBit w 1 = true) (h2 : testBit w 2 = false) (hcond : bitsOf w 8 3 = rd (R.TXN.TXS_CTL_COND d i) s)
    (hsta : bitsOf w 12 1 = rd (R.TXN.TXS_CTL_STATION d i) s) :
    slotCtl d i bar2 w s = slotAbort d i s := by
  unfold slotCtl
  dsimp only
  rw [h, h0, h1, h2, hcond, hsta, bne_self_eq_false, bne_self_eq_false]
  simp only [Bool.or_false, Bool.false_eq_true, if_true, if_false]

theorem slotAbort_rejects {d i : Nat} {s : State} (h : slotBusy d i s = true) (hdec : slotDecided d i s = false) (l : Loc) :
    rd l (slotAbort d i s) = rd l (slotReject d i 8 0 s) := by
  have hmsgs : ∀ (c : Bool) (m : List Msg) (t : State), rd l (if c then { t with msgs := m } else t) = rd l t := by
    intro c m t
    cases c <;> rfl
  unfold slotAbort
  rw [h, hdec, if_neg (by decide)]
  exact hmsgs ..

/-! ### ARM (R48, R59) -/

theorem lastTsn_ne_slot {d i o : Nat} (hi : i < 8) (ho : o < 0x1000) : Layout.addr 0 1 0x50 ≠ Layout.addr d (2 + i) o :=
  addr_ne (by decide) (by decide) (by omega) ho (.inr (.inl (by omega)))

theorem rd_nextTsn_ne {l : Loc} {s : State} (h : l.addr ≠ Layout.addr 0 1 0x50) : rd l (nextTsn s).2 = rd l s := rd_wr_ne _ _ h

theorem rd_nextTsn_last (s : State) : rd (R.CTRL.TSN_LAST_TSN 0) (nextTsn s).2 = (nextTsn s).1 :=
  (rd_wr_same _ _ (show 0 + 32 ≤ 32 by decide)).trans (Nat.mod_mod _ _)

/-- A word that ARM does not write: its slot's status and TSN, and the last TSN of D0. -/
theorem rd_slotArm_ne {d i : Nat} {bar2 : Bool} {areg : Option Nat} {l : Loc} {s : State}
    (hstat : l.addr ≠ Layout.addr d (2 + i) 0x50) (htsn : l.addr ≠ Layout.addr d (2 + i) 0x54)
    (hlast : l.addr ≠ Layout.addr 0 1 0x50) : rd l (slotArm d i bar2 areg s) = rd l s := by
  unfold slotArm
  dsimp only
  rw [rd_setTxn, rd_wr_ne (m := R.TXN.TXS_STAT_VIEW d i) _ _ hstat, rd_wr_ne (m := R.TXN.TXS_STAT_XDIE d i) _ _ hstat,
    rd_wr_ne (m := R.TXN.TXS_STAT_STATE d i) _ _ hstat, rd_wr_ne (m := R.TXN.TXS_TSN_TSN d i) _ _ htsn, rd_nextTsn_ne hlast]

theorem rd_slotArm_state (d i : Nat) (bar2 : Bool) (areg : Option Nat) (s : State) :
    rd (R.TXN.TXS_STAT_STATE d i) (slotArm d i bar2 areg s) = 4 := by
  unfold slotArm
  dsimp only
  rw [rd_setTxn, rd_wr_apart (l := R.TXN.TXS_STAT_STATE d i) (m := R.TXN.TXS_STAT_VIEW d i) _ _ rfl
      (show 18 + 1 ≤ 32 by decide) (.inl (show 0 + 3 ≤ 18 by decide)),
    rd_wr_apart (l := R.TXN.TXS_STAT_STATE d i) (m := R.TXN.TXS_STAT_XDIE d i) _ _ rfl (show 17 + 1 ≤ 32 by decide)
      (.inl (show 0 + 3 ≤ 17 by decide)),
    rd_wr_same _ _ (show 0 + 3 ≤ 32 by decide)]
  rfl

theorem flag_slotArm_xdie (d i : Nat) (bar2 : Bool) (areg : Option Nat) (s : State) :
    flag (R.TXN.TXS_STAT_XDIE d i) (slotArm d i bar2 areg s) = false := by
  unfold slotArm flag
  dsimp only
  rw [rd_setTxn, rd_wr_apart (l := R.TXN.TXS_STAT_XDIE d i) (m := R.TXN.TXS_STAT_VIEW d i) _ _ rfl
      (show 18 + 1 ≤ 32 by decide) (.inl (show 17 + 1 ≤ 18 by decide)),
    rd_wr_same _ _ (show 17 + 1 ≤ 32 by decide)]
  rfl

theorem flag_slotArm_view (d i : Nat) (bar2 : Bool) (areg : Option Nat) (s : State) :
    flag (R.TXN.TXS_STAT_VIEW d i) (slotArm d i bar2 areg s) = bar2 := by
  unfold slotArm flag
  dsimp only
  rw [rd_setTxn, rd_wr_same _ _ (show 18 + 1 ≤ 32 by decide)]
  exact b2n_mod_two bar2

/-- The slot shows the TSN that D0 assigned. -/
theorem rd_slotArm_tsn (d i : Nat) (bar2 : Bool) (areg : Option Nat) (s : State) :
    rd (R.TXN.TXS_TSN_TSN d i) (slotArm d i bar2 areg s) = (nextTsn s).1 := by
  have hne : (R.TXN.TXS_TSN_TSN d i).addr ≠ Layout.addr d (2 + i) 0x50 := addr_ne_offset (by decide : 0x54 ≠ 0x50)
  unfold slotArm
  dsimp only
  rw [rd_setTxn, rd_wr_ne (m := R.TXN.TXS_STAT_VIEW d i) _ _ hne, rd_wr_ne (m := R.TXN.TXS_STAT_XDIE d i) _ _ hne,
    rd_wr_ne (m := R.TXN.TXS_STAT_STATE d i) _ _ hne, rd_wr_same _ _ (show 0 + 32 ≤ 32 by decide)]
  exact Nat.mod_mod _ _

theorem rd_slotArm_last {d i : Nat} {bar2 : Bool} {areg : Option Nat} {s : State} (hi : i < 8) :
    rd (R.CTRL.TSN_LAST_TSN 0) (slotArm d i bar2 areg s) = (nextTsn s).1 := by
  have hne : ∀ o < 0x1000, (R.CTRL.TSN_LAST_TSN 0).addr ≠ Layout.addr d (2 + i) o := fun o ho => lastTsn_ne_slot hi ho
  unfold slotArm
  dsimp only
  rw [rd_setTxn, rd_wr_ne (m := R.TXN.TXS_STAT_VIEW d i) _ _ (hne 0x50 (by decide)),
    rd_wr_ne (m := R.TXN.TXS_STAT_XDIE d i) _ _ (hne 0x50 (by decide)),
    rd_wr_ne (m := R.TXN.TXS_STAT_STATE d i) _ _ (hne 0x50 (by decide)),
    rd_wr_ne (m := R.TXN.TXS_TSN_TSN d i) _ _ (hne 0x54 (by decide)), rd_nextTsn_last]

/-! ### The commands -/

theorem txnArm_checks {a : Access} {d i : Nat} {v : Word} {s : State} (hi : i < 8) (h : Reaches a d (2 + i) 0x40 s)
    (hfree : slotBusy d i s = false) (h2 : testBit v.toNat 2 = false) :
    ∃ t, exec (.txnArm a d i v) s = .next t ∧ rd (R.TXN.TXS_STAT_STATE d i) t = 4 ∧
      rd (R.TXN.TXS_TSN_TSN d i) t = (rd (R.CTRL.TSN_LAST_TSN 0) s + 1) % 4294967296 ∧
      rd (R.CTRL.TSN_LAST_TSN 0) t = (rd (R.CTRL.TSN_LAST_TSN 0) s + 1) % 4294967296 ∧
      rd (R.TXN.TXS_CTL_COND d i) t = bitsOf v.toNat 8 3 ∧ rd (R.TXN.TXS_CTL_STATION d i) t = bitsOf v.toNat 12 1 ∧
      flag (R.TXN.TXS_STAT_XDIE d i) t = false ∧ flag (R.TXN.TXS_STAT_VIEW d i) t = a.bar2 ∧
      txnOf d i t = { arg := slotArg d i s, areg := none } := by
  have b0 : testBit (v ||| 1).toNat 0 = true := (or_bit v 1 0).trans (Bool.or_true _)
  have b2 : testBit (v ||| 1).toNat 2 = false := (or_bit v 1 2).trans ((Bool.or_false _).trans h2)
  have hcond : bitsOf (v ||| 1).toNat 8 3 = bitsOf v.toNat 8 3 := bitsOf_or_low 3 (by decide)
  have hsta : bitsOf (v ||| 1).toNat 12 1 = bitsOf v.toNat 12 1 := bitsOf_or_low 1 (by decide)
  have hexec : exec (.txnArm a d i v) s =
      .next (slotArm d i a.bar2 none (condStored d i (v ||| 1).toNat (landWrite a.rq d s))) := by
    rw [exec_txnArm hi h, slotCtl_free (s := landWrite a.rq d s) hfree, b0, b2]
    rfl
  have hlast : (R.CTRL.TSN_LAST_TSN 0).addr ≠ Layout.addr d (2 + i) 0x40 := lastTsn_ne_slot hi (by decide)
  have htsn : (nextTsn (condStored d i (v ||| 1).toNat (landWrite a.rq d s))).1 =
      (rd (R.CTRL.TSN_LAST_TSN 0) s + 1) % 4294967296 := by
    unfold nextTsn
    rw [rd_condStored_ne hlast, rd_landWrite]
  have hkept : ∀ l : Loc, l.addr = Layout.addr d (2 + i) 0x40 → ∀ t,
      rd l (slotArm d i a.bar2 none t) = rd l t := fun l hl t =>
    rd_slotArm_ne (by rw [hl]; exact addr_ne_offset (by decide : 0x40 ≠ 0x50))
      (by rw [hl]; exact addr_ne_offset (by decide : 0x40 ≠ 0x54)) (by rw [hl]; exact (lastTsn_ne_slot hi (by decide)).symm)
  refine ⟨_, hexec, rd_slotArm_state .., (rd_slotArm_tsn ..).trans htsn, (rd_slotArm_last hi).trans htsn, ?_, ?_,
    flag_slotArm_xdie .., flag_slotArm_view .., ?_⟩
  · rw [hkept _ rfl, rd_condStored_cond, hcond]
  · rw [hkept _ rfl, rd_condStored_station, hsta]
  · refine (txnOf_setTxn _ _ _ _).trans ?_
    unfold slotArg
    rw [rd_condStored_ne (l := R.TXN.TXS_ARG0_ARG d i) (addr_ne_offset (by decide : 0x48 ≠ 0x40)),
      rd_condStored_ne (l := R.TXN.TXS_ARG1_ARG d i) (addr_ne_offset (by decide : 0x4C ≠ 0x40)), rd_landWrite, rd_landWrite]

theorem txnAbort_rejects {a : Access} {d i : Nat} {v : Word} {s : State} (hi : i < 8) (h : Reaches a d (2 + i) 0x40 s)
    (hbusy : slotBusy d i s = true) (hdec : slotDecided d i s = false) (h0 : testBit v.toNat 0 = false)
    (h2 : testBit v.toNat 2 = false) (hcond : bitsOf v.toNat 8 3 = rd (R.TXN.TXS_CTL_COND d i) s)
    (hsta : bitsOf v.toNat 12 1 = rd (R.TXN.TXS_CTL_STATION d i) s) :
    ∃ t, exec (.txnAbort a d i v) s = .next t ∧ rd (R.TXN.TXS_STAT_STATE d i) t = 3 ∧ rd (R.TXN.TXS_STAT_REASON d i) t = 8 := by
  have b0 : testBit (v ||| 2).toNat 0 = false := (or_bit v 2 0).trans ((Bool.or_false _).trans h0)
  have b1 : testBit (v ||| 2).toNat 1 = true := (or_bit v 2 1).trans (Bool.or_true _)
  have b2 : testBit (v ||| 2).toNat 2 = false := (or_bit v 2 2).trans ((Bool.or_false _).trans h2)
  have hexec : exec (.txnAbort a d i v) s = .next (slotAbort d i (landWrite a.rq d s)) := by
    rw [exec_txnAbort hi h, slotCtl_abort (s := landWrite a.rq d s) hbusy b0 b1 b2
      ((bitsOf_or_low 3 (by decide)).trans hcond) ((bitsOf_or_low 1 (by decide)).trans hsta)]
  refine ⟨_, hexec, ?_, ?_⟩
  · exact (slotAbort_rejects (s := landWrite a.rq d s) hbusy hdec _).trans (rd_slotReject_state hi)
  · exact (slotAbort_rejects (s := landWrite a.rq d s) hbusy hdec _).trans (rd_slotReject_reason hi (by decide))

/-- CLEAR leaves a slot that is neither checking nor prepared idle and without entries. -/
theorem slotClear_free {d i : Nat} {s : State} (h : slotBusy d i s = false) :
    rd (R.TXN.TXS_STAT_STATE d i) (slotClear d i s) = 0 ∧ rd (R.TXN.TXS_COUNT_COUNT d i) (slotClear d i s) = 0 := by
  unfold slotClear
  rw [h, if_neg (by decide), rd_wr_ne (l := R.TXN.TXS_STAT_STATE d i) (m := R.TXN.TXS_COUNT_COUNT d i) _ _
    (addr_ne_offset (by decide : 0x50 ≠ 0x44)), rd_wr_same _ _ (show 0 + 3 ≤ 32 by decide),
    rd_wr_same _ _ (show 0 + 9 ≤ 32 by decide)]
  exact ⟨rfl, rfl⟩

theorem slotEntries_of_empty {d i : Nat} {s : State} (h : rd (R.TXN.TXS_COUNT_COUNT d i) s = 0) : slotEntries d i s = [] := by
  unfold slotEntries
  rw [h]
  rfl

theorem txnClear_clears {a : Access} {d i : Nat} {v : Word} {s : State} (hi : i < 8) (h : Reaches a d (2 + i) 0x40 s)
    (hfree : slotBusy d i s = false) (h0 : testBit v.toNat 0 = false) :
    ∃ t, exec (.txnClear a d i v) s = .next t ∧ rd (R.TXN.TXS_STAT_STATE d i) t = 0 ∧ rd (R.TXN.TXS_COUNT_COUNT d i) t = 0 ∧
      slotEntries d i t = [] := by
  have b0 : testBit (v ||| 4).toNat 0 = false := (or_bit v 4 0).trans ((Bool.or_false _).trans h0)
  have b2 : testBit (v ||| 4).toNat 2 = true := (or_bit v 4 2).trans (Bool.or_true _)
  have hexec : exec (.txnClear a d i v) s = .next (slotClear d i (condStored d i (v ||| 4).toNat (landWrite a.rq d s))) := by
    rw [exec_txnClear hi h, slotCtl_free (s := landWrite a.rq d s) hfree, b0, b2]
    unfold onlyIf
    rw [if_neg (by decide), if_pos rfl]
  have hfree' : slotBusy d i (condStored d i (v ||| 4).toNat (landWrite a.rq d s)) = false := by
    unfold slotBusy at hfree ⊢
    rw [rd_condStored_ne (l := R.TXN.TXS_STAT_STATE d i) (addr_ne_offset (by decide : 0x50 ≠ 0x40)), rd_landWrite]
    exact hfree
  obtain ⟨hst, hcount⟩ := slotClear_free hfree'
  exact ⟨_, hexec, hst, hcount, slotEntries_of_empty hcount⟩

/-! ### The commit (R51 to R53) -/

/-- The end of a commit, once the entries have taken effect. -/
def slotCommitted (d i : Nat) (s : State) : State :=
  let s3 := setTxn d i { txnOf d i s with doneAt := some s.now } (wr (R.TXN.TXS_STAT_STATE d i) 2 s)
  let s4 := evt d (2 + i) 0 (wr (R.TXN.TXS_TIME_STIME d i) (stime d s3) s3)
  if flag (R.TXN.TXS_STAT_XDIE d i) s4 then { s4 with msgs := s4.msgs ++ [.report d] } else s4

theorem slotCommitted_shows {d i : Nat} {s : State} (hi : i < 8) :
    rd (R.TXN.TXS_STAT_STATE d i) (slotCommitted d i s) = 2 ∧ (txnOf d i (slotCommitted d i s)).doneAt = some s.now := by
  have hmsgs : ∀ (c : Bool) (m : List Msg) (t : State),
      rd (R.TXN.TXS_STAT_STATE d i) (if c then { t with msgs := m } else t) = rd (R.TXN.TXS_STAT_STATE d i) t ∧
      txnOf d i (if c then { t with msgs := m } else t) = txnOf d i t := by
    intro c m t
    cases c <;> exact ⟨rfl, rfl⟩
  unfold slotCommitted
  dsimp only
  rw [(hmsgs ..).1, (hmsgs ..).2]
  refine ⟨?_, ?_⟩
  · rw [rd_evt_block (blockWord_slot d hi (o := 0x50) (by decide)) (by omega),
      rd_wr_ne (l := R.TXN.TXS_STAT_STATE d i) (m := R.TXN.TXS_TIME_STIME d i) _ _ (addr_ne_offset (by decide : 0x50 ≠ 0x58)),
      rd_setTxn, rd_wr_same _ _ (show 0 + 3 ≤ 32 by decide)]
    rfl
  · have hevt : ∀ t, txnOf d i (evt d (2 + i) 0 t) = txnOf d i t := fun t =>
      txnOf_congr d i (Touches.txns (m := 0x1004) (evt_touches (Nat.and_self _) (.refl _ t)) rfl)
    have hwr : ∀ l v t, txnOf d i (wr l v t) = txnOf d i t := fun _ _ _ => rfl
    rw [hevt, hwr, txnOf_setTxn]

theorem slotCommitted_touches (d i : Nat) (s : State) : Touches 0x403004 s (slotCommitted d i s) := by
  have hstate : Touches 0x403004 s
      (setTxn d i { txnOf d i s with doneAt := some s.now } (wr (R.TXN.TXS_STAT_STATE d i) 2 s)) :=
    setTxn_touches rfl (wr_touches rfl (.refl _ s))
  unfold slotCommitted
  dsimp only
  generalize setTxn d i _ _ = t at hstate ⊢
  have hended : Touches 0x403004 s (evt d (2 + i) 0 (wr (R.TXN.TXS_TIME_STIME d i) (stime d t) t)) :=
    evt_touches rfl (wr_touches rfl hstate)
  exact touches_ite (Touches.upD_msgs rfl hended) hended

/-- A commit ends at the instant at which it began. -/
theorem slotCommit_committed (d i : Nat) (s : State) : ∃ t, slotCommit d i s = slotCommitted d i t ∧ t.now = s.now := by
  obtain ⟨t, ht⟩ : ∃ t, slotCommit d i s = slotCommitted d i t := ⟨_, rfl⟩
  refine ⟨t, ht, ?_⟩
  have hbegun : (slotCommit d i s).now = s.now := (slotCommit_touches (Nat.and_self _) (.refl _ s)).now rfl
  have hended : (slotCommitted d i t).now = t.now := (slotCommitted_touches d i t).now rfl
  rw [← hbegun, ht, hended]

theorem txnCommit_commits {d i : Nat} {s : State} (hd : d < s.dies) (hi : i < 8)
    (hst : rd (R.TXN.TXS_STAT_STATE d i) s = 1) (hdue : slotDue d i s = true) :
    ∃ t, exec (.txnCommit d i) s = .next t ∧ t = slotCommit d i s ∧ rd (R.TXN.TXS_STAT_STATE d i) t = 2 ∧
      (txnOf d i t).doneAt = some s.now := by
  have hexec : exec (.txnCommit d i) s = .next (slotCommit d i s) := by
    refine Eq.trans (b := execTxnCommit d i s) rfl ?_
    unfold execTxnCommit
    rw [if_neg (by simp [hd, hi, hst, hdue])]
  obtain ⟨t, ht, hnow⟩ := slotCommit_committed d i s
  obtain ⟨hcommitted, hdone⟩ := slotCommitted_shows (d := d) (s := t) hi
  rw [← ht] at hcommitted hdone
  exact ⟨_, hexec, rfl, hcommitted, hnow ▸ hdone⟩

/-- Settles O16: each command runs one operation of its slot, whose registers are then read back. -/
theorem stagingSlotCommandsAct : Obligations.StagingSlotCommandsAct := by
  unfold Obligations.StagingSlotCommandsAct
  refine ⟨?_, ?_, ?_, ?_, ?_, ?_, ?_⟩
  · exact fun a d i v s hi h hfree h2 => txnArm_checks hi h hfree h2
  · exact fun d i s hd hi hst hc hbad => txnChecksDone_prepares hd hi hst hc hbad
  · exact fun d i s hd hi hst hc => txnChecksDone_rejects_condition hd hi hst hc
  · exact fun d i n r x s hd hi hst hc hbad hn hr => txnChecksDone_rejects_entry hd hi hst hc hbad hn hr
  · exact fun a d i v s hi h hbusy hdec h0 h2 hcond hsta => txnAbort_rejects hi h hbusy hdec h0 h2 hcond hsta
  · exact fun a d i v s hi h hfree h0 => txnClear_clears hi h hfree h0
  · exact fun d i s hd hi hst hdue => txnCommit_commits hd hi hst hdue

end Sys2Proof.Machine
end

section
/-! PROOFS. Transactions across dies (R56 to R58). -/

namespace Sys2Proof.Machine

/-! ### The messages on their way -/

/-- The state with other messages on their way. -/
theorem rd_withMsgs (l : Loc) (m : List Msg) (s : State) : rd l { s with msgs := m } = rd l s := rfl

theorem takeMsg_some {p : Msg → Bool} {m : Msg} {s : State} (h : s.msgs.find? p = some m) :
    takeMsg p s = some (m, { s with msgs := s.msgs.erase m }) := by
  unfold takeMsg
  rw [h]

/-- To take a message that is no refusal leaves the refusals on their way. -/
theorem any_erase_of_not {f : Msg → Bool} {m : Msg} {l : List Msg} (hf : f m = false) : (l.erase m).any f = l.any f := by
  by_cases hm : m ∈ l
  · rw [(List.perm_cons_erase hm).any_eq, List.any_cons, hf, Bool.false_or]
  · rw [List.erase_of_not_mem hm]

/-! ### The state of the transaction in D0 -/

/-- The state with STATE, REASON and DIE of the transaction written, as its start and its end leave them. -/
def xtxnShown (st reason die : Nat) (s : State) : State :=
  wr (R.CTRL.XTXN_STAT_DIE 0) die (wr (R.CTRL.XTXN_STAT_REASON 0) reason (wr (R.CTRL.XTXN_STAT_STATE 0) st s))

theorem xtxnState_xtxnShown (st reason die : Nat) (s : State) : xtxnState (xtxnShown st reason die s) = st % 8 := by
  unfold xtxnState xtxnShown
  rw [rd_wr_apart (l := R.CTRL.XTXN_STAT_STATE 0) (m := R.CTRL.XTXN_STAT_DIE 0) _ _ rfl (by decide) (.inl (by decide)),
    rd_wr_apart (l := R.CTRL.XTXN_STAT_STATE 0) (m := R.CTRL.XTXN_STAT_REASON 0) _ _ rfl (by decide) (.inl (by decide)), rd_wr_same _ _ (by decide)]
  rfl

theorem reason_xtxnShown (st reason die : Nat) (s : State) :
    rd (R.CTRL.XTXN_STAT_REASON 0) (xtxnShown st reason die s) = reason % 16 := by
  unfold xtxnShown
  rw [rd_wr_apart (l := R.CTRL.XTXN_STAT_REASON 0) (m := R.CTRL.XTXN_STAT_DIE 0) _ _ rfl (by decide) (.inl (by decide)), rd_wr_same _ _ (by decide)]
  rfl

theorem die_xtxnShown (st reason die : Nat) (s : State) :
    rd (R.CTRL.XTXN_STAT_DIE 0) (xtxnShown st reason die s) = die % 8 :=
  rd_wr_same _ _ (by decide)

theorem word_xtxnShown_ne {st reason die x : Nat} {s : State} (h : x ≠ Layout.addr 0 1 0x90) :
    word x (xtxnShown st reason die s) = word x s :=
  (word_wr_ne _ _ h).trans ((word_wr_ne _ _ h).trans (word_wr_ne _ _ h))

/-- The end of a transaction shows in XTXN_STAT; its event leaves that word. -/
theorem rd_xtxnEnd {l : Loc} {st reason die : Nat} {s : State} (hl : l.addr = Layout.addr 0 1 0x90) :
    rd l (xtxnEnd st reason die s) = rd l (xtxnShown st reason die s) :=
  rd_evt_ctrl hl (by decide) _

theorem xtxnState_xtxnEnd (st reason die : Nat) (s : State) : xtxnState (xtxnEnd st reason die s) = st % 8 :=
  (rd_xtxnEnd rfl).trans (xtxnState_xtxnShown ..)

theorem reason_xtxnEnd (st reason die : Nat) (s : State) :
    rd (R.CTRL.XTXN_STAT_REASON 0) (xtxnEnd st reason die s) = reason % 16 :=
  (rd_xtxnEnd rfl).trans (reason_xtxnShown ..)

theorem die_xtxnEnd (st reason die : Nat) (s : State) : rd (R.CTRL.XTXN_STAT_DIE 0) (xtxnEnd st reason die s) = die % 8 :=
  (rd_xtxnEnd rfl).trans (die_xtxnShown ..)

theorem xtxnEnd_kept (st reason die : Nat) (s : State) : Touches 0x1004 s (xtxnEnd st reason die s) :=
  xtxnEnd_touches (Nat.and_self _) (.refl _ s)

/-- What an abandoned transaction leaves: its state, the reason and the die, and an abort on its way to each participant. -/
structure Abandoned (reason die : Nat) (s t : State) : Prop where
  state : xtxnState t = 4
  reason : rd (R.CTRL.XTXN_STAT_REASON 0) t = reason
  die : rd (R.CTRL.XTXN_STAT_DIE 0) t = die
  msgs : t.msgs = s.msgs ++ s.xtxn.slots.map (fun x => .abort x.1 x.2)

theorem xtxnAbandon_abandoned {reason die : Nat} (s : State) (hr : reason < 16) (hd : die < 8) :
    Abandoned reason die s (xtxnAbandon reason die s) := by
  have hkept := xtxnEnd_kept 4 reason die s
  unfold xtxnAbandon
  dsimp only
  refine ⟨?_, ?_, ?_, ?_⟩
  · exact (rd_withMsgs ..).trans (xtxnState_xtxnEnd 4 reason die s)
  · exact (rd_withMsgs ..).trans ((reason_xtxnEnd 4 reason die s).trans (Nat.mod_eq_of_lt hr))
  · exact (rd_withMsgs ..).trans ((die_xtxnEnd 4 reason die s).trans (Nat.mod_eq_of_lt hd))
  · rw [hkept.msgs rfl, hkept.xtxn rfl]

/-! ### The decision and the end (R57, R58) -/

/-- Every participating die has answered OK and is still part of the package, and no refusal is on its way. -/
def mayDecide (s : State) : Prop :=
  s.xtxn.slots.all (fun x => s.xtxn.answered.contains x.1 && !dieFenced x.1 s) = true ∧ s.msgs.any isFail = false

theorem xtxnDecide_of_not {s : State} (h : ¬ (xtxnState s = 1 ∧ mayDecide s)) : xtxnDecide s = s := if_neg h

theorem xtxnDecide_decides {s : State} (hst : xtxnState s = 1) (h : mayDecide s) :
    xtxnState (xtxnDecide s) = 2 ∧ (xtxnDecide s).msgs = s.msgs ++ s.xtxn.slots.map (fun x => .commit x.1 x.2) := by
  have hdec : xtxnDecide s = { wr (R.CTRL.XTXN_STAT_STATE 0) 2 s with
      msgs := s.msgs ++ s.xtxn.slots.map (fun x => .commit x.1 x.2) } := if_pos ⟨hst, h⟩
  rw [hdec]
  exact ⟨(rd_withMsgs ..).trans (rd_wr_same _ _ (by decide)), rfl⟩

theorem xtxnDecide_xtxn (s : State) : (xtxnDecide s).xtxn = s.xtxn :=
  Touches.xtxn (m := 0x2004) (xtxnDecide_touches (Nat.and_self _) (.refl _ s)) rfl

theorem xtxnDone_of_not {s : State} (h : ¬ (xtxnState s = 2 ∧
    s.xtxn.slots.all (fun x => s.xtxn.reported.contains x.1 || dieFenced x.1 s) = true)) : xtxnDone s = s := if_neg h

theorem xtxnDone_ends {s : State} (hst : xtxnState s = 2)
    (h : s.xtxn.slots.all (fun x => s.xtxn.reported.contains x.1 || dieFenced x.1 s) = true) : xtxnState (xtxnDone s) = 3 := by
  have hend : xtxnDone s = xtxnEnd 3 0 0 s := if_pos ⟨hst, h⟩
  rw [hend, xtxnState_xtxnEnd]

theorem xtxnDone_xtxn (s : State) : (xtxnDone s).xtxn = s.xtxn :=
  Touches.xtxn (m := 0x1004) (xtxnDone_touches (Nat.and_self _) (.refl _ s)) rfl

/-! ### XTXN_GO and XTXN_ABORT -/

/-- T of the next transaction, as XTXN_TIME gives it. -/
def xtxnTime (s : State) : Nat := rd (R.CTRL.XTXN_TIME_LO_T 0) s + 4294967296 * rd (R.CTRL.XTXN_TIME_HI_T 0) s

/-- The participants and their slots, as XTXN_MAP gives them. -/
def xtxnSlots (s : State) : List (Nat × Nat) :=
  (mapDies (rd (R.CTRL.XTXN_MAP_MAP 0) s)).map (fun d => (d, bitsOf (rd (R.CTRL.XTXN_MAP_MAP 0) s) (4 * d) 3))

/-- The state with a transaction that is preparing, before any die is told. -/
def xtxnBegun (s : State) : State :=
  xtxnShown 1 0 0 (wr (R.CTRL.XTXN_TSN_TSN 0) (nextTsn s).1
    { (nextTsn s).2 with xtxn := { time := xtxnTime s, slots := xtxnSlots s } })

/-- The state with the request to prepare on its way to every participant. -/
def xtxnAsked (s : State) : State :=
  { xtxnBegun s with msgs := s.msgs ++ (xtxnSlots s).map (fun x => .prepare x.1 x.2 (nextTsn s).1 (xtxnTime s)) }

theorem xtxnGo_late {s : State} (h1 : xtxnState s ≠ 1) (h2 : xtxnState s ≠ 2)
    (hlate : later 64 (xtxnTime s) ((ltime 0 s + 49999) % 18446744073709551616) = false) :
    xtxnGo s = xtxnEnd 4 1 0 (xtxnBegun s) := by
  unfold xtxnTime at hlate
  unfold xtxnGo
  dsimp only
  rw [if_neg (not_or.mpr ⟨h1, h2⟩), hlate, if_pos (by decide)]
  rfl

theorem xtxnGo_begins {s : State} (h1 : xtxnState s ≠ 1) (h2 : xtxnState s ≠ 2)
    (hfar : later 64 (xtxnTime s) ((ltime 0 s + 49999) % 18446744073709551616) = true) :
    xtxnGo s = xtxnDone (xtxnDecide (xtxnAsked s)) := by
  unfold xtxnTime at hfar
  unfold xtxnGo
  dsimp only
  rw [if_neg (not_or.mpr ⟨h1, h2⟩), hfar, if_neg (by decide)]
  rfl

theorem xtxnState_xtxnAsked (s : State) : xtxnState (xtxnAsked s) = 1 := (rd_withMsgs ..).trans (xtxnState_xtxnShown ..)

theorem tsn_xtxnAsked (s : State) : rd (R.CTRL.XTXN_TSN_TSN 0) (xtxnAsked s) = (nextTsn s).1 := by
  refine (rd_withMsgs ..).trans ?_
  unfold rd xtxnBegun
  rw [word_xtxnShown_ne (by decide)]
  exact (rd_wr_same (l := R.CTRL.XTXN_TSN_TSN 0) _ _ (by decide)).trans (Nat.mod_mod _ _)

theorem xtxn_xtxnAsked (s : State) : (xtxnAsked s).xtxn = { time := xtxnTime s, slots := xtxnSlots s } := rfl

/-- With a participant that has yet to answer, nothing is decided at once. -/
theorem not_mayDecide_xtxnAsked {s : State} (h : mapDies (rd (R.CTRL.XTXN_MAP_MAP 0) s) ≠ []) : ¬ mayDecide (xtxnAsked s) := by
  rintro ⟨hall, -⟩
  obtain ⟨d, hd⟩ := List.exists_mem_of_ne_nil _ h
  rw [xtxn_xtxnAsked] at hall
  have hanswered := List.all_eq_true.mp hall _ (List.mem_map_of_mem hd)
  rw [Bool.and_eq_true] at hanswered
  exact Bool.false_ne_true hanswered.1

theorem onlyIf_true (f : State → State) (s : State) : onlyIf true f s = f s := rfl

theorem onlyIf_false (f : State → State) (s : State) : onlyIf false f s = s := rfl

theorem ctrlWrite_xtxnCtl (a : Access) (v : Word) (s : State) :
    ctrlWrite (RegWrite.of a 0 1 0x80 v) s =
      onlyIf (testBit v.toNat 1) xtxnAbort (onlyIf (testBit v.toNat 0) xtxnGo s) := by
  unfold ctrlWrite
  rw [RegWrite.of_o, if_pos rfl, RegWrite.of_e]
  rfl

theorem exec_xtxnGo_go {a : Access} {v : Word} {s : State} (h : Reaches a 0 1 0x80 s) (h1 : testBit v.toNat 1 = false) :
    exec (.xtxnGo a v) s = .next (xtxnGo (landWrite a.rq 0 s)) := by
  have b0 : testBit (v ||| 1).toNat 0 = true := (or_bit v 1 0).trans (Bool.or_true _)
  have b1 : testBit (v ||| 1).toNat 1 = false := (or_bit v 1 1).trans ((Bool.or_false _).trans h1)
  rw [exec_xtxnGo h, ctrlWrite_xtxnCtl, b0, b1, onlyIf_true, onlyIf_false]

theorem exec_xtxnAbort_abort {a : Access} {v : Word} {s : State} (h : Reaches a 0 1 0x80 s) (h0 : testBit v.toNat 0 = false) :
    exec (.xtxnAbort a v) s = .next (xtxnAbort (landWrite a.rq 0 s)) := by
  have b0 : testBit (v ||| 2).toNat 0 = false := (or_bit v 2 0).trans ((Bool.or_false _).trans h0)
  have b1 : testBit (v ||| 2).toNat 1 = true := (or_bit v 2 1).trans (Bool.or_true _)
  rw [exec_xtxnAbort h, ctrlWrite_xtxnCtl, b0, b1, onlyIf_true, onlyIf_false]

theorem xtxnGo_prepares {a : Access} {v : Word} {s : State} (h : Reaches a 0 1 0x80 s) (hab : testBit v.toNat 1 = false)
    (h1 : xtxnState s ≠ 1) (h2 : xtxnState s ≠ 2) (hmap : mapDies (rd (R.CTRL.XTXN_MAP_MAP 0) s) ≠ [])
    (hfar : later 64 (xtxnTime s) ((ltime 0 s + 49999) % 18446744073709551616) = true) :
    ∃ t, exec (.xtxnGo a v) s = .next t ∧ xtxnState t = 1 ∧ t.xtxn.time = xtxnTime s ∧ t.xtxn.slots = xtxnSlots s ∧
      rd (R.CTRL.XTXN_TSN_TSN 0) t = (rd (R.CTRL.TSN_LAST_TSN 0) s + 1) % 4294967296 ∧
      t.msgs = s.msgs ++ t.xtxn.slots.map (fun x => .prepare x.1 x.2 (rd (R.CTRL.XTXN_TSN_TSN 0) t) t.xtxn.time) := by
  have hgo : exec (.xtxnGo a v) s = .next (xtxnAsked (landWrite a.rq 0 s)) := by
    rw [exec_xtxnGo_go h hab, xtxnGo_begins (s := landWrite a.rq 0 s) h1 h2 hfar,
      xtxnDecide_of_not fun hd => not_mayDecide_xtxnAsked (s := landWrite a.rq 0 s) hmap hd.2,
      xtxnDone_of_not fun hd => by rw [xtxnState_xtxnAsked] at hd; exact absurd hd.1 (by decide)]
  refine ⟨_, hgo, xtxnState_xtxnAsked _, rfl, rfl, tsn_xtxnAsked _, ?_⟩
  rw [tsn_xtxnAsked]
  rfl

theorem xtxnGo_tooLate {a : Access} {v : Word} {s : State} (h : Reaches a 0 1 0x80 s) (hab : testBit v.toNat 1 = false)
    (h1 : xtxnState s ≠ 1) (h2 : xtxnState s ≠ 2)
    (hlate : later 64 (xtxnTime s) ((ltime 0 s + 49999) % 18446744073709551616) = false) :
    ∃ t, exec (.xtxnGo a v) s = .next t ∧ xtxnState t = 4 ∧ rd (R.CTRL.XTXN_STAT_REASON 0) t = 1 ∧ t.msgs = s.msgs := by
  have hgo : exec (.xtxnGo a v) s = .next (xtxnEnd 4 1 0 (xtxnBegun (landWrite a.rq 0 s))) := by
    rw [exec_xtxnGo_go h hab, xtxnGo_late (s := landWrite a.rq 0 s) h1 h2 hlate]
  exact ⟨_, hgo, xtxnState_xtxnEnd .., reason_xtxnEnd .., (xtxnEnd_kept ..).msgs rfl⟩

theorem xtxnAbort_abandons {a : Access} {v : Word} {s : State} (h : Reaches a 0 1 0x80 s) (h0 : testBit v.toNat 0 = false)
    (hst : xtxnState s = 1) : ∃ t, exec (.xtxnAbort a v) s = .next t ∧ Abandoned 8 0 s t := by
  have habort : exec (.xtxnAbort a v) s = .next (xtxnAbandon 8 0 (landWrite a.rq 0 s)) := by
    rw [exec_xtxnAbort_abort h h0]
    exact congrArg _ (if_pos hst)
  obtain ⟨hstate, hreason, hdie, hmsgs⟩ :=
    xtxnAbandon_abandoned (reason := 8) (die := 0) (landWrite a.rq 0 s) (by decide) (by decide)
  exact ⟨_, habort, hstate, hreason, hdie, hmsgs⟩

/-! ### XTXN_PREPARE (R57) -/

theorem entryReason_le (d i : Nat) (bar2 : Bool) (a m : Nat) (s : State) : entryReason d i bar2 a m s ≤ 7 := by
  unfold entryReason
  dsimp only
  split_ifs <;> decide

/-- An entry that fails has one of the reasons of R50. -/
theorem badEntry_reason {d i n r x : Nat} {bar2 : Bool} {s : State} (h : badEntry d i bar2 s = some (n, r, x)) :
    0 < r ∧ r < 16 := by
  unfold badEntry at h
  obtain ⟨e, -, he⟩ := List.mem_map.mp (List.mem_of_find?_eq_some h)
  have hne : r ≠ 0 := by simpa using List.find?_some h
  have hr : entryReason d i bar2 e.2.1 e.2.2.1 s = r := congrArg (fun y => y.2.1) he
  have hle := entryReason_le d i bar2 e.2.1 e.2.2.1 s
  omega

/-- What the checks leave of a slot: prepared, or rejected with a reason; the rest of its status and its TSN stay. -/
structure Judged (d i : Nat) (s t : State) : Prop where
  outcome : rd (R.TXN.TXS_STAT_STATE d i) t = if rd (R.TXN.TXS_STAT_REASON d i) t = 0 then 1 else 3
  xdie : rd (R.TXN.TXS_STAT_XDIE d i) t = rd (R.TXN.TXS_STAT_XDIE d i) s
  tsn : rd (R.TXN.TXS_TSN_TSN d i) t = rd (R.TXN.TXS_TSN_TSN d i) s

theorem judged_slotReject {d i reason bad : Nat} {s : State} (hi : i < 8) (h0 : 0 < reason) (hr : reason < 16) :
    Judged d i s (slotReject d i reason bad s) := by
  refine ⟨?_, (rd_slotReject_stat hi rfl).trans (rd_slotShown_xdie ..), ?_⟩
  · rw [rd_slotReject_state hi, rd_slotReject_reason hi hr, if_neg (by omega)]
  · unfold rd
    exact congrArg (fun w => bitsOf (BitVec.toNat w) 0 32) ((word_slotReject hi (o := 0x54) (by decide) (by decide)).trans
      (word_slotShown_ne (addr_ne_offset (by decide))))

theorem judged_prepared (d i : Nat) (s : State) : Judged d i s (slotShown d i 1 0 0 s) := by
  refine ⟨?_, rd_slotShown_xdie .., ?_⟩
  · rw [rd_slotShown_state, rd_slotShown_reason, if_pos rfl]
  · unfold rd
    exact congrArg (fun w => bitsOf (BitVec.toNat w) 0 32) (word_slotShown_ne (addr_ne_offset (by decide : 0x54 ≠ 0x50)))

/-- A violation that the checks count leaves the slot. -/
theorem Judged.of_violation {d i x : Nat} {s t : State} (hi : i < 8) (h : Judged d i (privViolation x s) t) : Judged d i s t :=
  ⟨h.outcome, h.xdie.trans (rd_privViolation_block (blockWord_slot d hi (o := 0x50) (by decide))),
    h.tsn.trans (rd_privViolation_block (blockWord_slot d hi (o := 0x54) (by decide)))⟩

theorem judged_slotJudge {d i : Nat} {s : State} (hi : i < 8) : Judged d i s (slotJudge d i s) := by
  rcases hbad : badEntry d i (flag (R.TXN.TXS_STAT_VIEW d i) s) s with _ | ⟨n, r, x⟩
  · rw [slotJudge_prepared hbad]
    exact judged_prepared d i s
  · obtain ⟨h0, hr⟩ := badEntry_reason hbad
    rw [slotJudge_rejected hbad]
    split
    · exact (judged_slotReject hi h0 hr).of_violation hi
    · exact judged_slotReject hi h0 hr

/-- The state with a slot armed for a cross-die transaction (R57). -/
def xtxnArmed (d i tsn time : Nat) (s : State) : State :=
  setTxn d i { arg := time } (wr (R.TXN.TXS_STAT_VIEW d i) 0 (wr (R.TXN.TXS_STAT_XDIE d i) 1
    (wr (R.TXN.TXS_STAT_STATE d i) 4 (wr (R.TXN.TXS_TSN_TSN d i) tsn s))))

theorem rd_xtxnArmed_xdie (d i tsn time : Nat) (s : State) :
    rd (R.TXN.TXS_STAT_XDIE d i) (xtxnArmed d i tsn time s) = 1 := by
  unfold xtxnArmed
  rw [rd_setTxn, rd_wr_apart (l := R.TXN.TXS_STAT_XDIE d i) (m := R.TXN.TXS_STAT_VIEW d i) _ _ rfl
    (show 18 + 1 ≤ 32 by decide) (.inl (show 17 + 1 ≤ 18 by decide)), rd_wr_same _ _ (show 17 + 1 ≤ 32 by decide)]
  rfl

theorem rd_xtxnArmed_tsn (d i tsn time : Nat) (s : State) :
    rd (R.TXN.TXS_TSN_TSN d i) (xtxnArmed d i tsn time s) = tsn % 4294967296 := by
  have hne : (R.TXN.TXS_TSN_TSN d i).addr ≠ Layout.addr d (2 + i) 0x50 := addr_ne_offset (by decide : 0x54 ≠ 0x50)
  unfold xtxnArmed
  rw [rd_setTxn, rd_wr_ne (m := R.TXN.TXS_STAT_VIEW d i) _ _ hne, rd_wr_ne (m := R.TXN.TXS_STAT_XDIE d i) _ _ hne,
    rd_wr_ne (m := R.TXN.TXS_STAT_STATE d i) _ _ hne, rd_wr_same _ _ (show 0 + 32 ≤ 32 by decide)]
  rfl

theorem xtxnArmed_msgs (d i tsn time : Nat) (s : State) : (xtxnArmed d i tsn time s).msgs = s.msgs := by
  have hkept : Touches 0x400004 s (xtxnArmed d i tsn time s) :=
    setTxn_touches rfl (wr_touches rfl (wr_touches rfl (wr_touches rfl (wr_touches rfl (.refl _ s)))))
  exact hkept.msgs rfl

/-- The state with a die's answer on its way. -/
def answered (d i : Nat) (s : State) : State :=
  { s with msgs := s.msgs ++ [.answer d (rd (R.TXN.TXS_STAT_REASON d i) s)] }

theorem execXtxnPrepare_free {d i tsn time : Nat} {s : State} (hm : s.msgs.find? (isPrepare d) = some (.prepare d i tsn time))
    (hup : dieUp d s = true) (hf : dieFenced d s = false) (hfree : slotBusy d i s = false) :
    execXtxnPrepare d s = .next (answered d i (slotJudge d i (xtxnArmed d i tsn time
      { s with msgs := s.msgs.erase (.prepare d i tsn time) }))) := by
  have hup' : dieUp d { s with msgs := s.msgs.erase (.prepare d i tsn time) } = true := hup
  have hf' : dieFenced d { s with msgs := s.msgs.erase (.prepare d i tsn time) } = false := hf
  have hfree' : slotBusy d i { s with msgs := s.msgs.erase (.prepare d i tsn time) } = false := hfree
  unfold execXtxnPrepare
  rw [takeMsg_some hm]
  dsimp only
  rw [hup', hf', hfree', if_neg (by decide), if_neg (by decide)]
  unfold answered xtxnArmed
  rfl

theorem xtxnPrepare_answers {d i tsn time : Nat} {s : State} (hm : s.msgs.find? (isPrepare d) = some (.prepare d i tsn time))
    (hi : i < 8) (hup : dieUp d s = true) (hf : dieFenced d s = false) (hfree : slotBusy d i s = false) :
    ∃ t, exec (.xtxnPrepare d) s = .next t ∧ flag (R.TXN.TXS_STAT_XDIE d i) t = true ∧
      rd (R.TXN.TXS_TSN_TSN d i) t = tsn % 4294967296 ∧ (txnOf d i t).arg = time ∧
      rd (R.TXN.TXS_STAT_STATE d i) t = (if rd (R.TXN.TXS_STAT_REASON d i) t = 0 then 1 else 3) ∧
      t.msgs = s.msgs.erase (.prepare d i tsn time) ++ [.answer d (rd (R.TXN.TXS_STAT_REASON d i) t)] := by
  refine ⟨_, Eq.trans (b := execXtxnPrepare d s) rfl (execXtxnPrepare_free hm hup hf hfree), ?_⟩
  have hrd : ∀ l u, rd l (answered d i u) = rd l u := fun _ _ => rfl
  have hmsgs : ∀ u, (answered d i u).msgs = u.msgs ++ [.answer d (rd (R.TXN.TXS_STAT_REASON d i) u)] := fun _ => rfl
  have htxn : ∀ u, txnOf d i (answered d i u) = txnOf d i u := fun _ => rfl
  generalize harmed : xtxnArmed d i tsn time { s with msgs := s.msgs.erase (.prepare d i tsn time) } = u
  have hj := judged_slotJudge (d := d) (s := u) hi
  have hkept : Touches 0x1800000041004 u (slotJudge d i u) := slotJudge_touches (Nat.and_self _) (.refl _ u)
  unfold flag
  rw [hrd, hrd, hrd, hrd, hmsgs, htxn, txnOf_congr d i (hkept.txns rfl), hkept.msgs rfl, hj.xdie, hj.tsn, ← harmed]
  exact ⟨by rw [rd_xtxnArmed_xdie]; rfl, rd_xtxnArmed_tsn .., congrArg TxnSlot.arg (txnOf_setTxn ..), harmed ▸ hj.outcome,
    by rw [xtxnArmed_msgs]⟩

/-! ### XTXN_ANSWER (R57) -/

/-- The state in D0 once die `d` has answered OK. -/
def answerTaken (d : Nat) (m : Msg) (s : State) : State :=
  { s with msgs := s.msgs.erase m, xtxn := { s.xtxn with answered := d :: s.xtxn.answered } }

/-- The state in D0 once die `d` has answered FAIL. -/
def refusalTaken (d : Nat) (m : Msg) (s : State) : State :=
  { s with msgs := s.msgs.erase m, xtxn := { s.xtxn with failed := d :: s.xtxn.failed } }

theorem execXtxnAnswer_ok {d : Nat} {s : State} (hm : s.msgs.find? (isAnswer d) = some (.answer d 0)) (hst : xtxnState s = 1) :
    execXtxnAnswer d s = .next (xtxnDecide (answerTaken d (.answer d 0) s)) := by
  have hst' : xtxnState { s with msgs := s.msgs.erase (.answer d 0) } = 1 := hst
  unfold execXtxnAnswer
  rw [takeMsg_some hm]
  exact if_pos hst'

theorem execXtxnAnswer_refusal {d r : Nat} {s : State} (hm : s.msgs.find? (isAnswer d) = some (.answer d r))
    (hst : xtxnState s = 1) (hr : 0 < r) :
    execXtxnAnswer d s = .next (xtxnAbandon r d (refusalTaken d (.answer d r) s)) := by
  obtain ⟨n, rfl⟩ := Nat.exists_eq_add_of_lt hr
  have hst' : xtxnState { s with msgs := s.msgs.erase (.answer d (0 + n + 1)) } = 1 := hst
  unfold execXtxnAnswer
  rw [takeMsg_some hm]
  exact if_pos hst'

theorem mayDecide_answerTaken {d : Nat} {s : State} :
    mayDecide (answerTaken d (.answer d 0) s) ↔
      s.xtxn.slots.all (fun x => (d :: s.xtxn.answered).contains x.1 && !dieFenced x.1 s) = true ∧ s.msgs.any isFail = false := by
  have hfail : (s.msgs.erase (.answer d 0)).any isFail = s.msgs.any isFail := any_erase_of_not (m := .answer d 0) rfl
  rw [← hfail]
  exact Iff.rfl

theorem xtxnAnswer_ok {d : Nat} {s : State} (hm : s.msgs.find? (isAnswer d) = some (.answer d 0)) (hst : xtxnState s = 1) :
    ∃ t, exec (.xtxnAnswer d) s = .next t ∧ t.xtxn.answered = d :: s.xtxn.answered ∧
      (if s.xtxn.slots.all (fun x => (d :: s.xtxn.answered).contains x.1 && !dieFenced x.1 s) = true ∧ s.msgs.any isFail = false then
        xtxnState t = 2 ∧ t.msgs = s.msgs.erase (.answer d 0) ++ s.xtxn.slots.map (fun x => .commit x.1 x.2)
      else xtxnState t = 1 ∧ t.msgs = s.msgs.erase (.answer d 0)) := by
  have hst' : xtxnState (answerTaken d (.answer d 0) s) = 1 := hst
  refine ⟨_, Eq.trans (b := execXtxnAnswer d s) rfl (execXtxnAnswer_ok hm hst), ?_, ?_⟩
  · rw [xtxnDecide_xtxn]
    rfl
  · split
    next hall => exact xtxnDecide_decides hst' (mayDecide_answerTaken.mpr hall)
    next hnot =>
      rw [xtxnDecide_of_not fun h => hnot (mayDecide_answerTaken.mp h.2)]
      exact ⟨hst', rfl⟩

theorem xtxnAnswer_refusal {d r : Nat} {s : State} (hm : s.msgs.find? (isAnswer d) = some (.answer d r))
    (hst : xtxnState s = 1) (h0 : 0 < r) (hr : r < 16) (hd : d < 8) :
    ∃ t, exec (.xtxnAnswer d) s = .next t ∧ xtxnState t = 4 ∧ rd (R.CTRL.XTXN_STAT_REASON 0) t = r ∧
      rd (R.CTRL.XTXN_STAT_DIE 0) t = d ∧
      t.msgs = s.msgs.erase (.answer d r) ++ s.xtxn.slots.map (fun x => .abort x.1 x.2) := by
  obtain ⟨hstate, hreason, hdie, hmsgs⟩ := xtxnAbandon_abandoned (refusalTaken d (.answer d r) s) hr hd
  exact ⟨_, Eq.trans (b := execXtxnAnswer d s) rfl (execXtxnAnswer_refusal hm hst h0), hstate, hreason, hdie, hmsgs⟩

/-! ### The messages of the decision (R57, R58) -/

theorem xtxnCommitMsg_decides {d i : Nat} {s : State} (hm : s.msgs.find? (isCommit d) = some (.commit d i))
    (hbusy : slotBusy d i s = true) (hx : flag (R.TXN.TXS_STAT_XDIE d i) s = true) (hf : dieFenced d s = false) :
    ∃ t, exec (.xtxnCommitMsg d) s = .next t ∧ txnOf d i t = { txnOf d i s with decided := true } ∧
      t = { s with msgs := s.msgs.erase (.commit d i), txns := t.txns } := by
  have hbusy' : slotBusy d i { s with msgs := s.msgs.erase (.commit d i) } = true := hbusy
  have hx' : flag (R.TXN.TXS_STAT_XDIE d i) { s with msgs := s.msgs.erase (.commit d i) } = true := hx
  have hf' : dieFenced d { s with msgs := s.msgs.erase (.commit d i) } = false := hf
  have hexec : execXtxnCommitMsg d s = .next (setTxn d i { txnOf d i s with decided := true }
      { s with msgs := s.msgs.erase (.commit d i) }) := by
    unfold execXtxnCommitMsg
    rw [takeMsg_some hm]
    dsimp only
    rw [hbusy', hx', hf', if_pos (by decide)]
    rfl
  exact ⟨_, Eq.trans (b := execXtxnCommitMsg d s) rfl hexec, txnOf_setTxn .., rfl⟩

theorem xtxnAbortMsg_rejects {d i : Nat} {s : State} (hm : s.msgs.find? (isAbort d) = some (.abort d i)) (hi : i < 8)
    (hbusy : slotBusy d i s = true) (hx : flag (R.TXN.TXS_STAT_XDIE d i) s = true) :
    ∃ t, exec (.xtxnAbortMsg d) s = .next t ∧ rd (R.TXN.TXS_STAT_STATE d i) t = 3 ∧ rd (R.TXN.TXS_STAT_REASON d i) t = 9 := by
  have hbusy' : slotBusy d i { s with msgs := s.msgs.erase (.abort d i) } = true := hbusy
  have hx' : flag (R.TXN.TXS_STAT_XDIE d i) { s with msgs := s.msgs.erase (.abort d i) } = true := hx
  have hexec : execXtxnAbortMsg d s = .next (slotReject d i 9 0 { s with msgs := s.msgs.erase (.abort d i) }) := by
    unfold execXtxnAbortMsg
    rw [takeMsg_some hm]
    dsimp only
    rw [hbusy', hx', if_pos (by decide)]
  exact ⟨_, Eq.trans (b := execXtxnAbortMsg d s) rfl hexec, rd_slotReject_state hi, rd_slotReject_reason hi (by decide)⟩

/-- The state in D0 once die `d` has reported its commit. -/
def reportTaken (d : Nat) (m : Msg) (s : State) : State :=
  { s with msgs := s.msgs.erase m, xtxn := { s.xtxn with reported := d :: s.xtxn.reported } }

theorem xtxnCommitReport_ends {d : Nat} {s : State} (hm : s.msgs.find? (isReport d) = some (.report d)) (hst : xtxnState s = 2) :
    ∃ t, exec (.xtxnCommitReport d) s = .next t ∧ t.xtxn.reported = d :: s.xtxn.reported ∧
      (if s.xtxn.slots.all (fun x => (d :: s.xtxn.reported).contains x.1 || dieFenced x.1 s) = true then
        xtxnState t = 3 else xtxnState t = 2) := by
  have hst' : xtxnState (reportTaken d (.report d) s) = 2 := hst
  have hexec : execXtxnCommitReport d s = .next (xtxnDone (reportTaken d (.report d) s)) := by
    unfold execXtxnCommitReport
    rw [takeMsg_some hm]
    rfl
  refine ⟨_, Eq.trans (b := execXtxnCommitReport d s) rfl hexec, ?_, ?_⟩
  · rw [xtxnDone_xtxn]
    rfl
  · split
    next hall => exact xtxnDone_ends hst' hall
    next hnot =>
      rw [xtxnDone_of_not fun h => hnot h.2]
      exact hst'

theorem xtxnTimeout_abandons {d i : Nat} {s : State} (hst : xtxnState s = 1)
    (hdue : later 64 s.xtxn.time ((ltime 0 s + 20000) % 18446744073709551616) = false)
    (hfind : s.xtxn.slots.find? (fun x => !s.xtxn.answered.contains x.1 || dieFenced x.1 s) = some (d, i)) (hd : d < 8) :
    ∃ t, exec .xtxnTimeout s = .next t ∧ xtxnState t = 4 ∧ rd (R.CTRL.XTXN_STAT_REASON 0) t = 10 ∧
      rd (R.CTRL.XTXN_STAT_DIE 0) t = d ∧ t.msgs = s.msgs ++ s.xtxn.slots.map (fun x => .abort x.1 x.2) := by
  have hexec : execXtxnTimeout s = .next (xtxnAbandon 10 d s) := by
    unfold execXtxnTimeout
    rw [if_pos ⟨hst, by rw [hdue]; rfl⟩, hfind]
  obtain ⟨hstate, hreason, hdie, hmsgs⟩ := xtxnAbandon_abandoned (reason := 10) s (by decide) hd
  exact ⟨_, Eq.trans (b := execXtxnTimeout s) rfl hexec, hstate, hreason, hdie, hmsgs⟩

/-- Settles O17: D0's part reads back XTXN_STAT and the messages sent, a die's part the slot it judged. -/
theorem crossDieCommandsAct : Obligations.CrossDieCommandsAct := by
  unfold Obligations.CrossDieCommandsAct
  refine ⟨?_, ?_, ?_, ?_, ?_, ?_, ?_, ?_, ?_, ?_⟩
  · exact fun a v s h hab h1 h2 hmap hfar => xtxnGo_prepares h hab h1 h2 hmap hfar
  · exact fun a v s h hab h1 h2 hlate => xtxnGo_tooLate h hab h1 h2 hlate
  · intro a v s h h0 hst
    obtain ⟨t, hexec, hab⟩ := xtxnAbort_abandons h h0 hst
    exact ⟨t, hexec, hab.state, hab.reason, hab.msgs⟩
  · exact fun d i tsn time s hm hi hup hf hfree => xtxnPrepare_answers hm hi hup hf hfree
  · exact fun d s hm hst => xtxnAnswer_ok hm hst
  · exact fun d r s hm hst h0 hr hd => xtxnAnswer_refusal hm hst h0 hr hd
  · exact fun d i s hm hbusy hx hf => xtxnCommitMsg_decides hm hbusy hx hf
  · exact fun d i s hm hi hbusy hx => xtxnAbortMsg_rejects hm hi hbusy hx
  · exact fun d s hm hst => xtxnCommitReport_ends hm hst
  · exact fun d i s hst hdue hfind hd => xtxnTimeout_abandons hst hdue hfind hd

end Sys2Proof.Machine
end

section
/-! PROOFS. Frames on their way into the queue (R71 to R74, R77, R79, R84, R90). -/

namespace Sys2Proof.Machine

/-! ### The tables of frames and decode lanes that an operation leaves -/

theorem Touches.slotOf_eq {m : Nat} {z s : State} (h : Touches m z s) (hm : m.testBit 25 = false) (i : Nat) :
    slotOf i s = slotOf i z := slotOf_congr i (h.slots hm)

theorem Touches.planeOf_eq {m : Nat} {z s : State} (h : Touches m z s) (hm : m.testBit 26 = false) (i k : Nat) :
    planeOf i k s = planeOf i k z := planeOf_congr i k (h.planes hm)

theorem Touches.retainedOf_eq {m : Nat} {z s : State} (h : Touches m z s) (hm : m.testBit 28 = false) (e : Nat) :
    retainedOf e s = retainedOf e z := retainedOf_congr e (h.retained hm)

theorem Touches.dlaneOf_eq {m : Nat} {z s : State} (h : Touches m z s) (hm : m.testBit 40 = false) (d n : Nat) :
    dlaneOf d n s = dlaneOf d n z := dlaneOf_congr d n (h.dlanes hm)

theorem Touches.imagerOf_eq {m : Nat} {z s : State} (h : Touches m z s) (hm : m.testBit 55 = false) (k : Nat) :
    imagerOf k s = imagerOf k z := imagerOf_congr k (h.imagers hm)

theorem evt_kept (d p b : Nat) (s : State) : Touches 0x1004 s (evt d p b s) := evt_touches (Nat.and_self _) (.refl _ s)

/-! ### FRAME_SUBMIT (R71 to R73) -/

theorem planeOf_foldl_drop {i k : Nat} {l : List Nat} {s : State} (h : k ∈ l ∨ planeOf i k s = {}) :
    planeOf i k (l.foldl (fun s j => setPlane i j {} s) s) = {} := by
  induction l generalizing s with
  | nil => exact h.resolve_left List.not_mem_nil
  | cons j t ih =>
    refine ih ?_
    by_cases hj : k = j
    · right
      rw [hj, planeOf_setPlane]
    · rw [planeOf_setPlane_ne _ _ (by omega)]
      exact h.imp_left fun hm => (List.mem_cons.mp hm).resolve_left hj

theorem planeOf_dropPlanes {i k : Nat} {s : State} (hk : k < 16) : planeOf i k (dropPlanes i s) = {} :=
  planeOf_foldl_drop (.inl (List.mem_range.mpr hk))

/-- The state with a frame in its slot, LOADING, before its planes are on their way. -/
def frameTaken (i : Nat) (s : State) : State :=
  wr (R.FRAME.LAST_FSN_FSN 0) (frameFsn i s) (setSlot i { st := 1 } (dropPlanes i { s with lastFsnValid := true }))

/-- The state with a frame accepted: its planes are on their way to their dies. -/
def frameAccepted (i : Nat) (s : State) : State :=
  { frameTaken i s with msgs := (frameTaken i s).msgs ++ (frameStations i s).map (fun k => .plane i k) }

theorem submitSlot_passes {i : Nat} {s : State} (h : frameReason (descBytes i s) s = 0) : submitSlot i s = frameAccepted i s := by
  unfold submitSlot
  exact if_neg (not_not_intro h)

theorem submitSlot_fails {i : Nat} {s : State} (h : frameReason (descBytes i s) s ≠ 0) :
    submitSlot i s = submitReject i (frameReason (descBytes i s) s) { s with lastFsnValid := true } := by
  unfold submitSlot
  exact if_pos h

/-- What an accepted frame leaves (R73). -/
theorem frameAccepted_holds (i : Nat) (s : State) :
    slotOf i (frameAccepted i s) = { st := 1 } ∧ (∀ k < 16, planeOf i k (frameAccepted i s) = {}) ∧
      (frameAccepted i s).lastFsnValid = true ∧ rd (R.FRAME.LAST_FSN_FSN 0) (frameAccepted i s) = frameFsn i s % 4294967296 ∧
      (frameAccepted i s).msgs = s.msgs ++ (frameStations i s).map (fun k => .plane i k) := by
  have hdrop : Touches 0x4000000 { s with lastFsnValid := true } (dropPlanes i { s with lastFsnValid := true }) :=
    dropPlanes_touches (Nat.and_self _) (.refl _ _)
  have htaken : Touches 0x2000004 (dropPlanes i { s with lastFsnValid := true }) (frameTaken i s) :=
    wr_touches rfl (setSlot_touches rfl (.refl _ _))
  have hsent : Touches 0x2000 (frameTaken i s) (frameAccepted i s) := Touches.upD_msgs rfl (.refl _ _)
  refine ⟨?_, fun k hk => ?_, ?_, (rd_withMsgs ..).trans (rd_wr_same _ _ (by decide)), ?_⟩
  · rw [hsent.slotOf_eq rfl]
    unfold frameTaken
    rw [(wr_touches (Nat.and_self _) (.refl _ _)).slotOf_eq rfl, slotOf_setSlot]
  · rw [hsent.planeOf_eq rfl, htaken.planeOf_eq rfl, planeOf_dropPlanes hk]
  · rw [hsent.lastFsnValid rfl, htaken.lastFsnValid rfl, hdrop.lastFsnValid rfl]
  · unfold frameAccepted
    rw [htaken.msgs rfl, hdrop.msgs rfl]

theorem frameReason_lt (b : List Byte) (s : State) : frameReason b s < 16 := by
  unfold frameReason
  dsimp only
  split_ifs <;> decide

theorem submitReject_kept (i reason : Nat) (s : State) : Touches 0x1004 s (submitReject i reason s) :=
  submitReject_touches (Nat.and_self _) (.refl _ s)

/-- A rejection shows its slot and its reason in SUBMIT_STAT (R73). -/
theorem submitReject_shows {i reason : Nat} {s : State} (hi : i < 64) (hr : reason < 16) :
    rd (R.FRAME.SUBMIT_STAT_SLOT 0) (submitReject i reason s) = i ∧
      rd (R.FRAME.SUBMIT_STAT_REASON 0) (submitReject i reason s) = reason ∧
      flag (R.FRAME.SUBMIT_STAT_VALID 0) (submitReject i reason s) = true := by
  have hevt : ∀ l : Loc, l.addr = Layout.addr 0 0x48 0x48 → ∀ t, rd l (evt 0 0x48 0 t) = rd l t := fun l hl t =>
    rd_evt_block (hl ▸ blockWord_addr (by decide) (by decide) (by decide)) (by decide)
  unfold submitReject flag
  rw [hevt _ rfl, hevt _ rfl, hevt _ rfl]
  refine ⟨?_, ?_, ?_⟩
  · rw [rd_wr_apart (l := R.FRAME.SUBMIT_STAT_SLOT 0) (m := R.FRAME.SUBMIT_STAT_VALID 0) _ _ rfl (by decide) (.inl (by decide)),
      rd_wr_apart (l := R.FRAME.SUBMIT_STAT_SLOT 0) (m := R.FRAME.SUBMIT_STAT_REASON 0) _ _ rfl (by decide) (.inl (by decide)),
      rd_wr_same _ _ (by decide)]
    exact Nat.mod_eq_of_lt hi
  · rw [rd_wr_apart (l := R.FRAME.SUBMIT_STAT_REASON 0) (m := R.FRAME.SUBMIT_STAT_VALID 0) _ _ rfl (by decide) (.inl (by decide)),
      rd_wr_same _ _ (by decide)]
    exact Nat.mod_eq_of_lt hr
  · rw [rd_wr_same _ _ (by decide)]
    rfl

theorem exec_frameSubmit_reserved {a : Access} {v : Word} {s : State} (h : Reaches a 0 0x48 0x44 s)
    (hfree : slotFree (v.toNat % 64) s = true) (hres : hostReserved (v.toNat % 64) s = true) :
    exec (.frameSubmit a v) s = .next (submitSlot (v.toNat % 64) (landWrite a.rq 0 s)) := by
  have hopen : (slotFree (v.toNat % 64) (landWrite a.rq 0 s) && hostReserved (v.toNat % 64) (landWrite a.rq 0 s)) = true :=
    Bool.and_eq_true_iff.mpr ⟨hfree, hres⟩
  rw [exec_frameSubmit h]
  unfold frameSubmit
  rw [if_pos hopen]

theorem frameSubmit_takes {a : Access} {v : Word} {s : State} (h : Reaches a 0 0x48 0x44 s)
    (hfree : slotFree (v.toNat % 64) s = true) (hres : hostReserved (v.toNat % 64) s = true)
    (hpass : frameReason (descBytes (v.toNat % 64) s) s = 0) :
    ∃ t, exec (.frameSubmit a v) s = .next t ∧ slotOf (v.toNat % 64) t = { st := 1 } ∧
      (∀ k < 16, planeOf (v.toNat % 64) k t = {}) ∧ t.lastFsnValid = true ∧
      rd (R.FRAME.LAST_FSN_FSN 0) t = frameFsn (v.toNat % 64) s % 4294967296 ∧
      t.msgs = s.msgs ++ (frameStations (v.toNat % 64) s).map (fun k => .plane (v.toNat % 64) k) := by
  exact ⟨_, (exec_frameSubmit_reserved h hfree hres).trans
    (congrArg _ (submitSlot_passes (s := landWrite a.rq 0 s) hpass)), frameAccepted_holds _ (landWrite a.rq 0 s)⟩

theorem frameSubmit_rejects {a : Access} {v : Word} {s : State} (h : Reaches a 0 0x48 0x44 s)
    (hfree : slotFree (v.toNat % 64) s = true) (hres : hostReserved (v.toNat % 64) s = true)
    (hfail : frameReason (descBytes (v.toNat % 64) s) s ≠ 0) :
    ∃ t, exec (.frameSubmit a v) s = .next t ∧ slotOf (v.toNat % 64) t = slotOf (v.toNat % 64) s ∧ t.msgs = s.msgs ∧
      rd (R.FRAME.SUBMIT_STAT_SLOT 0) t = v.toNat % 64 ∧
      rd (R.FRAME.SUBMIT_STAT_REASON 0) t = frameReason (descBytes (v.toNat % 64) s) s ∧
      flag (R.FRAME.SUBMIT_STAT_VALID 0) t = true := by
  have hkept := submitReject_kept (v.toNat % 64) (frameReason (descBytes (v.toNat % 64) s) s)
    { landWrite a.rq 0 s with lastFsnValid := true }
  exact ⟨_, (exec_frameSubmit_reserved h hfree hres).trans
      (congrArg _ (submitSlot_fails (s := landWrite a.rq 0 s) hfail)),
    hkept.slotOf_eq rfl _, hkept.msgs rfl, submitReject_shows (Nat.mod_lt _ (by decide)) (frameReason_lt _ _)⟩

/-! ### PLANE_DESCRIPTOR_MSG (R73, R74) -/

/-- A plane as its die first holds it: with the ashlars that were declared resident of it. -/
def planeArrived (i k : Nat) (s : State) : Plane :=
  let d := s.decls.filter (fun e => e.fsn == frameFsn i s && e.station == k)
  let extra := d.flatMap (fun e => e.extra)
  let c := absorb extra.length (d.foldl (fun a e => Nat.max a e.count) 0) extra
  { got := true, fsn := frameFsn i s, resCount := c.1, resSet := c.2 }

theorem planeArrived_resCount {i k n : Nat} {s : State}
    (h : s.decls.filter (fun e => e.fsn == frameFsn i s && e.station == k) = [⟨frameFsn i s, k, n, []⟩]) :
    (planeArrived i k s).resCount = n := by
  unfold planeArrived
  rw [h]
  exact Nat.zero_max n

theorem execPlaneDescriptorMsg_arrives {i k : Nat} {m : Msg} {s : State} (hm : s.msgs.find? (isPlaneMsg i k) = some m)
    (hst : (slotOf i s).st ≠ 0) (hf : dieFenced (stDie k) s = false) (hgot : (planeOf i k s).got = false) :
    execPlaneDescriptorMsg i k s = .next (setPlane i k (planeArrived i k s) { s with
      msgs := s.msgs.erase m, decls := s.decls.filter (fun e => !(e.fsn == frameFsn i s && e.station == k)) }) := by
  have hst' : (slotOf i { s with msgs := s.msgs.erase m }).st ≠ 0 := hst
  have hf' : dieFenced (stDie k) { s with msgs := s.msgs.erase m } = false := hf
  have hgot' : (planeOf i k { s with msgs := s.msgs.erase m }).got = false := hgot
  unfold execPlaneDescriptorMsg
  rw [takeMsg_some hm]
  dsimp only
  rw [hf', hgot', if_neg (by simp [hst'])]
  rfl

theorem planeDescriptorMsg_arrives {i k : Nat} {m : Msg} {s : State} (hm : s.msgs.find? (isPlaneMsg i k) = some m)
    (hst : (slotOf i s).st ≠ 0) (hf : dieFenced (stDie k) s = false) (hgot : (planeOf i k s).got = false) :
    ∃ t, exec (.planeDescriptorMsg i k) s = .next t ∧ (planeOf i k t).got = true ∧ (planeOf i k t).fsn = frameFsn i s ∧
      (∀ n, s.decls.filter (fun e => e.fsn == frameFsn i s && e.station == k) = [⟨frameFsn i s, k, n, []⟩] →
        (planeOf i k t).resCount = n) ∧
      t = { s with msgs := s.msgs.erase m, planes := t.planes,
                   decls := s.decls.filter (fun e => !(e.fsn == frameFsn i s && e.station == k)) } := by
  refine ⟨_, Eq.trans (b := execPlaneDescriptorMsg i k s) rfl (execPlaneDescriptorMsg_arrives hm hst hf hgot), ?_⟩
  rw [planeOf_setPlane]
  exact ⟨rfl, rfl, fun n hn => planeArrived_resCount hn, rfl⟩

/-! ### RES_DECLARE and RESURVEY (R74, R77) -/

theorem bitsOf_and (v c : Word) (lsb w : Nat) : bitsOf (v &&& c).toNat lsb w = bitsOf v.toNat lsb w &&& bitsOf c.toNat lsb w := by
  unfold bitsOf
  rw [BitVec.toNat_and, Nat.and_div_two_pow, Nat.and_mod_two_pow]

theorem bitsOf_or (v c : Word) (lsb w : Nat) : bitsOf (v ||| c).toNat lsb w = bitsOf v.toNat lsb w ||| bitsOf c.toNat lsb w := by
  unfold bitsOf
  rw [BitVec.toNat_or, Nat.or_div_two_pow, Nat.or_mod_two_pow]

/-- A field of a word of which a mask keeps every bit. -/
theorem bitsOf_and_kept {v c : Word} {lsb w : Nat} (hc : bitsOf c.toNat lsb w = 2 ^ w - 1) :
    bitsOf (v &&& c).toNat lsb w = bitsOf v.toNat lsb w := by
  rw [bitsOf_and, hc, Nat.and_two_pow_sub_one_eq_mod, Nat.mod_eq_of_lt (bitsOf_lt ..)]

/-- A field of a word of which a mask keeps no bit. -/
theorem bitsOf_and_cleared {v c : Word} {lsb w : Nat} (hc : bitsOf c.toNat lsb w = 0) : bitsOf (v &&& c).toNat lsb w = 0 := by
  rw [bitsOf_and, hc, Nat.and_zero]

/-- A field of a word into which bits beside it are set. -/
theorem bitsOf_or_kept {v c : Word} {lsb w : Nat} (hc : bitsOf c.toNat lsb w = 0) :
    bitsOf (v ||| c).toNat lsb w = bitsOf v.toNat lsb w := by
  rw [bitsOf_or, hc, Nat.or_zero]

theorem bitsOf_zero (v w : Nat) : bitsOf v 0 w = v % 2 ^ w := by
  unfold bitsOf
  rw [Nat.pow_zero, Nat.div_one]

/-- A plane of which ashlars 0 to `count` − 1 are declared resident (R74). -/
def planeDeclared (q : Plane) (count : Nat) : Plane :=
  let c := absorb q.resSet.length (Nat.max q.resCount count) q.resSet
  { q with resCount := c.1, resSet := c.2 }

theorem planeDeclared_of_counted {q : Plane} {count : Nat} (h : q.resSet = []) :
    planeDeclared q count = { q with resCount := Nat.max q.resCount count } := by
  cases q
  cases h
  rfl

theorem declareResident_held {d fsn l count i : Nat} {s : State} (h : slotOfFsn fsn s = some i)
    (hgot : (planeOf i (2 * d + l) s).got = true) :
    declareResident d fsn l count s = setPlane i (2 * d + l) (planeDeclared (planeOf i (2 * d + l) s) count) s := by
  unfold declareResident
  rw [h]
  dsimp only
  rw [if_pos hgot]
  rfl

theorem resCtl_declares {d w : Nat} {s : State} (h : testBit w 25 = false) :
    resCtl d w s = declareResident d (rd (R.FRAME.RES_FSN_FSN d) s) (bitsOf w 24 1) (w % 131072) s := by
  unfold resCtl
  dsimp only
  rw [h, if_neg (by decide)]

theorem resDeclare_declares {a : Access} {d i : Nat} {v : Word} {s : State} (h : Reaches a d 0x48 0x114 s)
    (hslot : slotOfFsn (rd (R.FRAME.RES_FSN_FSN d) s) s = some i)
    (hgot : (planeOf i (2 * d + bitsOf v.toNat 24 1) s).got = true)
    (hset : (planeOf i (2 * d + bitsOf v.toNat 24 1) s).resSet = []) :
    ∃ t, exec (.resDeclare a d v) s = .next t ∧
      planeOf i (2 * d + bitsOf v.toNat 24 1) t = { planeOf i (2 * d + bitsOf v.toNat 24 1) s with
        resCount := Nat.max (planeOf i (2 * d + bitsOf v.toNat 24 1) s).resCount (v.toNat % 131072) } := by
  have hno : testBit (v &&& 0xFDFFFFFF).toNat 25 = false :=
    congrArg (· == 1) (bitsOf_and_cleared (lsb := 25) (w := 1) (by decide))
  have hl : bitsOf (v &&& 0xFDFFFFFF).toNat 24 1 = bitsOf v.toNat 24 1 := bitsOf_and_kept (by decide)
  have hn : (v &&& 0xFDFFFFFF).toNat % 131072 = v.toNat % 131072 := by
    rw [show 131072 = 2 ^ 17 from rfl, ← bitsOf_zero, ← bitsOf_zero]
    exact bitsOf_and_kept (by decide)
  have hexec : exec (.resDeclare a d v) s = .next (setPlane i (2 * d + bitsOf v.toNat 24 1)
      (planeDeclared (planeOf i (2 * d + bitsOf v.toNat 24 1) s) (v.toNat % 131072)) (landWrite a.rq d s)) := by
    rw [exec_resDeclare h, resCtl_declares hno, hl, hn]
    exact congrArg _ (declareResident_held (s := landWrite a.rq d s) hslot hgot)
  exact ⟨_, hexec, (planeOf_setPlane ..).trans (planeDeclared_of_counted hset)⟩

/-- A plane whose results from ashlar `n` on are discarded (R77, R131). -/
theorem planeOf_resurveyFrom (i k n : Nat) (s : State) :
    (planeOf i k (resurveyFrom i k n s)).failed = none ∧
      (planeOf i k (resurveyFrom i k n s)).passed = (planeOf i k s).passed.filter (fun x => decide (x.n < n)) := by
  have hlead : ∀ t, planeOf i k (leadCheckStation k t) = planeOf i k t := fun t =>
    (leadCheckStation_touches (Nat.and_self _) (.refl _ t)).planeOf_eq rfl i k
  unfold resurveyFrom
  dsimp only
  rw [hlead, planeOf_setPlane]
  exact ⟨rfl, rfl⟩

theorem resCtl_resurveys {d w i : Nat} {s : State} (h : testBit w 25 = true)
    (hslot : slotOfFsn (rd (R.FRAME.RES_FSN_FSN d) s) s = some i) (hgot : (planeOf i (2 * d + bitsOf w 24 1) s).got = true)
    (horigin : frameOrigin i s = 0) (hcarry : (planeDesc i (2 * d + bitsOf w 24 1) s).carry = false)
    (hfailed : (planeOf i (2 * d + bitsOf w 24 1) s).failed = some (w % 131072)) :
    resCtl d w s = resurveyFrom i (2 * d + bitsOf w 24 1) (w % 131072) s := by
  unfold resCtl
  simp only [h, hslot, hgot, horigin, hcarry, hfailed, if_true]
  rfl

theorem resurvey_resurveys {a : Access} {d i : Nat} {v : Word} {s : State} (h : Reaches a d 0x48 0x114 s)
    (hslot : slotOfFsn (rd (R.FRAME.RES_FSN_FSN d) s) s = some i)
    (hgot : (planeOf i (2 * d + bitsOf v.toNat 24 1) s).got = true) (horigin : frameOrigin i s = 0)
    (hcarry : (planeDesc i (2 * d + bitsOf v.toNat 24 1) s).carry = false)
    (hfailed : (planeOf i (2 * d + bitsOf v.toNat 24 1) s).failed = some (v.toNat % 131072)) :
    ∃ t, exec (.resurvey a d v) s = .next t ∧ (planeOf i (2 * d + bitsOf v.toNat 24 1) t).failed = none ∧
      (planeOf i (2 * d + bitsOf v.toNat 24 1) t).passed =
        (planeOf i (2 * d + bitsOf v.toNat 24 1) s).passed.filter (fun x => decide (x.n < v.toNat % 131072)) := by
  have hyes : testBit (v ||| 0x2000000).toNat 25 = true := (or_bit v 0x2000000 25).trans (Bool.or_true _)
  have hl : bitsOf (v ||| 0x2000000).toNat 24 1 = bitsOf v.toNat 24 1 := bitsOf_or_kept (by decide)
  have hn : (v ||| 0x2000000).toNat % 131072 = v.toNat % 131072 := by
    rw [show 131072 = 2 ^ 17 from rfl, ← bitsOf_zero, ← bitsOf_zero]
    exact bitsOf_or_kept (by decide)
  have hexec : exec (.resurvey a d v) s =
      .next (resurveyFrom i (2 * d + bitsOf v.toNat 24 1) (v.toNat % 131072) (landWrite a.rq d s)) := by
    rw [exec_resurvey h, resCtl_resurveys (s := landWrite a.rq d s) hyes hslot (hl ▸ hgot) horigin (hl ▸ hcarry)
      (hl ▸ hn ▸ hfailed), hl, hn]
  exact ⟨_, hexec, planeOf_resurveyFrom ..⟩

/-! ### FRAME_ADMITTED and FRAME_ARMED (R79, R84, R90) -/

/-- A slot from which FRAME_ADMITTED takes a frame: LOADING or SURVEYED, and the lead suffices. -/
structure AdmitReady (i : Nat) (s : State) : Prop where
  slot : i < 64
  here : (slotOf i s).left = false
  state : (slotOf i s).st = 1 ∨ (slotOf i s).st = 2
  lead : admissible i s = true

theorem AdmitReady.not_refused {i : Nat} {s : State} (h : AdmitReady i s) :
    ¬ (64 ≤ i ∨ (slotOf i s).left = true ∨ ((slotOf i s).st ≠ 1 ∧ (slotOf i s).st ≠ 2) ∨ (!admissible i s) = true) := by
  obtain ⟨hi, hleft, hst, hadm⟩ := h
  rw [hleft, hadm]
  simp only [Bool.not_true, Bool.false_eq_true, or_false, false_or]
  omega

theorem execFrameAdmitted_plain {i : Nat} {s : State} (h : AdmitReady i s) (hc : frameCount i s = 0) :
    execFrameAdmitted i s = .next (evt 0 0x48 1 (setSlot i { slotOf i s with st := 3 } s)) := by
  unfold execFrameAdmitted
  dsimp only
  rw [if_neg h.not_refused, if_neg (fun hr => hr.1 hc)]

theorem execFrameAdmitted_reserves {i e : Nat} {s : State} (h : AdmitReady i s) (hc : frameCount i s ≠ 0)
    (ho : frameOrigin i s = 0) (hr : (slotOf i s).resv = none) (he : freeEntry s = some e) :
    execFrameAdmitted i s =
      .next (evt 0 0x48 1 (setSlot i { slotOf i s with st := 3, resv := some e } (setRetained e { use := 1 } s))) := by
  unfold execFrameAdmitted
  dsimp only
  rw [if_neg h.not_refused, if_pos ⟨hc, ho, by rw [hr]; rfl⟩, he]

theorem execFrameAdmitted_waits {i : Nat} {s : State} (h : AdmitReady i s) (hc : frameCount i s ≠ 0)
    (ho : frameOrigin i s = 0) (hr : (slotOf i s).resv = none) (he : freeEntry s = none) :
    execFrameAdmitted i s = .next (evt 0 0x48 7 s) := by
  unfold execFrameAdmitted
  dsimp only
  rw [if_neg h.not_refused, if_pos ⟨hc, ho, by rw [hr]; rfl⟩, he]

theorem frameAdmitted_admits {i : Nat} {s : State} (h : AdmitReady i s) (hc : frameCount i s = 0) :
    ∃ t, exec (.frameAdmitted i) s = .next t ∧ slotOf i t = { slotOf i s with st := 3 } ∧ t.retained = s.retained := by
  refine ⟨_, Eq.trans (b := execFrameAdmitted i s) rfl (execFrameAdmitted_plain h hc), ?_, ?_⟩
  · rw [(evt_kept ..).slotOf_eq rfl, slotOf_setSlot]
  · exact (evt_kept ..).retained rfl

theorem frameAdmitted_reserves {i e : Nat} {s : State} (h : AdmitReady i s) (hc : frameCount i s ≠ 0)
    (ho : frameOrigin i s = 0) (hr : (slotOf i s).resv = none) (he : freeEntry s = some e) :
    ∃ t, exec (.frameAdmitted i) s = .next t ∧ slotOf i t = { slotOf i s with st := 3, resv := some e } ∧
      retainedOf e t = { use := 1 } := by
  refine ⟨_, Eq.trans (b := execFrameAdmitted i s) rfl (execFrameAdmitted_reserves h hc ho hr he), ?_, ?_⟩
  · rw [(evt_kept ..).slotOf_eq rfl, slotOf_setSlot]
  · rw [(evt_kept ..).retainedOf_eq rfl, (setSlot_touches (Nat.and_self _) (.refl _ _)).retainedOf_eq rfl,
      retainedOf_setRetained]

theorem frameAdmitted_waits {i : Nat} {s : State} (h : AdmitReady i s) (hc : frameCount i s ≠ 0)
    (ho : frameOrigin i s = 0) (hr : (slotOf i s).resv = none) (he : freeEntry s = none) :
    ∃ t, exec (.frameAdmitted i) s = .next t ∧ t.slots = s.slots :=
  ⟨_, Eq.trans (b := execFrameAdmitted i s) rfl (execFrameAdmitted_waits h hc ho hr he), (evt_kept ..).slots rfl⟩

theorem frameArmed_arms {i : Nat} {s : State} (hi : i < 64) (hleft : (slotOf i s).left = false) (hst : (slotOf i s).st = 3)
    (hahead : ∀ j ∈ sharing i s, 1 ≤ (slotOf j s).st → (slotOf j s).st ≤ 4 → later 32 (frameFsn i s) (frameFsn j s) = false) :
    ∃ t, exec (.frameArmed i) s = .next t ∧ slotOf i t = { slotOf i s with st := 4 } ∧ t = { s with slots := t.slots } := by
  have hnone : ((sharing i s).any fun j => decide (1 ≤ (slotOf j s).st) && decide ((slotOf j s).st ≤ 4) &&
      later 32 (frameFsn i s) (frameFsn j s)) = false := by
    rw [List.any_eq_false]
    intro j hj hand
    simp only [Bool.and_eq_true, decide_eq_true_eq] at hand
    obtain ⟨⟨hlo, hhi⟩, hlater⟩ := hand
    exact Bool.false_ne_true ((hahead j hj hlo hhi).symm.trans hlater)
  have hexec : execFrameArmed i s = .next (setSlot i { slotOf i s with st := 4 } s) := by
    unfold execFrameArmed
    dsimp only
    rw [hnone, hleft, hst, if_neg (by simp; omega)]
  exact ⟨_, Eq.trans (b := execFrameArmed i s) rfl hexec, slotOf_setSlot .., rfl⟩

/-- Settles O18: each command's operation on the slot, its planes and its retention entry, and then the reads of them. -/
theorem frameEntryCommandsAct : Obligations.FrameEntryCommandsAct := by
  unfold Obligations.FrameEntryCommandsAct
  refine ⟨?_, ?_, ?_, ?_, ?_, ?_, ?_, ?_, ?_⟩
  · exact fun a v s h hfree hres hpass => frameSubmit_takes h hfree hres hpass
  · exact fun a v s h hfree hres hfail => frameSubmit_rejects h hfree hres hfail
  · exact fun i k m s hm hst hf hgot => planeDescriptorMsg_arrives hm hst hf hgot
  · exact fun a d i v s h hslot hgot hset => resDeclare_declares h hslot hgot hset
  · exact fun a d i v s h hslot hgot horigin hcarry hfailed => resurvey_resurveys h hslot hgot horigin hcarry hfailed
  · exact fun i s hi hleft hst hadm hc => frameAdmitted_admits ⟨hi, hleft, hst, hadm⟩ hc
  · exact fun i e s hi hleft hst hadm hc ho hr he => frameAdmitted_reserves ⟨hi, hleft, hst, hadm⟩ hc ho hr he
  · exact fun i s hi hleft hst hadm hc ho hr he => frameAdmitted_waits ⟨hi, hleft, hst, hadm⟩ hc ho hr he
  · exact fun i s hi hleft hst hahead => frameArmed_arms hi hleft hst hahead

end Sys2Proof.Machine
end

section
/-! PROOFS. Frames leaving the queue, reprints, releases and aborts (R79, R86 to R95). -/

namespace Sys2Proof.Machine

/-! ### A slot is freed -/

/-- The state with the retention entry given up that is still only reserved for a slot (R90). -/
def reservationDropped (i : Nat) (s : State) : State :=
  match (slotOf i s).resv with
  | some e => if (retainedOf e s).use = 1 then setRetained e {} s else s
  | none => s

/-- The state with what the stations hold of slot `i` given up. -/
def slotLetGo (i : Nat) (s : State) : State := (frameStations i s).foldl (fun s k => spoilStation i k s) (reservationDropped i s)

theorem freeSlot_eq (i : Nat) (s : State) : freeSlot i s = dropPlanes i (setSlot i {} (slotLetGo i s)) := rfl

theorem slotOf_freeSlot (i : Nat) (s : State) : slotOf i (freeSlot i s) = {} := by
  rw [freeSlot_eq, (dropPlanes_touches (Nat.and_self _) (.refl _ _)).slotOf_eq rfl, slotOf_setSlot]

theorem freeSlot_freed (i : Nat) (s : State) : (freeSlot i s).freed = s.freed :=
  (freeSlot_touches (Nat.and_self _) (.refl _ s)).freed rfl

/-- An entry that is used stays when a slot is freed; one that is only reserved for the slot does not. -/
theorem retainedOf_reservationDropped {i e : Nat} {s : State} (h : (retainedOf e s).use ≠ 1) :
    retainedOf e (reservationDropped i s) = retainedOf e s := by
  unfold reservationDropped
  split
  next e' _ =>
    split
    next huse => exact retainedOf_setRetained_ne _ _ fun he => h (he ▸ huse)
    next => rfl
  next => rfl

theorem retainedOf_freeSlot {i e : Nat} {s : State} (h : (retainedOf e s).use ≠ 1) :
    retainedOf e (freeSlot i s) = retainedOf e s := by
  have hgone : Touches 0xc0110000002004 (reservationDropped i s) (slotLetGo i s) :=
    foldl_touches (fun _ _ ht => spoilStation_touches rfl ht) (.refl _ _)
  rw [freeSlot_eq, (dropPlanes_touches (Nat.and_self _) (.refl _ _)).retainedOf_eq rfl,
    (setSlot_touches (Nat.and_self _) (.refl _ _)).retainedOf_eq rfl, hgone.retainedOf_eq rfl, retainedOf_reservationDropped h]

/-! ### The freed FIFO (R94) -/

theorem pushFreed_freed (fsn : Nat) (s : State) : (pushFreed fsn s).freed = s.freed ++ [fsn] := (evt_kept ..).freed rfl

theorem freedDone_slot (i : Nat) (s : State) :
    slotOf i (freedDone (.slot i) s) = {} ∧ (freedDone (.slot i) s).freed = s.freed ++ [frameFsn i s] :=
  ⟨slotOf_freeSlot .., (freeSlot_freed ..).trans (pushFreed_freed ..)⟩

theorem freedDone_entry (e : Nat) (s : State) :
    retainedOf e (freedDone (.entry e) s) = {} ∧ (freedDone (.entry e) s).freed = s.freed ++ [(retainedOf e s).fsn] :=
  ⟨retainedOf_setRetained .., pushFreed_freed ..⟩

theorem queueFreed_room {w : FreedWait} {s : State} (hwait : s.freedWait = []) (hroom : s.freed.length < 128) :
    queueFreed w s = freedDone w s := by
  unfold queueFreed
  rw [hwait, if_neg (by simp), if_pos ⟨rfl, hroom⟩]

theorem queueFreed_full {w : FreedWait} {s : State} (hwait : s.freedWait = []) (hfull : 128 ≤ s.freed.length) :
    queueFreed w s = evt 0 0x48 9 { s with freedWait := [w] } := by
  unfold queueFreed
  rw [hwait, if_neg (by simp), if_neg (fun h => Nat.not_lt.mpr hfull h.2)]
  rfl

theorem goFree_printed {i : Nat} {s : State} (ho : frameOrigin i s = 0) : goFree i s = queueFreed (.slot i) s :=
  if_neg (not_not_intro ho)

/-- A frame leaves for FREE while the FIFO has room. -/
theorem goFree_frees {i : Nat} {s : State} (ho : frameOrigin i s = 0) (hwait : s.freedWait = [])
    (hroom : s.freed.length < 128) : slotOf i (goFree i s) = {} ∧ (goFree i s).freed = s.freed ++ [frameFsn i s] := by
  rw [goFree_printed ho, queueFreed_room hwait hroom]
  exact freedDone_slot i s

/-- A frame leaves for FREE while the FIFO is full. -/
theorem goFree_waits {i : Nat} {s : State} (ho : frameOrigin i s = 0) (hwait : s.freedWait = [])
    (hfull : 128 ≤ s.freed.length) :
    slotOf i (goFree i s) = slotOf i s ∧ (goFree i s).freed = s.freed ∧ (goFree i s).freedWait = [.slot i] := by
  rw [goFree_printed ho, queueFreed_full hwait hfull]
  have hevt := evt_kept 0 0x48 9 { s with freedWait := [.slot i] }
  exact ⟨hevt.slotOf_eq rfl i, hevt.freed rfl, hevt.freedWait rfl⟩

/-- A frame leaves for RETAINED: its reserved entry takes its FSN and its count (R90). -/
theorem goRetained_retains {i e : Nat} {s : State} (hr : (slotOf i s).resv = some e) :
    slotOf i (goRetained i s) = {} ∧ (goRetained i s).freed = s.freed ∧
      retainedOf e (goRetained i s) = { use := 2, fsn := frameFsn i s, count := frameCount i s } := by
  have hput := agentPut_touches (agent := agOther) (a := retAddr e s) (bs := descBytes i s) (Nat.and_self _) (.refl _ s)
  unfold goRetained
  rw [hr]
  dsimp only
  refine ⟨slotOf_freeSlot .., (freeSlot_freed ..).trans (hput.freed rfl), ?_⟩
  rw [retainedOf_freeSlot (by rw [retainedOf_setRetained]; exact (by decide : 2 ≠ 1)), retainedOf_setRetained]

/-! ### FRAME_RETIRE (R79, R92) -/

theorem exec_frameRetire_free {i : Nat} {s : State} (hi : i < 64) (hst : (slotOf i s).st = 6) (hc : frameCount i s = 0) :
    exec (.frameRetire i) s = .next (goFree i s) := by
  refine Eq.trans (b := execFrameRetire i s) rfl ?_
  unfold execFrameRetire
  dsimp only
  rw [if_neg (by omega), if_neg (fun h => h.2 hc)]

theorem exec_frameRetire_copies {i : Nat} {s : State} (hi : i < 64) (hst : (slotOf i s).st = 6) (ho : frameOrigin i s = 0)
    (hc : frameCount i s ≠ 0) : exec (.frameRetire i) s = .next (goRetained i s) := by
  refine Eq.trans (b := execFrameRetire i s) rfl ?_
  unfold execFrameRetire
  dsimp only
  rw [if_neg (by omega), if_pos ⟨ho, hc⟩]

/-! ### SPOILED_EXIT (R88, R92) -/

/-- A slot from which SPOILED_EXIT takes a frame. -/
structure SpoiledHere (i : Nat) (s : State) : Prop where
  slot : i < 64
  state : (slotOf i s).st = 7
  here : (slotOf i s).left = false
  notWaiting : .slot i ∉ s.freedWait

theorem SpoiledHere.not_refused {i : Nat} {s : State} (h : SpoiledHere i s) :
    ¬ (64 ≤ i ∨ (slotOf i s).st ≠ 7 ∨ (slotOf i s).left = true ∨ s.freedWait.contains (.slot i) = true) := by
  obtain ⟨hi, hst, hleft, hwait⟩ := h
  simp [hst, hleft, hwait, hi]

theorem exec_spoiledExit_requeues {i : Nat} {s : State} (h : SpoiledHere i s) (hout : spoilOutcome i s = 1) :
    exec (.spoiledExit i) s = .next (requeue i s) := by
  refine Eq.trans (b := execSpoiledExit i s) rfl ?_
  unfold execSpoiledExit
  rw [if_neg h.not_refused, hout]
  rfl

theorem exec_spoiledExit_retains {i : Nat} {s : State} (h : SpoiledHere i s) (hout : spoilOutcome i s = 2) :
    exec (.spoiledExit i) s = .next (goRetained i s) := by
  refine Eq.trans (b := execSpoiledExit i s) rfl ?_
  unfold execSpoiledExit
  rw [if_neg h.not_refused, hout]
  rfl

theorem exec_spoiledExit_frees {i : Nat} {s : State} (h : SpoiledHere i s) (hout : spoilOutcome i s = 0)
    (ho : frameOrigin i s = 0) : exec (.spoiledExit i) s = .next (goFree i s) := by
  refine Eq.trans (b := execSpoiledExit i s) rfl ?_
  unfold execSpoiledExit
  rw [if_neg h.not_refused, hout, if_neg (not_not_intro ho)]
  rfl

/-- A value of the state that each step of a fold leaves. -/
theorem foldl_unchanged {α β : Type} {f : State → β} {g : State → α → State} {l : List α} {s : State}
    (h : ∀ a ∈ l, ∀ t, f (g t a) = f t) : f (l.foldl g s) = f s := by
  induction l generalizing s with
  | nil => rfl
  | cons a t ih =>
    rw [List.forall_mem_cons] at h
    exact (ih h.2).trans (h.1 s)

/-- An ARMED frame returns to ADMITTED, and what its stations decoded of it goes (R88). -/
def backToAdmitted (s : State) (j : Nat) : State :=
  if (slotOf j s).st = 4 then (frameStations j s).foldl (fun s k => dropImaging j k s) (setSlot j { slotOf j s with st := 3 } s)
  else s

theorem slotOf_backToAdmitted {i j : Nat} {s : State} (h : i ≠ j) : slotOf i (backToAdmitted s j) = slotOf i s := by
  have hdrop : Touches 0x80010000000000 (setSlot j { slotOf j s with st := 3 } s)
      ((frameStations j s).foldl (fun s k => dropImaging j k s) (setSlot j { slotOf j s with st := 3 } s)) :=
    foldl_touches (fun _ _ ht => dropImaging_touches rfl ht) (.refl _ _)
  unfold backToAdmitted
  split
  · rw [hdrop.slotOf_eq rfl, slotOf_setSlot_ne _ _ h]
  · rfl

/-- The state with a frame SURVEYED again, before it goes ahead of the frames that share a station with it. -/
def requeued (i : Nat) (s : State) : State :=
  (frameStations i s).foldl (fun s k => setPlane i k { planeOf i k s with imaging := 0 } s)
    (setSlot i { st := 2, resv := (slotOf i s).resv }
      (if frameOrigin i s = 0 ∧ frameCount i s ≠ 255 then setFrameCount i (frameCount i s - 1) s else s))

theorem requeue_eq (i : Nat) (s : State) : requeue i s = (sharing i (requeued i s)).foldl backToAdmitted (requeued i s) := rfl

theorem ne_of_mem_sharing {i j : Nat} {s : State} (h : j ∈ sharing i s) : i ≠ j := by
  unfold sharing at h
  rintro rfl
  simp at h

theorem slotOf_requeue (i : Nat) (s : State) : slotOf i (requeue i s) = { st := 2, resv := (slotOf i s).resv } := by
  rw [requeue_eq, foldl_unchanged (f := slotOf i) fun j hj t => slotOf_backToAdmitted (ne_of_mem_sharing hj)]
  unfold requeued
  rw [foldl_unchanged (f := slotOf i) fun k _ t => (setPlane_touches (Nat.and_self _) (.refl _ t)).slotOf_eq rfl i,
    slotOf_setSlot]

/-! ### The directory of retained frames (R90 to R93) -/

theorem entryOf_congr {fsn : Nat} {s t : State} (hr : t.retained = s.retained)
    (hl : rd (R.FRAME.RET_CFG_LIMIT 0) t = rd (R.FRAME.RET_CFG_LIMIT 0) s) : entryOf fsn t = entryOf fsn s := by
  unfold entryOf retainedOf
  rw [hr, hl]

theorem openSlot_congr {s t : State} (hs : t.slots = s.slots) (h0 : rd (R.FRAME.HOST_RES0_MASK 0) t = rd (R.FRAME.HOST_RES0_MASK 0) s)
    (h1 : rd (R.FRAME.HOST_RES1_MASK 0) t = rd (R.FRAME.HOST_RES1_MASK 0) s) : openSlot t = openSlot s := by
  unfold openSlot slotFree slotOf hostReserved
  rw [hs, h0, h1]

theorem retainedOf_fsn_of_entryOf {fsn e : Nat} {s : State} (h : entryOf fsn s = some e) : (retainedOf e s).fsn = fsn := by
  have hentry := List.find?_some h
  rw [Bool.and_eq_true, beq_iff_eq, beq_iff_eq] at hentry
  exact hentry.2

/-- The state with an entry marked as released (R93). -/
def entryReleased (e : Nat) (s : State) : State := setRetained e { retainedOf e s with released := true } s

/-- A release leaves every entry's use and FSN, so the entry is still found by its FSN. -/
theorem entryOf_entryReleased (fsn e : Nat) (s : State) : entryOf fsn (entryReleased e s) = entryOf fsn s := by
  have hsame : ∀ x, (retainedOf x (entryReleased e s)).use = (retainedOf x s).use ∧
      (retainedOf x (entryReleased e s)).fsn = (retainedOf x s).fsn := by
    intro x
    unfold entryReleased
    by_cases hx : x = e
    · rw [hx, retainedOf_setRetained]
      exact ⟨rfl, rfl⟩
    · rw [retainedOf_setRetained_ne _ _ hx]
      exact ⟨rfl, rfl⟩
  unfold entryOf
  simp only [hsame]
  rfl

theorem entryCheck_frees {fsn e : Nat} {s : State} (he : entryOf fsn s = some e) (hr : (retainedOf e s).released = true)
    (hp : reprinting fsn s = false) : entryCheck fsn s = queueFreed (.entry e) s := by
  unfold entryCheck
  rw [he]
  dsimp only
  rw [hr, hp, if_pos (by simp)]

theorem entryCheck_waits {fsn e : Nat} {s : State} (he : entryOf fsn s = some e) (hp : reprinting fsn s = true) :
    entryCheck fsn s = s := by
  unfold entryCheck
  rw [he]
  dsimp only
  rw [hp, if_neg (by simp)]

/-! ### The outcome of a command of the host -/

theorem cmdResult_kept (cmd result slot : Nat) (s : State) : Touches 0x1004 s (cmdResult cmd result slot s) :=
  cmdResult_touches (Nat.and_self _) (.refl _ s)

theorem word_cmdResult (cmd result slot : Nat) (s : State) : word (R.FRAME.CMD_STAT_VALID 0).addr (cmdResult cmd result slot s) =
    BitVec.ofNat 32 (result + 16 * cmd + 256 * slot + 2147483648) :=
  (evt_block (blockWord_addr (p := 0x48) (o := 0x78) (by decide) (by decide) (by decide)) (by decide)).trans
    (word_putWord_same ..)

/-! ### REPRINT (R91) -/

theorem setEntryCount_kept (e n : Nat) (s : State) :
    Touches 0x20000100c (setRetained e { retainedOf e s with count := n } s) (setEntryCount e n s) :=
  agentPut_touches (Nat.and_self _) (.refl _ _)

/-- The state with a reprint SURVEYED in its slot, its FSN the last one. -/
def reprintShown (i new : Nat) (s : State) : State :=
  wr (R.FRAME.LAST_FSN_FSN 0) new { setSlot i { st := 2 } s with lastFsnValid := true }

/-- The state with the planes of a reprint held by their dies as surveyed. -/
def reprintQueued (i new : Nat) (s : State) : State :=
  (frameStations i (reprintShown i new s)).foldl (fun s k =>
    setPlane i k { got := true, fsn := new, surveyed := (planeDesc i k s).courses } s) (reprintShown i new s)

theorem reprintQueued_holds (i new : Nat) (s : State) :
    slotOf i (reprintQueued i new s) = { st := 2 } ∧ (reprintQueued i new s).lastFsnValid = true ∧
      (reprintQueued i new s).retained = s.retained := by
  have hplanes : Touches 0x4000000 (reprintShown i new s) (reprintQueued i new s) :=
    foldl_touches (fun _ _ ht => setPlane_touches rfl ht) (.refl _ _)
  have hshown : Touches 0x1000004 (setSlot i { st := 2 } s) (reprintShown i new s) :=
    wr_touches rfl (Touches.upD_lastFsnValid rfl (.refl _ _))
  refine ⟨?_, ?_, ?_⟩
  · rw [hplanes.slotOf_eq rfl, hshown.slotOf_eq rfl, slotOf_setSlot]
  · exact hplanes.lastFsnValid rfl
  · rw [hplanes.retained rfl, hshown.retained rfl]
    rfl

/-- A reprint takes its slot, on the state with the retained descriptor copied into it. -/
theorem reprintGo_reprints {i e : Nat} {s : State} (he : entryOf (rd (R.FRAME.REPRINT_FSN_FSN 0) s) s = some e)
    (hrel : (retainedOf e s).released = false) (hpos : 0 < (retainedOf e s).count) (hfew : (retainedOf e s).count < 255)
    (hlast : s.lastFsnValid = true →
      later 32 (rd (R.FRAME.REPRINT_NEW_FSN 0) s) (rd (R.FRAME.LAST_FSN_FSN 0) s) = true)
    (hopen : openSlot s = some i) :
    ∃ u, u.retained = s.retained ∧ reprintGo s = cmdResult 1 0 i
      (setEntryCount e ((retainedOf e s).count - 1) (reprintQueued i (rd (R.FRAME.REPRINT_NEW_FSN 0) s) u)) := by
  have hlast' : (s.lastFsnValid && !later 32 (rd (R.FRAME.REPRINT_NEW_FSN 0) s) (rd (R.FRAME.LAST_FSN_FSN 0) s)) = false := by
    cases hv : s.lastFsnValid with
    | false => rfl
    | true => rw [hlast hv]; rfl
  have hcopied : ∀ b, (putBytes (slotAddr i) b (dropPlanes i (entryBytes e s).2)).retained = s.retained := fun b =>
    Touches.retained (m := 0x1800004045004)
      (putBytes_touches rfl (dropPlanes_touches rfl (entryBytes_touches rfl (.refl _ s)))) rfl
  unfold reprintGo
  simp only [he, hopen]
  rw [hrel, hlast', if_neg (by decide), if_neg (by omega), if_neg (by decide), if_neg (by omega)]
  exact ⟨_, hcopied _, rfl⟩

theorem reprintGo_holds {i e : Nat} {s : State} (he : entryOf (rd (R.FRAME.REPRINT_FSN_FSN 0) s) s = some e)
    (hrel : (retainedOf e s).released = false) (hpos : 0 < (retainedOf e s).count) (hfew : (retainedOf e s).count < 255)
    (hlast : s.lastFsnValid = true →
      later 32 (rd (R.FRAME.REPRINT_NEW_FSN 0) s) (rd (R.FRAME.LAST_FSN_FSN 0) s) = true)
    (hopen : openSlot s = some i) :
    slotOf i (reprintGo s) = { st := 2 } ∧ (reprintGo s).lastFsnValid = true ∧
      retainedOf e (reprintGo s) = { retainedOf e s with count := (retainedOf e s).count - 1 } ∧
      word (R.FRAME.CMD_STAT_VALID 0).addr (reprintGo s) = BitVec.ofNat 32 (16 + 256 * i + 2147483648) := by
  obtain ⟨u, hu, hgo⟩ := reprintGo_reprints he hrel hpos hfew hlast hopen
  obtain ⟨hslot, hvalid, hretained⟩ := reprintQueued_holds i (rd (R.FRAME.REPRINT_NEW_FSN 0) s) u
  rw [hgo]
  generalize reprintQueued i (rd (R.FRAME.REPRINT_NEW_FSN 0) s) u = t at hslot hvalid hretained
  have hcount := setEntryCount_kept e ((retainedOf e s).count - 1) t
  refine ⟨?_, ?_, ?_, ?_⟩
  · rw [(cmdResult_kept ..).slotOf_eq rfl, hcount.slotOf_eq rfl, ← hslot]
    rfl
  · rw [(cmdResult_kept ..).lastFsnValid rfl, hcount.lastFsnValid rfl, ← hvalid]
    rfl
  · rw [(cmdResult_kept ..).retainedOf_eq rfl, hcount.retainedOf_eq rfl, retainedOf_setRetained,
      retainedOf_congr e (hretained.trans hu)]
  · rw [word_cmdResult, Nat.zero_add]

theorem reprint_reprints {a : Access} {i e : Nat} {v : Word} {s : State} (h : Reaches a 0 0x48 0x6C s)
    (he : entryOf (rd (R.FRAME.REPRINT_FSN_FSN 0) s) s = some e)
    (hrel : (retainedOf e s).released = false) (hpos : 0 < (retainedOf e s).count) (hfew : (retainedOf e s).count < 255)
    (hlast : s.lastFsnValid = true →
      later 32 (rd (R.FRAME.REPRINT_NEW_FSN 0) s) (rd (R.FRAME.LAST_FSN_FSN 0) s) = true)
    (hopen : openSlot s = some i) :
    ∃ t, exec (.reprint a v) s = .next t ∧ slotOf i t = { st := 2 } ∧ t.lastFsnValid = true ∧
      retainedOf e t = { retainedOf e s with count := (retainedOf e s).count - 1 } ∧
      word (R.FRAME.CMD_STAT_VALID 0).addr t = BitVec.ofNat 32 (16 + 256 * i + 2147483648) := by
  have hgo : testBit (v ||| 0x80000000).toNat 31 = true := (or_bit v 0x80000000 31).trans (Bool.or_true _)
  have hexec := exec_reprint (v := v) h
  rw [hgo, if_pos rfl] at hexec
  have hstored : Touches 0x404 s ((RegWrite.of a 0 0x48 0x6C (v ||| 0x80000000)).store (landWrite a.rq 0 s)) :=
    RegWrite.store_touches rfl (landWrite_touches rfl (.refl _ s))
  have hrd : ∀ l : Loc, l.addr ≠ Layout.addr 0 0x48 0x6C →
      rd l ((RegWrite.of a 0 0x48 0x6C (v ||| 0x80000000)).store (landWrite a.rq 0 s)) = rd l s := fun _ hl =>
    rd_store_ne (w := RegWrite.of a 0 0x48 0x6C (v ||| 0x80000000)) hl
  generalize (RegWrite.of a 0 0x48 0x6C (v ||| 0x80000000)).store (landWrite a.rq 0 s) = u at hexec hstored hrd
  have hretained := hstored.retained rfl
  have hvalid := hstored.lastFsnValid rfl
  have hentry := retainedOf_congr e hretained
  have hfsn := hrd (R.FRAME.REPRINT_FSN_FSN 0) (by decide)
  have hnew := hrd (R.FRAME.REPRINT_NEW_FSN 0) (by decide)
  have hheld := reprintGo_holds (i := i) (e := e) (s := u)
    (by rw [hfsn, entryOf_congr hretained (hrd _ (by decide)), he]) (by rwa [hentry]) (by rwa [hentry]) (by rwa [hentry])
    (by rwa [hvalid, hnew, hrd (R.FRAME.LAST_FSN_FSN 0) (by decide)])
    (by rw [openSlot_congr (hstored.slots rfl) (hrd _ (by decide)) (hrd _ (by decide)), hopen])
  rw [hentry] at hheld
  exact ⟨_, hexec, hheld⟩

/-! ### FRAME_RELEASE (R93) -/

theorem frameRelease_eq {fsn e : Nat} {s : State} (he : entryOf fsn s = some e) :
    frameRelease fsn s = cmdResult 2 0 0 (entryCheck fsn (entryReleased e s)) := by
  unfold frameRelease
  rw [he]
  rfl

theorem frameRelease_frees {a : Access} {e : Nat} {v : Word} {s : State} (h : Reaches a 0 0x48 0x70 s)
    (he : entryOf v.toNat s = some e) (hp : reprinting v.toNat s = false) (hwait : s.freedWait = [])
    (hroom : s.freed.length < 128) :
    ∃ t, exec (.frameRelease a v) s = .next t ∧ retainedOf e t = {} ∧ t.freed = s.freed ++ [v.toNat] ∧
      word (R.FRAME.CMD_STAT_VALID 0).addr t = BitVec.ofNat 32 (32 + 2147483648) := by
  have he' : entryOf v.toNat (landWrite a.rq 0 s) = some e := he
  have hmarked : retainedOf e (entryReleased e (landWrite a.rq 0 s)) =
      { retainedOf e s with released := true } := retainedOf_setRetained ..
  obtain ⟨hfree, hfreed⟩ := freedDone_entry e (entryReleased e (landWrite a.rq 0 s))
  rw [hmarked] at hfreed
  have hexec : exec (.frameRelease a v) s =
      .next (cmdResult 2 0 0 (freedDone (.entry e) (entryReleased e (landWrite a.rq 0 s)))) := by
    rw [exec_frameRelease h, frameRelease_eq he',
      entryCheck_frees ((entryOf_entryReleased ..).trans he') (by rw [hmarked]) hp,
      queueFreed_room (s := entryReleased e (landWrite a.rq 0 s)) hwait hroom]
  refine ⟨_, hexec, ?_, ?_, word_cmdResult ..⟩
  · rw [(cmdResult_kept ..).retainedOf_eq rfl, hfree]
  · rw [(cmdResult_kept ..).freed rfl, hfreed, retainedOf_fsn_of_entryOf he]
    rfl

theorem frameRelease_marks {a : Access} {e : Nat} {v : Word} {s : State} (h : Reaches a 0 0x48 0x70 s)
    (he : entryOf v.toNat s = some e) (hp : reprinting v.toNat s = true) :
    ∃ t, exec (.frameRelease a v) s = .next t ∧ retainedOf e t = { retainedOf e s with released := true } ∧
      t.freed = s.freed ∧ word (R.FRAME.CMD_STAT_VALID 0).addr t = BitVec.ofNat 32 (32 + 2147483648) := by
  have he' : entryOf v.toNat (landWrite a.rq 0 s) = some e := he
  have hexec : exec (.frameRelease a v) s = .next (cmdResult 2 0 0 (entryReleased e (landWrite a.rq 0 s))) := by
    rw [exec_frameRelease h, frameRelease_eq he', entryCheck_waits ((entryOf_entryReleased ..).trans he') hp]
  refine ⟨_, hexec, ?_, ?_, word_cmdResult ..⟩
  · rw [(cmdResult_kept ..).retainedOf_eq rfl]
    exact retainedOf_setRetained ..
  · exact (cmdResult_kept ..).freed rfl

/-! ### FRAME_ABORT (R95) -/

theorem frameAbort_unknown {a : Access} {v : Word} {s : State} (h : Reaches a 0 0x48 0x74 s)
    (hnone : slotOfFsn v.toNat s = none) :
    ∃ t, exec (.frameAbort a v) s = .next t ∧ t.slots = s.slots ∧
      word (R.FRAME.CMD_STAT_VALID 0).addr t = BitVec.ofNat 32 (1 + 48 + 2147483648) := by
  have hnone' : slotOfFsn v.toNat (landWrite a.rq 0 s) = none := hnone
  have hexec : exec (.frameAbort a v) s = .next (cmdResult 3 1 0 (landWrite a.rq 0 s)) := by
    rw [exec_frameAbort h]
    unfold frameAbort
    rw [hnone']
  exact ⟨_, hexec, (cmdResult_kept ..).slots rfl, word_cmdResult ..⟩

/-- An imaging frame is spoiled with any cause (R79, R86). -/
theorem slotOf_spoilFrame_imaging {i cause k : Nat} {s : State} (hst : (slotOf i s).st = 5) (hleft : (slotOf i s).left = false) :
    (slotOf i (spoilFrame i cause k s)).st = 7 ∧ (slotOf i (spoilFrame i cause k s)).cause = cause ∧
      (slotOf i (spoilFrame i cause k s)).spoiledIn = 5 := by
  have hpurge : ∀ t, slotOf i (spoilPurge i cause t) = slotOf i t := fun t =>
    (spoilPurge_touches (Nat.and_self _) (.refl _ t)).slotOf_eq rfl i
  have hstation : ∀ k t, slotOf i (spoilStation i k t) = slotOf i t := fun k t =>
    (spoilStation_touches (Nat.and_self _) (.refl _ t)).slotOf_eq rfl i
  have hlog : ∀ x t, slotOf i (logSpoil x t) = slotOf i t := fun x t =>
    (logSpoil_touches (Nat.and_self _) (.refl _ t)).slotOf_eq rfl i
  have hcount : ∀ n t, slotOf i { t with spoils := n } = slotOf i t := fun _ _ => rfl
  unfold spoilFrame
  dsimp only
  rw [hleft, hst, if_neg (by simp), hpurge, foldl_unchanged fun k _ t => hstation k t, (evt_kept ..).slotOf_eq rfl, hlog,
    hcount, slotOf_setSlot]
  exact ⟨rfl, rfl, rfl⟩

theorem frameAbort_spoils {a : Access} {i : Nat} {v : Word} {s : State} (h : Reaches a 0 0x48 0x74 s)
    (hslot : slotOfFsn v.toNat s = some i) (hst : (slotOf i s).st = 5) (hleft : (slotOf i s).left = false) :
    ∃ t, exec (.frameAbort a v) s = .next t ∧ (slotOf i t).st = 7 ∧ (slotOf i t).cause = 13 ∧ (slotOf i t).spoiledIn = 5 ∧
      word (R.FRAME.CMD_STAT_VALID 0).addr t = BitVec.ofNat 32 (48 + 2147483648) := by
  have hslot' : slotOfFsn v.toNat (landWrite a.rq 0 s) = some i := hslot
  have hst' : (slotOf i (landWrite a.rq 0 s)).st = 5 := hst
  have hexec : exec (.frameAbort a v) s = .next (cmdResult 3 0 0
      (spoilFrame i 13 ((slotOf i s).begun.getLastD 0) (landWrite a.rq 0 s))) := by
    rw [exec_frameAbort h]
    unfold frameAbort
    rw [hslot']
    dsimp only
    rw [if_pos hst']
    rfl
  obtain ⟨hstate, hcause, hin⟩ :=
    slotOf_spoilFrame_imaging (cause := 13) (k := (slotOf i s).begun.getLastD 0) hst' hleft
  refine ⟨_, hexec, ?_⟩
  rw [(cmdResult_kept ..).slotOf_eq rfl]
  exact ⟨hstate, hcause, hin, word_cmdResult ..⟩

/-! ### FREED_FSN_READ and SPOIL_LOG_READ (R89, R94) -/

theorem freedPop_alone {s : State} (hwait : s.freedWait = []) : (freedPop s).freed = s.freed.drop 1 := by
  unfold freedPop
  dsimp only
  rw [hwait]
  rfl

theorem freedFsnRead_takes {a : Access} {f : Nat} {l : List Nat} {s : State} (h : Answers a 0 0x48 s) (hf : s.freed = f :: l)
    (hwait : s.freedWait = []) :
    ∃ t, exec (.freedFsnRead a) s = .next t ∧ t.freed = l ∧ t.resp = { value := BitVec.ofNat 32 f } := by
  have heffect : readEffect 0 0x48 0xA0 s = freedPop s := rfl
  have hview : liveView 0 0x48 0xA0 s = some (s.freed.headD 0) := rfl
  refine ⟨_, exec_freedFsnRead h, ?_, ?_⟩
  · rw [heffect]
    exact (freedPop_alone hwait).trans (by rw [hf]; rfl)
  · dsimp only
    rw [hview, hf]
    rfl

theorem spoilLogRead_takes {a : Access} {s : State} (h : Answers a 0 0x48 s) :
    ∃ t, exec (.spoilLogRead a) s = .next t ∧ t.spoilLog = s.spoilLog.drop 1 ∧
      t = { s with spoilLog := t.spoilLog, resp := t.resp } :=
  ⟨_, exec_spoilLogRead h, rfl, rfl⟩

/-- Settles O19: how a slot and a retention entry are freed, requeued, retained or spoiled, and then the reads of them. -/
theorem frameExitCommandsAct : Obligations.FrameExitCommandsAct := by
  unfold Obligations.FrameExitCommandsAct
  refine ⟨?_, ?_, ?_, ?_, ?_, ?_, ?_, ?_, ?_, ?_, ?_, ?_, ?_⟩
  · exact fun i s hi hst ho hc hwait hroom => ⟨_, exec_frameRetire_free hi hst hc, goFree_frees ho hwait hroom⟩
  · exact fun i s hi hst ho hc hwait hfull => ⟨_, exec_frameRetire_free hi hst hc, goFree_waits ho hwait hfull⟩
  · exact fun i e s hi hst ho hc hr => ⟨_, exec_frameRetire_copies hi hst ho hc, goRetained_retains hr⟩
  · exact fun i s hi hst hleft hwait hout =>
      ⟨_, exec_spoiledExit_requeues ⟨hi, hst, hleft, hwait⟩ hout, slotOf_requeue i s⟩
  · exact fun i s hi hst hleft hout ho hwait hroom =>
      ⟨_, exec_spoiledExit_frees ⟨hi, hst, hleft, hwait ▸ List.not_mem_nil⟩ hout ho, goFree_frees ho hwait hroom⟩
  · exact fun i e s hi hst hleft hwait hout hr =>
      ⟨_, exec_spoiledExit_retains ⟨hi, hst, hleft, hwait⟩ hout, goRetained_retains hr⟩
  · exact fun a i e v s h he hrel hpos hfew hlast hopen => reprint_reprints h he hrel hpos hfew hlast hopen
  · exact fun a e v s h he hp hwait hroom => frameRelease_frees h he hp hwait hroom
  · exact fun a e v s h he hp => frameRelease_marks h he hp
  · exact fun a v s h hnone => frameAbort_unknown h hnone
  · exact fun a i v s h hslot hst hleft => frameAbort_spoils h hslot hst hleft
  · exact fun a f l s h hf hwait => freedFsnRead_takes h hf hwait
  · exact fun a s h => spoilLogRead_takes h

end Sys2Proof.Machine
end

section
/-! PROOFS. The codec's decode lanes: the survey, the imaging pass, carry-mode streams and roles (R75 to R77, R112, R119, R125,
R126, R130, R493). -/

namespace Sys2Proof.Machine

/-! ### What a lane reads leaves the tables of planes, lanes and imagers -/

theorem readAshlar_kept {p : PlaneDesc} {d n first : Nat} {x : Except Nat (List (List Byte))} {s t : State}
    (h : readAshlar p d n first s = (x, t)) : Touches 0x1800000041004 s t :=
  .ofPair h (readAshlar_touches (Nat.and_self _) (.refl _ s))

theorem readRecord_kept {p : PlaneDesc} {d off line : Nat} {history : List Byte} {x : Except Nat RecordOut} {s t : State}
    (h : readRecord p d off line history s = (x, t)) : Touches 0x1800000041004 s t :=
  .ofPair h (readRecord_touches (Nat.and_self _) (.refl _ s))

theorem setDlane_kept (d n : Nat) (l : DecodeLane) (s : State) : Touches 0x10000000000 s (setDlane d n l s) :=
  setDlane_touches (Nat.and_self _) (.refl _ s)

theorem setPlane_kept (i k : Nat) (q : Plane) (s : State) : Touches 0x4000000 s (setPlane i k q s) :=
  setPlane_touches (Nat.and_self _) (.refl _ s)

theorem setImager_kept (k : Nat) (m : Imager) (s : State) : Touches 0x80000000000000 s (setImager k m s) :=
  setImager_touches (Nat.and_self _) (.refl _ s)

theorem surveyFail_kept (k fsn n reason : Nat) (s : State) : Touches 0x1004 s (surveyFail k fsn n reason s) :=
  surveyFail_touches (Nat.and_self _) (.refl _ s)

/-! ### SURVEY_ASHLAR_START and CARRY_SURVEY_START (R75, R119, R130) -/

/-- A free survey lane to which the work of a plane falls (R130). -/
structure SurveyFree (d n i k : Nat) (s : State) : Prop where
  on : dlaneOn d n s = true
  role : decodeRole d n s = 0
  idle : (dlaneOf d n s).work = none
  stays : (dlaneOf d n s).takeover = none
  die : stDie k = d
  first : firstWork d s = some (i, k)

theorem SurveyFree.not_refused {d n i k : Nat} {s : State} (h : SurveyFree d n i k s) :
    (!dlaneOn d n s || decodeRole d n s != 0 || (dlaneOf d n s).work.isSome || (dlaneOf d n s).takeover.isSome ||
      stDie k != d || firstWork d s != some (i, k)) = false := by
  obtain ⟨hon, hrole, hidle, hstays, hdie, hfirst⟩ := h
  simp [hon, hrole, hidle, hstays, hdie, hfirst]

/-- A plane of which the survey of ashlar `m` has begun. -/
def ashlarBegun (i k m : Nat) (s : State) : Plane :=
  let q := planeOf i k s
  if m = q.starts.length - 1 ∧ !q.redo.contains m then
    { q with starts := q.starts ++ [q.starts.getLastD 0 + peekLines (planeDesc i k s) m s], busy := m :: q.busy }
  else { q with redo := q.redo.filter (· != m), busy := m :: q.busy }

theorem ashlarBegun_busy (i k m : Nat) (s : State) : (ashlarBegun i k m s).busy = m :: (planeOf i k s).busy := by
  unfold ashlarBegun
  dsimp only
  split <;> rfl

theorem surveyAshlarStart_begins {d n i k m : Nat} {s : State} (h : SurveyFree d n i k s) (hm : nextAshlar i k s = some m) :
    ∃ t, exec (.surveyAshlarStart d n i k) s = .next t ∧ dlaneOf d n t = { work := some (.survey i k m), since := s.now } ∧
      (planeOf i k t).busy = m :: (planeOf i k s).busy := by
  have hexec : execSurveyAshlarStart d n i k s =
      .next (setDlane d n { work := some (.survey i k m), since := s.now } (setPlane i k (ashlarBegun i k m s) s)) := by
    unfold execSurveyAshlarStart
    rw [h.not_refused, if_neg (by decide), hm]
    rfl
  refine ⟨_, Eq.trans (b := execSurveyAshlarStart d n i k s) rfl hexec, dlaneOf_setDlane .., ?_⟩
  rw [(setDlane_kept ..).planeOf_eq rfl, planeOf_setPlane, ashlarBegun_busy]

theorem carrySurveyStart_begins {d n i k : Nat} {s : State} (h : SurveyFree d n i k s) (hready : carryReady i k s = true)
    (hentry : (planeOf i k s).carry.entry = none) :
    ∃ t, exec (.carrySurveyStart d n i k) s = .next t ∧ dlaneOf d n t = { work := some (.carry i k), since := s.now } ∧
      t = { s with dlanes := t.dlanes } := by
  have hexec : execCarrySurveyStart d n i k s = .next (setDlane d n { work := some (.carry i k), since := s.now } s) := by
    unfold execCarrySurveyStart
    rw [h.not_refused, hready, if_neg (by decide)]
    dsimp only
    rw [hentry]
  exact ⟨_, Eq.trans (b := execCarrySurveyStart d n i k s) rfl hexec, dlaneOf_setDlane .., rfl⟩

/-! ### SURVEY_ASHLAR_DONE (R75 to R77, R112) -/

/-- A lane whose survey of an ashlar still counts. -/
structure Surveying (d n i k m : Nat) (s : State) : Prop where
  work : (dlaneOf d n s).work = some (.survey i k m)
  counts : (dlaneOf d n s).discard = false
  allowed : surveyable i k s = true
  busy : (planeOf i k s).busy.contains m = true

/-- A plane of which ashlar `m` has failed (R77). -/
def ashlarFailed (q : Plane) (m : Nat) : Plane :=
  { q with failed := some (match q.failed with | some x => Nat.min x m | none => m), busy := q.busy.filter (· != m) }

theorem execSurveyAshlarDone_passes {d n i k m : Nat} {rows : List (List Byte)} {s t : State} (h : Surveying d n i k m s)
    (hread : readAshlar (planeDesc i k s) d m ((planeOf i k s).starts.getD m 0)
      (setDlane d n { takeover := (dlaneOf d n s).takeover } s) = (.ok rows, t)) :
    execSurveyAshlarDone d n s = .next (ashlarPassed i k ⟨m, (planeOf i k s).starts.getD m 0, rows.length,
      rowsZones (planeDesc i k s) (maskRect i k t) ((planeOf i k s).starts.getD m 0) rows⟩ t) := by
  obtain ⟨hwork, hcounts, hallowed, hbusy⟩ := h
  unfold execSurveyAshlarDone
  dsimp only
  rw [hwork]
  dsimp only
  rw [hcounts, hallowed, hbusy, if_neg (by decide), hread]

theorem execSurveyAshlarDone_fails {d n i k m e : Nat} {s t : State} (h : Surveying d n i k m s)
    (hread : readAshlar (planeDesc i k s) d m ((planeOf i k s).starts.getD m 0)
      (setDlane d n { takeover := (dlaneOf d n s).takeover } s) = (.error e, t)) :
    execSurveyAshlarDone d n s =
      .next (surveyFail k (planeOf i k t).fsn m e (setPlane i k (ashlarFailed (planeOf i k t) m) t)) := by
  obtain ⟨hwork, hcounts, hallowed, hbusy⟩ := h
  unfold execSurveyAshlarDone
  dsimp only
  rw [hwork]
  dsimp only
  rw [hcounts, hallowed, hbusy, if_neg (by decide), hread]
  rfl

theorem planeOf_ashlarPassed (i k : Nat) (a : Passed) (s : State) :
    (planeOf i k (ashlarPassed i k a s)).passed = a :: (planeOf i k s).passed := by
  unfold ashlarPassed
  dsimp only
  rw [(surveyedCheck_touches (Nat.and_self _) (.refl _ _)).planeOf_eq rfl, planeOf_setPlane]

/-- What a lane holds, and what its plane held, when it has read an ashlar for the survey. -/
theorem surveyRead_kept {d n i k m first : Nat} {x : Except Nat (List (List Byte))} {p : PlaneDesc} {l : DecodeLane} {s t : State}
    (h : readAshlar p d m first (setDlane d n l s) = (x, t)) : dlaneOf d n t = l ∧ planeOf i k t = planeOf i k s := by
  have hkept := readAshlar_kept h
  exact ⟨(hkept.dlaneOf_eq rfl d n).trans (dlaneOf_setDlane ..),
    (hkept.planeOf_eq rfl i k).trans ((setDlane_kept ..).planeOf_eq rfl i k)⟩

theorem surveyAshlarDone_passes {d n i k m : Nat} {rows : List (List Byte)} {s s1 : State} (h : Surveying d n i k m s)
    (hread : readAshlar (planeDesc i k s) d m ((planeOf i k s).starts.getD m 0)
      (setDlane d n { takeover := (dlaneOf d n s).takeover } s) = (.ok rows, s1)) :
    ∃ t, exec (.surveyAshlarDone d n) s = .next t ∧ dlaneOf d n t = { takeover := (dlaneOf d n s).takeover } ∧
      (planeOf i k t).passed = ⟨m, (planeOf i k s).starts.getD m 0, rows.length,
        rowsZones (planeDesc i k s) (maskRect i k s1) ((planeOf i k s).starts.getD m 0) rows⟩ :: (planeOf i k s).passed := by
  obtain ⟨hlane, hplane⟩ := surveyRead_kept (i := i) (k := k) hread
  refine ⟨_, Eq.trans (b := execSurveyAshlarDone d n s) rfl (execSurveyAshlarDone_passes h hread), ?_, ?_⟩
  · rw [(ashlarPassed_touches (Nat.and_self _) (.refl _ s1)).dlaneOf_eq rfl, hlane]
  · rw [planeOf_ashlarPassed, hplane]

theorem surveyAshlarDone_fails {d n i k m e : Nat} {s s1 : State} (h : Surveying d n i k m s)
    (hnone : (planeOf i k s).failed = none)
    (hread : readAshlar (planeDesc i k s) d m ((planeOf i k s).starts.getD m 0)
      (setDlane d n { takeover := (dlaneOf d n s).takeover } s) = (.error e, s1)) :
    ∃ t, exec (.surveyAshlarDone d n) s = .next t ∧ dlaneOf d n t = { takeover := (dlaneOf d n s).takeover } ∧
      (planeOf i k t).failed = some m ∧ (planeOf i k t).passed = (planeOf i k s).passed := by
  obtain ⟨hlane, hplane⟩ := surveyRead_kept (i := i) (k := k) hread
  refine ⟨_, Eq.trans (b := execSurveyAshlarDone d n s) rfl (execSurveyAshlarDone_fails h hread), ?_, ?_⟩
  · rw [(surveyFail_kept ..).dlaneOf_eq rfl, (setPlane_kept ..).dlaneOf_eq rfl, hlane]
  · rw [(surveyFail_kept ..).planeOf_eq rfl, planeOf_setPlane, hplane]
    unfold ashlarFailed
    rw [hnone]
    exact ⟨rfl, rfl⟩

/-! ### IMG_ASHLAR_START and IMG_ASHLAR_DONE (R113, R126) -/

/-- A station's imager once its next ashlar, of the plane in slot `i`, is in flight. -/
def imagerBegun (i k : Nat) (s : State) : Imager :=
  let p := planeDesc i k s
  let im := imagerOf k s
  let lines := peekLines p im.next s
  let im1 := { im with flying := im.flying ++ [(i, im.next, im.nextLine, decodeRoom p lines)] }
  if p.storedLines ≤ im.nextLine + lines then
    { im1 with slot := none, next := 0, nextLine := 0, skipTo := 0, finished := i :: im1.finished }
  else { im1 with next := im.next + 1, nextLine := im.nextLine + lines }

theorem imagerBegun_flying (i k : Nat) (s : State) : (imagerBegun i k s).flying = (imagerOf k s).flying ++
    [(i, (imagerOf k s).next, (imagerOf k s).nextLine,
      decodeRoom (planeDesc i k s) (peekLines (planeDesc i k s) (imagerOf k s).next s))] := by
  unfold imagerBegun
  dsimp only
  split <;> rfl

/-- The plane that a station decodes has a sound ashlar next, for which the reorder buffer has room (R126). -/
structure ImageReady (i k : Nat) (s : State) : Prop where
  next : nextPlane k s = some i
  under : (imagerOf k s).slot = some i
  ashlars : (planeDesc i k s).carry = false
  noRedo : (imagerOf k s).redo = []
  more : (imagerOf k s).nextLine < (planeDesc i k s).storedLines
  sound : ashlarSound i k (imagerOf k s).next s = true
  room : reorderUsed (imagerOf k s) + decodeRoom (planeDesc i k s) (peekLines (planeDesc i k s) (imagerOf k s).next s) ≤ reorderSize

theorem execImgAshlarStart_begins {d n i k : Nat} {s : State} (hon : dlaneOn d n s = true)
    (hrole : decodeRole d n s = 1 ∨ decodeRole d n s = 2) (hidle : (dlaneOf d n s).work = none)
    (hk : k = 2 * d + (decodeRole d n s - 1)) (h : ImageReady i k s) :
    execImgAshlarStart d n s = .next (setDlane d n { work := some (.image i k (imagerOf k s).next), since := s.now }
      (setImager k (imagerBegun i k s) s)) := by
  obtain ⟨hnext, hunder, hashlars, hnoRedo, hmore, hsound, hroom⟩ := h
  have hlane : ¬ (!dlaneOn d n s || (decodeRole d n s != 1 && decodeRole d n s != 2) || (dlaneOf d n s).work.isSome) = true := by
    rcases hrole with hrole | hrole <;> simp [hon, hrole, hidle]
  have hstart : ¬ (decide ((planeDesc i k s).storedLines ≤ (imagerOf k s).nextLine) ||
      !ashlarSound i k (imagerOf k s).next s || decide (reorderSize < reorderUsed (imagerOf k s) +
        decodeRoom (planeDesc i k s) (peekLines (planeDesc i k s) (imagerOf k s).next s))) = true := by
    simp only [hsound, Bool.not_true, Bool.or_false, Bool.or_eq_true, decide_eq_true_eq]
    omega
  unfold execImgAshlarStart
  dsimp only
  rw [if_neg hlane, ← hk, hnext]
  dsimp only
  rw [hnoRedo]
  dsimp only
  rw [if_pos hunder, hashlars, if_neg (by decide), if_neg hstart]
  rfl

theorem imgAshlarStart_begins {d n i k : Nat} {s : State} (hon : dlaneOn d n s = true)
    (hrole : decodeRole d n s = 1 ∨ decodeRole d n s = 2) (hidle : (dlaneOf d n s).work = none)
    (hk : k = 2 * d + (decodeRole d n s - 1)) (h : ImageReady i k s) :
    ∃ t, exec (.imgAshlarStart d n) s = .next t ∧
      dlaneOf d n t = { work := some (.image i k (imagerOf k s).next), since := s.now } ∧
      (imagerOf k t).flying = (imagerOf k s).flying ++ [(i, (imagerOf k s).next, (imagerOf k s).nextLine,
        decodeRoom (planeDesc i k s) (peekLines (planeDesc i k s) (imagerOf k s).next s))] := by
  refine ⟨_, Eq.trans (b := execImgAshlarStart d n s) rfl (execImgAshlarStart_begins hon hrole hidle hk h),
    dlaneOf_setDlane .., ?_⟩
  rw [(setDlane_kept ..).imagerOf_eq rfl, imagerOf_setImager, imagerBegun_flying]

/-- Lines of which none is skipped enter the reorder buffer behind those that it holds. -/
theorem holdRows_all {k i first : Nat} {rows : List (List Byte)} {s : State} (h : rows ≠ []) :
    holdRows k i first 0 rows s = setImager k { imagerOf k s with held := (imagerOf k s).held ++ [⟨i, first, rows⟩] } s := by
  unfold holdRows
  dsimp only
  rw [Nat.zero_sub, List.drop_zero, if_neg (by simp [h])]
  exact congrArg (fun x => setImager k { imagerOf k s with held := (imagerOf k s).held ++ [⟨i, x, rows⟩] } s) (Nat.max_zero first)

/-- A station's imager without the ashlar that has come back. -/
def imagerLanded (i k m : Nat) (s : State) : Imager :=
  { imagerOf k s with flying := (imagerOf k s).flying.filter (fun g => !(g.1 == i && g.2.1 == m)) }

theorem execImgAshlarDone_decoded {d n i k m first bytes : Nat} {rows : List (List Byte)} {s s2 : State}
    (hwork : (dlaneOf d n s).work = some (.image i k m)) (hcarry : (planeDesc i k s).carry = false)
    (hfly : (imagerOf k s).flying.find? (fun f => f.1 == i && f.2.1 == m) = some (i, m, first, bytes))
    (hskip : (imagerOf k s).skipTo = 0)
    (hread : readAshlar (planeDesc i k s) d m first (setImager k (imagerLanded i k m s)
      (setDlane d n { takeover := (dlaneOf d n s).takeover } s)) = (.ok rows, s2)) :
    execImgAshlarDone d n s = .next (holdRows k i first 0 rows s2) := by
  unfold execImgAshlarDone
  dsimp only
  rw [hwork]
  dsimp only
  rw [hcarry, if_neg (by decide), hfly]
  dsimp only
  unfold imagerLanded at hread
  rw [hread]
  dsimp only
  rw [hskip, ite_self]

theorem imgAshlarDone_holds {d n i k m first bytes : Nat} {rows : List (List Byte)} {s s2 : State}
    (hwork : (dlaneOf d n s).work = some (.image i k m)) (hcarry : (planeDesc i k s).carry = false)
    (hfly : (imagerOf k s).flying.find? (fun f => f.1 == i && f.2.1 == m) = some (i, m, first, bytes))
    (hskip : (imagerOf k s).skipTo = 0)
    (hread : readAshlar (planeDesc i k s) d m first (setImager k (imagerLanded i k m s)
      (setDlane d n { takeover := (dlaneOf d n s).takeover } s)) = (.ok rows, s2)) (hrows : rows ≠ []) :
    ∃ t, exec (.imgAshlarDone d n) s = .next t ∧ dlaneOf d n t = { takeover := (dlaneOf d n s).takeover } ∧
      (imagerOf k t).held = (imagerOf k s).held ++ [⟨i, first, rows⟩] := by
  have hkept := readAshlar_kept hread
  have hexec := (execImgAshlarDone_decoded hwork hcarry hfly hskip hread).trans (congrArg _ (holdRows_all hrows))
  refine ⟨_, Eq.trans (b := execImgAshlarDone d n s) rfl hexec, ?_, ?_⟩
  · rw [(setImager_kept ..).dlaneOf_eq rfl, hkept.dlaneOf_eq rfl, (setImager_kept ..).dlaneOf_eq rfl, dlaneOf_setDlane]
  · rw [imagerOf_setImager, hkept.imagerOf_eq rfl, imagerOf_setImager]
    rfl

/-! ### LANE_ROLE_CHANGE and CODEC_LANE_UNFENCE (R125, R493) -/

theorem dlaneOn_lt {d n : Nat} {s : State} (h : dlaneOn d n s = true) : n < 24 := by
  unfold dlaneOn at h
  simp only [Bool.and_eq_true, decide_eq_true_eq] at h
  exact h.1.1.2

theorem roleLoc_width (d n : Nat) : (roleLoc d n).width = 2 := by
  unfold roleLoc
  split <;> rfl

theorem roleLoc_fits {d n : Nat} (hn : n < 24) : (roleLoc d n).lsb + (roleLoc d n).width ≤ 32 := by
  unfold roleLoc
  split <;> dsimp only <;> omega

theorem roleLoc_blockWord (d n : Nat) : BlockWord (roleLoc d n).addr := by
  unfold roleLoc
  split
  · exact blockWord_addr (p := 0x40) (o := 0x44) (by decide) (by decide) (by decide)
  · exact blockWord_addr (p := 0x40) (o := 0x48) (by decide) (by decide) (by decide)

theorem decodeRole_wr {d n r : Nat} {s : State} (hn : n < 24) (hr : r < 4) : decodeRole d n (wr (roleLoc d n) r s) = r := by
  unfold decodeRole
  rw [rd_wr_same _ _ (roleLoc_fits hn), roleLoc_width]
  exact Nat.mod_eq_of_lt hr

theorem decodeRole_setDlane (d n e m : Nat) (l : DecodeLane) (s : State) : decodeRole d n (setDlane e m l s) = decodeRole d n s := rfl

theorem roleSet_sets {d n r : Nat} {s : State} (hn : n < 24) (hr : r < 4) :
    decodeRole d n (roleSet d n r s) = r ∧ dlaneOf d n (roleSet d n r s) = {} := by
  have hset : decodeRole d n (setDlane d n {} (wr (roleLoc d n) r s)) = r := decodeRole_wr hn hr
  unfold roleSet
  dsimp only
  split
  · exact ⟨hset, dlaneOf_setDlane ..⟩
  · exact ⟨(rd_evt_block (roleLoc_blockWord d n) (by decide)).trans hset,
      ((evt_kept ..).dlaneOf_eq rfl d n).trans (dlaneOf_setDlane ..)⟩

/-- A lane that is to take over a role does so when it is idle, or has put its stream aside. -/
theorem exec_laneRoleChange {d n r : Nat} {s : State} (hon : dlaneOn d n s = true) (htake : (dlaneOf d n s).takeover = some r)
    (hwork : (dlaneOf d n s).work = none ∨ ∃ i k, (dlaneOf d n s).work = some (.carry i k)) :
    ∃ t, exec (.laneRoleChange d n) s = .next (roleSet d n r t) := by
  change ∃ t, execLaneRoleChange d n s = .next (roleSet d n r t)
  unfold execLaneRoleChange
  dsimp only
  rw [htake]
  dsimp only
  rw [hon, if_neg (by decide)]
  rcases hwork with hwork | ⟨i, k, hwork⟩
  · rw [hwork]
    exact ⟨_, rfl⟩
  · rw [hwork]
    exact ⟨_, rfl⟩

theorem laneRoleChange_changes {d n r : Nat} {s : State} (hon : dlaneOn d n s = true) (htake : (dlaneOf d n s).takeover = some r)
    (hr : r < 4) (hwork : (dlaneOf d n s).work = none ∨ ∃ i k, (dlaneOf d n s).work = some (.carry i k)) :
    ∃ t, exec (.laneRoleChange d n) s = .next t ∧ decodeRole d n t = r ∧ dlaneOf d n t = {} := by
  obtain ⟨t, hexec⟩ := exec_laneRoleChange hon htake hwork
  exact ⟨_, hexec, roleSet_sets (dlaneOn_lt hon) hr⟩

theorem codecUnfence_unfences {d n w : Nat} {s : State} (hgo : testBit w 31 = true) (hw : w % 32 = n) (hn : n < 24)
    (hf : .decode d n ∈ s.fenced) (hrole : decodeRole d n s = 3) (hok : faultsHold d 0x40 s = false) :
    codecUnfence d w s = wr (roleLoc d n) 0 (setDlane d n {} (dropFence (.decode d n) s)) := by
  have hdrop : unfence d 0x40 (.decode d n) s = dropFence (.decode d n) s := by
    unfold unfence
    rw [hok, if_neg (by simp [hf]), if_neg (by decide)]
  have hrole' : decodeRole d n (dropFence (.decode d n) s) = 3 := hrole
  have hout : (dropFence (.decode d n) s).fenced.contains (.decode d n) = false := by simp [dropFence]
  unfold codecUnfence
  dsimp only
  rw [hgo, hw, if_neg (by decide), if_neg (Nat.not_le.mpr hn), hdrop, hrole', hout, if_pos (by decide)]

theorem codecLaneUnfence_unfences {a : Access} {d : Nat} {v : Word} {s : State} (h : Reaches a d 0x40 0x54 s)
    (hn : v.toNat % 32 < 24) (hf : .decode d (v.toNat % 32) ∈ s.fenced) (hrole : decodeRole d (v.toNat % 32) s = 3)
    (hok : faultsHold d 0x40 s = false) :
    ∃ t, exec (.codecLaneUnfence a d v) s = .next t ∧ .decode d (v.toNat % 32) ∉ t.fenced ∧
      decodeRole d (v.toNat % 32) t = 0 ∧ dlaneOf d (v.toNat % 32) t = {} := by
  have hgo : testBit (v ||| 0x80000000).toNat 31 = true := (or_bit v 0x80000000 31).trans (Bool.or_true _)
  have hw : (v ||| 0x80000000).toNat % 32 = v.toNat % 32 :=
    calc (v ||| 0x80000000).toNat % 32
      _ = bitsOf (v ||| 0x80000000).toNat 0 5 := (bitsOf_zero _ 5).symm
      _ = bitsOf v.toNat 0 5 := bitsOf_or_kept (by decide)
      _ = v.toNat % 32 := bitsOf_zero _ 5
  refine ⟨_, (exec_codecLaneUnfence h).trans
    (congrArg _ (codecUnfence_unfences (s := landWrite a.rq d s) hgo hw hn hf hrole hok)), ?_, decodeRole_wr hn (by decide), ?_⟩
  · simp [dropFence]
  · rw [(wr_touches (Nat.and_self _) (.refl _ _)).dlaneOf_eq rfl, dlaneOf_setDlane]

/-! ### CARRY_RECORD_DONE (R118 to R120) -/

theorem exec_carryRecordDone {d n i k : Nat} {s : State} (hon : dlaneOn d n s = true)
    (hwork : (dlaneOf d n s).work = some (.carry i k)) :
    exec (.carryRecordDone d n) s = .next (carrySurveyRecord d n i k s) := by
  refine Eq.trans (b := execCarryRecordDone d n s) rfl ?_
  unfold execCarryRecordDone
  rw [hon, hwork, if_neg (by decide)]

theorem carrySurveyRecord_sound {d n i k : Nat} {r : RecordOut} {s s1 : State} (hcounts : (dlaneOf d n s).discard = false)
    (hallowed : surveyable i k s = true)
    (hread : readRecord (planeDesc i k s) d (planeOf i k s).carry.off (planeOf i k s).carry.line (planeOf i k s).carry.history s =
      (.ok r, s1)) : carrySurveyRecord d n i k s = carryBoundary d n i k (carryPassed i k r s1) := by
  unfold carrySurveyRecord
  dsimp only
  rw [hcounts, hallowed, if_neg (by decide), hread]

/-- A plane whose stream is unsound in its next record (R120). -/
def streamFailed (q : Plane) (c : Carry) : Plane :=
  { q with carry := { c with failedAt := some (Nat.min 65535 c.course) }, failed := some (Nat.min 65535 c.course) }

theorem carrySurveyRecord_unsound {d n i k e : Nat} {s s1 : State} (hcounts : (dlaneOf d n s).discard = false)
    (hallowed : surveyable i k s = true)
    (hread : readRecord (planeDesc i k s) d (planeOf i k s).carry.off (planeOf i k s).carry.line (planeOf i k s).carry.history s =
      (.error e, s1)) :
    carrySurveyRecord d n i k s = setDlane d n { takeover := (dlaneOf d n s).takeover }
      (surveyFail k (planeOf i k s).fsn (Nat.min 65535 (planeOf i k s).carry.course) e
        (setPlane i k (streamFailed (planeOf i k s1) (planeOf i k s).carry) s1)) := by
  unfold carrySurveyRecord
  dsimp only
  rw [hcounts, hallowed, if_neg (by decide), hread]
  rfl

/-- The place in a stream after a record in the middle of a course. -/
def carryGoneOn (i k : Nat) (r : RecordOut) (s : State) : Carry :=
  let c := (planeOf i k s).carry
  { c with off := r.off, course := c.course + 1, line := c.line + r.rows.length, history := r.history,
           zones := addZones c.zones (rowsZones (planeDesc i k s) (maskRect i k s) c.line r.rows) }

theorem carryPassed_midCourse {i k : Nat} {r : RecordOut} {s : State}
    (hmid : ((planeOf i k s).carry.line + r.rows.length) % (planeDesc i k s).courseLines ≠ 0)
    (hmore : (planeOf i k s).carry.line + r.rows.length ≠ (planeDesc i k s).storedLines) :
    carryPassed i k r s = setPlane i k { planeOf i k s with carry := carryGoneOn i k r s } s := by
  unfold carryPassed
  dsimp only
  rw [if_neg (not_or.mpr ⟨hmid, hmore⟩)]
  rfl

/-- A lane goes on with its stream while its slice lasts and no other role waits for it. -/
theorem carryBoundary_stays {d n i k : Nat} {s : State} (hcourses : (planeOf i k s).surveyed < (planeDesc i k s).courses)
    (htake : (dlaneOf d n s).takeover = none)
    (hslice : s.now < (dlaneOf d n s).since + 10000 * rd (R.CODEC.CFG_CARRY_SLICE d) s) : carryBoundary d n i k s = s := by
  have hopen : planeComplete i k s = false := by
    unfold planeComplete
    rw [decide_eq_false (Nat.not_le.mpr hcourses), Bool.and_false]
  unfold carryBoundary
  dsimp only
  rw [hopen, htake, decide_eq_false (Nat.not_le.mpr hslice), if_neg (by decide), if_neg (by simp)]

theorem carryRecordDone_goesOn {d n i k : Nat} {r : RecordOut} {s s1 : State} (hon : dlaneOn d n s = true)
    (hwork : (dlaneOf d n s).work = some (.carry i k)) (hcounts : (dlaneOf d n s).discard = false)
    (htake : (dlaneOf d n s).takeover = none) (hallowed : surveyable i k s = true)
    (hread : readRecord (planeDesc i k s) d (planeOf i k s).carry.off (planeOf i k s).carry.line (planeOf i k s).carry.history s =
      (.ok r, s1))
    (hmid : ((planeOf i k s).carry.line + r.rows.length) % (planeDesc i k s1).courseLines ≠ 0)
    (hmore : (planeOf i k s).carry.line + r.rows.length ≠ (planeDesc i k s1).storedLines)
    (hcourses : (planeOf i k s).surveyed < (planeDesc i k s1).courses)
    (hslice : s.now < (dlaneOf d n s).since + 10000 * rd (R.CODEC.CFG_CARRY_SLICE d) s1) :
    ∃ t, exec (.carryRecordDone d n) s = .next t ∧ dlaneOf d n t = dlaneOf d n s ∧ (planeOf i k t).carry.off = r.off ∧
      (planeOf i k t).carry.line = (planeOf i k s).carry.line + r.rows.length ∧ (planeOf i k t).carry.history = r.history := by
  have hkept := readRecord_kept hread
  have hplane := hkept.planeOf_eq rfl i k
  have hlane : ∀ q, dlaneOf d n (setPlane i k q s1) = dlaneOf d n s := fun q =>
    ((setPlane_kept i k q s1).dlaneOf_eq rfl d n).trans (hkept.dlaneOf_eq rfl d n)
  have hstays : carryBoundary d n i k (setPlane i k { planeOf i k s1 with carry := carryGoneOn i k r s1 } s1) =
      setPlane i k { planeOf i k s1 with carry := carryGoneOn i k r s1 } s1 := by
    refine carryBoundary_stays ?_ ?_ ?_
    · rw [planeOf_setPlane, hplane]
      exact hcourses
    · rw [hlane, htake]
    · rw [hlane, (setPlane_kept ..).now rfl, hkept.now rfl]
      exact hslice
  have hexec : exec (.carryRecordDone d n) s =
      .next (setPlane i k { planeOf i k s1 with carry := carryGoneOn i k r s1 } s1) := by
    rw [exec_carryRecordDone hon hwork, carrySurveyRecord_sound hcounts hallowed hread,
      carryPassed_midCourse (by rwa [hplane]) (by rwa [hplane]), hstays]
  refine ⟨_, hexec, hlane _, ?_⟩
  rw [planeOf_setPlane, ← hplane]
  exact ⟨rfl, rfl, rfl⟩

theorem carryRecordDone_fails {d n i k e : Nat} {s s1 : State} (hon : dlaneOn d n s = true)
    (hwork : (dlaneOf d n s).work = some (.carry i k)) (hcounts : (dlaneOf d n s).discard = false)
    (hallowed : surveyable i k s = true)
    (hread : readRecord (planeDesc i k s) d (planeOf i k s).carry.off (planeOf i k s).carry.line (planeOf i k s).carry.history s =
      (.error e, s1)) :
    ∃ t, exec (.carryRecordDone d n) s = .next t ∧ dlaneOf d n t = { takeover := (dlaneOf d n s).takeover } ∧
      (planeOf i k t).failed = some (Nat.min 65535 (planeOf i k s).carry.course) := by
  refine ⟨_, (exec_carryRecordDone hon hwork).trans (congrArg _ (carrySurveyRecord_unsound hcounts hallowed hread)),
    dlaneOf_setDlane .., ?_⟩
  rw [(setDlane_kept ..).planeOf_eq rfl, (surveyFail_kept ..).planeOf_eq rfl, planeOf_setPlane]
  rfl

/-- Settles O20: each command's next state for a lane, its plane or its station's imager, and then the reads of it. -/
theorem decodeLaneCommandsAct : Obligations.DecodeLaneCommandsAct := by
  unfold Obligations.DecodeLaneCommandsAct
  refine ⟨?_, ?_, ?_, ?_, ?_, ?_, ?_, ?_, ?_, ?_⟩
  · exact fun d n i k m s hon hrole hidle hstays hdie hfirst hm =>
      surveyAshlarStart_begins ⟨hon, hrole, hidle, hstays, hdie, hfirst⟩ hm
  · exact fun d n i k m rows s s1 hwork hcounts hallowed hbusy hread =>
      surveyAshlarDone_passes ⟨hwork, hcounts, hallowed, hbusy⟩ hread
  · exact fun d n i k m e s s1 hwork hcounts hallowed hbusy hnone hread =>
      surveyAshlarDone_fails ⟨hwork, hcounts, hallowed, hbusy⟩ hnone hread
  · exact fun d n i k s hon hrole hidle hk hnext hunder hashlars hnoRedo hmore hsound hroom =>
      imgAshlarStart_begins hon hrole hidle hk ⟨hnext, hunder, hashlars, hnoRedo, hmore, hsound, hroom⟩
  · exact fun d n i k m first bytes rows s s2 hwork hcarry hfly hskip hread hrows =>
      imgAshlarDone_holds hwork hcarry hfly hskip hread hrows
  · exact fun d n r s hon htake hr hwork => laneRoleChange_changes hon htake hr hwork
  · exact fun a d v s h hn hf hrole hok => codecLaneUnfence_unfences h hn hf hrole hok
  · exact fun d n i k s hon hrole hidle hstays hdie hfirst hready hentry =>
      carrySurveyStart_begins ⟨hon, hrole, hidle, hstays, hdie, hfirst⟩ hready hentry
  · exact fun d n i k r s s1 hon hwork hcounts htake hallowed hread hmid hmore hcourses hslice =>
      carryRecordDone_goesOn hon hwork hcounts htake hallowed hread hmid hmore hcourses hslice
  · exact fun d n i k e s s1 hon hwork hcounts hallowed hread => carryRecordDone_fails hon hwork hcounts hallowed hread

end Sys2Proof.Machine
end

section
/-! PROOFS. Jobs of the compressor lanes (R137 to R153). -/

namespace Sys2Proof.Machine

/-! ### The table of jobs that an operation leaves -/

theorem Touches.jobOf_eq {m : Nat} {z s : State} (h : Touches m z s) (hm : m.testBit 37 = false) (d n : Nat) :
    jobOf d n s = jobOf d n z := jobOf_congr d n (h.jobs hm)

theorem completeJob_kept (d : Nat) (bg : Bool) (slot status tag done lines bytes fail reason : Nat) (s : State) :
    Touches 0xc000001004 s (completeJob d bg slot status tag done lines bytes fail reason s) :=
  completeJob_touches (Nat.and_self _) (.refl _ s)

theorem buffersUndefined_kept (d list fuel buf pos : Nat) (s : State) :
    Touches 0x4008 s (buffersUndefined d list fuel buf pos s) :=
  buffersUndefined_touches (Nat.and_self _) (.refl _ s)

theorem abortQueued_kept (d tag : Nat) (bg : Bool) (l : List Nat) (s : State) :
    Touches 0xc000001004 s (abortQueued d tag bg l s) :=
  abortQueued_touches (Nat.and_self _) (.refl _ s)

theorem jobDeclare_kept (d : Nat) (q : JobDesc) (done : Nat) (s : State) : Touches 0xc000000 s (jobDeclare d q done s) :=
  jobDeclare_touches (Nat.and_self _) (.refl _ s)

/-! ### JOB_SUBMIT (R137) -/

/-- The word of a ring's HEAD holds the index alone. -/
theorem rd_head_store {a : Access} {d : Nat} {bg : Bool} {v : Word} (s : State) :
    rd (headLoc d bg) ((RegWrite.of a d 0x40 (if bg then 0x68 else 0x60) v).store s) = v.toNat % 128 := by
  have hfield : fieldAfter a.bar2 (Layout.rw 0 7 0) (rd (headLoc d bg) s) (bitsOf v.toNat 0 7) = v.toNat % 128 := by
    rw [bitsOf_zero]
    change Nat.max 0 (Nat.min 127 (v.toNat % 128)) = v.toNat % 128
    exact (Nat.max_eq_right (Nat.zero_le _)).trans (Nat.min_eq_right (Nat.le_of_lt_succ (Nat.mod_lt _ (by decide))))
  cases bg
  · exact (rd_store_of (o := 0x60) rfl (List.mem_singleton_self (Layout.rw 0 7 0)) s).trans hfield
  · exact (rd_store_of (o := 0x68) rfl (List.mem_singleton_self (Layout.rw 0 7 0)) s).trans hfield

theorem jobSubmit_takesHead {a : Access} {d : Nat} {bg : Bool} {v : Word} {s : State}
    (h : Reaches a d 0x40 (if bg then 0x68 else 0x60) s) :
    ∃ t, exec (.jobSubmit a d bg v) s = .next t ∧ rd (headLoc d bg) t = v.toNat % 128 ∧
      t = { s with regs := t.regs, landed := t.landed } :=
  ⟨_, exec_jobSubmit h, rd_head_store _, rfl⟩

/-! ### The end of a job: its completion record (R137, R151) -/

/-- `a` lies in the completion records of a die's rings. -/
def RecordWord (d a : Nat) : Prop := 0x1000000 * d + 0x304000 ≤ a ∧ a < 0x1000000 * d + 0x306000

theorem recordWord_jobDone {d i k : Nat} (bg : Bool) (hi : i < 128) (hk : k < 32) : RecordWord d (jobDoneAddr d bg i + k) := by
  unfold RecordWord jobDoneAddr
  cases bg
  · simp only [Bool.false_eq_true, if_false]
    omega
  · simp only [if_true]
    omega

theorem RecordWord.notPba {d a : Nat} (h : RecordWord d a) : NotPba a := by
  unfold RecordWord at h
  unfold NotPba
  omega

theorem RecordWord.ne_page {d a p o : Nat} (h : RecordWord d a) (hp : p < 256) (ho : o < 0x1000) : a ≠ Layout.addr d p o := by
  unfold RecordWord at h
  unfold Layout.addr
  omega

theorem RecordWord.ne_tail {d a : Nat} (h : RecordWord d a) (bg : Bool) : a ≠ (tailLoc d bg).addr := by
  cases bg
  · exact h.ne_page (p := 0x40) (o := 0x64) (by decide) (by decide)
  · exact h.ne_page (p := 0x40) (o := 0x6C) (by decide) (by decide)

theorem word_setJobNext (a d i : Nat) (bg : Bool) (s : State) : word a (setJobNext d bg i s) = word a s := rfl

/-- TAIL is the one register that moves over ended slots. -/
theorem word_advanceTail_ne {a d : Nat} {bg : Bool} (h : a ≠ (tailLoc d bg).addr) (fuel : Nat) (s : State) :
    word a (advanceTail d bg fuel s) = word a s := by
  induction fuel generalizing s with
  | zero => rfl
  | succ fuel ih =>
    unfold advanceTail
    dsimp only
    split
    · rw [ih, word_wr_ne _ _ h]
      split
      · exact word_setJobNext ..
      · rfl
    · rfl

theorem word_withEnded (a : Nat) (ended : List Nat) (s : State) : word a { s with jobEnded := ended } = word a s := rfl

/-- The count, the events and the tail that follow a completion record leave it as it is. -/
theorem word_afterRecord {a d : Nat} (h : RecordWord d a) (bg : Bool) (count mask fuel : Nat) (ended : List Nat) (s : State) :
    word a (advanceTail d bg fuel
      { evtMask d 0x40 mask (wr (R.CODEC.JOBS_DONE_COUNT d) count s) with jobEnded := ended }) = word a s := by
  have hcount : a ≠ (R.CODEC.JOBS_DONE_COUNT d).addr := h.ne_page (p := 0x40) (o := 0x74) (by decide) (by decide)
  have hevt : a ≠ (R.HDR.EVT_STAT_EVT d 0x40).addr := h.ne_page (p := 0x40) (o := 0x10) (by decide) (by decide)
  rw [word_advanceTail_ne (h.ne_tail bg), word_withEnded, word_evtMask_ne _ _ _ _ h.notPba hevt, word_wr_ne _ _ hcount]

/-- A completion record shows its status and VALID. -/
theorem completeJob_status {d slot : Nat} (bg : Bool) (status tag done lines bytes fail reason : Nat) (s : State)
    (hi : slot < 128) :
    word (jobDoneAddr d bg slot) (completeJob d bg slot status tag done lines bytes fail reason s) =
      BitVec.ofNat 32 (status + 256) :=
  (word_afterRecord (recordWord_jobDone (k := 0) bg hi (by decide)) ..).trans (word_putWord_same ..)

/-- And the tag of its job. -/
theorem completeJob_tag {d slot : Nat} (bg : Bool) (status tag done lines bytes fail reason : Nat) (s : State)
    (hi : slot < 128) :
    word (jobDoneAddr d bg slot + 4) (completeJob d bg slot status tag done lines bytes fail reason s) =
      BitVec.ofNat 32 tag := by
  refine (word_afterRecord (recordWord_jobDone bg hi (by decide)) ..).trans ?_
  iterate 7 rw [word_putWord_ne _ _ (by omega)]
  exact word_putWord_same ..

theorem endJob_none {d n : Nat} {s : State} (h : jobOf d n s = none) (status fail reason : Nat) :
    endJob d n status fail reason s = s := by
  unfold endJob
  rw [h]

theorem endJob_some {d n : Nat} {j : Job} {s : State} (h : jobOf d n s = some j) (status fail reason : Nat) :
    endJob d n status fail reason s = completeJob d j.bg j.ring status (parseJob j.desc).tag j.done j.lines
      ((parseJob j.desc).base + j.bytes) fail reason (setJob d n none (if status = 0 ∨ status = 2 then s
        else buffersUndefined d (parseJob j.desc).bufs (listBound d s) j.buf j.pos s)) := by
  unfold endJob
  rw [h]

/-- The lane whose job ends is free, and no other lane's job is touched. -/
theorem jobOf_endJob (d n m status fail reason : Nat) (s : State) :
    jobOf d m (endJob d n status fail reason s) = if m = n then none else jobOf d m s := by
  cases hj : jobOf d n s with
  | none =>
    rw [endJob_none hj]
    split
    · next hm => rw [hm, hj]
    · rfl
  | some j =>
    rw [endJob_some hj, (completeJob_kept ..).jobOf_eq rfl]
    by_cases hm : m = n
    · rw [if_pos hm, hm, jobOf_setJob]
    · rw [if_neg hm, jobOf_setJob_ne _ _ (by omega)]
      split
      · rfl
      · exact (buffersUndefined_kept ..).jobOf_eq rfl d m

/-! ### JOB_START (R138 to R140, R147) -/

/-- A free lane to which a ring offers the job in slot `i` (R138). -/
structure JobOffered (d n i : Nat) (bg : Bool) (s : State) : Prop where
  up : blockUp d 0x40 s = true
  lane : n < 8
  free : jobOf d n s = none
  unfenced : isFenced (.comp d n) s = false
  pick : pickJob d s = some (bg, i)

/-- The descriptor in a ring's slot as it stands. -/
def descAt (d : Nat) (bg : Bool) (i : Nat) (s : State) : JobDesc := parseJob (wordBytes (jobDescAddr d bg i) 16 s)

/-- The job of a slot before its first ashlar: it begins at SKIP (R147), with the lines before it complete, which
for an EXPAND job are the model's choice (log 150). -/
def jobTaken (d : Nat) (bg : Bool) (i : Nat) (s : State) : Job :=
  ⟨bg, i, wordBytes (jobDescAddr d bg i) 16 s, (descAt d bg i s).skip, linesBefore (descAt d bg i s) s, 0, 0, 0, none⟩

/-- The lane has taken the job, and the ring offers the slot after it. -/
def jobBegun (d n : Nat) (bg : Bool) (i : Nat) (s : State) : State :=
  setJob d n (some (jobTaken d bg i s)) (setJobNext d bg ((i + 1) % 128) s)

theorem jobOf_jobBegun (d n : Nat) (bg : Bool) (i : Nat) (s : State) :
    jobOf d n (jobBegun d n bg i s) = some (jobTaken d bg i s) := jobOf_setJob ..

theorem jobNextOf_jobBegun (d n : Nat) (bg : Bool) (i : Nat) (s : State) :
    jobNextOf d bg (jobBegun d n bg i s) = (i + 1) % 128 := mapGet_set_same ..

theorem execJobStart_offered {d n i : Nat} {bg : Bool} {s : State} (h : JobOffered d n i bg s) :
    execJobStart d n s = .next (if !jobOk d bg (descAt d bg i s) s then endJob d n 2 0 0 (jobBegun d n bg i s)
      else if jobTotal (descAt d bg i s) ≤ (descAt d bg i s).skip then endJob d n 0 0 0 (jobBegun d n bg i s)
      else jobBegun d n bg i s) := by
  obtain ⟨hup, hlane, hfree, hopen, hpick⟩ := h
  unfold execJobStart
  rw [if_pos ⟨hup, hlane, by rw [hfree]; rfl, by rw [hopen]; rfl⟩, hpick]
  rfl

theorem jobStart_takes {d n i : Nat} {bg : Bool} {s : State} (h : JobOffered d n i bg s)
    (hok : jobOk d bg (descAt d bg i s) s = true) (hmore : (descAt d bg i s).skip < jobTotal (descAt d bg i s)) :
    ∃ t, exec (.jobStart d n) s = .next t ∧ jobOf d n t = some (jobTaken d bg i s) ∧ jobNextOf d bg t = (i + 1) % 128 ∧
      t = { s with jobs := t.jobs, jobNext := t.jobNext } := by
  have hexec : execJobStart d n s = .next (jobBegun d n bg i s) := by
    rw [execJobStart_offered h, hok, if_neg (by decide), if_neg (Nat.not_le.mpr hmore)]
  exact ⟨_, Eq.trans (b := execJobStart d n s) rfl hexec, jobOf_jobBegun .., jobNextOf_jobBegun .., rfl⟩

theorem jobStart_refuses {d n i : Nat} {bg : Bool} {s : State} (h : JobOffered d n i bg s) (hi : i < 128)
    (hok : jobOk d bg (descAt d bg i s) s = false) :
    ∃ t, exec (.jobStart d n) s = .next t ∧ jobOf d n t = none ∧ word (jobDoneAddr d bg i) t = 258 ∧
      word (jobDoneAddr d bg i + 4) t = BitVec.ofNat 32 (descAt d bg i s).tag := by
  have hexec : execJobStart d n s = .next (endJob d n 2 0 0 (jobBegun d n bg i s)) := by
    rw [execJobStart_offered h, hok, if_pos (by decide)]
  refine ⟨_, Eq.trans (b := execJobStart d n s) rfl hexec, (jobOf_endJob ..).trans (if_pos rfl), ?_, ?_⟩
  · rw [endJob_some (jobOf_jobBegun ..)]
    exact completeJob_status bg 2 _ _ _ _ _ _ _ hi
  · rw [endJob_some (jobOf_jobBegun ..)]
    exact completeJob_tag bg 2 _ _ _ _ _ _ _ hi

/-! ### JOB_ASHLAR_DONE of a compression (R143 to R150) -/

/-- The address of the source lines of the ashlar that a job works on. -/
def jobSource (q : JobDesc) (j : Job) : Nat := q.src + (jobPart q j.done).1 * q.stride

/-- The ashlar made of those lines. -/
def jobAshlar (q : JobDesc) (j : Job) (raw : List Byte) : List Byte :=
  compressAshlar q.level q.filter (jobPart q j.done).2 q.stride raw

/-- A job once an output that begins at `at0` and ends at (`buf`, `pos`) is in place. -/
def jobPlaced (j : Job) (lines bytes at0 buf pos : Nat) : Job :=
  { j with done := j.done + 1, lines := j.lines + lines, bytes := j.bytes + bytes, buf := buf, pos := pos,
           first := some (j.first.getD at0) }

/-- An output of a placed compression is written whole, with its index entry: the pieces `ps`, the place (`buf`, `pos`) after
them, and the state left (R141, R142, R145). -/
structure OutputWritten (d : Nat) (j : Job) (q : JobDesc) (out : List Byte) (ps : List (Nat × Nat)) (buf pos : Nat)
    (s s2 s3 s4 : State) : Prop where
  place : wholePlace d q.bufs q.align64 (listBound d s) j.buf j.pos out.length s = (.ok (ps, buf, pos), s2)
  pieces : writePieces d ps out s2 = (true, s3)
  entry : (if q.writeIndex then jobPut d (q.index + 8 * j.done) (leBytes 5 (ps.headD (0, 0)).1 ++ leBytes 3 out.length) s3
    else (true, s3)) = (true, s4)

theorem placeOutput_goesOn {d n lines buf pos : Nat} {j : Job} {q : JobDesc} {out : List Byte} {ps : List (Nat × Nat)}
    {s s2 s3 s4 : State} (hop : q.op = 1) (hplaced : q.placed = true) (h : OutputWritten d j q out ps buf pos s s2 s3 s4)
    (hmore : j.done + 1 < jobTotal q) :
    placeOutput d n j q lines out false s = jobDeclare d q (j.done + 1)
      (setJob d n (some (jobPlaced j lines out.length (ps.headD (0, 0)).1 buf pos)) s4) := by
  obtain ⟨hplace, hpieces, hentry⟩ := h
  have hindex : (q.op = 1 ∧ q.writeIndex = true ∧ (!false) = true) = (q.writeIndex = true) := by simp [hop]
  unfold placeOutput
  rw [if_pos hplaced, hplace]
  dsimp only
  rw [hpieces]
  dsimp only
  rw [if_pos hplaced]
  simp only [hindex, hentry]
  rw [if_neg (by decide), if_pos hmore, if_neg (by decide)]
  rfl

/-- A lane that compresses its next ashlar from sound memory of its own die (R143). -/
structure Compressing (d n : Nat) (j : Job) (raw : List Byte) (s s1 : State) : Prop where
  job : jobOf d n s = some j
  up : blockUp d 0x40 s = true
  unfenced : isFenced (.comp d n) s = false
  op : (parseJob j.desc).op = 1
  die : memDie (jobSource (parseJob j.desc) j) = d
  read : agentRead agCodec (jobSource (parseJob j.desc) j) ((jobPart (parseJob j.desc) j.done).2 * (parseJob j.desc).stride) s =
    (.ok raw, s1)
  whole : jobCarry d (parseJob j.desc) s = false

theorem execJobAshlarDone_compresses {d n : Nat} {j : Job} {raw : List Byte} {s s1 : State} (h : Compressing d n j raw s s1) :
    execJobAshlarDone d n s = .next (placeOutput d n j (parseJob j.desc) (jobPart (parseJob j.desc) j.done).2
      (jobAshlar (parseJob j.desc) j raw) false s1) := by
  obtain ⟨hjob, hup, hopen, hop, hdie, hread, hwhole⟩ := h
  unfold jobSource at hdie hread
  unfold execJobAshlarDone
  rw [hjob]
  dsimp only
  rw [hup, hopen, if_neg (by decide), if_pos hop, if_neg (not_not.mpr hdie), hread]
  dsimp only
  rw [hwhole, if_neg (by decide)]
  rfl

theorem jobAshlarDone_goesOn {d n buf pos : Nat} {j : Job} {raw : List Byte} {ps : List (Nat × Nat)} {s s1 s2 s3 s4 : State}
    (h : Compressing d n j raw s s1) (hplaced : (parseJob j.desc).placed = true)
    (hout : OutputWritten d j (parseJob j.desc) (jobAshlar (parseJob j.desc) j raw) ps buf pos s1 s2 s3 s4)
    (hmore : j.done + 1 < jobTotal (parseJob j.desc)) :
    ∃ t, exec (.jobAshlarDone d n) s = .next t ∧ jobOf d n t = some (jobPlaced j (jobPart (parseJob j.desc) j.done).2
      (jobAshlar (parseJob j.desc) j raw).length (ps.headD (0, 0)).1 buf pos) := by
  have hexec := (execJobAshlarDone_compresses h).trans (congrArg _ (placeOutput_goesOn h.op hplaced hout hmore))
  exact ⟨_, Eq.trans (b := execJobAshlarDone d n s) rfl hexec, ((jobDeclare_kept ..).jobOf_eq rfl d n).trans (jobOf_setJob ..)⟩

/-! ### JOB_ABORT (R152) -/

/-- What one lane does when the jobs of a tag are aborted. -/
def abortLane (d tag n : Nat) (s : State) : State :=
  match jobOf d n s with
  | some j => if (parseJob j.desc).tag = tag then endJob d n 6 0 0 s else s
  | none => s

theorem abortRunning_cons (d tag n : Nat) (l : List Nat) (s : State) :
    abortRunning d tag (n :: l) s = abortRunning d tag l (abortLane d tag n s) := rfl

/-- What JOB_ABORT leaves of the job of a lane. -/
def unlessTagged (tag : Nat) (o : Option Job) : Option Job := o.filter (fun j => (parseJob j.desc).tag != tag)

theorem unlessTagged_some (tag : Nat) (j : Job) :
    unlessTagged tag (some j) = if (parseJob j.desc).tag = tag then none else some j := by
  unfold unlessTagged
  by_cases h : (parseJob j.desc).tag = tag <;> simp [h]

theorem unlessTagged_unlessTagged (tag : Nat) (o : Option Job) : unlessTagged tag (unlessTagged tag o) = unlessTagged tag o := by
  cases o with
  | none => rfl
  | some j =>
    rw [unlessTagged_some]
    split
    · rfl
    · next h => rw [unlessTagged_some, if_neg h]

theorem jobOf_abortLane (d tag n m : Nat) (s : State) :
    jobOf d m (abortLane d tag n s) = if m = n then unlessTagged tag (jobOf d m s) else jobOf d m s := by
  unfold abortLane
  split
  · next j hj =>
    by_cases htag : (parseJob j.desc).tag = tag
    · rw [if_pos htag, jobOf_endJob]
      split
      · next hm => rw [hm, hj, unlessTagged_some, if_pos htag]
      · rfl
    · rw [if_neg htag]
      split
      · next hm => rw [hm, hj, unlessTagged_some, if_neg htag]
      · rfl
  · next hj =>
    split
    · next hm => rw [hm, hj]; rfl
    · rfl

theorem jobOf_abortRunning (d tag m : Nat) (l : List Nat) (s : State) :
    jobOf d m (abortRunning d tag l s) = if m ∈ l then unlessTagged tag (jobOf d m s) else jobOf d m s := by
  induction l generalizing s with
  | nil => rfl
  | cons n l ih =>
    rw [abortRunning_cons, ih, jobOf_abortLane]
    by_cases hm : m = n
    · rw [if_pos hm, unlessTagged_unlessTagged, ite_self, if_pos (List.mem_cons.mpr (.inl hm))]
    · rw [if_neg hm]
      simp only [List.mem_cons, hm, false_or]

theorem jobOf_jobAbort {d tag n : Nat} (s : State) (hn : n < 8) :
    jobOf d n (jobAbort d tag s) = unlessTagged tag (jobOf d n s) := by
  unfold jobAbort
  rw [(abortQueued_kept ..).jobOf_eq rfl, (abortQueued_kept ..).jobOf_eq rfl, jobOf_abortRunning,
    if_pos (List.mem_range.mpr hn)]

theorem jobAbort_leaves {a : Access} {d n : Nat} {v : Word} {s : State} (h : Reaches a d 0x40 0x70 s) (hn : n < 8) :
    ∃ t, exec (.jobAbort a d v) s = .next t ∧ jobOf d n t = unlessTagged v.toNat (jobOf d n s) :=
  ⟨_, exec_jobAbort h, jobOf_jobAbort _ hn⟩

/-- Settles O21: each command's next state for a lane, its job and its ring, and then the reads of it. -/
theorem jobCommandsAct : Obligations.JobCommandsAct := by
  unfold Obligations.JobCommandsAct
  refine ⟨?_, ?_, ?_, ?_, ?_, ?_⟩
  · exact fun a d bg v s h => jobSubmit_takesHead h
  · exact fun d n i bg s hup hn hfree hopen hpick hok hmore => jobStart_takes ⟨hup, hn, hfree, hopen, hpick⟩ hok hmore
  · exact fun d n i bg s hup hn hfree hopen hpick hi hok => jobStart_refuses ⟨hup, hn, hfree, hopen, hpick⟩ hi hok
  · exact fun d n buf pos j raw ps s s1 s2 s3 s4 hjob hup hopen hop hplaced hdie hread hwhole hplace hpieces hentry hmore =>
      jobAshlarDone_goesOn ⟨hjob, hup, hopen, hop, hdie, hread, hwhole⟩ hplaced ⟨hplace, hpieces, hentry⟩ hmore
  · intro a d n j v s h hn hj htag
    obtain ⟨t, hexec, hleft⟩ := jobAbort_leaves h hn
    exact ⟨t, hexec, by rw [hleft, hj, unlessTagged_some, if_pos htag]⟩
  · intro a d n j v s h hn hj htag
    obtain ⟨t, hexec, hleft⟩ := jobAbort_leaves h hn
    exact ⟨t, hexec, by rw [hleft, hj, unlessTagged_some, if_neg htag]⟩

end Sys2Proof.Machine
end

section
/-! PROOFS. The 66-bit blocks of a lane: the scrambler, the descrambler that synchronises itself, and the sync header (R160, R161). -/

namespace Sys2Proof.Machine

/-! ### The scrambler and the descrambler (R161) -/

/-- The bit sent `k` before bit `n` of `l`, on a lane whose history is `h`: one of `l`, or one of the history. -/
def sentBefore (h : Nat) (l : List Bool) (k n : Nat) : Bool := if k ≤ n then l.getD (n - k) false else h.testBit (k - 1 - n)

theorem sentBefore_of_le {k n : Nat} (h : Nat) (l : List Bool) (hk : k ≤ n) : sentBefore h l k n = l.getD (n - k) false := if_pos hk

theorem testBit_shiftIn (w h : Nat) (b : Bool) (i : Nat) :
    (shiftIn w h b).testBit i = (decide (i < w) && if i = 0 then b else h.testBit (i - 1)) := by
  unfold shiftIn
  rw [Nat.testBit_mod_two_pow]
  congr 1
  cases i with
  | zero => cases b <;> simp [b2n, Nat.testBit_zero]
  | succ i =>
    rw [Nat.testBit_succ, if_neg (Nat.succ_ne_zero i), Nat.add_sub_cancel]
    congr 1
    cases b <;> simp only [b2n] <;> grind

/-- Once bit `b` has been sent it stands in the history. -/
theorem sentBefore_shiftIn {k : Nat} (h : Nat) (b : Bool) (l : List Bool) (n : Nat) (hk : 1 ≤ k) (hk' : k ≤ 58) :
    sentBefore (shiftIn 58 h b) l k n = sentBefore h (b :: l) k (n + 1) := by
  unfold sentBefore
  rcases Nat.lt_trichotomy k (n + 1) with hlt | heq | hgt
  · rw [if_pos (by omega), if_pos (by omega), show n + 1 - k = n - k + 1 by omega, List.getD_cons_succ]
  · rw [if_neg (by omega), if_pos (by omega), testBit_shiftIn, show k - 1 - n = 0 by omega, show n + 1 - k = 0 by omega]
    rfl
  · rw [if_neg (by omega), if_neg (by omega), testBit_shiftIn, if_neg (by omega), decide_eq_true (by omega), Bool.true_and,
      show k - 1 - n - 1 = k - 1 - (n + 1) by omega]

/-- Bit `n` out of the descrambler: what is received, without the two bits sent 39 and 58 before. -/
theorem getD_descramble {n : Nat} {r : List Bool} (h : Nat) (hn : n < r.length) :
    (descramble h r).1.getD n false = ((r.getD n false != sentBefore h r 39 n) != sentBefore h r 58 n) := by
  induction r generalizing h n with
  | nil => exact absurd hn (Nat.not_lt_zero n)
  | cons b t ih =>
    cases n with
    | zero => rfl
    | succ n =>
      have hn' : n < t.length := Nat.lt_of_succ_lt_succ hn
      rw [descramble, List.getD_cons_succ, List.getD_cons_succ, ih _ hn', sentBefore_shiftIn h b t n (by decide) (by decide),
        sentBefore_shiftIn h b t n (by decide) (by decide)]

theorem length_scramble (h : Nat) (d : List Bool) : (scramble h d).1.length = d.length := by
  induction d generalizing h with
  | nil => rfl
  | cons b t ih => exact congrArg Nat.succ (ih _)

theorem length_descramble (h : Nat) (r : List Bool) : (descramble h r).1.length = r.length := by
  induction r generalizing h with
  | nil => rfl
  | cons b t ih => exact congrArg Nat.succ (ih _)

theorem scrambleBit_scrambleBit (h : Nat) (d : Bool) : scrambleBit h (scrambleBit h d) = d := by
  unfold scrambleBit
  cases d <;> cases h.testBit 38 <;> cases h.testBit 57 <;> rfl

/-- From the scrambler's own history the payload comes back, and both ends keep one history. -/
theorem descramble_scramble (h : Nat) (d : List Bool) : descramble h (scramble h d).1 = (d, (scramble h d).2) := by
  induction d generalizing h with
  | nil => rfl
  | cons b t ih => rw [scramble, descramble, ih, scrambleBit_scrambleBit]

/-- Bit `n` out of the scrambler: the payload bit, XOR the two bits sent 39 and 58 before. -/
theorem getD_scramble {n : Nat} {d : List Bool} (h : Nat) (hn : n < d.length) :
    (scramble h d).1.getD n false =
      ((d.getD n false != sentBefore h (scramble h d).1 39 n) != sentBefore h (scramble h d).1 58 n) := by
  have hback := getD_descramble h (r := (scramble h d).1) (n := n) (by rwa [length_scramble])
  rw [descramble_scramble] at hback
  rw [hback]
  cases (scramble h d).1.getD n false <;> cases sentBefore h (scramble h d).1 39 n <;>
    cases sentBefore h (scramble h d).1 58 n <;> rfl

/-- From the 59th bit on the descrambler forgets the history it started from. -/
theorem descramble_forgets (g h : Nat) (r : List Bool) : (descramble g r).1.drop 58 = (descramble h r).1.drop 58 := by
  have hlen : ∀ x : Nat, ((descramble x r).1.drop 58).length = r.length - 58 := fun x => by
    rw [List.length_drop, length_descramble]
  refine List.ext_getElem ((hlen g).trans (hlen h).symm) fun n hg hh => ?_
  have hn : 58 + n < r.length := by rw [hlen] at hg; omega
  have hbit : ∀ x : Nat, (descramble x r).1.getD (58 + n) false =
      ((r.getD (58 + n) false != r.getD (58 + n - 39) false) != r.getD (58 + n - 58) false) := fun x => by
    rw [getD_descramble x hn, sentBefore_of_le x r (by omega), sentBefore_of_le x r (by omega)]
  have heq := (hbit g).trans (hbit h).symm
  rw [List.getD_eq_getElem _ _ (by rwa [length_descramble]), List.getD_eq_getElem _ _ (by rwa [length_descramble])] at heq
  rwa [List.getElem_drop, List.getElem_drop]

/-! ### Bytes and their bits -/

theorem testBit_half (v i : Nat) : testBit v (i + 1) = testBit (v / 2) i := by
  unfold testBit
  rw [Nat.pow_succ', Nat.div_div_eq_div_mul]

/-- The first `n` bits of a number, taken as a number again. -/
theorem takeBits_bits (n v : Nat) (r : List Bool) :
    takeBits n ((List.range n).map (fun i => testBit v i) ++ r) = some (v % 2 ^ n, r) := by
  induction n generalizing v with
  | zero => simp [takeBits, Nat.mod_one]
  | succ n ih =>
    have hlow : b2n (testBit v 0) = v % 2 := by
      unfold testBit
      rcases Nat.mod_two_eq_zero_or_one v with h | h <;> simp [b2n, h]
    have hval : v % 2 + 2 * (v / 2 % 2 ^ n) = v % 2 ^ (n + 1) := by rw [Nat.pow_succ', Nat.mod_mul]
    rw [List.range_succ_eq_map, List.map_cons, List.map_map, List.cons_append, takeBits,
      show (fun i => testBit v i) ∘ Nat.succ = fun i => testBit (v / 2) i from funext (testBit_half v), ih (v / 2),
      Option.map_some, hlow, hval]

theorem drop_toBits (l : List Byte) (i : Nat) : (toBits l).drop (8 * i) = toBits (l.drop i) := by
  induction l generalizing i with
  | nil => simp [toBits]
  | cons b t ih =>
    cases i with
    | zero => rfl
    | succ i =>
      have hlen : (byteBits b).length = 8 := by simp [byteBits]
      rw [toBits, show 8 * (i + 1) = (byteBits b).length + 8 * i by omega, List.drop_length_add_append, ih, List.drop_succ_cons]

/-- Eight bytes come back from their 64 bits. -/
theorem bitsBytes_toBits {l : List Byte} (h : l.length = 8) : bitsBytes (toBits l) = l := by
  refine List.ext_getElem (by simp [bitsBytes, h]) fun i hi hi' => ?_
  have hbyte : takeBits 8 (toBits (l.drop i)) = some (l[i].toNat, toBits (l.drop (i + 1))) := by
    rw [List.drop_eq_getElem_cons hi', toBits, byteBits, takeBits_bits, Nat.mod_eq_of_lt l[i].isLt]
  simp only [bitsBytes, List.getElem_map, List.getElem_range, drop_toBits, hbyte, Option.getD_some, BitVec.ofNat_toNat,
    BitVec.setWidth_eq]

/-! ### A block (R160) -/

/-- The block that scrambled payload bits carry behind a sync header. -/
theorem readBlock_sent (h : Nat) {b : Block} (hb : b.bytes.length = 8) :
    readBlock h (b.header ++ (scramble h b.payload).1) = (some b, (scramble h b.payload).2) := by
  obtain ⟨control, bytes⟩ := b
  have hback : bitsBytes (Block.payload ⟨control, bytes⟩) = bytes := bitsBytes_toBits hb
  unfold readBlock
  cases control <;> simp only [Block.header, Bool.not_true, Bool.not_false, List.cons_append, List.nil_append, List.drop_succ_cons,
    List.drop_zero, List.take_succ_cons, List.take_zero, descramble_scramble, hback]

theorem readBlock_invalid (h : Nat) (x : Bool) (l : List Bool) : (readBlock h (x :: x :: l)).1 = none := by
  cases x <;> rfl

/-- Settles O9: the bits of the scrambler and of the descrambler by the two bits sent before each, and the block by its bytes. -/
theorem laneBlocksReadBack : Obligations.LaneBlocksReadBack := by
  unfold Obligations.LaneBlocksReadBack
  refine ⟨?_, ?_, ?_, ?_, ?_, ?_⟩
  · intro h n d hn hlen
    rw [getD_scramble h hlen, sentBefore_of_le h _ (by omega), sentBefore_of_le h _ (by omega)]
  · intro h n r hn hlen
    rw [getD_descramble h hlen, sentBefore_of_le h _ (by omega), sentBefore_of_le h _ (by omega)]
  · exact fun h d => ⟨length_scramble h d, descramble_scramble h d⟩
  · intro h g d
    rw [descramble_forgets g h, descramble_scramble]
  · exact fun h b hb => readBlock_sent h hb
  · exact readBlock_invalid

end Sys2Proof.Machine
end

section
/-! PROOFS. What the lanes of a bond send in one block slot (R163, R168, R170, R183 to R185). -/

namespace Sys2Proof.Machine

/-! ### What a lane's slot leaves of the other lanes of its die -/

/-- Where the generation of a bond stands. -/
def bondGenLoc (i : Nat) : Loc := if i < 16 then R.RLNK.BOND_STAT_GEN i else R.SHL.HSTAT_GEN (stDie (i - 16)) (stLoc (i - 16))

theorem bondGen_eq (i : Nat) (s : State) : bondGen i s = rd (bondGenLoc i) s := (apply_ite (fun l => rd l s) ..).symm

/-- The generation of a bond stands on the page of the raster link, or of a head link. -/
theorem bondGenLoc_page (i : Nat) : ∃ e p o, (bondGenLoc i).addr = Layout.addr e p o ∧ 0x30 ≤ p ∧ p < 256 ∧ 0x40 ≤ o ∧ o < 0x1000 := by
  unfold bondGenLoc
  split
  · exact ⟨_, _, _, rfl, by decide⟩
  · exact ⟨_, 0x52 + 8 * stLoc (i - 16), 0x44, rfl, by unfold stLoc; omega⟩

/-- Lane `x` of a die, the registers of its block, the generations of the bonds and the Ethernet ports are the same in `s` and `t`. -/
structure LaneKept (d x : Nat) (s t : State) : Prop where
  lane : laneOf d x t = laneOf d x s
  word : ∀ o, 0x40 ≤ o → o < 0x1000 → word (Layout.addr d (lanePage x) o) t = word (Layout.addr d (lanePage x) o) s
  gens : ∀ i, bondGen i t = bondGen i s
  eths : t.eths = s.eths

theorem LaneKept.refl (d x : Nat) (s : State) : LaneKept d x s s := ⟨rfl, fun _ _ _ => rfl, fun _ => rfl, rfl⟩

theorem LaneKept.trans {d x : Nat} {s t u : State} (h : LaneKept d x s t) (k : LaneKept d x t u) : LaneKept d x s u :=
  ⟨k.lane.trans h.lane, fun o ho ho' => (k.word o ho ho').trans (h.word o ho ho'),
    fun i => (k.gens i).trans (h.gens i), k.eths.trans h.eths⟩

theorem LaneKept.rd {d x o lsb w : Nat} {s t : State} (h : LaneKept d x s t) (ho : 0x40 ≤ o ∧ o < 0x1000) :
    rd ⟨Layout.addr d (lanePage x) o, lsb, w⟩ t = rd ⟨Layout.addr d (lanePage x) o, lsb, w⟩ s := by
  unfold Machine.rd
  rw [h.word o ho.1 ho.2]

theorem LaneKept.laneSt {d x : Nat} {s t : State} (h : LaneKept d x s t) : laneSt d x t = laneSt d x s := h.rd (by decide)

theorem LaneKept.txInv {d x : Nat} {s t : State} (h : LaneKept d x s t) :
    flag (R.LANE.LCFG_TX_INV d x) t = flag (R.LANE.LCFG_TX_INV d x) s := congrArg (· != 0) (h.rd (by decide))

theorem LaneKept.frameOut {d x : Nat} {s t : State} (h : LaneKept d x s t) : frameOut d x t = frameOut d x s := by
  unfold Machine.frameOut
  rw [h.eths]

theorem lanePage_lt {n : Nat} (hn : n < 12) : lanePage n < 256 := by unfold lanePage; omega

/-- A register of a lane's block, beyond the page's header. -/
theorem blockWord_lane (d : Nat) {n o : Nat} (hn : n < 12) (ho : 0x40 ≤ o ∧ o < 0x1000) :
    BlockWord (Layout.addr d (lanePage n) o) :=
  blockWord_addr (lanePage_lt hn) ho.2 (.inr ⟨by unfold lanePage; omega, by unfold lanePage; omega, by unfold lanePage; omega, ho.1⟩)

section
variable {d x y : Nat} (hx : x < 12) (hy : y < 12) (hxy : x ≠ y)
include hxy

theorem laneKept_setLane (v : Lane) (s : State) : LaneKept d x s (setLane d y v s) :=
  ⟨laneOf_setLane_ne v s (by omega), fun _ _ _ => rfl, fun _ => rfl, rfl⟩

include hx hy

theorem laneKept_wr {o lsb w : Nat} (ho : o < 0x1000) (v : Nat) (s : State) :
    LaneKept d x s (wr ⟨Layout.addr d (lanePage y) o, lsb, w⟩ v s) :=
  have k : Touches 0x4 s _ := wr_touches (Nat.and_self _) (.refl _ s)
  ⟨laneOf_congr d x (k.lanes rfl), fun _ _ h => word_wr_ne v s (addr_ne (lanePage_lt hx) h (lanePage_lt hy) ho
    (.inr (.inl (by unfold lanePage; omega)))), fun i => by
      obtain ⟨e, p, a, hloc, hp, hp', -, ha⟩ := bondGenLoc_page i
      rw [bondGen_eq, bondGen_eq, rd_wr_ne v s]
      rw [hloc]
      exact addr_ne hp' ha (lanePage_lt hy) ho (.inr (.inl (by unfold lanePage; omega))), k.eths rfl⟩

omit hxy in
theorem laneKept_recordFault (src : Nat) (forced : Bool) (s : State) : LaneKept d x s (recordFault d (lanePage y) src forced s) :=
  ⟨laneOf_congr d x (by simp), fun _ ho ho' => recordFault_block (blockWord_lane d hx ⟨ho, ho'⟩) (lanePage_lt hy), fun i => by
      obtain ⟨e, p, a, hloc, hp, hp', ha, ha'⟩ := bondGenLoc_page i
      rw [bondGen_eq, bondGen_eq]
      refine rd_recordFault_block (hloc ▸ blockWord_addr hp' ha' (.inr ⟨?_, ?_, ?_, ha⟩)) (lanePage_lt hy) <;> omega, by simp⟩

theorem laneKept_loopBack (bits : List Bool) (s : State) : LaneKept d x s (loopBack d y bits s) := by
  unfold loopBack invalidHeader
  dsimp only
  generalize (if flag (R.LANE.LCFG_RX_INV d y) s = true then bits.map (!·) else bits) = rx
  split
  · exact (laneKept_setLane hxy _ s).trans (laneKept_wr hx hy hxy (show 0x5C < 0x1000 by decide) _ _)
  · split
    · exact (laneKept_setLane hxy _ s).trans
        ((laneKept_wr hx hy hxy (show 0x54 < 0x1000 by decide) _ _).trans (laneKept_recordFault hx hy _ _ _))
    · exact laneKept_setLane hxy _ s

theorem laneKept_laneWire (bits : List Bool) (s : State) : LaneKept d x s (laneWire d y bits s) := by
  unfold laneWire onlyIf
  dsimp only
  split
  · exact (laneKept_setLane hxy _ s).trans (laneKept_loopBack hx hy hxy _ _)
  · exact laneKept_setLane hxy _ s

omit hx hy hxy in
theorem laneKept_openBits (s : State) : LaneKept d x s (openBits s).2 := ⟨rfl, fun _ _ _ => rfl, fun _ => rfl, rfl⟩

/-- What one lane sends leaves the others as they were. -/
theorem laneKept_laneSlot (b : Block) (s : State) : LaneKept d x s (laneSlot d y b s) := by
  unfold laneSlot
  dsimp only
  split
  · exact laneKept_setLane hxy _ s
  · split
    · exact (laneKept_setLane hxy _ s).trans (laneKept_laneWire hx hy hxy _ _)
    · split
      · exact (laneKept_openBits s).trans (laneKept_laneWire hx hy hxy _ _)
      · exact (laneKept_setLane hxy _ s).trans
          ((laneKept_laneWire hx hy hxy _ _).trans (laneKept_wr hx hy hxy (show 0x48 < 0x1000 by decide) _ _))

end

/-! ### What a lane sends (R163, R168) -/

/-- The lane works as its protocol asks, with no test mode set and no frame under way (R170, R174). -/
structure InService (d x : Nat) (s : State) : Prop where
  low : 2 ≤ laneSt d x s
  high : laneSt d x s ≤ 5
  prbs : (laneOf d x s).prbs = false
  far : (laneOf d x s).far = false
  near : (laneOf d x s).near = false
  frame : frameOut d x s = false

theorem LaneKept.inService {d x : Nat} {s t : State} (h : LaneKept d x s t) (k : InService d x s) : InService d x t :=
  ⟨h.laneSt ▸ k.low, h.laneSt ▸ k.high, h.lane ▸ k.prbs, h.lane ▸ k.far, h.lane ▸ k.near, h.frameOut ▸ k.frame⟩

/-- The lane once it has sent block `b`. -/
def laneSent (d x : Nat) (b : Block) (s : State) : Lane :=
  let r := scramble (laneOf d x s).scr b.payload
  { laneOf d x s with
    scr := r.2
    wire := if flag (R.LANE.LCFG_TX_INV d x) s then (b.header ++ r.1).map (!·) else b.header ++ r.1 }

theorem LaneKept.laneSent {d x : Nat} {s t : State} (h : LaneKept d x s t) (b : Block) : laneSent d x b t = laneSent d x b s := by
  unfold Machine.laneSent
  rw [h.lane, h.txInv]

theorem laneWire_plain {d n : Nat} {s : State} (h : (laneOf d n s).near = false) (bits : List Bool) :
    laneWire d n bits s =
      setLane d n { laneOf d n s with wire := if flag (R.LANE.LCFG_TX_INV d n) s then bits.map (!·) else bits } s := by
  unfold laneWire onlyIf
  rw [if_neg (by rw [h]; decide)]

/-- A lane in state 5 sends the block of its protocol, one below it a filler. -/
theorem laneOf_laneSlot {d x : Nat} {s : State} (h : InService d x s) (b : Block) :
    laneOf d x (laneSlot d x b s) = laneSent d x (if laneSt d x s = 5 then b else fillerBlock) s := by
  obtain ⟨hlow, hhigh, hprbs, hfar, hnear, hframe⟩ := h
  unfold laneSlot
  dsimp only
  rw [if_neg (by omega), if_neg (by rw [hprbs]; decide), if_neg (by rw [hfar, hframe]; decide),
    laneOf_congr d x ((fillRead_touches (Nat.and_self _) (.refl _ _)).lanes rfl),
    laneWire_plain (by rw [laneOf_setLane]; exact hnear), laneOf_setLane, laneOf_setLane]
  rfl

/-! ### The slot of a bond (R163, R183, R184) -/

/-- The slot takes W blocks of the stream, where it may carry them: it is no filler slot, the bond is up and W wait. -/
def slotCarries (i : Nat) (s : State) : Bool :=
  ((bondOf i s).slot + 1) % 2048 != 1 && rd (bondStLoc i) s == 2 && decide ((bondOf i s).lanes.length ≤ (bondOf i s).stream.length)

/-- What the slot of generation `g` has for the lane at position `p`. -/
def slotBlock (i : Nat) (s : State) (g p : Nat) : Block :=
  if ((bondOf i s).slot + 1) % 16384 = 0 then markerBlock p (bondOf i s).lanes.length g
  else if slotCarries i s then (bondOf i s).stream.getD p fillerBlock else fillerBlock

/-- The bond once the slot has been counted and what it carries has been taken of the stream. -/
def slotTaken (i : Nat) (s : State) : Bond :=
  { bondOf i s with
    slot := (bondOf i s).slot + 1
    stream := if ((bondOf i s).slot + 1) % 16384 ≠ 0 ∧ slotCarries i s = true then (bondOf i s).stream.drop (bondOf i s).lanes.length
      else (bondOf i s).stream }

/-- The lanes of a list send, each the block `f` of its position. -/
def lanesSend (d : Nat) (f : State → Nat → Block) (l : List (Nat × Nat)) (s : State) : State :=
  l.foldl (fun s e => laneSlot d e.1 (f s e.2) s) s

theorem bondSlot_eq (i : Nat) (s : State) :
    bondSlot i s = lanesSend (bondDie i) (fun u => slotBlock i s (bondGen i u)) (bondOf i s).lanes.zipIdx (setBond i (slotTaken i s) s) := by
  unfold bondSlot lanesSend slotBlock slotTaken slotCarries
  rfl

theorem lanesSend_kept (d : Nat) (f : State → Nat → Block) (l : List (Nat × Nat)) (s : State) :
    Touches 0x2000001800000045004 s (lanesSend d f l s) :=
  foldl_touches (fun _ _ h => laneSlot_touches (Nat.and_self _) h) (.refl _ s)

theorem laneKept_lanesSend {d x : Nat} (f : State → Nat → Block) {l : List (Nat × Nat)} (s : State) (hx : x < 12)
    (hl : ∀ e ∈ l, e.1 < 12 ∧ x ≠ e.1) : LaneKept d x s (lanesSend d f l s) := by
  induction l generalizing s with
  | nil => exact .refl d x s
  | cons e l ih =>
    obtain ⟨he, hl⟩ := List.forall_mem_cons.mp hl
    exact (laneKept_laneSlot hx he.1 he.2 (f s e.2) s).trans (ih _ hl)

/-- Around lane `x`, at position `p` of a bond's lanes, the others send before and behind it. -/
theorem lanesSend_split {d x p : Nat} (f : State → Nat → Block) {l : List Nat} (s : State) (hp : l[p]? = some x) (hnodup : l.Nodup)
    (hl : ∀ m ∈ l, m < 12) :
    ∃ u, LaneKept d x s u ∧ LaneKept d x (laneSlot d x (f u p) u) (lanesSend d f l.zipIdx s) := by
  obtain ⟨hlt, hget⟩ := List.getElem?_eq_some_iff.mp hp
  have hx : x < 12 := hl x (List.mem_of_getElem? hp)
  have hsplit : l = l.take p ++ x :: l.drop (p + 1) := by rw [← hget, List.cons_getElem_drop_succ, List.take_append_drop]
  have hlen : (l.take p).length = p := List.length_take_of_le hlt.le
  rw [hsplit] at hnodup
  obtain ⟨-, hback, hdisj⟩ := List.nodup_append.mp hnodup
  have hfront : ∀ e ∈ (l.take p).zipIdx, e.1 < 12 ∧ x ≠ e.1 := fun e he =>
    have hm := List.fst_mem_of_mem_zipIdx he
    ⟨hl _ (List.mem_of_mem_take hm), fun h => hdisj _ hm _ (List.mem_cons_self ..) h.symm⟩
  have hbehind : ∀ e ∈ (l.drop (p + 1)).zipIdx (p + 1), e.1 < 12 ∧ x ≠ e.1 := fun e he =>
    have hm := List.fst_mem_of_mem_zipIdx he
    ⟨hl _ (List.mem_of_mem_drop hm), fun h => (List.nodup_cons.mp hback).1 (h ▸ hm)⟩
  have hzip : l.zipIdx = (l.take p).zipIdx ++ (x, p) :: (l.drop (p + 1)).zipIdx (p + 1) := by
    conv_lhs => rw [hsplit, List.zipIdx_append, hlen, Nat.zero_add, List.zipIdx_cons]
  refine ⟨lanesSend d f (l.take p).zipIdx s, laneKept_lanesSend f s hx hfront, ?_⟩
  rw [hzip]
  unfold lanesSend
  rw [List.foldl_append, List.foldl_cons]
  exact laneKept_lanesSend f _ hx hbehind

/-- What lane `x`, at position `p`, has sent once the slot is over, and what the bond has left. -/
theorem bondSlot_sends {i p x : Nat} {s : State} (hp : (bondOf i s).lanes[p]? = some x) (hnodup : (bondOf i s).lanes.Nodup)
    (hl : ∀ m ∈ (bondOf i s).lanes, m < 12) (h : InService (bondDie i) x s) :
    laneOf (bondDie i) x (bondSlot i s) =
        laneSent (bondDie i) x (if laneSt (bondDie i) x s = 5 then slotBlock i s (bondGen i s) p else fillerBlock) s ∧
      bondOf i (bondSlot i s) = slotTaken i s := by
  obtain ⟨u, hu, ht⟩ := lanesSend_split (d := bondDie i) (fun u => slotBlock i s (bondGen i u)) (setBond i (slotTaken i s) s) hp hnodup hl
  have hin : InService (bondDie i) x u := hu.inService ⟨h.low, h.high, h.prbs, h.far, h.near, h.frame⟩
  rw [← bondSlot_eq] at ht
  constructor
  · rw [ht.lane, laneOf_laneSlot hin, hu.laneSt, hu.laneSent, hu.gens i]
    rfl
  · rw [bondSlot_eq, bondOf_congr i ((lanesSend_kept ..).bonds rfl), bondOf_setBond]

/-- Settles O11: the lane's own part of the slot, with the block that the slot has for its position. -/
theorem bondSlotsCarryTheStream : Obligations.BondSlotsCarryTheStream := by
  unfold Obligations.BondSlotsCarryTheStream
  intro i p x s hp hnodup hl hlow hhigh hprbs hfar hnear hframe
  obtain ⟨hlane, hbond⟩ := bondSlot_sends hp hnodup hl ⟨hlow, hhigh, hprbs, hfar, hnear, hframe⟩
  refine ⟨congrArg Bond.slot hbond, ?_⟩
  intro send
  have hsent : ∀ b, (if laneSt (bondDie i) x s = 5 then slotBlock i s (bondGen i s) p else fillerBlock) = b → send b := by
    intro b hb
    rw [hb] at hlane
    exact ⟨congrArg Lane.wire hlane, congrArg Lane.scr hlane⟩
  clear_value send
  refine ⟨?_, ?_, ?_⟩
  · intro hidle
    refine hsent fillerBlock ?_
    rcases hidle with hst | hfill
    · exact if_neg hst
    · have hdue : slotCarries i s = false := by unfold slotCarries; rw [hfill]; rfl
      have hblock : slotBlock i s (bondGen i s) p = fillerBlock := by
        rw [slotBlock, if_neg (by omega), hdue, if_neg (by decide)]
      rw [hblock, ite_self]
  · intro hst hmark
    refine ⟨hsent _ ?_, ?_⟩
    · rw [if_pos hst, slotBlock, if_pos hmark]
    · rw [hbond, slotTaken, if_neg fun h => h.1 hmark]
  · intro hst hmark hfill
    constructor
    · rintro ⟨hup, hwait⟩
      have hdue : slotCarries i s = true := by unfold slotCarries; simp [hfill, hup, hwait]
      refine ⟨hsent _ ?_, ?_⟩
      · rw [if_pos hst, slotBlock, if_neg hmark, if_pos hdue]
      · rw [hbond, slotTaken, if_pos ⟨hmark, hdue⟩]
    · intro hnot
      have hdue : slotCarries i s = false := by unfold slotCarries; simp only [not_and] at hnot; simpa using fun _ h => hnot h
      refine ⟨hsent _ ?_, ?_⟩
      · rw [if_pos hst, slotBlock, if_neg hmark, hdue, if_neg (by decide)]
      · rw [hbond, slotTaken, if_neg fun h => by rw [hdue] at h; exact absurd h.2 (by decide)]

end Sys2Proof.Machine
end

section
/-! PROOFS. What the lanes' links leave of the lanes, when a lane leaves state 5 and when it comes up (R169 to R173, R186, R187). -/

namespace Sys2Proof.Machine

/-! ### Fields that a write of a field leaves -/

/-- A write of field `m` leaves field `l`: they lie in different words, or apart in one. -/
def Apart (l m : Loc) : Prop :=
  l.addr ≠ m.addr ∨ l.addr = m.addr ∧ m.lsb + m.width ≤ 32 ∧ (l.lsb + l.width ≤ m.lsb ∨ m.lsb + m.width ≤ l.lsb)

theorem rd_wr_of_apart {l m : Loc} (h : Apart l m) (v : Nat) (s : State) : rd l (wr m v s) = rd l s := by
  rcases h with h | ⟨ha, hm, h⟩
  · exact rd_wr_ne v s h
  · exact rd_wr_apart v s ha hm h

/-- Two fields of one page. -/
theorem apart_page {d p o o' i j v w : Nat} (h : o ≠ o' ∨ j + w ≤ 32 ∧ (i + v ≤ j ∨ j + w ≤ i)) :
    Apart ⟨Layout.addr d p o, i, v⟩ ⟨Layout.addr d p o', j, w⟩ := by
  by_cases ho : o = o'
  · exact .inr ⟨by rw [ho], (h.resolve_left (· ho)).1, (h.resolve_left (· ho)).2⟩
  · exact .inl (addr_ne_offset ho)

theorem flag_wr_of_apart {l m : Loc} (h : Apart l m) (v : Nat) (s : State) : flag l (wr m v s) = flag l s :=
  congrArg (· != 0) (rd_wr_of_apart h v s)

theorem flag_wr_one {l : Loc} (s : State) (h : l.lsb + l.width ≤ 32) (hw : l.width = 1) : flag l (wr l 1 s) = true := by
  unfold flag
  rw [rd_wr_same 1 s h, hw]
  rfl

/-! ### Words below the links' pages -/

/-- `a` is a block word of a page below those of the links. -/
def BelowLinks (a : Nat) : Prop :=
  ∃ d p o, a = Layout.addr d p o ∧ p < 0x30 ∧ o < 0x1000 ∧ (o < 0x10 ∨ p ≠ 0 ∧ p ≠ 1 ∧ p ≠ 0x15 ∧ 0x40 ≤ o)

theorem BelowLinks.blockWord {a : Nat} (h : BelowLinks a) : BlockWord a := by
  obtain ⟨d, p, o, rfl, hp, ho, hpage⟩ := h
  exact blockWord_addr (by omega) ho hpage

theorem BelowLinks.ne_page {a d p o : Nat} (h : BelowLinks a) (hp : 0x30 ≤ p) (hp' : p < 256) (ho : o < 0x1000) :
    a ≠ Layout.addr d p o := by
  obtain ⟨e, q, x, rfl, hq, hx, -⟩ := h
  exact addr_ne (by omega) hx hp' ho (.inr (.inl (by omega)))

theorem shlPage_bounds (k : Nat) : 0x30 ≤ shlPage (stLoc k) ∧ shlPage (stLoc k) < 256 := by unfold shlPage stLoc; omega

theorem BelowLinks.ne_shl {a d o : Nat} (h : BelowLinks a) (k : Nat) (ho : o < 0x1000) : a ≠ Layout.addr d (shlPage (stLoc k)) o :=
  h.ne_page (shlPage_bounds k).1 (shlPage_bounds k).2 ho

theorem BelowLinks.ne_bondSt {a : Nat} (h : BelowLinks a) (i : Nat) : a ≠ (bondStLoc i).addr := by
  unfold bondStLoc
  split
  · exact h.ne_page (p := 0x30) (by decide) (by decide) (show 0x54 < 0x1000 by decide)
  · exact h.ne_shl (i - 16) (show 0x44 < 0x1000 by decide)

theorem belowLinks_lane (d : Nat) {n o : Nat} (hn : n < 12) (ho : o < 0x10 ∨ 0x40 ≤ o ∧ o < 0x1000) :
    BelowLinks (Layout.addr d (lanePage n) o) :=
  ⟨d, lanePage n, o, rfl, by unfold lanePage; omega, by omega, by unfold lanePage; omega⟩

section
variable {a : Nat} (h : BelowLinks a)
include h

theorem BelowLinks.evt {d p b : Nat} (hp : p < 256) (s : State) : word a (evt d p b s) = word a s := evt_block h.blockWord hp

theorem BelowLinks.wr_hstat {d i w : Nat} (k v : Nat) (s : State) :
    word a (wr ⟨Layout.addr d (shlPage (stLoc k)) 0x44, i, w⟩ v s) = word a s := word_wr_ne v s (h.ne_shl k (by decide))

theorem BelowLinks.wr_bondStat {d i w : Nat} (v : Nat) (s : State) :
    word a (wr ⟨Layout.addr d 0x30 0x54, i, w⟩ v s) = word a s := word_wr_ne v s (h.ne_page (by decide) (by decide) (by decide))

/-! ### The links keep them -/

theorem word_bondLost (i : Nat) (s : State) : word a (bondLost i s) = word a s := by
  have hlost : word a (wr (bondStLoc i) 1 (setBond i { bondOf i s with stream := [] } s)) = word a s := word_wr_ne _ _ (h.ne_bondSt i)
  unfold bondLost
  split
  · split
    · exact (h.evt (by decide) _).trans hlost
    · exact hlost
  · rfl

theorem word_bondLaneDown (d n : Nat) (s : State) : word a (bondLaneDown d n s) = word a s := by
  unfold bondLaneDown
  dsimp only
  split
  · exact word_bondLost h _ _
  · rfl

omit h in
theorem word_portDown (d n : Nat) (s : State) : word a (portDown d n s) = word a s := by
  unfold portDown
  split
  · rfl
  · rfl

theorem word_showHeadBond (k st : Nat) (lanes : List Nat) (s : State) : word a (showHeadBond k st lanes s) = word a s :=
  (h.wr_hstat k _ _).trans ((h.wr_hstat k _ _).trans (h.wr_hstat k _ _))

theorem word_headForm (k : Nat) (s : State) : word a (headForm k s) = word a s := by
  unfold headForm
  dsimp only
  generalize (if stationOn k s && blockUp (stDie k) (shlPage (stLoc k)) s then headBondLanes k s else []) = lanes
  generalize (if isFenced (.station k) s then 3 else if lanes.isEmpty then 0 else 1) = st
  have hformed : word a (if lanes.isEmpty then showHeadBond k st lanes (setBond (16 + k) { lanes := lanes, formedAt := s.now } s)
      else wr (R.SHL.HSTAT_GEN (stDie k) (stLoc k)) (rd (R.SHL.HSTAT_GEN (stDie k) (stLoc k)) s + 1)
        (showHeadBond k st lanes (setBond (16 + k) { lanes := lanes, formedAt := s.now } s))) = word a s := by
    split
    · exact word_showHeadBond h k st lanes _
    · exact (h.wr_hstat k _ _).trans (word_showHeadBond h k st lanes _)
  split
  · split
    · exact h.wr_hstat k _ _
    · rfl
  · split
    · exact (h.evt (shlPage_bounds k).2 _).trans hformed
    · exact hformed

theorem word_rasterForm (d : Nat) (s : State) : word a (rasterForm d s) = word a s := by
  have hwas : word a (if rd (R.RLNK.BOND_STAT_STATE d) s = 2 then Machine.evt d 0x30 1 s else s) = word a s := by
    split
    · exact h.evt (by decide) s
    · rfl
  unfold rasterForm
  dsimp only
  generalize (if rd (R.RLNK.BOND_STAT_STATE d) s = 2 then Machine.evt d 0x30 1 s else s) = u at hwas ⊢
  split
  · exact (h.wr_bondStat _ _).trans hwas
  · split
    · exact (h.wr_bondStat _ _).trans hwas
    · exact (h.wr_bondStat _ _).trans ((h.wr_bondStat _ _).trans ((h.wr_bondStat _ _).trans ((h.wr_bondStat _ _).trans hwas)))

/-- A bad descriptor of a port's queue changes registers of ELNK only. -/
theorem word_txBad {p q : Nat} (hp : p < 2) (hq : q < 8) (addr : Nat) (desc : List Byte) (status : Nat) (s : State) :
    word a (txBad p q addr desc status s) = word a s := by
  have hnext : a ≠ (R.ELNK.TXQ_CFG_NEXT 0 p q).addr := h.ne_page (p := 0x31) (by decide) (by decide) (by omega)
  unfold txBad txComplete
  rw [h.evt (by decide), recordFault_block h.blockWord (by decide)]
  dsimp only
  rw [h.evt (by decide), word_wr_ne _ _ hnext]
  have hput : ∀ (x : Nat) (v : Byte) (t : State), word a (hostPut x v t) = word a t := fun _ _ _ => rfl
  rw [hput, hput]

theorem word_txSchedule (p n : Nat) (s : State) : word a (txSchedule p n s) = word a s := by
  induction n generalizing s with
  | zero => rfl
  | succ n ih =>
    rw [txSchedule]
    split
    · rfl
    · next hup =>
      have hp : p < 2 := by
        simp only [Bool.not_eq_true', not_or, Bool.not_eq_false, ethUp, Bool.and_eq_true, decide_eq_true_eq] at hup
        omega
      dsimp only
      split
      · next hd hfind =>
        obtain ⟨q, hmem, hq⟩ := List.mem_filterMap.mp (List.mem_of_find?_eq_some hfind)
        obtain ⟨b, -, rfl⟩ := Option.map_eq_some_iff.mp hq
        exact (ih _).trans (word_txBad h hp (by simpa using hmem) _ _ _ s)
      · split
        · split
          · rfl
          · rfl
        · rfl

end

/-! ### A lane that leaves state 5 (R170, R172) -/

/-- The lane's registers and its own record as it leaves state 5. -/
def laneGone (d n st : Nat) (s : State) : State :=
  wr (R.LANE.LSTAT_BLOCK_LOCK d n) 0 (setLaneSt d n st (setLane d n { laneOf d n s with lostAt := some s.now, invalid := [] } s))

theorem laneDown_up {d n st : Nat} {s : State} (h : laneSt d n s = 5) :
    laneDown d n st s = portDown d n (bondLaneDown d n (evt d (lanePage n) 1 (laneGone d n st s))) := if_pos h

theorem laneDown_below {d n st : Nat} {s : State} (h : laneSt d n s ≠ 5) : laneDown d n st s = setLaneSt d n st s := if_neg h

theorem laneSt_setLaneSt {st : Nat} (d n : Nat) (s : State) (hst : st < 8) : laneSt d n (setLaneSt d n st s) = st :=
  (rd_wr_same _ _ (show 0 + 3 ≤ 32 by decide)).trans (Nat.mod_eq_of_lt hst)

theorem laneSt_laneGone {st : Nat} (d n : Nat) (s : State) (hst : st < 8) : laneSt d n (laneGone d n st s) = st :=
  (rd_wr_of_apart (apart_page (by decide)) _ _).trans (laneSt_setLaneSt d n _ hst)

/-- Leaving state 5 touches the links, and of the registers below them only the lane's own. -/
theorem rd_laneDown_up {d n st : Nat} {l : Loc} {s : State} (hn : n < 12) (hl : BelowLinks l.addr) (h : laneSt d n s = 5) :
    rd l (laneDown d n st s) = rd l (laneGone d n st s) := by
  unfold rd
  rw [laneDown_up h, word_portDown, word_bondLaneDown hl, hl.evt (lanePage_lt hn)]

theorem laneSt_laneDown {d n st : Nat} (s : State) (hn : n < 12) (hst : st < 8) : laneSt d n (laneDown d n st s) = st := by
  by_cases h : laneSt d n s = 5
  · exact (rd_laneDown_up hn (belowLinks_lane d hn (by decide)) h).trans (laneSt_laneGone d n s hst)
  · rw [laneDown_below h, laneSt_setLaneSt d n s hst]

theorem lock_laneDown {d n st : Nat} {s : State} (hn : n < 12) (h : laneSt d n s = 5) :
    flag (R.LANE.LSTAT_BLOCK_LOCK d n) (laneDown d n st s) = false :=
  (congrArg (· != 0) (rd_laneDown_up hn (belowLinks_lane d hn (by decide)) h)).trans
    (flag_wr_zero _ (show 4 + 1 ≤ 32 by decide))

/-- A field below the links other than STATE and BLOCK_LOCK of the lane stands. -/
theorem rd_laneDown {d n st : Nat} {l : Loc} (s : State) (hn : n < 12) (hl : BelowLinks l.addr)
    (hst : Apart l (R.LANE.LSTAT_STATE d n)) (hlock : Apart l (R.LANE.LSTAT_BLOCK_LOCK d n)) :
    rd l (laneDown d n st s) = rd l s := by
  by_cases h : laneSt d n s = 5
  · exact (rd_laneDown_up hn hl h).trans ((rd_wr_of_apart hlock _ _).trans (rd_wr_of_apart hst _ _))
  · rw [laneDown_below h]
    exact rd_wr_of_apart hst _ _

/-- The lane's own record: the time of the loss is noted, and its invalid headers are forgotten. -/
theorem laneOf_laneDown {d n st : Nat} {s : State} (h : laneSt d n s = 5) :
    laneOf d n (laneDown d n st s) = { laneOf d n s with lostAt := some s.now, invalid := [] } := by
  have hlinks : Touches 0x10010000000000001004 (laneGone d n st s) (laneDown d n st s) := by
    rw [laneDown_up h]
    exact portDown_touches rfl (bondLaneDown_touches rfl (evt_touches rfl (.refl _ _)))
  have hregs : Touches 0x4 (setLane d n { laneOf d n s with lostAt := some s.now, invalid := [] } s) (laneGone d n st s) :=
    wr_touches rfl (setLaneSt_touches rfl (.refl _ _))
  rw [laneOf_congr d n (hlinks.lanes rfl), laneOf_congr d n (hregs.lanes rfl), laneOf_setLane]

/-! ### A lane that comes up -/

/-- `a` is a register of a lane's block that shows what the lane does: any but LCFG. -/
def LaneStatus (a : Nat) : Prop := ∃ d n o, a = Layout.addr d (lanePage n) o ∧ n < 12 ∧ 0x44 ≤ o ∧ o < 0x1000

theorem LaneStatus.belowLinks {a : Nat} (h : LaneStatus a) : BelowLinks a := by
  obtain ⟨d, n, o, rfl, hn, ho⟩ := h
  exact belowLinks_lane d hn (.inr ⟨by omega, ho.2⟩)

theorem laneStatus_addr (d : Nat) {n o : Nat} (hn : n < 12) (ho : 0x44 ≤ o ∧ o < 0x1000) :
    LaneStatus (Layout.addr d (lanePage n) o) := ⟨d, n, o, rfl, hn, ho⟩

/-- It is neither an LCFG nor an EVT_STAT. -/
theorem LaneStatus.ne_low {a d p o : Nat} (h : LaneStatus a) (ho : o ≤ 0x40) : a ≠ Layout.addr d p o := by
  obtain ⟨e, n, x, rfl, hn, hx, hx'⟩ := h
  unfold Layout.addr
  omega

section
variable {a : Nat} (h : LaneStatus a)
include h

theorem word_spareTakeover (k : Nat) (s : State) : word a (spareTakeover k s) = word a s := by
  unfold spareTakeover
  dsimp only
  split
  · exact (word_evt_ne _ _ _ _ h.belowLinks.blockWord.notPba (h.ne_low (by decide))).trans
      ((word_wr_ne _ _ (h.ne_low (by decide))).trans (word_wr_ne _ _ (h.ne_low (by decide))))
  · rfl

/-- What the protocol of a lane does when the lane comes up leaves what the lanes show. -/
theorem word_laneUp (d n : Nat) (s : State) : word a (laneUp d n s) = word a s := by
  unfold laneUp
  split
  · exact (word_headForm h.belowLinks _ _).trans (word_spareTakeover h _ _)
  · split
    · split
      · exact word_rasterForm h.belowLinks d _
      · rfl
    · exact word_txSchedule h.belowLinks _ _ s

end

end Sys2Proof.Machine
end

section
/-! PROOFS. Lanes coming up and going down (R165, R169 to R174, R181). -/

namespace Sys2Proof.Machine

/-! ### A fence on a lane -/

theorem mem_fenced_stationFence {u : UnitId} {k : Nat} {s : State} (h : u ∈ s.fenced) : u ∈ (stationFence k s).fenced := by
  unfold stationFence
  split
  · exact h
  · dsimp only
    have hspoil : (spoilImaging k 9 s).fenced = s.fenced := (spoilImaging_touches (Nat.and_self _) (.refl _ s)).fenced rfl
    have hrest : ∀ t : State, Touches 0x180000c0790182003004 t (headForm k (closeSession k (lenUpdate k (timingOff k
        (setSta k { staOf k t with fenceAt := none, dutyBad := false } t))))) := fun t =>
      headForm_touches rfl (closeSession_touches rfl (lenUpdate_touches rfl (timingOff_touches rfl (setSta_touches rfl (.refl _ t)))))
    rw [(hrest _).fenced rfl]
    generalize spoilImaging k 9 s = v at hspoil ⊢
    exact mem_fenced_addFence.mpr (.inr (hspoil.symm ▸ h))

theorem mem_fenced_stationFault {u : UnitId} {k p src : Nat} {forced : Bool} {s : State} (h : u ∈ s.fenced) :
    u ∈ (stationFault k p src forced s).fenced := by
  have hrec : u ∈ (recordFault (stDie k) p src forced s).fenced := by simpa using h
  unfold stationFault
  dsimp only
  split
  · exact mem_fenced_stationFence hrec
  · exact hrec

theorem mem_fenced_rasterFence {u : UnitId} {d : Nat} {s : State} (h : u ∈ s.fenced) : u ∈ (rasterFence d s).fenced := by
  unfold rasterFence
  split
  · exact h
  · rw [(rasterForm_touches (msk := 0x14000000000000001004) rfl (closeRaster_touches rfl (.refl _ _))).fenced rfl]
    exact mem_fenced_addFence.mpr (.inr h)

theorem mem_fenced_laneFence (d n : Nat) (s : State) : UnitId.lane d n ∈ (laneFence d n s).fenced := by
  unfold laneFence
  split
  · next h => exact List.contains_iff_mem.mp h
  · dsimp only
    generalize hs2 : setLane d n _ (laneDown d n 6 (eyeEnd d n 1 (addFence (.lane d n) s))) = s2
    have h2 : UnitId.lane d n ∈ s2.fenced := by
      have k : Touches 0x12010000000000001004 (addFence (.lane d n) s) s2 := by
        rw [← hs2]
        exact setLane_touches rfl (laneDown_touches rfl (eyeEnd_touches rfl (.refl _ _)))
      exact k.mem_fenced_of_addFence rfl
    have hhead : UnitId.lane d n ∈ (headForm (laneStation d n) (spareTakeover (laneStation d n) s2)).fenced := by
      rw [(headForm_touches (Nat.and_self _) (spareTakeover_touches rfl (.refl _ s2))).fenced rfl]
      exact h2
    split
    · split
      · exact mem_fenced_stationFault hhead
      · exact hhead
    · split
      · split
        · exact mem_fenced_rasterFence (by simpa using h2)
        · split
          · rw [(rasterForm_touches (Nat.and_self _) (.refl _ s2)).fenced rfl]
            exact h2
          · exact h2
      · exact h2

theorem laneOn_of_fenced {d n : Nat} {s : State} (h : UnitId.lane d n ∈ s.fenced) : laneOn d n s = false := by
  have hf : laneFenced d n s = true := by
    unfold laneFenced isFenced
    rw [List.contains_iff_mem.mpr h]
    rfl
  unfold laneOn
  rw [hf, Bool.not_true, Bool.and_false]

/-- The faults 0 and 2 of a LANE page fence the lane (R181). -/
theorem laneFault_fences (d n : Nat) {src : Nat} (forced : Bool) (s : State) (hsrc : src = 0 ∨ src = 2) :
    UnitId.lane d n ∈ (laneFault d n src forced s).fenced ∧ laneOn d n (laneFault d n src forced s) = false := by
  have h : UnitId.lane d n ∈ (laneFault d n src forced s).fenced := by
    unfold laneFault
    rw [if_pos hsrc]
    exact mem_fenced_laneFence d n _
  exact ⟨h, laneOn_of_fenced h⟩

/-- The overflow of an elastic buffer is recorded, and that is all (R181). -/
theorem laneFault_overflow (d n : Nat) (forced : Bool) (s : State) :
    laneFault d n 1 forced s = recordFault d (lanePage n) 1 forced s := by
  unfold laneFault
  exact if_neg (by decide)

theorem laneOn_iff {d n : Nat} {s : State} :
    laneOn d n s = true ↔ n < 12 ∧ blockOn d (lanePage n) s = true ∧ laneFenced d n s = false := by
  unfold laneOn
  rw [Bool.and_eq_true, Bool.and_eq_true, decide_eq_true_eq, Bool.not_eq_true', and_assoc]

theorem laneOn_lt {d n : Nat} {s : State} (h : laneOn d n s = true) : n < 12 := (laneOn_iff.mp h).1

/-- A lane that is on is not one whose page is on while it is fenced. -/
theorem laneMuted_of_on {d n : Nat} {s : State} (h : laneOn d n s = true) : laneMuted d n s = false := by
  unfold laneMuted
  rw [(laneOn_iff.mp h).2.2, Bool.and_false]

/-! ### Bring-up (R169) -/

/-- Only register words differ. -/
def RegsOnly (s t : State) : Prop := t = { s with regs := t.regs }

theorem RegsOnly.refl (s : State) : RegsOnly s s := Eq.refl s

theorem RegsOnly.trans {s t u : State} (h : RegsOnly s t) (k : RegsOnly t u) : RegsOnly s u :=
  Eq.trans k (congrArg (fun x : State => { x with regs := u.regs }) h)

theorem regsOnly_wr (l : Loc) (v : Nat) (s : State) : RegsOnly s (wr l v s) := Eq.refl (wr l v s)

theorem laneSynthLock_ends {d n : Nat} {s : State} (hon : laneOn d n s = true) (hst : laneSt d n s = 1) :
    ∃ t, exec (.laneSynthLock d n) s = .next t ∧ laneSt d n t = 2 ∧ t = { s with regs := t.regs } := by
  have hexec : execLaneSynthLock d n s = .next (setLaneSt d n 2 s) := if_pos (by rw [hon, hst]; rfl)
  exact ⟨_, Eq.trans (b := execLaneSynthLock d n s) rfl hexec, laneSt_setLaneSt d n s (by decide),
    regsOnly_wr _ _ s⟩

theorem laneSignalDetect_shows {d n : Nat} {s : State} (hon : laneOn d n s = true) (hst : laneSt d n s = 2) :
    ∃ t, exec (.laneSignalDetect d n) s = .next t ∧ laneSt d n t = 3 ∧ flag (R.LANE.LSTAT_SIG_DET d n) t = true ∧
      t = { s with regs := t.regs } := by
  have hexec : execLaneSignalDetect d n s = .next (setLaneSt d n 3 (wr (R.LANE.LSTAT_SIG_DET d n) 1 s)) :=
    if_pos (by rw [hon, hst]; rfl)
  exact ⟨_, Eq.trans (b := execLaneSignalDetect d n s) rfl hexec, laneSt_setLaneSt d n _ (by decide),
    (flag_wr_of_apart (apart_page (by decide)) _ _).trans (flag_wr_one s (show 3 + 1 ≤ 32 by decide) rfl),
    (regsOnly_wr _ _ s).trans (regsOnly_wr _ _ _)⟩

theorem rd_adapted_ctle {d n ctle : Nat} (dfe : Nat) (s : State) (h : ctle < 32) :
    rd (R.LANE.RXEQ_STAT_CTLE d n) (adapted d n ctle dfe s) =
      if flag (R.LANE.LCFG_ADAPT_FREEZE d n) s then rd (R.LANE.RXEQ_STAT_CTLE d n) s else ctle := by
  unfold adapted
  split
  · rfl
  · exact (rd_wr_of_apart (apart_page (by decide)) _ _).trans
      ((rd_wr_same _ _ (show 0 + 5 ≤ 32 by decide)).trans (Nat.mod_eq_of_lt h))

theorem rd_adapted_dfe {d n dfe : Nat} (ctle : Nat) (s : State) (h : dfe < 64) :
    rd (R.LANE.RXEQ_STAT_DFE1 d n) (adapted d n ctle dfe s) =
      if flag (R.LANE.LCFG_ADAPT_FREEZE d n) s then rd (R.LANE.RXEQ_STAT_DFE1 d n) s else dfe := by
  unfold adapted
  split
  · rfl
  · exact (rd_wr_same _ _ (show 8 + 6 ≤ 32 by decide)).trans (Nat.mod_eq_of_lt h)

theorem regsOnly_adapted (d n ctle dfe : Nat) (s : State) : RegsOnly s (adapted d n ctle dfe s) := by
  unfold adapted
  split
  · exact .refl s
  · exact (regsOnly_wr _ _ s).trans (regsOnly_wr _ _ _)

theorem laneAdaptDone_shows {d n ctle dfe : Nat} {s : State} (hon : laneOn d n s = true) (hst : laneSt d n s = 3) (hc : ctle < 32)
    (hd : dfe < 64) :
    ∃ t, exec (.laneAdaptDone d n ctle dfe) s = .next t ∧ laneSt d n t = 4 ∧
      rd (R.LANE.RXEQ_STAT_CTLE d n) t =
        (if flag (R.LANE.LCFG_ADAPT_FREEZE d n) s then rd (R.LANE.RXEQ_STAT_CTLE d n) s else ctle) ∧
      rd (R.LANE.RXEQ_STAT_DFE1 d n) t =
        (if flag (R.LANE.LCFG_ADAPT_FREEZE d n) s then rd (R.LANE.RXEQ_STAT_DFE1 d n) s else dfe) ∧
      t = { s with regs := t.regs } := by
  have hexec : execLaneAdaptDone d n ctle dfe s = .next (setLaneSt d n 4 (adapted d n ctle dfe s)) :=
    if_pos (by rw [hon, hst]; rfl)
  exact ⟨_, Eq.trans (b := execLaneAdaptDone d n ctle dfe s) rfl hexec, laneSt_setLaneSt d n _ (by decide),
    (rd_wr_of_apart (apart_page (by decide)) _ _).trans (rd_adapted_ctle dfe s hc),
    (rd_wr_of_apart (apart_page (by decide)) _ _).trans (rd_adapted_dfe ctle s hd),
    (regsOnly_adapted d n ctle dfe s).trans (regsOnly_wr _ _ _)⟩

/-! ### LANE_BLOCK_LOCK (R169, R172, R174) -/

/-- A recovery in time is counted. -/
def lossCounted (d n : Nat) (s : State) : State :=
  if (laneOf d n s).lostAt.isSome then bump (R.LANE.LOCK_CNT_LOSSES d n) (setLane d n { laneOf d n s with lostAt := none } s) else s

/-- LSTAT of a lane that is up. -/
def lockShown (d n : Nat) (s : State) : State :=
  wr (R.LANE.LSTAT_BLOCK_LOCK d n) 1 (wr (R.LANE.LSTAT_SIG_DET d n) 1 (wr (R.LANE.LSTAT_HI_BER d n) 0 (setLaneSt d n 5 s)))

theorem lockShown_shows (d n : Nat) (s : State) :
    laneSt d n (lockShown d n s) = 5 ∧ flag (R.LANE.LSTAT_BLOCK_LOCK d n) (lockShown d n s) = true ∧
      flag (R.LANE.LSTAT_SIG_DET d n) (lockShown d n s) = true ∧ flag (R.LANE.LSTAT_HI_BER d n) (lockShown d n s) = false := by
  refine ⟨?_, flag_wr_one _ (show 4 + 1 ≤ 32 by decide) rfl, ?_, ?_⟩
  · exact (rd_wr_of_apart (apart_page (by decide)) _ _).trans ((rd_wr_of_apart (apart_page (by decide)) _ _).trans
      ((rd_wr_of_apart (apart_page (by decide)) _ _).trans (laneSt_setLaneSt d n s (by decide))))
  · exact (flag_wr_of_apart (apart_page (by decide)) _ _).trans (flag_wr_one _ (show 3 + 1 ≤ 32 by decide) rfl)
  · exact (flag_wr_of_apart (apart_page (by decide)) _ _).trans ((flag_wr_of_apart (apart_page (by decide)) _ _).trans
      (flag_wr_zero _ (show 5 + 1 ≤ 32 by decide)))

theorem rd_lossCounted (d n : Nat) (s : State) :
    rd (R.LANE.LOCK_CNT_LOSSES d n) (lossCounted d n s) = if (laneOf d n s).lostAt.isSome
      then Nat.min (rd (R.LANE.LOCK_CNT_LOSSES d n) s + 1) 65535 else rd (R.LANE.LOCK_CNT_LOSSES d n) s := by
  unfold lossCounted
  split
  · exact rd_bump_same _ (show 0 + 16 ≤ 32 by decide)
  · rfl

theorem losses_lockShown (d n : Nat) (s : State) :
    rd (R.LANE.LOCK_CNT_LOSSES d n) (lockShown d n s) = rd (R.LANE.LOCK_CNT_LOSSES d n) s :=
  (rd_wr_of_apart (apart_page (by decide)) _ _).trans ((rd_wr_of_apart (apart_page (by decide)) _ _).trans
    ((rd_wr_of_apart (apart_page (by decide)) _ _).trans (rd_wr_of_apart (apart_page (by decide)) _ _)))

theorem laneBlockLock_comesUp {d n : Nat} {s : State} (hon : laneOn d n s = true) (hst : laneSt d n s = 4)
    (hcheck : (laneOf d n s).check = false) (hnear : (laneOf d n s).near = false) (hfar : (laneOf d n s).far = false)
    (hhold : lockHoldOver d n s = false) :
    ∃ t, exec (.laneBlockLock d n) s = .next t ∧ laneSt d n t = 5 ∧ flag (R.LANE.LSTAT_BLOCK_LOCK d n) t = true ∧
      flag (R.LANE.LSTAT_SIG_DET d n) t = true ∧ flag (R.LANE.LSTAT_HI_BER d n) t = false ∧
      rd (R.LANE.LOCK_CNT_LOSSES d n) t = (if (laneOf d n s).lostAt.isSome
        then Nat.min (rd (R.LANE.LOCK_CNT_LOSSES d n) s + 1) 65535 else rd (R.LANE.LOCK_CNT_LOSSES d n) s) := by
  have hexec : execLaneBlockLock d n s =
      .next (laneUp d n (evt d (lanePage n) 0 (lockShown d n (lossCounted d n s)))) := by
    unfold execLaneBlockLock
    rw [if_neg (by rw [hon, hst]; decide), if_neg (by rw [hcheck, hnear, hfar]; decide), if_neg (by rw [hhold]; decide)]
    rfl
  have hn := laneOn_lt hon
  have hrd : ∀ {l : Loc}, LaneStatus l.addr →
      rd l (laneUp d n (evt d (lanePage n) 0 (lockShown d n (lossCounted d n s)))) = rd l (lockShown d n (lossCounted d n s)) := by
    intro l hl
    unfold rd
    rw [word_laneUp hl, hl.belowLinks.evt (lanePage_lt hn)]
  have hlstat : LaneStatus (Layout.addr d (0x20 + n) 0x48) := laneStatus_addr d hn (by decide)
  obtain ⟨h5, hlock, hsig, hber⟩ := lockShown_shows d n (lossCounted d n s)
  exact ⟨_, Eq.trans (b := execLaneBlockLock d n s) rfl hexec, (hrd hlstat).trans h5, (congrArg (· != 0) (hrd hlstat)).trans hlock,
    (congrArg (· != 0) (hrd hlstat)).trans hsig, (congrArg (· != 0) (hrd hlstat)).trans hber,
    (hrd (laneStatus_addr d hn (by decide))).trans ((losses_lockShown ..).trans (rd_lossCounted d n s))⟩

theorem laneBlockLock_stays {d n : Nat} {s : State} (hon : laneOn d n s = true) (hst : laneSt d n s = 4)
    (htest : ((laneOf d n s).check || (laneOf d n s).near || (laneOf d n s).far) = true) :
    ∃ t, exec (.laneBlockLock d n) s = .next t ∧ laneSt d n t = 4 ∧ flag (R.LANE.LSTAT_BLOCK_LOCK d n) t = true ∧
      t = { s with regs := t.regs } := by
  have hexec : execLaneBlockLock d n s = .next (wr (R.LANE.LSTAT_BLOCK_LOCK d n) 1 s) := by
    unfold execLaneBlockLock
    rw [if_neg (by rw [hon, hst]; decide), if_pos htest]
  exact ⟨_, Eq.trans (b := execLaneBlockLock d n s) rfl hexec, (rd_wr_of_apart (apart_page (by decide)) _ _).trans hst,
    flag_wr_one s (show 4 + 1 ≤ 32 by decide) rfl, regsOnly_wr _ _ s⟩

/-! ### LANE_LOSS (R169 to R171) -/

/-- What was lost shows: the signal, or the error rate. -/
def lossShown (d n why : Nat) (s : State) : State :=
  if why = 1 then wr (R.LANE.LSTAT_SIG_DET d n) 0 s
  else if why = 2 then evt d (lanePage n) 3 (wr (R.LANE.LSTAT_HI_BER d n) 1 s) else s

theorem lossShown_signal (d n : Nat) (s : State) : lossShown d n 1 s = wr (R.LANE.LSTAT_SIG_DET d n) 0 s := if_pos rfl

theorem lossShown_errors (d n : Nat) (s : State) :
    lossShown d n 2 s = evt d (lanePage n) 3 (wr (R.LANE.LSTAT_HI_BER d n) 1 s) :=
  (if_neg (by decide)).trans (if_pos rfl)

theorem lossShown_kept (d n why : Nat) (s : State) : Touches 0x1004 s (lossShown d n why s) :=
  touches_ite (wr_touches rfl (.refl _ s)) (touches_ite (evt_touches rfl (wr_touches rfl (.refl _ s))) (.refl _ s))

theorem laneSt_evt_wr {d n b i w v : Nat} {s : State} (hn : n < 12) (hi : 3 ≤ i) (hw : i + w ≤ 32) :
    laneSt d n (evt d (lanePage n) b (wr ⟨Layout.addr d (lanePage n) 0x48, i, w⟩ v s)) = laneSt d n s :=
  (rd_evt_block (belowLinks_lane d hn (o := 0x48) (by decide)).blockWord (lanePage_lt hn)).trans
    (rd_wr_of_apart (apart_page (.inr ⟨hw, .inl hi⟩)) _ _)

theorem laneSt_lossShown {d n : Nat} (why : Nat) (s : State) (hn : n < 12) : laneSt d n (lossShown d n why s) = laneSt d n s := by
  unfold lossShown
  split
  · exact rd_wr_of_apart (apart_page (by decide)) _ _
  · split
    · exact laneSt_evt_wr hn (by decide) (by decide)
    · rfl

/-- A high error rate shows in HI_BER, with its event. -/
theorem hiBer_shown {d n : Nat} (s : State) (hn : n < 12) :
    flag (R.LANE.LSTAT_HI_BER d n) (evt d (lanePage n) 3 (wr (R.LANE.LSTAT_HI_BER d n) 1 s)) = true :=
  (congrArg (· != 0) (rd_evt_block (belowLinks_lane d hn (o := 0x48) (by decide)).blockWord (lanePage_lt hn))).trans
    (flag_wr_one s (show 5 + 1 ≤ 32 by decide) rfl)

/-- SIG_DET and HI_BER stand when the lane leaves state 5. -/
theorem flag_laneDown {d n st i : Nat} (s : State) (hn : n < 12) (hi : i = 3 ∨ i = 5) :
    flag ⟨Layout.addr d (lanePage n) 0x48, i, 1⟩ (laneDown d n st s) = flag ⟨Layout.addr d (lanePage n) 0x48, i, 1⟩ s :=
  congrArg (· != 0) (rd_laneDown s hn (belowLinks_lane d hn (by decide)) (apart_page (.inr ⟨by decide, .inr (by omega)⟩))
    (apart_page (.inr ⟨by decide, by omega⟩)))

theorem laneLoss_goesDown {d n why : Nat} {s : State} (hon : laneOn d n s = true) (hst : laneSt d n s = 5) :
    ∃ t, exec (.laneLoss d n why) s = .next t ∧ laneSt d n t = 4 ∧ flag (R.LANE.LSTAT_BLOCK_LOCK d n) t = false ∧
      (laneOf d n t).lostAt = some s.now ∧ (why = 1 → flag (R.LANE.LSTAT_SIG_DET d n) t = false) ∧
      (why = 2 → flag (R.LANE.LSTAT_HI_BER d n) t = true) := by
  have hexec : execLaneLoss d n why s = .next (laneDown d n 4 (lossShown d n why s)) := by
    unfold execLaneLoss
    rw [if_neg (by rw [hon, hst]; decide)]
    rfl
  have hn := laneOn_lt hon
  have h5 : laneSt d n (lossShown d n why s) = 5 := (laneSt_lossShown why s hn).trans hst
  refine ⟨_, Eq.trans (b := execLaneLoss d n why s) rfl hexec, laneSt_laneDown _ hn (by decide), lock_laneDown hn h5, ?_, ?_, ?_⟩
  · rw [laneOf_laneDown h5, (lossShown_kept d n why s).now rfl]
  · rintro rfl
    rw [lossShown_signal]
    exact (flag_laneDown _ hn (.inl rfl)).trans (flag_wr_zero _ (show 3 + 1 ≤ 32 by decide))
  · rintro rfl
    rw [lossShown_errors]
    exact (flag_laneDown _ hn (.inr rfl)).trans (hiBer_shown s hn)

/-! ### SYNC_HEADER_ERROR (R171, R181) -/

theorem rd_invalidHeader_ne {d n : Nat} {l : Loc} (s : State) (hn : n < 12) (hl : BelowLinks l.addr)
    (hne : l.addr ≠ Layout.addr d (lanePage n) 0x54) : rd l (invalidHeader d n s) = rd l s :=
  (rd_recordFault_block hl.blockWord (lanePage_lt hn)).trans (rd_bump_ne s hne)

theorem laneSt_invalidHeader {d n : Nat} (s : State) (hn : n < 12) : laneSt d n (invalidHeader d n s) = laneSt d n s :=
  rd_invalidHeader_ne s hn (belowLinks_lane d hn (by decide)) (addr_ne_offset (by decide))

theorem rd_invalidHeader_count {d n : Nat} (s : State) (hn : n < 12) :
    rd (R.LANE.SYNC_ERR_COUNT d n) (invalidHeader d n s) = Nat.min (rd (R.LANE.SYNC_ERR_COUNT d n) s + 1) 4294967295 :=
  (rd_recordFault_block (belowLinks_lane d hn (o := 0x54) (by decide)).blockWord (lanePage_lt hn)).trans
    (rd_bump_same s (show 0 + 32 ≤ 32 by decide))

theorem invalidHeader_kept (d n : Nat) (s : State) : Touches 0x1800000041004 s (invalidHeader d n s) :=
  invalidHeader_touches (Nat.and_self _) (.refl _ s)

/-- The invalid header that has come stands in the lane's list. -/
def headerNoted (d n : Nat) (s : State) : State := setLane d n { laneOf d n s with invalid := (s.now :: (laneOf d n s).invalid).take 16 } s

theorem getElem?_take_sixteen (x : Nat) (l : List Nat) : ((x :: l).take 16)[15]? = l[14]? := by
  rw [List.getElem?_take_of_lt (by decide), List.getElem?_cons_succ]

theorem headerJudge_within {d n : Nat} {s : State} (h : ∀ x, (laneOf d n s).invalid[14]? = some x →
    x + 1000 * rd (R.LANE.HIBER_CFG_WINDOW d n) s < s.now) : headerJudge d n s = headerNoted d n s := by
  unfold headerJudge
  dsimp only
  rw [getElem?_take_sixteen]
  split
  · rfl
  · next x hx => exact if_neg (Nat.not_le.mpr (h x hx))

theorem headerJudge_sixteenth {d n x : Nat} {s : State} (hx : (laneOf d n s).invalid[14]? = some x)
    (hwin : s.now ≤ x + 1000 * rd (R.LANE.HIBER_CFG_WINDOW d n) s) : headerJudge d n s =
      laneDown d n 4 (evt d (lanePage n) 3 (wr (R.LANE.LSTAT_HI_BER d n) 1 (headerNoted d n s))) := by
  unfold headerJudge
  dsimp only
  rw [getElem?_take_sixteen, hx]
  exact if_pos hwin

theorem execSyncHeaderError_up {d n : Nat} {s : State} (hon : laneOn d n s = true) (hst : laneSt d n s = 5) :
    execSyncHeaderError d n s = .next (headerJudge d n (invalidHeader d n s)) := by
  unfold execSyncHeaderError
  rw [laneMuted_of_on hon, if_neg (by decide), if_pos (by rw [hon, hst]; rfl)]

theorem syncHeaderError_counts {d n : Nat} {s : State} (hon : laneOn d n s = true) (hst : laneSt d n s = 4) :
    ∃ t, exec (.syncHeaderError d n) s = .next t ∧ laneSt d n t = 4 ∧
      rd (R.LANE.SYNC_ERR_COUNT d n) t = Nat.min (rd (R.LANE.SYNC_ERR_COUNT d n) s + 1) 4294967295 ∧ t.fenced = s.fenced := by
  have hexec : execSyncHeaderError d n s = .next (invalidHeader d n s) := by
    unfold execSyncHeaderError
    rw [laneMuted_of_on hon, if_neg (by decide), if_neg (by rw [hst]; simp), if_pos (by rw [hon, hst]; rfl)]
  have hn := laneOn_lt hon
  exact ⟨_, Eq.trans (b := execSyncHeaderError d n s) rfl hexec, (laneSt_invalidHeader s hn).trans hst, rd_invalidHeader_count s hn,
    (invalidHeader_kept d n s).fenced rfl⟩

theorem syncHeaderError_noted {d n : Nat} {s : State} (hon : laneOn d n s = true) (hst : laneSt d n s = 5)
    (hwin : ∀ x, (laneOf d n s).invalid[14]? = some x → x + 1000 * rd (R.LANE.HIBER_CFG_WINDOW d n) s < s.now) :
    ∃ t, exec (.syncHeaderError d n) s = .next t ∧ laneSt d n t = 5 ∧
      rd (R.LANE.SYNC_ERR_COUNT d n) t = Nat.min (rd (R.LANE.SYNC_ERR_COUNT d n) s + 1) 4294967295 ∧ t.fenced = s.fenced := by
  have hn := laneOn_lt hon
  have hkept := invalidHeader_kept d n s
  have hjudge : headerJudge d n (invalidHeader d n s) = headerNoted d n (invalidHeader d n s) :=
    headerJudge_within fun x hx => by
      rw [laneOf_congr d n (hkept.lanes rfl)] at hx
      rw [hkept.now rfl, rd_invalidHeader_ne s hn (belowLinks_lane d hn (by decide)) (addr_ne_offset (by decide))]
      exact hwin x hx
  exact ⟨_, Eq.trans (b := execSyncHeaderError d n s) rfl ((execSyncHeaderError_up hon hst).trans (congrArg _ hjudge)),
    (laneSt_invalidHeader s hn).trans hst, rd_invalidHeader_count s hn, hkept.fenced rfl⟩

theorem syncHeaderError_goesDown {d n x : Nat} {s : State} (hon : laneOn d n s = true) (hst : laneSt d n s = 5)
    (hx : (laneOf d n s).invalid[14]? = some x) (hwin : s.now ≤ x + 1000 * rd (R.LANE.HIBER_CFG_WINDOW d n) s) :
    ∃ t, exec (.syncHeaderError d n) s = .next t ∧ laneSt d n t = 4 ∧ flag (R.LANE.LSTAT_BLOCK_LOCK d n) t = false ∧
      flag (R.LANE.LSTAT_HI_BER d n) t = true := by
  have hn := laneOn_lt hon
  have hkept := invalidHeader_kept d n s
  have hwin' : (invalidHeader d n s).now ≤ x + 1000 * rd (R.LANE.HIBER_CFG_WINDOW d n) (invalidHeader d n s) := by
    rw [hkept.now rfl, rd_invalidHeader_ne s hn (belowLinks_lane d hn (by decide)) (addr_ne_offset (by decide))]
    exact hwin
  have hjudge := headerJudge_sixteenth (by rw [laneOf_congr d n (hkept.lanes rfl)]; exact hx) hwin'
  have h5 : laneSt d n (evt d (lanePage n) 3 (wr (R.LANE.LSTAT_HI_BER d n) 1 (headerNoted d n (invalidHeader d n s)))) = 5 :=
    (laneSt_evt_wr hn (by decide) (by decide)).trans ((laneSt_invalidHeader s hn).trans hst)
  exact ⟨_, Eq.trans (b := execSyncHeaderError d n s) rfl ((execSyncHeaderError_up hon hst).trans (congrArg _ hjudge)),
    laneSt_laneDown _ hn (by decide), lock_laneDown hn h5, (flag_laneDown _ hn (.inr rfl)).trans (hiBer_shown _ hn)⟩

/-! ### ELASTIC_OVERFLOW, LANE_LOCK_HOLD_TIMEOUT and LANE_SYNTH_LOSS (R165, R170, R172) -/

theorem elasticOverflow_counts {d n : Nat} {s : State} (hon : laneOn d n s = true) (hst : laneSt d n s = 5)
    (hlink : (isHeadLane n || isRasterLane d n) = true) :
    ∃ t, exec (.elasticOverflow d n) s = .next t ∧ laneSt d n t = 5 ∧ rd (R.LANE.LSTAT_FILL d n) t = 32 ∧
      rd (R.LANE.LOCK_CNT_OVF d n) t = Nat.min (rd (R.LANE.LOCK_CNT_OVF d n) s + 1) 65535 ∧ t.fenced = s.fenced := by
  have hexec : execElasticOverflow d n s = .next (recordFault d (lanePage n) 1 false
      (bump (R.LANE.LOCK_CNT_OVF d n) (wr (R.LANE.LSTAT_FILL d n) 32 s))) := by
    unfold execElasticOverflow
    rw [if_pos (by rw [hon, hst, hlink]; rfl), laneFault_overflow]
  have hn := laneOn_lt hon
  have hrd : ∀ {l : Loc}, BelowLinks l.addr → rd l (recordFault d (lanePage n) 1 false
      (bump (R.LANE.LOCK_CNT_OVF d n) (wr (R.LANE.LSTAT_FILL d n) 32 s))) =
        rd l (bump (R.LANE.LOCK_CNT_OVF d n) (wr (R.LANE.LSTAT_FILL d n) 32 s)) :=
    fun hl => rd_recordFault_block hl.blockWord (lanePage_lt hn)
  have hlstat : BelowLinks (Layout.addr d (0x20 + n) 0x48) := belowLinks_lane d hn (by decide)
  refine ⟨_, Eq.trans (b := execElasticOverflow d n s) rfl hexec, ?_, ?_, ?_, by simp⟩
  · exact (hrd hlstat).trans ((rd_wr_of_apart (apart_page (by decide)) _ _).trans ((rd_wr_of_apart (apart_page (by decide)) _ _).trans hst))
  · exact (hrd hlstat).trans ((rd_wr_of_apart (apart_page (by decide)) _ _).trans (rd_wr_same _ _ (show 8 + 6 ≤ 32 by decide)))
  · rw [hrd (belowLinks_lane d hn (by decide)), rd_bump_same _ (show 16 + 16 ≤ 32 by decide),
      rd_wr_of_apart (l := R.LANE.LOCK_CNT_OVF d n) (m := R.LANE.LSTAT_FILL d n) (apart_page (by decide))]
    rfl

theorem laneLockHoldTimeout_fences {d n : Nat} {s : State} (hon : laneOn d n s = true) (hst : laneSt d n s ≠ 5)
    (hhold : lockHoldOver d n s = true) :
    ∃ t, exec (.laneLockHoldTimeout d n) s = .next t ∧ UnitId.lane d n ∈ t.fenced ∧ laneOn d n t = false := by
  have hexec : execLaneLockHoldTimeout d n s = .next (laneFault d n 0 false s) := if_pos (by simp [hon, hst, hhold])
  exact ⟨_, Eq.trans (b := execLaneLockHoldTimeout d n s) rfl hexec, laneFault_fences d n false s (.inl rfl)⟩

theorem laneSynthLoss_fences {d n : Nat} {s : State} (hon : laneOn d n s = true) (hlow : 2 ≤ laneSt d n s) (hhigh : laneSt d n s ≤ 5) :
    ∃ t, exec (.laneSynthLoss d n) s = .next t ∧ UnitId.lane d n ∈ t.fenced ∧ laneOn d n t = false := by
  have hexec : execLaneSynthLoss d n s = .next (laneFault d n 2 false (laneStart d n (laneDown d n 0 s))) := by
    unfold execLaneSynthLoss
    rw [laneMuted_of_on hon, if_neg (by decide), if_pos (by simp [hon, hlow, hhigh])]
  exact ⟨_, Eq.trans (b := execLaneSynthLoss d n s) rfl hexec, laneFault_fences d n false _ (.inr rfl)⟩

/-- Settles O22: each command's next state, with the lane's status read of it after what the links do. -/
theorem laneBringUpCommandsAct : Obligations.LaneBringUpCommandsAct := by
  unfold Obligations.LaneBringUpCommandsAct
  refine ⟨?_, ?_, ?_, ?_, ?_, ?_, ?_, ?_, ?_, ?_, ?_, ?_⟩
  · exact fun d n s => laneSynthLock_ends
  · exact fun d n s => laneSignalDetect_shows
  · exact fun d n ctle dfe s => laneAdaptDone_shows
  · exact fun d n s => laneBlockLock_comesUp
  · exact fun d n s => laneBlockLock_stays
  · exact fun d n why s hon hst _ _ => laneLoss_goesDown hon hst
  · exact fun d n s => syncHeaderError_counts
  · exact fun d n s => syncHeaderError_noted
  · exact fun d n x s hon hst _ => syncHeaderError_goesDown hon hst
  · exact fun d n s => elasticOverflow_counts
  · exact fun d n s => laneLockHoldTimeout_fences
  · exact fun d n s => laneSynthLoss_fences

end Sys2Proof.Machine
end

section
/-! PROOFS. Retraining, the eye scan, and the alignment of bonds (R157 to R159, R170, R175 to R179, R184, R187). -/

namespace Sys2Proof.Machine

/-! ### A write of LCTL -/

/-- The state in which a write of LCTL acts. -/
def ctlStored (a : Access) (d n : Nat) (v : Word) (s : State) : State :=
  (RegWrite.of a d (lanePage n) 0x44 v).store (landWrite a.rq d s)

theorem rd_ctlStored {a : Access} {d n : Nat} {v : Word} {l : Loc} {s : State} (h : l.addr ≠ Layout.addr d (lanePage n) 0x44) :
    rd l (ctlStored a d n v s) = rd l s := by
  unfold ctlStored
  rw [rd_store_ne (by rw [RegWrite.of_at]; exact h), rd_landWrite]

/-- What leaves PAGE_CTL.EN, the fences, the dies and the domains leaves the lane on, or not on. -/
theorem laneOn_congr {d n : Nat} {s t : State} (k : Touches 0x12010000000000001404 s t)
    (hen : rd (R.HDR.PAGE_CTL_EN d (lanePage n)) t = rd (R.HDR.PAGE_CTL_EN d (lanePage n)) s) : laneOn d n t = laneOn d n s := by
  unfold laneOn blockOn blockUp domainReady dieUp laneFenced isFenced dieFenced State.dies releaseOf domainOf flag
  rw [k.part rfl, k.releases rfl, k.domains rfl, k.fenced rfl, k.safeStop rfl, hen]

theorem laneOn_ctlStored (a : Access) (d n : Nat) (v : Word) (s : State) : laneOn d n (ctlStored a d n v s) = laneOn d n s :=
  laneOn_congr (RegWrite.store_touches rfl (landWrite_touches rfl (.refl _ s))) (rd_ctlStored (addr_ne_offset (by decide)))

theorem testBit_or_of_false {v c : Word} {i : Nat} (h : testBit v.toNat i = false) : testBit (v ||| c).toNat i = testBit c.toNat i :=
  (or_bit v c i).trans (by rw [h, Bool.false_or])

theorem testBit_or_of_set {v c : Word} {i : Nat} (h : testBit c.toNat i = true) : testBit (v ||| c).toNat i = true :=
  (or_bit v c i).trans (by rw [h, Bool.or_true])

section
variable {d n v : Nat} {s : State}

theorem laneCtl_retrain (h0 : testBit v 0 = true) (h1 : testBit v 1 = false) (h2 : testBit v 2 = false) (hon : laneOn d n s = true) :
    laneCtl d n v s = laneStart d n (laneDown d n 0 s) := by
  unfold laneCtl
  simp only [h0, h1, h2, hon, Bool.true_and, Bool.false_and, Bool.false_eq_true, if_true, if_false]

theorem laneCtl_eyeGo (h0 : testBit v 0 = false) (h1 : testBit v 1 = true) (h2 : testBit v 2 = false) (hon : laneOn d n s = true) :
    laneCtl d n v s = eyeGo d n s := by
  unfold laneCtl
  simp only [h0, h1, h2, hon, Bool.true_and, Bool.false_and, Bool.false_eq_true, if_true, if_false]

theorem laneCtl_eyeStop (h0 : testBit v 0 = false) (h1 : testBit v 1 = false) (h2 : testBit v 2 = true) :
    laneCtl d n v s = eyeEnd d n 1 s := by
  unfold laneCtl
  simp only [h0, h1, h2, Bool.false_and, Bool.false_eq_true, if_true, if_false]

end

/-! ### LANE_RETRAIN (R157 to R159, R170) -/

theorem laneOn_laneDown {d n : Nat} (st : Nat) (s : State) (hn : n < 12) : laneOn d n (laneDown d n st s) = laneOn d n s :=
  laneOn_congr (laneDown_touches rfl (.refl _ s)) (rd_laneDown s hn (belowLinks_lane d hn (by decide))
    (.inl (addr_ne_offset (by decide))) (.inl (addr_ne_offset (by decide))))

/-- The lane as its bring-up starts, with LCFG as it is. -/
def laneBegun (d n : Nat) (s : State) : Lane :=
  { laneOf d n s with
    rate := rd (R.LANE.LCFG_RATE d n) s
    prbs := flag (R.LANE.LCFG_PRBS_GEN d n) s
    check := flag (R.LANE.LCFG_PRBS_CHK d n) s
    near := flag (R.LANE.LCFG_LOOP_NEAR d n) s
    far := flag (R.LANE.LCFG_LOOP_FAR d n) s
    on := true }

theorem laneStart_starts {d n : Nat} {s : State} (hon : laneOn d n s = true) (hst : laneSt d n s = 0)
    (hpll : rd (R.CLK.PLL_STAT_STATE d 3) s = 2)
    (hrate : rd (R.LANE.LCFG_RATE d n) s = rd (R.LANE.LCFG_RATE d (groupFirst d n)) s) :
    laneStart d n s = setLaneSt d n 1 (setLane d n (laneBegun d n s) s) := by
  unfold laneStart
  rw [if_neg (by rw [hon, hst, hpll]; decide)]
  exact if_neg (not_not_intro hrate)

theorem groupFirst_lt {d n : Nat} (hn : n < 12) : groupFirst d n < 12 := by
  unfold groupFirst
  split
  · next h => simp only [isHeadLane, Bool.and_eq_true, decide_eq_true_eq] at h; omega
  · split
    · decide
    · exact hn

/-- The words of PLLs and of LCFG stand when a lane goes to OFF. -/
theorem rd_laneDown_cfg {d n m st i w : Nat} (s : State) (hn : n < 12) (hm : m < 12) :
    rd ⟨Layout.addr d (lanePage m) 0x40, i, w⟩ (laneDown d n st s) = rd ⟨Layout.addr d (lanePage m) 0x40, i, w⟩ s :=
  have hne : Layout.addr d (lanePage m) 0x40 ≠ Layout.addr d (lanePage n) 0x48 :=
    addr_ne (lanePage_lt hm) (by decide) (lanePage_lt hn) (by decide) (.inr (.inr (by decide)))
  rd_laneDown s hn (belowLinks_lane d hm (by decide)) (.inl hne) (.inl hne)

theorem rd_laneDown_pll {d n st : Nat} (s : State) (hn : n < 12) :
    rd (R.CLK.PLL_STAT_STATE d 3) (laneDown d n st s) = rd (R.CLK.PLL_STAT_STATE d 3) s :=
  have hne : Layout.addr d 0x11 (0x044 + 0x4 * 3) ≠ Layout.addr d (lanePage n) 0x48 :=
    addr_ne (by decide) (by decide) (lanePage_lt hn) (by decide) (.inr (.inr (by decide)))
  rd_laneDown s hn ⟨d, 0x11, 0x044 + 0x4 * 3, rfl, by decide, by decide, by decide⟩ (.inl hne) (.inl hne)

theorem laneRetrain_starts {a : Access} {d n : Nat} {v : Word} {s : State} (hn : n < 12) (h : Reaches a d (lanePage n) 0x44 s)
    (hon : laneOn d n s = true) (hgo : testBit v.toNat 1 = false) (hstop : testBit v.toNat 2 = false)
    (hpll : rd (R.CLK.PLL_STAT_STATE d 3) s = 2)
    (hrate : rd (R.LANE.LCFG_RATE d n) s = rd (R.LANE.LCFG_RATE d (groupFirst d n)) s) :
    ∃ t, exec (.laneRetrain a d n v) s = .next t ∧ laneSt d n t = 1 ∧ (laneOf d n t).rate = rd (R.LANE.LCFG_RATE d n) s ∧
      (laneOf d n t).check = flag (R.LANE.LCFG_PRBS_CHK d n) s := by
  have hon' : laneOn d n (ctlStored a d n (v ||| 1) s) = true := (laneOn_ctlStored ..).trans hon
  have hctl : laneCtl d n (v ||| 1).toNat (ctlStored a d n (v ||| 1) s) =
      laneStart d n (laneDown d n 0 (ctlStored a d n (v ||| 1) s)) :=
    laneCtl_retrain (testBit_or_of_set (by decide)) ((testBit_or_of_false hgo).trans (by decide))
      ((testBit_or_of_false hstop).trans (by decide)) hon'
  have hcfg : ∀ {m i w : Nat}, m < 12 → rd ⟨Layout.addr d (lanePage m) 0x40, i, w⟩ (laneDown d n 0 (ctlStored a d n (v ||| 1) s)) =
      rd ⟨Layout.addr d (lanePage m) 0x40, i, w⟩ s := fun hm =>
    (rd_laneDown_cfg _ hn hm).trans (rd_ctlStored
      (addr_ne (lanePage_lt hm) (by decide) (lanePage_lt hn) (by decide) (.inr (.inr (by decide)))))
  have hpll' : rd (R.CLK.PLL_STAT_STATE d 3) (laneDown d n 0 (ctlStored a d n (v ||| 1) s)) = 2 :=
    (rd_laneDown_pll _ hn).trans ((rd_ctlStored
      (addr_ne (by decide) (by decide) (lanePage_lt hn) (by decide) (.inr (.inr (by decide))))).trans hpll)
  have hstart := laneStart_starts ((laneOn_laneDown 0 _ hn).trans hon') (laneSt_laneDown _ hn (by decide)) hpll'
    ((hcfg hn).trans (hrate.trans (hcfg (groupFirst_lt hn)).symm))
  have hlane : ∀ u : State, laneOf d n (setLaneSt d n 1 (setLane d n (laneBegun d n u) u)) = laneBegun d n u := fun u => by
    rw [laneOf_congr d n ((setLaneSt_touches (Nat.and_self _) (.refl _ _)).lanes rfl), laneOf_setLane]
  refine ⟨_, (exec_laneRetrain hn h).trans (congrArg _ (hctl.trans hstart)), laneSt_setLaneSt d n _ (by decide), ?_, ?_⟩
  · rw [hlane]
    exact hcfg hn
  · rw [hlane]
    exact congrArg (· != 0) (hcfg hn)

/-! ### The eye scan (R175 to R179) -/

/-- The scan is over, with its result. -/
def eyeOver (d n result : Nat) (s : State) : State :=
  evt d (lanePage n) 2 (wr (R.LANE.EYE_STAT_STATE d n) 3 (wr (R.LANE.EYE_STAT_RESULT d n) result s))

theorem eyeEnd_under_way {d n result : Nat} {s : State}
    (h : rd (R.LANE.EYE_STAT_STATE d n) s = 1 ∨ rd (R.LANE.EYE_STAT_STATE d n) s = 2) : eyeEnd d n result s = eyeOver d n result s :=
  if_pos h

theorem eyeOver_kept (d n result : Nat) (s : State) : Touches 0x1004 s (eyeOver d n result s) :=
  evt_touches rfl (wr_touches rfl (wr_touches rfl (.refl _ s)))

section
variable {d n : Nat} (hn : n < 12)
include hn

theorem rd_evt_lane {o i w b : Nat} (ho : 0x40 ≤ o ∧ o < 0x1000) (s : State) :
    rd ⟨Layout.addr d (lanePage n) o, i, w⟩ (evt d (lanePage n) b s) = rd ⟨Layout.addr d (lanePage n) o, i, w⟩ s :=
  rd_evt_block (belowLinks_lane d hn (.inr ho)).blockWord (lanePage_lt hn)

theorem state_eyeOver (result : Nat) (s : State) : rd (R.LANE.EYE_STAT_STATE d n) (eyeOver d n result s) = 3 :=
  (rd_evt_lane hn (by decide) _).trans (rd_wr_same _ _ (show 0 + 2 ≤ 32 by decide))

theorem result_eyeOver {result : Nat} (s : State) (hr : result < 4) :
    rd (R.LANE.EYE_STAT_RESULT d n) (eyeOver d n result s) = result :=
  (rd_evt_lane hn (by decide) _).trans ((rd_wr_of_apart (apart_page (by decide)) _ _).trans
    ((rd_wr_same _ _ (show 2 + 2 ≤ 32 by decide)).trans (Nat.mod_eq_of_lt hr)))

theorem points_eyeOver (result : Nat) (s : State) :
    rd (R.LANE.EYE_STAT_POINTS d n) (eyeOver d n result s) = rd (R.LANE.EYE_STAT_POINTS d n) s :=
  (rd_evt_lane hn (by decide) _).trans ((rd_wr_of_apart (apart_page (by decide)) _ _).trans
    (rd_wr_of_apart (apart_page (by decide)) _ _))

end

/-- The settings of a scan are the registers EYE_H to EYE_BUF_HI, and the size of the die's memory. -/
theorem eyeSound_congr {d n : Nat} {s t : State} (h : ∀ {o i w}, 0x80 ≤ o ∧ o ≤ 0x90 →
    rd ⟨Layout.addr d (lanePage n) o, i, w⟩ t = rd ⟨Layout.addr d (lanePage n) o, i, w⟩ s)
    (hmem : rd (R.MEMC.MSTAT_FITTED d) t = rd (R.MEMC.MSTAT_FITTED d) s) : eyeSound d n t = eyeSound d n s := by
  have h0 : rd (R.LANE.EYE_H_START d n) t = rd (R.LANE.EYE_H_START d n) s := h (by decide)
  have h1 : rd (R.LANE.EYE_H_STOP d n) t = rd (R.LANE.EYE_H_STOP d n) s := h (by decide)
  have h2 : rd (R.LANE.EYE_H_STEP d n) t = rd (R.LANE.EYE_H_STEP d n) s := h (by decide)
  have h3 : rd (R.LANE.EYE_V_START d n) t = rd (R.LANE.EYE_V_START d n) s := h (by decide)
  have h4 : rd (R.LANE.EYE_V_STOP d n) t = rd (R.LANE.EYE_V_STOP d n) s := h (by decide)
  have h5 : rd (R.LANE.EYE_V_STEP d n) t = rd (R.LANE.EYE_V_STEP d n) s := h (by decide)
  have h6 : rd (R.LANE.EYE_DWELL_DWELL d n) t = rd (R.LANE.EYE_DWELL_DWELL d n) s := h (by decide)
  have h7 : rd (R.LANE.EYE_BUF_LO_ADDR d n) t = rd (R.LANE.EYE_BUF_LO_ADDR d n) s := h (by decide)
  have h8 : rd (R.LANE.EYE_BUF_HI_ADDR d n) t = rd (R.LANE.EYE_BUF_HI_ADDR d n) s := h (by decide)
  unfold eyeSound eyeColumns eyeRows eyeS eyeBuf fittedBytes
  rw [h0, h1, h2, h3, h4, h5, h6, h7, h8, hmem]

theorem eyeMay_congr {d n : Nat} {s t : State} (hst : laneSt d n t = laneSt d n s)
    (hstate : rd (R.THERM.TSTAT_STATE d) t = rd (R.THERM.TSTAT_STATE d) s)
    (hdiff : rd (R.THERM.TSTAT_DIFF d) t = rd (R.THERM.TSTAT_DIFF d) s) : eyeMay d n t = eyeMay d n s := by
  unfold eyeMay backgroundDeferred flag
  rw [hst, hstate, hdiff]

/-- A register of another page than a lane's. -/
theorem ne_lanePage {d n p o o' : Nat} (hn : n < 12) (hp : p < 256) (ho : o < 0x1000) (ho' : o' < 0x1000)
    (h : p < 0x20 ∨ 0x2C ≤ p) : Layout.addr d p o ≠ Layout.addr d (lanePage n) o' :=
  addr_ne hp ho (lanePage_lt hn) ho' (.inr (.inl (by unfold lanePage; omega)))

theorem eyeSound_ctlStored {a : Access} {d n : Nat} {v : Word} {s : State} (hn : n < 12) :
    eyeSound d n (ctlStored a d n v s) = eyeSound d n s :=
  eyeSound_congr (fun ho => rd_ctlStored (addr_ne_offset (by omega)))
    (rd_ctlStored (ne_lanePage (p := 0x38) hn (by decide) (by decide) (by decide) (by decide)))

theorem eyeMay_ctlStored {a : Access} {d n : Nat} {v : Word} {s : State} (hn : n < 12) :
    eyeMay d n (ctlStored a d n v s) = eyeMay d n s :=
  eyeMay_congr (rd_ctlStored (addr_ne_offset (by decide)))
    (rd_ctlStored (ne_lanePage (p := 0x14) hn (by decide) (by decide) (by decide) (by decide)))
    (rd_ctlStored (ne_lanePage (p := 0x14) hn (by decide) (by decide) (by decide) (by decide)))

/-- A write of LCTL with EYE_GO alone. -/
theorem exec_eyeScanGo_go {a : Access} {d n : Nat} {v : Word} {s : State} (hn : n < 12) (h : Reaches a d (lanePage n) 0x44 s)
    (hon : laneOn d n s = true) (htrain : testBit v.toNat 0 = false) (hstop : testBit v.toNat 2 = false) :
    exec (.eyeScanGo a d n v) s = .next (eyeGo d n (ctlStored a d n (v ||| 2) s)) := by
  have hctl : laneCtl d n (v ||| 2).toNat (ctlStored a d n (v ||| 2) s) = eyeGo d n (ctlStored a d n (v ||| 2) s) :=
    laneCtl_eyeGo ((testBit_or_of_false htrain).trans (by decide)) (testBit_or_of_set (by decide))
      ((testBit_or_of_false hstop).trans (by decide)) ((laneOn_ctlStored ..).trans hon)
  exact (exec_eyeScanGo hn h).trans (congrArg _ hctl)

/-- The scan as it starts, from its first point. -/
def eyeBegun (d n : Nat) (s : State) : State :=
  wr (R.LANE.EYE_STAT_STATE d n) (if eyeMay d n s then 1 else 2) (wr (R.LANE.EYE_STAT_RESULT d n) 0
    (setLane d n { laneOf d n s with point := 0 } (wr (R.LANE.EYE_STAT_POINTS d n) 0 s)))

theorem eyeGo_idle {d n : Nat} {s : State} (h1 : rd (R.LANE.EYE_STAT_STATE d n) s ≠ 1) (h2 : rd (R.LANE.EYE_STAT_STATE d n) s ≠ 2) :
    eyeGo d n s = if eyeSound d n s then eyeBegun d n s else eyeOver d n 2 (wr (R.LANE.EYE_STAT_POINTS d n) 0 s) := by
  have hlane : laneOf d n (wr (R.LANE.EYE_STAT_POINTS d n) 0 s) = laneOf d n s :=
    laneOf_congr d n ((wr_touches (Nat.and_self _) (.refl _ s)).lanes rfl)
  unfold eyeGo
  rw [if_neg (by omega)]
  dsimp only
  rw [hlane]
  unfold eyeBegun eyeOver
  cases eyeSound d n s with
  | true => rw [if_neg (by decide), if_pos rfl]
  | false => rw [if_pos (by decide), if_neg (by decide)]

theorem eyeBegun_holds (d n : Nat) (s : State) :
    rd (R.LANE.EYE_STAT_STATE d n) (eyeBegun d n s) = (if eyeMay d n s then 1 else 2) ∧
      rd (R.LANE.EYE_STAT_POINTS d n) (eyeBegun d n s) = 0 ∧ rd (R.LANE.EYE_STAT_RESULT d n) (eyeBegun d n s) = 0 ∧
      (laneOf d n (eyeBegun d n s)).point = 0 := by
  have hpoints : Apart (R.LANE.EYE_STAT_POINTS d n) (R.LANE.EYE_STAT_STATE d n) := apart_page (by decide)
  have hpoints' : Apart (R.LANE.EYE_STAT_POINTS d n) (R.LANE.EYE_STAT_RESULT d n) := apart_page (by decide)
  have hresult : Apart (R.LANE.EYE_STAT_RESULT d n) (R.LANE.EYE_STAT_STATE d n) := apart_page (by decide)
  refine ⟨?_, ?_, ?_, ?_⟩
  · have hlt : (if eyeMay d n s then 1 else 2) < 4 := by split <;> decide
    rw [eyeBegun, rd_wr_same _ _ (show 0 + 2 ≤ 32 by decide)]
    exact Nat.mod_eq_of_lt hlt
  · rw [eyeBegun, rd_wr_of_apart hpoints, rd_wr_of_apart hpoints', rd_setLane,
      rd_wr_same _ _ (show 16 + 16 ≤ 32 by decide), Nat.zero_mod]
  · rw [eyeBegun, rd_wr_of_apart hresult, rd_wr_same _ _ (show 2 + 2 ≤ 32 by decide), Nat.zero_mod]
  · rw [eyeBegun, laneOf_congr d n ((wr_touches (msk := 0x4) rfl (wr_touches rfl (.refl _ _))).lanes rfl), laneOf_setLane]

theorem eyeScanGo_starts {a : Access} {d n : Nat} {v : Word} {s : State} (hn : n < 12) (h : Reaches a d (lanePage n) 0x44 s)
    (hon : laneOn d n s = true) (htrain : testBit v.toNat 0 = false) (hstop : testBit v.toNat 2 = false)
    (h1 : rd (R.LANE.EYE_STAT_STATE d n) s ≠ 1) (h2 : rd (R.LANE.EYE_STAT_STATE d n) s ≠ 2) (hsound : eyeSound d n s = true) :
    ∃ t, exec (.eyeScanGo a d n v) s = .next t ∧ rd (R.LANE.EYE_STAT_STATE d n) t = (if eyeMay d n s then 1 else 2) ∧
      rd (R.LANE.EYE_STAT_POINTS d n) t = 0 ∧ rd (R.LANE.EYE_STAT_RESULT d n) t = 0 ∧ (laneOf d n t).point = 0 := by
  have hst : rd (R.LANE.EYE_STAT_STATE d n) (ctlStored a d n (v ||| 2) s) = rd (R.LANE.EYE_STAT_STATE d n) s :=
    rd_ctlStored (addr_ne_offset (by decide))
  have hgo : eyeGo d n (ctlStored a d n (v ||| 2) s) = eyeBegun d n (ctlStored a d n (v ||| 2) s) := by
    rw [eyeGo_idle (hst ▸ h1) (hst ▸ h2), eyeSound_ctlStored hn, hsound, if_pos rfl]
  obtain ⟨hstate, hpoints, hresult, hpoint⟩ := eyeBegun_holds d n (ctlStored a d n (v ||| 2) s)
  rw [eyeMay_ctlStored hn] at hstate
  exact ⟨_, (exec_eyeScanGo_go hn h hon htrain hstop).trans (congrArg _ hgo), hstate, hpoints, hresult, hpoint⟩

theorem eyeScanGo_refuses {a : Access} {d n : Nat} {v : Word} {s : State} (hn : n < 12) (h : Reaches a d (lanePage n) 0x44 s)
    (hon : laneOn d n s = true) (htrain : testBit v.toNat 0 = false) (hstop : testBit v.toNat 2 = false)
    (h1 : rd (R.LANE.EYE_STAT_STATE d n) s ≠ 1) (h2 : rd (R.LANE.EYE_STAT_STATE d n) s ≠ 2) (hsound : eyeSound d n s = false) :
    ∃ t, exec (.eyeScanGo a d n v) s = .next t ∧ rd (R.LANE.EYE_STAT_STATE d n) t = 3 ∧
      rd (R.LANE.EYE_STAT_RESULT d n) t = 2 ∧ rd (R.LANE.EYE_STAT_POINTS d n) t = 0 := by
  have hst : rd (R.LANE.EYE_STAT_STATE d n) (ctlStored a d n (v ||| 2) s) = rd (R.LANE.EYE_STAT_STATE d n) s :=
    rd_ctlStored (addr_ne_offset (by decide))
  have hgo : eyeGo d n (ctlStored a d n (v ||| 2) s) =
      eyeOver d n 2 (wr (R.LANE.EYE_STAT_POINTS d n) 0 (ctlStored a d n (v ||| 2) s)) := by
    rw [eyeGo_idle (hst ▸ h1) (hst ▸ h2), eyeSound_ctlStored hn, hsound, if_neg (by decide)]
  exact ⟨_, (exec_eyeScanGo_go hn h hon htrain hstop).trans (congrArg _ hgo), state_eyeOver hn 2 _,
    result_eyeOver hn _ (by decide), (points_eyeOver hn 2 _).trans (rd_wr_same _ _ (show 16 + 16 ≤ 32 by decide))⟩

theorem eyeScanStop_ends {a : Access} {d n : Nat} {v : Word} {s : State} (hn : n < 12) (h : Reaches a d (lanePage n) 0x44 s)
    (htrain : testBit v.toNat 0 = false) (hgo : testBit v.toNat 1 = false)
    (hst : rd (R.LANE.EYE_STAT_STATE d n) s = 1 ∨ rd (R.LANE.EYE_STAT_STATE d n) s = 2) :
    ∃ t, exec (.eyeScanStop a d n v) s = .next t ∧ rd (R.LANE.EYE_STAT_STATE d n) t = 3 ∧ rd (R.LANE.EYE_STAT_RESULT d n) t = 1 := by
  have hst' : rd (R.LANE.EYE_STAT_STATE d n) (ctlStored a d n (v ||| 4) s) = rd (R.LANE.EYE_STAT_STATE d n) s :=
    rd_ctlStored (addr_ne_offset (by decide))
  have hctl : laneCtl d n (v ||| 4).toNat (ctlStored a d n (v ||| 4) s) = eyeOver d n 1 (ctlStored a d n (v ||| 4) s) :=
    (laneCtl_eyeStop ((testBit_or_of_false htrain).trans (by decide)) ((testBit_or_of_false hgo).trans (by decide))
      (testBit_or_of_set (by decide))).trans (eyeEnd_under_way (by rw [hst']; exact hst))
  exact ⟨_, (exec_eyeScanStop hn h).trans (congrArg _ hctl), state_eyeOver hn 1 _, result_eyeOver hn _ (by decide)⟩

theorem eyeScanResume_runs {d n : Nat} {s : State} (hon : laneOn d n s = true) (hst : rd (R.LANE.EYE_STAT_STATE d n) s = 2)
    (hmay : eyeMay d n s = true) :
    ∃ t, exec (.eyeScanResume d n) s = .next t ∧ rd (R.LANE.EYE_STAT_STATE d n) t = 1 ∧ t = { s with regs := t.regs } := by
  have hexec : execEyeScanResume d n s = .next (wr (R.LANE.EYE_STAT_STATE d n) 1 s) := if_pos (by rw [hon, hst, hmay]; rfl)
  exact ⟨_, Eq.trans (b := execEyeScanResume d n s) rfl hexec, rd_wr_same 1 s (show 0 + 2 ≤ 32 by decide), regsOnly_wr _ _ s⟩

/-! ### EYE_POINT_DONE (R177) -/

/-- A write by an agent that is carried out changes the memory and what is known to be bad in it. -/
theorem agentWrite_written {agent x : Nat} {bs : List Byte} {s t : State} (h : agentWrite agent x bs s = (true, t)) :
    Touches 0x200000008 s t := by
  unfold agentWrite at h
  split at h
  · cases (Prod.mk.inj h).1
  · rw [← (Prod.mk.inj h).2]
    exact memWrite_touches rfl (healBlocks_touches rfl (.refl _ s))

theorem Touches.rd_eq {m : Nat} {s t : State} (k : Touches m s t) (hm : m.testBit 2 = false) (l : Loc) : rd l t = rd l s := by
  unfold rd word
  rw [k.regs hm]

/-- The point has been counted, and the next one is named. -/
def pointCounted (d n : Nat) (s s1 : State) : State :=
  wr (R.LANE.EYE_STAT_POINTS d n) (rd (R.LANE.EYE_STAT_POINTS d n) s1 + 1)
    (setLane d n { laneOf d n s1 with point := (laneOf d n s).point + 1 } s1)

theorem pointCounted_kept (d n : Nat) (s s1 : State) : Touches 0x2000000000000000004 s1 (pointCounted d n s s1) :=
  wr_touches rfl (setLane_touches rfl (.refl _ s1))

theorem laneOf_pointCounted (d n : Nat) (s s1 : State) :
    laneOf d n (pointCounted d n s s1) = { laneOf d n s1 with point := (laneOf d n s).point + 1 } := by
  unfold pointCounted
  rw [laneOf_congr d n ((wr_touches (Nat.and_self _) (.refl _ _)).lanes rfl), laneOf_setLane]

theorem points_pointCounted {d n : Nat} (s : State) {s1 : State} (h : rd (R.LANE.EYE_STAT_POINTS d n) s1 < 65535) :
    rd (R.LANE.EYE_STAT_POINTS d n) (pointCounted d n s s1) = rd (R.LANE.EYE_STAT_POINTS d n) s1 + 1 :=
  (rd_wr_same _ _ (show 16 + 16 ≤ 32 by decide)).trans (Nat.mod_eq_of_lt (Nat.succ_lt_succ h))

theorem rd_pointCounted {d n : Nat} {l : Loc} (s s1 : State) (h : Apart l (R.LANE.EYE_STAT_POINTS d n)) :
    rd l (pointCounted d n s s1) = rd l s1 := rd_wr_of_apart h _ _

theorem eyeMay_pointCounted {d n : Nat} (s s1 : State) (hn : n < 12) : eyeMay d n (pointCounted d n s s1) = eyeMay d n s1 :=
  eyeMay_congr (rd_pointCounted s s1 (apart_page (by decide)))
    (rd_pointCounted s s1 (.inl (ne_lanePage (p := 0x14) hn (by decide) (by decide) (by decide) (by decide))))
    (rd_pointCounted s s1 (.inl (ne_lanePage (p := 0x14) hn (by decide) (by decide) (by decide) (by decide))))

theorem execEyePointDone_counts {d n errs units : Nat} {s s1 : State} (hon : laneOn d n s = true)
    (hst : rd (R.LANE.EYE_STAT_STATE d n) s = 1) (hcount : eyeCount d n errs units s = true)
    (hwrite : agentWrite agOther (eyeBuf d n s + 8 * (laneOf d n s).point) (leBytes 4 (Nat.min errs 0xFFFFFFFF) ++ leBytes 4 units) s =
      (true, s1)) :
    execEyePointDone d n errs units s =
      .next (if (laneOf d n s).point + 1 = eyeColumns d n s * eyeRows d n s then eyeEnd d n 0 (pointCounted d n s s1)
        else if eyeMay d n (pointCounted d n s s1) then pointCounted d n s s1
        else wr (R.LANE.EYE_STAT_STATE d n) 2 (pointCounted d n s s1)) := by
  unfold execEyePointDone
  rw [if_neg (by rw [hon, hst, hcount]; decide)]
  dsimp only
  rw [hwrite]
  exact (apply_ite Host.Outcome.next ..).symm

theorem eyePointDone_counts {d n errs units : Nat} {s s1 : State} (hon : laneOn d n s = true)
    (hst : rd (R.LANE.EYE_STAT_STATE d n) s = 1) (hcount : eyeCount d n errs units s = true)
    (hpoints : rd (R.LANE.EYE_STAT_POINTS d n) s < 65535)
    (hwrite : agentWrite agOther (eyeBuf d n s + 8 * (laneOf d n s).point) (leBytes 4 (Nat.min errs 0xFFFFFFFF) ++ leBytes 4 units) s =
      (true, s1)) :
    ∃ t, exec (.eyePointDone d n errs units) s = .next t ∧ t.mem = s1.mem ∧ (laneOf d n t).point = (laneOf d n s).point + 1 ∧
      rd (R.LANE.EYE_STAT_POINTS d n) t = rd (R.LANE.EYE_STAT_POINTS d n) s + 1 ∧
      rd (R.LANE.EYE_STAT_STATE d n) t =
        (if (laneOf d n s).point + 1 = eyeColumns d n s * eyeRows d n s then 3 else if eyeMay d n s then 1 else 2) := by
  have hn := laneOn_lt hon
  have hrd : ∀ l, rd l s1 = rd l s := (agentWrite_written hwrite).rd_eq rfl
  have hst1 : rd (R.LANE.EYE_STAT_STATE d n) (pointCounted d n s s1) = 1 :=
    (rd_pointCounted s s1 (apart_page (by decide))).trans ((hrd _).trans hst)
  have hpts : rd (R.LANE.EYE_STAT_POINTS d n) (pointCounted d n s s1) = rd (R.LANE.EYE_STAT_POINTS d n) s + 1 := by
    rw [points_pointCounted s (by rw [hrd]; exact hpoints), hrd]
  have hmay : eyeMay d n (pointCounted d n s s1) = eyeMay d n s :=
    (eyeMay_pointCounted s s1 hn).trans (eyeMay_congr (hrd _) (hrd _) (hrd _))
  have hmem : (pointCounted d n s s1).mem = s1.mem := (pointCounted_kept d n s s1).mem rfl
  have hpoint : (laneOf d n (pointCounted d n s s1)).point = (laneOf d n s).point + 1 :=
    congrArg Lane.point (laneOf_pointCounted d n s s1)
  refine ⟨_, Eq.trans (b := execEyePointDone d n errs units s) rfl (execEyePointDone_counts hon hst hcount hwrite), ?_⟩
  rw [hmay]
  split
  · have hover := eyeOver_kept d n 0 (pointCounted d n s s1)
    rw [eyeEnd_under_way (.inl hst1)]
    exact ⟨(hover.mem rfl).trans hmem, by rw [laneOf_congr d n (hover.lanes rfl)]; exact hpoint,
      (points_eyeOver hn 0 _).trans hpts, state_eyeOver hn 0 _⟩
  · split
    · exact ⟨hmem, hpoint, hpts, hst1⟩
    · have hwr : Touches 0x4 (pointCounted d n s s1) (wr (R.LANE.EYE_STAT_STATE d n) 2 (pointCounted d n s s1)) :=
        wr_touches rfl (.refl _ _)
      exact ⟨(hwr.mem rfl).trans hmem, by rw [laneOf_congr d n (hwr.lanes rfl)]; exact hpoint,
        (rd_wr_of_apart (apart_page (by decide)) _ _).trans hpts, rd_wr_same _ _ (show 0 + 2 ≤ 32 by decide)⟩

/-! ### The alignment of bonds (R184, R187) -/

theorem bondStLoc_page (i : Nat) : ∃ d p o, (bondStLoc i).addr = Layout.addr d p o ∧
    (p = 0x30 ∧ o = 0x54 ∨ ∃ k, p = shlPage (stLoc k) ∧ o = 0x44) := by
  unfold bondStLoc
  split
  · exact ⟨_, _, _, rfl, .inl ⟨rfl, rfl⟩⟩
  · exact ⟨_, shlPage (stLoc (i - 16)), _, rfl, .inr ⟨_, rfl, rfl⟩⟩

theorem bondStLoc_blockWord (i : Nat) : BlockWord (bondStLoc i).addr := by
  obtain ⟨d, p, o, haddr, ⟨rfl, rfl⟩ | ⟨k, rfl, rfl⟩⟩ := bondStLoc_page i
  · exact haddr ▸ blockWord_addr (by decide) (by decide) (by decide)
  · have := shlPage_bounds k
    exact haddr ▸ blockWord_addr this.2 (by decide) (.inr (by omega))

theorem bondStLoc_fits (i : Nat) : (bondStLoc i).lsb + (bondStLoc i).width ≤ 32 := by
  unfold bondStLoc
  split
  · exact (by decide : 0 + 2 ≤ 32)
  · exact (by decide : 0 + 2 ≤ 32)

theorem rd_bondSt_wr {v : Nat} (i : Nat) (s : State) (hv : v < 4) : rd (bondStLoc i) (wr (bondStLoc i) v s) = v := by
  have hw : (bondStLoc i).width = 2 := by unfold bondStLoc; split <;> rfl
  rw [rd_wr_same v s (bondStLoc_fits i), hw]
  exact Nat.mod_eq_of_lt hv

/-- What a head link sends leaves what the page shows of its bond. -/
theorem word_headSendNow {o : Nat} (k : Nat) (p : HeadPkt) (s : State) (h8 : o ≠ 0x48) (hC : o ≠ 0x4C) :
    word (Layout.addr (stDie k) (shlPage (stLoc k)) o) (headSendNow k p s) =
      word (Layout.addr (stDie k) (shlPage (stLoc k)) o) s := by
  have hsent : ∀ u v, word (Layout.addr (stDie k) (shlPage (stLoc k)) o) (setHead k v (headOut k u p s)) =
      word (Layout.addr (stDie k) (shlPage (stLoc k)) o) s := fun u v => by
    unfold headOut streamPacket
    dsimp only
    split
    · rfl
    · rfl
  unfold headSendNow showCredits
  dsimp only
  exact (word_wr_ne _ _ (addr_ne_offset hC)).trans ((word_wr_ne _ _ (addr_ne_offset hC)).trans
    ((word_wr_ne _ _ (addr_ne_offset h8)).trans (hsent _ _)))

theorem word_headPumpFrom {o : Nat} (k : Nat) (l : List HeadPkt) (lb cb : Bool) (s : State) (h8 : o ≠ 0x48) (hC : o ≠ 0x4C) :
    word (Layout.addr (stDie k) (shlPage (stLoc k)) o) (headPumpFrom k l lb cb s) =
      word (Layout.addr (stDie k) (shlPage (stLoc k)) o) s := by
  induction l generalizing lb cb s with
  | nil => rfl
  | cons p t ih =>
    rw [headPumpFrom, apply_ite (word _), ih, ih, word_headSendNow k p s h8 hC, word_setHead, ite_self]

/-- A bond that comes up shows it. -/
theorem rd_bondSt_bondUp (i : Nat) (s : State) : rd (bondStLoc i) (bondUp i s) = 2 := by
  have hup : rd (bondStLoc i) (wr (bondStLoc i) 2 (setBond i { bondOf i s with late := true } s)) = 2 := rd_bondSt_wr i _ (by decide)
  unfold bondUp
  dsimp only
  split
  · have hevt := (rd_evt_block (d := i) (p := 0x30) (b := 0) (bondStLoc_blockWord i) (by decide)).trans hup
    split
    · exact ((sendAck_touches (Nat.and_self _) (.refl _ _)).rd_eq rfl _).trans hevt
    · exact hevt
  · next hi =>
    have hloc : bondStLoc i = R.SHL.HSTAT_BOND (stDie (i - 16)) (stLoc (i - 16)) := if_neg hi
    refine Eq.trans ?_ hup
    rw [hloc]
    exact congrArg (fun w : Word => bitsOf w.toNat 0 2) (word_headPumpFrom (o := 0x44) _ _ _ _ _ (by decide) (by decide))

/-- What a marker of lane `n` leaves of a bond: how many markers in a row have come there. -/
def marked (n count : Nat) (b : Bond) : Bond := { b with marks := (n, count) :: b.marks.filter (fun x => x.1 != n) }

/-- Every lane of a bond is up with two markers in a row, and the skew is small enough (R184, R187). -/
def aligned (d skew : Nat) (b : Bond) (s : State) : Bool :=
  b.lanes.all (fun m => laneSt d m s == 5 && b.marks.any (fun x => x.1 == m && x.2 == 2)) && decide (skew ≤ 2000)

/-- How many markers in a row lane `n`, at position `p`, has received with this one. -/
def markCount (d n p gap : Nat) (body : List Byte) (s : State) : Nat :=
  if !(body == (markerBlock p (bondOf (laneBond d n) s).lanes.length (bondGen (laneBond d n) s)).bytes) then 0
  else if gap = 16384 ∧ (((bondOf (laneBond d n) s).marks.find? (fun x => x.1 == n)).map (fun x => x.2)).getD 0 ≠ 0 then 2 else 1

theorem execAlignmentMarker_taken {d n p gap skew : Nat} {body : List Byte} {s : State}
    (hp : (bondOf (laneBond d n) s).lanes.idxOf? n = some p) (hst : laneSt d n s = 5) (hopen : laneFenced d n s = false)
    (hbond : rd (bondStLoc (laneBond d n)) s ≠ 3) :
    execAlignmentMarker d n body gap skew s =
      .next (if rd (bondStLoc (laneBond d n)) s = 2 then
          (if markCount d n p gap body s = 2 ∧ skew ≤ 2000 then
            setBond (laneBond d n) (marked n (markCount d n p gap body s) (bondOf (laneBond d n) s)) s
          else bondLost (laneBond d n) (setBond (laneBond d n) (marked n (markCount d n p gap body s) (bondOf (laneBond d n) s)) s))
        else if aligned d skew (marked n (markCount d n p gap body s) (bondOf (laneBond d n) s)) s then
          bondUp (laneBond d n) (setBond (laneBond d n) (marked n (markCount d n p gap body s) (bondOf (laneBond d n) s)) s)
        else setBond (laneBond d n) (marked n (markCount d n p gap body s) (bondOf (laneBond d n) s)) s) := by
  unfold execAlignmentMarker
  dsimp only
  rw [hp]
  dsimp only
  rw [if_neg (by rw [hst, hopen]; simpa using hbond)]
  rfl

theorem markCount_due {d n p gap c : Nat} {s : State} (hgap : gap = 16384) (hc : c ≠ 0)
    (hfind : (bondOf (laneBond d n) s).marks.find? (fun x => x.1 == n) = some (n, c)) :
    markCount d n p gap (markerBlock p (bondOf (laneBond d n) s).lanes.length (bondGen (laneBond d n) s)).bytes s = 2 := by
  unfold markCount
  rw [beq_self_eq_true, Bool.not_true, if_neg (by decide), hfind]
  exact if_pos ⟨hgap, hc⟩

theorem markCount_wrong {d n p gap : Nat} {body : List Byte} {s : State}
    (h : body ≠ (markerBlock p (bondOf (laneBond d n) s).lanes.length (bondGen (laneBond d n) s)).bytes) :
    markCount d n p gap body s = 0 := by
  unfold markCount
  rw [beq_false_of_ne h]
  rfl

theorem aligned_marked {d n skew : Nat} {b : Bond} {s : State} (hskew : skew ≤ 2000)
    (h : ∀ m ∈ b.lanes, laneSt d m s = 5 ∧ (m ≠ n → (m, 2) ∈ b.marks)) : aligned d skew (marked n 2 b) s = true := by
  unfold aligned
  rw [Bool.and_eq_true, List.all_eq_true, decide_eq_true_eq]
  refine ⟨fun m hm => ?_, hskew⟩
  obtain ⟨hst, hmark⟩ := h m hm
  rw [hst, Bool.and_eq_true, List.any_eq_true]
  refine ⟨rfl, (m, 2), ?_, by simp⟩
  unfold marked
  by_cases hmn : m = n
  · rw [hmn]
    exact List.mem_cons_self ..
  · exact List.mem_cons_of_mem _ (List.mem_filter.mpr ⟨hmark hmn, by simpa using hmn⟩)

theorem alignmentMarker_aligns {d n p gap skew : Nat} {s : State} (hp : (bondOf (laneBond d n) s).lanes.idxOf? n = some p)
    (hst : laneSt d n s = 5) (hopen : laneFenced d n s = false) (h3 : rd (bondStLoc (laneBond d n)) s ≠ 3)
    (h2 : rd (bondStLoc (laneBond d n)) s ≠ 2) (hgap : gap = 16384)
    (hfirst : ∃ c, c ≠ 0 ∧ (bondOf (laneBond d n) s).marks.find? (fun x => x.1 == n) = some (n, c)) (hskew : skew ≤ 2000)
    (hothers : ∀ m ∈ (bondOf (laneBond d n) s).lanes, laneSt d m s = 5 ∧ (m ≠ n → (m, 2) ∈ (bondOf (laneBond d n) s).marks)) :
    ∃ t, exec (.alignmentMarker d n
        (markerBlock p (bondOf (laneBond d n) s).lanes.length (bondGen (laneBond d n) s)).bytes gap skew) s = .next t ∧
      rd (bondStLoc (laneBond d n)) t = 2 := by
  obtain ⟨c, hc, hfind⟩ := hfirst
  have hexec := execAlignmentMarker_taken (gap := gap) (skew := skew)
    (body := (markerBlock p (bondOf (laneBond d n) s).lanes.length (bondGen (laneBond d n) s)).bytes) hp hst hopen h3
  rw [if_neg h2, markCount_due hgap hc hfind, if_pos (aligned_marked hskew hothers)] at hexec
  exact ⟨_, Eq.trans (b := execAlignmentMarker d n _ gap skew s) rfl hexec, rd_bondSt_bondUp _ _⟩

/-- A bond that was up realigns, on the lanes it has. -/
theorem bondLost_realigns {i : Nat} {s : State} (h : rd (bondStLoc i) s = 2) :
    rd (bondStLoc i) (bondLost i s) = 1 ∧ (bondOf i (bondLost i s)).lanes = (bondOf i s).lanes := by
  have hlost : rd (bondStLoc i) (wr (bondStLoc i) 1 (setBond i { bondOf i s with stream := [] } s)) = 1 := rd_bondSt_wr i _ (by decide)
  have hbond : bondOf i (wr (bondStLoc i) 1 (setBond i { bondOf i s with stream := [] } s)) = { bondOf i s with stream := [] } := by
    rw [bondOf_congr i ((wr_touches (Nat.and_self _) (.refl _ _)).bonds rfl), bondOf_setBond]
  unfold bondLost
  rw [if_pos h]
  dsimp only
  split
  · exact ⟨(rd_evt_block (bondStLoc_blockWord i) (by decide)).trans hlost, by
      rw [bondOf_congr i ((evt_kept ..).bonds rfl), hbond]⟩
  · exact ⟨hlost, by rw [hbond]⟩

theorem alignmentMarker_loses {d n p gap skew : Nat} {body : List Byte} {s : State}
    (hp : (bondOf (laneBond d n) s).lanes.idxOf? n = some p) (hst : laneSt d n s = 5) (hopen : laneFenced d n s = false)
    (h2 : rd (bondStLoc (laneBond d n)) s = 2)
    (hbody : body ≠ (markerBlock p (bondOf (laneBond d n) s).lanes.length (bondGen (laneBond d n) s)).bytes) :
    ∃ t, exec (.alignmentMarker d n body gap skew) s = .next t ∧ rd (bondStLoc (laneBond d n)) t = 1 ∧
      (bondOf (laneBond d n) t).lanes = (bondOf (laneBond d n) s).lanes := by
  have hexec := execAlignmentMarker_taken (gap := gap) (skew := skew) (body := body) hp hst hopen (by rw [h2]; decide)
  rw [if_pos h2, markCount_wrong hbody, if_neg (fun h => absurd h.1 (by decide))] at hexec
  obtain ⟨hstate, hlanes⟩ := bondLost_realigns
    (s := setBond (laneBond d n) (marked n 0 (bondOf (laneBond d n) s)) s) (i := laneBond d n) h2
  exact ⟨_, Eq.trans (b := execAlignmentMarker d n body gap skew s) rfl hexec, hstate, hlanes.trans (by rw [bondOf_setBond]; rfl)⟩

theorem bondAlignTimeout_late {d : Nat} {s : State} (hst : rd (R.RLNK.BOND_STAT_STATE d) s = 1) (hlate : (bondOf d s).late = false)
    (htime : (bondOf d s).formedAt + 1000000 ≤ s.now) :
    ∃ t, exec (.bondAlignTimeout d) s = .next t ∧ (bondOf d t).late = true ∧ rd (R.RLNK.BOND_STAT_STATE d) t = 1 := by
  have hexec : execBondAlignTimeout d s = .next (evt d 0x30 5 (setBond d { bondOf d s with late := true } s)) :=
    if_pos ⟨hst, by rw [hlate]; rfl, htime⟩
  refine ⟨_, Eq.trans (b := execBondAlignTimeout d s) rfl hexec, ?_, ?_⟩
  · rw [bondOf_congr d ((evt_kept ..).bonds rfl), bondOf_setBond]
  · exact (rd_evt_block (blockWord_addr (p := 0x30) (o := 0x54) (by decide) (by decide) (by decide)) (by decide)).trans hst

/-- Settles O23: the commands of LCTL in the state in which its write acts, the eye's points, and the bond's markers. -/
theorem laneServiceCommandsAct : Obligations.LaneServiceCommandsAct := by
  unfold Obligations.LaneServiceCommandsAct
  refine ⟨?_, ?_, ?_, ?_, ?_, ?_, ?_, ?_, ?_⟩
  · exact fun a d n v s hn h hon _ => laneRetrain_starts hn h hon
  · exact fun a d n v s => eyeScanGo_starts
  · exact fun a d n v s => eyeScanGo_refuses
  · exact fun a d n v s => eyeScanStop_ends
  · exact fun d n errs units s s1 => eyePointDone_counts
  · exact fun d n s => eyeScanResume_runs
  · exact fun d n p gap skew s => alignmentMarker_aligns
  · exact fun d n p gap skew body s => alignmentMarker_loses
  · exact fun d s => bondAlignTimeout_late

end Sys2Proof.Machine
end

section
/-! PROOFS. Packets as blocks, and packets as the receiver reads them (R185, R189 to R192, R272). -/

namespace Sys2Proof.Machine

/-! ### Little-endian fields (R4) -/

@[simp] theorem length_leBytes (n v : Nat) : (leBytes n v).length = n := by
  induction n generalizing v with
  | zero => rfl
  | succ n ih => rw [leBytes, List.length_cons, ih]

theorem leNat_leBytes (n v : Nat) : leNat (leBytes n v) = v % 256 ^ n := by
  induction n generalizing v with
  | zero => exact (Nat.mod_one v).symm
  | succ n ih => rw [leBytes, leNat, ih, BitVec.toNat_ofNat, show 256 ^ (n + 1) = 256 * 256 ^ n from Nat.pow_succ', Nat.mod_mul]

/-- The field that starts the bytes. -/
theorem fieldLe_leBytes (n v : Nat) (r : List Byte) : fieldLe (leBytes n v ++ r) 0 n = v % 256 ^ n := by
  rw [fieldLe, List.drop_zero, List.take_left' (length_leBytes n v), leNat_leBytes]

theorem drop_leBytes_append {k o : Nat} (v : Nat) (r : List Byte) (h : k ≤ o) : (leBytes k v ++ r).drop o = r.drop (o - k) := by
  rw [List.drop_append, length_leBytes, List.drop_eq_nil_of_le (by rwa [length_leBytes]), List.nil_append]

/-- A field behind the one that starts the bytes. -/
theorem fieldLe_leBytes_append {k o : Nat} (v n : Nat) (r : List Byte) (h : k ≤ o) :
    fieldLe (leBytes k v ++ r) o n = fieldLe r (o - k) n := by
  rw [fieldLe, fieldLe, drop_leBytes_append v r h]

/-- A field that ends before what is appended. -/
theorem fieldLe_append {b : List Byte} {o n : Nat} (r : List Byte) (h : o + n ≤ b.length) : fieldLe (b ++ r) o n = fieldLe b o n := by
  rw [fieldLe, fieldLe, List.drop_append_of_le_length (by omega), List.take_append_of_le_length (by rw [List.length_drop]; omega)]

/-- The field that stands between two parts. -/
theorem fieldLe_between (b : List Byte) (n v : Nat) (r : List Byte) : fieldLe (b ++ leBytes n v ++ r) b.length n = v % 256 ^ n := by
  rw [← fieldLe_leBytes n v r, List.append_assoc, fieldLe, fieldLe, List.drop_left, List.drop_zero]

/-! ### The header (R190) -/

theorem parseRaster_header {type flags psn fsn course ashlar offset : Nat} {payload : List Byte} (htype : type < 256)
    (hflags : flags < 256) (hpsn : psn < 65536) (hfsn : fsn < 4294967296) (hcourse : course < 65536) (hashlar : ashlar < 65536)
    (hoffset : offset < 1048576) (hlen : payload.length < 4096) :
    parseRaster (leBytes 1 type ++ leBytes 1 flags ++ leBytes 2 psn ++ leBytes 4 fsn ++ leBytes 2 course ++ leBytes 2 ashlar ++
      leBytes 4 (offset + 1048576 * payload.length) ++ payload) =
      ⟨type, flags, psn, fsn, course, ashlar, offset, payload.length, payload⟩ := by
  have hword : (offset + 1048576 * payload.length) % 4294967296 = offset + 1048576 * payload.length := Nat.mod_eq_of_lt (by omega)
  have hhigh : (offset + 1048576 * payload.length) / 1048576 = payload.length := by omega
  simp [parseRaster, fieldLe_leBytes, fieldLe_leBytes_append, drop_leBytes_append, htype, hflags, hpsn, hfsn, hcourse, hashlar, hoffset,
    hword, hhigh]

/-- The header of an upstream packet: it names no frame, no course and no ashlar (R192). -/
theorem parseRaster_upstream {type init psn : Nat} {payload : List Byte} (htype : type < 256) (hinit : init < 2) (hpsn : psn < 65536)
    (hlen : payload.length < 4096) :
    parseRaster (leBytes 1 type ++ leBytes 1 (32 * init) ++ leBytes 2 psn ++ leBytes 8 0 ++ leBytes 4 (1048576 * payload.length) ++
      payload) = ⟨type, 32 * init, psn, 0, 0, 0, 0, payload.length, payload⟩ := by
  have hzero : leBytes 8 0 = leBytes 4 0 ++ (leBytes 2 0 ++ leBytes 2 0) := rfl
  have hparse := parseRaster_header (flags := 32 * init) (fsn := 0) (course := 0) (ashlar := 0) (offset := 0) htype (by omega) hpsn
    (by decide) (by decide) (by decide) (by decide) hlen
  simpa only [hzero, List.append_assoc, Nat.zero_add] using hparse

theorem length_flatMap_leBytes (n : Nat) (l : List Nat) : (l.flatMap (leBytes n)).length = n * l.length := by
  rw [List.length_flatMap, List.map_congr_left (fun v _ => length_leBytes n v), List.map_const', List.sum_replicate, smul_eq_mul,
    Nat.mul_comm]

/-! ### The CRC (R191) -/

theorem crcBit_lt {poly c : Nat} (hpoly : poly < 2 ^ 32) (hc : c < 2 ^ 32) : crcBit poly c < 2 ^ 32 := by
  unfold crcBit
  split
  · exact Nat.xor_lt_two_pow (by omega) hpoly
  · omega

theorem crcFrom_lt {poly c : Nat} (bs : List Byte) (hpoly : poly < 2 ^ 32) (hc : c < 2 ^ 32) : crcFrom poly bs c < 2 ^ 32 := by
  induction bs generalizing c with
  | nil => exact hc
  | cons b t ih =>
    have hbit : ∀ {x}, x < 2 ^ 32 → crcBit poly x < 2 ^ 32 := crcBit_lt hpoly
    have hstart : Nat.xor c b.toNat < 2 ^ 32 := Nat.xor_lt_two_pow hc (Nat.lt_trans b.isLt (by decide))
    exact ih (hbit (hbit (hbit (hbit (hbit (hbit (hbit (hbit hstart))))))))

theorem crc32_lt (bs : List Byte) : crc32 bs < 2 ^ 32 := Nat.xor_lt_two_pow (crcFrom_lt bs (by decide) (by decide)) (by decide)

/-! ### Data blocks (R185, R189) -/

theorem length_dataBlocks (n : Nat) (l : List Byte) : (dataBlocks n l).length = n := by
  induction n generalizing l with
  | zero => rfl
  | succ n ih => rw [dataBlocks, List.length_cons, ih]

theorem dataBlocks_of_length {n : Nat} {l : List Byte} (h : l.length = 8 * n) :
    (∀ x ∈ dataBlocks n l, x.control = false ∧ x.bytes.length = 8) ∧ (dataBlocks n l).flatMap (·.bytes) = l := by
  induction n generalizing l with
  | zero => exact ⟨fun x hx => absurd hx List.not_mem_nil, (List.length_eq_zero_iff.mp h).symm⟩
  | succ n ih =>
    obtain ⟨hall, hflat⟩ := ih (l := l.drop 8) (by rw [List.length_drop, h]; omega)
    refine ⟨fun x hx => ?_, ?_⟩
    · rcases List.mem_cons.mp hx with rfl | hx
      · exact ⟨rfl, by rw [List.length_take, h]; omega⟩
      · exact hall x hx
    · rw [dataBlocks, List.flatMap_cons, hflat, List.take_append_drop]

/-- The number of data blocks of a packet of header and payload `b` (R189). -/
def packetLen (b : List Byte) : Nat := ceilDiv (b.length + 4) 8

/-- The bytes of a packet's data blocks: the packet, its CRC and the padding (R191). -/
def packetData (b : List Byte) : List Byte := b ++ leBytes 4 (crc32 b) ++ List.replicate (8 * packetLen b - (b.length + 4)) 0

theorem packetBlocks_eq (b : List Byte) :
    packetBlocks b =
      ⟨true, leBytes 1 0x78 ++ leBytes 2 (packetLen b) ++ [0, 0, 0, 0, 0]⟩ :: dataBlocks (packetLen b) (packetData b) := rfl

theorem packetLen_bounds (b : List Byte) : b.length + 4 ≤ 8 * packetLen b ∧ 8 * packetLen b < b.length + 12 := by
  unfold packetLen ceilDiv
  omega

theorem length_packetData (b : List Byte) : (packetData b).length = 8 * packetLen b := by
  have hbounds := packetLen_bounds b
  unfold packetData
  rw [List.length_append, List.length_append, length_leBytes, List.length_replicate]
  omega

/-- What the data blocks of a packet carry. -/
theorem packetBlocks_data {b : List Byte} {start : Block} {rest : List Block} (h : packetBlocks b = start :: rest) :
    rest.flatMap (·.bytes) = packetData b := by
  rw [← (List.cons.inj ((packetBlocks_eq b).symm.trans h)).2]
  exact (dataBlocks_of_length (length_packetData b)).2

theorem packetBlocks_form (b : List Byte) :
    ∃ (start : Block) (rest : List Block) (pad : Nat), packetBlocks b = start :: rest ∧ start.control = true ∧ pad < 8 ∧
      (∀ x ∈ rest, x.control = false ∧ x.bytes.length = 8) ∧
      rest.flatMap (·.bytes) = b ++ leBytes 4 (crc32 b) ++ List.replicate pad 0 ∧
      8 * rest.length = b.length + 4 + pad ∧ startOk start.bytes (rest.flatMap (·.bytes)) = true := by
  have hbounds := packetLen_bounds b
  obtain ⟨hall, hflat⟩ := dataBlocks_of_length (length_packetData b)
  refine ⟨_, _, 8 * packetLen b - (b.length + 4), packetBlocks_eq b, rfl, by omega, hall, hflat, ?_, ?_⟩
  · rw [length_dataBlocks]
    omega
  · rw [hflat, startOk, length_packetData, Nat.mul_div_cancel_left _ (by decide : 0 < 8)]
    exact beq_self_eq_true _

/-! ### What the receiver reads (R189 to R191) -/

/-- What follows the payload changes nothing that the header or the payload says. -/
theorem parseRaster_append {b : List Byte} (r : List Byte) (hb : 16 + (parseRaster b).len ≤ b.length) :
    parseRaster (b ++ r) = parseRaster b := by
  have hfield : ∀ o n, o + n ≤ 16 → fieldLe (b ++ r) o n = fieldLe b o n := fun o n h => fieldLe_append r (by omega)
  have hpayload : ((b ++ r).drop 16).take (fieldLe b 12 4 / 1048576) = (b.drop 16).take (fieldLe b 12 4 / 1048576) := by
    have hlen : 16 + fieldLe b 12 4 / 1048576 ≤ b.length := hb
    rw [List.drop_append_of_le_length (by omega), List.take_append_of_le_length (by rw [List.length_drop]; omega)]
  unfold parseRaster
  simp only [hfield, Nat.reduceAdd, Nat.reduceLeDiff, hpayload]

theorem packetData_received {b : List Byte} (hb : 16 ≤ b.length) (hlen : (parseRaster b).len = b.length - 16) :
    framed (packetData b) = true ∧ crcMatches (packetData b) = true ∧ parseRaster (packetData b) = parseRaster b := by
  have hbounds := packetLen_bounds b
  have hparse : parseRaster (packetData b) = parseRaster b := by
    unfold packetData
    rw [List.append_assoc]
    exact parseRaster_append _ (by omega)
  refine ⟨?_, ?_, hparse⟩
  · have hceil : packetLen b = ceilDiv (20 + (b.length - 16)) 8 := congrArg (ceilDiv · 8) (by omega)
    rw [framed, hparse, hlen, length_packetData, Nat.mul_mod_right, Nat.mul_div_cancel_left _ (by decide : 0 < 8), ← hceil,
      decide_eq_true (by omega : 24 ≤ 8 * packetLen b), decide_eq_true rfl]
    rfl
  · have hend : 16 + (b.length - 16) = b.length := by omega
    have hcrc : fieldLe (packetData b) b.length 4 = crc32 b :=
      (fieldLe_between b 4 (crc32 b) _).trans (Nat.mod_eq_of_lt (crc32_lt b))
    have htake : (packetData b).take b.length = b := by
      unfold packetData
      rw [List.append_assoc, List.take_left]
    rw [crcMatches, hparse, hlen, hend, hcrc, htake]
    exact beq_self_eq_true _

/-- Settles O10: the blocks of a packet by the bytes they carry, and each field of the header behind those before it. -/
theorem packetsReadBack : Obligations.PacketsReadBack := by
  unfold Obligations.PacketsReadBack
  refine ⟨packetBlocks_form, ?_, ?_, ?_, ?_, ?_⟩
  · intro b start rest hb hlen h
    rw [packetBlocks_data h]
    exact packetData_received hb hlen
  · exact fun _ _ _ _ _ _ _ _ => parseRaster_header
  · exact fun init psn hinit hpsn =>
      ⟨parseRaster_upstream (type := 0x10) (payload := []) (by decide) hinit hpsn (by decide),
        parseRaster_upstream (type := 0x11) (init := 0) (payload := []) (by decide) (by decide) hpsn (by decide)⟩
  · intro init counts hinit hcounts
    have hlen : (counts.flatMap (leBytes 2) ++ [0, 0]).length = 36 := by
      rw [List.length_append, length_flatMap_leBytes, hcounts]
      rfl
    have hparse := parseRaster_upstream (type := 0x12) (psn := 0) (by decide) hinit (by decide) (hlen.trans_lt (by decide))
    rw [hlen] at hparse
    refine Eq.trans (congrArg parseRaster ?_) hparse
    exact congrArg (fun n => _ ++ leBytes 4 (1048576 * n) ++ _) hlen
  · decide +kernel

end Sys2Proof.Machine
end

section
/-! PROOFS. What the raster link sends, grants and takes, and how a session opens and closes (R192 to R201, R210). -/

namespace Sys2Proof.Machine

/-! ### Registers of the RLNK page -/

theorem blockWord_rlnk (d : Nat) {o : Nat} (h : 0x40 ≤ o ∧ o < 0x1000) : BlockWord (Layout.addr d 0x30 o) :=
  blockWord_addr (by decide) h.2 (.inr ⟨by decide, by decide, by decide, h.1⟩)

theorem rd_evt_rlnk {d e o i w b : Nat} (h : 0x40 ≤ o ∧ o < 0x1000) (s : State) :
    rd ⟨Layout.addr d 0x30 o, i, w⟩ (evt e 0x30 b s) = rd ⟨Layout.addr d 0x30 o, i, w⟩ s :=
  rd_evt_block (blockWord_rlnk d h) (by decide)

theorem rd_bump_of_apart {l m : Loc} (h : Apart l m) (s : State) : rd l (bump m s) = rd l s := rd_wr_of_apart h _ s

/-- A counter goes up from what it read, to its largest value. -/
theorem rd_bump_of_rd {l : Loc} {n : Nat} {s : State} (h : l.lsb + l.width ≤ 32) (hn : rd l s = n) :
    rd l (bump l s) = Nat.min (n + 1) (2 ^ l.width - 1) := by rw [rd_bump_same s h, hn]

/-- A counter is a register: nothing else changes as it goes up. -/
theorem bump_eq (l : Loc) (s : State) : bump l s = { s with regs := (bump l s).regs } := rfl

/-- The expected PSN is not part of SESSION. -/
theorem rasterOpen_wr_expect (d v : Nat) (s : State) : rasterOpen d (wr (R.RLNK.PSN_STAT_EXPECT d) v s) = rasterOpen d s :=
  flag_wr_of_apart (apart_page (by decide)) v s

theorem rasterOf_wr (d : Nat) (l : Loc) (v : Nat) (s : State) : rasterOf d (wr l v s) = rasterOf d s := rfl

theorem rasterOf_bump (d : Nat) (l : Loc) (s : State) : rasterOf d (bump l s) = rasterOf d s := rfl

theorem rasterOf_putWord (d a : Nat) (v : Word) (s : State) : rasterOf d (putWord a v s) = rasterOf d s := rfl

theorem rasterOf_evt (d e p b : Nat) (s : State) : rasterOf d (evt e p b s) = rasterOf d s :=
  rasterOf_congr d ((evt_touches (Nat.and_self _) (.refl _ s)).rasters rfl)

/-! ### Sending upstream (R183, R192) -/

/-- A packet goes into what has been sent, and into the stream of a bond. -/
theorem rasterSend_eq (d type : Nat) (body : List Nat) (s : State) :
    rasterSend d type body s =
      { s with sent := .raster d type body :: s.sent, bonds := (rasterSend d type body s).bonds } := by
  unfold rasterSend streamPacket
  dsimp only
  split
  · rfl
  · rfl

theorem sent_rasterSend (d type : Nat) (body : List Nat) (s : State) :
    (rasterSend d type body s).sent = .raster d type body :: s.sent := congrArg State.sent (rasterSend_eq d type body s)

theorem rasterOf_rasterSend (d e type : Nat) (body : List Nat) (s : State) : rasterOf e (rasterSend d type body s) = rasterOf e s :=
  rasterOf_congr e ((rasterSend_touches (Nat.and_self _) (.refl _ s)).rasters rfl)

theorem rasterOf_sendCredit (d init : Nat) (s : State) :
    rasterOf d (sendCredit d init s) = { rasterOf d s with creditAt := s.now } :=
  (rasterOf_rasterSend ..).trans (rasterOf_setRaster ..)

theorem sendCredit_kept (d init : Nat) (s : State) : Touches 0x14000000000000001000 s (sendCredit d init s) :=
  sendCredit_touches (Nat.and_self _) (.refl _ s)

/-- Of the receiver's own record, what a new grant leaves: only the counters sent, and the time they were sent, may differ. -/
theorem rasterOf_regrant (d : Nat) (s : State) :
    ∃ g c, rasterOf d (regrant d s) = { rasterOf d s with granted := g, creditAt := c } := by
  unfold regrant
  dsimp only
  split
  · exact ⟨_, _, rfl⟩
  · exact ⟨_, _, by rw [rasterOf_sendCredit, rasterOf_setRaster]⟩

theorem regrant_kept (d : Nat) (s : State) : Touches 0x14000000000000001000 s (regrant d s) :=
  regrant_touches (Nat.and_self _) (.refl _ s)

/-! ### The NAK (R195) -/

/-- The record of a NAK, and the packet. -/
theorem rasterOf_sendNak (d : Nat) (s : State) :
    rasterOf d (sendNak d s) = { rasterOf d s with nakAt := some s.now, naks := (rasterOf d s).naks + 1 } := by
  rw [sendNak, rasterOf_bump, rasterOf_rasterSend, rasterOf_setRaster]

theorem sent_sendNak (d : Nat) (s : State) : (sendNak d s).sent = .raster d 0x11 [rd (R.RLNK.PSN_STAT_EXPECT d) s] :: s.sent := by
  simp [sendNak, sent_rasterSend]

theorem rd_sendNak_ne {d : Nat} {l : Loc} (s : State) (h : Apart l (R.RLNK.NAK_CNT_COUNT d)) : rd l (sendNak d s) = rd l s :=
  (rd_bump_of_apart h _).trans (rd_rasterSend ..)

theorem rd_sendNak_count (d : Nat) (s : State) :
    rd (R.RLNK.NAK_CNT_COUNT d) (sendNak d s) = Nat.min (rd (R.RLNK.NAK_CNT_COUNT d) s + 1) 4294967295 :=
  rd_bump_of_rd (show 0 + 32 ≤ 32 by decide) (rd_rasterSend ..)

theorem naks_sendNak (d : Nat) (s : State) : (rasterOf d (sendNak d s)).naks = (rasterOf d s).naks + 1 :=
  congrArg Raster.naks (rasterOf_sendNak d s)

theorem limit_sendNak (d : Nat) (s : State) : rd (R.RLNK.RETRY_LIMIT d) (sendNak d s) = rd (R.RLNK.RETRY_LIMIT d) s :=
  rd_sendNak_ne s (apart_page (by decide))

theorem rasterNak_eq (d : Nat) (s : State) :
    rasterNak d s = if rd (R.RLNK.RETRY_LIMIT d) s ≤ (rasterOf d s).naks + 1
      then rasterFence d (recordFault d 0x30 1 false (sendNak d s)) else sendNak d s := by
  rw [← naks_sendNak, ← limit_sendNak]
  rfl

/-- A NAK before the last that RETRY_LIMIT allows. -/
theorem rasterNak_below {d : Nat} {s : State} (h : (rasterOf d s).naks + 1 < rd (R.RLNK.RETRY_LIMIT d) s) :
    rasterNak d s = sendNak d s := (rasterNak_eq d s).trans (if_neg (Nat.not_le.mpr h))

theorem mem_fenced_rasterFence_bond (d : Nat) (s : State) : UnitId.bond d ∈ (rasterFence d s).fenced := by
  unfold rasterFence
  split
  · next h => exact List.contains_iff_mem.mp h
  · exact Touches.mem_fenced_of_addFence (m := 0x14000000000000001004)
      (rasterForm_touches rfl (closeRaster_touches rfl (.refl _ _))) rfl

/-- The last NAK that RETRY_LIMIT allows. -/
theorem rasterNak_last {d : Nat} {s : State} (h : rd (R.RLNK.RETRY_LIMIT d) s ≤ (rasterOf d s).naks + 1) :
    UnitId.bond d ∈ (rasterNak d s).fenced := by
  rw [rasterNak_eq, if_pos h]
  exact mem_fenced_rasterFence_bond d _

/-! ### The pool of a packet (R199, R202) -/

/-- ROUTE says what is served, and so which pool a packet takes of. -/
theorem rasterPool_congr {d : Nat} {s t : State} (p : RasterPkt)
    (h : word (Layout.addr d 0x30 0x44) t = word (Layout.addr d 0x30 0x44) s) : rasterPool d p t = rasterPool d p s := by
  have hrd : ∀ i w, rd ⟨Layout.addr d 0x30 0x44, i, w⟩ t = rd ⟨Layout.addr d 0x30 0x44, i, w⟩ s := fun i w => by
    unfold rd
    rw [h]
  have hserved : served d p.station t = served d p.station s := by
    unfold served flag R.RLNK.ROUTE_EN R.RLNK.ROUTE_DIE
    rw [hrd, hrd]
  unfold rasterPool
  rw [hserved]

/-! ### Sessions (R198) -/

theorem openRaster_none {d : Nat} {s : State} (h : (rasterOf d s).resync = none) : openRaster d s = s := by
  unfold openRaster
  dsimp only
  rw [h]

/-- The registers and the record of a session as it opens. -/
def sessionOpened (d psn : Nat) (s : State) : State :=
  evt d 0x30 2 (bump (R.RLNK.COUNT2_RESYNCS d) (wr (R.RLNK.PSN_STAT_SESSION d) 1 (wr (R.RLNK.PSN_STAT_EXPECT d) psn
    (setRaster d { granted := (List.range 17).map (fun i => poolSize d i s), partials := (rasterOf d s).partials, creditAt := s.now } s))))

theorem openRaster_empty {d psn : Nat} {s : State} (h : (rasterOf d s).resync = some psn) (hq : (rasterOf d s).queue = []) :
    openRaster d s = sendCredit d 1 (sendAck d 0 (psn + 65535) (sessionOpened d psn s)) := by
  unfold openRaster
  dsimp only
  rw [h]
  dsimp only
  rw [if_neg (by rw [hq]; decide)]
  rfl

theorem openRaster_waits {d : Nat} {s : State} (hq : (rasterOf d s).queue ≠ []) : openRaster d s = s := by
  unfold openRaster
  dsimp only
  split
  · rfl
  · exact if_pos (by rw [List.isEmpty_eq_false_iff.mpr hq]; rfl)

theorem rd_sessionOpened {d psn o i w : Nat} (s : State) (ho : 0x40 ≤ o ∧ o < 0x1000) :
    rd ⟨Layout.addr d 0x30 o, i, w⟩ (sessionOpened d psn s) =
      rd ⟨Layout.addr d 0x30 o, i, w⟩ (bump (R.RLNK.COUNT2_RESYNCS d) (wr (R.RLNK.PSN_STAT_SESSION d) 1
        (wr (R.RLNK.PSN_STAT_EXPECT d) psn s))) := rd_evt_rlnk ho _

theorem open_sessionOpened (d psn : Nat) (s : State) : rasterOpen d (sessionOpened d psn s) = true :=
  (congrArg (· != 0) ((rd_sessionOpened s (by decide)).trans (rd_bump_of_apart (apart_page (by decide)) _))).trans
    (flag_wr_one _ (show 16 + 1 ≤ 32 by decide) rfl)

theorem expect_sessionOpened (d psn : Nat) (s : State) : rd (R.RLNK.PSN_STAT_EXPECT d) (sessionOpened d psn s) = psn % 65536 :=
  (rd_sessionOpened s (by decide)).trans ((rd_bump_of_apart (apart_page (by decide)) _).trans
    ((rd_wr_of_apart (apart_page (by decide)) _ _).trans (rd_wr_same _ _ (show 0 + 16 ≤ 32 by decide))))

theorem resyncs_sessionOpened (d psn : Nat) (s : State) :
    rd (R.RLNK.COUNT2_RESYNCS d) (sessionOpened d psn s) = Nat.min (rd (R.RLNK.COUNT2_RESYNCS d) s + 1) 65535 := by
  have hbefore : rd (R.RLNK.COUNT2_RESYNCS d) (wr (R.RLNK.PSN_STAT_SESSION d) 1 (wr (R.RLNK.PSN_STAT_EXPECT d) psn s)) =
      rd (R.RLNK.COUNT2_RESYNCS d) s :=
    (rd_wr_of_apart (apart_page (by decide)) _ _).trans (rd_wr_of_apart (apart_page (by decide)) _ _)
  exact (rd_sessionOpened s (by decide)).trans (rd_bump_of_rd (show 16 + 16 ≤ 32 by decide) hbefore)

theorem rasterOf_sessionOpened (d psn : Nat) (s : State) :
    rasterOf d (sessionOpened d psn s) =
      { granted := (List.range 17).map (fun i => poolSize d i s), partials := (rasterOf d s).partials, creditAt := s.now } := by
  rw [sessionOpened, rasterOf_evt, rasterOf_bump, rasterOf_wr, rasterOf_wr, rasterOf_setRaster]

/-- A RESYNC with nothing left to land opens a session with every pool's credits. -/
theorem openRaster_opens {d psn : Nat} {s : State} (h : (rasterOf d s).resync = some psn) (hq : (rasterOf d s).queue = []) :
    rasterOpen d (openRaster d s) = true ∧ rd (R.RLNK.PSN_STAT_EXPECT d) (openRaster d s) = psn % 65536 ∧
      (∃ c, rasterOf d (openRaster d s) =
        { granted := (List.range 17).map (fun i => poolSize d i s), partials := (rasterOf d s).partials, creditAt := c }) ∧
      rd (R.RLNK.COUNT2_RESYNCS d) (openRaster d s) = Nat.min (rd (R.RLNK.COUNT2_RESYNCS d) s + 1) 65535 := by
  have hrd : ∀ l, rd l (sendCredit d 1 (sendAck d 0 (psn + 65535) (sessionOpened d psn s))) = rd l (sessionOpened d psn s) := fun l =>
    ((sendCredit_kept ..).rd_eq rfl l).trans (rd_rasterSend ..)
  rw [openRaster_empty h hq]
  refine ⟨(congrArg (· != 0) (hrd _)).trans (open_sessionOpened ..), (hrd _).trans (expect_sessionOpened ..),
    ⟨(sendAck d 0 (psn + 65535) (sessionOpened d psn s)).now, ?_⟩,
    (hrd _).trans (resyncs_sessionOpened ..)⟩
  rw [rasterOf_sendCredit, sendAck, rasterOf_rasterSend, rasterOf_sessionOpened]

theorem open_closeRaster (d : Nat) (s : State) : rasterOpen d (closeRaster d s) = false :=
  flag_wr_zero _ (show 16 + 1 ≤ 32 by decide)

end Sys2Proof.Machine
end

section
/-! PROOFS. Packets of the raster link as they arrive, are applied, and land (R192 to R209). -/

namespace Sys2Proof.Machine

/-! ### Arrival (R194, R198) -/

theorem rasterArrival_open {d : Nat} {s : State} (b : List Byte) (hears : rasterHears d s = true) (hopen : rasterOpen d s = true)
    (hsync : (rasterOf d s).resync = none) : rasterArrival d b s = rasterPacket d b s := by
  unfold rasterArrival
  rw [hears, hopen, hsync]
  rfl

theorem rasterUnframed_open {d : Nat} {s : State} (hears : rasterHears d s = true) (hopen : rasterOpen d s = true)
    (hsync : (rasterOf d s).resync = none) : rasterUnframed d s = rasterNakCause d (bump (R.RLNK.ERR_CNT1_FRAMING d) s) := by
  unfold rasterUnframed
  rw [hears, hopen, hsync]
  rfl

/-! ### A packet that passes every check (R193, R196) -/

/-- The credits used, with those of the packet (R200). -/
def usedWith (d : Nat) (p : RasterPkt) (s : State) : List Nat :=
  match rasterPool d p s with
  | some i => addAt (rasterOf d s).used i (rasterCost p)
  | none => (rasterOf d s).used

theorem usedWith_some {d i : Nat} {p : RasterPkt} {s : State} (h : rasterPool d p s = some i) :
    usedWith d p s = addAt (rasterOf d s).used i (rasterCost p) := by
  unfold usedWith
  rw [h]

/-- The packet is counted, its credits are taken, and the next PSN is expected. -/
def rasterTaken (d : Nat) (p : RasterPkt) (s : State) : State :=
  bump (R.RLNK.PKT_CNT_COUNT d) (wr (R.RLNK.PSN_STAT_EXPECT d) (p.psn + 1) (setRaster d { rasterOf d s with
    used := usedWith d p s
    nakAt := none, naks := 0 } s))

theorem rasterPacket_accepts {d : Nat} {b : List Byte} {s : State} (h : rasterVerdict d b s = 0) :
    rasterPacket d b s = applyRaster d (parseRaster b) (sendAck d 0 (parseRaster b).psn (rasterTaken d (parseRaster b) s)) := by
  unfold rasterPacket
  rw [h]
  rfl

theorem rasterOf_rasterTaken (d : Nat) (p : RasterPkt) (s : State) :
    rasterOf d (rasterTaken d p s) = { rasterOf d s with
      used := usedWith d p s
      nakAt := none, naks := 0 } := by
  rw [rasterTaken, rasterOf_bump, rasterOf_wr, rasterOf_setRaster]

theorem expect_rasterTaken (d : Nat) (p : RasterPkt) (s : State) :
    rd (R.RLNK.PSN_STAT_EXPECT d) (rasterTaken d p s) = (p.psn + 1) % 65536 :=
  (rd_bump_of_apart (apart_page (by decide)) _).trans (rd_wr_same _ _ (show 0 + 16 ≤ 32 by decide))

theorem open_rasterTaken (d : Nat) (p : RasterPkt) (s : State) : rasterOpen d (rasterTaken d p s) = rasterOpen d s :=
  (flag_wr_of_apart (apart_page (by decide)) _ _).trans (rasterOpen_wr_expect ..)

theorem count_rasterTaken (d : Nat) (p : RasterPkt) (s : State) :
    rd (R.RLNK.PKT_CNT_COUNT d) (rasterTaken d p s) = Nat.min (rd (R.RLNK.PKT_CNT_COUNT d) s + 1) 4294967295 :=
  rd_bump_of_rd (show 0 + 32 ≤ 32 by decide) (rd_wr_of_apart (apart_page (by decide)) _ _)

theorem sent_rasterTaken (d : Nat) (p : RasterPkt) (s : State) : (rasterTaken d p s).sent = s.sent := by
  simp [rasterTaken]

theorem raster_accepts {d : Nat} {pkt : List Byte} {s : State} (hears : rasterHears d s = true) (hopen : rasterOpen d s = true)
    (hsync : (rasterOf d s).resync = none) (hverdict : rasterVerdict d pkt s = 0) :
    ∃ t, ((parseRaster pkt).type = 1 → exec (.rlAshlar d pkt) s = .next (applyRaster d (parseRaster pkt) t)) ∧
      ((parseRaster pkt).type = 2 → exec (.rlIndex d pkt) s = .next (applyRaster d (parseRaster pkt) t)) ∧
      ((parseRaster pkt).type = 3 → exec (.rlDescriptor d pkt) s = .next (applyRaster d (parseRaster pkt) t)) ∧
      rd (R.RLNK.PSN_STAT_EXPECT d) t = ((parseRaster pkt).psn + 1) % 65536 ∧ rasterOpen d t = true ∧
      rd (R.RLNK.PKT_CNT_COUNT d) t = Nat.min (rd (R.RLNK.PKT_CNT_COUNT d) s + 1) 4294967295 ∧
      (rasterOf d t).nakAt = none ∧ (rasterOf d t).naks = 0 ∧ (rasterOf d t).queue = (rasterOf d s).queue ∧
      (∀ i, rasterPool d (parseRaster pkt) s = some i →
        (rasterOf d t).used = addAt (rasterOf d s).used i (rasterCost (parseRaster pkt))) ∧
      t.sent = .raster d 0x10 [0, (parseRaster pkt).psn % 65536] :: s.sent := by
  have hnext : (.next (rasterArrival d pkt s) : Host.Outcome State Fault Refusal) =
      .next (applyRaster d (parseRaster pkt) (sendAck d 0 (parseRaster pkt).psn (rasterTaken d (parseRaster pkt) s))) := by
    rw [rasterArrival_open pkt hears hopen hsync, rasterPacket_accepts hverdict]
  have hraster := (rasterOf_rasterSend d d 0x10 [0, (parseRaster pkt).psn % 65536] (rasterTaken d (parseRaster pkt) s)).trans
    (rasterOf_rasterTaken d (parseRaster pkt) s)
  refine ⟨sendAck d 0 (parseRaster pkt).psn (rasterTaken d (parseRaster pkt) s),
    fun h => Eq.trans (b := execRlAshlar d pkt s) rfl ((if_pos h).trans hnext),
    fun h => Eq.trans (b := execRlIndex d pkt s) rfl ((if_pos h).trans hnext),
    fun h => Eq.trans (b := execRlDescriptor d pkt s) rfl ((if_pos h).trans hnext),
    (rd_rasterSend ..).trans (expect_rasterTaken ..), ?_, (rd_rasterSend ..).trans (count_rasterTaken ..),
    (congrArg Raster.nakAt hraster :), (congrArg Raster.naks hraster :), (congrArg Raster.queue hraster :), fun i hi => ?_, ?_⟩
  · exact (congrArg (· != 0) (rd_rasterSend ..)).trans ((open_rasterTaken ..).trans hopen)
  · rw [sendAck, hraster, usedWith_some hi]
  · rw [sendAck, sent_rasterSend, sent_rasterTaken]

/-! ### Applying (R202 to R209) -/

theorem applyRaster_ashlar {d : Nat} {p : RasterPkt} {s : State} (hok : rasterTypeOk p = true) (htype : p.type = 1)
    (hserved : served d p.station s = true) : applyRaster d p s = applyAshlar d p s := by
  unfold applyRaster
  rw [hok, htype, hserved]
  rfl

theorem applyRaster_index {d : Nat} {p : RasterPkt} {s : State} (hok : rasterTypeOk p = true) (htype : p.type = 2)
    (hserved : served d p.station s = true) : applyRaster d p s = applyIndex d p s := by
  unfold applyRaster
  rw [hok, htype, hserved]
  rfl

theorem applyRaster_descriptor {d : Nat} {p : RasterPkt} {s : State} (hok : rasterTypeOk p = true) (htype : p.type = 3)
    (hen : flag (R.RLNK.CFG_DESC_EN d) s = true) : applyRaster d p s = applyDescriptor d p s := by
  unfold applyRaster
  rw [hok, htype, hen]
  rfl

theorem applyIndex_lands {d i : Nat} {p : RasterPkt} {s : State} (hplane : rasterPlane p.fsn p.station s = some i)
    (hfits : p.ashlar + p.len / 8 ≤ 65536) :
    applyIndex d p s = rasterLand d ((planeDesc i p.station s).entry p.ashlar) p.payload p none s := by
  unfold applyIndex
  rw [hplane]
  exact if_neg (Nat.not_lt.mpr hfits)

theorem applyDescriptor_submits {d i : Nat} {p : RasterPkt} {s : State} (hslot : openSlot s = some i) :
    applyDescriptor d p s = rasterLand d 0 [] p none (evt d 0x30 6 (submitSlot i (putBytes (slotAddr i) p.payload s))) := by
  unfold applyDescriptor
  rw [hslot]

/-- A segment that its ashlar has room for waits to land, and the rest of the ashlar is still to come. -/
theorem rasterOf_rasterSegment {d : Nat} {p : RasterPkt} {x : Partial} {s : State} (hfits : p.offset + p.len ≤ x.len)
    (hlast : p.last = true → p.offset + p.len = x.len) :
    rasterOf d (rasterSegment d p x s) = { rasterOf d s with
      queue := (rasterOf d s).queue ++
        [{ addr := x.addr + p.offset, bytes := if x.dup then [] else p.payload, pool := (rasterPool d p s).getD 16
           credits := rasterCost p, fsn := p.fsn, station := p.station, complete := if p.last then some p.ashlar else none }]
      partials := (rasterOf d s).partials.filter (fun y => y.station != p.station) ++
        (if p.last then [] else [{ x with next := p.offset + p.len }]) } := by
  have hroom : ¬ (x.len < p.offset + p.len ∨ p.last = true ∧ p.offset + p.len ≠ x.len) := by
    rintro (h | ⟨hl, hne⟩)
    · exact Nat.not_lt.mpr hfits h
    · exact hne (hlast hl)
  unfold rasterSegment rasterLand dropPartial
  dsimp only
  rw [if_neg hroom, rasterOf_setRaster, rasterOf_setRaster]
  cases p.last with
  | true =>
    simp only [if_true, rasterOf_setRaster, List.append_nil]
    rfl
  | false =>
    simp only [Bool.false_eq_true, if_false, rasterOf_setRaster]
    rfl

theorem applyAshlar_goesOn {d i : Nat} {p : RasterPkt} {x : Partial} {s : State} (hplane : rasterPlane p.fsn p.station s = some i)
    (hpart : partialOf d p.station s = some x) (hx : x.fsn = p.fsn ∧ x.ashlar = p.ashlar ∧ x.next = p.offset) :
    applyAshlar d p s = rasterSegment d p x s := by
  unfold applyAshlar
  dsimp only
  rw [hplane]
  dsimp only
  rw [hpart]
  exact if_pos hx

/-- The ashlar that the segment begins: its place and length are those of its entry `e`. -/
def partialBegun (i : Nat) (p : RasterPkt) (e : List Byte) (s : State) : Partial :=
  ⟨p.station, p.fsn, p.ashlar, p.course, fieldLe e 0 5, fieldLe e 5 3, 0,
    planeComplete i p.station s || (planeOf i p.station s).passed.any (fun y => y.n == p.ashlar)⟩

theorem applyAshlar_begins {d i : Nat} {p : RasterPkt} {e : List Byte} {s : State} (hplane : rasterPlane p.fsn p.station s = some i)
    (hpart : partialOf d p.station s = none) (hoffset : p.offset = 0) (horder : outOfOrder d i p s = false)
    (hread : landedRead d ((planeDesc i p.station s).entry p.ashlar) 8 s = (.ok e, s)) (hlen : 16 ≤ fieldLe e 5 3)
    (haddr : fieldLe e 0 5 < 2 ^ 39) (hdie : memDie (fieldLe e 0 5) = stDie p.station)
    (hfitted : fieldLe e 0 5 % 0x1000000000 + fieldLe e 5 3 ≤ fittedBytes (stDie p.station) s) :
    applyAshlar d p s = rasterSegment d p (partialBegun i p e s) (noteBegun d p s) := by
  have hstart : ¬ (p.offset ≠ 0 ∨ outOfOrder d i p s = true) := by
    rw [hoffset, horder]
    decide
  have hentry : ¬ (fieldLe e 5 3 < 16 ∨ 2 ^ 39 ≤ fieldLe e 0 5 ∨ memDie (fieldLe e 0 5) ≠ stDie p.station ∨
      fittedBytes (stDie p.station) s < fieldLe e 0 5 % 0x1000000000 + fieldLe e 5 3) := by
    rintro (h | h | h | h)
    · exact Nat.not_lt.mpr hlen h
    · exact Nat.not_lt.mpr h haddr
    · exact h hdie
    · exact Nat.not_lt.mpr hfitted h
  unfold applyAshlar
  dsimp only
  rw [hplane]
  dsimp only
  rw [hpart]
  dsimp only
  rw [if_neg hstart, hread]
  exact if_neg hentry

theorem rasterOf_noteBegun (d : Nat) (p : RasterPkt) (s : State) :
    ∃ b, rasterOf d (noteBegun d p s) = { rasterOf d s with begun := b } := ⟨_, rasterOf_setRaster ..⟩

/-! ### A packet that is dropped (R208) -/

/-- DROP_LOG shows the packet, and the drop is counted. -/
def dropLogged (d reason : Nat) (p : RasterPkt) (s : State) : State :=
  evt d 0x30 3 (bump (R.RLNK.COUNT2_DROPS d)
    (putWord (R.RLNK.DROP_LOG2_ASHLAR d).addr (BitVec.ofNat 32 (p.ashlar + 65536 * p.course))
      (putWord (R.RLNK.DROP_LOG1_FSN d).addr (BitVec.ofNat 32 p.fsn)
        (putWord (R.RLNK.DROP_LOG0_VALID d).addr
          (BitVec.ofNat 32 (reason + 16 * p.station + 256 * p.type + 2147483648)) s))))

/-- The credits of a dropped packet come back as those of one that has landed. -/
def creditsBack (d : Nat) (p : RasterPkt) (s : State) : State :=
  match rasterPool d p s with
  | some i => regrant d (setRaster d { rasterOf d s with landed := addAt (rasterOf d s).landed i (rasterCost p) } s)
  | none => s

theorem rasterDrop_logged {d reason : Nat} {p : RasterPkt} {s : State} (hreason : reason ≠ 3 ∧ reason ≠ 4)
    (hfree : rd (R.RLNK.DROP_LOG0_VALID d) s = 0) : rasterDrop d reason p s = creditsBack d p (dropLogged d reason p s) := by
  have hkeep : ¬ ((reason = 3 ∨ reason = 4) ∧ p.type = 1) := fun h => h.1.elim hreason.1 hreason.2
  have hflag : ¬ flag (R.RLNK.DROP_LOG0_VALID d) s = true := by
    unfold flag
    rw [hfree]
    decide
  unfold rasterDrop
  dsimp only
  rw [if_neg hkeep, if_neg hflag]
  rfl

theorem word_dropLogged_ne {d reason o : Nat} {p : RasterPkt} (s : State) (ho : 0x40 ≤ o ∧ o < 0x6C) :
    word (Layout.addr d 0x30 o) (dropLogged d reason p s) = word (Layout.addr d 0x30 o) s :=
  (evt_block (blockWord_rlnk d (by omega)) (by decide)).trans ((word_bump_ne _ (addr_ne_offset (by omega))).trans
    ((word_putWord_ne _ _ (addr_ne_offset (by omega))).trans ((word_putWord_ne _ _ (addr_ne_offset (by omega))).trans
      (word_putWord_ne _ _ (addr_ne_offset (by omega))))))

theorem rd_dropLogged_log0 {d reason i w : Nat} {p : RasterPkt} (s : State) :
    rd ⟨Layout.addr d 0x30 0x70, i, w⟩ (dropLogged d reason p s) =
      bitsOf (BitVec.ofNat 32 (reason + 16 * p.station + 256 * p.type + 2147483648)).toNat i w :=
  (rd_evt_rlnk (by decide) _).trans ((rd_bump_ne _ (addr_ne_offset (by decide))).trans
    ((rd_putWord_ne _ _ (addr_ne_offset (by decide))).trans ((rd_putWord_ne _ _ (addr_ne_offset (by decide))).trans
      (rd_putWord_same _ _ rfl))))

theorem drops_dropLogged (d reason : Nat) (p : RasterPkt) (s : State) :
    rd (R.RLNK.COUNT2_DROPS d) (dropLogged d reason p s) = Nat.min (rd (R.RLNK.COUNT2_DROPS d) s + 1) 65535 := by
  refine (rd_evt_rlnk (by decide) _).trans ((rd_bump_same _ (show 0 + 16 ≤ 32 by decide)).trans ?_)
  rw [rd_putWord_ne _ _ (addr_ne_offset (by decide)), rd_putWord_ne _ _ (addr_ne_offset (by decide)),
    rd_putWord_ne _ _ (addr_ne_offset (by decide))]
  rfl

/-- Below the type's 8 bits and above them, DROP_LOG0 holds the reason and its valid bit. -/
theorem dropWord_bits {reason station type : Nat} (hreason : reason < 16) (hstation : station < 16) (htype : type < 256) :
    bitsOf (BitVec.ofNat 32 (reason + 16 * station + 256 * type + 2147483648)).toNat 0 4 = reason ∧
      bitsOf (BitVec.ofNat 32 (reason + 16 * station + 256 * type + 2147483648)).toNat 31 1 = 1 := by
  rw [BitVec.toNat_ofNat, Nat.mod_eq_of_lt (by omega)]
  unfold bitsOf
  omega

theorem rasterOf_dropLogged (d reason : Nat) (p : RasterPkt) (s : State) : rasterOf d (dropLogged d reason p s) = rasterOf d s := by
  rw [dropLogged, rasterOf_evt, rasterOf_bump, rasterOf_putWord, rasterOf_putWord, rasterOf_putWord]

theorem rd_creditsBack (d : Nat) (p : RasterPkt) (l : Loc) (s : State) : rd l (creditsBack d p s) = rd l s := by
  unfold creditsBack
  split
  · exact (regrant_kept ..).rd_eq rfl l
  · rfl

theorem queue_creditsBack (d : Nat) (p : RasterPkt) (s : State) : (rasterOf d (creditsBack d p s)).queue = (rasterOf d s).queue := by
  unfold creditsBack
  split
  · obtain ⟨g, c, h⟩ := rasterOf_regrant d (setRaster d { rasterOf d s with landed := addAt (rasterOf d s).landed _ (rasterCost p) } s)
    rw [h, rasterOf_setRaster]
  · rfl

theorem landed_creditsBack {d i : Nat} {p : RasterPkt} {s : State} (hpool : rasterPool d p s = some i) :
    (rasterOf d (creditsBack d p s)).landed = addAt (rasterOf d s).landed i (rasterCost p) := by
  unfold creditsBack
  rw [hpool]
  obtain ⟨g, c, h⟩ := rasterOf_regrant d (setRaster d { rasterOf d s with landed := addAt (rasterOf d s).landed i (rasterCost p) } s)
  dsimp only
  rw [h, rasterOf_setRaster]

theorem applyRaster_drops {d : Nat} {p : RasterPkt} {s : State} (hok : rasterTypeOk p = false)
    (hfree : rd (R.RLNK.DROP_LOG0_VALID d) s = 0) (htype : p.type < 256) :
    ∃ t, applyRaster d p s = t ∧ rd (R.RLNK.COUNT2_DROPS d) t = Nat.min (rd (R.RLNK.COUNT2_DROPS d) s + 1) 65535 ∧
      rd (R.RLNK.DROP_LOG0_REASON d) t = 5 ∧ rd (R.RLNK.DROP_LOG0_VALID d) t = 1 ∧
      (rasterOf d t).queue = (rasterOf d s).queue ∧
      (∀ i, rasterPool d p s = some i → (rasterOf d t).landed = addAt (rasterOf d s).landed i (rasterCost p)) := by
  have hdrop : applyRaster d p s = creditsBack d p (dropLogged d 5 p s) := by
    rw [← rasterDrop_logged (by decide) hfree, applyRaster, hok]
    rfl
  have hraster := rasterOf_dropLogged d 5 p s
  have hpool : rasterPool d p (dropLogged d 5 p s) = rasterPool d p s := rasterPool_congr p (word_dropLogged_ne s (by decide))
  obtain ⟨hreason, hvalid⟩ := dropWord_bits (reason := 5) (by decide) (show p.station < 16 from Nat.mod_lt _ (by decide)) htype
  refine ⟨_, hdrop, (rd_creditsBack ..).trans (drops_dropLogged ..), ?_, ?_, ?_, fun i hi => ?_⟩
  · exact (rd_creditsBack ..).trans ((rd_dropLogged_log0 s).trans hreason)
  · exact (rd_creditsBack ..).trans ((rd_dropLogged_log0 s).trans hvalid)
  · rw [queue_creditsBack, hraster]
  · rw [landed_creditsBack (hpool.trans hi), hraster]

/-! ### RL_RESYNC (R198) -/

theorem exec_rlResync {d : Nat} {pkt : List Byte} {s : State} (hears : rasterHears d s = true) (hsync : isResync pkt = true) :
    exec (.rlResync d pkt) s =
      .next (openRaster d (setRaster d { rasterOf d s with resync := some (parseRaster pkt).psn } s)) :=
  Eq.trans (b := execRlResync d pkt s) rfl (if_pos (by rw [hears, hsync]; rfl))

theorem rlResync_opens {d : Nat} {pkt : List Byte} {s : State} (hears : rasterHears d s = true) (hsync : isResync pkt = true)
    (hq : (rasterOf d s).queue = []) :
    ∃ t, exec (.rlResync d pkt) s = .next t ∧ rasterOpen d t = true ∧
      rd (R.RLNK.PSN_STAT_EXPECT d) t = (parseRaster pkt).psn % 65536 ∧ (rasterOf d t).resync = none ∧
      (rasterOf d t).granted = (List.range 17).map (fun i => poolSize d i s) ∧
      (rasterOf d t).landed = List.replicate 17 0 ∧ (rasterOf d t).used = List.replicate 17 0 ∧
      rd (R.RLNK.COUNT2_RESYNCS d) t = Nat.min (rd (R.RLNK.COUNT2_RESYNCS d) s + 1) 65535 := by
  obtain ⟨hopen, hexpect, ⟨_, hrecord⟩, hresyncs⟩ := openRaster_opens (d := d) (psn := (parseRaster pkt).psn)
    (s := setRaster d { rasterOf d s with resync := some (parseRaster pkt).psn } s) (by rw [rasterOf_setRaster])
    (by rw [rasterOf_setRaster]; exact hq)
  exact ⟨_, exec_rlResync hears hsync, hopen, hexpect, (congrArg Raster.resync hrecord :), (congrArg Raster.granted hrecord :),
    (congrArg Raster.landed hrecord :), (congrArg Raster.used hrecord :), hresyncs⟩

theorem rlResync_waits {d : Nat} {pkt : List Byte} {s : State} (hears : rasterHears d s = true) (hsync : isResync pkt = true)
    (hq : (rasterOf d s).queue ≠ []) :
    ∃ t, exec (.rlResync d pkt) s = .next t ∧ (rasterOf d t).resync = some (parseRaster pkt).psn ∧
      t = { s with rasters := t.rasters } := by
  have hexec := exec_rlResync hears hsync
  rw [openRaster_waits (by rw [rasterOf_setRaster]; exact hq)] at hexec
  exact ⟨_, hexec, by rw [rasterOf_setRaster], rfl⟩

/-! ### RL_BAD_PACKET (R185, R189, R194, R195) -/

/-- The bytes `blocks` break the framing: the data blocks do not carry what the header says, or there is no packet start that names
their number and they are no filler (R185, R189). -/
def BreaksFraming (d : Nat) (blocks : List Byte) (s : State) : Prop :=
  startOk (blocks.take 8) (blocks.drop 8) = true ∧ isResync (blocks.drop 8) = false ∧ rasterVerdict d (blocks.drop 8) s = 1 ∨
    startOk (blocks.take 8) (blocks.drop 8) = false ∧ blocks ≠ fillerBlock.bytes

theorem rasterPacket_framing {d : Nat} {b : List Byte} {s : State} (h : rasterVerdict d b s = 1) :
    rasterPacket d b s = rasterNakCause d (bump (R.RLNK.ERR_CNT1_FRAMING d) s) := by
  unfold rasterPacket
  rw [h]
  rfl

theorem rasterPacket_earlier {d : Nat} {b : List Byte} {s : State} (h : rasterVerdict d b s = 4) :
    rasterPacket d b s = sendAck d 0 (rd (R.RLNK.PSN_STAT_EXPECT d) s + 65535) s := by
  unfold rasterPacket
  rw [h]
  rfl

/-- A packet start is no filler. -/
theorem startOk_not_filler {start b : List Byte} (h : startOk start b = true) : (start == fillerBlock.bytes) = false := by
  rw [eq_of_beq h]
  exact beq_eq_false_iff_ne.mpr fun e => absurd (List.cons.inj e).1 (by decide)

theorem exec_rlBadPacket_started {d : Nat} {blocks : List Byte} {s : State} (hears : rasterHears d s = true)
    (hopen : rasterOpen d s = true) (hsync : (rasterOf d s).resync = none) (hstart : startOk (blocks.take 8) (blocks.drop 8) = true)
    (hres : isResync (blocks.drop 8) = false) (hbad : rasterVerdict d (blocks.drop 8) s ≠ 0) :
    exec (.rlBadPacket d blocks) s = .next (rasterPacket d (blocks.drop 8) s) := by
  refine Eq.trans (b := execRlBadPacket d blocks s) rfl ?_
  unfold execRlBadPacket
  dsimp only
  rw [startOk_not_filler hstart, hstart, hres, beq_eq_false_iff_ne.mpr hbad, rasterArrival_open _ hears hopen hsync]
  rfl

theorem exec_rlBadPacket_framing {d : Nat} {blocks : List Byte} {s : State} (hears : rasterHears d s = true)
    (hopen : rasterOpen d s = true) (hsync : (rasterOf d s).resync = none) (h : BreaksFraming d blocks s) :
    exec (.rlBadPacket d blocks) s = .next (rasterNakCause d (bump (R.RLNK.ERR_CNT1_FRAMING d) s)) := by
  rcases h with ⟨hstart, hres, hverdict⟩ | ⟨hstart, hfiller⟩
  · rw [exec_rlBadPacket_started hears hopen hsync hstart hres (by rw [hverdict]; decide), rasterPacket_framing hverdict]
  · have hdata : ¬ (blocks.take 8 == fillerBlock.bytes && (blocks.drop 8).isEmpty) = true := fun h => hfiller (by
      rw [Bool.and_eq_true, List.isEmpty_iff] at h
      rw [← List.take_append_drop 8 blocks, h.2, List.append_nil]
      exact eq_of_beq h.1)
    refine Eq.trans (b := execRlBadPacket d blocks s) rfl ?_
    unfold execRlBadPacket
    dsimp only
    rw [if_neg hdata, hstart, rasterUnframed_open hears hopen hsync]
    rfl

theorem rlBadPacket_acknowledges {d : Nat} {blocks : List Byte} {s : State} (hears : rasterHears d s = true)
    (hopen : rasterOpen d s = true) (hsync : (rasterOf d s).resync = none) (hstart : startOk (blocks.take 8) (blocks.drop 8) = true)
    (hres : isResync (blocks.drop 8) = false) (hverdict : rasterVerdict d (blocks.drop 8) s = 4) :
    ∃ t, exec (.rlBadPacket d blocks) s = .next t ∧
      t = { s with sent := .raster d 0x10 [0, (rd (R.RLNK.PSN_STAT_EXPECT d) s + 65535) % 65536] :: s.sent, bonds := t.bonds } :=
  ⟨_, (exec_rlBadPacket_started hears hopen hsync hstart hres (by rw [hverdict]; decide)).trans
    (congrArg _ (rasterPacket_earlier hverdict)), rasterSend_eq ..⟩

theorem framing_counted (d : Nat) (s : State) :
    rd (R.RLNK.ERR_CNT1_FRAMING d) (bump (R.RLNK.ERR_CNT1_FRAMING d) s) = Nat.min (rd (R.RLNK.ERR_CNT1_FRAMING d) s + 1) 65535 :=
  rd_bump_same s (show 0 + 16 ≤ 32 by decide)

theorem rlBadPacket_naks {d : Nat} {blocks : List Byte} {s : State} (hears : rasterHears d s = true) (hopen : rasterOpen d s = true)
    (hsync : (rasterOf d s).resync = none) (h : BreaksFraming d blocks s) (hnak : (rasterOf d s).nakAt = none)
    (hlimit : (rasterOf d s).naks + 1 < rd (R.RLNK.RETRY_LIMIT d) s) :
    ∃ t, exec (.rlBadPacket d blocks) s = .next t ∧
      rd (R.RLNK.ERR_CNT1_FRAMING d) t = Nat.min (rd (R.RLNK.ERR_CNT1_FRAMING d) s + 1) 65535 ∧
      rd (R.RLNK.NAK_CNT_COUNT d) t = Nat.min (rd (R.RLNK.NAK_CNT_COUNT d) s + 1) 4294967295 ∧
      (rasterOf d t).nakAt = some s.now ∧ (rasterOf d t).naks = (rasterOf d s).naks + 1 ∧
      t.sent = .raster d 0x11 [rd (R.RLNK.PSN_STAT_EXPECT d) s] :: s.sent := by
  have hexec := exec_rlBadPacket_framing hears hopen hsync h
  have hframing := framing_counted d s
  have hkept : ∀ {o i w}, o ≠ 0x68 → rd ⟨Layout.addr d 0x30 o, i, w⟩ (bump (R.RLNK.ERR_CNT1_FRAMING d) s) =
      rd ⟨Layout.addr d 0x30 o, i, w⟩ s := fun ho => rd_bump_ne _ (addr_ne_offset ho)
  obtain ⟨hraster, hsent, hnow⟩ : rasterOf d (bump (R.RLNK.ERR_CNT1_FRAMING d) s) = rasterOf d s ∧
      (bump (R.RLNK.ERR_CNT1_FRAMING d) s).sent = s.sent ∧ (bump (R.RLNK.ERR_CNT1_FRAMING d) s).now = s.now :=
    ⟨rasterOf_bump .., by simp, by simp⟩
  generalize bump (R.RLNK.ERR_CNT1_FRAMING d) s = u at hexec hframing hkept hraster hsent hnow
  have hbelow : rd (R.RLNK.RETRY_LIMIT d) u = rd (R.RLNK.RETRY_LIMIT d) s := hkept (by decide)
  have hnaks : rd (R.RLNK.NAK_CNT_COUNT d) u = rd (R.RLNK.NAK_CNT_COUNT d) s := hkept (by decide)
  have hexpect : rd (R.RLNK.PSN_STAT_EXPECT d) u = rd (R.RLNK.PSN_STAT_EXPECT d) s := hkept (by decide)
  have hcause : rasterNakCause d u = sendNak d u := by
    unfold rasterNakCause
    rw [hraster, hnak]
    exact rasterNak_below (by rw [hraster, hbelow]; exact hlimit)
  rw [hcause] at hexec
  refine ⟨_, hexec, (rd_sendNak_ne u (apart_page (by decide))).trans hframing, ?_, ?_, ?_, ?_⟩
  · rw [rd_sendNak_count, hnaks]
  · rw [rasterOf_sendNak, hnow]
  · rw [naks_sendNak, hraster]
  · rw [sent_sendNak, hsent, hexpect]

theorem rlBadPacket_counts {d u : Nat} {blocks : List Byte} {s : State} (hears : rasterHears d s = true)
    (hopen : rasterOpen d s = true) (hsync : (rasterOf d s).resync = none) (h : BreaksFraming d blocks s)
    (hnak : (rasterOf d s).nakAt = some u) (hyoung : s.now < u + 20000) :
    ∃ t, exec (.rlBadPacket d blocks) s = .next t ∧
      rd (R.RLNK.ERR_CNT1_FRAMING d) t = Nat.min (rd (R.RLNK.ERR_CNT1_FRAMING d) s + 1) 65535 ∧ t = { s with regs := t.regs } := by
  have hcause : rasterNakCause d (bump (R.RLNK.ERR_CNT1_FRAMING d) s) = bump (R.RLNK.ERR_CNT1_FRAMING d) s := by
    unfold rasterNakCause
    rw [rasterOf_bump, hnak]
    exact if_pos (by simpa using hyoung)
  exact ⟨_, (exec_rlBadPacket_framing hears hopen hsync h).trans (congrArg _ hcause), framing_counted d s, bump_eq ..⟩

/-! ### RL_PACKET_LANDED (R201, R207) -/

/-- The oldest packet has left the queue, and its credits have come back. -/
def packetLanded (d : Nat) (q : Landing) (s1 : State) : State :=
  setRaster d { rasterOf d s1 with landed := addAt (rasterOf d s1).landed q.pool q.credits } s1

theorem execRlPacketLanded_written {d : Nat} {q : Landing} {rest : List Landing} {s s1 : State}
    (hq : (rasterOf d s).queue = q :: rest) (hbytes : q.bytes ≠ []) (hcomplete : q.complete = none)
    (hwrite : agentWrite agRaster q.addr q.bytes (setRaster d { rasterOf d s with queue := rest } s) = (true, s1)) :
    execRlPacketLanded d s =
      .next (openRaster d (if rasterOpen d (packetLanded d q s1) then regrant d (packetLanded d q s1) else packetLanded d q s1)) := by
  have hput : agentPut agRaster q.addr q.bytes (setRaster d { rasterOf d s with queue := rest } s) = s1 := congrArg Prod.snd hwrite
  have hempty : ¬ q.bytes.isEmpty = true := fun h => hbytes (List.isEmpty_iff.mp h)
  unfold execRlPacketLanded
  rw [hq]
  dsimp only
  rw [if_neg hempty, hput, hcomplete]
  rfl

theorem rlPacketLanded_lands {d : Nat} {q : Landing} {rest : List Landing} {s s1 : State} (hq : (rasterOf d s).queue = q :: rest)
    (hsync : (rasterOf d s).resync = none) (hbytes : q.bytes ≠ []) (hcomplete : q.complete = none)
    (hwrite : agentWrite agRaster q.addr q.bytes (setRaster d { rasterOf d s with queue := rest } s) = (true, s1)) :
    ∃ t, exec (.rlPacketLanded d) s = .next t ∧ t.mem = s1.mem ∧ (rasterOf d t).queue = rest ∧
      (rasterOf d t).landed = addAt (rasterOf d s).landed q.pool q.credits := by
  have hwritten : rasterOf d s1 = { rasterOf d s with queue := rest } := by
    rw [rasterOf_congr d ((agentWrite_written hwrite).rasters rfl), rasterOf_setRaster]
  have hlanded : rasterOf d (packetLanded d q s1) =
      { rasterOf d s with queue := rest, landed := addAt (rasterOf d s).landed q.pool q.credits } := by
    rw [packetLanded, rasterOf_setRaster, hwritten]
  have hend : ∃ g c, rasterOf d (if rasterOpen d (packetLanded d q s1) then regrant d (packetLanded d q s1) else packetLanded d q s1) =
      { rasterOf d s with queue := rest, landed := addAt (rasterOf d s).landed q.pool q.credits, granted := g, creditAt := c } := by
    split
    · obtain ⟨g, c, h⟩ := rasterOf_regrant d (packetLanded d q s1)
      exact ⟨g, c, by rw [h, hlanded]⟩
    · exact ⟨_, _, hlanded⟩
  have hmem : (if rasterOpen d (packetLanded d q s1) then regrant d (packetLanded d q s1) else packetLanded d q s1).mem = s1.mem := by
    split
    · exact (regrant_kept d (packetLanded d q s1)).mem rfl
    · rfl
  have hexec := execRlPacketLanded_written hq hbytes hcomplete hwrite
  obtain ⟨g, c, hend⟩ := hend
  rw [openRaster_none (by rw [hend]; exact hsync)] at hexec
  exact ⟨_, Eq.trans (b := execRlPacketLanded d s) rfl hexec, hmem, congrArg Raster.queue hend, congrArg Raster.landed hend⟩

/-- Settles O24: what a packet's checks find, what applying it leaves in the receiver's record, and what landing brings back. -/
theorem rasterPacketCommandsAct : Obligations.RasterPacketCommandsAct := by
  unfold Obligations.RasterPacketCommandsAct
  refine ⟨?_, ?_, ?_, ?_, ?_, ?_, ?_, ?_, ?_, ?_, ?_, ?_⟩
  · exact fun d pkt s => raster_accepts
  · intro d i p s hok htype hserved hplane hfits
    rw [applyRaster_index hok htype hserved, applyIndex_lands hplane hfits]
    rfl
  · intro d i p x s hok htype hserved hplane hpart hfsn hashlar hnext hfits hlast
    rw [applyRaster_ashlar hok htype hserved, applyAshlar_goesOn hplane hpart ⟨hfsn, hashlar, hnext⟩,
      rasterOf_rasterSegment hfits hlast]
    exact ⟨rfl, rfl⟩
  · intro d i p e s hok htype hserved hplane hpart hoffset hlast horder hread hlen haddr hdie hfitted hfits
    obtain ⟨b, hbegun⟩ := rasterOf_noteBegun d p s
    rw [applyRaster_ashlar hok htype hserved,
      applyAshlar_begins hplane hpart hoffset horder hread hlen haddr hdie hfitted,
      rasterOf_rasterSegment (x := partialBegun i p e s) (by rw [hoffset, Nat.zero_add]; exact hfits) (by rw [hlast]; exact nofun),
      hbegun, hlast, hoffset, Nat.zero_add]
    rfl
  · intro d i p s hok htype hen hslot
    rw [applyRaster_descriptor hok htype hen, applyDescriptor_submits hslot]
  · exact fun d p s => applyRaster_drops
  · exact fun d pkt s => rlResync_opens
  · exact fun d pkt s => rlResync_waits
  · exact fun d blocks s => rlBadPacket_acknowledges
  · exact fun d blocks s => rlBadPacket_naks
  · exact fun d u blocks s => rlBadPacket_counts
  · exact fun d q rest s s1 => rlPacketLanded_lands

end Sys2Proof.Machine
end

section
/-! PROOFS. The timers of the raster link and its route (R195, R198, R201 to R203, R210). -/

namespace Sys2Proof.Machine

/-! ### RL_NAK_TIMER (R195, R210) -/

theorem exec_rlNakTimer {d u : Nat} {s : State} (hears : rasterHears d s = true) (hopen : rasterOpen d s = true)
    (hnak : (rasterOf d s).nakAt = some u) (hdue : u + 20000 ≤ s.now) : exec (.rlNakTimer d) s = .next (rasterNak d s) := by
  refine Eq.trans (b := execRlNakTimer d s) rfl ?_
  unfold execRlNakTimer
  rw [hnak]
  exact if_pos (by rw [hears, hopen, decide_eq_true hdue]; rfl)

theorem rlNakTimer_repeats {d u : Nat} {s : State} (hears : rasterHears d s = true) (hopen : rasterOpen d s = true)
    (hnak : (rasterOf d s).nakAt = some u) (hdue : u + 20000 ≤ s.now)
    (hlimit : (rasterOf d s).naks + 1 < rd (R.RLNK.RETRY_LIMIT d) s) :
    ∃ t, exec (.rlNakTimer d) s = .next t ∧ (rasterOf d t).nakAt = some s.now ∧ (rasterOf d t).naks = (rasterOf d s).naks + 1 ∧
      rd (R.RLNK.NAK_CNT_COUNT d) t = Nat.min (rd (R.RLNK.NAK_CNT_COUNT d) s + 1) 4294967295 ∧
      t.sent = .raster d 0x11 [rd (R.RLNK.PSN_STAT_EXPECT d) s] :: s.sent :=
  ⟨_, (exec_rlNakTimer hears hopen hnak hdue).trans (congrArg _ (rasterNak_below hlimit)),
    congrArg Raster.nakAt (rasterOf_sendNak d s), naks_sendNak d s, rd_sendNak_count d s, sent_sendNak d s⟩

/-! ### RL_INIT_ACK_TIMER and RL_CREDIT_TIMER (R198, R201) -/

theorem rlInitAckTimer_sends {d : Nat} {s : State} (hears : rasterHears d s = true) (hopen : rasterOpen d s = false)
    (hdue : ∀ u, (rasterOf d s).initAt = some u → u + 10000 ≤ s.now) :
    ∃ t, exec (.rlInitAckTimer d) s = .next t ∧ (rasterOf d t).initAt = some s.now ∧ t.sent = .raster d 0x10 [1, 0] :: s.sent ∧
      t = { s with rasters := t.rasters, sent := t.sent, bonds := t.bonds } := by
  have hexec : execRlInitAckTimer d s = .next (sendAck d 1 0 (setRaster d { rasterOf d s with initAt := some s.now } s)) := by
    unfold execRlInitAckTimer
    dsimp only
    rw [hears, hopen]
    split
    · next u hu => exact if_pos (by rw [decide_eq_true (hdue u hu)]; rfl)
    · rfl
  refine ⟨_, Eq.trans (b := execRlInitAckTimer d s) rfl hexec, ?_, sent_rasterSend .., ?_⟩
  · rw [sendAck, rasterOf_rasterSend, rasterOf_setRaster]
  · rw [sendAck, rasterSend_eq]
    rfl

theorem rlCreditTimer_sends {d : Nat} {s : State} (hears : rasterHears d s = true) (hopen : rasterOpen d s = true)
    (hdue : (rasterOf d s).creditAt + 100000 ≤ s.now) :
    ∃ t, exec (.rlCreditTimer d) s = .next t ∧ (rasterOf d t).creditAt = s.now ∧ (rasterOf d t).granted = (rasterOf d s).granted ∧
      t.sent = .raster d 0x12 (0 :: (rasterOf d s).granted.map (fun g => g % 65536)) :: s.sent ∧
      t = { s with rasters := t.rasters, sent := t.sent, bonds := t.bonds } := by
  have hexec : execRlCreditTimer d s = .next (sendCredit d 0 s) :=
    if_pos (by rw [hears, hopen, decide_eq_true hdue]; rfl)
  have hraster := rasterOf_sendCredit d 0 s
  refine ⟨_, Eq.trans (b := execRlCreditTimer d s) rfl hexec, (congrArg Raster.creditAt hraster :), (congrArg Raster.granted hraster :),
    sent_rasterSend .., ?_⟩
  rw [sendCredit, rasterSend_eq]
  rfl

/-! ### RL_ROUTE_CHANGE (R202, R203) -/

theorem exec_rlRouteChange_bar0 {a : Access} {d : Nat} {v : Word} {s : State} (h : Reaches a d 0x30 0x44 s) (hbar : a.bar2 = false) :
    exec (.rlRouteChange a d v) s = .next (routeWrite d v.toNat (landWrite a.rq d s)) := by
  rw [exec_rlRouteChange h, hbar]
  rfl

theorem b2n_testBit_zero (v : Nat) : b2n (testBit v 0) = bitsOf v 0 1 := by
  have hbit : ∀ x, x < 2 → b2n (x == 1) = x := by decide
  exact hbit _ (Nat.mod_lt _ (by decide))

/-- ROUTE has taken the fields EN and DIE of `w`. -/
def routeTaken (d w : Nat) (s : State) : State := wr (R.RLNK.ROUTE_EN d) (bitsOf w 0 1) (wr (R.RLNK.ROUTE_DIE d) (bitsOf w 4 3) s)

theorem en_routeTaken (d w : Nat) (s : State) : rd (R.RLNK.ROUTE_EN d) (routeTaken d w s) = bitsOf w 0 1 :=
  (rd_wr_same _ _ (show 0 + 1 ≤ 32 by decide)).trans (Nat.mod_mod _ _)

theorem die_routeTaken (d w : Nat) (s : State) : rd (R.RLNK.ROUTE_DIE d) (routeTaken d w s) = bitsOf w 4 3 :=
  (rd_wr_of_apart (apart_page (by decide)) _ _).trans ((rd_wr_same _ _ (show 4 + 3 ≤ 32 by decide)).trans (Nat.mod_mod _ _))

theorem open_routeTaken (d w : Nat) (s : State) : rasterOpen d (routeTaken d w s) = rasterOpen d s :=
  (flag_wr_of_apart (apart_page (by decide)) _ _).trans (flag_wr_of_apart (apart_page (by decide)) _ _)

/-- Closing a session leaves every register but PSN_STAT. -/
theorem rd_closeRaster_ne {d o i w : Nat} (s : State) (ho : o ≠ 0x58) :
    rd ⟨Layout.addr d 0x30 o, i, w⟩ (closeRaster d s) = rd ⟨Layout.addr d 0x30 o, i, w⟩ s := rd_wr_ne _ _ (addr_ne_offset ho)

/-- A word that names another die of the part, and changes ROUTE. -/
theorem routeWrite_changes {d w : Nat} {s : State} (hother : bitsOf w 4 3 ≠ d) (hdie : bitsOf w 4 3 < s.dies)
    (hchange : bitsOf w 0 1 ≠ rd (R.RLNK.ROUTE_EN d) s ∨ bitsOf w 4 3 ≠ rd (R.RLNK.ROUTE_DIE d) s) :
    routeWrite d w s = if rasterOpen d s then closeRaster d (routeTaken d w s) else routeTaken d w s := by
  have hnamed : ¬ (bitsOf w 4 3 = d ∨ s.dies ≤ bitsOf w 4 3) := by omega
  have hnew : (bitsOf w 0 1 != rd (R.RLNK.ROUTE_EN d) s || bitsOf w 4 3 != rd (R.RLNK.ROUTE_DIE d) s) = true := by
    rwa [Bool.or_eq_true, bne_iff_ne, bne_iff_ne]
  unfold routeWrite
  dsimp only
  rw [if_neg hnamed, b2n_testBit_zero, hnew, Bool.true_and]
  rfl

theorem routeWrite_ignored {d w : Nat} {s : State} (h : bitsOf w 4 3 = d ∨ s.dies ≤ bitsOf w 4 3) :
    routeWrite d w s = evt d 0x30 4 s := if_pos h

theorem rlRouteChange_takes {a : Access} {d : Nat} {v : Word} {s : State} (h : Reaches a d 0x30 0x44 s) (hbar : a.bar2 = false)
    (hother : bitsOf v.toNat 4 3 ≠ d) (hdie : bitsOf v.toNat 4 3 < s.dies)
    (hchange : bitsOf v.toNat 0 1 ≠ rd (R.RLNK.ROUTE_EN d) s ∨ bitsOf v.toNat 4 3 ≠ rd (R.RLNK.ROUTE_DIE d) s) :
    ∃ t, exec (.rlRouteChange a d v) s = .next t ∧ rd (R.RLNK.ROUTE_EN d) t = bitsOf v.toNat 0 1 ∧
      rd (R.RLNK.ROUTE_DIE d) t = bitsOf v.toNat 4 3 ∧ rasterOpen d t = false := by
  have hwrite := routeWrite_changes (s := landWrite a.rq d s) hother hdie hchange
  refine ⟨_, (exec_rlRouteChange_bar0 h hbar).trans (congrArg _ hwrite), ?_⟩
  split
  · exact ⟨(rd_closeRaster_ne _ (by decide)).trans (en_routeTaken ..), (rd_closeRaster_ne _ (by decide)).trans (die_routeTaken ..),
      open_closeRaster ..⟩
  · next hopen => exact ⟨en_routeTaken .., die_routeTaken .., (open_routeTaken ..).trans (Bool.eq_false_of_not_eq_true hopen)⟩

theorem rlRouteChange_ignored {a : Access} {d : Nat} {v : Word} {s : State} (h : Reaches a d 0x30 0x44 s) (hbar : a.bar2 = false)
    (hdie : bitsOf v.toNat 4 3 = d ∨ s.dies ≤ bitsOf v.toNat 4 3) :
    ∃ t, exec (.rlRouteChange a d v) s = .next t ∧ rd (R.RLNK.ROUTE_EN d) t = rd (R.RLNK.ROUTE_EN d) s ∧
      rd (R.RLNK.ROUTE_DIE d) t = rd (R.RLNK.ROUTE_DIE d) s ∧ rasterOpen d t = rasterOpen d s :=
  ⟨_, (exec_rlRouteChange_bar0 h hbar).trans (congrArg _ (routeWrite_ignored (s := landWrite a.rq d s) hdie)),
    rd_evt_rlnk (by decide) _, rd_evt_rlnk (by decide) _, congrArg (· != 0) (rd_evt_rlnk (by decide) _)⟩

/-- Settles O25: what each timer sends once it is due, and the fields that a write of ROUTE takes. -/
theorem rasterTimerCommandsAct : Obligations.RasterTimerCommandsAct := by
  unfold Obligations.RasterTimerCommandsAct
  refine ⟨?_, ?_, ?_, ?_, ?_, ?_⟩
  · exact fun d u s => rlNakTimer_repeats
  · exact fun d u s hears hopen hnak hdue hlimit => ⟨_, exec_rlNakTimer hears hopen hnak hdue, rasterNak_last hlimit⟩
  · exact fun d s => rlInitAckTimer_sends
  · exact fun d s => rlCreditTimer_sends
  · exact fun a d v s => rlRouteChange_takes
  · exact fun a d v s => rlRouteChange_ignored

end Sys2Proof.Machine
end

section
/-! PROOFS. What the timing of a station shows, forms and loses: its registers, its destination lines and its missed scans
(R213, R253, R254, R265). -/

namespace Sys2Proof.Machine

/-! ### Registers of a station's pages -/

theorem Touches.staOf_eq {m : Nat} {z s : State} (h : Touches m z s) (hm : m.testBit 54 = false) (k : Nat) :
    staOf k s = staOf k z := staOf_congr k (h.stations hm)

theorem stLoc_lt (k : Nat) : stLoc k < 2 := Nat.mod_lt k (by decide)

theorem stationPages_lt (k : Nat) : staPage (stLoc k) < 256 ∧ stimPage (stLoc k) < 256 ∧ sprotPage (stLoc k) < 256 := by
  have := stLoc_lt k
  unfold staPage stimPage sprotPage
  omega

theorem blockWord_stim (d k : Nat) {o : Nat} (ho : 0x40 ≤ o ∧ o < 0x1000) : BlockWord (Layout.addr d (stimPage (stLoc k)) o) :=
  blockWord_addr (stationPages_lt k).2.1 ho.2 (.inr (by unfold stimPage; omega))

/-- Fields of different pages lie apart. -/
theorem apart_pages {d p o d' p' o' i v j w : Nat} (hp : p < 256 ∧ o < 0x1000) (hp' : p' < 256 ∧ o' < 0x1000) (h : p ≠ p') :
    Apart ⟨Layout.addr d p o, i, v⟩ ⟨Layout.addr d' p' o', j, w⟩ := .inl (addr_ne hp.1 hp.2 hp'.1 hp'.2 (.inr (.inl h)))

/-- A field of another page of the station than STIM lies apart from the fields of STIM. -/
theorem apart_stim {d p o d' o' i v j w : Nat} (k : Nat) (hp : p < 256 ∧ o < 0x1000) (ho : o' < 0x1000) (h : p ≠ stimPage (stLoc k)) :
    Apart ⟨Layout.addr d p o, i, v⟩ ⟨Layout.addr d' (stimPage (stLoc k)) o', j, w⟩ :=
  apart_pages hp ⟨(stationPages_lt k).2.1, ho⟩ h

/-! ### LSN_NOW and TSTAT.FACET (R246) -/

@[simp] theorem staOf_showTiming (j k : Nat) (s : State) : staOf j (showTiming k s) = staOf j s :=
  (showTiming_touches (Nat.and_self _) (.refl _ s)).staOf_eq rfl j

@[simp] theorem sent_showTiming (k : Nat) (s : State) : (showTiming k s).sent = s.sent :=
  (showTiming_touches (Nat.and_self _) (.refl _ s)).sent rfl

theorem rd_showTiming {k : Nat} {l : Loc} (s : State) (hlsn : l.addr ≠ (R.STIM.LSN_NOW_LSN (stDie k) (stLoc k)).addr)
    (hfacet : Apart l (R.STIM.TSTAT_FACET (stDie k) (stLoc k))) : rd l (showTiming k s) = rd l s :=
  (rd_wr_of_apart hfacet _ _).trans (rd_putWord_ne _ _ hlsn)

/-- The registers of STIM other than TSTAT and LSN_NOW stand. -/
theorem rd_showTiming_stim {k o i w : Nat} (s : State) (ho : o ≠ 0xC4) (hst : o ≠ 0xC0) :
    rd ⟨Layout.addr (stDie k) (stimPage (stLoc k)) o, i, w⟩ (showTiming k s) =
      rd ⟨Layout.addr (stDie k) (stimPage (stLoc k)) o, i, w⟩ s :=
  rd_showTiming s (addr_ne_offset ho) (.inl (addr_ne_offset hst))

/-- The registers of other pages stand. -/
theorem rd_showTiming_page {k d p o i w : Nat} (s : State) (hp : p < 256 ∧ o < 0x1000) (h : p ≠ stimPage (stLoc k)) :
    rd ⟨Layout.addr d p o, i, w⟩ (showTiming k s) = rd ⟨Layout.addr d p o, i, w⟩ s :=
  rd_showTiming s (addr_ne hp.1 hp.2 (stationPages_lt k).2.1 (by decide) (.inr (.inl h))) (apart_stim k hp (by decide) h)

@[simp] theorem timSt_showTiming (k : Nat) (s : State) : timSt k (showTiming k s) = timSt k s :=
  rd_showTiming s (addr_ne_offset (by decide)) (apart_page (by decide))

@[simp] theorem latches_showTiming (k : Nat) (s : State) : latches k (showTiming k s) = latches k s :=
  rd_showTiming_page s ⟨(stationPages_lt k).2.2, by decide⟩ (by simp [stimPage])

/-! ### STATION_LINE (R213, R234) -/

theorem takeSources_taken {k upto : Nat} {s : State} (fuel : Nat) (h : upto < (staOf k s).src) : takeSources k upto fuel s = (true, s) := by
  cases fuel with
  | zero => rw [takeSources, decide_eq_true h]
  | succ n => exact if_pos h

theorem scanOf_placed {k x : Nat} {p : Placed} {s : State} (hled : ledBar k s = false)
    (hfind : (staOf k s).placed.find? (fun q => q.has x) = some p) : scanOf k x s = (some p, s) := by
  unfold scanOf
  dsimp only
  rw [hled, hfind]
  rfl

/-- The line to be formed next, with its source lines in the line buffer and its scan placed. -/
theorem formNext_placed {k : Nat} {p : Placed} {s : State} (hrun : timSt k s = 2) (hled : ledBar k s = false)
    (hmay : mayForm k (formAt k s) s = true) (hsrc : formAt k s + reachEff k s < (staOf k s).src)
    (hfind : (staOf k s).placed.find? (fun q => q.has (formAt k s)) = some p) :
    formNext k s = (true, formLine k (formAt k s) p s) := by
  unfold formNext
  simp [hmay, takeSources_taken _ hsrc, hrun, scanOf_placed hled hfind]

theorem form_formLine (k x : Nat) (p : Placed) (s : State) : (staOf k (formLine k x p s)).form = x + 1 := by
  unfold formLine pruneLines
  simp

theorem stationLine_forms {k x : Nat} {p : Placed} {s : State} (hon : stationOn k s = true) (hrun : timSt k s = 2)
    (hled : ledBar k s = false) (hform : formAt k s = x) (hmay : mayForm k x s = true) (hsrc : x + reachEff k s < (staOf k s).src)
    (hfind : (staOf k s).placed.find? (fun p => p.has x) = some p) :
    ∃ t, exec (.stationLine k) s = .next t ∧ t = formLine k x p s ∧ (staOf k t).form = x + 1 := by
  subst hform
  have hexec : execStationLine k s = .next (formNext k s).2 := if_neg (by rw [hon, hrun]; decide)
  refine ⟨_, Eq.trans (b := execStationLine k s) rfl (hexec.trans ?_), rfl, form_formLine ..⟩
  rw [formNext_placed hrun hled hmay hsrc hfind]

/-! ### Slip while no plane is begun (R265) -/

theorem progress_noPlane {k : Nat} {s : State} (h : (staOf k s).planes = []) : progress k s = showTiming k s := by
  unfold progress
  rw [h]
  rfl

theorem imagedAt_noPlane {k t : Nat} {s : State} (h : (staOf k s).planes = []) : imagedAt k t s = none := by
  unfold imagedAt
  rw [h]
  rfl

/-- The lines that count as slip with no plane: SLIP_TOTAL takes them, and SLIP_CNT none. -/
def slipTotalled (k n : Nat) (s : State) : State :=
  if n = 0 then s
  else bumpBy (R.STIM.SLIP_CNT_FRAME (stDie k) (stLoc k)) 0
    (evt (stDie k) (stimPage (stLoc k)) 2 (bumpBy (R.STIM.SLIP_TOTAL_COUNT (stDie k) (stLoc k)) n s))

theorem slipTotalled_kept (k n : Nat) (s : State) : Touches 0x1004 s (slipTotalled k n s) :=
  touches_ite (.refl _ s) (bumpBy_touches rfl (evt_touches rfl (bumpBy_touches rfl (.refl _ s))))

theorem rd_slipTotalled_ne {k n o i w : Nat} (s : State) (ho : 0x40 ≤ o ∧ o < 0x1000) (hframe : o ≠ 0xDC) (htotal : o ≠ 0xE0) :
    rd ⟨Layout.addr (stDie k) (stimPage (stLoc k)) o, i, w⟩ (slipTotalled k n s) =
      rd ⟨Layout.addr (stDie k) (stimPage (stLoc k)) o, i, w⟩ s := by
  unfold slipTotalled
  split
  · rfl
  · exact (rd_bumpBy_ne _ _ (addr_ne_offset hframe)).trans
      ((rd_evt_block (blockWord_stim _ k ho) (stationPages_lt k).2.1).trans (rd_bumpBy_ne _ _ (addr_ne_offset htotal)))

theorem rd_bumpBy_same {l : Loc} (n : Nat) (s : State) (h : l.lsb + l.width ≤ 32) :
    rd l (bumpBy l n s) = Nat.min (rd l s + n) (2 ^ l.width - 1) := by
  have hlt : Nat.min (rd l s + n) (2 ^ l.width - 1) < 2 ^ l.width :=
    lt_of_le_of_lt (Nat.min_le_right _ _) (Nat.sub_lt (Nat.two_pow_pos _) Nat.one_pos)
  exact (rd_wr_same _ s h).trans (Nat.mod_eq_of_lt hlt)

theorem total_slipTotalled (k n : Nat) (s : State) :
    rd (R.STIM.SLIP_TOTAL_COUNT (stDie k) (stLoc k)) (slipTotalled k n s) =
      if n = 0 then rd (R.STIM.SLIP_TOTAL_COUNT (stDie k) (stLoc k)) s
      else Nat.min (rd (R.STIM.SLIP_TOTAL_COUNT (stDie k) (stLoc k)) s + n) 4294967295 := by
  unfold slipTotalled
  split
  · rfl
  · exact (rd_bumpBy_ne _ _ (addr_ne_offset (by decide))).trans
      ((rd_evt_block (blockWord_stim _ k (by decide)) (stationPages_lt k).2.1).trans (rd_bumpBy_same n s (show 0 + 32 ≤ 32 by decide)))

theorem slipCount_noPlane {k lo n : Nat} {s : State} (h : (staOf k s).planes = []) : slipCount k lo n s = (none, slipTotalled k n s) := by
  have hnone : (List.range n).filterMap (fun j => imagedAt k (lo + j) s) = [] :=
    List.filterMap_eq_nil_iff.mpr fun j _ => imagedAt_noPlane h
  unfold slipCount slipTotalled
  dsimp only
  rw [hnone]
  split
  · rfl
  · rfl

theorem slipLines_noPlane {k lo n : Nat} {s : State} (h : (staOf k s).planes = []) :
    slipLines k lo n s = showTiming k (slipTotalled k n s) := by
  have hplanes : (staOf k (slipTotalled k n s)).planes = [] := by rw [(slipTotalled_kept k n s).staOf_eq rfl, h]
  unfold slipLines
  rw [slipCount_noPlane h]
  exact progress_noPlane hplanes

/-! ### BD_MISSED (R254) -/

/-- The station's record once the scan that was due is missed. -/
def scanMissed (k : Nat) (s : State) : Station :=
  { staOf k s with
    facet := ((staOf k s).facet + 1) % facetCount k s
    beam := { (staOf k s).beam with
      missed := (staOf k s).beam.missed + 1, base := (staOf k s).beam.base + beamPeriod k s, rev := [], revBad := true, gapBad := true
      intervals := [], idxBad := true, idxNext := false, sinceIdx := (staOf k s).beam.sinceIdx.map (· + 1) } }

/-- The missed scan is counted. -/
def missCounted (k : Nat) (s : State) : State := bump (R.STIM.BD_CNT_MISSED (stDie k) (stLoc k)) (setSta k (scanMissed k s) s)

@[simp] theorem staOf_missCounted (k : Nat) (s : State) : staOf k (missCounted k s) = scanMissed k s :=
  ((bump_touches (Nat.and_self _) (.refl _ _)).staOf_eq rfl k).trans (staOf_setSta ..)

theorem rd_missCounted_of_apart {k : Nat} {l : Loc} (s : State) (h : Apart l (R.STIM.BD_CNT_MISSED (stDie k) (stLoc k))) :
    rd l (missCounted k s) = rd l s := rd_wr_of_apart h _ _

theorem timSt_missCounted (k : Nat) (s : State) : timSt k (missCounted k s) = timSt k s :=
  rd_missCounted_of_apart s (apart_page (by decide))

theorem count_missCounted (k : Nat) (s : State) : rd (R.STIM.BD_CNT_MISSED (stDie k) (stLoc k)) (missCounted k s) =
    Nat.min (rd (R.STIM.BD_CNT_MISSED (stDie k) (stLoc k)) s + 1) 65535 := rd_bump_same _ (show 16 + 16 ≤ 32 by decide)

theorem loss_missCounted (k : Nat) (s : State) :
    rd (R.STIM.BD_CFG_LOSS (stDie k) (stLoc k)) (missCounted k s) = rd (R.STIM.BD_CFG_LOSS (stDie k) (stLoc k)) s :=
  rd_missCounted_of_apart s (apart_page (by decide))

/-- The state in which the loss of beam detect is judged: in RUN the missed scan is lost. -/
def missTaken (k : Nat) (s : State) : State :=
  if timSt k (missCounted k s) = 2 then loseScan k (staOf k s).facet (missCounted k s) else missCounted k s

theorem missScan_short {k : Nat} {s : State}
    (hloss : (staOf k s).beam.missed + 1 < rd (R.STIM.BD_CFG_LOSS (stDie k) (stLoc k)) (missTaken k s)) :
    missScan k s = showTiming k (missTaken k s) := if_neg fun h => Nat.not_le.mpr hloss h.1

theorem missTaken_outside {k : Nat} {s : State} (h : timSt k s ≠ 2) : missTaken k s = missCounted k s :=
  if_neg (by rwa [timSt_missCounted])

theorem exec_bdMissed {k : Nat} {s : State} (hled : ledBar k s = false) (hon : stationOn k s = true)
    (hover : windowOver k (16 * counterC (stDie k) s) s = true) : exec (.bdMissed k) s = .next (missScan k s) :=
  Eq.trans (b := execBdMissed k s) rfl (if_neg (by rw [hled, hon, hover]; decide))

theorem bdMissed_counts {k : Nat} {s : State} (hled : ledBar k s = false) (hon : stationOn k s = true) (hhold : timSt k s = 3)
    (hover : windowOver k (16 * counterC (stDie k) s) s = true)
    (hloss : (staOf k s).beam.missed + 1 < rd (R.STIM.BD_CFG_LOSS (stDie k) (stLoc k)) s) :
    ∃ t, exec (.bdMissed k) s = .next t ∧ (staOf k t).facet = ((staOf k s).facet + 1) % facetCount k s ∧
      (staOf k t).beam.missed = (staOf k s).beam.missed + 1 ∧ (staOf k t).beam.base = (staOf k s).beam.base + beamPeriod k s ∧
      rd (R.STIM.BD_CNT_MISSED (stDie k) (stLoc k)) t = Nat.min (rd (R.STIM.BD_CNT_MISSED (stDie k) (stLoc k)) s + 1) 65535 ∧
      (staOf k t).ptr = (staOf k s).ptr := by
  have htaken : missTaken k s = missCounted k s := missTaken_outside (by omega)
  have hmiss : missScan k s = showTiming k (missCounted k s) :=
    htaken ▸ missScan_short (by rw [htaken, loss_missCounted]; exact hloss)
  refine ⟨_, (exec_bdMissed hled hon hover).trans (congrArg _ hmiss), ?_⟩
  rw [staOf_showTiming, staOf_missCounted]
  exact ⟨rfl, rfl, rfl, (rd_showTiming_stim _ (by decide) (by decide)).trans (count_missCounted k s), rfl⟩

/-- The facet tables lie beyond the pages. -/
theorem facetEntry_missCounted (k f : Nat) (s : State) :
    facetEntry k (facetBank k (missCounted k s)) f (missCounted k s) = facetEntry k (facetBank k s) f s := by
  have hbank : facetBank k (missCounted k s) = facetBank k s :=
    rd_missCounted_of_apart s (apart_stim k ⟨(stationPages_lt k).1, by decide⟩ (by decide) (by simp [stimPage]))
  have hword : ∀ a, staWin k ≤ a → word a (missCounted k s) = word a s := fun a ha => by
    refine (word_bump_ne _ ?_).trans rfl
    have := stLoc_lt k
    simp only [staWin, R.STIM.BD_CNT_MISSED, Layout.addr] at ha ⊢
    omega
  have hbytes : ∀ a n, staWin k ≤ a → wordBytes a n (missCounted k s) = wordBytes a n s := fun a n ha => by
    unfold wordBytes
    exact List.flatMap_congr fun i _ => by rw [hword _ (by omega)]
  unfold facetEntry
  rw [hbank, hbytes _ _ (by omega)]

/-- A scan lost with no plane: its lines are passed, and count as slip. -/
theorem loseScan_noPlane {k f : Nat} {s : State} (h : (staOf k s).planes = []) :
    loseScan k f s = showTiming k (slipTotalled k (facetEntry k (facetBank k s) f s).adv
      (passScan k (facetEntry k (facetBank k s) f s).adv s)) :=
  slipLines_noPlane (by unfold passScan; rw [staOf_setSta]; exact h)

theorem rd_passScan (l : Loc) (k n : Nat) (s : State) : rd l (passScan k n s) = rd l s := rd_setSta ..

/-- The missed scan of `n` lines has passed and counts as slip. -/
def missSlipped (k n : Nat) (s : State) : State := showTiming k (slipTotalled k n (passScan k n (missCounted k s)))

theorem missTaken_run {k : Nat} {s : State} (hrun : timSt k s = 2) (hplanes : (staOf k s).planes = []) :
    missTaken k s = missSlipped k (facetEntry k (facetBank k s) (staOf k s).facet s).adv s := by
  unfold missTaken
  rw [if_pos ((timSt_missCounted k s).trans hrun), loseScan_noPlane (by rw [staOf_missCounted]; exact hplanes), facetEntry_missCounted]
  rfl

theorem staOf_missSlipped (k n : Nat) (s : State) : staOf k (missSlipped k n s) =
    { scanMissed k s with ptr := (staOf k s).ptr + n, ahead := (staOf k s).ahead.drop 1 } := by
  rw [missSlipped, staOf_showTiming, (slipTotalled_kept k n _).staOf_eq rfl, passScan, staOf_setSta, staOf_missCounted]
  rfl

theorem loss_missSlipped (k n : Nat) (s : State) :
    rd (R.STIM.BD_CFG_LOSS (stDie k) (stLoc k)) (missSlipped k n s) = rd (R.STIM.BD_CFG_LOSS (stDie k) (stLoc k)) s :=
  (rd_showTiming_stim _ (by decide) (by decide)).trans
    ((rd_slipTotalled_ne _ (by decide) (by decide) (by decide)).trans ((rd_passScan ..).trans (loss_missCounted k s)))

theorem total_missSlipped (k n : Nat) (s : State) : rd (R.STIM.SLIP_TOTAL_COUNT (stDie k) (stLoc k)) (missSlipped k n s) =
    if n = 0 then rd (R.STIM.SLIP_TOTAL_COUNT (stDie k) (stLoc k)) s
    else Nat.min (rd (R.STIM.SLIP_TOTAL_COUNT (stDie k) (stLoc k)) s + n) 4294967295 := by
  have hpassed : rd (R.STIM.SLIP_TOTAL_COUNT (stDie k) (stLoc k)) (passScan k n (missCounted k s)) =
      rd (R.STIM.SLIP_TOTAL_COUNT (stDie k) (stLoc k)) s :=
    (rd_passScan ..).trans (rd_missCounted_of_apart s (apart_page (by decide)))
  rw [← hpassed]
  exact (rd_showTiming_stim _ (by decide) (by decide)).trans (total_slipTotalled k n _)

theorem bdMissed_slips {k : Nat} {s : State} (hled : ledBar k s = false) (hon : stationOn k s = true) (hrun : timSt k s = 2)
    (hplanes : (staOf k s).planes = []) (hover : windowOver k (16 * counterC (stDie k) s) s = true)
    (hloss : (staOf k s).beam.missed + 1 < rd (R.STIM.BD_CFG_LOSS (stDie k) (stLoc k)) s) :
    ∃ t, exec (.bdMissed k) s = .next t ∧ (staOf k t).beam.missed = (staOf k s).beam.missed + 1 ∧
      (staOf k t).ptr = (staOf k s).ptr + (facetEntry k (facetBank k s) (staOf k s).facet s).adv ∧
      rd (R.STIM.SLIP_TOTAL_COUNT (stDie k) (stLoc k)) t = (if (facetEntry k (facetBank k s) (staOf k s).facet s).adv = 0
        then rd (R.STIM.SLIP_TOTAL_COUNT (stDie k) (stLoc k)) s
        else Nat.min (rd (R.STIM.SLIP_TOTAL_COUNT (stDie k) (stLoc k)) s + (facetEntry k (facetBank k s) (staOf k s).facet s).adv) 4294967295) := by
  have htaken := missTaken_run hrun hplanes
  generalize (facetEntry k (facetBank k s) (staOf k s).facet s).adv = n at htaken ⊢
  have hmiss : missScan k s = showTiming k (missSlipped k n s) :=
    htaken ▸ missScan_short (by rw [htaken, loss_missSlipped]; exact hloss)
  refine ⟨_, (exec_bdMissed hled hon hover).trans (congrArg _ hmiss), ?_⟩
  rw [staOf_showTiming, staOf_missSlipped]
  exact ⟨rfl, rfl, (rd_showTiming_stim _ (by decide) (by decide)).trans (total_missSlipped k n s)⟩

end Sys2Proof.Machine
end

section
/-! PROOFS. Beam-detect and index edges, and the scans that they place (R253 to R257). -/

namespace Sys2Proof.Machine

/-! ### The first edge in ACQUIRE (R253) -/

/-- The beam's record after its first edge, at tick `t`, which is the scan of facet 0. -/
def beamBegun (k t : Nat) (s : State) : Beam :=
  { (staOf k s).beam with
    last := some t, base := t, missed := 0, intervals := [], gapBad := false, rev := [], revBad := false
    sinceIdx := (staOf k s).beam.sinceIdx.map (· + 1), idxNext := false
    scans := (staOf k s).beam.scans + 1, lastC := counterC (stDie k) s }

/-- The first edge, at tick `t`, is captured, and the facet counter goes on from facet 0. -/
def firstEdge (k t : Nat) (s : State) : State :=
  putWord (R.STIM.BD_TIME_TICKS (stDie k) (stLoc k)).addr (BitVec.ofNat 32 t)
    (wr (R.STA.FACET_STAT_FACET (stDie k) (stLoc k)) 0
      (setSta k { staOf k s with facet := (0 + 1) % facetCount k s, beam := beamBegun k t s } s))

@[simp] theorem staOf_firstEdge (k t : Nat) (s : State) :
    staOf k (firstEdge k t s) = { staOf k s with facet := (0 + 1) % facetCount k s, beam := beamBegun k t s } :=
  ((putWord_touches (msk := 4) rfl (wr_touches rfl (.refl _ _))).staOf_eq rfl k).trans (staOf_setSta ..)

theorem rd_firstEdge_stim {k t o i w : Nat} (s : State) (ho : o < 0x1000) (htime : o ≠ 0xC8) :
    rd ⟨Layout.addr (stDie k) (stimPage (stLoc k)) o, i, w⟩ (firstEdge k t s) =
      rd ⟨Layout.addr (stDie k) (stimPage (stLoc k)) o, i, w⟩ s :=
  (rd_putWord_ne _ _ (addr_ne_offset htime)).trans
    (rd_wr_ne _ _ (addr_ne (stationPages_lt k).2.1 ho (stationPages_lt k).1 (by decide) (.inr (.inl (by simp [stimPage])))))

theorem intervalsStable_nil {n : Nat} (win : Nat) (h : n ≠ 0) : intervalsStable win n [] = false := by
  unfold intervalsStable
  dsimp only
  rw [List.take_nil, List.length_nil, beq_false_of_ne h.symm]
  rfl

/-- Nothing more is judged at the first edge: no interval has ended with it. -/
theorem beamAccept_first {k t : Nat} {s : State} (hacq : timSt k s = 1) (hlast : (staOf k s).beam.last = none)
    (hstable : (staOf k s).beam.stable = false) (hidx : (staOf k s).beam.idxNext = false)
    (hcfg : rd (R.STIM.BD_CFG_STABLE (stDie k) (stLoc k)) s ≠ 0) :
    beamAccept k t s = (0, showTiming k (firstEdge k t s)) := by
  have hfollow : periodFollow k (firstEdge k t s) = firstEdge k t s := by
    unfold periodFollow
    rw [staOf_firstEdge]
    exact if_neg (by simp [beamBegun, hstable])
  have hcheck : stableCheck k (firstEdge k t s) = firstEdge k t s := by
    have hcount : rd (R.STIM.BD_CFG_STABLE (stDie k) (stLoc k)) (firstEdge k t s) = rd (R.STIM.BD_CFG_STABLE (stDie k) (stLoc k)) s :=
      rd_firstEdge_stim s (by decide) (by decide)
    unfold stableCheck
    rw [staOf_firstEdge, hcount]
    exact if_pos (by simp [beamBegun, intervalsStable_nil _ hcfg])
  have hacquired : acquired k (firstEdge k t s) = firstEdge k t s := by
    unfold acquired
    rw [staOf_firstEdge]
    exact if_pos (.inr (by rw [beamBegun, hstable]; decide))
  have hrev : ¬ (0 = facetCount k s) := Nat.ne_of_lt (Nat.succ_pos _)
  have hmain : beamAccept k t s = (0, showTiming k (acquired k (stableCheck k (periodFollow k (firstEdge k t s))))) := by
    unfold beamAccept firstEdge beamBegun
    simp [hacq, hlast, hidx, hrev]
  rw [hmain, hfollow, hcheck, hacquired]

theorem bdEdge_first {k phase : Nat} {s : State} (hled : ledBar k s = false) (hon : stationOn k s = true) (hacq : timSt k s = 1)
    (hlast : (staOf k s).beam.last = none) (hstable : (staOf k s).beam.stable = false) (hidx : (staOf k s).beam.idxNext = false)
    (hcfg : rd (R.STIM.BD_CFG_STABLE (stDie k) (stLoc k)) s ≠ 0) :
    ∃ t, exec (.bdEdge k phase) s = .next t ∧ timSt k t = 1 ∧
      word (R.STIM.BD_TIME_TICKS (stDie k) (stLoc k)).addr t = BitVec.ofNat 32 (16 * counterC (stDie k) s + phase % 16) ∧
      (staOf k t).beam.last = some (16 * counterC (stDie k) s + phase % 16) ∧ (staOf k t).beam.intervals = [] ∧
      (staOf k t).facet = 1 % facetCount k s := by
  have hexec : execBdEdge k phase s = .next (showTiming k (firstEdge k (16 * counterC (stDie k) s + phase % 16) s)) := by
    unfold execBdEdge
    rw [if_neg (by rw [hled, hon, hacq]; decide), if_pos hacq, beamAccept_first hacq hlast hstable hidx hcfg]
  refine ⟨_, Eq.trans (b := execBdEdge k phase s) rfl hexec, ?_⟩
  generalize 16 * counterC (stDie k) s + phase % 16 = t
  rw [staOf_showTiming, staOf_firstEdge, timSt_showTiming]
  refine ⟨(rd_firstEdge_stim s (by decide) (by decide)).trans hacq, ?_, rfl, rfl, by rw [Nat.zero_add]⟩
  exact (word_wr_ne _ _ (addr_ne_offset (by decide))).trans ((word_putWord_ne _ _ (addr_ne_offset (by decide))).trans (word_putWord_same _ _ _))

/-! ### An edge before its window (R254) -/

theorem missUntil_idle {k t : Nat} {s : State} (n : Nat) (h : windowOver k t s = false) : missUntil k t n s = s := by
  cases n with
  | zero => rfl
  | succ n => exact if_neg (by rw [h]; decide)

theorem stationFault_recorded {k p src : Nat} {forced : Bool} {s : State} (h : faultClass p src ≠ 2) :
    stationFault k p src forced s = recordFault (stDie k) p src forced s := if_neg h

theorem faultClass_early (k : Nat) : faultClass (stimPage (stLoc k)) 6 = 1 := by
  unfold faultClass
  rw [pageKind_stim (stLoc_lt k)]
  rfl

theorem earlyEdge_recorded (k : Nat) (s : State) : earlyEdge k s = recordFault (stDie k) (stimPage (stLoc k)) 6 false
    (bump (R.STIM.BD_CNT_EARLY (stDie k) (stLoc k))
      (setBeam k { (staOf k s).beam with revBad := true, gapBad := true, intervals := [], idxBad := true } s)) :=
  stationFault_recorded (by rw [faultClass_early]; decide)

theorem staOf_earlyEdge (k : Nat) (s : State) : staOf k (earlyEdge k s) = { staOf k s with
    beam := { (staOf k s).beam with revBad := true, gapBad := true, intervals := [], idxBad := true } } := by
  rw [earlyEdge_recorded, Touches.staOf_eq (recordFault_touches (Nat.and_self _) (bump_touches rfl (.refl _ _))) rfl, setBeam, staOf_setSta]

theorem count_earlyEdge (k : Nat) (s : State) : rd (R.STIM.BD_CNT_EARLY (stDie k) (stLoc k)) (earlyEdge k s) =
    Nat.min (rd (R.STIM.BD_CNT_EARLY (stDie k) (stLoc k)) s + 1) 65535 := by
  rw [earlyEdge_recorded]
  exact (rd_recordFault_block (blockWord_stim _ k (by decide)) (stationPages_lt k).2.1).trans (rd_bump_same _ (show 0 + 16 ≤ 32 by decide))

theorem bdEdge_early {k phase u : Nat} {s : State} (hled : ledBar k s = false) (hon : stationOn k s = true)
    (hst : timSt k s = 2 ∨ timSt k s = 3) (hlast : (staOf k s).beam.last = some u)
    (hover : windowOver k (16 * counterC (stDie k) s + phase % 16) s = false)
    (hearly : 256 * (16 * counterC (stDie k) s + phase % 16) + beamWin k s * beamPeriod k s < 256 * ((staOf k s).beam.base + beamPeriod k s)) :
    ∃ t, exec (.bdEdge k phase) s = .next t ∧
      rd (R.STIM.BD_CNT_EARLY (stDie k) (stLoc k)) t = Nat.min (rd (R.STIM.BD_CNT_EARLY (stDie k) (stLoc k)) s + 1) 65535 ∧
      (staOf k t).beam.last = some u ∧ (staOf k t).beam.revBad = true ∧ (staOf k t).placed = (staOf k s).placed ∧
      (staOf k t).facet = (staOf k s).facet := by
  have h0 : timSt k s ≠ 0 := by omega
  have h1 : timSt k s ≠ 1 := by omega
  have hexec : execBdEdge k phase s = .next (earlyEdge k s) := by
    unfold execBdEdge
    rw [if_neg (by rw [hled, hon, beq_false_of_ne h0]; decide), if_neg h1, missUntil_idle 64 hover]
    dsimp only
    rw [if_neg h0, hlast, decide_eq_true hearly]
    rfl
  refine ⟨_, Eq.trans (b := execBdEdge k phase s) rfl hexec, count_earlyEdge k s, ?_⟩
  rw [staOf_earlyEdge]
  exact ⟨hlast, rfl, rfl, rfl⟩

/-! ### A scan is placed (R256, R257) -/

/-- The next placed edge may take its tag; nothing else of the station changes. -/
theorem staOf_tagNext (k : Nat) (s : State) :
    ∃ l, staOf k (tagNext k s) = { staOf k s with placed := l } ∧ l.length = (staOf k s).placed.length := by
  unfold tagNext
  split
  · next p rest hplaced =>
    split
    · exact ⟨_, rfl, rfl⟩
    · refine ⟨{ p with tag := some ((sendTag k p s).1.getD 65536) } :: rest, ?_, by rw [hplaced]; rfl⟩
      rw [staOf_setSta, Touches.staOf_eq (sendTag_touches (Nat.and_self _) (.refl _ s)) rfl]
  · exact ⟨_, rfl, rfl⟩

theorem tagNext_idle {k : Nat} {s : State} (h : (staOf k s).placed = []) : tagNext k s = s := by
  unfold tagNext
  rw [h]

/-- The scan of facet `f` with its edge due the facet's delay after the beam-detect edge at tick `t`. -/
def scanDue (k f t : Nat) (s : State) : Placed :=
  { scanFor k f (staOf k s).ptr s with tick := t + (facetDelay k f s).toNat, bd := t, runStart := (staOf k s).runEdge }

/-- The tick that a scan's edge must keep its distance from: that of the last edge placed, or else of the last edge fallen. -/
def edgeBefore (k : Nat) (s : State) : Option Nat :=
  match (staOf k s).placed.getLast? with | some q => some q.tick | none => (staOf k s).lastEdge

/-- The station's record with the scan placed, of which `ahead` and `form` are left open. -/
def scanTaken (k f t : Nat) (ahead : List Placed) (form : Nat) (s : State) : Station :=
  { staOf k s with
    placed := (staOf k s).placed ++ [scanDue k f t s], ptr := (staOf k s).ptr + (scanFor k f (staOf k s).ptr s).adv, runEdge := false
    ahead := ahead, form := form }

theorem placeScan_places {k f t : Nat} {s : State} (hok : facetOk k s = true) (hdelay : delayInRange (facetDelay k f s) = true)
    (hroom : (staOf k s).placed.length < 8) (hfar : ∀ b, edgeBefore k s = some b → b + 32000 ≤ t + (facetDelay k f s).toNat) :
    ∃ ahead form, placeScan k f t s = tagNext k (setSta k (scanTaken k f t ahead form s) s) := by
  have hclose : (match edgeBefore k s with | some b => decide (t + (facetDelay k f s).toNat < b + 32000) | none => false) = false := by
    split
    · next b hb => exact decide_eq_false (Nat.not_lt.mpr (hfar b hb))
    · rfl
  have hplace : ¬ ((match edgeBefore k s with | some b => decide (t + (facetDelay k f s).toNat < b + 32000) | none => false) ||
      decide (8 ≤ (staOf k s).placed.length)) = true := by
    rw [hclose, decide_eq_false (Nat.not_le.mpr hroom)]
    decide
  unfold placeScan
  dsimp only
  rw [if_neg (by rw [hok]; decide), if_neg (by rw [hdelay]; decide)]
  exact ⟨_, _, if_neg hplace⟩

theorem placeScan_advances {k f t : Nat} {s : State} (hok : facetOk k s = true) (hdelay : delayInRange (facetDelay k f s) = true)
    (hroom : (staOf k s).placed.length < 8) (hfar : ∀ b, edgeBefore k s = some b → b + 32000 ≤ t + (facetDelay k f s).toNat) :
    (staOf k (placeScan k f t s)).ptr = (staOf k s).ptr + (scanFor k f (staOf k s).ptr s).adv ∧
    (staOf k (placeScan k f t s)).placed.length = (staOf k s).placed.length + 1 ∧
    (staOf k (placeScan k f t s)).runEdge = false := by
  obtain ⟨ahead, form, hplace⟩ := placeScan_places hok hdelay hroom hfar
  obtain ⟨l, htag, hlen⟩ := staOf_tagNext k (setSta k (scanTaken k f t ahead form s) s)
  rw [hplace, htag]
  rw [staOf_setSta] at hlen ⊢
  exact ⟨rfl, hlen.trans List.length_append, rfl⟩

/-! ### FID_INDEX_EDGE (R255) -/

theorem acquired_idle {k : Nat} {s : State} (h : timSt k s ≠ 1) : acquired k s = s := if_pos (.inl h)

/-- No good revolution ends with this index edge: it is the first, or an early or missed edge has come since the last. -/
theorem execFidIndexEdge_marks {k : Nat} {s : State} (hled : ledBar k s = false) (hon : stationOn k s = true)
    (hst : timSt k s = 2 ∨ timSt k s = 3) (hmode : fidMode k s = 1)
    (hidx : (staOf k s).beam.sinceIdx = none ∨ (staOf k s).beam.idxBad = true) :
    execFidIndexEdge k s = .next (setBeam k { (staOf k s).beam with idxNext := true, sinceIdx := some 0, idxBad := false } s) := by
  have h0 : timSt k s ≠ 0 := by omega
  have h1 : timSt k s ≠ 1 := by omega
  unfold execFidIndexEdge
  rw [if_neg (by rw [hled, hon, beq_false_of_ne h0, hmode]; decide)]
  dsimp only
  cases hs : (staOf k s).beam.sinceIdx with
  | none => exact congrArg _ (acquired_idle h1)
  | some m =>
    have hbad : (staOf k s).beam.idxBad = true := hidx.resolve_left (by rw [hs]; simp)
    dsimp only
    rw [if_pos hbad]
    exact congrArg _ (acquired_idle h1)

theorem fidIndexEdge_marks {k : Nat} {s : State} (hled : ledBar k s = false) (hon : stationOn k s = true)
    (hst : timSt k s = 2 ∨ timSt k s = 3) (hmode : fidMode k s = 1)
    (hidx : (staOf k s).beam.sinceIdx = none ∨ (staOf k s).beam.idxBad = true) :
    ∃ t, exec (.fidIndexEdge k) s = .next t ∧ (staOf k t).beam.idxNext = true ∧ (staOf k t).beam.sinceIdx = some 0 ∧
      (staOf k t).beam.idxBad = false ∧ (staOf k t).facet = (staOf k s).facet := by
  refine ⟨_, Eq.trans (b := execFidIndexEdge k s) rfl (execFidIndexEdge_marks hled hon hst hmode hidx), ?_⟩
  rw [setBeam, staOf_setSta]
  exact ⟨rfl, rfl, rfl, rfl⟩

end Sys2Proof.Machine
end

section
/-! PROOFS. The edges and strobes that fire lines, starts, and the resumption of a held station (R249, R256, R263, R342, R349, R352). -/

namespace Sys2Proof.Machine

/-! ### An edge of a station with no plane (R251, R256, R300) -/

theorem commitOnEdge_nonePrepared {k : Nat} {s : State} (h : NonePrepared (stDie k) s) : commitOnEdge k s = s :=
  foldl_eq_self fun i hi => if_neg fun hc => h i (List.mem_range.mp hi) hc.1

theorem formDue_formed {k upto : Nat} {s : State} (fuel : Nat) (h : upto ≤ formAt k s) : formDue k upto fuel s = s := by
  cases fuel with
  | zero => rfl
  | succ n => exact if_pos h

theorem gateReached_none {k tick : Nat} {s : State} (h : (staOf k s).gateAt = none) : gateReached k tick s = s := by
  unfold gateReached
  dsimp only
  rw [h]

theorem fixStop_running {k : Nat} {s : State} (h : (staOf k s).stopping = false) : fixStop k s = s := by
  unfold fixStop
  dsimp only
  rw [h]
  rfl

theorem stopCheck_running {k : Nat} {s : State} (h : (staOf k s).stopping = false) : stopCheck k s = s := by
  unfold stopCheck holdCheck
  rw [fixStop_running h]
  dsimp only
  rw [h]
  rfl

theorem firedLines_noPlane {k lo n : Nat} {s : State} (h : (staOf k s).planes = []) :
    firedLines k lo n s = setSta k { staOf k s with boundary := false } s := by
  unfold firedLines
  rw [h]
  dsimp only
  rw [List.filter_nil, List.foldl_nil, staOf_setSta]
  dsimp only
  rw [h]
  rfl

theorem sent_setSta (k : Nat) (r : Station) (s : State) : (setSta k r s).sent = s.sent := rfl

theorem latches_setSta (j k : Nat) (r : Station) (s : State) : latches j (setSta k r s) = latches j s := rd_setSta ..

/-- The station's record after an edge at `tick` that fires the lines `lo` to `lo + n − 1`. -/
def edgeRecord (k tick lo n : Nat) (tag : Option Nat) (s : State) : Station :=
  { staOf k s with
    lastEdge := some tick, firedTo := some (lo + n - 1), edges := (staOf k s).edges ++ [(lo, tagAcked k tag s)], boundary := false }

theorem fireEdge_noPlane {k tick lo n : Nat} {tag : Option Nat} {s : State} (hplanes : (staOf k s).planes = [])
    (hstop : (staOf k s).stopping = false) (hlatch : latches k s = 0) :
    ∃ t, fireEdge k tick lo n tag s = showTiming k t ∧ staOf k t = edgeRecord k tick lo n tag s ∧
      t.sent = .lgo k tick (rd (R.STIM.LGO_CFG_WIDTH (stDie k) (stLoc k)) s) :: s.sent := by
  have hsup : ¬ suppressed k s = true := by
    unfold suppressed
    rw [hlatch]
    simp
  unfold fireEdge
  dsimp only
  rw [if_neg hsup, firedLines_noPlane (by rw [staOf_setSta]; exact hplanes), staOf_setSta,
    progress_noPlane (by rw [staOf_setSta]; exact hplanes), stopCheck_running (by rw [staOf_showTiming, staOf_setSta]; exact hstop)]
  exact ⟨_, rfl, staOf_setSta .., rfl⟩

/-! ### LGO_EDGE (R256) -/

/-- The only placed edge falls where its lines have been formed and no gate waits. -/
theorem lgoFalls_last {k : Nat} {p : Placed} {s : State} (hplaced : (staOf k s).placed = [p]) (hrun : timSt k s = 2)
    (hform : p.lsn + p.adv ≤ formAt k s) (hgate : (staOf k s).gateAt = none) (hlatch : latches k s = 0)
    (hplanes : (staOf k s).planes = []) (hstop : (staOf k s).stopping = false) :
    lgoFalls k p s = fireEdge k p.tick p.lsn p.adv p.tag (setSta k { staOf k s with placed := [] } s) := by
  have hidle : tagNext k (fireEdge k p.tick p.lsn p.adv p.tag (setSta k { staOf k s with placed := [] } s)) =
      fireEdge k p.tick p.lsn p.adv p.tag (setSta k { staOf k s with placed := [] } s) := by
    obtain ⟨t, hfire, hrecord, -⟩ := fireEdge_noPlane (k := k) (tick := p.tick) (lo := p.lsn) (n := p.adv) (tag := p.tag)
      (s := setSta k { staOf k s with placed := [] } s) (by rw [staOf_setSta]; exact hplanes) (by rw [staOf_setSta]; exact hstop) hlatch
    rw [hfire]
    exact tagNext_idle (by rw [staOf_showTiming, hrecord, edgeRecord, staOf_setSta])
  unfold lgoFalls
  rw [formDue_formed _ hform, gateReached_none hgate]
  dsimp only
  rw [if_neg (not_not.mpr hrun), hplaced]
  exact hidle

theorem lgoEdge_falls {k : Nat} {p : Placed} {s : State} (hplaced : (staOf k s).placed = [p]) (hrun : timSt k s = 2)
    (hdue : p.tick ≤ tickNow k s) (hnone : NonePrepared (stDie k) s) (hform : p.lsn + p.adv ≤ formAt k s)
    (hgate : (staOf k s).gateAt = none) (hlatch : latches k s = 0) (hplanes : (staOf k s).planes = [])
    (hstop : (staOf k s).stopping = false) :
    ∃ t, exec (.lgoEdge k) s = .next t ∧ (staOf k t).placed = [] ∧ (staOf k t).lastEdge = some p.tick ∧
      (staOf k t).firedTo = some (p.lsn + p.adv - 1) ∧
      t.sent = .lgo k p.tick (rd (R.STIM.LGO_CFG_WIDTH (stDie k) (stLoc k)) s) :: s.sent := by
  have hexec : execLgoEdge k s = .next (lgoFalls k p s) := by
    unfold execLgoEdge
    rw [hplaced]
    dsimp only
    rw [if_neg (by omega), commitOnEdge_nonePrepared hnone]
  obtain ⟨t, hfire, hrecord, hsent⟩ := fireEdge_noPlane (k := k) (tick := p.tick) (lo := p.lsn) (n := p.adv) (tag := p.tag)
    (s := setSta k { staOf k s with placed := [] } s) (by rw [staOf_setSta]; exact hplanes) (by rw [staOf_setSta]; exact hstop) hlatch
  have hfalls := (lgoFalls_last hplaced hrun hform hgate hlatch hplanes hstop).trans hfire
  refine ⟨_, Eq.trans (b := execLgoEdge k s) rfl (hexec.trans (congrArg _ hfalls)), ?_⟩
  rw [staOf_showTiming, hrecord, edgeRecord, staOf_setSta, sent_showTiming]
  exact ⟨rfl, rfl, rfl, hsent⟩

/-! ### LED_STROBE (R263) -/

theorem formAt_filled {k : Nat} {s : State} (h : (staOf k s).ptr ≤ (staOf k s).form) : formAt k s = (staOf k s).form := if_pos h

theorem nextStrobe_only {k : Nat} {f : FoundLine} {s : State} (hfound : (staOf k s).found = [f]) (hline : (staOf k s).stopLine = none)
    (hfar : ∀ e, (staOf k s).lastEdge = some e → e + strobeMin k s ≤ f.tick) : nextStrobe k s = some (f.tick, f) := by
  have hlines : strobeLines k s = [f] := by
    unfold strobeLines
    dsimp only
    rw [hline]
    exact hfound
  unfold nextStrobe
  rw [hlines]
  cases he : (staOf k s).lastEdge with
  | none => rfl
  | some e => simp [Nat.max_eq_left (hfar e he)]

/-- The bar is about to fire the only line found: the resume position is that line's. -/
def strobeReady (k : Nat) (f : FoundLine) (s : State) : State :=
  showTiming k (setSta k { staOf k s with found := [f], holdAcc := f.acc, holdCount := f.count } s)

@[simp] theorem staOf_strobeReady (k : Nat) (f : FoundLine) (s : State) :
    staOf k (strobeReady k f s) = { staOf k s with found := [f], holdAcc := f.acc, holdCount := f.count } :=
  (staOf_showTiming ..).trans (staOf_setSta ..)

theorem timSt_strobeReady (k : Nat) (f : FoundLine) (s : State) : timSt k (strobeReady k f s) = timSt k s := timSt_showTiming ..

theorem sent_strobeReady (k : Nat) (f : FoundLine) (s : State) : (strobeReady k f s).sent = s.sent := sent_showTiming ..

theorem width_strobeReady (k : Nat) (f : FoundLine) (s : State) :
    rd (R.STIM.LGO_CFG_WIDTH (stDie k) (stLoc k)) (strobeReady k f s) = rd (R.STIM.LGO_CFG_WIDTH (stDie k) (stLoc k)) s :=
  (rd_showTiming_stim _ (by decide) (by decide)).trans (rd_setSta ..)

/-- The strobe of the only line found falls where the line has been formed, its tag is sent and no gate waits. -/
theorem strobeFalls_only {k tick : Nat} {f : FoundLine} {tag : Option Nat} {s : State} (hrun : timSt k s = 2) (hfound : (staOf k s).found = [f])
    (htag : (staOf k s).strobeTag = some (f.lsn, tag)) (hform : f.lsn < (staOf k s).form) (hptr : (staOf k s).ptr ≤ (staOf k s).form)
    (hgate : (staOf k s).gateAt = none) (hplanes : (staOf k s).planes = []) :
    strobeFalls k tick f s = fireEdge k tick f.lsn 1 tag
      (setSta k { staOf k (strobeReady k f s) with found := [], strobeTag := none } (strobeReady k f s)) := by
  have hslip : slipLines k 0 0 (setSta k { staOf k s with found := [f], holdAcc := f.acc, holdCount := f.count } s) = strobeReady k f s :=
    slipLines_noPlane (by rw [staOf_setSta]; exact hplanes)
  dsimp only at hslip
  have hready : timSt k (strobeReady k f s) = 2 := (timSt_strobeReady k f s).trans hrun
  have hsend : strobeTagSend k f (strobeReady k f s) = strobeReady k f s := by
    unfold strobeTagSend
    dsimp only
    rw [staOf_strobeReady, htag]
    exact if_pos rfl
  have hformed : formDue k (f.lsn + 1) 16 (strobeReady k f s) = strobeReady k f s :=
    formDue_formed _ (by rw [formAt_filled (by rw [staOf_strobeReady]; exact hptr), staOf_strobeReady]; exact hform)
  have hgated : gateReached k tick (strobeReady k f s) = strobeReady k f s :=
    gateReached_none (by rw [staOf_strobeReady]; exact hgate)
  unfold strobeFalls
  dsimp only
  rw [hfound, List.filter_cons_of_neg (by simp), List.filter_nil, List.filter_cons_of_pos (by simp), List.filter_nil]
  rw [List.map_nil, List.headD_nil, List.length_nil]
  rw [hslip, if_neg (not_not.mpr hready), hsend, hformed, hgated, if_neg (not_not.mpr hready), staOf_strobeReady]
  dsimp only
  rw [htag]
  rfl

theorem ledStrobe_falls {k : Nat} {f : FoundLine} {s : State} (hled : ledBar k s = true) (hrun : timSt k s = 2)
    (hfound : (staOf k s).found = [f]) (hstop : (staOf k s).stopping = false) (hline : (staOf k s).stopLine = none)
    (hnone : NonePrepared (stDie k) s) (hfar : ∀ e, (staOf k s).lastEdge = some e → e + strobeMin k s ≤ f.tick)
    (hdue : f.tick ≤ tickNow k s) (htag : (staOf k s).strobeTag = some (f.lsn, none)) (hform : f.lsn < (staOf k s).form)
    (hptr : (staOf k s).ptr ≤ (staOf k s).form) (hgate : (staOf k s).gateAt = none) (hlatch : latches k s = 0)
    (hplanes : (staOf k s).planes = []) :
    ∃ t, exec (.ledStrobe k) s = .next t ∧ (staOf k t).found = [] ∧ (staOf k t).lastEdge = some f.tick ∧
      (staOf k t).firedTo = some f.lsn ∧ (staOf k t).holdAcc = f.acc ∧ (staOf k t).holdCount = f.count ∧
      t.sent = .lgo k f.tick (rd (R.STIM.LGO_CFG_WIDTH (stDie k) (stLoc k)) s) :: s.sent := by
  have hexec : execLedStrobe k s = .next (strobeFalls k f.tick f s) := by
    unfold execLedStrobe
    rw [if_neg (by rw [hled, hrun]; decide), fixStop_running hstop]
    dsimp only
    rw [nextStrobe_only hfound hline hfar]
    dsimp only
    rw [if_neg (Nat.not_lt.mpr hdue), commitOnEdge_nonePrepared hnone]
  obtain ⟨t, hfire, hrecord, hsent⟩ := fireEdge_noPlane (k := k) (tick := f.tick) (lo := f.lsn) (n := 1) (tag := none)
    (s := setSta k { staOf k (strobeReady k f s) with found := [], strobeTag := none } (strobeReady k f s))
    (by rw [staOf_setSta, staOf_strobeReady]; exact hplanes) (by rw [staOf_setSta, staOf_strobeReady]; exact hstop)
    ((latches_setSta ..).trans ((latches_showTiming ..).trans ((latches_setSta ..).trans hlatch)))
  have hfalls := (strobeFalls_only hrun hfound htag hform hptr hgate hplanes).trans hfire
  refine ⟨_, Eq.trans (b := execLedStrobe k s) rfl (hexec.trans (congrArg _ hfalls)), ?_⟩
  rw [staOf_showTiming, hrecord, edgeRecord, staOf_setSta, staOf_strobeReady, sent_showTiming, hsent, rd_setSta,
    width_strobeReady, sent_setSta, sent_strobeReady]
  exact ⟨rfl, rfl, rfl, rfl, rfl, rfl⟩

/-! ### START_EVENT (R342) -/

@[simp] theorem startListOf_setStartList (k : Nat) (l : List StartEntry) (s : State) : startListOf k (setStartList k l s) = l :=
  mapGet_set_same _ _ _ _

theorem staOf_setStartList (j k : Nat) (l : List StartEntry) (s : State) : staOf j (setStartList k l s) = staOf j s :=
  (setStartList_touches (Nat.and_self _) (.refl _ s)).staOf_eq rfl j

/-- Beside the list itself only START_PENDING, a register of CUE, changes. -/
theorem rd_setStartList {k d p o i w : Nat} {l : List StartEntry} (s : State) (hp : p < 256 ∧ o < 0x1000) (hcue : p ≠ 0x60) :
    rd ⟨Layout.addr d p o, i, w⟩ (setStartList k l s) = rd ⟨Layout.addr d p o, i, w⟩ s := by
  have hpending : 0x210 + 0x20 * stLoc k < 0x1000 := by have := stLoc_lt k; omega
  exact rd_wr_of_apart (apart_pages hp ⟨by decide, hpending⟩ hcue) _ _

theorem watchStart_empty {k : Nat} {s : State} (h : startListOf k s = []) : watchStart k s = s := by
  unfold watchStart
  rw [h]

theorem cffSend_unrouted {k i xs offs c : Nat} {s : State} (h : flag (R.LOOP.CFF_ROUTE_EN (stDie k) (stLoc k)) s = false) :
    cffSend k i xs offs c s = s := if_neg (by simp [h])

theorem startEvent_waits {k u : Nat} {e : StartEntry} {s : State} (hlist : startListOf k s = [e]) (he : e.due = some u)
    (hdue : u ≤ counterC (stDie k) s) (hheld : startsHeld k s = false) (hrun : timSt k s = 2)
    (hroute : flag (R.LOOP.CFF_ROUTE_EN (stDie k) (stLoc k)) s = false) (hstart : (staOf k s).start = none) :
    ∃ t, exec (.startEvent k) s = .next t ∧ (staOf k t).start = some { e with met := latches k s } ∧ startListOf k t = [] := by
  have hwatch : watchStart k (setStartList k [] s) = setStartList k [] s := watchStart_empty (startListOf_setStartList ..)
  have hloc : 0x90 + 4 * stLoc k < 0x1000 := by have := stLoc_lt k; omega
  have hcff : ∀ i xs offs c, cffSend k i xs offs c (setStartList k [] s) = setStartList k [] s := fun _ _ _ _ =>
    cffSend_unrouted ((congrArg (· != 0) (rd_setStartList s ⟨by decide, hloc⟩ (by decide))).trans hroute)
  have hrun' : timSt k (setStartList k [] s) = 2 :=
    (rd_setStartList s ⟨(stationPages_lt k).2.1, by decide⟩ (by unfold stimPage; omega)).trans hrun
  have hlatch : latches k (setStartList k [] s) = latches k s :=
    rd_setStartList s ⟨(stationPages_lt k).2.2, by decide⟩ (by omega)
  have hexec : execStartEvent k s =
      .next (setSta k { staOf k s with start := some { e with met := latches k s } } (setStartList k [] s)) := by
    unfold execStartEvent
    rw [hlist]
    dsimp only
    rw [he, hheld]
    dsimp only
    rw [if_neg (by rw [decide_eq_true hdue]; decide), hwatch, if_neg (not_not.mpr hrun'), hcff, staOf_setStartList, hstart, hlatch]
    rfl
  refine ⟨_, Eq.trans (b := execStartEvent k s) rfl hexec, by rw [staOf_setSta], startListOf_setStartList k [] s⟩

/-! ### RESUME_EVENT (R252, R352) -/

/-- What a head link sends leaves the registers of every other page. -/
theorem rd_headSendNow {l : Loc} (k : Nat) (p : HeadPkt) (s : State)
    (h : ∀ o < 0x1000, l.addr ≠ Layout.addr (stDie k) (shlPage (stLoc k)) o) : rd l (headSendNow k p s) = rd l s :=
  (rd_wr_ne _ _ (h 0x4C (by decide))).trans ((rd_wr_ne _ _ (h 0x4C (by decide))).trans ((rd_wr_ne _ _ (h 0x48 (by decide))).trans
    ((setHead_touches (msk := 0x18000000000000001000) rfl (headOut_touches rfl (.refl _ s))).rd_eq rfl l)))

theorem rd_headPumpFrom {l : Loc} (k : Nat) (ps : List HeadPkt) (lb cb : Bool) (s : State)
    (h : ∀ o < 0x1000, l.addr ≠ Layout.addr (stDie k) (shlPage (stLoc k)) o) : rd l (headPumpFrom k ps lb cb s) = rd l s := by
  induction ps generalizing lb cb s with
  | nil => rfl
  | cons p t ih => rw [headPumpFrom, apply_ite (rd l), ih, ih, rd_headSendNow k p s h, rd_setHead, ite_self]

theorem rd_sendLintab {l : Loc} (k : Nat) (s : State)
    (h : ∀ o < 0x1000, l.addr ≠ Layout.addr (stDie k) (shlPage (stLoc k)) o) : rd l (sendLintab k s) = rd l s := by
  unfold sendLintab
  split
  · rfl
  · dsimp only
    rw [headSend, headPump, rd_headPumpFrom k _ _ _ _ h, rd_setHead, rd_setHead]
    exact rd_wr_ne _ _ (h 0x58 (by decide))

theorem timSt_enterRun (k : Nat) (s : State) : timSt k (enterRun k s) = 2 := by
  have hshl : ∀ o < 0x1000, (R.STIM.TSTAT_STATE (stDie k) (stLoc k)).addr ≠ Layout.addr (stDie k) (shlPage (stLoc k)) o := fun o ho =>
    addr_ne (stationPages_lt k).2.1 (by decide) (shlPage_bounds k).2 ho (.inr (.inl (by simp [shlPage])))
  exact (rd_sendLintab k _ hshl).trans
    ((rd_evt_block (blockWord_stim _ k (by decide)) (stationPages_lt k).2.1).trans (rd_wr_same _ _ (show 0 + 2 ≤ 32 by decide)))

theorem staOf_enterRun (k : Nat) (s : State) : staOf k (enterRun k s) = { staOf k s with runEdge := true } :=
  (Touches.staOf_eq (sendLintab_touches (Nat.and_self _) (evt_touches rfl (wr_touches rfl (.refl _ _)))) rfl k).trans (staOf_setSta ..)

theorem timSt_releaseHold {k : Nat} {s : State} (h : timSt k s = 3) : timSt k (releaseHold k s) = 2 := by
  unfold releaseHold
  rw [if_pos h]
  exact timSt_enterRun ..

/-- The station's record once its resume event has come. -/
def holdReleased (k : Nat) (s : State) : Station :=
  { staOf k s with stopping := false, stopLine := none, resWanted := false, resDue := none, runEdge := true }

theorem staOf_releaseHold {k : Nat} {s : State} (h : timSt k s = 3) : staOf k (releaseHold k s) = holdReleased k s := by
  unfold releaseHold
  rw [if_pos h]
  dsimp only
  rw [staOf_enterRun]
  split
  · rw [Touches.staOf_eq (wr_touches (Nat.and_self _) (.refl _ _)) rfl, staOf_setSta]
    rfl
  · rw [staOf_setSta]
    rfl

/-- A run-up that ends changes registers of CUE only, and events. -/
theorem rd_pathRunup {l : Loc} {p : Nat} (s : State) (hp : p < 4) (hl : BlockWord l.addr) (hcue : ∀ o < 0x1000, l.addr ≠ Layout.addr 0 0x60 o) :
    rd l (pathRunup p s) = rd l s := by
  have hrun : rd l (pathRun p s) = rd l s := by
    have hstate : ∀ st s, rd l (setPathState p st s) = rd l s := fun st s => rd_wr_ne st s (hcue (0x314 + 0x40 * p) (by omega))
    have hen : ∀ s, rd l (wr (R.CUE.PATH_CFG_EN 0 p) 0 s) = rd l s := fun s => rd_wr_ne 0 s (hcue (0x300 + 0x40 * p) (by omega))
    unfold pathRun
    dsimp only
    split
    · exact (hstate 0 _).trans ((hen _).trans (hstate 1 s))
    · exact hstate 1 s
  unfold pathRunup
  split
  · exact (rd_evt_block hl (by decide)).trans hrun
  · rfl

theorem resumeEvent_resumes {k : Nat} {s : State} (hhold : timSt k s = 3) (hpath : onPath k s = true)
    (hst : pathState (pathOf k s) s = 6) (hp : pathOf k s < 4) (hdue : ∃ u, (staOf k s).resDue = some u ∧ u ≤ counterC (stDie k) s)
    (hsettled : cruiseSettled (pathOf k s) s = true) :
    ∃ t, exec (.resumeEvent k) s = .next t ∧ timSt k t = 2 ∧ (staOf k t).stopping = false ∧ (staOf k t).stopLine = none ∧
      (staOf k t).runEdge = true := by
  obtain ⟨u, hu, hle⟩ := hdue
  have hcome : resumeDue k s = true := by
    unfold resumeDue
    rw [hu]
    exact decide_eq_true hle
  have hexec : execResumeEvent k s = .next (pathRunup (pathOf k s) (showTiming k (releaseHold k s))) := by
    unfold execResumeEvent
    rw [if_neg (by rw [hhold, hpath, hst, hcome]; decide)]
    dsimp only
    rw [if_pos hsettled]
  have hcue : ∀ o < 0x1000, (R.STIM.TSTAT_STATE (stDie k) (stLoc k)).addr ≠ Layout.addr 0 0x60 o := fun o ho =>
    addr_ne (stationPages_lt k).2.1 (by decide) (by decide) ho (.inr (.inl (by omega)))
  have htim : timSt k (pathRunup (pathOf k s) (showTiming k (releaseHold k s))) = 2 :=
    (rd_pathRunup _ hp (blockWord_stim _ k (by decide)) hcue).trans ((timSt_showTiming ..).trans (timSt_releaseHold hhold))
  refine ⟨_, Eq.trans (b := execResumeEvent k s) rfl hexec, htim, ?_⟩
  rw [Touches.staOf_eq (pathRunup_touches (Nat.and_self _) (.refl _ _)) rfl, staOf_showTiming, staOf_releaseHold hhold]
  exact ⟨rfl, rfl, rfl⟩

/-- Settles O26: each command's next state for a station with the records it meets, and then the reads of it. -/
theorem stationTimingCommandsAct : Obligations.StationTimingCommandsAct := by
  unfold Obligations.StationTimingCommandsAct
  refine ⟨?_, ?_, ?_, ?_, ?_, ?_, ?_, ?_, ?_, ?_, ?_⟩
  · exact fun k x p s => stationLine_forms
  · exact fun k phase s => bdEdge_first
  · exact fun k phase u s => bdEdge_early
  · exact fun k f t0 s hok hdelay hroom hfar _ => placeScan_advances hok hdelay hroom hfar
  · exact fun k s => bdMissed_counts
  · exact fun k s => bdMissed_slips
  · exact fun k s => fidIndexEdge_marks
  · exact fun k p s => lgoEdge_falls
  · exact fun k f s => ledStrobe_falls
  · exact fun k u e s => startEvent_waits
  · exact fun k s _ => resumeEvent_resumes

end Sys2Proof.Machine
end

section
/-! PROOFS. The line generator of an LED bar: reverse steps of its counter, and the lines that they leave owed (R261, R262). -/

namespace Sys2Proof.Machine

/-! ### What a step reads once its interval shows in BD_PERIOD -/

theorem staOf_wr (k : Nat) (l : Loc) (v : Nat) (s : State) : staOf k (wr l v s) = staOf k s := staOf_congr k rfl

theorem rd_lgAcc_wr_period (d l v : Nat) (s : State) :
    rd (R.STIM.LG_ACC_A d l) (wr (R.STIM.BD_PERIOD_TICKS d l) v s) = rd (R.STIM.LG_ACC_A d l) s :=
  rd_wr_ne v s (addr_ne_offset (by decide))

theorem rd_lgNum_wr_period (d l v : Nat) (s : State) :
    rd (R.STIM.LG_NUM_NUM d l) (wr (R.STIM.BD_PERIOD_TICKS d l) v s) = rd (R.STIM.LG_NUM_NUM d l) s :=
  rd_wr_ne v s (addr_ne_offset (by decide))

theorem rd_lgDen_wr_period (d l v : Nat) (s : State) :
    rd (R.STIM.LG_DEN_DEN d l) (wr (R.STIM.BD_PERIOD_TICKS d l) v s) = rd (R.STIM.LG_DEN_DEN d l) s :=
  rd_wr_ne v s (addr_ne_offset (by decide))

theorem flag_lgReverse_wr_period (d l v : Nat) (s : State) :
    flag (R.STIM.LG_CFG_REVERSE d l) (wr (R.STIM.BD_PERIOD_TICKS d l) v s) = flag (R.STIM.LG_CFG_REVERSE d l) s :=
  congrArg (· != 0) (rd_wr_ne v s (addr_ne_offset (by decide)))

/-- The accumulator holds every value below a value of LG_DEN, which has its width. -/
theorem rd_lgAcc_wr_same {d l a : Nat} (s t : State) (h : a < rd (R.STIM.LG_DEN_DEN d l) s) :
    rd (R.STIM.LG_ACC_A d l) (wr (R.STIM.LG_ACC_A d l) a t) = a :=
  (rd_wr_same a t (show 0 + 24 ≤ 32 by decide)).trans (Nat.mod_eq_of_lt (h.trans (rd_lt _ s)))

/-! ### Steps of the generator -/

section
variable {k t count interval : Nat} {up : Bool} {s : State} (hled : ledBar k s = true) (hrun : timSt k s = 2)
include hled hrun

/-- A reverse step takes NUM from the accumulator; below 0 it borrows DEN, and a line is owed. -/
theorem lineStep_reverse (hup : up = flag (R.STIM.LG_CFG_REVERSE (stDie k) (stLoc k)) s) :
    lineStep k up t count interval s =
      let d := stDie k
      let l := stLoc k
      let s0 := wr (R.STIM.BD_PERIOD_TICKS d l) (16 * interval) s
      let a := rd (R.STIM.LG_ACC_A d l) s
      let num := rd (R.STIM.LG_NUM_NUM d l) s
      if a < num then
        wr (R.STIM.LG_ACC_A d l) (a + rd (R.STIM.LG_DEN_DEN d l) s - num)
          (setSta k { staOf k s with owed := (staOf k s).owed + 1 } s0)
      else wr (R.STIM.LG_ACC_A d l) (a - num) s0 := by
  unfold lineStep
  rw [if_neg (by simp [hled, hrun])]
  simp only [rd_lgAcc_wr_period, rd_lgNum_wr_period, rd_lgDen_wr_period, flag_lgReverse_wr_period, staOf_wr]
  rw [if_pos (beq_iff_eq.2 hup)]

/-- A boundary found by a forward step while lines are owed moves the accumulator and pays one line off, and does no more. -/
theorem lineStep_paysOff (hup : up ≠ flag (R.STIM.LG_CFG_REVERSE (stDie k) (stLoc k)) s) (howed : 0 < (staOf k s).owed)
    (hfound : rd (R.STIM.LG_DEN_DEN (stDie k) (stLoc k)) s ≤
      rd (R.STIM.LG_ACC_A (stDie k) (stLoc k)) s + rd (R.STIM.LG_NUM_NUM (stDie k) (stLoc k)) s) :
    lineStep k up t count interval s =
      let d := stDie k
      let l := stLoc k
      setSta k { staOf k s with owed := (staOf k s).owed - 1 }
        (wr (R.STIM.LG_ACC_A d l)
          (rd (R.STIM.LG_ACC_A d l) s + rd (R.STIM.LG_NUM_NUM d l) s - rd (R.STIM.LG_DEN_DEN d l) s)
          (wr (R.STIM.BD_PERIOD_TICKS d l) (16 * interval) s)) := by
  unfold lineStep
  rw [if_neg (by simp [hled, hrun])]
  simp only [rd_lgAcc_wr_period, rd_lgNum_wr_period, rd_lgDen_wr_period, flag_lgReverse_wr_period, staOf_wr]
  rw [if_neg (mt beq_iff_eq.1 hup), if_neg (Nat.not_lt.2 hfound), if_pos howed]

end

/-- Settles O5: a reverse step with a borrow and one without, and the boundary that pays a line off. -/
theorem reverseStepsOweLines : Obligations.ReverseStepsOweLines := by
  unfold Obligations.ReverseStepsOweLines
  refine ⟨fun k t count interval up s hled hrun hup hacc hnum => ?_,
    fun k t count interval up s hled hrun hup howed hfound => ?_⟩
  · rw [lineStep_reverse hled hrun hup]
    dsimp only
    split
    · rw [staOf_wr, staOf_setSta]
      exact ⟨rd_lgAcc_wr_same s _ (by omega), rfl, rfl, rfl⟩
    · rw [staOf_wr, staOf_wr]
      exact ⟨rd_lgAcc_wr_same s _ (by omega), rfl, rfl, rfl⟩
  · rw [lineStep_paysOff hled hrun hup howed hfound, staOf_setSta]
    exact ⟨Nat.sub_add_cancel howed, rfl, rfl⟩

end Sys2Proof.Machine
end

section
/-! PROOFS. What a head link sends, holds back and gives up, and the fence of a station (R272, R277 to R279, R290, R492). -/

namespace Sys2Proof.Machine

/-! ### Registers of the SHL page -/

theorem blockWord_shl (d k : Nat) {o : Nat} (ho : 0x40 ≤ o ∧ o < 0x1000) : BlockWord (Layout.addr d (shlPage (stLoc k)) o) :=
  blockWord_addr (shlPage_bounds k).2 ho.2 (.inr (by have := shlPage_bounds k; omega))

theorem rd_evt_shl {d e k o i w b : Nat} (ho : 0x40 ≤ o ∧ o < 0x1000) (s : State) :
    rd ⟨Layout.addr d (shlPage (stLoc k)) o, i, w⟩ (evt e (shlPage (stLoc k)) b s) =
      rd ⟨Layout.addr d (shlPage (stLoc k)) o, i, w⟩ s :=
  rd_evt_block (blockWord_shl d k ho) (shlPage_bounds k).2

theorem word_showCredits {k o : Nat} (s : State) (hC : o ≠ 0x4C) :
    word (Layout.addr (stDie k) (shlPage (stLoc k)) o) (showCredits k s) = word (Layout.addr (stDie k) (shlPage (stLoc k)) o) s :=
  (word_wr_ne _ _ (addr_ne_offset hC)).trans (word_wr_ne _ _ (addr_ne_offset hC))

/-- Two fields of one page, the one read as the other is written. -/
theorem rd_wr_page {d p o o' i j v w : Nat} (h : o ≠ o' ∨ j + w ≤ 32 ∧ (i + v ≤ j ∨ j + w ≤ i)) (x : Nat) (s : State) :
    rd ⟨Layout.addr d p o, i, v⟩ (wr ⟨Layout.addr d p o', j, w⟩ x s) = rd ⟨Layout.addr d p o, i, v⟩ s :=
  rd_wr_of_apart (apart_page h) x s

/-- Fields of one word read the same where the word does. -/
theorem rd_of_word {a i w : Nat} {s t : State} (h : word a t = word a s) : rd ⟨a, i, w⟩ t = rd ⟨a, i, w⟩ s :=
  congrArg (fun x : Word => bitsOf x.toNat i w) h

/-! ### The record of a head link -/

theorem Touches.headOf_eq {m : Nat} {z s : State} (h : Touches m z s) (hm : m.testBit 75 = false) (k : Nat) :
    headOf k s = headOf k z := headOf_congr k (h.headLinks hm)

theorem headOf_wr (j : Nat) (l : Loc) (v : Nat) (s : State) : headOf j (wr l v s) = headOf j s := headOf_congr j rfl

theorem headOf_bump (j : Nat) (l : Loc) (s : State) : headOf j (bump l s) = headOf j s := headOf_congr j rfl

theorem headOf_showCredits (j k : Nat) (s : State) : headOf j (showCredits k s) = headOf j s :=
  Touches.headOf_eq (showCredits_touches (Nat.and_self _) (.refl _ s)) rfl j

theorem headOf_evt (j d p b : Nat) (s : State) : headOf j (evt d p b s) = headOf j s :=
  (evt_kept d p b s).headOf_eq rfl j

/-! ### Packets on their way (R272, R277) -/

/-- A packet goes into what has been sent, and into the stream of a bond. -/
theorem headOut_eq (k psn : Nat) (p : HeadPkt) (s : State) :
    headOut k psn p s = { s with sent := .head k psn p :: s.sent, bonds := (headOut k psn p s).bonds } := by
  unfold headOut streamPacket
  dsimp only
  split
  · rfl
  · rfl

theorem sent_headOut (k psn : Nat) (p : HeadPkt) (s : State) : (headOut k psn p s).sent = .head k psn p :: s.sent :=
  congrArg State.sent (headOut_eq k psn p s)

theorem headOf_headOut (j k psn : Nat) (p : HeadPkt) (s : State) : headOf j (headOut k psn p s) = headOf j s :=
  Touches.headOf_eq (headOut_touches (Nat.and_self _) (.refl _ s)) rfl j

/-- Packets go out in the order in which they are held. -/
theorem sent_foldl_headOut (k : Nat) (l : List (Nat × HeadPkt)) (s : State) :
    (l.foldl (fun s x => headOut k x.1 x.2 s) s).sent = (l.map (fun x => Sent.head k x.1 x.2)).reverse ++ s.sent := by
  induction l generalizing s with
  | nil => rfl
  | cons x l ih => rw [List.foldl_cons, ih, sent_headOut, List.map_cons, List.reverse_cons, List.append_assoc]; rfl

theorem sent_resend (k : Nat) (l : List (Nat × HeadPkt)) (s : State) :
    (resend k l s).sent = (l.map (fun x => Sent.head k x.1 x.2)).reverse ++ s.sent := by
  unfold resend
  split
  · next h => rw [List.isEmpty_iff.mp h]; rfl
  · exact (congrArg State.sent (bump_eq _ _)).trans (sent_foldl_headOut k l s)

theorem headOf_resend (j k : Nat) (l : List (Nat × HeadPkt)) (s : State) : headOf j (resend k l s) = headOf j s :=
  Touches.headOf_eq (resend_touches (Nat.and_self _) (.refl _ s)) rfl j

/-- Sending again counts in RPL_CNT.REPLAYS, and changes no other field. -/
theorem rd_resend {k : Nat} {m : Loc} (l : List (Nat × HeadPkt)) (s : State)
    (h : Apart m (R.SHL.RPL_CNT_REPLAYS (stDie k) (stLoc k))) : rd m (resend k l s) = rd m s := by
  have hsent : Touches 0x10000000000000001000 s (l.foldl (fun s x => headOut k x.1 x.2 s) s) :=
    foldl_touches (fun _ _ ht => headOut_touches (Nat.and_self _) ht) (.refl _ s)
  unfold resend
  split
  · rfl
  · exact (rd_bump_of_apart h _).trans (hsent.rd_eq rfl m)

/-! ### Packets that wait (R278, R279) -/

/-- Only the records of head links may differ. -/
def HeadLinksOnly (s t : State) : Prop := ∃ l, t = { s with headLinks := l }

theorem HeadLinksOnly.sent {s t : State} (h : HeadLinksOnly s t) : t.sent = s.sent := by
  obtain ⟨l, rfl⟩ := h
  rfl

theorem HeadLinksOnly.rd {s t : State} (h : HeadLinksOnly s t) (l : Loc) : rd l t = rd l s := by
  obtain ⟨x, rfl⟩ := h
  rfl

/-- Where no session is open, or nothing waits, the packets go on waiting: beside `opening` no more than the list changes. -/
theorem headPumpFrom_holds {k : Nat} {ps : List HeadPkt} {lb cb : Bool} {s : State} (h : ps ≠ [] → sessionOpen k s = false) :
    HeadLinksOnly s (headPumpFrom k ps lb cb s) ∧
      ∃ o, headOf k (headPumpFrom k ps lb cb s) = { headOf k s with waiting := (headOf k s).waiting ++ ps, opening := o } := by
  induction ps generalizing lb cb s with
  | nil => exact ⟨⟨_, rfl⟩, _, (headOf_setHead ..).trans (by rw [List.append_nil])⟩
  | cons p ps ih =>
    have hclosed : sessionOpen k s = false := h (List.cons_ne_nil _ _)
    rw [headPumpFrom, hclosed]
    obtain ⟨⟨l, hstate⟩, o, hhead⟩ := ih (lb := lb || p.pool == 1) (cb := cb || p.pool == 2)
      (s := setHead k { headOf k s with waiting := (headOf k s).waiting ++ [p] } s) (fun _ => hclosed)
    refine ⟨⟨l, hstate⟩, o, hhead.trans ?_⟩
    rw [headOf_setHead, List.append_assoc]
    rfl

theorem headPump_holds {k : Nat} {s : State} (h : (headOf k s).waiting ≠ [] → sessionOpen k s = false) :
    HeadLinksOnly s (headPump k s) ∧ ∃ o, headOf k (headPump k s) = { headOf k s with opening := o } := by
  obtain ⟨⟨l, hstate⟩, o, hhead⟩ := headPumpFrom_holds (lb := false) (cb := false) (s := setHead k { headOf k s with waiting := [] } s) h
  refine ⟨⟨l, hstate⟩, o, hhead.trans ?_⟩
  rw [headOf_setHead]
  rfl

/-- Without a session packets handed to the link wait behind those that wait already. -/
theorem headSend_waits {k : Nat} {ps : List HeadPkt} {s : State} (h : sessionOpen k s = false) :
    HeadLinksOnly s (headSend k ps s) ∧ (headOf k (headSend k ps s)).waiting = (headOf k s).waiting ++ ps := by
  obtain ⟨⟨l, hstate⟩, o, hhead⟩ := headPump_holds (k := k)
    (s := setHead k { headOf k s with waiting := (headOf k s).waiting ++ ps } s) (fun _ => h)
  exact ⟨⟨l, hstate⟩, (congrArg HeadLink.waiting hhead).trans (congrArg HeadLink.waiting (headOf_setHead ..))⟩

/-! ### What sending leaves of the trim set kept, and of the registers -/

theorem trim_headSendNow (k : Nat) (p : HeadPkt) (s : State) : (headOf k (headSendNow k p s)).trim = (headOf k s).trim := by
  unfold headSendNow
  rw [headOf_showCredits, headOf_wr, headOf_setHead]

theorem trim_headPumpFrom (k : Nat) (ps : List HeadPkt) (lb cb : Bool) (s : State) :
    (headOf k (headPumpFrom k ps lb cb s)).trim = (headOf k s).trim := by
  induction ps generalizing lb cb s with
  | nil => rw [headPumpFrom, headOf_setHead]
  | cons p ps ih =>
    rw [headPumpFrom]
    refine (apply_ite (fun u => (headOf k u).trim) _ _ _).trans ?_
    rw [ih, ih, trim_headSendNow, headOf_setHead, ite_self]

theorem trim_headSend (k : Nat) (ps : List HeadPkt) (s : State) : (headOf k (headSend k ps s)).trim = (headOf k s).trim := by
  rw [headSend, headPump, trim_headPumpFrom, headOf_setHead, headOf_setHead]

section
variable {k o : Nat} (h8 : o ≠ 0x48) (hC : o ≠ 0x4C)
include h8 hC

theorem word_headSend (ps : List HeadPkt) (s : State) :
    word (Layout.addr (stDie k) (shlPage (stLoc k)) o) (headSend k ps s) = word (Layout.addr (stDie k) (shlPage (stLoc k)) o) s :=
  word_headPumpFrom k _ _ _ _ h8 hC

theorem word_sendLintab (s : State) (h58 : o ≠ 0x58) :
    word (Layout.addr (stDie k) (shlPage (stLoc k)) o) (sendLintab k s) = word (Layout.addr (stDie k) (shlPage (stLoc k)) o) s := by
  unfold sendLintab
  split
  · rfl
  · exact (word_headSend h8 hC _ _).trans (word_wr_ne _ _ (addr_ne_offset h58))

theorem word_tagNext (s : State) :
    word (Layout.addr (stDie k) (shlPage (stLoc k)) o) (tagNext k s) = word (Layout.addr (stDie k) (shlPage (stLoc k)) o) s := by
  unfold tagNext
  split
  · split
    · rfl
    · exact word_headSend h8 hC _ _
  · rfl

theorem word_resendLines (s : State) :
    word (Layout.addr (stDie k) (shlPage (stLoc k)) o) (resendLines k s) = word (Layout.addr (stDie k) (shlPage (stLoc k)) o) s :=
  word_tagNext h8 hC _

end

/-! ### The end of a session (R278, R290) -/

theorem open_closeSession (k : Nat) (s : State) : sessionOpen k (closeSession k s) = false :=
  (congrArg (· != 0) (rd_of_word (word_showCredits _ (by decide)))).trans (flag_wr_zero _ (show 3 + 1 ≤ 32 by decide))

theorem replay_closeSession (k : Nat) (s : State) : (headOf k (closeSession k s)).replay = [] := by
  unfold closeSession
  rw [headOf_showCredits, headOf_wr, headOf_setHead]

/-! ### The fence of a station (R492) -/

theorem isFenced_of_mem {u : UnitId} {s : State} (h : u ∈ s.fenced) : isFenced u s = true := by
  unfold isFenced
  rw [List.contains_iff_mem.mpr h]
  rfl

theorem isFenced_stationFence (k : Nat) (s : State) : isFenced (.station k) (stationFence k s) = true := by
  unfold stationFence
  split
  · next h => exact h
  · dsimp only
    exact isFenced_of_mem (Touches.mem_fenced_of_addFence (m := 0x180000c0790182003004) (headForm_touches rfl
      (closeSession_touches rfl (lenUpdate_touches rfl (timingOff_touches rfl (setSta_touches rfl (.refl _ _)))))) rfl)

/-- A fault of class U of a station's page fences the station. -/
theorem isFenced_stationFault {k p src : Nat} {forced : Bool} (s : State) (h : faultClass p src = 2) :
    isFenced (.station k) (stationFault k p src forced s) = true := by
  unfold stationFault
  dsimp only
  rw [if_pos h]
  exact isFenced_stationFence k _

theorem faultClass_shl (k src : Nat) :
    faultClass (shlPage (stLoc k)) src = if src = 4 ∨ src = 6 then 1 else if src ≤ 5 then 2 else 0 := by
  unfold faultClass
  rw [pageKind_shl (stLoc_lt k)]

end Sys2Proof.Machine
end

section
/-! PROOFS. What a head says upstream: STATUS, ACK, NAK, CREDIT, and packets that fail (R277 to R280, R286, R287). -/

namespace Sys2Proof.Machine

/-! ### Arrival (R277) -/

theorem isFenced_of_hears {k : Nat} {s : State} (h : headHears k s = true) : isFenced (.station k) s = false := by
  simp only [headHears, stationOn, Bool.and_eq_true, Bool.not_eq_true'] at h
  obtain ⟨⟨⟨-, hfree⟩, -⟩, -⟩ := h
  exact hfree

/-- A sound packet of its type, from a head that is heard, is taken. -/
theorem hlArrival_sound {k type : Nat} {pkt : List Byte} {f : State → State} {s : State} (hears : headHears k s = true)
    (htype : hlType pkt = type) (hsound : hlVerdict pkt = 0) : hlArrival k type pkt f s = f s := by
  unfold hlArrival
  rw [hears, htype, bne_self_eq_false, if_neg (by decide), if_pos hsound]

/-! ### STATUS: the registers that show it (R286, R287) -/

theorem rd_onlyIf_evt {l : Loc} {d p b : Nat} (c : Bool) (s : State) (hl : BlockWord l.addr) (hp : p < 256) :
    rd l (onlyIf c (evt d p b) s) = rd l s := by
  cases c
  · rw [onlyIf_false]
  · rw [onlyIf_true, rd_evt_block hl hp]

theorem headOf_onlyIf_evt (j d p b : Nat) (c : Bool) (s : State) : headOf j (onlyIf c (evt d p b) s) = headOf j s := by
  cases c
  · rw [onlyIf_false]
  · rw [onlyIf_true, headOf_evt]

/-- The record and the registers that a STATUS with payload `p` leaves. -/
def statusRegs (k : Nat) (p : List Byte) (s : State) : State :=
  let d := stDie k
  let l := stLoc k
  let s1 := bump (R.SHL.STAT_CNT_COUNT d l) (setHead k { headOf k s with last := some p, statusAt := s.now } s)
  let s2 := wr (R.SHL.HEAD_TEMP_SEQ d l) (fieldLe p 3 1) (wr (R.SHL.HEAD_TEMP_TEMP d l) (fieldLe p 0 2) s1)
  let s3 := wr (R.SHL.HEAD_LAT_TICKS d l) (fieldLe p 8 3) (wr (R.SHL.BUF_STAT_LINES d l) (fieldLe p 4 2) s2)
  let s4 := wr (R.SHL.GEN_STAT_TRIM_APPLIED d l) (fieldLe p 6 1) (wr (R.SHL.GEN_STAT_LIN_APPLIED d l) (fieldLe p 7 1) s3)
  wr (R.SHL.EMIT_FAULT1_ELEMS d l) (fieldLe p 18 2) (wr (R.SHL.EMIT_FAULT1_MAP d l) (fieldLe p 24 2)
    (wr (R.SHL.EMIT_FAULT0_MAP d l) (fieldLe p 20 4) s4))

/-- Beside them a STATUS raises events only. -/
theorem statusShow_eq (k : Nat) (p : List Byte) (s : State) :
    ∃ c3 c4 c5 c6, statusShow k p s =
      onlyIf c5 (evt (stDie k) (shlPage (stLoc k)) 5) (onlyIf c6 (evt (stDie k) (shlPage (stLoc k)) 6)
        (onlyIf c3 (evt (stDie k) (shlPage (stLoc k)) 3) (onlyIf c4 (evt (stDie k) (shlPage (stLoc k)) 4) (statusRegs k p s)))) :=
  ⟨_, _, _, _, rfl⟩

theorem rd_statusShow {l : Loc} (hl : BlockWord l.addr) (k : Nat) (p : List Byte) (s : State) :
    rd l (statusShow k p s) = rd l (statusRegs k p s) := by
  have hpage := (shlPage_bounds k).2
  obtain ⟨c3, c4, c5, c6, h⟩ := statusShow_eq k p s
  rw [h, rd_onlyIf_evt _ _ hl hpage, rd_onlyIf_evt _ _ hl hpage, rd_onlyIf_evt _ _ hl hpage, rd_onlyIf_evt _ _ hl hpage]

theorem headOf_statusShow (k : Nat) (p : List Byte) (s : State) :
    headOf k (statusShow k p s) = { headOf k s with last := some p, statusAt := s.now } := by
  obtain ⟨c3, c4, c5, c6, h⟩ := statusShow_eq k p s
  rw [h, headOf_onlyIf_evt, headOf_onlyIf_evt, headOf_onlyIf_evt, headOf_onlyIf_evt, statusRegs]
  simp only [headOf_wr, headOf_bump, headOf_setHead]

/-- Registers of other pages than SHL stand. -/
theorem rd_statusRegs_ne {l : Loc} {k : Nat} (p : List Byte) (s : State)
    (h : ∀ o < 0x1000, l.addr ≠ Layout.addr (stDie k) (shlPage (stLoc k)) o) : rd l (statusRegs k p s) = rd l s := by
  have hwr : ∀ {o i w v t}, o < 0x1000 → rd l (wr ⟨Layout.addr (stDie k) (0x52 + 8 * stLoc k) o, i, w⟩ v t) = rd l t :=
    fun ho => rd_wr_ne _ _ (h _ ho)
  unfold statusRegs bump bumpBy
  simp (disch := decide) only [R.SHL.EMIT_FAULT1_ELEMS, R.SHL.EMIT_FAULT1_MAP, R.SHL.EMIT_FAULT0_MAP, R.SHL.GEN_STAT_TRIM_APPLIED,
    R.SHL.GEN_STAT_LIN_APPLIED, R.SHL.HEAD_LAT_TICKS, R.SHL.BUF_STAT_LINES, R.SHL.HEAD_TEMP_SEQ, R.SHL.HEAD_TEMP_TEMP,
    R.SHL.STAT_CNT_COUNT, hwr, rd_setHead]

theorem statusRegs_shows (k : Nat) (p : List Byte) (s : State) :
    rd (R.SHL.HEAD_TEMP_TEMP (stDie k) (stLoc k)) (statusRegs k p s) = fieldLe p 0 2 % 65536 ∧
      rd (R.SHL.BUF_STAT_LINES (stDie k) (stLoc k)) (statusRegs k p s) = fieldLe p 4 2 % 65536 ∧
      rd (R.SHL.HEAD_LAT_TICKS (stDie k) (stLoc k)) (statusRegs k p s) = fieldLe p 8 3 % 16777216 ∧
      rd (R.SHL.GEN_STAT_TRIM_APPLIED (stDie k) (stLoc k)) (statusRegs k p s) = fieldLe p 6 1 % 256 ∧
      rd (R.SHL.GEN_STAT_LIN_APPLIED (stDie k) (stLoc k)) (statusRegs k p s) = fieldLe p 7 1 % 256 := by
  have hfield : ∀ {a i w : Nat}, i + w ≤ 32 → ∀ v t, rd ⟨a, i, w⟩ (wr ⟨a, i, w⟩ v t) = v % 2 ^ w := fun h v t => rd_wr_same v t h
  unfold statusRegs
  refine ⟨?_, ?_, ?_, ?_, ?_⟩
  all_goals
    simp (disch := decide) only [R.SHL.EMIT_FAULT1_ELEMS, R.SHL.EMIT_FAULT1_MAP, R.SHL.EMIT_FAULT0_MAP, R.SHL.GEN_STAT_TRIM_APPLIED,
      R.SHL.GEN_STAT_LIN_APPLIED, R.SHL.HEAD_LAT_TICKS, R.SHL.BUF_STAT_LINES, R.SHL.HEAD_TEMP_SEQ, R.SHL.HEAD_TEMP_TEMP,
      R.SHL.STAT_CNT_COUNT, rd_wr_page, hfield]
    rfl

/-! ### STATUS: the temperature judged (R303, R305) -/

/-- A temperature below the hard limit touches the soft state and the HOT latch alone. -/
theorem judgeTemp_below {k : Nat} {t : Int} {s : State} (h : t < rdS (R.SPROT.TEMP_LIM_HARD (stDie k) (stLoc k)) s) :
    judgeTemp k t s = s ∨ judgeTemp k t s = hotClear k t (softJudge k t s) := by
  unfold judgeTemp
  split
  · exact .inl rfl
  · exact .inr (if_neg (not_le.mpr h))

section
variable {l : Loc} {k : Nat} (hl : BlockWord l.addr)
  (hsprot : ∀ o < 0x1000, l.addr ≠ Layout.addr (stDie k) (sprotPage (stLoc k)) o)
include hl hsprot

theorem rd_lenUpdate (s : State) : rd l (lenUpdate k s) = rd l s := by
  unfold lenUpdate
  dsimp only
  split
  · rfl
  · split
    · exact rd_wr_ne _ _ (hsprot 0x44 (by decide))
    · exact (rd_evt_block hl (stationPages_lt k).2.2).trans (rd_wr_ne _ _ (hsprot 0x44 (by decide)))

theorem rd_softApply (s : State) : rd l (softApply k s) = rd l s :=
  (rd_evt_block hl (stationPages_lt k).2.2).trans
    ((rd_wr_ne _ _ (hsprot 0x44 (by decide))).trans (rd_wr_ne _ _ (hsprot 0x44 (by decide))))

theorem rd_softJudge (t : Int) (s : State) : rd l (softJudge k t s) = rd l s := by
  unfold softJudge
  dsimp only
  generalize (if rdS (R.SPROT.TEMP_LIM_SOFT (stDie k) (stLoc k)) s ≤ t then true else _) = want
  split
  · exact rd_setSta ..
  · split
    · exact (rd_wr_ne _ _ (hsprot 0x44 (by decide))).trans (rd_setSta ..)
    · split
      · exact (rd_wr_ne _ _ (hsprot 0x44 (by decide))).trans ((rd_setSta ..).trans (rd_setSta ..))
      · exact (rd_softApply hl hsprot _).trans (rd_setSta ..)

theorem rd_hotClear (t : Int) (s : State) : rd l (hotClear k t s) = rd l s := by
  unfold hotClear
  dsimp only
  split
  · exact (rd_lenUpdate hl hsprot _).trans (rd_wr_ne _ _ (hsprot 0x44 (by decide)))
  · rfl

theorem rd_judgeTemp_below {t : Int} {s : State} (h : t < rdS (R.SPROT.TEMP_LIM_HARD (stDie k) (stLoc k)) s) :
    rd l (judgeTemp k t s) = rd l s := by
  rcases judgeTemp_below h with h | h
  · rw [h]
  · rw [h, rd_hotClear hl hsprot, rd_softJudge hl hsprot]

end

theorem headOf_judgeTemp_below {k : Nat} {t : Int} {s : State} (h : t < rdS (R.SPROT.TEMP_LIM_HARD (stDie k) (stLoc k)) s) :
    headOf k (judgeTemp k t s) = headOf k s := by
  rcases judgeTemp_below h with h | h
  · rw [h]
  · rw [h]
    exact Touches.headOf_eq (hotClear_touches (msk := 0x40000000001004) rfl (softJudge_touches rfl (.refl _ s))) rfl k

/-! ### HL_STATUS -/

theorem statusUnderrun_none {k : Nat} {p : List Byte} {s : State} (h0 : testBit (fieldLe p 16 1) 0 = false)
    (h1 : testBit (fieldLe p 16 1) 1 = false) : statusUnderrun k p s = s := by
  unfold statusUnderrun
  dsimp only
  rw [h0, h1, if_neg (by decide), if_neg (by decide)]

/-- A STATUS taken, up to the judgement of its temperature. -/
def statusTaken (k : Nat) (p : List Byte) (s : State) : State :=
  setSta k { staOf k (statusShow k p s) with edges := [] } (statusShow k p s)

theorem statusTake_open {k : Nat} {p : List Byte} {s : State} (hopen : sessionOpen k s = true)
    (h0 : testBit (fieldLe p 16 1) 0 = false) (h1 : testBit (fieldLe p 16 1) 1 = false) :
    statusTake k p s = judgeTemp k (toSigned 16 (fieldLe p 0 2)) (statusTaken k p s) := by
  unfold statusTake
  rw [hopen, if_neg (by decide), statusUnderrun_none h0 h1]
  rfl

theorem hard_statusTaken (k : Nat) (p : List Byte) (s : State) :
    rdS (R.SPROT.TEMP_LIM_HARD (stDie k) (stLoc k)) (statusTaken k p s) = rdS (R.SPROT.TEMP_LIM_HARD (stDie k) (stLoc k)) s := by
  have hpage := (stationPages_lt k).2.2
  have hblock : BlockWord (R.SPROT.TEMP_LIM_HARD (stDie k) (stLoc k)).addr :=
    blockWord_addr hpage (by decide) (.inr ⟨by omega, by omega, by omega, by decide⟩)
  have hne : ∀ o < 0x1000, (R.SPROT.TEMP_LIM_HARD (stDie k) (stLoc k)).addr ≠ Layout.addr (stDie k) (shlPage (stLoc k)) o :=
    fun o ho => addr_ne hpage (by decide) (shlPage_bounds k).2 ho (.inr (.inl (by simp [shlPage])))
  exact congrArg (toSigned _) ((rd_setSta ..).trans ((rd_statusShow hblock ..).trans (rd_statusRegs_ne p s hne)))

theorem hlStatus_shows {k : Nat} {pkt : List Byte} {s : State} (hears : headHears k s = true) (htype : hlType pkt = 0x30)
    (hsound : hlVerdict pkt = 0) (hopen : sessionOpen k s = true) (h0 : testBit (fieldLe (hlPayload pkt) 16 1) 0 = false)
    (h1 : testBit (fieldLe (hlPayload pkt) 16 1) 1 = false)
    (hcool : toSigned 16 (fieldLe (hlPayload pkt) 0 2) < rdS (R.SPROT.TEMP_LIM_HARD (stDie k) (stLoc k)) s) :
    ∃ t, exec (.hlStatus k pkt) s = .next t ∧ (headOf k t).last = some (hlPayload pkt) ∧ (headOf k t).statusAt = s.now ∧
      rd (R.SHL.HEAD_TEMP_TEMP (stDie k) (stLoc k)) t = fieldLe (hlPayload pkt) 0 2 % 65536 ∧
      rd (R.SHL.BUF_STAT_LINES (stDie k) (stLoc k)) t = fieldLe (hlPayload pkt) 4 2 % 65536 ∧
      rd (R.SHL.HEAD_LAT_TICKS (stDie k) (stLoc k)) t = fieldLe (hlPayload pkt) 8 3 % 16777216 ∧
      rd (R.SHL.GEN_STAT_TRIM_APPLIED (stDie k) (stLoc k)) t = fieldLe (hlPayload pkt) 6 1 % 256 ∧
      rd (R.SHL.GEN_STAT_LIN_APPLIED (stDie k) (stLoc k)) t = fieldLe (hlPayload pkt) 7 1 % 256 := by
  generalize hp : hlPayload pkt = p at h0 h1 hcool ⊢
  have hexec : execHlStatus k pkt s = .next (judgeTemp k (toSigned 16 (fieldLe p 0 2)) (statusTaken k p s)) := by
    unfold execHlStatus
    rw [isFenced_of_hears hears, if_neg (by decide), hlArrival_sound hears htype hsound, hp, statusTake_open hopen h0 h1]
  have hbelow := (hard_statusTaken k p s).symm ▸ hcool
  have hhead : headOf k (judgeTemp k (toSigned 16 (fieldLe p 0 2)) (statusTaken k p s)) =
      { headOf k s with last := some p, statusAt := s.now } :=
    (headOf_judgeTemp_below hbelow).trans (headOf_statusShow k p s)
  have hrd : ∀ {o i w}, 0x40 ≤ o ∧ o < 0x1000 →
      rd ⟨Layout.addr (stDie k) (shlPage (stLoc k)) o, i, w⟩ (judgeTemp k (toSigned 16 (fieldLe p 0 2)) (statusTaken k p s)) =
        rd ⟨Layout.addr (stDie k) (shlPage (stLoc k)) o, i, w⟩ (statusRegs k p s) := fun {o i w} ho =>
    have hblock := blockWord_shl (stDie k) k ho
    (rd_judgeTemp_below hblock (fun o' ho' =>
      addr_ne (shlPage_bounds k).2 ho.2 (stationPages_lt k).2.2 ho' (.inr (.inl (by simp [shlPage, sprotPage])))) hbelow).trans
      ((rd_setSta ..).trans (rd_statusShow hblock ..))
  obtain ⟨htemp, hlines, hlat, htrim, hlin⟩ := statusRegs_shows k p s
  refine ⟨_, Eq.trans (b := execHlStatus k pkt s) rfl hexec, by rw [hhead], by rw [hhead], ?_⟩
  exact ⟨(hrd (by decide)).trans htemp, (hrd (by decide)).trans hlines, (hrd (by decide)).trans hlat,
    (hrd (by decide)).trans htrim, (hrd (by decide)).trans hlin⟩

end Sys2Proof.Machine
end

section
/-! PROOFS. Acknowledgement, replay, credits and sessions of a head link, and packets that fail (R277 to R280). -/

namespace Sys2Proof.Machine

/-! ### HL_ACK (R277, R278, R285) -/

/-- An ACK has been taken that leaves `rest` in the replay buffer; a HEADCFG that it covers is done. -/
def ackTaken (k psn : Nat) (rest : List (Nat × HeadPkt)) (s : State) : State :=
  let s1 := wr (R.SHL.PSN_STAT_ACKED (stDie k) (stLoc k)) psn (setHead k { headOf k s with replay := rest, advAt := s.now } s)
  if (ackCovered psn (headOf k s).replay).any (fun p => p.type == 0x22) then
    evt (stDie k) (shlPage (stLoc k)) 2 (wr (R.SHL.HCFG_CTL_DONE (stDie k) (stLoc k)) 1 s1)
  else s1

theorem ackTake_covers {k psn : Nat} {rest : List (Nat × HeadPkt)} {s : State} (h : ackRest psn (headOf k s).replay = some rest) :
    ackTake k psn s = headPump k (ackTaken k psn rest s) := by
  unfold ackTake
  dsimp only
  rw [h]
  rfl

theorem headOf_ackTaken (k psn : Nat) (rest : List (Nat × HeadPkt)) (s : State) :
    headOf k (ackTaken k psn rest s) = { headOf k s with replay := rest, advAt := s.now } := by
  unfold ackTaken
  dsimp only
  split
  · rw [headOf_evt, headOf_wr, headOf_wr, headOf_setHead]
  · rw [headOf_wr, headOf_setHead]

theorem acked_ackTaken (k psn : Nat) (rest : List (Nat × HeadPkt)) (s : State) :
    rd (R.SHL.PSN_STAT_ACKED (stDie k) (stLoc k)) (ackTaken k psn rest s) = psn % 65536 := by
  have hwr : ∀ t, rd (R.SHL.PSN_STAT_ACKED (stDie k) (stLoc k)) (wr (R.SHL.PSN_STAT_ACKED (stDie k) (stLoc k)) psn t) = psn % 65536 :=
    fun t => rd_wr_same psn t (show 16 + 16 ≤ 32 by decide)
  unfold ackTaken
  dsimp only
  split
  · exact (rd_evt_shl (by decide) _).trans ((rd_wr_page (.inl (by decide)) _ _).trans (hwr _))
  · exact hwr _

theorem hlAck_releases {k : Nat} {pkt : List Byte} {rest : List (Nat × HeadPkt)} {s : State} (hears : headHears k s = true)
    (htype : hlType pkt = 0x31) (hsound : hlVerdict pkt = 0) (hinit : hlInit pkt = false) (hopen : sessionOpen k s = true)
    (hrest : ackRest (hlPsn pkt) (headOf k s).replay = some rest) (hwait : (headOf k s).waiting = []) :
    ∃ t, exec (.hlAck k pkt) s = .next t ∧ (headOf k t).replay = rest ∧ (headOf k t).advAt = s.now ∧ (headOf k t).waiting = [] ∧
      rd (R.SHL.PSN_STAT_ACKED (stDie k) (stLoc k)) t = hlPsn pkt % 65536 := by
  have hexec : execHlAck k pkt s = .next (headPump k (ackTaken k (hlPsn pkt) rest s)) := by
    unfold execHlAck
    rw [hlArrival_sound hears htype hsound, hinit, hopen, if_neg (by decide), if_pos rfl, ackTake_covers hrest]
  have hidle : (headOf k (ackTaken k (hlPsn pkt) rest s)).waiting = [] := by rw [headOf_ackTaken]; exact hwait
  obtain ⟨hkept, o, hhead⟩ := headPump_holds (k := k) (s := ackTaken k (hlPsn pkt) rest s) (fun h => absurd hidle h)
  refine ⟨_, Eq.trans (b := execHlAck k pkt s) rfl hexec, ?_⟩
  rw [hhead, headOf_ackTaken, hkept.rd]
  exact ⟨rfl, rfl, hwait, acked_ackTaken ..⟩

theorem hlAck_restarts {k : Nat} {pkt : List Byte} {s : State} (hears : headHears k s = true) (htype : hlType pkt = 0x31)
    (hsound : hlVerdict pkt = 0) (hinit : hlInit pkt = true) (hopen : sessionOpen k s = true) :
    ∃ t, exec (.hlAck k pkt) s = .next t ∧ sessionOpen k t = false ∧ (headOf k t).replay = [] := by
  have hexec : execHlAck k pkt s = .next (closeSession k (spoilImaging k 3 s)) := by
    unfold execHlAck headRestart
    rw [hlArrival_sound hears htype hsound, hinit, if_pos rfl, if_pos hopen]
  exact ⟨_, Eq.trans (b := execHlAck k pkt s) rfl hexec, open_closeSession .., replay_closeSession ..⟩

/-! ### HL_NAK (R277) -/

/-- A NAK has been counted, and what it names sent again. -/
def nakTaken (k psn n : Nat) (s : State) : State :=
  resend k ((headOf k s).replay.dropWhile (fun x => x.1 != psn))
    (bump (R.SHL.RPL_CNT_NAKS (stDie k) (stLoc k)) (setHead k { headOf k s with nakPsn := psn, naks := n } s))

theorem rd_nakTaken_ne {k psn n : Nat} {l : Loc} (s : State) (hnaks : Apart l (R.SHL.RPL_CNT_NAKS (stDie k) (stLoc k)))
    (hreplays : Apart l (R.SHL.RPL_CNT_REPLAYS (stDie k) (stLoc k))) : rd l (nakTaken k psn n s) = rd l s :=
  (rd_resend _ _ hreplays).trans ((rd_bump_of_apart hnaks _).trans (rd_setHead ..))

theorem headOf_nakTaken (k psn n : Nat) (s : State) : headOf k (nakTaken k psn n s) = { headOf k s with nakPsn := psn, naks := n } := by
  rw [nakTaken, headOf_resend, headOf_bump, headOf_setHead]

theorem naks_nakTaken (k psn n : Nat) (s : State) : rd (R.SHL.RPL_CNT_NAKS (stDie k) (stLoc k)) (nakTaken k psn n s) =
    Nat.min (rd (R.SHL.RPL_CNT_NAKS (stDie k) (stLoc k)) s + 1) 65535 :=
  (rd_resend _ _ (apart_page (by decide))).trans (rd_bump_of_rd (show 0 + 16 ≤ 32 by decide) (rd_setHead ..))

theorem sent_nakTaken (k psn n : Nat) (s : State) : (nakTaken k psn n s).sent =
    (((headOf k s).replay.dropWhile (fun x => x.1 != psn)).map (fun x => Sent.head k x.1 x.2)).reverse ++ s.sent := by
  rw [nakTaken, sent_resend, bump_eq]
  rfl

/-- A further NAK for the PSN of the last; the last that RETRY_LIMIT allows is a fault. -/
theorem execHlNak_again {k : Nat} {pkt : List Byte} {s : State} (hears : headHears k s = true) (htype : hlType pkt = 0x32)
    (hsound : hlVerdict pkt = 0) (hopen : sessionOpen k s = true) (hpsn : (headOf k s).nakPsn = hlPsn pkt) :
    execHlNak k pkt s = .next
      (if rd (R.SHL.HCFG_RETRY_LIMIT (stDie k) (stLoc k)) s ≤ (headOf k s).naks + 1 then
        stationFault k (shlPage (stLoc k)) 1 false (nakTaken k (hlPsn pkt) ((headOf k s).naks + 1) s)
      else nakTaken k (hlPsn pkt) ((headOf k s).naks + 1) s) := by
  have hlimit : rd (R.SHL.HCFG_RETRY_LIMIT (stDie k) (stLoc k)) (nakTaken k (hlPsn pkt) ((headOf k s).naks + 1) s) =
      rd (R.SHL.HCFG_RETRY_LIMIT (stDie k) (stLoc k)) s := rd_nakTaken_ne s (apart_page (by decide)) (apart_page (by decide))
  unfold execHlNak nakTake
  rw [hlArrival_sound hears htype hsound, if_pos hopen, ← hlimit]
  dsimp only
  rw [if_pos hpsn]
  rfl

theorem hlNak_resends {k : Nat} {pkt : List Byte} {s : State} (hears : headHears k s = true) (htype : hlType pkt = 0x32)
    (hsound : hlVerdict pkt = 0) (hopen : sessionOpen k s = true) (hpsn : (headOf k s).nakPsn = hlPsn pkt)
    (hlimit : (headOf k s).naks + 1 < rd (R.SHL.HCFG_RETRY_LIMIT (stDie k) (stLoc k)) s) :
    ∃ t, exec (.hlNak k pkt) s = .next t ∧ (headOf k t).naks = (headOf k s).naks + 1 ∧ (headOf k t).replay = (headOf k s).replay ∧
      rd (R.SHL.RPL_CNT_NAKS (stDie k) (stLoc k)) t = Nat.min (rd (R.SHL.RPL_CNT_NAKS (stDie k) (stLoc k)) s + 1) 65535 ∧
      t.sent = (((headOf k s).replay.dropWhile (fun x => x.1 != hlPsn pkt)).map (fun x => Sent.head k x.1 x.2)).reverse ++ s.sent := by
  refine ⟨_, Eq.trans (b := execHlNak k pkt s) rfl
    ((execHlNak_again hears htype hsound hopen hpsn).trans (congrArg _ (if_neg (Nat.not_le.mpr hlimit)))), ?_⟩
  rw [headOf_nakTaken]
  exact ⟨rfl, rfl, naks_nakTaken .., sent_nakTaken ..⟩

theorem hlNak_fences {k : Nat} {pkt : List Byte} {s : State} (hears : headHears k s = true) (htype : hlType pkt = 0x32)
    (hsound : hlVerdict pkt = 0) (hopen : sessionOpen k s = true) (hpsn : (headOf k s).nakPsn = hlPsn pkt)
    (hlimit : rd (R.SHL.HCFG_RETRY_LIMIT (stDie k) (stLoc k)) s ≤ (headOf k s).naks + 1) :
    ∃ t, exec (.hlNak k pkt) s = .next t ∧ isFenced (.station k) t = true :=
  ⟨_, Eq.trans (b := execHlNak k pkt s) rfl
    ((execHlNak_again hears htype hsound hopen hpsn).trans (congrArg _ (if_pos hlimit))),
    isFenced_stationFault _ (faultClass_shl k 1)⟩

/-! ### HL_CREDIT in a session (R279) -/

/-- The two counters of granted credits are given anew. -/
def creditsGiven (k line ctl : Nat) (s : State) : State :=
  showCredits k (setHead k { headOf k s with lineGiven := line, ctlGiven := ctl } s)

theorem headOf_creditsGiven (k line ctl : Nat) (s : State) :
    headOf k (creditsGiven k line ctl s) = { headOf k s with lineGiven := line, ctlGiven := ctl } := by
  rw [creditsGiven, headOf_showCredits, headOf_setHead]

theorem sent_creditsGiven (k line ctl : Nat) (s : State) : (creditsGiven k line ctl s).sent = s.sent :=
  (showCredits_touches (msk := 0x8000000000000000004) rfl (setHead_touches rfl (.refl _ s))).sent rfl

theorem hlCredit_gives {k : Nat} {pkt : List Byte} {s : State} (hears : headHears k s = true) (htype : hlType pkt = 0x34)
    (hsound : hlVerdict pkt = 0) (hopen : sessionOpen k s = true) (hwait : (headOf k s).waiting = []) :
    ∃ t, exec (.hlCredit k pkt) s = .next t ∧ (headOf k t).lineGiven = fieldLe (hlPayload pkt) 0 2 ∧
      (headOf k t).ctlGiven = fieldLe (hlPayload pkt) 2 2 ∧ (headOf k t).replay = (headOf k s).replay ∧ t.sent = s.sent := by
  have hexec : execHlCredit k pkt s =
      .next (headPump k (creditsGiven k (fieldLe (hlPayload pkt) 0 2) (fieldLe (hlPayload pkt) 2 2) s)) := by
    unfold execHlCredit
    rw [hlArrival_sound hears htype hsound]
    dsimp only
    rw [if_pos hopen]
    rfl
  have hidle : (headOf k (creditsGiven k (fieldLe (hlPayload pkt) 0 2) (fieldLe (hlPayload pkt) 2 2) s)).waiting = [] := by
    rw [headOf_creditsGiven]; exact hwait
  obtain ⟨hkept, o, hhead⟩ := headPump_holds (k := k) (fun h => absurd hidle h)
  refine ⟨_, Eq.trans (b := execHlCredit k pkt s) rfl hexec, ?_⟩
  rw [hhead, headOf_creditsGiven, hkept.sent, sent_creditsGiven]
  exact ⟨rfl, rfl, rfl, rfl⟩

/-! ### HL_CREDIT that opens a session (R278, R280) -/

/-- The record and the registers with which a session opens. -/
def sessionStarted (k line ctl : Nat) (s : State) : State :=
  let d := stDie k
  let l := stLoc k
  let s1 := setHead k { headOf k s with
    waiting := [], replay := [], lineGiven := line, ctlGiven := ctl, lineUsed := 0, ctlUsed := 0, naks := 0, advAt := s.now
    resyncAt := none, statusAt := s.now, opening := true } s
  wr (R.SHL.BUF_STAT_GRANT d l) line (evt d (shlPage l) 0 (wr (R.SHL.HSTAT_SESSION d l) 1 s1))

theorem open_sessionStarted (k line ctl : Nat) (s : State) : sessionOpen k (sessionStarted k line ctl s) = true :=
  (flag_wr_of_apart (apart_page (by decide)) _ _).trans
    ((congrArg (· != 0) (rd_evt_shl (by decide) _)).trans (flag_wr_one _ (show 3 + 1 ≤ 32 by decide) rfl))

theorem grant_sessionStarted (k line ctl : Nat) (s : State) :
    rd (R.SHL.BUF_STAT_GRANT (stDie k) (stLoc k)) (sessionStarted k line ctl s) = line % 65536 :=
  rd_wr_same _ _ (show 16 + 16 ≤ 32 by decide)

/-- The registers of the STA page stand as a session opens. -/
theorem rd_sessionStarted_sta {k line ctl o i w : Nat} (s : State) (ho : 0x40 ≤ o ∧ o < 0x1000) :
    rd ⟨Layout.addr (stDie k) (staPage (stLoc k)) o, i, w⟩ (sessionStarted k line ctl s) =
      rd ⟨Layout.addr (stDie k) (staPage (stLoc k)) o, i, w⟩ s := by
  have hpage := (stationPages_lt k).1
  have hblock : BlockWord (Layout.addr (stDie k) (staPage (stLoc k)) o) :=
    blockWord_addr hpage ho.2 (.inr (by unfold staPage; omega))
  have hwr : ∀ {o' j v} x t, o' < 0x1000 →
      rd ⟨Layout.addr (stDie k) (staPage (stLoc k)) o, i, w⟩ (wr ⟨Layout.addr (stDie k) (shlPage (stLoc k)) o', j, v⟩ x t) =
        rd ⟨Layout.addr (stDie k) (staPage (stLoc k)) o, i, w⟩ t := fun x t ho' =>
    rd_wr_of_apart (apart_pages ⟨hpage, ho.2⟩ ⟨(shlPage_bounds k).2, ho'⟩ (by simp [staPage, shlPage])) x t
  exact (hwr _ _ (by decide)).trans ((rd_evt_block hblock (shlPage_bounds k).2).trans ((hwr _ _ (by decide)).trans (rd_setHead ..)))

theorem minGrant_sessionStarted (k line ctl : Nat) (s : State) : minGrant k (sessionStarted k line ctl s) = minGrant k s := by
  have hlen : rd (R.STA.LINE_LEN_LEN8 (stDie k) (stLoc k)) (sessionStarted k line ctl s) = rd (R.STA.LINE_LEN_LEN8 (stDie k) (stLoc k)) s :=
    rd_sessionStarted_sta s (by decide)
  have hdepth : rd (R.STA.CFG_DEPTH (stDie k) (stLoc k)) (sessionStarted k line ctl s) = rd (R.STA.CFG_DEPTH (stDie k) (stLoc k)) s :=
    rd_sessionStarted_sta s (by decide)
  have hhead : rd (R.STA.CFG_HEAD (stDie k) (stLoc k)) (sessionStarted k line ctl s) = rd (R.STA.CFG_HEAD (stDie k) (stLoc k)) s :=
    rd_sessionStarted_sta s (by decide)
  have hemit : rd (R.STA.CFG_EMITTERS (stDie k) (stLoc k)) (sessionStarted k line ctl s) = rd (R.STA.CFG_EMITTERS (stDie k) (stLoc k)) s :=
    rd_sessionStarted_sta s (by decide)
  unfold minGrant depthBits ledBar flag
  rw [hlen, hdepth, hhead, hemit]

/-- The session opens, and the LINTAB, the trim set kept, the HEADCFG that waited and the lines not yet fired go out. -/
def sessionGranted (k line ctl : Nat) (s : State) : State :=
  resendLines k (headSend k ((headOf k s).trim ++ (headOf k s).waiting.filter (fun p => p.type == 0x22))
    (sendLintab k (showCredits k (sessionStarted k line ctl s))))

theorem sessionBegin_granted {k line ctl : Nat} {s : State} (hline : minGrant k s ≤ line) (hctl : 4 ≤ ctl) :
    sessionBegin k line ctl s = sessionGranted k line ctl s := by
  rw [← minGrant_sessionStarted k line ctl s] at hline
  exact if_neg (by rw [not_or, Nat.not_lt, Nat.not_lt]; exact ⟨hline, hctl⟩)

/-- What goes out as a session opens leaves SESSION and GRANT as they opened with it. -/
theorem word_sessionGranted {k line ctl o : Nat} (s : State) (h8 : o ≠ 0x48) (hC : o ≠ 0x4C) (h58 : o ≠ 0x58) :
    word (Layout.addr (stDie k) (shlPage (stLoc k)) o) (sessionGranted k line ctl s) =
      word (Layout.addr (stDie k) (shlPage (stLoc k)) o) (sessionStarted k line ctl s) :=
  (word_resendLines h8 hC _).trans ((word_headSend h8 hC _ _).trans ((word_sendLintab h8 hC _ h58).trans (word_showCredits _ hC)))

theorem hlCredit_opens {k : Nat} {pkt : List Byte} {s : State} (hears : headHears k s = true) (htype : hlType pkt = 0x34)
    (hsound : hlVerdict pkt = 0) (hclosed : sessionOpen k s = false) (hinit : hlInit pkt = true)
    (hresync : (headOf k s).resyncAt.isSome = true) (hline : minGrant k s ≤ fieldLe (hlPayload pkt) 0 2)
    (hctl : 4 ≤ fieldLe (hlPayload pkt) 2 2) :
    ∃ t, exec (.hlCredit k pkt) s = .next t ∧ sessionOpen k t = true ∧
      rd (R.SHL.BUF_STAT_GRANT (stDie k) (stLoc k)) t = fieldLe (hlPayload pkt) 0 2 % 65536 := by
  have hexec : execHlCredit k pkt s = .next (sessionGranted k (fieldLe (hlPayload pkt) 0 2) (fieldLe (hlPayload pkt) 2 2) s) := by
    unfold execHlCredit
    rw [hlArrival_sound hears htype hsound]
    dsimp only
    rw [hclosed, hinit, hresync, if_neg (by decide), if_pos (by decide), sessionBegin_granted hline hctl]
  refine ⟨_, Eq.trans (b := execHlCredit k pkt s) rfl hexec, ?_, ?_⟩
  · exact (congrArg (· != 0) (rd_of_word (word_sessionGranted s (by decide) (by decide) (by decide)))).trans (open_sessionStarted ..)
  · exact (rd_of_word (word_sessionGranted s (by decide) (by decide) (by decide))).trans (grant_sessionStarted ..)

/-! ### HL_BAD_PACKET (R277) -/

/-- A packet that fails is counted by what it fails, and its fault is only recorded. -/
theorem hlBad_eq (k : Nat) (pkt : List Byte) (s : State) : hlBad k pkt s = recordFault (stDie k) (shlPage (stLoc k)) 4 false
    (bump (if hlVerdict pkt = 2 then R.SHL.UP_ERR_CRC (stDie k) (stLoc k) else R.SHL.UP_ERR_FRAMING (stDie k) (stLoc k)) s) :=
  stationFault_recorded (by rw [faultClass_shl]; decide)

theorem headLinks_hlBad (k : Nat) (pkt : List Byte) (s : State) : (hlBad k pkt s).headLinks = s.headLinks := by
  rw [hlBad_eq]
  exact Touches.headLinks (recordFault_touches (Nat.and_self _) (bump_touches rfl (.refl _ s))) rfl

theorem hlBadPacket_counts {k : Nat} {pkt : List Byte} {s : State} (hears : headHears k s = true) (hbad : hlVerdict pkt ≠ 0) :
    ∃ t, exec (.hlBadPacket k pkt) s = .next t ∧ t.headLinks = s.headLinks ∧
      rd (R.SHL.UP_ERR_CRC (stDie k) (stLoc k)) t = (if hlVerdict pkt = 2 then Nat.min (rd (R.SHL.UP_ERR_CRC (stDie k) (stLoc k)) s + 1) 65535
        else rd (R.SHL.UP_ERR_CRC (stDie k) (stLoc k)) s) ∧
      rd (R.SHL.UP_ERR_FRAMING (stDie k) (stLoc k)) t = (if hlVerdict pkt = 2 then rd (R.SHL.UP_ERR_FRAMING (stDie k) (stLoc k)) s
        else Nat.min (rd (R.SHL.UP_ERR_FRAMING (stDie k) (stLoc k)) s + 1) 65535) := by
  have hexec : execHlBadPacket k pkt s = .next (hlBad k pkt s) := if_neg (by rw [hears, beq_false_of_ne hbad]; decide)
  have hrec : ∀ {i w t}, rd ⟨Layout.addr (stDie k) (shlPage (stLoc k)) 0xC4, i, w⟩ (recordFault (stDie k) (shlPage (stLoc k)) 4 false t) =
      rd ⟨Layout.addr (stDie k) (shlPage (stLoc k)) 0xC4, i, w⟩ t :=
    rd_recordFault_block (blockWord_shl _ k (by decide)) (shlPage_bounds k).2
  refine ⟨_, Eq.trans (b := execHlBadPacket k pkt s) rfl hexec, headLinks_hlBad k pkt s, ?_⟩
  rw [hlBad_eq]
  split
  · exact ⟨hrec.trans (rd_bump_same s (show 0 + 16 ≤ 32 by decide)), hrec.trans (rd_bump_of_apart (apart_page (by decide)) s)⟩
  · exact ⟨hrec.trans (rd_bump_of_apart (apart_page (by decide)) s), hrec.trans (rd_bump_same s (show 16 + 16 ≤ 32 by decide))⟩

/-- Settles O27: each packet's next state by what it says and whether a session is open, and then the reads of it. -/
theorem headLinkPacketCommandsAct : Obligations.HeadLinkPacketCommandsAct := by
  unfold Obligations.HeadLinkPacketCommandsAct
  refine ⟨?_, ?_, ?_, ?_, ?_, ?_, ?_, ?_⟩
  · exact fun k pkt s => hlStatus_shows
  · exact fun k pkt rest s => hlAck_releases
  · exact fun k pkt s => hlAck_restarts
  · exact fun k pkt s => hlNak_resends
  · exact fun k pkt s => hlNak_fences
  · exact fun k pkt s => hlCredit_gives
  · exact fun k pkt s => hlCredit_opens
  · exact fun k pkt s => hlBadPacket_counts

end Sys2Proof.Machine
end

section
/-! PROOFS. The timers of a head link, and what the host sends over it: HEADCFG and trim sets (R277, R278, R284, R285, R287). -/

namespace Sys2Proof.Machine

/-! ### HL_REPLAY_TIMER, HL_RESYNC_TIMER and HL_STATUS_TIMEOUT (R277, R278, R287) -/

theorem hlReplayTimer_resends {k : Nat} {s : State} (hears : headHears k s = true) (hopen : sessionOpen k s = true)
    (hheld : (headOf k s).replay ≠ []) (hdue : (headOf k s).advAt + 20000 ≤ s.now) :
    ∃ t, exec (.hlReplayTimer k) s = .next t ∧ (headOf k t).advAt = s.now ∧ (headOf k t).replay = (headOf k s).replay ∧
      t.sent = ((headOf k s).replay.map (fun x => Sent.head k x.1 x.2)).reverse ++ s.sent := by
  have hexec : execHlReplayTimer k s = .next (resend k (headOf k s).replay (setHead k { headOf k s with advAt := s.now } s)) :=
    if_pos (by rw [hears, hopen, List.isEmpty_eq_false_iff.mpr hheld, decide_eq_true hdue]; rfl)
  refine ⟨_, Eq.trans (b := execHlReplayTimer k s) rfl hexec, ?_⟩
  rw [headOf_resend, headOf_setHead, sent_resend]
  exact ⟨rfl, rfl, rfl⟩

theorem hlResyncTimer_sends {k : Nat} {s : State} (hears : headHears k s = true) (hclosed : sessionOpen k s = false)
    (hdue : ∀ u, (headOf k s).resyncAt = some u → u + 10000 ≤ s.now) :
    ∃ t, exec (.hlResyncTimer k) s = .next t ∧ (headOf k t).resyncAt = some s.now ∧
      t.sent = .head k (rd (R.SHL.PSN_STAT_NEXT (stDie k) (stLoc k)) s) { type := 0x25 } :: s.sent ∧
      t = { s with headLinks := t.headLinks, sent := t.sent, bonds := t.bonds } := by
  have hexec : execHlResyncTimer k s = .next (headOut k (rd (R.SHL.PSN_STAT_NEXT (stDie k) (stLoc k)) s) { type := 0x25 }
      (setHead k { headOf k s with resyncAt := some s.now } s)) := by
    unfold execHlResyncTimer
    dsimp only
    rw [hears, hclosed]
    split
    · next u hu => exact if_pos (by rw [decide_eq_true (hdue u hu)]; rfl)
    · rfl
  refine ⟨_, Eq.trans (b := execHlResyncTimer k s) rfl hexec, ?_, sent_headOut .., ?_⟩
  · rw [headOf_headOut, headOf_setHead]
  · rw [headOut_eq]
    rfl

theorem hlStatusTimeout_fences {k : Nat} {s : State} (hon : stationOn k s = true) (hopen : sessionOpen k s = true)
    (hdue : (headOf k s).statusAt + 1000000 * rd (R.SHL.HCFG_TIMEOUT (stDie k) (stLoc k)) s ≤ s.now) :
    ∃ t, exec (.hlStatusTimeout k) s = .next t ∧ isFenced (.station k) t = true := by
  have hexec : execHlStatusTimeout k s =
      .next (stationFault k (shlPage (stLoc k)) 0 false (evt (stDie k) (shlPage (stLoc k)) 7 s)) :=
    if_pos (by rw [hon, hopen, decide_eq_true hdue]; rfl)
  exact ⟨_, Eq.trans (b := execHlStatusTimeout k s) rfl hexec, isFenced_stationFault _ (faultClass_shl k 0)⟩

/-! ### A write of TRIM_CTL or HCFG_CTL (R284, R285) -/

theorem station_of_page (k : Nat) : 2 * stDie k + stLoc k = k := Nat.div_add_mod k 2

/-- The state in which a write with GO to offset `o` of the SHL page acts: its word has been stored. -/
def goStored (a : Access) (k o : Nat) (v : Word) (s : State) : State :=
  (RegWrite.of a (stDie k) (shlPage (stLoc k)) o (v ||| 0x80000000)).store (landWrite a.rq (stDie k) s)

theorem go_set (v : Word) : testBit (v ||| 0x80000000).toNat 31 = true := testBit_or_of_set (by decide)

theorem goStored_kept (a : Access) (k o : Nat) (v : Word) (s : State) : Touches 0x404 s (goStored a k o v s) :=
  RegWrite.store_touches rfl (landWrite_touches rfl (.refl _ s))

/-- Registers at other offsets stand. -/
theorem rd_goStored_ne {a : Access} {k o o' i w : Nat} {v : Word} (s : State) (h : o' ≠ o) :
    rd ⟨Layout.addr (stDie k) (shlPage (stLoc k)) o', i, w⟩ (goStored a k o v s) =
      rd ⟨Layout.addr (stDie k) (shlPage (stLoc k)) o', i, w⟩ s := by
  unfold goStored
  rw [rd_store_ne (by rw [RegWrite.of_at]; exact addr_ne_offset h), rd_landWrite]

/-- A writable field below GO takes its bits of the word through BAR0, clamped to its range (R5). -/
theorem rd_goStored_field {a : Access} {k o : Nat} {v : Word} {r : RegD} {f : FieldD} (s : State)
    (hr : regAt (stDie k) (shlPage (stLoc k) * 0x1000 + o) = some r) (hf : f ∈ r.fields) (hbar : a.bar2 = false) (hacc : f.acc = .rw)
    (hgo : bitsOf (0x80000000 : Word).toNat f.lsb f.width = 0) :
    rd ⟨Layout.addr (stDie k) (shlPage (stLoc k)) o, f.lsb, f.width⟩ (goStored a k o v s) =
      Nat.max f.lo (Nat.min f.hi (bitsOf v.toNat f.lsb f.width)) := by
  unfold goStored
  rw [rd_store_of hr hf, bitsOf_or_kept hgo, hbar]
  unfold fieldAfter
  rw [Bool.and_false, if_neg (by decide), hacc]

/-- A read-only field stands. -/
theorem rd_goStored_ro {a : Access} {k o : Nat} {v : Word} {r : RegD} {f : FieldD} (s : State)
    (hr : regAt (stDie k) (shlPage (stLoc k) * 0x1000 + o) = some r) (hf : f ∈ r.fields) (hacc : f.acc = .ro) :
    rd ⟨Layout.addr (stDie k) (shlPage (stLoc k)) o, f.lsb, f.width⟩ (goStored a k o v s) =
      rd ⟨Layout.addr (stDie k) (shlPage (stLoc k)) o, f.lsb, f.width⟩ s := by
  unfold goStored
  rw [rd_store_of hr hf]
  unfold fieldAfter
  rw [hacc, ite_self, rd_landWrite]

/-! ### HEADCFG_SEND (R285) -/

theorem regAt_hcfgCtl (d k : Nat) :
    regAt d (shlPage (stLoc k) * 0x1000 + 0x78) =
      some (Layout.one 0x78 [Layout.rwpb 0 5 1 1 31, Layout.ro 30 1 1, Layout.wop 31 1]) := by
  have h : ∀ l < 2, regAt d (shlPage l * 0x1000 + 0x78) =
      some (Layout.one 0x78 [Layout.rwpb 0 5 1 1 31, Layout.ro 30 1 1, Layout.wop 31 1]) := by
    intro l hl
    interval_cases l <;> rfl
  exact h _ (stLoc_lt k)

theorem exec_headcfgSend_go {a : Access} {k : Nat} {v : Word} {s : State} (h : Reaches a (stDie k) (shlPage (stLoc k)) 0x78 s) :
    exec (.headcfgSend a k v) s = .next (headcfgGo k (goStored a k 0x78 v s)) := by
  have hwrite : ∀ t, shlWrite (RegWrite.of a (stDie k) (shlPage (stLoc k)) 0x78 (v ||| 0x80000000)) (stLoc k) t =
      headcfgGo k ((RegWrite.of a (stDie k) (shlPage (stLoc k)) 0x78 (v ||| 0x80000000)).store t) := fun t => by
    unfold shlWrite
    dsimp only
    rw [RegWrite.of_o, RegWrite.of_e, RegWrite.of_d, station_of_page, if_neg (fun h => absurd h.1 (by decide)), if_pos ⟨rfl, go_set v⟩]
  exact (exec_headcfgSend h).trans (congrArg _ (hwrite _))

/-- The payload of a HEADCFG: the address, and the words that HCFG_CTL.WORDS counts. -/
def headcfgBody (k : Nat) (s : State) : List Byte :=
  leBytes 4 (rd (R.SHL.HCFG_ADDR_ADDR (stDie k) (stLoc k)) s) ++
    (List.range (Nat.min 16 (rd (R.SHL.HCFG_CTL_WORDS (stDie k) (stLoc k)) s))).flatMap
      (fun i => leBytes 4 (rd (R.SHL.HCFG_DATA (stDie k) (stLoc k) i) s))

theorem length_headcfgBody (k : Nat) (s : State) :
    (headcfgBody k s).length = 4 + 4 * Nat.min 16 (rd (R.SHL.HCFG_CTL_WORDS (stDie k) (stLoc k)) s) := by
  unfold headcfgBody
  rw [List.length_append, length_leBytes, List.length_flatMap]
  simp [Nat.mul_comm]

theorem headcfgGo_done {k : Nat} {s : State} (h : flag (R.SHL.HCFG_CTL_DONE (stDie k) (stLoc k)) s = true) :
    headcfgGo k s =
      headSend k [{ type := 0x22, payload := headcfgBody k s }] (wr (R.SHL.HCFG_CTL_DONE (stDie k) (stLoc k)) 0 s) := by
  unfold headcfgGo
  dsimp only
  rw [h]
  rfl

theorem words_goStored {a : Access} {k : Nat} {v : Word} (s : State) (hbar : a.bar2 = false) :
    rd (R.SHL.HCFG_CTL_WORDS (stDie k) (stLoc k)) (goStored a k 0x78 v s) = Nat.max 1 (bitsOf v.toNat 0 5) := by
  have h := rd_goStored_field (v := v) (f := Layout.rwpb 0 5 1 1 31) s (regAt_hcfgCtl (stDie k) k) (List.mem_cons_self ..) hbar rfl
    (by decide)
  have hlt : bitsOf v.toNat 0 5 ≤ 31 := Nat.le_of_lt_succ (bitsOf_lt v.toNat 0 5)
  exact h.trans (congrArg (Nat.max 1) (Nat.min_eq_right hlt))

theorem done_goStored (a : Access) (k : Nat) (v : Word) (s : State) :
    rd (R.SHL.HCFG_CTL_DONE (stDie k) (stLoc k)) (goStored a k 0x78 v s) = rd (R.SHL.HCFG_CTL_DONE (stDie k) (stLoc k)) s :=
  rd_goStored_ro (f := Layout.ro 30 1 1) s (regAt_hcfgCtl (stDie k) k) (List.mem_cons_of_mem _ (List.mem_cons_self ..)) rfl

theorem headcfgSend_waits {a : Access} {k : Nat} {v : Word} {s : State} (h : Reaches a (stDie k) (shlPage (stLoc k)) 0x78 s)
    (hbar : a.bar2 = false) (hdone : flag (R.SHL.HCFG_CTL_DONE (stDie k) (stLoc k)) s = true) (hclosed : sessionOpen k s = false) :
    ∃ t, exec (.headcfgSend a k v) s = .next t ∧ flag (R.SHL.HCFG_CTL_DONE (stDie k) (stLoc k)) t = false ∧ t.sent = s.sent ∧
      ∃ body : List Byte, (headOf k t).waiting = (headOf k s).waiting ++ [{ type := 0x22, payload := body }] ∧
        body.length = 4 + 4 * Nat.min 16 (Nat.max 1 (bitsOf v.toNat 0 5)) := by
  have hwords := words_goStored (k := k) (v := v) s hbar
  have hready : flag (R.SHL.HCFG_CTL_DONE (stDie k) (stLoc k)) (goStored a k 0x78 v s) = true :=
    (congrArg (· != 0) (done_goStored ..)).trans hdone
  have hshut : sessionOpen k (goStored a k 0x78 v s) = false := (congrArg (· != 0) (rd_goStored_ne s (by decide))).trans hclosed
  have hhead : headOf k (goStored a k 0x78 v s) = headOf k s := Touches.headOf_eq (goStored_kept a k 0x78 v s) rfl k
  have hsent : (goStored a k 0x78 v s).sent = s.sent := (goStored_kept a k 0x78 v s).sent rfl
  have hexec := (exec_headcfgSend_go (v := v) h).trans (congrArg _ (headcfgGo_done hready))
  generalize goStored a k 0x78 v s = u at hwords hshut hhead hsent hexec
  obtain ⟨hkept, hwait⟩ := headSend_waits (k := k) (ps := [{ type := 0x22, payload := headcfgBody k u }])
    (s := wr (R.SHL.HCFG_CTL_DONE (stDie k) (stLoc k)) 0 u) ((flag_wr_of_apart (apart_page (by decide)) _ _).trans hshut)
  refine ⟨_, hexec, ?_, ?_, headcfgBody k u, ?_, ?_⟩
  · exact (congrArg (· != 0) (hkept.rd _)).trans (flag_wr_zero _ (show 30 + 1 ≤ 32 by decide))
  · exact hkept.sent.trans (((wr_touches (Nat.and_self _) (.refl _ u)).sent rfl).trans hsent)
  · rw [hwait, headOf_wr, hhead]
  · rw [length_headcfgBody, hwords]

/-! ### TRIM_SET_SEND (R278, R284) -/

theorem regAt_trimCtl (d k : Nat) :
    regAt d (shlPage (stLoc k) * 0x1000 + 0x70) =
      some (Layout.one 0x70 [Layout.rwp 0 17 0, Layout.rwp 20 1 0, Layout.wop 31 1]) := by
  have h : ∀ l < 2, regAt d (shlPage l * 0x1000 + 0x70) =
      some (Layout.one 0x70 [Layout.rwp 0 17 0, Layout.rwp 20 1 0, Layout.wop 31 1]) := by
    intro l hl
    interval_cases l <;> rfl
  exact h _ (stLoc_lt k)

theorem exec_trimSetSend_go {a : Access} {k : Nat} {v : Word} {s : State} (h : Reaches a (stDie k) (shlPage (stLoc k)) 0x70 s) :
    exec (.trimSetSend a k v) s = .next (trimGo k (goStored a k 0x70 v s)) := by
  have hwrite : ∀ t, shlWrite (RegWrite.of a (stDie k) (shlPage (stLoc k)) 0x70 (v ||| 0x80000000)) (stLoc k) t =
      trimGo k ((RegWrite.of a (stDie k) (shlPage (stLoc k)) 0x70 (v ||| 0x80000000)).store t) := fun t => by
    unfold shlWrite
    dsimp only
    rw [RegWrite.of_o, RegWrite.of_e, RegWrite.of_d, station_of_page, if_pos ⟨rfl, go_set v⟩]
  exact (exec_trimSetSend h).trans (congrArg _ (hwrite _))

theorem count_goStored {a : Access} {k : Nat} {v : Word} (s : State) (hbar : a.bar2 = false) :
    rd (R.SHL.TRIM_CTL_COUNT (stDie k) (stLoc k)) (goStored a k 0x70 v s) = bitsOf v.toNat 0 17 := by
  have h := rd_goStored_field (v := v) (f := Layout.rwp 0 17 0) s (regAt_trimCtl (stDie k) k) (List.mem_cons_self ..) hbar rfl
    (by decide)
  have hlt : bitsOf v.toNat 0 17 ≤ 2 ^ 17 - 1 := Nat.le_of_lt_succ (bitsOf_lt v.toNat 0 17)
  exact h.trans ((Nat.max_eq_right (Nat.zero_le _)).trans (Nat.min_eq_right hlt))

theorem kind_goStored {a : Access} {k : Nat} {v : Word} (s : State) (hbar : a.bar2 = false) :
    rd (R.SHL.TRIM_CTL_KIND (stDie k) (stLoc k)) (goStored a k 0x70 v s) = bitsOf v.toNat 20 1 := by
  have h := rd_goStored_field (v := v) (f := Layout.rwp 20 1 0) s (regAt_trimCtl (stDie k) k)
    (List.mem_cons_of_mem _ (List.mem_cons_self ..)) hbar rfl (by decide)
  have hlt : bitsOf v.toNat 20 1 ≤ 2 ^ 1 - 1 := Nat.le_of_lt_succ (bitsOf_lt v.toNat 20 1)
  exact h.trans ((Nat.max_eq_right (Nat.zero_le _)).trans (Nat.min_eq_right hlt))

theorem length_halves (n : Nat) (b : List Byte) : (halves n b).length = n := by
  induction n generalizing b with
  | zero => rfl
  | succ n ih => rw [halves, List.length_cons, ih]

/-- The set kept is the one that goes out, under the generation that TRIM_SENT shows. -/
theorem trim_trimSend (k kind : Nat) (trims : List Nat) (s : State) : (headOf k (trimSend k kind true trims s)).trim =
    trimPackets kind (rd (R.SHL.GEN_STAT_TRIM_SENT (stDie k) (stLoc k)) (trimSend k kind true trims s)) 65 0 trims := by
  have hgen : ∀ g t, rd (R.SHL.GEN_STAT_TRIM_SENT (stDie k) (stLoc k)) (wr (R.SHL.GEN_STAT_TRIM_SENT (stDie k) (stLoc k)) (g % 256) t) =
      g % 256 := fun g t => (rd_wr_same _ t (show 0 + 8 ≤ 32 by decide)).trans (Nat.mod_mod _ _)
  unfold trimSend
  dsimp only
  rw [if_pos rfl]
  split
  · rw [trim_headSend, headOf_wr, headOf_setHead]
    exact congrArg (trimPackets kind · 65 0 trims) ((rd_of_word (word_headSend (by decide) (by decide) _ _)).trans (hgen _ _)).symm
  · rw [headOf_wr, headOf_setHead, hgen]

/-- A set that is not of kind 0 is read from page memory at TRIM_BASE. -/
theorem trimGo_memory {k : Nat} {s : State} (hcount : rd (R.SHL.TRIM_CTL_COUNT (stDie k) (stLoc k)) s ≠ 0)
    (hkind : rd (R.SHL.TRIM_CTL_KIND (stDie k) (stLoc k)) s ≠ 0) :
    ∃ b u, trimGo k s = trimSend k (rd (R.SHL.TRIM_CTL_KIND (stDie k) (stLoc k)) s) true
      (halves (Nat.min 65536 (rd (R.SHL.TRIM_CTL_COUNT (stDie k) (stLoc k)) s)) b) u := by
  have hsome : Nat.min 65536 (rd (R.SHL.TRIM_CTL_COUNT (stDie k) (stLoc k)) s) ≠ 0 :=
    Nat.pos_iff_ne_zero.mp (Nat.lt_min.mpr ⟨by decide, Nat.pos_of_ne_zero hcount⟩)
  unfold trimGo
  dsimp only
  rw [if_neg hsome, if_neg (fun h => hkind h.1)]
  exact ⟨_, _, rfl⟩

theorem trimSetSend_keeps {a : Access} {k : Nat} {v : Word} {s : State} (h : Reaches a (stDie k) (shlPage (stLoc k)) 0x70 s)
    (hbar : a.bar2 = false) (hkind : bitsOf v.toNat 20 1 = 1) (hcount : bitsOf v.toNat 0 17 ≠ 0) :
    ∃ t, exec (.trimSetSend a k v) s = .next t ∧ ∃ trims : List Nat, trims.length = Nat.min 65536 (bitsOf v.toNat 0 17) ∧
      (headOf k t).trim = trimPackets 1 (rd (R.SHL.GEN_STAT_TRIM_SENT (stDie k) (stLoc k)) t) 65 0 trims := by
  have hn := count_goStored (k := k) (v := v) s hbar
  have hone := (kind_goStored (k := k) (v := v) s hbar).trans hkind
  obtain ⟨b, u, hgo⟩ := trimGo_memory (k := k) (s := goStored a k 0x70 v s) (by rw [hn]; exact hcount) (by rw [hone]; decide)
  rw [hn, hone] at hgo
  exact ⟨_, (exec_trimSetSend_go h).trans (congrArg _ hgo), _, length_halves _ b, trim_trimSend ..⟩

/-- Settles O28: what each timer sends or fences once it is due, and the fields of HCFG_CTL and TRIM_CTL with which GO acts. -/
theorem headLinkSendCommandsAct : Obligations.HeadLinkSendCommandsAct := by
  unfold Obligations.HeadLinkSendCommandsAct
  refine ⟨?_, ?_, ?_, ?_, ?_⟩
  · exact fun k s => hlReplayTimer_resends
  · exact fun k s => hlResyncTimer_sends
  · exact fun k s => hlStatusTimeout_fences
  · exact fun a k v s _ => headcfgSend_waits
  · exact fun a k v s _ => trimSetSend_keeps

end Sys2Proof.Machine
end

section
/-! PROOFS. The latches of a station and its gate, its sensors, its soft state and its duty window (R295, R299 to R303, R305, R356). -/

namespace Sys2Proof.Machine

/-! ### Registers of the SPROT page -/

theorem blockWord_sprot (d k : Nat) {o : Nat} (ho : 0x40 ≤ o ∧ o < 0x1000) : BlockWord (Layout.addr d (sprotPage (stLoc k)) o) :=
  blockWord_addr (stationPages_lt k).2.2 ho.2 (.inr (by unfold sprotPage; omega))

theorem rd_evt_sprot {d e k o i w b : Nat} (ho : 0x40 ≤ o ∧ o < 0x1000) (s : State) :
    rd ⟨Layout.addr d (sprotPage (stLoc k)) o, i, w⟩ (evt e (sprotPage (stLoc k)) b s) =
      rd ⟨Layout.addr d (sprotPage (stLoc k)) o, i, w⟩ s :=
  rd_evt_block (blockWord_sprot d k ho) (stationPages_lt k).2.2

theorem flag_evt_sprot {d e k o i w b : Nat} (ho : 0x40 ≤ o ∧ o < 0x1000) (s : State) :
    flag ⟨Layout.addr d (sprotPage (stLoc k)) o, i, w⟩ (evt e (sprotPage (stLoc k)) b s) =
      flag ⟨Layout.addr d (sprotPage (stLoc k)) o, i, w⟩ s :=
  congrArg (· != 0) (rd_evt_sprot ho s)

/-! ### LEN (R299) -/

/-- Fields that lie apart from GATE_STAT.LEN stand. -/
theorem rd_lenUpdate_of_apart {l : Loc} {k : Nat} (hl : BlockWord l.addr) (h : Apart l (R.SPROT.GATE_STAT_LEN (stDie k) (stLoc k)))
    (s : State) : rd l (lenUpdate k s) = rd l s := by
  unfold lenUpdate
  dsimp only
  split
  · rfl
  · split
    · exact rd_wr_of_apart h _ _
    · exact (rd_evt_block hl (stationPages_lt k).2.2).trans (rd_wr_of_apart h _ _)

theorem latches_lenUpdate (k : Nat) (s : State) : latches k (lenUpdate k s) = latches k s :=
  rd_lenUpdate_of_apart (blockWord_sprot _ k (by decide)) (apart_page (by decide)) s

theorem len_lenUpdate (k : Nat) (s : State) :
    flag (R.SPROT.GATE_STAT_LEN (stDie k) (stLoc k)) (lenUpdate k s) = lenAllowed k s := by
  unfold lenUpdate
  dsimp only
  split
  · next h => exact h.symm
  · split
    · next h => rw [h]; exact flag_wr_one _ (show 0 + 1 ≤ 32 by decide) rfl
    · next h =>
      rw [Bool.eq_false_iff.mpr h]
      exact (flag_evt_sprot (by decide) _).trans (flag_wr_zero _ (show 0 + 1 ≤ 32 by decide))

theorem lenUpdate_kept (k : Nat) (s : State) : Touches 0x1004 s (lenUpdate k s) := lenUpdate_touches (Nat.and_self _) (.refl _ s)

/-- With the interlock input low no station may be enabled. -/
theorem lenAllowed_of_ilkLow {s : State} (h : s.ilkIn = false) (k : Nat) : lenAllowed k s = false := by
  unfold lenAllowed
  dsimp only
  rw [h]
  rfl

/-- Latch HOK takes LEN away, whether or not a gate waits for its line boundary. -/
theorem lenAllowed_of_hokLatch {k : Nat} {s : State} (h : testBit (latches k s) 1 = true) : lenAllowed k s = false := by
  have hbit : latches k s / 2 % 2 = 1 := by simpa [testBit] using h
  have hheld : (latches k s == 0) = false := by rw [beq_eq_false_iff_ne]; omega
  have hinput : (latches k s % 4 == 0) = false := by rw [beq_eq_false_iff_ne]; omega
  unfold lenAllowed
  dsimp only
  rw [hheld, hinput, Bool.and_false, Bool.or_false, Bool.and_false]

/-! ### The bits of GATE_STAT.LATCH -/

theorem testBit_eq_bitsOf (v i : Nat) : testBit v i = (bitsOf v i 1 == 1) := rfl

theorem testBit_mod_two_pow {n i : Nat} (h : i < n) (v : Nat) : testBit (v % 2 ^ n) i = testBit v i := by
  have hbit : ∀ x, testBit x i = x.testBit i := fun x => by rw [Nat.testBit_eq_decide_div_mod_eq]; rfl
  rw [hbit, hbit, Nat.testBit_mod_two_pow, decide_eq_true h, Bool.true_and]

theorem testBit_withBits (old j i : Nat) (v : Bool) :
    testBit (withBits old j 1 (b2n v)) i = if i = j then v else testBit old i := by
  rw [testBit_eq_bitsOf, testBit_eq_bitsOf]
  split
  · next h =>
    rw [h, bitsOf_withBits_same]
    cases v <;> rfl
  · next h =>
    rcases Nat.lt_or_gt_of_ne h with h | h
    · rw [bitsOf_withBits_below h]
    · rw [bitsOf_withBits_above h]

theorem testBit_setLatch {k b i : Nat} (hi : i < 5) (v : Bool) (s : State) :
    testBit (latches k (setLatch k b v s)) i = if i = b then v else testBit (latches k s) i := by
  have hrd : latches k (setLatch k b v s) = withBits (latches k s) b 1 (b2n v) % 2 ^ 5 := rd_wr_same _ _ (show 8 + 5 ≤ 32 by decide)
  rw [hrd, testBit_mod_two_pow hi, testBit_withBits]

theorem setLatch_kept (k b : Nat) (v : Bool) (s : State) : Touches 4 s (setLatch k b v s) :=
  setLatch_touches (Nat.and_self _) (.refl _ s)

theorem latches_onlyIf_evt (k b : Nat) (c : Bool) (s : State) :
    latches k (onlyIf c (evt (stDie k) (sprotPage (stLoc k)) b) s) = latches k s :=
  rd_onlyIf_evt c s (blockWord_sprot _ k (by decide)) (stationPages_lt k).2.2

/-! ### A latch is set (R300, R301) -/

/-- Station `k` images no frame: every frame that has begun on it has ended. -/
def NoneImaging (k : Nat) (s : State) : Prop := ∀ i, i < 64 → (slotOf i s).begun.contains k = true → (slotOf i s).ended.contains k = true

theorem NoneImaging.of_touches {m k : Nat} {z s : State} (h : NoneImaging k z) (ht : Touches m z s) (hm : m.testBit 25 = false) :
    NoneImaging k s := fun i hi => by rw [ht.slotOf_eq hm]; exact h i hi

theorem spoilImaging_none {k cause : Nat} {s : State} (h : NoneImaging k s) : spoilImaging k cause s = s :=
  foldl_eq_self fun i hi => if_neg fun hc => by
    obtain ⟨-, hbegun, hopen⟩ := hc
    rw [h i (List.mem_range.mp hi) hbegun] at hopen
    exact absurd hopen (by decide)

/-- The latch of ILK or HOK: LEN is judged at once. -/
theorem latchSet_input {k b cause : Nat} {s : State} (hb : b ≤ 1) (hclear : testBit (latches k s) b = false) (hnone : NoneImaging k s) :
    latchSet k b cause s = lenUpdate k (setLatch k b true s) := by
  unfold latchSet
  dsimp only
  rw [hclear, if_neg (by decide), if_pos hb, if_pos hb, spoilImaging_none (hnone.of_touches (setLatch_kept ..) rfl)]

/-- Every other latch: the gate closes at the next line boundary. -/
theorem latchSet_gated {k b cause : Nat} {s : State} (hb : 2 ≤ b) (hclear : testBit (latches k s) b = false) (hnone : NoneImaging k s) :
    latchSet k b cause s = gateNow k (setLatch k b true (gateFresh k s)) := by
  have hkept : Touches 0x40000000000004 s (setLatch k b true (gateFresh k s)) := setLatch_touches rfl (gateFresh_touches rfl (.refl _ s))
  unfold latchSet
  dsimp only
  rw [hclear, if_neg (by decide), if_neg (by omega), if_neg (by omega), spoilImaging_none (hnone.of_touches hkept rfl)]

theorem latches_gateNow (k : Nat) (s : State) : latches k (gateNow k s) = latches k s := latches_lenUpdate ..

theorem gateAt_gateNow (k : Nat) (s : State) : (staOf k (gateNow k s)).gateAt.isSome = true := by
  unfold gateNow
  rw [(lenUpdate_kept ..).staOf_eq rfl, gateAtBoundary, staOf_setSta]
  rfl

theorem rd_gateFresh (l : Loc) (k : Nat) (s : State) : rd l (gateFresh k s) = rd l s :=
  (gateFresh_touches (Nat.and_self _) (.refl _ s)).rd_eq rfl l

/-! ### ILK_FALL and HOK_FALL (R299, R301) -/

theorem ilkFall_disables (s : State) :
    ∃ t, exec .ilkFall s = .next t ∧ t.ilkIn = false ∧ t.hokIn = s.hokIn ∧ ∀ k, lenAllowed k t = false := by
  have hkept : Touches 0xc0790182003004 { s with ilkIn := false } ((allStations s).foldl (fun s k =>
      let s1 := inputSince k 0 none s
      if sprotOn k s1 then latchSet k 0 6 s1 else lenUpdate k s1) { s with ilkIn := false }) :=
    foldl_touches (fun _ _ ht => touches_ite (latchSet_touches rfl (inputSince_touches rfl ht))
      (lenUpdate_touches rfl (inputSince_touches rfl ht))) (.refl _ _)
  have hilk := hkept.ilkIn rfl
  exact ⟨_, Eq.trans (b := execIlkFall s) rfl rfl, hilk, hkept.hokIn rfl, lenAllowed_of_ilkLow hilk⟩

theorem hokFall_latches {k : Nat} {s : State} (hk : k < stationCount s) (hon : sprotOn k s = true)
    (hclear : testBit (latches k s) 1 = false) (hnone : NoneImaging k s) :
    ∃ t, exec (.hokFall k) s = .next t ∧ t.hokIn = s.hokIn.filter (· != k) ∧ testBit (latches k t) 1 = true ∧
      flag (R.SPROT.GATE_STAT_LEN (stDie k) (stLoc k)) t = false := by
  generalize hu : inputSince k 1 none { s with hokIn := s.hokIn.filter (· != k) } = u
  have hexec : execHokFall k s = .next (if sprotOn k u then latchSet k 1 6 u else lenUpdate k u) := by
    subst hu
    exact if_neg (Nat.not_le.mpr hk)
  have honU : sprotOn k u = true := hu ▸ hon
  have hclearU : testBit (latches k u) 1 = false := hu ▸ hclear
  have hnoneU : NoneImaging k u := hu ▸ hnone
  have hset : testBit (latches k (setLatch k 1 true u)) 1 = true := testBit_setLatch (by decide) true u
  rw [if_pos honU, latchSet_input (by decide) hclearU hnoneU] at hexec
  refine ⟨_, Eq.trans (b := execHokFall k s) rfl hexec, ?_, ?_, ?_⟩
  · rw [(lenUpdate_kept ..).hokIn rfl, (setLatch_kept ..).hokIn rfl, ← hu]
    rfl
  · rw [latches_lenUpdate, hset]
  · rw [len_lenUpdate, lenAllowed_of_hokLatch hset]

/-! ### PAPER_OUT and JAM (R301, R356) -/

/-- A field that shows a sensor in GATE_STAT: PAPER_IN is bit 3, JAM_IN is bit 4. -/
def sensorLoc (k i : Nat) : Loc := ⟨Layout.addr (stDie k) (sprotPage (stLoc k)) 0x44, i, 1⟩

/-- Sensor `b` of station `k` has latched: its input shows in bit `i` of GATE_STAT, and the gate waits for its line boundary. -/
def SensorLatched (k b i : Nat) (t : State) : Prop :=
  testBit (latches k t) b = true ∧ flag (sensorLoc k i) t = true ∧ (staOf k t).gateAt.isSome = true

/-- The state in which the sensor shows its level and has raised event `e`, its latch still clear. -/
def sensorShown (k b i e : Nat) (s : State) : State :=
  evt (stDie k) (sprotPage (stLoc k)) e (inputSince k b none (wr (sensorLoc k i) 1 s))

theorem rd_inputSince (l : Loc) (k b : Nat) (v : Option Nat) (s : State) : rd l (inputSince k b v s) = rd l s := rd_setSta ..

theorem latches_sensorWr {k i : Nat} (hi : i < 8) (v : Nat) (s : State) : latches k (wr (sensorLoc k i) v s) = latches k s :=
  rd_wr_of_apart (apart_page (.inr (by omega))) v s

theorem latches_sensorShown {k i : Nat} (hi : i < 8) (b e : Nat) (s : State) : latches k (sensorShown k b i e s) = latches k s :=
  (rd_evt_sprot (by decide) _).trans ((rd_inputSince ..).trans (latches_sensorWr hi 1 s))

theorem flag_sensorShown {k i : Nat} (hi : i < 8) (b e : Nat) (s : State) : flag (sensorLoc k i) (sensorShown k b i e s) = true := by
  have hrd : rd (sensorLoc k i) (sensorShown k b i e s) = rd (sensorLoc k i) (wr (sensorLoc k i) 1 s) :=
    (rd_evt_sprot (by decide) _).trans (rd_inputSince ..)
  exact (congrArg (· != 0) hrd).trans (flag_wr_one s (show i + 1 ≤ 32 by omega) rfl)

theorem sensorShown_kept (k b i e : Nat) (s : State) : Touches 0x40000000001004 s (sensorShown k b i e s) :=
  evt_touches rfl (inputSince_touches rfl (wr_touches rfl (.refl _ s)))

/-- Setting a latch other than ILK and HOK leaves what GATE_STAT shows of the sensors. -/
theorem flag_gateNow_setLatch {k i : Nat} (hi : 1 ≤ i ∧ i < 8) (b : Nat) (s : State) :
    flag (sensorLoc k i) (gateNow k (setLatch k b true (gateFresh k s))) = flag (sensorLoc k i) s := by
  have hlen : ∀ u, rd (sensorLoc k i) (gateNow k u) = rd (sensorLoc k i) (gateAtBoundary k u) :=
    fun u => rd_lenUpdate_of_apart (blockWord_sprot _ k (by decide)) (apart_page (.inr (by omega))) _
  have hset : ∀ u, rd (sensorLoc k i) (setLatch k b true u) = rd (sensorLoc k i) u :=
    fun u => rd_wr_of_apart (apart_page (.inr (by omega))) _ u
  unfold flag
  rw [hlen, gateAtBoundary, rd_setSta, hset, rd_gateFresh]

theorem sensorLatched_latchSet {k b i cause : Nat} {s : State} (hb : 2 ≤ b ∧ b < 5) (hi : 1 ≤ i ∧ i < 8) (e : Nat)
    (hclear : testBit (latches k s) b = false) (hnone : NoneImaging k s) :
    SensorLatched k b i (latchSet k b cause (sensorShown k b i e s)) := by
  have hclear' : testBit (latches k (sensorShown k b i e s)) b = false := by rw [latches_sensorShown hi.2, hclear]
  rw [latchSet_gated hb.1 hclear' (hnone.of_touches (sensorShown_kept ..) rfl)]
  refine ⟨?_, ?_, gateAt_gateNow ..⟩
  · rw [latches_gateNow, testBit_setLatch hb.2, if_pos rfl]
  · rw [flag_gateNow_setLatch hi, flag_sensorShown hi.2]

theorem sensorLatch_paper {k : Nat} {s : State} (hclear : testBit (latches k s) 2 = false) :
    sensorLatch k 2 s = latchSet k 2 6 (sensorShown k 2 3 7 s) := by
  have hkept : latches k (inputSince k 2 none (wr (R.SPROT.GATE_STAT_PAPER_IN (stDie k) (stLoc k)) 1 s)) = latches k s :=
    (rd_inputSince ..).trans (latches_sensorWr (i := 3) (by decide) 1 s)
  unfold sensorLatch
  dsimp only
  rw [if_pos rfl, if_pos rfl, hkept, hclear, if_neg (by decide)]
  rfl

/-- A jam stops the path of its station, if it is on one. -/
theorem sensorLatch_jam {k : Nat} {s : State} (hclear : testBit (latches k s) 3 = false) :
    sensorLatch k 3 s = latchSet k 3 5 (sensorShown k 3 4 6 s) ∨
      ∃ p < 2, sensorLatch k 3 s = pathJam p (latchSet k 3 5 (sensorShown k 3 4 6 s)) := by
  have hkept : latches k (inputSince k 3 none (wr (R.SPROT.GATE_STAT_JAM_IN (stDie k) (stLoc k)) 1 s)) = latches k s :=
    (rd_inputSince ..).trans (latches_sensorWr (i := 4) (by decide) 1 s)
  unfold sensorLatch
  dsimp only
  rw [if_neg (show ¬ 3 = 2 by decide), if_neg (show ¬ 3 = 2 by decide), hkept, hclear, if_neg (by decide)]
  split
  · exact .inr ⟨_, rd_lt .., rfl⟩
  · exact .inl rfl

/-- A jam that stops a path changes a register of CUE, and raises an event. -/
theorem rd_pathJam {l : Loc} {p : Nat} (s : State) (hp : p < 2) (hl : BlockWord l.addr)
    (hcue : ∀ o < 0x1000, l.addr ≠ Layout.addr 0 0x60 o) : rd l (pathJam p s) = rd l s := by
  unfold pathJam
  split
  · rfl
  · exact (rd_evt_block hl (by decide)).trans (rd_wr_ne _ _ (hcue (0x314 + 0x40 * p) (by omega)))

theorem rd_pathJam_sprot {k o i w p : Nat} (s : State) (hp : p < 2) (ho : 0x40 ≤ o ∧ o < 0x1000) :
    rd ⟨Layout.addr (stDie k) (sprotPage (stLoc k)) o, i, w⟩ (pathJam p s) =
      rd ⟨Layout.addr (stDie k) (sprotPage (stLoc k)) o, i, w⟩ s :=
  rd_pathJam s hp (blockWord_sprot _ k ho) fun o' ho' =>
    addr_ne (stationPages_lt k).2.2 ho.2 (by decide) ho' (.inr (.inl (by have := stLoc_lt k; unfold sprotPage; omega)))

theorem sensorLatched_pathJam {k b i p : Nat} {t : State} (h : SensorLatched k b i t) (hp : p < 2) :
    SensorLatched k b i (pathJam p t) := by
  obtain ⟨hlatch, hshown, hgate⟩ := h
  refine ⟨?_, (congrArg (· != 0) (rd_pathJam_sprot t hp (by decide))).trans hshown, ?_⟩
  · exact (congrArg (testBit · b) (rd_pathJam_sprot t hp (by decide))).trans hlatch
  · rw [(pathJam_touches (Nat.and_self _) (.refl _ t)).staOf_eq rfl, hgate]

/-- With no other station on the path of its sensor, the station alone latches. -/
theorem sensorAsserted_alone {k b : Nat} {s : State} (h : sensorPath k b s = [k]) : sensorAsserted k b s = sensorLatch k b s := by
  unfold sensorAsserted
  rw [h, List.filter_cons_of_pos (by simp)]
  rfl

section
variable {k : Nat} {s : State} (hon : sprotOn k s = true) (hnone : NoneImaging k s)
include hon hnone

theorem paperOut_latches (hen : flag (R.SPROT.SENS_CFG_PAPER_EN (stDie k) (stLoc k)) s = true)
    (hclear : testBit (latches k s) 2 = false) (hpath : sensorPath k 2 s = [k]) :
    ∃ t, exec (.paperOut k) s = .next t ∧ SensorLatched k 2 3 t := by
  have hexec : execPaperOut k s = .next (sensorAsserted k 2 s) := if_neg (by rw [hon, show (sensor k 2 s).2.2 = true from hen]; decide)
  rw [sensorAsserted_alone hpath, sensorLatch_paper hclear] at hexec
  exact ⟨_, Eq.trans (b := execPaperOut k s) rfl hexec, sensorLatched_latchSet (by decide) (by decide) 7 hclear hnone⟩

theorem jam_latches (hen : flag (R.SPROT.SENS_CFG_JAM_EN (stDie k) (stLoc k)) s = true)
    (hclear : testBit (latches k s) 3 = false) (hpath : sensorPath k 3 s = [k]) :
    ∃ t, exec (.jam k) s = .next t ∧ SensorLatched k 3 4 t := by
  have hexec : execJam k s = .next (sensorAsserted k 3 s) := if_neg (by rw [hon, show (sensor k 3 s).2.2 = true from hen]; decide)
  have hset : SensorLatched k 3 4 (latchSet k 3 5 (sensorShown k 3 4 6 s)) :=
    sensorLatched_latchSet (by decide) (by decide) 6 hclear hnone
  rw [sensorAsserted_alone hpath] at hexec
  refine ⟨_, Eq.trans (b := execJam k s) rfl hexec, ?_⟩
  rcases sensorLatch_jam hclear with h | ⟨p, hp, h⟩
  · rw [h]
    exact hset
  · rw [h]
    exact sensorLatched_pathJam hset hp

end

/-! ### REARM (R303) -/

/-- A latch is cleared where it is set and its input has been deasserted for QUAL. -/
def latchCleared (k : Nat) (s : State) (b : Nat) : State :=
  if testBit (latches k s) b && qualified k b s then setLatch k b false s else s

theorem qualified_of_kept {k : Nat} {s t : State} (hsta : staOf k t = staOf k s) (hnow : t.now = s.now)
    (hqual : rd (R.SPROT.SENS_CFG_QUAL (stDie k) (stLoc k)) t = rd (R.SPROT.SENS_CFG_QUAL (stDie k) (stLoc k)) s) (b : Nat) :
    qualified k b t = qualified k b s := by
  unfold qualified
  rw [hsta, hnow, hqual]

theorem qualified_latchCleared (k b i : Nat) (s : State) : qualified k i (latchCleared k s b) = qualified k i s := by
  unfold latchCleared
  split
  · exact qualified_of_kept ((setLatch_kept ..).staOf_eq rfl k) ((setLatch_kept ..).now rfl)
      (rd_wr_of_apart (apart_page (.inl (by decide))) _ _) i
  · rfl

theorem testBit_latchCleared {k b i : Nat} (hi : i < 5) (s : State) :
    testBit (latches k (latchCleared k s b)) i = (testBit (latches k s) i && !(decide (i = b) && qualified k i s)) := by
  unfold latchCleared
  split
  · next h =>
    obtain ⟨-, hq⟩ := Bool.and_eq_true_iff.mp h
    rw [testBit_setLatch hi]
    split
    · next hib => rw [hib, hq]; simp
    · next hib => simp [hib]
  · next h =>
    by_cases hib : i = b
    · subst hib
      rw [decide_eq_true rfl, Bool.true_and]
      cases hset : testBit (latches k s) i
      · rfl
      · rw [hset, Bool.true_and] at h
        rw [Bool.eq_false_iff.mpr h]
        rfl
    · simp [hib]

theorem testBit_latchesCleared {k i : Nat} (hi : i < 5) (l : List Nat) (s : State) :
    testBit (latches k (l.foldl (latchCleared k) s)) i = (testBit (latches k s) i && !(decide (i ∈ l) && qualified k i s)) := by
  induction l generalizing s with
  | nil => simp
  | cons b l ih =>
    rw [List.foldl_cons, ih, testBit_latchCleared hi, qualified_latchCleared, Bool.and_assoc, ← Bool.not_or, ← Bool.and_or_distrib_right,
      ← Bool.decide_or]
    simp only [List.mem_cons]

theorem latches_rearmLatches (k : Nat) (s : State) :
    latches k (rearmLatches k s) = latches k ([0, 1, 2, 3].foldl (latchCleared k) s) :=
  (latches_lenUpdate ..).trans (latches_onlyIf_evt ..)

theorem rearm_clears {a : Access} {k : Nat} {v : Word} {s : State} (h : Reaches a (stDie k) (sprotPage (stLoc k)) 0x40 s) :
    ∃ t, exec (.rearm a k v) s = .next t ∧ (∀ b < 4, testBit (latches k t) b = (testBit (latches k s) b && !qualified k b s)) ∧
      testBit (latches k t) 4 = testBit (latches k s) 4 := by
  generalize hw : RegWrite.of a (stDie k) (sprotPage (stLoc k)) 0x40 (v ||| 2) = w
  generalize hu : w.store (landWrite a.rq (stDie k) s) = u
  have hword : ∀ {o i n}, o ≠ 0x40 → rd ⟨Layout.addr (stDie k) (sprotPage (stLoc k)) o, i, n⟩ u =
      rd ⟨Layout.addr (stDie k) (sprotPage (stLoc k)) o, i, n⟩ s := fun {o i n} ho => by
    rw [← hu, rd_store_ne (by rw [← hw, RegWrite.of_at]; exact addr_ne_offset ho), rd_landWrite]
  have hkept : Touches 0x404 s u := hu ▸ RegWrite.store_touches rfl (landWrite_touches rfl (.refl _ s))
  have hlatch : latches k u = latches k s := hword (by decide)
  have hqual := qualified_of_kept (hkept.staOf_eq rfl k) (hkept.now rfl) (hword (by decide))
  have hwrite : sprotWrite w (stLoc k) (landWrite a.rq (stDie k) s) = lenUpdate k (rearmLatches k u) := by
    have hgo : testBit (v ||| 2).toNat 1 = true := testBit_or_of_set (by decide)
    unfold sprotWrite
    dsimp only
    rw [hu, ← hw, RegWrite.of_o, RegWrite.of_e, RegWrite.of_d, station_of_page, if_pos rfl, if_pos hgo]
  have hbit : ∀ {b}, b < 5 → testBit (latches k (lenUpdate k (rearmLatches k u))) b =
      (testBit (latches k s) b && !(decide (b ∈ [0, 1, 2, 3]) && qualified k b s)) := fun hb => by
    rw [latches_lenUpdate, latches_rearmLatches, testBit_latchesCleared hb, hlatch, hqual]
  refine ⟨lenUpdate k (rearmLatches k u), (exec_rearm h).trans (by rw [hw, hwrite]), fun b hb => ?_, ?_⟩
  · rw [hbit (by omega), decide_eq_true (show b ∈ [0, 1, 2, 3] from by simp; omega), Bool.true_and]
  · rw [hbit (by decide), decide_eq_false (show 4 ∉ [0, 1, 2, 3] by decide), Bool.false_and, Bool.not_false, Bool.and_true]

/-! ### SOFT_STATE_APPLY and HEAD_BUCKET_TICK (R295, R305) -/

theorem softStateApply_applies {k : Nat} {s : State} (hon : sprotOn k s = true)
    (hpend : flag (R.SPROT.GATE_STAT_SOFT_PEND (stDie k) (stLoc k)) s = true) (hedge : (staOf k s).boundary = true) :
    ∃ t, exec (.softStateApply k) s = .next t ∧ flag (R.SPROT.GATE_STAT_SOFT (stDie k) (stLoc k)) t = (staOf k s).softWant ∧
      flag (R.SPROT.GATE_STAT_SOFT_PEND (stDie k) (stLoc k)) t = false := by
  have hexec : execSoftStateApply k s = .next (softApply k s) := if_pos (by rw [hon, hpend, hedge]; rfl)
  refine ⟨_, Eq.trans (b := execSoftStateApply k s) rfl hexec, (flag_evt_sprot (by decide) _).trans ?_,
    (flag_evt_sprot (by decide) _).trans ((flag_wr_of_apart (apart_page (by decide)) _ _).trans
      (flag_wr_zero _ (show 17 + 1 ≤ 32 by decide)))⟩
  cases (staOf k s).softWant
  · exact flag_wr_zero _ (show 16 + 1 ≤ 32 by decide)
  · exact flag_wr_one _ (show 16 + 1 ≤ 32 by decide) rfl

theorem headBucketTick_slides {k : Nat} {s : State} (hon : sprotOn k s = true) (hlate : (staOf k s).bucketAt < ltime (stDie k) s / 1000000) :
    ∃ t, exec (.headBucketTick k) s = .next t ∧ (staOf k t).bucketAt = ltime (stDie k) s / 1000000 ∧
      (staOf k t).buckets =
        (List.replicate (Nat.min 64 (ltime (stDie k) s / 1000000 - (staOf k s).bucketAt)) 0 ++ (staOf k s).buckets).take 64 := by
  have hexec : execHeadBucketTick k s = .next (showHeadSum k (setSta k { staOf k s with
      buckets := (List.replicate (Nat.min 64 (ltime (stDie k) s / 1000000 - (staOf k s).bucketAt)) 0 ++ (staOf k s).buckets).take 64
      bucketAt := ltime (stDie k) s / 1000000 } s)) :=
    if_neg (by rw [hon, decide_eq_false (Nat.not_le.mpr hlate)]; decide)
  refine ⟨_, Eq.trans (b := execHeadBucketTick k s) rfl hexec, ?_⟩
  rw [(showHeadSum_touches (Nat.and_self _) (.refl _ _)).staOf_eq rfl, staOf_setSta]
  exact ⟨rfl, rfl⟩

/-! ### INPUT_DEASSERTED (R303) -/

theorem mem_inputAt_inputSince (k b u : Nat) (s : State) : (b, u) ∈ (staOf k (inputSince k b (some u) s)).inputAt := by
  rw [inputSince, staOf_setSta]
  exact List.mem_cons_self ..

theorem inputDeasserted_ilk (k : Nat) (s : State) : ∃ t, exec (.inputDeasserted 0 k) s = .next t ∧ t.ilkIn = true := by
  have hkept : Touches 0x40000000001004 { s with ilkIn := true }
      ((allStations s).foldl (fun s k => lenUpdate k (inputSince k 0 (some s.now) s)) { s with ilkIn := true }) :=
    foldl_touches (fun _ _ ht => lenUpdate_touches rfl (inputSince_touches rfl ht)) (.refl _ _)
  exact ⟨_, Eq.trans (b := execInputDeasserted 0 k s) rfl rfl, hkept.ilkIn rfl⟩

theorem inputDeasserted_hok {k : Nat} {s : State} (hk : k < stationCount s) :
    ∃ t, exec (.inputDeasserted 1 k) s = .next t ∧ k ∈ t.hokIn ∧ (1, s.now) ∈ (staOf k t).inputAt := by
  have hexec : execInputDeasserted 1 k s = .next (lenUpdate k (inputSince k 1 (some s.now)
      { s with hokIn := if s.hokIn.contains k then s.hokIn else k :: s.hokIn })) := if_neg (Nat.not_le.mpr hk)
  refine ⟨_, Eq.trans (b := execInputDeasserted 1 k s) rfl hexec, ?_, ?_⟩
  · rw [(lenUpdate_kept ..).hokIn rfl]
    change k ∈ if s.hokIn.contains k then s.hokIn else k :: s.hokIn
    split
    · next h => exact List.contains_iff_mem.mp h
    · exact List.mem_cons_self ..
  · rw [(lenUpdate_kept ..).staOf_eq rfl]
    exact mem_inputAt_inputSince ..

/-- A sensor that no other station shares shows its level, and QUAL counts from now. -/
theorem sensorReleased_alone {k b : Nat} {s : State} (h : sensorPath k b s = [k]) :
    flag (if b = 2 then R.SPROT.GATE_STAT_PAPER_IN (stDie k) (stLoc k) else R.SPROT.GATE_STAT_JAM_IN (stDie k) (stLoc k))
        (sensorReleased k b s) = false ∧
      (b, s.now) ∈ (staOf k (sensorReleased k b s)).inputAt := by
  unfold sensorReleased
  rw [h]
  refine ⟨flag_wr_zero s ?_, mem_inputAt_inputSince ..⟩
  split
  · exact show 3 + 1 ≤ 32 by decide
  · exact show 4 + 1 ≤ 32 by decide

section
variable {k : Nat} {s : State} (hk : k < stationCount s) (hon : sprotOn k s = true)
include hk hon

theorem inputDeasserted_paper (hpath : sensorPath k 2 s = [k]) :
    ∃ t, exec (.inputDeasserted 2 k) s = .next t ∧ flag (R.SPROT.GATE_STAT_PAPER_IN (stDie k) (stLoc k)) t = false ∧
      (2, s.now) ∈ (staOf k t).inputAt := by
  have hexec : execInputDeasserted 2 k s = .next (sensorReleased k 2 s) := (if_neg (Nat.not_le.mpr hk)).trans (if_pos hon)
  exact ⟨_, Eq.trans (b := execInputDeasserted 2 k s) rfl hexec, sensorReleased_alone hpath⟩

theorem inputDeasserted_jam (hpath : sensorPath k 3 s = [k]) :
    ∃ t, exec (.inputDeasserted 3 k) s = .next t ∧ flag (R.SPROT.GATE_STAT_JAM_IN (stDie k) (stLoc k)) t = false ∧
      (3, s.now) ∈ (staOf k t).inputAt := by
  have hexec : execInputDeasserted 3 k s = .next (sensorReleased k 3 s) := (if_neg (Nat.not_le.mpr hk)).trans (if_pos hon)
  exact ⟨_, Eq.trans (b := execInputDeasserted 3 k s) rfl hexec, sensorReleased_alone hpath⟩

end

/-- Settles O29: each input's next state where no frame is being imaged, and the latches that a write of REARM leaves. -/
theorem protectionCommandsAct : Obligations.ProtectionCommandsAct := by
  unfold Obligations.ProtectionCommandsAct
  refine ⟨?_, ?_, ?_, ?_, ?_, ?_, ?_, ?_, ?_, ?_, ?_⟩
  · exact ilkFall_disables
  · exact fun k s => hokFall_latches
  · intro k s hon hen hclear hpath hnone
    obtain ⟨t, hexec, hlatch, hshown, hgate⟩ := paperOut_latches hon hnone hen hclear hpath
    exact ⟨t, hexec, hlatch, hshown, fun _ => hgate⟩
  · intro k s hon hen hclear hpath hnone
    obtain ⟨t, hexec, hlatch, hshown, hgate⟩ := jam_latches hon hnone hen hclear hpath
    exact ⟨t, hexec, hlatch, hshown, fun _ => hgate⟩
  · exact fun a k v s _ => rearm_clears
  · exact fun k s => softStateApply_applies
  · exact fun k s => headBucketTick_slides
  · exact inputDeasserted_ilk
  · exact fun k s => inputDeasserted_hok
  · exact fun k s => inputDeasserted_paper
  · exact fun k s => inputDeasserted_jam

end Sys2Proof.Machine
end

section
/-! PROOFS. A step of the machine and the state after reset (R536, log 4). -/

namespace Sys2Proof.Machine

theorem step_of_idle {s : State} (h : s.pending = []) : step s = .next (idle s) := by
  unfold step; rw [h]

/-- Settles O1: `step` by the two shapes of the queue. -/
theorem stepRunsTheFrontCommand : Obligations.StepRunsTheFrontCommand := by
  unfold Obligations.StepRunsTheFrontCommand
  exact ⟨fun _ _ _ => step_of_pending, fun _ => step_of_idle⟩

/-- No word is listed after reset, so each reads its reset value. -/
theorem word_reset (a : Nat) : word a State.reset = resetWord a := mapGet_nil resetWord a

theorem canonical_reset : State.reset.canonical := ⟨rfl, rfl, rfl, rfl⟩

/-- Settles O4: nothing is listed after reset. -/
theorem resetIsCanonical : Obligations.ResetIsCanonical := by
  unfold Obligations.ResetIsCanonical
  exact ⟨canonical_reset, rfl, rfl, rfl, rfl, rfl, rfl, word_reset⟩

end Sys2Proof.Machine
end

section
/-! PROOFS. The integrator of a control loop (R402, R408). -/

namespace Sys2Proof.Machine

theorem clampInt_mem {lo hi : Int} (h : lo ≤ hi) (v : Int) : lo ≤ clampInt lo hi v ∧ clampInt lo hi v ≤ hi := by
  unfold clampInt
  split
  · omega
  · split <;> omega

theorem Stage.bound_eq_shiftRight (g : Stage) (x : Int) : g.bound x = (x * 65536) >>> g.shift := by
  rw [Int.shiftRight_eq_div_pow]
  rfl

theorem Stage.bound_mono (g : Stage) {x y : Int} (h : x ≤ y) : g.bound x ≤ g.bound y :=
  Int.ediv_le_ediv (Int.natCast_pos.mpr (Nat.two_pow_pos _)) (Int.mul_le_mul_of_nonneg_right h (by decide))

theorem Stage.clampI_mem {g : Stage} (h : g.lo ≤ g.hi) (x : Int) : g.bound g.lo ≤ g.clampI x ∧ g.clampI x ≤ g.bound g.hi :=
  clampInt_mem (g.bound_mono h) x

/-- The output stands at the bound that the product drives it to (R408). -/
def Stage.AtBound (g : Stage) (e u : Int) : Prop := (u = g.hi ∧ 0 < mul31 g.ki e) ∨ (u = g.lo ∧ mul31 g.ki e < 0)

theorem Stage.next_stopped {g : Stage} {e u : Int} (h : g.AtBound e u) : g.next e u false = g.clampI g.i := by
  have hstop : (false || (decide (u = g.hi) && decide (0 < mul31 g.ki e)) || (decide (u = g.lo) && decide (mul31 g.ki e < 0))) = true := by
    simpa [Stage.AtBound] using h
  unfold Stage.next
  dsimp only
  rw [if_pos hstop]

theorem Stage.next_added {g : Stage} {e u : Int} (h : ¬ g.AtBound e u) :
    g.next e u false = g.clampI (sat40 (g.i + mul31 g.ki e)) := by
  have hgo : ¬ (false || (decide (u = g.hi) && decide (0 < mul31 g.ki e)) || (decide (u = g.lo) && decide (mul31 g.ki e < 0))) = true := by
    simpa [Stage.AtBound] using h
  unfold Stage.next
  dsimp only
  rw [if_neg hgo]

/-- Settles O6: the two cases of `Stage.next`, and the range of the clamp that both end with. -/
theorem integratorNeverWindsUp : Obligations.IntegratorNeverWindsUp := by
  unfold Obligations.IntegratorNeverWindsUp
  intro g e u hlo
  rw [← g.bound_eq_shiftRight, ← g.bound_eq_shiftRight]
  exact ⟨Stage.next_stopped, Stage.next_added, Stage.clampI_mem hlo _⟩

end Sys2Proof.Machine
end

section
/-! PROOFS. Reads that an operation leaves alone, by the fields that it may change, and the view that a privileged register asks for. -/

namespace Sys2Proof.Machine

/-- A write that gets through to a register with a privileged field came through BAR0 (R9). -/
theorem Reaches.bar0 {a : Access} {d p o : Nat} {s : State} {r : RegD} (h : Reaches a d p o s)
    (hr : regAt d (p * 0x1000 + o) = some r) (hpriv : (privMask r == 0) = false) : a.bar2 = false := by
  obtain ⟨-, -, -, -, -, hview, -, -⟩ := h
  refine hview.resolve_right fun hopen => ?_
  unfold unprivileged at hopen
  rw [hr] at hopen
  exact absurd (hopen.symm.trans hpriv) (by decide)

theorem Touches.releaseOf_eq {m : Nat} {z s : State} (h : Touches m z s) (hm : m.testBit 20 = false) (d : Nat) :
    releaseOf d s = releaseOf d z := releaseOf_congr d (h.releases hm)

theorem Touches.thermalOf_eq {m : Nat} {z s : State} (h : Touches m z s) (hm : m.testBit 69 = false) (d : Nat) :
    thermalOf d s = thermalOf d z := thermalOf_congr d (h.thermals hm)

theorem Touches.domainOf_eq {m : Nat} {z s : State} (h : Touches m z s) (hm : m.testBit 21 = false) (d i : Nat) :
    domainOf d i s = domainOf d i z := domainOf_congr d i (h.domains hm)

theorem Touches.word_eq {m : Nat} {z s : State} (h : Touches m z s) (hm : m.testBit 2 = false) (a : Nat) : word a s = word a z := by
  unfold word; rw [h.regs hm]

theorem Touches.flag_eq {m : Nat} {z s : State} (h : Touches m z s) (hm : m.testBit 2 = false) (l : Loc) : flag l s = flag l z :=
  congrArg (· != 0) (h.rd_eq hm l)

/-- A value that fits its field reads back as written. -/
theorem rd_wr_lt {l : Loc} {v : Nat} (s : State) (h : l.lsb + l.width ≤ 32) (hv : v < 2 ^ l.width) : rd l (wr l v s) = v :=
  (rd_wr_same v s h).trans (Nat.mod_eq_of_lt hv)

theorem Touches.dies_eq {m : Nat} {z s : State} (h : Touches m z s) (hm : m.testBit 0 = false) : s.dies = z.dies :=
  congrArg Part.dies (h.part hm)

end Sys2Proof.Machine
end

section
/-! PROOFS. Warm resets, watchdogs and clock failures (R529 to R535, R546 to R548). -/

namespace Sys2Proof.Machine

/-! ### The scope of a warm reset (R529, R532, R533) -/

/-- A warm reset asserts the reset of its die, whatever the scope. -/
theorem warmReset_release {d cause : Nat} {pkg clock : Bool} {s : State} (hc : coldRunning s = false) (hd : d < s.dies) :
    ∃ pkg' held', releaseOf d (warmReset d cause pkg clock s) = warmRelease pkg' clock held' s.now (releaseOf d s) := by
  by_cases hp : (pkg || d == 0 || packageRunning s) = true
  · obtain ⟨-, hall, -⟩ := warmReset_package (cause := cause) (clock := clock) hc hp
    exact ⟨_, _, hall d hd⟩
  · simp only [Bool.or_eq_true, beq_iff_eq, not_or, Bool.not_eq_true] at hp
    obtain ⟨⟨rfl, h0⟩, hr⟩ := hp
    exact ⟨_, _, warmReset_die hc h0 hr⟩

/-- A reset of package scope, or of D0, ends the safe stop and marks every die. -/
theorem warmReset_whole {d cause : Nat} {pkg clock : Bool} {s : State} (hc : coldRunning s = false) (hscope : pkg = true ∨ d = 0) :
    (warmReset d cause pkg clock s).safeStop = false ∧
      ∀ e < s.dies, (releaseOf e (warmReset d cause pkg clock s)).phase = 0 ∧ (releaseOf e (warmReset d cause pkg clock s)).pkg = true := by
  have hp : (pkg || d == 0 || packageRunning s) = true := by
    rcases hscope with rfl | rfl <;> simp
  obtain ⟨hstop, hall, -⟩ := warmReset_package (cause := cause) (clock := clock) hc hp
  refine ⟨hstop, fun e he => ?_⟩
  rw [hall e he]
  exact ⟨rfl, rfl⟩

/-- What decides a warm reset stands where neither the releases nor the part change. -/
theorem Touches.scope {m : Nat} {s t : State} (h : Touches m s t) (hr : m.testBit 20 = false) (hp : m.testBit 0 = false)
    (hc : coldRunning s = false) : coldRunning t = false :=
  ((scope_congr (h.releases hr) (h.part hp)).1).trans hc

/-! ### SOFTWARE_RESET (R529) -/

theorem regAt_rstCtl (d : Nat) : regAt d (0x10 * 0x1000 + 0x40) = some (Layout.one 0x40 [Layout.wop 0 1, Layout.rwp 1 1 0, Layout.wop 8 8]) :=
  rfl

theorem rstWrite_ctl {w : RegWrite} {s : State} (ho : w.o = 0x40) (hgo : testBit w.e 0 = true) (hkey : bitsOf w.e 8 8 = 0xA5) :
    rstWrite w s = softReset w.d (w.store s) := by
  unfold rstWrite
  rw [if_pos ho]
  dsimp only
  rw [hgo, hkey]
  exact if_pos rfl

/-- SCOPE is stored with the write that asks for the reset. -/
theorem flag_rstScope_stored {a : Access} {d : Nat} {v : Word} (s : State) (hbar : a.bar2 = false) :
    flag (R.RST.RST_CTL_SCOPE d) ((RegWrite.of a d 0x10 0x40 v).store s) = testBit v.toNat 1 := by
  have h := rd_store_of (a := a) (v := v) (f := Layout.rwp 1 1 0) (regAt_rstCtl d) (List.mem_cons_of_mem _ (List.mem_cons_self ..)) s
  have hlt : bitsOf v.toNat 1 1 ≤ 1 := Nat.le_of_lt_succ (bitsOf_lt v.toNat 1 1)
  have hval : rd (R.RST.RST_CTL_SCOPE d) ((RegWrite.of a d 0x10 0x40 v).store s) = bitsOf v.toNat 1 1 := by
    refine h.trans ?_
    rw [hbar]
    exact (Nat.max_eq_right (Nat.zero_le _)).trans (Nat.min_eq_right hlt)
  unfold flag
  rw [hval]
  unfold testBit bitsOf
  simp

theorem softwareReset_resets {a : Access} {d : Nat} {v : Word} {s : State} (h : Reaches a d 0x10 0x40 s) (hkey : bitsOf v.toNat 8 8 = 0xA5)
    (hc : coldRunning s = false) :
    ∃ t, exec (.softwareReset a d v) s = .next t ∧ (releaseOf d t).phase = 0 ∧ (releaseOf d t).due = s.now + 10000 ∧
      (testBit v.toNat 1 = true ∨ d = 0 → t.safeStop = false ∧ ∀ e < s.dies, (releaseOf e t).phase = 0 ∧ (releaseOf e t).pkg = true) := by
  have hbar : a.bar2 = false := h.bar0 (regAt_rstCtl d) rfl
  have hd : d < s.dies := dieAnswers_lt h.2.1
  have hgo : testBit (v ||| 1).toNat 0 = true := testBit_or_of_set (by decide)
  have hkey' : bitsOf (v ||| 1).toNat 8 8 = 0xA5 := (bitsOf_or_kept (by decide)).trans hkey
  have hexec := (exec_softwareReset (v := v) h).trans (congrArg _ (rstWrite_ctl (w := RegWrite.of a d 0x10 0x40 (v ||| 1))
    (s := landWrite a.rq d s) rfl hgo hkey'))
  have hkept : Touches 0x404 s ((RegWrite.of a d 0x10 0x40 (v ||| 1)).store (landWrite a.rq d s)) :=
    RegWrite.store_touches rfl (landWrite_touches rfl (.refl _ s))
  have hscope := flag_rstScope_stored (d := d) (v := v ||| 1) (landWrite a.rq d s) hbar
  rw [or_bit, show testBit (1 : Word).toNat 1 = false from by decide, Bool.or_false] at hscope
  generalize (RegWrite.of a d 0x10 0x40 (v ||| 1)).store (landWrite a.rq d s) = u at hexec hkept hscope
  have hc' := hkept.scope rfl rfl hc
  obtain ⟨_, _, hrel⟩ := warmReset_release (cause := 5) (pkg := flag (R.RST.RST_CTL_SCOPE d) u) (clock := false) hc'
    (hkept.dies_eq rfl ▸ hd)
  refine ⟨warmReset d 5 (flag (R.RST.RST_CTL_SCOPE d) u) false u, hexec, ?_, ?_, fun hs => ?_⟩
  · rw [hrel]; rfl
  · rw [hrel, hkept.now rfl]; rfl
  · rw [← hkept.dies_eq rfl]
    exact warmReset_whole hc' (hs.imp_left hscope.trans)

/-! ### The watchdogs (R534) -/

theorem dieWatchdogExpire_resets {d : Nat} {s : State} (hup : dieUp d s = true) (hen : flag (R.RST.WDT_CFG_EN d) s = true)
    (hc : coldRunning s = false) (hdue : dogAt d s + 1000000 * rd (R.RST.WDT_CFG_TIMEOUT d) s ≤ s.now) :
    ∃ t, exec (.dieWatchdogExpire d) s = .next t ∧ (releaseOf d t).phase = 0 ∧ (releaseOf d t).due = s.now + 10000 := by
  have hexec : execDieWatchdogExpire d s =
      .next (warmReset d 3 (flag (R.RST.RST_CFG_WDT_PKG d) s) false (fatalFault d 0x10 0 false s)) :=
    if_neg (by rw [hup, hen, decide_eq_false (Nat.not_lt.mpr hdue)]; decide)
  have hkept := fatalFault_touches (d := d) (p := 0x10) (src := 0) (forced := false) (Nat.and_self _) (.refl _ s)
  obtain ⟨_, _, hrel⟩ := warmReset_release (cause := 3) (pkg := flag (R.RST.RST_CFG_WDT_PKG d) s) (clock := false)
    (hkept.scope rfl rfl hc) (hkept.dies_eq rfl ▸ dieUp_lt hup)
  refine ⟨_, Eq.trans (b := execDieWatchdogExpire d s) rfl hexec, ?_, ?_⟩
  · rw [hrel]; rfl
  · rw [hrel, hkept.now rfl]; rfl

theorem pkgWatchdogExpire_resets {s : State} (hup : dieUp 0 s = true) (hen : flag (R.RST.PKG_WDT_CFG_EN 0) s = true)
    (hc : coldRunning s = false) (hdue : dogAt 8 s + 1000000 * rd (R.RST.PKG_WDT_CFG_TIMEOUT 0) s ≤ s.now) :
    ∃ t, exec .pkgWatchdogExpire s = .next t ∧ ∀ e < s.dies, (releaseOf e t).phase = 0 ∧ (releaseOf e t).pkg = true := by
  have hexec : execPkgWatchdogExpire s = .next (warmReset 0 4 true false (safeStopNow (recordFault 0 0x10 1 false s))) :=
    if_neg (by rw [hup, hen, decide_eq_false (Nat.not_lt.mpr hdue)]; decide)
  have hkept := safeStopNow_touches (Nat.and_self _) (recordFault_touches (d := 0) (p := 0x10) (src := 1) (forced := false) rfl (.refl _ s))
  obtain ⟨-, hall⟩ := warmReset_whole (cause := 4) (clock := false) (hkept.scope rfl rfl hc) (.inr rfl)
  rw [hkept.dies_eq rfl] at hall
  exact ⟨_, Eq.trans (b := execPkgWatchdogExpire s) rfl hexec, hall⟩

theorem dogAt_setDog (i : Nat) (s : State) : dogAt i (setDog i s) = s.now := mapGet_set_same ..

theorem dogAt_setDog_ne {i j : Nat} (s : State) (h : j ≠ i) : dogAt j (setDog i s) = dogAt j s := mapGet_set_other _ _ _ h

/-- A kick restarts one count, and nothing else but the record of landed writes changes. -/
theorem setDog_landWrite (i d : Nat) (rq : Requester) (s : State) :
    dogAt i (setDog i (landWrite rq d s)) = s.now ∧ (∀ j, j ≠ i → dogAt j (setDog i (landWrite rq d s)) = dogAt j s) ∧
      setDog i (landWrite rq d s) =
        { s with dogs := (setDog i (landWrite rq d s)).dogs, landed := (setDog i (landWrite rq d s)).landed } := by
  obtain ⟨l, hl⟩ := land_fields rq d s
  rw [hl]
  exact ⟨dogAt_setDog .., fun j hj => dogAt_setDog_ne _ hj, rfl⟩

theorem watchdogKick_restarts {a : Access} {d : Nat} {v : Word} {s : State} (h : Reaches a d 0x10 0x54 s) (hkey : v.toNat % 65536 = 0xC0DE) :
    ∃ t, exec (.watchdogKick a d v) s = .next t ∧ dogAt d t = s.now ∧ (∀ i, i ≠ d → dogAt i t = dogAt i s) ∧
      t = { s with dogs := t.dogs, landed := t.landed } :=
  ⟨setDog d (landWrite a.rq d s), (exec_watchdogKick h).trans (congrArg _ (if_pos (c := v.toNat % 65536 = 0xC0DE) hkey)),
    setDog_landWrite d d a.rq s⟩

theorem pkgWatchdogKick_restarts {a : Access} {v : Word} {s : State} (h : Reaches a 0 0x10 0x64 s) (hkey : v.toNat % 65536 = 0xC0DE) :
    ∃ t, exec (.pkgWatchdogKick a v) s = .next t ∧ dogAt 8 t = s.now ∧ (∀ i, i ≠ 8 → dogAt i t = dogAt i s) ∧
      t = { s with dogs := t.dogs, landed := t.landed } :=
  ⟨setDog 8 (landWrite a.rq 0 s), (exec_pkgWatchdogKick h).trans (congrArg _ (if_pos (c := v.toNat % 65536 = 0xC0DE) hkey)),
    setDog_landWrite 8 0 a.rq s⟩

/-! ### A reference that fails (R548) -/

/-- The clocks of the dies that a missing reference affects. -/
def referenceLost (d : Nat) (s : State) : State :=
  (refDies d s).foldl (fun s e =>
    bump (R.CLK.CLKFAIL_CNT_COUNT e) (wr (R.CLK.CLK_STAT_ON_RC e) 1 (wr (R.CLK.CLK_STAT_REF_OK e) 0
      ([0, 1, 2, 3].foldl (fun s p => pllBypass e p s) s)))) s

theorem referenceLost_kept (d : Nat) (s : State) : Touches 0x1104 s (referenceLost d s) :=
  foldl_touches (fun _ _ ht => bump_touches rfl (wr_touches rfl (wr_touches rfl (foldl_touches (fun _ _ hu => pllBypass_touches rfl hu) ht))))
    (.refl _ s)

theorem clockFailure_notes {d : Nat} {s : State} (hd : d < s.dies) (hok : flag (R.CLK.CLK_STAT_REF_OK d) s = true) :
    ∃ t, exec (.clockFailure d) s = .next t ∧ t.clkFails = s.clkFails ++ [(d, s.now)] := by
  generalize hu : (refDies d s).foldl (fun s e => spoilDie e 11 s) (referenceLost d s) = u
  have hexec : execClockFailure d s = .next ((refDies d s).foldl (fun s e => fatalFault e 0x11 0 false s)
      { u with clkFails := u.clkFails ++ [(d, u.now)] }) := by
    rw [← hu]
    exact if_neg (fun h => h.elim (Nat.not_le.mpr hd) (by rw [hok]; decide))
  have hbefore : Touches 0xc0790182003104 s u :=
    hu ▸ foldl_touches (fun _ _ ht => spoilDie_touches rfl ht)
      (foldl_touches (fun _ _ ht => bump_touches rfl (wr_touches rfl (wr_touches rfl (foldl_touches (fun _ _ hu => pllBypass_touches rfl hu) ht))))
        (.refl _ s))
  have hafter : Touches 0x1a0195cbf9018207b004 { u with clkFails := u.clkFails ++ [(d, u.now)] } _ :=
    foldl_touches (l := refDies d s) (fun t e ht => fatalFault_touches (d := e) (p := 0x11) (src := 0) (forced := false) rfl ht) (.refl _ _)
  refine ⟨_, Eq.trans (b := execClockFailure d s) rfl hexec, (hafter.clkFails rfl).trans ?_⟩
  change u.clkFails ++ [(d, u.now)] = _
  rw [hbefore.clkFails rfl, hbefore.now rfl]

theorem clockFailureWarmReset_waits {d e : Nat} {s : State} (hnoted : s.clkFails.find? (fun x => x.1 == d) = some (d, e))
    (hdue : e + 10000 ≤ s.now) (hd : d < s.dies) (hc : coldRunning s = false) :
    ∃ t, exec (.clockFailureWarmReset d) s = .next t ∧ (releaseOf d t).phase = 0 ∧ (releaseOf d t).refCheck = true := by
  have hexec : execClockFailureWarmReset d s =
      .next (warmReset d 7 (decide (s.straps.clockCode ≠ 1)) true { s with clkFails := s.clkFails.erase (d, e) }) := by
    unfold execClockFailureWarmReset
    rw [hnoted]
    exact if_pos hdue
  obtain ⟨_, _, hrel⟩ := warmReset_release (cause := 7) (pkg := decide (s.straps.clockCode ≠ 1)) (clock := true)
    (s := { s with clkFails := s.clkFails.erase (d, e) }) hc hd
  refine ⟨_, Eq.trans (b := execClockFailureWarmReset d s) rfl hexec, ?_, ?_⟩
  · rw [hrel]; rfl
  · rw [hrel]; rfl

/-! ### WARM_RESET_RELEASE (R522, R532) -/

/-- Step 4 of a release: the die waits for its PLLs, or for the mortar where they are locked. -/
theorem releaseOf_toPlls (d : Nat) (s : State) :
    (releaseOf d (toPlls d s)).phase = if pllsLocked d (toPlls d s) then 5 else 4 := by
  have hlocked : pllsLocked d (toPlls d s) = pllsLocked d ([0, 1, 2, 3].foldl
      (fun s p => if rd (R.CLK.PLL_STAT_STATE d p) s = 0 then wr (R.CLK.PLL_STAT_STATE d p) 1 s else s) s) := rfl
  rw [hlocked]
  unfold toPlls
  dsimp only
  rw [releaseOf_setRelease]

theorem warmResetRelease_goes_on {d : Nat} {s : State} (hd : d < s.dies) (hph : (releaseOf d s).phase = 0)
    (hheld : (releaseOf d s).held = false) (hdue : (releaseOf d s).due ≤ s.now) (hcool : (thermalOf d s).hot = false) :
    ∃ t, exec (.warmResetRelease d) s = .next t ∧ (thermalOf d t).hot = false ∧
      ((releaseOf d s).refCheck = true → releaseOf d t = { releaseOf d s with phase := 3 }) ∧
      ((releaseOf d s).refCheck = false → (releaseOf d t).phase = if pllsLocked d t then 5 else 4) := by
  have hexec : execWarmResetRelease d s = .next (if (releaseOf d s).refCheck
      then setRelease d { releaseOf d s with phase := 3 } (setThermal d { thermalOf d s with hot := false } s)
      else toPlls d (setThermal d { thermalOf d s with hot := false } s)) :=
    if_neg (by rw [hheld, hcool]; simp; omega)
  refine ⟨_, Eq.trans (b := execWarmResetRelease d s) rfl hexec, ?_, fun hr => ?_, fun hr => ?_⟩
  · split
    · exact congrArg Thermal.hot (thermalOf_setThermal ..)
    · rw [(toPlls_touches (Nat.and_self _) (.refl _ _)).thermalOf_eq rfl, thermalOf_setThermal]
  · rw [if_pos hr, releaseOf_setRelease]
  · rw [if_neg (by rw [hr]; decide), releaseOf_toPlls]

/-! ### PLL_LOCK_LOSS (R546, R547) -/

/-- Between reference and islands the release of a die goes back to its PLLs. -/
def waitsForPlls (d : Nat) (s : State) : State :=
  if (releaseOf d s).phase = 5 ∨ (releaseOf d s).phase = 6 then setRelease d { releaseOf d s with phase := 4 } s else s

theorem phase_waitsForPlls (d : Nat) (s : State) : (releaseOf d (waitsForPlls d s)).phase =
    if (releaseOf d s).phase = 5 ∨ (releaseOf d s).phase = 6 then 4 else (releaseOf d s).phase := by
  unfold waitsForPlls
  split
  · rw [releaseOf_setRelease]
  · rfl

theorem rd_waitsForPlls (d : Nat) (l : Loc) (s : State) : rd l (waitsForPlls d s) = rd l s := by
  unfold waitsForPlls
  split <;> rfl

theorem execPllLockLoss_locked {d p : Nat} {s : State} (hd : d < s.dies) (hp : p < 4) (hlocked : rd (R.CLK.PLL_STAT_STATE d p) s = 2) :
    ∃ t, execPllLockLoss d p s = .next t ∧ Touches 0x1a0100c1f9018205b004 (waitsForPlls d (pllBypass d p s)) t ∧
      (p = 1 → t = recordFault d 0x11 2 false (waitsForPlls d (pllBypass d p s))) := by
  have hgo : ¬ (s.dies ≤ d ∨ 4 ≤ p ∨ rd (R.CLK.PLL_STAT_STATE d p) s ≠ 2) := by omega
  unfold execPllLockLoss
  rw [if_neg hgo]
  dsimp only
  change ∃ t, (if p = 1 then Host.Outcome.next (recordFault d 0x11 2 false (waitsForPlls d (pllBypass d p s))) else _) = _ ∧ _
  split
  · exact ⟨_, rfl, recordFault_touches rfl (.refl _ _), fun _ => rfl⟩
  · next h1 =>
    have hstations := clockStations_touches (msk := 0x1a0100c1f9018205b004) (d := d) rfl
      (recordFault_touches (d := d) (p := 0x11) (src := 1) (forced := false) rfl (.refl _ (waitsForPlls d (pllBypass d p s))))
    have hmem := touches_ite (c := p = 2) (memSelfRefresh_touches (d := d) (show Sub 4 0x1a0100c1f9018205b004 from rfl) hstations) hstations
    exact ⟨_, rfl, touches_ite (foldl_touches (fun _ _ ht => touches_ite ht (laneDown_touches rfl ht)) hmem) hmem, fun h => absurd h h1⟩

theorem blockWord_pllStat (d : Nat) {p : Nat} (hp : p < 4) : BlockWord (R.CLK.PLL_STAT_STATE d p).addr :=
  blockWord_addr (by decide) (show 0x44 + 4 * p < 0x1000 by omega) (.inr ⟨by decide, by decide, by decide, show 0x40 ≤ 0x44 + 4 * p by omega⟩)

/-- A PLL that loses lock is in bypass. -/
theorem rd_pllBypass {d p : Nat} {s : State} (hp : p < 4) (hlocked : rd (R.CLK.PLL_STAT_STATE d p) s = 2) :
    rd (R.CLK.PLL_STAT_STATE d p) (pllBypass d p s) = 3 := by
  unfold pllBypass
  rw [if_neg (fun h => h hlocked)]
  dsimp only
  rw [rd_evt_block (blockWord_pllStat d hp) (by decide)]
  exact (rd_wr_of_apart (apart_page (.inr (by decide))) _ _).trans (rd_wr_lt (l := R.CLK.PLL_STAT_STATE d p) _
    (show 0 + 2 ≤ 32 by decide) (show 3 < 2 ^ 2 by decide))

theorem pllLockLoss_waits {d p : Nat} {s : State} (hd : d < s.dies) (hp : p < 4) (hlocked : rd (R.CLK.PLL_STAT_STATE d p) s = 2) :
    ∃ t, exec (.pllLockLoss d p) s = .next t ∧
      (releaseOf d t).phase = (if (releaseOf d s).phase = 5 ∨ (releaseOf d s).phase = 6 then 4 else (releaseOf d s).phase) ∧
      (p = 1 → rd (R.CLK.PLL_STAT_STATE d 1) t = 3) := by
  obtain ⟨t, hexec, hkept, hone⟩ := execPllLockLoss_locked hd hp hlocked
  have hbypass := (pllBypass_touches (d := d) (p := p) (Nat.and_self _) (.refl _ s)).releaseOf_eq rfl d
  refine ⟨t, Eq.trans (b := execPllLockLoss d p s) rfl hexec, ?_, ?_⟩
  · rw [hkept.releaseOf_eq rfl, phase_waitsForPlls, hbypass]
  · rintro rfl
    rw [hone rfl, rd_recordFault_block (blockWord_pllStat d (by decide)) (by decide), rd_waitsForPlls]
    exact rd_pllBypass (by decide) hlocked

/-- Settles O47: what each source of reset leaves of the releases, and which count a kick restarts. -/
theorem warmResetCommandsAct : Obligations.WarmResetCommandsAct := by
  unfold Obligations.WarmResetCommandsAct
  refine ⟨?_, ?_, ?_, ?_, ?_, ?_, ?_, ?_, ?_⟩
  · exact fun a d v s => softwareReset_resets
  · exact fun d s => dieWatchdogExpire_resets
  · exact fun s => pkgWatchdogExpire_resets
  · exact fun a d v s => watchdogKick_restarts
  · exact fun a v s => pkgWatchdogKick_restarts
  · exact fun d s => clockFailure_notes
  · exact fun d e s => clockFailureWarmReset_waits
  · exact fun d s => warmResetRelease_goes_on
  · exact fun d p s => pllLockLoss_waits

end Sys2Proof.Machine
end

section
/-! PROOFS. Cold reset and the release of the dies (R529, R536, R538, R541, R545, R547). -/

namespace Sys2Proof.Machine

/-- What one step of a fold establishes and no step undoes holds at its end. -/
theorem foldl_establishes {α β : Type} {P : β → Prop} {f : β → α → β} {l : List α} {a : α} (ha : a ∈ l) (hset : ∀ t, P (f t a))
    (hkeep : ∀ b t, P t → P (f t b)) (s : β) : P (l.foldl f s) := by
  have hall : ∀ (l : List α) t, P t → P (l.foldl f t) := fun l => by
    induction l with
    | nil => exact fun _ h => h
    | cons b l ih => exact fun t h => ih _ (hkeep b t h)
  induction l generalizing s with
  | nil => exact absurd ha List.not_mem_nil
  | cons b l ih =>
    rw [List.foldl_cons]
    rcases List.mem_cons.mp ha with rfl | ha
    · exact hall l _ (hset s)
    · exact ih ha _

/-! ### Power on, brown-out and the reset pin (R529, R530) -/

/-- The sequencer's table is loaded into registers of D0's SEQ page. -/
theorem word_railTableLoad {a : Nat} (h : BlockWord a) (hseq : ∀ o < 0x1000, a ≠ Layout.addr 0 0x13 o) (s : State) :
    word a (railTableLoad s) = word a s := by
  have hread : word a (nvReadChecked 0 0x1C0000 832 s).2.2 = word a s := by
    unfold nvReadChecked
    split
    · unfold nvUncorrectable
      rw [evt_block h (by decide), recordFault_block h (by decide)]
      exact word_bump_ne _ (h.ne_low (p := 0x15) (.inr (.inr rfl)) (by decide))
    · rfl
  unfold railTableLoad
  dsimp only
  split
  · rw [evt_block h (by decide), word_wr_ne _ _ (hseq 0x40 (by decide)), word_wr_ne _ _ (hseq 0x44 (by decide)), hread]
  · refine (foldl_unchanged (f := word a) fun n hn t => ?_).trans ?_
    · have hn := List.mem_range.mp hn
      rw [word_wr_ne _ _ (hseq (0x10C + 0x20 * n) (by omega)), word_wr_ne _ _ (hseq (0x10C + 0x20 * n) (by omega)),
        word_wr_ne _ _ (hseq (0x108 + 0x20 * n) (by omega)), word_wr_ne _ _ (hseq (0x108 + 0x20 * n) (by omega)),
        word_wr_ne _ _ (hseq (0x104 + 0x20 * n) (by omega)), word_wr_ne _ _ (hseq (0x104 + 0x20 * n) (by omega)),
        word_putWord_ne (b := (R.SEQ.RCFG_PREREQ 0 n).addr) _ _ (hseq (0x100 + 0x20 * n) (by omega))]
    · rw [word_wr_ne _ _ (hseq 0x40 (by decide)), word_wr_ne _ _ (hseq 0x44 (by decide)), word_wr_ne _ _ (hseq 0x5C (by decide)), hread]

/-- The log scan sets where the log goes on, and shows what it found. -/
theorem logScan_shows (s : State) : ∃ next valid invalid seq, logScan s =
    wr (R.NVS.LOG_HEAD_SLOT 0) next (wr (R.NVS.LOG_SEQ_SEQ 0) seq (wr (R.NVS.LOG_STAT_INVALID 0) invalid
      (wr (R.NVS.LOG_STAT_VALID 0) valid { s with logSeq := next }))) := by
  unfold logScan
  exact ⟨_, _, _, _, rfl⟩

theorem word_logScan {a : Nat} (h : BlockWord a) (s : State) : word a (logScan s) = word a s := by
  have hlow : ∀ o, 0x10 ≤ o ∧ o < 0x1000 → a ≠ Layout.addr 0 0x15 o := fun o ho => h.ne_low (.inr (.inr rfl)) ho
  obtain ⟨next, valid, invalid, seq, hscan⟩ := logScan_shows s
  rw [hscan, word_wr_ne _ _ (hlow 0x50 (by decide)), word_wr_ne _ _ (hlow 0x54 (by decide)), word_wr_ne _ _ (hlow 0x5C (by decide)),
    word_wr_ne _ _ (hlow 0x5C (by decide))]
  rfl

/-- The die is in cold reset, and its cause register holds the one bit of this cause. -/
def ColdHeld (d cause : Nat) (t : State) : Prop :=
  releaseOf d t = { phase := 1, cold := true } ∧ rd (R.RST.RST_CAUSE_CAUSE d) t = 2 ^ cause

/-- The clocks of a die under cold reset show no PLL and no reference. -/
def coldClocks (d : Nat) (s : State) : State :=
  [0, 1, 2, 3].foldl (fun s p => wr (R.CLK.PLL_STAT_STATE d p) 0 s) (wr (R.CLK.CLK_STAT_REF_OK d) 0 s)

/-- The offsets of the RST page that a cold reset keeps: the fuses. -/
def fuseOffsets : List Nat := 0x74 :: (List.range 8).map (fun i => 0x80 + 4 * i)

theorem fuseOffsets_mem : ∀ o ∈ fuseOffsets, 0x44 < o ∧ o < 0x1000 := by decide

/-- The registers that a cold reset gives a die. -/
def coldRegs (d cause : Nat) (old s : State) : State :=
  fuseOffsets.foldl (fun s o => putWord (Layout.addr d 0x10 o) (word (Layout.addr d 0x10 o) old) s)
    (wr (R.RST.RST_CAUSE_CAUSE d) (2 ^ cause) (coldClocks d s))

theorem coldDie_eq (d cause : Nat) (old s : State) : coldDie d cause old s =
    setClock d { c0 := (coldRegs d cause old s).now } (setRelease d { phase := 1, cold := true } (coldRegs d cause old s)) := rfl

theorem coldRegs_kept (d cause : Nat) (old s : State) : Touches 4 s (coldRegs d cause old s) :=
  foldl_touches (fun _ _ ht => putWord_touches rfl ht) (wr_touches rfl (foldl_touches (fun _ _ ht => wr_touches rfl ht)
    (wr_touches rfl (.refl _ s))))

theorem word_coldDie (a d cause : Nat) (old s : State) : word a (coldDie d cause old s) = word a (coldRegs d cause old s) := by
  rw [coldDie_eq]
  exact (setClock_touches (msk := 0x100100) rfl (setRelease_touches rfl (.refl _ _))).word_eq rfl a

theorem rd_cause_coldDie (d cause : Nat) (old s : State) (hc : cause < 9) :
    rd (R.RST.RST_CAUSE_CAUSE d) (coldDie d cause old s) = 2 ^ cause := by
  rw [rd_of_word (word_coldDie ..)]
  refine (foldl_unchanged (f := rd (R.RST.RST_CAUSE_CAUSE d)) fun o ho t => rd_putWord_ne _ _ (addr_ne_offset ?_)).trans ?_
  · have := fuseOffsets_mem o ho
    omega
  · exact rd_wr_lt _ (show 0 + 9 ≤ 32 by decide) (show 2 ^ cause < 2 ^ 9 from Nat.pow_lt_pow_right (by decide) hc)

/-- The reset of one die leaves the RST page of another. -/
theorem word_coldDie_ne {d e cause o : Nat} (old s : State) (h : d ≠ e) (ho : o < 0x1000) :
    word (Layout.addr d 0x10 o) (coldDie e cause old s) = word (Layout.addr d 0x10 o) s := by
  have hne : ∀ p o', p < 256 → o' < 0x1000 → Layout.addr d 0x10 o ≠ Layout.addr e p o' :=
    fun p o' hp ho' => addr_ne (by decide) ho hp ho' (.inl h)
  have hclocks : word (Layout.addr d 0x10 o) (coldClocks e s) = word (Layout.addr d 0x10 o) s := by
    refine (foldl_unchanged (f := word (Layout.addr d 0x10 o)) fun p hp t =>
      word_wr_ne _ _ (hne 0x11 (0x44 + 4 * p) (by decide) ?_)).trans (word_wr_ne _ _ (hne 0x11 0x40 (by decide) (by decide)))
    simp only [List.mem_cons, List.not_mem_nil, or_false] at hp
    omega
  rw [word_coldDie]
  exact (foldl_unchanged (f := word (Layout.addr d 0x10 o)) fun o' ho' t =>
    word_putWord_ne _ _ (hne 0x10 o' (by decide) (fuseOffsets_mem o' ho').2)).trans
      ((word_wr_ne _ _ (hne 0x10 0x44 (by decide) (by decide))).trans hclocks)

theorem coldHeld_coldDie (d e cause : Nat) (old s : State) (hc : cause < 9) (h : d = e ∨ ColdHeld d cause s) :
    ColdHeld d cause (coldDie e cause old s) := by
  by_cases hde : d = e
  · subst hde
    refine ⟨?_, rd_cause_coldDie d cause old s hc⟩
    rw [coldDie_eq, (setClock_touches (msk := 0x100) rfl (.refl _ _)).releaseOf_eq rfl, releaseOf_setRelease]
  · obtain ⟨hrel, hcause⟩ := h.resolve_left hde
    refine ⟨?_, (rd_of_word (word_coldDie_ne old s hde (by decide))).trans hcause⟩
    rw [coldDie_eq, (setClock_touches (msk := 0x100) rfl (.refl _ _)).releaseOf_eq rfl, releaseOf_setRelease_ne _ _ hde,
      (coldRegs_kept ..).releaseOf_eq rfl, hrel]

theorem coldReset_holds {d cause : Nat} {s : State} (hd : d < s.dies) (hc : cause < 9) :
    (releaseOf d (coldReset cause s)).phase = 1 ∧ (releaseOf d (coldReset cause s)).cold = true ∧ (coldReset cause s).fenced = [] ∧
      (coldReset cause s).safeStop = false ∧ rd (R.RST.RST_CAUSE_CAUSE d) (coldReset cause s) = 2 ^ cause := by
  generalize hs0 : (List.range (2 * s.dies)).foldl (fun s k => ageAbandon k s) (logAbandon s) = s0
  have hbefore : Touches 0x81800001800000045014 s s0 :=
    hs0 ▸ foldl_touches (fun _ _ ht => ageAbandon_touches rfl ht) (logAbandon_touches rfl (.refl _ s))
  generalize hs1 : (List.range s0.dies).foldl (fun t e => coldDie e cause s0 t) (coldState s0) = s1
  have hheld : ColdHeld d cause s1 := hs1 ▸ foldl_establishes (List.mem_range.mpr (hbefore.dies_eq rfl ▸ hd))
    (fun t => coldHeld_coldDie d d cause s0 t hc (.inl rfl)) (fun e t h => coldHeld_coldDie d e cause s0 t hc (.inr h)) _
  have hdies : Touches 0x100104 (coldState s0) s1 := hs1 ▸ foldl_touches (fun _ _ ht => coldDie_touches rfl ht) (.refl _ _)
  generalize hs2 : (List.range 24).foldl (fun t n => wr (R.SEQ.RSTAT_PG 0 n) (rd (R.SEQ.RSTAT_PG 0 n) s0) t) s1 = s2
  have hreset : coldReset cause s = logTrigger 1 0 (logScan (railTableLoad s2)) := by
    rw [← hs2, ← hs1, hbefore.dies_eq rfl, ← hs0]
    rfl
  have hafter : Touches 0x1000001800000041004 s1 (logTrigger 1 0 (logScan (railTableLoad s2))) :=
    logTrigger_touches rfl (logScan_touches rfl (railTableLoad_touches rfl
      (hs2 ▸ foldl_touches (fun _ _ ht => wr_touches rfl ht) (.refl _ s1))))
  have hblock : BlockWord (R.RST.RST_CAUSE_CAUSE d).addr := blockWord_addr (by decide) (by decide) (.inr (by decide))
  have hseq : ∀ o < 0x1000, (R.RST.RST_CAUSE_CAUSE d).addr ≠ Layout.addr 0 0x13 o :=
    fun o ho => addr_ne (by decide) (by decide) (by decide) ho (.inr (.inl (by decide)))
  have hword : word (R.RST.RST_CAUSE_CAUSE d).addr (logTrigger 1 0 (logScan (railTableLoad s2))) =
      word (R.RST.RST_CAUSE_CAUSE d).addr s1 := by
    rw [logTrigger_block hblock, word_logScan hblock, word_railTableLoad hblock hseq, ← hs2]
    exact foldl_unchanged fun n hn t => word_wr_ne _ _ (hseq _ (by have := List.mem_range.mp hn; omega))
  rw [hreset, hafter.releaseOf_eq rfl, hheld.1, hafter.fenced rfl, hafter.safeStop rfl, hdies.fenced rfl, hdies.safeStop rfl,
    rd_of_word hword, hheld.2]
  exact ⟨rfl, rfl, rfl, rfl, rfl⟩

/-! ### STRAP_SAMPLE (R541, R542) -/

theorem strapSample_goes_on {boot clkm prof : Nat} {legacy : Bool} {s : State} (h : (releaseOf 0 s).phase = 1) :
    ∃ t, exec (.strapSample boot clkm prof legacy) s = .next t ∧
      t.straps = ⟨boot % 8, clkm % 4, prof % 8, legacy, decide (5 ≤ boot % 8) || decide (clkm % 4 = 3) || decide (prof % 8 = 7)⟩ ∧
      ∀ d, d < s.dies → (releaseOf d t).phase = 3 ∧ (releaseOf d t).refCheck = true := by
  generalize hs1 : ({ s with
    straps := ⟨boot % 8, clkm % 4, prof % 8, legacy, decide (5 ≤ boot % 8) || decide (clkm % 4 = 3) || decide (prof % 8 = 7)⟩
    strapsAt := some s.now } : State) = s1
  generalize hs2 : (List.range s1.dies).foldl (fun s d => (allPages d s).foldl (fun s p => strapRegs d p (putPageCtl d p s)) s) s1 = s2
  have hregs : Touches 4 s1 s2 := hs2 ▸ foldl_touches (fun _ _ ht => foldl_touches (fun _ _ hu =>
    strapRegs_touches rfl (putPageCtl_touches rfl hu)) ht) (.refl _ s1)
  have hexec : execStrapSample boot clkm prof legacy s = .next ((List.range s2.dies).foldl
      (fun s d => setRelease d { releaseOf d s with phase := 3, refCheck := true } s) s2) := by
    subst hs2 hs1
    exact if_neg (fun hn => hn h)
  have hrel : Touches 0x100000 s2 ((List.range s2.dies).foldl
      (fun s d => setRelease d { releaseOf d s with phase := 3, refCheck := true } s) s2) :=
    foldl_touches (fun _ _ ht => setRelease_touches rfl ht) (.refl _ s2)
  refine ⟨_, Eq.trans (b := execStrapSample boot clkm prof legacy s) rfl hexec, ?_, fun d hd => ?_⟩
  · rw [hrel.straps rfl, hregs.straps rfl, ← hs1]
  · have hd2 : d ∈ List.range s2.dies := List.mem_range.mpr (by rw [hregs.dies_eq rfl, ← hs1]; exact hd)
    refine foldl_establishes (P := fun t => (releaseOf d t).phase = 3 ∧ (releaseOf d t).refCheck = true) hd2 (fun t => ?_)
      (fun e t ht => ?_) s2
    · rw [releaseOf_setRelease]
      exact ⟨rfl, rfl⟩
    · by_cases hde : d = e
      · rw [hde, releaseOf_setRelease]
        exact ⟨rfl, rfl⟩
      · rw [releaseOf_setRelease_ne _ _ hde]
        exact ht

/-! ### REFERENCE_CHECK (R536) -/

theorem errHoldCheck_kept (s : State) : Touches 0x400000000000000080000 s (errHoldCheck s) := errHoldCheck_touches rfl (.refl _ s)

theorem pllsLocked_congr {d : Nat} {s t : State} (h : ∀ l, rd l t = rd l s) : pllsLocked d t = pllsLocked d s := by
  unfold pllsLocked
  simp only [h]

/-- The PLLs' own registers are those that a release writes. -/
theorem rd_clkStat_toPlls (d i w : Nat) (s : State) :
    rd ⟨Layout.addr d 0x11 0x40, i, w⟩ (toPlls d s) = rd ⟨Layout.addr d 0x11 0x40, i, w⟩ s :=
  foldl_unchanged (f := rd ⟨Layout.addr d 0x11 0x40, i, w⟩) (l := [0, 1, 2, 3])
    (g := fun s p => if rd (R.CLK.PLL_STAT_STATE d p) s = 0 then wr (R.CLK.PLL_STAT_STATE d p) 1 s else s) fun p _ t => by
      split
      · exact rd_wr_ne _ _ (addr_ne_offset (show 0x40 ≠ 0x44 + 4 * p by omega))
      · rfl

theorem referenceCheck_good {d : Nat} {s : State} (hd : d < s.dies) (h : (releaseOf d s).phase = 3) :
    ∃ t, exec (.referenceCheck d true) s = .next t ∧ flag (R.CLK.CLK_STAT_REF_OK d) t = true ∧
      (releaseOf d t).phase = if pllsLocked d t then 5 else 4 := by
  generalize hu : wr (R.CLK.CLK_STAT_ON_RC d) 0 (wr (R.CLK.CLK_STAT_REF_OK d) 1 s) = u
  have hexec : execReferenceCheck d true s = .next (errHoldCheck (toPlls d u)) := by
    rw [← hu]
    exact (if_neg (by omega)).trans (if_pos rfl)
  have hok : flag (R.CLK.CLK_STAT_REF_OK d) u = true := by
    rw [← hu]
    exact (flag_wr_of_apart (apart_page (.inr (by decide))) _ _).trans (flag_wr_one _ (show 0 + 1 ≤ 32 by decide) rfl)
  refine ⟨_, Eq.trans (b := execReferenceCheck d true s) rfl hexec, ?_, ?_⟩
  · rw [(errHoldCheck_kept _).flag_eq rfl]
    exact (congrArg (· != 0) (rd_clkStat_toPlls d 0 1 u)).trans hok
  · rw [(errHoldCheck_kept _).releaseOf_eq rfl, releaseOf_toPlls, pllsLocked_congr ((errHoldCheck_kept (toPlls d u)).rd_eq rfl)]

theorem referenceCheck_bad {d at_ : Nat} {s : State} (hd : d < s.dies) (h : (releaseOf d s).phase = 3) (hat : s.strapsAt = some at_)
    (hdue : at_ + 10000000 ≤ s.now) : ∃ t, exec (.referenceCheck d false) s = .next t ∧ t.errAonHold = true := by
  have hexec : execReferenceCheck d false s = .next { s with errAonHold := true } := by
    unfold execReferenceCheck
    rw [if_neg (by omega), if_neg (by decide), hat]
    exact congrArg _ (if_pos hdue)
  exact ⟨_, Eq.trans (b := execReferenceCheck d false s) rfl hexec, rfl⟩

/-! ### PLL_LOCK (R545, R547) -/

/-- A memory PLL that locks again wakes page memory. -/
def memRelocked (d p : Nat) (s u : State) : State :=
  if (rd (R.CLK.PLL_STAT_STATE d p) s == 3) ∧ p = 2 ∧ domSt d 7 s = 2 then memWake d u else u

/-- A lane PLL that locks again starts the lanes. -/
def relockStarts (d p : Nat) (s u : State) : State :=
  if (rd (R.CLK.PLL_STAT_STATE d p) s == 3) ∧ p = 3 then (List.range 12).foldl (fun s n => laneStart d n s) (memRelocked d p s u)
  else memRelocked d p s u

theorem relockStarts_kept (d p : Nat) (s u : State) : Touches 0x2000000000000001004 u (relockStarts d p s u) :=
  have hmem := touches_ite (c := (rd (R.CLK.PLL_STAT_STATE d p) s == 3) ∧ p = 2 ∧ domSt d 7 s = 2)
    (memWake_touches (d := d) (show Sub 4 0x2000000000000001004 from rfl) (.refl _ u)) (.refl _ u)
  touches_ite (foldl_touches (fun _ _ ht => laneStart_touches rfl ht) hmem) hmem

theorem word_memRelocked {a d p : Nat} (ha : BelowLinks a) (s u : State) : word a (memRelocked d p s u) = word a u := by
  have hmem : a ≠ Layout.addr d 0x38 0x48 := ha.ne_page (by decide) (by decide) (by decide)
  unfold memRelocked memWake
  split
  · split
    · exact (word_wr_ne (l := R.MEMC.MSTAT_FITTED d) _ _ hmem).trans (word_wr_ne (l := R.MEMC.MSTAT_STATE d) _ _ hmem)
    · rfl
  · rfl

theorem word_laneStart {a d n : Nat} (ha : BlockWord a) (hn : n < 12) (hlane : ∀ o < 0x1000, a ≠ Layout.addr d (lanePage n) o) (t : State) :
    word a (laneStart d n t) = word a t := by
  unfold laneStart
  split
  · rfl
  · dsimp only
    split
    · exact evt_block ha (by unfold lanePage; omega)
    · exact (word_wr_ne (l := R.LANE.LSTAT_STATE d n) _ _ (hlane 0x48 (by decide))).trans
        ((setLane_touches (Nat.and_self _) (.refl _ t)).word_eq rfl a)

/-- Neither writes the clock page. -/
theorem word_relockStarts {a d p : Nat} (ha : BelowLinks a) (hlane : ∀ n < 12, ∀ o < 0x1000, a ≠ Layout.addr d (lanePage n) o)
    (s u : State) : word a (relockStarts d p s u) = word a u := by
  unfold relockStarts
  split
  · exact (foldl_unchanged (f := word a) fun n hn t =>
      word_laneStart ha.blockWord (List.mem_range.mp hn) (hlane n (List.mem_range.mp hn)) t).trans (word_memRelocked ha s u)
  · exact word_memRelocked ha s u

/-- The release of a die that waits for its PLLs goes on once all have locked. -/
def pllsWaited (d : Nat) (s : State) : State :=
  if (releaseOf d s).phase = 4 ∧ pllsLocked d s then setRelease d { releaseOf d s with phase := 5 } s else s

theorem rd_pllsWaited (d : Nat) (s : State) (l : Loc) : rd l (pllsWaited d s) = rd l s := by
  unfold pllsWaited
  split <;> rfl

theorem phase_pllsWaited (d : Nat) (s : State) : (releaseOf d (pllsWaited d s)).phase =
    if (releaseOf d s).phase = 4 ∧ pllsLocked d (pllsWaited d s) = true then 5 else (releaseOf d s).phase := by
  rw [pllsLocked_congr (rd_pllsWaited d s)]
  unfold pllsWaited
  split
  · rw [releaseOf_setRelease]
  · rfl

/-- The free-running counter of a die whose system PLL locks again goes on from where the bypass left it. -/
def clockRelocked (d p : Nat) (s : State) : State :=
  let c := clockOf d s
  let n := s.now - c.c0
  if (rd (R.CLK.PLL_STAT_STATE d p) s == 3) ∧ p = 0 then setClock d { c with c0 := s.now - (c.byp + (n - c.byp) / 10 * 10) } s else s

/-- The PLL shows lock, with the event of a lock that is not the first. -/
def pllLockShown (d p : Nat) (s : State) : State :=
  let s1 := wr (R.CLK.PLL_STAT_STATE d p) 2 (clockRelocked d p s)
  if rd (R.CLK.PLL_STAT_STATE d p) s == 3 then evt d 0x11 1 s1 else s1

theorem pllLockShown_kept (d p : Nat) (s : State) : Touches 0x1104 s (pllLockShown d p s) :=
  have hclock := touches_ite (c := (rd (R.CLK.PLL_STAT_STATE d p) s == 3) = true ∧ p = 0)
    (setClock_touches (show Sub 0x100 0x1104 from rfl) (.refl _ s)) (.refl _ s)
  have hshown := wr_touches (l := R.CLK.PLL_STAT_STATE d p) (v := 2) (show Sub 4 0x1104 from rfl) hclock
  touches_ite (evt_touches rfl hshown) hshown

theorem execPllLock_locks {d p : Nat} {s : State} (hd : d < s.dies) (hp : p < 4)
    (hst : rd (R.CLK.PLL_STAT_STATE d p) s = 1 ∨ rd (R.CLK.PLL_STAT_STATE d p) s = 3) (hok : flag (R.CLK.CLK_STAT_REF_OK d) s = true) :
    execPllLock d p s = .next (pllsWaited d (relockStarts d p s (pllLockShown d p s))) := by
  have hgo : ¬ (s.dies ≤ d ∨ 4 ≤ p ∨ rd (R.CLK.PLL_STAT_STATE d p) s = 2 ∨ rd (R.CLK.PLL_STAT_STATE d p) s = 0 ∨
      flag (R.CLK.CLK_STAT_REF_OK d) s = false) := by
    rw [hok]
    simp only [Bool.true_eq_false, or_false]
    omega
  exact if_neg hgo

theorem belowLinks_pllStat (d : Nat) {p : Nat} (hp : p < 4) : BelowLinks (R.CLK.PLL_STAT_STATE d p).addr :=
  ⟨d, 0x11, 0x44 + 4 * p, rfl, by decide, by omega, .inr ⟨by decide, by decide, by decide, by omega⟩⟩

theorem pllLock_locks {d p : Nat} {s : State} (hd : d < s.dies) (hp : p < 4)
    (hst : rd (R.CLK.PLL_STAT_STATE d p) s = 1 ∨ rd (R.CLK.PLL_STAT_STATE d p) s = 3) (hok : flag (R.CLK.CLK_STAT_REF_OK d) s = true) :
    ∃ t, exec (.pllLock d p) s = .next t ∧ rd (R.CLK.PLL_STAT_STATE d p) t = 2 ∧
      (releaseOf d t).phase = if (releaseOf d s).phase = 4 ∧ pllsLocked d t = true then 5 else (releaseOf d s).phase := by
  have hlow := belowLinks_pllStat d hp
  have hlane : ∀ n < 12, ∀ o < 0x1000, (R.CLK.PLL_STAT_STATE d p).addr ≠ Layout.addr d (lanePage n) o := fun n hn o ho =>
    addr_ne (by decide) (by omega) (by unfold lanePage; omega) ho (.inr (.inl (by unfold lanePage; omega)))
  have hwr : ∀ u, rd (R.CLK.PLL_STAT_STATE d p) (wr (R.CLK.PLL_STAT_STATE d p) 2 u) = 2 := fun u =>
    rd_wr_lt _ (show 0 + 2 ≤ 32 by decide) (show 2 < 2 ^ 2 by decide)
  have hset : rd (R.CLK.PLL_STAT_STATE d p) (pllLockShown d p s) = 2 := by
    unfold pllLockShown
    split
    · rw [rd_evt_block hlow.blockWord (by decide), hwr]
    · exact hwr _
  refine ⟨_, Eq.trans (b := execPllLock d p s) rfl (execPllLock_locks hd hp hst hok), ?_, ?_⟩
  · rw [rd_pllsWaited, rd_of_word (word_relockStarts hlow hlane s _), hset]
  · rw [phase_pllsWaited, (relockStarts_kept ..).releaseOf_eq rfl, (pllLockShown_kept d p s).releaseOf_eq rfl]

/-! ### MORTAR_TRAINED (R536) -/

/-- The islands of the mortar and of control come on with the links, and on D0 the host's. -/
def islandsOn (d : Nat) (s : State) : State :=
  (if d = 0 then [0, 1, 2] else [0, 1]).foldl (fun s i => setDomain d i { st := 2, since := s.now } s) s

theorem domSt_islandsOn {d i : Nat} (s : State) (hi : i < 2) : domSt d i (islandsOn d s) = 2 := by
  refine foldl_establishes (P := fun t => domSt d i t = 2) (a := i) ?_ (fun t => ?_) (fun j t ht => ?_) s
  · split <;> simp <;> omega
  · exact congrArg Domain.st (domainOf_setDomain ..)
  · by_cases hij : i = j
    · rw [hij]
      exact congrArg Domain.st (domainOf_setDomain ..)
    · exact (congrArg Domain.st (domainOf_setDomain_ne _ t (by omega))).trans ht

theorem mortarTrained_waits {d lat : Nat} {s : State} (hd : d < s.dies) (h : (releaseOf d s).phase = 5) :
    ∃ t, exec (.mortarTrained d lat) s = .next t ∧ (releaseOf d t).phase = 6 ∧ (∀ i, i ∈ linksOf d s → i ∉ t.linksFenced) ∧
      (d ≠ 0 → rd (R.TIME.MORT_LAT_NS d) t = lat % 65536) ∧ domSt d 0 t = 2 ∧ domSt d 1 t = 2 := by
  generalize hs1 : ({ s with linksFenced := s.linksFenced.filter (fun i => !(linksOf d s).contains i) } : State) = s1
  generalize hs2 : (if d = 0 then s1 else wr (R.TIME.MORT_LAT_NS d) lat s1) = s2
  have hlat : Touches 4 s1 s2 := hs2 ▸ touches_ite (.refl _ s1) (wr_touches rfl (.refl _ s1))
  have hdom : Touches 0x200000 s2 (islandsOn d s2) := foldl_touches (fun _ _ ht => setDomain_touches rfl ht) (.refl _ s2)
  have hexec : execMortarTrained d lat s = .next (setRelease d { releaseOf d s2 with phase := 6 } (islandsOn d s2)) := by
    rw [← hs2, ← hs1]
    exact if_neg (by omega)
  have hrel : Touches 0x100000 (islandsOn d s2) (setRelease d { releaseOf d s2 with phase := 6 } (islandsOn d s2)) :=
    setRelease_touches rfl (.refl _ _)
  refine ⟨_, Eq.trans (b := execMortarTrained d lat s) rfl hexec, ?_, fun i hi => ?_, fun h0 => ?_, ?_, ?_⟩
  · rw [releaseOf_setRelease]
  · rw [hrel.linksFenced rfl, hdom.linksFenced rfl, hlat.linksFenced rfl, ← hs1]
    simp [hi]
  · rw [hrel.rd_eq rfl, hdom.rd_eq rfl, ← hs2, if_neg h0]
    exact rd_wr_same _ _ (show 0 + 16 ≤ 32 by decide)
  · exact (congrArg Domain.st (hrel.domainOf_eq rfl d 0)).trans (domSt_islandsOn s2 (by decide))
  · exact (congrArg Domain.st (hrel.domainOf_eq rfl d 1)).trans (domSt_islandsOn s2 (by decide))

/-! ### ISLAND_RELEASE and CLOCK_GOOD_TIMEOUT (R538) -/

theorem domainOf_domainRelease (d i e : Nat) (s : State) : domainOf d e (domainRelease d i s) =
    if e = i then { domainOf d i s with good := true, rel := true } else domainOf d e s := by
  have hwakes : Touches 0x1e010041800000041024 (setDomain d i { domainOf d i s with good := true, rel := true } s) (domainRelease d i s) :=
    foldl_touches (fun _ _ ht => blockWakes_touches rfl ht)
      (touches_ite (memWake_touches (show Sub 4 0x1e010041800000041024 from rfl) (.refl _ _)) (.refl _ _))
  rw [hwakes.domainOf_eq rfl]
  split
  · next h => rw [h, domainOf_setDomain]
  · next h => exact domainOf_setDomain_ne _ s (by omega)

/-- The islands that a die's reset waits for (R536). -/
def firstIslands (d : Nat) : List Nat := if d = 0 then [0, 1, 2] else [0, 1]

theorem execIslandRelease_released {d isl : Nat} {s : State} (hd : d < s.dies) (hi : isl < 14) (hon : domSt d isl s = 2)
    (hheld : (domainOf d isl s).rel = false) (hph : (releaseOf d s).phase = 6 ∨ (releaseOf d s).phase = 9) :
    execIslandRelease d isl s = .next (if (releaseOf d s).phase = 6 ∧
        (firstIslands d).all (fun i => (domainOf d i (domainRelease d isl s)).rel)
      then dieReleased d (domainRelease d isl s) else domainRelease d isl s) := by
  have hon' : (domainOf d isl s).st = 2 := hon
  exact if_neg (by rw [hheld, hon']; simp; omega)

theorem islandRelease_releases {d isl : Nat} {s : State} (hd : d < s.dies) (hi : isl < 14) (hon : domSt d isl s = 2)
    (hheld : (domainOf d isl s).rel = false) (hph : (releaseOf d s).phase = 9) :
    ∃ t, exec (.islandRelease d isl) s = .next t ∧ (domainOf d isl t).rel = true := by
  have hexec := (execIslandRelease_released hd hi hon hheld (.inr hph)).trans (congrArg _ (if_neg (by rw [hph]; simp)))
  refine ⟨_, Eq.trans (b := execIslandRelease d isl s) rfl hexec, ?_⟩
  rw [domainOf_domainRelease, if_pos rfl]

/-- A die that is released is in no reset. -/
theorem releaseOf_dieReleased (d : Nat) (s : State) : releaseOf d (dieReleased d s) = {} := by
  have hend : Touches 0xa800040001800000243204 (setRelease d {} (onlyIf (reachable d s) (dropFence (.die d)) (setClock d { c0 := s.now } s)))
      (dieReleased d s) := by
    refine touches_ite (bootStart_touches rfl ?_) ?_ <;> exact powerLook_touches rfl (touches_ite
      (Touches.upD_master_dogs rfl (Touches.upD_loopNext_dogs rfl (.refl _ _))) (Touches.upD_loopNext_dogs rfl (.refl _ _)))
  rw [hend.releaseOf_eq rfl, releaseOf_setRelease]

theorem islandRelease_last {d isl : Nat} {s : State} (hd : d < s.dies) (hi : isl < 14) (hon : domSt d isl s = 2)
    (hheld : (domainOf d isl s).rel = false) (hph : (releaseOf d s).phase = 6)
    (hothers : ∀ i, i < 3 → i ≠ isl → (domainOf d i s).rel = true) :
    ∃ t, exec (.islandRelease d isl) s = .next t ∧ (releaseOf d t).phase = 9 := by
  have hall : (firstIslands d).all (fun i => (domainOf d i (domainRelease d isl s)).rel) = true := by
    refine List.all_eq_true.mpr fun i hmem => ?_
    have hi3 : i < 3 := by
      unfold firstIslands at hmem
      split at hmem <;> simp at hmem <;> omega
    rw [domainOf_domainRelease]
    split
    · rfl
    · next h => exact hothers i hi3 h
  have hexec := (execIslandRelease_released hd hi hon hheld (.inl hph)).trans (congrArg _ (if_pos ⟨hph, hall⟩))
  refine ⟨_, Eq.trans (b := execIslandRelease d isl s) rfl hexec, ?_⟩
  rw [releaseOf_dieReleased]

theorem clockGoodTimeout_waits_again {d isl : Nat} {s : State} (hd : d < s.dies) (hi : isl < 14) (hon : domSt d isl s = 2)
    (hheld : (domainOf d isl s).rel = false) (hdue : (domainOf d isl s).since + 1000000 ≤ s.now)
    (hok : flag (R.CLK.CLK_STAT_REF_OK d) s = true) :
    ∃ t, exec (.clockGoodTimeout d isl) s = .next t ∧ (domainOf d isl t).rel = false ∧ (domainOf d isl t).since = s.now ∧
      (d = 0 → isl = 0 → t.errAonHold = true) := by
  generalize hs0 : setDomain d isl { domainOf d isl s with since := s.now } s = s0
  generalize hs2 : (domPages d isl (evt d 0x11 2 (recordFault d 0x11 3 false s0))).foldl (fun s p => fencePage d p s)
    (evt d 0x11 2 (recordFault d 0x11 3 false s0)) = s2
  have hon' : (domainOf d isl s).st = 2 := hon
  have hexec : execClockGoodTimeout d isl s = .next (if isl ≠ 0 then s2 else if d = 0 then { s2 with errAonHold := true } else dieLost d s2) := by
    rw [← hs2, ← hs0]
    exact if_neg (by rw [hheld, hon', hok]; simp; omega)
  have hfence : Touches 0x1e0195cbf9eb860ff00c s0 s2 :=
    hs2 ▸ foldl_touches (fun _ _ ht => fencePage_touches rfl ht) (evt_touches rfl (recordFault_touches rfl (.refl _ s0)))
  have hkept : Touches 0x1e0195cbf9eb860ff00c s0 (if isl ≠ 0 then s2 else if d = 0 then { s2 with errAonHold := true } else dieLost d s2) :=
    touches_ite hfence (touches_ite (Touches.upD_errAonHold rfl hfence) (dieLost_touches rfl hfence))
  have hdom : domainOf d isl s0 = { domainOf d isl s with since := s.now } := hs0 ▸ domainOf_setDomain ..
  refine ⟨_, Eq.trans (b := execClockGoodTimeout d isl s) rfl hexec, ?_, ?_, fun h0 hi0 => ?_⟩
  · rw [hkept.domainOf_eq rfl, hdom]
    exact hheld
  · rw [hkept.domainOf_eq rfl, hdom]
  · rw [if_neg (fun h => h hi0), if_pos h0]

/-! ### PCIE_READY (R536) -/

theorem rd_bootState_bootStart (s : State) :
    rd (R.RST.BOOT_STAT_STATE 0) (bootStart s) = if s.straps.bootCode = 0 then 0 else 1 := by
  unfold bootStart
  dsimp only
  split
  · exact rd_wr_lt _ (by decide) (by decide)
  · exact (rd_wr_of_apart (apart_page (.inr (by decide))) _ _).trans ((rd_wr_of_apart (apart_page (.inr (by decide))) _ _).trans
      (rd_wr_lt (l := R.RST.BOOT_STAT_STATE 0) _ (by decide) (by decide)))

theorem bootWaits_bootStart (s : State) : (bootStart s).bootWaits = false := by
  unfold bootStart
  dsimp only
  split <;> rfl

theorem pcieReady_starts {s : State} (hdown : s.pcieUp = false) (hup : dieUp 0 s = true) :
    ∃ t, exec .pcieReady s = .next t ∧ t.pcieUp = true ∧
      (s.bootWaits = true → t.bootWaits = false ∧ rd (R.RST.BOOT_STAT_STATE 0) t = if s.straps.bootCode = 0 then 0 else 1) := by
  have hexec : execPcieReady s = .next (if s.bootWaits then bootStart { s with pcieUp := true } else { s with pcieUp := true }) :=
    if_neg (by rw [hdown, hup]; decide)
  refine ⟨_, Eq.trans (b := execPcieReady s) rfl hexec, ?_, fun hw => ?_⟩
  · split
    · exact (bootStart_touches (Nat.and_self _) (.refl _ _)).pcieUp rfl
    · rfl
  · rw [if_pos hw]
    exact ⟨bootWaits_bootStart _, rd_bootState_bootStart _⟩

/-- Settles O46: each step of a cold reset and of the release of its dies, with the reads that the statement names. -/
theorem coldReleaseCommandsAct : Obligations.ColdReleaseCommandsAct := by
  unfold Obligations.ColdReleaseCommandsAct
  refine ⟨?_, ?_, ?_, ?_, ?_, ?_, ?_, ?_, ?_, ?_, ?_, ?_, ?_⟩
  · exact fun d s hd => ⟨_, Eq.trans (b := execPowerOn s) rfl rfl, coldReset_holds hd (by decide)⟩
  · exact fun d s hd => ⟨_, Eq.trans (b := execBrownOut s) rfl rfl, coldReset_holds hd (by decide)⟩
  · exact fun d ns s hd hns => ⟨_, Eq.trans (b := execResetPin ns s) rfl (if_pos hns), coldReset_holds hd (by decide)⟩
  · exact fun ns s hns => Eq.trans (b := execResetPin ns s) rfl ((if_neg (by omega)).trans (if_pos hns))
  · exact fun boot clkm prof legacy s => strapSample_goes_on
  · exact fun d s => referenceCheck_good
  · exact fun d at_ s => referenceCheck_bad
  · exact fun d p s => pllLock_locks
  · exact fun d lat s => mortarTrained_waits
  · exact fun d isl s => islandRelease_releases
  · exact fun d isl s => islandRelease_last
  · exact fun d isl s => clockGoodTimeout_waits_again
  · exact fun s => pcieReady_starts

end Sys2Proof.Machine
end

section
/-! PROOFS. The TAPs and the fuses (R553 to R556). -/

namespace Sys2Proof.Machine

theorem Touches.tapOf_eq {m : Nat} {z s : State} (h : Touches m z s) (hm : m.testBit 84 = false) (d : Nat) : tapOf d s = tapOf d z :=
  tapOf_congr d (h.taps hm)

theorem holdDie_kept (d : Nat) (s : State) : Touches 0xa2fe6fffcbfbf9fef7b704 s (holdDie d s) :=
  have hpackage := warmPackage_touches (msk := 0xa2fe6fffcbfbf9fef7b704) (cause := 6) (clock := false) rfl (.refl _ s)
  touches_ite (.refl _ s) (touches_ite (touches_ite hpackage (setRelease_touches rfl hpackage)) (warmDie_touches rfl (.refl _ s)))

/-- An instruction that a die's TAP takes is in its register. -/
theorem ir_tapTake {d : Nat} {s : State} (hd : d < s.dies) (ir : Nat) : (tapOf d (tapTake d ir s)).ir = ir := by
  have hset : (tapOf d (setTap d { tapOf d s with ir := ir } s)).ir = ir := congrArg Tap.ir (tapOf_setTap ..)
  unfold tapTake
  rw [if_neg (Nat.not_le.mpr hd)]
  dsimp only
  split
  · rw [(holdDie_kept ..).tapOf_eq rfl, hset]
  · split
    · exact hset
    · exact hset

theorem setTap_kept (d : Nat) (v : Tap) (s : State) : Touches 0x1000000000000000000000 s (setTap d v s) := Touches.upD_taps rfl (.refl _ s)

/-- A die that is held is in a warm reset, or was held before (R556). -/
theorem held_holdDie {d : Nat} {s : State} (hd : d < s.dies) (hc : coldRunning s = false) : (releaseOf d (holdDie d s)).held = true := by
  unfold holdDie
  split
  · next h => exact h
  · split
    · next h =>
      subst h
      dsimp only
      rw [hc, if_neg (by decide), releaseOf_setRelease]
    · unfold warmDie
      rw [hc, if_neg (by decide), assertWarm_same]
      rfl

theorem tapTake_holds {d ir : Nat} {s : State} (hd : d < s.dies) (hc : coldRunning s = false) (hir : holdsReset ir = true) :
    (tapOf d (tapTake d ir s)).ir = ir ∧ (releaseOf d (tapTake d ir s)).held = true := by
  refine ⟨ir_tapTake hd ir, ?_⟩
  unfold tapTake
  rw [if_neg (Nat.not_le.mpr hd)]
  dsimp only
  rw [if_pos hir]
  exact held_holdDie hd ((setTap_kept ..).scope rfl rfl hc)

/-- BYPASS comes in force where an instruction that held the die is replaced, and lets the die go (log 87). -/
theorem tapHold_lets_go {d ir : Nat} {s : State} (hd : d < s.dies) (hir : (tapOf d s).ir = ir) (hholds : holdsReset ir = true) :
    (tapOf d (tapHold d ir false s)).ir = 0xFF ∧ (releaseOf d (tapHold d ir false s)).held = false := by
  have htake : tapHold d ir false s = tapTake d 0xFF s := (if_neg (by decide)).trans (if_pos hir)
  rw [htake]
  refine ⟨ir_tapTake hd _, ?_⟩
  unfold tapTake
  rw [if_neg (Nat.not_le.mpr hd)]
  dsimp only
  rw [if_neg (by decide), if_pos (hir ▸ hholds), releaseOf_setRelease]

/-- An instruction that holds no die changes no more of a release than HELD. -/
theorem releaseOf_tapTake {ir : Nat} (d e : Nat) (s : State) (hir : holdsReset ir = false) :
    ∃ held, releaseOf e (tapTake d ir s) = { releaseOf e s with held := held } := by
  unfold tapTake
  split
  · exact ⟨_, rfl⟩
  · dsimp only
    rw [if_neg (by rw [hir]; decide)]
    split
    · by_cases he : e = d
      · rw [he, releaseOf_setRelease, (setTap_kept ..).releaseOf_eq rfl]
        exact ⟨false, rfl⟩
      · rw [releaseOf_setRelease_ne _ _ he, (setTap_kept ..).releaseOf_eq rfl]
        exact ⟨_, rfl⟩
    · rw [(setTap_kept ..).releaseOf_eq rfl]
      exact ⟨_, rfl⟩

theorem tapTake_kept {ir : Nat} (d : Nat) (s : State) (hir : holdsReset ir = false) : Touches 0x1000000000000000100000 s (tapTake d ir s) := by
  have hset : Touches 0x1000000000000000100000 s (setTap d { tapOf d s with ir := ir } s) := Touches.upD_taps rfl (.refl _ s)
  unfold tapTake
  split
  · exact .refl _ s
  · dsimp only
    rw [if_neg (by rw [hir]; decide)]
    exact touches_ite (setRelease_touches rfl hset) hset

theorem coldRunning_tapTake {ir : Nat} (d : Nat) (s : State) (hir : holdsReset ir = false) :
    coldRunning (tapTake d ir s) = coldRunning s := by
  unfold coldRunning
  rw [(tapTake_kept d s hir).dies_eq rfl]
  congr 1
  funext e
  obtain ⟨held, h⟩ := releaseOf_tapTake d e s hir
  rw [h]

/-! ### The instructions (R555, R556) -/

theorem tapReset_idcode (s : State) : ∃ t, exec .tapReset s = .next t ∧ ∀ d, (tapOf d t).ir = 1 :=
  ⟨_, Eq.trans (b := execTapReset s) rfl rfl, fun _ => rfl⟩

theorem jtagDbgReset_resets {d : Nat} {s : State} (hd : d < s.dies) (hc : coldRunning s = false) :
    ∃ t, exec (.jtagDbgReset d) s = .next t ∧ (releaseOf d t).phase = 0 ∧ (releaseOf d t).due = s.now + 10000 := by
  have hkept := tapTake_kept (ir := 0x20) d s rfl
  obtain ⟨_, _, hrel⟩ := warmReset_release (cause := 6) (pkg := flag (R.RST.RST_CFG_DBG_PKG d) s) (clock := false)
    ((coldRunning_tapTake (ir := 0x20) d s rfl).trans hc) (hkept.dies_eq rfl ▸ hd)
  refine ⟨_, Eq.trans (b := execJtagDbgReset d s) rfl (if_neg (Nat.not_le.mpr hd)), ?_, ?_⟩
  · rw [hrel]; rfl
  · rw [hrel, hkept.now rfl]; rfl

/-- What a read by the JTAG requester answers is captured by the TAP. -/
def tapAnswers (d : Nat) (r : Nat × State) : State :=
  { setTap d { ir := 0x21, done := true, data := BitVec.ofNat 32 r.1 } r.2 with resp := { value := BitVec.ofNat 32 r.1 } }

theorem tapOf_tapAnswers (d : Nat) (r : Nat × State) : tapOf d (tapAnswers d r) = { ir := 0x21, done := true, data := BitVec.ofNat 32 r.1 } :=
  (tapOf_congr d (s := setTap d { ir := 0x21, done := true, data := BitVec.ofNat 32 r.1 } r.2) rfl).trans (tapOf_setTap ..)

theorem jtagDbgAccess_reads {d off : Nat} {v : Word} {s : State} (hd : d < s.dies) :
    ∃ t, exec (.jtagDbgAccess d off v false) s = .next t ∧
      t.resp.value = BitVec.ofNat 32 (readReg { rq := .jtag, bar2 := false } off (tapTake d 0x21 s)).1 ∧
      tapOf d t = { ir := 0x21, done := true, data := t.resp.value } := by
  have hexec : execJtagDbgAccess d off v false s = .next (tapAnswers d (readReg { rq := .jtag, bar2 := false } off (tapTake d 0x21 s))) :=
    (if_neg (Nat.not_le.mpr hd)).trans (if_neg (by decide))
  generalize readReg { rq := .jtag, bar2 := false } off (tapTake d 0x21 s) = r at hexec
  exact ⟨_, Eq.trans (b := execJtagDbgAccess d off v false s) rfl hexec, rfl, tapOf_tapAnswers d r⟩

theorem jtagDbgAccess_writes {d off : Nat} {v : Word} {s : State} (hd : d < s.dies) :
    ∃ t, exec (.jtagDbgAccess d off v true) s = .next t ∧
      t.regs = (regWrite { rq := .jtag, bar2 := false } off v 15 (tapTake d 0x21 s)).regs ∧ (tapOf d t).done = true :=
  ⟨_, Eq.trans (b := execJtagDbgAccess d off v true s) rfl ((if_neg (Nat.not_le.mpr hd)).trans (if_pos rfl)), rfl,
    congrArg Tap.done (tapOf_setTap ..)⟩

/-! ### The fuses (R553) -/

theorem rstWrite_fuse {w : RegWrite} {s : State} (ho : w.o = 0x78) : rstWrite w s = fusePgm w s := by
  unfold rstWrite
  rw [ho]
  rfl

theorem fusePgm_keyed {w : RegWrite} {s : State} (hrq : w.rq = .jtag) (hkey : bitsOf w.e 8 8 = 0x5A) : fusePgm w s =
    if testBit w.e 1 && flag (R.RST.FUSE_DIGEST_SET w.d) (if testBit w.e 0 then wr (R.RST.FUSE_DIGEST_SET w.d) 1 s else s)
    then wr (R.RST.FUSE_LOCK w.d) 1 (if testBit w.e 0 then wr (R.RST.FUSE_DIGEST_SET w.d) 1 s else s)
    else if testBit w.e 0 then wr (R.RST.FUSE_DIGEST_SET w.d) 1 s else s := by
  unfold fusePgm
  exact if_neg (fun h => h.elim (fun h => h hrq) (fun h => h hkey))

theorem fuseBurn_burns {a : Access} {v : Word} {s : State} (h : Reaches a 0 0x10 0x78 s) (hrq : a.rq = .jtag)
    (hkey : bitsOf v.toNat 8 8 = 0x5A) : ∃ t, exec (.fuseBurn a v) s = .next t ∧ flag (R.RST.FUSE_DIGEST_SET 0) t = true := by
  have hgo : testBit (v ||| 1).toNat 0 = true := testBit_or_of_set (by decide)
  have hburnt : ∀ u, flag (R.RST.FUSE_DIGEST_SET 0) (wr (R.RST.FUSE_DIGEST_SET 0) 1 u) = true := fun u => flag_wr_one u (by decide) rfl
  refine ⟨_, (exec_fuseBurn h).trans (congrArg _ ((rstWrite_fuse rfl).trans
    (fusePgm_keyed (w := RegWrite.of a 0 0x10 0x78 (v ||| 1)) hrq ((bitsOf_or_kept (by decide)).trans hkey)))), ?_⟩
  rw [RegWrite.of_e, RegWrite.of_d, if_pos hgo]
  split
  · exact (flag_wr_of_apart (apart_page (.inr (by decide))) _ _).trans (hburnt _)
  · exact hburnt _

theorem fuseLock_locks {a : Access} {v : Word} {s : State} (h : Reaches a 0 0x10 0x78 s) (hrq : a.rq = .jtag)
    (hkey : bitsOf v.toNat 8 8 = 0x5A) (hset : flag (R.RST.FUSE_DIGEST_SET 0) s = true) :
    ∃ t, exec (.fuseLock a v) s = .next t ∧ flag (R.RST.FUSE_LOCK 0) t = true := by
  have hgo : testBit (v ||| 2).toNat 1 = true := testBit_or_of_set (by decide)
  refine ⟨_, (exec_fuseLock h).trans (congrArg _ ((rstWrite_fuse rfl).trans
    (fusePgm_keyed (w := RegWrite.of a 0 0x10 0x78 (v ||| 2)) hrq ((bitsOf_or_kept (by decide)).trans hkey)))), ?_⟩
  rw [RegWrite.of_e, RegWrite.of_d, hgo, Bool.true_and, if_pos]
  · exact flag_wr_one _ (by decide) rfl
  · split
    · exact flag_wr_one _ (by decide) rfl
    · exact (flag_landWrite ..).trans hset

/-- Settles O49: an instruction that a TAP takes, what it does to the die's release, and the fuses that FUSE_PGM blows. -/
theorem jtagCommandsAct : Obligations.JtagCommandsAct := by
  unfold Obligations.JtagCommandsAct
  refine ⟨?_, ?_, ?_, ?_, ?_, ?_, ?_, ?_, ?_, ?_, ?_, ?_, ?_, ?_, ?_⟩
  · exact tapReset_idcode
  · exact fun d s hd hc => ⟨_, Eq.trans (b := execJtagExtest d true s) rfl rfl, tapTake_holds (ir := 0) hd hc rfl⟩
  · exact fun d s hd hc => ⟨_, Eq.trans (b := execJtagHighz d true s) rfl rfl, tapTake_holds (ir := 5) hd hc rfl⟩
  · exact fun d s hd hc => ⟨_, Eq.trans (b := execJtagClamp d true s) rfl rfl, tapTake_holds (ir := 6) hd hc rfl⟩
  · exact fun d s hd hir => ⟨_, Eq.trans (b := execJtagExtest d false s) rfl rfl, tapHold_lets_go hd hir rfl⟩
  · exact fun d s hd hir => ⟨_, Eq.trans (b := execJtagHighz d false s) rfl rfl, tapHold_lets_go hd hir rfl⟩
  · exact fun d s hd hir => ⟨_, Eq.trans (b := execJtagClamp d false s) rfl rfl, tapHold_lets_go hd hir rfl⟩
  · exact fun d s hd => ⟨_, Eq.trans (b := execJtagIdcode d s) rfl (if_neg (Nat.not_le.mpr hd)), ir_tapTake hd 1, rfl⟩
  · exact fun d s hd => ⟨_, Eq.trans (b := execJtagSamplePreload d s) rfl rfl, ir_tapTake hd 2⟩
  · exact fun d code s hd hcode => ⟨_, Eq.trans (b := execJtagBypass d code s) rfl
      (if_neg (fun h => hcode (List.contains_iff_mem.mp h))), ir_tapTake hd 0xFF⟩
  · exact fun d s => jtagDbgReset_resets
  · exact fun d off v s => jtagDbgAccess_reads
  · exact fun d off v s => jtagDbgAccess_writes
  · exact fun a v s => fuseBurn_burns
  · exact fun a v s => fuseLock_locks

end Sys2Proof.Machine
end

section
/-! PROOFS. The NV store and its log (R513 to R517) and the die temperatures (R519). -/

namespace Sys2Proof.Machine

/-! ### The bytes of the NV store -/

theorem nvGet_congr {s t : State} (h : t.nv = s.nv) (d o : Nat) : nvGet d o t = nvGet d o s := by
  unfold nvGet; rw [h]

theorem nvGet_nvPut (d o : Nat) (b : Byte) (s : State) : nvGet d o (nvPut d o b s) = b := by
  unfold nvGet nvPut; exact mapGet_set_same ..

theorem nvGet_nvPut_ne {o j : Nat} (d : Nat) (b : Byte) (s : State) (h : j ≠ o) : nvGet d j (nvPut d o b s) = nvGet d j s := by
  unfold nvGet nvPut; exact mapGet_set_other _ _ _ (by omega)

theorem nvGet_nvWriteBytes_below {d j : Nat} (bs : List Byte) {o : Nat} (s : State) (h : j < o) :
    nvGet d j (nvWriteBytes d o bs s) = nvGet d j s := by
  induction bs generalizing o s with
  | nil => rfl
  | cons b bs ih =>
    unfold nvWriteBytes
    rw [ih _ (by omega), nvGet_nvPut_ne _ _ _ (by omega)]

/-- The bytes stand at rising offsets from the first. -/
theorem nvGet_nvWriteBytes {d : Nat} (bs : List Byte) (o : Nat) (s : State) {i : Nat} (h : i < bs.length) :
    nvGet d (o + i) (nvWriteBytes d o bs s) = bs.getD i 0 := by
  induction bs generalizing o s i with
  | nil => exact absurd h (Nat.not_lt_zero _)
  | cons b bs ih =>
    unfold nvWriteBytes
    cases i with
    | zero =>
      rw [nvGet_nvWriteBytes_below _ _ (by omega)]
      exact nvGet_nvPut ..
    | succ i =>
      rw [show o + (i + 1) = o + 1 + i by omega, ih _ _ (Nat.lt_of_succ_lt_succ h)]
      rfl

/-! ### The log -/

/-- A trigger is the record under way where none was; otherwise it waits where none waited (R515). -/
theorem logTrigger_asks (cause info : Nat) (s : State) :
    (s.logBusy = none → (logTrigger cause info s).logBusy = some (cause, info)) ∧
      (s.logBusy ≠ none → s.logWait = none → (logTrigger cause info s).logWait = some (cause, info)) := by
  unfold logTrigger
  refine ⟨fun h => ?_, fun h hw => ?_⟩
  · rw [h]; rfl
  · rw [if_neg (by simpa using h), hw]; rfl

theorem exec_logRecordWrite_open {cause info : Nat} {s : State} (hbusy : s.logBusy = some (cause, info))
    (hopen : flag (R.NVS.NV_STAT_VIN_BLOCK 0) s = false) :
    ∃ r : List Byte, ∃ u : State, r = (logRecord cause info s.logSeq s).1 ++ (logRecord cause info s.logSeq s).2 ∧
      u = logAdvance (wr (R.NVS.LOG_SEQ_SEQ 0) s.logSeq (nvStore 0 (0x180000 + 256 * (s.logSeq % 1024)) r s)) ∧
      exec .logRecordWrite s = .next (evt 0 0x15 0 { u with logBusy := u.logWait, logWait := none }) := by
  refine ⟨_, _, rfl, rfl, Eq.trans (b := execLogRecordWrite s) rfl ?_⟩
  unfold execLogRecordWrite
  rw [hbusy]
  exact if_neg (by rw [hopen]; exact fun h => absurd h.1 (by decide))

theorem nvGet_nvStore (d o : Nat) (bs : List Byte) (s : State) {i : Nat} (h : i < bs.length) :
    nvGet d (o + i) (nvStore d o bs s) = bs.getD i 0 := by
  unfold nvStore
  exact (nvGet_congr rfl ..).trans (nvGet_nvWriteBytes bs o s h)

theorem logSeq_logAdvance (s : State) : (logAdvance s).logSeq = (s.logSeq + 1) % 4294967296 := by
  unfold logAdvance
  have h (l : Loc) (v : Nat) (x : State) : Touches 0x4 x (wr l v x) := wr_touches rfl (.refl _ x)
  exact (h ..).logSeq rfl

/-- The record takes the slot of its sequence number, and the log goes on (R513, R514). -/
theorem logRecordWrite_commits {o : Nat} {r : List Byte} {s u : State}
    (hu : u = logAdvance (wr (R.NVS.LOG_SEQ_SEQ 0) s.logSeq (nvStore 0 o r s))) :
    u.logSeq = (s.logSeq + 1) % 4294967296 ∧ u.logWait = s.logWait ∧ ∀ i, i < r.length → nvGet 0 (o + i) u = r.getD i 0 := by
  have hbytes (i : Nat) (h : i < r.length) := nvGet_nvStore 0 o r s h
  have ht : Touches 0x800000000000000010 s (nvStore 0 o r s) := nvStore_touches rfl (.refl _ s)
  generalize nvStore 0 o r s = w at hu hbytes ht
  have hw : Touches 0x4 w (wr (R.NVS.LOG_SEQ_SEQ 0) s.logSeq w) := wr_touches rfl (.refl _ w)
  generalize wr (R.NVS.LOG_SEQ_SEQ 0) s.logSeq w = x at hu hw
  have hx : Touches 0x1000000000000000004 x u := hu ▸ logAdvance_touches rfl (.refl _ x)
  refine ⟨?_, ?_, fun i hi => ?_⟩
  · rw [hu, logSeq_logAdvance, hw.logSeq rfl, ht.logSeq rfl]
  · rw [hx.logWait rfl, hw.logWait rfl, ht.logWait rfl]
  · rw [← hbytes i hi, nvGet_congr (hx.nv rfl), nvGet_congr (hw.nv rfl)]

theorem exec_logRecordWrite_commits {cause info : Nat} {s : State} (hbusy : s.logBusy = some (cause, info))
    (hopen : flag (R.NVS.NV_STAT_VIN_BLOCK 0) s = false) :
    ∃ t, exec .logRecordWrite s = .next t ∧ t.logSeq = (s.logSeq + 1) % 4294967296 ∧ t.logBusy = s.logWait ∧ t.logWait = none ∧
      testBit (word (R.HDR.EVT_STAT_EVT 0 0x15).addr t).toNat 0 = true ∧
      ∀ i, i < ((logRecord cause info s.logSeq s).1 ++ (logRecord cause info s.logSeq s).2).length →
        nvGet 0 (0x180000 + 256 * (s.logSeq % 1024) + i) t =
          ((logRecord cause info s.logSeq s).1 ++ (logRecord cause info s.logSeq s).2).getD i 0 := by
  obtain ⟨r, u, hr, hu, he⟩ := exec_logRecordWrite_open hbusy hopen
  rw [← hr]
  obtain ⟨hseq, hwait, hbytes⟩ := logRecordWrite_commits hu
  have ht (x : State) : Touches 0x1004 x (evt 0 0x15 0 x) := evt_touches rfl (.refl _ x)
  refine ⟨_, he, ((ht _).logSeq rfl).trans hseq, ((ht _).logBusy rfl).trans hwait, (ht _).logWait rfl,
    testBit_evt 0 0x15 0 _ (by decide) (notPba_addr (by decide) (by decide)), fun i hi => ?_⟩
  exact (nvGet_congr ((ht _).nv rfl) ..).trans (hbytes i hi)

/-! ### A host write of the store -/

/-- A whole-word write through BAR0 to a window of a die that answers lands on the window's word. -/
theorem regWrite_window {a : Access} {d o be : Nat} {v : Word} {s : State} (hdown : accessDown a s = false) (hb : a.bar2 = false)
    (h8 : d < 8) (hd : d < s.dies) (hans : dieAnswers d s = true) (hfence : dieFenced d s = false)
    (hdom : domSt d (windowDomain o) s = 2) (hused : windowUsed d o = true) (hlo : 0x100000 ≤ o) (hhi : o < 0x1000000)
    (h4 : o % 4 = 0) (hbe : be % 16 = 15) :
    regWrite a (d * 0x1000000 + o) v be s = windowWrite a.rq d o v (landWrite a.rq d s) := by
  have ex : (d * 0x1000000 + o) / 4 * 4 = d * 0x1000000 + o := by omega
  have ed : (d * 0x1000000 + o) / 0x1000000 = d := by omega
  have eo : (d * 0x1000000 + o) % 0x1000000 = o := by omega
  have hv (w : State) : onlyIf (violates a d o w) (privViolation (d * 0x1000000 + o)) w = w := by
    unfold violates
    rw [hb]
    rfl
  obtain ⟨l, hl⟩ := land_fields a.rq d s
  have hans' : dieAnswers d (landWrite a.rq d s) = true := by rw [hl]; exact hans
  have hfence' : dieFenced d (landWrite a.rq d s) = false := by rw [hl]; exact hfence
  have hdom' : domSt d (windowDomain o) (landWrite a.rq d s) = 2 := by rw [hl]; exact hdom
  unfold regWrite
  simp only [ex, ed, eo]
  rw [if_neg (by simp [hdown]; omega), if_neg (Nat.not_le.mpr hd), hv, if_neg (by omega), if_neg (by simp [hans'])]
  unfold acceptedWrite
  rw [if_neg (by simp [hfence']), if_pos hlo, if_neg (by simp [hdom']), if_neg (by simp [hused, hb])]

/-- The NV window is the 2 MiB from 0x800000, of the domain that is on whenever the die runs. -/
theorem windowDomain_nv {off : Nat} (hoff : off < 0x200000) (d : Nat) :
    windowDomain (0x800000 + off) = 0 ∧ windowUsed d (0x800000 + off) = true ∧
      ∀ (rq : Requester) (v : Word) (s : State), windowWrite rq d (0x800000 + off) v s = nvHostWrite d off v.toNat 15 s := by
  have e : (0x800000 + off) / 0x100000 = 8 ∨ (0x800000 + off) / 0x100000 = 9 := by omega
  have es : 0x800000 + off - 0x800000 = off := by omega
  unfold windowDomain windowUsed windowWrite
  rw [es]
  rcases e with e | e <;> rw [e] <;> exact ⟨rfl, by simp, fun _ _ _ => rfl⟩

theorem exec_nvWrite_lands {a : Access} {d off be : Nat} {v : Word} {s : State} (hdown : accessDown a s = false)
    (hb : a.bar2 = false) (h8 : d < 8) (hd : d < s.dies) (hans : dieAnswers d s = true) (hfence : dieFenced d s = false)
    (hdom : domSt d 0 s = 2) (hoff : off < 0x200000) (h4 : off % 4 = 0) (hbe : be % 16 = 15) :
    exec (.nvWrite a d off v be) s = .next (nvHostWrite d off v.toNat 15 (landWrite a.rq d s)) := by
  obtain ⟨hwd, hused, hwrite⟩ := windowDomain_nv hoff d
  refine Eq.trans (b := execNvWrite a d off v be s) rfl (congrArg Host.Outcome.next ?_)
  rw [show off % nvSize = off from Nat.mod_eq_of_lt hoff, Nat.add_assoc,
    regWrite_window hdown hb h8 hd hans hfence (by rw [hwd]; exact hdom) hused (by omega) (by omega) (by omega) hbe, hwrite]

theorem nvGet_nvHostWrite {d o v : Nat} {s : State} (hwen : flag (R.NVS.NV_CTL_WEN d) s = true)
    (hopen : flag (R.NVS.NV_STAT_VIN_BLOCK d) s = false) (hprot : nvProtected d o = false) (h4 : o % 4 = 0) {i : Nat} (hi : i < 4) :
    nvGet d (o + i) (nvHostWrite d o v 15 s) = BitVec.ofNat 8 (v / 256 ^ i) := by
  have e : o / 4 * 4 = o := by omega
  have hbytes : nvHostWrite d o v 15 s =
      nvWriteBytes d o ((List.range 4).map fun i => BitVec.ofNat 8 (v / 256 ^ i)) s := by
    unfold nvHostWrite
    rw [if_pos (by rw [hwen, hopen, hprot]; rfl), e]
    rfl
  rw [hbytes, nvGet_nvWriteBytes _ _ _ (by simpa using hi)]
  simp [List.getD_eq_getElem?_getD, hi]

theorem nvHostWrite_drops {d o v : Nat} {s : State}
    (h : flag (R.NVS.NV_CTL_WEN d) s = false ∨ flag (R.NVS.NV_STAT_VIN_BLOCK d) s = true ∨ nvProtected d o = true) :
    (nvHostWrite d o v 15 s).nv = s.nv ∧ testBit (word (R.HDR.EVT_STAT_EVT d 0x15).addr (nvHostWrite d o v 15 s)).toNat 1 = true := by
  have hdrop : nvHostWrite d o v 15 s = evt d 0x15 1 (bump (R.NVS.NV_CNT2_DROPPED d) s) := by
    unfold nvHostWrite
    rw [if_neg]
    rcases h with h | h | h <;> rw [h] <;> simp
  have ht : Touches 0x1004 s (evt d 0x15 1 (bump (R.NVS.NV_CNT2_DROPPED d) s)) := evt_touches rfl (bump_touches rfl (.refl _ s))
  rw [hdrop]
  exact ⟨ht.nv rfl, testBit_evt d 0x15 1 _ (by decide) (notPba_addr (by decide) (by decide))⟩

/-! ### The temperatures -/

/-- What a later judgement of the temperature leaves as the sample set it: the latest valid sample and the mark of a broken one. -/
def SampleKept (d : Nat) (s t : State) : Prop :=
  (thermalOf d t).valid = (thermalOf d s).valid ∧ (thermalOf d t).broken = (thermalOf d s).broken

theorem SampleKept.trans {d : Nat} {s t u : State} (h : SampleKept d s t) (g : SampleKept d t u) : SampleKept d s u :=
  ⟨g.1.trans h.1, g.2.trans h.2⟩

theorem Touches.sampleKept {m : Nat} {s t : State} (h : Touches m s t) (hm : m.testBit 69 = false) (d : Nat) : SampleKept d s t := by
  unfold SampleKept
  rw [h.thermalOf_eq hm]
  exact ⟨rfl, rfl⟩

theorem shutdown_sampleKept (d : Nat) (s : State) : SampleKept d s (shutdown d s) := by
  have hset : SampleKept d s (setThermal d { thermalOf d s with hot := true } s) := by
    unfold SampleKept
    rw [thermalOf_setThermal]
    exact ⟨rfl, rfl⟩
  have hrest (x : State) : Touches 0x1a0195cbf9018207b004 x (fatalFault d 0x14 4 false (logTrigger 5 0 (spoilDie d 12 x))) :=
    fatalFault_touches rfl (logTrigger_touches rfl (spoilDie_touches rfl (.refl _ x)))
  exact hset.trans ((hrest _).sampleKept rfl d)

theorem SampleKept.ite {d : Nat} {s x y : State} {c : Prop} [Decidable c] (hx : SampleKept d s x) (hy : SampleKept d s y) :
    SampleKept d s (if c then x else y) := by
  split
  · exact hx
  · exact hy

theorem thermState_sampleKept (d : Nat) (s : State) : SampleKept d s (thermState d s) := by
  have hregs (x : State) : Touches 0x1004 s x → SampleKept d s x := fun h => h.sampleKept rfl d
  have hcrit (x : State) : SampleKept d x (enterCritical d x) := Touches.sampleKept (m := 0x1a410041800000041004) (enterCritical_touches rfl (.refl _ x)) rfl d
  have hlanes (x : State) : Touches 0x12010000000000001004 x
      ((List.range 12).foldl (fun s n => if laneSt d n s = 0 then laneEnable d n s else s) x) :=
    foldl_touches (fun _ _ h => touches_ite (laneEnable_touches rfl h) h) (.refl _ x)
  unfold thermState
  dsimp only
  have h1 : SampleKept d s (wr (R.THERM.TSTAT_RATE d)
      (if thermCrit d s - 48 ≤ thermEff d s then 2 else if thermWarn d s - 160 ≤ thermEff d s then 1 else 0)
      (wr (R.THERM.TSTAT_STATE d) (thermTarget d (rd (R.THERM.TSTAT_STATE d) s) s) s)) :=
    hregs _ (wr_touches rfl (wr_touches rfl (.refl _ s)))
  generalize wr (R.THERM.TSTAT_RATE d) _ _ = s1 at h1 ⊢
  have hevt (b : Nat) : SampleKept d s (evt d 0x14 b s1) := h1.trans (Touches.sampleKept (m := 0x1004) (evt_touches rfl (.refl _ s1)) rfl d)
  have h2 := (hevt 0).ite (c := rd (R.THERM.TSTAT_STATE d) s = 0 ∧ 1 ≤ thermTarget d (rd (R.THERM.TSTAT_STATE d) s) s)
    ((hevt 2).ite (c := thermTarget d (rd (R.THERM.TSTAT_STATE d) s) s < rd (R.THERM.TSTAT_STATE d) s) h1)
  have h3 := (h2.trans (hcrit _)).ite (c := rd (R.THERM.TSTAT_STATE d) s ≠ 2 ∧ thermTarget d (rd (R.THERM.TSTAT_STATE d) s) s = 2 ∧
    rd (R.THERM.TSTAT_STATE d) s < 2) h2
  have h4 := (h3.trans (shutdown_sampleKept d _)).ite (c := rd (R.THERM.TSTAT_STATE d) s < 3 ∧
    thermTarget d (rd (R.THERM.TSTAT_STATE d) s) s = 3) h3
  exact (h4.trans ((hlanes _).sampleKept rfl d)).ite h4

theorem thermSet_sampleKept (d : Nat) (e : Int) (s : State) : SampleKept d s (thermSet d e s) := by
  have hmax (x : State) : SampleKept d x (if rdS (R.THERM.TMAX_TEMP d) x < e then wrS (R.THERM.TMAX_TEMP d) e x else x) :=
    Touches.sampleKept (m := 4) (touches_ite (wrS_touches rfl (.refl _ x)) (.refl _ x)) rfl d
  have hdiff (l : List Nat) (x : State) : Touches 0x1800000041004 x (l.foldl (fun s y => thermDiff y s) x) :=
    foldl_touches (fun _ _ h => thermDiff_touches rfl h) (.refl _ x)
  have heff : SampleKept d s (wrS (R.THERM.TEMP_EFF d) e s) := Touches.sampleKept (m := 4) (wrS_touches rfl (.refl _ s)) rfl d
  exact ((heff.trans (hmax _)).trans (thermState_sampleKept d _)).trans ((hdiff _ _).sampleKept rfl d)

theorem exec_tempSample_sound {d : Nat} {raw : Int} {s : State} (hd : d < s.dies) (h : sampleBroken d raw s = false) :
    ∃ t, exec (.tempSample d raw) s = .next t ∧ (thermalOf d t).valid = some (raw, s.now) ∧ (thermalOf d t).broken = false := by
  refine ⟨_, Eq.trans (b := execTempSample d raw s) rfl ((if_neg (Nat.not_le.mpr hd)).trans (if_pos (by rw [h]; rfl))), ?_⟩
  obtain ⟨hv, hb⟩ := thermSet_sampleKept d raw (setThermal d { thermalOf d s with valid := some (raw, s.now), broken := false, alone := false } _)
  refine ⟨hv.trans ?_, hb.trans ?_⟩ <;> rw [thermalOf_setThermal]

theorem exec_tempSample_broken {d : Nat} {raw : Int} {s : State} (hd : d < s.dies) (h : sampleBroken d raw s = true) :
    ∃ t, exec (.tempSample d raw) s = .next t ∧ (thermalOf d t).valid = (thermalOf d s).valid ∧ (thermalOf d t).broken = true := by
  have hset (al : Bool) (x : State) : thermalOf d (setThermal d { thermalOf d s with broken := true, alone := al } x) =
      { thermalOf d s with broken := true, alone := al } := thermalOf_setThermal ..
  have hev (x : State) : SampleKept d x (evt d 0x14 3 (bump (R.THERM.TCNT_BROKEN d) x)) :=
    Touches.sampleKept (m := 0x1004) (evt_touches rfl (bump_touches rfl (.refl _ x))) rfl d
  have hrec (src : Nat) (x : State) : SampleKept d x (recordFault d 0x14 src false x) :=
    Touches.sampleKept (m := 0x1800000041004) (recordFault_touches rfl (.refl _ x)) rfl d
  have hrefl (x : State) : SampleKept d x x := ⟨rfl, rfl⟩
  have hgo : ∀ al x, ∀ y, SampleKept d (setThermal d { thermalOf d s with broken := true, alone := al } x) y →
      (thermalOf d y).valid = (thermalOf d s).valid ∧ (thermalOf d y).broken = true := fun al x y hk => by
    unfold SampleKept at hk
    rwa [hset] at hk
  let s2 := wr (R.THERM.TSTAT_NO_NEIGH d) (b2n (sampleBroken d raw s && (highest (neighbourTemps d s)).isNone))
    (wr (R.THERM.TSTAT_BROKEN d) (b2n (sampleBroken d raw s)) (wrS (R.THERM.TEMP_RAW d) (clampInt (-32768) 32767 raw) s))
  let s3 := evt d 0x14 3 (bump (R.THERM.TCNT_BROKEN d)
    (setThermal d { thermalOf d s with broken := true, alone := (highest (neighbourTemps d s)).isNone } s2))
  let s4 := if (thermalOf d s).broken then s3 else recordFault d 0x14 0 false s3
  have h4 : SampleKept d s3 s4 := SampleKept.ite (hrefl _) (hrec _ _)
  have he : exec (.tempSample d raw) s = match highest (neighbourTemps d s) with
      | some v => .next (thermSet d (v + 160) s4)
      | none => .next (thermSet d (thermCrit d s4) (if (thermalOf d s).alone then s4 else recordFault d 0x14 1 false s4)) :=
    Eq.trans (b := execTempSample d raw s) rfl ((if_neg (Nat.not_le.mpr hd)).trans (if_neg (by rw [h]; decide)))
  rw [he]
  cases highest (neighbourTemps d s) with
  | some v => exact ⟨_, rfl, hgo _ _ _ (((hev _).trans h4).trans (thermSet_sampleKept ..))⟩
  | none => exact ⟨_, rfl, hgo _ _ _ ((((hev _).trans h4).trans (SampleKept.ite (hrefl _) (hrec _ _))).trans (thermSet_sampleKept ..))⟩

/-- Settles O45: a record is asked for and written, a host write lands or is dropped, and a temperature sample is taken. -/
theorem storeAndThermalCommandsAct : Obligations.StoreAndThermalCommandsAct := by
  unfold Obligations.StoreAndThermalCommandsAct
  refine ⟨fun a v s h => ?_, fun cause info s => exec_logRecordWrite_commits, ?_, fun d raw s hd => ?_⟩
  · obtain ⟨l, hl⟩ := land_fields a.rq 0 s
    refine ⟨_, (exec_logSnap h).trans (congrArg _ (if_pos (testBit_or_of_set (by decide)))), ?_⟩
    have ht := logTrigger_asks 7 0 (landWrite a.rq 0 s)
    rw [hl] at ht ⊢
    exact ht
  · intro a d off be v s hdown hb h8 hd hans hfence hdom hoff h4 hbe
    obtain ⟨l, hl⟩ := land_fields a.rq d s
    refine ⟨_, exec_nvWrite_lands hdown hb h8 hd hans hfence hdom hoff h4 hbe, fun hwen hopen hprot i hi => ?_, fun h => ?_⟩
    · exact nvGet_nvHostWrite (by rw [hl]; exact hwen) (by rw [hl]; exact hopen) hprot h4 hi
    · have ht := nvHostWrite_drops (v := v.toNat) (s := landWrite a.rq d s) (by rw [hl]; exact h)
      rw [hl] at ht ⊢
      exact ht
  · cases h : sampleBroken d raw s with
    | false =>
      obtain ⟨t, he, ht⟩ := exec_tempSample_sound hd h
      exact ⟨t, he, fun _ => ht, fun hc => absurd hc (by decide)⟩
    | true =>
      obtain ⟨t, he, ht⟩ := exec_tempSample_broken hd h
      exact ⟨t, he, fun hc => absurd hc (by decide), fun _ => ht⟩

end Sys2Proof.Machine
end

section
/-! PROOFS. Page memory: training, the BAR4 aperture and the scrub (R455 to R463). -/

namespace Sys2Proof.Machine

/-! ### The bytes of page memory -/

theorem memGet_congr {s t : State} (h : t.mem = s.mem) (x : Nat) : memGet x t = memGet x s := by
  unfold memGet; rw [h]

theorem memGet_memPut (x : Nat) (b : Byte) (s : State) : memGet x (memPut x b s) = b := by
  unfold memGet memPut; exact mapGet_set_same ..

theorem memGet_memPut_ne {x y : Nat} (b : Byte) (s : State) (h : x ≠ y) : memGet x (memPut y b s) = memGet x s := by
  unfold memGet memPut; exact mapGet_set_other _ _ _ h

/-- Whether the first byte of a write is stored decides no other byte. -/
theorem memGet_ite_memPut_ne {x y : Nat} (c : Bool) (b : Byte) (s : State) (h : x ≠ y) :
    memGet x (if c then memPut y b s else s) = memGet x s := by
  split
  · exact memGet_memPut_ne b s h
  · rfl

theorem memGet_putEnabled_out {x : Nat} (bs : List Byte) (en : List Bool) (a : Nat) (s : State) (h : x < a ∨ a + bs.length ≤ x) :
    memGet x (putEnabled a bs en s) = memGet x s := by
  induction bs generalizing a en s with
  | nil => cases en <;> rfl
  | cons b bs ih =>
    rw [List.length_cons] at h
    cases en with
    | nil => rfl
    | cons e en =>
      unfold putEnabled
      rw [ih _ _ _ (by omega), memGet_ite_memPut_ne _ _ _ (by omega)]

/-- A byte takes its new value where its enable is set, and stands where it is not (R458). -/
theorem memGet_putEnabled (bs : List Byte) (en : List Bool) (a : Nat) (s : State) (hlen : en.length = bs.length) {i : Nat}
    (hi : i < bs.length) :
    memGet (a + i) (putEnabled a bs en s) = if en.getD i false then bs.getD i 0 else memGet (a + i) s := by
  induction bs generalizing a en s i with
  | nil => exact absurd hi (Nat.not_lt_zero _)
  | cons b bs ih =>
    cases en with
    | nil => exact absurd hlen (Nat.succ_ne_zero _).symm
    | cons e en =>
      unfold putEnabled
      cases i with
      | zero =>
        rw [memGet_putEnabled_out _ _ _ _ (by omega)]
        cases e
        · rfl
        · exact memGet_memPut ..
      | succ i =>
        rw [show a + (i + 1) = a + 1 + i by omega, ih _ _ _ (Nat.succ_injective hlen) (Nat.lt_of_succ_lt_succ hi),
          memGet_ite_memPut_ne _ _ _ (by omega)]
        rfl

/-! ### Training -/

theorem exec_memInit_starts {a : Access} {d : Nat} {v : Word} {s : State} (h : Reaches a d 0x38 0x44 s)
    (hst : rd (R.MEMC.MSTAT_STATE d) s = 0 ∨ rd (R.MEMC.MSTAT_STATE d) s = 4) :
    ∃ t, exec (.memInit a d v) s = .next t ∧ rd (R.MEMC.MSTAT_STATE d) t = 1 := by
  refine ⟨_, (exec_memInit h).trans (congrArg _ (if_pos (testBit_or_of_set (by decide)))), ?_⟩
  unfold memInit
  dsimp only
  rw [rd_landWrite, if_pos hst]
  exact rd_wr_lt _ (show 0 + 3 ≤ 32 by decide) (show 1 < 2 ^ 3 by decide)

theorem memTrained_ready (d : Nat) (s : State) :
    rd (R.MEMC.MSTAT_STATE d) (memTrained d s) = 2 ∧
      rd (R.MEMC.MSTAT_FITTED d) (memTrained d s) = fittedUnits (rd (R.MEMC.MCFG_DENSITY d) s) (rd (R.MEMC.MCFG_RANKS d) s) % 256 ∧
      testBit (word (R.HDR.EVT_STAT_EVT d 0x38).addr (memTrained d s)).toNat 0 = true := by
  have hblock : BlockWord (R.MEMC.MSTAT_STATE d).addr := blockWord_addr (by decide) (by decide) (by decide)
  generalize hu : fittedUnits (rd (R.MEMC.MCFG_DENSITY d) s) (rd (R.MEMC.MCFG_RANKS d) s) = u
  have hregs (l : Loc) (hl : BlockWord l.addr) :
      rd l (memTrained d s) = rd l (wr (R.MEMC.MSTAT_FITTED d) u (wr (R.MEMC.MSTAT_STATE d) 2 s)) := by
    have hevt (m : List Nat) (x : State) : rd l (evt d 0x38 0 { x with memTrained := m }) = rd l x :=
      (rd_evt_block (p := 0x38) hl (by decide)).trans rfl
    unfold memTrained
    rw [hu, hevt]
  refine ⟨(hregs _ hblock).trans ?_, (hregs (R.MEMC.MSTAT_FITTED d) hblock).trans ?_, ?_⟩
  · exact (rd_wr_of_apart (apart_page (.inr (by decide))) _ _).trans (rd_wr_lt _ (show 0 + 3 ≤ 32 by decide) (show 2 < 2 ^ 3 by decide))
  · exact rd_wr_same _ _ (show 8 + 8 ≤ 32 by decide)
  · exact testBit_evt d 0x38 0 _ (by decide) (notPba_addr (by decide) (by decide))

theorem exec_memTrainDone_good {d : Nat} {s : State} (hready : domainReady d 7 s = true) (hst : rd (R.MEMC.MSTAT_STATE d) s = 1) :
    exec (.memTrainDone d true) s = .next (memTrained d s) :=
  Eq.trans (b := execMemTrainDone d true s) rfl ((if_neg (by rw [hready, hst]; decide)).trans (if_pos rfl))

/-! ### The aperture -/

theorem agentRead_sound {agent a n : Nat} {s : State} (hmem : memFault a n s = none) (hbad : badIn a n s = none) :
    agentRead agent a n s = (.ok (memRead a n s), s) := by
  unfold agentRead
  rw [hmem]
  dsimp only
  rw [hbad]

theorem exec_bar4Read_sound {off len : Nat} {s : State} (hmem : memFault (aperture off s) len s = none)
    (hbad : badIn (aperture off s) len s = none) :
    exec (.bar4Read off len 0) s = .next (bar4Answer len (.ok (memRead (aperture off s) len s)) s) := by
  have hecc (c : Bool) (x y : State) : (if (c && (0 : Nat) == 1) = true then x else if (c && (0 : Nat) == 2) = true then y else s) = s :=
    (if_neg (by simp)).trans (if_neg (by simp))
  refine Eq.trans (b := execBar4Read off len 0 s) rfl ?_
  unfold execBar4Read
  generalize aperture off s = a at hmem hbad ⊢
  dsimp only
  rw [hecc, agentRead_sound hmem hbad]

theorem exec_bar4Write_stored {off : Nat} {bytes : List Byte} {en : List Bool} {ue : Bool} {s : State}
    (hmem : memFault (aperture off s) bytes.length s = none) :
    exec (.bar4Write off bytes en ue) s = .next (bar4Store (aperture off s) bytes en ue s) := by
  refine Eq.trans (b := execBar4Write off bytes en ue s) rfl ?_
  unfold execBar4Write
  dsimp only
  rw [hmem]
  rfl

/-! ### The scrub -/

/-- A sound block: the pass goes on to the next, or ends and is counted (R463). -/
theorem exec_scrubRead_sound {d : Nat} {s : State} (hready : memReady d s = true) (hen : flag (R.MEMC.SCRUB_CFG_EN d) s = true)
    (hdefer : backgroundDeferred d s = false) (hfit : fittedBytes d s ≠ 0)
    (hgood : s.badBlocks.contains ((d * 0x1000000000 + 32 * (scrubOf d s).pos) / 32) = false)
    (htime : s.now ≤ (scrubOf d s).start + rd (R.MEMC.SCRUB_CFG_INTERVAL d) s * 3600000000000) :
    ∃ late, exec (.scrubRead d 0) s = .next (if 32 * ((scrubOf d s).pos + 1) < fittedBytes d s then
      setScrub d { scrubOf d s with pos := (scrubOf d s).pos + 1, late := late } s
      else setScrub d { pos := 0, start := s.now, late := false } (bump (R.MEMC.SCRUB_STAT_PASSES d) s)) := by
  refine ⟨(scrubOf d s).late || decide (rd (R.MEMC.SCRUB_CFG_INTERVAL d) s * 3600000000000 < s.now - (scrubOf d s).start),
    Eq.trans (b := execScrubRead d 0 s) rfl ?_⟩
  have hread (x y : State) : (if (0 : Nat) = 1 then x
      else if (0 : Nat) = 2 ∨ s.badBlocks.contains ((d * 0x1000000000 + 32 * (scrubOf d s).pos) / 32) = true then y else s) = s :=
    (if_neg (by decide)).trans (if_neg (by rw [hgood]; decide))
  have hlate (c : Prop) [Decidable c] (x : State) :
      (if rd (R.MEMC.SCRUB_CFG_INTERVAL d) s * 3600000000000 < s.now - (scrubOf d s).start ∧ c then x else s) = s :=
    if_neg fun h => absurd h.1 (by omega)
  unfold execScrubRead
  dsimp only
  rw [if_pos ⟨hready, hen, by rw [hdefer]; rfl, hfit⟩, hread, hlate]
  split <;> rfl

/-- Settles O41: page memory trains, the aperture reads and writes its bytes, and the scrub goes from block to block. -/
theorem memoryCommandsAct : Obligations.MemoryCommandsAct := by
  unfold Obligations.MemoryCommandsAct
  refine ⟨fun a d v s h hst => exec_memInit_starts h hst, fun d s hready hst => ?_, fun off len s hmem hbad => ?_,
    fun off bytes en ue s hmem hlen => ?_, fun d s hready hen hdefer hfit hgood htime => ?_⟩
  · exact ⟨_, exec_memTrainDone_good hready hst, memTrained_ready d s⟩
  · exact ⟨_, exec_bar4Read_sound hmem hbad, rfl, rfl⟩
  · refine ⟨_, exec_bar4Write_stored hmem, fun i hi => ?_, fun x hx => ?_⟩
    · exact (memGet_putEnabled bytes en _ _ hlen hi).trans rfl
    · exact (memGet_putEnabled_out bytes en _ _ hx).trans rfl
  · obtain ⟨late, he⟩ := exec_scrubRead_sound hready hen hdefer hfit hgood htime
    refine ⟨_, he, fun hnext => ?_, fun hlast => ?_⟩
    · rw [if_pos hnext, scrubOf_setScrub]
    · rw [if_neg (by omega), scrubOf_setScrub, rd_setScrub]
      exact ⟨rfl, rd_bump_same _ (show 0 + 16 ≤ 32 by decide)⟩

end Sys2Proof.Machine
end

section
/-! PROOFS. The DMA channels (R464 to R471, R477). -/

namespace Sys2Proof.Machine

theorem isFenced_landWrite (u : UnitId) (rq : Requester) (d : Nat) (s : State) : isFenced u (landWrite rq d s) = isFenced u s := rfl

/-! ### The channel's registers -/

theorem regAt_dmaCtl (d : Nat) {n : Nat} (hn : n < 8) : regAt d (0x39 * 0x1000 + (0x10C + 0x40 * n)) =
    some (Layout.arr 0x10C 0x40 8 [Layout.rw 0 1 0, Layout.wo 1 1, Layout.wo 2 1, Layout.wop 3 1]) := by
  interval_cases n <;> rfl

theorem dma_block (d n : Nat) {o : Nat} (hn : n < 8) (ho : 0x100 ≤ o ∧ o ≤ 0x13C) : BlockWord (Layout.addr d 0x39 (o + 0x40 * n)) :=
  blockWord_addr (by decide) (by omega) (.inr ⟨by decide, by decide, by decide, by omega⟩)

theorem fieldAfter_rw (bar2 : Bool) (i rst old : Nat) {w new : Nat} (h : new < 2 ^ w) :
    fieldAfter bar2 (Layout.rw i w rst) old new = new := by
  have e : Nat.max 0 (Nat.min (2 ^ w - 1) new) = new := by
    exact (Nat.zero_max _).trans (Nat.min_eq_right (by omega))
  unfold fieldAfter
  exact (if_neg (show ¬(false && bar2) = true by rw [Bool.false_and]; decide)).trans e

/-- A writable field without bounds takes its bits of the word. -/
theorem rd_store_rw {a : Access} {d p o i w rst : Nat} {v : Word} {r : RegD} (hr : regAt d (p * 0x1000 + o) = some r)
    (hf : Layout.rw i w rst ∈ r.fields) (s : State) :
    rd ⟨Layout.addr d p o, i, w⟩ ((RegWrite.of a d p o v).store s) = bitsOf v.toNat i w :=
  (rd_store_of (f := Layout.rw i w rst) hr hf s).trans (fieldAfter_rw _ _ _ _ (bitsOf_lt ..))

theorem testBit_eq_ne_zero (v i : Nat) : testBit v i = (bitsOf v i 1 != 0) := by
  have h := bitsOf_lt v i 1
  rw [testBit_eq_bitsOf]
  generalize bitsOf v i 1 = x at h
  interval_cases x <;> rfl

theorem flag_store_rw {a : Access} {d p o i rst : Nat} {v : Word} {r : RegD} (hr : regAt d (p * 0x1000 + o) = some r)
    (hf : Layout.rw i 1 rst ∈ r.fields) (s : State) :
    flag ⟨Layout.addr d p o, i, 1⟩ ((RegWrite.of a d p o v).store s) = testBit v.toNat i := by
  rw [testBit_eq_ne_zero]
  exact congrArg (· != 0) (rd_store_rw hr hf s)

/-- A write of CTL leaves EN as the write has it, and the channel's status stands. -/
theorem dmaCtl_stored {d n : Nat} (a : Access) (v : Word) (s : State) (hn : n < 8) :
    flag (R.DMA.CTL_EN d n) ((RegWrite.of a d 0x39 (0x10C + 0x40 * n) v).store s) = testBit v.toNat 0 ∧
      rd (R.DMA.STAT_STATE d n) ((RegWrite.of a d 0x39 (0x10C + 0x40 * n) v).store s) = rd (R.DMA.STAT_STATE d n) s :=
  ⟨flag_store_rw (regAt_dmaCtl d hn) (List.mem_cons_self ..) s, rd_store_ne (by rw [RegWrite.of_at]; exact addr_ne_offset (by omega))⟩

theorem dmaState_set (d n : Nat) {v : Nat} (s : State) (h : v < 4) : rd (R.DMA.STAT_STATE d n) (wr (R.DMA.STAT_STATE d n) v s) = v :=
  rd_wr_lt _ (show 0 + 2 ≤ 32 by decide) h

theorem dmaEn_kept (d n i w v : Nat) (s : State) :
    flag (R.DMA.CTL_EN d n) (wr ⟨Layout.addr d 0x39 (0x114 + 0x40 * n), i, w⟩ v s) = flag (R.DMA.CTL_EN d n) s :=
  flag_wr_of_apart (apart_page (.inl (by omega))) _ _

/-! ### The commands -/

/-- EN from 0 to 1 (R464). -/
theorem dmaCtl_enables {d n v : Nat} {s : State} (hen : testBit v 0 = true) (hkick : testBit v 1 = false) (habort : testBit v 2 = false)
    (hset : flag (R.DMA.CTL_EN d n) s = true) :
    flag (R.DMA.CTL_EN d n) (dmaCtl d n false v s) = true ∧ rd (R.DMA.STAT_STATE d n) (dmaCtl d n false v s) = 1 ∧
      rd (R.DMA.STAT_NEXT d n) (dmaCtl d n false v s) = 0 := by
  have e : dmaCtl d n false v s = wr (R.DMA.STAT_STATE d n) 1 (wr (R.DMA.STAT_NEXT d n) 0 s) := by
    unfold dmaCtl
    simp only [hen, hkick, habort]
    rfl
  rw [e]
  refine ⟨?_, dmaState_set d n _ (by decide), ?_⟩
  · exact (dmaEn_kept ..).trans ((dmaEn_kept ..).trans hset)
  · exact (rd_wr_of_apart (apart_page (.inr (by decide))) _ _).trans (rd_wr_lt _ (show 16 + 16 ≤ 32 by decide) (show 0 < 2 ^ 16 by decide))

/-- A kick of a channel that waits (R464). -/
theorem dmaCtl_kicks {d n v : Nat} {s : State} (hen : testBit v 0 = true) (hkick : testBit v 1 = true) (habort : testBit v 2 = false)
    (hwait : rd (R.DMA.STAT_STATE d n) s = 2) : rd (R.DMA.STAT_STATE d n) (dmaCtl d n true v s) = 1 := by
  have e : dmaCtl d n true v s = wr (R.DMA.STAT_STATE d n) 1 s := by
    unfold dmaCtl
    simp only [hen, hkick, habort, Bool.not_true, Bool.and_false, Bool.false_and, Bool.false_eq_true, if_false, hwait]
    rfl
  rw [e]
  exact dmaState_set d n _ (by decide)

/-! ### The end of a descriptor -/

theorem dmaDrop_idle (d n : Nat) (s : State) : (dmaOf d n (dmaDrop d n s)).cur = none := by
  unfold dmaDrop
  exact congrArg DmaCh.cur (dmaOf_setDma ..)

theorem Touches.dmaOf_eq {m : Nat} {z s : State} (h : Touches m z s) (hm : m.testBit 35 = false) (d n : Nat) : dmaOf d n s = dmaOf d n z :=
  dmaOf_congr d n (h.dmas hm)

theorem dmaStop_idle (d n : Nat) (s : State) : (dmaOf d n (dmaStop d n s)).cur = none := by
  have ht (x : State) : Touches 0x1800000041004 x (evt d 0x39 (16 + n) (recordFault d 0x39 9 false x)) :=
    evt_touches rfl (recordFault_touches rfl (.refl _ x))
  exact (congrArg DmaCh.cur ((ht _).dmaOf_eq rfl d n)).trans (dmaDrop_idle ..)

/-- What a descriptor's end does once its write-back has gone through (R471, R472). -/
def dmaReport (d n size status : Nat) (b : List Byte) (s : State) : State :=
  let s2 := wr (R.DMA.STAT_NEXT d n) ((rd (R.DMA.STAT_NEXT d n) s + 1) % size) s
  let s3 := bump (R.DMA.CNT_DONE d n) (wr (R.DMA.STAT_LAST d n) status s2)
  let s4 := if 1 ≤ status ∧ status ≤ 5 then
      evt d 0x39 (8 + n) (recordFault d 0x39 (if status = 3 ∨ status = 5 then 9 else 8) false (bump (R.DMA.CNT2_BAD d n) s3))
    else s3
  let s5 := onlyIf (parseDma b).irq (evt d 0x39 n) s4
  wr (R.DMA.STAT_STATE d n) (if flag (R.DMA.CTL_EN d n) s5 then 1 else 0) s5

theorem dmaReport_kept (d n size status : Nat) (b : List Byte) (s : State) :
    Touches 0x1800000041004 s (dmaReport d n size status b s) := by
  have h3 : Touches 0x1800000041004 s (bump (R.DMA.CNT_DONE d n) (wr (R.DMA.STAT_LAST d n) status
      (wr (R.DMA.STAT_NEXT d n) ((rd (R.DMA.STAT_NEXT d n) s + 1) % size) s))) :=
    bump_touches rfl (wr_touches rfl (wr_touches rfl (.refl _ s)))
  exact wr_touches rfl (onlyIf_touches (fun _ h => evt_touches (show Sub 0x1004 0x1800000041004 from rfl) h)
    (touches_ite (evt_touches rfl (recordFault_touches rfl (bump_touches rfl h3))) h3))

/-- A descriptor ends: the channel stops at a failed write-back, else it reports the status. -/
theorem dmaEnd_eq (d n status : Nat) (s : State) :
    dmaEnd d n status false s =
      if (dmaWriteBack d n (dmaOf d n s).addr status ((dmaOf d n s).cur.getD []) s).1 = true then
        dmaReport d n (Nat.max 1 (rd (R.DMA.RING_CFG_SIZE d n) s)) status ((dmaOf d n s).cur.getD [])
          (dmaDrop d n (dmaWriteBack d n (dmaOf d n s).addr status ((dmaOf d n s).cur.getD []) s).2)
      else dmaStop d n (dmaWriteBack d n (dmaOf d n s).addr status ((dmaOf d n s).cur.getD []) s).2 := by
  unfold dmaEnd
  dsimp only
  generalize dmaWriteBack d n (dmaOf d n s).addr status ((dmaOf d n s).cur.getD []) s = w
  obtain ⟨ok, t⟩ := w
  cases ok with
  | true => exact (if_neg (by simp)).trans (if_pos rfl).symm
  | false => exact (if_pos (by simp)).trans (if_neg Bool.false_ne_true).symm

theorem dmaEnd_idle (d n status : Nat) (s : State) : (dmaOf d n (dmaEnd d n status false s)).cur = none := by
  rw [dmaEnd_eq]
  split
  · rw [(dmaReport_kept ..).dmaOf_eq rfl]
    exact dmaDrop_idle ..
  · exact dmaStop_idle ..

theorem dmaReport_last (d n size : Nat) (b : List Byte) (s : State) (hn : n < 8) :
    rd (R.DMA.STAT_LAST d n) (dmaReport d n size 0 b s) = 0 := by
  have hblock : BlockWord (R.DMA.STAT_LAST d n).addr := dma_block d n hn (by decide)
  have hirq (c : Bool) (x : State) : rd (R.DMA.STAT_LAST d n) (onlyIf c (evt d 0x39 n) x) = rd (R.DMA.STAT_LAST d n) x := by
    unfold onlyIf
    split
    · exact rd_evt_block (p := 0x39) hblock (by decide)
    · rfl
  refine (rd_wr_of_apart (apart_page (.inr (by decide))) _ _).trans ((hirq ..).trans ?_)
  refine (rd_wr_ne _ _ (addr_ne_offset (by omega))).trans ?_
  exact rd_wr_lt _ (show 8 + 3 ≤ 32 by decide) (show 0 < 2 ^ 3 by decide)

/-- ABORT (R477). -/
theorem dmaCtl_aborts {d n v : Nat} {enBefore : Bool} {s : State} (habort : testBit v 2 = true) :
    (dmaOf d n (dmaCtl d n enBefore v s)).cur = none ∧
      ((dmaOf d n s).cur = none → flag (R.DMA.CTL_EN d n) (dmaCtl d n enBefore v s) = false ∧
        rd (R.DMA.STAT_STATE d n) (dmaCtl d n enBefore v s) = 0) := by
  obtain ⟨x, hx, e⟩ : ∃ x, Touches 0x4 s x ∧ dmaCtl d n enBefore v s =
      match (dmaOf d n (wr (R.DMA.CTL_EN d n) 0 x)).cur with
      | some b => dmaEnd d n 6 false (dmaUndefined (dmaDests (parseDma b) (dmaOf d n (wr (R.DMA.CTL_EN d n) 0 x)).tbl)
          (wr (R.DMA.CTL_EN d n) 0 x))
      | none => wr (R.DMA.STAT_STATE d n) 0 (wr (R.DMA.CTL_EN d n) 0 x) := by
    refine ⟨_, ?_, (if_pos habort : dmaCtl d n enBefore v s = _)⟩
    have h1 : Touches 0x4 s (if (testBit v 0 && !enBefore) = true then wr (R.DMA.STAT_STATE d n) 1 (wr (R.DMA.STAT_NEXT d n) 0 s)
        else if (!testBit v 0 && enBefore && (dmaOf d n s).cur.isNone) = true then wr (R.DMA.STAT_STATE d n) 0 s else s) :=
      touches_ite (wr_touches rfl (wr_touches rfl (.refl _ s))) (touches_ite (wr_touches rfl (.refl _ s)) (.refl _ s))
    exact touches_ite (wr_touches rfl h1) h1
  have hcur : dmaOf d n (wr (R.DMA.CTL_EN d n) 0 x) = dmaOf d n s :=
    Touches.dmaOf_eq (m := 4) (wr_touches rfl hx) rfl d n
  rw [e, hcur]
  cases hc : (dmaOf d n s).cur with
  | some b => exact ⟨dmaEnd_idle .., fun h => absurd h (Option.some_ne_none b)⟩
  | none =>
    refine ⟨?_, fun _ => ⟨?_, dmaState_set d n _ (by decide)⟩⟩
    · exact (congrArg DmaCh.cur ((Touches.dmaOf_eq (m := 4) (wr_touches rfl (.refl _ _)) rfl d n).trans hcur)).trans hc
    · exact (dmaEn_kept ..).trans (flag_wr_zero _ (show 0 + 1 ≤ 32 by decide))

/-! ### Descriptors -/

theorem exec_dmaDescriptorFetch_host {d n : Nat} {s : State} (hup : blockUp d 0x39 s = true) (hn : n < 8)
    (hfence : isFenced (.dma d n) s = false) (hen : flag (R.DMA.CTL_EN d n) s = true) (hrun : rd (R.DMA.STAT_STATE d n) s = 1)
    (hcur : (dmaOf d n s).cur = none) (hhost : dmaHostRing d n s = true) {a : Nat} {b : List Byte}
    (ha : a = dmaRing d n s + 32 * rd (R.DMA.STAT_NEXT d n) s) (hb : b = hostRead a 32 s) :
    exec (.dmaDescriptorFetch d n false) s =
      .next (if (parseDma b).own then dmaBegin d n a b s else wr (R.DMA.STAT_STATE d n) 2 s) := by
  refine Eq.trans (b := execDmaDescriptorFetch d n false s) rfl ?_
  unfold execDmaDescriptorFetch
  rw [if_pos ⟨hup, hn, by rw [hfence]; rfl, hen, hrun, by rw [hcur]; rfl⟩]
  dsimp only
  rw [if_pos hhost, if_neg (by decide), ← ha, ← hb]
  dsimp only
  cases (parseDma b).own <;> rfl

/-- A sound descriptor is in work, with the plane table that the checks have read (R468). -/
theorem dmaBegin_sound {d n a : Nat} {b : List Byte} {s : State} (h : (dmaCheck (parseDma b) s).1 = 0) :
    (dmaOf d n (dmaBegin d n a b s)).cur = some b ∧ (dmaOf d n (dmaBegin d n a b s)).tbl = (dmaCheck (parseDma b) s).2.1 := by
  have e : dmaBegin d n a b s = setDma d n { dmaOf d n (dmaSettle d n (dmaCheck (parseDma b) s).2.2) with
      cur := some b, addr := a, tbl := (dmaCheck (parseDma b) s).2.1, left := 16 * (parseDma b).len }
      (dmaSettle d n (dmaCheck (parseDma b) s).2.2) := if_pos h
  rw [e, dmaOf_setDma]
  exact ⟨rfl, rfl⟩

theorem exec_dmaDescriptorComplete_allowed {d n : Nat} {b : List Byte} {s : State} (hcur : (dmaOf d n s).cur = some b)
    (hup : blockUp d 0x39 s = true) (hn : n < 8) (hfence : isFenced (.dma d n) s = false)
    (hleft : (dmaOf d n (dmaSettle d n s)).left = 0) :
    exec (.dmaDescriptorComplete d n false false) s =
      .next (dmaEnd d n (dmaTransfer (parseDma b) (dmaOf d n s).tbl false s).1 false
        (dmaTransfer (parseDma b) (dmaOf d n s).tbl false s).2) := by
  refine Eq.trans (b := execDmaDescriptorComplete d n false false s) rfl ?_
  unfold execDmaDescriptorComplete
  rw [hcur]
  exact (if_pos ⟨hup, hn, by rw [hfence]; rfl⟩).trans (if_neg fun h => h.2 hleft)

/-- A descriptor that ends soundly leaves memory as its transfer and its write-back left it. -/
theorem dmaEnd_sound {d n : Nat} {b : List Byte} {c : DmaCh} {s : State} (hn : n < 8) (hc : dmaOf d n s = c) (hb : c.cur = some b)
    (hw : (dmaWriteBack d n c.addr 0 b s).1 = true) :
    rd (R.DMA.STAT_LAST d n) (dmaEnd d n 0 false s) = 0 ∧ (dmaEnd d n 0 false s).mem = (dmaWriteBack d n c.addr 0 b s).2.mem ∧
      (dmaEnd d n 0 false s).host = (dmaWriteBack d n c.addr 0 b s).2.host := by
  have hcur : (dmaOf d n s).cur.getD [] = b := by rw [hc, hb]; rfl
  rw [dmaEnd_eq, hcur, hc, if_pos hw]
  generalize (dmaWriteBack d n c.addr 0 b s).2 = t
  have ht : Touches 0x800000000 t (dmaDrop d n t) := dmaDrop_touches rfl (.refl _ t)
  have hr := dmaReport_kept d n (Nat.max 1 (rd (R.DMA.RING_CFG_SIZE d n) s)) 0 b (dmaDrop d n t)
  exact ⟨dmaReport_last _ _ _ _ _ hn, (hr.mem rfl).trans (ht.mem rfl), (hr.host rfl).trans (ht.host rfl)⟩

/-- Settles O42: a channel starts, waits, is kicked, aborted and unfenced, and takes and ends its descriptors. -/
theorem dmaCommandsAct : Obligations.DmaCommandsAct := by
  unfold Obligations.DmaCommandsAct
  refine ⟨?_, ?_, ?_, ?_, ?_, ?_⟩
  · intro a d n v s hn h hfence hen hv
    have hstore := dmaCtl_stored (d := d) a v (landWrite a.rq d s) hn
    have hbit (i : Nat) : testBit v.toNat i = (v.toNat / 2 ^ i % 2 == 1) := rfl
    have h0 : testBit v.toNat 0 = true := by rw [hbit]; exact beq_iff_eq.mpr (by omega)
    refine ⟨_, (exec_dmaEnable hn h).trans (congrArg _ (if_neg (by rw [isFenced_landWrite, hfence]; decide))), ?_⟩
    rw [flag_landWrite, hen]
    exact dmaCtl_enables h0 (by rw [hbit]; exact beq_false_of_ne (by omega)) (by rw [hbit]; exact beq_false_of_ne (by omega))
      (hstore.1.trans h0)
  · intro a d n v s hn h hfence hen hwait h0 h2
    have hstore := dmaCtl_stored (d := d) a (v ||| 2) (landWrite a.rq d s) hn
    refine ⟨_, (exec_dmaKick hn h).trans (congrArg _ (if_neg (by rw [isFenced_landWrite, hfence]; decide))), ?_⟩
    rw [flag_landWrite, hen]
    exact dmaCtl_kicks (by rw [or_bit, h0]; rfl) (testBit_or_of_set (by decide)) ((testBit_or_of_false h2).trans (by decide))
      (hstore.2.trans hwait)
  · intro a d n v s hn h hfence
    refine ⟨_, (exec_dmaAbort hn h).trans (congrArg _ (if_neg (by rw [isFenced_landWrite, hfence]; decide))), ?_⟩
    have hkept : Touches 0x404 s ((RegWrite.of a d 0x39 (0x10C + 0x40 * n) (v ||| 4)).store (landWrite a.rq d s)) :=
      RegWrite.store_touches rfl (landWrite_touches rfl (.refl _ s))
    have habort := dmaCtl_aborts (d := d) (n := n) (v := (v ||| 4).toNat) (enBefore := flag (R.DMA.CTL_EN d n) (landWrite a.rq d s))
      (s := (RegWrite.of a d 0x39 (0x10C + 0x40 * n) (v ||| 4)).store (landWrite a.rq d s)) (testBit_or_of_set (by decide))
    rw [hkept.dmaOf_eq rfl] at habort
    exact habort
  · intro a d n v s hn h hmem hf
    refine ⟨_, (exec_dmaUnfence hn h).trans (congrArg _ ((if_pos (by rw [isFenced_landWrite]; exact isFenced_of_mem hmem)).trans
      (if_pos (testBit_or_of_set (by decide))))), ?_⟩
    exact fun hc => ((unfence_faultless (by exact hf)).2.mp hc).2 rfl
  · intro d n s hup hn hfence hen hrun hcur hhost
    refine ⟨_, exec_dmaDescriptorFetch_host hup hn hfence hen hrun hcur hhost rfl rfl, fun hown => ?_, fun hown hcheck => ?_⟩
    · rw [if_neg (by rw [hown]; decide)]
      exact dmaState_set d n _ (by decide)
    · rw [if_pos hown]
      exact dmaBegin_sound hcheck
  · intro d n b s hcur hup hn hfence hleft
    refine ⟨_, exec_dmaDescriptorComplete_allowed hcur hup hn hfence hleft, dmaEnd_idle .., fun h0 hw => ?_⟩
    have hkept : Touches 0x180020004502c s (dmaTransfer (parseDma b) (dmaOf d n s).tbl false s).2 := dmaTransfer_touches rfl (.refl _ s)
    rw [h0]
    exact dmaEnd_sound hn (hkept.dmaOf_eq rfl d n) hcur hw

end Sys2Proof.Machine
end

section
/-! PROOFS. The master time of D0 and the local time of the dies (R437 to R445). -/

namespace Sys2Proof.Machine

theorem Touches.clockOf_eq {m : Nat} {z s : State} (h : Touches m z s) (hm : m.testBit 8 = false) (d : Nat) : clockOf d s = clockOf d z :=
  clockOf_congr d (h.clocks hm)

theorem Touches.counterOf_eq {m : Nat} {z s : State} (h : Touches m z s) (hm : m.testBit 41 = false) (d c : Nat) :
    counterOf d c s = counterOf d c z := counterOf_congr d c (h.counters hm)

theorem counterC_congr {d : Nat} {s t : State} (hnow : t.now = s.now)
    (hpll : rd (R.CLK.PLL_STAT_STATE d 0) t = rd (R.CLK.PLL_STAT_STATE d 0) s) (h0 : (clockOf d t).c0 = (clockOf d s).c0)
    (hbyp : (clockOf d t).byp = (clockOf d s).byp) : counterC d t = counterC d s := by
  unfold counterC
  dsimp only
  rw [hnow, hpll, h0, hbyp]

theorem ltime_lt (d : Nat) (s : State) : ltime d s < 18446744073709551616 := Nat.mod_lt _ (by decide)

/-- A clock that has just been set runs from the time it was set to. -/
theorem ltime_of_set {d l : Nat} {s : State} (hl : l < 18446744073709551616) (hlk : (clockOf d s).lk = l)
    (hck : (clockOf d s).ck = counterC d s) : ltime d s = l := by
  unfold ltime
  dsimp only
  rw [hlk, hck, Nat.sub_self, Nat.zero_mul, Nat.zero_div, Nat.add_zero]
  exact Nat.mod_eq_of_lt hl

/-- A field of the privileged kind without bounds takes its bits of a word written through BAR0. -/
theorem rd_store_rwp {a : Access} {d p o i w rst : Nat} {v : Word} {r : RegD} (hr : regAt d (p * 0x1000 + o) = some r)
    (hf : Layout.rwp i w rst ∈ r.fields) (hb : a.bar2 = false) (s : State) :
    rd ⟨Layout.addr d p o, i, w⟩ ((RegWrite.of a d p o v).store s) = bitsOf v.toNat i w := by
  refine (rd_store_of (f := Layout.rwp i w rst) hr hf s).trans ?_
  have h : fieldAfter a.bar2 (Layout.rwp i w rst) (rd ⟨Layout.addr d p o, i, w⟩ s) (bitsOf v.toNat i w) =
      fieldAfter false (Layout.rw i w rst) (rd ⟨Layout.addr d p o, i, w⟩ s) (bitsOf v.toNat i w) := by rw [hb]; rfl
  exact h.trans (fieldAfter_rw _ _ _ _ (bitsOf_lt ..))

theorem bitsOf_word (v : Word) : bitsOf v.toNat 0 32 = v.toNat := by
  unfold bitsOf
  rw [Nat.pow_zero, Nat.div_one]
  exact Nat.mod_eq_of_lt v.isLt

/-! ### The commands of D0 -/

theorem exec_timeIncr_bounds {a : Access} {v : Word} {s : State} (h : Reaches a 0 0x32 0x90 s) :
    ∃ t, exec (.timeIncr a v) s = .next t ∧
      t.master.newIncr = some (Nat.max 8587787043 (Nat.min 8592082141 (rd (R.TIME.INCR_FRAC_FRAC 0) s + 4294967296 * v.toNat))) := by
  have hr : regAt 0 (0x32 * 0x1000 + 0x90) = some (Layout.oneD0 0x90 [Layout.rwp 0 32 2]) := rfl
  have hb : a.bar2 = false := h.bar0 hr (by decide)
  have hns : rd (R.TIME.INCR_NS_NS 0) ((RegWrite.of a 0 0x32 0x90 v).store (landWrite a.rq 0 s)) = v.toNat :=
    (rd_store_rwp hr (List.mem_singleton_self _) hb _).trans (bitsOf_word v)
  have hfrac : rd (R.TIME.INCR_FRAC_FRAC 0) ((RegWrite.of a 0 0x32 0x90 v).store (landWrite a.rq 0 s)) = rd (R.TIME.INCR_FRAC_FRAC 0) s :=
    (rd_store_ne (by rw [RegWrite.of_at]; exact addr_ne_offset (by decide))).trans (rd_landWrite ..)
  refine ⟨_, (exec_timeIncr h).trans (congrArg _ (if_neg (by rw [hb]; decide))), ?_⟩
  unfold timeIncr
  rw [hns, hfrac]
  rfl

theorem exec_timeAdj_adds {a : Access} {v : Word} {s : State} (h : Reaches a 0 0x32 0x94 s) :
    ∃ t, exec (.timeAdj a v) s = .next t ∧ t.master.adj = some (s.master.adj.getD 0 + toSigned 32 v.toNat) := by
  have hr : regAt 0 (0x32 * 0x1000 + 0x94) = some (Layout.oneD0 0x94 [Layout.wop 0 32]) := rfl
  exact ⟨_, (exec_timeAdj h).trans (congrArg _ (if_neg (by rw [h.bar0 hr (by decide)]; decide))), rfl⟩

/-! ### Refreshes -/

theorem exec_timeRefresh_arrives {d sec ns frac : Nat} {s : State} (hm : s.msgs.find? (isRefresh d) = some (.refresh d sec ns frac))
    (hup : dieUp d s = true) (hf : dieFenced d s = false) :
    exec (.timeRefresh d) s = .next (refreshDie d (sec * 1000000000 + ns + (if d = 0 then 0 else rd (R.TIME.MORT_LAT_NS d) s))
      { s with msgs := s.msgs.erase (.refresh d sec ns frac) }) := by
  refine Eq.trans (b := execTimeRefresh d s) rfl ?_
  have hgo : (dieUp d { s with msgs := s.msgs.erase (.refresh d sec ns frac) } &&
      !dieFenced d { s with msgs := s.msgs.erase (.refresh d sec ns frac) }) = true := by
    have hup' : dieUp d { s with msgs := s.msgs.erase (.refresh d sec ns frac) } = true := hup
    have hf' : dieFenced d { s with msgs := s.msgs.erase (.refresh d sec ns frac) } = false := hf
    rw [hup', hf']
    rfl
  unfold execTimeRefresh
  rw [hm]
  exact if_pos hgo

/-- The state in which a refresh finds the clock, with its error noted (R443). -/
def refreshNoted (d : Nat) (e : Int) (s : State) : State :=
  wr (R.TIME.SYNC_STAT_MISSED d) 0 (wrS (R.TIME.SYNC_STAT_ERR d) (clampInt (-32768) 32767 e) s)

theorem refreshNoted_kept (d : Nat) (e : Int) (s : State) : Touches 0x4 s (refreshNoted d e s) :=
  wr_touches rfl (wrS_touches rfl (.refl _ s))

theorem counterC_refreshNoted (d : Nat) (e : Int) (s : State) : counterC d (refreshNoted d e s) = counterC d s := by
  have hclk := (refreshNoted_kept d e s).clockOf_eq rfl d
  refine counterC_congr ((refreshNoted_kept d e s).now rfl) ?_ (congrArg DieClock.c0 hclk) (congrArg DieClock.byp hclk)
  exact (rd_wr_of_apart (apart_pages (by decide) (by decide) (by decide)) _ _).trans
    (rd_wr_of_apart (apart_pages (by decide) (by decide) (by decide)) _ _)

/-- The local time is set, with the rate at which it runs until the next refresh (R441). -/
def refreshSet (d lk r : Nat) (s : State) : State :=
  wrS (R.TIME.RATE_CORR d) ((r : Int) - 4294967296) (setClock d { clockOf d s with lk := lk, ck := counterC d s, rk := r } s)

theorem refreshDie_eq (d t : Nat) (s : State) {e : Int} (he : e = toSigned 64 (ltime d s + 18446744073709551616 - t % 18446744073709551616)) :
    refreshDie d t s =
      if e.natAbs ≤ 1000 * rd (R.TIME.SYNC_CFG_STEP_THR d) (refreshNoted d e s) then
        refreshSet d (ltime d s) (slewRate s.master.incr e) (refreshNoted d e s)
      else evt d 0x32 1 (bump (R.TIME.SYNC_STAT_STEPS d)
        (refreshSet d (t % 18446744073709551616) (slewRate s.master.incr 0) (refreshNoted d e s))) := by
  subst he
  rfl

theorem refreshSet_sets {d lk r : Nat} {s : State} (hlk : lk < 18446744073709551616) :
    ltime d (refreshSet d lk r s) = lk ∧ (clockOf d (refreshSet d lk r s)).rk = r ∧
      rd (R.TIME.SYNC_STAT_MISSED d) (refreshSet d lk r s) = rd (R.TIME.SYNC_STAT_MISSED d) s := by
  have hclk : clockOf d (refreshSet d lk r s) = { clockOf d s with lk := lk, ck := counterC d s, rk := r } :=
    (Touches.clockOf_eq (m := 4) (wrS_touches rfl (.refl _ _)) rfl d).trans (clockOf_setClock ..)
  have hset (l : Loc) (c : DieClock) : rd l (setClock d c s) = rd l s := rd_setClock ..
  have hc : counterC d (refreshSet d lk r s) = counterC d s := by
    refine counterC_congr (Touches.now (m := 0x104) (wrS_touches rfl (setClock_touches rfl (.refl _ s))) rfl) ?_ (by rw [hclk]) (by rw [hclk])
    exact (rd_wr_of_apart (apart_pages (by decide) (by decide) (by decide)) _ _).trans (hset ..)
  refine ⟨ltime_of_set hlk (by rw [hclk]) (by rw [hclk, hc]), by rw [hclk], ?_⟩
  exact (rd_wr_of_apart (apart_page (.inl (by decide))) _ _).trans (hset ..)

/-- The clock and its missed refreshes are not changed by the count of a step and its event. -/
theorem stepped_kept (d : Nat) (s : State) :
    ltime d (evt d 0x32 1 (bump (R.TIME.SYNC_STAT_STEPS d) s)) = ltime d s ∧
      clockOf d (evt d 0x32 1 (bump (R.TIME.SYNC_STAT_STEPS d) s)) = clockOf d s ∧
      rd (R.TIME.SYNC_STAT_MISSED d) (evt d 0x32 1 (bump (R.TIME.SYNC_STAT_STEPS d) s)) = rd (R.TIME.SYNC_STAT_MISSED d) s := by
  have ht : Touches 0x1004 s (evt d 0x32 1 (bump (R.TIME.SYNC_STAT_STEPS d) s)) := evt_touches rfl (bump_touches rfl (.refl _ s))
  have hclk := ht.clockOf_eq rfl d
  have hblock (o i w : Nat) (p : Nat) (hp : p = 0x11 ∨ p = 0x32) (ho : 0x40 ≤ o ∧ o < 0x1000) :
      rd ⟨Layout.addr d p o, i, w⟩ (evt d 0x32 1 (bump (R.TIME.SYNC_STAT_STEPS d) s)) =
        rd ⟨Layout.addr d p o, i, w⟩ (bump (R.TIME.SYNC_STAT_STEPS d) s) :=
    rd_evt_block (p := 0x32) (blockWord_addr (by omega) ho.2 (.inr (by omega))) (by decide)
  have hc := counterC_congr (d := d) (ht.now rfl) ((hblock _ _ _ _ (.inl rfl) (by decide)).trans
    (rd_wr_of_apart (apart_pages (by decide) (by decide) (by decide)) _ _)) (by rw [hclk]) (by rw [hclk])
  refine ⟨?_, hclk, (hblock _ _ _ _ (.inr rfl) (by decide)).trans (rd_wr_of_apart (apart_page (.inr (by decide))) _ _)⟩
  unfold ltime
  rw [hclk, hc]

theorem refreshDie_refreshes {d t : Nat} {e : Int} {s : State}
    (he : e = toSigned 64 (ltime d s + 18446744073709551616 - t % 18446744073709551616)) :
    rd (R.TIME.SYNC_STAT_MISSED d) (refreshDie d t s) = 0 ∧
      (e.natAbs ≤ 1000 * rd (R.TIME.SYNC_CFG_STEP_THR d) s → ltime d (refreshDie d t s) = ltime d s ∧
        (clockOf d (refreshDie d t s)).rk = slewRate s.master.incr e) ∧
      (1000 * rd (R.TIME.SYNC_CFG_STEP_THR d) s < e.natAbs → ltime d (refreshDie d t s) = t % 18446744073709551616 ∧
        (clockOf d (refreshDie d t s)).rk = slewRate s.master.incr 0 ∧
        testBit (word (R.HDR.EVT_STAT_EVT d 0x32).addr (refreshDie d t s)).toNat 1 = true) := by
  have hthr : rd (R.TIME.SYNC_CFG_STEP_THR d) (refreshNoted d e s) = rd (R.TIME.SYNC_CFG_STEP_THR d) s :=
    (rd_wr_of_apart (apart_page (.inl (by decide))) _ _).trans (rd_wr_of_apart (apart_page (.inl (by decide))) _ _)
  have hmissed : rd (R.TIME.SYNC_STAT_MISSED d) (refreshNoted d e s) = 0 :=
    rd_wr_lt _ (show 24 + 8 ≤ 32 by decide) (show 0 < 2 ^ 8 by decide)
  rw [refreshDie_eq d t s he, hthr]
  by_cases h : e.natAbs ≤ 1000 * rd (R.TIME.SYNC_CFG_STEP_THR d) s
  · obtain ⟨hl, hr, hm⟩ := refreshSet_sets (d := d) (r := slewRate s.master.incr e) (s := refreshNoted d e s) (ltime_lt d s)
    rw [if_pos h]
    exact ⟨hm.trans hmissed, fun _ => ⟨hl, hr⟩, fun hc => absurd h (Nat.not_le.mpr hc)⟩
  · obtain ⟨hl, hr, hm⟩ := refreshSet_sets (d := d) (r := slewRate s.master.incr 0) (s := refreshNoted d e s)
      (lk := t % 18446744073709551616) (Nat.mod_lt _ (by decide))
    rw [if_neg h]
    obtain ⟨hl', hr', hm'⟩ := stepped_kept d (refreshSet d (t % 18446744073709551616) (slewRate s.master.incr 0) (refreshNoted d e s))
    exact ⟨hm'.trans (hm.trans hmissed), fun hc => absurd hc h, fun _ => ⟨hl'.trans hl, by rw [hr', hr],
      testBit_evt d 0x32 1 _ (by decide) (notPba_addr (by decide) (by decide))⟩⟩

/-- A refresh that does not come is counted, and its last one reported (R443). -/
theorem exec_timeRefreshMiss_counts {d : Nat} {s : State} (hup : dieUp d s = true) :
    ∃ t, exec (.timeRefreshMiss d) s = .next t ∧
      rd (R.TIME.SYNC_STAT_MISSED d) t = Nat.min (rd (R.TIME.SYNC_STAT_MISSED d) s + 1) 255 ∧
      (rd (R.TIME.SYNC_STAT_MISSED d) s + 1 = rd (R.TIME.SYNC_CFG_MISS_LIM d) s →
        testBit (word (R.HDR.EVT_STAT_EVT d 0x32).addr t).toNat 2 = true) := by
  obtain ⟨x, hx, he⟩ : ∃ x : State, x.regs = s.regs ∧ exec (.timeRefreshMiss d) s =
      if rd (R.TIME.SYNC_STAT_MISSED d) x < rd (R.TIME.SYNC_CFG_MISS_LIM d) (bump (R.TIME.SYNC_STAT_MISSED d) x) ∧
          rd (R.TIME.SYNC_CFG_MISS_LIM d) (bump (R.TIME.SYNC_STAT_MISSED d) x) ≤ rd (R.TIME.SYNC_STAT_MISSED d) x + 1 then
        .next (evt d 0x32 2 (recordFault d 0x32 0 false (bump (R.TIME.SYNC_STAT_MISSED d) x)))
      else .next (bump (R.TIME.SYNC_STAT_MISSED d) x) := by
    refine ⟨match s.msgs.find? (isRefresh d) with
      | some m => { s with msgs := s.msgs.erase m }
      | none => s, ?_, Eq.trans (b := execTimeRefreshMiss d s) rfl (if_neg (by rw [hup]; decide))⟩
    cases s.msgs.find? (isRefresh d) <;> rfl
  have hrd (l : Loc) : rd l x = rd l s := by
    unfold rd word
    rw [hx]
  have hlim : rd (R.TIME.SYNC_CFG_MISS_LIM d) (bump (R.TIME.SYNC_STAT_MISSED d) x) = rd (R.TIME.SYNC_CFG_MISS_LIM d) s :=
    (rd_wr_of_apart (apart_page (.inl (by decide))) _ _).trans (hrd _)
  have hcount : rd (R.TIME.SYNC_STAT_MISSED d) (bump (R.TIME.SYNC_STAT_MISSED d) x) = Nat.min (rd (R.TIME.SYNC_STAT_MISSED d) s + 1) 255 := by
    rw [← hrd]
    exact rd_bump_same _ (show 24 + 8 ≤ 32 by decide)
  have hblock : BlockWord (R.TIME.SYNC_STAT_MISSED d).addr := blockWord_addr (by decide) (by decide) (by decide)
  rw [he, hlim, hrd]
  by_cases h : rd (R.TIME.SYNC_STAT_MISSED d) s < rd (R.TIME.SYNC_CFG_MISS_LIM d) s ∧
      rd (R.TIME.SYNC_CFG_MISS_LIM d) s ≤ rd (R.TIME.SYNC_STAT_MISSED d) s + 1
  · rw [if_pos h]
    refine ⟨_, rfl, ?_, fun _ => testBit_evt d 0x32 2 _ (by decide) (notPba_addr (by decide) (by decide))⟩
    exact (rd_evt_block (p := 0x32) hblock (by decide)).trans ((rd_recordFault_block (p := 0x32) hblock (by decide)).trans hcount)
  · rw [if_neg h]
    exact ⟨_, rfl, hcount, fun hc => absurd hc (by omega)⟩

/-! ### Reads that latch -/

/-- The answer of a read holds the low half of a number, whatever the read latches. -/
theorem toNat_answer (n : Nat) : (BitVec.ofNat 32 n).toNat = n % 4294967296 := BitVec.toNat_ofNat ..

theorem rd_answered (l : Loc) (c : Completion) (s : State) : rd l { s with resp := c } = rd l s := rfl

theorem exec_ltLoRead_latches {a : Access} {d : Nat} {s : State} (h : Answers a d 0x32 s) :
    ∃ t, exec (.ltLoRead a d) s = .next t ∧ t.resp.value.toNat = ltime d s % 4294967296 ∧
      rd (R.TIME.LT_HI_LTIME d) t = ltime d s / 4294967296 := by
  have hview : liveView d 0x32 0x40 s = some (stime d s) := rfl
  have heffect : readEffect d 0x32 0x40 s = wr (R.TIME.LT_HI_LTIME d) (ltime d s / 4294967296) s := rfl
  have hlt := ltime_lt d s
  refine ⟨_, exec_ltLoRead h, ?_, ?_⟩
  · dsimp only
    rw [hview, toNat_answer, Option.getD_some, stime, Nat.mod_mod]
  · rw [rd_answered, heffect]
    exact rd_wr_lt (l := R.TIME.LT_HI_LTIME d) s (show 0 + 32 ≤ 32 by decide) (show ltime d s / 4294967296 < 2 ^ 32 by omega)

theorem exec_frcLoRead_latches {a : Access} {d : Nat} {s : State} (h : Answers a d 0x32 s) :
    ∃ t, exec (.frcLoRead a d) s = .next t ∧ t.resp.value.toNat = counterC d s % 4294967296 ∧
      rd (R.TIME.FRC_HI_COUNT d) t = counterC d s / 4294967296 % 4294967296 := by
  have hview : liveView d 0x32 0x5C s = some (counterC d s % 4294967296) := rfl
  have heffect : readEffect d 0x32 0x5C s = wr (R.TIME.FRC_HI_COUNT d) (counterC d s / 4294967296) s := rfl
  refine ⟨_, exec_frcLoRead h, ?_, ?_⟩
  · dsimp only
    rw [hview, toNat_answer, Option.getD_some, Nat.mod_mod]
  · rw [rd_answered, heffect]
    exact rd_wr_same (l := R.TIME.FRC_HI_COUNT d) _ s (show 0 + 32 ≤ 32 by decide)

theorem exec_mtNsRead_latches {a : Access} {s : State} (h : Answers a 0 0x32 s) :
    ∃ t, exec (.mtNsRead a) s = .next t ∧ t.resp.value.toNat = s.master.ns % 4294967296 ∧
      rd (R.TIME.MT_SEC_LO_SEC 0) t = s.master.sec % 4294967296 ∧ rd (R.TIME.MT_SEC_HI_SEC 0) t = s.master.sec / 4294967296 % 65536 := by
  have hview : liveView 0 0x32 0x80 s = some s.master.ns := rfl
  have heffect : readEffect 0 0x32 0x80 s =
      wr (R.TIME.MT_SEC_HI_SEC 0) (s.master.sec / 4294967296) (wr (R.TIME.MT_SEC_LO_SEC 0) s.master.sec s) := rfl
  refine ⟨_, exec_mtNsRead h, ?_, ?_, ?_⟩
  · dsimp only
    rw [hview, toNat_answer, Option.getD_some]
  · rw [rd_answered, heffect]
    exact (rd_wr_of_apart (l := R.TIME.MT_SEC_LO_SEC 0) (m := R.TIME.MT_SEC_HI_SEC 0) (apart_page (.inl (by decide))) _ _).trans
      (rd_wr_same (l := R.TIME.MT_SEC_LO_SEC 0) _ s (show 0 + 32 ≤ 32 by decide))
  · rw [rd_answered, heffect]
    exact rd_wr_same (l := R.TIME.MT_SEC_HI_SEC 0) _ _ (show 0 + 16 ≤ 32 by decide)

theorem exec_posLoRead_latches {a : Access} {d c : Nat} {s : State} (hc : c < 8) (h : Answers a d 0x60 s) :
    ∃ t, exec (.posLoRead a d c) s = .next t ∧ t.resp.value.toNat = (counterOf d c s).count % 4294967296 ∧
      rd (R.CUE.POS_HI_COUNT d c) t = (counterOf d c s).count / 4294967296 % 65536 := by
  have e : (0x160 + 8 * c - 0x160) / 8 = c := by omega
  have hview : liveView d 0x60 (0x160 + 8 * c) s = some ((counterOf d c s).count % 4294967296) := by
    refine (if_pos (by omega)).trans ?_
    rw [e]
  have heffect : readEffect d 0x60 (0x160 + 8 * c) s = wr (R.CUE.POS_HI_COUNT d c) ((counterOf d c s).count / 4294967296) s := by
    refine (if_pos (by omega)).trans ?_
    rw [e]
  refine ⟨_, exec_posLoRead hc h, ?_, ?_⟩
  · dsimp only
    rw [hview, toNat_answer, Option.getD_some, Nat.mod_mod]
  · rw [rd_answered, heffect]
    exact rd_wr_same (l := R.CUE.POS_HI_COUNT d c) _ s (show 0 + 16 ≤ 32 by decide)

/-- Settles O40: the master time is set and sent, the dies follow it, and the reads of both latch their upper parts. -/
theorem timeCommandsAct : Obligations.TimeCommandsAct := by
  unfold Obligations.TimeCommandsAct
  refine ⟨fun a v s h => exec_timeIncr_bounds h, fun a v s h => exec_timeAdj_adds h, fun a v s h => ?_, fun s => ⟨_, rfl, rfl⟩, ?_,
    fun d s hup => exec_timeRefreshMiss_counts hup, fun a d s h => exec_ltLoRead_latches h, fun a d s h => exec_frcLoRead_latches h,
    fun a s h => exec_mtNsRead_latches h, fun a d c s hc h => exec_posLoRead_latches hc h⟩
  · exact ⟨_, (exec_timeSet h).trans (congrArg _ (if_pos (testBit_or_of_set (by decide)))), rfl⟩
  · intro d sec ns frac T e s hm hup hf hT he
    have ht (y : State) : Touches 0x1104 y (refreshDie d T y) := refreshDie_touches rfl (.refl _ y)
    have hr := refreshDie_refreshes (d := d) (t := T) (e := e) (s := { s with msgs := s.msgs.erase (.refresh d sec ns frac) }) he
    exact ⟨_, (exec_timeRefresh_arrives hm hup hf).trans (by rw [← hT]), (ht _).msgs rfl, hr⟩

end Sys2Proof.Machine
end

section
/-! PROOFS. The Ethernet ports of D0 (R435 to R450). -/

namespace Sys2Proof.Machine

/-! ### What has been sent stays sent -/

/-- Everything sent before is still among what has been sent. -/
def StaysSent (s t : State) : Prop := s.sent <:+ t.sent

theorem StaysSent.trans {s t u : State} (h : StaysSent s t) (g : StaysSent t u) : StaysSent s u := List.IsSuffix.trans h g

theorem Touches.staysSent {m : Nat} {s t : State} (h : Touches m s t) (hm : m.testBit 12 = false) : StaysSent s t := by
  unfold StaysSent
  rw [h.sent hm]

theorem StaysSent.ite {s t u : State} {c : Prop} [Decidable c] (ht : StaysSent s t) (hu : StaysSent s u) :
    StaysSent s (if c then t else u) := by
  split
  · exact ht
  · exact hu

theorem staysSent_refl (s : State) : StaysSent s s := List.suffix_refl _

theorem signalVector_staysSent (v : Nat) (s : State) : StaysSent s (signalVector v s) :=
  .ite (Touches.staysSent (m := 4) (putWord_touches rfl (.refl _ s)) rfl) (List.suffix_cons _ _)

theorem signalAll_staysSent (l : List Nat) (s : State) : StaysSent s (signalAll l s) := by
  induction l generalizing s with
  | nil => exact staysSent_refl s
  | cons v l ih => exact (signalVector_staysSent v s).trans (ih _)

theorem afterHeader_staysSent (d p : Nat) (x y : Bool) (s : State) : StaysSent s (afterHeader d p x y s) := by
  have hline (kind : Nat) (t : State) : StaysSent t (signalLine d p kind t) := signalAll_staysSent _ t
  have h1 : StaysSent s (if (evtLine d p s && !x) = true then signalLine d p 0 s else s) := .ite (hline 0 s) (staysSent_refl s)
  exact h1.trans (.ite (hline 1 _) (staysSent_refl _))

theorem evt_staysSent (d p b : Nat) (s : State) : StaysSent s (evt d p b s) :=
  (Touches.staysSent (m := 4) (putWord_touches rfl (.refl _ s)) rfl).trans (afterHeader_staysSent ..)

theorem recordFault_staysSent (d p src : Nat) (forced : Bool) (s : State) : StaysSent s (recordFault d p src forced s) := by
  have hpulse (cls esn : Nat) (t : State) : StaysSent t (errPulse d p src cls esn forced t) := by
    have hregs (t : State) : StaysSent t (putWord (R.CTRL.ERR_SRC1_ESN 0).addr (BitVec.ofNat 32 esn)
        (putWord (R.CTRL.ERR_SRC0_DIE 0).addr (BitVec.ofNat 32 (d + 256 * p + 65536 * src + 4194304 * cls))
          (wr (R.CTRL.ERR_STAT_PULSE 0) 1 (bump (R.CTRL.ERR_STAT_PULSES 0) t)))) :=
      Touches.staysSent (m := 4) (putWord_touches rfl (putWord_touches rfl (wr_touches rfl (bump_touches rfl (.refl _ t))))) rfl
    have hset (e : Option Nat) : StaysSent t { t with errPulseEnd := e } := staysSent_refl t
    exact .ite ((hset _).trans ((hregs _).trans (evt_staysSent ..))) (staysSent_refl t)
  have h1 (t : State) (x y : Bool) (a : Nat) (w : Word) : StaysSent t (afterHeader d p x y (putWord a w t)) :=
    (Touches.staysSent (m := 4) (putWord_touches rfl (.refl _ t)) rfl).trans (afterHeader_staysSent ..)
  have h2 (cls esn v : Nat) (t : State) : StaysSent t (fillRecords d p src cls esn (bump (R.HDR.ERR_COUNT_COUNT d p) (wr (R.DIE.ESN_NOW_ESN d) v t))) :=
    Touches.staysSent (m := 4) (fillRecords_touches rfl (bump_touches rfl (wr_touches rfl (.refl _ t)))) rfl
  have hlog (n : Nat) (t : State) : StaysSent t (logTrigger 6 n t) :=
    Touches.staysSent (m := 0x1800000000004) (logTrigger_touches rfl (.refl _ t)) rfl
  have h3 := (h1 s (evtLine d p s) (fltLine d p s) (R.HDR.FLT_STAT_FLT d p).addr
    (word (R.HDR.FLT_STAT_FLT d p).addr s ||| BitVec.ofNat 32 (2 ^ src))).trans ((h2 (faultClass p src) (rd (R.DIE.ESN_NOW_ESN d) s)
      (rd (R.DIE.ESN_NOW_ESN d) s + 1) _).trans (hpulse (faultClass p src) (rd (R.DIE.ESN_NOW_ESN d) s) _))
  exact .ite (h3.trans (hlog _ _)) h3

/-! ### A port's queues -/

theorem Touches.ethOf_eq {m : Nat} {z s : State} (h : Touches m z s) (hm : m.testBit 64 = false) (p : Nat) : ethOf p s = ethOf p z :=
  ethOf_congr p (h.eths hm)

theorem elnk_block {p o : Nat} (hp : p < 2) (ho : 0x100 ≤ o ∧ o < 0x200) : BlockWord (Layout.addr 0 0x31 (o + 0x100 * p)) :=
  blockWord_addr (by decide) (by omega) (.inr ⟨by decide, by decide, by decide, by omega⟩)

theorem ethUp_lt {p : Nat} {s : State} (h : ethUp p s = true) : p < 2 := by
  unfold ethUp at h
  simp only [Bool.and_eq_true, decide_eq_true_eq] at h
  omega

/-- What a look at the queues leaves: everything sent, and the count of frames sent. -/
def CountKept (p : Nat) (s t : State) : Prop := StaysSent s t ∧ rd (R.ELNK.TX_OK_COUNT 0 p) t = rd (R.ELNK.TX_OK_COUNT 0 p) s

theorem CountKept.trans {p : Nat} {s t u : State} (h : CountKept p s t) (g : CountKept p t u) : CountKept p s u :=
  ⟨h.1.trans g.1, g.2.trans h.2⟩

theorem countKept_refl (p : Nat) (s : State) : CountKept p s s := ⟨staysSent_refl s, rfl⟩

theorem txComplete_kept {p q : Nat} (addr : Nat) (desc : List Byte) (stamp : Option Nat) (status : Nat) (s : State) (hp : p < 2)
    (hq : q < 8) : CountKept p s (txComplete p q addr desc stamp status s) := by
  have hblock : BlockWord (R.ELNK.TX_OK_COUNT 0 p).addr := elnk_block (o := 0x1C8) hp (by decide)
  obtain ⟨x, v, hx, e⟩ : ∃ x v, Touches 0x20 s x ∧ txComplete p q addr desc stamp status s = evt 0 0x31 3 (wr (R.ELNK.TXQ_CFG_NEXT 0 p q) v x) := by
    refine ⟨_, _, ?_, rfl⟩
    cases stamp with
    | none => exact hostPut_touches rfl (hostPut_touches rfl (.refl _ s))
    | some t => exact hostPut_touches rfl (hostPut_touches rfl (hostWrite_touches rfl (.refl _ s)))
  rw [e]
  refine ⟨?_, ?_⟩
  · exact (hx.staysSent rfl).trans ((Touches.staysSent (m := 4) (wr_touches rfl (.refl _ x)) rfl).trans (evt_staysSent ..))
  · refine (rd_evt_block (p := 0x31) hblock (by decide)).trans ?_
    exact (rd_wr_of_apart (apart_page (.inl (by omega))) _ _).trans (hx.rd_eq rfl _)

theorem txBad_kept {p q : Nat} (addr : Nat) (desc : List Byte) (status : Nat) (s : State) (hp : p < 2) (hq : q < 8) :
    CountKept p s (txBad p q addr desc status s) := by
  have hblock : BlockWord (R.ELNK.TX_OK_COUNT 0 p).addr := elnk_block (o := 0x1C8) hp (by decide)
  refine (txComplete_kept addr desc none status s hp hq).trans ⟨(recordFault_staysSent ..).trans (evt_staysSent ..), ?_⟩
  exact (rd_evt_block (p := 0x31) hblock (by decide)).trans (rd_recordFault_block (p := 0x31) hblock (by decide))

/-- The heads of the queues that hold a frame, the highest first. -/
def txHeads (p : Nat) (s : State) : List (Nat × List Byte) :=
  (List.range 8).reverse.filterMap (fun q => (txHead p q s).map (fun b => (q, b)))

theorem mem_txHeads {p : Nat} {s : State} {h : Nat × List Byte} : h ∈ txHeads p s ↔ h.1 < 8 ∧ txHead p h.1 s = some h.2 := by
  obtain ⟨q, b⟩ := h
  unfold txHeads
  simp only [List.mem_filterMap, List.mem_reverse, List.mem_range, Option.map_eq_some_iff, Prod.mk.injEq]
  constructor
  · rintro ⟨r, hr, c, hc, rfl, rfl⟩
    exact ⟨hr, hc⟩
  · exact fun ⟨hq, hb⟩ => ⟨q, hq, b, hb, rfl, rfl⟩

/-- The state of the port after a look that finds no bad descriptor: the queues found empty are looked at no more. -/
def txStopped (p : Nat) (s : State) : State :=
  let empty := (List.range 8).filter (fun q => (txHead p q s).isNone && rd (R.ELNK.TXQ_CFG_SIZE 0 p q) s != 0)
  setEth p { ethOf p s with stopped := empty.filter (fun q => !(ethOf p s).stopped.contains q) ++ (ethOf p s).stopped } s

theorem txSchedule_succ (p n : Nat) (s : State) : txSchedule p (n + 1) s =
    if !ethUp p s ∨ (ethOf p s).run.isSome then s
    else match (txHeads p s).find? (fun h => !txSound h.2) with
      | some h => txSchedule p n (txBad p h.1 (txHeadAddr p h.1 s) h.2 3 s)
      | none => match (txHeads p s).find? (fun h => !txLaunch h.2) with
        | some h => if txFits p (fieldLe h.2 8 2) (txStopped p s) then txStart p h.1 h.2 0 (txStopped p s) else txStopped p s
        | none => txStopped p s := rfl

theorem txSchedule_kept {p : Nat} (hp : p < 2) (n : Nat) (s : State) : CountKept p s (txSchedule p n s) := by
  have heth (v : EthPort) (x : State) : CountKept p x (setEth p v x) := by
    have h : Touches 0x10000000000000000 x (setEth p v x) := setEth_touches rfl (.refl _ x)
    exact ⟨h.staysSent rfl, h.rd_eq rfl _⟩
  induction n generalizing s with
  | zero => exact countKept_refl p s
  | succ n ih =>
    rw [txSchedule_succ]
    split
    · exact countKept_refl p s
    · split
      · next h hfind =>
        have hq : h.1 < 8 := (mem_txHeads.mp (List.mem_of_find?_eq_some hfind)).1
        exact (txBad_kept _ _ _ _ hp hq).trans (ih _)
      · split
        · split
          · exact (heth _ s).trans (heth _ _)
          · exact heth _ s
        · exact heth _ s

theorem ethFrameSent_counts {p q : Nat} {r : TxRun} {s : State} (hp : p < 2) (hq : q < 8) (hrun : (ethOf p s).run = some r)
    (hrq : r.q = q) (hdue : r.finish ≤ s.now) :
    ∃ t, exec (.ethFrameSent p q false) s = .next t ∧
      Sent.eth p (txFrame r.desc (hostRead (fieldLe r.desc 0 8) (fieldLe r.desc 8 2) s) r.stamp) ∈ t.sent ∧
      rd (R.ELNK.TX_OK_COUNT 0 p) t = Nat.min (rd (R.ELNK.TX_OK_COUNT 0 p) s + 1) 4294967295 := by
  obtain ⟨x, ts, hx, hsent, e⟩ : ∃ x ts, Touches 0x10000000000001000 s x ∧
      Sent.eth p (txFrame r.desc (hostRead (fieldLe r.desc 0 8) (fieldLe r.desc 8 2) s) r.stamp) ∈ x.sent ∧
      exec (.ethFrameSent p q false) s =
        .next (txLook p (bump (R.ELNK.TX_OK_COUNT 0 p) (txComplete p q r.addr r.desc ts r.status x))) := by
    refine ⟨{ setEth p { ethOf p s with run := none } s with
        sent := .eth p (txFrame r.desc (hostRead (fieldLe r.desc 0 8) (fieldLe r.desc 8 2) s) r.stamp) :: s.sent },
      if testBit (fieldLe r.desc 10 1) 2 then some r.stamp else none,
      Touches.upD_sent rfl (setEth_touches rfl (.refl _ s)), List.mem_cons_self .., Eq.trans (b := execEthFrameSent p q false s) rfl ?_⟩
    unfold execEthFrameSent
    dsimp only
    rw [hrun]
    exact (if_neg (fun h => h.elim (fun h => h hrq) (fun h => absurd hdue (Nat.not_le.mpr h.2)))).trans (if_neg (by decide))
  have hcomplete := txComplete_kept r.addr r.desc ts r.status x hp hq
  have hbump (y : State) : Touches 0x4 y (bump (R.ELNK.TX_OK_COUNT 0 p) y) := bump_touches rfl (.refl _ y)
  have hlook := txSchedule_kept hp 65536 (bump (R.ELNK.TX_OK_COUNT 0 p) (txComplete p q r.addr r.desc ts r.status x))
  refine ⟨_, e, ((hcomplete.1.trans ((hbump _).staysSent rfl)).trans hlook.1).subset hsent, hlook.2.trans ?_⟩
  rw [← hx.rd_eq rfl, ← hcomplete.2]
  exact rd_bump_same _ (show 0 + 32 ≤ 32 by decide)

/-! ### A launch or a kick starts a frame -/

theorem txStart_starts (p q : Nat) (b : List Byte) (status : Nat) (s : State) :
    ∃ r, (ethOf p (txStart p q b status s)).run = some r ∧ r.q = q ∧ r.desc = b ∧ r.status = status :=
  ⟨_, congrArg EthPort.run (ethOf_setEth ..), rfl, rfl, rfl⟩

/-- A launch that has come, of a sound descriptor with no higher one due: its frame starts, late or in time (R449). -/
theorem ethLaunch_starts {p q : Nat} {b : List Byte} {s : State} (hup : ethUp p s = true) (hrun : (ethOf p s).run = none) (hq : q < 8)
    (hhead : txHead p q s = some b) (hlaunch : txLaunch b = true) (hdue : fieldLe b 16 8 ≤ masterNs s)
    (hhigh : ∀ r, r < 8 → q < r → txHead p r s = none) (hsound : txSound b = true)
    (hlate : masterNs s ≤ fieldLe b 16 8 + rd (R.ELNK.LATE_TOL_NS 0 p) s ∨ testBit (fieldLe b 10 1) 4 = false) :
    ∃ t, exec (.ethLaunch p q) s = .next t ∧ ∃ r, (ethOf p t).run = some r ∧ r.q = q ∧ r.desc = b ∧
      r.status = if masterNs s ≤ fieldLe b 16 8 + rd (R.ELNK.LATE_TOL_NS 0 p) s then 0 else 2 := by
  have hfree : ¬((!ethUp p s) = true ∨ (ethOf p s).run.isSome = true ∨ 8 ≤ q) := by
    rw [hup, hrun]
    simp
    omega
  have hgo : ¬((!(txLaunch b && decide (fieldLe b 16 8 ≤ masterNs s))) = true ∨ ((List.range 8).any (fun r => decide (q < r) &&
      (match txHead p r s with
        | some c => txLaunch c && decide (fieldLe c 16 8 ≤ masterNs s)
        | none => false))) = true) := by
    rintro (h | h)
    · rw [hlaunch, decide_eq_true hdue] at h
      exact absurd h (by decide)
    · obtain ⟨r, hr, h⟩ := List.any_eq_true.mp h
      by_cases hqr : q < r
      · rw [hhigh r (List.mem_range.mp hr) hqr, Bool.and_false] at h
        exact absurd h (by decide)
      · rw [decide_eq_false hqr, Bool.false_and] at h
        exact absurd h (by decide)
  have he : exec (.ethLaunch p q) s =
      if fieldLe b 16 8 + rd (R.ELNK.LATE_TOL_NS 0 p) s < masterNs s then
        if testBit (fieldLe b 10 1) 4 then .next (txLook p (txComplete p q (txHeadAddr p q s) b none 1
          (evt 0 0x31 4 (bump (R.ELNK.TX_LATE_COUNT 0 p) s))))
        else .next (txStart p q b 2 (evt 0 0x31 4 (bump (R.ELNK.TX_LATE_COUNT 0 p) s)))
      else .next (txStart p q b 0 s) := by
    refine Eq.trans (b := execEthLaunch p q s) rfl ?_
    unfold execEthLaunch
    refine (if_neg hfree).trans ?_
    rw [hhead]
    exact (if_neg hgo).trans (if_neg (by rw [hsound]; decide))
  rw [he]
  by_cases h : masterNs s ≤ fieldLe b 16 8 + rd (R.ELNK.LATE_TOL_NS 0 p) s
  · rw [if_neg (Nat.not_lt.mpr h), if_pos h]
    exact ⟨_, rfl, txStart_starts ..⟩
  · rw [if_pos (Nat.not_le.mp h), if_neg h, if_neg (by rw [hlate.resolve_left h]; decide)]
    exact ⟨_, rfl, txStart_starts ..⟩

/-- A change of the ports' own state leaves the rings as they are. -/
theorem rings_congr {p q : Nat} {s t : State} (hr : t.regs = s.regs) (hh : t.host = s.host) :
    rd (R.ELNK.TXQ_CFG_SIZE 0 p q) t = rd (R.ELNK.TXQ_CFG_SIZE 0 p q) s ∧
      hostRead (txHeadAddr p q t) 32 t = hostRead (txHeadAddr p q s) 32 s := by
  have hrd (l : Loc) : rd l t = rd l s := by
    unfold rd word
    rw [hr]
  refine ⟨hrd _, ?_⟩
  unfold txHeadAddr
  rw [hrd, hrd, hrd]
  unfold hostRead hostGet
  rw [hh]

theorem txHead_eq (p q : Nat) (s : State) : txHead p q s =
    if rd (R.ELNK.TXQ_CFG_SIZE 0 p q) s ≠ 0 ∧ q ∉ (ethOf p s).stopped ∧
        testBit (fieldLe (hostRead (txHeadAddr p q s) 32 s) 10 1) 0 = true then some (hostRead (txHeadAddr p q s) 32 s) else none := by
  unfold txHead
  by_cases h0 : rd (R.ELNK.TXQ_CFG_SIZE 0 p q) s = 0
  · rw [if_pos (.inl h0), if_neg (fun h => h.1 h0)]
  · by_cases h1 : q ∈ (ethOf p s).stopped
    · rw [if_pos (.inr (List.contains_iff_mem.mpr h1)), if_neg (fun h => h.2.1 h1)]
    · rw [if_neg (fun h => h.elim h0 (fun h => h1 (List.contains_iff_mem.mp h)))]
      exact if_congr ⟨fun h => ⟨h0, h1, h⟩, fun h => h.2.2⟩ rfl rfl

/-- A queue without a frame has none after more queues have been set aside. -/
theorem txHead_none_of {p q : Nat} {s t : State} (hr : t.regs = s.regs) (hh : t.host = s.host)
    (hst : q ∈ (ethOf p s).stopped → q ∈ (ethOf p t).stopped) (h : txHead p q s = none) : txHead p q t = none := by
  obtain ⟨hsize, hread⟩ := rings_congr (p := p) (q := q) hr hh
  rw [txHead_eq] at h ⊢
  rw [hsize, hread]
  exact if_neg fun hc => absurd h (by rw [if_pos ⟨hc.1, fun hm => hc.2.1 (hst hm), hc.2.2⟩]; exact Option.some_ne_none _)

/-- With one posted frame, sound and without launch time, a look at the queues starts it (R448, R449). -/
theorem txLook_starts {p q : Nat} {b : List Byte} {s : State} (hup : ethUp p s = true) (hrun : (ethOf p s).run = none) (hq : q < 8)
    (hhead : txHead p q s = some b) (hothers : ∀ r, r < 8 → r ≠ q → txHead p r s = none) (hsound : txSound b = true)
    (hlaunch : txLaunch b = false) : txLook p s = txStart p q b 0 (txStopped p s) := by
  have honly (h : Nat × List Byte) (hm : h ∈ txHeads p s) : h = (q, b) := by
    obtain ⟨hr, hb⟩ := mem_txHeads.mp hm
    by_cases e : h.1 = q
    · rw [e, hhead] at hb
      exact Prod.ext e (Option.some.inj hb).symm
    · rw [hothers _ hr e] at hb
      exact absurd hb.symm (Option.some_ne_none _)
  have hbad : (txHeads p s).find? (fun h => !txSound h.2) = none := by
    refine List.find?_eq_none.mpr fun h hm => ?_
    rw [honly h hm, hsound]
    decide
  have hfirst : (txHeads p s).find? (fun h => !txLaunch h.2) = some (q, b) := by
    cases hf : (txHeads p s).find? (fun h => !txLaunch h.2) with
    | some h => rw [honly h (List.mem_of_find?_eq_some hf)]
    | none =>
      have := List.find?_eq_none.mp hf (q, b) (mem_txHeads.mpr ⟨hq, hhead⟩)
      rw [hlaunch] at this
      exact absurd rfl this
  have hnone (r : Nat) (hr : r < 8) (e : r ≠ q) : txHead p r (txStopped p s) = none := by
    refine txHead_none_of (s := s) rfl rfl (fun hm => ?_) (hothers r hr e)
    unfold txStopped
    rw [ethOf_setEth]
    exact List.mem_append_right _ hm
  have hfits : txFits p (fieldLe b 8 2) (txStopped p s) = true := by
    refine List.all_eq_true.mpr fun t ht => ?_
    obtain ⟨r, hr, h⟩ := List.mem_filterMap.mp ht
    by_cases e : r = q
    · subst e
      have hb : b = hostRead (txHeadAddr p r s) 32 s := by
        rw [txHead_eq] at hhead
        split at hhead
        · exact (Option.some.inj hhead).symm
        · exact absurd hhead.symm (Option.some_ne_none _)
      rw [txHead_eq, (rings_congr (s := s) (t := txStopped p s) rfl rfl).2, ← hb] at h
      split at h
      · next c hc =>
        split at hc
        · rw [← Option.some.inj hc, hlaunch] at h
          exact absurd h.symm (Option.some_ne_none _)
        · exact absurd hc.symm (Option.some_ne_none _)
      · exact absurd h.symm (Option.some_ne_none _)
    · rw [hnone r (List.mem_range.mp hr) e] at h
      exact absurd h.symm (Option.some_ne_none _)
  unfold txLook
  rw [txSchedule_succ, if_neg (by rw [hup, hrun]; decide), hbad]
  dsimp only
  rw [hfirst]
  exact if_pos hfits

/-- TX_KICK before the port looks at its queues (R448). -/
def txAsked (p q : Nat) (s : State) : State := setEth p { ethOf p s with stopped := (ethOf p s).stopped.filter (· != q) } s

theorem not_mem_kicked (q : Nat) (l : List Nat) : q ∉ l.filter (· != q) := fun h => by
  have := (List.mem_filter.mp h).2
  simp at this

theorem mem_kicked_of_ne {q r : Nat} {l : List Nat} (h : r ≠ q) (hm : r ∈ l) : r ∈ l.filter (· != q) :=
  List.mem_filter.mpr ⟨hm, by simpa using h⟩

theorem txLook_busy {p : Nat} {s : State} (h : (ethOf p s).run ≠ none) : txLook p s = s := by
  unfold txLook
  rw [txSchedule_succ]
  exact if_pos (.inr (Option.isSome_iff_ne_none.mpr h))

theorem txKick_busy {p q : Nat} {s : State} (h : (ethOf p s).run ≠ none) :
    (ethOf p (txKick p q s)).run = (ethOf p s).run ∧ q ∉ (ethOf p (txKick p q s)).stopped := by
  have e : ethOf p (txAsked p q s) = { ethOf p s with stopped := (ethOf p s).stopped.filter (· != q) } := ethOf_setEth ..
  have hk : txKick p q s = txAsked p q s := txLook_busy (s := txAsked p q s) (by rw [e]; exact h)
  rw [hk, e]
  exact ⟨rfl, not_mem_kicked _ _⟩

theorem txKick_starts {p q : Nat} {s : State} (hup : ethUp p s = true) (hrun : (ethOf p s).run = none) (hq : q < 8)
    (hsize : rd (R.ELNK.TXQ_CFG_SIZE 0 p q) s ≠ 0) (hothers : ∀ r, r < 8 → r ≠ q → txHead p r s = none)
    (hown : testBit (fieldLe (hostRead (txHeadAddr p q s) 32 s) 10 1) 0 = true)
    (hsound : txSound (hostRead (txHeadAddr p q s) 32 s) = true) (hlaunch : txLaunch (hostRead (txHeadAddr p q s) 32 s) = false) :
    ∃ r, (ethOf p (txKick p q s)).run = some r ∧ r.q = q ∧ r.desc = hostRead (txHeadAddr p q s) 32 s ∧ r.status = 0 := by
  have e : ethOf p (txAsked p q s) = { ethOf p s with stopped := (ethOf p s).stopped.filter (· != q) } := ethOf_setEth ..
  obtain ⟨hsz, hrd⟩ := rings_congr (p := p) (q := q) (s := s) (t := txAsked p q s) rfl rfl
  have hhead : txHead p q (txAsked p q s) = some (hostRead (txHeadAddr p q s) 32 s) := by
    rw [txHead_eq, hsz, hrd, e]
    exact if_pos ⟨hsize, not_mem_kicked _ _, hown⟩
  have hnone (r : Nat) (hr : r < 8) (hne : r ≠ q) : txHead p r (txAsked p q s) = none :=
    txHead_none_of (s := s) rfl rfl (fun hm => by rw [e]; exact mem_kicked_of_ne hne hm) (hothers r hr hne)
  have hk : txKick p q s = txStart p q (hostRead (txHeadAddr p q s) 32 s) 0 (txStopped p (txAsked p q s)) :=
    txLook_starts (s := txAsked p q s) hup (by rw [e]; exact hrun) hq hhead hnone hsound hlaunch
  rw [hk]
  exact txStart_starts ..

/-! ### Reception -/

theorem rxBad_counts {p : Nat} {frame : List Byte} {sound : Bool} {s : State} (hup : ethUp p s = true)
    (hbad : sound = false ∨ frame.length < 64 ∨ 2048 < frame.length) :
    ∃ t, exec (.ethFrameReceive p frame sound) s = .next t ∧
      rd (R.ELNK.RX_ERR_COUNT 0 p) t = Nat.min (rd (R.ELNK.RX_ERR_COUNT 0 p) s + 1) 65535 := by
  refine ⟨_, Eq.trans (b := execEthFrameReceive p frame sound s) rfl ((if_neg (by rw [hup]; decide)).trans (if_pos ?_)),
    rd_bump_same _ (show 0 + 16 ≤ 32 by decide)⟩
  exact hbad.imp_left (fun h => by rw [h]; rfl)

/-- A frame goes to the host's buffer, and its descriptor, at `a`, back to the host (R436, R445). -/
def rxTaken (p : Nat) (frame : List Byte) (ptp : Bool) (a : Nat) (s : State) : State :=
  let stamp := (masterNs s + 18446744073709551616 - rd (R.ELNK.LAT_ING 0 p) s) % 18446744073709551616
  let s2 := hostWrite (leNat (hostRead a 8 s)) frame s
  let s3 := hostWrite (a + 16) (leBytes 8 stamp) (hostWrite (a + 8) (leBytes 2 frame.length) s2)
  let flags := (hostGet (a + 10) s3).toNat
  let s4 := hostPut (a + 10) (BitVec.ofNat 8 (withBits (withBits flags 1 1 (b2n ptp)) 0 1 0)) s3
  let s5 := wr (R.ELNK.RX_CFG_NEXT 0 p) ((rd (R.ELNK.RX_CFG_NEXT 0 p) s4 + 1) % rd (R.ELNK.RX_CFG_SIZE 0 p) s4) s4
  evt 0 0x31 0 (bump (R.ELNK.RX_OK_COUNT 0 p) s5)

/-- A frame that finds no descriptor is dropped, and the ring is looked at no more (R448). -/
def rxDropped (p : Nat) (s : State) : State :=
  let e := ethOf p s
  bump (R.ELNK.RX_DROP_COUNT 0 p) (setEth p (if e.stopped.contains 8 then e else { e with stopped := 8 :: e.stopped }) s)

/-- What becomes of a sound frame once a Sync in it has been noted (R436). -/
def rxOffered (p : Nat) (frame : List Byte) (ptp : Bool) (s : State) : Host.Outcome State Fault Refusal :=
  if !ethAccepts p frame s then .next s
  else match rxDesc p s with
    | none => .next (rxDropped p s)
    | some a => .next (rxTaken p frame ptp a s)

theorem exec_ethFrameReceive_sound {p : Nat} {frame : List Byte} {s : State} (hup : ethUp p s = true) (hlo : 64 ≤ frame.length)
    (hhi : frame.length ≤ 2048) (hsync : ∀ o, ptpAt frame = some o → isSync frame o = false) (hfor : ethAccepts p frame s = true) :
    exec (.ethFrameReceive p frame true) s = .next ((rxDesc p s).elim (rxDropped p s) fun a => rxTaken p frame (ptpAt frame).isSome a s) := by
  have hlen : ¬((!true) = true ∨ frame.length < 64 ∨ 2048 < frame.length) := by simp; omega
  have htail (ptp : Bool) : rxOffered p frame ptp s = .next ((rxDesc p s).elim (rxDropped p s) fun a => rxTaken p frame ptp a s) := by
    unfold rxOffered
    rw [if_neg (by rw [hfor]; decide)]
    cases rxDesc p s <;> rfl
  refine Eq.trans (b := execEthFrameReceive p frame true s) rfl ?_
  unfold execEthFrameReceive
  rw [if_neg (by rw [hup]; decide), if_neg hlen]
  cases hptp : ptpAt frame with
  | none => exact htail false
  | some o =>
    have hplain : (if isSync frame o then takeSync frame o s else s) = s := if_neg (ne_true_of_eq_false (hsync o hptp))
    exact (congrArg (rxOffered p frame true) hplain).trans (htail true)

theorem rxTaken_counts {p : Nat} (frame : List Byte) (ptp : Bool) (a : Nat) (s : State) (hp : p < 2) :
    rd (R.ELNK.RX_OK_COUNT 0 p) (rxTaken p frame ptp a s) = Nat.min (rd (R.ELNK.RX_OK_COUNT 0 p) s + 1) 4294967295 := by
  have hblock : BlockWord (R.ELNK.RX_OK_COUNT 0 p).addr := elnk_block (o := 0x1C0) hp (by decide)
  obtain ⟨x, v, hx, e⟩ : ∃ x v, Touches 0x20 s x ∧
      rxTaken p frame ptp a s = evt 0 0x31 0 (bump (R.ELNK.RX_OK_COUNT 0 p) (wr (R.ELNK.RX_CFG_NEXT 0 p) v x)) :=
    ⟨_, _, hostPut_touches rfl (hostWrite_touches rfl (hostWrite_touches rfl (hostWrite_touches rfl (.refl _ s)))), rfl⟩
  have hcount : rd (R.ELNK.RX_OK_COUNT 0 p) (wr (R.ELNK.RX_CFG_NEXT 0 p) v x) = rd (R.ELNK.RX_OK_COUNT 0 p) s :=
    (rd_wr_of_apart (apart_page (.inl (by omega))) _ _).trans (hx.rd_eq rfl _)
  rw [e, ← hcount]
  exact (rd_evt_block (p := 0x31) hblock (by decide)).trans (rd_bump_same _ (show 0 + 32 ≤ 32 by decide))

/-- Settles O39: the ports take, drop, send and launch frames, and hold over without a Sync. -/
theorem ethernetCommandsAct : Obligations.EthernetCommandsAct := by
  unfold Obligations.EthernetCommandsAct
  refine ⟨fun p frame sound s hup hbad => rxBad_counts hup hbad, ?_, ?_, ?_, ?_,
    fun p q b s hup hrun hq hhead hlaunch hdue hhigh hsound hlate => ethLaunch_starts hup hrun hq hhead hlaunch hdue hhigh hsound hlate,
    fun p q r s hp hq hrun hrq hdue => ethFrameSent_counts hp hq hrun hrq hdue, ?_⟩
  · intro p frame s hup hlo hhi hsync hfor
    refine ⟨_, exec_ethFrameReceive_sound hup hlo hhi hsync hfor, fun hdesc => ?_, fun hdesc => ?_⟩
    · obtain ⟨a, ha⟩ := Option.ne_none_iff_exists'.mp hdesc
      rw [ha]
      exact ⟨rxTaken_counts _ _ _ _ (ethUp_lt hup), testBit_evt 0 0x31 0 _ (by decide) (notPba_addr (by decide) (by decide))⟩
    · rw [hdesc]
      refine (rd_bump_same _ (show 16 + 16 ≤ 32 by decide)).trans ?_
      rw [rd_setEth]
      rfl
  · intro a p v s hp h
    refine ⟨_, (exec_rxKick hp h).trans (congrArg _ (if_pos (testBit_or_of_set (by decide)))), ?_⟩
    unfold rxKick
    rw [ethOf_setEth]
    exact not_mem_kicked _ _
  · intro a p v s hp h hrun
    exact ⟨_, exec_txKick hp h, txKick_busy (s := landWrite a.rq 0 s) hrun⟩
  · intro a p v s hp h hup hrun hsize hothers hown hsound hlaunch
    exact ⟨_, exec_txKick hp h, txKick_starts (s := landWrite a.rq 0 s) hup hrun (Nat.mod_lt _ (by decide)) hsize hothers hown hsound hlaunch⟩
  · intro s hup htime hhold
    refine ⟨_, Eq.trans (b := execSyncTimeout s) rfl (if_pos ⟨hup, htime, by rw [hhold]; rfl⟩), ?_,
      testBit_evt 0 0x31 2 _ (by decide) (notPba_addr (by decide) (by decide))⟩
    have hblock : BlockWord (R.ELNK.HOLD_STAT_HOLDOVER 0).addr := blockWord_addr (by decide) (by decide) (by decide)
    exact (congrArg (· != 0) (rd_evt_block (p := 0x31) hblock (by decide))).trans (flag_wr_one _ (show 0 + 1 ≤ 32 by decide) rfl)

end Sys2Proof.Machine
end

section
/-! PROOFS. Process I/O (R424 to R429). -/

namespace Sys2Proof.Machine

/-! ### Folds and bits -/

/-- A fold whose step at `a` alone bears on what is asked: what holds before it stands until then, and what it gives stands after. -/
theorem foldl_at {α β : Type} {P Q : β → Prop} {f : β → α → β} {l : List α} {a : α} (ha : a ∈ l) (hl : l.Nodup)
    (hbefore : ∀ b, b ≠ a → ∀ t, P t → P (f t b)) (hset : ∀ t, P t → Q (f t a)) (hafter : ∀ b, b ≠ a → ∀ t, Q t → Q (f t b))
    {s : β} (hs : P s) : Q (l.foldl f s) := by
  have hrest : ∀ (l : List α), a ∉ l → ∀ t, Q t → Q (l.foldl f t) := fun l => by
    induction l with
    | nil => exact fun _ _ h => h
    | cons b l ih =>
      exact fun hn t h => ih (fun hm => hn (List.mem_cons_of_mem _ hm)) _ (hafter b (fun e => hn (e ▸ List.mem_cons_self ..)) t h)
  induction l generalizing s with
  | nil => exact absurd ha List.not_mem_nil
  | cons b l ih =>
    obtain ⟨hb, hl⟩ := List.nodup_cons.mp hl
    rw [List.foldl_cons]
    by_cases e : b = a
    · subst e
      exact hrest l hb _ (hset s hs)
    · exact ih ((List.mem_cons.mp ha).resolve_left fun h => e h.symm) hl (hbefore b e s hs)

theorem testBit_eq_testBit (v i : Nat) : testBit v i = v.testBit i := by
  rw [Nat.testBit_eq_decide_div_mod_eq]
  exact (Bool.beq_eq_decide_eq ..)

/-! ### Conversions (R424) -/

theorem Touches.adcOf_eq {m : Nat} {z s : State} (h : Touches m z s) (hm : m.testBit 59 = false) (d a : Nat) : adcOf d a s = adcOf d a z :=
  adcOf_congr d a (h.adcs hm)

theorem adcOf_put_same (d a : Nat) (l : List Nat) (s : State) :
    adcOf d a { s with adcs := mapSet (fun _ => []) s.adcs (16 * d + a) l } = l := by
  have h : mapGet (fun _ => []) (mapSet (fun _ => []) s.adcs (16 * d + a) l) (16 * d + a) = l := mapGet_set_same ..
  exact h

theorem adcOf_put_ne {a b : Nat} (d : Nat) (l : List Nat) {s : State} (h : a ≠ b) :
    adcOf d a { s with adcs := mapSet (fun _ => []) s.adcs (16 * d + b) l } = adcOf d a s := by
  have h : mapGet (fun _ => []) (mapSet (fun _ => []) s.adcs (16 * d + b) l) (16 * d + a) = mapGet (fun _ => []) s.adcs (16 * d + a) :=
    mapGet_set_other _ _ _ (by omega)
  exact h

/-- The codes of an input after one more conversion. -/
def adcTaken (d a c : Nat) (s : State) : List Nat := (c % 4096 :: adcOf d a s).take 16

/-- The mean that an input's VAL shows (log 45). -/
def adcMean (l : List Nat) : Nat := l.foldl (· + ·) 0 / Nat.max 1 l.length

theorem adcConvert_on {d a c : Nat} {s : State} (hen : flag (R.PIO.ADC_EN d a) s = true) :
    adcOf d a (adcConvert d a c s) = adcTaken d a c s ∧
      rd (R.PIO.ADC_VAL d a) (adcConvert d a c s) = adcMean ((adcTaken d a c s).take (2 ^ rd (R.PIO.ADC_AVG d a) s)) % 4096 := by
  have e : adcConvert d a c s = wr (R.PIO.ADC_VAL d a) (adcMean ((adcTaken d a c s).take (2 ^ rd (R.PIO.ADC_AVG d a) s)))
      { s with adcs := mapSet (fun _ => []) s.adcs (16 * d + a) (adcTaken d a c s) } := if_neg (by rw [hen]; decide)
  rw [e]
  refine ⟨(Touches.adcOf_eq (m := 4) (wr_touches rfl (.refl _ _)) rfl d a).trans ?_, rd_wr_same _ _ (show 0 + 12 ≤ 32 by decide)⟩
  exact adcOf_put_same ..

/-- The conversion of another input leaves this one's codes and register. -/
theorem adcConvert_ne {d a b c : Nat} {s : State} (h : b ≠ a) (i w : Nat) :
    adcOf d a (adcConvert d b c s) = adcOf d a s ∧
      rd ⟨Layout.addr d 0x71 (0x80 + 4 * a), i, w⟩ (adcConvert d b c s) = rd ⟨Layout.addr d 0x71 (0x80 + 4 * a), i, w⟩ s := by
  unfold adcConvert
  split
  · exact ⟨rfl, rfl⟩
  · refine ⟨(Touches.adcOf_eq (m := 4) (wr_touches rfl (.refl _ _)) rfl d a).trans ?_, rd_wr_of_apart (apart_page (.inl (by omega))) _ _⟩
    exact adcOf_put_ne _ _ (by omega)

/-- The conversion of each general input. -/
def adcConverted (d : Nat) (ain : List Nat) (s : State) : State :=
  (List.range 16).foldl (fun s a => match ain[a]? with | some c => adcConvert d a c s | none => s) s

theorem adcConverted_on {d a c : Nat} {ain : List Nat} {s : State} (ha : a < 16) (hc : ain[a]? = some c)
    (hen : flag (R.PIO.ADC_EN d a) s = true) :
    adcOf d a (adcConverted d ain s) = adcTaken d a c s ∧
      rd (R.PIO.ADC_VAL d a) (adcConverted d ain s) = adcMean ((adcTaken d a c s).take (2 ^ rd (R.PIO.ADC_AVG d a) s)) % 4096 := by
  refine foldl_at (P := fun t => adcOf d a t = adcOf d a s ∧ rd (R.PIO.ADC_EN d a) t = rd (R.PIO.ADC_EN d a) s ∧
      rd (R.PIO.ADC_AVG d a) t = rd (R.PIO.ADC_AVG d a) s)
    (Q := fun t => adcOf d a t = adcTaken d a c s ∧
      rd (R.PIO.ADC_VAL d a) t = adcMean ((adcTaken d a c s).take (2 ^ rd (R.PIO.ADC_AVG d a) s)) % 4096)
    (List.mem_range.mpr ha) List.nodup_range ?_ ?_ ?_ ⟨rfl, rfl, rfl⟩
  · intro b hb t ht
    split
    · exact ⟨(adcConvert_ne hb 0 0).1.trans ht.1, (adcConvert_ne hb _ _).2.trans ht.2.1, (adcConvert_ne hb _ _).2.trans ht.2.2⟩
    · exact ht
  · intro t ⟨hl, hent, havg⟩
    have hen' : flag (R.PIO.ADC_EN d a) t = true := (congrArg (· != 0) hent).trans hen
    have htaken : adcTaken d a c t = adcTaken d a c s := by unfold adcTaken; rw [hl]
    have h := adcConvert_on (c := c) hen'
    rw [htaken, havg] at h
    simpa only [hc] using h
  · intro b hb t ht
    split
    · exact ⟨(adcConvert_ne hb 0 0).1.trans ht.1, (adcConvert_ne hb _ _).2.trans ht.2⟩
    · exact ht

theorem exec_adcConversion_takes {d a c : Nat} {ain hvm : List Nat} {s : State} (hup : blockUp d 0x71 s = true) (ha : a < 16)
    (hc : ain[a]? = some c) (hen : flag (R.PIO.ADC_EN d a) s = true) :
    ∃ t, exec (.adcConversion d ain hvm) s = .next t ∧ adcOf d a t = adcTaken d a c s ∧
      (hvm = [] → rd (R.PIO.ADC_VAL d a) t = adcMean ((adcTaken d a c s).take (2 ^ rd (R.PIO.ADC_AVG d a) s)) % 4096) := by
  obtain ⟨hcodes, hval⟩ := adcConverted_on ha hc hen
  refine ⟨_, Eq.trans (b := execAdcConversion d ain hvm s) rfl (if_neg (by rw [show pioOn d s = true from hup]; decide)), ?_, fun h => ?_⟩
  · refine Eq.trans (foldl_unchanged (f := adcOf d a) fun n _ t => ?_) hcodes
    split
    · exact Touches.adcOf_eq (m := 0xd50380000004b004) (hvConvert_touches rfl (.refl _ t)) rfl d a
    · rfl
  · subst h
    exact hval

/-! ### Zero crossings and heaters (R425, R426) -/

theorem Touches.zeroOf_eq {m : Nat} {z s : State} (h : Touches m z s) (hm : m.testBit 61 = false) (d : Nat) : zeroOf d s = zeroOf d z :=
  zeroOf_congr d (h.zeros hm)

theorem Touches.heaterOf_eq {m : Nat} {z s : State} (h : Touches m z s) (hm : m.testBit 60 = false) (d n : Nat) :
    heaterOf d n s = heaterOf d n z := heaterOf_congr d n (h.heaters hm)

theorem zcStat_block (d : Nat) : BlockWord (R.PIO.ZC_STAT_OK d).addr := blockWord_addr (by decide) (by decide) (by decide)

/-- OK falls with its event, and every heater output goes low (R425). -/
theorem zeroLost_loses {d : Nat} {s : State} (hok : flag (R.PIO.ZC_STAT_OK d) s = true) :
    flag (R.PIO.ZC_STAT_OK d) (zeroLost d s) = false ∧ testBit (word (R.HDR.EVT_STAT_EVT d 0x71).addr (zeroLost d s)).toNat 0 = true ∧
      ∀ h < 4, (heaterOf d h (zeroLost d s)).high = none := by
  let lower (s : State) (h : Nat) : State := setHeater d h { heaterOf d h s with high := none } s
  have e : zeroLost d s = evt d 0x71 0 (recordFault d 0x71 0 false ((List.range 4).foldl lower (wr (R.PIO.ZC_STAT_OK d) 0 s))) :=
    if_neg (by rw [hok]; decide)
  have hrec (x : State) : Touches 0x1800000041004 x (evt d 0x71 0 (recordFault d 0x71 0 false x)) :=
    evt_touches rfl (recordFault_touches rfl (.refl _ x))
  have hlow (x : State) : Touches 0x1000000000000000 x ((List.range 4).foldl lower x) :=
    foldl_touches (fun _ _ h => setHeater_touches rfl h) (.refl _ x)
  rw [e]
  refine ⟨?_, testBit_evt d 0x71 0 _ (by decide) (notPba_addr (by decide) (by decide)), fun h hh => ?_⟩
  · have hregs (x : State) : rd (R.PIO.ZC_STAT_OK d) (evt d 0x71 0 (recordFault d 0x71 0 false x)) = rd (R.PIO.ZC_STAT_OK d) x :=
      (rd_evt_block (p := 0x71) (zcStat_block d) (by decide)).trans (rd_recordFault_block (p := 0x71) (zcStat_block d) (by decide))
    exact (congrArg (· != 0) ((hregs _).trans ((hlow _).rd_eq rfl _))).trans (flag_wr_zero _ (show 16 + 1 ≤ 32 by decide))
  · rw [(hrec _).heaterOf_eq rfl]
    refine foldl_establishes (P := fun t => (heaterOf d h t).high = none) (List.mem_range.mpr hh) (fun t => ?_) (fun b t ht => ?_) _
    · exact congrArg Heater.high (heaterOf_setHeater ..)
    · by_cases hb : b = h
      · subst hb
        exact congrArg Heater.high (heaterOf_setHeater ..)
      · exact (congrArg Heater.high (heaterOf_setHeater_ne _ _ (by omega))).trans ht

/-- The intervals after a crossing now. -/
def zeroNext (z : ZeroCross) (now : Nat) : ZeroCross :=
  { last := some now, intervals := match z.last with
    | some t => ((now - t) :: z.intervals).take 8
    | none => [] }

/-- OK follows the half-period (R425). -/
def zeroJudged (d : Nat) (good : Bool) (s : State) : State :=
  if !good then zeroLost d s
  else if flag (R.PIO.ZC_STAT_OK d) s then s
  else evt d 0x71 1 (wr (R.PIO.ZC_STAT_OK d) 1 s)

theorem flag_zeroJudged (d : Nat) (good : Bool) (s : State) : flag (R.PIO.ZC_STAT_OK d) (zeroJudged d good s) = good := by
  unfold zeroJudged
  cases good with
  | false =>
    rw [if_pos (by decide)]
    cases hok : flag (R.PIO.ZC_STAT_OK d) s with
    | true => exact (zeroLost_loses hok).1
    | false =>
      have e : zeroLost d s = s := if_pos (by rw [hok]; rfl)
      rw [e, hok]
  | true =>
    rw [if_neg (by decide)]
    by_cases hok : flag (R.PIO.ZC_STAT_OK d) s = true
    · rw [if_pos hok, hok]
    · rw [if_neg hok]
      exact (congrArg (· != 0) (rd_evt_block (p := 0x71) (zcStat_block d) (by decide))).trans
        (flag_wr_one _ (show 16 + 1 ≤ 32 by decide) rfl)

theorem exec_zeroCross_takes {d : Nat} {z : ZeroCross} {s : State} (hup : blockUp d 0x71 s = true) (hz : z = zeroNext (zeroOf d s) s.now) :
    ∃ t, exec (.zeroCross d) s = .next t ∧ zeroOf d t = z ∧
      flag (R.PIO.ZC_STAT_OK d) t = (decide (7690000 ≤ halfPeriod z) && decide (halfPeriod z ≤ 11110000)) := by
  have he : exec (.zeroCross d) s = .next ((List.range 4).foldl (fun s h => heaterCross d (halfPeriod z) h s)
      (zeroJudged d (decide (7690000 ≤ halfPeriod z) && decide (halfPeriod z ≤ 11110000))
        (wr (R.PIO.ZC_STAT_HALF d) (halfPeriod z / 1000) (setZero d z s)))) := by
    subst hz
    exact Eq.trans (b := execZeroCross d s) rfl (if_neg (by rw [show pioOn d s = true from hup]; decide))
  have hcross (x : State) : Touches 0x1000000000000004 x ((List.range 4).foldl (fun s h => heaterCross d (halfPeriod z) h s) x) :=
    foldl_touches (fun _ _ h => heaterCross_touches rfl h) (.refl _ x)
  have hjudge (g : Bool) (x : State) : Touches 0x1001800000041004 x (zeroJudged d g x) :=
    touches_ite (zeroLost_touches rfl (.refl _ x)) (touches_ite (.refl _ x) (evt_touches rfl (wr_touches rfl (.refl _ x))))
  have hduty (x : State) : flag (R.PIO.ZC_STAT_OK d) ((List.range 4).foldl (fun s h => heaterCross d (halfPeriod z) h s) x) =
      flag (R.PIO.ZC_STAT_OK d) x := by
    refine foldl_unchanged (f := flag (R.PIO.ZC_STAT_OK d)) fun h hh t => ?_
    have hh4 := List.mem_range.mp hh
    exact (congrArg (· != 0) (rd_setHeater ..)).trans (flag_wr_of_apart (apart_page (.inl (by omega))) _ _)
  refine ⟨_, he, ?_, ?_⟩
  · rw [(hcross _).zeroOf_eq rfl, (hjudge _ _).zeroOf_eq rfl]
    exact (Touches.zeroOf_eq (m := 4) (wr_touches rfl (.refl _ _)) rfl d).trans (zeroOf_setZero ..)
  · rw [hduty, flag_zeroJudged]

/-! ### Pins (R428, R429) -/

theorem exec_gpioEdge_takes {d g : Nat} {level : Bool} {s : State} (hup : blockUp d 0x78 s = true) (hg : g < 32)
    (hnew : testBit (gpioOf d s).seen g ≠ level) :
    ∃ t, exec (.gpioEdge d g level) s = .next t ∧ testBit (gpioOf d t).seen g = level ∧
      ((if level then flag (R.GPIO.PIN_CFG_EV_RISE d g) s else flag (R.GPIO.PIN_CFG_EV_FALL d g) s) = true →
        testBit (word (R.HDR.EVT_STAT_EVT d 0x78).addr t).toNat g = true) := by
  refine ⟨_, Eq.trans (b := execGpioEdge d g level s) rfl ((if_neg (by rw [hup]; simp; omega)).trans (if_neg hnew)), ?_, fun hon => ?_⟩
  · have hevt (c : Bool) (x : State) : Touches 0x1004 x (onlyIf c (evt d 0x78 g) x) :=
      onlyIf_touches (fun _ h => evt_touches rfl h) (.refl _ x)
    rw [gpioOf_congr d ((hevt _ _).gpios rfl), gpioOf_setGpio, testBit_withBits, if_pos rfl]
  · unfold onlyIf
    rw [if_pos hon]
    exact testBit_evt d 0x78 g _ hg (notPba_addr (by decide) (by decide))

/-- The mask of the pins of FUNC 1 below pin `n`. -/
def hostPinsBelow (d n : Nat) (s : State) : Nat :=
  (List.range n).foldl (fun v g => if rd (R.GPIO.PIN_CFG_FUNC d g) s = 1 then v + 2 ^ g else v) 0

theorem hostPinsBelow_bits (d n : Nat) (s : State) : hostPinsBelow d n s < 2 ^ n ∧
    ∀ g, (hostPinsBelow d n s).testBit g = (decide (g < n) && decide (rd (R.GPIO.PIN_CFG_FUNC d g) s = 1)) := by
  induction n with
  | zero => exact ⟨Nat.one_pos, fun g => by simp [hostPinsBelow]⟩
  | succ n ih =>
    obtain ⟨hlt, hbits⟩ := ih
    have e : hostPinsBelow d (n + 1) s =
        if rd (R.GPIO.PIN_CFG_FUNC d n) s = 1 then hostPinsBelow d n s + 2 ^ n else hostPinsBelow d n s := by
      unfold hostPinsBelow
      rw [List.range_succ, List.foldl_append]
      rfl
    rw [e]
    by_cases hf : rd (R.GPIO.PIN_CFG_FUNC d n) s = 1
    · rw [if_pos hf, Nat.add_comm]
      refine ⟨by rw [Nat.pow_succ]; omega, fun g => ?_⟩
      have hor := Nat.two_pow_add_eq_or_of_lt hlt 1
      rw [Nat.mul_one] at hor
      rw [hor, Nat.testBit_or, Nat.testBit_two_pow, hbits]
      by_cases hg : n = g
      · subst hg; simp [hf]
      · have : g < n + 1 ↔ g < n := by omega
        simp [hg, this]
    · rw [if_neg hf]
      refine ⟨by rw [Nat.pow_succ]; omega, fun g => ?_⟩
      rw [hbits]
      by_cases hg : n = g
      · subst hg; simp [hf]
      · have : g < n + 1 ↔ g < n := by omega
        simp [this]

/-- A write of GPIO_OUT reaches the pins of FUNC 1 alone (R428). -/
theorem testBit_gpioWrite {d v g : Nat} {s : State} (hg : g < 32) :
    testBit (rd (R.GPIO.GPIO_OUT_LEVEL d) (gpioWrite d v s)) g =
      if rd (R.GPIO.PIN_CFG_FUNC d g) s = 1 then testBit v g else testBit (rd (R.GPIO.GPIO_OUT_LEVEL d) s) g := by
  obtain ⟨hlt, hbits⟩ := hostPinsBelow_bits d 32 s
  have hm : hostPins d s = hostPinsBelow d 32 s := rfl
  unfold gpioWrite
  dsimp only
  rw [rd_wr_same _ _ (show 0 + 32 ≤ 32 by decide), hm, show (R.GPIO.GPIO_OUT_LEVEL d).width = 32 from rfl]
  generalize hostPinsBelow d 32 s = m at hlt hbits
  have e : 0xFFFFFFFF - m = 2 ^ 32 - (m + 1) := by omega
  simp only [testBit_eq_testBit]
  rw [Nat.testBit_mod_two_pow, e, Nat.testBit_or, Nat.testBit_and, Nat.testBit_and, Nat.testBit_two_pow_sub_succ hlt, hbits]
  by_cases hf : rd (R.GPIO.PIN_CFG_FUNC d g) s = 1 <;> simp [hf, hg]

theorem gpioSet_sets {d g : Nat} {v : Word} {s : State} (hg : g < 32) :
    testBit (rd (R.GPIO.GPIO_OUT_LEVEL d) (gpioSet d v.toNat s)) g =
      if rd (R.GPIO.PIN_CFG_FUNC d g) s = 1 then testBit (rd (R.GPIO.GPIO_OUT_LEVEL d) s) g || testBit v.toNat g
      else testBit (rd (R.GPIO.GPIO_OUT_LEVEL d) s) g := by
  unfold gpioSet
  rw [testBit_gpioWrite hg]
  simp only [testBit_eq_testBit, Nat.testBit_or]

theorem gpioClr_clears {d g : Nat} {v : Word} {s : State} (hg : g < 32) :
    testBit (rd (R.GPIO.GPIO_OUT_LEVEL d) (gpioClr d v.toNat s)) g =
      if rd (R.GPIO.PIN_CFG_FUNC d g) s = 1 then testBit (rd (R.GPIO.GPIO_OUT_LEVEL d) s) g && !testBit v.toNat g
      else testBit (rd (R.GPIO.GPIO_OUT_LEVEL d) s) g := by
  have hv : v.toNat < 2 ^ 32 := v.isLt
  have e : 0xFFFFFFFF - v.toNat % 4294967296 = 2 ^ 32 - (v.toNat + 1) := by omega
  unfold gpioClr
  rw [testBit_gpioWrite hg, e]
  simp only [testBit_eq_testBit, Nat.testBit_and, Nat.testBit_two_pow_sub_succ hv, decide_eq_true hg, Bool.true_and]

/-- A splice that counts takes the position of its raw edge (R429). -/
theorem exec_spliceDetect_counts {d p : Nat} {s : State} (hup : blockUp d 0x78 s = true) (hen : flag (R.GPIO.SPLICE_CFG_EN d) s = true)
    (hp : p = (counterOf d (rd (R.GPIO.SPLICE_CFG_COUNTER d) s) s).posAt
      (counterC d s - 1000 * rd (R.GPIO.PIN_CFG_FILT d (rd (R.GPIO.SPLICE_CFG_PIN d) s)) s)) :
    ∃ t, exec (.spliceDetect d) s = .next t ∧
      rd (R.GPIO.SPLICE_CNT_COUNT d) t = Nat.min (rd (R.GPIO.SPLICE_CNT_COUNT d) s + 1) 65535 ∧
      rd (R.GPIO.SPLICE_POS_LO_P d) t = p % 4294967296 := by
  obtain ⟨x, he⟩ : ∃ x, exec (.spliceDetect d) s = .next (bump (R.GPIO.SPLICE_CNT_COUNT d) (wr (R.GPIO.SPLICE_T_STIME d) x
      (wr (R.GPIO.SPLICE_POS_HI_P d) (p / 4294967296) (wr (R.GPIO.SPLICE_POS_LO_P d) p s)))) := by
    subst hp
    exact ⟨_, Eq.trans (b := execSpliceDetect d s) rfl (if_neg (by rw [hup, hen]; decide))⟩
  refine ⟨_, he, ?_, ?_⟩
  · have hcount : rd (R.GPIO.SPLICE_CNT_COUNT d) (wr (R.GPIO.SPLICE_T_STIME d) x
        (wr (R.GPIO.SPLICE_POS_HI_P d) (p / 4294967296) (wr (R.GPIO.SPLICE_POS_LO_P d) p s))) = rd (R.GPIO.SPLICE_CNT_COUNT d) s :=
      (rd_wr_of_apart (apart_page (.inl (by decide))) _ _).trans ((rd_wr_of_apart (apart_page (.inl (by decide))) _ _).trans
        (rd_wr_of_apart (apart_page (.inl (by decide))) _ _))
    rw [← hcount]
    exact rd_bump_same _ (show 0 + 16 ≤ 32 by decide)
  · exact (rd_wr_of_apart (apart_page (.inl (by decide))) _ _).trans ((rd_wr_of_apart (apart_page (.inl (by decide))) _ _).trans
      ((rd_wr_of_apart (apart_page (.inl (by decide))) _ _).trans (rd_wr_same _ _ (show 0 + 32 ≤ 32 by decide))))

/-- Settles O38: conversions, zero crossings, pins and splices act as R424 to R429 give them. -/
theorem processIoCommandsAct : Obligations.ProcessIoCommandsAct := by
  unfold Obligations.ProcessIoCommandsAct
  refine ⟨fun d a c ain hvm s hup ha hc hen => exec_adcConversion_takes hup ha hc hen, fun d s hup => ?_, fun d t0 s hup hlast hlate hok => ?_,
    fun d g level s hup hg hnew => exec_gpioEdge_takes hup hg hnew, fun a d v s h => ?_, fun a d v s h => ?_,
    fun d s hup hen => exec_spliceDetect_counts hup hen rfl⟩
  · obtain ⟨t, he, hz, hflag⟩ := exec_zeroCross_takes hup rfl
    rw [← hz] at hflag
    refine ⟨t, he, by rw [hz]; rfl, fun t0 h0 => ?_, hflag⟩
    rw [hz]
    unfold zeroNext
    rw [h0]
  · refine ⟨_, Eq.trans (b := execZeroCrossLost d s) rfl ?_, zeroLost_loses hok⟩
    unfold execZeroCrossLost
    dsimp only
    rw [hlast]
    exact if_pos ⟨hup, hlate⟩
  · exact ⟨_, exec_gpioSet h, fun g hg => gpioSet_sets (s := landWrite a.rq d s) hg⟩
  · exact ⟨_, exec_gpioClr h, fun g hg => gpioClr_clears (s := landWrite a.rq d s) hg⟩

end Sys2Proof.Machine
end

section
/-! PROOFS. The commands of the control loops (R417 to R420). -/

namespace Sys2Proof.Machine

theorem Touches.loopOf_eq {m : Nat} {z s : State} (h : Touches m z s) (hm : m.testBit 56 = false) (d i : Nat) : loopOf d i s = loopOf d i z :=
  loopOf_congr d i (h.loops hm)

/-! ### The command word -/

/-- A context's index and the bit of one command. -/
theorem loopWord {v c : Word} (hv : v.toNat < 160) (hc : c.toNat % 256 = 0) :
    (v ||| c).toNat % 256 = v.toNat ∧ ∀ k, 8 ≤ k → testBit (v ||| c).toNat k = testBit c.toNat k := by
  have hor : (v ||| c).toNat = v.toNat ||| c.toNat := BitVec.toNat_or ..
  refine ⟨?_, fun k hk => testBit_or_of_false ?_⟩
  · rw [hor, show (256 : Nat) = 2 ^ 8 from rfl, Nat.or_mod_two_pow, show c.toNat % 2 ^ 8 = 0 from hc, Nat.or_zero]
    exact Nat.mod_eq_of_lt (by omega)
  · rw [testBit_eq_testBit]
    exact Nat.testBit_lt_two_pow (Nat.lt_of_lt_of_le (by omega : v.toNat < 2 ^ 8) (Nat.pow_le_pow_right (by decide) hk))

/-- What a word of LOOP_CTL with one command bit does (R420). -/
theorem loopCtl_one {d : Nat} {v c : Word} (s : State) (hv : v.toNat < 160) (hc : c.toNat % 256 = 0) {u e x m a : Bool}
    (hu : testBit c.toNat 20 = u) (he : testBit c.toNat 16 = e) (hx : testBit c.toNat 17 = x) (hm : testBit c.toNat 19 = m)
    (ha : testBit c.toNat 18 = a) :
    loopCtl d (v ||| c).toNat s =
      onlyIf a (loopAuto d v.toNat) (onlyIf m (loopManual d v.toNat) (onlyIf x (loopDisable d v.toNat)
        (onlyIf e (loopEnable d v.toNat) (onlyIf u (loopUnfence d v.toNat) s)))) := by
  obtain ⟨hi, hbit⟩ := loopWord hv hc
  unfold loopCtl
  rw [hi, hbit 20 (by decide), hbit 16 (by decide), hbit 17 (by decide), hbit 19 (by decide), hbit 18 (by decide), hu, he, hx, hm, ha]
  exact if_neg (by omega)

theorem loopCtl_enable {d : Nat} {v : Word} (s : State) (hv : v.toNat < 160) :
    loopCtl d (v ||| 0x10000).toNat s = loopEnable d v.toNat s :=
  (loopCtl_one (c := 0x10000) (u := false) (e := true) (x := false) (m := false) (a := false) s hv rfl rfl rfl rfl rfl rfl).trans (by rw [onlyIf_false, onlyIf_false, onlyIf_false, onlyIf_true, onlyIf_false])

theorem loopCtl_disable {d : Nat} {v : Word} (s : State) (hv : v.toNat < 160) :
    loopCtl d (v ||| 0x20000).toNat s = loopDisable d v.toNat s :=
  (loopCtl_one (c := 0x20000) (u := false) (e := false) (x := true) (m := false) (a := false) s hv rfl rfl rfl rfl rfl rfl).trans (by rw [onlyIf_false, onlyIf_false, onlyIf_true, onlyIf_false, onlyIf_false])

theorem loopCtl_auto {d : Nat} {v : Word} (s : State) (hv : v.toNat < 160) :
    loopCtl d (v ||| 0x40000).toNat s = loopAuto d v.toNat s :=
  (loopCtl_one (c := 0x40000) (u := false) (e := false) (x := false) (m := false) (a := true) s hv rfl rfl rfl rfl rfl rfl).trans (by rw [onlyIf_true, onlyIf_false, onlyIf_false, onlyIf_false, onlyIf_false])

theorem loopCtl_manual {d : Nat} {v : Word} (s : State) (hv : v.toNat < 160) :
    loopCtl d (v ||| 0x80000).toNat s = loopManual d v.toNat s :=
  (loopCtl_one (c := 0x80000) (u := false) (e := false) (x := false) (m := true) (a := false) s hv rfl rfl rfl rfl rfl rfl).trans (by rw [onlyIf_false, onlyIf_true, onlyIf_false, onlyIf_false, onlyIf_false])

theorem loopCtl_unfence {d : Nat} {v : Word} (s : State) (hv : v.toNat < 160) :
    loopCtl d (v ||| 0x100000).toNat s = loopUnfence d v.toNat s :=
  (loopCtl_one (c := 0x100000) (u := true) (e := false) (x := false) (m := false) (a := false) s hv rfl rfl rfl rfl rfl rfl).trans (by rw [onlyIf_false, onlyIf_false, onlyIf_false, onlyIf_false, onlyIf_true])

/-! ### The mode of a context -/

theorem setMode_sets (d i : Nat) (c : LoopCtx) (s : State) : loopOf d i (setMode d i c s) = c := by
  have hregs (x : State) (l1 l2 l3 : Loc) (j : Nat) (b1 b2 b3 : Bool) :
      Touches 0x4 x (showLoad d (setBitOf l3 j b3 (setBitOf l2 j b2 (setBitOf l1 j b1 x)))) :=
    showLoad_touches rfl (setBitOf_touches rfl (setBitOf_touches rfl (setBitOf_touches rfl (.refl _ x))))
  exact ((hregs ..).loopOf_eq rfl d i).trans (loopOf_setLoop ..)

theorem rd_showLoad {d o i w : Nat} (s : State) (h : o ≠ 0x48) :
    rd ⟨Layout.addr d 0x70 o, i, w⟩ (showLoad d s) = rd ⟨Layout.addr d 0x70 o, i, w⟩ s :=
  (rd_wr_of_apart (apart_page (.inl h)) _ _).trans (rd_wr_of_apart (apart_page (.inl h)) _ _)

theorem testBit_setBitOf {a i : Nat} (b : Bool) (s : State) (hi : i < 32) : testBit (rd ⟨a, 0, 32⟩ (setBitOf ⟨a, 0, 32⟩ i b s)) i = b := by
  unfold setBitOf
  rw [rd_wr_same _ _ (show 0 + 32 ≤ 32 by decide), show (⟨a, 0, 32⟩ : Loc).width = 32 from rfl, testBit_mod_two_pow hi, testBit_withBits, if_pos rfl]

/-- LOOP_AUTO shows the AUTO modes (R418). -/
theorem testBit_setMode_auto (d i : Nat) (c : LoopCtx) (s : State) :
    testBit (rd (R.LOOP.LOOP_AUTO d (i / 32)) (setMode d i c s)) (i % 32) = decide (2 ≤ c.mode) := by
  unfold setMode
  dsimp only
  refine (congrArg (testBit · (i % 32)) ((rd_showLoad _ (by omega)).trans (rd_wr_of_apart (apart_page (.inl (by omega))) _ _))).trans ?_
  exact testBit_setBitOf _ _ (Nat.mod_lt _ (by decide))

theorem testBit_setMode_fenced (d i : Nat) (c : LoopCtx) (s : State) :
    testBit (rd (R.LOOP.LOOP_FENCED d (i / 32)) (setMode d i c s)) (i % 32) = s.fenced.contains (.loop d i) := by
  have hf (x : State) (l1 l2 : Loc) (j : Nat) (b1 b2 : Bool) : Touches 0x4 x (setBitOf l2 j b2 (setBitOf l1 j b1 x)) :=
    setBitOf_touches rfl (setBitOf_touches rfl (.refl _ x))
  unfold setMode
  dsimp only
  rw [(hf ..).fenced rfl]
  refine (congrArg (testBit · (i % 32)) (rd_showLoad _ (by omega))).trans ?_
  exact testBit_setBitOf _ _ (Nat.mod_lt _ (by decide))

/-! ### The commands -/

theorem loopReason_landWrite (d i e : Nat) (rq : Requester) (s : State) : loopReason d i (landWrite rq e s) = loopReason d i s := rfl

theorem loopEnable_enables {d i : Nat} {s : State} (h : loopReason d i s = 0) :
    (loopOf d i (loopEnable d i s)).mode = 1 ∧ (loopOf d i (loopEnable d i s)).ran = false := by
  have hout (x : State) (e : List Byte) (u : Int) : Touches 0x9402000000000004 x (putEntry d i 112 2 0 (giveOut d i e u x)) :=
    putEntry_touches rfl (giveOut_touches rfl (.refl _ x))
  unfold loopEnable
  dsimp only
  rw [if_neg (not_not.mpr h), (hout ..).loopOf_eq rfl, setMode_sets]
  exact ⟨rfl, rfl⟩

theorem loopEnable_refuses {d i : Nat} {s : State} (h : loopReason d i s ≠ 0) :
    loopOf d i (loopEnable d i s) = loopOf d i s ∧ testBit (word (R.HDR.EVT_STAT_EVT d 0x70).addr (loopEnable d i s)).toNat 0 = true := by
  unfold loopEnable
  dsimp only
  rw [if_pos h]
  refine ⟨?_, testBit_evt d 0x70 0 _ (by decide) (notPba_addr (by decide) (by decide))⟩
  exact Touches.loopOf_eq (m := 0x1004) (evt_touches rfl (touches_ite (.refl _ s) (putWord_touches rfl (.refl _ s)))) rfl d i

theorem loopDisable_disables {d i : Nat} {s : State} (h : (loopOf d i s).mode ≠ 0) :
    loopOf d i (loopDisable d i s) = { loopOf d i s with mode := 0 } := by
  have hoff (x : State) : Touches 0x9402000000000004 x (loopOffTarget d i x) := loopOffTarget_touches rfl (.refl _ x)
  have hon : loopEnabled d i s = true := bne_iff_ne.mpr h
  unfold loopDisable
  rw [if_pos hon, (hoff _).loopOf_eq rfl, setMode_sets]

theorem loopAuto_switches {d i : Nat} {s : State} (h : (loopOf d i s).mode = 1) :
    loopOf d i (loopAuto d i s) = { loopOf d i s with mode := 2, fresh := true } ∧
      testBit (rd (R.LOOP.LOOP_AUTO d (i / 32)) (loopAuto d i s)) (i % 32) = true := by
  unfold loopAuto
  dsimp only
  rw [if_pos h, setMode_sets, testBit_setMode_auto]
  exact ⟨rfl, rfl⟩

theorem loopManual_switches {d i : Nat} {s : State} (h : (loopOf d i s).mode ≠ 0) :
    loopOf d i (loopManual d i s) = { loopOf d i s with mode := 1 } ∧
      testBit (rd (R.LOOP.LOOP_AUTO d (i / 32)) (loopManual d i s)) (i % 32) = false := by
  have hon : loopEnabled d i s = true := bne_iff_ne.mpr h
  unfold loopManual
  rw [if_pos hon, setMode_sets, testBit_setMode_auto]
  exact ⟨rfl, rfl⟩

theorem loopUnfence_unfences {d i : Nat} {s : State} (hf : faultsHold d 0x70 s = false) :
    UnitId.loop d i ∉ (loopUnfence d i s).fenced ∧
      testBit (rd (R.LOOP.LOOP_FENCED d (i / 32)) (loopUnfence d i s)) (i % 32) = false := by
  have hout : UnitId.loop d i ∉ (unfence d 0x70 (.loop d i) s).fenced := fun hc => ((unfence_faultless hf).2.mp hc).2 rfl
  have hmode (c : LoopCtx) (x : State) : Touches 0x100000000000004 x (setMode d i c x) := setMode_touches rfl (.refl _ x)
  unfold loopUnfence
  dsimp only
  rw [testBit_setMode_fenced, (hmode _ _).fenced rfl]
  exact ⟨hout, by simpa using hout⟩

/-! ### Coverage messages (R422) -/

/-- What the messages of a die change: the lists of the channels, its events and the count of late messages. -/
def CffKept (d : Nat) (s t : State) : Prop :=
  Touches 0x200000000001004 s t ∧ ∀ a, BlockWord a → a ≠ (R.LOOP.CFF_LATE_COUNT d).addr → word a t = word a s

theorem CffKept.late {d : Nat} {s t : State} (h : CffKept d s t) : CffKept d s (cffLate d t) :=
  ⟨cffLate_touches rfl h.1, fun a ha hne => (evt_block ha (by decide)).trans ((word_wr_ne _ _ hne).trans (h.2 a ha hne))⟩

theorem CffKept.set {d ch : Nat} {s t : State} (l : List CffEntry) (h : CffKept d s t) : CffKept d s (setCff d ch l t) :=
  ⟨setCff_touches rfl h.1, fun a ha hne => h.2 a ha hne⟩

theorem CffKept.take {d ch : Nat} {x : CffEntry} {s t : State} (h : CffKept d s t) : CffKept d s (cffTake d ch x t) := by
  unfold cffTake
  dsimp only
  split
  · exact h
  · split
    · exact h.late
    · split
      · exact (h.set _).late
      · exact h.set _

theorem CffKept.rd_loop {d o i w : Nat} {s t : State} (h : CffKept d s t) (ho : 0x40 ≤ o ∧ o < 0x1000 ∧ o ≠ 0x104) :
    rd ⟨Layout.addr d 0x70 o, i, w⟩ t = rd ⟨Layout.addr d 0x70 o, i, w⟩ s := by
  obtain ⟨hlo, hhi, hne⟩ := ho
  unfold rd
  rw [h.2 _ (blockWord_addr (by decide) hhi (.inr ⟨by decide, by decide, by decide, hlo⟩)) (addr_ne_offset hne)]

theorem CffKept.counter {d : Nat} {s t : State} (h : CffKept d s t) :
    cffCount d t = cffCount d s ∧ counterOf d (cffCount d t) t = counterOf d (cffCount d s) s := by
  have hk : cffCount d t = cffCount d s := h.rd_loop (by decide)
  exact ⟨hk, (congrArg (counterOf d · t) hk).trans (h.1.counterOf_eq rfl d _)⟩

theorem CffKept.passed {d ch : Nat} {x : CffEntry} {s t : State} (h : CffKept d s t) (hch : ch < 8) :
    passedFine (posNow d (cffCount d t) t) (cffFrom d ch x t) = passedFine (posNow d (cffCount d s) s) (cffFrom d ch x s) := by
  have hc : counterC d t = counterC d s := by
    refine counterC_congr (h.1.now rfl) ?_ (congrArg DieClock.c0 (h.1.clockOf_eq rfl d)) (congrArg DieClock.byp (h.1.clockOf_eq rfl d))
    exact congrArg (bitsOf ·.toNat _ _) (h.2 (R.CLK.PLL_STAT_STATE d 0).addr (blockWord_addr (by decide) (by decide) (.inr (by decide)))
      (addr_ne (by decide) (by decide) (by decide) (by decide) (.inr (.inl (by decide)))))
  have hp : posNow d (cffCount d t) t = posNow d (cffCount d s) s := by
    unfold posNow
    rw [h.counter.2, hc]
  have hf : cffFrom d ch x t = cffFrom d ch x s := by
    unfold cffFrom rdS
    rw [show rd (R.LOOP.CFF_DLY_COUNTS d ch) t = rd (R.LOOP.CFF_DLY_COUNTS d ch) s from h.rd_loop (by omega)]
  rw [hp, hf]

theorem cffOf_cffLate (d ch : Nat) (s : State) : cffOf d ch (cffLate d s) = cffOf d ch s :=
  cffOf_congr d ch (Touches.cffs (m := 0x1004) (cffLate_touches rfl (.refl _ s)) rfl)

theorem cffOf_cffTake_ne {d ch ch' : Nat} {x : CffEntry} {s : State} (h : ch ≠ ch') : cffOf d ch (cffTake d ch' x s) = cffOf d ch s := by
  have hset (l : List CffEntry) : cffOf d ch (setCff d ch' l s) = cffOf d ch s := cffOf_setCff_ne l s (by omega)
  unfold cffTake
  dsimp only
  split
  · rfl
  · split
    · exact cffOf_cffLate ..
    · split
      · exact (cffOf_cffLate ..).trans (hset _)
      · exact hset _

/-- A channel that serves the station, has room and has not passed the start takes the entry (R422). -/
theorem cffOf_cffTake {d ch : Nat} {x : CffEntry} {s : State} (hserves : testBit (rd (R.LOOP.CFF_CFG_STATIONS d ch) s) x.station = true)
    (hroom : ((cffOf d ch s).filter (fun y => y.station == x.station)).length < 4)
    (hahead : passedFine (posNow d (cffCount d s) s) (cffFrom d ch x s) = false) :
    cffOf d ch (cffTake d ch x s) = cffOf d ch s ++ [x] := by
  unfold cffTake
  dsimp only
  rw [if_neg (by rw [hserves]; exact Bool.false_ne_true), if_neg (by omega), if_neg (ne_true_of_eq_false hahead), cffOf_setCff]

/-- While the counter moves downward only the channels' outputs are shown anew (R423). -/
theorem cffOf_cffUpdate_down {d : Nat} {s : State} (h : (counterOf d (cffCount d s) s).up = false) (ch : Nat) :
    cffOf d ch (cffUpdate d s) = cffOf d ch s := by
  unfold cffUpdate
  dsimp only
  refine foldl_unchanged fun c _ t => ?_
  rw [if_neg (ne_true_of_eq_false h)]
  exact cffOf_congr d ch (Touches.cffs (m := 0x4) (wrS_touches rfl (.refl _ t)) rfl)

/-- A coverage message: its entry waits on every channel that takes it. -/
theorem cffMessage_waits {d k fsn xc lines level width cpc : Nat} {zones : List Nat} {s : State}
    (hfind : s.msgs.find? (isCff d) = some (.cff d k fsn xc lines level width cpc zones)) (hup : blockUp d 0x70 s = true)
    (hf : dieFenced d s = false) (hdown : (counterOf d (cffCount d s) s).up = false) :
    ∃ t, exec (.cffMessage d) s = .next t ∧ t.msgs = s.msgs.erase (.cff d k fsn xc lines level width cpc zones) ∧
      ∀ ch < 8, testBit (rd (R.LOOP.CFF_CFG_STATIONS d ch) s) k = true →
        ((cffOf d ch s).filter (fun y => y.station == k)).length < 4 →
        passedFine (posNow d (cffCount d s) s) (cffFrom d ch ⟨k, fsn, xc, lines, level, width, cpc, zones, false⟩ s) = false →
        cffOf d ch t = cffOf d ch s ++ [⟨k, fsn, xc, lines, level, width, cpc, zones, false⟩] := by
  generalize hx : (⟨k, fsn, xc, lines, level, width, cpc, zones, false⟩ : CffEntry) = x
  generalize hm : Msg.cff d k fsn xc lines level width cpc zones = m at hfind
  obtain ⟨s1, hs1⟩ : ∃ s1 : State, s1 = { s with msgs := s.msgs.erase m } := ⟨_, rfl⟩
  have hkept : CffKept d s1 ((List.range 8).foldl (fun s ch => cffTake d ch x s) s1) :=
    List.foldlRecOn _ _ ⟨.refl _ s1, fun _ _ _ => rfl⟩ (fun _ ht _ _ => ht.take)
  have hcnt : (counterOf d (cffCount d s1) s1).up = false := hs1 ▸ hdown
  refine ⟨cffUpdate d ((List.range 8).foldl (fun s ch => cffTake d ch x s) s1), ?_, ?_, fun ch hch hserves hroom hahead => ?_⟩
  · have hon : (blockUp d 0x70 s1 && !dieFenced d s1) = true := by
      rw [hs1, show blockUp d 0x70 { s with msgs := s.msgs.erase m } = blockUp d 0x70 s from rfl,
        show dieFenced d { s with msgs := s.msgs.erase m } = dieFenced d s from rfl, hup, hf]
      rfl
    refine Eq.trans (b := execCffMessage d s) rfl ?_
    unfold execCffMessage
    rw [takeMsg_some hfind, ← hs1, ← hm]
    dsimp only
    rw [if_pos hon, hx]
  · have htaken : s1.msgs = s.msgs.erase m := congrArg State.msgs hs1
    exact (Touches.msgs (m := 0x200000000001004) (cffUpdate_touches rfl hkept.1) rfl).trans htaken
  · have hwas : cffOf d ch s1 = cffOf d ch s := hs1 ▸ rfl
    rw [cffOf_cffUpdate_down (by rw [hkept.counter.2]; exact hcnt)]
    refine foldl_at (P := fun t => CffKept d s1 t ∧ cffOf d ch t = cffOf d ch s) (Q := fun t => cffOf d ch t = cffOf d ch s ++ [x])
      (List.mem_range.mpr hch) List.nodup_range (fun b hb t ht => ⟨ht.1.take, (cffOf_cffTake_ne hb.symm).trans ht.2⟩) (fun t ht => ?_)
      (fun b hb t ht => (cffOf_cffTake_ne hb.symm).trans ht) ⟨⟨.refl _ s1, fun _ _ _ => rfl⟩, hwas⟩
    obtain ⟨hk, hl⟩ := ht
    have hst : x.station = k := hx ▸ rfl
    rw [cffOf_cffTake, hl]
    · rw [show rd (R.LOOP.CFF_CFG_STATIONS d ch) t = rd (R.LOOP.CFF_CFG_STATIONS d ch) s1 from hk.rd_loop (by omega), hst, hs1]
      exact hserves
    · rw [hl, hst]
      exact hroom
    · rw [hk.passed hch, hs1]
      exact hahead

/-- A cancel empties the zones of the frame's entries on every channel (R422). -/
theorem cffCancel_empties {d fsn : Nat} {s : State} (hfind : s.msgs.find? (isCancel d) = some (.cffCancel d fsn)) (hf : dieFenced d s = false)
    (hdown : (counterOf d (cffCount d s) s).up = false) :
    ∃ t, exec (.cffCancel d) s = .next t ∧ t.msgs = s.msgs.erase (.cffCancel d fsn) ∧
      ∀ ch < 8, cffOf d ch t = (cffOf d ch s).map (fun x => if x.fsn = fsn then { x with zones := [] } else x) := by
  generalize hm : Msg.cffCancel d fsn = m at hfind
  obtain ⟨s1, hs1⟩ : ∃ s1 : State, s1 = { s with msgs := s.msgs.erase m } := ⟨_, rfl⟩
  generalize hg : (fun x : CffEntry => if x.fsn = fsn then { x with zones := [] } else x) = g
  have hkept : CffKept d s1 ((List.range 8).foldl (fun s ch => setCff d ch ((cffOf d ch s).map g) s) s1) :=
    List.foldlRecOn _ _ ⟨.refl _ s1, fun _ _ _ => rfl⟩ (fun _ ht _ _ => ht.set _)
  have hcnt : (counterOf d (cffCount d s1) s1).up = false := hs1 ▸ hdown
  refine ⟨cffUpdate d ((List.range 8).foldl (fun s ch => setCff d ch ((cffOf d ch s).map g) s) s1), ?_, ?_, fun ch hch => ?_⟩
  · have hon : dieFenced d s1 = false := hs1 ▸ hf
    refine Eq.trans (b := execCffCancel d s) rfl ?_
    unfold execCffCancel
    rw [takeMsg_some hfind, ← hs1, ← hm]
    dsimp only
    rw [if_neg (ne_true_of_eq_false hon), hg]
  · exact (Touches.msgs (m := 0x200000000001004) (cffUpdate_touches rfl hkept.1) rfl).trans (congrArg State.msgs hs1)
  · have hwas : cffOf d ch s1 = cffOf d ch s := hs1 ▸ rfl
    rw [cffOf_cffUpdate_down (by rw [hkept.counter.2]; exact hcnt)]
    refine foldl_at (P := fun t => cffOf d ch t = cffOf d ch s) (Q := fun t => cffOf d ch t = (cffOf d ch s).map g)
      (List.mem_range.mpr hch) List.nodup_range (fun b hb t ht => (cffOf_setCff_ne _ _ (by omega)).trans ht) (fun t ht => ?_)
      (fun b hb t ht => (cffOf_setCff_ne _ _ (by omega)).trans ht) hwas
    rw [cffOf_setCff, ht]

/-! ### The tick (R399, R418) -/

theorem word_putBytes_below {a : Nat} (l : List Byte) {b : Nat} (s : State) (h : a < b / 4 * 4) : word a (putBytes b l s) = word a s := by
  induction l generalizing b s with
  | nil => rfl
  | cons c l ih =>
    unfold putBytes
    exact (ih _ (by omega)).trans (word_putWord_ne _ _ (by omega))

/-- An entry lies above every block of its die. -/
theorem rd_putEntry {d p o i w j f n : Nat} {v : Int} {s : State} (hp : p < 256) (ho : o < 0x1000) :
    rd ⟨Layout.addr d p o, i, w⟩ (putEntry d j f n v s) = rd ⟨Layout.addr d p o, i, w⟩ s := by
  unfold rd putEntry
  rw [word_putBytes_below]
  show d * 0x1000000 + p * 0x1000 + o < (d * 0x1000000 + 0x500000 + 128 * j + f) / 4 * 4
  omega

theorem word_cffUpdate {d a : Nat} (s : State) (h : ∀ ch < 8, a ≠ (R.LOOP.CFF_OUT_VALUE d ch).addr) : word a (cffUpdate d s) = word a s := by
  unfold cffUpdate
  dsimp only
  refine foldl_unchanged fun ch hch t => (word_wr_ne _ _ (h ch (List.mem_range.mp hch))).trans ?_
  split <;> rfl

theorem rd_cffUpdate {d p o i w : Nat} (s : State) (hp : p < 256) (ho : o < 0x1000) (h : p ≠ 0x70 ∨ o < 0xE4 ∨ 0x104 ≤ o) :
    rd ⟨Layout.addr d p o, i, w⟩ (cffUpdate d s) = rd ⟨Layout.addr d p o, i, w⟩ s := by
  unfold rd
  rw [word_cffUpdate s fun ch hch => addr_ne hp ho (by decide) (by omega) (.inr (by omega))]

theorem loopEntry_cffUpdate (d i : Nat) (s : State) : loopEntry d i (cffUpdate d s) = loopEntry d i s := by
  unfold loopEntry wordBytes
  refine congrArg (List.flatMap · (List.range 32)) (funext fun k => congrArg (fun w : Word => leBytes 4 w.toNat) (word_cffUpdate s fun ch hch => ?_))
  show d * 0x1000000 + 0x500000 + 128 * i + 4 * k ≠ d * 0x1000000 + 0x70 * 0x1000 + (0xE4 + 4 * ch)
  omega

theorem aregStation_congr {d i : Nat} {s t : State} (h : ∀ l < 2, rd (R.PIO.AREG_CFG_EN d l) t = rd (R.PIO.AREG_CFG_EN d l) s)
    (ht : ∀ l < 2, rd (R.PIO.AREG_TGT_LOOP d l) t = rd (R.PIO.AREG_TGT_LOOP d l) s) : aregStation d i t = aregStation d i s := by
  unfold aregStation flag
  simp only [List.find?_cons, List.find?_nil]
  rw [h 0 (by decide), h 1 (by decide), ht 0 (by decide), ht 1 (by decide)]

/-- The target of an output without auto-registration leaves the outputs held for a station. -/
theorem applyTarget_plain_touches {d i : Nat} {e : List Byte} (u : Int) (s : State) (h : loopKind e ≠ 5) :
    Touches 0x9002000000000004 s (applyTarget d i e u s) := by
  unfold applyTarget
  dsimp only
  split
  · exact touches_ite (setFoc_touches rfl (.refl _ s)) (.refl _ s)
  · exact touches_ite (setHeater_touches rfl (.refl _ s)) (.refl _ s)
  · exact touches_ite (wr_touches rfl (.refl _ s)) (.refl _ s)
  · exact touches_ite (setGpio_touches rfl (.refl _ s)) (.refl _ s)
  · exact absurd ‹_› h
  · exact .refl _ s

theorem rd_applyTarget {d i j : Nat} {e : List Byte} (u : Int) (s : State) (hj : j < 160) (h : loopKind e ≠ 5) :
    rd (R.LOOP.OUT_U d j) (applyTarget d i e u s) = rd (R.LOOP.OUT_U d j) s := by
  unfold applyTarget
  dsimp only
  split
  · split
    · exact rd_setFoc ..
    · rfl
  · split
    · exact rd_setHeater ..
    · rfl
  · split
    next hx => exact rd_wr_of_apart (apart_pages ⟨by decide, by omega⟩ ⟨by decide, by omega⟩ (by decide)) _ _
    next => rfl
  · split
    · exact rd_setGpio ..
    · rfl
  · exact absurd ‹_› h
  · rfl

theorem ofSigned_toSigned {w v : Nat} (h : v < 2 ^ w) : ofSigned w (toSigned w v) = v := by
  have hv : ((v : Int) % ((2 ^ w : Nat) : Int)).toNat = v := by
    rw [Int.emod_eq_of_lt (Int.natCast_nonneg v) (Int.ofNat_lt.mpr h), Int.toNat_natCast]
  unfold ofSigned toSigned
  rw [Nat.mod_eq_of_lt h]
  dsimp only
  split
  · exact hv
  · rw [Int.sub_emod_right, hv]

/-- The output of MANUAL: OUT.U takes it (R406, R418). -/
theorem rd_giveOut {d i : Nat} {e : List Byte} (u : Int) (s : State) (hi : i < 160) (h : loopKind e ≠ 5) :
    rd (R.LOOP.OUT_U d i) (giveOut d i e u s) = ofSigned 16 u := by
  unfold giveOut
  rw [rd_applyTarget _ _ hi h]
  refine (rd_putEntry (by decide) (by omega)).trans ((rd_wr_same _ _ (show 0 + 16 ≤ 32 by decide)).trans (Nat.mod_eq_of_lt ?_))
  have hlt := Int.emod_lt_of_pos u (show (0 : Int) < ((2 ^ 16 : Nat) : Int) by decide)
  show (u % ((2 ^ 16 : Nat) : Int)).toNat < 2 ^ 16
  omega

/-- An execution in MANUAL of a context that drives no area and has no set-point profile. -/
theorem loopExecute_manual {d i : Nat} (s0 : State) {s : State} (hmode : (loopOf d i s).mode = 1) (hprof : eU (loopEntry d i s) 8 1 ≠ 1)
    (harea : aregStation d i s = none) : ∃ r y, loopExecute d i s0 s = giveOut d i (loopEntry d i s) (rdS (R.LOOP.MAN_OUT d i) s)
      (trackMeasure d i (loopEntry d i s) r y (setLoop d i { loopOf d i s with seq := none } s)) := by
  obtain ⟨s1, hs1⟩ : ∃ s1, s1 = setLoop d i { loopOf d i s with seq := none } s := ⟨_, rfl⟩
  have hctx : (loopOf d i s1).mode = 1 := by
    rw [hs1, loopOf_setLoop]
    exact hmode
  refine ⟨setPoint d i (loopEntry d i s) s1, measured (rawSource d (eU (loopEntry d i s) 4 2) s0) (eS (loopEntry d i s) 28 2) (eU (loopEntry d i s) 30 1), ?_⟩
  unfold loopExecute
  simp only [harea, Option.map_none, Option.isSome_none, Option.isNone_none, Bool.false_eq_true, false_and, and_true, if_false, if_neg hprof]
  rw [← hs1, if_pos hctx, show rdS (R.LOOP.MAN_OUT d i) s1 = rdS (R.LOOP.MAN_OUT d i) s from hs1 ▸ rfl]

/-- The tick of a die whose one enabled context is due. -/
theorem loopTick_one {d i : Nat} {s : State} (hup : blockUp d 0x70 s = true) (hnext : mapGet (fun _ => 0) s.loopNext d ≤ ltime d s / 20000)
    (hone : enabledLoops d s = [i]) (hdue : ltime d s / 20000 % periodTicks (eU (loopEntry d i s) 1 1 % 8) = eU (loopEntry d i s) 2 1) :
    ∃ s0, s0 = cffUpdate d { s with loopNext := mapSet (fun _ => 0) s.loopNext d (ltime d s / 20000 + 1) } ∧
      loopTick d s = loopExecute d i s0 s0 := by
  obtain ⟨z, hz⟩ : ∃ z : State, z = { s with loopNext := mapSet (fun _ => 0) s.loopNext d (ltime d s / 20000 + 1) } := ⟨_, rfl⟩
  have hloops (j : Nat) : loopEnabled d j (cffUpdate d z) = loopEnabled d j s := by
    unfold loopEnabled
    rw [Touches.loopOf_eq (m := 0x200000000000004) (cffUpdate_touches rfl (.refl _ z)) rfl, hz]
    rfl
  have hones : enabledLoops d (cffUpdate d z) = [i] := by
    unfold enabledLoops at hone ⊢
    rw [funext hloops]
    exact hone
  have hon : loopEnabled d i s = true := (List.mem_filter.mp (hone ▸ List.mem_singleton_self i : i ∈ enabledLoops d s)).2
  have hentry : loopEntry d i (cffUpdate d z) = loopEntry d i s := (loopEntry_cffUpdate d i z).trans (hz ▸ rfl)
  have hgo : ¬ (!blockUp d 0x70 s || decide (ltime d s / 20000 < mapGet (fun _ => 0) s.loopNext d)) = true := by
    rw [hup, decide_eq_false (by omega)]
    exact Bool.false_ne_true
  refine ⟨_, congrArg (cffUpdate d) hz, ?_⟩
  unfold loopTick
  dsimp only
  rw [if_neg hgo, ← hz, hones, List.foldl_cons, List.foldl_nil, hentry, if_pos ⟨hdue, (hloops i).trans hon⟩]

theorem aregStage_none {k : Nat} {s : State} (h : s.aregOut = []) : aregStage k s = s := by
  unfold aregStage
  dsimp only
  rw [h]
  rfl

theorem loopTick_manual {d i : Nat} {s : State} (hi : i < 160) (hup : blockUp d 0x70 s = true)
    (hnext : mapGet (fun _ => 0) s.loopNext d ≤ ltime d s / 20000) (hone : enabledLoops d s = [i]) (hmode : (loopOf d i s).mode = 1)
    (hdue : ltime d s / 20000 % periodTicks (eU (loopEntry d i s) 1 1 % 8) = eU (loopEntry d i s) 2 1)
    (hprof : eU (loopEntry d i s) 8 1 ≠ 1) (hkind : loopKind (loopEntry d i s) ≠ 5) (harea : aregStation d i s = none)
    (hout : s.aregOut = []) :
    ∃ t, exec (.loopTick d) s = .next t ∧ rd (R.LOOP.OUT_U d i) t = rd (R.LOOP.MAN_OUT d i) s ∧
      mapGet (fun _ => 0) t.loopNext d = ltime d s / 20000 + 1 := by
  obtain ⟨s0, hs0, htick⟩ := loopTick_one hup hnext hone hdue
  obtain ⟨z, hz⟩ : ∃ z : State, z = { s with loopNext := mapSet (fun _ => 0) s.loopNext d (ltime d s / 20000 + 1) } := ⟨_, rfl⟩
  rw [← hz] at hs0
  have hcff : Touches 0x200000000000004 z s0 := hs0 ▸ cffUpdate_touches rfl (.refl _ z)
  have hentry : loopEntry d i s0 = loopEntry d i s := by rw [hs0, loopEntry_cffUpdate, hz]; rfl
  have hmode0 : (loopOf d i s0).mode = 1 := by rw [hcff.loopOf_eq rfl, hz]; exact hmode
  have hrd {p o x w : Nat} (hp : p < 256) (ho : o < 0x1000) (h : p ≠ 0x70 ∨ o < 0xE4 ∨ 0x104 ≤ o) :
      rd ⟨Layout.addr d p o, x, w⟩ s0 = rd ⟨Layout.addr d p o, x, w⟩ s := by rw [hs0, rd_cffUpdate z hp ho h, hz]; rfl
  have harea0 : aregStation d i s0 = none := (aregStation_congr (fun l hl => hrd (by decide) (by omega) (.inl (by decide)))
    (fun l hl => hrd (by decide) (by omega) (.inl (by decide)))).trans harea
  obtain ⟨r, y, hexec⟩ := loopExecute_manual s0 hmode0 (hentry ▸ hprof) harea0
  rw [hexec, hentry] at htick
  generalize hs1 : trackMeasure d i (loopEntry d i s) r y (setLoop d i { loopOf d i s0 with seq := none } s0) = s1 at htick
  have ht1 : Touches 0x300000000000004 z s1 := hs1 ▸ trackMeasure_touches rfl (setLoop_touches rfl (hs0 ▸ cffUpdate_touches rfl (.refl _ z)))
  have hgive : (giveOut d i (loopEntry d i s) (rdS (R.LOOP.MAN_OUT d i) s0) s1).aregOut = [] := by
    have hput (x : State) : Touches 0x4 x (putEntry d i 110 2 (rdS (R.LOOP.MAN_OUT d i) s0) (wrS (R.LOOP.OUT_U d i) (rdS (R.LOOP.MAN_OUT d i) s0) x)) :=
      putEntry_touches rfl (wrS_touches rfl (.refl _ x))
    refine ((applyTarget_plain_touches _ _ hkind).aregOut rfl).trans (((hput s1).aregOut rfl).trans ((ht1.aregOut rfl).trans ?_))
    rw [hz]
    exact hout
  refine ⟨giveOut d i (loopEntry d i s) (rdS (R.LOOP.MAN_OUT d i) s0) s1, ?_, ?_, ?_⟩
  · refine Eq.trans (b := execLoopTick d s) rfl ?_
    unfold execLoopTick
    rw [htick, aregStage_none hgive, aregStage_none hgive]
  · rw [rd_giveOut _ _ hi hkind, rdS, show rd (R.LOOP.MAN_OUT d i) s0 = rd (R.LOOP.MAN_OUT d i) s from hrd (by decide) (by omega) (.inr (.inr (by omega)))]
    exact ofSigned_toSigned (rd_lt _ _)
  · rw [Touches.loopNext (m := 0x9402000000000004) (giveOut_touches rfl (.refl _ s1)) rfl, ht1.loopNext rfl, hz]
    exact mapGet_set_same (fun _ => 0) s.loopNext d (ltime d s / 20000 + 1)

/-- Settles O37: each command of the engine, its tick over one context in MANUAL, and the two coverage messages, by the
bit of LOOP_CTL that the command sets and by the fold over the channels. -/
theorem loopCommandsAct : Obligations.LoopCommandsAct := by
  unfold Obligations.LoopCommandsAct
  refine ⟨fun a d v s hr hv h0 => ?_, fun a d v s hr hv h0 => ?_, fun a d v s hr hv hm => ?_, fun a d v s hr hv hm => ?_,
    fun a d v s hr hv hm => ?_, fun a d v s hr hv hf => ?_, fun d i s hi hup hnext hone hmode hdue hprof hkind harea hout => ?_,
    fun d k fsn xc lines level width cpc zones s hfind hup hf hdown => ?_, fun d fsn s hfind hf hdown => ?_⟩
  · refine ⟨_, (exec_loopEnable hr).trans (congrArg _ (loopCtl_enable _ hv)), ?_⟩
    exact loopEnable_enables ((loopReason_landWrite ..).trans h0)
  · refine ⟨_, (exec_loopEnable hr).trans (congrArg _ (loopCtl_enable _ hv)), ?_⟩
    exact loopEnable_refuses (s := landWrite a.rq d s) (fun h => h0 ((loopReason_landWrite ..).symm.trans h))
  · refine ⟨_, (exec_loopDisable hr).trans (congrArg _ (loopCtl_disable _ hv)), ?_⟩
    exact loopDisable_disables (s := landWrite a.rq d s) hm
  · refine ⟨_, (exec_loopAuto hr).trans (congrArg _ (loopCtl_auto _ hv)), ?_⟩
    exact loopAuto_switches (s := landWrite a.rq d s) hm
  · refine ⟨_, (exec_loopManual hr).trans (congrArg _ (loopCtl_manual _ hv)), ?_⟩
    exact loopManual_switches (s := landWrite a.rq d s) hm
  · refine ⟨_, (exec_loopUnfence hr).trans (congrArg _ (loopCtl_unfence _ hv)), ?_⟩
    exact loopUnfence_unfences (s := landWrite a.rq d s) hf
  · exact loopTick_manual hi hup hnext hone hmode hdue hprof hkind harea hout
  · exact cffMessage_waits hfind hup hf hdown
  · exact cffCancel_empties hfind hf hdown

end Sys2Proof.Machine
end

section
/-! PROOFS. The commands of the motor buses (R388 to R392). -/

namespace Sys2Proof.Machine

/-! ### A reading (R389, R390) -/

/-- The fields of a bus that a reading leaves: every other word, and the state bits of BUS_STAT. -/
theorem rd_busReading {d b v o i w : Nat} (s : State) (h : o ≠ 0x114 + 0x40 * b ∨ 13 ≤ i) (hc : o ≠ 0x118 + 0x40 * b) (hp : o ≠ 0x11C + 0x40 * b) :
    rd ⟨Layout.addr d 0x6A o, i, w⟩ (busReading d b v s) = rd ⟨Layout.addr d 0x6A o, i, w⟩ s := by
  have hstat (j x : Nat) (hj : j + x ≤ 13) (y : Nat) (t : State) :
      rd ⟨Layout.addr d 0x6A o, i, w⟩ (wr ⟨Layout.addr d 0x6A (0x114 + 0x40 * b), j, x⟩ y t) = rd ⟨Layout.addr d 0x6A o, i, w⟩ t :=
    rd_wr_of_apart (apart_page (h.imp_right fun hi => ⟨by omega, .inr (by omega)⟩)) _ _
  have hpeak (y : Nat) (t : State) : rd ⟨Layout.addr d 0x6A o, i, w⟩ (wr (R.BUS.BUS_PEAK_V d b) y t) = rd ⟨Layout.addr d 0x6A o, i, w⟩ t :=
    rd_wr_of_apart (apart_page (.inl hp)) _ _
  have hcnt (t : State) : rd ⟨Layout.addr d 0x6A o, i, w⟩ (bump (R.BUS.BUS_CNT_CHOPS d b) t) = rd ⟨Layout.addr d 0x6A o, i, w⟩ t :=
    rd_wr_of_apart (apart_page (.inl hc)) _ _
  unfold busReading
  dsimp only
  split
  · rw [hcnt]
    refine (hstat 12 1 (by decide) _ _).trans ?_
    rw [rd_setBus]
    split
    · exact (hpeak ..).trans (hstat 0 12 (by decide) _ _)
    · exact hstat 0 12 (by decide) _ _
  · refine (hstat 12 1 (by decide) _ _).trans ?_
    rw [rd_setBus]
    split
    · exact (hpeak ..).trans (hstat 0 12 (by decide) _ _)
    · exact hstat 0 12 (by decide) _ _

theorem busReading_reading (d b v : Nat) (s : State) : rd (R.BUS.BUS_STAT_V d b) (busReading d b v s) = v % 4096 ∧
    flag (R.BUS.BUS_STAT_CHOP d b) (busReading d b v s) = decide (0 < (chopDuty d b v s).1) := by
  have hcnt {i w : Nat} (t : State) : rd ⟨Layout.addr d 0x6A (0x114 + 0x40 * b), i, w⟩ (bump (R.BUS.BUS_CNT_CHOPS d b) t) =
      rd ⟨Layout.addr d 0x6A (0x114 + 0x40 * b), i, w⟩ t := rd_wr_of_apart (apart_page (.inl (by omega))) _ _
  have hpeak (y : Nat) (t : State) : rd (R.BUS.BUS_STAT_V d b) (wr (R.BUS.BUS_PEAK_V d b) y t) = rd (R.BUS.BUS_STAT_V d b) t :=
    rd_wr_of_apart (apart_page (.inl (by omega))) _ _
  have hv (on : Nat) (r : BusRun) (t : State) (ht : rd (R.BUS.BUS_STAT_V d b) t = v % 4096) :
      rd (R.BUS.BUS_STAT_V d b) (wr (R.BUS.BUS_STAT_CHOP d b) on (setBus d b r t)) = v % 4096 :=
    (rd_wr_of_apart (apart_page (.inr (by decide))) _ _).trans ht
  have hv0 : rd (R.BUS.BUS_STAT_V d b) (wr (R.BUS.BUS_STAT_V d b) v s) = v % 4096 := rd_wr_same _ _ (show 0 + 12 ≤ 32 by decide)
  have hchop (on : Bool) (t : State) : flag (R.BUS.BUS_STAT_CHOP d b) (wr (R.BUS.BUS_STAT_CHOP d b) (b2n on) t) = on := by
    unfold flag
    rw [rd_wr_same _ _ (show 12 + 1 ≤ 32 by decide)]
    cases on <;> rfl
  unfold busReading
  dsimp only
  split
  · refine ⟨(hcnt _).trans (hv _ _ _ ?_), (congrArg (· != 0) (hcnt _)).trans (hchop ..)⟩
    split
    · exact (hpeak ..).trans hv0
    · exact hv0
  · refine ⟨hv _ _ _ ?_, hchop ..⟩
    split
    · exact (hpeak ..).trans hv0
    · exact hv0

/-- What a reading with the chopper fully on keeps of the bus. -/
theorem busOf_busReading {d b v t0 : Nat} {s : State} (h : rd (R.BUS.CHOP_CFG_CH_ON d b) s ≤ v) (ht : (busOf d b s).chopSince = some t0) :
    busOf d b (busReading d b v s) =
      { readings := (s.now, v) :: pruneReadings (s.now - 1000 * rd (R.BUS.INEFF_TIME d b) s) (busOf d b s).readings, chopSince := some t0 } := by
  have hduty : chopDuty d b v s = (1, 1) := by
    unfold chopDuty
    exact if_pos h
  have hwr (l : Loc) (x : Nat) (t : State) : busOf d b (wr l x t) = busOf d b t := rfl
  unfold busReading
  dsimp only
  rw [hduty, ht]
  split
  · exact (hwr ..).trans ((hwr ..).trans (busOf_setBus ..))
  · exact (hwr ..).trans (busOf_setBus ..)

theorem readingAt_cons (e : Nat × Nat) (l : List (Nat × Nat)) (t : Nat) :
    readingAt (e :: l) t = if e.1 ≤ t then some e.2 else readingAt l t := by
  unfold readingAt
  by_cases h : e.1 ≤ t <;> simp [h]

/-- A reading prunes nothing that the window looks back at. -/
theorem readingAt_pruneReadings (t : Nat) (l : List (Nat × Nat)) : readingAt (pruneReadings t l) t = readingAt l t := by
  induction l with
  | nil => rfl
  | cons e l ih =>
    unfold pruneReadings
    by_cases h : e.1 ≤ t
    · rw [if_pos h, readingAt_cons, readingAt_cons, if_pos h, if_pos h]
    · rw [if_neg h, readingAt_cons, readingAt_cons, if_neg h, if_neg h, ih]

theorem busOn_of {d b : Nat} {s : State} (hd : d < s.dies) (hb : b < 4) : busOn d b s = true := by
  unfold busOn
  rw [decide_eq_true hd, decide_eq_true hb]
  rfl

/-! ### The commands at a reading -/

theorem chopperSwitch_switches {d b v : Nat} {s : State} (hd : d < s.dies) (hb : b < 4) (hmode : flag (R.BUS.CHOP_CFG_MODE d b) s = false) :
    ∃ t, exec (.chopperSwitch d b v) s = .next t ∧ rd (R.BUS.BUS_STAT_V d b) t = v % 4096 ∧
      (rd (R.BUS.CHOP_CFG_CH_ON d b) s ≤ v → flag (R.BUS.BUS_STAT_CHOP d b) t = true) ∧
      (v < rd (R.BUS.CHOP_CFG_CH_ON d b) s → v < rd (R.BUS.CHOP_CFG_CH_OFF d b) s → flag (R.BUS.BUS_STAT_CHOP d b) t = false) := by
  obtain ⟨hv, hchop⟩ := busReading_reading d b v s
  refine ⟨busReading d b v s, ?_, hv, fun hon => ?_, fun hon hoff => ?_⟩
  · exact Eq.trans (b := execChopperSwitch d b v s) rfl (if_pos (busOn_of hd hb))
  · have hduty : (chopDuty d b v s).1 = 1 := by
      unfold chopDuty
      rw [if_pos hon]
    rw [hchop, hduty]
    rfl
  · have hduty : (chopDuty d b v s).1 = 0 := by
      unfold chopDuty
      dsimp only
      rw [if_neg (by omega), hmode, if_pos (by rfl), if_pos hoff]
    rw [hchop, hduty]
    rfl

/-- The chopper is found ineffective (R391). -/
theorem chopIneffective_reading {d b v t0 v0 : Nat} {s : State} (hon : rd (R.BUS.CHOP_CFG_CH_ON d b) s ≤ v)
    (hregen : rd (R.BUS.VB_CFG_OV_REGEN d b) s ≤ v) (hw : 0 < rd (R.BUS.INEFF_TIME d b) s) (hnow : 1000 * rd (R.BUS.INEFF_TIME d b) s ≤ s.now)
    (ht : (busOf d b s).chopSince = some t0) (hlong : t0 + 1000 * rd (R.BUS.INEFF_TIME d b) s ≤ s.now)
    (h0 : readingAt (busOf d b s).readings (s.now - 1000 * rd (R.BUS.INEFF_TIME d b) s) = some v0) (hrise : v0 + rd (R.BUS.INEFF_RISE d b) s ≤ v) :
    chopIneffective d b v (busReading d b v s) = true := by
  have hcfg : rd (R.BUS.VB_CFG_OV_REGEN d b) (busReading d b v s) = rd (R.BUS.VB_CFG_OV_REGEN d b) s :=
    rd_busReading s (.inl (by omega)) (by omega) (by omega)
  have htime : rd (R.BUS.INEFF_TIME d b) (busReading d b v s) = rd (R.BUS.INEFF_TIME d b) s :=
    rd_busReading s (.inl (by omega)) (by omega) (by omega)
  have hr : rd (R.BUS.INEFF_RISE d b) (busReading d b v s) = rd (R.BUS.INEFF_RISE d b) s :=
    rd_busReading s (.inl (by omega)) (by omega) (by omega)
  have hn : (busReading d b v s).now = s.now := Touches.now (m := 0x4000000000004) (busReading_touches rfl (.refl _ s)) rfl
  have hat : readingAt ((s.now, v) :: pruneReadings (s.now - 1000 * rd (R.BUS.INEFF_TIME d b) s) (busOf d b s).readings)
      (s.now - 1000 * rd (R.BUS.INEFF_TIME d b) s) = some v0 := by
    rw [readingAt_cons, readingAt_pruneReadings, h0]
    exact if_neg (by omega)
  unfold chopIneffective
  dsimp only
  rw [hcfg, htime, hr, hn, busOf_busReading hon ht]
  dsimp only
  rw [hat, decide_eq_true hregen, decide_eq_true hlong]
  exact decide_eq_true hrise

/-- The clamp begins (R391). -/
theorem busClamp_begins {d b v t0 v0 : Nat} {s : State} (hd : d < s.dies) (hb : b < 4) (hup : blockUp d 0x6A s = true)
    (hclamp : flag (R.BUS.BUS_STAT_CLAMP d b) s = false) (hon : rd (R.BUS.CHOP_CFG_CH_ON d b) s ≤ v)
    (hregen : rd (R.BUS.VB_CFG_OV_REGEN d b) s ≤ v) (hhard : v < rd (R.BUS.VB_CFG_OV_HARD d b) s) (hw : 0 < rd (R.BUS.INEFF_TIME d b) s)
    (hnow : 1000 * rd (R.BUS.INEFF_TIME d b) s ≤ s.now) (ht : (busOf d b s).chopSince = some t0)
    (hlong : t0 + 1000 * rd (R.BUS.INEFF_TIME d b) s ≤ s.now)
    (h0 : readingAt (busOf d b s).readings (s.now - 1000 * rd (R.BUS.INEFF_TIME d b) s) = some v0) (hrise : v0 + rd (R.BUS.INEFF_RISE d b) s ≤ v) :
    ∃ t, exec (.busClamp d b v) s = .next t ∧ flag (R.BUS.BUS_STAT_CLAMP d b) t = true ∧ flag (R.BUS.BUS_STAT_CHOP_BAD d b) t = true := by
  have hblock : BlockWord (Layout.addr d 0x6A (0x114 + 0x40 * b)) :=
    blockWord_addr (by decide) (by omega) (.inr ⟨by decide, by decide, by decide, by omega⟩)
  have hshow (i w : Nat) (x : State) : flag ⟨Layout.addr d 0x6A (0x114 + 0x40 * b), i, w⟩
      (recordFault d 0x6A b false (evt d 0x6A b (bump (R.BUS.BUS_CNT_CLAMPS d b) x))) = flag ⟨Layout.addr d 0x6A (0x114 + 0x40 * b), i, w⟩ x :=
    congrArg (· != 0) (((rd_recordFault_block hblock (by decide)).trans (rd_evt_block hblock (by decide))).trans
      (rd_wr_of_apart (apart_page (.inl (by omega))) _ _))
  have hineff := chopIneffective_reading hon hregen hw hnow ht hlong h0 hrise
  refine ⟨recordFault d 0x6A b false (evt d 0x6A b (bump (R.BUS.BUS_CNT_CLAMPS d b)
    (wr (R.BUS.BUS_STAT_CHOP_BAD d b) 1 (wr (R.BUS.BUS_STAT_CLAMP d b) 1 (busReading d b v s))))), ?_, ?_, ?_⟩
  · refine Eq.trans (b := execBusClamp d b v s) rfl ?_
    unfold execBusClamp
    dsimp only
    rw [busOn_of hd hb, if_neg (by decide), if_pos ⟨hup, hineff, by rw [hclamp]; rfl, hhard⟩]
  · exact (hshow ..).trans ((flag_wr_of_apart (apart_page (.inr (by decide))) _ _).trans (flag_wr_one _ (show 13 + 1 ≤ 32 by decide) rfl))
  · exact (hshow ..).trans (flag_wr_one _ (show 16 + 1 ≤ 32 by decide) rfl)

/-- The clamp ends (R391). -/
theorem busClampEnd_ends {d b v : Nat} {s : State} (hd : d < s.dies) (hb : b < 4) (hclamp : flag (R.BUS.BUS_STAT_CLAMP d b) s = true)
    (hlow : v + rd (R.BUS.UVH_HYST d b) s < rd (R.BUS.VB_CFG_OV_REGEN d b) s) :
    ∃ t, exec (.busClampEnd d b v) s = .next t ∧ flag (R.BUS.BUS_STAT_CLAMP d b) t = false ∧
      testBit (word (R.HDR.EVT_STAT_EVT d 0x6A).addr t).toNat (4 + b) = true := by
  have hclamp1 : flag (R.BUS.BUS_STAT_CLAMP d b) (busReading d b v s) = true :=
    (congrArg (· != 0) (rd_busReading s (.inr (by decide)) (by omega) (by omega))).trans hclamp
  have hhyst : rd (R.BUS.UVH_HYST d b) (busReading d b v s) = rd (R.BUS.UVH_HYST d b) s :=
    rd_busReading s (.inl (by omega)) (by omega) (by omega)
  have hregen : rd (R.BUS.VB_CFG_OV_REGEN d b) (busReading d b v s) = rd (R.BUS.VB_CFG_OV_REGEN d b) s :=
    rd_busReading s (.inl (by omega)) (by omega) (by omega)
  refine ⟨evt d 0x6A (4 + b) (wr (R.BUS.BUS_STAT_CLAMP d b) 0 (busReading d b v s)), ?_, ?_, ?_⟩
  · refine Eq.trans (b := execBusClampEnd d b v s) rfl ?_
    unfold execBusClampEnd
    dsimp only
    rw [busOn_of hd hb, if_neg (by decide), if_pos ⟨hclamp1, by rw [hhyst, hregen]; exact hlow⟩]
  · have hblock : BlockWord (R.BUS.BUS_STAT_CLAMP d b).addr :=
      blockWord_addr (by decide) (by omega) (.inr ⟨by decide, by decide, by decide, by omega⟩)
    exact (congrArg (· != 0) (rd_evt_block hblock (by decide))).trans (flag_wr_zero _ (show 13 + 1 ≤ 32 by decide))
  · exact testBit_evt d 0x6A (4 + b) _ (by omega) (notPba_addr (by decide) (by decide))

/-- The bus trips (R392). -/
theorem busTrip_trips {d b v : Nat} {s : State} (hd : d < s.dies) (hb : b < 4) (htrip : flag (R.BUS.BUS_STAT_TRIPPED d b) s = false)
    (hhard : rd (R.BUS.VB_CFG_OV_HARD d b) s ≤ v) :
    ∃ t, exec (.busTrip d b v) s = .next t ∧ UnitId.bus d b ∈ t.fenced ∧
      testBit (word (R.HDR.EVT_STAT_EVT d 0x6A).addr t).toNat (8 + b) = true := by
  have htrip1 : flag (R.BUS.BUS_STAT_TRIPPED d b) (busReading d b v s) = false :=
    (congrArg (· != 0) (rd_busReading s (.inr (by decide)) (by omega) (by omega))).trans htrip
  have hhard1 : rd (R.BUS.VB_CFG_OV_HARD d b) (busReading d b v s) = rd (R.BUS.VB_CFG_OV_HARD d b) s :=
    rd_busReading s (.inl (by omega)) (by omega) (by omega)
  refine ⟨evt d 0x6A (8 + b) (recordFault d 0x6A (4 + b) false (addFence (.bus d b) (busChannelsOff d b
    (wr (R.BUS.BUS_STAT_MBRK d b) 1 (wr (R.BUS.BUS_STAT_TRIPPED d b) 1 (busReading d b v s)))))), ?_, ?_, ?_⟩
  · refine Eq.trans (b := execBusTrip d b v s) rfl ?_
    unfold execBusTrip
    dsimp only
    rw [busOn_of hd hb, if_neg (by decide), if_pos ⟨by rw [hhard1]; exact hhard, by rw [htrip1]; rfl⟩]
  · exact Touches.mem_fenced_of_addFence (m := 0x1800000041004) (evt_touches rfl (recordFault_touches rfl (.refl _ _))) rfl
  · exact testBit_evt d 0x6A (8 + b) _ (by omega) (notPba_addr (by decide) (by decide))

theorem busUndervoltage_shows {d b v : Nat} {s : State} (hd : d < s.dies) (hb : b < 4) (hlow : v ≤ rd (R.BUS.UVH_UV_LIM d b) s) :
    ∃ t, exec (.busUndervoltage d b v) s = .next t ∧ testBit (word (R.HDR.EVT_STAT_EVT d 0x6A).addr t).toNat (12 + b) = true := by
  have hlim : rd (R.BUS.UVH_UV_LIM d b) (busReading d b v s) = rd (R.BUS.UVH_UV_LIM d b) s :=
    rd_busReading s (.inl (by omega)) (by omega) (by omega)
  refine ⟨evt d 0x6A (12 + b) (busReading d b v s), ?_, testBit_evt d 0x6A (12 + b) _ (by omega) (notPba_addr (by decide) (by decide))⟩
  refine Eq.trans (b := execBusUndervoltage d b v s) rfl ?_
  unfold execBusUndervoltage
  dsimp only
  rw [busOn_of hd hb, if_neg (by decide), if_pos (by rw [hlim]; exact hlow)]

/-! ### The commands of BUS_CTL (R392) -/

/-- A write of BUS_CTL goes to the bus of its block. -/
theorem busWrite_ctl {a : Access} {d b : Nat} {v : Word} {s : State} : busWrite (RegWrite.of a d 0x6A (0x110 + 0x40 * b) v) s =
    if isFenced (.bus d b) s then (if testBit v.toNat 1 then busUnfence d b s else s)
    else if testBit v.toNat 2 then wr (R.BUS.BUS_STAT_CHOP_BAD d b) 0 (busBrake d b ((RegWrite.of a d 0x6A (0x110 + 0x40 * b) v).store s))
    else busBrake d b ((RegWrite.of a d 0x6A (0x110 + 0x40 * b) v).store s) := by
  have hb : (0x110 + 0x40 * b - 0x100) / 0x40 = b := by omega
  have hc : (0x110 + 0x40 * b) % 0x40 = 0x10 := by omega
  unfold busWrite
  simp only [RegWrite.of_o, RegWrite.of_d, RegWrite.of_e, hb, hc]
  rw [if_neg (by decide), if_pos trivial]

/-- An unfenced bus is no longer tripped (R392). -/
theorem busUnfence_unfences {d b : Nat} {s : State} (hm : UnitId.bus d b ∈ s.fenced) (hf : faultsHold d 0x6A s = false)
    (hlow : rd (R.BUS.BUS_STAT_V d b) s + rd (R.BUS.UVH_HYST d b) s < rd (R.BUS.VB_CFG_OV_REGEN d b) s) :
    UnitId.bus d b ∉ (busUnfence d b s).fenced ∧ flag (R.BUS.BUS_STAT_TRIPPED d b) (busUnfence d b s) = false := by
  have hsays : ¬ (faultsHold d 0x6A s = true ∨
      rd (R.BUS.VB_CFG_OV_REGEN d b) s ≤ rd (R.BUS.BUS_STAT_V d b) s + rd (R.BUS.UVH_HYST d b) s) := by
    rw [hf]
    exact not_or.mpr ⟨Bool.false_ne_true, by omega⟩
  unfold busUnfence
  rw [if_neg (by simp [hm]), if_neg hsays]
  refine ⟨?_, (flag_wr_of_apart (apart_page (.inr (by decide))) _ _).trans (flag_wr_zero _ (show 14 + 1 ≤ 32 by decide))⟩
  show UnitId.bus d b ∉ (dropFence (.bus d b) s).fenced
  simp [dropFence]

/-- Settles O36: a reading's effect on V, the chopper and the bus's history says what each command at a reading does; the
two commands of BUS_CTL by the one rule of its write. -/
theorem motorBusCommandsAct : Obligations.MotorBusCommandsAct := by
  unfold Obligations.MotorBusCommandsAct
  refine ⟨fun d b v s hd hb hmode => chopperSwitch_switches hd hb hmode,
    fun d b v t0 v0 s hd hb hup _ hclamp hon hregen hhard hw hnow ht hlong h0 hrise =>
      busClamp_begins hd hb hup hclamp hon hregen hhard hw hnow ht hlong h0 hrise,
    fun d b v s hd hb hclamp hlow => busClampEnd_ends hd hb hclamp hlow, fun d b v s hd hb htrip hhard => busTrip_trips hd hb htrip hhard,
    fun d b v s hd hb hlow => busUndervoltage_shows hd hb hlow, fun a d b v s hb hr hm hf hlow => ?_, fun a d b v s hb hr hf => ?_⟩
  · have hfenced : isFenced (.bus d b) (landWrite a.rq d s) = true := (isFenced_landWrite ..).trans (isFenced_of_mem hm)
    refine ⟨_, (exec_busUnfence hb hr).trans (congrArg _ (busWrite_ctl.trans ?_)), busUnfence_unfences (s := landWrite a.rq d s) hm hf hlow⟩
    rw [if_pos hfenced, if_pos (testBit_or_of_set (by decide))]
  · have hfenced : ¬ isFenced (.bus d b) (landWrite a.rq d s) = true := ne_true_of_eq_false ((isFenced_landWrite ..).trans hf)
    refine ⟨wr (R.BUS.BUS_STAT_CHOP_BAD d b) 0 (busBrake d b ((RegWrite.of a d 0x6A (0x110 + 0x40 * b) (v ||| 4)).store (landWrite a.rq d s))),
      (exec_chopBadClear hb hr).trans (congrArg _ (busWrite_ctl.trans ?_)), flag_wr_zero _ (show 16 + 1 ≤ 32 by decide)⟩
    rw [if_neg hfenced, if_pos (testBit_or_of_set (by decide))]

end Sys2Proof.Machine
end

section
/-! PROOFS. The commands of the motor channels (R381 to R392). -/

namespace Sys2Proof.Machine

theorem Touches.focOf_eq {m : Nat} {z s : State} (h : Touches m z s) (hm : m.testBit 49 = false) (d n : Nat) : focOf d n s = focOf d n z :=
  focOf_congr d n (h.focs hm)

theorem Touches.isFenced_eq {m : Nat} {z s : State} (h : Touches m z s) (hf : m.testBit 15 = false) (hs : m.testBit 17 = false) (u : UnitId) :
    isFenced u s = isFenced u z := by
  unfold isFenced dieFenced
  rw [h.fenced hf, h.safeStop hs]

/-! ### States (R386) -/

theorem rd_foc_evt {d o i w b : Nat} (s : State) (h : 0x40 ≤ o ∧ o < 0x1000) :
    rd ⟨Layout.addr d 0x69 o, i, w⟩ (evt d 0x69 b s) = rd ⟨Layout.addr d 0x69 o, i, w⟩ s :=
  rd_evt_block (p := 0x69) (blockWord_addr (by decide) h.2 (.inr ⟨by decide, by decide, by decide, h.1⟩)) (by decide)

/-- What a channel holds once it has entered a state. -/
def focEntered (st : Nat) (now : Nat) (c : FocCh) : FocCh :=
  { c with since := now, duties := if st ≤ 2 then none else c.duties, matched := 0, brakeOff := false }

theorem focOf_focEnter (d n st : Nat) (s : State) : focOf d n (focEnter d n st s) = focEntered st s.now (focOf d n s) := by
  have hset : Touches 0x1004 (setFoc d n (focEntered st s.now (focOf d n s)) s) (focEnter d n st s) := by
    unfold focEnter
    dsimp only
    exact touches_ite (evt_touches rfl (touches_ite (evt_touches rfl (wr_touches rfl (.refl _ _))) (wr_touches rfl (.refl _ _))))
      (touches_ite (evt_touches rfl (touches_ite (evt_touches rfl (wr_touches rfl (.refl _ _))) (wr_touches rfl (.refl _ _))))
        (touches_ite (evt_touches rfl (wr_touches rfl (.refl _ _))) (wr_touches rfl (.refl _ _))))
  exact (hset.focOf_eq rfl d n).trans (focOf_setFoc ..)

/-- The fields of the channels' page, but STATE, stand when a channel enters a state. -/
theorem rd_focEnter {d n st o i w : Nat} (s : State) (h : 0x40 ≤ o ∧ o < 0x1000) :
    rd ⟨Layout.addr d 0x69 o, i, w⟩ (focEnter d n st s) =
      rd ⟨Layout.addr d 0x69 o, i, w⟩ (wr (R.FOC.STAT_STATE d n) st (setFoc d n (focEntered st s.now (focOf d n s)) s)) := by
  unfold focEnter
  dsimp only
  split
  · rw [rd_foc_evt _ h]
    split
    · exact rd_foc_evt _ h
    · rfl
  · split
    · rw [rd_foc_evt _ h]
      split
      · exact rd_foc_evt _ h
      · rfl
    · split
      · exact rd_foc_evt _ h
      · rfl

theorem focState_focEnter {d n st : Nat} (s : State) (hn : n < 4) (hst : st < 8) : focState d n (focEnter d n st s) = st :=
  (rd_focEnter s (by omega)).trans ((rd_wr_same _ _ (show 0 + 3 ≤ 32 by decide)).trans (Nat.mod_eq_of_lt hst))

theorem focState_focOff {d n : Nat} (s : State) (hn : n < 4) : focState d n (focOff d n s) = 0 := by
  have hbit (i : Nat) (hi : 3 ≤ i ∧ i < 32) (x : Nat) (t : State) :
      focState d n (wr ⟨Layout.addr d 0x69 (0x144 + 0x80 * n), i, 1⟩ x t) = focState d n t :=
    rd_wr_of_apart (apart_page (.inr ⟨by omega, .inl (by omega)⟩)) _ _
  unfold focOff
  split
  · assumption
  · dsimp only
    refine (hbit 6 (by decide) _ _).trans ((hbit 7 (by decide) _ _).trans ((hbit 5 (by decide) _ _).trans ?_))
    exact focState_focEnter s hn (by decide)

theorem focFault_fences {d n src : Nat} {s : State} (hn : n < 4) (h : isFenced (.foc d n) s = false) :
    UnitId.foc d n ∈ (focFault d n src s).fenced ∧ focState d n (focFault d n src s) = 0 := by
  have hrec : isFenced (.foc d n) (recordFault d 0x69 src false s) = false :=
    (Touches.isFenced_eq (m := 0x1800000041004) (recordFault_touches rfl (.refl _ s)) rfl rfl _).trans h
  unfold focFault
  dsimp only
  rw [hrec, if_neg Bool.false_ne_true]
  exact ⟨Touches.mem_fenced_of_addFence (m := 0x2000000001004) (focOff_touches rfl (.refl _ _)) rfl, focState_focOff _ hn⟩

/-! ### A carrier period (R381 to R388) -/

theorem focMustStop_of {d n : Nat} {s : State} (hf : isFenced (.foc d n) s = false)
    (hbus : isFenced (.bus d (rd (R.FOC.CFG0_BUS d n) s)) s = false) (hen : flag (R.FOC.CTL_EN d n) s = true)
    (htrip : flag (R.BUS.BUS_STAT_TRIPPED d (rd (R.FOC.CFG0_BUS d n) s)) s = false) : focMustStop d n s = false := by
  unfold focMustStop busTripped
  rw [hf, hbus, hen, htrip]
  rfl

/-- The period of a channel past OFFSET whose currents are under the limit. -/
def focDriven (d n ia ib ic : Nat) (s : State) : State :=
  let raw := focCurrents d n ia ib ic s
  let bad := decide (2048 < (raw.1 + raw.2.1 + raw.2.2).natAbs)
  let cur := if bad then (raw.1, raw.2.1, sat16 (-raw.1 - raw.2.1)) else raw
  let s1 := if bad then recordFault d 0x69 (16 + n) false s else s
  match focState d n s with
  | 2 => s1
  | 3 => focBrakePeriod d n cur s1
  | 4 => focControl d n cur 0 0 (rdS (R.FOC.ALIGN_I d n) s1) 0 s1
  | 5 => focOpenPeriod d n cur s1
  | _ => focRunPeriod d n cur s1

/-- The period of a channel that may work, by its state. -/
theorem execFocPeriod_working {d n ia ib ic : Nat} {s : State} (hn : n < 4) (hr : domainReady d 11 s = true) (h : focMustStop d n s = false) :
    exec (.focPeriod d n ia ib ic) s =
      if focState d n s = 0 then .next (focEnter d n 1 s)
      else if focState d n s = 1 then .next (focOffsetPeriod d n ia ib ic s)
      else if (rd (R.FOC.ILIM_OC d n) s : Int) ≤ (focCurrents d n ia ib ic s).1.natAbs ∨
          (rd (R.FOC.ILIM_OC d n) s : Int) ≤ (focCurrents d n ia ib ic s).2.1.natAbs ∨
          (rd (R.FOC.ILIM_OC d n) s : Int) ≤ (focCurrents d n ia ib ic s).2.2.natAbs then .next (focFault d n n s)
      else .next (focDriven d n ia ib ic s) := by
  refine Eq.trans (b := execFocPeriod d n ia ib ic s) rfl ?_
  unfold execFocPeriod
  rw [if_neg (by rw [hr, decide_eq_false (by omega)]; exact Bool.false_ne_true), if_neg (ne_true_of_eq_false h)]
  rfl

theorem focPeriod_stops {d n ia ib ic : Nat} {s : State} (hn : n < 4) (hr : domainReady d 11 s = true)
    (hen : flag (R.FOC.CTL_EN d n) s = false) : exec (.focPeriod d n ia ib ic) s = .next (focOff d n s) := by
  have hstop : focMustStop d n s = true := by
    unfold focMustStop
    rw [hen]
    simp
  refine Eq.trans (b := execFocPeriod d n ia ib ic s) rfl ?_
  unfold execFocPeriod
  rw [if_neg (by rw [hr, decide_eq_false (by omega)]; exact Bool.false_ne_true), if_pos hstop]

/-- One of the 256 samples of OFFSET. -/
theorem focOf_focOffsetPeriod {d n : Nat} (ia ib ic : Nat) {s : State} (h : (focOf d n s).samples < 255) :
    focOf d n (focOffsetPeriod d n ia ib ic s) =
      { focOf d n s with samples := (focOf d n s).samples + 1, sumU := (focOf d n s).sumU + ia, sumV := (focOf d n s).sumV + ib,
                         sumW := (focOf d n s).sumW + ic } := by
  unfold focOffsetPeriod
  dsimp only
  rw [if_pos (by omega), focOf_setFoc]

/-- The regulators set the duties of the next period and keep the current of the sample. -/
theorem focControl_sets (d n : Nat) (cur : Int × Int × Int) (theta thetaOut : Nat) (idRef iqRef : Int) (s : State) :
    ∃ c : FocCh, c.duties.isSome = true ∧ c.iAlpha = cur.1 ∧ focOf d n (focControl d n cur theta thetaOut idRef iqRef s) = c := by
  have hshow (c : FocCh) (l1 l2 l3 l4 l5 l6 l7 : Loc) (x1 x2 : Int) (x3 x4 x5 x6 : Nat) (b1 b2 : Bool) (p e : Nat) :
      focOf d n (if b1 then evt d p e (if b2 then bump l7 (wr l6 x6 (wr l5 x5 (wr l4 x4 (wr l3 x3 (wrS l2 x2 (wrS l1 x1 (setFoc d n c s)))))))
          else wr l6 x6 (wr l5 x5 (wr l4 x4 (wr l3 x3 (wrS l2 x2 (wrS l1 x1 (setFoc d n c s)))))))
        else if b2 then bump l7 (wr l6 x6 (wr l5 x5 (wr l4 x4 (wr l3 x3 (wrS l2 x2 (wrS l1 x1 (setFoc d n c s)))))))
          else wr l6 x6 (wr l5 x5 (wr l4 x4 (wr l3 x3 (wrS l2 x2 (wrS l1 x1 (setFoc d n c s))))))) = c := by
    have hw (x : State) (hx : Touches 0x1004 (setFoc d n c s) x) : focOf d n x = c := (hx.focOf_eq rfl d n).trans (focOf_setFoc ..)
    have h6 : Touches 0x1004 (setFoc d n c s) (wr l6 x6 (wr l5 x5 (wr l4 x4 (wr l3 x3 (wrS l2 x2 (wrS l1 x1 (setFoc d n c s))))))) :=
      wr_touches rfl (wr_touches rfl (wr_touches rfl (wr_touches rfl (wrS_touches rfl (wrS_touches rfl (.refl _ _))))))
    exact hw _ (touches_ite (evt_touches rfl (touches_ite (bump_touches rfl h6) h6)) (touches_ite (bump_touches rfl h6) h6))
  refine ⟨_, ?_, ?_, Eq.trans (by unfold focControl; rfl) (hshow _ ..)⟩
  · rfl
  · rfl

/-- A word that the speed shown does not stand in. -/
theorem rd_showSpeed {d n o i w : Nat} {v : Int} (s : State) (h : o ≠ 0x144 + 0x80 * n) (h' : o ≠ 0x148 + 0x80 * n) :
    rd ⟨Layout.addr d 0x69 o, i, w⟩ (showSpeed d n v s) = rd ⟨Layout.addr d 0x69 o, i, w⟩ s :=
  (rd_wr_of_apart (apart_page (.inl h)) _ _).trans (rd_wr_of_apart (apart_page (.inl h')) _ _)

theorem focState_showSpeed (d n : Nat) (v : Int) (s : State) : focState d n (showSpeed d n v s) = focState d n s :=
  (rd_wr_of_apart (apart_page (.inr (by decide))) _ _).trans (rd_wr_of_apart (apart_page (.inl (by omega))) _ _)

/-- A period of RUN with a sensor sets the duties (R382). -/
theorem focRunPeriod_sets {d n : Nat} (cur : Int × Int × Int) {s : State} (h : rd (R.FOC.CFG1_SENSE d n) s ≠ 3) :
    ∃ c : FocCh, c.duties.isSome = true ∧ c.iAlpha = cur.1 ∧ focOf d n (focRunPeriod d n cur s) = c := by
  have hsense (v : Int) : rd (R.FOC.CFG1_SENSE d n) (showSpeed d n v s) ≠ 3 := by
    rw [show rd (R.FOC.CFG1_SENSE d n) (showSpeed d n v s) = rd (R.FOC.CFG1_SENSE d n) s from rd_showSpeed s (by omega) (by omega)]
    exact h
  unfold focRunPeriod
  dsimp only
  rw [if_neg (fun hc => hsense _ hc.1)]
  exact focControl_sets ..

theorem focPeriod_run {d n ia ib ic : Nat} {s : State} (hn : n < 4) (hr : domainReady d 11 s = true) (hstop : focMustStop d n s = false)
    (hst : focState d n s = 6)
    (hu : (focCurrents d n ia ib ic s).1.natAbs < rd (R.FOC.ILIM_OC d n) s) (hv : (focCurrents d n ia ib ic s).2.1.natAbs < rd (R.FOC.ILIM_OC d n) s)
    (hw : (focCurrents d n ia ib ic s).2.2.natAbs < rd (R.FOC.ILIM_OC d n) s)
    (hsum : ((focCurrents d n ia ib ic s).1 + (focCurrents d n ia ib ic s).2.1 + (focCurrents d n ia ib ic s).2.2).natAbs ≤ 2048) :
    exec (.focPeriod d n ia ib ic) s = .next (focRunPeriod d n (focCurrents d n ia ib ic s) s) := by
  have hdriven : focDriven d n ia ib ic s = focRunPeriod d n (focCurrents d n ia ib ic s) s := by
    unfold focDriven
    dsimp only
    rw [decide_eq_false (by omega), if_neg Bool.false_ne_true, if_neg Bool.false_ne_true]
    split
    case h_5 => rfl
    all_goals omega
  rw [execFocPeriod_working hn hr hstop, if_neg (by omega), if_neg (by omega), if_neg (by omega), hdriven]

theorem focPeriod_overcurrent {d n ia ib ic : Nat} {s : State} (hn : n < 4) (hr : domainReady d 11 s = true) (hstop : focMustStop d n s = false)
    (hst : focState d n s = 6) (hu : rd (R.FOC.ILIM_OC d n) s ≤ (focCurrents d n ia ib ic s).1.natAbs) :
    exec (.focPeriod d n ia ib ic) s = .next (focFault d n n s) := by
  rw [execFocPeriod_working hn hr hstop, if_neg (by omega), if_neg (by omega), if_pos (.inl (by omega))]

/-! ### Hall sensors (R384) -/

/-- A code of a sector has its three bits. -/
theorem hallSector_lt {code sec : Nat} (h : hallSector code = some sec) : code < 8 := by
  unfold hallSector at h
  split at h <;> first | omega | exact absurd h (by simp)

/-- The rotor turns back: the code before is the next sector's. -/
def hallTurnsBack (old : Option Nat) (sec : Nat) : Bool :=
  match old with
  | some o => decide ((sec + 1) % 6 = o)
  | none => false

theorem hallTurnsBack_iff (old : Option Nat) (sec : Nat) : hallTurnsBack old sec = true ↔ old = some ((sec + 1) % 6) := by
  cases old with
  | none => simp [hallTurnsBack]
  | some o => simp [hallTurnsBack, eq_comm]

/-- What a channel with Hall sensors keeps of a transition to a sector. -/
def hallTaken (d n sec : Nat) (back : Bool) (s : State) : FocCh :=
  { focOf d n s with
    hallAt := some (counterC d s), hallEdge := if back then 10923 * (sec + 1) % 65536 else 10923 * sec, hallBack := back
    hallInterval := counterC d s - (focOf d n s).hallAt.getD (counterC d s) }

theorem exec_hallTransition_sector {d n code sec : Nat} {s : State} (hn : n < 4) (hr : domainReady d 11 s = true)
    (hsense : rd (R.FOC.CFG1_SENSE d n) s = 0) (hsec : hallSector code = some sec) :
    exec (.hallTransition d n code) s = .next (setFoc d n
      (hallTaken d n sec (hallTurnsBack (hallSector (rd (R.FOC.STAT_HALL d n) s)) sec) (wr (R.FOC.STAT_HALL d n) code s))
      (wr (R.FOC.STAT_HALL d n) code s)) := by
  refine Eq.trans (b := execHallTransition d n code s) rfl ?_
  unfold execHallTransition
  rw [if_neg (by rw [hr, decide_eq_false (by omega)]; exact Bool.false_ne_true), hsec, hsense]
  generalize wr (R.FOC.STAT_HALL d n) code s = s0
  generalize hallSector (rd (R.FOC.STAT_HALL d n) s) = old
  dsimp only
  rw [if_neg (by decide)]
  refine congrArg _ ((if_neg ?_).trans (congrArg (setFoc d n · s0) ?_))
  · cases encTheta d n s0 <;> exact Bool.false_ne_true
  · rw [if_neg (show ¬ (0 = 1 ∧ (focOf d n s0).ref.isNone = true) from fun h => absurd h.1 (by decide))]
    cases old <;> rfl

/-- A code of a sector, on a channel with Hall sensors: the transition's time, edge and direction. -/
theorem hallTransition_sector {d n code sec : Nat} {s : State} (hn : n < 4) (hr : domainReady d 11 s = true)
    (hsense : rd (R.FOC.CFG1_SENSE d n) s = 0) (hsec : hallSector code = some sec) :
    ∃ t, exec (.hallTransition d n code) s = .next t ∧ rd (R.FOC.STAT_HALL d n) t = code ∧ (focOf d n t).hallAt.isSome = true ∧
      (hallSector (rd (R.FOC.STAT_HALL d n) s) ≠ some ((sec + 1) % 6) → (focOf d n t).hallEdge = 10923 * sec ∧ (focOf d n t).hallBack = false) ∧
      (hallSector (rd (R.FOC.STAT_HALL d n) s) = some ((sec + 1) % 6) →
        (focOf d n t).hallEdge = 10923 * (sec + 1) % 65536 ∧ (focOf d n t).hallBack = true) := by
  have hcode : rd (R.FOC.STAT_HALL d n) (wr (R.FOC.STAT_HALL d n) code s) = code :=
    (rd_wr_same _ _ (show 8 + 3 ≤ 32 by decide)).trans (Nat.mod_eq_of_lt (hallSector_lt hsec))
  refine ⟨_, exec_hallTransition_sector hn hr hsense hsec, (rd_setFoc ..).trans hcode, ?_⟩
  rw [focOf_setFoc]
  refine ⟨rfl, fun hne => ?_, fun he => ?_⟩
  · rw [Bool.eq_false_iff.mpr (fun h => hne ((hallTurnsBack_iff ..).mp h))]
    exact ⟨rfl, rfl⟩
  · rw [(hallTurnsBack_iff ..).mpr he]
    exact ⟨rfl, rfl⟩

theorem hallTransition_noSector {d n code : Nat} {s : State} (hn : n < 4) (hr : domainReady d 11 s = true)
    (hf : isFenced (.foc d n) s = false) (hsec : hallSector code = none) :
    ∃ t, exec (.hallTransition d n code) s = .next t ∧ UnitId.foc d n ∈ t.fenced ∧ focState d n t = 0 := by
  refine ⟨focFault d n (4 + n) (wr (R.FOC.STAT_HALL d n) code s), ?_, focFault_fences hn ?_⟩
  · refine Eq.trans (b := execHallTransition d n code s) rfl ?_
    unfold execHallTransition
    rw [if_neg (by rw [hr, decide_eq_false (by omega)]; exact Bool.false_ne_true), hsec]
  · exact (Touches.isFenced_eq (m := 0x4) (wr_touches rfl (.refl _ s)) rfl rfl _).trans hf

/-! ### The timed states (R386, R387) -/

theorem catchEnd_forward {d n theta : Nat} {speed vd vq : Int} {s : State} (hn : n < 4) (hst : focState d n s = 2)
    (ht : (focOf d n s).since + 1000000 * rd (R.FOC.CATCH_CFG_TIME d n) s ≤ s.now) (hpos : 0 ≤ speed)
    (hmin : rd (R.FOC.CATCH_MIN_SPEED d n) s ≤ speed.natAbs) (hsense : rd (R.FOC.CFG1_SENSE d n) s ≠ 3) :
    ∃ t, exec (.catchEnd d n speed theta vd vq) s = .next t ∧ focState d n t = 6 ∧ (focOf d n t).intD = vd * 65536 ∧
      (focOf d n t).intQ = vq * 65536 := by
  have hcfg {o i w : Nat} (h : o ≠ 0x144 + 0x80 * n) (h' : o ≠ 0x148 + 0x80 * n) :
      rd ⟨Layout.addr d 0x69 o, i, w⟩ (showSpeed d n speed s) = rd ⟨Layout.addr d 0x69 o, i, w⟩ s := rd_showSpeed s h h'
  obtain ⟨s1, hs1⟩ : ∃ s1, s1 = showSpeed d n speed s := ⟨_, rfl⟩
  rw [← hs1] at hcfg
  have hmin1 : rd (R.FOC.CATCH_MIN_SPEED d n) s1 = rd (R.FOC.CATCH_MIN_SPEED d n) s := hcfg (by omega) (by omega)
  have hsense1 : rd (R.FOC.CFG1_SENSE d n) s1 = rd (R.FOC.CFG1_SENSE d n) s := hcfg (by omega) (by omega)
  refine ⟨focEnter d n 6 (setFoc d n { focOf d n s1 with intD := vd * 65536, intQ := vq * 65536 } s1), ?_, focState_focEnter _ hn (by decide), ?_⟩
  · refine Eq.trans (b := execCatchEnd d n speed theta vd vq s) rfl ?_
    unfold execCatchEnd
    rw [if_neg (by omega), ← hs1]
    dsimp only
    rw [if_neg (by omega), if_pos hpos, if_neg (fun h => hsense (hsense1 ▸ h.1))]
  · rw [focOf_focEnter, focOf_setFoc]
    exact ⟨rfl, rfl⟩

theorem catchEnd_back {d n theta : Nat} {speed vd vq : Int} {s : State} (hn : n < 4) (hst : focState d n s = 2)
    (ht : (focOf d n s).since + 1000000 * rd (R.FOC.CATCH_CFG_TIME d n) s ≤ s.now) (hneg : speed < 0)
    (hmin : rd (R.FOC.CATCH_MIN_SPEED d n) s ≤ speed.natAbs) (hthr : rd (R.FOC.REV_THR_SPEED d n) s < speed.natAbs) :
    ∃ t, exec (.catchEnd d n speed theta vd vq) s = .next t ∧ focState d n t = 3 := by
  have hcfg {o i w : Nat} (h : o ≠ 0x144 + 0x80 * n) (h' : o ≠ 0x148 + 0x80 * n) :
      rd ⟨Layout.addr d 0x69 o, i, w⟩ (showSpeed d n speed s) = rd ⟨Layout.addr d 0x69 o, i, w⟩ s := rd_showSpeed s h h'
  obtain ⟨s1, hs1⟩ : ∃ s1, s1 = showSpeed d n speed s := ⟨_, rfl⟩
  rw [← hs1] at hcfg
  have hmin1 : rd (R.FOC.CATCH_MIN_SPEED d n) s1 = rd (R.FOC.CATCH_MIN_SPEED d n) s := hcfg (by omega) (by omega)
  have hthr1 : rd (R.FOC.REV_THR_SPEED d n) s1 = rd (R.FOC.REV_THR_SPEED d n) s := hcfg (by omega) (by omega)
  refine ⟨focEnter d n 3 s1, ?_, focState_focEnter _ hn (by decide)⟩
  refine Eq.trans (b := execCatchEnd d n speed theta vd vq s) rfl ?_
  unfold execCatchEnd
  rw [if_neg (by omega), ← hs1]
  dsimp only
  rw [if_neg (by omega), if_neg (by omega), if_neg (by omega)]

theorem alignEnd_goes_on {d n : Nat} {s : State} (hn : n < 4) (hst : focState d n s = 4)
    (ht : (focOf d n s).since + 1000000 * rd (R.FOC.ALIGN_T d n) s ≤ s.now) :
    ∃ t, exec (.alignEnd d n) s = .next t ∧ focState d n t = (if rd (R.FOC.CFG1_SENSE d n) s = 3 then 5 else 6) := by
  by_cases h : rd (R.FOC.CFG1_SENSE d n) s = 3
  · refine ⟨focEnter d n 5 (setFoc d n { focOf d n s with rampAngle := 0, rampSpeed := 0 } s), ?_, ?_⟩
    · refine Eq.trans (b := execAlignEnd d n s) rfl ?_
      unfold execAlignEnd
      rw [if_neg (by omega), if_pos h]
    · rw [if_pos h, focState_focEnter _ hn (by decide)]
  · refine ⟨focEnter d n 6 (setFoc d n { focOf d n s with ref := some ((counterOf d (rd (R.FOC.CFG1_COUNTER d n) s) s).count, 0) } s), ?_, ?_⟩
    · refine Eq.trans (b := execAlignEnd d n s) rfl ?_
      unfold execAlignEnd
      rw [if_neg (by omega), if_neg h]
    · rw [if_neg h, focState_focEnter _ hn (by decide)]

theorem brakeTimeout_fences {d n : Nat} {s : State} (hn : n < 4) (hst : focState d n s = 3)
    (ht : (focOf d n s).since + 1000000 * rd (R.FOC.CATCH_CFG_BRAKE_TMO d n) s ≤ s.now) (hf : isFenced (.foc d n) s = false) :
    ∃ t, exec (.brakeTimeout d n) s = .next t ∧ UnitId.foc d n ∈ t.fenced ∧ focState d n t = 0 :=
  ⟨focFault d n (8 + n) s, Eq.trans (b := execBrakeTimeout d n s) rfl (if_neg (by omega)), focFault_fences hn hf⟩

/-- CTL.UNFENCE of a fenced channel (R493). -/
theorem focWrite_unfence {a : Access} {d n : Nat} {v : Word} {s : State} (hn : n < 4) (hf : isFenced (.foc d n) s = true)
    (hv : testBit v.toNat 1 = true) : focWrite (RegWrite.of a d 0x69 (0x140 + 0x80 * n) v) s = unfence d 0x69 (.foc d n) s := by
  have hidx : (0x140 + 0x80 * n - 0x100) / 0x80 = n := by omega
  have hc : (0x140 + 0x80 * n - 0x100) % 0x80 = 0x40 := by omega
  unfold focWrite
  simp only [RegWrite.of_o, RegWrite.of_d, RegWrite.of_e, hidx, hc]
  rw [if_neg (by omega), if_neg (by decide), if_pos trivial, if_pos hf, if_pos hv]

/-- Settles O35: the period by the state that the channel works in, a Hall code by its sector, and what the timed states end
in; a fault of class U fences the channel and turns its bridge off. -/
theorem motorCommandsAct : Obligations.MotorCommandsAct := by
  unfold Obligations.MotorCommandsAct
  refine ⟨fun d n ia ib ic s hn hr hf hbus hen htrip hst => ?_, fun d n ia ib ic s hn hr hen _ => ?_,
    fun d n ia ib ic s hn hr hf hbus hen htrip hst hfew => ?_,
    fun d n ia ib ic s hn hr hf hbus hen htrip hst hsense hu hv hw hsum => ?_,
    fun d n ia ib ic s hn hr hf hbus hen htrip hst hu => ?_,
    fun d n code sec s hn hr hsense hsec => hallTransition_sector hn hr hsense hsec,
    fun d n code s hn hr hf hsec => hallTransition_noSector hn hr hf hsec,
    fun d n theta speed vd vq s hn hst ht hpos hmin hsense => catchEnd_forward hn hst ht hpos hmin hsense,
    fun d n theta speed vd vq s hn hst ht hneg hmin hthr => catchEnd_back hn hst ht hneg hmin hthr,
    fun d n s hn hst ht => alignEnd_goes_on hn hst ht, fun d n s hn hst ht hf => brakeTimeout_fences hn hst ht hf,
    fun a d n v s hn hr hf hfault => ?_⟩
  · refine ⟨focEnter d n 1 s, ?_, focState_focEnter s hn (by decide)⟩
    rw [execFocPeriod_working hn hr (focMustStop_of hf hbus hen htrip), if_pos hst]
  · exact ⟨focOff d n s, focPeriod_stops hn hr hen, focState_focOff s hn⟩
  · refine ⟨focOffsetPeriod d n ia ib ic s, ?_, ?_⟩
    · rw [execFocPeriod_working hn hr (focMustStop_of hf hbus hen htrip), if_neg (by omega), if_pos hst]
    · rw [focOf_focOffsetPeriod ia ib ic hfew]
      exact ⟨rfl, rfl, rfl, rfl⟩
  · obtain ⟨c, hduty, halpha, hc⟩ := focRunPeriod_sets (d := d) (n := n) (focCurrents d n ia ib ic s) hsense
    refine ⟨_, focPeriod_run hn hr (focMustStop_of hf hbus hen htrip) hst hu hv hw hsum, ?_⟩
    rw [hc]
    exact ⟨hduty, halpha⟩
  · exact ⟨_, focPeriod_overcurrent hn hr (focMustStop_of hf hbus hen htrip) hst hu, focFault_fences hn hf⟩
  · have hfenced : isFenced (.foc d n) (landWrite a.rq d s) = true := (isFenced_landWrite ..).trans hf
    refine ⟨_, (exec_focUnfence hn hr).trans (congrArg _ (focWrite_unfence hn hfenced (testBit_or_of_set (by decide)))), fun hc => ?_⟩
    exact ((unfence_faultless (s := landWrite a.rq d s) hfault).2.mp hc).2 rfl

end Sys2Proof.Machine
end

section
/-! PROOFS. The commands of the step channels (R362 to R372). -/

namespace Sys2Proof.Machine

theorem Touches.stepOf_eq {m : Nat} {z s : State} (h : Touches m z s) (hm : m.testBit 51 = false) (d n : Nat) : stepOf d n s = stepOf d n z :=
  stepOf_congr d n (h.steps hm)

/-! ### The channel and the registers that show it -/

theorem stepOf_putStep (d n : Nat) (c : StepCh) (s : State) : stepOf d n (putStep d n c s) = c := by
  have hshow : Touches 0x4 (setStep d n c s) (putStep d n c s) := by
    unfold putStep showStep
    exact wr_touches rfl (wr_touches rfl (.refl _ _))
  exact (hshow.stepOf_eq rfl d n).trans (stepOf_setStep ..)

theorem rd_phase_putStep (d n : Nat) (c : StepCh) (s : State) : rd (R.STEP.STAT_PHASE d n) (putStep d n c s) = c.prof.phase % 16 := by
  unfold putStep showStep
  dsimp only
  rw [stepOf_setStep]
  exact (rd_wr_of_apart (apart_page (.inl (by omega))) _ _).trans (rd_wr_same _ _ (show 0 + 4 ≤ 32 by decide))

theorem rd_step_evt {d o i w b : Nat} (s : State) (h : 0x40 ≤ o ∧ o < 0x1000) :
    rd ⟨Layout.addr d 0x68 o, i, w⟩ (evt d 0x68 b s) = rd ⟨Layout.addr d 0x68 o, i, w⟩ s :=
  rd_evt_block (p := 0x68) (blockWord_addr (by decide) h.2 (.inr ⟨by decide, by decide, by decide, h.1⟩)) (by decide)

/-- The end of a move: the channel is at rest, with the result and the event (R363). -/
theorem stepEnd_ends {d n r : Nat} (s : State) (hn : n < 8) (hr : r < 8) :
    (stepOf d n (stepEnd d n r s)).prof = {} ∧ rd (R.STEP.STAT_RESULT d n) (stepEnd d n r s) = r ∧
      testBit (word (R.HDR.EVT_STAT_EVT d 0x68).addr (stepEnd d n r s)).toNat n = true := by
  unfold stepEnd
  dsimp only
  refine ⟨?_, ?_, testBit_evt d 0x68 n _ (by omega) (notPba_addr (by decide) (by decide))⟩
  · rw [Touches.stepOf_eq (m := 0x1004) (evt_touches rfl (wr_touches rfl (wr_touches rfl (.refl _ _)))) rfl, stepOf_putStep]
  · refine (rd_step_evt _ (by omega)).trans ((rd_wr_of_apart (apart_page (.inr (by decide))) _ _).trans ?_)
    exact (rd_wr_same _ _ (show 8 + 3 ≤ 32 by decide)).trans (Nat.mod_eq_of_lt hr)

/-- IHOLD is reached: the hold current is shown, with its event (R372). -/
theorem stepHolding_holds {d n : Nat} (s : State) (hn : n < 8) :
    (stepOf d n (stepHolding d n s)).ended = none ∧ flag (R.STEP.STAT_HOLDING d n) (stepHolding d n s) = true ∧
      testBit (word (R.HDR.EVT_STAT_EVT d 0x68).addr (stepHolding d n s)).toNat (16 + n) = true := by
  unfold stepHolding
  dsimp only
  refine ⟨?_, ?_, testBit_evt d 0x68 (16 + n) _ (by omega) (notPba_addr (by decide) (by decide))⟩
  · rw [Touches.stepOf_eq (m := 0x1004) (evt_touches rfl (wr_touches rfl (.refl _ _))) rfl, stepOf_setStep]
  · exact (congrArg (· != 0) (rd_step_evt _ (by omega))).trans (flag_wr_one _ (show 6 + 1 ≤ 32 by decide) rfl)

/-! ### The commands of CTL (R362 to R364, R371) -/

/-- The commands of a write to CTL with one of the bits GO, STOP and QSTOP. -/
theorem stepWord {v c : Word} {a0 a1 a2 : Bool} (h0 : testBit v.toNat 0 = false ∨ testBit c.toNat 0 = true)
    (h1 : testBit v.toNat 1 = false ∨ testBit c.toNat 1 = true) (h2 : testBit v.toNat 2 = false ∨ testBit c.toNat 2 = true)
    (hc0 : testBit c.toNat 0 = a0) (hc1 : testBit c.toNat 1 = a1) (hc2 : testBit c.toNat 2 = a2) :
    (v ||| c).toNat % 8 = b2n a0 + 2 * b2n a1 + 4 * b2n a2 := by
  have hbit (i : Nat) (a : Bool) (h : testBit v.toNat i = false ∨ testBit c.toNat i = true) (hc : testBit c.toNat i = a) :
      (v ||| c).toNat / 2 ^ i % 2 = b2n a := by
    have hor : testBit (v ||| c).toNat i = a := by
      rw [or_bit, hc]
      rcases h with h | h
      · rw [h, Bool.false_or]
      · rw [← hc, h, Bool.or_true]
    unfold testBit at hor
    cases a with
    | false =>
      have := beq_eq_false_iff_ne.mp hor
      show _ = 0
      omega
    | true => exact beq_iff_eq.mp hor
  have e0 := hbit 0 a0 h0 hc0
  have e1 := hbit 1 a1 h1 hc1
  have e2 := hbit 2 a2 h2 hc2
  omega

theorem stepCtl_go (d n : Nat) (s : State) :
    stepCtl d n 1 s = if stepMayStart d n s then stepBegin d n (rdS (R.STEP.TARGET_POS d n) s) s else stepRefuse d n s := by
  unfold stepCtl
  dsimp only
  rw [if_neg (show ¬ testBit 1 2 = true by decide), if_neg (show ¬ testBit 1 1 = true by decide), if_pos (show testBit 1 0 = true by decide)]
  by_cases h : stepMayStart d n s = true
  · rw [if_pos h, if_pos ⟨by decide, h⟩]
  · rw [if_neg h, if_neg (fun hc => h hc.2)]

theorem stepCtl_stop (d n : Nat) (s : State) : stepCtl d n 2 s = stepStop d n s := by
  unfold stepCtl
  dsimp only
  rw [if_neg (show ¬ testBit 2 2 = true by decide), if_pos (show testBit 2 1 = true by decide), if_neg (show ¬ testBit 2 0 = true by decide)]

theorem stepCtl_qstop (d n : Nat) (s : State) : stepCtl d n 4 s = stepQstop d n s := by
  unfold stepCtl
  dsimp only
  rw [if_pos (show testBit 4 2 = true by decide), if_neg (show ¬ testBit 4 1 = true by decide), if_neg (show ¬ testBit 4 0 = true by decide)]

theorem stepMayStart_of {d n : Nat} {s : State} (hf : isFenced (.step d n) s = false) (hp : (stepOf d n s).prof.phase = 0)
    (hv : rd (R.STEP.VMAX_V d n) s ≠ 0) (ha : rd (R.STEP.AMAX_A d n) s ≠ 0) (hj : rd (R.STEP.JMAX_J d n) s ≠ 0) : stepMayStart d n s = true := by
  unfold stepMayStart stepPhase
  rw [hf, hp, bne_iff_ne.mpr hv, bne_iff_ne.mpr ha, bne_iff_ne.mpr hj]
  rfl

theorem stepBegin_begins {d n : Nat} {x : Int} {s : State} (h : x ≠ rdS (R.STEP.POS_POS d n) s) :
    (stepOf d n (stepBegin d n x s)).prof = { phase := 1 } ∧
      (stepOf d n (stepBegin d n x s)).len = (x - rdS (R.STEP.POS_POS d n) s).natAbs ∧
      (stepOf d n (stepBegin d n x s)).down = decide (x < rdS (R.STEP.POS_POS d n) s) ∧
      rd (R.STEP.STAT_PHASE d n) (stepBegin d n x s) = 1 := by
  unfold stepBegin
  dsimp only
  rw [if_neg h, stepOf_putStep, rd_phase_putStep]
  exact ⟨rfl, rfl, rfl, rfl⟩

theorem stepBegin_there {d n : Nat} {x : Int} {s : State} (hn : n < 8) (h : x = rdS (R.STEP.POS_POS d n) s) :
    (stepOf d n (stepBegin d n x s)).prof = {} ∧ rd (R.STEP.STAT_RESULT d n) (stepBegin d n x s) = 0 ∧
      testBit (word (R.HDR.EVT_STAT_EVT d 0x68).addr (stepBegin d n x s)).toNat n = true := by
  unfold stepBegin
  dsimp only
  rw [if_pos h]
  exact stepEnd_ends _ hn (by decide)

theorem stepStop_brakes {d n : Nat} {s : State} (hlo : 2 ≤ (stepOf d n s).prof.phase) (hhi : (stepOf d n s).prof.phase ≤ 6) :
    (stepOf d n (stepStop d n s)).prof = (stepOf d n s).prof.brake ∧ (stepOf d n (stepStop d n s)).abandoned = true := by
  unfold stepStop
  dsimp only
  rw [if_neg (by omega), if_pos ⟨hlo, hhi⟩, stepOf_putStep]
  exact ⟨if_pos ⟨hlo, hhi⟩, rfl⟩

theorem stepStop_waiting {d n : Nat} {s : State} (h : (stepOf d n s).prof.phase = 1) : stepStop d n s = stepEnd d n 1 s := if_pos h

theorem stepQstop_waiting {d n : Nat} {s : State} (h : (stepOf d n s).prof.phase = 1) : stepQstop d n s = stepEnd d n 2 s := if_pos h

theorem stepQstop_brakes {d n : Nat} {s : State} (hlo : 2 ≤ (stepOf d n s).prof.phase) (hhi : (stepOf d n s).prof.phase ≤ 10) :
    (stepOf d n (stepQstop d n s)).prof.phase = 11 ∧ (stepOf d n (stepQstop d n s)).prof.al = stepQ d n s ∧
      (stepOf d n (stepQstop d n s)).abandoned = true := by
  unfold stepQstop
  dsimp only
  rw [if_neg (by omega), if_neg (by omega), stepOf_putStep]
  dsimp only
  unfold Profile.quickStop
  rw [if_pos ⟨hlo, hhi⟩]
  exact ⟨rfl, rfl, rfl⟩

/-! ### A tick of the generator (R365 to R369) -/

theorem stepAdvance_moving {d n : Nat} {s : State} (hlo : 2 ≤ (stepOf d n s).prof.phase) (hne : (stepOf d n s).prof.phase ≠ 10) :
    stepAdvance d n s = (stepOf d n s).prof.takeTick (stepV d n s) (stepA d n s) (stepJ d n s) ((stepOf d n s).len * 4294967296) := by
  unfold stepAdvance
  dsimp only
  rw [if_neg hne, if_neg (by omega)]

/-- What a tick does with the profile that it takes up. -/
theorem exec_stepProfileTick {d n : Nat} {s : State} (hup : blockUp d 0x68 s = true) (hf : isFenced (.step d n) s = false)
    (hlo : 2 ≤ (stepOf d n s).prof.phase) (hend : (stepOf d n s).ending = none) {p : Bool × Profile} (hp : stepAdvance d n s = p) :
    ∃ s1, exec (.stepProfileTick d n) s =
      (if p.2.phase = 10 ∧ (stepOf d n s).abandoned then .next (stepFinish d n (if (stepOf d n s).prof.phase = 11 then 2 else 1)
          (putStep d n { stepOf d n s with prof := p.2, due := stepDue d n (stepOf d n s) (stepOf d n s).prof.q p.2.q s } s1))
      else if p.2.phase = 10 ∧ p.2.q = (stepOf d n s).len * 4294967296 then .next (stepFinish d n 0
          (putStep d n { stepOf d n s with prof := p.2, due := stepDue d n (stepOf d n s) (stepOf d n s).prof.q p.2.q s } s1))
      else .next (putStep d n { stepOf d n s with prof := p.2, due := stepDue d n (stepOf d n s) (stepOf d n s).prof.q p.2.q s } s1)) := by
  have hgo : ¬ (!blockUp d 0x68 s || isFenced (.step d n) s || (stepOf d n s).prof.phase == 0 || (stepOf d n s).ending.isSome) = true := by
    rw [hup, hf, hend, beq_eq_false_iff_ne.mpr (by omega)]
    exact Bool.false_ne_true
  refine ⟨onlyIf p.1 (fun s => wr (R.STEP.STAT_LIM_PEND d n) 1 (bump (R.STEP.CNT_DEFERRED d n) s)) s, ?_⟩
  refine Eq.trans (b := execStepProfileTick d n s) rfl ?_
  unfold execStepProfileTick
  dsimp only
  rw [if_neg hgo, if_neg (by omega), hp]

theorem stepProfileTick_moves {d n : Nat} {s : State} (hup : blockUp d 0x68 s = true) (hf : isFenced (.step d n) s = false)
    (hlo : 2 ≤ (stepOf d n s).prof.phase) (hne : (stepOf d n s).prof.phase ≠ 10) (hend : (stepOf d n s).ending = none)
    (hp : ((stepOf d n s).prof.takeTick (stepV d n s) (stepA d n s) (stepJ d n s) ((stepOf d n s).len * 4294967296)).2.phase ≠ 10) :
    ∃ t, exec (.stepProfileTick d n) s = .next t ∧
      (stepOf d n t).prof =
        ((stepOf d n s).prof.takeTick (stepV d n s) (stepA d n s) (stepJ d n s) ((stepOf d n s).len * 4294967296)).2 ∧
      (stepOf d n t).due = stepDue d n (stepOf d n s) (stepOf d n s).prof.q (stepOf d n t).prof.q s ∧
      rd (R.STEP.STAT_PHASE d n) t = (stepOf d n t).prof.phase % 16 := by
  obtain ⟨s1, hexec⟩ := exec_stepProfileTick hup hf hlo hend (stepAdvance_moving hlo hne)
  generalize (stepOf d n s).prof.takeTick (stepV d n s) (stepA d n s) (stepJ d n s) ((stepOf d n s).len * 4294967296) = p at hexec hp ⊢
  refine ⟨_, hexec.trans ((if_neg (fun h => hp h.1)).trans (if_neg (fun h => hp h.1))), ?_⟩
  rw [stepOf_putStep, rd_phase_putStep]
  exact ⟨rfl, rfl, rfl⟩

/-- A profile that does not move makes no step due. -/
theorem stepDue_still {d n : Nat} {c : StepCh} (q : Nat) (s : State) (h : c.due = []) : stepDue d n c q q s = [] := by
  have hnone : stepTimes s.now q q = [] := by
    unfold stepTimes
    rw [Nat.sub_self (q / 4294967296)]
    rfl
  unfold stepDue
  rw [h, hnone]
  rfl

theorem stepProfileTick_finishes {d n : Nat} {s : State} (hn : n < 8) (hup : blockUp d 0x68 s = true) (hf : isFenced (.step d n) s = false)
    (hphase : (stepOf d n s).prof.phase = 10) (hab : (stepOf d n s).abandoned = false) (hend : (stepOf d n s).ending = none)
    (hdue : (stepOf d n s).due = []) (hq : (stepOf d n s).prof.q = (stepOf d n s).len * 4294967296) :
    ∃ t, exec (.stepProfileTick d n) s = .next t ∧ (stepOf d n t).prof = {} ∧ rd (R.STEP.STAT_RESULT d n) t = 0 ∧
      testBit (word (R.HDR.EVT_STAT_EVT d 0x68).addr t).toNat n = true := by
  have hp : stepAdvance d n s = (false, (stepOf d n s).prof) := by
    have hmin (x : Nat) : Nat.min (stepOf d n s).prof.q ((stepOf d n s).prof.q + x) = (stepOf d n s).prof.q :=
      Nat.min_eq_left (Nat.le_add_right ..)
    unfold stepAdvance
    dsimp only
    rw [if_pos hphase, ← hq, hmin]
  obtain ⟨s1, hexec⟩ := exec_stepProfileTick hup hf (by omega) hend hp
  rw [stepDue_still _ s hdue] at hexec
  generalize hc : putStep d n { stepOf d n s with prof := (false, (stepOf d n s).prof).2, due := [] } s1 = s2 at hexec
  have hfinish : stepFinish d n 0 s2 = stepEnd d n 0 s2 := by
    unfold stepFinish
    rw [← hc, stepOf_putStep]
    exact if_pos rfl
  refine ⟨_, hexec.trans ((if_neg (fun h => ne_true_of_eq_false hab h.2)).trans ((if_pos ⟨hphase, hq⟩).trans (congrArg _ hfinish))), ?_⟩
  exact stepEnd_ends s2 hn (by decide)

/-- A step that is due leaves at its time (R366). -/
theorem stepIssue_issues {d n u : Nat} {rest : List Nat} {s : State} (hdue : (stepOf d n s).due = u :: rest) (hu : u ≤ s.now)
    (hend : (stepOf d n s).ending = none) :
    (stepIssue d n s).sent = .step d n u (!(stepOf d n s).down) :: s.sent ∧ (stepOf d n (stepIssue d n s)).due = rest ∧
      rd (R.STEP.POS_POS d n) (stepIssue d n s) =
        ofSigned 32 (if (stepOf d n s).down then rdS (R.STEP.POS_POS d n) s - 1 else rdS (R.STEP.POS_POS d n) s + 1) := by
  obtain ⟨x, hx⟩ : ∃ x : Int, x = if (stepOf d n s).down then rdS (R.STEP.POS_POS d n) s - 1 else rdS (R.STEP.POS_POS d n) s + 1 := ⟨_, rfl⟩
  have hissue : stepIssue d n s = wrS (R.STEP.POS_POS d n) x (setStep d n { stepOf d n s with due := rest, lastStep := some u }
      { s with sent := .step d n u (!(stepOf d n s).down) :: s.sent }) := by
    unfold stepIssue
    dsimp only
    rw [hdue]
    dsimp only
    rw [if_neg (by omega), ← hx, hend]
    cases rest <;> rfl
  generalize hz : setStep d n { stepOf d n s with due := rest, lastStep := some u }
    { s with sent := .step d n u (!(stepOf d n s).down) :: s.sent } = z at hissue
  rw [← hx, hissue]
  refine ⟨?_, ?_, ?_⟩
  · rw [Touches.sent (m := 0x4) (wrS_touches rfl (.refl _ z)) rfl, ← hz]
    rfl
  · rw [Touches.stepOf_eq (m := 0x4) (wrS_touches rfl (.refl _ z)) rfl, ← hz, stepOf_setStep]
  · refine (rd_wr_same _ _ (show 0 + 32 ≤ 32 by decide)).trans (Nat.mod_eq_of_lt ?_)
    have := Int.emod_lt_of_pos x (show (0 : Int) < ((2 ^ 32 : Nat) : Int) by decide)
    show (x % ((2 ^ 32 : Nat) : Int)).toNat < 2 ^ 32
    omega

/-! ### The hold current (R372) -/

theorem stepHoldDelay_holds {d n e : Nat} {s : State} (hn : n < 8) (he : (stepOf d n s).ended = some e) (hr : (stepOf d n s).ramping = false)
    (hp : (stepOf d n s).prof.phase = 0) (ht : e + 1000000 * rd (R.STEP.HOLD_CFG_DELAY d n) s ≤ s.now) :
    ∃ t, exec (.stepHoldDelay d n) s = .next t ∧
      (rd (R.STEP.HOLD_CFG_RAMP d n) s ≠ 0 → (stepOf d n t).ramping = true) ∧
      (rd (R.STEP.HOLD_CFG_RAMP d n) s = 0 → (stepOf d n t).ended = none ∧ flag (R.STEP.STAT_HOLDING d n) t = true ∧
        testBit (word (R.HDR.EVT_STAT_EVT d 0x68).addr t).toNat (16 + n) = true) := by
  have hexec : exec (.stepHoldDelay d n) s = if rd (R.STEP.HOLD_CFG_RAMP d n) s = 0 then .next (stepHolding d n s)
      else .next (setStep d n { stepOf d n s with ramping := true } s) := by
    refine Eq.trans (b := execStepHoldDelay d n s) rfl ?_
    unfold execStepHoldDelay
    dsimp only
    rw [he]
    dsimp only
    rw [if_neg (not_or.mpr ⟨ne_true_of_eq_false hr, not_or.mpr ⟨not_not.mpr hp, by omega⟩⟩)]
  by_cases h : rd (R.STEP.HOLD_CFG_RAMP d n) s = 0
  · exact ⟨stepHolding d n s, hexec.trans (if_pos h), fun hne => absurd h hne, fun _ => stepHolding_holds s hn⟩
  · refine ⟨setStep d n { stepOf d n s with ramping := true } s, hexec.trans (if_neg h), fun _ => ?_, fun hz => absurd hz h⟩
    rw [stepOf_setStep]

theorem stepHoldReached_holds {d n e : Nat} {s : State} (hn : n < 8) (he : (stepOf d n s).ended = some e) (hr : (stepOf d n s).ramping = true)
    (hp : (stepOf d n s).prof.phase = 0)
    (ht : e + 1000000 * (rd (R.STEP.HOLD_CFG_DELAY d n) s + rd (R.STEP.HOLD_CFG_RAMP d n) s) ≤ s.now) :
    ∃ t, exec (.stepHoldReached d n) s = .next t ∧ (stepOf d n t).ended = none ∧ flag (R.STEP.STAT_HOLDING d n) t = true ∧
      testBit (word (R.HDR.EVT_STAT_EVT d 0x68).addr t).toNat (16 + n) = true := by
  refine ⟨stepHolding d n s, ?_, stepHolding_holds s hn⟩
  refine Eq.trans (b := execStepHoldReached d n s) rfl ?_
  unfold execStepHoldReached
  dsimp only
  rw [he]
  dsimp only
  rw [if_neg (by rw [hr, decide_eq_false (not_not.mpr hp), decide_eq_false (by omega)]; exact Bool.false_ne_true)]

/-- Settles O34: the commands of CTL by the bit each sets, a tick by the profile that it takes up, and the issue of a due
step. -/
theorem stepCommandsAct : Obligations.StepCommandsAct := by
  have hland (a : Access) (d n : Nat) (s : State) (h : isFenced (.step d n) s = false) : ¬ isFenced (.step d n) (landWrite a.rq d s) = true :=
    ne_true_of_eq_false ((isFenced_landWrite ..).trans h)
  unfold Obligations.StepCommandsAct
  refine ⟨fun a d n v s hn hr h1 h2 hf hp hv ha hj hne => ?_, fun a d n v s hn hr h1 h2 hf hp hv ha hj he => ?_,
    fun a d n v s hn hr h0 h2 hf hlo hhi => ?_, fun a d n v s hn hr h0 h2 hf hp => ?_, fun a d n v s hn hr h0 h1 hf hlo hhi => ?_,
    fun a d n v s hn hr h0 h1 hf hp => ?_, fun a d n v s hn hr hf hfault => ?_,
    fun d n s hup hf hlo hne hend hp => stepProfileTick_moves hup hf hlo hne hend hp,
    fun d n u rest s hdue hu hend => stepIssue_issues hdue hu hend,
    fun d n s hn hup hf hp hab hend hdue hq => stepProfileTick_finishes hn hup hf hp hab hend hdue hq,
    fun d n e s hn he hr hp ht => stepHoldDelay_holds hn he hr hp ht, fun d n e s hn he hr hp ht => stepHoldReached_holds hn he hr hp ht⟩
  · have hw : (v ||| 1).toNat % 8 = 1 := stepWord (.inr (by decide)) (.inl h1) (.inl h2) rfl rfl rfl
    have hmay : stepMayStart d n (landWrite a.rq d s) = true := stepMayStart_of (s := landWrite a.rq d s) ((isFenced_landWrite ..).trans hf) hp hv ha hj
    refine ⟨_, (exec_stepGo hn hr).trans (congrArg _ ((if_neg (hland a d n s hf)).trans ?_)), stepBegin_begins (s := landWrite a.rq d s) hne⟩
    rw [hw, stepCtl_go, if_pos hmay]
    rfl
  · have hw : (v ||| 1).toNat % 8 = 1 := stepWord (.inr (by decide)) (.inl h1) (.inl h2) rfl rfl rfl
    have hmay : stepMayStart d n (landWrite a.rq d s) = true := stepMayStart_of (s := landWrite a.rq d s) ((isFenced_landWrite ..).trans hf) hp hv ha hj
    refine ⟨_, (exec_stepGo hn hr).trans (congrArg _ ((if_neg (hland a d n s hf)).trans ?_)), stepBegin_there (s := landWrite a.rq d s) hn he⟩
    rw [hw, stepCtl_go, if_pos hmay]
    rfl
  · have hw : (v ||| 2).toNat % 8 = 2 := stepWord (.inl h0) (.inr (by decide)) (.inl h2) rfl rfl rfl
    refine ⟨_, (exec_stepStop hn hr).trans (congrArg _ ((if_neg (hland a d n s hf)).trans ?_)), stepStop_brakes (s := landWrite a.rq d s) hlo hhi⟩
    rw [hw, stepCtl_stop]
  · have hw : (v ||| 2).toNat % 8 = 2 := stepWord (.inl h0) (.inr (by decide)) (.inl h2) rfl rfl rfl
    refine ⟨_, (exec_stepStop hn hr).trans (congrArg _ ((if_neg (hland a d n s hf)).trans ?_)), stepEnd_ends (landWrite a.rq d s) hn (by decide)⟩
    rw [hw, stepCtl_stop, stepStop_waiting (s := landWrite a.rq d s) hp]
  · have hw : (v ||| 4).toNat % 8 = 4 := stepWord (.inl h0) (.inl h1) (.inr (by decide)) rfl rfl rfl
    refine ⟨_, (exec_stepQstop hn hr).trans (congrArg _ ((if_neg (hland a d n s hf)).trans ?_)), stepQstop_brakes (s := landWrite a.rq d s) hlo hhi⟩
    rw [hw, stepCtl_qstop]
  · have hw : (v ||| 4).toNat % 8 = 4 := stepWord (.inl h0) (.inl h1) (.inr (by decide)) rfl rfl rfl
    refine ⟨_, (exec_stepQstop hn hr).trans (congrArg _ ((if_neg (hland a d n s hf)).trans ?_)), stepEnd_ends (landWrite a.rq d s) hn (by decide)⟩
    rw [hw, stepCtl_qstop, stepQstop_waiting (s := landWrite a.rq d s) hp]
  · refine ⟨_, (exec_stepUnfence hn hr).trans (congrArg _ ((if_pos ((isFenced_landWrite ..).trans hf)).trans (if_pos (testBit_or_of_set (by decide))))), fun hc => ?_⟩
    exact ((unfence_faultless (s := landWrite a.rq d s) hfault).2.mp hc).2 rfl

end Sys2Proof.Machine
end

section
/-! PROOFS. The commands of the medium paths (R346 to R353). -/

namespace Sys2Proof.Machine

/-! ### What the stations of a path do to the registers of CUE -/

/-- A word of a path's block: the path's own registers of CUE. -/
theorem rd_cue_releaseHold {d o i w : Nat} (k : Nat) (s : State) (h : 0x40 ≤ o ∧ o < 0x1000) :
    rd ⟨Layout.addr d 0x60 o, i, w⟩ (releaseHold k s) = rd ⟨Layout.addr d 0x60 o, i, w⟩ s := by
  have hstim : 0x60 ≠ stimPage (stLoc k) := by unfold stimPage stLoc; omega
  have hshl : ∀ x < 0x1000, Layout.addr d 0x60 o ≠ Layout.addr (stDie k) (shlPage (stLoc k)) x := fun x hx =>
    addr_ne (by decide) h.2 (shlPage_bounds k).2 hx (.inr (.inl (by unfold shlPage stLoc; omega)))
  have hrun (x : State) : rd ⟨Layout.addr d 0x60 o, i, w⟩ (enterRun k x) = rd ⟨Layout.addr d 0x60 o, i, w⟩ x := by
    refine (rd_sendLintab k _ hshl).trans ((rd_evt_block ?_ (stationPages_lt k).2.1).trans ?_)
    · exact blockWord_addr (by decide) h.2 (.inr ⟨by decide, by decide, by decide, h.1⟩)
    · exact (rd_wr_of_apart (apart_stim k ⟨by decide, h.2⟩ (by decide) hstim) _ _).trans (rd_setSta ..)
  unfold releaseHold
  split
  · dsimp only
    rw [hrun]
    split
    · exact (rd_wr_of_apart (apart_stim k ⟨by decide, h.2⟩ (by decide) hstim) _ _).trans (rd_setSta ..)
    · exact rd_setSta ..
  · rfl

theorem rd_cue_evt {d o i w b : Nat} (s : State) (h : 0x40 ≤ o ∧ o < 0x1000) :
    rd ⟨Layout.addr d 0x60 o, i, w⟩ (evt d 0x60 b s) = rd ⟨Layout.addr d 0x60 o, i, w⟩ s :=
  rd_evt_block (p := 0x60) (blockWord_addr (by decide) h.2 (.inr ⟨by decide, by decide, by decide, h.1⟩)) (by decide)

theorem rd_cue_releaseHolds {d o i w : Nat} (l : List Nat) (s : State) (h : 0x40 ≤ o ∧ o < 0x1000) :
    rd ⟨Layout.addr d 0x60 o, i, w⟩ (l.foldl (fun s k => releaseHold k s) s) = rd ⟨Layout.addr d 0x60 o, i, w⟩ s :=
  foldl_unchanged fun k _ t => rd_cue_releaseHold k t h

/-- A held start event stays pending: nothing that the paths show changes. -/
theorem rd_path_dropDue {o i w : Nat} (k : Nat) (s : State) (h : 0x300 ≤ o ∧ o < 0x1000) :
    rd ⟨Layout.addr 0 0x60 o, i, w⟩ (dropDue k s) = rd ⟨Layout.addr 0 0x60 o, i, w⟩ s := by
  unfold dropDue
  split
  · have hoff : 0x210 + 0x20 * stLoc k < 0x300 := by unfold stLoc; omega
    exact rd_wr_ne (m := R.CUE.STA_START_PENDING (stDie k) (stLoc k)) _ _
      (addr_ne (by decide) h.2 (by decide) (by omega) (.inr (.inr (by omega))))
  · rfl

/-! ### A path's state (R346) -/

theorem pathState_setPathState {p st : Nat} (s : State) (h : st < 8) : pathState p (setPathState p st s) = st :=
  (rd_wr_same _ _ (show 0 + 3 ≤ 32 by decide)).trans (Nat.mod_eq_of_lt h)

/-- Every other register, and the other fields of STAT, stand when a path changes its state. -/
theorem rd_setPathState {p st d q o i w : Nat} (s : State) (hq : q < 256 ∧ o < 0x1000) (hp : p < 2)
    (h : d ≠ 0 ∨ q ≠ 0x60 ∨ o ≠ 0x314 + 0x40 * p) : rd ⟨Layout.addr d q o, i, w⟩ (setPathState p st s) = rd ⟨Layout.addr d q o, i, w⟩ s :=
  rd_wr_ne (m := R.CUE.PATH_STAT_STATE 0 p) _ _ (addr_ne hq.1 hq.2 (by decide) (by omega) h)

/-- A path enters RUN where no stop waits for it (R521). -/
theorem pathRun_runs {p : Nat} {s : State} (h : s.stopAtRun.contains p = false) : pathRun p s = setPathState p 1 s :=
  if_neg (ne_true_of_eq_false h)

/-- Whether a jam latch is set on a station of a path does not depend on the path's own registers. -/
theorem jammed_congr {p : Nat} {s t : State} (hd : t.dies = s.dies)
    (h : ∀ {d q o i w}, q < 256 ∧ o < 0x1000 → q ≠ 0x60 ∨ o < 0x300 → rd ⟨Layout.addr d q o, i, w⟩ t = rd ⟨Layout.addr d q o, i, w⟩ s) :
    (pathMembers p t).any (fun k => jamSet k t) = (pathMembers p s).any (fun k => jamSet k s) := by
  have hloc (k : Nat) : stLoc k < 2 := stLoc_lt k
  have hon (k : Nat) : onPath k t = onPath k s := congrArg (· != 0)
    (h ⟨by decide, by have := hloc k; omega⟩ (.inr (by have := hloc k; omega)))
  have hof (k : Nat) : pathOf k t = pathOf k s := h ⟨by decide, by have := hloc k; omega⟩ (.inr (by have := hloc k; omega))
  have hjam (k : Nat) : jamSet k t = jamSet k s := congrArg (testBit · 3)
    (h ⟨by have := hloc k; omega, by decide⟩ (.inl (by have := hloc k; omega)))
  have hmem : pathMembers p t = pathMembers p s := by
    unfold pathMembers stationCount
    rw [hd]
    exact List.filter_congr fun k _ => by rw [hon, hof]
  rw [hmem, funext hjam]

/-! ### EN (R347) -/

theorem regAt_pathCfg (p : Nat) (hp : p < 2) : ∃ r, regAt 0 (0x60 * 0x1000 + (0x300 + 0x40 * p)) = some r ∧
    Layout.rwp 0 1 0 ∈ r.fields ∧ (privMask r == 0) = false := by
  interval_cases p
  · exact ⟨_, rfl, List.mem_cons_self .., rfl⟩
  · exact ⟨_, rfl, List.mem_cons_self .., rfl⟩

/-- The write of PATH_CFG leaves EN as it has it. -/
theorem pathCfg_stored {a : Access} {p : Nat} (v : Word) (s : State) (hp : p < 2)
    (ha : Reaches a 0 0x60 (0x300 + 0x40 * p) s) :
    flag (R.CUE.PATH_CFG_EN 0 p) ((RegWrite.of a 0 0x60 (0x300 + 0x40 * p) v).store (landWrite a.rq 0 s)) = testBit v.toNat 0 := by
  obtain ⟨r, hr, hf, hpriv⟩ := regAt_pathCfg p hp
  rw [testBit_eq_ne_zero]
  exact congrArg (· != 0) (rd_store_rwp hr hf (ha.bar0 hr hpriv) (landWrite a.rq 0 s))

theorem pathEnable_on {p : Nat} {s : State} (hp : p < 2) (hen : flag (R.CUE.PATH_CFG_EN 0 p) s = true) (hst : pathState p s = 0)
    (hstop : s.stopAtRun.contains p = false) :
    pathState p (pathEnable p s) = (if (pathMembers p s).any (fun k => jamSet k s) then 7 else 1) ∧
      flag (R.CUE.PATH_CFG_EN 0 p) (pathEnable p s) = true := by
  have hjam : (pathMembers p (setPathState p 1 s)).any (fun k => jamSet k (setPathState p 1 s)) = (pathMembers p s).any (fun k => jamSet k s) :=
    jammed_congr rfl fun hq h => rd_setPathState s hq hp (.inr (h.imp_right fun h => by omega))
  have hflag (st : Nat) (x : State) : flag (R.CUE.PATH_CFG_EN 0 p) (setPathState p st x) = flag (R.CUE.PATH_CFG_EN 0 p) x :=
    congrArg (· != 0) (rd_setPathState x ⟨by decide, by omega⟩ hp (.inr (.inr (by omega))))
  have hrun : pathState p (setPathState p 1 s) = 1 := pathState_setPathState s (by decide)
  unfold pathEnable
  rw [if_neg (by rw [hen]; decide), if_pos hst, pathRun_runs hstop]
  dsimp only
  rw [hjam]
  by_cases h : (pathMembers p s).any (fun k => jamSet k s) = true
  · rw [if_pos h, if_pos h]
    unfold pathJam
    rw [if_neg (by omega)]
    refine ⟨(rd_cue_evt _ ⟨by omega, by omega⟩).trans (pathState_setPathState _ (by decide)), ?_⟩
    exact (congrArg (· != 0) (rd_cue_evt _ ⟨by omega, by omega⟩)).trans ((hflag ..).trans ((hflag ..).trans hen))
  · rw [if_neg h, if_neg h]
    exact ⟨hrun, (hflag ..).trans hen⟩

theorem pathEnable_off {p : Nat} {s : State} (hp : p < 2) (hen : flag (R.CUE.PATH_CFG_EN 0 p) s = false) :
    pathState p (pathEnable p s) = 0 ∧ flag (R.CUE.PATH_CFG_EN 0 p) (pathEnable p s) = false := by
  unfold pathEnable
  rw [if_pos (by rw [hen]; rfl)]
  split
  · exact ⟨‹_›, hen⟩
  · refine ⟨(rd_cue_releaseHolds _ _ (by omega)).trans (pathState_setPathState s (by decide)), ?_⟩
    refine (congrArg (· != 0) ((rd_cue_releaseHolds _ _ (by omega)).trans ?_)).trans hen
    exact rd_setPathState s ⟨by decide, by omega⟩ hp (.inr (.inr (by omega)))

/-! ### Stops (R348, R349) -/

theorem pathDecel_state {p : Nat} {s : State} (h : pathState p s = 2) : pathState p (pathDecel p s) = 2 ∨ pathState p (pathDecel p s) = 3 := by
  unfold pathDecel
  split
  · exact .inr (pathState_setPathState _ (by decide))
  · exact .inl h

theorem rd_pathDecel {p o i w : Nat} (s : State) (h : o ≠ 0x314 + 0x40 * p ∨ 3 ≤ i) :
    rd ⟨Layout.addr 0 0x60 o, i, w⟩ (pathDecel p s) = rd ⟨Layout.addr 0 0x60 o, i, w⟩ s := by
  unfold pathDecel
  split
  · exact rd_wr_of_apart (apart_page (h.imp_right fun hi => ⟨by decide, .inr hi⟩)) _ _
  · rfl

/-- A stop cause stops a web path that runs. -/
theorem pathCause_stops {p c : Nat} {s : State} (hp : p < 2) (hc : c < 8) (hsheet : pathSheet p s = false)
    (hst : pathState p s = 1 ∨ pathState p s = 6) :
    (pathState p (pathCause p c s) = 2 ∨ pathState p (pathCause p c s) = 3) ∧ rd (R.CUE.PATH_STAT_CAUSE 0 p) (pathCause p c s) = c ∧
      rd (R.CUE.PATH_CNT_STOPS 0 p) (pathCause p c s) = Nat.min (rd (R.CUE.PATH_CNT_STOPS 0 p) s + 1) 65535 := by
  have hgo : ¬ (pathSheet p s = true ∨ (pathState p s ≠ 1 ∧ pathState p s ≠ 6)) :=
    not_or.mpr ⟨ne_true_of_eq_false hsheet, fun h => hst.elim h.1 h.2⟩
  have hfold {o i w : Nat} (h : 0x300 ≤ o ∧ o < 0x1000) (l : List Nat) (x : State) :
      rd ⟨Layout.addr 0 0x60 o, i, w⟩ (l.foldl (fun s k =>
        dropDue k (if timSt k s = 2 then setSta k { staOf k s with stopping := true } s else s)) (evt 0 0x60 5 x)) =
        rd ⟨Layout.addr 0 0x60 o, i, w⟩ x := by
    refine (foldl_unchanged fun k _ t => (rd_path_dropDue k _ h).trans ?_).trans (rd_cue_evt x (by omega))
    split
    · exact rd_setSta ..
    · rfl
  have hstops : rd (R.CUE.PATH_CNT_STOPS 0 p) (bump (R.CUE.PATH_CNT_STOPS 0 p) (wr (R.CUE.PATH_STAT_CAUSE 0 p) c (setPathState p 2 s))) =
      Nat.min (rd (R.CUE.PATH_CNT_STOPS 0 p) s + 1) 65535 := by
    have hkeep : rd (R.CUE.PATH_CNT_STOPS 0 p) (wr (R.CUE.PATH_STAT_CAUSE 0 p) c (setPathState p 2 s)) = rd (R.CUE.PATH_CNT_STOPS 0 p) s :=
      (rd_wr_of_apart (apart_page (.inl (by omega))) _ _).trans (rd_wr_of_apart (apart_page (.inl (by omega))) _ _)
    rw [rd_bump_same _ (show 0 + 16 ≤ 32 by decide), hkeep]
    rfl
  unfold pathCause
  rw [if_neg hgo]
  dsimp only
  refine ⟨pathDecel_state ((hfold (by omega) _ _).trans ?_), ?_, ?_⟩
  · refine (rd_wr_of_apart (apart_page (.inl (by omega))) _ _).trans ((rd_wr_of_apart (apart_page (.inr (by decide))) _ _).trans ?_)
    exact pathState_setPathState s (by decide)
  · refine (rd_pathDecel _ (.inr (by decide))).trans ((hfold (by omega) _ _).trans ?_)
    refine (rd_wr_of_apart (apart_page (.inl (by omega))) _ _).trans ((rd_wr_same _ _ (show 4 + 3 ≤ 32 by decide)).trans (Nat.mod_eq_of_lt hc))
  · exact (rd_pathDecel _ (.inl (by omega))).trans ((hfold (by omega) _ _).trans hstops)

/-! ### Backfeed and jams (R351, R356) -/

theorem pathBackfeed_state (p : Nat) (s : State) : pathState p (pathBackfeed p s) = 5 := pathState_setPathState _ (by decide)

theorem pathClear_clears {p : Nat} {s : State} (hp : p < 2) (hst : pathState p s = 7) (hf : dieFenced (rd (R.CUE.PATH_CFG_MDIE 0 p) s) s = false)
    (hjam : (pathMembers p s).any (fun k => jamSet k s) = false) (hstop : s.stopAtRun.contains p = false) :
    pathState p (pathClear p s) = 1 ∧ testBit (word (R.HDR.EVT_STAT_EVT 0 0x60).addr (pathClear p s)).toNat 7 = true := by
  have hwaits : ((pathMembers p s).foldl (fun s k => releaseHold k s) s).stopAtRun.contains p = false := by
    rw [Touches.stopAtRun (m := 0x18000040000000001004) (foldl_touches (fun _ _ h => releaseHold_touches rfl h) (.refl _ s)) rfl]
    exact hstop
  unfold pathClear
  rw [if_pos ⟨hst, by rw [hf]; rfl, by rw [hjam]; rfl⟩, pathRun_runs hwaits]
  refine ⟨(rd_cue_evt _ (by omega)).trans (pathState_setPathState _ (by decide)), testBit_evt 0 0x60 7 _ (by decide) (notPba_addr (by decide) (by decide))⟩

theorem pathRunup_state {p : Nat} {s : State} (hp : p < 2) (hst : pathState p s = 6) (hstop : s.stopAtRun.contains p = false) :
    pathState p (pathRunup p s) = 6 ∨ pathState p (pathRunup p s) = 1 := by
  unfold pathRunup
  split
  · rw [pathRun_runs hstop]
    exact .inr ((rd_cue_evt _ (by omega)).trans (pathState_setPathState _ (by decide)))
  · exact .inl hst

/-! ### The commands of PATH_CTL -/

theorem pathCtl_one {v c : Word} {p : Nat} (s : State) {x0 x1 x2 : Bool} (h0 : testBit (v ||| c).toNat 0 = x0)
    (h1 : testBit (v ||| c).toNat 1 = x1) (h2 : testBit (v ||| c).toNat 2 = x2) :
    pathCtl p (v ||| c).toNat s = onlyIf x2 (pathClear p) (onlyIf x1 (pathResume p) (onlyIf x0 (pathCause p 4) s)) := by
  unfold pathCtl
  rw [h0, h1, h2]
  rfl

theorem testBit_or_same {v c : Word} {i : Nat} (h : testBit v.toNat i = false) (hc : testBit c.toNat i = false) :
    testBit (v ||| c).toNat i = false := by
  rw [or_bit, h, hc]
  rfl

/-! ### The other commands -/

theorem pathStopCause_stops {p c : Nat} {s : State} (hp : p < 2) (hc : c < 8) (hfind : s.msgs.find? (isCause p) = some (.stopCause p c))
    (hsheet : pathSheet p s = false) (hst : pathState p s = 1 ∨ pathState p s = 6) :
    ∃ t, exec (.pathStopCause p) s = .next t ∧ (pathState p t = 2 ∨ pathState p t = 3) ∧ rd (R.CUE.PATH_STAT_CAUSE 0 p) t = c ∧
      rd (R.CUE.PATH_CNT_STOPS 0 p) t = Nat.min (rd (R.CUE.PATH_CNT_STOPS 0 p) s + 1) 65535 := by
  refine ⟨pathCause p c { s with msgs := s.msgs.erase (.stopCause p c) }, ?_,
    pathCause_stops (s := { s with msgs := s.msgs.erase (.stopCause p c) }) hp hc hsheet hst⟩
  refine Eq.trans (b := execPathStopCause p s) rfl ?_
  unfold execPathStopCause
  rw [takeMsg_some hfind]

theorem pathBackfeedAuto_goes {p : Nat} {s : State} (hp : p < 2) (hst : pathState p s = 4) (hauto : flag (R.CUE.PATH_CFG_AUTO 0 p) s = true)
    (hready : backfeedReady p s = true) : ∃ t, exec (.pathBackfeedAuto p) s = .next t ∧ pathState p t = 5 := by
  refine ⟨pathBackfeed p s, ?_, pathBackfeed_state p s⟩
  refine Eq.trans (b := execPathBackfeedAuto p s) rfl ?_
  unfold execPathBackfeedAuto
  rw [if_neg]
  rw [hauto, hready]
  rintro (h | h | h | h)
  · omega
  · exact h hst
  · exact Bool.false_ne_true h
  · exact Bool.false_ne_true h

theorem pathStandstill_held {p : Nat} {s : State} (hp : p < 2) (hs : (masterLoop p s).s = 0) (hphase : (masterLoop p s).prof.phase = 0)
    (hst : pathState p s = 3) :
    ∃ t, exec (.pathStandstill p) s = .next t ∧ pathState p t = 4 ∧ testBit (word (R.HDR.EVT_STAT_EVT 0 0x60).addr t).toNat 6 = true := by
  refine ⟨evt 0 0x60 6 (setPathState p 4 s), ?_, (rd_cue_evt _ (by omega)).trans (pathState_setPathState s (by decide)),
    testBit_evt 0 0x60 6 _ (by decide) (notPba_addr (by decide) (by decide))⟩
  refine Eq.trans (b := execPathStandstill p s) rfl ?_
  unfold execPathStandstill
  dsimp only
  rw [if_neg (by omega), if_pos hst]

theorem pathStandstill_runup {p : Nat} {s : State} (hp : p < 2) (hs : (masterLoop p s).s = 0) (hphase : (masterLoop p s).prof.phase = 0)
    (hst : pathState p s = 5) (hat : masterAtTarget p s = true) (hstop : s.stopAtRun.contains p = false) :
    ∃ t, exec (.pathStandstill p) s = .next t ∧ (pathState p t = 6 ∨ pathState p t = 1) := by
  refine ⟨pathRunup p (setPathState p 6 s), ?_, pathRunup_state hp (pathState_setPathState s (by decide)) hstop⟩
  refine Eq.trans (b := execPathStandstill p s) rfl ?_
  unfold execPathStandstill
  dsimp only
  rw [if_neg (by omega), if_neg (by omega), if_pos ⟨hst, hat⟩]

theorem rhoBroadcast_shows {p : Nat} {s : State} (hp : p < 2) (hup : blockUp (rd (R.CUE.PATH_CFG_MDIE 0 p) s) 0x70 s = true) :
    ∃ t, exec (.rhoBroadcast p) s = .next t ∧
      rd (R.CUE.PATH_STAT_RHO 0 p) t = (rhoOf ((masterLoop p s).s / unit32) (pathRunOf p s).vrun s).1 % 65536 := by
  have hgo : ¬ (2 ≤ p ∨ (!blockUp (rd (R.CUE.PATH_CFG_MDIE 0 p) s) 0x70 s) = true) := by
    rw [hup]
    exact not_or.mpr ⟨by omega, Bool.false_ne_true⟩
  refine ⟨_, Eq.trans (b := execRhoBroadcast p s) rfl (if_neg hgo), ?_⟩
  exact rd_wr_same _ _ (show 16 + 16 ≤ 32 by decide)

theorem purgeFsnRead_pops {a : Access} {s : State} (h : Answers a 0 0x60 s) :
    ∃ t, exec (.purgeFsnRead a) s = .next t ∧ t.purges = s.purges.drop 1 ∧ t.resp.value.toNat = rd (R.CUE.PURGE_FSN_FSN 0) s := by
  have heffect : readEffect 0 0x60 0x3C0 s = purgePop s := rfl
  have hview : liveView 0 0x60 0x3C0 s = none := rfl
  have hpops : (purgePop s).purges = s.purges.drop 1 := rfl
  refine ⟨_, exec_purgeFsnRead h, ?_, ?_⟩
  · rw [heffect]
    exact hpops
  · rw [hview, toNat_answer, Option.getD_none]
    exact (Nat.mod_eq_of_lt (word _ s).isLt).trans (bitsOf_word _).symm

/-- Settles O33: a path's state after each of its commands; what its stations do leaves the path's own registers. -/
theorem mediumPathCommandsAct : Obligations.MediumPathCommandsAct := by
  unfold Obligations.MediumPathCommandsAct
  refine ⟨fun a p v s hp hr hst hv hstop => ?_, fun a p v s hp hr hv => ?_, fun a p v s hp hr h1 h2 hsheet hst => ?_,
    fun p c s hp hc hfind hsheet hst => pathStopCause_stops hp hc hfind hsheet hst, fun a p v s hp hr h0 h2 hsheet hst => ?_,
    fun a p v s hp hr h0 h1 hst hf hjam hstop => ?_, fun p s hp hst hauto hready => pathBackfeedAuto_goes hp hst hauto hready,
    fun p s hp hs hphase hst => pathStandstill_held hp hs hphase hst,
    fun p s hp hs hphase hst hat hstop => pathStandstill_runup hp hs hphase hst hat hstop, fun p s hp hup => rhoBroadcast_shows hp hup,
    fun a s h => purgeFsnRead_pops h⟩
  · have hen := (pathCfg_stored v s hp hr).trans hv
    have hne {d q o i w : Nat} (hq : q < 256 ∧ o < 0x1000) (h : q ≠ 0x60 ∨ o < 0x300 ∨ 0x310 ≤ o ∧ o < 0x340 ∨ 0x350 ≤ o) :
        rd ⟨Layout.addr d q o, i, w⟩ ((RegWrite.of a 0 0x60 (0x300 + 0x40 * p) v).store (landWrite a.rq 0 s)) = rd ⟨Layout.addr d q o, i, w⟩ s :=
      rd_store_ne (by rw [RegWrite.of_at]; exact addr_ne hq.1 hq.2 (by decide) (by omega) (.inr (by omega)))
    have hstate := (hne (i := 0) (w := 3) (d := 0) (q := 0x60) (o := 0x314 + 0x40 * p) (by omega) (by omega)).trans hst
    have hjam := jammed_congr (p := p) (s := s) (t := (RegWrite.of a 0 0x60 (0x300 + 0x40 * p) v).store (landWrite a.rq 0 s)) rfl
      fun hq h => hne hq (h.imp_right .inl)
    refine ⟨_, exec_pathEnable hp hr, ?_⟩
    rw [← hjam]
    exact pathEnable_on hp hen hstate hstop
  · exact ⟨_, exec_pathEnable hp hr, pathEnable_off hp ((pathCfg_stored v s hp hr).trans hv)⟩
  · refine ⟨_, (exec_pathStop hp hr).trans (congrArg _ (pathCtl_one _ (testBit_or_of_set (by decide)) (testBit_or_same h1 (by decide))
      (testBit_or_same h2 (by decide)))), ?_⟩
    rw [onlyIf_false, onlyIf_false, onlyIf_true]
    exact pathCause_stops (s := landWrite a.rq 0 s) hp (by decide) hsheet hst
  · refine ⟨_, (exec_pathResume hp hr).trans (congrArg _ (pathCtl_one _ (testBit_or_same h0 (by decide)) (testBit_or_of_set (by decide))
      (testBit_or_same h2 (by decide)))), ?_⟩
    rw [onlyIf_false, onlyIf_true, onlyIf_false]
    have hresume : pathResume p (landWrite a.rq 0 s) = pathBackfeed p (landWrite a.rq 0 s) :=
      if_pos ⟨hst, by rw [show pathSheet p (landWrite a.rq 0 s) = false from hsheet]; rfl⟩
    rw [hresume]
    exact pathBackfeed_state ..
  · refine ⟨_, (exec_pathClear hp hr).trans (congrArg _ (pathCtl_one _ (testBit_or_same h0 (by decide)) (testBit_or_same h1 (by decide))
      (testBit_or_of_set (by decide)))), ?_⟩
    rw [onlyIf_true, onlyIf_false, onlyIf_false]
    exact pathClear_clears (s := landWrite a.rq 0 s) hp hst hf hjam hstop

end Sys2Proof.Machine
end

section
/-! PROOFS. The commands of the cue table (R335 to R339, R493). -/

namespace Sys2Proof.Machine

theorem Touches.cueOf_eq {m : Nat} {z s : State} (h : Touches m z s) (hm : m.testBit 43 = false) (d n : Nat) : cueOf d n s = cueOf d n z :=
  cueOf_congr d n (h.cues hm)

/-! ### Words of a table -/

/-- A word above the blocks of its die, in a table. -/
def TableWord (a : Nat) : Prop := 0x100000 ≤ a % 0x1000000 ∧ NotPba a

theorem TableWord.ne {a d p o : Nat} (h : TableWord a) (hp : p < 256) (ho : o < 0x1000) : a ≠ Layout.addr d p o := by
  intro he
  have hmod : a % 0x1000000 = p * 0x1000 + o := by
    rw [he]
    show (d * 0x1000000 + p * 0x1000 + o) % 0x1000000 = _
    omega
  have := h.1
  omega

theorem TableWord.evt {a d p b : Nat} {s : State} (h : TableWord a) (hp : p < 256) : word a (Sys2Proof.Machine.evt d p b s) = word a s :=
  word_evt_ne d p b s h.2 (h.ne hp (by decide))

theorem TableWord.wr {a d p o i w v : Nat} {s : State} (h : TableWord a) (hp : p < 256) (ho : o < 0x1000) :
    word a (Sys2Proof.Machine.wr ⟨Layout.addr d p o, i, w⟩ v s) = word a s := word_wr_ne _ _ (h.ne hp ho)

theorem TableWord.putWord {a d p o : Nat} {v : Word} {s : State} (h : TableWord a) (hp : p < 256) (ho : o < 0x1000) :
    word a (Sys2Proof.Machine.putWord (Layout.addr d p o) v s) = word a s := word_putWord_ne _ _ (h.ne hp ho)

theorem TableWord.errPulse {a d p src cls esn : Nat} {forced : Bool} {s : State} (h : TableWord a) :
    word a (Sys2Proof.Machine.errPulse d p src cls esn forced s) = word a s := by
  unfold Sys2Proof.Machine.errPulse
  split
  · refine (h.evt (by decide)).trans ((word_putWord_ne _ _ (h.ne (p := 1) (o := 0x110) (by decide) (by decide))).trans
      ((word_putWord_ne _ _ (h.ne (p := 1) (o := 0x10C) (by decide) (by decide))).trans ?_))
    exact (word_wr_ne _ _ (h.ne (p := 1) (o := 0x108) (by decide) (by decide))).trans
      (word_wr_ne _ _ (h.ne (p := 1) (o := 0x108) (by decide) (by decide)))
  · rfl

theorem TableWord.fillRecords {a d p src cls esn : Nat} {s : State} (h : TableWord a) (hp : p < 256) :
    word a (Sys2Proof.Machine.fillRecords d p src cls esn s) = word a s := by
  unfold Sys2Proof.Machine.fillRecords
  split
  · exact (word_putWord_ne _ _ (h.ne (o := 0x2C) hp (by decide))).trans (word_putWord_ne _ _ (h.ne (o := 0x28) hp (by decide)))
  · split
    · exact (word_putWord_ne _ _ (h.ne (o := 0x34) hp (by decide))).trans (word_putWord_ne _ _ (h.ne (o := 0x30) hp (by decide)))
    · rfl

theorem TableWord.logTrigger {a c i : Nat} {s : State} (h : TableWord a) : word a (Sys2Proof.Machine.logTrigger c i s) = word a s := by
  unfold Sys2Proof.Machine.logTrigger
  split
  · rfl
  · split
    · rfl
    · exact word_wr_ne (l := R.NVS.LOG_CNT_LOST 0) _ _ (h.ne (by decide) (by decide))

theorem TableWord.recordFault {a d p src : Nat} {forced : Bool} {s : State} (h : TableWord a) (hp : p < 256) :
    word a (Sys2Proof.Machine.recordFault d p src forced s) = word a s := by
  have hrest (cls esn : Nat) (x y : Bool) (v : Word) (e : Nat) : word a (Sys2Proof.Machine.errPulse d p src cls esn forced
      (Sys2Proof.Machine.fillRecords d p src cls esn (bump (R.HDR.ERR_COUNT_COUNT d p) (Sys2Proof.Machine.wr (R.DIE.ESN_NOW_ESN d) e
        (afterHeader d p x y (Sys2Proof.Machine.putWord (R.HDR.FLT_STAT_FLT d p).addr v s)))))) = word a s := by
    rw [h.errPulse, h.fillRecords hp]
    refine (word_wr_ne _ _ (h.ne (o := 0x38) hp (by decide))).trans ((word_wr_ne _ _ (h.ne (p := 0) (o := 0x100) (by decide) (by decide))).trans ?_)
    exact (word_afterHeader _ _ _ _ _ h.2).trans (word_putWord_ne _ _ (h.ne (o := 0x1C) hp (by decide)))
  unfold Sys2Proof.Machine.recordFault
  dsimp only
  split
  · rw [h.logTrigger]
    exact hrest ..
  · exact hrest ..

/-- The entries of the cue table (R334). -/
theorem tableWord_cue {d n k : Nat} (hn : n < 512) (hk : k < 8) : TableWord (cueAddr d n + 4 * k) := by
  unfold TableWord NotPba cueAddr
  omega

theorem cueEntry_congr {d n : Nat} {s t : State} (hn : n < 512) (h : ∀ a, TableWord a → word a t = word a s) : cueEntry d n t = cueEntry d n s := by
  unfold cueEntry wordBytes
  have hmap : (List.range 8).map (fun k => leBytes 4 (word (cueAddr d n + 4 * k) t).toNat) =
      (List.range 8).map (fun k => leBytes 4 (word (cueAddr d n + 4 * k) s).toNat) :=
    List.map_congr_left fun k hk => by rw [h _ (tableWord_cue hn (List.mem_range.mp hk))]
  rw [List.flatMap_def, List.flatMap_def, hmap]

/-! ### The bits of a cue -/

theorem cueArmed_setArmed (d n : Nat) (b : Bool) (s : State) : cueArmed d n (setArmed d n b s) = b :=
  testBit_setBitOf b s (Nat.mod_lt n (by decide))

theorem rd_setArmed {d n o i w : Nat} (b : Bool) (s : State) (h : o ≠ 0x80 + 4 * (n / 32)) :
    rd ⟨Layout.addr d 0x60 o, i, w⟩ (setArmed d n b s) = rd ⟨Layout.addr d 0x60 o, i, w⟩ s := rd_wr_of_apart (apart_page (.inl h)) _ _

theorem cueOf_setArmed (d n m k : Nat) (b : Bool) (s : State) : cueOf d n (setArmed m k b s) = cueOf d n s :=
  Touches.cueOf_eq (m := 0x4) (setArmed_touches rfl (.refl _ s)) rfl d n

theorem rd_cueDisarm {d n o i w : Nat} (s : State) (h : o ≠ 0x80 + 4 * (n / 32)) :
    rd ⟨Layout.addr d 0x60 o, i, w⟩ (cueDisarm d n s) = rd ⟨Layout.addr d 0x60 o, i, w⟩ s := (rd_setArmed _ _ h).trans (rd_setCue ..)

/-! ### The commands of CUE_CTL (R337) -/

theorem cueCtl_one {d n : Nat} {v c : Word} (s : State) (hn : v.toNat % 512 = n) (hc : c.toNat % 512 = 0) {x a u : Bool}
    (hx : testBit (v ||| c).toNat 17 = x) (hu : testBit (v ||| c).toNat 18 = u) (ha : testBit (v ||| c).toNat 16 = a) :
    cueCtl d (v ||| c).toNat s = onlyIf a (cueArm d n) (onlyIf u (cueUnfence d n) (onlyIf x (cueDisarm d n) s)) := by
  have hi : (v ||| c).toNat % 512 = n := by
    have hor : (v ||| c).toNat = v.toNat ||| c.toNat := BitVec.toNat_or ..
    rw [hor, show (512 : Nat) = 2 ^ 9 from rfl, Nat.or_mod_two_pow, show c.toNat % 2 ^ 9 = 0 from hc, Nat.or_zero]
    exact hn
  unfold cueCtl
  rw [hi, hx, hu, ha]
  rfl

theorem cueArm_arms {d n : Nat} {s : State} (hoff : cueArmed d n s = false) (hok : cueReason d n s = 0) :
    cueArmed d n (cueArm d n s) = true ∧ (cueOf d n (cueArm d n s)).arg = cueArg (cueEntry d n s) ∧
      (cueOf d n (cueArm d n s)).rep = fieldLe (cueEntry d n s) 28 2 ∧
      (cueOf d n (cueArm d n s)).late = cuePassed d (cueEntry d n s) (cueArg (cueEntry d n s)) s ∧
      (cueOf d n (cueArm d n s)).reached = (cueOf d n (cueArm d n s)).late := by
  unfold cueArm
  dsimp only
  rw [if_neg (ne_true_of_eq_false hoff), if_neg (not_not.mpr hok), cueArmed_setArmed, cueOf_setArmed, cueOf_setCue]
  exact ⟨rfl, rfl, rfl, rfl, rfl⟩

theorem cueReason_lt (d n : Nat) (s : State) : cueReason d n s < 5 := by
  unfold cueReason
  dsimp only
  split
  · decide
  · split
    · decide
    · split
      · decide
      · split <;> decide

theorem cueArm_refuses {d n r : Nat} {s : State} (hn : n < 512) (hoff : cueArmed d n s = false) (hbad : cueReason d n s = r) (hr : r ≠ 0)
    (hfree : flag (R.CUE.CUE_ERR_VALID d) s = false) :
    cueArmed d n (cueArm d n s) = false ∧ flag (R.CUE.CUE_ERR_VALID d) (cueArm d n s) = true ∧
      rd (R.CUE.CUE_ERR_INDEX d) (cueArm d n s) = n ∧ rd (R.CUE.CUE_ERR_REASON d) (cueArm d n s) = r ∧
      testBit (word (R.HDR.EVT_STAT_EVT d 0x60).addr (cueArm d n s)).toNat 0 = true := by
  have hlt : r < 5 := hbad ▸ cueReason_lt d n s
  have harm : cueArm d n s = evt d 0x60 0 (putWord (R.CUE.CUE_ERR_VALID d).addr (BitVec.ofNat 32 (n + 4096 * r + 2147483648)) s) := by
    unfold cueArm cueError
    dsimp only
    rw [if_neg (ne_true_of_eq_false hoff), hbad, if_pos hr, if_neg (ne_true_of_eq_false hfree)]
  have hword : (BitVec.ofNat 32 (n + 4096 * r + 2147483648)).toNat = n + 4096 * r + 2147483648 := by
    rw [BitVec.toNat_ofNat]
    exact Nat.mod_eq_of_lt (by omega)
  have herr (i w : Nat) : rd ⟨Layout.addr d 0x60 0x44, i, w⟩ (cueArm d n s) = bitsOf (n + 4096 * r + 2147483648) i w := by
    rw [harm, rd_cue_evt _ (by decide)]
    exact (rd_putWord_same _ _ rfl).trans (congrArg (bitsOf · i w) hword)
  refine ⟨?_, ?_, ?_, ?_, ?_⟩
  · rw [harm]
    refine (congrArg (testBit · (n % 32)) ((rd_cue_evt _ (by omega)).trans ?_)).trans hoff
    exact rd_putWord_ne _ _ (addr_ne_offset (by omega))
  · unfold flag
    rw [show rd (R.CUE.CUE_ERR_VALID d) (cueArm d n s) = _ from herr 31 1]
    unfold bitsOf
    exact bne_iff_ne.mpr (by omega)
  · rw [show rd (R.CUE.CUE_ERR_INDEX d) (cueArm d n s) = _ from herr 0 9]
    unfold bitsOf
    omega
  · rw [show rd (R.CUE.CUE_ERR_REASON d) (cueArm d n s) = _ from herr 12 4]
    unfold bitsOf
    omega
  · rw [harm]
    exact testBit_evt d 0x60 0 _ (by decide) (notPba_addr (by decide) (by decide))

theorem cueDisarm_disarms (d n : Nat) (s : State) :
    cueArmed d n (cueDisarm d n s) = false ∧ (cueOf d n (cueDisarm d n s)).acting = (cueOf d n s).acting ∧
      (cueOf d n (cueDisarm d n s)).reached = false := by
  unfold cueDisarm
  dsimp only
  rw [cueArmed_setArmed, cueOf_setArmed, cueOf_setCue]
  exact ⟨rfl, rfl, rfl⟩

theorem cueUnfence_unfences {d n : Nat} {s : State} (hf : faultsHold d 0x60 s = false) :
    UnitId.cue d n ∉ (cueUnfence d n s).fenced ∧ testBit (rd (R.CUE.CUE_FENCED d (n / 32)) (cueUnfence d n s)) (n % 32) = false := by
  have hout : UnitId.cue d n ∉ (unfence d 0x60 (.cue d n) s).fenced := fun hc => ((unfence_faultless hf).2.mp hc).2 rfl
  unfold cueUnfence
  dsimp only
  refine ⟨?_, (testBit_setBitOf _ _ (Nat.mod_lt n (by decide))).trans (by simpa using hout)⟩
  rw [Touches.fenced (m := 0x4) (setBitOf_touches rfl (.refl _ _)) rfl]
  exact hout

/-! ### Completion (R338) -/

/-- One armed cue of a die hears that cue `n` has completed. -/
def cueHears (d n : Nat) (s : State) (m : Nat) : State :=
  if cueKind (cueEntry d m s) = 4 ∧ cueSource (cueEntry d m s) = n ∧ (cueOf d m s).due.isNone then
    setCue d m { cueOf d m s with due := some (Nat.max (s.now + (cueOf d m s).arg) ((s.now / 5 + 1) * 5)) } s
  else s

theorem cueCompleted_eq (d n : Nat) (s : State) : cueCompleted d n s =
    if d = 0 then purgeNext n ((armedCues d s).foldl (cueHears d n) s) else (armedCues d s).foldl (cueHears d n) s := rfl

theorem cueHears_touches (d n m : Nat) (z s : State) (h : Touches 0x80000000000 z s) : Touches 0x80000000000 z (cueHears d n s m) :=
  touches_ite (setCue_touches rfl h) h

theorem rd_cueHears (l : Loc) (d n m : Nat) (s : State) : rd l (cueHears d n s m) = rd l s :=
  Touches.rd_eq (cueHears_touches d n m s s (.refl _ s)) rfl l

theorem acting_cueHears (d n m k : Nat) (s : State) : (cueOf d k (cueHears d n s m)).acting = (cueOf d k s).acting := by
  unfold cueHears
  split
  · by_cases h : k = m
    · rw [h, cueOf_setCue]
    · rw [cueOf_setCue_ne _ _ (by omega)]
  · rfl

/-- With no request waiting, a completed cue arms no purge (R355). -/
theorem purgeNext_idle {n : Nat} {s : State} (h : ∀ p < 2, (pathRunOf p s).waiting = []) : purgeNext n s = s := by
  unfold purgeNext
  refine foldl_eq_self fun p hp => ?_
  rw [h p (by simp only [List.mem_cons, List.not_mem_nil, or_false] at hp; omega)]

theorem cueComplete_completes {d n : Nat} {s : State} (hn : n < 512) (hact : (cueOf d n s).acting = true) (hmove : (cueOf d n s).move = none) :
    ∃ t, exec (.cueComplete d n) s = .next t ∧ (d ≠ 0 → (cueOf d n t).acting = false) ∧
      ∀ m < 512, d ≠ 0 → m ≠ n → cueArmed d m s = true → cueKind (cueEntry d m s) = 4 → cueSource (cueEntry d m s) = n →
        (cueOf d m s).due = none → (cueOf d m t).due = some (Nat.max (s.now + (cueOf d m s).arg) ((s.now / 5 + 1) * 5)) := by
  obtain ⟨z, hz⟩ : ∃ z, z = setCue d n { cueOf d n s with acting := false, move := none } s := ⟨_, rfl⟩
  have hregs : Touches 0x80000000000 s z := hz ▸ setCue_touches rfl (.refl _ s)
  refine ⟨cueCompleted d n z, ?_, fun hd => ?_, fun m hm hd hmn harmed hkind hsrc hdue => ?_⟩
  · refine Eq.trans (b := execCueComplete d n s) rfl ?_
    unfold execCueComplete
    dsimp only
    rw [hmove, hact, if_neg, hz]
    rintro (h | h | h)
    · omega
    · exact Bool.false_ne_true h
    · exact Bool.false_ne_true h
  · rw [cueCompleted_eq, if_neg hd]
    refine (foldl_unchanged (f := fun t => (cueOf d n t).acting) fun m _ t => acting_cueHears d n m n t).trans ?_
    rw [hz, cueOf_setCue]
  · rw [cueCompleted_eq, if_neg hd]
    have hin : m ∈ armedCues d z := by
      refine List.mem_filter.mpr ⟨List.mem_range.mpr hm, ?_⟩
      unfold cueArmed
      rw [hregs.rd_eq rfl]
      exact harmed
    have hnodup : (armedCues d z).Nodup := List.nodup_range.filter _
    have hother (b : Nat) (hb : b ≠ m) (t : State) : cueOf d m (cueHears d n t b) = cueOf d m t := by
      unfold cueHears
      split
      · exact cueOf_setCue_ne _ _ (by omega)
      · rfl
    refine foldl_at (P := fun t => Touches 0x80000000000 s t ∧ cueOf d m t = cueOf d m s)
      (Q := fun t => (cueOf d m t).due = some (Nat.max (s.now + (cueOf d m s).arg) ((s.now / 5 + 1) * 5)))
      hin hnodup (fun b hb t ht => ⟨cueHears_touches d n b s t ht.1, (hother b hb t).trans ht.2⟩) (fun t ht => ?_)
      (fun b hb t ht => (congrArg CueRun.due (hother b hb t)).trans ht) ⟨hregs, ?_⟩
    · obtain ⟨hkept, hsame⟩ := ht
      have hentry : cueEntry d m t = cueEntry d m s := cueEntry_congr hm fun a _ => hkept.word_eq rfl a
      unfold cueHears
      rw [hentry, hsame, hkept.now rfl, if_pos ⟨hkind, hsrc, by rw [hdue]; rfl⟩, cueOf_setCue]
    · rw [hz]
      exact cueOf_setCue_ne _ _ (by omega)

/-! ### Firing (R336) -/

theorem commitOnCue_idle {d n : Nat} {s : State} (h : ∀ i < 8, rd (R.TXN.TXS_STAT_STATE d i) s ≠ 1) : commitOnCue d n s = s := by
  unfold commitOnCue
  exact foldl_eq_self fun i hi => if_neg fun hc => h i (List.mem_range.mp hi) hc.1

theorem markWindows_idle {d n : Nat} {s : State} (h : ∀ m < 4, flag (R.PIO.MARK_CFG_CUE_EN d m) s = false) : markWindows d n s = s := by
  unfold markWindows
  refine foldl_eq_self fun m hm => if_neg ?_
  rw [h m (by simp only [List.mem_cons, List.not_mem_nil, or_false] at hm; omega)]
  exact Bool.false_ne_true

/-- What the count of late cues becomes, and what else a late firing leaves of the blocks (R337). -/
theorem cueLate_shows (d : Nat) (s : State) :
    rd (R.CUE.CUE_CNT_LATE d) (cueLate d s) = Nat.min (rd (R.CUE.CUE_CNT_LATE d) s + 1) 65535 ∧
      ∀ q o i w, q < 256 → 0x40 ≤ o → o < 0x1000 → q ≠ 0x60 ∨ o ≠ 0x48 → q ≠ 0 ∧ q ≠ 1 ∧ q ≠ 0x15 →
        rd ⟨Layout.addr d q o, i, w⟩ (cueLate d s) = rd ⟨Layout.addr d q o, i, w⟩ s := by
  refine ⟨?_, fun q o i w hq hlo hhi hne hpage => ?_⟩
  · have hblock : BlockWord (R.CUE.CUE_CNT_LATE d).addr := blockWord_addr (by decide) (by decide) (.inr (by decide))
    refine (rd_evt_block hblock (by decide)).trans ((rd_recordFault_block hblock (by decide)).trans ?_)
    rw [rd_bump_same _ (show 0 + 16 ≤ 32 by decide)]
    rfl
  · have hblock : BlockWord (Layout.addr d q o) := blockWord_addr hq hhi (.inr ⟨hpage.1, hpage.2.1, hpage.2.2, hlo⟩)
    refine (rd_evt_block hblock (by decide)).trans ((rd_recordFault_block hblock (by decide)).trans ?_)
    exact rd_wr_ne (m := R.CUE.CUE_CNT_LATE d) _ _ (addr_ne hq hhi (by decide) (by decide) (.inr hne))

theorem word_cueLate {d a : Nat} (s : State) (h : TableWord a) : word a (cueLate d s) = word a s :=
  (h.evt (by decide)).trans ((h.recordFault (by decide)).trans (word_wr_ne _ _ (h.ne (p := 0x60) (o := 0x48) (by decide) (by decide))))

/-- What a firing does before its action: late or not, FIRED is shown and no other register of a block moves. -/
structure CueFiring (d n : Nat) (s t : State) : Prop where
  late : rd (R.CUE.CUE_CNT_LATE d) t =
    if (cueOf d n s).late then Nat.min (rd (R.CUE.CUE_CNT_LATE d) s + 1) 65535 else rd (R.CUE.CUE_CNT_LATE d) s
  fired : testBit (rd (R.CUE.CUE_FIRED d (n / 32)) t) (n % 32) = true
  blocks : ∀ q o i w, q < 256 → 0x40 ≤ o → o < 0x1000 → q ≠ 0x60 → q ≠ 0 ∧ q ≠ 1 ∧ q ≠ 0x15 →
    rd ⟨Layout.addr d q o, i, w⟩ t = rd ⟨Layout.addr d q o, i, w⟩ s
  table : ∀ a, TableWord a → word a t = word a s
  kept : Touches 0x1800000041004 s t

theorem cueFiring_of {d n : Nat} (s : State) (hn : n < 512) : CueFiring d n s
    (setBitOf (R.CUE.CUE_FIRED d (n / 32)) (n % 32) true (if (cueOf d n s).late then cueLate d s else s)) := by
  have hoff : n / 32 < 16 := by omega
  obtain ⟨hcnt, hrd⟩ := cueLate_shows d s
  have hset (l : Loc) (x : State) (h : l.addr ≠ (R.CUE.CUE_FIRED d (n / 32)).addr) : rd l (setBitOf (R.CUE.CUE_FIRED d (n / 32)) (n % 32) true x) = rd l x :=
    rd_wr_ne _ _ h
  refine ⟨?_, testBit_setBitOf _ _ (Nat.mod_lt n (by decide)), fun q o i w hq hlo hhi hne hpage => ?_, fun a ha => ?_, ?_⟩
  · rw [hset _ _ (addr_ne_offset (by omega))]
    split
    · exact hcnt
    · rfl
  · rw [hset _ _ (addr_ne hq hhi (by decide) (by omega) (.inr (.inl hne)))]
    split
    · exact hrd q o i w hq hlo hhi (.inl hne) hpage
    · rfl
  · refine (word_wr_ne _ _ (ha.ne (p := 0x60) (o := 0xC0 + 4 * (n / 32)) (by decide) (by omega))).trans ?_
    split
    · exact word_cueLate s ha
    · rfl
  · exact setBitOf_touches rfl (touches_ite (cueLate_touches rfl (.refl _ s)) (.refl _ s))

theorem cueAct_event {d n : Nat} {e : List Byte} {late : Bool} {old : CueRun} {s : State} (h : cueAction e = 5) :
    cueAct d n e late old s = cueCompleted d n (evt d 0x60 (16 + cueTarget e) s) := by
  unfold cueAct
  dsimp only
  split
  case h_5 => rfl
  case h_6 => contradiction
  all_goals omega

/-- The firing of a cue without a period whose action is an event. -/
theorem exec_cueFire_event {d n : Nat} {s t : State} (hn : n < 512) (hup : blockUp d 0x60 s = true) (hdue : cueDue d n s = true)
    (hper : cuePeriod (cueEntry d n s) = 0) (hact : cueAction (cueEntry d n s) = 5)
    (hslots : ∀ i < 8, rd (R.TXN.TXS_STAT_STATE d i) s ≠ 1) (hmarks : ∀ m < 4, flag (R.PIO.MARK_CFG_CUE_EN d m) s = false)
    (ht : t = setBitOf (R.CUE.CUE_FIRED d (n / 32)) (n % 32) true (if (cueOf d n s).late then cueLate d s else s)) :
    exec (.cueFire d n) s = .next (cueCompleted d n (evt d 0x60 (16 + cueTarget (cueEntry d n s)) (cueDisarm d n t))) := by
  have hfire : CueFiring d n s t := ht ▸ cueFiring_of s hn
  have hcommit : commitOnCue d n t = t := commitOnCue_idle fun i hi => by
    rw [show rd (R.TXN.TXS_STAT_STATE d i) t = rd (R.TXN.TXS_STAT_STATE d i) s from
      hfire.blocks _ _ _ _ (by omega) (by omega) (by omega) (by omega) (by omega)]
    exact hslots i hi
  have hwin : markWindows d n t = t := markWindows_idle fun m hm =>
    (congrArg (· != 0) (hfire.blocks _ _ _ _ (by decide) (by omega) (by omega) (by decide) (by decide))).trans (hmarks m hm)
  have hadv : cueAdvance d n t = cueDisarm d n t := by
    unfold cueAdvance
    dsimp only
    rw [cueEntry_congr hn hfire.table]
    exact if_neg fun h => h.2.1 hper
  refine Eq.trans (b := execCueFire d n s) rfl ?_
  unfold execCueFire
  dsimp only
  rw [if_neg, ← ht, hcommit, hwin, hadv]
  · rw [cueAct_event hact]
  · rw [hup, hdue]
    rintro (h | h | h)
    · omega
    · exact Bool.false_ne_true h
    · exact Bool.false_ne_true h

/-- The firing leaves the cue disarmed, FIRED, LATE and its event shown. -/
theorem cueFire_event {d n : Nat} {s : State} (hn : n < 512) (hup : blockUp d 0x60 s = true) (hdue : cueDue d n s = true)
    (hper : cuePeriod (cueEntry d n s) = 0) (hact : cueAction (cueEntry d n s) = 5) (htgt : cueTarget (cueEntry d n s) < 16)
    (hslots : ∀ i < 8, rd (R.TXN.TXS_STAT_STATE d i) s ≠ 1) (hmarks : ∀ m < 4, flag (R.PIO.MARK_CFG_CUE_EN d m) s = false)
    (hwait : ∀ p < 2, (pathRunOf p s).waiting = []) :
    ∃ t, exec (.cueFire d n) s = .next t ∧ cueArmed d n t = false ∧ testBit (rd (R.CUE.CUE_FIRED d (n / 32)) t) (n % 32) = true ∧
      testBit (word (R.HDR.EVT_STAT_EVT d 0x60).addr t).toNat (16 + cueTarget (cueEntry d n s)) = true ∧
      rd (R.CUE.CUE_CNT_LATE d) t = (if (cueOf d n s).late then Nat.min (rd (R.CUE.CUE_CNT_LATE d) s + 1) 65535 else rd (R.CUE.CUE_CNT_LATE d) s) := by
  obtain ⟨f, hf⟩ : ∃ f, f = setBitOf (R.CUE.CUE_FIRED d (n / 32)) (n % 32) true (if (cueOf d n s).late then cueLate d s else s) := ⟨_, rfl⟩
  have hfire : CueFiring d n s f := hf ▸ cueFiring_of s hn
  obtain ⟨e, he⟩ : ∃ e, e = evt d 0x60 (16 + cueTarget (cueEntry d n s)) (cueDisarm d n f) := ⟨_, rfl⟩
  have hfold : Touches 0x80000000000 e ((armedCues d e).foldl (cueHears d n) e) :=
    foldl_touches (fun m t ht => cueHears_touches d n t e m ht) (.refl _ e)
  have hpaths (p : Nat) : pathRunOf p ((armedCues d e).foldl (cueHears d n) e) = pathRunOf p s := by
    refine pathRunOf_congr p ((hfold.paths rfl).trans ?_)
    rw [he, Touches.paths (m := 0x80000001004) (evt_touches rfl (cueDisarm_touches rfl (.refl _ f))) rfl]
    exact hfire.kept.paths rfl
  have hdone : cueCompleted d n e = (armedCues d e).foldl (cueHears d n) e := by
    rw [cueCompleted_eq]
    split
    · exact purgeNext_idle fun p hp => (congrArg PathRun.waiting (hpaths p)).trans (hwait p hp)
    · rfl
  have hword (a : Nat) : word a (cueCompleted d n e) = word a e := by rw [hdone]; exact hfold.word_eq rfl a
  have hrd {o i w : Nat} (h : 0x40 ≤ o ∧ o < 0x1000) : rd ⟨Layout.addr d 0x60 o, i, w⟩ (cueCompleted d n e) = rd ⟨Layout.addr d 0x60 o, i, w⟩ (cueDisarm d n f) := by
    refine (rd_of_word (hword _)).trans ?_
    rw [he]
    exact rd_cue_evt _ h
  refine ⟨cueCompleted d n e, he ▸ exec_cueFire_event hn hup hdue hper hact hslots hmarks hf, ?_, ?_, ?_, ?_⟩
  · unfold cueArmed
    rw [show rd (R.CUE.CUE_ARMED d (n / 32)) (cueCompleted d n e) = _ from hrd (by omega)]
    exact (cueDisarm_disarms d n f).1
  · rw [show rd (R.CUE.CUE_FIRED d (n / 32)) (cueCompleted d n e) = _ from hrd (by omega)]
    exact (congrArg (testBit · (n % 32)) (rd_cueDisarm f (by omega))).trans hfire.fired
  · rw [hword, he]
    exact testBit_evt d 0x60 _ _ (by omega) (notPba_addr (by decide) (by decide))
  · rw [show rd (R.CUE.CUE_CNT_LATE d) (cueCompleted d n e) = _ from hrd (by decide)]
    exact (rd_cueDisarm f (by omega)).trans hfire.late

/-- Settles O32: what arming, disarming and unfencing leave of a cue, and a firing and a completion by the armed cues that
hear of it. -/
theorem cueCommandsAct : Obligations.CueCommandsAct := by
  unfold Obligations.CueCommandsAct
  refine ⟨fun a d n v s hr hn h17 h18 hoff hok => ?_, fun a d n r v s hr hn h17 h18 hoff hbad hne hfree => ?_,
    fun a d n v s hr hn h16 h18 => ?_, fun a d n v s hr hn h16 h17 hf => ?_,
    fun d n s hn hup hdue hper hact htgt hslots hmarks hwait => cueFire_event hn hup hdue hper hact htgt hslots hmarks hwait,
    fun d n s hn hact hmove => cueComplete_completes hn hact hmove⟩
  · refine ⟨_, (exec_cueArm hr).trans (congrArg _ (cueCtl_one _ hn rfl (testBit_or_same h17 (by decide)) (testBit_or_same h18 (by decide))
      (testBit_or_of_set (by decide)))), ?_⟩
    rw [onlyIf_true, onlyIf_false, onlyIf_false]
    exact cueArm_arms (s := landWrite a.rq d s) hoff hok
  · refine ⟨_, (exec_cueArm hr).trans (congrArg _ (cueCtl_one _ hn rfl (testBit_or_same h17 (by decide)) (testBit_or_same h18 (by decide))
      (testBit_or_of_set (by decide)))), ?_⟩
    rw [onlyIf_true, onlyIf_false, onlyIf_false]
    exact cueArm_refuses (s := landWrite a.rq d s) (by omega) hoff hbad hne hfree
  · refine ⟨_, (exec_cueDisarm hr).trans (congrArg _ (cueCtl_one _ hn rfl (testBit_or_of_set (by decide)) (testBit_or_same h18 (by decide))
      (testBit_or_same h16 (by decide)))), ?_⟩
    rw [onlyIf_false, onlyIf_false, onlyIf_true]
    exact cueDisarm_disarms d n (landWrite a.rq d s)
  · refine ⟨_, (exec_cueUnfence hr).trans (congrArg _ (cueCtl_one _ hn rfl (testBit_or_same h17 (by decide)) (testBit_or_of_set (by decide))
      (testBit_or_same h16 (by decide)))), ?_⟩
    rw [onlyIf_false, onlyIf_true, onlyIf_false]
    exact cueUnfence_unfences (s := landWrite a.rq d s) hf

end Sys2Proof.Machine
end

section
/-! PROOFS. Mark inputs, the outputs of auto-registration, and the position counters (R321 to R332). -/

namespace Sys2Proof.Machine

/-- A fold whose step at `a` alone, among those of the list, bears on what is asked. -/
theorem foldl_at_mem {α β : Type} {P Q : β → Prop} {f : β → α → β} {l : List α} {a : α} (ha : a ∈ l) (hl : l.Nodup)
    (hbefore : ∀ b ∈ l, b ≠ a → ∀ t, P t → P (f t b)) (hset : ∀ t, P t → Q (f t a))
    (hafter : ∀ b ∈ l, b ≠ a → ∀ t, Q t → Q (f t b)) {s : β} (hs : P s) : Q (l.foldl f s) := by
  obtain ⟨l₁, l₂, rfl⟩ := List.append_of_mem ha
  obtain ⟨-, hright, hdisjoint⟩ := List.nodup_append.mp hl
  rw [List.foldl_append, List.foldl_cons]
  refine List.foldlRecOn l₂ f (hset _ (List.foldlRecOn l₁ f hs fun t ht b hb => ?_)) fun t ht b hb => ?_
  · exact hbefore b (List.mem_append_left _ hb) (hdisjoint b hb a (List.mem_cons_self ..)) t ht
  · exact hafter b (List.mem_append_right _ (List.mem_cons_of_mem _ hb)) (fun e => (List.nodup_cons.mp hright).1 (e ▸ hb)) t ht

/-- A fold of which only the step at `a` changes the state. -/
theorem foldl_once {α β : Type} {f : β → α → β} {l : List α} {a : α} {s : β} (ha : a ∈ l) (hl : l.Nodup)
    (hbefore : ∀ b ∈ l, b ≠ a → f s b = s) (hafter : ∀ b ∈ l, b ≠ a → f (f s a) b = f s a) : l.foldl f s = f s a :=
  foldl_at_mem (P := (· = s)) (Q := (· = f s a)) ha hl (fun b hb hne t ht => by rw [ht, hbefore b hb hne])
    (fun t ht => by rw [ht]) (fun b hb hne t ht => by rw [ht, hafter b hb hne]) rfl

/-! ### What a step of a counter leaves of the registers and the stations -/

/-- A station is on while nothing that it depends on changes: the release of its block, its fences and its page's EN. -/
theorem stationOn_of_touches {m : Nat} {z s : State} (h : Touches m z s) (hdom : m.testBit 21 = false) (hrel : m.testBit 20 = false)
    (hfence : m.testBit 15 = false) (hpart : m.testBit 0 = false) (hsafe : m.testBit 17 = false) (k : Nat)
    (hen : flag (R.HDR.PAGE_CTL_EN (stDie k) (staPage (stLoc k))) s = flag (R.HDR.PAGE_CTL_EN (stDie k) (staPage (stLoc k))) z) :
    stationOn k s = stationOn k z := by
  unfold stationOn blockOn blockUp domainReady dieUp
  rw [hen, h.isFenced_eq hfence hsafe, h.domainOf_eq hdom, h.releaseOf_eq hrel, h.dies_eq hpart]

/-- A register other than STA_START.PENDING stands when a start position is reached. -/
theorem rd_reachStart {d c : Nat} {up : Bool} {l : Loc} (s : State)
    (h : ∀ k, l.addr ≠ (R.CUE.STA_START_PENDING (stDie k) (stLoc k)).addr) : rd l (reachStart d c up s) = rd l s := by
  unfold reachStart
  refine foldl_unchanged fun k _ t => ?_
  dsimp only
  split
  · rfl
  · split
    · exact rd_wr_ne _ _ (h k)
    · rfl

/-- The triggers, start positions and resume positions that a counter's step reaches. -/
def stepReaches (d c : Nat) (up : Bool) (s : State) : State := reachResume d c up (reachStart d c up (cueReach d c up s))

theorem stepReaches_touches (d c : Nat) (up : Bool) (s : State) : Touches 0x40180000000004 s (stepReaches d c up s) :=
  reachResume_touches rfl (reachStart_touches rfl (cueReach_touches rfl (.refl _ s)))

theorem rd_stepReaches {d c : Nat} {up : Bool} {l : Loc} (s : State)
    (h : ∀ k, l.addr ≠ (R.CUE.STA_START_PENDING (stDie k) (stLoc k)).addr) : rd l (stepReaches d c up s) = rd l s :=
  calc rd l (stepReaches d c up s)
      _ = rd l (reachStart d c up (cueReach d c up s)) :=
        Touches.rd_eq (m := 0x40000000000000) (reachResume_touches rfl (.refl _ _)) rfl l
      _ = rd l (cueReach d c up s) := rd_reachStart _ h
      _ = rd l s := Touches.rd_eq (m := 0x80000000000) (cueReach_touches rfl (.refl _ _)) rfl l

/-- A register of CUE below those of the stations' paths. -/
theorem ne_startPending {d o : Nat} (ho : o < 0x200) (k : Nat) :
    Layout.addr d 0x60 o ≠ (R.CUE.STA_START_PENDING (stDie k) (stLoc k)).addr := by
  have := stLoc_lt k
  exact addr_ne (by decide) (by omega) (by decide) (by omega) (.inr (.inr (by omega)))

/-- The header registers of a page. -/
theorem ne_startPending_header {d p o : Nat} (hp : p < 256) (ho : o < 0x200) (k : Nat) :
    Layout.addr d p o ≠ (R.CUE.STA_START_PENDING (stDie k) (stLoc k)).addr := by
  have := stLoc_lt k
  exact addr_ne hp (by omega) (by decide) (by omega) (.inr (.inr (by omega)))

/-- Where both stations of the die are off no line generator follows a counter's step. -/
theorem counterStep_off {d c : Nat} {up : Bool} {s : State} (hoff : ∀ l < 2, stationOn (2 * d + l) s = false) :
    counterStep d c up s = stepReaches d c up (setCounter d c ((counterOf d c s).step up (counterC d s)) s) := by
  have hstays : ∀ l < 2, stationOn (2 * d + l)
      (stepReaches d c up (setCounter d c ((counterOf d c s).step up (counterC d s)) s)) = false := fun l hl => by
    refine (stationOn_of_touches (stepReaches_touches d c up _) rfl rfl rfl rfl rfl _ ?_).trans (hoff l hl)
    exact congrArg (· != 0) (rd_stepReaches _ fun k => ne_startPending_header (by unfold staPage stLoc; omega) (by decide) k)
  unfold counterStep
  dsimp only
  refine foldl_eq_self fun l hl => if_neg fun h => ?_
  have hl : l < 2 := by
    rcases List.mem_cons.mp hl with rfl | hl
    · decide
    · rw [List.mem_singleton.mp hl]
      decide
  exact Bool.false_ne_true ((hstays l hl).symm.trans h.2)

theorem counterOf_counterStep {d c : Nat} {up : Bool} {s : State} (hoff : ∀ l < 2, stationOn (2 * d + l) s = false) :
    counterOf d c (counterStep d c up s) = (counterOf d c s).step up (counterC d s) := by
  rw [counterStep_off hoff]
  exact ((stepReaches_touches d c up _).counterOf_eq rfl d c).trans (counterOf_setCounter ..)

theorem rd_counterStep {d c o i w : Nat} {up : Bool} {s : State} (hoff : ∀ l < 2, stationOn (2 * d + l) s = false) (ho : o < 0x200) :
    rd ⟨Layout.addr d 0x60 o, i, w⟩ (counterStep d c up s) = rd ⟨Layout.addr d 0x60 o, i, w⟩ s := by
  rw [counterStep_off hoff]
  exact rd_stepReaches _ (ne_startPending ho)

/-! ### Encoder steps (R329, R330) -/

theorem Touches.encoderOf_eq {m : Nat} {z s : State} (h : Touches m z s) (hm : m.testBit 42 = false) (d e : Nat) :
    encoderOf d e s = encoderOf d e z := encoderOf_congr d e (h.encoders hm)

/-- The levels of an input change and only counter `c` follows it: the change is that counter's. -/
theorem exec_encoderStep {d e c : Nat} {la lb : Bool} {s : State} (he : e < 8) (hc : c < 8) (hup : blockUp d 0x60 s = true)
    (hsrc : rd (R.CUE.POS_CFG_SRC d c) s = e) (hother : ∀ c' < 8, c' ≠ c → rd (R.CUE.POS_CFG_SRC d c') s ≠ e)
    (hkeep : ∀ c' < 8, rd (R.CUE.POS_CFG_SRC d c')
      (counterEdge d c e (encoderOf d e s) { a := la, b := lb } (setEncoder d e { a := la, b := lb } s)) = rd (R.CUE.POS_CFG_SRC d c') s) :
    exec (.encoderStep d e la lb) s = .next (noteEdges d e ((encoderOf d e s).a != la) ((encoderOf d e s).b != lb)
      (counterEdge d c e (encoderOf d e s) { a := la, b := lb } (setEncoder d e { a := la, b := lb } s))) := by
  refine Eq.trans (b := execEncoderStep d e la lb s) rfl ?_
  unfold execEncoderStep
  rw [if_neg (by rw [hup]; simp; omega)]
  dsimp only
  refine congrArg (fun x => Host.Outcome.next (noteEdges d e _ _ x)) ?_
  refine (foldl_once (a := c) (List.mem_range.mpr hc) List.nodup_range (fun b hb hne => if_neg (hother b (List.mem_range.mp hb) hne))
    fun b hb hne => if_neg fun h => hother b (List.mem_range.mp hb) hne ?_).trans (if_pos hsrc)
  rw [if_pos (show rd (R.CUE.POS_CFG_SRC d c) (setEncoder d e { a := la, b := lb } s) = e from hsrc)] at h
  exact (hkeep b (List.mem_range.mp hb)).symm.trans h

theorem counterEdge_one {d c e : Nat} {old new : Encoder} {s : State} (h : edgeKind d c e old new s = 1) :
    counterEdge d c e old new s = counterStep d c (!flag (R.CUE.POS_CFG_INV d c) s) s := by
  unfold counterEdge
  simp only [h]

theorem counterEdge_two {d c e : Nat} {old new : Encoder} {s : State} (h : edgeKind d c e old new s = 2) :
    counterEdge d c e old new s = counterStep d c (flag (R.CUE.POS_CFG_INV d c) s) s := by
  unfold counterEdge
  simp only [h]

/-- The registers and the state that an invalid change leaves. -/
def quadCounted (d c : Nat) (s : State) : State := evt d 0x60 4 (recordFault d 0x60 2 false (bump (R.CUE.POS_ERR_QUAD d c) s))

theorem counterEdge_three {d c e : Nat} {old new : Encoder} {s : State} (h : edgeKind d c e old new s = 3) :
    counterEdge d c e old new s = quadCounted d c s := by
  unfold counterEdge quadCounted
  simp only [h]

theorem quadCounted_touches (d c : Nat) (s : State) : Touches 0x1800000041004 s (quadCounted d c s) :=
  evt_touches rfl (recordFault_touches rfl (bump_touches rfl (.refl _ s)))

/-- An invalid change of the levels touches CUE's counter registers only in POS_ERR. -/
theorem rd_quadCounted {d c o i w : Nat} (s : State) (ho : 0x40 ≤ o ∧ o < 0x1000) :
    rd ⟨Layout.addr d 0x60 o, i, w⟩ (quadCounted d c s) = rd ⟨Layout.addr d 0x60 o, i, w⟩ (bump (R.CUE.POS_ERR_QUAD d c) s) :=
  (rd_cue_evt _ ho).trans
    (rd_recordFault_block (p := 0x60) (blockWord_addr (by decide) ho.2 (.inr ⟨by decide, by decide, by decide, ho.1⟩)) (by decide))

/-- With no edge of the other level within FILT a change is what its levels decode to. -/
theorem edgeKind_far {d c e n : Nat} {old new : Encoder} {s : State}
    (hfar : edgeNear d e (rd (R.CUE.POS_CFG_FILT d c) s) (old.a != new.a) (old.b != new.b) s = false)
    (hstep : decodeStep (rd (R.CUE.POS_CFG_MODE d c) s) old.a old.b new.a new.b = n) : edgeKind d c e old new s = n :=
  (if_neg fun h => Bool.false_ne_true (hfar.symm.trans h.2)).trans hstep

/-- An invalid change is an error, however near the other level's edge is. -/
theorem edgeKind_invalid {d c e : Nat} {old new : Encoder} {s : State}
    (hstep : decodeStep (rd (R.CUE.POS_CFG_MODE d c) s) old.a old.b new.a new.b = 3) : edgeKind d c e old new s = 3 := by
  unfold edgeKind
  dsimp only
  split
  · rfl
  · exact hstep

/-- The levels of the input are the new ones after the step. -/
theorem encoderOf_stepped (d e c : Nat) (x : Encoder) (a b : Bool) (s : State) :
    encoderOf d e (noteEdges d e a b (counterEdge d c e (encoderOf d e s) x (setEncoder d e x s))) = x :=
  calc encoderOf d e (noteEdges d e a b (counterEdge d c e (encoderOf d e s) x (setEncoder d e x s)))
      _ = encoderOf d e (counterEdge d c e (encoderOf d e s) x (setEncoder d e x s)) :=
        Touches.encoderOf_eq (m := 0x10000000000000000000000) (noteEdges_touches rfl (.refl _ _)) rfl d e
      _ = encoderOf d e (setEncoder d e x s) :=
        Touches.encoderOf_eq (m := 0xc1fb0182047004) (counterEdge_touches rfl (.refl _ _)) rfl d e
      _ = x := encoderOf_setEncoder ..

theorem encoderStep_counts {d e c n : Nat} {la lb : Bool} {s : State} (he : e < 8) (hc : c < 8) (hup : blockUp d 0x60 s = true)
    (hsrc : rd (R.CUE.POS_CFG_SRC d c) s = e) (hother : ∀ c' < 8, c' ≠ c → rd (R.CUE.POS_CFG_SRC d c') s ≠ e)
    (hoff : ∀ l < 2, stationOn (2 * d + l) s = false)
    (hfar : edgeNear d e (rd (R.CUE.POS_CFG_FILT d c) s) ((encoderOf d e s).a != la) ((encoderOf d e s).b != lb) s = false)
    (hstep : decodeStep (rd (R.CUE.POS_CFG_MODE d c) s) (encoderOf d e s).a (encoderOf d e s).b la lb = n) (hn : n = 1 ∨ n = 2) :
    ∃ t, exec (.encoderStep d e la lb) s = .next t ∧ encoderOf d e t = { a := la, b := lb } ∧
      counterOf d c t = (counterOf d c s).step (if n = 1 then !flag (R.CUE.POS_CFG_INV d c) s else flag (R.CUE.POS_CFG_INV d c) s)
        (counterC d s) := by
  have hkind : edgeKind d c e (encoderOf d e s) { a := la, b := lb } (setEncoder d e { a := la, b := lb } s) = n :=
    edgeKind_far (s := setEncoder d e { a := la, b := lb } s) hfar hstep
  have hoff' : ∀ l < 2, stationOn (2 * d + l) (setEncoder d e { a := la, b := lb } s) = false := hoff
  have hedge : counterEdge d c e (encoderOf d e s) { a := la, b := lb } (setEncoder d e { a := la, b := lb } s) =
      counterStep d c (if n = 1 then !flag (R.CUE.POS_CFG_INV d c) s else flag (R.CUE.POS_CFG_INV d c) s)
        (setEncoder d e { a := la, b := lb } s) := by
    rcases hn with rfl | rfl
    · exact counterEdge_one hkind
    · exact counterEdge_two hkind
  refine ⟨_, exec_encoderStep he hc hup hsrc hother fun c' hc' => ?_, encoderOf_stepped .., ?_⟩
  · rw [hedge]
    exact rd_counterStep hoff' (by omega)
  · rw [hedge]
    exact (Touches.counterOf_eq (m := 0x10000000000000000000000) (noteEdges_touches rfl (.refl _ _)) rfl d c).trans
      (counterOf_counterStep hoff')

theorem encoderStep_invalid {d e c : Nat} {la lb : Bool} {s : State} (he : e < 8) (hc : c < 8) (hup : blockUp d 0x60 s = true)
    (hsrc : rd (R.CUE.POS_CFG_SRC d c) s = e) (hother : ∀ c' < 8, c' ≠ c → rd (R.CUE.POS_CFG_SRC d c') s ≠ e)
    (hstep : decodeStep (rd (R.CUE.POS_CFG_MODE d c) s) (encoderOf d e s).a (encoderOf d e s).b la lb = 3) :
    ∃ t, exec (.encoderStep d e la lb) s = .next t ∧ encoderOf d e t = { a := la, b := lb } ∧ t.counters = s.counters ∧
      rd (R.CUE.POS_ERR_QUAD d c) t = Nat.min (rd (R.CUE.POS_ERR_QUAD d c) s + 1) 65535 := by
  have hedge : counterEdge d c e (encoderOf d e s) { a := la, b := lb } (setEncoder d e { a := la, b := lb } s) =
      quadCounted d c (setEncoder d e { a := la, b := lb } s) :=
    counterEdge_three (edgeKind_invalid (s := setEncoder d e { a := la, b := lb } s) hstep)
  have hnote (a b : Bool) (x : State) : Touches 0x10000000000000000000000 x (noteEdges d e a b x) := noteEdges_touches rfl (.refl _ _)
  refine ⟨_, exec_encoderStep he hc hup hsrc hother fun c' hc' => ?_, encoderOf_stepped .., ?_, ?_⟩
  · rw [hedge]
    exact (rd_quadCounted _ (by omega)).trans (rd_bump_ne _ (addr_ne_offset (by omega)))
  · rw [hedge]
    exact ((hnote ..).counters rfl).trans ((quadCounted_touches d c _).counters rfl)
  · rw [hedge]
    exact ((hnote ..).rd_eq rfl _).trans ((rd_quadCounted _ (by omega)).trans (rd_bump_same _ (show 0 + 16 ≤ 32 by decide)))

/-! ### Index edges (R329, R331) -/

/-- What an index edge of input `e` does to counter `c`. -/
def indexTaken (d e c : Nat) (s : State) : State :=
  if rd (R.CUE.POS_CFG_SRC d c) s ≠ e then s
  else
    let k := counterOf d c s
    let s1 := focIndex d c (wr (R.CUE.POS_IDX_COUNT d c) k.count s)
    if flag (R.CUE.POS_CFG_IDX_ZERO d c) s1 then
      wr (R.CUE.POS_CFG_IDX_ZERO d c) 0 (setCounter d c { k with count := 0 } s1)
    else s1

theorem exec_encoderIndex {d e : Nat} {s : State} (hup : blockUp d 0x60 s = true) :
    exec (.encoderIndex d e) s = .next ((List.range 8).foldl (fun s c => indexTaken d e c s) s) := by
  refine Eq.trans (b := execEncoderIndex d e s) rfl ?_
  unfold execEncoderIndex
  rw [if_neg (by rw [hup]; decide)]
  rfl

/-- The counter of an index edge with its count shown, before IDX_ZERO is looked at. -/
def indexShown (d c : Nat) (s : State) : State := focIndex d c (wr (R.CUE.POS_IDX_COUNT d c) (counterOf d c s).count s)

theorem indexShown_touches (d c : Nat) (s : State) : Touches 0x2000000000004 s (indexShown d c s) :=
  focIndex_touches rfl (wr_touches rfl (.refl _ s))

theorem rd_indexShown (d c : Nat) (l : Loc) (s : State) :
    rd l (indexShown d c s) = rd l (wr (R.CUE.POS_IDX_COUNT d c) (counterOf d c s).count s) :=
  Touches.rd_eq (m := 0x2000000000000) (focIndex_touches rfl (.refl _ _)) rfl l

theorem indexTaken_zero {d e c : Nat} {s : State} (hsrc : rd (R.CUE.POS_CFG_SRC d c) s = e)
    (hzero : flag (R.CUE.POS_CFG_IDX_ZERO d c) (indexShown d c s) = true) :
    indexTaken d e c s =
      wr (R.CUE.POS_CFG_IDX_ZERO d c) 0 (setCounter d c { counterOf d c s with count := 0 } (indexShown d c s)) := by
  unfold indexShown at hzero ⊢
  unfold indexTaken
  dsimp only
  rw [if_neg (not_not_intro hsrc), if_pos hzero]

theorem indexTaken_count {d e c : Nat} {s : State} (hsrc : rd (R.CUE.POS_CFG_SRC d c) s = e)
    (hzero : flag (R.CUE.POS_CFG_IDX_ZERO d c) (indexShown d c s) = false) : indexTaken d e c s = indexShown d c s := by
  unfold indexShown at hzero ⊢
  unfold indexTaken
  dsimp only
  rw [if_neg (not_not_intro hsrc), if_neg (ne_true_of_eq_false hzero)]

theorem indexTaken_self {d e c : Nat} {s : State} (hc : c < 8) (hsrc : rd (R.CUE.POS_CFG_SRC d c) s = e) :
    rd (R.CUE.POS_IDX_COUNT d c) (indexTaken d e c s) = (counterOf d c s).count % 4294967296 ∧
      flag (R.CUE.POS_CFG_IDX_ZERO d c) (indexTaken d e c s) = false ∧
      (counterOf d c (indexTaken d e c s)).count = (if flag (R.CUE.POS_CFG_IDX_ZERO d c) s then 0 else (counterOf d c s).count) := by
  have hshown : rd (R.CUE.POS_IDX_COUNT d c) (indexShown d c s) = (counterOf d c s).count % 4294967296 :=
    (rd_indexShown ..).trans (rd_wr_same _ _ (show 0 + 32 ≤ 32 by decide))
  have hflag : flag (R.CUE.POS_CFG_IDX_ZERO d c) (indexShown d c s) = flag (R.CUE.POS_CFG_IDX_ZERO d c) s :=
    congrArg (· != 0) ((rd_indexShown ..).trans (rd_wr_ne _ _ (addr_ne_offset (by omega))))
  rw [← hflag]
  cases hzero : flag (R.CUE.POS_CFG_IDX_ZERO d c) (indexShown d c s)
  · rw [indexTaken_count hsrc hzero]
    exact ⟨hshown, hzero, congrArg PosCounter.count ((indexShown_touches d c s).counterOf_eq rfl d c)⟩
  · rw [indexTaken_zero hsrc hzero]
    refine ⟨(rd_wr_ne _ _ (addr_ne_offset (by omega))).trans ((rd_setCounter ..).trans hshown), flag_wr_zero _ (show 7 + 1 ≤ 32 by decide), ?_⟩
    exact congrArg PosCounter.count ((Touches.counterOf_eq (m := 4) (wr_touches rfl (.refl _ _)) rfl d c).trans
      (counterOf_setCounter ..))

/-- Another counter's index edge touches the registers of that counter alone. -/
theorem rd_indexTaken_ne {d e b o i w : Nat} (s : State) (hcfg : o ≠ 0x140 + 4 * b) (hidx : o ≠ 0x1A0 + 4 * b) :
    rd ⟨Layout.addr d 0x60 o, i, w⟩ (indexTaken d e b s) = rd ⟨Layout.addr d 0x60 o, i, w⟩ s := by
  have hshown : rd ⟨Layout.addr d 0x60 o, i, w⟩ (indexShown d b s) = rd ⟨Layout.addr d 0x60 o, i, w⟩ s :=
    (rd_indexShown ..).trans (rd_wr_ne _ _ (addr_ne_offset hidx))
  by_cases hsrc : rd (R.CUE.POS_CFG_SRC d b) s = e
  · cases hzero : flag (R.CUE.POS_CFG_IDX_ZERO d b) (indexShown d b s)
    · rw [indexTaken_count hsrc hzero, hshown]
    · rw [indexTaken_zero hsrc hzero]
      exact (rd_wr_ne _ _ (addr_ne_offset hcfg)).trans ((rd_setCounter ..).trans hshown)
  · rw [show indexTaken d e b s = s from if_pos hsrc]

theorem counterOf_indexTaken_ne {d e b c : Nat} (s : State) (h : c ≠ b) : counterOf d c (indexTaken d e b s) = counterOf d c s := by
  have hshown : counterOf d c (indexShown d b s) = counterOf d c s := (indexShown_touches d b s).counterOf_eq rfl d c
  by_cases hsrc : rd (R.CUE.POS_CFG_SRC d b) s = e
  · cases hzero : flag (R.CUE.POS_CFG_IDX_ZERO d b) (indexShown d b s)
    · rw [indexTaken_count hsrc hzero, hshown]
    · rw [indexTaken_zero hsrc hzero]
      exact (Touches.counterOf_eq (m := 4) (wr_touches rfl (.refl _ _)) rfl d c).trans
        ((counterOf_setCounter_ne _ _ (by omega)).trans hshown)
  · rw [show indexTaken d e b s = s from if_pos hsrc]

/-- What an index edge of input `e` leaves in a counter that follows it. -/
theorem encoderIndex_takes {d e c : Nat} {s : State} (hc : c < 8) (hsrc : rd (R.CUE.POS_CFG_SRC d c) s = e) :
    rd (R.CUE.POS_IDX_COUNT d c) ((List.range 8).foldl (fun s c => indexTaken d e c s) s) = (counterOf d c s).count % 4294967296 ∧
      flag (R.CUE.POS_CFG_IDX_ZERO d c) ((List.range 8).foldl (fun s c => indexTaken d e c s) s) = false ∧
      (counterOf d c ((List.range 8).foldl (fun s c => indexTaken d e c s) s)).count =
        (if flag (R.CUE.POS_CFG_IDX_ZERO d c) s then 0 else (counterOf d c s).count) := by
  refine foldl_at_mem (a := c)
    (P := fun t => rd (R.CUE.POS_CFG_SRC d c) t = e ∧ flag (R.CUE.POS_CFG_IDX_ZERO d c) t = flag (R.CUE.POS_CFG_IDX_ZERO d c) s ∧
      counterOf d c t = counterOf d c s)
    (Q := fun t => rd (R.CUE.POS_IDX_COUNT d c) t = (counterOf d c s).count % 4294967296 ∧
      flag (R.CUE.POS_CFG_IDX_ZERO d c) t = false ∧
      (counterOf d c t).count = (if flag (R.CUE.POS_CFG_IDX_ZERO d c) s then 0 else (counterOf d c s).count))
    (List.mem_range.mpr hc) List.nodup_range ?_ ?_ ?_ ⟨hsrc, rfl, rfl⟩
  · rintro b hb hne t ⟨ht, hz, hk⟩
    have hb := List.mem_range.mp hb
    exact ⟨(rd_indexTaken_ne t (by omega) (by omega)).trans ht,
      (congrArg (· != 0) (rd_indexTaken_ne t (by omega) (by omega))).trans hz, (counterOf_indexTaken_ne t hne.symm).trans hk⟩
  · rintro t ⟨ht, hz, hk⟩
    rw [← hz, ← hk]
    exact indexTaken_self hc ht
  · rintro b hb hne t ⟨ht, hz, hk⟩
    have hb := List.mem_range.mp hb
    exact ⟨(rd_indexTaken_ne t (by omega) (by omega)).trans ht,
      (congrArg (· != 0) (rd_indexTaken_ne t (by omega) (by omega))).trans hz,
      (congrArg PosCounter.count (counterOf_indexTaken_ne t hne.symm)).trans hk⟩

/-! ### A counter shifted (R332) -/

/-- Beyond the counter itself, POS_ADJ touches no position counter. -/
theorem counterOf_posAdjust (d c c' : Nat) (s : State) :
    counterOf d c' (posAdjust d c s) = counterOf d c' (setCounter d c { counterOf d c s with
      count := ofSigned 48 (((counterOf d c s).count : Int) + rdS (R.CUE.POS_ADJ_DELTA d) s) } s) := by
  unfold posAdjust
  dsimp only
  refine Touches.counterOf_eq (m := 0x180000000004) (gearAdjust_touches rfl ?_) rfl d c'
  refine foldl_touches (fun _ _ h => putResume_touches rfl (setStartList_touches rfl h)) ?_
  exact foldl_touches (fun _ _ h => touches_ite (cueStore_touches rfl (setCue_touches rfl h)) h) (.refl _ _)

theorem exec_posAdj_adjusts {a : Access} {d : Nat} {v : Word} {s : State} (h : Reaches a d 0x60 0x50 s) :
    exec (.posAdj a d v) s = .next (posAdjust d (v.toNat % 8) (landWrite a.rq d s)) := by
  have hor : (v ||| 0x80000000).toNat % 8 = v.toNat % 8 := by
    rw [BitVec.toNat_or, show (8 : Nat) = 2 ^ 3 from rfl, Nat.or_mod_two_pow]
    exact Nat.or_zero _
  rw [exec_posAdj h, if_pos (testBit_or_of_set (by decide)), hor]

theorem posAdj_shifts {a : Access} {d : Nat} {v : Word} {s : State} (h : Reaches a d 0x60 0x50 s) :
    ∃ t, exec (.posAdj a d v) s = .next t ∧
      (counterOf d (v.toNat % 8) t).count = ofSigned 48 (((counterOf d (v.toNat % 8) s).count : Int) + rdS (R.CUE.POS_ADJ_DELTA d) s) ∧
      ∀ c < 8, c ≠ v.toNat % 8 → counterOf d c t = counterOf d c s := by
  refine ⟨_, exec_posAdj_adjusts h, ?_, fun c hc hne => ?_⟩
  · rw [counterOf_posAdjust, counterOf_setCounter]
    rfl
  · rw [counterOf_posAdjust, counterOf_setCounter_ne _ _ (by omega)]
    rfl

/-! ### Mark inputs (R321, R322) -/

theorem Touches.markOf_eq {m : Nat} {z s : State} (h : Touches m z s) (hm : m.testBit 77 = false) (d j : Nat) : markOf d j s = markOf d j z :=
  markOf_congr d j (h.marks hm)

theorem markOf_showMark (d m : Nat) (s : State) : markOf d m (showMark d m s) = markOf d m s :=
  Touches.markOf_eq (m := 4) (showMark_touches rfl (.refl _ s)) rfl d m

/-- The registers of a capture lie apart from a field of the input's status other than FIFO. -/
theorem rd_showMark {d m i w : Nat} (s : State) (hm : m < 4) (hi : 5 ≤ i) :
    rd ⟨Layout.addr d 0x71 (0x410 + 4 * m), i, w⟩ (showMark d m s) = rd ⟨Layout.addr d 0x71 (0x410 + 4 * m), i, w⟩ s := by
  unfold showMark
  dsimp only
  rw [rd_wr_of_apart (m := R.PIO.MARK_P_LO_P d m) (apart_page (.inl (by omega))),
    rd_wr_of_apart (m := R.PIO.MARK_P_HI_P d m) (apart_page (.inl (by omega))),
    rd_wr_of_apart (m := R.PIO.MARK_T_B_IDX d m) (apart_page (.inl (by omega))),
    rd_wr_of_apart (m := R.PIO.MARK_T_STIME d m) (apart_page (.inl (by omega))),
    rd_wr_of_apart (m := R.PIO.MARK_STAT_FIFO d m) (apart_page (.inr ⟨by decide, .inr (by omega)⟩))]

theorem rd_showMark_fifo {d m : Nat} (s : State) (hm : m < 4) :
    rd (R.PIO.MARK_STAT_FIFO d m) (showMark d m s) = (markOf d m s).fifo.length % 32 := by
  have hne (x : Nat) (h : 0x410 + 4 * m ≠ x) : (R.PIO.MARK_STAT_FIFO d m).addr ≠ Layout.addr d 0x71 x := addr_ne_offset h
  unfold showMark
  dsimp only
  rw [rd_wr_ne (m := R.PIO.MARK_P_LO_P d m) _ _ (hne _ (by omega)), rd_wr_ne (m := R.PIO.MARK_P_HI_P d m) _ _ (hne _ (by omega)),
    rd_wr_ne (m := R.PIO.MARK_T_B_IDX d m) _ _ (hne _ (by omega)), rd_wr_ne (m := R.PIO.MARK_T_STIME d m) _ _ (hne _ (by omega)),
    rd_wr_same _ _ (show 0 + 5 ≤ 32 by decide)]
  rfl

/-- The capture of an edge of input `m` whose level has lasted `held` ns. -/
def captureOf (d m held : Nat) (s : State) : Nat × Nat × Nat :=
  ((stime d s + 4294967296 - held % 4294967296) % 4294967296, rd (R.PIO.MARK_STAT_INDEX d m) s,
    (counterOf d (rd (R.PIO.MARK_CFG_COUNTER d m) s) s).posAt (counterC d s - held))

/-- A capture goes to the FIFO; a full one counts it as lost. -/
def captureKept (d m held : Nat) (s : State) : State :=
  if (markOf d m s).fifo.length < 16 then
    setMark d m { markOf d m s with fifo := (markOf d m s).fifo ++ [captureOf d m held s] } s
  else evt d 0x71 24 (bump (R.PIO.MARK_STAT_LOST d m) s)

theorem exec_markCapture {d m held : Nat} {rising : Bool} {s : State} (hm : m < 4) (hup : pioOn d s = true)
    (hen : flag (R.PIO.MARK_CFG_EN d m) s = true)
    (hedge : rd (R.PIO.MARK_CFG_EDGE d m) s = 2 ∨ rd (R.PIO.MARK_CFG_EDGE d m) s = (if rising then 0 else 1))
    (hheld : rd (R.PIO.MARK_CFG_FILT d m) s ≤ held) (hwin : flag (R.PIO.MARK_CFG_CUE_EN d m) s = false) :
    exec (.markCapture d m (rising, held)) s = .next (showMark d m (captureKept d m held s)) := by
  have hseen : ¬ (4 ≤ m ∨ held < rd (R.PIO.MARK_CFG_FILT d m) s ∨ (!pioOn d s) = true ∨ (!flag (R.PIO.MARK_CFG_EN d m) s) = true ∨
      (rd (R.PIO.MARK_CFG_EDGE d m) s = 0 ∧ (!rising) = true) ∨ (rd (R.PIO.MARK_CFG_EDGE d m) s = 1 ∧ rising = true)) := by
    rw [hup, hen]
    cases rising <;> simp at hedge ⊢ <;> omega
  refine Eq.trans (b := execMarkCapture d m (rising, held) s) rfl ?_
  unfold execMarkCapture
  dsimp only
  rw [if_neg hseen, hwin, Bool.not_false, if_pos rfl]
  rfl

theorem captureKept_fifo (d m held : Nat) (s : State) : (markOf d m (captureKept d m held s)).fifo =
    if (markOf d m s).fifo.length < 16 then (markOf d m s).fifo ++ [captureOf d m held s] else (markOf d m s).fifo := by
  unfold captureKept
  split
  · rw [markOf_setMark]
  · rw [Touches.markOf_eq (m := 0x1004) (evt_touches rfl (bump_touches rfl (.refl _ s))) rfl]

theorem captureKept_lost {d m held : Nat} {s : State} (hm : m < 4) (h : 16 ≤ (markOf d m s).fifo.length) :
    rd (R.PIO.MARK_STAT_LOST d m) (captureKept d m held s) = Nat.min (rd (R.PIO.MARK_STAT_LOST d m) s + 1) 65535 := by
  have hblock : BlockWord (Layout.addr d 0x71 (0x410 + 4 * m)) := blockWord_addr (by decide) (by omega) (.inr (by omega))
  unfold captureKept
  rw [if_neg (Nat.not_lt.mpr h), rd_evt_block (p := 0x71) hblock (by decide)]
  exact rd_bump_same _ (show 16 + 16 ≤ 32 by decide)

theorem markCapture_captures {d m held : Nat} {rising : Bool} {s : State} (hm : m < 4) (hup : pioOn d s = true)
    (hen : flag (R.PIO.MARK_CFG_EN d m) s = true)
    (hedge : rd (R.PIO.MARK_CFG_EDGE d m) s = 2 ∨ rd (R.PIO.MARK_CFG_EDGE d m) s = (if rising then 0 else 1))
    (hheld : rd (R.PIO.MARK_CFG_FILT d m) s ≤ held) (hwin : flag (R.PIO.MARK_CFG_CUE_EN d m) s = false) :
    ∃ t, exec (.markCapture d m (rising, held)) s = .next t ∧
      (markOf d m t).fifo = (if (markOf d m s).fifo.length < 16 then (markOf d m s).fifo ++ [captureOf d m held s]
        else (markOf d m s).fifo) ∧
      (16 ≤ (markOf d m s).fifo.length →
        rd (R.PIO.MARK_STAT_LOST d m) t = Nat.min (rd (R.PIO.MARK_STAT_LOST d m) s + 1) 65535) := by
  refine ⟨_, exec_markCapture hm hup hen hedge hheld hwin, ?_, fun hfull => ?_⟩
  · rw [markOf_showMark, captureKept_fifo]
  · exact (rd_showMark _ hm (by decide)).trans (captureKept_lost hm hfull)

/-- The four registers of MARK_P_LO pop the FIFO of their own input, and none is a live view. -/
theorem readEffect_markPop {d m : Nat} (s : State) (hm : m < 4) :
    readEffect d 0x71 (0x450 + 4 * m) s = markPop d m s ∧ liveView d 0x71 (0x450 + 4 * m) s = none := by
  interval_cases m <;> exact ⟨rfl, rfl⟩

theorem markPop_pops {d m : Nat} (s : State) (hm : m < 4) : (markOf d m (markPop d m s)).fifo = (markOf d m s).fifo.drop 1 ∧
    rd (R.PIO.MARK_STAT_FIFO d m) (markPop d m s) = ((markOf d m s).fifo.length - 1) % 32 := by
  unfold markPop
  constructor
  · rw [markOf_showMark, markOf_setMark]
  · rw [rd_showMark_fifo _ hm, markOf_setMark, List.length_drop]

theorem markOf_answered (d m : Nat) (c : Completion) (s : State) : markOf d m { s with resp := c } = markOf d m s := rfl

theorem markCaptureRead_pops {a : Access} {d m : Nat} {s : State} (hm : m < 4) (h : Answers a d 0x71 s) :
    ∃ t, exec (.markCaptureRead a d m) s = .next t ∧ (markOf d m t).fifo = (markOf d m s).fifo.drop 1 ∧
      t.resp.value.toNat = rd (R.PIO.MARK_P_LO_P d m) s ∧
      rd (R.PIO.MARK_STAT_FIFO d m) t = ((markOf d m s).fifo.length - 1) % 32 := by
  obtain ⟨heffect, hview⟩ := readEffect_markPop s hm
  obtain ⟨hfifo, hstat⟩ := markPop_pops s hm
  refine ⟨_, exec_markCaptureRead hm h, ?_, ?_, ?_⟩
  · rw [heffect, markOf_answered]
    exact hfifo
  · rw [hview, toNat_answer, Option.getD_none]
    exact (Nat.mod_eq_of_lt (word _ s).isLt).trans (bitsOf_word _).symm
  · rw [heffect, rd_answered]
    exact hstat

/-! ### Held outputs of auto-registration (R325) -/

theorem aregHeldStage_stages {k v : Nat} {e : Int} {s : State} (hfind : s.aregOut.find? (fun x => x.1 == k) = some (v, e))
    (hfree : slotBusy (stDie k) (rd (R.PIO.AREG_CFG_SLOT (stDie k) (stLoc k)) s) s = false)
    (hen : flag (R.PIO.AREG_CFG_EN (stDie k) (stLoc k)) s = true) :
    ∃ t, exec (.aregHeldStage k) s = .next t ∧ t.aregOut = s.aregOut.filter (fun x => x.1 != k) ∧
      rd (R.TXN.TXS_STAT_STATE (stDie k) (rd (R.PIO.AREG_CFG_SLOT (stDie k) (stLoc k)) s)) t = 4 := by
  refine ⟨_, rfl, ?_, ?_⟩
  all_goals
    unfold aregStage
    simp only [hfind]
    rw [if_neg (by rw [hfree, hen]; decide)]
  · refine (Touches.aregOut (m := 0x400004) (slotArm_touches rfl (.refl _ _)) rfl).trans ?_
    exact congrArg (List.filter _) (Touches.aregOut (m := 4) (wr_touches rfl (wr_touches rfl (slotStage_touches rfl (.refl _ s)))) rfl)
  · exact rd_slotArm_state ..

/-- Settles O31: captures and index edges by what they write, counters by the fields each command leaves alone. -/
theorem markAndCounterCommandsAct : Obligations.MarkAndCounterCommandsAct := by
  unfold Obligations.MarkAndCounterCommandsAct
  refine ⟨fun d m held rising s hm hup hen hedge hheld hwin => markCapture_captures hm hup hen hedge hheld hwin,
    fun a d m s hm h => markCaptureRead_pops hm h, fun k v e s hfind hfree hen => aregHeldStage_stages hfind hfree hen,
    fun d e c n la lb s he hc hup hsrc hother hoff hfar hstep hn => encoderStep_counts he hc hup hsrc hother hoff hfar hstep hn,
    fun d e c la lb s he hc hup hsrc hother hstep => encoderStep_invalid he hc hup hsrc hother hstep,
    fun d e s hup => ⟨_, exec_encoderIndex hup, fun c hc hsrc => encoderIndex_takes hc hsrc⟩, fun a d v s h => posAdj_shifts h⟩

end Sys2Proof.Machine
end

section
/-! PROOFS. Calibration sets and ageing (R314, R316, R319, R320). -/

namespace Sys2Proof.Machine

/-! ### Calibration sets (R314) -/

theorem Touches.calJobOf_eq {m : Nat} {z s : State} (h : Touches m z s) (hm : m.testBit 78 = false) (d : Nat) : calJobOf d s = calJobOf d z :=
  calJobOf_congr d (h.calJobs hm)

theorem rd_calStat_evt {d i w b : Nat} (s : State) :
    rd ⟨Layout.addr d 0x71 0x584, i, w⟩ (evt d 0x71 b s) = rd ⟨Layout.addr d 0x71 0x584, i, w⟩ s :=
  rd_evt_block (p := 0x71) (blockWord_addr (by decide) (by decide) (.inr (by decide))) (by decide)

/-- What the registers show, and what is under way, once a load has ended with a result. -/
theorem calEnd_ends {d r : Nat} (s : State) (hr : r < 8) :
    rd (R.PIO.CAL_STAT_RESULT d) (calEnd d r s) = r ∧ flag (R.PIO.CAL_STAT_VALID d) (calEnd d r s) = true ∧
      flag (R.PIO.CAL_STAT_BUSY d) (calEnd d r s) = false ∧ calJobOf d (calEnd d r s) = none := by
  have hkept {i w : Nat} (x : State) (h : i + w ≤ 31) : rd ⟨Layout.addr d 0x71 0x584, i, w⟩ (evt d 0x71 28 (wr (R.PIO.CAL_STAT_VALID d) 1 x)) =
      rd ⟨Layout.addr d 0x71 0x584, i, w⟩ x :=
    (rd_calStat_evt _).trans (rd_wr_of_apart (apart_page (.inr ⟨by decide, .inl h⟩)) _ _)
  unfold calEnd
  refine ⟨(hkept _ (show 1 + 3 ≤ 31 by decide)).trans ?_, ?_, ?_, ?_⟩
  · exact (rd_wr_same _ _ (show 1 + 3 ≤ 32 by decide)).trans (Nat.mod_eq_of_lt hr)
  · exact (congrArg (· != 0) (rd_calStat_evt _)).trans (flag_wr_one _ (show 31 + 1 ≤ 32 by decide) rfl)
  · refine (congrArg (· != 0) ((hkept _ (show 0 + 1 ≤ 31 by decide)).trans
      (rd_wr_of_apart (m := R.PIO.CAL_STAT_RESULT d) (apart_page (.inr ⟨by decide, .inl (by decide)⟩)) _ _))).trans ?_
    exact flag_wr_zero _ (show 0 + 1 ≤ 32 by decide)
  · exact (Touches.calJobOf_eq (m := 0x1004) (evt_touches rfl (wr_touches rfl (wr_touches rfl (wr_touches rfl (.refl _ _))))) rfl d).trans
      (calJobOf_setCalJob ..)

theorem nvReadChecked_good {d o n : Nat} {s : State} (h : nvBadIn d o n s = false) : nvReadChecked d o n s = (nvRead d o n s, false, s) :=
  if_neg (ne_true_of_eq_false h)

theorem nvReadChecked_bad {d o n : Nat} {s : State} (h : nvBadIn d o n s = true) : (nvReadChecked d o n s).2.1 = true := by
  unfold nvReadChecked
  rw [if_pos h]

/-- A read that meets no uncorrectable word changes nothing. -/
theorem nvReadChecked_sound {d o n : Nat} {s : State} (h : (nvReadChecked d o n s).2.1 = false) : (nvReadChecked d o n s).2.2 = s := by
  cases hbad : nvBadIn d o n s
  · rw [nvReadChecked_good hbad]
  · exact absurd ((nvReadChecked_bad hbad).symm.trans h) (by decide)

theorem calCheck_le (d l : Nat) (b : List Byte) (s : State) : calCheck d l b s ≤ 2 := by
  unfold calCheck
  split_ifs <;> decide

/-- The load that GO begins with the registers of CAL_LOAD as they stand. -/
def calJobNew (d : Nat) (s : State) : CalJob where
  l := rd (R.PIO.CAL_LOAD_STATION d) s
  set := rd (R.PIO.CAL_LOAD_SET d) s
  slot := rd (R.PIO.CAL_LOAD_SLOT d) s
  plumb := 1 - rd (R.STA.SEL_PLUMB_BANK d (rd (R.PIO.CAL_LOAD_STATION d) s)) s
  facet := 1 - rd (R.STA.SEL_FACET_BANK d (rd (R.PIO.CAL_LOAD_STATION d) s)) s
  lin := 1 - rd (R.STIM.LIN_LIN_BANK d (rd (R.PIO.CAL_LOAD_STATION d) s)) s

/-- GO with a set whose words can be read: its checks decide, then the slot. -/
theorem calGo_readable {d : Nat} {s : State} (hbusy : flag (R.PIO.CAL_STAT_BUSY d) s = false)
    (hread : (nvReadChecked d (calOffset (rd (R.PIO.CAL_LOAD_STATION d) s) (rd (R.PIO.CAL_LOAD_SET d) s)) 8192 s).2.1 = false) {r : Nat}
    (hr : calCheck d (rd (R.PIO.CAL_LOAD_STATION d) s)
      (nvReadChecked d (calOffset (rd (R.PIO.CAL_LOAD_STATION d) s) (rd (R.PIO.CAL_LOAD_SET d) s)) 8192 s).1 s = r) :
    calGo d s = if r ≠ 0 then calEnd d r s else if slotBusy d (rd (R.PIO.CAL_LOAD_SLOT d) s) s then calEnd d 3 s
      else wr (R.PIO.CAL_STAT_BUSY d) 1 (setCalJob d (some (calJobNew d s)) s) := by
  unfold calGo calJobNew
  dsimp only
  rw [nvReadChecked_sound hread, hr, hread, if_neg (ne_true_of_eq_false hbusy), if_neg Bool.false_ne_true]

theorem exec_calLoad_go {a : Access} {d : Nat} {v : Word} {s : State} (h : Reaches a d 0x71 0x580 s) :
    exec (.calLoad a d v) s = .next (calGo d ((RegWrite.of a d 0x71 0x580 (v ||| 0x80000000)).store (landWrite a.rq d s))) := by
  rw [exec_calLoad h, if_pos (testBit_or_of_set (by decide))]

theorem calGo_refuses {d r : Nat} {s : State} (hbusy : flag (R.PIO.CAL_STAT_BUSY d) s = false)
    (hread : (nvReadChecked d (calOffset (rd (R.PIO.CAL_LOAD_STATION d) s) (rd (R.PIO.CAL_LOAD_SET d) s)) 8192 s).2.1 = false)
    (hr : calCheck d (rd (R.PIO.CAL_LOAD_STATION d) s)
      (nvReadChecked d (calOffset (rd (R.PIO.CAL_LOAD_STATION d) s) (rd (R.PIO.CAL_LOAD_SET d) s)) 8192 s).1 s = r) (hne : r ≠ 0) :
    rd (R.PIO.CAL_STAT_RESULT d) (calGo d s) = r ∧ flag (R.PIO.CAL_STAT_VALID d) (calGo d s) = true ∧
      flag (R.PIO.CAL_STAT_BUSY d) (calGo d s) = false ∧ calJobOf d (calGo d s) = none := by
  have hle := hr ▸ calCheck_le d _ _ _
  rw [calGo_readable hbusy hread hr, if_pos hne]
  exact calEnd_ends s (by omega)

theorem calGo_loads {d : Nat} {s : State} (hbusy : flag (R.PIO.CAL_STAT_BUSY d) s = false)
    (hread : (nvReadChecked d (calOffset (rd (R.PIO.CAL_LOAD_STATION d) s) (rd (R.PIO.CAL_LOAD_SET d) s)) 8192 s).2.1 = false)
    (hr : calCheck d (rd (R.PIO.CAL_LOAD_STATION d) s)
      (nvReadChecked d (calOffset (rd (R.PIO.CAL_LOAD_STATION d) s) (rd (R.PIO.CAL_LOAD_SET d) s)) 8192 s).1 s = 0)
    (hfree : slotBusy d (rd (R.PIO.CAL_LOAD_SLOT d) s) s = false) :
    flag (R.PIO.CAL_STAT_BUSY d) (calGo d s) = true ∧ calJobOf d (calGo d s) = some (calJobNew d s) := by
  rw [calGo_readable hbusy hread hr, if_neg (not_not_intro rfl), if_neg (ne_true_of_eq_false hfree)]
  exact ⟨flag_wr_one _ (show 0 + 1 ≤ 32 by decide) rfl,
    (Touches.calJobOf_eq (m := 4) (wr_touches rfl (.refl _ _)) rfl d).trans (calJobOf_setCalJob ..)⟩

/-- Whichever way page memory answers, the load ends with a result that meets `P`. -/
theorem calEnd_ite {p : Prop} [Decidable p] {P : Nat → Prop} {d q r : Nat} {a b : State} (hq : P q) (hr : P r) :
    ∃ n x, (if p then Host.Outcome.next (calEnd d q a) else .next (calEnd d r b) : Host.Outcome State Fault Refusal) =
      .next (calEnd d n x) ∧ P n := by
  split
  · exact ⟨q, a, rfl, hq⟩
  · exact ⟨r, b, rfl, hr⟩

/-- Every load that ends does so with a result: 5, 4 or 0. -/
theorem execCalLoadEnd_ends {d : Nat} {c : CalJob} {s : State} (h : calJobOf d s = some c) :
    ∃ r x, execCalLoadEnd d s = .next (calEnd d r x) ∧ r < 8 ∧ (nvBadIn d (calOffset c.l c.set) 8192 s = true → r = 5) ∧
      (nvBadIn d (calOffset c.l c.set) 8192 s = false →
        if (calRefused d (!flag (R.STA.CFG_HEAD d c.l) s) c s).isSome then r = 4 else r = 0 ∨ r = 5) := by
  unfold execCalLoadEnd
  simp only [h]
  cases hbad : nvBadIn d (calOffset c.l c.set) 8192 s
  · rw [nvReadChecked_good hbad, if_neg Bool.false_ne_true]
    cases hrefused : calRefused d (!flag (R.STA.CFG_HEAD d c.l) s) c s
    · exact calEnd_ite ⟨by decide, by simp, by simp⟩ ⟨by decide, by simp, by simp⟩
    · exact ⟨_, _, rfl, by decide, by simp, by simp⟩
  · rw [if_pos (nvReadChecked_bad hbad)]
    exact ⟨_, _, rfl, by decide, by simp, by simp⟩

theorem calLoadEnd_ends {d : Nat} {c : CalJob} {s : State} (h : calJobOf d s = some c) :
    ∃ t, exec (.calLoadEnd d) s = .next t ∧ calJobOf d t = none ∧ flag (R.PIO.CAL_STAT_BUSY d) t = false ∧
      flag (R.PIO.CAL_STAT_VALID d) t = true ∧
      (nvBadIn d (calOffset c.l c.set) 8192 s = true → rd (R.PIO.CAL_STAT_RESULT d) t = 5) ∧
      (nvBadIn d (calOffset c.l c.set) 8192 s = false →
        if (calRefused d (!flag (R.STA.CFG_HEAD d c.l) s) c s).isSome then rd (R.PIO.CAL_STAT_RESULT d) t = 4
        else rd (R.PIO.CAL_STAT_RESULT d) t = 0 ∨ rd (R.PIO.CAL_STAT_RESULT d) t = 5) := by
  obtain ⟨r, x, hexec, hr, hbad, hgood⟩ := execCalLoadEnd_ends h
  obtain ⟨hresult, hvalid, hbusy, hjob⟩ := calEnd_ends (d := d) x hr
  refine ⟨calEnd d r x, hexec, hjob, hbusy, hvalid, ?_⟩
  rw [hresult]
  exact ⟨hbad, hgood⟩

/-! ### The actions of ageing (R316, R320) -/

theorem Touches.ageOf_eq {m : Nat} {z s : State} (h : Touches m z s) (hm : m.testBit 79 = false) (k : Nat) : ageOf k s = ageOf k z :=
  ageOf_congr k (h.ages hm)

theorem ageOf_ageStart (k a : Nat) (s : State) : ageOf k (ageStart k a s) = { ageOf k s with action := a } :=
  (Touches.ageOf_eq (m := 4) (wr_touches rfl (.refl _ _)) rfl k).trans (ageOf_setAge ..)

theorem ageStart_busy (k a : Nat) (s : State) : flag (R.PIO.AGE_CTL_BUSY (stDie k) (stLoc k)) (ageStart k a s) = true :=
  flag_wr_one _ (show 8 + 1 ≤ 32 by decide) rfl

theorem ageStart_begins (k a : Nat) (s : State) :
    (ageOf k (ageStart k a s)).action = a ∧ flag (R.PIO.AGE_CTL_BUSY (stDie k) (stLoc k)) (ageStart k a s) = true :=
  ⟨congrArg AgeRun.action (ageOf_ageStart ..), ageStart_busy ..⟩

theorem ageIdle_ends (k : Nat) (s : State) :
    (ageOf k (ageIdle k s)).action = 0 ∧ flag (R.PIO.AGE_CTL_BUSY (stDie k) (stLoc k)) (ageIdle k s) = false :=
  ⟨congrArg AgeRun.action ((Touches.ageOf_eq (m := 4) (wr_touches rfl (.refl _ _)) rfl k).trans (ageOf_setAge ..)),
    flag_wr_zero _ (show 8 + 1 ≤ 32 by decide)⟩

section
variable {k w : Nat} {b : Bool} {s : State}

/-- RESTORE of an idle station with EN 0. -/
theorem ageCtl_restore (h0 : testBit w 0 = false) (h1 : testBit w 1 = true) (hidle : (ageOf k s).action = 0) :
    ageCtl k b w s = ageStart k 1 s := by
  unfold ageCtl
  simp [h0, h1, hidle, (ageStart_begins k 1 s).1]

/-- SAVE of an idle station with EN 0. -/
theorem ageCtl_save (h0 : testBit w 0 = false) (h1 : testBit w 1 = false) (h2 : testBit w 2 = true) (hidle : (ageOf k s).action = 0) :
    ageCtl k b w s = ageStart k 2 s := by
  unfold ageCtl
  simp [h0, h1, h2, hidle, (ageStart_begins k 2 s).1]

/-- CKPT_NOW of an idle station, whatever EN is. -/
theorem ageCtl_ckpt (h1 : testBit w 1 = false) (h2 : testBit w 2 = false) (h3 : testBit w 3 = true) (hidle : (ageOf k s).action = 0) :
    ∃ x, ageCtl k b w s = ageStart k 3 x := by
  unfold ageCtl
  cases hen : testBit w 0 && !b <;> simp [h1, h2, h3, hidle, hen]

end

theorem regAt_ageCtl (d l : Nat) (hl : l < 2) : ∃ r, regAt d (0x71 * 0x1000 + (0x500 + 0x40 * l)) = some r ∧ (privMask r == 0) = false := by
  interval_cases l <;> exact ⟨_, rfl, rfl⟩

/-- A write of AGE_CTL through BAR0 is stored; then its actions begin. -/
theorem pioWrite_ageCtl {a : Access} {k : Nat} {v : Word} {s : State} (hb : a.bar2 = false) :
    pioWrite (RegWrite.of a (stDie k) 0x71 (0x500 + 0x40 * stLoc k) v) s =
      ageCtl k (flag (R.PIO.AGE_CTL_EN (stDie k) (stLoc k)) s) v.toNat
        ((RegWrite.of a (stDie k) 0x71 (0x500 + 0x40 * stLoc k) v).store s) := by
  have hl := stLoc_lt k
  have hloc : (0x500 + 0x40 * stLoc k - 0x500) / 0x40 = stLoc k := by omega
  have hk : 2 * stDie k + stLoc k = k := by unfold stDie stLoc; omega
  unfold pioWrite
  dsimp only
  rw [if_neg (by rw [RegWrite.of_o]; omega), if_neg (by rw [RegWrite.of_o]; omega), if_pos (by rw [RegWrite.of_o]; omega),
    RegWrite.of_bar2, hb, if_neg Bool.false_ne_true, RegWrite.of_o, RegWrite.of_d, RegWrite.of_v, hloc, hk]

/-- What AGE_CTL finds once the write is stored: the action is still that of before. -/
theorem action_stored {a : Access} {k : Nat} {v : Word} {s : State} (hidle : (ageOf k s).action = 0) :
    (ageOf k ((RegWrite.of a (stDie k) 0x71 (0x500 + 0x40 * stLoc k) v).store (landWrite a.rq (stDie k) s))).action = 0 :=
  (congrArg AgeRun.action (Touches.ageOf_eq (m := 4) (RegWrite.store_touches rfl (.refl _ _)) rfl k)).trans hidle

section
variable {a : Access} {k : Nat} {v : Word} {s : State} (h : Reaches a (stDie k) 0x71 (0x500 + 0x40 * stLoc k) s)
  (hidle : (ageOf k s).action = 0)
include h

theorem bar0_of_reaches_ageCtl : a.bar2 = false := by
  obtain ⟨r, hr, hpriv⟩ := regAt_ageCtl (stDie k) (stLoc k) (stLoc_lt k)
  exact h.bar0 hr hpriv

include hidle

theorem ageRestore_begins (h0 : testBit v.toNat 0 = false) : ∃ t, exec (.ageRestore a k v) s = .next t ∧ (ageOf k t).action = 1 ∧
    flag (R.PIO.AGE_CTL_BUSY (stDie k) (stLoc k)) t = true := by
  refine ⟨_, exec_ageRestore h, ?_⟩
  rw [pioWrite_ageCtl (bar0_of_reaches_ageCtl h),
    ageCtl_restore (testBit_or_same h0 (by decide)) (testBit_or_of_set (by decide)) (action_stored hidle)]
  exact ageStart_begins ..

theorem ageSave_begins (h0 : testBit v.toNat 0 = false) (h1 : testBit v.toNat 1 = false) :
    ∃ t, exec (.ageSave a k v) s = .next t ∧ (ageOf k t).action = 2 ∧ flag (R.PIO.AGE_CTL_BUSY (stDie k) (stLoc k)) t = true := by
  refine ⟨_, exec_ageSave h, ?_⟩
  rw [pioWrite_ageCtl (bar0_of_reaches_ageCtl h), ageCtl_save (testBit_or_same h0 (by decide)) (testBit_or_same h1 (by decide))
    (testBit_or_of_set (by decide)) (action_stored hidle)]
  exact ageStart_begins ..

theorem ckptNow_begins (h1 : testBit v.toNat 1 = false) (h2 : testBit v.toNat 2 = false) :
    ∃ t, exec (.ckptNow a k v) s = .next t ∧ (ageOf k t).action = 3 ∧ flag (R.PIO.AGE_CTL_BUSY (stDie k) (stLoc k)) t = true := by
  refine ⟨_, exec_ckptNow h, ?_⟩
  obtain ⟨x, hx⟩ := ageCtl_ckpt (b := flag (R.PIO.AGE_CTL_EN (stDie k) (stLoc k)) (landWrite a.rq (stDie k) s))
    (testBit_or_same h1 (by decide)) (testBit_or_same h2 (by decide)) (testBit_or_of_set (c := 8) (by decide)) (action_stored (v := v ||| 8) hidle)
  rw [pioWrite_ageCtl (bar0_of_reaches_ageCtl h), hx]
  exact ageStart_begins ..

end

theorem ageActionEnd_ends {k : Nat} {s : State} (hup : pioOn (stDie k) s = true) (hact : (ageOf k s).action ≠ 0) :
    ∃ t, exec (.ageActionEnd k) s = .next t ∧ (ageOf k t).action = 0 ∧ flag (R.PIO.AGE_CTL_BUSY (stDie k) (stLoc k)) t = false := by
  have hrun : ¬ (!pioOn (stDie k) s || (ageOf k s).action == 0) = true := by simp [hup, hact]
  exact ⟨_, Eq.trans (b := execAgeActionEnd k s) rfl (if_neg hrun), ageIdle_ends ..⟩

theorem wearCheckpoint_begins {k : Nat} {s : State} (hup : pioOn (stDie k) s = true)
    (hen : flag (R.PIO.AGE_CTL_EN (stDie k) (stLoc k)) s = true) (hper : rd (R.PIO.AGE_CFG_CKPT (stDie k) (stLoc k)) s ≠ 0)
    (hdue : (ageOf k s).ckptAt + 10000000000 * rd (R.PIO.AGE_CFG_CKPT (stDie k) (stLoc k)) s ≤ s.now) (hidle : (ageOf k s).action = 0)
    (hdefer : backgroundDeferred (stDie k) s = false) :
    ∃ t, exec (.wearCheckpoint k) s = .next t ∧ (ageOf k t).action = 3 ∧ (ageOf k t).ckptAt = s.now ∧
      flag (R.PIO.AGE_CTL_BUSY (stDie k) (stLoc k)) t = true := by
  refine ⟨ageStart k 3 (setAge k { ageOf k s with ckptAt := s.now } s), ?_, ?_, ?_, ageStart_busy ..⟩
  · refine Eq.trans (b := execWearCheckpoint k s) rfl (if_pos ?_)
    simp [hup, hen, hper, hdue, hidle, hdefer]
  · rw [ageOf_ageStart]
  · rw [ageOf_ageStart, ageOf_setAge]

/-! ### The refresh of an aged set (R319) -/

theorem trimBytes_read {x n : Nat} {b : List Byte} {s : State} (h : agentRead agOther x n s = (.ok b, s)) : trimBytes x n s = (b, s) := by
  unfold trimBytes
  simp only [h]

/-- Trims that can be read are aged without a trace in the state. -/
theorem agedTrims_read {k n : Nat} {b w : List Byte} {s : State} (hb : agentRead agOther (ageAddr k s) (2 * n) s = (.ok b, s))
    (hw : agentRead agOther (wearAddr k s) (4 * n) s = (.ok w, s)) : (agedTrims k n s).2 = s := by
  unfold agedTrims
  dsimp only
  rw [trimBytes_read hb, trimBytes_read hw]

/-- A set that goes out takes the next generation. -/
theorem rd_trimSend (k kind : Nat) (trims : List Nat) (s : State) : rd (R.SHL.GEN_STAT_TRIM_SENT (stDie k) (stLoc k))
    (trimSend k kind false trims s) = (rd (R.SHL.GEN_STAT_TRIM_SENT (stDie k) (stLoc k)) s + 1) % 256 := by
  have hgen (g : Nat) (t : State) : rd (R.SHL.GEN_STAT_TRIM_SENT (stDie k) (stLoc k))
      (wr (R.SHL.GEN_STAT_TRIM_SENT (stDie k) (stLoc k)) (g % 256) t) = g % 256 :=
    (rd_wr_same _ t (show 0 + 8 ≤ 32 by decide)).trans (Nat.mod_mod _ _)
  unfold trimSend
  dsimp only
  rw [if_neg Bool.false_ne_true]
  split
  · exact (rd_of_word (word_headSend (by decide) (by decide) _ _)).trans (hgen _ _)
  · exact hgen _ _

theorem ageRefresh_sends {k : Nat} {b w : List Byte} {s : State} (hup : pioOn (stDie k) s = true) (hon : stationOn k s = true)
    (hopen : sessionOpen k s = true) (hen : flag (R.PIO.AGE_CTL_EN (stDie k) (stLoc k)) s = true)
    (hdue : (ageOf k s).sentAt + 1000000000 * rd (R.PIO.AGE_CFG_REFRESH (stDie k) (stLoc k)) s ≤ s.now)
    (hwait : (headOf k s).waiting.any (fun p => p.type == 0x23) = false)
    (hb : agentRead agOther (ageAddr k s) (2 * lineLen k s) s = (.ok b, s))
    (hw : agentRead agOther (wearAddr k s) (4 * lineLen k s) s = (.ok w, s)) :
    ∃ t, exec (.ageRefresh k) s = .next t ∧ (ageOf k t).sentAt = s.now ∧
      rd (R.SHL.GEN_STAT_TRIM_SENT (stDie k) (stLoc k)) t = (rd (R.SHL.GEN_STAT_TRIM_SENT (stDie k) (stLoc k)) s + 1) % 256 := by
  refine ⟨trimSend k 0 false (agedTrims k (lineLen k s) s).1 (setAge k { ageOf k s with sentAt := s.now } s), ?_, ?_, ?_⟩
  · refine Eq.trans (b := execAgeRefresh k s) rfl ?_
    unfold execAgeRefresh
    dsimp only
    rw [agedTrims_read hb hw, if_pos (by simp only [hup, hon, hopen, hen, hdue, hwait, decide_true, Bool.and_true, Bool.not_false])]
  · refine congrArg AgeRun.sentAt ((Touches.ageOf_eq (m := 0x18000000000000001004) (trimSend_touches rfl (.refl _ _)) rfl k).trans
      (ageOf_setAge ..))
  · exact rd_trimSend ..

/-- Settles O30: a load ends in CAL_STAT whatever its result, and each action of ageing begins and ends with BUSY. -/
theorem calibrationCommandsAct : Obligations.CalibrationCommandsAct := by
  unfold Obligations.CalibrationCommandsAct
  refine ⟨?_, ?_, fun d c s h => calLoadEnd_ends h, fun a k v s _ h h0 hidle => ageRestore_begins h hidle h0,
    fun a k v s _ h h0 h1 hidle => ageSave_begins h hidle h0 h1, fun a k v s _ h h1 h2 hidle => ckptNow_begins h hidle h1 h2,
    fun k s hup hact => ageActionEnd_ends hup hact,
    fun k s hup hen hper hdue hidle hdefer => wearCheckpoint_begins hup hen hper hdue hidle hdefer,
    fun k b w s hup hon hopen hen hdue hwait hb hw => ageRefresh_sends hup hon hopen hen hdue hwait hb hw⟩
  · rintro a d v s S h rfl hbusy hread r hr hne
    exact ⟨_, exec_calLoad_go h, calGo_refuses hbusy hread hr hne⟩
  · rintro a d v s S h rfl hbusy hread hcheck hfree
    exact ⟨_, exec_calLoad_go h, calGo_loads hbusy hread hcheck hfree⟩

end Sys2Proof.Machine
end
